-- ==== Sys2Proof/Word.lean ====
section
/-! DEFINITION. Words and bytes: the widths the manual's registers and memories use (00, R2, R3). -/
namespace Sys2Proof

/-- A 32-bit register or memory word. -/
abbrev Word := BitVec 32

/-- One byte of a memory. -/
abbrev Byte := BitVec 8

end Sys2Proof
end

