-- ==== Sys2Proof/Machine/Bits.lean ====
section
/-! DEFINITION. Bit fields, two's complement, saturation, rounding and byte order (00, R2, R3), over plain
numbers: a field of width `w` is a natural number below `2 ^ w`, a signed quantity an integer. -/
namespace Sys2Proof.Machine

/-- Bits [lo + w − 1 : lo] of `v`. -/
def bitsAt (v lo w : Nat) : Nat := v / 2 ^ lo % 2 ^ w

/-- `v` with the `w` bits from `lo` replaced by `x`. -/
def setBits (v lo w x : Nat) : Nat :=
  v / 2 ^ (lo + w) * 2 ^ (lo + w) + (x % 2 ^ w) * 2 ^ lo + v % 2 ^ lo

/-- A truth value as a bit. -/
def b2n (b : Bool) : Nat := if b then 1 else 0

/-- The low `w` bits of `v` read in two's complement (R2). -/
def sgn (w v : Nat) : Int :=
  let x := v % 2 ^ w
  if 2 * x < 2 ^ w then (x : Int) else (x : Int) - 2 ^ w

/-- An integer as the `w`-bit two's complement field that holds it modulo `2 ^ w`. -/
def unsgn (w : Nat) (i : Int) : Nat := (i % (2 ^ w : Int)).toNat

/-- `x` held between `lo` and `hi`. -/
def clampI (lo hi x : Int) : Int := if x < lo then lo else if hi < x then hi else x

/-- Saturation to a signed field of `w` bits. -/
def satS (w : Nat) (x : Int) : Int := clampI (-(2 ^ (w - 1) : Int)) (2 ^ (w - 1) - 1) x

/-- Saturation to an unsigned field of `w` bits. -/
def satU (w : Nat) (x : Int) : Nat := (clampI 0 (2 ^ w - 1) x).toNat

/-- Arithmetic shift right: division by a power of two, rounding towards −∞. -/
def asr (x : Int) (n : Nat) : Int := x / (2 ^ n : Int)

/-- Division by a power of two rounding to nearest, halves towards +∞. -/
def rnd (x : Int) (n : Nat) : Int := if n = 0 then x else (x + 2 ^ (n - 1)) / (2 ^ n : Int)

/-- The greatest integer not above `x`. -/
def rfloor (x : Rat) : Int := x.num / (x.den : Int)

/-- Rounding to nearest, ties to even. -/
def rnEven (x : Rat) : Int :=
  let f := rfloor x
  let r := 2 * (x.num - f * x.den)
  if r < x.den then f else if (x.den : Int) < r then f + 1 else if f % 2 = 0 then f else f + 1

/-- Rounding to nearest, ties away from zero. -/
def rnAway (x : Rat) : Int :=
  if x.num < 0 then -((2 * -x.num + x.den) / (2 * (x.den : Int))) else (2 * x.num + x.den) / (2 * (x.den : Int))

/-- The magnitude of a rational. -/
def rabs (x : Rat) : Rat := if x < 0 then -x else x

/-- The sign of a rational. -/
def rsgn (x : Rat) : Rat := if x < 0 then -1 else if x = 0 then 0 else 1

/-- 2^n for a whole n of either sign. -/
def rpow2 (n : Int) : Rat := if n < 0 then 1 / ((2 ^ n.natAbs : Nat) : Rat) else ((2 ^ n.natAbs : Nat) : Rat)

/-- Addition modulo 2^32. -/
def add32 (a b : Nat) : Nat := (a + b) % 2 ^ 32

/-- Subtraction modulo 2^32. -/
def sub32 (a b : Nat) : Nat := (a + (2 ^ 32 - b % 2 ^ 32)) % 2 ^ 32

/-- R34: frame `a` is later than frame `b`. -/
def later (a b : Nat) : Bool :=
  let d := sub32 a b
  decide (1 ≤ d) && decide (d ≤ 0x7FFFFFFF)

/-- R34: frame `a` is `b` or later. -/
def notBefore (a b : Nat) : Bool := decide (a % 2 ^ 32 = b % 2 ^ 32) || later a b

/-- The difference of two frame numbers as a signed number (R34). -/
def frameDiff (a b : Nat) : Int := sgn 32 (sub32 a b)

/-- Bytes of a number, least significant first (R3). -/
def leBytes : Nat → Nat → List Byte
  | 0, _ => []
  | n + 1, v => BitVec.ofNat 8 v :: leBytes n (v / 256)

/-- Bytes of a number, most significant first (R3). -/
def beBytes (n v : Nat) : List Byte := (leBytes n v).reverse

/-- The number whose bytes, least significant first, are given (R3). -/
def leNat : List Byte → Nat
  | [] => 0
  | b :: t => b.toNat + 256 * leNat t

/-- The number whose bytes, most significant first, are given (R3). -/
def beNat (l : List Byte) : Nat := leNat l.reverse

/-- `n` bytes from offset `o`, with zero past the end. -/
def slice (l : List Byte) (o n : Nat) : List Byte :=
  let d := (l.drop o).take n
  d ++ List.replicate (n - d.length) 0

/-- Little-endian field of a stored object (R3). -/
def leAt (l : List Byte) (o n : Nat) : Nat := leNat (slice l o n)

/-- Big-endian field of a message (R3). -/
def beAt (l : List Byte) (o n : Nat) : Nat := beNat (slice l o n)

/-- The list with entry `i` replaced; unchanged past the end. -/
def setAt {α : Type} : List α → Nat → α → List α
  | [], _, _ => []
  | _ :: t, 0, v => v :: t
  | x :: t, i + 1, v => x :: setAt t i v

/-- The sum of a list of integers. -/
def sumI (l : List Int) : Int := l.foldl (· + ·) 0

/-- The least element of a non-empty list, or `d`. -/
def minOr (d : Nat) : List Nat → Nat
  | [] => d
  | x :: t => t.foldl Nat.min x

end Sys2Proof.Machine
end

