-- ==== Sys2Proof/Machine/Tbl.lean ====
section
/-! DEFINITION. Sparse tables: a list of key and value pairs, keys strictly rising, with no entry equal to
what an unlisted key reads as. Memories, register files and per-slot state are held so. -/
namespace Sys2Proof.Machine

/-- A sparse table from numbers to `α`. -/
abbrev Tbl (α : Type) : Type := List (Nat × α)

variable {α : Type}

/-- The value at a key; `d` where the key is not listed. -/
def tget (d : α) (t : Tbl α) (k : Nat) : α :=
  match t with
  | [] => d
  | e :: r => if e.1 = k then e.2 else tget d r k

/-- The table without the entries of a key. -/
def tdel (t : Tbl α) (k : Nat) : Tbl α :=
  match t with
  | [] => []
  | e :: r => if e.1 = k then tdel r k else e :: tdel r k

/-- The table with an entry put in its place, before the first greater key. -/
def tins (t : Tbl α) (k : Nat) (v : α) : Tbl α :=
  match t with
  | [] => [(k, v)]
  | e :: r => if k < e.1 then (k, v) :: e :: r else e :: tins r k v

/-- The table with `v` at `k`; the default removes the entry, which keeps the canonical form. -/
def tset [DecidableEq α] (d : α) (t : Tbl α) (k : Nat) (v : α) : Tbl α :=
  if v = d then tdel t k else tins (tdel t k) k v

/-- The value at a key changed by a function. -/
def tmod [DecidableEq α] (d : α) (t : Tbl α) (k : Nat) (f : α → α) : Tbl α :=
  tset d t k (f (tget d t k))

/-- The canonical form: keys strictly rising, no entry equal to the default. -/
def twf [DecidableEq α] (d : α) (t : Tbl α) : Bool :=
  match t with
  | [] => true
  | e :: r => decide (e.2 ≠ d) && r.all (fun x => decide (e.1 < x.1)) && twf d r

/-- The keys a table lists. -/
def tkeys (t : Tbl α) : List Nat := t.map (·.1)

/-- Bytes written from an address upwards. -/
def tsetBytes (t : Tbl Byte) (d : Byte) (a : Nat) (bs : List Byte) : Tbl Byte :=
  match bs with
  | [] => t
  | b :: r => tsetBytes (tset d t a b) d (a + 1) r

/-- `n` bytes read from an address upwards. -/
def tgetBytes (t : Tbl Byte) (d : Byte) (a : Nat) : Nat → List Byte
  | 0 => []
  | n + 1 => tget d t a :: tgetBytes t d (a + 1) n

end Sys2Proof.Machine
end

