-- ==== Sys2Proof/Machine/FabState.lean ====
section
/-! DEFINITION. The state of the fabric (01 to 05): slots, bundles, coefficients, transitions and quays. -/
namespace Sys2Proof.Machine

/-- A segment of the library (R95): the samples are signed with 13 fraction bits. -/
structure Segment where
  mark : Bool
  samples : List Int
  deriving DecidableEq, Repr

/-- A segment position that holds nothing. -/
def Segment.none : Segment := ⟨false, []⟩

/-- A crosstalk term (R118). -/
structure XTerm where
  chan : Nat
  arm : Bool
  en : Bool
  coef : Int
  deriving DecidableEq, Repr

/-- The coefficients of a slot (R117, R118, R123, R128). -/
structure SlotCoef where
  lin : List Int
  xt : List XTerm
  gain : Int
  gsh : Nat
  theta : Nat
  deriving DecidableEq, Repr

/-- The coefficients of a slot that nothing has loaded: the window reads zero (R152). -/
def SlotCoef.init : SlotCoef := ⟨List.replicate 33 0, List.replicate 8 ⟨0, false, false, 0⟩, 0, 0, 0⟩

/-- The coefficients of a bundle and its slots (Coefficients change only on an open loop). -/
structure BunCoef where
  k : Nat
  initClose : Bool
  xskip : Bool
  kp : Nat
  ki : Nat
  iclamp : Nat
  fold : Nat
  settol : Nat
  setcnt : Nat
  settmo : Nat
  slots : List SlotCoef
  deriving DecidableEq, Repr

/-- Coefficients that nothing has loaded: every field of the window reads zero (R152). The image gives every bundle with a
populated slot a k of 4 to 10 (R23, R428). -/
def BunCoef.init : BunCoef := ⟨0, false, false, 0, 0, 0, 0, 0, 0, 0, List.replicate 8 SlotCoef.init⟩

/-- Coefficients committed for a bundle and not yet in force (R143), and whether the bundle was CLOSED when the COMMIT
reached it. -/
structure CoefChange where
  coef : BunCoef
  wasClosed : Bool
  deriving DecidableEq, Repr

/-- A pilot or generator setting (R75, R77, R78). -/
structure Pilot where
  inc : Nat
  phoff : Nat
  mode : Nat
  amp : Nat
  scale : Nat
  deriving DecidableEq, Repr

/-- The reset setting: OFF (03, PIL.SCFG0 to SCFG2). -/
def Pilot.init : Pilot := ⟨0, 0, 4, 0, 0⟩

/-- The bundle states (R136). -/
inductive BState where
  | opened | closed | parked | hold
  deriving DecidableEq, Repr

/-- Why a bundle is parked (05, MOR.BSTAT.CAUSE). -/
inductive BCause where
  | none | lane | engine | swap | subst
  deriving DecidableEq, Repr

/-- A pending OPEN or CLOSE command (05, MOR.BSTAT.CMD; R138). -/
inductive BCmd where
  | none | opening | closing
  deriving DecidableEq, Repr

/-- How a transition ended (R94, R105, R107, R108, R166, R167). -/
inductive TrEnd where
  | running | done | late | cut | cancelled | notRun
  deriving DecidableEq, Repr

/-- A transition admitted on a slot (R91 to R110): the execution record and entry it belongs to, its start frame, its
new setpoint, its segment as admitted (R100), the library key of that segment (none for a STEP, R158) and the address of the
object it streams from, whether it is an ABORT entry (R107); the sub-steps and the step in codes once fixed in engine frame
n0 − 2; the chunks that have arrived and those still wanted; the position of the last frame composed; whether its last
sample has been used; its last frame once that is known, and how it ended; the transitions that it ended or cancelled under
R107; and whether its end has reached its record (R173). -/
structure Tr where
  recIdx : Nat
  entry : Nat
  n0 : Nat
  phi : Nat
  ref : Int
  seg : Segment
  key : Option Nat
  base : Nat
  abort : Bool
  fixed : Bool
  m : Nat
  dP : Rat
  got : List Nat
  want : List Nat
  u : Rat
  lastUsed : Bool
  ended : Option Nat
  fin : TrEnd
  hits : Nat
  told : Bool
  deriving DecidableEq, Repr

/-- What an engine handed over for one heater frame of a slot, or a quay used for it: the rounded value in codes (R59),
the arm (R60), whether R59 clamped it, the crosstalk and pilot terms in it, FF + LP of it (R401), and whether a transition ran. -/
structure Drv where
  v : Int
  armB : Bool
  sat : Bool
  x : Rat
  pl : Rat
  ffLp : Rat
  moving : Bool
  deriving DecidableEq, Repr

/-- No drive, arm A. -/
def Drv.zero : Drv := ⟨0, false, false, 0, 0, 0, false⟩

/-- The loop state of a slot (R120 to R135, R145, R146): H in 2^−8 code, mantissas under the bundle's exponents (R134),
D_I and D_Q in 2^−8 monitor code, the baseline in 2^−4 monitor code, and settle detection. `noBaseGap`: the baseline was
lost to an interval with NV = 0; `noBase`: SSTAT.NOBASE as an engine has written it (R152). `uns`: a transition has started
since the slot was last settled; `moved`: one has started at all, so that update frames are evaluated (R145). -/
structure Loop where
  h : Int
  iM : Int
  lpM : Int
  eM : Int
  iaccM : Int
  qaccM : Int
  demI : Int
  demQ : Int
  base : Nat
  hasBase : Bool
  noBaseGap : Bool
  noBase : Bool
  sum : Nat
  nv : Nat
  gaps : Nat
  uns : Bool
  moved : Bool
  settled : Bool
  setfail : Bool
  tmoDone : Bool
  clamp : Bool
  dark : Bool
  setrun : Nat
  setage : Nat
  darkCnt : Nat
  deriving DecidableEq, Repr

/-- A loop cleared, as self-test leaves every engine window (R152). -/
def Loop.init : Loop where
  h := 0
  iM := 0
  lpM := 0
  eM := 0
  iaccM := 0
  qaccM := 0
  demI := 0
  demQ := 0
  base := 0
  hasBase := false
  noBaseGap := false
  noBase := false
  sum := 0
  nv := 0
  gaps := 0
  uns := false
  moved := false
  settled := false
  setfail := false
  tmoDone := false
  clamp := false
  dark := false
  setrun := 0
  setage := 0
  darkCnt := 0

/-- A slot (R14, R21, R58 to R64, R75 to R80, R91, R118). `phi` and `ref` are the setpoint in force before the
transitions in `trs`. Histories are bit rows, the newest heater frame in bit 0: frames with a transition, and frames
limited towards arm A and towards arm B (R133). `del` was handed over in the last engine frame, `used` by the quay for
the last modulated heater frame; `e1` and `e2` in 2^−22 (R64), and `eRes` what their rounding has left over (R65; log 32);
`word` is the last slot drive word (R73); `late` marks
a repetition in the coming frame (R49). -/
structure Slot where
  pop : Bool
  mon : Option Nat
  phi : Nat
  ref : Int
  trs : List Tr
  trHist : Nat
  pil : Pilot
  pilWas : Pilot
  pilStg : Pilot
  lfsr : Nat
  noiseOn : Bool
  lp : Loop
  limP : Nat
  limN : Nat
  del : Drv
  used : Drv
  e1 : Int
  e2 : Int
  eRes : Rat
  word : Nat
  late : Bool
  serving : Bool
  owner : Nat
  ownerNext : Option Nat
  failed : Bool
  resv : Option Nat
  deriving DecidableEq, Repr

/-- A slot at reset (log 4): unpopulated, pilot OFF, owner FREE (06, MAN.SLOTCFG). -/
def Slot.init : Slot where
  pop := false
  mon := none
  phi := 0
  ref := 0
  trs := []
  trHist := 0
  pil := Pilot.init
  pilWas := Pilot.init
  pilStg := Pilot.init
  lfsr := 0
  noiseOn := false
  lp := Loop.init
  limP := 0
  limN := 0
  del := Drv.zero
  used := Drv.zero
  e1 := 0
  e2 := 0
  eRes := 0
  word := 0
  late := false
  serving := false
  owner := 255
  ownerNext := none
  failed := false
  resv := none

/-- A bundle's state (R134, R136 to R143, R366): its state, return state and cause; the pending command; the frame in
which its cause cleared (R140), and those from which a closing at start-up (R141), after a coefficient change (R143) or after a takeover (R374)
counts; the stage exponents; consecutive late frames (R52); the shadow tally and its mark (R366 to R368); and the
calibration unit that holds it (R394). -/
structure Bundle where
  st : BState
  ret : BState
  cause : BCause
  cmd : BCmd
  clearF : Option Nat
  initF : Option Nat
  recloseF : Option Nat
  takeF : Option Nat
  e0 : Nat
  e1 : Nat
  e2 : Nat
  e3 : Nat
  lateRun : Nat
  synced : Bool
  tally : Nat
  tallyGap : Nat
  calHold : Option Nat
  deriving DecidableEq, Repr

/-- A bundle at reset: OPEN (R136). -/
def Bundle.init : Bundle where
  st := .opened
  ret := .opened
  cause := .none
  cmd := .none
  clearF := none
  initF := none
  recloseF := none
  takeF := none
  e0 := 0
  e1 := 0
  e2 := 0
  e3 := 0
  lateRun := 0
  synced := false
  tally := 0
  tallyGap := 0
  calHold := none

/-- A timing set (R111). -/
structure TSet where
  strobe : Nat
  samp : Nat
  piloff : Nat
  deriving DecidableEq, Repr

/-- A value that takes effect at a heater frame (R89, R90). -/
structure AtFrame where
  frame : Nat
  val : Nat
  deriving DecidableEq, Repr

/-- The monitor samples of a heater frame as received from a tile (R120, R240): code and valid flag. -/
structure Intake where
  frame : Nat
  samples : List (Nat × Bool)
  deriving DecidableEq, Repr

/-- The generation the image declares for a quay (R19). -/
inductive Gen where
  | absent | el1 | el2
  deriving DecidableEq, Repr

/-- A change of range or timing set in progress on a quay (R85 to R87, R113): announced under a tag, acknowledged. -/
structure Change where
  frame : Nat
  val : Nat
  acked : Bool
  deriving DecidableEq, Repr

/-- The timing sets and assignments that a change replaced, and the heater frame from which it applies (R113). -/
structure TsWas where
  frame : Nat
  tsets : List TSet
  tasg : Tbl Nat
  deriving DecidableEq, Repr

/-- A quay's drive side (03, 04): the declared generation (R19); the drive mode, half level and range gains in use and
those that take effect at a heater frame; the heater frame of soft-start frame m = 0 while one runs; the heater
frames with which the error states begin again (R64); the range change in
progress; the timing sets and assignments in force, the change in progress and what the last change replaced; the monitor
samples received. -/
structure Quay where
  gen : Gen
  modeNext : Option AtFrame
  half : Nat
  halfNext : Option AtFrame
  gain : List Nat
  gainNext : List (Option AtFrame)
  ramp : Option Nat
  eReset : List Nat
  rng : Option Change
  ts : Option Change
  tsets : List TSet
  tasg : Tbl Nat
  tsWas : Option TsWas
  strobeWas : List (Nat × Nat)
  intake : Option Intake
  deriving DecidableEq, Repr

/-- A quay's drive side at reset (03 QY registers). -/
def Quay.init : Quay where
  gen := .absent
  modeNext := none
  half := 0x8000
  halfNext := none
  gain := [0x8000, 0x4000, 0x2000, 0x1000]
  gainNext := [none, none, none, none]
  ramp := none
  eReset := []
  rng := none
  ts := none
  tsets := List.replicate 8 ⟨0, 0, 0⟩
  tasg := []
  tsWas := none
  strobeWas := []
  intake := none

/-- A substitution in progress (R150, R151). -/
structure Subst where
  logical : Nat
  phys : Nat
  swap : Bool
  frame : Nat
  deriving DecidableEq, Repr

/-- What the engine's work on a bundle counts, once the bundle has been handed over (R49, R104). An underrun names its
slot. -/
inductive EngEv where
  | skipGap | clamp | fold | bfsat | drvsat
  | underrun (slot : Nat)
  deriving DecidableEq, Repr

/-- The running engine frame as it stood before its work (R49): the slots and bundles, and what the work on each bundle
counts. -/
structure EngSnap where
  frame : Nat
  slots : Tbl Slot
  bundles : Tbl Bundle
  evs : List (Nat × EngEv)
  deriving DecidableEq, Repr

/-- The fabric (01 to 05): slots, bundles, coefficients and pending changes of them; the segment library, and samples
kept for admitted transitions are in those transitions (R100); what the windows of engines that serve nothing still
hold (R152); the pending pilot apply, and the heater frame from which `pil` rules and not `pilWas`; the chunks still to be fetched, as library key and chunk (R103), and the 64-bit words of
table memory that hold a correctable and an uncorrectable error, as addresses divided by 8 (R469); the substitution in progress; frames under R37 as a bit row, the running frame in
bit 0 (R122); window beats served this frame, as engine, CORE cycle and beats (R47); engines that stopped in this frame
and at which cycle (R148); the snapshot for late bundles; and the small class (R18). -/
structure Fabric where
  slots : Tbl Slot
  bundles : Tbl Bundle
  coefs : Tbl BunCoef
  pendCoefs : Tbl (Option CoefChange)
  segs : Tbl Segment
  spareWin : Tbl (Tbl Nat)
  pilApply : Option Nat
  pilFrom : Option Nat
  fetchQ : List (Nat × Nat)
  weakWords : List Nat
  badWords : List Nat
  subst : Option Subst
  stepHist : Nat
  stalls : List (Nat × Nat × Nat)
  stops : List (Nat × Nat)
  snap : Option EngSnap
  small : Bool
  deriving DecidableEq, Repr

/-- The fabric at reset. -/
def Fabric.init : Fabric where
  slots := []
  bundles := []
  coefs := []
  pendCoefs := []
  segs := []
  spareWin := []
  pilApply := none
  pilFrom := none
  fetchQ := []
  weakWords := []
  badWords := []
  subst := none
  stepHist := 0
  stalls := []
  stops := []
  snap := none
  small := true

end Sys2Proof.Machine
end

