-- ==== Sys2Proof/Machine/ExecState.lean ====
section
/-! DEFINITION. The state of the manifest executor, the scheduler and the tide tables (06, 07, 08). -/
namespace Sys2Proof.Machine

/-- A manifest's class (R159). -/
inductive ManClass where
  | normal | abort | restore
  deriving DecidableEq, Repr

/-- An entry of a manifest (R154). -/
structure ManEntry where
  slot : Nat
  phi : Nat
  ref : Int
  seg : Nat
  step : Bool
  spare : Bool
  deriving DecidableEq, Repr

/-- A manifest object as the directory holds it (R153 to R155), with its table-memory address. -/
structure Manifest where
  number : Nat
  cls : ManClass
  release : Bool
  circuit : Nat
  altNext : Nat
  net : List Int
  entries : List ManEntry
  prof : List (List Int)
  addr : Nat
  deriving DecidableEq, Repr

/-- NENT of a manifest. -/
def Manifest.nent (m : Manifest) : Nat := m.entries.length

/-- PROFLEN of a manifest. -/
def Manifest.profLen (m : Manifest) : Nat := (m.prof.getD 0 []).length

/-- The state of an entry in the completion bitmap (R173). -/
inductive EntState where
  | notRun | cut | done | settled
  deriving DecidableEq, Repr

/-- An entry of an execution record (R166, R167, R173, R174): its slot and bitmap state, whether that is decided and
whether the entry started, the cause if it did not end DONE (R172), and whether its settling is still tracked. -/
structure EntRun where
  slot : Nat
  st : EntState
  ended : Bool
  started : Bool
  cause : Nat
  tracked : Bool
  deriving DecidableEq, Repr

/-- The state of an execution record (R172); `free` is a record never used. -/
inductive RecState where
  | free | queued | running | done | partly | void
  deriving DecidableEq, Repr

/-- An execution record (R171), with the manifest requested, its circuit, the band latched (R101), the frame before
which it is not eligible after a deferral (R192), and whether it was admitted before TB3 stepped, so that its START is in the
old numbering (R337). -/
structure ExecRec where
  useCnt : Nat
  head : Nat
  manifest : Nat
  cls : ManClass
  st : RecState
  cause : Nat
  source : Nat
  reqFrame : Nat
  start : Nat
  fin : Nat
  hasBmp : Bool
  entries : List EntRun
  admitted : Bool
  deferred : Bool
  trunc : Bool
  lateEnd : Bool
  holdSkip : Bool
  failSkip : Bool
  outSkip : Bool
  setFail : Bool
  altIdx : Nat
  tkovr : Bool
  circuit : Nat
  release : Bool
  band : Nat
  waitFrom : Option Nat
  old : Bool
  pinned : Option Manifest
  deriving DecidableEq, Repr

/-- A record that has never been used (log 4). -/
def ExecRec.init : ExecRec where
  useCnt := 0
  head := 0
  manifest := 0
  cls := .normal
  st := .free
  cause := 0
  source := 0
  reqFrame := 0
  start := 0
  fin := 0
  hasBmp := false
  entries := []
  admitted := false
  deferred := false
  trunc := false
  lateEnd := false
  holdSkip := false
  failSkip := false
  outSkip := false
  setFail := false
  altIdx := 0
  tkovr := false
  circuit := 0xFFFF
  release := false
  band := 0
  waitFrom := none
  old := false
  pinned := none

/-- A circuit (R163): 0 NORMAL, 1 RESTORED, 2 DOWN, and the alternative in use. -/
structure Circuit where
  st : Nat
  manifest : Nat
  deriving DecidableEq, Repr

/-- The manifest executor (06): the directory, the records and the allocation pointer, the circuits, and the last frame
in which MANIFEST_FINAL was raised (R177). -/
structure ExecSt where
  dir : Tbl (Option Manifest)
  recs : Tbl ExecRec
  ptr : Nat
  circuits : Tbl Circuit
  finalAt : Option Nat
  deriving DecidableEq, Repr

/-- The executor at reset: nothing loaded (log 4). -/
def ExecSt.init : ExecSt := ⟨[], [], 0, [], none⟩

/-- A request queue (R180, R183, R187): its records, oldest first, its balance in milliunits, its finish tag, the bucket
mode in force (R186), a flush that waits for the tick (R198), and why its head waited (SCH.QSTAT.WAIT). -/
structure ReqQueue where
  recs : List Nat
  bal : Int
  ft : Nat
  mode : Nat
  flush : Bool
  wait : Nat
  deriving DecidableEq, Repr

/-- An empty queue (log 4). -/
def ReqQueue.init : ReqQueue := ⟨[], 0, 0, 0, false, 0⟩

/-- A declared contribution of an admitted manifest to the power ledger (R194). -/
structure Declared where
  n0 : Nat
  prof : List Int
  net : Int
  deriving DecidableEq, Repr

/-- The scheduler (07): the queues, virtual time, the ledger's declared contributions that still change, and M[c]. -/
structure SchedSt where
  queues : Tbl ReqQueue
  vt : Nat
  decl : List Declared
  meas : Int
  deriving DecidableEq, Repr

/-- The scheduler at reset. -/
def SchedSt.init : SchedSt := ⟨[], 0, [], 0⟩

/-- The header of a tide table (R200). -/
structure TideHdr where
  nent : Nat
  oneshot : Bool
  autoarm : Bool
  base : Nat
  deriving DecidableEq, Repr

/-- A tide table (08): header, and the words of its entries, four an entry. -/
structure TideTab where
  hdr : TideHdr
  words : Tbl Nat
  deriving DecidableEq, Repr

/-- An empty table (R203; log 4). -/
def TideTab.init : TideTab := ⟨⟨0, false, false, 0⟩, []⟩

/-- The tide tables (R204 to R213): the two tables, which is the shadow, whether the other runs, the frame of its cycle in
force (one less than the coming frame's), the start frame of a pending arm, the frame of a pending stop and whether a STOP
asked for it, the start frame and the cycle number of the running table or of the last that ran (R205), whether AUTOARM has
acted on this device, and whether it is to arm TT0 in the coming frame (R213). -/
structure TideSt where
  tabs : List TideTab
  shadow : Nat
  run : Bool
  off : Int
  pstart : Option Nat
  stopAt : Option Nat
  stopCmd : Bool
  start : Nat
  cycles : Nat
  autoDone : Bool
  autoDue : Bool
  deriving DecidableEq, Repr

/-- The tide tables at reset: both empty, none running. -/
def TideSt.init : TideSt := ⟨[TideTab.init, TideTab.init], 0, false, 0, none, none, false, 0, 0, false, false⟩

end Sys2Proof.Machine
end

