-- ==== Sys2Proof/Machine/PenState.lean ====
section
/-! DEFINITION. The state of the Penvar engine and of the objects a host loads (11, 12). -/
namespace Sys2Proof.Machine

/-- The two ends of a datagram (R288, R489): the NET port, the link-layer address of the host, the IP version, the own address
and own UDP port used, and the host's address and UDP port. -/
structure Peer where
  net : Nat
  mac : Nat
  v6 : Bool
  own : Nat
  dport : Nat
  ip : Nat
  port : Nat
  deriving DecidableEq, Repr

/-- A UDP datagram handed to the Penvar engine (R285, R286): whence and where to, whether it is a fragment or carries options
or an extension header, and its payload. -/
structure Dgram where
  peer : Peer
  badIp : Bool
  payload : List Byte
  deriving DecidableEq, Repr

/-- A datagram the device sends (R288). -/
structure PenOut where
  peer : Peer
  payload : List Byte
  deriving DecidableEq, Repr

/-- The state of a reply-cache entry (R301, R473). -/
inductive CacheSt where
  | empty | busy | complete
  deriving DecidableEq, Repr

/-- A reply-cache entry (R301, R473): the reply is its header and body as first sent; `ord` orders completions. -/
structure CEntry where
  reqid : Nat
  rgen : Nat
  st : CacheSt
  v1 : Bool
  crc : Nat
  doneFrm : Nat
  ord : Nat
  reply : List Byte
  deriving DecidableEq, Repr

/-- An empty cache entry. -/
def CEntry.init : CEntry := ⟨0, 0, .empty, false, 0, 0, 0, []⟩

/-- A staging handle that holds something (R313, R314): what was recorded at FIRST, where its bytes lie in the load pool
and the 32-byte beats received. -/
structure Stage where
  obj : Nat
  band : Nat
  pos : Nat
  total : Nat
  base : Nat
  got : List Nat
  deriving DecidableEq, Repr

/-- A session (R294 to R300): 0 FREE, 1 HALF, 2 OPEN; version PV2; requester entry; generation; keys; H and the map of
accepted SEQ values (bit i stands for H − i); the H that the last takeover raised, at or below which nothing is accepted
(R309); the last outbound SEQ; reply path; consecutive tag failures; the frame in
which its timer last started; the reply cache; the staging handles; and the event mask (12, SUBSCRIBE). -/
structure Sess where
  st : Nat
  v2 : Bool
  rq : Nat
  sgen : Nat
  khd : List Byte
  kdh : List Byte
  h : Nat
  map : Nat
  floor : Nat
  tx : Nat
  peer : Peer
  fails : Nat
  timer : Nat
  cache : Tbl CEntry
  stages : Tbl (Option Stage)
  mask : Nat
  deriving DecidableEq, Repr

/-- A session index that has never been used (R296; log 4). -/
def Sess.init : Sess :=
  ⟨0, false, 0, 0, [], [], 0, 0, 0, 0, ⟨0, 0, false, 0, 0, 0, 0⟩, 0, 0, [], [], 0⟩

/-- An OPEN that waits for the firmware (R293): requester entry, version, host nonce, REQID and RGEN, whence, when. -/
structure OpenReq where
  rq : Nat
  v2 : Bool
  nh : List Byte
  reqid : Nat
  rgen : Nat
  peer : Peer
  frame : Nat
  deriving DecidableEq, Repr

/-- A reply that waits for the partner's acknowledgement (R308, R316): its session and cache entry, and the CSEQ of the
ACKED cell that must be acknowledged. -/
structure Flight where
  sidx : Nat
  sgen : Nat
  ent : Nat
  cseq : Nat
  deriving DecidableEq, Repr

/-- An object that passed its check (R317); a tide table with the number of the table that was the shadow then (R203). -/
inductive Obj where
  | manifest (m : Manifest)
  | segment (key : Nat) (g : Segment)
  | tide (k : Nat) (t : TideTab)
  | pilot (p : List (Nat × Pilot))
  | coef (b : Nat) (kset : Bool) (c : BunCoef)
  deriving DecidableEq, Repr

/-- A committed object that takes effect at a coming tick (R316), with its bytes as loaded. -/
structure Install where
  frame : Nat
  obj : Obj
  bytes : List Byte
  deriving DecidableEq, Repr

/-- A COMMIT that waits for the one before it (R315): session, cache entry, REQID, RGEN and handle. -/
structure Commit where
  sidx : Nat
  sgen : Nat
  ent : Nat
  reqid : Nat
  rgen : Nat
  stage : Nat
  deriving DecidableEq, Repr

/-- A change of slots or circuits that takes effect at the next tick (R325): OP, VALUE and the numbers. -/
structure SlotCtl where
  op : Nat
  val : Nat
  nums : List Nat
  deriving DecidableEq, Repr

/-- What an allocation of the object area holds (R547): a manifest, a segment, or samples kept under R100. -/
inductive ObjTag where
  | man (n : Nat)
  | seg (key : Nat)
  | kept (key : Nat) (g : Segment)
  deriving DecidableEq, Repr

/-- An allocation of the object area. -/
structure Alloc where
  tag : ObjTag
  addr : Nat
  len : Nat
  deriving DecidableEq, Repr

/-- What the firmware's events have been sent for (12, Events): the circuits, the final records with their use counts, and
the entries of the fault log. -/
structure EvSeen where
  circuits : Tbl Circuit
  finals : List (Nat × Nat)
  faults : Nat
  deriving DecidableEq, Repr

/-- The Penvar engine: sessions, the OPEN queue, OPEN messages passed and messages authenticated in the running
millisecond, the count that orders completions, replies awaiting the partner, COMMITs waiting, the one that takes
effect next, the frame from which the last is in force, and the objects committed since the image was loaded, slot changes waiting, sessions changed since the last tick, datagrams to be sent, what events have been sent
for, the load pool, the firmware's count of wraps of TB3, and the object area. -/
structure PenSt where
  sess : Tbl Sess
  openq : List OpenReq
  openMs : Nat
  authMs : Nat
  ord : Nat
  flight : List Flight
  commits : List Commit
  install : Option Install
  settle : Option Nat
  loaded : List Install
  slotCtl : List SlotCtl
  dirty : List Nat
  tx : List PenOut
  seen : EvSeen
  poolBase : Nat
  poolSize : Nat
  wraps : Nat
  allocs : List Alloc
  deriving DecidableEq, Repr

/-- The engine at reset. -/
def PenSt.init : PenSt where
  sess := []
  openq := []
  openMs := 0
  authMs := 0
  ord := 0
  flight := []
  commits := []
  install := none
  settle := none
  loaded := []
  slotCtl := []
  dirty := []
  tx := []
  seen := ⟨[], [], 0⟩
  poolBase := 0
  poolSize := 0
  wraps := 0
  allocs := []

end Sys2Proof.Machine
end

