-- ==== Sys2Proof/Machine/BootState.lean ====
section
/-! DEFINITION. The state of start-up, the OTP and the flash (16). -/
namespace Sys2Proof.Machine

/-- The steps of BOOT (R412). -/
inductive BootStep where
  | none | trims | plls | selftest | image | done | failed
  deriving DecidableEq, Repr

/-- A flash operation (R434, R408): 0 READ, 1 PROGRAM, 2 ERASE, or a store of the journal. -/
structure FlashOp where
  kind : Nat
  addr : Nat
  mem : Nat
  len : Nat
  store : Bool
  deriving DecidableEq, Repr

/-- A programming operation of the OTP (R433): word and bits. -/
structure OtpOp where
  word : Nat
  bits : Nat
  deriving DecidableEq, Repr

/-- The outcomes of the self-test of BOOT (R413): whether table memory, the RAMs of the sequencers, the crypto engines and the
entropy source passed; the engines and the quays that failed, a bit each. -/
structure SelfTest where
  tableOk : Bool
  ramsOk : Bool
  cryptoOk : Bool
  entropyOk : Bool
  engines : BitVec 50
  quays : BitVec 32
  deriving DecidableEq, Repr

/-- Start-up: whether each supply is good (R524: VDD, VDDM, VDDAON, VDDL, VDDH, VDDIO), whether the last window of the reference monitor
counted outside its range (R55), RESET_N, the PLLs in lock, the step of BOOT, the slots
still to be tried, the OTP and its shadow, the key slots usable since
BOOT (R290), the flash, operations waiting, whether R384
holds the head of them, and the one issued, the OTP operation in progress or
held, GO, the STAGING entry frame, the sequencers that have firmware with their ENTRY, journal regions and the object area. -/
structure BootSt where
  supplies : List Bool
  refOut : Bool
  resetN : Bool
  pll : List Bool
  step : BootStep
  tries : List Nat
  otp : Tbl Byte
  shadow : Tbl Byte
  keys : Nat
  flash : Tbl Byte
  ops : List FlashOp
  opsHeld : Bool
  cur : Option FlashOp
  otpOp : Option OtpOp
  otpHeld : Bool
  go : Bool
  stagFrom : Nat
  entry : List (Nat × Nat)
  journals : Nat × Nat
  objBase : Nat
  deriving DecidableEq, Repr

/-- Start-up at reset: the supplies are not good yet (R410). -/
def BootSt.init : BootSt where
  supplies := List.replicate 6 false
  refOut := false
  resetN := true
  pll := [false, false, false]
  step := .none
  tries := []
  otp := []
  shadow := []
  keys := 0
  flash := []
  ops := []
  opsHeld := false
  cur := none
  otpOp := none
  otpHeld := false
  go := false
  stagFrom := 0
  entry := []
  journals := (0, 0)
  objBase := 0

end Sys2Proof.Machine
end

