-- ==== Sys2Proof/Machine/LinkState.lean ====
section
/-! DEFINITION. The Erenath lanes and the tiles (09, 10): link frames, message cells, the lane's state at the device, the
two ends of a message channel, and the tile behind each quay. -/
namespace Sys2Proof.Machine

/-- A message of the channel (R267, R268). `other` is a request with an OP that the tile does not know or a LEN other than
R267 gives, and a response with an OP that the device does not know. -/
inductive TMsg where
  | rd (tag addr count : Nat)
  | wr (tag addr : Nat) (words : List Nat)
  | announce (tag kind fnum val : Nat)
  | cancel (tag kind fnum : Nat)
  | rdRsp (tag status : Nat) (words : List Nat)
  | wrRsp (tag status : Nat)
  | annAck (tag status kind fnum : Nat)
  | canAck (tag status kind fnum : Nat)
  | errRsp (tag status : Nat)
  | event (count code output fnum : Nat) (lost : Bool)
  | other (op tag : Nat)
  deriving DecidableEq, Repr

/-- What a cell carries (R261). -/
inductive CellBody where
  | keepAlive
  | malformed
  | msg (seq : Nat) (m : TMsg)
  deriving DecidableEq, Repr

/-- A cell (R259, R260). FRESH, EVPEND, TPH and TTL are of the upstream cell. -/
structure Cell where
  body : CellBody
  ack : Nat
  rst : Bool
  rng : Nat
  tsb : Nat
  fresh : Bool
  evpend : Bool
  tph : Nat
  ttl : Nat
  deriving DecidableEq, Repr

/-- A downstream link frame (R225 to R227): its type, the drive words, the training word's TPRE and DONE, the cell, and
whether its CRC matches (R233). -/
structure DFrame where
  ftype : Nat
  gen : Nat
  auth : Bool
  three : Bool
  disc : Bool
  fnum : Nat
  fill : Nat
  words : List Nat
  tpre : Nat
  trained : Bool
  cell : Option Cell
  crcOk : Bool
  deriving DecidableEq, Repr

/-- An upstream link frame (R228, R229): the header, the samples (code and VALID), the training word's EYE, CPRE and
LOCKED, the cell, and whether its CRC matches. -/
structure UFrame where
  ftype : Nat
  gen : Nat
  port : Nat
  asrc : Nat
  src0 : Bool
  hold : Bool
  park : Bool
  fnum : Nat
  rxfn : Nat
  dbad : Nat
  tsig : Nat
  samples : List (Nat × Bool)
  eye : Nat
  cpre : Nat
  locked : Bool
  cell : Option Cell
  crcOk : Bool
  deriving DecidableEq, Repr

/-- How an upstream frame arrives (R238, R240, R241, R252): bit errors in its SYNC word, the time from the launch of the
link frame before to its first SYNC bit in 10 ps, the time from tick m + 1 to its last sample bit in 100 ps, and the
receiver's margin. -/
structure UArrival where
  syncErr : Nat
  rtt : Nat
  late : Int
  deye : Nat
  deriving DecidableEq, Repr

/-- What a port of a tile finds at the place of a downstream frame (R235, R238): the frame, where one is there, and the bit
errors in its SYNC word. -/
structure DArrival where
  frame : Option DFrame
  syncErr : Fin 65
  deriving DecidableEq, Repr

/-- What a tile is by its make (R270). -/
structure TileId where
  gen : Nat
  rev : Nat
  three : Bool
  dual : Bool
  nslot : Nat
  nmon : Nat
  trxlat : Nat
  ttxlat : Nat
  serial : Nat
  deriving DecidableEq, Repr

/-- One end of a message channel (R262 to R265): the next SEQ of a new message, the expected SEQ, messages not yet sent,
messages sent and not acknowledged with their SEQ and how often each was resent, the place of a resending in progress, the
frames since the timer started, whether a reset is in progress and whether its answer has come, whether the last reset has
completed, and the messages delivered and not acted on yet. -/
structure Chan where
  nextSeq : Nat
  expect : Nat
  waiting : List TMsg
  out : List (Nat × TMsg × Nat)
  again : Option Nat
  timer : Nat
  resetting : Bool
  sawRst : Bool
  synced : Bool
  inbox : List TMsg
  deriving DecidableEq, Repr

/-- A channel at reset. -/
def Chan.init : Chan where
  nextSeq := 0
  expect := 0
  waiting := []
  out := []
  again := none
  timer := 0
  resetting := false
  sawRst := false
  synced := false
  inbox := []

/-- A firmware request to a tile (R284): its tag, whether it reads, and the frames it has waited. -/
structure TileReq where
  tag : Nat
  rd : Bool
  age : Nat
  deriving DecidableEq, Repr

/-- A lane at the device (R244 to R256): the frames since the state or the phase of it began; in SEEK, whether the declared
rate is in force; whether TRAIN has been left since lock; a SEEK that waits for the next tick, as the detail R508 gives it
(0 none); in TRAIN, the preset being tried and its frames, the best so far as margin, preset and EYE, and whether
the choice is made; the run of clean frames; the round trips of the last good frames; the moves of LAUNCH decided for the
next three launches, the last of which ends the heater frame being modulated, and the part still to be applied in SKEW; the
FNUM last launched, none since SEEK was left; the first authoritative heater frame; SRC0 of the last good upstream frame; runs of bad SYNC words and of frames that
failed CRC, the frames since lock was lost and the consecutive frames that the hunt has found; the run of frames with DBAD; whether an upstream frame came in the running
frame; the serial number last discovered since reset; the discovery reads and writes not answered yet; the next tag; the
firmware request; the words last written to each timing-set bank of the tile; the bank in force; the channel; the last
link frame launched. -/
structure Lane where
  since : Nat
  declared : Bool
  trained : Bool
  seekWhy : Nat
  preset : Nat
  presetRun : Nat
  best : Option (Nat × Nat × Nat)
  chosen : Bool
  deyeNow : Nat
  teyeNow : Nat
  clean : Nat
  rtts : List Nat
  moves : List Int
  shift : Int
  skewLeft : Int
  measured : Bool
  lastF : Option Nat
  authFrom : Option Nat
  tileOff : Bool
  syncBad : Nat
  crcBad : Nat
  lost : Option Nat
  regained : Nat
  derrRun : Nat
  got : Bool
  serial : Option Nat
  ident : List Nat
  cfgTags : List Nat
  configured : Bool
  tag : Nat
  req : Option TileReq
  bank : Nat
  written : Tbl Nat
  chan : Chan
  sent : Option DFrame
  deriving DecidableEq, Repr

/-- A lane at reset: OFF. -/
def Lane.init : Lane where
  since := 0
  declared := true
  trained := false
  seekWhy := 0
  preset := 0
  presetRun := 0
  best := none
  chosen := false
  deyeNow := 0
  teyeNow := 0
  clean := 0
  rtts := []
  moves := []
  shift := 0
  skewLeft := 0
  measured := false
  lastF := none
  authFrom := none
  tileOff := false
  syncBad := 0
  crcBad := 0
  lost := none
  regained := 0
  derrRun := 0
  got := false
  serial := none
  ident := []
  cfgTags := []
  configured := false
  tag := 0
  req := none
  bank := 0
  written := []
  chan := Chan.init
  sent := none

/-- A preparation at a tile (R272): the frame and the range or bank. -/
structure Prep where
  fnum : Nat
  val : Nat
  deriving DecidableEq, Repr

/-- An event that a tile has queued (R275, R276): CODE, OUTPUT, FNUM, its count, and whether it was sent with EVLOST before
the channel was reset. -/
structure TEvent where
  count : Nat
  code : Nat
  output : Nat
  fnum : Nat
  lost : Bool
  deriving DecidableEq, Repr

/-- A port of a tile (R235, R265, R266, R270, R272, R276): CFG, FRESH, the timing-set and assignment words by register
address, the nine counters, lock, the frames the hunt has found (R238), the runs of bad SYNC words and of frames that failed
CRC, whether the receiver has had its link frame for the coming reference instant, the FNUM expected next (none: no frame
numbered since reset) and whether it has moved on since the last reference instant, the run of consecutive frames R235 has refused and their last FNUM, the frame received for the coming
heater frame, bad frames since the last upstream frame, RXFN, the bits of the last link frame found, whether the port answers
with TRAIN frames and the preset in use, the channel, preparations, events not sent or kept by a channel reset and whether
one was dropped, the upstream frame last launched and its ULSLOT, the one before it with its fill (R224, R228), and the
scrambler register while the line runs free (R219). -/
structure TPort where
  ulslot : Nat
  holdwin : Nat
  rto : Nat
  fresh : Bool
  words : Tbl Nat
  counts : List Nat
  lock : Bool
  found : Nat
  syncBad : Nat
  crcBad : Nat
  got : Bool
  expect : Option Nat
  numbered : Bool
  refusedRun : Nat
  refusedLast : Nat
  frame : Option DFrame
  dbad : Nat
  rxfn : Nat
  span : Nat
  train : Bool
  cpre : Nat
  chan : Chan
  prepRng : Option Prep
  prepTs : Option Prep
  events : List TEvent
  evLost : Bool
  sent : Option UFrame
  sentSlot : Nat
  before : Option (UFrame × Nat)
  scr : Nat
  deriving DecidableEq, Repr

/-- A port at the tile's reset (R270). -/
def TPort.init : TPort where
  ulslot := 16
  holdwin := 64
  rto := 8
  fresh := true
  words := []
  counts := List.replicate 9 0
  lock := false
  found := 0
  syncBad := 0
  crcBad := 0
  got := false
  expect := none
  numbered := false
  refusedRun := 0
  refusedLast := 0
  frame := none
  dbad := 0
  rxfn := 0
  span := 0
  train := true
  cpre := 0
  chan := Chan.init
  prepRng := none
  prepTs := none
  events := []
  evLost := false
  sent := none
  sentSlot := 16
  before := none
  scr := 0

/-- A tile (R223, R270, R274 to R283): its make, none while nothing is plugged; the heater frame it is in (low 24 bits);
the port last applied; the words, mode, range and bank in force; held frames; parked; whether it parks from the next heater
frame; whether the frame in hand is held; whether the last frame had two applicable ones; the outputs in OPEN and in COMPLY;
its event count; its temperatures; the samples of the heater frame; its ports. -/
structure TileSt where
  ident : Option TileId
  fnum : Nat
  applied : Option Nat
  words : List Nat
  three : Bool
  rng : Nat
  tsb : Nat
  heldRun : Nat
  park : Bool
  parkDue : Bool
  held : Bool
  dual : Bool
  openBits : Nat
  complyBits : Nat
  evCount : Nat
  tph : Nat
  ttl : Nat
  samples : List (Nat × Bool)
  ports : List TPort
  deriving DecidableEq, Repr

/-- No tile; a tile is parked from its own reset (R281). -/
def TileSt.init : TileSt where
  ident := none
  fnum := 0
  applied := none
  words := []
  three := false
  rng := 0
  tsb := 0
  heldRun := 0
  park := true
  parkDue := false
  held := false
  dual := false
  openBits := 0
  complyBits := 0
  evCount := 0
  tph := 0x8000
  ttl := 0x8000
  samples := []
  ports := [TPort.init, TPort.init]

end Sys2Proof.Machine
end

