-- ==== Sys2Proof/Machine/CalState.lean ====
section
/-! DEFINITION. The state of thermal supervision and of calibration (15). -/
namespace Sys2Proof.Machine

/-- The user value of a slot (R390, R407): the tile's serial number, the TPH at acceptance and the coefficients. -/
structure SlotCal where
  serial : Nat
  tph : Nat
  lin : List Int
  gain : Int
  gsh : Nat
  theta : Nat
  deriving DecidableEq, Repr

/-- The user values of a quay (R390, R407): RNGGAIN1 to RNGGAIN3 and HALFLVL, each where its VALID bit is set. -/
structure QuayCal where
  serial : Nat
  vals : List (Option Nat)
  deriving DecidableEq, Repr

/-- A candidate that waits for a second one (R403), with the first and last frame of its capture. -/
structure Pend (α : Type) where
  first : Nat
  last : Nat
  val : α
  deriving DecidableEq, Repr

/-- A capture (R397, R402): its number, its first and last frame, and whether ABANDON, BANDCHG or RNGCHG is set. -/
structure Capture where
  id : Nat
  first : Nat
  last : Nat
  bad : Bool
  deriving DecidableEq, Repr

/-- What a scale calibration keeps of a slot (R401): sums of FF + LP in codes before and after, and whether it is excluded. -/
structure ScaleRow where
  slot : Nat
  before : Rat
  after : Rat
  excl : Bool
  deriving DecidableEq, Repr

/-- A heater frame of a sweep whose monitor sample is still to come (R397): the frame, V, and whether it carried the sweep. -/
structure CapWait where
  frame : Nat
  v : Int
  sweep : Bool
  deriving DecidableEq, Repr

/-- A sweep unit (R393 to R401): whether it measures a quay, its slot or quay, the target of a scale calibration, whether it
looks for windows in IDLE mode; amplitude, period, cycles and tail or settle time; the quay and input of its channel; the
bundles it holds; the frame in which HOLD began; F0 once fixed; the last frame to be captured; whether the sweep has been
abandoned; entries whose monitor sample is still to come; and the rows of a scale calibration. -/
structure CalUnit where
  scale : Bool
  index : Nat
  target : Nat
  idle : Bool
  amp : Nat
  period : Nat
  ncyc : Nat
  tail : Nat
  quay : Nat
  chan : Nat
  held : List Nat
  holdF : Nat
  f0 : Option Nat
  last : Nat
  cut : Bool
  wait : List CapWait
  rows : List ScaleRow
  deriving DecidableEq, Repr

/-- A unit at reset. -/
def CalUnit.init : CalUnit := ⟨false, 0, 0, false, 0, 16, 1, 0, 0, 0, [], 0, none, 0, false, [], []⟩

/-- A store of the journal in progress (R408): the bytes of the region that it programs, the region and its SEQ. -/
structure Store where
  bytes : List Byte
  region : Nat
  seq : Nat
  deriving DecidableEq, Repr

/-- An accepted slot candidate of a pair that takes effect at a coming frame (R405). -/
structure CoefDue where
  frame : Nat
  bundle : Nat
  coef : BunCoef
  deriving DecidableEq, Repr

/-- Thermal supervision and calibration: each sensor's run of failed samples, and which sensors have given a reading; the trims
in force by kind and instance with their USER bit, and those that wait for their lane to train (R389); the references; a band that takes effect at a coming tick, and whether T_P has been
computed; whether a comparator of R383 holds the device; the sweep units, the number of the last capture and the last
captures; user values accepted and those of the journal; pending candidates; the factory values; the frames in which start-up
acceptance of a quay ends; quays that have ended DISCOVER; a store in progress, whether a value has been accepted since its
snapshot, and the newest region; holds of a partner to be released; and coefficients of a pair still to be committed. -/
structure CalSt where
  fails : List Nat
  seen : Nat
  trims : Tbl (Nat × Bool)
  trimNext : Tbl Nat
  tref : Tbl (Option Nat)
  trefD : Option Nat
  band : Option AtFrame
  bandDone : Bool
  shut : Bool
  units : List CalUnit
  capNo : Nat
  caps : List Capture
  slotUser : Tbl (Option SlotCal)
  quayUser : Tbl (Option QuayCal)
  slotJrnl : Tbl (Option SlotCal)
  quayJrnl : Tbl (Option QuayCal)
  slotPend : Tbl (Option (Pend SlotCal))
  quayPend : Tbl (Option (Pend QuayCal))
  slotFact : Tbl SlotCoef
  quayFact : Tbl (List Nat)
  startEnd : Tbl (Option Nat)
  disc : List Nat
  store : Option Store
  since : Bool
  newest : Nat
  orphans : List (Nat × Nat)
  due : List CoefDue
  deriving DecidableEq, Repr

/-- Thermal supervision and calibration at reset; the trims are loaded at entry into BOOT (R388). -/
def CalSt.init : CalSt where
  fails := List.replicate 16 0
  seen := 0
  trims := []
  trimNext := []
  tref := []
  trefD := none
  band := none
  bandDone := false
  shut := false
  units := List.replicate 4 CalUnit.init
  capNo := 0
  caps := []
  slotUser := []
  quayUser := []
  slotJrnl := []
  quayJrnl := []
  slotPend := []
  quayPend := []
  slotFact := []
  quayFact := []
  startEnd := []
  disc := []
  store := none
  since := false
  newest := 0
  orphans := []
  due := []

end Sys2Proof.Machine
end

