-- ==== Sys2Proof/Machine/MirState.lean ====
section
/-! DEFINITION. The state of the harbourmaster and of the mirror link (14). A mirror cell is typed by what R360 says it
carries; a message of more than 28 bytes is a run of cells of which the last holds it. -/
namespace Sys2Proof.Machine

/-- The state of a slot's loop that a tally covers (R366). -/
structure LoopCopy where
  h : Int
  iM : Int
  lpM : Int
  base : Nat
  hasBase : Bool
  setrun : Nat
  settled : Bool
  setfail : Bool
  dark : Bool
  deriving DecidableEq, Repr

/-- The loop state of a bundle that a tally covers: its slots and the exponents E0 to E3. -/
structure BunCopy where
  loops : List LoopCopy
  exps : List Nat
  deriving DecidableEq, Repr

/-- A change of fabric state that a CONFIG cell carries (R360). -/
inductive MConfig where
  | owner (slot : Nat) (own : Nat) (next : Option Nat)
  | failed (slot : Nat) (b : Bool)
  | circuit (c : Nat) (v : Circuit)
  | bundle (b : Nat) (x : Bundle)
  | range (q : Nat) (c : Option Change)
  | tset (q : Nat) (c : Option Change) (sets : List TSet) (asg : List Nat)
  | pilots (at' : Option Nat) (staged : List (Nat × Pilot))
  | tide (t : TideSt)
  | reg (key v : Nat)
  | loaded (e : Nat)
  | slotCal (slot : Nat) (v : SlotCal)
  | quayCal (q : Nat) (v : QuayCal)
  deriving DecidableEq, Repr

/-- What a state block says of a slot (R372): its owner, FAILED and reservation, and what its records have it do: the
setpoint, the transitions in hand, and whether the loop has a setpoint that has not settled (R145, R146). -/
structure SlotCopy where
  slot : Nat
  owner : Nat
  next : Option Nat
  failed : Bool
  resv : Option Nat
  phi : Nat
  ref : Int
  trs : List Tr
  uns : Bool
  moved : Bool
  deriving DecidableEq, Repr

/-- What a state block says of a slot's pilot (R372, R79). -/
structure PilCopy where
  slot : Nat
  pil : Pilot
  lfsr : Nat
  noiseOn : Bool
  deriving DecidableEq, Repr

/-- A state block of a join epoch (R372). -/
inductive SBlk where
  | recs (x : ExecSt)
  | sched (x : SchedSt)
  | slots (l : List SlotCopy) (b : Tbl Bundle)
  | tide (x : TideSt)
  | pilots (l : List PilCopy)
  | quay (q : Nat) (rng : Nat) (tsets : List TSet) (tasg : Tbl Nat)
  | sess (x : Tbl Sess)
  | objects (l : List Install)
  | regs (l : Tbl Nat)
  deriving DecidableEq, Repr

/-- Which of the blocks of a join epoch a block is. -/
def SBlk.key : SBlk → Nat
  | .recs _ => 0
  | .sched _ => 1
  | .slots _ _ => 2
  | .tide _ => 3
  | .pilots _ => 4
  | .sess _ => 5
  | .objects _ => 6
  | .regs _ => 7
  | .quay q _ _ _ => 8 + q

/-- A mirror message (R360). -/
inductive MMsg where
  | req (r useCnt head source reqFrame : Nat) (police : Bool)
  | admitted (r alt man start band : Nat)
  | defer (r start : Nat)
  | voidev (r cause fin : Nat)
  | late (frame : Nat) (bundles : List Nat)
  | tally (l : List (Nat × Nat × Nat))
  | config (frame : Nat) (c : MConfig)
  | swap (w : Option Nat)
  | object (x : Install) (sidx ent : Nat) (e : CEntry)
  | session (i : Nat) (x : Sess)
  | cache (sidx ent : Nat) (e : CEntry)
  | holdcode (b : Nat) (codes : List Int)
  | brec (b e f : Nat) (x : BunCopy)
  | sblk (e snap : Nat) (x : SBlk)
  | epReq (bundles : List Nat) (join : Bool)
  | epAgain (e : Nat) (blk : Bool) (k : Nat)
  | epStart (e : Nat) (bundles : List Nat) (join : Bool)
  | epEnd (e count crc : Nat)
  | ack (acked epoch : Nat)
  | hello (digest : List Byte) (devid : Nat)
  deriving DecidableEq, Repr

/-- The classes of cells (R360). -/
inductive MClass where
  | stream | acked | epoch | control
  deriving DecidableEq, Repr

/-- CLASS (R360). -/
def MClass.code : MClass → Nat
  | .stream => 0 | .acked => 1 | .epoch => 2 | .control => 3

/-- CTYPE of a message (R360). -/
def MMsg.ctype : MMsg → Nat
  | .req _ _ _ _ _ _ => 0x01
  | .admitted _ _ _ _ _ => 0x02
  | .defer _ _ => 0x02
  | .voidev _ _ _ => 0x03
  | .late _ _ => 0x04
  | .tally _ => 0x05
  | .config _ _ => 0x06
  | .swap _ => 0x07
  | .object _ _ _ _ => 0x10
  | .session _ _ => 0x11
  | .cache _ _ _ => 0x12
  | .holdcode _ _ => 0x13
  | .brec _ _ _ _ => 0x20
  | .sblk _ _ _ => 0x21
  | .epReq _ _ => 0x22
  | .epAgain _ _ _ => 0x22
  | .epStart _ _ _ => 0x22
  | .epEnd _ _ _ => 0x22
  | .ack _ _ => 0x30
  | .hello _ _ => 0x31

/-- A cell: its CTYPE, class and CSEQ, and the message it ends; none for a cell that a later one completes. -/
structure MCell where
  ctype : Nat
  cls : MClass
  cseq : Nat
  msg : Option MMsg
  deriving DecidableEq, Repr

/-- What a TRAIN frame says under R246, each device being the tile of its receive direction (R358; log 43): the preset asked of
the receiver's transmitter, the sender's margin, whether it has lock, and the frames it found bad since the last it sent. -/
structure MTrain where
  preset : Option Nat
  eye : Nat
  locked : Bool
  bad : Nat
  deriving DecidableEq, Repr

/-- What a frame that is no TRAIN frame says. -/
def MTrain.none : MTrain := ⟨.none, 0, false, 0⟩

/-- A mirror frame as received (R359): the header with its LANE and FILL, what a TRAIN frame says, whether HCRC and the frame
CRC match, whether its SYNC was good, and its cells. TYPE is 1 IDLE, 2 DATA, 3 TRAIN. -/
structure MFrame where
  ftype : Nat
  lane : Nat
  state : Nat
  senior : Bool
  auth : Bool
  ready : Bool
  swpend : Bool
  hold : Bool
  spares : Nat
  fnum : Nat
  idlo : Nat
  fill : Nat
  train : MTrain
  syncOk : Bool
  hcrcOk : Bool
  crcOk : Bool
  cells : List MCell
  deriving DecidableEq, Repr

/-- How a mirror frame arrives (R246, R358, R359): the frame and the receiver's margin. -/
structure MArrival where
  frame : MFrame
  eye : Fin 256
  deriving DecidableEq, Repr

/-- A lane of the mirror link (R238, R246, R358): 0 DOWN, 1 TRAIN, 2 UP; kept down by LOOP; runs of bad SYNC words and of
frames that failed CRC; whether a frame came in the running frame; a HELLO to be sent. In training: SYNC words found in a row
until there is lock, and lock; the preset asked of the partner, its frames so far, the best margin with its preset, and
whether the choice is made; the run of clean frames and the frames since lock; the last margin; the frames found bad since
the last one sent; and the preset that the partner asks of this device's transmitter. -/
structure MLane where
  st : Nat
  loop : Bool
  syncBad : Nat
  crcBad : Nat
  got : Bool
  helloDue : Bool
  found : Nat
  lock : Bool
  preset : Nat
  presetRun : Nat
  best : Option (Nat × Nat)
  chosen : Bool
  clean : Nat
  since : Nat
  eye : Nat
  bad : Nat
  asked : Option Nat
  deriving DecidableEq, Repr

/-- A lane at reset. -/
def MLane.init : MLane where
  st := 0
  loop := false
  syncBad := 0
  crcBad := 0
  got := false
  helloDue := false
  found := 0
  lock := false
  preset := 0
  presetRun := 0
  best := none
  chosen := false
  clean := 0
  since := 0
  eye := 0
  bad := 0
  asked := none

/-- The sending side of the ACKED or EPOCH class (R361): the CSEQ of the next new cell, cells not yet acknowledged in order,
how many of them have been sent since a resending began and how many ever, and the frames since the timer started. -/
structure MSend where
  next : Nat
  cells : List MCell
  sent : Nat
  ever : Nat
  timer : Nat
  deriving DecidableEq, Repr

/-- Nothing sent. -/
def MSend.init : MSend := ⟨0, [], 0, 0, 0⟩

/-- The staged copy of a bundle in an open epoch (R370): the record's update frame, the staged state, what the running
frame's staged update makes of it, whether a staged update has been run, and whether its tally has matched. -/
structure Staged where
  f : Nat
  x : BunCopy
  now : Option BunCopy
  ran : Bool
  ok : Bool
  deriving DecidableEq, Repr

/-- An open epoch on the standby (R369 to R372): its number, whether a join epoch, the frame it opened in, its bundles, the
staged copies, the staged state blocks with their snapshot frames, the blocks dropped and not yet sent again, the records
received and the end cell. -/
structure Epoch where
  no : Nat
  join : Bool
  opened : Nat
  bundles : List Nat
  staged : Tbl (Option Staged)
  blocks : List (Nat × SBlk)
  again : List Nat
  recs : List MMsg
  fin : Option (Nat × Nat)
  deriving DecidableEq, Repr

/-- An open epoch on the active device: its number, whether a join epoch, the bundles whose records are still to be sent,
the records sent, and whether the end cell has been sent. -/
structure EpochOut where
  no : Nat
  join : Bool
  todo : List Nat
  recs : List MMsg
  ended : Bool
  deriving DecidableEq, Repr

/-- A tally of this device or of its partner, at an update frame: bundle, frame, the live value, and the staged value. -/
structure Tally where
  b : Nat
  f : Nat
  v : Nat
  sv : Option Nat
  deriving DecidableEq, Repr

/-- What the mirror cells of the running frame are found by comparing with (R360). -/
structure MSnap where
  recs : Tbl ExecRec
  circuits : Tbl Circuit
  slots : Tbl Slot
  bundles : Tbl Bundle
  quays : List Quay
  pilApply : Option Nat
  subst : Option Subst
  tide : TideSt
  regs : Tbl Nat
  deriving DecidableEq, Repr

/-- A planned swap (R377): its frame W. -/
structure SwapPlan where
  w : Nat
  deriving DecidableEq, Repr

/-- An object that the partner has sent and that takes effect at a coming tick (R365): the CSEQ of its last cell, the object,
and the cache entry of its COMMIT. -/
structure ObjWait where
  cseq : Nat
  x : Install
  sidx : Nat
  ent : Nat
  e : CEntry
  deriving DecidableEq, Repr

/-- The harbourmaster and the mirror link. Pins: levels driven, levels seen, an edge of HBT_IN in the running frame, whether
the frame's heartbeats have been judged, and the edges of ACT_IN as a bit row, the running frame in bit 0. Heartbeats: a matching mirror header in the running frame; whether
the partner is present; runs of frames missed on the pin alone, on the mirror alone and on both; whether the partner is
declared failed. Headers: the last good one, whether the running frame brought one out of step and for how many frames that
has been so; the partner's identity; the digest of the image, and whether the partner's differs. Roles: ticks with ACT_IN
asserted on a holder of authority, a yield due, the planned swap, the end of the wait of R349, the firings whose outcome is
awaited (R373), and the sources of the time record (R376). The link: lanes; both senders of acknowledged cells and what is
expected of the partner's; objects to be installed; STREAM cells sent, expected and waiting, a stream loss found, whether the
running frame has brought a good frame and whether the frame before may have brought cells that are missed; the next CSEQ of
CONTROL cells; the STREAM messages received with their frames; messages received and not acted on, each with its lane; the
mirror frames of the running frame, and those of the frame before as sent. Epochs: the one open here, the one open as the
active device, the last number, the bundles that the partner's last request named and those of them whose held codes it has
still to be sent (R367), requests due and made. Tallies of both sides and held codes; and what cells are found by
comparing with. -/
structure MirSt where
  hbtOut : Bool
  actOut : Bool
  hbtLevel : Bool
  actLevel : Bool
  hbtEdge : Bool
  judged : Bool
  actEdges : Nat
  mirSeen : Bool
  seen : Bool
  pinRun : Nat
  mirRun : Nat
  bothRun : Nat
  failed : Bool
  header : Option MFrame
  hdrOff : Bool
  skewRun : Nat
  peer : Option Nat
  digest : List Byte
  imgMis : Bool
  dualRun : Nat
  yieldDue : Bool
  swap : Option SwapPlan
  joinEnd : Option Nat
  fires : List Nat
  t3 : Nat × Nat
  lanes : List MLane
  ackedOut : MSend
  epochOut : MSend
  ackedIn : Nat
  epochIn : Nat
  objs : List ObjWait
  streamOut : Nat
  streamIn : Option Nat
  loss : Bool
  good : Bool
  dark : Bool
  streamQ : List MCell
  controlOut : Nat
  history : List (Nat × MMsg)
  inbox : List (Nat × MMsg)
  frames : List (Option MFrame)
  sent : List (Option MFrame)
  epoch : Option Epoch
  epOut : Option EpochOut
  epNo : Nat
  peerHeld : List Nat
  heldDue : List Nat
  wanted : Bool
  joinWanted : Bool
  asked : Bool
  own : List Tally
  theirs : List Tally
  held : Tbl (List Int)
  snap : MSnap
  deriving DecidableEq, Repr

/-- The harbourmaster at reset. -/
def MirSt.init : MirSt where
  hbtOut := false
  actOut := false
  hbtLevel := false
  actLevel := false
  hbtEdge := false
  judged := false
  actEdges := 0
  mirSeen := false
  seen := false
  pinRun := 0
  mirRun := 0
  bothRun := 0
  failed := false
  header := none
  hdrOff := false
  skewRun := 0
  peer := none
  digest := List.replicate 32 0
  imgMis := false
  dualRun := 0
  yieldDue := false
  swap := none
  joinEnd := none
  fires := []
  t3 := (0, 0)
  lanes := [MLane.init, MLane.init]
  ackedOut := MSend.init
  epochOut := MSend.init
  ackedIn := 0
  epochIn := 0
  objs := []
  streamOut := 0
  streamIn := none
  loss := false
  good := false
  dark := false
  streamQ := []
  controlOut := 0
  history := []
  inbox := []
  frames := [none, none]
  sent := [none, none]
  epoch := none
  epOut := none
  epNo := 0
  peerHeld := []
  heldDue := []
  wanted := false
  joinWanted := false
  asked := false
  own := []
  theirs := []
  held := []
  snap := ⟨[], [], [], [], [], none, none, TideSt.init, []⟩

end Sys2Proof.Machine
end

