-- ==== Sys2Proof/Machine/PortState.lean ====
section
/-! DEFINITION. The state of the matrix and the cranes (18), of the Ethernet and housekeeping ports (19), and of SAFE and
the health report (20). -/
namespace Sys2Proof.Machine

/-- A burst on the matrix (R461): its master and first address; the beats of a write with their byte strobes, or how many
beats to read, with the strobes that name the word of a read of the bridge. A beat is 32 bytes. -/
structure Burst where
  master : Nat
  addr : Nat
  write : Option (List (List Byte × BitVec 32))
  beats : Nat
  strobes : BitVec 32
  deriving DecidableEq, Repr

/-- A target about to grant (R463 to R465): the CORE cycle of the frame, how long the master of the burst has waited there, the
other masters that wait there with their waits, and whether a chunk fetch of M5 is among them. -/
structure Claim where
  cycle : Nat
  waited : Nat
  others : List (Nat × Nat)
  chunk : Bool
  deriving DecidableEq, Repr

/-- What a burst meets (R462 to R465, R467, R469): the claims at the targets of its beats that are still to be granted, in order;
how many beats of a write its master has delivered the data of; and the 64-bit words of table memory, as matrix addresses
divided by 8, that have by now come to hold a correctable and an uncorrectable error. -/
structure Grant where
  turns : List Claim
  delivered : Nat
  weak : List Nat
  bad : List Nat
  deriving DecidableEq, Repr

/-- A burst in flight (R461, R462, R467): the beats done and the bytes read; the beats of a write whose data has been delivered;
since which CORE cycle its next beat waits, after how many cycles before that; and whether its master has been reset. -/
structure InFlight where
  burst : Burst
  done : Nat
  data : List Byte
  delivered : Nat
  cycle : Nat
  waited : Nat
  reset : Bool
  deriving DecidableEq, Repr

/-- When a crane's bursts begin, as a CORE cycle of the frame, and how many beats of a write's data a channel has delivered by
the time an error response or an ABORT reaches it (R467). -/
structure CraneAt where
  cycle : Nat
  delivered : Nat
  deriving DecidableEq, Repr

/-- How a transaction reaches the I²C/SMBus target (R496, R499): the 7-bit address it names, and the PEC sent with a write: none,
or whether it is right. -/
structure SmbCall where
  target : BitVec 7
  pec : Option Bool
  deriving DecidableEq, Repr

/-- A transaction of the I²C/SMBus target that reads (R496): the 7-bit address it names and the CORE cycle of its access. -/
structure SmbRead where
  target : BitVec 7
  cycle : Nat
  deriving DecidableEq, Repr

/-- What a port learns of its partner in auto-negotiation (R482): whether the exchange has ended, and whether the partner offers
full duplex. -/
structure AnOffer where
  ended : Bool
  fullDuplex : Bool
  deriving DecidableEq, Repr

/-- A beat of a master to the window of a physical engine (R142, R468): the master, the engine, and the CORE cycle of the frame
in which the window serves it. -/
structure WinBeat where
  master : Fin 11
  phys : Fin 50
  cycle : Nat
  deriving DecidableEq, Repr

/-- A crane descriptor (R474). -/
structure CraneDesc where
  addr : Nat
  src : Nat
  dst : Nat
  len : Nat
  last : Bool
  irq : Bool
  fill : Bool
  fixdst : Bool
  next : Nat
  ok : Bool
  deriving DecidableEq, Repr

/-- A crane channel (R475 to R480): the address of the descriptor to be read, the descriptor in progress and the bytes
moved, the piece read and not yet written, and whether it waits for the next tick. -/
structure Crane where
  toRead : Option Nat
  cur : Option CraneDesc
  moved : Nat
  buf : Option (List Byte)
  held : Bool
  deriving DecidableEq, Repr

/-- A channel at reset. -/
def Crane.init : Crane := ⟨none, none, 0, none, false⟩

/-- A frame that waits in a port (R495): a transmit buffer with its length, or the bytes of an ARP, neighbour discovery or
ICMP answer or an announcement, or of a Penvar datagram. -/
inductive TxFrame where
  | ptp (buf len : Nat) (ts : Bool) (base : Nat)
  | ctl (bytes : List Byte)
  | penvar (bytes : List Byte)
  deriving DecidableEq, Repr

/-- An announcement of an address entry still to be made (R488): the frame it is due in. -/
structure Announce where
  entry : Nat
  due : Nat
  deriving DecidableEq, Repr

/-- An Ethernet frame as it arrives (R484, R492): its bytes from the destination MAC to the end of the payload, whether its FCS
is correct, and the time of its message timestamp point in TIME cycles after the tick and 2^−32 ns within the cycle. -/
structure EthFrame where
  bytes : List Byte
  fcsOk : Bool
  cycle : Nat
  frac : Nat
  deriving DecidableEq, Repr

/-- A NET port (19): the receive buffers filled, oldest first, with their numbers; the buffer memory at window offsets 0x1000
to 0x23FF; frames that wait, the frame in flight and its bytes up to the FCS; announcements due; ICMP answers in the running second; and the transmit
timestamp not yet latched. -/
structure NetPort where
  filled : List Nat
  nextBuf : Nat
  mem : Tbl Byte
  txq : List TxFrame
  flying : Option TxFrame
  wire : List Byte
  ann : List Announce
  icmp : Nat
  ts : Nat
  deriving DecidableEq, Repr

/-- A port at reset. -/
def NetPort.init : NetPort := ⟨[], 0, [], [], none, [], [], 0, 0⟩

/-- The PTP messages of a domain slot counted in the running second (R333): Sync, delay requests, and Announce by the
identity of its sender. -/
structure PtpRate where
  sync : Nat
  delay : Nat
  ann : Tbl Nat
  deriving DecidableEq, Repr

/-- No message counted. -/
def PtpRate.init : PtpRate := ⟨0, 0, []⟩

/-- The I²C/SMBus target, the UART and the TAP (19): the access address; the last bytes answered; FIFOs; the instruction in the
TAP and what its register captured last, the last MEMACC access and its data, and its status; the operation and data of one that
waits; and the 214 cells of the boundary-scan register. -/
structure SbiSt where
  addr : Nat
  answer : List Byte
  rx : List Nat
  tx : List Nat
  ir : Nat
  irCap : Nat
  macAddr : Nat
  macData : Nat
  macStat : Nat
  macWait : Option (Nat × Nat)
  scan : List Bool
  deriving DecidableEq, Repr

/-- The ports at reset: IDCODE is loaded (R503). DESIGN CHOICE (log 68): the cells of the boundary-scan register are 0. -/
def SbiSt.init : SbiSt where
  addr := 0
  answer := []
  rx := []
  tx := []
  ir := 1
  irCap := 1
  macAddr := 0
  macData := 0
  macStat := 0
  macWait := none
  scan := List.replicate 214 false

/-- The TAP, which is reset apart from the ports (R503). -/
def SbiSt.tap (x : SbiSt) : SbiSt :=
  { SbiSt.init with
    ir := x.ir
    irCap := x.irCap
    macAddr := x.macAddr
    macData := x.macData
    macStat := x.macStat
    macWait := x.macWait
    scan := x.scan }

/-- What the health report keeps (R514, R515): the last report, its number, whether one has been closed since the start, the
counters at the last report with whether each has been cleared since, the log's entries of ALARM or above since, and the
results of the self-test of a small-class standby. -/
structure Health where
  report : List Byte
  seq : Nat
  started : Bool
  last : List Nat
  cleared : List Bool
  alarms : Nat
  second : Nat
  stPass : Nat
  stCount : Nat
  stFail : Nat
  stLast : Nat
  deriving DecidableEq, Repr

/-- A result of the self-test of a small-class standby (R30, R48): a complete pass ends, or an engine fails, in a frame. -/
inductive SelfStep where
  | pass (frame : BitVec 32)
  | fail (phys : Fin 50) (frame : BitVec 32)
  deriving DecidableEq, Repr

/-- The health report at reset. -/
def Health.init : Health := ⟨List.replicate 160 0, 0, false, List.replicate 8 0, List.replicate 8 false, 0, 0, 0, 0, 0, 0⟩

/-- A FATAL event of R508: its code, INDEX and DETAIL, and the frame of its entry where that is written already (R509). -/
structure Fatal where
  code : Nat
  index : Nat
  detail : Nat
  logged : Option Nat
  deriving DecidableEq, Repr

/-- SAFE (R516 to R519): causes that take effect at the next tick; whether SAFE follows a failed BOOT; and the TB0 time at which
an unbroken stay in STANDBY, ACTIVE or SOLO began. -/
structure SafeSt where
  due : List Fatal
  bootFail : Bool
  upSince : Option Nat
  deriving DecidableEq, Repr

/-- SAFE at reset. -/
def SafeSt.init : SafeSt := ⟨[], false, none⟩

/-- Matrix, cranes, ports, health and SAFE: the round-robin pointers of the targets and the bursts in flight, by master; the
cranes, the channel whose turn on M4 comes next, and the beats each engine window has given them in the running frame; whether a PTP frame has been stored in the running frame, the PTP messages counted
in the running second by domain slot, and whether the service entries have been announced since authority was gained. -/
structure PortSt where
  rr : Tbl Nat
  flights : Tbl (Option InFlight)
  cranes : List Crane
  craneNext : Nat
  craneBeats : Tbl Nat
  nets : List NetPort
  ptpRx : Bool
  ptpRates : List PtpRate
  announced : Bool
  sbi : SbiSt
  health : Health
  safe : SafeSt
  deriving DecidableEq, Repr

/-- Matrix, cranes and ports at reset. -/
def PortSt.init : PortSt where
  rr := []
  flights := []
  cranes := List.replicate 4 Crane.init
  craneNext := 0
  craneBeats := []
  nets := [NetPort.init, NetPort.init]
  ptpRx := false
  ptpRates := [PtpRate.init, PtpRate.init]
  announced := false
  sbi := SbiSt.init
  health := Health.init
  safe := SafeSt.init

end Sys2Proof.Machine
end

