-- ==== Sys2Proof/Syntax.lean ====
section
/-! DEFINITION. The commands the device takes and the data they carry. -/
namespace Sys2Proof


/-- The commands: one constructor for each row of spec/opcode_table.json, in its order. The table gives no
operands: those here are the model's (log 2). -/
inductive Instr where
  /-- POWER_SUPPLY_CHANGE (R524): A supply crosses its monitor threshold and becomes good or stops being good, holding or releasing the device in OFF. -/
  | powerSupplyChange (supply : Fin 6) (good : Bool)
  /-- RESET_N_ASSERT (R410): RESET_N goes low and sends the device to OFF, resetting every domain but AON. -/
  | resetNAssert
  /-- LEAVE_OFF (R410): 2.000 ms after the last supply becomes good and RESET_N is high, the device latches its straps and enters BOOT. -/
  | leaveOff (senior fmode otpErr : Bool)
  /-- PLL_LOCK (R54): A PLL locks; at PLL0 lock the TIME domain and frame 0 start. -/
  | pllLock (p : Fin 3)
  /-- PLL_LOCK_TIMEOUT (R54): A PLL not locked within 1 ms of BOOT entry ends BOOT in failure with cause PLL. -/
  | pllLockTimeout
  /-- SELF_TEST_DONE (R413): Boot self-test of memories, engines, quays, crypto and entropy completes with its outcomes. -/
  | selfTestDone (r : Machine.SelfTest)
  /-- IMAGE_SLOT_TRY (R427): One image slot is tried: key, signature, SVN, body records, hash, memory and cross-record checks. -/
  | imageSlotTry
  /-- STAGING_END (R436): At the first tick with GO written, lanes ready or waited out and the time wait met, STAGING ends and the state changes under R349. -/
  | stagingEnd
  /-- JOIN_WAIT_EXPIRY (R349): A junior device that saw no ACT_IN for JOINWAIT × 1,024 frames after STAGING becomes SOLO. -/
  | joinWaitExpiry
  /-- FRAME_TICK (R33): TB3 reaches a whole microsecond: the frame counter increments and the per-frame work of every block begins. -/
  | frameTick
  /-- QUEUE_LATE_FLUSH (R198): A head whose lateness exceeds LATEMAX is flushed VOID with cause FLUSHED. -/
  | queueLateFlush (q : Fin 64)
  /-- TRANSITION_LATE_END (R105): A transition whose last sample has not arrived by N + 16 ends without it and LATEEND is counted. -/
  | transitionLateEnd (slot : Fin 12288)
  /-- ENGINE_DEADLINE (R49): At the deadline each engine marks undelivered bundles late and stops the frame's work. -/
  | engineDeadline
  /-- ENGINE_LATE_ESCALATION (R52): A bundle late in ESCLIM consecutive frames causes an engine fault. -/
  | engineLateEscalation (b : Fin 1536)
  /-- SLOT_DARK (R135): A slot without a valid error for gaps at GAPESC counted updates becomes dark and folds. -/
  | slotDark (slot : Fin 12288)
  /-- SLOT_SETTLED (R145): A slot's settle run count reaches SETCNT and its settled bit is set. -/
  | slotSettled (slot : Fin 12288)
  /-- SETTLE_TIMEOUT (R146): A slot still unsettled after SETTMO evaluated updates sets SETFAIL and raises SETTLE_FAIL. -/
  | settleTimeout (slot : Fin 12288)
  /-- BUNDLE_COMMAND_APPLY (R138): A pending OPEN or CLOSE command takes effect at the bundle's next update frame. -/
  | bundleCommandApply (b : Fin 1536)
  /-- BUNDLE_UNPARK (R140): A parked bundle returns to its return state at the second update frame after its cause clears. -/
  | bundleUnpark (b : Fin 1536)
  /-- BUNDLE_INIT_CLOSE (R141): A bundle with INIT set closes at the second update frame after the soft start. -/
  | bundleInitClose (b : Fin 1536)
  /-- COEFFICIENT_CHANGE_APPLY (R143): Committed coefficients take effect at the bundle's next update, opening a CLOSED bundle. -/
  | coefficientChangeApply (b : Fin 1536)
  /-- COEFFICIENT_RECLOSE (R143): A bundle opened for a coefficient change closes at the second update frame under the new k. -/
  | coefficientReclose (b : Fin 1536)
  /-- ENGINE_MEMORY_ERROR (R148): An engine's local memory reports an uncorrectable error; the engine fails and its bundles go PARKED-HOLD. -/
  | engineMemoryError (phys : Fin 50) (cycle : Nat) (corrected : Bool)
  /-- SUBST_GO (R150): A write of MOR.SUBST.GO requests a substitution or swap into a spare engine. -/
  | substGo
  /-- SUBST_LOAD_COMPLETE (R151): The new engine's load completes; the map changes and bundles enter PARKED with cause SUBST. -/
  | substLoadComplete
  /-- BCMD_OPEN (R138): A write of 1 to MOR.BCMD.OPEN records an OPEN command for the selected bundle. -/
  | bcmdOpen
  /-- BCMD_CLOSE (R138): A write of 1 to MOR.BCMD.CLOSE records a CLOSE command for the selected bundle. -/
  | bcmdClose
  /-- ENGINE_WINDOW_WRITE (R142): A write to a coefficient or H field of an engine window is accepted or refused by bundle state. -/
  | engineWindowWrite (w : Machine.WinBeat) (off : Fin 16384) (v : Word)
  /-- MOR_STATCLR (R4): MOR.CTRL.STATCLR resets the eight MOR counters. -/
  | morStatclr
  /-- SLOTCFG_FSET (R166): A write of 1 to MAN.SLOTCFG.FSET marks the selected slot's element failed. -/
  | slotcfgFset
  /-- SLOTCFG_FCLR (R166): A write of 1 to MAN.SLOTCFG.FCLR clears the selected slot's FAILED mark. -/
  | slotcfgFclr
  /-- SLOTCFG_OWNER_WRITE (R161): A write of MAN.SLOTCFG.OWNER changes the slot's owner from the next tick. -/
  | slotcfgOwnerWrite (v : Word)
  /-- CSTAT_CLRDOWN (R170): A write of 1 to MAN.CSTAT.CLRDOWN sets a DOWN circuit to NORMAL. -/
  | cstatClrdown
  /-- MAN_STATCLR (R4): MAN.CTRL.STATCLR resets the ten MAN counters. -/
  | manStatclr
  /-- QUEUE_FLUSH (R198): A write of 1 to SCH.QCTRL.FLUSH removes every queued record at the next tick. -/
  | queueFlush
  /-- SCH_STATCLR (R199): SCH.CTRL.STATCLR resets every SCH counter and high-water mark. -/
  | schStatclr
  /-- VT_READ_LATCH (R187): A read of SCH.VTLO latches bits 47:32 of virtual time for SCH.VTHI. -/
  | vtReadLatch
  /-- QBAL_READ_LATCH (R183): A read of SCH.QBALLO latches the high balance and finish-tag bits. -/
  | qbalReadLatch
  /-- TIDE_ARM (R206): A write of TID.CTRL.ARM arms the shadow table with its chosen start frame. -/
  | tideArm
  /-- TIDE_CANCEL (R210): A write of TID.CTRL.CANCEL ends a pending arm. -/
  | tideCancel
  /-- TIDE_STOP (R211): A write of TID.CTRL.STOP schedules the active table to stop at a cycle boundary. -/
  | tideStop
  /-- TID_STATCLR (R4): TID.CTRL.STATCLR resets the four TID counters. -/
  | tidStatclr
  /-- TIDE_START (R207): An armed table starts at its start frame, exchanging roles with any running table. -/
  | tideStart
  /-- TIDE_TABLE_STOP (R211): The active table stops at its chosen cycle boundary and every gate opens. -/
  | tideTableStop
  /-- PIL_APPLY (R80): A write of PIL.CTRL.APPLY checks the staging pilot copy and schedules it or refuses it. -/
  | pilApply (delay : Fin 2)
  /-- PIL_REVERT (R80): A write of PIL.CTRL.REVERT copies the active pilot copy into staging. -/
  | pilRevert
  /-- PIL_ACC_RD (R80): PIL.ACC.RD loads PIL.SCFG0 to SCFG2 from the chosen copy for the selected slot. -/
  | pilAccRd
  /-- PIL_ACC_WR (R80): PIL.ACC.WR writes PIL.SCFG0 to SCFG2 into staging for the selected slot. -/
  | pilAccWr
  /-- PILOT_APPLY_TAKE_EFFECT (R80): The staged pilot copy becomes active for every slot at heater frame PIL.APPLYF. -/
  | pilotApplyTakeEffect
  /-- PIL_COPY_DONE (R80): The copy into staging completes and PIL.STAT.BUSY clears. -/
  | pilCopyDone
  /-- RNGREQ_GO (R85): A write of QY.RNGREQ.GO requests a current-range change and announces it. -/
  | rngreqGo (q : Fin 32)
  /-- RNGREQ_CANCEL (R86): A write of QY.RNGREQ.CANCEL cancels a pending range change in time. -/
  | rngreqCancel (q : Fin 32)
  /-- RANGE_NOACK_CANCEL (R86): A range change not acknowledged by frame RNGFRM − 8 is cancelled with NOACK. -/
  | rangeNoackCancel (q : Fin 32)
  /-- RANGE_CHANGE_APPLY (R87): An acknowledged range change takes effect at heater frame QY.RNGFRM. -/
  | rangeChangeApply (q : Fin 32)
  /-- DRVCFG_MODE_WRITE (R89): A write of QY.DRVCFG.MODE changes the drive mode in use from heater frame f + 2. -/
  | drvcfgModeWrite (q : Fin 32) (v : Word)
  /-- HALFLVL_WRITE (R90): A write of QY.HALFLVL is checked and takes effect at heater frame f + 2. -/
  | halflvlWrite (q : Fin 32) (v : Word)
  /-- RNGGAIN_WRITE (R90): A write of QY.RNGGAINr is checked and takes effect at heater frame f + 2. -/
  | rnggainWrite (q : Fin 32) (r : Fin 4) (v : Word)
  /-- QY_DRV_STATCLR (R4): QY.DRVCTRL.STATCLR resets the three drive counters. -/
  | qyDrvStatclr (q : Fin 32)
  /-- TSREQ_GO (R113): A write of QY.TSREQ.GO requests a timing-set change and announces it. -/
  | tsreqGo (q : Fin 32)
  /-- TSREQ_CANCEL (R113): A write of QY.TSREQ.CANCEL cancels a pending timing-set change. -/
  | tsreqCancel (q : Fin 32)
  /-- TSET_NOACK_CANCEL (R113): A timing-set change not acknowledged by QY.TSFRM − 8 is cancelled with NOACK. -/
  | tsetNoackCancel (q : Fin 32)
  /-- TSET_CHANGE_APPLY (R113): An acknowledged timing-set change takes effect at heater frame QY.TSFRM. -/
  | tsetChangeApply (q : Fin 32)
  /-- SEG_STATCLR (R4): SEG.CTRL.STATCLR resets the SEG counters and fetch high-water mark. -/
  | segStatclr
  /-- CKG_STATCLR (R4): CKG.CTRL.STATCLR resets frame range, engine high-water mark and overrun counters. -/
  | ckgStatclr
  /-- REFERENCE_WINDOW (R55): Each 16-cycle AON window publishes the reference edge count and detects reference loss. -/
  | referenceWindow (edges : Nat)
  /-- PLL_LOSS_OF_LOCK (R56): Loss of the reference or PLL lock after BOOT sends the device to SAFE, or PLL2 takes NET down. -/
  | pllLossOfLock (p : Fin 3)
  /-- LANE_SEEK_RATE_SWITCH (R245): In SEEK the quay alternates line rate after 1,024 or 256 frames. -/
  | laneSeekRateSwitch (q : Fin 32)
  /-- UPSTREAM_LOCK_ACQUIRE (R245): The quay acquires upstream lock in SEEK and enters TRAIN. -/
  | upstreamLockAcquire (q : Fin 32)
  /-- TRAIN_PRESET_STEP (R246): After 64 frames the next tile preset is tried during automatic TRAIN. -/
  | trainPresetStep (q : Fin 32)
  /-- TRAIN_COMPLETE (R246): 256 clean frames end TRAIN and the lane enters DISCOVER. -/
  | trainComplete (q : Fin 32)
  /-- TRAIN_TIMEOUT (R246): TRAIN not complete within 4,096 frames sets TRAINFAIL and returns to SEEK. -/
  | trainTimeout (q : Fin 32)
  /-- DISCOVER_COMPLETE (R247): Discovery reads complete and the lane enters SKEW or FAULT on mismatch. -/
  | discoverComplete (q : Fin 32)
  /-- DISCOVER_TIMEOUT (R247): DISCOVER not complete within 4,096 frames sets DISCFAIL and returns to SEEK. -/
  | discoverTimeout (q : Fin 32)
  /-- SKEW_MEASURE_COMPLETE (R252): 256 RTT samples complete; LAUNCH and ULSLOT are computed and applied. -/
  | skewMeasureComplete (q : Fin 32)
  /-- LAUNCH_MOVE_DONE (R545): LAUNCH reaches its new value and the lane leaves SKEW for READY or RUN. -/
  | launchMoveDone (q : Fin 32)
  /-- LANE_ENTER_RUN (R248): A lane enters RUN at a tick and its slots enter service. -/
  | laneEnterRun (q : Fin 32)
  /-- UPSTREAM_LOCK_LOSS (R249): Upstream lock is lost in RUN and the receiver hunts for relock. -/
  | upstreamLockLoss (q : Fin 32)
  /-- UPSTREAM_RELOCK (R249): Two good consecutive upstream frames regain lock within RELOCK. -/
  | upstreamRelock (q : Fin 32)
  /-- RELOCK_TIMEOUT (R249): Lock not regained within RELOCK frames sends the lane to SEEK and its slots leave service. -/
  | relockTimeout (q : Fin 32)
  /-- PRE_RUN_LOCK_LOSS (R544): A lane in TRAIN to READY that loses upstream lock enters SEEK. -/
  | preRunLockLoss (q : Fin 32)
  /-- LNKCTRL_RETRAIN (R250): A write of QY.LNKCTRL.RETRAIN sends the lane to SEEK. -/
  | lnkctrlRetrain (q : Fin 32)
  /-- LNKCTRL_RESKEW (R256): A write of QY.LNKCTRL.RESKEW recalibrates LAUNCH in RUN in limited moves. -/
  | lnkctrlReskew (q : Fin 32)
  /-- QY_LNK_STATCLR (R4): QY.LNKCTRL.STATCLR resets the link counters and QY.ARRIVE.WORST. -/
  | qyLnkStatclr (q : Fin 32)
  /-- UPSTREAM_FRAME (R240): The quay receives one upstream frame, checks it and takes its samples, header and cell. -/
  | upstreamFrame (q : Fin 32) (f : Machine.UFrame) (a : Machine.UArrival)
  /-- DOWNSTREAM_ERROR_BURST (R242): DBAD non-zero in DERRLIM consecutive frames sets DERRBURST. -/
  | downstreamErrorBurst (q : Fin 32)
  /-- TILE_DOWNSTREAM_FRAME (R239): A tile receives a downstream frame and accepts it or treats it as bad. -/
  | tileDownstreamFrame (q : Fin 32) (p : Fin 2) (f : Machine.DArrival)
  /-- TILE_REFERENCE_INSTANT (R279): At each reference instant the tile applies a frame from one port or holds. -/
  | tileReferenceInstant (q : Fin 32) (taken : List (Nat × Bool))
  /-- TILE_UPSTREAM_LAUNCH (R224): The tile launches its upstream frame at the reference instant plus the upstream slot. -/
  | tileUpstreamLaunch (q : Fin 32) (p : Fin 2) (eye : Fin 256) (tph ttl : BitVec 16)
  /-- TILE_PARK (R281): HELDRUN reaching HOLDWIN parks the tile, sourcing no current. -/
  | tilePark (q : Fin 32)
  /-- TILE_LOCK (R238): A tile acquires or loses downstream lock, starting or stopping upstream frames. -/
  | tileLock (q : Fin 32) (p : Fin 2) (locked : Bool) (who : Option Machine.TileId)
  /-- TILE_CONTROL_RESET (R266): A tile's control logic resets, losing configuration, parking and setting FRESH. -/
  | tileControlReset (q : Fin 32)
  /-- TILE_CONDITION_DETECT (R274): 64 commanded samples move a heater output into or out of OPEN or COMPLY and queue an event. -/
  | tileConditionDetect (q : Fin 32) (output : Fin 768) (comply entered : Bool)
  /-- TILE_RD (R267): A tile executes an RD request and answers RDRSP. -/
  | tileRd (q : Fin 32) (p : Fin 2)
  /-- TILE_WR (R267): A tile executes a WR request and answers WRRSP. -/
  | tileWr (q : Fin 32) (p : Fin 2)
  /-- TILE_ANNOUNCE (R272): A tile prepares an announced range or bank change and answers ANNACK. -/
  | tileAnnounce (q : Fin 32) (p : Fin 2)
  /-- TILE_CANCEL (R272): A tile releases a preparation and answers CANACK. -/
  | tileCancel (q : Fin 32) (p : Fin 2)
  /-- RDRSP (R284): The device receives a read response and completes a firmware or discovery read. -/
  | rdrsp (q : Fin 32)
  /-- WRRSP (R284): The device receives a write response and completes the write request. -/
  | wrrsp (q : Fin 32)
  /-- ANNACK (R272): The device receives an announcement acknowledgement, OK or cancelling with NOACK. -/
  | annack (q : Fin 32)
  /-- CANACK (R272): The device receives a cancellation acknowledgement. -/
  | canack (q : Fin 32)
  /-- ERRRSP (R267): The device receives an error response to a request. -/
  | errrsp (q : Fin 32)
  /-- EVENT (R277): The device receives a tile EVENT and marks failed slots or raises TILE_EVENT. -/
  | event (q : Fin 32)
  /-- CHANNEL_RETRANSMIT_TIMEOUT (R263): RTO frames without acknowledgement cause all outstanding messages to be resent. -/
  | channelRetransmitTimeout (q : Fin 32)
  /-- CHANNEL_RETRY_FAIL (R264): RETRYMAX resends without acknowledgement fail the channel and reset it. -/
  | channelRetryFail (q : Fin 32)
  /-- TCHCTRL_RESET (R265): A write of QY.TCHCTRL.RESET starts a channel reset. -/
  | tchctrlReset (q : Fin 32)
  /-- CHANNEL_RESET_DONE (R265): A good upstream cell with RST ends the channel reset and numbering restarts. -/
  | channelResetDone (q : Fin 32)
  /-- QY_TCH_STATCLR (R4): QY.TCHCTRL.STATCLR resets the four channel counters. -/
  | qyTchStatclr (q : Fin 32)
  /-- TREQ_GO (R284): A write of QY.TREQ.GO sends one RD or WR of a tile register. -/
  | treqGo (q : Fin 32)
  /-- TREQ_TIMEOUT (R284): No answer within 256 frames completes the request with TIMEOUT. -/
  | treqTimeout (q : Fin 32)
  /-- OPEN (R293): PVE checks an OPEN message and queues it for the firmware or answers AUTHFAIL. -/
  | openMsg (d : Machine.Dgram)
  /-- CLOSE (R297): An accepted CLOSE request is answered and closes the session. -/
  | closeMsg (d : Machine.Dgram)
  /-- PING (R312): A PING is answered with its body unchanged. -/
  | ping (d : Machine.Dgram)
  /-- LOAD (R313): A LOAD places one chunk of an object into a staging handle. -/
  | load (d : Machine.Dgram)
  /-- COMMIT (R315): A COMMIT checks the staged object and puts it in force. -/
  | commit (d : Machine.Dgram)
  /-- DISCARD (R314): A DISCARD empties a staging handle. -/
  | discard (d : Machine.Dgram)
  /-- APPLY (R320): An APPLY requests a manifest run and is answered with an EXEC_ID. -/
  | apply (d : Machine.Dgram)
  /-- WITHDRAW (R321): A WITHDRAW makes an unadmitted queued record VOID with cause WITHDRAWN. -/
  | withdraw (d : Machine.Dgram)
  /-- TIDECTL_ARM (R322): TIDECTL OP 1 arms the shadow tide table as TID.CTRL.ARM. -/
  | tidectlArm (d : Machine.Dgram)
  /-- TIDECTL_CANCEL (R322): TIDECTL OP 2 cancels a pending arm as TID.CTRL.CANCEL. -/
  | tidectlCancel (d : Machine.Dgram)
  /-- TIDECTL_STOP (R322): TIDECTL OP 3 stops the active table as TID.CTRL.STOP. -/
  | tidectlStop (d : Machine.Dgram)
  /-- QUERY_DEVICE (R323): QUERY item DEVICE returns state, class, stepping, image slot, band and frame. -/
  | queryDevice (d : Machine.Dgram)
  /-- QUERY_TIME (R323): QUERY item TIME returns the frame and 64-bit TB3 time. -/
  | queryTime (d : Machine.Dgram)
  /-- QUERY_REG (R323): QUERY item REG returns consecutive register words. -/
  | queryReg (d : Machine.Dgram)
  /-- QUERY_SLOT (R323): QUERY item SLOT returns a slot's owner, flags, setpoint and bundle state. -/
  | querySlot (d : Machine.Dgram)
  /-- QUERY_CIRCUIT (R323): QUERY item CIRCUIT returns a circuit's state and alternative. -/
  | queryCircuit (d : Machine.Dgram)
  /-- QUERY_QUEUE (R323): QUERY item QUEUE returns a queue's depth, wait reason and balance. -/
  | queryQueue (d : Machine.Dgram)
  /-- QUERY_HEALTH (R514): QUERY item HEALTH returns the last health report. -/
  | queryHealth (d : Machine.Dgram)
  /-- MANIFEST_STATUS (R324): MANIFEST_STATUS returns an execution record and bitmap words. -/
  | manifestStatus (d : Machine.Dgram)
  /-- SLOT_CONTROL_OWNER (R325): SLOT_CONTROL OP 1 sets OWNER of named slots. -/
  | slotControlOwner (d : Machine.Dgram)
  /-- SLOT_CONTROL_FAILSET (R325): SLOT_CONTROL OP 2 sets FAILED on named slots. -/
  | slotControlFailset (d : Machine.Dgram)
  /-- SLOT_CONTROL_FAILCLR (R325): SLOT_CONTROL OP 3 clears FAILED on named slots. -/
  | slotControlFailclr (d : Machine.Dgram)
  /-- SLOT_CONTROL_CLRDOWN (R325): SLOT_CONTROL OP 4 clears DOWN on named circuits. -/
  | slotControlClrdown (d : Machine.Dgram)
  /-- SUBSCRIBE (R312): SUBSCRIBE sets the session's event mask. -/
  | subscribe (d : Machine.Dgram)
  /-- PENVAR_UNKNOWN_TYPE (R312): A message of an unlisted or disallowed TYPE is answered MALFORMED BADTYPE. -/
  | penvarUnknownType (d : Machine.Dgram)
  /-- SCMD_ACCEPT (R294): A write of PVE.SCMD.ACCEPT opens a HALF session for the head OPEN and derives keys. -/
  | scmdAccept
  /-- SCMD_REFUSE (R294): A write of PVE.SCMD.REFUSE answers the head OPEN with BUSY or DENIED. -/
  | scmdRefuse (refcode : Fin 2)
  /-- SCMD_CLOSE (R297): A write of PVE.SCMD.CLOSE closes the selected session. -/
  | scmdClose
  /-- HALF_TIMEOUT (R295): A HALF session that accepted no message within HALFTMO closes. -/
  | halfTimeout (idx : Fin 256)
  /-- IDLE_TIMEOUT (R297): An OPEN session idle for IDLE seconds closes. -/
  | idleTimeout (idx : Fin 256)
  /-- PVE_STATCLR (R4): PVE.CTRL.STATCLR resets the fifteen PVE counters. -/
  | pveStatclr
  /-- TB_INC_WRITE (R329): A write of TIM.TBnINCHI applies a new increment to TB1 or TB2 or is refused. -/
  | tbIncWrite (n : Fin 4) (v : Word)
  /-- TB_ADJ_WRITE (R330): A write of TIM.TBnADJHI adds a signed offset to TB1 or TB2. -/
  | tbAdjWrite (n : Fin 4) (v : Word)
  /-- TB_NS_READ_LATCH (R331): A read of TIM.TBnNS latches FRAC and WRAP of the same TIME cycle. -/
  | tbNsReadLatch (n : Fin 4) (cycle : Nat)
  /-- TB3_STEP (R336): TB3 takes its single step at the first tick meeting the step conditions. -/
  | tb3Step
  /-- FRAME_COUNTER_RELOAD (R337): At tick U the frame counter is loaded and held frame numbers are rebased by Δ. -/
  | frameCounterReload
  /-- TIM_STATCLR (R4): TIM.CTRL.STATCLR resets the five TIM counters. -/
  | timStatclr
  /-- PPS_IN_EDGE (R340): A PPS_IN rising edge captures all time bases. -/
  | ppsInEdge (cycle : Nat)
  /-- PPSNEXT_WRITE (R341): A write of TIM.PPSNEXT arms the next PPS_OUT edge. -/
  | ppsnextWrite (v : Word)
  /-- PPS_OUT_EDGE (R341): PPS_OUT rises when the chosen base reaches PPSNEXT and ARMED clears. -/
  | ppsOutEdge (cycle : Nat)
  /-- PPS_OUT_END (R341): The PPS_OUT pulse ends after WIDTH ms of TB0. -/
  | ppsOutEnd (cycle : Nat)
  /-- EVT_CAPTURE (R342): An edge on a capture pin records frame and time in its FIFO. -/
  | evtCapture (n : Fin 4) (falling : Bool) (cycle : Nat)
  /-- EVT_POP (R342): A write of EVT.POPn removes the head capture. -/
  | evtPop (n : Fin 4)
  /-- EVT_STATCLR (R4): EVT.CTRL.STATCLR resets the lost-capture counters. -/
  | evtStatclr
  /-- BEACON_EDGE_RECEIVE (R344): A BCN_IN edge is timestamped, decoded and the offset and validity updated. -/
  | beaconEdgeReceive (at100ps width : Nat)
  /-- BEACON_MISS (R344): Four frames without a beacon edge clear VALID and set MISS. -/
  | beaconMiss
  /-- BEACON_SKEW_MEASURE (R345): Every 1,000 frames TIN and TOUT are measured through the replica path. -/
  | beaconSkewMeasure (tin tout : BitVec 12)
  /-- BEACON_ECHO (R345): A device with ECHO copies each BCN_IN edge to BCN_OUT. -/
  | beaconEcho (at100ps width : Nat)
  /-- PARTNER_FAILED (R354): MISSLIM consecutive misses on both paths declare the partner failed. -/
  | partnerFailed
  /-- TAKEOVER (R355): A standby takes authority when the partner is failed and ACT_IN is not asserted. -/
  | takeover
  /-- DUAL_ACTIVE_YIELD (R356): ACT_IN asserted at two ticks on an authoritative device makes the junior yield. -/
  | dualActiveYield
  /-- MIRROR_FRAME (R359): A mirror frame is received, giving the partner's header, heartbeat and cells. -/
  | mirrorFrame (lane : Fin 2) (f : Machine.MArrival)
  /-- MIRROR_LANE_TRAIN (R358): A mirror lane completes training and comes up, or goes down on lock loss. -/
  | mirrorLaneTrain (lane : Fin 2) (up : Bool) (oneway : BitVec 16)
  /-- REQ (R363): A REQ cell makes the standby apply a request acceptance. -/
  | req
  /-- ADMIT (R363): An ADMIT cell makes the standby apply an admission or deferral. -/
  | admitEv
  /-- VOIDEV (R363): A VOIDEV cell makes the standby void a record before its start. -/
  | voidev
  /-- LATE (R364): A LATE cell reports bundles late on the active device. -/
  | late
  /-- TALLY (R367): A TALLY cell's tallies are compared with the standby's own. -/
  | tally
  /-- CONFIG (R363): A CONFIG cell applies a state-changing write or command at its frame. -/
  | config
  /-- SWAP (R377): A SWAP cell announces a planned swap and its frame, or cancels it. -/
  | swap
  /-- OBJECT (R365): An OBJECT cell installs a committed object and its cache entry on the standby. -/
  | object
  /-- SESSION (R365): A SESSION cell installs a session context change on the standby. -/
  | session
  /-- CACHE (R365): A CACHE cell installs a reply-cache entry on the standby. -/
  | cache
  /-- HOLDCODE (R367): A HOLDCODE cell gives the held drive codes of a PARKED-HOLD bundle. -/
  | holdcode
  /-- BREC (R370): A BREC record is placed in the standby's staged copy for an epoch. -/
  | brec
  /-- SBLK (R372): An SBLK state block of a join epoch is installed in the staged copy. -/
  | sblk
  /-- EPCTL (R369): An EPCTL cell requests, starts or ends an epoch. -/
  | epctl
  /-- ACK (R361): An ACK cell acknowledges ACKED and EPOCH cells. -/
  | ack
  /-- HELLO (R348): A HELLO cell exchanges fabric digest and identity, detecting mismatch or loopback. -/
  | hello
  /-- MIRROR_CELL_RETRANSMIT (R361): Unacknowledged ACKED or EPOCH cells are resent after the RTO of 8 frames. -/
  | mirrorCellRetransmit
  /-- STREAM_LOSS (R361): A STREAM cell not received by tick n + 2 clears READY and requests a join epoch. -/
  | streamLoss
  /-- TALLY_TIMEOUT (R367): An active tally not arrived by tick f + 2 fails the comparison. -/
  | tallyTimeout
  /-- EPOCH_COMMIT (R371): An epoch commits, replacing live state with verified staged state. -/
  | epochCommit
  /-- EPOCH_TIMEOUT (R371): An epoch not committed within EPLIM × 1,024 frames is discarded. -/
  | epochTimeout
  /-- MIR_EPOCH (R369): A write of MIR.CTRL.EPOCH requests an epoch of unsynced bundles. -/
  | mirEpoch
  /-- MIR_RESYNC (R372): A write of MIR.CTRL.RESYNC clears READY and opens a join epoch. -/
  | mirResync
  /-- MIR_RETRAIN (R358): A write of MIR.CTRL.RETRAIN retrains both mirror lanes. -/
  | mirRetrain
  /-- MIR_STATCLR (R4): MIR.CTRL.STATCLR resets the eight MIR counters. -/
  | mirStatclr
  /-- ROL_SWAP (R377): A write of ROL.CMD.SWAP requests a planned swap at frame W. -/
  | rolSwap
  /-- ROL_SWCANCEL (R377): A write of ROL.CMD.SWCANCEL cancels a pending swap. -/
  | rolSwcancel
  /-- ROL_STATCLR (R4): ROL.CMD.STATCLR resets the six ROL counters. -/
  | rolStatclr
  /-- SWAP_NOACK (R377): A swap not shown SWPEND by the partner by frame W − 8 is cancelled. -/
  | swapNoack
  /-- SWAP_AT_FRAME (R377): At frame W authority passes from the old holder to the new. -/
  | swapAtFrame
  /-- SENSOR_SAMPLE (R378): Each sampling period the die sensors convert and TMP.MAX is updated. -/
  | sensorSample (results : List (Option Int))
  /-- SENSOR_FAIL (R379): Three consecutive failed samples take a sensor out of service. -/
  | sensorFail (n : Fin 16)
  /-- THERMAL_TRIP (R382): At the tick after TMP.MAX reaches TRIP, or too few sensors, the device enters SAFE. -/
  | thermalTrip
  /-- THERMAL_SHUTDOWN (R383): A comparator asserting at 150 °C holds every domain but AON in reset. -/
  | thermalShutdown
  /-- SHUTDOWN_RELEASE (R383): After 1 s below 130 °C the reset is released and BOOT starts. -/
  | shutdownRelease
  /-- WRITE_HOLD_RELEASE (R384): A held flash or OTP operation is issued in the first period inside the temperature window. -/
  | writeHoldRelease
  /-- BAND_COMPUTE (R385): Every 1,000 frames T_P is computed from tile temperatures and the band chosen. -/
  | bandCompute
  /-- BAND_CHANGE (R387): A new band takes effect at the next tick and BAND_CHANGE is raised. -/
  | bandChange
  /-- QTRIG_CLEAR (R392): A write of 1 to a CAL.QTRIG bit clears it and reloads the quay reference. -/
  | qtrigClear (v : Word)
  /-- DIETRIG_CLEAR (R392): A write of 1 to CAL.STAT.DIETRIG clears it and reloads the die reference. -/
  | dietrigClear
  /-- CAL_TRIM_WRITE (R389): A write of CAL.TRIM sets a journal-overridable trim or is refused. -/
  | calTrimWrite (v : Word)
  /-- CAL_GO_ELEMENT (R393): CAL.UCTRL.GO with KIND ELEMENT starts an element sweep and holds the channel's bundles. -/
  | calGoElement
  /-- CAL_GO_SCALE (R401): CAL.UCTRL.GO with KIND SCALE starts a scale calibration of a quay. -/
  | calGoScale
  /-- CAL_CANCEL (R398): A write of CAL.UCTRL.CANCEL abandons the unit's sweep. -/
  | calCancel
  /-- SWEEP_WINDOW_FOUND (R395): The unit fixes its window F0 in scheduler frame F0 − 3. -/
  | sweepWindowFound (u : Fin 4)
  /-- SWEEP_WINDOW_TIMEOUT (R395): No window within WAITMAX × 1,024 frames ends the unit with TIMEOUT. -/
  | sweepWindowTimeout (u : Fin 4)
  /-- SWEEP_RUN (R396): From F0 the sweep triangle replaces the pilot and capture entries are written. -/
  | sweepRun (u : Fin 4)
  /-- SCALE_CHANGE (R401): At frame C the scale unit makes its range or mode change. -/
  | scaleChange (u : Fin 4)
  /-- SWEEP_CAPTURE_END (R400): After the last capture frame the unit releases its hold. -/
  | sweepCaptureEnd (u : Fin 4)
  /-- CALIBRATION_RELEASE (R400): Held bundles return to their return state at the second update frame after the capture and the unit enters DONE. -/
  | calibrationRelease (u : Fin 4)
  /-- CAL_SUBMIT (R403): CAL.SUBMIT.GO judges a candidate as ACCEPTED, PENDING or REJECTED. -/
  | calSubmit
  /-- CAL_STORE (R408): A write of CAL.CTRL.STORE starts or records a journal store. -/
  | calStore
  /-- JOURNAL_STORE_COMPLETE (R408): A journal store ends, clearing DIRTY and recording its result. -/
  | journalStoreComplete (verified : Bool)
  /-- CAL_STATCLR (R4): CAL.CTRL.STATCLR resets the seven CAL counters. -/
  | calStatclr
  /-- TMP_STATCLR (R4): TMP.CTRL.STATCLR resets the three TMP counters. -/
  | tmpStatclr
  /-- XSP_READ (R434): XSP.OPCMD GO with KIND READ submits a flash-to-table-memory copy. -/
  | xspRead
  /-- XSP_PROGRAM (R434): XSP.OPCMD GO with KIND PROGRAM submits a flash program. -/
  | xspProgram
  /-- XSP_ERASE (R434): XSP.OPCMD GO with KIND ERASE submits a flash erase. -/
  | xspErase
  /-- XSP_CANCEL (R434): A write of XSP.OPCTRL.CANCEL removes waiting firmware operations. -/
  | xspCancel
  /-- XSP_STATCLR (R4): XSP.OPCTRL.STATCLR resets the two XSP counters. -/
  | xspStatclr
  /-- FLASH_OP_COMPLETE (R434): A flash operation completes and sets DONE or ERR. -/
  | flashOpComplete
  /-- FLASH_OP_TIMEOUT (R434): A flash busy bit not cleared in time ends the operation with TIMEOUT. -/
  | flashOpTimeout
  /-- OTP_PROG (R433): A write of OTP.PCMD.PROG programs bits into an OTP word or is refused. -/
  | otpProg
  /-- OTP_CANCEL (R433): A write of OTP.PCMD.CANCEL removes a held programming operation. -/
  | otpCancel
  /-- OTP_PROG_COMPLETE (R433): An OTP programming operation completes and PDONE or PERR sets. -/
  | otpProgComplete (ok : Bool)
  /-- SYS_GO (R436): A write of SYS.CTRL.GO marks the firmware ready in STAGING. -/
  | sysGo
  /-- SYS_SWRST (R410): A write of SYS.CTRL.SWRST sends the device to OFF. -/
  | sysSwrst
  /-- SYS_LOCK_WRITE (R5): A write setting SYS.LOCK locks every RWL field until reset. -/
  | sysLockWrite (v : Word)
  /-- REGISTER_WRITE (R4): A write to a register with no row of its own acts by its access codes. -/
  | registerWrite (master : Fin 11) (a : BitVec 22) (v : Word)
  /-- ADD (R444): RD = RA + RB. -/
  | add (n : Fin 4)
  /-- SUB (R444): RD = RA − RB. -/
  | sub (n : Fin 4)
  /-- AND (R444): RD = RA AND RB. -/
  | and (n : Fin 4)
  /-- OR (R444): RD = RA OR RB. -/
  | or (n : Fin 4)
  /-- XOR (R444): RD = RA XOR RB. -/
  | xor (n : Fin 4)
  /-- SHL (R444): RD = RA shifted left by RB[4:0]. -/
  | shl (n : Fin 4)
  /-- SHR (R444): RD = RA shifted right with zero fill. -/
  | shr (n : Fin 4)
  /-- SAR (R444): RD = RA shifted right with sign fill. -/
  | sar (n : Fin 4)
  /-- MUL (R444): RD = low 32 bits of RA × RB. -/
  | mul (n : Fin 4)
  /-- SLTU (R444): RD = 1 if RA < RB unsigned. -/
  | sltu (n : Fin 4)
  /-- ADDI (R444): RD = RA + sign-extended immediate. -/
  | addi (n : Fin 4)
  /-- ANDI (R444): RD = RA AND zero-extended immediate. -/
  | andi (n : Fin 4)
  /-- ORI (R444): RD = RA OR zero-extended immediate. -/
  | ori (n : Fin 4)
  /-- XORI (R444): RD = RA XOR zero-extended immediate. -/
  | xori (n : Fin 4)
  /-- SHI (R444): Shift of RA by an immediate amount and kind. -/
  | shi (n : Fin 4)
  /-- MOVHI (R444): RD = IMM[13:0] × 2^18. -/
  | movhi (n : Fin 4)
  /-- LD (R440): Loads a word from local RAM or the matrix. -/
  | ld (n : Fin 4) (cycle wait : Nat)
  /-- ST (R440): Stores a word, posting matrix stores. -/
  | st (n : Fin 4) (cycle wait : Nat)
  /-- FENCE (R444): Waits until every earlier store has completed. -/
  | fence (n : Fin 4) (cycle wait : Nat)
  /-- BEQ (R444): Branches if RA equals RB. -/
  | beq (n : Fin 4)
  /-- BNE (R444): Branches if RA differs from RB. -/
  | bne (n : Fin 4)
  /-- BLT (R444): Branches if RA < RB signed. -/
  | blt (n : Fin 4)
  /-- BGE (R444): Branches if RA ≥ RB signed. -/
  | bge (n : Fin 4)
  /-- BLTU (R444): Branches if RA < RB unsigned. -/
  | bltu (n : Fin 4)
  /-- BGEU (R444): Branches if RA ≥ RB unsigned. -/
  | bgeu (n : Fin 4)
  /-- JMP (R444): PC = 4 × TGT. -/
  | jmp (n : Fin 4)
  /-- CALL (R444): Saves the return address in g15 and jumps. -/
  | call (n : Fin 4)
  /-- JR (R444): PC = RA[15:0]. -/
  | jr (n : Fin 4)
  /-- MFS (R442): Reads a system register into RD. -/
  | mfs (n : Fin 4)
  /-- MTS (R442): Writes RA into a system register. -/
  | mts (n : Fin 4)
  /-- SIG (R444): Waits for stores then raises software interrupt source 240 + N. -/
  | sig (n : Fin 4) (cycle wait : Nat)
  /-- WAIT (R458): Takes a deliverable interrupt or puts the sequencer to sleep. -/
  | wait (n : Fin 4)
  /-- RETI (R455): Pops the return stack and returns or tail-chains to a deliverable source. -/
  | reti (n : Fin 4)
  /-- HALT (R444): The sequencer enters HALTED after earlier stores complete. -/
  | halt (n : Fin 4) (cycle wait : Nat)
  /-- ILLEGAL_INSTRUCTION (R445): An illegal instruction has no effect and puts the sequencer in FAULT. -/
  | illegalInstruction (n : Fin 4)
  /-- ENTRY_SEQUENCE (R454): A deliverable source starts the three-cycle interrupt entry to its handler slot. -/
  | entrySequence (n : Fin 4)
  /-- WAIT_WAKE (R458): An event on an enabled source routed to a sleeping sequencer wakes it. -/
  | waitWake (n : Fin 4) (slept : Nat)
  /-- TSQ_START (R446): A write of TSQ.CTLn.START starts a halted or faulted sequencer at its entry. -/
  | tsqStart (n : Fin 4)
  /-- TSQ_HALT (R446): A write of TSQ.CTLn.HALT halts the sequencer after the current instruction. -/
  | tsqHalt (n : Fin 4)
  /-- WATCHDOG_EXPIRY (R447): The watchdog count reaching PERIOD raises TS_WDOG and may halt the sequencer. -/
  | watchdogExpiry (n : Fin 4)
  /-- WDKICK (R447): A write of TSQ.WDKICKn.KICK restarts the watchdog count. -/
  | wdkick (n : Fin 4)
  /-- SEM_ACQ (R448): A write of TSQ.SEMk.ACQ takes a free semaphore for the writing sequencer. -/
  | semAcq (k : Fin 16) (master : Fin 11)
  /-- SEM_REL (R448): A write of TSQ.SEMk.REL from the owner frees the semaphore. -/
  | semRel (k : Fin 16) (master : Fin 11)
  /-- ICU_SET (R449): A write of 1 to an ICU.SETw bit is an event on that source. -/
  | icuSet (w : Fin 8) (v : Word)
  /-- ICU_PEND_CLEAR (R456): A write of 1 to an ICU.PENDw bit clears the pending bit. -/
  | icuPendClear (w : Fin 8) (v : Word)
  /-- ICU_OVR_CLEAR (R449): A write of 1 to an ICU.OVRw bit clears the overrun bit. -/
  | icuOvrClear (w : Fin 8) (v : Word)
  /-- ICU_STATCLR (R4): ICU.CTRL.STATCLR resets SPUR and LOSTCNT. -/
  | icuStatclr
  /-- MATRIX_BURST (R461): A master's burst is arbitrated and completed at its target, or ends with an error response. -/
  | matrixBurst (b : Machine.Burst) (g : Machine.Grant)
  /-- CRANE_START (R475): A write of CRN.CHCTRLc.START runs the channel's descriptor chain. -/
  | craneStart (c : Fin 4)
  /-- CRANE_ABORT (R479): A write of CRN.CHCTRLc.ABORT stops a busy channel. -/
  | craneAbort (c : Fin 4) (cut : Option Machine.CraneAt)
  /-- CRANE_DESCRIPTOR_COMPLETE (R478): A descriptor completes and the next is read or the chain ends DONE. -/
  | craneDescriptorComplete (c : Fin 4) (at' : Machine.CraneAt)
  /-- CRANE_ERROR (R478): An error response stops the channel with ERR. -/
  | craneError (c : Fin 4) (at' : Machine.CraneAt)
  /-- CRANE_ENGINE_LIMIT_RESUME (R480): A burst held by the engine-window beat limit proceeds at the next tick. -/
  | craneEngineLimitResume (c : Fin 4) (at' : Machine.CraneAt)
  /-- CRN_STATCLR (R4): CRN.CTRL.STATCLR resets the two CRN counters. -/
  | crnStatclr
  /-- MTX_STATCLR (R4): MTX.CTRL.STATCLR resets the MTX counters and wait marks. -/
  | mtxStatclr
  /-- NET_LINK_CHANGE (R483): A port's link goes up or down and LINKCHG is set. -/
  | netLinkChange (p : Fin 2) (sync : Bool) (offer : Machine.AnOffer)
  /-- NET_FRAME_RECEIVE (R484): A received Ethernet frame is checked and passed to PVE, PTP or ARP and ICMP handling. -/
  | netFrameReceive (p : Fin 2) (x : Machine.EthFrame)
  /-- NET_ANRST (R482): A write of NET.CTRL.ANRST restarts auto-negotiation. -/
  | netAnrst (p : Fin 2)
  /-- NET_ANNOUNCE (R488): A write of NET.CTRL.ANNOUNCE starts announcements of every own address. -/
  | netAnnounce (p : Fin 2)
  /-- ADDRESS_ANNOUNCE_REPEAT (R488): Announcements are repeated 10 ms and 100 ms after their event. -/
  | addressAnnounceRepeat (p : Fin 2)
  /-- NET_STATCLR (R4): NET.CTRL.STATCLR resets the ten NET counters. -/
  | netStatclr (p : Fin 2)
  /-- PRX_POP (R493): A write of NET.PRX.POP frees the oldest PTP receive buffer. -/
  | prxPop (p : Fin 2)
  /-- PTXCMD_GO (R494): A write of NET.PTXCMD.GO queues a PTP frame for transmission. -/
  | ptxcmdGo (p : Fin 2)
  /-- PTP_TRANSMIT_DONE (R494): A PTP frame is sent and its transmit timestamp recorded. -/
  | ptpTransmitDone (p : Fin 2) (cycle : Fin 251) (frac : Fin 0x400000000)
  /-- TXTS_READ_LATCH (R494): A read of NET.TXTS latches NET.TXTSF. -/
  | txtsReadLatch (p : Fin 2)
  /-- SETADDR (R497): SMBus SETADDR sets the access address. -/
  | setaddr (bytes : List Byte) (c : Machine.SmbCall)
  /-- READ (R497): SMBus READ returns the word at the address and advances it. -/
  | read (c : Machine.SmbRead)
  /-- SMBUS_READ_TIMEOUT (R497): A READ not completed in 20 µs returns 0xFFFF_FFFF with status TIMEOUT. -/
  | smbusReadTimeout
  /-- WRITE (R497): SMBus WRITE writes the word after the STOP and advances the address. -/
  | write (bytes : List Byte) (c : Machine.SmbCall) (cycle : Nat)
  /-- STATUS (R499): SMBus STATUS returns the last command's status. -/
  | status
  /-- STATE (R497): SMBus STATE returns device state, FAULT_N and IRQ_N. -/
  | state
  /-- MBWRITE (R501): SMBus MBWRITE places a mailbox request for the firmware. -/
  | mbwrite (bytes : List Byte) (c : Machine.SmbCall)
  /-- MBREAD (R501): SMBus MBREAD returns the posted mailbox reply. -/
  | mbread
  /-- SCL_LOW_TIMEOUT (R496): SCL held low 25 to 35 ms resets the target interface. -/
  | sclLowTimeout
  /-- MBCTRL_ACK (R501): A write of SBI.MBCTRL.ACK clears MBFULL. -/
  | mbctrlAck
  /-- MBCTRL_POST (R501): A write of SBI.MBCTRL.POST posts a mailbox reply. -/
  | mbctrlPost
  /-- UART_RECEIVE_BYTE (R502): The UART receives a byte into its FIFO or loses it. -/
  | uartReceiveByte (v : Byte) (stop : Bool)
  /-- UTX_WRITE (R502): A write of SBI.UTX queues a byte for transmission. -/
  | utxWrite (v : Byte)
  /-- UCTRL_RXPOP (R502): A write of SBI.UCTRL.RXPOP removes the shown received byte. -/
  | uctrlRxpop
  /-- UCTRL_FLUSH (R502): A write of SBI.UCTRL.FLUSH empties both UART FIFOs. -/
  | uctrlFlush
  /-- SBI_STATCLR (R4): SBI.UCTRL.STATCLR resets ACCERR and PECERR. -/
  | sbiStatclr
  /-- TAP_RESET (R503): Power-on or TRST_N low resets the TAP, loading IDCODE. -/
  | tapReset
  /-- IDCODE (R503): JTAG IDCODE selects the 32-bit identification register. -/
  | idcode
  /-- SAMPLE_PRELOAD (R503): JTAG SAMPLE/PRELOAD selects the boundary-scan register. -/
  | samplePreload
  /-- EXTEST (R504): JTAG EXTEST drives outputs from boundary scan and holds the device in OFF. -/
  | extest
  /-- CLAMP (R504): JTAG CLAMP selects bypass with outputs from boundary scan, holding the device in OFF. -/
  | clamp
  /-- HIGHZ (R504): JTAG HIGHZ makes scanned outputs high-impedance and holds the device in OFF. -/
  | highz
  /-- MEMACC (R505): At Update-DR a MEMACC READ or WRITE is issued through M10. -/
  | memacc (op : Fin 4) (a v : Word) (cycle : Nat)
  /-- BYPASS (R503): JTAG BYPASS selects the 1-bit bypass register. -/
  | bypass
  /-- DBG_STATALL (R513): A write of DBG.CTRL.STATALL clears every counter and mark in one cycle. -/
  | dbgStatall
  /-- DBG_SAFE (R516): A write of DBG.CTRL.SAFE sends the device to SAFE at the next tick. -/
  | dbgSafe
  /-- DBG_PUT (R510): A write of DBG.CTRL.PUT writes a firmware fault log entry. -/
  | dbgPut
  /-- SAFE_AUTO_RESTART (R519): DELAY seconds after the SAFE cause clears the AON domain sends the device to OFF. -/
  | safeAutoRestart
  /-- RESTART_COUNT_RESET (R519): 600 s in STANDBY, ACTIVE or SOLO returns RESTARTS to zero. -/
  | restartCountReset
  /-- HEALTH_REPORT_CLOSE (R514): At each whole second the firmware closes the health report. -/
  | healthReportClose (tests : List Machine.SelfStep)
  /-- HBT_IN_EDGE (R351): The partner's heartbeat changes the level of HBT_IN, marking the pin-path heartbeat of the current frame. -/
  | hbtInEdge
  /-- ACT_IN_EDGE (R353): The partner's ACT_OUT changes the level of ACT_IN, which is remembered for the assertion test of the next two ticks. -/
  | actInEdge
  /-- RNG_HEALTH_FAIL (R294): The entropy source's continuous health test fails at run time, setting PVE.STAT.RNGFAIL so that every later ACCEPT is ignored. -/
  | rngHealthFail
  /-- TILE_OVERTEMP (R275): The tile's temperature TTL rises above the tile's own limit and the tile queues an OVERTEMP event. -/
  | tileOvertemp (q : Fin 32)
  /-- TB3_NS_WRAP (R450): The NS view of TB3 wraps at a TIME cycle, which raises the TIME_WRAP source. -/
  | tb3NsWrap (cycle : Nat)
  /-- UART_SEND_BYTE (R502): The UART finishes sending a byte from its transmit FIFO, which frees a place and may raise the UART source below TXTH. -/
  | uartSendByte
  /-- NET_FRAME_SENT (R495): A port finishes transmitting an ARP, neighbour-discovery, ICMP or Penvar frame, counts it in TXFRM, and starts the next frame by precedence. -/
  | netFrameSent (p : Fin 2)
  deriving DecidableEq, Repr

end Sys2Proof
end

