-- ==== Sys2Proof/Decode.lean ====
section
/-! DEFINITION. The command that a word of spec/opcode_table.json spells. The table gives no row any bits (its
"fields" are empty and it has no pattern), so no word spells a command (log 1). -/
namespace Sys2Proof

/-- The command spelt by a word of `nbits` bits: none, since the table gives no row an encoding. -/
def decodeTableWord (_nbits _w : Nat) : Option Instr := none

end Sys2Proof
end

