-- ==== Sys2Proof/Machine/LinkBits.lean ====
section
/-! DEFINITION. Link frames on the line, to the bit (R225 to R233, R259 to R261, R267, R268): fields most significant bit
first, the CRC, the scrambler, and the bytes of cells and messages. `crcOk` of a received frame stands for the check of
`linkCrc` at the receiver. -/
namespace Sys2Proof.Machine

/-- The `w` bits of a field, most significant first (R230). -/
def msbBits (w v : Nat) : List Bool := (List.range w).map fun i => v.testBit (w - 1 - i)

/-- The SYNC word (R231). -/
def syncWord (up : Bool) : Nat := if up then 0xC30F65921EDA78B4 else 0x3CF09A6DE125874B

/-- R233: one bit of the CRC register. -/
def crcBit (r : Nat) (b : Bool) : Nat :=
  let sh := r * 2 % 2 ^ 32
  if r.testBit 31 != b then sh ^^^ 0x1EDC6F41 else sh

/-- R233: the CRC of the bits from HDR to the end of MSG. -/
def linkCrc (bits : List Bool) : Nat := (bits.foldl crcBit 0xFFFFFFFF) ^^^ 0xFFFFFFFF

/-- R232: the scrambler's seed. -/
def scrSeed (up : Bool) (fnum : Nat) : Nat := fnum % 2 ^ 24 * 128 + (if up then 0b0110011 else 0b1010101)

/-- R232: one step of the scrambler's register, and the bit that it puts out. -/
def scrStep (s : Nat) : Bool × Nat :=
  let b := s.testBit 30 != s.testBit 27
  (b, (s * 2 + b2n b) % 2 ^ 31)

/-- R232: the register after so many bits. -/
def scrAfter : Nat → Nat → Nat
  | 0, s => s
  | n + 1, s => scrAfter n (scrStep s).2

/-- R219: the free-running output of the scrambler. -/
def scrRun : Nat → Nat → List Bool
  | 0, _ => []
  | n + 1, s => (scrStep s).1 :: scrRun n (scrStep s).2

/-- R232: bits scrambled from a register value. -/
def scramble : Nat → List Bool → List Bool
  | _, [] => []
  | s, d :: r => (d != (scrStep s).1) :: scramble (scrStep s).2 r

/-- Big-endian bytes of a channel message (R267, R268). -/
def TMsg.bytes : TMsg → List Byte
  | .rd t a c => beBytes 1 1 ++ beBytes 1 t ++ beBytes 2 a ++ beBytes 1 c
  | .wr t a ws => beBytes 1 2 ++ beBytes 1 t ++ beBytes 2 a ++ beBytes 1 ws.length ++ [0] ++ ws.flatMap (beBytes 4)
  | .announce t k f v => beBytes 1 3 ++ beBytes 1 t ++ beBytes 1 k ++ beBytes 3 f ++ beBytes 1 v
  | .cancel t k f => beBytes 1 4 ++ beBytes 1 t ++ beBytes 1 k ++ beBytes 3 f
  | .rdRsp t st ws => beBytes 1 0x81 ++ beBytes 1 t ++ beBytes 1 st ++ beBytes 1 ws.length ++ ws.flatMap (beBytes 4)
  | .wrRsp t st => beBytes 1 0x82 ++ beBytes 1 t ++ beBytes 1 st
  | .annAck t st k f => beBytes 1 0x83 ++ beBytes 1 t ++ beBytes 1 st ++ beBytes 1 k ++ beBytes 3 f
  | .canAck t st k f => beBytes 1 0x84 ++ beBytes 1 t ++ beBytes 1 st ++ beBytes 1 k ++ beBytes 3 f
  | .errRsp t st => beBytes 1 0x8F ++ beBytes 1 t ++ beBytes 1 st
  | .event n c o f l => beBytes 1 0x90 ++ beBytes 1 n ++ beBytes 1 c ++ beBytes 2 o ++ beBytes 3 f ++ beBytes 1 (b2n l)
  | .other op t => beBytes 1 op ++ beBytes 1 t

/-- The TAG of a message (R261). An EVENT carries its count there (R268). -/
def TMsg.tag : TMsg → Nat
  | .rd t _ _ => t
  | .wr t _ _ => t
  | .announce t _ _ _ => t
  | .cancel t _ _ => t
  | .rdRsp t _ _ => t
  | .wrRsp t _ => t
  | .annAck t _ _ _ => t
  | .canAck t _ _ _ => t
  | .errRsp t _ => t
  | .event n _ _ _ _ => n
  | .other _ t => t

/-- R259, R260: the 32 bytes of a cell. A malformed one is shown with LEN = 1. -/
def Cell.bytes (up : Bool) (c : Cell) : List Byte :=
  let m := match c.body with
    | .msg _ m => m.bytes
    | _ => []
  let seq := match c.body with
    | .msg q _ => q
    | _ => 0
  let len := match c.body with
    | .malformed => 1
    | _ => m.length
  let flags := if up then b2n c.rst * 128 + b2n c.fresh * 64 + c.rng % 4 * 16 + c.tsb % 2 * 8 + b2n c.evpend * 4
    else b2n c.rst * 128 + c.rng % 4 * 32 + c.tsb % 2 * 16
  let tail := if up then beBytes 2 c.tph ++ beBytes 2 c.ttl else List.replicate 4 0
  beBytes 1 seq ++ beBytes 1 c.ack ++ beBytes 1 len ++ beBytes 1 flags ++ slice m 0 24 ++ tail

/-- The 256 bits of MSG; all zero without a cell (R227, R228, R259). -/
def msgBits (up : Bool) (c : Option Cell) : List Bool :=
  match c with
  | some c => (c.bytes up).flatMap fun b => msbBits 8 b.toNat
  | none => List.replicate 256 false

/-- The slots of a generation (R218). -/
def genSlots (gen : Nat) : Nat := if gen = 1 then 192 else 384

/-- The monitor channels of a generation (R218). -/
def genMons (gen : Nat) : Nat := if gen = 1 then 48 else 96

/-- R226: HDR of a downstream frame. -/
def DFrame.hdr (f : DFrame) : Nat :=
  f.ftype % 16 * 2 ^ 60 + f.gen % 4 * 2 ^ 58 + b2n f.auth * 2 ^ 57 + b2n f.three * 2 ^ 56 + b2n f.disc * 2 ^ 55
    + f.fnum % 2 ^ 24 * 2 ^ 24 + f.fill % 65536

/-- R227: the downstream training word. -/
def DFrame.train (f : DFrame) : Nat := f.tpre % 8 * 2 ^ 61 + b2n f.trained * 2 ^ 60

/-- R225, R227: the bits of a downstream frame from HDR to the end of MSG. -/
def DFrame.body (f : DFrame) : List Bool :=
  let n := genSlots f.gen
  let drive := if f.ftype = 3 then msbBits 64 f.train ++ List.replicate (27 * n - 64) false
    else (List.range n).flatMap fun i => msbBits 27 (f.words.getD i 0)
  msbBits 64 f.hdr ++ drive ++ msgBits false f.cell

/-- R225, R230 to R233: a downstream frame as it leaves the framer. -/
def DFrame.line (f : DFrame) : List Bool :=
  msbBits 64 (syncWord false)
    ++ scramble (scrSeed false f.fnum) (f.body ++ msbBits 32 (linkCrc f.body) ++ List.replicate f.fill false)

/-- R229: HDR of an upstream frame. -/
def UFrame.hdr (f : UFrame) : Nat :=
  f.ftype % 16 * 2 ^ 60 + f.gen % 4 * 2 ^ 58 + f.port % 2 * 2 ^ 57 + f.asrc % 4 * 2 ^ 55 + b2n f.src0 * 2 ^ 54
    + b2n f.hold * 2 ^ 53 + b2n f.park * 2 ^ 52 + f.fnum % 2 ^ 24 * 2 ^ 24 + f.rxfn % 256 * 2 ^ 16
    + f.dbad % 8 * 2 ^ 13 + f.tsig % 256

/-- R228: the upstream training word. -/
def UFrame.train (f : UFrame) : Nat := f.eye % 256 * 2 ^ 56 + f.cpre % 8 * 2 ^ 53 + b2n f.locked * 2 ^ 52

/-- R228: the bits of an upstream frame from HDR to the end of MSG. -/
def UFrame.body (f : UFrame) : List Bool :=
  let n := genMons f.gen
  let samples := if f.ftype = 3 then msbBits 64 f.train ++ List.replicate (17 * n - 64) false
    else (List.range n).flatMap fun i =>
      let x := f.samples.getD i (0, false)
      x.2 :: msbBits 16 x.1
  msbBits 64 f.hdr ++ samples ++ msgBits true f.cell

/-- R228, R230 to R233: an upstream frame as it leaves the tile, with the fill that lasts to the next launch. -/
def UFrame.line (f : UFrame) (fill : Nat) : List Bool :=
  msbBits 64 (syncWord true)
    ++ scramble (scrSeed true f.fnum) (f.body ++ msbBits 32 (linkCrc f.body) ++ List.replicate fill false)

/-- R228: the fixed part of an upstream frame in bits. -/
def upFixed (gen : Nat) : Nat := if gen = 1 then 1232 else 2048

/-- R225: the fixed part of a downstream frame in bits. -/
def fixedBits (gen : Nat) : Nat := if gen = 1 then 5600 else 10784

/-- R221: the bits of a frame of fabric time that lasts `c` TIME cycles. -/
def frameBits (gen c : Nat) : Nat := if gen = 1 then 25 * c else 50 * c

end Sys2Proof.Machine
end

