-- ==== Sys2Proof/Machine/Crypto.lean ====
section
/-! DEFINITION. The cryptography the manual names: CRC-32C (R97), SHA-256, HMAC-SHA-256 and HKDF (R291, R292, R294) and
the check of an ECDSA signature over P-256 (R427), over plain numbers. -/
namespace Sys2Proof.Machine

/-! ### CRC-32C (R97) -/

/-- Eight steps of the reflected polynomial 0x1EDC6F41. -/
def crcByte : Nat → Nat → Nat
  | 0, c => c
  | n + 1, c => crcByte n (if c % 2 = 1 then (c / 2) ^^^ 0x82F63B78 else c / 2)

/-- The CRC register after some bytes. -/
def crcRun : List Byte → Nat → Nat
  | [], c => c
  | b :: t, c => crcRun t (crcByte 8 (c ^^^ b.toNat))

/-- R97: CRC-32C of a list of bytes. -/
def crc32c (l : List Byte) : Nat := crcRun l 0xFFFFFFFF ^^^ 0xFFFFFFFF

/-! ### SHA-256 (FIPS 180-4) -/

/-- The round constants. -/
def shaK : List Nat :=
  [0x428a2f98, 0x71374491, 0xb5c0fbcf, 0xe9b5dba5, 0x3956c25b, 0x59f111f1, 0x923f82a4, 0xab1c5ed5]
    ++ [0xd807aa98, 0x12835b01, 0x243185be, 0x550c7dc3, 0x72be5d74, 0x80deb1fe, 0x9bdc06a7, 0xc19bf174]
    ++ [0xe49b69c1, 0xefbe4786, 0x0fc19dc6, 0x240ca1cc, 0x2de92c6f, 0x4a7484aa, 0x5cb0a9dc, 0x76f988da]
    ++ [0x983e5152, 0xa831c66d, 0xb00327c8, 0xbf597fc7, 0xc6e00bf3, 0xd5a79147, 0x06ca6351, 0x14292967]
    ++ [0x27b70a85, 0x2e1b2138, 0x4d2c6dfc, 0x53380d13, 0x650a7354, 0x766a0abb, 0x81c2c92e, 0x92722c85]
    ++ [0xa2bfe8a1, 0xa81a664b, 0xc24b8b70, 0xc76c51a3, 0xd192e819, 0xd6990624, 0xf40e3585, 0x106aa070]
    ++ [0x19a4c116, 0x1e376c08, 0x2748774c, 0x34b0bcb5, 0x391c0cb3, 0x4ed8aa4a, 0x5b9cca4f, 0x682e6ff3]
    ++ [0x748f82ee, 0x78a5636f, 0x84c87814, 0x8cc70208, 0x90befffa, 0xa4506ceb, 0xbef9a3f7, 0xc67178f2]

/-- The initial hash value. -/
def shaInit : List Nat :=
  [0x6a09e667, 0xbb67ae85, 0x3c6ef372, 0xa54ff53a, 0x510e527f, 0x9b05688c, 0x1f83d9ab, 0x5be0cd19]

/-- Rotation right of a 32-bit word. -/
def rotr (x n : Nat) : Nat := x / 2 ^ n + x % 2 ^ n * 2 ^ (32 - n)

/-- The first small mixing function. -/
def shaS0 (x : Nat) : Nat := rotr x 7 ^^^ rotr x 18 ^^^ (x / 8)

/-- The second small mixing function. -/
def shaS1 (x : Nat) : Nat := rotr x 17 ^^^ rotr x 19 ^^^ (x / 1024)

/-- The message schedule, newest word first. -/
def shaExpand : Nat → List Nat → List Nat
  | 0, w => w
  | n + 1, w =>
    shaExpand n ((shaS1 (w.getD 1 0) + w.getD 6 0 + shaS0 (w.getD 14 0) + w.getD 15 0) % 2 ^ 32 :: w)

/-- The eight working variables of a round. -/
structure ShaVars where
  a : Nat
  b : Nat
  c : Nat
  d : Nat
  e : Nat
  f : Nat
  g : Nat
  h : Nat
  deriving DecidableEq, Repr

/-- One round. -/
def shaRound (v : ShaVars) (k w : Nat) : ShaVars :=
  let t1 := v.h + (rotr v.e 6 ^^^ rotr v.e 11 ^^^ rotr v.e 25)
    + ((v.e &&& v.f) ^^^ ((v.e ^^^ 0xFFFFFFFF) &&& v.g)) + k + w
  let t2 := (rotr v.a 2 ^^^ rotr v.a 13 ^^^ rotr v.a 22) + ((v.a &&& v.b) ^^^ (v.a &&& v.c) ^^^ (v.b &&& v.c))
  ⟨(t1 + t2) % 2 ^ 32, v.a, v.b, v.c, (v.d + t1) % 2 ^ 32, v.e, v.f, v.g⟩

/-- The rounds of a block. -/
def shaRounds : List Nat → List Nat → ShaVars → ShaVars
  | k :: ks, w :: ws, v => shaRounds ks ws (shaRound v k w)
  | _, _, v => v

/-- The big-endian words of a block. -/
def beWords : Nat → List Byte → List Nat
  | 0, _ => []
  | n + 1, l => beNat (l.take 4) :: beWords n (l.drop 4)

/-- One block compressed into the hash value. -/
def shaBlock (hv : List Nat) (block : List Byte) : List Nat :=
  let w := (shaExpand 48 (beWords 16 block).reverse).reverse
  let g := fun i => hv.getD i 0
  let v := shaRounds shaK w ⟨g 0, g 1, g 2, g 3, g 4, g 5, g 6, g 7⟩
  [(g 0 + v.a) % 2 ^ 32, (g 1 + v.b) % 2 ^ 32, (g 2 + v.c) % 2 ^ 32, (g 3 + v.d) % 2 ^ 32,
   (g 4 + v.e) % 2 ^ 32, (g 5 + v.f) % 2 ^ 32, (g 6 + v.g) % 2 ^ 32, (g 7 + v.h) % 2 ^ 32]

/-- The blocks of a padded message. -/
def shaBlocks : Nat → List Byte → List Nat → List Nat
  | 0, _, hv => hv
  | n + 1, l, hv => shaBlocks n (l.drop 64) (shaBlock hv (l.take 64))

/-- The padding of a message of `n` bytes. -/
def shaPad (n : Nat) : List Byte :=
  (0x80 : Byte) :: (List.replicate ((119 - n % 64) % 64) 0 ++ beBytes 8 (8 * n))

/-- SHA-256 of a list of bytes: 32 bytes. -/
def sha256 (l : List Byte) : List Byte :=
  let n := l.length
  ((shaBlocks ((n + 72) / 64) (l ++ shaPad n) shaInit).map (beBytes 4)).flatten

/-! ### HMAC and HKDF -/

/-- A key brought to the 64 bytes of a block and mixed with a constant. -/
def hmacKey (key : List Byte) (c : Byte) : List Byte :=
  let k := if key.length ≤ 64 then key else sha256 key
  (k ++ List.replicate (64 - k.length) 0).map (· ^^^ c)

/-- HMAC-SHA-256 (R292). -/
def hmac (key msg : List Byte) : List Byte :=
  sha256 (hmacKey key 0x5C ++ sha256 (hmacKey key 0x36 ++ msg))

/-- The output blocks of HKDF from block `i` on. -/
def hkdfBlocks (prk info : List Byte) : Nat → Nat → List Byte → List Byte
  | 0, _, _ => []
  | n + 1, i, last =>
    let t := hmac prk (last ++ info ++ [BitVec.ofNat 8 i])
    t ++ hkdfBlocks prk info n (i + 1) t

/-- HKDF-SHA-256 with `n` bytes of output (R291, R294). -/
def hkdf (ikm salt info : List Byte) (n : Nat) : List Byte :=
  (hkdfBlocks (hmac salt ikm) info ((n + 31) / 32) 1 []).take n

/-! ### ECDSA over P-256 (R419, R427) -/

/-- The prime of P-256. -/
def p256 : Nat := 0xFFFFFFFF00000001000000000000000000000000FFFFFFFFFFFFFFFFFFFFFFFF
/-- The order of P-256. -/
def n256 : Nat := 0xFFFFFFFF00000000FFFFFFFFFFFFFFFFBCE6FAADA7179E84F3B9CAC2FC632551
/-- The constant b of P-256. -/
def b256 : Nat := 0x5AC635D8AA3A93E7B3EBBD55769886BC651D06B0CC53B0F63BCE3C3E27D2604B
/-- The base point. -/
def g256 : Nat × Nat :=
  (0x6B17D1F2E12C4247F8BCE6E563A440F277037D812DEB33A0F4A13945D898C296,
   0x4FE342E2FE1A7F9B8EE7EB4A7C0F9E162BCE33576B315ECECBB6406837BF51F5)

/-- `b ^ e` modulo `m`, over the low `n` bits of `e`. -/
def powMod (m : Nat) : Nat → Nat → Nat → Nat
  | 0, _, _ => 1
  | n + 1, b, e => (if e % 2 = 1 then b * powMod m n (b * b % m) (e / 2) else powMod m n (b * b % m) (e / 2)) % m

/-- The inverse modulo a 256-bit prime. -/
def invMod (m a : Nat) : Nat := powMod m 256 (a % m) (m - 2)

/-- A point of the curve; none is the point at infinity. -/
abbrev Pt : Type := Option (Nat × Nat)

/-- The sum of two points. -/
def ptAdd (a b : Pt) : Pt :=
  match a, b with
  | none, _ => b
  | _, none => a
  | some p, some q =>
    if p.1 = q.1 ∧ (p.2 + q.2) % p256 = 0 then none
    else
      let l := if p = q then (3 * p.1 * p.1 + (p256 - 3)) * invMod p256 (2 * p.2) % p256
        else (q.2 + (p256 - p.2)) * invMod p256 (q.1 + (p256 - p.1)) % p256
      let x := (l * l + (p256 - p.1) + (p256 - q.1)) % p256
      some (x, (l * (p.1 + (p256 - x)) + (p256 - p.2)) % p256)

/-- A multiple of a point, over the low `n` bits of the factor. -/
def ptMul : Nat → Nat → Pt → Pt
  | 0, _, _ => none
  | n + 1, k, p => if k % 2 = 1 then ptAdd p (ptMul n (k / 2) (ptAdd p p)) else ptMul n (k / 2) (ptAdd p p)

/-- The coordinates name a point of the curve. -/
def onCurve (x y : Nat) : Bool :=
  decide (x < p256) && decide (y < p256)
    && decide (y * y % p256 = (x * x * x + (p256 - 3) * x + b256) % p256)

/-- An ECDSA signature (r, s) over a 256-bit hash verifies under the key (x, y). -/
def ecdsaOk (x y r sg hash : Nat) : Bool :=
  onCurve x y && decide (0 < r) && decide (r < n256) && decide (0 < sg) && decide (sg < n256) &&
    (let w := invMod n256 sg
     match ptAdd (ptMul 256 (hash * w % n256) (some g256)) (ptMul 256 (r * w % n256) (some (x, y))) with
     | some q => decide (q.1 % n256 = r)
     | none => false)

end Sys2Proof.Machine
end

