-- ==== Sys2Proof/Machine/Reg.lean ====
section
/-! DEFINITION. What a register field is: its address, place, width, access code (R4), reset value (R12) and
legal encodings (R10). The fields themselves are listed in Machine/RegMap.lean. -/
namespace Sys2Proof.Machine

/-- The access codes of R4. -/
inductive Access where
  | ro | rw | wo | w1c | w1p | rwl
  deriving DecidableEq, Repr

/-- A field of a register, or of each register of a row of registers. -/
structure Fld where
  base : Nat
  lo : Nat
  width : Nat
  acc : Access
  reset : Nat → Nat
  legal : Nat → Bool

/-- A field with one reset value and every encoding legal. -/
def fld (base lo width : Nat) (acc : Access) (r : Nat := 0) : Fld :=
  ⟨base, lo, width, acc, fun _ => r, fun _ => true⟩

/-- The number of a field: its register's first address and its place in the register. -/
def Fld.id (f : Fld) : Nat := f.base * 32 + f.lo

/-- The place of instance `i` of a field in the register store; no field has more than 16384 instances. -/
def Fld.key (f : Fld) (i : Nat) : Nat := f.id * 16384 + i % 16384

/-- Two fields are the same field. -/
def Fld.is (f g : Fld) : Bool := decide (f.base = g.base) && decide (f.lo = g.lo)

/-- A register or a row of them: the first address, the strides and counts of its dimensions (outermost first), the
field whose value selects the instance shown, and its fields. -/
structure RegDesc where
  base : Nat
  dims : List (Nat × Nat)
  sel : Option Fld
  flds : List Fld

/-- The instance index that an offset from the first address names, if it names one. -/
def dimIndex : List (Nat × Nat) → Nat → Nat → Option Nat
  | [], off, acc => if off = 0 then some acc else none
  | (stride, count) :: t, off, acc =>
    if off / stride < count then dimIndex t (off % stride) (acc * count + off / stride) else none

end Sys2Proof.Machine
end

