-- ==== Sys2Proof/Machine/RegMap.lean ====
section
/-! DEFINITION. The registers of every block, one constant per field, from the register tables of
spec/02 to spec/20: the address of the register, the field's low bit and width, its access code (R4), its reset
value (R12) and its legal encodings (R10). Registers that repeat have dimensions; registers shown through a select
register name it. -/
namespace Sys2Proof.Machine

namespace F
/-- CKG.PLLSTAT.LOCK0 [0:0] (02). -/
def CKG_PLLSTAT_LOCK0 : Fld := fld 0x40010000 0 1 .ro
/-- CKG.PLLSTAT.LOCK1 [1:1] (02). -/
def CKG_PLLSTAT_LOCK1 : Fld := fld 0x40010000 1 1 .ro
/-- CKG.PLLSTAT.LOCK2 [2:2] (02). -/
def CKG_PLLSTAT_LOCK2 : Fld := fld 0x40010000 2 1 .ro
/-- CKG.PLLSTAT.REFOK [3:3] (02). -/
def CKG_PLLSTAT_REFOK : Fld := fld 0x40010000 3 1 .ro
/-- CKG.PLLSTAT.LOL0 [8:8] (02). -/
def CKG_PLLSTAT_LOL0 : Fld := fld 0x40010000 8 1 .w1c
/-- CKG.PLLSTAT.LOL1 [9:9] (02). -/
def CKG_PLLSTAT_LOL1 : Fld := fld 0x40010000 9 1 .w1c
/-- CKG.PLLSTAT.LOL2 [10:10] (02). -/
def CKG_PLLSTAT_LOL2 : Fld := fld 0x40010000 10 1 .w1c
/-- CKG.PLLSTAT.REFLOSS [11:11] (02). -/
def CKG_PLLSTAT_REFLOSS : Fld := fld 0x40010000 11 1 .w1c
/-- CKG.REFMON.COUNT [7:0] (02). -/
def CKG_REFMON : Fld := fld 0x40010004 0 8 .ro
/-- CKG.FRMCFG.DEADLINE [9:0] (02). -/
def CKG_FRMCFG_DEADLINE : Fld := fld 0x40010010 0 10 .rwl 980
/-- CKG.FRMCFG.ESCLIM [23:16] (02). -/
def CKG_FRMCFG_ESCLIM : Fld := fld 0x40010010 16 8 .rwl 16
/-- CKG.FRMSTAT.LAST [10:0] (02). -/
def CKG_FRMSTAT_LAST : Fld := fld 0x40010014 0 11 .ro
/-- CKG.FRMRNG.MIN [10:0] (02). -/
def CKG_FRMRNG_MIN : Fld := fld 0x40010018 0 11 .ro 0x7FF
/-- CKG.FRMRNG.MAX [26:16] (02). -/
def CKG_FRMRNG_MAX : Fld := fld 0x40010018 16 11 .ro
/-- CKG.ENGHWM.CYCLES [10:0] (02). -/
def CKG_ENGHWM_CYCLES : Fld := fld 0x4001001c 0 11 .ro
/-- CKG.ENGHWM.ENGINE [21:16] (02). -/
def CKG_ENGHWM_ENGINE : Fld := fld 0x4001001c 16 6 .ro
/-- CKG.OVRFLAG.QY [31:0] (02). -/
def CKG_OVRFLAG_QY : Fld := fld 0x40010020 0 32 .w1c
/-- CKG.OVRLAST.BUNDLE [10:0] (02). -/
def CKG_OVRLAST_BUNDLE : Fld := fld 0x40010024 0 11 .ro
/-- CKG.OVRLAST.FRAME [31:16] (02). -/
def CKG_OVRLAST_FRAME : Fld := fld 0x40010024 16 16 .ro
/-- CKG.CTRL.STATCLR [0:0] (02). -/
def CKG_CTRL_STATCLR : Fld := fld 0x40010028 0 1 .w1p
/-- CKG.OVRCNTq.COUNT [31:0] (02). -/
def CKG_OVRCNTq : Fld := fld 0x40010100 0 32 .ro
/-- PIL.CTRL.APPLY [0:0] (03). -/
def PIL_CTRL_APPLY : Fld := fld 0x40110000 0 1 .w1p
/-- PIL.CTRL.REVERT [1:1] (03). -/
def PIL_CTRL_REVERT : Fld := fld 0x40110000 1 1 .w1p
/-- PIL.STAT.BUSY [0:0] (03). -/
def PIL_STAT_BUSY : Fld := fld 0x40110004 0 1 .ro
/-- PIL.STAT.REFUSED [1:1] (03). -/
def PIL_STAT_REFUSED : Fld := fld 0x40110004 1 1 .w1c
/-- PIL.STAT.WERR [2:2] (03). -/
def PIL_STAT_WERR : Fld := fld 0x40110004 2 1 .w1c
/-- PIL.STAT.REASON [7:4] (03). -/
def PIL_STAT_REASON : Fld := fld 0x40110004 4 4 .ro
/-- PIL.APPLYF.FRAME [31:0] (03). -/
def PIL_APPLYF_FRAME : Fld := fld 0x40110008 0 32 .ro
/-- PIL.SEL.SLOT [13:0] (03). -/
def PIL_SEL_SLOT : Fld := fld 0x4011000c 0 14 .rw
/-- PIL.SCFG0.INC [23:0] (03). -/
def PIL_SCFG0_INC : Fld := fld 0x40110010 0 24 .rw
/-- PIL.SCFG0.MODE [26:24] (03). -/
def PIL_SCFG0_MODE : Fld := { fld 0x40110010 24 3 .rw 4 with legal := fun v => decide (v < 5) }
/-- PIL.SCFG0.SCALE [27:27] (03). -/
def PIL_SCFG0_SCALE : Fld := fld 0x40110010 27 1 .rw
/-- PIL.SCFG1.PHOFF [23:0] (03). -/
def PIL_SCFG1_PHOFF : Fld := fld 0x40110014 0 24 .rw
/-- PIL.SCFG2.AMP [11:0] (03). -/
def PIL_SCFG2_AMP : Fld := fld 0x40110018 0 12 .rw
/-- PIL.ACC.ACTSEL [0:0] (03). -/
def PIL_ACC_ACTSEL : Fld := fld 0x4011001c 0 1 .rw
/-- PIL.ACC.RD [1:1] (03). -/
def PIL_ACC_RD : Fld := fld 0x4011001c 1 1 .w1p
/-- PIL.ACC.WR [2:2] (03). -/
def PIL_ACC_WR : Fld := fld 0x4011001c 2 1 .w1p
/-- PIL.BADSLOT.SLOT [13:0] (03). -/
def PIL_BADSLOT_SLOT : Fld := fld 0x40110020 0 14 .ro
/-- QY.DRVCFG.MODE [0:0] (03). -/
def QY_DRVCFG_MODE : Fld := fld 0x40201000 0 1 .rwl
/-- QY.DRVCFG.SSLEN [11:8] (03). -/
def QY_DRVCFG_SSLEN : Fld := fld 0x40201000 8 4 .rwl 6
/-- QY.DRVSTAT.AUTH [0:0] (03). -/
def QY_DRVSTAT_AUTH : Fld := fld 0x40201004 0 1 .ro
/-- QY.DRVSTAT.MODEACT [1:1] (03). -/
def QY_DRVSTAT_MODEACT : Fld := fld 0x40201004 1 1 .ro
/-- QY.DRVSTAT.MODEDEN [2:2] (03). -/
def QY_DRVSTAT_MODEDEN : Fld := fld 0x40201004 2 1 .w1c
/-- QY.DRVSTAT.RAMP [3:3] (03). -/
def QY_DRVSTAT_RAMP : Fld := fld 0x40201004 3 1 .ro
/-- QY.DRVSTAT.RANGE [5:4] (03). -/
def QY_DRVSTAT_RANGE : Fld := fld 0x40201004 4 2 .ro
/-- QY.DRVSTAT.LVLERR [6:6] (03). -/
def QY_DRVSTAT_LVLERR : Fld := fld 0x40201004 6 1 .w1c
/-- QY.HALFLVL.LEVEL [15:0] (03). -/
def QY_HALFLVL_LEVEL : Fld := fld 0x40201008 0 16 .rw 0x8000
/-- QY.DRVCTRL.STATCLR [0:0] (03). -/
def QY_DRVCTRL_STATCLR : Fld := fld 0x4020100c 0 1 .w1p
/-- QY.RNGGAINr.GAIN [15:0] (03). -/
def QY_RNGGAINr_GAIN : Fld := { fld 0x40201010 0 16 .rw with reset := fun i => [0x8000, 0x4000, 0x2000, 0x1000].getD (i % 4) 0 }
/-- QY.RNGREQ.RANGE [1:0] (03). -/
def QY_RNGREQ_RANGE : Fld := fld 0x40201020 0 2 .rw
/-- QY.RNGREQ.GO [8:8] (03). -/
def QY_RNGREQ_GO : Fld := fld 0x40201020 8 1 .w1p
/-- QY.RNGREQ.CANCEL [9:9] (03). -/
def QY_RNGREQ_CANCEL : Fld := fld 0x40201020 9 1 .w1p
/-- QY.RNGFRM.FRAME [31:0] (03). -/
def QY_RNGFRM_FRAME : Fld := fld 0x40201024 0 32 .rw
/-- QY.RNGSTAT.CUR [1:0] (03). -/
def QY_RNGSTAT_CUR : Fld := fld 0x40201028 0 2 .ro
/-- QY.RNGSTAT.NEXT [3:2] (03). -/
def QY_RNGSTAT_NEXT : Fld := fld 0x40201028 2 2 .ro
/-- QY.RNGSTAT.PEND [4:4] (03). -/
def QY_RNGSTAT_PEND : Fld := fld 0x40201028 4 1 .ro
/-- QY.RNGSTAT.DONE [5:5] (03). -/
def QY_RNGSTAT_DONE : Fld := fld 0x40201028 5 1 .w1c
/-- QY.RNGSTAT.BADFRM [6:6] (03). -/
def QY_RNGSTAT_BADFRM : Fld := fld 0x40201028 6 1 .w1c
/-- QY.RNGSTAT.NOACK [7:7] (03). -/
def QY_RNGSTAT_NOACK : Fld := fld 0x40201028 7 1 .w1c
/-- QY.RNGSTAT.CANCELLED [8:8] (03). -/
def QY_RNGSTAT_CANCELLED : Fld := fld 0x40201028 8 1 .w1c
/-- QY.DRVSAT.COUNT [31:0] (03). -/
def QY_DRVSAT : Fld := fld 0x40201030 0 32 .ro
/-- QY.RNGSAT.COUNT [31:0] (03). -/
def QY_RNGSAT : Fld := fld 0x40201034 0 32 .ro
/-- QY.MODOVL.COUNT [31:0] (03). -/
def QY_MODOVL : Fld := fld 0x40201038 0 32 .ro
/-- QY.SNPSEL.CHAN [8:0] (03). -/
def QY_SNPSEL_CHAN : Fld := fld 0x40201040 0 9 .rw
/-- QY.SNPCODE.MAG [19:0] (03). -/
def QY_SNPCODE_MAG : Fld := fld 0x40201044 0 20 .ro
/-- QY.SNPCODE.ARM [20:20] (03). -/
def QY_SNPCODE_ARM : Fld := fld 0x40201044 20 1 .ro
/-- QY.SNPCODE.PAIR [21:21] (03). -/
def QY_SNPCODE_PAIR : Fld := fld 0x40201044 21 1 .ro
/-- QY.SNPCODE.FRAME [31:24] (03). -/
def QY_SNPCODE_FRAME : Fld := fld 0x40201044 24 8 .ro
/-- QY.TSETn.STROBE [4:0] (04). -/
def QY_TSETn_STROBE : Fld := fld 0x40202000 0 5 .rw
/-- QY.TSETn.SAMP [12:8] (04). -/
def QY_TSETn_SAMP : Fld := fld 0x40202000 8 5 .rw
/-- QY.TSETn.PILOFF [20:16] (04). -/
def QY_TSETn_PILOFF : Fld := fld 0x40202000 16 5 .rw
/-- QY.TSREQ.ACTSEL [0:0] (04). -/
def QY_TSREQ_ACTSEL : Fld := fld 0x40202020 0 1 .rw
/-- QY.TSREQ.GO [8:8] (04). -/
def QY_TSREQ_GO : Fld := fld 0x40202020 8 1 .w1p
/-- QY.TSREQ.CANCEL [9:9] (04). -/
def QY_TSREQ_CANCEL : Fld := fld 0x40202020 9 1 .w1p
/-- QY.TSFRM.FRAME [31:0] (04). -/
def QY_TSFRM_FRAME : Fld := fld 0x40202024 0 32 .rw
/-- QY.TSSTAT.PEND [0:0] (04). -/
def QY_TSSTAT_PEND : Fld := fld 0x40202028 0 1 .ro
/-- QY.TSSTAT.DONE [1:1] (04). -/
def QY_TSSTAT_DONE : Fld := fld 0x40202028 1 1 .w1c
/-- QY.TSSTAT.BADFRM [2:2] (04). -/
def QY_TSSTAT_BADFRM : Fld := fld 0x40202028 2 1 .w1c
/-- QY.TSSTAT.NOACK [3:3] (04). -/
def QY_TSSTAT_NOACK : Fld := fld 0x40202028 3 1 .w1c
/-- QY.TSSTAT.CANCELLED [4:4] (04). -/
def QY_TSSTAT_CANCELLED : Fld := fld 0x40202028 4 1 .w1c
/-- QY.TSSTAT.PLAN [5:5] (04). -/
def QY_TSSTAT_PLAN : Fld := fld 0x40202028 5 1 .w1c
/-- QY.TSSTAT.VALERR [6:6] (04). -/
def QY_TSSTAT_VALERR : Fld := fld 0x40202028 6 1 .w1c
/-- QY.TSASGj.SET0 [2:0] (04). -/
def QY_TSASGj_SET0 : Fld := fld 0x40202100 0 3 .rw
/-- QY.TSASGj.SET1 [6:4] (04). -/
def QY_TSASGj_SET1 : Fld := fld 0x40202100 4 3 .rw
/-- QY.TSASGj.SET2 [10:8] (04). -/
def QY_TSASGj_SET2 : Fld := fld 0x40202100 8 3 .rw
/-- QY.TSASGj.SET3 [14:12] (04). -/
def QY_TSASGj_SET3 : Fld := fld 0x40202100 12 3 .rw
/-- QY.TSASGj.SET4 [18:16] (04). -/
def QY_TSASGj_SET4 : Fld := fld 0x40202100 16 3 .rw
/-- QY.TSASGj.SET5 [22:20] (04). -/
def QY_TSASGj_SET5 : Fld := fld 0x40202100 20 3 .rw
/-- QY.TSASGj.SET6 [26:24] (04). -/
def QY_TSASGj_SET6 : Fld := fld 0x40202100 24 3 .rw
/-- QY.TSASGj.SET7 [30:28] (04). -/
def QY_TSASGj_SET7 : Fld := fld 0x40202100 28 3 .rw
/-- SEG.CTRL.STATCLR [0:0] (04). -/
def SEG_CTRL_STATCLR : Fld := fld 0x40120000 0 1 .w1p
/-- SEG.STAT.BAND [1:0] (04). -/
def SEG_STAT_BAND : Fld := fld 0x40120004 0 2 .ro
/-- SEG.STAT.UNDACT [2:2] (04). -/
def SEG_STAT_UNDACT : Fld := fld 0x40120004 2 1 .ro
/-- SEG.UNDFLAG.QY [31:0] (04). -/
def SEG_UNDFLAG_QY : Fld := fld 0x40120008 0 32 .w1c
/-- SEG.UNDLAST.SLOT [13:0] (04). -/
def SEG_UNDLAST_SLOT : Fld := fld 0x4012000c 0 14 .ro
/-- SEG.UNDLAST.FRAME [31:16] (04). -/
def SEG_UNDLAST_FRAME : Fld := fld 0x4012000c 16 16 .ro
/-- SEG.UNDCNT.COUNT [31:0] (04). -/
def SEG_UNDCNT : Fld := fld 0x40120010 0 32 .ro
/-- SEG.LATEEND.COUNT [31:0] (04). -/
def SEG_LATEEND : Fld := fld 0x40120014 0 32 .ro
/-- SEG.DEFERCNT.COUNT [31:0] (04). -/
def SEG_DEFERCNT : Fld := fld 0x40120018 0 32 .ro
/-- SEG.TRUNCCNT.COUNT [31:0] (04). -/
def SEG_TRUNCCNT : Fld := fld 0x4012001c 0 32 .ro
/-- SEG.SPLITCNT.COUNT [31:0] (04). -/
def SEG_SPLITCNT : Fld := fld 0x40120020 0 32 .ro
/-- SEG.STEPCAP.COUNT [31:0] (04). -/
def SEG_STEPCAP : Fld := fld 0x40120024 0 32 .ro
/-- SEG.FETCHHWM.FETCHES [15:0] (04). -/
def SEG_FETCHHWM_FETCHES : Fld := fld 0x40120028 0 16 .ro
/-- SEG.LIBUSE.BEATS [18:0] (04). -/
def SEG_LIBUSE_BEATS : Fld := fld 0x4012002c 0 19 .ro
/-- SEG.BSEL.BUNDLE [10:0] (04). -/
def SEG_BSEL_BUNDLE : Fld := fld 0x40120030 0 11 .rw
/-- SEG.BSTEP.STEPMAX [10:0] (04). -/
def SEG_BSTEP_STEPMAX : Fld := fld 0x40120034 0 11 .rwl
/-- SEG.MARKn.QUAY [4:0] (04). -/
def SEG_MARKn_QUAY : Fld := fld 0x40120040 0 5 .rw
/-- SEG.MARKn.TSET [7:5] (04). -/
def SEG_MARKn_TSET : Fld := fld 0x40120040 5 3 .rw
/-- SEG.MARKn.EN [8:8] (04). -/
def SEG_MARKn_EN : Fld := fld 0x40120040 8 1 .rw
/-- SEG.MARKn.MARKED [9:9] (04). -/
def SEG_MARKn_MARKED : Fld := fld 0x40120040 9 1 .rw
/-- SEG.MARKn.DELAY [23:16] (04). -/
def SEG_MARKn_DELAY : Fld := fld 0x40120040 16 8 .rw
/-- SEG.MARKn.WIDTH [27:24] (04). -/
def SEG_MARKn_WIDTH : Fld := fld 0x40120040 24 4 .rw 1
/-- MOR.CTRL.STATCLR [0:0] (05). -/
def MOR_CTRL_STATCLR : Fld := fld 0x40100000 0 1 .w1p
/-- MOR.LCFG.GAPMAX [4:0] (05). -/
def MOR_LCFG_GAPMAX : Fld := fld 0x40100004 0 5 .rwl 2
/-- MOR.LCFG.GAPESC [11:8] (05). -/
def MOR_LCFG_GAPESC : Fld := fld 0x40100004 8 4 .rwl 8
/-- MOR.STAT.CWERR [0:0] (05). -/
def MOR_STAT_CWERR : Fld := fld 0x40100008 0 1 .w1c
/-- MOR.STAT.ENGFLT [1:1] (05). -/
def MOR_STAT_ENGFLT : Fld := fld 0x40100008 1 1 .w1c
/-- MOR.STAT.ANYHOLD [2:2] (05). -/
def MOR_STAT_ANYHOLD : Fld := fld 0x40100008 2 1 .ro
/-- MOR.STAT.SPARES [5:4] (05). -/
def MOR_STAT_SPARES : Fld := fld 0x40100008 4 2 .ro 2
/-- MOR.CWLAST.OFFSET [15:0] (05). -/
def MOR_CWLAST_OFFSET : Fld := fld 0x4010000c 0 16 .ro
/-- MOR.CWLAST.ENGINE [21:16] (05). -/
def MOR_CWLAST_ENGINE : Fld := fld 0x4010000c 16 6 .ro
/-- MOR.BSEL.BUNDLE [10:0] (05). -/
def MOR_BSEL_BUNDLE : Fld := fld 0x40100010 0 11 .rw
/-- MOR.BCMD.OPEN [0:0] (05). -/
def MOR_BCMD_OPEN : Fld := fld 0x40100014 0 1 .w1p
/-- MOR.BCMD.CLOSE [1:1] (05). -/
def MOR_BCMD_CLOSE : Fld := fld 0x40100014 1 1 .w1p
/-- MOR.BSTAT.STATE [1:0] (05). -/
def MOR_BSTAT_STATE : Fld := fld 0x40100018 0 2 .ro
/-- MOR.BSTAT.RET [3:2] (05). -/
def MOR_BSTAT_RET : Fld := fld 0x40100018 2 2 .ro
/-- MOR.BSTAT.CAUSE [6:4] (05). -/
def MOR_BSTAT_CAUSE : Fld := fld 0x40100018 4 3 .ro
/-- MOR.BSTAT.CMD [9:8] (05). -/
def MOR_BSTAT_CMD : Fld := fld 0x40100018 8 2 .ro
/-- MOR.BSTAT.K [15:12] (05). -/
def MOR_BSTAT_K : Fld := fld 0x40100018 12 4 .ro
/-- MOR.SUBST.LOGICAL [5:0] (05). -/
def MOR_SUBST_LOGICAL : Fld := fld 0x40100020 0 6 .rw
/-- MOR.SUBST.PHYS [13:8] (05). -/
def MOR_SUBST_PHYS : Fld := fld 0x40100020 8 6 .rw
/-- MOR.SUBST.GO [16:16] (05). -/
def MOR_SUBST_GO : Fld := fld 0x40100020 16 1 .w1p
/-- MOR.SUBSTAT.BUSY [0:0] (05). -/
def MOR_SUBSTAT_BUSY : Fld := fld 0x40100024 0 1 .ro
/-- MOR.SUBSTAT.DONE [1:1] (05). -/
def MOR_SUBSTAT_DONE : Fld := fld 0x40100024 1 1 .w1c
/-- MOR.SUBSTAT.REFUSED [2:2] (05). -/
def MOR_SUBSTAT_REFUSED : Fld := fld 0x40100024 2 1 .w1c
/-- MOR.SUBSTAT.REASON [7:4] (05). -/
def MOR_SUBSTAT_REASON : Fld := fld 0x40100024 4 4 .ro
/-- MOR.SKIPGAP.COUNT [31:0] (05). -/
def MOR_SKIPGAP : Fld := fld 0x40100040 0 32 .ro
/-- MOR.DARKCNT.COUNT [31:0] (05). -/
def MOR_DARKCNT : Fld := fld 0x40100044 0 32 .ro
/-- MOR.CLAMPCNT.COUNT [31:0] (05). -/
def MOR_CLAMPCNT : Fld := fld 0x40100048 0 32 .ro
/-- MOR.FOLDCNT.COUNT [31:0] (05). -/
def MOR_FOLDCNT : Fld := fld 0x4010004c 0 32 .ro
/-- MOR.SETFAIL.COUNT [31:0] (05). -/
def MOR_SETFAIL : Fld := fld 0x40100050 0 32 .ro
/-- MOR.PARKCNT.COUNT [31:0] (05). -/
def MOR_PARKCNT : Fld := fld 0x40100054 0 32 .ro
/-- MOR.BFSAT.COUNT [31:0] (05). -/
def MOR_BFSAT : Fld := fld 0x40100058 0 32 .ro
/-- MOR.ECCCOR.COUNT [31:0] (05). -/
def MOR_ECCCOR : Fld := fld 0x4010005c 0 32 .ro
/-- MOR.EMAPe.PHYS [5:0] (05). -/
def MOR_EMAPe_PHYS : Fld := { fld 0x40100100 0 6 .ro with reset := fun i => i }
/-- MOR.ESTATp.STATE [1:0] (05). -/
def MOR_ESTATp_STATE : Fld := { fld 0x40100200 0 2 .ro with reset := fun i => if i < 48 then 0 else 1 }
/-- MOR.ESTATp.CAUSE [7:4] (05). -/
def MOR_ESTATp_CAUSE : Fld := fld 0x40100200 4 4 .ro
/-- MOR.ESTATp.LOGICAL [13:8] (05). -/
def MOR_ESTATp_LOGICAL : Fld := { fld 0x40100200 8 6 .ro with reset := fun i => if i < 48 then i else 0x3F }
/-- MOR.SETBMPw.SETTLED [31:0] (05). -/
def MOR_SETBMPw_SETTLED : Fld := fld 0x40100400 0 32 .ro
/-- MAN.CTRL.STATCLR [0:0] (06). -/
def MAN_CTRL_STATCLR : Fld := fld 0x400f0000 0 1 .w1p
/-- MAN.STAT.QUEUED [10:0] (06). -/
def MAN_STAT_QUEUED : Fld := fld 0x400f0004 0 11 .ro
/-- MAN.STAT.RUNNING [26:16] (06). -/
def MAN_STAT_RUNNING : Fld := fld 0x400f0004 16 11 .ro
/-- MAN.RECCFG.RECCNT [10:0] (06). -/
def MAN_RECCFG_RECCNT : Fld := fld 0x400f0008 0 11 .rwl 1024
/-- MAN.RECCFG.BMPSZ [22:16] (06). -/
def MAN_RECCFG_BMPSZ : Fld := fld 0x400f0008 16 7 .rwl 96
/-- MAN.RECBASE.ADDR [23:5] (06). -/
def MAN_RECBASE_ADDR : Fld := fld 0x400f000c 5 19 .rwl
/-- MAN.BMPBASE.ADDR [23:5] (06). -/
def MAN_BMPBASE_ADDR : Fld := fld 0x400f0010 5 19 .rwl
/-- MAN.LASTEXEC.EXEC_ID [31:0] (06). -/
def MAN_LASTEXEC_EXEC_ID : Fld := fld 0x400f0014 0 32 .ro
/-- MAN.RSEL.INDEX [9:0] (06). -/
def MAN_RSEL_INDEX : Fld := fld 0x400f0018 0 10 .rw
/-- MAN.RECWw.WORD [31:0] (06). -/
def MAN_RECWw_WORD : Fld := fld 0x400f0020 0 32 .ro
/-- MAN.DIRSEL.NUMBER [11:0] (06). -/
def MAN_DIRSEL_NUMBER : Fld := fld 0x400f0040 0 12 .rw
/-- MAN.DIRENT.NENT [13:0] (06). -/
def MAN_DIRENT_NENT : Fld := fld 0x400f0044 0 14 .ro
/-- MAN.DIRENT.CLASS [15:14] (06). -/
def MAN_DIRENT_CLASS : Fld := fld 0x400f0044 14 2 .ro
/-- MAN.DIRENT.PROFLEN [24:16] (06). -/
def MAN_DIRENT_PROFLEN : Fld := fld 0x400f0044 16 9 .ro
/-- MAN.DIRENT.VALID [28:28] (06). -/
def MAN_DIRENT_VALID : Fld := fld 0x400f0044 28 1 .ro
/-- MAN.DIRENT.BUSY [29:29] (06). -/
def MAN_DIRENT_BUSY : Fld := fld 0x400f0044 29 1 .ro
/-- MAN.DIRADDR.ADDR [23:0] (06). -/
def MAN_DIRADDR_ADDR : Fld := fld 0x400f0048 0 24 .ro
/-- MAN.SSEL.SLOT [13:0] (06). -/
def MAN_SSEL_SLOT : Fld := fld 0x400f0050 0 14 .rw
/-- MAN.SLOTCFG.OWNER [7:0] (06). -/
def MAN_SLOTCFG_OWNER : Fld := { fld 0x400f0054 0 8 .rw 255 with legal := fun v => decide (v < 65) || decide (v = 255) }
/-- MAN.SLOTCFG.FAILED [8:8] (06). -/
def MAN_SLOTCFG_FAILED : Fld := fld 0x400f0054 8 1 .ro
/-- MAN.SLOTCFG.FSET [9:9] (06). -/
def MAN_SLOTCFG_FSET : Fld := fld 0x400f0054 9 1 .w1p
/-- MAN.SLOTCFG.FCLR [10:10] (06). -/
def MAN_SLOTCFG_FCLR : Fld := fld 0x400f0054 10 1 .w1p
/-- MAN.SLOTCFG.RESVD [11:11] (06). -/
def MAN_SLOTCFG_RESVD : Fld := fld 0x400f0054 11 1 .ro
/-- MAN.SLOTCFG.CIRC [27:16] (06). -/
def MAN_SLOTCFG_CIRC : Fld := fld 0x400f0054 16 12 .ro
/-- MAN.CSEL.CIRCUIT [11:0] (06). -/
def MAN_CSEL_CIRCUIT : Fld := fld 0x400f0058 0 12 .rw
/-- MAN.CSTAT.STATE [1:0] (06). -/
def MAN_CSTAT_STATE : Fld := fld 0x400f005c 0 2 .ro
/-- MAN.CSTAT.MANIFEST [15:4] (06). -/
def MAN_CSTAT_MANIFEST : Fld := fld 0x400f005c 4 12 .ro
/-- MAN.CSTAT.CLRDOWN [16:16] (06). -/
def MAN_CSTAT_CLRDOWN : Fld := fld 0x400f005c 16 1 .w1p
/-- MAN.ALLOCCNT.COUNT [31:0] (06). -/
def MAN_ALLOCCNT : Fld := fld 0x400f0080 0 32 .ro
/-- MAN.DONECNT.COUNT [31:0] (06). -/
def MAN_DONECNT : Fld := fld 0x400f0084 0 32 .ro
/-- MAN.PARTCNT.COUNT [31:0] (06). -/
def MAN_PARTCNT : Fld := fld 0x400f0088 0 32 .ro
/-- MAN.VOIDCNT.COUNT [31:0] (06). -/
def MAN_VOIDCNT : Fld := fld 0x400f008c 0 32 .ro
/-- MAN.ZEROCNT.COUNT [31:0] (06). -/
def MAN_ZEROCNT : Fld := fld 0x400f0090 0 32 .ro
/-- MAN.NOROUTECNT.COUNT [31:0] (06). -/
def MAN_NOROUTECNT : Fld := fld 0x400f0094 0 32 .ro
/-- MAN.HOLDSKIP.COUNT [31:0] (06). -/
def MAN_HOLDSKIP : Fld := fld 0x400f0098 0 32 .ro
/-- MAN.FAILSKIP.COUNT [31:0] (06). -/
def MAN_FAILSKIP : Fld := fld 0x400f009c 0 32 .ro
/-- MAN.OUTSKIP.COUNT [31:0] (06). -/
def MAN_OUTSKIP : Fld := fld 0x400f00a0 0 32 .ro
/-- MAN.NOSPCNT.COUNT [31:0] (06). -/
def MAN_NOSPCNT : Fld := fld 0x400f00a4 0 32 .ro
/-- SCH.CTRL.STATCLR [0:0] (07). -/
def SCH_CTRL_STATCLR : Fld := fld 0x400d0000 0 1 .w1p
/-- SCH.STAT.TIDE [0:0] (07). -/
def SCH_STAT_TIDE : Fld := fld 0x400d0004 0 1 .ro
/-- SCH.STAT.PWRBLK [1:1] (07). -/
def SCH_STAT_PWRBLK : Fld := fld 0x400d0004 1 1 .ro
/-- SCH.STAT.PWRQ [13:8] (07). -/
def SCH_STAT_PWRQ : Fld := fld 0x400d0004 8 6 .ro
/-- SCH.PWRCFG.ORDER [0:0] (07). -/
def SCH_PWRCFG_ORDER : Fld := fld 0x400d0008 0 1 .rwl
/-- SCH.PBUDGET.LIMIT [23:0] (07). -/
def SCH_PBUDGET_LIMIT : Fld := fld 0x400d000c 0 24 .rwl 0xFFFFFF
/-- SCH.PNORM.LIMIT [23:0] (07). -/
def SCH_PNORM_LIMIT : Fld := fld 0x400d0010 0 24 .rwl 0xFFFFFF
/-- SCH.PMEAS.POWER [23:0] (07). -/
def SCH_PMEAS_POWER : Fld := fld 0x400d0014 0 24 .ro
/-- SCH.PMEAS.FRAME [31:24] (07). -/
def SCH_PMEAS_FRAME : Fld := fld 0x400d0014 24 8 .ro
/-- SCH.PHWM.POWER [23:0] (07). -/
def SCH_PHWM_POWER : Fld := fld 0x400d0018 0 24 .ro
/-- SCH.ADMHWM.ADMIT [2:0] (07). -/
def SCH_ADMHWM_ADMIT : Fld := fld 0x400d001c 0 3 .ro
/-- SCH.ADMHWM.EXAM [11:8] (07). -/
def SCH_ADMHWM_EXAM : Fld := fld 0x400d001c 8 4 .ro
/-- SCH.VTLO.VT [31:0] (07). -/
def SCH_VTLO_VT : Fld := fld 0x400d0020 0 32 .ro
/-- SCH.VTHI.VT [15:0] (07). -/
def SCH_VTHI_VT : Fld := fld 0x400d0024 0 16 .ro
/-- SCH.ADMCNT.COUNT [31:0] (07). -/
def SCH_ADMCNT : Fld := fld 0x400d0030 0 32 .ro
/-- SCH.PWRWAIT.COUNT [31:0] (07). -/
def SCH_PWRWAIT : Fld := fld 0x400d0034 0 32 .ro
/-- SCH.TIDEPWR.COUNT [31:0] (07). -/
def SCH_TIDEPWR : Fld := fld 0x400d0038 0 32 .ro
/-- SCH.POLCNT.COUNT [31:0] (07). -/
def SCH_POLCNT : Fld := fld 0x400d003c 0 32 .ro
/-- SCH.BUSYCNT.COUNT [31:0] (07). -/
def SCH_BUSYCNT : Fld := fld 0x400d0040 0 32 .ro
/-- SCH.GATEDCNT.COUNT [31:0] (07). -/
def SCH_GATEDCNT : Fld := fld 0x400d0044 0 32 .ro
/-- SCH.DENYCNT.COUNT [31:0] (07). -/
def SCH_DENYCNT : Fld := fld 0x400d0048 0 32 .ro
/-- SCH.VOIDDEN.COUNT [31:0] (07). -/
def SCH_VOIDDEN : Fld := fld 0x400d004c 0 32 .ro
/-- SCH.LATEFLUSH.COUNT [31:0] (07). -/
def SCH_LATEFLUSH : Fld := fld 0x400d0050 0 32 .ro
/-- SCH.CMDFLUSH.COUNT [31:0] (07). -/
def SCH_CMDFLUSH : Fld := fld 0x400d0054 0 32 .ro
/-- SCH.ADMFULL.COUNT [31:0] (07). -/
def SCH_ADMFULL : Fld := fld 0x400d0058 0 32 .ro
/-- SCH.BALSAT.COUNT [31:0] (07). -/
def SCH_BALSAT : Fld := fld 0x400d005c 0 32 .ro
/-- SCH.QSEL.QUEUE [5:0] (07). -/
def SCH_QSEL_QUEUE : Fld := fld 0x400d0080 0 6 .rw
/-- SCH.QCFG.EN [0:0] (07). -/
def SCH_QCFG_EN : Fld := fld 0x400d0084 0 1 .rw
/-- SCH.QCFG.MODE [2:1] (07). -/
def SCH_QCFG_MODE : Fld := { fld 0x400d0084 1 2 .rw with legal := fun v => decide (v < 3) }
/-- SCH.QCFG.GATEIGN [3:3] (07). -/
def SCH_QCFG_GATEIGN : Fld := fld 0x400d0084 3 1 .rw
/-- SCH.QCFG.GATEREJ [4:4] (07). -/
def SCH_QCFG_GATEREJ : Fld := fld 0x400d0084 4 1 .rw
/-- SCH.QCFG.WEIGHT [15:8] (07). -/
def SCH_QCFG_WEIGHT : Fld := fld 0x400d0084 8 8 .rw 1
/-- SCH.QCFG.DEPTH [26:16] (07). -/
def SCH_QCFG_DEPTH : Fld := fld 0x400d0084 16 11 .rw 64
/-- SCH.QRATE.RATE [23:0] (07). -/
def SCH_QRATE_RATE : Fld := fld 0x400d0088 0 24 .rw
/-- SCH.QBURST.BURST [24:0] (07). -/
def SCH_QBURST_BURST : Fld := fld 0x400d008c 0 25 .rw
/-- SCH.QLATE.LATEMAX [23:0] (07). -/
def SCH_QLATE_LATEMAX : Fld := fld 0x400d0090 0 24 .rw 65535
/-- SCH.QBALLO.BAL [31:0] (07). -/
def SCH_QBALLO_BAL : Fld := fld 0x400d0094 0 32 .ro
/-- SCH.QBALHI.BAL [15:0] (07). -/
def SCH_QBALHI_BAL : Fld := fld 0x400d0098 0 16 .ro
/-- SCH.QFTLO.FT [31:0] (07). -/
def SCH_QFTLO_FT : Fld := fld 0x400d009c 0 32 .ro
/-- SCH.QFTHI.FT [15:0] (07). -/
def SCH_QFTHI_FT : Fld := fld 0x400d00a0 0 16 .ro
/-- SCH.QSTAT.DEPTH [10:0] (07). -/
def SCH_QSTAT_DEPTH : Fld := fld 0x400d00a4 0 11 .ro
/-- SCH.QSTAT.DRAIN [11:11] (07). -/
def SCH_QSTAT_DRAIN : Fld := fld 0x400d00a4 11 1 .ro
/-- SCH.QSTAT.WAIT [14:12] (07). -/
def SCH_QSTAT_WAIT : Fld := fld 0x400d00a4 12 3 .ro
/-- SCH.QSTAT.HEAD [25:16] (07). -/
def SCH_QSTAT_HEAD : Fld := fld 0x400d00a4 16 10 .ro
/-- SCH.QHWM.DEPTH [10:0] (07). -/
def SCH_QHWM_DEPTH : Fld := fld 0x400d00a8 0 11 .ro
/-- SCH.QLATHWM.VALUE [31:0] (07). -/
def SCH_QLATHWM_VALUE : Fld := fld 0x400d00ac 0 32 .ro
/-- SCH.QADM.VALUE [31:0] (07). -/
def SCH_QADM_VALUE : Fld := fld 0x400d00b0 0 32 .ro
/-- SCH.QCTRL.FLUSH [0:0] (07). -/
def SCH_QCTRL_FLUSH : Fld := fld 0x400d00b4 0 1 .w1p
/-- SCH.SMAPs.QUEUE [5:0] (07). -/
def SCH_SMAPs_QUEUE : Fld := fld 0x400d0200 0 6 .rw
/-- SCH.SMAPs.VALID [7:7] (07). -/
def SCH_SMAPs_VALID : Fld := fld 0x400d0200 7 1 .rw
/-- TID.CTRL.ARM [0:0] (08). -/
def TID_CTRL_ARM : Fld := fld 0x400e0000 0 1 .w1p
/-- TID.CTRL.CANCEL [1:1] (08). -/
def TID_CTRL_CANCEL : Fld := fld 0x400e0000 1 1 .w1p
/-- TID.CTRL.STOP [2:2] (08). -/
def TID_CTRL_STOP : Fld := fld 0x400e0000 2 1 .w1p
/-- TID.CTRL.STATCLR [3:3] (08). -/
def TID_CTRL_STATCLR : Fld := fld 0x400e0000 3 1 .w1p
/-- TID.STAT.RUN [0:0] (08). -/
def TID_STAT_RUN : Fld := fld 0x400e0004 0 1 .ro
/-- TID.STAT.SHADOW [1:1] (08). -/
def TID_STAT_SHADOW : Fld := fld 0x400e0004 1 1 .ro
/-- TID.STAT.PEND [2:2] (08). -/
def TID_STAT_PEND : Fld := fld 0x400e0004 2 1 .ro
/-- TID.STAT.STOPPEND [3:3] (08). -/
def TID_STAT_STOPPEND : Fld := fld 0x400e0004 3 1 .ro
/-- TID.STAT.REFUSED [4:4] (08). -/
def TID_STAT_REFUSED : Fld := fld 0x400e0004 4 1 .w1c
/-- TID.STAT.LATEBASE [5:5] (08). -/
def TID_STAT_LATEBASE : Fld := fld 0x400e0004 5 1 .w1c
/-- TID.STAT.STEPSTOP [6:6] (08). -/
def TID_STAT_STEPSTOP : Fld := fld 0x400e0004 6 1 .w1c
/-- TID.STAT.WERR [7:7] (08). -/
def TID_STAT_WERR : Fld := fld 0x400e0004 7 1 .w1c
/-- TID.STAT.REASON [11:8] (08). -/
def TID_STAT_REASON : Fld := fld 0x400e0004 8 4 .ro
/-- TID.SHDR.NENTRY [10:0] (08). -/
def TID_SHDR_NENTRY : Fld := fld 0x400e0008 0 11 .rw
/-- TID.SHDR.ONESHOT [16:16] (08). -/
def TID_SHDR_ONESHOT : Fld := fld 0x400e0008 16 1 .rw
/-- TID.SHDR.AUTOARM [17:17] (08). -/
def TID_SHDR_AUTOARM : Fld := fld 0x400e0008 17 1 .rw
/-- TID.SBASE.BASE [31:0] (08). -/
def TID_SBASE_BASE : Fld := fld 0x400e000c 0 32 .rw
/-- TID.SCYCLE.CYCLE [25:0] (08). -/
def TID_SCYCLE_CYCLE : Fld := fld 0x400e0010 0 26 .ro
/-- TID.START.FRAME [31:0] (08). -/
def TID_START_FRAME : Fld := fld 0x400e0014 0 32 .ro
/-- TID.PSTART.FRAME [31:0] (08). -/
def TID_PSTART_FRAME : Fld := fld 0x400e0018 0 32 .ro
/-- TID.ACYCLE.CYCLE [25:0] (08). -/
def TID_ACYCLE_CYCLE : Fld := fld 0x400e001c 0 26 .ro
/-- TID.LATEN.N [31:0] (08). -/
def TID_LATEN_N : Fld := fld 0x400e0020 0 32 .ro
/-- TID.POS.ENTRY [9:0] (08). -/
def TID_POS_ENTRY : Fld := fld 0x400e0024 0 10 .ro
/-- TID.POS.REMAIN [31:16] (08). -/
def TID_POS_REMAIN : Fld := fld 0x400e0024 16 16 .ro
/-- TID.ESEL.ENTRY [9:0] (08). -/
def TID_ESEL_ENTRY : Fld := fld 0x400e0028 0 10 .rw
/-- TID.ESEL.ACTSEL [16:16] (08). -/
def TID_ESEL_ACTSEL : Fld := fld 0x400e0028 16 1 .rw
/-- TID.EWw.WORD [31:0] (08). -/
def TID_EWw_WORD : Fld := fld 0x400e0030 0 32 .rw
/-- TID.CYCLES.COUNT [31:0] (08). -/
def TID_CYCLES : Fld := fld 0x400e0040 0 32 .ro
/-- TID.FIRECNT.COUNT [31:0] (08). -/
def TID_FIRECNT : Fld := fld 0x400e0044 0 32 .ro
/-- TID.FIREREF.COUNT [31:0] (08). -/
def TID_FIREREF : Fld := fld 0x400e0048 0 32 .ro
/-- TID.FIREVOID.COUNT [31:0] (08). -/
def TID_FIREVOID : Fld := fld 0x400e004c 0 32 .ro
/-- TID.COLLIDE.COUNT [31:0] (08). -/
def TID_COLLIDE : Fld := fld 0x400e0050 0 32 .ro
/-- QY.LNKCFG.GEN [1:0] (09). -/
def QY_LNKCFG_GEN : Fld := { fld 0x40200000 0 2 .rwl with legal := fun v => decide (v < 3) }
/-- QY.LNKCFG.TXPRE [4:2] (09). -/
def QY_LNKCFG_TXPRE : Fld := fld 0x40200000 2 3 .rwl 3
/-- QY.LNKCFG.TPRE [7:5] (09). -/
def QY_LNKCFG_TPRE : Fld := fld 0x40200000 5 3 .rwl
/-- QY.LNKCFG.TPAUTO [8:8] (09). -/
def QY_LNKCFG_TPAUTO : Fld := fld 0x40200000 8 1 .rwl 1
/-- QY.LNKCFG.RELOCK [23:16] (09). -/
def QY_LNKCFG_RELOCK : Fld := fld 0x40200000 16 8 .rwl 64
/-- QY.LNKCFG.DERRLIM [31:24] (09). -/
def QY_LNKCFG_DERRLIM : Fld := fld 0x40200000 24 8 .rwl 16
/-- QY.LNKCTRL.RETRAIN [0:0] (09). -/
def QY_LNKCTRL_RETRAIN : Fld := fld 0x40200004 0 1 .w1p
/-- QY.LNKCTRL.RESKEW [1:1] (09). -/
def QY_LNKCTRL_RESKEW : Fld := fld 0x40200004 1 1 .w1p
/-- QY.LNKCTRL.STATCLR [2:2] (09). -/
def QY_LNKCTRL_STATCLR : Fld := fld 0x40200004 2 1 .w1p
/-- QY.LNKSTAT.STATE [2:0] (09). -/
def QY_LNKSTAT_STATE : Fld := fld 0x40200008 0 3 .ro
/-- QY.LNKSTAT.ULOCK [3:3] (09). -/
def QY_LNKSTAT_ULOCK : Fld := fld 0x40200008 3 1 .ro
/-- QY.LNKSTAT.TLOCK [4:4] (09). -/
def QY_LNKSTAT_TLOCK : Fld := fld 0x40200008 4 1 .ro
/-- QY.LNKSTAT.TGEN [6:5] (09). -/
def QY_LNKSTAT_TGEN : Fld := fld 0x40200008 5 2 .ro
/-- QY.LNKSTAT.THREE [7:7] (09). -/
def QY_LNKSTAT_THREE : Fld := fld 0x40200008 7 1 .ro
/-- QY.LNKSTAT.GENMIS [8:8] (09). -/
def QY_LNKSTAT_GENMIS : Fld := fld 0x40200008 8 1 .w1c
/-- QY.LNKSTAT.TRAINFAIL [9:9] (09). -/
def QY_LNKSTAT_TRAINFAIL : Fld := fld 0x40200008 9 1 .w1c
/-- QY.LNKSTAT.DISCFAIL [10:10] (09). -/
def QY_LNKSTAT_DISCFAIL : Fld := fld 0x40200008 10 1 .w1c
/-- QY.LNKSTAT.SKEWFAIL [11:11] (09). -/
def QY_LNKSTAT_SKEWFAIL : Fld := fld 0x40200008 11 1 .w1c
/-- QY.LNKSTAT.SKEWDRIFT [12:12] (09). -/
def QY_LNKSTAT_SKEWDRIFT : Fld := fld 0x40200008 12 1 .w1c
/-- QY.LNKSTAT.SAMPCLIP [13:13] (09). -/
def QY_LNKSTAT_SAMPCLIP : Fld := fld 0x40200008 13 1 .w1c
/-- QY.LNKSTAT.NEWTILE [14:14] (09). -/
def QY_LNKSTAT_NEWTILE : Fld := fld 0x40200008 14 1 .w1c
/-- QY.LNKSTAT.DERRBURST [15:15] (09). -/
def QY_LNKSTAT_DERRBURST : Fld := fld 0x40200008 15 1 .w1c
/-- QY.LNKSTAT.TILESRC0 [16:16] (09). -/
def QY_LNKSTAT_TILESRC0 : Fld := fld 0x40200008 16 1 .w1c
/-- QY.LNKSTAT.LOSS [17:17] (09). -/
def QY_LNKSTAT_LOSS : Fld := fld 0x40200008 17 1 .w1c
/-- QY.LNKTIM.REFOFF [8:0] (09). -/
def QY_LNKTIM_REFOFF : Fld := fld 0x4020000c 0 9 .rwl 128
/-- QY.LNKTIM.ULSLOT [20:16] (09). -/
def QY_LNKTIM_ULSLOT : Fld := fld 0x4020000c 16 5 .ro 16
/-- QY.LNKTIM.ULCAP [28:24] (09). -/
def QY_LNKTIM_ULCAP : Fld := fld 0x4020000c 24 5 .rwl 24
/-- QY.LAUNCH.LAUNCH [12:0] (09). -/
def QY_LAUNCH_LAUNCH : Fld := fld 0x40200010 0 13 .ro
/-- QY.LAUNCH.TARGET [28:16] (09). -/
def QY_LAUNCH_TARGET : Fld := fld 0x40200010 16 13 .ro
/-- QY.RTT.TIME [19:0] (09). -/
def QY_RTT_TIME : Fld := fld 0x40200014 0 20 .ro
/-- QY.RTTAVG.TIME [19:0] (09). -/
def QY_RTTAVG_TIME : Fld := fld 0x40200018 0 20 .ro
/-- QY.DLAT.TDTX [15:0] (09). -/
def QY_DLAT_TDTX : Fld := fld 0x4020001c 0 16 .ro
/-- QY.DLAT.TDRX [31:16] (09). -/
def QY_DLAT_TDRX : Fld := fld 0x4020001c 16 16 .ro
/-- QY.TLAT.TRXLAT [15:0] (09). -/
def QY_TLAT_TRXLAT : Fld := fld 0x40200020 0 16 .ro
/-- QY.TLAT.TTXLAT [31:16] (09). -/
def QY_TLAT_TTXLAT : Fld := fld 0x40200020 16 16 .ro
/-- QY.SKEWCFG.TOL [7:0] (09). -/
def QY_SKEWCFG_TOL : Fld := fld 0x40200024 0 8 .rwl 10
/-- QY.TILEID.SERIAL [31:0] (09). -/
def QY_TILEID_SERIAL : Fld := fld 0x40200028 0 32 .ro
/-- QY.EYE.TEYE [7:0] (09). -/
def QY_EYE_TEYE : Fld := fld 0x4020002c 0 8 .ro
/-- QY.EYE.TPSEL [10:8] (09). -/
def QY_EYE_TPSEL : Fld := fld 0x4020002c 8 3 .ro
/-- QY.EYE.DEYE [23:16] (09). -/
def QY_EYE_DEYE : Fld := fld 0x4020002c 16 8 .ro
/-- QY.ARRIVE.LAST [15:0] (09). -/
def QY_ARRIVE_LAST : Fld := fld 0x40200030 0 16 .ro
/-- QY.ARRIVE.WORST [31:16] (09). -/
def QY_ARRIVE_WORST : Fld := fld 0x40200030 16 16 .ro 0x8000
/-- QY.SYNCERR.COUNT [31:0] (09). -/
def QY_SYNCERR : Fld := fld 0x40200040 0 32 .ro
/-- QY.UCRCCNT.COUNT [31:0] (09). -/
def QY_UCRCCNT : Fld := fld 0x40200044 0 32 .ro
/-- QY.UFNERR.COUNT [31:0] (09). -/
def QY_UFNERR : Fld := fld 0x40200048 0 32 .ro
/-- QY.ULATE.COUNT [31:0] (09). -/
def QY_ULATE : Fld := fld 0x4020004c 0 32 .ro
/-- QY.DCRCCNT.COUNT [31:0] (09). -/
def QY_DCRCCNT : Fld := fld 0x40200050 0 32 .ro
/-- QY.ULOSSCNT.COUNT [31:0] (09). -/
def QY_ULOSSCNT : Fld := fld 0x40200054 0 32 .ro
/-- QY.TRAINCNT.COUNT [31:0] (09). -/
def QY_TRAINCNT : Fld := fld 0x40200058 0 32 .ro
/-- QY.HOLDCNT.COUNT [31:0] (09). -/
def QY_HOLDCNT : Fld := fld 0x4020005c 0 32 .ro
/-- QY.TCHCFG.RTO [3:0] (10). -/
def QY_TCHCFG_RTO : Fld := fld 0x40203000 0 4 .rwl 8
/-- QY.TCHCFG.RETRYMAX [11:8] (10). -/
def QY_TCHCFG_RETRYMAX : Fld := fld 0x40203000 8 4 .rwl 8
/-- QY.TCHCFG.HOLDWIN [23:16] (10). -/
def QY_TCHCFG_HOLDWIN : Fld := fld 0x40203000 16 8 .rwl 64
/-- QY.TCHCTRL.RESET [0:0] (10). -/
def QY_TCHCTRL_RESET : Fld := fld 0x40203004 0 1 .w1p
/-- QY.TCHCTRL.STATCLR [1:1] (10). -/
def QY_TCHCTRL_STATCLR : Fld := fld 0x40203004 1 1 .w1p
/-- QY.TCHSTAT.SYNC [0:0] (10). -/
def QY_TCHSTAT_SYNC : Fld := fld 0x40203008 0 1 .ro
/-- QY.TCHSTAT.RSTPEND [1:1] (10). -/
def QY_TCHSTAT_RSTPEND : Fld := fld 0x40203008 1 1 .ro
/-- QY.TCHSTAT.FRESH [2:2] (10). -/
def QY_TCHSTAT_FRESH : Fld := fld 0x40203008 2 1 .ro
/-- QY.TCHSTAT.OUTST [8:4] (10). -/
def QY_TCHSTAT_OUTST : Fld := fld 0x40203008 4 5 .ro
/-- QY.TCHSTAT.FAIL [16:16] (10). -/
def QY_TCHSTAT_FAIL : Fld := fld 0x40203008 16 1 .w1c
/-- QY.TCHSTAT.TRESET [17:17] (10). -/
def QY_TCHSTAT_TRESET : Fld := fld 0x40203008 17 1 .w1c
/-- QY.TCHSTAT.OPENEV [18:18] (10). -/
def QY_TCHSTAT_OPENEV : Fld := fld 0x40203008 18 1 .w1c
/-- QY.TCHSTAT.COMPLYEV [19:19] (10). -/
def QY_TCHSTAT_COMPLYEV : Fld := fld 0x40203008 19 1 .w1c
/-- QY.TCHSTAT.DUALAUTH [20:20] (10). -/
def QY_TCHSTAT_DUALAUTH : Fld := fld 0x40203008 20 1 .w1c
/-- QY.TCHSTAT.OVERTEMP [21:21] (10). -/
def QY_TCHSTAT_OVERTEMP : Fld := fld 0x40203008 21 1 .w1c
/-- QY.TCHSTAT.EVLOST [22:22] (10). -/
def QY_TCHSTAT_EVLOST : Fld := fld 0x40203008 22 1 .w1c
/-- QY.TTEMP.TPH [15:0] (10). -/
def QY_TTEMP_TPH : Fld := fld 0x4020300c 0 16 .ro 0x8000
/-- QY.TTEMP.TTL [31:16] (10). -/
def QY_TTEMP_TTL : Fld := fld 0x4020300c 16 16 .ro 0x8000
/-- QY.TEVLAST.CODE [7:0] (10). -/
def QY_TEVLAST_CODE : Fld := fld 0x40203010 0 8 .ro
/-- QY.TEVLAST.OUTPUT [17:8] (10). -/
def QY_TEVLAST_OUTPUT : Fld := fld 0x40203010 8 10 .ro
/-- QY.TEVLAST.FRAME [31:18] (10). -/
def QY_TEVLAST_FRAME : Fld := fld 0x40203010 18 14 .ro
/-- QY.TREQ.ADDR [15:0] (10). -/
def QY_TREQ_ADDR : Fld := fld 0x40203020 0 16 .rw
/-- QY.TREQ.WR [16:16] (10). -/
def QY_TREQ_WR : Fld := fld 0x40203020 16 1 .rw
/-- QY.TREQ.GO [17:17] (10). -/
def QY_TREQ_GO : Fld := fld 0x40203020 17 1 .w1p
/-- QY.TDATA.DATA [31:0] (10). -/
def QY_TDATA_DATA : Fld := fld 0x40203024 0 32 .rw
/-- QY.TRSP.BUSY [0:0] (10). -/
def QY_TRSP_BUSY : Fld := fld 0x40203028 0 1 .ro
/-- QY.TRSP.DONE [1:1] (10). -/
def QY_TRSP_DONE : Fld := fld 0x40203028 1 1 .w1c
/-- QY.TRSP.STATUS [7:4] (10). -/
def QY_TRSP_STATUS : Fld := fld 0x40203028 4 4 .ro
/-- QY.TRETX.COUNT [31:0] (10). -/
def QY_TRETX : Fld := fld 0x40203040 0 32 .ro
/-- QY.TMALF.COUNT [31:0] (10). -/
def QY_TMALF : Fld := fld 0x40203044 0 32 .ro
/-- QY.TCHFAIL.COUNT [31:0] (10). -/
def QY_TCHFAIL : Fld := fld 0x40203048 0 32 .ro
/-- QY.TEVCNT.COUNT [31:0] (10). -/
def QY_TEVCNT : Fld := fld 0x4020304c 0 32 .ro
/-- PVE.CTRL.EN [0:0] (11). -/
def PVE_CTRL_EN : Fld := fld 0x400c0000 0 1 .rwl
/-- PVE.CTRL.STATCLR [1:1] (11). -/
def PVE_CTRL_STATCLR : Fld := fld 0x400c0000 1 1 .w1p
/-- PVE.STAT.NOPEN [8:0] (11). -/
def PVE_STAT_NOPEN : Fld := fld 0x400c0004 0 9 .ro
/-- PVE.STAT.NHALF [15:9] (11). -/
def PVE_STAT_NHALF : Fld := fld 0x400c0004 9 7 .ro
/-- PVE.STAT.OPENQ [20:16] (11). -/
def PVE_STAT_OPENQ : Fld := fld 0x400c0004 16 5 .ro
/-- PVE.STAT.INFLIGHT [27:21] (11). -/
def PVE_STAT_INFLIGHT : Fld := fld 0x400c0004 21 7 .ro
/-- PVE.STAT.CMDERR [28:28] (11). -/
def PVE_STAT_CMDERR : Fld := fld 0x400c0004 28 1 .w1c
/-- PVE.STAT.AUTHALARM [29:29] (11). -/
def PVE_STAT_AUTHALARM : Fld := fld 0x400c0004 29 1 .w1c
/-- PVE.STAT.RNGFAIL [30:30] (11). -/
def PVE_STAT_RNGFAIL : Fld := fld 0x400c0004 30 1 .ro
/-- PVE.PORTCFG.UDPPORT [15:0] (11). -/
def PVE_PORTCFG_UDPPORT : Fld := fld 0x400c0008 0 16 .rwl 22102
/-- PVE.PORTCFG.V4EN [16:16] (11). -/
def PVE_PORTCFG_V4EN : Fld := fld 0x400c0008 16 1 .rwl 1
/-- PVE.PORTCFG.V6EN [17:17] (11). -/
def PVE_PORTCFG_V6EN : Fld := fld 0x400c0008 17 1 .rwl 1
/-- PVE.PORTCFG.PV1EN [18:18] (11). -/
def PVE_PORTCFG_PV1EN : Fld := fld 0x400c0008 18 1 .rwl
/-- PVE.PORTCFG.PV2EN [19:19] (11). -/
def PVE_PORTCFG_PV2EN : Fld := fld 0x400c0008 19 1 .rwl 1
/-- PVE.PORTCFG.DSCP [29:24] (11). -/
def PVE_PORTCFG_DSCP : Fld := fld 0x400c0008 24 6 .rwl
/-- PVE.TCFG.HALFTMO [11:0] (11). -/
def PVE_TCFG_HALFTMO : Fld := fld 0x400c000c 0 12 .rwl 1000
/-- PVE.TCFG.IDLE [27:16] (11). -/
def PVE_TCFG_IDLE : Fld := fld 0x400c000c 16 12 .rwl 30
/-- PVE.OPENLIM.RATE [7:0] (11). -/
def PVE_OPENLIM_RATE : Fld := fld 0x400c0010 0 8 .rwl 4
/-- PVE.OPENLIM.AUTHLIM [23:16] (11). -/
def PVE_OPENLIM_AUTHLIM : Fld := fld 0x400c0010 16 8 .rwl 16
/-- PVE.CACHEBASE.ADDR [23:12] (11). -/
def PVE_CACHEBASE_ADDR : Fld := fld 0x400c0014 12 12 .rwl
/-- PVE.KEYSTAT.USABLE [7:0] (11). -/
def PVE_KEYSTAT_USABLE : Fld := fld 0x400c0018 0 8 .ro
/-- PVE.OPENQ.VALID [0:0] (11). -/
def PVE_OPENQ_VALID : Fld := fld 0x400c001c 0 1 .ro
/-- PVE.OPENQ.RQ [6:1] (11). -/
def PVE_OPENQ_RQ : Fld := fld 0x400c001c 1 6 .ro
/-- PVE.OPENQ.VERS [7:7] (11). -/
def PVE_OPENQ_VERS : Fld := fld 0x400c001c 7 1 .ro
/-- PVE.OPENQ.ARRIVAL [31:16] (11). -/
def PVE_OPENQ_ARRIVAL : Fld := fld 0x400c001c 16 16 .ro
/-- PVE.RSEL.ENTRY [5:0] (11). -/
def PVE_RSEL_ENTRY : Fld := fld 0x400c0020 0 6 .rw
/-- PVE.RID.RID [31:0] (11). -/
def PVE_RID_RID : Fld := fld 0x400c0024 0 32 .rwl
/-- PVE.RCFG.VALID [0:0] (11). -/
def PVE_RCFG_VALID : Fld := fld 0x400c0028 0 1 .rwl
/-- PVE.RCFG.KEYSLOT [3:1] (11). -/
def PVE_RCFG_KEYSLOT : Fld := fld 0x400c0028 1 3 .rwl
/-- PVE.RCFG.PV1 [4:4] (11). -/
def PVE_RCFG_PV1 : Fld := fld 0x400c0028 4 1 .rwl
/-- PVE.RCFG.PV2 [5:5] (11). -/
def PVE_RCFG_PV2 : Fld := fld 0x400c0028 5 1 .rwl
/-- PVE.RCFG.MAXSESS [15:8] (11). -/
def PVE_RCFG_MAXSESS : Fld := fld 0x400c0028 8 8 .rwl 1
/-- PVE.RCFG.QPOL [23:16] (11). -/
def PVE_RCFG_QPOL : Fld := fld 0x400c0028 16 8 .rwl
/-- PVE.SSEL.SESSION [7:0] (11). -/
def PVE_SSEL_SESSION : Fld := fld 0x400c0030 0 8 .rw
/-- PVE.SCTX.STATE [1:0] (11). -/
def PVE_SCTX_STATE : Fld := fld 0x400c0034 0 2 .ro
/-- PVE.SCTX.VERS [2:2] (11). -/
def PVE_SCTX_VERS : Fld := fld 0x400c0034 2 1 .ro
/-- PVE.SCTX.NET [3:3] (11). -/
def PVE_SCTX_NET : Fld := fld 0x400c0034 3 1 .ro
/-- PVE.SCTX.RQ [9:4] (11). -/
def PVE_SCTX_RQ : Fld := fld 0x400c0034 4 6 .ro
/-- PVE.SCTX.SGEN [31:16] (11). -/
def PVE_SCTX_SGEN : Fld := fld 0x400c0034 16 16 .ro
/-- PVE.SRXHI.SEQ [31:0] (11). -/
def PVE_SRXHI_SEQ : Fld := fld 0x400c0038 0 32 .ro
/-- PVE.STXSEQ.SEQ [31:0] (11). -/
def PVE_STXSEQ_SEQ : Fld := fld 0x400c003c 0 32 .ro
/-- PVE.SCMD.ACCEPT [0:0] (11). -/
def PVE_SCMD_ACCEPT : Fld := fld 0x400c0040 0 1 .w1p
/-- PVE.SCMD.REFUSE [1:1] (11). -/
def PVE_SCMD_REFUSE : Fld := fld 0x400c0040 1 1 .w1p
/-- PVE.SCMD.CLOSE [2:2] (11). -/
def PVE_SCMD_CLOSE : Fld := fld 0x400c0040 2 1 .w1p
/-- PVE.SCMD.REFCODE [8:8] (11). -/
def PVE_SCMD_REFCODE : Fld := fld 0x400c0040 8 1 .rw
/-- PVE.SAUTH.FAILS [15:0] (11). -/
def PVE_SAUTH_FAILS : Fld := fld 0x400c0044 0 16 .ro
/-- PVE.SCNT.HALF [8:0] (11). -/
def PVE_SCNT_HALF : Fld := fld 0x400c0048 0 9 .ro
/-- PVE.SCNT.OPEN [24:16] (11). -/
def PVE_SCNT_OPEN : Fld := fld 0x400c0048 16 9 .ro
/-- PVE.RXCNT.COUNT [31:0] (11). -/
def PVE_RXCNT : Fld := fld 0x400c0060 0 32 .ro
/-- PVE.IPDROP.COUNT [31:0] (11). -/
def PVE_IPDROP : Fld := fld 0x400c0064 0 32 .ro
/-- PVE.ZLENCNT.COUNT [31:0] (11). -/
def PVE_ZLENCNT : Fld := fld 0x400c0068 0 32 .ro
/-- PVE.MALFCNT.COUNT [31:0] (11). -/
def PVE_MALFCNT : Fld := fld 0x400c006c 0 32 .ro
/-- PVE.OVLCNT.COUNT [31:0] (11). -/
def PVE_OVLCNT : Fld := fld 0x400c0070 0 32 .ro
/-- PVE.OPENDROP.COUNT [31:0] (11). -/
def PVE_OPENDROP : Fld := fld 0x400c0074 0 32 .ro
/-- PVE.SBYDROP.COUNT [31:0] (11). -/
def PVE_SBYDROP : Fld := fld 0x400c0078 0 32 .ro
/-- PVE.STALEDROP.COUNT [31:0] (11). -/
def PVE_STALEDROP : Fld := fld 0x400c007c 0 32 .ro
/-- PVE.AUTHCNT.COUNT [31:0] (11). -/
def PVE_AUTHCNT : Fld := fld 0x400c0080 0 32 .ro
/-- PVE.REPLAYCNT.COUNT [31:0] (11). -/
def PVE_REPLAYCNT : Fld := fld 0x400c0084 0 32 .ro
/-- PVE.DUPCNT.COUNT [31:0] (11). -/
def PVE_DUPCNT : Fld := fld 0x400c0088 0 32 .ro
/-- PVE.RETRYHIT.COUNT [31:0] (11). -/
def PVE_RETRYHIT : Fld := fld 0x400c008c 0 32 .ro
/-- PVE.STALECNT.COUNT [31:0] (11). -/
def PVE_STALECNT : Fld := fld 0x400c0090 0 32 .ro
/-- PVE.CONFCNT.COUNT [31:0] (11). -/
def PVE_CONFCNT : Fld := fld 0x400c0094 0 32 .ro
/-- PVE.ACCCNT.COUNT [31:0] (11). -/
def PVE_ACCCNT : Fld := fld 0x400c0098 0 32 .ro
/-- TIM.CTRL.STATCLR [0:0] (13). -/
def TIM_CTRL_STATCLR : Fld := fld 0x40090000 0 1 .w1p
/-- TIM.T3CFG.MODE [0:0] (13). -/
def TIM_T3CFG_MODE : Fld := fld 0x40090004 0 1 .rwl
/-- TIM.T3CFG.PRI [2:1] (13). -/
def TIM_T3CFG_PRI : Fld := fld 0x40090004 1 2 .rw
/-- TIM.T3CFG.SEC [4:3] (13). -/
def TIM_T3CFG_SEC : Fld := fld 0x40090004 3 2 .rw
/-- TIM.T3CFG.PSH [11:8] (13). -/
def TIM_T3CFG_PSH : Fld := fld 0x40090004 8 4 .rw 10
/-- TIM.T3CFG.ISH [20:16] (13). -/
def TIM_T3CFG_ISH : Fld := fld 0x40090004 16 5 .rw 22
/-- TIM.T3CFG.REVWAIT [31:24] (13). -/
def TIM_T3CFG_REVWAIT : Fld := fld 0x40090004 24 8 .rw 10
/-- TIM.T3SLEW.SLEW [23:0] (13). -/
def TIM_T3SLEW_SLEW : Fld := fld 0x40090008 0 24 .rw 0x100
/-- TIM.T3STAT.SRC [1:0] (13). -/
def TIM_T3STAT_SRC : Fld := fld 0x4009000c 0 2 .ro
/-- TIM.T3STAT.HOLD [2:2] (13). -/
def TIM_T3STAT_HOLD : Fld := fld 0x4009000c 2 1 .ro
/-- TIM.T3STAT.STEPPED [3:3] (13). -/
def TIM_T3STAT_STEPPED : Fld := fld 0x4009000c 3 1 .ro
/-- TIM.T3STAT.FAR [4:4] (13). -/
def TIM_T3STAT_FAR : Fld := fld 0x4009000c 4 1 .ro
/-- TIM.T3STAT.SRCCHG [5:5] (13). -/
def TIM_T3STAT_SRCCHG : Fld := fld 0x4009000c 5 1 .w1c
/-- TIM.T3STAT.INCERR [6:6] (13). -/
def TIM_T3STAT_INCERR : Fld := fld 0x4009000c 6 1 .w1c
/-- TIM.T3OFF.OFFSET [31:0] (13). -/
def TIM_T3OFF_OFFSET : Fld := fld 0x40090010 0 32 .ro
/-- TIM.BCNOFF.OFFSET [31:0] (13). -/
def TIM_BCNOFF_OFFSET : Fld := fld 0x40090090 0 32 .ro
/-- TIM.T3FAR.LIMIT [31:0] (13). -/
def TIM_T3FAR_LIMIT : Fld := fld 0x40090014 0 32 .rw 1000
/-- TIM.STEPFRM.FRAME [31:0] (13). -/
def TIM_STEPFRM_FRAME : Fld := fld 0x40090018 0 32 .ro
/-- TIM.STEPDELTA.FRAME [31:0] (13). -/
def TIM_STEPDELTA_FRAME : Fld := fld 0x4009001c 0 32 .ro
/-- TIM.ARMWIN.FRAMES [30:0] (13). -/
def TIM_ARMWIN_FRAMES : Fld := fld 0x40090020 0 31 .rwl 0x04000000
/-- TIM.SRCCNT.COUNT [31:0] (13). -/
def TIM_SRCCNT : Fld := fld 0x40090030 0 32 .ro
/-- TIM.HOLDCNT.COUNT [31:0] (13). -/
def TIM_HOLDCNT : Fld := fld 0x40090034 0 32 .ro
/-- TIM.FARCNT.COUNT [31:0] (13). -/
def TIM_FARCNT : Fld := fld 0x40090038 0 32 .ro
/-- TIM.BCNBAD.COUNT [31:0] (13). -/
def TIM_BCNBAD : Fld := fld 0x4009003c 0 32 .ro
/-- TIM.PTPDROP.COUNT [31:0] (13). -/
def TIM_PTPDROP : Fld := fld 0x40090040 0 32 .ro
/-- TIM.PPSCFG.OUTEN [0:0] (13). -/
def TIM_PPSCFG_OUTEN : Fld := fld 0x40090050 0 1 .rw
/-- TIM.PPSCFG.OUTSRC [2:1] (13). -/
def TIM_PPSCFG_OUTSRC : Fld := fld 0x40090050 1 2 .rw
/-- TIM.PPSCFG.INEN [3:3] (13). -/
def TIM_PPSCFG_INEN : Fld := fld 0x40090050 3 1 .rw
/-- TIM.PPSCFG.ARMED [4:4] (13). -/
def TIM_PPSCFG_ARMED : Fld := fld 0x40090050 4 1 .ro
/-- TIM.PPSCFG.WIDTH [15:8] (13). -/
def TIM_PPSCFG_WIDTH : Fld := fld 0x40090050 8 8 .rw 100
/-- TIM.PPSNEXT.NS [31:0] (13). -/
def TIM_PPSNEXT_NS : Fld := fld 0x40090054 0 32 .rw
/-- TIM.PPSSTAT.NEW [0:0] (13). -/
def TIM_PPSSTAT_NEW : Fld := fld 0x40090058 0 1 .w1c
/-- TIM.PPSSTAT.OVERRUN [1:1] (13). -/
def TIM_PPSSTAT_OVERRUN : Fld := fld 0x40090058 1 1 .w1c
/-- TIM.PPSSTAT.WRAP [25:16] (13). -/
def TIM_PPSSTAT_WRAP : Fld := fld 0x40090058 16 10 .ro
/-- TIM.PPSCAPn.NS [31:0] (13). -/
def TIM_PPSCAPn_NS : Fld := fld 0x40090060 0 32 .ro
/-- TIM.PTPCFGd.DOMAIN [7:0] (13). -/
def TIM_PTPCFGd_DOMAIN : Fld := fld 0x40090070 0 8 .rwl
/-- TIM.PTPCFGd.TRANSPORT [9:8] (13). -/
def TIM_PTPCFGd_TRANSPORT : Fld := fld 0x40090070 8 2 .rwl
/-- TIM.PTPCFGd.DELAY [10:10] (13). -/
def TIM_PTPCFGd_DELAY : Fld := fld 0x40090070 10 1 .rwl
/-- TIM.PTPCFGd.PORTS [12:11] (13). -/
def TIM_PTPCFGd_PORTS : Fld := fld 0x40090070 11 2 .rwl
/-- TIM.PTPCFGd.PROFILE [13:13] (13). -/
def TIM_PTPCFGd_PROFILE : Fld := fld 0x40090070 13 1 .rwl
/-- TIM.PTPCFGd.HYBRID [14:14] (13). -/
def TIM_PTPCFGd_HYBRID : Fld := fld 0x40090070 14 1 .rwl
/-- TIM.BCNCFG.ROLE [1:0] (13). -/
def TIM_BCNCFG_ROLE : Fld := fld 0x40090080 0 2 .rw
/-- TIM.BCNCFG.RELAY [2:2] (13). -/
def TIM_BCNCFG_RELAY : Fld := fld 0x40090080 2 1 .rw
/-- TIM.BCNCFG.ECHO [3:3] (13). -/
def TIM_BCNCFG_ECHO : Fld := fld 0x40090080 3 1 .rw
/-- TIM.BCNCFG.BREF [17:8] (13). -/
def TIM_BCNCFG_BREF : Fld := fld 0x40090080 8 10 .rwl 200
/-- TIM.BCNTRACE.TRACE [15:0] (13). -/
def TIM_BCNTRACE_TRACE : Fld := fld 0x40090084 0 16 .rw
/-- TIM.BCNSKEW.TIN [11:0] (13). -/
def TIM_BCNSKEW_TIN : Fld := fld 0x40090088 0 12 .ro
/-- TIM.BCNSKEW.TOUT [23:12] (13). -/
def TIM_BCNSKEW_TOUT : Fld := fld 0x40090088 12 12 .ro
/-- TIM.BCNSKEW.TECHO [31:24] (13). -/
def TIM_BCNSKEW_TECHO : Fld := fld 0x40090088 24 8 .ro
/-- TIM.BCNSTAT.VALID [0:0] (13). -/
def TIM_BCNSTAT_VALID : Fld := fld 0x4009008c 0 1 .ro
/-- TIM.BCNSTAT.ACQ [1:1] (13). -/
def TIM_BCNSTAT_ACQ : Fld := fld 0x4009008c 1 1 .ro
/-- TIM.BCNSTAT.HOP [5:2] (13). -/
def TIM_BCNSTAT_HOP : Fld := fld 0x4009008c 2 4 .ro
/-- TIM.BCNSTAT.STEPPED [6:6] (13). -/
def TIM_BCNSTAT_STEPPED : Fld := fld 0x4009008c 6 1 .ro
/-- TIM.BCNSTAT.SRCOK [7:7] (13). -/
def TIM_BCNSTAT_SRCOK : Fld := fld 0x4009008c 7 1 .ro
/-- TIM.BCNSTAT.FNMIS [8:8] (13). -/
def TIM_BCNSTAT_FNMIS : Fld := fld 0x4009008c 8 1 .w1c
/-- TIM.BCNSTAT.BADWORD [9:9] (13). -/
def TIM_BCNSTAT_BADWORD : Fld := fld 0x4009008c 9 1 .w1c
/-- TIM.BCNSTAT.MISS [10:10] (13). -/
def TIM_BCNSTAT_MISS : Fld := fld 0x4009008c 10 1 .w1c
/-- TIM.BCNSTAT.HOPLIM [11:11] (13). -/
def TIM_BCNSTAT_HOPLIM : Fld := fld 0x4009008c 11 1 .w1c
/-- TIM.BCNRTT.TIME [19:0] (13). -/
def TIM_BCNRTT_TIME : Fld := fld 0x40090094 0 20 .ro
/-- TIM.TBnNS.VALUE [31:0] (13). -/
def TIM_TBnNS_VALUE : Fld := fld 0x40090100 0 32 .ro
/-- TIM.TBnFRAC.VALUE [31:0] (13). -/
def TIM_TBnFRAC_VALUE : Fld := fld 0x40090104 0 32 .ro
/-- TIM.TBnWRAP.VALUE [9:0] (13). -/
def TIM_TBnWRAP_VALUE : Fld := fld 0x40090108 0 10 .ro
/-- TIM.TBnINCLO.INC [31:0] (13). -/
def TIM_TBnINCLO_INC : Fld := fld 0x4009010c 0 32 .rw
/-- TIM.TBnINCHI.INC [2:0] (13). -/
def TIM_TBnINCHI_INC : Fld := fld 0x40090110 0 3 .rw 4
/-- TIM.TBnADJLO.ADJ [31:0] (13). -/
def TIM_TBnADJLO_ADJ : Fld := fld 0x40090114 0 32 .wo
/-- TIM.TBnADJMID.ADJ [31:0] (13). -/
def TIM_TBnADJMID_ADJ : Fld := fld 0x40090118 0 32 .wo
/-- TIM.TBnADJHI.ADJ [9:0] (13). -/
def TIM_TBnADJHI_ADJ : Fld := fld 0x4009011c 0 10 .wo
/-- TIM.TBnCTRL.VALID [0:0] (13). -/
def TIM_TBnCTRL_VALID : Fld := fld 0x40090120 0 1 .rw
/-- EVT.CTRL.STATCLR [0:0] (13). -/
def EVT_CTRL_STATCLR : Fld := fld 0x40160000 0 1 .w1p
/-- EVT.STAT.NEW [3:0] (13). -/
def EVT_STAT_NEW : Fld := fld 0x40160004 0 4 .ro
/-- EVT.STAT.OVERRUN [11:8] (13). -/
def EVT_STAT_OVERRUN : Fld := fld 0x40160004 8 4 .w1c
/-- EVT.CFGn.MODE [2:0] (13). -/
def EVT_CFGn_MODE : Fld := { fld 0x40160010 0 3 .rw with legal := fun v => decide (v < 6) }
/-- EVT.CFGn.K [11:8] (13). -/
def EVT_CFGn_K : Fld := fld 0x40160010 8 4 .rw
/-- EVT.CFGn.DELAY [23:16] (13). -/
def EVT_CFGn_DELAY : Fld := fld 0x40160010 16 8 .rw
/-- EVT.CFGn.WIDTH [27:24] (13). -/
def EVT_CFGn_WIDTH : Fld := fld 0x40160010 24 4 .rw 1
/-- EVT.CAPFn.FRAME [31:0] (13). -/
def EVT_CAPFn_FRAME : Fld := fld 0x40160020 0 32 .ro
/-- EVT.CAPSn.SUB [13:0] (13). -/
def EVT_CAPSn_SUB : Fld := fld 0x40160024 0 14 .ro
/-- EVT.CAPSn.EDGE [14:14] (13). -/
def EVT_CAPSn_EDGE : Fld := fld 0x40160024 14 1 .ro
/-- EVT.CAPSn.WRAP [25:16] (13). -/
def EVT_CAPSn_WRAP : Fld := fld 0x40160024 16 10 .ro
/-- EVT.POPn.POP [0:0] (13). -/
def EVT_POPn_POP : Fld := fld 0x40160028 0 1 .w1p
/-- EVT.LOSTn.COUNT [31:0] (13). -/
def EVT_LOSTn : Fld := fld 0x40160060 0 32 .ro
/-- ROL.CFG.PAIRED [0:0] (14). -/
def ROL_CFG_PAIRED : Fld := fld 0x40150000 0 1 .rwl
/-- ROL.CFG.BCNMODE [2:1] (14). -/
def ROL_CFG_BCNMODE : Fld := fld 0x40150000 1 2 .rwl
/-- ROL.CFG.MISSLIM [7:4] (14). -/
def ROL_CFG_MISSLIM : Fld := fld 0x40150000 4 4 .rwl 3
/-- ROL.CFG.JOINWAIT [15:8] (14). -/
def ROL_CFG_JOINWAIT : Fld := fld 0x40150000 8 8 .rwl 16
/-- ROL.CMD.SWAP [0:0] (14). -/
def ROL_CMD_SWAP : Fld := fld 0x40150004 0 1 .w1p
/-- ROL.CMD.SWCANCEL [1:1] (14). -/
def ROL_CMD_SWCANCEL : Fld := fld 0x40150004 1 1 .w1p
/-- ROL.CMD.STATCLR [2:2] (14). -/
def ROL_CMD_STATCLR : Fld := fld 0x40150004 2 1 .w1p
/-- ROL.SWAPFRM.FRAME [31:0] (14). -/
def ROL_SWAPFRM_FRAME : Fld := fld 0x40150008 0 32 .rw
/-- ROL.STAT.STATE [2:0] (14). -/
def ROL_STAT_STATE : Fld := fld 0x4015000c 0 3 .ro
/-- ROL.STAT.SENIOR [3:3] (14). -/
def ROL_STAT_SENIOR : Fld := fld 0x4015000c 3 1 .ro
/-- ROL.STAT.AUTH [4:4] (14). -/
def ROL_STAT_AUTH : Fld := fld 0x4015000c 4 1 .ro
/-- ROL.STAT.ACTIN [5:5] (14). -/
def ROL_STAT_ACTIN : Fld := fld 0x4015000c 5 1 .ro
/-- ROL.STAT.HBTOK [6:6] (14). -/
def ROL_STAT_HBTOK : Fld := fld 0x4015000c 6 1 .ro
/-- ROL.STAT.MIROK [7:7] (14). -/
def ROL_STAT_MIROK : Fld := fld 0x4015000c 7 1 .ro
/-- ROL.STAT.PSTATE [10:8] (14). -/
def ROL_STAT_PSTATE : Fld := fld 0x4015000c 8 3 .ro
/-- ROL.STAT.PREADY [11:11] (14). -/
def ROL_STAT_PREADY : Fld := fld 0x4015000c 11 1 .ro
/-- ROL.STAT.READY [12:12] (14). -/
def ROL_STAT_READY : Fld := fld 0x4015000c 12 1 .ro
/-- ROL.STAT.SWPEND [13:13] (14). -/
def ROL_STAT_SWPEND : Fld := fld 0x4015000c 13 1 .ro
/-- ROL.STAT.SENERR [14:14] (14). -/
def ROL_STAT_SENERR : Fld := fld 0x4015000c 14 1 .ro
/-- ROL.STAT.SWREASON [19:16] (14). -/
def ROL_STAT_SWREASON : Fld := fld 0x4015000c 16 4 .ro
/-- ROL.ALARM.HBTPATH [0:0] (14). -/
def ROL_ALARM_HBTPATH : Fld := fld 0x40150010 0 1 .w1c
/-- ROL.ALARM.MIRPATH [1:1] (14). -/
def ROL_ALARM_MIRPATH : Fld := fld 0x40150010 1 1 .w1c
/-- ROL.ALARM.PARTFAIL [2:2] (14). -/
def ROL_ALARM_PARTFAIL : Fld := fld 0x40150010 2 1 .w1c
/-- ROL.ALARM.ACTLIVE [3:3] (14). -/
def ROL_ALARM_ACTLIVE : Fld := fld 0x40150010 3 1 .w1c
/-- ROL.ALARM.DUALACT [4:4] (14). -/
def ROL_ALARM_DUALACT : Fld := fld 0x40150010 4 1 .w1c
/-- ROL.ALARM.TAKEOVER [5:5] (14). -/
def ROL_ALARM_TAKEOVER : Fld := fld 0x40150010 5 1 .w1c
/-- ROL.ALARM.COLDTAKE [6:6] (14). -/
def ROL_ALARM_COLDTAKE : Fld := fld 0x40150010 6 1 .w1c
/-- ROL.ALARM.IMGMIS [7:7] (14). -/
def ROL_ALARM_IMGMIS : Fld := fld 0x40150010 7 1 .w1c
/-- ROL.ALARM.FRMSKEW [8:8] (14). -/
def ROL_ALARM_FRMSKEW : Fld := fld 0x40150010 8 1 .w1c
/-- ROL.TKFRM.FRAME [31:0] (14). -/
def ROL_TKFRM_FRAME : Fld := fld 0x40150014 0 32 .ro
/-- ROL.TAKECNT.COUNT [31:0] (14). -/
def ROL_TAKECNT : Fld := fld 0x40150020 0 32 .ro
/-- ROL.SWAPCNT.COUNT [31:0] (14). -/
def ROL_SWAPCNT : Fld := fld 0x40150024 0 32 .ro
/-- ROL.HBTMISS.COUNT [31:0] (14). -/
def ROL_HBTMISS : Fld := fld 0x40150028 0 32 .ro
/-- ROL.MIRMISS.COUNT [31:0] (14). -/
def ROL_MIRMISS : Fld := fld 0x4015002c 0 32 .ro
/-- ROL.DUALCNT.COUNT [31:0] (14). -/
def ROL_DUALCNT : Fld := fld 0x40150030 0 32 .ro
/-- ROL.FIREMISS.COUNT [31:0] (14). -/
def ROL_FIREMISS : Fld := fld 0x40150034 0 32 .ro
/-- MIR.CFG.TXPRE [2:0] (14). -/
def MIR_CFG_TXPRE : Fld := fld 0x40140000 0 3 .rwl 3
/-- MIR.CFG.TPAUTO [3:3] (14). -/
def MIR_CFG_TPAUTO : Fld := fld 0x40140000 3 1 .rwl 1
/-- MIR.CFG.EPAUTO [4:4] (14). -/
def MIR_CFG_EPAUTO : Fld := fld 0x40140000 4 1 .rwl 1
/-- MIR.CFG.EPMIN [15:8] (14). -/
def MIR_CFG_EPMIN : Fld := fld 0x40140000 8 8 .rwl 10
/-- MIR.CFG.EPLIM [31:16] (14). -/
def MIR_CFG_EPLIM : Fld := fld 0x40140000 16 16 .rwl 256
/-- MIR.CTRL.EPOCH [0:0] (14). -/
def MIR_CTRL_EPOCH : Fld := fld 0x40140004 0 1 .w1p
/-- MIR.CTRL.RESYNC [1:1] (14). -/
def MIR_CTRL_RESYNC : Fld := fld 0x40140004 1 1 .w1p
/-- MIR.CTRL.RETRAIN [2:2] (14). -/
def MIR_CTRL_RETRAIN : Fld := fld 0x40140004 2 1 .w1p
/-- MIR.CTRL.STATCLR [3:3] (14). -/
def MIR_CTRL_STATCLR : Fld := fld 0x40140004 3 1 .w1p
/-- MIR.STAT.LANE0 [1:0] (14). -/
def MIR_STAT_LANE0 : Fld := fld 0x40140008 0 2 .ro
/-- MIR.STAT.LANE1 [3:2] (14). -/
def MIR_STAT_LANE1 : Fld := fld 0x40140008 2 2 .ro
/-- MIR.STAT.UP [4:4] (14). -/
def MIR_STAT_UP : Fld := fld 0x40140008 4 1 .ro
/-- MIR.STAT.SYNC [5:5] (14). -/
def MIR_STAT_SYNC : Fld := fld 0x40140008 5 1 .ro
/-- MIR.STAT.JOINED [6:6] (14). -/
def MIR_STAT_JOINED : Fld := fld 0x40140008 6 1 .ro
/-- MIR.STAT.EPST [8:7] (14). -/
def MIR_STAT_EPST : Fld := fld 0x40140008 7 2 .ro
/-- MIR.EPOCH.CUR [15:0] (14). -/
def MIR_EPOCH_CUR : Fld := fld 0x4014000c 0 16 .ro
/-- MIR.EPOCH.LAST [31:16] (14). -/
def MIR_EPOCH_LAST : Fld := fld 0x4014000c 16 16 .ro
/-- MIR.EPSTAT.SETSZ [10:0] (14). -/
def MIR_EPSTAT_SETSZ : Fld := fld 0x40140010 0 11 .ro
/-- MIR.EPSTAT.VERIFIED [26:16] (14). -/
def MIR_EPSTAT_VERIFIED : Fld := fld 0x40140010 16 11 .ro
/-- MIR.DELAY.ONEWAY [15:0] (14). -/
def MIR_DELAY_ONEWAY : Fld := fld 0x40140014 0 16 .ro
/-- MIR.FLAGS.STREAMLOSS [0:0] (14). -/
def MIR_FLAGS_STREAMLOSS : Fld := fld 0x40140018 0 1 .w1c
/-- MIR.FLAGS.TALLYMIS [1:1] (14). -/
def MIR_FLAGS_TALLYMIS : Fld := fld 0x40140018 1 1 .w1c
/-- MIR.FLAGS.EPDISC [2:2] (14). -/
def MIR_FLAGS_EPDISC : Fld := fld 0x40140018 2 1 .w1c
/-- MIR.FLAGS.LOOP [3:3] (14). -/
def MIR_FLAGS_LOOP : Fld := fld 0x40140018 3 1 .w1c
/-- MIR.FLAGS.DELAYERR [4:4] (14). -/
def MIR_FLAGS_DELAYERR : Fld := fld 0x40140018 4 1 .w1c
/-- MIR.UNSYNC.COUNT [10:0] (14). -/
def MIR_UNSYNC : Fld := fld 0x4014001c 0 11 .ro
/-- MIR.TALLYCNT.COUNT [31:0] (14). -/
def MIR_TALLYCNT : Fld := fld 0x40140040 0 32 .ro
/-- MIR.TALLYMIS.COUNT [31:0] (14). -/
def MIR_TALLYMIS : Fld := fld 0x40140044 0 32 .ro
/-- MIR.EPCOMMIT.COUNT [31:0] (14). -/
def MIR_EPCOMMIT : Fld := fld 0x40140048 0 32 .ro
/-- MIR.EPDISCARD.COUNT [31:0] (14). -/
def MIR_EPDISCARD : Fld := fld 0x4014004c 0 32 .ro
/-- MIR.RECLATE.COUNT [31:0] (14). -/
def MIR_RECLATE : Fld := fld 0x40140050 0 32 .ro
/-- MIR.CRC0.COUNT [31:0] (14). -/
def MIR_CRC0 : Fld := fld 0x40140054 0 32 .ro
/-- MIR.CRC1.COUNT [31:0] (14). -/
def MIR_CRC1 : Fld := fld 0x40140058 0 32 .ro
/-- MIR.RETX.COUNT [31:0] (14). -/
def MIR_RETX : Fld := fld 0x4014005c 0 32 .ro
/-- MIR.SYNCBMPw.SYNCED [31:0] (14). -/
def MIR_SYNCBMPw_SYNCED : Fld := fld 0x40140100 0 32 .ro
/-- TMP.CFG.WARN [7:0] (15). -/
def TMP_CFG_WARN : Fld := fld 0x40020000 0 8 .rwl 130
/-- TMP.CFG.TRIP [15:8] (15). -/
def TMP_CFG_TRIP : Fld := fld 0x40020000 8 8 .rwl 140
/-- TMP.CFG.MINSENS [19:16] (15). -/
def TMP_CFG_MINSENS : Fld := fld 0x40020000 16 4 .rwl 4
/-- TMP.STAT.WARN [0:0] (15). -/
def TMP_STAT_WARN : Fld := fld 0x40020004 0 1 .ro
/-- TMP.STAT.FAST [1:1] (15). -/
def TMP_STAT_FAST : Fld := fld 0x40020004 1 1 .ro
/-- TMP.STAT.WRHOLD [2:2] (15). -/
def TMP_STAT_WRHOLD : Fld := fld 0x40020004 2 1 .ro
/-- TMP.STAT.PHSPREAD [3:3] (15). -/
def TMP_STAT_PHSPREAD : Fld := fld 0x40020004 3 1 .w1c
/-- TMP.STAT.PHSTALE [4:4] (15). -/
def TMP_STAT_PHSTALE : Fld := fld 0x40020004 4 1 .ro
/-- TMP.MAX.TEMP [15:0] (15). -/
def TMP_MAX_TEMP : Fld := fld 0x40020008 0 16 .ro
/-- TMP.MAX.SENSOR [19:16] (15). -/
def TMP_MAX_SENSOR : Fld := fld 0x40020008 16 4 .ro
/-- TMP.SFAIL.FAILED [15:0] (15). -/
def TMP_SFAIL_FAILED : Fld := fld 0x4002000c 0 16 .ro
/-- TMP.BANDCFG.INIT [1:0] (15). -/
def TMP_BANDCFG_INIT : Fld := fld 0x40020010 0 2 .rwl
/-- TMP.BANDCFG.SPREAD [15:8] (15). -/
def TMP_BANDCFG_SPREAD : Fld := fld 0x40020010 8 8 .rwl 4
/-- TMP.EDGEe.EDGE [15:0] (15). -/
def TMP_EDGEe_EDGE : Fld := { fld 0x40020018 0 16 .rwl with reset := fun i => [0x0000, 0x0A00, 0x1400].getD i 0 }
/-- TMP.PHTEMP.TP [15:0] (15). -/
def TMP_PHTEMP_TP : Fld := fld 0x40020024 0 16 .ro 0x8000
/-- TMP.PHTEMP.NQ [21:16] (15). -/
def TMP_PHTEMP_NQ : Fld := fld 0x40020024 16 6 .ro
/-- TMP.CTRL.STATCLR [0:0] (15). -/
def TMP_CTRL_STATCLR : Fld := fld 0x40020028 0 1 .w1p
/-- TMP.AONSTAT.TRIPPED [0:0] (15). -/
def TMP_AONSTAT_TRIPPED : Fld := fld 0x4002002c 0 1 .w1c
/-- TMP.AONSTAT.SHUTDN [1:1] (15). -/
def TMP_AONSTAT_SHUTDN : Fld := fld 0x4002002c 1 1 .w1c
/-- TMP.WRREF.COUNT [31:0] (15). -/
def TMP_WRREF : Fld := fld 0x40020030 0 32 .ro
/-- TMP.WARNCNT.COUNT [31:0] (15). -/
def TMP_WARNCNT : Fld := fld 0x40020034 0 32 .ro
/-- TMP.BANDCNT.COUNT [31:0] (15). -/
def TMP_BANDCNT : Fld := fld 0x40020038 0 32 .ro
/-- TMP.SENSn.TEMP [15:0] (15). -/
def TMP_SENSn_TEMP : Fld := fld 0x40020100 0 16 .ro
/-- TMP.SENSn.VALID [16:16] (15). -/
def TMP_SENSn_VALID : Fld := fld 0x40020100 16 1 .ro
/-- TMP.SENSn.FAILED [17:17] (15). -/
def TMP_SENSn_FAILED : Fld := fld 0x40020100 17 1 .ro
/-- CAL.CTRL.STORE [0:0] (15). -/
def CAL_CTRL_STORE : Fld := fld 0x40130000 0 1 .w1p
/-- CAL.CTRL.STATCLR [1:1] (15). -/
def CAL_CTRL_STATCLR : Fld := fld 0x40130000 1 1 .w1p
/-- CAL.STAT.DIRTY [0:0] (15). -/
def CAL_STAT_DIRTY : Fld := fld 0x40130004 0 1 .ro
/-- CAL.STAT.STORING [1:1] (15). -/
def CAL_STAT_STORING : Fld := fld 0x40130004 1 1 .ro
/-- CAL.STAT.STPEND [2:2] (15). -/
def CAL_STAT_STPEND : Fld := fld 0x40130004 2 1 .ro
/-- CAL.STAT.JSLOT [4:3] (15). -/
def CAL_STAT_JSLOT : Fld := fld 0x40130004 3 2 .ro
/-- CAL.STAT.SRES [6:5] (15). -/
def CAL_STAT_SRES : Fld := fld 0x40130004 5 2 .ro
/-- CAL.STAT.DIETRIG [7:7] (15). -/
def CAL_STAT_DIETRIG : Fld := fld 0x40130004 7 1 .w1c
/-- CAL.STAT.TRIMERR [8:8] (15). -/
def CAL_STAT_TRIMERR : Fld := fld 0x40130004 8 1 .w1c
/-- CAL.TRIGCFG.PHDELTA [15:0] (15). -/
def CAL_TRIGCFG_PHDELTA : Fld := fld 0x40130008 0 16 .rwl 0x0100
/-- CAL.TRIGCFG.DIEDELTA [31:16] (15). -/
def CAL_TRIGCFG_DIEDELTA : Fld := fld 0x40130008 16 16 .rwl 0x0280
/-- CAL.QTRIG.QUAY [31:0] (15). -/
def CAL_QTRIG_QUAY : Fld := fld 0x4013000c 0 32 .w1c
/-- CAL.JSEQ.SEQ [31:0] (15). -/
def CAL_JSEQ_SEQ : Fld := fld 0x40130010 0 32 .ro
/-- CAL.ACCCFG.MINSEP [15:0] (15). -/
def CAL_ACCCFG_MINSEP : Fld := fld 0x40130014 0 16 .rwl 4096
/-- CAL.ACCCFG.STARTWIN [23:16] (15). -/
def CAL_ACCCFG_STARTWIN : Fld := fld 0x40130014 16 8 .rwl 60
/-- CAL.ACCCFG.WAITMAX [31:24] (15). -/
def CAL_ACCCFG_WAITMAX : Fld := fld 0x40130014 24 8 .rwl 255
/-- CAL.TOL.LINTOL [7:0] (15). -/
def CAL_TOL_LINTOL : Fld := fld 0x40130018 0 8 .rwl 2
/-- CAL.TOL.THTOL [15:8] (15). -/
def CAL_TOL_THTOL : Fld := fld 0x40130018 8 8 .rwl 16
/-- CAL.TOL.GTOL [23:16] (15). -/
def CAL_TOL_GTOL : Fld := fld 0x40130018 16 8 .rwl 8
/-- CAL.PLAUS.PLIN [9:0] (15). -/
def CAL_PLAUS_PLIN : Fld := fld 0x4013001c 0 10 .rwl 64
/-- CAL.PLAUS.PTHETA [23:16] (15). -/
def CAL_PLAUS_PTHETA : Fld := fld 0x4013001c 16 8 .rwl 64
/-- CAL.PLAUS.PSCALE [31:24] (15). -/
def CAL_PLAUS_PSCALE : Fld := fld 0x4013001c 24 8 .rwl 26
/-- CAL.MEMBASE.ADDR [23:16] (15). -/
def CAL_MEMBASE_ADDR : Fld := fld 0x40130020 16 8 .rwl
/-- CAL.QSTART.QUAY [31:0] (15). -/
def CAL_QSTART_QUAY : Fld := fld 0x40130024 0 32 .ro 0xFFFFFFFF
/-- CAL.USEL.UNIT [1:0] (15). -/
def CAL_USEL_UNIT : Fld := fld 0x40130030 0 2 .rw
/-- CAL.UCFG0.INDEX [13:0] (15). -/
def CAL_UCFG0_INDEX : Fld := fld 0x40130034 0 14 .rw
/-- CAL.UCFG0.KIND [14:14] (15). -/
def CAL_UCFG0_KIND : Fld := fld 0x40130034 14 1 .rw
/-- CAL.UCFG0.WSRC [15:15] (15). -/
def CAL_UCFG0_WSRC : Fld := fld 0x40130034 15 1 .rw
/-- CAL.UCFG0.RANGE [18:16] (15). -/
def CAL_UCFG0_RANGE : Fld := fld 0x40130034 16 3 .rw
/-- CAL.UCFG1.AMP [9:0] (15). -/
def CAL_UCFG1_AMP : Fld := fld 0x40130038 0 10 .rw 32
/-- CAL.UCFG1.PERIOD [12:10] (15). -/
def CAL_UCFG1_PERIOD : Fld := fld 0x40130038 10 3 .rw 3
/-- CAL.UCFG1.NCYC [14:13] (15). -/
def CAL_UCFG1_NCYC : Fld := fld 0x40130038 13 2 .rw 1
/-- CAL.UCFG1.SETTLE [31:16] (15). -/
def CAL_UCFG1_SETTLE : Fld := fld 0x40130038 16 16 .rw 64
/-- CAL.UCTRL.GO [0:0] (15). -/
def CAL_UCTRL_GO : Fld := fld 0x4013003c 0 1 .w1p
/-- CAL.UCTRL.CANCEL [1:1] (15). -/
def CAL_UCTRL_CANCEL : Fld := fld 0x4013003c 1 1 .w1p
/-- CAL.USTAT.STATE [2:0] (15). -/
def CAL_USTAT_STATE : Fld := fld 0x40130040 0 3 .ro
/-- CAL.USTAT.REASON [7:4] (15). -/
def CAL_USTAT_REASON : Fld := fld 0x40130040 4 4 .ro
/-- CAL.USTAT.RESULT [9:8] (15). -/
def CAL_USTAT_RESULT : Fld := fld 0x40130040 8 2 .ro
/-- CAL.UFRM.FRAME [31:0] (15). -/
def CAL_UFRM_FRAME : Fld := fld 0x40130044 0 32 .ro
/-- CAL.UCAP.CAPID [15:0] (15). -/
def CAL_UCAP_CAPID : Fld := fld 0x40130048 0 16 .ro
/-- CAL.UCAP.COUNT [26:16] (15). -/
def CAL_UCAP_COUNT : Fld := fld 0x40130048 16 11 .ro
/-- CAL.UCAP.ABANDON [27:27] (15). -/
def CAL_UCAP_ABANDON : Fld := fld 0x40130048 27 1 .ro
/-- CAL.UCAP.BANDCHG [28:28] (15). -/
def CAL_UCAP_BANDCHG : Fld := fld 0x40130048 28 1 .ro
/-- CAL.UCAP.RNGCHG [29:29] (15). -/
def CAL_UCAP_RNGCHG : Fld := fld 0x40130048 29 1 .ro
/-- CAL.UCAP.BAND [31:30] (15). -/
def CAL_UCAP_BAND : Fld := fld 0x40130048 30 2 .ro
/-- CAL.SUBMIT.CAPID [15:0] (15). -/
def CAL_SUBMIT_CAPID : Fld := fld 0x40130050 0 16 .rw
/-- CAL.SUBMIT.GO [16:16] (15). -/
def CAL_SUBMIT_GO : Fld := fld 0x40130050 16 1 .w1p
/-- CAL.SUBRES.RESULT [1:0] (15). -/
def CAL_SUBRES_RESULT : Fld := fld 0x40130054 0 2 .ro
/-- CAL.SUBRES.DISAGREED [2:2] (15). -/
def CAL_SUBRES_DISAGREED : Fld := fld 0x40130054 2 1 .ro
/-- CAL.SUBRES.REASON [5:4] (15). -/
def CAL_SUBRES_REASON : Fld := fld 0x40130054 4 2 .ro
/-- CAL.TRIMSEL.TRIM [2:0] (15). -/
def CAL_TRIMSEL_TRIM : Fld := fld 0x40130060 0 3 .rw
/-- CAL.TRIMSEL.INDEX [13:8] (15). -/
def CAL_TRIMSEL_INDEX : Fld := fld 0x40130060 8 6 .rw
/-- CAL.TRIM.VALUE [7:0] (15). -/
def CAL_TRIM_VALUE : Fld := fld 0x40130064 0 8 .rw
/-- CAL.TRIM.USER [8:8] (15). -/
def CAL_TRIM_USER : Fld := fld 0x40130064 8 1 .ro
/-- CAL.SWEEPCNT.COUNT [31:0] (15). -/
def CAL_SWEEPCNT : Fld := fld 0x40130070 0 32 .ro
/-- CAL.ABANDCNT.COUNT [31:0] (15). -/
def CAL_ABANDCNT : Fld := fld 0x40130074 0 32 .ro
/-- CAL.ACCCNT.COUNT [31:0] (15). -/
def CAL_ACCCNT : Fld := fld 0x40130078 0 32 .ro
/-- CAL.REJCNT.COUNT [31:0] (15). -/
def CAL_REJCNT : Fld := fld 0x4013007c 0 32 .ro
/-- CAL.DISAGREE.COUNT [31:0] (15). -/
def CAL_DISAGREE : Fld := fld 0x40130080 0 32 .ro
/-- CAL.STORECNT.COUNT [31:0] (15). -/
def CAL_STORECNT : Fld := fld 0x40130084 0 32 .ro
/-- CAL.STOREFAIL.COUNT [31:0] (15). -/
def CAL_STOREFAIL : Fld := fld 0x40130088 0 32 .ro
/-- SYS.ID.PART [15:0] (16). -/
def SYS_ID_PART : Fld := fld 0x40000000 0 16 .ro 0x9612
/-- SYS.ID.STEP [23:16] (16). -/
def SYS_ID_STEP : Fld := fld 0x40000000 16 8 .ro 0xB0
/-- SYS.STATE.STATE [2:0] (16). -/
def SYS_STATE_STATE : Fld := fld 0x40000004 0 3 .ro 1
/-- SYS.STATE.CLASS [3:3] (16). -/
def SYS_STATE_CLASS : Fld := fld 0x40000004 3 1 .ro
/-- SYS.STRAP.SENIOR [0:0] (16). -/
def SYS_STRAP_SENIOR : Fld := fld 0x40000008 0 1 .ro
/-- SYS.STRAP.FMODE [1:1] (16). -/
def SYS_STRAP_FMODE : Fld := fld 0x40000008 1 1 .ro
/-- SYS.BOOTSTAT.SLOT [1:0] (16). -/
def SYS_BOOTSTAT_SLOT : Fld := fld 0x4000000c 0 2 .ro 2
/-- SYS.BOOTSTAT.FALLBACK [2:2] (16). -/
def SYS_BOOTSTAT_FALLBACK : Fld := fld 0x4000000c 2 1 .ro
/-- SYS.BOOTSTAT.UNPROV [3:3] (16). -/
def SYS_BOOTSTAT_UNPROV : Fld := fld 0x4000000c 3 1 .ro
/-- SYS.BOOTSTAT.CAUSEA [7:4] (16). -/
def SYS_BOOTSTAT_CAUSEA : Fld := fld 0x4000000c 4 4 .ro
/-- SYS.BOOTSTAT.CAUSEB [11:8] (16). -/
def SYS_BOOTSTAT_CAUSEB : Fld := fld 0x4000000c 8 4 .ro
/-- SYS.BOOTSTAT.FAIL [15:12] (16). -/
def SYS_BOOTSTAT_FAIL : Fld := fld 0x4000000c 12 4 .ro
/-- SYS.CHKINFO.RECORD [15:0] (16). -/
def SYS_CHKINFO_RECORD : Fld := fld 0x40000010 0 16 .ro
/-- SYS.CHKINFO.CODE [20:16] (16). -/
def SYS_CHKINFO_CODE : Fld := fld 0x40000010 16 5 .ro
/-- SYS.CHKINFO.SLOT [31:31] (16). -/
def SYS_CHKINFO_SLOT : Fld := fld 0x40000010 31 1 .ro
/-- SYS.IMGVER.VERSION [31:0] (16). -/
def SYS_IMGVER_VERSION : Fld := fld 0x40000014 0 32 .ro
/-- SYS.IMGSVN.IMAGE [6:0] (16). -/
def SYS_IMGSVN_IMAGE : Fld := fld 0x40000018 0 7 .ro
/-- SYS.IMGSVN.ROLLFWD [7:7] (16). -/
def SYS_IMGSVN_ROLLFWD : Fld := fld 0x40000018 7 1 .ro
/-- SYS.IMGSVN.OTP [14:8] (16). -/
def SYS_IMGSVN_OTP : Fld := fld 0x40000018 8 7 .ro
/-- SYS.CTRL.GO [0:0] (16). -/
def SYS_CTRL_GO : Fld := fld 0x4000001c 0 1 .w1p
/-- SYS.CTRL.SWRST [1:1] (16). -/
def SYS_CTRL_SWRST : Fld := fld 0x4000001c 1 1 .w1p
/-- SYS.LOCK.LOCK [0:0] (16). -/
def SYS_LOCK_LOCK : Fld := fld 0x40000020 0 1 .rw
/-- SYS.ERRSTAT.RSVDENC [0:0] (16). -/
def SYS_ERRSTAT_RSVDENC : Fld := fld 0x40000024 0 1 .w1c
/-- SYS.ERRSTAT.ALIGN [1:1] (16). -/
def SYS_ERRSTAT_ALIGN : Fld := fld 0x40000024 1 1 .w1c
/-- SYS.ERRSTAT.W1PMULTI [2:2] (16). -/
def SYS_ERRSTAT_W1PMULTI : Fld := fld 0x40000024 2 1 .w1c
/-- SYS.STGCFG.LANEWAIT [7:0] (16). -/
def SYS_STGCFG_LANEWAIT : Fld := fld 0x40000028 0 8 .rwl 16
/-- SYS.STGCFG.TWAIT [8:8] (16). -/
def SYS_STGCFG_TWAIT : Fld := fld 0x40000028 8 1 .rwl
/-- SYS.STGCFG.TWAITMAX [23:16] (16). -/
def SYS_STGCFG_TWAITMAX : Fld := fld 0x40000028 16 8 .rwl 10
/-- SYS.STGEND.FRAME [31:0] (16). -/
def SYS_STGEND_FRAME : Fld := fld 0x4000002c 0 32 .ro
/-- SYS.BISTQ.QY [31:0] (16). -/
def SYS_BISTQ_QY : Fld := fld 0x40000030 0 32 .ro
/-- SYS.RSTCAUSE.POWER [0:0] (16). -/
def SYS_RSTCAUSE_POWER : Fld := fld 0x40000034 0 1 .ro 1
/-- SYS.RSTCAUSE.PIN [1:1] (16). -/
def SYS_RSTCAUSE_PIN : Fld := fld 0x40000034 1 1 .ro
/-- SYS.RSTCAUSE.SOFT [2:2] (16). -/
def SYS_RSTCAUSE_SOFT : Fld := fld 0x40000034 2 1 .ro
/-- SYS.RSTCAUSE.THERM [3:3] (16). -/
def SYS_RSTCAUSE_THERM : Fld := fld 0x40000034 3 1 .ro
/-- OTP.STAT.READY [0:0] (16). -/
def OTP_STAT_READY : Fld := fld 0x40070000 0 1 .ro
/-- OTP.STAT.PBUSY [1:1] (16). -/
def OTP_STAT_PBUSY : Fld := fld 0x40070000 1 1 .ro
/-- OTP.STAT.PHOLD [2:2] (16). -/
def OTP_STAT_PHOLD : Fld := fld 0x40070000 2 1 .ro
/-- OTP.STAT.PDONE [3:3] (16). -/
def OTP_STAT_PDONE : Fld := fld 0x40070000 3 1 .w1c
/-- OTP.STAT.PREF [4:4] (16). -/
def OTP_STAT_PREF : Fld := fld 0x40070000 4 1 .w1c
/-- OTP.STAT.PERR [5:5] (16). -/
def OTP_STAT_PERR : Fld := fld 0x40070000 5 1 .w1c
/-- OTP.STAT.REASON [11:8] (16). -/
def OTP_STAT_REASON : Fld := fld 0x40070000 8 4 .ro
/-- OTP.DEVIDLO.ID [31:0] (16). -/
def OTP_DEVIDLO_ID : Fld := fld 0x40070004 0 32 .ro
/-- OTP.DEVIDHI.ID [31:0] (16). -/
def OTP_DEVIDHI_ID : Fld := fld 0x40070008 0 32 .ro
/-- OTP.KEYBITS.PKVALID [3:0] (16). -/
def OTP_KEYBITS_PKVALID : Fld := fld 0x4007000c 0 4 .ro
/-- OTP.KEYBITS.PKREVOKE [7:4] (16). -/
def OTP_KEYBITS_PKREVOKE : Fld := fld 0x4007000c 4 4 .ro
/-- OTP.KEYBITS.KVALID [15:8] (16). -/
def OTP_KEYBITS_KVALID : Fld := fld 0x4007000c 8 8 .ro
/-- OTP.KEYBITS.KREVOKE [23:16] (16). -/
def OTP_KEYBITS_KREVOKE : Fld := fld 0x4007000c 16 8 .ro
/-- OTP.KEYBITS.FACTORY [24:24] (16). -/
def OTP_KEYBITS_FACTORY : Fld := fld 0x4007000c 24 1 .ro
/-- OTP.KEYBITS.PKLOCK [25:25] (16). -/
def OTP_KEYBITS_PKLOCK : Fld := fld 0x4007000c 25 1 .ro
/-- OTP.KEYBITS.KLOCK [26:26] (16). -/
def OTP_KEYBITS_KLOCK : Fld := fld 0x4007000c 26 1 .ro
/-- OTP.SVN.COUNT [6:0] (16). -/
def OTP_SVN : Fld := fld 0x40070010 0 7 .ro
/-- OTP.RADDR.WORD [7:0] (16). -/
def OTP_RADDR_WORD : Fld := fld 0x40070014 0 8 .rw
/-- OTP.PADDR.WORD [7:0] (16). -/
def OTP_PADDR_WORD : Fld := fld 0x40070020 0 8 .rw
/-- OTP.RDATA.DATA [31:0] (16). -/
def OTP_RDATA_DATA : Fld := fld 0x40070018 0 32 .ro
/-- OTP.PDATA.DATA [31:0] (16). -/
def OTP_PDATA_DATA : Fld := fld 0x40070024 0 32 .wo
/-- OTP.PCMD.PROG [0:0] (16). -/
def OTP_PCMD_PROG : Fld := fld 0x40070028 0 1 .w1p
/-- OTP.PCMD.CANCEL [1:1] (16). -/
def OTP_PCMD_CANCEL : Fld := fld 0x40070028 1 1 .w1p
/-- XSP.CFG.MODE [3:0] (16). -/
def XSP_CFG_MODE : Fld := { fld 0x40080000 0 4 .rwl with legal := fun v => decide (v ∈ [0, 1, 2, 3, 6, 7, 9, 10, 11]) }
/-- XSP.CFG.DIV [14:8] (16). -/
def XSP_CFG_DIV : Fld := fld 0x40080000 8 7 .rwl 40
/-- XSP.CFG.DUMMY [20:16] (16). -/
def XSP_CFG_DUMMY : Fld := fld 0x40080000 16 5 .rwl 8
/-- XSP.OPC0.RDOP [15:0] (16). -/
def XSP_OPC0_RDOP : Fld := fld 0x40080004 0 16 .rwl 0x000C
/-- XSP.OPC0.PPOP [31:16] (16). -/
def XSP_OPC0_PPOP : Fld := fld 0x40080004 16 16 .rwl 0x0012
/-- XSP.OPC1.EROP [15:0] (16). -/
def XSP_OPC1_EROP : Fld := fld 0x40080008 0 16 .rwl 0x00DC
/-- XSP.OPC1.RSOP [31:16] (16). -/
def XSP_OPC1_RSOP : Fld := fld 0x40080008 16 16 .rwl 0x0005
/-- XSP.OPC2.WEOP [15:0] (16). -/
def XSP_OPC2_WEOP : Fld := fld 0x4008000c 0 16 .rwl 0x0006
/-- XSP.OPC2.ERSZ [16:16] (16). -/
def XSP_OPC2_ERSZ : Fld := fld 0x4008000c 16 1 .rwl 1
/-- XSP.OPADDR.VALUE [31:0] (16). -/
def XSP_OPADDR_VALUE : Fld := fld 0x40080010 0 32 .rw
/-- XSP.OPMEM.VALUE [31:0] (16). -/
def XSP_OPMEM_VALUE : Fld := fld 0x40080014 0 32 .rw
/-- XSP.OPLEN.VALUE [31:0] (16). -/
def XSP_OPLEN_VALUE : Fld := fld 0x40080018 0 32 .rw
/-- XSP.OPCMD.KIND [1:0] (16). -/
def XSP_OPCMD_KIND : Fld := { fld 0x4008001c 0 2 .rw with legal := fun v => decide (v < 3) }
/-- XSP.OPCMD.GO [8:8] (16). -/
def XSP_OPCMD_GO : Fld := fld 0x4008001c 8 1 .w1p
/-- XSP.OPCTRL.CANCEL [0:0] (16). -/
def XSP_OPCTRL_CANCEL : Fld := fld 0x40080020 0 1 .w1p
/-- XSP.OPCTRL.STATCLR [1:1] (16). -/
def XSP_OPCTRL_STATCLR : Fld := fld 0x40080020 1 1 .w1p
/-- XSP.OPSTAT.DEPTH [2:0] (16). -/
def XSP_OPSTAT_DEPTH : Fld := fld 0x40080024 0 3 .ro
/-- XSP.OPSTAT.BUSY [3:3] (16). -/
def XSP_OPSTAT_BUSY : Fld := fld 0x40080024 3 1 .ro
/-- XSP.OPSTAT.HELD [4:4] (16). -/
def XSP_OPSTAT_HELD : Fld := fld 0x40080024 4 1 .ro
/-- XSP.OPSTAT.DONE [5:5] (16). -/
def XSP_OPSTAT_DONE : Fld := fld 0x40080024 5 1 .w1c
/-- XSP.OPSTAT.ERR [6:6] (16). -/
def XSP_OPSTAT_ERR : Fld := fld 0x40080024 6 1 .w1c
/-- XSP.OPSTAT.CANCELLED [7:7] (16). -/
def XSP_OPSTAT_CANCELLED : Fld := fld 0x40080024 7 1 .w1c
/-- XSP.OPSTAT.FULL [8:8] (16). -/
def XSP_OPSTAT_FULL : Fld := fld 0x40080024 8 1 .w1c
/-- XSP.OPSTAT.ERRCODE [15:12] (16). -/
def XSP_OPSTAT_ERRCODE : Fld := fld 0x40080024 12 4 .ro
/-- XSP.OPCNT.COUNT [31:0] (16). -/
def XSP_OPCNT : Fld := fld 0x40080030 0 32 .ro
/-- XSP.ERRCNT.COUNT [31:0] (16). -/
def XSP_ERRCNT : Fld := fld 0x40080034 0 32 .ro
/-- TSQ.SEMk.ACQ [0:0] (17). -/
def TSQ_SEMk_ACQ : Fld := fld 0x40050040 0 1 .w1p
/-- TSQ.SEMk.REL [1:1] (17). -/
def TSQ_SEMk_REL : Fld := fld 0x40050040 1 1 .w1p
/-- TSQ.SEMk.OWNER [6:4] (17). -/
def TSQ_SEMk_OWNER : Fld := fld 0x40050040 4 3 .ro 7
/-- TSQ.CTLn.START [0:0] (17). -/
def TSQ_CTLn_START : Fld := fld 0x40050100 0 1 .w1p
/-- TSQ.CTLn.HALT [1:1] (17). -/
def TSQ_CTLn_HALT : Fld := fld 0x40050100 1 1 .w1p
/-- TSQ.STATn.STATE [1:0] (17). -/
def TSQ_STATn_STATE : Fld := fld 0x40050104 0 2 .ro
/-- TSQ.STATn.IM [2:2] (17). -/
def TSQ_STATn_IM : Fld := fld 0x40050104 2 1 .ro 1
/-- TSQ.STATn.CL [8:4] (17). -/
def TSQ_STATn_CL : Fld := fld 0x40050104 4 5 .ro 16
/-- TSQ.STATn.DEPTH [13:9] (17). -/
def TSQ_STATn_DEPTH : Fld := fld 0x40050104 9 5 .ro
/-- TSQ.STATn.ICAUSE [24:16] (17). -/
def TSQ_STATn_ICAUSE : Fld := fld 0x40050104 16 9 .ro 0x100
/-- TSQ.PCn.PC [15:0] (17). -/
def TSQ_PCn_PC : Fld := fld 0x40050108 0 16 .ro
/-- TSQ.ENTRYn.ENTRY [15:2] (17). -/
def TSQ_ENTRYn_ENTRY : Fld := fld 0x4005010c 2 14 .rw
/-- TSQ.FSTATn.ILLEGAL [0:0] (17). -/
def TSQ_FSTATn_ILLEGAL : Fld := fld 0x40050110 0 1 .w1c
/-- TSQ.FSTATn.ALIGN [1:1] (17). -/
def TSQ_FSTATn_ALIGN : Fld := fld 0x40050110 1 1 .w1c
/-- TSQ.FSTATn.BUSERR [2:2] (17). -/
def TSQ_FSTATn_BUSERR : Fld := fld 0x40050110 2 1 .w1c
/-- TSQ.FSTATn.WDOG [3:3] (17). -/
def TSQ_FSTATn_WDOG : Fld := fld 0x40050110 3 1 .w1c
/-- TSQ.FADDRn.VALUE [31:0] (17). -/
def TSQ_FADDRn_VALUE : Fld := fld 0x40050114 0 32 .ro
/-- TSQ.FPCn.VALUE [31:0] (17). -/
def TSQ_FPCn_VALUE : Fld := fld 0x40050118 0 32 .ro
/-- TSQ.WDCFGn.PERIOD [15:0] (17). -/
def TSQ_WDCFGn_PERIOD : Fld := fld 0x4005011c 0 16 .rw
/-- TSQ.WDCFGn.ACTION [16:16] (17). -/
def TSQ_WDCFGn_ACTION : Fld := fld 0x4005011c 16 1 .rw
/-- TSQ.WDKICKn.KICK [0:0] (17). -/
def TSQ_WDKICKn_KICK : Fld := fld 0x40050120 0 1 .w1p
/-- TSQ.LOADn.RUN [15:0] (17). -/
def TSQ_LOADn_RUN : Fld := fld 0x40050124 0 16 .ro
/-- ICU.CTRL.STATCLR [0:0] (17). -/
def ICU_CTRL_STATCLR : Fld := fld 0x40030000 0 1 .w1p
/-- ICU.SPUR.COUNT [31:0] (17). -/
def ICU_SPUR : Fld := fld 0x40030010 0 32 .ro
/-- ICU.LOSTCNT.COUNT [31:0] (17). -/
def ICU_LOSTCNT : Fld := fld 0x40030014 0 32 .ro
/-- ICU.TGTt.SOURCE [7:0] (17). -/
def ICU_TGTt_SOURCE : Fld := fld 0x40030020 0 8 .ro
/-- ICU.TGTt.VALID [8:8] (17). -/
def ICU_TGTt_VALID : Fld := fld 0x40030020 8 1 .ro
/-- ICU.PENDw.SRC [31:0] (17). -/
def ICU_PENDw_SRC : Fld := fld 0x40030100 0 32 .w1c
/-- ICU.SETw.SRC [31:0] (17). -/
def ICU_SETw_SRC : Fld := fld 0x40030120 0 32 .w1p
/-- ICU.OVRw.SRC [31:0] (17). -/
def ICU_OVRw_SRC : Fld := fld 0x40030140 0 32 .w1c
/-- ICU.SRCCFGs.PRIO [3:0] (17). -/
def ICU_SRCCFGs_PRIO : Fld := fld 0x40030400 0 4 .rwl 15
/-- ICU.SRCCFGs.TARGET [6:4] (17). -/
def ICU_SRCCFGs_TARGET : Fld := { fld 0x40030400 4 3 .rwl 7 with legal := fun v => decide (v ≠ 5) && decide (v ≠ 6) }
/-- ICU.SRCCFGs.EN [8:8] (17). -/
def ICU_SRCCFGs_EN : Fld := fld 0x40030400 8 1 .rw
/-- ICU.SRCCFGs.PEND [16:16] (17). -/
def ICU_SRCCFGs_PEND : Fld := fld 0x40030400 16 1 .ro
/-- ICU.SRCCFGs.OVR [17:17] (17). -/
def ICU_SRCCFGs_OVR : Fld := fld 0x40030400 17 1 .ro
/-- MTX.CTRL.STATCLR [0:0] (18). -/
def MTX_CTRL_STATCLR : Fld := fld 0x40040000 0 1 .w1p
/-- MTX.ERRSTAT.VALID [0:0] (18). -/
def MTX_ERRSTAT_VALID : Fld := fld 0x40040004 0 1 .w1c
/-- MTX.ERRSTAT.OVR [1:1] (18). -/
def MTX_ERRSTAT_OVR : Fld := fld 0x40040004 1 1 .w1c
/-- MTX.ERRSTAT.WRITE [2:2] (18). -/
def MTX_ERRSTAT_WRITE : Fld := fld 0x40040004 2 1 .ro
/-- MTX.ERRSTAT.MASTER [7:4] (18). -/
def MTX_ERRSTAT_MASTER : Fld := fld 0x40040004 4 4 .ro
/-- MTX.ERRSTAT.CAUSE [10:8] (18). -/
def MTX_ERRSTAT_CAUSE : Fld := fld 0x40040004 8 3 .ro
/-- MTX.ERRADDR.ADDR [31:0] (18). -/
def MTX_ERRADDR_ADDR : Fld := fld 0x40040008 0 32 .ro
/-- MTX.AGE.CYCLES [11:0] (18). -/
def MTX_AGE_CYCLES : Fld := fld 0x4004000c 0 12 .rwl 256
/-- MTX.ERRCNT.COUNT [31:0] (18). -/
def MTX_ERRCNT : Fld := fld 0x40040010 0 32 .ro
/-- MTX.ECCCOR.COUNT [31:0] (18). -/
def MTX_ECCCOR : Fld := fld 0x40040014 0 32 .ro
/-- MTX.ECCUNC.COUNT [31:0] (18). -/
def MTX_ECCUNC : Fld := fld 0x40040018 0 32 .ro
/-- MTX.RSTCNT.COUNT [31:0] (18). -/
def MTX_RSTCNT : Fld := fld 0x4004001c 0 32 .ro
/-- MTX.PRIm.TBL [3:0] (18). -/
def MTX_PRIm_TBL : Fld := { fld 0x40040040 0 4 .rwl with reset := fun i => if i = 5 then 0 else 8 }
/-- MTX.PRIm.ENG [7:4] (18). -/
def MTX_PRIm_ENG : Fld := fld 0x40040040 4 4 .rwl 8
/-- MTX.PRIm.SEQ [11:8] (18). -/
def MTX_PRIm_SEQ : Fld := fld 0x40040040 8 4 .rwl 8
/-- MTX.PRIm.BRG [15:12] (18). -/
def MTX_PRIm_BRG : Fld := fld 0x40040040 12 4 .rwl 8
/-- MTX.WAITHWMm.CYCLES [15:0] (18). -/
def MTX_WAITHWMm_CYCLES : Fld := fld 0x40040080 0 16 .ro
/-- CRN.CTRL.STATCLR [0:0] (18). -/
def CRN_CTRL_STATCLR : Fld := fld 0x40060000 0 1 .w1p
/-- CRN.ENGLIM.BEATS [9:0] (18). -/
def CRN_ENGLIM_BEATS : Fld := fld 0x40060004 0 10 .rw 48
/-- CRN.STAT.BUSY [3:0] (18). -/
def CRN_STAT_BUSY : Fld := fld 0x40060008 0 4 .ro
/-- CRN.XFERCNT.COUNT [31:0] (18). -/
def CRN_XFERCNT : Fld := fld 0x40060010 0 32 .ro
/-- CRN.ERRCNT.COUNT [31:0] (18). -/
def CRN_ERRCNT : Fld := fld 0x40060014 0 32 .ro
/-- CRN.CHCTRLc.START [0:0] (18). -/
def CRN_CHCTRLc_START : Fld := fld 0x40060100 0 1 .w1p
/-- CRN.CHCTRLc.ABORT [1:1] (18). -/
def CRN_CHCTRLc_ABORT : Fld := fld 0x40060100 1 1 .w1p
/-- CRN.CHDESCc.ADDR [31:5] (18). -/
def CRN_CHDESCc_ADDR : Fld := fld 0x40060104 5 27 .rw
/-- CRN.CHSTATc.BUSY [0:0] (18). -/
def CRN_CHSTATc_BUSY : Fld := fld 0x40060108 0 1 .ro
/-- CRN.CHSTATc.DONE [1:1] (18). -/
def CRN_CHSTATc_DONE : Fld := fld 0x40060108 1 1 .w1c
/-- CRN.CHSTATc.ERR [2:2] (18). -/
def CRN_CHSTATc_ERR : Fld := fld 0x40060108 2 1 .w1c
/-- CRN.CHSTATc.ABORTED [3:3] (18). -/
def CRN_CHSTATc_ABORTED : Fld := fld 0x40060108 3 1 .w1c
/-- CRN.CHSTATc.WERR [4:4] (18). -/
def CRN_CHSTATc_WERR : Fld := fld 0x40060108 4 1 .w1c
/-- CRN.CHSTATc.ERRCODE [11:8] (18). -/
def CRN_CHSTATc_ERRCODE : Fld := fld 0x40060108 8 4 .ro
/-- CRN.CHCURc.ADDR [31:0] (18). -/
def CRN_CHCURc_ADDR : Fld := fld 0x4006010c 0 32 .ro
/-- CRN.CHREMc.BYTES [24:0] (18). -/
def CRN_CHREMc_BYTES : Fld := fld 0x40060110 0 25 .ro
/-- NET.CFG.MODE [1:0] (19). -/
def NET_CFG_MODE : Fld := fld 0x400a0000 0 2 .rwl
/-- NET.CFG.AN [2:2] (19). -/
def NET_CFG_AN : Fld := fld 0x400a0000 2 1 .rwl 1
/-- NET.STAT.LINK [0:0] (19). -/
def NET_STAT_LINK : Fld := fld 0x400a0004 0 1 .ro
/-- NET.STAT.ANDONE [1:1] (19). -/
def NET_STAT_ANDONE : Fld := fld 0x400a0004 1 1 .ro
/-- NET.STAT.LINKCHG [2:2] (19). -/
def NET_STAT_LINKCHG : Fld := fld 0x400a0004 2 1 .w1c
/-- NET.STAT.ADDRCONF [3:3] (19). -/
def NET_STAT_ADDRCONF : Fld := fld 0x400a0004 3 1 .w1c
/-- NET.CTRL.ANRST [0:0] (19). -/
def NET_CTRL_ANRST : Fld := fld 0x400a0008 0 1 .w1p
/-- NET.CTRL.ANNOUNCE [1:1] (19). -/
def NET_CTRL_ANNOUNCE : Fld := fld 0x400a0008 1 1 .w1p
/-- NET.CTRL.STATCLR [2:2] (19). -/
def NET_CTRL_STATCLR : Fld := fld 0x400a0008 2 1 .w1p
/-- NET.MACLO.MAC [31:0] (19). -/
def NET_MACLO_MAC : Fld := fld 0x400a000c 0 32 .rwl
/-- NET.MACHI.MAC [15:0] (19). -/
def NET_MACHI_MAC : Fld := fld 0x400a0010 0 16 .rwl
/-- NET.VLAN.VID [11:0] (19). -/
def NET_VLAN_VID : Fld := { fld 0x400a0014 0 12 .rwl with legal := fun v => decide (1 ≤ v) && decide (v ≤ 4094) }
/-- NET.VLAN.EN [12:12] (19). -/
def NET_VLAN_EN : Fld := fld 0x400a0014 12 1 .rwl
/-- NET.VLAN.PCP [15:13] (19). -/
def NET_VLAN_PCP : Fld := fld 0x400a0014 13 3 .rwl
/-- NET.ASEL.ENTRY [1:0] (19). -/
def NET_ASEL_ENTRY : Fld := fld 0x400a0018 0 2 .rw
/-- NET.ACFG.VALID [3:0] (19). -/
def NET_ACFG_VALID : Fld := fld 0x400a001c 0 4 .rwl
/-- NET.ADATAw.WORD [31:0] (19). -/
def NET_ADATAw_WORD : Fld := fld 0x400a0020 0 32 .rwl
/-- NET.TSLAT.RX [15:0] (19). -/
def NET_TSLAT_RX : Fld := fld 0x400a0030 0 16 .ro
/-- NET.TSLAT.TX [31:16] (19). -/
def NET_TSLAT_TX : Fld := fld 0x400a0030 16 16 .ro
/-- NET.TSCORR.RX [15:0] (19). -/
def NET_TSCORR_RX : Fld := fld 0x400a0034 0 16 .rwl
/-- NET.TSCORR.TX [31:16] (19). -/
def NET_TSCORR_TX : Fld := fld 0x400a0034 16 16 .rwl
/-- NET.PRX.COUNT [4:0] (19). -/
def NET_PRX_COUNT : Fld := fld 0x400a0038 0 5 .ro
/-- NET.PRX.HEAD [11:8] (19). -/
def NET_PRX_HEAD : Fld := fld 0x400a0038 8 4 .ro
/-- NET.PRX.POP [16:16] (19). -/
def NET_PRX_POP : Fld := fld 0x400a0038 16 1 .w1p
/-- NET.PTXCMD.BUF [1:0] (19). -/
def NET_PTXCMD_BUF : Fld := fld 0x400a003c 0 2 .rw
/-- NET.PTXCMD.TS [2:2] (19). -/
def NET_PTXCMD_TS : Fld := fld 0x400a003c 2 1 .rw
/-- NET.PTXCMD.SLOT [4:3] (19). -/
def NET_PTXCMD_SLOT : Fld := fld 0x400a003c 3 2 .rw
/-- NET.PTXCMD.LEN [16:8] (19). -/
def NET_PTXCMD_LEN : Fld := fld 0x400a003c 8 9 .rw
/-- NET.PTXCMD.GO [31:31] (19). -/
def NET_PTXCMD_GO : Fld := fld 0x400a003c 31 1 .w1p
/-- NET.PTXSTAT.BUSY [3:0] (19). -/
def NET_PTXSTAT_BUSY : Fld := fld 0x400a0040 0 4 .ro
/-- NET.PTXSTAT.TSVALID [4:4] (19). -/
def NET_PTXSTAT_TSVALID : Fld := fld 0x400a0040 4 1 .w1c
/-- NET.PTXSTAT.TSBUF [6:5] (19). -/
def NET_PTXSTAT_TSBUF : Fld := fld 0x400a0040 5 2 .ro
/-- NET.PTXSTAT.ERR [7:7] (19). -/
def NET_PTXSTAT_ERR : Fld := fld 0x400a0040 7 1 .w1c
/-- NET.TXTS.VALUE [31:0] (19). -/
def NET_TXTS_VALUE : Fld := fld 0x400a0044 0 32 .ro
/-- NET.TXTSF.VALUE [31:0] (19). -/
def NET_TXTSF_VALUE : Fld := fld 0x400a0048 0 32 .ro
/-- NET.RXFRM.COUNT [31:0] (19). -/
def NET_RXFRM : Fld := fld 0x400a0060 0 32 .ro
/-- NET.TXFRM.COUNT [31:0] (19). -/
def NET_TXFRM : Fld := fld 0x400a0064 0 32 .ro
/-- NET.FCSERR.COUNT [31:0] (19). -/
def NET_FCSERR : Fld := fld 0x400a0068 0 32 .ro
/-- NET.LENERR.COUNT [31:0] (19). -/
def NET_LENERR : Fld := fld 0x400a006c 0 32 .ro
/-- NET.ADDRDROP.COUNT [31:0] (19). -/
def NET_ADDRDROP : Fld := fld 0x400a0070 0 32 .ro
/-- NET.VLANDROP.COUNT [31:0] (19). -/
def NET_VLANDROP : Fld := fld 0x400a0074 0 32 .ro
/-- NET.CSUMERR.COUNT [31:0] (19). -/
def NET_CSUMERR : Fld := fld 0x400a0078 0 32 .ro
/-- NET.OTHDROP.COUNT [31:0] (19). -/
def NET_OTHDROP : Fld := fld 0x400a007c 0 32 .ro
/-- NET.PRXDROP.COUNT [31:0] (19). -/
def NET_PRXDROP : Fld := fld 0x400a0080 0 32 .ro
/-- NET.TXDROP.COUNT [31:0] (19). -/
def NET_TXDROP : Fld := fld 0x400a0084 0 32 .ro
/-- SBI.CFG.ADDR [6:0] (19). -/
def SBI_CFG_ADDR : Fld := fld 0x40170000 0 7 .rwl 0x5A
/-- SBI.CFG.PEC [7:7] (19). -/
def SBI_CFG_PEC : Fld := fld 0x40170000 7 1 .rwl
/-- SBI.CFG.SCOPE [9:8] (19). -/
def SBI_CFG_SCOPE : Fld := { fld 0x40170000 8 2 .rwl with legal := fun v => decide (v < 3) }
/-- SBI.CFG.MEMDIS [10:10] (19). -/
def SBI_CFG_MEMDIS : Fld := fld 0x40170000 10 1 .rwl
/-- SBI.STAT.LAST [2:0] (19). -/
def SBI_STAT_LAST : Fld := fld 0x40170004 0 3 .ro
/-- SBI.STAT.MBFULL [3:3] (19). -/
def SBI_STAT_MBFULL : Fld := fld 0x40170004 3 1 .ro
/-- SBI.STAT.MBPOST [4:4] (19). -/
def SBI_STAT_MBPOST : Fld := fld 0x40170004 4 1 .ro
/-- SBI.MBCTRL.ACK [0:0] (19). -/
def SBI_MBCTRL_ACK : Fld := fld 0x40170008 0 1 .w1p
/-- SBI.MBCTRL.POST [1:1] (19). -/
def SBI_MBCTRL_POST : Fld := fld 0x40170008 1 1 .w1p
/-- SBI.MBCTRL.RLEN [13:8] (19). -/
def SBI_MBCTRL_RLEN : Fld := fld 0x40170008 8 6 .rw
/-- SBI.MBLEN.LEN [5:0] (19). -/
def SBI_MBLEN_LEN : Fld := fld 0x4017000c 0 6 .ro
/-- SBI.MBREQw.BYTES [31:0] (19). -/
def SBI_MBREQw_BYTES : Fld := fld 0x40170100 0 32 .ro
/-- SBI.MBRSPw.BYTES [31:0] (19). -/
def SBI_MBRSPw_BYTES : Fld := fld 0x40170120 0 32 .rw
/-- SBI.ACCERR.COUNT [31:0] (19). -/
def SBI_ACCERR : Fld := fld 0x40170010 0 32 .ro
/-- SBI.PECERR.COUNT [31:0] (19). -/
def SBI_PECERR : Fld := fld 0x40170014 0 32 .ro
/-- SBI.UCFG.DIV [11:0] (19). -/
def SBI_UCFG_DIV : Fld := fld 0x40170040 0 12 .rw 136
/-- SBI.UCFG.RXTH [22:16] (19). -/
def SBI_UCFG_RXTH : Fld := fld 0x40170040 16 7 .rw 1
/-- SBI.UCFG.TXTH [30:24] (19). -/
def SBI_UCFG_TXTH : Fld := fld 0x40170040 24 7 .rw
/-- SBI.UCFG.EN [31:31] (19). -/
def SBI_UCFG_EN : Fld := fld 0x40170040 31 1 .rw 1
/-- SBI.USTAT.RXCNT [6:0] (19). -/
def SBI_USTAT_RXCNT : Fld := fld 0x40170044 0 7 .ro
/-- SBI.USTAT.TXFREE [14:8] (19). -/
def SBI_USTAT_TXFREE : Fld := fld 0x40170044 8 7 .ro 64
/-- SBI.USTAT.OVR [16:16] (19). -/
def SBI_USTAT_OVR : Fld := fld 0x40170044 16 1 .w1c
/-- SBI.USTAT.FRAMERR [17:17] (19). -/
def SBI_USTAT_FRAMERR : Fld := fld 0x40170044 17 1 .w1c
/-- SBI.URX.BYTE [7:0] (19). -/
def SBI_URX_BYTE : Fld := fld 0x40170048 0 8 .ro
/-- SBI.UTX.BYTE [7:0] (19). -/
def SBI_UTX_BYTE : Fld := fld 0x4017004c 0 8 .wo
/-- SBI.UCTRL.RXPOP [0:0] (19). -/
def SBI_UCTRL_RXPOP : Fld := fld 0x40170050 0 1 .w1p
/-- SBI.UCTRL.FLUSH [1:1] (19). -/
def SBI_UCTRL_FLUSH : Fld := fld 0x40170050 1 1 .w1p
/-- SBI.UCTRL.STATCLR [2:2] (19). -/
def SBI_UCTRL_STATCLR : Fld := fld 0x40170050 2 1 .w1p
/-- DBG.CTRL.STATALL [0:0] (20). -/
def DBG_CTRL_STATALL : Fld := fld 0x40180000 0 1 .w1p
/-- DBG.CTRL.SAFE [1:1] (20). -/
def DBG_CTRL_SAFE : Fld := fld 0x40180000 1 1 .w1p
/-- DBG.CTRL.PUT [2:2] (20). -/
def DBG_CTRL_PUT : Fld := fld 0x40180000 2 1 .w1p
/-- DBG.FLTSTAT.CLASS [15:0] (20). -/
def DBG_FLTSTAT_CLASS : Fld := fld 0x40180004 0 16 .w1c
/-- DBG.FLTSTAT.PUTERR [16:16] (20). -/
def DBG_FLTSTAT_PUTERR : Fld := fld 0x40180004 16 1 .w1c
/-- DBG.FLTMASK.CLASS [15:0] (20). -/
def DBG_FLTMASK_CLASS : Fld := fld 0x40180008 0 16 .rwl 0x024E
/-- DBG.FLTPUT0.CODE [15:0] (20). -/
def DBG_FLTPUT0_CODE : Fld := fld 0x4018000c 0 16 .rw 0xF000
/-- DBG.FLTPUT0.SEV [17:16] (20). -/
def DBG_FLTPUT0_SEV : Fld := fld 0x4018000c 16 2 .rw
/-- DBG.FLTPUT1.INDEX [15:0] (20). -/
def DBG_FLTPUT1_INDEX : Fld := fld 0x40180010 0 16 .rw 0xFFFF
/-- DBG.FLTPUT1.DETAIL [31:16] (20). -/
def DBG_FLTPUT1_DETAIL : Fld := fld 0x40180010 16 16 .rw
/-- DBG.SAFECFG.AUTO [0:0] (20). -/
def DBG_SAFECFG_AUTO : Fld := fld 0x40180020 0 1 .rwl
/-- DBG.SAFECFG.DELAY [15:8] (20). -/
def DBG_SAFECFG_DELAY : Fld := fld 0x40180020 8 8 .rwl 10
/-- DBG.SAFECFG.MAXR [19:16] (20). -/
def DBG_SAFECFG_MAXR : Fld := fld 0x40180020 16 4 .rwl 3
/-- DBG.LASTSAFE.CODE [15:0] (20). -/
def DBG_LASTSAFE_CODE : Fld := fld 0x40180024 0 16 .ro
/-- DBG.LASTSAFE.RESTARTS [19:16] (20). -/
def DBG_LASTSAFE_RESTARTS : Fld := fld 0x40180024 16 4 .ro
/-- DBG.LASTSAFE.AUTO [20:20] (20). -/
def DBG_LASTSAFE_AUTO : Fld := fld 0x40180024 20 1 .ro
/-- DBG.LASTSAFEF.FRAME [31:0] (20). -/
def DBG_LASTSAFEF_FRAME : Fld := fld 0x40180028 0 32 .ro
end F

/-- Registers, part 0. -/
def regDescs0 : List RegDesc := [
  ⟨0x40010000, [], none, [F.CKG_PLLSTAT_LOCK0, F.CKG_PLLSTAT_LOCK1, F.CKG_PLLSTAT_LOCK2, F.CKG_PLLSTAT_REFOK, F.CKG_PLLSTAT_LOL0, F.CKG_PLLSTAT_LOL1, F.CKG_PLLSTAT_LOL2, F.CKG_PLLSTAT_REFLOSS]⟩,
  ⟨0x40010004, [], none, [F.CKG_REFMON]⟩,
  ⟨0x40010010, [], none, [F.CKG_FRMCFG_DEADLINE, F.CKG_FRMCFG_ESCLIM]⟩,
  ⟨0x40010014, [], none, [F.CKG_FRMSTAT_LAST]⟩,
  ⟨0x40010018, [], none, [F.CKG_FRMRNG_MIN, F.CKG_FRMRNG_MAX]⟩,
  ⟨0x4001001c, [], none, [F.CKG_ENGHWM_CYCLES, F.CKG_ENGHWM_ENGINE]⟩,
  ⟨0x40010020, [], none, [F.CKG_OVRFLAG_QY]⟩,
  ⟨0x40010024, [], none, [F.CKG_OVRLAST_BUNDLE, F.CKG_OVRLAST_FRAME]⟩,
  ⟨0x40010028, [], none, [F.CKG_CTRL_STATCLR]⟩,
  ⟨0x40010100, [(0x4, 32)], none, [F.CKG_OVRCNTq]⟩,
  ⟨0x40110000, [], none, [F.PIL_CTRL_APPLY, F.PIL_CTRL_REVERT]⟩,
  ⟨0x40110004, [], none, [F.PIL_STAT_BUSY, F.PIL_STAT_REFUSED, F.PIL_STAT_WERR, F.PIL_STAT_REASON]⟩,
  ⟨0x40110008, [], none, [F.PIL_APPLYF_FRAME]⟩,
  ⟨0x4011000c, [], none, [F.PIL_SEL_SLOT]⟩,
  ⟨0x40110010, [], none, [F.PIL_SCFG0_INC, F.PIL_SCFG0_MODE, F.PIL_SCFG0_SCALE]⟩,
  ⟨0x40110014, [], none, [F.PIL_SCFG1_PHOFF]⟩,
  ⟨0x40110018, [], none, [F.PIL_SCFG2_AMP]⟩,
  ⟨0x4011001c, [], none, [F.PIL_ACC_ACTSEL, F.PIL_ACC_RD, F.PIL_ACC_WR]⟩,
  ⟨0x40110020, [], none, [F.PIL_BADSLOT_SLOT]⟩,
  ⟨0x40201000, [(0x10000, 32)], none, [F.QY_DRVCFG_MODE, F.QY_DRVCFG_SSLEN]⟩,
  ⟨0x40201004, [(0x10000, 32)], none, [F.QY_DRVSTAT_AUTH, F.QY_DRVSTAT_MODEACT, F.QY_DRVSTAT_MODEDEN, F.QY_DRVSTAT_RAMP, F.QY_DRVSTAT_RANGE, F.QY_DRVSTAT_LVLERR]⟩,
  ⟨0x40201008, [(0x10000, 32)], none, [F.QY_HALFLVL_LEVEL]⟩,
  ⟨0x4020100c, [(0x10000, 32)], none, [F.QY_DRVCTRL_STATCLR]⟩,
  ⟨0x40201010, [(0x10000, 32), (0x4, 4)], none, [F.QY_RNGGAINr_GAIN]⟩]

/-- Registers, part 1. -/
def regDescs1 : List RegDesc := [
  ⟨0x40201020, [(0x10000, 32)], none, [F.QY_RNGREQ_RANGE, F.QY_RNGREQ_GO, F.QY_RNGREQ_CANCEL]⟩,
  ⟨0x40201024, [(0x10000, 32)], none, [F.QY_RNGFRM_FRAME]⟩,
  ⟨0x40201028, [(0x10000, 32)], none, [F.QY_RNGSTAT_CUR, F.QY_RNGSTAT_NEXT, F.QY_RNGSTAT_PEND, F.QY_RNGSTAT_DONE, F.QY_RNGSTAT_BADFRM, F.QY_RNGSTAT_NOACK, F.QY_RNGSTAT_CANCELLED]⟩,
  ⟨0x40201030, [(0x10000, 32)], none, [F.QY_DRVSAT]⟩,
  ⟨0x40201034, [(0x10000, 32)], none, [F.QY_RNGSAT]⟩,
  ⟨0x40201038, [(0x10000, 32)], none, [F.QY_MODOVL]⟩,
  ⟨0x40201040, [(0x10000, 32)], none, [F.QY_SNPSEL_CHAN]⟩,
  ⟨0x40201044, [(0x10000, 32)], none, [F.QY_SNPCODE_MAG, F.QY_SNPCODE_ARM, F.QY_SNPCODE_PAIR, F.QY_SNPCODE_FRAME]⟩,
  ⟨0x40202000, [(0x10000, 32), (0x4, 8)], none, [F.QY_TSETn_STROBE, F.QY_TSETn_SAMP, F.QY_TSETn_PILOFF]⟩,
  ⟨0x40202020, [(0x10000, 32)], none, [F.QY_TSREQ_ACTSEL, F.QY_TSREQ_GO, F.QY_TSREQ_CANCEL]⟩,
  ⟨0x40202024, [(0x10000, 32)], none, [F.QY_TSFRM_FRAME]⟩,
  ⟨0x40202028, [(0x10000, 32)], none, [F.QY_TSSTAT_PEND, F.QY_TSSTAT_DONE, F.QY_TSSTAT_BADFRM, F.QY_TSSTAT_NOACK, F.QY_TSSTAT_CANCELLED, F.QY_TSSTAT_PLAN, F.QY_TSSTAT_VALERR]⟩,
  ⟨0x40202100, [(0x10000, 32), (0x4, 48)], none, [F.QY_TSASGj_SET0, F.QY_TSASGj_SET1, F.QY_TSASGj_SET2, F.QY_TSASGj_SET3, F.QY_TSASGj_SET4, F.QY_TSASGj_SET5, F.QY_TSASGj_SET6, F.QY_TSASGj_SET7]⟩,
  ⟨0x40120000, [], none, [F.SEG_CTRL_STATCLR]⟩,
  ⟨0x40120004, [], none, [F.SEG_STAT_BAND, F.SEG_STAT_UNDACT]⟩,
  ⟨0x40120008, [], none, [F.SEG_UNDFLAG_QY]⟩,
  ⟨0x4012000c, [], none, [F.SEG_UNDLAST_SLOT, F.SEG_UNDLAST_FRAME]⟩,
  ⟨0x40120010, [], none, [F.SEG_UNDCNT]⟩,
  ⟨0x40120014, [], none, [F.SEG_LATEEND]⟩,
  ⟨0x40120018, [], none, [F.SEG_DEFERCNT]⟩,
  ⟨0x4012001c, [], none, [F.SEG_TRUNCCNT]⟩,
  ⟨0x40120020, [], none, [F.SEG_SPLITCNT]⟩,
  ⟨0x40120024, [], none, [F.SEG_STEPCAP]⟩,
  ⟨0x40120028, [], none, [F.SEG_FETCHHWM_FETCHES]⟩]

/-- Registers, part 2. -/
def regDescs2 : List RegDesc := [
  ⟨0x4012002c, [], none, [F.SEG_LIBUSE_BEATS]⟩,
  ⟨0x40120030, [], none, [F.SEG_BSEL_BUNDLE]⟩,
  ⟨0x40120034, [], some F.SEG_BSEL_BUNDLE, [F.SEG_BSTEP_STEPMAX]⟩,
  ⟨0x40120040, [(0x4, 4)], none, [F.SEG_MARKn_QUAY, F.SEG_MARKn_TSET, F.SEG_MARKn_EN, F.SEG_MARKn_MARKED, F.SEG_MARKn_DELAY, F.SEG_MARKn_WIDTH]⟩,
  ⟨0x40100000, [], none, [F.MOR_CTRL_STATCLR]⟩,
  ⟨0x40100004, [], none, [F.MOR_LCFG_GAPMAX, F.MOR_LCFG_GAPESC]⟩,
  ⟨0x40100008, [], none, [F.MOR_STAT_CWERR, F.MOR_STAT_ENGFLT, F.MOR_STAT_ANYHOLD, F.MOR_STAT_SPARES]⟩,
  ⟨0x4010000c, [], none, [F.MOR_CWLAST_OFFSET, F.MOR_CWLAST_ENGINE]⟩,
  ⟨0x40100010, [], none, [F.MOR_BSEL_BUNDLE]⟩,
  ⟨0x40100014, [], none, [F.MOR_BCMD_OPEN, F.MOR_BCMD_CLOSE]⟩,
  ⟨0x40100018, [], some F.MOR_BSEL_BUNDLE, [F.MOR_BSTAT_STATE, F.MOR_BSTAT_RET, F.MOR_BSTAT_CAUSE, F.MOR_BSTAT_CMD, F.MOR_BSTAT_K]⟩,
  ⟨0x40100020, [], none, [F.MOR_SUBST_LOGICAL, F.MOR_SUBST_PHYS, F.MOR_SUBST_GO]⟩,
  ⟨0x40100024, [], none, [F.MOR_SUBSTAT_BUSY, F.MOR_SUBSTAT_DONE, F.MOR_SUBSTAT_REFUSED, F.MOR_SUBSTAT_REASON]⟩,
  ⟨0x40100040, [], none, [F.MOR_SKIPGAP]⟩,
  ⟨0x40100044, [], none, [F.MOR_DARKCNT]⟩,
  ⟨0x40100048, [], none, [F.MOR_CLAMPCNT]⟩,
  ⟨0x4010004c, [], none, [F.MOR_FOLDCNT]⟩,
  ⟨0x40100050, [], none, [F.MOR_SETFAIL]⟩,
  ⟨0x40100054, [], none, [F.MOR_PARKCNT]⟩,
  ⟨0x40100058, [], none, [F.MOR_BFSAT]⟩,
  ⟨0x4010005c, [], none, [F.MOR_ECCCOR]⟩,
  ⟨0x40100100, [(0x4, 48)], none, [F.MOR_EMAPe_PHYS]⟩,
  ⟨0x40100200, [(0x4, 50)], none, [F.MOR_ESTATp_STATE, F.MOR_ESTATp_CAUSE, F.MOR_ESTATp_LOGICAL]⟩,
  ⟨0x40100400, [(0x4, 384)], none, [F.MOR_SETBMPw_SETTLED]⟩]

/-- Registers, part 3. -/
def regDescs3 : List RegDesc := [
  ⟨0x400f0000, [], none, [F.MAN_CTRL_STATCLR]⟩,
  ⟨0x400f0004, [], none, [F.MAN_STAT_QUEUED, F.MAN_STAT_RUNNING]⟩,
  ⟨0x400f0008, [], none, [F.MAN_RECCFG_RECCNT, F.MAN_RECCFG_BMPSZ]⟩,
  ⟨0x400f000c, [], none, [F.MAN_RECBASE_ADDR]⟩,
  ⟨0x400f0010, [], none, [F.MAN_BMPBASE_ADDR]⟩,
  ⟨0x400f0014, [], none, [F.MAN_LASTEXEC_EXEC_ID]⟩,
  ⟨0x400f0018, [], none, [F.MAN_RSEL_INDEX]⟩,
  ⟨0x400f0020, [(0x4, 8)], none, [F.MAN_RECWw_WORD]⟩,
  ⟨0x400f0040, [], none, [F.MAN_DIRSEL_NUMBER]⟩,
  ⟨0x400f0044, [], some F.MAN_DIRSEL_NUMBER, [F.MAN_DIRENT_NENT, F.MAN_DIRENT_CLASS, F.MAN_DIRENT_PROFLEN, F.MAN_DIRENT_VALID, F.MAN_DIRENT_BUSY]⟩,
  ⟨0x400f0048, [], some F.MAN_DIRSEL_NUMBER, [F.MAN_DIRADDR_ADDR]⟩,
  ⟨0x400f0050, [], none, [F.MAN_SSEL_SLOT]⟩,
  ⟨0x400f0054, [], some F.MAN_SSEL_SLOT, [F.MAN_SLOTCFG_OWNER, F.MAN_SLOTCFG_FAILED, F.MAN_SLOTCFG_FSET, F.MAN_SLOTCFG_FCLR, F.MAN_SLOTCFG_RESVD, F.MAN_SLOTCFG_CIRC]⟩,
  ⟨0x400f0058, [], none, [F.MAN_CSEL_CIRCUIT]⟩,
  ⟨0x400f005c, [], some F.MAN_CSEL_CIRCUIT, [F.MAN_CSTAT_STATE, F.MAN_CSTAT_MANIFEST, F.MAN_CSTAT_CLRDOWN]⟩,
  ⟨0x400f0080, [], none, [F.MAN_ALLOCCNT]⟩,
  ⟨0x400f0084, [], none, [F.MAN_DONECNT]⟩,
  ⟨0x400f0088, [], none, [F.MAN_PARTCNT]⟩,
  ⟨0x400f008c, [], none, [F.MAN_VOIDCNT]⟩,
  ⟨0x400f0090, [], none, [F.MAN_ZEROCNT]⟩,
  ⟨0x400f0094, [], none, [F.MAN_NOROUTECNT]⟩,
  ⟨0x400f0098, [], none, [F.MAN_HOLDSKIP]⟩,
  ⟨0x400f009c, [], none, [F.MAN_FAILSKIP]⟩,
  ⟨0x400f00a0, [], none, [F.MAN_OUTSKIP]⟩]

/-- Registers, part 4. -/
def regDescs4 : List RegDesc := [
  ⟨0x400f00a4, [], none, [F.MAN_NOSPCNT]⟩,
  ⟨0x400d0000, [], none, [F.SCH_CTRL_STATCLR]⟩,
  ⟨0x400d0004, [], none, [F.SCH_STAT_TIDE, F.SCH_STAT_PWRBLK, F.SCH_STAT_PWRQ]⟩,
  ⟨0x400d0008, [], none, [F.SCH_PWRCFG_ORDER]⟩,
  ⟨0x400d000c, [], none, [F.SCH_PBUDGET_LIMIT]⟩,
  ⟨0x400d0010, [], none, [F.SCH_PNORM_LIMIT]⟩,
  ⟨0x400d0014, [], none, [F.SCH_PMEAS_POWER, F.SCH_PMEAS_FRAME]⟩,
  ⟨0x400d0018, [], none, [F.SCH_PHWM_POWER]⟩,
  ⟨0x400d001c, [], none, [F.SCH_ADMHWM_ADMIT, F.SCH_ADMHWM_EXAM]⟩,
  ⟨0x400d0020, [], none, [F.SCH_VTLO_VT]⟩,
  ⟨0x400d0024, [], none, [F.SCH_VTHI_VT]⟩,
  ⟨0x400d0030, [], none, [F.SCH_ADMCNT]⟩,
  ⟨0x400d0034, [], none, [F.SCH_PWRWAIT]⟩,
  ⟨0x400d0038, [], none, [F.SCH_TIDEPWR]⟩,
  ⟨0x400d003c, [], none, [F.SCH_POLCNT]⟩,
  ⟨0x400d0040, [], none, [F.SCH_BUSYCNT]⟩,
  ⟨0x400d0044, [], none, [F.SCH_GATEDCNT]⟩,
  ⟨0x400d0048, [], none, [F.SCH_DENYCNT]⟩,
  ⟨0x400d004c, [], none, [F.SCH_VOIDDEN]⟩,
  ⟨0x400d0050, [], none, [F.SCH_LATEFLUSH]⟩,
  ⟨0x400d0054, [], none, [F.SCH_CMDFLUSH]⟩,
  ⟨0x400d0058, [], none, [F.SCH_ADMFULL]⟩,
  ⟨0x400d005c, [], none, [F.SCH_BALSAT]⟩,
  ⟨0x400d0080, [], none, [F.SCH_QSEL_QUEUE]⟩]

/-- Registers, part 5. -/
def regDescs5 : List RegDesc := [
  ⟨0x400d0084, [], some F.SCH_QSEL_QUEUE, [F.SCH_QCFG_EN, F.SCH_QCFG_MODE, F.SCH_QCFG_GATEIGN, F.SCH_QCFG_GATEREJ, F.SCH_QCFG_WEIGHT, F.SCH_QCFG_DEPTH]⟩,
  ⟨0x400d0088, [], some F.SCH_QSEL_QUEUE, [F.SCH_QRATE_RATE]⟩,
  ⟨0x400d008c, [], some F.SCH_QSEL_QUEUE, [F.SCH_QBURST_BURST]⟩,
  ⟨0x400d0090, [], some F.SCH_QSEL_QUEUE, [F.SCH_QLATE_LATEMAX]⟩,
  ⟨0x400d0094, [], some F.SCH_QSEL_QUEUE, [F.SCH_QBALLO_BAL]⟩,
  ⟨0x400d0098, [], some F.SCH_QSEL_QUEUE, [F.SCH_QBALHI_BAL]⟩,
  ⟨0x400d009c, [], some F.SCH_QSEL_QUEUE, [F.SCH_QFTLO_FT]⟩,
  ⟨0x400d00a0, [], some F.SCH_QSEL_QUEUE, [F.SCH_QFTHI_FT]⟩,
  ⟨0x400d00a4, [], some F.SCH_QSEL_QUEUE, [F.SCH_QSTAT_DEPTH, F.SCH_QSTAT_DRAIN, F.SCH_QSTAT_WAIT, F.SCH_QSTAT_HEAD]⟩,
  ⟨0x400d00a8, [], some F.SCH_QSEL_QUEUE, [F.SCH_QHWM_DEPTH]⟩,
  ⟨0x400d00ac, [], some F.SCH_QSEL_QUEUE, [F.SCH_QLATHWM_VALUE]⟩,
  ⟨0x400d00b0, [], some F.SCH_QSEL_QUEUE, [F.SCH_QADM_VALUE]⟩,
  ⟨0x400d00b4, [], some F.SCH_QSEL_QUEUE, [F.SCH_QCTRL_FLUSH]⟩,
  ⟨0x400d0200, [(0x4, 256)], none, [F.SCH_SMAPs_QUEUE, F.SCH_SMAPs_VALID]⟩,
  ⟨0x400e0000, [], none, [F.TID_CTRL_ARM, F.TID_CTRL_CANCEL, F.TID_CTRL_STOP, F.TID_CTRL_STATCLR]⟩,
  ⟨0x400e0004, [], none, [F.TID_STAT_RUN, F.TID_STAT_SHADOW, F.TID_STAT_PEND, F.TID_STAT_STOPPEND, F.TID_STAT_REFUSED, F.TID_STAT_LATEBASE, F.TID_STAT_STEPSTOP, F.TID_STAT_WERR, F.TID_STAT_REASON]⟩,
  ⟨0x400e0008, [], none, [F.TID_SHDR_NENTRY, F.TID_SHDR_ONESHOT, F.TID_SHDR_AUTOARM]⟩,
  ⟨0x400e000c, [], none, [F.TID_SBASE_BASE]⟩,
  ⟨0x400e0010, [], none, [F.TID_SCYCLE_CYCLE]⟩,
  ⟨0x400e0014, [], none, [F.TID_START_FRAME]⟩,
  ⟨0x400e0018, [], none, [F.TID_PSTART_FRAME]⟩,
  ⟨0x400e001c, [], none, [F.TID_ACYCLE_CYCLE]⟩,
  ⟨0x400e0020, [], none, [F.TID_LATEN_N]⟩,
  ⟨0x400e0024, [], none, [F.TID_POS_ENTRY, F.TID_POS_REMAIN]⟩]

/-- Registers, part 6. -/
def regDescs6 : List RegDesc := [
  ⟨0x400e0028, [], none, [F.TID_ESEL_ENTRY, F.TID_ESEL_ACTSEL]⟩,
  ⟨0x400e0030, [(0x4, 4)], none, [F.TID_EWw_WORD]⟩,
  ⟨0x400e0040, [], none, [F.TID_CYCLES]⟩,
  ⟨0x400e0044, [], none, [F.TID_FIRECNT]⟩,
  ⟨0x400e0048, [], none, [F.TID_FIREREF]⟩,
  ⟨0x400e004c, [], none, [F.TID_FIREVOID]⟩,
  ⟨0x400e0050, [], none, [F.TID_COLLIDE]⟩,
  ⟨0x40200000, [(0x10000, 32)], none, [F.QY_LNKCFG_GEN, F.QY_LNKCFG_TXPRE, F.QY_LNKCFG_TPRE, F.QY_LNKCFG_TPAUTO, F.QY_LNKCFG_RELOCK, F.QY_LNKCFG_DERRLIM]⟩,
  ⟨0x40200004, [(0x10000, 32)], none, [F.QY_LNKCTRL_RETRAIN, F.QY_LNKCTRL_RESKEW, F.QY_LNKCTRL_STATCLR]⟩,
  ⟨0x40200008, [(0x10000, 32)], none, [F.QY_LNKSTAT_STATE, F.QY_LNKSTAT_ULOCK, F.QY_LNKSTAT_TLOCK, F.QY_LNKSTAT_TGEN, F.QY_LNKSTAT_THREE, F.QY_LNKSTAT_GENMIS, F.QY_LNKSTAT_TRAINFAIL, F.QY_LNKSTAT_DISCFAIL, F.QY_LNKSTAT_SKEWFAIL, F.QY_LNKSTAT_SKEWDRIFT, F.QY_LNKSTAT_SAMPCLIP, F.QY_LNKSTAT_NEWTILE, F.QY_LNKSTAT_DERRBURST, F.QY_LNKSTAT_TILESRC0, F.QY_LNKSTAT_LOSS]⟩,
  ⟨0x4020000c, [(0x10000, 32)], none, [F.QY_LNKTIM_REFOFF, F.QY_LNKTIM_ULSLOT, F.QY_LNKTIM_ULCAP]⟩,
  ⟨0x40200010, [(0x10000, 32)], none, [F.QY_LAUNCH_LAUNCH, F.QY_LAUNCH_TARGET]⟩,
  ⟨0x40200014, [(0x10000, 32)], none, [F.QY_RTT_TIME]⟩,
  ⟨0x40200018, [(0x10000, 32)], none, [F.QY_RTTAVG_TIME]⟩,
  ⟨0x4020001c, [(0x10000, 32)], none, [F.QY_DLAT_TDTX, F.QY_DLAT_TDRX]⟩,
  ⟨0x40200020, [(0x10000, 32)], none, [F.QY_TLAT_TRXLAT, F.QY_TLAT_TTXLAT]⟩,
  ⟨0x40200024, [(0x10000, 32)], none, [F.QY_SKEWCFG_TOL]⟩,
  ⟨0x40200028, [(0x10000, 32)], none, [F.QY_TILEID_SERIAL]⟩,
  ⟨0x4020002c, [(0x10000, 32)], none, [F.QY_EYE_TEYE, F.QY_EYE_TPSEL, F.QY_EYE_DEYE]⟩,
  ⟨0x40200030, [(0x10000, 32)], none, [F.QY_ARRIVE_LAST, F.QY_ARRIVE_WORST]⟩,
  ⟨0x40200040, [(0x10000, 32)], none, [F.QY_SYNCERR]⟩,
  ⟨0x40200044, [(0x10000, 32)], none, [F.QY_UCRCCNT]⟩,
  ⟨0x40200048, [(0x10000, 32)], none, [F.QY_UFNERR]⟩,
  ⟨0x4020004c, [(0x10000, 32)], none, [F.QY_ULATE]⟩]

/-- Registers, part 7. -/
def regDescs7 : List RegDesc := [
  ⟨0x40200050, [(0x10000, 32)], none, [F.QY_DCRCCNT]⟩,
  ⟨0x40200054, [(0x10000, 32)], none, [F.QY_ULOSSCNT]⟩,
  ⟨0x40200058, [(0x10000, 32)], none, [F.QY_TRAINCNT]⟩,
  ⟨0x4020005c, [(0x10000, 32)], none, [F.QY_HOLDCNT]⟩,
  ⟨0x40203000, [(0x10000, 32)], none, [F.QY_TCHCFG_RTO, F.QY_TCHCFG_RETRYMAX, F.QY_TCHCFG_HOLDWIN]⟩,
  ⟨0x40203004, [(0x10000, 32)], none, [F.QY_TCHCTRL_RESET, F.QY_TCHCTRL_STATCLR]⟩,
  ⟨0x40203008, [(0x10000, 32)], none, [F.QY_TCHSTAT_SYNC, F.QY_TCHSTAT_RSTPEND, F.QY_TCHSTAT_FRESH, F.QY_TCHSTAT_OUTST, F.QY_TCHSTAT_FAIL, F.QY_TCHSTAT_TRESET, F.QY_TCHSTAT_OPENEV, F.QY_TCHSTAT_COMPLYEV, F.QY_TCHSTAT_DUALAUTH, F.QY_TCHSTAT_OVERTEMP, F.QY_TCHSTAT_EVLOST]⟩,
  ⟨0x4020300c, [(0x10000, 32)], none, [F.QY_TTEMP_TPH, F.QY_TTEMP_TTL]⟩,
  ⟨0x40203010, [(0x10000, 32)], none, [F.QY_TEVLAST_CODE, F.QY_TEVLAST_OUTPUT, F.QY_TEVLAST_FRAME]⟩,
  ⟨0x40203020, [(0x10000, 32)], none, [F.QY_TREQ_ADDR, F.QY_TREQ_WR, F.QY_TREQ_GO]⟩,
  ⟨0x40203024, [(0x10000, 32)], none, [F.QY_TDATA_DATA]⟩,
  ⟨0x40203028, [(0x10000, 32)], none, [F.QY_TRSP_BUSY, F.QY_TRSP_DONE, F.QY_TRSP_STATUS]⟩,
  ⟨0x40203040, [(0x10000, 32)], none, [F.QY_TRETX]⟩,
  ⟨0x40203044, [(0x10000, 32)], none, [F.QY_TMALF]⟩,
  ⟨0x40203048, [(0x10000, 32)], none, [F.QY_TCHFAIL]⟩,
  ⟨0x4020304c, [(0x10000, 32)], none, [F.QY_TEVCNT]⟩,
  ⟨0x400c0000, [], none, [F.PVE_CTRL_EN, F.PVE_CTRL_STATCLR]⟩,
  ⟨0x400c0004, [], none, [F.PVE_STAT_NOPEN, F.PVE_STAT_NHALF, F.PVE_STAT_OPENQ, F.PVE_STAT_INFLIGHT, F.PVE_STAT_CMDERR, F.PVE_STAT_AUTHALARM, F.PVE_STAT_RNGFAIL]⟩,
  ⟨0x400c0008, [], none, [F.PVE_PORTCFG_UDPPORT, F.PVE_PORTCFG_V4EN, F.PVE_PORTCFG_V6EN, F.PVE_PORTCFG_PV1EN, F.PVE_PORTCFG_PV2EN, F.PVE_PORTCFG_DSCP]⟩,
  ⟨0x400c000c, [], none, [F.PVE_TCFG_HALFTMO, F.PVE_TCFG_IDLE]⟩,
  ⟨0x400c0010, [], none, [F.PVE_OPENLIM_RATE, F.PVE_OPENLIM_AUTHLIM]⟩,
  ⟨0x400c0014, [], none, [F.PVE_CACHEBASE_ADDR]⟩,
  ⟨0x400c0018, [], none, [F.PVE_KEYSTAT_USABLE]⟩,
  ⟨0x400c001c, [], none, [F.PVE_OPENQ_VALID, F.PVE_OPENQ_RQ, F.PVE_OPENQ_VERS, F.PVE_OPENQ_ARRIVAL]⟩]

/-- Registers, part 8. -/
def regDescs8 : List RegDesc := [
  ⟨0x400c0020, [], none, [F.PVE_RSEL_ENTRY]⟩,
  ⟨0x400c0024, [], some F.PVE_RSEL_ENTRY, [F.PVE_RID_RID]⟩,
  ⟨0x400c0028, [], some F.PVE_RSEL_ENTRY, [F.PVE_RCFG_VALID, F.PVE_RCFG_KEYSLOT, F.PVE_RCFG_PV1, F.PVE_RCFG_PV2, F.PVE_RCFG_MAXSESS, F.PVE_RCFG_QPOL]⟩,
  ⟨0x400c0030, [], none, [F.PVE_SSEL_SESSION]⟩,
  ⟨0x400c0034, [], some F.PVE_SSEL_SESSION, [F.PVE_SCTX_STATE, F.PVE_SCTX_VERS, F.PVE_SCTX_NET, F.PVE_SCTX_RQ, F.PVE_SCTX_SGEN]⟩,
  ⟨0x400c0038, [], some F.PVE_SSEL_SESSION, [F.PVE_SRXHI_SEQ]⟩,
  ⟨0x400c003c, [], some F.PVE_SSEL_SESSION, [F.PVE_STXSEQ_SEQ]⟩,
  ⟨0x400c0040, [], none, [F.PVE_SCMD_ACCEPT, F.PVE_SCMD_REFUSE, F.PVE_SCMD_CLOSE, F.PVE_SCMD_REFCODE]⟩,
  ⟨0x400c0044, [], some F.PVE_SSEL_SESSION, [F.PVE_SAUTH_FAILS]⟩,
  ⟨0x400c0048, [], none, [F.PVE_SCNT_HALF, F.PVE_SCNT_OPEN]⟩,
  ⟨0x400c0060, [], none, [F.PVE_RXCNT]⟩,
  ⟨0x400c0064, [], none, [F.PVE_IPDROP]⟩,
  ⟨0x400c0068, [], none, [F.PVE_ZLENCNT]⟩,
  ⟨0x400c006c, [], none, [F.PVE_MALFCNT]⟩,
  ⟨0x400c0070, [], none, [F.PVE_OVLCNT]⟩,
  ⟨0x400c0074, [], none, [F.PVE_OPENDROP]⟩,
  ⟨0x400c0078, [], none, [F.PVE_SBYDROP]⟩,
  ⟨0x400c007c, [], none, [F.PVE_STALEDROP]⟩,
  ⟨0x400c0080, [], none, [F.PVE_AUTHCNT]⟩,
  ⟨0x400c0084, [], none, [F.PVE_REPLAYCNT]⟩,
  ⟨0x400c0088, [], none, [F.PVE_DUPCNT]⟩,
  ⟨0x400c008c, [], none, [F.PVE_RETRYHIT]⟩,
  ⟨0x400c0090, [], none, [F.PVE_STALECNT]⟩,
  ⟨0x400c0094, [], none, [F.PVE_CONFCNT]⟩]

/-- Registers, part 9. -/
def regDescs9 : List RegDesc := [
  ⟨0x400c0098, [], none, [F.PVE_ACCCNT]⟩,
  ⟨0x40090000, [], none, [F.TIM_CTRL_STATCLR]⟩,
  ⟨0x40090004, [], none, [F.TIM_T3CFG_MODE, F.TIM_T3CFG_PRI, F.TIM_T3CFG_SEC, F.TIM_T3CFG_PSH, F.TIM_T3CFG_ISH, F.TIM_T3CFG_REVWAIT]⟩,
  ⟨0x40090008, [], none, [F.TIM_T3SLEW_SLEW]⟩,
  ⟨0x4009000c, [], none, [F.TIM_T3STAT_SRC, F.TIM_T3STAT_HOLD, F.TIM_T3STAT_STEPPED, F.TIM_T3STAT_FAR, F.TIM_T3STAT_SRCCHG, F.TIM_T3STAT_INCERR]⟩,
  ⟨0x40090010, [], none, [F.TIM_T3OFF_OFFSET]⟩,
  ⟨0x40090090, [], none, [F.TIM_BCNOFF_OFFSET]⟩,
  ⟨0x40090014, [], none, [F.TIM_T3FAR_LIMIT]⟩,
  ⟨0x40090018, [], none, [F.TIM_STEPFRM_FRAME]⟩,
  ⟨0x4009001c, [], none, [F.TIM_STEPDELTA_FRAME]⟩,
  ⟨0x40090020, [], none, [F.TIM_ARMWIN_FRAMES]⟩,
  ⟨0x40090030, [], none, [F.TIM_SRCCNT]⟩,
  ⟨0x40090034, [], none, [F.TIM_HOLDCNT]⟩,
  ⟨0x40090038, [], none, [F.TIM_FARCNT]⟩,
  ⟨0x4009003c, [], none, [F.TIM_BCNBAD]⟩,
  ⟨0x40090040, [], none, [F.TIM_PTPDROP]⟩,
  ⟨0x40090050, [], none, [F.TIM_PPSCFG_OUTEN, F.TIM_PPSCFG_OUTSRC, F.TIM_PPSCFG_INEN, F.TIM_PPSCFG_ARMED, F.TIM_PPSCFG_WIDTH]⟩,
  ⟨0x40090054, [], none, [F.TIM_PPSNEXT_NS]⟩,
  ⟨0x40090058, [], none, [F.TIM_PPSSTAT_NEW, F.TIM_PPSSTAT_OVERRUN, F.TIM_PPSSTAT_WRAP]⟩,
  ⟨0x40090060, [(0x4, 4)], none, [F.TIM_PPSCAPn_NS]⟩,
  ⟨0x40090070, [(0x4, 2)], none, [F.TIM_PTPCFGd_DOMAIN, F.TIM_PTPCFGd_TRANSPORT, F.TIM_PTPCFGd_DELAY, F.TIM_PTPCFGd_PORTS, F.TIM_PTPCFGd_PROFILE, F.TIM_PTPCFGd_HYBRID]⟩,
  ⟨0x40090080, [], none, [F.TIM_BCNCFG_ROLE, F.TIM_BCNCFG_RELAY, F.TIM_BCNCFG_ECHO, F.TIM_BCNCFG_BREF]⟩,
  ⟨0x40090084, [], none, [F.TIM_BCNTRACE_TRACE]⟩,
  ⟨0x40090088, [], none, [F.TIM_BCNSKEW_TIN, F.TIM_BCNSKEW_TOUT, F.TIM_BCNSKEW_TECHO]⟩]

/-- Registers, part 10. -/
def regDescs10 : List RegDesc := [
  ⟨0x4009008c, [], none, [F.TIM_BCNSTAT_VALID, F.TIM_BCNSTAT_ACQ, F.TIM_BCNSTAT_HOP, F.TIM_BCNSTAT_STEPPED, F.TIM_BCNSTAT_SRCOK, F.TIM_BCNSTAT_FNMIS, F.TIM_BCNSTAT_BADWORD, F.TIM_BCNSTAT_MISS, F.TIM_BCNSTAT_HOPLIM]⟩,
  ⟨0x40090094, [], none, [F.TIM_BCNRTT_TIME]⟩,
  ⟨0x40090100, [(0x40, 4)], none, [F.TIM_TBnNS_VALUE]⟩,
  ⟨0x40090104, [(0x40, 4)], none, [F.TIM_TBnFRAC_VALUE]⟩,
  ⟨0x40090108, [(0x40, 4)], none, [F.TIM_TBnWRAP_VALUE]⟩,
  ⟨0x4009010c, [(0x40, 4)], none, [F.TIM_TBnINCLO_INC]⟩,
  ⟨0x40090110, [(0x40, 4)], none, [F.TIM_TBnINCHI_INC]⟩,
  ⟨0x40090114, [(0x40, 4)], none, [F.TIM_TBnADJLO_ADJ]⟩,
  ⟨0x40090118, [(0x40, 4)], none, [F.TIM_TBnADJMID_ADJ]⟩,
  ⟨0x4009011c, [(0x40, 4)], none, [F.TIM_TBnADJHI_ADJ]⟩,
  ⟨0x40090120, [(0x40, 4)], none, [F.TIM_TBnCTRL_VALID]⟩,
  ⟨0x40160000, [], none, [F.EVT_CTRL_STATCLR]⟩,
  ⟨0x40160004, [], none, [F.EVT_STAT_NEW, F.EVT_STAT_OVERRUN]⟩,
  ⟨0x40160010, [(0x4, 4)], none, [F.EVT_CFGn_MODE, F.EVT_CFGn_K, F.EVT_CFGn_DELAY, F.EVT_CFGn_WIDTH]⟩,
  ⟨0x40160020, [(0x10, 4)], none, [F.EVT_CAPFn_FRAME]⟩,
  ⟨0x40160024, [(0x10, 4)], none, [F.EVT_CAPSn_SUB, F.EVT_CAPSn_EDGE, F.EVT_CAPSn_WRAP]⟩,
  ⟨0x40160028, [(0x10, 4)], none, [F.EVT_POPn_POP]⟩,
  ⟨0x40160060, [(0x4, 4)], none, [F.EVT_LOSTn]⟩,
  ⟨0x40150000, [], none, [F.ROL_CFG_PAIRED, F.ROL_CFG_BCNMODE, F.ROL_CFG_MISSLIM, F.ROL_CFG_JOINWAIT]⟩,
  ⟨0x40150004, [], none, [F.ROL_CMD_SWAP, F.ROL_CMD_SWCANCEL, F.ROL_CMD_STATCLR]⟩,
  ⟨0x40150008, [], none, [F.ROL_SWAPFRM_FRAME]⟩,
  ⟨0x4015000c, [], none, [F.ROL_STAT_STATE, F.ROL_STAT_SENIOR, F.ROL_STAT_AUTH, F.ROL_STAT_ACTIN, F.ROL_STAT_HBTOK, F.ROL_STAT_MIROK, F.ROL_STAT_PSTATE, F.ROL_STAT_PREADY, F.ROL_STAT_READY, F.ROL_STAT_SWPEND, F.ROL_STAT_SENERR, F.ROL_STAT_SWREASON]⟩,
  ⟨0x40150010, [], none, [F.ROL_ALARM_HBTPATH, F.ROL_ALARM_MIRPATH, F.ROL_ALARM_PARTFAIL, F.ROL_ALARM_ACTLIVE, F.ROL_ALARM_DUALACT, F.ROL_ALARM_TAKEOVER, F.ROL_ALARM_COLDTAKE, F.ROL_ALARM_IMGMIS, F.ROL_ALARM_FRMSKEW]⟩,
  ⟨0x40150014, [], none, [F.ROL_TKFRM_FRAME]⟩]

/-- Registers, part 11. -/
def regDescs11 : List RegDesc := [
  ⟨0x40150020, [], none, [F.ROL_TAKECNT]⟩,
  ⟨0x40150024, [], none, [F.ROL_SWAPCNT]⟩,
  ⟨0x40150028, [], none, [F.ROL_HBTMISS]⟩,
  ⟨0x4015002c, [], none, [F.ROL_MIRMISS]⟩,
  ⟨0x40150030, [], none, [F.ROL_DUALCNT]⟩,
  ⟨0x40150034, [], none, [F.ROL_FIREMISS]⟩,
  ⟨0x40140000, [], none, [F.MIR_CFG_TXPRE, F.MIR_CFG_TPAUTO, F.MIR_CFG_EPAUTO, F.MIR_CFG_EPMIN, F.MIR_CFG_EPLIM]⟩,
  ⟨0x40140004, [], none, [F.MIR_CTRL_EPOCH, F.MIR_CTRL_RESYNC, F.MIR_CTRL_RETRAIN, F.MIR_CTRL_STATCLR]⟩,
  ⟨0x40140008, [], none, [F.MIR_STAT_LANE0, F.MIR_STAT_LANE1, F.MIR_STAT_UP, F.MIR_STAT_SYNC, F.MIR_STAT_JOINED, F.MIR_STAT_EPST]⟩,
  ⟨0x4014000c, [], none, [F.MIR_EPOCH_CUR, F.MIR_EPOCH_LAST]⟩,
  ⟨0x40140010, [], none, [F.MIR_EPSTAT_SETSZ, F.MIR_EPSTAT_VERIFIED]⟩,
  ⟨0x40140014, [], none, [F.MIR_DELAY_ONEWAY]⟩,
  ⟨0x40140018, [], none, [F.MIR_FLAGS_STREAMLOSS, F.MIR_FLAGS_TALLYMIS, F.MIR_FLAGS_EPDISC, F.MIR_FLAGS_LOOP, F.MIR_FLAGS_DELAYERR]⟩,
  ⟨0x4014001c, [], none, [F.MIR_UNSYNC]⟩,
  ⟨0x40140040, [], none, [F.MIR_TALLYCNT]⟩,
  ⟨0x40140044, [], none, [F.MIR_TALLYMIS]⟩,
  ⟨0x40140048, [], none, [F.MIR_EPCOMMIT]⟩,
  ⟨0x4014004c, [], none, [F.MIR_EPDISCARD]⟩,
  ⟨0x40140050, [], none, [F.MIR_RECLATE]⟩,
  ⟨0x40140054, [], none, [F.MIR_CRC0]⟩,
  ⟨0x40140058, [], none, [F.MIR_CRC1]⟩,
  ⟨0x4014005c, [], none, [F.MIR_RETX]⟩,
  ⟨0x40140100, [(0x4, 48)], none, [F.MIR_SYNCBMPw_SYNCED]⟩,
  ⟨0x40020000, [], none, [F.TMP_CFG_WARN, F.TMP_CFG_TRIP, F.TMP_CFG_MINSENS]⟩]

/-- Registers, part 12. -/
def regDescs12 : List RegDesc := [
  ⟨0x40020004, [], none, [F.TMP_STAT_WARN, F.TMP_STAT_FAST, F.TMP_STAT_WRHOLD, F.TMP_STAT_PHSPREAD, F.TMP_STAT_PHSTALE]⟩,
  ⟨0x40020008, [], none, [F.TMP_MAX_TEMP, F.TMP_MAX_SENSOR]⟩,
  ⟨0x4002000c, [], none, [F.TMP_SFAIL_FAILED]⟩,
  ⟨0x40020010, [], none, [F.TMP_BANDCFG_INIT, F.TMP_BANDCFG_SPREAD]⟩,
  ⟨0x40020018, [(0x4, 3)], none, [F.TMP_EDGEe_EDGE]⟩,
  ⟨0x40020024, [], none, [F.TMP_PHTEMP_TP, F.TMP_PHTEMP_NQ]⟩,
  ⟨0x40020028, [], none, [F.TMP_CTRL_STATCLR]⟩,
  ⟨0x4002002c, [], none, [F.TMP_AONSTAT_TRIPPED, F.TMP_AONSTAT_SHUTDN]⟩,
  ⟨0x40020030, [], none, [F.TMP_WRREF]⟩,
  ⟨0x40020034, [], none, [F.TMP_WARNCNT]⟩,
  ⟨0x40020038, [], none, [F.TMP_BANDCNT]⟩,
  ⟨0x40020100, [(0x4, 16)], none, [F.TMP_SENSn_TEMP, F.TMP_SENSn_VALID, F.TMP_SENSn_FAILED]⟩,
  ⟨0x40130000, [], none, [F.CAL_CTRL_STORE, F.CAL_CTRL_STATCLR]⟩,
  ⟨0x40130004, [], none, [F.CAL_STAT_DIRTY, F.CAL_STAT_STORING, F.CAL_STAT_STPEND, F.CAL_STAT_JSLOT, F.CAL_STAT_SRES, F.CAL_STAT_DIETRIG, F.CAL_STAT_TRIMERR]⟩,
  ⟨0x40130008, [], none, [F.CAL_TRIGCFG_PHDELTA, F.CAL_TRIGCFG_DIEDELTA]⟩,
  ⟨0x4013000c, [], none, [F.CAL_QTRIG_QUAY]⟩,
  ⟨0x40130010, [], none, [F.CAL_JSEQ_SEQ]⟩,
  ⟨0x40130014, [], none, [F.CAL_ACCCFG_MINSEP, F.CAL_ACCCFG_STARTWIN, F.CAL_ACCCFG_WAITMAX]⟩,
  ⟨0x40130018, [], none, [F.CAL_TOL_LINTOL, F.CAL_TOL_THTOL, F.CAL_TOL_GTOL]⟩,
  ⟨0x4013001c, [], none, [F.CAL_PLAUS_PLIN, F.CAL_PLAUS_PTHETA, F.CAL_PLAUS_PSCALE]⟩,
  ⟨0x40130020, [], none, [F.CAL_MEMBASE_ADDR]⟩,
  ⟨0x40130024, [], none, [F.CAL_QSTART_QUAY]⟩,
  ⟨0x40130030, [], none, [F.CAL_USEL_UNIT]⟩,
  ⟨0x40130034, [], some F.CAL_USEL_UNIT, [F.CAL_UCFG0_INDEX, F.CAL_UCFG0_KIND, F.CAL_UCFG0_WSRC, F.CAL_UCFG0_RANGE]⟩]

/-- Registers, part 13. -/
def regDescs13 : List RegDesc := [
  ⟨0x40130038, [], some F.CAL_USEL_UNIT, [F.CAL_UCFG1_AMP, F.CAL_UCFG1_PERIOD, F.CAL_UCFG1_NCYC, F.CAL_UCFG1_SETTLE]⟩,
  ⟨0x4013003c, [], some F.CAL_USEL_UNIT, [F.CAL_UCTRL_GO, F.CAL_UCTRL_CANCEL]⟩,
  ⟨0x40130040, [], some F.CAL_USEL_UNIT, [F.CAL_USTAT_STATE, F.CAL_USTAT_REASON, F.CAL_USTAT_RESULT]⟩,
  ⟨0x40130044, [], some F.CAL_USEL_UNIT, [F.CAL_UFRM_FRAME]⟩,
  ⟨0x40130048, [], some F.CAL_USEL_UNIT, [F.CAL_UCAP_CAPID, F.CAL_UCAP_COUNT, F.CAL_UCAP_ABANDON, F.CAL_UCAP_BANDCHG, F.CAL_UCAP_RNGCHG, F.CAL_UCAP_BAND]⟩,
  ⟨0x40130050, [], none, [F.CAL_SUBMIT_CAPID, F.CAL_SUBMIT_GO]⟩,
  ⟨0x40130054, [], none, [F.CAL_SUBRES_RESULT, F.CAL_SUBRES_DISAGREED, F.CAL_SUBRES_REASON]⟩,
  ⟨0x40130060, [], none, [F.CAL_TRIMSEL_TRIM, F.CAL_TRIMSEL_INDEX]⟩,
  ⟨0x40130064, [], none, [F.CAL_TRIM_VALUE, F.CAL_TRIM_USER]⟩,
  ⟨0x40130070, [], none, [F.CAL_SWEEPCNT]⟩,
  ⟨0x40130074, [], none, [F.CAL_ABANDCNT]⟩,
  ⟨0x40130078, [], none, [F.CAL_ACCCNT]⟩,
  ⟨0x4013007c, [], none, [F.CAL_REJCNT]⟩,
  ⟨0x40130080, [], none, [F.CAL_DISAGREE]⟩,
  ⟨0x40130084, [], none, [F.CAL_STORECNT]⟩,
  ⟨0x40130088, [], none, [F.CAL_STOREFAIL]⟩,
  ⟨0x40000000, [], none, [F.SYS_ID_PART, F.SYS_ID_STEP]⟩,
  ⟨0x40000004, [], none, [F.SYS_STATE_STATE, F.SYS_STATE_CLASS]⟩,
  ⟨0x40000008, [], none, [F.SYS_STRAP_SENIOR, F.SYS_STRAP_FMODE]⟩,
  ⟨0x4000000c, [], none, [F.SYS_BOOTSTAT_SLOT, F.SYS_BOOTSTAT_FALLBACK, F.SYS_BOOTSTAT_UNPROV, F.SYS_BOOTSTAT_CAUSEA, F.SYS_BOOTSTAT_CAUSEB, F.SYS_BOOTSTAT_FAIL]⟩,
  ⟨0x40000010, [], none, [F.SYS_CHKINFO_RECORD, F.SYS_CHKINFO_CODE, F.SYS_CHKINFO_SLOT]⟩,
  ⟨0x40000014, [], none, [F.SYS_IMGVER_VERSION]⟩,
  ⟨0x40000018, [], none, [F.SYS_IMGSVN_IMAGE, F.SYS_IMGSVN_ROLLFWD, F.SYS_IMGSVN_OTP]⟩,
  ⟨0x4000001c, [], none, [F.SYS_CTRL_GO, F.SYS_CTRL_SWRST]⟩]

/-- Registers, part 14. -/
def regDescs14 : List RegDesc := [
  ⟨0x40000020, [], none, [F.SYS_LOCK_LOCK]⟩,
  ⟨0x40000024, [], none, [F.SYS_ERRSTAT_RSVDENC, F.SYS_ERRSTAT_ALIGN, F.SYS_ERRSTAT_W1PMULTI]⟩,
  ⟨0x40000028, [], none, [F.SYS_STGCFG_LANEWAIT, F.SYS_STGCFG_TWAIT, F.SYS_STGCFG_TWAITMAX]⟩,
  ⟨0x4000002c, [], none, [F.SYS_STGEND_FRAME]⟩,
  ⟨0x40000030, [], none, [F.SYS_BISTQ_QY]⟩,
  ⟨0x40000034, [], none, [F.SYS_RSTCAUSE_POWER, F.SYS_RSTCAUSE_PIN, F.SYS_RSTCAUSE_SOFT, F.SYS_RSTCAUSE_THERM]⟩,
  ⟨0x40070000, [], none, [F.OTP_STAT_READY, F.OTP_STAT_PBUSY, F.OTP_STAT_PHOLD, F.OTP_STAT_PDONE, F.OTP_STAT_PREF, F.OTP_STAT_PERR, F.OTP_STAT_REASON]⟩,
  ⟨0x40070004, [], none, [F.OTP_DEVIDLO_ID]⟩,
  ⟨0x40070008, [], none, [F.OTP_DEVIDHI_ID]⟩,
  ⟨0x4007000c, [], none, [F.OTP_KEYBITS_PKVALID, F.OTP_KEYBITS_PKREVOKE, F.OTP_KEYBITS_KVALID, F.OTP_KEYBITS_KREVOKE, F.OTP_KEYBITS_FACTORY, F.OTP_KEYBITS_PKLOCK, F.OTP_KEYBITS_KLOCK]⟩,
  ⟨0x40070010, [], none, [F.OTP_SVN]⟩,
  ⟨0x40070014, [], none, [F.OTP_RADDR_WORD]⟩,
  ⟨0x40070020, [], none, [F.OTP_PADDR_WORD]⟩,
  ⟨0x40070018, [], none, [F.OTP_RDATA_DATA]⟩,
  ⟨0x40070024, [], none, [F.OTP_PDATA_DATA]⟩,
  ⟨0x40070028, [], none, [F.OTP_PCMD_PROG, F.OTP_PCMD_CANCEL]⟩,
  ⟨0x40080000, [], none, [F.XSP_CFG_MODE, F.XSP_CFG_DIV, F.XSP_CFG_DUMMY]⟩,
  ⟨0x40080004, [], none, [F.XSP_OPC0_RDOP, F.XSP_OPC0_PPOP]⟩,
  ⟨0x40080008, [], none, [F.XSP_OPC1_EROP, F.XSP_OPC1_RSOP]⟩,
  ⟨0x4008000c, [], none, [F.XSP_OPC2_WEOP, F.XSP_OPC2_ERSZ]⟩,
  ⟨0x40080010, [], none, [F.XSP_OPADDR_VALUE]⟩,
  ⟨0x40080014, [], none, [F.XSP_OPMEM_VALUE]⟩,
  ⟨0x40080018, [], none, [F.XSP_OPLEN_VALUE]⟩,
  ⟨0x4008001c, [], none, [F.XSP_OPCMD_KIND, F.XSP_OPCMD_GO]⟩]

/-- Registers, part 15. -/
def regDescs15 : List RegDesc := [
  ⟨0x40080020, [], none, [F.XSP_OPCTRL_CANCEL, F.XSP_OPCTRL_STATCLR]⟩,
  ⟨0x40080024, [], none, [F.XSP_OPSTAT_DEPTH, F.XSP_OPSTAT_BUSY, F.XSP_OPSTAT_HELD, F.XSP_OPSTAT_DONE, F.XSP_OPSTAT_ERR, F.XSP_OPSTAT_CANCELLED, F.XSP_OPSTAT_FULL, F.XSP_OPSTAT_ERRCODE]⟩,
  ⟨0x40080030, [], none, [F.XSP_OPCNT]⟩,
  ⟨0x40080034, [], none, [F.XSP_ERRCNT]⟩,
  ⟨0x40050040, [(0x4, 16)], none, [F.TSQ_SEMk_ACQ, F.TSQ_SEMk_REL, F.TSQ_SEMk_OWNER]⟩,
  ⟨0x40050100, [(0x40, 4)], none, [F.TSQ_CTLn_START, F.TSQ_CTLn_HALT]⟩,
  ⟨0x40050104, [(0x40, 4)], none, [F.TSQ_STATn_STATE, F.TSQ_STATn_IM, F.TSQ_STATn_CL, F.TSQ_STATn_DEPTH, F.TSQ_STATn_ICAUSE]⟩,
  ⟨0x40050108, [(0x40, 4)], none, [F.TSQ_PCn_PC]⟩,
  ⟨0x4005010c, [(0x40, 4)], none, [F.TSQ_ENTRYn_ENTRY]⟩,
  ⟨0x40050110, [(0x40, 4)], none, [F.TSQ_FSTATn_ILLEGAL, F.TSQ_FSTATn_ALIGN, F.TSQ_FSTATn_BUSERR, F.TSQ_FSTATn_WDOG]⟩,
  ⟨0x40050114, [(0x40, 4)], none, [F.TSQ_FADDRn_VALUE]⟩,
  ⟨0x40050118, [(0x40, 4)], none, [F.TSQ_FPCn_VALUE]⟩,
  ⟨0x4005011c, [(0x40, 4)], none, [F.TSQ_WDCFGn_PERIOD, F.TSQ_WDCFGn_ACTION]⟩,
  ⟨0x40050120, [(0x40, 4)], none, [F.TSQ_WDKICKn_KICK]⟩,
  ⟨0x40050124, [(0x40, 4)], none, [F.TSQ_LOADn_RUN]⟩,
  ⟨0x40030000, [], none, [F.ICU_CTRL_STATCLR]⟩,
  ⟨0x40030010, [], none, [F.ICU_SPUR]⟩,
  ⟨0x40030014, [], none, [F.ICU_LOSTCNT]⟩,
  ⟨0x40030020, [(0x4, 5)], none, [F.ICU_TGTt_SOURCE, F.ICU_TGTt_VALID]⟩,
  ⟨0x40030100, [(0x4, 8)], none, [F.ICU_PENDw_SRC]⟩,
  ⟨0x40030120, [(0x4, 8)], none, [F.ICU_SETw_SRC]⟩,
  ⟨0x40030140, [(0x4, 8)], none, [F.ICU_OVRw_SRC]⟩,
  ⟨0x40030400, [(0x4, 256)], none, [F.ICU_SRCCFGs_PRIO, F.ICU_SRCCFGs_TARGET, F.ICU_SRCCFGs_EN, F.ICU_SRCCFGs_PEND, F.ICU_SRCCFGs_OVR]⟩,
  ⟨0x40040000, [], none, [F.MTX_CTRL_STATCLR]⟩]

/-- Registers, part 16. -/
def regDescs16 : List RegDesc := [
  ⟨0x40040004, [], none, [F.MTX_ERRSTAT_VALID, F.MTX_ERRSTAT_OVR, F.MTX_ERRSTAT_WRITE, F.MTX_ERRSTAT_MASTER, F.MTX_ERRSTAT_CAUSE]⟩,
  ⟨0x40040008, [], none, [F.MTX_ERRADDR_ADDR]⟩,
  ⟨0x4004000c, [], none, [F.MTX_AGE_CYCLES]⟩,
  ⟨0x40040010, [], none, [F.MTX_ERRCNT]⟩,
  ⟨0x40040014, [], none, [F.MTX_ECCCOR]⟩,
  ⟨0x40040018, [], none, [F.MTX_ECCUNC]⟩,
  ⟨0x4004001c, [], none, [F.MTX_RSTCNT]⟩,
  ⟨0x40040040, [(0x4, 11)], none, [F.MTX_PRIm_TBL, F.MTX_PRIm_ENG, F.MTX_PRIm_SEQ, F.MTX_PRIm_BRG]⟩,
  ⟨0x40040080, [(0x4, 11)], none, [F.MTX_WAITHWMm_CYCLES]⟩,
  ⟨0x40060000, [], none, [F.CRN_CTRL_STATCLR]⟩,
  ⟨0x40060004, [], none, [F.CRN_ENGLIM_BEATS]⟩,
  ⟨0x40060008, [], none, [F.CRN_STAT_BUSY]⟩,
  ⟨0x40060010, [], none, [F.CRN_XFERCNT]⟩,
  ⟨0x40060014, [], none, [F.CRN_ERRCNT]⟩,
  ⟨0x40060100, [(0x20, 4)], none, [F.CRN_CHCTRLc_START, F.CRN_CHCTRLc_ABORT]⟩,
  ⟨0x40060104, [(0x20, 4)], none, [F.CRN_CHDESCc_ADDR]⟩,
  ⟨0x40060108, [(0x20, 4)], none, [F.CRN_CHSTATc_BUSY, F.CRN_CHSTATc_DONE, F.CRN_CHSTATc_ERR, F.CRN_CHSTATc_ABORTED, F.CRN_CHSTATc_WERR, F.CRN_CHSTATc_ERRCODE]⟩,
  ⟨0x4006010c, [(0x20, 4)], none, [F.CRN_CHCURc_ADDR]⟩,
  ⟨0x40060110, [(0x20, 4)], none, [F.CRN_CHREMc_BYTES]⟩,
  ⟨0x400a0000, [(0x10000, 2)], none, [F.NET_CFG_MODE, F.NET_CFG_AN]⟩,
  ⟨0x400a0004, [(0x10000, 2)], none, [F.NET_STAT_LINK, F.NET_STAT_ANDONE, F.NET_STAT_LINKCHG, F.NET_STAT_ADDRCONF]⟩,
  ⟨0x400a0008, [(0x10000, 2)], none, [F.NET_CTRL_ANRST, F.NET_CTRL_ANNOUNCE, F.NET_CTRL_STATCLR]⟩,
  ⟨0x400a000c, [(0x10000, 2)], none, [F.NET_MACLO_MAC]⟩,
  ⟨0x400a0010, [(0x10000, 2)], none, [F.NET_MACHI_MAC]⟩]

/-- Registers, part 17. -/
def regDescs17 : List RegDesc := [
  ⟨0x400a0014, [(0x10000, 2)], none, [F.NET_VLAN_VID, F.NET_VLAN_EN, F.NET_VLAN_PCP]⟩,
  ⟨0x400a0018, [(0x10000, 2)], none, [F.NET_ASEL_ENTRY]⟩,
  ⟨0x400a001c, [(0x10000, 2)], none, [F.NET_ACFG_VALID]⟩,
  ⟨0x400a0020, [(0x10000, 2), (0x4, 4)], some F.NET_ASEL_ENTRY, [F.NET_ADATAw_WORD]⟩,
  ⟨0x400a0030, [(0x10000, 2)], none, [F.NET_TSLAT_RX, F.NET_TSLAT_TX]⟩,
  ⟨0x400a0034, [(0x10000, 2)], none, [F.NET_TSCORR_RX, F.NET_TSCORR_TX]⟩,
  ⟨0x400a0038, [(0x10000, 2)], none, [F.NET_PRX_COUNT, F.NET_PRX_HEAD, F.NET_PRX_POP]⟩,
  ⟨0x400a003c, [(0x10000, 2)], none, [F.NET_PTXCMD_BUF, F.NET_PTXCMD_TS, F.NET_PTXCMD_SLOT, F.NET_PTXCMD_LEN, F.NET_PTXCMD_GO]⟩,
  ⟨0x400a0040, [(0x10000, 2)], none, [F.NET_PTXSTAT_BUSY, F.NET_PTXSTAT_TSVALID, F.NET_PTXSTAT_TSBUF, F.NET_PTXSTAT_ERR]⟩,
  ⟨0x400a0044, [(0x10000, 2)], none, [F.NET_TXTS_VALUE]⟩,
  ⟨0x400a0048, [(0x10000, 2)], none, [F.NET_TXTSF_VALUE]⟩,
  ⟨0x400a0060, [(0x10000, 2)], none, [F.NET_RXFRM]⟩,
  ⟨0x400a0064, [(0x10000, 2)], none, [F.NET_TXFRM]⟩,
  ⟨0x400a0068, [(0x10000, 2)], none, [F.NET_FCSERR]⟩,
  ⟨0x400a006c, [(0x10000, 2)], none, [F.NET_LENERR]⟩,
  ⟨0x400a0070, [(0x10000, 2)], none, [F.NET_ADDRDROP]⟩,
  ⟨0x400a0074, [(0x10000, 2)], none, [F.NET_VLANDROP]⟩,
  ⟨0x400a0078, [(0x10000, 2)], none, [F.NET_CSUMERR]⟩,
  ⟨0x400a007c, [(0x10000, 2)], none, [F.NET_OTHDROP]⟩,
  ⟨0x400a0080, [(0x10000, 2)], none, [F.NET_PRXDROP]⟩,
  ⟨0x400a0084, [(0x10000, 2)], none, [F.NET_TXDROP]⟩,
  ⟨0x40170000, [], none, [F.SBI_CFG_ADDR, F.SBI_CFG_PEC, F.SBI_CFG_SCOPE, F.SBI_CFG_MEMDIS]⟩,
  ⟨0x40170004, [], none, [F.SBI_STAT_LAST, F.SBI_STAT_MBFULL, F.SBI_STAT_MBPOST]⟩,
  ⟨0x40170008, [], none, [F.SBI_MBCTRL_ACK, F.SBI_MBCTRL_POST, F.SBI_MBCTRL_RLEN]⟩]

/-- Registers, part 18. -/
def regDescs18 : List RegDesc := [
  ⟨0x4017000c, [], none, [F.SBI_MBLEN_LEN]⟩,
  ⟨0x40170100, [(0x4, 8)], none, [F.SBI_MBREQw_BYTES]⟩,
  ⟨0x40170120, [(0x4, 8)], none, [F.SBI_MBRSPw_BYTES]⟩,
  ⟨0x40170010, [], none, [F.SBI_ACCERR]⟩,
  ⟨0x40170014, [], none, [F.SBI_PECERR]⟩,
  ⟨0x40170040, [], none, [F.SBI_UCFG_DIV, F.SBI_UCFG_RXTH, F.SBI_UCFG_TXTH, F.SBI_UCFG_EN]⟩,
  ⟨0x40170044, [], none, [F.SBI_USTAT_RXCNT, F.SBI_USTAT_TXFREE, F.SBI_USTAT_OVR, F.SBI_USTAT_FRAMERR]⟩,
  ⟨0x40170048, [], none, [F.SBI_URX_BYTE]⟩,
  ⟨0x4017004c, [], none, [F.SBI_UTX_BYTE]⟩,
  ⟨0x40170050, [], none, [F.SBI_UCTRL_RXPOP, F.SBI_UCTRL_FLUSH, F.SBI_UCTRL_STATCLR]⟩,
  ⟨0x40180000, [], none, [F.DBG_CTRL_STATALL, F.DBG_CTRL_SAFE, F.DBG_CTRL_PUT]⟩,
  ⟨0x40180004, [], none, [F.DBG_FLTSTAT_CLASS, F.DBG_FLTSTAT_PUTERR]⟩,
  ⟨0x40180008, [], none, [F.DBG_FLTMASK_CLASS]⟩,
  ⟨0x4018000c, [], none, [F.DBG_FLTPUT0_CODE, F.DBG_FLTPUT0_SEV]⟩,
  ⟨0x40180010, [], none, [F.DBG_FLTPUT1_INDEX, F.DBG_FLTPUT1_DETAIL]⟩,
  ⟨0x40180020, [], none, [F.DBG_SAFECFG_AUTO, F.DBG_SAFECFG_DELAY, F.DBG_SAFECFG_MAXR]⟩,
  ⟨0x40180024, [], none, [F.DBG_LASTSAFE_CODE, F.DBG_LASTSAFE_RESTARTS, F.DBG_LASTSAFE_AUTO]⟩,
  ⟨0x40180028, [], none, [F.DBG_LASTSAFEF_FRAME]⟩]

/-- Every register of every block (spec/02 to spec/20). -/
def regDescs : List RegDesc :=
  regDescs0 ++ regDescs1 ++ regDescs2 ++ regDescs3 ++ regDescs4 ++ regDescs5 ++ regDescs6 ++ regDescs7 ++ regDescs8 ++ regDescs9 ++ regDescs10 ++ regDescs11 ++ regDescs12 ++ regDescs13 ++ regDescs14 ++ regDescs15 ++ regDescs16 ++ regDescs17 ++ regDescs18

end Sys2Proof.Machine
end

