-- ==== Sys2Proof/Config.lean ====
section
/-! DEFINITION. What the manual leaves to the part or leaves open: constants with no body, so that nothing can be
proved of their values. A free value is applied to the counter `State.fresh`, which each use advances. -/
namespace Sys2Proof.Config

/-- 256 bits drawn from the entropy source (R294): the device nonce and the session generation draw on it. Free. -/
opaque entropy : Nat → BitVec 256

/-- A word whose value the manual does not state (log 3). Free. -/
opaque freeWord : Nat → BitVec 32

/-- A byte of the directories and of the area that table memory keeps for the device itself, whose layout the manual does not
give (log 13): by address and use. Free. -/
opaque deviceByte : Nat → Nat → BitVec 8

/-- A trim as the OTP's production data hold it, whose layout the manual does not give (R388, R432; log 4): by the bytes 0x008
to 0x0FF, the trim and its instance. Free. -/
opaque otpTrim : List (BitVec 8) → Nat → Nat → BitVec 8

/-- The cells of the boundary-scan register that belong to a scanned output: its data cell and its control cell, whose order the
BSDL file gives and not the manual (R504; log 68): by the output's number. Free. -/
opaque scanCells : Nat → Nat × Nat

/-- What a cell of the boundary-scan register holds that the model does not follow: the level of an input, or a bit that the JTAG
host shifts in (R503, R504; log 68): by cell and use. Free. -/
opaque scanBit : Nat → Nat → Bool

end Sys2Proof.Config
end

