-- ==== Sys2Proof/Machine/State.lean ====
section
/-! DEFINITION. Everything the manual gives the device, as plain data, and the state right after reset.
Registers are held field by field in one sparse table (`regs`); what is not a register has a typed home below. -/
namespace Sys2Proof.Machine

/-- Why the device would stop. No rule of the manual stops it without saying what follows, so no meaning raises one;
kept for the host's interface. -/
inductive Fault where
  /-- A step that the manual says cannot be taken. Raised by no meaning. Safe. -/
  | impossible (why : String)
  deriving DecidableEq, Repr

/-- Why a command has no meaning here. -/
inductive Refusal where
  /-- A command of the table not modelled yet; raised only by an arm of `exec`. Safe. -/
  | notModelled (mnemonic : String)
  deriving DecidableEq, Repr

/-- A memory of bytes in canonical form. -/
abbrev Memory : Type := Tbl Byte

/-- The canonical form of a memory whose unlisted bytes read as `d`. -/
def Memory.wf (d : Byte) (m : Memory) : Bool := twf d m

/-- The device states (14, R349). -/
inductive DevState where
  | off | boot | staging | standby | active | solo | safe
  deriving DecidableEq, Repr

/-- The states of a sequencer (R446). -/
inductive SeqState where
  | halted | run | wait | fault
  deriving DecidableEq, Repr

/-- A store waiting in a sequencer's buffer (R440): address, word, and the PC of its ST. -/
structure Posted where
  addr : Nat
  data : Word
  pc : Nat
  deriving DecidableEq, Repr

/-- A sequencer (R438, R442, R446). `entry`: a source was deliverable at the last cycle of an instruction, so the
entry sequence comes next (R453). `busy`: an instruction is in progress. `haltReq`: a HALT waits for that entry sequence or
instruction (R446). `wake`: an event that wakes it has happened (R458). `causes`: ICAUSE of what each entry of the return stack
returns to (R442). -/
structure Seq where
  g : List Word
  pc : Nat
  im : Bool
  cl : Nat
  icause : Nat
  vbase : Nat
  stack : List (Nat × Nat)
  causes : List Nat
  cycle : Nat
  st : SeqState
  wake : Bool
  entry : Bool
  busy : Bool
  haltReq : Bool
  wdCount : Nat
  posted : List Posted
  runCycles : Nat
  iram : Memory
  dram : Memory
  deriving DecidableEq, Repr

/-- A sequencer at reset (R446, 17 TSQ registers; log 4 for the registers and RAMs). -/
def Seq.init : Seq :=
  ⟨List.replicate 16 0, 0, true, 16, 0x100, 0, [], [], 0, .halted, false, false, false, false, 0, [], 0, [], []⟩

/-- An entry of the fault log (R507). -/
structure FaultEntry where
  code : Nat
  sev : Nat
  rep : Nat
  index : Nat
  detail : Nat
  frame : Nat
  ns : Nat
  deriving DecidableEq, Repr

/-- The fault log (R507, R509): entries newest first, the total written, entries held until the log starts; inside a CORE cycle
that may bring several, the entries that its end is to write. -/
structure FaultLog where
  started : Bool
  entries : List FaultEntry
  head : Nat
  total : Nat
  held : List FaultEntry
  cycle : Option (List FaultEntry)
  deriving DecidableEq, Repr

/-- The stage of TB3's single step (R336, R337): planned for the coming tick s − 1 with D; armed in frame s − 1, to be
carried out at tick s; running in frame s, the load of the frame counter due; the load done. -/
inductive StepStage where
  | none
  | planned (d : Int)
  | armed (d : Int)
  | running
  | loaded
  deriving DecidableEq, Repr

/-- A capture of an event pin (R342). -/
structure EvtCap where
  frame : Nat
  sub : Nat
  falling : Bool
  wrap : Nat
  deriving DecidableEq, Repr

/-- An edge driven on BCN_OUT (R343, R345): the frame, its time after the tick in 100 ps, and the pulse width in
TIME cycles. -/
structure BcnEdge where
  frame : Nat
  at100ps : Int
  width : Nat
  deriving DecidableEq, Repr

/-- A pulse on an event pin in the running frame (R115, R342): pin, delay after the tick and width in TIME cycles. -/
structure EvtPulse where
  pin : Nat
  delay : Nat
  width : Nat
  deriving DecidableEq, Repr

/-- The beacon (R343 to R345): the bits received and how many, whether words are aligned, good words in a row and the last
FNEXT; the leader's frame of the last edge and the time of that edge in TB3; the frames without an edge, and whether the
running frame had one; the last offset; the round trips added up; the word sent with the first frame of its group; and the
edge that the running frame drives. -/
structure Beacon where
  bits : Nat
  nbits : Nat
  aligned : Bool
  good : Nat
  fnext : Nat
  edgeFrame : Nat
  lastEdge : Nat
  missed : Nat
  seen : Bool
  offset : Int
  rttSum : Nat
  rttCount : Nat
  word : Nat
  group : Nat
  out : Option BcnEdge
  deriving DecidableEq, Repr

/-- The time bases and what hangs on them (13). Times are in units of 2^−32 ns, modulo 2^32 µs. -/
structure TimeSt where
  t : List Nat
  inc1 : Nat
  inc2 : Nat
  inc3 : Nat
  inc3n : Nat
  servoI : Int
  incLast : Nat
  sel : Nat
  priRun : Nat
  step : StepStage
  ppsOut : Bool
  ppsEnd : Nat
  evt : List (List EvtCap)
  evtOut : List EvtPulse
  bcn : Beacon
  nsWrap : Nat
  deriving DecidableEq, Repr

/-- The increment of a base that runs free: 4 ns (R329). -/
def incFree : Nat := 0x400000000

/-- The time block at reset (R328: every view is zero; log 4). -/
def TimeSt.init : TimeSt :=
  ⟨[0, 0, 0, 0], incFree, incFree, incFree, incFree, 0, incFree, 0, 0, .none, false, 0,
   [[], [], [], []], [], ⟨0, 0, false, 0, 0, 0, 0, 0, false, 0, 0, 0, 0, 0, none⟩, 0⟩

/-- The device (00 to 21). -/
structure State where
  dev : DevState
  auth : Bool
  frame : Nat
  fresh : Nat
  locked : Bool
  regs : Tbl Nat
  seqs : List Seq
  log : FaultLog
  rdata : Nat
  time : TimeSt
  table : Memory
  fab : Fabric
  quays : List Quay
  lanes : List Lane
  tiles : List TileSt
  exec : ExecSt
  sched : SchedSt
  tide : TideSt
  pen : PenSt
  mir : MirSt
  boot : BootSt
  cal : CalSt
  port : PortSt
  pending : List Instr
  deriving DecidableEq, Repr

/-- The device right after reset: OFF, every register at its reset value (R12, R410). -/
def State.reset : State where
  dev := .off
  auth := false
  frame := 0
  fresh := 0
  locked := false
  regs := []
  seqs := List.replicate 4 Seq.init
  log := ⟨false, [], 0, 0, [], none⟩
  time := TimeSt.init
  rdata := 0
  table := []
  fab := Fabric.init
  quays := List.replicate 32 Quay.init
  lanes := List.replicate 32 Lane.init
  tiles := List.replicate 32 TileSt.init
  exec := ExecSt.init
  sched := SchedSt.init
  tide := TideSt.init
  pen := PenSt.init
  mir := MirSt.init
  boot := BootSt.init
  cal := CalSt.init
  port := PortSt.init
  pending := []

end Sys2Proof.Machine
end

