-- ==== Sys2Proof/Machine/Ops.lean ====
section
/-! DEFINITION. The named operations over registers and memories, the raising of interrupt sources (17) and the
writing of the fault log (20), shared by every block. -/
namespace Sys2Proof.Machine

/-- The value of instance `i` of a register field. Every field is held as its difference from the reset value, so a
field that nothing has written reads as its reset value (R12). -/
def State.fgi (s : State) (f : Fld) (i : Nat) : Nat :=
  (tget 0 s.regs (f.key i) ^^^ f.reset i) % 2 ^ f.width

/-- The value of a register field that has one instance. -/
def State.fg (s : State) (f : Fld) : Nat := s.fgi f 0

/-- Instance `i` of a register field set. -/
def State.fsi (s : State) (f : Fld) (i v : Nat) : State :=
  { s with regs := tset 0 s.regs (f.key i) ((v % 2 ^ f.width) ^^^ (f.reset i % 2 ^ f.width)) }

/-- A register field that has one instance, set. -/
def State.fs (s : State) (f : Fld) (v : Nat) : State := s.fsi f 0 v

/-- A one-bit field as a truth value. -/
def State.flag (s : State) (f : Fld) : Bool := decide (s.fg f ≠ 0)

/-- A one-bit field of an instance as a truth value. -/
def State.flagi (s : State) (f : Fld) (i : Nat) : Bool := decide (s.fgi f i ≠ 0)

/-- A bit field set or cleared. -/
def State.fb (s : State) (f : Fld) (b : Bool) : State := s.fs f (b2n b)

/-- A bit field of an instance set or cleared. -/
def State.fbi (s : State) (f : Fld) (i : Nat) (b : Bool) : State := s.fsi f i (b2n b)

/-- R13: a counter moved up by `n`, saturating at all ones. -/
def State.addi (s : State) (f : Fld) (i n : Nat) : State :=
  s.fsi f i (Nat.min (s.fgi f i + n) (2 ^ f.width - 1))

/-- R13: one added to a counter, saturating. -/
def State.bumpi (s : State) (f : Fld) (i : Nat) : State := s.addi f i 1

/-- R13: one added to a counter that has one instance, saturating. -/
def State.bump (s : State) (f : Fld) : State := s.addi f 0 1

/-- R13: `n` added to a counter, saturating. -/
def State.add (s : State) (f : Fld) (n : Nat) : State := s.addi f 0 n

/-- A high-water mark raised to `v` if `v` exceeds it. -/
def State.mark (s : State) (f : Fld) (i v : Nat) : State :=
  if s.fgi f i < v then s.fsi f i (Nat.min v (2 ^ f.width - 1)) else s

/-- A field put back to its reset value. -/
def State.fresetI (s : State) (f : Fld) (i : Nat) : State := s.fsi f i (f.reset i)

/-- Several one-instance fields put back to their reset values: a statistic clear. -/
def State.fresetAll (s : State) (fs : List Fld) : State := fs.foldl (fun s f => s.fresetI f 0) s

/-- Fields put back to their reset values in instances 0 to n − 1. -/
def State.fresetRow (s : State) (n : Nat) (fs : List Fld) : State :=
  (List.range n).foldl (fun s i => fs.foldl (fun s f => s.fresetI f i) s) s

/-- Bit `b` of instance `i` of a field. -/
def State.bit (s : State) (f : Fld) (i b : Nat) : Bool := (s.fgi f i).testBit b

/-- Bit `b` of instance `i` of a field set or cleared. -/
def State.setBit (s : State) (f : Fld) (i b : Nat) (v : Bool) : State :=
  s.fsi f i (setBits (s.fgi f i) b 1 (b2n v))

/-- The state changed where a condition holds. -/
def State.when (s : State) (b : Bool) (f : State → State) : State := if b then f s else s

/-- A table-memory byte (R470; log 5 for bytes never written). -/
def State.mem8 (s : State) (a : Nat) : Byte := tget 0 s.table a

/-- A little-endian word of table memory (R3). -/
def State.mem32 (s : State) (a : Nat) : Nat := leNat (tgetBytes s.table 0 a 4)

/-- Bytes of table memory. -/
def State.memBytes (s : State) (a n : Nat) : List Byte := tgetBytes s.table 0 a n

/-- Bytes written into table memory. -/
def State.memPut (s : State) (a : Nat) (bs : List Byte) : State :=
  { s with table := tsetBytes s.table 0 a bs }

/-- The device is in ACTIVE or SOLO, the states that hold authority (R349). -/
def State.holds (s : State) : Bool := decide (s.dev = .active) || decide (s.dev = .solo)

/-- R377: the device holds authority for heater frame `n`, a planned swap taken into account. -/
def State.authAt (s : State) (n : Nat) : Bool :=
  match s.mir.swap with
  | some p => if notBefore n p.w then decide (s.dev = .standby) else s.holds
  | none => s.holds

/-- R298, R377: the device decides admissions, firings and messages in frame `f`, which is for heater frame f + 3. -/
def State.decides (s : State) (f : Nat) : Bool := s.authAt (add32 f 3)

/-- The device is after BOOT and not in SAFE: the states in which the blocks run (R349, R517). -/
def State.up (s : State) : Bool :=
  match s.dev with
  | .staging | .standby | .active | .solo => true
  | _ => false

/-- The clocks run: BOOT or later, and not SAFE or OFF (R410, R517). -/
def State.clocked (s : State) : Bool := s.up || decide (s.dev = .boot)

/-- The number SYS.STATE and QUERY DEVICE give a device state (R323). -/
def DevState.code : DevState → Nat
  | .off => 0 | .boot => 1 | .staging => 2 | .standby => 3 | .active => 4 | .solo => 5 | .safe => 6

/-! ### Time views (R328) -/

/-- The modulus of a time base: 2^32 µs in units of 2^−32 ns. -/
def tbMod : Nat := 4294967296000 * 2 ^ 32

/-- The time of base `n`, in units of 2^−32 ns. -/
def State.tb (s : State) (n : Nat) : Nat := s.time.t.getD n 0

/-- The time of a base `c` TIME cycles after the tick. -/
def State.tbAt (s : State) (n c : Nat) : Nat :=
  let inc := match n with
    | 1 => s.time.inc1
    | 2 => s.time.inc2
    | 3 => s.time.inc3
    | _ => incFree
  (s.tb n + c * inc) % tbMod

/-- The NS view (R328). -/
def nsView (t : Nat) : Nat := t / 2 ^ 32 % 2 ^ 32

/-- The FRAC view (R328). -/
def fracView (t : Nat) : Nat := t % 2 ^ 32

/-- The WRAP view (R328). -/
def wrapView (t : Nat) : Nat := t / 2 ^ 64

/-- The US view (R328). -/
def usView (t : Nat) : Nat := t / 2 ^ 32 / 1000

/-- The SUB view in units of 2^−32 ns (R328). -/
def subView (t : Nat) : Nat := t % (1000 * 2 ^ 32)

/-- The NS view of TB3. -/
def State.tb3Ns (s : State) : Nat := nsView (s.tb 3)

/-- R515: counter `k` of the deltas of the health report has been cleared. -/
def State.noteCleared (s : State) (k : Nat) : State :=
  { s with port := { s.port with health := { s.port.health with cleared := setAt s.port.health.cleared k true } } }

/-! ### Interrupt sources (R449 to R453) -/

/-- PEND of a source. -/
def State.pend (s : State) (src : Nat) : Bool := s.bit F.ICU_PENDw_SRC (src / 32) (src % 32)

/-- PEND of a source set or cleared. -/
def State.setPend (s : State) (src : Nat) (b : Bool) : State :=
  s.setBit F.ICU_PENDw_SRC (src / 32) (src % 32) b

/-- Sequencer `n`. -/
def State.sq (s : State) (n : Nat) : Seq := s.seqs.getD n Seq.init

/-- Sequencer `n` replaced. -/
def State.setSq (s : State) (n : Nat) (q : Seq) : State := { s with seqs := setAt s.seqs n q }

/-- R458: an event on an enabled source routed to a sleeping sequencer is remembered as its wake. -/
def State.noteWake (s : State) (src : Nat) : State :=
  let t := s.fgi F.ICU_SRCCFGs_TARGET src
  if s.flagi F.ICU_SRCCFGs_EN src && decide (t < 4) && decide ((s.sq t).st = .wait) then
    s.setSq t { s.sq t with wake := true }
  else s

/-- R449: an event on a source. -/
def State.raise (s : State) (src : Nat) : State :=
  (if s.pend src then
    (s.setBit F.ICU_OVRw_SRC (src / 32) (src % 32) true).bump F.ICU_LOSTCNT
  else s.setPend src true).noteWake src

/-- R451, R453: the more urgent of two sources, lowest PRIO first, then lowest number. -/
def State.urgent (s : State) (best : Option Nat) (src : Nat) : Option Nat :=
  match best with
  | none => some src
  | some b => if s.fgi F.ICU_SRCCFGs_PRIO src < s.fgi F.ICU_SRCCFGs_PRIO b then some src else some b

/-- R453: the source chosen for a target among those pending, enabled and below a level. -/
def State.chosen (s : State) (target cl : Nat) : Option Nat :=
  (List.range 256).foldl (fun b src =>
    if s.pend src && s.flagi F.ICU_SRCCFGs_EN src && decide (s.fgi F.ICU_SRCCFGs_TARGET src = target)
        && decide (s.fgi F.ICU_SRCCFGs_PRIO src < cl) then s.urgent b src else b) none

/-- R452, R512: IRQ_N is driven low. -/
def State.irqLow (s : State) : Bool :=
  (s.chosen 4 16).isSome && !(decide (s.dev = .off) || decide (s.dev = .boot))

/-- A sticky bit whose setting raises a source: the source is raised as the bit goes from 0 to 1. -/
def State.sticky (s : State) (f : Fld) (i src : Nat) : State :=
  if s.flagi f i then s else (s.fsi f i 1).raise src

/-- R10: a reserved encoding was written (R450, source 139). -/
def State.rsvdEnc (s : State) : State := s.sticky F.SYS_ERRSTAT_RSVDENC 0 139

/-! ### The fault log (R507 to R511) -/

/-- The severity R508 gives a code; codes of class 15 carry their own. -/
def faultSev (code : Nat) : Nat :=
  if code ∈ [0x2006, 0x3005, 0x5002, 0x7005] then 0
  else if code ∈ [0x1001, 0x1002, 0x2002, 0x2004, 0x2005, 0x9003, 0xA001] then 3
  else if code ∈ [0x3001, 0x3002, 0x3003, 0x3004, 0x4007, 0x6001, 0x7003, 0x7004, 0x9001, 0x9002] then 2
  else 1

/-- R509: one entry written into the log, or merged into the newest entry. -/
def FaultLog.write (l : FaultLog) (e : FaultEntry) : FaultLog :=
  match l.entries with
  | n :: r =>
    if n.code = e.code && n.index = e.index then
      { l with entries := { n with rep := Nat.min (n.rep + 1) 255 } :: r }
    else
      { l with
        entries := (e :: n :: r).take 64
        head := (l.head + 1) % 64
        total := Nat.min (l.total + 1) 0xFFFFFF }
  | [] => { l with entries := [e], head := 0, total := Nat.min (l.total + 1) 0xFFFFFF }

/-- R509: an entry written, or held while the log has not started (up to 8). -/
def FaultLog.put (l : FaultLog) (e : FaultEntry) : FaultLog :=
  if l.started then l.write e
  else if l.held.length < 8 then { l with held := l.held ++ [e] } else l

/-- R509: the log starts: its area is zero and the held entries are written. -/
def FaultLog.start (l : FaultLog) : FaultLog :=
  l.held.foldl FaultLog.write { l with started := true, entries := [], head := 0, total := 0, held := [] }

/-- R509: at entry into SAFE before the log has started the held entries are written. -/
def FaultLog.flush (l : FaultLog) : FaultLog := if l.started then l else l.start

/-- R509, R514: an entry written now; the report counts those of severity ALARM or above that are not merged. -/
def State.logEntry (s : State) (e : FaultEntry) : State :=
  let merged := match s.log.entries with
    | n :: _ => decide (n.code = e.code) && decide (n.index = e.index)
    | [] => false
  let s := { s with log := s.log.put e }
  if decide (1 ≤ e.sev) && !merged then
    { s with port := { s.port with health := { s.port.health with alarms := Nat.min 0xFFFF (s.port.health.alarms + 1) } } }
  else s

/-- R508, R509, R511: an event is logged with a severity, at the end of its CORE cycle; from ALARM upwards its class bit sets in
FLTSTAT. -/
def State.logSev (s : State) (code sev index detail : Nat) : State :=
  let e : FaultEntry := ⟨code, sev, 0, index, detail % 65536, s.frame, s.tb3Ns⟩
  let s := match s.log.cycle with
    | some l => { s with log := { s.log with cycle := some (l ++ [e]) } }
    | none => s.logEntry e
  if 1 ≤ sev then s.setBit F.DBG_FLTSTAT_CLASS 0 (code / 4096) true else s

/-- R509: the events of one CORE cycle, in which `f` stands for what happens. Its end writes the entries in ascending order of CODE
and then of INDEX, with the frame and the time of that end. -/
def logCycle (f : State → State) (s : State) : State :=
  let s := f { s with log := { s.log with cycle := some [] } }
  let l := s.log.cycle.getD []
  let s := { s with log := { s.log with cycle := none } }
  let before (a b : FaultEntry) : Prop := a.code < b.code ∨ (a.code = b.code ∧ a.index ≤ b.index)
  (l.insertionSort before).foldl (fun s e => s.logEntry { e with frame := s.frame, ns := s.tb3Ns }) s

/-- R508: a device event logged. INDEX is 0xFFFF where R508 names none. -/
def State.logFault (s : State) (code index detail : Nat) : State :=
  s.logSev code (faultSev code) index detail

/-- INDEX of an entry that has none (R507). -/
def noIndex : Nat := 0xFFFF

/-- R507: the bytes of a log entry. -/
def FaultEntry.bytes (e : FaultEntry) : List Byte :=
  leBytes 4 (e.code % 65536 + e.sev % 4 * 65536 + e.rep % 256 * 16777216)
    ++ leBytes 4 (e.index % 65536 + e.detail % 65536 * 65536) ++ leBytes 4 e.frame ++ leBytes 4 e.ns

/-- R507: the entry at index `k` of the log area. -/
def FaultLog.at (l : FaultLog) (k : Nat) : Option FaultEntry := l.entries[(l.head + 64 - k) % 64]?

/-- R507: the log header. -/
def FaultLog.header (l : FaultLog) : Nat :=
  l.head + b2n (decide (64 ≤ l.total)) * 64 + l.total * 256

/-! ### State machine outcome -/

/-- A command that always has its effect. -/
abbrev Out : Type := Host.Outcome State Fault Refusal

end Sys2Proof.Machine
end

