-- ==== Sys2Proof/Machine/Time.lean ====
section
/-! DEFINITION. Network time (13): the time bases, the fabric servo, TB3's step, the PPS and event pins and
the beacon. A command that happens inside a frame carries the TIME cycle, counted from the tick, at which it happens. -/
namespace Sys2Proof.Machine

/-- The time block replaced by a function of it. -/
def State.modTime (s : State) (f : TimeSt → TimeSt) : State := { s with time := f s.time }

/-- The beacon state replaced by a function of it. -/
def State.modBcn (s : State) (f : Beacon → Beacon) : State :=
  s.modTime fun t => { t with bcn := f t.bcn }

/-- Limits of TB1INC and TB2INC (R329). -/
def incLo : Nat := 0x3FEF9DB23
/-- Limits of TB1INC and TB2INC (R329). -/
def incHi : Nat := 0x4010624DD
/-- Limits of TB3's increment (R329). -/
def inc3Lo : Nat := 0x3FF7CED92
/-- Limits of TB3's increment (R329). -/
def inc3Hi : Nat := 0x40083126E

/-- R329: a write of TBnINCHI applies the increment, or is ignored with INCERR when it is outside the limits. -/
def tbIncWrite (n : Nat) (v : Word) (s : State) : State :=
  if n = 1 ∨ n = 2 then
    let inc := v.toNat % 8 * 2 ^ 32 + s.fgi F.TIM_TBnINCLO_INC n
    if incLo ≤ inc ∧ inc ≤ incHi then
      (s.fsi F.TIM_TBnINCHI_INC n v.toNat).modTime fun t =>
        if n = 1 then { t with inc1 := inc } else { t with inc2 := inc }
    else s.fs F.TIM_T3STAT_INCERR 1
  else s

/-- The meaning of TB_INC_WRITE (R329). -/
def execTbIncWrite (n : Fin 4) (v : Word) (s : State) : Out := .next (tbIncWrite n.val v s)

/-- R330: the 74-bit signed offset of the ADJ registers, in units of 2^−32 ns. -/
def adjOffset (hi mid lo : Nat) : Int := sgn 74 (hi % 1024 * 2 ^ 64 + mid % 2 ^ 32 * 2 ^ 32 + lo % 2 ^ 32)

/-- R330: a write of TBnADJHI adds a signed offset to TB1 or TB2. -/
def tbAdjWrite (n : Nat) (v : Word) (s : State) : State :=
  if n = 1 ∨ n = 2 then
    let d := adjOffset v.toNat (s.fgi F.TIM_TBnADJMID_ADJ n) (s.fgi F.TIM_TBnADJLO_ADJ n)
    s.modTime fun t =>
      { t with t := setAt t.t n (((s.tb n : Int) + d) % (tbMod : Int)).toNat }
  else s

/-- The meaning of TB_ADJ_WRITE (R330). -/
def execTbAdjWrite (n : Fin 4) (v : Word) (s : State) : Out := .next (tbAdjWrite n.val v s)

/-- R331: a read of TBnNS in TIME cycle `c` returns NS and latches FRAC and WRAP of the same cycle. -/
def tbNsRead (n c : Nat) (s : State) : State :=
  let t := s.tbAt n c
  { (s.fsi F.TIM_TBnFRAC_VALUE n (fracView t)).fsi F.TIM_TBnWRAP_VALUE n (wrapView t) with
    rdata := nsView t }

/-- The meaning of TB_NS_READ_LATCH (R331). -/
def execTbNsReadLatch (n : Fin 4) (c : Nat) (s : State) : Out := .next (tbNsRead n.val c s)

/-- The statistic clear of TIM. -/
def timStatclr (s : State) : State :=
  s.fresetAll [F.TIM_SRCCNT, F.TIM_HOLDCNT, F.TIM_FARCNT, F.TIM_BCNBAD, F.TIM_PTPDROP]

/-- The meaning of TIM_STATCLR (R4). -/
def execTimStatclr (s : State) : Out := .next (timStatclr s)

/-! ### Selection and servo -/

/-- Whether a source of R334 is valid. The beacon is a source of a FOLLOWER only (R344). -/
def srcValid (s : State) (src : Nat) : Bool :=
  match src with
  | 1 => s.flagi F.TIM_TBnCTRL_VALID 1
  | 2 => s.flagi F.TIM_TBnCTRL_VALID 2
  | 3 => s.flag F.TIM_BCNSTAT_VALID && decide (s.fg F.TIM_BCNCFG_ROLE = 2)
  | _ => false

/-- R334: the source selected at a tick, from the one in use and the ticks PRI has been valid. -/
def selectSrc (s : State) : Nat :=
  let pri := s.fg F.TIM_T3CFG_PRI
  let sec := s.fg F.TIM_T3CFG_SEC
  let rw := s.fg F.TIM_T3CFG_REVWAIT
  let pv := srcValid s pri
  let sv := srcValid s sec
  if s.time.sel = sec ∧ sec ≠ pri ∧ sv = true then
    if pv = true ∧ rw ≠ 0 ∧ rw * 1000000 ≤ s.time.priRun then pri else sec
  else if pv then pri
  else if sv then sec
  else 0

/-- A difference of times reduced to (−2^31 µs, +2^31 µs] (R334). -/
def tbDiff (a b : Int) : Int :=
  let d := (a - b) % (tbMod : Int)
  if 2 * d ≤ (tbMod : Int) then d else d - tbMod

/-- R334: the offset of TB3 from a source at the tick, in units of 2^−32 ns. -/
def srcOffset (s : State) (src : Nat) : Int :=
  match src with
  | 1 => tbDiff (s.tb 3) (s.tb 1)
  | 2 => tbDiff (s.tb 3) (s.tb 2)
  | 3 => s.time.bcn.offset
  | _ => 0

/-- INCB of a source (R334). -/
def srcInc (s : State) (src : Nat) : Nat :=
  match src with
  | 1 => s.time.inc1
  | 2 => s.time.inc2
  | _ => incFree

/-- R334: the limit of the integral. -/
def servoLim : Int := 0x83126E

/-- R334: an increment moved from the last towards the target by at most SLEW, within the TB3 range. -/
def slewTo (last : Nat) (slew : Nat) (target : Int) : Nat :=
  let sl : Int := (Nat.max slew 1 : Nat)
  (clampI inc3Lo inc3Hi (clampI ((last : Int) - sl) ((last : Int) + sl) target)).toNat

/-- R334: the servo's computation at a tick: the integral, INCB_last and INC3 of the next frame. Quotients round
towards −∞ (log 6). -/
def servo (s : State) (src : Nat) (e : Int) : State :=
  let slew := s.fg F.TIM_T3SLEW_SLEW
  if s.fg F.TIM_T3CFG_MODE = 0 ∨ s.flag F.TIM_T3STAT_STEPPED = false then
    s.modTime fun t => { t with inc3n := incFree }
  else if src = 0 then
    s.modTime fun t => { t with inc3n := slewTo t.inc3 slew ((t.incLast : Int) + t.servoI) }
  else
    let i := clampI (-servoLim) servoLim (s.time.servoI - e / (250 * 2 ^ s.fg F.TIM_T3CFG_ISH : Int))
    let target := (srcInc s src : Int) + i - e / (250 * 2 ^ s.fg F.TIM_T3CFG_PSH : Int)
    s.modTime fun t => { t with servoI := i, incLast := srcInc s src, inc3n := slewTo t.inc3 slew target }

/-- An offset in 1/16 ns, signed, saturating to 32 bits. -/
def offReg (e : Int) : Nat := unsgn 32 (satS 32 (e * 16 / 2 ^ 32))

/-- R335: the offset alarm. -/
def farCheck (s : State) (e : Int) : State :=
  let lim := s.fg F.TIM_T3FAR_LIMIT
  let far := decide (lim ≠ 0) && decide ((lim : Int) * 2 ^ 32 < e.natAbs)
  if far && !s.flag F.TIM_T3STAT_FAR then
    (((s.fs F.TIM_T3STAT_FAR 1).bump F.TIM_FARCNT).raise 17).logFault 0x8001 noIndex 0
  else s.fb F.TIM_T3STAT_FAR far

/-- R334, R335, R338: what the time block does at a tick once the bases have advanced. -/
def tb3Tick (s : State) : State :=
  let old := s.time.sel
  let s := s.modTime fun t =>
    { t with priRun := if srcValid s (s.fg F.TIM_T3CFG_PRI) then t.priRun + 1 else 0 }
  let src := selectSrc s
  let s := s.modTime fun t => { t with sel := src, inc3 := t.inc3n }
  let s := s.when (decide (src ≠ old)) fun s =>
    ((s.bump F.TIM_SRCCNT).fs F.TIM_T3STAT_SRCCHG 1).raise 16
  let s := s.when (decide (src = 0) && decide (old ≠ 0)) fun s =>
    (s.bump F.TIM_HOLDCNT).logFault 0x8002 noIndex old
  let s := s.fb F.TIM_T3STAT_HOLD (decide (src = 0))
  let s := s.fs F.TIM_T3STAT_SRC (if s.flag F.TIM_T3STAT_STEPPED then src else 0)
  let e := srcOffset s src
  let s := if src = 0 then s else farCheck (s.fs F.TIM_T3OFF_OFFSET (offReg e)) e
  servo s src e

/-! ### Frame length and the advance of the bases -/

/-- TIME cycles until base TB3, at `t` with increment `inc`, reaches or passes whole microsecond `us` (R33). -/
def cyclesTo (t inc us : Nat) : Nat := (us * 1000 * 2 ^ 32 - t + (inc - 1)) / inc

/-- The length in TIME cycles of a frame that begins at time `t` (R36); a stepped frame lasts at least 250 (R37). -/
def frameCycles (t inc : Nat) (stepped : Bool) : Nat :=
  let n := cyclesTo t inc (usView t + 1)
  if stepped && decide (n < 250) then cyclesTo t inc (usView t + 2) else n

/-- The frame that is running was begun by the step. -/
def State.inStep (s : State) : Bool :=
  match s.time.step with
  | .running => true
  | .loaded => true
  | _ => false

/-- The length in TIME cycles of the running frame. -/
def State.frameLen (s : State) : Nat := frameCycles (s.tb 3) s.time.inc3 s.inStep

/-- The times at the next tick. -/
def State.tbNext (s : State) : List Nat := (List.range 4).map fun n => s.tbAt n s.frameLen

/-- The number of the coming frame. Once R337's load has been made it is the frame counter already. -/
def State.coming (s : State) : Nat := if s.time.step = .loaded then s.frame else add32 s.frame 1

/-- T3 at the tick that ends the running frame, the step carried out (R336). -/
def State.t3Next (s : State) : Nat :=
  match s.time.step with
  | .armed d => (((s.tbAt 3 s.frameLen : Nat) + d) % (tbMod : Int)).toNat
  | _ => s.tbAt 3 s.frameLen

/-- The bases advance to the next tick; an armed step is carried out there (R336). -/
def advanceBases (s : State) : State :=
  let ts := setAt s.tbNext 3 s.t3Next
  s.modTime fun t =>
    match t.step with
    | .armed d =>
      { t with
        t := ts
        step := .running
        nsWrap := wrapView s.t3Next
        bcn := { t.bcn with lastEdge := (((t.bcn.lastEdge : Nat) + d) % (tbMod : Int)).toNat } }
    | .planned d => { t with t := ts, step := .armed d }
    | .loaded => { t with t := ts, step := .none }
    | _ => { t with t := ts }

/-- The length in TIME cycles of the next frame, which R67 fixes one tick ahead. -/
def State.nextLen (s : State) : Nat :=
  frameCycles s.t3Next s.time.inc3n (match s.time.step with | .armed _ => true | _ => false)

/-- R336: U − (s + 1) once the step is armed, in frame s − 1, or running, in frame s. -/
def State.stepDelta (s : State) : Nat :=
  match s.time.step with
  | .armed _ => sub32 (usView (s.t3Next + s.nextLen * s.time.inc3n)) (s.frame + 2)
  | .running => sub32 (usView s.t3Next) (s.frame + 1)
  | _ => 0

/-- R336: frame s, in which TB3 steps, once the step is armed. -/
def State.stepFrame (s : State) : Option Nat :=
  match s.time.step with
  | .armed _ => some (add32 s.frame 1)
  | .running => some s.frame
  | _ => none

/-- The number that heater frame `n`, counted on from the running frame, bears: from the frame after s it is in the
new numbering (R336, R337). -/
def State.heaterNo (s : State) (n : Nat) : Nat :=
  match s.stepFrame with
  | some f => if later n f then add32 n s.stepDelta else n % 2 ^ 32
  | none => n % 2 ^ 32

/-- R336: TB3's single step is planned at the first tick that meets its conditions, D being −e at that tick. -/
def tb3Step (s : State) : State :=
  let a := advanceBases s
  let src := selectSrc (a.modTime fun t =>
    { t with priRun := if srcValid a (a.fg F.TIM_T3CFG_PRI) then t.priRun + 1 else 0 })
  if s.fg F.TIM_T3CFG_MODE = 1 ∧ src ≠ 0 ∧ s.flag F.TIM_T3STAT_STEPPED = false ∧ s.time.step = .none
      ∧ (src ≠ 3 ∨ s.flag F.TIM_BCNSTAT_STEPPED = true) then
    s.modTime fun t => { t with step := .planned (-(srcOffset a src)) }
  else s

/-- The meaning of TB3_STEP (R336). -/
def execTb3Step (s : State) : Out := .next (tb3Step s)

/-- R336: the records of the step, made at tick U: `u` is U and `frm` the frame s. -/
def stepRecord (u frm : Nat) (s : State) : State :=
  let s := (((s.fs F.TIM_STEPFRM_FRAME frm).fs F.TIM_STEPDELTA_FRAME (sub32 u (frm + 1))).fs
    F.TIM_T3STAT_STEPPED 1).raise 18
  s.modTime fun t => { t with servoI := 0, step := .loaded }

/-- R450: the NS view of TB3 wraps at TIME cycle `c` of the frame. -/
def execTb3NsWrap (c : Nat) (s : State) : Out :=
  let w := wrapView (s.tbAt 3 c)
  .next (if w ≠ s.time.nsWrap then (s.modTime fun t => { t with nsWrap := w }).raise 21 else s)

/-! ### PPS (R340, R341) -/

/-- R340: a rising edge of PPS_IN in TIME cycle `c`. -/
def ppsInEdge (c : Nat) (s : State) : State :=
  if s.flag F.TIM_PPSCFG_INEN then
    let s := s.when (s.flag F.TIM_PPSSTAT_NEW) fun s => s.fs F.TIM_PPSSTAT_OVERRUN 1
    let s := (List.range 4).foldl (fun s n => s.fsi F.TIM_PPSCAPn_NS n (nsView (s.tbAt n c))) s
    (((s.fs F.TIM_PPSSTAT_WRAP (wrapView (s.tbAt 3 c))).fs F.TIM_PPSSTAT_NEW 1)).raise 19
  else s

/-- The meaning of PPS_IN_EDGE (R340). -/
def execPpsInEdge (c : Nat) (s : State) : Out := .next (ppsInEdge c s)

/-- R341: a write of PPSNEXT sets ARMED. -/
def ppsNextWrite (v : Word) (s : State) : State :=
  (s.fs F.TIM_PPSNEXT_NS v.toNat).fs F.TIM_PPSCFG_ARMED 1

/-- The meaning of PPSNEXT_WRITE (R341). -/
def execPpsnextWrite (v : Word) (s : State) : Out := .next (ppsNextWrite v s)

/-- One millisecond in units of 2^−32 ns. -/
def oneMs : Nat := 1000000 * 2 ^ 32

/-- R341: an armed pulse is due: at TIME cycle `c` the chosen base has reached or passed PPSNEXT. -/
def State.ppsDue (s : State) (c : Nat) : Bool :=
  let t := nsView (s.tbAt (s.fg F.TIM_PPSCFG_OUTSRC) c)
  s.flag F.TIM_PPSCFG_OUTEN && s.flag F.TIM_PPSCFG_ARMED && decide (sub32 t (s.fg F.TIM_PPSNEXT_NS) < 2 ^ 31)

/-- R341: the first TIME cycle of the running frame at which an armed pulse is due, or the frame's length. -/
def State.ppsFirst (s : State) : Nat :=
  if s.flag F.TIM_PPSCFG_OUTEN && s.flag F.TIM_PPSCFG_ARMED then
    ((List.range s.frameLen).find? s.ppsDue).getD s.frameLen
  else s.frameLen

/-- R341: PPS_OUT rises at the first TIME cycle at which the chosen base has reached or passed PPSNEXT. A pulse that is due
from the start of the frame has been armed within it, and rises at the cycle that the command gives (log 67). In BOOT and in
SAFE the ball stays low (R534). -/
def ppsOutEdge (c : Nat) (s : State) : State :=
  if s.up && s.ppsDue c && (s.ppsDue 0 || decide (c = s.ppsFirst)) then
    (s.fs F.TIM_PPSCFG_ARMED 0).modTime fun x =>
      { x with
        ppsOut := true
        ppsEnd := (s.tbAt 0 c + Nat.max 1 (s.fg F.TIM_PPSCFG_WIDTH) * oneMs) % tbMod }
  else s

/-- The meaning of PPS_OUT_EDGE (R341). -/
def execPpsOutEdge (c : Nat) (s : State) : Out := .next (ppsOutEdge c s)

/-- R341: a rise within the running frame that no command has brought takes place before its end. -/
def ppsRise (s : State) : State := if s.ppsDue 0 then s else ppsOutEdge s.ppsFirst s

/-- R341: PPS_OUT is high and its WIDTH ms of TB0 have passed by TIME cycle `c`. -/
def State.ppsOver (s : State) (c : Nat) : Bool := s.time.ppsOut && decide (0 ≤ tbDiff (s.tbAt 0 c) s.time.ppsEnd)

/-- R341: the pulse ends WIDTH ms of TB0 after its edge. -/
def ppsOutEnd (c : Nat) (s : State) : State :=
  if s.ppsOver c && (decide (c = 0) || !s.ppsOver (c - 1)) then
    s.modTime fun x => { x with ppsOut := false }
  else s

/-- The meaning of PPS_OUT_END (R341). -/
def execPpsOutEnd (c : Nat) (s : State) : Out := .next (ppsOutEnd c s)

/-! ### Event pins (R342) -/

/-- The FIFO of pin `n`. -/
def State.evtFifo (s : State) (n : Nat) : List EvtCap := s.time.evt.getD n []

/-- R342: the mode of a pin captures an edge of this direction. -/
def captures (mode : Nat) (falling : Bool) : Bool :=
  decide (mode = 3) || (decide (mode = 1) && !falling) || (decide (mode = 2) && falling)

/-- R342: an edge on a capture pin in TIME cycle `c`. -/
def evtCapture (n : Nat) (falling : Bool) (c : Nat) (s : State) : State :=
  if captures (s.fgi F.EVT_CFGn_MODE n) falling then
    let s := s.raise 20
    if (s.evtFifo n).length < 4 then
      let t := s.tbAt 3 c
      s.modTime fun x =>
        { x with evt := setAt x.evt n (s.evtFifo n ++ [⟨s.frame, subView t, falling, wrapView t⟩]) }
    else (s.setBit F.EVT_STAT_OVERRUN 0 n true).bumpi F.EVT_LOSTn n
  else s

/-- The meaning of EVT_CAPTURE (R342). -/
def execEvtCapture (n : Fin 4) (falling : Bool) (c : Nat) (s : State) : Out :=
  .next (evtCapture n.val falling c s)

/-- R342: a write of EVT.POPn removes the head capture. -/
def evtPop (n : Nat) (s : State) : State :=
  s.modTime fun x => { x with evt := setAt x.evt n (s.evtFifo n).tail }

/-- The meaning of EVT_POP (R342). -/
def execEvtPop (n : Fin 4) (s : State) : Out := .next (evtPop n.val s)

/-- The statistic clear of EVT. -/
def evtStatclr (s : State) : State := s.fresetRow 4 [F.EVT_LOSTn]

/-- The meaning of EVT_STATCLR (R4). -/
def execEvtStatclr (s : State) : Out := .next (evtStatclr s)

/-- R342: the FRAMEMARK pulses of the frame that begins. -/
def framemarks (s : State) : List EvtPulse :=
  (List.range 4).filterMap fun n =>
    if s.fgi F.EVT_CFGn_MODE n = 5 ∧ s.frame % 2 ^ s.fgi F.EVT_CFGn_K n = 0 then
      some ⟨n, s.fgi F.EVT_CFGn_DELAY n, Nat.max 1 (s.fgi F.EVT_CFGn_WIDTH n)⟩
    else none

/-! ### The beacon (R343 to R345) -/

/-- BREF in force, in ns (13, TIM.BCNCFG). -/
def bref (s : State) : Nat := Nat.min 900 (Nat.max 100 (s.fg F.TIM_BCNCFG_BREF))

/-- CRC-8 with polynomial 0x07 and initial value 0 over `n` bits of `v`, most significant first (R343). -/
def crc8 (v : Nat) : Nat → Nat → Nat
  | 0, acc => acc
  | n + 1, acc =>
    let b := acc.testBit 7 != v.testBit n
    crc8 v n (if b then (acc * 2 % 256) ^^^ 7 else acc * 2 % 256)

/-- R343: a beacon word. -/
def beaconWord (fnext hop : Nat) (stepped srcok : Bool) : Nat :=
  let body := 0xC5A3 * 2 ^ 40 + fnext % 2 ^ 32 * 2 ^ 8 + hop % 16 * 2 ^ 4 + b2n stepped * 8 + b2n srcok * 4
  body * 256 + crc8 body 56 0

/-- R344: MARK and CRC of a received word match. -/
def beaconWordOk (w : Nat) : Bool :=
  decide (bitsAt w 48 16 = 0xC5A3) && decide (crc8 (w / 256) 56 0 = w % 256)

/-- BCN_OUT may carry an edge: after BOOT and out of SAFE (R534), and not in STANDBY (R376). -/
def State.beaconMay (s : State) : Bool := s.up && decide (s.dev ≠ .standby)

/-- This device drives the beacon: a leader, or a follower with RELAY (R343). -/
def drivesBeacon (s : State) : Bool :=
  s.beaconMay
    && (decide (s.fg F.TIM_BCNCFG_ROLE = 1) || (decide (s.fg F.TIM_BCNCFG_ROLE = 2) && s.flag F.TIM_BCNCFG_RELAY))

/-- R343: the edge that this frame drives, if any. The word of a group is fixed at the first frame of the group that drives
one (log 7). -/
def beaconSend (s : State) : State :=
  if drivesBeacon s then
    let n := s.frame
    let s := if n % 64 = 0 ∨ s.time.bcn.word = 0 ∨ s.time.bcn.group ≠ n - n % 64 then
        let hop := if s.fg F.TIM_BCNCFG_ROLE = 1 then 0 else s.fg F.TIM_BCNSTAT_HOP + 1
        let w := beaconWord (add32 (n - n % 64) 64) hop (s.flag F.TIM_T3STAT_STEPPED) (decide (s.time.sel ≠ 0))
        s.modBcn fun b => { b with word := w, group := n - n % 64 }
      else s
    let bit := s.time.bcn.word.testBit (63 - n % 64)
    let lead : Int := (bref s : Int) * 10 - ((s.fg F.TIM_BCNTRACE_TRACE : Nat) : Int) / 10
    s.modBcn fun b => { b with out := some ⟨n, lead, if bit then 24 else 12⟩ }
  else s.modBcn fun b => { b with word := 0 }

/-- R344: loss of the beacon: VALID and ACQ clear and the search for the word starts again. -/
def beaconLose (s : State) : State :=
  ((s.fs F.TIM_BCNSTAT_VALID 0).fs F.TIM_BCNSTAT_ACQ 0).modBcn fun b =>
    { b with good := 0, aligned := false, nbits := 0 }

/-- The time in TB3 of an edge `at100` × 100 ps after the tick. -/
def State.edgeTime (s : State) (at100 : Nat) : Nat := (s.tb 3 + at100 * 2 ^ 32 / 10) % tbMod

/-- The time of an edge less TIN and BREF (R344): that of the tick that it stands for. -/
def State.edgeTick (s : State) (at100 : Nat) : Int :=
  (s.edgeTime at100 : Nat) - ((s.fg F.TIM_BCNSKEW_TIN * 2 ^ 32 / 100 : Nat) : Int) - ((bref s * 2 ^ 32 : Nat) : Int)

/-- The device's own number of the frame whose edge arrives: that of its tick nearest to the one the edge stands for, the
frame counter being the US view of TB3 (R331, R344). -/
def State.edgeOwn (s : State) (at100 : Nat) : Nat :=
  ((s.edgeTick at100 + 500 * 2 ^ 32) % (tbMod : Int)).toNat / (1000 * 2 ^ 32)

/-- R344: a good word has been received, its last edge at `at100`, which is of the leader's frame FNEXT − 1. Once the device
has stepped, its own numbering of that frame is compared. -/
def beaconGood (at100 w : Nat) (s : State) : State :=
  let fn := bitsAt w 16 32
  let b0 := s.time.bcn
  let good := if 1 ≤ b0.good ∧ sub32 fn b0.fnext = 64 then b0.good + 1 else 1
  let s := ((s.fs F.TIM_BCNSTAT_ACQ 1).fs F.TIM_BCNSTAT_HOP (bitsAt w 12 4)).fs F.TIM_BCNSTAT_STEPPED (bitsAt w 11 1)
  let s := (s.fs F.TIM_BCNSTAT_SRCOK (bitsAt w 10 1)).modBcn fun b =>
    { b with good := good, fnext := fn, edgeFrame := sub32 fn 1, aligned := true, nbits := 0 }
  let s := if 2 ≤ good then s.fs F.TIM_BCNSTAT_VALID 1 else s
  if s.flag F.TIM_T3STAT_STEPPED && decide (fn ≠ add32 (s.edgeOwn at100) 1) then
    (((s.fs F.TIM_BCNSTAT_VALID 0).fs F.TIM_BCNSTAT_FNMIS 1).modBcn fun b => { b with good := 0 }).logFault
      0x8003 noIndex 0
  else s

/-- A received bit shifted into the word. -/
def Beacon.shift (bit : Bool) (b : Beacon) : Beacon :=
  { b with bits := (b.bits * 2 + b2n bit) % 2 ^ 64, nbits := b.nbits + 1 }

/-- R344: a bit is received, its edge at `at100`: the bits so far make a whole word, or not. -/
def beaconBit (at100 : Nat) (bit : Bool) (s : State) : State :=
  let s := s.modBcn (Beacon.shift bit)
  let w := s.time.bcn.bits
  let nb := s.time.bcn.nbits
  if s.time.bcn.aligned then
    if nb = 64 then
      if beaconWordOk w && decide (bitsAt w 12 4 < 15) then beaconGood at100 w s
      else
        let s := s.when (beaconWordOk w) fun s => s.fs F.TIM_BCNSTAT_HOPLIM 1
        beaconLose ((s.fs F.TIM_BCNSTAT_BADWORD 1).bump F.TIM_BCNBAD)
    else s
  else if 64 ≤ nb ∧ beaconWordOk w = true then
    if bitsAt w 12 4 < 15 then beaconGood at100 w s else s.fs F.TIM_BCNSTAT_HOPLIM 1
  else s

/-- R344: the leader's frames from the last edge to one now: its edges are 1,000 ns apart, to the nearest (log 67). -/
def State.edgeSteps (s : State) (at100 : Nat) : Nat :=
  let d := (tbDiff (s.edgeTime at100) s.time.bcn.lastEdge).toNat
  Nat.max 1 ((d + 500 * 2 ^ 32) / (1000 * 2 ^ 32))

/-- R344: the offset that an edge measures, `at100` being its time after the tick in 100 ps. -/
def beaconOffset (at100 : Nat) (s : State) : Int :=
  tbDiff (s.edgeTick at100) ((s.time.bcn.edgeFrame * 1000 * 2 ^ 32 : Nat) : Int)

/-- R345: the time from this device's own edge of frame `edgeFrame` at its BCN_OUT ball, TRACE before tick + BREF, to an edge
at its BCN_IN ball, in 10 ps. -/
def State.roundTrip (s : State) (at100 : Nat) : Int :=
  beaconOffset at100 s * 100 / 2 ^ 32 + ((s.fg F.TIM_BCNTRACE_TRACE : Nat) : Int)

/-- R345: a leader averages the round trip of its own edge over 256 frames, in 10 ps. An echo belongs to the frame that the
words it carries give it, counted as a follower counts; until a word has come whole, and where the time would not fit
BCNRTT, it is paired with none (log 67). -/
def beaconRtt (at100 : Nat) (s : State) : State :=
  let rtt := s.roundTrip at100
  if s.time.bcn.aligned = false then s
  else if rtt < 0 ∨ 2 ^ 20 ≤ rtt then s.modBcn fun b => { b with aligned := false, nbits := 0 }
  else
    let s := s.modBcn fun b => { b with rttSum := b.rttSum + rtt.toNat, rttCount := b.rttCount + 1 }
    if s.time.bcn.rttCount = 256 then
      (s.fs F.TIM_BCNRTT_TIME (s.time.bcn.rttSum / 256)).modBcn fun b => { b with rttSum := 0, rttCount := 0 }
    else s

/-- R345: a leader reads its own words in the echoes, which tell the frame of each. -/
def Beacon.echoBit (bit : Bool) (b : Beacon) : Beacon :=
  let b := b.shift bit
  if 64 ≤ b.nbits ∧ beaconWordOk b.bits = true then
    { b with aligned := true, nbits := 0, edgeFrame := sub32 (bitsAt b.bits 16 32) 1 }
  else if b.aligned ∧ b.nbits = 64 then { b with aligned := false, nbits := 0 }
  else b

/-- An edge on BCN_IN counted: the leader's frame that it belongs to, and its time. -/
def beaconCount (at100 : Nat) (s : State) : State :=
  s.modBcn fun b =>
    { b with
      missed := 0
      seen := true
      edgeFrame := add32 b.edgeFrame (s.edgeSteps at100)
      lastEdge := s.edgeTime at100 }

/-- R344, R345: an edge arrives on BCN_IN, `at100` × 100 ps after the tick, with a pulse of `width` TIME cycles. -/
def beaconEdge (at100 width : Nat) (s : State) : State :=
  let role := s.fg F.TIM_BCNCFG_ROLE
  if role = 2 ∨ role = 3 then
    let s := beaconCount at100 s
    let s := if s.flag F.TIM_BCNSTAT_ACQ then
        let e := beaconOffset at100 s
        (s.fs F.TIM_BCNOFF_OFFSET (offReg e)).modBcn fun b => { b with offset := e }
      else s
    beaconBit at100 (decide (18 < width)) s
  else if role = 1 then beaconRtt at100 ((beaconCount at100 s).modBcn (Beacon.echoBit (decide (18 < width))))
  else s

/-- The meaning of BEACON_EDGE_RECEIVE (R344). -/
def execBeaconEdgeReceive (at100 width : Nat) (s : State) : Out := .next (beaconEdge at100 width s)

/-- The beacon's part of a tick: on a device that receives the beacon a frame without an edge is counted (R344). -/
def beaconTick (s : State) : State :=
  let role := s.fg F.TIM_BCNCFG_ROLE
  s.modBcn fun b => { b with seen := false, missed := if b.seen ∨ (role ≠ 2 ∧ role ≠ 3) then 0 else b.missed + 1 }

/-- R344: four consecutive frames without an edge. -/
def beaconMiss (s : State) : State :=
  let role := s.fg F.TIM_BCNCFG_ROLE
  if (role = 2 ∨ role = 3) ∧ 4 ≤ s.time.bcn.missed then
    beaconLose (s.fs F.TIM_BCNSTAT_MISS 1)
  else s

/-- The meaning of BEACON_MISS (R344). -/
def execBeaconMiss (s : State) : Out := .next (beaconMiss s)

/-- The meaning of BEACON_SKEW_MEASURE (R345): the measured delays, in 10 ps, are shown. -/
def execBeaconSkewMeasure (tin tout : BitVec 12) (s : State) : Out :=
  .next ((s.fs F.TIM_BCNSKEW_TIN tin.toNat).fs F.TIM_BCNSKEW_TOUT tout.toNat)

/-- R345: a device with ROLE OFF and ECHO set copies an edge to BCN_OUT after TECHO, where BCN_OUT may carry
one. -/
def beaconEcho (at100 width : Nat) (s : State) : State :=
  if s.beaconMay = true ∧ s.fg F.TIM_BCNCFG_ROLE = 0 ∧ s.flag F.TIM_BCNCFG_ECHO = true then
    s.modBcn fun b => { b with out := some ⟨s.frame, (at100 + s.fg F.TIM_BCNSKEW_TECHO : Nat), width⟩ }
  else s

/-- The meaning of BEACON_ECHO (R345). -/
def execBeaconEcho (at100 width : Nat) (s : State) : Out := .next (beaconEcho at100 width s)

/-! ### The arming window (R339) -/

/-- R339: frame `f` lies within the arming window at the present frame. -/
def inArmWindow (s : State) (f : Nat) : Bool :=
  let w := Nat.min (2 ^ 30) (s.fg F.TIM_ARMWIN_FRAMES)
  let d := sub32 f s.frame
  decide (d ≤ w) || decide (0x80000000 < d)

end Sys2Proof.Machine
end

