-- ==== Sys2Proof/Machine/Fabric.lean ====
section
/-! DEFINITION. The fabric as the controller numbers it (01): slots, bundles, quays, engines and the pilot plan. -/
namespace Sys2Proof.Machine

/-- The number of slots (R14). -/
def nSlots : Nat := 12288

/-- The quay of a slot (R14). -/
def quayOf (slot : Nat) : Nat := slot / 384

/-- The tile heater channel of a slot (R14). -/
def chanOf (slot : Nat) : Nat := slot % 384

/-- The bundle of a slot (R15). -/
def bundleOf (slot : Nat) : Nat := slot / 8

/-- The quay of a bundle (R15). -/
def quayOfBundle (b : Nat) : Nat := b / 48

/-- The logical engine of a bundle (R17). -/
def engineOf (b : Nat) : Nat := b / 32

/-- R14: a tile channel exists on a quay of this generation. -/
def chanExists : Gen → Nat → Bool
  | .el2, i => decide (i < 384)
  | .el1, i => decide (i < 192)
  | .absent, _ => false

/-- R16: the monitor inputs of a quay. -/
def monExists : Gen → Nat → Bool
  | .el2, c => decide (c < 96)
  | .el1, c => decide (c < 48)
  | .absent, _ => false

/-- Slot `n`. -/
def State.slot (s : State) (n : Nat) : Slot := tget Slot.init s.fab.slots n

/-- The fabric changed by a function. -/
def State.modFab (s : State) (f : Fabric → Fabric) : State := { s with fab := f s.fab }

/-- R469: the words of a list that lie in the beat of table memory at an address. -/
def inBeat (a : Nat) (l : List Nat) : List Nat := if a < 0x1000000 then l.filter fun w => decide (w / 4 = a / 32) else []

/-- R469: the beat of table memory at an address holds an uncorrectable word. -/
def State.beatBad (s : State) (a : Nat) : Bool := decide (inBeat a s.fab.badWords ≠ [])

/-- R469: bytes written into table memory; each beat that they replace whole is repaired. -/
def State.memBeats (s : State) (a : Nat) (bs : List Byte) : State :=
  let rest (w : Nat) : Bool := decide (w / 4 * 32 < a) || decide (a + bs.length < w / 4 * 32 + 32)
  (s.memPut a bs).modFab fun x => { x with weakWords := x.weakWords.filter rest, badWords := x.badWords.filter rest }

/-- Slot `n` changed by a function. -/
def State.modSlot (s : State) (n : Nat) (f : Slot → Slot) : State :=
  s.modFab fun x => { x with slots := tmod Slot.init x.slots n f }

/-- Every listed slot changed by a function of its number. -/
def State.mapSlots (s : State) (f : Nat → Slot → Slot) : State :=
  s.modFab fun x => { x with slots := x.slots.map fun e => (e.1, f e.1 e.2) }

/-- The eight slots of a bundle changed by a function of the slot number. -/
def State.modBunSlots (s : State) (b : Nat) (f : Nat → Slot → Slot) : State :=
  (List.range 8).foldl (fun s i => s.modSlot (8 * b + i) (f (8 * b + i))) s

/-- Bundle `b`. -/
def State.bun (s : State) (b : Nat) : Bundle := tget Bundle.init s.fab.bundles b

/-- Bundle `b` changed by a function. -/
def State.modBun (s : State) (b : Nat) (f : Bundle → Bundle) : State :=
  s.modFab fun x => { x with bundles := tmod Bundle.init x.bundles b f }

/-- The coefficients of bundle `b`. -/
def State.coef (s : State) (b : Nat) : BunCoef := tget BunCoef.init s.fab.coefs b

/-- The coefficients of bundle `b` changed by a function. -/
def State.modCoef (s : State) (b : Nat) (f : BunCoef → BunCoef) : State :=
  s.modFab fun x => { x with coefs := tmod BunCoef.init x.coefs b f }

/-- The coefficients of slot `n`. -/
def State.slotCoef (s : State) (n : Nat) : SlotCoef :=
  (s.coef (bundleOf n)).slots.getD (n % 8) SlotCoef.init

/-- Quay `q`. -/
def State.quay (s : State) (q : Nat) : Quay := s.quays.getD q Quay.init

/-- Quay `q` changed by a function. -/
def State.modQuay (s : State) (q : Nat) (f : Quay → Quay) : State :=
  { s with quays := setAt s.quays q (f (s.quay q)) }

/-- R21: the slot is in service. -/
def State.inService (s : State) (n : Nat) : Bool := (s.slot n).serving

/-- R83: the device composes and demodulates slot `n`: it is in service and its quay's lane has entered RUN. -/
def State.works (s : State) (n : Nat) : Bool := s.inService n && decide (s.fgi F.QY_LNKSTAT_STATE (quayOf n) = 6)

/-- R19: the generation that the image declares for quay `q`. -/
def State.declGen (s : State) (q : Nat) : Gen :=
  match s.fgi F.QY_LNKCFG_GEN q with
  | 1 => .el1
  | 2 => .el2
  | _ => .absent

/-- The slots of a bundle that are in service. -/
def State.liveSlots (s : State) (b : Nat) : List Nat :=
  (List.range 8).filterMap fun i => if s.inService (8 * b + i) then some (8 * b + i) else none

/-- The slots of a bundle that the engines work on (R83). -/
def State.workSlots (s : State) (b : Nat) : List Nat := (s.liveSlots b).filter s.works

/-- The numbers of the populated slots. -/
def State.popSlots (s : State) : List Nat := s.fab.slots.filterMap fun e => if e.2.pop then some e.1 else none

/-- The bundles that have a populated slot, each once, rising. DESIGN CHOICE (log 65): parks, holds, their counts and the states
at the start of RUN (R139, R141, R148, R150, R151) concern these bundles alone. -/
def State.popBundles (s : State) : List Nat :=
  (s.popSlots.map bundleOf).dedup

/-- R45: bundle `b` runs its update in engine frame `f` under exponent `k`. -/
def isUpdate (f b k : Nat) : Bool := decide (sub32 f b % 2 ^ k = 0)

/-- R45: the coming frame is an update frame of bundle `b`. -/
def State.updNext (s : State) (b : Nat) : Bool := isUpdate s.coming b (s.coef b).k

/-- The timing set in force for slot `n` (R111). -/
def State.tsetOf (s : State) (n : Nat) : TSet :=
  let q := s.quay (quayOf n)
  q.tsets.getD (tget 0 q.tasg (chanOf n)) ⟨0, 0, 0⟩

/-- The eight assignment fields of a QY.TSASGj register. -/
def tsasgFlds : List Fld :=
  [F.QY_TSASGj_SET0, F.QY_TSASGj_SET1, F.QY_TSASGj_SET2, F.QY_TSASGj_SET3, F.QY_TSASGj_SET4, F.QY_TSASGj_SET5,
   F.QY_TSASGj_SET6, F.QY_TSASGj_SET7]

/-- The staged timing set number of a slot (R113). -/
def State.stageSetOf (s : State) (n : Nat) : Nat :=
  s.fgi (tsasgFlds.getD (n % 8) F.QY_TSASGj_SET0) (quayOf n * 48 + chanOf n / 8)

/-- Timing set `k` of the staging copy of quay `q` (R113). -/
def State.stageSet (s : State) (q k : Nat) : TSet :=
  ⟨s.fgi F.QY_TSETn_STROBE (q * 8 + k), s.fgi F.QY_TSETn_SAMP (q * 8 + k), s.fgi F.QY_TSETn_PILOFF (q * 8 + k)⟩

/-- The timing set of a slot for heater frame `h`: the staged one once an acknowledged change applies, and the one before a
change for heater frames before that change (R113). -/
def State.tsetAt (s : State) (n h : Nat) : TSet :=
  let q := s.quay (quayOf n)
  let now := match q.tsWas with
    | some w => if notBefore h w.frame then s.tsetOf n else w.tsets.getD (tget 0 w.tasg (chanOf n)) ⟨0, 0, 0⟩
    | none => s.tsetOf n
  match q.ts with
  | some c => if c.acked && notBefore h c.frame then s.stageSet (quayOf n) (s.stageSetOf n) else now
  | none => now

/-- The slots that share monitor channel `c` of quay `q`. -/
def State.onChannel (s : State) (q c : Nat) : List Nat :=
  s.fab.slots.filterMap fun e =>
    if e.2.pop = true ∧ quayOf e.1 = q ∧ e.2.mon = some c then some e.1 else none

/-- The physical engine that serves a logical engine (05, MOR.EMAPe). -/
def State.physOf (s : State) (e : Nat) : Nat := s.fgi F.MOR_EMAPe_PHYS e

/-- The number of spare engines (05, MOR.STAT.SPARES). -/
def State.spares (s : State) : Nat :=
  (List.range 50).countP fun p => decide (s.fgi F.MOR_ESTATp_STATE p = 1)

/-- The engine that serves bundle `b` runs (neither FAILED nor LOADING). -/
def State.engineUp (s : State) (b : Nat) : Bool :=
  decide (s.fgi F.MOR_ESTATp_STATE (s.physOf (engineOf b)) = 0)

/-! ### The pilot plan (R24 to R27, R112) -/

/-- R26: the bins of one channel: each a multiple of M, none equal, none twice or three times another. -/
def binsOk (m : Nat) : List Nat → Bool
  | [] => true
  | n :: t =>
    decide (n % m = 0) && t.all (fun k => decide (k ≠ n) && decide (k ≠ 2 * n) && decide (k ≠ 3 * n)
      && decide (n ≠ 2 * k) && decide (n ≠ 3 * k)) && binsOk m t

/-- R25: a SINE increment names a bin from 8 to 63. -/
def binOk (inc : Nat) : Bool := decide (inc % 0x8000 = 0) && decide (8 ≤ inc / 0x8000) && decide (inc / 0x8000 ≤ 63)

/-- R24 to R26 for one channel, given the pilot setting and interval exponent of each slot on it. -/
def channelOk (ps : List (Pilot × Nat)) : Bool :=
  let kmin := minOr 10 (ps.map (·.2))
  let m := if kmin ≤ 9 then 2 ^ (9 - kmin) else 1
  let sines := ps.filterMap fun p => if p.1.mode = 0 then some p.1.inc else none
  decide (ps.length ≤ 4) && sines.all binOk && binsOk m (sines.map (· / 0x8000))

/-- The channels that carry slots: quay, input and slots, in the order of their lowest slots. -/
def State.channels (s : State) : List (Nat × Nat × List Nat) :=
  ((s.fab.slots.filterMap fun e =>
    match e.2.mon with
    | some c => if e.2.pop then some (quayOf e.1, c) else none
    | none => none).eraseDups).map fun qc => (qc.1, qc.2, s.onChannel qc.1 qc.2)

/-- The coefficients a bundle will have once what is committed for it is in force. -/
def State.coefNext (s : State) (b : Nat) : BunCoef := (tget none s.fab.pendCoefs b).elim (s.coef b) (·.coef)

/-- The interval exponent under which bundle `b` is judged: the smaller of the one in force and the one that a committed
change will bring, so that a plan is lawful before and after the change (R27). -/
def State.kJudged (s : State) (b : Nat) : Nat :=
  Nat.min (s.coef b).k (s.coefNext b).k

/-- R24 to R26 over the fabric, for given settings and exponents: the lowest slot of the first channel that fails. -/
def State.planFails (s : State) (pil : Nat → Pilot) (kOf : Nat → Nat) : Option Nat :=
  s.channels.findSome? fun qc =>
    if channelOk (qc.2.2.map fun n => (pil n, kOf (bundleOf n))) then none else qc.2.2.head?

/-- R112: the slots of each channel of quay `q` belong to one timing set. -/
def State.setsOk (s : State) (q : Nat) (setOf : Nat → Nat) : Bool :=
  s.channels.all fun qc =>
    if qc.1 = q then
      match qc.2.2 with
      | [] => true
      | n :: t => t.all fun m => decide (setOf m = setOf n)
    else true

end Sys2Proof.Machine
end

