-- ==== Sys2Proof/Machine/Sine.lean ====
section
/-! DEFINITION. The sine table of R76: T[j] = round(262,143 × sin((2j + 1) × π / 4,096)) for j from 0 to 1,023. -/
namespace Sys2Proof.Machine

/-- T[0] to T[31] (R76). -/
def sineRow0 : List Nat :=
  [201, 603, 1005, 1407, 1810, 2212, 2614, 3016,
   3418, 3820, 4222, 4624, 5026, 5428, 5830, 6232,
   6634, 7036, 7438, 7840, 8242, 8644, 9046, 9448,
   9850, 10252, 10653, 11055, 11457, 11859, 12260, 12662]

/-- T[32] to T[63] (R76). -/
def sineRow1 : List Nat :=
  [13064, 13465, 13867, 14268, 14670, 15071, 15473, 15874,
   16275, 16677, 17078, 17479, 17881, 18282, 18683, 19084,
   19485, 19886, 20287, 20688, 21089, 21489, 21890, 22291,
   22691, 23092, 23493, 23893, 24293, 24694, 25094, 25494]

/-- T[64] to T[95] (R76). -/
def sineRow2 : List Nat :=
  [25895, 26295, 26695, 27095, 27495, 27895, 28294, 28694,
   29094, 29493, 29893, 30292, 30692, 31091, 31490, 31890,
   32289, 32688, 33087, 33485, 33884, 34283, 34682, 35080,
   35479, 35877, 36275, 36673, 37072, 37470, 37868, 38265]

/-- T[96] to T[127] (R76). -/
def sineRow3 : List Nat :=
  [38663, 39061, 39459, 39856, 40253, 40651, 41048, 41445,
   41842, 42239, 42636, 43032, 43429, 43826, 44222, 44618,
   45015, 45411, 45807, 46203, 46598, 46994, 47390, 47785,
   48180, 48575, 48971, 49366, 49760, 50155, 50550, 50944]

/-- T[128] to T[159] (R76). -/
def sineRow4 : List Nat :=
  [51339, 51733, 52127, 52521, 52915, 53309, 53703, 54096,
   54489, 54883, 55276, 55669, 56062, 56455, 56847, 57240,
   57632, 58024, 58416, 58808, 59200, 59592, 59983, 60375,
   60766, 61157, 61548, 61939, 62329, 62720, 63110, 63500]

/-- T[160] to T[191] (R76). -/
def sineRow5 : List Nat :=
  [63891, 64280, 64670, 65060, 65449, 65839, 66228, 66617,
   67006, 67394, 67783, 68171, 68559, 68947, 69335, 69723,
   70111, 70498, 70885, 71272, 71659, 72046, 72432, 72819,
   73205, 73591, 73977, 74363, 74748, 75134, 75519, 75904]

/-- T[192] to T[223] (R76). -/
def sineRow6 : List Nat :=
  [76288, 76673, 77058, 77442, 77826, 78210, 78594, 78977,
   79360, 79744, 80127, 80509, 80892, 81274, 81657, 82039,
   82420, 82802, 83183, 83565, 83946, 84327, 84707, 85088,
   85468, 85848, 86228, 86607, 86987, 87366, 87745, 88124]

/-- T[224] to T[255] (R76). -/
def sineRow7 : List Nat :=
  [88503, 88881, 89259, 89637, 90015, 90393, 90770, 91147,
   91524, 91901, 92277, 92653, 93029, 93405, 93781, 94156,
   94532, 94906, 95281, 95656, 96030, 96404, 96778, 97151,
   97525, 97898, 98271, 98644, 99016, 99388, 99760, 100132]

/-- T[256] to T[287] (R76). -/
def sineRow8 : List Nat :=
  [100504, 100875, 101246, 101617, 101987, 102358, 102728, 103097,
   103467, 103836, 104205, 104574, 104943, 105311, 105679, 106047,
   106415, 106782, 107149, 107516, 107883, 108249, 108615, 108981,
   109347, 109712, 110077, 110442, 110807, 111171, 111535, 111899]

/-- T[288] to T[319] (R76). -/
def sineRow9 : List Nat :=
  [112262, 112626, 112989, 113351, 113714, 114076, 114438, 114799,
   115161, 115522, 115883, 116243, 116604, 116964, 117323, 117683,
   118042, 118401, 118760, 119118, 119476, 119834, 120191, 120548,
   120905, 121262, 121618, 121975, 122330, 122686, 123041, 123396]

/-- T[320] to T[351] (R76). -/
def sineRow10 : List Nat :=
  [123751, 124105, 124459, 124813, 125166, 125519, 125872, 126225,
   126577, 126929, 127281, 127632, 127983, 128334, 128685, 129035,
   129385, 129734, 130084, 130433, 130781, 131130, 131478, 131825,
   132173, 132520, 132867, 133213, 133559, 133905, 134251, 134596]

/-- T[352] to T[383] (R76). -/
def sineRow11 : List Nat :=
  [134941, 135285, 135630, 135974, 136317, 136661, 137004, 137346,
   137689, 138031, 138372, 138714, 139055, 139396, 139736, 140076,
   140416, 140755, 141094, 141433, 141771, 142109, 142447, 142785,
   143122, 143458, 143795, 144131, 144467, 144802, 145137, 145472]

/-- T[384] to T[415] (R76). -/
def sineRow12 : List Nat :=
  [145806, 146140, 146474, 146807, 147140, 147473, 147805, 148137,
   148468, 148800, 149131, 149461, 149791, 150121, 150451, 150780,
   151108, 151437, 151765, 152093, 152420, 152747, 153074, 153400,
   153726, 154051, 154376, 154701, 155026, 155350, 155674, 155997]

/-- T[416] to T[447] (R76). -/
def sineRow13 : List Nat :=
  [156320, 156642, 156965, 157287, 157608, 157929, 158250, 158570,
   158890, 159210, 159529, 159848, 160167, 160485, 160803, 161120,
   161437, 161754, 162070, 162386, 162701, 163016, 163331, 163646,
   163959, 164273, 164586, 164899, 165211, 165523, 165835, 166146]

/-- T[448] to T[479] (R76). -/
def sineRow14 : List Nat :=
  [166457, 166768, 167078, 167387, 167697, 168005, 168314, 168622,
   168930, 169237, 169544, 169850, 170157, 170462, 170767, 171072,
   171377, 171681, 171985, 172288, 172591, 172893, 173195, 173497,
   173798, 174099, 174399, 174700, 174999, 175298, 175597, 175895]

/-- T[480] to T[511] (R76). -/
def sineRow15 : List Nat :=
  [176193, 176491, 176788, 177085, 177381, 177677, 177972, 178267,
   178562, 178856, 179150, 179443, 179736, 180029, 180321, 180613,
   180904, 181195, 181485, 181775, 182064, 182354, 182642, 182930,
   183218, 183506, 183793, 184079, 184365, 184651, 184936, 185221]

/-- T[512] to T[543] (R76). -/
def sineRow16 : List Nat :=
  [185505, 185789, 186073, 186356, 186638, 186920, 187202, 187483,
   187764, 188045, 188325, 188604, 188883, 189162, 189440, 189718,
   189995, 190272, 190548, 190824, 191100, 191375, 191649, 191923,
   192197, 192470, 192743, 193015, 193287, 193559, 193830, 194100]

/-- T[544] to T[575] (R76). -/
def sineRow17 : List Nat :=
  [194370, 194640, 194909, 195178, 195446, 195713, 195981, 196248,
   196514, 196780, 197045, 197310, 197575, 197839, 198102, 198366,
   198628, 198890, 199152, 199413, 199674, 199935, 200194, 200454,
   200713, 200971, 201229, 201486, 201744, 202000, 202256, 202512]

/-- T[576] to T[607] (R76). -/
def sineRow18 : List Nat :=
  [202767, 203021, 203276, 203529, 203782, 204035, 204287, 204539,
   204790, 205041, 205291, 205541, 205791, 206039, 206288, 206536,
   206783, 207030, 207276, 207522, 207768, 208013, 208257, 208501,
   208745, 208988, 209230, 209472, 209714, 209955, 210195, 210435]

/-- T[608] to T[639] (R76). -/
def sineRow19 : List Nat :=
  [210675, 210914, 211153, 211391, 211628, 211865, 212102, 212338,
   212573, 212808, 213043, 213277, 213511, 213744, 213976, 214208,
   214440, 214671, 214901, 215131, 215361, 215590, 215819, 216047,
   216274, 216501, 216727, 216953, 217179, 217404, 217628, 217852]

/-- T[640] to T[671] (R76). -/
def sineRow20 : List Nat :=
  [218076, 218298, 218521, 218743, 218964, 219185, 219405, 219625,
   219844, 220063, 220281, 220499, 220716, 220933, 221149, 221365,
   221580, 221795, 222009, 222222, 222435, 222648, 222860, 223071,
   223282, 223493, 223703, 223912, 224121, 224329, 224537, 224744]

/-- T[672] to T[703] (R76). -/
def sineRow21 : List Nat :=
  [224951, 225157, 225363, 225568, 225772, 225977, 226180, 226383,
   226586, 226788, 226989, 227190, 227390, 227590, 227789, 227988,
   228186, 228384, 228581, 228778, 228974, 229169, 229364, 229559,
   229753, 229946, 230139, 230331, 230523, 230714, 230905, 231095]

/-- T[704] to T[735] (R76). -/
def sineRow22 : List Nat :=
  [231284, 231473, 231662, 231850, 232037, 232224, 232410, 232596,
   232781, 232966, 233150, 233333, 233516, 233699, 233881, 234062,
   234243, 234423, 234603, 234782, 234961, 235139, 235316, 235493,
   235669, 235845, 236020, 236195, 236369, 236543, 236716, 236888]

/-- T[736] to T[767] (R76). -/
def sineRow23 : List Nat :=
  [237060, 237232, 237403, 237573, 237742, 237912, 238080, 238248,
   238416, 238583, 238749, 238915, 239080, 239245, 239409, 239572,
   239735, 239897, 240059, 240221, 240381, 240541, 240701, 240860,
   241018, 241176, 241334, 241490, 241646, 241802, 241957, 242112]

/-- T[768] to T[799] (R76). -/
def sineRow24 : List Nat :=
  [242265, 242419, 242571, 242724, 242875, 243026, 243177, 243327,
   243476, 243625, 243773, 243920, 244067, 244214, 244360, 244505,
   244650, 244794, 244938, 245081, 245223, 245365, 245506, 245647,
   245787, 245926, 246065, 246204, 246341, 246479, 246615, 246751]

/-- T[800] to T[831] (R76). -/
def sineRow25 : List Nat :=
  [246887, 247022, 247156, 247290, 247423, 247555, 247687, 247819,
   247950, 248080, 248210, 248339, 248467, 248595, 248722, 248849,
   248975, 249101, 249226, 249350, 249474, 249597, 249720, 249842,
   249963, 250084, 250204, 250324, 250443, 250562, 250679, 250797]

/-- T[832] to T[863] (R76). -/
def sineRow26 : List Nat :=
  [250914, 251030, 251145, 251260, 251375, 251488, 251601, 251714,
   251826, 251937, 252048, 252159, 252268, 252377, 252486, 252593,
   252701, 252807, 252913, 253019, 253124, 253228, 253332, 253435,
   253537, 253639, 253740, 253841, 253941, 254041, 254140, 254238]

/-- T[864] to T[895] (R76). -/
def sineRow27 : List Nat :=
  [254336, 254433, 254529, 254625, 254721, 254815, 254909, 255003,
   255096, 255188, 255280, 255371, 255461, 255551, 255641, 255729,
   255817, 255905, 255992, 256078, 256164, 256249, 256333, 256417,
   256501, 256583, 256665, 256747, 256828, 256908, 256988, 257067]

/-- T[896] to T[927] (R76). -/
def sineRow28 : List Nat :=
  [257145, 257223, 257300, 257377, 257453, 257528, 257603, 257677,
   257751, 257824, 257896, 257968, 258039, 258110, 258180, 258249,
   258318, 258386, 258454, 258521, 258587, 258653, 258718, 258782,
   258846, 258909, 258972, 259034, 259095, 259156, 259217, 259276]

/-- T[928] to T[959] (R76). -/
def sineRow29 : List Nat :=
  [259335, 259394, 259451, 259508, 259565, 259621, 259676, 259731,
   259785, 259839, 259892, 259944, 259996, 260047, 260097, 260147,
   260196, 260245, 260293, 260340, 260387, 260433, 260479, 260524,
   260568, 260612, 260655, 260697, 260739, 260780, 260821, 260861]

/-- T[960] to T[991] (R76). -/
def sineRow30 : List Nat :=
  [260900, 260939, 260977, 261015, 261052, 261088, 261124, 261159,
   261194, 261227, 261261, 261293, 261325, 261357, 261388, 261418,
   261447, 261476, 261505, 261532, 261560, 261586, 261612, 261637,
   261662, 261686, 261709, 261732, 261754, 261776, 261797, 261817]

/-- T[992] to T[1023] (R76). -/
def sineRow31 : List Nat :=
  [261837, 261856, 261875, 261893, 261910, 261926, 261942, 261958,
   261973, 261987, 262000, 262013, 262026, 262037, 262049, 262059,
   262069, 262078, 262087, 262095, 262102, 262109, 262115, 262121,
   262126, 262130, 262134, 262137, 262139, 262141, 262142, 262143]

/-- The table by rows of 32. -/
def sineRows : List (List Nat) :=
  [sineRow0, sineRow1, sineRow2, sineRow3, sineRow4, sineRow5, sineRow6, sineRow7,
   sineRow8, sineRow9, sineRow10, sineRow11, sineRow12, sineRow13, sineRow14, sineRow15,
   sineRow16, sineRow17, sineRow18, sineRow19, sineRow20, sineRow21, sineRow22, sineRow23,
   sineRow24, sineRow25, sineRow26, sineRow27, sineRow28, sineRow29, sineRow30, sineRow31]

/-- T[j] (R76). -/
def sineT (j : Nat) : Nat := (sineRows.getD (j / 32) []).getD (j % 32) 0

end Sys2Proof.Machine
end

