-- ==== Sys2Proof/Machine/Drive.lean ====
section
/-! DEFINITION. Drive synthesis (03): waveforms, the modulators, the pilot copies, drive mode and level changes. Drive
values are exact rationals in codes of 2^−20 of reference full scale (R59); modulator quantities are whole numbers of
2^−22 (R64). -/
namespace Sys2Proof.Machine

/-! ### Waveforms (R75 to R79) -/

/-- R76: 262,143 × sin(2πφ/2^24). -/
def sinV (ph : Nat) : Int :=
  let quad := ph / 2 ^ 22 % 4
  let j0 := ph / 4096 % 1024
  let j := if quad % 2 = 1 then 1023 - j0 else j0
  if quad < 2 then (sineT j : Int) else -(sineT j : Int)

/-- R123: 262,143 × cos ψ, looked up as sin(ψ + 2^22). -/
def cosV (ph : Nat) : Int := sinV ((ph + 2 ^ 22) % 2 ^ 24)

/-- R75: the phase of a pilot in heater frame `n`. -/
def pilPhase (p : Pilot) (n : Nat) : Nat := (p.inc * n + p.phoff) % 2 ^ 24

/-- R78: the 18-bit grid of TRIANGLE and SAWTOOTH. -/
def grid18 (x : Rat) : Int := clampI (-131072) 131071 (rnEven x)

/-- R79: one shift of the noise register. -/
def lfsrShift (s : Nat) : Nat := (s * 2 + b2n (s.testBit 22 != s.testBit 17)) % 2 ^ 23

/-- R79: `n` shifts of the noise register. -/
def lfsrShifts (s : Nat) : Nat → Nat
  | 0 => s
  | n + 1 => lfsrShifts (lfsrShift s) n

/-- R79: the register as a load frame loads it, before its shifts. -/
def lfsrLoad (phoff slot : Nat) : Nat :=
  let v := (phoff % 2 ^ 23) ^^^ slot
  if v = 0 then 1 else v

/-- R76 to R79: the waveform value w of a setting at a phase, the noise register as given. -/
def waveW (p : Pilot) (ph lfsr : Nat) : Rat :=
  match p.mode with
  | 0 => ((sinV ph : Int) : Rat) / 262143
  | 1 =>
    if ph < 2 ^ 23 then ((grid18 ((ph : Rat) / 32 - 131072) : Int) : Rat) / 131072
    else ((grid18 (393216 - (ph : Rat) / 32) : Int) : Rat) / 131072
  | 2 => ((grid18 ((ph : Rat) / 64 - 131072) : Int) : Rat) / 131072
  | 3 => ((sgn 18 (lfsr / 32) : Int) : Rat) / 131072
  | _ => 0

/-- R77: the LSB of AMP in codes. -/
def pilLsb (scale : Nat) : Nat := if scale = 0 then 16 else 256

/-- R77: the pilot or generator term PL in codes. -/
def pilTerm (p : Pilot) (ph lfsr : Nat) : Rat := ((p.amp * pilLsb p.scale : Nat) : Rat) * waveW p ph lfsr

/-- R78: the generator modes. -/
def isGen (mode : Nat) : Bool := decide (1 ≤ mode) && decide (mode ≤ 3)

/-- R75, R336: the pilot phase of a setting for heater frame `n`, counted on from the running frame. -/
def State.phaseAt (s : State) (p : Pilot) (n : Nat) : Nat := pilPhase p (s.heaterNo n)

/-! ### The modulators (R62 to R70) -/

/-- One in the units of the error states (R64). -/
def modOne : Int := 4194304

/-- The modulator's running state over the samples of a frame (R63): e1, e2, the word so far, the samples' powers, and
whether a state was clamped. -/
structure ModSt where
  e1 : Int
  e2 : Int
  smp : Nat
  ys : List Int
  ovl : Bool
  deriving DecidableEq, Repr

/-- R63, R70: one sample. `a` is the arm's sign, `lo` and `hi` the powers that SMP = 0 and 1 select. -/
def modSample (a lo hi x : Int) (k : Nat) (m : ModSt) : ModSt :=
  let u := x - 2 * m.e1 + m.e2
  let on := decide (lo + hi ≤ 2 * (a * u))
  let y := if on then a * hi else a * lo
  let n1 := y - u
  let c1 := clampI (-modOne) modOne n1
  let c2 := clampI (-modOne) modOne m.e1
  ⟨c1, c2, m.smp + b2n on * 2 ^ k, m.ys ++ [y], m.ovl || decide (c1 ≠ n1) || decide (c2 ≠ m.e1)⟩

/-- R68: the energy, in samples, that the tile delivers in the first `len` ns of a frame's playing. -/
def playEnergy (ys : List Int) (len : Rat) : Rat :=
  let whole := (rfloor (len / 40)).toNat
  let full := sumI ys
  let part := sumI (ys.take (whole % 25))
  ((full * (whole / 25 : Nat) + part : Int) : Rat) + ((ys.getD (whole % 25) 0 : Int) : Rat) * (len / 40 - (whole : Rat))

/-- R67, R114: the end correction c_end for a frame that plays for `len` ns, for the exact input `x`. -/
def endCorr (ys : List Int) (x len : Rat) : Rat :=
  playEnergy ys len - playEnergy ys 1000 - x * (len - 1000) / 40

/-- R64: a number of 2^−22 fits a signed value with 2 integer bits. -/
def fitsState (x : Int) : Bool := decide (-2 * modOne ≤ x) && decide (x < 2 * modOne)

/-- What the modulator makes of one frame of one slot: the slot drive word (R73), the error states and what their rounding
leaves over, and whether a state was clamped (R63) or the value limited (R62). -/
structure ModOut where
  word : Nat
  e1 : Int
  e2 : Int
  res : Rat
  ovl : Bool
  lim : Bool
  deriving DecidableEq, Repr

/-- R62 to R70: a slot's samples for one heater frame, for the drive mode, half level, range gain and playing time. DESIGN
CHOICE (log 32): the spec gives no rounding for x = V / g_r or for c_end, while R64 holds the states in 2^−22. The recurrence
runs on x rounded to 2^−22, ties to even; what that takes from the 25 samples goes into the end correction, which is rounded
the same way, and what is left over (`res`) goes into the next frame's, so that R65 holds over any run. DEDUCED: the end
correction is added after the clamp of R63, which acts on it only where the sum leaves the format of R64 (R68 on a frame under
R37). -/
def modulate (three : Bool) (half gain : Nat) (len : Rat) (d : Drv) (e1 e2 : Int) (res : Rat) : ModOut :=
  let a : Int := if d.armB then -1 else 1
  let arm := b2n d.armB * 2 ^ 25
  if ((gain * 32 : Nat) : Int) < d.v.natAbs then
    ⟨2 ^ 25 - 1 + arm + b2n three * 2 ^ 26, e1, e2, res, false, true⟩
  else
    let xr : Rat := ((d.v * 2 ^ 17 : Int) : Rat) / (gain : Rat)
    let x := rnEven xr
    let h : Int := half * 64
    let pair := three && decide (h ≤ x.natAbs)
    let lo := if pair then h else 0
    let hi := if three && !pair then h else modOne
    let m := (List.range 25).foldl (fun m k => modSample a lo hi x k m) ⟨e1, e2, 0, [], false⟩
    let c := endCorr m.ys xr len - 25 * (xr - (x : Rat)) + res
    let n1 := m.e1 + rnEven c
    ⟨m.smp + arm + b2n pair * 2 ^ 26, if fitsState n1 then n1 else clampI (-modOne) modOne n1, m.e2, c - (rnEven c : Rat),
      m.ovl || !fitsState n1, false⟩

/-! ### What a tile's heaters carry (R74) -/

/-- R74: the current of a heater output during a sample. -/
inductive HeaterCurrent where
  | none | reduced | full
  deriving DecidableEq, Repr

/-- R74: the current that sample `k` of a slot drive word stands for, under the drive mode of the link frame's header. A word
with PAIR set under a single-level header is malformed and gives none. -/
def sampleCurrent (three : Bool) (word k : Nat) : HeaterCurrent :=
  match three, word.testBit 26, word.testBit k with
  | false, true, _ => .none
  | false, false, b => if b then .full else .none
  | true, false, b => if b then .reduced else .none
  | true, true, b => if b then .full else .reduced

/-- R74: the current of one heater output of a slot, arm B for `armB`, during sample `k`: the arm that bit 25 names carries
the sample, the other arm none. -/
def outputCurrent (three : Bool) (word : Nat) (armB : Bool) (k : Nat) : HeaterCurrent :=
  if word.testBit 25 = armB then sampleCurrent three word k else .none

/-- R87: the range that heater frame `n` of quay `q` is modulated for. -/
def State.rangeAt (s : State) (q n : Nat) : Nat :=
  match (s.quay q).rng with
  | some c => if c.acked && notBefore n c.frame then c.val else s.fgi F.QY_RNGSTAT_CUR q
  | none => s.fgi F.QY_RNGSTAT_CUR q

/-- Lane `q`. -/
def State.lane (s : State) (q : Nat) : Lane := s.lanes.getD q Lane.init

/-- The unit interval of quay `q` in 1/25 ns (R218). -/
def State.uiOf (s : State) (q : Nat) : Nat :=
  match (s.quay q).gen with
  | .el1 => 4
  | _ => 2

/-- R67, R114, R256: the playing time in ns of heater frame `n` of a slot, whose frame lasts `len` ns. -/
def State.playLen (s : State) (slot n len : Nat) : Rat :=
  (len : Rat) + 40 * (((s.tsetAt slot (add32 n 1)).strobe : Rat) - ((s.tsetAt slot n).strobe : Rat))
    + ((s.lane (quayOf slot)).shift : Rat) * (s.uiOf (quayOf slot) : Rat) / 25

/-- R89, R90: the changes of mode, half level and gain of quay `q` that heater frame `n` brings in. -/
def quayCommit (q n : Nat) (s : State) : State :=
  let due := fun (p : Option AtFrame) => match p with
    | some a => notBefore n a.frame
    | none => false
  let qs := s.quay q
  let s := match qs.modeNext with
    | some a =>
      if due qs.modeNext then
        let s := if s.fgi F.QY_DRVSTAT_MODEACT q ≠ a.val then
            (s.mapSlots fun n x => if quayOf n = q then { x with e1 := 0, e2 := 0, eRes := 0 } else x).fsi F.QY_DRVSTAT_MODEACT q a.val
          else s
        s.modQuay q fun x => { x with modeNext := none }
      else s
    | none => s
  let s := match qs.halfNext with
    | some a => if due qs.halfNext then s.modQuay q fun x => { x with half := a.val, halfNext := none } else s
    | none => s
  (List.range 4).foldl (fun s r =>
    match qs.gainNext.getD r none with
    | some a =>
      if due (some a) then
        s.modQuay q fun x => { x with gain := setAt x.gain r a.val, gainNext := setAt x.gainNext r none }
      else s
    | none => s) s

/-- R133: a bit row of limits towards one arm, moved on by a frame. -/
def histPush (k : Nat) (row : Nat) (b : Bool) : Nat := (row * 2 + b2n b) % 2 ^ k

/-- The frames a history keeps: the longest interval and the frames in hand (R45). -/
def histLen : Nat := 1032

/-- R49, R62 to R64, R73: heater frame `n` of one slot in service, modulated. A late slot repeats its last word, with PAIR 0
under single-level drive, and keeps its error states but where they begin again with this frame. -/
def slotModulate (slot n len : Nat) (s : State) : State :=
  let q := quayOf slot
  let x := s.slot slot
  let fresh := decide (n ∈ (s.quay q).eReset)
  let three := s.flagi F.QY_DRVSTAT_MODEACT q
  if x.late then
    s.modSlot slot fun x =>
      { x with
        late := false
        e1 := if fresh then 0 else x.e1
        e2 := if fresh then 0 else x.e2
        eRes := if fresh then 0 else x.eRes
        word := if three then x.word else x.word % 2 ^ 26
        limP := histPush histLen x.limP (x.limP.testBit 0)
        limN := histPush histLen x.limN (x.limN.testBit 0) }
  else
    let qs := s.quay q
    let gain := qs.gain.getD (s.rangeAt q n) 0x8000
    let m := modulate three qs.half gain (s.playLen slot n len) x.del (if fresh then 0 else x.e1)
      (if fresh then 0 else x.e2) (if fresh then 0 else x.eRes)
    let lim := m.lim || x.del.sat
    let s := s.modSlot slot fun x =>
      { x with
        e1 := m.e1
        e2 := m.e2
        eRes := m.res
        word := m.word
        used := x.del
        limP := histPush histLen x.limP (lim && decide (0 < x.del.v))
        limN := histPush histLen x.limN (lim && decide (x.del.v < 0)) }
    let s := if m.ovl then s.bumpi F.QY_MODOVL q else s
    if m.lim then s.bumpi F.QY_RNGSAT q else s

/-- R89: the lane of quay `q` is in RUN (R244). -/
def State.laneRun (s : State) (q : Nat) : Bool := decide (s.fgi F.QY_LNKSTAT_STATE q = 6)

/-- The slot that QY.SNPSEL selects, whose drive code QY.SNPCODE shows (R61). -/
def State.snapSlot (s : State) (q : Nat) : Slot := s.slot (384 * q + Nat.min 383 (s.fgi F.QY_SNPSEL_CHAN q))

/-- QY.SNPCODE.FRAME (R61): the last modulated heater frame. -/
def snapCode (q n : Nat) (s : State) : State := s.fsi F.QY_SNPCODE_FRAME q (s.heaterNo n)

/-- R39, R63: each quay in RUN modulates heater frame `n`, whose frame lasts `len` ns. -/
def modulateAll (n len : Nat) (s : State) : State :=
  (List.range 32).foldl (fun s q =>
    let s := quayCommit q n s
    if s.laneRun q then
      let slots := s.fab.slots.filterMap fun e => if quayOf e.1 = q ∧ s.works e.1 = true then some e.1 else none
      snapCode q n (slots.foldl (fun s k => slotModulate k n len s) s)
    else s) s

/-! ### The statistic clear of the drive path -/

/-- The statistic clear of QY.DRVCTRL. -/
def qyDrvStatclr (q : Nat) (s : State) : State :=
  [F.QY_DRVSAT, F.QY_RNGSAT, F.QY_MODOVL].foldl (fun s f => s.fresetI f q) s

/-- The meaning of QY_DRV_STATCLR (R4). -/
def execQyDrvStatclr (q : Fin 32) (s : State) : Out := .next (qyDrvStatclr q.val s)

/-! ### Drive mode and levels (R69, R89, R90) -/

/-- R69: quay `q` may run three-level mode: its tile is EL2 and declares the capability. -/
def State.threeOk (s : State) (q : Nat) : Bool :=
  decide (s.fgi F.QY_LNKSTAT_TGEN q = 2) && s.flagi F.QY_LNKSTAT_THREE q

/-- R69, R89: the mode that QY.DRVCFG.MODE asks for, judged and set for heater frame f + 2. -/
def modeRequest (q : Nat) (s : State) : State :=
  let want := s.fgi F.QY_DRVCFG_MODE q
  let grant := if want = 1 ∧ s.threeOk q = true then 1 else 0
  let s := if want = 1 ∧ grant = 0 then s.fsi F.QY_DRVSTAT_MODEDEN q 1 else s
  s.modQuay q fun x => { x with modeNext := some ⟨add32 s.frame 2, grant⟩ }

/-- A write of QY.DRVCFG (R89). MODE and SSLEN are RWL: a locked write changes nothing (R5). -/
def drvcfgWrite (q : Nat) (v : Word) (s : State) : State :=
  if s.locked then s
  else
    modeRequest q ((s.fsi F.QY_DRVCFG_MODE q v.toNat).fsi F.QY_DRVCFG_SSLEN q (v.toNat / 256))

/-- The meaning of DRVCFG_MODE_WRITE (R89). -/
def execDrvcfgModeWrite (q : Fin 32) (v : Word) (s : State) : Out := .next (drvcfgWrite q.val v s)

/-- R90: a write of QY.HALFLVL. -/
def halflvlWrite (q : Nat) (v : Word) (s : State) : State :=
  let l := v.toNat % 65536
  if 0x7333 ≤ l ∧ l ≤ 0x8CCC then
    (s.fsi F.QY_HALFLVL_LEVEL q l).modQuay q fun x => { x with halfNext := some ⟨add32 s.frame 2, l⟩ }
  else s.fsi F.QY_DRVSTAT_LVLERR q 1

/-- The meaning of HALFLVL_WRITE (R90). -/
def execHalflvlWrite (q : Fin 32) (v : Word) (s : State) : Out := .next (halflvlWrite q.val v s)

/-- R90: a write of QY.RNGGAINr; the gain of range 0 is read-only. -/
def rnggainWrite (q r : Nat) (v : Word) (s : State) : State :=
  let g := v.toNat % 65536
  if r = 0 then s
  else if 1 ≤ g ∧ g ≤ 0x8000 then
    (s.fsi F.QY_RNGGAINr_GAIN (4 * q + r) g).modQuay q fun x =>
      { x with gainNext := setAt x.gainNext r (some ⟨add32 s.frame 2, g⟩) }
  else s.fsi F.QY_DRVSTAT_LVLERR q 1

/-- The meaning of RNGGAIN_WRITE (R90). -/
def execRnggainWrite (q : Fin 32) (r : Fin 4) (v : Word) (s : State) : Out := .next (rnggainWrite q.val r.val v s)

/-! ### The pilot copies (R80, R81) -/

/-- The slot that PIL.SEL names; values above 12,287 act as 12,287. -/
def State.pilSel (s : State) : Nat := Nat.min 12287 (s.fg F.PIL_SEL_SLOT)

/-- R80: PIL.ACC.RD loads the SCFG registers from the copy that ACTSEL chooses. -/
def pilAccRd (s : State) : State :=
  let x := s.slot s.pilSel
  let p := if s.flag F.PIL_ACC_ACTSEL then x.pil else x.pilStg
  ((((s.fs F.PIL_SCFG0_INC p.inc).fs F.PIL_SCFG0_MODE p.mode).fs F.PIL_SCFG0_SCALE p.scale).fs F.PIL_SCFG1_PHOFF
    p.phoff).fs F.PIL_SCFG2_AMP p.amp

/-- The meaning of PIL_ACC_RD (R80). -/
def execPilAccRd (s : State) : Out := .next (pilAccRd s)

/-- The setting that the SCFG registers hold. -/
def State.scfg (s : State) : Pilot :=
  ⟨s.fg F.PIL_SCFG0_INC, s.fg F.PIL_SCFG1_PHOFF, s.fg F.PIL_SCFG0_MODE, s.fg F.PIL_SCFG2_AMP, s.fg F.PIL_SCFG0_SCALE⟩

/-- R80, R81: PIL.ACC.WR writes the SCFG registers into staging. DESIGN CHOICE (log 65): while BUSY it is ignored and sets WERR,
as R81 says of writes to PIL.SCFG0 to SCFG2 and of APPLY; R81 does not name it. -/
def pilAccWr (s : State) : State :=
  if s.flag F.PIL_STAT_BUSY then s.fs F.PIL_STAT_WERR 1
  else s.modSlot s.pilSel fun x => { x with pilStg := s.scfg }

/-- The meaning of PIL_ACC_WR (R80). -/
def execPilAccWr (s : State) : Out := .next (pilAccWr s)

/-- The active copy copied into staging, with BUSY set for the copy (R80). -/
def pilToStaging (s : State) : State :=
  (s.mapSlots fun _ x => { x with pilStg := x.pil }).fs F.PIL_STAT_BUSY 1

/-- R80: PIL.CTRL.REVERT copies the active copy into staging. DESIGN CHOICE (log 65): while BUSY it is ignored and sets WERR, as
R81 says of writes to PIL.SCFG0 to SCFG2 and of APPLY; R81 does not name it. -/
def pilRevert (s : State) : State := if s.flag F.PIL_STAT_BUSY then s.fs F.PIL_STAT_WERR 1 else pilToStaging s

/-- The meaning of PIL_REVERT (R80). -/
def execPilRevert (s : State) : Out := .next (pilRevert s)

/-- R80: the first slot whose change its bundle's state forbids, with the reason: 2 CLOSED, 3 GENSTATE. -/
def pilStateFail (s : State) : Option (Nat × Nat) :=
  s.fab.slots.findSome? fun e =>
    if e.2.pil = e.2.pilStg then none
    else
      match (s.bun (bundleOf e.1)).st with
      | .closed => some (2, e.1)
      | .hold =>
        if e.2.pil.mode ≠ e.2.pilStg.mode ∧ (isGen e.2.pil.mode = true ∨ isGen e.2.pilStg.mode = true) then
          some (3, e.1)
        else none
      | _ => none

/-- R80, R81: PIL.CTRL.APPLY. DESIGN CHOICE (log 65): of several checks that fail the plan's is recorded before those of the
bundle states, and of a slot in a CLOSED bundle CLOSED, also where it changes a generator mode. The active copy changes from
heater frame f + 3 + `delay`: the engines compose two frames ahead (R39), and R80 allows four (log 8). -/
def pilApply (delay : Nat) (s : State) : State :=
  if s.flag F.PIL_STAT_BUSY then s.fs F.PIL_STAT_WERR 1
  else
    match s.planFails (fun n => (s.slot n).pilStg) s.kJudged with
    | some n => ((s.fs F.PIL_STAT_REFUSED 1).fs F.PIL_STAT_REASON 1).fs F.PIL_BADSLOT_SLOT n
    | none =>
      match pilStateFail s with
      | some r => ((s.fs F.PIL_STAT_REFUSED 1).fs F.PIL_STAT_REASON r.1).fs F.PIL_BADSLOT_SLOT r.2
      | none =>
        let at' := add32 s.frame (delay + 3)
        ((s.fs F.PIL_APPLYF_FRAME at').fs F.PIL_STAT_BUSY 1).modFab fun x => { x with pilApply := some at' }

/-- The meaning of PIL_APPLY (R80). -/
def execPilApply (delay : Fin 2) (s : State) : Out := .next (pilApply delay.val s)

/-- R79: a slot that a pilot apply leaves in NOISE mode, having changed its mode or PHOFF, is loaded afresh at the first
heater frame of the new copy. -/
def noiseLoads (x : Slot) : Bool := decide (x.pilStg.mode = 3) && (decide (x.pil.mode ≠ 3) || decide (x.pil.phoff ≠ x.pilStg.phoff))

/-- The pilot setting of a slot that holds in heater frame `n`. -/
def State.pilAt (s : State) (slot n : Nat) : Pilot :=
  match s.fab.pilFrom with
  | some f => if notBefore n f then (s.slot slot).pil else (s.slot slot).pilWas
  | none => (s.slot slot).pil

/-- R80: the staged copy becomes active for the heater frame that the coming frame composes. -/
def pilTakeEffect (s : State) : State :=
  match s.fab.pilApply with
  | none => s
  | some f =>
    if notBefore (add32 s.coming 2) f then
      pilToStaging ((s.mapSlots fun _ x =>
        { x with pilWas := x.pil, pil := x.pilStg, noiseOn := x.noiseOn && !noiseLoads x && decide (x.pilStg.mode = 3) }).modFab
          fun x => { x with pilApply := none, pilFrom := some f })
    else s

/-- The meaning of PILOT_APPLY_TAKE_EFFECT (R80). -/
def execPilotApplyTakeEffect (s : State) : Out := .next (pilTakeEffect s)

/-- R80: the copy into staging is complete. -/
def pilCopyDone (s : State) : State := if s.fab.pilApply = none then s.fs F.PIL_STAT_BUSY 0 else s

/-- The meaning of PIL_COPY_DONE (R80). -/
def execPilCopyDone (s : State) : Out := .next (pilCopyDone s)

end Sys2Proof.Machine
end

