-- ==== Sys2Proof/Machine/Segments.lean ====
section
/-! DEFINITION. Transitions and the streaming of segments (04): steps and sub-steps, positions, underruns, chunk
fetches and event marks. Powers are exact rationals in codes. -/
namespace Sys2Proof.Machine

/-- R117: L(φ), interpolated from a 33-point table, in codes. -/
def linAt (lin : List Int) (phi : Nat) : Rat :=
  let j := phi / 2048
  let r := phi % 2048
  let a := lin.getD j 0
  let b := lin.getD (j + 1) 0
  ((a * 2048 + (b - a) * (r : Int) : Int) : Rat) / 2048

/-- R117: L of a setpoint of slot `n`. -/
def State.lOf (s : State) (n phi : Nat) : Rat := linAt (s.slotCoef n).lin phi

/-- LEN of a segment (R95). -/
def Segment.len (g : Segment) : Nat := g.samples.length

/-- The number of chunks in a sub-step (R103). -/
def Segment.chunks (g : Segment) : Nat := (g.len + 15) / 16

/-- Sample `k` of a segment as w (R96). -/
def Segment.w (g : Segment) (k : Nat) : Rat := ((g.samples.getD k 0 : Int) : Rat) / 8192

/-- R93, R94: the planned last frame of a transition. -/
def Tr.planned (t : Tr) : Nat := sub32 (add32 t.n0 (t.m * t.seg.len)) 1

/-- The transition has begun by heater frame `n` and was not cancelled. -/
def Tr.begun (t : Tr) (n : Nat) : Bool :=
  t.fixed && notBefore n t.n0 && decide (t.fin ≠ .cancelled) && decide (t.fin ≠ .notRun)

/-- Heater frame `n` lies between the start and the last frame of the transition. -/
def Tr.covers (t : Tr) (n : Nat) : Bool :=
  t.begun n && (match t.ended with
    | some e => notBefore e n
    | none => true)

/-- The transition that rules a slot's setpoint in heater frame `n`: the latest that has begun (R92). -/
def Slot.trAt (x : Slot) (n : Nat) : Option Tr :=
  x.trs.foldl (fun b t =>
    if t.begun n then
      match b with
      | some o => if later o.n0 t.n0 then some o else some t
      | none => some t
    else b) none

/-- R92: the setpoint and lock reference of a slot in force in heater frame `n`. -/
def Slot.setAt (x : Slot) (n : Nat) : Nat × Int :=
  match x.trAt n with
  | some t => (t.phi, t.ref)
  | none => (x.phi, x.ref)

/-- SEG.BSTEP.STEPMAX of a bundle. -/
def State.stepMax (s : State) (b : Nat) : Nat := s.fgi F.SEG_BSTEP_STEPMAX b

/-- The least whole number not below a non-negative rational. -/
def rceil (x : Rat) : Nat := (-(rfloor (-x))).toNat

/-- R109, R110: the number of sub-steps before the cap. -/
def subSteps (dP : Rat) (stepmax : Nat) : Nat :=
  if stepmax = 0 then 1 else Nat.max 1 (rceil (rabs dP / ((stepmax * 1024 : Nat) : Rat)))

/-- R93: TR of the last frame composed for a transition. -/
def Tr.term (t : Tr) : Rat := t.dP * (t.u - 1)

/-- R107: the drive at which an ABORT entry takes over: L and TR of the heater frame before. -/
def State.abortFrom (s : State) (slot n : Nat) : Rat :=
  let x := s.slot slot
  let p := sub32 n 1
  let l := s.lOf slot (x.setAt p).1
  match x.trAt p with
  | some t => if t.covers p then l + t.term else l
  | none => l

/-- Every transition of a slot changed by a function. -/
def State.mapTrs (s : State) (slot : Nat) (f : Tr → Tr) : State :=
  s.modSlot slot fun x => { x with trs := x.trs.map f }

/-- The transition is the one of this record entry. One whose end has reached its record belongs to it no more (R173). -/
def Tr.isOf (t : Tr) (recIdx entry : Nat) : Bool :=
  decide (t.recIdx = recIdx) && decide (t.entry = entry) && !t.told

/-- R107: how an ABORT entry that starts on heater frame `n` leaves an earlier transition. -/
def abortCut (n : Nat) (t : Tr) : Tr :=
  if t.fin = .cancelled ∨ t.fin = .notRun then t
  else if notBefore t.n0 n = true ∨ t.fixed = false then { t with fin := .cancelled, ended := some (sub32 n 1) }
  else
    match t.ended with
    | some e => if later e (sub32 n 1) then { t with fin := .cut, ended := some (sub32 n 1) } else t
    | none => { t with fin := .cut, ended := some (sub32 n 1) }

/-- R107: the transitions that an ABORT on heater frame `n` ends or cancels. -/
def abortHits (n : Nat) (t : Tr) : Bool := decide (abortCut n t ≠ t)

/-- R107: the transitions of a slot with those admitted before an ABORT entry left as it leaves them; the list is in the order
of admission. -/
def abortEarlier (n r e : Nat) : List Tr → List Tr
  | [] => []
  | t :: l => if t.isOf r e then t :: l else abortCut n t :: abortEarlier n r e l

/-- R107: the number of transitions that an ABORT entry ends or cancels. -/
def abortCount (n r e : Nat) (l : List Tr) : Nat := (l.takeWhile fun t => !(t.isOf r e)).countP (abortHits n)

/-- R108: a transition still running past its planned end when another starts on heater frame `n`. -/
def lateCut (n : Nat) (t : Tr) : Tr :=
  if t.begun n && decide (t.ended = none) then { t with fin := .late, ended := some (sub32 n 1) } else t

/-- R91, R107 to R110: a transition starts, its step and sub-steps being fixed in engine frame n0 − 2. What an ABORT entry ends
is counted in its start frame (truncTick). DESIGN CHOICE (log 65): an ABORT that meets a transition running late under R105 cuts
it as R107 says; R108, which would end it as DONE, is for the other classes. -/
def trStart (slot : Nat) (t : Tr) (s : State) : State :=
  let n := t.n0
  let pFrom := if t.abort then s.abortFrom slot n else s.lOf slot ((s.slot slot).setAt (sub32 n 1)).1
  let dP := s.lOf slot t.phi - pFrom
  let m := subSteps dP (s.stepMax (bundleOf slot))
  let hits := if t.abort then abortCount n t.recIdx t.entry (s.slot slot).trs else 0
  let others := (s.slot slot).trs.filter fun o => !(o.isOf t.recIdx t.entry)
  let s :=
    if t.abort then s.modSlot slot fun x => { x with trs := abortEarlier n t.recIdx t.entry x.trs }
    else
      (s.add F.SEG_LATEEND (others.countP fun o => decide (lateCut n o ≠ o))).mapTrs slot fun o =>
        if o.isOf t.recIdx t.entry then o else lateCut n o
  let s := if 1 < m then s.bump F.SEG_SPLITCNT else s
  let s := if 16 < m then s.bump F.SEG_STEPCAP else s
  s.mapTrs slot fun o =>
    if o.isOf t.recIdx t.entry then { o with fixed := true, m := Nat.min m 16, dP := dP, u := 0, hits := hits } else o

/-- R107: SEG.TRUNCCNT moves in the start frame `f` of each ABORT entry that runs (the ledger of the worked example). One that
another of the same start frame cancelled has ended what it ended. -/
def truncTick (f : Nat) (s : State) : State :=
  s.add F.SEG_TRUNCCNT ((s.fab.slots.map fun e =>
    (e.2.trs.map fun t => if t.abort && t.fixed && decide (t.n0 = f) && decide (t.fin ≠ .notRun) then t.hits else 0).sum).sum)

/-- The number of a chunk within a transition: sub-step by sub-step. -/
def Tr.chunkNo (t : Tr) (k : Nat) : Nat := k / t.seg.len * t.seg.chunks + k % t.seg.len / 16

/-- R103: the sample of frame index `k` is in the stream buffer. A STEP streams nothing (R158). -/
def Tr.has (t : Tr) (k : Nat) : Bool := decide (t.key = none) || decide (t.chunkNo k ∈ t.got)

/-- R93: the position that frame index `k` gives. -/
def Tr.posAt (t : Tr) (k : Nat) : Rat :=
  (((k / t.seg.len : Nat) : Rat) + t.seg.w (k % t.seg.len)) / ((t.m : Nat) : Rat)

/-- R93, R104, R105: a running transition composed for heater frame `n`, and whether the frame is an underrun. DESIGN CHOICE
(log 65): a frame past the planned last frame that repeats the position for want of the last sample (R105) counts as an
underrun as well; R104 speaks of a sample not in the stream buffer when its own heater frame is composed. -/
def trCompose (n : Nat) (t : Tr) : Tr × Bool :=
  let k := sub32 n t.n0
  let full := t.m * t.seg.len
  if k < full then
    if t.has k then
      if k + 1 = full then ({ t with u := t.posAt k, lastUsed := true, ended := some n, fin := .done }, false)
      else ({ t with u := t.posAt k }, false)
    else (t, true)
  else if t.has (full - 1) then
    ({ t with u := t.posAt (full - 1), lastUsed := true, ended := some n, fin := .late }, false)
  else (t, true)

/-- R105: heater frame `n` lies past N + 16 and the last sample has not been used. -/
def Tr.overdue (t : Tr) (n : Nat) : Bool :=
  t.fixed && decide (t.ended = none) && later n (add32 t.planned 16)

/-- R105: a transition ends at N + 16 without its last sample. -/
def trLateEnd (t : Tr) : Tr := { t with ended := some (add32 t.planned 16), fin := .late }

/-- R105: the overdue transitions of a slot end before heater frame `n`. -/
def lateEndSlot (slot n : Nat) (s : State) : State :=
  let c := (s.slot slot).trs.countP fun t => t.overdue n
  if c = 0 then s
  else (s.add F.SEG_LATEEND c).mapTrs slot fun t => if t.overdue n then trLateEnd t else t

/-- The meaning of TRANSITION_LATE_END (R105): at the tick from which heater frame N + 17 is composed. -/
def execTransitionLateEnd (slot : Fin 12288) (s : State) : Out :=
  .next (lateEndSlot slot.val (add32 s.coming 2) s)

/-! ### Chunk fetches (R103) -/

/-- R103: the chunk of a transition that heater frame `n` is the first to need. -/
def Tr.needs (t : Tr) (n : Nat) : Option Nat :=
  match t.key with
  | none => none
  | some _ =>
    let k := sub32 n t.n0
    if notBefore n t.n0 && decide (t.ended = none) && decide (k < Nat.max t.m 1 * t.seg.len)
        && decide (k % t.seg.len % 16 = 0) then some (t.chunkNo k)
    else none

/-- The object, by its address, and the chunk that a chunk number of a transition stands for. -/
def Tr.libChunk (t : Tr) (c : Nat) : Nat × Nat := (t.base, c % t.seg.chunks)

/-- R103: the requests of engine frame f for heater frame `n` = f + 3. -/
def chunkRequests (n : Nat) (s : State) : State :=
  let s := s.mapSlots fun _ x =>
    if x.trs.any (fun t => (t.needs n).isSome) then
      { x with trs := x.trs.map fun t =>
          match t.needs n with
          | some c => { t with want := t.want ++ [c] }
          | none => t }
    else x
  let all := (s.fab.slots.flatMap fun e => e.2.trs.flatMap fun t => t.want.map t.libChunk).dedup
  let fresh := all.filter fun c => decide (c ∉ s.fab.fetchQ)
  let q := s.fab.fetchQ.filter (fun c => decide (c ∈ all)) ++ fresh
  (s.mark F.SEG_FETCHHWM_FETCHES 0 q.length).modFab fun x => { x with fetchQ := q }

/-- The address of a chunk, the 32 bytes after the header of its object and the chunks before it (R96). -/
def chunkAddr (c : Nat × Nat) : Nat := c.1 + 32 + 32 * c.2

/-- R469: the chunk holds an uncorrectable word. -/
def State.chunkBad (s : State) (c : Nat × Nat) : Bool := s.beatBad (chunkAddr c)

/-- R103: the fetches that complete in a frame, in the order of their requests: up to 900 from each of the eight banks, which is
at least 900 however the banks are spread and 7,200 when they spread evenly. `used` counts those of each bank. -/
def fetchesOf (used : Tbl Nat) : List (Nat × Nat) → List (Nat × Nat)
  | [] => []
  | c :: l =>
    let k := chunkAddr c / 32 % 8
    if tget 0 used k < 900 then c :: fetchesOf (tset 0 used k (tget 0 used k + 1)) l else fetchesOf used l

/-- R103: the fetches that complete in this frame. -/
def State.fetches (s : State) : List (Nat × Nat) := fetchesOf [] s.fab.fetchQ

/-- R103, R469: fetches complete, each delivered to every slot that needs it. A chunk with an uncorrectable word has not arrived
and is fetched again. -/
def chunkDeliver (got : List (Nat × Nat)) (s : State) : State :=
  let done := got.filter fun c => !s.chunkBad c
  let s := s.mapSlots fun _ x =>
    if x.trs.any (fun t => decide (t.want ≠ [])) then
      { x with trs := x.trs.map fun t =>
          { t with
            got := t.got ++ t.want.filter fun c => decide (t.libChunk c ∈ done)
            want := t.want.filter fun c => decide (t.libChunk c ∉ done) } }
    else x
  s.modFab fun x => { x with fetchQ := x.fetchQ.filter fun c => decide (c ∉ done) }

/-! ### Segment starts (R115, R145) -/

/-- A sub-step of the transition starts on heater frame `n`. -/
def Tr.startsAt (t : Tr) (n : Nat) : Bool :=
  t.covers n && decide (sub32 n t.n0 % t.seg.len = 0) && decide (sub32 n t.n0 < t.m * t.seg.len)

/-- R115: the pulse of event pin `n` for heater frame `f`, if a marked segment starts there. -/
def segMark (s : State) (f n : Nat) : Option EvtPulse :=
  let q := s.fgi F.SEG_MARKn_QUAY n
  let set := s.fgi F.SEG_MARKn_TSET n
  let hit := s.fab.slots.any fun e =>
    decide (quayOf e.1 = q) && decide (tget 0 (s.quay q).tasg (chanOf e.1) = set)
      && e.2.trs.any (fun t => t.startsAt f && (t.seg.mark || !s.flagi F.SEG_MARKn_MARKED n))
  if s.fgi F.EVT_CFGn_MODE n = 4 ∧ s.flagi F.SEG_MARKn_EN n = true ∧ hit = true then
    some ⟨n, 10 * ((s.quay q).tsets.getD set ⟨0, 0, 0⟩).strobe + s.fgi F.SEG_MARKn_DELAY n,
      Nat.max 1 (s.fgi F.SEG_MARKn_WIDTH n)⟩
  else none

/-- R115: the segment-mark pulses of heater frame `f`. -/
def segMarks (s : State) (f : Nat) : List EvtPulse := (List.range 4).filterMap (segMark s f)

/-! ### Library use and the statistic clear -/

/-- The 32-byte units a segment object occupies (R95). -/
def Segment.units (g : Segment) : Nat := if g.len = 0 then 0 else 1 + g.chunks

/-- SEG.LIBUSE.BEATS: the library and the samples kept under R100. -/
def libUse (s : State) : Nat :=
  let kept := s.pen.allocs.map fun a =>
    match a.tag with
    | .kept _ g => g.units
    | _ => 0
  (s.fab.segs.map (fun e => e.2.units)).sum + kept.sum

/-- The statistic clear of SEG. -/
def segStatclr (s : State) : State :=
  (s.fresetAll [F.SEG_UNDCNT, F.SEG_LATEEND, F.SEG_DEFERCNT, F.SEG_TRUNCCNT, F.SEG_SPLITCNT, F.SEG_STEPCAP,
    F.SEG_FETCHHWM_FETCHES]).noteCleared 1

/-- The meaning of SEG_STATCLR (R4). -/
def execSegStatclr (s : State) : Out := .next (segStatclr s)

end Sys2Proof.Machine
end

