-- ==== Sys2Proof/Machine/Engine.lean ====
section
/-! DEFINITION. The mooring engines' work of one frame (05, 02): demodulation, the control law in block floating point,
composition, the cycle charge, and what a late bundle does instead. Loop quantities are exact rationals, held as the
mantissas R134 stores. -/
namespace Sys2Proof.Machine

/-! ### Block floating point (R134) -/

/-- R134: the value of a mantissa under an exponent. -/
def bfVal (m : Int) (e : Nat) : Rat := ((m : Int) : Rat) * rpow2 ((e : Int) - 24)

/-- R134: the mantissa of a value under an exponent, before saturation. -/
def bfMant (x : Rat) (e : Nat) : Int := rnEven (x * rpow2 (24 - (e : Int)))

/-- R134: a value fits a 20-bit mantissa under an exponent. -/
def bfFits (e : Nat) (x : Rat) : Bool := decide (-524288 ≤ bfMant x e) && decide (bfMant x e ≤ 524287)

/-- R134: the smallest exponent at which every value fits, or 63. -/
def bfExp (xs : List Rat) : Nat := ((List.range 64).find? fun e => xs.all (bfFits e)).getD 63

/-- R134: a value stored under an exponent, saturated where it does not fit. -/
def bfStore (e : Nat) (x : Rat) : Int := satS 20 (bfMant x e)

/-! ### What a frame counts -/

/-- What the running frame's engine work on bundle `b` counts, which takes effect once the bundle has been handed over. -/
def State.ev (s : State) (b : Nat) (e : EngEv) : State :=
  s.modFab fun x => { x with snap := x.snap.map fun n => { n with evs := n.evs ++ [(b, e)] } }

/-- The counter that an engine event moves for a bundle. -/
def EngEv.counter : EngEv → Nat → Fld × Nat
  | .skipGap, _ => (F.MOR_SKIPGAP, 0)
  | .clamp, _ => (F.MOR_CLAMPCNT, 0)
  | .fold, _ => (F.MOR_FOLDCNT, 0)
  | .bfsat, _ => (F.MOR_BFSAT, 0)
  | .drvsat, b => (F.QY_DRVSAT, quayOfBundle b)
  | .underrun _, _ => (F.SEG_UNDCNT, 0)

/-! ### Slot loop values -/

/-- LP of a slot in codes. -/
def State.lpOf (s : State) (n : Nat) : Rat := bfVal (s.slot n).lp.lpM (s.bun (bundleOf n)).e3

/-- I of a slot in codes. -/
def State.iOf (s : State) (n : Nat) : Rat := bfVal (s.slot n).lp.iM (s.bun (bundleOf n)).e2

/-- The last e of a slot in codes. -/
def State.eOf (s : State) (n : Nat) : Rat := bfVal (s.slot n).lp.eM (s.bun (bundleOf n)).e1

/-- H in codes. -/
def Loop.hold (l : Loop) : Rat := ((l.h : Int) : Rat) / 256

/-- A value in codes as H holds it, to the nearest 2^−8 code (log 9). -/
def toHold (x : Rat) : Int := satS 32 (rnEven (x * 256))

/-- The loop part of a slot changed by a function. -/
def State.modLoop (s : State) (n : Nat) (f : Loop → Loop) : State :=
  s.modSlot n fun x => { x with lp := f x.lp }

/-- The fabric of the running engine frame as it stood before the engines' work, changed by a function: what happens to a
slot or bundle between the tick and the deadline happens to the state that a late bundle falls back to as well (R49). -/
def State.inSnap (s : State) (g : State → State) : State :=
  match s.fab.snap with
  | some n =>
    let t := g (s.modFab fun x => { x with slots := n.slots, bundles := n.bundles })
    s.modFab fun x => { x with snap := some { n with slots := t.fab.slots, bundles := t.fab.bundles } }
  | none => s

/-- R137: a slot folds: H = H + LP, I = 0, LP = 0. DESIGN CHOICE (log 65): the exponents E2 and E3 stay until the next update
frame chooses them again. -/
def foldSlot (n : Nat) (s : State) : State :=
  let lp := s.lpOf n
  s.modLoop n fun l => { l with h := toHold (l.hold + lp), iM := 0, lpM := 0 }

/-- The slots of bundle `b`, each put through a function. -/
def State.eachSlot (s : State) (b : Nat) (f : Nat → State → State) : State :=
  (List.range 8).foldl (fun s i => f (8 * b + i) s) s

/-- R137: the slots of a bundle that changes its state fold on the way out of CLOSED and start CLOSED with I = 0. -/
def setLoops (b : Nat) (was st : BState) (s : State) : State :=
  let s := if was = .closed ∧ st ≠ .closed then s.eachSlot b foldSlot else s
  if was ≠ .closed ∧ st = .closed then s.modBunSlots b (fun _ x => { x with lp := { x.lp with iM := 0 } }) else s

/-- R137: a bundle's state changes. -/
def setBundle (b : Nat) (st : BState) (s : State) : State :=
  let was := (s.bun b).st
  ((setLoops b was st s).inSnap (setLoops b was st)).modBun b fun x => { x with st := st }

/-! ### Demodulation (R120 to R124) -/

/-- R120: the sample of heater frame `m` for a slot, if it is no gap. -/
def State.sampleOf (s : State) (n m : Nat) : Option Nat :=
  match (s.slot n).mon, (s.quay (quayOf n)).intake with
  | some c, some i =>
    if i.frame = m % 2 ^ 32 then
      match i.samples[c]? with
      | some (code, true) => some code
      | _ => none
    else none
  | _, _ => none

/-- R123: the reference phase of a slot for the sample of heater frame `m`. -/
def State.psi (s : State) (n m : Nat) : Nat :=
  let p := s.pilAt n m
  let off := (rnEven (((p.inc * (s.tsetAt n m).piloff : Nat) : Rat) / 25)).toNat
  ((((pilPhase p m : Nat) : Int) - (off : Int) - ((s.slotCoef n).theta : Int)) % (2 ^ 24 : Int)).toNat

/-- R124: IACC and QACC of a slot after the sample of heater frame `m`, before S0 is stored. -/
def State.accum (s : State) (n m : Nat) : Rat × Rat :=
  let l := (s.slot n).lp
  let e := (s.bun (bundleOf n)).e0
  match s.sampleOf n m with
  | some x =>
    let d : Rat := ((x : Nat) : Rat) - ((l.base : Nat) : Rat) / 16
    (bfVal l.iaccM e + d * ((cosV (s.psi n m) : Int) : Rat) / 262143,
     bfVal l.qaccM e + d * ((sinV (s.psi n m) : Int) : Rat) / 262143)
  | none => (bfVal l.iaccM e, bfVal l.qaccM e)

/-- The slots in service of a bundle that have a monitor channel (R28). -/
def State.monSlots (s : State) (b : Nat) : List Nat := (s.workSlots b).filter fun n => (s.slot n).mon.isSome

/-- R134: values of several slots stored in a stage: the exponent, and the state with BFSAT counted. -/
def bfStage (b : Nat) (xs : List Rat) (s : State) : Nat × State :=
  let e := bfExp xs
  (e, (xs.filter fun x => !bfFits e x).foldl (fun s _ => s.ev b .bfsat) s)

/-- R124, R134: the sample of heater frame `m` accumulated for a bundle. SSTAT.NOBASE follows the baseline (R152). -/
def demodBundle (b m : Nat) (s : State) : State :=
  let ns := s.monSlots b
  let vs := ns.map fun n => (n, s.accum n m)
  let r := bfStage b (vs.flatMap fun v => [v.2.1, v.2.2]) s
  let s := vs.foldl (fun s v =>
    s.modLoop v.1 fun l =>
      let l := { l with iaccM := bfStore r.1 v.2.1, qaccM := bfStore r.1 v.2.2, noBase := !l.hasBase }
      match s.sampleOf v.1 m with
      | some x => { l with sum := l.sum + x, nv := l.nv + 1 }
      | none => { l with gaps := l.gaps + 1 }) r.2
  s.modBun b fun x => { x with e0 := r.1 }

/-- R125, R130: the accumulators of a bundle zeroed for the next interval. -/
def zeroAccum (b : Nat) (s : State) : State :=
  (s.modBunSlots b fun _ x =>
    { x with lp := { x.lp with iaccM := 0, qaccM := 0, sum := 0, nv := 0, gaps := 0 } }).modBun b
      fun x => { x with e0 := 0 }

/-! ### The update (R125 to R135, R145) -/

/-- Bits `lo` to `hi` of a history row hold a one. -/
def histAny (row lo hi : Nat) : Bool := decide (bitsAt row lo (hi + 1 - lo) ≠ 0)

/-- R129: a slot's own transitions or, with XSKIP, those of its channel (R127) touch the interval of 2^k frames. The engines work
bundle by bundle, so the other slots' histories are those of before the frame's work. -/
def State.disturbed (s : State) (n k : Nat) : Bool :=
  let x := s.slot n
  let slots := match s.fab.snap with
    | some p => p.slots
    | none => s.fab.slots
  histAny x.trHist 2 (2 ^ k + 1)
    || ((s.coef (bundleOf n)).xskip && (match x.mon with
      | some c => (s.onChannel (quayOf n) c).any fun o =>
          decide (o ≠ n) && histAny (tget Slot.init slots o).trHist 2 (2 ^ k + 1)
      | none => false))

/-- R129, R135: the reason of gaps. -/
def Loop.gapsReason (l : Loop) (gapmax : Nat) : Bool :=
  decide (gapmax < l.gaps) || decide (l.nv = 0) || (!l.hasBase && l.noBaseGap)

/-- R125, R128: D_I in codes of the monitor and the error of a slot in codes. -/
def State.errorOf (s : State) (n k f : Nat) : Rat × Rat × Rat :=
  let e0 := (s.bun (bundleOf n)).e0
  let l := (s.slot n).lp
  let c := s.slotCoef n
  let dI := bfVal l.iaccM e0 * 2 / ((2 ^ k : Nat) : Rat)
  let dQ := bfVal l.qaccM e0 * 2 / ((2 ^ k : Nat) : Rat)
  let ref := ((s.slot n).setAt (sub32 f 1)).2
  (dI, dQ, ((c.gain : Int) : Rat) * (dI - ((ref : Int) : Rat) / 8) / ((2 ^ c.gsh : Nat) : Rat))

/-- R131: a value held within ±C about −H. -/
def limitC (h c x : Rat) : Rat := if c < rabs (h + x) then rsgn (h + x) * c - h else x

/-- R131, R133: the law for one slot: H, I and LP as they become, the CLAMP flag and whether it folded. -/
def controlLaw (c : BunCoef) (h i e : Rat) (heldP heldN : Bool) : Rat × Rat × Rat × Bool × Bool :=
  let lim : Rat := (((if c.iclamp = 0 then 2047 else c.iclamp) * 1024 : Nat) : Rat)
  let inc := ((c.ki : Nat) : Rat) / 65536 * e
  let held := (decide (0 < inc) && heldP) || (decide (inc < 0) && heldN)
  let i0 := if held then i else i + inc
  let i1 := limitC h lim i0
  let lp := limitC h lim (((c.kp : Nat) : Rat) / 32768 * e + i1)
  let clamped := decide (lim < rabs (h + i0))
  if c.fold ≠ 0 ∧ ((c.fold * 1024 : Nat) : Rat) < rabs i1 then (h + i1, 0, lp - i1, clamped, true)
  else (h, i1, lp, clamped, false)

/-- What an update makes of a slot: H, I, LP and e in codes. -/
structure Upd where
  slot : Nat
  h : Rat
  i : Rat
  lp : Rat
  e : Rat
  deriving DecidableEq, Repr

/-- R125 to R133, R135, R145 for one slot at an update; `e` is the error as S1 stores it. DESIGN CHOICE (log 65): B = SUM / NV is
rounded into its 16.4 field with ties to even; and an update frame at which G exceeds GAPMAX counts towards DARK also where
another reason denies the valid error as well. -/
def updateSlot (b k : Nat) (e : Rat) (n : Nat) (s : State) : Upd × State :=
  let x := s.slot n
  let l := x.lp
  let c := s.coef b
  let st := (s.bun b).st
  let gapR := l.gapsReason (s.fg F.MOR_LCFG_GAPMAX)
  let valid := l.hasBase && !gapR && !s.disturbed n k && decide (st ≠ .parked) && decide (st ≠ .hold)
  let base' := if l.nv = 0 then l.base else (rnEven (((l.sum * 16 : Nat) : Rat) / ((l.nv : Nat) : Rat))).toNat
  let s := if !valid && gapR then s.ev b .skipGap else s
  let quiet := !histAny x.trHist 1 (2 ^ k + 1)
  let ev := valid && l.moved && quiet
  let within := decide (rabs e ≤ ((c.settol : Nat) : Rat))
  let l' := { l with
    base := base'
    hasBase := decide (l.nv ≠ 0)
    noBaseGap := decide (l.nv = 0)
    noBase := decide (l.nv = 0)
    darkCnt := if valid then 0 else if gapR then l.darkCnt + 1 else l.darkCnt
    dark := l.dark && !valid
    setage := if ev then Nat.min (l.setage + 1) 255 else l.setage
    setrun := if ev then (if within then Nat.min (l.setrun + 1) 15 else 0) else l.setrun }
  let s := s.modLoop n fun _ => l'
  let h := l.hold
  let i := s.iOf n
  if decide (st = .closed) && valid then
    let r := controlLaw c h i e (histAny x.limP 2 (2 ^ k + 1)) (histAny x.limN 2 (2 ^ k + 1))
    let s := if r.2.2.2.1 then s.ev b .clamp else s
    let s := if r.2.2.2.2 then s.ev b .fold else s
    (⟨n, r.1, r.2.1, r.2.2.1, e⟩, s.modLoop n fun l => { l with clamp := r.2.2.2.1 })
  else (⟨n, h, i, s.lpOf n, e⟩, s)

/-- R125, R130, R134: a bundle's update in engine frame `f`, its sample accumulated. -/
def updateBundle (b f : Nat) (s : State) : State :=
  let k := (s.coef b).k
  let ns := s.monSlots b
  let errs := ns.map fun n => (n, s.errorOf n k f)
  let r1 := bfStage b (errs.map fun v => v.2.2.2) s
  let s := errs.foldl (fun s v =>
    s.modLoop v.1 fun l =>
      { l with
        eM := bfStore r1.1 v.2.2.2
        demI := satS 24 (rnEven (v.2.1 * 256))
        demQ := satS 24 (rnEven (v.2.2.1 * 256)) }) r1.2
  let s := s.modBun b fun x => { x with e1 := r1.1 }
  let r := ns.foldl (fun (p : List Upd × State) n =>
    let u := updateSlot b k (p.2.eOf n) n p.2
    (p.1 ++ [u.1], u.2)) (([] : List Upd), s)
  let r2 := bfStage b (r.1.map (·.i)) r.2
  let r3 := bfStage b (r.1.map (·.lp)) r2.2
  let s := r.1.foldl (fun s u =>
    s.modLoop u.slot fun l =>
      { l with h := toHold u.h, iM := bfStore r2.1 u.i, lpM := bfStore r3.1 u.lp }) r3.2
  zeroAccum b (s.modBun b fun x => { x with e2 := r2.1, e3 := r3.1 })

/-- R394: the bundles under calibration hold that are CLOSED enter OPEN at their update in frame `f`. -/
def calOpenings (f : Nat) (s : State) : State :=
  s.popBundles.foldl (fun s b =>
    if (s.bun b).calHold.isSome && decide ((s.bun b).st = .closed) && isUpdate f b (s.coef b).k then
      setBundle b .opened s
    else s) s

/-- R45, R122: the interval of an update in the running frame contains the frame under R37. -/
def State.stepSkips (s : State) (k : Nat) : Bool := histAny s.fab.stepHist 1 (2 ^ k)

/-- R130: the loop part of a bundle in engine frame `f`: accumulate and, at its update frame, update or skip. A skipped
update restarts the interval (R45; log 10), and B, D_I and D_Q keep their values (DESIGN CHOICE, log 65). -/
def loopBundle (b f : Nat) (s : State) : State :=
  let s := demodBundle b (sub32 f 1) s
  let k := (s.coef b).k
  if isUpdate f b k then
    if s.stepSkips k then zeroAccum b (s.ev b .skipGap) else updateBundle b f s
  else s

/-! ### Composition (R58 to R60, R84, R116 to R118) -/

/-- R118: the crosstalk compensation of a slot, from the frame the quays modulated last. A term names a channel of the slot's own
quay; a channel of 384 up names no slot. -/
def State.xtalk (s : State) (n : Nat) : Rat :=
  (s.slotCoef n).xt.foldl (fun a t =>
    let c := 384 * quayOf n + t.chan
    let u := (s.slot c).used
    if t.en && decide (t.chan < 384) && s.inService c && decide (u.armB = t.arm) then
      a + ((t.coef * u.v.natAbs : Int) : Rat) / 16384
    else a) 0

/-- R84: V scaled by the soft start of a quay in heater frame `n`. -/
def State.softStart (s : State) (q n : Nat) (v : Rat) : Rat :=
  match (s.quay q).ramp with
  | some r =>
    let len := 2 ^ Nat.min 10 (s.fgi F.QY_DRVCFG_SSLEN q)
    let m := sub32 n r
    if notBefore n r && decide (m + 1 < len) then v * ((m + 1 : Nat) : Rat) / ((len : Nat) : Rat) else v
  | none => v

/-- R59, R60: V rounded, limited and given its arm; the arm of the frame before is `was`. -/
def roundDrive (v x pl ffLp : Rat) (moving was : Bool) : Drv :=
  let r := rnAway v
  let sat := decide (0xFFFFF < r.natAbs)
  let c := clampI (-0xFFFFF) 0xFFFFF r
  ⟨c, if c = 0 then was else decide (c < 0), sat, x, pl, ffLp, moving⟩

/-- R79: the noise register of a slot for the next heater frame. -/
def noiseStep (n : Nat) (x : Slot) : Slot :=
  if x.pil.mode = 3 then
    { x with lfsr := lfsrShifts (if x.noiseOn then x.lfsr else lfsrLoad x.pil.phoff n) 23, noiseOn := true }
  else { x with noiseOn := false }

/-- R92 to R94, R104, R105: the transition of a slot composed for heater frame `h`: TR, whether one ran, and whether the
frame is an underrun. One whose last sample is used past its planned end counts in SEG.LATEEND. -/
def transSlot (n h : Nat) (s : State) : Rat × Bool × Bool × State :=
  match (s.slot n).trAt h with
  | some t =>
    if t.covers h then
      let r := trCompose h t
      let s := s.when (decide (t.ended = none) && decide (r.1.fin = .late)) fun s => s.bump F.SEG_LATEEND
      (r.1.term, true, r.2, s.mapTrs n fun o => if o.isOf t.recIdx t.entry then r.1 else o)
    else (0, false, false, s)
  | none => (0, false, false, s)

/-- R58 to R60: heater frame `h` of one slot composed. `sw` is the sweep term that replaces its pilot (R396). -/
def composeSlot (h : Nat) (sw : Option Rat) (n : Nat) (s : State) : State :=
  let s := lateEndSlot n h s
  let t := transSlot n h s
  let s := if t.2.2.1 then t.2.2.2.ev (bundleOf n) (.underrun n) else t.2.2.2
  let s := s.modSlot n fun x => { noiseStep n x with trHist := histPush histLen x.trHist t.2.1 }
  let x := s.slot n
  let xt := s.xtalk n
  let lp := if (s.bun (bundleOf n)).st = .closed ∧ x.mon.isSome = true then s.lpOf n else 0
  let pl := match sw with
    | some v => v
    | none => if x.mon.isSome then pilTerm x.pil (s.phaseAt x.pil h) x.lfsr else 0
  let hold := s.lOf n (x.setAt h).1 + x.lp.hold + xt + lp
  let v := s.softStart (quayOf n) h (hold + t.1 + pl)
  let d := roundDrive v xt pl hold t.2.1 x.used.armB
  let s := if d.sat then s.ev (bundleOf n) .drvsat else s
  s.modSlot n fun x => { x with del := d }

/-- R130: the engine's work on one bundle in engine frame `f`. -/
def engineBundle (sw : Nat → Nat → Option Rat) (f b : Nat) (s : State) : State :=
  let h := add32 f 2
  let s := loopBundle b f s
  (s.workSlots b).foldl (fun s n => composeSlot h (sw n h) n s) s

/-- R79, R149: a slot of a PARKED-HOLD bundle: its noise register goes on, no transition runs. -/
def heldSlot (n : Nat) (s : State) : State :=
  s.modSlot n fun x => { noiseStep n x with trHist := histPush histLen x.trHist false }

/-- The bundles that the engines work on: those with a slot to work on, not PARKED-HOLD (R43, R83). In STANDBY a failed engine
changes no state of its bundles (R363), which it does not work on. -/
def State.workBundles (s : State) : List Nat :=
  s.popBundles.filter fun b => decide ((s.bun b).st ≠ .hold) && decide (s.workSlots b ≠ [])
    && !(decide (s.dev = .standby) && !s.engineUp b)

/-- R39, R58, R130: the engines' work of engine frame `f`. -/
def engineFrame (sw : Nat → Nat → Option Rat) (f : Nat) (s : State) : State :=
  let s := s.modFab fun x => { x with snap := some ⟨f, x.slots, x.bundles, []⟩ }
  let s := s.workBundles.foldl (fun s b => engineBundle sw f b s) s
  (s.popSlots.filter fun n => s.works n && decide ((s.bun (bundleOf n)).st = .hold)).foldl (fun s n => heldSlot n s) s

/-! ### Cycle charge and late bundles (R42 to R52) -/

/-- R42: the engine deadline of the running frame, in CORE cycles. -/
def State.deadline (s : State) : Nat :=
  Nat.min (Nat.min 996 (Nat.max 900 (s.fg F.CKG_FRMCFG_DEADLINE))) (4 * s.frameLen)

/-- R43: the CORE cycles charged for bundle `b` in engine frame `f`; `staged` tells a staged update (R370). -/
def bundleCost (staged : Nat → Bool) (f b : Nat) (s : State) : Nat :=
  let live := s.liveSlots b
  if (s.bun b).st = .hold ∨ live = [] then 1
  else
    let terms := ((List.range 8).map fun i => (s.slotCoef (8 * b + i)).xt.countP (·.en)).foldl Nat.max 0
    18 + terms
      + b2n (s.flag F.ROL_CFG_PAIRED && s.flag F.MIR_STAT_UP)
      + (if (s.bun b).calHold.isSome ∧ s.holds = true then 4 else 0)
      + (if isUpdate f b (s.coef b).k then 16 else 0)
      + (if s.dev = .standby ∧ staged b = true then 12 else 0)

/-- R47: stalls served before cycle `t` push it back; those left are for later work. -/
def applyStalls : Nat → Nat → List (Nat × Nat) → Nat × List (Nat × Nat)
  | 0, t, st => (t, st)
  | fuel + 1, t, st =>
    match st with
    | [] => (t, [])
    | (c, n) :: r => if c < t then applyStalls fuel (t + n) r else (t, (c, n) :: r)

/-- R44: the bundles of logical engine `e` in the order of engine frame `f`. -/
def engineOrder (e f : Nat) : List Nat := (List.range 32).map fun i => 32 * e + (f + i) % 32

/-- R43, R44, R47: when each bundle of logical engine `e` is handed over in engine frame `f`, in CORE cycles. -/
def handOvers (staged : Nat → Bool) (f e : Nat) (s : State) : List (Nat × Nat) :=
  let p := s.physOf e
  let st := s.fab.stalls.filterMap fun x => if x.1 = p then some (x.2.1, x.2.2) else none
  ((engineOrder e f).foldl (fun (a : List (Nat × Nat) × Nat × List (Nat × Nat)) b =>
    let r := applyStalls (a.2.2.length) (a.2.1 + bundleCost staged f b s) a.2.2
    (a.1 ++ [(b, r.1)], r.1, r.2)) (([] : List (Nat × Nat)), 12, st)).1

/-- The cycle at which a physical engine stopped in the running frame (R148). -/
def State.stopOf (s : State) (p : Nat) : Option Nat := (s.fab.stops.find? fun x => decide (x.1 = p)).map (·.2)

/-- R49, R148: a bundle handed over at cycle `t` is late. -/
def State.isLate (s : State) (e t : Nat) : Bool :=
  decide (s.deadline < t) || (match s.stopOf (s.physOf e) with
    | some c => decide (c ≤ t)
    | none => false)

/-- The logical engines that have a populated bundle. -/
def State.liveEngines (s : State) : List Nat := (s.popBundles.map engineOf).dedup

/-- The state as the engines of the running frame found it: the slots and bundles of before their work. -/
def State.asOf (s : State) (n : EngSnap) : State := s.modFab fun x => { x with slots := n.slots, bundles := n.bundles }

/-- R49, R52: the late bundles of engine frame `f`, with the hand-overs of those on time. -/
def lateSplit (staged : Nat → Bool) (f : Nat) (s : State) : List Nat × List (Nat × Nat) :=
  let all := s.liveEngines.flatMap fun e => (handOvers staged f e s).map fun h => (e, h.1, h.2)
  let work := all.filter fun h => decide ((s.bun h.2.1).st ≠ .hold) && decide (s.workSlots h.2.1 ≠ [])
  ((work.filter fun h => s.isLate h.1 h.2.2).map (·.2.1),
   (work.filter fun h => !s.isLate h.1 h.2.2).map fun h => (s.physOf h.1, h.2.2))

/-- R49: a slot of a late bundle: its loop and its handed-over value as they stood, one more gap, a repetition due; its
transitions, registers and histories have gone on. -/
def lateSlot (isUpd : Bool) (was x : Slot) : Slot :=
  let l := was.lp
  let l := if isUpd then { l with iaccM := 0, qaccM := 0, sum := 0, nv := 0, gaps := 0 }
    else if x.mon.isSome then { l with gaps := l.gaps + 1 } else l
  { x with lp := l, del := was.del, late := true }

/-- R49: what bundle `b` does instead of its work when it is late in engine frame `f`. -/
def lateBundle (f : Nat) (snap : EngSnap) (b : Nat) (s : State) : State :=
  let was := tget Bundle.init snap.bundles b
  let upd := isUpdate f b (s.coef b).k
  let s := (s.workSlots b).foldl (fun s n =>
    s.modSlot n (lateSlot upd (tget Slot.init snap.slots n))) s
  s.modBun b fun x =>
    { x with e0 := if upd then 0 else was.e0, e1 := was.e1, e2 := was.e2, e3 := was.e3, lateRun := x.lateRun + 1 }

/-- R104: the underruns of engine frame `f`, by slot: the flags, the last of them and SEG_UNDERRUN. -/
def recordUnderruns (f : Nat) (slots : List Nat) (s : State) : State :=
  match slots with
  | [] => s.fs F.SEG_STAT_UNDACT 0
  | x :: r =>
    let s := slots.foldl (fun s n => s.setBit F.SEG_UNDFLAG_QY 0 (quayOf n) true) s
    (((s.fs F.SEG_STAT_UNDACT 1).fs F.SEG_UNDLAST_SLOT (r.foldl Nat.min x)).fs F.SEG_UNDLAST_FRAME (add32 f 2)).raise 2

/-- What the work of engine frame `f` counted for the bundles that were handed over: every count saturates by itself (R13), and
a late bundle counts nothing (R49, R104). -/
def recordEvents (f : Nat) (late : List Nat) (evs : List (Nat × EngEv)) (s : State) : State :=
  let on := evs.filter fun v => decide (v.1 ∉ late)
  let s := on.foldl (fun s v => let c := v.2.counter v.1; s.bumpi c.1 c.2) s
  recordUnderruns f (on.filterMap fun v =>
    match v.2 with
    | .underrun n => some n
    | _ => none) s

/-- R50: the late bundles of a frame recorded. -/
def recordLate (f : Nat) (late : List Nat) (s : State) : State :=
  match late with
  | [] => s
  | b :: r =>
    let s := late.foldl (fun s b =>
      (s.bumpi F.CKG_OVRCNTq (quayOfBundle b)).setBit F.CKG_OVRFLAG_QY 0 (quayOfBundle b) true) s
    ((s.fs F.CKG_OVRLAST_BUNDLE (r.foldl Nat.min b)).fs F.CKG_OVRLAST_FRAME f).raise 1

/-- CKG.ENGHWM (02): the highest hand-over so far. -/
def recordHwm (on : List (Nat × Nat)) (s : State) : State :=
  on.foldl (fun s h =>
    if s.fg F.CKG_ENGHWM_CYCLES < h.2 then
      (s.fs F.CKG_ENGHWM_CYCLES (Nat.min h.2 0x7FF)).fs F.CKG_ENGHWM_ENGINE h.1
    else s) s

/-- R49, R50, R52: the deadline of engine frame `f`, once in a frame. A bundle that is not late in the frame, worked on or not,
ends its run of late frames. -/
def engineDeadline (staged : Nat → Bool) (s : State) : State :=
  match s.fab.snap with
  | none => s
  | some snap =>
    let r := lateSplit staged snap.frame (s.asOf snap)
    let s := s.popBundles.foldl (fun s b =>
      if b ∈ r.1 then s else s.modBun b fun x => { x with lateRun := 0 }) s
    let s := recordEvents snap.frame r.1 snap.evs (r.1.foldl (fun s b => lateBundle snap.frame snap b s) s)
    (recordHwm r.2 (recordLate snap.frame r.1 s)).modFab fun x => { x with snap := none, stops := [] }

end Sys2Proof.Machine
end

