-- ==== Sys2Proof/Machine/Loops.lean ====
section
/-! DEFINITION. Mooring loops beside the engines' frame work (05): bundle states and commands, engine windows and
coefficient changes, dark slots, engine faults and substitution. -/
namespace Sys2Proof.Machine

/-! ### Bundle commands (R138 to R143) -/

/-- The bundle that MOR.BSEL names; values above 1,535 act as 1,535. -/
def State.bsel (s : State) : Nat := Nat.min 1535 (s.fg F.MOR_BSEL_BUNDLE)

/-- R138, R394: a command for a bundle; it sets the return state of a bundle that is parked or under calibration. DESIGN CHOICE
(log 65): it also ends the wait of a bundle that a coefficient change or a takeover opened and that would close again (R143, R374): the
later command decides. A command that was still pending is replaced. -/
def bundleCommand (b : Nat) (cmd : BCmd) (st : BState) (s : State) : State :=
  let x := s.bun b
  if x.st = .parked ∨ x.st = .hold ∨ x.calHold.isSome = true then
    s.modBun b fun x => { x with ret := st, cmd := .none, recloseF := none, takeF := none }
  else s.modBun b fun x => { x with cmd := cmd, recloseF := none, takeF := none }

/-- The meaning of BCMD_OPEN (R138). -/
def execBcmdOpen (s : State) : Out := .next (bundleCommand s.bsel .opening .opened s)

/-- The meaning of BCMD_CLOSE (R138). -/
def execBcmdClose (s : State) : Out := .next (bundleCommand s.bsel .closing .closed s)

/-- R138: the pending command of a bundle takes effect at its coming update frame. -/
def bundleCommandApply (b : Nat) (s : State) : State :=
  let x := s.bun b
  if s.updNext b && x.calHold.isNone && (decide (x.st = .opened) || decide (x.st = .closed)) then
    match x.cmd with
    | .opening => (setBundle b .opened s).modBun b fun x => { x with cmd := .none }
    | .closing => (setBundle b .closed s).modBun b fun x => { x with cmd := .none }
    | .none => s
  else s

/-- The meaning of BUNDLE_COMMAND_APPLY (R138). -/
def execBundleCommandApply (b : Fin 1536) (s : State) : Out := .next (bundleCommandApply b.val s)

/-- R140, R141, R143: the coming frame is at or past the bundle's second update frame whose interval begins after
frame `c`. -/
def State.secondUpdate (s : State) (b c : Nat) : Bool :=
  s.updNext b && later (sub32 s.coming (2 * 2 ^ (s.coef b).k)) c

/-- R139: a bundle enters PARKED because its quay delivers no upstream frames. A pending command becomes the return
state (log 11). -/
def parkLane (b : Nat) (s : State) : State :=
  let x := s.bun b
  match x.st with
  | .hold => s
  | .parked => s.modBun b fun x => { x with cause := .lane, clearF := none }
  | st =>
    let ret := match x.cmd with
      | .opening => .opened
      | .closing => .closed
      | .none => st
    (((setBundle b .parked s).modBun b fun x =>
      { x with ret := if x.calHold.isSome then x.ret else ret, cause := .lane, clearF := none, cmd := .none }).bump
        F.MOR_PARKCNT).raise 4

/-- The bundles of a quay that have a populated slot. -/
def State.quayBundles (s : State) (q : Nat) : List Nat := s.popBundles.filter fun b => decide (quayOfBundle b = q)

/-- R368: a bundle of a device in STANDBY becomes unsynced. -/
def unsync (b : Nat) (s : State) : State := s.modBun b fun x => { x with synced := false }

/-- R139: every bundle of quay `q` enters PARKED; in STANDBY it only becomes unsynced (R363). -/
def parkQuay (q : Nat) (s : State) : State :=
  (s.quayBundles q).foldl (fun s b => if s.dev = .standby then unsync b s else parkLane b s) s

/-- R140: upstream frames of quay `q` arrive again in frame `f`. -/
def unparkQuay (q f : Nat) (s : State) : State :=
  if s.dev = .standby then s
  else (s.quayBundles q).foldl (fun s b =>
    s.modBun b fun x =>
      if x.st = .parked ∧ x.cause = .lane ∧ x.clearF = none then { x with clearF := some f } else x) s

/-- R140: a bundle leaves PARKED for its return state. -/
def bundleUnpark (b : Nat) (s : State) : State :=
  let x := s.bun b
  match x.st, x.clearF with
  | .parked, some c =>
    if s.secondUpdate b c then
      (setBundle b (if x.calHold.isSome then .opened else x.ret) s).modBun b fun x =>
        { x with cause := .none, clearF := none }
    else s
  | _, _ => s

/-- The meaning of BUNDLE_UNPARK (R140). -/
def execBundleUnpark (b : Fin 1536) (s : State) : Out := .next (bundleUnpark b.val s)

/-- R141: a bundle with INIT set closes after the soft start of its quay, once: one that is closed by then stays so, and one that
is parked, or under calibration, closes when it returns (DEDUCED; log 65). -/
def bundleInitClose (b : Nat) (s : State) : State :=
  let x := s.bun b
  match x.initF with
  | some c =>
    if s.secondUpdate b c then
      let t := s.modBun b fun x => { x with initF := none }
      if x.calHold.isSome ∨ x.st = .parked ∨ x.st = .hold then t.modBun b fun x => { x with ret := .closed }
      else if x.st = .opened then setBundle b .closed t
      else t
    else s
  | none => s

/-- The meaning of BUNDLE_INIT_CLOSE (R141). -/
def execBundleInitClose (b : Fin 1536) (s : State) : Out := .next (bundleInitClose b.val s)

/-- R84, R141: a soft start of quay `q` begins at heater frame `r`: its bundles are OPEN, those with INIT close after
its last frame, and the error states begin again with its first frame (R64). -/
def startRamp (q r : Nat) (s : State) : State :=
  let last := sub32 (add32 r (2 ^ Nat.min 10 (s.fgi F.QY_DRVCFG_SSLEN q))) 1
  let s := (s.modQuay q fun x => { x with ramp := some r, eReset := (r :: x.eReset).take 4 }).fsi F.QY_DRVSTAT_RAMP q 1
  (s.quayBundles q).foldl (fun s b =>
    s.modBun b fun x => { x with initF := if (s.coef b).initClose then some last else x.initF }) s

/-- R143: a committed change of coefficients for a bundle; whether it opens and closes the bundle is decided by the state that
the COMMIT meets. -/
def commitCoefs (b : Nat) (c : BunCoef) (s : State) : State :=
  s.modFab fun x => { x with pendCoefs := tset none x.pendCoefs b (some ⟨c, decide ((s.bun b).st = .closed)⟩) }

/-- The bundle has committed coefficients that are not in force yet. -/
def State.coefPending (s : State) (b : Nat) : Bool := (tget none s.fab.pendCoefs b).isSome

/-- The pending coefficients of a bundle come into force. -/
def takeCoefs (b : Nat) (s : State) : State :=
  s.modFab fun x =>
    { x with
      coefs := tset BunCoef.init x.coefs b ((tget none x.pendCoefs b).elim BunCoef.init (·.coef))
      pendCoefs := tdel x.pendCoefs b }

/-- R143: pending coefficients take effect at the bundle's coming update frame; a bundle that was CLOSED at their COMMIT, and is
so still, opens for them. -/
def coefApply (b : Nat) (s : State) : State :=
  match tget none s.fab.pendCoefs b with
  | some c =>
    if s.updNext b then
      match (s.bun b).st with
      | .closed =>
        if c.wasClosed then
          (takeCoefs b (setBundle b .opened s)).modBun b fun x => { x with recloseF := some s.coming }
        else takeCoefs b s
      | .hold => s
      | _ => takeCoefs b s
    else s
  | none => s

/-- The meaning of COEFFICIENT_CHANGE_APPLY (R143). -/
def execCoefficientChangeApply (b : Fin 1536) (s : State) : Out := .next (coefApply b.val s)

/-- R394: a bundle closes, or, under calibration, is to close as it is released. -/
def closeOrReturn (b : Nat) (s : State) : State :=
  if (s.bun b).calHold.isSome then s.modBun b fun x => { x with ret := .closed } else setBundle b .closed s

/-- R143: a bundle opened for a coefficient change closes again. -/
def coefReclose (b : Nat) (s : State) : State :=
  let x := s.bun b
  match x.recloseF with
  | some c =>
    if x.st = .opened ∧ s.secondUpdate b c = true then closeOrReturn b (s.modBun b fun x => { x with recloseF := none })
    else s
  | none => s

/-- The meaning of COEFFICIENT_RECLOSE (R143). -/
def execCoefficientReclose (b : Fin 1536) (s : State) : Out := .next (coefReclose b.val s)

/-! ### Dark slots (R135) -/

/-- R135: a slot becomes dark. -/
def slotDark (n : Nat) (s : State) : State :=
  let g := s.fg F.MOR_LCFG_GAPESC
  let l := (s.slot n).lp
  if g ≠ 0 ∧ g ≤ l.darkCnt ∧ l.dark = false then
    ((((foldSlot n s).modLoop n fun l => { l with dark := true }).bump F.MOR_DARKCNT).raise 3).logFault 0x5003 n 0
  else s

/-- The meaning of SLOT_DARK (R135). -/
def execSlotDark (slot : Fin 12288) (s : State) : Out := .next (slotDark slot.val s)

/-! ### Engine windows (R142, R144, R152) -/

/-- The number a state of a bundle has in MOR.BSTAT. -/
def BState.code : BState → Nat
  | .opened => 0 | .closed => 1 | .parked => 2 | .hold => 3

/-- The number a cause has in MOR.BSTAT. -/
def BCause.code : BCause → Nat
  | .none => 0 | .lane => 1 | .engine => 2 | .swap => 3 | .subst => 4

/-- The word of a crosstalk term (R152). -/
def XTerm.word (t : XTerm) : Nat := t.chan + b2n t.arm * 2 ^ 9 + b2n t.en * 2 ^ 10 + unsgn 12 t.coef * 2 ^ 16

/-- The crosstalk term of a word (R152). -/
def xtermOf (w : Nat) : XTerm := ⟨w % 512, w.testBit 9, w.testBit 10, sgn 12 (w / 2 ^ 16)⟩

/-- R152: a word of the slot record of slot `n`, by its offset. -/
def slotRecWord (s : State) (n off : Nat) : Nat :=
  let x := s.slot n
  let l := x.lp
  let c := s.slotCoef n
  if off ≤ 0x80 then unsgn 24 (c.lin.getD (off / 4) 0)
  else if off ≤ 0xA0 then (c.xt.getD ((off - 0x84) / 4) ⟨0, false, false, 0⟩).word
  else
    match off with
    | 0xA4 => unsgn 16 c.gain + c.gsh * 2 ^ 16
    | 0xA8 => c.theta
    | 0xAC => (x.setAt s.frame).1 + unsgn 16 (x.setAt s.frame).2 * 2 ^ 16
    | 0xB0 => unsgn 32 l.h
    | 0xB4 => unsgn 20 l.iM
    | 0xB8 => unsgn 20 l.lpM
    | 0xBC => unsgn 20 l.eM
    | 0xC0 => unsgn 20 l.iaccM
    | 0xC4 => unsgn 20 l.qaccM
    | 0xC8 => unsgn 24 l.demI
    | 0xCC => unsgn 24 l.demQ
    | 0xD0 => l.base
    | 0xD4 => l.sum
    | 0xD8 => l.nv + l.gaps * 2 ^ 16
    | 0xDC => b2n l.settled + b2n l.setfail * 2 + b2n l.clamp * 4 + b2n l.dark * 8 + b2n l.noBase * 16
        + l.setrun * 2 ^ 8 + l.setage * 2 ^ 16
    | _ => 0

/-- R152: a word of the record of bundle `b`, by its offset. -/
def bunRecWord (s : State) (b off : Nat) : Nat :=
  let c := s.coef b
  let x := s.bun b
  match off with
  | 0x00 => c.k + b2n c.initClose * 16 + b2n c.xskip * 32 + x.st.code * 2 ^ 8
  | 0x04 => c.kp + c.ki * 2 ^ 16
  | 0x08 => c.iclamp + c.fold * 2 ^ 16
  | 0x0C => c.settol + c.setcnt * 2 ^ 16 + c.settmo * 2 ^ 24
  | 0x10 => x.e0 + x.e1 * 2 ^ 8 + x.e2 * 2 ^ 16 + x.e3 * 2 ^ 24
  | _ => 0

/-- R148: the state of a physical engine. -/
def State.engState (s : State) (p : Nat) : Nat := s.fgi F.MOR_ESTATp_STATE p

/-- R152: a physical engine's window shows the bundles of a logical engine. -/
def State.winLogical (s : State) (p : Nat) : Option Nat :=
  let e := s.fgi F.MOR_ESTATp_LOGICAL p
  if s.engState p = 0 ∧ e < 48 ∧ s.physOf e = p then some e else none

/-- R152: a word read from the window of physical engine `p`. -/
def winRead (s : State) (p off : Nat) : Nat :=
  if 0xE800 ≤ off then 0
  else
    match s.winLogical p with
    | some e =>
      if off < 0xE000 then slotRecWord s (256 * e + off / 0xE0) (off % 0xE0)
      else bunRecWord s (32 * e + (off - 0xE000) / 0x40) ((off - 0xE000) % 0x40)
    | none => tget 0 (tget [] s.fab.spareWin p) off

/-- R152: the coefficients of a slot with a coefficient word written; `none` where the offset names none. -/
def slotCoefWrite (c : SlotCoef) (off w : Nat) : Option SlotCoef :=
  if off ≤ 0x80 then some { c with lin := setAt c.lin (off / 4) (sgn 24 w) }
  else if off ≤ 0xA0 then some { c with xt := setAt c.xt ((off - 0x84) / 4) (xtermOf w) }
  else if off = 0xA4 then some { c with gain := sgn 16 w, gsh := bitsAt w 16 4 }
  else if off = 0xA8 then some { c with theta := w % 2 ^ 24 }
  else none

/-- R152: the coefficients of a bundle with a coefficient word written; `none` where the offset names none. -/
def bunCoefWrite (c : BunCoef) (off w : Nat) : Option BunCoef :=
  match off with
  | 0x00 => some { c with xskip := w.testBit 5 }
  | 0x04 => some { c with kp := w % 65536, ki := bitsAt w 16 16 }
  | 0x08 => some { c with iclamp := w % 2048, fold := bitsAt w 16 11 }
  | 0x0C => some { c with settol := w % 65536, setcnt := bitsAt w 16 4, settmo := bitsAt w 24 8 }
  | _ => none

/-- R142: a window write refused. -/
def winRefuse (p off : Nat) (s : State) : State :=
  ((s.fs F.MOR_STAT_CWERR 1).fs F.MOR_CWLAST_OFFSET off).fs F.MOR_CWLAST_ENGINE p

/-- The bits of a window word that a write reaches in the window of an engine that serves nothing (R152). -/
def winMask (off : Nat) : Nat :=
  if off < 0xE000 then
    let o := off % 0xE0
    if o ≤ 0x80 then 0xFFFFFF else if o ≤ 0xA0 then 0x0FFF07FF else if o = 0xA4 then 0xFFFFF
    else if o = 0xA8 then 0xFFFFFF else if o = 0xB0 then 0xFFFFFFFF else 0
  else
    match (off - 0xE000) % 0x40 with
    | 0x00 => 0x20
    | 0x04 => 0xFFFFFFFF
    | 0x08 => 0x07FF07FF
    | 0x0C => 0xFF0FFFFF
    | _ => 0

/-- H of a slot written (R142). -/
def holdWrite (n : Nat) (h : Int) (s : State) : State := s.modLoop n fun l => { l with h := h }

/-- R142, R144, R152: a word written to the window of physical engine `p`. The parameter records of R144 are the
coefficients themselves. -/
def winWrite (p off w : Nat) (s : State) : State :=
  if 0xE800 ≤ off ∨ s.engState p = 2 then s
  else
    match s.winLogical p with
    | none =>
      s.modFab fun x =>
        { x with spareWin := tmod [] x.spareWin p fun t => tmod 0 t off fun v =>
            (v &&& (0xFFFFFFFF - winMask off)) ||| (w &&& winMask off) }
    | some e =>
      let inSlot := decide (off < 0xE000)
      let n := 256 * e + off / 0xE0
      let b := if inSlot then bundleOf n else 32 * e + (off - 0xE000) / 0x40
      let o := if inSlot then off % 0xE0 else (off - 0xE000) % 0x40
      let st := (s.bun b).st
      if inSlot && decide (o = 0xB0) then
        if st = .opened ∨ st = .parked then holdWrite n (sgn 32 w) (s.inSnap (holdWrite n (sgn 32 w))) else winRefuse p off s
      else
        let c := s.coef b
        let new :=
          if inSlot then (slotCoefWrite (s.slotCoef n) o w).map fun x => { c with slots := setAt c.slots (n % 8) x }
          else bunCoefWrite c o w
        match new with
        | some c => if st = .closed ∨ st = .hold then winRefuse p off s else s.modCoef b fun _ => c
        | none => s

/-- The words of the window of an engine that are not zero. -/
def winDump (s : State) (p : Nat) : Tbl Nat :=
  (List.range 14848).filterMap fun i => if winRead s p (4 * i) = 0 then none else some (4 * i, winRead s p (4 * i))

/-! ### Engine faults and substitution (R148 to R151) -/

/-- R148, R508: a fault of a physical engine; `e` is its logical engine, 0x3F for a spare. The spares that R508 asks for are
those before the fault. -/
def engineFails (p e cause code : Nat) (s : State) : State :=
  let none := decide (s.spares = 0)
  let s := ((s.fsi F.MOR_ESTATp_STATE p 2).fsi F.MOR_ESTATp_CAUSE p cause).fs F.MOR_STAT_ENGFLT 1
  ((s.logFault code p e).when none fun s => s.logFault 0x3004 p e).raise 6

/-- R148: a physical engine that serves a logical engine has a fault at CORE cycle `c` of the running frame. -/
def engineFault (p cause code c : Nat) (s : State) : State :=
  if s.engState p = 0 then
    (engineFails p (s.fgi F.MOR_ESTATp_LOGICAL p) cause code s).modFab fun x => { x with stops := x.stops ++ [(p, c)] }
  else s

/-- The meaning of ENGINE_MEMORY_ERROR (R148): an engine's local memory reports an error at CORE cycle `cycle`; a
corrected one is counted. -/
def execEngineMemoryError (phys : Fin 50) (cycle : Nat) (corrected : Bool) (s : State) : Out :=
  .next (if corrected then s.bump F.MOR_ECCCOR else engineFault phys.val 2 0x3002 cycle s)

/-- R52: a bundle late in ESCLIM consecutive frames brings a fault on its engine, at the deadline. -/
def lateEscalation (b : Nat) (s : State) : State :=
  let lim := s.fg F.CKG_FRMCFG_ESCLIM
  if lim ≠ 0 ∧ lim ≤ (s.bun b).lateRun then
    engineFault (s.physOf (engineOf b)) 1 0x3001 s.deadline s
  else s

/-- The meaning of ENGINE_LATE_ESCALATION (R52). -/
def execEngineLateEscalation (b : Fin 1536) (s : State) : Out := .next (lateEscalation b.val s)

/-- A bundle enters PARKED-HOLD (R148, R150), folding where it was CLOSED (R137); one already there takes the cause. -/
def holdBundle (b : Nat) (cause : BCause) (s : State) : State :=
  let x := s.bun b
  match x.st with
  | .hold => s.modBun b fun x => { x with cause := cause }
  | .parked => s.modBun b fun x => { x with st := .hold, cause := cause, clearF := none }
  | st => (setBundle b .hold s).modBun b fun x =>
      { x with ret := if x.calHold.isSome then x.ret else st, cause := cause, clearF := none }

/-- R148, R150: from this tick the bundles of failed engines, and of an engine being swapped, are PARKED-HOLD. In STANDBY a
fault only makes them unsynced (R363). -/
def engineHolds (s : State) : State :=
  s.popBundles.foldl (fun s b =>
    let e := engineOf b
    let sb := decide (s.dev = .standby)
    if s.engState (s.physOf e) = 2 then (if sb then unsync b s else holdBundle b .engine s)
    else
      match s.fab.subst with
      | some u =>
        if u.swap && decide (u.logical = e) then holdBundle b .swap (if sb then unsync b s else s) else s
      | none => s) s

/-- R150: MOR.SUBST.GO. -/
def substGo (s : State) : State :=
  let e := s.fg F.MOR_SUBST_LOGICAL
  let p := s.fg F.MOR_SUBST_PHYS
  let refuse := fun (r : Nat) => (s.fs F.MOR_SUBSTAT_REFUSED 1).fs F.MOR_SUBSTAT_REASON r
  if s.fab.subst.isSome then refuse 3
  else if 48 ≤ e then refuse 2
  else if 50 ≤ p ∨ s.engState p ≠ 1 then refuse 1
  else
    (((s.fsi F.MOR_ESTATp_STATE p 3).fsi F.MOR_ESTATp_LOGICAL p e).fs F.MOR_SUBSTAT_BUSY 1).modFab fun x =>
      { x with subst := some ⟨e, p, decide (s.engState (s.physOf e) = 0), s.frame⟩ }

/-- The meaning of SUBST_GO (R150). -/
def execSubstGo (s : State) : Out := .next (substGo s)

/-- R151: H of a slot whose engine has been loaded; the loop starts again. -/
def loadSlot (n : Nat) (s : State) : State :=
  let x := s.slot n
  let h := if x.del.moving then 0
    else toHold (((x.del.v : Int) : Rat) - s.lOf n (x.setAt s.frame).1 - x.del.x - x.del.pl)
  s.modLoop n fun l =>
    { l with
      h := h
      iM := 0
      lpM := 0
      iaccM := 0
      qaccM := 0
      sum := 0
      nv := 0
      gaps := 0
      base := 0
      hasBase := false
      noBaseGap := false
      noBase := true }

/-- R151: a bundle of the loaded engine enters PARKED. -/
def loadBundle (b : Nat) (s : State) : State :=
  if (s.bun b).st = .hold then
    let s := if s.coefPending b then takeCoefs b s else s
    let s := s.eachSlot b fun n s => if (s.slot n).pop then loadSlot n s else s
    let up := s.flagi F.QY_LNKSTAT_ULOCK (quayOfBundle b)
    let s := (s.modBun b fun x =>
      { x with
        st := .parked
        cause := if up then .subst else .lane
        clearF := if up then some s.frame else none
        e0 := 0
        e2 := 0
        e3 := 0 }).bump F.MOR_PARKCNT
    if up then s else s.raise 4
  else s

/-- R151: the load of a substitution completes, within 4,096 frames of its GO. It loads the held drive of PARKED-HOLD bundles
(R149), so it is not complete before the tick after GO, at which they enter that state (DEDUCED; log 38). -/
def substComplete (s : State) : State :=
  match s.fab.subst with
  | none => s
  | some u =>
    if s.frame = u.frame then s else
    let old := s.physOf u.logical
    let failed := decide (s.engState old = 2)
    let dump := if failed then [] else winDump s old
    let s := (((s.fsi F.MOR_EMAPe_PHYS u.logical u.phys).fsi F.MOR_ESTATp_STATE u.phys 0).fsi F.MOR_ESTATp_LOGICAL
      u.phys u.logical).modFab fun x =>
        { x with subst := none, spareWin := tdel (tset [] x.spareWin old dump) u.phys }
    let s := if old = u.phys then s
      else if failed then s.fsi F.MOR_ESTATp_LOGICAL old 0x3F
      else (s.fsi F.MOR_ESTATp_STATE old 1).fsi F.MOR_ESTATp_LOGICAL old 0x3F
    let s := (s.popBundles.filter fun b => decide (engineOf b = u.logical)).foldl (fun s b => loadBundle b s) s
    ((s.fs F.MOR_SUBSTAT_BUSY 0).fs F.MOR_SUBSTAT_DONE 1).logFault 0x3005 u.phys u.logical

/-- The meaning of SUBST_LOAD_COMPLETE (R151). -/
def execSubstLoadComplete (s : State) : Out := .next (substComplete s)

/-- The statistic clear of MOR. -/
def morStatclr (s : State) : State :=
  (s.fresetAll [F.MOR_SKIPGAP, F.MOR_DARKCNT, F.MOR_CLAMPCNT, F.MOR_FOLDCNT, F.MOR_SETFAIL, F.MOR_PARKCNT,
    F.MOR_BFSAT, F.MOR_ECCCOR]).noteCleared 2

/-- The meaning of MOR_STATCLR (R4). -/
def execMorStatclr (s : State) : Out := .next (morStatclr s)

end Sys2Proof.Machine
end

