-- ==== Sys2Proof/Machine/Manifests.lean ====
section
/-! DEFINITION. The manifest executor (06): ownership, reservations, the checks of a request and of an admission,
execution records and what happens to their entries. -/
namespace Sys2Proof.Machine

/-- The executor changed by a function. -/
def State.modExec (s : State) (f : ExecSt → ExecSt) : State := { s with exec := f s.exec }

/-- The manifest at a directory position (R157). -/
def State.man (s : State) (n : Nat) : Option Manifest := tget none s.exec.dir n

/-- Execution record `r`. -/
def State.xrec (s : State) (r : Nat) : ExecRec := tget ExecRec.init s.exec.recs r

/-- Execution record `r` changed by a function. -/
def State.modRec (s : State) (r : Nat) (f : ExecRec → ExecRec) : State :=
  s.modExec fun x => { x with recs := tmod ExecRec.init x.recs r f }

/-- RECCNT in force (06, MAN.RECCFG). -/
def State.recCnt (s : State) : Nat := Nat.min 1024 (Nat.max 64 (s.fg F.MAN_RECCFG_RECCNT))

/-- BMPSZ in force (06, MAN.RECCFG). -/
def State.bmpSz (s : State) : Nat := Nat.min 96 (Nat.max 1 (s.fg F.MAN_RECCFG_BMPSZ))

/-- A record in QUEUED or RUNNING (R172). -/
def ExecRec.isOpen (r : ExecRec) : Bool := decide (r.st = .queued) || decide (r.st = .running)

/-- Circuit `c`. -/
def State.circuit (s : State) (c : Nat) : Circuit := tget ⟨0, 0⟩ s.exec.circuits c

/-- Circuit `c` set. -/
def State.setCircuit (s : State) (c st man : Nat) : State :=
  s.modExec fun x => { x with circuits := tset ⟨0, 0⟩ x.circuits c ⟨st, man⟩ }

/-! ### The right to slots (R160, R162, R169) -/

/-- R160: a source may name a slot of this owner. Sources 64 and 65 are TT0 and TT1. -/
def ownerOk (source owner : Nat) : Bool :=
  decide (owner = 255) || (if 64 ≤ source then decide (owner = 64) else decide (owner = source))

/-- R160: the manifest owns its slots. -/
def State.ownsAll (s : State) (source : Nat) (m : Manifest) : Bool :=
  m.entries.all fun e => ownerOk source (s.slot e.slot).owner

/-- R162: a slot's reservation allows circuit `c`. -/
def resvOk (x : Slot) (c : Nat) : Bool :=
  match x.resv with
  | some r => decide (r = c)
  | none => true

/-- R162: no entry names a slot reserved for another circuit. -/
def State.resvAll (s : State) (m : Manifest) : Bool := m.entries.all fun e => resvOk (s.slot e.slot) m.circuit

/-- R169: an alternative is usable. -/
def State.usable (s : State) (m : Manifest) : Bool :=
  m.entries.all fun e =>
    s.inService e.slot && !(s.slot e.slot).failed && decide ((s.bun (bundleOf e.slot)).st ≠ .hold)
      && resvOk (s.slot e.slot) m.circuit

/-- R169: the walk along a chain of alternatives: the first usable one with its place in the chain. -/
def altWalk (s : State) (circuit : Nat) : Nat → Nat → Option Manifest → Option (Nat × Manifest)
  | fuel + 1, idx, some m =>
    if m.cls = .restore ∧ m.circuit = circuit then
      if s.usable m then some (idx, m)
      else if m.altNext = 0xFFFF then none
      else altWalk s circuit fuel (idx + 1) (s.man m.altNext)
    else none
  | _, _, _ => none

/-- R165, R169: the manifest to run for a request of `m`, with its place in the chain. -/
def State.choose (s : State) (m : Manifest) : Option (Nat × Manifest) :=
  if m.cls = .restore then altWalk s m.circuit 8 0 (some m) else some (0, m)

/-- R157: the manifest of a record's request: the one of its position that was in force when the request was accepted. -/
def State.headOf (s : State) (x : ExecRec) : Option Manifest :=
  match x.pinned with
  | some m => some m
  | none => s.man x.head

/-- R157: the manifest of position `no` for record `x`. DESIGN CHOICE (log 69): the head is the one that was accepted; the
other alternatives are those of the directory as it is now. -/
def State.manFor (s : State) (x : ExecRec) (no : Nat) : Option Manifest := if no = x.head then s.headOf x else s.man no

/-- R157, R316: records that still wait keep the manifest that a replacement takes from position `n`. -/
def pinManifest (n : Nat) (s : State) : State :=
  s.modExec fun x =>
    { x with recs := x.recs.map fun e =>
        (e.1, if e.2.isOpen = true ∧ e.2.head = n ∧ e.2.pinned = none then { e.2 with pinned := s.man n } else e.2) }

/-! ### Requests (R164, R175) -/

/-- R175: the record a request would be given. -/
def State.freeRec (s : State) : Option Nat :=
  ((List.range s.recCnt).map fun i => (s.exec.ptr + i) % s.recCnt).find? fun r => !(s.xrec r).isOpen

/-- The outcome of a request (R164). -/
inductive ReqRes where
  | ok (r : Nat)
  | unknown | denied | noroute | nospace
  deriving DecidableEq, Repr

/-- EXEC_ID of record `r` (R171). -/
def ExecRec.execId (x : ExecRec) (r : Nat) : Nat := x.useCnt % 2 ^ 22 * 1024 + r

/-- R175: record `r` allocated to a request. -/
def allocRec (r source reqFrame : Nat) (m : Manifest) (s : State) : State :=
  let uc := ((s.xrec r).useCnt + 1) % 2 ^ 22
  let x : ExecRec := { ExecRec.init with
    useCnt := uc
    head := m.number
    manifest := m.number
    cls := m.cls
    st := .queued
    source := source
    reqFrame := reqFrame
    start := reqFrame
    hasBmp := decide (m.nent ≠ 0)
    entries := m.entries.map fun e => ⟨e.slot, .notRun, false, false, 0, false⟩
    circuit := m.circuit
    release := m.release }
  (((s.modExec fun e => { e with recs := tset ExecRec.init e.recs r x, ptr := (r + 1) % s.recCnt }).fs
    F.MAN_LASTEXEC_EXEC_ID (x.execId r)).bump F.MAN_ALLOCCNT)

/-- R164: a request of manifest `no` from a source, for a start frame. -/
def manRequest (source no reqFrame : Nat) (s : State) : ReqRes × State :=
  match s.man no with
  | none => (.unknown, s)
  | some m =>
    if m.nent ≠ 0 ∧ s.ownsAll source m = false then (.denied, s)
    else if m.nent ≠ 0 ∧ s.resvAll m = false then (.denied, s)
    else if m.cls = .restore ∧ s.choose m = none then (.noroute, s.setCircuit m.circuit 2 0)
    else
      match s.freeRec with
      | none => (.nospace, s)
      | some r => (.ok r, allocRec r source reqFrame m s)

/-! ### Final records (R163, R172, R177) -/

/-- R177: MANIFEST_FINAL, once in a frame. -/
def raiseFinal (s : State) : State :=
  if s.exec.finalAt = some s.frame then s
  else (s.raise 9).modExec fun x => { x with finalAt := some s.frame }

/-- R163: a circuit's reservations cleared. -/
def releaseCircuit (c : Nat) (s : State) : State :=
  (s.mapSlots fun _ x => if x.resv = some c then { x with resv := none } else x).setCircuit c 0 0

/-- R172, R177: a record becomes final. -/
def finalRec (r : Nat) (st : RecState) (cause fin : Nat) (s : State) : State :=
  let x := s.xrec r
  let s := s.modRec r fun x => { x with st := st, cause := cause, fin := fin }
  match st with
  | .done =>
    let s := s.bump F.MAN_DONECNT
    if x.release then releaseCircuit x.circuit s else s
  | .partly =>
    let s := raiseFinal (s.bump F.MAN_PARTCNT)
    if x.release then releaseCircuit x.circuit s else s
  | .void => raiseFinal (s.bump F.MAN_VOIDCNT)
  | _ => s

/-- R172: the cause of a record's entries: that of the lowest-indexed entry that did not end DONE. -/
def ExecRec.entryCause (x : ExecRec) : Nat :=
  match x.entries.find? fun e => decide (e.st = .notRun) || decide (e.st = .cut) with
  | some e => e.cause
  | none => 0

/-- R172: a record all of whose entries are decided becomes final, END being `fin`. -/
def finishRec (r fin : Nat) (s : State) : State :=
  let x := s.xrec r
  if x.entries.all (fun e => decide (e.st = .done) || decide (e.st = .settled)) then finalRec r .done 0 fin s
  else if x.entries.any (·.started) then finalRec r .partly x.entryCause fin s
  else finalRec r .void x.entryCause fin s

/-! ### Admission (R101, R162, R165, R170) -/

/-- R99, R101: the segment an entry streams from a band set, with its library key; a STEP is one sample of 1.0 (R158). -/
def entrySeg (s : State) (band : Nat) (e : ManEntry) : Segment × Option Nat :=
  if e.step then (⟨false, [8192]⟩, none)
  else (tget Segment.none s.fab.segs (band * 4096 + e.seg), some (band * 4096 + e.seg))

/-- The address of the object of a segment of the library (R547). -/
def State.segBase (s : State) (key : Option Nat) : Nat :=
  match key with
  | some k =>
    match s.pen.allocs.find? fun a => decide (a.tag = .seg k) with
    | some a => a.addr
    | none => 0
  | none => 0

/-- The transition of entry `i` of a record. -/
def newTr (s : State) (r i n0 band : Nat) (cls : ManClass) (e : ManEntry) : Tr :=
  let g := entrySeg s band e
  { recIdx := r, entry := i, n0 := n0, phi := e.phi, ref := e.ref, seg := g.1, key := g.2, base := s.segBase g.2
    abort := decide (cls = .abort), fixed := false, m := 1, dP := 0, got := [], want := [], u := 0, lastUsed := false
    ended := none, fin := .running, hits := 0, told := false }

/-- R165, R170: the admission of a record for heater frame `n0` running manifest `m` at place `alt` of its chain: the band
is latched, the reservations made and the transitions admitted. -/
def admitRec (r n0 alt : Nat) (m : Manifest) (s : State) : State :=
  let band := s.fg F.SEG_STAT_BAND
  let s := s.modRec r fun x =>
    { x with
      manifest := m.number
      altIdx := alt
      admitted := true
      start := n0
      band := band
      waitFrom := none
      hasBmp := decide (m.nent ≠ 0)
      release := m.release
      entries := m.entries.map fun e => ⟨e.slot, .notRun, false, false, 0, false⟩ }
  let s := if m.circuit < 4096 then
      m.entries.foldl (fun s e => if e.spare then s.modSlot e.slot fun x => { x with resv := some m.circuit } else s) s
    else s
  let s := if m.cls = .restore then s.setCircuit m.circuit 1 m.number else s
  (m.entries.zipIdx).foldl (fun s p =>
    s.modSlot p.1.slot fun x => { x with trs := x.trs ++ [newTr s r p.2 n0 band m.cls p.1] }) s

/-- R106: the latest last frame, as known in scheduler frame `f`, of a transition that has not been cancelled. DESIGN CHOICE
(log 65): of one that runs past its planned last frame N under R105, whose end is not known yet, it is N. -/
def Tr.knownLast (t : Tr) (f stepmax : Nat) : Option Nat :=
  if t.fin = .cancelled ∨ t.fin = .notRun then none
  else if t.fixed then
    match t.ended with
    | some e => some e
    | none => some t.planned
  else if t.key = none ∧ t.n0 = add32 f 2 ∧ stepmax ≠ 0 then some (add32 t.n0 15)
  else some (sub32 (add32 t.n0 t.seg.len) 1)

/-- The later of two frames (R34). -/
def laterOf (a : Option Nat) (b : Nat) : Option Nat :=
  match a with
  | some x => if later b x then some b else some x
  | none => some b

/-- R106: E over the slots of a manifest in scheduler frame `f`. -/
def State.latestEnd (s : State) (f : Nat) (m : Manifest) : Option Nat :=
  m.entries.foldl (fun a e =>
    (s.slot e.slot).trs.foldl (fun a t =>
      match t.knownLast f (s.stepMax (bundleOf e.slot)) with
      | some x => laterOf a x
      | none => a) a) none

/-- R106, R159: the frame to which a manifest with start frame `n` would be deferred. -/
def State.defersTo (s : State) (f n : Nat) (m : Manifest) : Option Nat :=
  if m.cls = .abort then none
  else
    match s.latestEnd f m with
    | some e => if notBefore e n then some (add32 e 1) else none
    | none => none

/-! ### Starting entries (R91, R166) -/

/-- R166: why an entry whose slot stands so is not run: 1 OUTSKIP, 2 HOLDSKIP, 3 FAILSKIP, 0 it runs. -/
def State.skipWhy (s : State) (slot : Nat) : Nat :=
  if s.inService slot = false then 1
  else if (s.bun (bundleOf slot)).st = .hold then 2
  else if (s.slot slot).failed then 3
  else 0

/-- R166: a skipped entry's record flag and counter. -/
def noteSkip (why r : Nat) (s : State) : State :=
  match why with
  | 1 => (s.modRec r fun x => { x with outSkip := true }).bump F.MAN_OUTSKIP
  | 2 => (s.modRec r fun x => { x with holdSkip := true }).bump F.MAN_HOLDSKIP
  | _ => (s.modRec r fun x => { x with failSkip := true }).bump F.MAN_FAILSKIP

/-- R91, R166: the transition of a slot that starts on heater frame `n`, started or not run. What is overdue has ended before
(R105), and an ABORT goes first (R107). -/
def startSlot (slot n : Nat) (s : State) : State :=
  let due := (s.slot slot).trs.filter fun t =>
    decide (t.n0 = n) && !t.fixed && decide (t.fin = .running)
  let order := due.filter (·.abort) ++ due.filter (fun t => !t.abort)
  let s := lateEndSlot slot n s
  order.foldl (fun s t =>
    let still := (s.slot slot).trs.any fun o => o.isOf t.recIdx t.entry && decide (o.fin = .running)
    if still then
      let why := s.skipWhy slot
      if why = 0 then trStart slot t s
      else
        noteSkip why t.recIdx (s.mapTrs slot fun o =>
          if o.isOf t.recIdx t.entry then { o with fin := .notRun, ended := some (sub32 n 1) } else o)
    else s) s

/-- R91: every transition that starts on heater frame `n`. -/
def startAll (n : Nat) (s : State) : State :=
  (s.fab.slots.filterMap fun e => if e.2.trs.any (fun t => decide (t.n0 = n) && !t.fixed) then some e.1 else none).foldl
    (fun s k => startSlot k n s) s

/-! ### Cuts (R167) -/

/-- R167: a transition cut, its last frame being heater frame `last`; one that starts after heater frame `begun` is not run.
DESIGN CHOICE (log 65): such an entry has no OUTSKIP or HOLDSKIP, for R166 let it run in engine frame n0 − 2. -/
def cutTr (begun last : Nat) (t : Tr) : Tr :=
  if t.fixed = false ∨ t.fin = .cancelled ∨ t.fin = .notRun then t
  else if later t.n0 begun then { t with fin := .notRun, ended := some (sub32 t.n0 1) }
  else
    match t.ended with
    | some e => if later e last then { t with fin := .cut, ended := some last } else t
    | none => { t with fin := .cut, ended := some last }

/-- R148, R167: a bundle enters PARKED-HOLD at tick `f`: its transitions end with the last heater frame composed, which lies as
many frames back as the bundle has been late in a row. Those that were to start in that run have started (R51, R92). -/
def holdCuts (b f : Nat) (s : State) : State :=
  s.eachSlot b fun n s =>
    s.mapTrs n (cutTr (add32 f 1) (sub32 (add32 f 1) (s.bun b).lateRun))

/-- R21, R167: a slot leaves service at tick `f`. -/
def leaveService (n f : Nat) (s : State) : State :=
  (s.modSlot n fun x =>
    { x with
      serving := false
      e1 := 0
      e2 := 0
      eRes := 0
      word := 0
      used := Drv.zero
      noiseOn := false
      del := Drv.zero }).mapTrs n (cutTr f f)

/-- R21, R64, R125: a slot enters service. -/
def enterService (n : Nat) (s : State) : State :=
  s.modSlot n fun x =>
    { x with
      serving := true
      e1 := 0
      e2 := 0
      eRes := 0
      used := Drv.zero
      del := Drv.zero
      late := false
      noiseOn := false
      trHist := 0
      limP := 0
      limN := 0
      lp := { x.lp with
        base := 0
        hasBase := false
        noBaseGap := false
        noBase := true
        iaccM := 0
        qaccM := 0
        sum := 0
        nv := 0
        gaps := 0 } }

/-! ### The executor's tick (R168, R172 to R174) -/

/-- R173: the bitmap state and cause that a transition's end gives its entry. -/
def entryEnd (e : EntRun) (t : Tr) : EntRun :=
  match t.fin with
  | .done => { e with st := .done, ended := true, tracked := true }
  | .late => { e with st := .done, ended := true, tracked := true }
  | .cut => { e with st := .cut, ended := true }
  | .cancelled => { e with ended := true, cause := 4 }
  | .notRun => { e with ended := true, cause := 5 }
  | .running => e

/-- R173: one ended transition reported to its record at tick `f`. `abortNext`: an ABORT took its slot. A transition reports
once, so that a record allocated afresh hears nothing of it. -/
def reportTr (abortNext : Bool) (t : Tr) (s : State) : State :=
  let x := s.xrec t.recIdx
  match x.entries[t.entry]? with
  | some e =>
    if e.ended || !x.isOpen then s
    else
      let e' := entryEnd e t
      let e' := if t.fin = .cut then { e' with cause := if abortNext then 4 else 5 } else e'
      s.modRec t.recIdx fun x =>
        { x with
          entries := setAt x.entries t.entry e'
          trunc := x.trunc || decide (t.fin = .cancelled) || (decide (t.fin = .cut) && abortNext)
          lateEnd := x.lateEnd || decide (t.fin = .late) }
  | none => s

/-- The transition ended before tick `f`. -/
def Tr.endedBefore (t : Tr) (f : Nat) : Bool :=
  match t.ended with
  | some e => later f e
  | none => false

/-- R107, R167: an ABORT's transition begins where `t` was cut. -/
def abortAfter (x : Slot) (t : Tr) : Bool :=
  x.trs.any fun o => o.abort && o.fixed && decide (o.fin ≠ .notRun)
    && (match t.ended with
      | some e => decide (o.n0 = add32 e 1)
      | none => false)

/-- R173: the ends of a slot's transitions reported at tick `f`. -/
def reportSlot (n f : Nat) (s : State) : State :=
  let x := s.slot n
  let s := (x.trs.filter fun t => t.endedBefore f && !t.told).foldl (fun s t => reportTr (abortAfter x t) t s) s
  s.mapTrs n fun t => if t.endedBefore f then { t with told := true } else t

/-- A slot's transitions that no frame in hand needs any more leave the list; the last setpoint they set stays. -/
def retireSlot (f : Nat) (x : Slot) : Slot :=
  let gone := x.trs.filter fun t => t.endedBefore (sub32 f 2)
  if gone = [] then x
  else
    let set := gone.foldl (fun (p : Nat × Int) t =>
      if t.fixed ∧ t.fin ≠ .cancelled ∧ t.fin ≠ .notRun then (t.phi, t.ref) else p) (x.phi, x.ref)
    { x with phi := set.1, ref := set.2, trs := x.trs.filter fun t => !t.endedBefore (sub32 f 2) }

/-- R145: a slot becomes unsettled at the start frame of a transition. -/
def unsettle (l : Loop) : Loop :=
  { l with uns := true, moved := true, settled := false, setfail := false, tmoDone := false, setrun := 0, setage := 0 }

/-- R174: the DONE entries of a slot that are still tracked, changed by a function. -/
def State.modTracked (s : State) (slot : Nat) (f : EntRun → EntRun) : State :=
  s.modExec fun x =>
    { x with recs := x.recs.map fun r =>
        (r.1, { r.2 with entries := r.2.entries.map fun e => if e.tracked ∧ e.slot = slot then f e else e }) }

/-- R145, R173, R174: what a slot's transitions and settling bring at tick `f`. -/
def slotTick (n f : Nat) (s : State) : State :=
  let s := if (s.slot n).lp.settled then s.modTracked n fun e => { e with st := .settled, tracked := false } else s
  let s := reportSlot n f s
  let starts := (s.slot n).trs.filter fun t => t.begun f && decide (t.n0 = f)
  let s := if starts = [] then s
    else
      let s := s.modTracked n fun e => { e with tracked := false }
      let s := s.modLoop n unsettle
      starts.foldl (fun s t =>
        s.modRec t.recIdx fun x =>
          { x with entries := match x.entries[t.entry]? with
              | some e => setAt x.entries t.entry { e with started := true }
              | none => x.entries }) s
  let x := s.slot n
  let s := if x.mon = none ∧ x.lp.uns = true ∧ x.trs.all (fun t => t.endedBefore f || later t.n0 f) = true then
      s.modLoop n fun l => { l with uns := false, settled := true }
    else s
  s.modSlot n (retireSlot f)

/-- The last frame of the latest entry of record `r` to end, as its transitions give it. -/
def State.lastEnd (s : State) (r : Nat) : Option Nat :=
  s.fab.slots.foldl (fun a e => e.2.trs.foldl (fun a t =>
    if t.recIdx = r ∧ t.fin ≠ .cancelled ∧ t.fin ≠ .notRun then
      match t.ended with
      | some x => laterOf a x
      | none => a
    else a) a) none

/-- The frame in which an admitted record starts, in the numbering of the running frame (R337). -/
def State.startNow (s : State) (x : ExecRec) : Nat :=
  if x.old then add32 x.start (s.fg F.TIM_STEPDELTA_FRAME) else x.start

/-- R168, R172: a record's state at tick `f`. -/
def recTick (r f : Nat) (s : State) : State :=
  let x := s.xrec r
  let s := if x.st = .queued ∧ x.admitted = true ∧ notBefore f (s.startNow x) = true then
      s.modRec r fun x => { x with st := .running }
    else s
  let x := s.xrec r
  if x.st = .running then
    if x.entries = [] then
      if later f (s.startNow x) then finalRec r .done 0 (s.startNow x) (s.bump F.MAN_ZEROCNT) else s
    else if x.entries.all (·.ended) then
      let fin := if x.entries.any (·.started) then (s.lastEnd r).getD (sub32 f 1) else s.startNow x
      finishRec r fin s
    else s
  else s

/-- R161, R172 to R174: the executor at tick `f`. -/
def manTick (f : Nat) (s : State) : State :=
  let s := s.mapSlots fun _ x =>
    match x.ownerNext with
    | some o => { x with owner := o, ownerNext := none }
    | none => x
  let s := (s.fab.slots.filterMap fun e =>
    if e.2.trs ≠ [] ∨ e.2.lp.uns = true ∨ e.2.lp.settled = true then some e.1 else none).foldl
      (fun s n => slotTick n f s) s
  (tkeys s.exec.recs).foldl (fun s r => recTick r f s) s

/-! ### Record bytes (R171, R173) -/

/-- The number of a record state (R172). -/
def RecState.code : RecState → Nat
  | .free => 0 | .queued => 0 | .running => 1 | .done => 2 | .partly => 3 | .void => 4

/-- The number of a class (R159). -/
def ManClass.code : ManClass → Nat
  | .normal => 0 | .abort => 1 | .restore => 2

/-- The number of an entry state (R173). -/
def EntState.code : EntState → Nat
  | .notRun => 0 | .cut => 1 | .done => 2 | .settled => 3

/-- R174: SETSTAT. -/
def ExecRec.setStat (x : ExecRec) : Nat :=
  if x.isOpen ∨ x.st = .free ∨ x.entries.any (·.tracked) = true then 0
  else if x.entries.any (fun e => decide (e.st = .done)) then 2 else 1

/-- R171: NDONE. -/
def ExecRec.nDone (x : ExecRec) : Nat :=
  x.entries.countP fun e => decide (e.st = .done) || decide (e.st = .settled)

/-- R171: NSET. -/
def ExecRec.nSet (x : ExecRec) : Nat := x.entries.countP fun e => decide (e.st = .settled)

/-- R171: FLAGS. -/
def ExecRec.flags (x : ExecRec) : Nat :=
  b2n x.admitted + b2n x.deferred * 2 + b2n x.trunc * 4 + b2n x.lateEnd * 8 + b2n x.holdSkip * 16
    + b2n x.failSkip * 32 + b2n x.outSkip * 64 + b2n x.setFail * 128 + x.setStat * 256 + x.altIdx % 8 * 1024
    + b2n x.tkovr * 8192

/-- R175: the address of the bitmap of record `r`. -/
def State.bmpAddr (s : State) (r : Nat) : Nat := s.fg F.MAN_BMPBASE_ADDR * 32 + 32 * s.bmpSz * r

/-- R171: the 32 bytes of record `r`. -/
def recBytes (s : State) (r : Nat) : List Byte :=
  let x := s.xrec r
  if x.st = .free then List.replicate 32 0
  else
    leBytes 4 (x.execId r) ++ leBytes 2 (x.manifest % 4096 + x.cls.code * 4096)
      ++ leBytes 1 (x.st.code + x.cause * 8) ++ leBytes 1 x.source ++ leBytes 4 x.reqFrame ++ leBytes 4 x.start
      ++ leBytes 4 x.fin ++ leBytes 4 (if x.hasBmp then s.bmpAddr r else 0) ++ leBytes 2 x.entries.length
      ++ leBytes 2 x.nDone ++ leBytes 2 x.nSet ++ leBytes 2 x.flags

/-- Four entries' codes as a byte. -/
def bmpByte (l : List Nat) : Byte := BitVec.ofNat 8 (l.getD 0 0 + 4 * l.getD 1 0 + 16 * l.getD 2 0 + 64 * l.getD 3 0)

/-- R173: byte `k` of the bitmap of record `r`. -/
def bmpAt (s : State) (r k : Nat) : Byte :=
  bmpByte ((((s.xrec r).entries.drop (4 * k)).take 4).map fun e => e.st.code)

/-! ### Commands of the MAN block -/

/-- The slot that MAN.SSEL names; higher values act as 12,287. -/
def State.manSel (s : State) : Nat := Nat.min 12287 (s.fg F.MAN_SSEL_SLOT)

/-- R166: a slot's element marked failed or not. -/
def setFailed (n : Nat) (b : Bool) (s : State) : State := s.modSlot n fun x => { x with failed := b }

/-- The meaning of SLOTCFG_FSET (R166). -/
def execSlotcfgFset (s : State) : Out := .next (setFailed s.manSel true s)

/-- The meaning of SLOTCFG_FCLR (R166). -/
def execSlotcfgFclr (s : State) : Out := .next (setFailed s.manSel false s)

/-- R160: an owner that is not reserved. -/
def ownerLegal (o : Nat) : Bool := decide (o ≤ 64) || decide (o = 255)

/-- R10, R161: an owner set from the next tick; a reserved one is refused. -/
def setOwner (n o : Nat) (s : State) : State :=
  if ownerLegal o then s.modSlot n fun x => { x with ownerNext := some o } else s.rsvdEnc

/-- The meaning of SLOTCFG_OWNER_WRITE (R161). -/
def execSlotcfgOwnerWrite (v : Word) (s : State) : Out := .next (setOwner s.manSel (v.toNat % 256) s)

/-- MAN.CSTAT.CLRDOWN: a DOWN circuit becomes NORMAL. -/
def clrDown (c : Nat) (s : State) : State := if (s.circuit c).st = 2 then s.setCircuit c 0 0 else s

/-- The meaning of CSTAT_CLRDOWN (R170). -/
def execCstatClrdown (s : State) : Out := .next (clrDown (s.fg F.MAN_CSEL_CIRCUIT) s)

/-- The statistic clear of MAN. -/
def manStatclr (s : State) : State :=
  s.fresetAll [F.MAN_ALLOCCNT, F.MAN_DONECNT, F.MAN_PARTCNT, F.MAN_VOIDCNT, F.MAN_ZEROCNT, F.MAN_NOROUTECNT,
    F.MAN_HOLDSKIP, F.MAN_FAILSKIP, F.MAN_OUTSKIP, F.MAN_NOSPCNT]

/-- The meaning of MAN_STATCLR (R4). -/
def execManStatclr (s : State) : Out := .next (manStatclr s)

/-! ### Settling (R145, R146) -/

/-- R145: a slot whose run count has reached SETCNT is settled. -/
def slotSettled (n : Nat) (s : State) : State :=
  let l := (s.slot n).lp
  let c := s.coef (bundleOf n)
  if l.uns ∧ (if c.setcnt = 0 then 1 else c.setcnt) ≤ l.setrun then
    s.modLoop n fun l => { l with uns := false, settled := true, setfail := false }
  else s

/-- The meaning of SLOT_SETTLED (R145). -/
def execSlotSettled (slot : Fin 12288) (s : State) : Out := .next (slotSettled slot.val s)

/-- R146, R174: a slot unsettled after SETTMO evaluated updates, once for its transition. -/
def settleTimeout (n : Nat) (s : State) : State :=
  let l := (s.slot n).lp
  let t := (s.coef (bundleOf n)).settmo
  if l.uns ∧ t ≠ 0 ∧ t ≤ l.setage ∧ l.tmoDone = false then
    let s := s.modLoop n fun l => { l with setfail := true, tmoDone := true }
    let s := (s.bump F.MOR_SETFAIL).raise 5
    s.modExec fun x =>
      { x with recs := x.recs.map fun r =>
          if r.2.entries.any (fun e => e.tracked && decide (e.slot = n)) then (r.1, { r.2 with setFail := true }) else r }
  else s

/-- The meaning of SETTLE_TIMEOUT (R146). -/
def execSettleTimeout (slot : Fin 12288) (s : State) : Out := .next (settleTimeout slot.val s)

end Sys2Proof.Machine
end

