-- ==== Sys2Proof/Machine/Tide.lean ====
section
/-! DEFINITION. The tide tables (08): entries, arming, stopping, starting and advancing. The rows that happen at a tick
are sent just before it and act on the coming frame. -/
namespace Sys2Proof.Machine

/-- The tide state changed by a function. -/
def State.modTide (s : State) (f : TideSt → TideSt) : State := { s with tide := f s.tide }

/-- Table TT0 or TT1. -/
def State.tideTab (s : State) (i : Nat) : TideTab := s.tide.tabs.getD i TideTab.init

/-- The shadow table (08). -/
def State.shadowTab (s : State) : TideTab := s.tideTab s.tide.shadow

/-- The table that is not the shadow, active while one runs. -/
def State.activeTab (s : State) : TideTab := s.tideTab (1 - s.tide.shadow)

/-- A table changed by a function. -/
def State.modTab (s : State) (i : Nat) (f : TideTab → TideTab) : State :=
  s.modTide fun t => { t with tabs := setAt t.tabs i (f (s.tideTab i)) }

/-- Word `w` of entry `e` (R201). -/
def TideTab.word (t : TideTab) (e w : Nat) : Nat := tget 0 t.words (4 * e + w)

/-- DUR (R201). -/
def TideTab.dur (t : TideTab) (e : Nat) : Nat := t.word e 0 % 65536

/-- MANIFEST (R201). -/
def TideTab.man (t : TideTab) (e : Nat) : Nat := t.word e 0 / 65536 % 4096

/-- FIRE (R201). -/
def TideTab.fire (t : TideTab) (e : Nat) : Bool := (t.word e 0).testBit 31

/-- QUIET (R201). -/
def TideTab.quiet (t : TideTab) (e : Nat) : Bool := (t.word e 1).testBit 0

/-- The gate of queue `q` (R201). -/
def TideTab.gate (t : TideTab) (e q : Nat) : Bool := (t.word e (2 + q / 32)).testBit (q % 32)

/-- The entries of a table, at most 1,024. -/
def TideTab.ents (t : TideTab) : Nat := Nat.min 1024 t.hdr.nent

/-- R200: the sum of the durations. -/
def TideTab.cycle (t : TideTab) : Nat := ((List.range t.ents).map t.dur).foldl (· + ·) 0

/-- R204: the entry at frame `k` of a cycle, and the frames of it that have passed before `k`. -/
def TideTab.entryAt (t : TideTab) (k : Nat) : Nat × Nat :=
  let r := (List.range t.ents).foldl (fun (p : Option Nat × Nat) e =>
    match p.1 with
    | some _ => p
    | none => if p.2 < t.dur e then (some e, p.2) else (none, p.2 - t.dur e)) (none, k)
  (r.1.getD 0, r.2)

/-- R202: an entry's reserved fields are zero, and its MANIFEST without FIRE. -/
def TideTab.rsvdOk (t : TideTab) (e : Nat) : Bool :=
  decide (bitsAt (t.word e 0) 28 3 = 0) && decide (t.word e 1 < 2) && (t.fire e || decide (t.man e = 0))

/-- R202: a firing entry names a valid manifest and is not QUIET. -/
def fireOk (s : State) (t : TideTab) (e : Nat) : Bool := !t.fire e || ((s.man (t.man e)).isSome && !t.quiet e)

/-- R202, TID.STAT.REASON: why a table is not valid, or 0. -/
def tideReason (s : State) (t : TideTab) : Nat :=
  let es := List.range t.ents
  if t.hdr.nent = 0 then 1
  else if 1024 < t.hdr.nent then 2
  else if es.any (fun e => decide (t.dur e = 0)) then 3
  else if 2 ^ 26 < t.cycle then 4
  else if !es.all (fireOk s t) then 5
  else if !es.all t.rsvdOk then 6
  else 0

/-! ### Arming and stopping -/

/-- R206: an ARM or STOP refused for a reason. -/
def tideRefuse (reason : Nat) (s : State) : State := (s.fs F.TID_STAT_REFUSED 1).fs F.TID_STAT_REASON reason

/-- The next cycle boundary of the running table after the running frame. -/
def State.nextBoundary (s : State) : Nat := add32 s.frame (((s.activeTab.cycle : Nat) : Int) - s.tide.off).toNat

/-- R208, R211: the first of the frames `b`, `b` + `cyc`, … that is `a` or later, and `base` or later. -/
def firstBoundary (b cyc a : Nat) : Nat :=
  if notBefore b a then b else add32 b ((sub32 a b + cyc - 1) / cyc * cyc)

/-- R208: the earliest boundary that an armed table may start on. -/
def armBound (a base : Nat) : Nat := if later base a then base else a

/-- R207: the start frame when no table runs; N when the base is past. -/
def lateStart (a base cyc : Nat) : Nat × Option Nat :=
  if notBefore base a then (base, none)
  else
    let n := (sub32 a base + cyc - 1) / cyc
    (add32 base (n * cyc), some n)

/-- R207 to R209: the start frame of an armed table, and N where R207's past case applies. -/
def State.armStart (s : State) (a : Nat) : Nat × Option Nat :=
  let t := s.shadowTab
  if s.tide.run then
    match s.tide.stopAt with
    | some e => if notBefore e (armBound a t.hdr.base) then (e, none) else lateStart a t.hdr.base t.cycle
    | none => (firstBoundary s.nextBoundary s.activeTab.cycle (armBound a t.hdr.base), none)
  else lateStart a t.hdr.base t.cycle

/-- R203: a tide-table object goes into table `k`, the shadow at its COMMIT. An ARM that has frozen it since has frozen it with
that object in it (tideSettle). -/
def placeTide (k : Nat) (t : TideTab) (s : State) : State :=
  if s.tide.shadow = k ∧ s.tide.pstart = none then s.modTab k fun _ => t else s

/-- R206, R316: a table whose COMMIT has been answered and that takes effect at a coming tick is in the shadow that an ARM
freezes. -/
def tideSettle (s : State) : State :=
  match s.pen.install with
  | some x =>
    match x.obj with
    | .tide k t => placeTide k t s
    | _ => s
  | none => s

/-- R206, R316: the arming frame A of an ARM. DESIGN CHOICE (log 22): with a committed table that is in force from a later frame
than f + 4, it is that frame. -/
def State.armFrame (s : State) : Nat :=
  let a := add32 s.frame 4
  match s.pen.install with
  | some ⟨f, .tide _ _, _⟩ => if later f a then f else a
  | _ => a

/-- R206: an ARM in the running frame. DESIGN CHOICE (log 69): of several refusals the recorded one is PENDING, then the first of
R202's in the order of the table of REASON, then WINDOW. -/
def tideArm (s : State) : State :=
  let a := s.armFrame
  let s0 := s
  let s := tideSettle s
  let t := s.shadowTab
  if s.tide.pstart.isSome ∨ s.tide.stopCmd = true then tideRefuse 8 s0
  else if tideReason s t ≠ 0 then tideRefuse (tideReason s t) s0
  else if later t.hdr.base a = true ∧ Nat.min (2 ^ 30) (s.fg F.TIM_ARMWIN_FRAMES) < sub32 t.hdr.base a then tideRefuse 7 s0
  else
    let p := s.armStart a
    let s := (s.modTide fun x => { x with pstart := some p.1 }).fs F.TID_PSTART_FRAME p.1
    match p.2 with
    | some n => (s.fs F.TID_STAT_LATEBASE 1).fs F.TID_LATEN_N n
    | none => s

/-- The meaning of TIDE_ARM (R206). -/
def execTideArm (s : State) : Out := .next (tideArm s)

/-- R210: a CANCEL ends a pending arm in a frame earlier than PSTART − 3. -/
def tideCancel (s : State) : State :=
  match s.tide.pstart with
  | some p => if later (sub32 p 3) s.frame then s.modTide fun x => { x with pstart := none } else s
  | none => s

/-- The meaning of TIDE_CANCEL (R210). -/
def execTideCancel (s : State) : Out := .next (tideCancel s)

/-- R211: a STOP in the running frame. -/
def tideStop (s : State) : State :=
  if s.tide.pstart.isSome then tideRefuse 8 s
  else if s.tide.run = false ∨ s.tide.stopCmd = true then s
  else
    let at_ := match s.tide.stopAt with
      | some e => e
      | none => firstBoundary s.nextBoundary s.activeTab.cycle (add32 s.frame 4)
    s.modTide fun x => { x with stopCmd := true, stopAt := some at_ }

/-- The meaning of TIDE_STOP (R211). -/
def execTideStop (s : State) : Out := .next (tideStop s)

/-- The statistic clear of TID. -/
def tidStatclr (s : State) : State := s.fresetAll [F.TID_FIRECNT, F.TID_FIREREF, F.TID_FIREVOID, F.TID_COLLIDE]

/-- The meaning of TID_STATCLR (R4). -/
def execTidStatclr (s : State) : Out := .next (tidStatclr s)

/-- R204, R205, R208: the armed table starts on the coming frame, and the tables exchange roles. -/
def tideStart (s : State) : State :=
  match s.tide.pstart with
  | some p =>
    if p = s.coming then
      let t := s.shadowTab
      let s := s.modTide fun x =>
        { x with
          shadow := 1 - x.shadow
          run := true
          off := -1
          pstart := none
          stopAt := if t.hdr.oneshot then some (add32 p t.cycle) else none
          stopCmd := false
          start := p
          cycles := 0 }
      (s.fs F.TID_ACYCLE_CYCLE t.cycle).raise 11
    else s
  | none => s

/-- The meaning of TIDE_START (R207, R208). -/
def execTideStart (s : State) : Out := .next (tideStart s)

/-- R211: the running table stops on the coming frame. -/
def tideTableStop (s : State) : State :=
  if s.tide.run = true ∧ s.tide.stopAt = some s.coming ∧ s.tide.pstart ≠ some s.coming then
    s.modTide fun x => { x with run := false, stopAt := none, stopCmd := false }
  else s

/-- The meaning of TIDE_TABLE_STOP (R211). -/
def execTideTableStop (s : State) : Out := .next (tideTableStop s)

/-- R212: the frame in which TB3 steps. -/
def tideStepStop (s : State) : State :=
  (s.modTide fun x => { x with run := false, pstart := none, stopAt := none, stopCmd := false }).fs F.TID_STAT_STEPSTOP 1

/-- R213: the device enters ACTIVE or SOLO at the coming tick: the first time, TT0 is to be armed in the coming frame. -/
def tideAutoDue (s : State) : State := s.modTide fun x => { x with autoDone := true, autoDue := !x.autoDone }

/-- R213: TT0 is armed in the frame in which the device first entered ACTIVE or SOLO, as by an ARM written in it. DESIGN CHOICE
(log 69): where TT0 is not the shadow then, nothing is armed, at that entry or at a later one. -/
def tideAutoArm (s : State) : State :=
  if s.tide.autoDue then
    let s := s.modTide fun x => { x with autoDue := false }
    if s.tide.shadow = 0 ∧ (s.tideTab 0).hdr.autoarm = true then tideArm s else s
  else s

/-- R204, R205: the running table moves on by one frame at a tick. -/
def tideAdvance (s : State) : State :=
  if s.tide.run then
    let o := s.tide.off + 1
    if o = ((s.activeTab.cycle : Nat) : Int) then
      s.modTide fun x => { x with off := 0, cycles := add32 x.cycles 1 }
    else s.modTide fun x => { x with off := o }
  else s

/-- What the scheduler reads of the tide tables for a heater frame: the table (0 or 1), the entry in force, the frames
of it that have passed and the frames that remain after this one. -/
structure TideRead where
  tab : Nat
  entry : Nat
  into : Nat
  remain : Nat
  deriving DecidableEq, Repr

/-- The reading of table `i` at frame `k` of a cycle. -/
def State.readTab (s : State) (i k : Nat) : TideRead :=
  let t := s.tideTab i
  let p := t.entryAt k
  ⟨i, p.1, p.2, t.dur p.1 - p.2 - 1⟩

/-- R204: the entry in force for heater frame `n`, not before the running frame, as read in the running frame. -/
def State.tideRead (s : State) (n : Nat) : Option TideRead :=
  let pend := match s.tide.pstart with
    | some p => notBefore n p
    | none => false
  let stopped := match s.tide.stopAt with
    | some e => notBefore n e
    | none => false
  if pend then
    let k := sub32 n (s.tide.pstart.getD 0)
    let t := s.shadowTab
    if t.hdr.oneshot = true ∧ t.cycle ≤ k then none else some (s.readTab s.tide.shadow (k % t.cycle))
  else if s.tide.run = true ∧ stopped = false then
    some (s.readTab (1 - s.tide.shadow) (((s.tide.off.toNat) + sub32 n s.frame) % s.activeTab.cycle))
  else none

/-- TID.POS (08): the entry most recently read by the scheduler. -/
def tidePos (s : State) : State :=
  match s.tideRead (add32 s.frame 3) with
  | some r => (s.fs F.TID_POS_ENTRY r.entry).fs F.TID_POS_REMAIN r.remain
  | none => s

/-! ### Building the shadow (R203, TID registers) -/

/-- A write of a shadow register, ignored with WERR while an arm is pending. -/
def shadowWrite (f : TideTab → TideTab) (s : State) : State :=
  if s.tide.pstart.isSome then s.fs F.TID_STAT_WERR 1 else s.modTab s.tide.shadow f

/-- TID.SHDR written. -/
def shdrWrite (v : Nat) : State → State :=
  shadowWrite fun t => { t with hdr := { t.hdr with nent := v % 2048, oneshot := v.testBit 16, autoarm := v.testBit 17 } }

/-- TID.SBASE written. -/
def sbaseWrite (v : Nat) : State → State := shadowWrite fun t => { t with hdr := { t.hdr with base := v % 2 ^ 32 } }

/-- TID.EWw written. -/
def ewWrite (w v : Nat) (s : State) : State :=
  shadowWrite (fun t => { t with words := tset 0 t.words (4 * s.fg F.TID_ESEL_ENTRY + w) (v % 2 ^ 32) }) s

/-- TID.EWw read. -/
def ewRead (w : Nat) (s : State) : Nat :=
  (if s.flag F.TID_ESEL_ACTSEL then s.activeTab else s.shadowTab).word (s.fg F.TID_ESEL_ENTRY) w

end Sys2Proof.Machine
end

