-- ==== Sys2Proof/Machine/Scheduler.lean ====
section
/-! DEFINITION. Request queues, shaping and admission (07). In frame f the scheduler decides for heater frame n = f + 3
(R39). -/
namespace Sys2Proof.Machine

/-- The scheduler changed by a function. -/
def State.modSched (s : State) (f : SchedSt → SchedSt) : State := { s with sched := f s.sched }

/-- Queue `q`. -/
def State.que (s : State) (q : Nat) : ReqQueue := tget ReqQueue.init s.sched.queues q

/-- Queue `q` changed by a function. -/
def State.modQue (s : State) (q : Nat) (f : ReqQueue → ReqQueue) : State :=
  s.modSched fun x => { x with queues := tmod ReqQueue.init x.queues q f }

/-- W_q (R187). -/
def State.weight (s : State) (q : Nat) : Nat := Nat.max 1 (s.fgi F.SCH_QCFG_WEIGHT q)

/-- DEPTH in force (07, SCH.QCFG). -/
def State.depth (s : State) (q : Nat) : Nat := Nat.min 1024 (Nat.max 1 (s.fgi F.SCH_QCFG_DEPTH q))

/-- BURST in force, in milliunits (R183). -/
def State.burst (s : State) (q : Nat) : Int := ((Nat.min (2 ^ 24) (s.fgi F.SCH_QBURST_BURST q) * 1000 : Nat) : Int)

/-- R191: the gate of queue `q` for heater frame `n`. -/
def State.gateOpen (s : State) (q n : Nat) : Bool :=
  s.flagi F.SCH_QCFG_GATEIGN q ||
    match s.tideRead n with
    | some r => (s.tideTab r.tab).gate r.entry q
    | none => true

/-! ### Accepting a request (R179, R184) -/

/-- The answer to an APPLY (R164, R179). -/
inductive ApplyRes where
  | ok (r : Nat)
  | denied | gated | busy | policed | unknown | noroute | nospace
  deriving DecidableEq, Repr

/-- R184: the work units a request of position `no` costs. -/
def State.reqCost (s : State) (no : Nat) : Nat :=
  match s.man no with
  | some m => m.nent
  | none => 0

/-- R180: a record joins the tail of its queue. -/
def joinQueue (q r : Nat) (s : State) : State :=
  let s := s.modQue q fun x => { x with recs := x.recs ++ [r] }
  s.mark F.SCH_QHWM_DEPTH q (s.que q).recs.length

/-- R164, R184: the executor's answer to a request in queue `q`, the police charge made first and returned on refusal. -/
def acceptRequest (q no reqFrame : Nat) (s : State) : ApplyRes × State :=
  let cost : Int := ((s.reqCost no * 1000 : Nat) : Int)
  let police := decide ((s.que q).mode = 1)
  if police ∧ (s.que q).bal < cost then (.policed, s.bump F.SCH_POLCNT)
  else
    let a := manRequest q no reqFrame s
    match a.1 with
    | .ok r => (.ok r, joinQueue q r (a.2.when police fun s => s.modQue q fun x => { x with bal := x.bal - cost }))
    | .unknown => (.unknown, a.2)
    | .denied => (.denied, a.2)
    | .noroute => (.noroute, a.2)
    | .nospace => (.nospace, a.2)

/-- R178, R179: an APPLY of session `sidx` for a start frame. -/
def applyRequest (sidx no reqFrame : Nat) (s : State) : ApplyRes × State :=
  let q := s.fgi F.SCH_SMAPs_QUEUE sidx
  if s.flagi F.SCH_SMAPs_VALID sidx = false then (.denied, s.bump F.SCH_DENYCNT)
  else if s.flagi F.SCH_QCFG_EN q = false then (.denied, s.bump F.SCH_DENYCNT)
  else if s.flagi F.SCH_QCFG_GATEREJ q = true ∧ s.gateOpen q (add32 s.frame 3) = false then (.gated, s.bump F.SCH_GATEDCNT)
  else if s.depth q ≤ (s.que q).recs.length then (.busy, s.bump F.SCH_BUSYCNT)
  else acceptRequest q no reqFrame s

/-! ### Token buckets (R183, R185, R186) -/

/-- The least balance (R183). -/
def balMin : Int := -(2 ^ 47)

/-- R183, R186: the credit of a tick and its limit, and the mode in force from it. -/
def creditQueue (q : Nat) (s : State) : State :=
  s.modQue q fun x =>
    { x with
      mode := s.fgi F.SCH_QCFG_MODE q
      bal := clampI balMin (s.burst q) (x.bal + ((s.fgi F.SCH_QRATE_RATE q : Nat) : Int)) }

/-- R183: every queue's credit at a tick. -/
def creditAll (s : State) : State := (List.range 64).foldl (fun s q => creditQueue q s) s

/-- R185: the shape-mode charge of an admission. -/
def shapeCharge (q nent : Nat) (s : State) : State :=
  if (s.que q).mode = 2 then
    let b := (s.que q).bal - ((nent * 1000 : Nat) : Int)
    let s := if b < balMin then s.bump F.SCH_BALSAT else s
    s.modQue q fun x => { x with bal := if b < balMin then balMin else b }
  else s

/-! ### Fair sharing (R187, R188) -/

/-- R187: tag `a` is later than tag `b`, modulo 2^48. -/
def tagLater (a b : Nat) : Bool :=
  let d := (a + (2 ^ 48 - b % 2 ^ 48)) % 2 ^ 48
  decide (1 ≤ d) && decide (d < 2 ^ 47)

/-- The later of two tags. -/
def tagMax (a b : Nat) : Nat := if tagLater b a then b else a

/-- R187: the start tag of queue `q`. -/
def State.startTag (s : State) (q : Nat) : Nat := tagMax (s.que q).ft s.sched.vt

/-- R187: the finish tag of a head of cost `c` in queue `q`. -/
def State.finishTag (s : State) (q c : Nat) : Nat :=
  (s.startTag q + (Nat.max c 1 * 256 + s.weight q - 1) / s.weight q) % 2 ^ 48

/-- R188: a finish tag that lies more than 2^46 behind a virtual time is set to it. -/
def catchUp (vt ft : Nat) : Nat :=
  if tagLater vt ft = true ∧ 2 ^ 46 < (vt + (2 ^ 48 - ft % 2 ^ 48)) % 2 ^ 48 then vt else ft

/-- R187, R188: the tags on the admission of a head of cost `c`. -/
def chargeTags (q c : Nat) (s : State) : State :=
  let st := s.startTag q
  let t := s.finishTag q c
  let vt := tagMax s.sched.vt st
  let s := s.modQue q fun x => { x with ft := t }
  if vt = s.sched.vt then s
  else
    (List.range 64).foldl (fun s k => s.modQue k fun x => { x with ft := catchUp vt x.ft })
      (s.modSched fun x => { x with vt := vt })

/-! ### The power ledger (R193 to R197) -/

/-- R194: the contribution of a declaration to heater frame `n`. -/
def Declared.atFrame (d : Declared) (n : Nat) : Int :=
  if later d.n0 n then 0
  else
    let k := sub32 n d.n0
    if k < d.prof.length then d.prof.getD k 0 else d.net

/-- X[n] (R193), up to declarations whose contribution no longer changes. -/
def State.xAt (s : State) (n : Nat) : Int := sumI (s.sched.decl.map fun d => d.atFrame n)

/-- P[n] in frame `f` (R193). -/
def State.predict (s : State) (f n : Nat) : Int := s.sched.meas + s.xAt n - s.xAt (add32 f 1)

/-- R194: what a manifest would declare at start frame `n0` under the band in force. -/
def State.declare (s : State) (m : Manifest) (n0 : Nat) : Declared :=
  let b := s.fg F.SEG_STAT_BAND
  ⟨n0, m.prof.getD b [], m.net.getD b 0⟩

/-- R196: the limit of a class; a firing is checked against PBUDGET. -/
def State.limitOf (s : State) (cls : ManClass) (firing : Bool) : Int :=
  let b := s.fg F.SCH_PBUDGET_LIMIT
  let v := if firing = true ∨ cls ≠ .normal then b else Nat.min b (s.fg F.SCH_PNORM_LIMIT)
  (v : Int)

/-- R196: the highest P[n] plus contribution over the 256 frames checked. -/
def State.peak (s : State) (f : Nat) (d : Declared) : Int :=
  ((List.range 256).map fun i => let n := add32 d.n0 i; s.predict f n + d.atFrame n).foldl max (s.predict f d.n0 + d.atFrame d.n0)

/-- R196: a candidate passes the ledger. -/
def State.ledgerOk (s : State) (f n0 : Nat) (m : Manifest) (firing : Bool) : Bool :=
  decide (m.profLen = 0) || decide (s.peak f (s.declare m n0) ≤ s.limitOf m.cls firing)

/-- R194, R199: the declaration of an admitted manifest, and the ledger's high-water mark. -/
def ledgerAdd (f n0 : Nat) (m : Manifest) (s : State) : State :=
  if m.profLen = 0 then s
  else
    (s.mark F.SCH_PHWM_POWER 0 (s.peak f (s.declare m n0)).toNat).modSched fun x =>
      { x with decl := x.decl ++ [s.declare m n0] }

/-- R193: declarations that no longer change leave the ledger once frame `c` has passed them. -/
def ledgerPrune (c : Nat) (s : State) : State :=
  s.modSched fun x => { x with decl := x.decl.filter fun d => !notBefore c (add32 d.n0 d.prof.length) }

/-- R193: |V| of a slot for the frame its quay last used, limited to g_r, in codes. -/
def State.slotPower (s : State) (n c : Nat) : Nat :=
  let q := quayOf n
  Nat.min (s.slot n).used.v.natAbs ((s.quay q).gain.getD (s.rangeAt q c) 0x8000 * 32)

/-- R193: the composed power M[c] in power units, rounded to the nearest, and SCH.PMEAS. DESIGN CHOICE (log 32): a sum halfway
between two units is rounded upwards. -/
def measurePower (c : Nat) (s : State) : State :=
  let codes : Nat := (s.fab.slots.filterMap fun e => if e.2.serving then some (s.slotPower e.1 c) else none).foldl (· + ·) 0
  let m : Nat := (codes + 512) / 1024
  ((s.modSched fun x => { x with meas := (m : Int) }).fs F.SCH_PMEAS_POWER (Nat.min m (2 ^ 24 - 1))).fs F.SCH_PMEAS_FRAME c

/-! ### Candidates (R181, R182, R189) -/

/-- The manifest a record would run now, with its place in its chain (R165, R169). -/
def State.planOf (s : State) (x : ExecRec) : Option (Nat × Manifest) :=
  match s.headOf x with
  | some m => s.choose m
  | none => none

/-- The cost of a queued record (07): the NENT of what it would run now, else of its head. -/
def State.recCost (s : State) (x : ExecRec) : Nat :=
  match s.planOf x with
  | some p => p.2.nent
  | none => x.entries.length

/-- The tier of a class (R189). -/
def ManClass.tier : ManClass → Nat
  | .abort => 1 | .restore => 2 | .normal => 3

/-- The rank of a head (R189). -/
structure Rank where
  tier : Nat
  tag : Nat
  q : Nat
  deriving DecidableEq, Repr

/-- R189: rank `a` comes before rank `b`. -/
def Rank.before (a b : Rank) : Bool :=
  if a.tier ≠ b.tier then decide (a.tier < b.tier)
  else if tagLater b.tag a.tag then true
  else if tagLater a.tag b.tag then false
  else decide (a.q < b.q)

/-- The rank of the head record of queue `q`. -/
def State.rankOf (s : State) (q : Nat) (x : ExecRec) : Rank := ⟨x.cls.tier, s.finishTag q (s.recCost x), q⟩

/-- R192: a head waits out a deferral in frame `f`. -/
def ExecRec.waits (x : ExecRec) (f : Nat) : Bool :=
  match x.waitFrom with
  | some w => later w f
  | none => false

/-- R182: why the head of queue `q` is not eligible in frame `f` (the codes of SCH.QSTAT.WAIT), or 0. -/
def State.whyNot (s : State) (f q : Nat) (x : ExecRec) : Nat :=
  let n := add32 f 3
  if x.waits f then 4
  else if later x.start n then 1
  else if s.gateOpen q n = false then 2
  else if (s.que q).mode = 2 ∧ (s.que q).bal < 0 then 3
  else 0

/-- The eligible heads in frame `f`: queue, record and rank (R182). -/
def State.heads (s : State) (f : Nat) : List (Nat × Nat × Rank) :=
  s.sched.queues.filterMap fun e =>
    match e.2.recs.head? with
    | some r => if s.whyNot f e.1 (s.xrec r) = 0 then some (e.1, r, s.rankOf e.1 (s.xrec r)) else none
    | none => none

/-- R189: the best of the eligible heads. -/
def bestHead (l : List (Nat × Nat × Rank)) : Option (Nat × Nat × Rank) :=
  l.foldl (fun b h => match b with
    | none => some h
    | some o => if h.2.2.before o.2.2 then some h else some o) none

/-! ### Admission (R189, R190) -/

/-- What the procedure of R189 has done so far in the frame: admissions, candidates examined, the rank that blocks, the
queues whose head the ledger refused, and whether it has stopped. -/
structure AdmRun where
  admitted : Nat
  examined : Nat
  blocked : Option Rank
  refused : List Nat
  stopped : Bool
  deriving DecidableEq, Repr

/-- R165: the checks of an admission: the record's request is still allowed to run `m`. -/
def State.admitOk (s : State) (x : ExecRec) (m : Manifest) : Bool :=
  (decide (m.nent = 0)) || (s.ownsAll x.source m && s.resvAll m)

/-- R170: no alternative is usable at admission. -/
def noRoute (r f : Nat) (s : State) : State :=
  let x := s.xrec r
  let s := ((finalRec r .void 3 f s).setCircuit x.circuit 2 0).bump F.MAN_NOROUTECNT
  (s.raise 8).logFault 0x5004 x.circuit x.head

/-- The head of queue `q` leaves it (R180). -/
def popQueue (q : Nat) (s : State) : State := s.modQue q fun x => { x with recs := x.recs.tail }

/-- R106, R192: a head deferred to heater frame `n1`. -/
def deferHead (r n1 : Nat) (s : State) : State :=
  (s.modRec r fun x => { x with start := n1, deferred := true, waitFrom := some (sub32 n1 3) }).bump F.SEG_DEFERCNT

/-- R197: a head refused by the ledger. -/
def powerWait (q r n : Nat) (rk : Rank) (run : AdmRun) (s : State) : AdmRun × State :=
  let s := ((s.modRec r fun x => { x with start := add32 n 1 }).bump F.SCH_PWRWAIT).fs F.SCH_STAT_PWRQ q
  let strict := decide (s.fg F.SCH_PWRCFG_ORDER = 0)
  ({ run with
      refused := q :: run.refused
      blocked := if strict && run.blocked.isNone then some rk else run.blocked }, s)

/-- R189: the head of queue `q` admitted for heater frame `n`. -/
def admitHead (f n q r alt : Nat) (m : Manifest) (s : State) : State :=
  let req := (s.xrec r).reqFrame
  let s := chargeTags q m.nent (shapeCharge q m.nent (popQueue q s))
  let s := ledgerAdd f n m (admitRec r n alt m s)
  ((s.bump F.SCH_ADMCNT).bumpi F.SCH_QADM_VALUE q).mark F.SCH_QLATHWM_VALUE q (sub32 n req)

/-- R165, R189: one candidate examined. DESIGN CHOICE (log 69): for a RESTORE the checks of R165 are made of the alternative that
would run now, so that a chain without a usable one ends with NOROUTE before it could end with DENIED. -/
def examineHead (f q r : Nat) (rk : Rank) (run : AdmRun) (s : State) : AdmRun × State :=
  let n := add32 f 3
  let x := s.xrec r
  match s.headOf x, s.planOf x with
  | some _, some p =>
    match s.defersTo f n p.2 with
    | some n1 => (run, deferHead r n1 s)
    | none =>
      if s.admitOk x p.2 = false then (run, (popQueue q (finalRec r .void 2 f s)).bump F.SCH_VOIDDEN)
      else if s.ledgerOk f n p.2 false = false then powerWait q r n rk run s
      else ({ run with admitted := run.admitted + 1 }, admitHead f n q r p.1 p.2 s)
  | some _, none => (run, popQueue q (noRoute r f s))
  | none, _ => (run, (popQueue q (finalRec r .void 2 f s)).bump F.SCH_VOIDDEN)

/-- R189: the loop over the queues' heads. -/
def admitLoop (f : Nat) : Nat → AdmRun → State → AdmRun × State
  | 0, run, s => (run, s)
  | fuel + 1, run, s =>
    if run.stopped = true ∨ 4 ≤ run.admitted ∨ 8 ≤ run.examined then (run, s)
    else
      match bestHead (s.heads f) with
      | none => ({ run with stopped := true }, s)
      | some h =>
        let behind := match run.blocked with
          | some b => b.before h.2.2
          | none => false
        if behind then ({ run with stopped := true }, s)
        else
          let a := examineHead f h.1 h.2.1 h.2.2 { run with examined := run.examined + 1 } s
          admitLoop f fuel a.1 a.2

/-- R215 to R217: a firing that does not run. -/
def fireFail (f : Nat) (counters : List Fld) (r cause : Nat) (s : State) : State :=
  ((counters.foldl (fun s c => s.bump c) (finalRec r .void cause f s)).bump F.TID_FIREVOID).raise 10

/-- R190: a firing's record examined. -/
def examineFiring (f r : Nat) (s : State) : Bool × State :=
  let n := add32 f 3
  let x := s.xrec r
  match s.planOf x with
  | none => (false, (noRoute r f s).bump F.TID_FIREVOID |>.raise 10)
  | some p =>
    match s.defersTo f n p.2 with
    | some _ => (false, fireFail f [F.TID_COLLIDE] r 6 s)
    | none =>
      if s.admitOk x p.2 = false then (false, fireFail f [] r 2 s)
      else if s.ledgerOk f n p.2 true = false then (false, fireFail f [F.SCH_TIDEPWR] r 6 s)
      else (true, ((ledgerAdd f n p.2 (admitRec r n p.1 p.2 s)).bump F.SCH_ADMCNT).bump F.TID_FIRECNT)

/-- R190, R215: the firing of frame `f`, if the table fires for heater frame f + 3. -/
def tideFire (f : Nat) (s : State) : AdmRun × State :=
  let run : AdmRun := ⟨0, 0, none, [], false⟩
  match s.tideRead (add32 f 3) with
  | some t =>
    let tb := s.tideTab t.tab
    if t.into = 0 ∧ tb.fire t.entry = true then
      let a := manRequest (64 + t.tab) (tb.man t.entry) (add32 f 3) s
      match a.1 with
      | .ok r =>
        let b := examineFiring f r a.2
        ({ run with examined := 1, admitted := b2n b.1 }, b.2)
      | .nospace => (run, ((a.2.bump F.TID_FIREREF).bump F.MAN_NOSPCNT).raise 10)
      | _ => (run, (a.2.bump F.TID_FIREREF).raise 10)
    else (run, s)
  | none => (run, s)

/-- SCH.QSTAT.WAIT of every queue after the procedure (07). -/
def noteWaits (f : Nat) (run : AdmRun) (s : State) : State :=
  let full := decide (4 ≤ run.admitted) || decide (8 ≤ run.examined)
  (tkeys s.sched.queues).foldl (fun s q =>
    let w := match (s.que q).recs.head? with
      | none => 0
      | some r =>
        if q ∈ run.refused then 5
        else
          let y := s.whyNot f q (s.xrec r)
          if y ≠ 0 then y else if full then 6 else 5
    s.modQue q fun x => { x with wait := w }) s

/-- R189: the scheduler's procedure in frame `f`. -/
def schedule (f : Nat) (s : State) : State :=
  let a := tideFire f s
  let b := admitLoop f 9 a.1 a.2
  let run := b.1
  let s := b.2
  let full := (decide (4 ≤ run.admitted) || decide (8 ≤ run.examined)) && decide (s.heads f ≠ [])
  let s := s.when full fun s => s.bump F.SCH_ADMFULL
  let s := (s.mark F.SCH_ADMHWM_ADMIT 0 run.admitted).mark F.SCH_ADMHWM_EXAM 0 run.examined
  noteWaits f run (tidePos (s.fb F.SCH_STAT_PWRBLK (decide (run.refused ≠ []))))

/-! ### Work that is removed (R198) -/

/-- R198: the lateness of a queued record for heater frame `n`. -/
def ExecRec.lateness (x : ExecRec) (n : Nat) : Nat := if later n x.reqFrame then sub32 n x.reqFrame else 0

/-- R198: the heads of queue `q` whose lateness exceeds LATEMAX in frame `f` are flushed. -/
def lateFlush (q f : Nat) : Nat → State → State
  | 0, s => s
  | fuel + 1, s =>
    let lim := s.fgi F.SCH_QLATE_LATEMAX q
    match (s.que q).recs.head? with
    | none => s
    | some r =>
      if lim ≠ 0 ∧ lim < (s.xrec r).lateness (add32 f 3) then
        lateFlush q f fuel ((popQueue q (finalRec r .void 6 f s)).bump F.SCH_LATEFLUSH)
      else s

/-- R198: the late heads of queue `q` in frame `f`. -/
def lateFlushQ (f q : Nat) (s : State) : State := lateFlush q f (s.que q).recs.length s

/-- The meaning of QUEUE_LATE_FLUSH (R198): evaluated for the coming frame; only a device that holds authority flushes. -/
def execQueueLateFlush (q : Fin 64) (s : State) : Out := .next (if s.decides s.coming then lateFlushQ s.coming q.val s else s)

/-- R198: a FLUSH written for queue `q` waits for the next tick. -/
def queueFlush (q : Nat) (s : State) : State := s.modQue q fun x => { x with flush := true }

/-- The meaning of QUEUE_FLUSH (R198): the queue that SCH.QSEL names. -/
def execQueueFlush (s : State) : Out := .next (queueFlush (s.fg F.SCH_QSEL_QUEUE) s)

/-- R198: the flushes written are carried out at tick `f`. -/
def flushAll (f : Nat) (s : State) : State :=
  (tkeys s.sched.queues).foldl (fun s q =>
    if (s.que q).flush then
      let s := (s.que q).recs.foldl (fun s r => (finalRec r .void 6 f s).bump F.SCH_CMDFLUSH) s
      s.modQue q fun x => { x with recs := [], flush := false }
    else s) s

/-- R175: a queued record that is not admitted is withdrawn. -/
def withdrawRec (r : Nat) (s : State) : State :=
  let s := finalRec r .void 1 s.frame s
  (tkeys s.sched.queues).foldl (fun s q => s.modQue q fun x => { x with recs := x.recs.filter fun k => decide (k ≠ r) }) s

/-- The scheduler in frame `f` of a device that holds authority. -/
def schedTick (f : Nat) (s : State) : State :=
  schedule f ((tkeys s.sched.queues).foldl (fun s q => lateFlushQ f q s) s)

/-! ### Reads and the statistic clear -/

/-- R187: a read of SCH.VTLO. -/
def vtRead (s : State) : State :=
  { (s.fs F.SCH_VTHI_VT (s.sched.vt / 2 ^ 32)) with rdata := s.sched.vt % 2 ^ 32 }

/-- The meaning of VT_READ_LATCH (R187). -/
def execVtReadLatch (s : State) : Out := .next (vtRead s)

/-- R183: a read of SCH.QBALLO latches the high bits of the balance and of the finish tag. -/
def qbalRead (s : State) : State :=
  let q := s.fg F.SCH_QSEL_QUEUE
  let x := s.que q
  { ((s.fsi F.SCH_QBALHI_BAL q (unsgn 48 x.bal / 2 ^ 32)).fsi F.SCH_QFTHI_FT q (x.ft / 2 ^ 32)) with
    rdata := unsgn 48 x.bal % 2 ^ 32 }

/-- The meaning of QBAL_READ_LATCH (R183). -/
def execQbalReadLatch (s : State) : Out := .next (qbalRead s)

/-- The statistic clear of SCH (R199). -/
def schStatclr (s : State) : State :=
  ((s.fresetAll [F.SCH_ADMCNT, F.SCH_PWRWAIT, F.SCH_TIDEPWR, F.SCH_POLCNT, F.SCH_BUSYCNT, F.SCH_GATEDCNT, F.SCH_DENYCNT,
    F.SCH_VOIDDEN, F.SCH_LATEFLUSH, F.SCH_CMDFLUSH, F.SCH_ADMFULL, F.SCH_BALSAT, F.SCH_PHWM_POWER, F.SCH_ADMHWM_ADMIT,
    F.SCH_ADMHWM_EXAM]).fresetRow 64 [F.SCH_QHWM_DEPTH, F.SCH_QLATHWM_VALUE, F.SCH_QADM_VALUE]).noteCleared 6

/-- The meaning of SCH_STATCLR (R199). -/
def execSchStatclr (s : State) : Out := .next (schStatclr s)

end Sys2Proof.Machine
end

