-- ==== Sys2Proof/Machine/Objects.lean ====
section
/-! DEFINITION. The objects of the image and of COMMIT (04 R95, 06 R153, 08 R200, 12 R318, R319): their bytes read, their
checks, and where they lie in the object area (18, R547). Multi-byte fields are least significant byte first. -/
namespace Sys2Proof.Machine

/-- The Penvar engine changed by a function. -/
def State.modPen (s : State) (f : PenSt → PenSt) : State := { s with pen := f s.pen }

/-- Every byte of `l` from offset `o` on is zero, for `n` bytes. -/
def zeroAt (l : List Byte) (o n : Nat) : Bool := (slice l o n).all fun b => decide (b = 0)

/-! ### Segments (R95, R97) -/

/-- The bytes a segment object of `n` samples occupies (R95). -/
def segBytes (n : Nat) : Nat := 32 + 32 * ((n + 15) / 16)

/-- A segment object's fields, unchecked. -/
def segRaw (l : List Byte) : Segment :=
  ⟨(leAt l 2 2).testBit 0, (List.range (leAt l 0 2)).map fun k => sgn 16 (leAt l (32 + 2 * k) 2)⟩

/-- R97: a segment object that is valid for a number and a band set. -/
def segOf (num band : Nat) (l : List Byte) : Option Segment :=
  let n := leAt l 0 2
  let g := segRaw l
  if 2 ≤ n ∧ n ≤ 256 ∧ l.length = segBytes n ∧ g.samples.getLast? = some 0x2000 ∧ leAt l 4 2 % 4096 = num
      ∧ leAt l 6 1 = band ∧ leAt l 12 4 = crc32c (slice l 0 12 ++ slice l 32 (2 * n)) then some g
  else none

/-! ### Manifests (R153 to R156) -/

/-- R153: the class a number names. -/
def classOf : Nat → Option ManClass
  | 0 => some .normal | 1 => some .abort | 2 => some .restore | _ => none

/-- The bytes a manifest object occupies (R155). -/
def manBytes (nent plen : Nat) : Nat := 64 + 32 * ((nent + 3) / 4) + 32 * ((plen + 1) / 2)

/-- R154: an entry of a manifest. -/
def manEntry (w : Nat) : ManEntry :=
  ⟨w % 2 ^ 14, bitsAt w 16 16, sgn 16 (bitsAt w 32 16), bitsAt w 48 12, w.testBit 60, w.testBit 61⟩

/-- A manifest object's fields, unchecked but for its class. -/
def manRaw (l : List Byte) (addr : Nat) : Manifest :=
  let nent := leAt l 4 2
  let plen := leAt l 6 2
  let p := 64 + 32 * ((nent + 3) / 4)
  { number := leAt l 0 2 % 4096
    cls := (classOf (leAt l 2 1)).getD .normal
    release := (leAt l 3 1).testBit 0
    circuit := leAt l 8 2
    altNext := leAt l 10 2
    net := (List.range 4).map fun b => sgn 32 (leAt l (16 + 4 * b) 4)
    entries := (List.range nent).map fun i => manEntry (leAt l (64 + 8 * i) 8)
    prof := (List.range 4).map fun b =>
      (List.range plen).map fun k => sgn 32 (leAt l (p + 4 * plen * b + 4 * k) 4)
    addr := addr }

/-- The slots of a manifest ascend strictly (R154). -/
def ascending : List Nat → Bool
  | a :: b :: t => decide (a < b) && ascending (b :: t)
  | _ => true

/-- R99: a segment is valid in all four band sets. -/
def State.segAll (s : State) (n : Nat) : Bool :=
  (List.range 4).all fun b => decide (tget Segment.none s.fab.segs (b * 4096 + n) ≠ Segment.none)

/-- R156: a manifest object that is valid for a directory position. -/
def manOf (s : State) (pos : Nat) (l : List Byte) : Option Manifest :=
  let nent := leAt l 4 2
  let plen := leAt l 6 2
  let m := manRaw l 0
  let p := 64 + 32 * ((nent + 3) / 4)
  if nent ≤ 12288 ∧ plen ≤ 256 ∧ l.length = manBytes nent plen ∧ m.number = pos ∧ (classOf (leAt l 2 1)).isSome = true
      ∧ nent ≤ 128 * s.bmpSz ∧ (if nent = 0 then plen = 0 else 1 ≤ plen)
      ∧ ascending (m.entries.map (·.slot)) = true
      ∧ m.entries.all (fun e => decide (e.slot < 12288) && (s.slot e.slot).pop) = true
      ∧ m.entries.all (fun e => e.step || s.segAll e.seg) = true
      ∧ (m.circuit < 4096 ∨ (m.circuit = 0xFFFF ∧ m.cls ≠ .restore ∧ m.release = false))
      ∧ (m.altNext = 0xFFFF ∨ m.cls = .restore)
      ∧ zeroAt l (64 + 8 * nent) (p - (64 + 8 * nent)) = true
      ∧ zeroAt l (p + 16 * plen) (l.length - (p + 16 * plen)) = true
      ∧ leAt l 60 4 = crc32c (l.take 60 ++ l.drop 64) then some m
  else none

/-! ### Tide tables (R200 to R202) -/

/-- A tide-table object's fields, unchecked. -/
def tideRaw (l : List Byte) : TideTab :=
  let n := leAt l 0 2
  ⟨⟨n, (leAt l 2 2).testBit 0, (leAt l 2 2).testBit 1, leAt l 4 4⟩,
   (List.range (4 * Nat.min n 1024)).foldl (fun t i => tset 0 t i (leAt l (32 + 4 * i) 4)) []⟩

/-- R202: a tide-table object that is valid. -/
def tideOf (s : State) (l : List Byte) : Option TideTab :=
  let n := leAt l 0 2
  let t := tideRaw l
  if n ≤ 1024 ∧ l.length = 32 + 16 * n ∧ tideReason s t = 0 ∧ leAt l 8 4 = t.cycle ∧ leAt l 2 2 < 4
      ∧ zeroAt l 12 16 = true ∧ leAt l 28 4 = crc32c (l.take 28 ++ l.drop 32) then some t
  else none

/-! ### Pilot plans (R318) -/

/-- R318: an entry of a pilot plan. -/
def pilEntry (l : List Byte) (o : Nat) : Nat × Pilot :=
  (leAt l o 2 % 2 ^ 14,
   ⟨leAt l (o + 8) 3, leAt l (o + 12) 3, leAt l (o + 2) 1 % 8, leAt l (o + 4) 2 % 4096, bitsAt (leAt l (o + 2) 1) 3 1⟩)

/-- R318: a pilot plan object in order, its CRC correct, its slots and modes in range. -/
def pilOf (l : List Byte) : Option (List (Nat × Pilot)) :=
  let n := leAt l 0 2
  let es := (List.range n).map fun i => pilEntry l (16 + 16 * i)
  if 1 ≤ n ∧ n ≤ 12288 ∧ l.length = 16 + 16 * n ∧ ascending (es.map (·.1)) = true
      ∧ es.all (fun e => decide (e.1 < 12288) && decide (e.2.mode ≤ 4)) = true
      ∧ leAt l 12 4 = crc32c (l.take 12 ++ l.drop 16) then some es
  else none

/-! ### Coefficients (R319, R424, R425) -/

/-- The coefficients of a slot from bytes 0x00 to 0xAB of a slot record (R152). -/
def slotCoefRaw (l : List Byte) : SlotCoef :=
  (List.range 43).foldl (fun c i => (slotCoefWrite c (4 * i) (leAt l (4 * i) 4)).getD c) SlotCoef.init

/-- The coefficients of a bundle from bytes 0x00 to 0x0F of a bundle record (R152), K and INIT among them. -/
def bunCoefRaw (l : List Byte) (slots : List SlotCoef) : BunCoef :=
  let c := (List.range 4).foldl (fun c i => (bunCoefWrite c (4 * i) (leAt l (4 * i) 4)).getD c) BunCoef.init
  { c with k := leAt l 0 1 % 16, initClose := (leAt l 0 1).testBit 4, slots := slots }

/-- R119: an enabled crosstalk term names neither its own slot nor a channel that R14 excludes. -/
def xtalkOk (g : Gen) (slot : Nat) (c : SlotCoef) : Bool :=
  c.xt.all fun t => !t.en || (decide (t.chan ≠ chanOf slot) && chanExists g t.chan)

/-- R119: the crosstalk terms of a bundle's coefficients. -/
def State.xtalkAll (s : State) (b : Nat) (c : BunCoef) : Bool :=
  (c.slots.zipIdx).all fun p => xtalkOk (s.declGen (quayOfBundle b)) (8 * b + p.2) p.1

/-- R319: a coefficient object for bundle `pos`: KSET and the coefficients. K lies between 4 and 10 (R23). -/
def coefOf (s : State) (pos : Nat) (l : List Byte) : Option (Bool × BunCoef) :=
  let kset := (leAt l 2 2).testBit 0
  let slots := (List.range 8).map fun i => slotCoefRaw (slice l (32 + 172 * i) 172)
  let c := bunCoefRaw (slice l 16 16) slots
  if l.length = 1408 ∧ leAt l 0 2 = pos ∧ (kset = false ∨ (4 ≤ c.k ∧ c.k ≤ 10)) ∧ s.xtalkAll pos c = true
      ∧ leAt l 12 4 = crc32c (l.take 12 ++ l.drop 16) then
    some (kset, { c with k := if kset then c.k else (s.coefNext pos).k, initClose := (s.coef pos).initClose })
  else none

/-! ### The object area (R547) -/

/-- The spaces between what is allocated, as start and length, from `a` to `hi`. -/
def gapsFrom (hi : Nat) : Nat → List (Nat × Nat) → List (Nat × Nat)
  | a, [] => [(a, hi - a)]
  | a, (b, n) :: t => (a, b - a) :: gapsFrom hi (b + n) t

/-- An allocation put in its place by address. -/
def insAlloc (x : Nat × Nat) : List (Nat × Nat) → List (Nat × Nat)
  | [] => [x]
  | y :: t => if x.1 < y.1 then x :: y :: t else y :: insAlloc x t

/-- The 32-byte positions at which `n` bytes fit in a space. -/
def fitsIn (n : Nat) (g : Nat × Nat) : Nat := if n ≤ g.2 then (g.2 - n) / 32 + 1 else 0

/-- The `k`-th position at which `n` bytes fit. -/
def pickFit (n : Nat) : Nat → List (Nat × Nat) → Option Nat
  | _, [] => none
  | k, g :: t => if k < fitsIn n g then some (g.1 + 32 * k) else pickFit n (k - fitsIn n g) t

/-- What is allocated in the object area, by address. -/
def State.allocs (s : State) : List (Nat × Nat) :=
  s.pen.allocs.foldl (fun l a => insAlloc (a.addr, (a.len + 31) / 32 * 32) l) []

/-- R547: a place for `n` bytes in the object area, which the device chooses: free among those that fit (log 12). -/
def allocObj (tag : ObjTag) (n : Nat) (s : State) : Option (Nat × State) :=
  let gaps := gapsFrom 0x1000000 ((s.boot.objBase + 31) / 32 * 32) s.allocs
  let total := (gaps.map (fitsIn n)).sum
  if total = 0 then none
  else
    match pickFit n ((Config.freeWord s.fresh).toNat % total) gaps with
    | some a => some (a, { (s.modPen fun p => { p with allocs := p.allocs ++ [⟨tag, a, n⟩] }) with fresh := s.fresh + 1 })
    | none => none

/-- The space of an object given back. -/
def freeObj (tag : ObjTag) (s : State) : State :=
  s.modPen fun p => { p with allocs := p.allocs.filter fun a => decide (a.tag ≠ tag) }

/-- R100: an admitted or running transition still streams from the object at an address in frame `f`. -/
def State.streams (s : State) (f a : Nat) : Bool :=
  s.fab.slots.any fun e => e.2.trs.any fun t => t.key.isSome && decide (t.base = a) && !t.endedBefore f

/-- R100: the space of samples that no transition refers to any more is given back. -/
def dropKept (s : State) : State :=
  s.modPen fun p =>
    { p with allocs := p.allocs.filter fun a =>
        match a.tag with
        | .kept _ _ => s.streams s.frame a.addr
        | _ => true }

/-! ### Taking effect (R100, R143, R157, R203) -/

/-- A manifest placed with its bytes; none where the object area has no room. The place it had is given back first;
requests accepted before keep what they name (R157). -/
def placeManifest (m : Manifest) (bytes : List Byte) (s : State) : Option State :=
  match allocObj (.man m.number) bytes.length (freeObj (.man m.number) (pinManifest m.number s)) with
  | some r =>
    some ((r.2.memBeats r.1 bytes).modExec fun x => { x with dir := tset none x.dir m.number (some { m with addr := r.1 }) })
  | none => none

/-- A segment placed with its bytes; the samples it replaces stay while a transition streams them (R100). -/
def placeSegment (key : Nat) (g : Segment) (bytes : List Byte) (s : State) : Option State :=
  let old := tget Segment.none s.fab.segs key
  let s := s.modPen fun p =>
    { p with allocs := p.allocs.map fun a => if a.tag = .seg key then { a with tag := .kept key old } else a }
  match allocObj (.seg key) bytes.length (dropKept (s.modFab fun x => { x with segs := tset Segment.none x.segs key g })) with
  | some r => some (r.2.memBeats r.1 bytes)
  | none => none


/-- A committed change of coefficients (R143). -/
def placeCoef (b : Nat) (c : BunCoef) (s : State) : State := commitCoefs b c s

/-- The next update frame of bundle `b` after frame `f`, under interval exponent `k`. -/
def nextUpdate (f b k : Nat) : Nat := add32 f (2 ^ k - sub32 f b % 2 ^ k)

end Sys2Proof.Machine
end

