-- ==== Sys2Proof/Machine/Chan.lean ====
section
/-! DEFINITION. One end of a go-back-N message channel (R261 to R265), the same at the device and at the tile. -/
namespace Sys2Proof.Machine

/-- R262: the ACK that every cell carries. -/
def Chan.ackNo (c : Chan) : Nat := (c.expect + 255) % 256

/-- R265: the device begins a reset: what it has not had acknowledged is dropped (log 66). The numbering restarts only when
the tile answers. -/
def Chan.startReset (c : Chan) : Chan :=
  { Chan.init with nextSeq := c.nextSeq, expect := c.expect, inbox := c.inbox, resetting := true }

/-- The messages of a sender that have not been acknowledged: those sent and those waiting. -/
def Chan.unacked (c : Chan) : List TMsg := c.out.map (·.2.1) ++ c.waiting

/-- R265: the numbering restarts. -/
def Chan.restart (c : Chan) : Chan :=
  { c with nextSeq := 0, expect := 0, resetting := false, sawRst := false, synced := true, timer := 0, again := none }

/-- R263: a message waits to be sent. -/
def Chan.post (c : Chan) (m : TMsg) : Chan := { c with waiting := c.waiting ++ [m] }

/-- How many of the outstanding messages an ACK acknowledges. -/
def ackedBy (a : Nat) : List (Nat × TMsg × Nat) → Nat → Nat
  | [], _ => 0
  | e :: r, k => if e.1 = a then k + 1 else ackedBy a r (k + 1)

/-- R263: an ACK received. -/
def Chan.acked (c : Chan) (a : Nat) : Chan :=
  let k := ackedBy a c.out 0
  if k = 0 then c
  else
    { c with
      out := c.out.drop k
      timer := 0
      again := match c.again with
        | some g => if c.out.length ≤ Nat.max g k then none else some (g - k)
        | none => none }

/-- R262: a message received: delivered if its SEQ is the one expected. -/
def Chan.take (c : Chan) (seq : Nat) (m : TMsg) : Chan :=
  if seq = c.expect then { c with expect := (c.expect + 1) % 256, inbox := c.inbox ++ [m] } else c

/-- What a launch takes from the channel: the body of its cell, whether it resends, and the channel after. -/
structure Picked where
  body : CellBody
  resent : Bool
  chan : Chan
  deriving DecidableEq, Repr

/-- R263, R265: the cell of one frame: a keep-alive during a reset, else a message resent, a new one, or a keep-alive. -/
def Chan.pick (c : Chan) : Picked :=
  if c.resetting then ⟨.keepAlive, false, c⟩
  else
    match c.again, (c.again.bind fun k => c.out[k]?) with
    | some k, some e =>
      ⟨.msg e.1 e.2.1, true,
        { c with
          out := setAt c.out k (e.1, e.2.1, e.2.2 + 1)
          again := if k + 1 < c.out.length then some (k + 1) else none }⟩
    | _, _ =>
      match c.waiting with
      | m :: r =>
        if c.out.length < 16 then
          ⟨.msg c.nextSeq m, false,
            { c with
              nextSeq := (c.nextSeq + 1) % 256
              waiting := r
              out := c.out ++ [(c.nextSeq, m, 0)]
              timer := if c.out = [] then 0 else c.timer
              again := none }⟩
        else ⟨.keepAlive, false, c⟩
      | [] => ⟨.keepAlive, false, { c with again := none }⟩

/-- R263: a frame passes for the retransmission timer. -/
def Chan.age (c : Chan) : Chan := if c.out = [] then { c with timer := 0 } else { c with timer := c.timer + 1 }

/-- R263: RTO frames have passed with messages outstanding and no advance. -/
def Chan.expired (c : Chan) (rto : Nat) : Bool := decide (c.out ≠ []) && decide (Nat.max 1 rto ≤ c.timer)

/-- R263: every outstanding message is sent again from the oldest, and the timer restarts. -/
def Chan.resend (c : Chan) : Chan := { c with again := some 0, timer := 0 }

/-- R264: how often the oldest outstanding message has been resent. -/
def Chan.resends (c : Chan) : Nat :=
  match c.out with
  | e :: _ => e.2.2
  | [] => 0

/-- R261 to R263, R265: the channel's part of a cell received in a good frame. A cell with RST set answers a reset; its ACK
is valid as that of any cell, and a message in it is not taken (log 66). -/
def Chan.hear (c : Chan) (cell : Cell) : Chan :=
  if cell.rst then { c.acked cell.ack with sawRst := c.resetting }
  else if c.sawRst then c
  else
    let c := c.acked cell.ack
    match cell.body with
    | .msg seq m => c.take seq m
    | _ => c

end Sys2Proof.Machine
end

