-- ==== Sys2Proof/Machine/Link.lean ====
section
/-! DEFINITION. The Erenath lanes at the device (09): states and training, upstream frames, skew calibration, and the link
frame of each tick. Rows that happen at a tick are sent just before it and act on the coming frame. -/
namespace Sys2Proof.Machine

/-- A lane changed by a function. -/
def State.modLane (s : State) (q : Nat) (f : Lane → Lane) : State := { s with lanes := setAt s.lanes q (f (s.lane q)) }

/-- A lane's channel changed by a function. -/
def State.modChan (s : State) (q : Nat) (f : Chan → Chan) : State := s.modLane q fun x => { x with chan := f x.chan }

/-- The state of a lane (R244). -/
def State.laneSt (s : State) (q : Nat) : Nat := s.fgi F.QY_LNKSTAT_STATE q

/-- ULOCK (R243). -/
def State.ulock (s : State) (q : Nat) : Bool := s.flagi F.QY_LNKSTAT_ULOCK q

/-- R244: a lane enters a state. -/
def setLane (q st : Nat) (s : State) : State :=
  if s.laneSt q = st then s.modLane q fun x => { x with since := 0 }
  else ((s.fsi F.QY_LNKSTAT_STATE q st).modLane q fun x => { x with since := 0 }).raise (32 + q)

/-- The declared generation of a quay as the link spells it (R226). -/
def State.genDecl (s : State) (q : Nat) : Nat :=
  match (s.quay q).gen with
  | .el1 => 1
  | .el2 => 2
  | .absent => 0

/-- The generation whose rate the quay sends at. -/
def State.genNow (s : State) (q : Nat) : Nat := if (s.lane q).declared then s.genDecl q else 3 - s.genDecl q

/-- The next tag of a quay's requests, and the request posted under it. -/
def postReq (q : Nat) (m : Nat → TMsg) (s : State) : Nat × State :=
  let t := (s.lane q).tag
  (t, (s.modLane q fun x => { x with tag := (x.tag + 1) % 256 }).modChan q fun c => c.post (m t))

/-- The populated slots of a quay. -/
def State.quaySlots (s : State) (q : Nat) : List Nat := s.popSlots.filter fun n => decide (quayOf n = q)

/-- R167, R244: the slots of a quay leave service at tick `f`. -/
def quayLeaves (q f : Nat) (s : State) : State :=
  let s := (s.quaySlots q).foldl (fun s n => leaveService n f s) s
  (s.fsi F.QY_DRVSTAT_AUTH q 0).modQuay q fun x => { x with intake := none, ramp := none }

/-- R244, R248 to R250, R544: a lane enters SEEK at tick `f`; `why` is the detail R508 gives a lane that leaves RUN. No tile is
discovered there, and the training before counts for nothing but DONE (R227), which stands until TRAIN begins again. -/
def toSeek (q f why : Nat) (s : State) : State :=
  let st := s.laneSt q
  let s := s.when (decide (st = 6)) fun s => (s.when (s.ulock q) fun s => parkQuay q s).logFault 0x4001 q why
  let s := s.when (decide (st = 5) || decide (st = 6)) fun s => quayLeaves q f s
  let s := (((setLane q 1 s).fsi F.QY_LNKSTAT_ULOCK q 0).fsi F.QY_LNKSTAT_TLOCK q 0).fsi F.QY_LNKSTAT_TGEN q 0
  s.modLane q fun x =>
    { x with
      declared := true
      preset := 0
      seekWhy := 0
      clean := 0
      lost := none
      regained := 0
      syncBad := 0
      crcBad := 0
      derrRun := 0
      authFrom := none
      moves := []
      shift := 0
      skewLeft := 0
      rtts := [] }

/-! ### SEEK and TRAIN (R238, R245, R246) -/

/-- R238: the frames that a hunt has found: an exact SYNC word, then SYNC words with at most 4 bit errors where the frame
before predicts them. -/
def huntStep (found syncErr : Nat) : Nat :=
  if found = 0 then (if syncErr = 0 then 1 else 0) else if syncErr ≤ 4 then found + 1 else 0

/-- R245: the line rate alternates. -/
def seekSwitch (q : Nat) (s : State) : State :=
  let x := s.lane q
  if s.laneSt q = 1 ∧ (if x.declared then 1024 else 256) ≤ x.since then
    s.modLane q fun x => { x with declared := !x.declared, since := 0, regained := 0 }
  else s

/-- The meaning of LANE_SEEK_RATE_SWITCH (R245). -/
def execLaneSeekRateSwitch (q : Fin 32) (s : State) : Out := .next (seekSwitch q.val s)

/-- R389: lane `i`, or mirror lane `i − 32`, enters TRAIN: the trims written for it come into force, as user values not yet
stored (log 19). -/
def trimEnter (i : Nat) (s : State) : State :=
  [3 * 64 + i, 4 * 64 + i].foldl (fun s k =>
    let v := tget 0x100 s.cal.trimNext k
    if v = 0x100 then s
    else
      { s.fs F.CAL_STAT_DIRTY 1 with
        cal := { s.cal with since := true, trimNext := tdel s.cal.trimNext k, trims := tset (0, false) s.cal.trims k (v, true) } }) s

/-- R245, R246, R389: the hunt of SEEK has confirmed upstream lock (R238). -/
def lockAcquire (q : Nat) (s : State) : State :=
  if s.laneSt q = 1 ∧ 2 ≤ (s.lane q).regained then
    let auto := s.flagi F.QY_LNKCFG_TPAUTO q
    let s := ((setLane q 2 (trimEnter q s)).fsi F.QY_LNKSTAT_ULOCK q 1).bumpi F.QY_TRAINCNT q
    let s := if auto then s else s.fsi F.QY_EYE_TPSEL q (s.fgi F.QY_LNKCFG_TPRE q)
    s.modLane q fun x =>
      { x with
        trained := false
        preset := if auto then 0 else s.fgi F.QY_LNKCFG_TPRE q
        presetRun := 0
        best := none
        chosen := !auto
        clean := 0
        lastF := none
        regained := 0
        syncBad := 0
        crcBad := 0 }
  else s

/-- The meaning of UPSTREAM_LOCK_ACQUIRE (R245). -/
def execUpstreamLockAcquire (q : Fin 32) (s : State) : Out := .next (lockAcquire q.val s)

/-- R246: the better of two presets: the greater margin, the earlier where equal. -/
def bestPreset (b : Option (Nat × Nat × Nat)) (deye preset teye : Nat) : Nat × Nat × Nat :=
  match b with
  | some o => if o.1 < deye then (deye, preset, teye) else o
  | none => (deye, preset, teye)

/-- R246: after 64 frames the next preset is tried; after the last the best is kept. -/
def presetStep (q : Nat) (s : State) : State :=
  let x := s.lane q
  if s.laneSt q = 2 ∧ x.chosen = false ∧ 64 ≤ x.presetRun then
    let b := bestPreset x.best x.deyeNow x.preset x.teyeNow
    if x.preset < 7 then s.modLane q fun x => { x with best := some b, preset := x.preset + 1, presetRun := 0 }
    else
      (((s.fsi F.QY_EYE_DEYE q b.1).fsi F.QY_EYE_TPSEL q b.2.1).fsi F.QY_EYE_TEYE q b.2.2).modLane q fun x =>
        { x with best := some b, preset := b.2.1, presetRun := 0, chosen := true, clean := 0 }
  else s

/-- The meaning of TRAIN_PRESET_STEP (R246). -/
def execTrainPresetStep (q : Fin 32) (s : State) : Out := .next (presetStep q.val s)

/-- R271: the words of a bank that a message not acknowledged would have written count as not written. -/
def unwritten (w : Tbl Nat) (m : TMsg) : Tbl Nat :=
  match m with
  | .wr _ a ws => (List.range ws.length).foldl (fun w k => tset 0 w (a + k) 0) w
  | _ => w

/-- R265, R271: the device resets a channel: what has not been acknowledged is dropped, the words of the banks among it. -/
def resetChan (q : Nat) (s : State) : State :=
  let lost := (s.lane q).chan.unacked
  (s.modChan q Chan.startReset).modLane q fun x =>
    { x with ident := [], cfgTags := [], configured := false, written := lost.foldl unwritten x.written }

/-- R246: 256 clean frames end TRAIN. -/
def trainComplete (q : Nat) (s : State) : State :=
  let x := s.lane q
  if s.laneSt q = 2 ∧ x.chosen = true ∧ 256 ≤ x.clean then
    (resetChan q (setLane q 3 s)).modLane q fun x => { x with trained := true }
  else s

/-- The meaning of TRAIN_COMPLETE (R246). -/
def execTrainComplete (q : Fin 32) (s : State) : Out := .next (trainComplete q.val s)

/-- R246: TRAIN not complete within 4,096 frames. -/
def trainTimeout (q : Nat) (s : State) : State :=
  if s.laneSt q = 2 ∧ 4096 ≤ (s.lane q).since then
    ((toSeek q s.coming 0 s).fsi F.QY_LNKSTAT_TRAINFAIL q 1).logFault 0x4003 q 1
  else s

/-- The meaning of TRAIN_TIMEOUT (R246). -/
def execTrainTimeout (q : Fin 32) (s : State) : Out := .next (trainTimeout q.val s)

/-! ### DISCOVER and the tile's configuration (R247, R255, R270, R271) -/

/-- ULCAP in force (09, QY.LNKTIM). -/
def State.ulcap (s : State) (q : Nat) : Nat := Nat.min 24 (Nat.max 1 (s.fgi F.QY_LNKTIM_ULCAP q))

/-- REFOFF in force, in ns (09, QY.LNKTIM). -/
def State.refoff (s : State) (q : Nat) : Nat := Nat.min 400 (Nat.max 64 (s.fgi F.QY_LNKTIM_REFOFF q))

/-- R255: the sample offset given to the tile. -/
def State.clipSamp (s : State) (q samp : Nat) : Nat := Nat.min samp (s.fgi F.QY_LNKTIM_ULSLOT q - 1)

/-- R270: a TSETbn word for a timing set. -/
def State.tsetWord (s : State) (q : Nat) (t : TSet) : Nat := t.strobe + s.clipSamp q t.samp * 256

/-- The words of QY.TSASGj for a choice of set by channel. -/
def tasgWord (setOf : Nat → Nat) (j : Nat) : Nat :=
  (List.range 8).foldl (fun a i => a + setOf (8 * j + i) % 8 * 2 ^ (4 * i)) 0

/-- R270: the registers of bank `b` and their words, for timing sets and assignments. -/
def State.bankWords (s : State) (q b : Nat) (sets : List TSet) (setOf : Nat → Nat) : List (Nat × Nat) :=
  (sets.zipIdx.map fun p => (0x20 + 8 * b + p.2, s.tsetWord q p.1))
    ++ (List.range (genSlots (s.genDecl q) / 8)).map fun j => (0x40 + 0x40 * b + j, tasgWord setOf j)

/-- R271: the words that differ from the last write to the bank. -/
def State.dirty (s : State) (q : Nat) (l : List (Nat × Nat)) : List (Nat × Nat) :=
  l.filter fun p => decide (tget 0 (s.lane q).written p.1 ≠ p.2 + 1)

/-- R267: words in ascending order as writes of at most four consecutive registers. -/
def wrGroups : List (Nat × Nat) → List (Nat × List Nat)
  | [] => []
  | p :: r =>
    match wrGroups r with
    | [] => [(p.1, [p.2])]
    | g :: gs => if g.1 = p.1 + 1 ∧ g.2.length < 4 then (p.1, p.2 :: g.2) :: gs else (p.1, [p.2]) :: g :: gs

/-- A configuration write of consecutive registers, its tag awaited. -/
def cfgWrite (q : Nat) (s : State) (g : Nat × List Nat) : State :=
  let p := postReq q (fun t => .wr t g.1 g.2) s
  p.2.modLane q fun x =>
    { x with
      cfgTags := x.cfgTags ++ [p.1]
      written := if g.1 = 0x10 then x.written
        else (List.range g.2.length).foldl (fun w k => tset 0 w (g.1 + k) (g.2.getD k 0 + 1)) x.written }

/-- Configuration writes of the words given. -/
def cfgWrites (q : Nat) (l : List (Nat × Nat)) (s : State) : State := (wrGroups l).foldl (cfgWrite q) s

/-- R255: SAMPCLIP where a set's sample offset is clipped. -/
def noteClip (q : Nat) (sets : List TSet) (s : State) : State :=
  if sets.any fun t => decide (s.clipSamp q t.samp ≠ t.samp) then s.fsi F.QY_LNKSTAT_SAMPCLIP q 1 else s

/-- R270: the word of the tile's CFG. -/
def State.cfgWord (s : State) (q ulslot : Nat) : Nat :=
  ulslot + s.fgi F.QY_TCHCFG_HOLDWIN q * 256 + s.fgi F.QY_TCHCFG_RTO q * 65536

/-- R270: after the reads of DISCOVER the quay writes CFG and bank 0. -/
def configure (q : Nat) (s : State) : State :=
  let x := s.quay q
  let s := cfgWrites q [(0x10, s.cfgWord q (s.fgi F.QY_LNKTIM_ULSLOT q))] (s.modLane q fun x => { x with written := [], bank := 0 })
  let s := cfgWrites q (s.bankWords q 0 x.tsets fun c => tget 0 x.tasg c) s
  (noteClip q x.tsets s).modLane q fun x => { x with configured := true }

/-- R247, R270: the reads of DISCOVER are complete: the tile's generation, capability, latencies and serial number. -/
def identify (q : Nat) (ws : List Nat) (s : State) : State :=
  let id := ws.getD 0 0
  let lat := ws.getD 2 0
  let ser := ws.getD 3 0 + ws.getD 4 0 * 2 ^ 32
  let isNew := decide ((s.lane q).serial ≠ some ser)
  let s := (s.fsi F.QY_LNKSTAT_TGEN q (id % 4)).fsi F.QY_LNKSTAT_THREE q (bitsAt id 8 1)
  let s := (s.fsi F.QY_TLAT_TRXLAT q (lat % 65536)).fsi F.QY_TLAT_TTXLAT q (lat / 65536)
  let s := (s.fsi F.QY_TILEID_SERIAL q (ws.getD 3 0)).modLane q fun x => { x with serial := some ser, ident := ws }
  let s := if isNew then s.fsi F.QY_LNKSTAT_NEWTILE q 1 else s
  if id % 16 = s.genDecl q then configure q s else s

/-- R20, R247: DISCOVER ends: FAULT on a generation mismatch, else SKEW once the tile has its configuration. -/
def discoverComplete (q : Nat) (s : State) : State :=
  let x := s.lane q
  if s.laneSt q = 3 ∧ x.ident ≠ [] then
    if x.ident.getD 0 0 % 16 ≠ s.genDecl q then
      (((setLane q 7 s).fsi F.QY_LNKSTAT_GENMIS q 1).raise (64 + q)).logFault 0x4002 q (x.ident.getD 0 0 % 16)
    else if x.configured = true ∧ x.cfgTags = [] then
      let s := { s with cal := { s.cal with disc := s.cal.disc ++ [q] } }
      modeRequest q ((setLane q 4 s).modLane q fun x => { x with rtts := [], measured := false, skewLeft := 0 })
    else s
  else s

/-- R247: the reads are not complete within 4,096 frames. -/
def discoverTimeout (q : Nat) (s : State) : State :=
  if s.laneSt q = 3 ∧ 4096 ≤ (s.lane q).since then
    ((toSeek q s.coming 0 s).fsi F.QY_LNKSTAT_DISCFAIL q 1).logFault 0x4003 q 2
  else s

/-- The meaning of DISCOVER_TIMEOUT (R247). -/
def execDiscoverTimeout (q : Fin 32) (s : State) : Out := .next (discoverTimeout q.val s)

/-! ### Skew calibration (R252 to R256) -/

/-- The unit interval of a quay in 10 ps (R218). -/
def State.ui10ps (s : State) (q : Nat) : Nat := if s.genDecl q = 1 then 16 else 8

/-- The mean of the round trips kept, in 10 ps, rounded to the nearest (R252, R256). -/
def meanRtt (l : List Nat) : Nat := if l = [] then 0 else (l.foldl (· + ·) 0 + l.length / 2) / l.length

/-- R253: d_down for a round trip, in 10 ps. -/
def State.dDown (s : State) (q rtt : Nat) : Rat :=
  ((rtt : Rat) - s.fgi F.QY_DLAT_TDTX q - s.fgi F.QY_DLAT_TDRX q - s.fgi F.QY_TLAT_TRXLAT q - s.fgi F.QY_TLAT_TTXLAT q
    - 4000 * (s.fgi F.QY_LNKTIM_ULSLOT q : Rat)) / 2

/-- R253: LAUNCH in UI for a round trip, before its limits. -/
def State.launchFor (s : State) (q rtt : Nat) : Int :=
  let x := (100 * (s.refoff q : Rat) - s.fgi F.QY_DLAT_TDTX q - s.dDown q rtt - s.fgi F.QY_TLAT_TRXLAT q) / (s.ui10ps q : Rat)
  rfloor (x + 1 / 2)

/-- R253: the least and greatest LAUNCH in UI. -/
def State.launchLo (s : State) (q : Nat) : Int := ((2000 / s.ui10ps q : Nat) : Int)

/-- R253: the least and greatest LAUNCH in UI. -/
def State.launchHi (s : State) (q : Nat) : Int := ((40000 / s.ui10ps q : Nat) : Int)

/-- R254: ULMAX for a round trip. -/
def State.ulmax (s : State) (q rtt : Nat) : Int :=
  let ut := (s.fgi F.QY_TLAT_TTXLAT q : Rat) + s.dDown q rtt + s.fgi F.QY_DLAT_TDRX q
  let ts : Rat := if s.genDecl q = 1 then 15104 else 14080
  rfloor ((98400 - 100 * (s.refoff q : Rat) - ut - ts) / 4000)

/-- SKEWFAIL set, and logged when it goes from 0 to 1 (R253, R254, R508). -/
def skewFail (q : Nat) (s : State) : State :=
  if s.flagi F.QY_LNKSTAT_SKEWFAIL q then s else (s.fsi F.QY_LNKSTAT_SKEWFAIL q 1).logFault 0x4005 q 1

/-- R253: the target of LAUNCH from QY.RTT, limited. -/
def setTarget (q : Nat) (s : State) : State :=
  let l := s.launchFor q (s.fgi F.QY_RTT_TIME q)
  let c := clampI (s.launchLo q) (s.launchHi q) l
  (if c = l then s else skewFail q s).fsi F.QY_LAUNCH_TARGET q c.toNat

/-- R252 to R255, R545: 256 round trips are in: LAUNCH and ULSLOT. -/
def skewMeasured (q : Nat) (s : State) : State :=
  let x := s.lane q
  if s.laneSt q = 4 ∧ x.measured = false ∧ 256 ≤ x.rtts.length then
    let s := setTarget q (s.fsi F.QY_RTT_TIME q (meanRtt x.rtts))
    let um := s.ulmax q (s.fgi F.QY_RTT_TIME q)
    let ul := (clampI 1 24 (min um (s.ulcap q : Int))).toNat
    let s := if um < 1 then skewFail q s else s
    let s := s.fsi F.QY_LNKTIM_ULSLOT q ul
    let s := cfgWrites q [(0x10, s.cfgWord q ul)] s
    let y := s.quay q
    let s := cfgWrites q (s.dirty q (s.bankWords q 0 y.tsets fun c => tget 0 y.tasg c)) s
    (noteClip q y.tsets s).modLane q fun x =>
      { x with
        measured := true
        skewLeft := (s.fgi F.QY_LAUNCH_TARGET q : Int) - (s.fgi F.QY_LAUNCH_LAUNCH q : Int) }
  else s

/-- The meaning of SKEW_MEASURE_COMPLETE (R252 to R255). -/
def execSkewMeasureComplete (q : Fin 32) (s : State) : Out := .next (skewMeasured q.val s)

/-- R21, R248: the slots of a quay enter service. -/
def quayServes (q : Nat) (s : State) : State := (s.quaySlots q).foldl (fun s n => enterService n s) s

/-- R84, R141, R248: a lane enters RUN at the coming tick. -/
def enterRun (q : Nat) (s : State) : State :=
  let f := s.coming
  let s := setLane q 6 s
  let s := s.modLane q fun x => { x with lost := none, regained := 0, authFrom := none }
  if s.holds then
    let r := add32 f 2
    let s := (s.quayBundles q).foldl (fun s b => if (s.bun b).st = .hold then s else
      (setBundle b .opened s).modBun b fun x => { x with cause := .none, clearF := none, cmd := .none }) s
    startRamp q r (s.modLane q fun x => { x with authFrom := some r })
  else s

/-- R248: the device state in which lanes run. -/
def State.lanesRun (s : State) : Bool := s.holds || decide (s.dev = .standby)

/-- R21, R248, R254, R545: LAUNCH has its new value, what the tile is given has been sent, and the lane leaves SKEW: the quay
has its tile from the coming tick on, and round trips are measured anew (R256). -/
def launchDone (q : Nat) (s : State) : State :=
  let x := s.lane q
  if s.laneSt q = 4 ∧ x.measured = true ∧ x.skewLeft = 0 ∧ x.chan.waiting = [] then
    let s := quayServes q (s.modLane q fun x => { x with rtts := [] })
    if s.lanesRun then enterRun q s else setLane q 5 s
  else s

/-- The meaning of LAUNCH_MOVE_DONE (R545). -/
def execLaunchMoveDone (q : Fin 32) (s : State) : Out := .next (launchDone q.val s)

/-- R248: a lane in READY enters RUN when the device enters STANDBY, ACTIVE or SOLO. -/
def laneEnterRun (q : Nat) (s : State) : State := if s.laneSt q = 5 ∧ s.lanesRun = true then enterRun q s else s

/-- The meaning of LANE_ENTER_RUN (R248). -/
def execLaneEnterRun (q : Fin 32) (s : State) : Out := .next (laneEnterRun q.val s)

/-! ### Loss of lock, retraining, reskewing (R238, R249, R250, R256, R544) -/

/-- R238: the upstream receiver has lost lock. -/
def Lane.lockLost (x : Lane) : Bool := decide (4 ≤ x.syncBad) || decide (16 ≤ x.crcBad)

/-- R243, R249: upstream lock is lost in RUN; in FAULT the lane goes to SEEK (R247). -/
def lockLoss (q : Nat) (s : State) : State :=
  if s.ulock q && (s.lane q).lockLost then
    if s.laneSt q = 6 then
      let s := parkQuay q (((s.bumpi F.QY_ULOSSCNT q).fsi F.QY_LNKSTAT_LOSS q 1).fsi F.QY_LNKSTAT_ULOCK q 0)
      let s := s.modLane q fun x => { x with lost := some 0, regained := 0 }
      if s.fgi F.QY_LNKCFG_RELOCK q = 0 then toSeek q s.coming 1 s else s
    else if s.laneSt q = 7 then toSeek q s.coming 1 s
    else s
  else s

/-- The meaning of UPSTREAM_LOCK_LOSS (R249). -/
def execUpstreamLockLoss (q : Fin 32) (s : State) : Out := .next (lockLoss q.val s)

/-- R249: lock is regained when two consecutive good frames have been found. -/
def relock (q : Nat) (s : State) : State :=
  let x := s.lane q
  if s.laneSt q = 6 ∧ x.lost.isSome = true ∧ 2 ≤ x.regained then
    unparkQuay q s.coming ((s.fsi F.QY_LNKSTAT_ULOCK q 1).modLane q fun x =>
      { x with lost := none, regained := 0, syncBad := 0, crcBad := 0 })
  else s

/-- The meaning of UPSTREAM_RELOCK (R249). -/
def execUpstreamRelock (q : Fin 32) (s : State) : Out := .next (relock q.val s)

/-- R249: lock is not regained within RELOCK frames. -/
def relockTimeout (q : Nat) (s : State) : State :=
  match (s.lane q).lost with
  | some n => if s.laneSt q = 6 ∧ s.fgi F.QY_LNKCFG_RELOCK q ≤ n then toSeek q s.coming 1 s else s
  | none => s

/-- The meaning of RELOCK_TIMEOUT (R249). -/
def execRelockTimeout (q : Fin 32) (s : State) : Out := .next (relockTimeout q.val s)

/-- R544: a lane in TRAIN to READY that has lost lock enters SEEK. -/
def preRunLoss (q : Nat) (s : State) : State :=
  if 2 ≤ s.laneSt q ∧ s.laneSt q ≤ 5 ∧ (s.lane q).lockLost = true then toSeek q s.coming 0 s else s

/-- The meaning of PRE_RUN_LOCK_LOSS (R544). -/
def execPreRunLockLoss (q : Fin 32) (s : State) : Out := .next (preRunLoss q.val s)

/-- R250, R266: the lane goes to SEEK at the next tick. -/
def seekNext (q why : Nat) (s : State) : State :=
  if s.laneSt q = 0 then s else s.modLane q fun x => { x with seekWhy := why }

/-- The meaning of LNKCTRL_RETRAIN (R250). -/
def execLnkctrlRetrain (q : Fin 32) (s : State) : Out := .next (seekNext q.val 4 s)

/-- R250: a SEEK asked for is carried out at the coming tick. -/
def seekDue (q : Nat) (s : State) : State :=
  if (s.lane q).seekWhy ≠ 0 ∧ s.laneSt q ≠ 0 then toSeek q s.coming (s.lane q).seekWhy s else s

/-- R256: a RESKEW in RUN takes the running mean as the round trip and sets a new target. -/
def reskew (q : Nat) (s : State) : State :=
  if s.laneSt q = 6 then
    let s := setTarget q (s.fsi F.QY_RTT_TIME q (s.fgi F.QY_RTTAVG_TIME q))
    if s.ulmax q (s.fgi F.QY_RTT_TIME q) < (s.fgi F.QY_LNKTIM_ULSLOT q : Int) then skewFail q s else s
  else s

/-- The meaning of LNKCTRL_RESKEW (R256). -/
def execLnkctrlReskew (q : Fin 32) (s : State) : Out := .next (reskew q.val s)

/-- The statistic clear of QY.LNKCTRL. -/
def qyLnkStatclr (q : Nat) (s : State) : State :=
  [F.QY_SYNCERR, F.QY_UCRCCNT, F.QY_UFNERR, F.QY_ULATE, F.QY_DCRCCNT, F.QY_ULOSSCNT, F.QY_TRAINCNT, F.QY_HOLDCNT,
    F.QY_ARRIVE_WORST].foldl (fun s f => s.fresetI f q) ((s.noteCleared 3).noteCleared 4)

/-- The meaning of QY_LNK_STATCLR (R4). -/
def execQyLnkStatclr (q : Fin 32) (s : State) : Out := .next (qyLnkStatclr q.val s)

/-! ### Upstream frames (R237 to R243, R251, R252, R256, R278) -/

/-- R240, R247: the tile on the quay is discovered: its registers have been read since the lane entered DISCOVER. -/
def State.discovered (s : State) (q : Nat) : Bool :=
  decide (4 ≤ s.laneSt q) || (decide (s.laneSt q = 3) && decide ((s.lane q).ident ≠ []))

/-- R240: a good frame's CRC and TYPE, and its GEN once the tile is discovered. -/
def State.frameGood (s : State) (q : Nat) (f : UFrame) : Bool :=
  f.crcOk && (decide (f.ftype = 2) || decide (f.ftype = 3))
    && (!s.discovered q || decide (f.gen = s.fgi F.QY_LNKSTAT_TGEN q))

/-- R240: TSIG differs from the discovered tile's. -/
def State.tsigDiffers (s : State) (q : Nat) (f : UFrame) : Bool :=
  s.discovered q &&
    match (s.lane q).serial with
    | some x => decide (f.tsig ≠ x % 256)
    | none => false

/-- R241: the arrival of an upstream frame. -/
def noteArrive (q : Nat) (late : Int) (s : State) : State :=
  let s := s.fsi F.QY_ARRIVE_LAST q (unsgn 16 (satS 16 late))
  if sgn 16 (s.fgi F.QY_ARRIVE_WORST q) < satS 16 late then s.fsi F.QY_ARRIVE_WORST q (unsgn 16 (satS 16 late)) else s

/-- R252, R256: a round trip of a good frame: in SKEW one of the 256 measured; in READY and RUN one of the last 256, whose mean
RUN keeps, and the drift alarm. -/
def noteRtt (q rtt : Nat) (s : State) : State :=
  let st := s.laneSt q
  if st = 4 ∨ st = 5 ∨ st = 6 then
    let l := (rtt :: (s.lane q).rtts).take 256
    let s := s.modLane q fun x => { x with rtts := l }
    if st = 6 then
      let s := s.fsi F.QY_RTTAVG_TIME q (meanRtt l)
      let d := ((s.fgi F.QY_RTTAVG_TIME q : Int) - (s.fgi F.QY_RTT_TIME q : Int)).natAbs
      let tol := s.fgi F.QY_SKEWCFG_TOL q
      if tol ≠ 0 ∧ tol * 20 < d ∧ s.flagi F.QY_LNKSTAT_SKEWDRIFT q = false then
        ((s.fsi F.QY_LNKSTAT_SKEWDRIFT q 1).raise (64 + q)).logFault 0x4005 q 2
      else s
    else s
  else s

/-- R252: a frame of SKEW that is bad or does not come breaks the run of 256. -/
def breakRtt (q : Nat) (s : State) : State :=
  if s.laneSt q = 4 ∧ (s.lane q).measured = false then s.modLane q fun x => { x with rtts := [] } else s

/-- R84: a soft start has begun at the first authoritative heater frame `a` of the quay, or later. -/
def State.rampedFrom (s : State) (q a : Nat) : Bool := (s.quay q).eReset.any fun r => notBefore r a

/-- R84, R251: SRC0 reported for heater frame `m` in RUN. Where that frame was authoritative, the soft start begins again; where
it was the last before the authoritative frames began, they begin with a soft start. -/
def noteSrc0 (q m : Nat) (f : UFrame) (s : State) : State :=
  let next := add32 s.coming 2
  match (s.lane q).authFrom with
  | some a =>
    if f.src0 = true ∧ s.laneSt q = 6 ∧ s.holds = true then
      if notBefore m a then startRamp q next (s.fsi F.QY_LNKSTAT_TILESRC0 q 1)
      else if s.rampedFrom q a then s
      else startRamp q (if notBefore next a then next else a) s
    else s
  | none => s

/-- R261, R262, R266, R278: the cell of a good upstream frame. -/
def hearCell (q : Nat) (c : Cell) (s : State) : State :=
  let s := ((s.fsi F.QY_TTEMP_TPH q c.tph).fsi F.QY_TTEMP_TTL q c.ttl).fsi F.QY_TCHSTAT_FRESH q (b2n c.fresh)
  let s := if c.body = .malformed then s.bumpi F.QY_TMALF q else s
  let s := s.modChan q fun x => x.hear c
  if c.fresh = true ∧ 4 ≤ s.laneSt q ∧ s.laneSt q ≤ 6 then seekNext q 3 (s.fsi F.QY_TCHSTAT_TRESET q 1) else s

/-- R246: a frame counts towards the clean run. -/
def cleanFrame (s : State) (q : Nat) (f : UFrame) : Bool :=
  decide (f.ftype = 3) && decide (64 ≤ s.fgi F.QY_EYE_DEYE q) && decide (64 ≤ f.eye) && f.locked && decide (f.dbad = 0)

/-- R84, R240, R242: what a good frame's header says. -/
def noteHeader (q : Nat) (f : UFrame) (s : State) : State :=
  let s := (s.addi F.QY_DCRCCNT q f.dbad).fsi F.QY_LNKSTAT_TLOCK q (b2n (if f.ftype = 3 then f.locked else true))
  let s := if f.hold then s.bumpi F.QY_HOLDCNT q else s
  s.modLane q fun x =>
    { x with
      derrRun := if f.dbad = 0 then 0 else x.derrRun + 1
      tileOff := f.src0
      crcBad := 0
      teyeNow := if f.ftype = 3 then f.eye else x.teyeNow }

/-- A good upstream frame for heater frame `m` of a lane in lock. -/
def goodFrame (q m : Nat) (f : UFrame) (a : UArrival) (s : State) : State :=
  let s := noteHeader q f s
  let s := if s.laneSt q = 2 then
      let s := s.modLane q fun x => { x with deyeNow := a.deye }
      let s := if (s.lane q).chosen then (s.fsi F.QY_EYE_DEYE q a.deye).fsi F.QY_EYE_TEYE q f.eye else s
      let ok := (s.lane q).chosen && cleanFrame s q f
      s.modLane q fun x => { x with clean := if ok then x.clean + 1 else 0 }
    else s
  let s := noteSrc0 q m f (noteRtt q a.rtt s)
  let samples := if 80 < a.late then [] else f.samples
  let s := if f.ftype = 2 then s.modQuay q fun x => { x with intake := some ⟨m, samples⟩ } else s
  match f.cell with
  | some c => if f.ftype = 2 then hearCell q c s else s
  | none => s

/-- R240, R242: a bad upstream frame. -/
def badFrame (q : Nat) (fnum crc : Bool) (s : State) : State :=
  breakRtt q ((s.bumpi (if fnum then F.QY_UFNERR else F.QY_UCRCCNT) q).modLane q fun x =>
    { x with clean := 0, regained := 0, derrRun := 0, crcBad := if crc then 0 else x.crcBad + 1 })

/-- R238, R245: the hunt of SEEK at the rate in force. -/
def huntFrame (q : Nat) (f : UFrame) (a : UArrival) (s : State) : State :=
  if s.laneSt q = 1 ∧ f.gen = s.genNow q then
    s.modLane q fun x => { x with got := true, regained := huntStep x.regained a.syncErr }
  else s

/-- R249: a frame that the hunt of a lane in RUN finds counts towards the two that bring lock back. -/
def regainFrame (q : Nat) (a : UArrival) (s : State) : State :=
  s.modLane q fun x => { x with regained := huntStep x.regained a.syncErr, derrRun := 0, crcBad := 0 }

/-- R237 to R243: upstream frame m, received in frame m or at most 8 ns after its end (the row is sent before the tick). A
receiver in lock judges what stands at the predicted position, whatever its SYNC word; a hunt finds a frame by its SYNC word. -/
def upstreamFrame (q : Nat) (f : UFrame) (a : UArrival) (s : State) : State :=
  if s.laneSt q < 2 then huntFrame q f a s
  else
    let m := s.frame
    let hunting := (s.lane q).lost.isSome
    let s := s.modLane q fun x => { x with got := true }
    let s := if s.ulock q then s.addi F.QY_SYNCERR q a.syncErr else s
    if hunting = true ∧ huntStep (s.lane q).regained a.syncErr = 0 then s.modLane q fun x => { x with regained := 0, derrRun := 0 }
    else
      let s := s.modLane q fun x => { x with syncBad := if 4 < a.syncErr then x.syncBad + 1 else 0 }
      let s := noteArrive q a.late s
      let s := if 80 < a.late then s.bumpi F.QY_ULATE q else s
      if s.frameGood q f = false then badFrame q false f.crcOk s
      else if s.tsigDiffers q f then
        let s := badFrame q true true s
        if hunting then seekNext q 2 (s.fsi F.QY_LNKSTAT_NEWTILE q 1) else s
      else if f.fnum ≠ m % 2 ^ 24 then badFrame q true true s
      else if hunting then regainFrame q a s
      else goodFrame q m f a s

/-- The meaning of UPSTREAM_FRAME (R240). -/
def execUpstreamFrame (q : Fin 32) (f : UFrame) (a : UArrival) (s : State) : Out := .next (upstreamFrame q.val f a s)

/-- R242: DBAD non-zero in DERRLIM consecutive good frames. -/
def derrBurst (q : Nat) (s : State) : State :=
  let lim := s.fgi F.QY_LNKCFG_DERRLIM q
  if lim ≠ 0 ∧ lim ≤ (s.lane q).derrRun then
    (((s.fsi F.QY_LNKSTAT_DERRBURST q 1).raise (64 + q)).logFault 0x4006 q 0).modLane q fun x => { x with derrRun := 0 }
  else s

/-- The meaning of DOWNSTREAM_ERROR_BURST (R242). -/
def execDownstreamErrorBurst (q : Fin 32) (s : State) : Out := .next (derrBurst q.val s)

/-! ### The link frame of a tick (R221, R222, R225 to R227, R234, R236, R244, R545) -/

/-- R234: FNUM of the link frame launched in frame `f`, which carries heater frame f + 1. -/
def State.fnumAt (s : State) (f : Nat) : Nat := s.heaterNo (add32 f 1) % 2 ^ 24

/-- The type of the link frame of a quay launched in frame `f` (R244), and whether it is authoritative (R236). -/
def State.frameType (s : State) (q f : Nat) : Nat × Bool :=
  match s.laneSt q with
  | 1 => (3, false)
  | 2 => (3, false)
  | 6 =>
    if s.authAt (add32 f 1) then
      match (s.lane q).authFrom with
      | some a => if notBefore (add32 f 1) a then (2, true) else (1, false)
      | none => (1, false)
    else if s.lanesRun then (2, false)
    else (1, false)
  | _ => (1, false)

/-- R273: the timing-set bank in force for heater frame `n`. -/
def State.bankAt (s : State) (q n : Nat) : Nat :=
  match (s.quay q).ts with
  | some c => if c.acked && notBefore n c.frame then 1 - (s.lane q).bank else (s.lane q).bank
  | none => (s.lane q).bank

/-- R545, R256: LAUNCH moves at the launch of frame `f`, and a move is decided for the third launch after it: that one ends heater
frame f + 2, which the quay modulates next, so its end correction knows the move (R67). `fill` is the fill without a move; the
result is the fill with the move of the launch that follows. -/
def moveLaunch (q : Nat) (fill : Nat) (s : State) : Nat × State :=
  let x := s.lane q
  let now : Int := (s.fgi F.QY_LAUNCH_LAUNCH q : Int)
  if s.laneSt q = 4 then
    let d := max x.skewLeft (-(fill : Int))
    (((fill : Int) + d).toNat,
      (s.fsi F.QY_LAUNCH_LAUNCH q (now + d).toNat).modLane q fun x => { x with skewLeft := x.skewLeft - d, moves := [] })
  else if s.laneSt q = 6 then
    let here := x.moves.headD 0
    let next := x.moves.getD 1 0
    let third := x.moves.getD 2 0
    let lim : Int := if s.genDecl q = 1 then 25 else 50
    let goal : Int := (s.fgi F.QY_LAUNCH_TARGET q : Int) - now - here - next - third
    let plan := clampI (-lim) lim goal
    (((fill : Int) + next).toNat,
      (s.fsi F.QY_LAUNCH_LAUNCH q (now + here).toNat).modLane q fun x => { x with moves := [next, third, plan], shift := plan })
  else (fill, s)

/-- R225, R259, R263: the link frame that a quay launches in frame `f`, whose length is `c` TIME cycles. -/
def launchFrame (q f c : Nat) (s : State) : State :=
  if s.laneSt q = 0 then s
  else
    let x := s.lane q
    let g := s.genNow q
    let ta := s.frameType q f
    let fnum := s.fnumAt f
    let fm := moveLaunch q (frameBits g c - fixedBits g) s
    let s := fm.2
    let p := x.chan.pick
    let s := if ta.1 = 3 then s else s.modChan q fun _ => p.chan
    let s := if ta.1 ≠ 3 ∧ p.resent = true then s.bumpi F.QY_TRETX q else s
    let cell : Cell :=
      ⟨p.body, x.chan.ackNo, x.chan.resetting, s.rangeAt q (add32 f 1), s.bankAt q (add32 f 1), false, false, 0, 0⟩
    let words := if ta.1 = 2 then (List.range (genSlots g)).map fun i =>
        let y := s.slot (384 * q + i)
        if y.serving then y.word else 0
      else []
    let fr : DFrame :=
      ⟨ta.1, g, ta.2, decide (ta.1 = 2) && s.flagi F.QY_DRVSTAT_MODEACT q,
        decide (x.lastF ≠ some ((fnum + 2 ^ 24 - 1) % 2 ^ 24)), fnum, fm.1, words, x.preset, x.trained,
        if ta.1 = 3 then none else some cell, true⟩
    (s.fsi F.QY_DRVSTAT_AUTH q (b2n ta.2)).modLane q fun x => { x with lastF := some fnum, sent := some fr }

/-- A lane powers up at the 20 ns floor (R19, 09 QY.LAUNCH). -/
def powerLane (q : Nat) (s : State) : State :=
  if s.laneSt q = 0 ∧ s.genDecl q ≠ 0 then
    toSeek q s.coming 0 (if s.fgi F.QY_LAUNCH_LAUNCH q = 0 then s.fsi F.QY_LAUNCH_LAUNCH q (s.launchLo q).toNat else s)
  else if s.genDecl q = 0 ∧ s.laneSt q ≠ 0 then
    (setLane q 0 (toSeek q s.coming 4 s)).modLane q fun x => { x with seekWhy := 0, trained := false, lastF := none, sent := none }
  else s

/-- R238, R242: an upstream frame that never came in the running frame counts as a bad SYNC word and a failed CRC. -/
def laneMiss (q : Nat) (s : State) : State :=
  if 1 ≤ s.laneSt q ∧ (s.lane q).got = false then
    breakRtt q (s.modLane q fun x =>
      { x with syncBad := x.syncBad + 1, crcBad := x.crcBad + 1, clean := 0, regained := 0, derrRun := 0 })
  else s

/-- What a frame leaves of a lane: its counts of frames. -/
def laneCounts (q : Nat) (s : State) : State :=
  s.modLane q fun x =>
    { x with
      since := x.since + 1
      presetRun := x.presetRun + 1
      lost := x.lost.map (· + 1)
      got := false
      req := x.req.map fun r => { r with age := r.age + 1 }
      chan := x.chan.age }

/-- The rows of a lane that its own counts bring about, at the coming tick. -/
def laneRows (q : Nat) (s : State) : State :=
  [powerLane, seekDue, lockAcquire, seekSwitch, presetStep, trainComplete, trainTimeout, discoverComplete, discoverTimeout, skewMeasured,
    launchDone, laneEnterRun, lockLoss, relock, relockTimeout, preRunLoss, derrBurst].foldl (fun s g => g q s) s

end Sys2Proof.Machine
end

