-- ==== Sys2Proof/Machine/Channel.lean ====
section
/-! DEFINITION. The message channel at the device (10): range and timing-set changes (R85 to R87, R113), the tile's answers
and events, retransmission and failure, and firmware access to tile registers (R284). -/
namespace Sys2Proof.Machine

/-! ### Range changes (R85 to R87) -/

/-- R85: a change may name this frame: it is 16 to 2^23 frames later than the running frame. -/
def State.changeFrameOk (s : State) (f : Nat) : Bool := decide (16 ≤ sub32 f s.frame) && decide (sub32 f s.frame ≤ 2 ^ 23)

/-- R85: a write of QY.RNGREQ.GO. -/
def rngGo (q : Nat) (s : State) : State :=
  let r := s.fgi F.QY_RNGREQ_RANGE q
  let f := s.fgi F.QY_RNGFRM_FRAME q
  if (s.quay q).rng = none ∧ r ≠ s.fgi F.QY_RNGSTAT_CUR q ∧ s.changeFrameOk f = true then
    let s := ((s.fsi F.QY_RNGSTAT_PEND q 1).fsi F.QY_RNGSTAT_NEXT q r).modQuay q fun x => { x with rng := some ⟨f, r, false⟩ }
    (postReq q (fun t => .announce t 1 (f % 2 ^ 24) r) s).2
  else s.fsi F.QY_RNGSTAT_BADFRM q 1

/-- The meaning of RNGREQ_GO (R85). -/
def execRngreqGo (q : Fin 32) (s : State) : Out := .next (rngGo q.val s)

/-- R86: the pending range change is cancelled. -/
def rngDrop (q : Nat) (s : State) : State :=
  match (s.quay q).rng with
  | some c =>
    let s := (s.fsi F.QY_RNGSTAT_CANCELLED q 1).fsi F.QY_RNGSTAT_PEND q 0
    (postReq q (fun t => .cancel t 1 (c.frame % 2 ^ 24)) (s.modQuay q fun x => { x with rng := none })).2
  | none => s

/-- R86: a CANCEL written in frame QY.RNGFRM − 9 or earlier. -/
def rngCancel (q : Nat) (s : State) : State :=
  match (s.quay q).rng with
  | some c => if notBefore (sub32 c.frame 9) s.frame then rngDrop q s else s
  | none => s

/-- The meaning of RNGREQ_CANCEL (R86). -/
def execRngreqCancel (q : Fin 32) (s : State) : Out := .next (rngCancel q.val s)

/-- R86: at the tick of frame QY.RNGFRM − 8 an unacknowledged change is cancelled with NOACK. -/
def rngNoack (q : Nat) (s : State) : State :=
  match (s.quay q).rng with
  | some c => if c.acked = false ∧ notBefore s.coming (sub32 c.frame 8) = true then rngDrop q (s.fsi F.QY_RNGSTAT_NOACK q 1) else s
  | none => s

/-- The meaning of RANGE_NOACK_CANCEL (R86). -/
def execRangeNoackCancel (q : Fin 32) (s : State) : Out := .next (rngNoack q.val s)

/-- R87: an acknowledged change is in force from the coming frame. -/
def rngApply (q : Nat) (s : State) : State :=
  match (s.quay q).rng with
  | some c =>
    if c.acked = true ∧ notBefore s.coming c.frame = true then
      (((s.fsi F.QY_RNGSTAT_CUR q c.val).fsi F.QY_RNGSTAT_PEND q 0).fsi F.QY_RNGSTAT_DONE q 1).modQuay q fun x => { x with rng := none }
    else s
  | none => s

/-- The meaning of RANGE_CHANGE_APPLY (R87). -/
def execRangeChangeApply (q : Fin 32) (s : State) : Out := .next (rngApply q.val s)

/-! ### Timing-set changes (R112 to R114) -/

/-- The staged timing sets of a quay. -/
def State.stageSets (s : State) (q : Nat) : List TSet := (List.range 8).map (s.stageSet q)

/-- R113: the staging copy differs from the active copy. -/
def State.stageDiffers (s : State) (q : Nat) : Bool :=
  decide (s.stageSets q ≠ (s.quay q).tsets)
    || (List.range 384).any fun c => decide (s.stageSetOf (384 * q + c) ≠ tget 0 (s.quay q).tasg c)

/-- R113, R255, R271: the staged words written into the bank that is not in force. -/
def writeBank (q b : Nat) (s : State) : State :=
  let l := s.dirty q (s.bankWords q b (s.stageSets q) fun c => s.stageSetOf (384 * q + c))
  noteClip q (s.stageSets q) (cfgWrites q l s)

/-- R113: a write of QY.TSREQ.GO. -/
def tsGo (q : Nat) (s : State) : State :=
  let f := s.fgi F.QY_TSFRM_FRAME q
  let plan := s.setsOk q s.stageSetOf
  let frm := decide ((s.quay q).ts = none) && s.stageDiffers q && s.changeFrameOk f
  if plan && frm then
    let b := 1 - (s.lane q).bank
    let s := writeBank q b ((s.fsi F.QY_TSSTAT_PEND q 1).modQuay q fun x => { x with ts := some ⟨f, b, false⟩ })
    (postReq q (fun t => .announce t 2 (f % 2 ^ 24) b) s).2
  else
    let s := if plan then s else s.fsi F.QY_TSSTAT_PLAN q 1
    if frm then s else s.fsi F.QY_TSSTAT_BADFRM q 1

/-- The meaning of TSREQ_GO (R113). -/
def execTsreqGo (q : Fin 32) (s : State) : Out := .next (tsGo q.val s)

/-- R113: the pending timing-set change is cancelled, as R86 sets out. -/
def tsDrop (q : Nat) (s : State) : State :=
  match (s.quay q).ts with
  | some c =>
    let s := (s.fsi F.QY_TSSTAT_CANCELLED q 1).fsi F.QY_TSSTAT_PEND q 0
    (postReq q (fun t => .cancel t 2 (c.frame % 2 ^ 24)) (s.modQuay q fun x => { x with ts := none })).2
  | none => s

/-- R86, R113: a CANCEL written in frame QY.TSFRM − 9 or earlier. -/
def tsCancel (q : Nat) (s : State) : State :=
  match (s.quay q).ts with
  | some c => if notBefore (sub32 c.frame 9) s.frame then tsDrop q s else s
  | none => s

/-- The meaning of TSREQ_CANCEL (R113). -/
def execTsreqCancel (q : Fin 32) (s : State) : Out := .next (tsCancel q.val s)

/-- R86, R113: an unacknowledged change is cancelled with NOACK. -/
def tsNoack (q : Nat) (s : State) : State :=
  match (s.quay q).ts with
  | some c => if c.acked = false ∧ notBefore s.coming (sub32 c.frame 8) = true then tsDrop q (s.fsi F.QY_TSSTAT_NOACK q 1) else s
  | none => s

/-- The meaning of TSET_NOACK_CANCEL (R113). -/
def execTsetNoackCancel (q : Fin 32) (s : State) : Out := .next (tsNoack q.val s)

/-- The assignments of the staging copy as a table by channel. -/
def State.stageTasg (s : State) (q : Nat) : Tbl Nat :=
  (List.range 384).foldl (fun t c => tset 0 t c (s.stageSetOf (384 * q + c))) []

/-- R87, R113: an acknowledged timing-set change is in force from the coming frame. -/
def tsApply (q : Nat) (s : State) : State :=
  match (s.quay q).ts with
  | some c =>
    if c.acked = true ∧ notBefore s.coming c.frame = true then
      (((s.fsi F.QY_TSSTAT_PEND q 0).fsi F.QY_TSSTAT_DONE q 1).modLane q fun x => { x with bank := c.val }).modQuay q fun x =>
        { x with ts := none, tsWas := some ⟨c.frame, x.tsets, x.tasg⟩, tsets := s.stageSets q, tasg := s.stageTasg q }
    else s
  | none => s

/-- The meaning of TSET_CHANGE_APPLY (R113). -/
def execTsetChangeApply (q : Fin 32) (s : State) : Out := .next (tsApply q.val s)

/-- R337: the step of TB3 cancels every pending range and timing-set change. -/
def dropChanges (s : State) : State := (List.range 32).foldl (fun s q => tsDrop q (rngDrop q s)) s

/-! ### Firmware requests (R284) -/

/-- R284: the request completes with a status. -/
def reqDone (q status : Nat) (s : State) : State :=
  (((s.fsi F.QY_TRSP_BUSY q 0).fsi F.QY_TRSP_DONE q 1).fsi F.QY_TRSP_STATUS q status).modLane q fun x => { x with req := none }

/-- R270, R284: a register of a tile with `n` slots that only the quay writes: CFG, TSETbn or TASGbj. -/
def quayOwned (n a : Nat) : Bool :=
  decide (a = 0x10) || (decide (0x20 ≤ a) && decide (a ≤ 0x2F)) || (decide (0x40 ≤ a) && decide (a < 0x40 + n / 8))
    || (decide (0x80 ≤ a) && decide (a < 0x80 + n / 8))

/-- R284: a write of QY.TREQ.GO. -/
def treqGo (q : Nat) (s : State) : State :=
  let a := s.fgi F.QY_TREQ_ADDR q
  let w := s.flagi F.QY_TREQ_WR q
  if s.flagi F.QY_TRSP_BUSY q ∨ (w = true ∧ quayOwned (genSlots (s.genDecl q)) a = true) then
    (s.fsi F.QY_TRSP_DONE q 1).fsi F.QY_TRSP_STATUS q 8
  else
    let p := postReq q (fun t => if w then .wr t a [s.fgi F.QY_TDATA_DATA q] else .rd t a 1) s
    (p.2.fsi F.QY_TRSP_BUSY q 1).modLane q fun x => { x with req := some ⟨p.1, !w, 0⟩ }

/-- The meaning of TREQ_GO (R284). -/
def execTreqGo (q : Fin 32) (s : State) : Out := .next (treqGo q.val s)

/-- R284: no answer within 256 frames. -/
def treqTimeout (q : Nat) (s : State) : State :=
  match (s.lane q).req with
  | some r => if 256 ≤ r.age then reqDone q 9 s else s
  | none => s

/-- The meaning of TREQ_TIMEOUT (R284). -/
def execTreqTimeout (q : Fin 32) (s : State) : Out := .next (treqTimeout q.val s)

/-! ### Messages delivered (R268, R272, R277) -/

/-- The tag of the firmware request outstanding on a quay. -/
def State.reqTag (s : State) (q : Nat) : Option Nat := (s.lane q).req.map (·.tag)

/-- R247, R284: a read answered. -/
def rdRsp (q tag status : Nat) (ws : List Nat) (s : State) : State :=
  if s.reqTag q = some tag then
    reqDone q status (if status = 0 then s.fsi F.QY_TDATA_DATA q (ws.getD 0 0) else s)
  else if s.laneSt q = 3 ∧ (s.lane q).ident = [] ∧ status = 0 ∧ ws.length = 5 then identify q ws s
  else s

/-- R247, R284: a write answered. -/
def wrRsp (q tag status : Nat) (s : State) : State :=
  if s.reqTag q = some tag then reqDone q status s
  else if status = 0 then s.modLane q fun x => { x with cfgTags := x.cfgTags.filter fun t => decide (t ≠ tag) }
  else s

/-- R272: an announcement answered: acknowledged, or cancelled with NOACK. -/
def annAck (q status kind fnum : Nat) (s : State) : State :=
  if kind = 1 then
    match (s.quay q).rng with
    | some c =>
      if c.frame % 2 ^ 24 = fnum ∧ c.acked = false then
        if status = 0 then s.modQuay q fun x => { x with rng := some { c with acked := true } }
        else rngDrop q (s.fsi F.QY_RNGSTAT_NOACK q 1)
      else s
    | none => s
  else
    match (s.quay q).ts with
    | some c =>
      if c.frame % 2 ^ 24 = fnum ∧ c.acked = false then
        if status = 0 then s.modQuay q fun x => { x with ts := some { c with acked := true } }
        else tsDrop q (s.fsi F.QY_TSSTAT_NOACK q 1)
      else s
    | none => s

/-- R267, R284: an error response: a firmware request completes with its status. -/
def errRsp (q tag status : Nat) (s : State) : State := if s.reqTag q = some tag then reqDone q status s else s

/-- R277: an event delivered. -/
def tileEvent (q code output fnum : Nat) (lost : Bool) (s : State) : State :=
  let s := (((s.bumpi F.QY_TEVCNT q).fsi F.QY_TEVLAST_CODE q code).fsi F.QY_TEVLAST_OUTPUT q output).fsi F.QY_TEVLAST_FRAME q fnum
  let i := bitsAt output 1 9
  let n := 384 * q + i
  let ev := 96 + q
  let s := match code with
    | 1 =>
      let s := s.fsi F.QY_TCHSTAT_OPENEV q 1
      if chanExists (s.quay q).gen i then ((setFailed n true s).raise 7).logFault 0x5001 n (output % 2) else s
    | 3 => ((s.fsi F.QY_TCHSTAT_COMPLYEV q 1).raise ev).logFault 0x5002 n (output % 2)
    | 4 => (s.fsi F.QY_TCHSTAT_COMPLYEV q 1).raise ev
    | 5 => (s.fsi F.QY_TCHSTAT_OVERTEMP q 1).raise ev
    | 6 => (s.fsi F.QY_TCHSTAT_DUALAUTH q 1).raise ev
    | _ => s
  if lost then (s.fsi F.QY_TCHSTAT_EVLOST q 1).raise ev else s

/-- What the device does with a message of the channel. A message it does not know counts as malformed (R268). -/
def deviceMsg (q : Nat) (m : TMsg) (s : State) : State :=
  match m with
  | .rdRsp t st ws => rdRsp q t st ws s
  | .wrRsp t st => wrRsp q t st s
  | .annAck _ st k f => annAck q st k f s
  | .canAck _ _ _ _ => s
  | .errRsp t st => errRsp q t st s
  | .event _ c o f l => tileEvent q c o f l s
  | _ => s.bumpi F.QY_TMALF q

/-- The first message delivered and not acted on yet is acted on if it is of a kind. -/
def actOn (q : Nat) (kind : TMsg → Bool) (s : State) : State :=
  match (s.lane q).chan.inbox with
  | m :: r => if kind m then deviceMsg q m (s.modChan q fun c => { c with inbox := r }) else s
  | [] => s

/-- Every message delivered is acted on. -/
def actAll (q : Nat) : Nat → State → State
  | 0, s => s
  | n + 1, s => actAll q n (actOn q (fun _ => true) s)

/-- The meaning of RDRSP (R284). -/
def execRdrsp (q : Fin 32) (s : State) : Out := .next (actOn q.val (fun m => match m with | .rdRsp _ _ _ => true | _ => false) s)

/-- The meaning of WRRSP (R284). -/
def execWrrsp (q : Fin 32) (s : State) : Out := .next (actOn q.val (fun m => match m with | .wrRsp _ _ => true | _ => false) s)

/-- The meaning of ANNACK (R272). -/
def execAnnack (q : Fin 32) (s : State) : Out := .next (actOn q.val (fun m => match m with | .annAck _ _ _ _ => true | _ => false) s)

/-- The meaning of CANACK (R272). -/
def execCanack (q : Fin 32) (s : State) : Out := .next (actOn q.val (fun m => match m with | .canAck _ _ _ _ => true | _ => false) s)

/-- The meaning of ERRRSP (R267). -/
def execErrrsp (q : Fin 32) (s : State) : Out := .next (actOn q.val (fun m => match m with | .errRsp _ _ => true | _ => false) s)

/-- The meaning of EVENT (R277). -/
def execEvent (q : Fin 32) (s : State) : Out := .next (actOn q.val (fun m => match m with | .event _ _ _ _ _ => true | _ => false) s)

/-! ### Retransmission, failure and reset (R263 to R265) -/

/-- R263: RTO frames without an advance: everything outstanding is sent again. -/
def chanTimeout (q : Nat) (s : State) : State :=
  let c := (s.lane q).chan
  if c.expired (s.fgi F.QY_TCHCFG_RTO q) ∧ c.resends < Nat.max 1 (s.fgi F.QY_TCHCFG_RETRYMAX q) then s.modChan q Chan.resend else s

/-- The meaning of CHANNEL_RETRANSMIT_TIMEOUT (R263). -/
def execChannelRetransmitTimeout (q : Fin 32) (s : State) : Out := .next (chanTimeout q.val s)

/-- R264: requests outstanding on a channel fail, and changes whose announcement has no answer are cancelled. -/
def failRequests (q : Nat) (s : State) : State :=
  let s := if (s.lane q).req.isSome then reqDone q 10 s else s
  let s := match (s.quay q).rng with
    | some c => if c.acked then s else rngDrop q (s.fsi F.QY_RNGSTAT_NOACK q 1)
    | none => s
  match (s.quay q).ts with
  | some c => if c.acked then s else tsDrop q (s.fsi F.QY_TSSTAT_NOACK q 1)
  | none => s

/-- R264: a message resent RETRYMAX times is still not acknowledged when the timer runs out again. The channel is reset, and
the cancellations that follow from the failure go out once the tile has answered the reset. -/
def chanFail (q : Nat) (s : State) : State :=
  let c := (s.lane q).chan
  if c.expired (s.fgi F.QY_TCHCFG_RTO q) ∧ Nat.max 1 (s.fgi F.QY_TCHCFG_RETRYMAX q) ≤ c.resends then
    let s := (((s.fsi F.QY_TCHSTAT_FAIL q 1).bumpi F.QY_TCHFAIL q).raise (64 + q)).logFault 0x4004 q 0
    failRequests q (resetChan q s)
  else s

/-- The meaning of CHANNEL_RETRY_FAIL (R264). -/
def execChannelRetryFail (q : Fin 32) (s : State) : Out := .next (chanFail q.val s)

/-- The meaning of TCHCTRL_RESET (R265). -/
def execTchctrlReset (q : Fin 32) (s : State) : Out := .next (resetChan q.val s)

/-- R265, R270: the reset is answered: the numbering restarts, and in DISCOVER the reads of the tile begin. -/
def chanResetDone (q : Nat) (s : State) : State :=
  let c := (s.lane q).chan
  if c.resetting ∧ c.sawRst then
    let s := s.modChan q Chan.restart
    if s.laneSt q = 3 then (postReq q (fun t => .rd t 0 5) s).2 else s
  else s

/-- The meaning of CHANNEL_RESET_DONE (R265). -/
def execChannelResetDone (q : Fin 32) (s : State) : Out := .next (chanResetDone q.val s)

/-- The statistic clear of QY.TCHCTRL. -/
def qyTchStatclr (q : Nat) (s : State) : State :=
  [F.QY_TRETX, F.QY_TMALF, F.QY_TCHFAIL, F.QY_TEVCNT].foldl (fun s f => s.fresetI f q) s

/-- The meaning of QY_TCH_STATCLR (R4). -/
def execQyTchStatclr (q : Fin 32) (s : State) : Out := .next (qyTchStatclr q.val s)

/-- What the channel and the changes of a quay bring about at the coming tick. -/
def chanRows (q : Nat) (s : State) : State :=
  let s := actAll q (s.lane q).chan.inbox.length s
  [rngNoack, rngApply, tsNoack, tsApply, treqTimeout, chanFail, chanTimeout, chanResetDone].foldl (fun s g => g q s) s

end Sys2Proof.Machine
end

