-- ==== Sys2Proof/Machine/Tile.lean ====
section
/-! DEFINITION. The tile (09, 10): what a compliant tile does with downstream frames on its two ports, what it drives, when
it holds and parks, its registers and messages, its events and its upstream frames. Port 0 is the port of this device. -/
namespace Sys2Proof.Machine

/-- The tile behind quay `q`. -/
def State.tile (s : State) (q : Nat) : TileSt := s.tiles.getD q TileSt.init

/-- A tile changed by a function. -/
def State.modTile (s : State) (q : Nat) (f : TileSt → TileSt) : State := { s with tiles := setAt s.tiles q (f (s.tile q)) }

/-- A port of a tile. -/
def TileSt.port (t : TileSt) (p : Nat) : TPort := t.ports.getD p TPort.init

/-- A port of a tile changed by a function. -/
def TileSt.modPort (t : TileSt) (p : Nat) (f : TPort → TPort) : TileSt := { t with ports := setAt t.ports p (f (t.port p)) }

/-- The port is a port of the tile: a tile without DUAL has port 0 alone (R270). -/
def TileSt.hasPort (t : TileSt) (p : Nat) : Bool :=
  match t.ident with
  | some i => decide (p = 0) || i.dual
  | none => false

/-- R270: one added to a counter of a port, saturating. -/
def TPort.count (x : TPort) (k : Nat) (n : Nat := 1) : TPort :=
  { x with counts := setAt x.counts k (Nat.min (x.counts.getD k 0 + n) (2 ^ 32 - 1)) }

/-! ### Lock and reset (R219, R238, R266) -/

/-- R266: a port whose control logic resets: its registers and its channel at their reset values; lock, numbering and the
training of the link stay. -/
def TPort.controlReset (x : TPort) : TPort :=
  { x with
    ulslot := 16
    holdwin := 64
    rto := 8
    fresh := true
    words := []
    counts := List.replicate 9 0
    frame := none
    chan := Chan.init
    prepRng := none
    prepTs := none
    events := []
    evLost := false }

/-- R266: the tile's control logic resets: port-local registers at their reset values, parked, FRESH on every port; links
keep lock and numbering. -/
def TileSt.controlReset (t : TileSt) : TileSt :=
  { t with
    park := true
    parkDue := false
    applied := none
    heldRun := 0
    words := []
    three := false
    rng := 0
    tsb := 0
    held := false
    dual := false
    ports := t.ports.map TPort.controlReset }

/-- The meaning of TILE_CONTROL_RESET (R266). -/
def execTileControlReset (q : Fin 32) (s : State) : Out := .next (s.modTile q.val TileSt.controlReset)

/-- R219, R238: the port's receiver acquires lock: its line stops running free. The frame that confirmed lock was the last. -/
def TPort.acquire (x : TPort) : TPort :=
  if x.lock = false ∧ 2 ≤ x.found then { x with lock := true, syncBad := 0, crcBad := 0, refusedRun := 0, got := true } else x

/-- R219: the register of the scrambler at the end of the frame that a port sends. -/
def TPort.endScr (x : TPort) : Nat :=
  match x.sent with
  | some u => scrAfter (x.span - 64) (scrSeed true u.fnum)
  | none => x.scr

/-- R219, R238: the port's receiver loses lock: it sends no frame, and its scrambler runs on. -/
def TPort.lose (x : TPort) : TPort :=
  if x.lock = true ∧ (4 ≤ x.syncBad ∨ 16 ≤ x.crcBad) then
    { x with lock := false, found := 0, frame := none, refusedRun := 0, scr := x.endScr, sent := none }
  else x

/-- R238: a port acquires or loses downstream lock. `who` is the tile on the quay, powered, and none where there is none: a
tile of another make or serial number, or one whose power returns, is at its own reset, and what its scrambler holds then
(R219) is free. -/
def tileLock (q p : Nat) (locked : Bool) (who : Option TileId) (s : State) : State :=
  let s := if (s.tile q).ident ≠ who then
      let w := (Config.freeWord s.fresh).toNat % 2 ^ 31
      { s.modTile q fun _ => { TileSt.init with ident := who, ports := TileSt.init.ports.map fun x => { x with scr := w } } with
        fresh := s.fresh + 1 }
    else s
  s.modTile q fun t =>
    if t.hasPort p then t.modPort p fun x => if locked then x.acquire else x.lose else t

/-- The meaning of TILE_LOCK (R238). -/
def execTileLock (q : Fin 32) (p : Fin 2) (locked : Bool) (who : Option TileId) (s : State) : Out :=
  .next (tileLock q.val p.val locked who s)

/-! ### Downstream frames (R235, R239) -/

/-- R239: CRC, TYPE and GEN of a downstream frame. -/
def TileSt.frameOk (t : TileSt) (f : DFrame) : Bool :=
  f.crcOk && decide (1 ≤ f.ftype) && decide (f.ftype ≤ 3)
    && match t.ident with
      | some i => decide (f.gen = i.gen)
      | none => false

/-- R235: what the numbering of a port makes of a frame that is otherwise good. -/
inductive Numbered where
  | accepted
  | refused (run last : Nat)
  deriving DecidableEq, Repr

/-- R235: a frame is accepted if it has the expected number, sets DISC, is the port's first, or is the third of three that
follow one another. -/
def TPort.number (x : TPort) (f : DFrame) : Numbered :=
  match x.expect with
  | none => .accepted
  | some e =>
    if f.fnum = e ∨ f.disc = true then .accepted
    else
      let run := if x.refusedRun ≠ 0 ∧ f.fnum = (x.refusedLast + 1) % 2 ^ 24 then x.refusedRun + 1 else 1
      if 3 ≤ run then .accepted else .refused run f.fnum

/-- R239: a bad frame: held, its MSG discarded, counted. -/
def TPort.badFrame (x : TPort) : TPort :=
  { x.count 0 with
    frame := none
    dbad := Nat.min 7 (x.dbad + 1)
    expect := x.expect.map fun e => (e + 1) % 2 ^ 24
    numbered := true }

/-- Whether a message is an EVENT, as the tile queues it. -/
def TMsg.event? (m : TMsg) : Option TEvent :=
  match m with
  | .event n c o f l => some ⟨n, c, o, f, l⟩
  | _ => none

/-- R265: a cell with RST set: the tile echoes RST, drops its responses, and keeps the events not acknowledged for sending
again. -/
def TPort.resetSeen (x : TPort) : TPort :=
  { x with
    events := x.chan.out.filterMap (fun o => o.2.1.event?) ++ x.events
    chan := { Chan.init with nextSeq := x.chan.nextSeq, expect := x.chan.expect, resetting := true } }

/-- R261 to R265: the cell of a good downstream frame; the ACK of one with RST set is valid too. From the first cell with RST
clear the numbering restarts. -/
def TPort.hear (x : TPort) (c : Cell) : TPort :=
  let x := if c.body = .malformed then x.count 7 else x
  if c.rst then (if x.chan.resetting then x else { x with chan := x.chan.acked c.ack }.resetSeen)
  else { x with chan := (if x.chan.resetting then x.chan.restart else x.chan).hear c }

/-- R235, R239: a downstream frame found at a port where it is expected. -/
def TPort.receive (t : TileSt) (x : TPort) (f : DFrame) : TPort :=
  let x := { x with span := fixedBits f.gen + f.fill, crcBad := if f.crcOk then 0 else x.crcBad + 1 }
  if t.frameOk f then
    match x.number f with
    | .accepted =>
      let x := { x with
        frame := some f
        expect := some ((f.fnum + 1) % 2 ^ 24)
        numbered := true
        refusedRun := 0
        rxfn := f.fnum % 256
        train := decide (f.ftype = 3) && !f.trained
        cpre := if f.ftype = 3 then f.tpre else x.cpre }
      match f.cell with
      | some c => if f.ftype = 3 then x else x.hear c
      | none => x
    | .refused run last => { x.badFrame with refusedRun := run, refusedLast := last }
  else { x.badFrame with refusedRun := 0 }

/-- R238, R239: no link frame was found where one is expected. -/
def TPort.missed (x : TPort) : TPort := { x.badFrame with refusedRun := 0, crcBad := x.crcBad + 1 }

/-- R235, R238, R239: what a port's receiver makes of the place where a link frame is due: `f` is the frame there, its SYNC
word with `syncErr` bit errors, if one came. Without lock the receiver hunts. -/
def TPort.place (t : TileSt) (x : TPort) (f : Option DFrame) (syncErr : Nat) : TPort :=
  let x := { x with got := true }
  match f with
  | some f =>
    if x.lock then
      if syncErr ≤ 4 then { x with syncBad := 0 }.receive t f else { x with syncBad := x.syncBad + 1 }.missed
    else { x with found := huntStep x.found syncErr }
  | none => if x.lock then { x with syncBad := x.syncBad + 1 }.missed else { x with found := 0 }

/-! ### Applying, holding and parking (R273, R279 to R283) -/

/-- The frame in hand at a port is applicable (10). -/
def TPort.applicable (x : TPort) : Bool :=
  match x.frame with
  | some f => decide (f.ftype = 2) && f.auth
  | none => false

/-- R279: the port whose frame the tile applies. -/
def TileSt.chosenPort (t : TileSt) : Option Nat :=
  let a := (t.port 0).applicable
  let b := (t.port 1).applicable
  if a && b then some (t.applied.getD 0) else if a then some 0 else if b then some 1 else none

/-- R276: an event queued on every port that is locked and configured; 32 undelivered at most. -/
def TileSt.queueEvent (t : TileSt) (code output : Nat) : TileSt :=
  let e : TEvent := ⟨t.evCount % 256, code, output, t.fnum, false⟩
  let put := fun (x : TPort) =>
    if x.lock && !x.fresh then
      if x.events.length < 32 then { x with events := x.events ++ [e] } else { x with evLost := true }
    else x
  { t with evCount := t.evCount + 1, ports := t.ports.map put }

/-- R74: a slot drive word is malformed: PAIR set in a single-level frame. -/
def wordBad (three : Bool) (w : Nat) : Bool := !three && w.testBit 26

/-- R74: a slot drive word applies current in some sample. -/
def wordOn (three : Bool) (w : Nat) : Bool := if w.testBit 26 then three else decide (w % 2 ^ 25 ≠ 0)

/-- R272: the frame that a preparation names has come by heater frame `n`. -/
def Prep.reached (a : Prep) (n : Nat) : Bool := decide ((n + 2 ^ 24 - a.fnum % 2 ^ 24) % 2 ^ 24 < 2 ^ 23)

/-- R273: a change of range or bank applied in heater frame `n` counts as unannounced unless the port has prepared it for that
frame or for one before it, in which the frame that should have brought it was held. -/
def TPort.noteChange (x : TPort) (o : Option Prep) (n val : Nat) : TPort :=
  match o with
  | some a => if a.val = val ∧ a.reached n = true then x else x.count 6
  | none => x.count 6

/-- R272: what is left of a preparation once the frame it names has come. -/
def Prep.left (n : Nat) (o : Option Prep) : Option Prep := o.filter fun a => !a.reached n

/-- R272: a port gives up the preparations whose frame has come. -/
def TPort.useUp (x : TPort) (n : Nat) : TPort := { x with prepRng := Prep.left n x.prepRng, prepTs := Prep.left n x.prepTs }

/-- R273: the range and bank of the frame applied from port `p`. -/
def TileSt.applyCell (t : TileSt) (p : Nat) (c : Cell) : TileSt :=
  let x := t.port p
  let x := if c.rng ≠ t.rng then x.noteChange x.prepRng t.fnum c.rng else x
  let x := if c.tsb ≠ t.tsb then x.noteChange x.prepTs t.fnum c.tsb else x
  { t.modPort p (fun _ => x) with rng := c.rng, tsb := c.tsb }

/-- R279, R281: a frame applied from port `p`. -/
def TileSt.applyFrame (t : TileSt) (p : Nat) (f : DFrame) : TileSt :=
  let switched := match t.applied with
    | some o => decide (o ≠ p)
    | none => false
  let t := if switched then t.modPort p fun x => x.count 4 else t
  let bad := f.words.countP (wordBad f.three)
  let t := if bad = 0 then t else t.modPort p fun x => x.count 1 bad
  let t := match f.cell with
    | some c => t.applyCell p c
    | none => t
  { t with applied := some p, words := f.words, three := f.three, heldRun := 0, park := false, parkDue := false, held := false }

/-- R281: HELDRUN has reached the HOLDWIN of the port last applied. -/
def TileSt.heldOut (t : TileSt) : Bool := decide (Nat.max 1 (t.port (t.applied.getD 0)).holdwin ≤ t.heldRun)

/-- R281: HELDRUN has reached HOLDWIN: the tile is to park from the next heater frame. -/
def TileSt.parkNow (t : TileSt) : TileSt := if t.heldOut = true ∧ t.park = false then { t with parkDue := true } else t

/-- The meaning of TILE_PARK (R281). -/
def execTilePark (q : Fin 32) (s : State) : Out := .next (s.modTile q.val TileSt.parkNow)

/-- R281: a park that is due begins with the heater frame; a frame applied for it would have kept the tile out of park. -/
def TileSt.enterPark (t : TileSt) : TileSt :=
  let t := t.parkNow
  if t.parkDue = true then
    { t.modPort (t.applied.getD 0) (fun x => x.count 3) with park := true, parkDue := false }
  else t

/-- R239, R280: a held frame. -/
def TileSt.holdFrame (t : TileSt) : TileSt :=
  { t.modPort (t.applied.getD 0) (fun x => x.count 2) with heldRun := t.heldRun + 1, held := true, dual := false }

/-- R282: the timing port: the port last applied, or the other where that one has lost lock and the other is locked. Before
any frame is applied it is the first locked port (log 66). -/
def TileSt.timingPort (t : TileSt) : Option Nat :=
  let p := t.applied.getD 0
  if (t.port p).lock then some p else if (t.port (1 - p)).lock then some (1 - p) else none

/-- R235, R282: the heater frame that begins at a reference instant, as the timing port numbers it; the tile counts on without
one. -/
def TileSt.nextFnum (t : TileSt) : Nat :=
  match t.timingPort.bind fun p => (t.port p).expect with
  | some e => (e + 2 ^ 24 - 1) % 2 ^ 24
  | none => (t.fnum + 1) % 2 ^ 24

/-- R235: the port counts a heater frame, whether or not its link frame was good: once for each reference instant. -/
def TPort.stepNumber (x : TPort) : TPort :=
  if x.numbered then x else { x with expect := x.expect.map fun e => (e + 1) % 2 ^ 24 }

/-- R235, R239: a port at a reference instant: where no link frame came since the last, one was missed; without lock its line
runs free for as long as a nominal frame (R219, R282). -/
def TPort.counted (gen : Nat) (x : TPort) : TPort :=
  let x := if x.lock then (if x.got then x else { x with syncBad := x.syncBad + 1 }.missed)
    else { x with found := if x.got then x.found else 0, scr := scrAfter (frameBits gen 250) x.scr }
  x.stepNumber

/-- R272, R273: the preparations that a heater frame for which a port was applied uses up: those of that port, and those of a
port whose own link frame for it was good. A held frame only delays the change, so every port keeps them. -/
def TileSt.usePreps (t : TileSt) (took : Option Nat) : TileSt :=
  match took with
  | none => t
  | some p =>
    { t with ports := t.ports.zipIdx.map fun (e : TPort × Nat) => if e.1.frame.isSome || e.2 == p then e.1.useUp t.fnum else e.1 }

/-- R279: the tile chooses what it applies in the heater frame that begins. -/
def TileSt.choose (t : TileSt) : TileSt :=
  let both := (t.port 0).applicable && (t.port 1).applicable
  match t.chosenPort with
  | some p =>
    let t := if both then
        let t := t.modPort p fun x => x.count 5
        if t.dual then t else t.queueEvent 6 0
      else t
    match (t.port p).frame with
    | some f => { t.applyFrame p f with dual := both }
    | none => t
  | none => t.enterPark.holdFrame

/-- R223, R235, R279 to R283: a heater frame begins: the tile numbers it, takes what it drives in it, and samples each monitor
channel in it once, with the results `taken`. -/
def TileSt.instant (t : TileSt) (taken : List (Nat × Bool)) : TileSt :=
  let gen := match t.ident with
    | some i => i.gen
    | none => 0
  let t := { t with ports := t.ports.zipIdx.map fun (e : TPort × Nat) => if t.hasPort e.2 then e.1.counted gen else e.1 }
  let t := { t with fnum := t.nextFnum, samples := taken }
  let t := t.choose.usePreps t.chosenPort
  { t with ports := t.ports.map fun (x : TPort) => { x.acquire.lose with frame := none, got := false, numbered := false } }

/-- The meaning of TILE_REFERENCE_INSTANT (R279): the operand is the samples of the heater frame that begins. -/
def execTileReferenceInstant (q : Fin 32) (taken : List (Nat × Bool)) (s : State) : Out :=
  .next (s.modTile q.val fun t => if t.ident.isSome then t.instant taken else t)

/-- The tile sources no current (R229, R281). -/
def TileSt.src0 (t : TileSt) : Bool := t.park || !t.words.any (wordOn t.three)

/-- ASRC (R229). -/
def TileSt.asrc (t : TileSt) : Nat :=
  if t.park then 0
  else match t.applied with
    | some p => p + 1
    | none => 0

/-! ### Registers (R270) -/

/-- Whether a tile register exists (R270). -/
def TileSt.hasReg (t : TileSt) (a : Nat) : Bool :=
  let n := match t.ident with
    | some i => i.nslot
    | none => 0
  decide (a ≤ 4) || decide (a = 0x10) || decide (a = 0x11) || decide (a = 0x12) || (decide (0x20 ≤ a) && decide (a ≤ 0x2F))
    || (decide (0x40 ≤ a) && decide (a < 0x40 + n / 8)) || (decide (0x80 ≤ a) && decide (a < 0x80 + n / 8))
    || (decide (0x100 ≤ a) && decide (a < 0x100 + n / 16)) || (decide (0x120 ≤ a) && decide (a < 0x120 + n / 16))
    || (decide (0x200 ≤ a) && decide (a ≤ 0x208))

/-- Whether a tile register is read-only (R270). -/
def tileRegRo (a : Nat) : Bool := decide (a ≤ 4) || decide (a = 0x11) || decide (0x100 ≤ a)

/-- STAT (R270). -/
def TileSt.stat (t : TileSt) : Nat :=
  b2n t.park + b2n t.src0 * 2 + t.asrc * 4 + b2n (t.port 0).lock * 16 + b2n (t.port 1).lock * 32
    + Nat.min 255 t.heldRun * 256 + t.rng % 4 * 65536 + t.tsb % 2 * 262144

/-- A tile register read at a port (R270). -/
def TileSt.readReg (t : TileSt) (p a : Nat) : Nat :=
  let x := t.port p
  let i := t.ident.getD ⟨0, 0, false, false, 0, 0, 0, 0, 0⟩
  if a = 0 then i.gen % 16 + i.rev % 16 * 16 + b2n i.three * 256 + b2n i.dual * 512
  else if a = 1 then i.nslot % 1024 + i.nmon % 128 * 65536
  else if a = 2 then i.trxlat % 65536 + i.ttxlat % 65536 * 65536
  else if a = 3 then i.serial % 2 ^ 32
  else if a = 4 then i.serial / 2 ^ 32 % 2 ^ 32
  else if a = 0x10 then x.ulslot + x.holdwin * 256 + x.rto * 65536
  else if a = 0x11 then t.stat
  else if 0x200 ≤ a then x.counts.getD (a - 0x200) 0
  else if 0x120 ≤ a then bitsAt t.complyBits (32 * (a - 0x120)) 32
  else if 0x100 ≤ a then bitsAt t.openBits (32 * (a - 0x100)) 32
  else tget 0 x.words a

/-- R268: the heater frame of the link frame that a port has received last. -/
def TileSt.delivery (t : TileSt) (p : Nat) : Nat :=
  match (t.port p).expect with
  | some e => (e + 2 ^ 24 - 1) % 2 ^ 24
  | none => t.fnum

/-- R272: the register belongs to a bank that an announcement has frozen for a frame after `n`. -/
def TPort.frozen (x : TPort) (n a : Nat) : Bool :=
  match Prep.left n x.prepTs with
  | some b => if a ≤ 0x2F then decide (0x20 ≤ a) && decide ((a - 0x20) / 8 = b.val) else decide ((a - 0x40) / 0x40 = b.val)
  | none => false

/-- A tile register written at a port (R265, R266, R270). Only the fields that exist are kept. A frozen bank keeps its words
(R272, log 66). -/
def TileSt.writeReg (t : TileSt) (p a v : Nat) : TileSt :=
  t.modPort p fun x =>
    if x.frozen (t.delivery p) a then x
    else if a = 0x10 then { x with ulslot := v % 32, holdwin := bitsAt v 8 8, rto := bitsAt v 16 4, fresh := false }
    else if a = 0x12 then if v.testBit 0 then { x with counts := List.replicate 9 0 } else x
    else if a ≤ 0x2F then { x with words := tset 0 x.words a (v % 32 + bitsAt v 8 5 * 256) }
    else { x with words := tset 0 x.words a (v &&& 0x77777777) }

/-! ### Requests (R267 to R269, R272) -/

/-- A message the tile posts on a port. -/
def TPort.say (x : TPort) (m : TMsg) : TPort := { x with chan := x.chan.post m }

/-- R269: FNUM lies 9 to 2^23 frames ahead of the heater frame of delivery. -/
def TileSt.ahead (t : TileSt) (p fnum : Nat) : Bool :=
  let d := (fnum + 2 ^ 24 - t.delivery p % 2 ^ 24) % 2 ^ 24
  decide (9 ≤ d) && decide (d ≤ 2 ^ 23)

/-- R267: a RD executed. -/
def TileSt.doRd (t : TileSt) (p tag addr count : Nat) : TileSt :=
  let as_ := (List.range count).map (addr + ·)
  t.modPort p fun x =>
    if count = 0 ∨ 5 < count then x.say (.errRsp tag 6)
    else if as_.all t.hasReg then x.say (.rdRsp tag 0 (as_.map (t.readReg p)))
    else x.say (.rdRsp tag 1 [])

/-- R267, R269: a WR executed: nothing is written unless every register exists and may be written. -/
def TileSt.doWr (t : TileSt) (p tag addr : Nat) (ws : List Nat) : TileSt :=
  let as_ := (List.range ws.length).map (addr + ·)
  if ws.length = 0 ∨ 4 < ws.length then t.modPort p fun x => x.say (.errRsp tag 6)
  else if !as_.all t.hasReg then t.modPort p fun x => x.say (.wrRsp tag 1)
  else if as_.any tileRegRo then t.modPort p fun x => x.say (.wrRsp tag 2)
  else ((ws.zipIdx).foldl (fun t w => t.writeReg p (addr + w.2) w.1) t).modPort p fun x => x.say (.wrRsp tag 0)

/-- R269, R272: an announcement prepared, or why not. -/
def TileSt.doAnnounce (t : TileSt) (p tag kind fnum val : Nat) : TileSt :=
  t.modPort p fun x =>
    let prep := Prep.left (t.delivery p) (if kind = 1 then x.prepRng else x.prepTs)
    if kind ≠ 1 ∧ kind ≠ 2 then x.say (.errRsp tag 6)
    else if (kind = 1 ∧ 3 < val) ∨ (kind = 2 ∧ 1 < val) then x.say (.annAck tag 5 kind fnum)
    else if t.ahead p fnum = false then x.say (.annAck tag 3 kind fnum)
    else if prep.isSome then x.say (.annAck tag 4 kind fnum)
    else
      (if kind = 1 then { x with prepRng := some ⟨fnum, val⟩ } else { x with prepTs := some ⟨fnum, val⟩ }).say
        (.annAck tag 0 kind fnum)

/-- R272: a preparation released. -/
def TileSt.doCancel (t : TileSt) (p tag kind fnum : Nat) : TileSt :=
  t.modPort p fun x =>
    if kind ≠ 1 ∧ kind ≠ 2 then x.say (.errRsp tag 6)
    else (if kind = 1 then { x with prepRng := none } else { x with prepTs := none }).say (.canAck tag 0 kind fnum)

/-- What a tile does with a request delivered at a port. -/
def TileSt.request (t : TileSt) (p : Nat) (m : TMsg) : TileSt :=
  match m with
  | .rd tag a c => t.doRd p tag a c
  | .wr tag a ws => t.doWr p tag a ws
  | .announce tag k f v => t.doAnnounce p tag k f v
  | .cancel tag k f => t.doCancel p tag k f
  | m => t.modPort p fun x => x.say (.errRsp m.tag 6)

/-- The first request delivered at a port is executed if it is of a kind. -/
def TileSt.serve (t : TileSt) (p : Nat) (kind : TMsg → Bool) : TileSt :=
  match (t.port p).chan.inbox with
  | m :: r => if kind m then (t.modPort p fun x => { x with chan := { x.chan with inbox := r } }).request p m else t
  | [] => t

/-- Every request delivered at a port is executed. -/
def TileSt.serveAll (p : Nat) : Nat → TileSt → TileSt
  | 0, t => t
  | n + 1, t => TileSt.serveAll p n (t.serve p fun _ => true)

/-- R235, R239, R265: the place of a link frame at port `p` of the tile. A cell that resets the channel finds the requests
delivered before it executed. -/
def tileFrame (q p : Nat) (f : Option DFrame) (syncErr : Nat) (s : State) : State :=
  s.modTile q fun t =>
    if t.hasPort p then
      let rst := (f.bind DFrame.cell).any Cell.rst
      let t := if rst then TileSt.serveAll p (t.port p).chan.inbox.length t else t
      t.modPort p fun x => x.place t f syncErr
    else t

/-- The meaning of TILE_DOWNSTREAM_FRAME (R239). -/
def execTileDownstreamFrame (q : Fin 32) (p : Fin 2) (f : DArrival) (s : State) : Out :=
  .next (tileFrame q.val p.val f.frame f.syncErr.val s)

/-- The meaning of TILE_RD (R267). -/
def execTileRd (q : Fin 32) (p : Fin 2) (s : State) : Out :=
  .next (s.modTile q.val fun t => t.serve p.val fun m => match m with | .rd _ _ _ => true | _ => false)

/-- The meaning of TILE_WR (R267). -/
def execTileWr (q : Fin 32) (p : Fin 2) (s : State) : Out :=
  .next (s.modTile q.val fun t => t.serve p.val fun m => match m with | .wr _ _ _ => true | _ => false)

/-- The meaning of TILE_ANNOUNCE (R272). -/
def execTileAnnounce (q : Fin 32) (p : Fin 2) (s : State) : Out :=
  .next (s.modTile q.val fun t => t.serve p.val fun m => match m with | .announce _ _ _ _ => true | _ => false)

/-- The meaning of TILE_CANCEL (R272). -/
def execTileCancel (q : Fin 32) (p : Fin 2) (s : State) : Out :=
  .next (s.modTile q.val fun t => t.serve p.val fun m => match m with | .cancel _ _ _ => true | _ => false)

/-! ### Conditions and events (R274 to R276) -/

/-- R274, R275: an output enters or leaves a condition: nothing where it is there already or the tile has no such output, and
an output in OPEN is not in COMPLY. -/
def TileSt.condition (t : TileSt) (output : Nat) (comply entered : Bool) : TileSt :=
  let n := match t.ident with
    | some i => 2 * i.nslot
    | none => 0
  let isOpen := t.openBits.testBit output
  let inComply := t.complyBits.testBit output
  let setC := fun (t : TileSt) (b : Bool) => ({ t with complyBits := setBits t.complyBits output 1 (b2n b) }).queueEvent (if b then 3 else 4) output
  let setO := fun (t : TileSt) (b : Bool) => ({ t with openBits := setBits t.openBits output 1 (b2n b) }).queueEvent (if b then 1 else 2) output
  if n ≤ output then t
  else if comply then (if inComply == entered || (entered && isOpen) then t else setC t entered)
  else if isOpen == entered then t
  else setO (if entered && inComply then setC t false else t) entered

/-- The meaning of TILE_CONDITION_DETECT (R274). -/
def execTileConditionDetect (q : Fin 32) (output : Fin 768) (comply entered : Bool) (s : State) : Out :=
  .next (s.modTile q.val fun t => t.condition output.val comply entered)

/-- The meaning of TILE_OVERTEMP (R275): TTL rises above the tile's own limit. -/
def execTileOvertemp (q : Fin 32) (s : State) : Out := .next (s.modTile q.val fun t => t.queueEvent 5 0)

/-! ### Upstream frames (R224, R228, R229, R259, R260, R276, R283) -/

/-- R268, R276: a queued event goes into the cell that would carry no answer and no resending. -/
def TPort.sendEvents (x : TPort) : TPort :=
  match x.events with
  | e :: r =>
    if x.lock = true ∧ x.expect.isSome = true ∧ x.chan.resetting = false ∧ x.chan.waiting = [] ∧ x.chan.again = none ∧ x.chan.out.length < 16 then
      { x with
        events := r
        evLost := false
        chan := x.chan.post (.event e.count e.code e.output e.fnum (e.lost || x.evLost)) }
    else x
  | [] => x

/-- R260: the port holds events not yet acknowledged. -/
def TPort.evPend (x : TPort) : Bool :=
  decide (x.events ≠ []) || x.chan.waiting.any (fun m => m.event?.isSome) || x.chan.out.any fun e => e.2.1.event?.isSome

/-- R263: the tile's retransmission timer; the tile never gives up (R264). -/
def TPort.ageChan (x : TPort) : TPort :=
  let c := x.chan.age
  { x with chan := if c.expired x.rto then c.resend else c }

/-- R224: the fill of the upstream frame that ends now: it lasted as long as the heater frame between the two reference
instants, which is as long as the link frame that came, and as much longer as ULSLOT has grown. -/
def TPort.endFill (gen : Nat) (x : TPort) : Nat :=
  ((x.span : Int) + (frameBits gen 10 : Int) * ((x.ulslot : Int) - (x.sentSlot : Int)) - (upFixed gen : Int)).toNat

/-- R224, R228, R260, R283: the upstream frame of a port, carrying the samples of the heater frame that the tile is in; what
the tile measures of its downstream margin and temperatures are operands. The frame before it ends. -/
def TileSt.launch (t : TileSt) (p eye tph ttl : Nat) : TileSt :=
  let t := { t with tph := tph, ttl := ttl }
  let t := TileSt.serveAll p (t.port p).chan.inbox.length t
  let t := t.modPort p fun x => if x.train then x.ageChan else x.ageChan.sendEvents
  let x := t.port p
  match t.ident with
  | some i =>
    if x.lock ∧ x.expect.isSome then
      let train := x.train
      let ack := x.chan.pick
      let again := ack.resent
      let cell : Cell := ⟨ack.body, x.chan.ackNo, x.chan.resetting, t.rng, t.tsb, x.fresh, x.evPend, tph, ttl⟩
      let u : UFrame := ⟨if train then 3 else 2, i.gen, p, t.asrc, t.src0, t.held, t.park, t.fnum, x.rxfn, x.dbad,
        i.serial % 256, t.samples, eye, x.cpre, x.lock, if train then none else some cell, true⟩
      t.modPort p fun x =>
        { (if again ∧ train = false then x.count 8 else x) with
          dbad := 0
          before := x.sent.map fun o => (o, x.endFill i.gen)
          sent := some u
          sentSlot := x.ulslot
          chan := if train then x.chan else ack.chan }
    else t
  | none => t

/-- The meaning of TILE_UPSTREAM_LAUNCH (R224). -/
def execTileUpstreamLaunch (q : Fin 32) (p : Fin 2) (eye : Fin 256) (tph ttl : BitVec 16) (s : State) : Out :=
  .next (s.modTile q.val fun t => t.launch p.val eye.val tph.toNat ttl.toNat)

end Sys2Proof.Machine
end

