-- ==== Sys2Proof/Machine/RegView.lean ====
section
/-! DEFINITION. What a read of a register shows (R4, R8): the fields that stand for state with a home of its own, the
registers behind a select register, and the reads that latch another register. -/
namespace Sys2Proof.Machine

/-- Thirty-two bits as a word, bit t from `p t`. -/
def bitRow (p : Nat → Bool) : Nat := (List.range 32).foldl (fun v t => v + b2n (p t) * 2 ^ t) 0

/-- The code of a pending command in MOR.BSTAT.CMD (R138). DESIGN CHOICE (log 65): where a command and a change of coefficients
both wait, the command is shown. -/
def bcmdCode (s : State) (b : Nat) : Nat :=
  match (s.bun b).cmd with
  | .opening => 1
  | .closing => 2
  | .none => if s.coefPending b then 3 else 0

/-- The records in a state (06, MAN.STAT). -/
def State.recCount (s : State) (st : RecState) : Nat := s.exec.recs.countP fun e => decide (e.2.st = st)

/-- A field of the directory entry of a manifest; zero where none is loaded. -/
def manView (s : State) (n : Nat) (f : Manifest → Nat) : Nat :=
  match s.man n with
  | some m => f m
  | none => 0

/-- MAN.DIRENT.BUSY: the manifest has a QUEUED or RUNNING record. -/
def State.manBusy (s : State) (n : Nat) : Bool := s.exec.recs.any fun e => e.2.isOpen && decide (e.2.manifest = n)

/-- The session of an index. -/
def State.sess (s : State) (i : Nat) : Sess := tget Sess.init s.pen.sess i

/-- The sessions in a state: 1 HALF, 2 OPEN. -/
def State.sessCount (s : State) (st : Nat) : Nat := s.pen.sess.countP fun e => decide (e.2.st = st)

/-- R305: the requests in flight. -/
def State.inFlight (s : State) : Nat :=
  s.pen.sess.foldl (fun n e => n + e.2.cache.countP fun c => decide (c.2.st = .busy)) 0

/-- A field of the OPEN at the head of the queue; zero where there is none. -/
def openHead (s : State) (f : OpenReq → Nat) : Nat :=
  match s.pen.openq with
  | o :: _ => f o
  | [] => 0

/-- A field of the head capture of an event pin; zero where there is none. -/
def evtHead (s : State) (n : Nat) (f : EvtCap → Nat) : Nat :=
  match s.evtFifo n with
  | c :: _ => f c
  | [] => 0

/-- Bytes of the OTP as the shadows hold them, as a number (R432). -/
def State.otpNum (s : State) (byte n : Nat) : Nat := leNat (tgetBytes s.boot.shadow 0 byte n)

/-- The bits set in a number of `n` bits. -/
def bitCount (n v : Nat) : Nat := (List.range n).countP fun b => v.testBit b

/-- OTP.SVN.COUNT: the bits set in the SVN counter (R432). -/
def State.svnCount (s : State) : Nat := bitCount 64 (s.otpNum 0x280 8)

/-- OTP.RDATA: a word of the shadows; the key slots read as zero (R290, R432). -/
def State.otpShow (s : State) (w : Nat) : Nat := if 0x60 ≤ w ∧ w < 0xA0 then 0 else s.otpNum (4 * w) 4

/-- The number of a sequencer state (R446). -/
def seqCode : SeqState → Nat
  | .halted => 0 | .run => 1 | .wait => 2 | .fault => 3

/-- A crane channel. -/
def State.crane (s : State) (c : Nat) : Crane := s.port.cranes.getD c Crane.init

/-- A channel runs a chain (R475). -/
def Crane.busy (x : Crane) : Bool := x.toRead.isSome || x.cur.isSome

/-- A NET port. -/
def State.net (s : State) (p : Nat) : NetPort := s.port.nets.getD p NetPort.init

/-- A PTP transmit buffer waits or is being sent (R494). -/
def NetPort.flies (x : NetPort) (k : Nat) : Bool :=
  (x.flying.toList ++ x.txq).any fun f =>
    match f with
    | .ptp b _ _ _ => decide (b = k)
    | _ => false

/-- R113: timing set `i % 8` of the active copy of quay `i / 8`. -/
def State.activeSet (s : State) (i : Nat) : TSet := (s.quay (i / 8)).tsets.getD (i % 8) ⟨0, 0, 0⟩

/-- R113: assignment `k` of QY.TSASGj, of the active copy with QY.TSREQ.ACTSEL set, else of the staging copy. -/
def State.asgShown (s : State) (f : Fld) (i k : Nat) : Nat :=
  if s.flagi F.QY_TSREQ_ACTSEL (i / 48) then tget 0 (s.quay (i / 48)).tasg (8 * (i % 48) + k) else s.fgi f i


/-- What the QY fields show that are not stored as fields. -/
def viewQy (s : State) (f : Fld) (i : Nat) : Nat :=
  if f.is F.QY_SNPCODE_MAG then
    (s.snapSlot i).used.v.natAbs
  else if f.is F.QY_SNPCODE_ARM then
    b2n (s.snapSlot i).used.armB
  else if f.is F.QY_SNPCODE_PAIR then
    (s.snapSlot i).word / 2 ^ 26
  else if f.is F.QY_TSETn_STROBE then
    if s.flagi F.QY_TSREQ_ACTSEL (i / 8) then (s.activeSet i).strobe else s.fgi f i
  else if f.is F.QY_TSETn_SAMP then
    if s.flagi F.QY_TSREQ_ACTSEL (i / 8) then (s.activeSet i).samp else s.fgi f i
  else if f.is F.QY_TSETn_PILOFF then
    if s.flagi F.QY_TSREQ_ACTSEL (i / 8) then (s.activeSet i).piloff else s.fgi f i
  else if f.is F.QY_TSASGj_SET0 then
    s.asgShown f i 0
  else if f.is F.QY_TSASGj_SET1 then
    s.asgShown f i 1
  else if f.is F.QY_TSASGj_SET2 then
    s.asgShown f i 2
  else if f.is F.QY_TSASGj_SET3 then
    s.asgShown f i 3
  else if f.is F.QY_TSASGj_SET4 then
    s.asgShown f i 4
  else if f.is F.QY_TSASGj_SET5 then
    s.asgShown f i 5
  else if f.is F.QY_TSASGj_SET6 then
    s.asgShown f i 6
  else if f.is F.QY_TSASGj_SET7 then
    s.asgShown f i 7
  else if f.is F.QY_DRVSTAT_RANGE then
    s.rangeAt i s.frame
  else if f.is F.QY_TCHSTAT_SYNC then
    b2n ((s.lane i).chan.synced && !(s.lane i).chan.resetting)
  else if f.is F.QY_TCHSTAT_RSTPEND then
    b2n (s.lane i).chan.resetting
  else if f.is F.QY_TCHSTAT_OUTST then
    (s.lane i).chan.out.length
  else s.fgi f i

/-- What the SEG fields show that are not stored as fields. -/
def viewSeg (s : State) (f : Fld) (i : Nat) : Nat :=
  if f.is F.SEG_LIBUSE_BEATS then
    libUse s
  else s.fgi f i

/-- What the MOR fields show that are not stored as fields. -/
def viewMor (s : State) (f : Fld) (i : Nat) : Nat :=
  if f.is F.MOR_STAT_ANYHOLD then
    b2n (s.popBundles.any fun b => decide ((s.bun b).st = .hold))
  else if f.is F.MOR_STAT_SPARES then
    Nat.min 3 s.spares
  else if f.is F.MOR_BSTAT_STATE then
    (s.bun (Nat.min i 1535)).st.code
  else if f.is F.MOR_BSTAT_RET then
    (s.bun (Nat.min i 1535)).ret.code
  else if f.is F.MOR_BSTAT_CAUSE then
    (s.bun (Nat.min i 1535)).cause.code
  else if f.is F.MOR_BSTAT_CMD then
    bcmdCode s (Nat.min i 1535)
  else if f.is F.MOR_BSTAT_K then
    (s.coef (Nat.min i 1535)).k
  else if f.is F.MOR_SETBMPw_SETTLED then
    bitRow fun t => (s.slot (32 * i + t)).lp.settled
  else s.fgi f i

/-- What the MAN fields show that are not stored as fields. -/
def viewMan (s : State) (f : Fld) (i : Nat) : Nat :=
  if f.is F.MAN_STAT_QUEUED then
    s.recCount .queued
  else if f.is F.MAN_STAT_RUNNING then
    s.recCount .running
  else if f.is F.MAN_RECWw_WORD then
    if s.fg F.MAN_RSEL_INDEX < s.recCnt then leAt (recBytes s (s.fg F.MAN_RSEL_INDEX)) (4 * i) 4 else 0
  else if f.is F.MAN_DIRENT_NENT then
    manView s i Manifest.nent
  else if f.is F.MAN_DIRENT_CLASS then
    manView s i fun m => m.cls.code
  else if f.is F.MAN_DIRENT_PROFLEN then
    manView s i Manifest.profLen
  else if f.is F.MAN_DIRENT_VALID then
    manView s i fun _ => 1
  else if f.is F.MAN_DIRENT_BUSY then
    b2n (s.manBusy i)
  else if f.is F.MAN_DIRADDR_ADDR then
    manView s i Manifest.addr
  else if f.is F.MAN_SLOTCFG_OWNER then
    (s.slot (Nat.min i 12287)).ownerNext.getD (s.slot (Nat.min i 12287)).owner
  else if f.is F.MAN_SLOTCFG_FAILED then
    b2n (s.slot (Nat.min i 12287)).failed
  else if f.is F.MAN_SLOTCFG_RESVD then
    b2n (s.slot (Nat.min i 12287)).resv.isSome
  else if f.is F.MAN_SLOTCFG_CIRC then
    (s.slot (Nat.min i 12287)).resv.getD 0
  else if f.is F.MAN_CSTAT_STATE then
    (s.circuit i).st
  else if f.is F.MAN_CSTAT_MANIFEST then
    if (s.circuit i).st = 1 then (s.circuit i).manifest else 0
  else s.fgi f i

/-- What the SCH fields show that are not stored as fields. -/
def viewSch (s : State) (f : Fld) (i : Nat) : Nat :=
  if f.is F.SCH_STAT_TIDE then
    b2n s.tide.run
  else if f.is F.SCH_VTLO_VT then
    s.sched.vt % 2 ^ 32
  else if f.is F.SCH_QBALLO_BAL then
    unsgn 48 (s.que i).bal % 2 ^ 32
  else if f.is F.SCH_QFTLO_FT then
    (s.que i).ft % 2 ^ 32
  else if f.is F.SCH_QSTAT_DEPTH then
    (s.que i).recs.length
  else if f.is F.SCH_QSTAT_DRAIN then
    b2n (!s.flagi F.SCH_QCFG_EN i && decide ((s.que i).recs ≠ []))
  else if f.is F.SCH_QSTAT_WAIT then
    (s.que i).wait
  else if f.is F.SCH_QSTAT_HEAD then
    (s.que i).recs.headD 0
  else s.fgi f i

/-- What the TIM fields show that are not stored as fields. -/
def viewTim (s : State) (f : Fld) (i : Nat) : Nat :=
  if f.is F.TIM_TBnINCLO_INC then
    if i = 3 then s.time.inc3 % 2 ^ 32 else s.fgi f i
  else if f.is F.TIM_TBnINCHI_INC then
    if i = 3 then s.time.inc3 / 2 ^ 32 % 8 else s.fgi f i
  else s.fgi f i

/-- What the TID fields show that are not stored as fields. -/
def viewTid (s : State) (f : Fld) (i : Nat) : Nat :=
  if f.is F.TID_START_FRAME then
    s.tide.start
  else if f.is F.TID_CYCLES then
    s.tide.cycles
  else if f.is F.TID_STAT_RUN then
    b2n s.tide.run
  else if f.is F.TID_STAT_SHADOW then
    s.tide.shadow
  else if f.is F.TID_STAT_PEND then
    b2n s.tide.pstart.isSome
  else if f.is F.TID_STAT_STOPPEND then
    b2n s.tide.stopCmd
  else if f.is F.TID_SCYCLE_CYCLE then
    s.shadowTab.cycle
  else if f.is F.TID_SHDR_NENTRY then
    s.shadowTab.hdr.nent
  else if f.is F.TID_SHDR_ONESHOT then
    b2n s.shadowTab.hdr.oneshot
  else if f.is F.TID_SHDR_AUTOARM then
    b2n s.shadowTab.hdr.autoarm
  else if f.is F.TID_SBASE_BASE then
    s.shadowTab.hdr.base
  else if f.is F.TID_EWw_WORD then
    ewRead i s
  else s.fgi f i

/-- What the PVE fields show that are not stored as fields. -/
def viewPve (s : State) (f : Fld) (i : Nat) : Nat :=
  if f.is F.PVE_STAT_NOPEN then
    s.sessCount 2
  else if f.is F.PVE_STAT_NHALF then
    Nat.min 127 (s.sessCount 1)
  else if f.is F.PVE_STAT_OPENQ then
    s.pen.openq.length
  else if f.is F.PVE_STAT_INFLIGHT then
    s.inFlight
  else if f.is F.PVE_OPENQ_VALID then
    b2n (decide (s.pen.openq ≠ []))
  else if f.is F.PVE_OPENQ_RQ then
    openHead s fun o => o.rq
  else if f.is F.PVE_OPENQ_VERS then
    openHead s fun o => b2n o.v2
  else if f.is F.PVE_OPENQ_ARRIVAL then
    openHead s fun o => o.frame % 65536
  else if f.is F.PVE_SCTX_STATE then
    (s.sess i).st
  else if f.is F.PVE_SCTX_VERS then
    b2n (s.sess i).v2
  else if f.is F.PVE_SCTX_NET then
    (s.sess i).peer.net
  else if f.is F.PVE_SCTX_RQ then
    (s.sess i).rq
  else if f.is F.PVE_SCTX_SGEN then
    (s.sess i).sgen
  else if f.is F.PVE_SRXHI_SEQ then
    (s.sess i).h
  else if f.is F.PVE_STXSEQ_SEQ then
    if (s.sess i).st = 0 then 0 else add32 (s.sess i).tx 1
  else if f.is F.PVE_SAUTH_FAILS then
    (s.sess i).fails
  else if f.is F.PVE_SCNT_HALF then
    s.sessCount 1
  else if f.is F.PVE_SCNT_OPEN then
    s.sessCount 2
  else if f.is F.PVE_KEYSTAT_USABLE then
    s.boot.keys
  else s.fgi f i

/-- What the EVT fields show that are not stored as fields. -/
def viewEvt (s : State) (f : Fld) (i : Nat) : Nat :=
  if f.is F.EVT_STAT_NEW then
    (List.range 4).foldl (fun v n => v + b2n (decide (s.evtFifo n ≠ [])) * 2 ^ n) 0
  else if f.is F.EVT_CAPFn_FRAME then
    evtHead s i fun c => c.frame
  else if f.is F.EVT_CAPSn_SUB then
    evtHead s i fun c => c.sub * 16 / 2 ^ 32
  else if f.is F.EVT_CAPSn_EDGE then
    evtHead s i fun c => b2n c.falling
  else if f.is F.EVT_CAPSn_WRAP then
    evtHead s i fun c => c.wrap
  else s.fgi f i

/-- What the ROL fields show that are not stored as fields. DESIGN CHOICE (log 4): ROL.STAT.STATE shows the device state at
reset too, as SYS.STATE.STATE does. -/
def viewRol (s : State) (f : Fld) (i : Nat) : Nat :=
  if f.is F.ROL_STAT_STATE then
    s.dev.code
  else if f.is F.ROL_STAT_SENIOR then
    s.fg F.SYS_STRAP_SENIOR
  else if f.is F.ROL_STAT_AUTH then
    b2n s.auth
  else if f.is F.ROL_STAT_ACTIN then
    b2n (decide (s.mir.actEdges % 8 / 2 ≠ 0))
  else if f.is F.ROL_STAT_PSTATE then
    match s.mir.header with | some h => h.state | none => 0
  else if f.is F.ROL_STAT_PREADY then
    match s.mir.header with | some h => b2n h.ready | none => 0
  else if f.is F.ROL_STAT_SWPEND then
    b2n s.mir.swap.isSome
  else s.fgi f i

/-- What the MIR fields show that are not stored as fields. -/
def viewMir (s : State) (f : Fld) (i : Nat) : Nat :=
  if f.is F.MIR_STAT_LANE0 then
    (s.mir.lanes.getD 0 MLane.init).st
  else if f.is F.MIR_STAT_LANE1 then
    (s.mir.lanes.getD 1 MLane.init).st
  else if f.is F.MIR_STAT_EPST then
    match s.mir.epoch with | none => 0 | some e => if e.fin.isSome then 2 else 1
  else if f.is F.MIR_EPSTAT_SETSZ then
    match s.mir.epoch with | none => 0 | some e => e.bundles.length
  else if f.is F.MIR_EPSTAT_VERIFIED then
    match s.mir.epoch with | none => 0 | some e => e.staged.countP fun x => match x.2 with | some g => g.ok | none => false
  else if f.is F.MIR_UNSYNC then
    if s.holds then 0 else s.popBundles.countP fun b => !(s.bun b).synced
  else if f.is F.MIR_SYNCBMPw_SYNCED then
    if s.holds then 0xFFFFFFFF else bitRow fun t => (s.bun (32 * i + t)).synced
  else s.fgi f i

/-- What the CAL fields show that are not stored as fields. -/
def viewCal (s : State) (f : Fld) (i : Nat) : Nat :=
  if f.is F.CAL_TRIM_VALUE then
    (tget (0, false) s.cal.trims (s.fg F.CAL_TRIMSEL_TRIM * 64 + s.fg F.CAL_TRIMSEL_INDEX)).1
  else if f.is F.CAL_TRIM_USER then
    b2n (tget (0, false) s.cal.trims (s.fg F.CAL_TRIMSEL_TRIM * 64 + s.fg F.CAL_TRIMSEL_INDEX)).2
  else if f.is F.CAL_UCFG1_SETTLE then
    if s.fgi F.CAL_UCFG0_KIND i = 0 then s.fgi f i % 256 else s.fgi f i
  else s.fgi f i

/-- What the SYS fields show that are not stored as fields. -/
def viewSys (s : State) (f : Fld) (i : Nat) : Nat :=
  if f.is F.SYS_STATE_STATE then
    s.dev.code
  else if f.is F.SYS_STATE_CLASS then
    b2n (!s.fab.small)
  else if f.is F.SYS_LOCK_LOCK then
    b2n s.locked
  else s.fgi f i

/-- What the OTP fields show that are not stored as fields. -/
def viewOtp (s : State) (f : Fld) (i : Nat) : Nat :=
  if f.is F.OTP_STAT_PBUSY then
    b2n (s.boot.otpOp.isSome && !s.boot.otpHeld)
  else if f.is F.OTP_STAT_PHOLD then
    b2n (s.boot.otpOp.isSome && s.boot.otpHeld)
  else if f.is F.OTP_DEVIDLO_ID then
    s.otpNum 0 4
  else if f.is F.OTP_DEVIDHI_ID then
    s.otpNum 4 4
  else if f.is F.OTP_KEYBITS_PKVALID then
    s.otpNum 0x288 1 % 16
  else if f.is F.OTP_KEYBITS_PKREVOKE then
    s.otpNum 0x288 1 / 16
  else if f.is F.OTP_KEYBITS_KVALID then
    s.otpNum 0x289 1
  else if f.is F.OTP_KEYBITS_KREVOKE then
    s.otpNum 0x28A 1
  else if f.is F.OTP_KEYBITS_FACTORY then
    s.otpNum 0x28B 1 % 2
  else if f.is F.OTP_KEYBITS_PKLOCK then
    s.otpNum 0x28B 1 / 2 % 2
  else if f.is F.OTP_KEYBITS_KLOCK then
    s.otpNum 0x28B 1 / 4 % 2
  else if f.is F.OTP_SVN then
    s.svnCount
  else if f.is F.OTP_RDATA_DATA then
    s.otpShow (s.fg F.OTP_RADDR_WORD)
  else s.fgi f i

/-- What the XSP fields show that are not stored as fields. -/
def viewXsp (s : State) (f : Fld) (i : Nat) : Nat :=
  if f.is F.XSP_OPSTAT_DEPTH then
    s.boot.ops.countP fun o => !o.store
  else if f.is F.XSP_OPSTAT_BUSY then
    b2n s.boot.cur.isSome
  else if f.is F.XSP_OPSTAT_HELD then
    b2n s.boot.opsHeld
  else s.fgi f i

/-- What the TSQ fields show that are not stored as fields. -/
def viewTsq (s : State) (f : Fld) (i : Nat) : Nat :=
  if f.is F.TSQ_STATn_STATE then
    seqCode (s.sq i).st
  else if f.is F.TSQ_STATn_IM then
    b2n (s.sq i).im
  else if f.is F.TSQ_STATn_CL then
    (s.sq i).cl
  else if f.is F.TSQ_STATn_DEPTH then
    (s.sq i).stack.length
  else if f.is F.TSQ_STATn_ICAUSE then
    (s.sq i).icause
  else if f.is F.TSQ_PCn_PC then
    (s.sq i).pc
  else s.fgi f i

/-- What the ICU fields show that are not stored as fields. -/
def viewIcu (s : State) (f : Fld) (i : Nat) : Nat :=
  if f.is F.ICU_TGTt_SOURCE then
    (s.chosen i 16).getD 0
  else if f.is F.ICU_TGTt_VALID then
    b2n (s.chosen i 16).isSome
  else if f.is F.ICU_SRCCFGs_PEND then
    b2n (s.pend i)
  else if f.is F.ICU_SRCCFGs_OVR then
    b2n (s.bit F.ICU_OVRw_SRC (i / 32) (i % 32))
  else s.fgi f i

/-- What the CRN fields show that are not stored as fields. -/
def viewCrn (s : State) (f : Fld) (i : Nat) : Nat :=
  if f.is F.CRN_STAT_BUSY then
    (List.range 4).foldl (fun v c => v + b2n (s.crane c).busy * 2 ^ c) 0
  else if f.is F.CRN_CHSTATc_BUSY then
    b2n (s.crane i).busy
  else if f.is F.CRN_CHREMc_BYTES then
    match (s.crane i).cur with | some d => d.len - (s.crane i).moved | none => 0
  else s.fgi f i

/-- What the NET fields show that are not stored as fields. -/
def viewNet (s : State) (f : Fld) (i : Nat) : Nat :=
  if f.is F.NET_PRX_COUNT then
    (s.net i).filled.length
  else if f.is F.NET_PRX_HEAD then
    (s.net i).filled.headD 0
  else if f.is F.NET_PTXSTAT_BUSY then
    (List.range 4).foldl (fun v k => v + b2n ((s.net i).flies k) * 2 ^ k) 0
  else if f.is F.NET_TXTS_VALUE then
    (s.net i).ts / 2 ^ 32 % 2 ^ 32
  else s.fgi f i

/-- What the SBI fields show that are not stored as fields. -/
def viewSbi (s : State) (f : Fld) (i : Nat) : Nat :=
  if f.is F.SBI_USTAT_RXCNT then
    s.port.sbi.rx.length
  else if f.is F.SBI_USTAT_TXFREE then
    64 - s.port.sbi.tx.length
  else if f.is F.SBI_URX_BYTE then
    s.port.sbi.rx.headD 0
  else s.fgi f i

/-- What a field shows (R4): the state it stands for, or its stored value. -/
def fieldView (s : State) (f : Fld) (i : Nat) : Nat :=
  let b := f.base / 0x10000
  if b = 0x4020 then viewQy s f i
  else if b = 0x4012 then viewSeg s f i
  else if b = 0x4010 then viewMor s f i
  else if b = 0x400f then viewMan s f i
  else if b = 0x400d then viewSch s f i
  else if b = 0x4009 then viewTim s f i
  else if b = 0x400e then viewTid s f i
  else if b = 0x400c then viewPve s f i
  else if b = 0x4016 then viewEvt s f i
  else if b = 0x4015 then viewRol s f i
  else if b = 0x4014 then viewMir s f i
  else if b = 0x4013 then viewCal s f i
  else if b = 0x4000 then viewSys s f i
  else if b = 0x4007 then viewOtp s f i
  else if b = 0x4008 then viewXsp s f i
  else if b = 0x4005 then viewTsq s f i
  else if b = 0x4003 then viewIcu s f i
  else if b = 0x4006 then viewCrn s f i
  else if b = 0x400a then viewNet s f i
  else if b = 0x4017 then viewSbi s f i
  else s.fgi f i

/-- The instance of a register behind a select register: it names the instance among those of the outermost dimension. -/
def State.inst (s : State) (d : RegDesc) (i : Nat) : Nat :=
  match d.sel with
  | none => i
  | some f =>
    match d.dims with
    | [] =>
      let v := s.fg f
      if f.is F.SEG_BSEL_BUNDLE || f.is F.MOR_BSEL_BUNDLE then Nat.min v 1535
      else if f.is F.MAN_SSEL_SLOT then Nat.min v 12287
      else v
    | _ :: inner =>
      let n := inner.foldl (fun n x => n * x.2) 1
      (i / n * 4 + s.fgi f (i / n)) * n + i % n

/-- The register at an address, with its instance. -/
def regFind (a : Nat) : List RegDesc → Option (RegDesc × Nat)
  | [] => none
  | d :: t =>
    if a < d.base then regFind a t
    else
      match dimIndex d.dims (a - d.base) 0 with
      | some i => some (d, i)
      | none => regFind a t

/-- The word that the fields of a register show; write-only fields and actions read as zero (R4, R9). -/
def regWord (s : State) (d : RegDesc) (i : Nat) : Nat :=
  d.flds.foldl (fun v f =>
    match f.acc with
    | .wo => v
    | .w1p => v
    | _ => v + fieldView s f (s.inst d i) % 2 ^ f.width * 2 ^ f.lo) 0

/-- Reads that latch another register (R183, R187, R331, R494). A read of SCH.QFTLO latches SCH.QFTHI as a read of
SCH.QBALLO does. -/
def readLatch (d : RegDesc) (i c : Nat) (s : State) : State :=
  if d.base = F.TIM_TBnNS_VALUE.base then tbNsRead i c s
  else if d.base = F.SCH_VTLO_VT.base then vtRead s
  else if d.base = F.SCH_QBALLO_BAL.base then qbalRead s
  else if d.base = F.SCH_QFTLO_FT.base then
    s.fsi F.SCH_QFTHI_FT (s.fg F.SCH_QSEL_QUEUE) ((s.que (s.fg F.SCH_QSEL_QUEUE)).ft / 2 ^ 32)
  else if d.base = F.NET_TXTS_VALUE.base then s.fsi F.NET_TXTSF_VALUE i ((s.net i).ts % 2 ^ 32)
  else s

/-- R493, R494: an address among the buffers of a NET port: the port, and the offset in its window. -/
def netBuf (a : Nat) : Option (Nat × Nat) :=
  if (a / 0x10000 = 0x400A ∨ a / 0x10000 = 0x400B) ∧ 0x1000 ≤ a % 0x10000 ∧ a % 0x10000 < 0x2400 then
    some (a / 0x10000 - 0x400A, a % 0x10000)
  else none

/-- A read of a register block at an aligned address, in a TIME cycle of the frame: the word, which is zero where no
register lies (R8). -/
def regRead (a c : Nat) (s : State) : Nat × State :=
  match regFind a regDescs with
  | none =>
    let w := match netBuf a with
      | some (p, o) => leNat (tgetBytes (s.net p).mem 0 o 4)
      | none => 0
    (w, { s with rdata := w })
  | some (d, i) =>
    let s' := readLatch d i c s
    let w := if d.base = F.TIM_TBnNS_VALUE.base then nsView (s.tbAt i c) else regWord s' d i
    (w, { s' with rdata := w })

end Sys2Proof.Machine
end

