-- ==== Sys2Proof/Machine/MirBase.lean ====
section
/-! DEFINITION. The sending side of the mirror link's acknowledged classes (R360, R361). -/
namespace Sys2Proof.Machine

/-- The harbourmaster's state replaced by a function of it. -/
def State.modMir (s : State) (f : MirSt → MirSt) : State := { s with mir := f s.mir }

/-- At least one mirror lane is up (14, MIR.STAT.UP). -/
def State.mirUp (s : State) : Bool := s.flag F.MIR_STAT_UP

/-- EPMIN in force (14, MIR.CFG). -/
def State.epMin (s : State) : Nat := Nat.min 60 (Nat.max 4 (s.fg F.MIR_CFG_EPMIN))

/-- The bytes of a state block, by what it carries (log 40). -/
def SBlk.size : SBlk → Nat
  | .recs x => 32 * x.recs.length
  | .sched x => 24 * x.queues.length + 16
  | .slots l b => 16 * l.length + 8 * b.length
  | .tide _ => 32768
  | .pilots l => 12 * l.length
  | .quay _ _ _ _ => 256
  | .sess x => 128 * x.length
  | .objects l => (l.map fun o => o.bytes.length).foldl (· + ·) 0
  | .regs l => 8 * l.length

/-- The cells of a message (R360): 28 bytes each. R370 gives a BREC six cells; the other lengths are the model's, from what
R360 says the message carries (log 40). -/
def MMsg.cells : MMsg → Nat
  | .brec _ _ _ _ => 6
  | .hello _ _ => 2
  | .session _ _ => 5
  | .cache _ _ _ => 2
  | .object x _ _ _ => (x.bytes.length + 44 + 27) / 28
  | .sblk _ _ x => Nat.max 1 ((x.size + 8 + 27) / 28)
  | .epReq l _ => Nat.max 1 ((2 * l.length + 4 + 27) / 28)
  | .epStart _ l _ => Nat.max 1 ((2 * l.length + 4 + 27) / 28)
  | .late _ l => Nat.max 1 ((2 * l.length + 4 + 27) / 28)
  | _ => 1

/-- The cells of a message in a class, from a CSEQ: the last holds the message. -/
def msgCells (cls : MClass) (cseq : Nat) (m : MMsg) : List MCell :=
  (List.range (m.cells - 1)).map (fun i => ⟨m.ctype, cls, (cseq + i) % 65536, none⟩)
    ++ [⟨m.ctype, cls, (cseq + (m.cells - 1)) % 65536, some m⟩]

/-- R360: bytes 0 to 3 of a cell. -/
def MCell.head (c : MCell) : List Byte := beBytes 1 c.ctype ++ beBytes 1 c.cls.code ++ beBytes 2 c.cseq

/-- A message queued to be sent and resent until it is acknowledged (R361). -/
def MSend.push (x : MSend) (cls : MClass) (m : MMsg) : MSend :=
  { x with next := (x.next + m.cells) % 65536, cells := x.cells ++ msgCells cls x.next m }

/-- An ACKED message queued; its last CSEQ. -/
def ackedPush (m : MMsg) (s : State) : Nat × State :=
  ((s.mir.ackedOut.next + (m.cells - 1)) % 65536, s.modMir fun x => { x with ackedOut := x.ackedOut.push .acked m })

/-- An EPOCH message queued. -/
def epochPush (m : MMsg) (s : State) : State := s.modMir fun x => { x with epochOut := x.epochOut.push .epoch m }

end Sys2Proof.Machine
end

