-- ==== Sys2Proof/Machine/Penvar.lean ====
section
/-! DEFINITION. Penvar sessions and the message catalogue (11, 12). A command of this file carries the datagram as NET hands
it over; a datagram of another TYPE leaves the state as it is. Where a handler is the firmware, what is modelled is the
standard firmware's (log 20). -/
namespace Sys2Proof.Machine

/-- A session changed. -/
def State.modSess (s : State) (i : Nat) (f : Sess → Sess) : State :=
  s.modPen fun p => { p with sess := tmod Sess.init p.sess i f }

/-- A session changed in a way that its partner device is told of (R307). -/
def touchSess (i : Nat) (f : Sess → Sess) (s : State) : State :=
  (s.modSess i f).modPen fun p => { p with dirty := if i ∈ p.dirty then p.dirty else p.dirty ++ [i] }

/-! ### Messages (R287, R292, R310, R311) -/

/-- The header fields and the body of a message (R310). -/
structure PMsg where
  v2 : Bool
  typ : Nat
  sidx : Nat
  sgen : Nat
  seq : Nat
  reqid : Nat
  rgen : Nat
  body : List Byte
  deriving DecidableEq, Repr

/-- R310: a payload read as a message. RGEN is reserved under PV1. -/
def msgOf (p : List Byte) : PMsg :=
  let v2 := decide (beAt p 0 1 = 2)
  ⟨v2, beAt p 1 1, beAt p 4 1, beAt p 6 2, beAt p 8 4, beAt p 12 2, if v2 then beAt p 14 1 else 0,
   (p.take (p.length - 16)).drop 16⟩

/-- R310: the header and body of a message of the device. -/
def msgBytes (v2 : Bool) (typ sidx flags sgen seq reqid rgen status : Nat) (body : List Byte) : List Byte :=
  beBytes 1 (if v2 then 2 else 1) ++ beBytes 1 typ ++ beBytes 2 (body.length + 32) ++ beBytes 1 sidx ++ beBytes 1 flags
    ++ beBytes 2 sgen ++ beBytes 4 seq ++ beBytes 2 reqid ++ beBytes 1 rgen ++ beBytes 1 status ++ body

/-- R292: a message with its TAG under a key. -/
def tagged (key m : List Byte) : List Byte := m ++ (hmac key m).take 16

/-- R292: the TAG of a payload verifies under a key. -/
def tagOk (key p : List Byte) : Bool := decide ((hmac key (p.take (p.length - 16))).take 16 = p.drop (p.length - 16))

/-- A datagram queued to be sent; while the link of its port is down it is discarded (R495). -/
def penSend (d : PenOut) (s : State) : State :=
  if s.flagi F.NET_STAT_LINK d.peer.net then s.modPen fun p => { p with tx := p.tx ++ [d] }
  else s.bumpi F.NET_TXDROP d.peer.net

/-- R300: the next message of the device in session `i`: its header and body under the next outbound SEQ. -/
def formMsg (i typ flags status : Nat) (body : List Byte) (reqid rgen : Nat) (s : State) : List Byte × State :=
  let x := s.sess i
  let seq := add32 x.tx 1
  (msgBytes x.v2 typ i flags x.sgen seq reqid rgen status body, touchSess i (fun x => { x with tx := seq }) s)

/-- R288, R292: a message of session `i` sent on its reply path. -/
def sendMsg (i : Nat) (m : List Byte) (s : State) : State :=
  penSend ⟨(s.sess i).peer, tagged (s.sess i).kdh m⟩ s

/-- R311: the body of a reply: as given for OK, else the DETAIL. -/
def replyBody (status detail : Nat) (body : List Byte) : List Byte :=
  if status = 0 then body else beBytes 2 detail ++ [0, 0]

/-- What a request ends in (R326, R327). -/
structure Ans where
  status : Nat
  detail : Nat
  body : List Byte
  deriving DecidableEq, Repr

/-- The status codes used below (R326). -/
def Ans.ok (b : List Byte) : Ans := ⟨0, 0, b⟩
/-- MALFORMED with a DETAIL (R326, R327). -/
def Ans.mal (d : Nat) : Ans := ⟨5, d, []⟩
/-- A status that carries no DETAIL (R326). -/
def Ans.st (n : Nat) : Ans := ⟨n, 0, []⟩

/-- A reply to message `m` sent at once, outside the cache. -/
def answer (m : PMsg) (a : Ans) (s : State) : State :=
  let r := formMsg m.sidx m.typ 1 a.status (replyBody a.status a.detail a.body) m.reqid m.rgen s
  sendMsg m.sidx r.1 r.2

/-! ### Closing (R297) -/

/-- R297: a session closes: its keys, window, cache and staging handles go, its generation stays; the firmware's own
command raises nothing. -/
def closeSess (i : Nat) (byFirmware : Bool) (s : State) : State :=
  let s := touchSess i (fun x => { Sess.init with sgen := x.sgen }) s
  let s := s.modPen fun p =>
    { p with
      flight := p.flight.filter fun f => decide (f.sidx ≠ i)
      commits := p.commits.filter fun c => decide (c.sidx ≠ i) }
  if byFirmware then s else s.raise 13

/-- R297: a session whose inbound or outbound SEQ has reached 0xFFFF_FFFF closes. -/
def closeSpent (i : Nat) (s : State) : State :=
  let x := s.sess i
  if x.st ≠ 0 ∧ (x.h = 0xFFFFFFFF ∨ x.tx = 0xFFFFFFFF) then closeSess i false s else s

/-! ### Requesters, keys and opening (R289 to R294) -/

/-- R290: the contents of a key slot. -/
def State.keySlot (s : State) (k : Nat) : List Byte := tgetBytes s.boot.shadow 0 (0x180 + 32 * k) 32

/-- R291: the open key of a requester entry. -/
def State.openKey (s : State) (r : Nat) : List Byte :=
  hkdf (s.keySlot (s.fgi F.PVE_RCFG_KEYSLOT r)) (List.replicate 32 0)
    (beBytes 4 0x50564F50 ++ beBytes 4 (s.fgi F.PVE_RID_RID r)) 32

/-- R293: the valid requester entry with an RID. -/
def State.requester (s : State) (rid : Nat) : Option Nat :=
  (List.range 64).find? fun r => s.flagi F.PVE_RCFG_VALID r && decide (s.fgi F.PVE_RID_RID r = rid)

/-- R293: a requester entry may open under a version, its key slot usable. -/
def State.mayOpen (s : State) (r : Nat) (v2 : Bool) : Bool :=
  s.boot.keys.testBit (s.fgi F.PVE_RCFG_KEYSLOT r)
    && (if v2 then s.flagi F.PVE_RCFG_PV2 r else s.flagi F.PVE_RCFG_PV1 r)

/-- One message authenticated in the running millisecond (R305). -/
def noteAuth (s : State) : State := s.modPen fun p => { p with authMs := p.authMs + 1 }

/-- R292, R293: the reply AUTHFAIL, BUSY or DENIED to an OPEN, with its TAG. -/
def openReply (v2 : Bool) (reqid rgen status : Nat) : List Byte := msgBytes v2 1 0 1 0 0 reqid rgen status [0, 0, 0, 0]

/-- R293, R305: an OPEN message. One that finds the authentication limit of its millisecond reached is dropped before it is
authenticated (log 21). -/
def openReceive (d : Dgram) (m : PMsg) (s : State) : State :=
  if s.decides s.frame = false then s.bump F.PVE_SBYDROP
  else if m.body.length ≠ 20 then s.bump F.PVE_MALFCNT
  else if Nat.max 1 (s.fg F.PVE_OPENLIM_RATE) ≤ s.pen.openMs then s.bump F.PVE_OPENDROP
  else if 2000 ≤ s.pen.authMs then s.bump F.PVE_OVLCNT
  else
    let s := noteAuth (s.modPen fun p => { p with openMs := p.openMs + 1 })
    match s.requester (beAt m.body 0 4) with
    | some r =>
      if s.mayOpen r m.v2 && tagOk (s.openKey r) d.payload then
        if 16 ≤ s.pen.openq.length then s.bump F.PVE_OPENDROP
        else
          (s.modPen fun p =>
            { p with openq := p.openq ++ [⟨r, m.v2, m.body.drop 4, m.reqid, m.rgen, d.peer, s.frame⟩] }).raise 12
      else penSend ⟨d.peer, openReply m.v2 m.reqid m.rgen 6 ++ List.replicate 16 0⟩ (s.bump F.PVE_AUTHCNT)
    | none => penSend ⟨d.peer, openReply m.v2 m.reqid m.rgen 6 ++ List.replicate 16 0⟩ (s.bump F.PVE_AUTHCNT)

/-- R294: the keys of a session. -/
def sessKeys (s : State) (o : OpenReq) (i sgen : Nat) (nd : List Byte) : List Byte :=
  hkdf (s.keySlot (s.fgi F.PVE_RCFG_KEYSLOT o.rq)) (o.nh ++ nd)
    (beBytes 4 (if o.v2 then 0x50563253 else 0x50563153) ++ beBytes 4 (s.fgi F.PVE_RID_RID o.rq) ++ beBytes 1 i
      ++ beBytes 2 sgen) 64

/-- R294, R296: PVE.SCMD.ACCEPT. The device nonce comes from the entropy source: a free value. -/
def scmdAccept (s : State) : State :=
  let i := s.fg F.PVE_SSEL_SESSION
  match s.pen.openq with
  | [] => s.fs F.PVE_STAT_CMDERR 1
  | o :: rest =>
    if s.flag F.PVE_STAT_RNGFAIL = true ∨ (s.sess i).st ≠ 0 then s.fs F.PVE_STAT_CMDERR 1
    else
      let sgen := (s.sess i).sgen % 65535 + 1
      let nd := beBytes 16 (Config.entropy s.fresh).toNat
      let k := sessKeys s o i sgen nd
      let s := { (s.modPen fun p => { p with openq := rest }) with fresh := s.fresh + 1 }
      let s := touchSess i (fun _ =>
        { Sess.init with
          st := 1, v2 := o.v2, rq := o.rq, sgen := sgen, khd := k.take 32, kdh := k.drop 32, peer := o.peer
          timer := s.frame }) (s.bump F.PVE_ACCCNT)
      let r := formMsg i 1 1 0 (nd ++ beBytes 2 (s.fg F.PVE_TCFG_IDLE) ++ beBytes 2 (s.fg F.PVE_TCFG_HALFTMO)) o.reqid
        o.rgen s
      sendMsg i r.1 r.2

/-- The meaning of SCMD_ACCEPT (R294). -/
def execScmdAccept (s : State) : Out := .next (scmdAccept s)

/-- R294: PVE.SCMD.REFUSE with the REFCODE in force: 0 BUSY, 1 DENIED. -/
def scmdRefuse (s : State) : State :=
  match s.pen.openq with
  | [] => s.fs F.PVE_STAT_CMDERR 1
  | o :: rest =>
    let m := openReply o.v2 o.reqid o.rgen (if s.flag F.PVE_SCMD_REFCODE then 4 else 2)
    penSend ⟨o.peer, tagged (s.openKey o.rq) m⟩ (s.modPen fun p => { p with openq := rest })

/-- The meaning of SCMD_REFUSE (R294): REFCODE is written by the same access. -/
def execScmdRefuse (refcode : Fin 2) (s : State) : Out := .next (scmdRefuse (s.fs F.PVE_SCMD_REFCODE refcode.val))

/-- R297: PVE.SCMD.CLOSE; no effect on a FREE session. -/
def scmdClose (s : State) : State :=
  let i := s.fg F.PVE_SSEL_SESSION
  if (s.sess i).st = 0 then s else closeSess i true s

/-- The meaning of SCMD_CLOSE (R297). -/
def execScmdClose (s : State) : Out := .next (scmdClose s)

/-- R294: the entropy source fails its health test. -/
def execRngHealthFail (s : State) : Out := .next (s.fs F.PVE_STAT_RNGFAIL 1)

/-- R546: the coming tick begins a millisecond. -/
def State.msTick (s : State) : Bool := decide (s.coming % 1000 = 0)

/-- R295, R297, R546: a session's timer of `t` milliseconds has expired at the coming tick. -/
def State.timerDue (s : State) (i t : Nat) : Bool := s.msTick && decide (1000 * t ≤ sub32 s.coming (s.sess i).timer)

/-- R295: a HALF session that has accepted no message closes. -/
def halfTimeout (i : Nat) (s : State) : State :=
  if s.holds = true ∧ (s.sess i).st = 1 ∧ s.timerDue i (Nat.max 1 (s.fg F.PVE_TCFG_HALFTMO)) = true then closeSess i false s
  else s

/-- The meaning of HALF_TIMEOUT (R295). -/
def execHalfTimeout (i : Fin 256) (s : State) : Out := .next (halfTimeout i.val s)

/-- R297: an OPEN session that has been idle closes; IDLE 0 disables. -/
def idleTimeout (i : Nat) (s : State) : State :=
  if s.holds = true ∧ (s.sess i).st = 2 ∧ s.fg F.PVE_TCFG_IDLE ≠ 0 ∧ s.timerDue i (1000 * s.fg F.PVE_TCFG_IDLE) = true then
    closeSess i false s
  else s

/-- The meaning of IDLE_TIMEOUT (R297). -/
def execIdleTimeout (i : Fin 256) (s : State) : Out := .next (idleTimeout i.val s)

/-- The statistic clear of PVE (11). -/
def pveStatclr (s : State) : State :=
  (s.fresetAll [F.PVE_RXCNT, F.PVE_IPDROP, F.PVE_ZLENCNT, F.PVE_MALFCNT, F.PVE_OVLCNT, F.PVE_OPENDROP, F.PVE_SBYDROP,
    F.PVE_STALEDROP, F.PVE_AUTHCNT, F.PVE_REPLAYCNT, F.PVE_DUPCNT, F.PVE_RETRYHIT, F.PVE_STALECNT, F.PVE_CONFCNT,
    F.PVE_ACCCNT]).noteCleared 5

/-- The meaning of PVE_STATCLR (R4). -/
def execPveStatclr (s : State) : Out := .next (pveStatclr s)

/-! ### The reply cache (R301 to R304, R308) -/

/-- R303: a PV1 entry complete for less than 2,000,000 frames. -/
def CEntry.guarded (e : CEntry) (f : Nat) : Bool :=
  e.v1 && decide (e.st = .complete) && decide (sub32 f e.doneFrm < 2000000)

/-- R302: a generation is later than another. -/
def rgenLater (a b : Nat) : Bool :=
  let d := (a + 256 - b % 256) % 256
  decide (1 ≤ d) && decide (d ≤ 127)

/-- R302: the entry of a session that holds a REQID. -/
def Sess.lookup (x : Sess) (reqid : Nat) : Option (Nat × CEntry) :=
  x.cache.find? fun e => decide (e.2.st ≠ .empty) && decide (e.2.reqid = reqid)

/-- R304: the entry that a new request takes: a place never used, else the COMPLETE and unguarded entry completed first. -/
def Sess.freeEntry (x : Sess) (f : Nat) : Option Nat :=
  match (List.range 32).find? fun k => decide ((tget CEntry.init x.cache k).st = .empty) with
  | some k => some k
  | none =>
    (x.cache.foldl (fun (b : Option (Nat × Nat)) e =>
      if e.2.st = .complete ∧ e.2.guarded f = false then
        match b with
        | none => some (e.1, e.2.ord)
        | some y => if e.2.ord < y.2 then some (e.1, e.2.ord) else some y
      else b) none).map (·.1)

/-- What the cache says of a CACHED request (R302 to R304). -/
inductive Lookup where
  | fresh (ent : Nat)
  | resend (ent : Nat)
  | wait | conflict | stale | busy
  deriving DecidableEq, Repr

/-- A new request takes an entry, if there is one (R304). -/
def takeEntry (x : Sess) (f : Nat) : Lookup :=
  match x.freeEntry f with
  | some k => .fresh k
  | none => .busy

/-- R302, R303: the outcome of a lookup. -/
def lookup (s : State) (m : PMsg) (crc : Nat) : Lookup :=
  let x := s.sess m.sidx
  match x.lookup m.reqid with
  | none => takeEntry x s.frame
  | some (k, e) =>
    let same : Lookup := if e.crc = crc then (if e.st = .complete then .resend k else .wait) else .conflict
    if m.v2 then
      if e.rgen = m.rgen then same
      else if rgenLater m.rgen e.rgen then (if e.st = .complete then .fresh k else .busy)
      else .stale
    else if e.st = .busy ∨ e.guarded s.frame = true then same
    else .fresh k

/-- An entry of a session's cache changed; the partner is told when it is complete (R307). -/
def State.modEnt (s : State) (i k : Nat) (f : CEntry → CEntry) : State :=
  s.modSess i fun x => { x with cache := tmod CEntry.init x.cache k f }

/-- R301: an entry becomes COMPLETE in a frame. -/
def CEntry.finish (e : CEntry) (frame ord : Nat) : CEntry := { e with st := .complete, doneFrm := frame, ord := ord }

/-- R301, R302: the reply of entry `k` goes out, and the entry is COMPLETE. -/
def finishEntry (i k : Nat) (s : State) : State :=
  let s := (s.modEnt i k fun e => e.finish s.frame s.pen.ord).modPen fun p => { p with ord := p.ord + 1 }
  sendMsg i (tget CEntry.init (s.sess i).cache k).reply s

/-- R308, R316: a CACHED request has been carried out. Its reply goes out at once, or, with the mirror link up, when the partner
has acknowledged the entry, which an OBJECT message carries with the object. -/
def complete (i k typ reqid rgen : Nat) (obj : Option Install) (a : Ans) (s : State) : State :=
  let r := formMsg i typ 1 a.status (replyBody a.status a.detail a.body) reqid rgen s
  let s := r.2.modEnt i k fun e => { e with reply := r.1 }
  if s.mirUp then
    let e := (tget CEntry.init (s.sess i).cache k).finish s.frame s.pen.ord
    let p := ackedPush (match obj with
      | some x => .object x i k e
      | none => .cache i k e) s
    closeSpent i (p.2.modPen fun x => { x with ord := x.ord + 1, flight := x.flight ++ [⟨i, (s.sess i).sgen, k, p.1⟩] })
  else closeSpent i (finishEntry i k s)

/-- R308: the replies that the partner has acknowledged, by the CSEQ tested, go out; all of them when the link is down. -/
def releaseFlights (acked : Nat → Bool) (s : State) : State :=
  let go := s.pen.flight.filter fun f => acked f.cseq
  go.foldl (fun s f => finishEntry f.sidx f.ent s)
    (s.modPen fun p => { p with flight := p.flight.filter fun f => !acked f.cseq })

/-! ### Loading objects (R313 to R319) -/

/-- A staging handle of a session. -/
def Sess.stage (x : Sess) (h : Nat) : Option Stage := tget none x.stages h

/-- A staging handle set or emptied. -/
def setStage (i h : Nat) (v : Option Stage) (s : State) : State :=
  s.modSess i fun x => { x with stages := tset none x.stages h v }

/-- R314: what the load pool holds, by address. -/
def State.poolUse (s : State) : List (Nat × Nat) :=
  s.pen.sess.foldl (fun l e => e.2.stages.foldl (fun l x =>
    match x.2 with
    | some g => insAlloc (g.base, (g.total + 31) / 32 * 32) l
    | none => l) l) []

/-- R313: space in the load pool: the standard firmware keeps its first 16 KiB and takes the first fit (18). -/
def State.poolFit (s : State) (n : Nat) : Option Nat :=
  ((gapsFrom (s.pen.poolBase + s.pen.poolSize) ((s.pen.poolBase + 0x401F) / 32 * 32) s.poolUse).find? fun g =>
    decide ((n + 31) / 32 * 32 ≤ g.2)).map (·.1)

/-- R317: POS and BAND of an object type lie in their ranges. -/
def posOk (obj band pos : Nat) : Bool :=
  match obj with
  | 1 => decide (pos < 4096) && decide (band = 0)
  | 2 => decide (pos < 4096) && decide (band < 4)
  | 3 => decide (pos = 0) && decide (band = 0)
  | 4 => decide (pos = 0) && decide (band = 0)
  | 5 => decide (pos < 1536) && decide (band = 0)
  | _ => false

/-- R313: the distinct bytes received. -/
def Stage.received (g : Stage) : Nat := g.got.foldl (fun n b => n + Nat.min 32 (g.total - 32 * b)) 0

/-- R313: a chunk stored in a handle. -/
def storeChunk (i h off : Nat) (g : Stage) (data : List Byte) (s : State) : Ans × State :=
  let beats := (List.range ((data.length + 31) / 32)).map (off / 32 + ·)
  let g := { g with got := g.got.filter (fun b => decide (b ∉ beats)) ++ beats }
  (.ok (beBytes 4 g.received), setStage i h (some g) (s.memBeats (g.base + off) data))

/-- R313: a LOAD carried out. -/
def doLoad (i : Nat) (b : List Byte) (s : State) : Ans × State :=
  let obj := beAt b 0 1
  let h := beAt b 1 1
  let band := beAt b 3 1
  let pos := beAt b 4 2
  let total := beAt b 8 4
  let off := beAt b 12 4
  let data := b.drop 16
  let n := data.length
  if 8 ≤ h then (.mal 7, s)
  else if total < 32 ∨ 262144 < total then (.mal 8, s)
  else if n = 0 ∨ off % 32 ≠ 0 ∨ total < off + n ∨ (n % 32 ≠ 0 ∧ off + n ≠ total) then (.mal 7, s)
  else if (beAt b 2 1).testBit 0 then
    if obj = 0 ∨ 6 ≤ obj then (.mal 1, s)
    else if posOk obj band pos = false then (.mal 7, s)
    else
      let s := setStage i h none s
      match s.poolFit total with
      | none => (.st 10, s)
      | some a => storeChunk i h off ⟨obj, band, pos, total, a, []⟩ data s
  else
    match (s.sess i).stage h with
    | none => (.st 11, s)
    | some g =>
      if g.obj ≠ obj ∨ g.band ≠ band ∨ g.pos ≠ pos ∨ g.total ≠ total then (.st 9, s) else storeChunk i h off g data s

/-- R314: a DISCARD carried out. -/
def doDiscard (i : Nat) (b : List Byte) (s : State) : Ans × State :=
  if 8 ≤ beAt b 0 1 then (.mal 7, s) else (.ok [], setStage i (beAt b 0 1) none s)

/-- What the check of a COMMIT finds: an answer that ends it, or the object. -/
abbrev Checked : Type := Except Ans Obj

/-- R156, R97, R202, R318, R319: the object of a handle. A change of K is judged under R27 with the plan in force, and with one
whose apply is pending. -/
def checkObj (s : State) (g : Stage) (b : List Byte) : Checked :=
  let bad : Checked := .error (.mal 5)
  match g.obj with
  | 1 =>
    match manOf s g.pos b with
    | some m => if s.manBusy g.pos then .error (.st 9) else .ok (.manifest m)
    | none => bad
  | 2 =>
    match segOf g.pos g.band b with
    | some x => .ok (.segment (g.band * 4096 + g.pos) x)
    | none => bad
  | 3 =>
    match tideOf s b with
    | some t => if s.tide.pstart.isSome then .error (.st 9) else .ok (.tide s.tide.shadow t)
    | none => bad
  | 4 =>
    match pilOf b with
    | some p => if s.flag F.PIL_STAT_BUSY then .error (.st 2) else .ok (.pilot p)
    | none => bad
  | _ =>
    match coefOf s g.pos b with
    | some c =>
      let k (x : Nat) : Nat := if x = g.pos then c.2.k else s.kJudged x
      if c.1 = true ∧ ((s.planFails (fun n => (s.slot n).pil) k).isSome
          || s.flag F.PIL_STAT_BUSY && (s.planFails (fun n => (s.slot n).pilStg) k).isSome) = true then
        .error (.mal 6)
      else .ok (.coef g.pos c.1 c.2)
    | none => bad

/-- R318: the entries of a pilot plan in staging and the apply of R80; the answer if it is refused. -/
def pilotCommit (p : List (Nat × Pilot)) (s : State) : Except Ans Nat × State :=
  let t := pilApply 0 (p.foldl (fun s e => s.modSlot e.1 fun x => { x with pilStg := e.2 }) s)
  if t.flag F.PIL_STAT_BUSY then (.ok (t.fg F.PIL_APPLYF_FRAME), t)
  else (.error (if t.fg F.PIL_STAT_REASON = 1 then .mal 6 else .st 9), pilToStaging t)

/-- Two objects of one type for one position. -/
def Obj.same (a b : Obj) : Bool :=
  match a, b with
  | .manifest m, .manifest n => decide (m.number = n.number)
  | .segment k _, .segment l _ => decide (k = l)
  | .tide _ _, .tide _ _ => true
  | .pilot _, .pilot _ => true
  | .coef b _ _, .coef c _ _ => decide (b = c)
  | _, _ => false

/-- R372: an object committed is among those committed since the image was loaded, in place of the one before it. -/
def noteLoaded (o : Obj) (bytes : List Byte) (s : State) : State :=
  s.modPen fun p => { p with loaded := p.loaded.filter (fun x => !x.obj.same o) ++ [⟨s.frame, o, bytes⟩] }

/-- An object in force; none where the object area cannot hold it (R315). -/
def placeObj (o : Obj) (bytes : List Byte) (s : State) : Option State :=
  match o with
  | .manifest m => (placeManifest m bytes s).map (noteLoaded o bytes)
  | .segment key g => (placeSegment key g bytes s).map (noteLoaded o bytes)
  | .tide k t => some (noteLoaded o bytes (placeTide k t s))
  | .pilot _ => some s
  | .coef b _ c => some (noteLoaded o bytes (placeCoef b c s))

/-- R361, R362: the ACKED cells that a frame carries besides what waits for it now: at most the window of 64. -/
def State.ackedRoom (s : State) : Nat :=
  let room := (s.mir.lanes.countP fun l => decide (l.st = 2)) * (46 - Nat.min 32 s.mir.streamQ.length) - 3
  Nat.min 64 (Nat.max 1 (room - Nat.min s.epMin s.mir.epochOut.cells.length))

/-- R316: the frames that the cells of an object take to reach the partner, the cells that wait before them among them; two at
the least, as the worked example of chapter 12 shows (log 22). -/
def State.objFrames (s : State) (x : Install) : Nat :=
  let n := s.mir.ackedOut.cells.length + (MMsg.object x 0 0 CEntry.init).cells
  Nat.max 2 ((n + s.ackedRoom - 1) / s.ackedRoom)

/-- R315, R316: a checked object: the answer, the object to be sent to the partner with its frame, and the state. In a pair
with the mirror link up, an object takes effect on both devices at the first tick by which its cells have reached the
partner (log 22). -/
def commitObj (o : Obj) (bytes : List Byte) (s : State) : Ans × Option Install × State :=
  match o with
  | .pilot p =>
    let r := pilotCommit p s
    match r.1 with
    | .ok f => (.ok (beBytes 4 f), some ⟨f, o, bytes⟩, r.2)
    | .error a => (a, none, r.2)
  | _ =>
    let at' := if s.mirUp then add32 s.frame (s.objFrames ⟨0, o, bytes⟩) else s.frame
    let force := match o with
      | .coef b _ _ => nextUpdate at' b (s.coef b).k
      | _ => at'
    match placeObj o bytes s with
    | none => (.st 10, none, s)
    | some t =>
      if s.mirUp then
        (.ok (beBytes 4 force), some ⟨at', o, bytes⟩, s.modPen fun p => { p with install := some ⟨at', o, bytes⟩ })
      else (.ok (beBytes 4 force), none, t)

/-- R315: a COMMIT of session `i`, entry `k`. -/
def runCommit (c : Commit) (s : State) : State :=
  let i := c.sidx
  let s := s.modPen fun p => { p with settle := none }
  let done (o : Option Install) (a : Ans) (s : State) : State := complete i c.ent 0x11 c.reqid c.rgen o a s
  if 8 ≤ c.stage then done none (.mal 7) s
  else
    match (s.sess i).stage c.stage with
    | none => done none (.st 11) s
    | some g =>
      if g.received ≠ g.total then done none (.mal 4) (setStage i c.stage none s)
      else
        let bytes := s.memBytes g.base g.total
        match checkObj s g bytes with
        | .error a => done none a (if a.status = 5 then setStage i c.stage none s else s)
        | .ok o =>
          let r := commitObj o bytes s
          let t := if r.1.status = 0 then r.2.2.modPen fun p => { p with settle := some (beAt r.1.body 0 4) } else r.2.2
          done r.2.1 r.1 (if r.1.status = 0 ∨ r.1.status = 5 then setStage i c.stage none t else t)

/-- R315: the object of the last COMMIT is not in force yet. -/
def State.commitWaits (s : State) : Bool :=
  s.pen.install.isSome ||
    (match s.pen.settle with
    | some f => later f s.frame
    | none => false)

/-- R315: COMMITs wait while one takes effect. -/
def doCommit (c : Commit) (s : State) : State :=
  if s.commitWaits = true ∨ s.pen.commits ≠ [] then s.modPen fun p => { p with commits := p.commits ++ [c] }
  else runCommit c s

/-- R315: the COMMITs that wait are carried out, until one is to take effect at a later tick. -/
def runCommits : Nat → State → State
  | 0, s => s
  | n + 1, s =>
    match s.pen.commits with
    | [] => s
    | c :: rest =>
      if s.commitWaits then s else runCommits n (runCommit c (s.modPen fun p => { p with commits := rest }))

/-- R315, R316: at the tick of its frame a committed object takes effect, and COMMITs that waited for it are carried out. -/
def installTick (f : Nat) (s : State) : State :=
  let s := match s.pen.install with
    | some x =>
      if x.frame = f then
        let s := s.modPen fun p => { p with install := none }
        (placeObj x.obj x.bytes s).getD s
      else s
    | none => s
  runCommits 64 s

/-! ### Work requests (R320 to R322) -/

/-- The status of an answer of the scheduler (R326). -/
def ApplyRes.status : ApplyRes → Nat
  | .ok _ => 0 | .denied => 4 | .gated => 8 | .busy => 2 | .policed => 7 | .unknown => 11 | .noroute => 3 | .nospace => 10

/-- R320: an APPLY carried out. -/
def doApply (i : Nat) (b : List Byte) (s : State) : Ans × State :=
  let no := beAt b 0 2 % 4096
  let f := if (beAt b 2 1).testBit 0 then add32 s.frame 3 else beAt b 4 4
  if inArmWindow s f = false then (.mal 3, s)
  else
    let r := applyRequest i no f s
    match r.1 with
    | .ok k => (.ok (beBytes 4 ((r.2.xrec k).execId k) ++ beBytes 4 f), r.2)
    | x => (.st x.status, r.2)

/-- The queue of a session (R178); 64 where it has none. -/
def State.queueOf (s : State) (i : Nat) : Nat := if s.flagi F.SCH_SMAPs_VALID i then s.fgi F.SCH_SMAPs_QUEUE i else 64

/-- R321, R324: the check of an EXEC_ID: the record, or UNKNOWN or STALE. -/
def State.execRec (s : State) (id : Nat) : Except Ans Nat :=
  let r := id % 1024
  if s.recCnt ≤ r ∨ (s.xrec r).st = .free then .error (.st 11)
  else if (s.xrec r).execId r ≠ id then .error (.st 1)
  else .ok r

/-- R321: a WITHDRAW carried out. -/
def doWithdraw (i : Nat) (b : List Byte) (s : State) : Ans × State :=
  match s.execRec (beAt b 0 4) with
  | .error a => (a, s)
  | .ok r =>
    let x := s.xrec r
    if x.source ≠ s.queueOf i ∨ 64 ≤ x.source then (.st 4, s)
    else if x.admitted = true ∨ x.isOpen = false then (.st 9, s)
    else (.ok [], withdrawRec r s)

/-- R322: a TIDECTL carried out. -/
def doTidectl (b : List Byte) (s : State) : Ans × State :=
  let body (z : Bool) (s : State) : List Byte :=
    if z then List.replicate 8 0 else beBytes 4 (s.fg F.TID_PSTART_FRAME) ++ beBytes 4 (s.fg F.TID_LATEN_N)
  let refusal (n : Nat) : Ans := if n = 8 then .st 9 else if n = 7 then .mal 3 else .mal 5
  match beAt b 0 1 with
  | 1 =>
    let t := tideArm s
    (if t.tide.pstart.isSome ∧ s.tide.pstart.isNone then .ok (body false t) else refusal (t.fg F.TID_STAT_REASON), t)
  | 2 =>
    let t := tideCancel s
    (if t.tide.pstart.isSome then .st 9 else .ok (body true t), t)
  | 3 =>
    let t := tideStop s
    (if s.tide.pstart.isSome then .st 9 else .ok (body true t), t)
  | _ => (.mal 7, s)

/-! ### Reading state (R323, R324) -/

/-- R323, R332: TB3 as 64-bit nanoseconds, the WRAP view extended by the firmware. -/
def State.time64 (s : State) : Nat := s.pen.wraps * 4294967296000 + s.tb 3 / 2 ^ 32

/-- R323, R470: `n` register words from an address, most significant byte first; a word in a block that does not exist reads
as zero, with the error recorded. -/
def regWords (noBlock : Nat → State → State) : Nat → Nat → State → List Byte × State
  | 0, _, s => ([], s)
  | n + 1, a, s =>
    let x := a / 0x10000 % 0x40
    let r := if 25 ≤ x ∧ x < 32 then (0, noBlock a s) else regRead a 0 s
    let t := regWords noBlock n (a + 4) r.2
    (beBytes 4 r.1 ++ t.1, t.2)

/-- R468: the address of the beat that an access belongs to: its word at the register blocks, its 32 bytes elsewhere. -/
def beatAddr (a : Nat) : Nat := if 0x40000000 ≤ a ∧ a < 0x40400000 then a else a / 32 * 32

/-- R468: an access that ends with an error response, recorded for its master. -/
def matrixError (master cause : Nat) (write : Bool) (a : Nat) (s : State) : State :=
  let s := s.bump F.MTX_ERRCNT
  let s := if s.flag F.MTX_ERRSTAT_VALID then s.fs F.MTX_ERRSTAT_OVR 1 else s
  (((((s.fs F.MTX_ERRSTAT_VALID 1).fb F.MTX_ERRSTAT_WRITE write).fs F.MTX_ERRSTAT_MASTER master).fs F.MTX_ERRSTAT_CAUSE
    cause).fs F.MTX_ERRADDR_ADDR (beatAddr a)).raise 132

/-- R323: QUERY SLOT. -/
def slotBody (s : State) (n : Nat) : List Byte :=
  let x := s.slot n
  let sp := x.setAt s.frame
  beBytes 1 x.owner
    ++ beBytes 1 (b2n x.failed + b2n x.resv.isSome * 2 + b2n (s.inService n) * 4 + b2n x.lp.settled * 8)
    ++ beBytes 2 (x.resv.getD 0) ++ beBytes 2 sp.1 ++ beBytes 2 (unsgn 16 sp.2) ++ beBytes 1 (s.bun (bundleOf n)).st.code
    ++ [0, 0, 0]

/-- R323: a QUERY carried out. -/
def doQuery (b : List Byte) (s : State) : Ans × State :=
  let arg := beAt b 2 2
  let arg2 := beAt b 4 4
  match beAt b 0 1 with
  | 1 =>
    (.ok (beBytes 1 s.dev.code ++ beBytes 1 (b2n (!s.fab.small)) ++ beBytes 1 (s.fg F.SYS_ID_STEP)
      ++ beBytes 1 (s.fg F.SYS_BOOTSTAT_SLOT) ++ beBytes 1 (s.fg F.SEG_STAT_BAND) ++ [0, 0, 0] ++ beBytes 4 s.frame), s)
  | 2 => (.ok (beBytes 4 s.frame ++ beBytes 8 s.time64), s)
  | 3 =>
    if 1 ≤ arg ∧ arg ≤ 64 ∧ arg2 % 4 = 0 ∧ 0x40000000 ≤ arg2 ∧ arg2 + 4 * (arg - 1) ≤ 0x403FFFFC then
      let r := regWords (matrixError 6 1 false) arg arg2 s
      (.ok r.1, r.2)
    else (.mal 7, s)
  | 4 => (if arg < 12288 then .ok (slotBody s arg) else .mal 7, s)
  | 5 =>
    (if arg < 4096 then
      .ok (beBytes 1 (s.circuit arg).st ++ [0] ++ beBytes 2 (if (s.circuit arg).st = 1 then (s.circuit arg).manifest else 0))
    else .mal 7, s)
  | 6 =>
    (if arg < 64 then
      .ok (beBytes 2 (s.que arg).recs.length ++ beBytes 1 (s.que arg).wait ++ [0] ++ beBytes 8 (unsgn 64 (s.que arg).bal))
    else .mal 7, s)
  | 7 => (.ok s.port.health.report, s)
  | _ => (.mal 7, s)

/-- Fields of a stored record, each most significant byte first. -/
def beFields : List Nat → List Byte → List Byte
  | [], _ => []
  | n :: t, l => (l.take n).reverse ++ beFields t (l.drop n)

/-- R324: a MANIFEST_STATUS carried out. -/
def doManStatus (b : List Byte) (s : State) : Ans :=
  let first := beAt b 4 2
  let n := beAt b 6 2
  if 256 < n then .mal 7
  else
    match s.execRec (beAt b 0 4) with
    | .error a => a
    | .ok r =>
      let words := ((s.xrec r).entries.length + 15) / 16
      let k := Nat.min n (words - first)
      .ok (beFields [4, 2, 1, 1, 4, 4, 4, 4, 2, 2, 2, 2] (recBytes s r) ++ beBytes 2 first ++ beBytes 2 k
        ++ (List.range k).flatMap fun j => (List.range 4).map fun t => bmpAt s r (4 * (first + j) + (3 - t)))

/-! ### Slots, circuits and events (R325) -/

/-- R325: a SLOT_CONTROL carried out; its changes wait for the coming tick. -/
def doSlotControl (i : Nat) (b : List Byte) (s : State) : Ans × State :=
  let op := beAt b 0 1
  let v := beAt b 1 1
  let n := beAt b 2 2
  let nums := (List.range n).map fun k => beAt b (8 + 2 * k) 2
  let q := s.queueOf i
  let mine (o : Nat) : Bool := decide (o = q ∧ q < 64) || decide (o = 255)
  if n = 0 ∨ 64 < n ∨ op = 0 ∨ 5 ≤ op ∨ nums.all (fun k => decide (k < if op = 4 then 4096 else 12288)) = false then
    (.mal 7, s)
  else if op = 1 ∧ ownerLegal v = false then (.mal 7, s)
  else if op = 1 ∧ mine v = false then (.st 4, s)
  else if op ≤ 3 ∧ nums.all (fun k => mine (s.slot k).owner) = false then (.st 4, s)
  else (.ok [], s.modPen fun p => { p with slotCtl := p.slotCtl ++ [⟨op, v, nums⟩] })

/-- R325: the changes of a request at a tick. -/
def slotCtlApply (x : SlotCtl) (s : State) : State :=
  x.nums.foldl (fun s n =>
    match x.op with
    | 1 => s.modSlot n fun y => { y with owner := x.val, ownerNext := none }
    | 2 => setFailed n true s
    | 3 => setFailed n false s
    | _ => clrDown n s) s

/-- R325: the changes that waited for the tick. -/
def slotCtlTick (s : State) : State :=
  s.pen.slotCtl.foldl (fun s x => slotCtlApply x s) (s.modPen fun p => { p with slotCtl := [] })

/-- SUBSCRIBE (12, Events): bits 0, 1 and 3 of the mask select events, the others are reserved. -/
def doSubscribe (i : Nat) (b : List Byte) (s : State) : Ans × State :=
  let m := beAt b 0 4 &&& 11
  (.ok (beBytes 4 m), touchSess i (fun x => { x with mask := m }) s)

/-- R312: an EVENT sent on session `i`. -/
def sendEvent (i code : Nat) (body : List Byte) (s : State) : State :=
  let r := formMsg i 0x41 1 0 (beBytes 2 code ++ [0, 0] ++ body) 0 0 s
  closeSpent i (sendMsg i r.1 r.2)

/-- The OPEN sessions that have a bit of the event mask. -/
def State.subscribers (s : State) (bit : Nat) : List Nat :=
  (s.pen.sess.filter fun e => decide (e.2.st = 2) && e.2.mask.testBit bit).map (·.1)

/-- CIRCUIT events (12): at DOWN and at RESTORED. -/
def circuitEvents (s : State) : State :=
  let l := s.exec.circuits.filter fun e =>
    decide (e.2.st ≠ 0) && decide (e.2 ≠ tget ⟨0, 0⟩ s.pen.seen.circuits e.1)
  l.foldl (fun s e => (s.subscribers 0).foldl (fun s i =>
    sendEvent i 1 (beBytes 2 e.1 ++ beBytes 1 e.2.st ++ [0] ++ beBytes 2 (if e.2.st = 1 then e.2.manifest else 0)) s) s) s

/-- The final records with their use counts. -/
def State.finals (s : State) : List (Nat × Nat) :=
  (s.exec.recs.filter fun e => !e.2.isOpen && decide (e.2.st ≠ .free)).map fun e => (e.1, e.2.useCnt)

/-- MANIFEST_FINAL events (12). -/
def finalEvents (s : State) : State :=
  (s.finals.filter fun x => decide (x ∉ s.pen.seen.finals)).foldl (fun s x =>
    let r := s.xrec x.1
    ((s.subscribers 1).filter fun i => decide (s.queueOf i = r.source)).foldl (fun s i =>
      sendEvent i 2 (beBytes 4 (r.execId x.1) ++ beBytes 1 r.st.code ++ beBytes 1 r.cause ++ [0, 0]) s) s) s

/-- FAULT events (12): the entries written into the log. -/
def faultEvents (s : State) : State :=
  ((s.log.entries.take (s.log.total - s.pen.seen.faults)).reverse).foldl (fun s e =>
    (s.subscribers 3).foldl (fun s i => sendEvent i 4 (beBytes 2 e.code ++ [0, 0]) s) s) s

/-- The standard firmware's events at a tick. -/
def eventTick (s : State) : State :=
  let t := if s.decides s.frame then faultEvents (finalEvents (circuitEvents s)) else s
  t.modPen fun p => { p with seen := ⟨t.exec.circuits, t.finals, t.log.total⟩ }

/-- R309, R314: at a takeover H and the outbound SEQ of every session rise by 2^16, its map and its staging handles are
cleared, and a TAKEOVER event is sent. A number that would pass 0xFFFF_FFFF reaches it, and its session closes (R297;
log 66). -/
def takeoverSessions (s : State) : State :=
  (s.pen.sess.filter fun e => decide (e.2.st ≠ 0)).foldl (fun s e =>
    let up (v : Nat) : Nat := Nat.min (v + 65536) 0xFFFFFFFF
    let s := closeSpent e.1 (touchSess e.1 (fun x =>
      { x with h := up x.h, tx := up x.tx, map := 0, floor := up x.h, stages := [] }) s)
    if (s.sess e.1).st = 0 then s else sendEvent e.1 3 (beBytes 4 (up e.2.h)) s) s

/-! ### Receiving a message (R285 to R287, R298 to R306, R312) -/

/-- The types of R312 that have CACHED treatment. -/
def cachedType (t : Nat) : Bool := decide (t ∈ [0x10, 0x11, 0x12, 0x20, 0x21, 0x22, 0x32, 0x40])

/-- R312: the types offered to a host under a version; OPEN is handled before. -/
def typeOk (t : Nat) (v2 : Bool) : Bool :=
  if v2 then cachedType t || decide (t ∈ [0x02, 0x03, 0x30, 0x31]) else decide (t ∈ [0x02, 0x03, 0x20, 0x21, 0x30, 0x31])

/-- R312, R313, R325: the size of a request's body. -/
def sizeOk (v6 : Bool) (t : Nat) (b : List Byte) : Bool :=
  let n := b.length
  match t with
  | 0x02 => decide (n = 0)
  | 0x03 => decide (n ≤ 64)
  | 0x10 => decide (16 ≤ n ∧ n ≤ 16 + (if v6 then 1376 else 1408))
  | 0x20 => decide (n = 8)
  | 0x30 => decide (n = 8)
  | 0x31 => decide (n = 8)
  | 0x32 => decide (8 ≤ n) && decide (n = 8 + 2 * beAt b 2 2)
  | _ => decide (n = 4)

/-- R312: the requests that the firmware carries out. -/
def firmwareType (t : Nat) (b : List Byte) : Bool :=
  decide (t ∈ [0x10, 0x11, 0x12, 0x22, 0x32, 0x40]) || (decide (t = 0x30) && decide (beAt b 0 1 ∈ [2, 7]))

/-- R312: the standard firmware grants the requests that change the configuration only to requesters with bit 7 of QPOL. -/
def granted (s : State) (i t : Nat) : Bool :=
  decide (t ∉ [0x10, 0x11, 0x12, 0x22, 0x32]) || s.bit F.PVE_RCFG_QPOL (s.sess i).rq 7

/-- A CACHED request carried out, its entry taken. -/
def runCached (m : PMsg) (k : Nat) (s : State) : State :=
  let i := m.sidx
  if granted s i m.typ = false then complete i k m.typ m.reqid m.rgen none (.st 4) s
  else if m.typ = 0x11 then doCommit ⟨i, m.sgen, k, m.reqid, m.rgen, beAt m.body 0 1⟩ s
  else
    let r :=
      match m.typ with
      | 0x10 => doLoad i m.body s
      | 0x12 => doDiscard i m.body s
      | 0x20 => doApply i m.body s
      | 0x21 => doWithdraw i m.body s
      | 0x22 => doTidectl m.body s
      | 0x32 => doSlotControl i m.body s
      | _ => doSubscribe i m.body s
    complete i k m.typ m.reqid m.rgen none r.1 r.2

/-- R305: the 64 places of accepted requests are full. -/
def State.placesFull (s : State) : Bool := decide (64 ≤ s.inFlight)

/-- R302 to R305: a CACHED request. -/
def cachedRequest (m : PMsg) (s : State) : State :=
  let i := m.sidx
  let crc := crc32c m.body
  match lookup s m crc with
  | .resend k =>
    let e := tget CEntry.init (s.sess i).cache k
    let b := e.reply.drop 16
    let s := s.bump F.PVE_RETRYHIT
    let r := formMsg i (beAt e.reply 1 1) 3 (beAt e.reply 15 1) b m.reqid m.rgen s
    sendMsg i r.1 r.2
  | .wait => s.bump F.PVE_RETRYHIT
  | .conflict => answer m (.st 9) (s.bump F.PVE_CONFCNT)
  | .stale => answer m (.st 1) (s.bump F.PVE_STALECNT)
  | .busy => answer m (.st 2) s
  | .fresh k =>
    if s.placesFull then answer m (.st 2) s
    else
      let s := if firmwareType m.typ m.body then s.raise 15 else s
      runCached m k (s.modEnt i k fun _ =>
        { CEntry.init with reqid := m.reqid, rgen := m.rgen, st := .busy, v1 := !m.v2, crc := crc })

/-- An accepted message (R312). What the firmware carries out is passed to it once its reply is not in the cache. -/
def request (m : PMsg) (s : State) : State :=
  let i := m.sidx
  if typeOk m.typ m.v2 = false then answer m (.mal 1) s
  else if sizeOk (s.sess i).peer.v6 m.typ m.body = false then answer m (.mal 2) s
  else if cachedType m.typ then cachedRequest m s
  else if s.placesFull then answer m (.st 2) s
  else
    let s := if firmwareType m.typ m.body then s.raise 15 else s
    match m.typ with
    | 0x02 => closeSess i false (answer m (.ok []) s)
    | 0x03 => answer m (.ok m.body) s
    | 0x30 => let r := doQuery m.body s; answer m r.1 r.2
    | _ => answer m (doManStatus m.body s) s

/-- R299: the window with a SEQ accepted. -/
def acceptSeq (seq : Nat) (x : Sess) : Sess :=
  if x.h < seq then
    let d := seq - x.h
    { x with h := seq, map := if 64 ≤ d then 1 else (x.map * 2 ^ d + 1) % 2 ^ 64 }
  else { x with map := x.map ||| 2 ^ (x.h - seq) }

/-- R298, R299, R309: an authenticated message: its SEQ is checked, then it is accepted and handled. -/
def authenticated (d : Dgram) (m : PMsg) (s : State) : State :=
  let x := s.sess m.sidx
  if m.seq = 0 ∨ m.seq + 64 ≤ x.h ∨ m.seq ≤ x.floor then s.bump F.PVE_REPLAYCNT
  else if m.seq ≤ x.h ∧ x.map.testBit (x.h - m.seq) = true then s.bump F.PVE_DUPCNT
  else
    let s := touchSess m.sidx (fun x =>
      { acceptSeq m.seq x with st := 2, peer := d.peer, fails := 0, timer := s.frame }) s
    closeSpent m.sidx (request m s)

/-- R306: a tag failure of a session. -/
def tagFailure (i : Nat) (s : State) : State :=
  let s := (s.modSess i fun x => { x with fails := Nat.min 65535 (x.fails + 1) }).bump F.PVE_AUTHCNT
  if s.fg F.PVE_OPENLIM_AUTHLIM ≠ 0 ∧ (s.sess i).fails = s.fg F.PVE_OPENLIM_AUTHLIM then
    (s.fs F.PVE_STAT_AUTHALARM 1).raise 14
  else s

/-- R298: the checks of a message that is not an OPEN. The limit of R305 is judged over each millisecond (log 21). -/
def messageReceive (d : Dgram) (m : PMsg) (s : State) : State :=
  let x := s.sess m.sidx
  if 2000 ≤ s.pen.authMs then s.bump F.PVE_OVLCNT
  else if s.decides s.frame = false then s.bump F.PVE_SBYDROP
  else if x.st = 0 ∨ x.sgen ≠ m.sgen then s.bump F.PVE_STALEDROP
  else if x.v2 ≠ m.v2 then s.bump F.PVE_MALFCNT
  else
    let s := noteAuth s
    if tagOk x.khd d.payload then authenticated d m s else tagFailure m.sidx s

/-- R287, R310: the checks of a payload. -/
def payloadReceive (d : Dgram) (s : State) : State :=
  let p := d.payload
  let len := beAt p 2 2
  let v := beAt p 0 1
  if 4 ≤ p.length ∧ len = 0 then s.bump F.PVE_ZLENCNT
  else if len ≠ p.length ∨ p.length < 32 ∨ (if d.peer.v6 then 1452 else 1472) < p.length then s.bump F.PVE_MALFCNT
  else if (v ≠ 1 ∨ s.flag F.PVE_PORTCFG_PV1EN = false) ∧ (v ≠ 2 ∨ s.flag F.PVE_PORTCFG_PV2EN = false) then
    s.bump F.PVE_MALFCNT
  else if (beAt p 5 1).testBit 0 then s.bump F.PVE_MALFCNT
  else if beAt p 1 1 = 1 then openReceive d (msgOf p) s
  else messageReceive d (msgOf p) s

/-- R285, R486: an own address of a port is in use: entries 2 and 3 only with authority; 4 stands for the link-local address. -/
def State.ownInUse (s : State) (p k : Nat) : Bool :=
  if k = 4 then true else s.bit F.NET_ACFG_VALID p k && (decide (k < 2) || s.auth)

/-- R285, R491: a datagram is Penvar. -/
def isPenvar (s : State) (d : Dgram) : Bool :=
  decide (d.peer.dport = s.fg F.PVE_PORTCFG_UDPPORT)
    && (if d.peer.v6 then s.flag F.PVE_PORTCFG_V6EN else s.flag F.PVE_PORTCFG_V4EN) && s.ownInUse d.peer.net d.peer.own

/-- R285, R286, R491: a datagram handed over by NET. -/
def penReceive (d : Dgram) (s : State) : State :=
  if s.up = false then s
  else if isPenvar s d = false then s.bumpi F.NET_OTHDROP d.peer.net
  else if s.flag F.PVE_CTRL_EN = false then s
  else
    let s := s.bump F.PVE_RXCNT
    if d.badIp then s.bump F.PVE_IPDROP else payloadReceive d s

/-- A datagram of the message that a command names; another leaves the state as it is. -/
def penRow (p : List Byte → Bool) (d : Dgram) (s : State) : Out := .next (if p d.payload then penReceive d s else s)

/-- A payload of a TYPE. -/
def isType (t : Nat) (p : List Byte) : Bool := decide (beAt p 1 1 = t)

/-- A payload of a TYPE with a first body byte: an OP or an ITEM. -/
def isOp (t op : Nat) (p : List Byte) : Bool := isType t p && decide (beAt p 16 1 = op)

/-- The meaning of OPEN (R293). -/
def execOpenMsg (d : Dgram) (s : State) : Out := penRow (isType 0x01) d s
/-- The meaning of CLOSE (R297). -/
def execCloseMsg (d : Dgram) (s : State) : Out := penRow (isType 0x02) d s
/-- The meaning of PING (R312). -/
def execPing (d : Dgram) (s : State) : Out := penRow (isType 0x03) d s
/-- The meaning of LOAD (R313). -/
def execLoad (d : Dgram) (s : State) : Out := penRow (isType 0x10) d s
/-- The meaning of COMMIT (R315). -/
def execCommit (d : Dgram) (s : State) : Out := penRow (isType 0x11) d s
/-- The meaning of DISCARD (R314). -/
def execDiscard (d : Dgram) (s : State) : Out := penRow (isType 0x12) d s
/-- The meaning of APPLY (R320). -/
def execApply (d : Dgram) (s : State) : Out := penRow (isType 0x20) d s
/-- The meaning of WITHDRAW (R321). -/
def execWithdraw (d : Dgram) (s : State) : Out := penRow (isType 0x21) d s
/-- The meaning of TIDECTL_ARM (R322). -/
def execTidectlArm (d : Dgram) (s : State) : Out := penRow (isOp 0x22 1) d s
/-- The meaning of TIDECTL_CANCEL (R322). -/
def execTidectlCancel (d : Dgram) (s : State) : Out := penRow (isOp 0x22 2) d s
/-- The meaning of TIDECTL_STOP (R322). -/
def execTidectlStop (d : Dgram) (s : State) : Out := penRow (isOp 0x22 3) d s
/-- The meaning of QUERY_DEVICE (R323). -/
def execQueryDevice (d : Dgram) (s : State) : Out := penRow (isOp 0x30 1) d s
/-- The meaning of QUERY_TIME (R323). -/
def execQueryTime (d : Dgram) (s : State) : Out := penRow (isOp 0x30 2) d s
/-- The meaning of QUERY_REG (R323). -/
def execQueryReg (d : Dgram) (s : State) : Out := penRow (isOp 0x30 3) d s
/-- The meaning of QUERY_SLOT (R323). -/
def execQuerySlot (d : Dgram) (s : State) : Out := penRow (isOp 0x30 4) d s
/-- The meaning of QUERY_CIRCUIT (R323). -/
def execQueryCircuit (d : Dgram) (s : State) : Out := penRow (isOp 0x30 5) d s
/-- The meaning of QUERY_QUEUE (R323). -/
def execQueryQueue (d : Dgram) (s : State) : Out := penRow (isOp 0x30 6) d s
/-- The meaning of QUERY_HEALTH (R323, R514). -/
def execQueryHealth (d : Dgram) (s : State) : Out := penRow (isOp 0x30 7) d s
/-- The meaning of MANIFEST_STATUS (R324). -/
def execManifestStatus (d : Dgram) (s : State) : Out := penRow (isType 0x31) d s
/-- The meaning of SLOT_CONTROL_OWNER (R325). -/
def execSlotControlOwner (d : Dgram) (s : State) : Out := penRow (isOp 0x32 1) d s
/-- The meaning of SLOT_CONTROL_FAILSET (R325). -/
def execSlotControlFailset (d : Dgram) (s : State) : Out := penRow (isOp 0x32 2) d s
/-- The meaning of SLOT_CONTROL_FAILCLR (R325). -/
def execSlotControlFailclr (d : Dgram) (s : State) : Out := penRow (isOp 0x32 3) d s
/-- The meaning of SLOT_CONTROL_CLRDOWN (R325). -/
def execSlotControlClrdown (d : Dgram) (s : State) : Out := penRow (isOp 0x32 4) d s
/-- The meaning of SUBSCRIBE (R312). -/
def execSubscribe (d : Dgram) (s : State) : Out := penRow (isType 0x40) d s

/-- A message whose TYPE its version does not offer to a host (R312). -/
def isUnknown (p : List Byte) : Bool :=
  decide (beAt p 1 1 ≠ 1) && !typeOk (beAt p 1 1) (decide (beAt p 0 1 = 2))

/-- The meaning of PENVAR_UNKNOWN_TYPE (R312). -/
def execPenvarUnknownType (d : Dgram) (s : State) : Out := penRow isUnknown d s

end Sys2Proof.Machine
end

