-- ==== Sys2Proof/Machine/Tally.lean ====
section
/-! DEFINITION. Tallies and the staged copies of an epoch (14, R366, R367, R370): what a bundle's tally covers, its value, and
the staged update beside the live one. -/
namespace Sys2Proof.Machine

/-! ### What a tally covers (R366) -/

/-- R366: the loop state of a slot that a tally covers. -/
def loopCopy (l : Loop) : LoopCopy := ⟨l.h, l.iM, l.lpM, l.base, l.hasBase, l.setrun, l.settled, l.setfail, l.dark⟩

/-- R366: the loop state of a bundle that a tally covers. -/
def State.bunCopy (s : State) (b : Nat) : BunCopy :=
  let x := s.bun b
  ⟨(List.range 8).map fun i => loopCopy (s.slot (8 * b + i)).lp, [x.e0, x.e1, x.e2, x.e3]⟩

/-- A loop with a copied state in place of its own; what a tally does not cover stays. -/
def LoopCopy.put (c : LoopCopy) (l : Loop) : Loop :=
  { l with
    h := c.h
    iM := c.iM
    lpM := c.lpM
    base := c.base
    hasBase := c.hasBase
    noBaseGap := !c.hasBase && l.noBaseGap
    setrun := c.setrun
    settled := c.settled
    setfail := c.setfail
    dark := c.dark
    uns := l.moved && !c.settled }

/-- A bundle with a copied state in place of its own. The running interval's accumulators and their exponent stay, as does
the last error, which both updates share (R370). -/
def putCopy (b : Nat) (c : BunCopy) (s : State) : State :=
  let s := (c.loops.zipIdx).foldl (fun s p => s.modLoop (8 * b + p.2) p.1.put) s
  s.modBun b fun x => { x with e2 := c.exps.getD 2 0, e3 := c.exps.getD 3 0 }

/-- R366: the bytes of a slot in a tally: whole bytes for each quantity, least significant first (log 42). -/
def LoopCopy.bytes (c : LoopCopy) : List Byte :=
  leBytes 4 (unsgn 32 c.h) ++ leBytes 4 (unsgn 32 c.iM) ++ leBytes 4 (unsgn 32 c.lpM) ++ leBytes 3 c.base
    ++ leBytes 1 c.setrun ++ leBytes 1 (b2n c.settled + b2n c.setfail * 2 + b2n c.dark * 4 + b2n (!c.hasBase) * 8)

/-- R366: the bytes of a bundle's state in a tally. -/
def BunCopy.bytes (c : BunCopy) : List Byte := c.loops.flatMap LoopCopy.bytes ++ c.exps.flatMap (leBytes 1)

/-- R366: the CRC-32C of further bytes after those of a CRC; no bytes have 0. -/
def crcOn (crc : Nat) (l : List Byte) : Nat := crcRun l (crc ^^^ 0xFFFFFFFF) ^^^ 0xFFFFFFFF

/-- R121, R366: the gap byte of a bundle for the sample of heater frame `m`; every slot has a gap when the bundle is late. -/
def State.gapByte (s : State) (b m : Nat) (late : Bool) : Byte :=
  BitVec.ofNat 8 ((s.monSlots b).foldl (fun v n => v + b2n (late || (s.sampleOf n m).isNone) * 2 ^ (n % 8)) 0)

/-! ### The tally of a frame (R366, R367) -/

/-- R366: the gap byte of engine frame `f` joins the interval's. -/
def tallyFrame (f : Nat) (s : State) : State :=
  s.workBundles.foldl (fun s b =>
    let v := s.gapByte b (sub32 f 1) false
    s.modBun b fun x => { x with tallyGap := crcOn x.tallyGap [v] }) s

/-- R370: the staged copies of the open epoch, changed by a function of the bundle. -/
def modStaged (f : Nat → Staged → Staged) (s : State) : State :=
  s.modMir fun x => { x with epoch := x.epoch.map fun e =>
    { e with staged := e.staged.map fun y => (y.1, y.2.map (f y.1)) } }

/-- R370: the staged copy of a bundle. -/
def State.staged (s : State) (b : Nat) : Option Staged :=
  match s.mir.epoch with
  | some e => tget none e.staged b
  | none => none

/-- What a frame's update leads to in a slot: it becomes dark (R135), settled (R145), or has been unsettled for too long
(R146). -/
def slotEnds (n : Nat) (s : State) : State := settleTimeout n (slotSettled n (slotDark n s))

/-- R370: what the update of engine frame `f` makes of a staged copy, under the same accumulators as the live update. -/
def stagedUpdate (b f : Nat) (c : BunCopy) (s : State) : BunCopy :=
  if s.stepSkips (s.coef b).k then { c with exps := setAt c.exps 0 0 }
  else
    let s := updateBundle b f (putCopy b c (demodBundle b (sub32 f 1) s))
    (s.eachSlot b slotEnds).bunCopy b

/-- R370: a staged update of a bundle is due in engine frame `f`. -/
def State.stagedDue (s : State) (f b : Nat) : Bool :=
  match s.staged b with
  | some g => isUpdate f b (s.coef b).k && later f g.f
  | none => false

/-- R370: the staged updates of engine frame `f`, before the live work of the frame. -/
def stagedFrame (f : Nat) (s : State) : State :=
  let due := s.workBundles.filter (s.stagedDue f)
  let new := due.filterMap fun b => (s.staged b).map fun g => (b, stagedUpdate b f g.x s)
  new.foldl (fun s v => modStaged (fun b g => if b = v.1 then { g with now := some v.2 } else g) s) s

/-- A STREAM message sent in the frames of the running frame (R361). -/
def streamPush (m : MMsg) (s : State) : State :=
  s.modMir fun x =>
    { x with streamOut := (x.streamOut + m.cells) % 65536, streamQ := x.streamQ ++ msgCells .stream x.streamOut m }

/-- The device sends the cells of the holder of authority to a partner (R360). STREAM cells are numbered whether or not a lane
is up, so that those that no frame carries are missed (R361). -/
def State.mirrors (s : State) : Bool := s.holds && s.flag F.ROL_CFG_PAIRED

/-- The bytes of a bundle record (R370). -/
def brecBytes (m : MMsg) : List Byte :=
  match m with
  | .brec b e f x => leBytes 2 b ++ leBytes 2 e ++ leBytes 4 f ++ x.bytes
  | _ => []

/-- R370: the record of a bundle of an open epoch, after its update of frame `f`. -/
def sendBrec (f b : Nat) (s : State) : State :=
  match s.mir.epOut with
  | some e =>
    if b ∈ e.todo ∧ s.mir.imgMis = false then
      let m := MMsg.brec b e.no f (s.bunCopy b)
      (epochPush m s).modMir fun x =>
        { x with epOut := some { e with todo := e.todo.filter (fun k => decide (k ≠ b)), recs := e.recs ++ [m] } }
    else s
  | none => s

/-- R371: the end cell, once every record has been sent. -/
def sendEpEnd (s : State) : State :=
  match s.mir.epOut with
  | some e =>
    if e.ended = false ∧ e.todo = [] ∧ s.mir.imgMis = false then
      (epochPush (.epEnd e.no e.recs.length (crc32c (e.recs.flatMap brecBytes))) s).modMir fun x =>
        { x with epOut := some { e with ended := true } }
    else s
  | none => s

/-- Up to four tallies in a message (R360). -/
def tallyMsgs : Nat → List (Nat × Nat × Nat) → List MMsg
  | 0, _ => []
  | n + 1, l => if l = [] then [] else .tally (l.take 4) :: tallyMsgs n (l.drop 4)

/-- R366: one bundle's tally at the deadline of engine frame `f`: `was` is its interval's CRC before the frame. At an update
frame the tally closes and the interval begins again. -/
def tallyBundle (f was b : Nat) (s : State) : State :=
  let late := decide ((s.bun b).lateRun ≠ 0)
  let s := if late then
      let v := s.gapByte b (sub32 f 1) true
      modStaged (fun k g => if k = b then { g with now := none } else g)
        (s.modBun b fun x => { x with tallyGap := crcOn was [v] })
    else modStaged (fun k g => if k = b then
        match g.now with
        | some c => { g with x := c, now := none, ran := true }
        | none => g else g) s
  if isUpdate f b (s.coef b).k then
    let gap := (s.bun b).tallyGap
    let v := crcOn gap (s.bunCopy b).bytes
    let sv := match s.staged b with
      | some g => if g.ran then some (crcOn gap g.x.bytes) else none
      | none => none
    (s.modBun b fun x => { x with tally := v, tallyGap := 0 }).modMir fun x => { x with own := x.own ++ [⟨b, f, v, sv⟩] }
  else s

/-- R366, R367, R370: the tallies of engine frame `f` at its deadline; `was` is the fabric before the frame. The holder of
authority sends its tallies, the late bundles and the records of the open epoch. -/
def tallyDeadline (f : Nat) (was : Tbl Bundle) (s : State) : State :=
  let s := s.modMir fun x => { x with own := if s.dev = .standby then x.own else [] }
  let s := s.workBundles.foldl (fun s b => tallyBundle f (tget Bundle.init was b).tallyGap b s) s
  if s.mirrors then
    let late := s.workBundles.filter fun b => decide ((s.bun b).lateRun ≠ 0)
    let s := s.when (decide (late ≠ [])) (streamPush (.late f late))
    let l := s.mir.own.map fun t => (t.b, t.f, t.v)
    let s := (tallyMsgs l.length l).foldl (fun s m => streamPush m s) s
    sendEpEnd ((s.mir.own.filter fun t => decide (t.b ∉ late)).foldl (fun s t => sendBrec f t.b s) s)
  else s

/-- R43, R370: the staged updates that the deadline of the running frame charges. -/
def State.stagedCharge (s : State) (b : Nat) : Bool :=
  match s.staged b with
  | some g => g.now.isSome
  | none => false

/-- The deadline of the running frame: the late bundles (R49, R50), what the updates have led to (R135, R145, R146), with it the
tallies (R366), and the escalation (R52). -/
def frameDeadline (s : State) : State :=
  match s.fab.snap with
  | none => s
  | some n =>
    logCycle (fun s =>
      let s := engineDeadline s.stagedCharge s
      let s := tallyDeadline n.frame n.bundles (s.popSlots.foldl (fun s n => slotEnds n s) s)
      s.popBundles.foldl (fun s b => lateEscalation b s) s) s

/-! ### Comparison (R367, R370) -/

/-- A bit of MIR.FLAGS sets (R450, source 23). -/
def mirFlag (f : Fld) (s : State) : State := s.sticky f 0 23

/-- R367, R368: a comparison fails for a bundle. -/
def tallyFail (b : Nat) (s : State) : State := unsync b (mirFlag F.MIR_FLAGS_TALLYMIS (s.bump F.MIR_TALLYMIS))

/-- R367, R370: a tally received is compared with this device's. -/
def tallyCompare (t : Tally) (v : Nat) (s : State) : State :=
  let s := s.bump F.MIR_TALLYCNT
  let s := if t.v = v then s else tallyFail t.b s
  match t.sv with
  | some x =>
    s.modMir fun m => { m with epoch := m.epoch.map fun e =>
      if x = v then { e with staged := e.staged.map fun y => if y.1 = t.b then (y.1, y.2.map fun g => { g with ok := true }) else y }
      else { e with bundles := e.bundles.filter (fun k => decide (k ≠ t.b)), staged := tdel e.staged t.b } }
  | none => s

/-- R367: the tallies of both sides for the same bundle and frame are compared. -/
def tallyMatch (s : State) : State :=
  let hit := s.mir.own.filterMap fun t => (s.mir.theirs.find? fun u => decide (u.b = t.b) && decide (u.f = t.f)).map fun u => (t, u.v)
  hit.foldl (fun s p => tallyCompare p.1 p.2 s) (s.modMir fun x =>
    { x with
      own := x.own.filter fun t => hit.all fun p => decide (p.1.b ≠ t.b) || decide (p.1.f ≠ t.f)
      theirs := x.theirs.filter fun t => hit.all fun p => decide (p.1.b ≠ t.b) || decide (p.1.f ≠ t.f) })

/-- R367: the tallies of update frames two frames before the coming tick that the partner has not sent. -/
def tallyTimeout (s : State) : State :=
  if s.dev = .standby then
    let old (t : Tally) : Bool := notBefore (sub32 s.coming 2) t.f
    let l := s.mir.own.filter old
    l.foldl (fun s t => tallyFail t.b (s.bump F.MIR_TALLYCNT)) (s.modMir fun x =>
      { x with own := x.own.filter (fun t => !old t), theirs := x.theirs.filter (fun t => !old t) })
  else s

/-- The meaning of TALLY_TIMEOUT (R367). -/
def execTallyTimeout (s : State) : Out := .next (tallyTimeout s)

end Sys2Proof.Machine
end

