-- ==== Sys2Proof/Machine/MirSend.lean ====
section
/-! DEFINITION. The sending side of the mirror link (14, R358 to R362, R367, R372): the cells that tell the partner what the
holder of authority has done, and the mirror frames of a frame. -/
namespace Sys2Proof.Machine

/-! ### What has changed in the running frame (R360) -/

/-- The fields of a bundle that CONFIG cells carry (R360). -/
def Bundle.shared (x : Bundle) : Bundle :=
  { Bundle.init with
    st := x.st
    ret := x.ret
    cause := x.cause
    cmd := x.cmd
    clearF := x.clearF
    initF := x.initF
    recloseF := x.recloseF
    takeF := x.takeF
    calHold := x.calHold }

/-- The register fields whose writes CONFIG cells carry: those of SCH and TID that firmware writes (R360), and the requester
table (R307). -/
def mirFields : List Nat :=
  (regDescs.filter fun d => decide (d.base / 0x10000 = 0x400D) || decide (d.base / 0x10000 = 0x400E)
      || decide (d.base = 0x400C0024) || decide (d.base = 0x400C0028)).flatMap fun d =>
    (d.flds.filter fun f => decide (f.acc = .rw) || decide (f.acc = .rwl)).map fun f => f.base * 32 + f.lo

/-- The part of the register store that CONFIG cells carry. -/
def State.mirRegs (s : State) : Tbl Nat := s.regs.filter fun e => decide (e.1 / 16384 ∈ mirFields)

/-- What the cells of the next frame are found by comparing with. -/
def State.mirSnap (s : State) : MSnap :=
  ⟨s.exec.recs, s.exec.circuits, s.fab.slots, s.fab.bundles, s.quays, s.fab.pilApply, s.fab.subst, s.tide, s.mirRegs⟩

/-- REQ, ADMIT and VOIDEV for a record (R360). -/
def recCells (s : State) (r : Nat) : List MMsg :=
  let was := tget ExecRec.init s.mir.snap.recs r
  let now := s.xrec r
  let new := decide (was.useCnt ≠ now.useCnt)
  (if new then [MMsg.req r now.useCnt now.head now.source now.reqFrame
      (decide (now.source < 64) && decide ((s.que now.source).mode = 1))] else [])
    ++ (if now.waitFrom.isSome && (new || decide (was.waitFrom ≠ now.waitFrom)) then [MMsg.defer r now.start] else [])
    ++ (if now.admitted && (new || !was.admitted) then [MMsg.admitted r now.altIdx now.manifest now.start now.band] else [])
    ++ (if decide (now.st = .void) && !now.admitted && (new || decide (was.st ≠ .void)) then
      [MMsg.voidev r now.cause now.fin] else [])

/-- CONFIG for a slot's owner and FAILED. -/
def slotCells (was now : Slot) (n : Nat) : List MConfig :=
  (if was.owner = now.owner ∧ was.ownerNext = now.ownerNext then [] else [.owner n now.owner now.ownerNext])
    ++ (if was.failed = now.failed then [] else [.failed n now.failed])

/-- CONFIG for a quay's range and timing-set requests. -/
def quayCells (s : State) (was now : Quay) (q : Nat) : List MConfig :=
  (if was.rng = now.rng then [] else [.range q now.rng])
    ++ (if was.ts = now.ts then [] else
      [.tset q now.ts (s.stageSets q) ((List.range 384).map fun i => s.stageSetOf (384 * q + i))])

/-- The keys of two tables. -/
def keysOf {α : Type} (a b : Tbl α) : List Nat := (tkeys a ++ tkeys b).dedup

/-- What of the tide tables CONFIG cells carry as it changes; where a running table stands follows from the ticks. -/
def TideSt.told (x : TideSt) : TideSt := { x with off := 0, cycles := 0, autoDone := false, autoDue := false }

/-- CONFIG for everything else that changes fabric state. -/
def configCells (s : State) : List MConfig :=
  let w := s.mir.snap
  (s.fab.slots.flatMap fun e => slotCells (tget Slot.init w.slots e.1) e.2 e.1)
    ++ ((keysOf w.circuits s.exec.circuits).filterMap fun c =>
      if tget ⟨0, 0⟩ w.circuits c = s.circuit c then none else some (.circuit c (s.circuit c)))
    ++ ((keysOf w.bundles s.fab.bundles).filterMap fun b =>
      if (tget Bundle.init w.bundles b).shared = (s.bun b).shared then none else some (.bundle b (s.bun b).shared))
    ++ ((List.range 32).flatMap fun q => quayCells s (w.quays.getD q Quay.init) (s.quay q) q)
    ++ (if s.fab.pilApply.isSome ∧ s.fab.pilApply ≠ w.pilApply then
      [.pilots s.fab.pilApply (s.fab.slots.filterMap fun e => if e.2.pil = e.2.pilStg then none else some (e.1, e.2.pilStg))]
      else [])
    ++ (match w.subst, s.fab.subst with
      | some u, none => [.loaded u.logical]
      | _, _ => [])
    ++ (if w.tide.told = s.tide.told then [] else [.tide s.tide])
    ++ ((keysOf w.regs s.mirRegs).filterMap fun k => if tget 0 w.regs k = tget 0 s.regs k then none else some (.reg k (tget 0 s.regs k)))

/-- Records in the order in which they were last allocated. -/
def State.recOrder (s : State) : List Nat :=
  let l := tkeys s.exec.recs
  l.filter (fun r => decide (s.exec.ptr ≤ r)) ++ l.filter (fun r => decide (r < s.exec.ptr))

/-- The held drive codes of a bundle (R367). -/
def State.holdCodes (s : State) (b : Nat) : List Int := (List.range 8).map fun i => (s.slot (8 * b + i)).del.v

/-- R367: the partner holds a bundle that this device drives, as far as its requests and its header tell (log 48). -/
def State.heldThere (s : State) (b : Nat) : Bool :=
  let hold := match s.mir.header with
    | some h => h.hold
    | none => false
  let opened := match s.mir.epOut with
    | some e => !e.ended
    | none => false
  decide (b ∈ s.mir.peerHeld) && (hold || opened)

/-- R367: the bundles whose held codes are sent in frame `f`: as they enter PARKED-HOLD, on this device or on the partner, and
at their update frames. -/
def State.holdDue (s : State) (f : Nat) : List Nat :=
  s.popBundles.filter fun b =>
    (decide ((s.bun b).st = .hold) && decide ((tget Bundle.init s.mir.snap.bundles b).st ≠ .hold))
    || decide (b ∈ s.mir.heldDue)
    || ((decide ((s.bun b).st = .hold) || s.heldThere b) && isUpdate f b (s.coef b).k)

/-- R307, R360, R367: the cells for what the frame that ends, `f`, has brought. -/
def frameCells (f : Nat) (s : State) : State :=
  let s := if s.mirrors then
      let ms := s.recOrder.flatMap (recCells s) ++ (configCells s).map (MMsg.config f)
      let s := ms.foldl (fun s m => streamPush m s) s
      if s.mirUp = false then s else
      let s := (s.holdDue f).foldl (fun s b => (ackedPush (.holdcode b (s.holdCodes b)) s).2) s
      s.pen.dirty.foldl (fun s i => (ackedPush (.session i { s.sess i with cache := [], stages := [] }) s).2) s
    else s
  (s.modPen fun p => { p with dirty := [] }).modMir fun x => { x with snap := s.mirSnap, heldDue := [] }

/-! ### Epochs as the active device (R369, R370, R372) -/

/-- R372: a slot in a state block. -/
def slotCopy (n : Nat) (x : Slot) : SlotCopy := 
  ⟨n, x.owner, x.ownerNext, x.failed, x.resv, x.phi, x.ref, x.trs, x.lp.uns, x.lp.moved⟩

/-- R372: the state blocks of a join epoch, with the frame of their snapshot. -/
def stateBlocks (s : State) : List SBlk :=
  [.recs { s.exec with dir := [] }, .sched s.sched,
    .slots (s.fab.slots.map fun e => slotCopy e.1 e.2) (s.fab.bundles.map fun e => (e.1, e.2.shared)),
    .tide s.tide, .pilots (s.fab.slots.map fun e => ⟨e.1, e.2.pil, e.2.lfsr, e.2.noiseOn⟩)]
    ++ ((List.range 32).map fun q => .quay q (s.fgi F.QY_RNGSTAT_CUR q) (s.quay q).tsets (s.quay q).tasg)
    ++ [.sess (s.pen.sess.map fun e => (e.1, { e.2 with stages := [] })), .objects s.pen.loaded, .regs s.mirRegs]

/-- R372: the state blocks sent in epoch `e`. -/
def sendBlocks (e : Nat) (s : State) : State :=
  (stateBlocks s).foldl (fun t b => epochPush (.sblk e s.frame b) t) s

/-- R369: the active device opens an epoch of these bundles; a join epoch is of every bundle in service. -/
def epOpen (bundles : List Nat) (join : Bool) (s : State) : State :=
  let e := (s.mir.epNo + 1) % 65536
  let l := if join then s.popBundles.filter fun b => decide (s.liveSlots b ≠ []) else bundles
  let s := epochPush (.epStart e l join) (s.modMir fun x => { x with epNo := e, epOut := some ⟨e, join, l, [], false⟩ })
  let s := (s.fs F.MIR_EPOCH_CUR e)
  if join then sendBlocks e s else s

/-- R369, R367: the partner asks for an epoch: other than for a join, it names the bundles that it cannot shadow. -/
def epRequest (bundles : List Nat) (join : Bool) (s : State) : State :=
  epOpen bundles join (s.modMir fun x => { x with peerHeld := if join then [] else bundles, heldDue := if join then [] else bundles })

/-- R370, R372: the record of bundle `k`, or the state block of key `k`, is sent again. -/
def epResend (e : Nat) (blk : Bool) (k : Nat) (s : State) : State :=
  match s.mir.epOut with
  | some o =>
    if o.no = e then
      let s := s.modMir fun x =>
        { x with epOut := some { o with todo := if blk then o.todo else o.todo ++ [k], ended := false } }
      if blk then ((stateBlocks s).filter fun b => decide (b.key = k)).foldl (fun t b => epochPush (.sblk e s.frame b) t) s else s
    else s
  | none => s

/-- The bundles of a device in STANDBY that are unsynced (R368). -/
def State.unsynced (s : State) : List Nat := s.popBundles.filter fun b => !(s.bun b).synced

/-- R369, R372: the standby asks for an epoch. -/
def epAsk (s : State) : State :=
  let x := s.mir
  if s.dev = .standby ∧ s.mirUp = true ∧ x.imgMis = false ∧ x.asked = false ∧ x.epoch = none then
    if x.joinWanted then
      (epochPush (.epReq s.popBundles true) s).modMir fun x => { x with joinWanted := false, wanted := false, asked := true }
    else if x.wanted ∨ (s.flag F.MIR_CFG_EPAUTO = true ∧ s.unsynced ≠ []) then
      (epochPush (.epReq s.unsynced false) s).modMir fun x => { x with wanted := false, asked := true }
    else s
  else s

/-! ### Sending and resending (R361, R362) -/

/-- R361: the cells of a class that may be sent now. -/
def MSend.ready (x : MSend) : List MCell := (x.cells.drop x.sent).take (64 - x.sent)

/-- `n` more cells of a class are sent. -/
def MSend.send (x : MSend) (n : Nat) : MSend := { x with sent := x.sent + n, ever := Nat.max x.ever (x.sent + n) }

/-- How many of the next `n` cells are resent. -/
def MSend.resent (x : MSend) (n : Nat) : Nat := Nat.min x.ever (x.sent + n) - x.sent

/-- R361: the timer of a class runs while cells wait for an acknowledgement. -/
def MSend.age (x : MSend) : MSend := { x with timer := if x.ever = 0 then 0 else x.timer + 1 }

/-- R361: an acknowledgement: every cell before `n` has been received. -/
def MSend.ack (n : Nat) (x : MSend) : MSend :=
  match x.cells with
  | [] => x
  | c :: _ =>
    let k := (n + 65536 - c.cseq) % 65536
    if k = 0 ∨ x.ever < k then x
    else { x with cells := x.cells.drop k, sent := x.sent - k, ever := x.ever - k, timer := 0 }

/-- R361: the cells of a class are resent from the first. -/
def MSend.again (x : MSend) : MSend := if 8 ≤ x.timer then { x with sent := 0, timer := 0 } else x

/-- R361: the RTO of 8 frames has passed without an acknowledgement. -/
def mirRetransmit (s : State) : State :=
  s.modMir fun x => { x with ackedOut := x.ackedOut.again, epochOut := x.epochOut.again }

/-- The meaning of MIRROR_CELL_RETRANSMIT (R361). -/
def execMirrorCellRetransmit (s : State) : Out := .next (mirRetransmit s)

/-- A lane of the mirror link. -/
def State.mlane (s : State) (k : Nat) : MLane := s.mir.lanes.getD k MLane.init

/-- A lane of the mirror link changed by a function. -/
def State.modMlane (s : State) (k : Nat) (f : MLane → MLane) : State :=
  s.modMir fun x => { x with lanes := setAt x.lanes k (f (s.mlane k)) }

/-- What the device has received of the acknowledged classes: an object counts once it is installed (R365). -/
def State.ackNos (s : State) : Nat × Nat :=
  (match s.mir.objs with
    | o :: _ => o.cseq
    | [] => s.mir.ackedIn, s.mir.epochIn)

/-- R350: a lane's frame of the running frame is a DATA frame, which carries cells. -/
def State.mirData (s : State) (k : Nat) : Bool :=
  match s.mir.frames.getD k none with
  | some m => decide (m.ftype = 2)
  | none => false

/-- R348, R361: the CONTROL messages of a lane: its HELLO, and the acknowledgements on the first lane that carries cells. -/
def controlMsgs (s : State) (k : Nat) : List MMsg :=
  if s.mirData k then
    (if (s.mlane k).helloDue then [.hello s.mir.digest (s.otpNum 0 8)] else [])
      ++ (if k = 0 ∨ s.mirData 0 = false then [.ack s.ackNos.1 s.ackNos.2] else [])
  else []

/-- R360: the CONTROL cells of lane `k`, numbered in one sequence over both lanes. -/
def controlCells (s : State) (k : Nat) : List MCell :=
  let all : List (Nat × MCell) := ([0, 1].flatMap fun l => (controlMsgs s l).flatMap fun m => (msgCells .control 0 m).map (l, ·))
  all.zipIdx.filterMap fun c =>
    if c.1.1 = k then some { c.1.2 with cseq := (s.mir.controlOut + c.2) % 65536 } else none

/-- The places for cells on a lane once STREAM and CONTROL cells have theirs (R359, R362). -/
def State.cellRoom (s : State) (k nS : Nat) : Nat := if s.mirData k then 46 - nS - (controlCells s k).length else 0

/-- R348, R359, R361, R362: the frames of the frame that ends leave with their cells. To or from a partner of another digest no
EPOCH cell goes. A HELLO goes until a frame in which the partner's header matches, since cells of unmatched frames are not
applied (log 45). -/
def sendFrames (s : State) : State :=
  let x := s.mir
  let str := x.streamQ.take 32
  let r0 := s.cellRoom 0 str.length
  let room := r0 + s.cellRoom 1 str.length
  let ep := if x.imgMis then [] else x.epochOut.ready
  let ac := x.ackedOut.ready
  let nE := Nat.min (Nat.min ep.length room) (Nat.max s.epMin (room - ac.length))
  let nA := Nat.min ac.length (room - nE)
  let rest := ep.take nE ++ ac.take nA
  let fill (k : Nat) (o : Option MFrame) : Option MFrame := o.map fun m =>
    if m.ftype = 2 then
      { m with cells := str ++ controlCells s k ++ (if k = 0 then rest.take r0 else rest.drop r0) }
    else m
  let s := s.add F.MIR_RETX (x.epochOut.resent nE + x.ackedOut.resent nA)
  s.modMir fun x =>
    { x with
      sent := [fill 0 (x.frames.getD 0 none), fill 1 (x.frames.getD 1 none)]
      streamQ := if s.mirData 0 || s.mirData 1 then x.streamQ.drop 32 else []
      controlOut := (x.controlOut + (controlCells s 0).length + (controlCells s 1).length) % 65536
      epochOut := (x.epochOut.send nE).age
      ackedOut := (x.ackedOut.send nA).age
      lanes := x.lanes.zipIdx.map fun p => { p.1 with helloDue := p.1.helloDue && !(s.mirData p.2 && x.mirSeen) } }

/-- R359: HOLD of the header: a bundle in PARKED-HOLD with cause ENGINE; in STANDBY, where an engine's fault changes no state,
a bundle whose engine has failed. -/
def State.mirHold (s : State) : Bool :=
  s.popBundles.any fun b => (decide ((s.bun b).st = .hold) && decide ((s.bun b).cause = .engine))
    || (decide (s.dev = .standby) && decide (s.engState (s.physOf (engineOf b)) = 2))

/-- R350, R359: the header of the mirror frame that lane `k` sends in the running frame. -/
def mirHeader (s : State) (k : Nat) : Option MFrame :=
  let t := match (s.mlane k).st with
    | 2 => if s.up then 2 else if s.dev = .boot then 1 else 0
    | 1 => if s.clocked then 3 else 0
    | _ => 0
  let l := s.mlane k
  if t = 0 then none
  else
    some ⟨t, k, s.dev.code, s.flag F.SYS_STRAP_SENIOR, s.holds, s.flag F.ROL_STAT_READY, s.mir.swap.isSome, s.mirHold,
      Nat.min 3 s.spares, s.frame % 2 ^ 24, s.otpNum 0 1, 50 * s.frameLen - 11968,
      if t = 3 then ⟨if s.flag F.MIR_CFG_TPAUTO && l.lock then some l.preset else none, l.eye, l.lock, l.bad⟩ else MTrain.none,
      true, true, true, []⟩

/-- R359: HDR of a mirror frame. -/
def MFrame.hdr (f : MFrame) : Nat :=
  f.ftype % 16 * 2 ^ 60 + f.lane % 2 * 2 ^ 59 + f.state % 8 * 2 ^ 56 + b2n f.senior * 2 ^ 55 + b2n f.auth * 2 ^ 54
    + b2n f.ready * 2 ^ 53 + b2n f.swpend * 2 ^ 52 + b2n f.hold * 2 ^ 51 + f.spares % 4 * 2 ^ 49 + f.fnum % 2 ^ 24 * 2 ^ 24
    + f.idlo % 256 * 2 ^ 16 + f.fill % 65536

/-- R230, R232, R233, R358, R359: a mirror frame on the line up to its HCRC: SYNC, then HDR and HCRC scrambled from the mirror
link's seed. -/
def MFrame.lineHead (f : MFrame) : List Bool :=
  let h := msbBits 64 f.hdr
  msbBits 64 0x6A4DB21CE5870F93 ++ scramble (f.fnum % 2 ^ 24 * 128 + 0b1101001) (h ++ msbBits 32 (linkCrc h))

/-- R359: the mirror frames of the frame that begins. What a frame says was bad is counted anew after it (R246). -/
def beginFrames (s : State) : State :=
  s.modMir fun x =>
    { x with frames := [mirHeader s 0, mirHeader s 1], lanes := x.lanes.map fun l => { l with bad := 0 } }

end Sys2Proof.Machine
end

