-- ==== Sys2Proof/Machine/MirRecv.lean ====
section
/-! DEFINITION. The receiving side of the mirror link (14, R348, R351, R358 to R365, R367, R369 to R372). A mirror frame
that arrives leaves its messages in an inbox; the rows of the cell types act on the message at its front, and what is left is
acted on at the tick. -/
namespace Sys2Proof.Machine

/-! ### Frames and lanes (R351, R358, R359, R361) -/

/-- R361: a STREAM cell on a device in STANDBY: the first good copy counts, and a number left out is a loss; one in sequence
shows that none was left out before it. -/
def hearStream (k : Nat) (c : MCell) (s : State) : State :=
  let behind := match s.mir.streamIn with
    | some e => decide (32768 ≤ (c.cseq + 65536 - e) % 65536)
    | none => false
  if behind then s
  else
    let gap := match s.mir.streamIn with
      | some e => decide (c.cseq ≠ e)
      | none => false
    s.modMir fun x =>
      { x with
        streamIn := some ((c.cseq + 1) % 65536)
        loss := x.loss || gap
        dark := false
        inbox := match c.msg with
          | some m => x.inbox ++ [(k, m)]
          | none => x.inbox }

/-- R361, R365: an ACKED cell, taken in CSEQ order. -/
def hearAcked (k : Nat) (c : MCell) (s : State) : State :=
  if c.cseq = s.mir.ackedIn then
    s.modMir fun x =>
      { x with
        ackedIn := (x.ackedIn + 1) % 65536
        objs := match c.msg with
          | some (.object o i e y) => x.objs ++ [⟨c.cseq, o, i, e, y⟩]
          | _ => x.objs
        inbox := match c.msg with
          | some m => x.inbox ++ [(k, m)]
          | none => x.inbox }
  else s

/-- R361: an EPOCH cell, taken in CSEQ order. -/
def hearEpoch (k : Nat) (c : MCell) (s : State) : State :=
  if c.cseq = s.mir.epochIn then
    s.modMir fun x =>
      { x with
        epochIn := (x.epochIn + 1) % 65536
        inbox := match c.msg with
          | some m => if x.imgMis then x.inbox else x.inbox ++ [(k, m)]
          | none => x.inbox }
  else s

/-- R352, R360: a cell of a good frame that can be matched. -/
def hearCellM (k : Nat) (s : State) (c : MCell) : State :=
  match c.cls with
  | .control => match c.msg with
    | some m => s.modMir fun x => { x with inbox := x.inbox ++ [(k, m)] }
    | none => s
  | .stream => if s.dev = .standby then hearStream k c s else s
  | .acked => if s.dev = .standby then hearAcked k c s else s
  | .epoch => hearEpoch k c s

/-- R351, R352: a header that passes HCRC. A header of another frame number gives no heartbeat. -/
def hearHeader (f : MFrame) (s : State) : State :=
  if f.hcrcOk && decide (f.ftype = 2) then
    let hit := decide (f.fnum = s.frame % 2 ^ 24)
    (s.modMir fun x =>
      { x with header := some f, mirSeen := x.mirSeen || hit, hdrOff := x.hdrOff || !hit }).fb F.ROL_STAT_SENERR
        (f.senior == s.flag F.SYS_STRAP_SENIOR)
  else s

/-- R352: the cells of a good DATA frame; those of a frame that cannot be matched are not applied (log 45). -/
def hearCells (k : Nat) (f : MFrame) (s : State) : State :=
  if f.ftype = 2 ∧ f.fnum = s.frame % 2 ^ 24 then f.cells.foldl (hearCellM k) (s.modMir fun x => { x with good := true }) else s

/-- R351, R358, R359: a frame on a lane that is up. The header is judged alone. -/
def upFrame (k : Nat) (f : MFrame) (s : State) : State :=
  let s := s.modMlane k fun l => { l with got := true, syncBad := if f.syncOk then 0 else l.syncBad + 1 }
  let s := hearHeader f s
  if f.crcOk then hearCells k f (s.modMlane k fun l => { l with crcBad := 0 })
  else (s.bump (if k = 0 then F.MIR_CRC0 else F.MIR_CRC1)).modMlane k fun l => { l with crcBad := l.crcBad + 1 }

/-- R246, R358: a frame is clean for the run that ends training: both margins are at least 64, the partner has lock and found
nothing bad, and the frame is good. -/
def MFrame.clean (f : MFrame) (eye : Nat) : Bool :=
  f.crcOk && decide (64 ≤ eye) && decide (64 ≤ f.train.eye) && f.train.locked && decide (f.train.bad = 0)

/-- R238, R246, R358: a frame on a lane in training, received with margin `eye`. Two SYNC words in a row make lock; from there
frames are received, and once the preset is chosen the clean ones count. -/
def MLane.hear (l : MLane) (auto : Bool) (f : MFrame) (eye : Nat) : MLane :=
  if l.lock then
    { l with
      got := true
      syncBad := if f.syncOk then 0 else l.syncBad + 1
      crcBad := if f.crcOk then 0 else l.crcBad + 1
      bad := if f.crcOk then l.bad else Nat.min 7 (l.bad + 1)
      eye := eye
      asked := if f.crcOk then f.train.preset else l.asked
      clean := if l.chosen && f.clean eye then l.clean + 1 else 0 }
  else
    let n := if f.syncOk then l.found + 1 else 0
    if n < 2 then { l with got := true, found := n }
    else { MLane.init with st := 1, loop := l.loop, lock := true, chosen := !auto, eye := eye, got := true }

/-- R351, R358, R359: a mirror frame received on lane `k` in the running frame, with the receiver's margin `eye`. -/
def mirrorFrame (k : Nat) (f : MFrame) (eye : Nat) (s : State) : State :=
  match (s.mlane k).st with
  | 2 => upFrame k f s
  | 1 => s.modMlane k fun l => l.hear (s.flag F.MIR_CFG_TPAUTO) f eye
  | _ => s

/-- The meaning of MIRROR_FRAME (R359). -/
def execMirrorFrame (lane : Fin 2) (f : MArrival) (s : State) : Out := .next (mirrorFrame lane.val f.frame f.eye.val s)

/-- R238, R358: a mirror lane has lost lock. -/
def MLane.lockLost (l : MLane) : Bool := decide (4 ≤ l.syncBad) || decide (16 ≤ l.crcBad)

/-- When the first lane of a link comes up, both sides number their ACKED and EPOCH cells from zero (log 43). STREAM cells keep
their numbers, so that those of the time without a link are missed (R361). -/
def linkBegin (s : State) : State :=
  let again (x : MSend) : MSend :=
    { next := x.cells.length % 65536
      cells := x.cells.zipIdx.map fun p => { p.1 with cseq := p.2 % 65536 }
      sent := 0
      ever := 0
      timer := 0 }
  if s.mir.lanes.any fun l => decide (l.st = 2) then s
  else
    s.modMir fun x =>
      { x with
        ackedOut := again x.ackedOut
        epochOut := again x.epochOut
        ackedIn := 0
        epochIn := 0 }

/-- R246, R348, R358: a lane comes up after a run of 256 clean frames, its one-way delay measured in 10 ps. -/
def mlaneUp (k oneway : Nat) (s : State) : State :=
  let l := s.mlane k
  if l.loop = true ∨ l.st ≠ 1 ∨ l.lock = false ∨ l.clean < 256 then s
  else
    let s := (linkBegin s).modMlane k fun l =>
      { MLane.init with st := 2, lock := true, got := true, helloDue := true, preset := l.preset, asked := l.asked, eye := l.eye }
    (s.fs F.MIR_DELAY_ONEWAY oneway).when (decide (30000 < oneway)) (mirFlag F.MIR_FLAGS_DELAYERR)

/-- R238, R358: a lane that has lost lock goes down and trains again. -/
def mlaneDown (k : Nat) (s : State) : State :=
  if (s.mlane k).st = 2 ∧ (s.mlane k).lockLost = true then
    s.modMlane k fun l => { MLane.init with st := 1, loop := l.loop }
  else s

/-- The meaning of MIRROR_LANE_TRAIN (R358): training of the lane completes, or its lock is judged. -/
def execMirrorLaneTrain (lane : Fin 2) (up : Bool) (oneway : BitVec 16) (s : State) : Out :=
  .next (if up then mlaneUp lane.val oneway.toNat s else mlaneDown lane.val s)

/-- R358, R389: both lanes begin to train. -/
def mirTrain (s : State) : State :=
  (trimEnter 33 (trimEnter 32 s)).modMir fun x => { x with lanes := x.lanes.map fun _ => { MLane.init with st := 1 } }

/-- The meaning of MIR_RETRAIN (R358). -/
def execMirRetrain (s : State) : Out := .next (mirTrain s)

/-- The statistic clear of MIR. -/
def mirStatclr (s : State) : State :=
  (s.fresetAll [F.MIR_TALLYCNT, F.MIR_TALLYMIS, F.MIR_EPCOMMIT, F.MIR_EPDISCARD, F.MIR_RECLATE, F.MIR_CRC0, F.MIR_CRC1,
    F.MIR_RETX]).noteCleared 7

/-- The meaning of MIR_STATCLR (R4). -/
def execMirStatclr (s : State) : Out := .next (mirStatclr s)

/-! ### STREAM messages on the standby (R363) -/

/-- A record leaves the queues. -/
def dequeue (r : Nat) (s : State) : State :=
  (tkeys s.sched.queues).foldl (fun s q => s.modQue q fun x => { x with recs := x.recs.filter fun k => decide (k ≠ r) }) s

/-- R363: the queue and bucket side of a REQ. -/
def reqSched (r source no : Nat) (police : Bool) (s : State) : State :=
  if source < 64 then
    let cost : Int := ((s.reqCost no * 1000 : Nat) : Int)
    joinQueue source r (s.when police fun s => s.modQue source fun x => { x with bal := x.bal - cost })
  else s

/-- R363: a request accepted by the partner. -/
def applyReq (r useCnt no source reqFrame : Nat) (police : Bool) (s : State) : State :=
  let s := s.modMir fun x => { x with fires := if 64 ≤ source then x.fires.filter (fun n => decide (n ≠ reqFrame)) else x.fires }
  match s.man no with
  | none => s
  | some m =>
    let s := s.modRec r fun x => { x with useCnt := (useCnt + 2 ^ 22 - 1) % 2 ^ 22 }
    reqSched r source no police (allocRec r source reqFrame m s)

/-- R363: the tags, bucket and ledger side of an ADMIT. -/
def admitSched (r source start : Nat) (m : Manifest) (s : State) : State :=
  let s := dequeue r s
  let s := if source < 64 then chargeTags source m.nent (shapeCharge source m.nent s) else s
  ledgerAdd (sub32 start 3) start m s

/-- R363: an admission by the partner, under the band that it latched. -/
def applyAdmit (r alt no start band : Nat) (s : State) : State :=
  match s.manFor (s.xrec r) no with
  | none => s
  | some m =>
    let own := s.fg F.SEG_STAT_BAND
    (admitRec r start alt m (admitSched r (s.xrec r).source start m (s.fs F.SEG_STAT_BAND band))).fs F.SEG_STAT_BAND own

/-- R192, R363: a deferral by the partner. -/
def applyDefer (r start : Nat) (s : State) : State :=
  s.modRec r fun x => { x with start := start, deferred := true, waitFrom := some (sub32 start 3) }

/-- R363: a record made VOID by the partner. -/
def applyVoid (r cause fin : Nat) (s : State) : State := finalRec r .void cause fin (dequeue r s)

/-- The fields of a bundle that the partner gives. -/
def Bundle.follow (x y : Bundle) : Bundle :=
  { x with
    st := y.st
    ret := y.ret
    cause := y.cause
    cmd := y.cmd
    clearF := y.clearF
    initF := y.initF
    recloseF := y.recloseF
    takeF := y.takeF
    calHold := y.calHold }

/-- R137, R363: a bundle's state follows the partner's. -/
def followBundle (b : Nat) (y : Bundle) (s : State) : State :=
  let was := (s.bun b).st
  let s := if y.st = was ∨ y.st = .hold ∨ was = .hold then s else setBundle b y.st s
  s.modBun b fun x => x.follow y

/-- R363: a change of the partner's pilots: its staged settings and the frame of their apply. -/
def followPilots (at' : Option Nat) (l : List (Nat × Pilot)) (s : State) : State :=
  let s := l.foldl (fun s p => s.modSlot p.1 fun x => { x with pilStg := p.2 }) s
  ((s.fs F.PIL_APPLYF_FRAME (at'.getD 0)).fs F.PIL_STAT_BUSY 1).modFab fun x => { x with pilApply := at' }

/-- R113, R363: a timing-set change of the partner, with what it stages. -/
def followTsets (q : Nat) (c : Option Change) (sets : List TSet) (asg : List Nat) (s : State) : State :=
  let s := (sets.zipIdx).foldl (fun s p =>
    ((s.fsi F.QY_TSETn_STROBE (q * 8 + p.2) p.1.strobe).fsi F.QY_TSETn_SAMP (q * 8 + p.2) p.1.samp).fsi F.QY_TSETn_PILOFF
      (q * 8 + p.2) p.1.piloff) s
  let s := (asg.zipIdx).foldl (fun s p => s.fsi (tsasgFlds.getD (p.2 % 8) F.QY_TSASGj_SET0) (q * 48 + p.2 / 8) p.1) s
  s.modQuay q fun x => { x with ts := c }

/-- R151, R363: an engine of the partner has been loaded: the loops of its bundles begin again here too. -/
def followLoaded (e : Nat) (s : State) : State :=
  (s.popBundles.filter fun b => decide (engineOf b = e) && decide ((s.bun b).st = .hold)).foldl (fun s b =>
    let s := s.eachSlot b fun n s => if (s.slot n).pop then loadSlot n s else s
    s.modBun b fun x => { x with e0 := 0, e2 := 0, e3 := 0 }) s

/-- R405: what the partner accepted is a user value here too, and makes this device's journal dirty. -/
def followCal (f : CalSt → CalSt) (s : State) : State :=
  { s.fs F.CAL_STAT_DIRTY 1 with cal := { f s.cal with since := true } }

/-- R390: the values of a quay candidate or record whose VALID bits are set, with their places. -/
def QuayCal.used (v : QuayCal) : List (Nat × Nat) := (v.vals.zipIdx).filterMap fun x => x.1.map fun y => (x.2, y)

/-- R404: quay values written into QY.RNGGAINr and QY.HALFLVL under R90. -/
def putQuayCal (q : Nat) (v : QuayCal) (s : State) : State :=
  v.used.foldl (fun s x =>
    let w := BitVec.ofNat 32 x.2
    if x.1 < 3 then rnggainWrite q (x.1 + 1) w s else halflvlWrite q w s) s

/-- R405: a quay candidate that the partner accepted. -/
def followQuayCal (q : Nat) (v : QuayCal) (s : State) : State :=
  followCal (fun c => { c with quayUser := tset none c.quayUser q (some v) }) (putQuayCal q v s)

/-- R205, R213, R363: the tide tables are the partner's; whether AUTOARM has acted is this device's own. -/
def followTide (t : TideSt) (s : State) : State :=
  let x := { t with autoDone := s.tide.autoDone, autoDue := s.tide.autoDue }
  let s := match t.pstart with
    | some p => s.fs F.TID_PSTART_FRAME p
    | none => s
  let s := if t.run then s.fs F.TID_ACYCLE_CYCLE ((t.tabs.getD (1 - t.shadow) TideTab.init).cycle) else s
  { s with tide := x }

/-- R363: a change of the partner's fabric state. -/
def applyConfig (c : MConfig) (s : State) : State :=
  match c with
  | .owner n o next => s.modSlot n fun x => { x with owner := o, ownerNext := next }
  | .failed n b => setFailed n b s
  | .circuit c v => s.setCircuit c v.st v.manifest
  | .bundle b x => followBundle b x s
  | .range q c => s.modQuay q fun x => { x with rng := c }
  | .tset q c sets asg => followTsets q c sets asg s
  | .pilots a l => followPilots a l s
  | .tide t => followTide t s
  | .reg k v => { s with regs := tset 0 s.regs k v }
  | .loaded e => followLoaded e s
  | .slotCal n v => followCal (fun c => { c with slotUser := tset none c.slotUser n (some v) }) s
  | .quayCal q v => followQuayCal q v s

/-- R367: codes received for a bundle. -/
def applyHold (b : Nat) (codes : List Int) (s : State) : State := s.modMir fun x => { x with held := tset [] x.held b codes }

/-- A drive code held in place of a slot's own. -/
def Drv.hold (d : Drv) (v : Int) : Drv := { d with v := v, armB := if v = 0 then d.armB else decide (v < 0) }

/-- R367: the codes of a bundle put into its slots. -/
def putHeld (b : Nat) (s : State) : State :=
  ((tget [] s.mir.held b).zipIdx).foldl (fun s p => s.modSlot (8 * b + p.2) fun x => { x with del := x.del.hold p.1 }) s

/-- R363, R367: in STANDBY a bundle in PARKED-HOLD, or one whose engine does not run here, holds the last codes received. -/
def heldTick (s : State) : State :=
  if s.dev = .standby then
    (s.popBundles.filter fun b => decide ((s.bun b).st = .hold) || !s.engineUp b).foldl (fun s b => putHeld b s) s
  else s

/-! ### Sessions, caches and objects (R307, R365) -/

/-- R309, R365: a session context of the partner; a session that is FREE or of another generation has no cache. One that this
device has raised for a planned swap is its own already. -/
def applySession (i : Nat) (x : Sess) (s : State) : State :=
  s.modSess i fun y =>
    if y.sgen = x.sgen ∧ x.st ≠ 0 ∧ x.floor < y.floor then y
    else { x with cache := if y.sgen = x.sgen ∧ x.st ≠ 0 then y.cache else [], stages := [] }

/-- R304: completions of this device come after those of the partner. -/
def ordPast (n : Nat) (s : State) : State := s.modPen fun p => { p with ord := Nat.max p.ord (n + 1) }

/-- R365: a reply-cache entry of the partner; 256 stands for none. -/
def applyCache (i k : Nat) (e : CEntry) (s : State) : State := if i < 256 then ordPast e.ord (s.modEnt i k fun _ => e) else s

/-- R316, R365: the objects that take effect by frame `f` are installed, each with the cache entry of its COMMIT; one that the
object area cannot hold waits, and with it its entry and the acknowledgement. -/
def objTick (f : Nat) : Nat → State → State
  | 0, s => s
  | n + 1, s =>
    match s.mir.objs with
    | o :: t =>
      if notBefore f o.x.frame then
        match placeObj o.x.obj o.x.bytes (s.modMir fun x => { x with objs := t }) with
        | some s => objTick f n (applyCache o.sidx o.ent o.e s)
        | none => s
      else s
    | [] => s

/-! ### Epochs on the standby (R369 to R372) -/

/-- R369: an epoch is open, and its number is the last. -/
def applyEpStart (e : Nat) (bundles : List Nat) (join : Bool) (s : State) : State :=
  (s.fs F.MIR_EPOCH_CUR e).modMir fun x =>
    { x with epNo := e, asked := false, epoch := some ⟨e, join, s.frame, bundles, [], [], [], [], none⟩ }

/-- The open epoch, if it bears a number. -/
def State.epochNo (s : State) (e : Nat) : Option Epoch :=
  match s.mir.epoch with
  | some x => if x.no = e then some x else none
  | none => none

/-- The open epoch replaced. -/
def setEpoch (e : Epoch) (s : State) : State := s.modMir fun x => { x with epoch := some e }

/-- R370: a bundle record: placed, or dropped when it is late. -/
def applyBrec (b e f : Nat) (c : BunCopy) (s : State) : State :=
  match s.epochNo e with
  | some x =>
    if b ∈ x.bundles then
      let x := { x with recs := x.recs ++ [MMsg.brec b e f c] }
      if later s.frame (sub32 (add32 f (2 ^ (s.coef b).k)) 2) then
        epochPush (.epAgain e false b) ((setEpoch { x with fin := none } s).bump F.MIR_RECLATE)
      else setEpoch { x with staged := tset none x.staged b (some ⟨f, c, none, false, false⟩) } s
    else setEpoch { x with recs := x.recs ++ [MMsg.brec b e f c] } s
  | none => s

/-- R372: a state block: staged, or dropped when it is older than 64 frames. -/
def applySblk (e snap : Nat) (b : SBlk) (s : State) : State :=
  match s.epochNo e with
  | some x =>
    if x.join then
      if 64 < sub32 s.frame snap then
        epochPush (.epAgain e true b.key) (setEpoch { x with again := x.again ++ [b.key], fin := none } s)
      else setEpoch { x with blocks := x.blocks ++ [(snap, b)], again := x.again.filter fun k => decide (k ≠ b.key) } s
    else s
  | none => s

/-- R371: the end cell. -/
def applyEpEnd (e count crc : Nat) (s : State) : State :=
  match s.epochNo e with
  | some x => setEpoch { x with fin := some (count, crc) } s
  | none => s

/-- R371: the open epoch is discarded. -/
def epDiscard (s : State) : State :=
  match s.mir.epoch with
  | some e =>
    mirFlag F.MIR_FLAGS_EPDISC ((s.bump F.MIR_EPDISCARD).modMir fun x =>
      { x with epoch := none, joinWanted := x.joinWanted || e.join })
  | none => s

/-! #### The state blocks of a join epoch (R372) -/

/-- An admission of a slot's transition after a frame is among the records. -/
def State.admittedAfter (s : State) (n snap : Nat) : Bool :=
  s.exec.recs.any fun e => e.2.admitted && later (s.startNow e.2) (add32 snap 3) && e.2.entries.any fun x => decide (x.slot = n)

/-- The device already has the record that a transition belongs to, admitted. -/
def hasRec (now : Tbl ExecRec) (blk : Tbl ExecRec) (r : Nat) : Bool :=
  let x := tget ExecRec.init now r
  x.admitted && decide (x.useCnt = (tget ExecRec.init blk r).useCnt)

/-- R372: the records: the newer use of each, and of two copies of one use that which has been admitted here. -/
def joinRecs (x : ExecSt) (s : State) : State :=
  let keep (r : Nat) (y : ExecRec) : Bool :=
    let o := s.xrec r
    let d := (o.useCnt + 2 ^ 22 - y.useCnt) % 2 ^ 22
    (decide (d = 0) && (o.admitted || !y.admitted)) || (decide (1 ≤ d) && decide (d < 2 ^ 21))
  let newer := s.exec.recs.any fun e => let d := (e.2.useCnt + 2 ^ 22 - (tget ExecRec.init x.recs e.1).useCnt) % 2 ^ 22
    decide (1 ≤ d) && decide (d < 2 ^ 21)
  s.modExec fun e =>
    { e with
      recs := x.recs.foldl (fun t p => if keep p.1 p.2 then t else tset ExecRec.init t p.1 p.2) e.recs
      ptr := if newer then e.ptr else x.ptr
      circuits := x.circuits }

/-- R183, R372: a balance credited for `n` ticks. -/
def creditFor (burst : Int) (rate n : Nat) (bal : Int) : Int := min burst (bal + ((rate * n : Nat) : Int))

/-- R372: the queues, buckets, tags and ledger, brought up to the running frame; what STREAM cells have changed since follows. -/
def joinSched (snap : Nat) (x : SchedSt) (s : State) : State :=
  let n := sub32 s.frame snap
  let openQ (r : Nat) : Bool := decide ((s.xrec r).st = .queued) && !(s.xrec r).admitted
  { s with sched :=
    { x with
      meas := s.sched.meas
      queues := x.queues.map fun e =>
        (e.1, { e.2 with
          recs := e.2.recs.filter openQ
          bal := creditFor (s.burst e.1) (s.fgi F.SCH_QRATE_RATE e.1) n e.2.bal }) } }

/-- R372: the scheduler side of a STREAM message of a frame after the snapshot. -/
def replaySched (s : State) (m : MMsg) : State :=
  match m with
  | .req r _ no source _ police => if (s.xrec r).st = .queued ∧ (s.xrec r).admitted = false then reqSched r source no police s else s
  | .admitted r _ no start band =>
    match s.manFor (s.xrec r) no with
    | some m => (admitSched r (s.xrec r).source start m (s.fs F.SEG_STAT_BAND band)).fs F.SEG_STAT_BAND (s.fg F.SEG_STAT_BAND)
    | none => s
  | .voidev r _ _ => dequeue r s
  | _ => s

/-- R372: slots and bundle states. A slot's setpoint is that of the block unless an admission here is newer; transitions of
records that this device had not admitted join its own, and stream from this device's copy of their segments. A bundle of a failed engine keeps its state. -/
def joinSlots (snap : Nat) (recs : Tbl ExecRec) (was : Tbl ExecRec) (l : List SlotCopy) (b : Tbl Bundle) (s : State) : State :=
  let s := l.foldl (fun s c =>
    s.modSlot c.slot fun x =>
      let new := c.trs.filter fun t => !hasRec was recs t.recIdx
      let keep := decide (new = []) && (decide (c.trs ≠ []) || s.admittedAfter c.slot snap)
      let new := new.map fun t => { t with base := s.segBase t.key }
      { x with
        lp := if keep then x.lp else { x.lp with uns := c.uns, moved := c.moved }
        owner := c.owner
        ownerNext := c.next
        failed := c.failed
        resv := c.resv
        phi := if keep then x.phi else c.phi
        ref := if keep then x.ref else c.ref
        trs := new ++ x.trs }) s
  b.foldl (fun s e => if s.engineUp e.1 then followBundle e.1 e.2 s else s) s

/-- R204, R205, R208, R211: a tide table's state brought on by a tick to frame `f`. -/
def TideSt.tick (x : TideSt) (f : Nat) : TideSt :=
  let x :=
    match x.pstart with
    | some p =>
      if p = f then
        let t := x.tabs.getD x.shadow TideTab.init
        { x with
          shadow := 1 - x.shadow
          run := true
          off := -1
          pstart := none
          stopAt := if t.hdr.oneshot then some (add32 p t.cycle) else none
          stopCmd := false
          start := p
          cycles := 0 }
      else x
    | none => x
  let x := if x.run = true ∧ x.stopAt = some f then { x with run := false, stopAt := none, stopCmd := false } else x
  if x.run then
    let c := (x.tabs.getD (1 - x.shadow) TideTab.init).cycle
    if x.off + 1 = ((c : Nat) : Int) then { x with off := 0, cycles := add32 x.cycles 1 }
    else { x with off := x.off + 1 }
  else x

/-- R301, R365, R372: a reply-cache entry of a state block, where the device may hold one that a CACHE cell has brought since. -/
def CEntry.newer (own block : CEntry) : CEntry :=
  if own.st = .complete ∧ (block.st ≠ .complete ∨ block.ord ≤ own.ord) then own else block

/-- R372: a session of a state block, joined with what SESSION and CACHE cells have made of it. -/
def joinSess (own block : Sess) : Sess :=
  if own.st = 0 ∨ own.sgen ≠ block.sgen then block
  else
    let cache := (tkeys own.cache).foldl (fun t k =>
      tset CEntry.init t k ((tget CEntry.init own.cache k).newer (tget CEntry.init t k))) block.cache
    { (if block.tx ≤ own.tx ∧ block.h ≤ own.h then own else block) with cache := cache }

/-- R372: a block installed, with what the STREAM cells since its snapshot have changed. -/
def joinBlock (recs was : Tbl ExecRec) (p : Nat × SBlk) (s : State) : State :=
  let since := s.mir.history.filter fun h => later h.1 p.1
  let cfg := since.filterMap fun h => match h.2 with
    | .config _ c => some c
    | _ => none
  match p.2 with
  | .recs x =>
    cfg.foldl (fun s c => match c with
      | .circuit k v => s.setCircuit k v.st v.manifest
      | _ => s) (joinRecs x s)
  | .sched x => (since.map (·.2)).foldl replaySched (joinSched p.1 x s)
  | .slots l b =>
    cfg.foldl (fun s c => match c with
      | .owner _ _ _ => applyConfig c s
      | .failed _ _ => applyConfig c s
      | .bundle _ _ => applyConfig c s
      | _ => s) (joinSlots p.1 recs was l b s)
  | .tide x =>
    if cfg.any fun c => match c with
      | .tide _ => true
      | _ => false then s
    else followTide ((List.range (sub32 s.frame p.1)).foldl (fun x i => x.tick (add32 p.1 (i + 1))) x) s
  | .pilots l =>
    if cfg.any fun c => match c with
      | .pilots _ _ => true
      | _ => false then s
    else l.foldl (fun s c =>
      s.modSlot c.slot fun x =>
        { x with
          pil := c.pil
          pilStg := c.pil
          lfsr := if c.noiseOn then lfsrShifts c.lfsr (23 * sub32 s.frame p.1) else c.lfsr
          noiseOn := c.noiseOn }) s
  | .quay q rng tsets tasg =>
    if cfg.any fun c => match c with
      | .range k _ => decide (k = q)
      | .tset k _ _ _ => decide (k = q)
      | _ => false then s
    else (s.fsi F.QY_RNGSTAT_CUR q rng).modQuay q fun x => { x with tsets := tsets, tasg := tasg }
  | .sess x =>
    let s := x.foldl (fun s e => e.2.cache.foldl (fun s c => ordPast c.2.ord s) s) s
    s.modPen fun y =>
      { y with sess := x.map fun e => (e.1, joinSess (tget Sess.init y.sess e.1) e.2) }
  | .objects l =>
    l.foldl (fun s o => if s.pen.loaded.any (fun x => decide (x.obj = o.obj)) then s else (placeObj o.obj o.bytes s).getD s) s
  | .regs l =>
    cfg.foldl (fun s c => match c with
      | .reg k v => { s with regs := tset 0 s.regs k v }
      | _ => s) (l.foldl (fun s e => { s with regs := tset 0 s.regs e.1 e.2 }) s)

/-- The order in which the blocks are installed: objects and registers first, since the others refer to them. -/
def SBlk.rank : SBlk → Nat
  | .objects _ => 0
  | .regs _ => 1
  | .recs _ => 2
  | .slots _ _ => 3
  | _ => 4

/-- R372: the blocks of a join epoch are installed. -/
def joinBlocks (l : List (Nat × SBlk)) (s : State) : State :=
  let recs := (l.findSome? fun p => match p.2 with
    | .recs x => some x.recs
    | _ => none).getD []
  let was := s.exec.recs
  let order := (List.range 5).flatMap fun r => l.filter fun p => decide (p.2.rank = r)
  order.foldl (fun s p => joinBlock recs was p s) s

/-- R371: every condition of the commit of an epoch holds. -/
def Epoch.complete (e : Epoch) : Bool :=
  match e.fin with
  | some x =>
    decide (x.1 = e.recs.length) && decide (x.2 = crc32c (e.recs.flatMap brecBytes))
      && e.bundles.all (fun b => match tget none e.staged b with
        | some g => g.ok
        | none => false)
      && (!e.join || (decide (e.blocks ≠ []) && decide (e.again = [])))
  | none => false

/-- R371, R372: the open epoch commits. -/
def epCommit (s : State) : State :=
  match s.mir.epoch with
  | some e =>
    if s.dev = .standby ∧ e.complete = true then
      let s := if e.join then joinBlocks e.blocks s else s
      let s := e.bundles.foldl (fun s b =>
        match tget none e.staged b with
        | some g => (putCopy b g.x s).modBun b fun x => { x with synced := true }
        | none => s) s
      let s := ((s.modMir fun x => { x with epoch := none }).bump F.MIR_EPCOMMIT).fs F.MIR_EPOCH_LAST e.no
      if e.join then ((s.fs F.MIR_STAT_SYNC 1).fs F.MIR_STAT_JOINED 1).fs F.ROL_STAT_READY 1 else s
    else s
  | none => s

/-- The meaning of EPOCH_COMMIT (R371). -/
def execEpochCommit (s : State) : Out := .next (epCommit s)

/-- R371: the open epoch has not been committed within EPLIM × 1,024 frames. -/
def epTimeout (s : State) : State :=
  match s.mir.epoch with
  | some e => if 1024 * Nat.max 1 (s.fg F.MIR_CFG_EPLIM) ≤ sub32 s.coming e.opened then epDiscard s else s
  | none => s

/-- The meaning of EPOCH_TIMEOUT (R371). -/
def execEpochTimeout (s : State) : Out := .next (epTimeout s)

/-- R369: MIR.CTRL.EPOCH. -/
def mirEpoch (s : State) : State := if s.dev = .standby then s.modMir fun x => { x with wanted := true } else s

/-- The meaning of MIR_EPOCH (R369). -/
def execMirEpoch (s : State) : Out := .next (mirEpoch s)

/-- R372: MIR.CTRL.RESYNC. -/
def mirResync (s : State) : State :=
  if s.dev = .standby then (s.fs F.ROL_STAT_READY 0).modMir fun x => { x with joinWanted := true } else s

/-- The meaning of MIR_RESYNC (R372). -/
def execMirResync (s : State) : Out := .next (mirResync s)

/-- R377: the planned swap is dropped for a reason. -/
def swapDrop (reason : Nat) (s : State) : State :=
  if s.mir.swap.isSome then
    let s := (s.modMir fun x => { x with swap := none }).fs F.ROL_STAT_SWREASON reason
    if s.mirrors then streamPush (.swap none) s else s
  else s

/-- R377: a stream loss cancels a planned swap that the coming tick does not carry out. -/
def swapLoss (s : State) : State :=
  match s.mir.swap with
  | some p => if s.coming = p.w then s else swapDrop 6 s
  | none => s

/-- R361: cells may be missed once the device follows its partner's STREAM cells, or stages the blocks of an epoch. -/
def State.follows (s : State) : Bool := s.mir.streamIn.isSome || s.mir.epoch.isSome

/-- R352, R361: a stream loss on a device in STANDBY, judged at the tick: a number left out; the cells of frame n, of which no
good frame came and which no STREAM cell of frame n + 1 shows not to be missing, at tick n + 2 (log 67); or headers out of
step. -/
def streamLoss (s : State) : State :=
  let dark := s.mir.dark && s.follows
  let lost := s.mir.loss || dark || s.mir.hdrOff && decide (1 ≤ s.mir.skewRun)
  let s := s.modMir fun x => { x with dark := !x.good, good := false }
  if s.dev = .standby ∧ s.mir.failed = false ∧ lost = true then
    let s := mirFlag F.MIR_FLAGS_STREAMLOSS (s.modMir fun x =>
      { x with loss := false, joinWanted := true, asked := false, streamIn := none })
    let s := swapLoss (epDiscard ((s.fs F.ROL_STAT_READY 0).fs F.MIR_STAT_SYNC 0))
    s.popBundles.foldl (fun s b => unsync b s) s
  else s

/-- The meaning of STREAM_LOSS (R361). -/
def execStreamLoss (s : State) : Out := .next (streamLoss s)

/-! ### Acting on messages -/

/-- R348, R358: a HELLO received on lane `k`. With differing digests no epoch goes on. -/
def applyHello (k : Nat) (digest : List Byte) (devid : Nat) (s : State) : State :=
  if devid = s.otpNum 0 8 then
    mirFlag F.MIR_FLAGS_LOOP (s.modMlane k fun l => { l with st := 0, loop := true })
  else
    let bad := decide (digest ≠ s.mir.digest)
    let s := s.modMir fun x => { x with peer := some devid, imgMis := bad }
    let s := s.when bad fun s => (epDiscard s).modMir fun x => { x with epOut := none }
    if bad && !s.flag F.ROL_ALARM_IMGMIS then (s.sticky F.ROL_ALARM_IMGMIS 0 22).logFault 0x7004 noIndex 0 else s

/-- R308, R361: an acknowledgement. -/
def applyAck (acked epoch : Nat) (s : State) : State :=
  let s := s.modMir fun x => { x with ackedOut := x.ackedOut.ack acked, epochOut := x.epochOut.ack epoch }
  releaseFlights (fun c => s.mir.ackedOut.cells.all fun y => decide (y.cseq ≠ c)) s

/-- R360: a message received on lane `k`. LATE is applied to no loop (R364). -/
def applyMsg (k : Nat) (m : MMsg) (s : State) : State :=
  match m with
  | .req r u no src rf p => applyReq r u no src rf p s
  | .admitted r a no st b => applyAdmit r a no st b s
  | .defer r st => applyDefer r st s
  | .voidev r c f => applyVoid r c f s
  | .late _ _ => s
  | .tally l => tallyMatch (s.modMir fun x => { x with theirs := x.theirs ++ l.map fun t => ⟨t.1, t.2.1, t.2.2, none⟩ })
  | .config _ c => applyConfig c s
  | .swap w => s.modMir fun x => { x with swap := w.map fun n => ⟨n⟩ }
  | .object _ _ _ _ => objTick s.frame s.mir.objs.length s
  | .session i x => applySession i x s
  | .cache i e x => applyCache i e x s
  | .holdcode b l => applyHold b l s
  | .brec b e f x => applyBrec b e f x s
  | .sblk e n x => applySblk e n x s
  | .epReq l j => if s.holds && !s.mir.imgMis then epRequest l j s else s
  | .epAgain e blk k => if s.holds then epResend e blk k s else s
  | .epStart e l j => if s.dev = .standby then applyEpStart e l j s else s
  | .epEnd e c r => applyEpEnd e c r s
  | .ack a e => applyAck a e s
  | .hello d i => applyHello k d i s

/-- The class of a message. -/
def MMsg.isStream : MMsg → Bool
  | .req _ _ _ _ _ _ => true
  | .admitted _ _ _ _ _ => true
  | .defer _ _ => true
  | .voidev _ _ _ => true
  | .config _ _ => true
  | _ => false

/-- The message at the front of the inbox is acted on; STREAM messages are kept for the blocks of a join epoch (R372). -/
def actFront (s : State) : State :=
  match s.mir.inbox with
  | [] => s
  | p :: t =>
    let s := s.modMir fun x =>
      { x with inbox := t, history := if p.2.isStream then x.history ++ [(s.frame, p.2)] else x.history }
    applyMsg p.1 p.2 s

/-- The front message acted on if it is of a kind. -/
def actKind (kind : MMsg → Bool) (s : State) : State :=
  match s.mir.inbox with
  | p :: _ => if kind p.2 then actFront s else s
  | [] => s

/-- The messages left at the tick. -/
def drainInbox : Nat → State → State
  | 0, s => s
  | n + 1, s => if s.mir.inbox = [] then s else drainInbox n (actFront s)

/-- R372: STREAM messages of the last 64 frames are kept, and those since the oldest block of an open join epoch. -/
def pruneHistory (s : State) : State :=
  let old : List Nat := match s.mir.epoch with
    | some e => e.blocks.map (·.1)
    | none => []
  s.modMir fun x =>
    { x with history := x.history.filter fun h => decide (sub32 s.frame h.1 < 64) || old.any (fun n => later h.1 n) }

/-- The meaning of REQ (R363). -/
def execReq (s : State) : Out := .next (actKind (fun m => match m with | .req _ _ _ _ _ _ => true | _ => false) s)
/-- The meaning of ADMIT (R363): an admission or a deferral. -/
def execAdmitEv (s : State) : Out :=
  .next (actKind (fun m => match m with | .admitted _ _ _ _ _ => true | .defer _ _ => true | _ => false) s)
/-- The meaning of VOIDEV (R363). -/
def execVoidev (s : State) : Out := .next (actKind (fun m => match m with | .voidev _ _ _ => true | _ => false) s)
/-- The meaning of LATE (R364). -/
def execLate (s : State) : Out := .next (actKind (fun m => match m with | .late _ _ => true | _ => false) s)
/-- The meaning of TALLY (R367). -/
def execTally (s : State) : Out := .next (actKind (fun m => match m with | .tally _ => true | _ => false) s)
/-- The meaning of CONFIG (R363). -/
def execConfig (s : State) : Out := .next (actKind (fun m => match m with | .config _ _ => true | _ => false) s)
/-- The meaning of SWAP (R377). -/
def execSwap (s : State) : Out := .next (actKind (fun m => match m with | .swap _ => true | _ => false) s)
/-- The meaning of OBJECT (R365). -/
def execObject (s : State) : Out := .next (actKind (fun m => match m with | .object _ _ _ _ => true | _ => false) s)
/-- The meaning of SESSION (R365). -/
def execSession (s : State) : Out := .next (actKind (fun m => match m with | .session _ _ => true | _ => false) s)
/-- The meaning of CACHE (R365). -/
def execCache (s : State) : Out := .next (actKind (fun m => match m with | .cache _ _ _ => true | _ => false) s)
/-- The meaning of HOLDCODE (R367). -/
def execHoldcode (s : State) : Out := .next (actKind (fun m => match m with | .holdcode _ _ => true | _ => false) s)
/-- The meaning of BREC (R370). -/
def execBrec (s : State) : Out := .next (actKind (fun m => match m with | .brec _ _ _ _ => true | _ => false) s)
/-- The meaning of SBLK (R372). -/
def execSblk (s : State) : Out := .next (actKind (fun m => match m with | .sblk _ _ _ => true | _ => false) s)
/-- The meaning of EPCTL (R369 to R371). -/
def execEpctl (s : State) : Out :=
  .next (actKind (fun m => match m with
    | .epReq _ _ => true | .epAgain _ _ _ => true | .epStart _ _ _ => true | .epEnd _ _ _ => true | _ => false) s)
/-- The meaning of ACK (R361). -/
def execAck (s : State) : Out := .next (actKind (fun m => match m with | .ack _ _ => true | _ => false) s)
/-- The meaning of HELLO (R348). -/
def execHello (s : State) : Out := .next (actKind (fun m => match m with | .hello _ _ => true | _ => false) s)

/-! ### The tick of the link -/

/-- R246: the better of two presets: the greater margin, the earlier where equal. -/
def betterPreset (b : Option (Nat × Nat)) (eye preset : Nat) : Nat × Nat :=
  match b with
  | some o => if o.1 < eye then (eye, preset) else o
  | none => (eye, preset)

/-- R246, R544, R358: a frame of training of a lane that has lock: each preset is tried for 64 frames, then the best is kept;
training begins again when lock is lost, or when 4,096 frames bring no run of clean frames. -/
def MLane.train (l : MLane) (auto : Bool) : MLane :=
  if l.lockLost = true ∨ 4096 ≤ l.since + 1 then { MLane.init with st := 1, loop := l.loop }
  else
    let l := { l with since := l.since + 1 }
    if auto = true ∧ l.chosen = false then
      if l.presetRun + 1 < 64 then { l with presetRun := l.presetRun + 1 }
      else
        let b := betterPreset l.best l.eye l.preset
        if l.preset < 7 then { l with best := some b, preset := l.preset + 1, presetRun := 0 }
        else { l with best := some b, preset := b.2, presetRun := 0, chosen := true, clean := 0 }
    else l

/-- What the running frame leaves of a mirror lane: a frame that never came counts as a bad SYNC word (R238). -/
def mlaneTick (k : Nat) (s : State) : State :=
  let auto := s.flag F.MIR_CFG_TPAUTO
  mlaneDown k (s.modMlane k fun l =>
    let l := { l with got := false, syncBad := if (l.st = 2 ∨ l.lock = true) ∧ l.got = false then l.syncBad + 1 else l.syncBad
                      clean := if l.got then l.clean else 0 }
    if l.st = 1 ∧ l.lock = true then l.train auto else l)

/-- R358: UP follows the lanes. With no lane up, the replies that wait for the partner go out (R308). -/
def mirLinkTick (s : State) : State :=
  let s := mlaneTick 1 (mlaneTick 0 s)
  let up := decide ((s.mlane 0).st = 2) || decide ((s.mlane 1).st = 2)
  let s := s.fb F.MIR_STAT_UP up
  if up then s else releaseFlights (fun _ => true) (s.modMir fun x => { x with streamQ := [], asked := false })

/-- R368: the bundles of a quay whose lane is not in RUN on a device in STANDBY are unsynced. -/
def unsyncLanes (s : State) : State :=
  if s.dev = .standby then
    (s.popBundles.filter fun b => !s.laneRun (quayOfBundle b)).foldl (fun s b => unsync b s) s
  else s

end Sys2Proof.Machine
end

