-- ==== Sys2Proof/Machine/Role.lean ====
section
/-! DEFINITION. The harbourmaster (14): heartbeats and the interlock, the changes of role, takeovers and planned swaps. Rows
that happen at a tick are sent just before it and act on the coming frame. -/
namespace Sys2Proof.Machine

/-! ### Pins (R350, R351, R353) -/

/-- R351: HBT_IN changes level. -/
def hbtIn (s : State) : State := s.modMir fun x => { x with hbtLevel := !x.hbtLevel, hbtEdge := true }

/-- The meaning of HBT_IN_EDGE (R351). -/
def execHbtInEdge (s : State) : Out := .next (hbtIn s)

/-- R353: ACT_IN changes level; bit 0 of the row is the running frame. -/
def actIn (s : State) : State := s.modMir fun x => { x with actLevel := !x.actLevel, actEdges := x.actEdges ||| 1 }

/-- The meaning of ACT_IN_EDGE (R353). -/
def execActInEdge (s : State) : Out := .next (actIn s)

/-- R353: ACT_IN is asserted at the coming tick. -/
def State.actAsserted (s : State) : Bool := decide (s.mir.actEdges % 4 ≠ 0)

/-- R350: the levels of HBT_OUT and ACT_OUT in the frame that begins, and the row of ACT_IN moved on. -/
def pinTick (s : State) : State :=
  s.modMir fun x =>
    { x with
      hbtOut := s.up && !x.hbtOut
      actOut := s.holds && !x.actOut
      actEdges := x.actEdges * 2 % 16
      hbtEdge := false
      mirSeen := false
      hdrOff := false
      judged := false }

/-! ### Roles (R349, R356, R373 to R377) -/

/-- R376: the beacon role and the fabric-time sources of a pair. -/
def bcnRoles (s : State) : State :=
  let pri := s.mir.t3.1
  let sec := s.mir.t3.2
  let set (role relay p q : Nat) (s : State) : State :=
    (((s.fs F.TIM_BCNCFG_ROLE role).fs F.TIM_BCNCFG_RELAY relay).fs F.TIM_T3CFG_PRI p).fs F.TIM_T3CFG_SEC q
  match s.fg F.ROL_CFG_BCNMODE with
  | 1 => if s.holds then set 1 (s.fg F.TIM_BCNCFG_RELAY) pri sec s else set 2 0 3 pri s
  | 2 => if s.holds then set 2 1 3 sec s else set 2 0 3 sec s
  | _ => s

/-- A device begins to hold authority in a state: every bundle shows as synced (R368), and TT0 is armed once (R213). -/
def holdAuthority (d : DevState) (s : State) : State :=
  let s := { s with dev := d, auth := true }
  let s := (s.fs F.ROL_STAT_READY 0).modMir fun x => { x with dualRun := 0, yieldDue := false, joinEnd := none }
  tideAutoDue (bcnRoles (s.popBundles.foldl (fun s b => s.modBun b fun x => { x with synced := true }) s))

/-- R349: a device that has ended STAGING becomes SOLO. -/
def becomeSolo (s : State) : State := holdAuthority .solo s

/-- The first authoritative heater frame of every lane. -/
def authLanes (v : Option Nat) (s : State) : State :=
  { s with lanes := s.lanes.map fun (l : Lane) => { l with authFrom := v } }

/-- R64, R84: a takeover whose authoritative frames begin with heater frame `first`: the quays whose tiles source no current
ramp. -/
def rampTakeover (first : Nat) (s : State) : State :=
  (List.range 32).foldl (fun s q =>
    if s.laneSt q = 6 ∧ (s.lane q).tileOff = true then startRamp q first s else s) s

/-- R368, R372: a device enters STANDBY: every bundle is unsynced, it is not ready, and it wants a join epoch. -/
def enterStandby (s : State) : State :=
  let s := { s with dev := .standby, auth := false }
  let s := { s with port := { s.port with health := { s.port.health with stCount := 0, stFail := 0 } } }
  let s := ((s.fs F.ROL_STAT_READY 0).fs F.MIR_STAT_JOINED 0).fs F.MIR_STAT_SYNC 0
  let s := authLanes none s
  let s := s.modMir fun x =>
    { x with
      joinWanted := true
      wanted := false
      asked := false
      epoch := none
      epOut := none
      streamIn := none
      streamQ := []
      loss := false
      history := []
      own := []
      theirs := []
      objs := []
      fires := []
      dualRun := 0
      yieldDue := false
      joinEnd := none }
  bcnRoles (s.popBundles.foldl (fun s b => unsync b s) s)

/-- An alarm of the harbourmaster sets (R450, source 22). -/
def alarm (f : Fld) (s : State) : State := s.sticky f 0 22

/-- R354: an alarm of the heartbeats is declared: ROLE_ALARM is raised each time (R450). -/
def declare (f : Fld) (s : State) : State := (s.fs f 1).raise 22

/-- R374: at a takeover an unsynced bundle that is CLOSED folds and opens until its first whole interval; one that is
PARKED-HOLD, synced or not, and has a working engine here is loaded from the codes received. -/
def takeBundle (b : Nat) (s : State) : State :=
  match (s.bun b).st with
  | .closed =>
    if (s.bun b).synced then s else (setBundle b .opened s).modBun b fun x => { x with takeF := some s.coming }
  | .hold => if s.engineUp b then loadBundle b (putHeld b s) else s
  | _ => s

/-- R374: a bundle opened by a takeover closes again. -/
def takeReclose (b : Nat) (s : State) : State :=
  let x := s.bun b
  match x.takeF with
  | some c =>
    if x.st ≠ .opened then s.modBun b fun x => { x with takeF := none }
    else if s.updNext b ∧ notBefore (sub32 s.coming (2 ^ (s.coef b).k)) c = true then
      closeOrReturn b (s.modBun b fun x => { x with takeF := none })
    else s
  | none => s

/-- R371, R373, R400: a takeover at the coming tick: under R355, or as planned. A calibration hold of the partner
is to be released. `first` is the first heater frame with AUTH. DESIGN CHOICE (log 69): no record takes the cause TAKEOVER of
R172, since chapter 14 leaves none unfinished. -/
def gainAuthority (planned : Bool) (first : Nat) (s : State) : State :=
  let cold := !planned && !s.flag F.ROL_STAT_READY
  let s := epDiscard s
  let s := s.popBundles.foldl (fun s b => takeBundle b s) s
  let holds := s.popBundles.filter fun b => (s.bun b).calHold.isSome
  let s := { s with cal := { s.cal with orphans := holds.map fun b => (b, s.coming) } }
  let s := s.when (!planned) fun s =>
    let n := s.mir.fires.length
    takeoverSessions ((s.add F.ROL_FIREMISS n).modMir fun x => { x with objs := [] })
  let s := holdAuthority (if planned then .active else .solo) s
  let s := rampTakeover first (authLanes (some first) s)
  let s := s.modExec fun x =>
    { x with recs := x.recs.map fun (r : Nat × ExecRec) => (r.1, if r.2.isOpen then { r.2 with tkovr := true } else r.2) }
  let s := alarm F.ROL_ALARM_TAKEOVER ((s.fs F.ROL_TKFRM_FRAME first).bump F.ROL_TAKECNT)
  let s := s.when cold (alarm F.ROL_ALARM_COLDTAKE)
  (s.logFault 0x7005 noIndex (b2n cold)).modMir fun x =>
    { x with fires := [], history := [], epoch := none, joinWanted := false, wanted := false, asked := false }

/-! ### Misses and failure (R351, R352, R354, R355) -/

/-- MISSLIM in force (14, ROL.CFG). -/
def State.missLim (s : State) : Nat := Nat.min 5 (Nat.max 2 (s.fg F.ROL_CFG_MISSLIM))

/-- R354: the partner is declared failed. -/
def declareFailed (s : State) : State :=
  let s := s.modMir fun x => { x with failed := true, seen := false, pinRun := 0, mirRun := 0, bothRun := 0 }
  let s := swapDrop 6 (epDiscard ((declare F.ROL_ALARM_PARTFAIL s).logFault 0x7001 noIndex 0))
  if s.dev = .active then { s with dev := .solo } else s

/-- R354: a path alarm: 1 the pin path, 2 the mirror path. -/
def pathAlarm (f : Fld) (detail : Nat) (s : State) : State := (declare f s).logFault 0x7002 noIndex detail

/-- R351, R354: the heartbeats of the running frame judged, once. -/
def judge (s : State) : State :=
  let x := s.mir
  if x.judged then s
  else
    let pin := x.hbtEdge
    let mr := x.mirSeen
    let s := (s.fb F.ROL_STAT_HBTOK pin).fb F.ROL_STAT_MIROK mr
    let s := s.when (x.seen && !pin) fun s => s.bump F.ROL_HBTMISS
    let s := s.when (x.seen && !mr) fun s => s.bump F.ROL_MIRMISS
    let p := if x.seen && !pin && mr then x.pinRun + 1 else 0
    let m := if x.seen && pin && !mr then x.mirRun + 1 else 0
    let b := if x.seen && !pin && !mr then x.bothRun + 1 else 0
    let s := s.modMir fun x =>
      { x with
        judged := true
        seen := x.seen || pin || mr
        failed := x.failed && !pin && !mr
        pinRun := p
        mirRun := m
        bothRun := b }
    let s := s.when (decide (p = s.missLim)) (pathAlarm F.ROL_ALARM_HBTPATH 1)
    let s := s.when (decide (m = s.missLim)) (pathAlarm F.ROL_ALARM_MIRPATH 2)
    if s.missLim ≤ b then declareFailed s else s

/-- R354: MISSLIM consecutive frames were misses on both paths. -/
def partnerFailed (s : State) : State :=
  let x := s.mir
  if x.judged = false ∧ x.seen = true ∧ x.hbtEdge = false ∧ x.mirSeen = false ∧ s.missLim ≤ x.bothRun + 1 then judge s else s

/-- The meaning of PARTNER_FAILED (R354). -/
def execPartnerFailed (s : State) : Out := .next (partnerFailed s)

/-- R355: a device in STANDBY takes over, or withholds it while the partner claims authority. -/
def takeover (s : State) : State :=
  if s.dev = .standby ∧ s.mir.failed = true then
    if s.actAsserted then alarm F.ROL_ALARM_ACTLIVE s else gainAuthority false (add32 s.coming 1) s
  else s

/-- The meaning of TAKEOVER (R355). -/
def execTakeover (s : State) : Out := .next (takeover s)

/-- R352: headers out of step in two consecutive frames. -/
def skewTick (s : State) : State :=
  let n := if s.mir.hdrOff then s.mir.skewRun + 1 else 0
  (s.modMir fun x => { x with skewRun := n }).when (decide (2 ≤ n)) (alarm F.ROL_ALARM_FRMSKEW)

/-! ### Dual claims (R356) -/

/-- R356: the device with SENIOR low yields, or, both straps being alike, the one with the lower identity. A device that no
mirror header has told of its partner's strap does not (log 52). -/
def State.yields (s : State) : Bool :=
  if s.flag F.ROL_STAT_SENERR then
    match s.mir.peer with
    | some p => decide (s.otpNum 0 8 < p)
    | none => false
  else s.mir.header.isSome && !s.flag F.SYS_STRAP_SENIOR

/-- R356: a device that holds authority finds ACT_IN asserted at two consecutive ticks. -/
def dualTick (s : State) : State :=
  if s.holds && s.actAsserted then
    let n := s.mir.dualRun + 1
    let s := s.modMir fun x => { x with dualRun := n }
    if n = 2 then
      let s := (alarm F.ROL_ALARM_DUALACT s).bump F.ROL_DUALCNT
      (s.logFault 0x7003 noIndex (s.fg F.SYS_STRAP_SENIOR)).modMir fun x => { x with yieldDue := s.yields }
    else s
  else s.modMir fun x => { x with dualRun := 0 }

/-- R356: a yield that is due takes place at the coming tick. -/
def yieldNow (s : State) : State := if s.holds && s.mir.yieldDue then enterStandby s else s

/-- The meaning of DUAL_ACTIVE_YIELD (R356). -/
def execDualActiveYield (s : State) : Out := .next (yieldNow s)

/-! ### Planned swaps (R377) -/

/-- The partner's header shows a ready STANDBY. -/
def State.partnerReady (s : State) : Bool :=
  match s.mir.header with
  | some h => decide (h.state = 3) && h.ready
  | none => false

/-- R377: ROL.CMD.SWAP. -/
def rolSwap (s : State) : State :=
  let w := s.fg F.ROL_SWAPFRM_FRAME
  let no (r : Nat) : State := s.fs F.ROL_STAT_SWREASON r
  if s.dev ≠ .active then no 1
  else if s.partnerReady = false then no 2
  else if s.mir.swap.isSome then no 4
  else if sub32 w s.frame < 16 ∨ 2 ^ 20 < sub32 w s.frame then no 3
  else streamPush (.swap (some w)) (s.modMir fun x => { x with swap := some ⟨w⟩ })

/-- The meaning of ROL_SWAP (R377). -/
def execRolSwap (s : State) : Out := .next (rolSwap s)

/-- R377: ROL.CMD.SWCANCEL, before frame W − 8. -/
def rolSwcancel (s : State) : State :=
  match s.mir.swap with
  | some p => if later (sub32 p.w 8) s.frame then swapDrop 6 s else s
  | none => s

/-- The meaning of ROL_SWCANCEL (R377). -/
def execRolSwcancel (s : State) : Out := .next (rolSwcancel s)

/-- R377: by frame W − 8 the partner's header does not show SWPEND. -/
def swapNoack (s : State) : State :=
  match s.mir.swap with
  | some p =>
    let shown := match s.mir.header with
      | some h => h.swpend
      | none => false
    if s.holds = true ∧ s.coming = sub32 p.w 8 ∧ shown = false then swapDrop 5 s else s
  | none => s

/-- The meaning of SWAP_NOACK (R377). -/
def execSwapNoack (s : State) : Out := .next (swapNoack s)

/-- R361, R377: the partner's header of the running frame shows that it is no longer ready, having lost STREAM cells, which
cancels the swap here too. -/
def swapUnready (s : State) : State :=
  let lost := match s.mir.header with
    | some h => s.mir.mirSeen && !h.ready && !h.swpend
    | none => false
  if s.holds && lost then swapDrop 6 s else s

/-- R309, R377: before W the new holder takes messages from tick W − 3, and launches the link frame of heater frame W. -/
def swapPrepare (s : State) : State :=
  match s.mir.swap with
  | some p =>
    if s.dev = .standby then
      let s := if s.coming = sub32 p.w 3 then takeoverSessions s else s
      if s.coming = sub32 p.w 1 then authLanes (some p.w) s else s
    else s
  | none => s

/-- R349, R377: authority passes at frame W. A holder that is no longer ACTIVE by then keeps it. -/
def swapAt (s : State) : State :=
  match s.mir.swap with
  | some p =>
    if s.coming = p.w then
      let s := s.modMir fun x => { x with swap := none }
      if s.dev = .standby then gainAuthority true p.w (s.bump F.ROL_SWAPCNT)
      else if s.dev = .active then enterStandby (s.bump F.ROL_SWAPCNT)
      else s
    else s
  | none => s

/-- The meaning of SWAP_AT_FRAME (R377). -/
def execSwapAtFrame (s : State) : Out := .next (swapAt s)

/-- The statistic clear of ROL. -/
def rolStatclr (s : State) : State :=
  s.fresetAll [F.ROL_TAKECNT, F.ROL_SWAPCNT, F.ROL_HBTMISS, F.ROL_MIRMISS, F.ROL_DUALCNT, F.ROL_FIREMISS]

/-- The meaning of ROL_STATCLR (R4). -/
def execRolStatclr (s : State) : Out := .next (rolStatclr s)

/-! ### The end of STAGING and the tick (R349) -/

/-- R349: what a device becomes at the tick at which STAGING ends. -/
def stagingEnds (s : State) : State :=
  if s.flag F.ROL_CFG_PAIRED = false then becomeSolo s
  else if s.actAsserted then enterStandby s
  else if s.flag F.SYS_STRAP_SENIOR then becomeSolo s
  else s.modMir fun x => { x with joinEnd := some (add32 s.coming (1024 * Nat.max 1 (s.fg F.ROL_CFG_JOINWAIT))) }

/-- R349: ACT_IN asserted during the wait of a junior device. -/
def joinSeen (s : State) : State :=
  if s.dev = .staging ∧ s.mir.joinEnd.isSome = true ∧ s.actAsserted = true then enterStandby s else s

/-- R349: the wait of a junior device is over. -/
def joinExpiry (s : State) : State :=
  match s.mir.joinEnd with
  | some e => if s.dev = .staging ∧ s.actAsserted = false ∧ notBefore s.coming e = true then becomeSolo s else s
  | none => s

/-- The meaning of JOIN_WAIT_EXPIRY (R349). -/
def execJoinWaitExpiry (s : State) : Out := .next (joinExpiry s)

/-- R349: SOLO and ACTIVE follow the state that the partner's header shows. -/
def followPartner (s : State) : State :=
  match s.mir.header with
  | some h =>
    if s.dev = .solo ∧ s.mir.failed = false ∧ h.state = 3 then { s with dev := .active }
    else if s.dev = .active ∧ h.state ≠ 3 then { s with dev := .solo }
    else s
  | none => s

/-- R373: on a device in STANDBY the firings of its tables that have no outcome yet; those of a frame before the last that the
partner's header came in have had theirs. -/
def fireTick (s : State) : State :=
  if s.dev = .standby then
    let n := add32 s.frame 3
    let s := if s.mir.mirSeen then s.modMir fun x => { x with fires := x.fires.filter fun k => notBefore k n } else s
    match s.tideRead n with
    | some t =>
      if t.into = 0 ∧ (s.tideTab t.tab).fire t.entry = true ∧ s.exec.recs.all (fun e => decide (e.2.source < 64) || decide (e.2.reqFrame ≠ n)) then
        s.modMir fun x => { x with fires := x.fires ++ [n] }
      else s
    | none => s
  else s

/-- R349 to R356, R367, R371, R377: the harbourmaster at the coming tick. -/
def roleTick (s : State) : State :=
  let s := drainInbox s.mir.inbox.length s
  let s := fireTick s
  let s := streamLoss (judge s)
  let s := tallyTimeout (epTimeout (epCommit (skewTick s)))
  let s := dualTick (yieldNow s)
  swapAt (swapPrepare (swapNoack (swapUnready (joinExpiry (joinSeen (takeover (followPartner s)))))))

end Sys2Proof.Machine
end

