-- ==== Sys2Proof/Machine/MemView.lean ====
section
/-! DEFINITION. Table memory, engine windows and sequencer RAMs as the matrix addresses them (18, R470 to R473, 20, R507).
Records, bitmaps, parameter records, reply caches and the fault log are typed state; a read of their addresses shows that
state. -/
namespace Sys2Proof.Machine

/-- Byte `o` of a list of little-endian words given by offset. -/
def wordByte (w : Nat → Nat) (o : Nat) : Byte := BitVec.ofNat 8 (w (o / 4 * 4) / 2 ^ (8 * (o % 4)))

/-- Byte `o` of the parameter record of bundle `b` (18, Table memory; R319). -/
def parByte (s : State) (b o : Nat) : Byte :=
  if o < 16 then wordByte (bunRecWord s b) o
  else if o < 1392 then wordByte (slotRecWord s (8 * b + (o - 16) / 172)) ((o - 16) % 172)
  else 0

/-- R473: the bytes of a reply-cache entry. -/
def CEntry.bytes (e : CEntry) : List Byte :=
  leBytes 2 e.reqid ++ leBytes 1 e.rgen
    ++ leBytes 1 ((match e.st with | .empty => 0 | .busy => 1 | .complete => 2) + b2n e.v1 * 4)
    ++ leBytes 4 e.crc ++ leBytes 4 e.doneFrm
    ++ leBytes 2 (if e.st = .complete then e.reply.length else 0) ++ [0, 0] ++ slice e.reply 0 24 ++ List.replicate 88 0

/-- The areas of table memory that show typed state, or that the device keeps for itself (18, Table memory). -/
inductive Area where
  | par (b o : Nat)
  | own
  | log (k o : Nat)
  | logHead (o : Nat)
  | entry (r o : Nat)
  | bmp (r o : Nat)
  | cache (i k o : Nat)
  | plain
  deriving DecidableEq, Repr

/-- The area that an address of table memory lies in. The placed areas count once the image has placed them. -/
def State.area (s : State) (a : Nat) : Area :=
  let rb := s.fg F.MAN_RECBASE_ADDR * 32
  let bb := s.fg F.MAN_BMPBASE_ADDR * 32
  let cb := s.fg F.PVE_CACHEBASE_ADDR * 0x1000
  if a < 0x210000 then .par (a / 0x580) (a % 0x580)
  else if a < 0x240000 then
    if 0x23F000 ≤ a ∧ a < 0x23F400 then .log ((a - 0x23F000) / 16) (a % 16)
    else if 0x23F400 ≤ a ∧ a < 0x23F404 then .logHead (a % 4)
    else .own
  else if 0x240000 ≤ rb ∧ rb ≤ a ∧ a < rb + 32 * s.recCnt then .entry ((a - rb) / 32) ((a - rb) % 32)
  else if 0x240000 ≤ bb ∧ bb ≤ a ∧ a < bb + 32 * s.bmpSz * s.recCnt then
    .bmp ((a - bb) / (32 * s.bmpSz)) ((a - bb) % (32 * s.bmpSz))
  else if 0x240000 ≤ cb ∧ cb ≤ a ∧ a < cb + 0x100000 then
    .cache ((a - cb) / 0x1000) ((a - cb) % 0x1000 / 0x80) ((a - cb) % 0x80)
  else .plain

/-- R472: the addresses that M0 to M4 and M10 may not write. -/
def State.guarded (s : State) (a : Nat) : Bool := decide (s.area a ≠ .plain)

/-- A byte of table memory (R470). -/
def tblByte (s : State) (a : Nat) : Byte :=
  match s.area a with
  | .par b o => parByte s b o
  | .own => Config.deviceByte a s.fresh
  | .log k o => match s.log.at k with
    | some e => e.bytes.getD o 0
    | none => 0
  | .logHead o => (leBytes 4 s.log.header).getD o 0
  | .entry r o => (recBytes s r).getD o 0
  | .bmp r o => bmpAt s r o
  | .cache i k o => (tget CEntry.init (s.sess i).cache k).bytes.getD o 0
  | .plain => s.mem8 a

/-- Bytes of table memory. -/
def tblBytes (s : State) (a n : Nat) : List Byte := (List.range n).map fun i => tblByte s (a + i)

/-- R547: an object whose bytes have been written over is what its bytes now say. -/
def rereadObj (s : State) (x : Alloc) : State :=
  let bytes := s.memBytes x.addr x.len
  match x.tag with
  | .man n => s.modExec fun e => { e with dir := tset none e.dir n (some (manRaw bytes x.addr)) }
  | .seg key => s.modFab fun f => { f with segs := tset Segment.none f.segs key (segRaw bytes) }
  | .kept _ _ => s

/-- Bytes written into table memory by a master; the objects that they touch are read again. -/
def tblPut (a : Nat) (bytes : List Byte) (s : State) : State :=
  let hit := s.pen.allocs.filter fun x => decide (x.addr < a + bytes.length) && decide (a < x.addr + x.len)
  hit.foldl rereadObj (s.memBeats a bytes)

/-- What an address of the matrix names (R470): table memory, the window of an engine, an instruction RAM, a data RAM, a
register block. -/
inductive Target where
  | tbl (a : Nat)
  | win (p off : Nat)
  | iram (n off : Nat)
  | dram (n off : Nat)
  | reg (a : Nat)
  | none
  deriving DecidableEq, Repr

/-- R470: the target of an address. -/
def target (a : Nat) : Target :=
  if a < 0x1000000 then .tbl a
  else if 0x10000000 ≤ a ∧ a < 0x10320000 then .win ((a - 0x10000000) / 0x10000) (a % 0x10000)
  else if 0x20000000 ≤ a ∧ a < 0x20080000 then
    if a % 0x20000 < 0x10000 then .iram ((a - 0x20000000) / 0x20000) (a % 0x10000)
    else if a % 0x20000 < 0x18000 then .dram ((a - 0x20000000) / 0x20000) (a % 0x8000)
    else .none
  else if 0x40000000 ≤ a ∧ a < 0x40190000 then .reg a
  else if 0x40200000 ≤ a ∧ a < 0x40400000 then .reg a
  else .none

/-- A byte of an engine window. -/
def winByte (s : State) (p off : Nat) : Byte := wordByte (winRead s p) off

/-- A byte as the matrix reads it; register blocks are read by words. -/
def mtxByte (s : State) (a : Nat) : Byte :=
  match target a with
  | .tbl a => tblByte s a
  | .win p o => winByte s p o
  | .iram n o => tget 0 (s.sq n).iram o
  | .dram n o => tget 0 (s.sq n).dram o
  | _ => 0

/-- Bytes as the matrix reads them. -/
def mtxBytes (s : State) (a n : Nat) : List Byte := (List.range n).map fun i => mtxByte s (a + i)

/-- Bytes written into an instruction or data RAM. -/
def ramPut (n : Nat) (code : Bool) (o : Nat) (bytes : List Byte) (s : State) : State :=
  let q := s.sq n
  s.setSq n (if code then { q with iram := tsetBytes q.iram 0 o bytes } else { q with dram := tsetBytes q.dram 0 o bytes })

end Sys2Proof.Machine
end

