-- ==== Sys2Proof/Machine/Sweep.lean ====
section
/-! DEFINITION. The sweep units and their abandonment (15, R398), which entry into SAFE brings about as well. -/
namespace Sys2Proof.Machine

/-- The calibration state changed by a function. -/
def State.modCal (s : State) (f : CalSt → CalSt) : State := { s with cal := f s.cal }

/-- Sweep unit `u`. -/
def State.unit (s : State) (u : Nat) : CalUnit := s.cal.units.getD u CalUnit.init

/-- A unit changed by a function. -/
def State.modUnit (s : State) (u : Nat) (f : CalUnit → CalUnit) : State :=
  s.modCal fun c => { c with units := setAt c.units u (f (s.unit u)) }

/-- CAL.USTAT.STATE of a unit: 0 IDLE, 1 HOLD, 2 WAIT, 3 RUN, 4 RELEASE, 5 DONE. -/
def State.ust (s : State) (u : Nat) : Nat := s.fgi F.CAL_USTAT_STATE u

/-- R402: the capture in progress of a unit is no longer good for a candidate. -/
def badCap (u : Nat) (s : State) : State :=
  let id := s.fgi F.CAL_UCAP_CAPID u
  s.modCal fun c => { c with caps := c.caps.map fun (x : Capture) => if x.id = id then { x with bad := true } else x }

/-- The last capture's entry of a unit's capture, changed. -/
def modCap (u : Nat) (f : Capture → Capture) (s : State) : State :=
  let id := s.fgi F.CAL_UCAP_CAPID u
  s.modCal fun c => { c with caps := c.caps.map fun (x : Capture) => if x.id = id then f x else x }

/-- R398: the capture of a unit ends earlier than planned. -/
def calShorten (u last : Nat) (s : State) : State :=
  let s := s.modUnit u fun x => { x with last := if later x.last last then last else x.last }
  modCap u (fun c => { c with last := (s.unit u).last }) s

/-- R398: the sweep of a unit is abandoned; heater frame `last` is the last that carries the sweep and is captured. A unit that
has fixed no window yet releases its hold at once. -/
def calAbandon (u last : Nat) (s : State) : State :=
  if s.ust u < 1 ∨ 3 < s.ust u then s
  else if (s.unit u).cut then calShorten u last s
  else
    let s := (s.bump F.CAL_ABANDCNT).fsi F.CAL_UCAP_ABANDON u 1
    match (s.unit u).f0 with
    | none => ((s.modUnit u fun x => { x with cut := true, last := s.frame }).fsi F.CAL_USTAT_RESULT u 2).fsi F.CAL_USTAT_STATE u 4
    | some _ => badCap u (calShorten u last (s.modUnit u fun x => { x with cut := true }))

/-- R398: a device that enters SAFE leaves ACTIVE or SOLO, and every sweep is abandoned. -/
def calLeave (s : State) : State :=
  (List.range 4).foldl (fun s u => if (s.unit u).cut then s else calAbandon u (add32 s.frame 2) s) s

end Sys2Proof.Machine
end

