-- ==== Sys2Proof/Machine/Safe.lean ====
section
/-! DEFINITION. OFF, SAFE and what is held in the AON domain (16, R410; 20, R511, R516 to R519), and the link of an
Ethernet port (19, R483). -/
namespace Sys2Proof.Machine

/-! ### The link of a port (R483, R495) -/

/-- The part of a NET port changed by a function. -/
def State.modNet (s : State) (p : Nat) (f : NetPort → NetPort) : State :=
  { s with port := { s.port with nets := setAt s.port.nets p (f (s.net p)) } }

/-- The ports part of the state changed by a function. -/
def State.modPort (s : State) (f : PortSt → PortSt) : State := { s with port := f s.port }

/-- The burst of a master that is in flight. -/
def State.flight (s : State) (m : Nat) : Option InFlight := tget none s.port.flights m

/-- The burst of a master in flight, set or ended. -/
def State.setFlight (s : State) (m : Nat) (f : Option InFlight) : State :=
  s.modPort fun p => { p with flights := tset none p.flights m f }

/-- R467: a master is reset: the matrix completes a burst of it that is in flight. -/
def State.resetMaster (s : State) (m : Nat) : State :=
  match s.flight m with
  | some f => s.setFlight m (some { f with reset := true })
  | none => s

/-- R495: the frames that wait in a port, and the one in flight, are discarded as its link goes down. -/
def dropFrames (p : Nat) (s : State) : State :=
  let mine := s.pen.tx.countP fun d => decide (d.peer.net = p)
  let n := (s.net p).txq.length + (s.net p).flying.toList.length
  ((s.addi F.NET_TXDROP p (n + mine)).modNet p fun x => { x with txq := [], flying := none, wire := [], ann := [] }).modPen fun x =>
    { x with tx := x.tx.filter fun d => decide (d.peer.net ≠ p) }

/-- R483: the link of a port goes up or down. -/
def setLink (p : Nat) (up : Bool) (s : State) : State :=
  if s.flagi F.NET_STAT_LINK p = up then s
  else
    let s := ((s.fbi F.NET_STAT_LINK p up).fsi F.NET_STAT_LINKCHG p 1).raise (134 + p)
    if up then s else dropFrames p s

/-! ### OFF (R410, R518, R524) -/

/-- What the AON domain holds across RESET_N, SYS.CTRL.SWRST and a shutdown (R55, R410, R519). -/
def aonFlds : List Fld :=
  [F.CKG_REFMON, F.CKG_PLLSTAT_REFOK, F.CKG_PLLSTAT_LOL0, F.CKG_PLLSTAT_LOL1, F.CKG_PLLSTAT_LOL2, F.CKG_PLLSTAT_REFLOSS, F.TMP_AONSTAT_TRIPPED,
    F.TMP_AONSTAT_SHUTDN, F.SYS_RSTCAUSE_POWER, F.SYS_RSTCAUSE_PIN, F.SYS_RSTCAUSE_SOFT, F.SYS_RSTCAUSE_THERM,
    F.DBG_SAFECFG_AUTO, F.DBG_SAFECFG_DELAY, F.DBG_SAFECFG_MAXR, F.DBG_LASTSAFE_CODE, F.DBG_LASTSAFE_RESTARTS,
    F.DBG_LASTSAFE_AUTO, F.DBG_LASTSAFEF_FRAME]

/-- The device as entry into OFF leaves it, before the registers of the AON domain: what lies outside the device, the
non-volatile memories, the TAP (R503), the queue, the reference monitor (R55) and the hold of R383 stay. -/
def offState (s : State) : State :=
  { State.reset with
    fresh := s.fresh
    rdata := s.rdata
    tiles := s.tiles
    pending := s.pending
    boot := { BootSt.init with supplies := s.boot.supplies, resetN := s.boot.resetN, otp := s.boot.otp, flash := s.boot.flash,
                                refOut := s.boot.refOut }
    cal := { CalSt.init with shut := s.cal.shut }
    mir := { MirSt.init with hbtLevel := s.mir.hbtLevel, actLevel := s.mir.actLevel }
    port := { PortSt.init with
      sbi := s.port.sbi.tap } }

/-- The AON domain as loss of VDDAON leaves it. -/
def aonLost (s : State) : State :=
  { s with
    boot := { s.boot with refOut := false }
    cal := { s.cal with shut := false } }

/-- R410, R524: the device enters OFF for a cause, which adds to those since VDDAON came. Loss of VDDAON resets the AON domain as
well. -/
def offFor (causes : List Fld) (s : State) : State :=
  if s.boot.supplies.getD 2 false = false then (aonLost (offState s)).fs F.SYS_RSTCAUSE_POWER 1
  else
    let kept := aonFlds.foldl (fun t f => t.fs f (s.fg f)) (offState s)
    let t := if s.dev = .off then kept else kept.fs F.DBG_LASTSAFE_AUTO 0
    causes.foldl (fun t f => t.fs f 1) t

/-- The device enters OFF for a cause that SYS.RSTCAUSE shows. -/
def enterOff (cause : Fld) (s : State) : State := offFor [cause] s

/-- R503: the TAP as power-on leaves it. -/
def tapInit (x : SbiSt) : SbiSt :=
  { SbiSt.init with addr := x.addr, answer := x.answer, rx := x.rx, tx := x.tx }

/-- R524: a supply becomes good or stops being good. The TAP, part of the core logic, loses its state with VDD (R503, R523;
log 68). -/
def supplyChange (n : Nat) (good : Bool) (s : State) : State :=
  let s := { s with boot := { s.boot with supplies := setAt s.boot.supplies n good } }
  let s := s.when (decide (n = 0) && !good) fun s => s.modPort fun p => { p with sbi := tapInit p.sbi }
  if good then s else enterOff F.SYS_RSTCAUSE_POWER s

/-- The meaning of POWER_SUPPLY_CHANGE (R524): VDD, VDDM, VDDAON, VDDL, VDDH, VDDIO in that order. -/
def execPowerSupplyChange (supply : Fin 6) (good : Bool) (s : State) : Out := .next (supplyChange supply.val good s)

/-- R410: RESET_N goes low. -/
def resetAssert (s : State) : State :=
  enterOff F.SYS_RSTCAUSE_PIN { s with boot := { s.boot with resetN := false } }

/-- The meaning of RESET_N_ASSERT (R410). -/
def execResetNAssert (s : State) : Out := .next (resetAssert s)

/-- The meaning of SYS_SWRST (R410). -/
def execSysSwrst (s : State) : Out := .next (enterOff F.SYS_RSTCAUSE_SOFT s)

/-! ### FAULT_N (R511) -/

/-- R511: FAULT_N is asserted. -/
def State.faultLow (s : State) : Bool :=
  match s.dev with
  | .boot | .safe => true
  | .off => s.boot.supplies.getD 2 false
  | _ => decide (s.fg F.DBG_FLTSTAT_CLASS &&& s.fg F.DBG_FLTMASK_CLASS ≠ 0)

/-! ### SAFE (R516 to R519) -/

/-- A cause of SAFE that takes effect at the next tick (R516). -/
def safeDue (x : Fatal) (s : State) : State :=
  if s.port.safe.due.any fun y => decide (y.code = x.code) then s
  else s.modPort fun p => { p with safe := { p.safe with due := p.safe.due ++ [x] } }

/-- The lanes power down (R517). -/
def lanesOff (s : State) : State :=
  (List.range 32).foldl (fun s q =>
    if s.fgi F.QY_LNKSTAT_STATE q = 0 then s
    else
      let s := s.when (decide (s.laneSt q = 5) || decide (s.laneSt q = 6)) (quayLeaves q s.frame)
      ((setLane q 0 s).fsi F.QY_LNKSTAT_ULOCK q 0).fsi F.QY_LNKSTAT_TLOCK q 0) s

/-- R509, R516: a write of DBG.CTRL.SAFE writes its entry, and SAFE follows at the next tick. -/
def dbgSafe (s : State) : State :=
  if s.clocked then safeDue ⟨0x9003, noIndex, 0, some s.frame⟩ (s.logFault 0x9003 noIndex 0) else s

/-- R517, R534: what SAFE does, whatever its cause. -/
def safeEffects (s : State) : State :=
  let s := lanesOff s
  let s := setLink 1 false (setLink 0 false s)
  let s := ((s.fs F.CKG_PLLSTAT_LOCK0 0).fs F.CKG_PLLSTAT_LOCK1 0).fs F.CKG_PLLSTAT_LOCK2 0
  let s := s.modMir fun x =>
    { x with hbtOut := false, actOut := false, lanes := x.lanes.map fun _ => MLane.init, inbox := [] }
  let s := ((s.modBcn fun b => { b with out := none }).modTime fun t => { t with ppsOut := false, evtOut := [] }).modPort fun p =>
    { p with flights := [] }
  { s with
    dev := .safe
    auth := false
    seqs := s.seqs.map fun (q : Seq) => { q with st := .halted, entry := false, busy := false, haltReq := false, wake := false }
    boot := { s.boot with pll := [false, false, false] } }

/-- R398, R516: SAFE is entered for causes, which are logged in ascending order of their codes. A trip, and too few sensors, which act
as one (R380), set TRIPPED (R382). -/
def enterSafe (xs : List Fatal) (s : State) : State :=
  let xs := xs.insertionSort fun a b => a.code ≤ b.code
  let s := xs.foldl (fun s x => if x.logged = none then s.logFault x.code x.index x.detail else s) s
  let s := { s with log := s.log.flush }
  let s := match xs with
    | x :: _ => (s.fs F.DBG_LASTSAFE_CODE x.code).fs F.DBG_LASTSAFEF_FRAME (x.logged.getD s.frame)
    | [] => s
  let s := s.when (xs.any fun x => decide (x.code = 0x2004) || decide (x.code = 0x2002)) fun s => s.fs F.TMP_AONSTAT_TRIPPED 1
  (safeEffects (calLeave s)).modPort fun p =>
    { p with safe := ⟨[], xs.any fun x => decide (x.code = 0xA001), none⟩ }

/-- R516: a trip, too few sensors or a write of DBG.CTRL.SAFE take the device to SAFE at the tick at which it stands. -/
def safeAtTick (s : State) : State := if s.port.safe.due = [] then s else enterSafe s.port.safe.due s

/-- R382, R516: the coming tick takes place and finds a cause of SAFE. -/
def safeTick (s : State) : State :=
  if s.port.safe.due ≠ [] ∧ s.clocked = true ∧ s.flag F.CKG_PLLSTAT_LOCK0 = true then
    let n := s.coming
    safeAtTick { advanceBases s with frame := n }
  else s

/-- A cause of SAFE waits that the thermal limits brought. -/
def State.tripDue (s : State) : Bool :=
  s.port.safe.due.any fun x => decide (x.code = 0x2004) || decide (x.code = 0x2002)

/-- The meaning of THERMAL_TRIP (R382). -/
def execThermalTrip (s : State) : Out := .next (if s.tripDue then safeTick s else s)

/-- R519: the cause of SAFE has cleared. -/
def State.safeCleared (s : State) : Bool :=
  match s.fg F.DBG_LASTSAFE_CODE with
  | 0x1001 | 0x1002 => s.flag F.CKG_PLLSTAT_REFOK
  | 0x2004 =>
    decide (sgn 16 (s.fg F.TMP_MAX_TEMP) ≤ (((Nat.min 140 (Nat.max 100 (s.fg F.TMP_CFG_TRIP)) : Nat) : Int) - 10) * 128)
  | _ => true

/-- R519: the automatic restart, once DELAY seconds have passed. -/
def autoRestart (s : State) : State :=
  if s.dev = .safe ∧ s.flag F.DBG_SAFECFG_AUTO = true ∧ s.port.safe.bootFail = false ∧ s.safeCleared = true
      ∧ s.fg F.DBG_LASTSAFE_RESTARTS < Nat.max 1 (s.fg F.DBG_SAFECFG_MAXR) then
    ((enterOff F.SYS_RSTCAUSE_SOFT s).bump F.DBG_LASTSAFE_RESTARTS).fs F.DBG_LASTSAFE_AUTO 1
  else s

/-- The meaning of SAFE_AUTO_RESTART (R519). -/
def execSafeAutoRestart (s : State) : Out := .next (autoRestart s)

/-- R519: the TB0 time at which the stay in STANDBY, ACTIVE or SOLO began. -/
def upTick (s : State) : State :=
  let up := match s.dev with
    | .standby | .active | .solo => true
    | _ => false
  s.modPort fun p =>
    { p with safe := { p.safe with upSince := if up then (match p.safe.upSince with
      | some t => some t
      | none => some (s.tb 0)) else none } }

/-- R519: 600 s of TB0 without a break. -/
def restartReset (s : State) : State :=
  match s.port.safe.upSince with
  | some t =>
    if 600000000000 * 2 ^ 32 ≤ (s.tb 0 + tbMod - t) % tbMod then s.fs F.DBG_LASTSAFE_RESTARTS 0 else s
  | none => s

/-- The meaning of RESTART_COUNT_RESET (R519). -/
def execRestartCountReset (s : State) : Out := .next (restartReset s)

/-- The meaning of DBG_SAFE (R516). -/
def execDbgSafe (s : State) : Out := .next (dbgSafe s)

end Sys2Proof.Machine
end

