-- ==== Sys2Proof/Machine/Flash.lean ====
section
/-! DEFINITION. Flash and OTP operations (16, R432 to R434) and the temperature window that they wait for (15, R384). -/
namespace Sys2Proof.Machine

/-- The part of the state that start-up, OTP and flash keep, changed by a function. -/
def State.modBoot (s : State) (f : BootSt → BootSt) : State := { s with boot := f s.boot }

/-! ### The window for writes (R384) -/

/-- R384: TMP.MAX lies inside −20 to +110 °C. -/
def State.inWindow (s : State) : Bool :=
  let t := sgn 16 (s.fg F.TMP_MAX_TEMP)
  decide (-2560 ≤ t) && decide (t ≤ 14080)

/-- R384: an operation is refused for the temperature; the first refusal of an episode is counted. -/
def writeHeld (s : State) : State :=
  if s.flag F.TMP_STAT_WRHOLD then s
  else (((s.fs F.TMP_STAT_WRHOLD 1).bump F.TMP_WRREF).raise 26).logFault 0x2006 noIndex (s.fg F.TMP_MAX_TEMP)

/-! ### Flash (R434) -/

/-- The first operation of a list that meets a condition, and the list without it. -/
def takeFirst (p : FlashOp → Bool) : List FlashOp → Option (FlashOp × List FlashOp)
  | [] => none
  | o :: t => if p o then some (o, t) else (takeFirst p t).map fun r => (r.1, o :: r.2)

/-- R384, R434: the next operation is issued when none is: the head, or the first READ while the head is held. -/
def flashIssue (s : State) : State :=
  match s.boot.cur, s.boot.ops with
  | none, o :: t =>
    if o.kind = 0 ∨ s.inWindow = true then s.modBoot fun b => { b with cur := some o, ops := t, opsHeld := false }
    else
      let s := (writeHeld s).modBoot fun b => { b with opsHeld := true }
      match takeFirst (fun o => decide (o.kind = 0)) (o :: t) with
      | some r => s.modBoot fun b => { b with cur := some r.1, ops := r.2 }
      | none => s
  | _, _ => s

/-- XSP.OPSTAT.DONE sets: a firmware operation completed. -/
def flashOk (s : State) : State := (s.bump F.XSP_OPCNT).sticky F.XSP_OPSTAT_DONE 0 30

/-- XSP.OPSTAT.ERR sets: a firmware operation was refused or failed. -/
def flashErr (code : Nat) (s : State) : State :=
  ((s.bump F.XSP_ERRCNT).fs F.XSP_OPSTAT_ERRCODE code).sticky F.XSP_OPSTAT_ERR 0 30

/-- The size of an erase unit (16, XSP.OPC2). -/
def State.eraseUnit (s : State) : Nat := if s.flag F.XSP_OPC2_ERSZ then 65536 else 4096

/-- R434: the address and length of an operation are aligned. -/
def opAligned (s : State) (o : FlashOp) : Bool :=
  decide (o.len ≤ 0x1000000) &&
    (match o.kind with
    | 0 => decide (o.mem % 32 = 0)
    | 1 => decide (o.mem % 32 = 0) && decide (o.addr % 256 = 0) && decide (o.len % 256 = 0)
    | _ => decide (o.addr % s.eraseUnit = 0) && decide (o.len % s.eraseUnit = 0))

/-- R434: a write reaches a journal region. -/
def inJournal (s : State) (o : FlashOp) : Bool :=
  let hit (base : Nat) : Bool := decide (base ≠ 0) && decide (base < o.addr + o.len) && decide (o.addr < base + 0x200000)
  decide (o.kind ≠ 0) && (hit s.boot.journals.1 || hit s.boot.journals.2)

/-- R434: XSP.OPCMD.GO submits an operation of a kind. -/
def xspSubmit (kind : Nat) (s : State) : State :=
  let s := s.fs F.XSP_OPCMD_KIND kind
  let o : FlashOp := ⟨kind, s.fg F.XSP_OPADDR_VALUE, s.fg F.XSP_OPMEM_VALUE, s.fg F.XSP_OPLEN_VALUE, false⟩
  if o.len = 0 then flashOk s
  else if opAligned s o = false then flashErr 1 s
  else if inJournal s o then flashErr 2 s
  else if 4 ≤ s.boot.ops.countP (fun o => !o.store) then flashErr 0 (s.fs F.XSP_OPSTAT_FULL 1)
  else flashIssue (s.modBoot fun b => { b with ops := b.ops ++ [o] })

/-- The meaning of XSP_READ (R434). -/
def execXspRead (s : State) : Out := .next (xspSubmit 0 s)

/-- The meaning of XSP_PROGRAM (R434). -/
def execXspProgram (s : State) : Out := .next (xspSubmit 1 s)

/-- The meaning of XSP_ERASE (R434). -/
def execXspErase (s : State) : Out := .next (xspSubmit 2 s)

/-- R384: a flash or an OTP operation is held. -/
def State.writesHeld (s : State) : Bool := s.boot.opsHeld || (s.boot.otpOp.isSome && s.boot.otpHeld)

/-- R384: an episode ends as well once the last operation that was held has been removed. -/
def holdEnd (s : State) : State := if s.writesHeld then s else s.fs F.TMP_STAT_WRHOLD 0

/-- Waiting operations removed; what R384 held may be among them. -/
def dropOps (p : FlashOp → Bool) (s : State) : State :=
  holdEnd (s.modBoot fun b =>
    let ops := b.ops.filter p
    { b with ops := ops, opsHeld := b.opsHeld && ops.any fun o => decide (o.kind ≠ 0) })

/-- R434: XSP.OPCTRL.CANCEL removes every firmware operation not yet issued. -/
def xspCancel (s : State) : State := (dropOps (fun o => o.store) s).fs F.XSP_OPSTAT_CANCELLED 1

/-- The meaning of XSP_CANCEL (R434). -/
def execXspCancel (s : State) : Out := .next (xspCancel s)

/-- R4: XSP.OPCTRL.STATCLR. -/
def xspStatclr (s : State) : State := s.fresetAll [F.XSP_OPCNT, F.XSP_ERRCNT]

/-- The meaning of XSP_STATCLR (R4). -/
def execXspStatclr (s : State) : Out := .next (xspStatclr s)

/-- A byte of the flash; erased flash reads as 0xFF (log 14). -/
def State.flash8 (s : State) (a : Nat) : Byte := tget 0xFF s.boot.flash a

/-- Bytes of the flash. -/
def State.flashBytes (s : State) (a n : Nat) : List Byte := tgetBytes s.boot.flash 0xFF a n

/-- Flash programming only clears bits. -/
def flashProgram (a : Nat) (bytes : List Byte) (t : Tbl Byte) : Tbl Byte :=
  ((List.range bytes.length).zip bytes).foldl (fun t x => tmod 0xFF t (a + x.1) fun v => v &&& x.2) t

/-- Erased flash: every byte of the range reads 0xFF. -/
def flashErase (a n : Nat) (t : Tbl Byte) : Tbl Byte :=
  t.filter fun e => decide (e.1 < a) || decide (a + n ≤ e.1)

/-! ### OTP (R432, R433) -/

/-- A word of the OTP array. -/
def State.otpWord (s : State) (w : Nat) : Nat := leNat (tgetBytes s.boot.otp 0 (4 * w) 4)

/-- A word is one of `n` 32-byte key slots from word `w0` whose bit in `valid` is set. -/
def slotValid (w w0 n valid : Nat) : Bool :=
  decide (w0 ≤ w) && decide (w < w0 + 8 * n) && valid.testBit ((w - w0) / 8)

/-- R433: why a programming request is refused, or 0. The bits of word 0xA2 are PKVALID, PKREVOKE, KVALID, KREVOKE, FACTORY,
PKLOCK and KLOCK from its lowest byte up (R432). -/
def otpRefusal (s : State) (w d : Nat) : Nat :=
  let k := s.otpWord 0xA2
  let inPk := decide (0x40 ≤ w) && decide (w < 0x60)
  let inK := decide (0x60 ≤ w) && decide (w < 0xA0)
  let setsPk := decide (w = 0xA2) && (decide (d % 16 ≠ 0) || d.testBit 25)
  let setsK := decide (w = 0xA2) && (decide (bitsAt d 8 8 ≠ 0) || d.testBit 26)
  if s.boot.otpOp.isSome then 1
  else if w < 0x40 ∧ k.testBit 24 = true then 2
  else if (inPk || setsPk) && k.testBit 25 then 3
  else if (inK || setsK) && k.testBit 26 then 3
  else if slotValid w 0x40 4 (k % 16) || slotValid w 0x60 8 (bitsAt k 8 8) then 4
  else 0

/-- R384: the OTP operation goes on, or is held. -/
def otpIssue (s : State) : State :=
  if s.boot.otpOp.isSome then
    if s.inWindow then s.modBoot fun b => { b with otpHeld := false }
    else (writeHeld s).modBoot fun b => { b with otpHeld := true }
  else s

/-- R433: OTP.PCMD.PROG. -/
def otpProg (s : State) : State :=
  let w := s.fg F.OTP_PADDR_WORD
  let d := s.fg F.OTP_PDATA_DATA
  let r := otpRefusal s w d
  if r ≠ 0 then (s.fs F.OTP_STAT_REASON r).sticky F.OTP_STAT_PREF 0 31
  else otpIssue (s.modBoot fun b => { b with otpOp := some ⟨w, d⟩ })

/-- The meaning of OTP_PROG (R433). -/
def execOtpProg (s : State) : Out := .next (otpProg s)

/-- R433: OTP.PCMD.CANCEL removes a held operation. -/
def otpCancel (s : State) : State :=
  if s.boot.otpOp.isSome && s.boot.otpHeld then
    holdEnd (s.modBoot fun b => { b with otpOp := none, otpHeld := false })
  else s

/-- The meaning of OTP_CANCEL (R433). -/
def execOtpCancel (s : State) : Out := .next (otpCancel s)

/-- The bits of an OTP word that its shadow takes at once; bits of PK slots and of KREVOKE come with the next start (R290,
R433; log 15). -/
def shadowMask (w : Nat) : Nat :=
  if 0x40 ≤ w ∧ w < 0x60 then 0 else if w = 0xA2 then 0xFF00FF00 else 0xFFFFFFFF

/-- Bits set in a word of a table of bytes. -/
def orWord (t : Tbl Byte) (w d : Nat) : Tbl Byte :=
  tsetBytes t 0 (4 * w) (leBytes 4 (leNat (tgetBytes t 0 (4 * w) 4) ||| d))

/-- R433: the programming operation completes; `ok` is its read-back. Which bits a word that fails it holds is a free value. -/
def otpDone (ok : Bool) (s : State) : State :=
  match s.boot.otpOp with
  | none => s
  | some o =>
    if s.boot.otpHeld then s
    else
      let d := if ok then o.bits else o.bits &&& (Config.freeWord s.fresh).toNat
      let s := { s with fresh := s.fresh + 1 }
      let s := s.modBoot fun b =>
        { b with
          otpOp := none
          otp := orWord b.otp o.word d
          shadow := orWord b.shadow o.word (d &&& shadowMask o.word) }
      if ok then s.sticky F.OTP_STAT_PDONE 0 31 else s.sticky F.OTP_STAT_PERR 0 31

/-- The meaning of OTP_PROG_COMPLETE (R433): `ok` says that the word reads back as programmed. -/
def execOtpProgComplete (ok : Bool) (s : State) : Out := .next (otpDone ok s)

/-- R384: in a period inside the window the held operations are issued and WRHOLD clears. -/
def holdRelease (s : State) : State :=
  if s.flag F.TMP_STAT_WRHOLD && s.inWindow then otpIssue (flashIssue (s.fs F.TMP_STAT_WRHOLD 0)) else s

/-- The meaning of WRITE_HOLD_RELEASE (R384). -/
def execWriteHoldRelease (s : State) : Out := .next (holdRelease s)

end Sys2Proof.Machine
end

