-- ==== Sys2Proof/Machine/Thermal.lean ====
section
/-! DEFINITION. Thermal supervision (15, R378 to R392): die sensors, limits, the write window's periods, photonic bands and
triggers. -/
namespace Sys2Proof.Machine

/-- The TRIP limit in force in °C (15, TMP.CFG). -/
def State.tripLim (s : State) : Nat := Nat.min 140 (Nat.max 100 (s.fg F.TMP_CFG_TRIP))

/-- The WARN limit in force in °C (15, TMP.CFG). -/
def State.warnLim (s : State) : Nat := Nat.min s.tripLim (s.fg F.TMP_CFG_WARN)

/-- TMP.MAX.TEMP in 1/128 °C. -/
def State.tmax (s : State) : Int := sgn 16 (s.fg F.TMP_MAX_TEMP)

/-- The value of a trim (R388): kinds as CAL.TRIMSEL.TRIM numbers them. -/
def State.trim (s : State) (kind i : Nat) : Nat := (tget (0, false) s.cal.trims (kind * 64 + i)).1

/-! ### Die sensors (R378 to R380) -/

/-- R378, R379: one sample of a sensor: a raw result in 1/128 °C, or none where the conversion did not complete. -/
def sampleOne (n : Nat) (raw : Option Int) (s : State) : State :=
  let good := match raw with
    | some r =>
      let t := r + 8 * sgn 8 (s.trim 0 n)
      if -60 * 128 ≤ t ∧ t ≤ 175 * 128 then some t else none
    | none => none
  match good with
  | some t =>
    ((s.fsi F.TMP_SENSn_TEMP n (unsgn 16 t)).fsi F.TMP_SENSn_VALID n 1).modCal fun c =>
      { c with fails := setAt c.fails n 0, seen := setBits c.seen n 1 1 }
  | none => (s.fsi F.TMP_SENSn_VALID n 0).modCal fun c => { c with fails := setAt c.fails n (c.fails.getD n 0 + 1) }

/-- R379: a sensor with three consecutive failed samples goes out of service. -/
def sensorRetire (n : Nat) (s : State) : State :=
  if 3 ≤ s.cal.fails.getD n 0 ∧ s.bit F.TMP_SFAIL_FAILED 0 n = false then
    (((s.setBit F.TMP_SFAIL_FAILED 0 n true).fsi F.TMP_SENSn_FAILED n 1).raise 24).logFault 0x2001 n 0
  else s

/-- The meaning of SENSOR_FAIL (R379). -/
def execSensorFail (n : Fin 16) (s : State) : Out := .next (sensorRetire n.val s)

/-- R379: the sensors in service that have given a reading, with the latest. -/
def State.sensors (s : State) : List (Nat × Int) :=
  (List.range 16).filterMap fun n =>
    if s.bit F.TMP_SFAIL_FAILED 0 n = false ∧ s.cal.seen.testBit n = true then
      some (n, sgn 16 (s.fgi F.TMP_SENSn_TEMP n)) else none

/-- R379: TMP.MAX: the highest latest reading, of the lowest-numbered sensor that has it. -/
def hottest (s : State) : State :=
  match s.sensors with
  | [] => s
  | x :: t =>
    let m := t.foldl (fun (m : Nat × Int) y => if m.2 < y.2 then y else m) x
    (s.fs F.TMP_MAX_TEMP (unsgn 16 m.2)).fs F.TMP_MAX_SENSOR m.1

/-- R381: the WARN limit. -/
def warnCheck (s : State) : State :=
  let lim : Int := (s.warnLim * 128 : Nat)
  if s.flag F.TMP_STAT_WARN then (if s.tmax < lim - 256 then s.fs F.TMP_STAT_WARN 0 else s)
  else if lim ≤ s.tmax then
    (((s.fs F.TMP_STAT_WARN 1).bump F.TMP_WARNCNT).raise 25).logFault 0x2003 (s.fg F.TMP_MAX_SENSOR) (s.fg F.TMP_MAX_TEMP)
  else s

/-- R380, R382: what the next tick finds. -/
def tripCheck (s : State) : State :=
  let n := 16 - bitCount 16 (s.fg F.TMP_SFAIL_FAILED)
  let s := if n < Nat.max 1 (s.fg F.TMP_CFG_MINSENS) then safeDue ⟨0x2002, noIndex, n, none⟩ s else s
  if ((s.tripLim * 128 : Nat) : Int) ≤ s.tmax then safeDue ⟨0x2004, s.fg F.TMP_MAX_SENSOR, s.fg F.TMP_MAX_TEMP, none⟩ s else s

/-- R392: the die trigger, and the loading of its reference at the first valid reading. -/
def dieTrigger (s : State) : State :=
  if s.cal.seen = 0 then s
  else
    match s.cal.trefD with
    | none => s.modCal fun c => { c with trefD := some (s.fg F.TMP_MAX_TEMP) }
    | some r =>
      let d := s.fg F.CAL_TRIGCFG_DIEDELTA
      if d ≠ 0 ∧ d ≤ (s.tmax - sgn 16 r).natAbs then s.sticky F.CAL_STAT_DIETRIG 0 28 else s

/-- R378 to R384: a sampling period ends. SAFE keeps what has brought it (R517). -/
def sensorSample (rs : List (Option Int)) (s : State) : State :=
  if s.dev = .off then s
  else
    let s := ((List.range 16).zip rs).foldl (fun s x => sensorRetire x.1 (sampleOne x.1 x.2 s)) s
    let s := hottest s
    let s := warnCheck (s.fb F.TMP_STAT_FAST (decide (((s.warnLim * 128 : Nat) : Int) - 1024 ≤ s.tmax)))
    holdRelease (dieTrigger (if s.dev = .safe then s else tripCheck s))

/-- The meaning of SENSOR_SAMPLE (R378): the raw results of sensors S0 to S15. -/
def execSensorSample (results : List (Option Int)) (s : State) : Out := .next (sensorSample results s)

/-! ### Shutdown (R383) -/

/-- R383: a comparator asserts. -/
def thermalShutdown (s : State) : State :=
  if s.boot.supplies.getD 2 false then
    enterOff F.SYS_RSTCAUSE_THERM ((s.fs F.TMP_AONSTAT_SHUTDN 1).modCal fun c => { c with shut := true })
  else s

/-- The meaning of THERMAL_SHUTDOWN (R383). -/
def execThermalShutdown (s : State) : Out := .next (thermalShutdown s)

/-- R383: every comparator has been below 130 °C for 1 s: the hold ends, and BOOT follows as after RESET_N (log 16). -/
def shutdownRelease (s : State) : State := s.modCal fun c => { c with shut := false }

/-- The meaning of SHUTDOWN_RELEASE (R383). -/
def execShutdownRelease (s : State) : Out := .next (shutdownRelease s)

/-! ### Bands (R385 to R387) -/

/-- R385: the TPH values that count: of quays in RUN, and not 0x8000. -/
def State.tphs (s : State) : List Int :=
  (List.range 32).filterMap fun q =>
    if s.laneRun q = true ∧ s.fgi F.QY_TTEMP_TPH q ≠ 0x8000 then some (sgn 16 (s.fgi F.QY_TTEMP_TPH q)) else none

/-- R386: the band after a computation of T_P. -/
def bandAfter (s : State) (tp : Int) (b : Nat) : Nat :=
  let edge := fun (e : Nat) => sgn 16 (s.fgi F.TMP_EDGEe_EDGE e)
  let up := (List.range 3).countP fun e => decide (edge e ≤ tp)
  let down := (List.range 3).countP fun e => decide (edge e - 128 ≤ tp)
  if b < up then up else if down < b then down else b

/-- R385, R386: the computation at the tick of a frame whose number is a multiple of 1,000; a change takes effect at the tick
after it. -/
def bandCompute (s : State) : State :=
  if s.coming % 1000 = 0 ∧ s.up = true then
    match s.tphs with
    | [] => (s.fs F.TMP_PHTEMP_NQ 0).fs F.TMP_STAT_PHSTALE 1
    | x :: t =>
      let ts := x :: t
      let tp := rnEven (((sumI ts : Int) : Rat) / ((ts.length : Nat) : Rat))
      let hi := t.foldl max x
      let lo := t.foldl min x
      let s := ((s.fs F.TMP_PHTEMP_TP (unsgn 16 tp)).fs F.TMP_PHTEMP_NQ ts.length).fs F.TMP_STAT_PHSTALE 0
      let s := s.when (decide (((s.fg F.TMP_BANDCFG_SPREAD * 128 : Nat) : Int) < hi - lo)) fun s => s.fs F.TMP_STAT_PHSPREAD 1
      let b := s.fg F.SEG_STAT_BAND
      let b' := bandAfter s tp b
      s.modCal fun c =>
        { c with bandDone := true, band := if b' = b then none else some ⟨add32 s.coming 1, b'⟩ }
  else s

/-- The meaning of BAND_COMPUTE (R385). -/
def execBandCompute (s : State) : Out := .next (bandCompute s)

/-- R387, R399: a band that waits takes effect at the coming tick. -/
def bandChange (s : State) : State :=
  match s.cal.band with
  | some a =>
    if notBefore s.coming a.frame then
      let s := (((s.fs F.SEG_STAT_BAND a.val).bump F.TMP_BANDCNT).raise 27).modCal fun c => { c with band := none }
      (List.range 4).foldl (fun s u =>
        if s.fgi F.CAL_USTAT_STATE u = 3 ∧ notBefore (s.cal.units.getD u CalUnit.init).last s.coming = true then badCap u (s.fsi F.CAL_UCAP_BANDCHG u 1) else s) s
    else s
  | none => s

/-- The meaning of BAND_CHANGE (R387). -/
def execBandChange (s : State) : Out := .next (bandChange s)

/-! ### Triggers (R392) -/

/-- R392: the quay triggers, and the loading of references at first valid readings. -/
def trigTick (s : State) : State :=
  (List.range 32).foldl (fun s q =>
    let t := s.fgi F.QY_TTEMP_TPH q
    if t = 0x8000 then s
    else
      match tget none s.cal.tref q with
      | none => s.modCal fun c => { c with tref := tset none c.tref q (some t) }
      | some r =>
        let d := s.fg F.CAL_TRIGCFG_PHDELTA
        if d ≠ 0 ∧ d ≤ (sgn 16 t - sgn 16 r).natAbs ∧ s.bit F.CAL_QTRIG_QUAY 0 q = false then
          (s.setBit F.CAL_QTRIG_QUAY 0 q true).raise 28
        else s) s

/-- R392: writes of 1 to bits of CAL.QTRIG clear them and load the references with the present values. -/
def qtrigClear (v : Nat) (s : State) : State :=
  (List.range 32).foldl (fun s q =>
    if v.testBit q then
      let t := s.fgi F.QY_TTEMP_TPH q
      (s.setBit F.CAL_QTRIG_QUAY 0 q false).modCal fun c =>
        { c with tref := tset none c.tref q (if t = 0x8000 then none else some t) }
    else s) s

/-- The meaning of QTRIG_CLEAR (R392). -/
def execQtrigClear (v : Word) (s : State) : Out := .next (qtrigClear v.toNat s)

/-- R392: a write of 1 to DIETRIG clears it and loads TREFD with the present value. -/
def dietrigClear (s : State) : State :=
  (s.fs F.CAL_STAT_DIETRIG 0).modCal fun c =>
    { c with trefD := if c.seen = 0 then none else some (s.fg F.TMP_MAX_TEMP) }

/-- The meaning of DIETRIG_CLEAR (R392). -/
def execDietrigClear (s : State) : Out := .next (dietrigClear s)

/-- R4: TMP.CTRL.STATCLR. -/
def tmpStatclr (s : State) : State := s.fresetAll [F.TMP_WRREF, F.TMP_WARNCNT, F.TMP_BANDCNT]

/-- The meaning of TMP_STATCLR (R4). -/
def execTmpStatclr (s : State) : Out := .next (tmpStatclr s)

end Sys2Proof.Machine
end

