-- ==== Sys2Proof/Machine/Calib.lean ====
section
/-! DEFINITION. Calibration (15, R388 to R409): trims, sweeps and scale calibrations, the judging of candidates, and the
journal. Rows that happen at a tick are sent just before it; a window is decided after the running frame's admissions. -/
namespace Sys2Proof.Machine

/-! ### Trims (R388, R389) -/

/-- R389: the trim's lane, or mirror lane, is in use. -/
def State.trimBusy (s : State) (i : Nat) : Bool :=
  if i < 32 then decide (2 ≤ s.laneSt i) && decide (s.laneSt i ≤ 6) else decide (1 ≤ (s.mlane (i - 32)).st)

/-- A trim set, with its USER bit. -/
def setTrim (kind i v : Nat) (s : State) : State :=
  s.modCal fun c => { c with trims := tset (0, false) c.trims (kind * 64 + i) (v % 16, true) }

/-- R389: a write of CAL.TRIM: the value waits for its lane's next entry into TRAIN. -/
def calTrimWrite (v : Nat) (s : State) : State :=
  let k := s.fg F.CAL_TRIMSEL_TRIM
  let i := s.fg F.CAL_TRIMSEL_INDEX
  if (k = 3 ∨ k = 4) ∧ i < 34 ∧ s.trimBusy i = false then
    (s.fs F.CAL_STAT_DIRTY 1).modCal fun c => { c with since := true, trimNext := tset 0x100 c.trimNext (k * 64 + i) (v % 16) }
  else s.fs F.CAL_STAT_TRIMERR 1

/-- The meaning of CAL_TRIM_WRITE (R389). -/
def execCalTrimWrite (v : Word) (s : State) : Out := .next (calTrimWrite v.toNat s)

/-! ### Units -/

/-- R393: the unit is busy. -/
def State.unitBusy (s : State) (u : Nat) : Bool := decide (1 ≤ s.ust u) && decide (s.ust u ≤ 4)

/-- The slots that a unit's work touches: of its channel, or of its quay (R393, R401). -/
def State.unitSlots (s : State) (x : CalUnit) : List Nat :=
  if x.scale then s.popSlots.filter fun n => decide (quayOf n = x.quay) else s.onChannel x.quay x.chan

/-- The capture span of a unit in frames (R395, R401). -/
def CalUnit.span (x : CalUnit) : Nat := if x.scale then 64 + x.tail else x.period * x.ncyc + x.tail

/-- The settings of a unit's registers for a GO. -/
def State.unitCfg (s : State) (u : Nat) : CalUnit :=
  let scale := s.flagi F.CAL_UCFG0_KIND u
  let i := s.fgi F.CAL_UCFG0_INDEX u
  let settle := s.fgi F.CAL_UCFG1_SETTLE u
  { CalUnit.init with
    scale := scale
    index := if scale then i % 32 else i
    target := s.fgi F.CAL_UCFG0_RANGE u
    idle := s.flagi F.CAL_UCFG0_WSRC u
    amp := s.fgi F.CAL_UCFG1_AMP u
    period := 2 ^ (Nat.min 4 (s.fgi F.CAL_UCFG1_PERIOD u) + 4)
    ncyc := s.fgi F.CAL_UCFG1_NCYC u + 1
    tail := if scale then Nat.max 256 settle else settle % 256
    quay := if scale then i % 32 else quayOf i
    chan := ((s.slot i).mon).getD 0
    holdF := s.frame }

/-- A bundle is PARKED or PARKED-HOLD. -/
def State.parked (s : State) (b : Nat) : Bool := decide ((s.bun b).st = .parked) || decide ((s.bun b).st = .hold)

/-- R46: the hold of `bs` would put more than four bundles of an engine under calibration. -/
def State.tooMany (s : State) (bs : List Nat) : Bool :=
  bs.any fun b =>
    let e := engineOf b
    decide (4 < (s.popBundles.filter fun o => decide (engineOf o = e) && ((s.bun o).calHold.isSome || decide (o ∈ bs))).length)

/-- R393: why a GO with KIND ELEMENT is refused, or 0. -/
def goReason (u : Nat) (x : CalUnit) (s : State) : Nat :=
  let ns := s.unitSlots x
  let bs := (ns.map bundleOf).dedup
  if s.unitBusy u then 1
  else if !s.holds then 2
  else if 12288 ≤ x.index ∨ s.inService x.index = false ∨ (s.slot x.index).mon = none ∨ (s.slot x.index).failed = true then 3
  else if bs.any s.parked then 4
  else if (List.range 4).any (fun v => decide (v ≠ u) && s.unitBusy v && !(s.unit v).scale && decide ((s.unit v).quay = x.quay)
      && decide ((s.unit v).chan = x.chan)) then 5
  else if s.tooMany bs then 6
  else if 1024 < x.span then 7
  else if (s.quay x.quay).rng.isSome ∨ (s.quay x.quay).ts.isSome then 8
  else 0

/-- R401: why a GO with KIND SCALE is refused, or 0: the checks of R393 for the slots of the quay, of which one at least must
pass that of SLOT; LENGTH is judged of the fields that it names (log 18). -/
def scaleReason (u : Nat) (x : CalUnit) (s : State) : Nat :=
  let ns := s.unitSlots x
  let tail := s.fgi F.CAL_UCFG1_SETTLE u % 256
  let out (n : Nat) : Bool := !s.inService n || decide ((s.slot n).mon = none) || (s.slot n).failed
  let inForce := if x.target = 4 then s.flagi F.QY_DRVSTAT_MODEACT x.quay
    else decide (x.target = s.fgi F.QY_RNGSTAT_CUR x.quay)
  if s.unitBusy u then 1
  else if !s.holds then 2
  else if ns.all out = true ∨ 4 < x.target ∨ inForce = true then 3
  else if (ns.map bundleOf).any s.parked then 4
  else if 1024 < x.period * x.ncyc + tail then 7
  else if (s.quay x.quay).rng.isSome ∨ (s.quay x.quay).ts.isSome then 8
  else 0

/-- R394: a bundle comes under calibration hold; the state it leaves is its return state, or the one a pending command asks
for (log 11). -/
def holdForCal (u b : Nat) (s : State) : State :=
  s.modBun b fun x =>
    if x.calHold.isSome then x
    else
      { x with
        calHold := some u
        cmd := .none
        ret := match x.cmd with
          | .opening => .opened
          | .closing => .closed
          | .none => x.st }

/-- A GO accepted: the unit's registers, and its state. -/
def unitStart (u st : Nat) (x : CalUnit) (s : State) : State :=
  (((s.fsi F.CAL_USTAT_REASON u 0).fsi F.CAL_USTAT_RESULT u 0).fsi F.CAL_USTAT_STATE u st).modUnit u fun _ => x

/-- R393, R394: CAL.UCTRL.GO with KIND ELEMENT. -/
def calGoElement (s : State) : State :=
  let u := s.fg F.CAL_USEL_UNIT
  let x := s.unitCfg u
  if x.scale then s
  else
    let r := goReason u x s
    if r ≠ 0 then s.fsi F.CAL_USTAT_REASON u r
    else
      let bs := ((s.unitSlots x).map bundleOf).dedup
      unitStart u 1 { x with held := bs } (bs.foldl (fun s b => holdForCal u b s) s)

/-- The meaning of CAL_GO_ELEMENT (R393). -/
def execCalGoElement (s : State) : Out := .next (calGoElement s)

/-- R401: CAL.UCTRL.GO with KIND SCALE. -/
def calGoScale (s : State) : State :=
  let u := s.fg F.CAL_USEL_UNIT
  let x := s.unitCfg u
  if !x.scale then s
  else
    let r := scaleReason u x s
    if r ≠ 0 then s.fsi F.CAL_USTAT_REASON u r else unitStart u 2 x s

/-- The meaning of CAL_GO_SCALE (R401). -/
def execCalGoScale (s : State) : Out := .next (calGoScale s)

/-! ### Abandonment (R398) -/

/-- R398: CAL.UCTRL.CANCEL. The heater frames already composed carry the sweep still (log 18). -/
def calCancel (s : State) : State := calAbandon (s.fg F.CAL_USEL_UNIT) (add32 s.frame 2) s

/-- The meaning of CAL_CANCEL (R398). -/
def execCalCancel (s : State) : Out := .next (calCancel s)

/-- The last planned frame of an admitted transition. -/
def Tr.lastFrame (t : Tr) : Nat := (t.ended).getD (sub32 (add32 t.n0 (Nat.max 1 t.m * t.seg.len)) 1)

/-- R395: an admitted transition runs in some heater frame from `a` to `b`. -/
def Tr.within (t : Tr) (a b : Nat) : Bool :=
  decide (t.fin ≠ .cancelled) && decide (t.fin ≠ .notRun) && notBefore b t.n0 && notBefore t.lastFrame a

/-- R398: the earliest start of an admitted transition that meets the capture of a unit. -/
def State.cutStart (s : State) (x : CalUnit) (f0 : Nat) : Option Nat :=
  (((s.unitSlots x).flatMap fun n => (s.slot n).trs).filter fun t => t.within f0 x.last).foldl (fun m t =>
    match m with
    | some n => some (if later n t.n0 then t.n0 else n)
    | none => some t.n0) none

/-- R398: what abandons a unit, as the running frame has it. A change of range that the tile does not acknowledge abandons a
scale calibration too (log 18). -/
def abandonTick (u : Nat) (s : State) : State :=
  let x := s.unit u
  if s.ust u < 1 ∨ 3 < s.ust u then s
  else
    let now := add32 s.frame 2
    let lost := if x.scale then (s.unitSlots x).any (fun n => s.parked (bundleOf n)) else x.held.any s.parked
    let s := if (!s.holds || lost) && !x.cut then calAbandon u now s else s
    match x.f0 with
    | some f0 =>
      let c := add32 f0 64
      let noack := x.scale && decide (x.target < 4) && later c s.frame && (s.quay x.quay).rng.isNone
      let s := if noack && !x.cut then calAbandon u now s else s
      match s.cutStart x f0 with
      | some n0 => calAbandon u (sub32 n0 1) s
      | none => s
    | none => s

/-! ### Windows (R395, R401) -/

/-- R395: every frame from `a` on, `n` of them, lies in entries of the active table with QUIET set. -/
def State.quietRun (s : State) (a n : Nat) : Bool :=
  s.tide.run && (List.range n).all fun k =>
    let f := add32 a k
    let gone := match s.tide.pstart with
      | some p => notBefore f p
      | none => false
    match s.tideRead f with
    | some t => !gone && (s.tideTab t.tab).quiet t.entry
    | none => false

/-- R395: F0 = f + 3 is a window of a unit, f being the running frame. -/
def State.windowAt (s : State) (x : CalUnit) : Bool :=
  let f0 := add32 s.frame 3
  let last := sub32 (add32 f0 x.span) 1
  ((s.unitSlots x).all fun n => (s.slot n).trs.all fun t => !t.within f0 last) && (x.idle || s.quietRun f0 x.span)

/-- R395: HOLD ends once every held bundle is OPEN. -/
def holdDone (u : Nat) (s : State) : State :=
  if s.ust u = 1 ∧ (s.unit u).held.all (fun b => decide ((s.bun b).st = .opened)) = true then s.fsi F.CAL_USTAT_STATE u 2
  else s

/-- R401: the change of a scale calibration is announced for frame C. -/
def scaleRequest (u c : Nat) (s : State) : State :=
  let x := s.unit u
  if x.target < 4 then rngGo x.quay ((s.fsi F.QY_RNGREQ_RANGE x.quay x.target).fsi F.QY_RNGFRM_FRAME x.quay c)
  else
    (modeRequest x.quay (s.fsi F.QY_DRVCFG_MODE x.quay 1)).modQuay x.quay fun y =>
      { y with modeNext := y.modeNext.map fun (a : AtFrame) => { a with frame := c } }

/-- R395, R402: the unit fixes its window in scheduler frame F0 − 3, and its capture gets a number. -/
def windowFound (u : Nat) (s : State) : State :=
  let s := holdDone u s
  let x := s.unit u
  if s.ust u = 2 ∧ x.f0 = none ∧ s.windowAt x = true then
    let f0 := add32 s.frame 3
    let last := sub32 (add32 f0 x.span) 1
    let id := (s.cal.capNo + 1) % 65536
    let s := s.modCal fun c => { c with capNo := id, caps := (⟨id, f0, last, false⟩ :: c.caps).take 16 }
    let s := (s.modUnit u fun x => { x with f0 := some f0, last := last, cut := false, wait := [], rows := [] }).fsi F.CAL_UFRM_FRAME u f0
    let s := [F.CAL_UCAP_COUNT, F.CAL_UCAP_ABANDON, F.CAL_UCAP_BANDCHG, F.CAL_UCAP_RNGCHG].foldl (fun s f => s.fsi f u 0)
      (s.fsi F.CAL_UCAP_CAPID u id)
    if x.scale then scaleRequest u (add32 f0 64) s else s
  else s

/-- The meaning of SWEEP_WINDOW_FOUND (R395): the running frame is F0 − 3. -/
def execSweepWindowFound (u : Fin 4) (s : State) : Out := .next (windowFound u.val s)

/-- R395: no window is found in time. -/
def windowTimeout (u : Nat) (s : State) : State :=
  let x := s.unit u
  if (s.ust u = 1 ∨ s.ust u = 2) ∧ x.f0 = none ∧ Nat.max 1 (s.fg F.CAL_ACCCFG_WAITMAX) * 1024 ≤ sub32 s.coming x.holdF then
    ((s.modUnit u fun x => { x with last := s.coming }).fsi F.CAL_USTAT_RESULT u 3).fsi F.CAL_USTAT_STATE u 4
  else s

/-- The meaning of SWEEP_WINDOW_TIMEOUT (R395). -/
def execSweepWindowTimeout (u : Fin 4) (s : State) : Out := .next (windowTimeout u.val s)

/-! ### Sweeps and captures (R396, R397, R401) -/

/-- R396: the triangle. -/
def triangle (period k : Nat) : Rat :=
  let p := k % period
  let q : Rat := ((4 * p : Nat) : Rat) / ((period : Nat) : Rat)
  if 4 * p < period then q else if 4 * p < 3 * period then 2 - q else q - 4

/-- R396: the sweep term, in codes, that takes the place of a slot's pilot in heater frame `h`. -/
def State.sweepTerm (s : State) (slot h : Nat) : Option Rat :=
  (List.range 4).findSome? fun u =>
    let x := s.unit u
    match x.f0 with
    | some f0 =>
      if x.scale = false ∧ x.index = slot ∧ (s.ust u = 2 ∨ s.ust u = 3) ∧ notBefore h f0 = true ∧ sub32 h f0 < x.period * x.ncyc
          ∧ notBefore x.last h = true then
        some (((x.amp * 1024 : Nat) : Rat) * triangle x.period (sub32 h f0))
      else none
    | none => none

/-- R396: at tick F0 the unit runs. -/
def sweepRun (u : Nat) (s : State) : State :=
  match (s.unit u).f0 with
  | some f0 =>
    if s.ust u = 2 ∧ notBefore s.coming f0 = true then
      (s.fsi F.CAL_USTAT_STATE u 3).fsi F.CAL_UCAP_BAND u (s.fg F.SEG_STAT_BAND)
    else s
  | none => s

/-- The meaning of SWEEP_RUN (R396). -/
def execSweepRun (u : Fin 4) (s : State) : Out := .next (sweepRun u.val s)

/-- R399: a change of the range or the timing sets of the quay of a unit that captures, at the coming tick; the change that a
scale calibration makes itself is none (log 18). -/
def rngFlag (u : Nat) (s : State) : State :=
  let x := s.unit u
  let own := match x.f0 with
    | some f0 => x.scale && decide (x.target < 4) && decide (s.coming = add32 f0 64)
    | none => false
  let due := fun (c : Option Change) => match c with
    | some c => c.acked && notBefore s.coming c.frame
    | none => false
  if s.ust u = 3 ∧ notBefore x.last s.coming = true ∧ ((due (s.quay x.quay).rng && !own) || due (s.quay x.quay).ts) = true then
    badCap u (s.fsi F.CAL_UCAP_RNGCHG u 1)
  else s

/-- R401: at tick C the change of a scale calibration is made. -/
def scaleChange (u : Nat) (s : State) : State :=
  let x := s.unit u
  match x.f0 with
  | some f0 => if x.scale = true ∧ s.ust u = 3 ∧ s.coming = add32 f0 64 ∧ x.target < 4 then rngApply x.quay s else s
  | none => s

/-- The meaning of SCALE_CHANGE (R401). -/
def execScaleChange (u : Fin 4) (s : State) : Out := .next (scaleChange u.val s)

/-- CAL.MEMBASE as an address (15). -/
def State.calBase (s : State) : Nat := s.fg F.CAL_MEMBASE_ADDR * 65536

/-- R397: a 64-bit entry of a capture written. -/
def capPut (u k w : Nat) (s : State) : State :=
  (s.memPut (s.calBase + 0x2000 * u + 8 * k) (leBytes 8 w)).fsi F.CAL_UCAP_COUNT u (k + 1)

/-- R397: the code and the valid flag of a channel's sample of heater frame `h`; the code is a free value where no frame
brought one. -/
def State.sampleCode (s : State) (q c h : Nat) : Nat × Bool :=
  match (s.quay q).intake with
  | some i =>
    if i.frame = h % 2 ^ 32 then i.samples.getD c ((Config.freeWord s.fresh).toNat % 65536, false)
    else ((Config.freeWord s.fresh).toNat % 65536, false)
  | none => ((Config.freeWord s.fresh).toNat % 65536, false)

/-- R397: the entries of a sweep whose samples have come by the running frame. -/
def capWrite (u : Nat) (s : State) : State :=
  let x := s.unit u
  match x.f0 with
  | none => s
  | some f0 =>
    let due := x.wait.filter fun w => later s.frame w.frame
    let s := due.foldl (fun s w =>
      let c := s.sampleCode x.quay x.chan w.frame
      capPut u (sub32 w.frame f0) (c.1 % 65536 + b2n c.2 * 2 ^ 16 + unsgn 21 w.v * 2 ^ 18 + b2n w.sweep * 2 ^ 39
        + w.frame % 2 ^ 24 * 2 ^ 40) { s with fresh := s.fresh + 1 }) s
    s.modUnit u fun x => { x with wait := x.wait.filter fun w => !later s.frame w.frame }

/-- R401: the rows of a scale calibration take in heater frame `h`. -/
def scaleRows (h f0 : Nat) (x : CalUnit) (s : State) : List ScaleRow :=
  let rows := if h = f0 then ((s.unitSlots x).filter fun n => s.inService n && decide ((s.bun (bundleOf n)).st = .closed)).map
      fun n => ⟨n, 0, 0, false⟩
    else x.rows
  let k := sub32 h f0
  rows.map fun r =>
    let d := (s.slot r.slot).used
    { r with
      before := if k < 64 then r.before + d.ffLp else r.before
      after := if x.tail ≤ k then r.after + d.ffLp else r.after
      excl := r.excl || d.moving || decide ((s.bun (bundleOf r.slot)).st ≠ .closed) }

/-- R397, R401: heater frame `h`, now modulated, is taken into a unit's capture. -/
def capFrame (u h : Nat) (s : State) : State :=
  let x := s.unit u
  match x.f0 with
  | none => s
  | some f0 =>
    if (s.ust u = 2 ∨ s.ust u = 3) ∧ notBefore h f0 = true ∧ notBefore x.last h = true then
      if x.scale then s.modUnit u fun y => { y with rows := scaleRows h f0 x s }
      else
        s.modUnit u fun y =>
          { y with wait := y.wait ++ [⟨h, (s.slot x.index).used.v, decide (sub32 h f0 < x.period * x.ncyc)⟩] }
    else s

/-- R401: the word of a row: the means over 64 frames in 2^−8 code, to the nearest (log 18), and EXCL. -/
def ScaleRow.word (r : ScaleRow) : Nat :=
  unsgn 32 (rnEven (r.before * 4)) + unsgn 31 (rnEven (r.after * 4)) * 2 ^ 32 + b2n r.excl * 2 ^ 63

/-- R401: the entries of a scale calibration are written at the end of its span. -/
def scaleWrite (u : Nat) (s : State) : State :=
  let x := s.unit u
  (x.rows.foldl (fun s r => s.memPut (s.calBase + 0x2000 * u + 8 * chanOf r.slot) (leBytes 8 r.word)) s).fsi F.CAL_UCAP_COUNT u
    x.rows.length

/-- R400: after the last capture frame, or after an abandonment, the unit releases its hold. -/
def captureEnd (u : Nat) (s : State) : State :=
  let x := s.unit u
  match x.f0 with
  | some f0 =>
    if (s.ust u = 2 ∨ s.ust u = 3) ∧ ((later s.frame x.last = true ∧ x.wait = []) ∨ (x.cut = true ∧ later f0 x.last = true)) then
      let s := if x.scale && !x.cut then scaleWrite u s else s
      (s.fsi F.CAL_USTAT_RESULT u (if x.cut then 2 else 1)).fsi F.CAL_USTAT_STATE u 4
    else s
  | none => s

/-- The meaning of SWEEP_CAPTURE_END (R400). -/
def execSweepCaptureEnd (u : Fin 4) (s : State) : Out := .next (captureEnd u.val s)

/-! ### Release (R400) -/

/-- A bundle leaves the hold of a unit: for its return state, unless another unit holds it or it is parked. -/
def releaseBundle (u b : Nat) (s : State) : State :=
  match (List.range 4).find? fun v => decide (v ≠ u) && s.unitBusy v && decide (b ∈ (s.unit v).held) with
  | some v => s.modBun b fun x => { x with calHold := some v }
  | none =>
    let x := s.bun b
    (if x.st = .opened ∧ x.calHold.isSome = true then setBundle b x.ret s else s).modBun b fun x => { x with calHold := none }

/-- R400: the unit enters DONE. -/
def unitDone (u : Nat) (s : State) : State :=
  ((s.fsi F.CAL_USTAT_STATE u 5).bump F.CAL_SWEEPCNT).raise 29

/-- R400: at the coming frame, the second update frame whose interval begins after the last frame captured, held bundles
return; the unit is done once none is held. A device without authority leaves the bundles to the partner (log 18). -/
def calRelease (u : Nat) (s : State) : State :=
  if s.ust u = 4 then
    let x := s.unit u
    let gone := x.held.filter fun b => !s.holds || s.secondUpdate b x.last
    let s := if s.holds then gone.foldl (fun s b => releaseBundle u b s) s else s
    let left := x.held.filter fun b => decide (b ∉ gone)
    let s := s.modUnit u fun x => { x with held := left, f0 := none }
    if left = [] then unitDone u s else s
  else s

/-- The meaning of CALIBRATION_RELEASE (R400). -/
def execCalibrationRelease (u : Fin 4) (s : State) : Out := .next (calRelease u.val s)

/-- R400: the holds of a partner that a takeover has left are released, counting from the takeover frame. -/
def orphanTick (s : State) : State :=
  let go := s.cal.orphans.filter fun x => s.secondUpdate x.1 x.2
  (go.foldl (fun s x => releaseBundle 4 x.1 s) s).modCal fun c => { c with orphans := c.orphans.filter fun x => decide (x ∉ go) }

/-! ### Acceptance (R402 to R405) -/

/-- R407: a SLOTCAL record: the slot and its value. -/
def slotCalOf (b : List Byte) : Nat × SlotCal :=
  (leAt b 2 2,
    { serial := leAt b 4 4
      tph := leAt b 8 2
      theta := leAt b 12 3
      gsh := leAt b 15 1 % 16
      gain := sgn 16 (leAt b 16 2)
      lin := (List.range 33).map fun j => sgn 24 (leAt b (18 + 3 * j) 3) })

/-- R407: a QUAYCAL record: the quay and its value. -/
def quayCalOf (b : List Byte) : Nat × QuayCal :=
  (leAt b 1 1,
    { serial := leAt b 4 4
      vals := (List.range 4).map fun i => if (leAt b 16 1).testBit i then some (leAt b (8 + 2 * i) 2) else none })

/-- R407: the bytes of a SLOTCAL record. -/
def slotCalBytes (n : Nat) (v : SlotCal) : List Byte :=
  leBytes 1 1 ++ [0] ++ leBytes 2 n ++ leBytes 4 v.serial ++ leBytes 2 v.tph ++ [0, 0] ++ leBytes 3 v.theta ++ leBytes 1 v.gsh
    ++ leBytes 2 (unsgn 16 v.gain) ++ slice (v.lin.flatMap fun x => leBytes 3 (unsgn 24 x)) 0 99 ++ List.replicate 11 0

/-- R407: the bytes of a QUAYCAL record. -/
def quayCalBytes (q : Nat) (v : QuayCal) : List Byte :=
  let valid := v.used.foldl (fun m x => m + 2 ^ x.1) 0
  leBytes 1 2 ++ leBytes 1 q ++ [0, 0] ++ leBytes 4 v.serial ++ slice (v.vals.flatMap fun x => leBytes 2 (x.getD 0)) 0 8
    ++ leBytes 1 valid ++ List.replicate 15 0

/-- The distance between two angles of 24 bits. -/
def angleDist (a b : Nat) : Nat := (sgn 24 (unsgn 24 ((a : Int) - (b : Int)))).natAbs

/-- GAIN × 2^−GSH. -/
def gainOf (gain : Int) (gsh : Nat) : Rat := ((gain : Int) : Rat) / ((2 ^ gsh : Nat) : Rat)

/-- R403: the plausibility of a slot value against its factory value. -/
def slotPlaus (s : State) (n : Nat) (v : SlotCal) : Bool :=
  let f := tget SlotCoef.init s.cal.slotFact n
  let g := gainOf v.gain v.gsh
  let g0 := gainOf f.gain f.gsh
  let r := if g0 < 0 then -g else g
  let a := rabs g0
  (v.lin.zip f.lin).all (fun p => decide ((p.1 - p.2).natAbs ≤ s.fg F.CAL_PLAUS_PLIN * 1024))
    && decide (angleDist v.theta f.theta ≤ s.fg F.CAL_PLAUS_PTHETA * 65536) && decide (a ≤ 2 * r) && decide (r ≤ 2 * a)

/-- R403: a value lies within a part of 256 of another. -/
def withinRatio (p v f : Nat) : Bool := decide (((v : Int) - (f : Int)).natAbs * 256 ≤ p * f)

/-- R403: the plausibility of a quay value against its factory values. -/
def quayPlaus (s : State) (q : Nat) (v : QuayCal) : Bool :=
  let f := tget [] s.cal.quayFact q
  v.used.all fun x =>
    if x.1 < 3 then withinRatio (s.fg F.CAL_PLAUS_PSCALE) x.2 (f.getD x.1 0) && decide (1 ≤ x.2) && decide (x.2 ≤ 0x8000)
    else decide (0x7333 ≤ x.2) && decide (x.2 ≤ 0x8CCC)

/-- R403: two slot values agree. -/
def slotAgree (s : State) (a b : SlotCal) : Bool :=
  let g := gainOf a.gain a.gsh
  let h := gainOf b.gain b.gsh
  (a.lin.zip b.lin).all (fun p => decide ((p.1 - p.2).natAbs ≤ s.fg F.CAL_TOL_LINTOL * 1024))
    && decide (angleDist a.theta b.theta ≤ s.fg F.CAL_TOL_THTOL * 4096)
    && decide (rabs (g - h) * 256 ≤ ((s.fg F.CAL_TOL_GTOL : Nat) : Rat) * rabs h)

/-- R403: two quay values agree: the same quantities, each within the tolerance. -/
def quayAgree (s : State) (a b : QuayCal) : Bool :=
  (a.vals.zip b.vals).all fun p =>
    match p.1, p.2 with
    | some x, some y => withinRatio (s.fg F.CAL_TOL_GTOL) x y
    | none, none => true
    | _, _ => false

/-- The mean of two whole numbers, to the nearest, ties to even. -/
def meanI (a b : Int) : Int := rnEven (((a + b : Int) : Rat) / 2)

/-- R403: the mean of two slot values. The gain takes the shift of the newer (log 19). -/
def slotMean (a b : SlotCal) : SlotCal :=
  let d := sgn 24 (unsgn 24 ((a.theta : Int) - (b.theta : Int)))
  { a with
    lin := (a.lin.zip b.lin).map fun p => meanI p.1 p.2
    gain := satS 16 (rnEven ((gainOf a.gain a.gsh + gainOf b.gain b.gsh) / 2 * ((2 ^ a.gsh : Nat) : Rat)))
    theta := unsgn 24 (meanI ((b.theta : Int) + d) b.theta) }

/-- R403: the mean of two quay values. -/
def quayMean (a b : QuayCal) : QuayCal :=
  { a with
    vals := (a.vals.zip b.vals).map fun p =>
      match p.1, p.2 with
      | some x, some y => some (meanI x y).toNat
      | x, _ => x }

/-- R404: the coefficients of a bundle with the value of a slot. -/
def withSlotCal (c : BunCoef) (n : Nat) (v : SlotCal) : BunCoef :=
  { c with
    slots := setAt c.slots (n % 8)
      { c.slots.getD (n % 8) SlotCoef.init with lin := v.lin, gain := v.gain, gsh := v.gsh, theta := v.theta } }

/-- CAL.SUBRES. -/
def subRes (result reason : Nat) (disagreed : Bool) (s : State) : State :=
  ((s.fs F.CAL_SUBRES_RESULT result).fs F.CAL_SUBRES_REASON reason).fb F.CAL_SUBRES_DISAGREED disagreed

/-- A candidate rejected (R403). -/
def subReject (reason : Nat) (s : State) : State := (subRes 3 reason false s).bump F.CAL_REJCNT

/-- A candidate accepted (R403, R404). -/
def subAccept (s : State) : State :=
  (((subRes 1 0 false s).bump F.CAL_ACCCNT).fs F.CAL_STAT_DIRTY 1).modCal fun c => { c with since := true }

/-- R404, R405: an accepted slot value is committed as coefficients, on both devices of a pair. -/
def acceptSlot (n : Nat) (v : SlotCal) (s : State) : State :=
  let b := bundleOf n
  let c := withSlotCal (s.coefNext b) n v
  let s := (subAccept s).modCal fun x => { x with slotUser := tset none x.slotUser n (some v), slotPend := tdel x.slotPend n }
  if s.mirrors && s.mirUp then
    let at' := add32 s.frame 2
    let s := streamPush (.config s.frame (.slotCal n v)) s
    ((ackedPush (.object ⟨at', .coef b false c, []⟩ 256 0 CEntry.init) s).2).modCal fun x => { x with due := x.due ++ [⟨at', b, c⟩] }
  else noteLoaded (.coef b false c) [] (commitCoefs b c s)

/-- R405: the coefficients of accepted candidates of a pair, in frame `s.frame`, where the partner installs them too. -/
def dueTick (s : State) : State :=
  let go := s.cal.due.filter fun x => notBefore s.frame x.frame
  (go.foldl (fun s x => noteLoaded (.coef x.bundle false x.coef) [] (commitCoefs x.bundle x.coef s)) s).modCal fun c =>
    { c with due := c.due.filter fun x => !notBefore s.frame x.frame }

/-- A quay value laid over an earlier one of the same tile. -/
def QuayCal.onto (v : QuayCal) (o : Option QuayCal) : QuayCal :=
  match o with
  | some w => if w.serial = v.serial then
      { v with vals := (v.vals.zip w.vals).map fun p => match p.1 with
        | some x => some x
        | none => p.2 } else v
  | none => v

/-- R404, R405: accepted quay values are written, on both devices of a pair. -/
def acceptQuay (q : Nat) (v : QuayCal) (s : State) : State :=
  let u := v.onto (tget none s.cal.quayUser q)
  let s := (subAccept s).modCal fun x => { x with quayUser := tset none x.quayUser q (some u), quayPend := tdel x.quayPend q }
  (putQuayCal q v s).when s.mirrors (streamPush (.config s.frame (.quayCal q u)))

/-- R403: a candidate that passes is judged by the mode of its quay: accepted, accepted as the mean with the pending one, or
pending. The result is the value accepted, and whether a pending candidate disagreed. -/
def judgeCand {α : Type} (startup : Bool) (pend : Option (Pend α)) (agree : α → α → Bool) (mean : α → α → α) (minsep : Nat)
    (cap : Capture) (v : α) : Option α × Bool :=
  if startup then (some v, false)
  else
    match pend with
    | some p =>
      if agree v p.val then
        (if notBefore cap.first (add32 p.last minsep) then (some (mean v p.val), false) else (none, false))
      else (none, true)
    | none => (none, false)

/-- A candidate becomes the pending one (R403). -/
def subPend (dis : Bool) (s : State) : State := (subRes 2 0 dis s).when dis fun s => s.bump F.CAL_DISAGREE

/-- R402, R403: CAL.SUBMIT.GO. -/
def calSubmit (s : State) : State :=
  let b := s.memBytes (s.calBase + 0x8000) 128
  let typ := leAt b 0 1
  let minsep := s.fg F.CAL_ACCCFG_MINSEP
  if !s.holds then subReject 3 s
  else
    match s.cal.caps.find? fun c => decide (c.id = s.fg F.CAL_SUBMIT_CAPID) && !c.bad with
    | none => subReject 1 s
    | some cap =>
      if typ = 1 then
        let x := slotCalOf b
        let q := quayOf x.1
        if 12288 ≤ x.1 ∨ (s.slot x.1).pop = false ∨ x.2.serial ≠ s.fgi F.QY_TILEID_SERIAL q ∨ slotPlaus s x.1 x.2 = false then
          subReject 2 s
        else
          let r := judgeCand (s.bit F.CAL_QSTART_QUAY 0 q) (tget none s.cal.slotPend x.1) (slotAgree s) slotMean minsep cap x.2
          match r.1 with
          | some v => acceptSlot x.1 v s
          | none => subPend r.2 (s.modCal fun c =>
              { c with slotPend := tset none c.slotPend x.1 (some ⟨cap.first, cap.last, x.2⟩) })
      else if typ = 2 then
        let x := quayCalOf b
        if 32 ≤ x.1 ∨ x.2.serial ≠ s.fgi F.QY_TILEID_SERIAL x.1 ∨ quayPlaus s x.1 x.2 = false then subReject 2 s
        else
          let r := judgeCand (s.bit F.CAL_QSTART_QUAY 0 x.1) (tget none s.cal.quayPend x.1) (quayAgree s) quayMean minsep cap x.2
          match r.1 with
          | some v => acceptQuay x.1 v s
          | none => subPend r.2 (s.modCal fun c =>
              { c with quayPend := tset none c.quayPend x.1 (some ⟨cap.first, cap.last, x.2⟩) })
      else subReject 2 s

/-- The meaning of CAL_SUBMIT (R403). -/
def execCalSubmit (s : State) : Out := .next (calSubmit s)

/-! ### Values in force (R390, R391) -/

/-- R391: the value of an owner for the tile that a quay has: a user value accepted, or one of the journal that passes. -/
def userValue {α : Type} (acc jrnl : Option α) (serial : α → Nat) (ok : α → Bool) (ser : Nat) : Option α × Bool :=
  match acc with
  | some v => if serial v = ser then (some v, false) else
      (match jrnl with
        | some w => if serial w = ser then (if ok w then (some w, false) else (none, true)) else (none, false)
        | none => (none, false))
  | none =>
    match jrnl with
    | some w => if serial w = ser then (if ok w then (some w, false) else (none, true)) else (none, false)
    | none => (none, false)

/-- R391: the values of slot `n` at the end of DISCOVER. -/
def discoverSlot (ser n : Nat) (s : State) : State :=
  let r := userValue (tget none s.cal.slotUser n) (tget none s.cal.slotJrnl n) (fun v => v.serial) (slotPlaus s n) ser
  let s := s.when r.2 fun s => s.bump F.CAL_REJCNT
  let s := match r.1 with
    | some v => s.modCal fun c => { c with slotUser := tset none c.slotUser n (some v) }
    | none => s
  let f := tget SlotCoef.init s.cal.slotFact n
  let v : SlotCal := r.1.getD ⟨ser, 0, f.lin, f.gain, f.gsh, f.theta⟩
  let c := s.coefNext (bundleOf n)
  if withSlotCal c n v = c then s else commitCoefs (bundleOf n) (withSlotCal c n v) s

/-- R391: the values of quay `q` at the end of DISCOVER. -/
def discoverQuay (q : Nat) (s : State) : State :=
  let ser := s.fgi F.QY_TILEID_SERIAL q
  let r := userValue (tget none s.cal.quayUser q) (tget none s.cal.quayJrnl q) (fun v => v.serial) (quayPlaus s q) ser
  let s := s.when r.2 fun s => s.bump F.CAL_REJCNT
  let s := match r.1 with
    | some v => s.modCal fun c => { c with quayUser := tset none c.quayUser q (some v) }
    | none => s
  let f := tget [] s.cal.quayFact q
  let full : QuayCal := ⟨ser, (List.range 4).map fun i => f[i]?⟩
  let s := putQuayCal q (match r.1 with
    | some v => { full with vals := (v.vals.zip full.vals).map fun p => match p.1 with
        | some x => some x
        | none => p.2 }
    | none => full) s
  let s := (s.popSlots.filter fun n => decide (quayOf n = q)).foldl (fun s n => discoverSlot ser n s) s
  if s.flagi F.QY_LNKSTAT_NEWTILE q then
    (s.setBit F.CAL_QSTART_QUAY 0 q true).modCal fun c => { c with startEnd := tdel c.startEnd q }
  else s

/-- R391: the quays that have ended DISCOVER take their values. -/
def discTick (s : State) : State :=
  (s.cal.disc.foldl (fun s q => discoverQuay q s) s).modCal fun c => { c with disc := [] }

/-- The meaning of DISCOVER_COMPLETE (R247, R391): the quay's values are written as DISCOVER ends. -/
def execDiscoverComplete (q : Fin 32) (s : State) : Out := .next (discTick (discoverComplete q.val s))

/-- R403: start-up acceptance ends STARTWIN × 1,024 frames after a quay's first authoritative frame. -/
def startTick (s : State) : State :=
  (List.range 32).foldl (fun s q =>
    if s.bit F.CAL_QSTART_QUAY 0 q then
      match tget none s.cal.startEnd q, (s.lane q).authFrom with
      | some e, _ =>
        if notBefore s.coming e then
          (s.setBit F.CAL_QSTART_QUAY 0 q false).modCal fun c => { c with startEnd := tdel c.startEnd q }
        else s
      | none, some a =>
        s.modCal fun c => { c with startEnd := tset none c.startEnd q (some (add32 a (s.fg F.CAL_ACCCFG_STARTWIN * 1024))) }
      | none, none => s
    else s) s

/-! ### The journal (R406 to R409) -/

/-- R407: a TRIM record of lane `i`, if a trim of it is a user value. -/
def trimRecord (s : State) (i : Nat) : Option (List Byte) :=
  let a := tget (0, false) s.cal.trims (3 * 64 + i)
  let b := tget (0, false) s.cal.trims (4 * 64 + i)
  if a.2 || b.2 then
    some (leBytes 1 3 ++ leBytes 1 i ++ leBytes 1 a.1 ++ leBytes 1 b.1 ++ leBytes 1 (b2n a.2 + 2 * b2n b.2) ++ List.replicate 27 0)
  else none

/-- R407, R408: the records of every user value in force. -/
def journalRecords (s : State) : List (List Byte) :=
  (s.cal.slotUser.filterMap fun e => match e.2 with
    | some v => if v.serial = s.fgi F.QY_TILEID_SERIAL (quayOf e.1) then some (slotCalBytes e.1 v) else none
    | none => none)
  ++ (s.cal.quayUser.filterMap fun e => match e.2 with
    | some v => if v.serial = s.fgi F.QY_TILEID_SERIAL e.1 then some (quayCalBytes e.1 v) else none
    | none => none)
  ++ ((List.range 34).filterMap fun i => trimRecord s i)

/-- R406: header and body of a journal slot. -/
def journalBytes (s : State) (seq : Nat) : List Byte :=
  let recs := journalRecords s
  let body := recs.flatMap fun r => r
  let head := leBytes 4 0x4A4C5A4B ++ leBytes 4 seq ++ leBytes 4 body.length ++ leBytes 4 recs.length ++ slice s.mir.digest 0 32
    ++ leBytes 8 (s.otpNum 0 8) ++ leBytes 4 (crc32c body)
  head ++ leBytes 4 (crc32c head) ++ body

/-- R406: the marker of a journal slot. -/
def markBytes (seq : Nat) : List Byte :=
  let m := leBytes 4 0xA55A3CC3 ++ leBytes 4 seq
  m ++ leBytes 4 (crc32c m) ++ List.replicate 20 0

/-- The base of a journal region: 1 A, 2 B. -/
def State.journalBase (s : State) (r : Nat) : Nat := if r = 2 then s.boot.journals.2 else s.boot.journals.1

/-- R408: a store starts: a snapshot, then the erasure of the region, the programming of header and body, and of the marker. -/
def storeStart (s : State) : State :=
  let r := if s.cal.newest = 1 then 2 else 1
  let seq := if s.cal.newest = 0 then 1 else add32 (s.fg F.CAL_JSEQ_SEQ) 1
  let hb := journalBytes s seq
  let base := s.journalBase r
  let s := (s.fs F.CAL_STAT_STORING 1).modCal fun c => { c with since := false, store := some ⟨hb ++ markBytes seq, r, seq⟩ }
  flashIssue (s.modBoot fun b =>
    { b with ops := b.ops ++ [⟨2, base, 0, 0x200000, true⟩, ⟨1, base, 0, hb.length, true⟩, ⟨1, base + 0x1FFFE0, hb.length, 32, true⟩] })

/-- R408: CAL.CTRL.STORE. -/
def calStore (s : State) : State := if s.flag F.CAL_STAT_STORING then s.fs F.CAL_STAT_STPEND 1 else storeStart s

/-- The meaning of CAL_STORE (R408). -/
def execCalStore (s : State) : Out := .next (calStore s)

/-- R408: the store ends with a result, whatever that is; one that is recorded starts. -/
def storeEnd (res : Nat) (s : State) : State :=
  let s := (s.fs F.CAL_STAT_SRES res).fs F.CAL_STAT_STORING 0
  let s := (dropOps (fun o => !o.store) s).modBoot fun b => { b with cur := b.cur.filter fun o => !o.store }
  let s := if res = 1 then
      (match s.cal.store with
        | some x => (s.fs F.CAL_JSEQ_SEQ x.seq).modCal fun c => { c with newest := x.region }
        | none => s).bump F.CAL_STORECNT
    else s.bump F.CAL_STOREFAIL
  let s := (s.when (!s.cal.since) fun s => s.fs F.CAL_STAT_DIRTY 0).modCal fun c => { c with store := none }
  flashIssue (if s.flag F.CAL_STAT_STPEND then storeStart (s.fs F.CAL_STAT_STPEND 0) else s)

/-- The store operations not completed yet. -/
def State.storeOps (s : State) : Nat := s.boot.ops.countP (fun o => o.store) + (s.boot.cur.toList.countP fun o => o.store)

/-- R408: the store ends: with its marker programmed, or as its header and body do not read back. -/
def storeComplete (verified : Bool) (s : State) : State :=
  if s.flag F.CAL_STAT_STORING then
    if verified then (if s.storeOps = 0 then storeEnd 1 s else s)
    else (if s.storeOps ≤ 1 then storeEnd 2 s else s)
  else s

/-- The meaning of JOURNAL_STORE_COMPLETE (R408): `verified` says that header and body read back. -/
def execJournalStoreComplete (verified : Bool) (s : State) : Out := .next (storeComplete verified s)

/-- R434: the flash stays busy too long: the operation ends with error TIMEOUT, a store with a flash error. -/
def flashTimeout (s : State) : State :=
  match s.boot.cur with
  | none => s
  | some o =>
    if o.kind = 0 then s
    else if o.store then storeEnd 3 s
    else flashIssue (flashErr 3 (s.modBoot fun b => { b with cur := none }))

/-- The meaning of FLASH_OP_TIMEOUT (R434). -/
def execFlashOpTimeout (s : State) : Out := .next (flashTimeout s)

/-- R409: the SEQ, digest and body of a journal region, if its slot is valid. -/
def journalSlot (s : State) (base : Nat) : Option (Nat × List Byte × List Byte) :=
  let h := s.flashBytes base 64
  let m := s.flashBytes (base + 0x1FFFE0) 12
  let len := leAt h 8 4
  if leAt h 0 4 = 0x4A4C5A4B ∧ crc32c (h.take 60) = leAt h 60 4 ∧ len ≤ 0x1FFF80 ∧ len % 32 = 0 ∧ leAt h 0x30 8 = s.otpNum 0 8
      ∧ leAt m 0 4 = 0xA55A3CC3 ∧ leAt m 4 4 = leAt h 4 4 ∧ crc32c (m.take 8) = leAt m 8 4 then
    let body := s.flashBytes (base + 64) len
    if crc32c body = leAt h 0x38 4 then some (leAt h 4 4, slice h 0x10 32, body) else none
  else none

/-- R407: the records of a body. -/
def journalRead : Nat → List Byte → State → State
  | 0, _, s => s
  | n + 1, b, s =>
    if b = [] then s
    else
      match leAt b 0 1 with
      | 1 =>
        let x := slotCalOf b
        journalRead n (b.drop 128) (s.modCal fun c => { c with slotJrnl := tset none c.slotJrnl x.1 (some x.2) })
      | 2 =>
        let x := quayCalOf b
        journalRead n (b.drop 32) (s.modCal fun c => { c with quayJrnl := tset none c.quayJrnl x.1 (some x.2) })
      | 3 =>
        let i := leAt b 1 1
        let v := leAt b 4 1
        let s := if i < 34 then
            (s.when (v.testBit 0) (setTrim 3 i (leAt b 2 1))).when (v.testBit 1) (setTrim 4 i (leAt b 3 1))
          else s
        journalRead n (b.drop 32) s
      | _ => s

/-- R391, R409: the winning slot of the journal at BOOT; its values count if its DIGEST is the image's. -/
def journalLoad (s : State) : State :=
  let a := journalSlot s s.boot.journals.1
  let b := journalSlot s s.boot.journals.2
  let win := match a, b with
    | some x, some y => if later y.1 x.1 then some (2, y) else some (1, x)
    | some x, none => some (1, x)
    | none, some y => some (2, y)
    | none, none => none
  match win with
  | none => s
  | some (r, x) =>
    let s := ((s.fs F.CAL_JSEQ_SEQ x.1).fs F.CAL_STAT_JSLOT r).modCal fun c => { c with newest := r }
    if x.2.1 = s.mir.digest then journalRead (x.2.2.length / 32) x.2.2 s else s

/-- R4: CAL.CTRL.STATCLR. -/
def calStatclr (s : State) : State :=
  s.fresetAll [F.CAL_SWEEPCNT, F.CAL_ABANDCNT, F.CAL_ACCCNT, F.CAL_REJCNT, F.CAL_DISAGREE, F.CAL_STORECNT, F.CAL_STOREFAIL]

/-- The meaning of CAL_STATCLR (R4). -/
def execCalStatclr (s : State) : Out := .next (calStatclr s)

/-! ### The tick -/

/-- What calibration does at the coming tick, before the frame's work. -/
def calBefore (s : State) : State :=
  let s := startTick (orphanTick s)
  (List.range 4).foldl (fun s u => scaleChange u (rngFlag u (sweepRun u (calRelease u (windowTimeout u s))))) s

/-- What calibration does in the running frame once its admissions are made, and its heater frame h has been modulated. -/
def calAfter (h : Nat) (s : State) : State :=
  (List.range 4).foldl (fun s u => windowFound u (captureEnd u (capFrame u h (capWrite u (abandonTick u s))))) s

end Sys2Proof.Machine
end

