-- ==== Sys2Proof/Machine/Icu.lean ====
section
/-! DEFINITION. The interrupt controller and the control of the sequencers (17): events and clears, starts and halts, faults,
watchdogs and semaphores. -/
namespace Sys2Proof.Machine

/-! ### The interrupt controller (R449, R456) -/

/-- The bits of a word that are set, ascending. -/
def onesOf (v : Nat) : List Nat := (List.range 32).filter fun t => v.testBit t

/-- R449: writes of 1 to bits of ICU.SETw are events. -/
def icuSet (w v : Nat) (s : State) : State := (onesOf v).foldl (fun s t => s.raise (32 * w + t)) s

/-- The meaning of ICU_SET (R449). -/
def execIcuSet (w : Fin 8) (v : Word) (s : State) : Out := .next (icuSet w.val v.toNat s)

/-- R502: source 138 is raised while the UART needs service. -/
def uartLevel (s : State) : State :=
  let rx := Nat.max 1 (s.fg F.SBI_UCFG_RXTH)
  let want := decide (rx ≤ s.port.sbi.rx.length) || decide (s.port.sbi.tx.length < s.fg F.SBI_UCFG_TXTH)
  if s.up && s.flag F.SBI_UCFG_EN && want && !s.pend 138 then s.raise 138 else s

/-- R449: writes of 1 to bits of ICU.PENDw clear them. -/
def icuPendClear (w v : Nat) (s : State) : State :=
  uartLevel ((onesOf v).foldl (fun s t => s.setPend (32 * w + t) false) s)

/-- The meaning of ICU_PEND_CLEAR (R456). -/
def execIcuPendClear (w : Fin 8) (v : Word) (s : State) : Out := .next (icuPendClear w.val v.toNat s)

/-- R449: writes of 1 to bits of ICU.OVRw clear them. -/
def icuOvrClear (w v : Nat) (s : State) : State := (onesOf v).foldl (fun s t => s.setBit F.ICU_OVRw_SRC w t false) s

/-- The meaning of ICU_OVR_CLEAR (R449). -/
def execIcuOvrClear (w : Fin 8) (v : Word) (s : State) : Out := .next (icuOvrClear w.val v.toNat s)

/-- R4: ICU.CTRL.STATCLR. -/
def icuStatclr (s : State) : State := s.fresetAll [F.ICU_SPUR, F.ICU_LOSTCNT]

/-- The meaning of ICU_STATCLR (R4). -/
def execIcuStatclr (s : State) : Out := .next (icuStatclr s)

/-! ### Starts and halts (R446) -/

/-- R446: the state that a start gives a sequencer. -/
def Seq.started (q : Seq) (entry : Nat) : Seq :=
  { q with
    pc := entry
    im := true
    cl := 16
    icause := 0x100
    vbase := 0
    stack := []
    causes := []
    cycle := 0
    st := .run
    wake := false
    entry := false
    busy := false
    haltReq := false
    wdCount := 0 }

/-- R446, R515: a sequencer starts. Every start counts as a start of the firmware, after which the report's deltas are 0
(log 56). -/
def seqStart (n : Nat) (s : State) : State :=
  (s.setSq n ((s.sq n).started (4 * s.fgi F.TSQ_ENTRYn_ENTRY n))).modPort fun p =>
    { p with health := { p.health with started := false } }

/-- R446, R467: TSQ.CTLn.START, a reset of the sequencer's port of the matrix. -/
def tsqStart (n : Nat) (s : State) : State :=
  match s.clocked, (s.sq n).st with
  | true, .halted => seqStart n (s.resetMaster n)
  | true, .fault => seqStart n (s.resetMaster n)
  | _, _ => s

/-- The meaning of TSQ_START (R446). -/
def execTsqStart (n : Fin 4) (s : State) : Out := .next (tsqStart n.val s)

/-- R446: a sequencer halts after the instruction, or the entry sequence, in progress; one in WAIT at once. -/
def tsqHalt (n : Nat) (s : State) : State :=
  let q := s.sq n
  match q.st with
  | .run => s.setSq n (if q.entry || q.busy then { q with haltReq := true } else { q with st := .halted, wake := false })
  | .wait => s.setSq n { q with st := .halted, wake := false, entry := false }
  | _ => s

/-- The meaning of TSQ_HALT (R446). -/
def execTsqHalt (n : Fin 4) (s : State) : Out := .next (tsqHalt n.val s)

/-- R446: a sequencer enters FAULT: `f` is the flag of TSQ.FSTATn, and for ALIGN the address is recorded. -/
def seqFault (n : Nat) (f : Fld) (addr : Option Nat) (s : State) : State :=
  let s := (s.fsi f n 1).fsi F.TSQ_FPCn_VALUE n (s.sq n).pc
  let s := match addr with
    | some a => s.fsi F.TSQ_FADDRn_VALUE n a
    | none => s
  let s := s.setSq n { s.sq n with st := .fault, entry := false }
  let stat := s.fgi F.TSQ_FSTATn_ILLEGAL n + 2 * s.fgi F.TSQ_FSTATn_ALIGN n + 4 * s.fgi F.TSQ_FSTATn_BUSERR n
    + 8 * s.fgi F.TSQ_FSTATn_WDOG n
  (s.raise (144 + n)).logFault 0x9001 n stat

/-- R440: an access of a sequencer ends with an error response. -/
def seqBusErr (n addr pc : Nat) (s : State) : State :=
  (((s.fsi F.TSQ_FSTATn_BUSERR n 1).fsi F.TSQ_FADDRn_VALUE n addr).fsi F.TSQ_FPCn_VALUE n pc).raise (144 + n)

/-! ### Watchdogs and semaphores (R447, R448) -/

/-- R447: TSQ.WDKICKn.KICK. -/
def wdKick (n : Nat) (s : State) : State := s.setSq n { s.sq n with wdCount := 0 }

/-- The meaning of WDKICK (R447). -/
def execWdkick (n : Fin 4) (s : State) : Out := .next (wdKick n.val s)

/-- R447: the count has reached PERIOD. -/
def wdExpiry (n : Nat) (s : State) : State :=
  let p := s.fgi F.TSQ_WDCFGn_PERIOD n
  let live := match (s.sq n).st with
    | .run | .wait => true
    | _ => false
  if live = true ∧ p ≠ 0 ∧ p ≤ (s.sq n).wdCount then
    let act := s.fgi F.TSQ_WDCFGn_ACTION n
    let s := (wdKick n ((s.fsi F.TSQ_FSTATn_WDOG n 1).raise (148 + n))).logFault 0x9002 n act
    if act = 1 then tsqHalt n s else s
  else s

/-- The meaning of WATCHDOG_EXPIRY (R447). -/
def execWatchdogExpiry (n : Fin 4) (s : State) : Out := .next (wdExpiry n.val s)

/-- R447: the watchdogs count a frame tick. The count runs in RUN and WAIT only. -/
def wdTick (s : State) : State :=
  (List.range 4).foldl (fun s n =>
    match (s.sq n).st with
    | .run | .wait => wdExpiry n (s.setSq n { s.sq n with wdCount := (s.sq n).wdCount + 1 })
    | _ => s) s

/-- TSQ.LOADn at the end of a window of 1,024 frames (17). -/
def loadTick (s : State) : State :=
  if s.frame % 1024 = 0 then
    (List.range 4).foldl (fun s n =>
      (s.fsi F.TSQ_LOADn_RUN n (Nat.min 65535 ((s.sq n).runCycles / 16))).setSq n { s.sq n with runCycles := 0 }) s
  else s

/-- R448: TSQ.SEMk.ACQ written by a master; M0 to M3 are the sequencers. -/
def semAcq (k master : Nat) (s : State) : State :=
  if master < 4 ∧ s.fgi F.TSQ_SEMk_OWNER k = 7 then s.fsi F.TSQ_SEMk_OWNER k master else s

/-- The meaning of SEM_ACQ (R448). -/
def execSemAcq (k : Fin 16) (master : Fin 11) (s : State) : Out := .next (semAcq k.val master.val s)

/-- R448: TSQ.SEMk.REL written by a master. -/
def semRel (k master : Nat) (s : State) : State :=
  if master < 4 ∧ s.fgi F.TSQ_SEMk_OWNER k = master then s.fsi F.TSQ_SEMk_OWNER k 7 else s

/-- The meaning of SEM_REL (R448). -/
def execSemRel (k : Fin 16) (master : Fin 11) (s : State) : Out := .next (semRel k.val master.val s)

end Sys2Proof.Machine
end

