-- ==== Sys2Proof/Machine/Net.lean ====
section
/-! DEFINITION. The Ethernet ports (19): links, the checks of a received frame, ARP, neighbour discovery and echo answers,
announcements, PTP buffers and timestamps, and the order of transmission. -/
namespace Sys2Proof.Machine

/-! ### Addresses (R486) -/

/-- The MAC address of a port. -/
def State.mac (s : State) (p : Nat) : Nat := s.fgi F.NET_MACHI_MAC p * 2 ^ 32 + s.fgi F.NET_MACLO_MAC p

/-- Word `w` of entry `e` of the address table of a port. -/
def State.entryWord (s : State) (p e w : Nat) : Nat := s.fgi F.NET_ADATAw_WORD ((p * 4 + e) * 4 + w)

/-- R486: the address that entry 0 to 3 of a port holds; 4 stands for the link-local address, whose interface identifier is
the modified EUI-64 of the MAC. -/
def State.entryAddr (s : State) (p k : Nat) : Nat :=
  if k = 4 then
    let m := s.mac p ^^^ 0x020000000000
    0xFE80 * 2 ^ 112 + m / 2 ^ 24 * 2 ^ 40 + 0xFFFE * 2 ^ 24 + m % 2 ^ 24
  else if k % 2 = 0 then s.entryWord p k 0
  else (List.range 4).foldl (fun v w => v * 2 ^ 32 + s.entryWord p k w) 0

/-- The entries of a port that hold addresses of an IP version. -/
def versionKeys (v6 : Bool) : List Nat := if v6 then [1, 3, 4] else [0, 2]

/-- R486: the own address of a port that an IP address is. -/
def State.ownKey (s : State) (p : Nat) (v6 : Bool) (ip : Nat) : Option Nat :=
  (versionKeys v6).find? fun k => s.ownInUse p k && decide (s.entryAddr p k = ip)

/-- R487: an address of a valid entry of the table. -/
def State.entryClaimed (s : State) (p : Nat) (v6 : Bool) (ip : Nat) : Bool :=
  [0, 1, 2, 3].any fun k => decide (k ∈ versionKeys v6) && s.bit F.NET_ACFG_VALID p k && decide (s.entryAddr p k = ip)

/-! ### Sending (R288, R494, R495) -/

/-- R485: the tag of the frames that a port sends. -/
def State.vlanTag (s : State) (p : Nat) : List Byte :=
  beBytes 2 0x8100 ++ beBytes 2 (s.fgi F.NET_VLAN_PCP p * 8192 + s.fgi F.NET_VLAN_VID p)

/-- R333: domain slot `d` is in use on a port. -/
def State.ptpOn (s : State) (d p : Nat) : Bool := s.bit F.TIM_PTPCFGd_PORTS d p

/-- R333: the slot that a PTP message matches by transport, port and domain. -/
def State.ptpSlot (s : State) (p transport : Nat) (msg : List Byte) : Option Nat :=
  [0, 1].find? fun d => s.ptpOn d p && decide (s.fgi F.TIM_PTPCFGd_TRANSPORT d = transport)
    && decide (s.fgi F.TIM_PTPCFGd_DOMAIN d = beAt msg 4 1)

/-- R485, R494: a frame of the port's own: header, tag while EN is set, payload, padded to 60 bytes before the FCS. -/
def ethBytes (s : State) (p dst etype : Nat) (payload : List Byte) : List Byte :=
  let tag := if s.flagi F.NET_VLAN_EN p then s.vlanTag p else []
  let b := beBytes 6 dst ++ beBytes 6 (s.mac p) ++ tag ++ beBytes 2 etype ++ payload
  b ++ List.replicate (60 - b.length) 0

/-- The sum of the 16-bit words of a header or message, folded to 16 bits with end-around carry. -/
def onesSum (b : List Byte) : Nat :=
  let rec go : List Byte → Nat → Nat
    | x :: y :: r, t => go r (t + x.toNat * 256 + y.toNat)
    | [x], t => t + x.toNat * 256
    | [], t => t
  let t := go b 0
  let t := t % 65536 + t / 65536
  let t := t % 65536 + t / 65536
  t % 65536 + t / 65536

/-- An IPv4 packet without options, of identification 0 and with no fragmentation flag set (log 67). -/
def ipv4Bytes (dscp proto src dst : Nat) (body : List Byte) : List Byte :=
  let head := fun (c : Nat) => beBytes 2 (0x4500 + 4 * dscp) ++ beBytes 2 (20 + body.length) ++ beBytes 4 0 ++ beBytes 1 64
    ++ beBytes 1 proto ++ beBytes 2 c ++ beBytes 4 src ++ beBytes 4 dst
  head (65535 - onesSum (head 0)) ++ body

/-- The pseudo-header of a checksum. -/
def pseudo (v6 : Bool) (src dst proto len : Nat) : List Byte :=
  if v6 then beBytes 16 src ++ beBytes 16 dst ++ beBytes 4 len ++ beBytes 4 proto
  else beBytes 4 src ++ beBytes 4 dst ++ beBytes 2 proto ++ beBytes 2 len

/-- An IPv6 packet that carries an ICMPv6 message, its checksum (bytes 2 and 3) filled in. -/
def icmp6Bytes (hops src dst : Nat) (m : List Byte) : List Byte :=
  let c := 65535 - onesSum (pseudo true src dst 58 m.length ++ m)
  beBytes 4 0x60000000 ++ beBytes 2 m.length ++ beBytes 1 58 ++ beBytes 1 hops ++ beBytes 16 src ++ beBytes 16 dst
    ++ m.take 2 ++ beBytes 2 c ++ m.drop 4

/-- A UDP datagram with its checksum, which is sent as all ones where it comes to zero. -/
def udpBytes (v6 : Bool) (src dst sport dport : Nat) (data : List Byte) : List Byte :=
  let m := fun (c : Nat) => beBytes 2 sport ++ beBytes 2 dport ++ beBytes 2 (8 + data.length) ++ beBytes 2 c ++ data
  let c := 65535 - onesSum (pseudo v6 src dst 17 (8 + data.length) ++ m 0)
  m (if c = 0 then 65535 else c)

/-- R288: the frame of a Penvar datagram: from the port, address and UDP port of the message that it answers to the source
of that message, with the DSCP of PVE.PORTCFG and the hop limit 64. -/
def State.penFrame (s : State) (d : PenOut) : List Byte :=
  let p := d.peer
  let src := s.entryAddr p.net p.own
  let dscp := s.fg F.PVE_PORTCFG_DSCP
  let u := udpBytes p.v6 src p.ip p.dport p.port d.payload
  if p.v6 then
    ethBytes s p.net p.mac 0x86DD (beBytes 4 (0x60000000 + dscp * 2 ^ 22) ++ beBytes 2 u.length ++ beBytes 1 17 ++ beBytes 1 64
      ++ beBytes 16 src ++ beBytes 16 p.ip ++ u)
  else ethBytes s p.net p.mac 0x0800 (ipv4Bytes dscp 17 src p.ip u)

/-- R495: the waiting frame of a port that goes first, with the state that no longer holds it waiting. -/
def nextFrame (p : Nat) (s : State) : Option (TxFrame × State) :=
  let isPtp := fun (f : TxFrame) =>
    match f with
    | .ptp _ _ _ _ => true
    | _ => false
  let q := (s.net p).txq
  match q.find? isPtp, q with
  | some f, _ => some (f, s.modNet p fun x => { x with txq := x.txq.erase f })
  | none, f :: r => some (f, s.modNet p fun x => { x with txq := r })
  | none, [] =>
    match s.pen.tx.find? fun d => decide (d.peer.net = p) with
    | some d => some (.penvar (s.penFrame d), s.modPen fun x => { x with tx := x.tx.erase d })
    | none => none

/-- R485: a PTP frame of a slot with PROFILE 1, from its EtherType and its domain, by the bytes that follow its MAC addresses. -/
def State.untagged (s : State) (p : Nat) (b : List Byte) : Bool :=
  decide (beAt b 0 2 = 0x88F7) &&
    (match s.ptpSlot p 3 (b.drop 2) with
    | some d => s.flagi F.TIM_PTPCFGd_PROFILE d
    | none => false)

/-- R485, R494: the bytes of a transmit buffer as sent: the tag while EN is set, but for PROFILE 1, and padding to 60 bytes before
the FCS. -/
def State.ptpFrame (s : State) (p buf len : Nat) : List Byte :=
  let raw := tgetBytes (s.net p).mem 0 (0x2000 + 0x100 * buf) len
  let tag := if s.flagi F.NET_VLAN_EN p && !s.untagged p (raw.drop 12) then s.vlanTag p else []
  let b := raw.take 12 ++ tag ++ raw.drop 12
  b ++ List.replicate (60 - b.length) 0

/-- The bytes of a frame as sent, up to the FCS. -/
def State.wireOf (s : State) (p : Nat) : TxFrame → List Byte
  | .ptp buf len _ _ => s.ptpFrame p buf len
  | .ctl b => b
  | .penvar b => b

/-- R495: while no frame is in flight the first of those waiting is sent. -/
def netStart (p : Nat) (s : State) : State :=
  if (s.net p).flying.isSome then s
  else
    match nextFrame p s with
    | some (f, t) => t.modNet p fun x => { x with flying := some f, wire := s.wireOf p f }
    | none => s

/-- R495: a frame is queued; while the link is down it is discarded. -/
def netQueue (p : Nat) (f : TxFrame) (s : State) : State :=
  if s.flagi F.NET_STAT_LINK p then netStart p ((netStart p s).modNet p fun x => { x with txq := x.txq ++ [f] })
  else s.bumpi F.NET_TXDROP p

/-- An ARP packet for Ethernet and IPv4. -/
def arpBytes (op sha spa tha tpa : Nat) : List Byte :=
  beBytes 8 (0x0001080006040000 + op) ++ beBytes 6 sha ++ beBytes 4 spa ++ beBytes 6 tha ++ beBytes 4 tpa

/-- A neighbour advertisement, its flags in bits 31:29 of the word after the checksum. -/
def advBytes (flags addr mac : Nat) : List Byte :=
  beBytes 4 0x88000000 ++ beBytes 4 (flags * 2 ^ 29) ++ beBytes 16 addr ++ beBytes 2 0x0201 ++ beBytes 6 mac

/-- The broadcast address. -/
def macBroadcast : Nat := 0xFFFFFFFFFFFF
/-- The link-layer address of the IPv6 all-nodes group. -/
def macAllNodes : Nat := 0x333300000001
/-- The IPv6 all-nodes group. -/
def ipAllNodes : Nat := 0xFF02 * 2 ^ 112 + 1

/-- R488: one announcement of an entry: a gratuitous ARP, or an unsolicited neighbour advertisement with Override set. -/
def announceOne (p k : Nat) (s : State) : State :=
  if s.ownInUse p k = false then s
  else
    let a := s.entryAddr p k
    if k % 2 = 0 then netQueue p (.ctl (ethBytes s p macBroadcast 0x0806 (arpBytes 1 (s.mac p) a 0 a))) s
    else netQueue p (.ctl (ethBytes s p macAllNodes 0x86DD (icmp6Bytes 255 a ipAllNodes (advBytes 1 a (s.mac p))))) s

/-- R488: entries are announced now, and again 10 ms and 100 ms later. -/
def announce (p : Nat) (keys : List Nat) (s : State) : State :=
  if s.flagi F.NET_STAT_LINK p = false then s
  else
    let keys := keys.filter (s.ownInUse p)
    let s := keys.foldl (fun s k => announceOne p k s) s
    let again := keys.flatMap fun k => [Announce.mk k (add32 s.frame 10000), Announce.mk k (add32 s.frame 100000)]
    s.modNet p fun x => { x with ann := x.ann ++ again }

/-- R488: the announcements of a port that are due at the coming tick. -/
def announceDue (p : Nat) (s : State) : State :=
  let due := (s.net p).ann.filter fun a => decide (a.due = s.coming)
  due.foldl (fun s a => announceOne p a.entry s) (s.modNet p fun x => { x with ann := x.ann.filter fun a => decide (a.due ≠ s.coming) })

/-- R488: a device that has gained authority announces the service entries on every port whose link is up. -/
def announceGained (s : State) : State :=
  let gained := s.auth && !s.port.announced
  let s := s.modPort fun x => { x with announced := s.auth }
  if gained then announce 1 [2, 3] (announce 0 [2, 3] s) else s

/-! ### Links (R481 to R483) -/

/-- R482: auto-negotiation takes part in the link of a port. -/
def State.negotiates (s : State) (p : Nat) : Bool := decide (s.fgi F.NET_CFG_MODE p = 1) && s.flagi F.NET_CFG_AN p

/-- R482: the abilities of a clause 37 base page: full and half duplex (bits 5, 6), pause (bits 8:7) and remote fault (bits
13:12). PRESUMED (log 68): the places of the bits. -/
def anPage (full half : Bool) (pause fault : Nat) : Nat := b2n full * 32 + b2n half * 64 + pause * 128 + fault * 4096

/-- R482: what a port advertises while it negotiates: full duplex, with no pause ability and no remote fault. -/
def State.advertises (s : State) (p : Nat) : Option Nat := if s.negotiates p then some (anPage true false 0 0) else none

/-- R482: auto-negotiation is complete: the exchange has ended, and the partner offers full duplex. -/
def State.anDone (s : State) (p : Nat) (offer : AnOffer) : Bool :=
  match s.advertises p with
  | some page => page.testBit 5 && offer.ended && offer.fullDuplex
  | none => false

/-- R482, R483: a port finds its PCS in or out of synchronisation, and what its partner offers. -/
def netLink (p : Nat) (sync : Bool) (offer : AnOffer) (s : State) : State :=
  if s.up = false then s
  else
    let an := s.anDone p offer && sync
    let up := sync && s.flag F.CKG_PLLSTAT_LOCK2 && decide (s.fgi F.NET_CFG_MODE p ≠ 0) && (an || !s.negotiates p)
    let was := s.flagi F.NET_STAT_LINK p
    let s := setLink p up (s.fbi F.NET_STAT_ANDONE p an)
    if up && !was then announce p [0, 1, 2, 3] s else s

/-- The meaning of NET_LINK_CHANGE (R483). -/
def execNetLinkChange (p : Fin 2) (sync : Bool) (offer : AnOffer) (s : State) : Out := .next (netLink p.val sync offer s)

/-- R482, R483: the link of a port goes down and its PCS starts again. -/
def netRestart (p : Nat) (s : State) : State := setLink p false (s.fsi F.NET_STAT_ANDONE p 0)

/-- R482: a write of 1 to NET.CTRL.ANRST. -/
def netAnrst (p : Nat) (s : State) : State := if s.negotiates p then netRestart p s else s

/-- The meaning of NET_ANRST (R482). -/
def execNetAnrst (p : Fin 2) (s : State) : Out := .next (netAnrst p.val s)

/-- The meaning of NET_ANNOUNCE (R488). -/
def execNetAnnounce (p : Fin 2) (s : State) : Out := .next (announce p.val [0, 1, 2, 3] s)

/-- The meaning of ADDRESS_ANNOUNCE_REPEAT (R488). -/
def execAddressAnnounceRepeat (p : Fin 2) (s : State) : Out := .next (announceDue p.val s)

/-- R4: the ten counters of a port. -/
def netStatclr (p : Nat) (s : State) : State :=
  [F.NET_RXFRM, F.NET_TXFRM, F.NET_FCSERR, F.NET_LENERR, F.NET_ADDRDROP, F.NET_VLANDROP, F.NET_CSUMERR, F.NET_OTHDROP,
    F.NET_PRXDROP, F.NET_TXDROP].foldl (fun s f => s.fresetI f p) s

/-- The meaning of NET_STATCLR (R4). -/
def execNetStatclr (p : Fin 2) (s : State) : Out := .next (netStatclr p.val s)

/-! ### PTP (R333, R491 to R494) -/

/-- A signed correction in 10 ps units, in 2^−32 ns. -/
def corr10ps (v : Nat) : Int := sgn 16 v * 2 ^ 32 / 100

/-- R492: a time of a base at a point of the frame, moved by a correction. -/
def State.stamp (s : State) (base cycle frac : Nat) (c : Int) : Nat :=
  ((((s.tbAt base cycle + frac : Nat) : Int) + c) % (tbMod : Int)).toNat

/-- R333, R484: the multicast MAC addresses of a transport. -/
def ptpMacs : Nat → List Nat
  | 1 => [0x01005E000181, 0x01005E00006B]
  | 2 => [0x333300000181, 0x33330000006B]
  | 3 => [0x011B19000000, 0x0180C200000E]
  | _ => []

/-- R333: the multicast IP addresses of a transport. -/
def ptpIps (v6 : Bool) : List Nat :=
  if v6 then [0xFF0E * 2 ^ 112 + 0x181, 0xFF02 * 2 ^ 112 + 0x6B] else [0xE0000181, 0xE000006B]

/-- R333: a message counted against the rates of its slot in the running second; whether it is within them. -/
def ptpCount (d : Nat) (msg : List Byte) (s : State) : Bool × State :=
  let r := s.port.ptpRates.getD d PtpRate.init
  let put := fun (r : PtpRate) => s.modPort fun x => { x with ptpRates := setAt x.ptpRates d r }
  match beAt msg 0 1 % 16 with
  | 0 => (decide (r.sync < 128), put { r with sync := r.sync + 1 })
  | 1 => (decide (r.delay < 16), put { r with delay := r.delay + 1 })
  | 2 => (decide (r.delay < 16), put { r with delay := r.delay + 1 })
  | 11 =>
    let who := beAt msg 20 10
    let n := tget 0 r.ann who
    if 0 < n ∨ r.ann.length < 8 then (decide (n < 8), put { r with ann := tset 0 r.ann who (n + 1) }) else (false, s)
  | _ => (true, s)

/-- R493: a PTP frame stored in the next receive buffer, with its timestamp in the base of its slot, or in TB0 for a general
message. -/
def ptpStore (p d : Nat) (event : Bool) (x : EthFrame) (raw : List Byte) (s : State) : State :=
  let n := s.net p
  if 16 ≤ n.filled.length then s.bumpi F.NET_PRXDROP p
  else
    let base := if event then d + 1 else 0
    let t := s.stamp base x.cycle x.frac (-corr10ps (s.fgi F.NET_TSCORR_RX p))
    let len := Nat.min 240 raw.length
    let bytes := leBytes 4 (nsView t) ++ leBytes 4 (fracView t) ++ leBytes 2 len ++ leBytes 1 base
      ++ leBytes 1 (b2n (decide (240 < raw.length)) + 2 * p) ++ leBytes 4 0 ++ raw.take 240
    let k := n.nextBuf
    let s := s.modNet p fun y =>
      { y with
        filled := y.filled ++ [k]
        nextBuf := (k + 1) % 16
        mem := tsetBytes y.mem 0 (0x1000 + 0x100 * k) (bytes ++ List.replicate (256 - bytes.length) 0) }
    if s.port.ptpRx then s else (s.modPort fun y => { y with ptpRx := true }).raise 136

/-- R333, R491, R493: a PTP message that came in a frame. Signaling (12) and Management (13) are discarded. -/
def ptpReceive (p transport : Nat) (event : Bool) (msg : List Byte) (x : EthFrame) (raw : List Byte) (s : State) : State :=
  match s.ptpSlot p transport msg with
  | none => s.bumpi F.NET_OTHDROP p
  | some d =>
    if beAt msg 0 1 % 16 ∈ [12, 13] then s else
    let r := ptpCount d msg s
    if r.1 then ptpStore p d event x raw r.2 else r.2.bump F.TIM_PTPDROP

/-- R493: NET.PRX.POP. -/
def prxPop (p : Nat) (s : State) : State := s.modNet p fun x => { x with filled := x.filled.drop 1 }

/-- The meaning of PRX_POP (R493). -/
def execPrxPop (p : Fin 2) (s : State) : Out := .next (prxPop p.val s)

/-- R494: NET.PTXCMD.GO. -/
def ptxGo (p : Nat) (s : State) : State :=
  let b := s.fgi F.NET_PTXCMD_BUF p
  let len := s.fgi F.NET_PTXCMD_LEN p
  if (s.net p).flies b ∨ len < 14 ∨ 256 < len then s.fsi F.NET_PTXSTAT_ERR p 1
  else netQueue p (.ptp b len (s.flagi F.NET_PTXCMD_TS p) (s.fgi F.NET_PTXCMD_SLOT p % 3)) s

/-- The meaning of PTXCMD_GO (R494). -/
def execPtxcmdGo (p : Fin 2) (s : State) : Out := .next (ptxGo p.val s)

/-- R494, R495: the frame in flight has been sent. -/
def frameSent (p : Nat) (s : State) : State :=
  netStart p ((s.bumpi F.NET_TXFRM p).modNet p fun x => { x with flying := none, wire := [] })

/-- R494: the PTP frame in flight has been sent, its timestamp point at a point of the frame. -/
def ptpSent (p cycle frac : Nat) (s : State) : State :=
  let s := netStart p s
  match (s.net p).flying with
  | some (.ptp b _ ts base) =>
    let s := if ts then
        let t := s.stamp base cycle frac (corr10ps (s.fgi F.NET_TSCORR_TX p))
        ((s.modNet p fun x => { x with ts := t }).fsi F.NET_PTXSTAT_TSVALID p 1).fsi F.NET_PTXSTAT_TSBUF p b
      else s
    frameSent p s
  | _ => s

/-- The meaning of PTP_TRANSMIT_DONE (R494). -/
def execPtpTransmitDone (p : Fin 2) (cycle : Fin 251) (frac : Fin 0x400000000) (s : State) : Out :=
  .next (ptpSent p.val cycle.val frac.val s)

/-- R495: a frame in flight that is no PTP frame has been sent. -/
def otherSent (p : Nat) (s : State) : State :=
  let s := netStart p s
  match (s.net p).flying with
  | some (.ctl _) => frameSent p s
  | some (.penvar _) => frameSent p s
  | _ => s

/-- The meaning of NET_FRAME_SENT (R495). -/
def execNetFrameSent (p : Fin 2) (s : State) : Out := .next (otherSent p.val s)

/-- R494: a read of NET.TXTS shows the NS view of the last transmit timestamp and latches its fraction. -/
def txtsRead (p : Nat) (s : State) : State :=
  { s.fsi F.NET_TXTSF_VALUE p ((s.net p).ts % 2 ^ 32) with rdata := nsView (s.net p).ts }

/-- The meaning of TXTS_READ_LATCH (R494). -/
def execTxtsReadLatch (p : Fin 2) (s : State) : Out := .next (txtsRead p.val s)

/-! ### Receiving (R484 to R491) -/

/-- A received frame taken apart: whether it is tagged and its tag, and the EtherType with what follows it. -/
structure EthParts where
  dst : Nat
  src : Nat
  tag : Option Nat
  etype : Nat
  body : List Byte
  deriving DecidableEq, Repr

/-- The parts of a frame. -/
def ethParts (b : List Byte) : EthParts :=
  if beAt b 12 2 = 0x8100 then ⟨beAt b 0 6, beAt b 6 6, some (beAt b 14 2), beAt b 16 2, b.drop 18⟩
  else ⟨beAt b 0 6, beAt b 6 6, none, beAt b 12 2, b.drop 14⟩

/-- R484: the destinations that a port accepts. -/
def State.acceptsMac (s : State) (p dst : Nat) : Bool :=
  decide (dst = s.mac p) || decide (dst = macBroadcast) || decide (dst = macAllNodes)
    || ([0, 1].any fun d => s.ptpOn d p && decide (dst ∈ ptpMacs (s.fgi F.TIM_PTPCFGd_TRANSPORT d)))
    || ([1, 3, 4].any fun k => s.ownInUse p k && decide (dst = 0x3333FF000000 + s.entryAddr p k % 2 ^ 24))

/-- R485: the tag of a frame is one that the port accepts. -/
def State.acceptsTag (s : State) (p : Nat) (x : EthParts) : Bool :=
  match x.tag with
  | none => !s.flagi F.NET_VLAN_EN p || s.untagged p (beBytes 2 x.etype ++ x.body)
  | some t => if s.flagi F.NET_VLAN_EN p then decide (t % 4096 = s.fgi F.NET_VLAN_VID p) else decide (t % 4096 = 0)

/-- An IP packet taken apart: its addresses and protocol, what the protocol carries, whether R286 calls it a fragment or one
with options or an extension header, whether its transport header is in it, and whether all of it is. -/
structure IpParts where
  v6 : Bool
  src : Nat
  dst : Nat
  proto : Nat
  body : List Byte
  odd : Bool
  first : Bool
  whole : Bool
  deriving DecidableEq, Repr

/-- R286: the next headers that are extension headers of IPv6. -/
def extHeaders : List Nat := [0, 43, 44, 50, 51, 60, 135, 139, 140]

/-- An IPv4 packet whose header checksum is right, or none. -/
def ipv4Parts (b : List Byte) : Option IpParts :=
  let ihl := beAt b 0 1 % 16 * 4
  let len := beAt b 2 2
  let off := beAt b 6 2 % 16384
  if beAt b 0 1 / 16 = 4 ∧ 20 ≤ ihl ∧ ihl ≤ len ∧ len ≤ b.length ∧ onesSum (b.take ihl) = 65535 then
    some ⟨false, beAt b 12 4, beAt b 16 4, beAt b 9 1, slice b ihl (len - ihl), decide (off ≠ 0) || decide (ihl ≠ 20),
      decide (off % 8192 = 0), decide (off = 0)⟩
  else none

/-- An IPv6 packet, or none where its lengths do not fit. -/
def ipv6Parts (b : List Byte) : Option IpParts :=
  let len := beAt b 4 2
  let proto := beAt b 6 1
  if beAt b 0 1 / 16 = 6 ∧ 40 + len ≤ b.length then
    some ⟨true, beAt b 8 16, beAt b 24 16, proto, slice b 40 len, decide (proto ∈ extHeaders), decide (proto ∉ extHeaders),
      decide (proto ∉ extHeaders)⟩
  else none

/-- R286: the UDP checksum of a packet; zero is accepted on IPv4 only. -/
def udpOk (x : IpParts) : Bool :=
  let len := beAt x.body 4 2
  let c := beAt x.body 6 2
  decide (8 ≤ len) && decide (len ≤ x.body.length)
    && (if c = 0 then !x.v6 else decide (onesSum (pseudo x.v6 x.src x.dst 17 len ++ x.body.take len) = 65535))

/-- R487: a claim of an address of a valid entry by another MAC. -/
def claimSeen (p : Nat) (v6 : Bool) (ip who : Nat) (s : State) : State :=
  if s.entryClaimed p v6 ip && decide (who ≠ s.mac p) then (s.fsi F.NET_STAT_ADDRCONF p 1).raise (134 + p) else s

/-- R487: an ARP packet. -/
def arpReceive (p : Nat) (x : EthParts) (s : State) : State :=
  let b := x.body
  if beAt b 0 6 ≠ 0x000108000604 then s.bumpi F.NET_OTHDROP p
  else
    let s := claimSeen p false (beAt b 14 4) (beAt b 8 6) s
    if beAt b 6 2 = 1 ∧ (s.ownKey p false (beAt b 24 4)).isSome then
      netQueue p (.ctl (ethBytes s p x.src 0x0806 (arpBytes 2 (s.mac p) (beAt b 24 4) (beAt b 8 6) (beAt b 14 4)))) s
    else s.bumpi F.NET_OTHDROP p

/-- R490: one more answer to an echo request in the running second, if the rate allows it. -/
def echoAnswer (p : Nat) (frame : List Byte) (s : State) : State :=
  if 100 ≤ (s.net p).icmp then s.bumpi F.NET_OTHDROP p
  else netQueue p (.ctl frame) (s.modNet p fun x => { x with icmp := x.icmp + 1 })

/-- R490: an ICMPv4 message. -/
def icmp4Receive (p : Nat) (x : EthParts) (ip : IpParts) (s : State) : State :=
  if beAt ip.body 0 2 = 0x0800 ∧ 8 ≤ ip.body.length ∧ ip.body.length ≤ 72 ∧ (s.ownKey p false ip.dst).isSome then
    let m := fun (c : Nat) => beBytes 2 0 ++ beBytes 2 c ++ ip.body.drop 4
    let m := m (65535 - onesSum (m 0))
    echoAnswer p (ethBytes s p x.src 0x0800 (ipv4Bytes 0 1 ip.dst ip.src m)) s
  else s.bumpi F.NET_OTHDROP p

/-- R487, R490: an ICMPv6 message: a neighbour solicitation, a neighbour advertisement or an echo request. -/
def icmp6Receive (p : Nat) (x : EthParts) (ip : IpParts) (s : State) : State :=
  match beAt ip.body 0 1 with
  | 135 =>
    let t := beAt ip.body 8 16
    if (s.ownKey p true t).isSome then
      let m := advBytes (if ip.src = 0 then 1 else 3) t (s.mac p)
      netQueue p (.ctl (ethBytes s p x.src 0x86DD (icmp6Bytes 255 t (if ip.src = 0 then ipAllNodes else ip.src) m))) s
    else s.bumpi F.NET_OTHDROP p
  | 136 => (claimSeen p true (beAt ip.body 8 16) x.src s).bumpi F.NET_OTHDROP p
  | 128 =>
    if 8 ≤ ip.body.length ∧ ip.body.length ≤ 72 ∧ (s.ownKey p true ip.dst).isSome then
      echoAnswer p (ethBytes s p x.src 0x86DD (icmp6Bytes 64 ip.dst ip.src (beBytes 4 0x81000000 ++ ip.body.drop 4))) s
    else s.bumpi F.NET_OTHDROP p
  | _ => s.bumpi F.NET_OTHDROP p

/-- R285, R333, R491: a UDP datagram: to Penvar, to PTP, or dropped, in that order. -/
def udpReceive (p : Nat) (x : EthParts) (raw : EthFrame) (ip : IpParts) (s : State) : State :=
  let dport := beAt ip.body 2 2
  let data := slice ip.body 8 (beAt ip.body 4 2 - 8)
  let own := s.ownKey p ip.v6 ip.dst
  let pen := own.any fun k => isPenvar s ⟨⟨p, x.src, ip.v6, k, dport, ip.src, beAt ip.body 0 2⟩, false, data⟩
  if pen = false ∧ (dport = 319 ∨ dport = 320) ∧ (own.isSome ∨ ip.dst ∈ ptpIps ip.v6) then
    ptpReceive p (if ip.v6 then 2 else 1) (decide (dport = 319)) data raw
      (raw.bytes.take 12 ++ raw.bytes.drop (if x.tag.isSome then 16 else 12)) s
  else
    match own with
    | some k => penReceive ⟨⟨p, x.src, ip.v6, k, dport, ip.src, beAt ip.body 0 2⟩, false, data⟩ s
    | none => s.bumpi F.NET_OTHDROP p

/-- R286: a fragment, or a packet with options or an extension header, whatever it carries: PVE.IPDROP counts it. Where its
ports show it to be Penvar it is received, counted and dropped as a Penvar datagram (R285, 11). -/
def oddReceive (p : Nat) (x : EthParts) (ip : IpParts) (s : State) : State :=
  let d : Dgram := ⟨⟨p, x.src, ip.v6, (s.ownKey p ip.v6 ip.dst).getD 4, beAt ip.body 2 2, ip.src, beAt ip.body 0 2⟩, true, []⟩
  if ip.first && decide (ip.proto = 17) && (s.ownKey p ip.v6 ip.dst).isSome && isPenvar s d then penReceive d s
  else s.bump F.PVE_IPDROP

/-- R484, R491: an IP packet after its checks. The UDP checksum of R286 is among them, where the whole datagram is there. -/
def ipReceive (p : Nat) (x : EthParts) (raw : EthFrame) (ip : IpParts) (s : State) : State :=
  if ip.proto = 17 ∧ ip.whole = true ∧ udpOk ip = false then s.bumpi F.NET_CSUMERR p
  else if ip.odd then oddReceive p x ip s
  else if ip.proto = 17 then udpReceive p x raw ip s
  else if ip.v6 = false ∧ ip.proto = 1 then icmp4Receive p x ip s
  else if ip.v6 ∧ ip.proto = 58 then icmp6Receive p x ip s
  else s.bumpi F.NET_OTHDROP p

/-- R484, R491: a frame that has passed the checks of its length, addresses and tag. -/
def bodyReceive (p : Nat) (x : EthParts) (raw : EthFrame) (s : State) : State :=
  if x.etype = 0x0800 then
    match ipv4Parts x.body with
    | some ip => ipReceive p x raw ip s
    | none => s.bumpi F.NET_CSUMERR p
  else if x.etype = 0x86DD then
    match ipv6Parts x.body with
    | some ip => ipReceive p x raw ip s
    | none => s.bumpi F.NET_OTHDROP p
  else if x.etype = 0x0806 then arpReceive p x s
  else if x.etype = 0x88F7 then
    ptpReceive p 3 (decide (beAt x.body 0 1 % 16 < 8)) x.body raw
      (raw.bytes.take 12 ++ raw.bytes.drop (if x.tag.isSome then 16 else 12)) s
  else s.bumpi F.NET_OTHDROP p

/-- R484: a frame arrives at a port whose link is up; the first check that it fails counts. -/
def frameReceive (p : Nat) (x : EthFrame) (s : State) : State :=
  if s.up = false ∨ s.flagi F.NET_STAT_LINK p = false then s
  else
    let e := ethParts x.bytes
    let len := x.bytes.length + 4
    if x.fcsOk = false then s.bumpi F.NET_FCSERR p
    else if len < 64 ∨ (if e.tag.isSome then 1522 else 1518) < len then s.bumpi F.NET_LENERR p
    else
      let s := s.bumpi F.NET_RXFRM p
      if s.acceptsMac p e.dst = false then s.bumpi F.NET_ADDRDROP p
      else if s.acceptsTag p e = false then s.bumpi F.NET_VLANDROP p
      else bodyReceive p e x s

/-- The meaning of NET_FRAME_RECEIVE (R484). -/
def execNetFrameReceive (p : Fin 2) (x : EthFrame) (s : State) : Out := .next (frameReceive p.val x s)

/-- The work of a port at a tick: announcements due, and at whole seconds of fabric time the rates of R333 and R490 begin
again. -/
def netTick (s : State) : State :=
  let s := announceDue 1 (announceDue 0 s)
  let s := s.modPort fun x => { x with ptpRx := false }
  if s.coming % 1000000 = 0 then
    (((s.modNet 0 fun x => { x with icmp := 0 }).modNet 1 fun x => { x with icmp := 0 })).modPort fun x =>
      { x with ptpRates := [PtpRate.init, PtpRate.init] }
  else s

end Sys2Proof.Machine
end

