-- ==== Sys2Proof/Machine/Pins.lean ====
section
/-! DEFINITION. The single-ended digital outputs (21, R534) and the boundary-scan register that takes their place (19, R503,
R504). -/
namespace Sys2Proof.Machine

/-- The single-ended digital balls that the device can drive, but TDO (21, I/O ring). -/
inductive Pin where
  | xspiClk | xspiCsN
  | xspiDq (k : Fin 8)
  | scl | sda | uartTx
  | evt (n : Fin 4)
  | faultN | irqN | ppsOut | actOut | hbtOut
  deriving DecidableEq, Repr

/-- What a ball shows: a level, nothing (high-impedance, or released), or what its block drives within the frame. -/
inductive Level where
  | low | high | none | driven
  deriving DecidableEq, Repr

/-- The number of an output. -/
def Pin.no : Pin → Nat
  | .xspiClk => 0
  | .xspiCsN => 1
  | .xspiDq k => 2 + k.val
  | .scl => 10
  | .sda => 11
  | .uartTx => 12
  | .evt n => 13 + n.val
  | .faultN => 17
  | .irqN => 18
  | .ppsOut => 19
  | .actOut => 20
  | .hbtOut => 21

/-- Every scanned output. -/
def pins : List Pin :=
  [.xspiClk, .xspiCsN] ++ (List.finRange 8).map .xspiDq ++ [.scl, .sda, .uartTx] ++ (List.finRange 4).map .evt
    ++ [.faultN, .irqN, .ppsOut, .actOut, .hbtOut]

/-- A level. -/
def levelOf (b : Bool) : Level := if b then .high else .low

/-- R534: what a ball shows in the state of the device. EVT.CFG names the pins that are outputs (R342). -/
def State.pinNormal (s : State) : Pin → Level
  | .xspiClk | .xspiCsN | .xspiDq _ | .scl | .sda => if s.dev = .off then .none else .driven
  | .uartTx => if s.dev = .off then .none else if s.up then .driven else .high
  | .evt n => if s.up ∧ (s.fgi F.EVT_CFGn_MODE n.val = 5 ∨ s.fgi F.EVT_CFGn_MODE n.val = 4) then .driven else .none
  | .faultN => if s.faultLow then .low else .none
  | .irqN => if s.irqLow then .low else .none
  | .ppsOut => levelOf (s.up && s.time.ppsOut)
  | .actOut => levelOf (s.up && s.mir.actOut)
  | .hbtOut => levelOf (s.up && s.mir.hbtOut)

/-- R504: what a ball shows while the boundary-scan register drives it: its data cell, where its control cell is 1. -/
def State.pinScan (s : State) (p : Pin) : Level :=
  let c := Config.scanCells p.no
  if s.port.sbi.scan.getD (c.2 % 214) false then levelOf (s.port.sbi.scan.getD (c.1 % 214) false) else .none

/-- R504, R534: what a ball shows. EXTEST and CLAMP put the boundary-scan register in place of the table, and HIGHZ nothing. -/
def State.pin (s : State) (p : Pin) : Level :=
  match s.port.sbi.ir with
  | 3 | 4 => s.pinScan p
  | 5 => .none
  | _ => s.pinNormal p

/-- R503, R504: what the boundary-scan register captures: at the data cell of an output its level, elsewhere a free value. -/
def State.scanCapture (s : State) : List Bool :=
  (List.range 214).map fun k =>
    match pins.find? fun p => decide ((Config.scanCells p.no).1 % 214 = k) with
    | some p =>
      match s.pin p with
      | .low => false
      | .high => true
      | _ => Config.scanBit k s.fresh
    | none => Config.scanBit k s.fresh

/-- The cells of the register as bytes, cell 0 in bit 0 of the first. -/
def scanBytes (l : List Bool) : List Byte :=
  (List.range 27).map fun i => BitVec.ofNat 8 ((List.range 8).foldl (fun v j => v + b2n (l.getD (8 * i + j) false) * 2 ^ j) 0)

end Sys2Proof.Machine
end

