-- ==== Sys2Proof/Machine/Sbi.lean ====
section
/-! DEFINITION. The housekeeping ports (19): the mailbox, the commands of the I²C/SMBus target that need no access to the
matrix, the UART and the instructions of the TAP. -/
namespace Sys2Proof.Machine

/-- The housekeeping ports changed by a function. -/
def State.modSbi (s : State) (f : SbiSt → SbiSt) : State := s.modPort fun p => { p with sbi := f p.sbi }

/-! ### I²C/SMBus (R496 to R501) -/

/-- R499: a command ends with a status. -/
def smbEnd (st : Nat) (s : State) : State :=
  let s := s.fs F.SBI_STAT_LAST st
  let s := if st = 0 then s else s.bump F.SBI_ACCERR
  if st = 3 then s.bump F.SBI_PECERR else s

/-- R499: the PEC of a write (none where none is sent, else whether it is right) is missing where one is required, or
wrong. -/
def State.pecBad (s : State) (pec : Option Bool) : Bool :=
  match pec with
  | none => s.flag F.SBI_CFG_PEC
  | some ok => !ok

/-- The target is at work: the device is out of OFF. -/
def State.smbOn (s : State) : Bool := decide (s.dev ≠ .off)

/-- R496: the target answers at the address of SBI.CFG.ADDR. STATUS, STATE and MBREAD, whose rows carry no operand, are sent for
it alone (log 41). -/
def State.smbHears (s : State) (target : BitVec 7) : Bool := s.smbOn && decide (target.toNat = s.fg F.SBI_CFG_ADDR)

/-- The CRC-8 of a PEC over every byte of a transaction. PRESUMED (log 41): that of SMBus. -/
def pecOf (l : List Byte) : Nat := l.foldl (fun c b => crc8 b.toNat 8 c) 0

/-- R499: the answer to a read, as sent: the data, and its PEC while SBI.CFG.PEC is set. A Block Read sends its count first. -/
def smbReply (cmd : Nat) (block : Bool) (data : List Byte) (s : State) : State :=
  let a := 2 * s.fg F.SBI_CFG_ADDR
  let head := beBytes 1 a ++ beBytes 1 cmd ++ beBytes 1 (a + 1) ++ (if block then beBytes 1 data.length else [])
  s.modSbi fun x => { x with answer := data ++ (if s.flag F.SBI_CFG_PEC then beBytes 1 (pecOf (head ++ data)) else []) }

/-- R497: SETADDR. -/
def smbSetaddr (bytes : List Byte) (c : SmbCall) (s : State) : State :=
  if s.smbHears c.target = false then s
  else if bytes.length ≠ 4 then smbEnd 4 s
  else if s.pecBad c.pec then smbEnd 3 s
  else if beNat bytes % 4 ≠ 0 then smbEnd 4 s
  else smbEnd 0 (s.modSbi fun x => { x with addr := beNat bytes })

/-- The meaning of SETADDR (R497). -/
def execSetaddr (bytes : List Byte) (c : SmbCall) (s : State) : Out := .next (smbSetaddr bytes c s)

/-- R499: STATUS answers the status of the last command and leaves it. -/
def smbStatus (s : State) : State :=
  if s.smbOn then smbReply 0x04 false (beBytes 1 (s.fg F.SBI_STAT_LAST)) s else s

/-- The meaning of STATUS (R499). -/
def execStatus (s : State) : Out := .next (smbStatus s)

/-- R497: the byte of STATE. -/
def State.stateByte (s : State) : Nat := s.dev.code + 8 * b2n s.faultLow + 16 * b2n s.irqLow

/-- R497: STATE. -/
def smbState (s : State) : State :=
  if s.smbOn then smbEnd 0 (smbReply 0x05 false (beBytes 1 s.stateByte) s) else s

/-- The meaning of STATE (R497). -/
def execState (s : State) : Out := .next (smbState s)

/-- R501: bytes placed in SBI.MBREQ. -/
def mbPlace (bytes : List Byte) (s : State) : State :=
  (List.range 8).foldl (fun s w =>
    let old := leBytes 4 (s.fgi F.SBI_MBREQw_BYTES w)
    let new := slice bytes (4 * w) 4
    s.fsi F.SBI_MBREQw_BYTES w (leNat (new ++ old.drop new.length))) s

/-- R501: MBWRITE. -/
def smbMbwrite (bytes : List Byte) (c : SmbCall) (s : State) : State :=
  if s.smbHears c.target = false then s
  else if bytes = [] ∨ 32 < bytes.length then smbEnd 4 s
  else if s.pecBad c.pec then smbEnd 3 s
  else if s.flag F.SBI_STAT_MBFULL then smbEnd 6 s
  else smbEnd 0 ((((mbPlace bytes s).fs F.SBI_STAT_MBFULL 1).fs F.SBI_MBLEN_LEN bytes.length).raise 137)

/-- The meaning of MBWRITE (R501). -/
def execMbwrite (bytes : List Byte) (c : SmbCall) (s : State) : Out := .next (smbMbwrite bytes c s)

/-- R501: the bytes of the reply posted. -/
def State.mbReply (s : State) : List Byte :=
  ((List.range 8).flatMap fun w => leBytes 4 (s.fgi F.SBI_MBRSPw_BYTES w)).take (Nat.min 32 (s.fg F.SBI_MBCTRL_RLEN))

/-- R501: MBREAD. -/
def smbMbread (s : State) : State :=
  if s.smbOn = false then s
  else
    let r := if s.flag F.SBI_STAT_MBPOST then s.mbReply else []
    smbEnd 0 ((smbReply 0x07 true r s).fs F.SBI_STAT_MBPOST 0)

/-- The meaning of MBREAD (R501). -/
def execMbread (s : State) : Out := .next (smbMbread s)

/-- R496, R467: the interface of the target is reset, and M10 with it. -/
def sclTimeout (s : State) : State := (s.resetMaster 10).modSbi fun x => { x with answer := [] }

/-- R497: a READ of this target that has not completed in 20 µs. -/
def smbTimeout (s : State) : State := if s.smbOn then smbEnd 2 (smbReply 0x02 true (beBytes 4 0xFFFFFFFF) s) else s

/-- The meaning of SMBUS_READ_TIMEOUT (R497). -/
def execSmbusReadTimeout (s : State) : Out := .next (smbTimeout s)

/-- The meaning of SCL_LOW_TIMEOUT (R496). -/
def execSclLowTimeout (s : State) : Out := .next (sclTimeout s)

/-- R501: SBI.MBCTRL.ACK. -/
def mbAck (s : State) : State := s.fs F.SBI_STAT_MBFULL 0

/-- The meaning of MBCTRL_ACK (R501). -/
def execMbctrlAck (s : State) : Out := .next (mbAck s)

/-- R501: SBI.MBCTRL.POST. -/
def mbPost (s : State) : State := s.fs F.SBI_STAT_MBPOST 1

/-- The meaning of MBCTRL_POST (R501). -/
def execMbctrlPost (s : State) : Out := .next (mbPost s)

/-- R4: SBI.UCTRL.STATCLR. -/
def sbiStatclr (s : State) : State := s.fresetAll [F.SBI_ACCERR, F.SBI_PECERR]

/-- The meaning of SBI_STATCLR (R4). -/
def execSbiStatclr (s : State) : Out := .next (sbiStatclr s)

/-! ### The UART (R502) -/

/-- R502: a byte arrives. -/
def uartReceive (v : Nat) (stop : Bool) (s : State) : State :=
  if s.up = false ∨ s.flag F.SBI_UCFG_EN = false then s
  else if stop = false then s.fs F.SBI_USTAT_FRAMERR 1
  else if 64 ≤ s.port.sbi.rx.length then s.fs F.SBI_USTAT_OVR 1
  else uartLevel (s.modSbi fun x => { x with rx := x.rx ++ [v] })

/-- The meaning of UART_RECEIVE_BYTE (R502). -/
def execUartReceiveByte (v : Byte) (stop : Bool) (s : State) : Out := .next (uartReceive v.toNat stop s)

/-- R502: a write of SBI.UTX. -/
def utxWrite (v : Nat) (s : State) : State :=
  uartLevel (if s.port.sbi.tx.length < 64 then s.modSbi fun x => { x with tx := x.tx ++ [v] } else s)

/-- The meaning of UTX_WRITE (R502). -/
def execUtxWrite (v : Byte) (s : State) : Out := .next (utxWrite v.toNat s)

/-- R502: the UART has sent a byte. -/
def uartSend (s : State) : State :=
  if s.up = false ∨ s.flag F.SBI_UCFG_EN = false then s else uartLevel (s.modSbi fun x => { x with tx := x.tx.drop 1 })

/-- The meaning of UART_SEND_BYTE (R502). -/
def execUartSendByte (s : State) : Out := .next (uartSend s)

/-- R502: SBI.UCTRL.RXPOP. -/
def rxPop (s : State) : State := s.modSbi fun x => { x with rx := x.rx.drop 1 }

/-- The meaning of UCTRL_RXPOP (R502). -/
def execUctrlRxpop (s : State) : Out := .next (rxPop s)

/-- R502: SBI.UCTRL.FLUSH. -/
def uartFlush (s : State) : State := uartLevel (s.modSbi fun x => { x with rx := [], tx := [] })

/-- The meaning of UCTRL_FLUSH (R502). -/
def execUctrlFlush (s : State) : Out := .next (uartFlush s)

/-! ### The TAP (R503, R504) -/

/-- R503: an instruction is loaded; its register has captured 0b0000_0001. While EXTEST, CLAMP or HIGHZ is there the device is held
in OFF (R504). -/
def tapLoad (op : Nat) (s : State) : State :=
  let s := s.modSbi fun x => { x with ir := op, irCap := 1 }
  if op = 3 ∨ op = 4 ∨ op = 5 then offFor [] s else s

/-- R467, R503: the TAP is reset: IDCODE is loaded, and M10 is reset: an access of MEMACC that waits is dropped (log 68). -/
def tapReset (s : State) : State :=
  (s.resetMaster 10).modSbi fun x =>
    { x with ir := 1, macWait := none, macStat := if x.macStat = 2 then 0 else x.macStat }

/-- The meaning of TAP_RESET (R503): IDCODE is loaded. -/
def execTapReset (s : State) : Out := .next (tapReset s)

/-- The 32 bits of IDCODE (R503). -/
def idcode : Nat := 0x1961258F

/-- The meaning of IDCODE (R503): its data register is captured. -/
def execIdcode (s : State) : Out := .next ((tapLoad 1 s).modSbi fun x => { x with answer := leBytes 4 idcode })

/-- R503: SAMPLE/PRELOAD: the boundary-scan register captures the balls, and takes what the JTAG host shifts in, which no row
carries (log 68). -/
def samplePreload (s : State) : State :=
  let t := (tapLoad 2 s).modSbi fun x =>
    { x with answer := scanBytes s.scanCapture, scan := (List.range 214).map fun k => Config.scanBit k (s.fresh + 1) }
  { t with fresh := s.fresh + 2 }

/-- The meaning of SAMPLE_PRELOAD (R503). -/
def execSamplePreload (s : State) : Out := .next (samplePreload s)

/-- R504: EXTEST: the outputs take what the boundary-scan register holds, and it captures the balls. -/
def extest (s : State) : State :=
  let t := tapLoad 3 s
  { t.modSbi (fun x => { x with answer := scanBytes t.scanCapture }) with fresh := t.fresh + 1 }

/-- The meaning of EXTEST (R504). -/
def execExtest (s : State) : Out := .next (extest s)

/-- The meaning of CLAMP (R504). -/
def execClamp (s : State) : Out := .next (tapLoad 4 s)

/-- The meaning of HIGHZ (R504). -/
def execHighz (s : State) : Out := .next (tapLoad 5 s)

/-- The meaning of BYPASS (R503). -/
def execBypass (s : State) : Out := .next (tapLoad 0xFF s)

end Sys2Proof.Machine
end

