-- ==== Sys2Proof/Machine/Faults.lean ====
section
/-! DEFINITION. The clear of every counter, the firmware's entries of the fault log and the health report (20); the monitor of
the reference and the PLLs, and the clears of the CKG, MTX and CRN counters (02, 18). -/
namespace Sys2Proof.Machine

/-! ### Clears (R4, R513) -/

/-- CKG.CTRL.STATCLR. -/
def ckgStatclr (s : State) : State :=
  ((s.fresetAll [F.CKG_FRMRNG_MIN, F.CKG_FRMRNG_MAX, F.CKG_ENGHWM_CYCLES, F.CKG_ENGHWM_ENGINE]).fresetRow 32
    [F.CKG_OVRCNTq]).noteCleared 0

/-- The meaning of CKG_STATCLR (R4). -/
def execCkgStatclr (s : State) : Out := .next (ckgStatclr s)

/-- MTX.CTRL.STATCLR. -/
def mtxStatclr (s : State) : State :=
  (s.fresetAll [F.MTX_ERRCNT, F.MTX_ECCCOR, F.MTX_ECCUNC, F.MTX_RSTCNT]).fresetRow 11 [F.MTX_WAITHWMm_CYCLES]

/-- The meaning of MTX_STATCLR (R4). -/
def execMtxStatclr (s : State) : Out := .next (mtxStatclr s)

/-- CRN.CTRL.STATCLR. -/
def crnStatclr (s : State) : State := s.fresetAll [F.CRN_XFERCNT, F.CRN_ERRCNT]

/-- The meaning of CRN_STATCLR (R4). -/
def execCrnStatclr (s : State) : Out := .next (crnStatclr s)

/-- R513: every block clear at once. -/
def statAll (s : State) : State :=
  let s := (List.range 32).foldl (fun s q => qyTchStatclr q (qyLnkStatclr q (qyDrvStatclr q s))) (ckgStatclr s)
  let s := tidStatclr (schStatclr (manStatclr (morStatclr (segStatclr s))))
  let s := mirStatclr (rolStatclr (evtStatclr (timStatclr (pveStatclr s))))
  let s := icuStatclr (xspStatclr (calStatclr (tmpStatclr s)))
  sbiStatclr (netStatclr 1 (netStatclr 0 (mtxStatclr (crnStatclr s))))

/-- The meaning of DBG_STATALL (R513). -/
def execDbgStatall (s : State) : Out := .next (statAll s)

/-! ### Entries of the firmware (R510) -/

/-- R510: DBG.CTRL.PUT. -/
def dbgPut (s : State) : State :=
  let code := s.fg F.DBG_FLTPUT0_CODE
  if code < 0xF000 then s.fs F.DBG_FLTSTAT_PUTERR 1
  else s.logSev code (Nat.min 2 (s.fg F.DBG_FLTPUT0_SEV)) (s.fg F.DBG_FLTPUT1_INDEX) (s.fg F.DBG_FLTPUT1_DETAIL)

/-- The meaning of DBG_PUT (R510). -/
def execDbgPut (s : State) : Out := .next (dbgPut s)

/-! ### The health report (R514, R515) -/

/-- The counters of the deltas with the sums they give and whether one of them has saturated. -/
def healthCounters (s : State) : List (Nat × Bool) :=
  let row := fun (f : Fld) (n : Nat) =>
    let v := (List.range n).map (s.fgi f)
    (v.foldl (· + ·) 0 % 2 ^ 32, v.any fun x => decide (x = 2 ^ f.width - 1))
  [row F.CKG_OVRCNTq 32, row F.SEG_UNDCNT 1, row F.MOR_SETFAIL 1, row F.QY_UCRCCNT 32, row F.QY_DCRCCNT 32,
    row F.PVE_AUTHCNT 1, row F.SCH_PWRWAIT 1, row F.MIR_TALLYMIS 1]

/-- R515: the deltas, each with whether it is saturated. -/
def healthDeltas (s : State) : List (Nat × Bool) :=
  let h := s.port.health
  if h.started = false then List.replicate 8 (0, false)
  else
    (List.range 8).map fun k =>
      let c := (healthCounters s).getD k (0, false)
      if c.2 || h.cleared.getD k false then (0xFFFFFFFF, true) else (sub32 c.1 (h.last.getD k 0), false)

/-- A small-class standby, whose self-test runs (R30). -/
def State.testing (s : State) : Bool := decide (s.dev = .standby) && s.fab.small

/-- The FLAGS byte of the report (R514). -/
def healthFlags (s : State) (sat : Bool) : Nat :=
  b2n (s.flag F.ROL_CFG_PAIRED) + 2 * b2n s.auth + 4 * b2n (s.flag F.ROL_STAT_READY)
    + 8 * b2n (s.flag F.TIM_T3STAT_STEPPED) + 16 * b2n (s.flag F.TIM_T3STAT_HOLD) + 32 * b2n s.testing
    + 64 * b2n (decide (s.dev = .standby) && !s.fab.small) + 128 * b2n sat

/-- The numbers of slots in service, FAILED, dark and unsettled (R514). -/
def healthSlots (s : State) : List Nat :=
  let live := s.popSlots.filter s.inService
  [live.length, (s.popSlots.filter fun n => (s.slot n).failed).length, (live.filter fun n => (s.slot n).lp.dark).length,
    (live.filter fun n => !(s.slot n).lp.settled).length]

/-- The numbers of bundles OPEN, CLOSED, PARKED and PARKED-HOLD (R514). -/
def healthBundles (s : State) : List Nat :=
  [BState.opened, BState.closed, BState.parked, BState.hold].map fun x =>
    (s.popBundles.filter fun b => decide ((s.bun b).st = x)).length

/-- R514: the report as of the tick at which it is closed. -/
def healthBytes (s : State) : List Byte :=
  let h := s.port.health
  let deltas := healthDeltas s
  let failed := (List.range 50).filter fun p => decide (s.fgi F.MOR_ESTATp_STATE p = 2)
  let unsync := fieldView s F.MIR_UNSYNC 0
  let test := if s.testing then [h.stPass, h.stCount, h.stFail, h.stLast] else [0, h.stCount, h.stFail, h.stLast]
  beBytes 2 1 ++ beBytes 2 160 ++ beBytes 4 h.seq ++ beBytes 8 s.time64 ++ beBytes 4 s.frame
    ++ beBytes 1 s.dev.code ++ beBytes 1 (b2n (!s.fab.small)) ++ beBytes 1 (s.fg F.SEG_STAT_BAND)
    ++ beBytes 1 (healthFlags s (deltas.any (·.2))) ++ beBytes 2 (s.fg F.TMP_MAX_TEMP) ++ beBytes 2 (s.fg F.TMP_PHTEMP_TP)
    ++ beBytes 1 (fieldView s F.MOR_STAT_SPARES 0) ++ beBytes 1 failed.length ++ [0, 0]
    ++ beBytes 8 (failed.foldl (fun v p => v + 2 ^ p) 0)
    ++ ((List.range 16).flatMap fun k =>
      beBytes 1 (s.fgi F.QY_LNKSTAT_STATE (2 * k) + 16 * s.fgi F.QY_LNKSTAT_STATE (2 * k + 1)))
    ++ (healthSlots s).flatMap (beBytes 2) ++ (healthBundles s).flatMap (beBytes 2)
    ++ beBytes 2 unsync ++ beBytes 2 (s.pen.sess.countP fun e => decide (e.2.st = 2))
    ++ beBytes 2 (s.exec.recs.countP fun r => r.2.isOpen) ++ beBytes 2 (s.exec.circuits.countP fun c => decide (c.2.st = 2))
    ++ beBytes 4 (s.fg F.TIM_T3OFF_OFFSET) ++ beBytes 1 (s.fg F.TIM_T3STAT_SRC) ++ [0, 0, 0]
    ++ beBytes 2 ((s.log.entries.head?.map (·.code)).getD 0) ++ beBytes 2 h.alarms
    ++ beBytes 4 (s.fg F.DBG_FLTSTAT_CLASS + 0x10000 * s.fg F.DBG_FLTSTAT_PUTERR)
    ++ deltas.flatMap (fun d => beBytes 4 d.1)
    ++ beBytes 4 (test.getD 0 0) ++ beBytes 2 (test.getD 1 0) ++ beBytes 2 (test.getD 2 0) ++ beBytes 4 (test.getD 3 0)
    ++ List.replicate 20 0

/-- The health report changed by a function. -/
def State.modHealth (s : State) (f : Health → Health) : State := s.modPort fun p => { p with health := f p.health }

/-- R30, R48, R148, R508: a result of the self-test of a small-class standby. A failing engine is an engine fault (14, "Standby
self-test"), also that of a SPARE, which serves no logical engine; it lies at a cycle after every hand-over that is on time, so
that it makes no bundle late. -/
def selfStep (x : SelfStep) (s : State) : State :=
  if s.testing = false then s
  else
    match x with
    | .pass f => s.modHealth fun h => { h with stPass := f.toNat, stCount := Nat.min 0xFFFF (h.stCount + 1) }
    | .fail p f =>
      let s := s.modHealth fun h => { h with stFail := Nat.min 0xFFFF (h.stFail + 1), stLast := f.toNat }
      if s.engState p.val = 1 then engineFails p.val 0x3F 3 0x3003 s else engineFault p.val 3 0x3003 (s.deadline + 1) s

/-- R514: the report is closed at a whole second of TB3 time, with the results of the self-test since the last. -/
def healthClose (tests : List SelfStep) (s : State) : State :=
  let sec := s.time64 / 1000000000
  if s.up = false ∨ sec = s.port.health.second then s
  else
    let s := tests.foldl (fun s x => selfStep x s) s
    let report := healthBytes s
    let last := (healthCounters s).map (·.1)
    s.modHealth fun h =>
      { h with
        report := report
        seq := add32 h.seq 1
        started := true
        last := last
        cleared := List.replicate 8 false
        alarms := 0
        second := sec }

/-- The meaning of HEALTH_REPORT_CLOSE (R514). -/
def execHealthReportClose (tests : List SelfStep) (s : State) : Out := .next (healthClose tests s)

/-! ### The reference and the PLLs (R55, R56) -/

/-- R55, R56: a window of the reference monitor ends. -/
def refWindow (edges : Nat) (s : State) : State :=
  if s.boot.supplies.getD 2 false = false then s
  else
    let bad := decide (edges < 85) || decide (115 < edges)
    let lost := bad && s.boot.refOut
    let s := { s.fs F.CKG_REFMON (Nat.min 255 edges) with boot := { s.boot with refOut := bad } }
    let s := if bad then s else s.fs F.CKG_PLLSTAT_REFOK 1
    if lost then
      let s := (s.fs F.CKG_PLLSTAT_REFOK 0).fs F.CKG_PLLSTAT_REFLOSS 1
      if s.up then enterSafe [⟨0x1001, noIndex, Nat.min 255 edges, none⟩] s else s
    else s

/-- The meaning of REFERENCE_WINDOW (R55). -/
def execReferenceWindow (edges : Nat) (s : State) : Out := .next (refWindow edges s)

/-- The LOCK and LOL bits of a PLL. -/
def pllFlds : Nat → Fld × Fld
  | 0 => (F.CKG_PLLSTAT_LOCK0, F.CKG_PLLSTAT_LOL0)
  | 1 => (F.CKG_PLLSTAT_LOCK1, F.CKG_PLLSTAT_LOL1)
  | _ => (F.CKG_PLLSTAT_LOCK2, F.CKG_PLLSTAT_LOL2)

/-- R56: a PLL that was in lock loses it. -/
def pllLoss (p : Nat) (s : State) : State :=
  let f := pllFlds p
  if s.flag f.1 = false then s
  else
    let s := { s.fs f.1 0 with boot := { s.boot with pll := setAt s.boot.pll p false } }
    if p = 2 then
      let s := (s.sticky f.2 0 133).logFault 0x1003 noIndex 2
      if s.up then setLink 1 false (setLink 0 false s) else s
    else
      let s := s.fs f.2 1
      if s.up then enterSafe [⟨0x1002, noIndex, p, none⟩] s else s

/-- The meaning of PLL_LOSS_OF_LOCK (R56). -/
def execPllLossOfLock (p : Fin 3) (s : State) : Out := .next (pllLoss p.val s)

end Sys2Proof.Machine
end

