-- ==== Sys2Proof/Machine/RegBus.lean ====
section
/-! DEFINITION. Writes of register blocks (R4 to R10, R543): the plain fields, the registers whose write is an operation of
its own, and the actions that writes of 1 start. Reads are in Machine/RegView.lean. -/
namespace Sys2Proof.Machine

/-! ### Actions of SYS and of the cranes -/

/-- R436: SYS.CTRL.GO, outside STAGING ignored. -/
def sysGo (s : State) : State := if s.dev = .staging then { s with boot := { s.boot with go := true } } else s

/-- The meaning of SYS_GO (R436). -/
def execSysGo (s : State) : Out := .next (sysGo s)

/-- R5: SYS.LOCK is set by a write of 1; a write of 0 is ignored. -/
def sysLock (v : Nat) (s : State) : State := if v.testBit 0 then { s with locked := true } else s

/-- The meaning of SYS_LOCK_WRITE (R5). -/
def execSysLockWrite (v : Word) (s : State) : Out := .next (sysLock v.toNat s)

/-- A crane channel changed by a function. -/
def State.modCrane (s : State) (c : Nat) (f : Crane → Crane) : State :=
  s.modPort fun p => { p with cranes := setAt p.cranes c (f (s.crane c)) }

/-- R475: CRN.CHCTRLc.START. -/
def craneStart (c : Nat) (s : State) : State :=
  if (s.crane c).busy then s.fsi F.CRN_CHSTATc_WERR c 1
  else s.modCrane c fun _ => { Crane.init with toRead := some (32 * s.fgi F.CRN_CHDESCc_ADDR c) }

/-- The meaning of CRANE_START (R475). -/
def execCraneStart (c : Fin 4) (s : State) : Out := .next (craneStart c.val s)

/-- R479: CRN.CHCTRLc.ABORT between two bursts. -/
def craneAbort (c : Nat) (s : State) : State :=
  if (s.crane c).busy then (s.modCrane c fun _ => Crane.init).fsi F.CRN_CHSTATc_ABORTED c 1 else s

/-! ### Registers whose write is an operation -/

/-- The register is the one that holds a field. -/
def RegDesc.has (d : RegDesc) (f : Fld) : Bool := decide (d.base = f.base)

/-- The part of a written word that goes to a field. -/
def Fld.part (f : Fld) (v : Nat) : Nat := v / 2 ^ f.lo % 2 ^ f.width

/-- R4, R10: a field of a register written in the plain way. -/
def plainWrite (inst v : Nat) (s : State) (f : Fld) : State :=
  let x := f.part v
  match f.acc with
  | .rw => if f.legal x then s.fsi f inst x else s.rsvdEnc
  | .rwl => if s.locked then s else if f.legal x then s.fsi f inst x else s.rsvdEnc
  | .wo => s.fsi f inst x
  | .w1c => s.fsi f inst (s.fgi f inst &&& (2 ^ f.width - 1 - x))
  | .ro => s
  | .w1p => s

/-- All fields of a register written in the plain way. -/
def plainAll (d : RegDesc) (inst v : Nat) (s : State) : State := d.flds.foldl (plainWrite inst v) s

/-- R113: a field of a timing set takes 0 to 24; while a change is pending the write is ignored. -/
def tsetWrite (i v : Nat) (s : State) : State :=
  if s.flagi F.QY_TSSTAT_PEND (i / 8) then s.fsi F.QY_TSSTAT_VALERR (i / 8) 1
  else [F.QY_TSETn_STROBE, F.QY_TSETn_SAMP, F.QY_TSETn_PILOFF].foldl (fun s f =>
    if f.part v ≤ 24 then s.fsi f i (f.part v) else s.fsi F.QY_TSSTAT_VALERR (i / 8) 1) s

/-- CAL.UCFG1 (15): with KIND ELEMENT, bits 31:24 are reserved and keep what they hold (R9). -/
def ucfg1Write (d : RegDesc) (v : Nat) (s : State) : State :=
  let u := s.inst d 0
  let keep := if s.fgi F.CAL_UCFG0_KIND u = 0 then s.fgi F.CAL_UCFG1_SETTLE u / 256 else v / 2 ^ 24
  plainAll d u (v % 2 ^ 24 + keep * 2 ^ 24) s

/-- R483: a write of NET.CFG that changes MODE or AN takes the link down. -/
def netCfgWrite (d : RegDesc) (p v : Nat) (s : State) : State :=
  let t := plainAll d p v s
  if t.fgi F.NET_CFG_MODE p = s.fgi F.NET_CFG_MODE p ∧ t.fgi F.NET_CFG_AN p = s.fgi F.NET_CFG_AN p then t
  else netRestart p t

/-- R387: until the first band has been computed, TMP.BANDCFG.INIT is the band. -/
def bandcfgWrite (d : RegDesc) (v : Nat) (s : State) : State :=
  let s := plainAll d 0 v s
  if s.cal.bandDone then s else s.fs F.SEG_STAT_BAND (s.fg F.TMP_BANDCFG_INIT)

/-- The fields of a register after its write, for those whose write is more than R4 says; none for every other register. -/
def specialWrite (d : RegDesc) (i v : Nat) (s : State) : Option State :=
  let w : Word := BitVec.ofNat 32 v
  if d.has F.QY_DRVCFG_MODE then some (drvcfgWrite i w s)
  else if d.has F.QY_HALFLVL_LEVEL then some (halflvlWrite i w s)
  else if d.has F.QY_RNGGAINr_GAIN then some (rnggainWrite (i / 4) (i % 4) w s)
  else if d.has F.QY_TSETn_STROBE then some (tsetWrite i v s)
  else if d.has F.QY_TSASGj_SET0 then
    if s.flagi F.QY_TSSTAT_PEND (i / 48) then some (s.fsi F.QY_TSSTAT_VALERR (i / 48) 1) else none
  else if d.has F.CAL_UCFG1_AMP then some (ucfg1Write d v s)
  else if d.has F.PIL_SCFG0_INC || d.has F.PIL_SCFG1_PHOFF || d.has F.PIL_SCFG2_AMP then
    if s.flag F.PIL_STAT_BUSY then some (s.fs F.PIL_STAT_WERR 1) else none
  else if d.has F.TID_SHDR_NENTRY then some (shdrWrite v s)
  else if d.has F.TID_SBASE_BASE then some (sbaseWrite v s)
  else if d.has F.TID_EWw_WORD then some (ewWrite i v s)
  else if d.has F.TIM_TBnCTRL_VALID then if i = 1 ∨ i = 2 then none else some s
  else if d.has F.TIM_TBnINCLO_INC then if i = 1 ∨ i = 2 then none else some s
  else if d.has F.TIM_TBnINCHI_INC then some (tbIncWrite i w s)
  else if d.has F.TIM_TBnADJHI_ADJ then some (tbAdjWrite i w s)
  else if d.has F.TIM_PPSNEXT_NS then some (ppsNextWrite w s)
  else if d.has F.CAL_TRIM_VALUE then some (calTrimWrite (v % 16) s)
  else if d.has F.CAL_QTRIG_QUAY then some (qtrigClear v s)
  else if d.has F.CAL_STAT_DIETRIG then
    let t := plainAll d i v s
    some (if F.CAL_STAT_DIETRIG.part v = 1 then dietrigClear t else t)
  else if d.has F.ICU_PENDw_SRC then some (icuPendClear i v s)
  else if d.has F.ICU_OVRw_SRC then some (icuOvrClear i v s)
  else if d.has F.ICU_SETw_SRC then some (icuSet i v s)
  else if d.has F.SBI_UTX_BYTE then some (utxWrite (v % 256) s)
  else if d.has F.SBI_UCFG_DIV then some (uartLevel (plainAll d i v s))
  else if d.has F.CRN_CHDESCc_ADDR then
    if (s.crane i).busy then some (s.fsi F.CRN_CHSTATc_WERR i 1) else none
  else if d.has F.NET_CFG_MODE then some (netCfgWrite d i v s)
  else if d.has F.TMP_BANDCFG_INIT then some (bandcfgWrite d v s)
  else if d.has F.MAN_SLOTCFG_OWNER then some (setOwner s.manSel (v % 256) s)
  else if d.has F.SYS_LOCK_LOCK then some (sysLock v s)
  else none

/-! ### Actions (R543) -/

/-- R80: PIL.CTRL.APPLY written; how soon the change takes effect is left open (log 8). -/
def pilApplyFree (s : State) : State :=
  pilApply ((Config.freeWord s.fresh).toNat % 2) { s with fresh := s.fresh + 1 }

/-- CAL.UCTRL.GO: KIND names the operation. -/
def calGo (s : State) : State := if (s.unitCfg (s.fg F.CAL_USEL_UNIT)).scale then calGoScale s else calGoElement s

/-- The actions of a register of the loop and drive blocks, with their bits. -/
def actsFabric (d : RegDesc) (i : Nat) : List (Nat × (State → State)) :=
  if d.has F.PIL_CTRL_APPLY then [(F.PIL_CTRL_APPLY.lo, pilApplyFree), (F.PIL_CTRL_REVERT.lo, pilRevert)]
  else if d.has F.PIL_ACC_RD then [(F.PIL_ACC_RD.lo, pilAccRd), (F.PIL_ACC_WR.lo, pilAccWr)]
  else if d.has F.QY_DRVCTRL_STATCLR then [(F.QY_DRVCTRL_STATCLR.lo, qyDrvStatclr i)]
  else if d.has F.QY_RNGREQ_GO then [(F.QY_RNGREQ_GO.lo, rngGo i), (F.QY_RNGREQ_CANCEL.lo, rngCancel i)]
  else if d.has F.QY_TSREQ_GO then [(F.QY_TSREQ_GO.lo, tsGo i), (F.QY_TSREQ_CANCEL.lo, tsCancel i)]
  else if d.has F.QY_LNKCTRL_RETRAIN then
    [(F.QY_LNKCTRL_RETRAIN.lo, seekNext i 4), (F.QY_LNKCTRL_RESKEW.lo, reskew i), (F.QY_LNKCTRL_STATCLR.lo, qyLnkStatclr i)]
  else if d.has F.QY_TCHCTRL_RESET then [(F.QY_TCHCTRL_RESET.lo, resetChan i), (F.QY_TCHCTRL_STATCLR.lo, qyTchStatclr i)]
  else if d.has F.QY_TREQ_GO then [(F.QY_TREQ_GO.lo, treqGo i)]
  else if d.has F.SEG_CTRL_STATCLR then [(F.SEG_CTRL_STATCLR.lo, segStatclr)]
  else if d.has F.MOR_CTRL_STATCLR then [(F.MOR_CTRL_STATCLR.lo, morStatclr)]
  else if d.has F.MOR_BCMD_OPEN then
    [(F.MOR_BCMD_OPEN.lo, fun s => bundleCommand s.bsel .opening .opened s),
      (F.MOR_BCMD_CLOSE.lo, fun s => bundleCommand s.bsel .closing .closed s)]
  else if d.has F.MOR_SUBST_GO then [(F.MOR_SUBST_GO.lo, substGo)]
  else []

/-- The actions of a register of the executor, scheduler, tide, Penvar, time, role, mirror and calibration blocks. -/
def actsPlan (d : RegDesc) (i : Nat) : List (Nat × (State → State)) :=
  if d.has F.MAN_CTRL_STATCLR then [(F.MAN_CTRL_STATCLR.lo, manStatclr)]
  else if d.has F.MAN_SLOTCFG_FSET then
    [(F.MAN_SLOTCFG_FSET.lo, fun s => setFailed s.manSel true s), (F.MAN_SLOTCFG_FCLR.lo, fun s => setFailed s.manSel false s)]
  else if d.has F.MAN_CSTAT_CLRDOWN then [(F.MAN_CSTAT_CLRDOWN.lo, fun s => clrDown (s.fg F.MAN_CSEL_CIRCUIT) s)]
  else if d.has F.SCH_CTRL_STATCLR then [(F.SCH_CTRL_STATCLR.lo, schStatclr)]
  else if d.has F.SCH_QCTRL_FLUSH then [(F.SCH_QCTRL_FLUSH.lo, fun s => queueFlush (s.fg F.SCH_QSEL_QUEUE) s)]
  else if d.has F.TID_CTRL_ARM then
    [(F.TID_CTRL_ARM.lo, tideArm), (F.TID_CTRL_CANCEL.lo, tideCancel), (F.TID_CTRL_STOP.lo, tideStop),
      (F.TID_CTRL_STATCLR.lo, tidStatclr)]
  else if d.has F.PVE_CTRL_STATCLR then [(F.PVE_CTRL_STATCLR.lo, pveStatclr)]
  else if d.has F.PVE_SCMD_ACCEPT then
    [(F.PVE_SCMD_ACCEPT.lo, scmdAccept), (F.PVE_SCMD_REFUSE.lo, scmdRefuse), (F.PVE_SCMD_CLOSE.lo, scmdClose)]
  else if d.has F.TIM_CTRL_STATCLR then [(F.TIM_CTRL_STATCLR.lo, timStatclr)]
  else if d.has F.EVT_CTRL_STATCLR then [(F.EVT_CTRL_STATCLR.lo, evtStatclr)]
  else if d.has F.EVT_POPn_POP then [(F.EVT_POPn_POP.lo, evtPop i)]
  else if d.has F.ROL_CMD_SWAP then
    [(F.ROL_CMD_SWAP.lo, rolSwap), (F.ROL_CMD_SWCANCEL.lo, rolSwcancel), (F.ROL_CMD_STATCLR.lo, rolStatclr)]
  else if d.has F.MIR_CTRL_EPOCH then
    [(F.MIR_CTRL_EPOCH.lo, mirEpoch), (F.MIR_CTRL_RESYNC.lo, mirResync), (F.MIR_CTRL_RETRAIN.lo, mirTrain),
      (F.MIR_CTRL_STATCLR.lo, mirStatclr)]
  else if d.has F.TMP_CTRL_STATCLR then [(F.TMP_CTRL_STATCLR.lo, tmpStatclr)]
  else if d.has F.CAL_CTRL_STORE then [(F.CAL_CTRL_STORE.lo, calStore), (F.CAL_CTRL_STATCLR.lo, calStatclr)]
  else if d.has F.CAL_UCTRL_GO then [(F.CAL_UCTRL_GO.lo, calGo), (F.CAL_UCTRL_CANCEL.lo, calCancel)]
  else if d.has F.CAL_SUBMIT_GO then [(F.CAL_SUBMIT_GO.lo, calSubmit)]
  else []

/-- The actions of a register of the other blocks; `m` is the master that writes. -/
def actsSystem (d : RegDesc) (i m : Nat) : List (Nat × (State → State)) :=
  if d.has F.CKG_CTRL_STATCLR then [(F.CKG_CTRL_STATCLR.lo, ckgStatclr)]
  else if d.has F.SYS_CTRL_GO then [(F.SYS_CTRL_GO.lo, sysGo), (F.SYS_CTRL_SWRST.lo, enterOff F.SYS_RSTCAUSE_SOFT)]
  else if d.has F.OTP_PCMD_PROG then [(F.OTP_PCMD_PROG.lo, otpProg), (F.OTP_PCMD_CANCEL.lo, otpCancel)]
  else if d.has F.XSP_OPCMD_GO then [(F.XSP_OPCMD_GO.lo, fun s => xspSubmit (s.fg F.XSP_OPCMD_KIND) s)]
  else if d.has F.XSP_OPCTRL_CANCEL then [(F.XSP_OPCTRL_CANCEL.lo, xspCancel), (F.XSP_OPCTRL_STATCLR.lo, xspStatclr)]
  else if d.has F.TSQ_SEMk_ACQ then [(F.TSQ_SEMk_ACQ.lo, semAcq i m), (F.TSQ_SEMk_REL.lo, semRel i m)]
  else if d.has F.TSQ_CTLn_START then [(F.TSQ_CTLn_START.lo, tsqStart i), (F.TSQ_CTLn_HALT.lo, tsqHalt i)]
  else if d.has F.TSQ_WDKICKn_KICK then [(F.TSQ_WDKICKn_KICK.lo, wdKick i)]
  else if d.has F.ICU_CTRL_STATCLR then [(F.ICU_CTRL_STATCLR.lo, icuStatclr)]
  else if d.has F.MTX_CTRL_STATCLR then [(F.MTX_CTRL_STATCLR.lo, mtxStatclr)]
  else if d.has F.CRN_CTRL_STATCLR then [(F.CRN_CTRL_STATCLR.lo, crnStatclr)]
  else if d.has F.CRN_CHCTRLc_START then [(F.CRN_CHCTRLc_START.lo, craneStart i), (F.CRN_CHCTRLc_ABORT.lo, craneAbort i)]
  else if d.has F.NET_CTRL_ANRST then
    [(F.NET_CTRL_ANRST.lo, netAnrst i), (F.NET_CTRL_ANNOUNCE.lo, announce i [0, 1, 2, 3]), (F.NET_CTRL_STATCLR.lo, netStatclr i)]
  else if d.has F.NET_PRX_POP then [(F.NET_PRX_POP.lo, prxPop i)]
  else if d.has F.NET_PTXCMD_GO then [(F.NET_PTXCMD_GO.lo, ptxGo i)]
  else if d.has F.SBI_MBCTRL_ACK then [(F.SBI_MBCTRL_ACK.lo, mbAck), (F.SBI_MBCTRL_POST.lo, mbPost)]
  else if d.has F.SBI_UCTRL_RXPOP then
    [(F.SBI_UCTRL_RXPOP.lo, rxPop), (F.SBI_UCTRL_FLUSH.lo, uartFlush), (F.SBI_UCTRL_STATCLR.lo, sbiStatclr)]
  else if d.has F.DBG_CTRL_STATALL then
    [(F.DBG_CTRL_STATALL.lo, statAll), (F.DBG_CTRL_SAFE.lo, dbgSafe),
      (F.DBG_CTRL_PUT.lo, dbgPut)]
  else []

/-- The actions of a register, in ascending bit order. -/
def acts (d : RegDesc) (i m : Nat) : List (Nat × (State → State)) := actsFabric d i ++ actsPlan d i ++ actsSystem d i m

/-- R543: the exclusive sets, as the fields of one register each. -/
def exclusive : List (List Fld) :=
  [[F.QY_RNGREQ_GO, F.QY_RNGREQ_CANCEL], [F.QY_TSREQ_GO, F.QY_TSREQ_CANCEL], [F.QY_LNKCTRL_RETRAIN, F.QY_LNKCTRL_RESKEW],
    [F.MOR_BCMD_OPEN, F.MOR_BCMD_CLOSE], [F.MAN_SLOTCFG_FSET, F.MAN_SLOTCFG_FCLR], [F.PIL_CTRL_APPLY, F.PIL_CTRL_REVERT],
    [F.TID_CTRL_ARM, F.TID_CTRL_CANCEL, F.TID_CTRL_STOP], [F.PVE_SCMD_ACCEPT, F.PVE_SCMD_REFUSE, F.PVE_SCMD_CLOSE],
    [F.ROL_CMD_SWAP, F.ROL_CMD_SWCANCEL], [F.MIR_CTRL_EPOCH, F.MIR_CTRL_RESYNC], [F.CAL_UCTRL_GO, F.CAL_UCTRL_CANCEL],
    [F.CRN_CHCTRLc_START, F.CRN_CHCTRLc_ABORT], [F.OTP_PCMD_PROG, F.OTP_PCMD_CANCEL], [F.SYS_CTRL_GO, F.SYS_CTRL_SWRST],
    [F.TSQ_CTLn_START, F.TSQ_CTLn_HALT], [F.TSQ_SEMk_ACQ, F.TSQ_SEMk_REL]]

/-- R543: the bits of the exclusive set of a register. -/
def exclBits (d : RegDesc) : List Nat :=
  match exclusive.find? fun l => l.any d.has with
  | some l => l.map (·.lo)
  | none => []

/-- R543: the actions that a written word starts. -/
def startActs (d : RegDesc) (i m v : Nat) (s : State) : State :=
  let ex := exclBits d
  let multi := decide (2 ≤ (ex.filter fun b => v.testBit b).length)
  let s := if multi then s.sticky F.SYS_ERRSTAT_W1PMULTI 0 139 else s
  (acts d i m).foldl (fun s a => if v.testBit a.1 && !(multi && decide (a.1 ∈ ex)) then a.2 s else s) s

/-- A write of an aligned word of a register block by a master. An offset without a register ignores it (R8), but for the
transmit buffers of the NET ports (R494). -/
def regWrite (m a v : Nat) (s : State) : State :=
  match regFind a regDescs with
  | some (d, i) =>
    let t := match specialWrite d i v s with
      | some t => t
      | none => plainAll d (s.inst d i) v s
    startActs d i m v t
  | none =>
    match netBuf a with
    | some (p, o) => if 0x2000 ≤ o then s.modNet p fun x => { x with mem := tsetBytes x.mem 0 o (leBytes 4 v) } else s
    | none => s

end Sys2Proof.Machine
end

