-- ==== Sys2Proof/Machine/Bus.lean ====
section
/-! DEFINITION. The bus matrix (18): accesses and their error responses, ECC, arbitration, bursts in flight, and the posted
stores of the sequencers (17, R440). A cycle is a CORE cycle counted from the tick. -/
namespace Sys2Proof.Machine

/-! ### Error responses (R461, R468 to R472) -/

/-- R472: the masters whose writes of guarded areas are refused. -/
def guardedMaster (m : Nat) : Bool := decide (m < 5) || decide (m = 10)

/-- R498: the registers that M10 reaches in SAFE: SYS, OTP and XSP. -/
def safeBlock (a : Nat) : Bool := decide (a / 0x10000 ∈ [0x4000, 0x4007, 0x4008])

/-- R468: the cause for which an access of a master ends with an error response, but for ECC, or 0. -/
def accCause (m a : Nat) (write : Bool) (s : State) : Nat :=
  match target a with
  | .tbl a => if write && guardedMaster m && s.guarded a then 6 else 0
  | .win p _ => if s.dev = .safe then 1 else if s.engState p = 2 then 4 else 0
  | .iram n _ =>
    if s.dev = .safe then 1
    else if write && decide ((s.sq n).st ≠ .halted) && decide ((s.sq n).st ≠ .fault) then 5 else 0
  | .dram _ _ => if s.dev = .safe then 1 else 0
  | .reg a => if s.dev = .safe ∧ safeBlock a = false then 1 else 0
  | .none => 1

/-- R468, R469: the cause for which an access ends with an error response, or 0; a `part` write has some strobes, not all. -/
def accErr (m a : Nat) (write part : Bool) (s : State) : Nat :=
  match accCause m a write s with
  | 0 => if (!write || part) && s.beatBad a then 3 else 0
  | e => e

/-- R469: the uncorrectable words of a beat, each an event. They stay so until a write replaces the beat. -/
def eccNote (m a : Nat) (s : State) : State :=
  (inBeat a s.fab.badWords).foldl (fun s _ => (s.bump F.MTX_ECCUNC).logFault 0x6001 (a / 32 % 8) m) s

/-- R469: an uncorrectable word of table memory meets an access. -/
def eccFail (m a : Nat) (write : Bool) (s : State) : State := matrixError m 3 write a (eccNote m a s)

/-- R469: a read of a beat corrects its words that hold a correctable error. -/
def eccMend (a : Nat) (s : State) : State :=
  let l := inBeat a s.fab.weakWords
  if l = [] then s
  else (l.foldl (fun s _ => s.bump F.MTX_ECCCOR) s).modFab fun x =>
    { x with weakWords := x.weakWords.filter fun w => decide (w ∉ l) }

/-- R468, R469: an access ends with an error response. -/
def accFail (m e : Nat) (write : Bool) (a : Nat) (s : State) : State :=
  if e = 3 then eccFail m a write s else matrixError m e write a s

/-- R461, R7: an access of a register block that is not one aligned word. -/
def regAlign (m a : Nat) (write : Bool) (s : State) : State :=
  matrixError m 2 write a (s.sticky F.SYS_ERRSTAT_ALIGN 0 139)

/-! ### What an access does at its target (R47, R469, R470) -/

/-- R47: beats that the window of an engine serves at a cycle stall it. -/
def stallAt (p cycle n : Nat) (s : State) : State :=
  s.modFab fun x =>
    { x with stalls := x.stalls.filter (fun y => decide (y.2.1 ≤ cycle)) ++ [(p, cycle, n)]
        ++ x.stalls.filter fun y => decide (cycle < y.2.1) }

/-- R47: the stall that a beat brings about where it reaches the window of an engine. -/
def noteStall (a cycle : Nat) (s : State) : State :=
  match target a with
  | .win p _ => stallAt p cycle 1 s
  | _ => s

/-- Words of an engine window, changed where bytes are written. -/
def winPut (p off : Nat) (bytes : List Byte) (s : State) : State :=
  (List.range ((off + bytes.length + 3) / 4 - off / 4)).foldl (fun s k =>
    let w := off / 4 * 4 + 4 * k
    let v := leNat ((List.range 4).map fun j =>
      if off ≤ w + j ∧ w + j < off + bytes.length then bytes.getD (w + j - off) 0 else winByte s p (w + j))
    winWrite p w v s) s

/-- Bytes of one beat, but of a register block, as a read finds them. -/
def memGet (a n cycle : Nat) (s : State) : List Byte × State := (mtxBytes s a n, noteStall a cycle (eccMend a s))

/-- Bytes of one beat written where an address leads, but to a register block. -/
def memPutAt (a : Nat) (bytes : List Byte) (s : State) : State :=
  match target a with
  | .tbl a => tblPut a bytes s
  | .win p o => winPut p o bytes s
  | .iram n o => ramPut n true o bytes s
  | .dram n o => ramPut n false o bytes s
  | _ => s

/-- Bytes of one beat, or one word of a register block, as a read finds them. -/
def accGet (a n cycle : Nat) (s : State) : List Byte × State :=
  match target a with
  | .reg a =>
    let r := regRead a (cycle / 4) s
    (leBytes 4 r.1, r.2)
  | _ => memGet a n cycle s

/-- Bytes of one beat, or one word of a register block, written where an address leads. -/
def accPut (m a : Nat) (bytes : List Byte) (s : State) : State :=
  match target a with
  | .reg a => regWrite m a (leNat bytes) s
  | _ => memPutAt a bytes s

/-- R467: bytes read and discarded. -/
def accDrop (a n cycle : Nat) (s : State) : State := (accGet a n cycle s).2

/-- The strobed bytes of a beat written. -/
def putStrobes (m a : Nat) (bytes : List Byte) (st : BitVec 32) (s : State) : State :=
  if st.toNat = 2 ^ 32 - 1 then accPut m a bytes s
  else (List.range 32).foldl (fun s i => if st.getLsbD i then accPut m (a + i) [bytes.getD i 0] s else s) s

/-! ### Single accesses -/

/-- Bytes that a master reads within one beat, or one word of a register block; none where the access ends with an error
response. -/
def accRead (m a n cycle : Nat) (s : State) : Option (List Byte) × State :=
  match accErr m a false false s with
  | 0 =>
    let r := accGet a n cycle s
    (some r.1, r.2)
  | e => (none, accFail m e false a s)

/-- Bytes that a master writes within one beat, or one word of a register block; whether the access was carried out. -/
def accWrite (m a cycle : Nat) (bytes : List Byte) (s : State) : Bool × State :=
  match accErr m a true (decide (bytes.length < 32)) s with
  | 0 => (true, accPut m a bytes (noteStall a cycle s))
  | e => (false, accFail m e true a s)

/-- R467: a beat read for a master that has been reset: no error response is raised. -/
def quietRead (m : Nat) (drop : Nat → Nat → Nat → State → State) (a n cycle : Nat) (s : State) : State :=
  match accErr m a false false s with
  | 0 => drop a n cycle s
  | 3 => eccNote m a s
  | _ => s

/-- R467: a beat written for a master that has been reset. -/
def quietWrite (m a cycle : Nat) (bytes : List Byte) (st : BitVec 32) (s : State) : State :=
  match accErr m a true (decide (st ≠ 0) && decide (st.toNat ≠ 2 ^ 32 - 1)) s with
  | 0 => putStrobes m a bytes st (noteStall a cycle s)
  | 3 => eccNote m a s
  | _ => s

/-! ### Arbitration (R460, R463 to R465) -/

/-- R460: the number of the target that an address lies at: a bank of table memory, 8 engine windows, 9 sequencer RAMs, 10 the
bridge. -/
def targetNo (a : Nat) : Option Nat :=
  match target a with
  | .tbl a => some (a / 32 % 8)
  | .win _ _ => some 8
  | .iram _ _ => some 9
  | .dram _ _ => some 9
  | .reg _ => some 10
  | .none => none

/-- R463: the priority of a master at a target. -/
def State.priority (s : State) (t m : Nat) : Nat :=
  if t < 8 then s.fgi F.MTX_PRIm_TBL m
  else if t = 8 then s.fgi F.MTX_PRIm_ENG m
  else if t = 9 then s.fgi F.MTX_PRIm_SEQ m
  else s.fgi F.MTX_PRIm_BRG m

/-- R463: the first of some masters at or after the round-robin pointer of a target. -/
def roundRobin (ptr : Nat) (ms : List Nat) : Option Nat :=
  ((List.range 11).map fun k => (ptr + k) % 11).find? fun m => decide (m ∈ ms)

/-- R463, R464: the master that a target grants among those that wait, each with the cycles it has waited. -/
def winner (t : Nat) (waiting : List (Nat × Nat)) (s : State) : Option Nat :=
  let ptr := tget 0 s.port.rr t
  let age := s.fg F.MTX_AGE_CYCLES
  let old := waiting.filter fun w => decide (age ≠ 0) && decide (age ≤ w.2)
  if old ≠ [] then roundRobin ptr (old.map (·.1))
  else
    let best := (waiting.map fun w => s.priority t w.1).foldl Nat.min 15
    roundRobin ptr ((waiting.filter fun w => decide (s.priority t w.1 = best)).map (·.1))

/-- R463: a target has granted a master: its pointer moves past the winner, and MTX.WAITHWMm follows the wait. -/
def grantAt (t m waited : Nat) (s : State) : State :=
  (s.mark F.MTX_WAITHWMm_CYCLES m (Nat.min 0xFFFF waited)).modPort fun p => { p with rr := tset 0 p.rr t ((m + 1) % 11) }

/-! ### Bursts (R461, R462, R467) -/

/-- The number of beats of a burst. -/
def Burst.len (b : Burst) : Nat :=
  match b.write with
  | some l => l.length
  | none => b.beats

/-- R461: a burst that a master can issue. A burst to the bridge of any shape ends with an error response (R7). -/
def Burst.wellShaped (b : Burst) : Bool :=
  decide (1 ≤ b.len) && decide (b.len ≤ 8) &&
    (match target b.addr with
    | .reg _ => true
    | _ => decide (b.addr % 32 = 0) && decide (b.addr % 256 + 32 * b.len ≤ 256))

/-- R461: the word that four strobes cover: exactly one aligned word. -/
def wordOf (st : BitVec 32) : Option Nat := (List.range 8).find? fun j => decide (st.toNat = 15 * 2 ^ (4 * j))

/-- R461: the word that a burst to the bridge covers; none where it breaks the rule. -/
def Burst.word (b : Burst) : Option Nat :=
  if b.addr % 32 = 0 then
    match b.write with
    | some [w] => wordOf w.2
    | some _ => none
    | none => if b.beats = 1 then wordOf b.strobes else none
  else none

/-- The bytes and strobes of beat `k` of a write. -/
def Burst.put (b : Burst) (k : Nat) : List Byte × BitVec 32 := (b.write.getD []).getD k ([], 0)

/-- R467: a burst that is completed towards its target counts. -/
def burstReset (s : State) : State := s.bump F.MTX_RSTCNT

/-- R461, R468: beat `k` of a burst: the bytes read (none of a write), or none at an error response. -/
def beatDo (b : Burst) (k cycle : Nat) (s : State) : Option (List Byte) × State :=
  match target b.addr with
  | .reg _ =>
    match b.word with
    | some j =>
      let a := b.addr + 4 * j
      if b.write.isSome then
        let r := accWrite b.master a cycle (slice (b.put 0).1 (4 * j) 4) s
        (if r.1 then some [] else none, r.2)
      else accRead b.master a 4 cycle s
    | none => (none, regAlign b.master b.addr b.write.isSome s)
  | _ =>
    let a := b.addr + 32 * k
    if b.write.isSome then
      let w := b.put k
      match accErr b.master a true (decide (w.2 ≠ 0) && decide (w.2.toNat ≠ 2 ^ 32 - 1)) s with
      | 0 => (some [], putStrobes b.master a w.1 w.2 (noteStall a cycle s))
      | e => (none, accFail b.master e true a s)
    else accRead b.master a 32 cycle s

/-- R467: beat `k` of a burst whose master has been reset: a write whose data it had delivered is carried out, any other beat of a
write has no strobe, and what is read is discarded. -/
def beatQuiet (b : Burst) (delivered k cycle : Nat) (s : State) : State :=
  match target b.addr with
  | .reg _ =>
    match b.word with
    | some j =>
      let a := b.addr + 4 * j
      if b.write.isNone then quietRead b.master accDrop a 4 cycle s
      else if k < delivered ∧ accErr b.master a true true s = 0 then
        accPut b.master a (slice (b.put 0).1 (4 * j) 4) s
      else s
    | none => s
  | _ =>
    let a := b.addr + 32 * k
    if b.write.isNone then quietRead b.master accDrop a 32 cycle s
    else if k < delivered then quietWrite b.master a cycle (b.put k).1 (b.put k).2 s
    else quietWrite b.master a cycle [] 0 s

/-- R467, R468: the beats of a burst from beat `k` on, completed as for a reset where some are left. -/
def burstRest (b : Burst) (delivered k cycle : Nat) (s : State) : State :=
  if b.len ≤ k then s
  else burstReset ((List.range (b.len - k)).foldl (fun s i => beatQuiet b delivered (k + i) (cycle + i) s) s)

/-! ### Bursts of a device engine, which moves ranges of bytes -/

/-- The beats that a range of bytes takes. -/
def beatsOf (a n : Nat) : Nat := (a + n + 31) / 32 - a / 32

/-- The parts of a range, one to a beat. -/
def splitBeats : Nat → Nat → Nat → List (Nat × Nat)
  | 0, _, _ => []
  | fuel + 1, a, n =>
    if n = 0 then []
    else
      let k := Nat.min n (32 - a % 32)
      (a, k) :: splitBeats fuel (a + k) (n - k)

/-- The bytes of a write, beat by beat. -/
def fillBeats : List (Nat × Nat) → List Byte → List (Nat × List Byte)
  | [], _ => []
  | x :: r, b => (x.1, b.take x.2) :: fillBeats r (b.drop x.2)

/-- R467: beats that are read for a master that has stopped; `drop` is what a read does. -/
def quietReads (m : Nat) (drop : Nat → Nat → Nat → State → State) (cycle : Nat) (l : List (Nat × Nat)) (s : State) : State :=
  (List.range l.length).foldl (fun s k =>
    let x := l.getD k (0, 0)
    quietRead m drop x.1 x.2 (cycle + k) s) s

/-- R467: beats of a write completed for a master that has stopped: those whose data it had delivered are written with `put`. -/
def quietWrites (m : Nat) (put : Nat → List Byte → State → State) (delivered cycle : Nat) (l : List (Nat × List Byte))
    (s : State) : State :=
  (List.range l.length).foldl (fun s k =>
    let x := l.getD k (0, [])
    let given := decide (k < delivered)
    match accErr m x.1 true (given && decide (x.2.length < 32)) s with
    | 0 =>
      let s := noteStall x.1 (cycle + k) s
      if given then put x.1 x.2 s else s
    | 3 => eccNote m x.1 s
    | _ => s) s

/-- A burst read beat by beat with `get`; none at an error response, the rest of the burst being completed (R467, R468). -/
def burstRead (m : Nat) (get : Nat → Nat → Nat → State → Option (List Byte) × State) (drop : Nat → Nat → Nat → State → State)
    (cycle : Nat) : List (Nat × Nat) → List Byte → State → Option (List Byte) × State
  | [], acc, s => (some acc, s)
  | x :: r, acc, s =>
    let y := get x.1 x.2 cycle s
    match y.1 with
    | some b => burstRead m get drop (cycle + 1) r (acc ++ b) y.2
    | none => (none, if r = [] ∨ y.2.dev = .off then y.2 else burstReset (quietReads m drop (cycle + 1) r y.2))

/-- A burst written beat by beat with `write`; whether every beat was carried out. `k` beats have gone before; after an error
response those delivered are still written (R467, R468). -/
def burstWrite (m : Nat) (write : Nat → Nat → List Byte → State → Bool × State) (put : Nat → List Byte → State → State)
    (delivered k cycle : Nat) : List (Nat × List Byte) → State → Bool × State
  | [], s => (true, s)
  | x :: r, s =>
    let y := write x.1 (cycle + k) x.2 s
    if y.1 then burstWrite m write put delivered (k + 1) cycle r y.2
    else
      (false, if r = [] ∨ y.2.dev = .off then y.2
        else burstReset (quietWrites m put (delivered - (k + 1)) (cycle + k + 1) r y.2))

/-! ### Bursts in flight (R462 to R464, R467) -/

/-- R467: a burst in flight whose master has been reset is completed. -/
def flightReset (m : Nat) (f : InFlight) (s : State) : State :=
  burstReset ((List.range (f.burst.len - f.done)).foldl (fun s i =>
    beatQuiet f.burst f.delivered (f.done + i) (f.cycle + i) s) (s.setFlight m none))

/-- R467: the matrix completes the bursts in flight of masters that have been reset. -/
def settleResets (s : State) : State :=
  s.port.flights.foldl (fun s e =>
    match e.2 with
    | some f => if f.reset ∧ s.flight e.1 = some f then flightReset e.1 f s else s
    | none => s) s

/-- R440: a burst of a sequencer is its oldest posted store. -/
def burstIsStore (b : Burst) (s : State) : Bool :=
  match (s.sq b.master).posted, b.write, b.word with
  | p :: _, some [w], some j => decide (p.addr = b.addr + 4 * j) && decide (leBytes 4 p.data.toNat = slice w.1 (4 * j) 4)
  | _, _, _ => false

/-- R440, R466: a burst ends, with an error response or without. A read answers in `rdata`; a store of a sequencer leaves its
buffer, and an error response of a sequencer's access is a bus error. -/
def burstEnd (m : Nat) (f : InFlight) (err : Bool) (s : State) : State :=
  let s := s.setFlight m none
  if s.dev = .off then s
  else
    let s := if f.burst.write.isNone then { s with rdata := leNat f.data } else s
    if 4 ≤ m then s
    else
      match f.burst.write.isSome, (s.sq m).posted with
      | true, p :: r =>
        let s := s.setSq m { s.sq m with posted := r }
        if err then seqBusErr m p.addr p.pc s else s
      | _, _ => if err then seqBusErr m f.burst.addr (s.sq m).pc s else s

/-- Up to `n` beats of a burst, from the first that is still to be done; the rest stays in flight (R462). -/
def flightBeats (m : Nat) : Nat → InFlight → Nat → State → State
  | 0, f, cycle, s => if s.dev = .off then s else s.setFlight m (some { f with cycle := cycle, waited := 0 })
  | n + 1, f, cycle, s =>
    let r := beatDo f.burst f.done cycle s
    match r.1 with
    | none => burstEnd m f true (burstRest f.burst f.delivered (f.done + 1) (cycle + 1) r.2)
    | some x =>
      let f := { f with done := f.done + 1, data := f.data ++ x }
      if f.burst.len ≤ f.done then burstEnd m f false r.2 else flightBeats m n f (cycle + 1) r.2

/-- The target that the next beat of a burst in flight waits for. -/
def InFlight.target (f : InFlight) : Option Nat := targetNo (f.burst.addr + 32 * f.done)

/-- R462: the target of a burst grants it: a bank one beat, any other target all that is left. An address without a target ends it
at once (R468). -/
def flightStep (m : Nat) (f : InFlight) (cycle waited : Nat) (s : State) : State :=
  match f.target with
  | some t => flightBeats m (if t < 8 then 1 else f.burst.len - f.done) f cycle (grantAt t m waited s)
  | none => flightBeats m (f.burst.len - f.done) f cycle s

/-- How long a burst in flight has waited at a cycle. -/
def InFlight.waits (f : InFlight) (cycle : Nat) : Nat := f.waited + (cycle - f.cycle)

/-- The masters other than `m` whose bursts in flight wait at a target, with their waits. -/
def State.waiters (s : State) (t m cycle : Nat) : List (Nat × Nat) :=
  s.port.flights.filterMap fun e =>
    match e.2 with
    | some f => if e.1 ≠ m ∧ f.target = some t then some (e.1, f.waits cycle) else none
    | none => none

/-- R463, R464: the bursts in flight that a target grants before master `m`, which has waited. -/
def serveAhead : Nat → Nat → Nat → Nat → Nat → State → State
  | 0, _, _, _, _, s => s
  | n + 1, t, m, cycle, waited, s =>
    match winner t ((m, waited) :: s.waiters t m cycle) s with
    | some w =>
      match s.flight w with
      | some f => if w = m then s else serveAhead n t m (cycle + 1) (waited + 1) (flightStep w f cycle (f.waits cycle) s)
      | none => s
    | none => s

/-- Each master issues one burst at a time (R459): the rest of its burst in flight comes first. -/
def flightFinish (m : Nat) : Nat → Nat → State → State
  | 0, _, s => s
  | n + 1, cycle, s =>
    match s.flight m with
    | none => s
    | some f =>
      let s := match f.target with
        | some t => serveAhead 11 t m cycle (f.waits cycle) s
        | none => s
      match s.flight m with
      | some f => flightFinish m n (cycle + 1) (flightStep m f cycle (f.waits cycle) s)
      | none => s

/-- R463, R464: what comes before an access of a master at an address, and the grant. Its wait is the bursts granted before it
(log 59). -/
def busTake (m a cycle : Nat) (s : State) : State :=
  let s := flightFinish m 9 cycle (settleResets s)
  match targetNo a with
  | none => s
  | some t =>
    let r := serveAhead 11 t m cycle 0 s
    if r.dev = .off then r else grantAt t m ((s.waiters t m cycle).length - (r.waiters t m cycle).length) r

/-- An access of a master that reads, once its target grants it. -/
def busRead (m a n cycle : Nat) (s : State) : Option (List Byte) × State :=
  let t := busTake m a cycle s
  if t.dev = .off then (none, t) else accRead m a n cycle t

/-- An access of a master that writes, once its target grants it; whether it was carried out. A write of a register may reset
masters (R467). -/
def busWrite (m a cycle : Nat) (bytes : List Byte) (s : State) : Bool × State :=
  let t := busTake m a cycle s
  if t.dev = .off then (false, t)
  else
    let r := accWrite m a cycle bytes t
    (r.1, settleResets r.2)

/-! ### Posted stores (R440) -/

/-- R440: the oldest posted store is carried out. -/
def drainOne (n cycle : Nat) (s : State) : State :=
  let s := flightFinish n 9 cycle s
  match (s.sq n).posted with
  | [] => s
  | p :: r =>
    let t := busWrite n p.addr cycle (leBytes 4 p.data.toNat) (s.setSq n { s.sq n with posted := r })
    if t.1 || decide (t.2.dev = .off) then t.2 else seqBusErr n p.addr p.pc t.2

/-- R440: every posted store is carried out, in order. -/
def drainAll (n cycle : Nat) (s : State) : State :=
  (List.range (s.sq n).posted.length).foldl (fun s _ => drainOne n cycle s) s

/-- R440, R466: the accesses of a master that come before another of it. -/
def drainMaster (m cycle : Nat) (s : State) : State := if m < 4 then drainAll m cycle s else s

/-! ### Rows -/

/-- A word written by a master. -/
def wordWrite (m a cycle v : Nat) (s : State) : State :=
  if s.dev = .off then s
  else
    let s := drainMaster m cycle s
    if s.dev = .off then s
    else if a % 4 ≠ 0 then regAlign m a true s
    else (busWrite m a cycle (leBytes 4 v) s).2

/-- The meaning of ENGINE_WINDOW_WRITE (R142, R468): a master writes the word at a word offset of the window of a physical
engine. -/
def execEngineWindowWrite (w : WinBeat) (off : Fin 16384) (v : Word) (s : State) : Out :=
  .next (wordWrite w.master.val (0x10000000 + 0x10000 * w.phys.val + 4 * off.val) w.cycle v.toNat s)

/-- A word of a register block written by a master. -/
def regAccess (m a v : Nat) (s : State) : State := wordWrite m a 0 v s

/-- The meaning of REGISTER_WRITE (R4): the word at an offset from 0x4000_0000 written by a master. -/
def execRegisterWrite (master : Fin 11) (a : BitVec 22) (v : Word) (s : State) : Out :=
  .next (regAccess master.val (0x40000000 + a.toNat) v.toNat s)

/-- R463 to R465: the target of the next beat of a burst grants it, with those that wait there. -/
def turnGranted (m t : Nat) (c : Claim) (s : State) : Bool :=
  !(decide (t < 8) && c.chunk && decide (c.cycle % 16 ≠ 15))
    && decide (winner t ((m, c.waited) :: c.others ++ s.waiters t m c.cycle) s = some m)

/-- R462 to R465: the claims of a burst in turn; a beat that its target does not grant waits, and the burst stays in flight. -/
def burstTurns (m : Nat) : List Claim → State → State
  | [], s => s
  | c :: l, s =>
    match s.flight m with
    | none => s
    | some f =>
      match f.target with
      | none => flightStep m f c.cycle c.waited s
      | some t =>
        let s := serveAhead 11 t m c.cycle c.waited s
        match s.flight m with
        | none => s
        | some f =>
          if turnGranted m t c s then burstTurns m l (flightStep m f c.cycle c.waited s)
          else s.setFlight m (some { f with cycle := c.cycle, waited := c.waited })

/-- R480: the beats within engine windows of M4's burst stay within CRN.ENGLIM. -/
def withinLimit (p n : Nat) (s : State) : Bool :=
  let lim := s.fg F.CRN_ENGLIM_BEATS
  decide (lim = 0) || decide (tget 0 s.port.craneBeats p + n ≤ lim)

/-- R480: the window that beats of M4 reach counts them. -/
def countBeats (a n : Nat) (s : State) : State :=
  match target a with
  | .win p _ => s.modPort fun x => { x with craneBeats := tmod 0 x.craneBeats p (· + n) }
  | _ => s

/-- R480: the limit lets beats of M4 at an address go on. -/
def State.limitOk (s : State) (a n : Nat) : Bool :=
  match target a with
  | .win p _ => withinLimit p n s
  | _ => true

/-- R461: a master issues a burst where it has none in flight. M4's beats at windows are the cranes' (R480). -/
def burstIssue (b : Burst) (g : Grant) (s : State) : State :=
  match s.flight b.master with
  | some f => if f.burst = b then s.setFlight b.master (some { f with delivered := g.delivered }) else s
  | none =>
    let s := if b.master = 4 then countBeats b.addr b.len s else s
    s.setFlight b.master (some ⟨b, 0, [], g.delivered, (g.turns.head?.map (·.cycle)).getD 0, 0, false⟩)

/-- R459, R466, R480: the burst can be issued or go on now: a write of a sequencer is its oldest posted store, and a burst of M4
stays within the limit of the cranes. -/
def burstReady (b : Burst) (s : State) : Bool :=
  match s.flight b.master with
  | some f => decide (f.burst = b) && !f.reset
  | none =>
    (decide (4 ≤ b.master) || b.write.isNone || burstIsStore b s) && (decide (b.master ≠ 4) || s.limitOk b.addr b.len)

/-- A burst on the matrix, as far as its targets grant it. The errors of table memory that have come about take place first. A
read of a sequencer waits for the stores before it (R440). -/
def matrixBurst (b : Burst) (g : Grant) (s : State) : State :=
  if s.dev = .off ∨ 11 ≤ b.master ∨ b.wellShaped = false then s
  else
    let s := s.modFab fun x =>
      { x with
        weakWords := x.weakWords ++ (g.weak.filter fun w => decide (w ∉ x.weakWords)).dedup
        badWords := x.badWords ++ (g.bad.filter fun w => decide (w ∉ x.badWords)).dedup }
    let cycle := (g.turns.head?.map (·.cycle)).getD 0
    let s := settleResets s
    let s := if b.write.isNone ∧ s.flight b.master = none then drainMaster b.master cycle s else s
    if s.dev ≠ .off ∧ burstReady b s = true then settleResets (burstTurns b.master g.turns (burstIssue b g s)) else s

/-- The meaning of MATRIX_BURST (R461). -/
def execMatrixBurst (b : Burst) (g : Grant) (s : State) : Out := .next (matrixBurst b g s)

/-- The end of a frame: every burst in flight has been completed by then, and every posted store (log 58, 59). -/
def busSettle (cycle : Nat) (s : State) : State :=
  (List.range 4).foldl (fun s n => drainAll n cycle s)
    ((List.range 11).foldl (fun s m => flightFinish m 9 cycle s) (settleResets s))

end Sys2Proof.Machine
end

