-- ==== Sys2Proof/Machine/Crane.lean ====
section
/-! DEFINITION. The cranes (18, R474 to R480): descriptors, the bursts of the four channels on M4, the beat limit of an engine
window, and aborts. -/
namespace Sys2Proof.Machine

/-! ### Descriptors and pieces (R474 to R476) -/

/-- R474, R475: the descriptor in 32 bytes read from an address. NEXT of a descriptor with LAST is not checked (log 60). -/
def craneDesc (a : Nat) (b : List Byte) : CraneDesc :=
  let flags := leAt b 12 2
  let last := flags.testBit 0
  let fill := flags.testBit 2
  let src := leAt b 0 4
  let next := leAt b 16 4
  let len := leAt b 8 4
  { addr := a, src := src, dst := leAt b 4 4, len := len % 2 ^ 25, last := last, irq := flags.testBit 1, fill := fill,
    fixdst := flags.testBit 3, next := next
    ok := decide (len < 2 ^ 25) && decide (flags < 16) && decide (leAt b 14 2 = 0) && decide (leNat (slice b 20 12) = 0)
      && (fill || decide (src % 4 = 0)) && decide (leAt b 4 4 % 4 = 0) && decide (len % 4 = 0)
      && (last || decide (next % 32 = 0)) }

/-- R475, R478: a chain ends with an error. -/
def craneFail (c addr cause : Nat) (s : State) : State :=
  let s := (s.modCrane c fun _ => Crane.init).fsi F.CRN_CHCURc_ADDR c addr
  (((s.fsi F.CRN_CHSTATc_ERR c 1).fsi F.CRN_CHSTATc_ERRCODE c cause).raise (128 + c)).bump F.CRN_ERRCNT

/-- R468: the cause of the error response just recorded. -/
def State.lastCause (s : State) : Nat := s.fg F.MTX_ERRSTAT_CAUSE

/-- R476: where the next piece of a descriptor lies: source, destination and bytes. -/
def cranePiece (d : CraneDesc) (moved : Nat) : Nat × Nat × Nat :=
  let src := d.src + moved
  let dst := if d.fixdst then d.dst else d.dst + moved
  let isReg := fun (a : Nat) =>
    match target a with
    | .reg _ => true
    | _ => false
  let word := d.fixdst || isReg dst || (!d.fill && isReg src)
  let n := if word then 4
    else Nat.min (d.len - moved) (Nat.min (256 - dst % 256) (if d.fill then 256 else 256 - src % 256))
  (src, dst, n)

/-! ### Bursts (R459, R467, R476) -/

/-- A burst of a channel on M4: the beats of a read, or those of a write with their bytes. -/
inductive CraneBurst where
  | desc (a : Nat)
  | read (beats : List (Nat × Nat))
  | write (beats : List (Nat × List Byte))
  deriving DecidableEq, Repr

/-- R475, R476: the next burst of a channel: its descriptor, the piece to be read, or the piece to be written. None where it has
nothing left to move. -/
def State.craneBurst (s : State) (c : Nat) : Option CraneBurst :=
  let x := s.crane c
  match x.toRead, x.cur with
  | some a, _ => some (.desc a)
  | none, some d =>
    if d.len ≤ x.moved then none
    else
      let p := cranePiece d x.moved
      match (if d.fill then some ((List.range p.2.2).map fun i => (leBytes 4 d.src).getD (i % 4) 0) else x.buf) with
      | some b => some (.write (fillBeats (splitBeats 9 p.2.1 p.2.2) b))
      | none => some (.read (splitBeats 9 p.1 p.2.2))
  | none, none => none

/-- The address of a burst. -/
def CraneBurst.addr : CraneBurst → Nat
  | .desc a => a
  | .read l => (l.head?.map (·.1)).getD 0
  | .write l => (l.head?.map (·.1)).getD 0

/-- The number of beats of a burst. -/
def CraneBurst.len : CraneBurst → Nat
  | .desc _ => 1
  | .read l => l.length
  | .write l => l.length

/-- R475: a descriptor is read as a burst of one beat; at a register block that is no burst of R461. -/
def descRead (a cycle : Nat) (s : State) : Option (List Byte) × State :=
  match target a with
  | .reg _ => (none, regAlign 4 a false s)
  | _ => busRead 4 a 32 cycle s

/-- R467, R468: a burst that a channel reads; none at an error response. -/
def craneRead (cycle : Nat) (l : List (Nat × Nat)) (s : State) : Option (List Byte) × State :=
  burstRead 4 (busRead 4) accDrop cycle l [] s

/-- R467, R468: a burst that a channel writes; whether every beat was carried out. -/
def craneWrite (at' : CraneAt) (l : List (Nat × List Byte)) (s : State) : Bool × State :=
  burstWrite 4 (busWrite 4) (accPut 4) at'.delivered 0 at'.cycle l s

/-! ### Channels (R475 to R478) -/

/-- R478: a descriptor completes. -/
def craneDone (c : Nat) (d : CraneDesc) (s : State) : State :=
  let s := if d.last then
      ((s.modCrane c fun _ => Crane.init).fsi F.CRN_CHSTATc_DONE c 1).bump F.CRN_XFERCNT
    else s.modCrane c fun _ => { Crane.init with toRead := some d.next }
  if d.irq then s.raise (128 + c) else s

/-- What a step of a channel ends in. -/
inductive CraneEnd where
  | goesOn | complete | held | error | gone
  deriving DecidableEq, Repr

/-- The channel can run: it is busy, and the device's clocks are those of R517 no more. -/
def State.craneReady (s : State) (c : Nat) : Bool := s.clocked && (s.crane c).busy

/-- R475, R477: a descriptor has been read. One that moves nothing completes at once. -/
def craneHave (c a : Nat) (b : List Byte) (s : State) : CraneEnd × State :=
  let d := craneDesc a b
  if d.ok = false then (.error, craneFail c a 7 s)
  else
    let s := (s.modCrane c fun _ => { Crane.init with cur := some d }).fsi F.CRN_CHCURc_ADDR c a
    if d.len = 0 then (.complete, craneDone c d s) else (.goesOn, s)

/-- R478, R479: the beats of a piece have been written. Where the last of the chain is the channel's own ABORT, the chain completes
and the ABORT is ignored. -/
def craneWrote (c : Nat) (d : CraneDesc) (was : State) (s : State) : CraneEnd × State :=
  let moved := (was.crane c).moved + (cranePiece d (was.crane c).moved).2.2
  if s.craneReady c then
    if d.len ≤ moved then (.complete, craneDone c d s)
    else (.goesOn, s.modCrane c fun x => { x with moved := moved, buf := none })
  else if s.clocked && d.last && decide (d.len ≤ moved) then
    (.complete, craneDone c d (s.fsi F.CRN_CHSTATc_ABORTED c (was.fgi F.CRN_CHSTATc_ABORTED c)))
  else (.gone, s)

/-- R475 to R480: one burst of a channel that is ready. -/
def craneStep (c : Nat) (at' : CraneAt) (s : State) : CraneEnd × State :=
  match s.craneBurst c, (s.crane c).cur with
  | some (.desc a), _ =>
    let r := descRead a at'.cycle s
    match r.1 with
    | some b => if r.2.craneReady c then craneHave c a b r.2 else (.gone, r.2)
    | none => if r.2.clocked then (.error, craneFail c a r.2.lastCause r.2) else (.gone, r.2)
  | some b, some d =>
    if s.limitOk b.addr b.len = false then (.held, s.modCrane c fun x => { x with held := true })
    else
      let t := (countBeats b.addr b.len s).modCrane c fun x => { x with held := false }
      match b with
      | .read l =>
        let r := craneRead at'.cycle l t
        match r.1 with
        | some data => (.goesOn, if r.2.craneReady c then r.2.modCrane c fun x => { x with buf := some data } else r.2)
        | none => if r.2.clocked then (.error, craneFail c d.addr r.2.lastCause r.2) else (.gone, r.2)
      | .write l =>
        let w := craneWrite at' l t
        if w.1 then craneWrote c d t w.2
        else if w.2.clocked then (.error, craneFail c d.addr w.2.lastCause w.2) else (.gone, w.2)
      | .desc _ => (.gone, s)
  | none, some d => (.complete, craneDone c d s)
  | _, none => (.gone, s)

/-- R459: the channel whose turn on M4 comes next, among those that are ready and do not wait for the tick. -/
def State.craneTurn (s : State) : Option Nat :=
  ((List.range 4).map fun k => (s.port.craneNext + k) % 4).find? fun c => s.craneReady c && !(s.crane c).held

/-- R459: the channels share M4, one burst each in turn, until channel `c` has completed its descriptor, met an error, waits for the
tick, or is busy no more. -/
def craneShare (c : Nat) : Nat → CraneAt → State → CraneEnd × State
  | 0, _, s => (.held, s)
  | n + 1, at', s =>
    if s.craneReady c = false then (.gone, s)
    else if (s.crane c).held then (.held, s)
    else
      match s.craneTurn with
      | none => (.held, s)
      | some k =>
        let len := ((s.craneBurst k).map CraneBurst.len).getD 0
        let r := craneStep k at' (s.modPort fun p => { p with craneNext := (k + 1) % 4 })
        match r.1 with
        | .complete => if k = c then r else craneShare c n { at' with cycle := at'.cycle + len } r.2
        | .error => if k = c then r else craneShare c n { at' with cycle := at'.cycle + len } r.2
        | _ => craneShare c n { at' with cycle := at'.cycle + len } r.2

/-- The bursts that a descriptor can take while four channels share M4: at most two for each of its 2^22 words, and its own
reading, each with one of every other channel. -/
def craneFuel : Nat := 2 ^ 26

/-- R478: the channel goes on until its descriptor completes, or waits under R480. -/
def craneComplete (c : Nat) (at' : CraneAt) (s : State) : State :=
  match craneShare c craneFuel at' s with
  | (.error, _) => s
  | (_, t) => t

/-- The meaning of CRANE_DESCRIPTOR_COMPLETE (R478). -/
def execCraneDescriptorComplete (c : Fin 4) (at' : CraneAt) (s : State) : Out := .next (craneComplete c.val at' s)

/-- R475, R478: the channel meets an error before its descriptor completes. -/
def craneError (c : Nat) (at' : CraneAt) (s : State) : State :=
  match craneShare c craneFuel at' s with
  | (.error, t) => t
  | _ => s

/-- The meaning of CRANE_ERROR (R478). -/
def execCraneError (c : Fin 4) (at' : CraneAt) (s : State) : Out := .next (craneError c.val at' s)

/-- R480: the burst that waited for the tick proceeds. -/
def craneResume (c : Nat) (at' : CraneAt) (s : State) : State :=
  if s.craneReady c && (s.crane c).held then (craneStep c at' s).2 else s

/-- The meaning of CRANE_ENGINE_LIMIT_RESUME (R480). -/
def execCraneEngineLimitResume (c : Fin 4) (at' : CraneAt) (s : State) : Out := .next (craneResume c.val at' s)

/-! ### Aborts (R467, R479) -/

/-- R467: the burst of a channel that an ABORT meets in flight is completed. -/
def craneCut (c : Nat) (at' : CraneAt) (s : State) : State :=
  match s.craneBurst c with
  | none => s
  | some b =>
    if s.limitOk b.addr b.len = false then s
    else
      let s := countBeats b.addr b.len s
      burstReset
        (match b with
        | .desc a =>
          match target a with
          | .reg _ => s
          | _ => quietRead 4 accDrop a 32 at'.cycle s
        | .read l => quietReads 4 accDrop at'.cycle l s
        | .write l => quietWrites 4 (accPut 4) at'.delivered at'.cycle l s)

/-- R479: an ABORT that meets a burst in flight. -/
def craneAbortIn (c : Nat) (at' : CraneAt) (s : State) : State :=
  if s.craneReady c then
    let s := busTake 4 (((s.craneBurst c).map CraneBurst.addr).getD 0) at'.cycle s
    if s.craneReady c then craneAbort c (if (s.crane c).held then s else craneCut c at' s) else s
  else s

/-- The meaning of CRANE_ABORT (R479): with when a burst in flight began and the beats delivered of it, or between two bursts. -/
def execCraneAbort (c : Fin 4) (cut : Option CraneAt) (s : State) : Out :=
  .next (match cut with
    | none => craneAbort c.val s
    | some x => craneAbortIn c.val x s)

end Sys2Proof.Machine
end

