-- ==== Sys2Proof/Machine/Matrix.lean ====
section
/-! DEFINITION. What else reaches the matrix (18): the flash operations of M7 (16, R434) and the accesses of M10 from JTAG and the
I²C/SMBus target (19). -/
namespace Sys2Proof.Machine

/-! ### Flash operations (R434, R459) -/

/-- R461: a range of bytes cut at the 256-byte boundaries into bursts of up to 8 beats. -/
def pagesOf : Nat → Nat → Nat → List (List (Nat × Nat))
  | 0, _, _ => []
  | fuel + 1, a, n =>
    if n = 0 then []
    else
      let k := Nat.min n (256 - a % 256)
      splitBeats 9 a k :: pagesOf fuel (a + k) (n - k)

/-- The bytes of a list of beats. -/
def beatBytes (l : List (Nat × Nat)) : Nat := (l.map (·.2)).foldl (· + ·) 0

/-- R459, R461, R468: M7 reads within one beat. At a register block a beat of 32 strobes is no burst of R461. -/
def xspGet (a n cycle : Nat) (s : State) : Option (List Byte) × State :=
  match target a with
  | .reg _ => (none, regAlign 7 a false s)
  | _ =>
    match accErr 7 a false false s with
    | 0 =>
      let r := memGet a n cycle s
      (some r.1, r.2)
    | e => (none, accFail 7 e false a s)

/-- R459, R461, R468: M7 writes within one beat. -/
def xspPut (a cycle : Nat) (bytes : List Byte) (s : State) : Bool × State :=
  match target a with
  | .reg _ => (false, regAlign 7 a true s)
  | _ =>
    match accErr 7 a true (decide (bytes.length < 32)) s with
    | 0 => (true, memPutAt a bytes (noteStall a cycle s))
    | e => (false, accFail 7 e true a s)

/-- R467: a beat read and discarded. -/
def xspDrop (a n cycle : Nat) (s : State) : State := (memGet a n cycle s).2

/-- M7 reads a range of bytes; a burst that meets an error response gives zeros (R468; log 59). -/
def xspLoad (a n : Nat) (s : State) : List Byte × State :=
  (pagesOf (n / 256 + 2) a n).foldl (fun r l =>
    let y := burstRead 7 xspGet xspDrop 0 l [] r.2
    (r.1 ++ y.1.getD (List.replicate (beatBytes l) 0), y.2)) ([], s)

/-- M7 writes a range of bytes. -/
def xspStore (a : Nat) (bytes : List Byte) (s : State) : State :=
  ((pagesOf (bytes.length / 256 + 2) a bytes.length).foldl (fun r l =>
    (r.1.drop (beatBytes l), (burstWrite 7 xspPut memPutAt 8 0 0 (fillBeats l r.1) r.2).2)) (bytes, s)).2

/-- The bytes an operation programs: of table memory, or of the snapshot of a store (R408). -/
def opData (o : FlashOp) (s : State) : List Byte × State :=
  if o.store then (slice ((s.cal.store.map fun x => x.bytes).getD []) o.mem o.len, s) else xspLoad o.mem o.len s

/-- R434: the issued operation has its effect. -/
def flashEffect (o : FlashOp) (s : State) : State :=
  match o.kind with
  | 0 => xspStore o.mem (s.flashBytes o.addr o.len) s
  | 1 =>
    let r := opData o s
    r.2.modBoot fun b => { b with flash := flashProgram o.addr r.1 b.flash }
  | _ => s.modBoot fun b => { b with flash := flashErase o.addr o.len b.flash }

/-- R434: the issued operation completes, and the next is issued. -/
def flashDone (s : State) : State :=
  match s.boot.cur with
  | none => s
  | some o =>
    let s := (flashEffect o s).modBoot fun b => { b with cur := none }
    flashIssue (if o.store then s else flashOk s)

/-- The meaning of FLASH_OP_COMPLETE (R434). -/
def execFlashOpComplete (s : State) : Out := .next (flashDone s)

/-! ### M10: the I²C/SMBus target (R497 to R499) -/

/-- R498: the scope of SBI.CFG allows the access: of reads of register blocks alone, and of writes of ICU and SYS.CTRL or none. -/
def inScope (a : Nat) (write : Bool) (s : State) : Bool :=
  let isReg := match target a with
    | .reg _ => true
    | _ => false
  if s.dev = .safe then true
  else
    match s.fg F.SBI_CFG_SCOPE, write with
    | 0, _ => true
    | _, false => isReg
    | 1, true => decide (a / 0x10000 = 0x4003) || decide (a = F.SYS_CTRL_GO.base)
    | _, true => false

/-- R497, R498: READ at the access address, the word sent most significant byte first. What an access beyond the scope shows is
left open. -/
def smbRead (c : SmbRead) (s : State) : State :=
  if s.smbHears c.target = false then s
  else
    let a := s.port.sbi.addr
    if inScope a false s = false then
      smbEnd 5 (smbReply 0x02 true (beBytes 4 (Config.freeWord s.fresh).toNat) { s with fresh := s.fresh + 1 })
    else
      let r := busRead 10 a 4 c.cycle s
      if r.2.smbOn = false then r.2
      else
        smbEnd (if r.1.isSome then 0 else 1)
          ((smbReply 0x02 true (r.1.getD [0, 0, 0, 0]).reverse r.2).modSbi fun x => { x with addr := (x.addr + 4) % 2 ^ 32 })

/-- The meaning of READ (R497). -/
def execRead (c : SmbRead) (s : State) : Out := .next (smbRead c s)

/-- R497, R498: WRITE at the access address. -/
def smbWrite (bytes : List Byte) (c : SmbCall) (cycle : Nat) (s : State) : State :=
  let a := s.port.sbi.addr
  if s.smbHears c.target = false then s
  else if bytes.length ≠ 4 then smbEnd 4 s
  else if s.pecBad c.pec then smbEnd 3 s
  else if inScope a true s = false then smbEnd 5 s
  else
    let s := s.modSbi fun x => { x with addr := (x.addr + 4) % 2 ^ 32 }
    let r := busWrite 10 a cycle bytes.reverse (smbEnd 0 s)
    if r.1 || !r.2.smbOn then r.2 else smbEnd 1 r.2

/-- The meaning of WRITE (R497). -/
def execWrite (bytes : List Byte) (c : SmbCall) (cycle : Nat) (s : State) : Out := .next (smbWrite bytes c cycle s)

/-! ### M10: MEMACC (R505, R506) -/

/-- What Capture-DR of MEMACC will show: the status, the address and the data of the last access. -/
def macShow (st a d : Nat) (s : State) : State := s.modSbi fun x => { x with macStat := st, macAddr := a, macData := d }

/-- R505, R506: the access is carried out. One that R472 forbids is refused (log 41). -/
def macDo (op a v cycle : Nat) (s : State) : State :=
  let status (ok : Bool) (s : State) : Nat := if ok then 0 else if s.fg F.MTX_ERRSTAT_CAUSE = 6 then 3 else 1
  if op = 1 then
    let r := busRead 10 a 4 cycle s
    macShow (status r.1.isSome r.2) a (leNat (r.1.getD [])) r.2
  else
    let r := busWrite 10 a cycle (leBytes 4 v) s
    macShow (status r.1 r.2) a r.2.port.sbi.macData r.2

/-- R505: Update-DR of MEMACC: ignored while the access before is BUSY. In OFF the matrix does not work: the access waits. -/
def memacc (op a v cycle : Nat) (s : State) : State :=
  let s := s.modSbi fun x => { x with ir := 0x20, irCap := 1 }
  if op = 0 ∨ op = 3 ∨ s.port.sbi.macStat = 2 then s
  else if s.flag F.SBI_CFG_MEMDIS ∨ a % 4 ≠ 0 then macShow 3 a 0 s
  else if s.dev = .off then (macShow 2 a 0 s).modSbi fun x => { x with macWait := some (op, v) }
  else macDo op a v cycle s

/-- R505: the access that has waited in OFF is carried out. -/
def macResume (s : State) : State :=
  match s.port.sbi.macWait with
  | some w => macDo w.1 s.port.sbi.macAddr w.2 0 (s.modSbi fun x => { x with macWait := none })
  | none => s

/-- The meaning of MEMACC (R505). -/
def execMemacc (op : Fin 4) (a v : Word) (cycle : Nat) (s : State) : Out := .next (memacc op.val a.toNat v.toNat cycle s)

end Sys2Proof.Machine
end

