-- ==== Sys2Proof/Machine/SeqOps.lean ====
section
/-! DEFINITION. The sequencers' instructions (17, R438 to R446) and the delivery, entry, exit and sleep sequences (R453 to R458).
A row carries out the instruction that the word at PC spells, where it is that row's and legal. `cycle` is the CORE cycle at
which an access begins, `wait` the sequencer cycles an instruction took in all where it had to wait. -/
namespace Sys2Proof.Machine

/-! ### Words (R443 to R445) -/

/-- The word at PC of sequencer `n`. -/
def State.seqWord (s : State) (n : Nat) : Nat := leNat (tgetBytes (s.sq n).iram 0 (s.sq n).pc 4)

/-- OP. -/
def opOf (w : Nat) : Nat := w / 2 ^ 26
/-- RD, or RA of format B. -/
def fd (w : Nat) : Nat := bitsAt w 22 4
/-- RA, or RB of format B. -/
def fa (w : Nat) : Nat := bitsAt w 18 4
/-- RB of format R. -/
def fb (w : Nat) : Nat := bitsAt w 14 4
/-- IMM, or OFF of format B. -/
def fimm (w : Nat) : Nat := w % 2 ^ 18
/-- N of format S. -/
def fn (w : Nat) : Nat := w % 256

/-- R445: the opcode is listed and the reserved fields are zero. -/
def wordLegal (w : Nat) : Bool :=
  let o := opOf w
  if o ≤ 9 then decide (w % 2 ^ 14 = 0)
  else if 0x10 ≤ o ∧ o ≤ 0x13 then true
  else if o = 0x14 then decide (fimm w < 128) && decide (bitsAt w 5 2 ≠ 3)
  else if o = 0x15 then decide (fa w = 0) && decide (fb w = 0)
  else if o = 0x18 ∨ o = 0x19 then true
  else if 0x20 ≤ o ∧ o ≤ 0x25 then true
  else if o = 0x28 ∨ o = 0x29 then decide (bitsAt w 14 12 = 0)
  else if o = 0x2A then decide (fd w = 0) && decide (w % 2 ^ 18 = 0)
  else if o = 0x30 then decide (fa w = 0) && decide (bitsAt w 8 10 = 0)
  else if o = 0x31 then decide (fd w = 0) && decide (bitsAt w 8 10 = 0)
  else if o = 0x32 then decide (bitsAt w 4 22 = 0)
  else if o = 0x1A ∨ o = 0x33 ∨ o = 0x34 ∨ o = 0x35 then decide (w % 2 ^ 26 = 0)
  else false

/-- A general register; g0 reads as zero (R438). -/
def Seq.reg (q : Seq) (r : Nat) : Nat := if r = 0 then 0 else (q.g.getD r 0).toNat

/-- R445: the word at PC is legal where it stands. -/
def State.seqLegal (s : State) (n : Nat) : Bool :=
  let w := s.seqWord n
  wordLegal w && (decide (opOf w ≠ 0x2A) || decide ((s.sq n).reg (fa w) % 4 = 0))
    && (decide (opOf w ≠ 0x34) || decide ((s.sq n).stack ≠ []))

/-- A sequencer executes: it is in RUN and no entry sequence comes first (R446, R453). -/
def State.seqRuns (s : State) (n : Nat) : Bool := s.clocked && decide ((s.sq n).st = .run) && !(s.sq n).entry

/-- The next instruction of sequencer `n` is a legal one with opcode `o`. -/
def State.seqAt (s : State) (n o : Nat) : Bool := s.seqRuns n && decide (opOf (s.seqWord n) = o) && s.seqLegal n

/-! ### The end of an instruction (R453) -/

/-- A sequencer changed by a function. -/
def State.modSq (s : State) (n : Nat) (f : Seq → Seq) : State := s.setSq n (f (s.sq n))

/-- R453: the source that is deliverable to sequencer `n` at a level. -/
def State.deliverable (s : State) (n cl : Nat) : Option Nat := if (s.sq n).im then none else s.chosen n cl

/-- R453: an instruction of some cycles ends with PC at `pc`; delivery is judged. -/
def seqEnd (n pc cycles : Nat) (s : State) : State :=
  let s := s.modSq n fun q =>
    { q with pc := pc % 65536, cycle := (q.cycle + cycles) % 2 ^ 32, runCycles := q.runCycles + cycles }
  s.modSq n fun q => { q with entry := decide (q.st = .run) && (s.deliverable n q.cl).isSome }

/-- R446: an instruction that reaches the matrix is in progress: a HALT waits for its end. -/
def seqBusy (n : Nat) (s : State) : State := s.modSq n fun q => { q with busy := true }

/-- R446: the instruction is over, and a HALT that has waited for it takes effect. -/
def seqIdle (n : Nat) (s : State) : State :=
  s.modSq n fun q =>
    if q.haltReq && q.busy then { q with busy := false, haltReq := false, st := .halted, entry := false, wake := false }
    else { q with busy := false }

/-- The instruction after the one at PC follows. -/
def seqNext (n cycles : Nat) (s : State) : State := seqEnd n ((s.sq n).pc + 4) cycles s

/-- A general register written; writes of g0 are discarded (R438). -/
def setReg (n r v : Nat) (s : State) : State :=
  if r = 0 then s else s.modSq n fun q => { q with g := setAt q.g r (BitVec.ofNat 32 v) }

/-! ### Arithmetic (R444) -/

/-- An instruction of format R: its result in RD. -/
def seqR (n o cycles : Nat) (f : Nat → Nat → Nat) (s : State) : State :=
  if s.seqAt n o then
    let w := s.seqWord n
    seqNext n cycles (setReg n (fd w) (f ((s.sq n).reg (fa w)) ((s.sq n).reg (fb w))) s)
  else s

/-- An instruction of format I that computes: its result in RD. -/
def seqI (n o : Nat) (f : Nat → Nat → Nat) (s : State) : State :=
  if s.seqAt n o then
    let w := s.seqWord n
    seqNext n 1 (setReg n (fd w) (f ((s.sq n).reg (fa w)) (fimm w)) s)
  else s

/-- A shift right with sign fill. -/
def sarOp (a k : Nat) : Nat := unsgn 32 (sgn 32 a / (2 ^ k : Int))

/-- The address RA + sx(IMM), and the sum of ADDI. -/
def addSx (a i : Nat) : Nat := unsgn 32 ((a : Int) + sgn 18 i)

/-- R444: SHI. -/
def shiOp (a i : Nat) : Nat :=
  match bitsAt i 5 2 with
  | 0 => a * 2 ^ (i % 32) % 2 ^ 32
  | 1 => a / 2 ^ (i % 32)
  | _ => sarOp a (i % 32)

/-- The meaning of ADD (R444). -/
def execAdd (n : Fin 4) (s : State) : Out := .next (seqR n.val 0x00 1 (fun a b => add32 a b) s)
/-- The meaning of SUB (R444). -/
def execSub (n : Fin 4) (s : State) : Out := .next (seqR n.val 0x01 1 (fun a b => sub32 a b) s)
/-- The meaning of AND (R444). -/
def execAnd (n : Fin 4) (s : State) : Out := .next (seqR n.val 0x02 1 (fun a b => a &&& b) s)
/-- The meaning of OR (R444). -/
def execOr (n : Fin 4) (s : State) : Out := .next (seqR n.val 0x03 1 (fun a b => a ||| b) s)
/-- The meaning of XOR (R444). -/
def execXor (n : Fin 4) (s : State) : Out := .next (seqR n.val 0x04 1 (fun a b => a ^^^ b) s)
/-- The meaning of SHL (R444). -/
def execShl (n : Fin 4) (s : State) : Out := .next (seqR n.val 0x05 1 (fun a b => a * 2 ^ (b % 32) % 2 ^ 32) s)
/-- The meaning of SHR (R444). -/
def execShr (n : Fin 4) (s : State) : Out := .next (seqR n.val 0x06 1 (fun a b => a / 2 ^ (b % 32)) s)
/-- The meaning of SAR (R444). -/
def execSar (n : Fin 4) (s : State) : Out := .next (seqR n.val 0x07 1 (fun a b => sarOp a (b % 32)) s)
/-- The meaning of MUL (R444). -/
def execMul (n : Fin 4) (s : State) : Out := .next (seqR n.val 0x08 2 (fun a b => a * b % 2 ^ 32) s)
/-- The meaning of SLTU (R444). -/
def execSltu (n : Fin 4) (s : State) : Out := .next (seqR n.val 0x09 1 (fun a b => b2n (decide (a < b))) s)
/-- The meaning of ADDI (R444). -/
def execAddi (n : Fin 4) (s : State) : Out := .next (seqI n.val 0x10 addSx s)
/-- The meaning of ANDI (R444). -/
def execAndi (n : Fin 4) (s : State) : Out := .next (seqI n.val 0x11 (fun a i => a &&& i) s)
/-- The meaning of ORI (R444). -/
def execOri (n : Fin 4) (s : State) : Out := .next (seqI n.val 0x12 (fun a i => a ||| i) s)
/-- The meaning of XORI (R444). -/
def execXori (n : Fin 4) (s : State) : Out := .next (seqI n.val 0x13 (fun a i => a ^^^ i) s)
/-- The meaning of SHI (R444). -/
def execShi (n : Fin 4) (s : State) : Out := .next (seqI n.val 0x14 shiOp s)
/-- The meaning of MOVHI (R444). -/
def execMovhi (n : Fin 4) (s : State) : Out := .next (seqI n.val 0x15 (fun _ i => i * 2 ^ 18 % 2 ^ 32) s)

/-! ### Branches and jumps (R444) -/

/-- A branch: 2 cycles where it is taken. -/
def seqB (n o : Nat) (cond : Nat → Nat → Bool) (s : State) : State :=
  if s.seqAt n o then
    let w := s.seqWord n
    let q := s.sq n
    if cond (q.reg (fd w)) (q.reg (fa w)) then
      seqEnd n (unsgn 16 ((q.pc : Int) + 4 * sgn 18 (fimm w))) 2 s
    else seqNext n 1 s
  else s

/-- The meaning of BEQ (R444). -/
def execBeq (n : Fin 4) (s : State) : Out := .next (seqB n.val 0x20 (fun a b => decide (a = b)) s)
/-- The meaning of BNE (R444). -/
def execBne (n : Fin 4) (s : State) : Out := .next (seqB n.val 0x21 (fun a b => decide (a ≠ b)) s)
/-- The meaning of BLT (R444). -/
def execBlt (n : Fin 4) (s : State) : Out := .next (seqB n.val 0x22 (fun a b => decide (sgn 32 a < sgn 32 b)) s)
/-- The meaning of BGE (R444). -/
def execBge (n : Fin 4) (s : State) : Out := .next (seqB n.val 0x23 (fun a b => decide (sgn 32 b ≤ sgn 32 a)) s)
/-- The meaning of BLTU (R444). -/
def execBltu (n : Fin 4) (s : State) : Out := .next (seqB n.val 0x24 (fun a b => decide (a < b)) s)
/-- The meaning of BGEU (R444). -/
def execBgeu (n : Fin 4) (s : State) : Out := .next (seqB n.val 0x25 (fun a b => decide (b ≤ a)) s)

/-- The meaning of JMP (R444). -/
def execJmp (n : Fin 4) (s : State) : Out :=
  .next (if s.seqAt n.val 0x28 then seqEnd n.val (4 * (s.seqWord n.val % 2 ^ 14)) 2 s else s)

/-- R444: CALL writes g15 and jumps. -/
def seqCall (n : Nat) (s : State) : State :=
  if s.seqAt n 0x29 then seqEnd n (4 * (s.seqWord n % 2 ^ 14)) 2 (setReg n 15 ((s.sq n).pc + 4) s) else s

/-- The meaning of CALL (R444). -/
def execCall (n : Fin 4) (s : State) : Out := .next (seqCall n.val s)

/-- The meaning of JR (R444). -/
def execJr (n : Fin 4) (s : State) : Out :=
  .next (if s.seqAt n.val 0x2A then seqEnd n.val ((s.sq n.val).reg (fa (s.seqWord n.val))) 2 s else s)

/-! ### Loads and stores (R439 to R441) -/

/-- R439: the offset in its own data RAM that an address reaches by the local path. -/
def localOff (n a : Nat) : Option Nat :=
  if 0x20100000 ≤ a ∧ a < 0x20108000 then some (a - 0x20100000)
  else
    let b := 0x20010000 + 0x20000 * n
    if b ≤ a ∧ a < b + 0x8000 then some (a - b) else none

/-- R440: the word that a load from the matrix returns. -/
def matrixLoad (n a cycle : Nat) (s : State) : Nat × State :=
  let r := busRead n a 4 cycle s
  match r.1 with
  | some b => (leNat b, r.2)
  | none => (0, if r.2.clocked then seqBusErr n a (s.sq n).pc r.2 else r.2)

/-- R444: LD. -/
def seqLd (n cycle wait : Nat) (s : State) : State :=
  if s.seqAt n 0x18 then
    let w := s.seqWord n
    let a := addSx ((s.sq n).reg (fa w)) (fimm w)
    if a % 4 ≠ 0 then seqFault n F.TSQ_FSTATn_ALIGN (some a) s
    else
      match localOff n a with
      | some o => seqNext n 2 (setReg n (fd w) (leNat (tgetBytes (s.sq n).dram 0 o 4)) s)
      | none =>
        let t := drainAll n cycle (seqBusy n s)
        if t.clocked then
          let r := matrixLoad n a cycle t
          if r.2.clocked then
            seqIdle n (seqNext n (Nat.max (if 0x40000000 ≤ a ∧ a < 0x40400000 then 10 else 6) wait) (setReg n (fd w) r.1 r.2))
          else r.2
        else t
  else s

/-- The meaning of LD (R440, R444). -/
def execLd (n : Fin 4) (cycle wait : Nat) (s : State) : Out := .next (seqLd n.val cycle wait s)

/-- R444: ST. A store to the matrix is posted; a full buffer makes it wait for its oldest entry. -/
def seqSt (n cycle wait : Nat) (s : State) : State :=
  if s.seqAt n 0x19 then
    let w := s.seqWord n
    let q := s.sq n
    let a := addSx (q.reg (fa w)) (fimm w)
    let v := q.reg (fd w)
    if a % 4 ≠ 0 then seqFault n F.TSQ_FSTATn_ALIGN (some a) s
    else
      match localOff n a with
      | some o => seqNext n 1 (ramPut n false o (leBytes 4 v) s)
      | none =>
        let full := decide (4 ≤ q.posted.length)
        let t := if full then drainOne n cycle (seqBusy n s) else s
        if t.clocked then
          seqIdle n (seqNext n (if full then Nat.max 1 wait else 1)
            (t.modSq n fun x => { x with posted := x.posted ++ [⟨a, BitVec.ofNat 32 v, q.pc⟩] }))
        else t
  else s

/-- The meaning of ST (R440, R444). -/
def execSt (n : Fin 4) (cycle wait : Nat) (s : State) : Out := .next (seqSt n.val cycle wait s)

/-- An instruction that waits until every earlier store has completed, and what it does then. -/
def seqAfterStores (n o cycle wait : Nat) (f : State → State) (s : State) : State :=
  if s.seqAt n o then
    let t := drainAll n cycle (seqBusy n s)
    if t.clocked then seqIdle n (seqNext n (if (s.sq n).posted = [] then 1 else Nat.max 1 wait) (f t)) else t
  else s

/-- The meaning of FENCE (R444). -/
def execFence (n : Fin 4) (cycle wait : Nat) (s : State) : Out := .next (seqAfterStores n.val 0x1A cycle wait id s)

/-- The meaning of SIG (R444): source 240 + N. -/
def execSig (n : Fin 4) (cycle wait : Nat) (s : State) : Out :=
  .next (seqAfterStores n.val 0x32 cycle wait (fun t => t.raise (240 + fn (s.seqWord n.val) % 16)) s)

/-- The meaning of HALT (R444, R446). -/
def execHalt (n : Fin 4) (cycle wait : Nat) (s : State) : Out :=
  .next (seqAfterStores n.val 0x35 cycle wait (fun t => t.modSq n.val fun q => { q with st := .halted }) s)

/-! ### System registers (R442) -/

/-- R442: system register `r` read by sequencer `n`. -/
def State.sysReg (s : State) (n r : Nat) : Nat :=
  let q := s.sq n
  match r with
  | 0 => n
  | 1 => b2n q.im
  | 2 => q.cl
  | 3 => q.icause
  | 4 => q.vbase
  | 5 => q.stack.length
  | 6 => match q.stack with
    | e :: _ => e.1
    | [] => 0
  | 7 => q.cycle
  | 8 => s.frame
  | _ => 0

/-- The meaning of MFS (R442, R444). -/
def execMfs (n : Fin 4) (s : State) : Out :=
  .next (if s.seqAt n.val 0x30 then
    seqNext n.val 1 (setReg n.val (fd (s.seqWord n.val)) (s.sysReg n.val (fn (s.seqWord n.val))) s) else s)

/-- R442: system register `r` written. -/
def sysRegWrite (n r v : Nat) (s : State) : State :=
  match r with
  | 1 => s.modSq n fun q => { q with im := v.testBit 0 }
  | 4 => s.modSq n fun q => { q with vbase := bitsAt v 12 4 * 4096 }
  | _ => s

/-- The meaning of MTS (R442, R444). -/
def execMts (n : Fin 4) (s : State) : Out :=
  .next (if s.seqAt n.val 0x31 then
    seqNext n.val 1 (sysRegWrite n.val (fn (s.seqWord n.val)) ((s.sq n.val).reg (fa (s.seqWord n.val))) s) else s)

/-- R445, R446: the word at PC is illegal: an ILLEGAL fault. -/
def seqIllegal (n : Nat) (s : State) : State :=
  if s.seqRuns n && !s.seqLegal n then seqFault n F.TSQ_FSTATn_ILLEGAL none s else s

/-- The meaning of ILLEGAL_INSTRUCTION (R445). -/
def execIllegalInstruction (n : Fin 4) (s : State) : Out := .next (seqIllegal n.val s)

/-! ### Delivery, entry and exit (R453 to R457) -/

/-- R454: the handler of a source is entered; the return entry is on the stack. -/
def enterHandler (n src : Nat) (s : State) : State :=
  (s.setPend src false).modSq n fun q =>
    { q with cl := s.fgi F.ICU_SRCCFGs_PRIO src, icause := src, pc := (q.vbase + 16 * src) % 65536 }

/-- R446: a HALT that has waited for the entry sequence takes effect. -/
def haltAfterEntry (n : Nat) (s : State) : State :=
  s.modSq n fun q => if q.haltReq then { q with st := .halted, haltReq := false } else q

/-- R454: the entry sequence: E1 pushes, E3 chooses again; with nothing deliverable the entry is abandoned. -/
def entrySequence (n : Nat) (s : State) : State :=
  if s.clocked && decide ((s.sq n).st = .run) && (s.sq n).entry then
    let s := s.modSq n fun q =>
      { q with entry := false, cycle := (q.cycle + 3) % 2 ^ 32, runCycles := q.runCycles + 3 }
    haltAfterEntry n
      (match s.deliverable n (s.sq n).cl with
      | some src => enterHandler n src (s.modSq n fun q => { q with stack := (q.pc, q.cl) :: q.stack, causes := q.icause :: q.causes })
      | none => s.bump F.ICU_SPUR)
  else s

/-- The meaning of ENTRY_SEQUENCE (R454). -/
def execEntrySequence (n : Fin 4) (s : State) : Out := .next (entrySequence n.val s)

/-- R442, R455: a return to an entry of the stack. ICAUSE is the source of the handler that runs on, and 0x100 in thread code. -/
def returnTo (n : Nat) (e : Nat × Nat) (rest : List (Nat × Nat)) (s : State) : State :=
  s.modSq n fun q =>
    { q with
      stack := rest
      causes := q.causes.tail
      pc := e.1
      cl := e.2
      icause := if e.2 = 16 then 0x100 else q.causes.headD 0x100 }

/-- R455: RETI: with a source deliverable below the popped level the return is skipped and its handler entered. -/
def seqReti (n : Nat) (s : State) : State :=
  if s.seqAt n 0x34 then
    match (s.sq n).stack with
    | [] => s
    | e :: rest =>
      let s := s.modSq n fun q => { q with cycle := (q.cycle + 3) % 2 ^ 32, runCycles := q.runCycles + 3 }
      match s.deliverable n e.2 with
      | some src => enterHandler n src s
      | none => returnTo n e rest s
  else s

/-- The meaning of RETI (R455). -/
def execReti (n : Fin 4) (s : State) : Out := .next (seqReti n.val s)

/-! ### Sleep (R458) -/

/-- R458: WAIT sleeps unless a source is deliverable at its last cycle. -/
def seqWait (n : Nat) (s : State) : State :=
  if s.seqAt n 0x33 then
    let s := seqNext n 1 s
    if (s.sq n).entry then s else s.modSq n fun q => { q with st := .wait, wake := false }
  else s

/-- The meaning of WAIT (R458). -/
def execWait (n : Fin 4) (s : State) : Out := .next (seqWait n.val s)

/-- R458: an event has woken the sequencer; two cycles later it is in RUN, and an interrupt is taken if one is deliverable. -/
def waitWake (n slept : Nat) (s : State) : State :=
  if s.clocked && decide ((s.sq n).st = .wait) && (s.sq n).wake then
    let s := s.modSq n fun q => { q with st := .run, wake := false, cycle := (q.cycle + Nat.max 2 slept) % 2 ^ 32 }
    s.modSq n fun q => { q with entry := (s.deliverable n q.cl).isSome }
  else s

/-- The meaning of WAIT_WAKE (R458). -/
def execWaitWake (n : Fin 4) (slept : Nat) (s : State) : Out := .next (waitWake n.val slept s)

end Sys2Proof.Machine
end

