-- ==== Sys2Proof/Machine/Image.lean ====
section
/-! DEFINITION. The flash image (16, R418 to R426): its descriptor, its records, what each record loads, and the checks of
R430. A check that fails gives its code. -/
namespace Sys2Proof.Machine

/-! ### The descriptor (R418, R419, R427) -/

/-- The flash offset of image slot A or B (R418). -/
def imgBase (slot : Nat) : Nat := 0x4000000 * slot

/-- The descriptor of a slot. -/
def State.imgDesc (s : State) (slot : Nat) : List Byte := s.flashBytes (imgBase slot) 256

/-- R427: a slot with this descriptor is a candidate. -/
def descOk (d : List Byte) : Bool :=
  decide (leAt d 0 4 = 0x4B5A4947) && decide (leAt d 4 2 = 1) && decide (0x120 ≤ leAt d 0x14 4)
    && decide (leAt d 0x14 4 ≤ 0x4000000) && decide (leAt d 0x14 4 % 32 = 0)

/-- R427: the candidates in the order in which they are tried. -/
def State.candidates (s : State) : List Nat :=
  let a := s.imgDesc 0
  let b := s.imgDesc 1
  let ca := if descOk a then [0] else []
  let cb := if descOk b then [1] else []
  if leAt a 8 4 < leAt b 8 4 then cb ++ ca else ca ++ cb

/-- R428: no signing key is valid. -/
def State.unprovisioned (s : State) : Bool := decide (s.otpNum 0x288 1 % 16 = 0)

/-- R428: a public key is permitted. -/
def State.keyPermitted (s : State) (d : List Byte) : Bool :=
  let h := sha256 (slice d 0x40 64)
  s.unprovisioned || (List.range 4).any fun i =>
    (s.otpNum 0x288 1).testBit i && !(s.otpNum 0x288 1).testBit (4 + i)
      && decide (tgetBytes s.boot.shadow 0 (0x100 + 32 * i) 32 = h)

/-- R419: the signature of a descriptor verifies under its key. -/
def sigOk (d : List Byte) : Bool :=
  ecdsaOk (beAt d 0x40 32) (beAt d 0x60 32) (beAt d 0x80 32) (beAt d 0xA0 32) (beNat (sha256 (d.take 128)))

/-! ### Records (R420, R421) -/

/-- A record of an image: TYPE, INDEX, its body without padding, and header and padded body together. -/
structure ImgRec where
  kind : Nat
  index : Nat
  body : List Byte
  raw : List Byte
  deriving DecidableEq, Repr

/-- R420: the records up to the first that is not in order, and whether all were and ended with the image. -/
def imgRecs : Nat → List Byte → List ImgRec × Bool
  | 0, l => ([], decide (l = []))
  | n + 1, l =>
    let len := leAt l 4 4
    let tot := 32 + (len + 31) / 32 * 32
    let body := slice l 32 len
    if 32 ≤ l.length ∧ 1 ≤ len ∧ tot ≤ l.length ∧ crc32c body = leAt l 8 4 then
      let r := imgRecs n (l.drop tot)
      (⟨leAt l 0 2, leAt l 2 2, body, l.take tot⟩ :: r.1, r.2)
    else ([], false)

/-- R421: the values INDEX may take in a record of a TYPE; none for a TYPE that R421 does not list. -/
def indexBound : Nat → Nat
  | 0x01 | 0x02 | 0x13 | 0x20 | 0x21 | 0x22 | 0x23 | 0x24 | 0x25 | 0x26 | 0x27 | 0x32 => 1
  | 0x03 => 4
  | 0x10 | 0x11 | 0x12 => 32
  | 0x30 | 0x31 => 4096
  | _ => 0

/-- R421: two records count as the same: TYPE, INDEX and, of a SEGMENT, the band set. -/
def ImgRec.same (a b : ImgRec) : Bool :=
  decide (a.kind = b.kind) && decide (a.index = b.index) && (decide (a.kind ≠ 0x30) || decide (leAt a.body 6 1 = leAt b.body 6 1))

/-- The records of a TYPE. -/
def ofKind (k : Nat) (l : List ImgRec) : List ImgRec := l.filter fun r => decide (r.kind = k)

/-- R421: TYPE, INDEX, count and order of a record after the earlier ones; `last` says that none follows. -/
def recPlaced (earlier : List ImgRec) (last : Bool) (r : ImgRec) : Bool :=
  decide (r.index < indexBound r.kind) && !earlier.any (fun x => x.same r) && (decide (r.kind ≠ 0x27) || last)
    && (decide (r.kind ≠ 0x11 ∧ r.kind ≠ 0x12) || (ofKind 0x10 earlier).any fun x => decide (x.index = r.index))

/-- R421: the records that an image must hold. -/
def mustHave (l : List ImgRec) : Bool :=
  decide (ofKind 1 l ≠ []) && decide (ofKind 2 l ≠ []) && (ofKind 3 l).any fun r => decide (r.index = 0)

/-! ### Register lists (R421, R422) -/

/-- R421: the registers that a register list of a record may name. -/
def listAllows (r : ImgRec) (d : RegDesc) (a : Nat) : Bool :=
  let b := a / 0x10000
  match r.kind with
  | 0x10 => decide (b = 0x4020 + r.index)
  | 0x20 => decide (b = 0x400D)
  | 0x21 => d.has F.PVE_RSEL_ENTRY || d.has F.PVE_RID_RID || d.has F.PVE_RCFG_VALID
  | 0x22 => decide (b = 0x400A) || decide (b = 0x400B) || d.has F.PVE_CTRL_EN || d.has F.PVE_PORTCFG_UDPPORT
      || d.has F.PVE_TCFG_HALFTMO || d.has F.PVE_OPENLIM_RATE
  | 0x23 => decide (b = 0x4009) || decide (b = 0x4016)
  | 0x24 => decide (b = 0x4002) || d.has F.CAL_TRIGCFG_PHDELTA || d.has F.CAL_ACCCFG_MINSEP || d.has F.CAL_TOL_LINTOL
      || d.has F.CAL_PLAUS_PLIN
  | 0x25 => d.has F.ROL_CFG_PAIRED || d.has F.MIR_CFG_TXPRE
  | 0x26 => d.has F.TIM_BCNTRACE_TRACE || d.has F.NET_MACLO_MAC || d.has F.NET_MACHI_MAC || d.has F.NET_ASEL_ENTRY
      || d.has F.NET_ADATAw_WORD || d.has F.NET_TSCORR_RX
  | 0x27 => decide (b ≠ 0x4007) && decide (b ≠ 0x4008) && (decide (b ≠ 0x4000) || d.has F.SYS_STGCFG_LANEWAIT)
  | _ => false

/-- R422: one entry of a register list: the state after it, or the code of its failure. A reserved encoding noted before the
entry stays noted. -/
def listWrite (r : ImgRec) (a v : Nat) (s : State) : Except Nat State :=
  match regFind a regDescs with
  | none => .error 2
  | some (d, _) =>
    if listAllows r d a = false ∨ d.flds.any (fun f => decide (f.acc = .w1p) && decide (f.part v ≠ 0)) = true then .error 2
    else
      let t := regWrite 0 a v (s.fs F.SYS_ERRSTAT_RSVDENC 0)
      if t.flag F.SYS_ERRSTAT_RSVDENC then .error 3 else .ok (t.fs F.SYS_ERRSTAT_RSVDENC (s.fg F.SYS_ERRSTAT_RSVDENC))

/-- R422: the entries of a register list, in order. -/
def listWrites (r : ImgRec) : Nat → List Byte → State → Except Nat State
  | 0, _, s => .ok s
  | n + 1, l, s =>
    match listWrite r (leAt l 0 4) (leAt l 4 4) s with
    | .ok t => listWrites r n (l.drop 8) t
    | .error e => .error e

/-- R422: a register list. -/
def regList (r : ImgRec) (l : List Byte) (s : State) : Except Nat State :=
  if l.length % 8 = 0 then listWrites r (l.length / 8) l s else .error 1

/-! ### Fixed records (R423, R426) -/

/-- R423: FLASHMAP. -/
def flashMap (b : List Byte) (s : State) : Except Nat State :=
  let ok (j : Nat) : Bool := decide (j % 0x200000 = 0) && decide (0x8000000 ≤ j)
  if b.length ≠ 32 then .error 1
  else if (ok (leAt b 0 4) && ok (leAt b 4 4)) = false then .error 4
  else
    let s := (s.fs F.XSP_OPC0_PPOP (leAt b 8 2)).fs F.XSP_OPC1_EROP (leAt b 10 2)
    let s := (s.fs F.XSP_OPC1_RSOP (leAt b 12 2)).fs F.XSP_OPC2_WEOP (leAt b 14 2)
    .ok ((s.fs F.XSP_OPC2_ERSZ (leAt b 16 1)).modBoot fun x => { x with journals := (leAt b 0 4, leAt b 4 4) })

/-- R423, R472: areas, as start and length, lie in table memory above the system area and are disjoint. -/
def areasOk (l : List (Nat × Nat)) : Bool :=
  l.all (fun a => decide (0x240000 ≤ a.1) && decide (a.1 + a.2 ≤ 0x1000000))
    && decide (l.Pairwise fun a b => a.1 + a.2 ≤ b.1 ∨ b.1 + b.2 ≤ a.1)

/-- R423: MEMPLAN. A RECCNT or BMPSZ that its field has no room for acts as the greatest one does (06, MAN.RECCFG). -/
def memPlan (b : List Byte) (s : State) : Except Nat State :=
  if b.length ≠ 32 then .error 1
  else
    let s := (s.fs F.MAN_RECCFG_RECCNT (Nat.min 2047 (leAt b 0 2))).fs F.MAN_RECCFG_BMPSZ (Nat.min 127 (leAt b 2 1))
    let rec' := leAt b 4 4
    let bmp := leAt b 8 4
    let cache := leAt b 12 4
    let cal := leAt b 16 4
    let pool := leAt b 20 4
    let size := leAt b 24 4
    let obj := leAt b 28 4
    if rec' % 32 = 0 ∧ bmp % 32 = 0 ∧ cache % 0x1000 = 0 ∧ cal % 0x10000 = 0 ∧ 0x100000 ≤ size ∧ size ≤ 0x400000 ∧ obj < 0x1000000
        ∧ areasOk [(rec', 32 * s.recCnt), (bmp, 32 * s.bmpSz * s.recCnt), (cache, 0x100000), (cal, 0x1A0000), (pool, size),
            (obj, 0x1000000 - obj)] = true then
      let s := (s.fs F.MAN_RECBASE_ADDR (rec' / 32)).fs F.MAN_BMPBASE_ADDR (bmp / 32)
      let s := (s.fs F.PVE_CACHEBASE_ADDR (cache / 0x1000)).fs F.CAL_MEMBASE_ADDR (cal / 0x10000)
      .ok ((s.modPen fun p => { p with poolBase := pool, poolSize := size }).modBoot fun x => { x with objBase := obj })
    else .error 4

/-- R426: FIRMWARE of sequencer `n`. -/
def firmware (n : Nat) (b : List Byte) (s : State) : Except Nat State :=
  let il := leAt b 0 4
  let dl := leAt b 4 4
  if 32 ≤ b.length ∧ il ≤ 0x10000 ∧ dl ≤ 0x8000 ∧ b.length = 32 + il + dl then
    let s := s.fsi F.TSQ_ENTRYn_ENTRY n (leAt b 8 4 / 4)
    let s := s.setSq n { s.sq n with
      iram := tsetBytes [] 0 0 (slice b 32 il)
      dram := tsetBytes [] 0 0 (slice b (32 + il) dl) }
    .ok (s.modBoot fun x => { x with entry := x.entry ++ [(n, leAt b 8 4 % 0x10000)] })
  else .error 17

/-! ### The slot map (R424, R425) -/

/-- The channels of a quay of a generation. -/
def genChans : Gen → Nat
  | .el2 => 384
  | .el1 => 192
  | .absent => 0

/-- R424: the fields of a slot entry. -/
def slotPilot (e : List Byte) : Pilot :=
  ⟨leAt e 8 3, leAt e 12 3, leAt e 5 1 % 8, leAt e 6 2 % 4096, bitsAt (leAt e 5 1) 3 1⟩

/-- R424: the fields of an entry with POP clear are zero; reserved bits count for nothing (R11). -/
def slotEmpty (e : List Byte) : Bool :=
  decide (leAt e 2 1 % 4 = 0) && decide (leAt e 3 1 % 8 = 0) && decide (leAt e 4 1 % 128 = 0)
    && decide (slotPilot e = ⟨0, 0, 0, 0, 0⟩)
    && decide (slotCoefRaw (slice e 16 172) = slotCoefRaw (List.replicate 172 0))

/-- R424: entry `i` of a SLOT record of quay `q`. -/
def slotEntry (q i : Nat) (e : List Byte) (s : State) : Except Nat State :=
  let n := 384 * q + i
  let g := s.declGen q
  let pop := (leAt e 2 1).testBit 0
  let mon := (leAt e 2 1).testBit 1
  let chan := leAt e 4 1 % 128
  let c := slotCoefRaw (slice e 16 172)
  if leAt e 0 2 % 2 ^ 14 ≠ n then .error 5
  else if pop = false ∧ slotEmpty e = false then .error 5
  else if (mon && !monExists g chan) || (!mon && decide (chan ≠ 0)) then .error 5
  else if 4 < (slotPilot e).mode then .error 3
  else if xtalkOk g n c = false then .error 8
  else
    let live := pop && !s.bit F.SYS_BISTQ_QY 0 q
    let s := s.modSlot n fun x =>
      { x with
        pop := live
        mon := if mon then some chan else none
        pil := slotPilot e
        pilWas := slotPilot e
        pilStg := slotPilot e }
    let s := s.fsi (tsasgFlds.getD (n % 8) F.QY_TSASGj_SET0) (q * 48 + i / 8) (leAt e 3 1 % 8)
    .ok (s.modCoef (bundleOf n) fun x => { x with slots := setAt x.slots (n % 8) c })

/-- R424: the entries of a SLOT record. -/
def slotEntries (q : Nat) : Nat → Nat → List Byte → State → Except Nat State
  | 0, _, _, s => .ok s
  | n + 1, i, l, s =>
    match slotEntry q i (l.take 192) s with
    | .ok t => slotEntries q n (i + 1) (l.drop 192) t
    | .error e => .error e

/-- R424: a SLOT record. -/
def slotRecord (q : Nat) (b : List Byte) (s : State) : Except Nat State :=
  let n := genChans (s.declGen q)
  if b.length = 192 * n then slotEntries q n 0 b s else .error 5

/-- R425: a BUNDLE record. -/
def bundleRecord (q : Nat) (b : List Byte) (s : State) : Except Nat State :=
  let n := genChans (s.declGen q) / 8
  if b.length = 32 * n then
    .ok ((List.range n).foldl (fun s j =>
      let e := slice b (32 * j) 32
      (s.modCoef (48 * q + j) fun x => bunCoefRaw (e.take 16) x.slots).fsi F.SEG_BSTEP_STEPMAX (48 * q + j) (leAt e 16 2)) s)
  else .error 1

/-- R425: an OWNER record. -/
def ownerRecord (b : List Byte) (s : State) : Except Nat State :=
  if b.length ≠ nSlots then .error 1
  else if b.all (fun x => ownerLegal x.toNat) = false then .error 3
  else
    .ok ((b.zipIdx).foldl (fun s p =>
      if p.1.toNat = 255 then s else s.modSlot p.2 fun x => { x with owner := p.1.toNat }) s)

/-! ### A record as it arrives (R427, step 4) -/

/-- A record of a placed TYPE, applied: the state after it or the code of its failure. Objects are placed after the hash. -/
def applyBody (r : ImgRec) (s : State) : Except Nat State :=
  match r.kind with
  | 0x01 => flashMap r.body s
  | 0x02 => memPlan r.body s
  | 0x03 => firmware r.index r.body s
  | 0x11 => slotRecord r.index r.body s
  | 0x12 => bundleRecord r.index r.body s
  | 0x13 => ownerRecord r.body s
  | 0x25 => if r.body.length < 32 then .error 1 else regList r (r.body.drop 32) s
  | 0x30 => if (segOf r.index (leAt r.body 6 1) r.body).isSome && decide (leAt r.body 6 1 < 4) then .ok s else .error 9
  | 0x31 => .ok s
  | 0x32 => .ok s
  | _ => regList r r.body s

/-- The records of an image in order: the state after them, or the index and the code of the first that fails. -/
def applyRecs : List ImgRec → List ImgRec → State → Except (Nat × Nat) State
  | _, [], s => .ok s
  | earlier, r :: t, s =>
    if recPlaced earlier (decide (t = [])) r = false then .error (earlier.length, 1)
    else
      match applyBody r s with
      | .ok x => applyRecs (earlier ++ [r]) t x
      | .error e => .error (earlier.length, e)

/-- R422, R424: staging and active copies alike, once every record has been applied; a quay that failed self-test is treated
as ABSENT. -/
def settleCopies (s : State) : State :=
  { s with
    quays := (List.range 32).map fun q =>
      { s.quay q with
        gen := if s.bit F.SYS_BISTQ_QY 0 q then .absent else s.declGen q
        tsets := (List.range 8).map (s.stageSet q)
        tasg := (List.range 384).foldl (fun t i => tset 0 t i (s.stageSetOf (384 * q + i))) [] }
    mir := { s.mir with t3 := (s.fg F.TIM_T3CFG_PRI, s.fg F.TIM_T3CFG_SEC) } }

/-! ### Objects (R427, step 6; R547) -/

/-- A SEGMENT or MANIFEST record placed; none where the object area has no room. -/
def placeRec (s : State) (r : ImgRec) : Option State :=
  match r.kind with
  | 0x30 =>
    match segOf r.index (leAt r.body 6 1) r.body with
    | some g => placeSegment (leAt r.body 6 1 * 4096 + r.index) g r.body s
    | none => some s
  | 0x31 => placeManifest { manRaw r.body 0 with number := r.index } r.body s
  | _ => some s

/-- All objects of an image placed. -/
def placeRecs : List ImgRec → State → Option State
  | [], s => some s
  | r :: t, s =>
    match placeRec s r with
    | some x => placeRecs t x
    | none => none

/-- The TIDE record, its table put into the shadow. -/
def placeTideRec (l : List ImgRec) (s : State) : State :=
  match ofKind 0x32 l with
  | r :: _ => placeTide s.tide.shadow (tideRaw r.body) s
  | [] => s

/-! ### Cross-record checks (R430) -/

/-- R421: the fabric digest. -/
def fabricDigest (l : List ImgRec) : List Byte :=
  sha256 ((l.filter fun r => decide (r.kind ≠ 0x25) && decide (r.kind ≠ 0x26)).flatMap fun r => r.raw)

/-- R23 to R26: the pilot plan and the loop intervals. -/
def planOk (s : State) : Bool :=
  s.popBundles.all (fun b => decide (4 ≤ (s.coef b).k) && decide ((s.coef b).k ≤ 10))
    && (s.planFails (fun n => (s.slot n).pil) (fun b => (s.coef b).k)).isNone

/-- R289: no two valid entries of the requester table carry one RID. -/
def requestersOk (s : State) : Bool :=
  decide ((((List.range 64).filter fun e => s.flagi F.PVE_RCFG_VALID e).map fun e => s.fgi F.PVE_RID_RID e).Nodup)

/-- R333: PROFILE 1 with TRANSPORT IEEE 802.3 and peer delay only. -/
def ptpOk (s : State) : Bool :=
  (List.range 2).all fun d =>
    !s.flagi F.TIM_PTPCFGd_PROFILE d
      || (decide (s.fgi F.TIM_PTPCFGd_TRANSPORT d = 3) && decide (s.fgi F.TIM_PTPCFGd_DELAY d = 1))

/-- R386: each band edge at least 2 °C above the one below it. -/
def bandsOk (s : State) : Bool :=
  (List.range 2).all fun e => decide (sgn 16 (s.fgi F.TMP_EDGEe_EDGE e) + 256 ≤ sgn 16 (s.fgi F.TMP_EDGEe_EDGE (e + 1)))

/-- R22, R24: every populated slot has a channel and a monitor input that exist on its quay's generation as the image finally
declares it; a register list may have changed it since the SLOT record (R422). -/
def slotsOk (s : State) : Bool :=
  s.fab.slots.all fun e =>
    !e.2.pop || (chanExists (s.declGen (quayOf e.1)) (chanOf e.1)
      && e.2.mon.all fun c => monExists (s.declGen (quayOf e.1)) c)

/-- R119: the crosstalk terms of every populated bundle, for the generation finally declared. -/
def termsOk (s : State) : Bool := s.popBundles.all fun b => s.xtalkAll b (s.coef b)

/-- R430: the code of the first cross-record check that fails, in the order of the codes. -/
def crossCode (l : List ImgRec) (s : State) : Option Nat :=
  if slotsOk s = false then some 5
  else if planOk s = false then some 6
  else if (List.range 32).all (fun q => s.setsOk q s.stageSetOf) = false then some 7
  else if termsOk s = false then some 8
  else if (ofKind 0x31 l).all (fun r => (manOf s r.index r.body).isSome) = false then some 10
  else if (ofKind 0x32 l).all (fun r => (tideOf s r.body).isSome) = false then some 11
  else if requestersOk s = false then some 12
  else if ptpOk s = false then some 13
  else if bandsOk s = false then some 14
  else if s.popBundles.any (fun b => decide (s.physOf (engineOf b) = 0x3F)) = true then some 15
  else if (ofKind 0x25 l).all (fun r => decide (r.body.take 32 = fabricDigest l)) = false then some 16
  else none

end Sys2Proof.Machine
end

