-- ==== Sys2Proof/Machine/Boot.lean ====
section
/-! DEFINITION. Start-up (16): OFF to BOOT, the steps of BOOT, the choice of an image slot, boot failure, and STAGING with its
end. -/
namespace Sys2Proof.Machine

/-! ### Boot failure (R431) -/

/-- R431: BOOT ends in failure with a cause, and the device enters SAFE. -/
def bootFail (cause : Nat) (s : State) : State :=
  let s := (s.fs F.SYS_BOOTSTAT_SLOT 2).fs F.SYS_BOOTSTAT_FAIL cause
  let word := 2 + s.fg F.SYS_BOOTSTAT_FALLBACK * 4 + s.fg F.SYS_BOOTSTAT_UNPROV * 8 + s.fg F.SYS_BOOTSTAT_CAUSEA * 16
    + s.fg F.SYS_BOOTSTAT_CAUSEB * 256 + cause * 4096
  (enterSafe [⟨0xA001, noIndex, word, none⟩] s).modBoot fun b => { b with step := .failed, tries := [] }

/-! ### OFF to BOOT (R410, R411) -/

/-- R410: nothing holds the device in OFF: the supplies, RESET_N, the thermal comparator (R383) and an instruction of the TAP that
owns the balls (R503). RESET_N is high again when the row comes. -/
def State.mayLeaveOff (s : State) : Bool :=
  decide (s.dev = .off) && s.boot.supplies.all (fun b => b) && !s.cal.shut && !decide (s.port.sbi.ir ∈ [3, 4, 5])

/-- R290: the key slots that an OTP makes usable: valid and not revoked. -/
def usableKeys (otp : Tbl Byte) : Nat := leNat (tgetBytes otp 0 0x289 1) &&& (255 - leNat (tgetBytes otp 0 0x28A 1))

/-- R388: the trims by number, with how many instances and bits each has. -/
def trimKinds : List (Nat × Nat × Nat) := [(0, 16, 8), (1, 3, 6), (2, 1, 7), (3, 34, 4), (4, 34, 4), (5, 2, 6)]

/-- R388, R390: every trim is loaded from the OTP; these are the factory values. -/
def loadTrims (s : State) : State :=
  let data := tgetBytes s.boot.otp 0 8 248
  { s with cal :=
    { s.cal with
      trimNext := []
      trims := trimKinds.flatMap fun x => (List.range x.2.1).map fun i =>
        (x.1 * 64 + i, ((Config.otpTrim data x.1 i).toNat % 2 ^ x.2.2, false)) } }

/-- R290, R388, R410 to R412, R428, R432: the straps are latched, BOOT begins, and the OTP is read into its shadows. `otpErr`: an
uncorrectable error in the FACTORY region. An access of MEMACC that has waited in OFF goes on (R505). -/
def leaveOff (senior fmode otpErr : Bool) (s : State) : State :=
  if s.mayLeaveOff then
    let s := (s.fb F.SYS_STRAP_SENIOR senior).fb F.SYS_STRAP_FMODE fmode
    let s := loadTrims (s.fs F.SBI_CFG_ADDR (0x5A + b2n senior))
    let s := { s with dev := .boot }.modBoot fun b => { b with resetN := true, shadow := b.otp, keys := usableKeys b.otp, step := .plls }
    let s := s.when (s.flag F.TMP_AONSTAT_SHUTDN) fun s => s.logFault 0x2005 noIndex 0
    let s := s.when s.unprovisioned fun s => s.fs F.SYS_BOOTSTAT_UNPROV 1
    macResume (if otpErr then bootFail 1 s else (s.fs F.OTP_STAT_READY 1).fs F.SYS_IMGSVN_OTP s.svnCount)
  else s

/-- The meaning of LEAVE_OFF (R410): 2.000 ms after the last condition has cleared, with the levels of the straps. -/
def execLeaveOff (senior fmode otpErr : Bool) (s : State) : Out := .next (leaveOff senior fmode otpErr s)

/-! ### The PLLs (R54, R412) -/

/-- R54, R412: a PLL locks. At PLL0 lock in BOOT the time bases start from zero and frame 0 begins. -/
def pllLock (p : Nat) (s : State) : State :=
  if s.clocked && !s.flag (pllFlds p).1 then
    let s := (s.fs (pllFlds p).1 1).modBoot fun b => { b with pll := setAt b.pll p true }
    if s.dev = .boot ∧ s.boot.step = .plls then
      let s := if p = 0 then { s.modTime fun t => { t with t := [0, 0, 0, 0] } with frame := 0 } else s
      if s.boot.pll.all (fun b => b) then s.modBoot fun b => { b with step := .selftest } else s
    else s
  else s

/-- The meaning of PLL_LOCK (R54). -/
def execPllLock (p : Fin 3) (s : State) : Out := .next (pllLock p.val s)

/-- R54: a PLL has not locked within 1 ms of BOOT entry. -/
def pllTimeout (s : State) : State := if s.dev = .boot ∧ s.boot.step = .plls then bootFail 2 s else s

/-- The meaning of PLL_LOCK_TIMEOUT (R54). -/
def execPllLockTimeout (s : State) : Out := .next (pllTimeout s)

/-! ### Self-test (R413, R414) -/

/-- R414: the physical engines that have not failed, in ascending order. -/
def goodEngines (failed : Nat) : List Nat := (List.range 50).filter fun p => !failed.testBit p

/-- R413: what self-test leaves of physical engine `p`. -/
def engineSelf (failed : Nat) (good : List Nat) (s : State) (p : Nat) : State :=
  let e := good.idxOf p
  if failed.testBit p then
    ((s.fsi F.MOR_ESTATp_STATE p 2).fsi F.MOR_ESTATp_CAUSE p 3).fsi F.MOR_ESTATp_LOGICAL p 0x3F
  else if e < 48 then (s.fsi F.MOR_ESTATp_STATE p 0).fsi F.MOR_ESTATp_LOGICAL p e
  else (s.fsi F.MOR_ESTATp_STATE p 1).fsi F.MOR_ESTATp_LOGICAL p 0x3F

/-- R413, R414: the engines as self-test found them, mapped. -/
def mapEngines (failed : Nat) (s : State) : State :=
  let good := goodEngines failed
  let s := (List.range 50).foldl (engineSelf failed good) s
  (List.range 48).foldl (fun s e => s.fsi F.MOR_EMAPe_PHYS e (good.getD e 0x3F)) s

/-- R413, R508: what failed in self-test is logged. -/
def logSelf (r : SelfTest) (s : State) : State :=
  let s := (List.range 50).foldl (fun s p => if r.engines.toNat.testBit p then s.logFault 0x3003 p 0x3F else s) s
  (List.range 32).foldl (fun s q => if r.quays.toNat.testBit q then s.logFault 0x4007 q 0 else s) s

/-- R413: the outcomes of a self-test that BOOT survives. -/
def selfOutcomes (r : SelfTest) (s : State) : State :=
  let s := (mapEngines r.engines.toNat s).fs F.SYS_BISTQ_QY r.quays.toNat
  s.when (!r.entropyOk) fun s => s.fs F.PVE_STAT_RNGFAIL 1

/-- R427, R509: the end of BOOT step 3: the log starts and both descriptors are read. -/
def startImages (s : State) : State :=
  let s := { s.modFab (fun x => { x with weakWords := [], badWords := [] }) with log := s.log.start, table := [] }
  match s.candidates with
  | [] => bootFail 4 s
  | l => s.modBoot fun b => { b with step := .image, tries := l }

/-- R413, R427, R509: self-test ends with its outcomes. -/
def selfTestDone (r : SelfTest) (s : State) : State :=
  if s.dev = .boot ∧ s.boot.step = .selftest then
    if (r.tableOk && r.ramsOk && r.cryptoOk) = false then bootFail 3 (selfOutcomes r (logSelf r s))
    else startImages (selfOutcomes r (logSelf r s))
  else s

/-- The meaning of SELF_TEST_DONE (R413). -/
def execSelfTestDone (r : SelfTest) (s : State) : Out := .next (selfTestDone r s)

/-! ### A try (R427 to R430) -/

/-- Why a try failed: its cause, and for CHECK the record and the code. -/
structure TryFail where
  cause : Nat
  record : Nat
  code : Nat
  deriving DecidableEq, Repr

/-- R416, R419: XSP runs the rest of the slot as the descriptor says. -/
def xspOfDesc (d : List Byte) (s : State) : State :=
  let s := (s.fs F.XSP_CFG_MODE (leAt d 0x0D 1)).fs F.XSP_CFG_DIV (leAt d 0x0E 1)
  (s.fs F.XSP_CFG_DUMMY (leAt d 0x0F 1)).fs F.XSP_OPC0_RDOP (leAt d 0x10 2)

/-- R427, steps 4 to 7: the body of an image. Which record stands for one that is missing is a free value. -/
def tryBody (slot : Nat) (d : List Byte) (s : State) : Except TryFail State :=
  let len := leAt d 0x14 4
  let bytes := s.flashBytes (imgBase slot + 0x100) (len - 0x100)
  let rs := imgRecs (leAt d 0x18 4) bytes
  let free := (Config.freeWord s.fresh).toNat % 65536
  match applyRecs [] rs.1 s with
  | .error e => .error ⟨8, e.1, e.2⟩
  | .ok s =>
    if rs.2 = false then .error ⟨8, if rs.1.length < leAt d 0x18 4 then rs.1.length else free, 1⟩
    else if mustHave rs.1 = false then .error ⟨8, free, 1⟩
    else if sha256 bytes ≠ slice d 0x20 32 then .error ⟨9, 0, 0⟩
    else
      match placeRecs rs.1 s with
      | none => .error ⟨10, 0, 0⟩
      | some s =>
        let s := placeTideRec rs.1 (settleCopies s)
        match crossCode rs.1 s with
        | some c => .error ⟨8, 0xFFFF, c⟩
        | none => .ok (s.modMir fun x => { x with digest := fabricDigest rs.1 })

/-- R427: a slot tried. -/
def trySlot (slot : Nat) (s : State) : Except TryFail State :=
  let d := s.imgDesc slot
  let s := xspOfDesc d s
  if s.keyPermitted d = false then .error ⟨5, 0, 0⟩
  else if sigOk d = false then .error ⟨6, 0, 0⟩
  else if leAt d 0x0C 1 < s.svnCount then .error ⟨7, 0, 0⟩
  else tryBody slot d s

/-- The fields of OTP that show its shadows. -/
def otpShadowFlds : List Fld := [F.OTP_STAT_READY]

/-- The registers that keep their values across the reset of R429: those of AON, TMP, TIM and the OTP shadows, the engine mapping and the
results of self-test, the straps, and what the boot sequencer records. -/
def retryKeeps (k : Nat) : Bool :=
  let reg := k / 16384 / 32
  decide (reg / 0x10000 ∈ [0x4002, 0x4009])
    || (otpShadowFlds.any fun f => decide (k = f.key 0))
    || decide (reg ∈ [F.CKG_PLLSTAT_LOCK0.base, F.CKG_REFMON.base, F.MOR_EMAPe_PHYS.base, F.SYS_STRAP_SENIOR.base,
      F.SYS_BOOTSTAT_SLOT.base, F.SYS_CHKINFO_RECORD.base, F.SYS_IMGSVN_OTP.base, F.SYS_BISTQ_QY.base,
      F.SYS_RSTCAUSE_POWER.base, F.DBG_SAFECFG_AUTO.base, F.DBG_LASTSAFE_CODE.base, F.DBG_LASTSAFEF_FRAME.base])
    || (List.range 50).any (fun p => [F.MOR_ESTATp_STATE, F.MOR_ESTATp_CAUSE, F.MOR_ESTATp_LOGICAL].any fun f =>
      decide (k = f.key p))
    || decide (k = F.PVE_STAT_RNGFAIL.key 0) || decide (k = F.SBI_CFG_ADDR.key 0)

/-- R429, R467: the reset after a failed try; a burst of M7 in flight is one more that a reset has met. -/
def retryReset (s : State) : State :=
  ({ State.reset with
    dev := s.dev
    frame := s.frame
    fresh := s.fresh
    rdata := s.rdata
    regs := s.regs.filter fun e => retryKeeps e.1
    log := s.log
    time := s.time
    tiles := s.tiles
    boot := { s.boot with ops := [], opsHeld := false, cur := none, otpOp := none, otpHeld := false, entry := [], journals := (0, 0), objBase := 0 }
    cal := { CalSt.init with
      fails := s.cal.fails, seen := s.cal.seen, trims := s.cal.trims, trimNext := s.cal.trimNext, band := s.cal.band, bandDone := s.cal.bandDone
      shut := s.cal.shut }
    mir := { MirSt.init with hbtLevel := s.mir.hbtLevel, actLevel := s.mir.actLevel }
    port := { PortSt.init with
      sbi := s.port.sbi.tap
      safe := s.port.safe }
    pending := s.pending } : State).when (s.flight 7).isSome burstReset

/-- R429: the cause of a slot's failure recorded. -/
def recordFail (slot : Nat) (e : TryFail) (s : State) : State :=
  let s := s.fs (if slot = 0 then F.SYS_BOOTSTAT_CAUSEA else F.SYS_BOOTSTAT_CAUSEB) e.cause
  if e.cause = 8 then
    ((s.fs F.SYS_CHKINFO_RECORD e.record).fs F.SYS_CHKINFO_CODE e.code).fs F.SYS_CHKINFO_SLOT slot
  else s

/-- The calibration of the image: the factory values of slots and quays (R390). -/
def factoryValues (s : State) : State :=
  { s with
    cal := { s.cal with
      slotFact := s.popSlots.foldl (fun t n => tset SlotCoef.init t n (s.slotCoef n)) []
      quayFact := (List.range 32).foldl (fun t q =>
        if s.declGen q = .absent then t
        else tset [] t q ([1, 2, 3].map (fun r => s.fgi F.QY_RNGGAINr_GAIN (4 * q + r)) ++ [s.fgi F.QY_HALFLVL_LEVEL q])) [] } }

/-- R435: entry into STAGING, at the coming tick. -/
def enterStaging (s : State) : State :=
  let s := { s with dev := .staging, locked := true }
  let s := s.modBoot fun b => { b with step := .done, tries := [], go := false, stagFrom := s.coming }
  let s := s.boot.entry.foldl (fun s x => seqStart x.1 s) s
  let s := (List.range 32).foldl (fun s q => powerLane q s) s
  (mirTrain s).fs F.CAL_QSTART_QUAY 0xFFFFFFFF

/-- R29, R391, R427, R429: the image of a slot accepted. -/
def acceptImage (slot : Nat) (second unprov : Bool) (d : List Byte) (s : State) : State :=
  let s := s.modFab fun x => { x with small := decide (s.popSlots.length ≤ 6144) }
  let s := journalLoad (factoryValues s)
  let s := ((s.fs F.SYS_BOOTSTAT_SLOT slot).fs F.SYS_BOOTSTAT_FAIL 0).fs F.SYS_IMGVER_VERSION (leAt d 8 4)
  let s := ((s.fs F.SYS_IMGSVN_IMAGE (leAt d 0x0C 1)).fs F.SYS_IMGSVN_ROLLFWD (leAt d 6 1)).fb F.SYS_BOOTSTAT_FALLBACK second
  let word := slot + b2n second * 4 + b2n unprov * 8 + s.fg F.SYS_BOOTSTAT_CAUSEA * 16 + s.fg F.SYS_BOOTSTAT_CAUSEB * 256
  enterStaging (s.when second fun s => s.logFault 0xA002 noIndex word)

/-- R427 to R431: the next image slot is tried. -/
def imageSlotTry (s : State) : State :=
  match s.dev, s.boot.step, s.boot.tries with
  | .boot, .image, slot :: t =>
    let s := s.when s.unprovisioned fun s => s.fs F.SYS_BOOTSTAT_UNPROV 1
    let second := decide (s.fg F.SYS_BOOTSTAT_CAUSEA ≠ 0) || decide (s.fg F.SYS_BOOTSTAT_CAUSEB ≠ 0)
    match trySlot slot s with
    | .ok x => acceptImage slot second s.unprovisioned (s.imgDesc slot) x
    | .error e =>
      let s := (recordFail slot e (retryReset { s with fresh := s.fresh + 1 })).modBoot fun b => { b with tries := t }
      if t = [] then bootFail e.cause s else s
  | _, _, _ => s

/-- The meaning of IMAGE_SLOT_TRY (R427). -/
def execImageSlotTry (s : State) : Out := .next (imageSlotTry s)

/-! ### The end of STAGING (R436, R437) -/

/-- R436: the lanes that R435 started are in READY or FAULT. -/
def State.lanesReady (s : State) : Bool :=
  (List.range 32).all fun q => decide (s.genDecl q = 0) || decide (s.laneSt q = 5) || decide (s.laneSt q = 7)

/-- R436: so many frames have passed at the coming tick since entry into STAGING. -/
def State.stagedFor (s : State) (n : Nat) : Bool := decide (n ≤ sub32 s.coming s.boot.stagFrom)

/-- R436: STAGING may end at the coming tick. -/
def State.stagingOver (s : State) : Bool :=
  s.boot.go && (s.lanesReady || s.stagedFor (1024 * Nat.max 1 (s.fg F.SYS_STGCFG_LANEWAIT)))
    && (!s.flag F.SYS_STGCFG_TWAIT || s.flag F.TIM_T3STAT_STEPPED
      || s.stagedFor (2 ^ 20 * Nat.max 1 (s.fg F.SYS_STGCFG_TWAITMAX)))

/-- R436, R349: STAGING ends at the coming tick; a junior device of a pair may go on to wait. -/
def stagingEnd (s : State) : State :=
  if s.dev = .staging ∧ s.mir.joinEnd = none ∧ s.stagingOver = true then stagingEnds (s.fs F.SYS_STGEND_FRAME s.coming) else s

/-- The meaning of STAGING_END (R436). -/
def execStagingEnd (s : State) : Out := .next (stagingEnd s)

end Sys2Proof.Machine
end

