-- ==== Sys2Proof/Machine/Tick.lean ====
section
/-! DEFINITION. The frame tick (02, R33 to R41), the engine deadline (R49) and the load of the frame counter after TB3's step
(13, R336, R337). The tick ends the running frame, carries out every row that is due at it, and does the work of every block
for the frame that begins, in the order of 02: slots and quays, admissions, engines, link frames. -/
namespace Sys2Proof.Machine

/-! ### The load of the frame counter (R337) -/

/-- A frame number in the new numbering. -/
def rebase (d n : Nat) : Nat := add32 n d

/-- A frame number that may be absent, in the new numbering. -/
def rebaseO (d : Nat) (o : Option Nat) : Option Nat := o.map (rebase d)

/-- A value that takes effect at a frame, in the new numbering. -/
def rebaseAt (d : Nat) (o : Option AtFrame) : Option AtFrame := o.map fun a => { a with frame := rebase d a.frame }

/-- The segment streams of a slot (R337). -/
def rebaseSlot (d : Nat) (x : Slot) : Slot :=
  { x with trs := x.trs.map fun t => { t with n0 := rebase d t.n0, ended := rebaseO d t.ended } }

/-- The pending changes of a bundle. -/
def rebaseBundle (d : Nat) (x : Bundle) : Bundle :=
  { x with
    clearF := rebaseO d x.clearF
    initF := rebaseO d x.initF
    recloseF := rebaseO d x.recloseF
    takeF := rebaseO d x.takeF }

/-- The pending changes of a quay's drive side and its samples. -/
def rebaseQuay (d : Nat) (x : Quay) : Quay :=
  { x with
    modeNext := rebaseAt d x.modeNext
    halfNext := rebaseAt d x.halfNext
    gainNext := x.gainNext.map (rebaseAt d)
    ramp := rebaseO d x.ramp
    eReset := x.eReset.map (rebase d)
    tsWas := x.tsWas.map fun y => { y with frame := rebase d y.frame }
    intake := x.intake.map fun y => { y with frame := rebase d y.frame } }

/-- R337: the fabric's frame numbers: segment streams, a pending pilot apply, and those of pending changes. -/
def rebaseFabric (d : Nat) (x : Fabric) : Fabric :=
  { x with
    slots := x.slots.map fun e => (e.1, rebaseSlot d e.2)
    bundles := x.bundles.map fun e => (e.1, rebaseBundle d e.2)
    pilApply := rebaseO d x.pilApply
    pilFrom := rebaseO d x.pilFrom
    subst := x.subst.map fun u => { u with frame := rebase d u.frame } }

/-- R337: an execution record: REQFRAME and START of a QUEUED record that is not ADMITTED; an admitted one keeps its numbers. -/
def rebaseRec (d : Nat) (x : ExecRec) : ExecRec :=
  if x.admitted then { x with old := decide (x.st = .queued) || decide (x.st = .running) }
  else if x.st = .queued then
    { x with reqFrame := rebase d x.reqFrame, start := rebase d x.start, waitFrom := rebaseO d x.waitFrom }
  else x

/-- R337: the executor's frame numbers. -/
def rebaseExec (d : Nat) (x : ExecSt) : ExecSt :=
  { x with recs := x.recs.map (fun e => (e.1, rebaseRec d e.2)), finalAt := rebaseO d x.finalAt }

/-- R337: the power ledger's frame numbers. -/
def rebaseSched (d : Nat) (x : SchedSt) : SchedSt :=
  { x with decl := x.decl.map fun y => { y with n0 := rebase d y.n0 } }

/-- The waits of the Penvar engine go on for as long as they would have (log 31). -/
def rebasePen (d : Nat) (x : PenSt) : PenSt :=
  { x with
    sess := x.sess.map fun e => (e.1, { e.2 with
      timer := rebase d e.2.timer
      cache := e.2.cache.map fun c => (c.1, { c.2 with doneFrm := rebase d c.2.doneFrm }) })
    openq := x.openq.map fun o => { o with frame := rebase d o.frame }
    install := x.install.map fun y => { y with frame := rebase d y.frame }
    settle := rebaseO d x.settle }

/-- A sweep unit's frame numbers. -/
def rebaseUnit (d : Nat) (x : CalUnit) : CalUnit :=
  { x with
    holdF := rebase d x.holdF
    f0 := rebaseO d x.f0
    last := rebase d x.last
    wait := x.wait.map fun w => { w with frame := rebase d w.frame } }

/-- A pending candidate's frame numbers. -/
def rebasePend {α : Type} (d : Nat) (x : Pend α) : Pend α := { x with first := rebase d x.first, last := rebase d x.last }

/-- The frame numbers of calibration (log 31). -/
def rebaseCal (d : Nat) (x : CalSt) : CalSt :=
  { x with
    band := rebaseAt d x.band
    units := x.units.map (rebaseUnit d)
    caps := x.caps.map fun c => { c with first := rebase d c.first, last := rebase d c.last }
    slotPend := x.slotPend.map fun e => (e.1, e.2.map (rebasePend d))
    quayPend := x.quayPend.map fun e => (e.1, e.2.map (rebasePend d))
    startEnd := x.startEnd.map fun e => (e.1, rebaseO d e.2)
    orphans := x.orphans.map fun e => (e.1, rebase d e.2)
    due := x.due.map fun y => { y with frame := rebase d y.frame } }

/-- The waits of the harbourmaster (log 31). -/
def rebaseMir (d : Nat) (x : MirSt) : MirSt :=
  { x with
    joinEnd := rebaseO d x.joinEnd
    objs := x.objs.map fun o => { o with x := { o.x with frame := rebase d o.x.frame } } }

/-- Announcements of the ports that are due (log 31). -/
def rebasePort (d : Nat) (x : PortSt) : PortSt :=
  { x with nets := x.nets.map fun n => { n with ann := n.ann.map fun a => { a with due := rebase d a.due } } }

/-- R337: Δ is added to every frame number that the device holds internally. -/
def rebaseAll (d : Nat) (s : State) : State :=
  { s with
    fab := rebaseFabric d s.fab
    quays := s.quays.map (rebaseQuay d)
    lanes := s.lanes.map fun (l : Lane) => { l with authFrom := rebaseO d l.authFrom }
    exec := rebaseExec d s.exec
    sched := rebaseSched d s.sched
    pen := rebasePen d s.pen
    cal := rebaseCal d s.cal
    mir := rebaseMir d s.mir
    port := rebasePort d s.port
    boot := { s.boot with stagFrom := rebase d s.boot.stagFrom } }

/-- R336, R337: at tick U, which ends frame s, the frame counter is loaded with U. -/
def frameReload (s : State) : State :=
  if s.time.step = .running then
    let u := usView s.t3Next
    let frm := s.frame
    let s := rebaseAll s.stepDelta (dropChanges s)
    stepRecord u frm { s with frame := u }
  else s

/-- The meaning of FRAME_COUNTER_RELOAD (R337): sent just before tick U. -/
def execFrameCounterReload (s : State) : Out := .next (frameReload s)

/-- The meaning of ENGINE_DEADLINE (R49). -/
def execEngineDeadline (s : State) : Out := .next (frameDeadline s)

/-! ### The end of the running frame -/

/-- The bursts in flight and the stores that the sequencers still hold reach their targets (R440; log 58, 59). No stall outlasts its
frame (R47). -/
def drainSeqs (s : State) : State :=
  (busSettle (4 * s.frameLen - 1) s).modFab fun x => { x with stalls := [], stops := [] }

/-- The mirror link and the harbourmaster at the end of frame `f` (14). -/
def mirrorEnd (f : Nat) (s : State) : State := mirLinkTick (sendFrames (mirRetransmit (epAsk (frameCells f (roleTick s)))))

/-! ### Rows that happen at the tick -/

/-- The lanes and channels at the coming tick (09, 10). The end of STAGING lets ready lanes into RUN (R436). -/
def linkBefore (s : State) : State :=
  if s.up then
    let s := discTick ((List.range 32).foldl (fun s q => laneRows q (laneMiss q s)) s)
    let s := (List.range 32).foldl (fun s q => laneEnterRun q s) (stagingEnd s)
    (List.range 32).foldl (fun s q => chanRows q s) s
  else s

/-- The changes of a bundle that take effect at the coming tick (05, R374). -/
def bundleBefore (b : Nat) (s : State) : State :=
  [bundleCommandApply, bundleUnpark, bundleInitClose, coefApply, coefReclose, takeReclose].foldl (fun s g => g b s) s

/-- The bundles for which the coming tick may bring something: those with a populated slot, and the others that wait for a
command or for coefficients (R138, R143). -/
def State.tickBundles (s : State) : List Nat :=
  let pop := s.popBundles
  let waits := (s.fab.bundles.filterMap fun e => if e.2.cmd ≠ .none ∨ e.2.recloseF.isSome then some e.1 else none)
    ++ tkeys s.fab.pendCoefs
  pop ++ (waits.filter fun b => decide (b ∉ pop)).dedup

/-- R150: a substitution is complete at the latest 4,096 frames after its GO. -/
def substDue (s : State) : State :=
  match s.fab.subst with
  | some u => if 4096 ≤ sub32 s.coming u.frame then substComplete s else s
  | none => s

/-- The session timers and the limits of a millisecond (R293, R295, R297, R305). -/
def sessBefore (s : State) : State :=
  let s := (tkeys s.pen.sess).foldl (fun s i => idleTimeout i (halfTimeout i s)) s
  if s.msTick then s.modPen fun p => { p with openMs := 0, authMs := 0 } else s

/-- Every row that is due at the coming tick. -/
def rowsBefore (s : State) : State :=
  let s := trigTick (bandCompute (calBefore (bandChange s)))
  let s := linkBefore s
  let s := s.tickBundles.foldl (fun s b => bundleBefore b s) s
  let s := tb3Step (tideTableStop (tideStart (pilTakeEffect (ppsRise s))))
  sessBefore (netTick (substDue s))

/-! ### The new frame -/

/-- CKG.FRMSTAT and CKG.FRMRNG: the length of the frame that ends, in CORE cycles (02). -/
def lenNote (s : State) : State :=
  let n := 4 * s.frameLen
  ((s.fs F.CKG_FRMSTAT_LAST n).fs F.CKG_FRMRNG_MIN (Nat.min n (s.fg F.CKG_FRMRNG_MIN))).fs F.CKG_FRMRNG_MAX
    (Nat.max n (s.fg F.CKG_FRMRNG_MAX))

/-- The firmware's count of wraps of TB3 (12). -/
def wrapNote (s : State) : State :=
  let step : Bool := match s.time.step with
    | .armed _ => true
    | _ => false
  s.when (decide (s.t3Next < s.tb 3) && !step) fun s => s.modPen fun p => { p with wraps := p.wraps + 1 }

/-- R33: the bases reach the tick and the frame counter counts. -/
def countTick (s : State) : State :=
  let n := s.coming
  let w := s.time.nsWrap
  let s := { advanceBases (wrapNote (lenNote s)) with frame := n }
  let now := wrapView (s.tb 3)
  s.when (decide (now ≠ w)) fun s => (s.modTime fun t => { t with nsWrap := now }).raise 21

/-- The time block in the frame that begins (13): the servo, the beacon, the event and PPS pins, and the step. -/
def timeTick (s : State) : State :=
  let s := beaconSend (beaconMiss (beaconTick (tb3Tick s)))
  let s := s.modTime fun t => { t with evtOut := if s.up then framemarks s ++ segMarks s s.frame else [] }
  let s := ppsOutEnd 0 (ppsOutEdge 0 s)
  let now := decide (s.time.step = .running)
  let s := s.modFab fun x => { x with stepHist := histPush histLen x.stepHist now }
  s.when now tideStepStop

/-- R148, R150: bundles of failed engines enter PARKED-HOLD at tick `f`, and their transitions are cut. -/
def holdsTick (f : Nat) (s : State) : State :=
  let was := s.fab.bundles
  let s := engineHolds s
  (s.popBundles.filter fun b => decide ((s.bun b).st = .hold) && decide ((tget Bundle.init was b).st ≠ .hold)).foldl
    (fun s b => holdCuts b f s) s

/-- R84: the soft starts whose last frame has been composed, as of frame `f`. -/
def rampTick (f : Nat) (s : State) : State :=
  (List.range 32).foldl (fun s q =>
    match (s.quay q).ramp with
    | some r =>
      if notBefore f (add32 r (2 ^ Nat.min 10 (s.fgi F.QY_DRVCFG_SSLEN q))) then
        (s.modQuay q fun x => { x with ramp := none }).fsi F.QY_DRVSTAT_RAMP q 0
      else s
    | none => s.fsi F.QY_DRVSTAT_RAMP q 0) s

/-- The pilot copy replaced by R80 is no longer needed once every frame that used it has been composed and demodulated. -/
def pilotTick (f : Nat) (s : State) : State :=
  match s.fab.pilFrom with
  | some p => if later f (add32 p 4) then s.modFab fun x => { x with pilFrom := none } else s
  | none => s

/-- The timing sets that a change replaced are no longer needed once every frame that used them has been demodulated (R113). -/
def tsetTick (f : Nat) (s : State) : State :=
  (List.range 32).foldl (fun s q =>
    match (s.quay q).tsWas with
    | some w => if later f (add32 w.frame 4) then s.modQuay q fun x => { x with tsWas := none } else s
    | none => s) s

/-- R35, R39: the work that prepares frame `f`: changes of slots, objects and tables that take effect at its tick, the drive
of its heater frame f + 1, and the queues' credit. -/
def prepareFrame (f : Nat) (s : State) : State :=
  let s := tideAutoArm (tideAdvance (installTick f (slotCtlTick (holdsTick f s))))
  creditAll (measurePower (add32 f 1) (modulateAll (add32 f 1) (4 * s.nextLen) s))

/-- R39, R179: the executor, and the admissions for heater frame f + 3. -/
def admitFrame (f : Nat) (s : State) : State :=
  let s := flushAll f (dropKept (manTick f (truncTick f s)))
  ledgerPrune (add32 f 1) (s.when (s.decides f) (schedTick f))

/-- R103, R469: the fetches of a frame: those that meet an uncorrectable word are errors of M5, and the others correct what they
can. -/
def fetchFrame (s : State) : State :=
  let got := s.fetches
  chunkDeliver got (got.foldl (fun s c =>
    if s.chunkBad c then eccFail 5 (chunkAddr c) false s else eccMend (chunkAddr c) s) s)

/-- R39, R130: the engines compose heater frame f + 2; chunks for heater frame f + 3 are fetched (R103). -/
def composeFrame (f : Nat) (s : State) : State :=
  let s := stagedFrame f (calOpenings f (startAll (add32 f 2) s))
  let s := calAfter (add32 f 1) (tallyFrame f (engineFrame s.sweepTerm f s))
  fetchFrame (chunkRequests (add32 f 3) s)

/-- R39: every quay launches its link frame. -/
def launchAll (f : Nat) (s : State) : State :=
  (List.range 32).foldl (fun s q => laneCounts q (launchFrame q f s.frameLen s)) (tsetTick f (pilotTick f (rampTick f s)))

/-- What else a tick brings: watchdogs, restart bookkeeping, events, pins, mirror frames and the level of the UART source. -/
def houseTick (f : Nat) (s : State) : State :=
  let s := eventTick (restartReset (upTick (loadTick (wdTick s))))
  let s := beginFrames (pinTick s)
  let s := dueTick (objTick f s.mir.objs.length (heldTick s))
  let s := announceGained (pruneHistory (unsyncLanes s))
  uartLevel (s.modPort fun x => { x with craneBeats := [] })

/-- R33: the per-frame work of every block in frame `f`, and the FRAME source. -/
def frameWork (f : Nat) (s : State) : State :=
  (houseTick f (launchAll f (composeFrame f (admitFrame f (prepareFrame f s))))).raise 0

/-- R33: the CORE cycle of the tick that ends frame `f0`. In SAFE entered at it (R516) no block works. -/
def tickCycle (f0 : Nat) (s : State) : State :=
  let s := rowsBefore (mirrorEnd f0 (frameReload s))
  let s := safeAtTick (timeTick (countTick s))
  if s.up then frameWork s.frame s
  else if s.clocked then (houseTick s.frame s).raise 0
  else s

/-- R33: the frame tick, with the deadline of the frame that ends where none was given. -/
def frameTick (s : State) : State :=
  if s.clocked && s.flag F.CKG_PLLSTAT_LOCK0 then
    logCycle (tickCycle s.frame) (drainSeqs (frameDeadline s))
  else s

/-- The meaning of FRAME_TICK (R33). -/
def execFrameTick (s : State) : Out := .next (frameTick s)

end Sys2Proof.Machine
end

