-- ==== Sys2Proof/Machine/Dispatch.lean ====
section
/-! DEFINITION. The effect of each command: one arm per constructor, each one call of that command's meaning. -/
namespace Sys2Proof.Machine

/-- The effect of a command on everything but the queue. -/
def exec (i : Instr) (s : State) : Host.Outcome State Fault Refusal :=
  match i with
  | .powerSupplyChange supply good => Sys2Proof.Machine.execPowerSupplyChange supply good s
  | .resetNAssert => Sys2Proof.Machine.execResetNAssert s
  | .leaveOff senior fmode otpErr => Sys2Proof.Machine.execLeaveOff senior fmode otpErr s
  | .pllLock p => Sys2Proof.Machine.execPllLock p s
  | .pllLockTimeout => Sys2Proof.Machine.execPllLockTimeout s
  | .selfTestDone r => Sys2Proof.Machine.execSelfTestDone r s
  | .imageSlotTry => Sys2Proof.Machine.execImageSlotTry s
  | .stagingEnd => Sys2Proof.Machine.execStagingEnd s
  | .joinWaitExpiry => Sys2Proof.Machine.execJoinWaitExpiry s
  | .frameTick => Sys2Proof.Machine.execFrameTick s
  | .queueLateFlush q => Sys2Proof.Machine.execQueueLateFlush q s
  | .transitionLateEnd slot => Sys2Proof.Machine.execTransitionLateEnd slot s
  | .engineDeadline => Sys2Proof.Machine.execEngineDeadline s
  | .engineLateEscalation b => Sys2Proof.Machine.execEngineLateEscalation b s
  | .slotDark slot => Sys2Proof.Machine.execSlotDark slot s
  | .slotSettled slot => Sys2Proof.Machine.execSlotSettled slot s
  | .settleTimeout slot => Sys2Proof.Machine.execSettleTimeout slot s
  | .bundleCommandApply b => Sys2Proof.Machine.execBundleCommandApply b s
  | .bundleUnpark b => Sys2Proof.Machine.execBundleUnpark b s
  | .bundleInitClose b => Sys2Proof.Machine.execBundleInitClose b s
  | .coefficientChangeApply b => Sys2Proof.Machine.execCoefficientChangeApply b s
  | .coefficientReclose b => Sys2Proof.Machine.execCoefficientReclose b s
  | .engineMemoryError phys cycle corrected => Sys2Proof.Machine.execEngineMemoryError phys cycle corrected s
  | .substGo => Sys2Proof.Machine.execSubstGo s
  | .substLoadComplete => Sys2Proof.Machine.execSubstLoadComplete s
  | .bcmdOpen => Sys2Proof.Machine.execBcmdOpen s
  | .bcmdClose => Sys2Proof.Machine.execBcmdClose s
  | .engineWindowWrite w off v => Sys2Proof.Machine.execEngineWindowWrite w off v s
  | .morStatclr => Sys2Proof.Machine.execMorStatclr s
  | .slotcfgFset => Sys2Proof.Machine.execSlotcfgFset s
  | .slotcfgFclr => Sys2Proof.Machine.execSlotcfgFclr s
  | .slotcfgOwnerWrite v => Sys2Proof.Machine.execSlotcfgOwnerWrite v s
  | .cstatClrdown => Sys2Proof.Machine.execCstatClrdown s
  | .manStatclr => Sys2Proof.Machine.execManStatclr s
  | .queueFlush => Sys2Proof.Machine.execQueueFlush s
  | .schStatclr => Sys2Proof.Machine.execSchStatclr s
  | .vtReadLatch => Sys2Proof.Machine.execVtReadLatch s
  | .qbalReadLatch => Sys2Proof.Machine.execQbalReadLatch s
  | .tideArm => Sys2Proof.Machine.execTideArm s
  | .tideCancel => Sys2Proof.Machine.execTideCancel s
  | .tideStop => Sys2Proof.Machine.execTideStop s
  | .tidStatclr => Sys2Proof.Machine.execTidStatclr s
  | .tideStart => Sys2Proof.Machine.execTideStart s
  | .tideTableStop => Sys2Proof.Machine.execTideTableStop s
  | .pilApply delay => Sys2Proof.Machine.execPilApply delay s
  | .pilRevert => Sys2Proof.Machine.execPilRevert s
  | .pilAccRd => Sys2Proof.Machine.execPilAccRd s
  | .pilAccWr => Sys2Proof.Machine.execPilAccWr s
  | .pilotApplyTakeEffect => Sys2Proof.Machine.execPilotApplyTakeEffect s
  | .pilCopyDone => Sys2Proof.Machine.execPilCopyDone s
  | .rngreqGo q => Sys2Proof.Machine.execRngreqGo q s
  | .rngreqCancel q => Sys2Proof.Machine.execRngreqCancel q s
  | .rangeNoackCancel q => Sys2Proof.Machine.execRangeNoackCancel q s
  | .rangeChangeApply q => Sys2Proof.Machine.execRangeChangeApply q s
  | .drvcfgModeWrite q v => Sys2Proof.Machine.execDrvcfgModeWrite q v s
  | .halflvlWrite q v => Sys2Proof.Machine.execHalflvlWrite q v s
  | .rnggainWrite q r v => Sys2Proof.Machine.execRnggainWrite q r v s
  | .qyDrvStatclr q => Sys2Proof.Machine.execQyDrvStatclr q s
  | .tsreqGo q => Sys2Proof.Machine.execTsreqGo q s
  | .tsreqCancel q => Sys2Proof.Machine.execTsreqCancel q s
  | .tsetNoackCancel q => Sys2Proof.Machine.execTsetNoackCancel q s
  | .tsetChangeApply q => Sys2Proof.Machine.execTsetChangeApply q s
  | .segStatclr => Sys2Proof.Machine.execSegStatclr s
  | .ckgStatclr => Sys2Proof.Machine.execCkgStatclr s
  | .referenceWindow edges => Sys2Proof.Machine.execReferenceWindow edges s
  | .pllLossOfLock p => Sys2Proof.Machine.execPllLossOfLock p s
  | .laneSeekRateSwitch q => Sys2Proof.Machine.execLaneSeekRateSwitch q s
  | .upstreamLockAcquire q => Sys2Proof.Machine.execUpstreamLockAcquire q s
  | .trainPresetStep q => Sys2Proof.Machine.execTrainPresetStep q s
  | .trainComplete q => Sys2Proof.Machine.execTrainComplete q s
  | .trainTimeout q => Sys2Proof.Machine.execTrainTimeout q s
  | .discoverComplete q => Sys2Proof.Machine.execDiscoverComplete q s
  | .discoverTimeout q => Sys2Proof.Machine.execDiscoverTimeout q s
  | .skewMeasureComplete q => Sys2Proof.Machine.execSkewMeasureComplete q s
  | .launchMoveDone q => Sys2Proof.Machine.execLaunchMoveDone q s
  | .laneEnterRun q => Sys2Proof.Machine.execLaneEnterRun q s
  | .upstreamLockLoss q => Sys2Proof.Machine.execUpstreamLockLoss q s
  | .upstreamRelock q => Sys2Proof.Machine.execUpstreamRelock q s
  | .relockTimeout q => Sys2Proof.Machine.execRelockTimeout q s
  | .preRunLockLoss q => Sys2Proof.Machine.execPreRunLockLoss q s
  | .lnkctrlRetrain q => Sys2Proof.Machine.execLnkctrlRetrain q s
  | .lnkctrlReskew q => Sys2Proof.Machine.execLnkctrlReskew q s
  | .qyLnkStatclr q => Sys2Proof.Machine.execQyLnkStatclr q s
  | .upstreamFrame q f a => Sys2Proof.Machine.execUpstreamFrame q f a s
  | .downstreamErrorBurst q => Sys2Proof.Machine.execDownstreamErrorBurst q s
  | .tileDownstreamFrame q p f => Sys2Proof.Machine.execTileDownstreamFrame q p f s
  | .tileReferenceInstant q taken => Sys2Proof.Machine.execTileReferenceInstant q taken s
  | .tileUpstreamLaunch q p eye tph ttl => Sys2Proof.Machine.execTileUpstreamLaunch q p eye tph ttl s
  | .tilePark q => Sys2Proof.Machine.execTilePark q s
  | .tileLock q p locked who => Sys2Proof.Machine.execTileLock q p locked who s
  | .tileControlReset q => Sys2Proof.Machine.execTileControlReset q s
  | .tileConditionDetect q output comply entered => Sys2Proof.Machine.execTileConditionDetect q output comply entered s
  | .tileRd q p => Sys2Proof.Machine.execTileRd q p s
  | .tileWr q p => Sys2Proof.Machine.execTileWr q p s
  | .tileAnnounce q p => Sys2Proof.Machine.execTileAnnounce q p s
  | .tileCancel q p => Sys2Proof.Machine.execTileCancel q p s
  | .rdrsp q => Sys2Proof.Machine.execRdrsp q s
  | .wrrsp q => Sys2Proof.Machine.execWrrsp q s
  | .annack q => Sys2Proof.Machine.execAnnack q s
  | .canack q => Sys2Proof.Machine.execCanack q s
  | .errrsp q => Sys2Proof.Machine.execErrrsp q s
  | .event q => Sys2Proof.Machine.execEvent q s
  | .channelRetransmitTimeout q => Sys2Proof.Machine.execChannelRetransmitTimeout q s
  | .channelRetryFail q => Sys2Proof.Machine.execChannelRetryFail q s
  | .tchctrlReset q => Sys2Proof.Machine.execTchctrlReset q s
  | .channelResetDone q => Sys2Proof.Machine.execChannelResetDone q s
  | .qyTchStatclr q => Sys2Proof.Machine.execQyTchStatclr q s
  | .treqGo q => Sys2Proof.Machine.execTreqGo q s
  | .treqTimeout q => Sys2Proof.Machine.execTreqTimeout q s
  | .openMsg d => Sys2Proof.Machine.execOpenMsg d s
  | .closeMsg d => Sys2Proof.Machine.execCloseMsg d s
  | .ping d => Sys2Proof.Machine.execPing d s
  | .load d => Sys2Proof.Machine.execLoad d s
  | .commit d => Sys2Proof.Machine.execCommit d s
  | .discard d => Sys2Proof.Machine.execDiscard d s
  | .apply d => Sys2Proof.Machine.execApply d s
  | .withdraw d => Sys2Proof.Machine.execWithdraw d s
  | .tidectlArm d => Sys2Proof.Machine.execTidectlArm d s
  | .tidectlCancel d => Sys2Proof.Machine.execTidectlCancel d s
  | .tidectlStop d => Sys2Proof.Machine.execTidectlStop d s
  | .queryDevice d => Sys2Proof.Machine.execQueryDevice d s
  | .queryTime d => Sys2Proof.Machine.execQueryTime d s
  | .queryReg d => Sys2Proof.Machine.execQueryReg d s
  | .querySlot d => Sys2Proof.Machine.execQuerySlot d s
  | .queryCircuit d => Sys2Proof.Machine.execQueryCircuit d s
  | .queryQueue d => Sys2Proof.Machine.execQueryQueue d s
  | .queryHealth d => Sys2Proof.Machine.execQueryHealth d s
  | .manifestStatus d => Sys2Proof.Machine.execManifestStatus d s
  | .slotControlOwner d => Sys2Proof.Machine.execSlotControlOwner d s
  | .slotControlFailset d => Sys2Proof.Machine.execSlotControlFailset d s
  | .slotControlFailclr d => Sys2Proof.Machine.execSlotControlFailclr d s
  | .slotControlClrdown d => Sys2Proof.Machine.execSlotControlClrdown d s
  | .subscribe d => Sys2Proof.Machine.execSubscribe d s
  | .penvarUnknownType d => Sys2Proof.Machine.execPenvarUnknownType d s
  | .scmdAccept => Sys2Proof.Machine.execScmdAccept s
  | .scmdRefuse refcode => Sys2Proof.Machine.execScmdRefuse refcode s
  | .scmdClose => Sys2Proof.Machine.execScmdClose s
  | .halfTimeout idx => Sys2Proof.Machine.execHalfTimeout idx s
  | .idleTimeout idx => Sys2Proof.Machine.execIdleTimeout idx s
  | .pveStatclr => Sys2Proof.Machine.execPveStatclr s
  | .tbIncWrite n v => Sys2Proof.Machine.execTbIncWrite n v s
  | .tbAdjWrite n v => Sys2Proof.Machine.execTbAdjWrite n v s
  | .tbNsReadLatch n cycle => Sys2Proof.Machine.execTbNsReadLatch n cycle s
  | .tb3Step => Sys2Proof.Machine.execTb3Step s
  | .frameCounterReload => Sys2Proof.Machine.execFrameCounterReload s
  | .timStatclr => Sys2Proof.Machine.execTimStatclr s
  | .ppsInEdge cycle => Sys2Proof.Machine.execPpsInEdge cycle s
  | .ppsnextWrite v => Sys2Proof.Machine.execPpsnextWrite v s
  | .ppsOutEdge cycle => Sys2Proof.Machine.execPpsOutEdge cycle s
  | .ppsOutEnd cycle => Sys2Proof.Machine.execPpsOutEnd cycle s
  | .evtCapture n falling cycle => Sys2Proof.Machine.execEvtCapture n falling cycle s
  | .evtPop n => Sys2Proof.Machine.execEvtPop n s
  | .evtStatclr => Sys2Proof.Machine.execEvtStatclr s
  | .beaconEdgeReceive at100ps width => Sys2Proof.Machine.execBeaconEdgeReceive at100ps width s
  | .beaconMiss => Sys2Proof.Machine.execBeaconMiss s
  | .beaconSkewMeasure tin tout => Sys2Proof.Machine.execBeaconSkewMeasure tin tout s
  | .beaconEcho at100ps width => Sys2Proof.Machine.execBeaconEcho at100ps width s
  | .partnerFailed => Sys2Proof.Machine.execPartnerFailed s
  | .takeover => Sys2Proof.Machine.execTakeover s
  | .dualActiveYield => Sys2Proof.Machine.execDualActiveYield s
  | .mirrorFrame lane f => Sys2Proof.Machine.execMirrorFrame lane f s
  | .mirrorLaneTrain lane up oneway => Sys2Proof.Machine.execMirrorLaneTrain lane up oneway s
  | .req => Sys2Proof.Machine.execReq s
  | .admitEv => Sys2Proof.Machine.execAdmitEv s
  | .voidev => Sys2Proof.Machine.execVoidev s
  | .late => Sys2Proof.Machine.execLate s
  | .tally => Sys2Proof.Machine.execTally s
  | .config => Sys2Proof.Machine.execConfig s
  | .swap => Sys2Proof.Machine.execSwap s
  | .object => Sys2Proof.Machine.execObject s
  | .session => Sys2Proof.Machine.execSession s
  | .cache => Sys2Proof.Machine.execCache s
  | .holdcode => Sys2Proof.Machine.execHoldcode s
  | .brec => Sys2Proof.Machine.execBrec s
  | .sblk => Sys2Proof.Machine.execSblk s
  | .epctl => Sys2Proof.Machine.execEpctl s
  | .ack => Sys2Proof.Machine.execAck s
  | .hello => Sys2Proof.Machine.execHello s
  | .mirrorCellRetransmit => Sys2Proof.Machine.execMirrorCellRetransmit s
  | .streamLoss => Sys2Proof.Machine.execStreamLoss s
  | .tallyTimeout => Sys2Proof.Machine.execTallyTimeout s
  | .epochCommit => Sys2Proof.Machine.execEpochCommit s
  | .epochTimeout => Sys2Proof.Machine.execEpochTimeout s
  | .mirEpoch => Sys2Proof.Machine.execMirEpoch s
  | .mirResync => Sys2Proof.Machine.execMirResync s
  | .mirRetrain => Sys2Proof.Machine.execMirRetrain s
  | .mirStatclr => Sys2Proof.Machine.execMirStatclr s
  | .rolSwap => Sys2Proof.Machine.execRolSwap s
  | .rolSwcancel => Sys2Proof.Machine.execRolSwcancel s
  | .rolStatclr => Sys2Proof.Machine.execRolStatclr s
  | .swapNoack => Sys2Proof.Machine.execSwapNoack s
  | .swapAtFrame => Sys2Proof.Machine.execSwapAtFrame s
  | .sensorSample results => Sys2Proof.Machine.execSensorSample results s
  | .sensorFail n => Sys2Proof.Machine.execSensorFail n s
  | .thermalTrip => Sys2Proof.Machine.execThermalTrip s
  | .thermalShutdown => Sys2Proof.Machine.execThermalShutdown s
  | .shutdownRelease => Sys2Proof.Machine.execShutdownRelease s
  | .writeHoldRelease => Sys2Proof.Machine.execWriteHoldRelease s
  | .bandCompute => Sys2Proof.Machine.execBandCompute s
  | .bandChange => Sys2Proof.Machine.execBandChange s
  | .qtrigClear v => Sys2Proof.Machine.execQtrigClear v s
  | .dietrigClear => Sys2Proof.Machine.execDietrigClear s
  | .calTrimWrite v => Sys2Proof.Machine.execCalTrimWrite v s
  | .calGoElement => Sys2Proof.Machine.execCalGoElement s
  | .calGoScale => Sys2Proof.Machine.execCalGoScale s
  | .calCancel => Sys2Proof.Machine.execCalCancel s
  | .sweepWindowFound u => Sys2Proof.Machine.execSweepWindowFound u s
  | .sweepWindowTimeout u => Sys2Proof.Machine.execSweepWindowTimeout u s
  | .sweepRun u => Sys2Proof.Machine.execSweepRun u s
  | .scaleChange u => Sys2Proof.Machine.execScaleChange u s
  | .sweepCaptureEnd u => Sys2Proof.Machine.execSweepCaptureEnd u s
  | .calibrationRelease u => Sys2Proof.Machine.execCalibrationRelease u s
  | .calSubmit => Sys2Proof.Machine.execCalSubmit s
  | .calStore => Sys2Proof.Machine.execCalStore s
  | .journalStoreComplete verified => Sys2Proof.Machine.execJournalStoreComplete verified s
  | .calStatclr => Sys2Proof.Machine.execCalStatclr s
  | .tmpStatclr => Sys2Proof.Machine.execTmpStatclr s
  | .xspRead => Sys2Proof.Machine.execXspRead s
  | .xspProgram => Sys2Proof.Machine.execXspProgram s
  | .xspErase => Sys2Proof.Machine.execXspErase s
  | .xspCancel => Sys2Proof.Machine.execXspCancel s
  | .xspStatclr => Sys2Proof.Machine.execXspStatclr s
  | .flashOpComplete => Sys2Proof.Machine.execFlashOpComplete s
  | .flashOpTimeout => Sys2Proof.Machine.execFlashOpTimeout s
  | .otpProg => Sys2Proof.Machine.execOtpProg s
  | .otpCancel => Sys2Proof.Machine.execOtpCancel s
  | .otpProgComplete ok => Sys2Proof.Machine.execOtpProgComplete ok s
  | .sysGo => Sys2Proof.Machine.execSysGo s
  | .sysSwrst => Sys2Proof.Machine.execSysSwrst s
  | .sysLockWrite v => Sys2Proof.Machine.execSysLockWrite v s
  | .registerWrite master a v => Sys2Proof.Machine.execRegisterWrite master a v s
  | .add n => Sys2Proof.Machine.execAdd n s
  | .sub n => Sys2Proof.Machine.execSub n s
  | .and n => Sys2Proof.Machine.execAnd n s
  | .or n => Sys2Proof.Machine.execOr n s
  | .xor n => Sys2Proof.Machine.execXor n s
  | .shl n => Sys2Proof.Machine.execShl n s
  | .shr n => Sys2Proof.Machine.execShr n s
  | .sar n => Sys2Proof.Machine.execSar n s
  | .mul n => Sys2Proof.Machine.execMul n s
  | .sltu n => Sys2Proof.Machine.execSltu n s
  | .addi n => Sys2Proof.Machine.execAddi n s
  | .andi n => Sys2Proof.Machine.execAndi n s
  | .ori n => Sys2Proof.Machine.execOri n s
  | .xori n => Sys2Proof.Machine.execXori n s
  | .shi n => Sys2Proof.Machine.execShi n s
  | .movhi n => Sys2Proof.Machine.execMovhi n s
  | .ld n cycle wait => Sys2Proof.Machine.execLd n cycle wait s
  | .st n cycle wait => Sys2Proof.Machine.execSt n cycle wait s
  | .fence n cycle wait => Sys2Proof.Machine.execFence n cycle wait s
  | .beq n => Sys2Proof.Machine.execBeq n s
  | .bne n => Sys2Proof.Machine.execBne n s
  | .blt n => Sys2Proof.Machine.execBlt n s
  | .bge n => Sys2Proof.Machine.execBge n s
  | .bltu n => Sys2Proof.Machine.execBltu n s
  | .bgeu n => Sys2Proof.Machine.execBgeu n s
  | .jmp n => Sys2Proof.Machine.execJmp n s
  | .call n => Sys2Proof.Machine.execCall n s
  | .jr n => Sys2Proof.Machine.execJr n s
  | .mfs n => Sys2Proof.Machine.execMfs n s
  | .mts n => Sys2Proof.Machine.execMts n s
  | .sig n cycle wait => Sys2Proof.Machine.execSig n cycle wait s
  | .wait n => Sys2Proof.Machine.execWait n s
  | .reti n => Sys2Proof.Machine.execReti n s
  | .halt n cycle wait => Sys2Proof.Machine.execHalt n cycle wait s
  | .illegalInstruction n => Sys2Proof.Machine.execIllegalInstruction n s
  | .entrySequence n => Sys2Proof.Machine.execEntrySequence n s
  | .waitWake n slept => Sys2Proof.Machine.execWaitWake n slept s
  | .tsqStart n => Sys2Proof.Machine.execTsqStart n s
  | .tsqHalt n => Sys2Proof.Machine.execTsqHalt n s
  | .watchdogExpiry n => Sys2Proof.Machine.execWatchdogExpiry n s
  | .wdkick n => Sys2Proof.Machine.execWdkick n s
  | .semAcq k master => Sys2Proof.Machine.execSemAcq k master s
  | .semRel k master => Sys2Proof.Machine.execSemRel k master s
  | .icuSet w v => Sys2Proof.Machine.execIcuSet w v s
  | .icuPendClear w v => Sys2Proof.Machine.execIcuPendClear w v s
  | .icuOvrClear w v => Sys2Proof.Machine.execIcuOvrClear w v s
  | .icuStatclr => Sys2Proof.Machine.execIcuStatclr s
  | .matrixBurst b g => Sys2Proof.Machine.execMatrixBurst b g s
  | .craneStart c => Sys2Proof.Machine.execCraneStart c s
  | .craneAbort c delivered => Sys2Proof.Machine.execCraneAbort c delivered s
  | .craneDescriptorComplete c cycle => Sys2Proof.Machine.execCraneDescriptorComplete c cycle s
  | .craneError c cycle => Sys2Proof.Machine.execCraneError c cycle s
  | .craneEngineLimitResume c cycle => Sys2Proof.Machine.execCraneEngineLimitResume c cycle s
  | .crnStatclr => Sys2Proof.Machine.execCrnStatclr s
  | .mtxStatclr => Sys2Proof.Machine.execMtxStatclr s
  | .netLinkChange p sync offer => Sys2Proof.Machine.execNetLinkChange p sync offer s
  | .netFrameReceive p x => Sys2Proof.Machine.execNetFrameReceive p x s
  | .netAnrst p => Sys2Proof.Machine.execNetAnrst p s
  | .netAnnounce p => Sys2Proof.Machine.execNetAnnounce p s
  | .addressAnnounceRepeat p => Sys2Proof.Machine.execAddressAnnounceRepeat p s
  | .netStatclr p => Sys2Proof.Machine.execNetStatclr p s
  | .prxPop p => Sys2Proof.Machine.execPrxPop p s
  | .ptxcmdGo p => Sys2Proof.Machine.execPtxcmdGo p s
  | .ptpTransmitDone p cycle frac => Sys2Proof.Machine.execPtpTransmitDone p cycle frac s
  | .txtsReadLatch p => Sys2Proof.Machine.execTxtsReadLatch p s
  | .setaddr bytes pec => Sys2Proof.Machine.execSetaddr bytes pec s
  | .read cycle => Sys2Proof.Machine.execRead cycle s
  | .smbusReadTimeout => Sys2Proof.Machine.execSmbusReadTimeout s
  | .write bytes pec cycle => Sys2Proof.Machine.execWrite bytes pec cycle s
  | .status => Sys2Proof.Machine.execStatus s
  | .state => Sys2Proof.Machine.execState s
  | .mbwrite bytes pec => Sys2Proof.Machine.execMbwrite bytes pec s
  | .mbread => Sys2Proof.Machine.execMbread s
  | .sclLowTimeout => Sys2Proof.Machine.execSclLowTimeout s
  | .mbctrlAck => Sys2Proof.Machine.execMbctrlAck s
  | .mbctrlPost => Sys2Proof.Machine.execMbctrlPost s
  | .uartReceiveByte v stop => Sys2Proof.Machine.execUartReceiveByte v stop s
  | .utxWrite v => Sys2Proof.Machine.execUtxWrite v s
  | .uctrlRxpop => Sys2Proof.Machine.execUctrlRxpop s
  | .uctrlFlush => Sys2Proof.Machine.execUctrlFlush s
  | .sbiStatclr => Sys2Proof.Machine.execSbiStatclr s
  | .tapReset => Sys2Proof.Machine.execTapReset s
  | .idcode => Sys2Proof.Machine.execIdcode s
  | .samplePreload => Sys2Proof.Machine.execSamplePreload s
  | .extest => Sys2Proof.Machine.execExtest s
  | .clamp => Sys2Proof.Machine.execClamp s
  | .highz => Sys2Proof.Machine.execHighz s
  | .memacc op a v cycle => Sys2Proof.Machine.execMemacc op a v cycle s
  | .bypass => Sys2Proof.Machine.execBypass s
  | .dbgStatall => Sys2Proof.Machine.execDbgStatall s
  | .dbgSafe => Sys2Proof.Machine.execDbgSafe s
  | .dbgPut => Sys2Proof.Machine.execDbgPut s
  | .safeAutoRestart => Sys2Proof.Machine.execSafeAutoRestart s
  | .restartCountReset => Sys2Proof.Machine.execRestartCountReset s
  | .healthReportClose tests => Sys2Proof.Machine.execHealthReportClose tests s
  | .hbtInEdge => Sys2Proof.Machine.execHbtInEdge s
  | .actInEdge => Sys2Proof.Machine.execActInEdge s
  | .rngHealthFail => Sys2Proof.Machine.execRngHealthFail s
  | .tileOvertemp q => Sys2Proof.Machine.execTileOvertemp q s
  | .tb3NsWrap cycle => Sys2Proof.Machine.execTb3NsWrap cycle s
  | .uartSendByte => Sys2Proof.Machine.execUartSendByte s
  | .netFrameSent p => Sys2Proof.Machine.execNetFrameSent p s

end Sys2Proof.Machine
end

