-- ==== Sys2Proof/Machine/HostMsg.lean ====
section
/-! DEFINITION. A host's message as claims speak of it (11): when the device accepts one, the state its handler runs in and
the reply it sends. Nothing of the machine uses these. -/
namespace Sys2Proof.Machine

/-- R285 to R287, R310: a datagram passes the checks made before its TYPE is looked at. -/
def State.hears (s : State) (d : Dgram) : Bool :=
  let p := d.payload
  s.up && isPenvar s d && s.flag F.PVE_CTRL_EN && !d.badIp
    && decide (32 ≤ p.length ∧ p.length ≤ (if d.peer.v6 then 1452 else 1472) ∧ beAt p 2 2 = p.length)
    && (decide (beAt p 0 1 = 1) && s.flag F.PVE_PORTCFG_PV1EN || decide (beAt p 0 1 = 2) && s.flag F.PVE_PORTCFG_PV2EN)
    && !(beAt p 5 1).testBit 0

/-- R298, R299, R305: a message other than an OPEN is authentic and in sequence on a session whose counts do not end with it,
there is a place for it, and its reply can leave. -/
def State.admits (s : State) (d : Dgram) : Bool :=
  let m := msgOf d.payload
  let x := s.sess m.sidx
  s.hears d && decide (m.typ ≠ 1) && decide (s.pen.authMs < 2000) && s.decides s.frame && decide (x.st ≠ 0)
    && decide (x.sgen = m.sgen) && decide (x.v2 = m.v2) && tagOk x.khd d.payload
    && decide (1 ≤ m.seq ∧ x.h < m.seq + 64 ∧ x.floor < m.seq) && !(decide (m.seq ≤ x.h) && x.map.testBit (x.h - m.seq))
    && decide (m.seq < 0xFFFFFFFF ∧ x.h < 0xFFFFFFFF ∧ x.tx < 0xFFFFFFFE)
    && s.flagi F.NET_STAT_LINK d.peer.net && !s.placesFull

/-- R312: such a message of a TYPE that its version offers, with a body of the size of its TYPE. -/
def State.accepts (s : State) (d : Dgram) (t : Nat) : Bool :=
  let m := msgOf d.payload
  s.admits d && decide (m.typ = t) && typeOk t m.v2 && sizeOk d.peer.v6 t m.body

/-- R301 to R304: such a message of a CACHED type, granted to its requester, is a new request that takes entry `k` of the reply
cache. -/
def State.asks (s : State) (d : Dgram) (t k : Nat) : Bool :=
  let m := msgOf d.payload
  s.accepts d t && cachedType t && granted s m.sidx t && decide (lookup s m (crc32c m.body) = .fresh k)

/-- R308: such a request whose reply waits for no partner. -/
def State.takes (s : State) (d : Dgram) (t k : Nat) : Bool := s.asks d t k && !s.mirUp

/-- The state in which an accepted message is handled: it is counted, and its session has taken its SEQ, its path and its
time (R288, R295, R299). -/
def State.heard (s : State) (d : Dgram) : State :=
  let m := msgOf d.payload
  let s := touchSess m.sidx (fun x =>
    { acceptSeq m.seq x with st := 2, peer := d.peer, fails := 0, timer := s.frame }) (noteAuth (s.bump F.PVE_RXCNT))
  if firmwareType m.typ m.body then s.raise 15 else s

/-- The state in which a new CACHED request is carried out: its entry is BUSY (R301). -/
def State.taken (s : State) (d : Dgram) (k : Nat) : State :=
  let m := msgOf d.payload
  (s.heard d).modEnt m.sidx k fun _ =>
    { CEntry.init with reqid := m.reqid, rgen := m.rgen, st := .busy, v1 := !m.v2, crc := crc32c m.body }

/-- The reply to a message (R288, R292, R300, R311): to the sender's address, under the session's next outbound SEQ, with the
TYPE, REQID and RGEN of the message and DIR set, and tagged under the session's key. -/
def State.replyTo (s : State) (d : Dgram) (a : Ans) : PenOut :=
  let m := msgOf d.payload
  let x := s.sess m.sidx
  ⟨d.peer, tagged x.kdh (msgBytes x.v2 m.typ m.sidx 1 x.sgen (add32 x.tx 1) m.reqid m.rgen a.status
    (replyBody a.status a.detail a.body))⟩

/-- The slots or circuits that a SLOT_CONTROL names (R325). -/
def hostSlots (d : Dgram) : List Nat := (List.range (beAt d.payload 18 2)).map fun k => beAt d.payload (24 + 2 * k) 2

/-- An owner is the queue of the session, where it has one, or every queue (R325). -/
def hostMine (s : State) (d : Dgram) (o : Nat) : Bool :=
  let q := s.queueOf (msgOf d.payload).sidx
  decide (o = q ∧ q < 64) || decide (o = 255)

/-- Those slots exist and belong to the queue of the session or to every queue (R325). -/
def hostMay (s : State) (d : Dgram) : Bool :=
  (hostSlots d).all fun x =>
    decide (x < 12288) && hostMine s d (s.slot x).owner

end Sys2Proof.Machine
end

