-- ==== Sys2Proof/Safety.lean ====
section
/-! DEFINITION. What claims about the machine are stated in: the parts of the state, and what of a state lies outside
an extent. -/
namespace Sys2Proof.Machine

/-- The parts of the state other than its registers: the fields of `State`, with the OTP array apart from the rest of
`boot`. -/
inductive Part where
  | dev | auth | frame | fresh | locked | seqs | log | rdata | time | table | fab | quays | lanes | tiles | exec
  | sched | tide | pen | mir | boot | otp | cal | port | pending
  deriving DecidableEq, Repr

/-- What a command may change: parts of the state, and either any register or the register fields listed. -/
structure Extent where
  parts : List Part
  all : Bool
  flds : List Fld

/-- The extent holds a part. -/
def Extent.p (e : Extent) (x : Part) : Bool := decide (x ∈ e.parts)

/-- The extent holds a register field, in every instance. -/
def Extent.r (e : Extent) (f : Fld) : Bool := e.all || e.flds.any fun g => decide (g.id = f.id)

/-- The extent holds a place of the register store (`Fld.key`). -/
def Extent.at (e : Extent) (k : Nat) : Bool := e.all || e.flds.any fun g => decide (g.id = k / 16384)

/-- The extent holds these parts and these register fields. -/
def Extent.covers (e : Extent) (ps : List Part) (fs : List Fld) : Bool := ps.all e.p && fs.all e.r

/-- What of a state lies outside an extent: each part the extent holds is put to its reset value, and the register
store is read place by place, the places the extent holds as 0. Two states that look the same outside an extent differ
in nothing the extent does not hold. -/
def State.seen (e : Extent) (s : State) : State × (Nat → Nat) :=
  ({ dev := if e.p .dev then State.reset.dev else s.dev
     auth := if e.p .auth then State.reset.auth else s.auth
     frame := if e.p .frame then State.reset.frame else s.frame
     fresh := if e.p .fresh then State.reset.fresh else s.fresh
     locked := if e.p .locked then State.reset.locked else s.locked
     regs := []
     seqs := if e.p .seqs then State.reset.seqs else s.seqs
     log := if e.p .log then State.reset.log else s.log
     rdata := if e.p .rdata then State.reset.rdata else s.rdata
     time := if e.p .time then State.reset.time else s.time
     table := if e.p .table then State.reset.table else s.table
     fab := if e.p .fab then State.reset.fab else s.fab
     quays := if e.p .quays then State.reset.quays else s.quays
     lanes := if e.p .lanes then State.reset.lanes else s.lanes
     tiles := if e.p .tiles then State.reset.tiles else s.tiles
     exec := if e.p .exec then State.reset.exec else s.exec
     sched := if e.p .sched then State.reset.sched else s.sched
     tide := if e.p .tide then State.reset.tide else s.tide
     pen := if e.p .pen then State.reset.pen else s.pen
     mir := if e.p .mir then State.reset.mir else s.mir
     boot := { (if e.p .boot then State.reset.boot else s.boot) with otp := if e.p .otp then State.reset.boot.otp else s.boot.otp }
     cal := if e.p .cal then State.reset.cal else s.cal
     port := if e.p .port then State.reset.port else s.port
     pending := if e.p .pending then State.reset.pending else s.pending },
    fun k => if e.at k then 0 else tget 0 s.regs k)

/-- What an instruction that computes leaves: sequencer `n` holds `v` in register `rd`, unless that is g0, goes on at `pc`
and has taken `cycles` cycles; its other registers, the rest of it, the other sequencers and the rest of the device are as
before (R438, R444). Whether an interrupt comes next is R453's. -/
abbrev State.seqDid (s t : State) (n rd v pc cycles : Nat) : Prop :=
  (∀ k : Fin 16, (t.sq n).reg k.val = if k.val = rd ∧ rd ≠ 0 then v else (s.sq n).reg k.val) ∧
  (t.sq n).pc = pc % 65536 ∧ (t.sq n).cycle = ((s.sq n).cycle + cycles) % 2 ^ 32 ∧
  { t.sq n with g := (s.sq n).g, pc := (s.sq n).pc, cycle := (s.sq n).cycle, runCycles := (s.sq n).runCycles,
                entry := (s.sq n).entry } = s.sq n ∧
  (∀ m : Fin 4, m.val ≠ n → t.sq m.val = s.sq m.val) ∧ { t with seqs := s.seqs } = s

/-- The fields that an event on an interrupt source may write (R449). -/
def raiseFlds : List Fld := [F.ICU_LOSTCNT, F.ICU_OVRw_SRC, F.ICU_PENDw_SRC]

/-- Every part but the OTP array and the queue of waiting commands. -/
def mostParts : List Part :=
  [.dev, .auth, .frame, .fresh, .locked, .seqs, .log, .rdata, .time, .table, .fab, .quays, .lanes, .tiles, .exec,
    .sched, .tide, .pen, .mir, .boot, .cal, .port]

/-- What each command may change: everything that its row's rules, and the rules they lead to, can touch. Nothing else
changes, whatever the state and the operands. -/
def extentOf : Instr → Extent
  | .powerSupplyChange _ _ | .resetNAssert | .imageSlotTry | .frameTick | .engineWindowWrite _ _ _ | .thermalShutdown
    | .sysSwrst | .registerWrite _ _ _ | .ld _ _ _ | .st _ _ _ | .fence _ _ _ | .sig _ _ _ | .halt _ _ _ |
    .matrixBurst _ _ | .craneAbort _ _ | .craneDescriptorComplete _ _ | .craneError _ _ | .craneEngineLimitResume _ _
    | .write _ _ _ | .idcode | .samplePreload | .extest | .clamp | .highz | .memacc _ _ _ _ | .bypass |
    .safeAutoRestart | .leaveOff _ _ _ | .read _ =>
    ⟨mostParts, true, []⟩
  | .pllLock _ =>
    ⟨[.frame, .time, .boot], false, [F.CKG_PLLSTAT_LOCK0, F.CKG_PLLSTAT_LOCK1, F.CKG_PLLSTAT_LOCK2,
      F.CKG_PLLSTAT_LOL0, F.CKG_PLLSTAT_LOL1, F.CKG_PLLSTAT_LOL2]⟩
  | .stagingEnd =>
    ⟨[.dev, .auth, .fab, .lanes, .tide, .mir, .port], false, [F.MIR_STAT_JOINED, F.MIR_STAT_SYNC, F.ROL_STAT_READY,
      F.SYS_STGEND_FRAME, F.TIM_BCNCFG_RELAY, F.TIM_BCNCFG_ROLE, F.TIM_T3CFG_PRI, F.TIM_T3CFG_SEC]⟩
  | .joinWaitExpiry =>
    ⟨[.dev, .auth, .fab, .tide, .mir], false, [F.ROL_STAT_READY, F.TIM_BCNCFG_RELAY, F.TIM_BCNCFG_ROLE,
      F.TIM_T3CFG_PRI, F.TIM_T3CFG_SEC]⟩
  | .queueLateFlush _ =>
    ⟨[.seqs, .fab, .exec, .sched], false, raiseFlds ++ [F.MAN_DONECNT, F.MAN_PARTCNT, F.MAN_VOIDCNT, F.SCH_LATEFLUSH]⟩
  | .transitionLateEnd _ => ⟨[.fab], false, [F.SEG_LATEEND]⟩
  | .engineLateEscalation _ | .healthReportClose _ =>
    ⟨[.seqs, .log, .fab, .port], false, raiseFlds ++ [F.DBG_FLTSTAT_CLASS, F.MOR_ESTATp_CAUSE, F.MOR_ESTATp_STATE,
      F.MOR_STAT_ENGFLT]⟩
  | .slotDark _ => ⟨[.seqs, .log, .fab, .port], false, raiseFlds ++ [F.DBG_FLTSTAT_CLASS, F.MOR_DARKCNT]⟩
  | .slotSettled _ | .bundleCommandApply _ | .bundleUnpark _ | .bundleInitClose _ | .coefficientChangeApply _ |
    .coefficientReclose _ | .bcmdOpen | .bcmdClose | .slotcfgFset | .slotcfgFclr =>
    ⟨[.fab], false, []⟩
  | .settleTimeout _ => ⟨[.seqs, .fab, .exec], false, raiseFlds ++ [F.MOR_SETFAIL]⟩
  | .engineMemoryError _ _ _ =>
    ⟨[.seqs, .log, .fab, .port], false, raiseFlds ++ [F.DBG_FLTSTAT_CLASS, F.MOR_ECCCOR, F.MOR_ESTATp_CAUSE,
      F.MOR_ESTATp_STATE, F.MOR_STAT_ENGFLT]⟩
  | .substGo =>
    ⟨[.fab], false, [F.MOR_ESTATp_LOGICAL, F.MOR_ESTATp_STATE, F.MOR_SUBSTAT_BUSY, F.MOR_SUBSTAT_REASON,
      F.MOR_SUBSTAT_REFUSED]⟩
  | .substLoadComplete =>
    ⟨[.seqs, .log, .fab, .port], false, raiseFlds ++ [F.DBG_FLTSTAT_CLASS, F.MOR_EMAPe_PHYS, F.MOR_ESTATp_LOGICAL,
      F.MOR_ESTATp_STATE, F.MOR_PARKCNT, F.MOR_SUBSTAT_BUSY, F.MOR_SUBSTAT_DONE]⟩
  | .morStatclr =>
    ⟨[.port], false, [F.MOR_BFSAT, F.MOR_CLAMPCNT, F.MOR_DARKCNT, F.MOR_ECCCOR, F.MOR_FOLDCNT, F.MOR_PARKCNT,
      F.MOR_SETFAIL, F.MOR_SKIPGAP]⟩
  | .slotcfgOwnerWrite _ => ⟨[.seqs, .fab], false, raiseFlds ++ [F.SYS_ERRSTAT_RSVDENC]⟩
  | .cstatClrdown => ⟨[.exec], false, []⟩
  | .manStatclr =>
    ⟨[], false, [F.MAN_ALLOCCNT, F.MAN_DONECNT, F.MAN_FAILSKIP, F.MAN_HOLDSKIP, F.MAN_NOROUTECNT, F.MAN_NOSPCNT,
      F.MAN_OUTSKIP, F.MAN_PARTCNT, F.MAN_VOIDCNT, F.MAN_ZEROCNT]⟩
  | .queueFlush => ⟨[.sched], false, []⟩
  | .schStatclr =>
    ⟨[.port], false, [F.SCH_ADMCNT, F.SCH_ADMFULL, F.SCH_ADMHWM_ADMIT, F.SCH_ADMHWM_EXAM, F.SCH_BALSAT, F.SCH_BUSYCNT,
      F.SCH_CMDFLUSH, F.SCH_DENYCNT, F.SCH_GATEDCNT, F.SCH_LATEFLUSH, F.SCH_PHWM_POWER, F.SCH_POLCNT, F.SCH_PWRWAIT,
      F.SCH_QADM_VALUE, F.SCH_QHWM_DEPTH, F.SCH_QLATHWM_VALUE, F.SCH_TIDEPWR, F.SCH_VOIDDEN]⟩
  | .vtReadLatch => ⟨[.rdata], false, [F.SCH_VTHI_VT]⟩
  | .qbalReadLatch => ⟨[.rdata], false, [F.SCH_QBALHI_BAL, F.SCH_QFTHI_FT]⟩
  | .tideArm =>
    ⟨[.tide], false, [F.TID_LATEN_N, F.TID_PSTART_FRAME, F.TID_STAT_LATEBASE, F.TID_STAT_REASON, F.TID_STAT_REFUSED]⟩
  | .tideCancel | .tideTableStop => ⟨[.tide], false, []⟩
  | .tideStop => ⟨[.tide], false, [F.TID_STAT_REASON, F.TID_STAT_REFUSED]⟩
  | .tidStatclr => ⟨[], false, [F.TID_COLLIDE, F.TID_FIRECNT, F.TID_FIREREF, F.TID_FIREVOID]⟩
  | .tideStart => ⟨[.seqs, .tide], false, raiseFlds ++ [F.TID_ACYCLE_CYCLE]⟩
  | .pilApply _ =>
    ⟨[.fab], false, [F.PIL_APPLYF_FRAME, F.PIL_BADSLOT_SLOT, F.PIL_STAT_BUSY, F.PIL_STAT_REASON, F.PIL_STAT_REFUSED,
      F.PIL_STAT_WERR]⟩
  | .pilRevert => ⟨[.fab], false, [F.PIL_STAT_BUSY, F.PIL_STAT_WERR]⟩
  | .pilAccRd => ⟨[], false, [F.PIL_SCFG0_INC, F.PIL_SCFG0_MODE, F.PIL_SCFG0_SCALE, F.PIL_SCFG1_PHOFF, F.PIL_SCFG2_AMP]⟩
  | .pilAccWr => ⟨[.fab], false, [F.PIL_STAT_WERR]⟩
  | .pilotApplyTakeEffect => ⟨[.fab], false, [F.PIL_STAT_BUSY]⟩
  | .pilCopyDone => ⟨[], false, [F.PIL_STAT_BUSY]⟩
  | .rngreqGo _ => ⟨[.quays, .lanes], false, [F.QY_RNGSTAT_BADFRM, F.QY_RNGSTAT_NEXT, F.QY_RNGSTAT_PEND]⟩
  | .rngreqCancel _ => ⟨[.quays, .lanes], false, [F.QY_RNGSTAT_CANCELLED, F.QY_RNGSTAT_PEND]⟩
  | .rangeNoackCancel _ => ⟨[.quays, .lanes], false, [F.QY_RNGSTAT_CANCELLED, F.QY_RNGSTAT_NOACK, F.QY_RNGSTAT_PEND]⟩
  | .rangeChangeApply _ | .scaleChange _ => ⟨[.quays], false, [F.QY_RNGSTAT_CUR, F.QY_RNGSTAT_DONE, F.QY_RNGSTAT_PEND]⟩
  | .drvcfgModeWrite _ _ => ⟨[.quays], false, [F.QY_DRVCFG_MODE, F.QY_DRVCFG_SSLEN, F.QY_DRVSTAT_MODEDEN]⟩
  | .halflvlWrite _ _ => ⟨[.quays], false, [F.QY_DRVSTAT_LVLERR, F.QY_HALFLVL_LEVEL]⟩
  | .rnggainWrite _ _ _ => ⟨[.quays], false, [F.QY_DRVSTAT_LVLERR, F.QY_RNGGAINr_GAIN]⟩
  | .qyDrvStatclr _ => ⟨[], false, [F.QY_DRVSAT, F.QY_MODOVL, F.QY_RNGSAT]⟩
  | .tsreqGo _ =>
    ⟨[.quays, .lanes], false, [F.QY_LNKSTAT_SAMPCLIP, F.QY_TSASGj_SET0, F.QY_TSASGj_SET1, F.QY_TSASGj_SET2,
      F.QY_TSASGj_SET3, F.QY_TSASGj_SET4, F.QY_TSASGj_SET5, F.QY_TSASGj_SET6, F.QY_TSASGj_SET7, F.QY_TSSTAT_BADFRM,
      F.QY_TSSTAT_PEND, F.QY_TSSTAT_PLAN]⟩
  | .tsreqCancel _ => ⟨[.quays, .lanes], false, [F.QY_TSSTAT_CANCELLED, F.QY_TSSTAT_PEND]⟩
  | .tsetNoackCancel _ => ⟨[.quays, .lanes], false, [F.QY_TSSTAT_CANCELLED, F.QY_TSSTAT_NOACK, F.QY_TSSTAT_PEND]⟩
  | .tsetChangeApply _ =>
    ⟨[.quays, .lanes], false, [F.QY_TSASGj_SET0, F.QY_TSASGj_SET1, F.QY_TSASGj_SET2, F.QY_TSASGj_SET3,
      F.QY_TSASGj_SET4, F.QY_TSASGj_SET5, F.QY_TSASGj_SET6, F.QY_TSASGj_SET7, F.QY_TSSTAT_DONE, F.QY_TSSTAT_PEND]⟩
  | .segStatclr =>
    ⟨[.port], false, [F.SEG_DEFERCNT, F.SEG_FETCHHWM_FETCHES, F.SEG_LATEEND, F.SEG_SPLITCNT, F.SEG_STEPCAP,
      F.SEG_TRUNCCNT, F.SEG_UNDCNT]⟩
  | .ckgStatclr =>
    ⟨[.port], false, [F.CKG_ENGHWM_CYCLES, F.CKG_ENGHWM_ENGINE, F.CKG_FRMRNG_MAX, F.CKG_FRMRNG_MIN, F.CKG_OVRCNTq]⟩
  | .laneSeekRateSwitch _ | .lnkctrlRetrain _ | .channelRetransmitTimeout _ | .tchctrlReset _ | .channelResetDone _ =>
    ⟨[.lanes], false, []⟩
  | .trainPresetStep _ => ⟨[.lanes], false, [F.QY_EYE_DEYE, F.QY_EYE_TEYE, F.QY_EYE_TPSEL]⟩
  | .trainComplete _ => ⟨[.seqs, .lanes], false, raiseFlds ++ [F.QY_LNKSTAT_STATE]⟩
  | .trainTimeout _ =>
    ⟨[.seqs, .log, .fab, .quays, .lanes, .port], false, raiseFlds ++ [F.DBG_FLTSTAT_CLASS, F.MOR_PARKCNT,
      F.QY_DRVSTAT_AUTH, F.QY_LNKSTAT_STATE, F.QY_LNKSTAT_TGEN, F.QY_LNKSTAT_TLOCK, F.QY_LNKSTAT_TRAINFAIL,
      F.QY_LNKSTAT_ULOCK]⟩
  | .discoverTimeout _ =>
    ⟨[.seqs, .log, .fab, .quays, .lanes, .port], false, raiseFlds ++ [F.DBG_FLTSTAT_CLASS, F.MOR_PARKCNT,
      F.QY_DRVSTAT_AUTH, F.QY_LNKSTAT_DISCFAIL, F.QY_LNKSTAT_STATE, F.QY_LNKSTAT_TGEN, F.QY_LNKSTAT_TLOCK,
      F.QY_LNKSTAT_ULOCK]⟩
  | .skewMeasureComplete _ =>
    ⟨[.log, .lanes, .port], false, [F.DBG_FLTSTAT_CLASS, F.QY_LAUNCH_TARGET, F.QY_LNKSTAT_SAMPCLIP,
      F.QY_LNKSTAT_SKEWFAIL, F.QY_LNKTIM_ULSLOT, F.QY_RTT_TIME]⟩
  | .launchMoveDone _ | .laneEnterRun _ =>
    ⟨[.seqs, .fab, .quays, .lanes], false, raiseFlds ++ [F.QY_DRVSTAT_RAMP, F.QY_LNKSTAT_STATE]⟩
  | .upstreamLockLoss _ =>
    ⟨[.seqs, .log, .fab, .quays, .lanes, .port], false, raiseFlds ++ [F.DBG_FLTSTAT_CLASS, F.MOR_PARKCNT,
      F.QY_DRVSTAT_AUTH, F.QY_LNKSTAT_LOSS, F.QY_LNKSTAT_STATE, F.QY_LNKSTAT_TGEN, F.QY_LNKSTAT_TLOCK,
      F.QY_LNKSTAT_ULOCK, F.QY_ULOSSCNT]⟩
  | .upstreamRelock _ => ⟨[.fab, .lanes], false, [F.QY_LNKSTAT_ULOCK]⟩
  | .relockTimeout _ | .preRunLockLoss _ =>
    ⟨[.seqs, .log, .fab, .quays, .lanes, .port], false, raiseFlds ++ [F.DBG_FLTSTAT_CLASS, F.MOR_PARKCNT,
      F.QY_DRVSTAT_AUTH, F.QY_LNKSTAT_STATE, F.QY_LNKSTAT_TGEN, F.QY_LNKSTAT_TLOCK, F.QY_LNKSTAT_ULOCK]⟩
  | .lnkctrlReskew _ =>
    ⟨[.log, .port], false, [F.DBG_FLTSTAT_CLASS, F.QY_LAUNCH_TARGET, F.QY_LNKSTAT_SKEWFAIL, F.QY_RTT_TIME]⟩
  | .qyLnkStatclr _ =>
    ⟨[.port], false, [F.QY_ARRIVE_WORST, F.QY_DCRCCNT, F.QY_HOLDCNT, F.QY_SYNCERR, F.QY_TRAINCNT, F.QY_UCRCCNT,
      F.QY_UFNERR, F.QY_ULATE, F.QY_ULOSSCNT]⟩
  | .upstreamFrame _ _ _ =>
    ⟨[.seqs, .log, .fab, .quays, .lanes, .port], false, raiseFlds ++ [F.DBG_FLTSTAT_CLASS, F.QY_ARRIVE_LAST,
      F.QY_ARRIVE_WORST, F.QY_DCRCCNT, F.QY_DRVSTAT_RAMP, F.QY_EYE_DEYE, F.QY_EYE_TEYE, F.QY_HOLDCNT,
      F.QY_LNKSTAT_NEWTILE, F.QY_LNKSTAT_SKEWDRIFT, F.QY_LNKSTAT_TILESRC0, F.QY_LNKSTAT_TLOCK, F.QY_RTTAVG_TIME,
      F.QY_SYNCERR, F.QY_TCHSTAT_FRESH, F.QY_TCHSTAT_TRESET, F.QY_TMALF, F.QY_TTEMP_TPH, F.QY_TTEMP_TTL, F.QY_UCRCCNT,
      F.QY_UFNERR, F.QY_ULATE]⟩
  | .downstreamErrorBurst _ =>
    ⟨[.seqs, .log, .lanes, .port], false, raiseFlds ++ [F.DBG_FLTSTAT_CLASS, F.QY_LNKSTAT_DERRBURST]⟩
  | .tileDownstreamFrame _ _ _ | .tileReferenceInstant _ _ | .tileUpstreamLaunch _ _ _ _ _ | .tilePark _ |
    .tileControlReset _ | .tileConditionDetect _ _ _ _ | .tileRd _ _ | .tileWr _ _ | .tileAnnounce _ _ |
    .tileCancel _ _ | .tileOvertemp _ =>
    ⟨[.tiles], false, []⟩
  | .tileLock _ _ _ _ => ⟨[.fresh, .tiles], false, []⟩
  | .rdrsp _ | .wrrsp _ | .annack _ | .canack _ | .errrsp _ | .event _ =>
    ⟨[.seqs, .log, .fab, .quays, .lanes, .port], false, raiseFlds ++ [F.DBG_FLTSTAT_CLASS, F.QY_LNKSTAT_NEWTILE,
      F.QY_LNKSTAT_SAMPCLIP, F.QY_LNKSTAT_TGEN, F.QY_LNKSTAT_THREE, F.QY_RNGSTAT_CANCELLED, F.QY_RNGSTAT_NOACK,
      F.QY_RNGSTAT_PEND, F.QY_TCHSTAT_COMPLYEV, F.QY_TCHSTAT_DUALAUTH, F.QY_TCHSTAT_EVLOST, F.QY_TCHSTAT_OPENEV,
      F.QY_TCHSTAT_OVERTEMP, F.QY_TDATA_DATA, F.QY_TEVCNT, F.QY_TEVLAST_CODE, F.QY_TEVLAST_FRAME, F.QY_TEVLAST_OUTPUT,
      F.QY_TILEID_SERIAL, F.QY_TLAT_TRXLAT, F.QY_TLAT_TTXLAT, F.QY_TMALF, F.QY_TRSP_BUSY, F.QY_TRSP_DONE,
      F.QY_TRSP_STATUS, F.QY_TSSTAT_CANCELLED, F.QY_TSSTAT_NOACK, F.QY_TSSTAT_PEND]⟩
  | .channelRetryFail _ =>
    ⟨[.seqs, .log, .quays, .lanes, .port], false, raiseFlds ++ [F.DBG_FLTSTAT_CLASS, F.QY_RNGSTAT_CANCELLED,
      F.QY_RNGSTAT_NOACK, F.QY_RNGSTAT_PEND, F.QY_TCHFAIL, F.QY_TCHSTAT_FAIL, F.QY_TRSP_BUSY, F.QY_TRSP_DONE,
      F.QY_TRSP_STATUS, F.QY_TSSTAT_CANCELLED, F.QY_TSSTAT_NOACK, F.QY_TSSTAT_PEND]⟩
  | .qyTchStatclr _ => ⟨[], false, [F.QY_TCHFAIL, F.QY_TEVCNT, F.QY_TMALF, F.QY_TRETX]⟩
  | .treqGo _ | .treqTimeout _ => ⟨[.lanes], false, [F.QY_TRSP_BUSY, F.QY_TRSP_DONE, F.QY_TRSP_STATUS]⟩
  | .openMsg _ | .closeMsg _ | .ping _ | .load _ | .commit _ | .discard _ | .apply _ | .withdraw _ | .tidectlArm _ |
    .tidectlCancel _ | .tidectlStop _ | .queryDevice _ | .queryTime _ | .queryReg _ | .querySlot _ | .queryCircuit _ |
    .queryQueue _ | .queryHealth _ | .manifestStatus _ | .slotControlOwner _ | .slotControlFailset _ |
    .slotControlFailclr _ | .slotControlClrdown _ | .subscribe _ | .penvarUnknownType _ =>
    ⟨[.fresh, .seqs, .rdata, .table, .fab, .exec, .sched, .tide, .pen, .mir], true, []⟩
  | .scmdAccept => ⟨[.fresh, .pen], false, [F.NET_TXDROP, F.PVE_ACCCNT, F.PVE_STAT_CMDERR]⟩
  | .scmdRefuse _ => ⟨[.pen], false, [F.NET_TXDROP, F.PVE_SCMD_REFCODE, F.PVE_STAT_CMDERR]⟩
  | .scmdClose | .halfTimeout _ | .idleTimeout _ => ⟨[.seqs, .pen], false, raiseFlds⟩
  | .pveStatclr =>
    ⟨[.port], false, [F.PVE_ACCCNT, F.PVE_AUTHCNT, F.PVE_CONFCNT, F.PVE_DUPCNT, F.PVE_IPDROP, F.PVE_MALFCNT,
      F.PVE_OPENDROP, F.PVE_OVLCNT, F.PVE_REPLAYCNT, F.PVE_RETRYHIT, F.PVE_RXCNT, F.PVE_SBYDROP, F.PVE_STALECNT,
      F.PVE_STALEDROP, F.PVE_ZLENCNT]⟩
  | .tbIncWrite _ _ => ⟨[.time], false, [F.TIM_T3STAT_INCERR, F.TIM_TBnINCHI_INC]⟩
  | .tbAdjWrite _ _ | .tb3Step | .ppsOutEnd _ | .evtPop _ | .beaconEcho _ _ => ⟨[.time], false, []⟩
  | .tbNsReadLatch _ _ => ⟨[.rdata], false, [F.TIM_TBnFRAC_VALUE, F.TIM_TBnWRAP_VALUE]⟩
  | .frameCounterReload =>
    ⟨[.frame, .seqs, .time, .fab, .quays, .lanes, .exec, .sched, .pen, .mir, .boot, .cal, .port], false, raiseFlds ++
      [F.QY_RNGSTAT_CANCELLED, F.QY_RNGSTAT_PEND, F.QY_TSSTAT_CANCELLED, F.QY_TSSTAT_PEND, F.TIM_STEPDELTA_FRAME,
      F.TIM_STEPFRM_FRAME, F.TIM_T3STAT_STEPPED]⟩
  | .timStatclr => ⟨[], false, [F.TIM_BCNBAD, F.TIM_FARCNT, F.TIM_HOLDCNT, F.TIM_PTPDROP, F.TIM_SRCCNT]⟩
  | .ppsInEdge _ =>
    ⟨[.seqs], false, raiseFlds ++ [F.TIM_PPSCAPn_NS, F.TIM_PPSSTAT_NEW, F.TIM_PPSSTAT_OVERRUN, F.TIM_PPSSTAT_WRAP]⟩
  | .ppsnextWrite _ => ⟨[], false, [F.TIM_PPSCFG_ARMED, F.TIM_PPSNEXT_NS]⟩
  | .ppsOutEdge _ => ⟨[.time], false, [F.TIM_PPSCFG_ARMED]⟩
  | .evtCapture _ _ _ => ⟨[.seqs, .time], false, raiseFlds ++ [F.EVT_LOSTn, F.EVT_STAT_OVERRUN]⟩
  | .evtStatclr => ⟨[], false, [F.EVT_LOSTn]⟩
  | .beaconEdgeReceive _ _ =>
    ⟨[.log, .time, .port], false, [F.DBG_FLTSTAT_CLASS, F.TIM_BCNBAD, F.TIM_BCNOFF_OFFSET, F.TIM_BCNRTT_TIME,
      F.TIM_BCNSTAT_ACQ, F.TIM_BCNSTAT_BADWORD, F.TIM_BCNSTAT_FNMIS, F.TIM_BCNSTAT_HOP, F.TIM_BCNSTAT_HOPLIM,
      F.TIM_BCNSTAT_SRCOK, F.TIM_BCNSTAT_STEPPED, F.TIM_BCNSTAT_VALID]⟩
  | .beaconMiss => ⟨[.time], false, [F.TIM_BCNSTAT_ACQ, F.TIM_BCNSTAT_MISS, F.TIM_BCNSTAT_VALID]⟩
  | .beaconSkewMeasure _ _ => ⟨[], false, [F.TIM_BCNSKEW_TIN, F.TIM_BCNSKEW_TOUT]⟩
  | .partnerFailed =>
    ⟨[.dev, .seqs, .log, .mir, .port], false, raiseFlds ++ [F.DBG_FLTSTAT_CLASS, F.MIR_EPDISCARD, F.MIR_FLAGS_EPDISC,
      F.ROL_ALARM_HBTPATH, F.ROL_ALARM_MIRPATH, F.ROL_ALARM_PARTFAIL, F.ROL_HBTMISS, F.ROL_MIRMISS, F.ROL_STAT_HBTOK,
      F.ROL_STAT_MIROK, F.ROL_STAT_SWREASON]⟩
  | .dualActiveYield =>
    ⟨[.dev, .auth, .fab, .lanes, .mir, .port], false, [F.MIR_STAT_JOINED, F.MIR_STAT_SYNC, F.ROL_STAT_READY,
      F.TIM_BCNCFG_RELAY, F.TIM_BCNCFG_ROLE, F.TIM_T3CFG_PRI, F.TIM_T3CFG_SEC]⟩
  | .mirrorFrame _ _ => ⟨[.mir], false, [F.MIR_CRC0, F.MIR_CRC1, F.ROL_STAT_SENERR]⟩
  | .mirrorLaneTrain _ _ _ => ⟨[.seqs, .mir], false, raiseFlds ++ [F.MIR_DELAY_ONEWAY, F.MIR_FLAGS_DELAYERR]⟩
  | .req | .admitEv | .voidev | .late | .tally | .config | .swap | .object | .session | .cache | .holdcode | .brec |
    .sblk | .epctl | .ack | .hello =>
    ⟨[.fresh, .seqs, .log, .table, .fab, .quays, .exec, .sched, .tide, .pen, .mir, .cal, .port], true, []⟩
  | .mirrorCellRetransmit | .mirEpoch | .hbtInEdge | .actInEdge => ⟨[.mir], false, []⟩
  | .streamLoss =>
    ⟨[.seqs, .fab, .mir], false, raiseFlds ++ [F.MIR_EPDISCARD, F.MIR_FLAGS_EPDISC, F.MIR_FLAGS_STREAMLOSS,
      F.MIR_STAT_SYNC, F.ROL_STAT_READY, F.ROL_STAT_SWREASON]⟩
  | .tallyTimeout => ⟨[.seqs, .fab, .mir], false, raiseFlds ++ [F.MIR_FLAGS_TALLYMIS, F.MIR_TALLYCNT, F.MIR_TALLYMIS]⟩
  | .epochCommit => ⟨[.fresh, .table, .fab, .quays, .exec, .sched, .tide, .pen, .mir, .cal], true, []⟩
  | .epochTimeout => ⟨[.seqs, .mir], false, raiseFlds ++ [F.MIR_EPDISCARD, F.MIR_FLAGS_EPDISC]⟩
  | .mirResync => ⟨[.mir], false, [F.ROL_STAT_READY]⟩
  | .mirStatclr =>
    ⟨[.port], false, [F.MIR_CRC0, F.MIR_CRC1, F.MIR_EPCOMMIT, F.MIR_EPDISCARD, F.MIR_RECLATE, F.MIR_RETX,
      F.MIR_TALLYCNT, F.MIR_TALLYMIS]⟩
  | .rolSwap | .rolSwcancel | .swapNoack => ⟨[.mir], false, [F.ROL_STAT_SWREASON]⟩
  | .rolStatclr =>
    ⟨[], false, [F.ROL_DUALCNT, F.ROL_FIREMISS, F.ROL_HBTMISS, F.ROL_MIRMISS, F.ROL_SWAPCNT, F.ROL_TAKECNT]⟩
  | .sensorSample _ =>
    ⟨[.seqs, .log, .boot, .cal, .port], false, raiseFlds ++ [F.CAL_STAT_DIETRIG, F.DBG_FLTSTAT_CLASS,
      F.TMP_MAX_SENSOR, F.TMP_MAX_TEMP, F.TMP_SENSn_FAILED, F.TMP_SENSn_TEMP, F.TMP_SENSn_VALID, F.TMP_SFAIL_FAILED,
      F.TMP_STAT_FAST, F.TMP_STAT_WARN, F.TMP_STAT_WRHOLD, F.TMP_WARNCNT, F.TMP_WRREF]⟩
  | .sensorFail _ =>
    ⟨[.seqs, .log, .port], false, raiseFlds ++ [F.DBG_FLTSTAT_CLASS, F.TMP_SENSn_FAILED, F.TMP_SFAIL_FAILED]⟩
  | .shutdownRelease => ⟨[.cal], false, []⟩
  | .writeHoldRelease =>
    ⟨[.seqs, .log, .boot, .port], false, raiseFlds ++ [F.DBG_FLTSTAT_CLASS, F.TMP_STAT_WRHOLD, F.TMP_WRREF]⟩
  | .bandCompute => ⟨[.cal], false, [F.TMP_PHTEMP_NQ, F.TMP_PHTEMP_TP, F.TMP_STAT_PHSPREAD, F.TMP_STAT_PHSTALE]⟩
  | .bandChange => ⟨[.seqs, .cal], false, raiseFlds ++ [F.CAL_UCAP_BANDCHG, F.SEG_STAT_BAND, F.TMP_BANDCNT]⟩
  | .qtrigClear _ => ⟨[.cal], false, [F.CAL_QTRIG_QUAY]⟩
  | .dietrigClear => ⟨[.cal], false, [F.CAL_STAT_DIETRIG]⟩
  | .calTrimWrite _ => ⟨[.cal], false, [F.CAL_STAT_DIRTY, F.CAL_STAT_TRIMERR]⟩
  | .calGoElement => ⟨[.fab, .cal], false, [F.CAL_USTAT_REASON, F.CAL_USTAT_RESULT, F.CAL_USTAT_STATE]⟩
  | .calGoScale => ⟨[.cal], false, [F.CAL_USTAT_REASON, F.CAL_USTAT_RESULT, F.CAL_USTAT_STATE]⟩
  | .calCancel => ⟨[.cal], false, [F.CAL_ABANDCNT, F.CAL_UCAP_ABANDON, F.CAL_USTAT_RESULT, F.CAL_USTAT_STATE]⟩
  | .sweepWindowFound _ =>
    ⟨[.quays, .lanes, .cal], false, [F.CAL_UCAP_ABANDON, F.CAL_UCAP_BANDCHG, F.CAL_UCAP_CAPID, F.CAL_UCAP_COUNT,
      F.CAL_UCAP_RNGCHG, F.CAL_UFRM_FRAME, F.CAL_USTAT_STATE, F.QY_DRVCFG_MODE, F.QY_DRVSTAT_MODEDEN,
      F.QY_RNGFRM_FRAME, F.QY_RNGREQ_RANGE, F.QY_RNGSTAT_BADFRM, F.QY_RNGSTAT_NEXT, F.QY_RNGSTAT_PEND]⟩
  | .sweepWindowTimeout _ => ⟨[.cal], false, [F.CAL_USTAT_RESULT, F.CAL_USTAT_STATE]⟩
  | .sweepRun _ => ⟨[], false, [F.CAL_UCAP_BAND, F.CAL_USTAT_STATE]⟩
  | .sweepCaptureEnd _ => ⟨[.table], false, [F.CAL_UCAP_COUNT, F.CAL_USTAT_RESULT, F.CAL_USTAT_STATE]⟩
  | .calibrationRelease _ => ⟨[.seqs, .fab, .cal], false, raiseFlds ++ [F.CAL_SWEEPCNT, F.CAL_USTAT_STATE]⟩
  | .calSubmit =>
    ⟨[.fab, .quays, .pen, .mir, .cal], false, [F.CAL_ACCCNT, F.CAL_DISAGREE, F.CAL_REJCNT, F.CAL_STAT_DIRTY,
      F.CAL_SUBRES_DISAGREED, F.CAL_SUBRES_REASON, F.CAL_SUBRES_RESULT, F.QY_DRVSTAT_LVLERR, F.QY_HALFLVL_LEVEL,
      F.QY_RNGGAINr_GAIN]⟩
  | .calStore =>
    ⟨[.seqs, .log, .boot, .cal, .port], false, raiseFlds ++ [F.CAL_STAT_STORING, F.CAL_STAT_STPEND,
      F.DBG_FLTSTAT_CLASS, F.TMP_STAT_WRHOLD, F.TMP_WRREF]⟩
  | .journalStoreComplete _ =>
    ⟨[.seqs, .log, .boot, .cal, .port], false, raiseFlds ++ [F.CAL_JSEQ_SEQ, F.CAL_STAT_DIRTY, F.CAL_STAT_SRES,
      F.CAL_STAT_STORING, F.CAL_STAT_STPEND, F.CAL_STORECNT, F.CAL_STOREFAIL, F.DBG_FLTSTAT_CLASS, F.TMP_STAT_WRHOLD,
      F.TMP_WRREF]⟩
  | .calStatclr =>
    ⟨[], false, [F.CAL_ABANDCNT, F.CAL_ACCCNT, F.CAL_DISAGREE, F.CAL_REJCNT, F.CAL_STORECNT, F.CAL_STOREFAIL,
      F.CAL_SWEEPCNT]⟩
  | .tmpStatclr => ⟨[], false, [F.TMP_BANDCNT, F.TMP_WARNCNT, F.TMP_WRREF]⟩
  | .xspRead | .xspProgram | .xspErase =>
    ⟨[.seqs, .log, .boot, .port], false, raiseFlds ++ [F.DBG_FLTSTAT_CLASS, F.TMP_STAT_WRHOLD, F.TMP_WRREF,
      F.XSP_ERRCNT, F.XSP_OPCMD_KIND, F.XSP_OPCNT, F.XSP_OPSTAT_DONE, F.XSP_OPSTAT_ERR, F.XSP_OPSTAT_ERRCODE,
      F.XSP_OPSTAT_FULL]⟩
  | .xspCancel => ⟨[.boot], false, [F.TMP_STAT_WRHOLD, F.XSP_OPSTAT_CANCELLED]⟩
  | .xspStatclr => ⟨[], false, [F.XSP_ERRCNT, F.XSP_OPCNT]⟩
  | .flashOpTimeout =>
    ⟨[.seqs, .log, .boot, .cal, .port], false, raiseFlds ++ [F.CAL_JSEQ_SEQ, F.CAL_STAT_DIRTY, F.CAL_STAT_SRES,
      F.CAL_STAT_STORING, F.CAL_STAT_STPEND, F.CAL_STORECNT, F.CAL_STOREFAIL, F.DBG_FLTSTAT_CLASS, F.TMP_STAT_WRHOLD,
      F.TMP_WRREF, F.XSP_ERRCNT, F.XSP_OPSTAT_ERR, F.XSP_OPSTAT_ERRCODE]⟩
  | .otpProg =>
    ⟨[.seqs, .log, .boot, .port], false, raiseFlds ++ [F.DBG_FLTSTAT_CLASS, F.OTP_STAT_PREF, F.OTP_STAT_REASON,
      F.TMP_STAT_WRHOLD, F.TMP_WRREF]⟩
  | .otpCancel => ⟨[.boot], false, [F.TMP_STAT_WRHOLD]⟩
  | .otpProgComplete _ => ⟨[.fresh, .seqs, .boot, .otp], false, raiseFlds ++ [F.OTP_STAT_PDONE, F.OTP_STAT_PERR]⟩
  | .sysGo => ⟨[.boot], false, []⟩
  | .sysLockWrite _ => ⟨[.locked], false, []⟩
  | .add _ | .sub _ | .and _ | .or _ | .xor _ | .shl _ | .shr _ | .sar _ | .mul _ | .sltu _ | .addi _ | .andi _ |
    .ori _ | .xori _ | .shi _ | .movhi _ | .beq _ | .bne _ | .blt _ | .bge _ | .bltu _ | .bgeu _ | .jmp _ | .call _ |
    .jr _ | .mfs _ | .mts _ | .wait _ | .waitWake _ _ | .tsqHalt _ | .wdkick _ =>
    ⟨[.seqs], false, []⟩
  | .illegalInstruction _ =>
    ⟨[.seqs, .log, .port], false, raiseFlds ++ [F.DBG_FLTSTAT_CLASS, F.TSQ_FADDRn_VALUE, F.TSQ_FPCn_VALUE,
      F.TSQ_FSTATn_ILLEGAL]⟩
  | .entrySequence _ => ⟨[.seqs], false, [F.ICU_PENDw_SRC, F.ICU_SPUR]⟩
  | .watchdogExpiry _ => ⟨[.seqs, .log, .port], false, raiseFlds ++ [F.DBG_FLTSTAT_CLASS, F.TSQ_FSTATn_WDOG]⟩
  | .semAcq _ _ | .semRel _ _ => ⟨[], false, [F.TSQ_SEMk_OWNER]⟩
  | .icuSet _ _ | .icuPendClear _ _ => ⟨[.seqs], false, raiseFlds⟩
  | .icuOvrClear _ _ => ⟨[], false, [F.ICU_OVRw_SRC]⟩
  | .icuStatclr => ⟨[], false, [F.ICU_LOSTCNT, F.ICU_SPUR]⟩
  | .craneStart _ => ⟨[.port], false, [F.CRN_CHSTATc_WERR]⟩
  | .crnStatclr => ⟨[], false, [F.CRN_ERRCNT, F.CRN_XFERCNT]⟩
  | .mtxStatclr => ⟨[], false, [F.MTX_ECCCOR, F.MTX_ECCUNC, F.MTX_ERRCNT, F.MTX_RSTCNT, F.MTX_WAITHWMm_CYCLES]⟩
  | .netLinkChange _ _ _ | .netAnrst _ =>
    ⟨[.seqs, .pen, .port], false, raiseFlds ++ [F.NET_STAT_ANDONE, F.NET_STAT_LINK, F.NET_STAT_LINKCHG, F.NET_TXDROP]⟩
  | .netFrameReceive _ _ => ⟨[.fresh, .seqs, .rdata, .table, .fab, .exec, .sched, .tide, .pen, .mir, .port], true, []⟩
  | .netAnnounce _ | .addressAnnounceRepeat _ => ⟨[.pen, .port], false, [F.NET_TXDROP]⟩
  | .netStatclr _ =>
    ⟨[], false, [F.NET_ADDRDROP, F.NET_CSUMERR, F.NET_FCSERR, F.NET_LENERR, F.NET_OTHDROP, F.NET_PRXDROP, F.NET_RXFRM,
      F.NET_TXDROP, F.NET_TXFRM, F.NET_VLANDROP]⟩
  | .prxPop _ | .status | .sclLowTimeout | .uctrlRxpop | .tapReset => ⟨[.port], false, []⟩
  | .ptxcmdGo _ => ⟨[.pen, .port], false, [F.NET_PTXSTAT_ERR, F.NET_TXDROP]⟩
  | .ptpTransmitDone _ _ _ => ⟨[.pen, .port], false, [F.NET_PTXSTAT_TSBUF, F.NET_PTXSTAT_TSVALID, F.NET_TXFRM]⟩
  | .txtsReadLatch _ => ⟨[.rdata], false, [F.NET_TXTSF_VALUE]⟩
  | .setaddr _ _ | .smbusReadTimeout | .state => ⟨[.port], false, [F.SBI_ACCERR, F.SBI_PECERR, F.SBI_STAT_LAST]⟩
  | .mbwrite _ _ =>
    ⟨[.seqs], false, raiseFlds ++ [F.SBI_ACCERR, F.SBI_MBLEN_LEN, F.SBI_MBREQw_BYTES, F.SBI_PECERR, F.SBI_STAT_LAST,
      F.SBI_STAT_MBFULL]⟩
  | .mbread => ⟨[.port], false, [F.SBI_ACCERR, F.SBI_PECERR, F.SBI_STAT_LAST, F.SBI_STAT_MBPOST]⟩
  | .mbctrlAck => ⟨[], false, [F.SBI_STAT_MBFULL]⟩
  | .mbctrlPost => ⟨[], false, [F.SBI_STAT_MBPOST]⟩
  | .uartReceiveByte _ _ => ⟨[.seqs, .port], false, raiseFlds ++ [F.SBI_USTAT_FRAMERR, F.SBI_USTAT_OVR]⟩
  | .utxWrite _ | .uctrlFlush | .uartSendByte => ⟨[.seqs, .port], false, raiseFlds⟩
  | .sbiStatclr => ⟨[], false, [F.SBI_ACCERR, F.SBI_PECERR]⟩
  | .dbgStatall => ⟨[.port], true, []⟩
  | .dbgSafe => ⟨[.log, .port], false, [F.DBG_FLTSTAT_CLASS]⟩
  | .dbgPut => ⟨[.log, .port], false, [F.DBG_FLTSTAT_CLASS, F.DBG_FLTSTAT_PUTERR]⟩
  | .restartCountReset => ⟨[], false, [F.DBG_LASTSAFE_RESTARTS]⟩
  | .rngHealthFail => ⟨[], false, [F.PVE_STAT_RNGFAIL]⟩
  | .tb3NsWrap _ => ⟨[.seqs, .time], false, raiseFlds⟩
  | .netFrameSent _ => ⟨[.pen, .port], false, [F.NET_TXFRM]⟩
  | .pllLockTimeout =>
    ⟨[.dev, .auth, .seqs, .log, .time, .fab, .quays, .lanes, .pen, .mir, .boot, .cal, .port], false, raiseFlds ++
      [F.CAL_ABANDCNT, F.CAL_UCAP_ABANDON, F.CAL_USTAT_RESULT, F.CAL_USTAT_STATE, F.CKG_PLLSTAT_LOCK0,
      F.CKG_PLLSTAT_LOCK1, F.CKG_PLLSTAT_LOCK2, F.DBG_FLTSTAT_CLASS, F.DBG_LASTSAFEF_FRAME, F.DBG_LASTSAFE_CODE,
      F.NET_STAT_LINK, F.NET_STAT_LINKCHG, F.NET_TXDROP, F.QY_DRVSTAT_AUTH, F.QY_LNKSTAT_STATE, F.QY_LNKSTAT_TLOCK,
      F.QY_LNKSTAT_ULOCK, F.SYS_BOOTSTAT_FAIL, F.SYS_BOOTSTAT_SLOT, F.TMP_AONSTAT_TRIPPED]⟩
  | .selfTestDone _ =>
    ⟨[.dev, .auth, .seqs, .log, .time, .table, .fab, .quays, .lanes, .pen, .mir, .boot, .cal, .port], false, raiseFlds
      ++ [F.CAL_ABANDCNT, F.CAL_UCAP_ABANDON, F.CAL_USTAT_RESULT, F.CAL_USTAT_STATE, F.CKG_PLLSTAT_LOCK0,
      F.CKG_PLLSTAT_LOCK1, F.CKG_PLLSTAT_LOCK2, F.DBG_FLTSTAT_CLASS, F.DBG_LASTSAFEF_FRAME, F.DBG_LASTSAFE_CODE,
      F.MOR_EMAPe_PHYS, F.MOR_ESTATp_CAUSE, F.MOR_ESTATp_LOGICAL, F.MOR_ESTATp_STATE, F.NET_STAT_LINK,
      F.NET_STAT_LINKCHG, F.NET_TXDROP, F.PVE_STAT_RNGFAIL, F.QY_DRVSTAT_AUTH, F.QY_LNKSTAT_STATE, F.QY_LNKSTAT_TLOCK,
      F.QY_LNKSTAT_ULOCK, F.SYS_BISTQ_QY, F.SYS_BOOTSTAT_FAIL, F.SYS_BOOTSTAT_SLOT, F.TMP_AONSTAT_TRIPPED]⟩
  | .engineDeadline =>
    ⟨[.seqs, .log, .fab, .exec, .mir, .port], false, raiseFlds ++ [F.CKG_ENGHWM_CYCLES, F.CKG_ENGHWM_ENGINE,
      F.CKG_OVRCNTq, F.CKG_OVRFLAG_QY, F.CKG_OVRLAST_BUNDLE, F.CKG_OVRLAST_FRAME, F.DBG_FLTSTAT_CLASS, F.MOR_BFSAT,
      F.MOR_CLAMPCNT, F.MOR_DARKCNT, F.MOR_ESTATp_CAUSE, F.MOR_ESTATp_STATE, F.MOR_FOLDCNT, F.MOR_SETFAIL,
      F.MOR_SKIPGAP, F.MOR_STAT_ENGFLT, F.QY_DRVSAT, F.SEG_STAT_UNDACT, F.SEG_UNDCNT, F.SEG_UNDFLAG_QY,
      F.SEG_UNDLAST_FRAME, F.SEG_UNDLAST_SLOT]⟩
  | .referenceWindow _ =>
    ⟨[.dev, .auth, .seqs, .log, .time, .fab, .quays, .lanes, .pen, .mir, .boot, .cal, .port], false, raiseFlds ++
      [F.CAL_ABANDCNT, F.CAL_UCAP_ABANDON, F.CAL_USTAT_RESULT, F.CAL_USTAT_STATE, F.CKG_PLLSTAT_LOCK0,
      F.CKG_PLLSTAT_LOCK1, F.CKG_PLLSTAT_LOCK2, F.CKG_PLLSTAT_REFLOSS, F.CKG_PLLSTAT_REFOK, F.CKG_REFMON,
      F.DBG_FLTSTAT_CLASS, F.DBG_LASTSAFEF_FRAME, F.DBG_LASTSAFE_CODE, F.NET_STAT_LINK, F.NET_STAT_LINKCHG,
      F.NET_TXDROP, F.QY_DRVSTAT_AUTH, F.QY_LNKSTAT_STATE, F.QY_LNKSTAT_TLOCK, F.QY_LNKSTAT_ULOCK,
      F.TMP_AONSTAT_TRIPPED]⟩
  | .pllLossOfLock _ =>
    ⟨[.dev, .auth, .seqs, .log, .time, .fab, .quays, .lanes, .pen, .mir, .boot, .cal, .port], false, raiseFlds ++
      [F.CAL_ABANDCNT, F.CAL_UCAP_ABANDON, F.CAL_USTAT_RESULT, F.CAL_USTAT_STATE, F.CKG_PLLSTAT_LOCK0,
      F.CKG_PLLSTAT_LOCK1, F.CKG_PLLSTAT_LOCK2, F.CKG_PLLSTAT_LOL0, F.CKG_PLLSTAT_LOL1, F.CKG_PLLSTAT_LOL2,
      F.DBG_FLTSTAT_CLASS, F.DBG_LASTSAFEF_FRAME, F.DBG_LASTSAFE_CODE, F.NET_STAT_LINK, F.NET_STAT_LINKCHG,
      F.NET_TXDROP, F.QY_DRVSTAT_AUTH, F.QY_LNKSTAT_STATE, F.QY_LNKSTAT_TLOCK, F.QY_LNKSTAT_ULOCK,
      F.TMP_AONSTAT_TRIPPED]⟩
  | .upstreamLockAcquire _ =>
    ⟨[.seqs, .lanes, .cal], false, raiseFlds ++ [F.CAL_STAT_DIRTY, F.QY_EYE_TPSEL, F.QY_LNKSTAT_STATE,
      F.QY_LNKSTAT_ULOCK, F.QY_TRAINCNT]⟩
  | .discoverComplete _ =>
    ⟨[.seqs, .log, .fab, .quays, .lanes, .cal, .port], false, raiseFlds ++ [F.CAL_QSTART_QUAY, F.CAL_REJCNT,
      F.DBG_FLTSTAT_CLASS, F.QY_DRVSTAT_LVLERR, F.QY_DRVSTAT_MODEDEN, F.QY_HALFLVL_LEVEL, F.QY_LNKSTAT_GENMIS,
      F.QY_LNKSTAT_STATE, F.QY_RNGGAINr_GAIN]⟩
  | .takeover =>
    ⟨[.dev, .auth, .seqs, .log, .fab, .quays, .lanes, .exec, .tide, .pen, .mir, .cal, .port], false, raiseFlds ++
      [F.DBG_FLTSTAT_CLASS, F.MIR_EPDISCARD, F.MIR_FLAGS_EPDISC, F.MOR_PARKCNT, F.NET_TXDROP, F.QY_DRVSTAT_RAMP,
      F.ROL_ALARM_ACTLIVE, F.ROL_ALARM_COLDTAKE, F.ROL_ALARM_TAKEOVER, F.ROL_FIREMISS, F.ROL_STAT_READY,
      F.ROL_TAKECNT, F.ROL_TKFRM_FRAME, F.TIM_BCNCFG_RELAY, F.TIM_BCNCFG_ROLE, F.TIM_T3CFG_PRI, F.TIM_T3CFG_SEC]⟩
  | .mirRetrain => ⟨[.mir, .cal], false, [F.CAL_STAT_DIRTY]⟩
  | .swapAtFrame =>
    ⟨[.dev, .auth, .seqs, .log, .fab, .quays, .lanes, .exec, .tide, .pen, .mir, .cal, .port], false, raiseFlds ++
      [F.DBG_FLTSTAT_CLASS, F.MIR_EPDISCARD, F.MIR_FLAGS_EPDISC, F.MIR_STAT_JOINED, F.MIR_STAT_SYNC, F.MOR_PARKCNT,
      F.NET_TXDROP, F.QY_DRVSTAT_RAMP, F.ROL_ALARM_COLDTAKE, F.ROL_ALARM_TAKEOVER, F.ROL_FIREMISS, F.ROL_STAT_READY,
      F.ROL_SWAPCNT, F.ROL_TAKECNT, F.ROL_TKFRM_FRAME, F.TIM_BCNCFG_RELAY, F.TIM_BCNCFG_ROLE, F.TIM_T3CFG_PRI,
      F.TIM_T3CFG_SEC]⟩
  | .thermalTrip =>
    ⟨[.dev, .auth, .frame, .seqs, .log, .time, .fab, .quays, .lanes, .pen, .mir, .boot, .cal, .port], false, raiseFlds
      ++ [F.CAL_ABANDCNT, F.CAL_UCAP_ABANDON, F.CAL_USTAT_RESULT, F.CAL_USTAT_STATE, F.CKG_PLLSTAT_LOCK0,
      F.CKG_PLLSTAT_LOCK1, F.CKG_PLLSTAT_LOCK2, F.DBG_FLTSTAT_CLASS, F.DBG_LASTSAFEF_FRAME, F.DBG_LASTSAFE_CODE,
      F.NET_STAT_LINK, F.NET_STAT_LINKCHG, F.NET_TXDROP, F.QY_DRVSTAT_AUTH, F.QY_LNKSTAT_STATE, F.QY_LNKSTAT_TLOCK,
      F.QY_LNKSTAT_ULOCK, F.TMP_AONSTAT_TRIPPED]⟩
  | .flashOpComplete =>
    ⟨[.seqs, .log, .table, .fab, .exec, .boot, .port], false, raiseFlds ++ [F.DBG_FLTSTAT_CLASS, F.MOR_CWLAST_ENGINE,
      F.MOR_CWLAST_OFFSET, F.MOR_STAT_CWERR, F.MTX_ECCCOR, F.MTX_ECCUNC, F.MTX_ERRADDR_ADDR, F.MTX_ERRCNT,
      F.MTX_ERRSTAT_CAUSE, F.MTX_ERRSTAT_MASTER, F.MTX_ERRSTAT_OVR, F.MTX_ERRSTAT_VALID, F.MTX_ERRSTAT_WRITE,
      F.MTX_RSTCNT, F.SYS_ERRSTAT_ALIGN, F.TMP_STAT_WRHOLD, F.TMP_WRREF, F.XSP_OPCNT, F.XSP_OPSTAT_DONE]⟩
  | .tsqStart _ => ⟨[.seqs, .port], false, []⟩
  | .reti _ => ⟨[.seqs], false, [F.ICU_PENDw_SRC]⟩

end Sys2Proof.Machine
end

