-- ==== Sys2Proof/Certificates/Slice0/Obligations.lean ====
section
/-! DEFINITION. The statements for the provers. A statement about a command concludes that `exec` answers a next state and
says what that state holds; what else a command may change is CommandsStayInTheirExtent's. -/
open Sys2Proof Sys2Proof.Machine

/-- A step runs the command at the front of the queue. For every command c and state s, a step of s with c at the front
of its queue is exec of c on s with the queue's rest (the queue is the model's own, log 1). -/
def Obligations.StepRunsFront : Prop :=
  ∀ (c : Instr) (rest : List Instr) (s : State), step { s with pending := c :: rest } = exec c { s with pending := rest }

/-- A device with no command waiting idles. With an empty queue a step leaves the state as it is; time passes only by
FRAME_TICK and the other rows (the model's choice, log 1). -/
def Obligations.EmptyQueueIdles : Prop :=
  ∀ s : State, step { s with pending := [] } = .next { s with pending := [] }

/-- No command changes anything outside its extent. For every command c and every state, whatever exec c answers agrees
with the state before in every part of the state and in every instance of every register field that extentOf c does
not list: this is the frame of all 333 commands, with the queue and, but for a completed programming of the OTP, the
OTP array outside every extent. -/
def Obligations.CommandsStayInTheirExtent : Prop :=
  ∀ (c : Instr) (s t : State), exec c s = .next t → State.seen (extentOf c) t = State.seen (extentOf c) s

/-- No command stops the device. For every state, a step answers a next state: never a fault and never a refusal. A rule
that forbids an effect says what happens in its place, and that is the command's effect. -/
def Obligations.EveryStepAnswersNext : Prop :=
  ∀ s : State, ∃ t, step s = .next t

/-- The queue of waiting commands is first in, first out. A step takes the front of the queue and nothing else happens
to the queue: what remains is the rest, in its order (the queue is the model's own, log 1). -/
def Obligations.QueueIsFirstInFirstOut : Prop :=
  ∀ s t : State, step s = .next t → t.pending = s.pending.tail

/-- A programmed bit of the OTP is never cleared. Every step keeps every 1 of the OTP array: whatever the state and the
command, reset, shutdown and a failed boot included, a bit that reads 1 before the step reads 1 after it. -/
def Obligations.OtpBitsNeverFall : Prop :=
  ∀ (s t : State) (a b : Nat), step s = .next t → (tget 0 s.boot.otp a).getLsbD b = true →
    (tget 0 t.boot.otp a).getLsbD b = true

/-- Only the completion of a programming operation changes the OTP. If a command other than OTP_PROG_COMPLETE answers a
next state, the OTP array is as before. -/
def Obligations.OtpChangesOnlyByProgramming : Prop :=
  ∀ (c : Instr) (s t : State), (∀ ok, c ≠ .otpProgComplete ok) → exec c s = .next t → t.boot.otp = s.boot.otp

/-- The device right after reset. After reset the device is in OFF without authority, every register field reads its
reset value, table memory and the OTP list nothing, the log has not started, the sequencers are HALTED and no
command waits (that a memory byte nothing has written reads 0 is the model's choice, log 5; that a blank OTP reads 0
is log 15's, that the fields that show straps are 0 until they are latched is log 17's, and that a field whose reset
value the spec does not give is 0 is log 4's). -/
def Obligations.ResetState : Prop :=
  State.reset.dev = .off ∧ State.reset.auth = false ∧ State.reset.pending = [] ∧
    (∀ (f : Fld) (i : Nat), State.reset.fgi f i = f.reset i % 2 ^ f.width) ∧
    (∀ a : Nat, State.reset.mem8 a = 0 ∧ tget 0 State.reset.boot.otp a = 0) ∧
    Memory.wf 0 State.reset.table = true ∧ State.reset.log.started = false ∧
    (∀ n : Fin 4, (State.reset.sq n.val).st = .halted)

/-- A register field holds what is written to it and no other field moves. A field written reads back the value written,
to the field's width; the write leaves every other field, and every other instance of the field, as it was. -/
def Obligations.RegisterReadsBackItsWrite : Prop :=
  ∀ (s : State) (f g : Fld) (i j v : Nat), i < 16384 → j < 16384 →
    (s.fsi f i v).fgi f i = v % 2 ^ f.width ∧
    (g.id ≠ f.id ∨ j ≠ i → (s.fsi f i v).fgi g j = s.fgi g j)

/-- Counters saturate at all ones. Adding n to a counter field gives the sum, or all ones of the field where the sum
would not fit: a counter never wraps and never falls. -/
def Obligations.CountersSaturate : Prop :=
  ∀ (s : State) (f : Fld) (i n : Nat),
    (s.fgi f i + n < 2 ^ f.width → (s.addi f i n).fgi f i = s.fgi f i + n) ∧
    (2 ^ f.width ≤ s.fgi f i + n → (s.addi f i n).fgi f i = 2 ^ f.width - 1) ∧
    s.fgi f i ≤ (s.addi f i n).fgi f i

/-- Table memory reads back what is written and stays canonical. Bytes written to table memory read back in their
places, every byte outside them reads as before, and the canonical form of the memory is kept. -/
def Obligations.MemoryStaysCanonical : Prop :=
  ∀ (s : State) (a : Nat) (bs : List Byte),
    (∀ i, i < bs.length → (s.memPut a bs).mem8 (a + i) = bs.getD i 0) ∧
    (∀ k, k < a ∨ a + bs.length ≤ k → (s.memPut a bs).mem8 k = s.mem8 k) ∧
    (Memory.wf 0 s.table = true → Memory.wf 0 (s.memPut a bs).table = true)

/-- Loss of a supply, RESET_N low and SWRST put the device in OFF. A supply that stops being good, a low RESET_N and a
write of SYS.CTRL.SWRST each put the device in OFF at once, without authority: the OTP array and the flash are as
before and the four sequencers are HALTED; while VDDAON is good SYS.RSTCAUSE shows the supply, the pin or the write,
beside the causes it showed before, and every other always-on register but DBG.LASTSAFE.AUTO keeps its value;
without VDDAON POWER is set; a supply that becomes good changes nothing but its own monitor. -/
def Obligations.EntryIntoOff : Prop :=
  (∀ (n : Fin 6) (s : State),
    exec (.powerSupplyChange n true) s = .next { s with boot := { s.boot with supplies := setAt s.boot.supplies n.val true } }) ∧
  (∀ (n : Fin 6) (s : State), ∃ t, exec (.powerSupplyChange n false) s = .next t ∧
      t.dev = .off ∧ t.auth = false ∧ t.boot.supplies = setAt s.boot.supplies n.val false ∧ t.fg F.SYS_RSTCAUSE_POWER = 1 ∧
      t.boot.otp = s.boot.otp ∧ t.boot.flash = s.boot.flash ∧ (∀ k : Fin 4, (t.sq k.val).st = .halted) ∧
      ((setAt s.boot.supplies n.val false).getD 2 false = true →
        ∀ f ∈ aonFlds, f.id ∉ [F.DBG_LASTSAFE_AUTO.id, F.SYS_RSTCAUSE_POWER.id] → t.fg f = s.fg f)) ∧
  (∀ (s : State), ∃ t, exec .resetNAssert s = .next t ∧
      t.dev = .off ∧ t.auth = false ∧ t.boot.resetN = false ∧ t.boot.otp = s.boot.otp ∧ t.boot.flash = s.boot.flash ∧
      (∀ k : Fin 4, (t.sq k.val).st = .halted) ∧
      (if s.boot.supplies.getD 2 false = true then
        t.fg F.SYS_RSTCAUSE_PIN = 1 ∧ ∀ f ∈ aonFlds, f.id ∉ [F.DBG_LASTSAFE_AUTO.id, F.SYS_RSTCAUSE_PIN.id] → t.fg f = s.fg f
      else t.fg F.SYS_RSTCAUSE_POWER = 1)) ∧
  (∀ (s : State), ∃ t, exec .sysSwrst s = .next t ∧
      t.dev = .off ∧ t.auth = false ∧ t.boot.otp = s.boot.otp ∧ t.boot.flash = s.boot.flash ∧
      (∀ k : Fin 4, (t.sq k.val).st = .halted) ∧
      (if s.boot.supplies.getD 2 false = true then
        t.fg F.SYS_RSTCAUSE_SOFT = 1 ∧ ∀ f ∈ aonFlds, f.id ∉ [F.DBG_LASTSAFE_AUTO.id, F.SYS_RSTCAUSE_SOFT.id] → t.fg f = s.fg f
      else t.fg F.SYS_RSTCAUSE_POWER = 1))

/-- From OFF to BOOT, and the locks of the PLLs. When nothing holds the device in OFF, no access of MEMACC waits there,
and the FACTORY region of the OTP is sound, LEAVE_OFF latches the straps, sets the SMBus address by SENIOR, copies
the OTP to its shadow and begins BOOT at the PLL step; the lock of a PLL in that step shows in CKG.PLLSTAT, PLL0
starts the time bases and frame 0, and the last lock ends the step; without it within 1 ms BOOT fails with cause 2
and the device enters SAFE. -/
def Obligations.LeavingOffAndThePlls : Prop :=
  (∀ (senior fmode : Bool) (s : State), s.mayLeaveOff = true → s.port.sbi.macWait = none →
    ∃ t, exec (.leaveOff senior fmode false) s = .next t ∧
      t.dev = .boot ∧ t.boot.step = .plls ∧ t.boot.resetN = true ∧ t.boot.shadow = s.boot.otp ∧ t.fg F.OTP_STAT_READY = 1 ∧
      t.fg F.SYS_STRAP_SENIOR = b2n senior ∧ t.fg F.SYS_STRAP_FMODE = b2n fmode ∧ t.fg F.SBI_CFG_ADDR = 0x5A + b2n senior ∧
      { t with dev := s.dev, regs := s.regs, boot := s.boot, cal := s.cal, log := s.log, port := { t.port with health := s.port.health } } = s) ∧
  (∀ (p : Fin 3) (s : State), s.dev = .boot → s.boot.step = .plls → s.flag (pllFlds p.val).1 = false →
    ∃ t, exec (.pllLock p) s = .next t ∧
      t.fg (pllFlds p.val).1 = 1 ∧ t.boot.pll = setAt s.boot.pll p.val true ∧
      (if p = 0 then t.frame = 0 ∧ t.time.t = [0, 0, 0, 0] else t.frame = s.frame ∧ t.time = s.time) ∧
      t.boot.step = (if (setAt s.boot.pll p.val true).all (fun b => b) = true then .selftest else .plls)) ∧
  (∀ (s : State), s.dev = .boot → s.boot.step = .plls → ∃ t, exec .pllLockTimeout s = .next t ∧
      t.dev = .safe ∧ t.boot.step = .failed ∧ t.fg F.SYS_BOOTSTAT_FAIL = 2 ∧ t.fg F.SYS_BOOTSTAT_SLOT = 2 ∧
      t.fg F.DBG_LASTSAFE_CODE = 0xA001)

/-- Self-test, and the tries of image slots. A self-test leaves the quays that failed in SYS.BISTQ, also one that ends
BOOT, as log 68 chooses; one in which table memory, the RAMs or the crypto engines failed ends BOOT with cause 3 in
SAFE; one that BOOT survives starts the log and goes on to the image slots with a plausible descriptor, or fails
with cause 4 where there is none; a slot's try either is accepted and leads to STAGING with the registers locked, or
leaves its cause, with the next slot to come or, after the last, SAFE. -/
def Obligations.SelfTestAndImageTries : Prop :=
  (∀ (r : SelfTest) (s : State), s.dev = .boot → s.boot.step = .selftest → ∃ t, exec (.selfTestDone r) s = .next t ∧
      t.fg F.SYS_BISTQ_QY = r.quays.toNat ∧
      (if (r.tableOk && r.ramsOk && r.cryptoOk) = false then
        t.dev = .safe ∧ t.boot.step = .failed ∧ t.fg F.SYS_BOOTSTAT_FAIL = 3
      else t.log.started = true ∧
        (r.entropyOk = false → t.fg F.PVE_STAT_RNGFAIL = 1) ∧
        (if s.candidates = [] then t.dev = .safe ∧ t.fg F.SYS_BOOTSTAT_FAIL = 4
        else t.dev = .boot ∧ t.boot.step = .image ∧ t.boot.tries = s.candidates))) ∧
  (∀ (s : State) (slot : Nat) (rest : List Nat), s.dev = .boot → s.boot.step = .image → s.boot.tries = slot :: rest →
    ∃ t, exec .imageSlotTry s = .next t ∧
      match trySlot slot (s.when s.unprovisioned fun s => s.fs F.SYS_BOOTSTAT_UNPROV 1) with
      | .ok _ => t.dev = .staging ∧ t.locked = true ∧ t.boot.step = .done ∧ t.fg F.SYS_BOOTSTAT_FAIL = 0 ∧
          t.fg F.SYS_BOOTSTAT_SLOT = slot % 4
      | .error e => t.fg (if slot = 0 then F.SYS_BOOTSTAT_CAUSEA else F.SYS_BOOTSTAT_CAUSEB) = e.cause % 16 ∧
          t.boot.tries = rest ∧
          (if rest = [] then t.dev = .safe ∧ t.boot.step = .failed else t.dev = .boot ∧ t.boot.step = .image))

/-- The end of STAGING and of the wait to join. At the coming tick a STAGING that may end writes that frame to
SYS.STGEND; a device outside a pair becomes SOLO with authority, a paired one joins STANDBY where the partner
asserts ACT, becomes SOLO where it is the senior, and otherwise goes on to wait for JOINWAIT; when that wait ends
with ACT not asserted the junior becomes SOLO. -/
def Obligations.EndOfStaging : Prop :=
  (∀ (s : State), s.dev = .staging → s.mir.joinEnd = none → s.stagingOver = true → ∃ t, exec .stagingEnd s = .next t ∧
      t.fg F.SYS_STGEND_FRAME = s.coming % 2 ^ 32 ∧
      (if s.flag F.ROL_CFG_PAIRED = false then t.dev = .solo ∧ t.auth = true
      else if s.actAsserted = true then t.dev = .standby ∧ t.auth = false ∧ t.fg F.ROL_STAT_READY = 0
      else if s.flag F.SYS_STRAP_SENIOR = true then t.dev = .solo ∧ t.auth = true
      else t.dev = .staging ∧
        t.mir.joinEnd = some (add32 s.coming (1024 * Nat.max 1 (s.fg F.ROL_CFG_JOINWAIT))))) ∧
  (∀ (s : State) (e : Nat), s.mir.joinEnd = some e → s.dev = .staging → s.actAsserted = false →
    notBefore s.coming e = true → ∃ t, exec .joinWaitExpiry s = .next t ∧
      t.dev = .solo ∧ t.auth = true ∧ t.mir.joinEnd = none)

/-- A tick counts the frame, and a deadline settles which bundles were late. With PLL0 in lock, no store of a sequencer
still posted, no burst in flight and no step of TB3 running, FRAME_TICK moves the frame counter to the coming frame
and, unless the tick finds a cause of SAFE, the FRAME source is pending; ENGINE_DEADLINE ends the engine work of the
frame: a bundle that was not late has no run of late frames, one that was has a longer one. -/
def Obligations.TheFrameTick : Prop :=
  (∀ (s : State), s.clocked = true → s.flag F.CKG_PLLSTAT_LOCK0 = true → s.time.step ≠ .running →
    s.port.flights = [] → (∀ n : Fin 4, (s.sq n.val).posted = []) → ∃ t, exec .frameTick s = .next t ∧
      t.frame = s.coming ∧ (t.clocked = true → t.pend 0 = true)) ∧
  (∀ (s : State) (n : EngSnap), s.fab.snap = some n → ∃ t, exec .engineDeadline s = .next t ∧
      t.fab.snap = none ∧ (s.fg F.CKG_FRMCFG_ESCLIM = 0 → t.fab.stops = []) ∧
      (∀ b ∈ s.popBundles, b ∉ (lateSplit s.stagedCharge n.frame (s.asOf n)).1 → (t.bun b).lateRun = 0) ∧
      (∀ b ∈ (lateSplit s.stagedCharge n.frame (s.asOf n)).1, (s.bun b).lateRun < (t.bun b).lateRun))

/-- What becomes of what is late. A queue head whose lateness exceeds LATEMAX is flushed: its record ends VOID and
leaves the queue, and the late flush is counted, and so on until a head is not late, which stays with what is behind
it; a transition sixteen frames past its planned end is ended late; a bundle late for ESCLIM frames in a row makes
its running engine FAILED with cause 1. -/
def Obligations.LateRequestsTransitionsAndBundles : Prop :=
  (∀ (q : Fin 64) (s : State) (r : Nat) (l : List Nat), s.decides s.coming = true → (s.que q.val).recs = r :: l →
    r ∉ l → s.fgi F.SCH_QLATE_LATEMAX q.val ≠ 0 →
    s.fgi F.SCH_QLATE_LATEMAX q.val < (s.xrec r).lateness (add32 s.coming 3) →
    (∀ k ∈ l.head?, (s.xrec k).lateness (add32 s.coming 3) ≤ s.fgi F.SCH_QLATE_LATEMAX q.val) →
    ∃ t, exec (.queueLateFlush q) s = .next t ∧
      (t.que q.val).recs = l ∧ (t.xrec r).st = .void ∧ (t.xrec r).cause = 6 ∧ (t.xrec r).fin = s.coming ∧
      (∀ k ∈ l, t.xrec k = s.xrec k) ∧ t.fg F.SCH_LATEFLUSH = Nat.min (s.fg F.SCH_LATEFLUSH + 1) (2 ^ 32 - 1)) ∧
  (∀ (q : Fin 64) (s : State) (r k : Nat), s.decides s.coming = true → (s.que q.val).recs = [r, k] → r ≠ k →
    s.fgi F.SCH_QLATE_LATEMAX q.val ≠ 0 → s.fgi F.SCH_QLATE_LATEMAX q.val < (s.xrec r).lateness (add32 s.coming 3) →
    s.fgi F.SCH_QLATE_LATEMAX q.val < (s.xrec k).lateness (add32 s.coming 3) →
    ∃ t, exec (.queueLateFlush q) s = .next t ∧
      (t.que q.val).recs = [] ∧ (t.xrec r).st = .void ∧ (t.xrec r).cause = 6 ∧ (t.xrec k).st = .void ∧ (t.xrec k).cause = 6 ∧
      t.fg F.SCH_LATEFLUSH = Nat.min (s.fg F.SCH_LATEFLUSH + 2) (2 ^ 32 - 1)) ∧
  (∀ (slot : Fin 12288) (s : State), ∃ t, exec (.transitionLateEnd slot) s = .next t ∧
      (t.slot slot.val).trs =
        (s.slot slot.val).trs.map (fun x => if x.overdue (add32 s.coming 2) = true then trLateEnd x else x) ∧
      t.fg F.SEG_LATEEND = Nat.min
        (s.fg F.SEG_LATEEND + (s.slot slot.val).trs.countP fun x => x.overdue (add32 s.coming 2)) (2 ^ 32 - 1)) ∧
  (∀ (b : Fin 1536) (s : State), s.fg F.CKG_FRMCFG_ESCLIM ≠ 0 → s.fg F.CKG_FRMCFG_ESCLIM ≤ (s.bun b.val).lateRun →
    s.engState (s.physOf (engineOf b.val)) = 0 → ∃ t, exec (.engineLateEscalation b) s = .next t ∧
      t.engState (s.physOf (engineOf b.val)) = 2 ∧
      t.fgi F.MOR_ESTATp_CAUSE (s.physOf (engineOf b.val)) = 1 ∧ t.fg F.MOR_STAT_ENGFLT = 1 ∧ t.pend 6 = true)

/-- When a slot is dark, when it has settled, and when settling fails. A slot that counts GAPESC intervals towards dark
becomes dark: its loop's output is folded into its holding value, the integrator and the loop term are zero, DARKCNT
counts it and source 3 pends; a slot that is settling with SETCNT evaluations within tolerance has settled; one that
is settling for SETTMO evaluations is marked SETFAIL, once, which SETFAIL counts, source 5 shows, and the record of
every manifest that tracks the slot keeps. -/
def Obligations.SlotsDarkAndSettled : Prop :=
  (∀ (slot : Fin 12288) (s : State), s.fg F.MOR_LCFG_GAPESC ≠ 0 →
    s.fg F.MOR_LCFG_GAPESC ≤ (s.slot slot.val).lp.darkCnt → (s.slot slot.val).lp.dark = false →
    ∃ t, exec (.slotDark slot) s = .next t ∧
      (t.slot slot.val).lp.dark = true ∧
      (t.slot slot.val).lp.h = toHold ((s.slot slot.val).lp.hold + s.lpOf slot.val) ∧ (t.slot slot.val).lp.iM = 0 ∧ (t.slot slot.val).lp.lpM = 0 ∧
      (t.slot slot.val).phi = (s.slot slot.val).phi ∧
      t.fg F.MOR_DARKCNT = Nat.min (s.fg F.MOR_DARKCNT + 1) (2 ^ 32 - 1) ∧ t.pend 3 = true) ∧
  (∀ (slot : Fin 12288) (s : State), (s.slot slot.val).lp.uns = true →
    (if (s.coef (bundleOf slot.val)).setcnt = 0 then 1 else (s.coef (bundleOf slot.val)).setcnt) ≤ (s.slot slot.val).lp.setrun →
    ∃ t, exec (.slotSettled slot) s = .next t ∧
      (t.slot slot.val).lp.uns = false ∧ (t.slot slot.val).lp.settled = true ∧ (t.slot slot.val).lp.setfail = false ∧
      t.fab.bundles = s.fab.bundles) ∧
  (∀ (slot : Fin 12288) (s : State), (s.slot slot.val).lp.uns = true → (s.coef (bundleOf slot.val)).settmo ≠ 0 →
    (s.coef (bundleOf slot.val)).settmo ≤ (s.slot slot.val).lp.setage → (s.slot slot.val).lp.tmoDone = false →
    ∃ t, exec (.settleTimeout slot) s = .next t ∧
      (t.slot slot.val).lp.setfail = true ∧ (t.slot slot.val).lp.tmoDone = true ∧
      (∀ r ∈ s.exec.recs, r.2.entries.any (fun e => e.tracked && decide (e.slot = slot.val)) = true →
        (r.1, { r.2 with setFail := true }) ∈ t.exec.recs) ∧
      t.fg F.MOR_SETFAIL = Nat.min (s.fg F.MOR_SETFAIL + 1) (2 ^ 32 - 1) ∧ t.pend 5 = true)

/-- Commands and changes of a bundle's state take effect at its update frames. A command written for a bundle that is
PARKED, on PARKED-HOLD or held by calibration sets the state it returns to, otherwise it waits; either way it
replaces a command that waits and, as log 65 chooses, ends the wait of a bundle that would close again after a
change of coefficients or a takeover; it takes effect at the bundle's next update frame; a bundle whose cause of
parking has cleared returns at its second update frame after that, one marked INITCLOSE that is OPEN and one opened
for a change of coefficients close at their second update frame, or, held by calibration, are to be CLOSED when they
are released; coefficients waiting for a bundle are loaded at its next update frame, a bundle CLOSED at their COMMIT
and still CLOSED opening for them. -/
def Obligations.BundleCommandsAndStates : Prop :=
  (∀ (s : State), ∃ t, exec .bcmdOpen s = .next t ∧
      if (s.bun s.bsel).st = .parked ∨ (s.bun s.bsel).st = .hold ∨ (s.bun s.bsel).calHold.isSome = true then
        (t.bun s.bsel).ret = .opened ∧ (t.bun s.bsel).cmd = .none ∧ (t.bun s.bsel).recloseF = none ∧ (t.bun s.bsel).takeF = none ∧
      (t.bun s.bsel).st = (s.bun s.bsel).st
      else (t.bun s.bsel).cmd = .opening ∧ (t.bun s.bsel).recloseF = none ∧ (t.bun s.bsel).takeF = none ∧ (t.bun s.bsel).st = (s.bun s.bsel).st) ∧
  (∀ (s : State), ∃ t, exec .bcmdClose s = .next t ∧
      if (s.bun s.bsel).st = .parked ∨ (s.bun s.bsel).st = .hold ∨ (s.bun s.bsel).calHold.isSome = true then
        (t.bun s.bsel).ret = .closed ∧ (t.bun s.bsel).cmd = .none ∧ (t.bun s.bsel).recloseF = none ∧ (t.bun s.bsel).takeF = none ∧
      (t.bun s.bsel).st = (s.bun s.bsel).st
      else (t.bun s.bsel).cmd = .closing ∧ (t.bun s.bsel).recloseF = none ∧ (t.bun s.bsel).takeF = none ∧ (t.bun s.bsel).st = (s.bun s.bsel).st) ∧
  (∀ (b : Fin 1536) (s : State), s.updNext b.val = true → (s.bun b.val).calHold = none →
    ((s.bun b.val).st = .opened ∨ (s.bun b.val).st = .closed) → (s.bun b.val).cmd ≠ .none →
    ∃ t, exec (.bundleCommandApply b) s = .next t ∧
      (t.bun b.val).st = (if (s.bun b.val).cmd = .opening then .opened else .closed) ∧ (t.bun b.val).cmd = .none ∧
      (t.bun b.val).ret = (s.bun b.val).ret) ∧
  (∀ (b : Fin 1536) (s : State) (c : Nat), (s.bun b.val).st = .parked → (s.bun b.val).clearF = some c →
    s.secondUpdate b.val c = true → ∃ t, exec (.bundleUnpark b) s = .next t ∧
      (t.bun b.val).st = (if (s.bun b.val).calHold.isSome = true then .opened else (s.bun b.val).ret) ∧
      (t.bun b.val).cause = .none ∧ (t.bun b.val).clearF = none) ∧
  (∀ (b : Fin 1536) (s : State) (c : Nat), (s.bun b.val).initF = some c → (s.bun b.val).st = .opened →
    (s.bun b.val).calHold = none → s.secondUpdate b.val c = true → ∃ t, exec (.bundleInitClose b) s = .next t ∧
      (t.bun b.val).st = .closed ∧ (t.bun b.val).initF = none) ∧
  (∀ (b : Fin 1536) (s : State) (c : Nat), (s.bun b.val).initF = some c →
    ((s.bun b.val).calHold.isSome = true ∨ (s.bun b.val).st = .parked ∨ (s.bun b.val).st = .hold) →
    s.secondUpdate b.val c = true → ∃ t, exec (.bundleInitClose b) s = .next t ∧
      (t.bun b.val).st = (s.bun b.val).st ∧ (t.bun b.val).ret = .closed ∧ (t.bun b.val).initF = none) ∧
  (∀ (b : Fin 1536) (s : State) (c : CoefChange), tget none s.fab.pendCoefs b.val = some c → s.updNext b.val = true →
    (s.bun b.val).st ≠ .hold → ∃ t, exec (.coefficientChangeApply b) s = .next t ∧
      t.coef b.val = c.coef ∧ tget none t.fab.pendCoefs b.val = none ∧
      (if (s.bun b.val).st = .closed ∧ c.wasClosed = true then (t.bun b.val).st = .opened ∧ (t.bun b.val).recloseF = some s.coming
      else (t.bun b.val).st = (s.bun b.val).st)) ∧
  (∀ (b : Fin 1536) (s : State) (c : Nat), (s.bun b.val).recloseF = some c → (s.bun b.val).st = .opened →
    s.secondUpdate b.val c = true → ∃ t, exec (.coefficientReclose b) s = .next t ∧
      (t.bun b.val).recloseF = none ∧
      (if (s.bun b.val).calHold.isSome = true then (t.bun b.val).st = .opened ∧ (t.bun b.val).ret = .closed else (t.bun b.val).st = .closed))

/-- Engine memory errors, and the substitution of engines. A corrected memory error of an engine is counted; an
uncorrectable one makes a running engine FAILED with cause 2; SUBST.GO is refused with its reason while a
substitution runs (3), for a logical engine above 47 (2) and for a physical engine that is no spare (1), and
otherwise begins to load the spare; when the load completes the spare serves the logical engine and runs. -/
def Obligations.EnginesFailAndAreReplaced : Prop :=
  (∀ (phys : Fin 50) (cycle : Nat) (s : State), ∃ t, exec (.engineMemoryError phys cycle true) s = .next t ∧
      t.fg F.MOR_ECCCOR = Nat.min (s.fg F.MOR_ECCCOR + 1) (2 ^ 32 - 1) ∧ t.engState phys.val = s.engState phys.val) ∧
  (∀ (phys : Fin 50) (cycle : Nat) (s : State), s.engState phys.val = 0 →
    ∃ t, exec (.engineMemoryError phys cycle false) s = .next t ∧
      t.engState phys.val = 2 ∧ t.fgi F.MOR_ESTATp_CAUSE phys.val = 2 ∧ t.fg F.MOR_STAT_ENGFLT = 1 ∧ t.pend 6 = true ∧
      t.fab.stops = s.fab.stops ++ [(phys.val, cycle)]) ∧
  (∀ (s : State), ∃ t, exec .substGo s = .next t ∧
      if s.fab.subst.isSome = true then t.fg F.MOR_SUBSTAT_REFUSED = 1 ∧ t.fg F.MOR_SUBSTAT_REASON = 3 ∧ t.fab = s.fab
      else if 48 ≤ s.fg F.MOR_SUBST_LOGICAL then t.fg F.MOR_SUBSTAT_REFUSED = 1 ∧ t.fg F.MOR_SUBSTAT_REASON = 2 ∧ t.fab = s.fab
      else if 50 ≤ s.fg F.MOR_SUBST_PHYS ∨ s.engState (s.fg F.MOR_SUBST_PHYS) ≠ 1 then
        t.fg F.MOR_SUBSTAT_REFUSED = 1 ∧ t.fg F.MOR_SUBSTAT_REASON = 1 ∧ t.fab = s.fab
      else t.engState (s.fg F.MOR_SUBST_PHYS) = 3 ∧
        t.fgi F.MOR_ESTATp_LOGICAL (s.fg F.MOR_SUBST_PHYS) = s.fg F.MOR_SUBST_LOGICAL ∧ t.fg F.MOR_SUBSTAT_BUSY = 1 ∧
        t.fab.subst.map (fun u => (u.logical, u.phys, u.frame)) =
          some (s.fg F.MOR_SUBST_LOGICAL, s.fg F.MOR_SUBST_PHYS, s.frame)) ∧
  (∀ (s : State) (u : Subst), s.fab.subst = some u → u.logical < 48 → u.phys < 50 → s.frame ≠ u.frame →
    ∃ t, exec .substLoadComplete s = .next t ∧
      t.fab.subst = none ∧ t.physOf u.logical = u.phys ∧ t.engState u.phys = 0 ∧
      t.fgi F.MOR_ESTATp_LOGICAL u.phys = u.logical ∧ t.fg F.MOR_SUBSTAT_BUSY = 0 ∧ t.fg F.MOR_SUBSTAT_DONE = 1)

/-- What a write of an engine window does. A write that the protection of the window refuses ends in an error response
and leaves every slot and coefficient alone. In the window of an engine that is not FAILED a write of H reaches the
loop of a slot whose bundle is OPEN or PARKED and is refused with CWERR for another; a write of a slot's
coefficients, or of a bundle's (XSKIP, KP, KI, ICLAMP, FOLD, SETTOL, SETCNT, SETTMO), reaches them unless the bundle
is CLOSED or on PARKED-HOLD, where it is refused with CWERR; CWLAST keeps the engine and the offset of the write
refused. -/
def Obligations.EngineWindowWrites : Prop :=
  (∀ (m : Fin 11) (phys : Fin 50) (off : Fin 16384) (c : Nat) (v : Word) (s : State), s.dev ≠ .off →
    s.port.flights = [] → (m.val < 4 → (s.sq m.val).posted = []) →
    accCause m.val (0x10000000 + 0x10000 * phys.val + 4 * off.val) true s ≠ 0 →
    ∃ t, exec (.engineWindowWrite ⟨m, phys, c⟩ off v) s = .next t ∧
      t.fab.slots = s.fab.slots ∧ t.fab.coefs = s.fab.coefs ∧ t.fg F.MTX_ERRSTAT_VALID = 1 ∧ t.fg F.MTX_ERRSTAT_MASTER = m.val ∧
      t.fg F.MTX_ERRSTAT_CAUSE = accCause m.val (0x10000000 + 0x10000 * phys.val + 4 * off.val) true s ∧ t.pend 132 = true) ∧
  (∀ (m : Fin 11) (phys : Fin 50) (off : Fin 16384) (c : Nat) (v : Word) (s : State) (e n : Nat), s.dev ≠ .off →
    s.port.flights = [] → (m.val < 4 → (s.sq m.val).posted = []) →
    accCause m.val (0x10000000 + 0x10000 * phys.val + 4 * off.val) true s = 0 → s.engState phys.val ≠ 2 →
    s.winLogical phys.val = some e → 4 * off.val < 0xE000 → 4 * off.val % 0xE0 = 0xB0 →
    n = 256 * e + 4 * off.val / 0xE0 → ∃ t, exec (.engineWindowWrite ⟨m, phys, c⟩ off v) s = .next t ∧
      if (s.bun (bundleOf n)).st = .opened ∨ (s.bun (bundleOf n)).st = .parked then
        (t.slot n).lp.h = sgn 32 v.toNat ∧ t.regs = s.regs
      else t.fg F.MOR_STAT_CWERR = 1 ∧ t.fg F.MOR_CWLAST_ENGINE = phys.val ∧ t.fg F.MOR_CWLAST_OFFSET = 4 * off.val ∧
      t.slot n = s.slot n) ∧
  (∀ (m : Fin 11) (phys : Fin 50) (off : Fin 16384) (c : Nat) (v : Word) (s : State) (e n : Nat) (x : SlotCoef),
    s.dev ≠ .off → s.port.flights = [] → (m.val < 4 → (s.sq m.val).posted = []) →
    accCause m.val (0x10000000 + 0x10000 * phys.val + 4 * off.val) true s = 0 → s.engState phys.val ≠ 2 →
    s.winLogical phys.val = some e → 4 * off.val < 0xE000 → 4 * off.val % 0xE0 ≠ 0xB0 →
    n = 256 * e + 4 * off.val / 0xE0 → slotCoefWrite (s.slotCoef n) (4 * off.val % 0xE0) v.toNat = some x →
    ∃ t, exec (.engineWindowWrite ⟨m, phys, c⟩ off v) s = .next t ∧
      if (s.bun (bundleOf n)).st = .closed ∨ (s.bun (bundleOf n)).st = .hold then
        t.fg F.MOR_STAT_CWERR = 1 ∧ t.fg F.MOR_CWLAST_ENGINE = phys.val ∧ t.fg F.MOR_CWLAST_OFFSET = 4 * off.val ∧
        t.coef (bundleOf n) = s.coef (bundleOf n)
      else (t.coef (bundleOf n)).slots =
        setAt (s.coef (bundleOf n)).slots (n % 8) x) ∧
  (∀ (m : Fin 11) (phys : Fin 50) (off : Fin 16384) (c : Nat) (v : Word) (s : State) (e b : Nat) (x : BunCoef),
    s.dev ≠ .off → s.port.flights = [] → (m.val < 4 → (s.sq m.val).posted = []) →
    accCause m.val (0x10000000 + 0x10000 * phys.val + 4 * off.val) true s = 0 → s.engState phys.val ≠ 2 →
    s.winLogical phys.val = some e → 0xE000 ≤ 4 * off.val → 4 * off.val < 0xE800 →
    b = 32 * e + (4 * off.val - 0xE000) / 0x40 →
    bunCoefWrite (s.coef b) ((4 * off.val - 0xE000) % 0x40) v.toNat = some x →
    ∃ t, exec (.engineWindowWrite ⟨m, phys, c⟩ off v) s = .next t ∧
      if (s.bun b).st = .closed ∨ (s.bun b).st = .hold then
        t.fg F.MOR_STAT_CWERR = 1 ∧ t.fg F.MOR_CWLAST_ENGINE = phys.val ∧ t.fg F.MOR_CWLAST_OFFSET = 4 * off.val ∧
        t.coef b = s.coef b
      else t.coef b = x ∧ t.regs = s.regs)

/-- The statistic clears of the fabric and the planner. A write of 1 to a block's STATCLR returns each of its statistics
to its reset value: the mooring engines, the executor, the scheduler, the tide tables, the segments, the clock
generator, and of each quay the drive, link and channel statistics. -/
def Obligations.StatisticClearsOfTheFabric : Prop :=
  (∀ (s : State), ∃ t, exec .morStatclr s = .next t ∧
      ∀ f ∈ [F.MOR_SKIPGAP, F.MOR_DARKCNT, F.MOR_CLAMPCNT, F.MOR_FOLDCNT, F.MOR_SETFAIL, F.MOR_PARKCNT, F.MOR_BFSAT,
          F.MOR_ECCCOR], t.fg f = f.reset 0) ∧
  (∀ (s : State), ∃ t, exec .manStatclr s = .next t ∧
      ∀ f ∈ [F.MAN_ALLOCCNT, F.MAN_DONECNT, F.MAN_PARTCNT, F.MAN_VOIDCNT, F.MAN_ZEROCNT, F.MAN_NOROUTECNT, F.MAN_HOLDSKIP,
          F.MAN_FAILSKIP, F.MAN_OUTSKIP, F.MAN_NOSPCNT], t.fg f = f.reset 0) ∧
  (∀ (s : State), ∃ t, exec .schStatclr s = .next t ∧
      (∀ f ∈ [F.SCH_ADMCNT, F.SCH_PWRWAIT, F.SCH_TIDEPWR, F.SCH_POLCNT, F.SCH_BUSYCNT, F.SCH_GATEDCNT, F.SCH_DENYCNT,
          F.SCH_VOIDDEN, F.SCH_LATEFLUSH, F.SCH_CMDFLUSH, F.SCH_ADMFULL, F.SCH_BALSAT, F.SCH_PHWM_POWER, F.SCH_ADMHWM_ADMIT,
          F.SCH_ADMHWM_EXAM], t.fg f = f.reset 0) ∧
      (∀ q : Fin 64, ∀ f ∈ [F.SCH_QHWM_DEPTH, F.SCH_QLATHWM_VALUE, F.SCH_QADM_VALUE], t.fgi f q.val = f.reset q.val)) ∧
  (∀ (s : State), ∃ t, exec .tidStatclr s = .next t ∧
      ∀ f ∈ [F.TID_FIRECNT, F.TID_FIREREF, F.TID_FIREVOID, F.TID_COLLIDE], t.fg f = f.reset 0) ∧
  (∀ (s : State), ∃ t, exec .segStatclr s = .next t ∧
      ∀ f ∈ [F.SEG_UNDCNT, F.SEG_LATEEND, F.SEG_DEFERCNT, F.SEG_TRUNCCNT, F.SEG_SPLITCNT, F.SEG_STEPCAP,
          F.SEG_FETCHHWM_FETCHES], t.fg f = f.reset 0) ∧
  (∀ (s : State), ∃ t, exec .ckgStatclr s = .next t ∧
      (∀ f ∈ [F.CKG_FRMRNG_MIN, F.CKG_FRMRNG_MAX, F.CKG_ENGHWM_CYCLES, F.CKG_ENGHWM_ENGINE], t.fg f = f.reset 0) ∧
      (∀ q : Fin 32, t.fgi F.CKG_OVRCNTq q.val = F.CKG_OVRCNTq.reset q.val)) ∧
  (∀ (q : Fin 32) (s : State), ∃ t, exec (.qyDrvStatclr q) s = .next t ∧
      ∀ f ∈ [F.QY_DRVSAT, F.QY_RNGSAT, F.QY_MODOVL], t.fgi f q.val = f.reset q.val) ∧
  (∀ (q : Fin 32) (s : State), ∃ t, exec (.qyLnkStatclr q) s = .next t ∧
      ∀ f ∈ [F.QY_SYNCERR, F.QY_UCRCCNT, F.QY_UFNERR, F.QY_ULATE, F.QY_DCRCCNT, F.QY_ULOSSCNT, F.QY_TRAINCNT,
          F.QY_HOLDCNT, F.QY_ARRIVE_WORST], t.fgi f q.val = f.reset q.val) ∧
  (∀ (q : Fin 32) (s : State), ∃ t, exec (.qyTchStatclr q) s = .next t ∧
      ∀ f ∈ [F.QY_TRETX, F.QY_TMALF, F.QY_TCHFAIL, F.QY_TEVCNT], t.fgi f q.val = f.reset q.val)

/-- Firmware's control of slots, circuits and queues. The FAILED mark of the slot in MAN.SSEL is set or cleared, a legal
owner written to it waits for the next tick and a reserved one sets RSVDENC, a DOWN circuit becomes NORMAL, a FLUSH
waits for the tick, and a read of VTLO or QBALLO latches the upper half for its partner, a read of QBALLO also that
of QFTLO, as log 41 reads the table. -/
def Obligations.SlotsCircuitsAndQueues : Prop :=
  (∀ (s : State), ∃ t, exec .slotcfgFset s = .next t ∧
      t.fab.slots = tmod Slot.init s.fab.slots s.manSel fun x => { x with failed := true }) ∧
  (∀ (s : State), ∃ t, exec .slotcfgFclr s = .next t ∧
      t.fab.slots = tmod Slot.init s.fab.slots s.manSel fun x => { x with failed := false }) ∧
  (∀ (v : Word) (s : State), ∃ t, exec (.slotcfgOwnerWrite v) s = .next t ∧
      if v.toNat % 256 ≤ 64 ∨ v.toNat % 256 = 255 then
        (t.slot s.manSel).ownerNext = some (v.toNat % 256) ∧ (t.slot s.manSel).owner = (s.slot s.manSel).owner
      else t.fg F.SYS_ERRSTAT_RSVDENC = 1 ∧ t.fab = s.fab) ∧
  (∀ (s : State), ∃ t, exec .cstatClrdown s = .next t ∧
      t.circuit (s.fg F.MAN_CSEL_CIRCUIT) =
        if (s.circuit (s.fg F.MAN_CSEL_CIRCUIT)).st = 2 then ⟨0, 0⟩ else s.circuit (s.fg F.MAN_CSEL_CIRCUIT)) ∧
  (∀ (s : State), ∃ t, exec .queueFlush s = .next t ∧
      (t.que (s.fg F.SCH_QSEL_QUEUE)).flush = true ∧
      (t.que (s.fg F.SCH_QSEL_QUEUE)).recs = (s.que (s.fg F.SCH_QSEL_QUEUE)).recs) ∧
  (∀ (s : State), ∃ t, exec .vtReadLatch s = .next t ∧
      t.rdata = s.sched.vt % 2 ^ 32 ∧ t.fg F.SCH_VTHI_VT = s.sched.vt / 2 ^ 32 % 2 ^ 16) ∧
  (∀ (s : State), ∃ t, exec .qbalReadLatch s = .next t ∧
      t.rdata = unsgn 48 (s.que (s.fg F.SCH_QSEL_QUEUE)).bal % 2 ^ 32 ∧
      t.fgi F.SCH_QBALHI_BAL (s.fg F.SCH_QSEL_QUEUE) = unsgn 48 (s.que (s.fg F.SCH_QSEL_QUEUE)).bal / 2 ^ 32 ∧
      t.fgi F.SCH_QFTHI_FT (s.fg F.SCH_QSEL_QUEUE) = (s.que (s.fg F.SCH_QSEL_QUEUE)).ft / 2 ^ 32 % 2 ^ 16)

/-- Arming, cancelling, stopping and starting a tide table. An ARM is refused with its reason (the order of the reasons
is log 69's choice) while an arm or a stop is pending (8), for a table that fails its checks (1 to 6) or a base too
far ahead (7), and otherwise fixes the start frame (a table whose COMMIT is still to be placed counts as the shadow,
and is armed for no frame before it is placed: log 22's reading of when an object is in force); a CANCEL withdraws
it until three frames before the start; a STOP of a running table with no arm pending fixes the boundary at which it
ends; at the start frame the shadow runs from the top, and at the stop frame the table ends. -/
def Obligations.ArmingAndStoppingTideTables : Prop :=
  (∀ (s : State), ∃ t, exec .tideArm s = .next t ∧
      (let u := tideSettle s;
        if s.tide.pstart.isSome = true ∨ s.tide.stopCmd = true then
          t.fg F.TID_STAT_REFUSED = 1 ∧ t.fg F.TID_STAT_REASON = 8 ∧ t.tide = s.tide
        else if tideReason s u.shadowTab ≠ 0 then
          t.fg F.TID_STAT_REFUSED = 1 ∧ t.fg F.TID_STAT_REASON = tideReason s u.shadowTab ∧ t.tide = s.tide
        else if later u.shadowTab.hdr.base s.armFrame = true ∧
            Nat.min (2 ^ 30) (s.fg F.TIM_ARMWIN_FRAMES) < sub32 u.shadowTab.hdr.base s.armFrame then
          t.fg F.TID_STAT_REFUSED = 1 ∧ t.fg F.TID_STAT_REASON = 7 ∧ t.tide = s.tide
        else t.tide = { u.tide with pstart := some (u.armStart s.armFrame).1 } ∧
          t.fg F.TID_PSTART_FRAME = (u.armStart s.armFrame).1 % 2 ^ 32)) ∧
  (∀ (s : State) (p : Nat), s.tide.pstart = some p → ∃ t, exec .tideCancel s = .next t ∧
      t = if later (sub32 p 3) s.frame = true then { s with tide := { s.tide with pstart := none } } else s) ∧
  (∀ (s : State), s.tide.pstart = none → s.tide.run = true → s.tide.stopCmd = false →
    ∃ t, exec .tideStop s = .next t ∧
      t = { s with tide := { s.tide with
        stopCmd := true
        stopAt := some (s.tide.stopAt.getD (firstBoundary s.nextBoundary s.activeTab.cycle (add32 s.frame 4))) } }) ∧
  (∀ (s : State), s.tide.pstart = some s.coming → ∃ t, exec .tideStart s = .next t ∧
      t.tide.run = true ∧ t.tide.shadow = 1 - s.tide.shadow ∧ t.tide.off = -1 ∧ t.tide.pstart = none ∧ t.tide.stopCmd = false ∧
      t.tide.stopAt = (if s.shadowTab.hdr.oneshot = true then some (add32 s.coming s.shadowTab.cycle) else none) ∧
      t.tide.start = s.coming ∧ t.tide.cycles = 0 ∧ t.pend 11 = true) ∧
  (∀ (s : State), s.tide.run = true → s.tide.stopAt = some s.coming → s.tide.pstart ≠ some s.coming →
    ∃ t, exec .tideTableStop s = .next t ∧
      t = { s with tide := { s.tide with run := false, stopAt := none, stopCmd := false } })

/-- Pilot settings are staged, checked and applied together. While PIL.STAT.BUSY is set an APPLY, a REVERT and a write
of a staged setting through PIL.ACC set WERR and do nothing else (for REVERT and PIL.ACC this is log 65's choice);
an APPLY that breaks the pilot plan is refused with reason 1 and the slot at fault, one that the state of a bundle
forbids with that reason and slot (the plan's reason first, log 65), and one that passes fixes its heater frame,
which the operand names as log 8 says, and sets BUSY; when that frame is composed every staged setting takes effect
at once, and BUSY clears when the copy back to staging is done. -/
def Obligations.PilotStaging : Prop :=
  (∀ (delay : Fin 2) (s : State), ∃ t, exec (.pilApply delay) s = .next t ∧
      if s.flag F.PIL_STAT_BUSY = true then t.fg F.PIL_STAT_WERR = 1 ∧ t.fab = s.fab
      else if (s.planFails (fun n => (s.slot n).pilStg) s.kJudged).isSome = true then
        t.fg F.PIL_STAT_REFUSED = 1 ∧ t.fg F.PIL_STAT_REASON = 1 ∧ t.fab = s.fab ∧
        some (t.fg F.PIL_BADSLOT_SLOT) = (s.planFails (fun n => (s.slot n).pilStg) s.kJudged).map (· % 2 ^ 14)
      else if (pilStateFail s).isSome = true then
        t.fg F.PIL_STAT_REFUSED = 1 ∧ t.fab = s.fab ∧
        some (t.fg F.PIL_STAT_REASON, t.fg F.PIL_BADSLOT_SLOT) = (pilStateFail s).map fun r => (r.1 % 2 ^ 4, r.2 % 2 ^ 14)
      else t.fg F.PIL_STAT_BUSY = 1 ∧ t.fab.pilApply = some (add32 s.frame (delay.val + 3)) ∧
        t.fg F.PIL_APPLYF_FRAME = add32 s.frame (delay.val + 3)) ∧
  (∀ (s : State) (n : Nat), ∃ t, exec .pilRevert s = .next t ∧
      if s.flag F.PIL_STAT_BUSY = true then t.fg F.PIL_STAT_WERR = 1 ∧ t.fab = s.fab
      else t.fg F.PIL_STAT_BUSY = 1 ∧ (t.slot n).pilStg = (s.slot n).pil ∧ (t.slot n).pil = (s.slot n).pil) ∧
  (∀ (s : State), ∃ t, exec .pilAccRd s = .next t ∧
      (let p := if s.flag F.PIL_ACC_ACTSEL = true then (s.slot s.pilSel).pil else (s.slot s.pilSel).pilStg;
        t.fg F.PIL_SCFG0_INC = p.inc % 2 ^ 24 ∧ t.fg F.PIL_SCFG0_MODE = p.mode % 2 ^ 3 ∧ t.fg F.PIL_SCFG0_SCALE = p.scale % 2 ∧
        t.fg F.PIL_SCFG1_PHOFF = p.phoff % 2 ^ 24 ∧ t.fg F.PIL_SCFG2_AMP = p.amp % 2 ^ 12)) ∧
  (∀ (s : State), ∃ t, exec .pilAccWr s = .next t ∧
      if s.flag F.PIL_STAT_BUSY = true then t.fg F.PIL_STAT_WERR = 1 ∧ t.fab = s.fab
      else (t.slot s.pilSel).pilStg =
          ⟨s.fg F.PIL_SCFG0_INC, s.fg F.PIL_SCFG1_PHOFF, s.fg F.PIL_SCFG0_MODE, s.fg F.PIL_SCFG2_AMP, s.fg F.PIL_SCFG0_SCALE⟩ ∧
        (t.slot s.pilSel).pil = (s.slot s.pilSel).pil) ∧
  (∀ (s : State) (f n : Nat), s.fab.pilApply = some f → notBefore (add32 s.coming 2) f = true →
    ∃ t, exec .pilotApplyTakeEffect s = .next t ∧
      (t.slot n).pil = (s.slot n).pilStg ∧ (t.slot n).pilWas = (s.slot n).pil ∧ (t.slot n).phi = (s.slot n).phi ∧
      t.fab.pilApply = none ∧ t.fab.pilFrom = some f ∧ t.fg F.PIL_STAT_BUSY = 1) ∧
  (∀ (s : State), s.fab.pilApply = none → ∃ t, exec .pilCopyDone s = .next t ∧
      t.fg F.PIL_STAT_BUSY = 0)

/-- Range changes of a quay. A GO with no change pending, for another range and with a frame 16 to 2^23 frames ahead
pends and posts an ANNOUNCE to the tile, any other sets BADFRM; a CANCEL withdraws a pending change until nine
frames before it, one not acknowledged eight frames before is cancelled with NOACK, both posting a CANCEL to the
tile, and an acknowledged one takes effect at its frame. -/
def Obligations.RangeChanges : Prop :=
  (∀ (q : Fin 32) (s : State), ∃ t, exec (.rngreqGo q) s = .next t ∧
      if (s.quay q.val).rng = none ∧ s.fgi F.QY_RNGREQ_RANGE q.val ≠ s.fgi F.QY_RNGSTAT_CUR q.val ∧
          16 ≤ sub32 (s.fgi F.QY_RNGFRM_FRAME q.val) s.frame ∧ sub32 (s.fgi F.QY_RNGFRM_FRAME q.val) s.frame ≤ 2 ^ 23 then
        t.fgi F.QY_RNGSTAT_PEND q.val = 1 ∧ t.fgi F.QY_RNGSTAT_NEXT q.val = s.fgi F.QY_RNGREQ_RANGE q.val ∧
        t.quays = setAt s.quays q.val { s.quay q.val with
          rng := some ⟨s.fgi F.QY_RNGFRM_FRAME q.val, s.fgi F.QY_RNGREQ_RANGE q.val, false⟩ } ∧
        t.lanes = setAt s.lanes q.val { s.lane q.val with
          tag := ((s.lane q.val).tag + 1) % 256
          chan := (s.lane q.val).chan.post (.announce (s.lane q.val).tag 1 (s.fgi F.QY_RNGFRM_FRAME q.val % 2 ^ 24)
            (s.fgi F.QY_RNGREQ_RANGE q.val)) }
      else t.fgi F.QY_RNGSTAT_BADFRM q.val = 1 ∧ t.quays = s.quays ∧ t.lanes = s.lanes) ∧
  (∀ (q : Fin 32) (s : State) (c : Change), (s.quay q.val).rng = some c → ∃ t, exec (.rngreqCancel q) s = .next t ∧
      if notBefore (sub32 c.frame 9) s.frame = true then
        t.fgi F.QY_RNGSTAT_CANCELLED q.val = 1 ∧ t.fgi F.QY_RNGSTAT_PEND q.val = 0 ∧
        t.quays = setAt s.quays q.val { s.quay q.val with rng := none } ∧
        t.lanes = setAt s.lanes q.val { s.lane q.val with
          tag := ((s.lane q.val).tag + 1) % 256
          chan := (s.lane q.val).chan.post (.cancel (s.lane q.val).tag 1 (c.frame % 2 ^ 24)) }
      else t = s) ∧
  (∀ (q : Fin 32) (s : State) (c : Change), (s.quay q.val).rng = some c → c.acked = false →
    notBefore s.coming (sub32 c.frame 8) = true → ∃ t, exec (.rangeNoackCancel q) s = .next t ∧
      t.fgi F.QY_RNGSTAT_NOACK q.val = 1 ∧ t.fgi F.QY_RNGSTAT_CANCELLED q.val = 1 ∧ t.fgi F.QY_RNGSTAT_PEND q.val = 0 ∧
      t.quays = setAt s.quays q.val { s.quay q.val with rng := none } ∧
      t.lanes = setAt s.lanes q.val { s.lane q.val with
        tag := ((s.lane q.val).tag + 1) % 256
        chan := (s.lane q.val).chan.post (.cancel (s.lane q.val).tag 1 (c.frame % 2 ^ 24)) }) ∧
  (∀ (q : Fin 32) (s : State) (c : Change), (s.quay q.val).rng = some c → c.acked = true →
    notBefore s.coming c.frame = true → ∃ t, exec (.rangeChangeApply q) s = .next t ∧
      t.fgi F.QY_RNGSTAT_CUR q.val = c.val % 4 ∧ t.fgi F.QY_RNGSTAT_PEND q.val = 0 ∧ t.fgi F.QY_RNGSTAT_DONE q.val = 1 ∧
      t.quays = setAt s.quays q.val { s.quay q.val with rng := none })

/-- Writes of drive mode, half level and range gains are taken for heater frame f + 2. While the registers are locked a
write of DRVCFG does nothing, else it requests its mode for heater frame f + 2, the three-level mode only where the
tile offers it and with MODEDEN set elsewhere; a half level from 0x7333 to 0x8CCC and a gain from 1 to 0x8000 of
range 1 to 3 are taken for heater frame f + 2, others set LVLERR, and the gain of range 0 does not change. -/
def Obligations.DriveWrites : Prop :=
  (∀ (q : Fin 32) (v : Word) (s : State), ∃ t, exec (.drvcfgModeWrite q v) s = .next t ∧
      if s.locked = true then t = s
      else t.fgi F.QY_DRVCFG_MODE q.val = v.toNat % 2 ∧ t.fgi F.QY_DRVCFG_SSLEN q.val = v.toNat / 256 % 16 ∧
        t.quays = setAt s.quays q.val { s.quay q.val with
          modeNext := some ⟨add32 s.frame 2, if v.toNat % 2 = 1 ∧ s.threeOk q.val = true then 1 else 0⟩ } ∧
        (v.toNat % 2 = 1 ∧ s.threeOk q.val = false → t.fgi F.QY_DRVSTAT_MODEDEN q.val = 1)) ∧
  (∀ (q : Fin 32) (v : Word) (s : State), ∃ t, exec (.halflvlWrite q v) s = .next t ∧
      if 0x7333 ≤ v.toNat % 65536 ∧ v.toNat % 65536 ≤ 0x8CCC then
        t.fgi F.QY_HALFLVL_LEVEL q.val = v.toNat % 65536 ∧
        t.quays = setAt s.quays q.val { s.quay q.val with halfNext := some ⟨add32 s.frame 2, v.toNat % 65536⟩ }
      else t.fgi F.QY_DRVSTAT_LVLERR q.val = 1 ∧ t.quays = s.quays) ∧
  (∀ (q : Fin 32) (r : Fin 4) (v : Word) (s : State), ∃ t, exec (.rnggainWrite q r v) s = .next t ∧
      if r = 0 then t = s
      else if 1 ≤ v.toNat % 65536 ∧ v.toNat % 65536 ≤ 0x8000 then
        t.fgi F.QY_RNGGAINr_GAIN (4 * q.val + r.val) = v.toNat % 65536 ∧
        t.quays = setAt s.quays q.val { s.quay q.val with
          gainNext := setAt (s.quay q.val).gainNext r.val (some ⟨add32 s.frame 2, v.toNat % 65536⟩) }
      else t.fgi F.QY_DRVSTAT_LVLERR q.val = 1 ∧ t.quays = s.quays)

/-- Timing-set changes of a quay. A GO with no change pending, whose staged sets pass their check and differ from those
in force and whose frame is 16 to 2^23 frames ahead, pends for the bank not in force; otherwise it changes nothing
but PLAN, for sets that fail their check, and BADFRM, for any of the rest; a CANCEL withdraws a pending change until
nine frames before it, one not acknowledged eight frames before is cancelled with NOACK, both posting a CANCEL to
the tile; an acknowledged one takes effect at its frame: the staged copy is in force, its bank is the bank in force,
and what was in force is kept for the sample of the frame before. -/
def Obligations.TimingSetChanges : Prop :=
  (∀ (q : Fin 32) (s : State), ∃ t, exec (.tsreqGo q) s = .next t ∧
      if s.setsOk q.val s.stageSetOf = true ∧ (s.quay q.val).ts = none ∧ s.stageDiffers q.val = true ∧
          s.changeFrameOk (s.fgi F.QY_TSFRM_FRAME q.val) = true then
        t.fgi F.QY_TSSTAT_PEND q.val = 1 ∧ t.quays = setAt s.quays q.val { s.quay q.val with
          ts := some ⟨s.fgi F.QY_TSFRM_FRAME q.val, 1 - (s.lane q.val).bank, false⟩ }
      else t.quays = s.quays ∧ t.lanes = s.lanes ∧
        (s.setsOk q.val s.stageSetOf = false → t.fgi F.QY_TSSTAT_PLAN q.val = 1) ∧
        ((s.quay q.val).ts ≠ none ∨ s.stageDiffers q.val = false ∨ s.changeFrameOk (s.fgi F.QY_TSFRM_FRAME q.val) = false →
          t.fgi F.QY_TSSTAT_BADFRM q.val = 1)) ∧
  (∀ (q : Fin 32) (s : State) (c : Change), (s.quay q.val).ts = some c → ∃ t, exec (.tsreqCancel q) s = .next t ∧
      if notBefore (sub32 c.frame 9) s.frame = true then
        t.fgi F.QY_TSSTAT_CANCELLED q.val = 1 ∧ t.fgi F.QY_TSSTAT_PEND q.val = 0 ∧
        t.quays = setAt s.quays q.val { s.quay q.val with ts := none } ∧
        t.lanes = setAt s.lanes q.val { s.lane q.val with
          tag := ((s.lane q.val).tag + 1) % 256
          chan := (s.lane q.val).chan.post (.cancel (s.lane q.val).tag 2 (c.frame % 2 ^ 24)) }
      else t = s) ∧
  (∀ (q : Fin 32) (s : State) (c : Change), (s.quay q.val).ts = some c → c.acked = false →
    notBefore s.coming (sub32 c.frame 8) = true → ∃ t, exec (.tsetNoackCancel q) s = .next t ∧
      t.fgi F.QY_TSSTAT_NOACK q.val = 1 ∧ t.fgi F.QY_TSSTAT_CANCELLED q.val = 1 ∧ t.fgi F.QY_TSSTAT_PEND q.val = 0 ∧
      t.quays = setAt s.quays q.val { s.quay q.val with ts := none } ∧
      t.lanes = setAt s.lanes q.val { s.lane q.val with
        tag := ((s.lane q.val).tag + 1) % 256
        chan := (s.lane q.val).chan.post (.cancel (s.lane q.val).tag 2 (c.frame % 2 ^ 24)) }) ∧
  (∀ (q : Fin 32) (s : State) (c : Change), (s.quay q.val).ts = some c → c.acked = true →
    notBefore s.coming c.frame = true → ∃ t, exec (.tsetChangeApply q) s = .next t ∧
      t.fgi F.QY_TSSTAT_PEND q.val = 0 ∧ t.fgi F.QY_TSSTAT_DONE q.val = 1 ∧
      t.lanes = setAt s.lanes q.val { s.lane q.val with bank := c.val } ∧
      t.quays = setAt s.quays q.val { s.quay q.val with
        ts := none
        tsWas := some ⟨c.frame, (s.quay q.val).tsets, (s.quay q.val).tasg⟩
        tsets := s.stageSets q.val
        tasg := s.stageTasg q.val })

/-- A lane from SEEK to RUN. A lane in SEEK tries its rates in turn and goes to TRAIN, with lock, when the hunt has
found two frames in a row; in TRAIN it tries each preset for 64 frames, chooses the best and goes on to DISCOVER
after 256 clean frames; there it goes on to SKEW once the tile is known, of the declared generation and configured,
or to FAULT, configured or not, where the generation differs; in SKEW 256 round trips give QY.RTT and ULSLOT, and
SKEW ends once the launch has moved and the tile is written (that DISCOVER ends once the tile is configured, that
SKEW ends with the launch move, and how the mean is rounded are log 35's readings), in RUN where lanes may run and
in READY where they may not, and READY ends when they may; a TRAIN or DISCOVER of 4,096 frames leads back to SEEK. -/
def Obligations.LaneTraining : Prop :=
  (∀ (q : Fin 32) (s : State), s.laneSt q.val = 1 →
    (if (s.lane q.val).declared = true then 1024 else 256) ≤ (s.lane q.val).since →
    exec (.laneSeekRateSwitch q) s = .next { s with lanes := setAt s.lanes q.val { s.lane q.val with declared := !(s.lane q.val).declared, since := 0 } }) ∧
  (∀ (q : Fin 32) (s : State), s.laneSt q.val = 1 → 2 ≤ (s.lane q.val).regained →
    ∃ t, exec (.upstreamLockAcquire q) s = .next t ∧
      t.laneSt q.val = 2 ∧ t.ulock q.val = true ∧ t.pend (32 + q.val) = true ∧
      t.fgi F.QY_TRAINCNT q.val = Nat.min (s.fgi F.QY_TRAINCNT q.val + 1) (2 ^ 32 - 1)) ∧
  (∀ (q : Fin 32) (s : State) (b : Nat × Nat × Nat), s.laneSt q.val = 2 → (s.lane q.val).chosen = false →
    64 ≤ (s.lane q.val).presetRun →
    b = bestPreset (s.lane q.val).best (s.lane q.val).deyeNow (s.lane q.val).preset (s.lane q.val).teyeNow →
    ∃ t, exec (.trainPresetStep q) s = .next t ∧
      if (s.lane q.val).preset < 7 then
        t = { s with lanes := setAt s.lanes q.val { s.lane q.val with
          best := some b, preset := (s.lane q.val).preset + 1, presetRun := 0 } }
      else t.fgi F.QY_EYE_DEYE q.val = b.1 % 2 ^ 8 ∧ t.fgi F.QY_EYE_TPSEL q.val = b.2.1 % 2 ^ 3 ∧
        t.fgi F.QY_EYE_TEYE q.val = b.2.2 % 2 ^ 8 ∧
        t.lanes = setAt s.lanes q.val { s.lane q.val with
          best := some b, preset := b.2.1, presetRun := 0, chosen := true, clean := 0 }) ∧
  (∀ (q : Fin 32) (s : State), s.laneSt q.val = 2 → (s.lane q.val).chosen = true → 256 ≤ (s.lane q.val).clean →
    ∃ t, exec (.trainComplete q) s = .next t ∧
      t.laneSt q.val = 3 ∧ t.ulock q.val = s.ulock q.val ∧ t.quays = s.quays) ∧
  (∀ (q : Fin 32) (s : State), s.laneSt q.val = 2 → 4096 ≤ (s.lane q.val).since →
    ∃ t, exec (.trainTimeout q) s = .next t ∧
      t.laneSt q.val = 1 ∧ t.ulock q.val = false ∧ t.fgi F.QY_LNKSTAT_TRAINFAIL q.val = 1) ∧
  (∀ (q : Fin 32) (s : State) (g : Nat) (rest : List Nat), s.laneSt q.val = 3 → (s.lane q.val).ident = g :: rest →
    (g % 16 = s.genDecl q.val → (s.lane q.val).configured = true ∧ (s.lane q.val).cfgTags = []) →
    ∃ t, exec (.discoverComplete q) s = .next t ∧
      if g % 16 = s.genDecl q.val then t.laneSt q.val = 4 ∧ t.cal.disc = []
      else t.laneSt q.val = 7 ∧ t.fgi F.QY_LNKSTAT_GENMIS q.val = 1 ∧ t.pend (64 + q.val) = true) ∧
  (∀ (q : Fin 32) (s : State), s.laneSt q.val = 3 → 4096 ≤ (s.lane q.val).since →
    ∃ t, exec (.discoverTimeout q) s = .next t ∧
      t.laneSt q.val = 1 ∧ t.ulock q.val = false ∧ t.fgi F.QY_LNKSTAT_DISCFAIL q.val = 1) ∧
  (∀ (q : Fin 32) (s : State), s.laneSt q.val = 4 → (s.lane q.val).measured = false →
    256 ≤ (s.lane q.val).rtts.length → ∃ t, exec (.skewMeasureComplete q) s = .next t ∧
      t.fgi F.QY_RTT_TIME q.val = meanRtt (s.lane q.val).rtts % 2 ^ 20 ∧ t.laneSt q.val = 4 ∧
      1 ≤ t.fgi F.QY_LNKTIM_ULSLOT q.val ∧ t.fgi F.QY_LNKTIM_ULSLOT q.val ≤ 24) ∧
  (∀ (q : Fin 32) (s : State), s.laneSt q.val = 4 → (s.lane q.val).measured = true → (s.lane q.val).skewLeft = 0 →
    (s.lane q.val).chan.waiting = [] → ∃ t, exec (.launchMoveDone q) s = .next t ∧
      t.laneSt q.val = if s.lanesRun = true then 6 else 5) ∧
  (∀ (q : Fin 32) (s : State), s.laneSt q.val = 5 → s.lanesRun = true → ∃ t, exec (.laneEnterRun q) s = .next t ∧
      t.laneSt q.val = 6 ∧ t.pend (32 + q.val) = true)

/-- Losing and regaining a lane, and what an upstream frame brings. A running lane whose upstream lock is lost counts
it, sets LOSS and, with RELOCK 0, seeks at once, else waits; two good frames relock it, and after RELOCK frames it
seeks; before RUN a loss of lock leads back to SEEK; RETRAIN is kept for the next tick and RESKEW takes the averaged
round trip; an upstream frame with a bad CRC or frame number is counted and one that is good leaves its samples; a
burst of downstream errors is signalled. -/
def Obligations.LaneLossAndRelock : Prop :=
  (∀ (q : Fin 32) (s : State), s.laneSt q.val = 6 → s.ulock q.val = true → (s.lane q.val).lockLost = true →
    ∃ t, exec (.upstreamLockLoss q) s = .next t ∧
      t.ulock q.val = false ∧ t.fgi F.QY_LNKSTAT_LOSS q.val = 1 ∧
      t.fgi F.QY_ULOSSCNT q.val = Nat.min (s.fgi F.QY_ULOSSCNT q.val + 1) (2 ^ 32 - 1) ∧
      t.laneSt q.val = if s.fgi F.QY_LNKCFG_RELOCK q.val = 0 then 1 else 6) ∧
  (∀ (q : Fin 32) (s : State), s.laneSt q.val = 6 → (s.lane q.val).lost.isSome = true → 2 ≤ (s.lane q.val).regained →
    ∃ t, exec (.upstreamRelock q) s = .next t ∧
      t.ulock q.val = true ∧ t.laneSt q.val = 6 ∧
      t.lanes = setAt s.lanes q.val { s.lane q.val with lost := none, regained := 0, syncBad := 0, crcBad := 0 }) ∧
  (∀ (q : Fin 32) (s : State) (n : Nat), s.laneSt q.val = 6 → (s.lane q.val).lost = some n →
    s.fgi F.QY_LNKCFG_RELOCK q.val ≤ n → ∃ t, exec (.relockTimeout q) s = .next t ∧
      t.laneSt q.val = 1 ∧ t.ulock q.val = false) ∧
  (∀ (q : Fin 32) (s : State), 2 ≤ s.laneSt q.val → s.laneSt q.val ≤ 5 → (s.lane q.val).lockLost = true →
    ∃ t, exec (.preRunLockLoss q) s = .next t ∧
      t.laneSt q.val = 1 ∧ t.ulock q.val = false) ∧
  (∀ (q : Fin 32) (s : State), s.laneSt q.val ≠ 0 →
    exec (.lnkctrlRetrain q) s = .next { s with lanes := setAt s.lanes q.val { s.lane q.val with seekWhy := 4 } }) ∧
  (∀ (q : Fin 32) (s : State), s.laneSt q.val = 6 → ∃ t, exec (.lnkctrlReskew q) s = .next t ∧
      t.fgi F.QY_RTT_TIME q.val = s.fgi F.QY_RTTAVG_TIME q.val ∧ t.laneSt q.val = 6 ∧ t.lanes = s.lanes ∧
      t.fgi F.QY_LNKTIM_ULSLOT q.val = s.fgi F.QY_LNKTIM_ULSLOT q.val) ∧
  (∀ (q : Fin 32) (f : UFrame) (a : UArrival) (s : State), 2 ≤ s.laneSt q.val → a.syncErr ≤ 4 →
    (s.lane q.val).lost = none → s.tsigDiffers q.val f = false → ∃ t, exec (.upstreamFrame q f a) s = .next t ∧
      if s.frameGood q.val f = false then
        t.fgi F.QY_UCRCCNT q.val = Nat.min (s.fgi F.QY_UCRCCNT q.val + 1) (2 ^ 32 - 1) ∧ t.quays = s.quays
      else if f.fnum ≠ s.frame % 2 ^ 24 then
        t.fgi F.QY_UFNERR q.val = Nat.min (s.fgi F.QY_UFNERR q.val + 1) (2 ^ 32 - 1) ∧ t.quays = s.quays
      else f.ftype = 2 → f.src0 = false → f.cell = none → t.quays = setAt s.quays q.val { s.quay q.val with
        intake := some ⟨s.frame, if 80 < a.late then [] else f.samples⟩ }) ∧
  (∀ (q : Fin 32) (s : State), s.fgi F.QY_LNKCFG_DERRLIM q.val ≠ 0 →
    s.fgi F.QY_LNKCFG_DERRLIM q.val ≤ (s.lane q.val).derrRun → ∃ t, exec (.downstreamErrorBurst q) s = .next t ∧
      t.fgi F.QY_LNKSTAT_DERRBURST q.val = 1 ∧ t.pend (64 + q.val) = true ∧
      t.lanes = setAt s.lanes q.val { s.lane q.val with derrRun := 0 })

/-- What a tile does with link frames, instants, launches, its own reset and its conditions. A frame that a locked port
accepts waits for its heater frame and sets the number expected next; a place without a link frame leaves the port
without one and counts as bad; at the reference instant the tile has taken its samples and no port keeps a frame; at
a launch a locked port that knows its frame number sends a frame; a tile held for HOLDWIN frames is to park from the
next heater frame; a port that has found two frames in a row locks, and one with four bad SYNC words or sixteen bad
CRCs loses lock; a control reset parks the tile and clears what it drives; an output entering or leaving OPEN or
COMPLY changes its bit, and one in OPEN is not in COMPLY; an over-temperature queues event 5 on a port that is
locked and configured and has fewer than 32 events waiting. -/
def Obligations.TileFramesAndState : Prop :=
  (∀ (q : Fin 32) (p : Fin 2) (g : DFrame) (e : Fin 65) (s : State), (s.tile q.val).hasPort p.val = true →
    ((s.tile q.val).port p.val).lock = true → e.val ≤ 4 → (s.tile q.val).frameOk g = true →
    ((s.tile q.val).port p.val).number g = .accepted → g.cell = none →
    ∃ t, exec (.tileDownstreamFrame q p ⟨some g, e⟩) s = .next t ∧
      ((t.tile q.val).port p.val).frame = some g ∧ ((t.tile q.val).port p.val).expect = some ((g.fnum + 1) % 2 ^ 24) ∧
      ((t.tile q.val).port p.val).rxfn = g.fnum % 256 ∧ ((t.tile q.val).port p.val).refusedRun = 0 ∧
      ((t.tile q.val).port p.val).syncBad = 0 ∧ (t.tile q.val).park = (s.tile q.val).park) ∧
  (∀ (q : Fin 32) (p : Fin 2) (e : Fin 65) (s : State), (s.tile q.val).hasPort p.val = true →
    ((s.tile q.val).port p.val).lock = true → ∃ t, exec (.tileDownstreamFrame q p ⟨none, e⟩) s = .next t ∧
      ((t.tile q.val).port p.val).frame = none ∧
      ((t.tile q.val).port p.val).dbad = Nat.min 7 (((s.tile q.val).port p.val).dbad + 1) ∧
      ((t.tile q.val).port p.val).counts = (((s.tile q.val).port p.val).count 0).counts ∧
      ((t.tile q.val).port p.val).syncBad = ((s.tile q.val).port p.val).syncBad + 1) ∧
  (∀ (q : Fin 32) (taken : List (Nat × Bool)) (s : State), (s.tile q.val).ident.isSome = true →
    ∃ t, exec (.tileReferenceInstant q taken) s = .next t ∧
      (t.tile q.val).samples = taken ∧ ((t.tile q.val).ports.all fun x => x.frame.isNone) = true ∧
      (t.tile q.val).ident = (s.tile q.val).ident) ∧
  (∀ (q : Fin 32) (p : Fin 2) (eye : Fin 256) (tph ttl : BitVec 16) (s : State), (s.tile q.val).ident.isSome = true →
    ((s.tile q.val).port p.val).lock = true → ((s.tile q.val).port p.val).expect.isSome = true →
    ((s.tile q.val).port p.val).chan.inbox = [] → ∃ t, exec (.tileUpstreamLaunch q p eye tph ttl) s = .next t ∧
      (t.tile q.val).tph = tph.toNat ∧ (t.tile q.val).ttl = ttl.toNat ∧
      ((t.tile q.val).port p.val).sent.map (fun u => (u.fnum, u.samples, u.park)) =
        some ((s.tile q.val).fnum, (s.tile q.val).samples, (s.tile q.val).park) ∧
      ((t.tile q.val).port p.val).dbad = 0 ∧ (t.tile q.val).park = (s.tile q.val).park) ∧
  (∀ (q : Fin 32) (s : State),
    Nat.max 1 ((s.tile q.val).port ((s.tile q.val).applied.getD 0)).holdwin ≤ (s.tile q.val).heldRun →
    (s.tile q.val).park = false →
    exec (.tilePark q) s = .next { s with tiles := setAt s.tiles q.val { s.tile q.val with parkDue := true } }) ∧
  (∀ (q : Fin 32) (p : Fin 2) (s : State), (s.tile q.val).hasPort p.val = true →
    ((s.tile q.val).port p.val).lock = false → 2 ≤ ((s.tile q.val).port p.val).found →
    ∃ t, exec (.tileLock q p true (s.tile q.val).ident) s = .next t ∧
      ((t.tile q.val).port p.val).lock = true ∧ ((t.tile q.val).port p.val).syncBad = 0 ∧ ((t.tile q.val).port p.val).crcBad = 0 ∧
      (t.tile q.val).ident = (s.tile q.val).ident ∧ (t.tile q.val).park = (s.tile q.val).park) ∧
  (∀ (q : Fin 32) (p : Fin 2) (s : State), (s.tile q.val).hasPort p.val = true →
    ((s.tile q.val).port p.val).lock = true →
    (4 ≤ ((s.tile q.val).port p.val).syncBad ∨ 16 ≤ ((s.tile q.val).port p.val).crcBad) →
    ∃ t, exec (.tileLock q p false (s.tile q.val).ident) s = .next t ∧
      ((t.tile q.val).port p.val).lock = false ∧ ((t.tile q.val).port p.val).frame = none ∧
      ((t.tile q.val).port p.val).sent = none ∧ (t.tile q.val).ident = (s.tile q.val).ident ∧
      (t.tile q.val).park = (s.tile q.val).park) ∧
  (∀ (q : Fin 32) (s : State), (s.tile q.val).ident.isSome = true → ∃ t, exec (.tileControlReset q) s = .next t ∧
      (t.tile q.val).park = true ∧ (t.tile q.val).applied = none ∧ (t.tile q.val).words = [] ∧ (t.tile q.val).rng = 0 ∧
      (t.tile q.val).heldRun = 0 ∧ (t.tile q.val).ident = (s.tile q.val).ident) ∧
  (∀ (q : Fin 32) (output : Fin 768) (comply entered : Bool) (s : State) (i : TileId), (s.tile q.val).ident = some i →
    output.val < 2 * i.nslot → ∃ t, exec (.tileConditionDetect q output comply entered) s = .next t ∧
      if comply = true then
        (t.tile q.val).openBits = (s.tile q.val).openBits ∧
        (entered = true → (t.tile q.val).complyBits.testBit output.val =
          (!(s.tile q.val).openBits.testBit output.val || (s.tile q.val).complyBits.testBit output.val)) ∧
        (entered = false → (t.tile q.val).complyBits.testBit output.val = false)
      else (t.tile q.val).openBits.testBit output.val = entered ∧
        ((s.tile q.val).openBits.testBit output.val = false → entered = true →
          (t.tile q.val).complyBits.testBit output.val = false ∧
          (t.tile q.val).evCount = (s.tile q.val).evCount + if (s.tile q.val).complyBits.testBit output.val = true then 2 else 1)) ∧
  (∀ (q : Fin 32) (p : Fin 2) (s : State), ((s.tile q.val).port p.val).lock = true →
    ((s.tile q.val).port p.val).fresh = false → ((s.tile q.val).port p.val).events.length < 32 →
    ∃ t, exec (.tileOvertemp q) s = .next t ∧
      ((t.tile q.val).port p.val).events =
        ((s.tile q.val).port p.val).events ++ [⟨(s.tile q.val).evCount % 256, 5, 0, (s.tile q.val).fnum, false⟩] ∧
      (t.tile q.val).evCount = (s.tile q.val).evCount + 1 ∧ t.regs = s.regs)

/-- Requests at a tile, and their answers at the device. A request delivered to the tile is answered with the status its
rule gives: a RD with its words or why not, a WR with 0 (for the words of a frozen bank too, as log 66 chooses) or
why not, where a WR refused leaves the words and the slot of the port alone and one of CFG sets its fields and
clears FRESH; an announcement of a value that exists is prepared where it names a frame far enough ahead and nothing
of its kind is prepared for a frame to come, else refused with 3 or 4; a CANCEL releases the preparation; at the
device an answer to firmware's request ends it with its status, an ANNACK acknowledges the change it names or
cancels it with NOACK, a CANACK does nothing but leave the channel, and an event is counted, shown in TEVLAST, and
marked and signalled by its code, an OPEN event of a channel that exists marking its slot FAILED and raising
ELEMENT_FAIL. -/
def Obligations.TileRequestsAndAnswers : Prop :=
  (∀ (q : Fin 32) (p : Fin 2) (s : State) (tag a n : Nat) (r : List TMsg),
    ((s.tile q.val).port p.val).chan.inbox = .rd tag a n :: r → ∃ t, exec (.tileRd q p) s = .next t ∧
      ((t.tile q.val).port p.val).chan.inbox = r ∧
      ((t.tile q.val).port p.val).chan.waiting = ((s.tile q.val).port p.val).chan.waiting ++
        [if n = 0 ∨ 5 < n then .errRsp tag 6
         else if ((List.range n).map (a + ·)).all (s.tile q.val).hasReg = true then
           .rdRsp tag 0 (((List.range n).map (a + ·)).map ((s.tile q.val).readReg p.val))
         else .rdRsp tag 1 []]) ∧
  (∀ (q : Fin 32) (p : Fin 2) (s : State) (tag a : Nat) (ws : List Nat) (r : List TMsg),
    ((s.tile q.val).port p.val).chan.inbox = .wr tag a ws :: r → ∃ t, exec (.tileWr q p) s = .next t ∧
      ((t.tile q.val).port p.val).chan.waiting = ((s.tile q.val).port p.val).chan.waiting ++
        [if ws.length = 0 ∨ 4 < ws.length then .errRsp tag 6
         else if (((List.range ws.length).map (a + ·)).all (s.tile q.val).hasReg) = false then .wrRsp tag 1
         else if ((List.range ws.length).map (a + ·)).any tileRegRo = true then .wrRsp tag 2 else .wrRsp tag 0] ∧
      (ws.length = 0 ∨ 4 < ws.length ∨ (((List.range ws.length).map (a + ·)).all (s.tile q.val).hasReg) = false ∨
          ((List.range ws.length).map (a + ·)).any tileRegRo = true →
        ((t.tile q.val).port p.val).words = ((s.tile q.val).port p.val).words ∧
        ((t.tile q.val).port p.val).ulslot = ((s.tile q.val).port p.val).ulslot) ∧
      (a = 0x10 → ws.length = 1 → ((t.tile q.val).port p.val).fresh = false ∧
        ((t.tile q.val).port p.val).ulslot = ws.getD 0 0 % 32 ∧ ((t.tile q.val).port p.val).holdwin = bitsAt (ws.getD 0 0) 8 8)) ∧
  (∀ (q : Fin 32) (p : Fin 2) (s : State) (tag k f v : Nat) (r : List TMsg),
    ((s.tile q.val).port p.val).chan.inbox = .announce tag k f v :: r → (k = 1 ∧ v ≤ 3 ∨ k = 2 ∧ v ≤ 1) →
    ∃ t, exec (.tileAnnounce q p) s = .next t ∧
      if (s.tile q.val).ahead p.val f = true ∧
          Prep.left ((s.tile q.val).delivery p.val)
            (if k = 1 then ((s.tile q.val).port p.val).prepRng else ((s.tile q.val).port p.val).prepTs) = none then
        (if k = 1 then ((t.tile q.val).port p.val).prepRng else ((t.tile q.val).port p.val).prepTs) = some ⟨f, v⟩ ∧
        ((t.tile q.val).port p.val).chan.waiting = ((s.tile q.val).port p.val).chan.waiting ++ [.annAck tag 0 k f]
      else ((t.tile q.val).port p.val).prepRng = ((s.tile q.val).port p.val).prepRng ∧
        ((t.tile q.val).port p.val).prepTs = ((s.tile q.val).port p.val).prepTs ∧
        ((t.tile q.val).port p.val).chan.waiting = ((s.tile q.val).port p.val).chan.waiting ++
          [.annAck tag (if (s.tile q.val).ahead p.val f = true then 4 else 3) k f]) ∧
  (∀ (q : Fin 32) (p : Fin 2) (s : State) (tag k f : Nat) (r : List TMsg),
    ((s.tile q.val).port p.val).chan.inbox = .cancel tag k f :: r → (k = 1 ∨ k = 2) →
    ∃ t, exec (.tileCancel q p) s = .next t ∧
      (if k = 1 then ((t.tile q.val).port p.val).prepRng else ((t.tile q.val).port p.val).prepTs) = none ∧
      ((t.tile q.val).port p.val).chan.waiting = ((s.tile q.val).port p.val).chan.waiting ++ [.canAck tag 0 k f]) ∧
  (∀ (q : Fin 32) (s : State) (tag st : Nat) (ws : List Nat) (r : List TMsg),
    (s.lane q.val).chan.inbox = .rdRsp tag st ws :: r → s.reqTag q.val = some tag → ∃ t, exec (.rdrsp q) s = .next t ∧
      t.fgi F.QY_TRSP_BUSY q.val = 0 ∧ t.fgi F.QY_TRSP_DONE q.val = 1 ∧ t.fgi F.QY_TRSP_STATUS q.val = st % 2 ^ 4 ∧
      t.fgi F.QY_TDATA_DATA q.val = (if st = 0 then ws.getD 0 0 % 2 ^ 32 else s.fgi F.QY_TDATA_DATA q.val) ∧
      (t.lane q.val).chan.inbox = r ∧ (t.lane q.val).req = none) ∧
  (∀ (q : Fin 32) (s : State) (tag st : Nat) (r : List TMsg), (s.lane q.val).chan.inbox = .wrRsp tag st :: r →
    s.reqTag q.val = some tag → ∃ t, exec (.wrrsp q) s = .next t ∧
      t.fgi F.QY_TRSP_BUSY q.val = 0 ∧ t.fgi F.QY_TRSP_DONE q.val = 1 ∧ t.fgi F.QY_TRSP_STATUS q.val = st % 2 ^ 4 ∧
      (t.lane q.val).chan.inbox = r ∧ (t.lane q.val).req = none) ∧
  (∀ (q : Fin 32) (s : State) (tag st k f : Nat) (r : List TMsg) (c : Change),
    (s.lane q.val).chan.inbox = .annAck tag st k f :: r →
    (if k = 1 then (s.quay q.val).rng else (s.quay q.val).ts) = some c → c.acked = false → c.frame % 2 ^ 24 = f →
    ∃ t, exec (.annack q) s = .next t ∧
      if st = 0 then (if k = 1 then (t.quay q.val).rng else (t.quay q.val).ts) = some { c with acked := true }
      else (if k = 1 then (t.quay q.val).rng else (t.quay q.val).ts) = none ∧
        t.fgi (if k = 1 then F.QY_RNGSTAT_NOACK else F.QY_TSSTAT_NOACK) q.val = 1) ∧
  (∀ (q : Fin 32) (s : State) (tag st k f : Nat) (r : List TMsg),
    (s.lane q.val).chan.inbox = .canAck tag st k f :: r →
    exec (.canack q) s = .next { s with lanes := setAt s.lanes q.val { s.lane q.val with chan := { (s.lane q.val).chan with inbox := r } } }) ∧
  (∀ (q : Fin 32) (s : State) (tag st : Nat) (r : List TMsg), (s.lane q.val).chan.inbox = .errRsp tag st :: r →
    s.reqTag q.val = some tag → ∃ t, exec (.errrsp q) s = .next t ∧
      t.fgi F.QY_TRSP_BUSY q.val = 0 ∧ t.fgi F.QY_TRSP_DONE q.val = 1 ∧ t.fgi F.QY_TRSP_STATUS q.val = st % 2 ^ 4 ∧
      (t.lane q.val).req = none) ∧
  (∀ (q : Fin 32) (s : State) (n code output f : Nat) (lost : Bool) (r : List TMsg),
    (s.lane q.val).chan.inbox = .event n code output f lost :: r → ∃ t, exec (.event q) s = .next t ∧
      t.fgi F.QY_TEVCNT q.val = Nat.min (s.fgi F.QY_TEVCNT q.val + 1) (2 ^ 32 - 1) ∧
      t.fgi F.QY_TEVLAST_CODE q.val = code % 2 ^ 8 ∧ t.fgi F.QY_TEVLAST_OUTPUT q.val = output % 2 ^ 10 ∧
      t.fgi F.QY_TEVLAST_FRAME q.val = f % 2 ^ 14 ∧
      (code = 1 → t.fgi F.QY_TCHSTAT_OPENEV q.val = 1) ∧
      (code = 1 → chanExists (s.quay q.val).gen (bitsAt output 1 9) = true →
        (t.slot (384 * q.val + bitsAt output 1 9)).failed = true ∧ t.pend 7 = true) ∧
      (code = 3 ∨ code = 4 → t.fgi F.QY_TCHSTAT_COMPLYEV q.val = 1 ∧ t.pend (96 + q.val) = true) ∧
      (code = 5 → t.fgi F.QY_TCHSTAT_OVERTEMP q.val = 1 ∧ t.pend (96 + q.val) = true) ∧
      (code = 6 → t.fgi F.QY_TCHSTAT_DUALAUTH q.val = 1 ∧ t.pend (96 + q.val) = true) ∧
      (lost = true → t.fgi F.QY_TCHSTAT_EVLOST q.val = 1 ∧ t.pend (96 + q.val) = true))

/-- Retransmission, failure and reset of the message channel, and firmware's requests. With messages unanswered for RTO
frames the channel resends from the oldest, and once the oldest has been resent RETRYMAX times fails instead: the
failure is counted and signalled, firmware's request ends with status 10 and the channel resets; a reset drops the
messages sent (log 66's choice), so that the words of a bank among them are to be written again, and the discovery
of the tile, and when the tile has answered it numbering restarts from zero and, in DISCOVER, the reads of the tile
begin; a firmware write of a register the quay owns, or any request while one is under way, ends at once with status
8, another is posted, and one that waits 256 frames ends with status 9. -/
def Obligations.TheMessageChannel : Prop :=
  (∀ (q : Fin 32) (s : State), (s.lane q.val).chan.expired (s.fgi F.QY_TCHCFG_RTO q.val) = true →
    (s.lane q.val).chan.resends < Nat.max 1 (s.fgi F.QY_TCHCFG_RETRYMAX q.val) →
    exec (.channelRetransmitTimeout q) s = .next { s with lanes := setAt s.lanes q.val { s.lane q.val with chan := { (s.lane q.val).chan with again := some 0, timer := 0 } } }) ∧
  (∀ (q : Fin 32) (s : State), (s.lane q.val).chan.expired (s.fgi F.QY_TCHCFG_RTO q.val) = true →
    Nat.max 1 (s.fgi F.QY_TCHCFG_RETRYMAX q.val) ≤ (s.lane q.val).chan.resends →
    ∃ t, exec (.channelRetryFail q) s = .next t ∧
      t.fgi F.QY_TCHSTAT_FAIL q.val = 1 ∧ t.pend (64 + q.val) = true ∧
      t.fgi F.QY_TCHFAIL q.val = Nat.min (s.fgi F.QY_TCHFAIL q.val + 1) (2 ^ 32 - 1) ∧
      (t.lane q.val).chan.resetting = true ∧ (t.lane q.val).chan.out = [] ∧ (t.lane q.val).ident = [] ∧
      ((s.lane q.val).req.isSome = true → t.fgi F.QY_TRSP_DONE q.val = 1 ∧ t.fgi F.QY_TRSP_STATUS q.val = 10)) ∧
  (∀ (q : Fin 32) (s : State),
    exec (.tchctrlReset q) s = .next { s with lanes := setAt s.lanes q.val { s.lane q.val with
  chan := (s.lane q.val).chan.startReset, ident := [], cfgTags := [], configured := false
  written := (s.lane q.val).chan.unacked.foldl unwritten (s.lane q.val).written } }) ∧
  (∀ (q : Fin 32) (s : State), (s.lane q.val).chan.resetting = true → (s.lane q.val).chan.sawRst = true →
    ∃ t, exec (.channelResetDone q) s = .next t ∧
      (t.lane q.val).chan.resetting = false ∧ (t.lane q.val).chan.nextSeq = 0 ∧ (t.lane q.val).chan.expect = 0 ∧
      (t.lane q.val).chan.waiting = (if s.laneSt q.val = 3 then (s.lane q.val).chan.waiting ++ [.rd (s.lane q.val).tag 0 5]
        else (s.lane q.val).chan.waiting)) ∧
  (∀ (q : Fin 32) (s : State), ∃ t, exec (.treqGo q) s = .next t ∧
      if s.flagi F.QY_TRSP_BUSY q.val = true ∨
          s.flagi F.QY_TREQ_WR q.val = true ∧ quayOwned (genSlots (s.genDecl q.val)) (s.fgi F.QY_TREQ_ADDR q.val) = true then
        t.fgi F.QY_TRSP_DONE q.val = 1 ∧ t.fgi F.QY_TRSP_STATUS q.val = 8 ∧ t.lanes = s.lanes
      else t.fgi F.QY_TRSP_BUSY q.val = 1 ∧
        t.lanes = setAt s.lanes q.val { s.lane q.val with
          tag := ((s.lane q.val).tag + 1) % 256
          chan := (s.lane q.val).chan.post (if s.flagi F.QY_TREQ_WR q.val = true then
              .wr (s.lane q.val).tag (s.fgi F.QY_TREQ_ADDR q.val) [s.fgi F.QY_TDATA_DATA q.val]
            else .rd (s.lane q.val).tag (s.fgi F.QY_TREQ_ADDR q.val) 1)
          req := some ⟨(s.lane q.val).tag, !s.flagi F.QY_TREQ_WR q.val, 0⟩ }) ∧
  (∀ (q : Fin 32) (s : State) (r : TileReq), (s.lane q.val).req = some r → 256 ≤ r.age →
    ∃ t, exec (.treqTimeout q) s = .next t ∧
      t.fgi F.QY_TRSP_BUSY q.val = 0 ∧ t.fgi F.QY_TRSP_DONE q.val = 1 ∧ t.fgi F.QY_TRSP_STATUS q.val = 9 ∧
      (t.lane q.val).req = none)

/-- The statistic clears of the device's other blocks. A write of 1 to a block's STATCLR returns each of its statistics
to its reset value: the Penvar engine, the time bases, the event captures, the mirror, the roles, the calibration,
the thermal unit, the flash port, the interrupt controller, the cranes, the bus matrix, a network port and the
service ports; a write of 1 to DBG.CTRL.STATALL does so for every block, every quay and both network ports. -/
def Obligations.StatisticClearsOfTheDevice : Prop :=
  (∀ (s : State), ∃ t, exec .pveStatclr s = .next t ∧
      ∀ f ∈ [F.PVE_RXCNT, F.PVE_IPDROP, F.PVE_ZLENCNT, F.PVE_MALFCNT, F.PVE_OVLCNT, F.PVE_OPENDROP, F.PVE_SBYDROP,
          F.PVE_STALEDROP, F.PVE_AUTHCNT, F.PVE_REPLAYCNT, F.PVE_DUPCNT, F.PVE_RETRYHIT, F.PVE_STALECNT, F.PVE_CONFCNT,
          F.PVE_ACCCNT], t.fg f = f.reset 0) ∧
  (∀ (s : State), ∃ t, exec .timStatclr s = .next t ∧
      ∀ f ∈ [F.TIM_SRCCNT, F.TIM_HOLDCNT, F.TIM_FARCNT, F.TIM_BCNBAD, F.TIM_PTPDROP], t.fg f = f.reset 0) ∧
  (∀ (s : State), ∃ t, exec .evtStatclr s = .next t ∧
      ∀ n : Fin 4, t.fgi F.EVT_LOSTn n.val = F.EVT_LOSTn.reset n.val) ∧
  (∀ (s : State), ∃ t, exec .mirStatclr s = .next t ∧
      ∀ f ∈ [F.MIR_TALLYCNT, F.MIR_TALLYMIS, F.MIR_EPCOMMIT, F.MIR_EPDISCARD, F.MIR_RECLATE, F.MIR_CRC0, F.MIR_CRC1,
          F.MIR_RETX], t.fg f = f.reset 0) ∧
  (∀ (s : State), ∃ t, exec .rolStatclr s = .next t ∧
      ∀ f ∈ [F.ROL_TAKECNT, F.ROL_SWAPCNT, F.ROL_HBTMISS, F.ROL_MIRMISS, F.ROL_DUALCNT, F.ROL_FIREMISS],
        t.fg f = f.reset 0) ∧
  (∀ (s : State), ∃ t, exec .calStatclr s = .next t ∧
      ∀ f ∈ [F.CAL_SWEEPCNT, F.CAL_ABANDCNT, F.CAL_ACCCNT, F.CAL_REJCNT, F.CAL_DISAGREE, F.CAL_STORECNT,
          F.CAL_STOREFAIL], t.fg f = f.reset 0) ∧
  (∀ (s : State), ∃ t, exec .tmpStatclr s = .next t ∧
      ∀ f ∈ [F.TMP_WRREF, F.TMP_WARNCNT, F.TMP_BANDCNT], t.fg f = f.reset 0) ∧
  (∀ (s : State), ∃ t, exec .xspStatclr s = .next t ∧
      ∀ f ∈ [F.XSP_OPCNT, F.XSP_ERRCNT], t.fg f = f.reset 0) ∧
  (∀ (s : State), ∃ t, exec .icuStatclr s = .next t ∧
      ∀ f ∈ [F.ICU_SPUR, F.ICU_LOSTCNT], t.fg f = f.reset 0) ∧
  (∀ (s : State), ∃ t, exec .crnStatclr s = .next t ∧
      ∀ f ∈ [F.CRN_XFERCNT, F.CRN_ERRCNT], t.fg f = f.reset 0) ∧
  (∀ (s : State), ∃ t, exec .mtxStatclr s = .next t ∧
      (∀ f ∈ [F.MTX_ERRCNT, F.MTX_ECCCOR, F.MTX_ECCUNC, F.MTX_RSTCNT], t.fg f = f.reset 0) ∧
      (∀ m : Fin 11, t.fgi F.MTX_WAITHWMm_CYCLES m.val = F.MTX_WAITHWMm_CYCLES.reset m.val)) ∧
  (∀ (p : Fin 2) (s : State), ∃ t, exec (.netStatclr p) s = .next t ∧
      ∀ f ∈ [F.NET_RXFRM, F.NET_TXFRM, F.NET_FCSERR, F.NET_LENERR, F.NET_ADDRDROP, F.NET_VLANDROP, F.NET_CSUMERR,
          F.NET_OTHDROP, F.NET_PRXDROP, F.NET_TXDROP], t.fgi f p.val = f.reset p.val) ∧
  (∀ (s : State), ∃ t, exec .sbiStatclr s = .next t ∧
      ∀ f ∈ [F.SBI_ACCERR, F.SBI_PECERR], t.fg f = f.reset 0) ∧
  (∀ (s : State), ∃ t, exec .dbgStatall s = .next t ∧
      (∀ f ∈ [F.CKG_FRMRNG_MIN, F.CKG_FRMRNG_MAX, F.CKG_ENGHWM_CYCLES, F.CKG_ENGHWM_ENGINE, F.TID_FIRECNT,
          F.TID_FIREREF, F.TID_FIREVOID, F.TID_COLLIDE, F.SCH_ADMCNT, F.SCH_PWRWAIT, F.SCH_TIDEPWR, F.SCH_POLCNT,
          F.SCH_BUSYCNT, F.SCH_GATEDCNT, F.SCH_DENYCNT, F.SCH_VOIDDEN, F.SCH_LATEFLUSH, F.SCH_CMDFLUSH, F.SCH_ADMFULL,
          F.SCH_BALSAT, F.SCH_PHWM_POWER, F.SCH_ADMHWM_ADMIT, F.SCH_ADMHWM_EXAM, F.MAN_ALLOCCNT, F.MAN_DONECNT,
          F.MAN_PARTCNT, F.MAN_VOIDCNT, F.MAN_ZEROCNT, F.MAN_NOROUTECNT, F.MAN_HOLDSKIP, F.MAN_FAILSKIP, F.MAN_OUTSKIP,
          F.MAN_NOSPCNT, F.MOR_SKIPGAP, F.MOR_DARKCNT, F.MOR_CLAMPCNT, F.MOR_FOLDCNT, F.MOR_SETFAIL, F.MOR_PARKCNT,
          F.MOR_BFSAT, F.MOR_ECCCOR, F.SEG_UNDCNT, F.SEG_LATEEND, F.SEG_DEFERCNT, F.SEG_TRUNCCNT, F.SEG_SPLITCNT,
          F.SEG_STEPCAP, F.SEG_FETCHHWM_FETCHES], t.fg f = f.reset 0) ∧
      (∀ f ∈ [F.PVE_RXCNT, F.PVE_IPDROP, F.PVE_ZLENCNT, F.PVE_MALFCNT, F.PVE_OVLCNT, F.PVE_OPENDROP, F.PVE_SBYDROP,
          F.PVE_STALEDROP, F.PVE_AUTHCNT, F.PVE_REPLAYCNT, F.PVE_DUPCNT, F.PVE_RETRYHIT, F.PVE_STALECNT, F.PVE_CONFCNT,
          F.PVE_ACCCNT, F.TIM_SRCCNT, F.TIM_HOLDCNT, F.TIM_FARCNT, F.TIM_BCNBAD, F.TIM_PTPDROP, F.MIR_TALLYCNT,
          F.MIR_TALLYMIS, F.MIR_EPCOMMIT, F.MIR_EPDISCARD, F.MIR_RECLATE, F.MIR_CRC0, F.MIR_CRC1, F.MIR_RETX,
          F.ROL_TAKECNT, F.ROL_SWAPCNT, F.ROL_HBTMISS, F.ROL_MIRMISS, F.ROL_DUALCNT, F.ROL_FIREMISS, F.CAL_SWEEPCNT,
          F.CAL_ABANDCNT, F.CAL_ACCCNT, F.CAL_REJCNT, F.CAL_DISAGREE, F.CAL_STORECNT, F.CAL_STOREFAIL, F.TMP_WRREF,
          F.TMP_WARNCNT, F.TMP_BANDCNT, F.XSP_OPCNT, F.XSP_ERRCNT, F.ICU_SPUR, F.ICU_LOSTCNT, F.CRN_XFERCNT,
          F.CRN_ERRCNT, F.MTX_ERRCNT, F.MTX_ECCCOR, F.MTX_ECCUNC, F.MTX_RSTCNT, F.SBI_ACCERR, F.SBI_PECERR],
        t.fg f = f.reset 0) ∧
      (∀ q : Fin 32, ∀ f ∈ [F.CKG_OVRCNTq, F.QY_DRVSAT, F.QY_RNGSAT, F.QY_MODOVL, F.QY_SYNCERR, F.QY_UCRCCNT,
          F.QY_UFNERR, F.QY_ULATE, F.QY_DCRCCNT, F.QY_ULOSSCNT, F.QY_TRAINCNT, F.QY_HOLDCNT, F.QY_ARRIVE_WORST,
          F.QY_TRETX, F.QY_TMALF, F.QY_TCHFAIL, F.QY_TEVCNT], t.fgi f q.val = f.reset q.val) ∧
      (∀ q : Fin 64, ∀ f ∈ [F.SCH_QHWM_DEPTH, F.SCH_QLATHWM_VALUE, F.SCH_QADM_VALUE], t.fgi f q.val = f.reset q.val) ∧
      (∀ n : Fin 4, t.fgi F.EVT_LOSTn n.val = F.EVT_LOSTn.reset n.val) ∧
      (∀ m : Fin 11, t.fgi F.MTX_WAITHWMm_CYCLES m.val = F.MTX_WAITHWMm_CYCLES.reset m.val) ∧
      (∀ p : Fin 2, ∀ f ∈ [F.NET_RXFRM, F.NET_TXFRM, F.NET_FCSERR, F.NET_LENERR, F.NET_ADDRDROP, F.NET_VLANDROP,
          F.NET_CSUMERR, F.NET_OTHDROP, F.NET_PRXDROP, F.NET_TXDROP], t.fgi f p.val = f.reset p.val))

/-- The loss of the reference or of a PLL, the thermal limits, and the ways into and out of SAFE. A reference window of
85 to 115 edges sets REFOK, and two others in a row clear it, set REFLOSS and take a device that is up to SAFE with
the cause kept; so does a loss of lock in PLL0 or PLL1, while that of PLL2 takes the network ports down only; a
write of DBG.CTRL.SAFE is kept for the tick, and a thermal cause that is due takes the device to SAFE at its tick; a
shutdown comparator sends the device to OFF with SHUTDN and THERM set and holds it there until all have released
(their release only ends the hold, log 16); that a write of DBG.CTRL.SAFE is logged at the write is log 39's
reading, and that the monitor's windows need VDDAON alone log 57's; an automatic restart leads to OFF with the
restart counted, and ten minutes of service clear the count. -/
def Obligations.ClockFailureShutdownAndRestart : Prop :=
  (∀ (edges : Nat) (s : State), s.boot.supplies.getD 2 false = true → 85 ≤ edges → edges ≤ 115 →
    ∃ t, exec (.referenceWindow edges) s = .next t ∧
      t.fg F.CKG_REFMON = edges ∧ t.fg F.CKG_PLLSTAT_REFOK = 1 ∧ t.boot.refOut = false ∧ t.dev = s.dev) ∧
  (∀ (edges : Nat) (s : State), s.boot.supplies.getD 2 false = true → (edges < 85 ∨ 115 < edges) →
    ∃ t, exec (.referenceWindow edges) s = .next t ∧
      t.boot.refOut = true ∧
      (s.boot.refOut = true → t.fg F.CKG_PLLSTAT_REFOK = 0 ∧ t.fg F.CKG_PLLSTAT_REFLOSS = 1) ∧
      (s.boot.refOut = true → s.up = true → t.dev = .safe ∧ t.auth = false ∧
        t.fg F.DBG_LASTSAFE_CODE = 0x1001 ∧ t.mir.hbtOut = false ∧ t.mir.actOut = false) ∧
      (s.boot.refOut = false ∨ s.up = false → t.dev = s.dev) ∧
      (s.boot.refOut = false → t.fg F.CKG_PLLSTAT_REFOK = s.fg F.CKG_PLLSTAT_REFOK)) ∧
  (∀ (p : Fin 3) (s : State), s.flag (pllFlds p.val).1 = true → ∃ t, exec (.pllLossOfLock p) s = .next t ∧
      t.fg (pllFlds p.val).1 = 0 ∧ t.fg (pllFlds p.val).2 = 1 ∧
      (p.val = 2 → t.dev = s.dev ∧ (s.up = true → t.flagi F.NET_STAT_LINK 0 = false ∧ t.flagi F.NET_STAT_LINK 1 = false)) ∧
      (p.val < 2 → s.up = true → t.dev = .safe ∧ t.auth = false ∧ t.fg F.DBG_LASTSAFE_CODE = 0x1002 ∧
        t.mir.hbtOut = false ∧ t.mir.actOut = false)) ∧
  (∀ (s : State), s.clocked = true → ∃ t, exec .dbgSafe s = .next t ∧
      t.dev = s.dev ∧ (t.port.safe.due.any fun x => x.code == 0x9003) = true ∧
      t.fg F.DBG_FLTSTAT_CLASS = s.fg F.DBG_FLTSTAT_CLASS ||| 512) ∧
  (∀ (s : State), s.tripDue = true → s.clocked = true → s.flag F.CKG_PLLSTAT_LOCK0 = true →
    ∃ t, exec .thermalTrip s = .next t ∧
      t.dev = .safe ∧ t.auth = false ∧ t.frame = s.coming ∧ t.port.safe.due = [] ∧
      ((s.port.safe.due.any fun x => x.code == 0x2004 || x.code == 0x2002) = true → t.fg F.TMP_AONSTAT_TRIPPED = 1) ∧ t.time.ppsOut = false) ∧
  (∀ (s : State), s.boot.supplies.getD 2 false = true → ∃ t, exec .thermalShutdown s = .next t ∧
      t.dev = .off ∧ t.auth = false ∧ t.fg F.TMP_AONSTAT_SHUTDN = 1 ∧ t.fg F.SYS_RSTCAUSE_THERM = 1 ∧ t.cal.shut = true) ∧
  (∀ (s : State), exec .shutdownRelease s = .next { s with cal := { s.cal with shut := false } }) ∧
  (∀ (s : State), s.dev = .safe → s.flag F.DBG_SAFECFG_AUTO = true → s.port.safe.bootFail = false →
    s.safeCleared = true → s.fg F.DBG_LASTSAFE_RESTARTS < Nat.max 1 (s.fg F.DBG_SAFECFG_MAXR) →
    s.boot.supplies.getD 2 false = true → ∃ t, exec .safeAutoRestart s = .next t ∧
      t.dev = .off ∧ t.fg F.SYS_RSTCAUSE_SOFT = 1 ∧ t.fg F.DBG_LASTSAFE_AUTO = 1 ∧
      t.fg F.DBG_LASTSAFE_RESTARTS = s.fg F.DBG_LASTSAFE_RESTARTS + 1 ∧
      t.fg F.DBG_LASTSAFE_CODE = s.fg F.DBG_LASTSAFE_CODE) ∧
  (∀ (s : State) (b : Nat), s.port.safe.upSince = some b → 600000000000 * 2 ^ 32 ≤ (s.tb 0 + tbMod - b) % tbMod →
    ∃ t, exec .restartCountReset s = .next t ∧
      t.fg F.DBG_LASTSAFE_RESTARTS = 0 ∧ t.dev = s.dev)

/-- Firmware's entries of the fault log, the health report and the random source. A PUT with a code of firmware's writes
the newest entry, or adds to its REPEAT, and with a severity of 1 or more sets its class bit; another code only sets
PUTERR; a second that ends closes a report of 160 bytes and numbers it, which is firmware's work that the standard
firmware's policy does here (log 20, log 56); a health failure of the random source shows in RNGFAIL. -/
def Obligations.FaultLogAndHealthReport : Prop :=
  (∀ (s : State), s.fg F.DBG_FLTPUT0_CODE < 0xF000 → exec .dbgPut s = .next (s.fs F.DBG_FLTSTAT_PUTERR 1)) ∧
  (∀ (s : State), 0xF000 ≤ s.fg F.DBG_FLTPUT0_CODE → s.log.started = true → ∃ t, exec .dbgPut s = .next t ∧
      (∃ e r, t.log.entries = e :: r ∧ e.code = s.fg F.DBG_FLTPUT0_CODE ∧ e.index = s.fg F.DBG_FLTPUT1_INDEX ∧
        (e.rep = 0 → e.sev = Nat.min 2 (s.fg F.DBG_FLTPUT0_SEV) ∧ e.detail = s.fg F.DBG_FLTPUT1_DETAIL ∧ e.frame = s.frame) ∧
        (0 < e.rep → t.log.entries.length = s.log.entries.length)) ∧
      (1 ≤ s.fg F.DBG_FLTPUT0_SEV → t.fg F.DBG_FLTSTAT_CLASS = s.fg F.DBG_FLTSTAT_CLASS ||| 32768)) ∧
  (∀ (tests : List SelfStep) (s : State), s.up = true → s.time64 / 1000000000 ≠ s.port.health.second →
    ∃ t, exec (.healthReportClose tests) s = .next t ∧
      t.port.health.report.length = 160 ∧ t.port.health.seq = add32 s.port.health.seq 1 ∧
      t.port.health.second = s.time64 / 1000000000 ∧ t.port.health.alarms = 0 ∧
      t.port.health.cleared = List.replicate 8 false) ∧
  (∀ (s : State), exec .rngHealthFail s = .next (s.fs F.PVE_STAT_RNGFAIL 1))

/-- How a session opens and closes. An authentic OPEN waits in the queue of firmware; ACCEPT makes a HALF session of the
selected index under a new generation and answers with the nonce and the timers, REFUSE answers BUSY or DENIED, and
either without an OPEN is an error; a CLOSE of the host, of firmware, or of a timer frees the session, its
generation kept. -/
def Obligations.SessionsOpenAndClose : Prop :=
  (∀ (d : Dgram) (r : Nat) (s : State), s.hears d = true → beAt d.payload 1 1 = 1 → s.decides s.frame = true →
    (msgOf d.payload).body.length = 20 → s.pen.openMs < Nat.max 1 (s.fg F.PVE_OPENLIM_RATE) → s.pen.authMs < 2000 →
    s.requester (beAt (msgOf d.payload).body 0 4) = some r → s.mayOpen r (msgOf d.payload).v2 = true →
    tagOk (s.openKey r) d.payload = true → s.pen.openq.length < 16 → ∃ t, exec (.openMsg d) s = .next t ∧
      t.pen.openq = s.pen.openq ++ [⟨r, (msgOf d.payload).v2, (msgOf d.payload).body.drop 4, (msgOf d.payload).reqid,
        (msgOf d.payload).rgen, d.peer, s.frame⟩] ∧ t.pend 12 = true ∧ t.pen.tx = s.pen.tx ∧ t.pen.sess = s.pen.sess) ∧
  (∀ (d : Dgram) (s : State), s.accepts d 2 = true → ∃ t, exec (.closeMsg d) s = .next t ∧
      let i := (msgOf d.payload).sidx;
      (t.sess i).st = 0 ∧ (t.sess i).sgen = (s.sess i).sgen ∧ (t.sess i).khd = [] ∧ (t.sess i).stages = [] ∧
      t.pen.tx = s.pen.tx ++ [s.replyTo d (.ok [])] ∧ t.pend 13 = true) ∧
  (∀ (s : State) (o : OpenReq) (r : List OpenReq), s.pen.openq = o :: r → s.flag F.PVE_STAT_RNGFAIL = false →
    (s.sess (s.fg F.PVE_SSEL_SESSION)).st = 0 → s.flagi F.NET_STAT_LINK o.peer.net = true →
    ∃ t, exec .scmdAccept s = .next t ∧
      let i := s.fg F.PVE_SSEL_SESSION;
      let g := (s.sess i).sgen % 65535 + 1;
      let nd := beBytes 16 (Config.entropy s.fresh).toNat;
      t.pen.openq = r ∧ (t.sess i).st = 1 ∧ (t.sess i).v2 = o.v2 ∧ (t.sess i).rq = o.rq ∧ (t.sess i).sgen = g ∧
      (t.sess i).peer = o.peer ∧ (t.sess i).timer = s.frame ∧ (t.sess i).h = 0 ∧ (t.sess i).tx = 1 ∧
      (t.sess i).khd = (sessKeys s o i g nd).take 32 ∧ (t.sess i).kdh = (sessKeys s o i g nd).drop 32 ∧
      t.pen.tx = s.pen.tx ++ [⟨o.peer, tagged ((sessKeys s o i g nd).drop 32) (msgBytes o.v2 1 i 1 g 1 o.reqid o.rgen 0
        (nd ++ beBytes 2 (s.fg F.PVE_TCFG_IDLE) ++ beBytes 2 (s.fg F.PVE_TCFG_HALFTMO)))⟩] ∧
      t.fg F.PVE_ACCCNT = Nat.min (s.fg F.PVE_ACCCNT + 1) (2 ^ 32 - 1) ∧ t.fresh = s.fresh + 1) ∧
  (∀ (s : State), s.pen.openq = [] ∨ s.flag F.PVE_STAT_RNGFAIL = true ∨ (s.sess (s.fg F.PVE_SSEL_SESSION)).st ≠ 0 →
    exec .scmdAccept s = .next (s.fs F.PVE_STAT_CMDERR 1)) ∧
  (∀ (refcode : Fin 2) (s : State) (o : OpenReq) (r : List OpenReq), s.pen.openq = o :: r →
    s.flagi F.NET_STAT_LINK o.peer.net = true → ∃ t, exec (.scmdRefuse refcode) s = .next t ∧
      t.pen.openq = r ∧ t.pen.sess = s.pen.sess ∧ t.pen.tx = s.pen.tx ++ [⟨o.peer, tagged (s.openKey o.rq)
        (msgBytes o.v2 1 0 1 0 0 o.reqid o.rgen (if refcode.val = 1 then 4 else 2) [0, 0, 0, 0])⟩]) ∧
  (∀ (refcode : Fin 2) (s : State), s.pen.openq = [] →
    exec (.scmdRefuse refcode) s = .next ((s.fs F.PVE_SCMD_REFCODE refcode.val).fs F.PVE_STAT_CMDERR 1)) ∧
  (∀ (s : State), (s.sess (s.fg F.PVE_SSEL_SESSION)).st ≠ 0 → ∃ t, exec .scmdClose s = .next t ∧
      t.sess (s.fg F.PVE_SSEL_SESSION) = { Sess.init with sgen := (s.sess (s.fg F.PVE_SSEL_SESSION)).sgen } ∧
      t.pen.tx = s.pen.tx ∧ t.regs = s.regs) ∧
  (∀ (i : Fin 256) (s : State), s.holds = true → (s.sess i.val).st = 1 → s.coming % 1000 = 0 →
    1000 * Nat.max 1 (s.fg F.PVE_TCFG_HALFTMO) ≤ sub32 s.coming (s.sess i.val).timer →
    ∃ t, exec (.halfTimeout i) s = .next t ∧
      t.sess i.val = { Sess.init with sgen := (s.sess i.val).sgen } ∧ t.pend 13 = true ∧ t.pen.tx = s.pen.tx) ∧
  (∀ (i : Fin 256) (s : State), s.holds = true → (s.sess i.val).st = 2 → s.fg F.PVE_TCFG_IDLE ≠ 0 →
    s.coming % 1000 = 0 → 1000000 * s.fg F.PVE_TCFG_IDLE ≤ sub32 s.coming (s.sess i.val).timer →
    ∃ t, exec (.idleTimeout i) s = .next t ∧
      t.sess i.val = { Sess.init with sgen := (s.sess i.val).sgen } ∧ t.pend 13 = true ∧ t.pen.tx = s.pen.tx)

/-- What an authentic message that reads the device answers. A message accepted on its session makes it OPEN with the
message's SEQ taken, and is answered OK under the next SEQ of the device: a PING with its body, a QUERY with the
device, the time, registers, a slot, a circuit, a queue or the health report, MANIFEST_STATUS with the record; the
time given is that of the frame's first TIME cycle (log 25), and the answers that are firmware's, those of QUERY for
the time and the health report, are the standard policy's (log 20); a type that its version does not offer is
answered MALFORMED with detail 1. -/
def Obligations.QueriesOfAHost : Prop :=
  (∀ (d : Dgram) (s : State), s.accepts d 3 = true → ∃ t, exec (.ping d) s = .next t ∧
      let m := msgOf d.payload;
      t.pen.tx = s.pen.tx ++ [s.replyTo d (.ok m.body)] ∧ (t.sess m.sidx).st = 2 ∧
      (t.sess m.sidx).h = Nat.max (s.sess m.sidx).h m.seq ∧ (t.sess m.sidx).tx = (s.sess m.sidx).tx + 1 ∧
      (t.sess m.sidx).map.testBit ((t.sess m.sidx).h - m.seq) = true ∧ (t.sess m.sidx).peer = d.peer ∧
      (t.sess m.sidx).timer = s.frame ∧ (t.sess m.sidx).fails = 0 ∧
      t.fg F.PVE_RXCNT = Nat.min (s.fg F.PVE_RXCNT + 1) (2 ^ 32 - 1)) ∧
  (∀ (d : Dgram) (s : State), s.accepts d 0x30 = true → beAt d.payload 16 1 = 1 →
    ∃ t, exec (.queryDevice d) s = .next t ∧
      t.pen.tx = s.pen.tx ++ [s.replyTo d (.ok (beBytes 1 s.dev.code ++ beBytes 1 (b2n (!s.fab.small)) ++
        beBytes 1 (s.fg F.SYS_ID_STEP) ++ beBytes 1 (s.fg F.SYS_BOOTSTAT_SLOT) ++ beBytes 1 (s.fg F.SEG_STAT_BAND) ++ [0, 0, 0] ++
        beBytes 4 s.frame))]) ∧
  (∀ (d : Dgram) (s : State), s.accepts d 0x30 = true → beAt d.payload 16 1 = 2 →
    ∃ t, exec (.queryTime d) s = .next t ∧
      t.pen.tx = s.pen.tx ++ [s.replyTo d (.ok (beBytes 4 s.frame ++ beBytes 8 s.time64))] ∧ t.pend 15 = true) ∧
  (∀ (d : Dgram) (s : State), s.accepts d 0x30 = true → beAt d.payload 16 1 = 3 → 1 ≤ beAt d.payload 18 2 →
    beAt d.payload 18 2 ≤ 64 → beAt d.payload 20 4 % 4 = 0 → 0x40000000 ≤ beAt d.payload 20 4 →
    beAt d.payload 20 4 + 4 * (beAt d.payload 18 2 - 1) ≤ 0x403FFFFC → ∃ t, exec (.queryReg d) s = .next t ∧
      let r := regWords (matrixError 6 1 false) (beAt d.payload 18 2) (beAt d.payload 20 4) (s.heard d);
      t.pen.tx = r.2.pen.tx ++ [s.replyTo d (.ok r.1)] ∧ t.regs = r.2.regs) ∧
  (∀ (d : Dgram) (s : State), s.accepts d 0x30 = true → beAt d.payload 16 1 = 4 → beAt d.payload 18 2 < 12288 →
    ∃ t, exec (.querySlot d) s = .next t ∧
      t.pen.tx = s.pen.tx ++ [s.replyTo d (.ok (slotBody s (beAt d.payload 18 2)))]) ∧
  (∀ (d : Dgram) (s : State), s.accepts d 0x30 = true → beAt d.payload 16 1 = 5 → beAt d.payload 18 2 < 4096 →
    ∃ t, exec (.queryCircuit d) s = .next t ∧
      let c := s.circuit (beAt d.payload 18 2);
      t.pen.tx = s.pen.tx ++ [s.replyTo d (.ok (beBytes 1 c.st ++ [0] ++ beBytes 2 (if c.st = 1 then c.manifest else 0)))]) ∧
  (∀ (d : Dgram) (s : State), s.accepts d 0x30 = true → beAt d.payload 16 1 = 6 → beAt d.payload 18 2 < 64 →
    ∃ t, exec (.queryQueue d) s = .next t ∧
      let q := s.que (beAt d.payload 18 2);
      t.pen.tx = s.pen.tx ++ [s.replyTo d (.ok (beBytes 2 q.recs.length ++ beBytes 1 q.wait ++ [0] ++
        beBytes 8 (unsgn 64 q.bal)))]) ∧
  (∀ (d : Dgram) (s : State), s.accepts d 0x30 = true → beAt d.payload 16 1 = 7 →
    ∃ t, exec (.queryHealth d) s = .next t ∧
      t.pen.tx = s.pen.tx ++ [s.replyTo d (.ok s.port.health.report)] ∧ t.pend 15 = true) ∧
  (∀ (d : Dgram) (r : Nat) (s : State), s.accepts d 0x31 = true →
    (s.execRec (beAt d.payload 16 4)).toOption = some r → beAt d.payload 22 2 ≤ 256 →
    ∃ t, exec (.manifestStatus d) s = .next t ∧
      let first := beAt d.payload 20 2;
      let k := Nat.min (beAt d.payload 22 2) (((s.xrec r).entries.length + 15) / 16 - first);
      t.pen.tx = s.pen.tx ++ [s.replyTo d (.ok (beFields [4, 2, 1, 1, 4, 4, 4, 4, 2, 2, 2, 2] (recBytes s r) ++ beBytes 2 first ++
        beBytes 2 k ++ (List.range k).flatMap fun j => (List.range 4).map fun b => bmpAt s r (4 * (first + j) + (3 - b))))]) ∧
  (∀ (d : Dgram) (s : State), s.admits d = true → isUnknown d.payload = true →
    ∃ t, exec (.penvarUnknownType d) s = .next t ∧
      t.pen.tx = s.pen.tx ++ [s.replyTo d (.mal 1)])

/-- What a new request of a host that changes the device does. A CACHED request that takes an entry of the reply cache
is carried out once, answered OK, and its entry is COMPLETE: a LOAD stores its bytes under its handle, a COMMIT of a
whole tide table puts it into the shadow and frees the handle, a DISCARD frees it, an APPLY makes a record, a
WITHDRAW voids one that waits, a TIDECTL arms, cancels or stops the tide tables, a SLOT_CONTROL waits for the tick,
and a SUBSCRIBE sets the mask of events (the answers that R312 gives to firmware are the standard policy's, log 20);
in a pair with the mirror link up the entry stays BUSY and the reply waits, the entry and with a COMMIT the object,
which is in force from the frame that the reply names (log 22), are sent to the partner, and the reply goes out when
the partner has acknowledged the last cell of that message. -/
def Obligations.ChangesByAHost : Prop :=
  (∀ (d : Dgram) (k a : Nat) (s : State), s.takes d 0x10 k = true → beAt d.payload 17 1 < 8 →
    (beAt d.payload 18 1).testBit 0 = true → 1 ≤ beAt d.payload 16 1 → beAt d.payload 16 1 ≤ 5 →
    posOk (beAt d.payload 16 1) (beAt d.payload 19 1) (beAt d.payload 20 2) = true → 32 ≤ beAt d.payload 24 4 →
    beAt d.payload 24 4 ≤ 262144 → beAt d.payload 28 4 % 32 = 0 → d.payload.length % 32 = 16 → 48 < d.payload.length →
    beAt d.payload 28 4 + (d.payload.length - 48) ≤ beAt d.payload 24 4 →
    (setStage (msgOf d.payload).sidx (beAt d.payload 17 1) none (s.taken d k)).poolFit (beAt d.payload 24 4) = some a →
    ∃ t, exec (.load d) s = .next t ∧
      let b := (msgOf d.payload).body;
      let i := (msgOf d.payload).sidx;
      (t.sess i).stage (beAt b 1 1) = some ⟨beAt b 0 1, beAt b 3 1, beAt b 4 2, beAt b 8 4, a,
        (List.range ((b.length - 16) / 32)).map (beAt b 12 4 / 32 + ·)⟩ ∧
      t.memBytes (a + beAt b 12 4) (b.length - 16) = b.drop 16 ∧
      t.pen.tx = s.pen.tx ++ [s.replyTo d (.ok (beBytes 4 (b.length - 16)))] ∧
      (tget CEntry.init (t.sess i).cache k).st = .complete) ∧
  (∀ (d : Dgram) (k : Nat) (g : Stage) (x : TideTab) (s : State), s.takes d 0x11 k = true → beAt d.payload 16 1 < 8 →
    (s.sess (msgOf d.payload).sidx).stage (beAt d.payload 16 1) = some g → g.received = g.total → g.obj = 3 →
    tideOf s (s.memBytes g.base g.total) = some x → s.tide.pstart = none → s.commitWaits = false →
    s.pen.commits = [] → ∃ t, exec (.commit d) s = .next t ∧
      t.tide.tabs = setAt s.tide.tabs s.tide.shadow x ∧
      ((t.sess (msgOf d.payload).sidx).stage (beAt d.payload 16 1)).isNone = true ∧
      t.pen.tx = s.pen.tx ++ [s.replyTo d (.ok (beBytes 4 s.frame))] ∧
      (tget CEntry.init (t.sess (msgOf d.payload).sidx).cache k).st = .complete) ∧
  (∀ (d : Dgram) (k : Nat) (s : State), s.takes d 0x12 k = true → beAt d.payload 16 1 < 8 →
    ∃ t, exec (.discard d) s = .next t ∧
      ((t.sess (msgOf d.payload).sidx).stage (beAt d.payload 16 1)).isNone = true ∧
      t.pen.tx = s.pen.tx ++ [s.replyTo d (.ok [])] ∧
      (tget CEntry.init (t.sess (msgOf d.payload).sidx).cache k).st = .complete) ∧
  (∀ (d : Dgram) (k r f : Nat) (s : State), s.takes d 0x20 k = true →
    f = (if (beAt d.payload 18 1).testBit 0 = true then add32 s.frame 3 else beAt d.payload 20 4) →
    inArmWindow s f = true →
    (applyRequest (msgOf d.payload).sidx (beAt d.payload 16 2 % 4096) f (s.taken d k)).1 = .ok r →
    ∃ t, exec (.apply d) s = .next t ∧
      let u := (applyRequest (msgOf d.payload).sidx (beAt d.payload 16 2 % 4096) f (s.taken d k)).2;
      t.exec = u.exec ∧ t.sched = u.sched ∧ (t.xrec r).st = .queued ∧ (t.xrec r).reqFrame = f ∧
      (t.xrec r).source = s.fgi F.SCH_SMAPs_QUEUE (msgOf d.payload).sidx ∧
      t.pen.tx = s.pen.tx ++ [s.replyTo d (.ok (beBytes 4 ((u.xrec r).execId r) ++ beBytes 4 f))]) ∧
  (∀ (d : Dgram) (k r : Nat) (s : State), s.takes d 0x21 k = true →
    (s.execRec (beAt d.payload 16 4)).toOption = some r → (s.xrec r).source = s.queueOf (msgOf d.payload).sidx →
    (s.xrec r).source < 64 → (s.xrec r).admitted = false → (s.xrec r).isOpen = true →
    ∃ t, exec (.withdraw d) s = .next t ∧
      (t.xrec r).st = .void ∧ (t.xrec r).cause = 1 ∧ (t.xrec r).fin = s.frame ∧
      (∀ q : Fin 64, (t.que q.val).recs = (s.que q.val).recs.filter fun x => x ≠ r) ∧
      t.pen.tx = s.pen.tx ++ [s.replyTo d (.ok [])]) ∧
  (∀ (d : Dgram) (k : Nat) (s : State), s.takes d 0x22 k = true → beAt d.payload 16 1 = 1 → s.tide.pstart = none →
    (tideArm (s.taken d k)).tide.pstart.isSome = true → ∃ t, exec (.tidectlArm d) s = .next t ∧
      let u := tideArm (s.taken d k);
      t.tide = u.tide ∧ t.pen.tx = s.pen.tx ++ [s.replyTo d (.ok (beBytes 4 (u.fg F.TID_PSTART_FRAME) ++
        beBytes 4 (u.fg F.TID_LATEN_N)))]) ∧
  (∀ (d : Dgram) (k p : Nat) (s : State), s.takes d 0x22 k = true → beAt d.payload 16 1 = 2 → s.tide.pstart = some p →
    later (sub32 p 3) s.frame = true → ∃ t, exec (.tidectlCancel d) s = .next t ∧
      t.tide = { s.tide with pstart := none } ∧ t.pen.tx = s.pen.tx ++ [s.replyTo d (.ok (List.replicate 8 0))]) ∧
  (∀ (d : Dgram) (k : Nat) (s : State), s.takes d 0x22 k = true → beAt d.payload 16 1 = 3 → s.tide.pstart = none →
    ∃ t, exec (.tidectlStop d) s = .next t ∧
      t.tide = (tideStop s).tide ∧ t.pen.tx = s.pen.tx ++ [s.replyTo d (.ok (List.replicate 8 0))]) ∧
  (∀ (d : Dgram) (k : Nat) (s : State), s.takes d 0x32 k = true → beAt d.payload 16 1 = 1 → 1 ≤ beAt d.payload 18 2 →
    beAt d.payload 18 2 ≤ 64 → ownerLegal (beAt d.payload 17 1) = true → hostMine s d (beAt d.payload 17 1) = true →
    hostMay s d = true → ∃ t, exec (.slotControlOwner d) s = .next t ∧
      t.pen.slotCtl = s.pen.slotCtl ++ [⟨1, beAt d.payload 17 1, hostSlots d⟩] ∧
      t.pen.tx = s.pen.tx ++ [s.replyTo d (.ok [])]) ∧
  (∀ (d : Dgram) (k : Nat) (s : State), s.takes d 0x32 k = true → beAt d.payload 16 1 = 2 → 1 ≤ beAt d.payload 18 2 →
    beAt d.payload 18 2 ≤ 64 → hostMay s d = true → ∃ t, exec (.slotControlFailset d) s = .next t ∧
      t.pen.slotCtl = s.pen.slotCtl ++ [⟨2, beAt d.payload 17 1, hostSlots d⟩] ∧
      t.pen.tx = s.pen.tx ++ [s.replyTo d (.ok [])]) ∧
  (∀ (d : Dgram) (k : Nat) (s : State), s.takes d 0x32 k = true → beAt d.payload 16 1 = 3 → 1 ≤ beAt d.payload 18 2 →
    beAt d.payload 18 2 ≤ 64 → hostMay s d = true → ∃ t, exec (.slotControlFailclr d) s = .next t ∧
      t.pen.slotCtl = s.pen.slotCtl ++ [⟨3, beAt d.payload 17 1, hostSlots d⟩] ∧
      t.pen.tx = s.pen.tx ++ [s.replyTo d (.ok [])]) ∧
  (∀ (d : Dgram) (k : Nat) (s : State), s.takes d 0x32 k = true → beAt d.payload 16 1 = 4 → 1 ≤ beAt d.payload 18 2 →
    beAt d.payload 18 2 ≤ 64 → ((hostSlots d).all fun x => decide (x < 4096)) = true →
    ∃ t, exec (.slotControlClrdown d) s = .next t ∧
      t.pen.slotCtl = s.pen.slotCtl ++ [⟨4, beAt d.payload 17 1, hostSlots d⟩] ∧
      t.pen.tx = s.pen.tx ++ [s.replyTo d (.ok [])]) ∧
  (∀ (d : Dgram) (k : Nat) (s : State), s.takes d 0x40 k = true → ∃ t, exec (.subscribe d) s = .next t ∧
      (t.sess (msgOf d.payload).sidx).mask = (beAt d.payload 16 4) &&& 11 ∧
      t.pen.tx = s.pen.tx ++ [s.replyTo d (.ok (beBytes 4 (beAt d.payload 16 4 &&& 11)))] ∧
      (tget CEntry.init (t.sess (msgOf d.payload).sidx).cache k).st = .complete) ∧
  (∀ (d : Dgram) (k : Nat) (s : State), s.asks d 0x12 k = true → s.mirUp = true → beAt d.payload 16 1 < 8 →
    ∃ t, exec (.discard d) s = .next t ∧
      let i := (msgOf d.payload).sidx;
      let e := tget CEntry.init (t.sess i).cache k;
      let m := MMsg.cache i k (e.finish s.frame s.pen.ord);
      ((t.sess i).stage (beAt d.payload 16 1)).isNone = true ∧ t.pen.tx = s.pen.tx ∧ e.st = .busy ∧
      tagged (s.sess i).kdh e.reply = (s.replyTo d (.ok [])).payload ∧
      t.mir.ackedOut = s.mir.ackedOut.push .acked m ∧
      t.pen.flight = s.pen.flight ++ [⟨i, (s.sess i).sgen, k, (ackedPush m s).1⟩]) ∧
  (∀ (d : Dgram) (k : Nat) (s : State), s.asks d 0x40 k = true → s.mirUp = true →
    ∃ t, exec (.subscribe d) s = .next t ∧
      let i := (msgOf d.payload).sidx;
      let e := tget CEntry.init (t.sess i).cache k;
      (t.sess i).mask = (beAt d.payload 16 4) &&& 11 ∧ t.pen.tx = s.pen.tx ∧ e.st = .busy ∧
      tagged (s.sess i).kdh e.reply = (s.replyTo d (.ok (beBytes 4 (beAt d.payload 16 4 &&& 11)))).payload ∧
      t.mir.ackedOut = s.mir.ackedOut.push .acked (.cache i k (e.finish s.frame s.pen.ord))) ∧
  (∀ (d : Dgram) (k : Nat) (g : Stage) (x : TideTab) (o : Install) (s : State), s.asks d 0x11 k = true →
    s.mirUp = true → beAt d.payload 16 1 < 8 → (s.sess (msgOf d.payload).sidx).stage (beAt d.payload 16 1) = some g →
    g.received = g.total → g.obj = 3 → tideOf s (s.memBytes g.base g.total) = some x → s.tide.pstart = none →
    s.commitWaits = false → s.pen.commits = [] →
    o = ⟨add32 s.frame (s.objFrames ⟨0, .tide s.tide.shadow x, s.memBytes g.base g.total⟩), .tide s.tide.shadow x, s.memBytes g.base g.total⟩ →
    ∃ t, exec (.commit d) s = .next t ∧
      let i := (msgOf d.payload).sidx;
      let e := tget CEntry.init (t.sess i).cache k;
      t.tide = s.tide ∧ t.pen.install = some o ∧ ((t.sess i).stage (beAt d.payload 16 1)).isNone = true ∧ t.pen.tx = s.pen.tx ∧
      e.st = .busy ∧ tagged (s.sess i).kdh e.reply = (s.replyTo d (.ok (beBytes 4 o.frame))).payload ∧
      t.mir.ackedOut = s.mir.ackedOut.push .acked (.object o i k (e.finish s.frame s.pen.ord))) ∧
  (∀ (s : State) (a e : Nat) (l : List (Nat × MMsg)) (p : Flight), s.mir.inbox = (0, .ack a e) :: l →
    s.pen.flight = [p] → s.flagi F.NET_STAT_LINK (s.sess p.sidx).peer.net = true → ∃ t, exec .ack s = .next t ∧
      if ((s.mir.ackedOut.ack a).cells.all fun y => decide (y.cseq ≠ p.cseq)) = true then
        t.pen.flight = [] ∧ (tget CEntry.init (t.sess p.sidx).cache p.ent).st = .complete ∧
        t.pen.tx = s.pen.tx ++ [⟨(s.sess p.sidx).peer, tagged (s.sess p.sidx).kdh
          (tget CEntry.init (s.sess p.sidx).cache p.ent).reply⟩]
      else t.pen = s.pen)

/-- A write of TBnADJHI adds its signed offset to TB1 or TB2. For TB1 and TB2 the base becomes its time plus the signed
42-bit nanosecond offset of ADJHI[9:0] and ADJMID with the fraction ADJLO, modulo 2^32 microseconds, and the other
bases keep theirs; a write for TB0 or TB3 changes nothing. -/
def Obligations.AdjustingATimeBase : Prop :=
  (∀ (n : Fin 4) (v : Word) (s : State), (n.val = 1 ∨ n.val = 2) → s.time.t.length = 4 →
    ∃ t, exec (.tbAdjWrite n v) s = .next t ∧
      (t.tb n.val : Int) = ((s.tb n.val : Int) +
          (v.setWidth 10 ++ BitVec.ofNat 32 (s.fgi F.TIM_TBnADJMID_ADJ n.val) ++
            BitVec.ofNat 32 (s.fgi F.TIM_TBnADJLO_ADJ n.val)).toInt)
        % (4294967296000 * 2 ^ 32) ∧ (∀ m : Fin 4, m ≠ n → t.tb m.val = s.tb m.val)) ∧
  (∀ (n : Fin 4) (v : Word) (s : State), (n.val = 0 ∨ n.val = 3) → exec (.tbAdjWrite n v) s = .next s)

/-- The time bases, PPS and the event captures. An increment within its limits is taken by TB1 or TB2 and one outside
sets INCERR; a read of NS latches FRAC and WRAP of its cycle; TB3 plans its one step by the offset of its source and
the frame counter is loaded after it; PPS_IN captures all four bases, a write of PPSNEXT arms PPS_OUT, which rises
at the first cycle at which it is due, or, due from the start of the frame, at the cycle given (log 67's choice),
and falls at the first at which its width is over; an edge of an event pin that its mode selects is captured, or
counted as lost where four wait. -/
def Obligations.TimeBasesAndCaptures : Prop :=
  (∀ (n : Fin 4) (v : Word) (s : State), (n.val = 1 ∨ n.val = 2) → ∃ t, exec (.tbIncWrite n v) s = .next t ∧
      let inc := v.toNat % 8 * 2 ^ 32 + s.fgi F.TIM_TBnINCLO_INC n.val;
      if 0x3FEF9DB23 ≤ inc ∧ inc ≤ 0x4010624DD then
        (if n.val = 1 then t.time.inc1 = inc ∧ t.time.inc2 = s.time.inc2 else t.time.inc2 = inc ∧ t.time.inc1 = s.time.inc1) ∧
        t.fgi F.TIM_TBnINCHI_INC n.val = v.toNat % 2 ^ 3 ∧ t.fg F.TIM_T3STAT_INCERR = s.fg F.TIM_T3STAT_INCERR
      else t.time = s.time ∧ t.fg F.TIM_T3STAT_INCERR = 1) ∧
  (∀ (n : Fin 4) (cycle : Nat) (s : State), ∃ t, exec (.tbNsReadLatch n cycle) s = .next t ∧
      t.rdata = s.tbAt n.val cycle / 2 ^ 32 % 2 ^ 32 ∧ t.fgi F.TIM_TBnFRAC_VALUE n.val = s.tbAt n.val cycle % 2 ^ 32 ∧
      t.fgi F.TIM_TBnWRAP_VALUE n.val = s.tbAt n.val cycle / 2 ^ 64 % 2 ^ 10 ∧ t.time = s.time) ∧
  (∀ (c : Fin 3) (s : State), s.fg F.TIM_T3CFG_MODE = 1 → s.flag F.TIM_T3STAT_STEPPED = false → s.time.step = .none →
    s.time.sel = 0 → 1 ≤ c.val → s.fg F.TIM_T3CFG_PRI = c.val → s.flagi F.TIM_TBnCTRL_VALID c.val = true →
    ∃ t, exec .tb3Step s = .next t ∧
      t.time.step = .planned (-(tbDiff ((advanceBases s).tb 3) ((advanceBases s).tb c.val))) ∧ t.regs = s.regs ∧
      t.frame = s.frame ∧ t.time.t = s.time.t) ∧
  (∀ (s : State), s.time.step = .running → ∃ t, exec .frameCounterReload s = .next t ∧
      t.frame = usView s.t3Next ∧ t.fg F.TIM_STEPFRM_FRAME = s.frame % 2 ^ 32 ∧
      t.fg F.TIM_STEPDELTA_FRAME = sub32 (usView s.t3Next) (s.frame + 1) ∧ t.fg F.TIM_T3STAT_STEPPED = 1 ∧ t.pend 18 = true ∧
      t.time.step = .loaded) ∧
  (∀ (cycle : Nat) (s : State), s.flag F.TIM_PPSCFG_INEN = true → ∃ t, exec (.ppsInEdge cycle) s = .next t ∧
      (∀ n : Fin 4, t.fgi F.TIM_PPSCAPn_NS n.val = s.tbAt n.val cycle / 2 ^ 32 % 2 ^ 32) ∧
      t.fg F.TIM_PPSSTAT_WRAP = s.tbAt 3 cycle / 2 ^ 64 % 2 ^ 10 ∧ t.fg F.TIM_PPSSTAT_NEW = 1 ∧
      (s.flag F.TIM_PPSSTAT_NEW = true → t.fg F.TIM_PPSSTAT_OVERRUN = 1) ∧ t.pend 19 = true) ∧
  (∀ (v : Word) (s : State), ∃ t, exec (.ppsnextWrite v) s = .next t ∧
      t.fg F.TIM_PPSNEXT_NS = v.toNat ∧ t.fg F.TIM_PPSCFG_ARMED = 1 ∧ t.time = s.time) ∧
  (∀ (cycle : Nat) (s : State), s.up = true → s.ppsDue cycle = true → (s.ppsDue 0 = true ∨ cycle = s.ppsFirst) →
    ∃ t, exec (.ppsOutEdge cycle) s = .next t ∧
      t.time.ppsOut = true ∧ t.fg F.TIM_PPSCFG_ARMED = 0 ∧
      t.time.ppsEnd = (s.tbAt 0 cycle + Nat.max 1 (s.fg F.TIM_PPSCFG_WIDTH) * 1000000 * 2 ^ 32) % tbMod) ∧
  (∀ (cycle : Nat) (s : State), s.ppsOver cycle = true → (cycle = 0 ∨ s.ppsOver (cycle - 1) = false) →
    exec (.ppsOutEnd cycle) s = .next { s with time := { s.time with ppsOut := false } }) ∧
  (∀ (n : Fin 4) (falling : Bool) (cycle : Nat) (s : State),
    (s.fgi F.EVT_CFGn_MODE n.val = 3 ∨ s.fgi F.EVT_CFGn_MODE n.val = (if falling = true then 2 else 1)) →
    ∃ t, exec (.evtCapture n falling cycle) s = .next t ∧
      t.pend 20 = true ∧
      if (s.evtFifo n.val).length < 4 then t.time.evt = setAt s.time.evt n.val (s.evtFifo n.val ++
        [⟨s.frame, s.tbAt 3 cycle % (1000 * 2 ^ 32), falling, s.tbAt 3 cycle / 2 ^ 64⟩])
      else t.time = s.time ∧ t.fgi F.EVT_LOSTn n.val = Nat.min (s.fgi F.EVT_LOSTn n.val + 1) (2 ^ 32 - 1) ∧
        (t.fg F.EVT_STAT_OVERRUN).testBit n.val = true) ∧
  (∀ (n : Fin 4) (s : State),
    exec (.evtPop n) s = .next { s with time := { s.time with evt := setAt s.time.evt n.val (s.evtFifo n.val).tail } }) ∧
  (∀ (cycle : Nat) (s : State), s.tbAt 3 cycle / 2 ^ 64 ≠ s.time.nsWrap → ∃ t, exec (.tb3NsWrap cycle) s = .next t ∧
      t.time = { s.time with nsWrap := s.tbAt 3 cycle / 2 ^ 64 } ∧ t.pend 21 = true)

/-- The beacon's edges. A follower that is aligned takes an edge as a bit of the word, a wide pulse as a one, and once
it has acquired the beacon measures its offset; a leader, which finds the frame of an echo by the words it carries,
adds the round trip of an edge to its mean, or where that would not fit BCNRTT searches the words again; after four
missed edges a follower loses the beacon; the measured buffer delays show in BCNSKEW; a device in the echo position
repeats an edge after its delay, while BCN_OUT may carry one (counting the leader's frames by the rounded distance
of edges, and which frame an echo belongs to, are the model's, log 67). -/
def Obligations.TheBeacon : Prop :=
  (∀ (at100ps width : Nat) (s : State), (s.fg F.TIM_BCNCFG_ROLE = 2 ∨ s.fg F.TIM_BCNCFG_ROLE = 3) →
    s.time.bcn.aligned = true → s.time.bcn.nbits < 63 → ∃ t, exec (.beaconEdgeReceive at100ps width) s = .next t ∧
      t.time.bcn.missed = 0 ∧ t.time.bcn.edgeFrame = add32 s.time.bcn.edgeFrame (s.edgeSteps at100ps) ∧
      t.time.bcn.lastEdge = s.edgeTime at100ps ∧
      t.time.bcn.bits = (s.time.bcn.bits * 2 + (if 18 < width then 1 else 0)) % 2 ^ 64 ∧
      t.time.bcn.nbits = s.time.bcn.nbits + 1 ∧
      (s.flag F.TIM_BCNSTAT_ACQ = true →
        let e := tbDiff ((s.edgeTime at100ps : Int) - ((s.fg F.TIM_BCNSKEW_TIN * 2 ^ 32 / 100 : Nat) : Int))
          (((add32 s.time.bcn.edgeFrame (s.edgeSteps at100ps) * 1000 + bref s) * 2 ^ 32 : Nat) : Int);
        t.time.bcn.offset = e ∧ t.fg F.TIM_BCNOFF_OFFSET = offReg e) ∧
      t.fg F.TIM_BCNSTAT_ACQ = s.fg F.TIM_BCNSTAT_ACQ) ∧
  (∀ (at100ps width : Nat) (s : State), s.fg F.TIM_BCNCFG_ROLE = 1 → s.time.bcn.aligned = true →
    s.time.bcn.nbits < 63 → s.time.bcn.rttCount < 255 → ∃ t, exec (.beaconEdgeReceive at100ps width) s = .next t ∧
      (let x : Int := (s.edgeTime at100ps : Int) - ((s.fg F.TIM_BCNSKEW_TIN * 2 ^ 32 / 100 : Nat) : Int) - ((bref s * 2 ^ 32 : Nat) : Int);
        let y : Int := ((add32 s.time.bcn.edgeFrame (s.edgeSteps at100ps) * 1000 * 2 ^ 32 : Nat) : Int);
        let r : Int := tbDiff x y * 100 / 2 ^ 32 + (s.fg F.TIM_BCNTRACE_TRACE : Int);
        if 0 ≤ r ∧ r < 2 ^ 20 then t.time.bcn.rttSum = s.time.bcn.rttSum + r.toNat ∧ t.time.bcn.rttCount = s.time.bcn.rttCount + 1
        else t.time.bcn.rttSum = s.time.bcn.rttSum ∧ t.time.bcn.rttCount = s.time.bcn.rttCount ∧ t.time.bcn.aligned = false) ∧
      t.regs = s.regs) ∧
  (∀ (s : State), (s.fg F.TIM_BCNCFG_ROLE = 2 ∨ s.fg F.TIM_BCNCFG_ROLE = 3) → 4 ≤ s.time.bcn.missed →
    ∃ t, exec .beaconMiss s = .next t ∧
      t.fg F.TIM_BCNSTAT_MISS = 1 ∧ t.fg F.TIM_BCNSTAT_VALID = 0 ∧ t.fg F.TIM_BCNSTAT_ACQ = 0 ∧ t.time.bcn.good = 0 ∧
      t.time.bcn.aligned = false ∧ t.time.bcn.nbits = 0) ∧
  (∀ (tin tout : BitVec 12) (s : State), ∃ t, exec (.beaconSkewMeasure tin tout) s = .next t ∧
      t.fg F.TIM_BCNSKEW_TIN = tin.toNat ∧ t.fg F.TIM_BCNSKEW_TOUT = tout.toNat ∧ t.time = s.time) ∧
  (∀ (at100ps width : Nat) (s : State), s.beaconMay = true → s.fg F.TIM_BCNCFG_ROLE = 0 →
    s.flag F.TIM_BCNCFG_ECHO = true → exec (.beaconEcho at100ps width) s = .next (s.modBcn fun b =>
      { b with out := some ⟨s.frame, (at100ps + s.fg F.TIM_BCNSKEW_TECHO : Nat), width⟩ })) ∧
  (∀ (at100ps width : Nat) (s : State), s.beaconMay = false → exec (.beaconEcho at100ps width) s = .next s)

/-- The pins of a pair, the failure of the partner, and how authority changes hands. An edge of HBT_IN or ACT_IN is
noted; once MISSLIM frames have gone by without a heartbeat on either path the partner is declared failed, and an
ACTIVE device is then SOLO; a standby whose partner has failed takes over unless ACT_IN is asserted; a holder that
must yield goes to STANDBY; a planned swap is accepted or refused with its reason, dropped by a cancel before frame
W - 8 or by a partner that does not show it at that frame, and at its frame makes a STANDBY device ACTIVE and an
ACTIVE one STANDBY. -/
def Obligations.HeartbeatsAndHandover : Prop :=
  (∀ (s : State),
    exec .hbtInEdge s = .next { s with mir := { s.mir with hbtLevel := !s.mir.hbtLevel, hbtEdge := true } }) ∧
  (∀ (s : State), ∃ t, exec .actInEdge s = .next t ∧
      t.mir.actLevel = !s.mir.actLevel ∧ t.mir.actEdges % 2 = 1 ∧ t.mir.actEdges / 2 = s.mir.actEdges / 2 ∧ t.regs = s.regs) ∧
  (∀ (s : State), s.mir.judged = false → s.mir.seen = true → s.mir.hbtEdge = false → s.mir.mirSeen = false →
    Nat.min 5 (Nat.max 2 (s.fg F.ROL_CFG_MISSLIM)) ≤ s.mir.bothRun + 1 → ∃ t, exec .partnerFailed s = .next t ∧
      t.mir.failed = true ∧ t.mir.seen = false ∧ t.mir.judged = true ∧ t.mir.bothRun = 0 ∧ t.fg F.ROL_ALARM_PARTFAIL = 1 ∧
      t.dev = (if s.dev = .active then .solo else s.dev) ∧ t.fg F.ROL_STAT_HBTOK = 0 ∧ t.fg F.ROL_STAT_MIROK = 0 ∧
      t.fg F.ROL_HBTMISS = Nat.min (s.fg F.ROL_HBTMISS + 1) (2 ^ 32 - 1) ∧
      t.fg F.ROL_MIRMISS = Nat.min (s.fg F.ROL_MIRMISS + 1) (2 ^ 32 - 1)) ∧
  (∀ (s : State), s.dev = .standby → s.mir.failed = true → s.mir.actEdges % 4 = 0 → ∃ t, exec .takeover s = .next t ∧
      t.dev = .solo ∧ t.auth = true ∧ t.fg F.ROL_TKFRM_FRAME = (s.coming + 1) % 2 ^ 32 ∧
      t.fg F.ROL_TAKECNT = Nat.min (s.fg F.ROL_TAKECNT + 1) (2 ^ 32 - 1) ∧ t.fg F.ROL_ALARM_TAKEOVER = 1 ∧
      (s.flag F.ROL_STAT_READY = false → t.fg F.ROL_ALARM_COLDTAKE = 1) ∧ t.mir.epoch = none ∧ t.mir.objs = []) ∧
  (∀ (s : State), s.dev = .standby → s.mir.failed = true → s.mir.actEdges % 4 ≠ 0 → ∃ t, exec .takeover s = .next t ∧
      t.dev = .standby ∧ t.auth = s.auth ∧ t.fg F.ROL_ALARM_ACTLIVE = 1 ∧ t.mir = s.mir) ∧
  (∀ (s : State), s.holds = true → s.mir.yieldDue = true → ∃ t, exec .dualActiveYield s = .next t ∧
      t.dev = .standby ∧ t.auth = false ∧ t.fg F.ROL_STAT_READY = 0 ∧ t.fg F.MIR_STAT_SYNC = 0 ∧ t.fg F.MIR_STAT_JOINED = 0 ∧
      t.mir.yieldDue = false ∧ t.mir.joinWanted = true) ∧
  (∀ (s : State), ∃ t, exec .rolSwap s = .next t ∧
      if s.dev ≠ .active then t.fg F.ROL_STAT_SWREASON = 1 ∧ t.mir = s.mir
      else if s.partnerReady = false then t.fg F.ROL_STAT_SWREASON = 2 ∧ t.mir = s.mir
      else if s.mir.swap.isSome = true then t.fg F.ROL_STAT_SWREASON = 4 ∧ t.mir = s.mir
      else if sub32 (s.fg F.ROL_SWAPFRM_FRAME) s.frame < 16 ∨ 2 ^ 20 < sub32 (s.fg F.ROL_SWAPFRM_FRAME) s.frame then
        t.fg F.ROL_STAT_SWREASON = 3 ∧ t.mir = s.mir
      else t.mir.swap = some ⟨s.fg F.ROL_SWAPFRM_FRAME⟩ ∧ t.regs = s.regs ∧
        t.mir.streamQ = s.mir.streamQ ++ msgCells .stream s.mir.streamOut (.swap (some (s.fg F.ROL_SWAPFRM_FRAME)))) ∧
  (∀ (s : State) (p : SwapPlan), s.mir.swap = some p → later (sub32 p.w 8) s.frame = true →
    ∃ t, exec .rolSwcancel s = .next t ∧
      t.mir.swap = none ∧ t.fg F.ROL_STAT_SWREASON = 6 ∧ t.dev = s.dev) ∧
  (∀ (s : State) (p : SwapPlan), s.mir.swap = some p → s.holds = true → s.coming = sub32 p.w 8 →
    (s.mir.header.all fun x => !x.swpend) = true → ∃ t, exec .swapNoack s = .next t ∧
      t.mir.swap = none ∧ t.fg F.ROL_STAT_SWREASON = 5 ∧ t.dev = s.dev) ∧
  (∀ (s : State) (p : SwapPlan), s.mir.swap = some p → s.coming = p.w → ∃ t, exec .swapAtFrame s = .next t ∧
      t.mir.swap = none ∧
      (s.dev = .standby ∨ s.dev = .active → t.fg F.ROL_SWAPCNT = Nat.min (s.fg F.ROL_SWAPCNT + 1) (2 ^ 32 - 1)) ∧
      (s.dev = .standby → t.dev = .active ∧ t.auth = true ∧ t.fg F.ROL_TKFRM_FRAME = p.w % 2 ^ 32) ∧
      (s.dev = .active → t.dev = .standby ∧ t.auth = false) ∧ (s.dev ≠ .standby → s.dev ≠ .active → t.dev = s.dev ∧ t.auth = s.auth))

/-- What the device does with each message of its partner. The message at the front of the inbox leaves it and has its
effect: a request becomes the record the partner made, an admission or a deferral marks it, a VOID ends it, a late
list changes nothing, a tally is compared with the device's own, a new owner, register value or circuit is taken,
and so are a swap, a session, a cache entry, held codes, a bundle record of the epoch, a state block of a join (one
older than 64 frames is dropped and asked for again), an epoch's start and end and an acknowledgement; a HELLO with
the device's own number keeps its lane down and another names the partner; an object takes effect at its frame. -/
def Obligations.MirrorMessages : Prop :=
  (∀ (s : State) (k r u no src rf : Nat) (police : Bool) (m : Manifest) (l : List (Nat × MMsg)),
    s.mir.inbox = (k, .req r u no src rf police) :: l → s.man no = some m → src < 64 → ∃ t, exec .req s = .next t ∧
      t.mir.inbox = l ∧ (t.xrec r).st = .queued ∧ (t.xrec r).useCnt = u % 2 ^ 22 ∧ (t.xrec r).source = src ∧ (t.xrec r).reqFrame = rf ∧
      (t.que src).recs = (s.que src).recs ++ [r] ∧
      (t.que src).bal = (s.que src).bal - (if police = true then ((m.nent * 1000 : Nat) : Int) else 0) ∧
      t.mir.history = s.mir.history ++ [(s.frame, .req r u no src rf police)]) ∧
  (∀ (s : State) (k r alt no st band : Nat) (m : Manifest) (l : List (Nat × MMsg)),
    s.mir.inbox = (k, .admitted r alt no st band) :: l → s.man no = some m → ∃ t, exec .admitEv s = .next t ∧
      t.mir.inbox = l ∧ (t.xrec r).admitted = true ∧ (t.xrec r).start = st ∧ (t.xrec r).altIdx = alt ∧
      (t.xrec r).manifest = m.number ∧ (t.xrec r).entries.length = m.nent ∧ t.fg F.SEG_STAT_BAND = s.fg F.SEG_STAT_BAND ∧
      (∀ q : Fin 64, r ∉ (t.que q.val).recs)) ∧
  (∀ (s : State) (k r st : Nat) (l : List (Nat × MMsg)), s.mir.inbox = (k, .defer r st) :: l →
    ∃ t, exec .admitEv s = .next t ∧
      t.mir.inbox = l ∧ t.xrec r = { s.xrec r with start := st, deferred := true, waitFrom := some (sub32 st 3) }) ∧
  (∀ (s : State) (k r cause fin : Nat) (l : List (Nat × MMsg)), s.mir.inbox = (k, .voidev r cause fin) :: l →
    ∃ t, exec .voidev s = .next t ∧
      t.mir.inbox = l ∧ (t.xrec r).st = .void ∧ (t.xrec r).cause = cause ∧ (t.xrec r).fin = fin ∧
      (∀ q : Fin 64, r ∉ (t.que q.val).recs) ∧ t.fg F.MAN_VOIDCNT = Nat.min (s.fg F.MAN_VOIDCNT + 1) (2 ^ 32 - 1)) ∧
  (∀ (s : State) (k f : Nat) (bs : List Nat) (l : List (Nat × MMsg)), s.mir.inbox = (k, .late f bs) :: l →
    exec .late s = .next { s with mir := { s.mir with inbox := l } }) ∧
  (∀ (s : State) (k v : Nat) (u : Tally) (l : List (Nat × MMsg)), s.mir.inbox = (k, .tally [(u.b, u.f, v)]) :: l →
    s.mir.theirs = [] → s.mir.own = [u] → u.sv = none → ∃ t, exec .tally s = .next t ∧
      t.mir.inbox = l ∧ t.mir.own = [] ∧ t.mir.theirs = [] ∧
      t.fg F.MIR_TALLYCNT = Nat.min (s.fg F.MIR_TALLYCNT + 1) (2 ^ 32 - 1) ∧
      (if u.v = v then t.fg F.MIR_TALLYMIS = s.fg F.MIR_TALLYMIS else
        t.fg F.MIR_TALLYMIS = Nat.min (s.fg F.MIR_TALLYMIS + 1) (2 ^ 32 - 1) ∧ t.fg F.MIR_FLAGS_TALLYMIS = 1 ∧ (t.bun u.b).synced = false)) ∧
  (∀ (s : State) (k f n o : Nat) (next : Option Nat) (l : List (Nat × MMsg)),
    s.mir.inbox = (k, .config f (.owner n o next)) :: l → ∃ t, exec .config s = .next t ∧
      t.mir.inbox = l ∧ (t.slot n).owner = o ∧ (t.slot n).ownerNext = next) ∧
  (∀ (s : State) (k f a v : Nat) (l : List (Nat × MMsg)), s.mir.inbox = (k, .config f (.reg a v)) :: l →
    ∃ t, exec .config s = .next t ∧
      t.mir.inbox = l ∧ t.regs = tset 0 s.regs a v) ∧
  (∀ (s : State) (k f n : Nat) (c : Circuit) (l : List (Nat × MMsg)),
    s.mir.inbox = (k, .config f (.circuit n c)) :: l → ∃ t, exec .config s = .next t ∧
      t.mir.inbox = l ∧ t.circuit n = c) ∧
  (∀ (s : State) (k : Nat) (w : Option Nat) (l : List (Nat × MMsg)), s.mir.inbox = (k, .swap w) :: l →
    exec .swap s = .next { s with mir := { s.mir with inbox := l, swap := w.map fun n => ⟨n⟩ } }) ∧
  (∀ (s : State) (k i e : Nat) (x : Install) (y : CEntry) (o : ObjWait) (n : Nat) (tab : TideTab) (l : List (Nat × MMsg)),
    s.mir.inbox = (k, .object x i e y) :: l → s.mir.objs = [o] → o.x.obj = .tide n tab → o.sidx < 256 →
    ∃ t, exec .object s = .next t ∧
      t.mir.inbox = l ∧ if notBefore s.frame o.x.frame = true then
        t.mir.objs = [] ∧ t.tide.tabs = (if s.tide.shadow = n ∧ s.tide.pstart = none then setAt s.tide.tabs n tab else s.tide.tabs) ∧ tget CEntry.init (t.sess o.sidx).cache o.ent = o.e
      else t.mir.objs = [o] ∧ t.tide = s.tide ∧ t.pen = s.pen) ∧
  (∀ (s : State) (k i : Nat) (x : Sess) (l : List (Nat × MMsg)), s.mir.inbox = (k, .session i x) :: l →
    ∃ t, exec .session s = .next t ∧
      t.mir.inbox = l ∧ t.sess i = { x with
        cache := if (s.sess i).sgen = x.sgen ∧ x.st ≠ 0 then (s.sess i).cache else []
        stages := [] }) ∧
  (∀ (s : State) (k i e : Nat) (y : CEntry) (l : List (Nat × MMsg)), s.mir.inbox = (k, .cache i e y) :: l → i < 256 →
    ∃ t, exec .cache s = .next t ∧
      t.mir.inbox = l ∧ tget CEntry.init (t.sess i).cache e = y) ∧
  (∀ (s : State) (k b : Nat) (codes : List Int) (l : List (Nat × MMsg)), s.mir.inbox = (k, .holdcode b codes) :: l →
    ∃ t, exec .holdcode s = .next t ∧
      t.mir.inbox = l ∧ tget [] t.mir.held b = codes) ∧
  (∀ (s : State) (k b e f : Nat) (c : BunCopy) (x : Epoch) (l : List (Nat × MMsg)),
    s.mir.inbox = (k, .brec b e f c) :: l → s.mir.epoch = some x → x.no = e → b ∈ x.bundles →
    ∃ t, exec .brec s = .next t ∧
      t.mir.inbox = l ∧ if later s.frame (sub32 (add32 f (2 ^ (s.coef b).k)) 2) = true then
        t.fg F.MIR_RECLATE = Nat.min (s.fg F.MIR_RECLATE + 1) (2 ^ 32 - 1) ∧
        t.mir.epoch = some { x with recs := x.recs ++ [.brec b e f c], fin := none }
      else t.mir.epoch = some { x with
          recs := x.recs ++ [.brec b e f c]
          staged := tset none x.staged b (some ⟨f, c, none, false, false⟩) } ∧ t.regs = s.regs) ∧
  (∀ (s : State) (k e n : Nat) (b : SBlk) (x : Epoch) (l : List (Nat × MMsg)), s.mir.inbox = (k, .sblk e n b) :: l →
    s.mir.epoch = some x → x.no = e → x.join = true → sub32 s.frame n ≤ 64 →
    exec .sblk s = .next { s with mir := { s.mir with inbox := l, epoch := some { x with
  blocks := x.blocks ++ [(n, b)]
  again := x.again.filter fun k => decide (k ≠ b.key) } } }) ∧
  (∀ (s : State) (k e n : Nat) (b : SBlk) (x : Epoch) (l : List (Nat × MMsg)), s.mir.inbox = (k, .sblk e n b) :: l →
    s.mir.epoch = some x → x.no = e → x.join = true → 64 < sub32 s.frame n → ∃ t, exec .sblk s = .next t ∧
      t.mir.inbox = l ∧ t.mir.epoch = some { x with again := x.again ++ [b.key], fin := none } ∧ t.regs = s.regs ∧
      t.mir.epochOut = s.mir.epochOut.push .epoch (.epAgain e true b.key)) ∧
  (∀ (s : State) (k e : Nat) (bs : List Nat) (join : Bool) (l : List (Nat × MMsg)),
    s.mir.inbox = (k, .epStart e bs join) :: l → s.dev = .standby → ∃ t, exec .epctl s = .next t ∧
      t.mir.inbox = l ∧ t.mir.epoch = some ⟨e, join, s.frame, bs, [], [], [], [], none⟩ ∧ t.mir.asked = false ∧ t.mir.epNo = e ∧
      t.fg F.MIR_EPOCH_CUR = e % 2 ^ 16) ∧
  (∀ (s : State) (k e n crc : Nat) (x : Epoch) (l : List (Nat × MMsg)), s.mir.inbox = (k, .epEnd e n crc) :: l →
    s.mir.epoch = some x → x.no = e →
    exec .epctl s = .next { s with mir := { s.mir with inbox := l, epoch := some { x with fin := some (n, crc) } } }) ∧
  (∀ (s : State) (k a e : Nat) (l : List (Nat × MMsg)), s.mir.inbox = (k, .ack a e) :: l →
    ∃ t, exec .ack s = .next t ∧
      t.mir = { s.mir with inbox := l, ackedOut := s.mir.ackedOut.ack a, epochOut := s.mir.epochOut.ack e }) ∧
  (∀ (s : State) (k devid : Nat) (digest : List Byte) (l : List (Nat × MMsg)),
    s.mir.inbox = (k, .hello digest devid) :: l → ∃ t, exec .hello s = .next t ∧
      t.mir.inbox = l ∧ if devid = s.otpNum 0 8 then t.fg F.MIR_FLAGS_LOOP = 1 ∧
        t.mir.lanes = setAt s.mir.lanes k { s.mlane k with st := 0, loop := true }
      else t.mir.peer = some devid ∧ (t.mir.imgMis = true ↔ digest ≠ s.mir.digest) ∧ (digest ≠ s.mir.digest → t.fg F.ROL_ALARM_IMGMIS = 1))

/-- Mirror frames and lanes, and the epochs by which a standby follows. On a lane that is up a good DATA frame brings
its header and resets the lane's runs, one that fails its CRC counts, and a STREAM cell with the number expected
brings its message to a standby; a lane in training with lock and 256 clean frames comes up with its delay measured,
one that is up and has lost lock trains again, and a retrain takes both to training, with the trims written for them
in force; cells not acknowledged for 8 frames are to be sent again; a stream loss, which drops a planned swap but
one of that very tick, and a tally that does not come in time unsync; a complete epoch commits, and one past its
time is discarded; EPOCH and RESYNC ask for one. -/
def Obligations.MirrorLinkAndEpochs : Prop :=
  (∀ (lane : Fin 2) (f : MFrame) (eye : Fin 256) (s : State), (s.mlane lane.val).st = 2 → f.syncOk = true →
    f.hcrcOk = true → f.ftype = 2 → f.crcOk = true → f.cells = [] →
    ∃ t, exec (.mirrorFrame lane ⟨f, eye⟩) s = .next t ∧
      t.mir.header = some f ∧ t.mir.mirSeen = (s.mir.mirSeen || decide (f.fnum = s.frame % 2 ^ 24)) ∧
      t.mlane lane.val = { s.mlane lane.val with got := true, syncBad := 0, crcBad := 0 } ∧ t.mir.inbox = s.mir.inbox ∧
      t.flag F.ROL_STAT_SENERR = (f.senior == s.flag F.SYS_STRAP_SENIOR)) ∧
  (∀ (lane : Fin 2) (f : MFrame) (eye : Fin 256) (s : State), (s.mlane lane.val).st = 2 → f.syncOk = true →
    f.crcOk = false → ∃ t, exec (.mirrorFrame lane ⟨f, eye⟩) s = .next t ∧
      t.mir.inbox = s.mir.inbox ∧ (t.mlane lane.val).crcBad = (s.mlane lane.val).crcBad + 1 ∧ (t.mlane lane.val).syncBad = 0 ∧
      t.fg (if lane.val = 0 then F.MIR_CRC0 else F.MIR_CRC1) =
        Nat.min (s.fg (if lane.val = 0 then F.MIR_CRC0 else F.MIR_CRC1) + 1) (2 ^ 32 - 1)) ∧
  (∀ (lane : Fin 2) (f : MFrame) (eye : Fin 256) (c : MCell) (m : MMsg) (s : State), (s.mlane lane.val).st = 2 →
    f.crcOk = true → f.ftype = 2 → f.fnum = s.frame % 2 ^ 24 → f.cells = [c] → c.cls = .stream → s.dev = .standby →
    c.msg = some m → s.mir.streamIn = some c.cseq → ∃ t, exec (.mirrorFrame lane ⟨f, eye⟩) s = .next t ∧
      t.mir.inbox = s.mir.inbox ++ [(lane.val, m)] ∧ t.mir.streamIn = some ((c.cseq + 1) % 65536) ∧ t.mir.loss = s.mir.loss) ∧
  (∀ (lane : Fin 2) (oneway : BitVec 16) (s : State), (s.mlane lane.val).loop = false → (s.mlane lane.val).st = 1 →
    (s.mlane lane.val).lock = true → 256 ≤ (s.mlane lane.val).clean →
    ∃ t, exec (.mirrorLaneTrain lane true oneway) s = .next t ∧
      (t.mlane lane.val).st = 2 ∧ (t.mlane lane.val).helloDue = true ∧ t.fg F.MIR_DELAY_ONEWAY = oneway.toNat ∧
      (30000 < oneway.toNat → t.fg F.MIR_FLAGS_DELAYERR = 1)) ∧
  (∀ (lane : Fin 2) (oneway : BitVec 16) (s : State), (s.mlane lane.val).st = 2 → (s.mlane lane.val).lockLost = true →
    ∃ t, exec (.mirrorLaneTrain lane false oneway) s = .next t ∧
      (t.mlane lane.val).st = 1 ∧ (t.mlane lane.val).lock = false ∧ (t.mlane lane.val).loop = (s.mlane lane.val).loop ∧ t.regs = s.regs) ∧
  (∀ (s : State), ∃ t, exec .mirRetrain s = .next t ∧
      t.mir = { s.mir with lanes := s.mir.lanes.map fun _ => { MLane.init with st := 1 } } ∧
      ([224, 225, 288, 289].all fun k => decide (tget 0x100 t.cal.trimNext k = 0x100 ∧
        tget (0, false) t.cal.trims k = (if tget 0x100 s.cal.trimNext k = 0x100 then tget (0, false) s.cal.trims k
          else (tget 0x100 s.cal.trimNext k, true)))) = true) ∧
  (∀ (s : State), 8 ≤ s.mir.ackedOut.timer → ∃ t, exec .mirrorCellRetransmit s = .next t ∧
      t.mir.ackedOut = { s.mir.ackedOut with sent := 0, timer := 0 } ∧ t.mir.ackedOut.cells = s.mir.ackedOut.cells) ∧
  (∀ (s : State), s.dev = .standby → s.mir.failed = false → s.mir.loss = true → ∃ t, exec .streamLoss s = .next t ∧
      t.mir.loss = false ∧ t.mir.joinWanted = true ∧
      t.mir.swap = (if (s.mir.swap.any fun p => decide (p.w = s.coming)) = true then s.mir.swap else none) ∧ t.mir.epoch = none ∧ t.fg F.MIR_FLAGS_STREAMLOSS = 1 ∧
      t.fg F.ROL_STAT_READY = 0 ∧ t.fg F.MIR_STAT_SYNC = 0 ∧ (t.popBundles.all fun b => !(t.bun b).synced) = true) ∧
  (∀ (s : State) (u : Tally), s.dev = .standby → s.mir.own = [u] → notBefore (sub32 s.coming 2) u.f = true →
    ∃ t, exec .tallyTimeout s = .next t ∧
      t.mir.own = [] ∧ t.fg F.MIR_TALLYCNT = Nat.min (s.fg F.MIR_TALLYCNT + 1) (2 ^ 32 - 1) ∧
      t.fg F.MIR_TALLYMIS = Nat.min (s.fg F.MIR_TALLYMIS + 1) (2 ^ 32 - 1) ∧ t.fg F.MIR_FLAGS_TALLYMIS = 1 ∧
      (t.bun u.b).synced = false) ∧
  (∀ (s : State) (e : Epoch), s.mir.epoch = some e → s.dev = .standby → e.complete = true → e.join = false →
    ∃ t, exec .epochCommit s = .next t ∧
      t.mir.epoch = none ∧ t.fg F.MIR_EPCOMMIT = Nat.min (s.fg F.MIR_EPCOMMIT + 1) (2 ^ 32 - 1) ∧
      t.fg F.MIR_EPOCH_LAST = e.no % 2 ^ 16 ∧ (e.bundles.all fun b => (t.bun b).synced) = true ∧
      t.fg F.ROL_STAT_READY = s.fg F.ROL_STAT_READY) ∧
  (∀ (s : State) (e : Epoch), s.mir.epoch = some e →
    1024 * Nat.max 1 (s.fg F.MIR_CFG_EPLIM) ≤ sub32 s.coming e.opened → ∃ t, exec .epochTimeout s = .next t ∧
      t.mir.epoch = none ∧ t.fg F.MIR_EPDISCARD = Nat.min (s.fg F.MIR_EPDISCARD + 1) (2 ^ 32 - 1) ∧ t.fg F.MIR_FLAGS_EPDISC = 1 ∧
      t.mir.joinWanted = (s.mir.joinWanted || e.join)) ∧
  (∀ (s : State), s.dev = .standby → exec .mirEpoch s = .next { s with mir := { s.mir with wanted := true } }) ∧
  (∀ (s : State), s.dev = .standby → ∃ t, exec .mirResync s = .next t ∧
      t.mir = { s.mir with joinWanted := true } ∧ t.fg F.ROL_STAT_READY = 0)

/-- What the sensors bring about. A sampling period corrects each result by its trim, keeps the good ones and counts the
bad ones in a row, and the limits act on the hottest; a sensor that has failed three times goes out of service; the
photonic temperature and the band are computed in every thousandth frame and a change of band takes effect at its
tick; a held write goes on inside the window; a trigger that is cleared takes the present value as its reference. -/
def Obligations.ThermalSupervision : Prop :=
  (∀ (results : List (Option Int)) (s : State), s.dev ≠ .off → ∃ t, exec (.sensorSample results) s = .next t ∧
      (∀ n : Fin 16, n.val < results.length →
        let g := (results.getD n.val none).bind fun r =>
          (if -7680 ≤ r + 8 * sgn 8 (s.trim 0 n.val) ∧ r + 8 * sgn 8 (s.trim 0 n.val) ≤ 22400 then
            some (r + 8 * sgn 8 (s.trim 0 n.val)) else none);
        (t.flagi F.TMP_SENSn_VALID n.val = true ↔ g.isSome = true) ∧
        (g.isSome = true → t.fgi F.TMP_SENSn_TEMP n.val = unsgn 16 (g.getD 0)) ∧
        (s.cal.fails.length = 16 → t.cal.fails.getD n.val 0 = if g.isSome = true then 0 else s.cal.fails.getD n.val 0 + 1)) ∧
      (((t.warnLim * 128 : Nat) : Int) ≤ t.tmax → t.flag F.TMP_STAT_WARN = true) ∧
      (t.tmax < ((t.warnLim * 128 : Nat) : Int) - 256 → t.flag F.TMP_STAT_WARN = false) ∧
      (s.dev ≠ .safe → ((t.tripLim * 128 : Nat) : Int) ≤ t.tmax → (t.port.safe.due.any fun x => x.code == 0x2004) = true)) ∧
  (∀ (n : Fin 16) (s : State), 3 ≤ s.cal.fails.getD n.val 0 → s.bit F.TMP_SFAIL_FAILED 0 n.val = false →
    ∃ t, exec (.sensorFail n) s = .next t ∧
      t.bit F.TMP_SFAIL_FAILED 0 n.val = true ∧ t.fgi F.TMP_SENSn_FAILED n.val = 1 ∧ t.pend 24 = true) ∧
  (∀ (s : State), s.coming % 1000 = 0 → s.up = true → s.tphs = [] → ∃ t, exec .bandCompute s = .next t ∧
      t.fg F.TMP_PHTEMP_NQ = 0 ∧ t.fg F.TMP_STAT_PHSTALE = 1 ∧ t.cal = s.cal) ∧
  (∀ (x : Int) (r : List Int) (s : State), s.coming % 1000 = 0 → s.up = true → s.tphs = x :: r →
    ∃ t, exec .bandCompute s = .next t ∧
      let tp := rnEven (((sumI (x :: r) : Int) : Rat) / (((x :: r).length : Nat) : Rat));
      t.fg F.TMP_PHTEMP_TP = unsgn 16 tp ∧ t.fg F.TMP_PHTEMP_NQ = (x :: r).length % 2 ^ 6 ∧ t.fg F.TMP_STAT_PHSTALE = 0 ∧
      t.cal.band = (if bandAfter s tp (s.fg F.SEG_STAT_BAND) = s.fg F.SEG_STAT_BAND then none
        else some ⟨add32 s.coming 1, bandAfter s tp (s.fg F.SEG_STAT_BAND)⟩) ∧ t.fg F.SEG_STAT_BAND = s.fg F.SEG_STAT_BAND) ∧
  (∀ (a : AtFrame) (s : State), s.cal.band = some a → notBefore s.coming a.frame = true →
    ∃ t, exec .bandChange s = .next t ∧
      t.fg F.SEG_STAT_BAND = a.val % 2 ^ 2 ∧ t.fg F.TMP_BANDCNT = Nat.min (s.fg F.TMP_BANDCNT + 1) (2 ^ 32 - 1) ∧ t.pend 27 = true ∧
      t.cal.band = none) ∧
  (∀ (v : Word) (s : State), ∃ t, exec (.qtrigClear v) s = .next t ∧
      ∀ q : Fin 32, t.bit F.CAL_QTRIG_QUAY 0 q.val = (s.bit F.CAL_QTRIG_QUAY 0 q.val && !v.toNat.testBit q.val) ∧
      tget none t.cal.tref q.val = (if v.toNat.testBit q.val = true then
          (if s.fgi F.QY_TTEMP_TPH q.val = 0x8000 then none else some (s.fgi F.QY_TTEMP_TPH q.val))
        else tget none s.cal.tref q.val)) ∧
  (∀ (s : State), ∃ t, exec .dietrigClear s = .next t ∧
      t.fg F.CAL_STAT_DIETRIG = 0 ∧ t.cal = { s.cal with trefD := if s.cal.seen = 0 then none else some (s.fg F.TMP_MAX_TEMP) }) ∧
  (∀ (o : FlashOp) (r : List FlashOp) (s : State), s.flag F.TMP_STAT_WRHOLD = true → s.inWindow = true →
    s.boot.cur = none → s.boot.ops = o :: r → ∃ t, exec .writeHoldRelease s = .next t ∧
      t.fg F.TMP_STAT_WRHOLD = 0 ∧ t.boot.cur = some o ∧ t.boot.ops = r ∧ (s.boot.otpOp.isSome = true → t.boot.otpHeld = false))

/-- The work of a sweep unit from its GO to its end. A trim that no link uses keeps its value for its lane's next
training; a GO of either kind is refused with its reason or starts the unit with its bundles under hold; the unit
fixes its window three frames ahead or gives up after its wait; the sweep runs from its first frame, a scale
calibration changes its range 64 frames on; after the last capture, or a cancel, the unit is done once its bundles
are released. -/
def Obligations.CalibrationUnits : Prop :=
  (∀ (v : Word) (s : State), ∃ t, exec (.calTrimWrite v) s = .next t ∧
      let k := s.fg F.CAL_TRIMSEL_TRIM;
      let i := s.fg F.CAL_TRIMSEL_INDEX;
      if (k = 3 ∨ k = 4) ∧ i < 34 ∧ s.trimBusy i = false then
        tget 0x100 t.cal.trimNext (k * 64 + i) = v.toNat % 16 ∧ t.cal.trims = s.cal.trims ∧ t.fg F.CAL_STAT_DIRTY = 1 ∧ t.cal.since = true ∧
        t.fg F.CAL_STAT_TRIMERR = s.fg F.CAL_STAT_TRIMERR
      else t.cal = s.cal ∧ t.fg F.CAL_STAT_TRIMERR = 1) ∧
  (∀ (s : State), (s.unitCfg (s.fg F.CAL_USEL_UNIT)).scale = false → ∃ t, exec .calGoElement s = .next t ∧
      let u := s.fg F.CAL_USEL_UNIT;
      let x := s.unitCfg u;
      let bs := ((s.onChannel x.quay x.chan).map bundleOf).dedup;
      if goReason u x s = 0 then t.ust u = 1 ∧ t.fgi F.CAL_USTAT_REASON u = 0 ∧
        t.cal.units = setAt s.cal.units u { x with held := bs } ∧ (bs.all fun b => (t.bun b).calHold.isSome) = true
      else t.fgi F.CAL_USTAT_REASON u = goReason u x s ∧ t.cal = s.cal ∧ t.ust u = s.ust u) ∧
  (∀ (s : State), (s.unitCfg (s.fg F.CAL_USEL_UNIT)).scale = true → ∃ t, exec .calGoScale s = .next t ∧
      let u := s.fg F.CAL_USEL_UNIT;
      let x := s.unitCfg u;
      if scaleReason u x s = 0 then t.ust u = 2 ∧ t.fgi F.CAL_USTAT_REASON u = 0 ∧ t.cal.units = setAt s.cal.units u x
      else t.fgi F.CAL_USTAT_REASON u = scaleReason u x s ∧ t.cal = s.cal ∧ t.ust u = s.ust u) ∧
  (∀ (s : State), 1 ≤ s.ust (s.fg F.CAL_USEL_UNIT) → s.ust (s.fg F.CAL_USEL_UNIT) ≤ 3 →
    (s.unit (s.fg F.CAL_USEL_UNIT)).cut = false → s.cal.units.length = 4 → s.fg F.CAL_USEL_UNIT < 4 →
    ∃ t, exec .calCancel s = .next t ∧
      let u := s.fg F.CAL_USEL_UNIT;
      (t.unit u).cut = true ∧ t.fg F.CAL_ABANDCNT = Nat.min (s.fg F.CAL_ABANDCNT + 1) (2 ^ 32 - 1) ∧
      (if (s.unit u).f0 = none then t.ust u = 4 ∧ t.fgi F.CAL_USTAT_RESULT u = 2 ∧ (t.unit u).last = s.frame
      else t.ust u = s.ust u ∧ t.fgi F.CAL_UCAP_ABANDON u = 1)) ∧
  (∀ (u : Fin 4) (s : State), s.ust u.val = 2 → (s.unit u.val).f0 = none → (s.unit u.val).scale = false →
    s.windowAt (s.unit u.val) = true → s.cal.units.length = 4 → ∃ t, exec (.sweepWindowFound u) s = .next t ∧
      let f0 := add32 s.frame 3;
      let id := (s.cal.capNo + 1) % 65536;
      t.unit u.val = { s.unit u.val with
        f0 := some f0, last := sub32 (add32 f0 (s.unit u.val).span) 1, cut := false, wait := [], rows := [] } ∧
      t.fgi F.CAL_UFRM_FRAME u.val = f0 % 2 ^ 32 ∧ t.fgi F.CAL_UCAP_CAPID u.val = id ∧ t.fgi F.CAL_UCAP_COUNT u.val = 0 ∧
      t.fgi F.CAL_UCAP_ABANDON u.val = 0 ∧ t.cal.capNo = id ∧
      t.cal.caps.head? = some ⟨id, f0, sub32 (add32 f0 (s.unit u.val).span) 1, false⟩) ∧
  (∀ (u : Fin 4) (s : State), (s.ust u.val = 1 ∨ s.ust u.val = 2) → (s.unit u.val).f0 = none →
    Nat.max 1 (s.fg F.CAL_ACCCFG_WAITMAX) * 1024 ≤ sub32 s.coming (s.unit u.val).holdF →
    ∃ t, exec (.sweepWindowTimeout u) s = .next t ∧
      t.ust u.val = 4 ∧ t.fgi F.CAL_USTAT_RESULT u.val = 3) ∧
  (∀ (u : Fin 4) (f0 : Nat) (s : State), s.ust u.val = 2 → (s.unit u.val).f0 = some f0 →
    notBefore s.coming f0 = true → ∃ t, exec (.sweepRun u) s = .next t ∧
      t.ust u.val = 3 ∧ t.fgi F.CAL_UCAP_BAND u.val = s.fg F.SEG_STAT_BAND ∧ t.cal = s.cal) ∧
  (∀ (u : Fin 4) (f0 : Nat) (c : Change) (s : State), s.ust u.val = 3 → (s.unit u.val).f0 = some f0 →
    (s.unit u.val).scale = true → (s.unit u.val).target < 4 → s.coming = add32 f0 64 →
    (s.quay (s.unit u.val).quay).rng = some c → c.acked = true → notBefore s.coming c.frame = true →
    (s.unit u.val).quay < 32 → ∃ t, exec (.scaleChange u) s = .next t ∧
      t.fgi F.QY_RNGSTAT_CUR (s.unit u.val).quay = c.val % 2 ^ 2 ∧ t.fgi F.QY_RNGSTAT_DONE (s.unit u.val).quay = 1 ∧
      (t.quay (s.unit u.val).quay).rng = none) ∧
  (∀ (u : Fin 4) (f0 : Nat) (s : State), (s.ust u.val = 2 ∨ s.ust u.val = 3) → (s.unit u.val).f0 = some f0 →
    (s.unit u.val).scale = false → later s.frame (s.unit u.val).last = true → (s.unit u.val).wait = [] →
    ∃ t, exec (.sweepCaptureEnd u) s = .next t ∧
      t.ust u.val = 4 ∧ t.fgi F.CAL_USTAT_RESULT u.val = (if (s.unit u.val).cut = true then 2 else 1) ∧ t.cal = s.cal) ∧
  (∀ (u : Fin 4) (b : Nat) (s : State), s.ust u.val = 4 → s.holds = true → (s.unit u.val).held = [b] →
    s.secondUpdate b (s.unit u.val).last = true →
    ((List.range 4).all fun v => decide (v = u.val ∨ b ∉ (s.unit v).held)) = true →
    ∃ t, exec (.calibrationRelease u) s = .next t ∧
      t.ust u.val = 5 ∧ (t.bun b).calHold = none ∧ (t.unit u.val).held = [] ∧ (t.unit u.val).f0 = none ∧ t.pend 29 = true ∧
      t.fg F.CAL_SWEEPCNT = Nat.min (s.fg F.CAL_SWEEPCNT + 1) (2 ^ 32 - 1))

/-- Candidates of calibration and the store of the journal. A candidate submitted without authority, for no capture or
of no known type is rejected with its reason; one that passes on a quay in start-up is accepted and its value is a
user value; a STORE starts or is recorded, and its end is counted as stored or failed. -/
def Obligations.CandidatesAndTheJournal : Prop :=
  (∀ (s : State), s.holds = false → ∃ t, exec .calSubmit s = .next t ∧
      t.fg F.CAL_SUBRES_RESULT = 3 ∧ t.fg F.CAL_SUBRES_REASON = 3 ∧ t.fg F.CAL_REJCNT = Nat.min (s.fg F.CAL_REJCNT + 1) (2 ^ 32 - 1) ∧
      t.cal = s.cal) ∧
  (∀ (s : State), s.holds = true → (s.cal.caps.all fun c => decide (c.id ≠ s.fg F.CAL_SUBMIT_CAPID) || c.bad) = true →
    ∃ t, exec .calSubmit s = .next t ∧
      t.fg F.CAL_SUBRES_RESULT = 3 ∧ t.fg F.CAL_SUBRES_REASON = 1 ∧ t.fg F.CAL_REJCNT = Nat.min (s.fg F.CAL_REJCNT + 1) (2 ^ 32 - 1) ∧
      t.cal = s.cal) ∧
  (∀ (s : State) (c : Capture), s.holds = true → s.cal.caps = [c] → c.id = s.fg F.CAL_SUBMIT_CAPID → c.bad = false →
    leAt (s.memBytes (s.calBase + 0x8000) 128) 0 1 ≠ 1 → leAt (s.memBytes (s.calBase + 0x8000) 128) 0 1 ≠ 2 →
    ∃ t, exec .calSubmit s = .next t ∧
      t.fg F.CAL_SUBRES_RESULT = 3 ∧ t.fg F.CAL_SUBRES_REASON = 2 ∧ t.fg F.CAL_REJCNT = Nat.min (s.fg F.CAL_REJCNT + 1) (2 ^ 32 - 1) ∧
      t.cal = s.cal) ∧
  (∀ (s : State) (c : Capture) (n : Nat) (v : SlotCal), s.holds = true → s.cal.caps = [c] →
    c.id = s.fg F.CAL_SUBMIT_CAPID → c.bad = false → leAt (s.memBytes (s.calBase + 0x8000) 128) 0 1 = 1 →
    slotCalOf (s.memBytes (s.calBase + 0x8000) 128) = (n, v) → n < 12288 → (s.slot n).pop = true →
    v.serial = s.fgi F.QY_TILEID_SERIAL (quayOf n) → slotPlaus s n v = true →
    s.bit F.CAL_QSTART_QUAY 0 (quayOf n) = true → ∃ t, exec .calSubmit s = .next t ∧
      t.fg F.CAL_SUBRES_RESULT = 1 ∧ t.fg F.CAL_SUBRES_REASON = 0 ∧ t.fg F.CAL_ACCCNT = Nat.min (s.fg F.CAL_ACCCNT + 1) (2 ^ 32 - 1) ∧
      t.fg F.CAL_STAT_DIRTY = 1 ∧ tget none t.cal.slotUser n = some v ∧ tget none t.cal.slotPend n = none) ∧
  (∀ (s : State), s.flag F.CAL_STAT_STORING = true → exec .calStore s = .next (s.fs F.CAL_STAT_STPEND 1)) ∧
  (∀ (s : State), s.flag F.CAL_STAT_STORING = false → s.boot.cur.isSome = true → ∃ t, exec .calStore s = .next t ∧
      let r := if s.cal.newest = 1 then 2 else 1;
      let seq := if s.cal.newest = 0 then 1 else add32 (s.fg F.CAL_JSEQ_SEQ) 1;
      t.fg F.CAL_STAT_STORING = 1 ∧ t.cal.store = some ⟨journalBytes s seq ++ markBytes seq, r, seq⟩ ∧ t.cal.since = false ∧
      t.boot.ops = s.boot.ops ++ [⟨2, s.journalBase r, 0, 0x200000, true⟩,
        ⟨1, s.journalBase r, 0, (journalBytes s seq).length, true⟩,
        ⟨1, s.journalBase r + 0x1FFFE0, (journalBytes s seq).length, 32, true⟩]) ∧
  (∀ (s : State) (x : Store), s.flag F.CAL_STAT_STORING = true → s.flag F.CAL_STAT_STPEND = false → s.storeOps = 0 →
    s.cal.store = some x → ∃ t, exec (.journalStoreComplete true) s = .next t ∧
      t.fg F.CAL_STAT_STORING = 0 ∧ t.fg F.CAL_STAT_SRES = 1 ∧ t.fg F.CAL_JSEQ_SEQ = x.seq % 2 ^ 32 ∧ t.cal.newest = x.region ∧
      t.fg F.CAL_STORECNT = Nat.min (s.fg F.CAL_STORECNT + 1) (2 ^ 32 - 1) ∧ t.cal.store = none ∧
      (s.cal.since = false → t.fg F.CAL_STAT_DIRTY = 0)) ∧
  (∀ (s : State), s.flag F.CAL_STAT_STORING = true → s.flag F.CAL_STAT_STPEND = false → s.storeOps ≤ 1 →
    ∃ t, exec (.journalStoreComplete false) s = .next t ∧
      t.fg F.CAL_STAT_STORING = 0 ∧ t.fg F.CAL_STAT_SRES = 2 ∧ t.cal.newest = s.cal.newest ∧
      t.fg F.CAL_STOREFAIL = Nat.min (s.fg F.CAL_STOREFAIL + 1) (2 ^ 32 - 1) ∧ t.cal.store = none ∧
      (s.cal.since = false → t.fg F.CAL_STAT_DIRTY = 0))

/-- What the flash operations of firmware do. A GO of an aligned operation outside the journal joins the queue, a
misaligned one, one that reaches the journal and a fifth are errors, and an empty one is done at once; a fifth shows
FULL; a completed READ puts flash bytes into table memory, a PROGRAM clears bits and an ERASE sets bytes to 0xFF,
and a READ to where no target lies leaves table memory alone and ends in an error response of M7; when an operation
completes the next waiting one is issued, past a PROGRAM or ERASE that is held the first READ; a timeout is an
error; CANCEL empties the queue of firmware. -/
def Obligations.FlashOperations : Prop :=
  (∀ (s : State), s.fg F.XSP_OPLEN_VALUE ≠ 0 →
    opAligned s ⟨0, s.fg F.XSP_OPADDR_VALUE, s.fg F.XSP_OPMEM_VALUE, s.fg F.XSP_OPLEN_VALUE, false⟩ = true →
    s.boot.ops = [] → s.boot.cur = none → ∃ t, exec .xspRead s = .next t ∧
      t.boot.cur = some ⟨0, s.fg F.XSP_OPADDR_VALUE, s.fg F.XSP_OPMEM_VALUE, s.fg F.XSP_OPLEN_VALUE, false⟩ ∧ t.boot.ops = [] ∧
      t.fg F.XSP_ERRCNT = s.fg F.XSP_ERRCNT) ∧
  (∀ (s : State), s.fg F.XSP_OPLEN_VALUE = 0 → ∃ t, exec .xspRead s = .next t ∧
      t.fg F.XSP_OPSTAT_DONE = 1 ∧ t.fg F.XSP_OPCNT = Nat.min (s.fg F.XSP_OPCNT + 1) (2 ^ 32 - 1) ∧ t.boot = s.boot) ∧
  (∀ (s : State), s.fg F.XSP_OPLEN_VALUE ≠ 0 →
    opAligned s ⟨1, s.fg F.XSP_OPADDR_VALUE, s.fg F.XSP_OPMEM_VALUE, s.fg F.XSP_OPLEN_VALUE, false⟩ = true →
    inJournal s ⟨1, s.fg F.XSP_OPADDR_VALUE, s.fg F.XSP_OPMEM_VALUE, s.fg F.XSP_OPLEN_VALUE, false⟩ = false →
    (s.boot.ops.countP fun o => !o.store) < 4 → s.boot.cur.isSome = true → ∃ t, exec .xspProgram s = .next t ∧
      t.boot.cur = s.boot.cur ∧ t.boot.ops = s.boot.ops ++
        [⟨1, s.fg F.XSP_OPADDR_VALUE, s.fg F.XSP_OPMEM_VALUE, s.fg F.XSP_OPLEN_VALUE, false⟩]) ∧
  (∀ (s : State), s.fg F.XSP_OPLEN_VALUE ≠ 0 →
    opAligned s ⟨1, s.fg F.XSP_OPADDR_VALUE, s.fg F.XSP_OPMEM_VALUE, s.fg F.XSP_OPLEN_VALUE, false⟩ = false →
    ∃ t, exec .xspProgram s = .next t ∧
      t.fg F.XSP_OPSTAT_ERR = 1 ∧ t.fg F.XSP_OPSTAT_ERRCODE = 1 ∧ t.fg F.XSP_ERRCNT = Nat.min (s.fg F.XSP_ERRCNT + 1) (2 ^ 32 - 1) ∧
      t.boot = s.boot) ∧
  (∀ (s : State), s.fg F.XSP_OPLEN_VALUE ≠ 0 →
    opAligned s ⟨2, s.fg F.XSP_OPADDR_VALUE, s.fg F.XSP_OPMEM_VALUE, s.fg F.XSP_OPLEN_VALUE, false⟩ = true →
    inJournal s ⟨2, s.fg F.XSP_OPADDR_VALUE, s.fg F.XSP_OPMEM_VALUE, s.fg F.XSP_OPLEN_VALUE, false⟩ = false →
    (s.boot.ops.countP fun o => !o.store) < 4 → s.boot.cur.isSome = true → ∃ t, exec .xspErase s = .next t ∧
      t.boot.cur = s.boot.cur ∧ t.boot.ops = s.boot.ops ++
        [⟨2, s.fg F.XSP_OPADDR_VALUE, s.fg F.XSP_OPMEM_VALUE, s.fg F.XSP_OPLEN_VALUE, false⟩]) ∧
  (∀ (s : State), s.fg F.XSP_OPLEN_VALUE ≠ 0 →
    opAligned s ⟨2, s.fg F.XSP_OPADDR_VALUE, s.fg F.XSP_OPMEM_VALUE, s.fg F.XSP_OPLEN_VALUE, false⟩ = true →
    inJournal s ⟨2, s.fg F.XSP_OPADDR_VALUE, s.fg F.XSP_OPMEM_VALUE, s.fg F.XSP_OPLEN_VALUE, false⟩ = true →
    ∃ t, exec .xspErase s = .next t ∧
      t.fg F.XSP_OPSTAT_ERR = 1 ∧ t.fg F.XSP_OPSTAT_ERRCODE = 2 ∧ t.fg F.XSP_ERRCNT = Nat.min (s.fg F.XSP_ERRCNT + 1) (2 ^ 32 - 1) ∧
      t.boot = s.boot) ∧
  (∀ (s : State), s.fg F.XSP_OPLEN_VALUE ≠ 0 →
    opAligned s ⟨0, s.fg F.XSP_OPADDR_VALUE, s.fg F.XSP_OPMEM_VALUE, s.fg F.XSP_OPLEN_VALUE, false⟩ = true →
    inJournal s ⟨0, s.fg F.XSP_OPADDR_VALUE, s.fg F.XSP_OPMEM_VALUE, s.fg F.XSP_OPLEN_VALUE, false⟩ = false →
    4 ≤ (s.boot.ops.countP fun o => !o.store) → ∃ t, exec .xspRead s = .next t ∧
      t.fg F.XSP_OPSTAT_FULL = 1 ∧ t.fg F.XSP_OPSTAT_ERR = 1 ∧ t.boot = s.boot ∧
      t.fg F.XSP_ERRCNT = Nat.min (s.fg F.XSP_ERRCNT + 1) (2 ^ 32 - 1)) ∧
  (∀ (s : State), s.fg F.XSP_OPLEN_VALUE ≠ 0 →
    opAligned s ⟨1, s.fg F.XSP_OPADDR_VALUE, s.fg F.XSP_OPMEM_VALUE, s.fg F.XSP_OPLEN_VALUE, false⟩ = true →
    inJournal s ⟨1, s.fg F.XSP_OPADDR_VALUE, s.fg F.XSP_OPMEM_VALUE, s.fg F.XSP_OPLEN_VALUE, false⟩ = false →
    4 ≤ (s.boot.ops.countP fun o => !o.store) → ∃ t, exec .xspProgram s = .next t ∧
      t.fg F.XSP_OPSTAT_FULL = 1 ∧ t.fg F.XSP_OPSTAT_ERR = 1 ∧ t.boot = s.boot ∧
      t.fg F.XSP_ERRCNT = Nat.min (s.fg F.XSP_ERRCNT + 1) (2 ^ 32 - 1)) ∧
  (∀ (s : State), s.fg F.XSP_OPLEN_VALUE ≠ 0 →
    opAligned s ⟨2, s.fg F.XSP_OPADDR_VALUE, s.fg F.XSP_OPMEM_VALUE, s.fg F.XSP_OPLEN_VALUE, false⟩ = true →
    inJournal s ⟨2, s.fg F.XSP_OPADDR_VALUE, s.fg F.XSP_OPMEM_VALUE, s.fg F.XSP_OPLEN_VALUE, false⟩ = false →
    4 ≤ (s.boot.ops.countP fun o => !o.store) → ∃ t, exec .xspErase s = .next t ∧
      t.fg F.XSP_OPSTAT_FULL = 1 ∧ t.fg F.XSP_OPSTAT_ERR = 1 ∧ t.boot = s.boot ∧
      t.fg F.XSP_ERRCNT = Nat.min (s.fg F.XSP_ERRCNT + 1) (2 ^ 32 - 1)) ∧
  (∀ (s : State), ∃ t, exec .xspCancel s = .next t ∧
      (t.boot.ops = s.boot.ops.filter fun o => o.store) ∧ t.boot.cur = s.boot.cur ∧ t.fg F.XSP_OPSTAT_CANCELLED = 1) ∧
  (∀ (o : FlashOp) (s : State), s.boot.cur = some o → s.boot.ops = [] → o.store = false →
    (o.kind < 2 → o.mem % 32 = 0 ∧ o.mem + o.len ≤ 0x1000000) → s.fab.badWords = [] →
    ∃ t, exec .flashOpComplete s = .next t ∧
      t.boot.cur = none ∧ t.fg F.XSP_OPSTAT_DONE = 1 ∧ t.fg F.XSP_OPCNT = Nat.min (s.fg F.XSP_OPCNT + 1) (2 ^ 32 - 1) ∧
      (o.kind = 0 → t.table = tsetBytes s.table 0 o.mem (s.flashBytes o.addr o.len) ∧ t.boot.flash = s.boot.flash) ∧
      (o.kind = 1 → t.boot.flash = flashProgram o.addr (tblBytes s o.mem o.len) s.boot.flash ∧ t.table = s.table) ∧
      (o.kind = 2 → (t.boot.flash = s.boot.flash.filter fun e => decide (e.1 < o.addr) || decide (o.addr + o.len ≤ e.1)) ∧
        t.table = s.table)) ∧
  (∀ (o : FlashOp) (s : State), s.boot.cur = some o → s.boot.ops = [] → o.store = false → o.kind = 0 → o.len = 32 →
    o.mem % 32 = 0 → 0x1000000 ≤ o.mem → o.mem < 0x10000000 → ∃ t, exec .flashOpComplete s = .next t ∧
      t.boot.cur = none ∧ t.fg F.XSP_OPSTAT_DONE = 1 ∧ t.table = s.table ∧ t.boot.flash = s.boot.flash ∧
      t.fg F.MTX_ERRSTAT_VALID = 1 ∧ t.fg F.MTX_ERRSTAT_CAUSE = 1 ∧ t.fg F.MTX_ERRSTAT_MASTER = 7 ∧ t.fg F.MTX_ERRSTAT_WRITE = 1 ∧
      t.fg F.MTX_ERRADDR_ADDR = beatAddr o.mem) ∧
  (∀ (o p : FlashOp) (r : List FlashOp) (s : State), s.boot.cur = some o → s.boot.ops = p :: r → o.store = false →
    o.kind = 2 → (p.kind = 0 ∨ s.inWindow = true) → ∃ t, exec .flashOpComplete s = .next t ∧
      t.boot.cur = some p ∧ t.boot.ops = r ∧ t.fg F.XSP_OPSTAT_DONE = 1 ∧
      (t.boot.flash = s.boot.flash.filter fun e => decide (e.1 < o.addr) || decide (o.addr + o.len ≤ e.1))) ∧
  (∀ (o p q : FlashOp) (s : State), s.boot.cur = some o → s.boot.ops = [p, q] → o.store = false → o.kind = 2 →
    p.kind ≠ 0 → s.inWindow = false → ∃ t, exec .flashOpComplete s = .next t ∧
      t.fg F.TMP_STAT_WRHOLD = 1 ∧ t.boot.opsHeld = true ∧
      (if q.kind = 0 then t.boot.cur = some q ∧ t.boot.ops = [p] else t.boot.cur = none ∧ t.boot.ops = [p, q])) ∧
  (∀ (o : FlashOp) (s : State), s.boot.cur = some o → s.boot.ops = [] → o.store = false → o.kind ≠ 0 →
    ∃ t, exec .flashOpTimeout s = .next t ∧
      t.boot.cur = none ∧ t.boot.flash = s.boot.flash ∧ t.fg F.XSP_OPSTAT_ERR = 1 ∧ t.fg F.XSP_OPSTAT_ERRCODE = 3 ∧
      t.fg F.XSP_ERRCNT = Nat.min (s.fg F.XSP_ERRCNT + 1) (2 ^ 32 - 1))

/-- OTP programming, and writes of registers by the masters of the bus matrix. A PROG is refused with its reason, or
goes on inside the temperature window and waits outside it; CANCEL drops one that waits; a programming that reads
back sets its bits in the word; GO lets STAGING end and LOCK locks; a write of an aligned register word, granted at
once (R463) where no burst is in flight and no store of its master is posted, acts on each field by its access code,
a misaligned one and one to no block end with an error response. -/
def Obligations.OtpProgrammingAndRegisters : Prop :=
  (∀ (s : State), ∃ t, exec .otpProg s = .next t ∧
      let w := s.fg F.OTP_PADDR_WORD;
      let r := otpRefusal s w (s.fg F.OTP_PDATA_DATA);
      if r = 0 then t.boot.otpOp = some ⟨w, s.fg F.OTP_PDATA_DATA⟩ ∧ t.boot.otpHeld = !s.inWindow ∧ t.boot.otp = s.boot.otp
      else t.boot = s.boot ∧ t.fg F.OTP_STAT_REASON = r ∧ t.fg F.OTP_STAT_PREF = 1) ∧
  (∀ (s : State), s.boot.otpOp.isSome = true → s.boot.otpHeld = true → ∃ t, exec .otpCancel s = .next t ∧
      t.boot = { s.boot with otpOp := none, otpHeld := false }) ∧
  (∀ (o : OtpOp) (s : State), s.boot.otpOp = some o → s.boot.otpHeld = false →
    ∃ t, exec (.otpProgComplete true) s = .next t ∧
      t.boot.otpOp = none ∧ t.otpWord o.word = (s.otpWord o.word ||| o.bits) % 2 ^ 32 ∧ t.fg F.OTP_STAT_PDONE = 1) ∧
  (∀ (s : State), s.dev = .staging → exec .sysGo s = .next { s with boot := { s.boot with go := true } }) ∧
  (∀ (v : Word) (s : State), exec (.sysLockWrite v) s = .next { s with locked := s.locked || v.toNat.testBit 0 }) ∧
  (∀ (m : Fin 11) (a : BitVec 22) (v : Word) (s u : State), u = grantAt 10 m.val 0 s → s.up = true → a.toNat % 4 = 0 →
    s.port.flights = [] → (m.val < 4 → (s.sq m.val).posted = []) →
    ((regFind (0x40000000 + a.toNat) regDescs).any fun p =>
  (specialWrite p.1 p.2 v.toNat u).isNone && (exclBits p.1).isEmpty && (acts p.1 p.2 m.val).isEmpty) = true →
    exec (.registerWrite m a v) s = .next ((regFind (0x40000000 + a.toNat) regDescs).elim u fun p => p.1.flds.foldl (plainWrite (u.inst p.1 p.2) v.toNat) u)) ∧
  (∀ (m : Fin 11) (a : BitVec 22) (v : Word) (s : State), s.up = true → a.toNat % 4 ≠ 0 →
    (m.val < 4 → (s.sq m.val).posted = []) → ∃ t, exec (.registerWrite m a v) s = .next t ∧
      t.fg F.SYS_ERRSTAT_ALIGN = 1 ∧ t.fg F.MTX_ERRSTAT_VALID = 1 ∧ t.fg F.MTX_ERRSTAT_CAUSE = 2 ∧
      t.fg F.MTX_ERRSTAT_MASTER = m.val ∧ t.fg F.MTX_ERRSTAT_WRITE = 1 ∧
      t.fg F.MTX_ERRCNT = Nat.min (s.fg F.MTX_ERRCNT + 1) (2 ^ 32 - 1) ∧ t.pend 132 = true) ∧
  (∀ (m : Fin 11) (a : BitVec 22) (v : Word) (s : State), s.up = true → a.toNat % 4 = 0 → s.port.flights = [] →
    (m.val < 4 → (s.sq m.val).posted = []) → 25 ≤ a.toNat / 0x10000 → a.toNat / 0x10000 < 32 →
    ∃ t, exec (.registerWrite m a v) s = .next t ∧
      t.fg F.MTX_ERRSTAT_VALID = 1 ∧ t.fg F.MTX_ERRSTAT_CAUSE = 1 ∧ t.fg F.MTX_ERRSTAT_MASTER = m.val ∧
      t.fg F.MTX_ERRADDR_ADDR = 0x40000000 + a.toNat ∧ t.fg F.MTX_ERRCNT = Nat.min (s.fg F.MTX_ERRCNT + 1) (2 ^ 32 - 1))

/-- The instructions of a sequencer that compute. Each one leaves the value of its operation on 32-bit words in its
destination register, unless that is g0, and goes on with the next word after its cycles; nothing else changes. -/
def Obligations.SequencerArithmetic : Prop :=
  (∀ (n : Fin 4) (s : State), s.seqAt n.val 0x00 = true → s.seqs.length = 4 → (s.sq n.val).g.length = 16 →
    ∃ t, exec (.add n) s = .next t ∧
      let w := s.seqWord n.val;
      let a := BitVec.ofNat 32 ((s.sq n.val).reg (fa w));
      let b := BitVec.ofNat 32 ((s.sq n.val).reg (fb w));
      s.seqDid t n.val (fd w) (a + b).toNat ((s.sq n.val).pc + 4) 1) ∧
  (∀ (n : Fin 4) (s : State), s.seqAt n.val 0x01 = true → s.seqs.length = 4 → (s.sq n.val).g.length = 16 →
    ∃ t, exec (.sub n) s = .next t ∧
      let w := s.seqWord n.val;
      let a := BitVec.ofNat 32 ((s.sq n.val).reg (fa w));
      let b := BitVec.ofNat 32 ((s.sq n.val).reg (fb w));
      s.seqDid t n.val (fd w) (a - b).toNat ((s.sq n.val).pc + 4) 1) ∧
  (∀ (n : Fin 4) (s : State), s.seqAt n.val 0x02 = true → s.seqs.length = 4 → (s.sq n.val).g.length = 16 →
    ∃ t, exec (.and n) s = .next t ∧
      let w := s.seqWord n.val;
      let a := BitVec.ofNat 32 ((s.sq n.val).reg (fa w));
      let b := BitVec.ofNat 32 ((s.sq n.val).reg (fb w));
      s.seqDid t n.val (fd w) (a &&& b).toNat ((s.sq n.val).pc + 4) 1) ∧
  (∀ (n : Fin 4) (s : State), s.seqAt n.val 0x03 = true → s.seqs.length = 4 → (s.sq n.val).g.length = 16 →
    ∃ t, exec (.or n) s = .next t ∧
      let w := s.seqWord n.val;
      let a := BitVec.ofNat 32 ((s.sq n.val).reg (fa w));
      let b := BitVec.ofNat 32 ((s.sq n.val).reg (fb w));
      s.seqDid t n.val (fd w) (a ||| b).toNat ((s.sq n.val).pc + 4) 1) ∧
  (∀ (n : Fin 4) (s : State), s.seqAt n.val 0x04 = true → s.seqs.length = 4 → (s.sq n.val).g.length = 16 →
    ∃ t, exec (.xor n) s = .next t ∧
      let w := s.seqWord n.val;
      let a := BitVec.ofNat 32 ((s.sq n.val).reg (fa w));
      let b := BitVec.ofNat 32 ((s.sq n.val).reg (fb w));
      s.seqDid t n.val (fd w) (a ^^^ b).toNat ((s.sq n.val).pc + 4) 1) ∧
  (∀ (n : Fin 4) (s : State), s.seqAt n.val 0x05 = true → s.seqs.length = 4 → (s.sq n.val).g.length = 16 →
    ∃ t, exec (.shl n) s = .next t ∧
      let w := s.seqWord n.val;
      let a := BitVec.ofNat 32 ((s.sq n.val).reg (fa w));
      let b := BitVec.ofNat 32 ((s.sq n.val).reg (fb w));
      s.seqDid t n.val (fd w) (a <<< (b.toNat % 32)).toNat ((s.sq n.val).pc + 4) 1) ∧
  (∀ (n : Fin 4) (s : State), s.seqAt n.val 0x06 = true → s.seqs.length = 4 → (s.sq n.val).g.length = 16 →
    ∃ t, exec (.shr n) s = .next t ∧
      let w := s.seqWord n.val;
      let a := BitVec.ofNat 32 ((s.sq n.val).reg (fa w));
      let b := BitVec.ofNat 32 ((s.sq n.val).reg (fb w));
      s.seqDid t n.val (fd w) (a >>> (b.toNat % 32)).toNat ((s.sq n.val).pc + 4) 1) ∧
  (∀ (n : Fin 4) (s : State), s.seqAt n.val 0x07 = true → s.seqs.length = 4 → (s.sq n.val).g.length = 16 →
    ∃ t, exec (.sar n) s = .next t ∧
      let w := s.seqWord n.val;
      let a := BitVec.ofNat 32 ((s.sq n.val).reg (fa w));
      let b := BitVec.ofNat 32 ((s.sq n.val).reg (fb w));
      s.seqDid t n.val (fd w) (a.sshiftRight (b.toNat % 32)).toNat ((s.sq n.val).pc + 4) 1) ∧
  (∀ (n : Fin 4) (s : State), s.seqAt n.val 0x08 = true → s.seqs.length = 4 → (s.sq n.val).g.length = 16 →
    ∃ t, exec (.mul n) s = .next t ∧
      let w := s.seqWord n.val;
      let a := BitVec.ofNat 32 ((s.sq n.val).reg (fa w));
      let b := BitVec.ofNat 32 ((s.sq n.val).reg (fb w));
      s.seqDid t n.val (fd w) (a * b).toNat ((s.sq n.val).pc + 4) 2) ∧
  (∀ (n : Fin 4) (s : State), s.seqAt n.val 0x09 = true → s.seqs.length = 4 → (s.sq n.val).g.length = 16 →
    ∃ t, exec (.sltu n) s = .next t ∧
      let w := s.seqWord n.val;
      let a := BitVec.ofNat 32 ((s.sq n.val).reg (fa w));
      let b := BitVec.ofNat 32 ((s.sq n.val).reg (fb w));
      s.seqDid t n.val (fd w) (if a < b then 1#32 else 0#32).toNat ((s.sq n.val).pc + 4) 1) ∧
  (∀ (n : Fin 4) (s : State), s.seqAt n.val 0x10 = true → s.seqs.length = 4 → (s.sq n.val).g.length = 16 →
    ∃ t, exec (.addi n) s = .next t ∧
      let w := s.seqWord n.val;
      let a := BitVec.ofNat 32 ((s.sq n.val).reg (fa w));
      let i := BitVec.ofNat 18 (fimm w);
      s.seqDid t n.val (fd w) (a + i.signExtend 32).toNat ((s.sq n.val).pc + 4) 1) ∧
  (∀ (n : Fin 4) (s : State), s.seqAt n.val 0x11 = true → s.seqs.length = 4 → (s.sq n.val).g.length = 16 →
    ∃ t, exec (.andi n) s = .next t ∧
      let w := s.seqWord n.val;
      let a := BitVec.ofNat 32 ((s.sq n.val).reg (fa w));
      let i := BitVec.ofNat 18 (fimm w);
      s.seqDid t n.val (fd w) (a &&& i.zeroExtend 32).toNat ((s.sq n.val).pc + 4) 1) ∧
  (∀ (n : Fin 4) (s : State), s.seqAt n.val 0x12 = true → s.seqs.length = 4 → (s.sq n.val).g.length = 16 →
    ∃ t, exec (.ori n) s = .next t ∧
      let w := s.seqWord n.val;
      let a := BitVec.ofNat 32 ((s.sq n.val).reg (fa w));
      let i := BitVec.ofNat 18 (fimm w);
      s.seqDid t n.val (fd w) (a ||| i.zeroExtend 32).toNat ((s.sq n.val).pc + 4) 1) ∧
  (∀ (n : Fin 4) (s : State), s.seqAt n.val 0x13 = true → s.seqs.length = 4 → (s.sq n.val).g.length = 16 →
    ∃ t, exec (.xori n) s = .next t ∧
      let w := s.seqWord n.val;
      let a := BitVec.ofNat 32 ((s.sq n.val).reg (fa w));
      let i := BitVec.ofNat 18 (fimm w);
      s.seqDid t n.val (fd w) (a ^^^ i.zeroExtend 32).toNat ((s.sq n.val).pc + 4) 1) ∧
  (∀ (n : Fin 4) (s : State), s.seqAt n.val 0x14 = true → s.seqs.length = 4 → (s.sq n.val).g.length = 16 →
    ∃ t, exec (.shi n) s = .next t ∧
      let w := s.seqWord n.val;
      let a := BitVec.ofNat 32 ((s.sq n.val).reg (fa w));
      let i := BitVec.ofNat 18 (fimm w);
      s.seqDid t n.val (fd w) (if i.toNat / 32 % 4 = 0 then a <<< (i.toNat % 32) else if i.toNat / 32 % 4 = 1 then a >>> (i.toNat % 32)
        else a.sshiftRight (i.toNat % 32)).toNat ((s.sq n.val).pc + 4) 1) ∧
  (∀ (n : Fin 4) (s : State), s.seqAt n.val 0x15 = true → s.seqs.length = 4 → (s.sq n.val).g.length = 16 →
    ∃ t, exec (.movhi n) s = .next t ∧
      let w := s.seqWord n.val;
      let i := BitVec.ofNat 18 (fimm w);
      s.seqDid t n.val (fd w) ((i.zeroExtend 32) <<< 18).toNat ((s.sq n.val).pc + 4) 1)

/-- Loads, stores, branches and the system registers of a sequencer. A load from the own data RAM takes its word, an
access off a word boundary faults, a store to the own RAM writes four bytes and one to the matrix is posted; a
branch taken goes to its own address plus four times its offset and one not taken goes on; a jump, a call and a
return go where they say; a system register is read and written. -/
def Obligations.SequencerMemoryBranchesAndSystem : Prop :=
  (∀ (n : Fin 4) (c k o : Nat) (s : State), s.seqAt n.val 0x18 = true → s.seqs.length = 4 →
    (s.sq n.val).g.length = 16 →
    localOff n.val (addSx ((s.sq n.val).reg (fa (s.seqWord n.val))) (fimm (s.seqWord n.val))) = some o → o % 4 = 0 →
    ∃ t, exec (.ld n c k) s = .next t ∧
      s.seqDid t n.val (fd (s.seqWord n.val)) (leNat (tgetBytes (s.sq n.val).dram 0 o 4)) ((s.sq n.val).pc + 4) 2) ∧
  (∀ (n : Fin 4) (c k : Nat) (s : State), s.seqAt n.val 0x18 = true → s.seqs.length = 4 → (s.sq n.val).pc < 65536 →
    addSx ((s.sq n.val).reg (fa (s.seqWord n.val))) (fimm (s.seqWord n.val)) % 4 ≠ 0 →
    ∃ t, exec (.ld n c k) s = .next t ∧
      (t.sq n.val).st = .fault ∧ (t.sq n.val).g = (s.sq n.val).g ∧ (t.sq n.val).pc = (s.sq n.val).pc ∧ (t.sq n.val).dram = (s.sq n.val).dram ∧
      (t.sq n.val).posted = (s.sq n.val).posted ∧ t.fgi F.TSQ_FSTATn_ALIGN n.val = 1 ∧ t.fgi F.TSQ_FPCn_VALUE n.val = (s.sq n.val).pc ∧
      t.fgi F.TSQ_FADDRn_VALUE n.val = addSx ((s.sq n.val).reg (fa (s.seqWord n.val))) (fimm (s.seqWord n.val)) ∧ t.pend (144 + n.val) = true) ∧
  (∀ (n : Fin 4) (c k : Nat) (s : State), s.seqAt n.val 0x19 = true → s.seqs.length = 4 → (s.sq n.val).pc < 65536 →
    addSx ((s.sq n.val).reg (fa (s.seqWord n.val))) (fimm (s.seqWord n.val)) % 4 ≠ 0 →
    ∃ t, exec (.st n c k) s = .next t ∧
      (t.sq n.val).st = .fault ∧ (t.sq n.val).g = (s.sq n.val).g ∧ (t.sq n.val).pc = (s.sq n.val).pc ∧ (t.sq n.val).dram = (s.sq n.val).dram ∧
      (t.sq n.val).posted = (s.sq n.val).posted ∧ t.fgi F.TSQ_FSTATn_ALIGN n.val = 1 ∧ t.fgi F.TSQ_FPCn_VALUE n.val = (s.sq n.val).pc ∧
      t.fgi F.TSQ_FADDRn_VALUE n.val = addSx ((s.sq n.val).reg (fa (s.seqWord n.val))) (fimm (s.seqWord n.val)) ∧ t.pend (144 + n.val) = true) ∧
  (∀ (n : Fin 4) (c k o : Nat) (s : State), s.seqAt n.val 0x19 = true → s.seqs.length = 4 →
    localOff n.val (addSx ((s.sq n.val).reg (fa (s.seqWord n.val))) (fimm (s.seqWord n.val))) = some o → o % 4 = 0 →
    ∃ t, exec (.st n c k) s = .next t ∧
      (t.sq n.val).dram = tsetBytes (s.sq n.val).dram 0 o (leBytes 4 ((s.sq n.val).reg (fd (s.seqWord n.val)))) ∧
      (t.sq n.val).pc = ((s.sq n.val).pc + 4) % 65536 ∧ (t.sq n.val).g = (s.sq n.val).g ∧ (t.sq n.val).cycle = ((s.sq n.val).cycle + 1) % 2 ^ 32 ∧
      (t.sq n.val).iram = (s.sq n.val).iram ∧ { t with seqs := s.seqs } = s) ∧
  (∀ (n : Fin 4) (c k a : Nat) (s : State), s.seqAt n.val 0x19 = true → s.seqs.length = 4 →
    addSx ((s.sq n.val).reg (fa (s.seqWord n.val))) (fimm (s.seqWord n.val)) = a → localOff n.val a = none →
    a % 4 = 0 → (s.sq n.val).posted.length < 4 → ∃ t, exec (.st n c k) s = .next t ∧
      (t.sq n.val).posted = (s.sq n.val).posted ++ [⟨a, BitVec.ofNat 32 ((s.sq n.val).reg (fd (s.seqWord n.val))), (s.sq n.val).pc⟩] ∧
      (t.sq n.val).pc = ((s.sq n.val).pc + 4) % 65536 ∧ (t.sq n.val).g = (s.sq n.val).g ∧ (t.sq n.val).cycle = ((s.sq n.val).cycle + 1) % 2 ^ 32 ∧
      (t.sq n.val).dram = (s.sq n.val).dram ∧ { t with seqs := s.seqs } = s) ∧
  (∀ (n : Fin 4) (c k : Nat) (s : State), s.seqAt n.val 0x1A = true → s.seqs.length = 4 → (s.sq n.val).g.length = 16 →
    (s.sq n.val).posted = [] → ∃ t, exec (.fence n c k) s = .next t ∧
      (t.sq n.val).pc = ((s.sq n.val).pc + 4) % 65536 ∧ (t.sq n.val).cycle = ((s.sq n.val).cycle + 1) % 2 ^ 32 ∧
      (t.sq n.val).st = (if (s.sq n.val).haltReq = true then .halted else .run) ∧
      { t.sq n.val with
        pc := (s.sq n.val).pc, cycle := (s.sq n.val).cycle, runCycles := (s.sq n.val).runCycles, entry := (s.sq n.val).entry
        st := (s.sq n.val).st, busy := (s.sq n.val).busy, haltReq := (s.sq n.val).haltReq, wake := (s.sq n.val).wake } = s.sq n.val ∧
      (∀ m : Fin 4, m ≠ n → t.sq m.val = s.sq m.val) ∧ { t with seqs := s.seqs } = s) ∧
  (∀ (n : Fin 4) (s : State), s.seqAt n.val 0x20 = true → s.seqs.length = 4 → (s.sq n.val).g.length = 16 →
    ∃ t, exec (.beq n) s = .next t ∧
      let w := s.seqWord n.val;
      let a := BitVec.ofNat 32 ((s.sq n.val).reg (fd w));
      let b := BitVec.ofNat 32 ((s.sq n.val).reg (fa w));
      if a = b then s.seqDid t n.val 0 0 (BitVec.ofNat 16 (s.sq n.val).pc + 4 * (BitVec.ofNat 18 (fimm w)).signExtend 16).toNat 2
      else s.seqDid t n.val 0 0 ((s.sq n.val).pc + 4) 1) ∧
  (∀ (n : Fin 4) (s : State), s.seqAt n.val 0x21 = true → s.seqs.length = 4 → (s.sq n.val).g.length = 16 →
    ∃ t, exec (.bne n) s = .next t ∧
      let w := s.seqWord n.val;
      let a := BitVec.ofNat 32 ((s.sq n.val).reg (fd w));
      let b := BitVec.ofNat 32 ((s.sq n.val).reg (fa w));
      if a ≠ b then s.seqDid t n.val 0 0 (BitVec.ofNat 16 (s.sq n.val).pc + 4 * (BitVec.ofNat 18 (fimm w)).signExtend 16).toNat 2
      else s.seqDid t n.val 0 0 ((s.sq n.val).pc + 4) 1) ∧
  (∀ (n : Fin 4) (s : State), s.seqAt n.val 0x22 = true → s.seqs.length = 4 → (s.sq n.val).g.length = 16 →
    ∃ t, exec (.blt n) s = .next t ∧
      let w := s.seqWord n.val;
      let a := BitVec.ofNat 32 ((s.sq n.val).reg (fd w));
      let b := BitVec.ofNat 32 ((s.sq n.val).reg (fa w));
      if a.slt b = true then s.seqDid t n.val 0 0 (BitVec.ofNat 16 (s.sq n.val).pc + 4 * (BitVec.ofNat 18 (fimm w)).signExtend 16).toNat 2
      else s.seqDid t n.val 0 0 ((s.sq n.val).pc + 4) 1) ∧
  (∀ (n : Fin 4) (s : State), s.seqAt n.val 0x23 = true → s.seqs.length = 4 → (s.sq n.val).g.length = 16 →
    ∃ t, exec (.bge n) s = .next t ∧
      let w := s.seqWord n.val;
      let a := BitVec.ofNat 32 ((s.sq n.val).reg (fd w));
      let b := BitVec.ofNat 32 ((s.sq n.val).reg (fa w));
      if b.sle a = true then s.seqDid t n.val 0 0 (BitVec.ofNat 16 (s.sq n.val).pc + 4 * (BitVec.ofNat 18 (fimm w)).signExtend 16).toNat 2
      else s.seqDid t n.val 0 0 ((s.sq n.val).pc + 4) 1) ∧
  (∀ (n : Fin 4) (s : State), s.seqAt n.val 0x24 = true → s.seqs.length = 4 → (s.sq n.val).g.length = 16 →
    ∃ t, exec (.bltu n) s = .next t ∧
      let w := s.seqWord n.val;
      let a := BitVec.ofNat 32 ((s.sq n.val).reg (fd w));
      let b := BitVec.ofNat 32 ((s.sq n.val).reg (fa w));
      if a < b then s.seqDid t n.val 0 0 (BitVec.ofNat 16 (s.sq n.val).pc + 4 * (BitVec.ofNat 18 (fimm w)).signExtend 16).toNat 2
      else s.seqDid t n.val 0 0 ((s.sq n.val).pc + 4) 1) ∧
  (∀ (n : Fin 4) (s : State), s.seqAt n.val 0x25 = true → s.seqs.length = 4 → (s.sq n.val).g.length = 16 →
    ∃ t, exec (.bgeu n) s = .next t ∧
      let w := s.seqWord n.val;
      let a := BitVec.ofNat 32 ((s.sq n.val).reg (fd w));
      let b := BitVec.ofNat 32 ((s.sq n.val).reg (fa w));
      if b ≤ a then s.seqDid t n.val 0 0 (BitVec.ofNat 16 (s.sq n.val).pc + 4 * (BitVec.ofNat 18 (fimm w)).signExtend 16).toNat 2
      else s.seqDid t n.val 0 0 ((s.sq n.val).pc + 4) 1) ∧
  (∀ (n : Fin 4) (s : State), s.seqAt n.val 0x28 = true → s.seqs.length = 4 → (s.sq n.val).g.length = 16 →
    ∃ t, exec (.jmp n) s = .next t ∧
      s.seqDid t n.val 0 0 (4 * (s.seqWord n.val % 2 ^ 14)) 2) ∧
  (∀ (n : Fin 4) (s : State), s.seqAt n.val 0x29 = true → s.seqs.length = 4 → (s.sq n.val).g.length = 16 →
    ∃ t, exec (.call n) s = .next t ∧
      s.seqDid t n.val 15 (((s.sq n.val).pc + 4) % 2 ^ 32) (4 * (s.seqWord n.val % 2 ^ 14)) 2) ∧
  (∀ (n : Fin 4) (s : State), s.seqAt n.val 0x2A = true → s.seqs.length = 4 → (s.sq n.val).g.length = 16 →
    ∃ t, exec (.jr n) s = .next t ∧
      s.seqDid t n.val 0 0 ((s.sq n.val).reg (fa (s.seqWord n.val))) 2) ∧
  (∀ (n : Fin 4) (s : State), s.seqAt n.val 0x30 = true → s.seqs.length = 4 → (s.sq n.val).g.length = 16 →
    s.sysReg n.val (fn (s.seqWord n.val)) < 2 ^ 32 → ∃ t, exec (.mfs n) s = .next t ∧
      s.seqDid t n.val (fd (s.seqWord n.val)) (s.sysReg n.val (fn (s.seqWord n.val))) ((s.sq n.val).pc + 4) 1) ∧
  (∀ (n : Fin 4) (s : State), s.seqAt n.val 0x31 = true → s.seqs.length = 4 → ∃ t, exec (.mts n) s = .next t ∧
      let v := (s.sq n.val).reg (fa (s.seqWord n.val));
      (if fn (s.seqWord n.val) = 1 then (t.sq n.val).im = v.testBit 0 ∧ (t.sq n.val).vbase = (s.sq n.val).vbase
      else if fn (s.seqWord n.val) = 4 then (t.sq n.val).vbase = v / 4096 % 16 * 4096 ∧ (t.sq n.val).im = (s.sq n.val).im
      else (t.sq n.val).im = (s.sq n.val).im ∧ (t.sq n.val).vbase = (s.sq n.val).vbase) ∧
      (t.sq n.val).cl = (s.sq n.val).cl ∧ (t.sq n.val).icause = (s.sq n.val).icause ∧ (t.sq n.val).stack = (s.sq n.val).stack ∧
      (t.sq n.val).pc = ((s.sq n.val).pc + 4) % 65536 ∧ (t.sq n.val).g = (s.sq n.val).g)

/-- Which instructions are illegal, and that one has no effect but its fault. An opcode that is not in the table, a
reserved field that is not zero, SHI with IMM[6:5] = 3, JR to an address that is not a multiple of 4 and RETI with
an empty return stack each put the sequencer in FAULT with the cause, the PC and the source recorded, and leave its
registers, its PC, its return stack, its RAMs and its posted stores as they were. -/
def Obligations.IllegalInstructions : Prop :=
  (∀ (n : Fin 4) (s : State), s.seqRuns n.val = true → s.seqs.length = 4 → (s.sq n.val).pc < 65536 →
    opOf (s.seqWord n.val) ∉ [0, 1, 2, 3, 4, 5, 6, 7, 8, 9, 0x10, 0x11, 0x12, 0x13, 0x14, 0x15, 0x18, 0x19, 0x1A, 0x20, 0x21, 0x22, 0x23, 0x24, 0x25,
  0x28, 0x29, 0x2A, 0x30, 0x31, 0x32, 0x33, 0x34, 0x35] →
    ∃ t, exec (.illegalInstruction n) s = .next t ∧
      (t.sq n.val) = { s.sq n.val with st := .fault, entry := false } ∧ t.fgi F.TSQ_FSTATn_ILLEGAL n.val = 1 ∧
      t.fgi F.TSQ_FPCn_VALUE n.val = (s.sq n.val).pc ∧ t.pend (144 + n.val) = true ∧ t.table = s.table ∧ t.fab = s.fab) ∧
  (∀ (n : Fin 4) (s : State), s.seqRuns n.val = true → s.seqs.length = 4 → (s.sq n.val).pc < 65536 →
    opOf (s.seqWord n.val) ≤ 9 → (s.seqWord n.val) % 2 ^ 14 ≠ 0 → ∃ t, exec (.illegalInstruction n) s = .next t ∧
      (t.sq n.val) = { s.sq n.val with st := .fault, entry := false } ∧ t.fgi F.TSQ_FSTATn_ILLEGAL n.val = 1 ∧
      t.fgi F.TSQ_FPCn_VALUE n.val = (s.sq n.val).pc ∧ t.pend (144 + n.val) = true ∧ t.table = s.table ∧ t.fab = s.fab) ∧
  (∀ (n : Fin 4) (s : State), s.seqRuns n.val = true → s.seqs.length = 4 → (s.sq n.val).pc < 65536 →
    opOf (s.seqWord n.val) = 0x14 → fimm (s.seqWord n.val) / 2 ^ 7 ≠ 0 →
    ∃ t, exec (.illegalInstruction n) s = .next t ∧
      (t.sq n.val) = { s.sq n.val with st := .fault, entry := false } ∧ t.fgi F.TSQ_FSTATn_ILLEGAL n.val = 1 ∧
      t.fgi F.TSQ_FPCn_VALUE n.val = (s.sq n.val).pc ∧ t.pend (144 + n.val) = true ∧ t.table = s.table ∧ t.fab = s.fab) ∧
  (∀ (n : Fin 4) (s : State), s.seqRuns n.val = true → s.seqs.length = 4 → (s.sq n.val).pc < 65536 →
    opOf (s.seqWord n.val) = 0x15 → (fa (s.seqWord n.val) ≠ 0 ∨ fimm (s.seqWord n.val) / 2 ^ 14 ≠ 0) →
    ∃ t, exec (.illegalInstruction n) s = .next t ∧
      (t.sq n.val) = { s.sq n.val with st := .fault, entry := false } ∧ t.fgi F.TSQ_FSTATn_ILLEGAL n.val = 1 ∧
      t.fgi F.TSQ_FPCn_VALUE n.val = (s.sq n.val).pc ∧ t.pend (144 + n.val) = true ∧ t.table = s.table ∧ t.fab = s.fab) ∧
  (∀ (n : Fin 4) (s : State), s.seqRuns n.val = true → s.seqs.length = 4 → (s.sq n.val).pc < 65536 →
    (opOf (s.seqWord n.val) = 0x28 ∨ opOf (s.seqWord n.val) = 0x29) → (s.seqWord n.val) / 2 ^ 14 % 2 ^ 12 ≠ 0 →
    ∃ t, exec (.illegalInstruction n) s = .next t ∧
      (t.sq n.val) = { s.sq n.val with st := .fault, entry := false } ∧ t.fgi F.TSQ_FSTATn_ILLEGAL n.val = 1 ∧
      t.fgi F.TSQ_FPCn_VALUE n.val = (s.sq n.val).pc ∧ t.pend (144 + n.val) = true ∧ t.table = s.table ∧ t.fab = s.fab) ∧
  (∀ (n : Fin 4) (s : State), s.seqRuns n.val = true → s.seqs.length = 4 → (s.sq n.val).pc < 65536 →
    opOf (s.seqWord n.val) = 0x2A → (fd (s.seqWord n.val) ≠ 0 ∨ (s.seqWord n.val) % 2 ^ 18 ≠ 0) →
    ∃ t, exec (.illegalInstruction n) s = .next t ∧
      (t.sq n.val) = { s.sq n.val with st := .fault, entry := false } ∧ t.fgi F.TSQ_FSTATn_ILLEGAL n.val = 1 ∧
      t.fgi F.TSQ_FPCn_VALUE n.val = (s.sq n.val).pc ∧ t.pend (144 + n.val) = true ∧ t.table = s.table ∧ t.fab = s.fab) ∧
  (∀ (n : Fin 4) (s : State), s.seqRuns n.val = true → s.seqs.length = 4 → (s.sq n.val).pc < 65536 →
    opOf (s.seqWord n.val) = 0x30 → (fa (s.seqWord n.val) ≠ 0 ∨ (s.seqWord n.val) / 2 ^ 8 % 2 ^ 10 ≠ 0) →
    ∃ t, exec (.illegalInstruction n) s = .next t ∧
      (t.sq n.val) = { s.sq n.val with st := .fault, entry := false } ∧ t.fgi F.TSQ_FSTATn_ILLEGAL n.val = 1 ∧
      t.fgi F.TSQ_FPCn_VALUE n.val = (s.sq n.val).pc ∧ t.pend (144 + n.val) = true ∧ t.table = s.table ∧ t.fab = s.fab) ∧
  (∀ (n : Fin 4) (s : State), s.seqRuns n.val = true → s.seqs.length = 4 → (s.sq n.val).pc < 65536 →
    opOf (s.seqWord n.val) = 0x31 → (fd (s.seqWord n.val) ≠ 0 ∨ (s.seqWord n.val) / 2 ^ 8 % 2 ^ 10 ≠ 0) →
    ∃ t, exec (.illegalInstruction n) s = .next t ∧
      (t.sq n.val) = { s.sq n.val with st := .fault, entry := false } ∧ t.fgi F.TSQ_FSTATn_ILLEGAL n.val = 1 ∧
      t.fgi F.TSQ_FPCn_VALUE n.val = (s.sq n.val).pc ∧ t.pend (144 + n.val) = true ∧ t.table = s.table ∧ t.fab = s.fab) ∧
  (∀ (n : Fin 4) (s : State), s.seqRuns n.val = true → s.seqs.length = 4 → (s.sq n.val).pc < 65536 →
    opOf (s.seqWord n.val) = 0x32 → (s.seqWord n.val) / 2 ^ 4 % 2 ^ 22 ≠ 0 →
    ∃ t, exec (.illegalInstruction n) s = .next t ∧
      (t.sq n.val) = { s.sq n.val with st := .fault, entry := false } ∧ t.fgi F.TSQ_FSTATn_ILLEGAL n.val = 1 ∧
      t.fgi F.TSQ_FPCn_VALUE n.val = (s.sq n.val).pc ∧ t.pend (144 + n.val) = true ∧ t.table = s.table ∧ t.fab = s.fab) ∧
  (∀ (n : Fin 4) (s : State), s.seqRuns n.val = true → s.seqs.length = 4 → (s.sq n.val).pc < 65536 →
    (opOf (s.seqWord n.val) = 0x1A ∨ opOf (s.seqWord n.val) = 0x33 ∨ opOf (s.seqWord n.val) = 0x34 ∨ opOf (s.seqWord n.val) = 0x35) →
    (s.seqWord n.val) % 2 ^ 26 ≠ 0 → ∃ t, exec (.illegalInstruction n) s = .next t ∧
      (t.sq n.val) = { s.sq n.val with st := .fault, entry := false } ∧ t.fgi F.TSQ_FSTATn_ILLEGAL n.val = 1 ∧
      t.fgi F.TSQ_FPCn_VALUE n.val = (s.sq n.val).pc ∧ t.pend (144 + n.val) = true ∧ t.table = s.table ∧ t.fab = s.fab) ∧
  (∀ (n : Fin 4) (s : State), s.seqRuns n.val = true → s.seqs.length = 4 → (s.sq n.val).pc < 65536 →
    opOf (s.seqWord n.val) = 0x14 → fimm (s.seqWord n.val) / 2 ^ 5 % 4 = 3 →
    ∃ t, exec (.illegalInstruction n) s = .next t ∧
      (t.sq n.val) = { s.sq n.val with st := .fault, entry := false } ∧ t.fgi F.TSQ_FSTATn_ILLEGAL n.val = 1 ∧
      t.fgi F.TSQ_FPCn_VALUE n.val = (s.sq n.val).pc ∧ t.pend (144 + n.val) = true ∧ t.table = s.table ∧ t.fab = s.fab) ∧
  (∀ (n : Fin 4) (s : State), s.seqRuns n.val = true → s.seqs.length = 4 → (s.sq n.val).pc < 65536 →
    opOf (s.seqWord n.val) = 0x2A → (s.sq n.val).reg (fa (s.seqWord n.val)) % 4 ≠ 0 →
    ∃ t, exec (.illegalInstruction n) s = .next t ∧
      (t.sq n.val) = { s.sq n.val with st := .fault, entry := false } ∧ t.fgi F.TSQ_FSTATn_ILLEGAL n.val = 1 ∧
      t.fgi F.TSQ_FPCn_VALUE n.val = (s.sq n.val).pc ∧ t.pend (144 + n.val) = true ∧ t.table = s.table ∧ t.fab = s.fab) ∧
  (∀ (n : Fin 4) (s : State), s.seqRuns n.val = true → s.seqs.length = 4 → (s.sq n.val).pc < 65536 →
    opOf (s.seqWord n.val) = 0x34 → (s.sq n.val).stack = [] → ∃ t, exec (.illegalInstruction n) s = .next t ∧
      (t.sq n.val) = { s.sq n.val with st := .fault, entry := false } ∧ t.fgi F.TSQ_FSTATn_ILLEGAL n.val = 1 ∧
      t.fgi F.TSQ_FPCn_VALUE n.val = (s.sq n.val).pc ∧ t.pend (144 + n.val) = true ∧ t.table = s.table ∧ t.fab = s.fab)

/-- Delivery, entry, exit, sleep, start, halt and the watchdog of a sequencer. SIG raises its source and HALT halts;
WAIT sleeps unless a source is deliverable; the entry sequence pushes the return entry and enters the chosen source,
or is abandoned; RETI returns, ICAUSE then naming the source of the handler that runs on, or enters the next source
with its entry back on the stack; an event wakes a sleeping sequencer; START starts from ENTRY, in BOOT too, and has
the next health report give 0 for every delta (R515), and HALT stops, after an entry sequence or an access that is
in progress; a watchdog that has reached its period records it, restarts and halts if it is to. -/
def Obligations.SequencerInterruptsSleepAndRun : Prop :=
  (∀ (n : Fin 4) (c k : Nat) (s : State), s.seqAt n.val 0x32 = true → s.seqs.length = 4 → (s.sq n.val).posted = [] →
    ∃ t, exec (.sig n c k) s = .next t ∧
      t.pend (240 + fn (s.seqWord n.val) % 16) = true ∧ (s.pend (240 + fn (s.seqWord n.val) % 16) = true → t.bit F.ICU_OVRw_SRC 7 (16 + fn (s.seqWord n.val) % 16) = true) ∧
      (t.sq n.val).pc = ((s.sq n.val).pc + 4) % 65536 ∧ (t.sq n.val).g = (s.sq n.val).g ∧
      (t.sq n.val).st = (if (s.sq n.val).haltReq = true then .halted else .run)) ∧
  (∀ (n : Fin 4) (c k : Nat) (s : State), s.seqAt n.val 0x35 = true → s.seqs.length = 4 → (s.sq n.val).posted = [] →
    ∃ t, exec (.halt n c k) s = .next t ∧
      (t.sq n.val).st = .halted ∧ (t.sq n.val).pc = ((s.sq n.val).pc + 4) % 65536 ∧ (t.sq n.val).g = (s.sq n.val).g ∧ { t with seqs := s.seqs } = s) ∧
  (∀ (n : Fin 4) (s : State), s.seqAt n.val 0x33 = true → s.seqs.length = 4 → ∃ t, exec (.wait n) s = .next t ∧
      (t.sq n.val).pc = ((s.sq n.val).pc + 4) % 65536 ∧ (t.sq n.val).stack = (s.sq n.val).stack ∧ { t with seqs := s.seqs } = s ∧
      (if (s.sq n.val).im = true ∨ s.chosen n.val (s.sq n.val).cl = none then (t.sq n.val).st = .wait ∧ (t.sq n.val).wake = false else (t.sq n.val).st = .run ∧ (t.sq n.val).entry = true)) ∧
  (∀ (n : Fin 4) (src : Nat) (s : State), s.up = true → (s.sq n.val).st = .run → (s.sq n.val).entry = true →
    s.seqs.length = 4 → (s.sq n.val).im = false → s.chosen n.val (s.sq n.val).cl = some src →
    ∃ t, exec (.entrySequence n) s = .next t ∧
      (t.sq n.val).stack = ((s.sq n.val).pc, (s.sq n.val).cl) :: (s.sq n.val).stack ∧ (t.sq n.val).cl = s.fgi F.ICU_SRCCFGs_PRIO src ∧ (t.sq n.val).icause = src ∧
      (t.sq n.val).causes = (s.sq n.val).icause :: (s.sq n.val).causes ∧
      (t.sq n.val).pc = ((s.sq n.val).vbase + 16 * src) % 65536 ∧ t.pend src = false ∧ (t.sq n.val).cycle = ((s.sq n.val).cycle + 3) % 2 ^ 32 ∧ (t.sq n.val).g = (s.sq n.val).g ∧ (t.sq n.val).im = false ∧
      (t.sq n.val).entry = false ∧ ((s.sq n.val).haltReq = true → (t.sq n.val).st = .halted)) ∧
  (∀ (n : Fin 4) (s : State), s.up = true → (s.sq n.val).st = .run → (s.sq n.val).entry = true → s.seqs.length = 4 →
    ((s.sq n.val).im = true ∨ s.chosen n.val (s.sq n.val).cl = none) → ∃ t, exec (.entrySequence n) s = .next t ∧
      (t.sq n.val).stack = (s.sq n.val).stack ∧ (t.sq n.val).pc = (s.sq n.val).pc ∧ (t.sq n.val).cl = (s.sq n.val).cl ∧ (t.sq n.val).entry = false ∧ (t.sq n.val).cycle = ((s.sq n.val).cycle + 3) % 2 ^ 32 ∧
      t.fg F.ICU_SPUR = Nat.min (s.fg F.ICU_SPUR + 1) (2 ^ 32 - 1) ∧ ((s.sq n.val).haltReq = true → (t.sq n.val).st = .halted)) ∧
  (∀ (n : Fin 4) (pc cl : Nat) (r : List (Nat × Nat)) (s : State), s.seqAt n.val 0x34 = true → s.seqs.length = 4 →
    (s.sq n.val).stack = (pc, cl) :: r → ((s.sq n.val).im = true ∨ s.chosen n.val cl = none) →
    ∃ t, exec (.reti n) s = .next t ∧
      (t.sq n.val).stack = r ∧ (t.sq n.val).pc = pc ∧ (t.sq n.val).cl = cl ∧ (t.sq n.val).cycle = ((s.sq n.val).cycle + 3) % 2 ^ 32 ∧ (t.sq n.val).g = (s.sq n.val).g ∧ t.regs = s.regs ∧
      (t.sq n.val).icause = (if cl = 16 then 0x100 else (s.sq n.val).causes.headD 0x100) ∧
      (t.sq n.val).causes = (s.sq n.val).causes.tail) ∧
  (∀ (n : Fin 4) (pc cl src : Nat) (r : List (Nat × Nat)) (s : State), s.seqAt n.val 0x34 = true → s.seqs.length = 4 →
    (s.sq n.val).stack = (pc, cl) :: r → (s.sq n.val).im = false → s.chosen n.val cl = some src →
    ∃ t, exec (.reti n) s = .next t ∧
      (t.sq n.val).stack = (pc, cl) :: r ∧ (t.sq n.val).cl = s.fgi F.ICU_SRCCFGs_PRIO src ∧ (t.sq n.val).icause = src ∧ (t.sq n.val).pc = ((s.sq n.val).vbase + 16 * src) % 65536 ∧
      t.pend src = false ∧ (t.sq n.val).cycle = ((s.sq n.val).cycle + 3) % 2 ^ 32) ∧
  (∀ (n : Fin 4) (k : Nat) (s : State), s.up = true → (s.sq n.val).st = .wait → (s.sq n.val).wake = true →
    s.seqs.length = 4 → ∃ t, exec (.waitWake n k) s = .next t ∧
      (t.sq n.val).st = .run ∧ (t.sq n.val).wake = false ∧ (t.sq n.val).pc = (s.sq n.val).pc ∧ (t.sq n.val).cycle = ((s.sq n.val).cycle + Nat.max 2 k) % 2 ^ 32 ∧
      ((t.sq n.val).entry = true ↔ (s.sq n.val).im = false ∧ (s.chosen n.val (s.sq n.val).cl).isSome = true) ∧ { t with seqs := s.seqs } = s) ∧
  (∀ (n : Fin 4) (s : State), s.clocked = true → ((s.sq n.val).st = .halted ∨ (s.sq n.val).st = .fault) →
    s.seqs.length = 4 → s.flight n.val = none → ∃ t, exec (.tsqStart n) s = .next t ∧
      (t.sq n.val).st = .run ∧ (t.sq n.val).pc = 4 * s.fgi F.TSQ_ENTRYn_ENTRY n.val ∧ (t.sq n.val).im = true ∧ (t.sq n.val).cl = 16 ∧ (t.sq n.val).stack = [] ∧ (t.sq n.val).vbase = 0 ∧
      (t.sq n.val).cycle = 0 ∧ (t.sq n.val).g = (s.sq n.val).g ∧ (t.sq n.val).wdCount = 0 ∧
      t.port.health.started = false ∧
      { t with seqs := s.seqs, port := { t.port with health := { t.port.health with started := s.port.health.started } } } = s) ∧
  (∀ (n : Fin 4) (s : State), ((s.sq n.val).st = .run ∨ (s.sq n.val).st = .wait) → s.seqs.length = 4 →
    ∃ t, exec (.tsqHalt n) s = .next t ∧
      (if (s.sq n.val).st = .run ∧ ((s.sq n.val).entry = true ∨ (s.sq n.val).busy = true) then (t.sq n.val).st = .run ∧ (t.sq n.val).haltReq = true else (t.sq n.val).st = .halted) ∧
      (t.sq n.val).pc = (s.sq n.val).pc ∧ (t.sq n.val).posted = (s.sq n.val).posted ∧ (t.sq n.val).g = (s.sq n.val).g ∧ { t with seqs := s.seqs } = s) ∧
  (∀ (n : Fin 4) (s : State), ((s.sq n.val).st = .run ∨ (s.sq n.val).st = .wait) →
    s.fgi F.TSQ_WDCFGn_PERIOD n.val ≠ 0 → s.fgi F.TSQ_WDCFGn_PERIOD n.val ≤ (s.sq n.val).wdCount → s.seqs.length = 4 →
    ∃ t, exec (.watchdogExpiry n) s = .next t ∧
      t.fgi F.TSQ_FSTATn_WDOG n.val = 1 ∧ t.pend (148 + n.val) = true ∧ (t.sq n.val).wdCount = 0 ∧ (t.sq n.val).pc = (s.sq n.val).pc ∧
      (if s.fgi F.TSQ_WDCFGn_ACTION n.val = 1 ∧ ¬((s.sq n.val).st = .run ∧ ((s.sq n.val).entry = true ∨ (s.sq n.val).busy = true)) then (t.sq n.val).st = .halted else (t.sq n.val).st = (s.sq n.val).st)) ∧
  (∀ (n : Fin 4) (s : State), exec (.wdkick n) s = .next (s.setSq n.val { s.sq n.val with wdCount := 0 }))

/-- Semaphores, and the writes of the interrupt controller. A sequencer acquires a free semaphore and none other, its
owner alone frees it, and a master that is no sequencer changes nothing; a one in SET is an event on its source,
which sets PEND, or OVR where PEND was set; a one in PEND clears it, but that of a console that needs service is set
again, and a one in OVR clears that. -/
def Obligations.SemaphoresAndInterruptBits : Prop :=
  (∀ (k : Fin 16) (m : Fin 11) (s : State), m.val < 4 → s.fgi F.TSQ_SEMk_OWNER k.val = 7 →
    exec (.semAcq k m) s = .next (s.fsi F.TSQ_SEMk_OWNER k.val m.val)) ∧
  (∀ (k : Fin 16) (m : Fin 11) (s : State), (4 ≤ m.val ∨ s.fgi F.TSQ_SEMk_OWNER k.val ≠ 7) →
    exec (.semAcq k m) s = .next s) ∧
  (∀ (k : Fin 16) (m : Fin 11) (s : State), m.val < 4 → s.fgi F.TSQ_SEMk_OWNER k.val = m.val →
    exec (.semRel k m) s = .next (s.fsi F.TSQ_SEMk_OWNER k.val 7)) ∧
  (∀ (k : Fin 16) (m : Fin 11) (s : State), (4 ≤ m.val ∨ s.fgi F.TSQ_SEMk_OWNER k.val ≠ m.val) →
    exec (.semRel k m) s = .next s) ∧
  (∀ (w : Fin 8) (v : Word) (s : State), ∃ t, exec (.icuSet w v) s = .next t ∧
      ∀ b : Fin 32, t.pend (32 * w.val + b.val) = (s.pend (32 * w.val + b.val) || v.toNat.testBit b.val) ∧
      t.bit F.ICU_OVRw_SRC w.val b.val = (s.bit F.ICU_OVRw_SRC w.val b.val || (v.toNat.testBit b.val && s.pend (32 * w.val + b.val)))) ∧
  (∀ (w : Fin 8) (v : Word) (s : State), ∃ t, exec (.icuPendClear w v) s = .next t ∧
      ∀ b : Fin 32, 32 * w.val + b.val ≠ 138 →
      t.pend (32 * w.val + b.val) = (s.pend (32 * w.val + b.val) && !v.toNat.testBit b.val)) ∧
  (∀ (v : Word) (s : State), ∃ t, exec (.icuPendClear 4 v) s = .next t ∧
      t.pend 138 = ((s.pend 138 && !v.toNat.testBit 10) ||
        (s.up && s.flag F.SBI_UCFG_EN && (decide (Nat.max 1 (s.fg F.SBI_UCFG_RXTH) ≤ s.port.sbi.rx.length) ||
          decide (s.port.sbi.tx.length < s.fg F.SBI_UCFG_TXTH))))) ∧
  (∀ (w : Fin 8) (v : Word) (s : State), ∃ t, exec (.icuOvrClear w v) s = .next t ∧
      (∀ b : Fin 32, t.bit F.ICU_OVRw_SRC w.val b.val = (s.bit F.ICU_OVRw_SRC w.val b.val && !v.toNat.testBit b.val)) ∧
      (∀ k : Fin 256, t.pend k.val = s.pend k.val))

/-- Bursts of a master through the bus matrix. A burst whose bank grants another master, or a chunk fetch, stays in
flight with none of its beats done; of two masters that wait the one with the lower PRI is granted; a granted read
of a beat of table memory returns its bytes, corrects its words that hold a correctable error and changes no byte,
and one that meets an uncorrectable word is an error response with cause ECC; a read of two beats whose second bank
has not granted it yet has done the first; a whole write of a beat puts its bytes there, no other byte changes, and
it repairs the beat; a write by a guarded master to a guarded area is refused with PROTECT; a write in flight whose
master has been reset is completed, without an error response, with the data that the master had delivered and
without any that it had not, and is counted (the waiting masters, their waits and the errors of table memory that
have come about are the sender's, log 59). -/
def Obligations.BurstsOfTheMatrix : Prop :=
  (∀ (b : Burst) (g : Grant) (c : Claim) (tg : Nat) (s : State), s.dev ≠ .off → b.master < 11 →
    targetNo b.addr = some tg → tg < 8 → b.addr % 32 = 0 → s.port.flights = [] → g.turns = [c] → g.weak = [] →
    g.bad = [] → (b.master < 4 → (s.sq b.master).posted = []) → b.write = none → b.beats = 1 → b.master ≠ 4 →
    (winner tg ((b.master, c.waited) :: c.others) s ≠ some b.master ∨ (c.chunk = true ∧ c.cycle % 16 ≠ 15)) →
    exec (.matrixBurst b g) s = .next (s.setFlight b.master (some ⟨b, 0, [], g.delivered, c.cycle, c.waited, false⟩))) ∧
  (∀ (b : Burst) (g : Grant) (c : Claim) (tg k w : Nat) (s : State), s.dev ≠ .off → b.master < 11 →
    targetNo b.addr = some tg → tg < 8 → b.addr % 32 = 0 → s.port.flights = [] → g.turns = [c] → g.weak = [] →
    g.bad = [] → c.chunk = false → (b.master < 4 → (s.sq b.master).posted = []) → b.write = none → b.beats = 1 →
    s.fg F.MTX_AGE_CYCLES = 0 → c.others = [(k, w)] → k < 11 → s.priority tg b.master < s.priority tg k →
    s.beatBad b.addr = false → ∃ t, exec (.matrixBurst b g) s = .next t ∧
      t.rdata = leNat (mtxBytes s b.addr 32) ∧ t.table = s.table ∧ t.flight b.master = none ∧ t.fg F.MTX_ERRCNT = s.fg F.MTX_ERRCNT ∧
      tget 0 t.port.rr tg = (b.master + 1) % 11) ∧
  (∀ (b : Burst) (g : Grant) (c : Claim) (tg : Nat) (s : State), s.dev ≠ .off → b.master < 11 →
    targetNo b.addr = some tg → tg < 8 → b.addr % 32 = 0 → s.port.flights = [] → g.turns = [c] → g.weak = [] →
    g.bad = [] → c.others = [] → c.chunk = false → (b.master < 4 → (s.sq b.master).posted = []) → b.write = none →
    b.beats = 1 → s.beatBad b.addr = false → ∃ t, exec (.matrixBurst b g) s = .next t ∧
      t.rdata = leNat (mtxBytes s b.addr 32) ∧ t.table = s.table ∧ t.fg F.MTX_ERRCNT = s.fg F.MTX_ERRCNT ∧ t.flight b.master = none ∧
      t.fg F.MTX_ECCCOR = Nat.min (s.fg F.MTX_ECCCOR + (inBeat b.addr s.fab.weakWords).length) (2 ^ 32 - 1) ∧
      inBeat b.addr t.fab.weakWords = []) ∧
  (∀ (b : Burst) (g : Grant) (c : Claim) (tg k : Nat) (s : State), s.dev ≠ .off → b.master < 11 →
    targetNo b.addr = some tg → tg < 8 → b.addr % 32 = 0 → s.port.flights = [] → g.turns = [c] → g.weak = [] →
    g.bad = [b.addr / 8 + k] → k < 4 → c.others = [] → c.chunk = false → 4 ≤ b.master → b.write = none → b.beats = 1 →
    s.fab.badWords = [] → ∃ t, exec (.matrixBurst b g) s = .next t ∧
      t.table = s.table ∧ t.beatBad b.addr = true ∧ t.fg F.MTX_ECCUNC = Nat.min (s.fg F.MTX_ECCUNC + 1) (2 ^ 32 - 1) ∧
      t.fg F.MTX_ERRCNT = Nat.min (s.fg F.MTX_ERRCNT + 1) (2 ^ 32 - 1) ∧ t.fg F.MTX_ERRSTAT_CAUSE = 3 ∧
      t.fg F.MTX_ERRSTAT_MASTER = b.master ∧ t.fg F.MTX_ERRSTAT_WRITE = 0 ∧ t.pend 132 = true ∧ t.flight b.master = none) ∧
  (∀ (b : Burst) (g : Grant) (c : Claim) (tg : Nat) (s : State), s.dev ≠ .off → b.master < 11 →
    targetNo b.addr = some tg → tg < 8 → b.addr % 32 = 0 → s.port.flights = [] → g.turns = [c] → g.weak = [] →
    g.bad = [] → c.others = [] → c.chunk = false → (b.master < 4 → (s.sq b.master).posted = []) → b.write = none →
    b.beats = 2 → b.addr % 256 < 224 → s.beatBad b.addr = false → ∃ t, exec (.matrixBurst b g) s = .next t ∧
      t.flight b.master = some ⟨b, 1, mtxBytes s b.addr 32, g.delivered, c.cycle + 1, 0, false⟩ ∧ t.table = s.table ∧ t.rdata = s.rdata) ∧
  (∀ (b : Burst) (g : Grant) (c : Claim) (tg : Nat) (bytes : List Byte) (s : State), s.dev ≠ .off → b.master < 11 →
    targetNo b.addr = some tg → tg < 8 → b.addr % 32 = 0 → s.port.flights = [] → g.turns = [c] → g.weak = [] →
    g.bad = [] → c.others = [] → c.chunk = false → 4 ≤ b.master → b.write = some [(bytes, BitVec.allOnes 32)] →
    bytes.length = 32 → (guardedMaster b.master && s.guarded b.addr) = false →
    ∃ t, exec (.matrixBurst b g) s = .next t ∧
      (∀ k : Fin 32, t.mem8 (b.addr + k.val) = bytes.getD k.val 0) ∧
      (∀ a : Nat, a < b.addr ∨ b.addr + 32 ≤ a → t.mem8 a = s.mem8 a) ∧ t.fg F.MTX_ERRCNT = s.fg F.MTX_ERRCNT ∧
      t.beatBad b.addr = false ∧ inBeat b.addr t.fab.weakWords = []) ∧
  (∀ (b : Burst) (g : Grant) (c : Claim) (tg : Nat) (bytes : List Byte) (s : State), s.dev ≠ .off → b.master < 11 →
    targetNo b.addr = some tg → tg < 8 → b.addr % 32 = 0 → s.port.flights = [] → g.turns = [c] → g.weak = [] →
    g.bad = [] → c.others = [] → c.chunk = false → 4 ≤ b.master → guardedMaster b.master = true →
    s.guarded b.addr = true → b.write = some [(bytes, BitVec.allOnes 32)] → ∃ t, exec (.matrixBurst b g) s = .next t ∧
      t.table = s.table ∧ t.fg F.MTX_ERRCNT = Nat.min (s.fg F.MTX_ERRCNT + 1) (2 ^ 32 - 1) ∧ t.fg F.MTX_ERRSTAT_CAUSE = 6 ∧
      t.fg F.MTX_ERRSTAT_VALID = 1 ∧ t.fg F.MTX_ERRSTAT_WRITE = 1 ∧ t.fg F.MTX_ERRSTAT_MASTER = b.master ∧ t.pend 132 = true ∧
      t.flight b.master = none) ∧
  (∀ (b : Burst) (g : Grant) (f : InFlight) (bytes : List Byte) (s : State), s.dev ≠ .off → b.master = 4 →
    b.addr % 256 = 0 → b.addr < 0x1000000 → b.write = none → b.beats = 1 → g.turns = [] → g.weak = [] → g.bad = [] →
    s.port.flights = [(10, some f)] → f.reset = true → f.done = 0 → f.burst.master = 10 → f.burst.addr % 32 = 0 →
    f.burst.addr < 0x1000000 → f.burst.write = some [(bytes, BitVec.allOnes 32)] → bytes.length = 32 →
    s.guarded f.burst.addr = false → ∃ t, exec (.matrixBurst b g) s = .next t ∧
      t.flight 10 = none ∧ t.fg F.MTX_RSTCNT = Nat.min (s.fg F.MTX_RSTCNT + 1) (2 ^ 32 - 1) ∧ t.fg F.MTX_ERRCNT = s.fg F.MTX_ERRCNT ∧
      (∀ k : Fin 32, t.mem8 (f.burst.addr + k.val) = if f.delivered = 0 then s.mem8 (f.burst.addr + k.val) else bytes.getD k.val 0) ∧
      (∀ a : Nat, a < f.burst.addr ∨ f.burst.addr + 32 ≤ a → t.mem8 a = s.mem8 a))

/-- The work of a crane channel. START gives an idle channel its first descriptor and is an error on a busy one; while
the other channels have nothing to do, an empty descriptor moves nothing, a fill descriptor of one word writes its
word, a copy within one 256-byte page each of table memory, and one of up to two whole pages to a place that it does
not overlap, writes the bytes found at the source, and the last descriptor ends the transfer; a descriptor that
cannot be read stops the channel with its cause; a channel whose burst would take a window past CRN.ENGLIM waits and
moves nothing, and reads its beat when the limit lets it; ABORT stops a busy channel, and completes a burst in
flight: of a write, the beats whose data had been delivered. -/
def Obligations.TheCranes : Prop :=
  (∀ (c : Fin 4) (s : State), (s.crane c.val).busy = false → s.port.cranes.length = 4 →
    ∃ t, exec (.craneStart c) s = .next t ∧
      t.crane c.val = { Crane.init with toRead := some (32 * s.fgi F.CRN_CHDESCc_ADDR c.val) } ∧ t.regs = s.regs ∧ t.table = s.table) ∧
  (∀ (c : Fin 4) (s : State), (s.crane c.val).busy = true →
    exec (.craneStart c) s = .next (s.fsi F.CRN_CHSTATc_WERR c.val 1)) ∧
  (∀ (c : Fin 4) (s : State), (s.crane c.val).busy = true → s.port.cranes.length = 4 →
    ∃ t, exec (.craneAbort c none) s = .next t ∧
      t.crane c.val = Crane.init ∧ t.fgi F.CRN_CHSTATc_ABORTED c.val = 1 ∧ t.table = s.table ∧ t.pend (128 + c.val) = s.pend (128 + c.val)) ∧
  (∀ (c : Fin 4) (k : CraneAt) (a : Nat) (s : State), s.craneReady c.val = true → (s.crane c.val).held = false →
    (s.crane c.val).toRead = some a → a < 0x1000000 → s.port.flights = [] → s.port.cranes.length = 4 →
    ∃ t, exec (.craneAbort c (some k)) s = .next t ∧
      t.crane c.val = Crane.init ∧ t.fgi F.CRN_CHSTATc_ABORTED c.val = 1 ∧ t.table = s.table ∧
      t.fg F.MTX_RSTCNT = Nat.min (s.fg F.MTX_RSTCNT + 1) (2 ^ 32 - 1) ∧ t.fg F.MTX_ERRCNT = s.fg F.MTX_ERRCNT) ∧
  (∀ (c : Fin 4) (k : CraneAt) (d : CraneDesc) (s : State), s.craneReady c.val = true → (s.crane c.val).held = false →
    (s.crane c.val).toRead = none → (s.crane c.val).cur = some d → (s.crane c.val).moved = 0 → s.port.flights = [] →
    s.port.cranes.length = 4 → d.fill = true → d.fixdst = false → d.len = 64 → d.dst % 256 = 0 → d.dst < 0x1000000 →
    s.guarded d.dst = false → s.guarded (d.dst + 32) = false → k.delivered = 1 →
    ∃ t, exec (.craneAbort c (some k)) s = .next t ∧
      t.crane c.val = Crane.init ∧ t.fgi F.CRN_CHSTATc_ABORTED c.val = 1 ∧
      t.fg F.MTX_RSTCNT = Nat.min (s.fg F.MTX_RSTCNT + 1) (2 ^ 32 - 1) ∧
      (∀ i : Fin 32, t.mem8 (d.dst + i.val) = (leBytes 4 d.src).getD (i.val % 4) 0) ∧
      (∀ a : Nat, a < d.dst ∨ d.dst + 32 ≤ a → t.mem8 a = s.mem8 a)) ∧
  (∀ (c : Fin 4) (n : CraneAt) (d : CraneDesc) (s : State), s.craneReady c.val = true → (s.crane c.val).held = false →
    (s.crane c.val).toRead = none → (s.crane c.val).cur = some d → (∀ k : Fin 4, k ≠ c → s.craneReady k.val = false) →
    s.port.flights = [] → s.port.cranes.length = 4 → d.len = 0 →
    ∃ t, exec (.craneDescriptorComplete c n) s = .next t ∧
      (if d.last = true then t.crane c.val = Crane.init ∧ t.fgi F.CRN_CHSTATc_DONE c.val = 1 ∧ t.fg F.CRN_XFERCNT = Nat.min (s.fg F.CRN_XFERCNT + 1) (2 ^ 32 - 1)
      else t.crane c.val = { Crane.init with toRead := some d.next }) ∧ t.table = s.table ∧ (d.irq = true → t.pend (128 + c.val) = true)) ∧
  (∀ (c : Fin 4) (n : CraneAt) (d : CraneDesc) (s : State), s.craneReady c.val = true → (s.crane c.val).held = false →
    (s.crane c.val).toRead = none → (s.crane c.val).cur = some d → (∀ k : Fin 4, k ≠ c → s.craneReady k.val = false) →
    s.port.flights = [] → s.port.cranes.length = 4 → d.len = 4 → (s.crane c.val).moved = 0 → d.fill = true →
    d.src < 2 ^ 32 → d.last = true → d.dst % 4 = 0 → d.dst < 0x1000000 → s.guarded d.dst = false →
    s.beatBad d.dst = false → ∃ t, exec (.craneDescriptorComplete c n) s = .next t ∧
      t.crane c.val = Crane.init ∧ t.fgi F.CRN_CHSTATc_DONE c.val = 1 ∧
      t.fg F.CRN_XFERCNT = Nat.min (s.fg F.CRN_XFERCNT + 1) (2 ^ 32 - 1) ∧
      t.mem32 d.dst = d.src ∧ (∀ a : Nat, a < d.dst ∨ d.dst + 4 ≤ a → t.mem8 a = s.mem8 a)) ∧
  (∀ (c : Fin 4) (n : CraneAt) (d : CraneDesc) (s : State), s.craneReady c.val = true → (s.crane c.val).held = false →
    (s.crane c.val).toRead = none → (s.crane c.val).cur = some d → (∀ k : Fin 4, k ≠ c → s.craneReady k.val = false) →
    s.port.flights = [] → s.port.cranes.length = 4 → (s.crane c.val).moved = 0 → (s.crane c.val).buf = none →
    d.fill = false → d.fixdst = false → d.last = true → d.src < 0x1000000 → d.dst < 0x1000000 → d.src % 4 = 0 →
    d.dst % 4 = 0 → d.len % 4 = 0 → 0 < d.len → d.src % 256 + d.len ≤ 256 → d.dst % 256 + d.len ≤ 256 →
    s.guarded d.dst = false → (∀ k : Fin 8, s.guarded (d.dst / 256 * 256 + 32 * k.val) = false) →
    (∀ k : Fin 8, s.beatBad (d.src / 256 * 256 + 32 * k.val) = false ∧ s.beatBad (d.dst / 256 * 256 + 32 * k.val) = false) →
    ∃ t, exec (.craneDescriptorComplete c n) s = .next t ∧
      t.crane c.val = Crane.init ∧ t.fgi F.CRN_CHSTATc_DONE c.val = 1 ∧
      t.fg F.CRN_XFERCNT = Nat.min (s.fg F.CRN_XFERCNT + 1) (2 ^ 32 - 1) ∧
      (∀ k : Nat, k < d.len → t.mem8 (d.dst + k) = s.mem8 (d.src + k)) ∧
      (∀ a : Nat, a < d.dst ∨ d.dst + d.len ≤ a → t.mem8 a = s.mem8 a)) ∧
  (∀ (c : Fin 4) (n : CraneAt) (d : CraneDesc) (s : State), s.craneReady c.val = true → (s.crane c.val).held = false →
    (s.crane c.val).toRead = none → (s.crane c.val).cur = some d → (∀ k : Fin 4, k ≠ c → s.craneReady k.val = false) →
    s.port.flights = [] → s.port.cranes.length = 4 → (s.crane c.val).moved = 0 → (s.crane c.val).buf = none →
    d.fill = false → d.fixdst = false → d.last = true → d.src + 512 ≤ 0x1000000 → d.dst + 512 ≤ 0x1000000 →
    d.src % 256 = 0 → d.dst % 256 = 0 → d.len = 512 → (d.src + 512 ≤ d.dst ∨ d.dst + 512 ≤ d.src) →
    (∀ k : Fin 16, s.guarded (d.dst + 32 * k.val) = false) → (∀ k : Fin 16, s.beatBad (d.src + 32 * k.val) = false) →
    ∃ t, exec (.craneDescriptorComplete c n) s = .next t ∧
      t.crane c.val = Crane.init ∧ t.fgi F.CRN_CHSTATc_DONE c.val = 1 ∧
      t.fg F.CRN_XFERCNT = Nat.min (s.fg F.CRN_XFERCNT + 1) (2 ^ 32 - 1) ∧
      (∀ k : Nat, k < 512 → t.mem8 (d.dst + k) = s.mem8 (d.src + k)) ∧
      (∀ a : Nat, a < d.dst ∨ d.dst + 512 ≤ a → t.mem8 a = s.mem8 a)) ∧
  (∀ (c : Fin 4) (n : CraneAt) (a : Nat) (s : State), s.craneReady c.val = true → (s.crane c.val).held = false →
    (∀ k : Fin 4, k ≠ c → s.craneReady k.val = false) → s.port.flights = [] → s.port.cranes.length = 4 →
    (s.crane c.val).toRead = some a → 0x1000000 ≤ a → a < 0x10000000 → ∃ t, exec (.craneError c n) s = .next t ∧
      t.crane c.val = Crane.init ∧ t.fgi F.CRN_CHSTATc_ERR c.val = 1 ∧ t.fgi F.CRN_CHSTATc_ERRCODE c.val = 1 ∧ t.fgi F.CRN_CHCURc_ADDR c.val = a ∧
      t.pend (128 + c.val) = true ∧ t.fg F.CRN_ERRCNT = Nat.min (s.fg F.CRN_ERRCNT + 1) (2 ^ 32 - 1) ∧ t.table = s.table) ∧
  (∀ (c : Fin 4) (n : CraneAt) (p o : Nat) (d : CraneDesc) (s : State), s.craneReady c.val = true →
    (s.crane c.val).held = false → (s.crane c.val).toRead = none → (s.crane c.val).cur = some d →
    (∀ k : Fin 4, k ≠ c → s.craneReady k.val = false) → s.port.flights = [] → s.port.cranes.length = 4 →
    (s.crane c.val).moved = 0 → (s.crane c.val).buf = none → d.len = 4 → d.fill = false → target d.src = .win p o →
    s.fg F.CRN_ENGLIM_BEATS ≠ 0 → s.fg F.CRN_ENGLIM_BEATS < tget 0 s.port.craneBeats p + 1 →
    ∃ t, exec (.craneDescriptorComplete c n) s = .next t ∧
      t.crane c.val = { s.crane c.val with held := true } ∧ t.table = s.table ∧ t.fab = s.fab ∧ t.regs = s.regs ∧ t.port.craneBeats = s.port.craneBeats) ∧
  (∀ (c : Fin 4) (n : CraneAt) (p o : Nat) (d : CraneDesc) (s : State), s.craneReady c.val = true →
    (s.crane c.val).held = true → (s.crane c.val).toRead = none → (s.crane c.val).cur = some d → s.port.flights = [] →
    s.port.cranes.length = 4 → d.len = 4 → (s.crane c.val).moved = 0 → (s.crane c.val).buf = none → d.fill = false →
    target d.src = .win p o → d.src % 4 = 0 → s.engState p ≠ 2 → s.dev ≠ .safe →
    (s.fg F.CRN_ENGLIM_BEATS = 0 ∨ tget 0 s.port.craneBeats p + 1 ≤ s.fg F.CRN_ENGLIM_BEATS) →
    ∃ t, exec (.craneEngineLimitResume c n) s = .next t ∧
      t.crane c.val = { s.crane c.val with held := false, buf := some ((List.range 4).map fun k => winByte s p (o + k)) } ∧
      t.table = s.table ∧ tget 0 t.port.craneBeats p = tget 0 s.port.craneBeats p + 1 ∧ t.fg F.MTX_ERRCNT = s.fg F.MTX_ERRCNT)

/-- Link, reception, announcement and transmission of a port. A link comes up with its synchronisation and, where it
negotiates, with a negotiation that ended at full duplex, and goes down without; a frame that fails a check of the
MAC is counted against it, and an ARP request for an own address is answered; an announcement sends the frame of an
own address and remembers two repeats for each of those in use, sent at its tick; a GO puts a buffer in flight, its
frame tagged and padded, or is an error, and a frame sent is counted, with its timestamp where it is wanted; a read
of TXTS latches the fraction; POP frees the oldest buffer; a restart of negotiation takes the link down. -/
def Obligations.TheEthernetPorts : Prop :=
  (∀ (p : Fin 2) (y : Bool) (d : AnOffer) (s : State), s.up = true → ∃ t, exec (.netLinkChange p y d) s = .next t ∧
      let neg := s.fgi F.NET_CFG_MODE p.val = 1 ∧ s.flagi F.NET_CFG_AN p.val = true;
      let up := y = true ∧ s.flag F.CKG_PLLSTAT_LOCK2 = true ∧ s.fgi F.NET_CFG_MODE p.val ≠ 0 ∧ (neg → d.ended = true ∧ d.fullDuplex = true);
      (t.flagi F.NET_STAT_LINK p.val = true ↔ up) ∧ (t.flagi F.NET_STAT_ANDONE p.val = true ↔ neg ∧ y = true ∧ d.ended = true ∧ d.fullDuplex = true) ∧
      (t.flagi F.NET_STAT_LINK p.val ≠ s.flagi F.NET_STAT_LINK p.val → t.fgi F.NET_STAT_LINKCHG p.val = 1 ∧ t.pend (134 + p.val) = true) ∧
      (s.flagi F.NET_STAT_LINK p.val = true → ¬up → (t.net p.val).txq = [] ∧ (t.net p.val).flying = none)) ∧
  (∀ (p : Fin 2) (x : EthFrame) (s : State), s.up = true → s.flagi F.NET_STAT_LINK p.val = true → x.fcsOk = false →
    exec (.netFrameReceive p x) s = .next (s.bumpi F.NET_FCSERR p.val)) ∧
  (∀ (p : Fin 2) (x : EthFrame) (s : State), s.up = true → s.flagi F.NET_STAT_LINK p.val = true → x.fcsOk = true →
    x.bytes.length + 4 < 64 → exec (.netFrameReceive p x) s = .next (s.bumpi F.NET_LENERR p.val)) ∧
  (∀ (p : Fin 2) (x : EthFrame) (s : State), s.up = true → s.flagi F.NET_STAT_LINK p.val = true → x.fcsOk = true →
    64 ≤ x.bytes.length + 4 → x.bytes.length + 4 ≤ 1518 → s.acceptsMac p.val (beAt x.bytes 0 6) = false →
    exec (.netFrameReceive p x) s = .next ((s.bumpi F.NET_RXFRM p.val).bumpi F.NET_ADDRDROP p.val)) ∧
  (∀ (p : Fin 2) (x : EthFrame) (s : State), s.up = true → s.flagi F.NET_STAT_LINK p.val = true → x.fcsOk = true →
    64 ≤ x.bytes.length + 4 → x.bytes.length + 4 ≤ 1518 → beAt x.bytes 0 6 = macBroadcast →
    beAt x.bytes 12 8 = 0x0806000108000604 → beAt x.bytes 20 2 = 1 → s.flagi F.NET_VLAN_EN p.val = false →
    s.bit F.NET_ACFG_VALID p.val 0 = true → beAt x.bytes 38 4 = s.entryAddr p.val 0 → (s.net p.val).flying = none →
    (s.net p.val).txq = [] → s.pen.tx = [] → s.port.nets.length = 2 → ∃ t, exec (.netFrameReceive p x) s = .next t ∧
      (t.net p.val).flying = some (.ctl (ethBytes s p.val (beAt x.bytes 6 6) 0x0806
        (arpBytes 2 (s.mac p.val) (s.entryAddr p.val 0) (beAt x.bytes 22 6) (beAt x.bytes 28 4)))) ∧ (t.net p.val).txq = [] ∧
      t.fgi F.NET_RXFRM p.val = Nat.min (s.fgi F.NET_RXFRM p.val + 1) (2 ^ 32 - 1)) ∧
  (∀ (p : Fin 2) (s : State), s.flagi F.NET_STAT_LINK p.val = true → [0, 1, 2, 3].filter (s.ownInUse p.val) = [0] →
    (s.net p.val).flying = none → (s.net p.val).txq = [] → s.pen.tx = [] → s.port.nets.length = 2 →
    ∃ t, exec (.netAnnounce p) s = .next t ∧
      (t.net p.val).flying = some (.ctl (ethBytes s p.val macBroadcast 0x0806 (arpBytes 1 (s.mac p.val) (s.entryAddr p.val 0) 0 (s.entryAddr p.val 0)))) ∧
      (t.net p.val).ann = (s.net p.val).ann ++ [⟨0, add32 s.frame 10000⟩, ⟨0, add32 s.frame 100000⟩]) ∧
  (∀ (p : Fin 2) (s : State), s.flagi F.NET_STAT_LINK p.val = true → s.port.nets.length = 2 →
    ∃ t, exec (.netAnnounce p) s = .next t ∧
      (t.net p.val).ann = (s.net p.val).ann ++ ([0, 1, 2, 3].filter (s.ownInUse p.val)).flatMap fun k =>
        [⟨k, add32 s.frame 10000⟩, ⟨k, add32 s.frame 100000⟩]) ∧
  (∀ (p : Fin 2) (r : List Announce) (s : State), s.flagi F.NET_STAT_LINK p.val = true → s.ownInUse p.val 0 = true →
    (s.net p.val).ann = ⟨0, s.coming⟩ :: r → (r.all fun a => decide (a.due ≠ s.coming)) = true →
    (s.net p.val).flying = none → (s.net p.val).txq = [] → s.pen.tx = [] → s.port.nets.length = 2 →
    ∃ t, exec (.addressAnnounceRepeat p) s = .next t ∧
      (t.net p.val).flying = some (.ctl (ethBytes s p.val macBroadcast 0x0806 (arpBytes 1 (s.mac p.val) (s.entryAddr p.val 0) 0 (s.entryAddr p.val 0)))) ∧
      (t.net p.val).ann = r) ∧
  (∀ (p : Fin 2) (s : State), s.negotiates p.val = true → s.port.nets.length = 2 →
    ∃ t, exec (.netAnrst p) s = .next t ∧
      t.flagi F.NET_STAT_LINK p.val = false ∧ t.fgi F.NET_STAT_ANDONE p.val = 0 ∧
      (s.flagi F.NET_STAT_LINK p.val = true → t.fgi F.NET_STAT_LINKCHG p.val = 1 ∧ t.pend (134 + p.val) = true ∧ (t.net p.val).txq = [])) ∧
  (∀ (p : Fin 2) (s : State), s.negotiates p.val = false → exec (.netAnrst p) s = .next s) ∧
  (∀ (p : Fin 2) (s : State),
    exec (.prxPop p) s = .next (s.modNet p.val fun x => { x with filled := x.filled.drop 1 })) ∧
  (∀ (p : Fin 2) (s : State),
    ((s.net p.val).flies (s.fgi F.NET_PTXCMD_BUF p.val) = true ∨ s.fgi F.NET_PTXCMD_LEN p.val < 14 ∨ 256 < s.fgi F.NET_PTXCMD_LEN p.val) →
    exec (.ptxcmdGo p) s = .next (s.fsi F.NET_PTXSTAT_ERR p.val 1)) ∧
  (∀ (p : Fin 2) (s : State), s.flagi F.NET_STAT_LINK p.val = true → 14 ≤ s.fgi F.NET_PTXCMD_LEN p.val →
    s.fgi F.NET_PTXCMD_LEN p.val ≤ 256 → (s.net p.val).flying = none → (s.net p.val).txq = [] → s.pen.tx = [] →
    s.port.nets.length = 2 → ∃ t, exec (.ptxcmdGo p) s = .next t ∧
      (t.net p.val).flying = some (.ptp (s.fgi F.NET_PTXCMD_BUF p.val) (s.fgi F.NET_PTXCMD_LEN p.val) (s.flagi F.NET_PTXCMD_TS p.val)
        (s.fgi F.NET_PTXCMD_SLOT p.val % 3)) ∧ (t.net p.val).txq = [] ∧ t.regs = s.regs ∧
      (t.net p.val).wire = s.ptpFrame p.val (s.fgi F.NET_PTXCMD_BUF p.val) (s.fgi F.NET_PTXCMD_LEN p.val)) ∧
  (∀ (p : Fin 2) (c : Fin 251) (r : Fin 0x400000000) (b len base : Nat) (s : State),
    (s.net p.val).flying = some (.ptp b len true base) → (s.net p.val).txq = [] → s.pen.tx = [] → b < 4 →
    s.port.nets.length = 2 → ∃ t, exec (.ptpTransmitDone p c r) s = .next t ∧
      (t.net p.val).flying = none ∧ (t.net p.val).wire = [] ∧ (t.net p.val).ts = s.stamp base c.val r.val (corr10ps (s.fgi F.NET_TSCORR_TX p.val)) ∧
      t.fgi F.NET_PTXSTAT_TSVALID p.val = 1 ∧ t.fgi F.NET_PTXSTAT_TSBUF p.val = b ∧ t.fgi F.NET_TXFRM p.val = Nat.min (s.fgi F.NET_TXFRM p.val + 1) (2 ^ 32 - 1)) ∧
  (∀ (p : Fin 2) (bs : List Byte) (s : State), (s.net p.val).flying = some (.ctl bs) → (s.net p.val).txq = [] →
    s.pen.tx = [] → s.port.nets.length = 2 → ∃ t, exec (.netFrameSent p) s = .next t ∧
      (t.net p.val).flying = none ∧ t.fgi F.NET_TXFRM p.val = Nat.min (s.fgi F.NET_TXFRM p.val + 1) (2 ^ 32 - 1)) ∧
  (∀ (p : Fin 2) (s : State), ∃ t, exec (.txtsReadLatch p) s = .next t ∧
      t.rdata = nsView (s.net p.val).ts ∧ t.fgi F.NET_TXTSF_VALUE p.val = (s.net p.val).ts % 2 ^ 32 ∧ t.port = s.port)

/-- Requests to the firmware, and its replies, through the mailbox. MBWRITE puts its bytes in MBREQ and its count in
MBLEN, sets MBFULL and raises its source; while MBFULL is set it changes none of these and sets status MBFULL; ACK
clears MBFULL; a write of MBRSP, and one of MBCTRL with RLEN and POST, post a reply, which the next MBREAD returns,
before the PEC where one is sent, after which there is none. -/
def Obligations.TheMailbox : Prop :=
  (∀ (bs : List Byte) (p : SmbCall) (s : State), s.dev ≠ .off → p.target.toNat = s.fg F.SBI_CFG_ADDR → 1 ≤ bs.length →
    bs.length ≤ 32 → s.pecBad p.pec = false → s.flag F.SBI_STAT_MBFULL = false →
    ∃ t, exec (.mbwrite bs p) s = .next t ∧
      ((List.range 32).map fun i => t.fgi F.SBI_MBREQw_BYTES (i / 4) / 256 ^ (i % 4) % 256).take bs.length = bs.map (·.toNat) ∧
      t.flag F.SBI_STAT_MBFULL = true ∧ t.fg F.SBI_MBLEN_LEN = bs.length ∧ t.pend 137 = true ∧ t.fg F.SBI_STAT_LAST = 0) ∧
  (∀ (bs : List Byte) (p : SmbCall) (s : State), s.dev ≠ .off → p.target.toNat = s.fg F.SBI_CFG_ADDR → 1 ≤ bs.length →
    bs.length ≤ 32 → s.pecBad p.pec = false → s.flag F.SBI_STAT_MBFULL = true →
    exec (.mbwrite bs p) s = .next ((s.fs F.SBI_STAT_LAST 6).bump F.SBI_ACCERR)) ∧
  (∀ (bs : List Byte) (p : SmbCall) (s : State), p.target.toNat ≠ s.fg F.SBI_CFG_ADDR →
    exec (.mbwrite bs p) s = .next s) ∧
  (∀ (s : State), ∃ t, exec .mbctrlAck s = .next t ∧
      t.flag F.SBI_STAT_MBFULL = false ∧ t.port = s.port ∧ t.fg F.SBI_MBLEN_LEN = s.fg F.SBI_MBLEN_LEN) ∧
  (∀ (s : State), ∃ t, exec .mbctrlPost s = .next t ∧
      t.flag F.SBI_STAT_MBPOST = true ∧ t.port = s.port ∧ t.fg F.SBI_MBCTRL_RLEN = s.fg F.SBI_MBCTRL_RLEN ∧
      (∀ w : Fin 8, t.fgi F.SBI_MBRSPw_BYTES w.val = s.fgi F.SBI_MBRSPw_BYTES w.val)) ∧
  (∀ (m : Fin 11) (w : Fin 8) (v : Word) (s : State), s.up = true →
    exec (.registerWrite m (BitVec.ofNat 22 (0x170120 + 4 * w.val)) v) s = .next (s.fsi F.SBI_MBRSPw_BYTES w.val v.toNat)) ∧
  (∀ (m : Fin 11) (n : Fin 64) (s : State), s.up = true →
    ∃ t, exec (.registerWrite m 0x170008 (BitVec.ofNat 32 (256 * n.val + 2))) s = .next t ∧
      t.fg F.SBI_MBCTRL_RLEN = n.val ∧ t.flag F.SBI_STAT_MBPOST = true ∧ t.port = s.port ∧
      (∀ w : Fin 8, t.fgi F.SBI_MBRSPw_BYTES w.val = s.fgi F.SBI_MBRSPw_BYTES w.val)) ∧
  (∀ (s : State), s.dev ≠ .off → s.flag F.SBI_STAT_MBPOST = true → s.fg F.SBI_MBCTRL_RLEN ≤ 32 →
    ∃ t, exec .mbread s = .next t ∧
      (t.port.sbi.answer.take (s.fg F.SBI_MBCTRL_RLEN)).map (·.toNat) = ((List.range 32).map fun i => s.fgi F.SBI_MBRSPw_BYTES (i / 4) / 256 ^ (i % 4) % 256).take (s.fg F.SBI_MBCTRL_RLEN) ∧
      t.flag F.SBI_STAT_MBPOST = false ∧ t.fg F.SBI_STAT_LAST = 0) ∧
  (∀ (s : State), s.dev ≠ .off → s.flag F.SBI_STAT_MBPOST = false → ∃ t, exec .mbread s = .next t ∧
      t.port.sbi.answer.length = b2n (s.flag F.SBI_CFG_PEC) ∧ t.fg F.SBI_STAT_LAST = 0)

/-- The SMBus target, the console and the JTAG port. A SETADDR, READ or WRITE for another address changes nothing.
SETADDR takes an aligned address of four bytes with a good PEC; READ returns the word at the address, most
significant byte first and with its PEC where one is sent, and adds 4, and beyond its scope is not issued; WRITE
writes its word and adds 4; STATUS and STATE return their bytes; a read that takes too long returns all ones, and a
low SCL resets the interface and M10; the console's FIFOs take, send, free and lose bytes; the TAP's instructions
are loaded, SAMPLE/PRELOAD captures and loads the boundary-scan register, three instructions hold the device in OFF,
of which EXTEST and CLAMP drive the balls from that register and HIGHZ none, and MEMACC reads and writes words, is
refused, is ignored while BUSY, and waits in OFF until BOOT (the polynomial of the PEC, the cells of the register
and the waiting in OFF are the model's, log 41 and log 68). -/
def Obligations.TheHousekeepingPorts : Prop :=
  (∀ (bs : List Byte) (p : SmbCall) (s : State), s.dev ≠ .off → p.target.toNat = s.fg F.SBI_CFG_ADDR → bs.length = 4 →
    s.pecBad p.pec = false → beNat bs % 4 = 0 → ∃ t, exec (.setaddr bs p) s = .next t ∧
      t.port.sbi.addr = beNat bs ∧ t.fg F.SBI_STAT_LAST = 0 ∧ t.fg F.SBI_ACCERR = s.fg F.SBI_ACCERR ∧ t.table = s.table) ∧
  (∀ (bs : List Byte) (p : SmbCall) (s : State), s.dev ≠ .off → p.target.toNat = s.fg F.SBI_CFG_ADDR →
    (bs.length ≠ 4 ∨ (s.pecBad p.pec = false ∧ beNat bs % 4 ≠ 0)) →
    exec (.setaddr bs p) s = .next ((s.fs F.SBI_STAT_LAST 4).bump F.SBI_ACCERR)) ∧
  (∀ (bs : List Byte) (p : SmbCall) (s : State), s.dev ≠ .off → p.target.toNat = s.fg F.SBI_CFG_ADDR → bs.length = 4 →
    s.pecBad p.pec = true →
    exec (.setaddr bs p) s = .next (((s.fs F.SBI_STAT_LAST 3).bump F.SBI_ACCERR).bump F.SBI_PECERR)) ∧
  (∀ (c : SmbRead) (s : State), s.dev ≠ .off → c.target.toNat = s.fg F.SBI_CFG_ADDR →
    (s.fg F.SBI_CFG_SCOPE = 0 ∨ s.dev = .safe) → s.port.sbi.addr < 0x1000000 → s.beatBad s.port.sbi.addr = false →
    s.port.flights = [] → ∃ t, exec (.read c) s = .next t ∧
      t.port.sbi.answer = (mtxBytes s s.port.sbi.addr 4).reverse ++ (if s.flag F.SBI_CFG_PEC = true then beBytes 1 (pecOf
        (beBytes 1 (2 * s.fg F.SBI_CFG_ADDR) ++ [0x02] ++ beBytes 1 (2 * s.fg F.SBI_CFG_ADDR + 1) ++ [4] ++ (mtxBytes s s.port.sbi.addr 4).reverse)) else []) ∧
      t.port.sbi.addr = s.port.sbi.addr + 4 ∧ t.fg F.SBI_STAT_LAST = 0 ∧
      { t with regs := s.regs, port := s.port, fab := s.fab } = s) ∧
  (∀ (c : SmbRead) (s : State), s.dev ≠ .off → c.target.toNat = s.fg F.SBI_CFG_ADDR → s.dev ≠ .safe →
    s.fg F.SBI_CFG_SCOPE ≠ 0 → s.port.sbi.addr < 0x40000000 → ∃ t, exec (.read c) s = .next t ∧
      t.fg F.SBI_STAT_LAST = 5 ∧ t.fg F.SBI_ACCERR = Nat.min (s.fg F.SBI_ACCERR + 1) (2 ^ 32 - 1) ∧ t.port.sbi.addr = s.port.sbi.addr ∧
      t.fg F.MTX_ERRCNT = s.fg F.MTX_ERRCNT ∧ t.table = s.table) ∧
  (∀ (bs : List Byte) (p : SmbCall) (c : Nat) (s : State), s.dev ≠ .off → p.target.toNat = s.fg F.SBI_CFG_ADDR →
    bs.length = 4 → s.pecBad p.pec = false → (s.fg F.SBI_CFG_SCOPE = 0 ∨ s.dev = .safe) →
    s.port.sbi.addr < 0x1000000 → s.port.sbi.addr % 4 = 0 → s.beatBad s.port.sbi.addr = false →
    s.guarded s.port.sbi.addr = false → s.port.flights = [] → ∃ t, exec (.write bs p c) s = .next t ∧
      t.memBytes s.port.sbi.addr 4 = bs.reverse ∧ t.port.sbi.addr = s.port.sbi.addr + 4 ∧ t.fg F.SBI_STAT_LAST = 0 ∧
      (∀ a : Nat, a < s.port.sbi.addr ∨ s.port.sbi.addr + 4 ≤ a → t.mem8 a = s.mem8 a)) ∧
  (∀ (bs : List Byte) (p : SmbCall) (c : Nat) (s : State), s.dev ≠ .off → p.target.toNat = s.fg F.SBI_CFG_ADDR →
    bs.length = 4 → s.pecBad p.pec = false → s.dev ≠ .safe → s.fg F.SBI_CFG_SCOPE = 2 →
    exec (.write bs p c) s = .next ((s.fs F.SBI_STAT_LAST 5).bump F.SBI_ACCERR)) ∧
  (∀ (bs : List Byte) (p : SmbCall) (s : State), p.target.toNat ≠ s.fg F.SBI_CFG_ADDR →
    exec (.setaddr bs p) s = .next s) ∧
  (∀ (bs : List Byte) (p : SmbCall) (c : Nat) (s : State), p.target.toNat ≠ s.fg F.SBI_CFG_ADDR →
    exec (.write bs p c) s = .next s) ∧
  (∀ (c : SmbRead) (s : State), c.target.toNat ≠ s.fg F.SBI_CFG_ADDR → exec (.read c) s = .next s) ∧
  (∀ (c : SmbRead) (s : State), s.dev ≠ .off → s.dev ≠ .safe → c.target.toNat = s.fg F.SBI_CFG_ADDR →
    s.fg F.SBI_CFG_SCOPE ≠ 0 → 0x40190000 ≤ s.port.sbi.addr → ∃ t, exec (.read c) s = .next t ∧
      t.fg F.SBI_STAT_LAST = 5 ∧ t.fg F.MTX_ERRCNT = s.fg F.MTX_ERRCNT ∧ t.port.sbi.addr = s.port.sbi.addr ∧ t.table = s.table) ∧
  (∀ (s : State), s.dev ≠ .off → ∃ t, exec .smbusReadTimeout s = .next t ∧
      t.port.sbi.answer.take 4 = [0xFF, 0xFF, 0xFF, 0xFF] ∧ t.port.sbi.answer.length = 4 + b2n (s.flag F.SBI_CFG_PEC) ∧ t.fg F.SBI_STAT_LAST = 2 ∧
      t.fg F.SBI_ACCERR = Nat.min (s.fg F.SBI_ACCERR + 1) (2 ^ 32 - 1)) ∧
  (∀ (s : State), s.dev ≠ .off → s.fg F.SBI_STAT_LAST < 256 → ∃ t, exec .status s = .next t ∧
      t.port.sbi.answer.head? = some (BitVec.ofNat 8 (s.fg F.SBI_STAT_LAST)) ∧ t.port.sbi.answer.length = 1 + b2n (s.flag F.SBI_CFG_PEC) ∧ t.regs = s.regs) ∧
  (∀ (s : State), s.dev ≠ .off → ∃ t, exec .state s = .next t ∧
      t.port.sbi.answer.head? = some (BitVec.ofNat 8 (s.dev.code + 8 * b2n s.faultLow + 16 * b2n s.irqLow)) ∧
      t.port.sbi.answer.length = 1 + b2n (s.flag F.SBI_CFG_PEC) ∧ t.fg F.SBI_STAT_LAST = 0 ∧ t.dev = s.dev) ∧
  (∀ (s : State), ∃ t, exec .sclLowTimeout s = .next t ∧
      t.port.sbi = { s.port.sbi with answer := [] } ∧ t.flight 10 = (s.flight 10).map (fun f => { f with reset := true }) ∧ t.regs = s.regs ∧ t.dev = s.dev) ∧
  (∀ (v : Byte) (s : State), s.up = true → s.flag F.SBI_UCFG_EN = true → s.port.sbi.rx.length < 64 →
    ∃ t, exec (.uartReceiveByte v true) s = .next t ∧
      t.port.sbi.rx = s.port.sbi.rx ++ [v.toNat] ∧ t.port.sbi.tx = s.port.sbi.tx ∧
      (s.fg F.SBI_UCFG_RXTH ≤ t.port.sbi.rx.length → t.pend 138 = true)) ∧
  (∀ (v : Byte) (s : State), s.up = true → s.flag F.SBI_UCFG_EN = true → 64 ≤ s.port.sbi.rx.length →
    exec (.uartReceiveByte v true) s = .next (s.fs F.SBI_USTAT_OVR 1)) ∧
  (∀ (v : Byte) (s : State), s.up = true → s.flag F.SBI_UCFG_EN = true →
    exec (.uartReceiveByte v false) s = .next (s.fs F.SBI_USTAT_FRAMERR 1)) ∧
  (∀ (v : Byte) (s : State), ∃ t, exec (.utxWrite v) s = .next t ∧
      t.port.sbi.tx = (if s.port.sbi.tx.length < 64 then s.port.sbi.tx ++ [v.toNat] else s.port.sbi.tx) ∧ t.port.sbi.rx = s.port.sbi.rx) ∧
  (∀ (s : State), s.up = true → s.flag F.SBI_UCFG_EN = true → ∃ t, exec .uartSendByte s = .next t ∧
      t.port.sbi.tx = s.port.sbi.tx.drop 1 ∧ t.port.sbi.rx = s.port.sbi.rx ∧
      (t.port.sbi.tx.length < s.fg F.SBI_UCFG_TXTH → t.pend 138 = true)) ∧
  (∀ (s : State), exec .uctrlRxpop s = .next (s.modSbi fun x => { x with rx := x.rx.drop 1 })) ∧
  (∀ (s : State), ∃ t, exec .uctrlFlush s = .next t ∧
      t.port.sbi = { s.port.sbi with rx := [], tx := [] } ∧ t.dev = s.dev) ∧
  (∀ (s : State), ∃ t, exec .tapReset s = .next t ∧
      t.port.sbi = { s.port.sbi with ir := 1, macWait := none, macStat := if s.port.sbi.macStat = 2 then 0 else s.port.sbi.macStat } ∧
      t.flight 10 = (s.flight 10).map (fun f => { f with reset := true }) ∧ t.regs = s.regs ∧ t.dev = s.dev) ∧
  (∀ (s : State), ∃ t, exec .samplePreload s = .next t ∧
      t.port.sbi.ir = 2 ∧ t.port.sbi.irCap = 1 ∧ t.port.sbi.answer = scanBytes s.scanCapture ∧
      t.port.sbi.scan = (List.range 214).map (fun k => Config.scanBit k (s.fresh + 1)) ∧ t.dev = s.dev ∧ t.regs = s.regs) ∧
  (∀ (s : State), exec .bypass s = .next (s.modSbi fun x => { x with ir := 255, irCap := 1 })) ∧
  (∀ (s : State), ∃ t, exec .idcode s = .next t ∧
      t.port.sbi.ir = 1 ∧ t.port.sbi.answer = leBytes 4 0x1961258F ∧ t.dev = s.dev) ∧
  (∀ (s : State), s.boot.supplies.getD 2 false = true → ∃ t, exec .extest s = .next t ∧
      t.dev = .off ∧ t.port.sbi.ir = 3 ∧ t.auth = false ∧ t.boot.otp = s.boot.otp ∧ t.boot.flash = s.boot.flash ∧
      t.port.sbi.scan = s.port.sbi.scan ∧ (∀ p ∈ pins, t.pin p = t.pinScan p)) ∧
  (∀ (s : State), s.boot.supplies.getD 2 false = true → ∃ t, exec .clamp s = .next t ∧
      t.dev = .off ∧ t.port.sbi.ir = 4 ∧ t.auth = false ∧ t.boot.otp = s.boot.otp ∧ t.boot.flash = s.boot.flash ∧
      t.port.sbi.scan = s.port.sbi.scan ∧ (∀ p ∈ pins, t.pin p = t.pinScan p)) ∧
  (∀ (s : State), s.boot.supplies.getD 2 false = true → ∃ t, exec .highz s = .next t ∧
      t.dev = .off ∧ t.port.sbi.ir = 5 ∧ t.auth = false ∧ t.boot.otp = s.boot.otp ∧ t.boot.flash = s.boot.flash ∧
      (∀ p ∈ pins, t.pin p = .none)) ∧
  (∀ (op : Fin 4) (a v : Word) (c : Nat) (s : State), (op.val = 1 ∨ op.val = 2) → s.port.sbi.macStat ≠ 2 →
    (s.flag F.SBI_CFG_MEMDIS = true ∨ a.toNat % 4 ≠ 0) →
    exec (.memacc op a v c) s = .next (s.modSbi fun x => { x with ir := 0x20, irCap := 1, macStat := 3, macAddr := a.toNat, macData := 0 })) ∧
  (∀ (op : Fin 4) (a v : Word) (c : Nat) (s : State), (op.val = 0 ∨ op.val = 3 ∨ s.port.sbi.macStat = 2) →
    exec (.memacc op a v c) s = .next (s.modSbi fun x => { x with ir := 0x20, irCap := 1 })) ∧
  (∀ (op : Fin 4) (a v : Word) (c : Nat) (s : State), s.dev ≠ .off → op.val = 1 → s.port.sbi.macStat ≠ 2 →
    s.port.flights = [] → s.flag F.SBI_CFG_MEMDIS = false → a.toNat % 4 = 0 → a.toNat < 0x1000000 →
    s.beatBad a.toNat = false → ∃ t, exec (.memacc op a v c) s = .next t ∧
      t.port.sbi.macStat = 0 ∧ t.port.sbi.macAddr = a.toNat ∧ t.port.sbi.macData = leNat (mtxBytes s a.toNat 4) ∧ t.table = s.table) ∧
  (∀ (op : Fin 4) (a v : Word) (c : Nat) (s : State), s.dev ≠ .off → op.val = 2 → s.port.sbi.macStat ≠ 2 →
    s.port.flights = [] → s.flag F.SBI_CFG_MEMDIS = false → a.toNat % 4 = 0 → a.toNat < 0x1000000 →
    s.beatBad a.toNat = false → s.guarded a.toNat = false → ∃ t, exec (.memacc op a v c) s = .next t ∧
      t.port.sbi.macStat = 0 ∧ t.port.sbi.macAddr = a.toNat ∧ t.mem32 a.toNat = v.toNat ∧
      (∀ x : Nat, x < a.toNat ∨ a.toNat + 4 ≤ x → t.mem8 x = s.mem8 x)) ∧
  (∀ (op : Fin 4) (a v : Word) (c : Nat) (s : State), s.dev ≠ .off → op.val = 2 → s.port.sbi.macStat ≠ 2 →
    s.port.flights = [] → s.flag F.SBI_CFG_MEMDIS = false → a.toNat % 4 = 0 → a.toNat < 0x1000000 →
    s.guarded a.toNat = true → ∃ t, exec (.memacc op a v c) s = .next t ∧
      t.port.sbi.macStat = 3 ∧ t.port.sbi.macAddr = a.toNat ∧ t.table = s.table ∧ t.fg F.MTX_ERRSTAT_CAUSE = 6) ∧
  (∀ (op : Fin 4) (a v : Word) (c : Nat) (s : State), s.dev = .off → (op.val = 1 ∨ op.val = 2) →
    s.port.sbi.macStat ≠ 2 → s.flag F.SBI_CFG_MEMDIS = false → a.toNat % 4 = 0 →
    exec (.memacc op a v c) s = .next (s.modSbi fun x => { x with ir := 0x20, irCap := 1, macStat := 2, macAddr := a.toNat, macData := 0, macWait := some (op.val, v.toNat) })) ∧
  (∀ (senior fmode : Bool) (a v : Nat) (s : State), s.mayLeaveOff = true → s.port.sbi.macWait = some (1, v) →
    s.port.sbi.macAddr = a → a < 0x1000000 → s.beatBad a = false → s.port.flights = [] →
    ∃ t, exec (.leaveOff senior fmode false) s = .next t ∧
      t.dev = .boot ∧ t.port.sbi.macWait = none ∧ t.port.sbi.macStat = 0 ∧ t.port.sbi.macData = leNat (mtxBytes s a 4))
end

