-- ==== Sys2Proof/Laws/Seen.lean ====
section
/-! SUPPORT. What lies outside an extent (`State.seen`) is untouched by a change of a part or of a register field that
the extent holds. Every lemma named `…_seen` of these files says that of one operation, for every extent that covers
what the operation may change. -/
namespace Sys2Proof.Machine

variable {α : Type}

theorem tget_tdel_ne (d : α) (t : Tbl α) (k j : Nat) (h : j ≠ k) : tget d (tdel t k) j = tget d t j := by
  induction t with
  | nil => rfl
  | cons e r ih =>
    by_cases h1 : e.1 = k
    · simp [tdel, tget, h1, ih]
      intro h3; exact absurd h3.symm h
    · simp [tdel, tget, h1, ih]

theorem tget_tins_ne (d : α) (t : Tbl α) (k j : Nat) (v : α) (h : j ≠ k) : tget d (tins t k v) j = tget d t j := by
  induction t with
  | nil => simp [tins, tget, Ne.symm h]
  | cons e r ih =>
    by_cases h1 : k < e.1
    · simp [tins, tget, h1, Ne.symm h]
    · simp [tins, tget, h1, ih]

/-- A write leaves every other key alone. -/
theorem tget_tset_ne [DecidableEq α] (d : α) (t : Tbl α) (k j : Nat) (v : α) (h : j ≠ k) :
    tget d (tset d t k v) j = tget d t j := by
  unfold tset
  split
  · exact tget_tdel_ne d t k j h
  · rw [tget_tins_ne _ _ _ _ _ h, tget_tdel_ne d t k j h]

theorem Extent.at_key (e : Extent) (f : Fld) (i : Nat) : e.at (f.key i) = e.r f := by
  unfold Extent.at Extent.r Fld.key
  have h : (f.id * 16384 + i % 16384) / 16384 = f.id := by omega
  rw [h]

@[simp] theorem State.fsi_seen (e : Extent) (s : State) (f : Fld) (i v : Nat) (h : e.r f = true) :
    State.seen e (s.fsi f i v) = State.seen e s := by
  unfold State.seen State.fsi
  simp only [Prod.mk.injEq, true_and]
  funext k
  by_cases hk : k = f.key i
  · rw [hk, Extent.at_key, h]; rfl
  · rw [tget_tset_ne _ _ _ _ _ hk]

@[simp] theorem Extent.covers_eq (e : Extent) (ps : List Part) (fs : List Fld) :
    e.covers ps fs = (ps.all e.p && fs.all e.r) := rfl

theorem Extent.r_of_all (e : Extent) (f : Fld) (h : e.all = true) : e.r f = true := by
  unfold Extent.r; simp [h]

theorem Extent.at_of_all (e : Extent) (k : Nat) (h : e.all = true) : e.at k = true := by
  unfold Extent.at; simp [h]

@[simp] theorem seen_regs (e : Extent) (s : State) (x : Tbl Nat) (h : e.all = true) :
    State.seen e { s with regs := x } = State.seen e s := by
  unfold State.seen
  simp only [Prod.mk.injEq, true_and]
  funext k
  rw [e.at_of_all k h]; rfl

@[simp] theorem seen_dev (e : Extent) (s : State) (x) (h : e.p .dev = true) :
    State.seen e { s with dev := x } = State.seen e s := by
  unfold State.seen; simp [h]

@[simp] theorem seen_auth (e : Extent) (s : State) (x) (h : e.p .auth = true) :
    State.seen e { s with auth := x } = State.seen e s := by
  unfold State.seen; simp [h]

@[simp] theorem seen_frame (e : Extent) (s : State) (x) (h : e.p .frame = true) :
    State.seen e { s with frame := x } = State.seen e s := by
  unfold State.seen; simp [h]

@[simp] theorem seen_fresh (e : Extent) (s : State) (x) (h : e.p .fresh = true) :
    State.seen e { s with fresh := x } = State.seen e s := by
  unfold State.seen; simp [h]

@[simp] theorem seen_locked (e : Extent) (s : State) (x) (h : e.p .locked = true) :
    State.seen e { s with locked := x } = State.seen e s := by
  unfold State.seen; simp [h]

@[simp] theorem seen_seqs (e : Extent) (s : State) (x) (h : e.p .seqs = true) :
    State.seen e { s with seqs := x } = State.seen e s := by
  unfold State.seen; simp [h]

@[simp] theorem seen_log (e : Extent) (s : State) (x) (h : e.p .log = true) :
    State.seen e { s with log := x } = State.seen e s := by
  unfold State.seen; simp [h]

@[simp] theorem seen_rdata (e : Extent) (s : State) (x) (h : e.p .rdata = true) :
    State.seen e { s with rdata := x } = State.seen e s := by
  unfold State.seen; simp [h]

@[simp] theorem seen_time (e : Extent) (s : State) (x) (h : e.p .time = true) :
    State.seen e { s with time := x } = State.seen e s := by
  unfold State.seen; simp [h]

@[simp] theorem seen_table (e : Extent) (s : State) (x) (h : e.p .table = true) :
    State.seen e { s with table := x } = State.seen e s := by
  unfold State.seen; simp [h]

@[simp] theorem seen_fab (e : Extent) (s : State) (x) (h : e.p .fab = true) :
    State.seen e { s with fab := x } = State.seen e s := by
  unfold State.seen; simp [h]

@[simp] theorem seen_quays (e : Extent) (s : State) (x) (h : e.p .quays = true) :
    State.seen e { s with quays := x } = State.seen e s := by
  unfold State.seen; simp [h]

@[simp] theorem seen_lanes (e : Extent) (s : State) (x) (h : e.p .lanes = true) :
    State.seen e { s with lanes := x } = State.seen e s := by
  unfold State.seen; simp [h]

@[simp] theorem seen_tiles (e : Extent) (s : State) (x) (h : e.p .tiles = true) :
    State.seen e { s with tiles := x } = State.seen e s := by
  unfold State.seen; simp [h]

@[simp] theorem seen_exec (e : Extent) (s : State) (x) (h : e.p .exec = true) :
    State.seen e { s with exec := x } = State.seen e s := by
  unfold State.seen; simp [h]

@[simp] theorem seen_sched (e : Extent) (s : State) (x) (h : e.p .sched = true) :
    State.seen e { s with sched := x } = State.seen e s := by
  unfold State.seen; simp [h]

@[simp] theorem seen_tide (e : Extent) (s : State) (x) (h : e.p .tide = true) :
    State.seen e { s with tide := x } = State.seen e s := by
  unfold State.seen; simp [h]

@[simp] theorem seen_pen (e : Extent) (s : State) (x) (h : e.p .pen = true) :
    State.seen e { s with pen := x } = State.seen e s := by
  unfold State.seen; simp [h]

@[simp] theorem seen_mir (e : Extent) (s : State) (x) (h : e.p .mir = true) :
    State.seen e { s with mir := x } = State.seen e s := by
  unfold State.seen; simp [h]

@[simp] theorem seen_cal (e : Extent) (s : State) (x) (h : e.p .cal = true) :
    State.seen e { s with cal := x } = State.seen e s := by
  unfold State.seen; simp [h]

@[simp] theorem seen_port (e : Extent) (s : State) (x) (h : e.p .port = true) :
    State.seen e { s with port := x } = State.seen e s := by
  unfold State.seen; simp [h]

@[simp] theorem seen_pending (e : Extent) (s : State) (x) (h : e.p .pending = true) :
    State.seen e { s with pending := x } = State.seen e s := by
  unfold State.seen; simp [h]

@[simp] theorem seen_dev_auth (e : Extent) (s : State) (x y) (h : e.p .dev = true) (h2 : e.p .auth = true) :
    State.seen e { s with dev := x, auth := y } = State.seen e s := by
  unfold State.seen; simp [h, h2]

@[simp] theorem seen_dev_locked (e : Extent) (s : State) (x y) (h : e.p .dev = true) (h2 : e.p .locked = true) :
    State.seen e { s with dev := x, locked := y } = State.seen e s := by
  unfold State.seen; simp [h, h2]

@[simp] theorem seen_boot (e : Extent) (s : State) (x : BootSt) (h : e.p .boot = true) (h2 : x.otp = s.boot.otp) :
    State.seen e { s with boot := x } = State.seen e s := by
  unfold State.seen; simp [h, h2]

theorem seen_boot_otp (e : Extent) (s : State) (x : BootSt) (h : e.p .boot = true) (h2 : e.p .otp = true) :
    State.seen e { s with boot := x } = State.seen e s := by
  unfold State.seen; simp [h, h2]

@[simp] theorem ite_seen (e : Extent) (c : Prop) [Decidable c] (s t : State) :
    State.seen e (if c then s else t) = if c then State.seen e s else State.seen e t := by
  split <;> rfl

@[simp] theorem foldl_seen (e : Extent) {β : Type} (f : State → β → State) (l : List β) (s : State)
    (h : ∀ s a, State.seen e (f s a) = State.seen e s) : State.seen e (l.foldl f s) = State.seen e s := by
  induction l generalizing s with
  | nil => rfl
  | cons a l ih => rw [List.foldl_cons, ih, h]

theorem foldl_mem_seen (e : Extent) {β : Type} (f : State → β → State) (l : List β) (s : State)
    (h : ∀ a ∈ l, ∀ s, State.seen e (f s a) = State.seen e s) : State.seen e (l.foldl f s) = State.seen e s := by
  induction l generalizing s with
  | nil => rfl
  | cons a l ih =>
    rw [List.foldl_cons, ih _ (fun b hb => h b (List.mem_cons_of_mem _ hb)), h a (by simp)]

end Sys2Proof.Machine
end

