-- ==== Sys2Proof/Laws/SeenOps.lean ====
section
/-! SUPPORT. What the register and memory operations and the time bases leave unseen outside the extents they are given (Laws/Seen.lean). -/
namespace Sys2Proof.Machine
set_option linter.all false

@[simp] theorem State.fs_seen (xe : Extent) (s : State) (f : Fld) (v : Nat) (xhf : xe.r f = true) :
    State.seen xe (State.fs s f v) = State.seen xe s := by
  unfold State.fs
  simp [xhf]

@[simp] theorem State.fb_seen (xe : Extent) (s : State) (f : Fld) (b : Bool) (xhf : xe.r f = true) :
    State.seen xe (State.fb s f b) = State.seen xe s := by
  unfold State.fb
  simp [xhf]

@[simp] theorem State.fbi_seen (xe : Extent) (s : State) (f : Fld) (i : Nat) (b : Bool) (xhf : xe.r f = true) :
    State.seen xe (State.fbi s f i b) = State.seen xe s := by
  unfold State.fbi
  simp [xhf]

@[simp] theorem State.addi_seen (xe : Extent) (s : State) (f : Fld) (i n : Nat) (xhf : xe.r f = true) :
    State.seen xe (State.addi s f i n) = State.seen xe s := by
  unfold State.addi
  simp [xhf]

@[simp] theorem State.bumpi_seen (xe : Extent) (s : State) (f : Fld) (i : Nat) (xhf : xe.r f = true) :
    State.seen xe (State.bumpi s f i) = State.seen xe s := by
  unfold State.bumpi
  simp [xhf]

@[simp] theorem State.bump_seen (xe : Extent) (s : State) (f : Fld) (xhf : xe.r f = true) :
    State.seen xe (State.bump s f) = State.seen xe s := by
  unfold State.bump
  simp [xhf]

@[simp] theorem State.add_seen (xe : Extent) (s : State) (f : Fld) (n : Nat) (xhf : xe.r f = true) :
    State.seen xe (State.add s f n) = State.seen xe s := by
  unfold State.add
  simp [xhf]

@[simp] theorem State.mark_seen (xe : Extent) (s : State) (f : Fld) (i v : Nat) (xhf : xe.r f = true) :
    State.seen xe (State.mark s f i v) = State.seen xe s := by
  unfold State.mark
  simp [xhf]

@[simp] theorem State.fresetI_seen (xe : Extent) (s : State) (f : Fld) (i : Nat) (xhf : xe.r f = true) :
    State.seen xe (State.fresetI s f i) = State.seen xe s := by
  unfold State.fresetI
  simp [xhf]

@[simp] theorem State.fresetAll_seen (xe : Extent) (s : State) (fs : List Fld) (hfs : ∀ f ∈ fs, xe.r f = true) :
    State.seen xe (State.fresetAll s fs) = State.seen xe s := by
  unfold State.fresetAll
  induction fs generalizing s with
  | nil => rfl
  | cons f l ih =>
    rw [List.foldl_cons, ih _ (fun g hg => hfs g (List.mem_cons_of_mem _ hg))]
    simp [hfs f (by simp)]

@[simp] theorem State.fresetRow_seen (xe : Extent) (s : State) (n : Nat) (fs : List Fld) (hfs : ∀ f ∈ fs, xe.r f = true) :
    State.seen xe (State.fresetRow s n fs) = State.seen xe s := by
  unfold State.fresetRow
  refine foldl_seen _ _ _ _ ?_
  intro s i
  induction fs generalizing s with
  | nil => rfl
  | cons f l ih =>
    rw [List.foldl_cons, ih (fun g hg => hfs g (List.mem_cons_of_mem _ hg))]
    simp [hfs f (by simp)]

@[simp] theorem State.setBit_seen (xe : Extent) (s : State) (f : Fld) (i b : Nat) (v : Bool) (xhf : xe.r f = true) :
    State.seen xe (State.setBit s f i b v) = State.seen xe s := by
  unfold State.setBit
  simp [xhf]

@[simp] theorem State.when_seen (xe : Extent) (s : State) (b : Bool) (f : State → State) (xhf : ∀ s, State.seen xe (f s) = State.seen xe s) :
    State.seen xe (State.when s b f) = State.seen xe s := by
  unfold State.when
  simp [xhf]

@[simp] theorem State.memPut_seen (xe : Extent) (s : State) (a : Nat) (bs : List Byte) (xh : xe.covers [.table] [] = true) :
    State.seen xe (State.memPut s a bs) = State.seen xe s := by
  simp only [Extent.covers, List.all_cons, List.all_nil, Bool.and_true, Bool.true_and, Bool.and_eq_true] at xh
  unfold State.memPut
  simp [xh]

@[simp] theorem State.noteCleared_seen (xe : Extent) (s : State) (k : Nat) (xh : xe.covers [.port] [] = true) :
    State.seen xe (State.noteCleared s k) = State.seen xe s := by
  simp only [Extent.covers, List.all_cons, List.all_nil, Bool.and_true, Bool.true_and, Bool.and_eq_true] at xh
  unfold State.noteCleared
  simp [xh]

@[simp] theorem State.setPend_seen (xe : Extent) (s : State) (src : Nat) (b : Bool) (xh : xe.covers [] [F.ICU_PENDw_SRC] = true) :
    State.seen xe (State.setPend s src b) = State.seen xe s := by
  simp only [Extent.covers, List.all_cons, List.all_nil, Bool.and_true, Bool.true_and, Bool.and_eq_true] at xh
  unfold State.setPend
  simp [xh]

@[simp] theorem State.setSq_seen (xe : Extent) (s : State) (n : Nat) (q : Seq) (xh : xe.covers [.seqs] [] = true) :
    State.seen xe (State.setSq s n q) = State.seen xe s := by
  simp only [Extent.covers, List.all_cons, List.all_nil, Bool.and_true, Bool.true_and, Bool.and_eq_true] at xh
  unfold State.setSq
  simp [xh]

@[simp] theorem State.noteWake_seen (xe : Extent) (s : State) (src : Nat) (xh : xe.covers [.seqs] [] = true) :
    State.seen xe (State.noteWake s src) = State.seen xe s := by
  simp only [Extent.covers, List.all_cons, List.all_nil, Bool.and_true, Bool.true_and, Bool.and_eq_true] at xh
  unfold State.noteWake
  simp [xh]

@[simp] theorem State.raise_seen (xe : Extent) (s : State) (src : Nat) (xh : xe.covers [.seqs] [F.ICU_LOSTCNT, F.ICU_OVRw_SRC, F.ICU_PENDw_SRC] = true) :
    State.seen xe (State.raise s src) = State.seen xe s := by
  simp only [Extent.covers, List.all_cons, List.all_nil, Bool.and_true, Bool.true_and, Bool.and_eq_true] at xh
  unfold State.raise
  simp [xh]

@[simp] theorem State.sticky_seen (xe : Extent) (s : State) (f : Fld) (i src : Nat) (xh : xe.covers [.seqs] [F.ICU_LOSTCNT, F.ICU_OVRw_SRC, F.ICU_PENDw_SRC] = true) (xhf : xe.r f = true) :
    State.seen xe (State.sticky s f i src) = State.seen xe s := by
  simp only [Extent.covers, List.all_cons, List.all_nil, Bool.and_true, Bool.true_and, Bool.and_eq_true] at xh
  unfold State.sticky
  simp [xh, xhf]

@[simp] theorem State.rsvdEnc_seen (xe : Extent) (s : State) (xh : xe.covers [.seqs] [F.ICU_LOSTCNT, F.ICU_OVRw_SRC, F.ICU_PENDw_SRC, F.SYS_ERRSTAT_RSVDENC] = true) :
    State.seen xe (State.rsvdEnc s) = State.seen xe s := by
  simp only [Extent.covers, List.all_cons, List.all_nil, Bool.and_true, Bool.true_and, Bool.and_eq_true] at xh
  unfold State.rsvdEnc
  simp [xh]

@[simp] theorem State.logEntry_seen (xe : Extent) (s : State) (e : FaultEntry) (xh : xe.covers [.log, .port] [] = true) :
    State.seen xe (State.logEntry s e) = State.seen xe s := by
  simp only [Extent.covers, List.all_cons, List.all_nil, Bool.and_true, Bool.true_and, Bool.and_eq_true] at xh
  unfold State.logEntry
  repeat' first
    | (extract_lets +onlyGivenNames x; refine have hx : State.seen xe x = State.seen xe s := ?_; ?_; (on_goal 1 => unfold x); (on_goal 2 => clear_value x))
    | (extract_lets +onlyGivenNames x; refine have hx : State.seen xe x.2 = State.seen xe s := ?_; ?_; (on_goal 1 => unfold x); (on_goal 2 => clear_value x))
    | (extract_lets +onlyGivenNames x; refine have hx : State.seen xe x.2.2 = State.seen xe s := ?_; ?_; (on_goal 1 => unfold x); (on_goal 2 => clear_value x))
    | (extract_lets +onlyGivenNames x; clear_value x)
    | (simp [*]; done)
    | (refine (foldl_seen xe _ _ _ ?_).trans ?_; (on_goal 1 => intro s a))
    | (refine (State.when_seen xe _ _ _ ?_).trans ?_; (on_goal 1 => intro s))
    | split
    | (simp_all; done)

@[simp] theorem State.logSev_seen (xe : Extent) (s : State) (code sev index detail : Nat) (xh : xe.covers [.log, .port] [F.DBG_FLTSTAT_CLASS] = true) :
    State.seen xe (State.logSev s code sev index detail) = State.seen xe s := by
  simp only [Extent.covers, List.all_cons, List.all_nil, Bool.and_true, Bool.true_and, Bool.and_eq_true] at xh
  unfold State.logSev
  repeat' first
    | (extract_lets +onlyGivenNames x; refine have hx : State.seen xe x = State.seen xe s := ?_; ?_; (on_goal 1 => unfold x); (on_goal 2 => clear_value x))
    | (extract_lets +onlyGivenNames x; refine have hx : State.seen xe x.2 = State.seen xe s := ?_; ?_; (on_goal 1 => unfold x); (on_goal 2 => clear_value x))
    | (extract_lets +onlyGivenNames x; refine have hx : State.seen xe x.2.2 = State.seen xe s := ?_; ?_; (on_goal 1 => unfold x); (on_goal 2 => clear_value x))
    | (extract_lets +onlyGivenNames x; clear_value x)
    | (simp [*]; done)
    | (refine (foldl_seen xe _ _ _ ?_).trans ?_; (on_goal 1 => intro s a))
    | (refine (State.when_seen xe _ _ _ ?_).trans ?_; (on_goal 1 => intro s))
    | split
    | (simp_all; done)

@[simp] theorem logCycle_seen (xe : Extent) (f : State → State) (s : State) (xh : xe.covers [.log, .port] [] = true) (xhf : ∀ s, State.seen xe (f s) = State.seen xe s) :
    State.seen xe (logCycle f s) = State.seen xe s := by
  simp only [Extent.covers, List.all_cons, List.all_nil, Bool.and_true, Bool.true_and, Bool.and_eq_true] at xh
  unfold logCycle
  extract_lets c1 s1 l c2 s2 before
  have h1 : State.seen xe s1 = State.seen xe s := by simp only [s1]; rw [xhf]; simp [xh, xhf]
  clear_value l s1
  have h2 : State.seen xe s2 = State.seen xe s := by simp only [s2]; rw [← h1]; simp [xh, xhf]
  clear_value s2
  exact (foldl_seen xe _ _ _ (fun s a => by simp [xh, xhf])).trans h2

@[simp] theorem State.logFault_seen (xe : Extent) (s : State) (code index detail : Nat) (xh : xe.covers [.log, .port] [F.DBG_FLTSTAT_CLASS] = true) :
    State.seen xe (State.logFault s code index detail) = State.seen xe s := by
  simp only [Extent.covers, List.all_cons, List.all_nil, Bool.and_true, Bool.true_and, Bool.and_eq_true] at xh
  unfold State.logFault
  simp [xh]

@[simp] theorem State.modTime_seen (xe : Extent) (s : State) (f : TimeSt → TimeSt) (xh : xe.covers [.time] [] = true) :
    State.seen xe (State.modTime s f) = State.seen xe s := by
  simp only [Extent.covers, List.all_cons, List.all_nil, Bool.and_true, Bool.true_and, Bool.and_eq_true] at xh
  unfold State.modTime
  simp [xh]

@[simp] theorem State.modBcn_seen (xe : Extent) (s : State) (f : Beacon → Beacon) (xh : xe.covers [.time] [] = true) :
    State.seen xe (State.modBcn s f) = State.seen xe s := by
  simp only [Extent.covers, List.all_cons, List.all_nil, Bool.and_true, Bool.true_and, Bool.and_eq_true] at xh
  unfold State.modBcn
  simp [xh]

@[simp] theorem tbIncWrite_seen (xe : Extent) (n : Nat) (v : Word) (s : State) (xh : xe.covers [.time] [F.TIM_T3STAT_INCERR, F.TIM_TBnINCHI_INC] = true) :
    State.seen xe (tbIncWrite n v s) = State.seen xe s := by
  simp only [Extent.covers, List.all_cons, List.all_nil, Bool.and_true, Bool.true_and, Bool.and_eq_true] at xh
  unfold tbIncWrite
  simp [xh]

@[simp] theorem tbAdjWrite_seen (xe : Extent) (n : Nat) (v : Word) (s : State) (xh : xe.covers [.time] [] = true) :
    State.seen xe (tbAdjWrite n v s) = State.seen xe s := by
  simp only [Extent.covers, List.all_cons, List.all_nil, Bool.and_true, Bool.true_and, Bool.and_eq_true] at xh
  unfold tbAdjWrite
  simp [xh]

@[simp] theorem tbNsRead_seen (xe : Extent) (n c : Nat) (s : State) (xh : xe.covers [.rdata] [F.TIM_TBnFRAC_VALUE, F.TIM_TBnWRAP_VALUE] = true) :
    State.seen xe (tbNsRead n c s) = State.seen xe s := by
  simp only [Extent.covers, List.all_cons, List.all_nil, Bool.and_true, Bool.true_and, Bool.and_eq_true] at xh
  unfold tbNsRead
  simp [xh]

@[simp] theorem timStatclr_seen (xe : Extent) (s : State) (xh : xe.covers [] [F.TIM_BCNBAD, F.TIM_FARCNT, F.TIM_HOLDCNT, F.TIM_PTPDROP, F.TIM_SRCCNT] = true) :
    State.seen xe (timStatclr s) = State.seen xe s := by
  simp only [Extent.covers, List.all_cons, List.all_nil, Bool.and_true, Bool.true_and, Bool.and_eq_true] at xh
  unfold timStatclr
  simp [xh]

@[simp] theorem servo_seen (xe : Extent) (s : State) (src : Nat) (e : Int) (xh : xe.covers [.time] [] = true) :
    State.seen xe (servo s src e) = State.seen xe s := by
  simp only [Extent.covers, List.all_cons, List.all_nil, Bool.and_true, Bool.true_and, Bool.and_eq_true] at xh
  unfold servo
  simp [xh]

@[simp] theorem farCheck_seen (xe : Extent) (s : State) (e : Int) (xh : xe.covers [.seqs, .log, .port] [F.DBG_FLTSTAT_CLASS, F.ICU_LOSTCNT, F.ICU_OVRw_SRC, F.ICU_PENDw_SRC, F.TIM_FARCNT, F.TIM_T3STAT_FAR] = true) :
    State.seen xe (farCheck s e) = State.seen xe s := by
  simp only [Extent.covers, List.all_cons, List.all_nil, Bool.and_true, Bool.true_and, Bool.and_eq_true] at xh
  unfold farCheck
  simp [xh]

@[simp] theorem tb3Tick_seen (xe : Extent) (s : State) (xh : xe.covers [.seqs, .log, .time, .port] [F.DBG_FLTSTAT_CLASS, F.ICU_LOSTCNT, F.ICU_OVRw_SRC, F.ICU_PENDw_SRC, F.TIM_FARCNT, F.TIM_HOLDCNT, F.TIM_SRCCNT, F.TIM_T3OFF_OFFSET, F.TIM_T3STAT_FAR, F.TIM_T3STAT_HOLD, F.TIM_T3STAT_SRC, F.TIM_T3STAT_SRCCHG] = true) :
    State.seen xe (tb3Tick s) = State.seen xe s := by
  simp only [Extent.covers, List.all_cons, List.all_nil, Bool.and_true, Bool.true_and, Bool.and_eq_true] at xh
  unfold tb3Tick
  simp [xh]

@[simp] theorem advanceBases_seen (xe : Extent) (s : State) (xh : xe.covers [.time] [] = true) :
    State.seen xe (advanceBases s) = State.seen xe s := by
  simp only [Extent.covers, List.all_cons, List.all_nil, Bool.and_true, Bool.true_and, Bool.and_eq_true] at xh
  unfold advanceBases
  simp [xh]

@[simp] theorem tb3Step_seen (xe : Extent) (s : State) (xh : xe.covers [.time] [] = true) :
    State.seen xe (tb3Step s) = State.seen xe s := by
  simp only [Extent.covers, List.all_cons, List.all_nil, Bool.and_true, Bool.true_and, Bool.and_eq_true] at xh
  unfold tb3Step
  simp [xh]

@[simp] theorem stepRecord_seen (xe : Extent) (u frm : Nat) (s : State) (xh : xe.covers [.seqs, .time] [F.ICU_LOSTCNT, F.ICU_OVRw_SRC, F.ICU_PENDw_SRC, F.TIM_STEPDELTA_FRAME, F.TIM_STEPFRM_FRAME, F.TIM_T3STAT_STEPPED] = true) :
    State.seen xe (stepRecord u frm s) = State.seen xe s := by
  simp only [Extent.covers, List.all_cons, List.all_nil, Bool.and_true, Bool.true_and, Bool.and_eq_true] at xh
  unfold stepRecord
  simp [xh]

@[simp] theorem ppsInEdge_seen (xe : Extent) (c : Nat) (s : State) (xh : xe.covers [.seqs] [F.ICU_LOSTCNT, F.ICU_OVRw_SRC, F.ICU_PENDw_SRC, F.TIM_PPSCAPn_NS, F.TIM_PPSSTAT_NEW, F.TIM_PPSSTAT_OVERRUN, F.TIM_PPSSTAT_WRAP] = true) :
    State.seen xe (ppsInEdge c s) = State.seen xe s := by
  simp only [Extent.covers, List.all_cons, List.all_nil, Bool.and_true, Bool.true_and, Bool.and_eq_true] at xh
  unfold ppsInEdge
  simp [xh]

@[simp] theorem ppsNextWrite_seen (xe : Extent) (v : Word) (s : State) (xh : xe.covers [] [F.TIM_PPSCFG_ARMED, F.TIM_PPSNEXT_NS] = true) :
    State.seen xe (ppsNextWrite v s) = State.seen xe s := by
  simp only [Extent.covers, List.all_cons, List.all_nil, Bool.and_true, Bool.true_and, Bool.and_eq_true] at xh
  unfold ppsNextWrite
  simp [xh]

@[simp] theorem ppsOutEdge_seen (xe : Extent) (c : Nat) (s : State) (xh : xe.covers [.time] [F.TIM_PPSCFG_ARMED] = true) :
    State.seen xe (ppsOutEdge c s) = State.seen xe s := by
  simp only [Extent.covers, List.all_cons, List.all_nil, Bool.and_true, Bool.true_and, Bool.and_eq_true] at xh
  unfold ppsOutEdge
  simp [xh]

@[simp] theorem ppsRise_seen (xe : Extent) (s : State) (xh : xe.covers [.time] [F.TIM_PPSCFG_ARMED] = true) :
    State.seen xe (ppsRise s) = State.seen xe s := by
  simp only [Extent.covers, List.all_cons, List.all_nil, Bool.and_true, Bool.true_and, Bool.and_eq_true] at xh
  unfold ppsRise
  simp [xh]

@[simp] theorem ppsOutEnd_seen (xe : Extent) (c : Nat) (s : State) (xh : xe.covers [.time] [] = true) :
    State.seen xe (ppsOutEnd c s) = State.seen xe s := by
  simp only [Extent.covers, List.all_cons, List.all_nil, Bool.and_true, Bool.true_and, Bool.and_eq_true] at xh
  unfold ppsOutEnd
  simp [xh]

@[simp] theorem evtCapture_seen (xe : Extent) (n : Nat) (falling : Bool) (c : Nat) (s : State) (xh : xe.covers [.seqs, .time] [F.EVT_LOSTn, F.EVT_STAT_OVERRUN, F.ICU_LOSTCNT, F.ICU_OVRw_SRC, F.ICU_PENDw_SRC] = true) :
    State.seen xe (evtCapture n falling c s) = State.seen xe s := by
  simp only [Extent.covers, List.all_cons, List.all_nil, Bool.and_true, Bool.true_and, Bool.and_eq_true] at xh
  unfold evtCapture
  simp [xh]

@[simp] theorem evtPop_seen (xe : Extent) (n : Nat) (s : State) (xh : xe.covers [.time] [] = true) :
    State.seen xe (evtPop n s) = State.seen xe s := by
  simp only [Extent.covers, List.all_cons, List.all_nil, Bool.and_true, Bool.true_and, Bool.and_eq_true] at xh
  unfold evtPop
  simp [xh]

@[simp] theorem evtStatclr_seen (xe : Extent) (s : State) (xh : xe.covers [] [F.EVT_LOSTn] = true) :
    State.seen xe (evtStatclr s) = State.seen xe s := by
  simp only [Extent.covers, List.all_cons, List.all_nil, Bool.and_true, Bool.true_and, Bool.and_eq_true] at xh
  unfold evtStatclr
  simp [xh]

@[simp] theorem beaconSend_seen (xe : Extent) (s : State) (xh : xe.covers [.time] [] = true) :
    State.seen xe (beaconSend s) = State.seen xe s := by
  simp only [Extent.covers, List.all_cons, List.all_nil, Bool.and_true, Bool.true_and, Bool.and_eq_true] at xh
  unfold beaconSend
  simp [xh]

@[simp] theorem beaconLose_seen (xe : Extent) (s : State) (xh : xe.covers [.time] [F.TIM_BCNSTAT_ACQ, F.TIM_BCNSTAT_VALID] = true) :
    State.seen xe (beaconLose s) = State.seen xe s := by
  simp only [Extent.covers, List.all_cons, List.all_nil, Bool.and_true, Bool.true_and, Bool.and_eq_true] at xh
  unfold beaconLose
  simp [xh]

@[simp] theorem beaconGood_seen (xe : Extent) (at100 w : Nat) (s : State) (xh : xe.covers [.log, .time, .port] [F.DBG_FLTSTAT_CLASS, F.TIM_BCNSTAT_ACQ, F.TIM_BCNSTAT_FNMIS, F.TIM_BCNSTAT_HOP, F.TIM_BCNSTAT_SRCOK, F.TIM_BCNSTAT_STEPPED, F.TIM_BCNSTAT_VALID] = true) :
    State.seen xe (beaconGood at100 w s) = State.seen xe s := by
  simp only [Extent.covers, List.all_cons, List.all_nil, Bool.and_true, Bool.true_and, Bool.and_eq_true] at xh
  unfold beaconGood
  simp [xh]

@[simp] theorem beaconBit_seen (xe : Extent) (at100 : Nat) (bit : Bool) (s : State) (xh : xe.covers [.log, .time, .port] [F.DBG_FLTSTAT_CLASS, F.TIM_BCNBAD, F.TIM_BCNSTAT_ACQ, F.TIM_BCNSTAT_BADWORD, F.TIM_BCNSTAT_FNMIS, F.TIM_BCNSTAT_HOP, F.TIM_BCNSTAT_HOPLIM, F.TIM_BCNSTAT_SRCOK, F.TIM_BCNSTAT_STEPPED, F.TIM_BCNSTAT_VALID] = true) :
    State.seen xe (beaconBit at100 bit s) = State.seen xe s := by
  simp only [Extent.covers, List.all_cons, List.all_nil, Bool.and_true, Bool.true_and, Bool.and_eq_true] at xh
  unfold beaconBit
  simp [xh]

@[simp] theorem beaconRtt_seen (xe : Extent) (at100 : Nat) (s : State) (xh : xe.covers [.time] [F.TIM_BCNRTT_TIME] = true) :
    State.seen xe (beaconRtt at100 s) = State.seen xe s := by
  simp only [Extent.covers, List.all_cons, List.all_nil, Bool.and_true, Bool.true_and, Bool.and_eq_true] at xh
  unfold beaconRtt
  simp [xh]

@[simp] theorem beaconCount_seen (xe : Extent) (at100 : Nat) (s : State) (xh : xe.covers [.time] [] = true) :
    State.seen xe (beaconCount at100 s) = State.seen xe s := by
  simp only [Extent.covers, List.all_cons, List.all_nil, Bool.and_true, Bool.true_and, Bool.and_eq_true] at xh
  unfold beaconCount
  simp [xh]

@[simp] theorem beaconEdge_seen (xe : Extent) (at100 width : Nat) (s : State) (xh : xe.covers [.log, .time, .port] [F.DBG_FLTSTAT_CLASS, F.TIM_BCNBAD, F.TIM_BCNOFF_OFFSET, F.TIM_BCNRTT_TIME, F.TIM_BCNSTAT_ACQ, F.TIM_BCNSTAT_BADWORD, F.TIM_BCNSTAT_FNMIS, F.TIM_BCNSTAT_HOP, F.TIM_BCNSTAT_HOPLIM, F.TIM_BCNSTAT_SRCOK, F.TIM_BCNSTAT_STEPPED, F.TIM_BCNSTAT_VALID] = true) :
    State.seen xe (beaconEdge at100 width s) = State.seen xe s := by
  simp only [Extent.covers, List.all_cons, List.all_nil, Bool.and_true, Bool.true_and, Bool.and_eq_true] at xh
  unfold beaconEdge
  simp [xh]

@[simp] theorem beaconTick_seen (xe : Extent) (s : State) (xh : xe.covers [.time] [] = true) :
    State.seen xe (beaconTick s) = State.seen xe s := by
  simp only [Extent.covers, List.all_cons, List.all_nil, Bool.and_true, Bool.true_and, Bool.and_eq_true] at xh
  unfold beaconTick
  simp [xh]

@[simp] theorem beaconMiss_seen (xe : Extent) (s : State) (xh : xe.covers [.time] [F.TIM_BCNSTAT_ACQ, F.TIM_BCNSTAT_MISS, F.TIM_BCNSTAT_VALID] = true) :
    State.seen xe (beaconMiss s) = State.seen xe s := by
  simp only [Extent.covers, List.all_cons, List.all_nil, Bool.and_true, Bool.true_and, Bool.and_eq_true] at xh
  unfold beaconMiss
  simp [xh]

@[simp] theorem beaconEcho_seen (xe : Extent) (at100 width : Nat) (s : State) (xh : xe.covers [.time] [] = true) :
    State.seen xe (beaconEcho at100 width s) = State.seen xe s := by
  simp only [Extent.covers, List.all_cons, List.all_nil, Bool.and_true, Bool.true_and, Bool.and_eq_true] at xh
  unfold beaconEcho
  simp [xh]

end Sys2Proof.Machine
end

