-- ==== Sys2Proof/Laws/SeenFabric.lean ====
section
/-! SUPPORT. What the pilots, drives, segments, engines and loops leave unseen outside the extents they are given (Laws/Seen.lean). -/
namespace Sys2Proof.Machine
set_option linter.all false

@[simp] theorem State.modFab_seen (xe : Extent) (s : State) (f : Fabric → Fabric) (xh : xe.covers [.fab] [] = true) :
    State.seen xe (State.modFab s f) = State.seen xe s := by
  simp only [Extent.covers, List.all_cons, List.all_nil, Bool.and_true, Bool.true_and, Bool.and_eq_true] at xh
  unfold State.modFab
  simp [xh]

@[simp] theorem State.memBeats_seen (xe : Extent) (s : State) (a : Nat) (bs : List Byte) (xh : xe.covers [.table, .fab] [] = true) :
    State.seen xe (State.memBeats s a bs) = State.seen xe s := by
  simp only [Extent.covers, List.all_cons, List.all_nil, Bool.and_true, Bool.true_and, Bool.and_eq_true] at xh
  unfold State.memBeats
  simp [xh]

@[simp] theorem State.modSlot_seen (xe : Extent) (s : State) (n : Nat) (f : Slot → Slot) (xh : xe.covers [.fab] [] = true) :
    State.seen xe (State.modSlot s n f) = State.seen xe s := by
  simp only [Extent.covers, List.all_cons, List.all_nil, Bool.and_true, Bool.true_and, Bool.and_eq_true] at xh
  unfold State.modSlot
  simp [xh]

@[simp] theorem State.mapSlots_seen (xe : Extent) (s : State) (f : Nat → Slot → Slot) (xh : xe.covers [.fab] [] = true) :
    State.seen xe (State.mapSlots s f) = State.seen xe s := by
  simp only [Extent.covers, List.all_cons, List.all_nil, Bool.and_true, Bool.true_and, Bool.and_eq_true] at xh
  unfold State.mapSlots
  simp [xh]

@[simp] theorem State.modBunSlots_seen (xe : Extent) (s : State) (b : Nat) (f : Nat → Slot → Slot) (xh : xe.covers [.fab] [] = true) :
    State.seen xe (State.modBunSlots s b f) = State.seen xe s := by
  simp only [Extent.covers, List.all_cons, List.all_nil, Bool.and_true, Bool.true_and, Bool.and_eq_true] at xh
  unfold State.modBunSlots
  simp [xh]

@[simp] theorem State.modBun_seen (xe : Extent) (s : State) (b : Nat) (f : Bundle → Bundle) (xh : xe.covers [.fab] [] = true) :
    State.seen xe (State.modBun s b f) = State.seen xe s := by
  simp only [Extent.covers, List.all_cons, List.all_nil, Bool.and_true, Bool.true_and, Bool.and_eq_true] at xh
  unfold State.modBun
  simp [xh]

@[simp] theorem State.modCoef_seen (xe : Extent) (s : State) (b : Nat) (f : BunCoef → BunCoef) (xh : xe.covers [.fab] [] = true) :
    State.seen xe (State.modCoef s b f) = State.seen xe s := by
  simp only [Extent.covers, List.all_cons, List.all_nil, Bool.and_true, Bool.true_and, Bool.and_eq_true] at xh
  unfold State.modCoef
  simp [xh]

@[simp] theorem State.modQuay_seen (xe : Extent) (s : State) (q : Nat) (f : Quay → Quay) (xh : xe.covers [.quays] [] = true) :
    State.seen xe (State.modQuay s q f) = State.seen xe s := by
  simp only [Extent.covers, List.all_cons, List.all_nil, Bool.and_true, Bool.true_and, Bool.and_eq_true] at xh
  unfold State.modQuay
  simp [xh]

@[simp] theorem quayCommit_seen (xe : Extent) (q n : Nat) (s : State) (xh : xe.covers [.fab, .quays] [F.QY_DRVSTAT_MODEACT] = true) :
    State.seen xe (quayCommit q n s) = State.seen xe s := by
  simp only [Extent.covers, List.all_cons, List.all_nil, Bool.and_true, Bool.true_and, Bool.and_eq_true] at xh
  unfold quayCommit
  repeat' first
    | (extract_lets +onlyGivenNames x; refine have hx : State.seen xe x = State.seen xe s := ?_; ?_; (on_goal 1 => unfold x); (on_goal 2 => clear_value x))
    | (extract_lets +onlyGivenNames x; refine have hx : State.seen xe x.2 = State.seen xe s := ?_; ?_; (on_goal 1 => unfold x); (on_goal 2 => clear_value x))
    | (extract_lets +onlyGivenNames x; refine have hx : State.seen xe x.2.2 = State.seen xe s := ?_; ?_; (on_goal 1 => unfold x); (on_goal 2 => clear_value x))
    | (extract_lets +onlyGivenNames x; clear_value x)
    | (simp [*]; done)
    | (refine (foldl_seen xe _ _ _ ?_).trans ?_; (on_goal 1 => intro s a))
    | (refine (State.when_seen xe _ _ _ ?_).trans ?_; (on_goal 1 => intro s))
    | split
    | (simp_all; done)

@[simp] theorem slotModulate_seen (xe : Extent) (slot n len : Nat) (s : State) (xh : xe.covers [.fab] [F.QY_MODOVL, F.QY_RNGSAT, F.QY_TSASGj_SET0, F.QY_TSASGj_SET1, F.QY_TSASGj_SET2, F.QY_TSASGj_SET3, F.QY_TSASGj_SET4, F.QY_TSASGj_SET5, F.QY_TSASGj_SET6, F.QY_TSASGj_SET7] = true) :
    State.seen xe (slotModulate slot n len s) = State.seen xe s := by
  simp only [Extent.covers, List.all_cons, List.all_nil, Bool.and_true, Bool.true_and, Bool.and_eq_true] at xh
  unfold slotModulate
  simp [xh]

@[simp] theorem snapCode_seen (xe : Extent) (q n : Nat) (s : State) (xh : xe.covers [] [F.QY_SNPCODE_FRAME] = true) :
    State.seen xe (snapCode q n s) = State.seen xe s := by
  simp only [Extent.covers, List.all_cons, List.all_nil, Bool.and_true, Bool.true_and, Bool.and_eq_true] at xh
  unfold snapCode
  simp [xh]

@[simp] theorem modulateAll_seen (xe : Extent) (n len : Nat) (s : State) (xh : xe.covers [.fab, .quays] [F.QY_DRVSTAT_MODEACT, F.QY_MODOVL, F.QY_RNGSAT, F.QY_SNPCODE_FRAME, F.QY_TSASGj_SET0, F.QY_TSASGj_SET1, F.QY_TSASGj_SET2, F.QY_TSASGj_SET3, F.QY_TSASGj_SET4, F.QY_TSASGj_SET5, F.QY_TSASGj_SET6, F.QY_TSASGj_SET7] = true) :
    State.seen xe (modulateAll n len s) = State.seen xe s := by
  simp only [Extent.covers, List.all_cons, List.all_nil, Bool.and_true, Bool.true_and, Bool.and_eq_true] at xh
  unfold modulateAll
  repeat' first
    | (extract_lets +onlyGivenNames x; refine have hx : State.seen xe x = State.seen xe s := ?_; ?_; (on_goal 1 => unfold x); (on_goal 2 => clear_value x))
    | (extract_lets +onlyGivenNames x; refine have hx : State.seen xe x.2 = State.seen xe s := ?_; ?_; (on_goal 1 => unfold x); (on_goal 2 => clear_value x))
    | (extract_lets +onlyGivenNames x; refine have hx : State.seen xe x.2.2 = State.seen xe s := ?_; ?_; (on_goal 1 => unfold x); (on_goal 2 => clear_value x))
    | (extract_lets +onlyGivenNames x; clear_value x)
    | (simp [*]; done)
    | (refine (foldl_seen xe _ _ _ ?_).trans ?_; (on_goal 1 => intro s a))
    | (refine (State.when_seen xe _ _ _ ?_).trans ?_; (on_goal 1 => intro s))
    | split
    | (simp_all; done)

@[simp] theorem qyDrvStatclr_seen (xe : Extent) (q : Nat) (s : State) (xh : xe.covers [] [F.QY_DRVSAT, F.QY_MODOVL, F.QY_RNGSAT] = true) :
    State.seen xe (qyDrvStatclr q s) = State.seen xe s := by
  simp only [Extent.covers, List.all_cons, List.all_nil, Bool.and_true, Bool.true_and, Bool.and_eq_true] at xh
  unfold qyDrvStatclr
  refine foldl_mem_seen xe _ _ _ ?_
  intro f hf s
  simp only [List.mem_cons, List.not_mem_nil, or_false] at hf
  rcases hf with rfl | rfl | rfl <;> simp [xh]

@[simp] theorem modeRequest_seen (xe : Extent) (q : Nat) (s : State) (xh : xe.covers [.quays] [F.QY_DRVSTAT_MODEDEN] = true) :
    State.seen xe (modeRequest q s) = State.seen xe s := by
  simp only [Extent.covers, List.all_cons, List.all_nil, Bool.and_true, Bool.true_and, Bool.and_eq_true] at xh
  unfold modeRequest
  simp [xh]

@[simp] theorem drvcfgWrite_seen (xe : Extent) (q : Nat) (v : Word) (s : State) (xh : xe.covers [.quays] [F.QY_DRVCFG_MODE, F.QY_DRVCFG_SSLEN, F.QY_DRVSTAT_MODEDEN] = true) :
    State.seen xe (drvcfgWrite q v s) = State.seen xe s := by
  simp only [Extent.covers, List.all_cons, List.all_nil, Bool.and_true, Bool.true_and, Bool.and_eq_true] at xh
  unfold drvcfgWrite
  simp [xh]

@[simp] theorem halflvlWrite_seen (xe : Extent) (q : Nat) (v : Word) (s : State) (xh : xe.covers [.quays] [F.QY_DRVSTAT_LVLERR, F.QY_HALFLVL_LEVEL] = true) :
    State.seen xe (halflvlWrite q v s) = State.seen xe s := by
  simp only [Extent.covers, List.all_cons, List.all_nil, Bool.and_true, Bool.true_and, Bool.and_eq_true] at xh
  unfold halflvlWrite
  simp [xh]

@[simp] theorem rnggainWrite_seen (xe : Extent) (q r : Nat) (v : Word) (s : State) (xh : xe.covers [.quays] [F.QY_DRVSTAT_LVLERR, F.QY_RNGGAINr_GAIN] = true) :
    State.seen xe (rnggainWrite q r v s) = State.seen xe s := by
  simp only [Extent.covers, List.all_cons, List.all_nil, Bool.and_true, Bool.true_and, Bool.and_eq_true] at xh
  unfold rnggainWrite
  simp [xh]

@[simp] theorem pilAccRd_seen (xe : Extent) (s : State) (xh : xe.covers [] [F.PIL_SCFG0_INC, F.PIL_SCFG0_MODE, F.PIL_SCFG0_SCALE, F.PIL_SCFG1_PHOFF, F.PIL_SCFG2_AMP] = true) :
    State.seen xe (pilAccRd s) = State.seen xe s := by
  simp only [Extent.covers, List.all_cons, List.all_nil, Bool.and_true, Bool.true_and, Bool.and_eq_true] at xh
  unfold pilAccRd
  simp [xh]

@[simp] theorem pilAccWr_seen (xe : Extent) (s : State) (xh : xe.covers [.fab] [F.PIL_STAT_WERR] = true) :
    State.seen xe (pilAccWr s) = State.seen xe s := by
  simp only [Extent.covers, List.all_cons, List.all_nil, Bool.and_true, Bool.true_and, Bool.and_eq_true] at xh
  unfold pilAccWr
  simp [xh]

@[simp] theorem pilToStaging_seen (xe : Extent) (s : State) (xh : xe.covers [.fab] [F.PIL_STAT_BUSY] = true) :
    State.seen xe (pilToStaging s) = State.seen xe s := by
  simp only [Extent.covers, List.all_cons, List.all_nil, Bool.and_true, Bool.true_and, Bool.and_eq_true] at xh
  unfold pilToStaging
  simp [xh]

@[simp] theorem pilRevert_seen (xe : Extent) (s : State) (xh : xe.covers [.fab] [F.PIL_STAT_BUSY, F.PIL_STAT_WERR] = true) :
    State.seen xe (pilRevert s) = State.seen xe s := by
  simp only [Extent.covers, List.all_cons, List.all_nil, Bool.and_true, Bool.true_and, Bool.and_eq_true] at xh
  unfold pilRevert
  simp [xh]

@[simp] theorem pilApply_seen (xe : Extent) (delay : Nat) (s : State) (xh : xe.covers [.fab] [F.PIL_APPLYF_FRAME, F.PIL_BADSLOT_SLOT, F.PIL_STAT_BUSY, F.PIL_STAT_REASON, F.PIL_STAT_REFUSED, F.PIL_STAT_WERR] = true) :
    State.seen xe (pilApply delay s) = State.seen xe s := by
  simp only [Extent.covers, List.all_cons, List.all_nil, Bool.and_true, Bool.true_and, Bool.and_eq_true] at xh
  unfold pilApply
  repeat' first
    | (extract_lets +onlyGivenNames x; refine have hx : State.seen xe x = State.seen xe s := ?_; ?_; (on_goal 1 => unfold x); (on_goal 2 => clear_value x))
    | (extract_lets +onlyGivenNames x; refine have hx : State.seen xe x.2 = State.seen xe s := ?_; ?_; (on_goal 1 => unfold x); (on_goal 2 => clear_value x))
    | (extract_lets +onlyGivenNames x; refine have hx : State.seen xe x.2.2 = State.seen xe s := ?_; ?_; (on_goal 1 => unfold x); (on_goal 2 => clear_value x))
    | (extract_lets +onlyGivenNames x; clear_value x)
    | (simp [*]; done)
    | (refine (foldl_seen xe _ _ _ ?_).trans ?_; (on_goal 1 => intro s a))
    | (refine (State.when_seen xe _ _ _ ?_).trans ?_; (on_goal 1 => intro s))
    | split
    | (simp_all; done)

@[simp] theorem pilTakeEffect_seen (xe : Extent) (s : State) (xh : xe.covers [.fab] [F.PIL_STAT_BUSY] = true) :
    State.seen xe (pilTakeEffect s) = State.seen xe s := by
  simp only [Extent.covers, List.all_cons, List.all_nil, Bool.and_true, Bool.true_and, Bool.and_eq_true] at xh
  unfold pilTakeEffect
  repeat' first
    | (extract_lets +onlyGivenNames x; refine have hx : State.seen xe x = State.seen xe s := ?_; ?_; (on_goal 1 => unfold x); (on_goal 2 => clear_value x))
    | (extract_lets +onlyGivenNames x; refine have hx : State.seen xe x.2 = State.seen xe s := ?_; ?_; (on_goal 1 => unfold x); (on_goal 2 => clear_value x))
    | (extract_lets +onlyGivenNames x; refine have hx : State.seen xe x.2.2 = State.seen xe s := ?_; ?_; (on_goal 1 => unfold x); (on_goal 2 => clear_value x))
    | (extract_lets +onlyGivenNames x; clear_value x)
    | (simp [*]; done)
    | (refine (foldl_seen xe _ _ _ ?_).trans ?_; (on_goal 1 => intro s a))
    | (refine (State.when_seen xe _ _ _ ?_).trans ?_; (on_goal 1 => intro s))
    | split
    | (simp_all; done)

@[simp] theorem pilCopyDone_seen (xe : Extent) (s : State) (xh : xe.covers [] [F.PIL_STAT_BUSY] = true) :
    State.seen xe (pilCopyDone s) = State.seen xe s := by
  simp only [Extent.covers, List.all_cons, List.all_nil, Bool.and_true, Bool.true_and, Bool.and_eq_true] at xh
  unfold pilCopyDone
  simp [xh]

@[simp] theorem State.mapTrs_seen (xe : Extent) (s : State) (slot : Nat) (f : Tr → Tr) (xh : xe.covers [.fab] [] = true) :
    State.seen xe (State.mapTrs s slot f) = State.seen xe s := by
  simp only [Extent.covers, List.all_cons, List.all_nil, Bool.and_true, Bool.true_and, Bool.and_eq_true] at xh
  unfold State.mapTrs
  simp [xh]

@[simp] theorem trStart_seen (xe : Extent) (slot : Nat) (t : Tr) (s : State) (xh : xe.covers [.fab] [F.SEG_LATEEND, F.SEG_SPLITCNT, F.SEG_STEPCAP] = true) :
    State.seen xe (trStart slot t s) = State.seen xe s := by
  simp only [Extent.covers, List.all_cons, List.all_nil, Bool.and_true, Bool.true_and, Bool.and_eq_true] at xh
  unfold trStart
  simp [xh]

@[simp] theorem truncTick_seen (xe : Extent) (f : Nat) (s : State) (xh : xe.covers [] [F.SEG_TRUNCCNT] = true) :
    State.seen xe (truncTick f s) = State.seen xe s := by
  simp only [Extent.covers, List.all_cons, List.all_nil, Bool.and_true, Bool.true_and, Bool.and_eq_true] at xh
  unfold truncTick
  simp [xh]

@[simp] theorem lateEndSlot_seen (xe : Extent) (slot n : Nat) (s : State) (xh : xe.covers [.fab] [F.SEG_LATEEND] = true) :
    State.seen xe (lateEndSlot slot n s) = State.seen xe s := by
  simp only [Extent.covers, List.all_cons, List.all_nil, Bool.and_true, Bool.true_and, Bool.and_eq_true] at xh
  unfold lateEndSlot
  simp [xh]

@[simp] theorem chunkRequests_seen (xe : Extent) (n : Nat) (s : State) (xh : xe.covers [.fab] [F.SEG_FETCHHWM_FETCHES] = true) :
    State.seen xe (chunkRequests n s) = State.seen xe s := by
  simp only [Extent.covers, List.all_cons, List.all_nil, Bool.and_true, Bool.true_and, Bool.and_eq_true] at xh
  unfold chunkRequests
  simp [xh]

@[simp] theorem chunkDeliver_seen (xe : Extent) (got : List (Nat × Nat)) (s : State) (xh : xe.covers [.fab] [] = true) :
    State.seen xe (chunkDeliver got s) = State.seen xe s := by
  simp only [Extent.covers, List.all_cons, List.all_nil, Bool.and_true, Bool.true_and, Bool.and_eq_true] at xh
  unfold chunkDeliver
  simp [xh]

@[simp] theorem segStatclr_seen (xe : Extent) (s : State) (xh : xe.covers [.port] [F.SEG_DEFERCNT, F.SEG_FETCHHWM_FETCHES, F.SEG_LATEEND, F.SEG_SPLITCNT, F.SEG_STEPCAP, F.SEG_TRUNCCNT, F.SEG_UNDCNT] = true) :
    State.seen xe (segStatclr s) = State.seen xe s := by
  simp only [Extent.covers, List.all_cons, List.all_nil, Bool.and_true, Bool.true_and, Bool.and_eq_true] at xh
  unfold segStatclr
  simp [xh]

@[simp] theorem State.ev_seen (xe : Extent) (s : State) (b : Nat) (e : EngEv) (xh : xe.covers [.fab] [] = true) :
    State.seen xe (State.ev s b e) = State.seen xe s := by
  simp only [Extent.covers, List.all_cons, List.all_nil, Bool.and_true, Bool.true_and, Bool.and_eq_true] at xh
  unfold State.ev
  simp [xh]

@[simp] theorem State.modLoop_seen (xe : Extent) (s : State) (n : Nat) (f : Loop → Loop) (xh : xe.covers [.fab] [] = true) :
    State.seen xe (State.modLoop s n f) = State.seen xe s := by
  simp only [Extent.covers, List.all_cons, List.all_nil, Bool.and_true, Bool.true_and, Bool.and_eq_true] at xh
  unfold State.modLoop
  simp [xh]

@[simp] theorem State.inSnap_seen (xe : Extent) (s : State) (g : State → State) (xh : xe.covers [.fab] [] = true) (xhg : ∀ s, State.seen xe (g s) = State.seen xe s) :
    State.seen xe (State.inSnap s g) = State.seen xe s := by
  simp only [Extent.covers, List.all_cons, List.all_nil, Bool.and_true, Bool.true_and, Bool.and_eq_true] at xh
  unfold State.inSnap
  repeat' first
    | (extract_lets +onlyGivenNames x; refine have hx : State.seen xe x = State.seen xe s := ?_; ?_; (on_goal 1 => unfold x); (on_goal 2 => clear_value x))
    | (extract_lets +onlyGivenNames x; refine have hx : State.seen xe x.2 = State.seen xe s := ?_; ?_; (on_goal 1 => unfold x); (on_goal 2 => clear_value x))
    | (extract_lets +onlyGivenNames x; refine have hx : State.seen xe x.2.2 = State.seen xe s := ?_; ?_; (on_goal 1 => unfold x); (on_goal 2 => clear_value x))
    | (extract_lets +onlyGivenNames x; clear_value x)
    | (simp [*]; done)
    | (refine (foldl_seen xe _ _ _ ?_).trans ?_; (on_goal 1 => intro s a))
    | (refine (State.when_seen xe _ _ _ ?_).trans ?_; (on_goal 1 => intro s))
    | split
    | (simp_all; done)

@[simp] theorem foldSlot_seen (xe : Extent) (n : Nat) (s : State) (xh : xe.covers [.fab] [] = true) :
    State.seen xe (foldSlot n s) = State.seen xe s := by
  simp only [Extent.covers, List.all_cons, List.all_nil, Bool.and_true, Bool.true_and, Bool.and_eq_true] at xh
  unfold foldSlot
  simp [xh]

@[simp] theorem State.eachSlot_seen (xe : Extent) (s : State) (b : Nat) (f : Nat → State → State) (xhf : ∀ a s, State.seen xe (f a s) = State.seen xe s) :
    State.seen xe (State.eachSlot s b f) = State.seen xe s := by
  unfold State.eachSlot
  simp [xhf]

@[simp] theorem setLoops_seen (xe : Extent) (b : Nat) (was st : BState) (s : State) (xh : xe.covers [.fab] [] = true) :
    State.seen xe (setLoops b was st s) = State.seen xe s := by
  simp only [Extent.covers, List.all_cons, List.all_nil, Bool.and_true, Bool.true_and, Bool.and_eq_true] at xh
  unfold setLoops
  simp [xh]

@[simp] theorem setBundle_seen (xe : Extent) (b : Nat) (st : BState) (s : State) (xh : xe.covers [.fab] [] = true) :
    State.seen xe (setBundle b st s) = State.seen xe s := by
  simp only [Extent.covers, List.all_cons, List.all_nil, Bool.and_true, Bool.true_and, Bool.and_eq_true] at xh
  unfold setBundle
  simp [xh]

@[simp] theorem bfStage_seen (xe : Extent) (b : Nat) (xs : List Rat) (s : State) (xh : xe.covers [.fab] [] = true) :
    State.seen xe (bfStage b xs s).2 = State.seen xe s := by
  simp only [Extent.covers, List.all_cons, List.all_nil, Bool.and_true, Bool.true_and, Bool.and_eq_true] at xh
  unfold bfStage
  simp [xh]

@[simp] theorem demodBundle_seen (xe : Extent) (b m : Nat) (s : State) (xh : xe.covers [.fab] [F.QY_TSASGj_SET0, F.QY_TSASGj_SET1, F.QY_TSASGj_SET2, F.QY_TSASGj_SET3, F.QY_TSASGj_SET4, F.QY_TSASGj_SET5, F.QY_TSASGj_SET6, F.QY_TSASGj_SET7] = true) :
    State.seen xe (demodBundle b m s) = State.seen xe s := by
  simp only [Extent.covers, List.all_cons, List.all_nil, Bool.and_true, Bool.true_and, Bool.and_eq_true] at xh
  unfold demodBundle
  simp [xh]

@[simp] theorem zeroAccum_seen (xe : Extent) (b : Nat) (s : State) (xh : xe.covers [.fab] [] = true) :
    State.seen xe (zeroAccum b s) = State.seen xe s := by
  simp only [Extent.covers, List.all_cons, List.all_nil, Bool.and_true, Bool.true_and, Bool.and_eq_true] at xh
  unfold zeroAccum
  simp [xh]

@[simp] theorem updateSlot_seen (xe : Extent) (b k : Nat) (e : Rat) (n : Nat) (s : State) (xh : xe.covers [.fab] [] = true) :
    State.seen xe (updateSlot b k e n s).2 = State.seen xe s := by
  simp only [Extent.covers, List.all_cons, List.all_nil, Bool.and_true, Bool.true_and, Bool.and_eq_true] at xh
  unfold updateSlot
  repeat' first
    | (extract_lets +onlyGivenNames x; refine have hx : State.seen xe x = State.seen xe s := ?_; ?_; (on_goal 1 => unfold x); (on_goal 2 => clear_value x))
    | (extract_lets +onlyGivenNames x; refine have hx : State.seen xe x.2 = State.seen xe s := ?_; ?_; (on_goal 1 => unfold x); (on_goal 2 => clear_value x))
    | (extract_lets +onlyGivenNames x; refine have hx : State.seen xe x.2.2 = State.seen xe s := ?_; ?_; (on_goal 1 => unfold x); (on_goal 2 => clear_value x))
    | (extract_lets +onlyGivenNames x; clear_value x)
    | (simp [*]; done)
    | (refine (foldl_seen xe _ _ _ ?_).trans ?_; (on_goal 1 => intro s a))
    | (refine (State.when_seen xe _ _ _ ?_).trans ?_; (on_goal 1 => intro s))
    | split
    | (simp_all; done)

@[simp] theorem updateBundle_seen (xe : Extent) (b f : Nat) (s : State) (xh : xe.covers [.fab] [] = true) :
    State.seen xe (updateBundle b f s) = State.seen xe s := by
  simp only [Extent.covers, List.all_cons, List.all_nil, Bool.and_true, Bool.true_and, Bool.and_eq_true] at xh
  unfold updateBundle
  extract_lets k ns errs r1 s1 s2 r r2 r3 s3
  have h1 : State.seen xe s1 = State.seen xe s := by
    simp only [s1]; refine (foldl_seen xe _ _ _ (fun s v => by simp [xh])).trans ?_; simp [r1, xh]
  have h2 : State.seen xe s2 = State.seen xe s := by simp [s2, h1, xh]
  have hu : ∀ (l : List Nat) (p : List Upd × State), State.seen xe (l.foldl (fun (p : List Upd × State) n =>
      let u := updateSlot b k (p.2.eOf n) n p.2
      (p.1 ++ [u.1], u.2)) p).2 = State.seen xe p.2 := by
    intro l
    induction l with
    | nil => intro p; rfl
    | cons n l ih => intro p; rw [List.foldl_cons, ih]; simp [xh]
  have h3 : State.seen xe r.2 = State.seen xe s := (hu ns ([], s2)).trans h2
  have h4 : State.seen xe s3 = State.seen xe s := by
    simp only [s3]; refine (foldl_seen xe _ _ _ (fun s v => by simp [xh])).trans ?_; simp [r3, r2, h3, xh]
  clear_value s3
  simp [h4, xh]

@[simp] theorem calOpenings_seen (xe : Extent) (f : Nat) (s : State) (xh : xe.covers [.fab] [] = true) :
    State.seen xe (calOpenings f s) = State.seen xe s := by
  simp only [Extent.covers, List.all_cons, List.all_nil, Bool.and_true, Bool.true_and, Bool.and_eq_true] at xh
  unfold calOpenings
  simp [xh]

@[simp] theorem loopBundle_seen (xe : Extent) (b f : Nat) (s : State) (xh : xe.covers [.fab] [F.QY_TSASGj_SET0, F.QY_TSASGj_SET1, F.QY_TSASGj_SET2, F.QY_TSASGj_SET3, F.QY_TSASGj_SET4, F.QY_TSASGj_SET5, F.QY_TSASGj_SET6, F.QY_TSASGj_SET7] = true) :
    State.seen xe (loopBundle b f s) = State.seen xe s := by
  simp only [Extent.covers, List.all_cons, List.all_nil, Bool.and_true, Bool.true_and, Bool.and_eq_true] at xh
  unfold loopBundle
  simp [xh]

@[simp] theorem transSlot_seen (xe : Extent) (n h : Nat) (s : State) (xh : xe.covers [.fab] [F.SEG_LATEEND] = true) :
    State.seen xe (transSlot n h s).2.2.2 = State.seen xe s := by
  simp only [Extent.covers, List.all_cons, List.all_nil, Bool.and_true, Bool.true_and, Bool.and_eq_true] at xh
  unfold transSlot
  repeat' first
    | (extract_lets +onlyGivenNames x; refine have hx : State.seen xe x = State.seen xe s := ?_; ?_; (on_goal 1 => unfold x); (on_goal 2 => clear_value x))
    | (extract_lets +onlyGivenNames x; refine have hx : State.seen xe x.2 = State.seen xe s := ?_; ?_; (on_goal 1 => unfold x); (on_goal 2 => clear_value x))
    | (extract_lets +onlyGivenNames x; refine have hx : State.seen xe x.2.2 = State.seen xe s := ?_; ?_; (on_goal 1 => unfold x); (on_goal 2 => clear_value x))
    | (extract_lets +onlyGivenNames x; clear_value x)
    | (simp [*]; done)
    | (refine (foldl_seen xe _ _ _ ?_).trans ?_; (on_goal 1 => intro s a))
    | (refine (State.when_seen xe _ _ _ ?_).trans ?_; (on_goal 1 => intro s))
    | split
    | (simp_all; done)

@[simp] theorem composeSlot_seen (xe : Extent) (h : Nat) (sw : Option Rat) (n : Nat) (s : State) (xh : xe.covers [.fab] [F.SEG_LATEEND] = true) :
    State.seen xe (composeSlot h sw n s) = State.seen xe s := by
  simp only [Extent.covers, List.all_cons, List.all_nil, Bool.and_true, Bool.true_and, Bool.and_eq_true] at xh
  unfold composeSlot
  simp [xh]

@[simp] theorem engineBundle_seen (xe : Extent) (sw : Nat → Nat → Option Rat) (f b : Nat) (s : State) (xh : xe.covers [.fab] [F.QY_TSASGj_SET0, F.QY_TSASGj_SET1, F.QY_TSASGj_SET2, F.QY_TSASGj_SET3, F.QY_TSASGj_SET4, F.QY_TSASGj_SET5, F.QY_TSASGj_SET6, F.QY_TSASGj_SET7, F.SEG_LATEEND] = true) :
    State.seen xe (engineBundle sw f b s) = State.seen xe s := by
  simp only [Extent.covers, List.all_cons, List.all_nil, Bool.and_true, Bool.true_and, Bool.and_eq_true] at xh
  unfold engineBundle
  simp [xh]

@[simp] theorem heldSlot_seen (xe : Extent) (n : Nat) (s : State) (xh : xe.covers [.fab] [] = true) :
    State.seen xe (heldSlot n s) = State.seen xe s := by
  simp only [Extent.covers, List.all_cons, List.all_nil, Bool.and_true, Bool.true_and, Bool.and_eq_true] at xh
  unfold heldSlot
  simp [xh]

@[simp] theorem engineFrame_seen (xe : Extent) (sw : Nat → Nat → Option Rat) (f : Nat) (s : State) (xh : xe.covers [.fab] [F.QY_TSASGj_SET0, F.QY_TSASGj_SET1, F.QY_TSASGj_SET2, F.QY_TSASGj_SET3, F.QY_TSASGj_SET4, F.QY_TSASGj_SET5, F.QY_TSASGj_SET6, F.QY_TSASGj_SET7, F.SEG_LATEEND] = true) :
    State.seen xe (engineFrame sw f s) = State.seen xe s := by
  simp only [Extent.covers, List.all_cons, List.all_nil, Bool.and_true, Bool.true_and, Bool.and_eq_true] at xh
  unfold engineFrame
  simp [xh]

@[simp] theorem State.asOf_seen (xe : Extent) (s : State) (n : EngSnap) (xh : xe.covers [.fab] [] = true) :
    State.seen xe (State.asOf s n) = State.seen xe s := by
  simp only [Extent.covers, List.all_cons, List.all_nil, Bool.and_true, Bool.true_and, Bool.and_eq_true] at xh
  unfold State.asOf
  simp [xh]

@[simp] theorem lateBundle_seen (xe : Extent) (f : Nat) (snap : EngSnap) (b : Nat) (s : State) (xh : xe.covers [.fab] [] = true) :
    State.seen xe (lateBundle f snap b s) = State.seen xe s := by
  simp only [Extent.covers, List.all_cons, List.all_nil, Bool.and_true, Bool.true_and, Bool.and_eq_true] at xh
  unfold lateBundle
  extract_lets was upd s1
  have h1 : State.seen xe s1 = State.seen xe s := by simp only [s1]; refine foldl_seen xe _ _ _ ?_; intro s n; simp [xh]
  clear_value s1
  simp [h1, xh]

@[simp] theorem recordUnderruns_seen (xe : Extent) (f : Nat) (slots : List Nat) (s : State) (xh : xe.covers [.seqs] [F.ICU_LOSTCNT, F.ICU_OVRw_SRC, F.ICU_PENDw_SRC, F.SEG_STAT_UNDACT, F.SEG_UNDFLAG_QY, F.SEG_UNDLAST_FRAME, F.SEG_UNDLAST_SLOT] = true) :
    State.seen xe (recordUnderruns f slots s) = State.seen xe s := by
  simp only [Extent.covers, List.all_cons, List.all_nil, Bool.and_true, Bool.true_and, Bool.and_eq_true] at xh
  unfold recordUnderruns
  repeat' first
    | (extract_lets +onlyGivenNames x; refine have hx : State.seen xe x = State.seen xe s := ?_; ?_; (on_goal 1 => unfold x); (on_goal 2 => clear_value x))
    | (extract_lets +onlyGivenNames x; refine have hx : State.seen xe x.2 = State.seen xe s := ?_; ?_; (on_goal 1 => unfold x); (on_goal 2 => clear_value x))
    | (extract_lets +onlyGivenNames x; refine have hx : State.seen xe x.2.2 = State.seen xe s := ?_; ?_; (on_goal 1 => unfold x); (on_goal 2 => clear_value x))
    | (extract_lets +onlyGivenNames x; clear_value x)
    | (simp [*]; done)
    | (refine (foldl_seen xe _ _ _ ?_).trans ?_; (on_goal 1 => intro s a))
    | (refine (State.when_seen xe _ _ _ ?_).trans ?_; (on_goal 1 => intro s))
    | split
    | (simp_all; done)

@[simp] theorem recordEvents_seen (xe : Extent) (f : Nat) (late : List Nat) (evs : List (Nat × EngEv)) (s : State) (xh : xe.covers [.seqs] [F.ICU_LOSTCNT, F.ICU_OVRw_SRC, F.ICU_PENDw_SRC, F.MOR_BFSAT, F.MOR_CLAMPCNT, F.MOR_FOLDCNT, F.MOR_SKIPGAP, F.QY_DRVSAT, F.SEG_STAT_UNDACT, F.SEG_UNDCNT, F.SEG_UNDFLAG_QY, F.SEG_UNDLAST_FRAME, F.SEG_UNDLAST_SLOT] = true) :
    State.seen xe (recordEvents f late evs s) = State.seen xe s := by
  simp only [Extent.covers, List.all_cons, List.all_nil, Bool.and_true, Bool.true_and, Bool.and_eq_true] at xh
  unfold recordEvents
  extract_lets on s1
  have h1 : State.seen xe s1 = State.seen xe s := by
    simp only [s1]
    refine foldl_seen xe _ _ _ ?_
    intro s v
    have hc : ∀ k : EngEv, xe.r (k.counter v.1).1 = true := by intro k; cases k <;> simp [EngEv.counter, xh]
    exact State.bumpi_seen xe s _ _ (hc v.2)
  clear_value s1
  simp [h1, xh]

@[simp] theorem recordLate_seen (xe : Extent) (f : Nat) (late : List Nat) (s : State) (xh : xe.covers [.seqs] [F.CKG_OVRCNTq, F.CKG_OVRFLAG_QY, F.CKG_OVRLAST_BUNDLE, F.CKG_OVRLAST_FRAME, F.ICU_LOSTCNT, F.ICU_OVRw_SRC, F.ICU_PENDw_SRC] = true) :
    State.seen xe (recordLate f late s) = State.seen xe s := by
  simp only [Extent.covers, List.all_cons, List.all_nil, Bool.and_true, Bool.true_and, Bool.and_eq_true] at xh
  unfold recordLate
  repeat' first
    | (extract_lets +onlyGivenNames x; refine have hx : State.seen xe x = State.seen xe s := ?_; ?_; (on_goal 1 => unfold x); (on_goal 2 => clear_value x))
    | (extract_lets +onlyGivenNames x; refine have hx : State.seen xe x.2 = State.seen xe s := ?_; ?_; (on_goal 1 => unfold x); (on_goal 2 => clear_value x))
    | (extract_lets +onlyGivenNames x; refine have hx : State.seen xe x.2.2 = State.seen xe s := ?_; ?_; (on_goal 1 => unfold x); (on_goal 2 => clear_value x))
    | (extract_lets +onlyGivenNames x; clear_value x)
    | (simp [*]; done)
    | (refine (foldl_seen xe _ _ _ ?_).trans ?_; (on_goal 1 => intro s a))
    | (refine (State.when_seen xe _ _ _ ?_).trans ?_; (on_goal 1 => intro s))
    | split
    | (simp_all; done)

@[simp] theorem recordHwm_seen (xe : Extent) (on : List (Nat × Nat)) (s : State) (xh : xe.covers [] [F.CKG_ENGHWM_CYCLES, F.CKG_ENGHWM_ENGINE] = true) :
    State.seen xe (recordHwm on s) = State.seen xe s := by
  simp only [Extent.covers, List.all_cons, List.all_nil, Bool.and_true, Bool.true_and, Bool.and_eq_true] at xh
  unfold recordHwm
  simp [xh]

@[simp] theorem engineDeadline_seen (xe : Extent) (staged : Nat → Bool) (s : State) (xh : xe.covers [.seqs, .fab] [F.CKG_ENGHWM_CYCLES, F.CKG_ENGHWM_ENGINE, F.CKG_OVRCNTq, F.CKG_OVRFLAG_QY, F.CKG_OVRLAST_BUNDLE, F.CKG_OVRLAST_FRAME, F.ICU_LOSTCNT, F.ICU_OVRw_SRC, F.ICU_PENDw_SRC, F.MOR_BFSAT, F.MOR_CLAMPCNT, F.MOR_FOLDCNT, F.MOR_SKIPGAP, F.QY_DRVSAT, F.SEG_STAT_UNDACT, F.SEG_UNDCNT, F.SEG_UNDFLAG_QY, F.SEG_UNDLAST_FRAME, F.SEG_UNDLAST_SLOT] = true) :
    State.seen xe (engineDeadline staged s) = State.seen xe s := by
  simp only [Extent.covers, List.all_cons, List.all_nil, Bool.and_true, Bool.true_and, Bool.and_eq_true] at xh
  unfold engineDeadline
  repeat' first
    | (extract_lets +onlyGivenNames x; refine have hx : State.seen xe x = State.seen xe s := ?_; ?_; (on_goal 1 => unfold x); (on_goal 2 => clear_value x))
    | (extract_lets +onlyGivenNames x; refine have hx : State.seen xe x.2 = State.seen xe s := ?_; ?_; (on_goal 1 => unfold x); (on_goal 2 => clear_value x))
    | (extract_lets +onlyGivenNames x; refine have hx : State.seen xe x.2.2 = State.seen xe s := ?_; ?_; (on_goal 1 => unfold x); (on_goal 2 => clear_value x))
    | (extract_lets +onlyGivenNames x; clear_value x)
    | (simp [*]; done)
    | (refine (foldl_seen xe _ _ _ ?_).trans ?_; (on_goal 1 => intro s a))
    | (refine (State.when_seen xe _ _ _ ?_).trans ?_; (on_goal 1 => intro s))
    | split
    | (simp_all; done)

@[simp] theorem bundleCommand_seen (xe : Extent) (b : Nat) (cmd : BCmd) (st : BState) (s : State) (xh : xe.covers [.fab] [] = true) :
    State.seen xe (bundleCommand b cmd st s) = State.seen xe s := by
  simp only [Extent.covers, List.all_cons, List.all_nil, Bool.and_true, Bool.true_and, Bool.and_eq_true] at xh
  unfold bundleCommand
  simp [xh]

@[simp] theorem bundleCommandApply_seen (xe : Extent) (b : Nat) (s : State) (xh : xe.covers [.fab] [] = true) :
    State.seen xe (bundleCommandApply b s) = State.seen xe s := by
  simp only [Extent.covers, List.all_cons, List.all_nil, Bool.and_true, Bool.true_and, Bool.and_eq_true] at xh
  unfold bundleCommandApply
  repeat' first
    | (extract_lets +onlyGivenNames x; refine have hx : State.seen xe x = State.seen xe s := ?_; ?_; (on_goal 1 => unfold x); (on_goal 2 => clear_value x))
    | (extract_lets +onlyGivenNames x; refine have hx : State.seen xe x.2 = State.seen xe s := ?_; ?_; (on_goal 1 => unfold x); (on_goal 2 => clear_value x))
    | (extract_lets +onlyGivenNames x; refine have hx : State.seen xe x.2.2 = State.seen xe s := ?_; ?_; (on_goal 1 => unfold x); (on_goal 2 => clear_value x))
    | (extract_lets +onlyGivenNames x; clear_value x)
    | (simp [*]; done)
    | (refine (foldl_seen xe _ _ _ ?_).trans ?_; (on_goal 1 => intro s a))
    | (refine (State.when_seen xe _ _ _ ?_).trans ?_; (on_goal 1 => intro s))
    | split
    | (simp_all; done)

@[simp] theorem parkLane_seen (xe : Extent) (b : Nat) (s : State) (xh : xe.covers [.seqs, .fab] [F.ICU_LOSTCNT, F.ICU_OVRw_SRC, F.ICU_PENDw_SRC, F.MOR_PARKCNT] = true) :
    State.seen xe (parkLane b s) = State.seen xe s := by
  simp only [Extent.covers, List.all_cons, List.all_nil, Bool.and_true, Bool.true_and, Bool.and_eq_true] at xh
  unfold parkLane
  repeat' first
    | (extract_lets +onlyGivenNames x; refine have hx : State.seen xe x = State.seen xe s := ?_; ?_; (on_goal 1 => unfold x); (on_goal 2 => clear_value x))
    | (extract_lets +onlyGivenNames x; refine have hx : State.seen xe x.2 = State.seen xe s := ?_; ?_; (on_goal 1 => unfold x); (on_goal 2 => clear_value x))
    | (extract_lets +onlyGivenNames x; refine have hx : State.seen xe x.2.2 = State.seen xe s := ?_; ?_; (on_goal 1 => unfold x); (on_goal 2 => clear_value x))
    | (extract_lets +onlyGivenNames x; clear_value x)
    | (simp [*]; done)
    | (refine (foldl_seen xe _ _ _ ?_).trans ?_; (on_goal 1 => intro s a))
    | (refine (State.when_seen xe _ _ _ ?_).trans ?_; (on_goal 1 => intro s))
    | split
    | (simp_all; done)

@[simp] theorem unsync_seen (xe : Extent) (b : Nat) (s : State) (xh : xe.covers [.fab] [] = true) :
    State.seen xe (unsync b s) = State.seen xe s := by
  simp only [Extent.covers, List.all_cons, List.all_nil, Bool.and_true, Bool.true_and, Bool.and_eq_true] at xh
  unfold unsync
  simp [xh]

@[simp] theorem parkQuay_seen (xe : Extent) (q : Nat) (s : State) (xh : xe.covers [.seqs, .fab] [F.ICU_LOSTCNT, F.ICU_OVRw_SRC, F.ICU_PENDw_SRC, F.MOR_PARKCNT] = true) :
    State.seen xe (parkQuay q s) = State.seen xe s := by
  simp only [Extent.covers, List.all_cons, List.all_nil, Bool.and_true, Bool.true_and, Bool.and_eq_true] at xh
  unfold parkQuay
  simp [xh]

@[simp] theorem unparkQuay_seen (xe : Extent) (q f : Nat) (s : State) (xh : xe.covers [.fab] [] = true) :
    State.seen xe (unparkQuay q f s) = State.seen xe s := by
  simp only [Extent.covers, List.all_cons, List.all_nil, Bool.and_true, Bool.true_and, Bool.and_eq_true] at xh
  unfold unparkQuay
  simp [xh]

@[simp] theorem bundleUnpark_seen (xe : Extent) (b : Nat) (s : State) (xh : xe.covers [.fab] [] = true) :
    State.seen xe (bundleUnpark b s) = State.seen xe s := by
  simp only [Extent.covers, List.all_cons, List.all_nil, Bool.and_true, Bool.true_and, Bool.and_eq_true] at xh
  unfold bundleUnpark
  repeat' first
    | (extract_lets +onlyGivenNames x; refine have hx : State.seen xe x = State.seen xe s := ?_; ?_; (on_goal 1 => unfold x); (on_goal 2 => clear_value x))
    | (extract_lets +onlyGivenNames x; refine have hx : State.seen xe x.2 = State.seen xe s := ?_; ?_; (on_goal 1 => unfold x); (on_goal 2 => clear_value x))
    | (extract_lets +onlyGivenNames x; refine have hx : State.seen xe x.2.2 = State.seen xe s := ?_; ?_; (on_goal 1 => unfold x); (on_goal 2 => clear_value x))
    | (extract_lets +onlyGivenNames x; clear_value x)
    | (simp [*]; done)
    | (refine (foldl_seen xe _ _ _ ?_).trans ?_; (on_goal 1 => intro s a))
    | (refine (State.when_seen xe _ _ _ ?_).trans ?_; (on_goal 1 => intro s))
    | split
    | (simp_all; done)

@[simp] theorem bundleInitClose_seen (xe : Extent) (b : Nat) (s : State) (xh : xe.covers [.fab] [] = true) :
    State.seen xe (bundleInitClose b s) = State.seen xe s := by
  simp only [Extent.covers, List.all_cons, List.all_nil, Bool.and_true, Bool.true_and, Bool.and_eq_true] at xh
  unfold bundleInitClose
  repeat' first
    | (extract_lets +onlyGivenNames x; refine have hx : State.seen xe x = State.seen xe s := ?_; ?_; (on_goal 1 => unfold x); (on_goal 2 => clear_value x))
    | (extract_lets +onlyGivenNames x; refine have hx : State.seen xe x.2 = State.seen xe s := ?_; ?_; (on_goal 1 => unfold x); (on_goal 2 => clear_value x))
    | (extract_lets +onlyGivenNames x; refine have hx : State.seen xe x.2.2 = State.seen xe s := ?_; ?_; (on_goal 1 => unfold x); (on_goal 2 => clear_value x))
    | (extract_lets +onlyGivenNames x; clear_value x)
    | (simp [*]; done)
    | (refine (foldl_seen xe _ _ _ ?_).trans ?_; (on_goal 1 => intro s a))
    | (refine (State.when_seen xe _ _ _ ?_).trans ?_; (on_goal 1 => intro s))
    | split
    | (simp_all; done)

@[simp] theorem startRamp_seen (xe : Extent) (q r : Nat) (s : State) (xh : xe.covers [.fab, .quays] [F.QY_DRVSTAT_RAMP] = true) :
    State.seen xe (startRamp q r s) = State.seen xe s := by
  simp only [Extent.covers, List.all_cons, List.all_nil, Bool.and_true, Bool.true_and, Bool.and_eq_true] at xh
  unfold startRamp
  simp [xh]

@[simp] theorem commitCoefs_seen (xe : Extent) (b : Nat) (c : BunCoef) (s : State) (xh : xe.covers [.fab] [] = true) :
    State.seen xe (commitCoefs b c s) = State.seen xe s := by
  simp only [Extent.covers, List.all_cons, List.all_nil, Bool.and_true, Bool.true_and, Bool.and_eq_true] at xh
  unfold commitCoefs
  simp [xh]

@[simp] theorem takeCoefs_seen (xe : Extent) (b : Nat) (s : State) (xh : xe.covers [.fab] [] = true) :
    State.seen xe (takeCoefs b s) = State.seen xe s := by
  simp only [Extent.covers, List.all_cons, List.all_nil, Bool.and_true, Bool.true_and, Bool.and_eq_true] at xh
  unfold takeCoefs
  simp [xh]

@[simp] theorem coefApply_seen (xe : Extent) (b : Nat) (s : State) (xh : xe.covers [.fab] [] = true) :
    State.seen xe (coefApply b s) = State.seen xe s := by
  simp only [Extent.covers, List.all_cons, List.all_nil, Bool.and_true, Bool.true_and, Bool.and_eq_true] at xh
  unfold coefApply
  repeat' first
    | (extract_lets +onlyGivenNames x; refine have hx : State.seen xe x = State.seen xe s := ?_; ?_; (on_goal 1 => unfold x); (on_goal 2 => clear_value x))
    | (extract_lets +onlyGivenNames x; refine have hx : State.seen xe x.2 = State.seen xe s := ?_; ?_; (on_goal 1 => unfold x); (on_goal 2 => clear_value x))
    | (extract_lets +onlyGivenNames x; refine have hx : State.seen xe x.2.2 = State.seen xe s := ?_; ?_; (on_goal 1 => unfold x); (on_goal 2 => clear_value x))
    | (extract_lets +onlyGivenNames x; clear_value x)
    | (simp [*]; done)
    | (refine (foldl_seen xe _ _ _ ?_).trans ?_; (on_goal 1 => intro s a))
    | (refine (State.when_seen xe _ _ _ ?_).trans ?_; (on_goal 1 => intro s))
    | split
    | (simp_all; done)

@[simp] theorem closeOrReturn_seen (xe : Extent) (b : Nat) (s : State) (xh : xe.covers [.fab] [] = true) :
    State.seen xe (closeOrReturn b s) = State.seen xe s := by
  simp only [Extent.covers, List.all_cons, List.all_nil, Bool.and_true, Bool.true_and, Bool.and_eq_true] at xh
  unfold closeOrReturn
  simp [xh]

@[simp] theorem coefReclose_seen (xe : Extent) (b : Nat) (s : State) (xh : xe.covers [.fab] [] = true) :
    State.seen xe (coefReclose b s) = State.seen xe s := by
  simp only [Extent.covers, List.all_cons, List.all_nil, Bool.and_true, Bool.true_and, Bool.and_eq_true] at xh
  unfold coefReclose
  repeat' first
    | (extract_lets +onlyGivenNames x; refine have hx : State.seen xe x = State.seen xe s := ?_; ?_; (on_goal 1 => unfold x); (on_goal 2 => clear_value x))
    | (extract_lets +onlyGivenNames x; refine have hx : State.seen xe x.2 = State.seen xe s := ?_; ?_; (on_goal 1 => unfold x); (on_goal 2 => clear_value x))
    | (extract_lets +onlyGivenNames x; refine have hx : State.seen xe x.2.2 = State.seen xe s := ?_; ?_; (on_goal 1 => unfold x); (on_goal 2 => clear_value x))
    | (extract_lets +onlyGivenNames x; clear_value x)
    | (simp [*]; done)
    | (refine (foldl_seen xe _ _ _ ?_).trans ?_; (on_goal 1 => intro s a))
    | (refine (State.when_seen xe _ _ _ ?_).trans ?_; (on_goal 1 => intro s))
    | split
    | (simp_all; done)

@[simp] theorem slotDark_seen (xe : Extent) (n : Nat) (s : State) (xh : xe.covers [.seqs, .log, .fab, .port] [F.DBG_FLTSTAT_CLASS, F.ICU_LOSTCNT, F.ICU_OVRw_SRC, F.ICU_PENDw_SRC, F.MOR_DARKCNT] = true) :
    State.seen xe (slotDark n s) = State.seen xe s := by
  simp only [Extent.covers, List.all_cons, List.all_nil, Bool.and_true, Bool.true_and, Bool.and_eq_true] at xh
  unfold slotDark
  simp [xh]

@[simp] theorem winRefuse_seen (xe : Extent) (p off : Nat) (s : State) (xh : xe.covers [] [F.MOR_CWLAST_ENGINE, F.MOR_CWLAST_OFFSET, F.MOR_STAT_CWERR] = true) :
    State.seen xe (winRefuse p off s) = State.seen xe s := by
  simp only [Extent.covers, List.all_cons, List.all_nil, Bool.and_true, Bool.true_and, Bool.and_eq_true] at xh
  unfold winRefuse
  simp [xh]

@[simp] theorem holdWrite_seen (xe : Extent) (n : Nat) (h : Int) (s : State) (xh : xe.covers [.fab] [] = true) :
    State.seen xe (holdWrite n h s) = State.seen xe s := by
  simp only [Extent.covers, List.all_cons, List.all_nil, Bool.and_true, Bool.true_and, Bool.and_eq_true] at xh
  unfold holdWrite
  simp [xh]

@[simp] theorem winWrite_seen (xe : Extent) (p off w : Nat) (s : State) (xh : xe.covers [.fab] [F.MOR_CWLAST_ENGINE, F.MOR_CWLAST_OFFSET, F.MOR_STAT_CWERR] = true) :
    State.seen xe (winWrite p off w s) = State.seen xe s := by
  simp only [Extent.covers, List.all_cons, List.all_nil, Bool.and_true, Bool.true_and, Bool.and_eq_true] at xh
  unfold winWrite
  repeat' first
    | (extract_lets +onlyGivenNames x; refine have hx : State.seen xe x = State.seen xe s := ?_; ?_; (on_goal 1 => unfold x); (on_goal 2 => clear_value x))
    | (extract_lets +onlyGivenNames x; refine have hx : State.seen xe x.2 = State.seen xe s := ?_; ?_; (on_goal 1 => unfold x); (on_goal 2 => clear_value x))
    | (extract_lets +onlyGivenNames x; refine have hx : State.seen xe x.2.2 = State.seen xe s := ?_; ?_; (on_goal 1 => unfold x); (on_goal 2 => clear_value x))
    | (extract_lets +onlyGivenNames x; clear_value x)
    | (simp [*]; done)
    | (refine (foldl_seen xe _ _ _ ?_).trans ?_; (on_goal 1 => intro s a))
    | (refine (State.when_seen xe _ _ _ ?_).trans ?_; (on_goal 1 => intro s))
    | split
    | (simp_all; done)

@[simp] theorem engineFails_seen (xe : Extent) (p e cause code : Nat) (s : State) (xh : xe.covers [.seqs, .log, .port] [F.DBG_FLTSTAT_CLASS, F.ICU_LOSTCNT, F.ICU_OVRw_SRC, F.ICU_PENDw_SRC, F.MOR_ESTATp_CAUSE, F.MOR_ESTATp_STATE, F.MOR_STAT_ENGFLT] = true) :
    State.seen xe (engineFails p e cause code s) = State.seen xe s := by
  simp only [Extent.covers, List.all_cons, List.all_nil, Bool.and_true, Bool.true_and, Bool.and_eq_true] at xh
  unfold engineFails
  simp [xh]

@[simp] theorem engineFault_seen (xe : Extent) (p cause code c : Nat) (s : State) (xh : xe.covers [.seqs, .log, .fab, .port] [F.DBG_FLTSTAT_CLASS, F.ICU_LOSTCNT, F.ICU_OVRw_SRC, F.ICU_PENDw_SRC, F.MOR_ESTATp_CAUSE, F.MOR_ESTATp_STATE, F.MOR_STAT_ENGFLT] = true) :
    State.seen xe (engineFault p cause code c s) = State.seen xe s := by
  simp only [Extent.covers, List.all_cons, List.all_nil, Bool.and_true, Bool.true_and, Bool.and_eq_true] at xh
  unfold engineFault
  simp [xh]

@[simp] theorem lateEscalation_seen (xe : Extent) (b : Nat) (s : State) (xh : xe.covers [.seqs, .log, .fab, .port] [F.DBG_FLTSTAT_CLASS, F.ICU_LOSTCNT, F.ICU_OVRw_SRC, F.ICU_PENDw_SRC, F.MOR_ESTATp_CAUSE, F.MOR_ESTATp_STATE, F.MOR_STAT_ENGFLT] = true) :
    State.seen xe (lateEscalation b s) = State.seen xe s := by
  simp only [Extent.covers, List.all_cons, List.all_nil, Bool.and_true, Bool.true_and, Bool.and_eq_true] at xh
  unfold lateEscalation
  simp [xh]

@[simp] theorem holdBundle_seen (xe : Extent) (b : Nat) (cause : BCause) (s : State) (xh : xe.covers [.fab] [] = true) :
    State.seen xe (holdBundle b cause s) = State.seen xe s := by
  simp only [Extent.covers, List.all_cons, List.all_nil, Bool.and_true, Bool.true_and, Bool.and_eq_true] at xh
  unfold holdBundle
  repeat' first
    | (extract_lets +onlyGivenNames x; refine have hx : State.seen xe x = State.seen xe s := ?_; ?_; (on_goal 1 => unfold x); (on_goal 2 => clear_value x))
    | (extract_lets +onlyGivenNames x; refine have hx : State.seen xe x.2 = State.seen xe s := ?_; ?_; (on_goal 1 => unfold x); (on_goal 2 => clear_value x))
    | (extract_lets +onlyGivenNames x; refine have hx : State.seen xe x.2.2 = State.seen xe s := ?_; ?_; (on_goal 1 => unfold x); (on_goal 2 => clear_value x))
    | (extract_lets +onlyGivenNames x; clear_value x)
    | (simp [*]; done)
    | (refine (foldl_seen xe _ _ _ ?_).trans ?_; (on_goal 1 => intro s a))
    | (refine (State.when_seen xe _ _ _ ?_).trans ?_; (on_goal 1 => intro s))
    | split
    | (simp_all; done)

@[simp] theorem engineHolds_seen (xe : Extent) (s : State) (xh : xe.covers [.fab] [] = true) :
    State.seen xe (engineHolds s) = State.seen xe s := by
  simp only [Extent.covers, List.all_cons, List.all_nil, Bool.and_true, Bool.true_and, Bool.and_eq_true] at xh
  unfold engineHolds
  repeat' first
    | (extract_lets +onlyGivenNames x; refine have hx : State.seen xe x = State.seen xe s := ?_; ?_; (on_goal 1 => unfold x); (on_goal 2 => clear_value x))
    | (extract_lets +onlyGivenNames x; refine have hx : State.seen xe x.2 = State.seen xe s := ?_; ?_; (on_goal 1 => unfold x); (on_goal 2 => clear_value x))
    | (extract_lets +onlyGivenNames x; refine have hx : State.seen xe x.2.2 = State.seen xe s := ?_; ?_; (on_goal 1 => unfold x); (on_goal 2 => clear_value x))
    | (extract_lets +onlyGivenNames x; clear_value x)
    | (simp [*]; done)
    | (refine (foldl_seen xe _ _ _ ?_).trans ?_; (on_goal 1 => intro s a))
    | (refine (State.when_seen xe _ _ _ ?_).trans ?_; (on_goal 1 => intro s))
    | split
    | (simp_all; done)

@[simp] theorem substGo_seen (xe : Extent) (s : State) (xh : xe.covers [.fab] [F.MOR_ESTATp_LOGICAL, F.MOR_ESTATp_STATE, F.MOR_SUBSTAT_BUSY, F.MOR_SUBSTAT_REASON, F.MOR_SUBSTAT_REFUSED] = true) :
    State.seen xe (substGo s) = State.seen xe s := by
  simp only [Extent.covers, List.all_cons, List.all_nil, Bool.and_true, Bool.true_and, Bool.and_eq_true] at xh
  unfold substGo
  simp [xh]

@[simp] theorem loadSlot_seen (xe : Extent) (n : Nat) (s : State) (xh : xe.covers [.fab] [] = true) :
    State.seen xe (loadSlot n s) = State.seen xe s := by
  simp only [Extent.covers, List.all_cons, List.all_nil, Bool.and_true, Bool.true_and, Bool.and_eq_true] at xh
  unfold loadSlot
  simp [xh]

@[simp] theorem loadBundle_seen (xe : Extent) (b : Nat) (s : State) (xh : xe.covers [.seqs, .fab] [F.ICU_LOSTCNT, F.ICU_OVRw_SRC, F.ICU_PENDw_SRC, F.MOR_PARKCNT] = true) :
    State.seen xe (loadBundle b s) = State.seen xe s := by
  simp only [Extent.covers, List.all_cons, List.all_nil, Bool.and_true, Bool.true_and, Bool.and_eq_true] at xh
  unfold loadBundle
  simp [xh]

@[simp] theorem substComplete_seen (xe : Extent) (s : State) (xh : xe.covers [.seqs, .log, .fab, .port] [F.DBG_FLTSTAT_CLASS, F.ICU_LOSTCNT, F.ICU_OVRw_SRC, F.ICU_PENDw_SRC, F.MOR_EMAPe_PHYS, F.MOR_ESTATp_LOGICAL, F.MOR_ESTATp_STATE, F.MOR_PARKCNT, F.MOR_SUBSTAT_BUSY, F.MOR_SUBSTAT_DONE] = true) :
    State.seen xe (substComplete s) = State.seen xe s := by
  simp only [Extent.covers, List.all_cons, List.all_nil, Bool.and_true, Bool.true_and, Bool.and_eq_true] at xh
  unfold substComplete
  repeat' first
    | (extract_lets +onlyGivenNames x; refine have hx : State.seen xe x = State.seen xe s := ?_; ?_; (on_goal 1 => unfold x); (on_goal 2 => clear_value x))
    | (extract_lets +onlyGivenNames x; refine have hx : State.seen xe x.2 = State.seen xe s := ?_; ?_; (on_goal 1 => unfold x); (on_goal 2 => clear_value x))
    | (extract_lets +onlyGivenNames x; refine have hx : State.seen xe x.2.2 = State.seen xe s := ?_; ?_; (on_goal 1 => unfold x); (on_goal 2 => clear_value x))
    | (extract_lets +onlyGivenNames x; clear_value x)
    | (simp [*]; done)
    | (refine (foldl_seen xe _ _ _ ?_).trans ?_; (on_goal 1 => intro s a))
    | (refine (State.when_seen xe _ _ _ ?_).trans ?_; (on_goal 1 => intro s))
    | split
    | (simp_all; done)

@[simp] theorem morStatclr_seen (xe : Extent) (s : State) (xh : xe.covers [.port] [F.MOR_BFSAT, F.MOR_CLAMPCNT, F.MOR_DARKCNT, F.MOR_ECCCOR, F.MOR_FOLDCNT, F.MOR_PARKCNT, F.MOR_SETFAIL, F.MOR_SKIPGAP] = true) :
    State.seen xe (morStatclr s) = State.seen xe s := by
  simp only [Extent.covers, List.all_cons, List.all_nil, Bool.and_true, Bool.true_and, Bool.and_eq_true] at xh
  unfold morStatclr
  simp [xh]

end Sys2Proof.Machine
end

