-- ==== Sys2Proof/Laws/SeenPlan.lean ====
section
/-! SUPPORT. What the manifests, the tide table and the scheduler leave unseen outside the extents they are given (Laws/Seen.lean). -/
namespace Sys2Proof.Machine
set_option linter.all false

@[simp] theorem State.modExec_seen (xe : Extent) (s : State) (f : ExecSt → ExecSt) (xh : xe.covers [.exec] [] = true) :
    State.seen xe (State.modExec s f) = State.seen xe s := by
  simp only [Extent.covers, List.all_cons, List.all_nil, Bool.and_true, Bool.true_and, Bool.and_eq_true] at xh
  unfold State.modExec
  simp [xh]

@[simp] theorem State.modRec_seen (xe : Extent) (s : State) (r : Nat) (f : ExecRec → ExecRec) (xh : xe.covers [.exec] [] = true) :
    State.seen xe (State.modRec s r f) = State.seen xe s := by
  simp only [Extent.covers, List.all_cons, List.all_nil, Bool.and_true, Bool.true_and, Bool.and_eq_true] at xh
  unfold State.modRec
  simp [xh]

@[simp] theorem State.setCircuit_seen (xe : Extent) (s : State) (c st man : Nat) (xh : xe.covers [.exec] [] = true) :
    State.seen xe (State.setCircuit s c st man) = State.seen xe s := by
  simp only [Extent.covers, List.all_cons, List.all_nil, Bool.and_true, Bool.true_and, Bool.and_eq_true] at xh
  unfold State.setCircuit
  simp [xh]

@[simp] theorem pinManifest_seen (xe : Extent) (n : Nat) (s : State) (xh : xe.covers [.exec] [] = true) :
    State.seen xe (pinManifest n s) = State.seen xe s := by
  simp only [Extent.covers, List.all_cons, List.all_nil, Bool.and_true, Bool.true_and, Bool.and_eq_true] at xh
  unfold pinManifest
  simp [xh]

@[simp] theorem allocRec_seen (xe : Extent) (r source reqFrame : Nat) (m : Manifest) (s : State) (xh : xe.covers [.exec] [F.MAN_ALLOCCNT, F.MAN_LASTEXEC_EXEC_ID] = true) :
    State.seen xe (allocRec r source reqFrame m s) = State.seen xe s := by
  simp only [Extent.covers, List.all_cons, List.all_nil, Bool.and_true, Bool.true_and, Bool.and_eq_true] at xh
  unfold allocRec
  simp [xh]

@[simp] theorem manRequest_seen (xe : Extent) (source no reqFrame : Nat) (s : State) (xh : xe.covers [.exec] [F.MAN_ALLOCCNT, F.MAN_LASTEXEC_EXEC_ID] = true) :
    State.seen xe (manRequest source no reqFrame s).2 = State.seen xe s := by
  simp only [Extent.covers, List.all_cons, List.all_nil, Bool.and_true, Bool.true_and, Bool.and_eq_true] at xh
  unfold manRequest
  repeat' first
    | (extract_lets +onlyGivenNames x; refine have hx : State.seen xe x = State.seen xe s := ?_; ?_; (on_goal 1 => unfold x); (on_goal 2 => clear_value x))
    | (extract_lets +onlyGivenNames x; refine have hx : State.seen xe x.2 = State.seen xe s := ?_; ?_; (on_goal 1 => unfold x); (on_goal 2 => clear_value x))
    | (extract_lets +onlyGivenNames x; refine have hx : State.seen xe x.2.2 = State.seen xe s := ?_; ?_; (on_goal 1 => unfold x); (on_goal 2 => clear_value x))
    | (extract_lets +onlyGivenNames x; clear_value x)
    | (simp [*]; done)
    | (refine (foldl_seen xe _ _ _ ?_).trans ?_; (on_goal 1 => intro s a))
    | (refine (State.when_seen xe _ _ _ ?_).trans ?_; (on_goal 1 => intro s))
    | split
    | (simp_all; done)

@[simp] theorem raiseFinal_seen (xe : Extent) (s : State) (xh : xe.covers [.seqs, .exec] [F.ICU_LOSTCNT, F.ICU_OVRw_SRC, F.ICU_PENDw_SRC] = true) :
    State.seen xe (raiseFinal s) = State.seen xe s := by
  simp only [Extent.covers, List.all_cons, List.all_nil, Bool.and_true, Bool.true_and, Bool.and_eq_true] at xh
  unfold raiseFinal
  simp [xh]

@[simp] theorem releaseCircuit_seen (xe : Extent) (c : Nat) (s : State) (xh : xe.covers [.fab, .exec] [] = true) :
    State.seen xe (releaseCircuit c s) = State.seen xe s := by
  simp only [Extent.covers, List.all_cons, List.all_nil, Bool.and_true, Bool.true_and, Bool.and_eq_true] at xh
  unfold releaseCircuit
  simp [xh]

@[simp] theorem finalRec_seen (xe : Extent) (r : Nat) (st : RecState) (cause fin : Nat) (s : State) (xh : xe.covers [.seqs, .fab, .exec] [F.ICU_LOSTCNT, F.ICU_OVRw_SRC, F.ICU_PENDw_SRC, F.MAN_DONECNT, F.MAN_PARTCNT, F.MAN_VOIDCNT] = true) :
    State.seen xe (finalRec r st cause fin s) = State.seen xe s := by
  simp only [Extent.covers, List.all_cons, List.all_nil, Bool.and_true, Bool.true_and, Bool.and_eq_true] at xh
  unfold finalRec
  repeat' first
    | (extract_lets +onlyGivenNames x; refine have hx : State.seen xe x = State.seen xe s := ?_; ?_; (on_goal 1 => unfold x); (on_goal 2 => clear_value x))
    | (extract_lets +onlyGivenNames x; refine have hx : State.seen xe x.2 = State.seen xe s := ?_; ?_; (on_goal 1 => unfold x); (on_goal 2 => clear_value x))
    | (extract_lets +onlyGivenNames x; refine have hx : State.seen xe x.2.2 = State.seen xe s := ?_; ?_; (on_goal 1 => unfold x); (on_goal 2 => clear_value x))
    | (extract_lets +onlyGivenNames x; clear_value x)
    | (simp [*]; done)
    | (refine (foldl_seen xe _ _ _ ?_).trans ?_; (on_goal 1 => intro s a))
    | (refine (State.when_seen xe _ _ _ ?_).trans ?_; (on_goal 1 => intro s))
    | split
    | (simp_all; done)

@[simp] theorem finishRec_seen (xe : Extent) (r fin : Nat) (s : State) (xh : xe.covers [.seqs, .fab, .exec] [F.ICU_LOSTCNT, F.ICU_OVRw_SRC, F.ICU_PENDw_SRC, F.MAN_DONECNT, F.MAN_PARTCNT, F.MAN_VOIDCNT] = true) :
    State.seen xe (finishRec r fin s) = State.seen xe s := by
  simp only [Extent.covers, List.all_cons, List.all_nil, Bool.and_true, Bool.true_and, Bool.and_eq_true] at xh
  unfold finishRec
  simp [xh]

@[simp] theorem admitRec_seen (xe : Extent) (r n0 alt : Nat) (m : Manifest) (s : State) (xh : xe.covers [.fab, .exec] [] = true) :
    State.seen xe (admitRec r n0 alt m s) = State.seen xe s := by
  simp only [Extent.covers, List.all_cons, List.all_nil, Bool.and_true, Bool.true_and, Bool.and_eq_true] at xh
  unfold admitRec
  simp [xh]

@[simp] theorem noteSkip_seen (xe : Extent) (why r : Nat) (s : State) (xh : xe.covers [.exec] [F.MAN_FAILSKIP, F.MAN_HOLDSKIP, F.MAN_OUTSKIP] = true) :
    State.seen xe (noteSkip why r s) = State.seen xe s := by
  simp only [Extent.covers, List.all_cons, List.all_nil, Bool.and_true, Bool.true_and, Bool.and_eq_true] at xh
  unfold noteSkip
  repeat' first
    | (extract_lets +onlyGivenNames x; refine have hx : State.seen xe x = State.seen xe s := ?_; ?_; (on_goal 1 => unfold x); (on_goal 2 => clear_value x))
    | (extract_lets +onlyGivenNames x; refine have hx : State.seen xe x.2 = State.seen xe s := ?_; ?_; (on_goal 1 => unfold x); (on_goal 2 => clear_value x))
    | (extract_lets +onlyGivenNames x; refine have hx : State.seen xe x.2.2 = State.seen xe s := ?_; ?_; (on_goal 1 => unfold x); (on_goal 2 => clear_value x))
    | (extract_lets +onlyGivenNames x; clear_value x)
    | (simp [*]; done)
    | (refine (foldl_seen xe _ _ _ ?_).trans ?_; (on_goal 1 => intro s a))
    | (refine (State.when_seen xe _ _ _ ?_).trans ?_; (on_goal 1 => intro s))
    | split
    | (simp_all; done)

@[simp] theorem startSlot_seen (xe : Extent) (slot n : Nat) (s : State) (xh : xe.covers [.fab, .exec] [F.MAN_FAILSKIP, F.MAN_HOLDSKIP, F.MAN_OUTSKIP, F.SEG_LATEEND, F.SEG_SPLITCNT, F.SEG_STEPCAP] = true) :
    State.seen xe (startSlot slot n s) = State.seen xe s := by
  simp only [Extent.covers, List.all_cons, List.all_nil, Bool.and_true, Bool.true_and, Bool.and_eq_true] at xh
  unfold startSlot
  simp [xh]

@[simp] theorem startAll_seen (xe : Extent) (n : Nat) (s : State) (xh : xe.covers [.fab, .exec] [F.MAN_FAILSKIP, F.MAN_HOLDSKIP, F.MAN_OUTSKIP, F.SEG_LATEEND, F.SEG_SPLITCNT, F.SEG_STEPCAP] = true) :
    State.seen xe (startAll n s) = State.seen xe s := by
  simp only [Extent.covers, List.all_cons, List.all_nil, Bool.and_true, Bool.true_and, Bool.and_eq_true] at xh
  unfold startAll
  simp [xh]

@[simp] theorem holdCuts_seen (xe : Extent) (b f : Nat) (s : State) (xh : xe.covers [.fab] [] = true) :
    State.seen xe (holdCuts b f s) = State.seen xe s := by
  simp only [Extent.covers, List.all_cons, List.all_nil, Bool.and_true, Bool.true_and, Bool.and_eq_true] at xh
  unfold holdCuts
  simp [xh]

@[simp] theorem leaveService_seen (xe : Extent) (n f : Nat) (s : State) (xh : xe.covers [.fab] [] = true) :
    State.seen xe (leaveService n f s) = State.seen xe s := by
  simp only [Extent.covers, List.all_cons, List.all_nil, Bool.and_true, Bool.true_and, Bool.and_eq_true] at xh
  unfold leaveService
  simp [xh]

@[simp] theorem enterService_seen (xe : Extent) (n : Nat) (s : State) (xh : xe.covers [.fab] [] = true) :
    State.seen xe (enterService n s) = State.seen xe s := by
  simp only [Extent.covers, List.all_cons, List.all_nil, Bool.and_true, Bool.true_and, Bool.and_eq_true] at xh
  unfold enterService
  simp [xh]

@[simp] theorem reportTr_seen (xe : Extent) (abortNext : Bool) (t : Tr) (s : State) (xh : xe.covers [.exec] [] = true) :
    State.seen xe (reportTr abortNext t s) = State.seen xe s := by
  simp only [Extent.covers, List.all_cons, List.all_nil, Bool.and_true, Bool.true_and, Bool.and_eq_true] at xh
  unfold reportTr
  repeat' first
    | (extract_lets +onlyGivenNames x; refine have hx : State.seen xe x = State.seen xe s := ?_; ?_; (on_goal 1 => unfold x); (on_goal 2 => clear_value x))
    | (extract_lets +onlyGivenNames x; refine have hx : State.seen xe x.2 = State.seen xe s := ?_; ?_; (on_goal 1 => unfold x); (on_goal 2 => clear_value x))
    | (extract_lets +onlyGivenNames x; refine have hx : State.seen xe x.2.2 = State.seen xe s := ?_; ?_; (on_goal 1 => unfold x); (on_goal 2 => clear_value x))
    | (extract_lets +onlyGivenNames x; clear_value x)
    | (simp [*]; done)
    | (refine (foldl_seen xe _ _ _ ?_).trans ?_; (on_goal 1 => intro s a))
    | (refine (State.when_seen xe _ _ _ ?_).trans ?_; (on_goal 1 => intro s))
    | split
    | (simp_all; done)

@[simp] theorem reportSlot_seen (xe : Extent) (n f : Nat) (s : State) (xh : xe.covers [.fab, .exec] [] = true) :
    State.seen xe (reportSlot n f s) = State.seen xe s := by
  simp only [Extent.covers, List.all_cons, List.all_nil, Bool.and_true, Bool.true_and, Bool.and_eq_true] at xh
  unfold reportSlot
  simp [xh]

@[simp] theorem State.modTracked_seen (xe : Extent) (s : State) (slot : Nat) (f : EntRun → EntRun) (xh : xe.covers [.exec] [] = true) :
    State.seen xe (State.modTracked s slot f) = State.seen xe s := by
  simp only [Extent.covers, List.all_cons, List.all_nil, Bool.and_true, Bool.true_and, Bool.and_eq_true] at xh
  unfold State.modTracked
  simp [xh]

@[simp] theorem slotTick_seen (xe : Extent) (n f : Nat) (s : State) (xh : xe.covers [.fab, .exec] [] = true) :
    State.seen xe (slotTick n f s) = State.seen xe s := by
  simp only [Extent.covers, List.all_cons, List.all_nil, Bool.and_true, Bool.true_and, Bool.and_eq_true] at xh
  unfold slotTick
  simp [xh]

@[simp] theorem recTick_seen (xe : Extent) (r f : Nat) (s : State) (xh : xe.covers [.seqs, .fab, .exec] [F.ICU_LOSTCNT, F.ICU_OVRw_SRC, F.ICU_PENDw_SRC, F.MAN_DONECNT, F.MAN_PARTCNT, F.MAN_VOIDCNT, F.MAN_ZEROCNT] = true) :
    State.seen xe (recTick r f s) = State.seen xe s := by
  simp only [Extent.covers, List.all_cons, List.all_nil, Bool.and_true, Bool.true_and, Bool.and_eq_true] at xh
  unfold recTick
  simp [xh]

@[simp] theorem manTick_seen (xe : Extent) (f : Nat) (s : State) (xh : xe.covers [.seqs, .fab, .exec] [F.ICU_LOSTCNT, F.ICU_OVRw_SRC, F.ICU_PENDw_SRC, F.MAN_DONECNT, F.MAN_PARTCNT, F.MAN_VOIDCNT, F.MAN_ZEROCNT] = true) :
    State.seen xe (manTick f s) = State.seen xe s := by
  simp only [Extent.covers, List.all_cons, List.all_nil, Bool.and_true, Bool.true_and, Bool.and_eq_true] at xh
  unfold manTick
  simp [xh]

@[simp] theorem setFailed_seen (xe : Extent) (n : Nat) (b : Bool) (s : State) (xh : xe.covers [.fab] [] = true) :
    State.seen xe (setFailed n b s) = State.seen xe s := by
  simp only [Extent.covers, List.all_cons, List.all_nil, Bool.and_true, Bool.true_and, Bool.and_eq_true] at xh
  unfold setFailed
  simp [xh]

@[simp] theorem setOwner_seen (xe : Extent) (n o : Nat) (s : State) (xh : xe.covers [.seqs, .fab] [F.ICU_LOSTCNT, F.ICU_OVRw_SRC, F.ICU_PENDw_SRC, F.SYS_ERRSTAT_RSVDENC] = true) :
    State.seen xe (setOwner n o s) = State.seen xe s := by
  simp only [Extent.covers, List.all_cons, List.all_nil, Bool.and_true, Bool.true_and, Bool.and_eq_true] at xh
  unfold setOwner
  simp [xh]

@[simp] theorem clrDown_seen (xe : Extent) (c : Nat) (s : State) (xh : xe.covers [.exec] [] = true) :
    State.seen xe (clrDown c s) = State.seen xe s := by
  simp only [Extent.covers, List.all_cons, List.all_nil, Bool.and_true, Bool.true_and, Bool.and_eq_true] at xh
  unfold clrDown
  simp [xh]

@[simp] theorem manStatclr_seen (xe : Extent) (s : State) (xh : xe.covers [] [F.MAN_ALLOCCNT, F.MAN_DONECNT, F.MAN_FAILSKIP, F.MAN_HOLDSKIP, F.MAN_NOROUTECNT, F.MAN_NOSPCNT, F.MAN_OUTSKIP, F.MAN_PARTCNT, F.MAN_VOIDCNT, F.MAN_ZEROCNT] = true) :
    State.seen xe (manStatclr s) = State.seen xe s := by
  simp only [Extent.covers, List.all_cons, List.all_nil, Bool.and_true, Bool.true_and, Bool.and_eq_true] at xh
  unfold manStatclr
  simp [xh]

@[simp] theorem slotSettled_seen (xe : Extent) (n : Nat) (s : State) (xh : xe.covers [.fab] [] = true) :
    State.seen xe (slotSettled n s) = State.seen xe s := by
  simp only [Extent.covers, List.all_cons, List.all_nil, Bool.and_true, Bool.true_and, Bool.and_eq_true] at xh
  unfold slotSettled
  simp [xh]

@[simp] theorem settleTimeout_seen (xe : Extent) (n : Nat) (s : State) (xh : xe.covers [.seqs, .fab, .exec] [F.ICU_LOSTCNT, F.ICU_OVRw_SRC, F.ICU_PENDw_SRC, F.MOR_SETFAIL] = true) :
    State.seen xe (settleTimeout n s) = State.seen xe s := by
  simp only [Extent.covers, List.all_cons, List.all_nil, Bool.and_true, Bool.true_and, Bool.and_eq_true] at xh
  unfold settleTimeout
  simp [xh]

@[simp] theorem State.modTide_seen (xe : Extent) (s : State) (f : TideSt → TideSt) (xh : xe.covers [.tide] [] = true) :
    State.seen xe (State.modTide s f) = State.seen xe s := by
  simp only [Extent.covers, List.all_cons, List.all_nil, Bool.and_true, Bool.true_and, Bool.and_eq_true] at xh
  unfold State.modTide
  simp [xh]

@[simp] theorem State.modTab_seen (xe : Extent) (s : State) (i : Nat) (f : TideTab → TideTab) (xh : xe.covers [.tide] [] = true) :
    State.seen xe (State.modTab s i f) = State.seen xe s := by
  simp only [Extent.covers, List.all_cons, List.all_nil, Bool.and_true, Bool.true_and, Bool.and_eq_true] at xh
  unfold State.modTab
  simp [xh]

@[simp] theorem tideRefuse_seen (xe : Extent) (reason : Nat) (s : State) (xh : xe.covers [] [F.TID_STAT_REASON, F.TID_STAT_REFUSED] = true) :
    State.seen xe (tideRefuse reason s) = State.seen xe s := by
  simp only [Extent.covers, List.all_cons, List.all_nil, Bool.and_true, Bool.true_and, Bool.and_eq_true] at xh
  unfold tideRefuse
  simp [xh]

@[simp] theorem placeTide_seen (xe : Extent) (k : Nat) (t : TideTab) (s : State) (xh : xe.covers [.tide] [] = true) :
    State.seen xe (placeTide k t s) = State.seen xe s := by
  simp only [Extent.covers, List.all_cons, List.all_nil, Bool.and_true, Bool.true_and, Bool.and_eq_true] at xh
  unfold placeTide
  simp [xh]

@[simp] theorem tideSettle_seen (xe : Extent) (s : State) (xh : xe.covers [.tide] [] = true) :
    State.seen xe (tideSettle s) = State.seen xe s := by
  simp only [Extent.covers, List.all_cons, List.all_nil, Bool.and_true, Bool.true_and, Bool.and_eq_true] at xh
  unfold tideSettle
  repeat' first
    | (extract_lets +onlyGivenNames x; refine have hx : State.seen xe x = State.seen xe s := ?_; ?_; (on_goal 1 => unfold x); (on_goal 2 => clear_value x))
    | (extract_lets +onlyGivenNames x; refine have hx : State.seen xe x.2 = State.seen xe s := ?_; ?_; (on_goal 1 => unfold x); (on_goal 2 => clear_value x))
    | (extract_lets +onlyGivenNames x; refine have hx : State.seen xe x.2.2 = State.seen xe s := ?_; ?_; (on_goal 1 => unfold x); (on_goal 2 => clear_value x))
    | (extract_lets +onlyGivenNames x; clear_value x)
    | (simp [*]; done)
    | (refine (foldl_seen xe _ _ _ ?_).trans ?_; (on_goal 1 => intro s a))
    | (refine (State.when_seen xe _ _ _ ?_).trans ?_; (on_goal 1 => intro s))
    | split
    | (simp_all; done)

@[simp] theorem tideArm_seen (xe : Extent) (s : State) (xh : xe.covers [.tide] [F.TID_LATEN_N, F.TID_PSTART_FRAME, F.TID_STAT_LATEBASE, F.TID_STAT_REASON, F.TID_STAT_REFUSED] = true) :
    State.seen xe (tideArm s) = State.seen xe s := by
  simp only [Extent.covers, List.all_cons, List.all_nil, Bool.and_true, Bool.true_and, Bool.and_eq_true] at xh
  unfold tideArm
  repeat' first
    | (extract_lets +onlyGivenNames x; refine have hx : State.seen xe x = State.seen xe s := ?_; ?_; (on_goal 1 => unfold x); (on_goal 2 => clear_value x))
    | (extract_lets +onlyGivenNames x; refine have hx : State.seen xe x.2 = State.seen xe s := ?_; ?_; (on_goal 1 => unfold x); (on_goal 2 => clear_value x))
    | (extract_lets +onlyGivenNames x; refine have hx : State.seen xe x.2.2 = State.seen xe s := ?_; ?_; (on_goal 1 => unfold x); (on_goal 2 => clear_value x))
    | (extract_lets +onlyGivenNames x; clear_value x)
    | (simp [*]; done)
    | (refine (foldl_seen xe _ _ _ ?_).trans ?_; (on_goal 1 => intro s a))
    | (refine (State.when_seen xe _ _ _ ?_).trans ?_; (on_goal 1 => intro s))
    | split
    | (simp_all; done)

@[simp] theorem tideCancel_seen (xe : Extent) (s : State) (xh : xe.covers [.tide] [] = true) :
    State.seen xe (tideCancel s) = State.seen xe s := by
  simp only [Extent.covers, List.all_cons, List.all_nil, Bool.and_true, Bool.true_and, Bool.and_eq_true] at xh
  unfold tideCancel
  repeat' first
    | (extract_lets +onlyGivenNames x; refine have hx : State.seen xe x = State.seen xe s := ?_; ?_; (on_goal 1 => unfold x); (on_goal 2 => clear_value x))
    | (extract_lets +onlyGivenNames x; refine have hx : State.seen xe x.2 = State.seen xe s := ?_; ?_; (on_goal 1 => unfold x); (on_goal 2 => clear_value x))
    | (extract_lets +onlyGivenNames x; refine have hx : State.seen xe x.2.2 = State.seen xe s := ?_; ?_; (on_goal 1 => unfold x); (on_goal 2 => clear_value x))
    | (extract_lets +onlyGivenNames x; clear_value x)
    | (simp [*]; done)
    | (refine (foldl_seen xe _ _ _ ?_).trans ?_; (on_goal 1 => intro s a))
    | (refine (State.when_seen xe _ _ _ ?_).trans ?_; (on_goal 1 => intro s))
    | split
    | (simp_all; done)

@[simp] theorem tideStop_seen (xe : Extent) (s : State) (xh : xe.covers [.tide] [F.TID_STAT_REASON, F.TID_STAT_REFUSED] = true) :
    State.seen xe (tideStop s) = State.seen xe s := by
  simp only [Extent.covers, List.all_cons, List.all_nil, Bool.and_true, Bool.true_and, Bool.and_eq_true] at xh
  unfold tideStop
  simp [xh]

@[simp] theorem tidStatclr_seen (xe : Extent) (s : State) (xh : xe.covers [] [F.TID_COLLIDE, F.TID_FIRECNT, F.TID_FIREREF, F.TID_FIREVOID] = true) :
    State.seen xe (tidStatclr s) = State.seen xe s := by
  simp only [Extent.covers, List.all_cons, List.all_nil, Bool.and_true, Bool.true_and, Bool.and_eq_true] at xh
  unfold tidStatclr
  simp [xh]

@[simp] theorem tideStart_seen (xe : Extent) (s : State) (xh : xe.covers [.seqs, .tide] [F.ICU_LOSTCNT, F.ICU_OVRw_SRC, F.ICU_PENDw_SRC, F.TID_ACYCLE_CYCLE] = true) :
    State.seen xe (tideStart s) = State.seen xe s := by
  simp only [Extent.covers, List.all_cons, List.all_nil, Bool.and_true, Bool.true_and, Bool.and_eq_true] at xh
  unfold tideStart
  repeat' first
    | (extract_lets +onlyGivenNames x; refine have hx : State.seen xe x = State.seen xe s := ?_; ?_; (on_goal 1 => unfold x); (on_goal 2 => clear_value x))
    | (extract_lets +onlyGivenNames x; refine have hx : State.seen xe x.2 = State.seen xe s := ?_; ?_; (on_goal 1 => unfold x); (on_goal 2 => clear_value x))
    | (extract_lets +onlyGivenNames x; refine have hx : State.seen xe x.2.2 = State.seen xe s := ?_; ?_; (on_goal 1 => unfold x); (on_goal 2 => clear_value x))
    | (extract_lets +onlyGivenNames x; clear_value x)
    | (simp [*]; done)
    | (refine (foldl_seen xe _ _ _ ?_).trans ?_; (on_goal 1 => intro s a))
    | (refine (State.when_seen xe _ _ _ ?_).trans ?_; (on_goal 1 => intro s))
    | split
    | (simp_all; done)

@[simp] theorem tideTableStop_seen (xe : Extent) (s : State) (xh : xe.covers [.tide] [] = true) :
    State.seen xe (tideTableStop s) = State.seen xe s := by
  simp only [Extent.covers, List.all_cons, List.all_nil, Bool.and_true, Bool.true_and, Bool.and_eq_true] at xh
  unfold tideTableStop
  simp [xh]

@[simp] theorem tideStepStop_seen (xe : Extent) (s : State) (xh : xe.covers [.tide] [F.TID_STAT_STEPSTOP] = true) :
    State.seen xe (tideStepStop s) = State.seen xe s := by
  simp only [Extent.covers, List.all_cons, List.all_nil, Bool.and_true, Bool.true_and, Bool.and_eq_true] at xh
  unfold tideStepStop
  simp [xh]

@[simp] theorem tideAutoDue_seen (xe : Extent) (s : State) (xh : xe.covers [.tide] [] = true) :
    State.seen xe (tideAutoDue s) = State.seen xe s := by
  simp only [Extent.covers, List.all_cons, List.all_nil, Bool.and_true, Bool.true_and, Bool.and_eq_true] at xh
  unfold tideAutoDue
  simp [xh]

@[simp] theorem tideAutoArm_seen (xe : Extent) (s : State) (xh : xe.covers [.tide] [F.TID_LATEN_N, F.TID_PSTART_FRAME, F.TID_STAT_LATEBASE, F.TID_STAT_REASON, F.TID_STAT_REFUSED] = true) :
    State.seen xe (tideAutoArm s) = State.seen xe s := by
  simp only [Extent.covers, List.all_cons, List.all_nil, Bool.and_true, Bool.true_and, Bool.and_eq_true] at xh
  unfold tideAutoArm
  simp [xh]

@[simp] theorem tideAdvance_seen (xe : Extent) (s : State) (xh : xe.covers [.tide] [] = true) :
    State.seen xe (tideAdvance s) = State.seen xe s := by
  simp only [Extent.covers, List.all_cons, List.all_nil, Bool.and_true, Bool.true_and, Bool.and_eq_true] at xh
  unfold tideAdvance
  simp [xh]

@[simp] theorem tidePos_seen (xe : Extent) (s : State) (xh : xe.covers [] [F.TID_POS_ENTRY, F.TID_POS_REMAIN] = true) :
    State.seen xe (tidePos s) = State.seen xe s := by
  simp only [Extent.covers, List.all_cons, List.all_nil, Bool.and_true, Bool.true_and, Bool.and_eq_true] at xh
  unfold tidePos
  repeat' first
    | (extract_lets +onlyGivenNames x; refine have hx : State.seen xe x = State.seen xe s := ?_; ?_; (on_goal 1 => unfold x); (on_goal 2 => clear_value x))
    | (extract_lets +onlyGivenNames x; refine have hx : State.seen xe x.2 = State.seen xe s := ?_; ?_; (on_goal 1 => unfold x); (on_goal 2 => clear_value x))
    | (extract_lets +onlyGivenNames x; refine have hx : State.seen xe x.2.2 = State.seen xe s := ?_; ?_; (on_goal 1 => unfold x); (on_goal 2 => clear_value x))
    | (extract_lets +onlyGivenNames x; clear_value x)
    | (simp [*]; done)
    | (refine (foldl_seen xe _ _ _ ?_).trans ?_; (on_goal 1 => intro s a))
    | (refine (State.when_seen xe _ _ _ ?_).trans ?_; (on_goal 1 => intro s))
    | split
    | (simp_all; done)

@[simp] theorem shadowWrite_seen (xe : Extent) (f : TideTab → TideTab) (s : State) (xh : xe.covers [.tide] [F.TID_STAT_WERR] = true) :
    State.seen xe (shadowWrite f s) = State.seen xe s := by
  simp only [Extent.covers, List.all_cons, List.all_nil, Bool.and_true, Bool.true_and, Bool.and_eq_true] at xh
  unfold shadowWrite
  simp [xh]

@[simp] theorem shdrWrite_seen (xe : Extent) (v : Nat) (s : State) (xh : xe.covers [.tide] [F.TID_STAT_WERR] = true) :
    State.seen xe (shdrWrite v s) = State.seen xe s := by
  simp only [Extent.covers, List.all_cons, List.all_nil, Bool.and_true, Bool.true_and, Bool.and_eq_true] at xh
  unfold shdrWrite
  simp [xh]

@[simp] theorem sbaseWrite_seen (xe : Extent) (v : Nat) (s : State) (xh : xe.covers [.tide] [F.TID_STAT_WERR] = true) :
    State.seen xe (sbaseWrite v s) = State.seen xe s := by
  simp only [Extent.covers, List.all_cons, List.all_nil, Bool.and_true, Bool.true_and, Bool.and_eq_true] at xh
  unfold sbaseWrite
  simp [xh]

@[simp] theorem ewWrite_seen (xe : Extent) (w v : Nat) (s : State) (xh : xe.covers [.tide] [F.TID_STAT_WERR] = true) :
    State.seen xe (ewWrite w v s) = State.seen xe s := by
  simp only [Extent.covers, List.all_cons, List.all_nil, Bool.and_true, Bool.true_and, Bool.and_eq_true] at xh
  unfold ewWrite
  simp [xh]

@[simp] theorem State.modSched_seen (xe : Extent) (s : State) (f : SchedSt → SchedSt) (xh : xe.covers [.sched] [] = true) :
    State.seen xe (State.modSched s f) = State.seen xe s := by
  simp only [Extent.covers, List.all_cons, List.all_nil, Bool.and_true, Bool.true_and, Bool.and_eq_true] at xh
  unfold State.modSched
  simp [xh]

@[simp] theorem State.modQue_seen (xe : Extent) (s : State) (q : Nat) (f : ReqQueue → ReqQueue) (xh : xe.covers [.sched] [] = true) :
    State.seen xe (State.modQue s q f) = State.seen xe s := by
  simp only [Extent.covers, List.all_cons, List.all_nil, Bool.and_true, Bool.true_and, Bool.and_eq_true] at xh
  unfold State.modQue
  simp [xh]

@[simp] theorem joinQueue_seen (xe : Extent) (q r : Nat) (s : State) (xh : xe.covers [.sched] [F.SCH_QHWM_DEPTH] = true) :
    State.seen xe (joinQueue q r s) = State.seen xe s := by
  simp only [Extent.covers, List.all_cons, List.all_nil, Bool.and_true, Bool.true_and, Bool.and_eq_true] at xh
  unfold joinQueue
  simp [xh]

@[simp] theorem acceptRequest_seen (xe : Extent) (q no reqFrame : Nat) (s : State) (xh : xe.covers [.exec, .sched] [F.MAN_ALLOCCNT, F.MAN_LASTEXEC_EXEC_ID, F.SCH_POLCNT, F.SCH_QHWM_DEPTH] = true) :
    State.seen xe (acceptRequest q no reqFrame s).2 = State.seen xe s := by
  simp only [Extent.covers, List.all_cons, List.all_nil, Bool.and_true, Bool.true_and, Bool.and_eq_true] at xh
  unfold acceptRequest
  repeat' first
    | (extract_lets +onlyGivenNames x; refine have hx : State.seen xe x = State.seen xe s := ?_; ?_; (on_goal 1 => unfold x); (on_goal 2 => clear_value x))
    | (extract_lets +onlyGivenNames x; refine have hx : State.seen xe x.2 = State.seen xe s := ?_; ?_; (on_goal 1 => unfold x); (on_goal 2 => clear_value x))
    | (extract_lets +onlyGivenNames x; refine have hx : State.seen xe x.2.2 = State.seen xe s := ?_; ?_; (on_goal 1 => unfold x); (on_goal 2 => clear_value x))
    | (extract_lets +onlyGivenNames x; clear_value x)
    | (simp [*]; done)
    | (refine (foldl_seen xe _ _ _ ?_).trans ?_; (on_goal 1 => intro s a))
    | (refine (State.when_seen xe _ _ _ ?_).trans ?_; (on_goal 1 => intro s))
    | split
    | (simp_all; done)

@[simp] theorem applyRequest_seen (xe : Extent) (sidx no reqFrame : Nat) (s : State) (xh : xe.covers [.exec, .sched] [F.MAN_ALLOCCNT, F.MAN_LASTEXEC_EXEC_ID, F.SCH_BUSYCNT, F.SCH_DENYCNT, F.SCH_GATEDCNT, F.SCH_POLCNT, F.SCH_QHWM_DEPTH] = true) :
    State.seen xe (applyRequest sidx no reqFrame s).2 = State.seen xe s := by
  simp only [Extent.covers, List.all_cons, List.all_nil, Bool.and_true, Bool.true_and, Bool.and_eq_true] at xh
  unfold applyRequest
  repeat' first
    | (extract_lets +onlyGivenNames x; refine have hx : State.seen xe x = State.seen xe s := ?_; ?_; (on_goal 1 => unfold x); (on_goal 2 => clear_value x))
    | (extract_lets +onlyGivenNames x; refine have hx : State.seen xe x.2 = State.seen xe s := ?_; ?_; (on_goal 1 => unfold x); (on_goal 2 => clear_value x))
    | (extract_lets +onlyGivenNames x; refine have hx : State.seen xe x.2.2 = State.seen xe s := ?_; ?_; (on_goal 1 => unfold x); (on_goal 2 => clear_value x))
    | (extract_lets +onlyGivenNames x; clear_value x)
    | (simp [*]; done)
    | (refine (foldl_seen xe _ _ _ ?_).trans ?_; (on_goal 1 => intro s a))
    | (refine (State.when_seen xe _ _ _ ?_).trans ?_; (on_goal 1 => intro s))
    | split
    | (simp_all; done)

@[simp] theorem creditQueue_seen (xe : Extent) (q : Nat) (s : State) (xh : xe.covers [.sched] [] = true) :
    State.seen xe (creditQueue q s) = State.seen xe s := by
  simp only [Extent.covers, List.all_cons, List.all_nil, Bool.and_true, Bool.true_and, Bool.and_eq_true] at xh
  unfold creditQueue
  simp [xh]

@[simp] theorem creditAll_seen (xe : Extent) (s : State) (xh : xe.covers [.sched] [] = true) :
    State.seen xe (creditAll s) = State.seen xe s := by
  simp only [Extent.covers, List.all_cons, List.all_nil, Bool.and_true, Bool.true_and, Bool.and_eq_true] at xh
  unfold creditAll
  simp [xh]

@[simp] theorem shapeCharge_seen (xe : Extent) (q nent : Nat) (s : State) (xh : xe.covers [.sched] [F.SCH_BALSAT] = true) :
    State.seen xe (shapeCharge q nent s) = State.seen xe s := by
  simp only [Extent.covers, List.all_cons, List.all_nil, Bool.and_true, Bool.true_and, Bool.and_eq_true] at xh
  unfold shapeCharge
  simp [xh]

@[simp] theorem chargeTags_seen (xe : Extent) (q c : Nat) (s : State) (xh : xe.covers [.sched] [] = true) :
    State.seen xe (chargeTags q c s) = State.seen xe s := by
  simp only [Extent.covers, List.all_cons, List.all_nil, Bool.and_true, Bool.true_and, Bool.and_eq_true] at xh
  unfold chargeTags
  simp [xh]

@[simp] theorem ledgerAdd_seen (xe : Extent) (f n0 : Nat) (m : Manifest) (s : State) (xh : xe.covers [.sched] [F.SCH_PHWM_POWER] = true) :
    State.seen xe (ledgerAdd f n0 m s) = State.seen xe s := by
  simp only [Extent.covers, List.all_cons, List.all_nil, Bool.and_true, Bool.true_and, Bool.and_eq_true] at xh
  unfold ledgerAdd
  simp [xh]

@[simp] theorem ledgerPrune_seen (xe : Extent) (c : Nat) (s : State) (xh : xe.covers [.sched] [] = true) :
    State.seen xe (ledgerPrune c s) = State.seen xe s := by
  simp only [Extent.covers, List.all_cons, List.all_nil, Bool.and_true, Bool.true_and, Bool.and_eq_true] at xh
  unfold ledgerPrune
  simp [xh]

@[simp] theorem measurePower_seen (xe : Extent) (c : Nat) (s : State) (xh : xe.covers [.sched] [F.SCH_PMEAS_FRAME, F.SCH_PMEAS_POWER] = true) :
    State.seen xe (measurePower c s) = State.seen xe s := by
  simp only [Extent.covers, List.all_cons, List.all_nil, Bool.and_true, Bool.true_and, Bool.and_eq_true] at xh
  unfold measurePower
  simp [xh]

@[simp] theorem noRoute_seen (xe : Extent) (r f : Nat) (s : State) (xh : xe.covers [.seqs, .log, .fab, .exec, .port] [F.DBG_FLTSTAT_CLASS, F.ICU_LOSTCNT, F.ICU_OVRw_SRC, F.ICU_PENDw_SRC, F.MAN_DONECNT, F.MAN_NOROUTECNT, F.MAN_PARTCNT, F.MAN_VOIDCNT] = true) :
    State.seen xe (noRoute r f s) = State.seen xe s := by
  simp only [Extent.covers, List.all_cons, List.all_nil, Bool.and_true, Bool.true_and, Bool.and_eq_true] at xh
  unfold noRoute
  simp [xh]

@[simp] theorem popQueue_seen (xe : Extent) (q : Nat) (s : State) (xh : xe.covers [.sched] [] = true) :
    State.seen xe (popQueue q s) = State.seen xe s := by
  simp only [Extent.covers, List.all_cons, List.all_nil, Bool.and_true, Bool.true_and, Bool.and_eq_true] at xh
  unfold popQueue
  simp [xh]

@[simp] theorem deferHead_seen (xe : Extent) (r n1 : Nat) (s : State) (xh : xe.covers [.exec] [F.SEG_DEFERCNT] = true) :
    State.seen xe (deferHead r n1 s) = State.seen xe s := by
  simp only [Extent.covers, List.all_cons, List.all_nil, Bool.and_true, Bool.true_and, Bool.and_eq_true] at xh
  unfold deferHead
  simp [xh]

@[simp] theorem powerWait_seen (xe : Extent) (q r n : Nat) (rk : Rank) (run : AdmRun) (s : State) (xh : xe.covers [.exec] [F.SCH_PWRWAIT, F.SCH_STAT_PWRQ] = true) :
    State.seen xe (powerWait q r n rk run s).2 = State.seen xe s := by
  simp only [Extent.covers, List.all_cons, List.all_nil, Bool.and_true, Bool.true_and, Bool.and_eq_true] at xh
  unfold powerWait
  simp [xh]

@[simp] theorem admitHead_seen (xe : Extent) (f n q r alt : Nat) (m : Manifest) (s : State) (xh : xe.covers [.fab, .exec, .sched] [F.SCH_ADMCNT, F.SCH_BALSAT, F.SCH_PHWM_POWER, F.SCH_QADM_VALUE, F.SCH_QLATHWM_VALUE] = true) :
    State.seen xe (admitHead f n q r alt m s) = State.seen xe s := by
  simp only [Extent.covers, List.all_cons, List.all_nil, Bool.and_true, Bool.true_and, Bool.and_eq_true] at xh
  unfold admitHead
  simp [xh]

@[simp] theorem examineHead_seen (xe : Extent) (f q r : Nat) (rk : Rank) (run : AdmRun) (s : State) (xh : xe.covers [.seqs, .log, .fab, .exec, .sched, .port] [F.DBG_FLTSTAT_CLASS, F.ICU_LOSTCNT, F.ICU_OVRw_SRC, F.ICU_PENDw_SRC, F.MAN_DONECNT, F.MAN_NOROUTECNT, F.MAN_PARTCNT, F.MAN_VOIDCNT, F.SCH_ADMCNT, F.SCH_BALSAT, F.SCH_PHWM_POWER, F.SCH_PWRWAIT, F.SCH_QADM_VALUE, F.SCH_QLATHWM_VALUE, F.SCH_STAT_PWRQ, F.SCH_VOIDDEN, F.SEG_DEFERCNT] = true) :
    State.seen xe (examineHead f q r rk run s).2 = State.seen xe s := by
  simp only [Extent.covers, List.all_cons, List.all_nil, Bool.and_true, Bool.true_and, Bool.and_eq_true] at xh
  unfold examineHead
  repeat' first
    | (extract_lets +onlyGivenNames x; refine have hx : State.seen xe x = State.seen xe s := ?_; ?_; (on_goal 1 => unfold x); (on_goal 2 => clear_value x))
    | (extract_lets +onlyGivenNames x; refine have hx : State.seen xe x.2 = State.seen xe s := ?_; ?_; (on_goal 1 => unfold x); (on_goal 2 => clear_value x))
    | (extract_lets +onlyGivenNames x; refine have hx : State.seen xe x.2.2 = State.seen xe s := ?_; ?_; (on_goal 1 => unfold x); (on_goal 2 => clear_value x))
    | (extract_lets +onlyGivenNames x; clear_value x)
    | (simp [*]; done)
    | (refine (foldl_seen xe _ _ _ ?_).trans ?_; (on_goal 1 => intro s a))
    | (refine (State.when_seen xe _ _ _ ?_).trans ?_; (on_goal 1 => intro s))
    | split
    | (simp_all; done)

@[simp] theorem fireFail_seen (xe : Extent) (f : Nat) (counters : List Fld) (r cause : Nat) (s : State) (xh : xe.covers [.seqs, .fab, .exec] [F.ICU_LOSTCNT, F.ICU_OVRw_SRC, F.ICU_PENDw_SRC, F.MAN_DONECNT, F.MAN_PARTCNT, F.MAN_VOIDCNT, F.TID_FIREVOID] = true) (xhcounters : ∀ f ∈ counters, xe.r f = true) :
    State.seen xe (fireFail f counters r cause s) = State.seen xe s := by
  simp only [Extent.covers, List.all_cons, List.all_nil, Bool.and_true, Bool.true_and, Bool.and_eq_true] at xh
  unfold fireFail
  have h : State.seen xe (counters.foldl (fun s c => s.bump c) (finalRec r .void cause f s)) = State.seen xe s := by
    refine (foldl_mem_seen xe _ _ _ ?_).trans ?_
    · intro c hc s; exact State.bump_seen xe s c (xhcounters c hc)
    · simp [xh, xhcounters]
  simp [h, xh, xhcounters]

@[simp] theorem examineFiring_seen (xe : Extent) (f r : Nat) (s : State) (xh : xe.covers [.seqs, .log, .fab, .exec, .sched, .port] [F.DBG_FLTSTAT_CLASS, F.ICU_LOSTCNT, F.ICU_OVRw_SRC, F.ICU_PENDw_SRC, F.MAN_DONECNT, F.MAN_NOROUTECNT, F.MAN_PARTCNT, F.MAN_VOIDCNT, F.SCH_ADMCNT, F.SCH_PHWM_POWER, F.SCH_TIDEPWR, F.TID_COLLIDE, F.TID_FIRECNT, F.TID_FIREVOID] = true) :
    State.seen xe (examineFiring f r s).2 = State.seen xe s := by
  simp only [Extent.covers, List.all_cons, List.all_nil, Bool.and_true, Bool.true_and, Bool.and_eq_true] at xh
  unfold examineFiring
  repeat' first
    | (extract_lets +onlyGivenNames x; refine have hx : State.seen xe x = State.seen xe s := ?_; ?_; (on_goal 1 => unfold x); (on_goal 2 => clear_value x))
    | (extract_lets +onlyGivenNames x; refine have hx : State.seen xe x.2 = State.seen xe s := ?_; ?_; (on_goal 1 => unfold x); (on_goal 2 => clear_value x))
    | (extract_lets +onlyGivenNames x; refine have hx : State.seen xe x.2.2 = State.seen xe s := ?_; ?_; (on_goal 1 => unfold x); (on_goal 2 => clear_value x))
    | (extract_lets +onlyGivenNames x; clear_value x)
    | (simp [*]; done)
    | (refine (foldl_seen xe _ _ _ ?_).trans ?_; (on_goal 1 => intro s a))
    | (refine (State.when_seen xe _ _ _ ?_).trans ?_; (on_goal 1 => intro s))
    | split
    | (simp_all; done)

@[simp] theorem tideFire_seen (xe : Extent) (f : Nat) (s : State) (xh : xe.covers [.seqs, .log, .fab, .exec, .sched, .port] [F.DBG_FLTSTAT_CLASS, F.ICU_LOSTCNT, F.ICU_OVRw_SRC, F.ICU_PENDw_SRC, F.MAN_ALLOCCNT, F.MAN_DONECNT, F.MAN_LASTEXEC_EXEC_ID, F.MAN_NOROUTECNT, F.MAN_NOSPCNT, F.MAN_PARTCNT, F.MAN_VOIDCNT, F.SCH_ADMCNT, F.SCH_PHWM_POWER, F.SCH_TIDEPWR, F.TID_COLLIDE, F.TID_FIRECNT, F.TID_FIREREF, F.TID_FIREVOID] = true) :
    State.seen xe (tideFire f s).2 = State.seen xe s := by
  simp only [Extent.covers, List.all_cons, List.all_nil, Bool.and_true, Bool.true_and, Bool.and_eq_true] at xh
  unfold tideFire
  repeat' first
    | (extract_lets +onlyGivenNames x; refine have hx : State.seen xe x = State.seen xe s := ?_; ?_; (on_goal 1 => unfold x); (on_goal 2 => clear_value x))
    | (extract_lets +onlyGivenNames x; refine have hx : State.seen xe x.2 = State.seen xe s := ?_; ?_; (on_goal 1 => unfold x); (on_goal 2 => clear_value x))
    | (extract_lets +onlyGivenNames x; refine have hx : State.seen xe x.2.2 = State.seen xe s := ?_; ?_; (on_goal 1 => unfold x); (on_goal 2 => clear_value x))
    | (extract_lets +onlyGivenNames x; clear_value x)
    | (simp [*]; done)
    | (refine (foldl_seen xe _ _ _ ?_).trans ?_; (on_goal 1 => intro s a))
    | (refine (State.when_seen xe _ _ _ ?_).trans ?_; (on_goal 1 => intro s))
    | split
    | (simp_all; done)

@[simp] theorem noteWaits_seen (xe : Extent) (f : Nat) (run : AdmRun) (s : State) (xh : xe.covers [.sched] [] = true) :
    State.seen xe (noteWaits f run s) = State.seen xe s := by
  simp only [Extent.covers, List.all_cons, List.all_nil, Bool.and_true, Bool.true_and, Bool.and_eq_true] at xh
  unfold noteWaits
  simp [xh]

@[simp] theorem admitLoop_seen (xe : Extent) (f n : Nat) (run : AdmRun) (s : State) (xh : xe.covers [.seqs, .log, .fab, .exec, .sched, .port] [F.DBG_FLTSTAT_CLASS, F.ICU_LOSTCNT, F.ICU_OVRw_SRC, F.ICU_PENDw_SRC, F.MAN_DONECNT, F.MAN_NOROUTECNT, F.MAN_PARTCNT, F.MAN_VOIDCNT, F.SCH_ADMCNT, F.SCH_BALSAT, F.SCH_PHWM_POWER, F.SCH_PWRWAIT, F.SCH_QADM_VALUE, F.SCH_QLATHWM_VALUE, F.SCH_STAT_PWRQ, F.SCH_VOIDDEN, F.SEG_DEFERCNT] = true) :
    State.seen xe (admitLoop f n run s).2 = State.seen xe s := by
  simp only [Extent.covers, List.all_cons, List.all_nil, Bool.and_true, Bool.true_and, Bool.and_eq_true] at xh
  induction n generalizing run s with
  | zero => rfl
  | succ n ih =>
    unfold admitLoop
    split
    · rfl
    split
    · rfl
    extract_lets behind a
    split
    · rfl
    · rw [ih]; simp [a, xh]

@[simp] theorem schedule_seen (xe : Extent) (f : Nat) (s : State) (xh : xe.covers [.seqs, .log, .fab, .exec, .sched, .port] [F.DBG_FLTSTAT_CLASS, F.ICU_LOSTCNT, F.ICU_OVRw_SRC, F.ICU_PENDw_SRC, F.MAN_ALLOCCNT, F.MAN_DONECNT, F.MAN_LASTEXEC_EXEC_ID, F.MAN_NOROUTECNT, F.MAN_NOSPCNT, F.MAN_PARTCNT, F.MAN_VOIDCNT, F.SCH_ADMCNT, F.SCH_ADMFULL, F.SCH_ADMHWM_ADMIT, F.SCH_ADMHWM_EXAM, F.SCH_BALSAT, F.SCH_PHWM_POWER, F.SCH_PWRWAIT, F.SCH_QADM_VALUE, F.SCH_QLATHWM_VALUE, F.SCH_STAT_PWRBLK, F.SCH_STAT_PWRQ, F.SCH_TIDEPWR, F.SCH_VOIDDEN, F.SEG_DEFERCNT, F.TID_COLLIDE, F.TID_FIRECNT, F.TID_FIREREF, F.TID_FIREVOID, F.TID_POS_ENTRY, F.TID_POS_REMAIN] = true) :
    State.seen xe (schedule f s) = State.seen xe s := by
  simp only [Extent.covers, List.all_cons, List.all_nil, Bool.and_true, Bool.true_and, Bool.and_eq_true] at xh
  unfold schedule
  extract_lets a b run s1 full s2 s3
  have h1 : State.seen xe s1 = State.seen xe s := by simp [s1, b, a, xh]
  clear_value s1
  have h2 : State.seen xe s2 = State.seen xe s := by
    simp only [s2]; refine (State.when_seen xe _ _ _ ?_).trans h1; intro s; simp [xh]
  clear_value s2
  have h3 : State.seen xe s3 = State.seen xe s := by simp [s3, h2, xh]
  clear_value s3
  simp [h3, xh]

@[simp] theorem lateFlush_seen (xe : Extent) (q f n : Nat) (s : State) (xh : xe.covers [.seqs, .fab, .exec, .sched] [F.ICU_LOSTCNT, F.ICU_OVRw_SRC, F.ICU_PENDw_SRC, F.MAN_DONECNT, F.MAN_PARTCNT, F.MAN_VOIDCNT, F.SCH_LATEFLUSH] = true) :
    State.seen xe (lateFlush q f n s) = State.seen xe s := by
  simp only [Extent.covers, List.all_cons, List.all_nil, Bool.and_true, Bool.true_and, Bool.and_eq_true] at xh
  induction n generalizing s with
  | zero => rfl
  | succ n ih =>
    unfold lateFlush
    extract_lets lim
    split
    · rfl
    split
    · rw [ih]; simp [xh]
    · rfl

@[simp] theorem lateFlushQ_seen (xe : Extent) (f q : Nat) (s : State) (xh : xe.covers [.seqs, .fab, .exec, .sched] [F.ICU_LOSTCNT, F.ICU_OVRw_SRC, F.ICU_PENDw_SRC, F.MAN_DONECNT, F.MAN_PARTCNT, F.MAN_VOIDCNT, F.SCH_LATEFLUSH] = true) :
    State.seen xe (lateFlushQ f q s) = State.seen xe s := by
  simp only [Extent.covers, List.all_cons, List.all_nil, Bool.and_true, Bool.true_and, Bool.and_eq_true] at xh
  unfold lateFlushQ
  simp [xh]

@[simp] theorem queueFlush_seen (xe : Extent) (q : Nat) (s : State) (xh : xe.covers [.sched] [] = true) :
    State.seen xe (queueFlush q s) = State.seen xe s := by
  simp only [Extent.covers, List.all_cons, List.all_nil, Bool.and_true, Bool.true_and, Bool.and_eq_true] at xh
  unfold queueFlush
  simp [xh]

@[simp] theorem flushAll_seen (xe : Extent) (f : Nat) (s : State) (xh : xe.covers [.seqs, .fab, .exec, .sched] [F.ICU_LOSTCNT, F.ICU_OVRw_SRC, F.ICU_PENDw_SRC, F.MAN_DONECNT, F.MAN_PARTCNT, F.MAN_VOIDCNT, F.SCH_CMDFLUSH] = true) :
    State.seen xe (flushAll f s) = State.seen xe s := by
  simp only [Extent.covers, List.all_cons, List.all_nil, Bool.and_true, Bool.true_and, Bool.and_eq_true] at xh
  unfold flushAll
  repeat' first
    | (extract_lets +onlyGivenNames x; refine have hx : State.seen xe x = State.seen xe s := ?_; ?_; (on_goal 1 => unfold x); (on_goal 2 => clear_value x))
    | (extract_lets +onlyGivenNames x; refine have hx : State.seen xe x.2 = State.seen xe s := ?_; ?_; (on_goal 1 => unfold x); (on_goal 2 => clear_value x))
    | (extract_lets +onlyGivenNames x; refine have hx : State.seen xe x.2.2 = State.seen xe s := ?_; ?_; (on_goal 1 => unfold x); (on_goal 2 => clear_value x))
    | (extract_lets +onlyGivenNames x; clear_value x)
    | (simp [*]; done)
    | (refine (foldl_seen xe _ _ _ ?_).trans ?_; (on_goal 1 => intro s a))
    | (refine (State.when_seen xe _ _ _ ?_).trans ?_; (on_goal 1 => intro s))
    | split
    | (simp_all; done)

@[simp] theorem withdrawRec_seen (xe : Extent) (r : Nat) (s : State) (xh : xe.covers [.seqs, .fab, .exec, .sched] [F.ICU_LOSTCNT, F.ICU_OVRw_SRC, F.ICU_PENDw_SRC, F.MAN_DONECNT, F.MAN_PARTCNT, F.MAN_VOIDCNT] = true) :
    State.seen xe (withdrawRec r s) = State.seen xe s := by
  simp only [Extent.covers, List.all_cons, List.all_nil, Bool.and_true, Bool.true_and, Bool.and_eq_true] at xh
  unfold withdrawRec
  simp [xh]

@[simp] theorem schedTick_seen (xe : Extent) (f : Nat) (s : State) (xh : xe.covers [.seqs, .log, .fab, .exec, .sched, .port] [F.DBG_FLTSTAT_CLASS, F.ICU_LOSTCNT, F.ICU_OVRw_SRC, F.ICU_PENDw_SRC, F.MAN_ALLOCCNT, F.MAN_DONECNT, F.MAN_LASTEXEC_EXEC_ID, F.MAN_NOROUTECNT, F.MAN_NOSPCNT, F.MAN_PARTCNT, F.MAN_VOIDCNT, F.SCH_ADMCNT, F.SCH_ADMFULL, F.SCH_ADMHWM_ADMIT, F.SCH_ADMHWM_EXAM, F.SCH_BALSAT, F.SCH_LATEFLUSH, F.SCH_PHWM_POWER, F.SCH_PWRWAIT, F.SCH_QADM_VALUE, F.SCH_QLATHWM_VALUE, F.SCH_STAT_PWRBLK, F.SCH_STAT_PWRQ, F.SCH_TIDEPWR, F.SCH_VOIDDEN, F.SEG_DEFERCNT, F.TID_COLLIDE, F.TID_FIRECNT, F.TID_FIREREF, F.TID_FIREVOID, F.TID_POS_ENTRY, F.TID_POS_REMAIN] = true) :
    State.seen xe (schedTick f s) = State.seen xe s := by
  simp only [Extent.covers, List.all_cons, List.all_nil, Bool.and_true, Bool.true_and, Bool.and_eq_true] at xh
  unfold schedTick
  simp [xh]

@[simp] theorem vtRead_seen (xe : Extent) (s : State) (xh : xe.covers [.rdata] [F.SCH_VTHI_VT] = true) :
    State.seen xe (vtRead s) = State.seen xe s := by
  simp only [Extent.covers, List.all_cons, List.all_nil, Bool.and_true, Bool.true_and, Bool.and_eq_true] at xh
  unfold vtRead
  simp [xh]

@[simp] theorem qbalRead_seen (xe : Extent) (s : State) (xh : xe.covers [.rdata] [F.SCH_QBALHI_BAL, F.SCH_QFTHI_FT] = true) :
    State.seen xe (qbalRead s) = State.seen xe s := by
  simp only [Extent.covers, List.all_cons, List.all_nil, Bool.and_true, Bool.true_and, Bool.and_eq_true] at xh
  unfold qbalRead
  simp [xh]

@[simp] theorem schStatclr_seen (xe : Extent) (s : State) (xh : xe.covers [.port] [F.SCH_ADMCNT, F.SCH_ADMFULL, F.SCH_ADMHWM_ADMIT, F.SCH_ADMHWM_EXAM, F.SCH_BALSAT, F.SCH_BUSYCNT, F.SCH_CMDFLUSH, F.SCH_DENYCNT, F.SCH_GATEDCNT, F.SCH_LATEFLUSH, F.SCH_PHWM_POWER, F.SCH_POLCNT, F.SCH_PWRWAIT, F.SCH_QADM_VALUE, F.SCH_QHWM_DEPTH, F.SCH_QLATHWM_VALUE, F.SCH_TIDEPWR, F.SCH_VOIDDEN] = true) :
    State.seen xe (schStatclr s) = State.seen xe s := by
  simp only [Extent.covers, List.all_cons, List.all_nil, Bool.and_true, Bool.true_and, Bool.and_eq_true] at xh
  unfold schStatclr
  simp [xh]

end Sys2Proof.Machine
end

