-- ==== Sys2Proof/Laws/SeenLink.lean ====
section
/-! SUPPORT. What the object store, the tile links and their channels leave unseen outside the extents they are given (Laws/Seen.lean). -/
namespace Sys2Proof.Machine
set_option linter.all false

@[simp] theorem State.modPen_seen (xe : Extent) (s : State) (f : PenSt → PenSt) (xh : xe.covers [.pen] [] = true) :
    State.seen xe (State.modPen s f) = State.seen xe s := by
  simp only [Extent.covers, List.all_cons, List.all_nil, Bool.and_true, Bool.true_and, Bool.and_eq_true] at xh
  unfold State.modPen
  simp [xh]

@[simp] theorem freeObj_seen (xe : Extent) (tag : ObjTag) (s : State) (xh : xe.covers [.pen] [] = true) :
    State.seen xe (freeObj tag s) = State.seen xe s := by
  simp only [Extent.covers, List.all_cons, List.all_nil, Bool.and_true, Bool.true_and, Bool.and_eq_true] at xh
  unfold freeObj
  simp [xh]

@[simp] theorem dropKept_seen (xe : Extent) (s : State) (xh : xe.covers [.pen] [] = true) :
    State.seen xe (dropKept s) = State.seen xe s := by
  simp only [Extent.covers, List.all_cons, List.all_nil, Bool.and_true, Bool.true_and, Bool.and_eq_true] at xh
  unfold dropKept
  simp [xh]

theorem allocObj_seen (xe : Extent) (tag : ObjTag) (n : Nat) (s : State) (r : Nat × State) (xh : xe.covers [.fresh, .pen] [] = true) :
    allocObj tag n s = some r → State.seen xe r.2 = State.seen xe s := by
  simp only [Extent.covers, List.all_cons, List.all_nil, Bool.and_true, Bool.true_and, Bool.and_eq_true] at xh
  intro h
  unfold allocObj at h
  dsimp only at h
  split at h
  · cases h
  · split at h
    · cases h; simp [xh]
    · cases h

theorem placeManifest_seen (xe : Extent) (m : Manifest) (bytes : List Byte) (s : State) (xh : xe.covers [.fresh, .table, .fab, .exec, .pen] [] = true) :
    ∀ t, (placeManifest m bytes s) = some t → State.seen xe t = State.seen xe s := by
  simp only [Extent.covers, List.all_cons, List.all_nil, Bool.and_true, Bool.true_and, Bool.and_eq_true] at xh
  unfold placeManifest
  intro t h
  split at h
  · rename_i r hr
    cases h
    have := allocObj_seen xe _ _ _ r (by simp [xh]) hr
    simp [this, xh]
  · cases h

theorem placeSegment_seen (xe : Extent) (key : Nat) (g : Segment) (bytes : List Byte) (s : State) (xh : xe.covers [.fresh, .table, .fab, .pen] [] = true) :
    ∀ t, (placeSegment key g bytes s) = some t → State.seen xe t = State.seen xe s := by
  simp only [Extent.covers, List.all_cons, List.all_nil, Bool.and_true, Bool.true_and, Bool.and_eq_true] at xh
  unfold placeSegment
  intro t h
  dsimp only at h
  split at h
  · rename_i r hr
    cases h
    have := allocObj_seen xe _ _ _ r (by simp [xh]) hr
    simp [this, xh]
  · cases h

@[simp] theorem placeCoef_seen (xe : Extent) (b : Nat) (c : BunCoef) (s : State) (xh : xe.covers [.fab] [] = true) :
    State.seen xe (placeCoef b c s) = State.seen xe s := by
  simp only [Extent.covers, List.all_cons, List.all_nil, Bool.and_true, Bool.true_and, Bool.and_eq_true] at xh
  unfold placeCoef
  simp [xh]

@[simp] theorem State.modLane_seen (xe : Extent) (s : State) (q : Nat) (f : Lane → Lane) (xh : xe.covers [.lanes] [] = true) :
    State.seen xe (State.modLane s q f) = State.seen xe s := by
  simp only [Extent.covers, List.all_cons, List.all_nil, Bool.and_true, Bool.true_and, Bool.and_eq_true] at xh
  unfold State.modLane
  simp [xh]

@[simp] theorem State.modChan_seen (xe : Extent) (s : State) (q : Nat) (f : Chan → Chan) (xh : xe.covers [.lanes] [] = true) :
    State.seen xe (State.modChan s q f) = State.seen xe s := by
  simp only [Extent.covers, List.all_cons, List.all_nil, Bool.and_true, Bool.true_and, Bool.and_eq_true] at xh
  unfold State.modChan
  simp [xh]

@[simp] theorem setLane_seen (xe : Extent) (q st : Nat) (s : State) (xh : xe.covers [.seqs, .lanes] [F.ICU_LOSTCNT, F.ICU_OVRw_SRC, F.ICU_PENDw_SRC, F.QY_LNKSTAT_STATE] = true) :
    State.seen xe (setLane q st s) = State.seen xe s := by
  simp only [Extent.covers, List.all_cons, List.all_nil, Bool.and_true, Bool.true_and, Bool.and_eq_true] at xh
  unfold setLane
  simp [xh]

@[simp] theorem postReq_seen (xe : Extent) (q : Nat) (m : Nat → TMsg) (s : State) (xh : xe.covers [.lanes] [] = true) :
    State.seen xe (postReq q m s).2 = State.seen xe s := by
  simp only [Extent.covers, List.all_cons, List.all_nil, Bool.and_true, Bool.true_and, Bool.and_eq_true] at xh
  unfold postReq
  simp [xh]

@[simp] theorem quayLeaves_seen (xe : Extent) (q f : Nat) (s : State) (xh : xe.covers [.fab, .quays] [F.QY_DRVSTAT_AUTH] = true) :
    State.seen xe (quayLeaves q f s) = State.seen xe s := by
  simp only [Extent.covers, List.all_cons, List.all_nil, Bool.and_true, Bool.true_and, Bool.and_eq_true] at xh
  unfold quayLeaves
  simp [xh]

@[simp] theorem toSeek_seen (xe : Extent) (q f why : Nat) (s : State) (xh : xe.covers [.seqs, .log, .fab, .quays, .lanes, .port] [F.DBG_FLTSTAT_CLASS, F.ICU_LOSTCNT, F.ICU_OVRw_SRC, F.ICU_PENDw_SRC, F.MOR_PARKCNT, F.QY_DRVSTAT_AUTH, F.QY_LNKSTAT_STATE, F.QY_LNKSTAT_TGEN, F.QY_LNKSTAT_TLOCK, F.QY_LNKSTAT_ULOCK] = true) :
    State.seen xe (toSeek q f why s) = State.seen xe s := by
  simp only [Extent.covers, List.all_cons, List.all_nil, Bool.and_true, Bool.true_and, Bool.and_eq_true] at xh
  unfold toSeek
  extract_lets run s1 s2 s3
  have h1 : State.seen xe s1 = State.seen xe s := by
    simp only [s1]
    refine State.when_seen xe _ _ _ ?_
    intro s
    have h0 : State.seen xe (s.when (s.ulock q) fun s => parkQuay q s) = State.seen xe s :=
      State.when_seen xe _ _ _ (by intro s; simp [xh])
    simp [h0, xh]
  clear_value s1
  have h2 : State.seen xe s2 = State.seen xe s := by simp [s2, h1, xh]
  clear_value s2
  have h3 : State.seen xe s3 = State.seen xe s := by simp [s3, h2, xh]
  clear_value s3
  simp [h3, xh]

@[simp] theorem seekSwitch_seen (xe : Extent) (q : Nat) (s : State) (xh : xe.covers [.lanes] [] = true) :
    State.seen xe (seekSwitch q s) = State.seen xe s := by
  simp only [Extent.covers, List.all_cons, List.all_nil, Bool.and_true, Bool.true_and, Bool.and_eq_true] at xh
  unfold seekSwitch
  simp [xh]

@[simp] theorem trimEnter_seen (xe : Extent) (i : Nat) (s : State) (xh : xe.covers [.cal] [F.CAL_STAT_DIRTY] = true) :
    State.seen xe (trimEnter i s) = State.seen xe s := by
  simp only [Extent.covers, List.all_cons, List.all_nil, Bool.and_true, Bool.true_and, Bool.and_eq_true] at xh
  unfold trimEnter
  simp [xh]

@[simp] theorem lockAcquire_seen (xe : Extent) (q : Nat) (s : State) (xh : xe.covers [.seqs, .lanes, .cal] [F.CAL_STAT_DIRTY, F.ICU_LOSTCNT, F.ICU_OVRw_SRC, F.ICU_PENDw_SRC, F.QY_EYE_TPSEL, F.QY_LNKSTAT_STATE, F.QY_LNKSTAT_ULOCK, F.QY_TRAINCNT] = true) :
    State.seen xe (lockAcquire q s) = State.seen xe s := by
  simp only [Extent.covers, List.all_cons, List.all_nil, Bool.and_true, Bool.true_and, Bool.and_eq_true] at xh
  unfold lockAcquire
  simp [xh]

@[simp] theorem presetStep_seen (xe : Extent) (q : Nat) (s : State) (xh : xe.covers [.lanes] [F.QY_EYE_DEYE, F.QY_EYE_TEYE, F.QY_EYE_TPSEL] = true) :
    State.seen xe (presetStep q s) = State.seen xe s := by
  simp only [Extent.covers, List.all_cons, List.all_nil, Bool.and_true, Bool.true_and, Bool.and_eq_true] at xh
  unfold presetStep
  simp [xh]

@[simp] theorem resetChan_seen (xe : Extent) (q : Nat) (s : State) (xh : xe.covers [.lanes] [] = true) :
    State.seen xe (resetChan q s) = State.seen xe s := by
  simp only [Extent.covers, List.all_cons, List.all_nil, Bool.and_true, Bool.true_and, Bool.and_eq_true] at xh
  unfold resetChan
  simp [xh]

@[simp] theorem trainComplete_seen (xe : Extent) (q : Nat) (s : State) (xh : xe.covers [.seqs, .lanes] [F.ICU_LOSTCNT, F.ICU_OVRw_SRC, F.ICU_PENDw_SRC, F.QY_LNKSTAT_STATE] = true) :
    State.seen xe (trainComplete q s) = State.seen xe s := by
  simp only [Extent.covers, List.all_cons, List.all_nil, Bool.and_true, Bool.true_and, Bool.and_eq_true] at xh
  unfold trainComplete
  simp [xh]

@[simp] theorem trainTimeout_seen (xe : Extent) (q : Nat) (s : State) (xh : xe.covers [.seqs, .log, .fab, .quays, .lanes, .port] [F.DBG_FLTSTAT_CLASS, F.ICU_LOSTCNT, F.ICU_OVRw_SRC, F.ICU_PENDw_SRC, F.MOR_PARKCNT, F.QY_DRVSTAT_AUTH, F.QY_LNKSTAT_STATE, F.QY_LNKSTAT_TGEN, F.QY_LNKSTAT_TLOCK, F.QY_LNKSTAT_TRAINFAIL, F.QY_LNKSTAT_ULOCK] = true) :
    State.seen xe (trainTimeout q s) = State.seen xe s := by
  simp only [Extent.covers, List.all_cons, List.all_nil, Bool.and_true, Bool.true_and, Bool.and_eq_true] at xh
  unfold trainTimeout
  simp [xh]

@[simp] theorem cfgWrite_seen (xe : Extent) (q : Nat) (s : State) (g : Nat × List Nat) (xh : xe.covers [.lanes] [] = true) :
    State.seen xe (cfgWrite q s g) = State.seen xe s := by
  simp only [Extent.covers, List.all_cons, List.all_nil, Bool.and_true, Bool.true_and, Bool.and_eq_true] at xh
  unfold cfgWrite
  simp [xh]

@[simp] theorem cfgWrites_seen (xe : Extent) (q : Nat) (l : List (Nat × Nat)) (s : State) (xh : xe.covers [.lanes] [] = true) :
    State.seen xe (cfgWrites q l s) = State.seen xe s := by
  simp only [Extent.covers, List.all_cons, List.all_nil, Bool.and_true, Bool.true_and, Bool.and_eq_true] at xh
  unfold cfgWrites
  simp [xh]

@[simp] theorem noteClip_seen (xe : Extent) (q : Nat) (sets : List TSet) (s : State) (xh : xe.covers [] [F.QY_LNKSTAT_SAMPCLIP] = true) :
    State.seen xe (noteClip q sets s) = State.seen xe s := by
  simp only [Extent.covers, List.all_cons, List.all_nil, Bool.and_true, Bool.true_and, Bool.and_eq_true] at xh
  unfold noteClip
  simp [xh]

@[simp] theorem configure_seen (xe : Extent) (q : Nat) (s : State) (xh : xe.covers [.lanes] [F.QY_LNKSTAT_SAMPCLIP] = true) :
    State.seen xe (configure q s) = State.seen xe s := by
  simp only [Extent.covers, List.all_cons, List.all_nil, Bool.and_true, Bool.true_and, Bool.and_eq_true] at xh
  unfold configure
  simp [xh]

@[simp] theorem identify_seen (xe : Extent) (q : Nat) (ws : List Nat) (s : State) (xh : xe.covers [.lanes] [F.QY_LNKSTAT_NEWTILE, F.QY_LNKSTAT_SAMPCLIP, F.QY_LNKSTAT_TGEN, F.QY_LNKSTAT_THREE, F.QY_TILEID_SERIAL, F.QY_TLAT_TRXLAT, F.QY_TLAT_TTXLAT] = true) :
    State.seen xe (identify q ws s) = State.seen xe s := by
  simp only [Extent.covers, List.all_cons, List.all_nil, Bool.and_true, Bool.true_and, Bool.and_eq_true] at xh
  unfold identify
  simp [xh]

@[simp] theorem discoverComplete_seen (xe : Extent) (q : Nat) (s : State) (xh : xe.covers [.seqs, .log, .quays, .lanes, .cal, .port] [F.DBG_FLTSTAT_CLASS, F.ICU_LOSTCNT, F.ICU_OVRw_SRC, F.ICU_PENDw_SRC, F.QY_DRVSTAT_MODEDEN, F.QY_LNKSTAT_GENMIS, F.QY_LNKSTAT_STATE] = true) :
    State.seen xe (discoverComplete q s) = State.seen xe s := by
  simp only [Extent.covers, List.all_cons, List.all_nil, Bool.and_true, Bool.true_and, Bool.and_eq_true] at xh
  unfold discoverComplete
  simp [xh]

@[simp] theorem discoverTimeout_seen (xe : Extent) (q : Nat) (s : State) (xh : xe.covers [.seqs, .log, .fab, .quays, .lanes, .port] [F.DBG_FLTSTAT_CLASS, F.ICU_LOSTCNT, F.ICU_OVRw_SRC, F.ICU_PENDw_SRC, F.MOR_PARKCNT, F.QY_DRVSTAT_AUTH, F.QY_LNKSTAT_DISCFAIL, F.QY_LNKSTAT_STATE, F.QY_LNKSTAT_TGEN, F.QY_LNKSTAT_TLOCK, F.QY_LNKSTAT_ULOCK] = true) :
    State.seen xe (discoverTimeout q s) = State.seen xe s := by
  simp only [Extent.covers, List.all_cons, List.all_nil, Bool.and_true, Bool.true_and, Bool.and_eq_true] at xh
  unfold discoverTimeout
  simp [xh]

@[simp] theorem skewFail_seen (xe : Extent) (q : Nat) (s : State) (xh : xe.covers [.log, .port] [F.DBG_FLTSTAT_CLASS, F.QY_LNKSTAT_SKEWFAIL] = true) :
    State.seen xe (skewFail q s) = State.seen xe s := by
  simp only [Extent.covers, List.all_cons, List.all_nil, Bool.and_true, Bool.true_and, Bool.and_eq_true] at xh
  unfold skewFail
  simp [xh]

@[simp] theorem setTarget_seen (xe : Extent) (q : Nat) (s : State) (xh : xe.covers [.log, .port] [F.DBG_FLTSTAT_CLASS, F.QY_LAUNCH_TARGET, F.QY_LNKSTAT_SKEWFAIL] = true) :
    State.seen xe (setTarget q s) = State.seen xe s := by
  simp only [Extent.covers, List.all_cons, List.all_nil, Bool.and_true, Bool.true_and, Bool.and_eq_true] at xh
  unfold setTarget
  simp [xh]

@[simp] theorem skewMeasured_seen (xe : Extent) (q : Nat) (s : State) (xh : xe.covers [.log, .lanes, .port] [F.DBG_FLTSTAT_CLASS, F.QY_LAUNCH_TARGET, F.QY_LNKSTAT_SAMPCLIP, F.QY_LNKSTAT_SKEWFAIL, F.QY_LNKTIM_ULSLOT, F.QY_RTT_TIME] = true) :
    State.seen xe (skewMeasured q s) = State.seen xe s := by
  simp only [Extent.covers, List.all_cons, List.all_nil, Bool.and_true, Bool.true_and, Bool.and_eq_true] at xh
  unfold skewMeasured
  simp [xh]

@[simp] theorem quayServes_seen (xe : Extent) (q : Nat) (s : State) (xh : xe.covers [.fab] [] = true) :
    State.seen xe (quayServes q s) = State.seen xe s := by
  simp only [Extent.covers, List.all_cons, List.all_nil, Bool.and_true, Bool.true_and, Bool.and_eq_true] at xh
  unfold quayServes
  simp [xh]

@[simp] theorem enterRun_seen (xe : Extent) (q : Nat) (s : State) (xh : xe.covers [.seqs, .fab, .quays, .lanes] [F.ICU_LOSTCNT, F.ICU_OVRw_SRC, F.ICU_PENDw_SRC, F.QY_DRVSTAT_RAMP, F.QY_LNKSTAT_STATE] = true) :
    State.seen xe (enterRun q s) = State.seen xe s := by
  simp only [Extent.covers, List.all_cons, List.all_nil, Bool.and_true, Bool.true_and, Bool.and_eq_true] at xh
  unfold enterRun
  simp [xh]

@[simp] theorem launchDone_seen (xe : Extent) (q : Nat) (s : State) (xh : xe.covers [.seqs, .fab, .quays, .lanes] [F.ICU_LOSTCNT, F.ICU_OVRw_SRC, F.ICU_PENDw_SRC, F.QY_DRVSTAT_RAMP, F.QY_LNKSTAT_STATE] = true) :
    State.seen xe (launchDone q s) = State.seen xe s := by
  simp only [Extent.covers, List.all_cons, List.all_nil, Bool.and_true, Bool.true_and, Bool.and_eq_true] at xh
  unfold launchDone
  simp [xh]

@[simp] theorem laneEnterRun_seen (xe : Extent) (q : Nat) (s : State) (xh : xe.covers [.seqs, .fab, .quays, .lanes] [F.ICU_LOSTCNT, F.ICU_OVRw_SRC, F.ICU_PENDw_SRC, F.QY_DRVSTAT_RAMP, F.QY_LNKSTAT_STATE] = true) :
    State.seen xe (laneEnterRun q s) = State.seen xe s := by
  simp only [Extent.covers, List.all_cons, List.all_nil, Bool.and_true, Bool.true_and, Bool.and_eq_true] at xh
  unfold laneEnterRun
  simp [xh]

@[simp] theorem lockLoss_seen (xe : Extent) (q : Nat) (s : State) (xh : xe.covers [.seqs, .log, .fab, .quays, .lanes, .port] [F.DBG_FLTSTAT_CLASS, F.ICU_LOSTCNT, F.ICU_OVRw_SRC, F.ICU_PENDw_SRC, F.MOR_PARKCNT, F.QY_DRVSTAT_AUTH, F.QY_LNKSTAT_LOSS, F.QY_LNKSTAT_STATE, F.QY_LNKSTAT_TGEN, F.QY_LNKSTAT_TLOCK, F.QY_LNKSTAT_ULOCK, F.QY_ULOSSCNT] = true) :
    State.seen xe (lockLoss q s) = State.seen xe s := by
  simp only [Extent.covers, List.all_cons, List.all_nil, Bool.and_true, Bool.true_and, Bool.and_eq_true] at xh
  unfold lockLoss
  simp [xh]

@[simp] theorem relock_seen (xe : Extent) (q : Nat) (s : State) (xh : xe.covers [.fab, .lanes] [F.QY_LNKSTAT_ULOCK] = true) :
    State.seen xe (relock q s) = State.seen xe s := by
  simp only [Extent.covers, List.all_cons, List.all_nil, Bool.and_true, Bool.true_and, Bool.and_eq_true] at xh
  unfold relock
  simp [xh]

@[simp] theorem relockTimeout_seen (xe : Extent) (q : Nat) (s : State) (xh : xe.covers [.seqs, .log, .fab, .quays, .lanes, .port] [F.DBG_FLTSTAT_CLASS, F.ICU_LOSTCNT, F.ICU_OVRw_SRC, F.ICU_PENDw_SRC, F.MOR_PARKCNT, F.QY_DRVSTAT_AUTH, F.QY_LNKSTAT_STATE, F.QY_LNKSTAT_TGEN, F.QY_LNKSTAT_TLOCK, F.QY_LNKSTAT_ULOCK] = true) :
    State.seen xe (relockTimeout q s) = State.seen xe s := by
  simp only [Extent.covers, List.all_cons, List.all_nil, Bool.and_true, Bool.true_and, Bool.and_eq_true] at xh
  unfold relockTimeout
  repeat' first
    | (extract_lets +onlyGivenNames x; refine have hx : State.seen xe x = State.seen xe s := ?_; ?_; (on_goal 1 => unfold x); (on_goal 2 => clear_value x))
    | (extract_lets +onlyGivenNames x; refine have hx : State.seen xe x.2 = State.seen xe s := ?_; ?_; (on_goal 1 => unfold x); (on_goal 2 => clear_value x))
    | (extract_lets +onlyGivenNames x; refine have hx : State.seen xe x.2.2 = State.seen xe s := ?_; ?_; (on_goal 1 => unfold x); (on_goal 2 => clear_value x))
    | (extract_lets +onlyGivenNames x; clear_value x)
    | (simp [*]; done)
    | (refine (foldl_seen xe _ _ _ ?_).trans ?_; (on_goal 1 => intro s a))
    | (refine (State.when_seen xe _ _ _ ?_).trans ?_; (on_goal 1 => intro s))
    | split
    | (simp_all; done)

@[simp] theorem preRunLoss_seen (xe : Extent) (q : Nat) (s : State) (xh : xe.covers [.seqs, .log, .fab, .quays, .lanes, .port] [F.DBG_FLTSTAT_CLASS, F.ICU_LOSTCNT, F.ICU_OVRw_SRC, F.ICU_PENDw_SRC, F.MOR_PARKCNT, F.QY_DRVSTAT_AUTH, F.QY_LNKSTAT_STATE, F.QY_LNKSTAT_TGEN, F.QY_LNKSTAT_TLOCK, F.QY_LNKSTAT_ULOCK] = true) :
    State.seen xe (preRunLoss q s) = State.seen xe s := by
  simp only [Extent.covers, List.all_cons, List.all_nil, Bool.and_true, Bool.true_and, Bool.and_eq_true] at xh
  unfold preRunLoss
  simp [xh]

@[simp] theorem seekNext_seen (xe : Extent) (q why : Nat) (s : State) (xh : xe.covers [.lanes] [] = true) :
    State.seen xe (seekNext q why s) = State.seen xe s := by
  simp only [Extent.covers, List.all_cons, List.all_nil, Bool.and_true, Bool.true_and, Bool.and_eq_true] at xh
  unfold seekNext
  simp [xh]

@[simp] theorem seekDue_seen (xe : Extent) (q : Nat) (s : State) (xh : xe.covers [.seqs, .log, .fab, .quays, .lanes, .port] [F.DBG_FLTSTAT_CLASS, F.ICU_LOSTCNT, F.ICU_OVRw_SRC, F.ICU_PENDw_SRC, F.MOR_PARKCNT, F.QY_DRVSTAT_AUTH, F.QY_LNKSTAT_STATE, F.QY_LNKSTAT_TGEN, F.QY_LNKSTAT_TLOCK, F.QY_LNKSTAT_ULOCK] = true) :
    State.seen xe (seekDue q s) = State.seen xe s := by
  simp only [Extent.covers, List.all_cons, List.all_nil, Bool.and_true, Bool.true_and, Bool.and_eq_true] at xh
  unfold seekDue
  simp [xh]

@[simp] theorem reskew_seen (xe : Extent) (q : Nat) (s : State) (xh : xe.covers [.log, .port] [F.DBG_FLTSTAT_CLASS, F.QY_LAUNCH_TARGET, F.QY_LNKSTAT_SKEWFAIL, F.QY_RTT_TIME] = true) :
    State.seen xe (reskew q s) = State.seen xe s := by
  simp only [Extent.covers, List.all_cons, List.all_nil, Bool.and_true, Bool.true_and, Bool.and_eq_true] at xh
  unfold reskew
  simp [xh]

@[simp] theorem qyLnkStatclr_seen (xe : Extent) (q : Nat) (s : State) (xh : xe.covers [.port] [F.QY_ARRIVE_WORST, F.QY_DCRCCNT, F.QY_HOLDCNT, F.QY_SYNCERR, F.QY_TRAINCNT, F.QY_UCRCCNT, F.QY_UFNERR, F.QY_ULATE, F.QY_ULOSSCNT] = true) :
    State.seen xe (qyLnkStatclr q s) = State.seen xe s := by
  simp only [Extent.covers, List.all_cons, List.all_nil, Bool.and_true, Bool.true_and, Bool.and_eq_true] at xh
  unfold qyLnkStatclr
  refine (foldl_mem_seen xe _ _ _ ?_).trans ?_
  · intro f hf s
    simp only [List.mem_cons, List.not_mem_nil, or_false] at hf
    rcases hf with rfl | rfl | rfl | rfl | rfl | rfl | rfl | rfl | rfl <;> simp [xh]
  · simp [xh]

@[simp] theorem noteArrive_seen (xe : Extent) (q : Nat) (late : Int) (s : State) (xh : xe.covers [] [F.QY_ARRIVE_LAST, F.QY_ARRIVE_WORST] = true) :
    State.seen xe (noteArrive q late s) = State.seen xe s := by
  simp only [Extent.covers, List.all_cons, List.all_nil, Bool.and_true, Bool.true_and, Bool.and_eq_true] at xh
  unfold noteArrive
  simp [xh]

@[simp] theorem noteRtt_seen (xe : Extent) (q rtt : Nat) (s : State) (xh : xe.covers [.seqs, .log, .lanes, .port] [F.DBG_FLTSTAT_CLASS, F.ICU_LOSTCNT, F.ICU_OVRw_SRC, F.ICU_PENDw_SRC, F.QY_LNKSTAT_SKEWDRIFT, F.QY_RTTAVG_TIME] = true) :
    State.seen xe (noteRtt q rtt s) = State.seen xe s := by
  simp only [Extent.covers, List.all_cons, List.all_nil, Bool.and_true, Bool.true_and, Bool.and_eq_true] at xh
  unfold noteRtt
  repeat' first
    | (extract_lets +onlyGivenNames x; refine have hx : State.seen xe x = State.seen xe s := ?_; ?_; (on_goal 1 => unfold x); (on_goal 2 => clear_value x))
    | (extract_lets +onlyGivenNames x; refine have hx : State.seen xe x.2 = State.seen xe s := ?_; ?_; (on_goal 1 => unfold x); (on_goal 2 => clear_value x))
    | (extract_lets +onlyGivenNames x; refine have hx : State.seen xe x.2.2 = State.seen xe s := ?_; ?_; (on_goal 1 => unfold x); (on_goal 2 => clear_value x))
    | (extract_lets +onlyGivenNames x; clear_value x)
    | (simp [*]; done)
    | (refine (foldl_seen xe _ _ _ ?_).trans ?_; (on_goal 1 => intro s a))
    | (refine (State.when_seen xe _ _ _ ?_).trans ?_; (on_goal 1 => intro s))
    | split
    | (simp_all; done)

@[simp] theorem breakRtt_seen (xe : Extent) (q : Nat) (s : State) (xh : xe.covers [.lanes] [] = true) :
    State.seen xe (breakRtt q s) = State.seen xe s := by
  simp only [Extent.covers, List.all_cons, List.all_nil, Bool.and_true, Bool.true_and, Bool.and_eq_true] at xh
  unfold breakRtt
  simp [xh]

@[simp] theorem noteSrc0_seen (xe : Extent) (q m : Nat) (f : UFrame) (s : State) (xh : xe.covers [.fab, .quays] [F.QY_DRVSTAT_RAMP, F.QY_LNKSTAT_TILESRC0] = true) :
    State.seen xe (noteSrc0 q m f s) = State.seen xe s := by
  simp only [Extent.covers, List.all_cons, List.all_nil, Bool.and_true, Bool.true_and, Bool.and_eq_true] at xh
  unfold noteSrc0
  repeat' first
    | (extract_lets +onlyGivenNames x; refine have hx : State.seen xe x = State.seen xe s := ?_; ?_; (on_goal 1 => unfold x); (on_goal 2 => clear_value x))
    | (extract_lets +onlyGivenNames x; refine have hx : State.seen xe x.2 = State.seen xe s := ?_; ?_; (on_goal 1 => unfold x); (on_goal 2 => clear_value x))
    | (extract_lets +onlyGivenNames x; refine have hx : State.seen xe x.2.2 = State.seen xe s := ?_; ?_; (on_goal 1 => unfold x); (on_goal 2 => clear_value x))
    | (extract_lets +onlyGivenNames x; clear_value x)
    | (simp [*]; done)
    | (refine (foldl_seen xe _ _ _ ?_).trans ?_; (on_goal 1 => intro s a))
    | (refine (State.when_seen xe _ _ _ ?_).trans ?_; (on_goal 1 => intro s))
    | split
    | (simp_all; done)

@[simp] theorem hearCell_seen (xe : Extent) (q : Nat) (c : Cell) (s : State) (xh : xe.covers [.lanes] [F.QY_TCHSTAT_FRESH, F.QY_TCHSTAT_TRESET, F.QY_TMALF, F.QY_TTEMP_TPH, F.QY_TTEMP_TTL] = true) :
    State.seen xe (hearCell q c s) = State.seen xe s := by
  simp only [Extent.covers, List.all_cons, List.all_nil, Bool.and_true, Bool.true_and, Bool.and_eq_true] at xh
  unfold hearCell
  simp [xh]

@[simp] theorem noteHeader_seen (xe : Extent) (q : Nat) (f : UFrame) (s : State) (xh : xe.covers [.lanes] [F.QY_DCRCCNT, F.QY_HOLDCNT, F.QY_LNKSTAT_TLOCK] = true) :
    State.seen xe (noteHeader q f s) = State.seen xe s := by
  simp only [Extent.covers, List.all_cons, List.all_nil, Bool.and_true, Bool.true_and, Bool.and_eq_true] at xh
  unfold noteHeader
  simp [xh]

@[simp] theorem goodFrame_seen (xe : Extent) (q m : Nat) (f : UFrame) (a : UArrival) (s : State) (xh : xe.covers [.seqs, .log, .fab, .quays, .lanes, .port] [F.DBG_FLTSTAT_CLASS, F.ICU_LOSTCNT, F.ICU_OVRw_SRC, F.ICU_PENDw_SRC, F.QY_DCRCCNT, F.QY_DRVSTAT_RAMP, F.QY_EYE_DEYE, F.QY_EYE_TEYE, F.QY_HOLDCNT, F.QY_LNKSTAT_SKEWDRIFT, F.QY_LNKSTAT_TILESRC0, F.QY_LNKSTAT_TLOCK, F.QY_RTTAVG_TIME, F.QY_TCHSTAT_FRESH, F.QY_TCHSTAT_TRESET, F.QY_TMALF, F.QY_TTEMP_TPH, F.QY_TTEMP_TTL] = true) :
    State.seen xe (goodFrame q m f a s) = State.seen xe s := by
  simp only [Extent.covers, List.all_cons, List.all_nil, Bool.and_true, Bool.true_and, Bool.and_eq_true] at xh
  unfold goodFrame
  repeat' first
    | (extract_lets +onlyGivenNames x; refine have hx : State.seen xe x = State.seen xe s := ?_; ?_; (on_goal 1 => unfold x); (on_goal 2 => clear_value x))
    | (extract_lets +onlyGivenNames x; refine have hx : State.seen xe x.2 = State.seen xe s := ?_; ?_; (on_goal 1 => unfold x); (on_goal 2 => clear_value x))
    | (extract_lets +onlyGivenNames x; refine have hx : State.seen xe x.2.2 = State.seen xe s := ?_; ?_; (on_goal 1 => unfold x); (on_goal 2 => clear_value x))
    | (extract_lets +onlyGivenNames x; clear_value x)
    | (simp [*]; done)
    | (refine (foldl_seen xe _ _ _ ?_).trans ?_; (on_goal 1 => intro s a))
    | (refine (State.when_seen xe _ _ _ ?_).trans ?_; (on_goal 1 => intro s))
    | split
    | (simp_all; done)

@[simp] theorem badFrame_seen (xe : Extent) (q : Nat) (fnum crc : Bool) (s : State) (xh : xe.covers [.lanes] [F.QY_UCRCCNT, F.QY_UFNERR] = true) :
    State.seen xe (badFrame q fnum crc s) = State.seen xe s := by
  simp only [Extent.covers, List.all_cons, List.all_nil, Bool.and_true, Bool.true_and, Bool.and_eq_true] at xh
  unfold badFrame
  repeat' first
    | (extract_lets +onlyGivenNames x; refine have hx : State.seen xe x = State.seen xe s := ?_; ?_; (on_goal 1 => unfold x); (on_goal 2 => clear_value x))
    | (extract_lets +onlyGivenNames x; refine have hx : State.seen xe x.2 = State.seen xe s := ?_; ?_; (on_goal 1 => unfold x); (on_goal 2 => clear_value x))
    | (extract_lets +onlyGivenNames x; refine have hx : State.seen xe x.2.2 = State.seen xe s := ?_; ?_; (on_goal 1 => unfold x); (on_goal 2 => clear_value x))
    | (extract_lets +onlyGivenNames x; clear_value x)
    | (simp [*]; done)
    | (refine (foldl_seen xe _ _ _ ?_).trans ?_; (on_goal 1 => intro s a))
    | (refine (State.when_seen xe _ _ _ ?_).trans ?_; (on_goal 1 => intro s))
    | split
    | (simp_all; done)

@[simp] theorem huntFrame_seen (xe : Extent) (q : Nat) (f : UFrame) (a : UArrival) (s : State) (xh : xe.covers [.lanes] [] = true) :
    State.seen xe (huntFrame q f a s) = State.seen xe s := by
  simp only [Extent.covers, List.all_cons, List.all_nil, Bool.and_true, Bool.true_and, Bool.and_eq_true] at xh
  unfold huntFrame
  simp [xh]

@[simp] theorem regainFrame_seen (xe : Extent) (q : Nat) (a : UArrival) (s : State) (xh : xe.covers [.lanes] [] = true) :
    State.seen xe (regainFrame q a s) = State.seen xe s := by
  simp only [Extent.covers, List.all_cons, List.all_nil, Bool.and_true, Bool.true_and, Bool.and_eq_true] at xh
  unfold regainFrame
  simp [xh]

@[simp] theorem upstreamFrame_seen (xe : Extent) (q : Nat) (f : UFrame) (a : UArrival) (s : State) (xh : xe.covers [.seqs, .log, .fab, .quays, .lanes, .port] [F.DBG_FLTSTAT_CLASS, F.ICU_LOSTCNT, F.ICU_OVRw_SRC, F.ICU_PENDw_SRC, F.QY_ARRIVE_LAST, F.QY_ARRIVE_WORST, F.QY_DCRCCNT, F.QY_DRVSTAT_RAMP, F.QY_EYE_DEYE, F.QY_EYE_TEYE, F.QY_HOLDCNT, F.QY_LNKSTAT_NEWTILE, F.QY_LNKSTAT_SKEWDRIFT, F.QY_LNKSTAT_TILESRC0, F.QY_LNKSTAT_TLOCK, F.QY_RTTAVG_TIME, F.QY_SYNCERR, F.QY_TCHSTAT_FRESH, F.QY_TCHSTAT_TRESET, F.QY_TMALF, F.QY_TTEMP_TPH, F.QY_TTEMP_TTL, F.QY_UCRCCNT, F.QY_UFNERR, F.QY_ULATE] = true) :
    State.seen xe (upstreamFrame q f a s) = State.seen xe s := by
  simp only [Extent.covers, List.all_cons, List.all_nil, Bool.and_true, Bool.true_and, Bool.and_eq_true] at xh
  unfold upstreamFrame
  simp [xh]

@[simp] theorem derrBurst_seen (xe : Extent) (q : Nat) (s : State) (xh : xe.covers [.seqs, .log, .lanes, .port] [F.DBG_FLTSTAT_CLASS, F.ICU_LOSTCNT, F.ICU_OVRw_SRC, F.ICU_PENDw_SRC, F.QY_LNKSTAT_DERRBURST] = true) :
    State.seen xe (derrBurst q s) = State.seen xe s := by
  simp only [Extent.covers, List.all_cons, List.all_nil, Bool.and_true, Bool.true_and, Bool.and_eq_true] at xh
  unfold derrBurst
  simp [xh]

@[simp] theorem moveLaunch_seen (xe : Extent) (q : Nat) (fill : Nat) (s : State) (xh : xe.covers [.lanes] [F.QY_LAUNCH_LAUNCH] = true) :
    State.seen xe (moveLaunch q fill s).2 = State.seen xe s := by
  simp only [Extent.covers, List.all_cons, List.all_nil, Bool.and_true, Bool.true_and, Bool.and_eq_true] at xh
  unfold moveLaunch
  repeat' first
    | (extract_lets +onlyGivenNames x; refine have hx : State.seen xe x = State.seen xe s := ?_; ?_; (on_goal 1 => unfold x); (on_goal 2 => clear_value x))
    | (extract_lets +onlyGivenNames x; refine have hx : State.seen xe x.2 = State.seen xe s := ?_; ?_; (on_goal 1 => unfold x); (on_goal 2 => clear_value x))
    | (extract_lets +onlyGivenNames x; refine have hx : State.seen xe x.2.2 = State.seen xe s := ?_; ?_; (on_goal 1 => unfold x); (on_goal 2 => clear_value x))
    | (extract_lets +onlyGivenNames x; clear_value x)
    | (simp [*]; done)
    | (refine (foldl_seen xe _ _ _ ?_).trans ?_; (on_goal 1 => intro s a))
    | (refine (State.when_seen xe _ _ _ ?_).trans ?_; (on_goal 1 => intro s))
    | split
    | (simp_all; done)

@[simp] theorem launchFrame_seen (xe : Extent) (q f c : Nat) (s : State) (xh : xe.covers [.lanes] [F.QY_DRVSTAT_AUTH, F.QY_LAUNCH_LAUNCH, F.QY_TRETX] = true) :
    State.seen xe (launchFrame q f c s) = State.seen xe s := by
  simp only [Extent.covers, List.all_cons, List.all_nil, Bool.and_true, Bool.true_and, Bool.and_eq_true] at xh
  unfold launchFrame
  repeat' first
    | (extract_lets +onlyGivenNames x; refine have hx : State.seen xe x = State.seen xe s := ?_; ?_; (on_goal 1 => unfold x); (on_goal 2 => clear_value x))
    | (extract_lets +onlyGivenNames x; refine have hx : State.seen xe x.2 = State.seen xe s := ?_; ?_; (on_goal 1 => unfold x); (on_goal 2 => clear_value x))
    | (extract_lets +onlyGivenNames x; refine have hx : State.seen xe x.2.2 = State.seen xe s := ?_; ?_; (on_goal 1 => unfold x); (on_goal 2 => clear_value x))
    | (extract_lets +onlyGivenNames x; clear_value x)
    | (simp [*]; done)
    | (refine (foldl_seen xe _ _ _ ?_).trans ?_; (on_goal 1 => intro s a))
    | (refine (State.when_seen xe _ _ _ ?_).trans ?_; (on_goal 1 => intro s))
    | split
    | (simp_all; done)

@[simp] theorem powerLane_seen (xe : Extent) (q : Nat) (s : State) (xh : xe.covers [.seqs, .log, .fab, .quays, .lanes, .port] [F.DBG_FLTSTAT_CLASS, F.ICU_LOSTCNT, F.ICU_OVRw_SRC, F.ICU_PENDw_SRC, F.MOR_PARKCNT, F.QY_DRVSTAT_AUTH, F.QY_LAUNCH_LAUNCH, F.QY_LNKSTAT_STATE, F.QY_LNKSTAT_TGEN, F.QY_LNKSTAT_TLOCK, F.QY_LNKSTAT_ULOCK] = true) :
    State.seen xe (powerLane q s) = State.seen xe s := by
  simp only [Extent.covers, List.all_cons, List.all_nil, Bool.and_true, Bool.true_and, Bool.and_eq_true] at xh
  unfold powerLane
  simp [xh]

@[simp] theorem laneMiss_seen (xe : Extent) (q : Nat) (s : State) (xh : xe.covers [.lanes] [] = true) :
    State.seen xe (laneMiss q s) = State.seen xe s := by
  simp only [Extent.covers, List.all_cons, List.all_nil, Bool.and_true, Bool.true_and, Bool.and_eq_true] at xh
  unfold laneMiss
  simp [xh]

@[simp] theorem laneCounts_seen (xe : Extent) (q : Nat) (s : State) (xh : xe.covers [.lanes] [] = true) :
    State.seen xe (laneCounts q s) = State.seen xe s := by
  simp only [Extent.covers, List.all_cons, List.all_nil, Bool.and_true, Bool.true_and, Bool.and_eq_true] at xh
  unfold laneCounts
  simp [xh]

@[simp] theorem laneRows_seen (xe : Extent) (q : Nat) (s : State) (xh : xe.covers [.seqs, .log, .fab, .quays, .lanes, .cal, .port] [F.CAL_STAT_DIRTY, F.DBG_FLTSTAT_CLASS, F.ICU_LOSTCNT, F.ICU_OVRw_SRC, F.ICU_PENDw_SRC, F.MOR_PARKCNT, F.QY_DRVSTAT_AUTH, F.QY_DRVSTAT_MODEDEN, F.QY_DRVSTAT_RAMP, F.QY_EYE_DEYE, F.QY_EYE_TEYE, F.QY_EYE_TPSEL, F.QY_LAUNCH_LAUNCH, F.QY_LAUNCH_TARGET, F.QY_LNKSTAT_DERRBURST, F.QY_LNKSTAT_DISCFAIL, F.QY_LNKSTAT_GENMIS, F.QY_LNKSTAT_LOSS, F.QY_LNKSTAT_SAMPCLIP, F.QY_LNKSTAT_SKEWFAIL, F.QY_LNKSTAT_STATE, F.QY_LNKSTAT_TGEN, F.QY_LNKSTAT_TLOCK, F.QY_LNKSTAT_TRAINFAIL, F.QY_LNKSTAT_ULOCK, F.QY_LNKTIM_ULSLOT, F.QY_RTT_TIME, F.QY_TRAINCNT, F.QY_ULOSSCNT] = true) :
    State.seen xe (laneRows q s) = State.seen xe s := by
  simp only [Extent.covers, List.all_cons, List.all_nil, Bool.and_true, Bool.true_and, Bool.and_eq_true] at xh
  unfold laneRows
  simp [xh]

@[simp] theorem rngGo_seen (xe : Extent) (q : Nat) (s : State) (xh : xe.covers [.quays, .lanes] [F.QY_RNGSTAT_BADFRM, F.QY_RNGSTAT_NEXT, F.QY_RNGSTAT_PEND] = true) :
    State.seen xe (rngGo q s) = State.seen xe s := by
  simp only [Extent.covers, List.all_cons, List.all_nil, Bool.and_true, Bool.true_and, Bool.and_eq_true] at xh
  unfold rngGo
  simp [xh]

@[simp] theorem rngDrop_seen (xe : Extent) (q : Nat) (s : State) (xh : xe.covers [.quays, .lanes] [F.QY_RNGSTAT_CANCELLED, F.QY_RNGSTAT_PEND] = true) :
    State.seen xe (rngDrop q s) = State.seen xe s := by
  simp only [Extent.covers, List.all_cons, List.all_nil, Bool.and_true, Bool.true_and, Bool.and_eq_true] at xh
  unfold rngDrop
  repeat' first
    | (extract_lets +onlyGivenNames x; refine have hx : State.seen xe x = State.seen xe s := ?_; ?_; (on_goal 1 => unfold x); (on_goal 2 => clear_value x))
    | (extract_lets +onlyGivenNames x; refine have hx : State.seen xe x.2 = State.seen xe s := ?_; ?_; (on_goal 1 => unfold x); (on_goal 2 => clear_value x))
    | (extract_lets +onlyGivenNames x; refine have hx : State.seen xe x.2.2 = State.seen xe s := ?_; ?_; (on_goal 1 => unfold x); (on_goal 2 => clear_value x))
    | (extract_lets +onlyGivenNames x; clear_value x)
    | (simp [*]; done)
    | (refine (foldl_seen xe _ _ _ ?_).trans ?_; (on_goal 1 => intro s a))
    | (refine (State.when_seen xe _ _ _ ?_).trans ?_; (on_goal 1 => intro s))
    | split
    | (simp_all; done)

@[simp] theorem rngCancel_seen (xe : Extent) (q : Nat) (s : State) (xh : xe.covers [.quays, .lanes] [F.QY_RNGSTAT_CANCELLED, F.QY_RNGSTAT_PEND] = true) :
    State.seen xe (rngCancel q s) = State.seen xe s := by
  simp only [Extent.covers, List.all_cons, List.all_nil, Bool.and_true, Bool.true_and, Bool.and_eq_true] at xh
  unfold rngCancel
  repeat' first
    | (extract_lets +onlyGivenNames x; refine have hx : State.seen xe x = State.seen xe s := ?_; ?_; (on_goal 1 => unfold x); (on_goal 2 => clear_value x))
    | (extract_lets +onlyGivenNames x; refine have hx : State.seen xe x.2 = State.seen xe s := ?_; ?_; (on_goal 1 => unfold x); (on_goal 2 => clear_value x))
    | (extract_lets +onlyGivenNames x; refine have hx : State.seen xe x.2.2 = State.seen xe s := ?_; ?_; (on_goal 1 => unfold x); (on_goal 2 => clear_value x))
    | (extract_lets +onlyGivenNames x; clear_value x)
    | (simp [*]; done)
    | (refine (foldl_seen xe _ _ _ ?_).trans ?_; (on_goal 1 => intro s a))
    | (refine (State.when_seen xe _ _ _ ?_).trans ?_; (on_goal 1 => intro s))
    | split
    | (simp_all; done)

@[simp] theorem rngNoack_seen (xe : Extent) (q : Nat) (s : State) (xh : xe.covers [.quays, .lanes] [F.QY_RNGSTAT_CANCELLED, F.QY_RNGSTAT_NOACK, F.QY_RNGSTAT_PEND] = true) :
    State.seen xe (rngNoack q s) = State.seen xe s := by
  simp only [Extent.covers, List.all_cons, List.all_nil, Bool.and_true, Bool.true_and, Bool.and_eq_true] at xh
  unfold rngNoack
  repeat' first
    | (extract_lets +onlyGivenNames x; refine have hx : State.seen xe x = State.seen xe s := ?_; ?_; (on_goal 1 => unfold x); (on_goal 2 => clear_value x))
    | (extract_lets +onlyGivenNames x; refine have hx : State.seen xe x.2 = State.seen xe s := ?_; ?_; (on_goal 1 => unfold x); (on_goal 2 => clear_value x))
    | (extract_lets +onlyGivenNames x; refine have hx : State.seen xe x.2.2 = State.seen xe s := ?_; ?_; (on_goal 1 => unfold x); (on_goal 2 => clear_value x))
    | (extract_lets +onlyGivenNames x; clear_value x)
    | (simp [*]; done)
    | (refine (foldl_seen xe _ _ _ ?_).trans ?_; (on_goal 1 => intro s a))
    | (refine (State.when_seen xe _ _ _ ?_).trans ?_; (on_goal 1 => intro s))
    | split
    | (simp_all; done)

@[simp] theorem rngApply_seen (xe : Extent) (q : Nat) (s : State) (xh : xe.covers [.quays] [F.QY_RNGSTAT_CUR, F.QY_RNGSTAT_DONE, F.QY_RNGSTAT_PEND] = true) :
    State.seen xe (rngApply q s) = State.seen xe s := by
  simp only [Extent.covers, List.all_cons, List.all_nil, Bool.and_true, Bool.true_and, Bool.and_eq_true] at xh
  unfold rngApply
  repeat' first
    | (extract_lets +onlyGivenNames x; refine have hx : State.seen xe x = State.seen xe s := ?_; ?_; (on_goal 1 => unfold x); (on_goal 2 => clear_value x))
    | (extract_lets +onlyGivenNames x; refine have hx : State.seen xe x.2 = State.seen xe s := ?_; ?_; (on_goal 1 => unfold x); (on_goal 2 => clear_value x))
    | (extract_lets +onlyGivenNames x; refine have hx : State.seen xe x.2.2 = State.seen xe s := ?_; ?_; (on_goal 1 => unfold x); (on_goal 2 => clear_value x))
    | (extract_lets +onlyGivenNames x; clear_value x)
    | (simp [*]; done)
    | (refine (foldl_seen xe _ _ _ ?_).trans ?_; (on_goal 1 => intro s a))
    | (refine (State.when_seen xe _ _ _ ?_).trans ?_; (on_goal 1 => intro s))
    | split
    | (simp_all; done)

@[simp] theorem writeBank_seen (xe : Extent) (q b : Nat) (s : State) (xh : xe.covers [.lanes] [F.QY_LNKSTAT_SAMPCLIP, F.QY_TSASGj_SET0, F.QY_TSASGj_SET1, F.QY_TSASGj_SET2, F.QY_TSASGj_SET3, F.QY_TSASGj_SET4, F.QY_TSASGj_SET5, F.QY_TSASGj_SET6, F.QY_TSASGj_SET7] = true) :
    State.seen xe (writeBank q b s) = State.seen xe s := by
  simp only [Extent.covers, List.all_cons, List.all_nil, Bool.and_true, Bool.true_and, Bool.and_eq_true] at xh
  unfold writeBank
  simp [xh]

@[simp] theorem tsGo_seen (xe : Extent) (q : Nat) (s : State) (xh : xe.covers [.quays, .lanes] [F.QY_LNKSTAT_SAMPCLIP, F.QY_TSASGj_SET0, F.QY_TSASGj_SET1, F.QY_TSASGj_SET2, F.QY_TSASGj_SET3, F.QY_TSASGj_SET4, F.QY_TSASGj_SET5, F.QY_TSASGj_SET6, F.QY_TSASGj_SET7, F.QY_TSSTAT_BADFRM, F.QY_TSSTAT_PEND, F.QY_TSSTAT_PLAN] = true) :
    State.seen xe (tsGo q s) = State.seen xe s := by
  simp only [Extent.covers, List.all_cons, List.all_nil, Bool.and_true, Bool.true_and, Bool.and_eq_true] at xh
  unfold tsGo
  simp [xh]

@[simp] theorem tsDrop_seen (xe : Extent) (q : Nat) (s : State) (xh : xe.covers [.quays, .lanes] [F.QY_TSSTAT_CANCELLED, F.QY_TSSTAT_PEND] = true) :
    State.seen xe (tsDrop q s) = State.seen xe s := by
  simp only [Extent.covers, List.all_cons, List.all_nil, Bool.and_true, Bool.true_and, Bool.and_eq_true] at xh
  unfold tsDrop
  repeat' first
    | (extract_lets +onlyGivenNames x; refine have hx : State.seen xe x = State.seen xe s := ?_; ?_; (on_goal 1 => unfold x); (on_goal 2 => clear_value x))
    | (extract_lets +onlyGivenNames x; refine have hx : State.seen xe x.2 = State.seen xe s := ?_; ?_; (on_goal 1 => unfold x); (on_goal 2 => clear_value x))
    | (extract_lets +onlyGivenNames x; refine have hx : State.seen xe x.2.2 = State.seen xe s := ?_; ?_; (on_goal 1 => unfold x); (on_goal 2 => clear_value x))
    | (extract_lets +onlyGivenNames x; clear_value x)
    | (simp [*]; done)
    | (refine (foldl_seen xe _ _ _ ?_).trans ?_; (on_goal 1 => intro s a))
    | (refine (State.when_seen xe _ _ _ ?_).trans ?_; (on_goal 1 => intro s))
    | split
    | (simp_all; done)

@[simp] theorem tsCancel_seen (xe : Extent) (q : Nat) (s : State) (xh : xe.covers [.quays, .lanes] [F.QY_TSSTAT_CANCELLED, F.QY_TSSTAT_PEND] = true) :
    State.seen xe (tsCancel q s) = State.seen xe s := by
  simp only [Extent.covers, List.all_cons, List.all_nil, Bool.and_true, Bool.true_and, Bool.and_eq_true] at xh
  unfold tsCancel
  repeat' first
    | (extract_lets +onlyGivenNames x; refine have hx : State.seen xe x = State.seen xe s := ?_; ?_; (on_goal 1 => unfold x); (on_goal 2 => clear_value x))
    | (extract_lets +onlyGivenNames x; refine have hx : State.seen xe x.2 = State.seen xe s := ?_; ?_; (on_goal 1 => unfold x); (on_goal 2 => clear_value x))
    | (extract_lets +onlyGivenNames x; refine have hx : State.seen xe x.2.2 = State.seen xe s := ?_; ?_; (on_goal 1 => unfold x); (on_goal 2 => clear_value x))
    | (extract_lets +onlyGivenNames x; clear_value x)
    | (simp [*]; done)
    | (refine (foldl_seen xe _ _ _ ?_).trans ?_; (on_goal 1 => intro s a))
    | (refine (State.when_seen xe _ _ _ ?_).trans ?_; (on_goal 1 => intro s))
    | split
    | (simp_all; done)

@[simp] theorem tsNoack_seen (xe : Extent) (q : Nat) (s : State) (xh : xe.covers [.quays, .lanes] [F.QY_TSSTAT_CANCELLED, F.QY_TSSTAT_NOACK, F.QY_TSSTAT_PEND] = true) :
    State.seen xe (tsNoack q s) = State.seen xe s := by
  simp only [Extent.covers, List.all_cons, List.all_nil, Bool.and_true, Bool.true_and, Bool.and_eq_true] at xh
  unfold tsNoack
  repeat' first
    | (extract_lets +onlyGivenNames x; refine have hx : State.seen xe x = State.seen xe s := ?_; ?_; (on_goal 1 => unfold x); (on_goal 2 => clear_value x))
    | (extract_lets +onlyGivenNames x; refine have hx : State.seen xe x.2 = State.seen xe s := ?_; ?_; (on_goal 1 => unfold x); (on_goal 2 => clear_value x))
    | (extract_lets +onlyGivenNames x; refine have hx : State.seen xe x.2.2 = State.seen xe s := ?_; ?_; (on_goal 1 => unfold x); (on_goal 2 => clear_value x))
    | (extract_lets +onlyGivenNames x; clear_value x)
    | (simp [*]; done)
    | (refine (foldl_seen xe _ _ _ ?_).trans ?_; (on_goal 1 => intro s a))
    | (refine (State.when_seen xe _ _ _ ?_).trans ?_; (on_goal 1 => intro s))
    | split
    | (simp_all; done)

@[simp] theorem tsApply_seen (xe : Extent) (q : Nat) (s : State) (xh : xe.covers [.quays, .lanes] [F.QY_TSASGj_SET0, F.QY_TSASGj_SET1, F.QY_TSASGj_SET2, F.QY_TSASGj_SET3, F.QY_TSASGj_SET4, F.QY_TSASGj_SET5, F.QY_TSASGj_SET6, F.QY_TSASGj_SET7, F.QY_TSSTAT_DONE, F.QY_TSSTAT_PEND] = true) :
    State.seen xe (tsApply q s) = State.seen xe s := by
  simp only [Extent.covers, List.all_cons, List.all_nil, Bool.and_true, Bool.true_and, Bool.and_eq_true] at xh
  unfold tsApply
  repeat' first
    | (extract_lets +onlyGivenNames x; refine have hx : State.seen xe x = State.seen xe s := ?_; ?_; (on_goal 1 => unfold x); (on_goal 2 => clear_value x))
    | (extract_lets +onlyGivenNames x; refine have hx : State.seen xe x.2 = State.seen xe s := ?_; ?_; (on_goal 1 => unfold x); (on_goal 2 => clear_value x))
    | (extract_lets +onlyGivenNames x; refine have hx : State.seen xe x.2.2 = State.seen xe s := ?_; ?_; (on_goal 1 => unfold x); (on_goal 2 => clear_value x))
    | (extract_lets +onlyGivenNames x; clear_value x)
    | (simp [*]; done)
    | (refine (foldl_seen xe _ _ _ ?_).trans ?_; (on_goal 1 => intro s a))
    | (refine (State.when_seen xe _ _ _ ?_).trans ?_; (on_goal 1 => intro s))
    | split
    | (simp_all; done)

@[simp] theorem dropChanges_seen (xe : Extent) (s : State) (xh : xe.covers [.quays, .lanes] [F.QY_RNGSTAT_CANCELLED, F.QY_RNGSTAT_PEND, F.QY_TSSTAT_CANCELLED, F.QY_TSSTAT_PEND] = true) :
    State.seen xe (dropChanges s) = State.seen xe s := by
  simp only [Extent.covers, List.all_cons, List.all_nil, Bool.and_true, Bool.true_and, Bool.and_eq_true] at xh
  unfold dropChanges
  simp [xh]

@[simp] theorem reqDone_seen (xe : Extent) (q status : Nat) (s : State) (xh : xe.covers [.lanes] [F.QY_TRSP_BUSY, F.QY_TRSP_DONE, F.QY_TRSP_STATUS] = true) :
    State.seen xe (reqDone q status s) = State.seen xe s := by
  simp only [Extent.covers, List.all_cons, List.all_nil, Bool.and_true, Bool.true_and, Bool.and_eq_true] at xh
  unfold reqDone
  simp [xh]

@[simp] theorem treqGo_seen (xe : Extent) (q : Nat) (s : State) (xh : xe.covers [.lanes] [F.QY_TRSP_BUSY, F.QY_TRSP_DONE, F.QY_TRSP_STATUS] = true) :
    State.seen xe (treqGo q s) = State.seen xe s := by
  simp only [Extent.covers, List.all_cons, List.all_nil, Bool.and_true, Bool.true_and, Bool.and_eq_true] at xh
  unfold treqGo
  simp [xh]

@[simp] theorem treqTimeout_seen (xe : Extent) (q : Nat) (s : State) (xh : xe.covers [.lanes] [F.QY_TRSP_BUSY, F.QY_TRSP_DONE, F.QY_TRSP_STATUS] = true) :
    State.seen xe (treqTimeout q s) = State.seen xe s := by
  simp only [Extent.covers, List.all_cons, List.all_nil, Bool.and_true, Bool.true_and, Bool.and_eq_true] at xh
  unfold treqTimeout
  repeat' first
    | (extract_lets +onlyGivenNames x; refine have hx : State.seen xe x = State.seen xe s := ?_; ?_; (on_goal 1 => unfold x); (on_goal 2 => clear_value x))
    | (extract_lets +onlyGivenNames x; refine have hx : State.seen xe x.2 = State.seen xe s := ?_; ?_; (on_goal 1 => unfold x); (on_goal 2 => clear_value x))
    | (extract_lets +onlyGivenNames x; refine have hx : State.seen xe x.2.2 = State.seen xe s := ?_; ?_; (on_goal 1 => unfold x); (on_goal 2 => clear_value x))
    | (extract_lets +onlyGivenNames x; clear_value x)
    | (simp [*]; done)
    | (refine (foldl_seen xe _ _ _ ?_).trans ?_; (on_goal 1 => intro s a))
    | (refine (State.when_seen xe _ _ _ ?_).trans ?_; (on_goal 1 => intro s))
    | split
    | (simp_all; done)

@[simp] theorem rdRsp_seen (xe : Extent) (q tag status : Nat) (ws : List Nat) (s : State) (xh : xe.covers [.lanes] [F.QY_LNKSTAT_NEWTILE, F.QY_LNKSTAT_SAMPCLIP, F.QY_LNKSTAT_TGEN, F.QY_LNKSTAT_THREE, F.QY_TDATA_DATA, F.QY_TILEID_SERIAL, F.QY_TLAT_TRXLAT, F.QY_TLAT_TTXLAT, F.QY_TRSP_BUSY, F.QY_TRSP_DONE, F.QY_TRSP_STATUS] = true) :
    State.seen xe (rdRsp q tag status ws s) = State.seen xe s := by
  simp only [Extent.covers, List.all_cons, List.all_nil, Bool.and_true, Bool.true_and, Bool.and_eq_true] at xh
  unfold rdRsp
  simp [xh]

@[simp] theorem wrRsp_seen (xe : Extent) (q tag status : Nat) (s : State) (xh : xe.covers [.lanes] [F.QY_TRSP_BUSY, F.QY_TRSP_DONE, F.QY_TRSP_STATUS] = true) :
    State.seen xe (wrRsp q tag status s) = State.seen xe s := by
  simp only [Extent.covers, List.all_cons, List.all_nil, Bool.and_true, Bool.true_and, Bool.and_eq_true] at xh
  unfold wrRsp
  simp [xh]

@[simp] theorem annAck_seen (xe : Extent) (q status kind fnum : Nat) (s : State) (xh : xe.covers [.quays, .lanes] [F.QY_RNGSTAT_CANCELLED, F.QY_RNGSTAT_NOACK, F.QY_RNGSTAT_PEND, F.QY_TSSTAT_CANCELLED, F.QY_TSSTAT_NOACK, F.QY_TSSTAT_PEND] = true) :
    State.seen xe (annAck q status kind fnum s) = State.seen xe s := by
  simp only [Extent.covers, List.all_cons, List.all_nil, Bool.and_true, Bool.true_and, Bool.and_eq_true] at xh
  unfold annAck
  repeat' first
    | (extract_lets +onlyGivenNames x; refine have hx : State.seen xe x = State.seen xe s := ?_; ?_; (on_goal 1 => unfold x); (on_goal 2 => clear_value x))
    | (extract_lets +onlyGivenNames x; refine have hx : State.seen xe x.2 = State.seen xe s := ?_; ?_; (on_goal 1 => unfold x); (on_goal 2 => clear_value x))
    | (extract_lets +onlyGivenNames x; refine have hx : State.seen xe x.2.2 = State.seen xe s := ?_; ?_; (on_goal 1 => unfold x); (on_goal 2 => clear_value x))
    | (extract_lets +onlyGivenNames x; clear_value x)
    | (simp [*]; done)
    | (refine (foldl_seen xe _ _ _ ?_).trans ?_; (on_goal 1 => intro s a))
    | (refine (State.when_seen xe _ _ _ ?_).trans ?_; (on_goal 1 => intro s))
    | split
    | (simp_all; done)

@[simp] theorem errRsp_seen (xe : Extent) (q tag status : Nat) (s : State) (xh : xe.covers [.lanes] [F.QY_TRSP_BUSY, F.QY_TRSP_DONE, F.QY_TRSP_STATUS] = true) :
    State.seen xe (errRsp q tag status s) = State.seen xe s := by
  simp only [Extent.covers, List.all_cons, List.all_nil, Bool.and_true, Bool.true_and, Bool.and_eq_true] at xh
  unfold errRsp
  simp [xh]

@[simp] theorem tileEvent_seen (xe : Extent) (q code output fnum : Nat) (lost : Bool) (s : State) (xh : xe.covers [.seqs, .log, .fab, .port] [F.DBG_FLTSTAT_CLASS, F.ICU_LOSTCNT, F.ICU_OVRw_SRC, F.ICU_PENDw_SRC, F.QY_TCHSTAT_COMPLYEV, F.QY_TCHSTAT_DUALAUTH, F.QY_TCHSTAT_EVLOST, F.QY_TCHSTAT_OPENEV, F.QY_TCHSTAT_OVERTEMP, F.QY_TEVCNT, F.QY_TEVLAST_CODE, F.QY_TEVLAST_FRAME, F.QY_TEVLAST_OUTPUT] = true) :
    State.seen xe (tileEvent q code output fnum lost s) = State.seen xe s := by
  simp only [Extent.covers, List.all_cons, List.all_nil, Bool.and_true, Bool.true_and, Bool.and_eq_true] at xh
  unfold tileEvent
  repeat' first
    | (extract_lets +onlyGivenNames x; refine have hx : State.seen xe x = State.seen xe s := ?_; ?_; (on_goal 1 => unfold x); (on_goal 2 => clear_value x))
    | (extract_lets +onlyGivenNames x; refine have hx : State.seen xe x.2 = State.seen xe s := ?_; ?_; (on_goal 1 => unfold x); (on_goal 2 => clear_value x))
    | (extract_lets +onlyGivenNames x; refine have hx : State.seen xe x.2.2 = State.seen xe s := ?_; ?_; (on_goal 1 => unfold x); (on_goal 2 => clear_value x))
    | (extract_lets +onlyGivenNames x; clear_value x)
    | (simp [*]; done)
    | (refine (foldl_seen xe _ _ _ ?_).trans ?_; (on_goal 1 => intro s a))
    | (refine (State.when_seen xe _ _ _ ?_).trans ?_; (on_goal 1 => intro s))
    | split
    | (simp_all; done)

@[simp] theorem deviceMsg_seen (xe : Extent) (q : Nat) (m : TMsg) (s : State) (xh : xe.covers [.seqs, .log, .fab, .quays, .lanes, .port] [F.DBG_FLTSTAT_CLASS, F.ICU_LOSTCNT, F.ICU_OVRw_SRC, F.ICU_PENDw_SRC, F.QY_LNKSTAT_NEWTILE, F.QY_LNKSTAT_SAMPCLIP, F.QY_LNKSTAT_TGEN, F.QY_LNKSTAT_THREE, F.QY_RNGSTAT_CANCELLED, F.QY_RNGSTAT_NOACK, F.QY_RNGSTAT_PEND, F.QY_TCHSTAT_COMPLYEV, F.QY_TCHSTAT_DUALAUTH, F.QY_TCHSTAT_EVLOST, F.QY_TCHSTAT_OPENEV, F.QY_TCHSTAT_OVERTEMP, F.QY_TDATA_DATA, F.QY_TEVCNT, F.QY_TEVLAST_CODE, F.QY_TEVLAST_FRAME, F.QY_TEVLAST_OUTPUT, F.QY_TILEID_SERIAL, F.QY_TLAT_TRXLAT, F.QY_TLAT_TTXLAT, F.QY_TMALF, F.QY_TRSP_BUSY, F.QY_TRSP_DONE, F.QY_TRSP_STATUS, F.QY_TSSTAT_CANCELLED, F.QY_TSSTAT_NOACK, F.QY_TSSTAT_PEND] = true) :
    State.seen xe (deviceMsg q m s) = State.seen xe s := by
  simp only [Extent.covers, List.all_cons, List.all_nil, Bool.and_true, Bool.true_and, Bool.and_eq_true] at xh
  unfold deviceMsg
  repeat' first
    | (extract_lets +onlyGivenNames x; refine have hx : State.seen xe x = State.seen xe s := ?_; ?_; (on_goal 1 => unfold x); (on_goal 2 => clear_value x))
    | (extract_lets +onlyGivenNames x; refine have hx : State.seen xe x.2 = State.seen xe s := ?_; ?_; (on_goal 1 => unfold x); (on_goal 2 => clear_value x))
    | (extract_lets +onlyGivenNames x; refine have hx : State.seen xe x.2.2 = State.seen xe s := ?_; ?_; (on_goal 1 => unfold x); (on_goal 2 => clear_value x))
    | (extract_lets +onlyGivenNames x; clear_value x)
    | (simp [*]; done)
    | (refine (foldl_seen xe _ _ _ ?_).trans ?_; (on_goal 1 => intro s a))
    | (refine (State.when_seen xe _ _ _ ?_).trans ?_; (on_goal 1 => intro s))
    | split
    | (simp_all; done)

@[simp] theorem actOn_seen (xe : Extent) (q : Nat) (kind : TMsg → Bool) (s : State) (xh : xe.covers [.seqs, .log, .fab, .quays, .lanes, .port] [F.DBG_FLTSTAT_CLASS, F.ICU_LOSTCNT, F.ICU_OVRw_SRC, F.ICU_PENDw_SRC, F.QY_LNKSTAT_NEWTILE, F.QY_LNKSTAT_SAMPCLIP, F.QY_LNKSTAT_TGEN, F.QY_LNKSTAT_THREE, F.QY_RNGSTAT_CANCELLED, F.QY_RNGSTAT_NOACK, F.QY_RNGSTAT_PEND, F.QY_TCHSTAT_COMPLYEV, F.QY_TCHSTAT_DUALAUTH, F.QY_TCHSTAT_EVLOST, F.QY_TCHSTAT_OPENEV, F.QY_TCHSTAT_OVERTEMP, F.QY_TDATA_DATA, F.QY_TEVCNT, F.QY_TEVLAST_CODE, F.QY_TEVLAST_FRAME, F.QY_TEVLAST_OUTPUT, F.QY_TILEID_SERIAL, F.QY_TLAT_TRXLAT, F.QY_TLAT_TTXLAT, F.QY_TMALF, F.QY_TRSP_BUSY, F.QY_TRSP_DONE, F.QY_TRSP_STATUS, F.QY_TSSTAT_CANCELLED, F.QY_TSSTAT_NOACK, F.QY_TSSTAT_PEND] = true) :
    State.seen xe (actOn q kind s) = State.seen xe s := by
  simp only [Extent.covers, List.all_cons, List.all_nil, Bool.and_true, Bool.true_and, Bool.and_eq_true] at xh
  unfold actOn
  repeat' first
    | (extract_lets +onlyGivenNames x; refine have hx : State.seen xe x = State.seen xe s := ?_; ?_; (on_goal 1 => unfold x); (on_goal 2 => clear_value x))
    | (extract_lets +onlyGivenNames x; refine have hx : State.seen xe x.2 = State.seen xe s := ?_; ?_; (on_goal 1 => unfold x); (on_goal 2 => clear_value x))
    | (extract_lets +onlyGivenNames x; refine have hx : State.seen xe x.2.2 = State.seen xe s := ?_; ?_; (on_goal 1 => unfold x); (on_goal 2 => clear_value x))
    | (extract_lets +onlyGivenNames x; clear_value x)
    | (simp [*]; done)
    | (refine (foldl_seen xe _ _ _ ?_).trans ?_; (on_goal 1 => intro s a))
    | (refine (State.when_seen xe _ _ _ ?_).trans ?_; (on_goal 1 => intro s))
    | split
    | (simp_all; done)

@[simp] theorem chanTimeout_seen (xe : Extent) (q : Nat) (s : State) (xh : xe.covers [.lanes] [] = true) :
    State.seen xe (chanTimeout q s) = State.seen xe s := by
  simp only [Extent.covers, List.all_cons, List.all_nil, Bool.and_true, Bool.true_and, Bool.and_eq_true] at xh
  unfold chanTimeout
  simp [xh]

@[simp] theorem failRequests_seen (xe : Extent) (q : Nat) (s : State) (xh : xe.covers [.quays, .lanes] [F.QY_RNGSTAT_CANCELLED, F.QY_RNGSTAT_NOACK, F.QY_RNGSTAT_PEND, F.QY_TRSP_BUSY, F.QY_TRSP_DONE, F.QY_TRSP_STATUS, F.QY_TSSTAT_CANCELLED, F.QY_TSSTAT_NOACK, F.QY_TSSTAT_PEND] = true) :
    State.seen xe (failRequests q s) = State.seen xe s := by
  simp only [Extent.covers, List.all_cons, List.all_nil, Bool.and_true, Bool.true_and, Bool.and_eq_true] at xh
  unfold failRequests
  repeat' first
    | (extract_lets +onlyGivenNames x; refine have hx : State.seen xe x = State.seen xe s := ?_; ?_; (on_goal 1 => unfold x); (on_goal 2 => clear_value x))
    | (extract_lets +onlyGivenNames x; refine have hx : State.seen xe x.2 = State.seen xe s := ?_; ?_; (on_goal 1 => unfold x); (on_goal 2 => clear_value x))
    | (extract_lets +onlyGivenNames x; refine have hx : State.seen xe x.2.2 = State.seen xe s := ?_; ?_; (on_goal 1 => unfold x); (on_goal 2 => clear_value x))
    | (extract_lets +onlyGivenNames x; clear_value x)
    | (simp [*]; done)
    | (refine (foldl_seen xe _ _ _ ?_).trans ?_; (on_goal 1 => intro s a))
    | (refine (State.when_seen xe _ _ _ ?_).trans ?_; (on_goal 1 => intro s))
    | split
    | (simp_all; done)

@[simp] theorem chanFail_seen (xe : Extent) (q : Nat) (s : State) (xh : xe.covers [.seqs, .log, .quays, .lanes, .port] [F.DBG_FLTSTAT_CLASS, F.ICU_LOSTCNT, F.ICU_OVRw_SRC, F.ICU_PENDw_SRC, F.QY_RNGSTAT_CANCELLED, F.QY_RNGSTAT_NOACK, F.QY_RNGSTAT_PEND, F.QY_TCHFAIL, F.QY_TCHSTAT_FAIL, F.QY_TRSP_BUSY, F.QY_TRSP_DONE, F.QY_TRSP_STATUS, F.QY_TSSTAT_CANCELLED, F.QY_TSSTAT_NOACK, F.QY_TSSTAT_PEND] = true) :
    State.seen xe (chanFail q s) = State.seen xe s := by
  simp only [Extent.covers, List.all_cons, List.all_nil, Bool.and_true, Bool.true_and, Bool.and_eq_true] at xh
  unfold chanFail
  simp [xh]

@[simp] theorem chanResetDone_seen (xe : Extent) (q : Nat) (s : State) (xh : xe.covers [.lanes] [] = true) :
    State.seen xe (chanResetDone q s) = State.seen xe s := by
  simp only [Extent.covers, List.all_cons, List.all_nil, Bool.and_true, Bool.true_and, Bool.and_eq_true] at xh
  unfold chanResetDone
  simp [xh]

@[simp] theorem qyTchStatclr_seen (xe : Extent) (q : Nat) (s : State) (xh : xe.covers [] [F.QY_TCHFAIL, F.QY_TEVCNT, F.QY_TMALF, F.QY_TRETX] = true) :
    State.seen xe (qyTchStatclr q s) = State.seen xe s := by
  simp only [Extent.covers, List.all_cons, List.all_nil, Bool.and_true, Bool.true_and, Bool.and_eq_true] at xh
  unfold qyTchStatclr
  refine foldl_mem_seen xe _ _ _ ?_
  intro f hf s
  simp only [List.mem_cons, List.not_mem_nil, or_false] at hf
  rcases hf with rfl | rfl | rfl | rfl <;> simp [xh]

@[simp] theorem actAll_seen (xe : Extent) (q n : Nat) (s : State) (xh : xe.covers [.seqs, .log, .fab, .quays, .lanes, .port] [F.DBG_FLTSTAT_CLASS, F.ICU_LOSTCNT, F.ICU_OVRw_SRC, F.ICU_PENDw_SRC, F.QY_LNKSTAT_NEWTILE, F.QY_LNKSTAT_SAMPCLIP, F.QY_LNKSTAT_TGEN, F.QY_LNKSTAT_THREE, F.QY_RNGSTAT_CANCELLED, F.QY_RNGSTAT_NOACK, F.QY_RNGSTAT_PEND, F.QY_TCHSTAT_COMPLYEV, F.QY_TCHSTAT_DUALAUTH, F.QY_TCHSTAT_EVLOST, F.QY_TCHSTAT_OPENEV, F.QY_TCHSTAT_OVERTEMP, F.QY_TDATA_DATA, F.QY_TEVCNT, F.QY_TEVLAST_CODE, F.QY_TEVLAST_FRAME, F.QY_TEVLAST_OUTPUT, F.QY_TILEID_SERIAL, F.QY_TLAT_TRXLAT, F.QY_TLAT_TTXLAT, F.QY_TMALF, F.QY_TRSP_BUSY, F.QY_TRSP_DONE, F.QY_TRSP_STATUS, F.QY_TSSTAT_CANCELLED, F.QY_TSSTAT_NOACK, F.QY_TSSTAT_PEND] = true) :
    State.seen xe (actAll q n s) = State.seen xe s := by
  simp only [Extent.covers, List.all_cons, List.all_nil, Bool.and_true, Bool.true_and, Bool.and_eq_true] at xh
  induction n generalizing s with
  | zero => rfl
  | succ n ih => unfold actAll; rw [ih]; simp [xh]

@[simp] theorem chanRows_seen (xe : Extent) (q : Nat) (s : State) (xh : xe.covers [.seqs, .log, .fab, .quays, .lanes, .port] [] = true) (xha : xe.all = true) :
    State.seen xe (chanRows q s) = State.seen xe s := by
  simp only [Extent.covers, List.all_cons, List.all_nil, Bool.and_true, Bool.true_and, Bool.and_eq_true] at xh
  have xhr : ∀ f, xe.r f = true := fun f => xe.r_of_all f xha
  unfold chanRows
  simp [xh, xha, xhr]

@[simp] theorem State.modTile_seen (xe : Extent) (s : State) (q : Nat) (f : TileSt → TileSt) (xh : xe.covers [.tiles] [] = true) :
    State.seen xe (State.modTile s q f) = State.seen xe s := by
  simp only [Extent.covers, List.all_cons, List.all_nil, Bool.and_true, Bool.true_and, Bool.and_eq_true] at xh
  unfold State.modTile
  simp [xh]

@[simp] theorem tileLock_seen (xe : Extent) (q p : Nat) (locked : Bool) (who : Option TileId) (s : State) (xh : xe.covers [.fresh, .tiles] [] = true) :
    State.seen xe (tileLock q p locked who s) = State.seen xe s := by
  simp only [Extent.covers, List.all_cons, List.all_nil, Bool.and_true, Bool.true_and, Bool.and_eq_true] at xh
  unfold tileLock
  simp [xh]

@[simp] theorem tileFrame_seen (xe : Extent) (q p : Nat) (f : Option DFrame) (syncErr : Nat) (s : State) (xh : xe.covers [.tiles] [] = true) :
    State.seen xe (tileFrame q p f syncErr s) = State.seen xe s := by
  simp only [Extent.covers, List.all_cons, List.all_nil, Bool.and_true, Bool.true_and, Bool.and_eq_true] at xh
  unfold tileFrame
  simp [xh]

@[simp] theorem readLatch_seen (xe : Extent) (d : RegDesc) (i c : Nat) (s : State) (xh : xe.covers [.rdata] [F.NET_TXTSF_VALUE, F.SCH_QBALHI_BAL, F.SCH_QFTHI_FT, F.SCH_VTHI_VT, F.TIM_TBnFRAC_VALUE, F.TIM_TBnWRAP_VALUE] = true) :
    State.seen xe (readLatch d i c s) = State.seen xe s := by
  simp only [Extent.covers, List.all_cons, List.all_nil, Bool.and_true, Bool.true_and, Bool.and_eq_true] at xh
  unfold readLatch
  simp [xh]

@[simp] theorem regRead_seen (xe : Extent) (a c : Nat) (s : State) (xh : xe.covers [.rdata] [F.NET_TXTSF_VALUE, F.SCH_QBALHI_BAL, F.SCH_QFTHI_FT, F.SCH_VTHI_VT, F.TIM_TBnFRAC_VALUE, F.TIM_TBnWRAP_VALUE] = true) :
    State.seen xe (regRead a c s).2 = State.seen xe s := by
  simp only [Extent.covers, List.all_cons, List.all_nil, Bool.and_true, Bool.true_and, Bool.and_eq_true] at xh
  unfold regRead
  repeat' first
    | (extract_lets +onlyGivenNames x; refine have hx : State.seen xe x = State.seen xe s := ?_; ?_; (on_goal 1 => unfold x); (on_goal 2 => clear_value x))
    | (extract_lets +onlyGivenNames x; refine have hx : State.seen xe x.2 = State.seen xe s := ?_; ?_; (on_goal 1 => unfold x); (on_goal 2 => clear_value x))
    | (extract_lets +onlyGivenNames x; refine have hx : State.seen xe x.2.2 = State.seen xe s := ?_; ?_; (on_goal 1 => unfold x); (on_goal 2 => clear_value x))
    | (extract_lets +onlyGivenNames x; clear_value x)
    | (simp [*]; done)
    | (refine (foldl_seen xe _ _ _ ?_).trans ?_; (on_goal 1 => intro s a))
    | (refine (State.when_seen xe _ _ _ ?_).trans ?_; (on_goal 1 => intro s))
    | split
    | (simp_all; done)

end Sys2Proof.Machine
end

