-- ==== Sys2Proof/Laws/SeenPeer.lean ====
section
/-! SUPPORT. What Penvar and what the mirror sends leave unseen outside the extents they are given (Laws/Seen.lean). -/
namespace Sys2Proof.Machine
set_option linter.all false

@[simp] theorem State.modMir_seen (xe : Extent) (s : State) (f : MirSt → MirSt) (xh : xe.covers [.mir] [] = true) :
    State.seen xe (State.modMir s f) = State.seen xe s := by
  simp only [Extent.covers, List.all_cons, List.all_nil, Bool.and_true, Bool.true_and, Bool.and_eq_true] at xh
  unfold State.modMir
  simp [xh]

@[simp] theorem ackedPush_seen (xe : Extent) (m : MMsg) (s : State) (xh : xe.covers [.mir] [] = true) :
    State.seen xe (ackedPush m s).2 = State.seen xe s := by
  simp only [Extent.covers, List.all_cons, List.all_nil, Bool.and_true, Bool.true_and, Bool.and_eq_true] at xh
  unfold ackedPush
  simp [xh]

@[simp] theorem epochPush_seen (xe : Extent) (m : MMsg) (s : State) (xh : xe.covers [.mir] [] = true) :
    State.seen xe (epochPush m s) = State.seen xe s := by
  simp only [Extent.covers, List.all_cons, List.all_nil, Bool.and_true, Bool.true_and, Bool.and_eq_true] at xh
  unfold epochPush
  simp [xh]

@[simp] theorem State.modSess_seen (xe : Extent) (s : State) (i : Nat) (f : Sess → Sess) (xh : xe.covers [.pen] [] = true) :
    State.seen xe (State.modSess s i f) = State.seen xe s := by
  simp only [Extent.covers, List.all_cons, List.all_nil, Bool.and_true, Bool.true_and, Bool.and_eq_true] at xh
  unfold State.modSess
  simp [xh]

@[simp] theorem touchSess_seen (xe : Extent) (i : Nat) (f : Sess → Sess) (s : State) (xh : xe.covers [.pen] [] = true) :
    State.seen xe (touchSess i f s) = State.seen xe s := by
  simp only [Extent.covers, List.all_cons, List.all_nil, Bool.and_true, Bool.true_and, Bool.and_eq_true] at xh
  unfold touchSess
  simp [xh]

@[simp] theorem penSend_seen (xe : Extent) (d : PenOut) (s : State) (xh : xe.covers [.pen] [F.NET_TXDROP] = true) :
    State.seen xe (penSend d s) = State.seen xe s := by
  simp only [Extent.covers, List.all_cons, List.all_nil, Bool.and_true, Bool.true_and, Bool.and_eq_true] at xh
  unfold penSend
  simp [xh]

@[simp] theorem formMsg_seen (xe : Extent) (i typ flags status : Nat) (body : List Byte) (reqid rgen : Nat) (s : State) (xh : xe.covers [.pen] [] = true) :
    State.seen xe (formMsg i typ flags status body reqid rgen s).2 = State.seen xe s := by
  simp only [Extent.covers, List.all_cons, List.all_nil, Bool.and_true, Bool.true_and, Bool.and_eq_true] at xh
  unfold formMsg
  simp [xh]

@[simp] theorem sendMsg_seen (xe : Extent) (i : Nat) (m : List Byte) (s : State) (xh : xe.covers [.pen] [F.NET_TXDROP] = true) :
    State.seen xe (sendMsg i m s) = State.seen xe s := by
  simp only [Extent.covers, List.all_cons, List.all_nil, Bool.and_true, Bool.true_and, Bool.and_eq_true] at xh
  unfold sendMsg
  simp [xh]

@[simp] theorem answer_seen (xe : Extent) (m : PMsg) (a : Ans) (s : State) (xh : xe.covers [.pen] [F.NET_TXDROP] = true) :
    State.seen xe (answer m a s) = State.seen xe s := by
  simp only [Extent.covers, List.all_cons, List.all_nil, Bool.and_true, Bool.true_and, Bool.and_eq_true] at xh
  unfold answer
  simp [xh]

@[simp] theorem closeSess_seen (xe : Extent) (i : Nat) (byFirmware : Bool) (s : State) (xh : xe.covers [.seqs, .pen] [F.ICU_LOSTCNT, F.ICU_OVRw_SRC, F.ICU_PENDw_SRC] = true) :
    State.seen xe (closeSess i byFirmware s) = State.seen xe s := by
  simp only [Extent.covers, List.all_cons, List.all_nil, Bool.and_true, Bool.true_and, Bool.and_eq_true] at xh
  unfold closeSess
  simp [xh]

@[simp] theorem closeSpent_seen (xe : Extent) (i : Nat) (s : State) (xh : xe.covers [.seqs, .pen] [F.ICU_LOSTCNT, F.ICU_OVRw_SRC, F.ICU_PENDw_SRC] = true) :
    State.seen xe (closeSpent i s) = State.seen xe s := by
  simp only [Extent.covers, List.all_cons, List.all_nil, Bool.and_true, Bool.true_and, Bool.and_eq_true] at xh
  unfold closeSpent
  simp [xh]

@[simp] theorem noteAuth_seen (xe : Extent) (s : State) (xh : xe.covers [.pen] [] = true) :
    State.seen xe (noteAuth s) = State.seen xe s := by
  simp only [Extent.covers, List.all_cons, List.all_nil, Bool.and_true, Bool.true_and, Bool.and_eq_true] at xh
  unfold noteAuth
  simp [xh]

@[simp] theorem openReceive_seen (xe : Extent) (d : Dgram) (m : PMsg) (s : State) (xh : xe.covers [.seqs, .pen] [F.ICU_LOSTCNT, F.ICU_OVRw_SRC, F.ICU_PENDw_SRC, F.NET_TXDROP, F.PVE_AUTHCNT, F.PVE_MALFCNT, F.PVE_OPENDROP, F.PVE_OVLCNT, F.PVE_SBYDROP] = true) :
    State.seen xe (openReceive d m s) = State.seen xe s := by
  simp only [Extent.covers, List.all_cons, List.all_nil, Bool.and_true, Bool.true_and, Bool.and_eq_true] at xh
  unfold openReceive
  repeat' first
    | (extract_lets +onlyGivenNames x; refine have hx : State.seen xe x = State.seen xe s := ?_; ?_; (on_goal 1 => unfold x); (on_goal 2 => clear_value x))
    | (extract_lets +onlyGivenNames x; refine have hx : State.seen xe x.2 = State.seen xe s := ?_; ?_; (on_goal 1 => unfold x); (on_goal 2 => clear_value x))
    | (extract_lets +onlyGivenNames x; refine have hx : State.seen xe x.2.2 = State.seen xe s := ?_; ?_; (on_goal 1 => unfold x); (on_goal 2 => clear_value x))
    | (extract_lets +onlyGivenNames x; clear_value x)
    | (simp [*]; done)
    | (refine (foldl_seen xe _ _ _ ?_).trans ?_; (on_goal 1 => intro s a))
    | (refine (State.when_seen xe _ _ _ ?_).trans ?_; (on_goal 1 => intro s))
    | split
    | (simp_all; done)

@[simp] theorem scmdAccept_seen (xe : Extent) (s : State) (xh : xe.covers [.fresh, .pen] [F.NET_TXDROP, F.PVE_ACCCNT, F.PVE_STAT_CMDERR] = true) :
    State.seen xe (scmdAccept s) = State.seen xe s := by
  simp only [Extent.covers, List.all_cons, List.all_nil, Bool.and_true, Bool.true_and, Bool.and_eq_true] at xh
  unfold scmdAccept
  repeat' first
    | (extract_lets +onlyGivenNames x; refine have hx : State.seen xe x = State.seen xe s := ?_; ?_; (on_goal 1 => unfold x); (on_goal 2 => clear_value x))
    | (extract_lets +onlyGivenNames x; refine have hx : State.seen xe x.2 = State.seen xe s := ?_; ?_; (on_goal 1 => unfold x); (on_goal 2 => clear_value x))
    | (extract_lets +onlyGivenNames x; refine have hx : State.seen xe x.2.2 = State.seen xe s := ?_; ?_; (on_goal 1 => unfold x); (on_goal 2 => clear_value x))
    | (extract_lets +onlyGivenNames x; clear_value x)
    | (simp [*]; done)
    | (refine (foldl_seen xe _ _ _ ?_).trans ?_; (on_goal 1 => intro s a))
    | (refine (State.when_seen xe _ _ _ ?_).trans ?_; (on_goal 1 => intro s))
    | split
    | (simp_all; done)

@[simp] theorem scmdRefuse_seen (xe : Extent) (s : State) (xh : xe.covers [.pen] [F.NET_TXDROP, F.PVE_STAT_CMDERR] = true) :
    State.seen xe (scmdRefuse s) = State.seen xe s := by
  simp only [Extent.covers, List.all_cons, List.all_nil, Bool.and_true, Bool.true_and, Bool.and_eq_true] at xh
  unfold scmdRefuse
  repeat' first
    | (extract_lets +onlyGivenNames x; refine have hx : State.seen xe x = State.seen xe s := ?_; ?_; (on_goal 1 => unfold x); (on_goal 2 => clear_value x))
    | (extract_lets +onlyGivenNames x; refine have hx : State.seen xe x.2 = State.seen xe s := ?_; ?_; (on_goal 1 => unfold x); (on_goal 2 => clear_value x))
    | (extract_lets +onlyGivenNames x; refine have hx : State.seen xe x.2.2 = State.seen xe s := ?_; ?_; (on_goal 1 => unfold x); (on_goal 2 => clear_value x))
    | (extract_lets +onlyGivenNames x; clear_value x)
    | (simp [*]; done)
    | (refine (foldl_seen xe _ _ _ ?_).trans ?_; (on_goal 1 => intro s a))
    | (refine (State.when_seen xe _ _ _ ?_).trans ?_; (on_goal 1 => intro s))
    | split
    | (simp_all; done)

@[simp] theorem scmdClose_seen (xe : Extent) (s : State) (xh : xe.covers [.seqs, .pen] [F.ICU_LOSTCNT, F.ICU_OVRw_SRC, F.ICU_PENDw_SRC] = true) :
    State.seen xe (scmdClose s) = State.seen xe s := by
  simp only [Extent.covers, List.all_cons, List.all_nil, Bool.and_true, Bool.true_and, Bool.and_eq_true] at xh
  unfold scmdClose
  simp [xh]

@[simp] theorem halfTimeout_seen (xe : Extent) (i : Nat) (s : State) (xh : xe.covers [.seqs, .pen] [F.ICU_LOSTCNT, F.ICU_OVRw_SRC, F.ICU_PENDw_SRC] = true) :
    State.seen xe (halfTimeout i s) = State.seen xe s := by
  simp only [Extent.covers, List.all_cons, List.all_nil, Bool.and_true, Bool.true_and, Bool.and_eq_true] at xh
  unfold halfTimeout
  simp [xh]

@[simp] theorem idleTimeout_seen (xe : Extent) (i : Nat) (s : State) (xh : xe.covers [.seqs, .pen] [F.ICU_LOSTCNT, F.ICU_OVRw_SRC, F.ICU_PENDw_SRC] = true) :
    State.seen xe (idleTimeout i s) = State.seen xe s := by
  simp only [Extent.covers, List.all_cons, List.all_nil, Bool.and_true, Bool.true_and, Bool.and_eq_true] at xh
  unfold idleTimeout
  simp [xh]

@[simp] theorem pveStatclr_seen (xe : Extent) (s : State) (xh : xe.covers [.port] [F.PVE_ACCCNT, F.PVE_AUTHCNT, F.PVE_CONFCNT, F.PVE_DUPCNT, F.PVE_IPDROP, F.PVE_MALFCNT, F.PVE_OPENDROP, F.PVE_OVLCNT, F.PVE_REPLAYCNT, F.PVE_RETRYHIT, F.PVE_RXCNT, F.PVE_SBYDROP, F.PVE_STALECNT, F.PVE_STALEDROP, F.PVE_ZLENCNT] = true) :
    State.seen xe (pveStatclr s) = State.seen xe s := by
  simp only [Extent.covers, List.all_cons, List.all_nil, Bool.and_true, Bool.true_and, Bool.and_eq_true] at xh
  unfold pveStatclr
  simp [xh]

@[simp] theorem State.modEnt_seen (xe : Extent) (s : State) (i k : Nat) (f : CEntry → CEntry) (xh : xe.covers [.pen] [] = true) :
    State.seen xe (State.modEnt s i k f) = State.seen xe s := by
  simp only [Extent.covers, List.all_cons, List.all_nil, Bool.and_true, Bool.true_and, Bool.and_eq_true] at xh
  unfold State.modEnt
  simp [xh]

@[simp] theorem finishEntry_seen (xe : Extent) (i k : Nat) (s : State) (xh : xe.covers [.pen] [F.NET_TXDROP] = true) :
    State.seen xe (finishEntry i k s) = State.seen xe s := by
  simp only [Extent.covers, List.all_cons, List.all_nil, Bool.and_true, Bool.true_and, Bool.and_eq_true] at xh
  unfold finishEntry
  simp [xh]

@[simp] theorem complete_seen (xe : Extent) (i k typ reqid rgen : Nat) (obj : Option Install) (a : Ans) (s : State) (xh : xe.covers [.seqs, .pen, .mir] [F.ICU_LOSTCNT, F.ICU_OVRw_SRC, F.ICU_PENDw_SRC, F.NET_TXDROP] = true) :
    State.seen xe (complete i k typ reqid rgen obj a s) = State.seen xe s := by
  simp only [Extent.covers, List.all_cons, List.all_nil, Bool.and_true, Bool.true_and, Bool.and_eq_true] at xh
  unfold complete
  simp [xh]

@[simp] theorem releaseFlights_seen (xe : Extent) (acked : Nat → Bool) (s : State) (xh : xe.covers [.pen] [F.NET_TXDROP] = true) :
    State.seen xe (releaseFlights acked s) = State.seen xe s := by
  simp only [Extent.covers, List.all_cons, List.all_nil, Bool.and_true, Bool.true_and, Bool.and_eq_true] at xh
  unfold releaseFlights
  simp [xh]

@[simp] theorem setStage_seen (xe : Extent) (i h : Nat) (v : Option Stage) (s : State) (xh : xe.covers [.pen] [] = true) :
    State.seen xe (setStage i h v s) = State.seen xe s := by
  simp only [Extent.covers, List.all_cons, List.all_nil, Bool.and_true, Bool.true_and, Bool.and_eq_true] at xh
  unfold setStage
  simp [xh]

@[simp] theorem storeChunk_seen (xe : Extent) (i h off : Nat) (g : Stage) (data : List Byte) (s : State) (xh : xe.covers [.table, .fab, .pen] [] = true) :
    State.seen xe (storeChunk i h off g data s).2 = State.seen xe s := by
  simp only [Extent.covers, List.all_cons, List.all_nil, Bool.and_true, Bool.true_and, Bool.and_eq_true] at xh
  unfold storeChunk
  simp [xh]

@[simp] theorem doLoad_seen (xe : Extent) (i : Nat) (b : List Byte) (s : State) (xh : xe.covers [.table, .fab, .pen] [] = true) :
    State.seen xe (doLoad i b s).2 = State.seen xe s := by
  simp only [Extent.covers, List.all_cons, List.all_nil, Bool.and_true, Bool.true_and, Bool.and_eq_true] at xh
  unfold doLoad
  repeat' first
    | (extract_lets +onlyGivenNames x; refine have hx : State.seen xe x = State.seen xe s := ?_; ?_; (on_goal 1 => unfold x); (on_goal 2 => clear_value x))
    | (extract_lets +onlyGivenNames x; refine have hx : State.seen xe x.2 = State.seen xe s := ?_; ?_; (on_goal 1 => unfold x); (on_goal 2 => clear_value x))
    | (extract_lets +onlyGivenNames x; refine have hx : State.seen xe x.2.2 = State.seen xe s := ?_; ?_; (on_goal 1 => unfold x); (on_goal 2 => clear_value x))
    | (extract_lets +onlyGivenNames x; clear_value x)
    | (simp [*]; done)
    | (refine (foldl_seen xe _ _ _ ?_).trans ?_; (on_goal 1 => intro s a))
    | (refine (State.when_seen xe _ _ _ ?_).trans ?_; (on_goal 1 => intro s))
    | split
    | (simp_all; done)

@[simp] theorem doDiscard_seen (xe : Extent) (i : Nat) (b : List Byte) (s : State) (xh : xe.covers [.pen] [] = true) :
    State.seen xe (doDiscard i b s).2 = State.seen xe s := by
  simp only [Extent.covers, List.all_cons, List.all_nil, Bool.and_true, Bool.true_and, Bool.and_eq_true] at xh
  unfold doDiscard
  repeat' first
    | (extract_lets +onlyGivenNames x; refine have hx : State.seen xe x = State.seen xe s := ?_; ?_; (on_goal 1 => unfold x); (on_goal 2 => clear_value x))
    | (extract_lets +onlyGivenNames x; refine have hx : State.seen xe x.2 = State.seen xe s := ?_; ?_; (on_goal 1 => unfold x); (on_goal 2 => clear_value x))
    | (extract_lets +onlyGivenNames x; refine have hx : State.seen xe x.2.2 = State.seen xe s := ?_; ?_; (on_goal 1 => unfold x); (on_goal 2 => clear_value x))
    | (extract_lets +onlyGivenNames x; clear_value x)
    | (simp [*]; done)
    | (refine (foldl_seen xe _ _ _ ?_).trans ?_; (on_goal 1 => intro s a))
    | (refine (State.when_seen xe _ _ _ ?_).trans ?_; (on_goal 1 => intro s))
    | split
    | (simp_all; done)

@[simp] theorem pilotCommit_seen (xe : Extent) (p : List (Nat × Pilot)) (s : State) (xh : xe.covers [.fab] [F.PIL_APPLYF_FRAME, F.PIL_BADSLOT_SLOT, F.PIL_STAT_BUSY, F.PIL_STAT_REASON, F.PIL_STAT_REFUSED, F.PIL_STAT_WERR] = true) :
    State.seen xe (pilotCommit p s).2 = State.seen xe s := by
  simp only [Extent.covers, List.all_cons, List.all_nil, Bool.and_true, Bool.true_and, Bool.and_eq_true] at xh
  unfold pilotCommit
  repeat' first
    | (extract_lets +onlyGivenNames x; refine have hx : State.seen xe x = State.seen xe s := ?_; ?_; (on_goal 1 => unfold x); (on_goal 2 => clear_value x))
    | (extract_lets +onlyGivenNames x; refine have hx : State.seen xe x.2 = State.seen xe s := ?_; ?_; (on_goal 1 => unfold x); (on_goal 2 => clear_value x))
    | (extract_lets +onlyGivenNames x; refine have hx : State.seen xe x.2.2 = State.seen xe s := ?_; ?_; (on_goal 1 => unfold x); (on_goal 2 => clear_value x))
    | (extract_lets +onlyGivenNames x; clear_value x)
    | (simp [*]; done)
    | (refine (foldl_seen xe _ _ _ ?_).trans ?_; (on_goal 1 => intro s a))
    | (refine (State.when_seen xe _ _ _ ?_).trans ?_; (on_goal 1 => intro s))
    | split
    | (simp_all; done)

@[simp] theorem noteLoaded_seen (xe : Extent) (o : Obj) (bytes : List Byte) (s : State) (xh : xe.covers [.pen] [] = true) :
    State.seen xe (noteLoaded o bytes s) = State.seen xe s := by
  simp only [Extent.covers, List.all_cons, List.all_nil, Bool.and_true, Bool.true_and, Bool.and_eq_true] at xh
  unfold noteLoaded
  simp [xh]

theorem placeObj_seen (xe : Extent) (o : Obj) (bytes : List Byte) (s : State) (xh : xe.covers [.fresh, .table, .fab, .exec, .tide, .pen] [] = true) :
    ∀ t, (placeObj o bytes s) = some t → State.seen xe t = State.seen xe s := by
  simp only [Extent.covers, List.all_cons, List.all_nil, Bool.and_true, Bool.true_and, Bool.and_eq_true] at xh
  unfold placeObj
  intro t h
  split at h
  · obtain ⟨u, hu, rfl⟩ := Option.map_eq_some_iff.mp h
    have := placeManifest_seen xe _ _ _ (by simp [xh]) u hu
    simp [this, xh]
  · obtain ⟨u, hu, rfl⟩ := Option.map_eq_some_iff.mp h
    have := placeSegment_seen xe _ _ _ _ (by simp [xh]) u hu
    simp [this, xh]
  · cases h; simp [xh]
  · cases h; rfl
  · cases h; simp [xh]

@[simp] theorem placeObj_getD_seen (xe : Extent) (o : Obj) (bytes : List Byte) (s : State) (xh : xe.covers [.fresh, .table, .fab, .exec, .tide, .pen] [] = true) :
    State.seen xe ((placeObj o bytes s).getD s) = State.seen xe s := by
  simp only [Extent.covers, List.all_cons, List.all_nil, Bool.and_true, Bool.true_and, Bool.and_eq_true] at xh
  cases h : placeObj o bytes s with
  | none => rfl
  | some t => exact placeObj_seen xe o bytes s (by simp [xh]) t h

@[simp] theorem commitObj_seen (xe : Extent) (o : Obj) (bytes : List Byte) (s : State) (xh : xe.covers [.fresh, .table, .fab, .exec, .tide, .pen] [F.PIL_APPLYF_FRAME, F.PIL_BADSLOT_SLOT, F.PIL_STAT_BUSY, F.PIL_STAT_REASON, F.PIL_STAT_REFUSED, F.PIL_STAT_WERR] = true) :
    State.seen xe (commitObj o bytes s).2.2 = State.seen xe s := by
  simp only [Extent.covers, List.all_cons, List.all_nil, Bool.and_true, Bool.true_and, Bool.and_eq_true] at xh
  unfold commitObj
  split
  · extract_lets r
    split <;> simp [r, xh]
  · extract_lets at' force
    split
    · rfl
    · rename_i t ht
      have := placeObj_seen xe _ _ _ (by simp [xh]) t ht
      split <;> simp [this, xh]

@[simp] theorem runCommit_seen (xe : Extent) (c : Commit) (s : State) (xh : xe.covers [.fresh, .seqs, .table, .fab, .exec, .tide, .pen, .mir] [F.ICU_LOSTCNT, F.ICU_OVRw_SRC, F.ICU_PENDw_SRC, F.NET_TXDROP, F.PIL_APPLYF_FRAME, F.PIL_BADSLOT_SLOT, F.PIL_STAT_BUSY, F.PIL_STAT_REASON, F.PIL_STAT_REFUSED, F.PIL_STAT_WERR] = true) :
    State.seen xe (runCommit c s) = State.seen xe s := by
  simp only [Extent.covers, List.all_cons, List.all_nil, Bool.and_true, Bool.true_and, Bool.and_eq_true] at xh
  unfold runCommit
  extract_lets i s0 done
  have h0 : State.seen xe s0 = State.seen xe s := by simp [s0, xh]
  have hd : ∀ o a s, State.seen xe (done o a s) = State.seen xe s := by intro o a s; simp [done, xh]
  clear_value done s0
  rw [← h0]
  split
  · simp [hd, xh]
  split
  · simp [hd, xh]
  split
  · simp [hd, xh]
  extract_lets bytes
  split
  · rw [hd]; split <;> simp [xh]
  · extract_lets r t
    have ht : State.seen xe t = State.seen xe s0 := by unfold t; split <;> simp [r, xh]
    clear_value t
    rw [hd]; split <;> simp [ht, xh]

@[simp] theorem runCommits_seen (xe : Extent) (n : Nat) (s : State) (xh : xe.covers [.fresh, .seqs, .table, .fab, .exec, .tide, .pen, .mir] [F.ICU_LOSTCNT, F.ICU_OVRw_SRC, F.ICU_PENDw_SRC, F.NET_TXDROP, F.PIL_APPLYF_FRAME, F.PIL_BADSLOT_SLOT, F.PIL_STAT_BUSY, F.PIL_STAT_REASON, F.PIL_STAT_REFUSED, F.PIL_STAT_WERR] = true) :
    State.seen xe (runCommits n s) = State.seen xe s := by
  simp only [Extent.covers, List.all_cons, List.all_nil, Bool.and_true, Bool.true_and, Bool.and_eq_true] at xh
  induction n generalizing s with
  | zero => rfl
  | succ n ih =>
    unfold runCommits
    split
    · rfl
    split
    · rfl
    · rw [ih]; simp [xh]

@[simp] theorem doCommit_seen (xe : Extent) (c : Commit) (s : State) (xh : xe.covers [.fresh, .seqs, .table, .fab, .exec, .tide, .pen, .mir] [F.ICU_LOSTCNT, F.ICU_OVRw_SRC, F.ICU_PENDw_SRC, F.NET_TXDROP, F.PIL_APPLYF_FRAME, F.PIL_BADSLOT_SLOT, F.PIL_STAT_BUSY, F.PIL_STAT_REASON, F.PIL_STAT_REFUSED, F.PIL_STAT_WERR] = true) :
    State.seen xe (doCommit c s) = State.seen xe s := by
  simp only [Extent.covers, List.all_cons, List.all_nil, Bool.and_true, Bool.true_and, Bool.and_eq_true] at xh
  unfold doCommit
  simp [xh]

@[simp] theorem installTick_seen (xe : Extent) (f : Nat) (s : State) (xh : xe.covers [.fresh, .seqs, .table, .fab, .exec, .tide, .pen, .mir] [F.ICU_LOSTCNT, F.ICU_OVRw_SRC, F.ICU_PENDw_SRC, F.NET_TXDROP, F.PIL_APPLYF_FRAME, F.PIL_BADSLOT_SLOT, F.PIL_STAT_BUSY, F.PIL_STAT_REASON, F.PIL_STAT_REFUSED, F.PIL_STAT_WERR] = true) :
    State.seen xe (installTick f s) = State.seen xe s := by
  simp only [Extent.covers, List.all_cons, List.all_nil, Bool.and_true, Bool.true_and, Bool.and_eq_true] at xh
  unfold installTick
  extract_lets s1 s2
  have h1 : State.seen xe s1 = State.seen xe s := by simp [s1, xh]
  clear_value s1
  have h2 : State.seen xe s2 = State.seen xe s := by
    unfold s2
    split
    · split
      · simp [h1, xh]
      · rfl
    · rfl
  clear_value s2
  simp [h2, xh]

@[simp] theorem doApply_seen (xe : Extent) (i : Nat) (b : List Byte) (s : State) (xh : xe.covers [.exec, .sched] [F.MAN_ALLOCCNT, F.MAN_LASTEXEC_EXEC_ID, F.SCH_BUSYCNT, F.SCH_DENYCNT, F.SCH_GATEDCNT, F.SCH_POLCNT, F.SCH_QHWM_DEPTH] = true) :
    State.seen xe (doApply i b s).2 = State.seen xe s := by
  simp only [Extent.covers, List.all_cons, List.all_nil, Bool.and_true, Bool.true_and, Bool.and_eq_true] at xh
  unfold doApply
  repeat' first
    | (extract_lets +onlyGivenNames x; refine have hx : State.seen xe x = State.seen xe s := ?_; ?_; (on_goal 1 => unfold x); (on_goal 2 => clear_value x))
    | (extract_lets +onlyGivenNames x; refine have hx : State.seen xe x.2 = State.seen xe s := ?_; ?_; (on_goal 1 => unfold x); (on_goal 2 => clear_value x))
    | (extract_lets +onlyGivenNames x; refine have hx : State.seen xe x.2.2 = State.seen xe s := ?_; ?_; (on_goal 1 => unfold x); (on_goal 2 => clear_value x))
    | (extract_lets +onlyGivenNames x; clear_value x)
    | (simp [*]; done)
    | (refine (foldl_seen xe _ _ _ ?_).trans ?_; (on_goal 1 => intro s a))
    | (refine (State.when_seen xe _ _ _ ?_).trans ?_; (on_goal 1 => intro s))
    | split
    | (simp_all; done)

@[simp] theorem doWithdraw_seen (xe : Extent) (i : Nat) (b : List Byte) (s : State) (xh : xe.covers [.seqs, .fab, .exec, .sched] [F.ICU_LOSTCNT, F.ICU_OVRw_SRC, F.ICU_PENDw_SRC, F.MAN_DONECNT, F.MAN_PARTCNT, F.MAN_VOIDCNT] = true) :
    State.seen xe (doWithdraw i b s).2 = State.seen xe s := by
  simp only [Extent.covers, List.all_cons, List.all_nil, Bool.and_true, Bool.true_and, Bool.and_eq_true] at xh
  unfold doWithdraw
  repeat' first
    | (extract_lets +onlyGivenNames x; refine have hx : State.seen xe x = State.seen xe s := ?_; ?_; (on_goal 1 => unfold x); (on_goal 2 => clear_value x))
    | (extract_lets +onlyGivenNames x; refine have hx : State.seen xe x.2 = State.seen xe s := ?_; ?_; (on_goal 1 => unfold x); (on_goal 2 => clear_value x))
    | (extract_lets +onlyGivenNames x; refine have hx : State.seen xe x.2.2 = State.seen xe s := ?_; ?_; (on_goal 1 => unfold x); (on_goal 2 => clear_value x))
    | (extract_lets +onlyGivenNames x; clear_value x)
    | (simp [*]; done)
    | (refine (foldl_seen xe _ _ _ ?_).trans ?_; (on_goal 1 => intro s a))
    | (refine (State.when_seen xe _ _ _ ?_).trans ?_; (on_goal 1 => intro s))
    | split
    | (simp_all; done)

@[simp] theorem doTidectl_seen (xe : Extent) (b : List Byte) (s : State) (xh : xe.covers [.tide] [F.TID_LATEN_N, F.TID_PSTART_FRAME, F.TID_STAT_LATEBASE, F.TID_STAT_REASON, F.TID_STAT_REFUSED] = true) :
    State.seen xe (doTidectl b s).2 = State.seen xe s := by
  simp only [Extent.covers, List.all_cons, List.all_nil, Bool.and_true, Bool.true_and, Bool.and_eq_true] at xh
  unfold doTidectl
  repeat' first
    | (extract_lets +onlyGivenNames x; refine have hx : State.seen xe x = State.seen xe s := ?_; ?_; (on_goal 1 => unfold x); (on_goal 2 => clear_value x))
    | (extract_lets +onlyGivenNames x; refine have hx : State.seen xe x.2 = State.seen xe s := ?_; ?_; (on_goal 1 => unfold x); (on_goal 2 => clear_value x))
    | (extract_lets +onlyGivenNames x; refine have hx : State.seen xe x.2.2 = State.seen xe s := ?_; ?_; (on_goal 1 => unfold x); (on_goal 2 => clear_value x))
    | (extract_lets +onlyGivenNames x; clear_value x)
    | (simp [*]; done)
    | (refine (foldl_seen xe _ _ _ ?_).trans ?_; (on_goal 1 => intro s a))
    | (refine (State.when_seen xe _ _ _ ?_).trans ?_; (on_goal 1 => intro s))
    | split
    | (simp_all; done)

@[simp] theorem matrixError_seen (xe : Extent) (master cause : Nat) (write : Bool) (a : Nat) (s : State) (xh : xe.covers [.seqs] [F.ICU_LOSTCNT, F.ICU_OVRw_SRC, F.ICU_PENDw_SRC, F.MTX_ERRADDR_ADDR, F.MTX_ERRCNT, F.MTX_ERRSTAT_CAUSE, F.MTX_ERRSTAT_MASTER, F.MTX_ERRSTAT_OVR, F.MTX_ERRSTAT_VALID, F.MTX_ERRSTAT_WRITE] = true) :
    State.seen xe (matrixError master cause write a s) = State.seen xe s := by
  simp only [Extent.covers, List.all_cons, List.all_nil, Bool.and_true, Bool.true_and, Bool.and_eq_true] at xh
  unfold matrixError
  simp [xh]

@[simp] theorem regWords_seen (xe : Extent) (g : Nat → State → State) (hg : ∀ a s, State.seen xe (g a s) = State.seen xe s) (n a : Nat) (s : State) (xh : xe.covers [.rdata] [F.NET_TXTSF_VALUE, F.SCH_QBALHI_BAL, F.SCH_QFTHI_FT, F.SCH_VTHI_VT, F.TIM_TBnFRAC_VALUE, F.TIM_TBnWRAP_VALUE] = true) :
    State.seen xe (regWords g n a s).2 = State.seen xe s := by
  simp only [Extent.covers, List.all_cons, List.all_nil, Bool.and_true, Bool.true_and, Bool.and_eq_true] at xh
  induction n generalizing a s with
  | zero => rfl
  | succ n ih =>
    unfold regWords
    extract_lets x r t
    have hr : State.seen xe r.2 = State.seen xe s := by
      unfold r; split <;> simp [hg, xh]
    simp [t, ih, hr, xh]

@[simp] theorem doQuery_seen (xe : Extent) (b : List Byte) (s : State) (xh : xe.covers [.seqs, .rdata] [F.ICU_LOSTCNT, F.ICU_OVRw_SRC, F.ICU_PENDw_SRC, F.MTX_ERRADDR_ADDR, F.MTX_ERRCNT, F.MTX_ERRSTAT_CAUSE, F.MTX_ERRSTAT_MASTER, F.MTX_ERRSTAT_OVR, F.MTX_ERRSTAT_VALID, F.MTX_ERRSTAT_WRITE, F.NET_TXTSF_VALUE, F.SCH_QBALHI_BAL, F.SCH_QFTHI_FT, F.SCH_VTHI_VT, F.TIM_TBnFRAC_VALUE, F.TIM_TBnWRAP_VALUE] = true) :
    State.seen xe (doQuery b s).2 = State.seen xe s := by
  simp only [Extent.covers, List.all_cons, List.all_nil, Bool.and_true, Bool.true_and, Bool.and_eq_true] at xh
  unfold doQuery
  extract_lets arg arg2
  split
  case h_3 =>
    split
    · exact regWords_seen xe _ (by intro a s; simp [xh]) _ _ _ (by simp [xh])
    · rfl
  all_goals rfl

@[simp] theorem doSlotControl_seen (xe : Extent) (i : Nat) (b : List Byte) (s : State) (xh : xe.covers [.pen] [] = true) :
    State.seen xe (doSlotControl i b s).2 = State.seen xe s := by
  simp only [Extent.covers, List.all_cons, List.all_nil, Bool.and_true, Bool.true_and, Bool.and_eq_true] at xh
  unfold doSlotControl
  repeat' first
    | (extract_lets +onlyGivenNames x; refine have hx : State.seen xe x = State.seen xe s := ?_; ?_; (on_goal 1 => unfold x); (on_goal 2 => clear_value x))
    | (extract_lets +onlyGivenNames x; refine have hx : State.seen xe x.2 = State.seen xe s := ?_; ?_; (on_goal 1 => unfold x); (on_goal 2 => clear_value x))
    | (extract_lets +onlyGivenNames x; refine have hx : State.seen xe x.2.2 = State.seen xe s := ?_; ?_; (on_goal 1 => unfold x); (on_goal 2 => clear_value x))
    | (extract_lets +onlyGivenNames x; clear_value x)
    | (simp [*]; done)
    | (refine (foldl_seen xe _ _ _ ?_).trans ?_; (on_goal 1 => intro s a))
    | (refine (State.when_seen xe _ _ _ ?_).trans ?_; (on_goal 1 => intro s))
    | split
    | (simp_all; done)

@[simp] theorem slotCtlApply_seen (xe : Extent) (x : SlotCtl) (s : State) (xh : xe.covers [.fab, .exec] [] = true) :
    State.seen xe (slotCtlApply x s) = State.seen xe s := by
  simp only [Extent.covers, List.all_cons, List.all_nil, Bool.and_true, Bool.true_and, Bool.and_eq_true] at xh
  unfold slotCtlApply
  repeat' first
    | (extract_lets +onlyGivenNames x; refine have hx : State.seen xe x = State.seen xe s := ?_; ?_; (on_goal 1 => unfold x); (on_goal 2 => clear_value x))
    | (extract_lets +onlyGivenNames x; refine have hx : State.seen xe x.2 = State.seen xe s := ?_; ?_; (on_goal 1 => unfold x); (on_goal 2 => clear_value x))
    | (extract_lets +onlyGivenNames x; refine have hx : State.seen xe x.2.2 = State.seen xe s := ?_; ?_; (on_goal 1 => unfold x); (on_goal 2 => clear_value x))
    | (extract_lets +onlyGivenNames x; clear_value x)
    | (simp [*]; done)
    | (refine (foldl_seen xe _ _ _ ?_).trans ?_; (on_goal 1 => intro s a))
    | (refine (State.when_seen xe _ _ _ ?_).trans ?_; (on_goal 1 => intro s))
    | split
    | (simp_all; done)

@[simp] theorem slotCtlTick_seen (xe : Extent) (s : State) (xh : xe.covers [.fab, .exec, .pen] [] = true) :
    State.seen xe (slotCtlTick s) = State.seen xe s := by
  simp only [Extent.covers, List.all_cons, List.all_nil, Bool.and_true, Bool.true_and, Bool.and_eq_true] at xh
  unfold slotCtlTick
  simp [xh]

@[simp] theorem doSubscribe_seen (xe : Extent) (i : Nat) (b : List Byte) (s : State) (xh : xe.covers [.pen] [] = true) :
    State.seen xe (doSubscribe i b s).2 = State.seen xe s := by
  simp only [Extent.covers, List.all_cons, List.all_nil, Bool.and_true, Bool.true_and, Bool.and_eq_true] at xh
  unfold doSubscribe
  simp [xh]

@[simp] theorem sendEvent_seen (xe : Extent) (i code : Nat) (body : List Byte) (s : State) (xh : xe.covers [.seqs, .pen] [F.ICU_LOSTCNT, F.ICU_OVRw_SRC, F.ICU_PENDw_SRC, F.NET_TXDROP] = true) :
    State.seen xe (sendEvent i code body s) = State.seen xe s := by
  simp only [Extent.covers, List.all_cons, List.all_nil, Bool.and_true, Bool.true_and, Bool.and_eq_true] at xh
  unfold sendEvent
  simp [xh]

@[simp] theorem circuitEvents_seen (xe : Extent) (s : State) (xh : xe.covers [.seqs, .pen] [F.ICU_LOSTCNT, F.ICU_OVRw_SRC, F.ICU_PENDw_SRC, F.NET_TXDROP] = true) :
    State.seen xe (circuitEvents s) = State.seen xe s := by
  simp only [Extent.covers, List.all_cons, List.all_nil, Bool.and_true, Bool.true_and, Bool.and_eq_true] at xh
  unfold circuitEvents
  repeat' first
    | (extract_lets +onlyGivenNames x; refine have hx : State.seen xe x = State.seen xe s := ?_; ?_; (on_goal 1 => unfold x); (on_goal 2 => clear_value x))
    | (extract_lets +onlyGivenNames x; refine have hx : State.seen xe x.2 = State.seen xe s := ?_; ?_; (on_goal 1 => unfold x); (on_goal 2 => clear_value x))
    | (extract_lets +onlyGivenNames x; refine have hx : State.seen xe x.2.2 = State.seen xe s := ?_; ?_; (on_goal 1 => unfold x); (on_goal 2 => clear_value x))
    | (extract_lets +onlyGivenNames x; clear_value x)
    | (simp [*]; done)
    | (refine (foldl_seen xe _ _ _ ?_).trans ?_; (on_goal 1 => intro s a))
    | (refine (State.when_seen xe _ _ _ ?_).trans ?_; (on_goal 1 => intro s))
    | split
    | (simp_all; done)

@[simp] theorem finalEvents_seen (xe : Extent) (s : State) (xh : xe.covers [.seqs, .pen] [F.ICU_LOSTCNT, F.ICU_OVRw_SRC, F.ICU_PENDw_SRC, F.NET_TXDROP] = true) :
    State.seen xe (finalEvents s) = State.seen xe s := by
  simp only [Extent.covers, List.all_cons, List.all_nil, Bool.and_true, Bool.true_and, Bool.and_eq_true] at xh
  unfold finalEvents
  repeat' first
    | (extract_lets +onlyGivenNames x; refine have hx : State.seen xe x = State.seen xe s := ?_; ?_; (on_goal 1 => unfold x); (on_goal 2 => clear_value x))
    | (extract_lets +onlyGivenNames x; refine have hx : State.seen xe x.2 = State.seen xe s := ?_; ?_; (on_goal 1 => unfold x); (on_goal 2 => clear_value x))
    | (extract_lets +onlyGivenNames x; refine have hx : State.seen xe x.2.2 = State.seen xe s := ?_; ?_; (on_goal 1 => unfold x); (on_goal 2 => clear_value x))
    | (extract_lets +onlyGivenNames x; clear_value x)
    | (simp [*]; done)
    | (refine (foldl_seen xe _ _ _ ?_).trans ?_; (on_goal 1 => intro s a))
    | (refine (State.when_seen xe _ _ _ ?_).trans ?_; (on_goal 1 => intro s))
    | split
    | (simp_all; done)

@[simp] theorem faultEvents_seen (xe : Extent) (s : State) (xh : xe.covers [.seqs, .pen] [F.ICU_LOSTCNT, F.ICU_OVRw_SRC, F.ICU_PENDw_SRC, F.NET_TXDROP] = true) :
    State.seen xe (faultEvents s) = State.seen xe s := by
  simp only [Extent.covers, List.all_cons, List.all_nil, Bool.and_true, Bool.true_and, Bool.and_eq_true] at xh
  unfold faultEvents
  repeat' first
    | (extract_lets +onlyGivenNames x; refine have hx : State.seen xe x = State.seen xe s := ?_; ?_; (on_goal 1 => unfold x); (on_goal 2 => clear_value x))
    | (extract_lets +onlyGivenNames x; refine have hx : State.seen xe x.2 = State.seen xe s := ?_; ?_; (on_goal 1 => unfold x); (on_goal 2 => clear_value x))
    | (extract_lets +onlyGivenNames x; refine have hx : State.seen xe x.2.2 = State.seen xe s := ?_; ?_; (on_goal 1 => unfold x); (on_goal 2 => clear_value x))
    | (extract_lets +onlyGivenNames x; clear_value x)
    | (simp [*]; done)
    | (refine (foldl_seen xe _ _ _ ?_).trans ?_; (on_goal 1 => intro s a))
    | (refine (State.when_seen xe _ _ _ ?_).trans ?_; (on_goal 1 => intro s))
    | split
    | (simp_all; done)

@[simp] theorem eventTick_seen (xe : Extent) (s : State) (xh : xe.covers [.seqs, .pen] [F.ICU_LOSTCNT, F.ICU_OVRw_SRC, F.ICU_PENDw_SRC, F.NET_TXDROP] = true) :
    State.seen xe (eventTick s) = State.seen xe s := by
  simp only [Extent.covers, List.all_cons, List.all_nil, Bool.and_true, Bool.true_and, Bool.and_eq_true] at xh
  unfold eventTick
  simp [xh]

@[simp] theorem takeoverSessions_seen (xe : Extent) (s : State) (xh : xe.covers [.seqs, .pen] [F.ICU_LOSTCNT, F.ICU_OVRw_SRC, F.ICU_PENDw_SRC, F.NET_TXDROP] = true) :
    State.seen xe (takeoverSessions s) = State.seen xe s := by
  simp only [Extent.covers, List.all_cons, List.all_nil, Bool.and_true, Bool.true_and, Bool.and_eq_true] at xh
  unfold takeoverSessions
  simp [xh]

@[simp] theorem runCached_seen (xe : Extent) (m : PMsg) (k : Nat) (s : State) (xh : xe.covers [.fresh, .seqs, .table, .fab, .exec, .sched, .tide, .pen, .mir] [F.ICU_LOSTCNT, F.ICU_OVRw_SRC, F.ICU_PENDw_SRC, F.MAN_ALLOCCNT, F.MAN_DONECNT, F.MAN_LASTEXEC_EXEC_ID, F.MAN_PARTCNT, F.MAN_VOIDCNT, F.NET_TXDROP, F.PIL_APPLYF_FRAME, F.PIL_BADSLOT_SLOT, F.PIL_STAT_BUSY, F.PIL_STAT_REASON, F.PIL_STAT_REFUSED, F.PIL_STAT_WERR, F.SCH_BUSYCNT, F.SCH_DENYCNT, F.SCH_GATEDCNT, F.SCH_POLCNT, F.SCH_QHWM_DEPTH, F.TID_LATEN_N, F.TID_PSTART_FRAME, F.TID_STAT_LATEBASE, F.TID_STAT_REASON, F.TID_STAT_REFUSED] = true) :
    State.seen xe (runCached m k s) = State.seen xe s := by
  simp only [Extent.covers, List.all_cons, List.all_nil, Bool.and_true, Bool.true_and, Bool.and_eq_true] at xh
  unfold runCached
  repeat' first
    | (extract_lets +onlyGivenNames x; refine have hx : State.seen xe x = State.seen xe s := ?_; ?_; (on_goal 1 => unfold x); (on_goal 2 => clear_value x))
    | (extract_lets +onlyGivenNames x; refine have hx : State.seen xe x.2 = State.seen xe s := ?_; ?_; (on_goal 1 => unfold x); (on_goal 2 => clear_value x))
    | (extract_lets +onlyGivenNames x; refine have hx : State.seen xe x.2.2 = State.seen xe s := ?_; ?_; (on_goal 1 => unfold x); (on_goal 2 => clear_value x))
    | (extract_lets +onlyGivenNames x; clear_value x)
    | (simp [*]; done)
    | (refine (foldl_seen xe _ _ _ ?_).trans ?_; (on_goal 1 => intro s a))
    | (refine (State.when_seen xe _ _ _ ?_).trans ?_; (on_goal 1 => intro s))
    | split
    | (simp_all; done)

@[simp] theorem cachedRequest_seen (xe : Extent) (m : PMsg) (s : State) (xh : xe.covers [.fresh, .seqs, .table, .fab, .exec, .sched, .tide, .pen, .mir] [F.ICU_LOSTCNT, F.ICU_OVRw_SRC, F.ICU_PENDw_SRC, F.MAN_ALLOCCNT, F.MAN_DONECNT, F.MAN_LASTEXEC_EXEC_ID, F.MAN_PARTCNT, F.MAN_VOIDCNT, F.NET_TXDROP, F.PIL_APPLYF_FRAME, F.PIL_BADSLOT_SLOT, F.PIL_STAT_BUSY, F.PIL_STAT_REASON, F.PIL_STAT_REFUSED, F.PIL_STAT_WERR, F.PVE_CONFCNT, F.PVE_RETRYHIT, F.PVE_STALECNT, F.SCH_BUSYCNT, F.SCH_DENYCNT, F.SCH_GATEDCNT, F.SCH_POLCNT, F.SCH_QHWM_DEPTH, F.TID_LATEN_N, F.TID_PSTART_FRAME, F.TID_STAT_LATEBASE, F.TID_STAT_REASON, F.TID_STAT_REFUSED] = true) :
    State.seen xe (cachedRequest m s) = State.seen xe s := by
  simp only [Extent.covers, List.all_cons, List.all_nil, Bool.and_true, Bool.true_and, Bool.and_eq_true] at xh
  unfold cachedRequest
  repeat' first
    | (extract_lets +onlyGivenNames x; refine have hx : State.seen xe x = State.seen xe s := ?_; ?_; (on_goal 1 => unfold x); (on_goal 2 => clear_value x))
    | (extract_lets +onlyGivenNames x; refine have hx : State.seen xe x.2 = State.seen xe s := ?_; ?_; (on_goal 1 => unfold x); (on_goal 2 => clear_value x))
    | (extract_lets +onlyGivenNames x; refine have hx : State.seen xe x.2.2 = State.seen xe s := ?_; ?_; (on_goal 1 => unfold x); (on_goal 2 => clear_value x))
    | (extract_lets +onlyGivenNames x; clear_value x)
    | (simp [*]; done)
    | (refine (foldl_seen xe _ _ _ ?_).trans ?_; (on_goal 1 => intro s a))
    | (refine (State.when_seen xe _ _ _ ?_).trans ?_; (on_goal 1 => intro s))
    | split
    | (simp_all; done)

@[simp] theorem request_seen (xe : Extent) (m : PMsg) (s : State) (xh : xe.covers [.fresh, .seqs, .rdata, .table, .fab, .exec, .sched, .tide, .pen, .mir] [] = true) (xha : xe.all = true) :
    State.seen xe (request m s) = State.seen xe s := by
  simp only [Extent.covers, List.all_cons, List.all_nil, Bool.and_true, Bool.true_and, Bool.and_eq_true] at xh
  have xhr : ∀ f, xe.r f = true := fun f => xe.r_of_all f xha
  unfold request
  repeat' first
    | (extract_lets +onlyGivenNames x; refine have hx : State.seen xe x = State.seen xe s := ?_; ?_; (on_goal 1 => unfold x); (on_goal 2 => clear_value x))
    | (extract_lets +onlyGivenNames x; refine have hx : State.seen xe x.2 = State.seen xe s := ?_; ?_; (on_goal 1 => unfold x); (on_goal 2 => clear_value x))
    | (extract_lets +onlyGivenNames x; refine have hx : State.seen xe x.2.2 = State.seen xe s := ?_; ?_; (on_goal 1 => unfold x); (on_goal 2 => clear_value x))
    | (extract_lets +onlyGivenNames x; clear_value x)
    | (simp [*]; done)
    | (refine (foldl_seen xe _ _ _ ?_).trans ?_; (on_goal 1 => intro s a))
    | (refine (State.when_seen xe _ _ _ ?_).trans ?_; (on_goal 1 => intro s))
    | split
    | (simp_all; done)

@[simp] theorem authenticated_seen (xe : Extent) (d : Dgram) (m : PMsg) (s : State) (xh : xe.covers [.fresh, .seqs, .rdata, .table, .fab, .exec, .sched, .tide, .pen, .mir] [] = true) (xha : xe.all = true) :
    State.seen xe (authenticated d m s) = State.seen xe s := by
  simp only [Extent.covers, List.all_cons, List.all_nil, Bool.and_true, Bool.true_and, Bool.and_eq_true] at xh
  have xhr : ∀ f, xe.r f = true := fun f => xe.r_of_all f xha
  unfold authenticated
  simp [xh, xha, xhr]

@[simp] theorem tagFailure_seen (xe : Extent) (i : Nat) (s : State) (xh : xe.covers [.seqs, .pen] [F.ICU_LOSTCNT, F.ICU_OVRw_SRC, F.ICU_PENDw_SRC, F.PVE_AUTHCNT, F.PVE_STAT_AUTHALARM] = true) :
    State.seen xe (tagFailure i s) = State.seen xe s := by
  simp only [Extent.covers, List.all_cons, List.all_nil, Bool.and_true, Bool.true_and, Bool.and_eq_true] at xh
  unfold tagFailure
  simp [xh]

@[simp] theorem messageReceive_seen (xe : Extent) (d : Dgram) (m : PMsg) (s : State) (xh : xe.covers [.fresh, .seqs, .rdata, .table, .fab, .exec, .sched, .tide, .pen, .mir] [] = true) (xha : xe.all = true) :
    State.seen xe (messageReceive d m s) = State.seen xe s := by
  simp only [Extent.covers, List.all_cons, List.all_nil, Bool.and_true, Bool.true_and, Bool.and_eq_true] at xh
  have xhr : ∀ f, xe.r f = true := fun f => xe.r_of_all f xha
  unfold messageReceive
  simp [xh, xha, xhr]

@[simp] theorem payloadReceive_seen (xe : Extent) (d : Dgram) (s : State) (xh : xe.covers [.fresh, .seqs, .rdata, .table, .fab, .exec, .sched, .tide, .pen, .mir] [] = true) (xha : xe.all = true) :
    State.seen xe (payloadReceive d s) = State.seen xe s := by
  simp only [Extent.covers, List.all_cons, List.all_nil, Bool.and_true, Bool.true_and, Bool.and_eq_true] at xh
  have xhr : ∀ f, xe.r f = true := fun f => xe.r_of_all f xha
  unfold payloadReceive
  simp [xh, xha, xhr]

@[simp] theorem penReceive_seen (xe : Extent) (d : Dgram) (s : State) (xh : xe.covers [.fresh, .seqs, .rdata, .table, .fab, .exec, .sched, .tide, .pen, .mir] [] = true) (xha : xe.all = true) :
    State.seen xe (penReceive d s) = State.seen xe s := by
  simp only [Extent.covers, List.all_cons, List.all_nil, Bool.and_true, Bool.true_and, Bool.and_eq_true] at xh
  have xhr : ∀ f, xe.r f = true := fun f => xe.r_of_all f xha
  unfold penReceive
  simp [xh, xha, xhr]

@[simp] theorem putCopy_seen (xe : Extent) (b : Nat) (c : BunCopy) (s : State) (xh : xe.covers [.fab] [] = true) :
    State.seen xe (putCopy b c s) = State.seen xe s := by
  simp only [Extent.covers, List.all_cons, List.all_nil, Bool.and_true, Bool.true_and, Bool.and_eq_true] at xh
  unfold putCopy
  simp [xh]

@[simp] theorem tallyFrame_seen (xe : Extent) (f : Nat) (s : State) (xh : xe.covers [.fab] [] = true) :
    State.seen xe (tallyFrame f s) = State.seen xe s := by
  simp only [Extent.covers, List.all_cons, List.all_nil, Bool.and_true, Bool.true_and, Bool.and_eq_true] at xh
  unfold tallyFrame
  simp [xh]

@[simp] theorem modStaged_seen (xe : Extent) (f : Nat → Staged → Staged) (s : State) (xh : xe.covers [.mir] [] = true) :
    State.seen xe (modStaged f s) = State.seen xe s := by
  simp only [Extent.covers, List.all_cons, List.all_nil, Bool.and_true, Bool.true_and, Bool.and_eq_true] at xh
  unfold modStaged
  simp [xh]

@[simp] theorem slotEnds_seen (xe : Extent) (n : Nat) (s : State) (xh : xe.covers [.seqs, .log, .fab, .exec, .port] [F.DBG_FLTSTAT_CLASS, F.ICU_LOSTCNT, F.ICU_OVRw_SRC, F.ICU_PENDw_SRC, F.MOR_DARKCNT, F.MOR_SETFAIL] = true) :
    State.seen xe (slotEnds n s) = State.seen xe s := by
  simp only [Extent.covers, List.all_cons, List.all_nil, Bool.and_true, Bool.true_and, Bool.and_eq_true] at xh
  unfold slotEnds
  simp [xh]

@[simp] theorem stagedFrame_seen (xe : Extent) (f : Nat) (s : State) (xh : xe.covers [.seqs, .log, .fab, .exec, .mir, .port] [F.DBG_FLTSTAT_CLASS, F.ICU_LOSTCNT, F.ICU_OVRw_SRC, F.ICU_PENDw_SRC, F.MOR_DARKCNT, F.MOR_SETFAIL, F.QY_TSASGj_SET0, F.QY_TSASGj_SET1, F.QY_TSASGj_SET2, F.QY_TSASGj_SET3, F.QY_TSASGj_SET4, F.QY_TSASGj_SET5, F.QY_TSASGj_SET6, F.QY_TSASGj_SET7] = true) :
    State.seen xe (stagedFrame f s) = State.seen xe s := by
  simp only [Extent.covers, List.all_cons, List.all_nil, Bool.and_true, Bool.true_and, Bool.and_eq_true] at xh
  unfold stagedFrame
  simp [xh]

@[simp] theorem streamPush_seen (xe : Extent) (m : MMsg) (s : State) (xh : xe.covers [.mir] [] = true) :
    State.seen xe (streamPush m s) = State.seen xe s := by
  simp only [Extent.covers, List.all_cons, List.all_nil, Bool.and_true, Bool.true_and, Bool.and_eq_true] at xh
  unfold streamPush
  simp [xh]

@[simp] theorem sendBrec_seen (xe : Extent) (f b : Nat) (s : State) (xh : xe.covers [.mir] [] = true) :
    State.seen xe (sendBrec f b s) = State.seen xe s := by
  simp only [Extent.covers, List.all_cons, List.all_nil, Bool.and_true, Bool.true_and, Bool.and_eq_true] at xh
  unfold sendBrec
  repeat' first
    | (extract_lets +onlyGivenNames x; refine have hx : State.seen xe x = State.seen xe s := ?_; ?_; (on_goal 1 => unfold x); (on_goal 2 => clear_value x))
    | (extract_lets +onlyGivenNames x; refine have hx : State.seen xe x.2 = State.seen xe s := ?_; ?_; (on_goal 1 => unfold x); (on_goal 2 => clear_value x))
    | (extract_lets +onlyGivenNames x; refine have hx : State.seen xe x.2.2 = State.seen xe s := ?_; ?_; (on_goal 1 => unfold x); (on_goal 2 => clear_value x))
    | (extract_lets +onlyGivenNames x; clear_value x)
    | (simp [*]; done)
    | (refine (foldl_seen xe _ _ _ ?_).trans ?_; (on_goal 1 => intro s a))
    | (refine (State.when_seen xe _ _ _ ?_).trans ?_; (on_goal 1 => intro s))
    | split
    | (simp_all; done)

@[simp] theorem sendEpEnd_seen (xe : Extent) (s : State) (xh : xe.covers [.mir] [] = true) :
    State.seen xe (sendEpEnd s) = State.seen xe s := by
  simp only [Extent.covers, List.all_cons, List.all_nil, Bool.and_true, Bool.true_and, Bool.and_eq_true] at xh
  unfold sendEpEnd
  repeat' first
    | (extract_lets +onlyGivenNames x; refine have hx : State.seen xe x = State.seen xe s := ?_; ?_; (on_goal 1 => unfold x); (on_goal 2 => clear_value x))
    | (extract_lets +onlyGivenNames x; refine have hx : State.seen xe x.2 = State.seen xe s := ?_; ?_; (on_goal 1 => unfold x); (on_goal 2 => clear_value x))
    | (extract_lets +onlyGivenNames x; refine have hx : State.seen xe x.2.2 = State.seen xe s := ?_; ?_; (on_goal 1 => unfold x); (on_goal 2 => clear_value x))
    | (extract_lets +onlyGivenNames x; clear_value x)
    | (simp [*]; done)
    | (refine (foldl_seen xe _ _ _ ?_).trans ?_; (on_goal 1 => intro s a))
    | (refine (State.when_seen xe _ _ _ ?_).trans ?_; (on_goal 1 => intro s))
    | split
    | (simp_all; done)

@[simp] theorem tallyBundle_seen (xe : Extent) (f was b : Nat) (s : State) (xh : xe.covers [.fab, .mir] [] = true) :
    State.seen xe (tallyBundle f was b s) = State.seen xe s := by
  simp only [Extent.covers, List.all_cons, List.all_nil, Bool.and_true, Bool.true_and, Bool.and_eq_true] at xh
  unfold tallyBundle
  simp [xh]

@[simp] theorem tallyDeadline_seen (xe : Extent) (f : Nat) (was : Tbl Bundle) (s : State) (xh : xe.covers [.fab, .mir] [] = true) :
    State.seen xe (tallyDeadline f was s) = State.seen xe s := by
  simp only [Extent.covers, List.all_cons, List.all_nil, Bool.and_true, Bool.true_and, Bool.and_eq_true] at xh
  unfold tallyDeadline
  simp [xh]

@[simp] theorem frameDeadline_seen (xe : Extent) (s : State) (xh : xe.covers [.seqs, .log, .fab, .exec, .mir, .port] [F.CKG_ENGHWM_CYCLES, F.CKG_ENGHWM_ENGINE, F.CKG_OVRCNTq, F.CKG_OVRFLAG_QY, F.CKG_OVRLAST_BUNDLE, F.CKG_OVRLAST_FRAME, F.DBG_FLTSTAT_CLASS, F.ICU_LOSTCNT, F.ICU_OVRw_SRC, F.ICU_PENDw_SRC, F.MOR_BFSAT, F.MOR_CLAMPCNT, F.MOR_DARKCNT, F.MOR_ESTATp_CAUSE, F.MOR_ESTATp_STATE, F.MOR_FOLDCNT, F.MOR_SETFAIL, F.MOR_SKIPGAP, F.MOR_STAT_ENGFLT, F.QY_DRVSAT, F.SEG_STAT_UNDACT, F.SEG_UNDCNT, F.SEG_UNDFLAG_QY, F.SEG_UNDLAST_FRAME, F.SEG_UNDLAST_SLOT] = true) :
    State.seen xe (frameDeadline s) = State.seen xe s := by
  simp only [Extent.covers, List.all_cons, List.all_nil, Bool.and_true, Bool.true_and, Bool.and_eq_true] at xh
  unfold frameDeadline
  repeat' first
    | (extract_lets +onlyGivenNames x; refine have hx : State.seen xe x = State.seen xe s := ?_; ?_; (on_goal 1 => unfold x); (on_goal 2 => clear_value x))
    | (extract_lets +onlyGivenNames x; refine have hx : State.seen xe x.2 = State.seen xe s := ?_; ?_; (on_goal 1 => unfold x); (on_goal 2 => clear_value x))
    | (extract_lets +onlyGivenNames x; refine have hx : State.seen xe x.2.2 = State.seen xe s := ?_; ?_; (on_goal 1 => unfold x); (on_goal 2 => clear_value x))
    | (extract_lets +onlyGivenNames x; clear_value x)
    | (simp [*]; done)
    | (refine (foldl_seen xe _ _ _ ?_).trans ?_; (on_goal 1 => intro s a))
    | (refine (State.when_seen xe _ _ _ ?_).trans ?_; (on_goal 1 => intro s))
    | split
    | (simp_all; done)

@[simp] theorem mirFlag_seen (xe : Extent) (f : Fld) (s : State) (xh : xe.covers [.seqs] [F.ICU_LOSTCNT, F.ICU_OVRw_SRC, F.ICU_PENDw_SRC] = true) (xhf : xe.r f = true) :
    State.seen xe (mirFlag f s) = State.seen xe s := by
  simp only [Extent.covers, List.all_cons, List.all_nil, Bool.and_true, Bool.true_and, Bool.and_eq_true] at xh
  unfold mirFlag
  simp [xh, xhf]

@[simp] theorem tallyFail_seen (xe : Extent) (b : Nat) (s : State) (xh : xe.covers [.seqs, .fab] [F.ICU_LOSTCNT, F.ICU_OVRw_SRC, F.ICU_PENDw_SRC, F.MIR_FLAGS_TALLYMIS, F.MIR_TALLYMIS] = true) :
    State.seen xe (tallyFail b s) = State.seen xe s := by
  simp only [Extent.covers, List.all_cons, List.all_nil, Bool.and_true, Bool.true_and, Bool.and_eq_true] at xh
  unfold tallyFail
  simp [xh]

@[simp] theorem tallyCompare_seen (xe : Extent) (t : Tally) (v : Nat) (s : State) (xh : xe.covers [.seqs, .fab, .mir] [F.ICU_LOSTCNT, F.ICU_OVRw_SRC, F.ICU_PENDw_SRC, F.MIR_FLAGS_TALLYMIS, F.MIR_TALLYCNT, F.MIR_TALLYMIS] = true) :
    State.seen xe (tallyCompare t v s) = State.seen xe s := by
  simp only [Extent.covers, List.all_cons, List.all_nil, Bool.and_true, Bool.true_and, Bool.and_eq_true] at xh
  unfold tallyCompare
  repeat' first
    | (extract_lets +onlyGivenNames x; refine have hx : State.seen xe x = State.seen xe s := ?_; ?_; (on_goal 1 => unfold x); (on_goal 2 => clear_value x))
    | (extract_lets +onlyGivenNames x; refine have hx : State.seen xe x.2 = State.seen xe s := ?_; ?_; (on_goal 1 => unfold x); (on_goal 2 => clear_value x))
    | (extract_lets +onlyGivenNames x; refine have hx : State.seen xe x.2.2 = State.seen xe s := ?_; ?_; (on_goal 1 => unfold x); (on_goal 2 => clear_value x))
    | (extract_lets +onlyGivenNames x; clear_value x)
    | (simp [*]; done)
    | (refine (foldl_seen xe _ _ _ ?_).trans ?_; (on_goal 1 => intro s a))
    | (refine (State.when_seen xe _ _ _ ?_).trans ?_; (on_goal 1 => intro s))
    | split
    | (simp_all; done)

@[simp] theorem tallyMatch_seen (xe : Extent) (s : State) (xh : xe.covers [.seqs, .fab, .mir] [F.ICU_LOSTCNT, F.ICU_OVRw_SRC, F.ICU_PENDw_SRC, F.MIR_FLAGS_TALLYMIS, F.MIR_TALLYCNT, F.MIR_TALLYMIS] = true) :
    State.seen xe (tallyMatch s) = State.seen xe s := by
  simp only [Extent.covers, List.all_cons, List.all_nil, Bool.and_true, Bool.true_and, Bool.and_eq_true] at xh
  unfold tallyMatch
  simp [xh]

@[simp] theorem tallyTimeout_seen (xe : Extent) (s : State) (xh : xe.covers [.seqs, .fab, .mir] [F.ICU_LOSTCNT, F.ICU_OVRw_SRC, F.ICU_PENDw_SRC, F.MIR_FLAGS_TALLYMIS, F.MIR_TALLYCNT, F.MIR_TALLYMIS] = true) :
    State.seen xe (tallyTimeout s) = State.seen xe s := by
  simp only [Extent.covers, List.all_cons, List.all_nil, Bool.and_true, Bool.true_and, Bool.and_eq_true] at xh
  unfold tallyTimeout
  simp [xh]

@[simp] theorem frameCells_seen (xe : Extent) (f : Nat) (s : State) (xh : xe.covers [.pen, .mir] [F.QY_TSASGj_SET0, F.QY_TSASGj_SET1, F.QY_TSASGj_SET2, F.QY_TSASGj_SET3, F.QY_TSASGj_SET4, F.QY_TSASGj_SET5, F.QY_TSASGj_SET6, F.QY_TSASGj_SET7] = true) :
    State.seen xe (frameCells f s) = State.seen xe s := by
  simp only [Extent.covers, List.all_cons, List.all_nil, Bool.and_true, Bool.true_and, Bool.and_eq_true] at xh
  unfold frameCells
  simp [xh]

@[simp] theorem sendBlocks_seen (xe : Extent) (e : Nat) (s : State) (xh : xe.covers [.mir] [] = true) :
    State.seen xe (sendBlocks e s) = State.seen xe s := by
  simp only [Extent.covers, List.all_cons, List.all_nil, Bool.and_true, Bool.true_and, Bool.and_eq_true] at xh
  unfold sendBlocks
  simp [xh]

@[simp] theorem epOpen_seen (xe : Extent) (bundles : List Nat) (join : Bool) (s : State) (xh : xe.covers [.mir] [F.MIR_EPOCH_CUR] = true) :
    State.seen xe (epOpen bundles join s) = State.seen xe s := by
  simp only [Extent.covers, List.all_cons, List.all_nil, Bool.and_true, Bool.true_and, Bool.and_eq_true] at xh
  unfold epOpen
  simp [xh]

@[simp] theorem epRequest_seen (xe : Extent) (bundles : List Nat) (join : Bool) (s : State) (xh : xe.covers [.mir] [F.MIR_EPOCH_CUR] = true) :
    State.seen xe (epRequest bundles join s) = State.seen xe s := by
  simp only [Extent.covers, List.all_cons, List.all_nil, Bool.and_true, Bool.true_and, Bool.and_eq_true] at xh
  unfold epRequest
  simp [xh]

@[simp] theorem epResend_seen (xe : Extent) (e : Nat) (blk : Bool) (k : Nat) (s : State) (xh : xe.covers [.mir] [] = true) :
    State.seen xe (epResend e blk k s) = State.seen xe s := by
  simp only [Extent.covers, List.all_cons, List.all_nil, Bool.and_true, Bool.true_and, Bool.and_eq_true] at xh
  unfold epResend
  repeat' first
    | (extract_lets +onlyGivenNames x; refine have hx : State.seen xe x = State.seen xe s := ?_; ?_; (on_goal 1 => unfold x); (on_goal 2 => clear_value x))
    | (extract_lets +onlyGivenNames x; refine have hx : State.seen xe x.2 = State.seen xe s := ?_; ?_; (on_goal 1 => unfold x); (on_goal 2 => clear_value x))
    | (extract_lets +onlyGivenNames x; refine have hx : State.seen xe x.2.2 = State.seen xe s := ?_; ?_; (on_goal 1 => unfold x); (on_goal 2 => clear_value x))
    | (extract_lets +onlyGivenNames x; clear_value x)
    | (simp [*]; done)
    | (refine (foldl_seen xe _ _ _ ?_).trans ?_; (on_goal 1 => intro s a))
    | (refine (State.when_seen xe _ _ _ ?_).trans ?_; (on_goal 1 => intro s))
    | split
    | (simp_all; done)

@[simp] theorem epAsk_seen (xe : Extent) (s : State) (xh : xe.covers [.mir] [] = true) :
    State.seen xe (epAsk s) = State.seen xe s := by
  simp only [Extent.covers, List.all_cons, List.all_nil, Bool.and_true, Bool.true_and, Bool.and_eq_true] at xh
  unfold epAsk
  simp [xh]

@[simp] theorem mirRetransmit_seen (xe : Extent) (s : State) (xh : xe.covers [.mir] [] = true) :
    State.seen xe (mirRetransmit s) = State.seen xe s := by
  simp only [Extent.covers, List.all_cons, List.all_nil, Bool.and_true, Bool.true_and, Bool.and_eq_true] at xh
  unfold mirRetransmit
  simp [xh]

@[simp] theorem State.modMlane_seen (xe : Extent) (s : State) (k : Nat) (f : MLane → MLane) (xh : xe.covers [.mir] [] = true) :
    State.seen xe (State.modMlane s k f) = State.seen xe s := by
  simp only [Extent.covers, List.all_cons, List.all_nil, Bool.and_true, Bool.true_and, Bool.and_eq_true] at xh
  unfold State.modMlane
  simp [xh]

@[simp] theorem sendFrames_seen (xe : Extent) (s : State) (xh : xe.covers [.mir] [F.MIR_RETX] = true) :
    State.seen xe (sendFrames s) = State.seen xe s := by
  simp only [Extent.covers, List.all_cons, List.all_nil, Bool.and_true, Bool.true_and, Bool.and_eq_true] at xh
  unfold sendFrames
  simp [xh]

@[simp] theorem beginFrames_seen (xe : Extent) (s : State) (xh : xe.covers [.mir] [] = true) :
    State.seen xe (beginFrames s) = State.seen xe s := by
  simp only [Extent.covers, List.all_cons, List.all_nil, Bool.and_true, Bool.true_and, Bool.and_eq_true] at xh
  unfold beginFrames
  simp [xh]

end Sys2Proof.Machine
end

