-- ==== Sys2Proof/Laws/SeenMirror.lean ====
section
/-! SUPPORT. What what the mirror receives and the roles leave unseen outside the extents they are given (Laws/Seen.lean). -/
namespace Sys2Proof.Machine
set_option linter.all false

@[simp] theorem hearStream_seen (xe : Extent) (k : Nat) (c : MCell) (s : State) (xh : xe.covers [.mir] [] = true) :
    State.seen xe (hearStream k c s) = State.seen xe s := by
  simp only [Extent.covers, List.all_cons, List.all_nil, Bool.and_true, Bool.true_and, Bool.and_eq_true] at xh
  unfold hearStream
  simp [xh]

@[simp] theorem hearAcked_seen (xe : Extent) (k : Nat) (c : MCell) (s : State) (xh : xe.covers [.mir] [] = true) :
    State.seen xe (hearAcked k c s) = State.seen xe s := by
  simp only [Extent.covers, List.all_cons, List.all_nil, Bool.and_true, Bool.true_and, Bool.and_eq_true] at xh
  unfold hearAcked
  simp [xh]

@[simp] theorem hearEpoch_seen (xe : Extent) (k : Nat) (c : MCell) (s : State) (xh : xe.covers [.mir] [] = true) :
    State.seen xe (hearEpoch k c s) = State.seen xe s := by
  simp only [Extent.covers, List.all_cons, List.all_nil, Bool.and_true, Bool.true_and, Bool.and_eq_true] at xh
  unfold hearEpoch
  simp [xh]

@[simp] theorem hearCellM_seen (xe : Extent) (k : Nat) (s : State) (c : MCell) (xh : xe.covers [.mir] [] = true) :
    State.seen xe (hearCellM k s c) = State.seen xe s := by
  simp only [Extent.covers, List.all_cons, List.all_nil, Bool.and_true, Bool.true_and, Bool.and_eq_true] at xh
  unfold hearCellM
  repeat' first
    | (extract_lets +onlyGivenNames x; refine have hx : State.seen xe x = State.seen xe s := ?_; ?_; (on_goal 1 => unfold x); (on_goal 2 => clear_value x))
    | (extract_lets +onlyGivenNames x; refine have hx : State.seen xe x.2 = State.seen xe s := ?_; ?_; (on_goal 1 => unfold x); (on_goal 2 => clear_value x))
    | (extract_lets +onlyGivenNames x; refine have hx : State.seen xe x.2.2 = State.seen xe s := ?_; ?_; (on_goal 1 => unfold x); (on_goal 2 => clear_value x))
    | (extract_lets +onlyGivenNames x; clear_value x)
    | (simp [*]; done)
    | (refine (foldl_seen xe _ _ _ ?_).trans ?_; (on_goal 1 => intro s a))
    | (refine (State.when_seen xe _ _ _ ?_).trans ?_; (on_goal 1 => intro s))
    | split
    | (simp_all; done)

@[simp] theorem hearHeader_seen (xe : Extent) (f : MFrame) (s : State) (xh : xe.covers [.mir] [F.ROL_STAT_SENERR] = true) :
    State.seen xe (hearHeader f s) = State.seen xe s := by
  simp only [Extent.covers, List.all_cons, List.all_nil, Bool.and_true, Bool.true_and, Bool.and_eq_true] at xh
  unfold hearHeader
  simp [xh]

@[simp] theorem hearCells_seen (xe : Extent) (k : Nat) (f : MFrame) (s : State) (xh : xe.covers [.mir] [] = true) :
    State.seen xe (hearCells k f s) = State.seen xe s := by
  simp only [Extent.covers, List.all_cons, List.all_nil, Bool.and_true, Bool.true_and, Bool.and_eq_true] at xh
  unfold hearCells
  simp [xh]

@[simp] theorem upFrame_seen (xe : Extent) (k : Nat) (f : MFrame) (s : State) (xh : xe.covers [.mir] [F.MIR_CRC0, F.MIR_CRC1, F.ROL_STAT_SENERR] = true) :
    State.seen xe (upFrame k f s) = State.seen xe s := by
  simp only [Extent.covers, List.all_cons, List.all_nil, Bool.and_true, Bool.true_and, Bool.and_eq_true] at xh
  unfold upFrame
  repeat' first
    | (extract_lets +onlyGivenNames x; refine have hx : State.seen xe x = State.seen xe s := ?_; ?_; (on_goal 1 => unfold x); (on_goal 2 => clear_value x))
    | (extract_lets +onlyGivenNames x; refine have hx : State.seen xe x.2 = State.seen xe s := ?_; ?_; (on_goal 1 => unfold x); (on_goal 2 => clear_value x))
    | (extract_lets +onlyGivenNames x; refine have hx : State.seen xe x.2.2 = State.seen xe s := ?_; ?_; (on_goal 1 => unfold x); (on_goal 2 => clear_value x))
    | (extract_lets +onlyGivenNames x; clear_value x)
    | (simp [*]; done)
    | (refine (foldl_seen xe _ _ _ ?_).trans ?_; (on_goal 1 => intro s a))
    | (refine (State.when_seen xe _ _ _ ?_).trans ?_; (on_goal 1 => intro s))
    | split
    | (simp_all; done)

@[simp] theorem mirrorFrame_seen (xe : Extent) (k : Nat) (f : MFrame) (eye : Nat) (s : State) (xh : xe.covers [.mir] [F.MIR_CRC0, F.MIR_CRC1, F.ROL_STAT_SENERR] = true) :
    State.seen xe (mirrorFrame k f eye s) = State.seen xe s := by
  simp only [Extent.covers, List.all_cons, List.all_nil, Bool.and_true, Bool.true_and, Bool.and_eq_true] at xh
  unfold mirrorFrame
  repeat' first
    | (extract_lets +onlyGivenNames x; refine have hx : State.seen xe x = State.seen xe s := ?_; ?_; (on_goal 1 => unfold x); (on_goal 2 => clear_value x))
    | (extract_lets +onlyGivenNames x; refine have hx : State.seen xe x.2 = State.seen xe s := ?_; ?_; (on_goal 1 => unfold x); (on_goal 2 => clear_value x))
    | (extract_lets +onlyGivenNames x; refine have hx : State.seen xe x.2.2 = State.seen xe s := ?_; ?_; (on_goal 1 => unfold x); (on_goal 2 => clear_value x))
    | (extract_lets +onlyGivenNames x; clear_value x)
    | (simp [*]; done)
    | (refine (foldl_seen xe _ _ _ ?_).trans ?_; (on_goal 1 => intro s a))
    | (refine (State.when_seen xe _ _ _ ?_).trans ?_; (on_goal 1 => intro s))
    | split
    | (simp_all; done)

@[simp] theorem linkBegin_seen (xe : Extent) (s : State) (xh : xe.covers [.mir] [] = true) :
    State.seen xe (linkBegin s) = State.seen xe s := by
  simp only [Extent.covers, List.all_cons, List.all_nil, Bool.and_true, Bool.true_and, Bool.and_eq_true] at xh
  unfold linkBegin
  simp [xh]

@[simp] theorem mlaneUp_seen (xe : Extent) (k oneway : Nat) (s : State) (xh : xe.covers [.seqs, .mir] [F.ICU_LOSTCNT, F.ICU_OVRw_SRC, F.ICU_PENDw_SRC, F.MIR_DELAY_ONEWAY, F.MIR_FLAGS_DELAYERR] = true) :
    State.seen xe (mlaneUp k oneway s) = State.seen xe s := by
  simp only [Extent.covers, List.all_cons, List.all_nil, Bool.and_true, Bool.true_and, Bool.and_eq_true] at xh
  unfold mlaneUp
  simp [xh]

@[simp] theorem mlaneDown_seen (xe : Extent) (k : Nat) (s : State) (xh : xe.covers [.mir] [] = true) :
    State.seen xe (mlaneDown k s) = State.seen xe s := by
  simp only [Extent.covers, List.all_cons, List.all_nil, Bool.and_true, Bool.true_and, Bool.and_eq_true] at xh
  unfold mlaneDown
  simp [xh]

@[simp] theorem mirTrain_seen (xe : Extent) (s : State) (xh : xe.covers [.mir, .cal] [F.CAL_STAT_DIRTY] = true) :
    State.seen xe (mirTrain s) = State.seen xe s := by
  simp only [Extent.covers, List.all_cons, List.all_nil, Bool.and_true, Bool.true_and, Bool.and_eq_true] at xh
  unfold mirTrain
  simp [xh]

@[simp] theorem mirStatclr_seen (xe : Extent) (s : State) (xh : xe.covers [.port] [F.MIR_CRC0, F.MIR_CRC1, F.MIR_EPCOMMIT, F.MIR_EPDISCARD, F.MIR_RECLATE, F.MIR_RETX, F.MIR_TALLYCNT, F.MIR_TALLYMIS] = true) :
    State.seen xe (mirStatclr s) = State.seen xe s := by
  simp only [Extent.covers, List.all_cons, List.all_nil, Bool.and_true, Bool.true_and, Bool.and_eq_true] at xh
  unfold mirStatclr
  simp [xh]

@[simp] theorem dequeue_seen (xe : Extent) (r : Nat) (s : State) (xh : xe.covers [.sched] [] = true) :
    State.seen xe (dequeue r s) = State.seen xe s := by
  simp only [Extent.covers, List.all_cons, List.all_nil, Bool.and_true, Bool.true_and, Bool.and_eq_true] at xh
  unfold dequeue
  simp [xh]

@[simp] theorem reqSched_seen (xe : Extent) (r source no : Nat) (police : Bool) (s : State) (xh : xe.covers [.sched] [F.SCH_QHWM_DEPTH] = true) :
    State.seen xe (reqSched r source no police s) = State.seen xe s := by
  simp only [Extent.covers, List.all_cons, List.all_nil, Bool.and_true, Bool.true_and, Bool.and_eq_true] at xh
  unfold reqSched
  simp [xh]

@[simp] theorem applyReq_seen (xe : Extent) (r useCnt no source reqFrame : Nat) (police : Bool) (s : State) (xh : xe.covers [.exec, .sched, .mir] [F.MAN_ALLOCCNT, F.MAN_LASTEXEC_EXEC_ID, F.SCH_QHWM_DEPTH] = true) :
    State.seen xe (applyReq r useCnt no source reqFrame police s) = State.seen xe s := by
  simp only [Extent.covers, List.all_cons, List.all_nil, Bool.and_true, Bool.true_and, Bool.and_eq_true] at xh
  unfold applyReq
  extract_lets s1
  have h1 : State.seen xe s1 = State.seen xe s := by simp [s1, xh]
  clear_value s1
  cases s1.man no with
  | none => exact h1
  | some m =>
    have h2 : ∀ g, State.seen xe (allocRec r source reqFrame m (s1.modRec r g)) = State.seen xe s := by
      intro g; simp [h1, xh]
    exact (reqSched_seen xe _ _ _ _ _ (by simp [xh])).trans (h2 _)

@[simp] theorem admitSched_seen (xe : Extent) (r source start : Nat) (m : Manifest) (s : State) (xh : xe.covers [.sched] [F.SCH_BALSAT, F.SCH_PHWM_POWER] = true) :
    State.seen xe (admitSched r source start m s) = State.seen xe s := by
  simp only [Extent.covers, List.all_cons, List.all_nil, Bool.and_true, Bool.true_and, Bool.and_eq_true] at xh
  unfold admitSched
  simp [xh]

@[simp] theorem applyAdmit_seen (xe : Extent) (r alt no start band : Nat) (s : State) (xh : xe.covers [.fab, .exec, .sched] [F.SCH_BALSAT, F.SCH_PHWM_POWER, F.SEG_STAT_BAND] = true) :
    State.seen xe (applyAdmit r alt no start band s) = State.seen xe s := by
  simp only [Extent.covers, List.all_cons, List.all_nil, Bool.and_true, Bool.true_and, Bool.and_eq_true] at xh
  unfold applyAdmit
  repeat' first
    | (extract_lets +onlyGivenNames x; refine have hx : State.seen xe x = State.seen xe s := ?_; ?_; (on_goal 1 => unfold x); (on_goal 2 => clear_value x))
    | (extract_lets +onlyGivenNames x; refine have hx : State.seen xe x.2 = State.seen xe s := ?_; ?_; (on_goal 1 => unfold x); (on_goal 2 => clear_value x))
    | (extract_lets +onlyGivenNames x; refine have hx : State.seen xe x.2.2 = State.seen xe s := ?_; ?_; (on_goal 1 => unfold x); (on_goal 2 => clear_value x))
    | (extract_lets +onlyGivenNames x; clear_value x)
    | (simp [*]; done)
    | (refine (foldl_seen xe _ _ _ ?_).trans ?_; (on_goal 1 => intro s a))
    | (refine (State.when_seen xe _ _ _ ?_).trans ?_; (on_goal 1 => intro s))
    | split
    | (simp_all; done)

@[simp] theorem applyDefer_seen (xe : Extent) (r start : Nat) (s : State) (xh : xe.covers [.exec] [] = true) :
    State.seen xe (applyDefer r start s) = State.seen xe s := by
  simp only [Extent.covers, List.all_cons, List.all_nil, Bool.and_true, Bool.true_and, Bool.and_eq_true] at xh
  unfold applyDefer
  simp [xh]

@[simp] theorem applyVoid_seen (xe : Extent) (r cause fin : Nat) (s : State) (xh : xe.covers [.seqs, .fab, .exec, .sched] [F.ICU_LOSTCNT, F.ICU_OVRw_SRC, F.ICU_PENDw_SRC, F.MAN_DONECNT, F.MAN_PARTCNT, F.MAN_VOIDCNT] = true) :
    State.seen xe (applyVoid r cause fin s) = State.seen xe s := by
  simp only [Extent.covers, List.all_cons, List.all_nil, Bool.and_true, Bool.true_and, Bool.and_eq_true] at xh
  unfold applyVoid
  simp [xh]

@[simp] theorem followBundle_seen (xe : Extent) (b : Nat) (y : Bundle) (s : State) (xh : xe.covers [.fab] [] = true) :
    State.seen xe (followBundle b y s) = State.seen xe s := by
  simp only [Extent.covers, List.all_cons, List.all_nil, Bool.and_true, Bool.true_and, Bool.and_eq_true] at xh
  unfold followBundle
  simp [xh]

@[simp] theorem followPilots_seen (xe : Extent) (at' : Option Nat) (l : List (Nat × Pilot)) (s : State) (xh : xe.covers [.fab] [F.PIL_APPLYF_FRAME, F.PIL_STAT_BUSY] = true) :
    State.seen xe (followPilots at' l s) = State.seen xe s := by
  simp only [Extent.covers, List.all_cons, List.all_nil, Bool.and_true, Bool.true_and, Bool.and_eq_true] at xh
  unfold followPilots
  simp [xh]

@[simp] theorem followTsets_seen (xe : Extent) (q : Nat) (c : Option Change) (sets : List TSet) (asg : List Nat) (s : State) (xh : xe.covers [.quays] [F.QY_TSASGj_SET0, F.QY_TSASGj_SET1, F.QY_TSASGj_SET2, F.QY_TSASGj_SET3, F.QY_TSASGj_SET4, F.QY_TSASGj_SET5, F.QY_TSASGj_SET6, F.QY_TSASGj_SET7, F.QY_TSETn_PILOFF, F.QY_TSETn_SAMP, F.QY_TSETn_STROBE] = true) :
    State.seen xe (followTsets q c sets asg s) = State.seen xe s := by
  simp only [Extent.covers, List.all_cons, List.all_nil, Bool.and_true, Bool.true_and, Bool.and_eq_true] at xh
  unfold followTsets
  have ht : ∀ n, xe.r (tsasgFlds.getD (n % 8) F.QY_TSASGj_SET0) = true := by
    intro n
    have : n % 8 < 8 := Nat.mod_lt _ (by decide)
    generalize n % 8 = k at this ⊢
    interval_cases k <;> simp [tsasgFlds, xh]
  extract_lets s1 s2
  have h1 : State.seen xe s1 = State.seen xe s := by simp only [s1]; refine foldl_seen xe _ _ _ ?_; intro s n; simp [xh]
  clear_value s1
  have h2 : State.seen xe s2 = State.seen xe s := by
    simp only [s2]; refine (foldl_seen xe _ _ _ ?_).trans h1; intro s n; exact State.fsi_seen xe s _ _ _ (ht n.2)
  simp [h2, xh]

@[simp] theorem followLoaded_seen (xe : Extent) (e : Nat) (s : State) (xh : xe.covers [.fab] [] = true) :
    State.seen xe (followLoaded e s) = State.seen xe s := by
  simp only [Extent.covers, List.all_cons, List.all_nil, Bool.and_true, Bool.true_and, Bool.and_eq_true] at xh
  unfold followLoaded
  repeat' first
    | (extract_lets +onlyGivenNames x; refine have hx : State.seen xe x = State.seen xe s := ?_; ?_; (on_goal 1 => unfold x); (on_goal 2 => clear_value x))
    | (extract_lets +onlyGivenNames x; refine have hx : State.seen xe x.2 = State.seen xe s := ?_; ?_; (on_goal 1 => unfold x); (on_goal 2 => clear_value x))
    | (extract_lets +onlyGivenNames x; refine have hx : State.seen xe x.2.2 = State.seen xe s := ?_; ?_; (on_goal 1 => unfold x); (on_goal 2 => clear_value x))
    | (extract_lets +onlyGivenNames x; clear_value x)
    | (simp [*]; done)
    | (refine (foldl_seen xe _ _ _ ?_).trans ?_; (on_goal 1 => intro s a))
    | (refine (State.when_seen xe _ _ _ ?_).trans ?_; (on_goal 1 => intro s))
    | split
    | (simp_all; done)

@[simp] theorem followCal_seen (xe : Extent) (f : CalSt → CalSt) (s : State) (xh : xe.covers [.cal] [F.CAL_STAT_DIRTY] = true) :
    State.seen xe (followCal f s) = State.seen xe s := by
  simp only [Extent.covers, List.all_cons, List.all_nil, Bool.and_true, Bool.true_and, Bool.and_eq_true] at xh
  unfold followCal
  simp [xh]

@[simp] theorem putQuayCal_seen (xe : Extent) (q : Nat) (v : QuayCal) (s : State) (xh : xe.covers [.quays] [F.QY_DRVSTAT_LVLERR, F.QY_HALFLVL_LEVEL, F.QY_RNGGAINr_GAIN] = true) :
    State.seen xe (putQuayCal q v s) = State.seen xe s := by
  simp only [Extent.covers, List.all_cons, List.all_nil, Bool.and_true, Bool.true_and, Bool.and_eq_true] at xh
  unfold putQuayCal
  simp [xh]

@[simp] theorem followQuayCal_seen (xe : Extent) (q : Nat) (v : QuayCal) (s : State) (xh : xe.covers [.quays, .cal] [F.CAL_STAT_DIRTY, F.QY_DRVSTAT_LVLERR, F.QY_HALFLVL_LEVEL, F.QY_RNGGAINr_GAIN] = true) :
    State.seen xe (followQuayCal q v s) = State.seen xe s := by
  simp only [Extent.covers, List.all_cons, List.all_nil, Bool.and_true, Bool.true_and, Bool.and_eq_true] at xh
  unfold followQuayCal
  simp [xh]

@[simp] theorem followTide_seen (xe : Extent) (t : TideSt) (s : State) (xh : xe.covers [.tide] [F.TID_ACYCLE_CYCLE, F.TID_PSTART_FRAME] = true) :
    State.seen xe (followTide t s) = State.seen xe s := by
  simp only [Extent.covers, List.all_cons, List.all_nil, Bool.and_true, Bool.true_and, Bool.and_eq_true] at xh
  unfold followTide
  repeat' first
    | (extract_lets +onlyGivenNames x; refine have hx : State.seen xe x = State.seen xe s := ?_; ?_; (on_goal 1 => unfold x); (on_goal 2 => clear_value x))
    | (extract_lets +onlyGivenNames x; refine have hx : State.seen xe x.2 = State.seen xe s := ?_; ?_; (on_goal 1 => unfold x); (on_goal 2 => clear_value x))
    | (extract_lets +onlyGivenNames x; refine have hx : State.seen xe x.2.2 = State.seen xe s := ?_; ?_; (on_goal 1 => unfold x); (on_goal 2 => clear_value x))
    | (extract_lets +onlyGivenNames x; clear_value x)
    | (simp [*]; done)
    | (refine (foldl_seen xe _ _ _ ?_).trans ?_; (on_goal 1 => intro s a))
    | (refine (State.when_seen xe _ _ _ ?_).trans ?_; (on_goal 1 => intro s))
    | split
    | (simp_all; done)

@[simp] theorem applyConfig_seen (xe : Extent) (c : MConfig) (s : State) (xh : xe.covers [.fab, .quays, .exec, .tide, .cal] [] = true) (xha : xe.all = true) :
    State.seen xe (applyConfig c s) = State.seen xe s := by
  simp only [Extent.covers, List.all_cons, List.all_nil, Bool.and_true, Bool.true_and, Bool.and_eq_true] at xh
  have xhr : ∀ f, xe.r f = true := fun f => xe.r_of_all f xha
  unfold applyConfig
  repeat' first
    | (extract_lets +onlyGivenNames x; refine have hx : State.seen xe x = State.seen xe s := ?_; ?_; (on_goal 1 => unfold x); (on_goal 2 => clear_value x))
    | (extract_lets +onlyGivenNames x; refine have hx : State.seen xe x.2 = State.seen xe s := ?_; ?_; (on_goal 1 => unfold x); (on_goal 2 => clear_value x))
    | (extract_lets +onlyGivenNames x; refine have hx : State.seen xe x.2.2 = State.seen xe s := ?_; ?_; (on_goal 1 => unfold x); (on_goal 2 => clear_value x))
    | (extract_lets +onlyGivenNames x; clear_value x)
    | (simp [*]; done)
    | (refine (foldl_seen xe _ _ _ ?_).trans ?_; (on_goal 1 => intro s a))
    | (refine (State.when_seen xe _ _ _ ?_).trans ?_; (on_goal 1 => intro s))
    | split
    | (simp_all; done)

@[simp] theorem applyHold_seen (xe : Extent) (b : Nat) (codes : List Int) (s : State) (xh : xe.covers [.mir] [] = true) :
    State.seen xe (applyHold b codes s) = State.seen xe s := by
  simp only [Extent.covers, List.all_cons, List.all_nil, Bool.and_true, Bool.true_and, Bool.and_eq_true] at xh
  unfold applyHold
  simp [xh]

@[simp] theorem putHeld_seen (xe : Extent) (b : Nat) (s : State) (xh : xe.covers [.fab] [] = true) :
    State.seen xe (putHeld b s) = State.seen xe s := by
  simp only [Extent.covers, List.all_cons, List.all_nil, Bool.and_true, Bool.true_and, Bool.and_eq_true] at xh
  unfold putHeld
  simp [xh]

@[simp] theorem heldTick_seen (xe : Extent) (s : State) (xh : xe.covers [.fab] [] = true) :
    State.seen xe (heldTick s) = State.seen xe s := by
  simp only [Extent.covers, List.all_cons, List.all_nil, Bool.and_true, Bool.true_and, Bool.and_eq_true] at xh
  unfold heldTick
  simp [xh]

@[simp] theorem applySession_seen (xe : Extent) (i : Nat) (x : Sess) (s : State) (xh : xe.covers [.pen] [] = true) :
    State.seen xe (applySession i x s) = State.seen xe s := by
  simp only [Extent.covers, List.all_cons, List.all_nil, Bool.and_true, Bool.true_and, Bool.and_eq_true] at xh
  unfold applySession
  simp [xh]

@[simp] theorem ordPast_seen (xe : Extent) (n : Nat) (s : State) (xh : xe.covers [.pen] [] = true) :
    State.seen xe (ordPast n s) = State.seen xe s := by
  simp only [Extent.covers, List.all_cons, List.all_nil, Bool.and_true, Bool.true_and, Bool.and_eq_true] at xh
  unfold ordPast
  simp [xh]

@[simp] theorem applyCache_seen (xe : Extent) (i k : Nat) (e : CEntry) (s : State) (xh : xe.covers [.pen] [] = true) :
    State.seen xe (applyCache i k e s) = State.seen xe s := by
  simp only [Extent.covers, List.all_cons, List.all_nil, Bool.and_true, Bool.true_and, Bool.and_eq_true] at xh
  unfold applyCache
  simp [xh]

@[simp] theorem applyEpStart_seen (xe : Extent) (e : Nat) (bundles : List Nat) (join : Bool) (s : State) (xh : xe.covers [.mir] [F.MIR_EPOCH_CUR] = true) :
    State.seen xe (applyEpStart e bundles join s) = State.seen xe s := by
  simp only [Extent.covers, List.all_cons, List.all_nil, Bool.and_true, Bool.true_and, Bool.and_eq_true] at xh
  unfold applyEpStart
  simp [xh]

@[simp] theorem setEpoch_seen (xe : Extent) (e : Epoch) (s : State) (xh : xe.covers [.mir] [] = true) :
    State.seen xe (setEpoch e s) = State.seen xe s := by
  simp only [Extent.covers, List.all_cons, List.all_nil, Bool.and_true, Bool.true_and, Bool.and_eq_true] at xh
  unfold setEpoch
  simp [xh]

@[simp] theorem applyBrec_seen (xe : Extent) (b e f : Nat) (c : BunCopy) (s : State) (xh : xe.covers [.mir] [F.MIR_RECLATE] = true) :
    State.seen xe (applyBrec b e f c s) = State.seen xe s := by
  simp only [Extent.covers, List.all_cons, List.all_nil, Bool.and_true, Bool.true_and, Bool.and_eq_true] at xh
  unfold applyBrec
  repeat' first
    | (extract_lets +onlyGivenNames x; refine have hx : State.seen xe x = State.seen xe s := ?_; ?_; (on_goal 1 => unfold x); (on_goal 2 => clear_value x))
    | (extract_lets +onlyGivenNames x; refine have hx : State.seen xe x.2 = State.seen xe s := ?_; ?_; (on_goal 1 => unfold x); (on_goal 2 => clear_value x))
    | (extract_lets +onlyGivenNames x; refine have hx : State.seen xe x.2.2 = State.seen xe s := ?_; ?_; (on_goal 1 => unfold x); (on_goal 2 => clear_value x))
    | (extract_lets +onlyGivenNames x; clear_value x)
    | (simp [*]; done)
    | (refine (foldl_seen xe _ _ _ ?_).trans ?_; (on_goal 1 => intro s a))
    | (refine (State.when_seen xe _ _ _ ?_).trans ?_; (on_goal 1 => intro s))
    | split
    | (simp_all; done)

@[simp] theorem applySblk_seen (xe : Extent) (e snap : Nat) (b : SBlk) (s : State) (xh : xe.covers [.mir] [] = true) :
    State.seen xe (applySblk e snap b s) = State.seen xe s := by
  simp only [Extent.covers, List.all_cons, List.all_nil, Bool.and_true, Bool.true_and, Bool.and_eq_true] at xh
  unfold applySblk
  repeat' first
    | (extract_lets +onlyGivenNames x; refine have hx : State.seen xe x = State.seen xe s := ?_; ?_; (on_goal 1 => unfold x); (on_goal 2 => clear_value x))
    | (extract_lets +onlyGivenNames x; refine have hx : State.seen xe x.2 = State.seen xe s := ?_; ?_; (on_goal 1 => unfold x); (on_goal 2 => clear_value x))
    | (extract_lets +onlyGivenNames x; refine have hx : State.seen xe x.2.2 = State.seen xe s := ?_; ?_; (on_goal 1 => unfold x); (on_goal 2 => clear_value x))
    | (extract_lets +onlyGivenNames x; clear_value x)
    | (simp [*]; done)
    | (refine (foldl_seen xe _ _ _ ?_).trans ?_; (on_goal 1 => intro s a))
    | (refine (State.when_seen xe _ _ _ ?_).trans ?_; (on_goal 1 => intro s))
    | split
    | (simp_all; done)

@[simp] theorem applyEpEnd_seen (xe : Extent) (e count crc : Nat) (s : State) (xh : xe.covers [.mir] [] = true) :
    State.seen xe (applyEpEnd e count crc s) = State.seen xe s := by
  simp only [Extent.covers, List.all_cons, List.all_nil, Bool.and_true, Bool.true_and, Bool.and_eq_true] at xh
  unfold applyEpEnd
  repeat' first
    | (extract_lets +onlyGivenNames x; refine have hx : State.seen xe x = State.seen xe s := ?_; ?_; (on_goal 1 => unfold x); (on_goal 2 => clear_value x))
    | (extract_lets +onlyGivenNames x; refine have hx : State.seen xe x.2 = State.seen xe s := ?_; ?_; (on_goal 1 => unfold x); (on_goal 2 => clear_value x))
    | (extract_lets +onlyGivenNames x; refine have hx : State.seen xe x.2.2 = State.seen xe s := ?_; ?_; (on_goal 1 => unfold x); (on_goal 2 => clear_value x))
    | (extract_lets +onlyGivenNames x; clear_value x)
    | (simp [*]; done)
    | (refine (foldl_seen xe _ _ _ ?_).trans ?_; (on_goal 1 => intro s a))
    | (refine (State.when_seen xe _ _ _ ?_).trans ?_; (on_goal 1 => intro s))
    | split
    | (simp_all; done)

@[simp] theorem epDiscard_seen (xe : Extent) (s : State) (xh : xe.covers [.seqs, .mir] [F.ICU_LOSTCNT, F.ICU_OVRw_SRC, F.ICU_PENDw_SRC, F.MIR_EPDISCARD, F.MIR_FLAGS_EPDISC] = true) :
    State.seen xe (epDiscard s) = State.seen xe s := by
  simp only [Extent.covers, List.all_cons, List.all_nil, Bool.and_true, Bool.true_and, Bool.and_eq_true] at xh
  unfold epDiscard
  repeat' first
    | (extract_lets +onlyGivenNames x; refine have hx : State.seen xe x = State.seen xe s := ?_; ?_; (on_goal 1 => unfold x); (on_goal 2 => clear_value x))
    | (extract_lets +onlyGivenNames x; refine have hx : State.seen xe x.2 = State.seen xe s := ?_; ?_; (on_goal 1 => unfold x); (on_goal 2 => clear_value x))
    | (extract_lets +onlyGivenNames x; refine have hx : State.seen xe x.2.2 = State.seen xe s := ?_; ?_; (on_goal 1 => unfold x); (on_goal 2 => clear_value x))
    | (extract_lets +onlyGivenNames x; clear_value x)
    | (simp [*]; done)
    | (refine (foldl_seen xe _ _ _ ?_).trans ?_; (on_goal 1 => intro s a))
    | (refine (State.when_seen xe _ _ _ ?_).trans ?_; (on_goal 1 => intro s))
    | split
    | (simp_all; done)

@[simp] theorem joinRecs_seen (xe : Extent) (x : ExecSt) (s : State) (xh : xe.covers [.exec] [] = true) :
    State.seen xe (joinRecs x s) = State.seen xe s := by
  simp only [Extent.covers, List.all_cons, List.all_nil, Bool.and_true, Bool.true_and, Bool.and_eq_true] at xh
  unfold joinRecs
  simp [xh]

@[simp] theorem joinSched_seen (xe : Extent) (snap : Nat) (x : SchedSt) (s : State) (xh : xe.covers [.sched] [] = true) :
    State.seen xe (joinSched snap x s) = State.seen xe s := by
  simp only [Extent.covers, List.all_cons, List.all_nil, Bool.and_true, Bool.true_and, Bool.and_eq_true] at xh
  unfold joinSched
  simp [xh]

@[simp] theorem replaySched_seen (xe : Extent) (s : State) (m : MMsg) (xh : xe.covers [.sched] [F.SCH_BALSAT, F.SCH_PHWM_POWER, F.SCH_QHWM_DEPTH, F.SEG_STAT_BAND] = true) :
    State.seen xe (replaySched s m) = State.seen xe s := by
  simp only [Extent.covers, List.all_cons, List.all_nil, Bool.and_true, Bool.true_and, Bool.and_eq_true] at xh
  unfold replaySched
  repeat' first
    | (extract_lets +onlyGivenNames x; refine have hx : State.seen xe x = State.seen xe s := ?_; ?_; (on_goal 1 => unfold x); (on_goal 2 => clear_value x))
    | (extract_lets +onlyGivenNames x; refine have hx : State.seen xe x.2 = State.seen xe s := ?_; ?_; (on_goal 1 => unfold x); (on_goal 2 => clear_value x))
    | (extract_lets +onlyGivenNames x; refine have hx : State.seen xe x.2.2 = State.seen xe s := ?_; ?_; (on_goal 1 => unfold x); (on_goal 2 => clear_value x))
    | (extract_lets +onlyGivenNames x; clear_value x)
    | (simp [*]; done)
    | (refine (foldl_seen xe _ _ _ ?_).trans ?_; (on_goal 1 => intro s a))
    | (refine (State.when_seen xe _ _ _ ?_).trans ?_; (on_goal 1 => intro s))
    | split
    | (simp_all; done)

@[simp] theorem joinSlots_seen (xe : Extent) (snap : Nat) (recs : Tbl ExecRec) (was : Tbl ExecRec) (l : List SlotCopy) (b : Tbl Bundle) (s : State) (xh : xe.covers [.fab] [] = true) :
    State.seen xe (joinSlots snap recs was l b s) = State.seen xe s := by
  simp only [Extent.covers, List.all_cons, List.all_nil, Bool.and_true, Bool.true_and, Bool.and_eq_true] at xh
  unfold joinSlots
  simp [xh]

@[simp] theorem joinBlock_seen (xe : Extent) (recs was : Tbl ExecRec) (p : Nat × SBlk) (s : State) (xh : xe.covers [.fresh, .table, .fab, .quays, .exec, .sched, .tide, .pen, .cal] [] = true) (xha : xe.all = true) :
    State.seen xe (joinBlock recs was p s) = State.seen xe s := by
  simp only [Extent.covers, List.all_cons, List.all_nil, Bool.and_true, Bool.true_and, Bool.and_eq_true] at xh
  have xhr : ∀ f, xe.r f = true := fun f => xe.r_of_all f xha
  unfold joinBlock
  extract_lets since cfg
  split
  · refine (foldl_seen xe _ _ _ ?_).trans (by simp [xh, xha, xhr])
    intro s c; split <;> simp [xh, xha, xhr]
  · refine (foldl_seen xe _ _ _ (fun s a => ?_)).trans ?_ <;> simp [xh, xha, xhr]
  · refine (foldl_seen xe _ _ _ ?_).trans (by simp [xh, xha, xhr])
    intro s c; split <;> simp [xh, xha, xhr]
  · split <;> simp [xh, xha, xhr]
  · split
    · rfl
    · exact foldl_seen xe _ _ _ (by intro s c; simp [xh, xha, xhr])
  · split <;> simp [xh, xha, xhr]
  · extract_lets s1
    have h1 : State.seen xe s1 = State.seen xe s := by
      unfold s1
      refine foldl_seen xe _ _ _ ?_
      intro s e
      refine foldl_seen xe _ _ _ ?_
      intro s c; simp [xh, xha, xhr]
    clear_value s1
    simp [h1, xh, xha, xhr]
  · refine foldl_seen xe _ _ _ ?_
    intro s o; split <;> simp [xh, xha, xhr]
  · refine (foldl_seen xe _ _ _ ?_).trans (foldl_seen xe _ _ _ ?_)
    · intro s c; split <;> simp [xh, xha, xhr]
    · intro s e; simp [xh, xha, xhr]

@[simp] theorem joinBlocks_seen (xe : Extent) (l : List (Nat × SBlk)) (s : State) (xh : xe.covers [.fresh, .table, .fab, .quays, .exec, .sched, .tide, .pen, .cal] [] = true) (xha : xe.all = true) :
    State.seen xe (joinBlocks l s) = State.seen xe s := by
  simp only [Extent.covers, List.all_cons, List.all_nil, Bool.and_true, Bool.true_and, Bool.and_eq_true] at xh
  have xhr : ∀ f, xe.r f = true := fun f => xe.r_of_all f xha
  unfold joinBlocks
  simp [xh, xha, xhr]

@[simp] theorem epCommit_seen (xe : Extent) (s : State) (xh : xe.covers [.fresh, .table, .fab, .quays, .exec, .sched, .tide, .pen, .mir, .cal] [] = true) (xha : xe.all = true) :
    State.seen xe (epCommit s) = State.seen xe s := by
  simp only [Extent.covers, List.all_cons, List.all_nil, Bool.and_true, Bool.true_and, Bool.and_eq_true] at xh
  have xhr : ∀ f, xe.r f = true := fun f => xe.r_of_all f xha
  unfold epCommit
  split
  · rename_i e _
    split
    · extract_lets s1 s2 s3
      have h1 : State.seen xe s1 = State.seen xe s := by simp only [s1]; split <;> simp [xh, xha, xhr]
      clear_value s1
      have h2 : State.seen xe s2 = State.seen xe s1 := by
        refine foldl_seen xe _ _ _ ?_
        intro s b
        split <;> simp [xh, xha, xhr]
      clear_value s2
      have h3 : State.seen xe s3 = State.seen xe s := by simp [s3, h2, h1, xh, xha, xhr]
      clear_value s3
      split <;> simp [h3, xh, xha, xhr]
    · rfl
  · rfl

@[simp] theorem epTimeout_seen (xe : Extent) (s : State) (xh : xe.covers [.seqs, .mir] [F.ICU_LOSTCNT, F.ICU_OVRw_SRC, F.ICU_PENDw_SRC, F.MIR_EPDISCARD, F.MIR_FLAGS_EPDISC] = true) :
    State.seen xe (epTimeout s) = State.seen xe s := by
  simp only [Extent.covers, List.all_cons, List.all_nil, Bool.and_true, Bool.true_and, Bool.and_eq_true] at xh
  unfold epTimeout
  repeat' first
    | (extract_lets +onlyGivenNames x; refine have hx : State.seen xe x = State.seen xe s := ?_; ?_; (on_goal 1 => unfold x); (on_goal 2 => clear_value x))
    | (extract_lets +onlyGivenNames x; refine have hx : State.seen xe x.2 = State.seen xe s := ?_; ?_; (on_goal 1 => unfold x); (on_goal 2 => clear_value x))
    | (extract_lets +onlyGivenNames x; refine have hx : State.seen xe x.2.2 = State.seen xe s := ?_; ?_; (on_goal 1 => unfold x); (on_goal 2 => clear_value x))
    | (extract_lets +onlyGivenNames x; clear_value x)
    | (simp [*]; done)
    | (refine (foldl_seen xe _ _ _ ?_).trans ?_; (on_goal 1 => intro s a))
    | (refine (State.when_seen xe _ _ _ ?_).trans ?_; (on_goal 1 => intro s))
    | split
    | (simp_all; done)

@[simp] theorem mirEpoch_seen (xe : Extent) (s : State) (xh : xe.covers [.mir] [] = true) :
    State.seen xe (mirEpoch s) = State.seen xe s := by
  simp only [Extent.covers, List.all_cons, List.all_nil, Bool.and_true, Bool.true_and, Bool.and_eq_true] at xh
  unfold mirEpoch
  simp [xh]

@[simp] theorem mirResync_seen (xe : Extent) (s : State) (xh : xe.covers [.mir] [F.ROL_STAT_READY] = true) :
    State.seen xe (mirResync s) = State.seen xe s := by
  simp only [Extent.covers, List.all_cons, List.all_nil, Bool.and_true, Bool.true_and, Bool.and_eq_true] at xh
  unfold mirResync
  simp [xh]

@[simp] theorem swapDrop_seen (xe : Extent) (reason : Nat) (s : State) (xh : xe.covers [.mir] [F.ROL_STAT_SWREASON] = true) :
    State.seen xe (swapDrop reason s) = State.seen xe s := by
  simp only [Extent.covers, List.all_cons, List.all_nil, Bool.and_true, Bool.true_and, Bool.and_eq_true] at xh
  unfold swapDrop
  simp [xh]

@[simp] theorem swapLoss_seen (xe : Extent) (s : State) (xh : xe.covers [.mir] [F.ROL_STAT_SWREASON] = true) :
    State.seen xe (swapLoss s) = State.seen xe s := by
  simp only [Extent.covers, List.all_cons, List.all_nil, Bool.and_true, Bool.true_and, Bool.and_eq_true] at xh
  unfold swapLoss
  repeat' first
    | (extract_lets +onlyGivenNames x; refine have hx : State.seen xe x = State.seen xe s := ?_; ?_; (on_goal 1 => unfold x); (on_goal 2 => clear_value x))
    | (extract_lets +onlyGivenNames x; refine have hx : State.seen xe x.2 = State.seen xe s := ?_; ?_; (on_goal 1 => unfold x); (on_goal 2 => clear_value x))
    | (extract_lets +onlyGivenNames x; refine have hx : State.seen xe x.2.2 = State.seen xe s := ?_; ?_; (on_goal 1 => unfold x); (on_goal 2 => clear_value x))
    | (extract_lets +onlyGivenNames x; clear_value x)
    | (simp [*]; done)
    | (refine (foldl_seen xe _ _ _ ?_).trans ?_; (on_goal 1 => intro s a))
    | (refine (State.when_seen xe _ _ _ ?_).trans ?_; (on_goal 1 => intro s))
    | split
    | (simp_all; done)

@[simp] theorem streamLoss_seen (xe : Extent) (s : State) (xh : xe.covers [.seqs, .fab, .mir] [F.ICU_LOSTCNT, F.ICU_OVRw_SRC, F.ICU_PENDw_SRC, F.MIR_EPDISCARD, F.MIR_FLAGS_EPDISC, F.MIR_FLAGS_STREAMLOSS, F.MIR_STAT_SYNC, F.ROL_STAT_READY, F.ROL_STAT_SWREASON] = true) :
    State.seen xe (streamLoss s) = State.seen xe s := by
  simp only [Extent.covers, List.all_cons, List.all_nil, Bool.and_true, Bool.true_and, Bool.and_eq_true] at xh
  unfold streamLoss
  simp [xh]

@[simp] theorem applyHello_seen (xe : Extent) (k : Nat) (digest : List Byte) (devid : Nat) (s : State) (xh : xe.covers [.seqs, .log, .mir, .port] [F.DBG_FLTSTAT_CLASS, F.ICU_LOSTCNT, F.ICU_OVRw_SRC, F.ICU_PENDw_SRC, F.MIR_EPDISCARD, F.MIR_FLAGS_EPDISC, F.MIR_FLAGS_LOOP, F.ROL_ALARM_IMGMIS] = true) :
    State.seen xe (applyHello k digest devid s) = State.seen xe s := by
  simp only [Extent.covers, List.all_cons, List.all_nil, Bool.and_true, Bool.true_and, Bool.and_eq_true] at xh
  unfold applyHello
  simp [xh]

@[simp] theorem applyAck_seen (xe : Extent) (acked epoch : Nat) (s : State) (xh : xe.covers [.pen, .mir] [F.NET_TXDROP] = true) :
    State.seen xe (applyAck acked epoch s) = State.seen xe s := by
  simp only [Extent.covers, List.all_cons, List.all_nil, Bool.and_true, Bool.true_and, Bool.and_eq_true] at xh
  unfold applyAck
  simp [xh]

@[simp] theorem objTick_seen (xe : Extent) (f n : Nat) (s : State) (xh : xe.covers [.fresh, .table, .fab, .exec, .tide, .pen, .mir] [] = true) :
    State.seen xe (objTick f n s) = State.seen xe s := by
  simp only [Extent.covers, List.all_cons, List.all_nil, Bool.and_true, Bool.true_and, Bool.and_eq_true] at xh
  induction n generalizing s with
  | zero => rfl
  | succ n ih =>
    unfold objTick
    split
    · split
      · split
        · rename_i t heq
          have h := placeObj_seen xe _ _ _ (by simp [xh]) t heq
          rw [ih]; simp [h, xh]
        · rfl
      · rfl
    · rfl

@[simp] theorem applyMsg_seen (xe : Extent) (k : Nat) (m : MMsg) (s : State) (xh : xe.covers [.fresh, .seqs, .log, .table, .fab, .quays, .exec, .sched, .tide, .pen, .mir, .cal, .port] [] = true) (xha : xe.all = true) :
    State.seen xe (applyMsg k m s) = State.seen xe s := by
  simp only [Extent.covers, List.all_cons, List.all_nil, Bool.and_true, Bool.true_and, Bool.and_eq_true] at xh
  have xhr : ∀ f, xe.r f = true := fun f => xe.r_of_all f xha
  unfold applyMsg
  split
  all_goals first | rfl | (simp [xh, xha, xhr]; done) | (split <;> simp [xh, xha, xhr])

@[simp] theorem actFront_seen (xe : Extent) (s : State) (xh : xe.covers [.fresh, .seqs, .log, .table, .fab, .quays, .exec, .sched, .tide, .pen, .mir, .cal, .port] [] = true) (xha : xe.all = true) :
    State.seen xe (actFront s) = State.seen xe s := by
  simp only [Extent.covers, List.all_cons, List.all_nil, Bool.and_true, Bool.true_and, Bool.and_eq_true] at xh
  have xhr : ∀ f, xe.r f = true := fun f => xe.r_of_all f xha
  unfold actFront
  repeat' first
    | (extract_lets +onlyGivenNames x; refine have hx : State.seen xe x = State.seen xe s := ?_; ?_; (on_goal 1 => unfold x); (on_goal 2 => clear_value x))
    | (extract_lets +onlyGivenNames x; refine have hx : State.seen xe x.2 = State.seen xe s := ?_; ?_; (on_goal 1 => unfold x); (on_goal 2 => clear_value x))
    | (extract_lets +onlyGivenNames x; refine have hx : State.seen xe x.2.2 = State.seen xe s := ?_; ?_; (on_goal 1 => unfold x); (on_goal 2 => clear_value x))
    | (extract_lets +onlyGivenNames x; clear_value x)
    | (simp [*]; done)
    | (refine (foldl_seen xe _ _ _ ?_).trans ?_; (on_goal 1 => intro s a))
    | (refine (State.when_seen xe _ _ _ ?_).trans ?_; (on_goal 1 => intro s))
    | split
    | (simp_all; done)

@[simp] theorem actKind_seen (xe : Extent) (kind : MMsg → Bool) (s : State) (xh : xe.covers [.fresh, .seqs, .log, .table, .fab, .quays, .exec, .sched, .tide, .pen, .mir, .cal, .port] [] = true) (xha : xe.all = true) :
    State.seen xe (actKind kind s) = State.seen xe s := by
  simp only [Extent.covers, List.all_cons, List.all_nil, Bool.and_true, Bool.true_and, Bool.and_eq_true] at xh
  have xhr : ∀ f, xe.r f = true := fun f => xe.r_of_all f xha
  unfold actKind
  repeat' first
    | (extract_lets +onlyGivenNames x; refine have hx : State.seen xe x = State.seen xe s := ?_; ?_; (on_goal 1 => unfold x); (on_goal 2 => clear_value x))
    | (extract_lets +onlyGivenNames x; refine have hx : State.seen xe x.2 = State.seen xe s := ?_; ?_; (on_goal 1 => unfold x); (on_goal 2 => clear_value x))
    | (extract_lets +onlyGivenNames x; refine have hx : State.seen xe x.2.2 = State.seen xe s := ?_; ?_; (on_goal 1 => unfold x); (on_goal 2 => clear_value x))
    | (extract_lets +onlyGivenNames x; clear_value x)
    | (simp [*]; done)
    | (refine (foldl_seen xe _ _ _ ?_).trans ?_; (on_goal 1 => intro s a))
    | (refine (State.when_seen xe _ _ _ ?_).trans ?_; (on_goal 1 => intro s))
    | split
    | (simp_all; done)

@[simp] theorem pruneHistory_seen (xe : Extent) (s : State) (xh : xe.covers [.mir] [] = true) :
    State.seen xe (pruneHistory s) = State.seen xe s := by
  simp only [Extent.covers, List.all_cons, List.all_nil, Bool.and_true, Bool.true_and, Bool.and_eq_true] at xh
  unfold pruneHistory
  simp [xh]

@[simp] theorem mlaneTick_seen (xe : Extent) (k : Nat) (s : State) (xh : xe.covers [.mir] [] = true) :
    State.seen xe (mlaneTick k s) = State.seen xe s := by
  simp only [Extent.covers, List.all_cons, List.all_nil, Bool.and_true, Bool.true_and, Bool.and_eq_true] at xh
  unfold mlaneTick
  simp [xh]

@[simp] theorem mirLinkTick_seen (xe : Extent) (s : State) (xh : xe.covers [.pen, .mir] [F.MIR_STAT_UP, F.NET_TXDROP] = true) :
    State.seen xe (mirLinkTick s) = State.seen xe s := by
  simp only [Extent.covers, List.all_cons, List.all_nil, Bool.and_true, Bool.true_and, Bool.and_eq_true] at xh
  unfold mirLinkTick
  simp [xh]

@[simp] theorem unsyncLanes_seen (xe : Extent) (s : State) (xh : xe.covers [.fab] [] = true) :
    State.seen xe (unsyncLanes s) = State.seen xe s := by
  simp only [Extent.covers, List.all_cons, List.all_nil, Bool.and_true, Bool.true_and, Bool.and_eq_true] at xh
  unfold unsyncLanes
  simp [xh]

@[simp] theorem hbtIn_seen (xe : Extent) (s : State) (xh : xe.covers [.mir] [] = true) :
    State.seen xe (hbtIn s) = State.seen xe s := by
  simp only [Extent.covers, List.all_cons, List.all_nil, Bool.and_true, Bool.true_and, Bool.and_eq_true] at xh
  unfold hbtIn
  simp [xh]

@[simp] theorem actIn_seen (xe : Extent) (s : State) (xh : xe.covers [.mir] [] = true) :
    State.seen xe (actIn s) = State.seen xe s := by
  simp only [Extent.covers, List.all_cons, List.all_nil, Bool.and_true, Bool.true_and, Bool.and_eq_true] at xh
  unfold actIn
  simp [xh]

@[simp] theorem pinTick_seen (xe : Extent) (s : State) (xh : xe.covers [.mir] [] = true) :
    State.seen xe (pinTick s) = State.seen xe s := by
  simp only [Extent.covers, List.all_cons, List.all_nil, Bool.and_true, Bool.true_and, Bool.and_eq_true] at xh
  unfold pinTick
  simp [xh]

@[simp] theorem bcnRoles_seen (xe : Extent) (s : State) (xh : xe.covers [] [F.TIM_BCNCFG_RELAY, F.TIM_BCNCFG_ROLE, F.TIM_T3CFG_PRI, F.TIM_T3CFG_SEC] = true) :
    State.seen xe (bcnRoles s) = State.seen xe s := by
  simp only [Extent.covers, List.all_cons, List.all_nil, Bool.and_true, Bool.true_and, Bool.and_eq_true] at xh
  unfold bcnRoles
  extract_lets pri sec set
  have h : ∀ a b c d s, State.seen xe (set a b c d s) = State.seen xe s := by intro a b c d s; simp [set, xh]
  clear_value set
  split
  · split <;> simp [h]
  · split <;> simp [h]
  · rfl

@[simp] theorem holdAuthority_seen (xe : Extent) (d : DevState) (s : State) (xh : xe.covers [.dev, .auth, .fab, .tide, .mir] [F.ROL_STAT_READY, F.TIM_BCNCFG_RELAY, F.TIM_BCNCFG_ROLE, F.TIM_T3CFG_PRI, F.TIM_T3CFG_SEC] = true) :
    State.seen xe (holdAuthority d s) = State.seen xe s := by
  simp only [Extent.covers, List.all_cons, List.all_nil, Bool.and_true, Bool.true_and, Bool.and_eq_true] at xh
  unfold holdAuthority
  simp [xh]

@[simp] theorem becomeSolo_seen (xe : Extent) (s : State) (xh : xe.covers [.dev, .auth, .fab, .tide, .mir] [F.ROL_STAT_READY, F.TIM_BCNCFG_RELAY, F.TIM_BCNCFG_ROLE, F.TIM_T3CFG_PRI, F.TIM_T3CFG_SEC] = true) :
    State.seen xe (becomeSolo s) = State.seen xe s := by
  simp only [Extent.covers, List.all_cons, List.all_nil, Bool.and_true, Bool.true_and, Bool.and_eq_true] at xh
  unfold becomeSolo
  simp [xh]

@[simp] theorem authLanes_seen (xe : Extent) (v : Option Nat) (s : State) (xh : xe.covers [.lanes] [] = true) :
    State.seen xe (authLanes v s) = State.seen xe s := by
  simp only [Extent.covers, List.all_cons, List.all_nil, Bool.and_true, Bool.true_and, Bool.and_eq_true] at xh
  unfold authLanes
  simp [xh]

@[simp] theorem rampTakeover_seen (xe : Extent) (first : Nat) (s : State) (xh : xe.covers [.fab, .quays] [F.QY_DRVSTAT_RAMP] = true) :
    State.seen xe (rampTakeover first s) = State.seen xe s := by
  simp only [Extent.covers, List.all_cons, List.all_nil, Bool.and_true, Bool.true_and, Bool.and_eq_true] at xh
  unfold rampTakeover
  simp [xh]

@[simp] theorem enterStandby_seen (xe : Extent) (s : State) (xh : xe.covers [.dev, .auth, .fab, .lanes, .mir, .port] [F.MIR_STAT_JOINED, F.MIR_STAT_SYNC, F.ROL_STAT_READY, F.TIM_BCNCFG_RELAY, F.TIM_BCNCFG_ROLE, F.TIM_T3CFG_PRI, F.TIM_T3CFG_SEC] = true) :
    State.seen xe (enterStandby s) = State.seen xe s := by
  simp only [Extent.covers, List.all_cons, List.all_nil, Bool.and_true, Bool.true_and, Bool.and_eq_true] at xh
  unfold enterStandby
  repeat' first
    | (extract_lets +onlyGivenNames x; refine have hx : State.seen xe x = State.seen xe s := ?_; ?_; (on_goal 1 => unfold x); (on_goal 2 => clear_value x))
    | (extract_lets +onlyGivenNames x; refine have hx : State.seen xe x.2 = State.seen xe s := ?_; ?_; (on_goal 1 => unfold x); (on_goal 2 => clear_value x))
    | (extract_lets +onlyGivenNames x; refine have hx : State.seen xe x.2.2 = State.seen xe s := ?_; ?_; (on_goal 1 => unfold x); (on_goal 2 => clear_value x))
    | (extract_lets +onlyGivenNames x; clear_value x)
    | (simp [*]; done)
    | (refine (foldl_seen xe _ _ _ ?_).trans ?_; (on_goal 1 => intro s a))
    | (refine (State.when_seen xe _ _ _ ?_).trans ?_; (on_goal 1 => intro s))
    | split
    | (simp_all; done)

@[simp] theorem alarm_seen (xe : Extent) (f : Fld) (s : State) (xh : xe.covers [.seqs] [F.ICU_LOSTCNT, F.ICU_OVRw_SRC, F.ICU_PENDw_SRC] = true) (xhf : xe.r f = true) :
    State.seen xe (alarm f s) = State.seen xe s := by
  simp only [Extent.covers, List.all_cons, List.all_nil, Bool.and_true, Bool.true_and, Bool.and_eq_true] at xh
  unfold alarm
  simp [xh, xhf]

@[simp] theorem declare_seen (xe : Extent) (f : Fld) (s : State) (xh : xe.covers [.seqs] [F.ICU_LOSTCNT, F.ICU_OVRw_SRC, F.ICU_PENDw_SRC] = true) (xhf : xe.r f = true) :
    State.seen xe (declare f s) = State.seen xe s := by
  simp only [Extent.covers, List.all_cons, List.all_nil, Bool.and_true, Bool.true_and, Bool.and_eq_true] at xh
  unfold declare
  simp [xh, xhf]

@[simp] theorem takeBundle_seen (xe : Extent) (b : Nat) (s : State) (xh : xe.covers [.seqs, .fab] [F.ICU_LOSTCNT, F.ICU_OVRw_SRC, F.ICU_PENDw_SRC, F.MOR_PARKCNT] = true) :
    State.seen xe (takeBundle b s) = State.seen xe s := by
  simp only [Extent.covers, List.all_cons, List.all_nil, Bool.and_true, Bool.true_and, Bool.and_eq_true] at xh
  unfold takeBundle
  repeat' first
    | (extract_lets +onlyGivenNames x; refine have hx : State.seen xe x = State.seen xe s := ?_; ?_; (on_goal 1 => unfold x); (on_goal 2 => clear_value x))
    | (extract_lets +onlyGivenNames x; refine have hx : State.seen xe x.2 = State.seen xe s := ?_; ?_; (on_goal 1 => unfold x); (on_goal 2 => clear_value x))
    | (extract_lets +onlyGivenNames x; refine have hx : State.seen xe x.2.2 = State.seen xe s := ?_; ?_; (on_goal 1 => unfold x); (on_goal 2 => clear_value x))
    | (extract_lets +onlyGivenNames x; clear_value x)
    | (simp [*]; done)
    | (refine (foldl_seen xe _ _ _ ?_).trans ?_; (on_goal 1 => intro s a))
    | (refine (State.when_seen xe _ _ _ ?_).trans ?_; (on_goal 1 => intro s))
    | split
    | (simp_all; done)

@[simp] theorem takeReclose_seen (xe : Extent) (b : Nat) (s : State) (xh : xe.covers [.fab] [] = true) :
    State.seen xe (takeReclose b s) = State.seen xe s := by
  simp only [Extent.covers, List.all_cons, List.all_nil, Bool.and_true, Bool.true_and, Bool.and_eq_true] at xh
  unfold takeReclose
  repeat' first
    | (extract_lets +onlyGivenNames x; refine have hx : State.seen xe x = State.seen xe s := ?_; ?_; (on_goal 1 => unfold x); (on_goal 2 => clear_value x))
    | (extract_lets +onlyGivenNames x; refine have hx : State.seen xe x.2 = State.seen xe s := ?_; ?_; (on_goal 1 => unfold x); (on_goal 2 => clear_value x))
    | (extract_lets +onlyGivenNames x; refine have hx : State.seen xe x.2.2 = State.seen xe s := ?_; ?_; (on_goal 1 => unfold x); (on_goal 2 => clear_value x))
    | (extract_lets +onlyGivenNames x; clear_value x)
    | (simp [*]; done)
    | (refine (foldl_seen xe _ _ _ ?_).trans ?_; (on_goal 1 => intro s a))
    | (refine (State.when_seen xe _ _ _ ?_).trans ?_; (on_goal 1 => intro s))
    | split
    | (simp_all; done)

@[simp] theorem gainAuthority_seen (xe : Extent) (planned : Bool) (first : Nat) (s : State) (xh : xe.covers [.dev, .auth, .seqs, .log, .fab, .quays, .lanes, .exec, .tide, .pen, .mir, .cal, .port] [F.DBG_FLTSTAT_CLASS, F.ICU_LOSTCNT, F.ICU_OVRw_SRC, F.ICU_PENDw_SRC, F.MIR_EPDISCARD, F.MIR_FLAGS_EPDISC, F.MOR_PARKCNT, F.NET_TXDROP, F.QY_DRVSTAT_RAMP, F.ROL_ALARM_COLDTAKE, F.ROL_ALARM_TAKEOVER, F.ROL_FIREMISS, F.ROL_STAT_READY, F.ROL_TAKECNT, F.ROL_TKFRM_FRAME, F.TIM_BCNCFG_RELAY, F.TIM_BCNCFG_ROLE, F.TIM_T3CFG_PRI, F.TIM_T3CFG_SEC] = true) :
    State.seen xe (gainAuthority planned first s) = State.seen xe s := by
  simp only [Extent.covers, List.all_cons, List.all_nil, Bool.and_true, Bool.true_and, Bool.and_eq_true] at xh
  unfold gainAuthority
  simp [xh]

@[simp] theorem declareFailed_seen (xe : Extent) (s : State) (xh : xe.covers [.dev, .seqs, .log, .mir, .port] [F.DBG_FLTSTAT_CLASS, F.ICU_LOSTCNT, F.ICU_OVRw_SRC, F.ICU_PENDw_SRC, F.MIR_EPDISCARD, F.MIR_FLAGS_EPDISC, F.ROL_ALARM_PARTFAIL, F.ROL_STAT_SWREASON] = true) :
    State.seen xe (declareFailed s) = State.seen xe s := by
  simp only [Extent.covers, List.all_cons, List.all_nil, Bool.and_true, Bool.true_and, Bool.and_eq_true] at xh
  unfold declareFailed
  simp [xh]

@[simp] theorem pathAlarm_seen (xe : Extent) (f : Fld) (detail : Nat) (s : State) (xh : xe.covers [.seqs, .log, .port] [F.DBG_FLTSTAT_CLASS, F.ICU_LOSTCNT, F.ICU_OVRw_SRC, F.ICU_PENDw_SRC] = true) (xhf : xe.r f = true) :
    State.seen xe (pathAlarm f detail s) = State.seen xe s := by
  simp only [Extent.covers, List.all_cons, List.all_nil, Bool.and_true, Bool.true_and, Bool.and_eq_true] at xh
  unfold pathAlarm
  simp [xh, xhf]

@[simp] theorem judge_seen (xe : Extent) (s : State) (xh : xe.covers [.dev, .seqs, .log, .mir, .port] [F.DBG_FLTSTAT_CLASS, F.ICU_LOSTCNT, F.ICU_OVRw_SRC, F.ICU_PENDw_SRC, F.MIR_EPDISCARD, F.MIR_FLAGS_EPDISC, F.ROL_ALARM_HBTPATH, F.ROL_ALARM_MIRPATH, F.ROL_ALARM_PARTFAIL, F.ROL_HBTMISS, F.ROL_MIRMISS, F.ROL_STAT_HBTOK, F.ROL_STAT_MIROK, F.ROL_STAT_SWREASON] = true) :
    State.seen xe (judge s) = State.seen xe s := by
  simp only [Extent.covers, List.all_cons, List.all_nil, Bool.and_true, Bool.true_and, Bool.and_eq_true] at xh
  unfold judge
  simp [xh]

@[simp] theorem partnerFailed_seen (xe : Extent) (s : State) (xh : xe.covers [.dev, .seqs, .log, .mir, .port] [F.DBG_FLTSTAT_CLASS, F.ICU_LOSTCNT, F.ICU_OVRw_SRC, F.ICU_PENDw_SRC, F.MIR_EPDISCARD, F.MIR_FLAGS_EPDISC, F.ROL_ALARM_HBTPATH, F.ROL_ALARM_MIRPATH, F.ROL_ALARM_PARTFAIL, F.ROL_HBTMISS, F.ROL_MIRMISS, F.ROL_STAT_HBTOK, F.ROL_STAT_MIROK, F.ROL_STAT_SWREASON] = true) :
    State.seen xe (partnerFailed s) = State.seen xe s := by
  simp only [Extent.covers, List.all_cons, List.all_nil, Bool.and_true, Bool.true_and, Bool.and_eq_true] at xh
  unfold partnerFailed
  simp [xh]

@[simp] theorem takeover_seen (xe : Extent) (s : State) (xh : xe.covers [.dev, .auth, .seqs, .log, .fab, .quays, .lanes, .exec, .tide, .pen, .mir, .cal, .port] [F.DBG_FLTSTAT_CLASS, F.ICU_LOSTCNT, F.ICU_OVRw_SRC, F.ICU_PENDw_SRC, F.MIR_EPDISCARD, F.MIR_FLAGS_EPDISC, F.MOR_PARKCNT, F.NET_TXDROP, F.QY_DRVSTAT_RAMP, F.ROL_ALARM_ACTLIVE, F.ROL_ALARM_COLDTAKE, F.ROL_ALARM_TAKEOVER, F.ROL_FIREMISS, F.ROL_STAT_READY, F.ROL_TAKECNT, F.ROL_TKFRM_FRAME, F.TIM_BCNCFG_RELAY, F.TIM_BCNCFG_ROLE, F.TIM_T3CFG_PRI, F.TIM_T3CFG_SEC] = true) :
    State.seen xe (takeover s) = State.seen xe s := by
  simp only [Extent.covers, List.all_cons, List.all_nil, Bool.and_true, Bool.true_and, Bool.and_eq_true] at xh
  unfold takeover
  simp [xh]

@[simp] theorem skewTick_seen (xe : Extent) (s : State) (xh : xe.covers [.seqs, .mir] [F.ICU_LOSTCNT, F.ICU_OVRw_SRC, F.ICU_PENDw_SRC, F.ROL_ALARM_FRMSKEW] = true) :
    State.seen xe (skewTick s) = State.seen xe s := by
  simp only [Extent.covers, List.all_cons, List.all_nil, Bool.and_true, Bool.true_and, Bool.and_eq_true] at xh
  unfold skewTick
  simp [xh]

@[simp] theorem dualTick_seen (xe : Extent) (s : State) (xh : xe.covers [.seqs, .log, .mir, .port] [F.DBG_FLTSTAT_CLASS, F.ICU_LOSTCNT, F.ICU_OVRw_SRC, F.ICU_PENDw_SRC, F.ROL_ALARM_DUALACT, F.ROL_DUALCNT] = true) :
    State.seen xe (dualTick s) = State.seen xe s := by
  simp only [Extent.covers, List.all_cons, List.all_nil, Bool.and_true, Bool.true_and, Bool.and_eq_true] at xh
  unfold dualTick
  simp [xh]

@[simp] theorem yieldNow_seen (xe : Extent) (s : State) (xh : xe.covers [.dev, .auth, .fab, .lanes, .mir, .port] [F.MIR_STAT_JOINED, F.MIR_STAT_SYNC, F.ROL_STAT_READY, F.TIM_BCNCFG_RELAY, F.TIM_BCNCFG_ROLE, F.TIM_T3CFG_PRI, F.TIM_T3CFG_SEC] = true) :
    State.seen xe (yieldNow s) = State.seen xe s := by
  simp only [Extent.covers, List.all_cons, List.all_nil, Bool.and_true, Bool.true_and, Bool.and_eq_true] at xh
  unfold yieldNow
  simp [xh]

@[simp] theorem rolSwap_seen (xe : Extent) (s : State) (xh : xe.covers [.mir] [F.ROL_STAT_SWREASON] = true) :
    State.seen xe (rolSwap s) = State.seen xe s := by
  simp only [Extent.covers, List.all_cons, List.all_nil, Bool.and_true, Bool.true_and, Bool.and_eq_true] at xh
  unfold rolSwap
  simp [xh]

@[simp] theorem rolSwcancel_seen (xe : Extent) (s : State) (xh : xe.covers [.mir] [F.ROL_STAT_SWREASON] = true) :
    State.seen xe (rolSwcancel s) = State.seen xe s := by
  simp only [Extent.covers, List.all_cons, List.all_nil, Bool.and_true, Bool.true_and, Bool.and_eq_true] at xh
  unfold rolSwcancel
  repeat' first
    | (extract_lets +onlyGivenNames x; refine have hx : State.seen xe x = State.seen xe s := ?_; ?_; (on_goal 1 => unfold x); (on_goal 2 => clear_value x))
    | (extract_lets +onlyGivenNames x; refine have hx : State.seen xe x.2 = State.seen xe s := ?_; ?_; (on_goal 1 => unfold x); (on_goal 2 => clear_value x))
    | (extract_lets +onlyGivenNames x; refine have hx : State.seen xe x.2.2 = State.seen xe s := ?_; ?_; (on_goal 1 => unfold x); (on_goal 2 => clear_value x))
    | (extract_lets +onlyGivenNames x; clear_value x)
    | (simp [*]; done)
    | (refine (foldl_seen xe _ _ _ ?_).trans ?_; (on_goal 1 => intro s a))
    | (refine (State.when_seen xe _ _ _ ?_).trans ?_; (on_goal 1 => intro s))
    | split
    | (simp_all; done)

@[simp] theorem swapNoack_seen (xe : Extent) (s : State) (xh : xe.covers [.mir] [F.ROL_STAT_SWREASON] = true) :
    State.seen xe (swapNoack s) = State.seen xe s := by
  simp only [Extent.covers, List.all_cons, List.all_nil, Bool.and_true, Bool.true_and, Bool.and_eq_true] at xh
  unfold swapNoack
  repeat' first
    | (extract_lets +onlyGivenNames x; refine have hx : State.seen xe x = State.seen xe s := ?_; ?_; (on_goal 1 => unfold x); (on_goal 2 => clear_value x))
    | (extract_lets +onlyGivenNames x; refine have hx : State.seen xe x.2 = State.seen xe s := ?_; ?_; (on_goal 1 => unfold x); (on_goal 2 => clear_value x))
    | (extract_lets +onlyGivenNames x; refine have hx : State.seen xe x.2.2 = State.seen xe s := ?_; ?_; (on_goal 1 => unfold x); (on_goal 2 => clear_value x))
    | (extract_lets +onlyGivenNames x; clear_value x)
    | (simp [*]; done)
    | (refine (foldl_seen xe _ _ _ ?_).trans ?_; (on_goal 1 => intro s a))
    | (refine (State.when_seen xe _ _ _ ?_).trans ?_; (on_goal 1 => intro s))
    | split
    | (simp_all; done)

@[simp] theorem swapUnready_seen (xe : Extent) (s : State) (xh : xe.covers [.mir] [F.ROL_STAT_SWREASON] = true) :
    State.seen xe (swapUnready s) = State.seen xe s := by
  simp only [Extent.covers, List.all_cons, List.all_nil, Bool.and_true, Bool.true_and, Bool.and_eq_true] at xh
  unfold swapUnready
  simp [xh]

@[simp] theorem swapPrepare_seen (xe : Extent) (s : State) (xh : xe.covers [.seqs, .lanes, .pen] [F.ICU_LOSTCNT, F.ICU_OVRw_SRC, F.ICU_PENDw_SRC, F.NET_TXDROP] = true) :
    State.seen xe (swapPrepare s) = State.seen xe s := by
  simp only [Extent.covers, List.all_cons, List.all_nil, Bool.and_true, Bool.true_and, Bool.and_eq_true] at xh
  unfold swapPrepare
  repeat' first
    | (extract_lets +onlyGivenNames x; refine have hx : State.seen xe x = State.seen xe s := ?_; ?_; (on_goal 1 => unfold x); (on_goal 2 => clear_value x))
    | (extract_lets +onlyGivenNames x; refine have hx : State.seen xe x.2 = State.seen xe s := ?_; ?_; (on_goal 1 => unfold x); (on_goal 2 => clear_value x))
    | (extract_lets +onlyGivenNames x; refine have hx : State.seen xe x.2.2 = State.seen xe s := ?_; ?_; (on_goal 1 => unfold x); (on_goal 2 => clear_value x))
    | (extract_lets +onlyGivenNames x; clear_value x)
    | (simp [*]; done)
    | (refine (foldl_seen xe _ _ _ ?_).trans ?_; (on_goal 1 => intro s a))
    | (refine (State.when_seen xe _ _ _ ?_).trans ?_; (on_goal 1 => intro s))
    | split
    | (simp_all; done)

@[simp] theorem swapAt_seen (xe : Extent) (s : State) (xh : xe.covers [.dev, .auth, .seqs, .log, .fab, .quays, .lanes, .exec, .tide, .pen, .mir, .cal, .port] [F.DBG_FLTSTAT_CLASS, F.ICU_LOSTCNT, F.ICU_OVRw_SRC, F.ICU_PENDw_SRC, F.MIR_EPDISCARD, F.MIR_FLAGS_EPDISC, F.MIR_STAT_JOINED, F.MIR_STAT_SYNC, F.MOR_PARKCNT, F.NET_TXDROP, F.QY_DRVSTAT_RAMP, F.ROL_ALARM_COLDTAKE, F.ROL_ALARM_TAKEOVER, F.ROL_FIREMISS, F.ROL_STAT_READY, F.ROL_SWAPCNT, F.ROL_TAKECNT, F.ROL_TKFRM_FRAME, F.TIM_BCNCFG_RELAY, F.TIM_BCNCFG_ROLE, F.TIM_T3CFG_PRI, F.TIM_T3CFG_SEC] = true) :
    State.seen xe (swapAt s) = State.seen xe s := by
  simp only [Extent.covers, List.all_cons, List.all_nil, Bool.and_true, Bool.true_and, Bool.and_eq_true] at xh
  unfold swapAt
  repeat' first
    | (extract_lets +onlyGivenNames x; refine have hx : State.seen xe x = State.seen xe s := ?_; ?_; (on_goal 1 => unfold x); (on_goal 2 => clear_value x))
    | (extract_lets +onlyGivenNames x; refine have hx : State.seen xe x.2 = State.seen xe s := ?_; ?_; (on_goal 1 => unfold x); (on_goal 2 => clear_value x))
    | (extract_lets +onlyGivenNames x; refine have hx : State.seen xe x.2.2 = State.seen xe s := ?_; ?_; (on_goal 1 => unfold x); (on_goal 2 => clear_value x))
    | (extract_lets +onlyGivenNames x; clear_value x)
    | (simp [*]; done)
    | (refine (foldl_seen xe _ _ _ ?_).trans ?_; (on_goal 1 => intro s a))
    | (refine (State.when_seen xe _ _ _ ?_).trans ?_; (on_goal 1 => intro s))
    | split
    | (simp_all; done)

@[simp] theorem rolStatclr_seen (xe : Extent) (s : State) (xh : xe.covers [] [F.ROL_DUALCNT, F.ROL_FIREMISS, F.ROL_HBTMISS, F.ROL_MIRMISS, F.ROL_SWAPCNT, F.ROL_TAKECNT] = true) :
    State.seen xe (rolStatclr s) = State.seen xe s := by
  simp only [Extent.covers, List.all_cons, List.all_nil, Bool.and_true, Bool.true_and, Bool.and_eq_true] at xh
  unfold rolStatclr
  simp [xh]

@[simp] theorem stagingEnds_seen (xe : Extent) (s : State) (xh : xe.covers [.dev, .auth, .fab, .lanes, .tide, .mir, .port] [F.MIR_STAT_JOINED, F.MIR_STAT_SYNC, F.ROL_STAT_READY, F.TIM_BCNCFG_RELAY, F.TIM_BCNCFG_ROLE, F.TIM_T3CFG_PRI, F.TIM_T3CFG_SEC] = true) :
    State.seen xe (stagingEnds s) = State.seen xe s := by
  simp only [Extent.covers, List.all_cons, List.all_nil, Bool.and_true, Bool.true_and, Bool.and_eq_true] at xh
  unfold stagingEnds
  simp [xh]

@[simp] theorem joinSeen_seen (xe : Extent) (s : State) (xh : xe.covers [.dev, .auth, .fab, .lanes, .mir, .port] [F.MIR_STAT_JOINED, F.MIR_STAT_SYNC, F.ROL_STAT_READY, F.TIM_BCNCFG_RELAY, F.TIM_BCNCFG_ROLE, F.TIM_T3CFG_PRI, F.TIM_T3CFG_SEC] = true) :
    State.seen xe (joinSeen s) = State.seen xe s := by
  simp only [Extent.covers, List.all_cons, List.all_nil, Bool.and_true, Bool.true_and, Bool.and_eq_true] at xh
  unfold joinSeen
  simp [xh]

@[simp] theorem joinExpiry_seen (xe : Extent) (s : State) (xh : xe.covers [.dev, .auth, .fab, .tide, .mir] [F.ROL_STAT_READY, F.TIM_BCNCFG_RELAY, F.TIM_BCNCFG_ROLE, F.TIM_T3CFG_PRI, F.TIM_T3CFG_SEC] = true) :
    State.seen xe (joinExpiry s) = State.seen xe s := by
  simp only [Extent.covers, List.all_cons, List.all_nil, Bool.and_true, Bool.true_and, Bool.and_eq_true] at xh
  unfold joinExpiry
  repeat' first
    | (extract_lets +onlyGivenNames x; refine have hx : State.seen xe x = State.seen xe s := ?_; ?_; (on_goal 1 => unfold x); (on_goal 2 => clear_value x))
    | (extract_lets +onlyGivenNames x; refine have hx : State.seen xe x.2 = State.seen xe s := ?_; ?_; (on_goal 1 => unfold x); (on_goal 2 => clear_value x))
    | (extract_lets +onlyGivenNames x; refine have hx : State.seen xe x.2.2 = State.seen xe s := ?_; ?_; (on_goal 1 => unfold x); (on_goal 2 => clear_value x))
    | (extract_lets +onlyGivenNames x; clear_value x)
    | (simp [*]; done)
    | (refine (foldl_seen xe _ _ _ ?_).trans ?_; (on_goal 1 => intro s a))
    | (refine (State.when_seen xe _ _ _ ?_).trans ?_; (on_goal 1 => intro s))
    | split
    | (simp_all; done)

@[simp] theorem followPartner_seen (xe : Extent) (s : State) (xh : xe.covers [.dev] [] = true) :
    State.seen xe (followPartner s) = State.seen xe s := by
  simp only [Extent.covers, List.all_cons, List.all_nil, Bool.and_true, Bool.true_and, Bool.and_eq_true] at xh
  unfold followPartner
  repeat' first
    | (extract_lets +onlyGivenNames x; refine have hx : State.seen xe x = State.seen xe s := ?_; ?_; (on_goal 1 => unfold x); (on_goal 2 => clear_value x))
    | (extract_lets +onlyGivenNames x; refine have hx : State.seen xe x.2 = State.seen xe s := ?_; ?_; (on_goal 1 => unfold x); (on_goal 2 => clear_value x))
    | (extract_lets +onlyGivenNames x; refine have hx : State.seen xe x.2.2 = State.seen xe s := ?_; ?_; (on_goal 1 => unfold x); (on_goal 2 => clear_value x))
    | (extract_lets +onlyGivenNames x; clear_value x)
    | (simp [*]; done)
    | (refine (foldl_seen xe _ _ _ ?_).trans ?_; (on_goal 1 => intro s a))
    | (refine (State.when_seen xe _ _ _ ?_).trans ?_; (on_goal 1 => intro s))
    | split
    | (simp_all; done)

@[simp] theorem fireTick_seen (xe : Extent) (s : State) (xh : xe.covers [.mir] [] = true) :
    State.seen xe (fireTick s) = State.seen xe s := by
  simp only [Extent.covers, List.all_cons, List.all_nil, Bool.and_true, Bool.true_and, Bool.and_eq_true] at xh
  unfold fireTick
  repeat' first
    | (extract_lets +onlyGivenNames x; refine have hx : State.seen xe x = State.seen xe s := ?_; ?_; (on_goal 1 => unfold x); (on_goal 2 => clear_value x))
    | (extract_lets +onlyGivenNames x; refine have hx : State.seen xe x.2 = State.seen xe s := ?_; ?_; (on_goal 1 => unfold x); (on_goal 2 => clear_value x))
    | (extract_lets +onlyGivenNames x; refine have hx : State.seen xe x.2.2 = State.seen xe s := ?_; ?_; (on_goal 1 => unfold x); (on_goal 2 => clear_value x))
    | (extract_lets +onlyGivenNames x; clear_value x)
    | (simp [*]; done)
    | (refine (foldl_seen xe _ _ _ ?_).trans ?_; (on_goal 1 => intro s a))
    | (refine (State.when_seen xe _ _ _ ?_).trans ?_; (on_goal 1 => intro s))
    | split
    | (simp_all; done)

@[simp] theorem drainInbox_seen (xe : Extent) (n : Nat) (s : State) (xh : xe.covers [.fresh, .seqs, .log, .table, .fab, .quays, .exec, .sched, .tide, .pen, .mir, .cal, .port] [] = true) (xha : xe.all = true) :
    State.seen xe (drainInbox n s) = State.seen xe s := by
  simp only [Extent.covers, List.all_cons, List.all_nil, Bool.and_true, Bool.true_and, Bool.and_eq_true] at xh
  have xhr : ∀ f, xe.r f = true := fun f => xe.r_of_all f xha
  induction n generalizing s with
  | zero => rfl
  | succ n ih =>
    unfold drainInbox
    split
    · rfl
    · rw [ih]; simp [xh, xha, xhr]

@[simp] theorem roleTick_seen (xe : Extent) (s : State) (xh : xe.covers [.dev, .auth, .fresh, .seqs, .log, .table, .fab, .quays, .lanes, .exec, .sched, .tide, .pen, .mir, .cal, .port] [] = true) (xha : xe.all = true) :
    State.seen xe (roleTick s) = State.seen xe s := by
  simp only [Extent.covers, List.all_cons, List.all_nil, Bool.and_true, Bool.true_and, Bool.and_eq_true] at xh
  have xhr : ∀ f, xe.r f = true := fun f => xe.r_of_all f xha
  unfold roleTick
  extract_lets s1 s2 s3 s4 s5
  have h1 : State.seen xe s1 = State.seen xe s := by simp [s1, xh, xha, xhr]
  clear_value s1
  have h2 : State.seen xe s2 = State.seen xe s := by simp [s2, h1, xh, xha, xhr]
  clear_value s2
  have h3 : State.seen xe s3 = State.seen xe s := by simp [s3, h2, xh, xha, xhr]
  clear_value s3
  have h4 : State.seen xe s4 = State.seen xe s := by simp [s4, h3, xh, xha, xhr]
  clear_value s4
  have h5 : State.seen xe s5 = State.seen xe s := by simp [s5, h4, xh, xha, xhr]
  clear_value s5
  simp [h5, xh, xha, xhr]

@[simp] theorem rereadObj_seen (xe : Extent) (s : State) (x : Alloc) (xh : xe.covers [.fab, .exec] [] = true) :
    State.seen xe (rereadObj s x) = State.seen xe s := by
  simp only [Extent.covers, List.all_cons, List.all_nil, Bool.and_true, Bool.true_and, Bool.and_eq_true] at xh
  unfold rereadObj
  repeat' first
    | (extract_lets +onlyGivenNames x; refine have hx : State.seen xe x = State.seen xe s := ?_; ?_; (on_goal 1 => unfold x); (on_goal 2 => clear_value x))
    | (extract_lets +onlyGivenNames x; refine have hx : State.seen xe x.2 = State.seen xe s := ?_; ?_; (on_goal 1 => unfold x); (on_goal 2 => clear_value x))
    | (extract_lets +onlyGivenNames x; refine have hx : State.seen xe x.2.2 = State.seen xe s := ?_; ?_; (on_goal 1 => unfold x); (on_goal 2 => clear_value x))
    | (extract_lets +onlyGivenNames x; clear_value x)
    | (simp [*]; done)
    | (refine (foldl_seen xe _ _ _ ?_).trans ?_; (on_goal 1 => intro s a))
    | (refine (State.when_seen xe _ _ _ ?_).trans ?_; (on_goal 1 => intro s))
    | split
    | (simp_all; done)

@[simp] theorem tblPut_seen (xe : Extent) (a : Nat) (bytes : List Byte) (s : State) (xh : xe.covers [.table, .fab, .exec] [] = true) :
    State.seen xe (tblPut a bytes s) = State.seen xe s := by
  simp only [Extent.covers, List.all_cons, List.all_nil, Bool.and_true, Bool.true_and, Bool.and_eq_true] at xh
  unfold tblPut
  simp [xh]

@[simp] theorem ramPut_seen (xe : Extent) (n : Nat) (code : Bool) (o : Nat) (bytes : List Byte) (s : State) (xh : xe.covers [.seqs] [] = true) :
    State.seen xe (ramPut n code o bytes s) = State.seen xe s := by
  simp only [Extent.covers, List.all_cons, List.all_nil, Bool.and_true, Bool.true_and, Bool.and_eq_true] at xh
  unfold ramPut
  simp [xh]

@[simp] theorem State.modCal_seen (xe : Extent) (s : State) (f : CalSt → CalSt) (xh : xe.covers [.cal] [] = true) :
    State.seen xe (State.modCal s f) = State.seen xe s := by
  simp only [Extent.covers, List.all_cons, List.all_nil, Bool.and_true, Bool.true_and, Bool.and_eq_true] at xh
  unfold State.modCal
  simp [xh]

@[simp] theorem State.modUnit_seen (xe : Extent) (s : State) (u : Nat) (f : CalUnit → CalUnit) (xh : xe.covers [.cal] [] = true) :
    State.seen xe (State.modUnit s u f) = State.seen xe s := by
  simp only [Extent.covers, List.all_cons, List.all_nil, Bool.and_true, Bool.true_and, Bool.and_eq_true] at xh
  unfold State.modUnit
  simp [xh]

@[simp] theorem badCap_seen (xe : Extent) (u : Nat) (s : State) (xh : xe.covers [.cal] [] = true) :
    State.seen xe (badCap u s) = State.seen xe s := by
  simp only [Extent.covers, List.all_cons, List.all_nil, Bool.and_true, Bool.true_and, Bool.and_eq_true] at xh
  unfold badCap
  simp [xh]

@[simp] theorem modCap_seen (xe : Extent) (u : Nat) (f : Capture → Capture) (s : State) (xh : xe.covers [.cal] [] = true) :
    State.seen xe (modCap u f s) = State.seen xe s := by
  simp only [Extent.covers, List.all_cons, List.all_nil, Bool.and_true, Bool.true_and, Bool.and_eq_true] at xh
  unfold modCap
  simp [xh]

@[simp] theorem calShorten_seen (xe : Extent) (u last : Nat) (s : State) (xh : xe.covers [.cal] [] = true) :
    State.seen xe (calShorten u last s) = State.seen xe s := by
  simp only [Extent.covers, List.all_cons, List.all_nil, Bool.and_true, Bool.true_and, Bool.and_eq_true] at xh
  unfold calShorten
  simp [xh]

@[simp] theorem calAbandon_seen (xe : Extent) (u last : Nat) (s : State) (xh : xe.covers [.cal] [F.CAL_ABANDCNT, F.CAL_UCAP_ABANDON, F.CAL_USTAT_RESULT, F.CAL_USTAT_STATE] = true) :
    State.seen xe (calAbandon u last s) = State.seen xe s := by
  simp only [Extent.covers, List.all_cons, List.all_nil, Bool.and_true, Bool.true_and, Bool.and_eq_true] at xh
  unfold calAbandon
  repeat' first
    | (extract_lets +onlyGivenNames x; refine have hx : State.seen xe x = State.seen xe s := ?_; ?_; (on_goal 1 => unfold x); (on_goal 2 => clear_value x))
    | (extract_lets +onlyGivenNames x; refine have hx : State.seen xe x.2 = State.seen xe s := ?_; ?_; (on_goal 1 => unfold x); (on_goal 2 => clear_value x))
    | (extract_lets +onlyGivenNames x; refine have hx : State.seen xe x.2.2 = State.seen xe s := ?_; ?_; (on_goal 1 => unfold x); (on_goal 2 => clear_value x))
    | (extract_lets +onlyGivenNames x; clear_value x)
    | (simp [*]; done)
    | (refine (foldl_seen xe _ _ _ ?_).trans ?_; (on_goal 1 => intro s a))
    | (refine (State.when_seen xe _ _ _ ?_).trans ?_; (on_goal 1 => intro s))
    | split
    | (simp_all; done)

@[simp] theorem calLeave_seen (xe : Extent) (s : State) (xh : xe.covers [.cal] [F.CAL_ABANDCNT, F.CAL_UCAP_ABANDON, F.CAL_USTAT_RESULT, F.CAL_USTAT_STATE] = true) :
    State.seen xe (calLeave s) = State.seen xe s := by
  simp only [Extent.covers, List.all_cons, List.all_nil, Bool.and_true, Bool.true_and, Bool.and_eq_true] at xh
  unfold calLeave
  simp [xh]

end Sys2Proof.Machine
end

