-- ==== Sys2Proof/Laws/SeenHouse.lean ====
section
/-! SUPPORT. What SAFE and OFF, the flash and OTP, the thermal block and calibration leave unseen outside the extents they are given (Laws/Seen.lean). -/
namespace Sys2Proof.Machine
set_option linter.all false

@[simp] theorem State.modNet_seen (xe : Extent) (s : State) (p : Nat) (f : NetPort → NetPort) (xh : xe.covers [.port] [] = true) :
    State.seen xe (State.modNet s p f) = State.seen xe s := by
  simp only [Extent.covers, List.all_cons, List.all_nil, Bool.and_true, Bool.true_and, Bool.and_eq_true] at xh
  unfold State.modNet
  simp [xh]

@[simp] theorem State.modPort_seen (xe : Extent) (s : State) (f : PortSt → PortSt) (xh : xe.covers [.port] [] = true) :
    State.seen xe (State.modPort s f) = State.seen xe s := by
  simp only [Extent.covers, List.all_cons, List.all_nil, Bool.and_true, Bool.true_and, Bool.and_eq_true] at xh
  unfold State.modPort
  simp [xh]

@[simp] theorem State.setFlight_seen (xe : Extent) (s : State) (m : Nat) (f : Option InFlight) (xh : xe.covers [.port] [] = true) :
    State.seen xe (State.setFlight s m f) = State.seen xe s := by
  simp only [Extent.covers, List.all_cons, List.all_nil, Bool.and_true, Bool.true_and, Bool.and_eq_true] at xh
  unfold State.setFlight
  simp [xh]

@[simp] theorem State.resetMaster_seen (xe : Extent) (s : State) (m : Nat) (xh : xe.covers [.port] [] = true) :
    State.seen xe (State.resetMaster s m) = State.seen xe s := by
  simp only [Extent.covers, List.all_cons, List.all_nil, Bool.and_true, Bool.true_and, Bool.and_eq_true] at xh
  unfold State.resetMaster
  repeat' first
    | (extract_lets +onlyGivenNames x; refine have hx : State.seen xe x = State.seen xe s := ?_; ?_; (on_goal 1 => unfold x); (on_goal 2 => clear_value x))
    | (extract_lets +onlyGivenNames x; refine have hx : State.seen xe x.2 = State.seen xe s := ?_; ?_; (on_goal 1 => unfold x); (on_goal 2 => clear_value x))
    | (extract_lets +onlyGivenNames x; refine have hx : State.seen xe x.2.2 = State.seen xe s := ?_; ?_; (on_goal 1 => unfold x); (on_goal 2 => clear_value x))
    | (extract_lets +onlyGivenNames x; clear_value x)
    | (simp [*]; done)
    | (refine (foldl_seen xe _ _ _ ?_).trans ?_; (on_goal 1 => intro s a))
    | (refine (State.when_seen xe _ _ _ ?_).trans ?_; (on_goal 1 => intro s))
    | split
    | (simp_all; done)

@[simp] theorem dropFrames_seen (xe : Extent) (p : Nat) (s : State) (xh : xe.covers [.pen, .port] [F.NET_TXDROP] = true) :
    State.seen xe (dropFrames p s) = State.seen xe s := by
  simp only [Extent.covers, List.all_cons, List.all_nil, Bool.and_true, Bool.true_and, Bool.and_eq_true] at xh
  unfold dropFrames
  simp [xh]

@[simp] theorem setLink_seen (xe : Extent) (p : Nat) (up : Bool) (s : State) (xh : xe.covers [.seqs, .pen, .port] [F.ICU_LOSTCNT, F.ICU_OVRw_SRC, F.ICU_PENDw_SRC, F.NET_STAT_LINK, F.NET_STAT_LINKCHG, F.NET_TXDROP] = true) :
    State.seen xe (setLink p up s) = State.seen xe s := by
  simp only [Extent.covers, List.all_cons, List.all_nil, Bool.and_true, Bool.true_and, Bool.and_eq_true] at xh
  unfold setLink
  simp [xh]

@[simp] theorem offState_seen (xe : Extent) (s : State) (xh : xe.covers [.dev, .auth, .frame, .fresh, .locked, .seqs, .log, .rdata, .time, .table, .fab, .quays, .lanes, .tiles, .exec, .sched, .tide, .pen, .mir, .boot, .cal, .port] [] = true) (xha : xe.all = true) :
    State.seen xe (offState s) = State.seen xe s := by
  simp only [Extent.covers, List.all_cons, List.all_nil, Bool.and_true, Bool.true_and, Bool.and_eq_true] at xh
  have xhr : ∀ f, xe.r f = true := fun f => xe.r_of_all f xha
  unfold offState
  have hk : ∀ k, xe.at k = true := fun k => Extent.at_of_all xe k xha
  simp [State.seen, hk, xh, xha, xhr]

@[simp] theorem aonLost_seen (xe : Extent) (s : State) (xh : xe.covers [.boot, .cal] [] = true) :
    State.seen xe (aonLost s) = State.seen xe s := by
  simp only [Extent.covers, List.all_cons, List.all_nil, Bool.and_true, Bool.true_and, Bool.and_eq_true] at xh
  unfold aonLost
  simp [State.seen, xh]

@[simp] theorem offFor_seen (xe : Extent) (causes : List Fld) (s : State) (xh : xe.covers [.dev, .auth, .frame, .fresh, .locked, .seqs, .log, .rdata, .time, .table, .fab, .quays, .lanes, .tiles, .exec, .sched, .tide, .pen, .mir, .boot, .cal, .port] [] = true) (xha : xe.all = true) (xhcauses : ∀ f ∈ causes, xe.r f = true) :
    State.seen xe (offFor causes s) = State.seen xe s := by
  simp only [Extent.covers, List.all_cons, List.all_nil, Bool.and_true, Bool.true_and, Bool.and_eq_true] at xh
  have xhr : ∀ f, xe.r f = true := fun f => xe.r_of_all f xha
  unfold offFor
  have h0 : State.seen xe (offState s) = State.seen xe s := by simp [xh, xha, xhcauses, xhr]
  have hf : ∀ (l : List Fld) (g : Fld → Nat) (t : State), State.seen xe (l.foldl (fun t f => t.fs f (g f)) t) = State.seen xe t := by
    intro l g t
    exact foldl_seen xe _ _ _ (fun s a => State.fs_seen xe s a _ (xhr a))
  split
  · rw [State.fs_seen xe _ _ _ (xhr _)]
    simp [h0, xh, xha, xhcauses, xhr]
  extract_lets kept t
  have h1 : State.seen xe kept = State.seen xe s := (hf _ _ _).trans h0
  have h2 : State.seen xe t = State.seen xe s := by
    simp only [t]
    split
    · exact h1
    · rw [State.fs_seen xe _ _ _ (xhr _)]
      exact h1
  exact (hf _ (fun _ => 1) _).trans h2

@[simp] theorem enterOff_seen (xe : Extent) (cause : Fld) (s : State) (xh : xe.covers [.dev, .auth, .frame, .fresh, .locked, .seqs, .log, .rdata, .time, .table, .fab, .quays, .lanes, .tiles, .exec, .sched, .tide, .pen, .mir, .boot, .cal, .port] [] = true) (xha : xe.all = true) (xhcause : xe.r cause = true) :
    State.seen xe (enterOff cause s) = State.seen xe s := by
  simp only [Extent.covers, List.all_cons, List.all_nil, Bool.and_true, Bool.true_and, Bool.and_eq_true] at xh
  have xhr : ∀ f, xe.r f = true := fun f => xe.r_of_all f xha
  unfold enterOff
  simp [xh, xha, xhcause, xhr]

@[simp] theorem supplyChange_seen (xe : Extent) (n : Nat) (good : Bool) (s : State) (xh : xe.covers [.dev, .auth, .frame, .fresh, .locked, .seqs, .log, .rdata, .time, .table, .fab, .quays, .lanes, .tiles, .exec, .sched, .tide, .pen, .mir, .boot, .cal, .port] [] = true) (xha : xe.all = true) :
    State.seen xe (supplyChange n good s) = State.seen xe s := by
  simp only [Extent.covers, List.all_cons, List.all_nil, Bool.and_true, Bool.true_and, Bool.and_eq_true] at xh
  have xhr : ∀ f, xe.r f = true := fun f => xe.r_of_all f xha
  unfold supplyChange
  simp [xh, xha, xhr]

@[simp] theorem resetAssert_seen (xe : Extent) (s : State) (xh : xe.covers [.dev, .auth, .frame, .fresh, .locked, .seqs, .log, .rdata, .time, .table, .fab, .quays, .lanes, .tiles, .exec, .sched, .tide, .pen, .mir, .boot, .cal, .port] [] = true) (xha : xe.all = true) :
    State.seen xe (resetAssert s) = State.seen xe s := by
  simp only [Extent.covers, List.all_cons, List.all_nil, Bool.and_true, Bool.true_and, Bool.and_eq_true] at xh
  have xhr : ∀ f, xe.r f = true := fun f => xe.r_of_all f xha
  unfold resetAssert
  simp [xh, xha, xhr]

@[simp] theorem safeDue_seen (xe : Extent) (x : Fatal) (s : State) (xh : xe.covers [.port] [] = true) :
    State.seen xe (safeDue x s) = State.seen xe s := by
  simp only [Extent.covers, List.all_cons, List.all_nil, Bool.and_true, Bool.true_and, Bool.and_eq_true] at xh
  unfold safeDue
  simp [xh]

@[simp] theorem lanesOff_seen (xe : Extent) (s : State) (xh : xe.covers [.seqs, .fab, .quays, .lanes] [F.ICU_LOSTCNT, F.ICU_OVRw_SRC, F.ICU_PENDw_SRC, F.QY_DRVSTAT_AUTH, F.QY_LNKSTAT_STATE, F.QY_LNKSTAT_TLOCK, F.QY_LNKSTAT_ULOCK] = true) :
    State.seen xe (lanesOff s) = State.seen xe s := by
  simp only [Extent.covers, List.all_cons, List.all_nil, Bool.and_true, Bool.true_and, Bool.and_eq_true] at xh
  unfold lanesOff
  repeat' first
    | (extract_lets +onlyGivenNames x; refine have hx : State.seen xe x = State.seen xe s := ?_; ?_; (on_goal 1 => unfold x); (on_goal 2 => clear_value x))
    | (extract_lets +onlyGivenNames x; refine have hx : State.seen xe x.2 = State.seen xe s := ?_; ?_; (on_goal 1 => unfold x); (on_goal 2 => clear_value x))
    | (extract_lets +onlyGivenNames x; refine have hx : State.seen xe x.2.2 = State.seen xe s := ?_; ?_; (on_goal 1 => unfold x); (on_goal 2 => clear_value x))
    | (extract_lets +onlyGivenNames x; clear_value x)
    | (simp [*]; done)
    | (refine (foldl_seen xe _ _ _ ?_).trans ?_; (on_goal 1 => intro s a))
    | (refine (State.when_seen xe _ _ _ ?_).trans ?_; (on_goal 1 => intro s))
    | split
    | (simp_all; done)

@[simp] theorem dbgSafe_seen (xe : Extent) (s : State) (xh : xe.covers [.log, .port] [F.DBG_FLTSTAT_CLASS] = true) :
    State.seen xe (dbgSafe s) = State.seen xe s := by
  simp only [Extent.covers, List.all_cons, List.all_nil, Bool.and_true, Bool.true_and, Bool.and_eq_true] at xh
  unfold dbgSafe
  simp [xh]

@[simp] theorem safeEffects_seen (xe : Extent) (s : State) (xh : xe.covers [.dev, .auth, .seqs, .time, .fab, .quays, .lanes, .pen, .mir, .boot, .port] [F.CKG_PLLSTAT_LOCK0, F.CKG_PLLSTAT_LOCK1, F.CKG_PLLSTAT_LOCK2, F.ICU_LOSTCNT, F.ICU_OVRw_SRC, F.ICU_PENDw_SRC, F.NET_STAT_LINK, F.NET_STAT_LINKCHG, F.NET_TXDROP, F.QY_DRVSTAT_AUTH, F.QY_LNKSTAT_STATE, F.QY_LNKSTAT_TLOCK, F.QY_LNKSTAT_ULOCK] = true) :
    State.seen xe (safeEffects s) = State.seen xe s := by
  simp only [Extent.covers, List.all_cons, List.all_nil, Bool.and_true, Bool.true_and, Bool.and_eq_true] at xh
  unfold safeEffects
  extract_lets s1 s2 s3 s4 s5 b
  have h1 : State.seen xe s1 = State.seen xe s := by simp [s1, xh]
  have h2 : State.seen xe s2 = State.seen xe s := by simp [s2, h1, xh]
  have h3 : State.seen xe s3 = State.seen xe s := by simp [s3, h2, xh]
  have h4 : State.seen xe s4 = State.seen xe s := by simp [s4, h3, xh]
  have h5 : State.seen xe s5 = State.seen xe s := by simp [s5, h4, xh]
  rw [← h5]
  simp [State.seen, b, xh]

@[simp] theorem enterSafe_seen (xe : Extent) (xs : List Fatal) (s : State) (xh : xe.covers [.dev, .auth, .seqs, .log, .time, .fab, .quays, .lanes, .pen, .mir, .boot, .cal, .port] [F.CAL_ABANDCNT, F.CAL_UCAP_ABANDON, F.CAL_USTAT_RESULT, F.CAL_USTAT_STATE, F.CKG_PLLSTAT_LOCK0, F.CKG_PLLSTAT_LOCK1, F.CKG_PLLSTAT_LOCK2, F.DBG_FLTSTAT_CLASS, F.DBG_LASTSAFEF_FRAME, F.DBG_LASTSAFE_CODE, F.ICU_LOSTCNT, F.ICU_OVRw_SRC, F.ICU_PENDw_SRC, F.NET_STAT_LINK, F.NET_STAT_LINKCHG, F.NET_TXDROP, F.QY_DRVSTAT_AUTH, F.QY_LNKSTAT_STATE, F.QY_LNKSTAT_TLOCK, F.QY_LNKSTAT_ULOCK, F.TMP_AONSTAT_TRIPPED] = true) :
    State.seen xe (enterSafe xs s) = State.seen xe s := by
  simp only [Extent.covers, List.all_cons, List.all_nil, Bool.and_true, Bool.true_and, Bool.and_eq_true] at xh
  unfold enterSafe
  repeat' first
    | (extract_lets +onlyGivenNames x; refine have hx : State.seen xe x = State.seen xe s := ?_; ?_; (on_goal 1 => unfold x); (on_goal 2 => clear_value x))
    | (extract_lets +onlyGivenNames x; refine have hx : State.seen xe x.2 = State.seen xe s := ?_; ?_; (on_goal 1 => unfold x); (on_goal 2 => clear_value x))
    | (extract_lets +onlyGivenNames x; refine have hx : State.seen xe x.2.2 = State.seen xe s := ?_; ?_; (on_goal 1 => unfold x); (on_goal 2 => clear_value x))
    | (extract_lets +onlyGivenNames x; clear_value x)
    | (simp [*]; done)
    | (refine (foldl_seen xe _ _ _ ?_).trans ?_; (on_goal 1 => intro s a))
    | (refine (State.when_seen xe _ _ _ ?_).trans ?_; (on_goal 1 => intro s))
    | split
    | (simp_all; done)

@[simp] theorem safeAtTick_seen (xe : Extent) (s : State) (xh : xe.covers [.dev, .auth, .seqs, .log, .time, .fab, .quays, .lanes, .pen, .mir, .boot, .cal, .port] [F.CAL_ABANDCNT, F.CAL_UCAP_ABANDON, F.CAL_USTAT_RESULT, F.CAL_USTAT_STATE, F.CKG_PLLSTAT_LOCK0, F.CKG_PLLSTAT_LOCK1, F.CKG_PLLSTAT_LOCK2, F.DBG_FLTSTAT_CLASS, F.DBG_LASTSAFEF_FRAME, F.DBG_LASTSAFE_CODE, F.ICU_LOSTCNT, F.ICU_OVRw_SRC, F.ICU_PENDw_SRC, F.NET_STAT_LINK, F.NET_STAT_LINKCHG, F.NET_TXDROP, F.QY_DRVSTAT_AUTH, F.QY_LNKSTAT_STATE, F.QY_LNKSTAT_TLOCK, F.QY_LNKSTAT_ULOCK, F.TMP_AONSTAT_TRIPPED] = true) :
    State.seen xe (safeAtTick s) = State.seen xe s := by
  simp only [Extent.covers, List.all_cons, List.all_nil, Bool.and_true, Bool.true_and, Bool.and_eq_true] at xh
  unfold safeAtTick
  simp [xh]

@[simp] theorem safeTick_seen (xe : Extent) (s : State) (xh : xe.covers [.dev, .auth, .frame, .seqs, .log, .time, .fab, .quays, .lanes, .pen, .mir, .boot, .cal, .port] [F.CAL_ABANDCNT, F.CAL_UCAP_ABANDON, F.CAL_USTAT_RESULT, F.CAL_USTAT_STATE, F.CKG_PLLSTAT_LOCK0, F.CKG_PLLSTAT_LOCK1, F.CKG_PLLSTAT_LOCK2, F.DBG_FLTSTAT_CLASS, F.DBG_LASTSAFEF_FRAME, F.DBG_LASTSAFE_CODE, F.ICU_LOSTCNT, F.ICU_OVRw_SRC, F.ICU_PENDw_SRC, F.NET_STAT_LINK, F.NET_STAT_LINKCHG, F.NET_TXDROP, F.QY_DRVSTAT_AUTH, F.QY_LNKSTAT_STATE, F.QY_LNKSTAT_TLOCK, F.QY_LNKSTAT_ULOCK, F.TMP_AONSTAT_TRIPPED] = true) :
    State.seen xe (safeTick s) = State.seen xe s := by
  simp only [Extent.covers, List.all_cons, List.all_nil, Bool.and_true, Bool.true_and, Bool.and_eq_true] at xh
  unfold safeTick
  simp [xh]

@[simp] theorem autoRestart_seen (xe : Extent) (s : State) (xh : xe.covers [.dev, .auth, .frame, .fresh, .locked, .seqs, .log, .rdata, .time, .table, .fab, .quays, .lanes, .tiles, .exec, .sched, .tide, .pen, .mir, .boot, .cal, .port] [] = true) (xha : xe.all = true) :
    State.seen xe (autoRestart s) = State.seen xe s := by
  simp only [Extent.covers, List.all_cons, List.all_nil, Bool.and_true, Bool.true_and, Bool.and_eq_true] at xh
  have xhr : ∀ f, xe.r f = true := fun f => xe.r_of_all f xha
  unfold autoRestart
  simp [xh, xha, xhr]

@[simp] theorem upTick_seen (xe : Extent) (s : State) (xh : xe.covers [.port] [] = true) :
    State.seen xe (upTick s) = State.seen xe s := by
  simp only [Extent.covers, List.all_cons, List.all_nil, Bool.and_true, Bool.true_and, Bool.and_eq_true] at xh
  unfold upTick
  simp [xh]

@[simp] theorem restartReset_seen (xe : Extent) (s : State) (xh : xe.covers [] [F.DBG_LASTSAFE_RESTARTS] = true) :
    State.seen xe (restartReset s) = State.seen xe s := by
  simp only [Extent.covers, List.all_cons, List.all_nil, Bool.and_true, Bool.true_and, Bool.and_eq_true] at xh
  unfold restartReset
  repeat' first
    | (extract_lets +onlyGivenNames x; refine have hx : State.seen xe x = State.seen xe s := ?_; ?_; (on_goal 1 => unfold x); (on_goal 2 => clear_value x))
    | (extract_lets +onlyGivenNames x; refine have hx : State.seen xe x.2 = State.seen xe s := ?_; ?_; (on_goal 1 => unfold x); (on_goal 2 => clear_value x))
    | (extract_lets +onlyGivenNames x; refine have hx : State.seen xe x.2.2 = State.seen xe s := ?_; ?_; (on_goal 1 => unfold x); (on_goal 2 => clear_value x))
    | (extract_lets +onlyGivenNames x; clear_value x)
    | (simp [*]; done)
    | (refine (foldl_seen xe _ _ _ ?_).trans ?_; (on_goal 1 => intro s a))
    | (refine (State.when_seen xe _ _ _ ?_).trans ?_; (on_goal 1 => intro s))
    | split
    | (simp_all; done)

@[simp] theorem State.modBoot_seen (xe : Extent) (s : State) (f : BootSt → BootSt) (xh : xe.covers [.boot] [] = true) (xhf : ∀ b, (f b).otp = b.otp) :
    State.seen xe (State.modBoot s f) = State.seen xe s := by
  simp only [Extent.covers, List.all_cons, List.all_nil, Bool.and_true, Bool.true_and, Bool.and_eq_true] at xh
  unfold State.modBoot
  simp [seen_boot xe s _ xh (xhf _), xh, xhf]

@[simp] theorem writeHeld_seen (xe : Extent) (s : State) (xh : xe.covers [.seqs, .log, .port] [F.DBG_FLTSTAT_CLASS, F.ICU_LOSTCNT, F.ICU_OVRw_SRC, F.ICU_PENDw_SRC, F.TMP_STAT_WRHOLD, F.TMP_WRREF] = true) :
    State.seen xe (writeHeld s) = State.seen xe s := by
  simp only [Extent.covers, List.all_cons, List.all_nil, Bool.and_true, Bool.true_and, Bool.and_eq_true] at xh
  unfold writeHeld
  simp [xh]

@[simp] theorem flashIssue_seen (xe : Extent) (s : State) (xh : xe.covers [.seqs, .log, .boot, .port] [F.DBG_FLTSTAT_CLASS, F.ICU_LOSTCNT, F.ICU_OVRw_SRC, F.ICU_PENDw_SRC, F.TMP_STAT_WRHOLD, F.TMP_WRREF] = true) :
    State.seen xe (flashIssue s) = State.seen xe s := by
  simp only [Extent.covers, List.all_cons, List.all_nil, Bool.and_true, Bool.true_and, Bool.and_eq_true] at xh
  unfold flashIssue
  repeat' first
    | (extract_lets +onlyGivenNames x; refine have hx : State.seen xe x = State.seen xe s := ?_; ?_; (on_goal 1 => unfold x); (on_goal 2 => clear_value x))
    | (extract_lets +onlyGivenNames x; refine have hx : State.seen xe x.2 = State.seen xe s := ?_; ?_; (on_goal 1 => unfold x); (on_goal 2 => clear_value x))
    | (extract_lets +onlyGivenNames x; refine have hx : State.seen xe x.2.2 = State.seen xe s := ?_; ?_; (on_goal 1 => unfold x); (on_goal 2 => clear_value x))
    | (extract_lets +onlyGivenNames x; clear_value x)
    | (simp [*]; done)
    | (refine (foldl_seen xe _ _ _ ?_).trans ?_; (on_goal 1 => intro s a))
    | (refine (State.when_seen xe _ _ _ ?_).trans ?_; (on_goal 1 => intro s))
    | split
    | (simp_all; done)

@[simp] theorem flashOk_seen (xe : Extent) (s : State) (xh : xe.covers [.seqs] [F.ICU_LOSTCNT, F.ICU_OVRw_SRC, F.ICU_PENDw_SRC, F.XSP_OPCNT, F.XSP_OPSTAT_DONE] = true) :
    State.seen xe (flashOk s) = State.seen xe s := by
  simp only [Extent.covers, List.all_cons, List.all_nil, Bool.and_true, Bool.true_and, Bool.and_eq_true] at xh
  unfold flashOk
  simp [xh]

@[simp] theorem flashErr_seen (xe : Extent) (code : Nat) (s : State) (xh : xe.covers [.seqs] [F.ICU_LOSTCNT, F.ICU_OVRw_SRC, F.ICU_PENDw_SRC, F.XSP_ERRCNT, F.XSP_OPSTAT_ERR, F.XSP_OPSTAT_ERRCODE] = true) :
    State.seen xe (flashErr code s) = State.seen xe s := by
  simp only [Extent.covers, List.all_cons, List.all_nil, Bool.and_true, Bool.true_and, Bool.and_eq_true] at xh
  unfold flashErr
  simp [xh]

@[simp] theorem xspSubmit_seen (xe : Extent) (kind : Nat) (s : State) (xh : xe.covers [.seqs, .log, .boot, .port] [F.DBG_FLTSTAT_CLASS, F.ICU_LOSTCNT, F.ICU_OVRw_SRC, F.ICU_PENDw_SRC, F.TMP_STAT_WRHOLD, F.TMP_WRREF, F.XSP_ERRCNT, F.XSP_OPCMD_KIND, F.XSP_OPCNT, F.XSP_OPSTAT_DONE, F.XSP_OPSTAT_ERR, F.XSP_OPSTAT_ERRCODE, F.XSP_OPSTAT_FULL] = true) :
    State.seen xe (xspSubmit kind s) = State.seen xe s := by
  simp only [Extent.covers, List.all_cons, List.all_nil, Bool.and_true, Bool.true_and, Bool.and_eq_true] at xh
  unfold xspSubmit
  simp [xh]

@[simp] theorem holdEnd_seen (xe : Extent) (s : State) (xh : xe.covers [] [F.TMP_STAT_WRHOLD] = true) :
    State.seen xe (holdEnd s) = State.seen xe s := by
  simp only [Extent.covers, List.all_cons, List.all_nil, Bool.and_true, Bool.true_and, Bool.and_eq_true] at xh
  unfold holdEnd
  simp [xh]

@[simp] theorem dropOps_seen (xe : Extent) (p : FlashOp → Bool) (s : State) (xh : xe.covers [.boot] [F.TMP_STAT_WRHOLD] = true) :
    State.seen xe (dropOps p s) = State.seen xe s := by
  simp only [Extent.covers, List.all_cons, List.all_nil, Bool.and_true, Bool.true_and, Bool.and_eq_true] at xh
  unfold dropOps
  simp [xh]

@[simp] theorem xspCancel_seen (xe : Extent) (s : State) (xh : xe.covers [.boot] [F.TMP_STAT_WRHOLD, F.XSP_OPSTAT_CANCELLED] = true) :
    State.seen xe (xspCancel s) = State.seen xe s := by
  simp only [Extent.covers, List.all_cons, List.all_nil, Bool.and_true, Bool.true_and, Bool.and_eq_true] at xh
  unfold xspCancel
  simp [xh]

@[simp] theorem xspStatclr_seen (xe : Extent) (s : State) (xh : xe.covers [] [F.XSP_ERRCNT, F.XSP_OPCNT] = true) :
    State.seen xe (xspStatclr s) = State.seen xe s := by
  simp only [Extent.covers, List.all_cons, List.all_nil, Bool.and_true, Bool.true_and, Bool.and_eq_true] at xh
  unfold xspStatclr
  simp [xh]

@[simp] theorem otpIssue_seen (xe : Extent) (s : State) (xh : xe.covers [.seqs, .log, .boot, .port] [F.DBG_FLTSTAT_CLASS, F.ICU_LOSTCNT, F.ICU_OVRw_SRC, F.ICU_PENDw_SRC, F.TMP_STAT_WRHOLD, F.TMP_WRREF] = true) :
    State.seen xe (otpIssue s) = State.seen xe s := by
  simp only [Extent.covers, List.all_cons, List.all_nil, Bool.and_true, Bool.true_and, Bool.and_eq_true] at xh
  unfold otpIssue
  simp [xh]

@[simp] theorem otpProg_seen (xe : Extent) (s : State) (xh : xe.covers [.seqs, .log, .boot, .port] [F.DBG_FLTSTAT_CLASS, F.ICU_LOSTCNT, F.ICU_OVRw_SRC, F.ICU_PENDw_SRC, F.OTP_STAT_PREF, F.OTP_STAT_REASON, F.TMP_STAT_WRHOLD, F.TMP_WRREF] = true) :
    State.seen xe (otpProg s) = State.seen xe s := by
  simp only [Extent.covers, List.all_cons, List.all_nil, Bool.and_true, Bool.true_and, Bool.and_eq_true] at xh
  unfold otpProg
  simp [xh]

@[simp] theorem otpCancel_seen (xe : Extent) (s : State) (xh : xe.covers [.boot] [F.TMP_STAT_WRHOLD] = true) :
    State.seen xe (otpCancel s) = State.seen xe s := by
  simp only [Extent.covers, List.all_cons, List.all_nil, Bool.and_true, Bool.true_and, Bool.and_eq_true] at xh
  unfold otpCancel
  simp [xh]

@[simp] theorem otpDone_seen (xe : Extent) (ok : Bool) (s : State) (xh : xe.covers [.fresh, .seqs, .boot, .otp] [F.ICU_LOSTCNT, F.ICU_OVRw_SRC, F.ICU_PENDw_SRC, F.OTP_STAT_PDONE, F.OTP_STAT_PERR] = true) :
    State.seen xe (otpDone ok s) = State.seen xe s := by
  simp only [Extent.covers, List.all_cons, List.all_nil, Bool.and_true, Bool.true_and, Bool.and_eq_true] at xh
  unfold otpDone
  split
  · rfl
  split
  · rfl
  extract_lets d s1 s2
  have h1 : State.seen xe s1 = State.seen xe s := by simp [s1, xh]
  have h2 : State.seen xe s2 = State.seen xe s := by
    simp only [s2, State.modBoot]
    exact (seen_boot_otp xe _ _ (by simp [xh]) (by simp [xh])).trans h1
  clear_value s2
  split <;> simp [h2, xh]

@[simp] theorem holdRelease_seen (xe : Extent) (s : State) (xh : xe.covers [.seqs, .log, .boot, .port] [F.DBG_FLTSTAT_CLASS, F.ICU_LOSTCNT, F.ICU_OVRw_SRC, F.ICU_PENDw_SRC, F.TMP_STAT_WRHOLD, F.TMP_WRREF] = true) :
    State.seen xe (holdRelease s) = State.seen xe s := by
  simp only [Extent.covers, List.all_cons, List.all_nil, Bool.and_true, Bool.true_and, Bool.and_eq_true] at xh
  unfold holdRelease
  simp [xh]

@[simp] theorem sampleOne_seen (xe : Extent) (n : Nat) (raw : Option Int) (s : State) (xh : xe.covers [.cal] [F.TMP_SENSn_TEMP, F.TMP_SENSn_VALID] = true) :
    State.seen xe (sampleOne n raw s) = State.seen xe s := by
  simp only [Extent.covers, List.all_cons, List.all_nil, Bool.and_true, Bool.true_and, Bool.and_eq_true] at xh
  unfold sampleOne
  repeat' first
    | (extract_lets +onlyGivenNames x; refine have hx : State.seen xe x = State.seen xe s := ?_; ?_; (on_goal 1 => unfold x); (on_goal 2 => clear_value x))
    | (extract_lets +onlyGivenNames x; refine have hx : State.seen xe x.2 = State.seen xe s := ?_; ?_; (on_goal 1 => unfold x); (on_goal 2 => clear_value x))
    | (extract_lets +onlyGivenNames x; refine have hx : State.seen xe x.2.2 = State.seen xe s := ?_; ?_; (on_goal 1 => unfold x); (on_goal 2 => clear_value x))
    | (extract_lets +onlyGivenNames x; clear_value x)
    | (simp [*]; done)
    | (refine (foldl_seen xe _ _ _ ?_).trans ?_; (on_goal 1 => intro s a))
    | (refine (State.when_seen xe _ _ _ ?_).trans ?_; (on_goal 1 => intro s))
    | split
    | (simp_all; done)

@[simp] theorem sensorRetire_seen (xe : Extent) (n : Nat) (s : State) (xh : xe.covers [.seqs, .log, .port] [F.DBG_FLTSTAT_CLASS, F.ICU_LOSTCNT, F.ICU_OVRw_SRC, F.ICU_PENDw_SRC, F.TMP_SENSn_FAILED, F.TMP_SFAIL_FAILED] = true) :
    State.seen xe (sensorRetire n s) = State.seen xe s := by
  simp only [Extent.covers, List.all_cons, List.all_nil, Bool.and_true, Bool.true_and, Bool.and_eq_true] at xh
  unfold sensorRetire
  simp [xh]

@[simp] theorem hottest_seen (xe : Extent) (s : State) (xh : xe.covers [] [F.TMP_MAX_SENSOR, F.TMP_MAX_TEMP] = true) :
    State.seen xe (hottest s) = State.seen xe s := by
  simp only [Extent.covers, List.all_cons, List.all_nil, Bool.and_true, Bool.true_and, Bool.and_eq_true] at xh
  unfold hottest
  repeat' first
    | (extract_lets +onlyGivenNames x; refine have hx : State.seen xe x = State.seen xe s := ?_; ?_; (on_goal 1 => unfold x); (on_goal 2 => clear_value x))
    | (extract_lets +onlyGivenNames x; refine have hx : State.seen xe x.2 = State.seen xe s := ?_; ?_; (on_goal 1 => unfold x); (on_goal 2 => clear_value x))
    | (extract_lets +onlyGivenNames x; refine have hx : State.seen xe x.2.2 = State.seen xe s := ?_; ?_; (on_goal 1 => unfold x); (on_goal 2 => clear_value x))
    | (extract_lets +onlyGivenNames x; clear_value x)
    | (simp [*]; done)
    | (refine (foldl_seen xe _ _ _ ?_).trans ?_; (on_goal 1 => intro s a))
    | (refine (State.when_seen xe _ _ _ ?_).trans ?_; (on_goal 1 => intro s))
    | split
    | (simp_all; done)

@[simp] theorem warnCheck_seen (xe : Extent) (s : State) (xh : xe.covers [.seqs, .log, .port] [F.DBG_FLTSTAT_CLASS, F.ICU_LOSTCNT, F.ICU_OVRw_SRC, F.ICU_PENDw_SRC, F.TMP_STAT_WARN, F.TMP_WARNCNT] = true) :
    State.seen xe (warnCheck s) = State.seen xe s := by
  simp only [Extent.covers, List.all_cons, List.all_nil, Bool.and_true, Bool.true_and, Bool.and_eq_true] at xh
  unfold warnCheck
  simp [xh]

@[simp] theorem tripCheck_seen (xe : Extent) (s : State) (xh : xe.covers [.port] [] = true) :
    State.seen xe (tripCheck s) = State.seen xe s := by
  simp only [Extent.covers, List.all_cons, List.all_nil, Bool.and_true, Bool.true_and, Bool.and_eq_true] at xh
  unfold tripCheck
  simp [xh]

@[simp] theorem dieTrigger_seen (xe : Extent) (s : State) (xh : xe.covers [.seqs, .cal] [F.CAL_STAT_DIETRIG, F.ICU_LOSTCNT, F.ICU_OVRw_SRC, F.ICU_PENDw_SRC] = true) :
    State.seen xe (dieTrigger s) = State.seen xe s := by
  simp only [Extent.covers, List.all_cons, List.all_nil, Bool.and_true, Bool.true_and, Bool.and_eq_true] at xh
  unfold dieTrigger
  repeat' first
    | (extract_lets +onlyGivenNames x; refine have hx : State.seen xe x = State.seen xe s := ?_; ?_; (on_goal 1 => unfold x); (on_goal 2 => clear_value x))
    | (extract_lets +onlyGivenNames x; refine have hx : State.seen xe x.2 = State.seen xe s := ?_; ?_; (on_goal 1 => unfold x); (on_goal 2 => clear_value x))
    | (extract_lets +onlyGivenNames x; refine have hx : State.seen xe x.2.2 = State.seen xe s := ?_; ?_; (on_goal 1 => unfold x); (on_goal 2 => clear_value x))
    | (extract_lets +onlyGivenNames x; clear_value x)
    | (simp [*]; done)
    | (refine (foldl_seen xe _ _ _ ?_).trans ?_; (on_goal 1 => intro s a))
    | (refine (State.when_seen xe _ _ _ ?_).trans ?_; (on_goal 1 => intro s))
    | split
    | (simp_all; done)

@[simp] theorem sensorSample_seen (xe : Extent) (rs : List (Option Int)) (s : State) (xh : xe.covers [.seqs, .log, .boot, .cal, .port] [F.CAL_STAT_DIETRIG, F.DBG_FLTSTAT_CLASS, F.ICU_LOSTCNT, F.ICU_OVRw_SRC, F.ICU_PENDw_SRC, F.TMP_MAX_SENSOR, F.TMP_MAX_TEMP, F.TMP_SENSn_FAILED, F.TMP_SENSn_TEMP, F.TMP_SENSn_VALID, F.TMP_SFAIL_FAILED, F.TMP_STAT_FAST, F.TMP_STAT_WARN, F.TMP_STAT_WRHOLD, F.TMP_WARNCNT, F.TMP_WRREF] = true) :
    State.seen xe (sensorSample rs s) = State.seen xe s := by
  simp only [Extent.covers, List.all_cons, List.all_nil, Bool.and_true, Bool.true_and, Bool.and_eq_true] at xh
  unfold sensorSample
  simp [xh]

@[simp] theorem thermalShutdown_seen (xe : Extent) (s : State) (xh : xe.covers [.dev, .auth, .frame, .fresh, .locked, .seqs, .log, .rdata, .time, .table, .fab, .quays, .lanes, .tiles, .exec, .sched, .tide, .pen, .mir, .boot, .cal, .port] [] = true) (xha : xe.all = true) :
    State.seen xe (thermalShutdown s) = State.seen xe s := by
  simp only [Extent.covers, List.all_cons, List.all_nil, Bool.and_true, Bool.true_and, Bool.and_eq_true] at xh
  have xhr : ∀ f, xe.r f = true := fun f => xe.r_of_all f xha
  unfold thermalShutdown
  simp [xh, xha, xhr]

@[simp] theorem shutdownRelease_seen (xe : Extent) (s : State) (xh : xe.covers [.cal] [] = true) :
    State.seen xe (shutdownRelease s) = State.seen xe s := by
  simp only [Extent.covers, List.all_cons, List.all_nil, Bool.and_true, Bool.true_and, Bool.and_eq_true] at xh
  unfold shutdownRelease
  simp [xh]

@[simp] theorem bandCompute_seen (xe : Extent) (s : State) (xh : xe.covers [.cal] [F.TMP_PHTEMP_NQ, F.TMP_PHTEMP_TP, F.TMP_STAT_PHSPREAD, F.TMP_STAT_PHSTALE] = true) :
    State.seen xe (bandCompute s) = State.seen xe s := by
  simp only [Extent.covers, List.all_cons, List.all_nil, Bool.and_true, Bool.true_and, Bool.and_eq_true] at xh
  unfold bandCompute
  repeat' first
    | (extract_lets +onlyGivenNames x; refine have hx : State.seen xe x = State.seen xe s := ?_; ?_; (on_goal 1 => unfold x); (on_goal 2 => clear_value x))
    | (extract_lets +onlyGivenNames x; refine have hx : State.seen xe x.2 = State.seen xe s := ?_; ?_; (on_goal 1 => unfold x); (on_goal 2 => clear_value x))
    | (extract_lets +onlyGivenNames x; refine have hx : State.seen xe x.2.2 = State.seen xe s := ?_; ?_; (on_goal 1 => unfold x); (on_goal 2 => clear_value x))
    | (extract_lets +onlyGivenNames x; clear_value x)
    | (simp [*]; done)
    | (refine (foldl_seen xe _ _ _ ?_).trans ?_; (on_goal 1 => intro s a))
    | (refine (State.when_seen xe _ _ _ ?_).trans ?_; (on_goal 1 => intro s))
    | split
    | (simp_all; done)

@[simp] theorem bandChange_seen (xe : Extent) (s : State) (xh : xe.covers [.seqs, .cal] [F.CAL_UCAP_BANDCHG, F.ICU_LOSTCNT, F.ICU_OVRw_SRC, F.ICU_PENDw_SRC, F.SEG_STAT_BAND, F.TMP_BANDCNT] = true) :
    State.seen xe (bandChange s) = State.seen xe s := by
  simp only [Extent.covers, List.all_cons, List.all_nil, Bool.and_true, Bool.true_and, Bool.and_eq_true] at xh
  unfold bandChange
  repeat' first
    | (extract_lets +onlyGivenNames x; refine have hx : State.seen xe x = State.seen xe s := ?_; ?_; (on_goal 1 => unfold x); (on_goal 2 => clear_value x))
    | (extract_lets +onlyGivenNames x; refine have hx : State.seen xe x.2 = State.seen xe s := ?_; ?_; (on_goal 1 => unfold x); (on_goal 2 => clear_value x))
    | (extract_lets +onlyGivenNames x; refine have hx : State.seen xe x.2.2 = State.seen xe s := ?_; ?_; (on_goal 1 => unfold x); (on_goal 2 => clear_value x))
    | (extract_lets +onlyGivenNames x; clear_value x)
    | (simp [*]; done)
    | (refine (foldl_seen xe _ _ _ ?_).trans ?_; (on_goal 1 => intro s a))
    | (refine (State.when_seen xe _ _ _ ?_).trans ?_; (on_goal 1 => intro s))
    | split
    | (simp_all; done)

@[simp] theorem trigTick_seen (xe : Extent) (s : State) (xh : xe.covers [.seqs, .cal] [F.CAL_QTRIG_QUAY, F.ICU_LOSTCNT, F.ICU_OVRw_SRC, F.ICU_PENDw_SRC] = true) :
    State.seen xe (trigTick s) = State.seen xe s := by
  simp only [Extent.covers, List.all_cons, List.all_nil, Bool.and_true, Bool.true_and, Bool.and_eq_true] at xh
  unfold trigTick
  repeat' first
    | (extract_lets +onlyGivenNames x; refine have hx : State.seen xe x = State.seen xe s := ?_; ?_; (on_goal 1 => unfold x); (on_goal 2 => clear_value x))
    | (extract_lets +onlyGivenNames x; refine have hx : State.seen xe x.2 = State.seen xe s := ?_; ?_; (on_goal 1 => unfold x); (on_goal 2 => clear_value x))
    | (extract_lets +onlyGivenNames x; refine have hx : State.seen xe x.2.2 = State.seen xe s := ?_; ?_; (on_goal 1 => unfold x); (on_goal 2 => clear_value x))
    | (extract_lets +onlyGivenNames x; clear_value x)
    | (simp [*]; done)
    | (refine (foldl_seen xe _ _ _ ?_).trans ?_; (on_goal 1 => intro s a))
    | (refine (State.when_seen xe _ _ _ ?_).trans ?_; (on_goal 1 => intro s))
    | split
    | (simp_all; done)

@[simp] theorem qtrigClear_seen (xe : Extent) (v : Nat) (s : State) (xh : xe.covers [.cal] [F.CAL_QTRIG_QUAY] = true) :
    State.seen xe (qtrigClear v s) = State.seen xe s := by
  simp only [Extent.covers, List.all_cons, List.all_nil, Bool.and_true, Bool.true_and, Bool.and_eq_true] at xh
  unfold qtrigClear
  simp [xh]

@[simp] theorem dietrigClear_seen (xe : Extent) (s : State) (xh : xe.covers [.cal] [F.CAL_STAT_DIETRIG] = true) :
    State.seen xe (dietrigClear s) = State.seen xe s := by
  simp only [Extent.covers, List.all_cons, List.all_nil, Bool.and_true, Bool.true_and, Bool.and_eq_true] at xh
  unfold dietrigClear
  simp [xh]

@[simp] theorem tmpStatclr_seen (xe : Extent) (s : State) (xh : xe.covers [] [F.TMP_BANDCNT, F.TMP_WARNCNT, F.TMP_WRREF] = true) :
    State.seen xe (tmpStatclr s) = State.seen xe s := by
  simp only [Extent.covers, List.all_cons, List.all_nil, Bool.and_true, Bool.true_and, Bool.and_eq_true] at xh
  unfold tmpStatclr
  simp [xh]

@[simp] theorem setTrim_seen (xe : Extent) (kind i v : Nat) (s : State) (xh : xe.covers [.cal] [] = true) :
    State.seen xe (setTrim kind i v s) = State.seen xe s := by
  simp only [Extent.covers, List.all_cons, List.all_nil, Bool.and_true, Bool.true_and, Bool.and_eq_true] at xh
  unfold setTrim
  simp [xh]

@[simp] theorem calTrimWrite_seen (xe : Extent) (v : Nat) (s : State) (xh : xe.covers [.cal] [F.CAL_STAT_DIRTY, F.CAL_STAT_TRIMERR] = true) :
    State.seen xe (calTrimWrite v s) = State.seen xe s := by
  simp only [Extent.covers, List.all_cons, List.all_nil, Bool.and_true, Bool.true_and, Bool.and_eq_true] at xh
  unfold calTrimWrite
  simp [xh]

@[simp] theorem holdForCal_seen (xe : Extent) (u b : Nat) (s : State) (xh : xe.covers [.fab] [] = true) :
    State.seen xe (holdForCal u b s) = State.seen xe s := by
  simp only [Extent.covers, List.all_cons, List.all_nil, Bool.and_true, Bool.true_and, Bool.and_eq_true] at xh
  unfold holdForCal
  simp [xh]

@[simp] theorem unitStart_seen (xe : Extent) (u st : Nat) (x : CalUnit) (s : State) (xh : xe.covers [.cal] [F.CAL_USTAT_REASON, F.CAL_USTAT_RESULT, F.CAL_USTAT_STATE] = true) :
    State.seen xe (unitStart u st x s) = State.seen xe s := by
  simp only [Extent.covers, List.all_cons, List.all_nil, Bool.and_true, Bool.true_and, Bool.and_eq_true] at xh
  unfold unitStart
  simp [xh]

@[simp] theorem calGoElement_seen (xe : Extent) (s : State) (xh : xe.covers [.fab, .cal] [F.CAL_USTAT_REASON, F.CAL_USTAT_RESULT, F.CAL_USTAT_STATE] = true) :
    State.seen xe (calGoElement s) = State.seen xe s := by
  simp only [Extent.covers, List.all_cons, List.all_nil, Bool.and_true, Bool.true_and, Bool.and_eq_true] at xh
  unfold calGoElement
  simp [xh]

@[simp] theorem calGoScale_seen (xe : Extent) (s : State) (xh : xe.covers [.cal] [F.CAL_USTAT_REASON, F.CAL_USTAT_RESULT, F.CAL_USTAT_STATE] = true) :
    State.seen xe (calGoScale s) = State.seen xe s := by
  simp only [Extent.covers, List.all_cons, List.all_nil, Bool.and_true, Bool.true_and, Bool.and_eq_true] at xh
  unfold calGoScale
  simp [xh]

@[simp] theorem calCancel_seen (xe : Extent) (s : State) (xh : xe.covers [.cal] [F.CAL_ABANDCNT, F.CAL_UCAP_ABANDON, F.CAL_USTAT_RESULT, F.CAL_USTAT_STATE] = true) :
    State.seen xe (calCancel s) = State.seen xe s := by
  simp only [Extent.covers, List.all_cons, List.all_nil, Bool.and_true, Bool.true_and, Bool.and_eq_true] at xh
  unfold calCancel
  simp [xh]

@[simp] theorem abandonTick_seen (xe : Extent) (u : Nat) (s : State) (xh : xe.covers [.cal] [F.CAL_ABANDCNT, F.CAL_UCAP_ABANDON, F.CAL_USTAT_RESULT, F.CAL_USTAT_STATE] = true) :
    State.seen xe (abandonTick u s) = State.seen xe s := by
  simp only [Extent.covers, List.all_cons, List.all_nil, Bool.and_true, Bool.true_and, Bool.and_eq_true] at xh
  unfold abandonTick
  repeat' first
    | (extract_lets +onlyGivenNames x; refine have hx : State.seen xe x = State.seen xe s := ?_; ?_; (on_goal 1 => unfold x); (on_goal 2 => clear_value x))
    | (extract_lets +onlyGivenNames x; refine have hx : State.seen xe x.2 = State.seen xe s := ?_; ?_; (on_goal 1 => unfold x); (on_goal 2 => clear_value x))
    | (extract_lets +onlyGivenNames x; refine have hx : State.seen xe x.2.2 = State.seen xe s := ?_; ?_; (on_goal 1 => unfold x); (on_goal 2 => clear_value x))
    | (extract_lets +onlyGivenNames x; clear_value x)
    | (simp [*]; done)
    | (refine (foldl_seen xe _ _ _ ?_).trans ?_; (on_goal 1 => intro s a))
    | (refine (State.when_seen xe _ _ _ ?_).trans ?_; (on_goal 1 => intro s))
    | split
    | (simp_all; done)

@[simp] theorem holdDone_seen (xe : Extent) (u : Nat) (s : State) (xh : xe.covers [] [F.CAL_USTAT_STATE] = true) :
    State.seen xe (holdDone u s) = State.seen xe s := by
  simp only [Extent.covers, List.all_cons, List.all_nil, Bool.and_true, Bool.true_and, Bool.and_eq_true] at xh
  unfold holdDone
  simp [xh]

@[simp] theorem scaleRequest_seen (xe : Extent) (u c : Nat) (s : State) (xh : xe.covers [.quays, .lanes] [F.QY_DRVCFG_MODE, F.QY_DRVSTAT_MODEDEN, F.QY_RNGFRM_FRAME, F.QY_RNGREQ_RANGE, F.QY_RNGSTAT_BADFRM, F.QY_RNGSTAT_NEXT, F.QY_RNGSTAT_PEND] = true) :
    State.seen xe (scaleRequest u c s) = State.seen xe s := by
  simp only [Extent.covers, List.all_cons, List.all_nil, Bool.and_true, Bool.true_and, Bool.and_eq_true] at xh
  unfold scaleRequest
  simp [xh]

@[simp] theorem windowFound_seen (xe : Extent) (u : Nat) (s : State) (xh : xe.covers [.quays, .lanes, .cal] [F.CAL_UCAP_ABANDON, F.CAL_UCAP_BANDCHG, F.CAL_UCAP_CAPID, F.CAL_UCAP_COUNT, F.CAL_UCAP_RNGCHG, F.CAL_UFRM_FRAME, F.CAL_USTAT_STATE, F.QY_DRVCFG_MODE, F.QY_DRVSTAT_MODEDEN, F.QY_RNGFRM_FRAME, F.QY_RNGREQ_RANGE, F.QY_RNGSTAT_BADFRM, F.QY_RNGSTAT_NEXT, F.QY_RNGSTAT_PEND] = true) :
    State.seen xe (windowFound u s) = State.seen xe s := by
  simp only [Extent.covers, List.all_cons, List.all_nil, Bool.and_true, Bool.true_and, Bool.and_eq_true] at xh
  unfold windowFound
  extract_lets s1 x
  have h1 : State.seen xe s1 = State.seen xe s := by simp [s1, xh]
  clear_value s1
  split
  · rename_i f0 last id s2 s3 s4 _
    have h2 : State.seen xe s2 = State.seen xe s := by simp [s2, h1, xh]
    have h3 : State.seen xe s3 = State.seen xe s := by simp [s3, h2, xh]
    have h4 : State.seen xe s4 = State.seen xe s := by
      simp only [s4]
      refine (foldl_mem_seen xe _ _ _ ?_).trans ?_
      · intro f hf s
        simp only [List.mem_cons, List.not_mem_nil, or_false] at hf
        rcases hf with rfl | rfl | rfl | rfl <;> simp [xh]
      · simp [h3, xh]
    clear_value s4
    split
    · simp [h4, xh]
    · exact h4
  · exact h1

@[simp] theorem windowTimeout_seen (xe : Extent) (u : Nat) (s : State) (xh : xe.covers [.cal] [F.CAL_USTAT_RESULT, F.CAL_USTAT_STATE] = true) :
    State.seen xe (windowTimeout u s) = State.seen xe s := by
  simp only [Extent.covers, List.all_cons, List.all_nil, Bool.and_true, Bool.true_and, Bool.and_eq_true] at xh
  unfold windowTimeout
  simp [xh]

@[simp] theorem sweepRun_seen (xe : Extent) (u : Nat) (s : State) (xh : xe.covers [] [F.CAL_UCAP_BAND, F.CAL_USTAT_STATE] = true) :
    State.seen xe (sweepRun u s) = State.seen xe s := by
  simp only [Extent.covers, List.all_cons, List.all_nil, Bool.and_true, Bool.true_and, Bool.and_eq_true] at xh
  unfold sweepRun
  repeat' first
    | (extract_lets +onlyGivenNames x; refine have hx : State.seen xe x = State.seen xe s := ?_; ?_; (on_goal 1 => unfold x); (on_goal 2 => clear_value x))
    | (extract_lets +onlyGivenNames x; refine have hx : State.seen xe x.2 = State.seen xe s := ?_; ?_; (on_goal 1 => unfold x); (on_goal 2 => clear_value x))
    | (extract_lets +onlyGivenNames x; refine have hx : State.seen xe x.2.2 = State.seen xe s := ?_; ?_; (on_goal 1 => unfold x); (on_goal 2 => clear_value x))
    | (extract_lets +onlyGivenNames x; clear_value x)
    | (simp [*]; done)
    | (refine (foldl_seen xe _ _ _ ?_).trans ?_; (on_goal 1 => intro s a))
    | (refine (State.when_seen xe _ _ _ ?_).trans ?_; (on_goal 1 => intro s))
    | split
    | (simp_all; done)

@[simp] theorem rngFlag_seen (xe : Extent) (u : Nat) (s : State) (xh : xe.covers [.cal] [F.CAL_UCAP_RNGCHG] = true) :
    State.seen xe (rngFlag u s) = State.seen xe s := by
  simp only [Extent.covers, List.all_cons, List.all_nil, Bool.and_true, Bool.true_and, Bool.and_eq_true] at xh
  unfold rngFlag
  simp [xh]

@[simp] theorem scaleChange_seen (xe : Extent) (u : Nat) (s : State) (xh : xe.covers [.quays] [F.QY_RNGSTAT_CUR, F.QY_RNGSTAT_DONE, F.QY_RNGSTAT_PEND] = true) :
    State.seen xe (scaleChange u s) = State.seen xe s := by
  simp only [Extent.covers, List.all_cons, List.all_nil, Bool.and_true, Bool.true_and, Bool.and_eq_true] at xh
  unfold scaleChange
  repeat' first
    | (extract_lets +onlyGivenNames x; refine have hx : State.seen xe x = State.seen xe s := ?_; ?_; (on_goal 1 => unfold x); (on_goal 2 => clear_value x))
    | (extract_lets +onlyGivenNames x; refine have hx : State.seen xe x.2 = State.seen xe s := ?_; ?_; (on_goal 1 => unfold x); (on_goal 2 => clear_value x))
    | (extract_lets +onlyGivenNames x; refine have hx : State.seen xe x.2.2 = State.seen xe s := ?_; ?_; (on_goal 1 => unfold x); (on_goal 2 => clear_value x))
    | (extract_lets +onlyGivenNames x; clear_value x)
    | (simp [*]; done)
    | (refine (foldl_seen xe _ _ _ ?_).trans ?_; (on_goal 1 => intro s a))
    | (refine (State.when_seen xe _ _ _ ?_).trans ?_; (on_goal 1 => intro s))
    | split
    | (simp_all; done)

@[simp] theorem capPut_seen (xe : Extent) (u k w : Nat) (s : State) (xh : xe.covers [.table] [F.CAL_UCAP_COUNT] = true) :
    State.seen xe (capPut u k w s) = State.seen xe s := by
  simp only [Extent.covers, List.all_cons, List.all_nil, Bool.and_true, Bool.true_and, Bool.and_eq_true] at xh
  unfold capPut
  simp [xh]

@[simp] theorem capWrite_seen (xe : Extent) (u : Nat) (s : State) (xh : xe.covers [.fresh, .table, .cal] [F.CAL_UCAP_COUNT] = true) :
    State.seen xe (capWrite u s) = State.seen xe s := by
  simp only [Extent.covers, List.all_cons, List.all_nil, Bool.and_true, Bool.true_and, Bool.and_eq_true] at xh
  unfold capWrite
  repeat' first
    | (extract_lets +onlyGivenNames x; refine have hx : State.seen xe x = State.seen xe s := ?_; ?_; (on_goal 1 => unfold x); (on_goal 2 => clear_value x))
    | (extract_lets +onlyGivenNames x; refine have hx : State.seen xe x.2 = State.seen xe s := ?_; ?_; (on_goal 1 => unfold x); (on_goal 2 => clear_value x))
    | (extract_lets +onlyGivenNames x; refine have hx : State.seen xe x.2.2 = State.seen xe s := ?_; ?_; (on_goal 1 => unfold x); (on_goal 2 => clear_value x))
    | (extract_lets +onlyGivenNames x; clear_value x)
    | (simp [*]; done)
    | (refine (foldl_seen xe _ _ _ ?_).trans ?_; (on_goal 1 => intro s a))
    | (refine (State.when_seen xe _ _ _ ?_).trans ?_; (on_goal 1 => intro s))
    | split
    | (simp_all; done)

@[simp] theorem capFrame_seen (xe : Extent) (u h : Nat) (s : State) (xh : xe.covers [.cal] [] = true) :
    State.seen xe (capFrame u h s) = State.seen xe s := by
  simp only [Extent.covers, List.all_cons, List.all_nil, Bool.and_true, Bool.true_and, Bool.and_eq_true] at xh
  unfold capFrame
  repeat' first
    | (extract_lets +onlyGivenNames x; refine have hx : State.seen xe x = State.seen xe s := ?_; ?_; (on_goal 1 => unfold x); (on_goal 2 => clear_value x))
    | (extract_lets +onlyGivenNames x; refine have hx : State.seen xe x.2 = State.seen xe s := ?_; ?_; (on_goal 1 => unfold x); (on_goal 2 => clear_value x))
    | (extract_lets +onlyGivenNames x; refine have hx : State.seen xe x.2.2 = State.seen xe s := ?_; ?_; (on_goal 1 => unfold x); (on_goal 2 => clear_value x))
    | (extract_lets +onlyGivenNames x; clear_value x)
    | (simp [*]; done)
    | (refine (foldl_seen xe _ _ _ ?_).trans ?_; (on_goal 1 => intro s a))
    | (refine (State.when_seen xe _ _ _ ?_).trans ?_; (on_goal 1 => intro s))
    | split
    | (simp_all; done)

@[simp] theorem scaleWrite_seen (xe : Extent) (u : Nat) (s : State) (xh : xe.covers [.table] [F.CAL_UCAP_COUNT] = true) :
    State.seen xe (scaleWrite u s) = State.seen xe s := by
  simp only [Extent.covers, List.all_cons, List.all_nil, Bool.and_true, Bool.true_and, Bool.and_eq_true] at xh
  unfold scaleWrite
  simp [xh]

@[simp] theorem captureEnd_seen (xe : Extent) (u : Nat) (s : State) (xh : xe.covers [.table] [F.CAL_UCAP_COUNT, F.CAL_USTAT_RESULT, F.CAL_USTAT_STATE] = true) :
    State.seen xe (captureEnd u s) = State.seen xe s := by
  simp only [Extent.covers, List.all_cons, List.all_nil, Bool.and_true, Bool.true_and, Bool.and_eq_true] at xh
  unfold captureEnd
  repeat' first
    | (extract_lets +onlyGivenNames x; refine have hx : State.seen xe x = State.seen xe s := ?_; ?_; (on_goal 1 => unfold x); (on_goal 2 => clear_value x))
    | (extract_lets +onlyGivenNames x; refine have hx : State.seen xe x.2 = State.seen xe s := ?_; ?_; (on_goal 1 => unfold x); (on_goal 2 => clear_value x))
    | (extract_lets +onlyGivenNames x; refine have hx : State.seen xe x.2.2 = State.seen xe s := ?_; ?_; (on_goal 1 => unfold x); (on_goal 2 => clear_value x))
    | (extract_lets +onlyGivenNames x; clear_value x)
    | (simp [*]; done)
    | (refine (foldl_seen xe _ _ _ ?_).trans ?_; (on_goal 1 => intro s a))
    | (refine (State.when_seen xe _ _ _ ?_).trans ?_; (on_goal 1 => intro s))
    | split
    | (simp_all; done)

@[simp] theorem releaseBundle_seen (xe : Extent) (u b : Nat) (s : State) (xh : xe.covers [.fab] [] = true) :
    State.seen xe (releaseBundle u b s) = State.seen xe s := by
  simp only [Extent.covers, List.all_cons, List.all_nil, Bool.and_true, Bool.true_and, Bool.and_eq_true] at xh
  unfold releaseBundle
  repeat' first
    | (extract_lets +onlyGivenNames x; refine have hx : State.seen xe x = State.seen xe s := ?_; ?_; (on_goal 1 => unfold x); (on_goal 2 => clear_value x))
    | (extract_lets +onlyGivenNames x; refine have hx : State.seen xe x.2 = State.seen xe s := ?_; ?_; (on_goal 1 => unfold x); (on_goal 2 => clear_value x))
    | (extract_lets +onlyGivenNames x; refine have hx : State.seen xe x.2.2 = State.seen xe s := ?_; ?_; (on_goal 1 => unfold x); (on_goal 2 => clear_value x))
    | (extract_lets +onlyGivenNames x; clear_value x)
    | (simp [*]; done)
    | (refine (foldl_seen xe _ _ _ ?_).trans ?_; (on_goal 1 => intro s a))
    | (refine (State.when_seen xe _ _ _ ?_).trans ?_; (on_goal 1 => intro s))
    | split
    | (simp_all; done)

@[simp] theorem unitDone_seen (xe : Extent) (u : Nat) (s : State) (xh : xe.covers [.seqs] [F.CAL_SWEEPCNT, F.CAL_USTAT_STATE, F.ICU_LOSTCNT, F.ICU_OVRw_SRC, F.ICU_PENDw_SRC] = true) :
    State.seen xe (unitDone u s) = State.seen xe s := by
  simp only [Extent.covers, List.all_cons, List.all_nil, Bool.and_true, Bool.true_and, Bool.and_eq_true] at xh
  unfold unitDone
  simp [xh]

@[simp] theorem calRelease_seen (xe : Extent) (u : Nat) (s : State) (xh : xe.covers [.seqs, .fab, .cal] [F.CAL_SWEEPCNT, F.CAL_USTAT_STATE, F.ICU_LOSTCNT, F.ICU_OVRw_SRC, F.ICU_PENDw_SRC] = true) :
    State.seen xe (calRelease u s) = State.seen xe s := by
  simp only [Extent.covers, List.all_cons, List.all_nil, Bool.and_true, Bool.true_and, Bool.and_eq_true] at xh
  unfold calRelease
  simp [xh]

@[simp] theorem orphanTick_seen (xe : Extent) (s : State) (xh : xe.covers [.fab, .cal] [] = true) :
    State.seen xe (orphanTick s) = State.seen xe s := by
  simp only [Extent.covers, List.all_cons, List.all_nil, Bool.and_true, Bool.true_and, Bool.and_eq_true] at xh
  unfold orphanTick
  simp [xh]

@[simp] theorem subRes_seen (xe : Extent) (result reason : Nat) (disagreed : Bool) (s : State) (xh : xe.covers [] [F.CAL_SUBRES_DISAGREED, F.CAL_SUBRES_REASON, F.CAL_SUBRES_RESULT] = true) :
    State.seen xe (subRes result reason disagreed s) = State.seen xe s := by
  simp only [Extent.covers, List.all_cons, List.all_nil, Bool.and_true, Bool.true_and, Bool.and_eq_true] at xh
  unfold subRes
  simp [xh]

@[simp] theorem subReject_seen (xe : Extent) (reason : Nat) (s : State) (xh : xe.covers [] [F.CAL_REJCNT, F.CAL_SUBRES_DISAGREED, F.CAL_SUBRES_REASON, F.CAL_SUBRES_RESULT] = true) :
    State.seen xe (subReject reason s) = State.seen xe s := by
  simp only [Extent.covers, List.all_cons, List.all_nil, Bool.and_true, Bool.true_and, Bool.and_eq_true] at xh
  unfold subReject
  simp [xh]

@[simp] theorem subAccept_seen (xe : Extent) (s : State) (xh : xe.covers [.cal] [F.CAL_ACCCNT, F.CAL_STAT_DIRTY, F.CAL_SUBRES_DISAGREED, F.CAL_SUBRES_REASON, F.CAL_SUBRES_RESULT] = true) :
    State.seen xe (subAccept s) = State.seen xe s := by
  simp only [Extent.covers, List.all_cons, List.all_nil, Bool.and_true, Bool.true_and, Bool.and_eq_true] at xh
  unfold subAccept
  simp [xh]

@[simp] theorem acceptSlot_seen (xe : Extent) (n : Nat) (v : SlotCal) (s : State) (xh : xe.covers [.fab, .pen, .mir, .cal] [F.CAL_ACCCNT, F.CAL_STAT_DIRTY, F.CAL_SUBRES_DISAGREED, F.CAL_SUBRES_REASON, F.CAL_SUBRES_RESULT] = true) :
    State.seen xe (acceptSlot n v s) = State.seen xe s := by
  simp only [Extent.covers, List.all_cons, List.all_nil, Bool.and_true, Bool.true_and, Bool.and_eq_true] at xh
  unfold acceptSlot
  simp [xh]

@[simp] theorem dueTick_seen (xe : Extent) (s : State) (xh : xe.covers [.fab, .pen, .cal] [] = true) :
    State.seen xe (dueTick s) = State.seen xe s := by
  simp only [Extent.covers, List.all_cons, List.all_nil, Bool.and_true, Bool.true_and, Bool.and_eq_true] at xh
  unfold dueTick
  simp [xh]

@[simp] theorem acceptQuay_seen (xe : Extent) (q : Nat) (v : QuayCal) (s : State) (xh : xe.covers [.quays, .mir, .cal] [F.CAL_ACCCNT, F.CAL_STAT_DIRTY, F.CAL_SUBRES_DISAGREED, F.CAL_SUBRES_REASON, F.CAL_SUBRES_RESULT, F.QY_DRVSTAT_LVLERR, F.QY_HALFLVL_LEVEL, F.QY_RNGGAINr_GAIN] = true) :
    State.seen xe (acceptQuay q v s) = State.seen xe s := by
  simp only [Extent.covers, List.all_cons, List.all_nil, Bool.and_true, Bool.true_and, Bool.and_eq_true] at xh
  unfold acceptQuay
  simp [xh]

@[simp] theorem subPend_seen (xe : Extent) (dis : Bool) (s : State) (xh : xe.covers [] [F.CAL_DISAGREE, F.CAL_SUBRES_DISAGREED, F.CAL_SUBRES_REASON, F.CAL_SUBRES_RESULT] = true) :
    State.seen xe (subPend dis s) = State.seen xe s := by
  simp only [Extent.covers, List.all_cons, List.all_nil, Bool.and_true, Bool.true_and, Bool.and_eq_true] at xh
  unfold subPend
  simp [xh]

@[simp] theorem calSubmit_seen (xe : Extent) (s : State) (xh : xe.covers [.fab, .quays, .pen, .mir, .cal] [F.CAL_ACCCNT, F.CAL_DISAGREE, F.CAL_REJCNT, F.CAL_STAT_DIRTY, F.CAL_SUBRES_DISAGREED, F.CAL_SUBRES_REASON, F.CAL_SUBRES_RESULT, F.QY_DRVSTAT_LVLERR, F.QY_HALFLVL_LEVEL, F.QY_RNGGAINr_GAIN] = true) :
    State.seen xe (calSubmit s) = State.seen xe s := by
  simp only [Extent.covers, List.all_cons, List.all_nil, Bool.and_true, Bool.true_and, Bool.and_eq_true] at xh
  unfold calSubmit
  repeat' first
    | (extract_lets +onlyGivenNames x; refine have hx : State.seen xe x = State.seen xe s := ?_; ?_; (on_goal 1 => unfold x); (on_goal 2 => clear_value x))
    | (extract_lets +onlyGivenNames x; refine have hx : State.seen xe x.2 = State.seen xe s := ?_; ?_; (on_goal 1 => unfold x); (on_goal 2 => clear_value x))
    | (extract_lets +onlyGivenNames x; refine have hx : State.seen xe x.2.2 = State.seen xe s := ?_; ?_; (on_goal 1 => unfold x); (on_goal 2 => clear_value x))
    | (extract_lets +onlyGivenNames x; clear_value x)
    | (simp [*]; done)
    | (refine (foldl_seen xe _ _ _ ?_).trans ?_; (on_goal 1 => intro s a))
    | (refine (State.when_seen xe _ _ _ ?_).trans ?_; (on_goal 1 => intro s))
    | split
    | (simp_all; done)

@[simp] theorem discoverSlot_seen (xe : Extent) (ser n : Nat) (s : State) (xh : xe.covers [.fab, .cal] [F.CAL_REJCNT] = true) :
    State.seen xe (discoverSlot ser n s) = State.seen xe s := by
  simp only [Extent.covers, List.all_cons, List.all_nil, Bool.and_true, Bool.true_and, Bool.and_eq_true] at xh
  unfold discoverSlot
  repeat' first
    | (extract_lets +onlyGivenNames x; refine have hx : State.seen xe x = State.seen xe s := ?_; ?_; (on_goal 1 => unfold x); (on_goal 2 => clear_value x))
    | (extract_lets +onlyGivenNames x; refine have hx : State.seen xe x.2 = State.seen xe s := ?_; ?_; (on_goal 1 => unfold x); (on_goal 2 => clear_value x))
    | (extract_lets +onlyGivenNames x; refine have hx : State.seen xe x.2.2 = State.seen xe s := ?_; ?_; (on_goal 1 => unfold x); (on_goal 2 => clear_value x))
    | (extract_lets +onlyGivenNames x; clear_value x)
    | (simp [*]; done)
    | (refine (foldl_seen xe _ _ _ ?_).trans ?_; (on_goal 1 => intro s a))
    | (refine (State.when_seen xe _ _ _ ?_).trans ?_; (on_goal 1 => intro s))
    | split
    | (simp_all; done)

@[simp] theorem discoverQuay_seen (xe : Extent) (q : Nat) (s : State) (xh : xe.covers [.fab, .quays, .cal] [F.CAL_QSTART_QUAY, F.CAL_REJCNT, F.QY_DRVSTAT_LVLERR, F.QY_HALFLVL_LEVEL, F.QY_RNGGAINr_GAIN] = true) :
    State.seen xe (discoverQuay q s) = State.seen xe s := by
  simp only [Extent.covers, List.all_cons, List.all_nil, Bool.and_true, Bool.true_and, Bool.and_eq_true] at xh
  unfold discoverQuay
  repeat' first
    | (extract_lets +onlyGivenNames x; refine have hx : State.seen xe x = State.seen xe s := ?_; ?_; (on_goal 1 => unfold x); (on_goal 2 => clear_value x))
    | (extract_lets +onlyGivenNames x; refine have hx : State.seen xe x.2 = State.seen xe s := ?_; ?_; (on_goal 1 => unfold x); (on_goal 2 => clear_value x))
    | (extract_lets +onlyGivenNames x; refine have hx : State.seen xe x.2.2 = State.seen xe s := ?_; ?_; (on_goal 1 => unfold x); (on_goal 2 => clear_value x))
    | (extract_lets +onlyGivenNames x; clear_value x)
    | (simp [*]; done)
    | (refine (foldl_seen xe _ _ _ ?_).trans ?_; (on_goal 1 => intro s a))
    | (refine (State.when_seen xe _ _ _ ?_).trans ?_; (on_goal 1 => intro s))
    | split
    | (simp_all; done)

@[simp] theorem discTick_seen (xe : Extent) (s : State) (xh : xe.covers [.fab, .quays, .cal] [F.CAL_QSTART_QUAY, F.CAL_REJCNT, F.QY_DRVSTAT_LVLERR, F.QY_HALFLVL_LEVEL, F.QY_RNGGAINr_GAIN] = true) :
    State.seen xe (discTick s) = State.seen xe s := by
  simp only [Extent.covers, List.all_cons, List.all_nil, Bool.and_true, Bool.true_and, Bool.and_eq_true] at xh
  unfold discTick
  simp [xh]

@[simp] theorem startTick_seen (xe : Extent) (s : State) (xh : xe.covers [.cal] [F.CAL_QSTART_QUAY] = true) :
    State.seen xe (startTick s) = State.seen xe s := by
  simp only [Extent.covers, List.all_cons, List.all_nil, Bool.and_true, Bool.true_and, Bool.and_eq_true] at xh
  unfold startTick
  repeat' first
    | (extract_lets +onlyGivenNames x; refine have hx : State.seen xe x = State.seen xe s := ?_; ?_; (on_goal 1 => unfold x); (on_goal 2 => clear_value x))
    | (extract_lets +onlyGivenNames x; refine have hx : State.seen xe x.2 = State.seen xe s := ?_; ?_; (on_goal 1 => unfold x); (on_goal 2 => clear_value x))
    | (extract_lets +onlyGivenNames x; refine have hx : State.seen xe x.2.2 = State.seen xe s := ?_; ?_; (on_goal 1 => unfold x); (on_goal 2 => clear_value x))
    | (extract_lets +onlyGivenNames x; clear_value x)
    | (simp [*]; done)
    | (refine (foldl_seen xe _ _ _ ?_).trans ?_; (on_goal 1 => intro s a))
    | (refine (State.when_seen xe _ _ _ ?_).trans ?_; (on_goal 1 => intro s))
    | split
    | (simp_all; done)

@[simp] theorem storeStart_seen (xe : Extent) (s : State) (xh : xe.covers [.seqs, .log, .boot, .cal, .port] [F.CAL_STAT_STORING, F.DBG_FLTSTAT_CLASS, F.ICU_LOSTCNT, F.ICU_OVRw_SRC, F.ICU_PENDw_SRC, F.TMP_STAT_WRHOLD, F.TMP_WRREF] = true) :
    State.seen xe (storeStart s) = State.seen xe s := by
  simp only [Extent.covers, List.all_cons, List.all_nil, Bool.and_true, Bool.true_and, Bool.and_eq_true] at xh
  unfold storeStart
  simp [xh]

@[simp] theorem calStore_seen (xe : Extent) (s : State) (xh : xe.covers [.seqs, .log, .boot, .cal, .port] [F.CAL_STAT_STORING, F.CAL_STAT_STPEND, F.DBG_FLTSTAT_CLASS, F.ICU_LOSTCNT, F.ICU_OVRw_SRC, F.ICU_PENDw_SRC, F.TMP_STAT_WRHOLD, F.TMP_WRREF] = true) :
    State.seen xe (calStore s) = State.seen xe s := by
  simp only [Extent.covers, List.all_cons, List.all_nil, Bool.and_true, Bool.true_and, Bool.and_eq_true] at xh
  unfold calStore
  simp [xh]

@[simp] theorem storeEnd_seen (xe : Extent) (res : Nat) (s : State) (xh : xe.covers [.seqs, .log, .boot, .cal, .port] [F.CAL_JSEQ_SEQ, F.CAL_STAT_DIRTY, F.CAL_STAT_SRES, F.CAL_STAT_STORING, F.CAL_STAT_STPEND, F.CAL_STORECNT, F.CAL_STOREFAIL, F.DBG_FLTSTAT_CLASS, F.ICU_LOSTCNT, F.ICU_OVRw_SRC, F.ICU_PENDw_SRC, F.TMP_STAT_WRHOLD, F.TMP_WRREF] = true) :
    State.seen xe (storeEnd res s) = State.seen xe s := by
  simp only [Extent.covers, List.all_cons, List.all_nil, Bool.and_true, Bool.true_and, Bool.and_eq_true] at xh
  unfold storeEnd
  repeat' first
    | (extract_lets +onlyGivenNames x; refine have hx : State.seen xe x = State.seen xe s := ?_; ?_; (on_goal 1 => unfold x); (on_goal 2 => clear_value x))
    | (extract_lets +onlyGivenNames x; refine have hx : State.seen xe x.2 = State.seen xe s := ?_; ?_; (on_goal 1 => unfold x); (on_goal 2 => clear_value x))
    | (extract_lets +onlyGivenNames x; refine have hx : State.seen xe x.2.2 = State.seen xe s := ?_; ?_; (on_goal 1 => unfold x); (on_goal 2 => clear_value x))
    | (extract_lets +onlyGivenNames x; clear_value x)
    | (simp [*]; done)
    | (refine (foldl_seen xe _ _ _ ?_).trans ?_; (on_goal 1 => intro s a))
    | (refine (State.when_seen xe _ _ _ ?_).trans ?_; (on_goal 1 => intro s))
    | split
    | (simp_all; done)

@[simp] theorem storeComplete_seen (xe : Extent) (verified : Bool) (s : State) (xh : xe.covers [.seqs, .log, .boot, .cal, .port] [F.CAL_JSEQ_SEQ, F.CAL_STAT_DIRTY, F.CAL_STAT_SRES, F.CAL_STAT_STORING, F.CAL_STAT_STPEND, F.CAL_STORECNT, F.CAL_STOREFAIL, F.DBG_FLTSTAT_CLASS, F.ICU_LOSTCNT, F.ICU_OVRw_SRC, F.ICU_PENDw_SRC, F.TMP_STAT_WRHOLD, F.TMP_WRREF] = true) :
    State.seen xe (storeComplete verified s) = State.seen xe s := by
  simp only [Extent.covers, List.all_cons, List.all_nil, Bool.and_true, Bool.true_and, Bool.and_eq_true] at xh
  unfold storeComplete
  simp [xh]

@[simp] theorem flashTimeout_seen (xe : Extent) (s : State) (xh : xe.covers [.seqs, .log, .boot, .cal, .port] [F.CAL_JSEQ_SEQ, F.CAL_STAT_DIRTY, F.CAL_STAT_SRES, F.CAL_STAT_STORING, F.CAL_STAT_STPEND, F.CAL_STORECNT, F.CAL_STOREFAIL, F.DBG_FLTSTAT_CLASS, F.ICU_LOSTCNT, F.ICU_OVRw_SRC, F.ICU_PENDw_SRC, F.TMP_STAT_WRHOLD, F.TMP_WRREF, F.XSP_ERRCNT, F.XSP_OPSTAT_ERR, F.XSP_OPSTAT_ERRCODE] = true) :
    State.seen xe (flashTimeout s) = State.seen xe s := by
  simp only [Extent.covers, List.all_cons, List.all_nil, Bool.and_true, Bool.true_and, Bool.and_eq_true] at xh
  unfold flashTimeout
  repeat' first
    | (extract_lets +onlyGivenNames x; refine have hx : State.seen xe x = State.seen xe s := ?_; ?_; (on_goal 1 => unfold x); (on_goal 2 => clear_value x))
    | (extract_lets +onlyGivenNames x; refine have hx : State.seen xe x.2 = State.seen xe s := ?_; ?_; (on_goal 1 => unfold x); (on_goal 2 => clear_value x))
    | (extract_lets +onlyGivenNames x; refine have hx : State.seen xe x.2.2 = State.seen xe s := ?_; ?_; (on_goal 1 => unfold x); (on_goal 2 => clear_value x))
    | (extract_lets +onlyGivenNames x; clear_value x)
    | (simp [*]; done)
    | (refine (foldl_seen xe _ _ _ ?_).trans ?_; (on_goal 1 => intro s a))
    | (refine (State.when_seen xe _ _ _ ?_).trans ?_; (on_goal 1 => intro s))
    | split
    | (simp_all; done)

@[simp] theorem journalRead_seen (xe : Extent) (n : Nat) (b : List Byte) (s : State) (xh : xe.covers [.cal] [] = true) :
    State.seen xe (journalRead n b s) = State.seen xe s := by
  simp only [Extent.covers, List.all_cons, List.all_nil, Bool.and_true, Bool.true_and, Bool.and_eq_true] at xh
  induction n generalizing b s with
  | zero => rfl
  | succ n ih =>
    unfold journalRead
    split
    · rfl
    split
    · rw [ih]; simp [xh]
    · rw [ih]; simp [xh]
    · rw [ih]; split
      · refine (State.when_seen xe _ _ _ (by intro s; simp [xh])).trans (State.when_seen xe _ _ _ (by intro s; simp [xh]))
      · rfl
    · rfl

@[simp] theorem journalLoad_seen (xe : Extent) (s : State) (xh : xe.covers [.cal] [F.CAL_JSEQ_SEQ, F.CAL_STAT_JSLOT] = true) :
    State.seen xe (journalLoad s) = State.seen xe s := by
  simp only [Extent.covers, List.all_cons, List.all_nil, Bool.and_true, Bool.true_and, Bool.and_eq_true] at xh
  unfold journalLoad
  extract_lets a b win
  clear_value win
  split
  · rfl
  · extract_lets s1
    have h1 : State.seen xe s1 = State.seen xe s := by simp [s1, xh]
    clear_value s1
    split
    · simp [h1, xh]
    · exact h1

@[simp] theorem calStatclr_seen (xe : Extent) (s : State) (xh : xe.covers [] [F.CAL_ABANDCNT, F.CAL_ACCCNT, F.CAL_DISAGREE, F.CAL_REJCNT, F.CAL_STORECNT, F.CAL_STOREFAIL, F.CAL_SWEEPCNT] = true) :
    State.seen xe (calStatclr s) = State.seen xe s := by
  simp only [Extent.covers, List.all_cons, List.all_nil, Bool.and_true, Bool.true_and, Bool.and_eq_true] at xh
  unfold calStatclr
  simp [xh]

@[simp] theorem calBefore_seen (xe : Extent) (s : State) (xh : xe.covers [.seqs, .fab, .quays, .cal] [F.CAL_QSTART_QUAY, F.CAL_SWEEPCNT, F.CAL_UCAP_BAND, F.CAL_UCAP_RNGCHG, F.CAL_USTAT_RESULT, F.CAL_USTAT_STATE, F.ICU_LOSTCNT, F.ICU_OVRw_SRC, F.ICU_PENDw_SRC, F.QY_RNGSTAT_CUR, F.QY_RNGSTAT_DONE, F.QY_RNGSTAT_PEND] = true) :
    State.seen xe (calBefore s) = State.seen xe s := by
  simp only [Extent.covers, List.all_cons, List.all_nil, Bool.and_true, Bool.true_and, Bool.and_eq_true] at xh
  unfold calBefore
  simp [xh]

@[simp] theorem calAfter_seen (xe : Extent) (h : Nat) (s : State) (xh : xe.covers [.fresh, .table, .quays, .lanes, .cal] [F.CAL_ABANDCNT, F.CAL_UCAP_ABANDON, F.CAL_UCAP_BANDCHG, F.CAL_UCAP_CAPID, F.CAL_UCAP_COUNT, F.CAL_UCAP_RNGCHG, F.CAL_UFRM_FRAME, F.CAL_USTAT_RESULT, F.CAL_USTAT_STATE, F.QY_DRVCFG_MODE, F.QY_DRVSTAT_MODEDEN, F.QY_RNGFRM_FRAME, F.QY_RNGREQ_RANGE, F.QY_RNGSTAT_BADFRM, F.QY_RNGSTAT_NEXT, F.QY_RNGSTAT_PEND] = true) :
    State.seen xe (calAfter h s) = State.seen xe s := by
  simp only [Extent.covers, List.all_cons, List.all_nil, Bool.and_true, Bool.true_and, Bool.and_eq_true] at xh
  unfold calAfter
  simp [xh]

end Sys2Proof.Machine
end

