-- ==== Sys2Proof/Laws/SeenHost.lean ====
section
/-! SUPPORT. What the interrupts, the ports, the clock faults and the register writes leave unseen outside the extents they are given (Laws/Seen.lean). -/
namespace Sys2Proof.Machine
set_option linter.all false

@[simp] theorem icuSet_seen (xe : Extent) (w v : Nat) (s : State) (xh : xe.covers [.seqs] [F.ICU_LOSTCNT, F.ICU_OVRw_SRC, F.ICU_PENDw_SRC] = true) :
    State.seen xe (icuSet w v s) = State.seen xe s := by
  simp only [Extent.covers, List.all_cons, List.all_nil, Bool.and_true, Bool.true_and, Bool.and_eq_true] at xh
  unfold icuSet
  simp [xh]

@[simp] theorem uartLevel_seen (xe : Extent) (s : State) (xh : xe.covers [.seqs] [F.ICU_LOSTCNT, F.ICU_OVRw_SRC, F.ICU_PENDw_SRC] = true) :
    State.seen xe (uartLevel s) = State.seen xe s := by
  simp only [Extent.covers, List.all_cons, List.all_nil, Bool.and_true, Bool.true_and, Bool.and_eq_true] at xh
  unfold uartLevel
  simp [xh]

@[simp] theorem icuPendClear_seen (xe : Extent) (w v : Nat) (s : State) (xh : xe.covers [.seqs] [F.ICU_LOSTCNT, F.ICU_OVRw_SRC, F.ICU_PENDw_SRC] = true) :
    State.seen xe (icuPendClear w v s) = State.seen xe s := by
  simp only [Extent.covers, List.all_cons, List.all_nil, Bool.and_true, Bool.true_and, Bool.and_eq_true] at xh
  unfold icuPendClear
  simp [xh]

@[simp] theorem icuOvrClear_seen (xe : Extent) (w v : Nat) (s : State) (xh : xe.covers [] [F.ICU_OVRw_SRC] = true) :
    State.seen xe (icuOvrClear w v s) = State.seen xe s := by
  simp only [Extent.covers, List.all_cons, List.all_nil, Bool.and_true, Bool.true_and, Bool.and_eq_true] at xh
  unfold icuOvrClear
  simp [xh]

@[simp] theorem icuStatclr_seen (xe : Extent) (s : State) (xh : xe.covers [] [F.ICU_LOSTCNT, F.ICU_SPUR] = true) :
    State.seen xe (icuStatclr s) = State.seen xe s := by
  simp only [Extent.covers, List.all_cons, List.all_nil, Bool.and_true, Bool.true_and, Bool.and_eq_true] at xh
  unfold icuStatclr
  simp [xh]

@[simp] theorem seqStart_seen (xe : Extent) (n : Nat) (s : State) (xh : xe.covers [.seqs, .port] [] = true) :
    State.seen xe (seqStart n s) = State.seen xe s := by
  simp only [Extent.covers, List.all_cons, List.all_nil, Bool.and_true, Bool.true_and, Bool.and_eq_true] at xh
  unfold seqStart
  simp [xh]

@[simp] theorem tsqStart_seen (xe : Extent) (n : Nat) (s : State) (xh : xe.covers [.seqs, .port] [] = true) :
    State.seen xe (tsqStart n s) = State.seen xe s := by
  simp only [Extent.covers, List.all_cons, List.all_nil, Bool.and_true, Bool.true_and, Bool.and_eq_true] at xh
  unfold tsqStart
  repeat' first
    | (extract_lets +onlyGivenNames x; refine have hx : State.seen xe x = State.seen xe s := ?_; ?_; (on_goal 1 => unfold x); (on_goal 2 => clear_value x))
    | (extract_lets +onlyGivenNames x; refine have hx : State.seen xe x.2 = State.seen xe s := ?_; ?_; (on_goal 1 => unfold x); (on_goal 2 => clear_value x))
    | (extract_lets +onlyGivenNames x; refine have hx : State.seen xe x.2.2 = State.seen xe s := ?_; ?_; (on_goal 1 => unfold x); (on_goal 2 => clear_value x))
    | (extract_lets +onlyGivenNames x; clear_value x)
    | (simp [*]; done)
    | (refine (foldl_seen xe _ _ _ ?_).trans ?_; (on_goal 1 => intro s a))
    | (refine (State.when_seen xe _ _ _ ?_).trans ?_; (on_goal 1 => intro s))
    | split
    | (simp_all; done)

@[simp] theorem tsqHalt_seen (xe : Extent) (n : Nat) (s : State) (xh : xe.covers [.seqs] [] = true) :
    State.seen xe (tsqHalt n s) = State.seen xe s := by
  simp only [Extent.covers, List.all_cons, List.all_nil, Bool.and_true, Bool.true_and, Bool.and_eq_true] at xh
  unfold tsqHalt
  repeat' first
    | (extract_lets +onlyGivenNames x; refine have hx : State.seen xe x = State.seen xe s := ?_; ?_; (on_goal 1 => unfold x); (on_goal 2 => clear_value x))
    | (extract_lets +onlyGivenNames x; refine have hx : State.seen xe x.2 = State.seen xe s := ?_; ?_; (on_goal 1 => unfold x); (on_goal 2 => clear_value x))
    | (extract_lets +onlyGivenNames x; refine have hx : State.seen xe x.2.2 = State.seen xe s := ?_; ?_; (on_goal 1 => unfold x); (on_goal 2 => clear_value x))
    | (extract_lets +onlyGivenNames x; clear_value x)
    | (simp [*]; done)
    | (refine (foldl_seen xe _ _ _ ?_).trans ?_; (on_goal 1 => intro s a))
    | (refine (State.when_seen xe _ _ _ ?_).trans ?_; (on_goal 1 => intro s))
    | split
    | (simp_all; done)

@[simp] theorem seqFault_seen (xe : Extent) (n : Nat) (f : Fld) (addr : Option Nat) (s : State) (xh : xe.covers [.seqs, .log, .port] [F.DBG_FLTSTAT_CLASS, F.ICU_LOSTCNT, F.ICU_OVRw_SRC, F.ICU_PENDw_SRC, F.TSQ_FADDRn_VALUE, F.TSQ_FPCn_VALUE] = true) (xhf : xe.r f = true) :
    State.seen xe (seqFault n f addr s) = State.seen xe s := by
  simp only [Extent.covers, List.all_cons, List.all_nil, Bool.and_true, Bool.true_and, Bool.and_eq_true] at xh
  unfold seqFault
  repeat' first
    | (extract_lets +onlyGivenNames x; refine have hx : State.seen xe x = State.seen xe s := ?_; ?_; (on_goal 1 => unfold x); (on_goal 2 => clear_value x))
    | (extract_lets +onlyGivenNames x; refine have hx : State.seen xe x.2 = State.seen xe s := ?_; ?_; (on_goal 1 => unfold x); (on_goal 2 => clear_value x))
    | (extract_lets +onlyGivenNames x; refine have hx : State.seen xe x.2.2 = State.seen xe s := ?_; ?_; (on_goal 1 => unfold x); (on_goal 2 => clear_value x))
    | (extract_lets +onlyGivenNames x; clear_value x)
    | (simp [*]; done)
    | (refine (foldl_seen xe _ _ _ ?_).trans ?_; (on_goal 1 => intro s a))
    | (refine (State.when_seen xe _ _ _ ?_).trans ?_; (on_goal 1 => intro s))
    | split
    | (simp_all; done)

@[simp] theorem seqBusErr_seen (xe : Extent) (n addr pc : Nat) (s : State) (xh : xe.covers [.seqs] [F.ICU_LOSTCNT, F.ICU_OVRw_SRC, F.ICU_PENDw_SRC, F.TSQ_FADDRn_VALUE, F.TSQ_FPCn_VALUE, F.TSQ_FSTATn_BUSERR] = true) :
    State.seen xe (seqBusErr n addr pc s) = State.seen xe s := by
  simp only [Extent.covers, List.all_cons, List.all_nil, Bool.and_true, Bool.true_and, Bool.and_eq_true] at xh
  unfold seqBusErr
  simp [xh]

@[simp] theorem wdKick_seen (xe : Extent) (n : Nat) (s : State) (xh : xe.covers [.seqs] [] = true) :
    State.seen xe (wdKick n s) = State.seen xe s := by
  simp only [Extent.covers, List.all_cons, List.all_nil, Bool.and_true, Bool.true_and, Bool.and_eq_true] at xh
  unfold wdKick
  simp [xh]

@[simp] theorem wdExpiry_seen (xe : Extent) (n : Nat) (s : State) (xh : xe.covers [.seqs, .log, .port] [F.DBG_FLTSTAT_CLASS, F.ICU_LOSTCNT, F.ICU_OVRw_SRC, F.ICU_PENDw_SRC, F.TSQ_FSTATn_WDOG] = true) :
    State.seen xe (wdExpiry n s) = State.seen xe s := by
  simp only [Extent.covers, List.all_cons, List.all_nil, Bool.and_true, Bool.true_and, Bool.and_eq_true] at xh
  unfold wdExpiry
  simp [xh]

@[simp] theorem wdTick_seen (xe : Extent) (s : State) (xh : xe.covers [.seqs, .log, .port] [F.DBG_FLTSTAT_CLASS, F.ICU_LOSTCNT, F.ICU_OVRw_SRC, F.ICU_PENDw_SRC, F.TSQ_FSTATn_WDOG] = true) :
    State.seen xe (wdTick s) = State.seen xe s := by
  simp only [Extent.covers, List.all_cons, List.all_nil, Bool.and_true, Bool.true_and, Bool.and_eq_true] at xh
  unfold wdTick
  repeat' first
    | (extract_lets +onlyGivenNames x; refine have hx : State.seen xe x = State.seen xe s := ?_; ?_; (on_goal 1 => unfold x); (on_goal 2 => clear_value x))
    | (extract_lets +onlyGivenNames x; refine have hx : State.seen xe x.2 = State.seen xe s := ?_; ?_; (on_goal 1 => unfold x); (on_goal 2 => clear_value x))
    | (extract_lets +onlyGivenNames x; refine have hx : State.seen xe x.2.2 = State.seen xe s := ?_; ?_; (on_goal 1 => unfold x); (on_goal 2 => clear_value x))
    | (extract_lets +onlyGivenNames x; clear_value x)
    | (simp [*]; done)
    | (refine (foldl_seen xe _ _ _ ?_).trans ?_; (on_goal 1 => intro s a))
    | (refine (State.when_seen xe _ _ _ ?_).trans ?_; (on_goal 1 => intro s))
    | split
    | (simp_all; done)

@[simp] theorem loadTick_seen (xe : Extent) (s : State) (xh : xe.covers [.seqs] [F.TSQ_LOADn_RUN] = true) :
    State.seen xe (loadTick s) = State.seen xe s := by
  simp only [Extent.covers, List.all_cons, List.all_nil, Bool.and_true, Bool.true_and, Bool.and_eq_true] at xh
  unfold loadTick
  simp [xh]

@[simp] theorem semAcq_seen (xe : Extent) (k master : Nat) (s : State) (xh : xe.covers [] [F.TSQ_SEMk_OWNER] = true) :
    State.seen xe (semAcq k master s) = State.seen xe s := by
  simp only [Extent.covers, List.all_cons, List.all_nil, Bool.and_true, Bool.true_and, Bool.and_eq_true] at xh
  unfold semAcq
  simp [xh]

@[simp] theorem semRel_seen (xe : Extent) (k master : Nat) (s : State) (xh : xe.covers [] [F.TSQ_SEMk_OWNER] = true) :
    State.seen xe (semRel k master s) = State.seen xe s := by
  simp only [Extent.covers, List.all_cons, List.all_nil, Bool.and_true, Bool.true_and, Bool.and_eq_true] at xh
  unfold semRel
  simp [xh]

theorem nextFrame_seen (xe : Extent) (p : Nat) (s : State) (r : TxFrame × State) (xh : xe.covers [.pen, .port] [] = true) :
    nextFrame p s = some r → State.seen xe r.2 = State.seen xe s := by
  simp only [Extent.covers, List.all_cons, List.all_nil, Bool.and_true, Bool.true_and, Bool.and_eq_true] at xh
  intro h
  unfold nextFrame at h
  dsimp only at h
  split at h
  · cases h; simp [xh]
  · cases h; simp [xh]
  · split at h
    · cases h; simp [xh]
    · cases h

@[simp] theorem netStart_seen (xe : Extent) (p : Nat) (s : State) (xh : xe.covers [.pen, .port] [] = true) :
    State.seen xe (netStart p s) = State.seen xe s := by
  simp only [Extent.covers, List.all_cons, List.all_nil, Bool.and_true, Bool.true_and, Bool.and_eq_true] at xh
  unfold netStart
  split
  · rfl
  split
  · rename_i f t h
    have := nextFrame_seen xe _ _ _ (by simp [xh]) h
    simp [this, xh]
  · rfl

@[simp] theorem netQueue_seen (xe : Extent) (p : Nat) (f : TxFrame) (s : State) (xh : xe.covers [.pen, .port] [F.NET_TXDROP] = true) :
    State.seen xe (netQueue p f s) = State.seen xe s := by
  simp only [Extent.covers, List.all_cons, List.all_nil, Bool.and_true, Bool.true_and, Bool.and_eq_true] at xh
  unfold netQueue
  simp [xh]

@[simp] theorem announceOne_seen (xe : Extent) (p k : Nat) (s : State) (xh : xe.covers [.pen, .port] [F.NET_TXDROP] = true) :
    State.seen xe (announceOne p k s) = State.seen xe s := by
  simp only [Extent.covers, List.all_cons, List.all_nil, Bool.and_true, Bool.true_and, Bool.and_eq_true] at xh
  unfold announceOne
  simp [xh]

@[simp] theorem announce_seen (xe : Extent) (p : Nat) (keys : List Nat) (s : State) (xh : xe.covers [.pen, .port] [F.NET_TXDROP] = true) :
    State.seen xe (announce p keys s) = State.seen xe s := by
  simp only [Extent.covers, List.all_cons, List.all_nil, Bool.and_true, Bool.true_and, Bool.and_eq_true] at xh
  unfold announce
  simp [xh]

@[simp] theorem announceDue_seen (xe : Extent) (p : Nat) (s : State) (xh : xe.covers [.pen, .port] [F.NET_TXDROP] = true) :
    State.seen xe (announceDue p s) = State.seen xe s := by
  simp only [Extent.covers, List.all_cons, List.all_nil, Bool.and_true, Bool.true_and, Bool.and_eq_true] at xh
  unfold announceDue
  simp [xh]

@[simp] theorem announceGained_seen (xe : Extent) (s : State) (xh : xe.covers [.pen, .port] [F.NET_TXDROP] = true) :
    State.seen xe (announceGained s) = State.seen xe s := by
  simp only [Extent.covers, List.all_cons, List.all_nil, Bool.and_true, Bool.true_and, Bool.and_eq_true] at xh
  unfold announceGained
  simp [xh]

@[simp] theorem netLink_seen (xe : Extent) (p : Nat) (sync : Bool) (offer : AnOffer) (s : State) (xh : xe.covers [.seqs, .pen, .port] [F.ICU_LOSTCNT, F.ICU_OVRw_SRC, F.ICU_PENDw_SRC, F.NET_STAT_ANDONE, F.NET_STAT_LINK, F.NET_STAT_LINKCHG, F.NET_TXDROP] = true) :
    State.seen xe (netLink p sync offer s) = State.seen xe s := by
  simp only [Extent.covers, List.all_cons, List.all_nil, Bool.and_true, Bool.true_and, Bool.and_eq_true] at xh
  unfold netLink
  simp [xh]

@[simp] theorem netRestart_seen (xe : Extent) (p : Nat) (s : State) (xh : xe.covers [.seqs, .pen, .port] [F.ICU_LOSTCNT, F.ICU_OVRw_SRC, F.ICU_PENDw_SRC, F.NET_STAT_ANDONE, F.NET_STAT_LINK, F.NET_STAT_LINKCHG, F.NET_TXDROP] = true) :
    State.seen xe (netRestart p s) = State.seen xe s := by
  simp only [Extent.covers, List.all_cons, List.all_nil, Bool.and_true, Bool.true_and, Bool.and_eq_true] at xh
  unfold netRestart
  simp [xh]

@[simp] theorem netAnrst_seen (xe : Extent) (p : Nat) (s : State) (xh : xe.covers [.seqs, .pen, .port] [F.ICU_LOSTCNT, F.ICU_OVRw_SRC, F.ICU_PENDw_SRC, F.NET_STAT_ANDONE, F.NET_STAT_LINK, F.NET_STAT_LINKCHG, F.NET_TXDROP] = true) :
    State.seen xe (netAnrst p s) = State.seen xe s := by
  simp only [Extent.covers, List.all_cons, List.all_nil, Bool.and_true, Bool.true_and, Bool.and_eq_true] at xh
  unfold netAnrst
  simp [xh]

@[simp] theorem netStatclr_seen (xe : Extent) (p : Nat) (s : State) (xh : xe.covers [] [F.NET_ADDRDROP, F.NET_CSUMERR, F.NET_FCSERR, F.NET_LENERR, F.NET_OTHDROP, F.NET_PRXDROP, F.NET_RXFRM, F.NET_TXDROP, F.NET_TXFRM, F.NET_VLANDROP] = true) :
    State.seen xe (netStatclr p s) = State.seen xe s := by
  simp only [Extent.covers, List.all_cons, List.all_nil, Bool.and_true, Bool.true_and, Bool.and_eq_true] at xh
  unfold netStatclr
  refine foldl_mem_seen xe _ _ _ ?_
  intro f hf s
  simp only [List.mem_cons, List.not_mem_nil, or_false] at hf
  rcases hf with rfl | rfl | rfl | rfl | rfl | rfl | rfl | rfl | rfl | rfl <;> simp [xh]

@[simp] theorem ptpCount_seen (xe : Extent) (d : Nat) (msg : List Byte) (s : State) (xh : xe.covers [.port] [] = true) :
    State.seen xe (ptpCount d msg s).2 = State.seen xe s := by
  simp only [Extent.covers, List.all_cons, List.all_nil, Bool.and_true, Bool.true_and, Bool.and_eq_true] at xh
  unfold ptpCount
  extract_lets r put
  have h : ∀ r, State.seen xe (put r) = State.seen xe s := by intro r; simp [put, xh]
  clear_value put
  split
  · exact h _
  · exact h _
  · exact h _
  · split
    · exact h _
    · rfl
  · rfl

@[simp] theorem ptpStore_seen (xe : Extent) (p d : Nat) (event : Bool) (x : EthFrame) (raw : List Byte) (s : State) (xh : xe.covers [.seqs, .port] [F.ICU_LOSTCNT, F.ICU_OVRw_SRC, F.ICU_PENDw_SRC, F.NET_PRXDROP] = true) :
    State.seen xe (ptpStore p d event x raw s) = State.seen xe s := by
  simp only [Extent.covers, List.all_cons, List.all_nil, Bool.and_true, Bool.true_and, Bool.and_eq_true] at xh
  unfold ptpStore
  simp [xh]

@[simp] theorem ptpReceive_seen (xe : Extent) (p transport : Nat) (event : Bool) (msg : List Byte) (x : EthFrame) (raw : List Byte) (s : State) (xh : xe.covers [.seqs, .port] [F.ICU_LOSTCNT, F.ICU_OVRw_SRC, F.ICU_PENDw_SRC, F.NET_OTHDROP, F.NET_PRXDROP, F.TIM_PTPDROP] = true) :
    State.seen xe (ptpReceive p transport event msg x raw s) = State.seen xe s := by
  simp only [Extent.covers, List.all_cons, List.all_nil, Bool.and_true, Bool.true_and, Bool.and_eq_true] at xh
  unfold ptpReceive
  repeat' first
    | (extract_lets +onlyGivenNames x; refine have hx : State.seen xe x = State.seen xe s := ?_; ?_; (on_goal 1 => unfold x); (on_goal 2 => clear_value x))
    | (extract_lets +onlyGivenNames x; refine have hx : State.seen xe x.2 = State.seen xe s := ?_; ?_; (on_goal 1 => unfold x); (on_goal 2 => clear_value x))
    | (extract_lets +onlyGivenNames x; refine have hx : State.seen xe x.2.2 = State.seen xe s := ?_; ?_; (on_goal 1 => unfold x); (on_goal 2 => clear_value x))
    | (extract_lets +onlyGivenNames x; clear_value x)
    | (simp [*]; done)
    | (refine (foldl_seen xe _ _ _ ?_).trans ?_; (on_goal 1 => intro s a))
    | (refine (State.when_seen xe _ _ _ ?_).trans ?_; (on_goal 1 => intro s))
    | split
    | (simp_all; done)

@[simp] theorem prxPop_seen (xe : Extent) (p : Nat) (s : State) (xh : xe.covers [.port] [] = true) :
    State.seen xe (prxPop p s) = State.seen xe s := by
  simp only [Extent.covers, List.all_cons, List.all_nil, Bool.and_true, Bool.true_and, Bool.and_eq_true] at xh
  unfold prxPop
  simp [xh]

@[simp] theorem ptxGo_seen (xe : Extent) (p : Nat) (s : State) (xh : xe.covers [.pen, .port] [F.NET_PTXSTAT_ERR, F.NET_TXDROP] = true) :
    State.seen xe (ptxGo p s) = State.seen xe s := by
  simp only [Extent.covers, List.all_cons, List.all_nil, Bool.and_true, Bool.true_and, Bool.and_eq_true] at xh
  unfold ptxGo
  simp [xh]

@[simp] theorem frameSent_seen (xe : Extent) (p : Nat) (s : State) (xh : xe.covers [.pen, .port] [F.NET_TXFRM] = true) :
    State.seen xe (frameSent p s) = State.seen xe s := by
  simp only [Extent.covers, List.all_cons, List.all_nil, Bool.and_true, Bool.true_and, Bool.and_eq_true] at xh
  unfold frameSent
  simp [xh]

@[simp] theorem ptpSent_seen (xe : Extent) (p cycle frac : Nat) (s : State) (xh : xe.covers [.pen, .port] [F.NET_PTXSTAT_TSBUF, F.NET_PTXSTAT_TSVALID, F.NET_TXFRM] = true) :
    State.seen xe (ptpSent p cycle frac s) = State.seen xe s := by
  simp only [Extent.covers, List.all_cons, List.all_nil, Bool.and_true, Bool.true_and, Bool.and_eq_true] at xh
  unfold ptpSent
  repeat' first
    | (extract_lets +onlyGivenNames x; refine have hx : State.seen xe x = State.seen xe s := ?_; ?_; (on_goal 1 => unfold x); (on_goal 2 => clear_value x))
    | (extract_lets +onlyGivenNames x; refine have hx : State.seen xe x.2 = State.seen xe s := ?_; ?_; (on_goal 1 => unfold x); (on_goal 2 => clear_value x))
    | (extract_lets +onlyGivenNames x; refine have hx : State.seen xe x.2.2 = State.seen xe s := ?_; ?_; (on_goal 1 => unfold x); (on_goal 2 => clear_value x))
    | (extract_lets +onlyGivenNames x; clear_value x)
    | (simp [*]; done)
    | (refine (foldl_seen xe _ _ _ ?_).trans ?_; (on_goal 1 => intro s a))
    | (refine (State.when_seen xe _ _ _ ?_).trans ?_; (on_goal 1 => intro s))
    | split
    | (simp_all; done)

@[simp] theorem otherSent_seen (xe : Extent) (p : Nat) (s : State) (xh : xe.covers [.pen, .port] [F.NET_TXFRM] = true) :
    State.seen xe (otherSent p s) = State.seen xe s := by
  simp only [Extent.covers, List.all_cons, List.all_nil, Bool.and_true, Bool.true_and, Bool.and_eq_true] at xh
  unfold otherSent
  repeat' first
    | (extract_lets +onlyGivenNames x; refine have hx : State.seen xe x = State.seen xe s := ?_; ?_; (on_goal 1 => unfold x); (on_goal 2 => clear_value x))
    | (extract_lets +onlyGivenNames x; refine have hx : State.seen xe x.2 = State.seen xe s := ?_; ?_; (on_goal 1 => unfold x); (on_goal 2 => clear_value x))
    | (extract_lets +onlyGivenNames x; refine have hx : State.seen xe x.2.2 = State.seen xe s := ?_; ?_; (on_goal 1 => unfold x); (on_goal 2 => clear_value x))
    | (extract_lets +onlyGivenNames x; clear_value x)
    | (simp [*]; done)
    | (refine (foldl_seen xe _ _ _ ?_).trans ?_; (on_goal 1 => intro s a))
    | (refine (State.when_seen xe _ _ _ ?_).trans ?_; (on_goal 1 => intro s))
    | split
    | (simp_all; done)

@[simp] theorem txtsRead_seen (xe : Extent) (p : Nat) (s : State) (xh : xe.covers [.rdata] [F.NET_TXTSF_VALUE] = true) :
    State.seen xe (txtsRead p s) = State.seen xe s := by
  simp only [Extent.covers, List.all_cons, List.all_nil, Bool.and_true, Bool.true_and, Bool.and_eq_true] at xh
  unfold txtsRead
  simp [xh]

@[simp] theorem claimSeen_seen (xe : Extent) (p : Nat) (v6 : Bool) (ip who : Nat) (s : State) (xh : xe.covers [.seqs] [F.ICU_LOSTCNT, F.ICU_OVRw_SRC, F.ICU_PENDw_SRC, F.NET_STAT_ADDRCONF] = true) :
    State.seen xe (claimSeen p v6 ip who s) = State.seen xe s := by
  simp only [Extent.covers, List.all_cons, List.all_nil, Bool.and_true, Bool.true_and, Bool.and_eq_true] at xh
  unfold claimSeen
  simp [xh]

@[simp] theorem arpReceive_seen (xe : Extent) (p : Nat) (x : EthParts) (s : State) (xh : xe.covers [.seqs, .pen, .port] [F.ICU_LOSTCNT, F.ICU_OVRw_SRC, F.ICU_PENDw_SRC, F.NET_OTHDROP, F.NET_STAT_ADDRCONF, F.NET_TXDROP] = true) :
    State.seen xe (arpReceive p x s) = State.seen xe s := by
  simp only [Extent.covers, List.all_cons, List.all_nil, Bool.and_true, Bool.true_and, Bool.and_eq_true] at xh
  unfold arpReceive
  simp [xh]

@[simp] theorem echoAnswer_seen (xe : Extent) (p : Nat) (frame : List Byte) (s : State) (xh : xe.covers [.pen, .port] [F.NET_OTHDROP, F.NET_TXDROP] = true) :
    State.seen xe (echoAnswer p frame s) = State.seen xe s := by
  simp only [Extent.covers, List.all_cons, List.all_nil, Bool.and_true, Bool.true_and, Bool.and_eq_true] at xh
  unfold echoAnswer
  simp [xh]

@[simp] theorem icmp4Receive_seen (xe : Extent) (p : Nat) (x : EthParts) (ip : IpParts) (s : State) (xh : xe.covers [.pen, .port] [F.NET_OTHDROP, F.NET_TXDROP] = true) :
    State.seen xe (icmp4Receive p x ip s) = State.seen xe s := by
  simp only [Extent.covers, List.all_cons, List.all_nil, Bool.and_true, Bool.true_and, Bool.and_eq_true] at xh
  unfold icmp4Receive
  simp [xh]

@[simp] theorem icmp6Receive_seen (xe : Extent) (p : Nat) (x : EthParts) (ip : IpParts) (s : State) (xh : xe.covers [.seqs, .pen, .port] [F.ICU_LOSTCNT, F.ICU_OVRw_SRC, F.ICU_PENDw_SRC, F.NET_OTHDROP, F.NET_STAT_ADDRCONF, F.NET_TXDROP] = true) :
    State.seen xe (icmp6Receive p x ip s) = State.seen xe s := by
  simp only [Extent.covers, List.all_cons, List.all_nil, Bool.and_true, Bool.true_and, Bool.and_eq_true] at xh
  unfold icmp6Receive
  repeat' first
    | (extract_lets +onlyGivenNames x; refine have hx : State.seen xe x = State.seen xe s := ?_; ?_; (on_goal 1 => unfold x); (on_goal 2 => clear_value x))
    | (extract_lets +onlyGivenNames x; refine have hx : State.seen xe x.2 = State.seen xe s := ?_; ?_; (on_goal 1 => unfold x); (on_goal 2 => clear_value x))
    | (extract_lets +onlyGivenNames x; refine have hx : State.seen xe x.2.2 = State.seen xe s := ?_; ?_; (on_goal 1 => unfold x); (on_goal 2 => clear_value x))
    | (extract_lets +onlyGivenNames x; clear_value x)
    | (simp [*]; done)
    | (refine (foldl_seen xe _ _ _ ?_).trans ?_; (on_goal 1 => intro s a))
    | (refine (State.when_seen xe _ _ _ ?_).trans ?_; (on_goal 1 => intro s))
    | split
    | (simp_all; done)

@[simp] theorem udpReceive_seen (xe : Extent) (p : Nat) (x : EthParts) (raw : EthFrame) (ip : IpParts) (s : State) (xh : xe.covers [.fresh, .seqs, .rdata, .table, .fab, .exec, .sched, .tide, .pen, .mir, .port] [] = true) (xha : xe.all = true) :
    State.seen xe (udpReceive p x raw ip s) = State.seen xe s := by
  simp only [Extent.covers, List.all_cons, List.all_nil, Bool.and_true, Bool.true_and, Bool.and_eq_true] at xh
  have xhr : ∀ f, xe.r f = true := fun f => xe.r_of_all f xha
  unfold udpReceive
  repeat' first
    | (extract_lets +onlyGivenNames x; refine have hx : State.seen xe x = State.seen xe s := ?_; ?_; (on_goal 1 => unfold x); (on_goal 2 => clear_value x))
    | (extract_lets +onlyGivenNames x; refine have hx : State.seen xe x.2 = State.seen xe s := ?_; ?_; (on_goal 1 => unfold x); (on_goal 2 => clear_value x))
    | (extract_lets +onlyGivenNames x; refine have hx : State.seen xe x.2.2 = State.seen xe s := ?_; ?_; (on_goal 1 => unfold x); (on_goal 2 => clear_value x))
    | (extract_lets +onlyGivenNames x; clear_value x)
    | (simp [*]; done)
    | (refine (foldl_seen xe _ _ _ ?_).trans ?_; (on_goal 1 => intro s a))
    | (refine (State.when_seen xe _ _ _ ?_).trans ?_; (on_goal 1 => intro s))
    | split
    | (simp_all; done)

@[simp] theorem oddReceive_seen (xe : Extent) (p : Nat) (x : EthParts) (ip : IpParts) (s : State) (xh : xe.covers [.fresh, .seqs, .rdata, .table, .fab, .exec, .sched, .tide, .pen, .mir] [] = true) (xha : xe.all = true) :
    State.seen xe (oddReceive p x ip s) = State.seen xe s := by
  simp only [Extent.covers, List.all_cons, List.all_nil, Bool.and_true, Bool.true_and, Bool.and_eq_true] at xh
  have xhr : ∀ f, xe.r f = true := fun f => xe.r_of_all f xha
  unfold oddReceive
  simp [xh, xha, xhr]

@[simp] theorem ipReceive_seen (xe : Extent) (p : Nat) (x : EthParts) (raw : EthFrame) (ip : IpParts) (s : State) (xh : xe.covers [.fresh, .seqs, .rdata, .table, .fab, .exec, .sched, .tide, .pen, .mir, .port] [] = true) (xha : xe.all = true) :
    State.seen xe (ipReceive p x raw ip s) = State.seen xe s := by
  simp only [Extent.covers, List.all_cons, List.all_nil, Bool.and_true, Bool.true_and, Bool.and_eq_true] at xh
  have xhr : ∀ f, xe.r f = true := fun f => xe.r_of_all f xha
  unfold ipReceive
  repeat' first
    | (extract_lets +onlyGivenNames x; refine have hx : State.seen xe x = State.seen xe s := ?_; ?_; (on_goal 1 => unfold x); (on_goal 2 => clear_value x))
    | (extract_lets +onlyGivenNames x; refine have hx : State.seen xe x.2 = State.seen xe s := ?_; ?_; (on_goal 1 => unfold x); (on_goal 2 => clear_value x))
    | (extract_lets +onlyGivenNames x; refine have hx : State.seen xe x.2.2 = State.seen xe s := ?_; ?_; (on_goal 1 => unfold x); (on_goal 2 => clear_value x))
    | (extract_lets +onlyGivenNames x; clear_value x)
    | (simp [*]; done)
    | (refine (foldl_seen xe _ _ _ ?_).trans ?_; (on_goal 1 => intro s a))
    | (refine (State.when_seen xe _ _ _ ?_).trans ?_; (on_goal 1 => intro s))
    | split
    | (simp_all; done)

@[simp] theorem bodyReceive_seen (xe : Extent) (p : Nat) (x : EthParts) (raw : EthFrame) (s : State) (xh : xe.covers [.fresh, .seqs, .rdata, .table, .fab, .exec, .sched, .tide, .pen, .mir, .port] [] = true) (xha : xe.all = true) :
    State.seen xe (bodyReceive p x raw s) = State.seen xe s := by
  simp only [Extent.covers, List.all_cons, List.all_nil, Bool.and_true, Bool.true_and, Bool.and_eq_true] at xh
  have xhr : ∀ f, xe.r f = true := fun f => xe.r_of_all f xha
  unfold bodyReceive
  repeat' first
    | (extract_lets +onlyGivenNames x; refine have hx : State.seen xe x = State.seen xe s := ?_; ?_; (on_goal 1 => unfold x); (on_goal 2 => clear_value x))
    | (extract_lets +onlyGivenNames x; refine have hx : State.seen xe x.2 = State.seen xe s := ?_; ?_; (on_goal 1 => unfold x); (on_goal 2 => clear_value x))
    | (extract_lets +onlyGivenNames x; refine have hx : State.seen xe x.2.2 = State.seen xe s := ?_; ?_; (on_goal 1 => unfold x); (on_goal 2 => clear_value x))
    | (extract_lets +onlyGivenNames x; clear_value x)
    | (simp [*]; done)
    | (refine (foldl_seen xe _ _ _ ?_).trans ?_; (on_goal 1 => intro s a))
    | (refine (State.when_seen xe _ _ _ ?_).trans ?_; (on_goal 1 => intro s))
    | split
    | (simp_all; done)

@[simp] theorem frameReceive_seen (xe : Extent) (p : Nat) (x : EthFrame) (s : State) (xh : xe.covers [.fresh, .seqs, .rdata, .table, .fab, .exec, .sched, .tide, .pen, .mir, .port] [] = true) (xha : xe.all = true) :
    State.seen xe (frameReceive p x s) = State.seen xe s := by
  simp only [Extent.covers, List.all_cons, List.all_nil, Bool.and_true, Bool.true_and, Bool.and_eq_true] at xh
  have xhr : ∀ f, xe.r f = true := fun f => xe.r_of_all f xha
  unfold frameReceive
  simp [xh, xha, xhr]

@[simp] theorem netTick_seen (xe : Extent) (s : State) (xh : xe.covers [.pen, .port] [F.NET_TXDROP] = true) :
    State.seen xe (netTick s) = State.seen xe s := by
  simp only [Extent.covers, List.all_cons, List.all_nil, Bool.and_true, Bool.true_and, Bool.and_eq_true] at xh
  unfold netTick
  simp [xh]

@[simp] theorem State.modSbi_seen (xe : Extent) (s : State) (f : SbiSt → SbiSt) (xh : xe.covers [.port] [] = true) :
    State.seen xe (State.modSbi s f) = State.seen xe s := by
  simp only [Extent.covers, List.all_cons, List.all_nil, Bool.and_true, Bool.true_and, Bool.and_eq_true] at xh
  unfold State.modSbi
  simp [xh]

@[simp] theorem smbEnd_seen (xe : Extent) (st : Nat) (s : State) (xh : xe.covers [] [F.SBI_ACCERR, F.SBI_PECERR, F.SBI_STAT_LAST] = true) :
    State.seen xe (smbEnd st s) = State.seen xe s := by
  simp only [Extent.covers, List.all_cons, List.all_nil, Bool.and_true, Bool.true_and, Bool.and_eq_true] at xh
  unfold smbEnd
  simp [xh]

@[simp] theorem smbReply_seen (xe : Extent) (cmd : Nat) (block : Bool) (data : List Byte) (s : State) (xh : xe.covers [.port] [] = true) :
    State.seen xe (smbReply cmd block data s) = State.seen xe s := by
  simp only [Extent.covers, List.all_cons, List.all_nil, Bool.and_true, Bool.true_and, Bool.and_eq_true] at xh
  unfold smbReply
  simp [xh]

@[simp] theorem smbSetaddr_seen (xe : Extent) (bytes : List Byte) (c : SmbCall) (s : State) (xh : xe.covers [.port] [F.SBI_ACCERR, F.SBI_PECERR, F.SBI_STAT_LAST] = true) :
    State.seen xe (smbSetaddr bytes c s) = State.seen xe s := by
  simp only [Extent.covers, List.all_cons, List.all_nil, Bool.and_true, Bool.true_and, Bool.and_eq_true] at xh
  unfold smbSetaddr
  simp [xh]

@[simp] theorem smbStatus_seen (xe : Extent) (s : State) (xh : xe.covers [.port] [] = true) :
    State.seen xe (smbStatus s) = State.seen xe s := by
  simp only [Extent.covers, List.all_cons, List.all_nil, Bool.and_true, Bool.true_and, Bool.and_eq_true] at xh
  unfold smbStatus
  simp [xh]

@[simp] theorem smbState_seen (xe : Extent) (s : State) (xh : xe.covers [.port] [F.SBI_ACCERR, F.SBI_PECERR, F.SBI_STAT_LAST] = true) :
    State.seen xe (smbState s) = State.seen xe s := by
  simp only [Extent.covers, List.all_cons, List.all_nil, Bool.and_true, Bool.true_and, Bool.and_eq_true] at xh
  unfold smbState
  simp [xh]

@[simp] theorem mbPlace_seen (xe : Extent) (bytes : List Byte) (s : State) (xh : xe.covers [] [F.SBI_MBREQw_BYTES] = true) :
    State.seen xe (mbPlace bytes s) = State.seen xe s := by
  simp only [Extent.covers, List.all_cons, List.all_nil, Bool.and_true, Bool.true_and, Bool.and_eq_true] at xh
  unfold mbPlace
  simp [xh]

@[simp] theorem smbMbwrite_seen (xe : Extent) (bytes : List Byte) (c : SmbCall) (s : State) (xh : xe.covers [.seqs] [F.ICU_LOSTCNT, F.ICU_OVRw_SRC, F.ICU_PENDw_SRC, F.SBI_ACCERR, F.SBI_MBLEN_LEN, F.SBI_MBREQw_BYTES, F.SBI_PECERR, F.SBI_STAT_LAST, F.SBI_STAT_MBFULL] = true) :
    State.seen xe (smbMbwrite bytes c s) = State.seen xe s := by
  simp only [Extent.covers, List.all_cons, List.all_nil, Bool.and_true, Bool.true_and, Bool.and_eq_true] at xh
  unfold smbMbwrite
  simp [xh]

@[simp] theorem smbMbread_seen (xe : Extent) (s : State) (xh : xe.covers [.port] [F.SBI_ACCERR, F.SBI_PECERR, F.SBI_STAT_LAST, F.SBI_STAT_MBPOST] = true) :
    State.seen xe (smbMbread s) = State.seen xe s := by
  simp only [Extent.covers, List.all_cons, List.all_nil, Bool.and_true, Bool.true_and, Bool.and_eq_true] at xh
  unfold smbMbread
  simp [xh]

@[simp] theorem sclTimeout_seen (xe : Extent) (s : State) (xh : xe.covers [.port] [] = true) :
    State.seen xe (sclTimeout s) = State.seen xe s := by
  simp only [Extent.covers, List.all_cons, List.all_nil, Bool.and_true, Bool.true_and, Bool.and_eq_true] at xh
  unfold sclTimeout
  simp [xh]

@[simp] theorem smbTimeout_seen (xe : Extent) (s : State) (xh : xe.covers [.port] [F.SBI_ACCERR, F.SBI_PECERR, F.SBI_STAT_LAST] = true) :
    State.seen xe (smbTimeout s) = State.seen xe s := by
  simp only [Extent.covers, List.all_cons, List.all_nil, Bool.and_true, Bool.true_and, Bool.and_eq_true] at xh
  unfold smbTimeout
  simp [xh]

@[simp] theorem mbAck_seen (xe : Extent) (s : State) (xh : xe.covers [] [F.SBI_STAT_MBFULL] = true) :
    State.seen xe (mbAck s) = State.seen xe s := by
  simp only [Extent.covers, List.all_cons, List.all_nil, Bool.and_true, Bool.true_and, Bool.and_eq_true] at xh
  unfold mbAck
  simp [xh]

@[simp] theorem mbPost_seen (xe : Extent) (s : State) (xh : xe.covers [] [F.SBI_STAT_MBPOST] = true) :
    State.seen xe (mbPost s) = State.seen xe s := by
  simp only [Extent.covers, List.all_cons, List.all_nil, Bool.and_true, Bool.true_and, Bool.and_eq_true] at xh
  unfold mbPost
  simp [xh]

@[simp] theorem sbiStatclr_seen (xe : Extent) (s : State) (xh : xe.covers [] [F.SBI_ACCERR, F.SBI_PECERR] = true) :
    State.seen xe (sbiStatclr s) = State.seen xe s := by
  simp only [Extent.covers, List.all_cons, List.all_nil, Bool.and_true, Bool.true_and, Bool.and_eq_true] at xh
  unfold sbiStatclr
  simp [xh]

@[simp] theorem uartReceive_seen (xe : Extent) (v : Nat) (stop : Bool) (s : State) (xh : xe.covers [.seqs, .port] [F.ICU_LOSTCNT, F.ICU_OVRw_SRC, F.ICU_PENDw_SRC, F.SBI_USTAT_FRAMERR, F.SBI_USTAT_OVR] = true) :
    State.seen xe (uartReceive v stop s) = State.seen xe s := by
  simp only [Extent.covers, List.all_cons, List.all_nil, Bool.and_true, Bool.true_and, Bool.and_eq_true] at xh
  unfold uartReceive
  simp [xh]

@[simp] theorem utxWrite_seen (xe : Extent) (v : Nat) (s : State) (xh : xe.covers [.seqs, .port] [F.ICU_LOSTCNT, F.ICU_OVRw_SRC, F.ICU_PENDw_SRC] = true) :
    State.seen xe (utxWrite v s) = State.seen xe s := by
  simp only [Extent.covers, List.all_cons, List.all_nil, Bool.and_true, Bool.true_and, Bool.and_eq_true] at xh
  unfold utxWrite
  simp [xh]

@[simp] theorem uartSend_seen (xe : Extent) (s : State) (xh : xe.covers [.seqs, .port] [F.ICU_LOSTCNT, F.ICU_OVRw_SRC, F.ICU_PENDw_SRC] = true) :
    State.seen xe (uartSend s) = State.seen xe s := by
  simp only [Extent.covers, List.all_cons, List.all_nil, Bool.and_true, Bool.true_and, Bool.and_eq_true] at xh
  unfold uartSend
  simp [xh]

@[simp] theorem rxPop_seen (xe : Extent) (s : State) (xh : xe.covers [.port] [] = true) :
    State.seen xe (rxPop s) = State.seen xe s := by
  simp only [Extent.covers, List.all_cons, List.all_nil, Bool.and_true, Bool.true_and, Bool.and_eq_true] at xh
  unfold rxPop
  simp [xh]

@[simp] theorem uartFlush_seen (xe : Extent) (s : State) (xh : xe.covers [.seqs, .port] [F.ICU_LOSTCNT, F.ICU_OVRw_SRC, F.ICU_PENDw_SRC] = true) :
    State.seen xe (uartFlush s) = State.seen xe s := by
  simp only [Extent.covers, List.all_cons, List.all_nil, Bool.and_true, Bool.true_and, Bool.and_eq_true] at xh
  unfold uartFlush
  simp [xh]

@[simp] theorem tapLoad_seen (xe : Extent) (op : Nat) (s : State) (xh : xe.covers [.dev, .auth, .frame, .fresh, .locked, .seqs, .log, .rdata, .time, .table, .fab, .quays, .lanes, .tiles, .exec, .sched, .tide, .pen, .mir, .boot, .cal, .port] [] = true) (xha : xe.all = true) :
    State.seen xe (tapLoad op s) = State.seen xe s := by
  simp only [Extent.covers, List.all_cons, List.all_nil, Bool.and_true, Bool.true_and, Bool.and_eq_true] at xh
  have xhr : ∀ f, xe.r f = true := fun f => xe.r_of_all f xha
  unfold tapLoad
  simp [xh, xha, xhr]

@[simp] theorem tapReset_seen (xe : Extent) (s : State) (xh : xe.covers [.port] [] = true) :
    State.seen xe (tapReset s) = State.seen xe s := by
  simp only [Extent.covers, List.all_cons, List.all_nil, Bool.and_true, Bool.true_and, Bool.and_eq_true] at xh
  unfold tapReset
  simp [xh]

@[simp] theorem samplePreload_seen (xe : Extent) (s : State) (xh : xe.covers [.dev, .auth, .frame, .fresh, .locked, .seqs, .log, .rdata, .time, .table, .fab, .quays, .lanes, .tiles, .exec, .sched, .tide, .pen, .mir, .boot, .cal, .port] [] = true) (xha : xe.all = true) :
    State.seen xe (samplePreload s) = State.seen xe s := by
  simp only [Extent.covers, List.all_cons, List.all_nil, Bool.and_true, Bool.true_and, Bool.and_eq_true] at xh
  have xhr : ∀ f, xe.r f = true := fun f => xe.r_of_all f xha
  unfold samplePreload
  simp [xh, xha, xhr]

@[simp] theorem extest_seen (xe : Extent) (s : State) (xh : xe.covers [.dev, .auth, .frame, .fresh, .locked, .seqs, .log, .rdata, .time, .table, .fab, .quays, .lanes, .tiles, .exec, .sched, .tide, .pen, .mir, .boot, .cal, .port] [] = true) (xha : xe.all = true) :
    State.seen xe (extest s) = State.seen xe s := by
  simp only [Extent.covers, List.all_cons, List.all_nil, Bool.and_true, Bool.true_and, Bool.and_eq_true] at xh
  have xhr : ∀ f, xe.r f = true := fun f => xe.r_of_all f xha
  unfold extest
  simp [xh, xha, xhr]

@[simp] theorem ckgStatclr_seen (xe : Extent) (s : State) (xh : xe.covers [.port] [F.CKG_ENGHWM_CYCLES, F.CKG_ENGHWM_ENGINE, F.CKG_FRMRNG_MAX, F.CKG_FRMRNG_MIN, F.CKG_OVRCNTq] = true) :
    State.seen xe (ckgStatclr s) = State.seen xe s := by
  simp only [Extent.covers, List.all_cons, List.all_nil, Bool.and_true, Bool.true_and, Bool.and_eq_true] at xh
  unfold ckgStatclr
  simp [xh]

@[simp] theorem mtxStatclr_seen (xe : Extent) (s : State) (xh : xe.covers [] [F.MTX_ECCCOR, F.MTX_ECCUNC, F.MTX_ERRCNT, F.MTX_RSTCNT, F.MTX_WAITHWMm_CYCLES] = true) :
    State.seen xe (mtxStatclr s) = State.seen xe s := by
  simp only [Extent.covers, List.all_cons, List.all_nil, Bool.and_true, Bool.true_and, Bool.and_eq_true] at xh
  unfold mtxStatclr
  simp [xh]

@[simp] theorem crnStatclr_seen (xe : Extent) (s : State) (xh : xe.covers [] [F.CRN_ERRCNT, F.CRN_XFERCNT] = true) :
    State.seen xe (crnStatclr s) = State.seen xe s := by
  simp only [Extent.covers, List.all_cons, List.all_nil, Bool.and_true, Bool.true_and, Bool.and_eq_true] at xh
  unfold crnStatclr
  simp [xh]

@[simp] theorem statAll_seen (xe : Extent) (s : State) (xh : xe.covers [.port] [] = true) (xha : xe.all = true) :
    State.seen xe (statAll s) = State.seen xe s := by
  simp only [Extent.covers, List.all_cons, List.all_nil, Bool.and_true, Bool.true_and, Bool.and_eq_true] at xh
  have xhr : ∀ f, xe.r f = true := fun f => xe.r_of_all f xha
  unfold statAll
  simp [xh, xha, xhr]

@[simp] theorem dbgPut_seen (xe : Extent) (s : State) (xh : xe.covers [.log, .port] [F.DBG_FLTSTAT_CLASS, F.DBG_FLTSTAT_PUTERR] = true) :
    State.seen xe (dbgPut s) = State.seen xe s := by
  simp only [Extent.covers, List.all_cons, List.all_nil, Bool.and_true, Bool.true_and, Bool.and_eq_true] at xh
  unfold dbgPut
  simp [xh]

@[simp] theorem State.modHealth_seen (xe : Extent) (s : State) (f : Health → Health) (xh : xe.covers [.port] [] = true) :
    State.seen xe (State.modHealth s f) = State.seen xe s := by
  simp only [Extent.covers, List.all_cons, List.all_nil, Bool.and_true, Bool.true_and, Bool.and_eq_true] at xh
  unfold State.modHealth
  simp [xh]

@[simp] theorem selfStep_seen (xe : Extent) (x : SelfStep) (s : State) (xh : xe.covers [.seqs, .log, .fab, .port] [F.DBG_FLTSTAT_CLASS, F.ICU_LOSTCNT, F.ICU_OVRw_SRC, F.ICU_PENDw_SRC, F.MOR_ESTATp_CAUSE, F.MOR_ESTATp_STATE, F.MOR_STAT_ENGFLT] = true) :
    State.seen xe (selfStep x s) = State.seen xe s := by
  simp only [Extent.covers, List.all_cons, List.all_nil, Bool.and_true, Bool.true_and, Bool.and_eq_true] at xh
  unfold selfStep
  repeat' first
    | (extract_lets +onlyGivenNames x; refine have hx : State.seen xe x = State.seen xe s := ?_; ?_; (on_goal 1 => unfold x); (on_goal 2 => clear_value x))
    | (extract_lets +onlyGivenNames x; refine have hx : State.seen xe x.2 = State.seen xe s := ?_; ?_; (on_goal 1 => unfold x); (on_goal 2 => clear_value x))
    | (extract_lets +onlyGivenNames x; refine have hx : State.seen xe x.2.2 = State.seen xe s := ?_; ?_; (on_goal 1 => unfold x); (on_goal 2 => clear_value x))
    | (extract_lets +onlyGivenNames x; clear_value x)
    | (simp [*]; done)
    | (refine (foldl_seen xe _ _ _ ?_).trans ?_; (on_goal 1 => intro s a))
    | (refine (State.when_seen xe _ _ _ ?_).trans ?_; (on_goal 1 => intro s))
    | split
    | (simp_all; done)

@[simp] theorem healthClose_seen (xe : Extent) (tests : List SelfStep) (s : State) (xh : xe.covers [.seqs, .log, .fab, .port] [F.DBG_FLTSTAT_CLASS, F.ICU_LOSTCNT, F.ICU_OVRw_SRC, F.ICU_PENDw_SRC, F.MOR_ESTATp_CAUSE, F.MOR_ESTATp_STATE, F.MOR_STAT_ENGFLT] = true) :
    State.seen xe (healthClose tests s) = State.seen xe s := by
  simp only [Extent.covers, List.all_cons, List.all_nil, Bool.and_true, Bool.true_and, Bool.and_eq_true] at xh
  unfold healthClose
  simp [xh]

@[simp] theorem refWindow_seen (xe : Extent) (edges : Nat) (s : State) (xh : xe.covers [.dev, .auth, .seqs, .log, .time, .fab, .quays, .lanes, .pen, .mir, .boot, .cal, .port] [F.CAL_ABANDCNT, F.CAL_UCAP_ABANDON, F.CAL_USTAT_RESULT, F.CAL_USTAT_STATE, F.CKG_PLLSTAT_LOCK0, F.CKG_PLLSTAT_LOCK1, F.CKG_PLLSTAT_LOCK2, F.CKG_PLLSTAT_REFLOSS, F.CKG_PLLSTAT_REFOK, F.CKG_REFMON, F.DBG_FLTSTAT_CLASS, F.DBG_LASTSAFEF_FRAME, F.DBG_LASTSAFE_CODE, F.ICU_LOSTCNT, F.ICU_OVRw_SRC, F.ICU_PENDw_SRC, F.NET_STAT_LINK, F.NET_STAT_LINKCHG, F.NET_TXDROP, F.QY_DRVSTAT_AUTH, F.QY_LNKSTAT_STATE, F.QY_LNKSTAT_TLOCK, F.QY_LNKSTAT_ULOCK, F.TMP_AONSTAT_TRIPPED] = true) :
    State.seen xe (refWindow edges s) = State.seen xe s := by
  simp only [Extent.covers, List.all_cons, List.all_nil, Bool.and_true, Bool.true_and, Bool.and_eq_true] at xh
  unfold refWindow
  split
  · rfl
  extract_lets bad lost w bt b1 s1 s2
  have h0 : State.seen xe w = State.seen xe s := by simp [w, xh]
  have hb : State.seen xe b1 = State.seen xe s := by
    simp only [b1]
    rw [seen_boot xe w _ (by simp [xh]) (by rfl), h0]
  clear_value b1
  have h1 : State.seen xe s1 = State.seen xe s := by
    simp only [s1]; split <;> simp [hb, xh]
  clear_value s1
  have h2 : State.seen xe s2 = State.seen xe s := by simp [s2, h1, xh]
  clear_value s2
  split
  · split
    · simp [h2, xh]
    · exact h2
  · exact h1

@[simp] theorem pllLoss_seen (xe : Extent) (p : Nat) (s : State) (xh : xe.covers [.dev, .auth, .seqs, .log, .time, .fab, .quays, .lanes, .pen, .mir, .boot, .cal, .port] [F.CAL_ABANDCNT, F.CAL_UCAP_ABANDON, F.CAL_USTAT_RESULT, F.CAL_USTAT_STATE, F.CKG_PLLSTAT_LOCK0, F.CKG_PLLSTAT_LOCK1, F.CKG_PLLSTAT_LOCK2, F.CKG_PLLSTAT_LOL0, F.CKG_PLLSTAT_LOL1, F.CKG_PLLSTAT_LOL2, F.DBG_FLTSTAT_CLASS, F.DBG_LASTSAFEF_FRAME, F.DBG_LASTSAFE_CODE, F.ICU_LOSTCNT, F.ICU_OVRw_SRC, F.ICU_PENDw_SRC, F.NET_STAT_LINK, F.NET_STAT_LINKCHG, F.NET_TXDROP, F.QY_DRVSTAT_AUTH, F.QY_LNKSTAT_STATE, F.QY_LNKSTAT_TLOCK, F.QY_LNKSTAT_ULOCK, F.TMP_AONSTAT_TRIPPED] = true) :
    State.seen xe (pllLoss p s) = State.seen xe s := by
  simp only [Extent.covers, List.all_cons, List.all_nil, Bool.and_true, Bool.true_and, Bool.and_eq_true] at xh
  unfold pllLoss
  have hp : ∀ p, xe.r (pllFlds p).1 = true ∧ xe.r (pllFlds p).2 = true := by
    intro p; unfold pllFlds; split <;> simp [xh]
  extract_lets f
  have hf := hp p
  split
  · rfl
  rename_i src b1 s0 s2 s3 _
  have h0 : State.seen xe src = State.seen xe s := by simp [src, f, hf, xh]
  have h1 : State.seen xe s0 = State.seen xe s := by
    simp only [s0, b1]
    rw [seen_boot xe src _ (by simp [xh]) (by rfl), h0]
  have h2 : State.seen xe s2 = State.seen xe s := by simp [s2, f, hf, h1, xh]
  have h3 : State.seen xe s3 = State.seen xe s := by simp [s3, f, hf, h1, xh]
  clear_value s0 s2 s3
  split
  · split <;> simp [h2, xh]
  · split <;> simp [h3, xh]

@[simp] theorem sysGo_seen (xe : Extent) (s : State) (xh : xe.covers [.boot] [] = true) :
    State.seen xe (sysGo s) = State.seen xe s := by
  simp only [Extent.covers, List.all_cons, List.all_nil, Bool.and_true, Bool.true_and, Bool.and_eq_true] at xh
  unfold sysGo
  simp [xh]

@[simp] theorem sysLock_seen (xe : Extent) (v : Nat) (s : State) (xh : xe.covers [.locked] [] = true) :
    State.seen xe (sysLock v s) = State.seen xe s := by
  simp only [Extent.covers, List.all_cons, List.all_nil, Bool.and_true, Bool.true_and, Bool.and_eq_true] at xh
  unfold sysLock
  simp [xh]

@[simp] theorem State.modCrane_seen (xe : Extent) (s : State) (c : Nat) (f : Crane → Crane) (xh : xe.covers [.port] [] = true) :
    State.seen xe (State.modCrane s c f) = State.seen xe s := by
  simp only [Extent.covers, List.all_cons, List.all_nil, Bool.and_true, Bool.true_and, Bool.and_eq_true] at xh
  unfold State.modCrane
  simp [xh]

@[simp] theorem craneStart_seen (xe : Extent) (c : Nat) (s : State) (xh : xe.covers [.port] [F.CRN_CHSTATc_WERR] = true) :
    State.seen xe (craneStart c s) = State.seen xe s := by
  simp only [Extent.covers, List.all_cons, List.all_nil, Bool.and_true, Bool.true_and, Bool.and_eq_true] at xh
  unfold craneStart
  simp [xh]

@[simp] theorem craneAbort_seen (xe : Extent) (c : Nat) (s : State) (xh : xe.covers [.port] [F.CRN_CHSTATc_ABORTED] = true) :
    State.seen xe (craneAbort c s) = State.seen xe s := by
  simp only [Extent.covers, List.all_cons, List.all_nil, Bool.and_true, Bool.true_and, Bool.and_eq_true] at xh
  unfold craneAbort
  simp [xh]

@[simp] theorem plainWrite_seen (xe : Extent) (inst v : Nat) (s : State) (f : Fld) (xh : xe.covers [.seqs] [F.ICU_LOSTCNT, F.ICU_OVRw_SRC, F.ICU_PENDw_SRC, F.SYS_ERRSTAT_RSVDENC] = true) (xhf : xe.r f = true) :
    State.seen xe (plainWrite inst v s f) = State.seen xe s := by
  simp only [Extent.covers, List.all_cons, List.all_nil, Bool.and_true, Bool.true_and, Bool.and_eq_true] at xh
  unfold plainWrite
  extract_lets x
  split
  · split <;> simp [xh, xhf]
  · split
    · rfl
    split <;> simp [xh, xhf]
  · simp [xh, xhf]
  · simp [xh, xhf]
  · rfl
  · rfl

@[simp] theorem plainAll_seen (xe : Extent) (d : RegDesc) (inst v : Nat) (s : State) (xh : xe.covers [.seqs] [] = true) (xha : xe.all = true) :
    State.seen xe (plainAll d inst v s) = State.seen xe s := by
  simp only [Extent.covers, List.all_cons, List.all_nil, Bool.and_true, Bool.true_and, Bool.and_eq_true] at xh
  have xhr : ∀ f, xe.r f = true := fun f => xe.r_of_all f xha
  unfold plainAll
  exact foldl_seen xe _ _ _ (fun s f => by simp [xh, xha, xhr])

@[simp] theorem tsetWrite_seen (xe : Extent) (i v : Nat) (s : State) (xh : xe.covers [] [F.QY_TSETn_PILOFF, F.QY_TSETn_SAMP, F.QY_TSETn_STROBE, F.QY_TSSTAT_VALERR] = true) :
    State.seen xe (tsetWrite i v s) = State.seen xe s := by
  simp only [Extent.covers, List.all_cons, List.all_nil, Bool.and_true, Bool.true_and, Bool.and_eq_true] at xh
  unfold tsetWrite
  split
  · simp [xh]
  refine foldl_mem_seen xe _ _ _ ?_
  intro f hf s
  simp only [List.mem_cons, List.not_mem_nil, or_false] at hf
  rcases hf with rfl | rfl | rfl <;> split <;> simp [xh]

@[simp] theorem ucfg1Write_seen (xe : Extent) (d : RegDesc) (v : Nat) (s : State) (xh : xe.covers [.seqs] [] = true) (xha : xe.all = true) :
    State.seen xe (ucfg1Write d v s) = State.seen xe s := by
  simp only [Extent.covers, List.all_cons, List.all_nil, Bool.and_true, Bool.true_and, Bool.and_eq_true] at xh
  have xhr : ∀ f, xe.r f = true := fun f => xe.r_of_all f xha
  unfold ucfg1Write
  simp [xh, xha, xhr]

@[simp] theorem netCfgWrite_seen (xe : Extent) (d : RegDesc) (p v : Nat) (s : State) (xh : xe.covers [.seqs, .pen, .port] [] = true) (xha : xe.all = true) :
    State.seen xe (netCfgWrite d p v s) = State.seen xe s := by
  simp only [Extent.covers, List.all_cons, List.all_nil, Bool.and_true, Bool.true_and, Bool.and_eq_true] at xh
  have xhr : ∀ f, xe.r f = true := fun f => xe.r_of_all f xha
  unfold netCfgWrite
  simp [xh, xha, xhr]

@[simp] theorem bandcfgWrite_seen (xe : Extent) (d : RegDesc) (v : Nat) (s : State) (xh : xe.covers [.seqs] [] = true) (xha : xe.all = true) :
    State.seen xe (bandcfgWrite d v s) = State.seen xe s := by
  simp only [Extent.covers, List.all_cons, List.all_nil, Bool.and_true, Bool.true_and, Bool.and_eq_true] at xh
  have xhr : ∀ f, xe.r f = true := fun f => xe.r_of_all f xha
  unfold bandcfgWrite
  simp [xh, xha, xhr]

theorem some_seen (xe : Extent) (s u : State) (h : State.seen xe u = State.seen xe s) :
    ∀ t, some u = some t → State.seen xe t = State.seen xe s := by
  intro t e; cases e; exact h

theorem none_seen (xe : Extent) (s : State) : ∀ t, (none : Option State) = some t → State.seen xe t = State.seen xe s := by
  intro t e; cases e

theorem ite_some_seen (xe : Extent) (s : State) (c : Prop) [Decidable c] (a b : Option State)
    (ha : ∀ t, a = some t → State.seen xe t = State.seen xe s) (hb : ∀ t, b = some t → State.seen xe t = State.seen xe s) :
    ∀ t, (if c then a else b) = some t → State.seen xe t = State.seen xe s := by
  split
  · exact ha
  · exact hb

theorem specialWrite_seen (xe : Extent) (d : RegDesc) (i v : Nat) (s : State) (xh : xe.covers [.locked, .seqs, .time, .fab, .quays, .tide, .pen, .cal, .port] [] = true) (xha : xe.all = true) :
    ∀ t, (specialWrite d i v s) = some t → State.seen xe t = State.seen xe s := by
  simp only [Extent.covers, List.all_cons, List.all_nil, Bool.and_true, Bool.true_and, Bool.and_eq_true] at xh
  have xhr : ∀ f, xe.r f = true := fun f => xe.r_of_all f xha
  unfold specialWrite
  dsimp only
  repeat' apply ite_some_seen
  all_goals first
    | exact none_seen xe s
    | (refine some_seen xe s _ ?_; simp [xh, xha, xhr]; done)
    | (refine some_seen xe s _ ?_; split <;> simp [xh, xha, xhr]; done)

@[simp] theorem pilApplyFree_seen (xe : Extent) (s : State) (xh : xe.covers [.fresh, .fab] [F.PIL_APPLYF_FRAME, F.PIL_BADSLOT_SLOT, F.PIL_STAT_BUSY, F.PIL_STAT_REASON, F.PIL_STAT_REFUSED, F.PIL_STAT_WERR] = true) :
    State.seen xe (pilApplyFree s) = State.seen xe s := by
  simp only [Extent.covers, List.all_cons, List.all_nil, Bool.and_true, Bool.true_and, Bool.and_eq_true] at xh
  unfold pilApplyFree
  simp [xh]

@[simp] theorem calGo_seen (xe : Extent) (s : State) (xh : xe.covers [.fab, .cal] [F.CAL_USTAT_REASON, F.CAL_USTAT_RESULT, F.CAL_USTAT_STATE] = true) :
    State.seen xe (calGo s) = State.seen xe s := by
  simp only [Extent.covers, List.all_cons, List.all_nil, Bool.and_true, Bool.true_and, Bool.and_eq_true] at xh
  unfold calGo
  simp [xh]

theorem ite_acts_seen (xe : Extent) (c : Prop) [Decidable c] (a b : List (Nat × (State → State)))
    (ha : ∀ p ∈ a, ∀ s : State, State.seen xe (p.2 s) = State.seen xe s)
    (hb : ∀ p ∈ b, ∀ s : State, State.seen xe (p.2 s) = State.seen xe s) :
    ∀ p ∈ (if c then a else b), ∀ s : State, State.seen xe (p.2 s) = State.seen xe s := by
  split
  · exact ha
  · exact hb

theorem actsFabric_seen (xe : Extent) (d : RegDesc) (i : Nat) (xh : xe.covers [.fresh, .log, .fab, .quays, .lanes, .port] [] = true) (xha : xe.all = true) :
    ∀ p ∈ actsFabric d i, ∀ s : State, State.seen xe (p.2 s) = State.seen xe s := by
  simp only [Extent.covers, List.all_cons, List.all_nil, Bool.and_true, Bool.true_and, Bool.and_eq_true] at xh
  have xhr : ∀ f, xe.r f = true := fun f => xe.r_of_all f xha
  unfold actsFabric
  repeat' apply ite_acts_seen
  all_goals simp [xh, xha, xhr]

theorem actsPlan_seen (xe : Extent) (d : RegDesc) (i : Nat) (xh : xe.covers [.fresh, .seqs, .log, .time, .fab, .quays, .exec, .sched, .tide, .pen, .mir, .boot, .cal, .port] [] = true) (xha : xe.all = true) :
    ∀ p ∈ actsPlan d i, ∀ s : State, State.seen xe (p.2 s) = State.seen xe s := by
  simp only [Extent.covers, List.all_cons, List.all_nil, Bool.and_true, Bool.true_and, Bool.and_eq_true] at xh
  have xhr : ∀ f, xe.r f = true := fun f => xe.r_of_all f xha
  unfold actsPlan
  repeat' apply ite_acts_seen
  all_goals simp [xh, xha, xhr]

theorem actsSystem_seen (xe : Extent) (d : RegDesc) (i m : Nat) (xh : xe.covers [.dev, .auth, .frame, .fresh, .locked, .seqs, .log, .rdata, .time, .table, .fab, .quays, .lanes, .tiles, .exec, .sched, .tide, .pen, .mir, .boot, .cal, .port] [] = true) (xha : xe.all = true) :
    ∀ p ∈ actsSystem d i m, ∀ s : State, State.seen xe (p.2 s) = State.seen xe s := by
  simp only [Extent.covers, List.all_cons, List.all_nil, Bool.and_true, Bool.true_and, Bool.and_eq_true] at xh
  have xhr : ∀ f, xe.r f = true := fun f => xe.r_of_all f xha
  unfold actsSystem
  repeat' apply ite_acts_seen
  all_goals simp [xh, xha, xhr]

theorem acts_seen (xe : Extent) (d : RegDesc) (i m : Nat) (xh : xe.covers [.dev, .auth, .frame, .fresh, .locked, .seqs, .log, .rdata, .time, .table, .fab, .quays, .lanes, .tiles, .exec, .sched, .tide, .pen, .mir, .boot, .cal, .port] [] = true) (xha : xe.all = true) :
    ∀ p ∈ acts d i m, ∀ s : State, State.seen xe (p.2 s) = State.seen xe s := by
  simp only [Extent.covers, List.all_cons, List.all_nil, Bool.and_true, Bool.true_and, Bool.and_eq_true] at xh
  have xhr : ∀ f, xe.r f = true := fun f => xe.r_of_all f xha
  intro p h s
  unfold acts at h
  simp only [List.mem_append] at h
  rcases h with (h | h) | h
  · exact actsFabric_seen xe d i (by simp [xh, xha, xhr]) (by simp [xh, xha, xhr]) p h s
  · exact actsPlan_seen xe d i (by simp [xh, xha, xhr]) (by simp [xh, xha, xhr]) p h s
  · exact actsSystem_seen xe d i m (by simp [xh, xha, xhr]) (by simp [xh, xha, xhr]) p h s

@[simp] theorem startActs_seen (xe : Extent) (d : RegDesc) (i m v : Nat) (s : State) (xh : xe.covers [.dev, .auth, .frame, .fresh, .locked, .seqs, .log, .rdata, .time, .table, .fab, .quays, .lanes, .tiles, .exec, .sched, .tide, .pen, .mir, .boot, .cal, .port] [] = true) (xha : xe.all = true) :
    State.seen xe (startActs d i m v s) = State.seen xe s := by
  simp only [Extent.covers, List.all_cons, List.all_nil, Bool.and_true, Bool.true_and, Bool.and_eq_true] at xh
  have xhr : ∀ f, xe.r f = true := fun f => xe.r_of_all f xha
  unfold startActs
  extract_lets ex multi s1
  have h1 : State.seen xe s1 = State.seen xe s := by simp only [s1]; split <;> simp [xh, xha, xhr]
  clear_value s1
  refine (foldl_mem_seen xe _ _ _ ?_).trans h1
  intro a ha s
  split
  · exact acts_seen xe d i m (by simp [xh, xha, xhr]) (by simp [xh, xha, xhr]) a ha s
  · rfl

@[simp] theorem regWrite_seen (xe : Extent) (m a v : Nat) (s : State) (xh : xe.covers [.dev, .auth, .frame, .fresh, .locked, .seqs, .log, .rdata, .time, .table, .fab, .quays, .lanes, .tiles, .exec, .sched, .tide, .pen, .mir, .boot, .cal, .port] [] = true) (xha : xe.all = true) :
    State.seen xe (regWrite m a v s) = State.seen xe s := by
  simp only [Extent.covers, List.all_cons, List.all_nil, Bool.and_true, Bool.true_and, Bool.and_eq_true] at xh
  have xhr : ∀ f, xe.r f = true := fun f => xe.r_of_all f xha
  unfold regWrite
  split
  · rename_i d i _
    extract_lets t
    have h : State.seen xe t = State.seen xe s := by
      simp only [t]
      split
      · rename_i u hu
        exact specialWrite_seen xe _ _ _ _ (by simp [xh, xha, xhr]) (by simp [xh, xha, xhr]) _ hu
      · simp [xh, xha, xhr]
    clear_value t
    simp [h, xh, xha, xhr]
  · split
    · split <;> simp [xh, xha, xhr]
    · rfl

end Sys2Proof.Machine
end

