-- ==== Sys2Proof/Laws/SeenMatrix.lean ====
section
/-! SUPPORT. What the matrix, the cranes and the sequencers leave unseen outside the extents they are given (Laws/Seen.lean). -/
namespace Sys2Proof.Machine
set_option linter.all false

@[simp] theorem eccNote_seen (xe : Extent) (m a : Nat) (s : State) (xh : xe.covers [.log, .port] [F.DBG_FLTSTAT_CLASS, F.MTX_ECCUNC] = true) :
    State.seen xe (eccNote m a s) = State.seen xe s := by
  simp only [Extent.covers, List.all_cons, List.all_nil, Bool.and_true, Bool.true_and, Bool.and_eq_true] at xh
  unfold eccNote
  simp [xh]

@[simp] theorem eccFail_seen (xe : Extent) (m a : Nat) (write : Bool) (s : State) (xh : xe.covers [.seqs, .log, .port] [F.DBG_FLTSTAT_CLASS, F.ICU_LOSTCNT, F.ICU_OVRw_SRC, F.ICU_PENDw_SRC, F.MTX_ECCUNC, F.MTX_ERRADDR_ADDR, F.MTX_ERRCNT, F.MTX_ERRSTAT_CAUSE, F.MTX_ERRSTAT_MASTER, F.MTX_ERRSTAT_OVR, F.MTX_ERRSTAT_VALID, F.MTX_ERRSTAT_WRITE] = true) :
    State.seen xe (eccFail m a write s) = State.seen xe s := by
  simp only [Extent.covers, List.all_cons, List.all_nil, Bool.and_true, Bool.true_and, Bool.and_eq_true] at xh
  unfold eccFail
  simp [xh]

@[simp] theorem eccMend_seen (xe : Extent) (a : Nat) (s : State) (xh : xe.covers [.fab] [F.MTX_ECCCOR] = true) :
    State.seen xe (eccMend a s) = State.seen xe s := by
  simp only [Extent.covers, List.all_cons, List.all_nil, Bool.and_true, Bool.true_and, Bool.and_eq_true] at xh
  unfold eccMend
  simp [xh]

@[simp] theorem accFail_seen (xe : Extent) (m e : Nat) (write : Bool) (a : Nat) (s : State) (xh : xe.covers [.seqs, .log, .port] [F.DBG_FLTSTAT_CLASS, F.ICU_LOSTCNT, F.ICU_OVRw_SRC, F.ICU_PENDw_SRC, F.MTX_ECCUNC, F.MTX_ERRADDR_ADDR, F.MTX_ERRCNT, F.MTX_ERRSTAT_CAUSE, F.MTX_ERRSTAT_MASTER, F.MTX_ERRSTAT_OVR, F.MTX_ERRSTAT_VALID, F.MTX_ERRSTAT_WRITE] = true) :
    State.seen xe (accFail m e write a s) = State.seen xe s := by
  simp only [Extent.covers, List.all_cons, List.all_nil, Bool.and_true, Bool.true_and, Bool.and_eq_true] at xh
  unfold accFail
  simp [xh]

@[simp] theorem regAlign_seen (xe : Extent) (m a : Nat) (write : Bool) (s : State) (xh : xe.covers [.seqs] [F.ICU_LOSTCNT, F.ICU_OVRw_SRC, F.ICU_PENDw_SRC, F.MTX_ERRADDR_ADDR, F.MTX_ERRCNT, F.MTX_ERRSTAT_CAUSE, F.MTX_ERRSTAT_MASTER, F.MTX_ERRSTAT_OVR, F.MTX_ERRSTAT_VALID, F.MTX_ERRSTAT_WRITE, F.SYS_ERRSTAT_ALIGN] = true) :
    State.seen xe (regAlign m a write s) = State.seen xe s := by
  simp only [Extent.covers, List.all_cons, List.all_nil, Bool.and_true, Bool.true_and, Bool.and_eq_true] at xh
  unfold regAlign
  simp [xh]

@[simp] theorem stallAt_seen (xe : Extent) (p cycle n : Nat) (s : State) (xh : xe.covers [.fab] [] = true) :
    State.seen xe (stallAt p cycle n s) = State.seen xe s := by
  simp only [Extent.covers, List.all_cons, List.all_nil, Bool.and_true, Bool.true_and, Bool.and_eq_true] at xh
  unfold stallAt
  simp [xh]

@[simp] theorem noteStall_seen (xe : Extent) (a cycle : Nat) (s : State) (xh : xe.covers [.fab] [] = true) :
    State.seen xe (noteStall a cycle s) = State.seen xe s := by
  simp only [Extent.covers, List.all_cons, List.all_nil, Bool.and_true, Bool.true_and, Bool.and_eq_true] at xh
  unfold noteStall
  repeat' first
    | (extract_lets +onlyGivenNames x; refine have hx : State.seen xe x = State.seen xe s := ?_; ?_; (on_goal 1 => unfold x); (on_goal 2 => clear_value x))
    | (extract_lets +onlyGivenNames x; refine have hx : State.seen xe x.2 = State.seen xe s := ?_; ?_; (on_goal 1 => unfold x); (on_goal 2 => clear_value x))
    | (extract_lets +onlyGivenNames x; refine have hx : State.seen xe x.2.2 = State.seen xe s := ?_; ?_; (on_goal 1 => unfold x); (on_goal 2 => clear_value x))
    | (extract_lets +onlyGivenNames x; clear_value x)
    | (simp [*]; done)
    | (refine (foldl_seen xe _ _ _ ?_).trans ?_; (on_goal 1 => intro s a))
    | (refine (State.when_seen xe _ _ _ ?_).trans ?_; (on_goal 1 => intro s))
    | split
    | (simp_all; done)

@[simp] theorem winPut_seen (xe : Extent) (p off : Nat) (bytes : List Byte) (s : State) (xh : xe.covers [.fab] [F.MOR_CWLAST_ENGINE, F.MOR_CWLAST_OFFSET, F.MOR_STAT_CWERR] = true) :
    State.seen xe (winPut p off bytes s) = State.seen xe s := by
  simp only [Extent.covers, List.all_cons, List.all_nil, Bool.and_true, Bool.true_and, Bool.and_eq_true] at xh
  unfold winPut
  simp [xh]

@[simp] theorem memGet_seen (xe : Extent) (a n cycle : Nat) (s : State) (xh : xe.covers [.fab] [F.MTX_ECCCOR] = true) :
    State.seen xe (memGet a n cycle s).2 = State.seen xe s := by
  simp only [Extent.covers, List.all_cons, List.all_nil, Bool.and_true, Bool.true_and, Bool.and_eq_true] at xh
  unfold memGet
  simp [xh]

@[simp] theorem memPutAt_seen (xe : Extent) (a : Nat) (bytes : List Byte) (s : State) (xh : xe.covers [.seqs, .table, .fab, .exec] [F.MOR_CWLAST_ENGINE, F.MOR_CWLAST_OFFSET, F.MOR_STAT_CWERR] = true) :
    State.seen xe (memPutAt a bytes s) = State.seen xe s := by
  simp only [Extent.covers, List.all_cons, List.all_nil, Bool.and_true, Bool.true_and, Bool.and_eq_true] at xh
  unfold memPutAt
  repeat' first
    | (extract_lets +onlyGivenNames x; refine have hx : State.seen xe x = State.seen xe s := ?_; ?_; (on_goal 1 => unfold x); (on_goal 2 => clear_value x))
    | (extract_lets +onlyGivenNames x; refine have hx : State.seen xe x.2 = State.seen xe s := ?_; ?_; (on_goal 1 => unfold x); (on_goal 2 => clear_value x))
    | (extract_lets +onlyGivenNames x; refine have hx : State.seen xe x.2.2 = State.seen xe s := ?_; ?_; (on_goal 1 => unfold x); (on_goal 2 => clear_value x))
    | (extract_lets +onlyGivenNames x; clear_value x)
    | (simp [*]; done)
    | (refine (foldl_seen xe _ _ _ ?_).trans ?_; (on_goal 1 => intro s a))
    | (refine (State.when_seen xe _ _ _ ?_).trans ?_; (on_goal 1 => intro s))
    | split
    | (simp_all; done)

@[simp] theorem accGet_seen (xe : Extent) (a n cycle : Nat) (s : State) (xh : xe.covers [.rdata, .fab] [F.MTX_ECCCOR, F.NET_TXTSF_VALUE, F.SCH_QBALHI_BAL, F.SCH_QFTHI_FT, F.SCH_VTHI_VT, F.TIM_TBnFRAC_VALUE, F.TIM_TBnWRAP_VALUE] = true) :
    State.seen xe (accGet a n cycle s).2 = State.seen xe s := by
  simp only [Extent.covers, List.all_cons, List.all_nil, Bool.and_true, Bool.true_and, Bool.and_eq_true] at xh
  unfold accGet
  repeat' first
    | (extract_lets +onlyGivenNames x; refine have hx : State.seen xe x = State.seen xe s := ?_; ?_; (on_goal 1 => unfold x); (on_goal 2 => clear_value x))
    | (extract_lets +onlyGivenNames x; refine have hx : State.seen xe x.2 = State.seen xe s := ?_; ?_; (on_goal 1 => unfold x); (on_goal 2 => clear_value x))
    | (extract_lets +onlyGivenNames x; refine have hx : State.seen xe x.2.2 = State.seen xe s := ?_; ?_; (on_goal 1 => unfold x); (on_goal 2 => clear_value x))
    | (extract_lets +onlyGivenNames x; clear_value x)
    | (simp [*]; done)
    | (refine (foldl_seen xe _ _ _ ?_).trans ?_; (on_goal 1 => intro s a))
    | (refine (State.when_seen xe _ _ _ ?_).trans ?_; (on_goal 1 => intro s))
    | split
    | (simp_all; done)

@[simp] theorem accPut_seen (xe : Extent) (m a : Nat) (bytes : List Byte) (s : State) (xh : xe.covers [.dev, .auth, .frame, .fresh, .locked, .seqs, .log, .rdata, .time, .table, .fab, .quays, .lanes, .tiles, .exec, .sched, .tide, .pen, .mir, .boot, .cal, .port] [] = true) (xha : xe.all = true) :
    State.seen xe (accPut m a bytes s) = State.seen xe s := by
  simp only [Extent.covers, List.all_cons, List.all_nil, Bool.and_true, Bool.true_and, Bool.and_eq_true] at xh
  have xhr : ∀ f, xe.r f = true := fun f => xe.r_of_all f xha
  unfold accPut
  repeat' first
    | (extract_lets +onlyGivenNames x; refine have hx : State.seen xe x = State.seen xe s := ?_; ?_; (on_goal 1 => unfold x); (on_goal 2 => clear_value x))
    | (extract_lets +onlyGivenNames x; refine have hx : State.seen xe x.2 = State.seen xe s := ?_; ?_; (on_goal 1 => unfold x); (on_goal 2 => clear_value x))
    | (extract_lets +onlyGivenNames x; refine have hx : State.seen xe x.2.2 = State.seen xe s := ?_; ?_; (on_goal 1 => unfold x); (on_goal 2 => clear_value x))
    | (extract_lets +onlyGivenNames x; clear_value x)
    | (simp [*]; done)
    | (refine (foldl_seen xe _ _ _ ?_).trans ?_; (on_goal 1 => intro s a))
    | (refine (State.when_seen xe _ _ _ ?_).trans ?_; (on_goal 1 => intro s))
    | split
    | (simp_all; done)

@[simp] theorem accDrop_seen (xe : Extent) (a n cycle : Nat) (s : State) (xh : xe.covers [.rdata, .fab] [F.MTX_ECCCOR, F.NET_TXTSF_VALUE, F.SCH_QBALHI_BAL, F.SCH_QFTHI_FT, F.SCH_VTHI_VT, F.TIM_TBnFRAC_VALUE, F.TIM_TBnWRAP_VALUE] = true) :
    State.seen xe (accDrop a n cycle s) = State.seen xe s := by
  simp only [Extent.covers, List.all_cons, List.all_nil, Bool.and_true, Bool.true_and, Bool.and_eq_true] at xh
  unfold accDrop
  simp [xh]

@[simp] theorem putStrobes_seen (xe : Extent) (m a : Nat) (bytes : List Byte) (st : BitVec 32) (s : State) (xh : xe.covers [.dev, .auth, .frame, .fresh, .locked, .seqs, .log, .rdata, .time, .table, .fab, .quays, .lanes, .tiles, .exec, .sched, .tide, .pen, .mir, .boot, .cal, .port] [] = true) (xha : xe.all = true) :
    State.seen xe (putStrobes m a bytes st s) = State.seen xe s := by
  simp only [Extent.covers, List.all_cons, List.all_nil, Bool.and_true, Bool.true_and, Bool.and_eq_true] at xh
  have xhr : ∀ f, xe.r f = true := fun f => xe.r_of_all f xha
  unfold putStrobes
  simp [xh, xha, xhr]

@[simp] theorem accRead_seen (xe : Extent) (m a n cycle : Nat) (s : State) (xh : xe.covers [.seqs, .log, .rdata, .fab, .port] [F.DBG_FLTSTAT_CLASS, F.ICU_LOSTCNT, F.ICU_OVRw_SRC, F.ICU_PENDw_SRC, F.MTX_ECCCOR, F.MTX_ECCUNC, F.MTX_ERRADDR_ADDR, F.MTX_ERRCNT, F.MTX_ERRSTAT_CAUSE, F.MTX_ERRSTAT_MASTER, F.MTX_ERRSTAT_OVR, F.MTX_ERRSTAT_VALID, F.MTX_ERRSTAT_WRITE, F.NET_TXTSF_VALUE, F.SCH_QBALHI_BAL, F.SCH_QFTHI_FT, F.SCH_VTHI_VT, F.TIM_TBnFRAC_VALUE, F.TIM_TBnWRAP_VALUE] = true) :
    State.seen xe (accRead m a n cycle s).2 = State.seen xe s := by
  simp only [Extent.covers, List.all_cons, List.all_nil, Bool.and_true, Bool.true_and, Bool.and_eq_true] at xh
  unfold accRead
  repeat' first
    | (extract_lets +onlyGivenNames x; refine have hx : State.seen xe x = State.seen xe s := ?_; ?_; (on_goal 1 => unfold x); (on_goal 2 => clear_value x))
    | (extract_lets +onlyGivenNames x; refine have hx : State.seen xe x.2 = State.seen xe s := ?_; ?_; (on_goal 1 => unfold x); (on_goal 2 => clear_value x))
    | (extract_lets +onlyGivenNames x; refine have hx : State.seen xe x.2.2 = State.seen xe s := ?_; ?_; (on_goal 1 => unfold x); (on_goal 2 => clear_value x))
    | (extract_lets +onlyGivenNames x; clear_value x)
    | (simp [*]; done)
    | (refine (foldl_seen xe _ _ _ ?_).trans ?_; (on_goal 1 => intro s a))
    | (refine (State.when_seen xe _ _ _ ?_).trans ?_; (on_goal 1 => intro s))
    | split
    | (simp_all; done)

@[simp] theorem accWrite_seen (xe : Extent) (m a cycle : Nat) (bytes : List Byte) (s : State) (xh : xe.covers [.dev, .auth, .frame, .fresh, .locked, .seqs, .log, .rdata, .time, .table, .fab, .quays, .lanes, .tiles, .exec, .sched, .tide, .pen, .mir, .boot, .cal, .port] [] = true) (xha : xe.all = true) :
    State.seen xe (accWrite m a cycle bytes s).2 = State.seen xe s := by
  simp only [Extent.covers, List.all_cons, List.all_nil, Bool.and_true, Bool.true_and, Bool.and_eq_true] at xh
  have xhr : ∀ f, xe.r f = true := fun f => xe.r_of_all f xha
  unfold accWrite
  repeat' first
    | (extract_lets +onlyGivenNames x; refine have hx : State.seen xe x = State.seen xe s := ?_; ?_; (on_goal 1 => unfold x); (on_goal 2 => clear_value x))
    | (extract_lets +onlyGivenNames x; refine have hx : State.seen xe x.2 = State.seen xe s := ?_; ?_; (on_goal 1 => unfold x); (on_goal 2 => clear_value x))
    | (extract_lets +onlyGivenNames x; refine have hx : State.seen xe x.2.2 = State.seen xe s := ?_; ?_; (on_goal 1 => unfold x); (on_goal 2 => clear_value x))
    | (extract_lets +onlyGivenNames x; clear_value x)
    | (simp [*]; done)
    | (refine (foldl_seen xe _ _ _ ?_).trans ?_; (on_goal 1 => intro s a))
    | (refine (State.when_seen xe _ _ _ ?_).trans ?_; (on_goal 1 => intro s))
    | split
    | (simp_all; done)

@[simp] theorem quietRead_seen (xe : Extent) (m : Nat) (drop : Nat → Nat → Nat → State → State) (a n cycle : Nat) (s : State) (xh : xe.covers [.log, .port] [F.DBG_FLTSTAT_CLASS, F.MTX_ECCUNC] = true) (xhdrop : ∀ a b c s, State.seen xe (drop a b c s) = State.seen xe s) :
    State.seen xe (quietRead m drop a n cycle s) = State.seen xe s := by
  simp only [Extent.covers, List.all_cons, List.all_nil, Bool.and_true, Bool.true_and, Bool.and_eq_true] at xh
  unfold quietRead
  repeat' first
    | (extract_lets +onlyGivenNames x; refine have hx : State.seen xe x = State.seen xe s := ?_; ?_; (on_goal 1 => unfold x); (on_goal 2 => clear_value x))
    | (extract_lets +onlyGivenNames x; refine have hx : State.seen xe x.2 = State.seen xe s := ?_; ?_; (on_goal 1 => unfold x); (on_goal 2 => clear_value x))
    | (extract_lets +onlyGivenNames x; refine have hx : State.seen xe x.2.2 = State.seen xe s := ?_; ?_; (on_goal 1 => unfold x); (on_goal 2 => clear_value x))
    | (extract_lets +onlyGivenNames x; clear_value x)
    | (simp [*]; done)
    | (refine (foldl_seen xe _ _ _ ?_).trans ?_; (on_goal 1 => intro s a))
    | (refine (State.when_seen xe _ _ _ ?_).trans ?_; (on_goal 1 => intro s))
    | split
    | (simp_all; done)

@[simp] theorem quietWrite_seen (xe : Extent) (m a cycle : Nat) (bytes : List Byte) (st : BitVec 32) (s : State) (xh : xe.covers [.dev, .auth, .frame, .fresh, .locked, .seqs, .log, .rdata, .time, .table, .fab, .quays, .lanes, .tiles, .exec, .sched, .tide, .pen, .mir, .boot, .cal, .port] [] = true) (xha : xe.all = true) :
    State.seen xe (quietWrite m a cycle bytes st s) = State.seen xe s := by
  simp only [Extent.covers, List.all_cons, List.all_nil, Bool.and_true, Bool.true_and, Bool.and_eq_true] at xh
  have xhr : ∀ f, xe.r f = true := fun f => xe.r_of_all f xha
  unfold quietWrite
  repeat' first
    | (extract_lets +onlyGivenNames x; refine have hx : State.seen xe x = State.seen xe s := ?_; ?_; (on_goal 1 => unfold x); (on_goal 2 => clear_value x))
    | (extract_lets +onlyGivenNames x; refine have hx : State.seen xe x.2 = State.seen xe s := ?_; ?_; (on_goal 1 => unfold x); (on_goal 2 => clear_value x))
    | (extract_lets +onlyGivenNames x; refine have hx : State.seen xe x.2.2 = State.seen xe s := ?_; ?_; (on_goal 1 => unfold x); (on_goal 2 => clear_value x))
    | (extract_lets +onlyGivenNames x; clear_value x)
    | (simp [*]; done)
    | (refine (foldl_seen xe _ _ _ ?_).trans ?_; (on_goal 1 => intro s a))
    | (refine (State.when_seen xe _ _ _ ?_).trans ?_; (on_goal 1 => intro s))
    | split
    | (simp_all; done)

@[simp] theorem grantAt_seen (xe : Extent) (t m waited : Nat) (s : State) (xh : xe.covers [.port] [F.MTX_WAITHWMm_CYCLES] = true) :
    State.seen xe (grantAt t m waited s) = State.seen xe s := by
  simp only [Extent.covers, List.all_cons, List.all_nil, Bool.and_true, Bool.true_and, Bool.and_eq_true] at xh
  unfold grantAt
  simp [xh]

@[simp] theorem burstReset_seen (xe : Extent) (s : State) (xh : xe.covers [] [F.MTX_RSTCNT] = true) :
    State.seen xe (burstReset s) = State.seen xe s := by
  simp only [Extent.covers, List.all_cons, List.all_nil, Bool.and_true, Bool.true_and, Bool.and_eq_true] at xh
  unfold burstReset
  simp [xh]

@[simp] theorem beatDo_seen (xe : Extent) (b : Burst) (k cycle : Nat) (s : State) (xh : xe.covers [.dev, .auth, .frame, .fresh, .locked, .seqs, .log, .rdata, .time, .table, .fab, .quays, .lanes, .tiles, .exec, .sched, .tide, .pen, .mir, .boot, .cal, .port] [] = true) (xha : xe.all = true) :
    State.seen xe (beatDo b k cycle s).2 = State.seen xe s := by
  simp only [Extent.covers, List.all_cons, List.all_nil, Bool.and_true, Bool.true_and, Bool.and_eq_true] at xh
  have xhr : ∀ f, xe.r f = true := fun f => xe.r_of_all f xha
  unfold beatDo
  repeat' first
    | (extract_lets +onlyGivenNames x; refine have hx : State.seen xe x = State.seen xe s := ?_; ?_; (on_goal 1 => unfold x); (on_goal 2 => clear_value x))
    | (extract_lets +onlyGivenNames x; refine have hx : State.seen xe x.2 = State.seen xe s := ?_; ?_; (on_goal 1 => unfold x); (on_goal 2 => clear_value x))
    | (extract_lets +onlyGivenNames x; refine have hx : State.seen xe x.2.2 = State.seen xe s := ?_; ?_; (on_goal 1 => unfold x); (on_goal 2 => clear_value x))
    | (extract_lets +onlyGivenNames x; clear_value x)
    | (simp [*]; done)
    | (refine (foldl_seen xe _ _ _ ?_).trans ?_; (on_goal 1 => intro s a))
    | (refine (State.when_seen xe _ _ _ ?_).trans ?_; (on_goal 1 => intro s))
    | split
    | (simp_all; done)

@[simp] theorem beatQuiet_seen (xe : Extent) (b : Burst) (delivered k cycle : Nat) (s : State) (xh : xe.covers [.dev, .auth, .frame, .fresh, .locked, .seqs, .log, .rdata, .time, .table, .fab, .quays, .lanes, .tiles, .exec, .sched, .tide, .pen, .mir, .boot, .cal, .port] [] = true) (xha : xe.all = true) :
    State.seen xe (beatQuiet b delivered k cycle s) = State.seen xe s := by
  simp only [Extent.covers, List.all_cons, List.all_nil, Bool.and_true, Bool.true_and, Bool.and_eq_true] at xh
  have xhr : ∀ f, xe.r f = true := fun f => xe.r_of_all f xha
  unfold beatQuiet
  repeat' first
    | (extract_lets +onlyGivenNames x; refine have hx : State.seen xe x = State.seen xe s := ?_; ?_; (on_goal 1 => unfold x); (on_goal 2 => clear_value x))
    | (extract_lets +onlyGivenNames x; refine have hx : State.seen xe x.2 = State.seen xe s := ?_; ?_; (on_goal 1 => unfold x); (on_goal 2 => clear_value x))
    | (extract_lets +onlyGivenNames x; refine have hx : State.seen xe x.2.2 = State.seen xe s := ?_; ?_; (on_goal 1 => unfold x); (on_goal 2 => clear_value x))
    | (extract_lets +onlyGivenNames x; clear_value x)
    | (simp [*]; done)
    | (refine (foldl_seen xe _ _ _ ?_).trans ?_; (on_goal 1 => intro s a))
    | (refine (State.when_seen xe _ _ _ ?_).trans ?_; (on_goal 1 => intro s))
    | split
    | (simp_all; done)

@[simp] theorem burstRest_seen (xe : Extent) (b : Burst) (delivered k cycle : Nat) (s : State) (xh : xe.covers [.dev, .auth, .frame, .fresh, .locked, .seqs, .log, .rdata, .time, .table, .fab, .quays, .lanes, .tiles, .exec, .sched, .tide, .pen, .mir, .boot, .cal, .port] [] = true) (xha : xe.all = true) :
    State.seen xe (burstRest b delivered k cycle s) = State.seen xe s := by
  simp only [Extent.covers, List.all_cons, List.all_nil, Bool.and_true, Bool.true_and, Bool.and_eq_true] at xh
  have xhr : ∀ f, xe.r f = true := fun f => xe.r_of_all f xha
  unfold burstRest
  simp [xh, xha, xhr]

@[simp] theorem quietReads_seen (xe : Extent) (m : Nat) (drop : Nat → Nat → Nat → State → State) (cycle : Nat) (l : List (Nat × Nat)) (s : State) (xh : xe.covers [.log, .port] [F.DBG_FLTSTAT_CLASS, F.MTX_ECCUNC] = true) (xhdrop : ∀ a b c s, State.seen xe (drop a b c s) = State.seen xe s) :
    State.seen xe (quietReads m drop cycle l s) = State.seen xe s := by
  simp only [Extent.covers, List.all_cons, List.all_nil, Bool.and_true, Bool.true_and, Bool.and_eq_true] at xh
  unfold quietReads
  simp [xh, xhdrop]

@[simp] theorem quietWrites_seen (xe : Extent) (m : Nat) (put : Nat → List Byte → State → State) (delivered cycle : Nat) (l : List (Nat × List Byte)) (s : State) (xh : xe.covers [.log, .fab, .port] [F.DBG_FLTSTAT_CLASS, F.MTX_ECCUNC] = true) (xhput : ∀ a b s, State.seen xe (put a b s) = State.seen xe s) :
    State.seen xe (quietWrites m put delivered cycle l s) = State.seen xe s := by
  simp only [Extent.covers, List.all_cons, List.all_nil, Bool.and_true, Bool.true_and, Bool.and_eq_true] at xh
  unfold quietWrites
  repeat' first
    | (extract_lets +onlyGivenNames x; refine have hx : State.seen xe x = State.seen xe s := ?_; ?_; (on_goal 1 => unfold x); (on_goal 2 => clear_value x))
    | (extract_lets +onlyGivenNames x; refine have hx : State.seen xe x.2 = State.seen xe s := ?_; ?_; (on_goal 1 => unfold x); (on_goal 2 => clear_value x))
    | (extract_lets +onlyGivenNames x; refine have hx : State.seen xe x.2.2 = State.seen xe s := ?_; ?_; (on_goal 1 => unfold x); (on_goal 2 => clear_value x))
    | (extract_lets +onlyGivenNames x; clear_value x)
    | (simp [*]; done)
    | (refine (foldl_seen xe _ _ _ ?_).trans ?_; (on_goal 1 => intro s a))
    | (refine (State.when_seen xe _ _ _ ?_).trans ?_; (on_goal 1 => intro s))
    | split
    | (simp_all; done)

@[simp] theorem flightReset_seen (xe : Extent) (m : Nat) (f : InFlight) (s : State) (xh : xe.covers [.dev, .auth, .frame, .fresh, .locked, .seqs, .log, .rdata, .time, .table, .fab, .quays, .lanes, .tiles, .exec, .sched, .tide, .pen, .mir, .boot, .cal, .port] [] = true) (xha : xe.all = true) :
    State.seen xe (flightReset m f s) = State.seen xe s := by
  simp only [Extent.covers, List.all_cons, List.all_nil, Bool.and_true, Bool.true_and, Bool.and_eq_true] at xh
  have xhr : ∀ f, xe.r f = true := fun f => xe.r_of_all f xha
  unfold flightReset
  simp [xh, xha, xhr]

@[simp] theorem burstRead_seen (xe : Extent) (m : Nat) (get : Nat → Nat → Nat → State → Option (List Byte) × State) (drop : Nat → Nat → Nat → State → State) (cycle : Nat) (l : List (Nat × Nat)) (acc : List Byte) (s : State) (xh : xe.covers [.log, .port] [F.DBG_FLTSTAT_CLASS, F.MTX_ECCUNC, F.MTX_RSTCNT] = true) (xhget : ∀ a b c s, State.seen xe (get a b c s).2 = State.seen xe s) (xhdrop : ∀ a b c s, State.seen xe (drop a b c s) = State.seen xe s) :
    State.seen xe (burstRead m get drop cycle l acc s).2 = State.seen xe s := by
  simp only [Extent.covers, List.all_cons, List.all_nil, Bool.and_true, Bool.true_and, Bool.and_eq_true] at xh
  induction l generalizing cycle acc s with
  | nil => rfl
  | cons x r ih =>
    unfold burstRead
    extract_lets y
    have hy : State.seen xe y.2 = State.seen xe s := by simp [y, xh, xhget, xhdrop]
    clear_value y
    split
    · rw [ih]; exact hy
    · split <;> simp [hy, xh, xhget, xhdrop]

@[simp] theorem burstWrite_seen (xe : Extent) (m : Nat) (write : Nat → Nat → List Byte → State → Bool × State) (put : Nat → List Byte → State → State) (delivered k cycle : Nat) (l : List (Nat × List Byte)) (s : State) (xh : xe.covers [.log, .fab, .port] [F.DBG_FLTSTAT_CLASS, F.MTX_ECCUNC, F.MTX_RSTCNT] = true) (xhwrite : ∀ a b c s, State.seen xe (write a b c s).2 = State.seen xe s) (xhput : ∀ a b s, State.seen xe (put a b s) = State.seen xe s) :
    State.seen xe (burstWrite m write put delivered k cycle l s).2 = State.seen xe s := by
  simp only [Extent.covers, List.all_cons, List.all_nil, Bool.and_true, Bool.true_and, Bool.and_eq_true] at xh
  induction l generalizing k s with
  | nil => rfl
  | cons x r ih =>
    unfold burstWrite
    extract_lets y
    have hy : State.seen xe y.2 = State.seen xe s := by simp [y, xh, xhwrite, xhput]
    clear_value y
    split
    · rw [ih]; exact hy
    · split <;> simp [hy, xh, xhwrite, xhput]

@[simp] theorem settleResets_seen (xe : Extent) (s : State) (xh : xe.covers [.dev, .auth, .frame, .fresh, .locked, .seqs, .log, .rdata, .time, .table, .fab, .quays, .lanes, .tiles, .exec, .sched, .tide, .pen, .mir, .boot, .cal, .port] [] = true) (xha : xe.all = true) :
    State.seen xe (settleResets s) = State.seen xe s := by
  simp only [Extent.covers, List.all_cons, List.all_nil, Bool.and_true, Bool.true_and, Bool.and_eq_true] at xh
  have xhr : ∀ f, xe.r f = true := fun f => xe.r_of_all f xha
  unfold settleResets
  refine foldl_seen xe _ _ _ ?_
  intro s e
  split
  · split <;> simp [xh, xha, xhr]
  · rfl

@[simp] theorem burstEnd_seen (xe : Extent) (m : Nat) (f : InFlight) (err : Bool) (s : State) (xh : xe.covers [.seqs, .rdata, .port] [F.ICU_LOSTCNT, F.ICU_OVRw_SRC, F.ICU_PENDw_SRC, F.TSQ_FADDRn_VALUE, F.TSQ_FPCn_VALUE, F.TSQ_FSTATn_BUSERR] = true) :
    State.seen xe (burstEnd m f err s) = State.seen xe s := by
  simp only [Extent.covers, List.all_cons, List.all_nil, Bool.and_true, Bool.true_and, Bool.and_eq_true] at xh
  unfold burstEnd
  repeat' first
    | (extract_lets +onlyGivenNames x; refine have hx : State.seen xe x = State.seen xe s := ?_; ?_; (on_goal 1 => unfold x); (on_goal 2 => clear_value x))
    | (extract_lets +onlyGivenNames x; refine have hx : State.seen xe x.2 = State.seen xe s := ?_; ?_; (on_goal 1 => unfold x); (on_goal 2 => clear_value x))
    | (extract_lets +onlyGivenNames x; refine have hx : State.seen xe x.2.2 = State.seen xe s := ?_; ?_; (on_goal 1 => unfold x); (on_goal 2 => clear_value x))
    | (extract_lets +onlyGivenNames x; clear_value x)
    | (simp [*]; done)
    | (refine (foldl_seen xe _ _ _ ?_).trans ?_; (on_goal 1 => intro s a))
    | (refine (State.when_seen xe _ _ _ ?_).trans ?_; (on_goal 1 => intro s))
    | split
    | (simp_all; done)

@[simp] theorem flightBeats_seen (xe : Extent) (m n : Nat) (f : InFlight) (cycle : Nat) (s : State) (xh : xe.covers [.dev, .auth, .frame, .fresh, .locked, .seqs, .log, .rdata, .time, .table, .fab, .quays, .lanes, .tiles, .exec, .sched, .tide, .pen, .mir, .boot, .cal, .port] [] = true) (xha : xe.all = true) :
    State.seen xe (flightBeats m n f cycle s) = State.seen xe s := by
  simp only [Extent.covers, List.all_cons, List.all_nil, Bool.and_true, Bool.true_and, Bool.and_eq_true] at xh
  have xhr : ∀ f, xe.r f = true := fun f => xe.r_of_all f xha
  induction n generalizing f cycle s with
  | zero => unfold flightBeats; split <;> simp [xh, xha, xhr]
  | succ n ih =>
    unfold flightBeats
    extract_lets r
    have hr : State.seen xe r.2 = State.seen xe s := by simp [r, xh, xha, xhr]
    clear_value r
    split
    · simp [hr, xh, xha, xhr]
    · extract_lets f2
      clear_value f2
      split
      · simp [hr, xh, xha, xhr]
      · rw [ih]; exact hr

@[simp] theorem flightStep_seen (xe : Extent) (m : Nat) (f : InFlight) (cycle waited : Nat) (s : State) (xh : xe.covers [.dev, .auth, .frame, .fresh, .locked, .seqs, .log, .rdata, .time, .table, .fab, .quays, .lanes, .tiles, .exec, .sched, .tide, .pen, .mir, .boot, .cal, .port] [] = true) (xha : xe.all = true) :
    State.seen xe (flightStep m f cycle waited s) = State.seen xe s := by
  simp only [Extent.covers, List.all_cons, List.all_nil, Bool.and_true, Bool.true_and, Bool.and_eq_true] at xh
  have xhr : ∀ f, xe.r f = true := fun f => xe.r_of_all f xha
  unfold flightStep
  split <;> simp [xh, xha, xhr]

@[simp] theorem serveAhead_seen (xe : Extent) (n t m cycle waited : Nat) (s : State) (xh : xe.covers [.dev, .auth, .frame, .fresh, .locked, .seqs, .log, .rdata, .time, .table, .fab, .quays, .lanes, .tiles, .exec, .sched, .tide, .pen, .mir, .boot, .cal, .port] [] = true) (xha : xe.all = true) :
    State.seen xe (serveAhead n t m cycle waited s) = State.seen xe s := by
  simp only [Extent.covers, List.all_cons, List.all_nil, Bool.and_true, Bool.true_and, Bool.and_eq_true] at xh
  have xhr : ∀ f, xe.r f = true := fun f => xe.r_of_all f xha
  induction n generalizing cycle waited s with
  | zero => rfl
  | succ n ih =>
    unfold serveAhead
    split
    · split
      · split
        · rfl
        · rw [ih]; simp [xh, xha, xhr]
      · rfl
    · rfl

@[simp] theorem flightFinish_seen (xe : Extent) (m n cycle : Nat) (s : State) (xh : xe.covers [.dev, .auth, .frame, .fresh, .locked, .seqs, .log, .rdata, .time, .table, .fab, .quays, .lanes, .tiles, .exec, .sched, .tide, .pen, .mir, .boot, .cal, .port] [] = true) (xha : xe.all = true) :
    State.seen xe (flightFinish m n cycle s) = State.seen xe s := by
  simp only [Extent.covers, List.all_cons, List.all_nil, Bool.and_true, Bool.true_and, Bool.and_eq_true] at xh
  have xhr : ∀ f, xe.r f = true := fun f => xe.r_of_all f xha
  induction n generalizing cycle s with
  | zero => rfl
  | succ n ih =>
    unfold flightFinish
    split
    · rfl
    · extract_lets s1
      have h1 : State.seen xe s1 = State.seen xe s := by simp only [s1]; split <;> simp [xh, xha, xhr]
      clear_value s1
      split
      · rw [ih]; simp [h1, xh, xha, xhr]
      · exact h1

@[simp] theorem busTake_seen (xe : Extent) (m a cycle : Nat) (s : State) (xh : xe.covers [.dev, .auth, .frame, .fresh, .locked, .seqs, .log, .rdata, .time, .table, .fab, .quays, .lanes, .tiles, .exec, .sched, .tide, .pen, .mir, .boot, .cal, .port] [] = true) (xha : xe.all = true) :
    State.seen xe (busTake m a cycle s) = State.seen xe s := by
  simp only [Extent.covers, List.all_cons, List.all_nil, Bool.and_true, Bool.true_and, Bool.and_eq_true] at xh
  have xhr : ∀ f, xe.r f = true := fun f => xe.r_of_all f xha
  unfold busTake
  repeat' first
    | (extract_lets +onlyGivenNames x; refine have hx : State.seen xe x = State.seen xe s := ?_; ?_; (on_goal 1 => unfold x); (on_goal 2 => clear_value x))
    | (extract_lets +onlyGivenNames x; refine have hx : State.seen xe x.2 = State.seen xe s := ?_; ?_; (on_goal 1 => unfold x); (on_goal 2 => clear_value x))
    | (extract_lets +onlyGivenNames x; refine have hx : State.seen xe x.2.2 = State.seen xe s := ?_; ?_; (on_goal 1 => unfold x); (on_goal 2 => clear_value x))
    | (extract_lets +onlyGivenNames x; clear_value x)
    | (simp [*]; done)
    | (refine (foldl_seen xe _ _ _ ?_).trans ?_; (on_goal 1 => intro s a))
    | (refine (State.when_seen xe _ _ _ ?_).trans ?_; (on_goal 1 => intro s))
    | split
    | (simp_all; done)

@[simp] theorem busRead_seen (xe : Extent) (m a n cycle : Nat) (s : State) (xh : xe.covers [.dev, .auth, .frame, .fresh, .locked, .seqs, .log, .rdata, .time, .table, .fab, .quays, .lanes, .tiles, .exec, .sched, .tide, .pen, .mir, .boot, .cal, .port] [] = true) (xha : xe.all = true) :
    State.seen xe (busRead m a n cycle s).2 = State.seen xe s := by
  simp only [Extent.covers, List.all_cons, List.all_nil, Bool.and_true, Bool.true_and, Bool.and_eq_true] at xh
  have xhr : ∀ f, xe.r f = true := fun f => xe.r_of_all f xha
  unfold busRead
  repeat' first
    | (extract_lets +onlyGivenNames x; refine have hx : State.seen xe x = State.seen xe s := ?_; ?_; (on_goal 1 => unfold x); (on_goal 2 => clear_value x))
    | (extract_lets +onlyGivenNames x; refine have hx : State.seen xe x.2 = State.seen xe s := ?_; ?_; (on_goal 1 => unfold x); (on_goal 2 => clear_value x))
    | (extract_lets +onlyGivenNames x; refine have hx : State.seen xe x.2.2 = State.seen xe s := ?_; ?_; (on_goal 1 => unfold x); (on_goal 2 => clear_value x))
    | (extract_lets +onlyGivenNames x; clear_value x)
    | (simp [*]; done)
    | (refine (foldl_seen xe _ _ _ ?_).trans ?_; (on_goal 1 => intro s a))
    | (refine (State.when_seen xe _ _ _ ?_).trans ?_; (on_goal 1 => intro s))
    | split
    | (simp_all; done)

@[simp] theorem busWrite_seen (xe : Extent) (m a cycle : Nat) (bytes : List Byte) (s : State) (xh : xe.covers [.dev, .auth, .frame, .fresh, .locked, .seqs, .log, .rdata, .time, .table, .fab, .quays, .lanes, .tiles, .exec, .sched, .tide, .pen, .mir, .boot, .cal, .port] [] = true) (xha : xe.all = true) :
    State.seen xe (busWrite m a cycle bytes s).2 = State.seen xe s := by
  simp only [Extent.covers, List.all_cons, List.all_nil, Bool.and_true, Bool.true_and, Bool.and_eq_true] at xh
  have xhr : ∀ f, xe.r f = true := fun f => xe.r_of_all f xha
  unfold busWrite
  repeat' first
    | (extract_lets +onlyGivenNames x; refine have hx : State.seen xe x = State.seen xe s := ?_; ?_; (on_goal 1 => unfold x); (on_goal 2 => clear_value x))
    | (extract_lets +onlyGivenNames x; refine have hx : State.seen xe x.2 = State.seen xe s := ?_; ?_; (on_goal 1 => unfold x); (on_goal 2 => clear_value x))
    | (extract_lets +onlyGivenNames x; refine have hx : State.seen xe x.2.2 = State.seen xe s := ?_; ?_; (on_goal 1 => unfold x); (on_goal 2 => clear_value x))
    | (extract_lets +onlyGivenNames x; clear_value x)
    | (simp [*]; done)
    | (refine (foldl_seen xe _ _ _ ?_).trans ?_; (on_goal 1 => intro s a))
    | (refine (State.when_seen xe _ _ _ ?_).trans ?_; (on_goal 1 => intro s))
    | split
    | (simp_all; done)

@[simp] theorem drainOne_seen (xe : Extent) (n cycle : Nat) (s : State) (xh : xe.covers [.dev, .auth, .frame, .fresh, .locked, .seqs, .log, .rdata, .time, .table, .fab, .quays, .lanes, .tiles, .exec, .sched, .tide, .pen, .mir, .boot, .cal, .port] [] = true) (xha : xe.all = true) :
    State.seen xe (drainOne n cycle s) = State.seen xe s := by
  simp only [Extent.covers, List.all_cons, List.all_nil, Bool.and_true, Bool.true_and, Bool.and_eq_true] at xh
  have xhr : ∀ f, xe.r f = true := fun f => xe.r_of_all f xha
  unfold drainOne
  repeat' first
    | (extract_lets +onlyGivenNames x; refine have hx : State.seen xe x = State.seen xe s := ?_; ?_; (on_goal 1 => unfold x); (on_goal 2 => clear_value x))
    | (extract_lets +onlyGivenNames x; refine have hx : State.seen xe x.2 = State.seen xe s := ?_; ?_; (on_goal 1 => unfold x); (on_goal 2 => clear_value x))
    | (extract_lets +onlyGivenNames x; refine have hx : State.seen xe x.2.2 = State.seen xe s := ?_; ?_; (on_goal 1 => unfold x); (on_goal 2 => clear_value x))
    | (extract_lets +onlyGivenNames x; clear_value x)
    | (simp [*]; done)
    | (refine (foldl_seen xe _ _ _ ?_).trans ?_; (on_goal 1 => intro s a))
    | (refine (State.when_seen xe _ _ _ ?_).trans ?_; (on_goal 1 => intro s))
    | split
    | (simp_all; done)

@[simp] theorem drainAll_seen (xe : Extent) (n cycle : Nat) (s : State) (xh : xe.covers [.dev, .auth, .frame, .fresh, .locked, .seqs, .log, .rdata, .time, .table, .fab, .quays, .lanes, .tiles, .exec, .sched, .tide, .pen, .mir, .boot, .cal, .port] [] = true) (xha : xe.all = true) :
    State.seen xe (drainAll n cycle s) = State.seen xe s := by
  simp only [Extent.covers, List.all_cons, List.all_nil, Bool.and_true, Bool.true_and, Bool.and_eq_true] at xh
  have xhr : ∀ f, xe.r f = true := fun f => xe.r_of_all f xha
  unfold drainAll
  simp [xh, xha, xhr]

@[simp] theorem drainMaster_seen (xe : Extent) (m cycle : Nat) (s : State) (xh : xe.covers [.dev, .auth, .frame, .fresh, .locked, .seqs, .log, .rdata, .time, .table, .fab, .quays, .lanes, .tiles, .exec, .sched, .tide, .pen, .mir, .boot, .cal, .port] [] = true) (xha : xe.all = true) :
    State.seen xe (drainMaster m cycle s) = State.seen xe s := by
  simp only [Extent.covers, List.all_cons, List.all_nil, Bool.and_true, Bool.true_and, Bool.and_eq_true] at xh
  have xhr : ∀ f, xe.r f = true := fun f => xe.r_of_all f xha
  unfold drainMaster
  simp [xh, xha, xhr]

@[simp] theorem wordWrite_seen (xe : Extent) (m a cycle v : Nat) (s : State) (xh : xe.covers [.dev, .auth, .frame, .fresh, .locked, .seqs, .log, .rdata, .time, .table, .fab, .quays, .lanes, .tiles, .exec, .sched, .tide, .pen, .mir, .boot, .cal, .port] [] = true) (xha : xe.all = true) :
    State.seen xe (wordWrite m a cycle v s) = State.seen xe s := by
  simp only [Extent.covers, List.all_cons, List.all_nil, Bool.and_true, Bool.true_and, Bool.and_eq_true] at xh
  have xhr : ∀ f, xe.r f = true := fun f => xe.r_of_all f xha
  unfold wordWrite
  simp [xh, xha, xhr]

@[simp] theorem regAccess_seen (xe : Extent) (m a v : Nat) (s : State) (xh : xe.covers [.dev, .auth, .frame, .fresh, .locked, .seqs, .log, .rdata, .time, .table, .fab, .quays, .lanes, .tiles, .exec, .sched, .tide, .pen, .mir, .boot, .cal, .port] [] = true) (xha : xe.all = true) :
    State.seen xe (regAccess m a v s) = State.seen xe s := by
  simp only [Extent.covers, List.all_cons, List.all_nil, Bool.and_true, Bool.true_and, Bool.and_eq_true] at xh
  have xhr : ∀ f, xe.r f = true := fun f => xe.r_of_all f xha
  unfold regAccess
  simp [xh, xha, xhr]

@[simp] theorem countBeats_seen (xe : Extent) (a n : Nat) (s : State) (xh : xe.covers [.port] [] = true) :
    State.seen xe (countBeats a n s) = State.seen xe s := by
  simp only [Extent.covers, List.all_cons, List.all_nil, Bool.and_true, Bool.true_and, Bool.and_eq_true] at xh
  unfold countBeats
  repeat' first
    | (extract_lets +onlyGivenNames x; refine have hx : State.seen xe x = State.seen xe s := ?_; ?_; (on_goal 1 => unfold x); (on_goal 2 => clear_value x))
    | (extract_lets +onlyGivenNames x; refine have hx : State.seen xe x.2 = State.seen xe s := ?_; ?_; (on_goal 1 => unfold x); (on_goal 2 => clear_value x))
    | (extract_lets +onlyGivenNames x; refine have hx : State.seen xe x.2.2 = State.seen xe s := ?_; ?_; (on_goal 1 => unfold x); (on_goal 2 => clear_value x))
    | (extract_lets +onlyGivenNames x; clear_value x)
    | (simp [*]; done)
    | (refine (foldl_seen xe _ _ _ ?_).trans ?_; (on_goal 1 => intro s a))
    | (refine (State.when_seen xe _ _ _ ?_).trans ?_; (on_goal 1 => intro s))
    | split
    | (simp_all; done)

@[simp] theorem burstIssue_seen (xe : Extent) (b : Burst) (g : Grant) (s : State) (xh : xe.covers [.port] [] = true) :
    State.seen xe (burstIssue b g s) = State.seen xe s := by
  simp only [Extent.covers, List.all_cons, List.all_nil, Bool.and_true, Bool.true_and, Bool.and_eq_true] at xh
  unfold burstIssue
  repeat' first
    | (extract_lets +onlyGivenNames x; refine have hx : State.seen xe x = State.seen xe s := ?_; ?_; (on_goal 1 => unfold x); (on_goal 2 => clear_value x))
    | (extract_lets +onlyGivenNames x; refine have hx : State.seen xe x.2 = State.seen xe s := ?_; ?_; (on_goal 1 => unfold x); (on_goal 2 => clear_value x))
    | (extract_lets +onlyGivenNames x; refine have hx : State.seen xe x.2.2 = State.seen xe s := ?_; ?_; (on_goal 1 => unfold x); (on_goal 2 => clear_value x))
    | (extract_lets +onlyGivenNames x; clear_value x)
    | (simp [*]; done)
    | (refine (foldl_seen xe _ _ _ ?_).trans ?_; (on_goal 1 => intro s a))
    | (refine (State.when_seen xe _ _ _ ?_).trans ?_; (on_goal 1 => intro s))
    | split
    | (simp_all; done)

@[simp] theorem burstTurns_seen (xe : Extent) (m : Nat) (l : List Claim) (s : State) (xh : xe.covers [.dev, .auth, .frame, .fresh, .locked, .seqs, .log, .rdata, .time, .table, .fab, .quays, .lanes, .tiles, .exec, .sched, .tide, .pen, .mir, .boot, .cal, .port] [] = true) (xha : xe.all = true) :
    State.seen xe (burstTurns m l s) = State.seen xe s := by
  simp only [Extent.covers, List.all_cons, List.all_nil, Bool.and_true, Bool.true_and, Bool.and_eq_true] at xh
  have xhr : ∀ f, xe.r f = true := fun f => xe.r_of_all f xha
  induction l generalizing s with
  | nil => rfl
  | cons c l ih =>
    unfold burstTurns
    split
    · rfl
    · split
      · simp [xh, xha, xhr]
      · extract_lets s1
        have h1 : State.seen xe s1 = State.seen xe s := by simp [s1, xh, xha, xhr]
        clear_value s1
        split
        · exact h1
        · split
          · rw [ih]; simp [h1, xh, xha, xhr]
          · simp [h1, xh, xha, xhr]

@[simp] theorem matrixBurst_seen (xe : Extent) (b : Burst) (g : Grant) (s : State) (xh : xe.covers [.dev, .auth, .frame, .fresh, .locked, .seqs, .log, .rdata, .time, .table, .fab, .quays, .lanes, .tiles, .exec, .sched, .tide, .pen, .mir, .boot, .cal, .port] [] = true) (xha : xe.all = true) :
    State.seen xe (matrixBurst b g s) = State.seen xe s := by
  simp only [Extent.covers, List.all_cons, List.all_nil, Bool.and_true, Bool.true_and, Bool.and_eq_true] at xh
  have xhr : ∀ f, xe.r f = true := fun f => xe.r_of_all f xha
  unfold matrixBurst
  split
  · rfl
  · extract_lets t cycle u v
    have ht : State.seen xe t = State.seen xe s := by simp [t, xh, xha, xhr]
    clear_value t
    have hu : State.seen xe u = State.seen xe s := by simp [u, ht, xh, xha, xhr]
    clear_value u
    have hv : State.seen xe v = State.seen xe s := by
      simp only [v]
      split
      · simp [hu, xh, xha, xhr]
      · exact hu
    clear_value v
    split
    · simp [hv, xh, xha, xhr]
    · exact hv

@[simp] theorem busSettle_seen (xe : Extent) (cycle : Nat) (s : State) (xh : xe.covers [.dev, .auth, .frame, .fresh, .locked, .seqs, .log, .rdata, .time, .table, .fab, .quays, .lanes, .tiles, .exec, .sched, .tide, .pen, .mir, .boot, .cal, .port] [] = true) (xha : xe.all = true) :
    State.seen xe (busSettle cycle s) = State.seen xe s := by
  simp only [Extent.covers, List.all_cons, List.all_nil, Bool.and_true, Bool.true_and, Bool.and_eq_true] at xh
  have xhr : ∀ f, xe.r f = true := fun f => xe.r_of_all f xha
  unfold busSettle
  refine (foldl_seen xe _ _ _ (fun s n => by simp [xh, xha, xhr])).trans ?_
  refine (foldl_seen xe _ _ _ (fun s n => by simp [xh, xha, xhr])).trans ?_
  simp [xh, xha, xhr]

@[simp] theorem craneFail_seen (xe : Extent) (c addr cause : Nat) (s : State) (xh : xe.covers [.seqs, .port] [F.CRN_CHCURc_ADDR, F.CRN_CHSTATc_ERR, F.CRN_CHSTATc_ERRCODE, F.CRN_ERRCNT, F.ICU_LOSTCNT, F.ICU_OVRw_SRC, F.ICU_PENDw_SRC] = true) :
    State.seen xe (craneFail c addr cause s) = State.seen xe s := by
  simp only [Extent.covers, List.all_cons, List.all_nil, Bool.and_true, Bool.true_and, Bool.and_eq_true] at xh
  unfold craneFail
  simp [xh]

@[simp] theorem descRead_seen (xe : Extent) (a cycle : Nat) (s : State) (xh : xe.covers [.dev, .auth, .frame, .fresh, .locked, .seqs, .log, .rdata, .time, .table, .fab, .quays, .lanes, .tiles, .exec, .sched, .tide, .pen, .mir, .boot, .cal, .port] [] = true) (xha : xe.all = true) :
    State.seen xe (descRead a cycle s).2 = State.seen xe s := by
  simp only [Extent.covers, List.all_cons, List.all_nil, Bool.and_true, Bool.true_and, Bool.and_eq_true] at xh
  have xhr : ∀ f, xe.r f = true := fun f => xe.r_of_all f xha
  unfold descRead
  repeat' first
    | (extract_lets +onlyGivenNames x; refine have hx : State.seen xe x = State.seen xe s := ?_; ?_; (on_goal 1 => unfold x); (on_goal 2 => clear_value x))
    | (extract_lets +onlyGivenNames x; refine have hx : State.seen xe x.2 = State.seen xe s := ?_; ?_; (on_goal 1 => unfold x); (on_goal 2 => clear_value x))
    | (extract_lets +onlyGivenNames x; refine have hx : State.seen xe x.2.2 = State.seen xe s := ?_; ?_; (on_goal 1 => unfold x); (on_goal 2 => clear_value x))
    | (extract_lets +onlyGivenNames x; clear_value x)
    | (simp [*]; done)
    | (refine (foldl_seen xe _ _ _ ?_).trans ?_; (on_goal 1 => intro s a))
    | (refine (State.when_seen xe _ _ _ ?_).trans ?_; (on_goal 1 => intro s))
    | split
    | (simp_all; done)

@[simp] theorem craneRead_seen (xe : Extent) (cycle : Nat) (l : List (Nat × Nat)) (s : State) (xh : xe.covers [.dev, .auth, .frame, .fresh, .locked, .seqs, .log, .rdata, .time, .table, .fab, .quays, .lanes, .tiles, .exec, .sched, .tide, .pen, .mir, .boot, .cal, .port] [] = true) (xha : xe.all = true) :
    State.seen xe (craneRead cycle l s).2 = State.seen xe s := by
  simp only [Extent.covers, List.all_cons, List.all_nil, Bool.and_true, Bool.true_and, Bool.and_eq_true] at xh
  have xhr : ∀ f, xe.r f = true := fun f => xe.r_of_all f xha
  unfold craneRead
  simp [xh, xha, xhr]

@[simp] theorem craneWrite_seen (xe : Extent) (at' : CraneAt) (l : List (Nat × List Byte)) (s : State) (xh : xe.covers [.dev, .auth, .frame, .fresh, .locked, .seqs, .log, .rdata, .time, .table, .fab, .quays, .lanes, .tiles, .exec, .sched, .tide, .pen, .mir, .boot, .cal, .port] [] = true) (xha : xe.all = true) :
    State.seen xe (craneWrite at' l s).2 = State.seen xe s := by
  simp only [Extent.covers, List.all_cons, List.all_nil, Bool.and_true, Bool.true_and, Bool.and_eq_true] at xh
  have xhr : ∀ f, xe.r f = true := fun f => xe.r_of_all f xha
  unfold craneWrite
  simp [xh, xha, xhr]

@[simp] theorem craneDone_seen (xe : Extent) (c : Nat) (d : CraneDesc) (s : State) (xh : xe.covers [.seqs, .port] [F.CRN_CHSTATc_DONE, F.CRN_XFERCNT, F.ICU_LOSTCNT, F.ICU_OVRw_SRC, F.ICU_PENDw_SRC] = true) :
    State.seen xe (craneDone c d s) = State.seen xe s := by
  simp only [Extent.covers, List.all_cons, List.all_nil, Bool.and_true, Bool.true_and, Bool.and_eq_true] at xh
  unfold craneDone
  simp [xh]

@[simp] theorem craneHave_seen (xe : Extent) (c a : Nat) (b : List Byte) (s : State) (xh : xe.covers [.seqs, .port] [F.CRN_CHCURc_ADDR, F.CRN_CHSTATc_DONE, F.CRN_CHSTATc_ERR, F.CRN_CHSTATc_ERRCODE, F.CRN_ERRCNT, F.CRN_XFERCNT, F.ICU_LOSTCNT, F.ICU_OVRw_SRC, F.ICU_PENDw_SRC] = true) :
    State.seen xe (craneHave c a b s).2 = State.seen xe s := by
  simp only [Extent.covers, List.all_cons, List.all_nil, Bool.and_true, Bool.true_and, Bool.and_eq_true] at xh
  unfold craneHave
  repeat' first
    | (extract_lets +onlyGivenNames x; refine have hx : State.seen xe x = State.seen xe s := ?_; ?_; (on_goal 1 => unfold x); (on_goal 2 => clear_value x))
    | (extract_lets +onlyGivenNames x; refine have hx : State.seen xe x.2 = State.seen xe s := ?_; ?_; (on_goal 1 => unfold x); (on_goal 2 => clear_value x))
    | (extract_lets +onlyGivenNames x; refine have hx : State.seen xe x.2.2 = State.seen xe s := ?_; ?_; (on_goal 1 => unfold x); (on_goal 2 => clear_value x))
    | (extract_lets +onlyGivenNames x; clear_value x)
    | (simp [*]; done)
    | (refine (foldl_seen xe _ _ _ ?_).trans ?_; (on_goal 1 => intro s a))
    | (refine (State.when_seen xe _ _ _ ?_).trans ?_; (on_goal 1 => intro s))
    | split
    | (simp_all; done)

@[simp] theorem craneWrote_seen (xe : Extent) (c : Nat) (d : CraneDesc) (was : State) (s : State) (xh : xe.covers [.seqs, .port] [F.CRN_CHSTATc_ABORTED, F.CRN_CHSTATc_DONE, F.CRN_XFERCNT, F.ICU_LOSTCNT, F.ICU_OVRw_SRC, F.ICU_PENDw_SRC] = true) :
    State.seen xe (craneWrote c d was s).2 = State.seen xe s := by
  simp only [Extent.covers, List.all_cons, List.all_nil, Bool.and_true, Bool.true_and, Bool.and_eq_true] at xh
  unfold craneWrote
  repeat' first
    | (extract_lets +onlyGivenNames x; refine have hx : State.seen xe x = State.seen xe s := ?_; ?_; (on_goal 1 => unfold x); (on_goal 2 => clear_value x))
    | (extract_lets +onlyGivenNames x; refine have hx : State.seen xe x.2 = State.seen xe s := ?_; ?_; (on_goal 1 => unfold x); (on_goal 2 => clear_value x))
    | (extract_lets +onlyGivenNames x; refine have hx : State.seen xe x.2.2 = State.seen xe s := ?_; ?_; (on_goal 1 => unfold x); (on_goal 2 => clear_value x))
    | (extract_lets +onlyGivenNames x; clear_value x)
    | (simp [*]; done)
    | (refine (foldl_seen xe _ _ _ ?_).trans ?_; (on_goal 1 => intro s a))
    | (refine (State.when_seen xe _ _ _ ?_).trans ?_; (on_goal 1 => intro s))
    | split
    | (simp_all; done)

@[simp] theorem craneStep_seen (xe : Extent) (c : Nat) (at' : CraneAt) (s : State) (xh : xe.covers [.dev, .auth, .frame, .fresh, .locked, .seqs, .log, .rdata, .time, .table, .fab, .quays, .lanes, .tiles, .exec, .sched, .tide, .pen, .mir, .boot, .cal, .port] [] = true) (xha : xe.all = true) :
    State.seen xe (craneStep c at' s).2 = State.seen xe s := by
  simp only [Extent.covers, List.all_cons, List.all_nil, Bool.and_true, Bool.true_and, Bool.and_eq_true] at xh
  have xhr : ∀ f, xe.r f = true := fun f => xe.r_of_all f xha
  unfold craneStep
  repeat' first
    | (extract_lets +onlyGivenNames x; refine have hx : State.seen xe x = State.seen xe s := ?_; ?_; (on_goal 1 => unfold x); (on_goal 2 => clear_value x))
    | (extract_lets +onlyGivenNames x; refine have hx : State.seen xe x.2 = State.seen xe s := ?_; ?_; (on_goal 1 => unfold x); (on_goal 2 => clear_value x))
    | (extract_lets +onlyGivenNames x; refine have hx : State.seen xe x.2.2 = State.seen xe s := ?_; ?_; (on_goal 1 => unfold x); (on_goal 2 => clear_value x))
    | (extract_lets +onlyGivenNames x; clear_value x)
    | (simp [*]; done)
    | (refine (foldl_seen xe _ _ _ ?_).trans ?_; (on_goal 1 => intro s a))
    | (refine (State.when_seen xe _ _ _ ?_).trans ?_; (on_goal 1 => intro s))
    | split
    | (simp_all; done)

@[simp] theorem craneShare_seen (xe : Extent) (c n : Nat) (a : CraneAt) (s : State) (xh : xe.covers [.dev, .auth, .frame, .fresh, .locked, .seqs, .log, .rdata, .time, .table, .fab, .quays, .lanes, .tiles, .exec, .sched, .tide, .pen, .mir, .boot, .cal, .port] [] = true) (xha : xe.all = true) :
    State.seen xe (craneShare c n a s).2 = State.seen xe s := by
  simp only [Extent.covers, List.all_cons, List.all_nil, Bool.and_true, Bool.true_and, Bool.and_eq_true] at xh
  have xhr : ∀ f, xe.r f = true := fun f => xe.r_of_all f xha
  induction n generalizing a s with
  | zero => rfl
  | succ n ih =>
    unfold craneShare
    split
    · rfl
    · split
      · rfl
      · split
        · rfl
        · extract_lets len r
          have hr : State.seen xe r.2 = State.seen xe s := by simp [r, xh, xha, xhr]
          clear_value r
          split
          · split
            · exact hr
            · rw [ih]; exact hr
          · split
            · exact hr
            · rw [ih]; exact hr
          · rw [ih]; exact hr

@[simp] theorem craneComplete_seen (xe : Extent) (c : Nat) (at' : CraneAt) (s : State) (xh : xe.covers [.dev, .auth, .frame, .fresh, .locked, .seqs, .log, .rdata, .time, .table, .fab, .quays, .lanes, .tiles, .exec, .sched, .tide, .pen, .mir, .boot, .cal, .port] [] = true) (xha : xe.all = true) :
    State.seen xe (craneComplete c at' s) = State.seen xe s := by
  simp only [Extent.covers, List.all_cons, List.all_nil, Bool.and_true, Bool.true_and, Bool.and_eq_true] at xh
  have xhr : ∀ f, xe.r f = true := fun f => xe.r_of_all f xha
  unfold craneComplete
  have h := craneShare_seen xe c craneFuel at' s (by simp [xh, xha, xhr]) (by simp [xh, xha, xhr])
  split
  · simp_all
  · simp_all

@[simp] theorem craneError_seen (xe : Extent) (c : Nat) (at' : CraneAt) (s : State) (xh : xe.covers [.dev, .auth, .frame, .fresh, .locked, .seqs, .log, .rdata, .time, .table, .fab, .quays, .lanes, .tiles, .exec, .sched, .tide, .pen, .mir, .boot, .cal, .port] [] = true) (xha : xe.all = true) :
    State.seen xe (craneError c at' s) = State.seen xe s := by
  simp only [Extent.covers, List.all_cons, List.all_nil, Bool.and_true, Bool.true_and, Bool.and_eq_true] at xh
  have xhr : ∀ f, xe.r f = true := fun f => xe.r_of_all f xha
  unfold craneError
  have h := craneShare_seen xe c craneFuel at' s (by simp [xh, xha, xhr]) (by simp [xh, xha, xhr])
  split
  · simp_all
  · simp_all

@[simp] theorem craneResume_seen (xe : Extent) (c : Nat) (at' : CraneAt) (s : State) (xh : xe.covers [.dev, .auth, .frame, .fresh, .locked, .seqs, .log, .rdata, .time, .table, .fab, .quays, .lanes, .tiles, .exec, .sched, .tide, .pen, .mir, .boot, .cal, .port] [] = true) (xha : xe.all = true) :
    State.seen xe (craneResume c at' s) = State.seen xe s := by
  simp only [Extent.covers, List.all_cons, List.all_nil, Bool.and_true, Bool.true_and, Bool.and_eq_true] at xh
  have xhr : ∀ f, xe.r f = true := fun f => xe.r_of_all f xha
  unfold craneResume
  simp [xh, xha, xhr]

@[simp] theorem craneCut_seen (xe : Extent) (c : Nat) (at' : CraneAt) (s : State) (xh : xe.covers [.dev, .auth, .frame, .fresh, .locked, .seqs, .log, .rdata, .time, .table, .fab, .quays, .lanes, .tiles, .exec, .sched, .tide, .pen, .mir, .boot, .cal, .port] [] = true) (xha : xe.all = true) :
    State.seen xe (craneCut c at' s) = State.seen xe s := by
  simp only [Extent.covers, List.all_cons, List.all_nil, Bool.and_true, Bool.true_and, Bool.and_eq_true] at xh
  have xhr : ∀ f, xe.r f = true := fun f => xe.r_of_all f xha
  unfold craneCut
  repeat' first
    | (extract_lets +onlyGivenNames x; refine have hx : State.seen xe x = State.seen xe s := ?_; ?_; (on_goal 1 => unfold x); (on_goal 2 => clear_value x))
    | (extract_lets +onlyGivenNames x; refine have hx : State.seen xe x.2 = State.seen xe s := ?_; ?_; (on_goal 1 => unfold x); (on_goal 2 => clear_value x))
    | (extract_lets +onlyGivenNames x; refine have hx : State.seen xe x.2.2 = State.seen xe s := ?_; ?_; (on_goal 1 => unfold x); (on_goal 2 => clear_value x))
    | (extract_lets +onlyGivenNames x; clear_value x)
    | (simp [*]; done)
    | (refine (foldl_seen xe _ _ _ ?_).trans ?_; (on_goal 1 => intro s a))
    | (refine (State.when_seen xe _ _ _ ?_).trans ?_; (on_goal 1 => intro s))
    | split
    | (simp_all; done)

@[simp] theorem craneAbortIn_seen (xe : Extent) (c : Nat) (at' : CraneAt) (s : State) (xh : xe.covers [.dev, .auth, .frame, .fresh, .locked, .seqs, .log, .rdata, .time, .table, .fab, .quays, .lanes, .tiles, .exec, .sched, .tide, .pen, .mir, .boot, .cal, .port] [] = true) (xha : xe.all = true) :
    State.seen xe (craneAbortIn c at' s) = State.seen xe s := by
  simp only [Extent.covers, List.all_cons, List.all_nil, Bool.and_true, Bool.true_and, Bool.and_eq_true] at xh
  have xhr : ∀ f, xe.r f = true := fun f => xe.r_of_all f xha
  unfold craneAbortIn
  simp [xh, xha, xhr]

@[simp] theorem xspGet_seen (xe : Extent) (a n cycle : Nat) (s : State) (xh : xe.covers [.seqs, .log, .fab, .port] [F.DBG_FLTSTAT_CLASS, F.ICU_LOSTCNT, F.ICU_OVRw_SRC, F.ICU_PENDw_SRC, F.MTX_ECCCOR, F.MTX_ECCUNC, F.MTX_ERRADDR_ADDR, F.MTX_ERRCNT, F.MTX_ERRSTAT_CAUSE, F.MTX_ERRSTAT_MASTER, F.MTX_ERRSTAT_OVR, F.MTX_ERRSTAT_VALID, F.MTX_ERRSTAT_WRITE, F.SYS_ERRSTAT_ALIGN] = true) :
    State.seen xe (xspGet a n cycle s).2 = State.seen xe s := by
  simp only [Extent.covers, List.all_cons, List.all_nil, Bool.and_true, Bool.true_and, Bool.and_eq_true] at xh
  unfold xspGet
  repeat' first
    | (extract_lets +onlyGivenNames x; refine have hx : State.seen xe x = State.seen xe s := ?_; ?_; (on_goal 1 => unfold x); (on_goal 2 => clear_value x))
    | (extract_lets +onlyGivenNames x; refine have hx : State.seen xe x.2 = State.seen xe s := ?_; ?_; (on_goal 1 => unfold x); (on_goal 2 => clear_value x))
    | (extract_lets +onlyGivenNames x; refine have hx : State.seen xe x.2.2 = State.seen xe s := ?_; ?_; (on_goal 1 => unfold x); (on_goal 2 => clear_value x))
    | (extract_lets +onlyGivenNames x; clear_value x)
    | (simp [*]; done)
    | (refine (foldl_seen xe _ _ _ ?_).trans ?_; (on_goal 1 => intro s a))
    | (refine (State.when_seen xe _ _ _ ?_).trans ?_; (on_goal 1 => intro s))
    | split
    | (simp_all; done)

@[simp] theorem xspPut_seen (xe : Extent) (a cycle : Nat) (bytes : List Byte) (s : State) (xh : xe.covers [.seqs, .log, .table, .fab, .exec, .port] [F.DBG_FLTSTAT_CLASS, F.ICU_LOSTCNT, F.ICU_OVRw_SRC, F.ICU_PENDw_SRC, F.MOR_CWLAST_ENGINE, F.MOR_CWLAST_OFFSET, F.MOR_STAT_CWERR, F.MTX_ECCUNC, F.MTX_ERRADDR_ADDR, F.MTX_ERRCNT, F.MTX_ERRSTAT_CAUSE, F.MTX_ERRSTAT_MASTER, F.MTX_ERRSTAT_OVR, F.MTX_ERRSTAT_VALID, F.MTX_ERRSTAT_WRITE, F.SYS_ERRSTAT_ALIGN] = true) :
    State.seen xe (xspPut a cycle bytes s).2 = State.seen xe s := by
  simp only [Extent.covers, List.all_cons, List.all_nil, Bool.and_true, Bool.true_and, Bool.and_eq_true] at xh
  unfold xspPut
  repeat' first
    | (extract_lets +onlyGivenNames x; refine have hx : State.seen xe x = State.seen xe s := ?_; ?_; (on_goal 1 => unfold x); (on_goal 2 => clear_value x))
    | (extract_lets +onlyGivenNames x; refine have hx : State.seen xe x.2 = State.seen xe s := ?_; ?_; (on_goal 1 => unfold x); (on_goal 2 => clear_value x))
    | (extract_lets +onlyGivenNames x; refine have hx : State.seen xe x.2.2 = State.seen xe s := ?_; ?_; (on_goal 1 => unfold x); (on_goal 2 => clear_value x))
    | (extract_lets +onlyGivenNames x; clear_value x)
    | (simp [*]; done)
    | (refine (foldl_seen xe _ _ _ ?_).trans ?_; (on_goal 1 => intro s a))
    | (refine (State.when_seen xe _ _ _ ?_).trans ?_; (on_goal 1 => intro s))
    | split
    | (simp_all; done)

@[simp] theorem xspDrop_seen (xe : Extent) (a n cycle : Nat) (s : State) (xh : xe.covers [.fab] [F.MTX_ECCCOR] = true) :
    State.seen xe (xspDrop a n cycle s) = State.seen xe s := by
  simp only [Extent.covers, List.all_cons, List.all_nil, Bool.and_true, Bool.true_and, Bool.and_eq_true] at xh
  unfold xspDrop
  simp [xh]

theorem foldl_snd_seen {α β : Type} (xe : Extent) (f : β × State → α → β × State) (l : List α) (r : β × State)
    (hf : ∀ r a, State.seen xe (f r a).2 = State.seen xe r.2) : State.seen xe (l.foldl f r).2 = State.seen xe r.2 := by
  induction l generalizing r with
  | nil => rfl
  | cons a l ih => rw [List.foldl_cons, ih, hf]

@[simp] theorem xspLoad_seen (xe : Extent) (a n : Nat) (s : State) (xh : xe.covers [.seqs, .log, .fab, .port] [F.DBG_FLTSTAT_CLASS, F.ICU_LOSTCNT, F.ICU_OVRw_SRC, F.ICU_PENDw_SRC, F.MTX_ECCCOR, F.MTX_ECCUNC, F.MTX_ERRADDR_ADDR, F.MTX_ERRCNT, F.MTX_ERRSTAT_CAUSE, F.MTX_ERRSTAT_MASTER, F.MTX_ERRSTAT_OVR, F.MTX_ERRSTAT_VALID, F.MTX_ERRSTAT_WRITE, F.MTX_RSTCNT, F.SYS_ERRSTAT_ALIGN] = true) :
    State.seen xe (xspLoad a n s).2 = State.seen xe s := by
  simp only [Extent.covers, List.all_cons, List.all_nil, Bool.and_true, Bool.true_and, Bool.and_eq_true] at xh
  unfold xspLoad
  exact foldl_snd_seen xe _ _ _ (fun r l => by simp [xh])

@[simp] theorem xspStore_seen (xe : Extent) (a : Nat) (bytes : List Byte) (s : State) (xh : xe.covers [.seqs, .log, .table, .fab, .exec, .port] [F.DBG_FLTSTAT_CLASS, F.ICU_LOSTCNT, F.ICU_OVRw_SRC, F.ICU_PENDw_SRC, F.MOR_CWLAST_ENGINE, F.MOR_CWLAST_OFFSET, F.MOR_STAT_CWERR, F.MTX_ECCUNC, F.MTX_ERRADDR_ADDR, F.MTX_ERRCNT, F.MTX_ERRSTAT_CAUSE, F.MTX_ERRSTAT_MASTER, F.MTX_ERRSTAT_OVR, F.MTX_ERRSTAT_VALID, F.MTX_ERRSTAT_WRITE, F.MTX_RSTCNT, F.SYS_ERRSTAT_ALIGN] = true) :
    State.seen xe (xspStore a bytes s) = State.seen xe s := by
  simp only [Extent.covers, List.all_cons, List.all_nil, Bool.and_true, Bool.true_and, Bool.and_eq_true] at xh
  unfold xspStore
  exact foldl_snd_seen xe _ _ _ (fun r l => by simp [xh])

@[simp] theorem opData_seen (xe : Extent) (o : FlashOp) (s : State) (xh : xe.covers [.seqs, .log, .fab, .port] [F.DBG_FLTSTAT_CLASS, F.ICU_LOSTCNT, F.ICU_OVRw_SRC, F.ICU_PENDw_SRC, F.MTX_ECCCOR, F.MTX_ECCUNC, F.MTX_ERRADDR_ADDR, F.MTX_ERRCNT, F.MTX_ERRSTAT_CAUSE, F.MTX_ERRSTAT_MASTER, F.MTX_ERRSTAT_OVR, F.MTX_ERRSTAT_VALID, F.MTX_ERRSTAT_WRITE, F.MTX_RSTCNT, F.SYS_ERRSTAT_ALIGN] = true) :
    State.seen xe (opData o s).2 = State.seen xe s := by
  simp only [Extent.covers, List.all_cons, List.all_nil, Bool.and_true, Bool.true_and, Bool.and_eq_true] at xh
  unfold opData
  repeat' first
    | (extract_lets +onlyGivenNames x; refine have hx : State.seen xe x = State.seen xe s := ?_; ?_; (on_goal 1 => unfold x); (on_goal 2 => clear_value x))
    | (extract_lets +onlyGivenNames x; refine have hx : State.seen xe x.2 = State.seen xe s := ?_; ?_; (on_goal 1 => unfold x); (on_goal 2 => clear_value x))
    | (extract_lets +onlyGivenNames x; refine have hx : State.seen xe x.2.2 = State.seen xe s := ?_; ?_; (on_goal 1 => unfold x); (on_goal 2 => clear_value x))
    | (extract_lets +onlyGivenNames x; clear_value x)
    | (simp [*]; done)
    | (refine (foldl_seen xe _ _ _ ?_).trans ?_; (on_goal 1 => intro s a))
    | (refine (State.when_seen xe _ _ _ ?_).trans ?_; (on_goal 1 => intro s))
    | split
    | (simp_all; done)

@[simp] theorem flashEffect_seen (xe : Extent) (o : FlashOp) (s : State) (xh : xe.covers [.seqs, .log, .table, .fab, .exec, .boot, .port] [F.DBG_FLTSTAT_CLASS, F.ICU_LOSTCNT, F.ICU_OVRw_SRC, F.ICU_PENDw_SRC, F.MOR_CWLAST_ENGINE, F.MOR_CWLAST_OFFSET, F.MOR_STAT_CWERR, F.MTX_ECCCOR, F.MTX_ECCUNC, F.MTX_ERRADDR_ADDR, F.MTX_ERRCNT, F.MTX_ERRSTAT_CAUSE, F.MTX_ERRSTAT_MASTER, F.MTX_ERRSTAT_OVR, F.MTX_ERRSTAT_VALID, F.MTX_ERRSTAT_WRITE, F.MTX_RSTCNT, F.SYS_ERRSTAT_ALIGN] = true) :
    State.seen xe (flashEffect o s) = State.seen xe s := by
  simp only [Extent.covers, List.all_cons, List.all_nil, Bool.and_true, Bool.true_and, Bool.and_eq_true] at xh
  unfold flashEffect
  repeat' first
    | (extract_lets +onlyGivenNames x; refine have hx : State.seen xe x = State.seen xe s := ?_; ?_; (on_goal 1 => unfold x); (on_goal 2 => clear_value x))
    | (extract_lets +onlyGivenNames x; refine have hx : State.seen xe x.2 = State.seen xe s := ?_; ?_; (on_goal 1 => unfold x); (on_goal 2 => clear_value x))
    | (extract_lets +onlyGivenNames x; refine have hx : State.seen xe x.2.2 = State.seen xe s := ?_; ?_; (on_goal 1 => unfold x); (on_goal 2 => clear_value x))
    | (extract_lets +onlyGivenNames x; clear_value x)
    | (simp [*]; done)
    | (refine (foldl_seen xe _ _ _ ?_).trans ?_; (on_goal 1 => intro s a))
    | (refine (State.when_seen xe _ _ _ ?_).trans ?_; (on_goal 1 => intro s))
    | split
    | (simp_all; done)

@[simp] theorem flashDone_seen (xe : Extent) (s : State) (xh : xe.covers [.seqs, .log, .table, .fab, .exec, .boot, .port] [F.DBG_FLTSTAT_CLASS, F.ICU_LOSTCNT, F.ICU_OVRw_SRC, F.ICU_PENDw_SRC, F.MOR_CWLAST_ENGINE, F.MOR_CWLAST_OFFSET, F.MOR_STAT_CWERR, F.MTX_ECCCOR, F.MTX_ECCUNC, F.MTX_ERRADDR_ADDR, F.MTX_ERRCNT, F.MTX_ERRSTAT_CAUSE, F.MTX_ERRSTAT_MASTER, F.MTX_ERRSTAT_OVR, F.MTX_ERRSTAT_VALID, F.MTX_ERRSTAT_WRITE, F.MTX_RSTCNT, F.SYS_ERRSTAT_ALIGN, F.TMP_STAT_WRHOLD, F.TMP_WRREF, F.XSP_OPCNT, F.XSP_OPSTAT_DONE] = true) :
    State.seen xe (flashDone s) = State.seen xe s := by
  simp only [Extent.covers, List.all_cons, List.all_nil, Bool.and_true, Bool.true_and, Bool.and_eq_true] at xh
  unfold flashDone
  repeat' first
    | (extract_lets +onlyGivenNames x; refine have hx : State.seen xe x = State.seen xe s := ?_; ?_; (on_goal 1 => unfold x); (on_goal 2 => clear_value x))
    | (extract_lets +onlyGivenNames x; refine have hx : State.seen xe x.2 = State.seen xe s := ?_; ?_; (on_goal 1 => unfold x); (on_goal 2 => clear_value x))
    | (extract_lets +onlyGivenNames x; refine have hx : State.seen xe x.2.2 = State.seen xe s := ?_; ?_; (on_goal 1 => unfold x); (on_goal 2 => clear_value x))
    | (extract_lets +onlyGivenNames x; clear_value x)
    | (simp [*]; done)
    | (refine (foldl_seen xe _ _ _ ?_).trans ?_; (on_goal 1 => intro s a))
    | (refine (State.when_seen xe _ _ _ ?_).trans ?_; (on_goal 1 => intro s))
    | split
    | (simp_all; done)

@[simp] theorem smbRead_seen (xe : Extent) (c : SmbRead) (s : State) (xh : xe.covers [.dev, .auth, .frame, .fresh, .locked, .seqs, .log, .rdata, .time, .table, .fab, .quays, .lanes, .tiles, .exec, .sched, .tide, .pen, .mir, .boot, .cal, .port] [] = true) (xha : xe.all = true) :
    State.seen xe (smbRead c s) = State.seen xe s := by
  simp only [Extent.covers, List.all_cons, List.all_nil, Bool.and_true, Bool.true_and, Bool.and_eq_true] at xh
  have xhr : ∀ f, xe.r f = true := fun f => xe.r_of_all f xha
  unfold smbRead
  simp [xh, xha, xhr]

@[simp] theorem smbWrite_seen (xe : Extent) (bytes : List Byte) (c : SmbCall) (cycle : Nat) (s : State) (xh : xe.covers [.dev, .auth, .frame, .fresh, .locked, .seqs, .log, .rdata, .time, .table, .fab, .quays, .lanes, .tiles, .exec, .sched, .tide, .pen, .mir, .boot, .cal, .port] [] = true) (xha : xe.all = true) :
    State.seen xe (smbWrite bytes c cycle s) = State.seen xe s := by
  simp only [Extent.covers, List.all_cons, List.all_nil, Bool.and_true, Bool.true_and, Bool.and_eq_true] at xh
  have xhr : ∀ f, xe.r f = true := fun f => xe.r_of_all f xha
  unfold smbWrite
  simp [xh, xha, xhr]

@[simp] theorem macShow_seen (xe : Extent) (st a d : Nat) (s : State) (xh : xe.covers [.port] [] = true) :
    State.seen xe (macShow st a d s) = State.seen xe s := by
  simp only [Extent.covers, List.all_cons, List.all_nil, Bool.and_true, Bool.true_and, Bool.and_eq_true] at xh
  unfold macShow
  simp [xh]

@[simp] theorem macDo_seen (xe : Extent) (op a v cycle : Nat) (s : State) (xh : xe.covers [.dev, .auth, .frame, .fresh, .locked, .seqs, .log, .rdata, .time, .table, .fab, .quays, .lanes, .tiles, .exec, .sched, .tide, .pen, .mir, .boot, .cal, .port] [] = true) (xha : xe.all = true) :
    State.seen xe (macDo op a v cycle s) = State.seen xe s := by
  simp only [Extent.covers, List.all_cons, List.all_nil, Bool.and_true, Bool.true_and, Bool.and_eq_true] at xh
  have xhr : ∀ f, xe.r f = true := fun f => xe.r_of_all f xha
  unfold macDo
  simp [xh, xha, xhr]

@[simp] theorem memacc_seen (xe : Extent) (op a v cycle : Nat) (s : State) (xh : xe.covers [.dev, .auth, .frame, .fresh, .locked, .seqs, .log, .rdata, .time, .table, .fab, .quays, .lanes, .tiles, .exec, .sched, .tide, .pen, .mir, .boot, .cal, .port] [] = true) (xha : xe.all = true) :
    State.seen xe (memacc op a v cycle s) = State.seen xe s := by
  simp only [Extent.covers, List.all_cons, List.all_nil, Bool.and_true, Bool.true_and, Bool.and_eq_true] at xh
  have xhr : ∀ f, xe.r f = true := fun f => xe.r_of_all f xha
  unfold memacc
  simp [xh, xha, xhr]

@[simp] theorem macResume_seen (xe : Extent) (s : State) (xh : xe.covers [.dev, .auth, .frame, .fresh, .locked, .seqs, .log, .rdata, .time, .table, .fab, .quays, .lanes, .tiles, .exec, .sched, .tide, .pen, .mir, .boot, .cal, .port] [] = true) (xha : xe.all = true) :
    State.seen xe (macResume s) = State.seen xe s := by
  simp only [Extent.covers, List.all_cons, List.all_nil, Bool.and_true, Bool.true_and, Bool.and_eq_true] at xh
  have xhr : ∀ f, xe.r f = true := fun f => xe.r_of_all f xha
  unfold macResume
  repeat' first
    | (extract_lets +onlyGivenNames x; refine have hx : State.seen xe x = State.seen xe s := ?_; ?_; (on_goal 1 => unfold x); (on_goal 2 => clear_value x))
    | (extract_lets +onlyGivenNames x; refine have hx : State.seen xe x.2 = State.seen xe s := ?_; ?_; (on_goal 1 => unfold x); (on_goal 2 => clear_value x))
    | (extract_lets +onlyGivenNames x; refine have hx : State.seen xe x.2.2 = State.seen xe s := ?_; ?_; (on_goal 1 => unfold x); (on_goal 2 => clear_value x))
    | (extract_lets +onlyGivenNames x; clear_value x)
    | (simp [*]; done)
    | (refine (foldl_seen xe _ _ _ ?_).trans ?_; (on_goal 1 => intro s a))
    | (refine (State.when_seen xe _ _ _ ?_).trans ?_; (on_goal 1 => intro s))
    | split
    | (simp_all; done)

@[simp] theorem State.modSq_seen (xe : Extent) (s : State) (n : Nat) (f : Seq → Seq) (xh : xe.covers [.seqs] [] = true) :
    State.seen xe (State.modSq s n f) = State.seen xe s := by
  simp only [Extent.covers, List.all_cons, List.all_nil, Bool.and_true, Bool.true_and, Bool.and_eq_true] at xh
  unfold State.modSq
  simp [xh]

@[simp] theorem seqEnd_seen (xe : Extent) (n pc cycles : Nat) (s : State) (xh : xe.covers [.seqs] [] = true) :
    State.seen xe (seqEnd n pc cycles s) = State.seen xe s := by
  simp only [Extent.covers, List.all_cons, List.all_nil, Bool.and_true, Bool.true_and, Bool.and_eq_true] at xh
  unfold seqEnd
  simp [xh]

@[simp] theorem seqBusy_seen (xe : Extent) (n : Nat) (s : State) (xh : xe.covers [.seqs] [] = true) :
    State.seen xe (seqBusy n s) = State.seen xe s := by
  simp only [Extent.covers, List.all_cons, List.all_nil, Bool.and_true, Bool.true_and, Bool.and_eq_true] at xh
  unfold seqBusy
  simp [xh]

@[simp] theorem seqIdle_seen (xe : Extent) (n : Nat) (s : State) (xh : xe.covers [.seqs] [] = true) :
    State.seen xe (seqIdle n s) = State.seen xe s := by
  simp only [Extent.covers, List.all_cons, List.all_nil, Bool.and_true, Bool.true_and, Bool.and_eq_true] at xh
  unfold seqIdle
  simp [xh]

@[simp] theorem seqNext_seen (xe : Extent) (n cycles : Nat) (s : State) (xh : xe.covers [.seqs] [] = true) :
    State.seen xe (seqNext n cycles s) = State.seen xe s := by
  simp only [Extent.covers, List.all_cons, List.all_nil, Bool.and_true, Bool.true_and, Bool.and_eq_true] at xh
  unfold seqNext
  simp [xh]

@[simp] theorem setReg_seen (xe : Extent) (n r v : Nat) (s : State) (xh : xe.covers [.seqs] [] = true) :
    State.seen xe (setReg n r v s) = State.seen xe s := by
  simp only [Extent.covers, List.all_cons, List.all_nil, Bool.and_true, Bool.true_and, Bool.and_eq_true] at xh
  unfold setReg
  simp [xh]

@[simp] theorem seqR_seen (xe : Extent) (n o cycles : Nat) (f : Nat → Nat → Nat) (s : State) (xh : xe.covers [.seqs] [] = true) :
    State.seen xe (seqR n o cycles f s) = State.seen xe s := by
  simp only [Extent.covers, List.all_cons, List.all_nil, Bool.and_true, Bool.true_and, Bool.and_eq_true] at xh
  unfold seqR
  simp [xh]

@[simp] theorem seqI_seen (xe : Extent) (n o : Nat) (f : Nat → Nat → Nat) (s : State) (xh : xe.covers [.seqs] [] = true) :
    State.seen xe (seqI n o f s) = State.seen xe s := by
  simp only [Extent.covers, List.all_cons, List.all_nil, Bool.and_true, Bool.true_and, Bool.and_eq_true] at xh
  unfold seqI
  simp [xh]

@[simp] theorem seqB_seen (xe : Extent) (n o : Nat) (cond : Nat → Nat → Bool) (s : State) (xh : xe.covers [.seqs] [] = true) :
    State.seen xe (seqB n o cond s) = State.seen xe s := by
  simp only [Extent.covers, List.all_cons, List.all_nil, Bool.and_true, Bool.true_and, Bool.and_eq_true] at xh
  unfold seqB
  simp [xh]

@[simp] theorem seqCall_seen (xe : Extent) (n : Nat) (s : State) (xh : xe.covers [.seqs] [] = true) :
    State.seen xe (seqCall n s) = State.seen xe s := by
  simp only [Extent.covers, List.all_cons, List.all_nil, Bool.and_true, Bool.true_and, Bool.and_eq_true] at xh
  unfold seqCall
  simp [xh]

@[simp] theorem matrixLoad_seen (xe : Extent) (n a cycle : Nat) (s : State) (xh : xe.covers [.dev, .auth, .frame, .fresh, .locked, .seqs, .log, .rdata, .time, .table, .fab, .quays, .lanes, .tiles, .exec, .sched, .tide, .pen, .mir, .boot, .cal, .port] [] = true) (xha : xe.all = true) :
    State.seen xe (matrixLoad n a cycle s).2 = State.seen xe s := by
  simp only [Extent.covers, List.all_cons, List.all_nil, Bool.and_true, Bool.true_and, Bool.and_eq_true] at xh
  have xhr : ∀ f, xe.r f = true := fun f => xe.r_of_all f xha
  unfold matrixLoad
  repeat' first
    | (extract_lets +onlyGivenNames x; refine have hx : State.seen xe x = State.seen xe s := ?_; ?_; (on_goal 1 => unfold x); (on_goal 2 => clear_value x))
    | (extract_lets +onlyGivenNames x; refine have hx : State.seen xe x.2 = State.seen xe s := ?_; ?_; (on_goal 1 => unfold x); (on_goal 2 => clear_value x))
    | (extract_lets +onlyGivenNames x; refine have hx : State.seen xe x.2.2 = State.seen xe s := ?_; ?_; (on_goal 1 => unfold x); (on_goal 2 => clear_value x))
    | (extract_lets +onlyGivenNames x; clear_value x)
    | (simp [*]; done)
    | (refine (foldl_seen xe _ _ _ ?_).trans ?_; (on_goal 1 => intro s a))
    | (refine (State.when_seen xe _ _ _ ?_).trans ?_; (on_goal 1 => intro s))
    | split
    | (simp_all; done)

@[simp] theorem seqLd_seen (xe : Extent) (n cycle wait : Nat) (s : State) (xh : xe.covers [.dev, .auth, .frame, .fresh, .locked, .seqs, .log, .rdata, .time, .table, .fab, .quays, .lanes, .tiles, .exec, .sched, .tide, .pen, .mir, .boot, .cal, .port] [] = true) (xha : xe.all = true) :
    State.seen xe (seqLd n cycle wait s) = State.seen xe s := by
  simp only [Extent.covers, List.all_cons, List.all_nil, Bool.and_true, Bool.true_and, Bool.and_eq_true] at xh
  have xhr : ∀ f, xe.r f = true := fun f => xe.r_of_all f xha
  unfold seqLd
  repeat' first
    | (extract_lets +onlyGivenNames x; refine have hx : State.seen xe x = State.seen xe s := ?_; ?_; (on_goal 1 => unfold x); (on_goal 2 => clear_value x))
    | (extract_lets +onlyGivenNames x; refine have hx : State.seen xe x.2 = State.seen xe s := ?_; ?_; (on_goal 1 => unfold x); (on_goal 2 => clear_value x))
    | (extract_lets +onlyGivenNames x; refine have hx : State.seen xe x.2.2 = State.seen xe s := ?_; ?_; (on_goal 1 => unfold x); (on_goal 2 => clear_value x))
    | (extract_lets +onlyGivenNames x; clear_value x)
    | (simp [*]; done)
    | (refine (foldl_seen xe _ _ _ ?_).trans ?_; (on_goal 1 => intro s a))
    | (refine (State.when_seen xe _ _ _ ?_).trans ?_; (on_goal 1 => intro s))
    | split
    | (simp_all; done)

@[simp] theorem seqSt_seen (xe : Extent) (n cycle wait : Nat) (s : State) (xh : xe.covers [.dev, .auth, .frame, .fresh, .locked, .seqs, .log, .rdata, .time, .table, .fab, .quays, .lanes, .tiles, .exec, .sched, .tide, .pen, .mir, .boot, .cal, .port] [] = true) (xha : xe.all = true) :
    State.seen xe (seqSt n cycle wait s) = State.seen xe s := by
  simp only [Extent.covers, List.all_cons, List.all_nil, Bool.and_true, Bool.true_and, Bool.and_eq_true] at xh
  have xhr : ∀ f, xe.r f = true := fun f => xe.r_of_all f xha
  unfold seqSt
  repeat' first
    | (extract_lets +onlyGivenNames x; refine have hx : State.seen xe x = State.seen xe s := ?_; ?_; (on_goal 1 => unfold x); (on_goal 2 => clear_value x))
    | (extract_lets +onlyGivenNames x; refine have hx : State.seen xe x.2 = State.seen xe s := ?_; ?_; (on_goal 1 => unfold x); (on_goal 2 => clear_value x))
    | (extract_lets +onlyGivenNames x; refine have hx : State.seen xe x.2.2 = State.seen xe s := ?_; ?_; (on_goal 1 => unfold x); (on_goal 2 => clear_value x))
    | (extract_lets +onlyGivenNames x; clear_value x)
    | (simp [*]; done)
    | (refine (foldl_seen xe _ _ _ ?_).trans ?_; (on_goal 1 => intro s a))
    | (refine (State.when_seen xe _ _ _ ?_).trans ?_; (on_goal 1 => intro s))
    | split
    | (simp_all; done)

@[simp] theorem seqAfterStores_seen (xe : Extent) (n o cycle wait : Nat) (f : State → State) (s : State) (xh : xe.covers [.dev, .auth, .frame, .fresh, .locked, .seqs, .log, .rdata, .time, .table, .fab, .quays, .lanes, .tiles, .exec, .sched, .tide, .pen, .mir, .boot, .cal, .port] [] = true) (xha : xe.all = true) (xhf : ∀ s, State.seen xe (f s) = State.seen xe s) :
    State.seen xe (seqAfterStores n o cycle wait f s) = State.seen xe s := by
  simp only [Extent.covers, List.all_cons, List.all_nil, Bool.and_true, Bool.true_and, Bool.and_eq_true] at xh
  have xhr : ∀ f, xe.r f = true := fun f => xe.r_of_all f xha
  unfold seqAfterStores
  split
  · extract_lets t
    have ht : State.seen xe t = State.seen xe s := by simp [t, xh, xha, xhf, xhr]
    clear_value t
    split
    · simp [ht, xh, xha, xhf, xhr]
    · exact ht
  · rfl

@[simp] theorem sysRegWrite_seen (xe : Extent) (n r v : Nat) (s : State) (xh : xe.covers [.seqs] [] = true) :
    State.seen xe (sysRegWrite n r v s) = State.seen xe s := by
  simp only [Extent.covers, List.all_cons, List.all_nil, Bool.and_true, Bool.true_and, Bool.and_eq_true] at xh
  unfold sysRegWrite
  repeat' first
    | (extract_lets +onlyGivenNames x; refine have hx : State.seen xe x = State.seen xe s := ?_; ?_; (on_goal 1 => unfold x); (on_goal 2 => clear_value x))
    | (extract_lets +onlyGivenNames x; refine have hx : State.seen xe x.2 = State.seen xe s := ?_; ?_; (on_goal 1 => unfold x); (on_goal 2 => clear_value x))
    | (extract_lets +onlyGivenNames x; refine have hx : State.seen xe x.2.2 = State.seen xe s := ?_; ?_; (on_goal 1 => unfold x); (on_goal 2 => clear_value x))
    | (extract_lets +onlyGivenNames x; clear_value x)
    | (simp [*]; done)
    | (refine (foldl_seen xe _ _ _ ?_).trans ?_; (on_goal 1 => intro s a))
    | (refine (State.when_seen xe _ _ _ ?_).trans ?_; (on_goal 1 => intro s))
    | split
    | (simp_all; done)

@[simp] theorem seqIllegal_seen (xe : Extent) (n : Nat) (s : State) (xh : xe.covers [.seqs, .log, .port] [F.DBG_FLTSTAT_CLASS, F.ICU_LOSTCNT, F.ICU_OVRw_SRC, F.ICU_PENDw_SRC, F.TSQ_FADDRn_VALUE, F.TSQ_FPCn_VALUE, F.TSQ_FSTATn_ILLEGAL] = true) :
    State.seen xe (seqIllegal n s) = State.seen xe s := by
  simp only [Extent.covers, List.all_cons, List.all_nil, Bool.and_true, Bool.true_and, Bool.and_eq_true] at xh
  unfold seqIllegal
  simp [xh]

@[simp] theorem enterHandler_seen (xe : Extent) (n src : Nat) (s : State) (xh : xe.covers [.seqs] [F.ICU_PENDw_SRC] = true) :
    State.seen xe (enterHandler n src s) = State.seen xe s := by
  simp only [Extent.covers, List.all_cons, List.all_nil, Bool.and_true, Bool.true_and, Bool.and_eq_true] at xh
  unfold enterHandler
  simp [xh]

@[simp] theorem haltAfterEntry_seen (xe : Extent) (n : Nat) (s : State) (xh : xe.covers [.seqs] [] = true) :
    State.seen xe (haltAfterEntry n s) = State.seen xe s := by
  simp only [Extent.covers, List.all_cons, List.all_nil, Bool.and_true, Bool.true_and, Bool.and_eq_true] at xh
  unfold haltAfterEntry
  simp [xh]

@[simp] theorem entrySequence_seen (xe : Extent) (n : Nat) (s : State) (xh : xe.covers [.seqs] [F.ICU_PENDw_SRC, F.ICU_SPUR] = true) :
    State.seen xe (entrySequence n s) = State.seen xe s := by
  simp only [Extent.covers, List.all_cons, List.all_nil, Bool.and_true, Bool.true_and, Bool.and_eq_true] at xh
  unfold entrySequence
  repeat' first
    | (extract_lets +onlyGivenNames x; refine have hx : State.seen xe x = State.seen xe s := ?_; ?_; (on_goal 1 => unfold x); (on_goal 2 => clear_value x))
    | (extract_lets +onlyGivenNames x; refine have hx : State.seen xe x.2 = State.seen xe s := ?_; ?_; (on_goal 1 => unfold x); (on_goal 2 => clear_value x))
    | (extract_lets +onlyGivenNames x; refine have hx : State.seen xe x.2.2 = State.seen xe s := ?_; ?_; (on_goal 1 => unfold x); (on_goal 2 => clear_value x))
    | (extract_lets +onlyGivenNames x; clear_value x)
    | (simp [*]; done)
    | (refine (foldl_seen xe _ _ _ ?_).trans ?_; (on_goal 1 => intro s a))
    | (refine (State.when_seen xe _ _ _ ?_).trans ?_; (on_goal 1 => intro s))
    | split
    | (simp_all; done)

@[simp] theorem returnTo_seen (xe : Extent) (n : Nat) (e : Nat × Nat) (rest : List (Nat × Nat)) (s : State) (xh : xe.covers [.seqs] [] = true) :
    State.seen xe (returnTo n e rest s) = State.seen xe s := by
  simp only [Extent.covers, List.all_cons, List.all_nil, Bool.and_true, Bool.true_and, Bool.and_eq_true] at xh
  unfold returnTo
  simp [xh]

@[simp] theorem seqReti_seen (xe : Extent) (n : Nat) (s : State) (xh : xe.covers [.seqs] [F.ICU_PENDw_SRC] = true) :
    State.seen xe (seqReti n s) = State.seen xe s := by
  simp only [Extent.covers, List.all_cons, List.all_nil, Bool.and_true, Bool.true_and, Bool.and_eq_true] at xh
  unfold seqReti
  repeat' first
    | (extract_lets +onlyGivenNames x; refine have hx : State.seen xe x = State.seen xe s := ?_; ?_; (on_goal 1 => unfold x); (on_goal 2 => clear_value x))
    | (extract_lets +onlyGivenNames x; refine have hx : State.seen xe x.2 = State.seen xe s := ?_; ?_; (on_goal 1 => unfold x); (on_goal 2 => clear_value x))
    | (extract_lets +onlyGivenNames x; refine have hx : State.seen xe x.2.2 = State.seen xe s := ?_; ?_; (on_goal 1 => unfold x); (on_goal 2 => clear_value x))
    | (extract_lets +onlyGivenNames x; clear_value x)
    | (simp [*]; done)
    | (refine (foldl_seen xe _ _ _ ?_).trans ?_; (on_goal 1 => intro s a))
    | (refine (State.when_seen xe _ _ _ ?_).trans ?_; (on_goal 1 => intro s))
    | split
    | (simp_all; done)

@[simp] theorem seqWait_seen (xe : Extent) (n : Nat) (s : State) (xh : xe.covers [.seqs] [] = true) :
    State.seen xe (seqWait n s) = State.seen xe s := by
  simp only [Extent.covers, List.all_cons, List.all_nil, Bool.and_true, Bool.true_and, Bool.and_eq_true] at xh
  unfold seqWait
  simp [xh]

@[simp] theorem waitWake_seen (xe : Extent) (n slept : Nat) (s : State) (xh : xe.covers [.seqs] [] = true) :
    State.seen xe (waitWake n slept s) = State.seen xe s := by
  simp only [Extent.covers, List.all_cons, List.all_nil, Bool.and_true, Bool.true_and, Bool.and_eq_true] at xh
  unfold waitWake
  simp [xh]

end Sys2Proof.Machine
end

