-- ==== Sys2Proof/Laws/SeenBoot.lean ====
section
/-! SUPPORT. What the images, the boot steps and the frame tick leave unseen outside the extents they are given (Laws/Seen.lean). -/
namespace Sys2Proof.Machine
set_option linter.all false

@[simp] theorem listWrite_seen (xe : Extent) (r : ImgRec) (a v : Nat) (s : State) (xh : xe.covers [.dev, .auth, .frame, .fresh, .locked, .seqs, .log, .rdata, .time, .table, .fab, .quays, .lanes, .tiles, .exec, .sched, .tide, .pen, .mir, .boot, .cal, .port] [] = true) (xha : xe.all = true) :
    ∀ t, (listWrite r a v s) = .ok t → State.seen xe t = State.seen xe s := by
  simp only [Extent.covers, List.all_cons, List.all_nil, Bool.and_true, Bool.true_and, Bool.and_eq_true] at xh
  have xhr : ∀ f, xe.r f = true := fun f => xe.r_of_all f xha
  unfold listWrite
  repeat' first
    | (extract_lets +onlyGivenNames x; refine have hx : State.seen xe x = State.seen xe s := ?_; ?_; (on_goal 1 => unfold x); (on_goal 2 => clear_value x))
    | (extract_lets +onlyGivenNames x; refine have hx : State.seen xe x.2 = State.seen xe s := ?_; ?_; (on_goal 1 => unfold x); (on_goal 2 => clear_value x))
    | (extract_lets +onlyGivenNames x; refine have hx : State.seen xe x.2.2 = State.seen xe s := ?_; ?_; (on_goal 1 => unfold x); (on_goal 2 => clear_value x))
    | (extract_lets +onlyGivenNames x; clear_value x)
    | (simp [*]; done)
    | (refine (foldl_seen xe _ _ _ ?_).trans ?_; (on_goal 1 => intro s a))
    | (refine (State.when_seen xe _ _ _ ?_).trans ?_; (on_goal 1 => intro s))
    | split
    | (simp_all; done)

theorem listWrites_seen (xe : Extent) (r : ImgRec) (n : Nat) (l : List Byte) (s : State) (xh : xe.covers [.dev, .auth, .frame, .fresh, .locked, .seqs, .log, .rdata, .time, .table, .fab, .quays, .lanes, .tiles, .exec, .sched, .tide, .pen, .mir, .boot, .cal, .port] [] = true) (xha : xe.all = true) :
    ∀ t, listWrites r n l s = .ok t → State.seen xe t = State.seen xe s := by
  simp only [Extent.covers, List.all_cons, List.all_nil, Bool.and_true, Bool.true_and, Bool.and_eq_true] at xh
  have xhr : ∀ f, xe.r f = true := fun f => xe.r_of_all f xha
  induction n generalizing l s with
  | zero => intro t h; cases h; rfl
  | succ n ih =>
    intro t h
    unfold listWrites at h
    split at h
    · rename_i u hu
      rw [ih _ _ _ h, listWrite_seen xe _ _ _ _ (by simp [xh, xha, xhr]) (by simp [xh, xha, xhr]) _ hu]
    · cases h

theorem regList_seen (xe : Extent) (r : ImgRec) (l : List Byte) (s : State) (xh : xe.covers [.dev, .auth, .frame, .fresh, .locked, .seqs, .log, .rdata, .time, .table, .fab, .quays, .lanes, .tiles, .exec, .sched, .tide, .pen, .mir, .boot, .cal, .port] [] = true) (xha : xe.all = true) :
    ∀ t, (regList r l s) = .ok t → State.seen xe t = State.seen xe s := by
  simp only [Extent.covers, List.all_cons, List.all_nil, Bool.and_true, Bool.true_and, Bool.and_eq_true] at xh
  have xhr : ∀ f, xe.r f = true := fun f => xe.r_of_all f xha
  unfold regList
  intro t h
  split at h
  · exact listWrites_seen xe _ _ _ _ (by simp [xh, xha, xhr]) (by simp [xh, xha, xhr]) _ h
  · cases h

@[simp] theorem flashMap_seen (xe : Extent) (b : List Byte) (s : State) (xh : xe.covers [.boot] [F.XSP_OPC0_PPOP, F.XSP_OPC1_EROP, F.XSP_OPC1_RSOP, F.XSP_OPC2_ERSZ, F.XSP_OPC2_WEOP] = true) :
    ∀ t, (flashMap b s) = .ok t → State.seen xe t = State.seen xe s := by
  simp only [Extent.covers, List.all_cons, List.all_nil, Bool.and_true, Bool.true_and, Bool.and_eq_true] at xh
  unfold flashMap
  repeat' first
    | (extract_lets +onlyGivenNames x; refine have hx : State.seen xe x = State.seen xe s := ?_; ?_; (on_goal 1 => unfold x); (on_goal 2 => clear_value x))
    | (extract_lets +onlyGivenNames x; refine have hx : State.seen xe x.2 = State.seen xe s := ?_; ?_; (on_goal 1 => unfold x); (on_goal 2 => clear_value x))
    | (extract_lets +onlyGivenNames x; refine have hx : State.seen xe x.2.2 = State.seen xe s := ?_; ?_; (on_goal 1 => unfold x); (on_goal 2 => clear_value x))
    | (extract_lets +onlyGivenNames x; clear_value x)
    | (simp [*]; done)
    | (refine (foldl_seen xe _ _ _ ?_).trans ?_; (on_goal 1 => intro s a))
    | (refine (State.when_seen xe _ _ _ ?_).trans ?_; (on_goal 1 => intro s))
    | split
    | (simp_all; done)

@[simp] theorem memPlan_seen (xe : Extent) (b : List Byte) (s : State) (xh : xe.covers [.pen, .boot] [F.CAL_MEMBASE_ADDR, F.MAN_BMPBASE_ADDR, F.MAN_RECBASE_ADDR, F.MAN_RECCFG_BMPSZ, F.MAN_RECCFG_RECCNT, F.PVE_CACHEBASE_ADDR] = true) :
    ∀ t, (memPlan b s) = .ok t → State.seen xe t = State.seen xe s := by
  simp only [Extent.covers, List.all_cons, List.all_nil, Bool.and_true, Bool.true_and, Bool.and_eq_true] at xh
  unfold memPlan
  repeat' first
    | (extract_lets +onlyGivenNames x; refine have hx : State.seen xe x = State.seen xe s := ?_; ?_; (on_goal 1 => unfold x); (on_goal 2 => clear_value x))
    | (extract_lets +onlyGivenNames x; refine have hx : State.seen xe x.2 = State.seen xe s := ?_; ?_; (on_goal 1 => unfold x); (on_goal 2 => clear_value x))
    | (extract_lets +onlyGivenNames x; refine have hx : State.seen xe x.2.2 = State.seen xe s := ?_; ?_; (on_goal 1 => unfold x); (on_goal 2 => clear_value x))
    | (extract_lets +onlyGivenNames x; clear_value x)
    | (simp [*]; done)
    | (refine (foldl_seen xe _ _ _ ?_).trans ?_; (on_goal 1 => intro s a))
    | (refine (State.when_seen xe _ _ _ ?_).trans ?_; (on_goal 1 => intro s))
    | split
    | (simp_all; done)

@[simp] theorem firmware_seen (xe : Extent) (n : Nat) (b : List Byte) (s : State) (xh : xe.covers [.seqs, .boot] [F.TSQ_ENTRYn_ENTRY] = true) :
    ∀ t, (firmware n b s) = .ok t → State.seen xe t = State.seen xe s := by
  simp only [Extent.covers, List.all_cons, List.all_nil, Bool.and_true, Bool.true_and, Bool.and_eq_true] at xh
  unfold firmware
  repeat' first
    | (extract_lets +onlyGivenNames x; refine have hx : State.seen xe x = State.seen xe s := ?_; ?_; (on_goal 1 => unfold x); (on_goal 2 => clear_value x))
    | (extract_lets +onlyGivenNames x; refine have hx : State.seen xe x.2 = State.seen xe s := ?_; ?_; (on_goal 1 => unfold x); (on_goal 2 => clear_value x))
    | (extract_lets +onlyGivenNames x; refine have hx : State.seen xe x.2.2 = State.seen xe s := ?_; ?_; (on_goal 1 => unfold x); (on_goal 2 => clear_value x))
    | (extract_lets +onlyGivenNames x; clear_value x)
    | (simp [*]; done)
    | (refine (foldl_seen xe _ _ _ ?_).trans ?_; (on_goal 1 => intro s a))
    | (refine (State.when_seen xe _ _ _ ?_).trans ?_; (on_goal 1 => intro s))
    | split
    | (simp_all; done)

theorem ok_seen (xe : Extent) (s u : State) (h : State.seen xe u = State.seen xe s) :
    ∀ t, (Except.ok u : Except Nat State) = .ok t → State.seen xe t = State.seen xe s := by
  intro t e; cases e; exact h

theorem err_seen (xe : Extent) (s : State) (k : Nat) :
    ∀ t, (Except.error k : Except Nat State) = .ok t → State.seen xe t = State.seen xe s := by
  intro t e; cases e

theorem ite_ok_seen (xe : Extent) (s : State) (c : Prop) [Decidable c] (a b : Except Nat State)
    (ha : ∀ t, a = .ok t → State.seen xe t = State.seen xe s) (hb : ∀ t, b = .ok t → State.seen xe t = State.seen xe s) :
    ∀ t, (if c then a else b) = .ok t → State.seen xe t = State.seen xe s := by
  split
  · exact ha
  · exact hb

theorem slotEntry_seen (xe : Extent) (q i : Nat) (e : List Byte) (s : State) (xh : xe.covers [.fab] [F.QY_TSASGj_SET0, F.QY_TSASGj_SET1, F.QY_TSASGj_SET2, F.QY_TSASGj_SET3, F.QY_TSASGj_SET4, F.QY_TSASGj_SET5, F.QY_TSASGj_SET6, F.QY_TSASGj_SET7] = true) :
    ∀ t, (slotEntry q i e s) = .ok t → State.seen xe t = State.seen xe s := by
  simp only [Extent.covers, List.all_cons, List.all_nil, Bool.and_true, Bool.true_and, Bool.and_eq_true] at xh
  unfold slotEntry
  have ht : ∀ n, xe.r (tsasgFlds.getD (n % 8) F.QY_TSASGj_SET0) = true := by
    intro n
    have : n % 8 < 8 := Nat.mod_lt _ (by decide)
    generalize n % 8 = k at this ⊢
    interval_cases k <;> simp [tsasgFlds, xh]
  extract_lets n g pop mon chan c live s1 s2
  have h1 : State.seen xe s1 = State.seen xe s := by simp only [s1]; exact State.modSlot_seen xe _ _ _ (by simp [xh])
  clear_value s1
  have h2 : State.seen xe s2 = State.seen xe s := by
    simp only [s2]; exact (State.fsi_seen xe s1 _ _ _ (ht n)).trans h1
  clear_value s2
  have h3 : ∀ f, State.seen xe (s2.modCoef (bundleOf n) f) = State.seen xe s := by
    intro f; exact (State.modCoef_seen xe _ _ _ (by simp [xh])).trans h2
  clear_value n g pop mon chan c
  repeat' apply ite_ok_seen
  all_goals first
    | exact err_seen xe s _
    | exact ok_seen xe s s rfl
    | exact ok_seen xe s _ (h3 _)

theorem slotEntries_seen (xe : Extent) (q n i : Nat) (l : List Byte) (s : State) (xh : xe.covers [.fab] [F.QY_TSASGj_SET0, F.QY_TSASGj_SET1, F.QY_TSASGj_SET2, F.QY_TSASGj_SET3, F.QY_TSASGj_SET4, F.QY_TSASGj_SET5, F.QY_TSASGj_SET6, F.QY_TSASGj_SET7] = true) :
    ∀ t, slotEntries q n i l s = .ok t → State.seen xe t = State.seen xe s := by
  simp only [Extent.covers, List.all_cons, List.all_nil, Bool.and_true, Bool.true_and, Bool.and_eq_true] at xh
  induction n generalizing i l s with
  | zero => intro t h; cases h; rfl
  | succ n ih =>
    intro t h
    unfold slotEntries at h
    split at h
    · rename_i u hu
      rw [ih _ _ _ _ h, slotEntry_seen xe _ _ _ _ (by simp [xh]) _ hu]
    · cases h

theorem slotRecord_seen (xe : Extent) (q : Nat) (b : List Byte) (s : State) (xh : xe.covers [.fab] [F.QY_TSASGj_SET0, F.QY_TSASGj_SET1, F.QY_TSASGj_SET2, F.QY_TSASGj_SET3, F.QY_TSASGj_SET4, F.QY_TSASGj_SET5, F.QY_TSASGj_SET6, F.QY_TSASGj_SET7] = true) :
    ∀ t, (slotRecord q b s) = .ok t → State.seen xe t = State.seen xe s := by
  simp only [Extent.covers, List.all_cons, List.all_nil, Bool.and_true, Bool.true_and, Bool.and_eq_true] at xh
  unfold slotRecord
  intro t h
  dsimp only at h
  split at h
  · exact slotEntries_seen xe _ _ _ _ _ (by simp [xh]) _ h
  · cases h

@[simp] theorem bundleRecord_seen (xe : Extent) (q : Nat) (b : List Byte) (s : State) (xh : xe.covers [.fab] [F.SEG_BSTEP_STEPMAX] = true) :
    ∀ t, (bundleRecord q b s) = .ok t → State.seen xe t = State.seen xe s := by
  simp only [Extent.covers, List.all_cons, List.all_nil, Bool.and_true, Bool.true_and, Bool.and_eq_true] at xh
  unfold bundleRecord
  repeat' first
    | (extract_lets +onlyGivenNames x; refine have hx : State.seen xe x = State.seen xe s := ?_; ?_; (on_goal 1 => unfold x); (on_goal 2 => clear_value x))
    | (extract_lets +onlyGivenNames x; refine have hx : State.seen xe x.2 = State.seen xe s := ?_; ?_; (on_goal 1 => unfold x); (on_goal 2 => clear_value x))
    | (extract_lets +onlyGivenNames x; refine have hx : State.seen xe x.2.2 = State.seen xe s := ?_; ?_; (on_goal 1 => unfold x); (on_goal 2 => clear_value x))
    | (extract_lets +onlyGivenNames x; clear_value x)
    | (simp [*]; done)
    | (refine (foldl_seen xe _ _ _ ?_).trans ?_; (on_goal 1 => intro s a))
    | (refine (State.when_seen xe _ _ _ ?_).trans ?_; (on_goal 1 => intro s))
    | split
    | (simp_all; done)

@[simp] theorem ownerRecord_seen (xe : Extent) (b : List Byte) (s : State) (xh : xe.covers [.fab] [] = true) :
    ∀ t, (ownerRecord b s) = .ok t → State.seen xe t = State.seen xe s := by
  simp only [Extent.covers, List.all_cons, List.all_nil, Bool.and_true, Bool.true_and, Bool.and_eq_true] at xh
  unfold ownerRecord
  repeat' first
    | (extract_lets +onlyGivenNames x; refine have hx : State.seen xe x = State.seen xe s := ?_; ?_; (on_goal 1 => unfold x); (on_goal 2 => clear_value x))
    | (extract_lets +onlyGivenNames x; refine have hx : State.seen xe x.2 = State.seen xe s := ?_; ?_; (on_goal 1 => unfold x); (on_goal 2 => clear_value x))
    | (extract_lets +onlyGivenNames x; refine have hx : State.seen xe x.2.2 = State.seen xe s := ?_; ?_; (on_goal 1 => unfold x); (on_goal 2 => clear_value x))
    | (extract_lets +onlyGivenNames x; clear_value x)
    | (simp [*]; done)
    | (refine (foldl_seen xe _ _ _ ?_).trans ?_; (on_goal 1 => intro s a))
    | (refine (State.when_seen xe _ _ _ ?_).trans ?_; (on_goal 1 => intro s))
    | split
    | (simp_all; done)

theorem applyBody_seen (xe : Extent) (r : ImgRec) (s : State) (xh : xe.covers [.dev, .auth, .frame, .fresh, .locked, .seqs, .log, .rdata, .time, .table, .fab, .quays, .lanes, .tiles, .exec, .sched, .tide, .pen, .mir, .boot, .cal, .port] [] = true) (xha : xe.all = true) :
    ∀ t, (applyBody r s) = .ok t → State.seen xe t = State.seen xe s := by
  simp only [Extent.covers, List.all_cons, List.all_nil, Bool.and_true, Bool.true_and, Bool.and_eq_true] at xh
  have xhr : ∀ f, xe.r f = true := fun f => xe.r_of_all f xha
  unfold applyBody
  intro t h
  split at h
  · exact flashMap_seen xe _ _ (by simp [xh, xha, xhr]) _ h
  · exact memPlan_seen xe _ _ (by simp [xh, xha, xhr]) _ h
  · exact firmware_seen xe _ _ _ (by simp [xh, xha, xhr]) _ h
  · exact slotRecord_seen xe _ _ _ (by simp [xh, xha, xhr]) _ h
  · exact bundleRecord_seen xe _ _ _ (by simp [xh, xha, xhr]) _ h
  · exact ownerRecord_seen xe _ _ (by simp [xh, xha, xhr]) _ h
  · split at h
    · cases h
    · exact regList_seen xe _ _ _ (by simp [xh, xha, xhr]) (by simp [xh, xha, xhr]) _ h
  · split at h
    · cases h; rfl
    · cases h
  · cases h; rfl
  · cases h; rfl
  · exact regList_seen xe _ _ _ (by simp [xh, xha, xhr]) (by simp [xh, xha, xhr]) _ h

theorem applyRecs_seen (xe : Extent) (w l : List ImgRec) (s : State) (xh : xe.covers [.dev, .auth, .frame, .fresh, .locked, .seqs, .log, .rdata, .time, .table, .fab, .quays, .lanes, .tiles, .exec, .sched, .tide, .pen, .mir, .boot, .cal, .port] [] = true) (xha : xe.all = true) :
    ∀ t, applyRecs w l s = .ok t → State.seen xe t = State.seen xe s := by
  simp only [Extent.covers, List.all_cons, List.all_nil, Bool.and_true, Bool.true_and, Bool.and_eq_true] at xh
  have xhr : ∀ f, xe.r f = true := fun f => xe.r_of_all f xha
  induction l generalizing w s with
  | nil => intro t h; cases h; rfl
  | cons r l ih =>
    intro t h
    unfold applyRecs at h
    split at h
    · cases h
    · split at h
      · rename_i x hx
        rw [ih _ _ _ h, applyBody_seen xe _ _ (by simp [xh, xha, xhr]) (by simp [xh, xha, xhr]) _ hx]
      · cases h

@[simp] theorem settleCopies_seen (xe : Extent) (s : State) (xh : xe.covers [.quays, .mir] [F.QY_TSASGj_SET0, F.QY_TSASGj_SET1, F.QY_TSASGj_SET2, F.QY_TSASGj_SET3, F.QY_TSASGj_SET4, F.QY_TSASGj_SET5, F.QY_TSASGj_SET6, F.QY_TSASGj_SET7] = true) :
    State.seen xe (settleCopies s) = State.seen xe s := by
  simp only [Extent.covers, List.all_cons, List.all_nil, Bool.and_true, Bool.true_and, Bool.and_eq_true] at xh
  unfold settleCopies
  simp [State.seen, xh]

theorem placeRec_seen (xe : Extent) (s : State) (r : ImgRec) (xh : xe.covers [.fresh, .table, .fab, .exec, .pen] [] = true) :
    ∀ t, (placeRec s r) = some t → State.seen xe t = State.seen xe s := by
  simp only [Extent.covers, List.all_cons, List.all_nil, Bool.and_true, Bool.true_and, Bool.and_eq_true] at xh
  unfold placeRec
  intro t h
  split at h
  · split at h
    · exact placeSegment_seen xe _ _ _ _ (by simp [xh]) _ h
    · cases h; rfl
  · exact placeManifest_seen xe _ _ _ (by simp [xh]) _ h
  · cases h; rfl

theorem placeRecs_seen (xe : Extent) (l : List ImgRec) (s : State) (xh : xe.covers [.fresh, .table, .fab, .exec, .pen] [] = true) :
    ∀ t, placeRecs l s = some t → State.seen xe t = State.seen xe s := by
  simp only [Extent.covers, List.all_cons, List.all_nil, Bool.and_true, Bool.true_and, Bool.and_eq_true] at xh
  induction l generalizing s with
  | nil => intro t h; cases h; rfl
  | cons r l ih =>
    intro t h
    unfold placeRecs at h
    split at h
    · rename_i x hx
      rw [ih _ _ h, placeRec_seen xe _ _ (by simp [xh]) _ hx]
    · cases h

@[simp] theorem placeTideRec_seen (xe : Extent) (l : List ImgRec) (s : State) (xh : xe.covers [.tide] [] = true) :
    State.seen xe (placeTideRec l s) = State.seen xe s := by
  simp only [Extent.covers, List.all_cons, List.all_nil, Bool.and_true, Bool.true_and, Bool.and_eq_true] at xh
  unfold placeTideRec
  repeat' first
    | (extract_lets +onlyGivenNames x; refine have hx : State.seen xe x = State.seen xe s := ?_; ?_; (on_goal 1 => unfold x); (on_goal 2 => clear_value x))
    | (extract_lets +onlyGivenNames x; refine have hx : State.seen xe x.2 = State.seen xe s := ?_; ?_; (on_goal 1 => unfold x); (on_goal 2 => clear_value x))
    | (extract_lets +onlyGivenNames x; refine have hx : State.seen xe x.2.2 = State.seen xe s := ?_; ?_; (on_goal 1 => unfold x); (on_goal 2 => clear_value x))
    | (extract_lets +onlyGivenNames x; clear_value x)
    | (simp [*]; done)
    | (refine (foldl_seen xe _ _ _ ?_).trans ?_; (on_goal 1 => intro s a))
    | (refine (State.when_seen xe _ _ _ ?_).trans ?_; (on_goal 1 => intro s))
    | split
    | (simp_all; done)

@[simp] theorem bootFail_seen (xe : Extent) (cause : Nat) (s : State) (xh : xe.covers [.dev, .auth, .seqs, .log, .time, .fab, .quays, .lanes, .pen, .mir, .boot, .cal, .port] [F.CAL_ABANDCNT, F.CAL_UCAP_ABANDON, F.CAL_USTAT_RESULT, F.CAL_USTAT_STATE, F.CKG_PLLSTAT_LOCK0, F.CKG_PLLSTAT_LOCK1, F.CKG_PLLSTAT_LOCK2, F.DBG_FLTSTAT_CLASS, F.DBG_LASTSAFEF_FRAME, F.DBG_LASTSAFE_CODE, F.ICU_LOSTCNT, F.ICU_OVRw_SRC, F.ICU_PENDw_SRC, F.NET_STAT_LINK, F.NET_STAT_LINKCHG, F.NET_TXDROP, F.QY_DRVSTAT_AUTH, F.QY_LNKSTAT_STATE, F.QY_LNKSTAT_TLOCK, F.QY_LNKSTAT_ULOCK, F.SYS_BOOTSTAT_FAIL, F.SYS_BOOTSTAT_SLOT, F.TMP_AONSTAT_TRIPPED] = true) :
    State.seen xe (bootFail cause s) = State.seen xe s := by
  simp only [Extent.covers, List.all_cons, List.all_nil, Bool.and_true, Bool.true_and, Bool.and_eq_true] at xh
  unfold bootFail
  simp [xh]

@[simp] theorem loadTrims_seen (xe : Extent) (s : State) (xh : xe.covers [.cal] [] = true) :
    State.seen xe (loadTrims s) = State.seen xe s := by
  simp only [Extent.covers, List.all_cons, List.all_nil, Bool.and_true, Bool.true_and, Bool.and_eq_true] at xh
  unfold loadTrims
  simp [xh]

@[simp] theorem leaveOff_seen (xe : Extent) (senior fmode otpErr : Bool) (s : State) (xh : xe.covers [.dev, .auth, .frame, .fresh, .locked, .seqs, .log, .rdata, .time, .table, .fab, .quays, .lanes, .tiles, .exec, .sched, .tide, .pen, .mir, .boot, .cal, .port] [] = true) (xha : xe.all = true) :
    State.seen xe (leaveOff senior fmode otpErr s) = State.seen xe s := by
  simp only [Extent.covers, List.all_cons, List.all_nil, Bool.and_true, Bool.true_and, Bool.and_eq_true] at xh
  have xhr : ∀ f, xe.r f = true := fun f => xe.r_of_all f xha
  unfold leaveOff
  simp [xh, xha, xhr]

@[simp] theorem pllLock_seen (xe : Extent) (p : Nat) (s : State) (xh : xe.covers [.frame, .time, .boot] [F.CKG_PLLSTAT_LOCK0, F.CKG_PLLSTAT_LOCK1, F.CKG_PLLSTAT_LOCK2, F.CKG_PLLSTAT_LOL0, F.CKG_PLLSTAT_LOL1, F.CKG_PLLSTAT_LOL2] = true) :
    State.seen xe (pllLock p s) = State.seen xe s := by
  simp only [Extent.covers, List.all_cons, List.all_nil, Bool.and_true, Bool.true_and, Bool.and_eq_true] at xh
  unfold pllLock
  have hp : ∀ p, xe.r (pllFlds p).1 = true := by
    intro p; unfold pllFlds; split <;> simp [xh]
  split
  · extract_lets s1
    have h1 : State.seen xe s1 = State.seen xe s := by simp [s1, hp, xh]
    clear_value s1
    split
    · rename_i src s2 _
      have h0 : State.seen xe src = State.seen xe s := by simp [src, h1, xh]
      have h2 : State.seen xe s2 = State.seen xe s := by
        simp only [s2]; split
        · exact (seen_frame xe src _ (by simp [xh])).trans h0
        · exact h1
      clear_value s2
      split <;> simp [h2, xh]
    · exact h1
  · rfl

@[simp] theorem pllTimeout_seen (xe : Extent) (s : State) (xh : xe.covers [.dev, .auth, .seqs, .log, .time, .fab, .quays, .lanes, .pen, .mir, .boot, .cal, .port] [F.CAL_ABANDCNT, F.CAL_UCAP_ABANDON, F.CAL_USTAT_RESULT, F.CAL_USTAT_STATE, F.CKG_PLLSTAT_LOCK0, F.CKG_PLLSTAT_LOCK1, F.CKG_PLLSTAT_LOCK2, F.DBG_FLTSTAT_CLASS, F.DBG_LASTSAFEF_FRAME, F.DBG_LASTSAFE_CODE, F.ICU_LOSTCNT, F.ICU_OVRw_SRC, F.ICU_PENDw_SRC, F.NET_STAT_LINK, F.NET_STAT_LINKCHG, F.NET_TXDROP, F.QY_DRVSTAT_AUTH, F.QY_LNKSTAT_STATE, F.QY_LNKSTAT_TLOCK, F.QY_LNKSTAT_ULOCK, F.SYS_BOOTSTAT_FAIL, F.SYS_BOOTSTAT_SLOT, F.TMP_AONSTAT_TRIPPED] = true) :
    State.seen xe (pllTimeout s) = State.seen xe s := by
  simp only [Extent.covers, List.all_cons, List.all_nil, Bool.and_true, Bool.true_and, Bool.and_eq_true] at xh
  unfold pllTimeout
  simp [xh]

@[simp] theorem engineSelf_seen (xe : Extent) (failed : Nat) (good : List Nat) (s : State) (p : Nat) (xh : xe.covers [] [F.MOR_ESTATp_CAUSE, F.MOR_ESTATp_LOGICAL, F.MOR_ESTATp_STATE] = true) :
    State.seen xe (engineSelf failed good s p) = State.seen xe s := by
  simp only [Extent.covers, List.all_cons, List.all_nil, Bool.and_true, Bool.true_and, Bool.and_eq_true] at xh
  unfold engineSelf
  simp [xh]

@[simp] theorem mapEngines_seen (xe : Extent) (failed : Nat) (s : State) (xh : xe.covers [] [F.MOR_EMAPe_PHYS, F.MOR_ESTATp_CAUSE, F.MOR_ESTATp_LOGICAL, F.MOR_ESTATp_STATE] = true) :
    State.seen xe (mapEngines failed s) = State.seen xe s := by
  simp only [Extent.covers, List.all_cons, List.all_nil, Bool.and_true, Bool.true_and, Bool.and_eq_true] at xh
  unfold mapEngines
  simp [xh]

@[simp] theorem logSelf_seen (xe : Extent) (r : SelfTest) (s : State) (xh : xe.covers [.log, .port] [F.DBG_FLTSTAT_CLASS] = true) :
    State.seen xe (logSelf r s) = State.seen xe s := by
  simp only [Extent.covers, List.all_cons, List.all_nil, Bool.and_true, Bool.true_and, Bool.and_eq_true] at xh
  unfold logSelf
  simp [xh]

@[simp] theorem selfOutcomes_seen (xe : Extent) (r : SelfTest) (s : State) (xh : xe.covers [] [F.MOR_EMAPe_PHYS, F.MOR_ESTATp_CAUSE, F.MOR_ESTATp_LOGICAL, F.MOR_ESTATp_STATE, F.PVE_STAT_RNGFAIL, F.SYS_BISTQ_QY] = true) :
    State.seen xe (selfOutcomes r s) = State.seen xe s := by
  simp only [Extent.covers, List.all_cons, List.all_nil, Bool.and_true, Bool.true_and, Bool.and_eq_true] at xh
  unfold selfOutcomes
  simp [xh]

@[simp] theorem startImages_seen (xe : Extent) (s : State) (xh : xe.covers [.dev, .auth, .seqs, .log, .time, .table, .fab, .quays, .lanes, .pen, .mir, .boot, .cal, .port] [F.CAL_ABANDCNT, F.CAL_UCAP_ABANDON, F.CAL_USTAT_RESULT, F.CAL_USTAT_STATE, F.CKG_PLLSTAT_LOCK0, F.CKG_PLLSTAT_LOCK1, F.CKG_PLLSTAT_LOCK2, F.DBG_FLTSTAT_CLASS, F.DBG_LASTSAFEF_FRAME, F.DBG_LASTSAFE_CODE, F.ICU_LOSTCNT, F.ICU_OVRw_SRC, F.ICU_PENDw_SRC, F.NET_STAT_LINK, F.NET_STAT_LINKCHG, F.NET_TXDROP, F.QY_DRVSTAT_AUTH, F.QY_LNKSTAT_STATE, F.QY_LNKSTAT_TLOCK, F.QY_LNKSTAT_ULOCK, F.SYS_BOOTSTAT_FAIL, F.SYS_BOOTSTAT_SLOT, F.TMP_AONSTAT_TRIPPED] = true) :
    State.seen xe (startImages s) = State.seen xe s := by
  simp only [Extent.covers, List.all_cons, List.all_nil, Bool.and_true, Bool.true_and, Bool.and_eq_true] at xh
  unfold startImages
  extract_lets src s1
  have h0 : State.seen xe src = State.seen xe s := by simp [src, xh]
  have h1 : State.seen xe s1 = State.seen xe s := by
    rw [← h0]; simp [s1, State.seen, xh]
  clear_value s1
  split <;> simp [h1, xh]

@[simp] theorem selfTestDone_seen (xe : Extent) (r : SelfTest) (s : State) (xh : xe.covers [.dev, .auth, .seqs, .log, .time, .table, .fab, .quays, .lanes, .pen, .mir, .boot, .cal, .port] [F.CAL_ABANDCNT, F.CAL_UCAP_ABANDON, F.CAL_USTAT_RESULT, F.CAL_USTAT_STATE, F.CKG_PLLSTAT_LOCK0, F.CKG_PLLSTAT_LOCK1, F.CKG_PLLSTAT_LOCK2, F.DBG_FLTSTAT_CLASS, F.DBG_LASTSAFEF_FRAME, F.DBG_LASTSAFE_CODE, F.ICU_LOSTCNT, F.ICU_OVRw_SRC, F.ICU_PENDw_SRC, F.MOR_EMAPe_PHYS, F.MOR_ESTATp_CAUSE, F.MOR_ESTATp_LOGICAL, F.MOR_ESTATp_STATE, F.NET_STAT_LINK, F.NET_STAT_LINKCHG, F.NET_TXDROP, F.PVE_STAT_RNGFAIL, F.QY_DRVSTAT_AUTH, F.QY_LNKSTAT_STATE, F.QY_LNKSTAT_TLOCK, F.QY_LNKSTAT_ULOCK, F.SYS_BISTQ_QY, F.SYS_BOOTSTAT_FAIL, F.SYS_BOOTSTAT_SLOT, F.TMP_AONSTAT_TRIPPED] = true) :
    State.seen xe (selfTestDone r s) = State.seen xe s := by
  simp only [Extent.covers, List.all_cons, List.all_nil, Bool.and_true, Bool.true_and, Bool.and_eq_true] at xh
  unfold selfTestDone
  simp [xh]

@[simp] theorem xspOfDesc_seen (xe : Extent) (d : List Byte) (s : State) (xh : xe.covers [] [F.XSP_CFG_DIV, F.XSP_CFG_DUMMY, F.XSP_CFG_MODE, F.XSP_OPC0_RDOP] = true) :
    State.seen xe (xspOfDesc d s) = State.seen xe s := by
  simp only [Extent.covers, List.all_cons, List.all_nil, Bool.and_true, Bool.true_and, Bool.and_eq_true] at xh
  unfold xspOfDesc
  simp [xh]

theorem tryBody_seen (xe : Extent) (slot : Nat) (d : List Byte) (s : State) (xh : xe.covers [.dev, .auth, .frame, .fresh, .locked, .seqs, .log, .rdata, .time, .table, .fab, .quays, .lanes, .tiles, .exec, .sched, .tide, .pen, .mir, .boot, .cal, .port] [] = true) (xha : xe.all = true) :
    ∀ t, (tryBody slot d s) = .ok t → State.seen xe t = State.seen xe s := by
  simp only [Extent.covers, List.all_cons, List.all_nil, Bool.and_true, Bool.true_and, Bool.and_eq_true] at xh
  have xhr : ∀ f, xe.r f = true := fun f => xe.r_of_all f xha
  unfold tryBody
  intro t h
  dsimp only at h
  split at h
  · cases h
  rename_i u hu
  split at h
  · cases h
  split at h
  · cases h
  split at h
  · cases h
  split at h
  · cases h
  rename_i v hv
  split at h
  · cases h
  cases h
  have h1 := applyRecs_seen xe _ _ _ (by simp [xh, xha, xhr]) (by simp [xh, xha, xhr]) _ hu
  have h2 := placeRecs_seen xe _ _ (by simp [xh, xha, xhr]) _ hv
  simp [h1, h2, xh, xha, xhr]

theorem trySlot_seen (xe : Extent) (slot : Nat) (s : State) (xh : xe.covers [.dev, .auth, .frame, .fresh, .locked, .seqs, .log, .rdata, .time, .table, .fab, .quays, .lanes, .tiles, .exec, .sched, .tide, .pen, .mir, .boot, .cal, .port] [] = true) (xha : xe.all = true) :
    ∀ t, (trySlot slot s) = .ok t → State.seen xe t = State.seen xe s := by
  simp only [Extent.covers, List.all_cons, List.all_nil, Bool.and_true, Bool.true_and, Bool.and_eq_true] at xh
  have xhr : ∀ f, xe.r f = true := fun f => xe.r_of_all f xha
  unfold trySlot
  intro t h
  dsimp only at h
  split at h
  · cases h
  split at h
  · cases h
  split at h
  · cases h
  rw [tryBody_seen xe _ _ _ (by simp [xh, xha, xhr]) (by simp [xh, xha, xhr]) _ h]; simp [xh, xha, xhr]

@[simp] theorem retryReset_seen (xe : Extent) (s : State) (xh : xe.covers [.dev, .auth, .frame, .fresh, .locked, .seqs, .log, .rdata, .time, .table, .fab, .quays, .lanes, .tiles, .exec, .sched, .tide, .pen, .mir, .boot, .cal, .port] [] = true) (xha : xe.all = true) :
    State.seen xe (retryReset s) = State.seen xe s := by
  simp only [Extent.covers, List.all_cons, List.all_nil, Bool.and_true, Bool.true_and, Bool.and_eq_true] at xh
  have xhr : ∀ f, xe.r f = true := fun f => xe.r_of_all f xha
  unfold retryReset
  have hk : ∀ k, xe.at k = true := fun k => Extent.at_of_all xe k xha
  refine (State.when_seen xe _ _ _ (fun t => by simp [xh, xha, xhr])).trans ?_
  simp [State.seen, hk, xh, xha, xhr]

@[simp] theorem recordFail_seen (xe : Extent) (slot : Nat) (e : TryFail) (s : State) (xh : xe.covers [] [F.SYS_BOOTSTAT_CAUSEA, F.SYS_BOOTSTAT_CAUSEB, F.SYS_CHKINFO_CODE, F.SYS_CHKINFO_RECORD, F.SYS_CHKINFO_SLOT] = true) :
    State.seen xe (recordFail slot e s) = State.seen xe s := by
  simp only [Extent.covers, List.all_cons, List.all_nil, Bool.and_true, Bool.true_and, Bool.and_eq_true] at xh
  unfold recordFail
  repeat' first
    | (extract_lets +onlyGivenNames x; refine have hx : State.seen xe x = State.seen xe s := ?_; ?_; (on_goal 1 => unfold x); (on_goal 2 => clear_value x))
    | (extract_lets +onlyGivenNames x; refine have hx : State.seen xe x.2 = State.seen xe s := ?_; ?_; (on_goal 1 => unfold x); (on_goal 2 => clear_value x))
    | (extract_lets +onlyGivenNames x; refine have hx : State.seen xe x.2.2 = State.seen xe s := ?_; ?_; (on_goal 1 => unfold x); (on_goal 2 => clear_value x))
    | (extract_lets +onlyGivenNames x; clear_value x)
    | (simp [*]; done)
    | (refine (foldl_seen xe _ _ _ ?_).trans ?_; (on_goal 1 => intro s a))
    | (refine (State.when_seen xe _ _ _ ?_).trans ?_; (on_goal 1 => intro s))
    | split
    | (simp_all; done)

@[simp] theorem factoryValues_seen (xe : Extent) (s : State) (xh : xe.covers [.cal] [] = true) :
    State.seen xe (factoryValues s) = State.seen xe s := by
  simp only [Extent.covers, List.all_cons, List.all_nil, Bool.and_true, Bool.true_and, Bool.and_eq_true] at xh
  unfold factoryValues
  simp [xh]

@[simp] theorem enterStaging_seen (xe : Extent) (s : State) (xh : xe.covers [.dev, .locked, .seqs, .log, .fab, .quays, .lanes, .mir, .boot, .cal, .port] [F.CAL_QSTART_QUAY, F.CAL_STAT_DIRTY, F.DBG_FLTSTAT_CLASS, F.ICU_LOSTCNT, F.ICU_OVRw_SRC, F.ICU_PENDw_SRC, F.MOR_PARKCNT, F.QY_DRVSTAT_AUTH, F.QY_LAUNCH_LAUNCH, F.QY_LNKSTAT_STATE, F.QY_LNKSTAT_TGEN, F.QY_LNKSTAT_TLOCK, F.QY_LNKSTAT_ULOCK] = true) :
    State.seen xe (enterStaging s) = State.seen xe s := by
  simp only [Extent.covers, List.all_cons, List.all_nil, Bool.and_true, Bool.true_and, Bool.and_eq_true] at xh
  unfold enterStaging
  extract_lets s1 s2 s3 s4
  have h1 : State.seen xe s1 = State.seen xe s := by simp [s1, xh]
  clear_value s1
  have h2 : State.seen xe s2 = State.seen xe s := by simp [s2, h1, xh]
  clear_value s2
  have h3 : State.seen xe s3 = State.seen xe s := by simp only [s3]; exact (foldl_seen xe _ _ _ (fun s x => by simp [xh])).trans h2
  clear_value s3
  have h4 : State.seen xe s4 = State.seen xe s := by simp only [s4]; exact (foldl_seen xe _ _ _ (fun s x => by simp [xh])).trans h3
  clear_value s4
  simp [h4, xh]

@[simp] theorem acceptImage_seen (xe : Extent) (slot : Nat) (second unprov : Bool) (d : List Byte) (s : State) (xh : xe.covers [.dev, .locked, .seqs, .log, .fab, .quays, .lanes, .mir, .boot, .cal, .port] [F.CAL_JSEQ_SEQ, F.CAL_QSTART_QUAY, F.CAL_STAT_DIRTY, F.CAL_STAT_JSLOT, F.DBG_FLTSTAT_CLASS, F.ICU_LOSTCNT, F.ICU_OVRw_SRC, F.ICU_PENDw_SRC, F.MOR_PARKCNT, F.QY_DRVSTAT_AUTH, F.QY_LAUNCH_LAUNCH, F.QY_LNKSTAT_STATE, F.QY_LNKSTAT_TGEN, F.QY_LNKSTAT_TLOCK, F.QY_LNKSTAT_ULOCK, F.SYS_BOOTSTAT_FAIL, F.SYS_BOOTSTAT_FALLBACK, F.SYS_BOOTSTAT_SLOT, F.SYS_IMGSVN_IMAGE, F.SYS_IMGSVN_ROLLFWD, F.SYS_IMGVER_VERSION] = true) :
    State.seen xe (acceptImage slot second unprov d s) = State.seen xe s := by
  simp only [Extent.covers, List.all_cons, List.all_nil, Bool.and_true, Bool.true_and, Bool.and_eq_true] at xh
  unfold acceptImage
  simp [xh]

@[simp] theorem imageSlotTry_seen (xe : Extent) (s : State) (xh : xe.covers [.dev, .auth, .frame, .fresh, .locked, .seqs, .log, .rdata, .time, .table, .fab, .quays, .lanes, .tiles, .exec, .sched, .tide, .pen, .mir, .boot, .cal, .port] [] = true) (xha : xe.all = true) :
    State.seen xe (imageSlotTry s) = State.seen xe s := by
  simp only [Extent.covers, List.all_cons, List.all_nil, Bool.and_true, Bool.true_and, Bool.and_eq_true] at xh
  have xhr : ∀ f, xe.r f = true := fun f => xe.r_of_all f xha
  unfold imageSlotTry
  split
  · rename_i slot tl _ _ _
    extract_lets s1 second
    have h1 : State.seen xe s1 = State.seen xe s := by
      simp only [s1]; refine State.when_seen xe _ _ _ ?_; intro s; simp [xh, xha, xhr]
    clear_value s1
    split
    · rename_i x hx
      have h2 := trySlot_seen xe _ _ (by simp [xh, xha, xhr]) (by simp [xh, xha, xhr]) _ hx
      simp [h2, h1, xh, xha, xhr]
    · rename_i e he
      have h2 : ∀ l, State.seen xe ((recordFail slot e (retryReset { s1 with fresh := s1.fresh + 1 })).modBoot fun b => { b with tries := l }) = State.seen xe s := by
        intro l; simp [h1, xh, xha, xhr]
      extract_lets s2
      have h3 : State.seen xe s2 = State.seen xe s := h2 _
      clear_value s2
      split <;> simp [h3, xh, xha, xhr]
  · rfl

@[simp] theorem stagingEnd_seen (xe : Extent) (s : State) (xh : xe.covers [.dev, .auth, .fab, .lanes, .tide, .mir, .port] [F.MIR_STAT_JOINED, F.MIR_STAT_SYNC, F.ROL_STAT_READY, F.SYS_STGEND_FRAME, F.TIM_BCNCFG_RELAY, F.TIM_BCNCFG_ROLE, F.TIM_T3CFG_PRI, F.TIM_T3CFG_SEC] = true) :
    State.seen xe (stagingEnd s) = State.seen xe s := by
  simp only [Extent.covers, List.all_cons, List.all_nil, Bool.and_true, Bool.true_and, Bool.and_eq_true] at xh
  unfold stagingEnd
  simp [xh]

@[simp] theorem rebaseAll_seen (xe : Extent) (d : Nat) (s : State) (xh : xe.covers [.fab, .quays, .lanes, .exec, .sched, .pen, .mir, .boot, .cal, .port] [] = true) :
    State.seen xe (rebaseAll d s) = State.seen xe s := by
  simp only [Extent.covers, List.all_cons, List.all_nil, Bool.and_true, Bool.true_and, Bool.and_eq_true] at xh
  unfold rebaseAll
  simp [State.seen, xh]

@[simp] theorem frameReload_seen (xe : Extent) (s : State) (xh : xe.covers [.frame, .seqs, .time, .fab, .quays, .lanes, .exec, .sched, .pen, .mir, .boot, .cal, .port] [F.ICU_LOSTCNT, F.ICU_OVRw_SRC, F.ICU_PENDw_SRC, F.QY_RNGSTAT_CANCELLED, F.QY_RNGSTAT_PEND, F.QY_TSSTAT_CANCELLED, F.QY_TSSTAT_PEND, F.TIM_STEPDELTA_FRAME, F.TIM_STEPFRM_FRAME, F.TIM_T3STAT_STEPPED] = true) :
    State.seen xe (frameReload s) = State.seen xe s := by
  simp only [Extent.covers, List.all_cons, List.all_nil, Bool.and_true, Bool.true_and, Bool.and_eq_true] at xh
  unfold frameReload
  simp [xh]

@[simp] theorem drainSeqs_seen (xe : Extent) (s : State) (xh : xe.covers [.dev, .auth, .frame, .fresh, .locked, .seqs, .log, .rdata, .time, .table, .fab, .quays, .lanes, .tiles, .exec, .sched, .tide, .pen, .mir, .boot, .cal, .port] [] = true) (xha : xe.all = true) :
    State.seen xe (drainSeqs s) = State.seen xe s := by
  simp only [Extent.covers, List.all_cons, List.all_nil, Bool.and_true, Bool.true_and, Bool.and_eq_true] at xh
  have xhr : ∀ f, xe.r f = true := fun f => xe.r_of_all f xha
  unfold drainSeqs
  simp [xh, xha, xhr]

@[simp] theorem mirrorEnd_seen (xe : Extent) (f : Nat) (s : State) (xh : xe.covers [.dev, .auth, .fresh, .seqs, .log, .table, .fab, .quays, .lanes, .exec, .sched, .tide, .pen, .mir, .cal, .port] [] = true) (xha : xe.all = true) :
    State.seen xe (mirrorEnd f s) = State.seen xe s := by
  simp only [Extent.covers, List.all_cons, List.all_nil, Bool.and_true, Bool.true_and, Bool.and_eq_true] at xh
  have xhr : ∀ f, xe.r f = true := fun f => xe.r_of_all f xha
  unfold mirrorEnd
  simp [xh, xha, xhr]

@[simp] theorem linkBefore_seen (xe : Extent) (s : State) (xh : xe.covers [.dev, .auth, .seqs, .log, .fab, .quays, .lanes, .tide, .mir, .cal, .port] [] = true) (xha : xe.all = true) :
    State.seen xe (linkBefore s) = State.seen xe s := by
  simp only [Extent.covers, List.all_cons, List.all_nil, Bool.and_true, Bool.true_and, Bool.and_eq_true] at xh
  have xhr : ∀ f, xe.r f = true := fun f => xe.r_of_all f xha
  unfold linkBefore
  split
  · extract_lets s1 s2
    have h1 : State.seen xe s1 = State.seen xe s := by
      simp only [s1]; rw [discTick_seen xe _ (by simp [xh, xha, xhr])]; exact foldl_seen xe _ _ _ (fun s x => by simp [xh, xha, xhr])
    clear_value s1
    have h2 : State.seen xe s2 = State.seen xe s := by
      simp only [s2]; refine (foldl_seen xe _ _ _ (fun s x => by simp [xh, xha, xhr])).trans ?_; simp [h1, xh, xha, xhr]
    clear_value s2
    exact (foldl_seen xe _ _ _ (fun s x => by simp [xh, xha, xhr])).trans h2
  · rfl

@[simp] theorem bundleBefore_seen (xe : Extent) (b : Nat) (s : State) (xh : xe.covers [.fab] [] = true) :
    State.seen xe (bundleBefore b s) = State.seen xe s := by
  simp only [Extent.covers, List.all_cons, List.all_nil, Bool.and_true, Bool.true_and, Bool.and_eq_true] at xh
  unfold bundleBefore
  simp [xh]

@[simp] theorem substDue_seen (xe : Extent) (s : State) (xh : xe.covers [.seqs, .log, .fab, .port] [F.DBG_FLTSTAT_CLASS, F.ICU_LOSTCNT, F.ICU_OVRw_SRC, F.ICU_PENDw_SRC, F.MOR_EMAPe_PHYS, F.MOR_ESTATp_LOGICAL, F.MOR_ESTATp_STATE, F.MOR_PARKCNT, F.MOR_SUBSTAT_BUSY, F.MOR_SUBSTAT_DONE] = true) :
    State.seen xe (substDue s) = State.seen xe s := by
  simp only [Extent.covers, List.all_cons, List.all_nil, Bool.and_true, Bool.true_and, Bool.and_eq_true] at xh
  unfold substDue
  repeat' first
    | (extract_lets +onlyGivenNames x; refine have hx : State.seen xe x = State.seen xe s := ?_; ?_; (on_goal 1 => unfold x); (on_goal 2 => clear_value x))
    | (extract_lets +onlyGivenNames x; refine have hx : State.seen xe x.2 = State.seen xe s := ?_; ?_; (on_goal 1 => unfold x); (on_goal 2 => clear_value x))
    | (extract_lets +onlyGivenNames x; refine have hx : State.seen xe x.2.2 = State.seen xe s := ?_; ?_; (on_goal 1 => unfold x); (on_goal 2 => clear_value x))
    | (extract_lets +onlyGivenNames x; clear_value x)
    | (simp [*]; done)
    | (refine (foldl_seen xe _ _ _ ?_).trans ?_; (on_goal 1 => intro s a))
    | (refine (State.when_seen xe _ _ _ ?_).trans ?_; (on_goal 1 => intro s))
    | split
    | (simp_all; done)

@[simp] theorem sessBefore_seen (xe : Extent) (s : State) (xh : xe.covers [.seqs, .pen] [F.ICU_LOSTCNT, F.ICU_OVRw_SRC, F.ICU_PENDw_SRC] = true) :
    State.seen xe (sessBefore s) = State.seen xe s := by
  simp only [Extent.covers, List.all_cons, List.all_nil, Bool.and_true, Bool.true_and, Bool.and_eq_true] at xh
  unfold sessBefore
  simp [xh]

@[simp] theorem rowsBefore_seen (xe : Extent) (s : State) (xh : xe.covers [.dev, .auth, .seqs, .log, .time, .fab, .quays, .lanes, .tide, .pen, .mir, .cal, .port] [] = true) (xha : xe.all = true) :
    State.seen xe (rowsBefore s) = State.seen xe s := by
  simp only [Extent.covers, List.all_cons, List.all_nil, Bool.and_true, Bool.true_and, Bool.and_eq_true] at xh
  have xhr : ∀ f, xe.r f = true := fun f => xe.r_of_all f xha
  unfold rowsBefore
  simp [xh, xha, xhr]

@[simp] theorem lenNote_seen (xe : Extent) (s : State) (xh : xe.covers [] [F.CKG_FRMRNG_MAX, F.CKG_FRMRNG_MIN, F.CKG_FRMSTAT_LAST] = true) :
    State.seen xe (lenNote s) = State.seen xe s := by
  simp only [Extent.covers, List.all_cons, List.all_nil, Bool.and_true, Bool.true_and, Bool.and_eq_true] at xh
  unfold lenNote
  simp [xh]

@[simp] theorem wrapNote_seen (xe : Extent) (s : State) (xh : xe.covers [.pen] [] = true) :
    State.seen xe (wrapNote s) = State.seen xe s := by
  simp only [Extent.covers, List.all_cons, List.all_nil, Bool.and_true, Bool.true_and, Bool.and_eq_true] at xh
  unfold wrapNote
  simp [xh]

@[simp] theorem countTick_seen (xe : Extent) (s : State) (xh : xe.covers [.frame, .seqs, .time, .pen] [F.CKG_FRMRNG_MAX, F.CKG_FRMRNG_MIN, F.CKG_FRMSTAT_LAST, F.ICU_LOSTCNT, F.ICU_OVRw_SRC, F.ICU_PENDw_SRC] = true) :
    State.seen xe (countTick s) = State.seen xe s := by
  simp only [Extent.covers, List.all_cons, List.all_nil, Bool.and_true, Bool.true_and, Bool.and_eq_true] at xh
  unfold countTick
  simp [xh]

@[simp] theorem timeTick_seen (xe : Extent) (s : State) (xh : xe.covers [.seqs, .log, .time, .fab, .tide, .port] [F.DBG_FLTSTAT_CLASS, F.ICU_LOSTCNT, F.ICU_OVRw_SRC, F.ICU_PENDw_SRC, F.TID_STAT_STEPSTOP, F.TIM_BCNSTAT_ACQ, F.TIM_BCNSTAT_MISS, F.TIM_BCNSTAT_VALID, F.TIM_FARCNT, F.TIM_HOLDCNT, F.TIM_PPSCFG_ARMED, F.TIM_SRCCNT, F.TIM_T3OFF_OFFSET, F.TIM_T3STAT_FAR, F.TIM_T3STAT_HOLD, F.TIM_T3STAT_SRC, F.TIM_T3STAT_SRCCHG] = true) :
    State.seen xe (timeTick s) = State.seen xe s := by
  simp only [Extent.covers, List.all_cons, List.all_nil, Bool.and_true, Bool.true_and, Bool.and_eq_true] at xh
  unfold timeTick
  simp [xh]

@[simp] theorem holdsTick_seen (xe : Extent) (f : Nat) (s : State) (xh : xe.covers [.fab] [] = true) :
    State.seen xe (holdsTick f s) = State.seen xe s := by
  simp only [Extent.covers, List.all_cons, List.all_nil, Bool.and_true, Bool.true_and, Bool.and_eq_true] at xh
  unfold holdsTick
  simp [xh]

@[simp] theorem rampTick_seen (xe : Extent) (f : Nat) (s : State) (xh : xe.covers [.quays] [F.QY_DRVSTAT_RAMP] = true) :
    State.seen xe (rampTick f s) = State.seen xe s := by
  simp only [Extent.covers, List.all_cons, List.all_nil, Bool.and_true, Bool.true_and, Bool.and_eq_true] at xh
  unfold rampTick
  repeat' first
    | (extract_lets +onlyGivenNames x; refine have hx : State.seen xe x = State.seen xe s := ?_; ?_; (on_goal 1 => unfold x); (on_goal 2 => clear_value x))
    | (extract_lets +onlyGivenNames x; refine have hx : State.seen xe x.2 = State.seen xe s := ?_; ?_; (on_goal 1 => unfold x); (on_goal 2 => clear_value x))
    | (extract_lets +onlyGivenNames x; refine have hx : State.seen xe x.2.2 = State.seen xe s := ?_; ?_; (on_goal 1 => unfold x); (on_goal 2 => clear_value x))
    | (extract_lets +onlyGivenNames x; clear_value x)
    | (simp [*]; done)
    | (refine (foldl_seen xe _ _ _ ?_).trans ?_; (on_goal 1 => intro s a))
    | (refine (State.when_seen xe _ _ _ ?_).trans ?_; (on_goal 1 => intro s))
    | split
    | (simp_all; done)

@[simp] theorem pilotTick_seen (xe : Extent) (f : Nat) (s : State) (xh : xe.covers [.fab] [] = true) :
    State.seen xe (pilotTick f s) = State.seen xe s := by
  simp only [Extent.covers, List.all_cons, List.all_nil, Bool.and_true, Bool.true_and, Bool.and_eq_true] at xh
  unfold pilotTick
  repeat' first
    | (extract_lets +onlyGivenNames x; refine have hx : State.seen xe x = State.seen xe s := ?_; ?_; (on_goal 1 => unfold x); (on_goal 2 => clear_value x))
    | (extract_lets +onlyGivenNames x; refine have hx : State.seen xe x.2 = State.seen xe s := ?_; ?_; (on_goal 1 => unfold x); (on_goal 2 => clear_value x))
    | (extract_lets +onlyGivenNames x; refine have hx : State.seen xe x.2.2 = State.seen xe s := ?_; ?_; (on_goal 1 => unfold x); (on_goal 2 => clear_value x))
    | (extract_lets +onlyGivenNames x; clear_value x)
    | (simp [*]; done)
    | (refine (foldl_seen xe _ _ _ ?_).trans ?_; (on_goal 1 => intro s a))
    | (refine (State.when_seen xe _ _ _ ?_).trans ?_; (on_goal 1 => intro s))
    | split
    | (simp_all; done)

@[simp] theorem tsetTick_seen (xe : Extent) (f : Nat) (s : State) (xh : xe.covers [.quays] [] = true) :
    State.seen xe (tsetTick f s) = State.seen xe s := by
  simp only [Extent.covers, List.all_cons, List.all_nil, Bool.and_true, Bool.true_and, Bool.and_eq_true] at xh
  unfold tsetTick
  repeat' first
    | (extract_lets +onlyGivenNames x; refine have hx : State.seen xe x = State.seen xe s := ?_; ?_; (on_goal 1 => unfold x); (on_goal 2 => clear_value x))
    | (extract_lets +onlyGivenNames x; refine have hx : State.seen xe x.2 = State.seen xe s := ?_; ?_; (on_goal 1 => unfold x); (on_goal 2 => clear_value x))
    | (extract_lets +onlyGivenNames x; refine have hx : State.seen xe x.2.2 = State.seen xe s := ?_; ?_; (on_goal 1 => unfold x); (on_goal 2 => clear_value x))
    | (extract_lets +onlyGivenNames x; clear_value x)
    | (simp [*]; done)
    | (refine (foldl_seen xe _ _ _ ?_).trans ?_; (on_goal 1 => intro s a))
    | (refine (State.when_seen xe _ _ _ ?_).trans ?_; (on_goal 1 => intro s))
    | split
    | (simp_all; done)

@[simp] theorem prepareFrame_seen (xe : Extent) (f : Nat) (s : State) (xh : xe.covers [.fresh, .seqs, .table, .fab, .quays, .exec, .sched, .tide, .pen, .mir] [F.ICU_LOSTCNT, F.ICU_OVRw_SRC, F.ICU_PENDw_SRC, F.NET_TXDROP, F.PIL_APPLYF_FRAME, F.PIL_BADSLOT_SLOT, F.PIL_STAT_BUSY, F.PIL_STAT_REASON, F.PIL_STAT_REFUSED, F.PIL_STAT_WERR, F.QY_DRVSTAT_MODEACT, F.QY_MODOVL, F.QY_RNGSAT, F.QY_SNPCODE_FRAME, F.QY_TSASGj_SET0, F.QY_TSASGj_SET1, F.QY_TSASGj_SET2, F.QY_TSASGj_SET3, F.QY_TSASGj_SET4, F.QY_TSASGj_SET5, F.QY_TSASGj_SET6, F.QY_TSASGj_SET7, F.SCH_PMEAS_FRAME, F.SCH_PMEAS_POWER, F.TID_LATEN_N, F.TID_PSTART_FRAME, F.TID_STAT_LATEBASE, F.TID_STAT_REASON, F.TID_STAT_REFUSED] = true) :
    State.seen xe (prepareFrame f s) = State.seen xe s := by
  simp only [Extent.covers, List.all_cons, List.all_nil, Bool.and_true, Bool.true_and, Bool.and_eq_true] at xh
  unfold prepareFrame
  simp [xh]

@[simp] theorem admitFrame_seen (xe : Extent) (f : Nat) (s : State) (xh : xe.covers [.seqs, .log, .fab, .exec, .sched, .pen, .port] [F.DBG_FLTSTAT_CLASS, F.ICU_LOSTCNT, F.ICU_OVRw_SRC, F.ICU_PENDw_SRC, F.MAN_ALLOCCNT, F.MAN_DONECNT, F.MAN_LASTEXEC_EXEC_ID, F.MAN_NOROUTECNT, F.MAN_NOSPCNT, F.MAN_PARTCNT, F.MAN_VOIDCNT, F.MAN_ZEROCNT, F.SCH_ADMCNT, F.SCH_ADMFULL, F.SCH_ADMHWM_ADMIT, F.SCH_ADMHWM_EXAM, F.SCH_BALSAT, F.SCH_CMDFLUSH, F.SCH_LATEFLUSH, F.SCH_PHWM_POWER, F.SCH_PWRWAIT, F.SCH_QADM_VALUE, F.SCH_QLATHWM_VALUE, F.SCH_STAT_PWRBLK, F.SCH_STAT_PWRQ, F.SCH_TIDEPWR, F.SCH_VOIDDEN, F.SEG_DEFERCNT, F.SEG_TRUNCCNT, F.TID_COLLIDE, F.TID_FIRECNT, F.TID_FIREREF, F.TID_FIREVOID, F.TID_POS_ENTRY, F.TID_POS_REMAIN] = true) :
    State.seen xe (admitFrame f s) = State.seen xe s := by
  simp only [Extent.covers, List.all_cons, List.all_nil, Bool.and_true, Bool.true_and, Bool.and_eq_true] at xh
  unfold admitFrame
  simp [xh]

@[simp] theorem fetchFrame_seen (xe : Extent) (s : State) (xh : xe.covers [.seqs, .log, .fab, .port] [F.DBG_FLTSTAT_CLASS, F.ICU_LOSTCNT, F.ICU_OVRw_SRC, F.ICU_PENDw_SRC, F.MTX_ECCCOR, F.MTX_ECCUNC, F.MTX_ERRADDR_ADDR, F.MTX_ERRCNT, F.MTX_ERRSTAT_CAUSE, F.MTX_ERRSTAT_MASTER, F.MTX_ERRSTAT_OVR, F.MTX_ERRSTAT_VALID, F.MTX_ERRSTAT_WRITE] = true) :
    State.seen xe (fetchFrame s) = State.seen xe s := by
  simp only [Extent.covers, List.all_cons, List.all_nil, Bool.and_true, Bool.true_and, Bool.and_eq_true] at xh
  unfold fetchFrame
  simp [xh]

@[simp] theorem composeFrame_seen (xe : Extent) (f : Nat) (s : State) (xh : xe.covers [.fresh, .seqs, .log, .table, .fab, .quays, .lanes, .exec, .mir, .cal, .port] [] = true) (xha : xe.all = true) :
    State.seen xe (composeFrame f s) = State.seen xe s := by
  simp only [Extent.covers, List.all_cons, List.all_nil, Bool.and_true, Bool.true_and, Bool.and_eq_true] at xh
  have xhr : ∀ f, xe.r f = true := fun f => xe.r_of_all f xha
  unfold composeFrame
  simp [xh, xha, xhr]

@[simp] theorem launchAll_seen (xe : Extent) (f : Nat) (s : State) (xh : xe.covers [.fab, .quays, .lanes] [F.QY_DRVSTAT_AUTH, F.QY_DRVSTAT_RAMP, F.QY_LAUNCH_LAUNCH, F.QY_TRETX] = true) :
    State.seen xe (launchAll f s) = State.seen xe s := by
  simp only [Extent.covers, List.all_cons, List.all_nil, Bool.and_true, Bool.true_and, Bool.and_eq_true] at xh
  unfold launchAll
  simp [xh]

@[simp] theorem houseTick_seen (xe : Extent) (f : Nat) (s : State) (xh : xe.covers [.fresh, .seqs, .log, .table, .fab, .exec, .tide, .pen, .mir, .cal, .port] [F.DBG_FLTSTAT_CLASS, F.DBG_LASTSAFE_RESTARTS, F.ICU_LOSTCNT, F.ICU_OVRw_SRC, F.ICU_PENDw_SRC, F.NET_TXDROP, F.TSQ_FSTATn_WDOG, F.TSQ_LOADn_RUN] = true) :
    State.seen xe (houseTick f s) = State.seen xe s := by
  simp only [Extent.covers, List.all_cons, List.all_nil, Bool.and_true, Bool.true_and, Bool.and_eq_true] at xh
  unfold houseTick
  extract_lets s1 s2 s3 s4
  have h1 : State.seen xe s1 = State.seen xe s := by simp [s1, xh]
  clear_value s1
  have h2 : State.seen xe s2 = State.seen xe s := by simp [s2, h1, xh]
  clear_value s2
  have h3 : State.seen xe s3 = State.seen xe s := by simp [s3, h2, xh]
  clear_value s3
  have h4 : State.seen xe s4 = State.seen xe s := by simp [s4, h3, xh]
  clear_value s4
  simp [h4, xh]

@[simp] theorem frameWork_seen (xe : Extent) (f : Nat) (s : State) (xh : xe.covers [.fresh, .seqs, .log, .table, .fab, .quays, .lanes, .exec, .sched, .tide, .pen, .mir, .cal, .port] [] = true) (xha : xe.all = true) :
    State.seen xe (frameWork f s) = State.seen xe s := by
  simp only [Extent.covers, List.all_cons, List.all_nil, Bool.and_true, Bool.true_and, Bool.and_eq_true] at xh
  have xhr : ∀ f, xe.r f = true := fun f => xe.r_of_all f xha
  unfold frameWork
  simp [xh, xha, xhr]

@[simp] theorem tickCycle_seen (xe : Extent) (f0 : Nat) (s : State) (xh : xe.covers [.dev, .auth, .frame, .fresh, .seqs, .log, .time, .table, .fab, .quays, .lanes, .exec, .sched, .tide, .pen, .mir, .boot, .cal, .port] [] = true) (xha : xe.all = true) :
    State.seen xe (tickCycle f0 s) = State.seen xe s := by
  simp only [Extent.covers, List.all_cons, List.all_nil, Bool.and_true, Bool.true_and, Bool.and_eq_true] at xh
  have xhr : ∀ f, xe.r f = true := fun f => xe.r_of_all f xha
  unfold tickCycle
  simp [xh, xha, xhr]

@[simp] theorem frameTick_seen (xe : Extent) (s : State) (xh : xe.covers [.dev, .auth, .frame, .fresh, .locked, .seqs, .log, .rdata, .time, .table, .fab, .quays, .lanes, .tiles, .exec, .sched, .tide, .pen, .mir, .boot, .cal, .port] [] = true) (xha : xe.all = true) :
    State.seen xe (frameTick s) = State.seen xe s := by
  simp only [Extent.covers, List.all_cons, List.all_nil, Bool.and_true, Bool.true_and, Bool.and_eq_true] at xh
  have xhr : ∀ f, xe.r f = true := fun f => xe.r_of_all f xha
  unfold frameTick
  simp [xh, xha, xhr]

end Sys2Proof.Machine
end

