-- ==== Sys2Proof/Laws/SeenRows5.lean ====
section
/-! SUPPORT. For each command, part 6 of 6: it answers a next state, the same outside every extent that covers what the
command may change (Laws/Seen.lean). -/
namespace Sys2Proof.Machine
set_option linter.all false

theorem execXori_seen (xe : Extent) (n : Fin 4) (s : State) (xh : xe.covers [.seqs] [] = true) :
    ∃ t, execXori n s = .next t ∧ State.seen xe t = State.seen xe s := by
  simp only [Extent.covers, List.all_cons, List.all_nil, Bool.and_true, Bool.true_and, Bool.and_eq_true] at xh
  refine ⟨_, rfl, ?_⟩
  simp [xh]

theorem execShi_seen (xe : Extent) (n : Fin 4) (s : State) (xh : xe.covers [.seqs] [] = true) :
    ∃ t, execShi n s = .next t ∧ State.seen xe t = State.seen xe s := by
  simp only [Extent.covers, List.all_cons, List.all_nil, Bool.and_true, Bool.true_and, Bool.and_eq_true] at xh
  refine ⟨_, rfl, ?_⟩
  simp [xh]

theorem execMovhi_seen (xe : Extent) (n : Fin 4) (s : State) (xh : xe.covers [.seqs] [] = true) :
    ∃ t, execMovhi n s = .next t ∧ State.seen xe t = State.seen xe s := by
  simp only [Extent.covers, List.all_cons, List.all_nil, Bool.and_true, Bool.true_and, Bool.and_eq_true] at xh
  refine ⟨_, rfl, ?_⟩
  simp [xh]

theorem execBeq_seen (xe : Extent) (n : Fin 4) (s : State) (xh : xe.covers [.seqs] [] = true) :
    ∃ t, execBeq n s = .next t ∧ State.seen xe t = State.seen xe s := by
  simp only [Extent.covers, List.all_cons, List.all_nil, Bool.and_true, Bool.true_and, Bool.and_eq_true] at xh
  refine ⟨_, rfl, ?_⟩
  simp [xh]

theorem execBne_seen (xe : Extent) (n : Fin 4) (s : State) (xh : xe.covers [.seqs] [] = true) :
    ∃ t, execBne n s = .next t ∧ State.seen xe t = State.seen xe s := by
  simp only [Extent.covers, List.all_cons, List.all_nil, Bool.and_true, Bool.true_and, Bool.and_eq_true] at xh
  refine ⟨_, rfl, ?_⟩
  simp [xh]

theorem execBlt_seen (xe : Extent) (n : Fin 4) (s : State) (xh : xe.covers [.seqs] [] = true) :
    ∃ t, execBlt n s = .next t ∧ State.seen xe t = State.seen xe s := by
  simp only [Extent.covers, List.all_cons, List.all_nil, Bool.and_true, Bool.true_and, Bool.and_eq_true] at xh
  refine ⟨_, rfl, ?_⟩
  simp [xh]

theorem execBge_seen (xe : Extent) (n : Fin 4) (s : State) (xh : xe.covers [.seqs] [] = true) :
    ∃ t, execBge n s = .next t ∧ State.seen xe t = State.seen xe s := by
  simp only [Extent.covers, List.all_cons, List.all_nil, Bool.and_true, Bool.true_and, Bool.and_eq_true] at xh
  refine ⟨_, rfl, ?_⟩
  simp [xh]

theorem execBltu_seen (xe : Extent) (n : Fin 4) (s : State) (xh : xe.covers [.seqs] [] = true) :
    ∃ t, execBltu n s = .next t ∧ State.seen xe t = State.seen xe s := by
  simp only [Extent.covers, List.all_cons, List.all_nil, Bool.and_true, Bool.true_and, Bool.and_eq_true] at xh
  refine ⟨_, rfl, ?_⟩
  simp [xh]

theorem execBgeu_seen (xe : Extent) (n : Fin 4) (s : State) (xh : xe.covers [.seqs] [] = true) :
    ∃ t, execBgeu n s = .next t ∧ State.seen xe t = State.seen xe s := by
  simp only [Extent.covers, List.all_cons, List.all_nil, Bool.and_true, Bool.true_and, Bool.and_eq_true] at xh
  refine ⟨_, rfl, ?_⟩
  simp [xh]

theorem execJmp_seen (xe : Extent) (n : Fin 4) (s : State) (xh : xe.covers [.seqs] [] = true) :
    ∃ t, execJmp n s = .next t ∧ State.seen xe t = State.seen xe s := by
  simp only [Extent.covers, List.all_cons, List.all_nil, Bool.and_true, Bool.true_and, Bool.and_eq_true] at xh
  refine ⟨_, rfl, ?_⟩
  simp [xh]

theorem execCall_seen (xe : Extent) (n : Fin 4) (s : State) (xh : xe.covers [.seqs] [] = true) :
    ∃ t, execCall n s = .next t ∧ State.seen xe t = State.seen xe s := by
  simp only [Extent.covers, List.all_cons, List.all_nil, Bool.and_true, Bool.true_and, Bool.and_eq_true] at xh
  refine ⟨_, rfl, ?_⟩
  simp [xh]

theorem execJr_seen (xe : Extent) (n : Fin 4) (s : State) (xh : xe.covers [.seqs] [] = true) :
    ∃ t, execJr n s = .next t ∧ State.seen xe t = State.seen xe s := by
  simp only [Extent.covers, List.all_cons, List.all_nil, Bool.and_true, Bool.true_and, Bool.and_eq_true] at xh
  refine ⟨_, rfl, ?_⟩
  simp [xh]

theorem execLd_seen (xe : Extent) (n : Fin 4) (cycle wait : Nat) (s : State) (xh : xe.covers [.dev, .auth, .frame, .fresh, .locked, .seqs, .log, .rdata, .time, .table, .fab, .quays, .lanes, .tiles, .exec, .sched, .tide, .pen, .mir, .boot, .cal, .port] [] = true) (xha : xe.all = true) :
    ∃ t, execLd n cycle wait s = .next t ∧ State.seen xe t = State.seen xe s := by
  simp only [Extent.covers, List.all_cons, List.all_nil, Bool.and_true, Bool.true_and, Bool.and_eq_true] at xh
  have xhr : ∀ f, xe.r f = true := fun f => xe.r_of_all f xha
  refine ⟨_, rfl, ?_⟩
  simp [xh, xha, xhr]

theorem execSt_seen (xe : Extent) (n : Fin 4) (cycle wait : Nat) (s : State) (xh : xe.covers [.dev, .auth, .frame, .fresh, .locked, .seqs, .log, .rdata, .time, .table, .fab, .quays, .lanes, .tiles, .exec, .sched, .tide, .pen, .mir, .boot, .cal, .port] [] = true) (xha : xe.all = true) :
    ∃ t, execSt n cycle wait s = .next t ∧ State.seen xe t = State.seen xe s := by
  simp only [Extent.covers, List.all_cons, List.all_nil, Bool.and_true, Bool.true_and, Bool.and_eq_true] at xh
  have xhr : ∀ f, xe.r f = true := fun f => xe.r_of_all f xha
  refine ⟨_, rfl, ?_⟩
  simp [xh, xha, xhr]

theorem execFence_seen (xe : Extent) (n : Fin 4) (cycle wait : Nat) (s : State) (xh : xe.covers [.dev, .auth, .frame, .fresh, .locked, .seqs, .log, .rdata, .time, .table, .fab, .quays, .lanes, .tiles, .exec, .sched, .tide, .pen, .mir, .boot, .cal, .port] [] = true) (xha : xe.all = true) :
    ∃ t, execFence n cycle wait s = .next t ∧ State.seen xe t = State.seen xe s := by
  simp only [Extent.covers, List.all_cons, List.all_nil, Bool.and_true, Bool.true_and, Bool.and_eq_true] at xh
  have xhr : ∀ f, xe.r f = true := fun f => xe.r_of_all f xha
  refine ⟨_, rfl, ?_⟩
  simp [xh, xha, xhr]

theorem execSig_seen (xe : Extent) (n : Fin 4) (cycle wait : Nat) (s : State) (xh : xe.covers [.dev, .auth, .frame, .fresh, .locked, .seqs, .log, .rdata, .time, .table, .fab, .quays, .lanes, .tiles, .exec, .sched, .tide, .pen, .mir, .boot, .cal, .port] [] = true) (xha : xe.all = true) :
    ∃ t, execSig n cycle wait s = .next t ∧ State.seen xe t = State.seen xe s := by
  simp only [Extent.covers, List.all_cons, List.all_nil, Bool.and_true, Bool.true_and, Bool.and_eq_true] at xh
  have xhr : ∀ f, xe.r f = true := fun f => xe.r_of_all f xha
  refine ⟨_, rfl, ?_⟩
  simp [xh, xha, xhr]

theorem execHalt_seen (xe : Extent) (n : Fin 4) (cycle wait : Nat) (s : State) (xh : xe.covers [.dev, .auth, .frame, .fresh, .locked, .seqs, .log, .rdata, .time, .table, .fab, .quays, .lanes, .tiles, .exec, .sched, .tide, .pen, .mir, .boot, .cal, .port] [] = true) (xha : xe.all = true) :
    ∃ t, execHalt n cycle wait s = .next t ∧ State.seen xe t = State.seen xe s := by
  simp only [Extent.covers, List.all_cons, List.all_nil, Bool.and_true, Bool.true_and, Bool.and_eq_true] at xh
  have xhr : ∀ f, xe.r f = true := fun f => xe.r_of_all f xha
  refine ⟨_, rfl, ?_⟩
  simp [xh, xha, xhr]

theorem execMfs_seen (xe : Extent) (n : Fin 4) (s : State) (xh : xe.covers [.seqs] [] = true) :
    ∃ t, execMfs n s = .next t ∧ State.seen xe t = State.seen xe s := by
  simp only [Extent.covers, List.all_cons, List.all_nil, Bool.and_true, Bool.true_and, Bool.and_eq_true] at xh
  refine ⟨_, rfl, ?_⟩
  simp [xh]

theorem execMts_seen (xe : Extent) (n : Fin 4) (s : State) (xh : xe.covers [.seqs] [] = true) :
    ∃ t, execMts n s = .next t ∧ State.seen xe t = State.seen xe s := by
  simp only [Extent.covers, List.all_cons, List.all_nil, Bool.and_true, Bool.true_and, Bool.and_eq_true] at xh
  refine ⟨_, rfl, ?_⟩
  simp [xh]

theorem execIllegalInstruction_seen (xe : Extent) (n : Fin 4) (s : State) (xh : xe.covers [.seqs, .log, .port] [F.DBG_FLTSTAT_CLASS, F.ICU_LOSTCNT, F.ICU_OVRw_SRC, F.ICU_PENDw_SRC, F.TSQ_FADDRn_VALUE, F.TSQ_FPCn_VALUE, F.TSQ_FSTATn_ILLEGAL] = true) :
    ∃ t, execIllegalInstruction n s = .next t ∧ State.seen xe t = State.seen xe s := by
  simp only [Extent.covers, List.all_cons, List.all_nil, Bool.and_true, Bool.true_and, Bool.and_eq_true] at xh
  refine ⟨_, rfl, ?_⟩
  simp [xh]

theorem execEntrySequence_seen (xe : Extent) (n : Fin 4) (s : State) (xh : xe.covers [.seqs] [F.ICU_PENDw_SRC, F.ICU_SPUR] = true) :
    ∃ t, execEntrySequence n s = .next t ∧ State.seen xe t = State.seen xe s := by
  simp only [Extent.covers, List.all_cons, List.all_nil, Bool.and_true, Bool.true_and, Bool.and_eq_true] at xh
  refine ⟨_, rfl, ?_⟩
  simp [xh]

theorem execReti_seen (xe : Extent) (n : Fin 4) (s : State) (xh : xe.covers [.seqs] [F.ICU_PENDw_SRC] = true) :
    ∃ t, execReti n s = .next t ∧ State.seen xe t = State.seen xe s := by
  simp only [Extent.covers, List.all_cons, List.all_nil, Bool.and_true, Bool.true_and, Bool.and_eq_true] at xh
  refine ⟨_, rfl, ?_⟩
  simp [xh]

theorem execWait_seen (xe : Extent) (n : Fin 4) (s : State) (xh : xe.covers [.seqs] [] = true) :
    ∃ t, execWait n s = .next t ∧ State.seen xe t = State.seen xe s := by
  simp only [Extent.covers, List.all_cons, List.all_nil, Bool.and_true, Bool.true_and, Bool.and_eq_true] at xh
  refine ⟨_, rfl, ?_⟩
  simp [xh]

theorem execWaitWake_seen (xe : Extent) (n : Fin 4) (slept : Nat) (s : State) (xh : xe.covers [.seqs] [] = true) :
    ∃ t, execWaitWake n slept s = .next t ∧ State.seen xe t = State.seen xe s := by
  simp only [Extent.covers, List.all_cons, List.all_nil, Bool.and_true, Bool.true_and, Bool.and_eq_true] at xh
  refine ⟨_, rfl, ?_⟩
  simp [xh]

theorem execLeaveOff_seen (xe : Extent) (senior fmode otpErr : Bool) (s : State) (xh : xe.covers [.dev, .auth, .frame, .fresh, .locked, .seqs, .log, .rdata, .time, .table, .fab, .quays, .lanes, .tiles, .exec, .sched, .tide, .pen, .mir, .boot, .cal, .port] [] = true) (xha : xe.all = true) :
    ∃ t, execLeaveOff senior fmode otpErr s = .next t ∧ State.seen xe t = State.seen xe s := by
  simp only [Extent.covers, List.all_cons, List.all_nil, Bool.and_true, Bool.true_and, Bool.and_eq_true] at xh
  have xhr : ∀ f, xe.r f = true := fun f => xe.r_of_all f xha
  refine ⟨_, rfl, ?_⟩
  simp [xh, xha, xhr]

theorem execPllLock_seen (xe : Extent) (p : Fin 3) (s : State) (xh : xe.covers [.frame, .time, .boot] [F.CKG_PLLSTAT_LOCK0, F.CKG_PLLSTAT_LOCK1, F.CKG_PLLSTAT_LOCK2, F.CKG_PLLSTAT_LOL0, F.CKG_PLLSTAT_LOL1, F.CKG_PLLSTAT_LOL2] = true) :
    ∃ t, execPllLock p s = .next t ∧ State.seen xe t = State.seen xe s := by
  simp only [Extent.covers, List.all_cons, List.all_nil, Bool.and_true, Bool.true_and, Bool.and_eq_true] at xh
  refine ⟨_, rfl, ?_⟩
  simp [xh]

theorem execPllLockTimeout_seen (xe : Extent) (s : State) (xh : xe.covers [.dev, .auth, .seqs, .log, .time, .fab, .quays, .lanes, .pen, .mir, .boot, .cal, .port] [F.CAL_ABANDCNT, F.CAL_UCAP_ABANDON, F.CAL_USTAT_RESULT, F.CAL_USTAT_STATE, F.CKG_PLLSTAT_LOCK0, F.CKG_PLLSTAT_LOCK1, F.CKG_PLLSTAT_LOCK2, F.DBG_FLTSTAT_CLASS, F.DBG_LASTSAFEF_FRAME, F.DBG_LASTSAFE_CODE, F.ICU_LOSTCNT, F.ICU_OVRw_SRC, F.ICU_PENDw_SRC, F.NET_STAT_LINK, F.NET_STAT_LINKCHG, F.NET_TXDROP, F.QY_DRVSTAT_AUTH, F.QY_LNKSTAT_STATE, F.QY_LNKSTAT_TLOCK, F.QY_LNKSTAT_ULOCK, F.SYS_BOOTSTAT_FAIL, F.SYS_BOOTSTAT_SLOT, F.TMP_AONSTAT_TRIPPED] = true) :
    ∃ t, execPllLockTimeout s = .next t ∧ State.seen xe t = State.seen xe s := by
  simp only [Extent.covers, List.all_cons, List.all_nil, Bool.and_true, Bool.true_and, Bool.and_eq_true] at xh
  refine ⟨_, rfl, ?_⟩
  simp [xh]

theorem execSelfTestDone_seen (xe : Extent) (r : SelfTest) (s : State) (xh : xe.covers [.dev, .auth, .seqs, .log, .time, .table, .fab, .quays, .lanes, .pen, .mir, .boot, .cal, .port] [F.CAL_ABANDCNT, F.CAL_UCAP_ABANDON, F.CAL_USTAT_RESULT, F.CAL_USTAT_STATE, F.CKG_PLLSTAT_LOCK0, F.CKG_PLLSTAT_LOCK1, F.CKG_PLLSTAT_LOCK2, F.DBG_FLTSTAT_CLASS, F.DBG_LASTSAFEF_FRAME, F.DBG_LASTSAFE_CODE, F.ICU_LOSTCNT, F.ICU_OVRw_SRC, F.ICU_PENDw_SRC, F.MOR_EMAPe_PHYS, F.MOR_ESTATp_CAUSE, F.MOR_ESTATp_LOGICAL, F.MOR_ESTATp_STATE, F.NET_STAT_LINK, F.NET_STAT_LINKCHG, F.NET_TXDROP, F.PVE_STAT_RNGFAIL, F.QY_DRVSTAT_AUTH, F.QY_LNKSTAT_STATE, F.QY_LNKSTAT_TLOCK, F.QY_LNKSTAT_ULOCK, F.SYS_BISTQ_QY, F.SYS_BOOTSTAT_FAIL, F.SYS_BOOTSTAT_SLOT, F.TMP_AONSTAT_TRIPPED] = true) :
    ∃ t, execSelfTestDone r s = .next t ∧ State.seen xe t = State.seen xe s := by
  simp only [Extent.covers, List.all_cons, List.all_nil, Bool.and_true, Bool.true_and, Bool.and_eq_true] at xh
  refine ⟨_, rfl, ?_⟩
  simp [xh]

theorem execImageSlotTry_seen (xe : Extent) (s : State) (xh : xe.covers [.dev, .auth, .frame, .fresh, .locked, .seqs, .log, .rdata, .time, .table, .fab, .quays, .lanes, .tiles, .exec, .sched, .tide, .pen, .mir, .boot, .cal, .port] [] = true) (xha : xe.all = true) :
    ∃ t, execImageSlotTry s = .next t ∧ State.seen xe t = State.seen xe s := by
  simp only [Extent.covers, List.all_cons, List.all_nil, Bool.and_true, Bool.true_and, Bool.and_eq_true] at xh
  have xhr : ∀ f, xe.r f = true := fun f => xe.r_of_all f xha
  refine ⟨_, rfl, ?_⟩
  simp [xh, xha, xhr]

theorem execStagingEnd_seen (xe : Extent) (s : State) (xh : xe.covers [.dev, .auth, .fab, .lanes, .tide, .mir, .port] [F.MIR_STAT_JOINED, F.MIR_STAT_SYNC, F.ROL_STAT_READY, F.SYS_STGEND_FRAME, F.TIM_BCNCFG_RELAY, F.TIM_BCNCFG_ROLE, F.TIM_T3CFG_PRI, F.TIM_T3CFG_SEC] = true) :
    ∃ t, execStagingEnd s = .next t ∧ State.seen xe t = State.seen xe s := by
  simp only [Extent.covers, List.all_cons, List.all_nil, Bool.and_true, Bool.true_and, Bool.and_eq_true] at xh
  refine ⟨_, rfl, ?_⟩
  simp [xh]

theorem execFrameCounterReload_seen (xe : Extent) (s : State) (xh : xe.covers [.frame, .seqs, .time, .fab, .quays, .lanes, .exec, .sched, .pen, .mir, .boot, .cal, .port] [F.ICU_LOSTCNT, F.ICU_OVRw_SRC, F.ICU_PENDw_SRC, F.QY_RNGSTAT_CANCELLED, F.QY_RNGSTAT_PEND, F.QY_TSSTAT_CANCELLED, F.QY_TSSTAT_PEND, F.TIM_STEPDELTA_FRAME, F.TIM_STEPFRM_FRAME, F.TIM_T3STAT_STEPPED] = true) :
    ∃ t, execFrameCounterReload s = .next t ∧ State.seen xe t = State.seen xe s := by
  simp only [Extent.covers, List.all_cons, List.all_nil, Bool.and_true, Bool.true_and, Bool.and_eq_true] at xh
  refine ⟨_, rfl, ?_⟩
  simp [xh]

theorem execEngineDeadline_seen (xe : Extent) (s : State) (xh : xe.covers [.seqs, .log, .fab, .exec, .mir, .port] [F.CKG_ENGHWM_CYCLES, F.CKG_ENGHWM_ENGINE, F.CKG_OVRCNTq, F.CKG_OVRFLAG_QY, F.CKG_OVRLAST_BUNDLE, F.CKG_OVRLAST_FRAME, F.DBG_FLTSTAT_CLASS, F.ICU_LOSTCNT, F.ICU_OVRw_SRC, F.ICU_PENDw_SRC, F.MOR_BFSAT, F.MOR_CLAMPCNT, F.MOR_DARKCNT, F.MOR_ESTATp_CAUSE, F.MOR_ESTATp_STATE, F.MOR_FOLDCNT, F.MOR_SETFAIL, F.MOR_SKIPGAP, F.MOR_STAT_ENGFLT, F.QY_DRVSAT, F.SEG_STAT_UNDACT, F.SEG_UNDCNT, F.SEG_UNDFLAG_QY, F.SEG_UNDLAST_FRAME, F.SEG_UNDLAST_SLOT] = true) :
    ∃ t, execEngineDeadline s = .next t ∧ State.seen xe t = State.seen xe s := by
  simp only [Extent.covers, List.all_cons, List.all_nil, Bool.and_true, Bool.true_and, Bool.and_eq_true] at xh
  refine ⟨_, rfl, ?_⟩
  simp [xh]

theorem execFrameTick_seen (xe : Extent) (s : State) (xh : xe.covers [.dev, .auth, .frame, .fresh, .locked, .seqs, .log, .rdata, .time, .table, .fab, .quays, .lanes, .tiles, .exec, .sched, .tide, .pen, .mir, .boot, .cal, .port] [] = true) (xha : xe.all = true) :
    ∃ t, execFrameTick s = .next t ∧ State.seen xe t = State.seen xe s := by
  simp only [Extent.covers, List.all_cons, List.all_nil, Bool.and_true, Bool.true_and, Bool.and_eq_true] at xh
  have xhr : ∀ f, xe.r f = true := fun f => xe.r_of_all f xha
  refine ⟨_, rfl, ?_⟩
  simp [xh, xha, xhr]

end Sys2Proof.Machine
end

