-- ==== Sys2Proof/Laws/Tables.lean ====
section
/-! SUPPORT. Sparse tables, lists and register fields: a read after a write, what a write leaves alone, and that every
write keeps the canonical form. -/
namespace Sys2Proof.Machine

variable {α : Type}

/-! ### Sparse tables -/

theorem tget_tins (d : α) (t : Tbl α) (k : Nat) (v : α) (h : k ∉ tkeys t) : tget d (tins t k v) k = v := by
  induction t with
  | nil => simp [tins, tget]
  | cons e r ih =>
    simp [tkeys] at h ih
    unfold tins
    split
    · simp [tget]
    · simp [tget, Ne.symm h.1]
      exact ih h.2

theorem tkeys_tdel (t : Tbl α) (k : Nat) : k ∉ tkeys (tdel t k) := by
  induction t with
  | nil => simp [tdel, tkeys]
  | cons e r ih =>
    unfold tdel
    split
    · exact ih
    · rename_i h
      simp [tkeys] at ih ⊢
      exact ⟨fun q => h q.symm, ih⟩

theorem tget_absent (d : α) (t : Tbl α) (k : Nat) (h : k ∉ tkeys t) : tget d t k = d := by
  induction t with
  | nil => rfl
  | cons e r ih =>
    simp [tkeys] at h ih
    simp [tget, Ne.symm h.1]
    exact ih h.2

/-- A read after a write gives what was written. -/
@[simp] theorem tget_tset [DecidableEq α] (d : α) (t : Tbl α) (k : Nat) (v : α) : tget d (tset d t k v) k = v := by
  unfold tset
  split
  · rename_i h; rw [tget_absent _ _ _ (tkeys_tdel t k), h]
  · exact tget_tins d _ k v (tkeys_tdel t k)

@[simp] theorem tget_tmod [DecidableEq α] (d : α) (t : Tbl α) (k : Nat) (f : α → α) :
    tget d (tmod d t k f) k = f (tget d t k) := tget_tset ..

theorem tget_tmod_ne [DecidableEq α] (d : α) (t : Tbl α) (k j : Nat) (f : α → α) (h : j ≠ k) :
    tget d (tmod d t k f) j = tget d t j := tget_tset_ne _ _ _ _ _ h

/-! ### The canonical form -/

theorem twf_cons [DecidableEq α] (d : α) (e : Nat × α) (r : Tbl α) :
    twf d (e :: r) = true ↔ e.2 ≠ d ∧ (∀ x ∈ r, e.1 < x.1) ∧ twf d r = true := by
  simp [twf, and_assoc]

theorem mem_tdel (t : Tbl α) (k : Nat) (x : Nat × α) (h : x ∈ tdel t k) : x ∈ t := by
  induction t with
  | nil => exact h
  | cons e r ih =>
    unfold tdel at h
    split at h
    · exact List.mem_cons_of_mem _ (ih h)
    · rcases List.mem_cons.1 h with rfl | h
      · exact List.mem_cons_self
      · exact List.mem_cons_of_mem _ (ih h)

theorem mem_tins (t : Tbl α) (k : Nat) (v : α) (x : Nat × α) (h : x ∈ tins t k v) : x = (k, v) ∨ x ∈ t := by
  induction t with
  | nil => simpa [tins] using h
  | cons e r ih =>
    unfold tins at h
    split at h
    · simpa using h
    · rcases List.mem_cons.1 h with rfl | h
      · exact .inr List.mem_cons_self
      · rcases ih h with h | h
        · exact .inl h
        · exact .inr (List.mem_cons_of_mem _ h)

theorem twf_tdel [DecidableEq α] (d : α) (t : Tbl α) (k : Nat) (h : twf d t = true) : twf d (tdel t k) = true := by
  induction t with
  | nil => exact h
  | cons e r ih =>
    obtain ⟨h1, h2, h3⟩ := (twf_cons d e r).1 h
    unfold tdel
    split
    · exact ih h3
    · exact (twf_cons d e _).2 ⟨h1, fun x hx => h2 x (mem_tdel r k x hx), ih h3⟩

theorem twf_tins [DecidableEq α] (d : α) (t : Tbl α) (k : Nat) (v : α) (hv : v ≠ d) (hk : k ∉ tkeys t)
    (h : twf d t = true) : twf d (tins t k v) = true := by
  induction t with
  | nil => simp [tins, twf, hv]
  | cons e r ih =>
    obtain ⟨h1, h2, h3⟩ := (twf_cons d e r).1 h
    have hk1 : k ≠ e.1 := fun q => hk (by simp [tkeys, q])
    have hk2 : k ∉ tkeys r := fun q => hk (by simp [tkeys] at q ⊢; exact .inr q)
    unfold tins
    split
    · rename_i hlt
      refine (twf_cons d _ _).2 ⟨hv, ?_, h⟩
      intro x hx
      rcases List.mem_cons.1 hx with rfl | hx
      · exact hlt
      · exact Nat.lt_trans hlt (h2 x hx)
    · rename_i hlt
      refine (twf_cons d e _).2 ⟨h1, ?_, ih hk2 h3⟩
      intro x hx
      rcases mem_tins r k v x hx with rfl | hx
      · exact show e.1 < k by omega
      · exact h2 x hx

/-- A write keeps the canonical form. -/
theorem twf_tset [DecidableEq α] (d : α) (t : Tbl α) (k : Nat) (v : α) (h : twf d t = true) :
    twf d (tset d t k v) = true := by
  unfold tset
  split
  · exact twf_tdel d t k h
  · rename_i hv; exact twf_tins d _ k v hv (tkeys_tdel t k) (twf_tdel d t k h)

theorem twf_tmod [DecidableEq α] (d : α) (t : Tbl α) (k : Nat) (f : α → α) (h : twf d t = true) :
    twf d (tmod d t k f) = true := twf_tset d t k _ h

/-- A write of bytes keeps the canonical form. -/
theorem twf_tsetBytes (t : Tbl Byte) (d : Byte) (a : Nat) (bs : List Byte) (h : twf d t = true) :
    twf d (tsetBytes t d a bs) = true := by
  induction bs generalizing t a with
  | nil => exact h
  | cons b r ih => exact ih _ _ (twf_tset d t a b h)

/-- Every memory operation keeps the form. -/
theorem State.memPut_wf (s : State) (a : Nat) (bs : List Byte) (h : Memory.wf 0 s.table = true) :
    Memory.wf 0 (s.memPut a bs).table = true := twf_tsetBytes _ _ _ _ h

/-- At reset memory is canonical. -/
theorem State.reset_table_wf : Memory.wf 0 State.reset.table = true := rfl

/-! ### Bytes of memory -/

/-- A byte outside the bytes written reads as before. -/
theorem tget_tsetBytes_ne (t : Tbl Byte) (d : Byte) (a : Nat) (bs : List Byte) (k : Nat)
    (h : k < a ∨ a + bs.length ≤ k) : tget d (tsetBytes t d a bs) k = tget d t k := by
  induction bs generalizing t a with
  | nil => rfl
  | cons b r ih =>
    simp only [List.length_cons] at h
    unfold tsetBytes
    rw [ih _ _ (by omega), tget_tset_ne _ _ _ _ _ (by omega)]

/-- A byte written reads as written. -/
theorem tget_tsetBytes (t : Tbl Byte) (d : Byte) (a : Nat) (bs : List Byte) (i : Nat) (h : i < bs.length) :
    tget d (tsetBytes t d a bs) (a + i) = bs.getD i d := by
  induction bs generalizing t a i with
  | nil => simp at h
  | cons b r ih =>
    unfold tsetBytes
    cases i with
    | zero => rw [tget_tsetBytes_ne _ _ _ _ _ (by omega)]; simp
    | succ i =>
      have := ih (tset d t a b) (a + 1) i (by simpa using h)
      simpa [Nat.add_assoc, Nat.add_comm 1] using this

/-! ### Lists by place -/

@[simp] theorem setAt_length (l : List α) (i : Nat) (v : α) : (setAt l i v).length = l.length := by
  induction l generalizing i with
  | nil => rfl
  | cons x t ih => cases i <;> simp [setAt, ih]

theorem getD_setAt (l : List α) (i j : Nat) (v d : α) :
    (setAt l i v).getD j d = if j = i ∧ i < l.length then v else l.getD j d := by
  induction l generalizing i j with
  | nil => simp [setAt]
  | cons x t ih =>
    cases i with
    | zero => cases j <;> simp [setAt]
    | succ i =>
      cases j with
      | zero => simp [setAt]
      | succ j => simpa [setAt] using ih i j

theorem getD_setAt_ne (l : List α) (i j : Nat) (v d : α) (h : j ≠ i) : (setAt l i v).getD j d = l.getD j d := by
  rw [getD_setAt]; simp [h]

/-! ### Register fields -/

theorem xor_mod_cancel (a r w : Nat) : ((a % 2 ^ w ^^^ r % 2 ^ w) ^^^ r) % 2 ^ w = a % 2 ^ w := by
  rw [Nat.xor_mod_two_pow]
  rw [Nat.xor_mod_two_pow, Nat.mod_mod, Nat.mod_mod, Nat.xor_assoc, Nat.xor_self, Nat.xor_zero]

/-- A field reads as it was written, to its width. -/
@[simp] theorem State.fgi_fsi (s : State) (f : Fld) (i v : Nat) : (s.fsi f i v).fgi f i = v % 2 ^ f.width := by
  unfold State.fgi State.fsi
  rw [tget_tset]; exact xor_mod_cancel v (f.reset i) f.width

/-- The write of a field leaves every other field alone, in every instance. -/
theorem State.fgi_fsi_ne (s : State) (f g : Fld) (i j v : Nat) (h : g.id ≠ f.id) : (s.fsi f i v).fgi g j = s.fgi g j := by
  unfold State.fgi State.fsi
  rw [tget_tset_ne _ _ _ _ _ (by unfold Fld.key; omega)]

/-- The write of an instance leaves the other instances alone. -/
theorem State.fgi_fsi_inst (s : State) (f : Fld) (i j v : Nat) (h : j ≠ i) (hi : i < 16384) (hj : j < 16384) :
    (s.fsi f i v).fgi f j = s.fgi f j := by
  unfold State.fgi State.fsi
  rw [tget_tset_ne _ _ _ _ _ (by unfold Fld.key; omega)]

/-- A field is below 2 to its width. -/
theorem State.fgi_lt (s : State) (f : Fld) (i : Nat) : s.fgi f i < 2 ^ f.width := Nat.mod_lt _ (Nat.two_pow_pos _)

/-! ### What an extent says of two states -/

theorem State.fgi_of_seen (e : Extent) (s t : State) (f : Fld) (i : Nat) (h : State.seen e t = State.seen e s)
    (hf : e.r f = false) : t.fgi f i = s.fgi f i := by
  have h2 := congrFun (congrArg Prod.snd h) (f.key i)
  simp only [State.seen, Extent.at_key, hf] at h2
  unfold State.fgi
  simp only [Bool.false_eq_true, if_false] at h2
  rw [h2]

end Sys2Proof.Machine
end

