-- ==== Sys2Proof/Laws/State.lean ====
section
/-! SUPPORT. What each named update of the state leaves in each field of it: every lemma holds by definition. -/
namespace Sys2Proof.Machine

/-! ### Each update, field by field -/

@[simp] theorem State.fsi_dev (s : State) (f : Fld) (i v : Nat) : (s.fsi f i v).dev = s.dev := rfl
@[simp] theorem State.fsi_auth (s : State) (f : Fld) (i v : Nat) : (s.fsi f i v).auth = s.auth := rfl
@[simp] theorem State.fsi_frame (s : State) (f : Fld) (i v : Nat) : (s.fsi f i v).frame = s.frame := rfl
@[simp] theorem State.fsi_fresh (s : State) (f : Fld) (i v : Nat) : (s.fsi f i v).fresh = s.fresh := rfl
@[simp] theorem State.fsi_locked (s : State) (f : Fld) (i v : Nat) : (s.fsi f i v).locked = s.locked := rfl
theorem State.fsi_regs (s : State) (f : Fld) (i v : Nat) : (s.fsi f i v).regs = tset 0 s.regs (f.key i) ((v % 2 ^ f.width) ^^^ (f.reset i % 2 ^ f.width)) := rfl
@[simp] theorem State.fsi_seqs (s : State) (f : Fld) (i v : Nat) : (s.fsi f i v).seqs = s.seqs := rfl
@[simp] theorem State.fsi_log (s : State) (f : Fld) (i v : Nat) : (s.fsi f i v).log = s.log := rfl
@[simp] theorem State.fsi_rdata (s : State) (f : Fld) (i v : Nat) : (s.fsi f i v).rdata = s.rdata := rfl
@[simp] theorem State.fsi_time (s : State) (f : Fld) (i v : Nat) : (s.fsi f i v).time = s.time := rfl
@[simp] theorem State.fsi_table (s : State) (f : Fld) (i v : Nat) : (s.fsi f i v).table = s.table := rfl
@[simp] theorem State.fsi_fab (s : State) (f : Fld) (i v : Nat) : (s.fsi f i v).fab = s.fab := rfl
@[simp] theorem State.fsi_quays (s : State) (f : Fld) (i v : Nat) : (s.fsi f i v).quays = s.quays := rfl
@[simp] theorem State.fsi_lanes (s : State) (f : Fld) (i v : Nat) : (s.fsi f i v).lanes = s.lanes := rfl
@[simp] theorem State.fsi_tiles (s : State) (f : Fld) (i v : Nat) : (s.fsi f i v).tiles = s.tiles := rfl
@[simp] theorem State.fsi_exec (s : State) (f : Fld) (i v : Nat) : (s.fsi f i v).exec = s.exec := rfl
@[simp] theorem State.fsi_sched (s : State) (f : Fld) (i v : Nat) : (s.fsi f i v).sched = s.sched := rfl
@[simp] theorem State.fsi_tide (s : State) (f : Fld) (i v : Nat) : (s.fsi f i v).tide = s.tide := rfl
@[simp] theorem State.fsi_pen (s : State) (f : Fld) (i v : Nat) : (s.fsi f i v).pen = s.pen := rfl
@[simp] theorem State.fsi_mir (s : State) (f : Fld) (i v : Nat) : (s.fsi f i v).mir = s.mir := rfl
@[simp] theorem State.fsi_boot (s : State) (f : Fld) (i v : Nat) : (s.fsi f i v).boot = s.boot := rfl
@[simp] theorem State.fsi_cal (s : State) (f : Fld) (i v : Nat) : (s.fsi f i v).cal = s.cal := rfl
@[simp] theorem State.fsi_port (s : State) (f : Fld) (i v : Nat) : (s.fsi f i v).port = s.port := rfl
@[simp] theorem State.fsi_pending (s : State) (f : Fld) (i v : Nat) : (s.fsi f i v).pending = s.pending := rfl

@[simp] theorem State.fs_dev (s : State) (f : Fld) (v : Nat) : (s.fs f v).dev = s.dev := rfl
@[simp] theorem State.fs_auth (s : State) (f : Fld) (v : Nat) : (s.fs f v).auth = s.auth := rfl
@[simp] theorem State.fs_frame (s : State) (f : Fld) (v : Nat) : (s.fs f v).frame = s.frame := rfl
@[simp] theorem State.fs_fresh (s : State) (f : Fld) (v : Nat) : (s.fs f v).fresh = s.fresh := rfl
@[simp] theorem State.fs_locked (s : State) (f : Fld) (v : Nat) : (s.fs f v).locked = s.locked := rfl
theorem State.fs_regs (s : State) (f : Fld) (v : Nat) : (s.fs f v).regs = (s.fsi f 0 v).regs := rfl
@[simp] theorem State.fs_seqs (s : State) (f : Fld) (v : Nat) : (s.fs f v).seqs = s.seqs := rfl
@[simp] theorem State.fs_log (s : State) (f : Fld) (v : Nat) : (s.fs f v).log = s.log := rfl
@[simp] theorem State.fs_rdata (s : State) (f : Fld) (v : Nat) : (s.fs f v).rdata = s.rdata := rfl
@[simp] theorem State.fs_time (s : State) (f : Fld) (v : Nat) : (s.fs f v).time = s.time := rfl
@[simp] theorem State.fs_table (s : State) (f : Fld) (v : Nat) : (s.fs f v).table = s.table := rfl
@[simp] theorem State.fs_fab (s : State) (f : Fld) (v : Nat) : (s.fs f v).fab = s.fab := rfl
@[simp] theorem State.fs_quays (s : State) (f : Fld) (v : Nat) : (s.fs f v).quays = s.quays := rfl
@[simp] theorem State.fs_lanes (s : State) (f : Fld) (v : Nat) : (s.fs f v).lanes = s.lanes := rfl
@[simp] theorem State.fs_tiles (s : State) (f : Fld) (v : Nat) : (s.fs f v).tiles = s.tiles := rfl
@[simp] theorem State.fs_exec (s : State) (f : Fld) (v : Nat) : (s.fs f v).exec = s.exec := rfl
@[simp] theorem State.fs_sched (s : State) (f : Fld) (v : Nat) : (s.fs f v).sched = s.sched := rfl
@[simp] theorem State.fs_tide (s : State) (f : Fld) (v : Nat) : (s.fs f v).tide = s.tide := rfl
@[simp] theorem State.fs_pen (s : State) (f : Fld) (v : Nat) : (s.fs f v).pen = s.pen := rfl
@[simp] theorem State.fs_mir (s : State) (f : Fld) (v : Nat) : (s.fs f v).mir = s.mir := rfl
@[simp] theorem State.fs_boot (s : State) (f : Fld) (v : Nat) : (s.fs f v).boot = s.boot := rfl
@[simp] theorem State.fs_cal (s : State) (f : Fld) (v : Nat) : (s.fs f v).cal = s.cal := rfl
@[simp] theorem State.fs_port (s : State) (f : Fld) (v : Nat) : (s.fs f v).port = s.port := rfl
@[simp] theorem State.fs_pending (s : State) (f : Fld) (v : Nat) : (s.fs f v).pending = s.pending := rfl

@[simp] theorem State.fb_dev (s : State) (f : Fld) (b : Bool) : (s.fb f b).dev = s.dev := rfl
@[simp] theorem State.fb_auth (s : State) (f : Fld) (b : Bool) : (s.fb f b).auth = s.auth := rfl
@[simp] theorem State.fb_frame (s : State) (f : Fld) (b : Bool) : (s.fb f b).frame = s.frame := rfl
@[simp] theorem State.fb_fresh (s : State) (f : Fld) (b : Bool) : (s.fb f b).fresh = s.fresh := rfl
@[simp] theorem State.fb_locked (s : State) (f : Fld) (b : Bool) : (s.fb f b).locked = s.locked := rfl
theorem State.fb_regs (s : State) (f : Fld) (b : Bool) : (s.fb f b).regs = (s.fsi f 0 (b2n b)).regs := rfl
@[simp] theorem State.fb_seqs (s : State) (f : Fld) (b : Bool) : (s.fb f b).seqs = s.seqs := rfl
@[simp] theorem State.fb_log (s : State) (f : Fld) (b : Bool) : (s.fb f b).log = s.log := rfl
@[simp] theorem State.fb_rdata (s : State) (f : Fld) (b : Bool) : (s.fb f b).rdata = s.rdata := rfl
@[simp] theorem State.fb_time (s : State) (f : Fld) (b : Bool) : (s.fb f b).time = s.time := rfl
@[simp] theorem State.fb_table (s : State) (f : Fld) (b : Bool) : (s.fb f b).table = s.table := rfl
@[simp] theorem State.fb_fab (s : State) (f : Fld) (b : Bool) : (s.fb f b).fab = s.fab := rfl
@[simp] theorem State.fb_quays (s : State) (f : Fld) (b : Bool) : (s.fb f b).quays = s.quays := rfl
@[simp] theorem State.fb_lanes (s : State) (f : Fld) (b : Bool) : (s.fb f b).lanes = s.lanes := rfl
@[simp] theorem State.fb_tiles (s : State) (f : Fld) (b : Bool) : (s.fb f b).tiles = s.tiles := rfl
@[simp] theorem State.fb_exec (s : State) (f : Fld) (b : Bool) : (s.fb f b).exec = s.exec := rfl
@[simp] theorem State.fb_sched (s : State) (f : Fld) (b : Bool) : (s.fb f b).sched = s.sched := rfl
@[simp] theorem State.fb_tide (s : State) (f : Fld) (b : Bool) : (s.fb f b).tide = s.tide := rfl
@[simp] theorem State.fb_pen (s : State) (f : Fld) (b : Bool) : (s.fb f b).pen = s.pen := rfl
@[simp] theorem State.fb_mir (s : State) (f : Fld) (b : Bool) : (s.fb f b).mir = s.mir := rfl
@[simp] theorem State.fb_boot (s : State) (f : Fld) (b : Bool) : (s.fb f b).boot = s.boot := rfl
@[simp] theorem State.fb_cal (s : State) (f : Fld) (b : Bool) : (s.fb f b).cal = s.cal := rfl
@[simp] theorem State.fb_port (s : State) (f : Fld) (b : Bool) : (s.fb f b).port = s.port := rfl
@[simp] theorem State.fb_pending (s : State) (f : Fld) (b : Bool) : (s.fb f b).pending = s.pending := rfl

@[simp] theorem State.fbi_dev (s : State) (f : Fld) (i : Nat) (b : Bool) : (s.fbi f i b).dev = s.dev := rfl
@[simp] theorem State.fbi_auth (s : State) (f : Fld) (i : Nat) (b : Bool) : (s.fbi f i b).auth = s.auth := rfl
@[simp] theorem State.fbi_frame (s : State) (f : Fld) (i : Nat) (b : Bool) : (s.fbi f i b).frame = s.frame := rfl
@[simp] theorem State.fbi_fresh (s : State) (f : Fld) (i : Nat) (b : Bool) : (s.fbi f i b).fresh = s.fresh := rfl
@[simp] theorem State.fbi_locked (s : State) (f : Fld) (i : Nat) (b : Bool) : (s.fbi f i b).locked = s.locked := rfl
theorem State.fbi_regs (s : State) (f : Fld) (i : Nat) (b : Bool) : (s.fbi f i b).regs = (s.fsi f i (b2n b)).regs := rfl
@[simp] theorem State.fbi_seqs (s : State) (f : Fld) (i : Nat) (b : Bool) : (s.fbi f i b).seqs = s.seqs := rfl
@[simp] theorem State.fbi_log (s : State) (f : Fld) (i : Nat) (b : Bool) : (s.fbi f i b).log = s.log := rfl
@[simp] theorem State.fbi_rdata (s : State) (f : Fld) (i : Nat) (b : Bool) : (s.fbi f i b).rdata = s.rdata := rfl
@[simp] theorem State.fbi_time (s : State) (f : Fld) (i : Nat) (b : Bool) : (s.fbi f i b).time = s.time := rfl
@[simp] theorem State.fbi_table (s : State) (f : Fld) (i : Nat) (b : Bool) : (s.fbi f i b).table = s.table := rfl
@[simp] theorem State.fbi_fab (s : State) (f : Fld) (i : Nat) (b : Bool) : (s.fbi f i b).fab = s.fab := rfl
@[simp] theorem State.fbi_quays (s : State) (f : Fld) (i : Nat) (b : Bool) : (s.fbi f i b).quays = s.quays := rfl
@[simp] theorem State.fbi_lanes (s : State) (f : Fld) (i : Nat) (b : Bool) : (s.fbi f i b).lanes = s.lanes := rfl
@[simp] theorem State.fbi_tiles (s : State) (f : Fld) (i : Nat) (b : Bool) : (s.fbi f i b).tiles = s.tiles := rfl
@[simp] theorem State.fbi_exec (s : State) (f : Fld) (i : Nat) (b : Bool) : (s.fbi f i b).exec = s.exec := rfl
@[simp] theorem State.fbi_sched (s : State) (f : Fld) (i : Nat) (b : Bool) : (s.fbi f i b).sched = s.sched := rfl
@[simp] theorem State.fbi_tide (s : State) (f : Fld) (i : Nat) (b : Bool) : (s.fbi f i b).tide = s.tide := rfl
@[simp] theorem State.fbi_pen (s : State) (f : Fld) (i : Nat) (b : Bool) : (s.fbi f i b).pen = s.pen := rfl
@[simp] theorem State.fbi_mir (s : State) (f : Fld) (i : Nat) (b : Bool) : (s.fbi f i b).mir = s.mir := rfl
@[simp] theorem State.fbi_boot (s : State) (f : Fld) (i : Nat) (b : Bool) : (s.fbi f i b).boot = s.boot := rfl
@[simp] theorem State.fbi_cal (s : State) (f : Fld) (i : Nat) (b : Bool) : (s.fbi f i b).cal = s.cal := rfl
@[simp] theorem State.fbi_port (s : State) (f : Fld) (i : Nat) (b : Bool) : (s.fbi f i b).port = s.port := rfl
@[simp] theorem State.fbi_pending (s : State) (f : Fld) (i : Nat) (b : Bool) : (s.fbi f i b).pending = s.pending := rfl

@[simp] theorem State.modFab_dev (s : State) (g : Fabric → Fabric) : (s.modFab g).dev = s.dev := rfl
@[simp] theorem State.modFab_auth (s : State) (g : Fabric → Fabric) : (s.modFab g).auth = s.auth := rfl
@[simp] theorem State.modFab_frame (s : State) (g : Fabric → Fabric) : (s.modFab g).frame = s.frame := rfl
@[simp] theorem State.modFab_fresh (s : State) (g : Fabric → Fabric) : (s.modFab g).fresh = s.fresh := rfl
@[simp] theorem State.modFab_locked (s : State) (g : Fabric → Fabric) : (s.modFab g).locked = s.locked := rfl
@[simp] theorem State.modFab_regs (s : State) (g : Fabric → Fabric) : (s.modFab g).regs = s.regs := rfl
@[simp] theorem State.modFab_seqs (s : State) (g : Fabric → Fabric) : (s.modFab g).seqs = s.seqs := rfl
@[simp] theorem State.modFab_log (s : State) (g : Fabric → Fabric) : (s.modFab g).log = s.log := rfl
@[simp] theorem State.modFab_rdata (s : State) (g : Fabric → Fabric) : (s.modFab g).rdata = s.rdata := rfl
@[simp] theorem State.modFab_time (s : State) (g : Fabric → Fabric) : (s.modFab g).time = s.time := rfl
@[simp] theorem State.modFab_table (s : State) (g : Fabric → Fabric) : (s.modFab g).table = s.table := rfl
@[simp] theorem State.modFab_fab (s : State) (g : Fabric → Fabric) : (s.modFab g).fab = g s.fab := rfl
@[simp] theorem State.modFab_quays (s : State) (g : Fabric → Fabric) : (s.modFab g).quays = s.quays := rfl
@[simp] theorem State.modFab_lanes (s : State) (g : Fabric → Fabric) : (s.modFab g).lanes = s.lanes := rfl
@[simp] theorem State.modFab_tiles (s : State) (g : Fabric → Fabric) : (s.modFab g).tiles = s.tiles := rfl
@[simp] theorem State.modFab_exec (s : State) (g : Fabric → Fabric) : (s.modFab g).exec = s.exec := rfl
@[simp] theorem State.modFab_sched (s : State) (g : Fabric → Fabric) : (s.modFab g).sched = s.sched := rfl
@[simp] theorem State.modFab_tide (s : State) (g : Fabric → Fabric) : (s.modFab g).tide = s.tide := rfl
@[simp] theorem State.modFab_pen (s : State) (g : Fabric → Fabric) : (s.modFab g).pen = s.pen := rfl
@[simp] theorem State.modFab_mir (s : State) (g : Fabric → Fabric) : (s.modFab g).mir = s.mir := rfl
@[simp] theorem State.modFab_boot (s : State) (g : Fabric → Fabric) : (s.modFab g).boot = s.boot := rfl
@[simp] theorem State.modFab_cal (s : State) (g : Fabric → Fabric) : (s.modFab g).cal = s.cal := rfl
@[simp] theorem State.modFab_port (s : State) (g : Fabric → Fabric) : (s.modFab g).port = s.port := rfl
@[simp] theorem State.modFab_pending (s : State) (g : Fabric → Fabric) : (s.modFab g).pending = s.pending := rfl
@[simp] theorem State.modFab_fgi (s : State) (g : Fabric → Fabric) (k : Fld) (j : Nat) : (s.modFab g).fgi k j = s.fgi k j := rfl

@[simp] theorem State.modSlot_dev (s : State) (n : Nat) (g : Slot → Slot) : (s.modSlot n g).dev = s.dev := rfl
@[simp] theorem State.modSlot_auth (s : State) (n : Nat) (g : Slot → Slot) : (s.modSlot n g).auth = s.auth := rfl
@[simp] theorem State.modSlot_frame (s : State) (n : Nat) (g : Slot → Slot) : (s.modSlot n g).frame = s.frame := rfl
@[simp] theorem State.modSlot_fresh (s : State) (n : Nat) (g : Slot → Slot) : (s.modSlot n g).fresh = s.fresh := rfl
@[simp] theorem State.modSlot_locked (s : State) (n : Nat) (g : Slot → Slot) : (s.modSlot n g).locked = s.locked := rfl
@[simp] theorem State.modSlot_regs (s : State) (n : Nat) (g : Slot → Slot) : (s.modSlot n g).regs = s.regs := rfl
@[simp] theorem State.modSlot_seqs (s : State) (n : Nat) (g : Slot → Slot) : (s.modSlot n g).seqs = s.seqs := rfl
@[simp] theorem State.modSlot_log (s : State) (n : Nat) (g : Slot → Slot) : (s.modSlot n g).log = s.log := rfl
@[simp] theorem State.modSlot_rdata (s : State) (n : Nat) (g : Slot → Slot) : (s.modSlot n g).rdata = s.rdata := rfl
@[simp] theorem State.modSlot_time (s : State) (n : Nat) (g : Slot → Slot) : (s.modSlot n g).time = s.time := rfl
@[simp] theorem State.modSlot_table (s : State) (n : Nat) (g : Slot → Slot) : (s.modSlot n g).table = s.table := rfl
@[simp] theorem State.modSlot_fab (s : State) (n : Nat) (g : Slot → Slot) : (s.modSlot n g).fab = { s.fab with slots := tmod Slot.init s.fab.slots n g } := rfl
@[simp] theorem State.modSlot_quays (s : State) (n : Nat) (g : Slot → Slot) : (s.modSlot n g).quays = s.quays := rfl
@[simp] theorem State.modSlot_lanes (s : State) (n : Nat) (g : Slot → Slot) : (s.modSlot n g).lanes = s.lanes := rfl
@[simp] theorem State.modSlot_tiles (s : State) (n : Nat) (g : Slot → Slot) : (s.modSlot n g).tiles = s.tiles := rfl
@[simp] theorem State.modSlot_exec (s : State) (n : Nat) (g : Slot → Slot) : (s.modSlot n g).exec = s.exec := rfl
@[simp] theorem State.modSlot_sched (s : State) (n : Nat) (g : Slot → Slot) : (s.modSlot n g).sched = s.sched := rfl
@[simp] theorem State.modSlot_tide (s : State) (n : Nat) (g : Slot → Slot) : (s.modSlot n g).tide = s.tide := rfl
@[simp] theorem State.modSlot_pen (s : State) (n : Nat) (g : Slot → Slot) : (s.modSlot n g).pen = s.pen := rfl
@[simp] theorem State.modSlot_mir (s : State) (n : Nat) (g : Slot → Slot) : (s.modSlot n g).mir = s.mir := rfl
@[simp] theorem State.modSlot_boot (s : State) (n : Nat) (g : Slot → Slot) : (s.modSlot n g).boot = s.boot := rfl
@[simp] theorem State.modSlot_cal (s : State) (n : Nat) (g : Slot → Slot) : (s.modSlot n g).cal = s.cal := rfl
@[simp] theorem State.modSlot_port (s : State) (n : Nat) (g : Slot → Slot) : (s.modSlot n g).port = s.port := rfl
@[simp] theorem State.modSlot_pending (s : State) (n : Nat) (g : Slot → Slot) : (s.modSlot n g).pending = s.pending := rfl
@[simp] theorem State.modSlot_fgi (s : State) (n : Nat) (g : Slot → Slot) (k : Fld) (j : Nat) : (s.modSlot n g).fgi k j = s.fgi k j := rfl

@[simp] theorem State.modLoop_dev (s : State) (n : Nat) (g : Loop → Loop) : (s.modLoop n g).dev = s.dev := rfl
@[simp] theorem State.modLoop_auth (s : State) (n : Nat) (g : Loop → Loop) : (s.modLoop n g).auth = s.auth := rfl
@[simp] theorem State.modLoop_frame (s : State) (n : Nat) (g : Loop → Loop) : (s.modLoop n g).frame = s.frame := rfl
@[simp] theorem State.modLoop_fresh (s : State) (n : Nat) (g : Loop → Loop) : (s.modLoop n g).fresh = s.fresh := rfl
@[simp] theorem State.modLoop_locked (s : State) (n : Nat) (g : Loop → Loop) : (s.modLoop n g).locked = s.locked := rfl
@[simp] theorem State.modLoop_regs (s : State) (n : Nat) (g : Loop → Loop) : (s.modLoop n g).regs = s.regs := rfl
@[simp] theorem State.modLoop_seqs (s : State) (n : Nat) (g : Loop → Loop) : (s.modLoop n g).seqs = s.seqs := rfl
@[simp] theorem State.modLoop_log (s : State) (n : Nat) (g : Loop → Loop) : (s.modLoop n g).log = s.log := rfl
@[simp] theorem State.modLoop_rdata (s : State) (n : Nat) (g : Loop → Loop) : (s.modLoop n g).rdata = s.rdata := rfl
@[simp] theorem State.modLoop_time (s : State) (n : Nat) (g : Loop → Loop) : (s.modLoop n g).time = s.time := rfl
@[simp] theorem State.modLoop_table (s : State) (n : Nat) (g : Loop → Loop) : (s.modLoop n g).table = s.table := rfl
@[simp] theorem State.modLoop_fab (s : State) (n : Nat) (g : Loop → Loop) : (s.modLoop n g).fab = { s.fab with slots := tmod Slot.init s.fab.slots n fun x => { x with lp := g x.lp } } := rfl
@[simp] theorem State.modLoop_quays (s : State) (n : Nat) (g : Loop → Loop) : (s.modLoop n g).quays = s.quays := rfl
@[simp] theorem State.modLoop_lanes (s : State) (n : Nat) (g : Loop → Loop) : (s.modLoop n g).lanes = s.lanes := rfl
@[simp] theorem State.modLoop_tiles (s : State) (n : Nat) (g : Loop → Loop) : (s.modLoop n g).tiles = s.tiles := rfl
@[simp] theorem State.modLoop_exec (s : State) (n : Nat) (g : Loop → Loop) : (s.modLoop n g).exec = s.exec := rfl
@[simp] theorem State.modLoop_sched (s : State) (n : Nat) (g : Loop → Loop) : (s.modLoop n g).sched = s.sched := rfl
@[simp] theorem State.modLoop_tide (s : State) (n : Nat) (g : Loop → Loop) : (s.modLoop n g).tide = s.tide := rfl
@[simp] theorem State.modLoop_pen (s : State) (n : Nat) (g : Loop → Loop) : (s.modLoop n g).pen = s.pen := rfl
@[simp] theorem State.modLoop_mir (s : State) (n : Nat) (g : Loop → Loop) : (s.modLoop n g).mir = s.mir := rfl
@[simp] theorem State.modLoop_boot (s : State) (n : Nat) (g : Loop → Loop) : (s.modLoop n g).boot = s.boot := rfl
@[simp] theorem State.modLoop_cal (s : State) (n : Nat) (g : Loop → Loop) : (s.modLoop n g).cal = s.cal := rfl
@[simp] theorem State.modLoop_port (s : State) (n : Nat) (g : Loop → Loop) : (s.modLoop n g).port = s.port := rfl
@[simp] theorem State.modLoop_pending (s : State) (n : Nat) (g : Loop → Loop) : (s.modLoop n g).pending = s.pending := rfl
@[simp] theorem State.modLoop_fgi (s : State) (n : Nat) (g : Loop → Loop) (k : Fld) (j : Nat) : (s.modLoop n g).fgi k j = s.fgi k j := rfl

@[simp] theorem State.modBun_dev (s : State) (n : Nat) (g : Bundle → Bundle) : (s.modBun n g).dev = s.dev := rfl
@[simp] theorem State.modBun_auth (s : State) (n : Nat) (g : Bundle → Bundle) : (s.modBun n g).auth = s.auth := rfl
@[simp] theorem State.modBun_frame (s : State) (n : Nat) (g : Bundle → Bundle) : (s.modBun n g).frame = s.frame := rfl
@[simp] theorem State.modBun_fresh (s : State) (n : Nat) (g : Bundle → Bundle) : (s.modBun n g).fresh = s.fresh := rfl
@[simp] theorem State.modBun_locked (s : State) (n : Nat) (g : Bundle → Bundle) : (s.modBun n g).locked = s.locked := rfl
@[simp] theorem State.modBun_regs (s : State) (n : Nat) (g : Bundle → Bundle) : (s.modBun n g).regs = s.regs := rfl
@[simp] theorem State.modBun_seqs (s : State) (n : Nat) (g : Bundle → Bundle) : (s.modBun n g).seqs = s.seqs := rfl
@[simp] theorem State.modBun_log (s : State) (n : Nat) (g : Bundle → Bundle) : (s.modBun n g).log = s.log := rfl
@[simp] theorem State.modBun_rdata (s : State) (n : Nat) (g : Bundle → Bundle) : (s.modBun n g).rdata = s.rdata := rfl
@[simp] theorem State.modBun_time (s : State) (n : Nat) (g : Bundle → Bundle) : (s.modBun n g).time = s.time := rfl
@[simp] theorem State.modBun_table (s : State) (n : Nat) (g : Bundle → Bundle) : (s.modBun n g).table = s.table := rfl
@[simp] theorem State.modBun_fab (s : State) (n : Nat) (g : Bundle → Bundle) : (s.modBun n g).fab = { s.fab with bundles := tmod Bundle.init s.fab.bundles n g } := rfl
@[simp] theorem State.modBun_quays (s : State) (n : Nat) (g : Bundle → Bundle) : (s.modBun n g).quays = s.quays := rfl
@[simp] theorem State.modBun_lanes (s : State) (n : Nat) (g : Bundle → Bundle) : (s.modBun n g).lanes = s.lanes := rfl
@[simp] theorem State.modBun_tiles (s : State) (n : Nat) (g : Bundle → Bundle) : (s.modBun n g).tiles = s.tiles := rfl
@[simp] theorem State.modBun_exec (s : State) (n : Nat) (g : Bundle → Bundle) : (s.modBun n g).exec = s.exec := rfl
@[simp] theorem State.modBun_sched (s : State) (n : Nat) (g : Bundle → Bundle) : (s.modBun n g).sched = s.sched := rfl
@[simp] theorem State.modBun_tide (s : State) (n : Nat) (g : Bundle → Bundle) : (s.modBun n g).tide = s.tide := rfl
@[simp] theorem State.modBun_pen (s : State) (n : Nat) (g : Bundle → Bundle) : (s.modBun n g).pen = s.pen := rfl
@[simp] theorem State.modBun_mir (s : State) (n : Nat) (g : Bundle → Bundle) : (s.modBun n g).mir = s.mir := rfl
@[simp] theorem State.modBun_boot (s : State) (n : Nat) (g : Bundle → Bundle) : (s.modBun n g).boot = s.boot := rfl
@[simp] theorem State.modBun_cal (s : State) (n : Nat) (g : Bundle → Bundle) : (s.modBun n g).cal = s.cal := rfl
@[simp] theorem State.modBun_port (s : State) (n : Nat) (g : Bundle → Bundle) : (s.modBun n g).port = s.port := rfl
@[simp] theorem State.modBun_pending (s : State) (n : Nat) (g : Bundle → Bundle) : (s.modBun n g).pending = s.pending := rfl
@[simp] theorem State.modBun_fgi (s : State) (n : Nat) (g : Bundle → Bundle) (k : Fld) (j : Nat) : (s.modBun n g).fgi k j = s.fgi k j := rfl

@[simp] theorem State.modCoef_dev (s : State) (n : Nat) (g : BunCoef → BunCoef) : (s.modCoef n g).dev = s.dev := rfl
@[simp] theorem State.modCoef_auth (s : State) (n : Nat) (g : BunCoef → BunCoef) : (s.modCoef n g).auth = s.auth := rfl
@[simp] theorem State.modCoef_frame (s : State) (n : Nat) (g : BunCoef → BunCoef) : (s.modCoef n g).frame = s.frame := rfl
@[simp] theorem State.modCoef_fresh (s : State) (n : Nat) (g : BunCoef → BunCoef) : (s.modCoef n g).fresh = s.fresh := rfl
@[simp] theorem State.modCoef_locked (s : State) (n : Nat) (g : BunCoef → BunCoef) : (s.modCoef n g).locked = s.locked := rfl
@[simp] theorem State.modCoef_regs (s : State) (n : Nat) (g : BunCoef → BunCoef) : (s.modCoef n g).regs = s.regs := rfl
@[simp] theorem State.modCoef_seqs (s : State) (n : Nat) (g : BunCoef → BunCoef) : (s.modCoef n g).seqs = s.seqs := rfl
@[simp] theorem State.modCoef_log (s : State) (n : Nat) (g : BunCoef → BunCoef) : (s.modCoef n g).log = s.log := rfl
@[simp] theorem State.modCoef_rdata (s : State) (n : Nat) (g : BunCoef → BunCoef) : (s.modCoef n g).rdata = s.rdata := rfl
@[simp] theorem State.modCoef_time (s : State) (n : Nat) (g : BunCoef → BunCoef) : (s.modCoef n g).time = s.time := rfl
@[simp] theorem State.modCoef_table (s : State) (n : Nat) (g : BunCoef → BunCoef) : (s.modCoef n g).table = s.table := rfl
@[simp] theorem State.modCoef_fab (s : State) (n : Nat) (g : BunCoef → BunCoef) : (s.modCoef n g).fab = { s.fab with coefs := tmod BunCoef.init s.fab.coefs n g } := rfl
@[simp] theorem State.modCoef_quays (s : State) (n : Nat) (g : BunCoef → BunCoef) : (s.modCoef n g).quays = s.quays := rfl
@[simp] theorem State.modCoef_lanes (s : State) (n : Nat) (g : BunCoef → BunCoef) : (s.modCoef n g).lanes = s.lanes := rfl
@[simp] theorem State.modCoef_tiles (s : State) (n : Nat) (g : BunCoef → BunCoef) : (s.modCoef n g).tiles = s.tiles := rfl
@[simp] theorem State.modCoef_exec (s : State) (n : Nat) (g : BunCoef → BunCoef) : (s.modCoef n g).exec = s.exec := rfl
@[simp] theorem State.modCoef_sched (s : State) (n : Nat) (g : BunCoef → BunCoef) : (s.modCoef n g).sched = s.sched := rfl
@[simp] theorem State.modCoef_tide (s : State) (n : Nat) (g : BunCoef → BunCoef) : (s.modCoef n g).tide = s.tide := rfl
@[simp] theorem State.modCoef_pen (s : State) (n : Nat) (g : BunCoef → BunCoef) : (s.modCoef n g).pen = s.pen := rfl
@[simp] theorem State.modCoef_mir (s : State) (n : Nat) (g : BunCoef → BunCoef) : (s.modCoef n g).mir = s.mir := rfl
@[simp] theorem State.modCoef_boot (s : State) (n : Nat) (g : BunCoef → BunCoef) : (s.modCoef n g).boot = s.boot := rfl
@[simp] theorem State.modCoef_cal (s : State) (n : Nat) (g : BunCoef → BunCoef) : (s.modCoef n g).cal = s.cal := rfl
@[simp] theorem State.modCoef_port (s : State) (n : Nat) (g : BunCoef → BunCoef) : (s.modCoef n g).port = s.port := rfl
@[simp] theorem State.modCoef_pending (s : State) (n : Nat) (g : BunCoef → BunCoef) : (s.modCoef n g).pending = s.pending := rfl
@[simp] theorem State.modCoef_fgi (s : State) (n : Nat) (g : BunCoef → BunCoef) (k : Fld) (j : Nat) : (s.modCoef n g).fgi k j = s.fgi k j := rfl

@[simp] theorem State.modQuay_dev (s : State) (q : Nat) (g : Quay → Quay) : (s.modQuay q g).dev = s.dev := rfl
@[simp] theorem State.modQuay_auth (s : State) (q : Nat) (g : Quay → Quay) : (s.modQuay q g).auth = s.auth := rfl
@[simp] theorem State.modQuay_frame (s : State) (q : Nat) (g : Quay → Quay) : (s.modQuay q g).frame = s.frame := rfl
@[simp] theorem State.modQuay_fresh (s : State) (q : Nat) (g : Quay → Quay) : (s.modQuay q g).fresh = s.fresh := rfl
@[simp] theorem State.modQuay_locked (s : State) (q : Nat) (g : Quay → Quay) : (s.modQuay q g).locked = s.locked := rfl
@[simp] theorem State.modQuay_regs (s : State) (q : Nat) (g : Quay → Quay) : (s.modQuay q g).regs = s.regs := rfl
@[simp] theorem State.modQuay_seqs (s : State) (q : Nat) (g : Quay → Quay) : (s.modQuay q g).seqs = s.seqs := rfl
@[simp] theorem State.modQuay_log (s : State) (q : Nat) (g : Quay → Quay) : (s.modQuay q g).log = s.log := rfl
@[simp] theorem State.modQuay_rdata (s : State) (q : Nat) (g : Quay → Quay) : (s.modQuay q g).rdata = s.rdata := rfl
@[simp] theorem State.modQuay_time (s : State) (q : Nat) (g : Quay → Quay) : (s.modQuay q g).time = s.time := rfl
@[simp] theorem State.modQuay_table (s : State) (q : Nat) (g : Quay → Quay) : (s.modQuay q g).table = s.table := rfl
@[simp] theorem State.modQuay_fab (s : State) (q : Nat) (g : Quay → Quay) : (s.modQuay q g).fab = s.fab := rfl
@[simp] theorem State.modQuay_quays (s : State) (q : Nat) (g : Quay → Quay) : (s.modQuay q g).quays = setAt s.quays q (g (s.quay q)) := rfl
@[simp] theorem State.modQuay_lanes (s : State) (q : Nat) (g : Quay → Quay) : (s.modQuay q g).lanes = s.lanes := rfl
@[simp] theorem State.modQuay_tiles (s : State) (q : Nat) (g : Quay → Quay) : (s.modQuay q g).tiles = s.tiles := rfl
@[simp] theorem State.modQuay_exec (s : State) (q : Nat) (g : Quay → Quay) : (s.modQuay q g).exec = s.exec := rfl
@[simp] theorem State.modQuay_sched (s : State) (q : Nat) (g : Quay → Quay) : (s.modQuay q g).sched = s.sched := rfl
@[simp] theorem State.modQuay_tide (s : State) (q : Nat) (g : Quay → Quay) : (s.modQuay q g).tide = s.tide := rfl
@[simp] theorem State.modQuay_pen (s : State) (q : Nat) (g : Quay → Quay) : (s.modQuay q g).pen = s.pen := rfl
@[simp] theorem State.modQuay_mir (s : State) (q : Nat) (g : Quay → Quay) : (s.modQuay q g).mir = s.mir := rfl
@[simp] theorem State.modQuay_boot (s : State) (q : Nat) (g : Quay → Quay) : (s.modQuay q g).boot = s.boot := rfl
@[simp] theorem State.modQuay_cal (s : State) (q : Nat) (g : Quay → Quay) : (s.modQuay q g).cal = s.cal := rfl
@[simp] theorem State.modQuay_port (s : State) (q : Nat) (g : Quay → Quay) : (s.modQuay q g).port = s.port := rfl
@[simp] theorem State.modQuay_pending (s : State) (q : Nat) (g : Quay → Quay) : (s.modQuay q g).pending = s.pending := rfl
@[simp] theorem State.modQuay_fgi (s : State) (q : Nat) (g : Quay → Quay) (k : Fld) (j : Nat) : (s.modQuay q g).fgi k j = s.fgi k j := rfl

@[simp] theorem State.modLane_dev (s : State) (q : Nat) (g : Lane → Lane) : (s.modLane q g).dev = s.dev := rfl
@[simp] theorem State.modLane_auth (s : State) (q : Nat) (g : Lane → Lane) : (s.modLane q g).auth = s.auth := rfl
@[simp] theorem State.modLane_frame (s : State) (q : Nat) (g : Lane → Lane) : (s.modLane q g).frame = s.frame := rfl
@[simp] theorem State.modLane_fresh (s : State) (q : Nat) (g : Lane → Lane) : (s.modLane q g).fresh = s.fresh := rfl
@[simp] theorem State.modLane_locked (s : State) (q : Nat) (g : Lane → Lane) : (s.modLane q g).locked = s.locked := rfl
@[simp] theorem State.modLane_regs (s : State) (q : Nat) (g : Lane → Lane) : (s.modLane q g).regs = s.regs := rfl
@[simp] theorem State.modLane_seqs (s : State) (q : Nat) (g : Lane → Lane) : (s.modLane q g).seqs = s.seqs := rfl
@[simp] theorem State.modLane_log (s : State) (q : Nat) (g : Lane → Lane) : (s.modLane q g).log = s.log := rfl
@[simp] theorem State.modLane_rdata (s : State) (q : Nat) (g : Lane → Lane) : (s.modLane q g).rdata = s.rdata := rfl
@[simp] theorem State.modLane_time (s : State) (q : Nat) (g : Lane → Lane) : (s.modLane q g).time = s.time := rfl
@[simp] theorem State.modLane_table (s : State) (q : Nat) (g : Lane → Lane) : (s.modLane q g).table = s.table := rfl
@[simp] theorem State.modLane_fab (s : State) (q : Nat) (g : Lane → Lane) : (s.modLane q g).fab = s.fab := rfl
@[simp] theorem State.modLane_quays (s : State) (q : Nat) (g : Lane → Lane) : (s.modLane q g).quays = s.quays := rfl
@[simp] theorem State.modLane_lanes (s : State) (q : Nat) (g : Lane → Lane) : (s.modLane q g).lanes = setAt s.lanes q (g (s.lane q)) := rfl
@[simp] theorem State.modLane_tiles (s : State) (q : Nat) (g : Lane → Lane) : (s.modLane q g).tiles = s.tiles := rfl
@[simp] theorem State.modLane_exec (s : State) (q : Nat) (g : Lane → Lane) : (s.modLane q g).exec = s.exec := rfl
@[simp] theorem State.modLane_sched (s : State) (q : Nat) (g : Lane → Lane) : (s.modLane q g).sched = s.sched := rfl
@[simp] theorem State.modLane_tide (s : State) (q : Nat) (g : Lane → Lane) : (s.modLane q g).tide = s.tide := rfl
@[simp] theorem State.modLane_pen (s : State) (q : Nat) (g : Lane → Lane) : (s.modLane q g).pen = s.pen := rfl
@[simp] theorem State.modLane_mir (s : State) (q : Nat) (g : Lane → Lane) : (s.modLane q g).mir = s.mir := rfl
@[simp] theorem State.modLane_boot (s : State) (q : Nat) (g : Lane → Lane) : (s.modLane q g).boot = s.boot := rfl
@[simp] theorem State.modLane_cal (s : State) (q : Nat) (g : Lane → Lane) : (s.modLane q g).cal = s.cal := rfl
@[simp] theorem State.modLane_port (s : State) (q : Nat) (g : Lane → Lane) : (s.modLane q g).port = s.port := rfl
@[simp] theorem State.modLane_pending (s : State) (q : Nat) (g : Lane → Lane) : (s.modLane q g).pending = s.pending := rfl
@[simp] theorem State.modLane_fgi (s : State) (q : Nat) (g : Lane → Lane) (k : Fld) (j : Nat) : (s.modLane q g).fgi k j = s.fgi k j := rfl

@[simp] theorem State.modTile_dev (s : State) (q : Nat) (g : TileSt → TileSt) : (s.modTile q g).dev = s.dev := rfl
@[simp] theorem State.modTile_auth (s : State) (q : Nat) (g : TileSt → TileSt) : (s.modTile q g).auth = s.auth := rfl
@[simp] theorem State.modTile_frame (s : State) (q : Nat) (g : TileSt → TileSt) : (s.modTile q g).frame = s.frame := rfl
@[simp] theorem State.modTile_fresh (s : State) (q : Nat) (g : TileSt → TileSt) : (s.modTile q g).fresh = s.fresh := rfl
@[simp] theorem State.modTile_locked (s : State) (q : Nat) (g : TileSt → TileSt) : (s.modTile q g).locked = s.locked := rfl
@[simp] theorem State.modTile_regs (s : State) (q : Nat) (g : TileSt → TileSt) : (s.modTile q g).regs = s.regs := rfl
@[simp] theorem State.modTile_seqs (s : State) (q : Nat) (g : TileSt → TileSt) : (s.modTile q g).seqs = s.seqs := rfl
@[simp] theorem State.modTile_log (s : State) (q : Nat) (g : TileSt → TileSt) : (s.modTile q g).log = s.log := rfl
@[simp] theorem State.modTile_rdata (s : State) (q : Nat) (g : TileSt → TileSt) : (s.modTile q g).rdata = s.rdata := rfl
@[simp] theorem State.modTile_time (s : State) (q : Nat) (g : TileSt → TileSt) : (s.modTile q g).time = s.time := rfl
@[simp] theorem State.modTile_table (s : State) (q : Nat) (g : TileSt → TileSt) : (s.modTile q g).table = s.table := rfl
@[simp] theorem State.modTile_fab (s : State) (q : Nat) (g : TileSt → TileSt) : (s.modTile q g).fab = s.fab := rfl
@[simp] theorem State.modTile_quays (s : State) (q : Nat) (g : TileSt → TileSt) : (s.modTile q g).quays = s.quays := rfl
@[simp] theorem State.modTile_lanes (s : State) (q : Nat) (g : TileSt → TileSt) : (s.modTile q g).lanes = s.lanes := rfl
@[simp] theorem State.modTile_tiles (s : State) (q : Nat) (g : TileSt → TileSt) : (s.modTile q g).tiles = setAt s.tiles q (g (s.tile q)) := rfl
@[simp] theorem State.modTile_exec (s : State) (q : Nat) (g : TileSt → TileSt) : (s.modTile q g).exec = s.exec := rfl
@[simp] theorem State.modTile_sched (s : State) (q : Nat) (g : TileSt → TileSt) : (s.modTile q g).sched = s.sched := rfl
@[simp] theorem State.modTile_tide (s : State) (q : Nat) (g : TileSt → TileSt) : (s.modTile q g).tide = s.tide := rfl
@[simp] theorem State.modTile_pen (s : State) (q : Nat) (g : TileSt → TileSt) : (s.modTile q g).pen = s.pen := rfl
@[simp] theorem State.modTile_mir (s : State) (q : Nat) (g : TileSt → TileSt) : (s.modTile q g).mir = s.mir := rfl
@[simp] theorem State.modTile_boot (s : State) (q : Nat) (g : TileSt → TileSt) : (s.modTile q g).boot = s.boot := rfl
@[simp] theorem State.modTile_cal (s : State) (q : Nat) (g : TileSt → TileSt) : (s.modTile q g).cal = s.cal := rfl
@[simp] theorem State.modTile_port (s : State) (q : Nat) (g : TileSt → TileSt) : (s.modTile q g).port = s.port := rfl
@[simp] theorem State.modTile_pending (s : State) (q : Nat) (g : TileSt → TileSt) : (s.modTile q g).pending = s.pending := rfl
@[simp] theorem State.modTile_fgi (s : State) (q : Nat) (g : TileSt → TileSt) (k : Fld) (j : Nat) : (s.modTile q g).fgi k j = s.fgi k j := rfl

@[simp] theorem State.modExec_dev (s : State) (g : ExecSt → ExecSt) : (s.modExec g).dev = s.dev := rfl
@[simp] theorem State.modExec_auth (s : State) (g : ExecSt → ExecSt) : (s.modExec g).auth = s.auth := rfl
@[simp] theorem State.modExec_frame (s : State) (g : ExecSt → ExecSt) : (s.modExec g).frame = s.frame := rfl
@[simp] theorem State.modExec_fresh (s : State) (g : ExecSt → ExecSt) : (s.modExec g).fresh = s.fresh := rfl
@[simp] theorem State.modExec_locked (s : State) (g : ExecSt → ExecSt) : (s.modExec g).locked = s.locked := rfl
@[simp] theorem State.modExec_regs (s : State) (g : ExecSt → ExecSt) : (s.modExec g).regs = s.regs := rfl
@[simp] theorem State.modExec_seqs (s : State) (g : ExecSt → ExecSt) : (s.modExec g).seqs = s.seqs := rfl
@[simp] theorem State.modExec_log (s : State) (g : ExecSt → ExecSt) : (s.modExec g).log = s.log := rfl
@[simp] theorem State.modExec_rdata (s : State) (g : ExecSt → ExecSt) : (s.modExec g).rdata = s.rdata := rfl
@[simp] theorem State.modExec_time (s : State) (g : ExecSt → ExecSt) : (s.modExec g).time = s.time := rfl
@[simp] theorem State.modExec_table (s : State) (g : ExecSt → ExecSt) : (s.modExec g).table = s.table := rfl
@[simp] theorem State.modExec_fab (s : State) (g : ExecSt → ExecSt) : (s.modExec g).fab = s.fab := rfl
@[simp] theorem State.modExec_quays (s : State) (g : ExecSt → ExecSt) : (s.modExec g).quays = s.quays := rfl
@[simp] theorem State.modExec_lanes (s : State) (g : ExecSt → ExecSt) : (s.modExec g).lanes = s.lanes := rfl
@[simp] theorem State.modExec_tiles (s : State) (g : ExecSt → ExecSt) : (s.modExec g).tiles = s.tiles := rfl
@[simp] theorem State.modExec_exec (s : State) (g : ExecSt → ExecSt) : (s.modExec g).exec = g s.exec := rfl
@[simp] theorem State.modExec_sched (s : State) (g : ExecSt → ExecSt) : (s.modExec g).sched = s.sched := rfl
@[simp] theorem State.modExec_tide (s : State) (g : ExecSt → ExecSt) : (s.modExec g).tide = s.tide := rfl
@[simp] theorem State.modExec_pen (s : State) (g : ExecSt → ExecSt) : (s.modExec g).pen = s.pen := rfl
@[simp] theorem State.modExec_mir (s : State) (g : ExecSt → ExecSt) : (s.modExec g).mir = s.mir := rfl
@[simp] theorem State.modExec_boot (s : State) (g : ExecSt → ExecSt) : (s.modExec g).boot = s.boot := rfl
@[simp] theorem State.modExec_cal (s : State) (g : ExecSt → ExecSt) : (s.modExec g).cal = s.cal := rfl
@[simp] theorem State.modExec_port (s : State) (g : ExecSt → ExecSt) : (s.modExec g).port = s.port := rfl
@[simp] theorem State.modExec_pending (s : State) (g : ExecSt → ExecSt) : (s.modExec g).pending = s.pending := rfl
@[simp] theorem State.modExec_fgi (s : State) (g : ExecSt → ExecSt) (k : Fld) (j : Nat) : (s.modExec g).fgi k j = s.fgi k j := rfl

@[simp] theorem State.modRec_dev (s : State) (n : Nat) (g : ExecRec → ExecRec) : (s.modRec n g).dev = s.dev := rfl
@[simp] theorem State.modRec_auth (s : State) (n : Nat) (g : ExecRec → ExecRec) : (s.modRec n g).auth = s.auth := rfl
@[simp] theorem State.modRec_frame (s : State) (n : Nat) (g : ExecRec → ExecRec) : (s.modRec n g).frame = s.frame := rfl
@[simp] theorem State.modRec_fresh (s : State) (n : Nat) (g : ExecRec → ExecRec) : (s.modRec n g).fresh = s.fresh := rfl
@[simp] theorem State.modRec_locked (s : State) (n : Nat) (g : ExecRec → ExecRec) : (s.modRec n g).locked = s.locked := rfl
@[simp] theorem State.modRec_regs (s : State) (n : Nat) (g : ExecRec → ExecRec) : (s.modRec n g).regs = s.regs := rfl
@[simp] theorem State.modRec_seqs (s : State) (n : Nat) (g : ExecRec → ExecRec) : (s.modRec n g).seqs = s.seqs := rfl
@[simp] theorem State.modRec_log (s : State) (n : Nat) (g : ExecRec → ExecRec) : (s.modRec n g).log = s.log := rfl
@[simp] theorem State.modRec_rdata (s : State) (n : Nat) (g : ExecRec → ExecRec) : (s.modRec n g).rdata = s.rdata := rfl
@[simp] theorem State.modRec_time (s : State) (n : Nat) (g : ExecRec → ExecRec) : (s.modRec n g).time = s.time := rfl
@[simp] theorem State.modRec_table (s : State) (n : Nat) (g : ExecRec → ExecRec) : (s.modRec n g).table = s.table := rfl
@[simp] theorem State.modRec_fab (s : State) (n : Nat) (g : ExecRec → ExecRec) : (s.modRec n g).fab = s.fab := rfl
@[simp] theorem State.modRec_quays (s : State) (n : Nat) (g : ExecRec → ExecRec) : (s.modRec n g).quays = s.quays := rfl
@[simp] theorem State.modRec_lanes (s : State) (n : Nat) (g : ExecRec → ExecRec) : (s.modRec n g).lanes = s.lanes := rfl
@[simp] theorem State.modRec_tiles (s : State) (n : Nat) (g : ExecRec → ExecRec) : (s.modRec n g).tiles = s.tiles := rfl
@[simp] theorem State.modRec_exec (s : State) (n : Nat) (g : ExecRec → ExecRec) : (s.modRec n g).exec = { s.exec with recs := tmod ExecRec.init s.exec.recs n g } := rfl
@[simp] theorem State.modRec_sched (s : State) (n : Nat) (g : ExecRec → ExecRec) : (s.modRec n g).sched = s.sched := rfl
@[simp] theorem State.modRec_tide (s : State) (n : Nat) (g : ExecRec → ExecRec) : (s.modRec n g).tide = s.tide := rfl
@[simp] theorem State.modRec_pen (s : State) (n : Nat) (g : ExecRec → ExecRec) : (s.modRec n g).pen = s.pen := rfl
@[simp] theorem State.modRec_mir (s : State) (n : Nat) (g : ExecRec → ExecRec) : (s.modRec n g).mir = s.mir := rfl
@[simp] theorem State.modRec_boot (s : State) (n : Nat) (g : ExecRec → ExecRec) : (s.modRec n g).boot = s.boot := rfl
@[simp] theorem State.modRec_cal (s : State) (n : Nat) (g : ExecRec → ExecRec) : (s.modRec n g).cal = s.cal := rfl
@[simp] theorem State.modRec_port (s : State) (n : Nat) (g : ExecRec → ExecRec) : (s.modRec n g).port = s.port := rfl
@[simp] theorem State.modRec_pending (s : State) (n : Nat) (g : ExecRec → ExecRec) : (s.modRec n g).pending = s.pending := rfl
@[simp] theorem State.modRec_fgi (s : State) (n : Nat) (g : ExecRec → ExecRec) (k : Fld) (j : Nat) : (s.modRec n g).fgi k j = s.fgi k j := rfl

@[simp] theorem State.modSched_dev (s : State) (g : SchedSt → SchedSt) : (s.modSched g).dev = s.dev := rfl
@[simp] theorem State.modSched_auth (s : State) (g : SchedSt → SchedSt) : (s.modSched g).auth = s.auth := rfl
@[simp] theorem State.modSched_frame (s : State) (g : SchedSt → SchedSt) : (s.modSched g).frame = s.frame := rfl
@[simp] theorem State.modSched_fresh (s : State) (g : SchedSt → SchedSt) : (s.modSched g).fresh = s.fresh := rfl
@[simp] theorem State.modSched_locked (s : State) (g : SchedSt → SchedSt) : (s.modSched g).locked = s.locked := rfl
@[simp] theorem State.modSched_regs (s : State) (g : SchedSt → SchedSt) : (s.modSched g).regs = s.regs := rfl
@[simp] theorem State.modSched_seqs (s : State) (g : SchedSt → SchedSt) : (s.modSched g).seqs = s.seqs := rfl
@[simp] theorem State.modSched_log (s : State) (g : SchedSt → SchedSt) : (s.modSched g).log = s.log := rfl
@[simp] theorem State.modSched_rdata (s : State) (g : SchedSt → SchedSt) : (s.modSched g).rdata = s.rdata := rfl
@[simp] theorem State.modSched_time (s : State) (g : SchedSt → SchedSt) : (s.modSched g).time = s.time := rfl
@[simp] theorem State.modSched_table (s : State) (g : SchedSt → SchedSt) : (s.modSched g).table = s.table := rfl
@[simp] theorem State.modSched_fab (s : State) (g : SchedSt → SchedSt) : (s.modSched g).fab = s.fab := rfl
@[simp] theorem State.modSched_quays (s : State) (g : SchedSt → SchedSt) : (s.modSched g).quays = s.quays := rfl
@[simp] theorem State.modSched_lanes (s : State) (g : SchedSt → SchedSt) : (s.modSched g).lanes = s.lanes := rfl
@[simp] theorem State.modSched_tiles (s : State) (g : SchedSt → SchedSt) : (s.modSched g).tiles = s.tiles := rfl
@[simp] theorem State.modSched_exec (s : State) (g : SchedSt → SchedSt) : (s.modSched g).exec = s.exec := rfl
@[simp] theorem State.modSched_sched (s : State) (g : SchedSt → SchedSt) : (s.modSched g).sched = g s.sched := rfl
@[simp] theorem State.modSched_tide (s : State) (g : SchedSt → SchedSt) : (s.modSched g).tide = s.tide := rfl
@[simp] theorem State.modSched_pen (s : State) (g : SchedSt → SchedSt) : (s.modSched g).pen = s.pen := rfl
@[simp] theorem State.modSched_mir (s : State) (g : SchedSt → SchedSt) : (s.modSched g).mir = s.mir := rfl
@[simp] theorem State.modSched_boot (s : State) (g : SchedSt → SchedSt) : (s.modSched g).boot = s.boot := rfl
@[simp] theorem State.modSched_cal (s : State) (g : SchedSt → SchedSt) : (s.modSched g).cal = s.cal := rfl
@[simp] theorem State.modSched_port (s : State) (g : SchedSt → SchedSt) : (s.modSched g).port = s.port := rfl
@[simp] theorem State.modSched_pending (s : State) (g : SchedSt → SchedSt) : (s.modSched g).pending = s.pending := rfl
@[simp] theorem State.modSched_fgi (s : State) (g : SchedSt → SchedSt) (k : Fld) (j : Nat) : (s.modSched g).fgi k j = s.fgi k j := rfl

@[simp] theorem State.modQue_dev (s : State) (q : Nat) (g : ReqQueue → ReqQueue) : (s.modQue q g).dev = s.dev := rfl
@[simp] theorem State.modQue_auth (s : State) (q : Nat) (g : ReqQueue → ReqQueue) : (s.modQue q g).auth = s.auth := rfl
@[simp] theorem State.modQue_frame (s : State) (q : Nat) (g : ReqQueue → ReqQueue) : (s.modQue q g).frame = s.frame := rfl
@[simp] theorem State.modQue_fresh (s : State) (q : Nat) (g : ReqQueue → ReqQueue) : (s.modQue q g).fresh = s.fresh := rfl
@[simp] theorem State.modQue_locked (s : State) (q : Nat) (g : ReqQueue → ReqQueue) : (s.modQue q g).locked = s.locked := rfl
@[simp] theorem State.modQue_regs (s : State) (q : Nat) (g : ReqQueue → ReqQueue) : (s.modQue q g).regs = s.regs := rfl
@[simp] theorem State.modQue_seqs (s : State) (q : Nat) (g : ReqQueue → ReqQueue) : (s.modQue q g).seqs = s.seqs := rfl
@[simp] theorem State.modQue_log (s : State) (q : Nat) (g : ReqQueue → ReqQueue) : (s.modQue q g).log = s.log := rfl
@[simp] theorem State.modQue_rdata (s : State) (q : Nat) (g : ReqQueue → ReqQueue) : (s.modQue q g).rdata = s.rdata := rfl
@[simp] theorem State.modQue_time (s : State) (q : Nat) (g : ReqQueue → ReqQueue) : (s.modQue q g).time = s.time := rfl
@[simp] theorem State.modQue_table (s : State) (q : Nat) (g : ReqQueue → ReqQueue) : (s.modQue q g).table = s.table := rfl
@[simp] theorem State.modQue_fab (s : State) (q : Nat) (g : ReqQueue → ReqQueue) : (s.modQue q g).fab = s.fab := rfl
@[simp] theorem State.modQue_quays (s : State) (q : Nat) (g : ReqQueue → ReqQueue) : (s.modQue q g).quays = s.quays := rfl
@[simp] theorem State.modQue_lanes (s : State) (q : Nat) (g : ReqQueue → ReqQueue) : (s.modQue q g).lanes = s.lanes := rfl
@[simp] theorem State.modQue_tiles (s : State) (q : Nat) (g : ReqQueue → ReqQueue) : (s.modQue q g).tiles = s.tiles := rfl
@[simp] theorem State.modQue_exec (s : State) (q : Nat) (g : ReqQueue → ReqQueue) : (s.modQue q g).exec = s.exec := rfl
@[simp] theorem State.modQue_sched (s : State) (q : Nat) (g : ReqQueue → ReqQueue) : (s.modQue q g).sched = { s.sched with queues := tmod ReqQueue.init s.sched.queues q g } := rfl
@[simp] theorem State.modQue_tide (s : State) (q : Nat) (g : ReqQueue → ReqQueue) : (s.modQue q g).tide = s.tide := rfl
@[simp] theorem State.modQue_pen (s : State) (q : Nat) (g : ReqQueue → ReqQueue) : (s.modQue q g).pen = s.pen := rfl
@[simp] theorem State.modQue_mir (s : State) (q : Nat) (g : ReqQueue → ReqQueue) : (s.modQue q g).mir = s.mir := rfl
@[simp] theorem State.modQue_boot (s : State) (q : Nat) (g : ReqQueue → ReqQueue) : (s.modQue q g).boot = s.boot := rfl
@[simp] theorem State.modQue_cal (s : State) (q : Nat) (g : ReqQueue → ReqQueue) : (s.modQue q g).cal = s.cal := rfl
@[simp] theorem State.modQue_port (s : State) (q : Nat) (g : ReqQueue → ReqQueue) : (s.modQue q g).port = s.port := rfl
@[simp] theorem State.modQue_pending (s : State) (q : Nat) (g : ReqQueue → ReqQueue) : (s.modQue q g).pending = s.pending := rfl
@[simp] theorem State.modQue_fgi (s : State) (q : Nat) (g : ReqQueue → ReqQueue) (k : Fld) (j : Nat) : (s.modQue q g).fgi k j = s.fgi k j := rfl

@[simp] theorem State.modTide_dev (s : State) (g : TideSt → TideSt) : (s.modTide g).dev = s.dev := rfl
@[simp] theorem State.modTide_auth (s : State) (g : TideSt → TideSt) : (s.modTide g).auth = s.auth := rfl
@[simp] theorem State.modTide_frame (s : State) (g : TideSt → TideSt) : (s.modTide g).frame = s.frame := rfl
@[simp] theorem State.modTide_fresh (s : State) (g : TideSt → TideSt) : (s.modTide g).fresh = s.fresh := rfl
@[simp] theorem State.modTide_locked (s : State) (g : TideSt → TideSt) : (s.modTide g).locked = s.locked := rfl
@[simp] theorem State.modTide_regs (s : State) (g : TideSt → TideSt) : (s.modTide g).regs = s.regs := rfl
@[simp] theorem State.modTide_seqs (s : State) (g : TideSt → TideSt) : (s.modTide g).seqs = s.seqs := rfl
@[simp] theorem State.modTide_log (s : State) (g : TideSt → TideSt) : (s.modTide g).log = s.log := rfl
@[simp] theorem State.modTide_rdata (s : State) (g : TideSt → TideSt) : (s.modTide g).rdata = s.rdata := rfl
@[simp] theorem State.modTide_time (s : State) (g : TideSt → TideSt) : (s.modTide g).time = s.time := rfl
@[simp] theorem State.modTide_table (s : State) (g : TideSt → TideSt) : (s.modTide g).table = s.table := rfl
@[simp] theorem State.modTide_fab (s : State) (g : TideSt → TideSt) : (s.modTide g).fab = s.fab := rfl
@[simp] theorem State.modTide_quays (s : State) (g : TideSt → TideSt) : (s.modTide g).quays = s.quays := rfl
@[simp] theorem State.modTide_lanes (s : State) (g : TideSt → TideSt) : (s.modTide g).lanes = s.lanes := rfl
@[simp] theorem State.modTide_tiles (s : State) (g : TideSt → TideSt) : (s.modTide g).tiles = s.tiles := rfl
@[simp] theorem State.modTide_exec (s : State) (g : TideSt → TideSt) : (s.modTide g).exec = s.exec := rfl
@[simp] theorem State.modTide_sched (s : State) (g : TideSt → TideSt) : (s.modTide g).sched = s.sched := rfl
@[simp] theorem State.modTide_tide (s : State) (g : TideSt → TideSt) : (s.modTide g).tide = g s.tide := rfl
@[simp] theorem State.modTide_pen (s : State) (g : TideSt → TideSt) : (s.modTide g).pen = s.pen := rfl
@[simp] theorem State.modTide_mir (s : State) (g : TideSt → TideSt) : (s.modTide g).mir = s.mir := rfl
@[simp] theorem State.modTide_boot (s : State) (g : TideSt → TideSt) : (s.modTide g).boot = s.boot := rfl
@[simp] theorem State.modTide_cal (s : State) (g : TideSt → TideSt) : (s.modTide g).cal = s.cal := rfl
@[simp] theorem State.modTide_port (s : State) (g : TideSt → TideSt) : (s.modTide g).port = s.port := rfl
@[simp] theorem State.modTide_pending (s : State) (g : TideSt → TideSt) : (s.modTide g).pending = s.pending := rfl
@[simp] theorem State.modTide_fgi (s : State) (g : TideSt → TideSt) (k : Fld) (j : Nat) : (s.modTide g).fgi k j = s.fgi k j := rfl

@[simp] theorem State.modPen_dev (s : State) (g : PenSt → PenSt) : (s.modPen g).dev = s.dev := rfl
@[simp] theorem State.modPen_auth (s : State) (g : PenSt → PenSt) : (s.modPen g).auth = s.auth := rfl
@[simp] theorem State.modPen_frame (s : State) (g : PenSt → PenSt) : (s.modPen g).frame = s.frame := rfl
@[simp] theorem State.modPen_fresh (s : State) (g : PenSt → PenSt) : (s.modPen g).fresh = s.fresh := rfl
@[simp] theorem State.modPen_locked (s : State) (g : PenSt → PenSt) : (s.modPen g).locked = s.locked := rfl
@[simp] theorem State.modPen_regs (s : State) (g : PenSt → PenSt) : (s.modPen g).regs = s.regs := rfl
@[simp] theorem State.modPen_seqs (s : State) (g : PenSt → PenSt) : (s.modPen g).seqs = s.seqs := rfl
@[simp] theorem State.modPen_log (s : State) (g : PenSt → PenSt) : (s.modPen g).log = s.log := rfl
@[simp] theorem State.modPen_rdata (s : State) (g : PenSt → PenSt) : (s.modPen g).rdata = s.rdata := rfl
@[simp] theorem State.modPen_time (s : State) (g : PenSt → PenSt) : (s.modPen g).time = s.time := rfl
@[simp] theorem State.modPen_table (s : State) (g : PenSt → PenSt) : (s.modPen g).table = s.table := rfl
@[simp] theorem State.modPen_fab (s : State) (g : PenSt → PenSt) : (s.modPen g).fab = s.fab := rfl
@[simp] theorem State.modPen_quays (s : State) (g : PenSt → PenSt) : (s.modPen g).quays = s.quays := rfl
@[simp] theorem State.modPen_lanes (s : State) (g : PenSt → PenSt) : (s.modPen g).lanes = s.lanes := rfl
@[simp] theorem State.modPen_tiles (s : State) (g : PenSt → PenSt) : (s.modPen g).tiles = s.tiles := rfl
@[simp] theorem State.modPen_exec (s : State) (g : PenSt → PenSt) : (s.modPen g).exec = s.exec := rfl
@[simp] theorem State.modPen_sched (s : State) (g : PenSt → PenSt) : (s.modPen g).sched = s.sched := rfl
@[simp] theorem State.modPen_tide (s : State) (g : PenSt → PenSt) : (s.modPen g).tide = s.tide := rfl
@[simp] theorem State.modPen_pen (s : State) (g : PenSt → PenSt) : (s.modPen g).pen = g s.pen := rfl
@[simp] theorem State.modPen_mir (s : State) (g : PenSt → PenSt) : (s.modPen g).mir = s.mir := rfl
@[simp] theorem State.modPen_boot (s : State) (g : PenSt → PenSt) : (s.modPen g).boot = s.boot := rfl
@[simp] theorem State.modPen_cal (s : State) (g : PenSt → PenSt) : (s.modPen g).cal = s.cal := rfl
@[simp] theorem State.modPen_port (s : State) (g : PenSt → PenSt) : (s.modPen g).port = s.port := rfl
@[simp] theorem State.modPen_pending (s : State) (g : PenSt → PenSt) : (s.modPen g).pending = s.pending := rfl
@[simp] theorem State.modPen_fgi (s : State) (g : PenSt → PenSt) (k : Fld) (j : Nat) : (s.modPen g).fgi k j = s.fgi k j := rfl

@[simp] theorem State.modSess_dev (s : State) (n : Nat) (g : Sess → Sess) : (s.modSess n g).dev = s.dev := rfl
@[simp] theorem State.modSess_auth (s : State) (n : Nat) (g : Sess → Sess) : (s.modSess n g).auth = s.auth := rfl
@[simp] theorem State.modSess_frame (s : State) (n : Nat) (g : Sess → Sess) : (s.modSess n g).frame = s.frame := rfl
@[simp] theorem State.modSess_fresh (s : State) (n : Nat) (g : Sess → Sess) : (s.modSess n g).fresh = s.fresh := rfl
@[simp] theorem State.modSess_locked (s : State) (n : Nat) (g : Sess → Sess) : (s.modSess n g).locked = s.locked := rfl
@[simp] theorem State.modSess_regs (s : State) (n : Nat) (g : Sess → Sess) : (s.modSess n g).regs = s.regs := rfl
@[simp] theorem State.modSess_seqs (s : State) (n : Nat) (g : Sess → Sess) : (s.modSess n g).seqs = s.seqs := rfl
@[simp] theorem State.modSess_log (s : State) (n : Nat) (g : Sess → Sess) : (s.modSess n g).log = s.log := rfl
@[simp] theorem State.modSess_rdata (s : State) (n : Nat) (g : Sess → Sess) : (s.modSess n g).rdata = s.rdata := rfl
@[simp] theorem State.modSess_time (s : State) (n : Nat) (g : Sess → Sess) : (s.modSess n g).time = s.time := rfl
@[simp] theorem State.modSess_table (s : State) (n : Nat) (g : Sess → Sess) : (s.modSess n g).table = s.table := rfl
@[simp] theorem State.modSess_fab (s : State) (n : Nat) (g : Sess → Sess) : (s.modSess n g).fab = s.fab := rfl
@[simp] theorem State.modSess_quays (s : State) (n : Nat) (g : Sess → Sess) : (s.modSess n g).quays = s.quays := rfl
@[simp] theorem State.modSess_lanes (s : State) (n : Nat) (g : Sess → Sess) : (s.modSess n g).lanes = s.lanes := rfl
@[simp] theorem State.modSess_tiles (s : State) (n : Nat) (g : Sess → Sess) : (s.modSess n g).tiles = s.tiles := rfl
@[simp] theorem State.modSess_exec (s : State) (n : Nat) (g : Sess → Sess) : (s.modSess n g).exec = s.exec := rfl
@[simp] theorem State.modSess_sched (s : State) (n : Nat) (g : Sess → Sess) : (s.modSess n g).sched = s.sched := rfl
@[simp] theorem State.modSess_tide (s : State) (n : Nat) (g : Sess → Sess) : (s.modSess n g).tide = s.tide := rfl
@[simp] theorem State.modSess_pen (s : State) (n : Nat) (g : Sess → Sess) : (s.modSess n g).pen = { s.pen with sess := tmod Sess.init s.pen.sess n g } := rfl
@[simp] theorem State.modSess_mir (s : State) (n : Nat) (g : Sess → Sess) : (s.modSess n g).mir = s.mir := rfl
@[simp] theorem State.modSess_boot (s : State) (n : Nat) (g : Sess → Sess) : (s.modSess n g).boot = s.boot := rfl
@[simp] theorem State.modSess_cal (s : State) (n : Nat) (g : Sess → Sess) : (s.modSess n g).cal = s.cal := rfl
@[simp] theorem State.modSess_port (s : State) (n : Nat) (g : Sess → Sess) : (s.modSess n g).port = s.port := rfl
@[simp] theorem State.modSess_pending (s : State) (n : Nat) (g : Sess → Sess) : (s.modSess n g).pending = s.pending := rfl
@[simp] theorem State.modSess_fgi (s : State) (n : Nat) (g : Sess → Sess) (k : Fld) (j : Nat) : (s.modSess n g).fgi k j = s.fgi k j := rfl

@[simp] theorem State.modMir_dev (s : State) (g : MirSt → MirSt) : (s.modMir g).dev = s.dev := rfl
@[simp] theorem State.modMir_auth (s : State) (g : MirSt → MirSt) : (s.modMir g).auth = s.auth := rfl
@[simp] theorem State.modMir_frame (s : State) (g : MirSt → MirSt) : (s.modMir g).frame = s.frame := rfl
@[simp] theorem State.modMir_fresh (s : State) (g : MirSt → MirSt) : (s.modMir g).fresh = s.fresh := rfl
@[simp] theorem State.modMir_locked (s : State) (g : MirSt → MirSt) : (s.modMir g).locked = s.locked := rfl
@[simp] theorem State.modMir_regs (s : State) (g : MirSt → MirSt) : (s.modMir g).regs = s.regs := rfl
@[simp] theorem State.modMir_seqs (s : State) (g : MirSt → MirSt) : (s.modMir g).seqs = s.seqs := rfl
@[simp] theorem State.modMir_log (s : State) (g : MirSt → MirSt) : (s.modMir g).log = s.log := rfl
@[simp] theorem State.modMir_rdata (s : State) (g : MirSt → MirSt) : (s.modMir g).rdata = s.rdata := rfl
@[simp] theorem State.modMir_time (s : State) (g : MirSt → MirSt) : (s.modMir g).time = s.time := rfl
@[simp] theorem State.modMir_table (s : State) (g : MirSt → MirSt) : (s.modMir g).table = s.table := rfl
@[simp] theorem State.modMir_fab (s : State) (g : MirSt → MirSt) : (s.modMir g).fab = s.fab := rfl
@[simp] theorem State.modMir_quays (s : State) (g : MirSt → MirSt) : (s.modMir g).quays = s.quays := rfl
@[simp] theorem State.modMir_lanes (s : State) (g : MirSt → MirSt) : (s.modMir g).lanes = s.lanes := rfl
@[simp] theorem State.modMir_tiles (s : State) (g : MirSt → MirSt) : (s.modMir g).tiles = s.tiles := rfl
@[simp] theorem State.modMir_exec (s : State) (g : MirSt → MirSt) : (s.modMir g).exec = s.exec := rfl
@[simp] theorem State.modMir_sched (s : State) (g : MirSt → MirSt) : (s.modMir g).sched = s.sched := rfl
@[simp] theorem State.modMir_tide (s : State) (g : MirSt → MirSt) : (s.modMir g).tide = s.tide := rfl
@[simp] theorem State.modMir_pen (s : State) (g : MirSt → MirSt) : (s.modMir g).pen = s.pen := rfl
@[simp] theorem State.modMir_mir (s : State) (g : MirSt → MirSt) : (s.modMir g).mir = g s.mir := rfl
@[simp] theorem State.modMir_boot (s : State) (g : MirSt → MirSt) : (s.modMir g).boot = s.boot := rfl
@[simp] theorem State.modMir_cal (s : State) (g : MirSt → MirSt) : (s.modMir g).cal = s.cal := rfl
@[simp] theorem State.modMir_port (s : State) (g : MirSt → MirSt) : (s.modMir g).port = s.port := rfl
@[simp] theorem State.modMir_pending (s : State) (g : MirSt → MirSt) : (s.modMir g).pending = s.pending := rfl
@[simp] theorem State.modMir_fgi (s : State) (g : MirSt → MirSt) (k : Fld) (j : Nat) : (s.modMir g).fgi k j = s.fgi k j := rfl

@[simp] theorem State.modBoot_dev (s : State) (g : BootSt → BootSt) : (s.modBoot g).dev = s.dev := rfl
@[simp] theorem State.modBoot_auth (s : State) (g : BootSt → BootSt) : (s.modBoot g).auth = s.auth := rfl
@[simp] theorem State.modBoot_frame (s : State) (g : BootSt → BootSt) : (s.modBoot g).frame = s.frame := rfl
@[simp] theorem State.modBoot_fresh (s : State) (g : BootSt → BootSt) : (s.modBoot g).fresh = s.fresh := rfl
@[simp] theorem State.modBoot_locked (s : State) (g : BootSt → BootSt) : (s.modBoot g).locked = s.locked := rfl
@[simp] theorem State.modBoot_regs (s : State) (g : BootSt → BootSt) : (s.modBoot g).regs = s.regs := rfl
@[simp] theorem State.modBoot_seqs (s : State) (g : BootSt → BootSt) : (s.modBoot g).seqs = s.seqs := rfl
@[simp] theorem State.modBoot_log (s : State) (g : BootSt → BootSt) : (s.modBoot g).log = s.log := rfl
@[simp] theorem State.modBoot_rdata (s : State) (g : BootSt → BootSt) : (s.modBoot g).rdata = s.rdata := rfl
@[simp] theorem State.modBoot_time (s : State) (g : BootSt → BootSt) : (s.modBoot g).time = s.time := rfl
@[simp] theorem State.modBoot_table (s : State) (g : BootSt → BootSt) : (s.modBoot g).table = s.table := rfl
@[simp] theorem State.modBoot_fab (s : State) (g : BootSt → BootSt) : (s.modBoot g).fab = s.fab := rfl
@[simp] theorem State.modBoot_quays (s : State) (g : BootSt → BootSt) : (s.modBoot g).quays = s.quays := rfl
@[simp] theorem State.modBoot_lanes (s : State) (g : BootSt → BootSt) : (s.modBoot g).lanes = s.lanes := rfl
@[simp] theorem State.modBoot_tiles (s : State) (g : BootSt → BootSt) : (s.modBoot g).tiles = s.tiles := rfl
@[simp] theorem State.modBoot_exec (s : State) (g : BootSt → BootSt) : (s.modBoot g).exec = s.exec := rfl
@[simp] theorem State.modBoot_sched (s : State) (g : BootSt → BootSt) : (s.modBoot g).sched = s.sched := rfl
@[simp] theorem State.modBoot_tide (s : State) (g : BootSt → BootSt) : (s.modBoot g).tide = s.tide := rfl
@[simp] theorem State.modBoot_pen (s : State) (g : BootSt → BootSt) : (s.modBoot g).pen = s.pen := rfl
@[simp] theorem State.modBoot_mir (s : State) (g : BootSt → BootSt) : (s.modBoot g).mir = s.mir := rfl
@[simp] theorem State.modBoot_boot (s : State) (g : BootSt → BootSt) : (s.modBoot g).boot = g s.boot := rfl
@[simp] theorem State.modBoot_cal (s : State) (g : BootSt → BootSt) : (s.modBoot g).cal = s.cal := rfl
@[simp] theorem State.modBoot_port (s : State) (g : BootSt → BootSt) : (s.modBoot g).port = s.port := rfl
@[simp] theorem State.modBoot_pending (s : State) (g : BootSt → BootSt) : (s.modBoot g).pending = s.pending := rfl
@[simp] theorem State.modBoot_fgi (s : State) (g : BootSt → BootSt) (k : Fld) (j : Nat) : (s.modBoot g).fgi k j = s.fgi k j := rfl

@[simp] theorem State.modCal_dev (s : State) (g : CalSt → CalSt) : (s.modCal g).dev = s.dev := rfl
@[simp] theorem State.modCal_auth (s : State) (g : CalSt → CalSt) : (s.modCal g).auth = s.auth := rfl
@[simp] theorem State.modCal_frame (s : State) (g : CalSt → CalSt) : (s.modCal g).frame = s.frame := rfl
@[simp] theorem State.modCal_fresh (s : State) (g : CalSt → CalSt) : (s.modCal g).fresh = s.fresh := rfl
@[simp] theorem State.modCal_locked (s : State) (g : CalSt → CalSt) : (s.modCal g).locked = s.locked := rfl
@[simp] theorem State.modCal_regs (s : State) (g : CalSt → CalSt) : (s.modCal g).regs = s.regs := rfl
@[simp] theorem State.modCal_seqs (s : State) (g : CalSt → CalSt) : (s.modCal g).seqs = s.seqs := rfl
@[simp] theorem State.modCal_log (s : State) (g : CalSt → CalSt) : (s.modCal g).log = s.log := rfl
@[simp] theorem State.modCal_rdata (s : State) (g : CalSt → CalSt) : (s.modCal g).rdata = s.rdata := rfl
@[simp] theorem State.modCal_time (s : State) (g : CalSt → CalSt) : (s.modCal g).time = s.time := rfl
@[simp] theorem State.modCal_table (s : State) (g : CalSt → CalSt) : (s.modCal g).table = s.table := rfl
@[simp] theorem State.modCal_fab (s : State) (g : CalSt → CalSt) : (s.modCal g).fab = s.fab := rfl
@[simp] theorem State.modCal_quays (s : State) (g : CalSt → CalSt) : (s.modCal g).quays = s.quays := rfl
@[simp] theorem State.modCal_lanes (s : State) (g : CalSt → CalSt) : (s.modCal g).lanes = s.lanes := rfl
@[simp] theorem State.modCal_tiles (s : State) (g : CalSt → CalSt) : (s.modCal g).tiles = s.tiles := rfl
@[simp] theorem State.modCal_exec (s : State) (g : CalSt → CalSt) : (s.modCal g).exec = s.exec := rfl
@[simp] theorem State.modCal_sched (s : State) (g : CalSt → CalSt) : (s.modCal g).sched = s.sched := rfl
@[simp] theorem State.modCal_tide (s : State) (g : CalSt → CalSt) : (s.modCal g).tide = s.tide := rfl
@[simp] theorem State.modCal_pen (s : State) (g : CalSt → CalSt) : (s.modCal g).pen = s.pen := rfl
@[simp] theorem State.modCal_mir (s : State) (g : CalSt → CalSt) : (s.modCal g).mir = s.mir := rfl
@[simp] theorem State.modCal_boot (s : State) (g : CalSt → CalSt) : (s.modCal g).boot = s.boot := rfl
@[simp] theorem State.modCal_cal (s : State) (g : CalSt → CalSt) : (s.modCal g).cal = g s.cal := rfl
@[simp] theorem State.modCal_port (s : State) (g : CalSt → CalSt) : (s.modCal g).port = s.port := rfl
@[simp] theorem State.modCal_pending (s : State) (g : CalSt → CalSt) : (s.modCal g).pending = s.pending := rfl
@[simp] theorem State.modCal_fgi (s : State) (g : CalSt → CalSt) (k : Fld) (j : Nat) : (s.modCal g).fgi k j = s.fgi k j := rfl

@[simp] theorem State.modUnit_dev (s : State) (u : Nat) (g : CalUnit → CalUnit) : (s.modUnit u g).dev = s.dev := rfl
@[simp] theorem State.modUnit_auth (s : State) (u : Nat) (g : CalUnit → CalUnit) : (s.modUnit u g).auth = s.auth := rfl
@[simp] theorem State.modUnit_frame (s : State) (u : Nat) (g : CalUnit → CalUnit) : (s.modUnit u g).frame = s.frame := rfl
@[simp] theorem State.modUnit_fresh (s : State) (u : Nat) (g : CalUnit → CalUnit) : (s.modUnit u g).fresh = s.fresh := rfl
@[simp] theorem State.modUnit_locked (s : State) (u : Nat) (g : CalUnit → CalUnit) : (s.modUnit u g).locked = s.locked := rfl
@[simp] theorem State.modUnit_regs (s : State) (u : Nat) (g : CalUnit → CalUnit) : (s.modUnit u g).regs = s.regs := rfl
@[simp] theorem State.modUnit_seqs (s : State) (u : Nat) (g : CalUnit → CalUnit) : (s.modUnit u g).seqs = s.seqs := rfl
@[simp] theorem State.modUnit_log (s : State) (u : Nat) (g : CalUnit → CalUnit) : (s.modUnit u g).log = s.log := rfl
@[simp] theorem State.modUnit_rdata (s : State) (u : Nat) (g : CalUnit → CalUnit) : (s.modUnit u g).rdata = s.rdata := rfl
@[simp] theorem State.modUnit_time (s : State) (u : Nat) (g : CalUnit → CalUnit) : (s.modUnit u g).time = s.time := rfl
@[simp] theorem State.modUnit_table (s : State) (u : Nat) (g : CalUnit → CalUnit) : (s.modUnit u g).table = s.table := rfl
@[simp] theorem State.modUnit_fab (s : State) (u : Nat) (g : CalUnit → CalUnit) : (s.modUnit u g).fab = s.fab := rfl
@[simp] theorem State.modUnit_quays (s : State) (u : Nat) (g : CalUnit → CalUnit) : (s.modUnit u g).quays = s.quays := rfl
@[simp] theorem State.modUnit_lanes (s : State) (u : Nat) (g : CalUnit → CalUnit) : (s.modUnit u g).lanes = s.lanes := rfl
@[simp] theorem State.modUnit_tiles (s : State) (u : Nat) (g : CalUnit → CalUnit) : (s.modUnit u g).tiles = s.tiles := rfl
@[simp] theorem State.modUnit_exec (s : State) (u : Nat) (g : CalUnit → CalUnit) : (s.modUnit u g).exec = s.exec := rfl
@[simp] theorem State.modUnit_sched (s : State) (u : Nat) (g : CalUnit → CalUnit) : (s.modUnit u g).sched = s.sched := rfl
@[simp] theorem State.modUnit_tide (s : State) (u : Nat) (g : CalUnit → CalUnit) : (s.modUnit u g).tide = s.tide := rfl
@[simp] theorem State.modUnit_pen (s : State) (u : Nat) (g : CalUnit → CalUnit) : (s.modUnit u g).pen = s.pen := rfl
@[simp] theorem State.modUnit_mir (s : State) (u : Nat) (g : CalUnit → CalUnit) : (s.modUnit u g).mir = s.mir := rfl
@[simp] theorem State.modUnit_boot (s : State) (u : Nat) (g : CalUnit → CalUnit) : (s.modUnit u g).boot = s.boot := rfl
@[simp] theorem State.modUnit_cal (s : State) (u : Nat) (g : CalUnit → CalUnit) : (s.modUnit u g).cal = { s.cal with units := setAt s.cal.units u (g (s.unit u)) } := rfl
@[simp] theorem State.modUnit_port (s : State) (u : Nat) (g : CalUnit → CalUnit) : (s.modUnit u g).port = s.port := rfl
@[simp] theorem State.modUnit_pending (s : State) (u : Nat) (g : CalUnit → CalUnit) : (s.modUnit u g).pending = s.pending := rfl
@[simp] theorem State.modUnit_fgi (s : State) (u : Nat) (g : CalUnit → CalUnit) (k : Fld) (j : Nat) : (s.modUnit u g).fgi k j = s.fgi k j := rfl

@[simp] theorem State.modPort_dev (s : State) (g : PortSt → PortSt) : (s.modPort g).dev = s.dev := rfl
@[simp] theorem State.modPort_auth (s : State) (g : PortSt → PortSt) : (s.modPort g).auth = s.auth := rfl
@[simp] theorem State.modPort_frame (s : State) (g : PortSt → PortSt) : (s.modPort g).frame = s.frame := rfl
@[simp] theorem State.modPort_fresh (s : State) (g : PortSt → PortSt) : (s.modPort g).fresh = s.fresh := rfl
@[simp] theorem State.modPort_locked (s : State) (g : PortSt → PortSt) : (s.modPort g).locked = s.locked := rfl
@[simp] theorem State.modPort_regs (s : State) (g : PortSt → PortSt) : (s.modPort g).regs = s.regs := rfl
@[simp] theorem State.modPort_seqs (s : State) (g : PortSt → PortSt) : (s.modPort g).seqs = s.seqs := rfl
@[simp] theorem State.modPort_log (s : State) (g : PortSt → PortSt) : (s.modPort g).log = s.log := rfl
@[simp] theorem State.modPort_rdata (s : State) (g : PortSt → PortSt) : (s.modPort g).rdata = s.rdata := rfl
@[simp] theorem State.modPort_time (s : State) (g : PortSt → PortSt) : (s.modPort g).time = s.time := rfl
@[simp] theorem State.modPort_table (s : State) (g : PortSt → PortSt) : (s.modPort g).table = s.table := rfl
@[simp] theorem State.modPort_fab (s : State) (g : PortSt → PortSt) : (s.modPort g).fab = s.fab := rfl
@[simp] theorem State.modPort_quays (s : State) (g : PortSt → PortSt) : (s.modPort g).quays = s.quays := rfl
@[simp] theorem State.modPort_lanes (s : State) (g : PortSt → PortSt) : (s.modPort g).lanes = s.lanes := rfl
@[simp] theorem State.modPort_tiles (s : State) (g : PortSt → PortSt) : (s.modPort g).tiles = s.tiles := rfl
@[simp] theorem State.modPort_exec (s : State) (g : PortSt → PortSt) : (s.modPort g).exec = s.exec := rfl
@[simp] theorem State.modPort_sched (s : State) (g : PortSt → PortSt) : (s.modPort g).sched = s.sched := rfl
@[simp] theorem State.modPort_tide (s : State) (g : PortSt → PortSt) : (s.modPort g).tide = s.tide := rfl
@[simp] theorem State.modPort_pen (s : State) (g : PortSt → PortSt) : (s.modPort g).pen = s.pen := rfl
@[simp] theorem State.modPort_mir (s : State) (g : PortSt → PortSt) : (s.modPort g).mir = s.mir := rfl
@[simp] theorem State.modPort_boot (s : State) (g : PortSt → PortSt) : (s.modPort g).boot = s.boot := rfl
@[simp] theorem State.modPort_cal (s : State) (g : PortSt → PortSt) : (s.modPort g).cal = s.cal := rfl
@[simp] theorem State.modPort_port (s : State) (g : PortSt → PortSt) : (s.modPort g).port = g s.port := rfl
@[simp] theorem State.modPort_pending (s : State) (g : PortSt → PortSt) : (s.modPort g).pending = s.pending := rfl
@[simp] theorem State.modPort_fgi (s : State) (g : PortSt → PortSt) (k : Fld) (j : Nat) : (s.modPort g).fgi k j = s.fgi k j := rfl

@[simp] theorem State.modNet_dev (s : State) (p : Nat) (g : NetPort → NetPort) : (s.modNet p g).dev = s.dev := rfl
@[simp] theorem State.modNet_auth (s : State) (p : Nat) (g : NetPort → NetPort) : (s.modNet p g).auth = s.auth := rfl
@[simp] theorem State.modNet_frame (s : State) (p : Nat) (g : NetPort → NetPort) : (s.modNet p g).frame = s.frame := rfl
@[simp] theorem State.modNet_fresh (s : State) (p : Nat) (g : NetPort → NetPort) : (s.modNet p g).fresh = s.fresh := rfl
@[simp] theorem State.modNet_locked (s : State) (p : Nat) (g : NetPort → NetPort) : (s.modNet p g).locked = s.locked := rfl
@[simp] theorem State.modNet_regs (s : State) (p : Nat) (g : NetPort → NetPort) : (s.modNet p g).regs = s.regs := rfl
@[simp] theorem State.modNet_seqs (s : State) (p : Nat) (g : NetPort → NetPort) : (s.modNet p g).seqs = s.seqs := rfl
@[simp] theorem State.modNet_log (s : State) (p : Nat) (g : NetPort → NetPort) : (s.modNet p g).log = s.log := rfl
@[simp] theorem State.modNet_rdata (s : State) (p : Nat) (g : NetPort → NetPort) : (s.modNet p g).rdata = s.rdata := rfl
@[simp] theorem State.modNet_time (s : State) (p : Nat) (g : NetPort → NetPort) : (s.modNet p g).time = s.time := rfl
@[simp] theorem State.modNet_table (s : State) (p : Nat) (g : NetPort → NetPort) : (s.modNet p g).table = s.table := rfl
@[simp] theorem State.modNet_fab (s : State) (p : Nat) (g : NetPort → NetPort) : (s.modNet p g).fab = s.fab := rfl
@[simp] theorem State.modNet_quays (s : State) (p : Nat) (g : NetPort → NetPort) : (s.modNet p g).quays = s.quays := rfl
@[simp] theorem State.modNet_lanes (s : State) (p : Nat) (g : NetPort → NetPort) : (s.modNet p g).lanes = s.lanes := rfl
@[simp] theorem State.modNet_tiles (s : State) (p : Nat) (g : NetPort → NetPort) : (s.modNet p g).tiles = s.tiles := rfl
@[simp] theorem State.modNet_exec (s : State) (p : Nat) (g : NetPort → NetPort) : (s.modNet p g).exec = s.exec := rfl
@[simp] theorem State.modNet_sched (s : State) (p : Nat) (g : NetPort → NetPort) : (s.modNet p g).sched = s.sched := rfl
@[simp] theorem State.modNet_tide (s : State) (p : Nat) (g : NetPort → NetPort) : (s.modNet p g).tide = s.tide := rfl
@[simp] theorem State.modNet_pen (s : State) (p : Nat) (g : NetPort → NetPort) : (s.modNet p g).pen = s.pen := rfl
@[simp] theorem State.modNet_mir (s : State) (p : Nat) (g : NetPort → NetPort) : (s.modNet p g).mir = s.mir := rfl
@[simp] theorem State.modNet_boot (s : State) (p : Nat) (g : NetPort → NetPort) : (s.modNet p g).boot = s.boot := rfl
@[simp] theorem State.modNet_cal (s : State) (p : Nat) (g : NetPort → NetPort) : (s.modNet p g).cal = s.cal := rfl
@[simp] theorem State.modNet_port (s : State) (p : Nat) (g : NetPort → NetPort) : (s.modNet p g).port = { s.port with nets := setAt s.port.nets p (g (s.net p)) } := rfl
@[simp] theorem State.modNet_pending (s : State) (p : Nat) (g : NetPort → NetPort) : (s.modNet p g).pending = s.pending := rfl
@[simp] theorem State.modNet_fgi (s : State) (p : Nat) (g : NetPort → NetPort) (k : Fld) (j : Nat) : (s.modNet p g).fgi k j = s.fgi k j := rfl

@[simp] theorem State.modCrane_dev (s : State) (c : Nat) (g : Crane → Crane) : (s.modCrane c g).dev = s.dev := rfl
@[simp] theorem State.modCrane_auth (s : State) (c : Nat) (g : Crane → Crane) : (s.modCrane c g).auth = s.auth := rfl
@[simp] theorem State.modCrane_frame (s : State) (c : Nat) (g : Crane → Crane) : (s.modCrane c g).frame = s.frame := rfl
@[simp] theorem State.modCrane_fresh (s : State) (c : Nat) (g : Crane → Crane) : (s.modCrane c g).fresh = s.fresh := rfl
@[simp] theorem State.modCrane_locked (s : State) (c : Nat) (g : Crane → Crane) : (s.modCrane c g).locked = s.locked := rfl
@[simp] theorem State.modCrane_regs (s : State) (c : Nat) (g : Crane → Crane) : (s.modCrane c g).regs = s.regs := rfl
@[simp] theorem State.modCrane_seqs (s : State) (c : Nat) (g : Crane → Crane) : (s.modCrane c g).seqs = s.seqs := rfl
@[simp] theorem State.modCrane_log (s : State) (c : Nat) (g : Crane → Crane) : (s.modCrane c g).log = s.log := rfl
@[simp] theorem State.modCrane_rdata (s : State) (c : Nat) (g : Crane → Crane) : (s.modCrane c g).rdata = s.rdata := rfl
@[simp] theorem State.modCrane_time (s : State) (c : Nat) (g : Crane → Crane) : (s.modCrane c g).time = s.time := rfl
@[simp] theorem State.modCrane_table (s : State) (c : Nat) (g : Crane → Crane) : (s.modCrane c g).table = s.table := rfl
@[simp] theorem State.modCrane_fab (s : State) (c : Nat) (g : Crane → Crane) : (s.modCrane c g).fab = s.fab := rfl
@[simp] theorem State.modCrane_quays (s : State) (c : Nat) (g : Crane → Crane) : (s.modCrane c g).quays = s.quays := rfl
@[simp] theorem State.modCrane_lanes (s : State) (c : Nat) (g : Crane → Crane) : (s.modCrane c g).lanes = s.lanes := rfl
@[simp] theorem State.modCrane_tiles (s : State) (c : Nat) (g : Crane → Crane) : (s.modCrane c g).tiles = s.tiles := rfl
@[simp] theorem State.modCrane_exec (s : State) (c : Nat) (g : Crane → Crane) : (s.modCrane c g).exec = s.exec := rfl
@[simp] theorem State.modCrane_sched (s : State) (c : Nat) (g : Crane → Crane) : (s.modCrane c g).sched = s.sched := rfl
@[simp] theorem State.modCrane_tide (s : State) (c : Nat) (g : Crane → Crane) : (s.modCrane c g).tide = s.tide := rfl
@[simp] theorem State.modCrane_pen (s : State) (c : Nat) (g : Crane → Crane) : (s.modCrane c g).pen = s.pen := rfl
@[simp] theorem State.modCrane_mir (s : State) (c : Nat) (g : Crane → Crane) : (s.modCrane c g).mir = s.mir := rfl
@[simp] theorem State.modCrane_boot (s : State) (c : Nat) (g : Crane → Crane) : (s.modCrane c g).boot = s.boot := rfl
@[simp] theorem State.modCrane_cal (s : State) (c : Nat) (g : Crane → Crane) : (s.modCrane c g).cal = s.cal := rfl
@[simp] theorem State.modCrane_port (s : State) (c : Nat) (g : Crane → Crane) : (s.modCrane c g).port = { s.port with cranes := setAt s.port.cranes c (g (s.crane c)) } := rfl
@[simp] theorem State.modCrane_pending (s : State) (c : Nat) (g : Crane → Crane) : (s.modCrane c g).pending = s.pending := rfl
@[simp] theorem State.modCrane_fgi (s : State) (c : Nat) (g : Crane → Crane) (k : Fld) (j : Nat) : (s.modCrane c g).fgi k j = s.fgi k j := rfl

@[simp] theorem State.modSbi_dev (s : State) (g : SbiSt → SbiSt) : (s.modSbi g).dev = s.dev := rfl
@[simp] theorem State.modSbi_auth (s : State) (g : SbiSt → SbiSt) : (s.modSbi g).auth = s.auth := rfl
@[simp] theorem State.modSbi_frame (s : State) (g : SbiSt → SbiSt) : (s.modSbi g).frame = s.frame := rfl
@[simp] theorem State.modSbi_fresh (s : State) (g : SbiSt → SbiSt) : (s.modSbi g).fresh = s.fresh := rfl
@[simp] theorem State.modSbi_locked (s : State) (g : SbiSt → SbiSt) : (s.modSbi g).locked = s.locked := rfl
@[simp] theorem State.modSbi_regs (s : State) (g : SbiSt → SbiSt) : (s.modSbi g).regs = s.regs := rfl
@[simp] theorem State.modSbi_seqs (s : State) (g : SbiSt → SbiSt) : (s.modSbi g).seqs = s.seqs := rfl
@[simp] theorem State.modSbi_log (s : State) (g : SbiSt → SbiSt) : (s.modSbi g).log = s.log := rfl
@[simp] theorem State.modSbi_rdata (s : State) (g : SbiSt → SbiSt) : (s.modSbi g).rdata = s.rdata := rfl
@[simp] theorem State.modSbi_time (s : State) (g : SbiSt → SbiSt) : (s.modSbi g).time = s.time := rfl
@[simp] theorem State.modSbi_table (s : State) (g : SbiSt → SbiSt) : (s.modSbi g).table = s.table := rfl
@[simp] theorem State.modSbi_fab (s : State) (g : SbiSt → SbiSt) : (s.modSbi g).fab = s.fab := rfl
@[simp] theorem State.modSbi_quays (s : State) (g : SbiSt → SbiSt) : (s.modSbi g).quays = s.quays := rfl
@[simp] theorem State.modSbi_lanes (s : State) (g : SbiSt → SbiSt) : (s.modSbi g).lanes = s.lanes := rfl
@[simp] theorem State.modSbi_tiles (s : State) (g : SbiSt → SbiSt) : (s.modSbi g).tiles = s.tiles := rfl
@[simp] theorem State.modSbi_exec (s : State) (g : SbiSt → SbiSt) : (s.modSbi g).exec = s.exec := rfl
@[simp] theorem State.modSbi_sched (s : State) (g : SbiSt → SbiSt) : (s.modSbi g).sched = s.sched := rfl
@[simp] theorem State.modSbi_tide (s : State) (g : SbiSt → SbiSt) : (s.modSbi g).tide = s.tide := rfl
@[simp] theorem State.modSbi_pen (s : State) (g : SbiSt → SbiSt) : (s.modSbi g).pen = s.pen := rfl
@[simp] theorem State.modSbi_mir (s : State) (g : SbiSt → SbiSt) : (s.modSbi g).mir = s.mir := rfl
@[simp] theorem State.modSbi_boot (s : State) (g : SbiSt → SbiSt) : (s.modSbi g).boot = s.boot := rfl
@[simp] theorem State.modSbi_cal (s : State) (g : SbiSt → SbiSt) : (s.modSbi g).cal = s.cal := rfl
@[simp] theorem State.modSbi_port (s : State) (g : SbiSt → SbiSt) : (s.modSbi g).port = { s.port with sbi := g s.port.sbi } := rfl
@[simp] theorem State.modSbi_pending (s : State) (g : SbiSt → SbiSt) : (s.modSbi g).pending = s.pending := rfl
@[simp] theorem State.modSbi_fgi (s : State) (g : SbiSt → SbiSt) (k : Fld) (j : Nat) : (s.modSbi g).fgi k j = s.fgi k j := rfl

@[simp] theorem State.modTime_dev (s : State) (g : TimeSt → TimeSt) : (s.modTime g).dev = s.dev := rfl
@[simp] theorem State.modTime_auth (s : State) (g : TimeSt → TimeSt) : (s.modTime g).auth = s.auth := rfl
@[simp] theorem State.modTime_frame (s : State) (g : TimeSt → TimeSt) : (s.modTime g).frame = s.frame := rfl
@[simp] theorem State.modTime_fresh (s : State) (g : TimeSt → TimeSt) : (s.modTime g).fresh = s.fresh := rfl
@[simp] theorem State.modTime_locked (s : State) (g : TimeSt → TimeSt) : (s.modTime g).locked = s.locked := rfl
@[simp] theorem State.modTime_regs (s : State) (g : TimeSt → TimeSt) : (s.modTime g).regs = s.regs := rfl
@[simp] theorem State.modTime_seqs (s : State) (g : TimeSt → TimeSt) : (s.modTime g).seqs = s.seqs := rfl
@[simp] theorem State.modTime_log (s : State) (g : TimeSt → TimeSt) : (s.modTime g).log = s.log := rfl
@[simp] theorem State.modTime_rdata (s : State) (g : TimeSt → TimeSt) : (s.modTime g).rdata = s.rdata := rfl
@[simp] theorem State.modTime_time (s : State) (g : TimeSt → TimeSt) : (s.modTime g).time = g s.time := rfl
@[simp] theorem State.modTime_table (s : State) (g : TimeSt → TimeSt) : (s.modTime g).table = s.table := rfl
@[simp] theorem State.modTime_fab (s : State) (g : TimeSt → TimeSt) : (s.modTime g).fab = s.fab := rfl
@[simp] theorem State.modTime_quays (s : State) (g : TimeSt → TimeSt) : (s.modTime g).quays = s.quays := rfl
@[simp] theorem State.modTime_lanes (s : State) (g : TimeSt → TimeSt) : (s.modTime g).lanes = s.lanes := rfl
@[simp] theorem State.modTime_tiles (s : State) (g : TimeSt → TimeSt) : (s.modTime g).tiles = s.tiles := rfl
@[simp] theorem State.modTime_exec (s : State) (g : TimeSt → TimeSt) : (s.modTime g).exec = s.exec := rfl
@[simp] theorem State.modTime_sched (s : State) (g : TimeSt → TimeSt) : (s.modTime g).sched = s.sched := rfl
@[simp] theorem State.modTime_tide (s : State) (g : TimeSt → TimeSt) : (s.modTime g).tide = s.tide := rfl
@[simp] theorem State.modTime_pen (s : State) (g : TimeSt → TimeSt) : (s.modTime g).pen = s.pen := rfl
@[simp] theorem State.modTime_mir (s : State) (g : TimeSt → TimeSt) : (s.modTime g).mir = s.mir := rfl
@[simp] theorem State.modTime_boot (s : State) (g : TimeSt → TimeSt) : (s.modTime g).boot = s.boot := rfl
@[simp] theorem State.modTime_cal (s : State) (g : TimeSt → TimeSt) : (s.modTime g).cal = s.cal := rfl
@[simp] theorem State.modTime_port (s : State) (g : TimeSt → TimeSt) : (s.modTime g).port = s.port := rfl
@[simp] theorem State.modTime_pending (s : State) (g : TimeSt → TimeSt) : (s.modTime g).pending = s.pending := rfl
@[simp] theorem State.modTime_fgi (s : State) (g : TimeSt → TimeSt) (k : Fld) (j : Nat) : (s.modTime g).fgi k j = s.fgi k j := rfl

@[simp] theorem State.setSq_dev (s : State) (n : Nat) (x : Seq) : (s.setSq n x).dev = s.dev := rfl
@[simp] theorem State.setSq_auth (s : State) (n : Nat) (x : Seq) : (s.setSq n x).auth = s.auth := rfl
@[simp] theorem State.setSq_frame (s : State) (n : Nat) (x : Seq) : (s.setSq n x).frame = s.frame := rfl
@[simp] theorem State.setSq_fresh (s : State) (n : Nat) (x : Seq) : (s.setSq n x).fresh = s.fresh := rfl
@[simp] theorem State.setSq_locked (s : State) (n : Nat) (x : Seq) : (s.setSq n x).locked = s.locked := rfl
@[simp] theorem State.setSq_regs (s : State) (n : Nat) (x : Seq) : (s.setSq n x).regs = s.regs := rfl
@[simp] theorem State.setSq_seqs (s : State) (n : Nat) (x : Seq) : (s.setSq n x).seqs = setAt s.seqs n x := rfl
@[simp] theorem State.setSq_log (s : State) (n : Nat) (x : Seq) : (s.setSq n x).log = s.log := rfl
@[simp] theorem State.setSq_rdata (s : State) (n : Nat) (x : Seq) : (s.setSq n x).rdata = s.rdata := rfl
@[simp] theorem State.setSq_time (s : State) (n : Nat) (x : Seq) : (s.setSq n x).time = s.time := rfl
@[simp] theorem State.setSq_table (s : State) (n : Nat) (x : Seq) : (s.setSq n x).table = s.table := rfl
@[simp] theorem State.setSq_fab (s : State) (n : Nat) (x : Seq) : (s.setSq n x).fab = s.fab := rfl
@[simp] theorem State.setSq_quays (s : State) (n : Nat) (x : Seq) : (s.setSq n x).quays = s.quays := rfl
@[simp] theorem State.setSq_lanes (s : State) (n : Nat) (x : Seq) : (s.setSq n x).lanes = s.lanes := rfl
@[simp] theorem State.setSq_tiles (s : State) (n : Nat) (x : Seq) : (s.setSq n x).tiles = s.tiles := rfl
@[simp] theorem State.setSq_exec (s : State) (n : Nat) (x : Seq) : (s.setSq n x).exec = s.exec := rfl
@[simp] theorem State.setSq_sched (s : State) (n : Nat) (x : Seq) : (s.setSq n x).sched = s.sched := rfl
@[simp] theorem State.setSq_tide (s : State) (n : Nat) (x : Seq) : (s.setSq n x).tide = s.tide := rfl
@[simp] theorem State.setSq_pen (s : State) (n : Nat) (x : Seq) : (s.setSq n x).pen = s.pen := rfl
@[simp] theorem State.setSq_mir (s : State) (n : Nat) (x : Seq) : (s.setSq n x).mir = s.mir := rfl
@[simp] theorem State.setSq_boot (s : State) (n : Nat) (x : Seq) : (s.setSq n x).boot = s.boot := rfl
@[simp] theorem State.setSq_cal (s : State) (n : Nat) (x : Seq) : (s.setSq n x).cal = s.cal := rfl
@[simp] theorem State.setSq_port (s : State) (n : Nat) (x : Seq) : (s.setSq n x).port = s.port := rfl
@[simp] theorem State.setSq_pending (s : State) (n : Nat) (x : Seq) : (s.setSq n x).pending = s.pending := rfl
@[simp] theorem State.setSq_fgi (s : State) (n : Nat) (x : Seq) (k : Fld) (j : Nat) : (s.setSq n x).fgi k j = s.fgi k j := rfl

@[simp] theorem State.modSq_dev (s : State) (n : Nat) (g : Seq → Seq) : (s.modSq n g).dev = s.dev := rfl
@[simp] theorem State.modSq_auth (s : State) (n : Nat) (g : Seq → Seq) : (s.modSq n g).auth = s.auth := rfl
@[simp] theorem State.modSq_frame (s : State) (n : Nat) (g : Seq → Seq) : (s.modSq n g).frame = s.frame := rfl
@[simp] theorem State.modSq_fresh (s : State) (n : Nat) (g : Seq → Seq) : (s.modSq n g).fresh = s.fresh := rfl
@[simp] theorem State.modSq_locked (s : State) (n : Nat) (g : Seq → Seq) : (s.modSq n g).locked = s.locked := rfl
@[simp] theorem State.modSq_regs (s : State) (n : Nat) (g : Seq → Seq) : (s.modSq n g).regs = s.regs := rfl
@[simp] theorem State.modSq_seqs (s : State) (n : Nat) (g : Seq → Seq) : (s.modSq n g).seqs = setAt s.seqs n (g (s.sq n)) := rfl
@[simp] theorem State.modSq_log (s : State) (n : Nat) (g : Seq → Seq) : (s.modSq n g).log = s.log := rfl
@[simp] theorem State.modSq_rdata (s : State) (n : Nat) (g : Seq → Seq) : (s.modSq n g).rdata = s.rdata := rfl
@[simp] theorem State.modSq_time (s : State) (n : Nat) (g : Seq → Seq) : (s.modSq n g).time = s.time := rfl
@[simp] theorem State.modSq_table (s : State) (n : Nat) (g : Seq → Seq) : (s.modSq n g).table = s.table := rfl
@[simp] theorem State.modSq_fab (s : State) (n : Nat) (g : Seq → Seq) : (s.modSq n g).fab = s.fab := rfl
@[simp] theorem State.modSq_quays (s : State) (n : Nat) (g : Seq → Seq) : (s.modSq n g).quays = s.quays := rfl
@[simp] theorem State.modSq_lanes (s : State) (n : Nat) (g : Seq → Seq) : (s.modSq n g).lanes = s.lanes := rfl
@[simp] theorem State.modSq_tiles (s : State) (n : Nat) (g : Seq → Seq) : (s.modSq n g).tiles = s.tiles := rfl
@[simp] theorem State.modSq_exec (s : State) (n : Nat) (g : Seq → Seq) : (s.modSq n g).exec = s.exec := rfl
@[simp] theorem State.modSq_sched (s : State) (n : Nat) (g : Seq → Seq) : (s.modSq n g).sched = s.sched := rfl
@[simp] theorem State.modSq_tide (s : State) (n : Nat) (g : Seq → Seq) : (s.modSq n g).tide = s.tide := rfl
@[simp] theorem State.modSq_pen (s : State) (n : Nat) (g : Seq → Seq) : (s.modSq n g).pen = s.pen := rfl
@[simp] theorem State.modSq_mir (s : State) (n : Nat) (g : Seq → Seq) : (s.modSq n g).mir = s.mir := rfl
@[simp] theorem State.modSq_boot (s : State) (n : Nat) (g : Seq → Seq) : (s.modSq n g).boot = s.boot := rfl
@[simp] theorem State.modSq_cal (s : State) (n : Nat) (g : Seq → Seq) : (s.modSq n g).cal = s.cal := rfl
@[simp] theorem State.modSq_port (s : State) (n : Nat) (g : Seq → Seq) : (s.modSq n g).port = s.port := rfl
@[simp] theorem State.modSq_pending (s : State) (n : Nat) (g : Seq → Seq) : (s.modSq n g).pending = s.pending := rfl
@[simp] theorem State.modSq_fgi (s : State) (n : Nat) (g : Seq → Seq) (k : Fld) (j : Nat) : (s.modSq n g).fgi k j = s.fgi k j := rfl

@[simp] theorem State.memPut_dev (s : State) (a : Nat) (bs : List Byte) : (s.memPut a bs).dev = s.dev := rfl
@[simp] theorem State.memPut_auth (s : State) (a : Nat) (bs : List Byte) : (s.memPut a bs).auth = s.auth := rfl
@[simp] theorem State.memPut_frame (s : State) (a : Nat) (bs : List Byte) : (s.memPut a bs).frame = s.frame := rfl
@[simp] theorem State.memPut_fresh (s : State) (a : Nat) (bs : List Byte) : (s.memPut a bs).fresh = s.fresh := rfl
@[simp] theorem State.memPut_locked (s : State) (a : Nat) (bs : List Byte) : (s.memPut a bs).locked = s.locked := rfl
@[simp] theorem State.memPut_regs (s : State) (a : Nat) (bs : List Byte) : (s.memPut a bs).regs = s.regs := rfl
@[simp] theorem State.memPut_seqs (s : State) (a : Nat) (bs : List Byte) : (s.memPut a bs).seqs = s.seqs := rfl
@[simp] theorem State.memPut_log (s : State) (a : Nat) (bs : List Byte) : (s.memPut a bs).log = s.log := rfl
@[simp] theorem State.memPut_rdata (s : State) (a : Nat) (bs : List Byte) : (s.memPut a bs).rdata = s.rdata := rfl
@[simp] theorem State.memPut_time (s : State) (a : Nat) (bs : List Byte) : (s.memPut a bs).time = s.time := rfl
@[simp] theorem State.memPut_table (s : State) (a : Nat) (bs : List Byte) : (s.memPut a bs).table = tsetBytes s.table 0 a bs := rfl
@[simp] theorem State.memPut_fab (s : State) (a : Nat) (bs : List Byte) : (s.memPut a bs).fab = s.fab := rfl
@[simp] theorem State.memPut_quays (s : State) (a : Nat) (bs : List Byte) : (s.memPut a bs).quays = s.quays := rfl
@[simp] theorem State.memPut_lanes (s : State) (a : Nat) (bs : List Byte) : (s.memPut a bs).lanes = s.lanes := rfl
@[simp] theorem State.memPut_tiles (s : State) (a : Nat) (bs : List Byte) : (s.memPut a bs).tiles = s.tiles := rfl
@[simp] theorem State.memPut_exec (s : State) (a : Nat) (bs : List Byte) : (s.memPut a bs).exec = s.exec := rfl
@[simp] theorem State.memPut_sched (s : State) (a : Nat) (bs : List Byte) : (s.memPut a bs).sched = s.sched := rfl
@[simp] theorem State.memPut_tide (s : State) (a : Nat) (bs : List Byte) : (s.memPut a bs).tide = s.tide := rfl
@[simp] theorem State.memPut_pen (s : State) (a : Nat) (bs : List Byte) : (s.memPut a bs).pen = s.pen := rfl
@[simp] theorem State.memPut_mir (s : State) (a : Nat) (bs : List Byte) : (s.memPut a bs).mir = s.mir := rfl
@[simp] theorem State.memPut_boot (s : State) (a : Nat) (bs : List Byte) : (s.memPut a bs).boot = s.boot := rfl
@[simp] theorem State.memPut_cal (s : State) (a : Nat) (bs : List Byte) : (s.memPut a bs).cal = s.cal := rfl
@[simp] theorem State.memPut_port (s : State) (a : Nat) (bs : List Byte) : (s.memPut a bs).port = s.port := rfl
@[simp] theorem State.memPut_pending (s : State) (a : Nat) (bs : List Byte) : (s.memPut a bs).pending = s.pending := rfl
@[simp] theorem State.memPut_fgi (s : State) (a : Nat) (bs : List Byte) (k : Fld) (j : Nat) : (s.memPut a bs).fgi k j = s.fgi k j := rfl

end Sys2Proof.Machine
end

