-- ==== Sys2Proof/Laws/Reading.lean ====
section
/-! SUPPORT. Reading one field of the state through an operation: an operation that may change anything but one part, or
one register field, leaves it. With the `…_seen` lemma of the operation, `Extent.keeps_…` gives the reading. -/
namespace Sys2Proof.Machine

/-- Everything but one part. -/
def Extent.butPart (x : Part) : Extent :=
  ⟨(Part.otp :: Part.pending :: mostParts).filter fun y => decide (y ≠ x), true, []⟩

/-- Everything but one register field. -/
def Extent.butFld (f : Fld) : Extent :=
  ⟨Part.otp :: Part.pending :: mostParts, false, (regDescs.flatMap (·.flds)).filter fun g => decide (g.id ≠ f.id)⟩

theorem dev_of_seen (e : Extent) (s t : State) (h : State.seen e t = State.seen e s) (hp : e.p .dev = false) :
    t.dev = s.dev := by
  have h2 := congrArg (fun y => y.1.dev) h
  simpa [State.seen, hp] using h2

theorem auth_of_seen (e : Extent) (s t : State) (h : State.seen e t = State.seen e s) (hp : e.p .auth = false) :
    t.auth = s.auth := by
  have h2 := congrArg (fun y => y.1.auth) h
  simpa [State.seen, hp] using h2

theorem frame_of_seen (e : Extent) (s t : State) (h : State.seen e t = State.seen e s) (hp : e.p .frame = false) :
    t.frame = s.frame := by
  have h2 := congrArg (fun y => y.1.frame) h
  simpa [State.seen, hp] using h2

theorem fresh_of_seen (e : Extent) (s t : State) (h : State.seen e t = State.seen e s) (hp : e.p .fresh = false) :
    t.fresh = s.fresh := by
  have h2 := congrArg (fun y => y.1.fresh) h
  simpa [State.seen, hp] using h2

theorem locked_of_seen (e : Extent) (s t : State) (h : State.seen e t = State.seen e s) (hp : e.p .locked = false) :
    t.locked = s.locked := by
  have h2 := congrArg (fun y => y.1.locked) h
  simpa [State.seen, hp] using h2

theorem seqs_of_seen (e : Extent) (s t : State) (h : State.seen e t = State.seen e s) (hp : e.p .seqs = false) :
    t.seqs = s.seqs := by
  have h2 := congrArg (fun y => y.1.seqs) h
  simpa [State.seen, hp] using h2

theorem log_of_seen (e : Extent) (s t : State) (h : State.seen e t = State.seen e s) (hp : e.p .log = false) :
    t.log = s.log := by
  have h2 := congrArg (fun y => y.1.log) h
  simpa [State.seen, hp] using h2

theorem rdata_of_seen (e : Extent) (s t : State) (h : State.seen e t = State.seen e s) (hp : e.p .rdata = false) :
    t.rdata = s.rdata := by
  have h2 := congrArg (fun y => y.1.rdata) h
  simpa [State.seen, hp] using h2

theorem time_of_seen (e : Extent) (s t : State) (h : State.seen e t = State.seen e s) (hp : e.p .time = false) :
    t.time = s.time := by
  have h2 := congrArg (fun y => y.1.time) h
  simpa [State.seen, hp] using h2

theorem table_of_seen (e : Extent) (s t : State) (h : State.seen e t = State.seen e s) (hp : e.p .table = false) :
    t.table = s.table := by
  have h2 := congrArg (fun y => y.1.table) h
  simpa [State.seen, hp] using h2

theorem fab_of_seen (e : Extent) (s t : State) (h : State.seen e t = State.seen e s) (hp : e.p .fab = false) :
    t.fab = s.fab := by
  have h2 := congrArg (fun y => y.1.fab) h
  simpa [State.seen, hp] using h2

theorem quays_of_seen (e : Extent) (s t : State) (h : State.seen e t = State.seen e s) (hp : e.p .quays = false) :
    t.quays = s.quays := by
  have h2 := congrArg (fun y => y.1.quays) h
  simpa [State.seen, hp] using h2

theorem lanes_of_seen (e : Extent) (s t : State) (h : State.seen e t = State.seen e s) (hp : e.p .lanes = false) :
    t.lanes = s.lanes := by
  have h2 := congrArg (fun y => y.1.lanes) h
  simpa [State.seen, hp] using h2

theorem tiles_of_seen (e : Extent) (s t : State) (h : State.seen e t = State.seen e s) (hp : e.p .tiles = false) :
    t.tiles = s.tiles := by
  have h2 := congrArg (fun y => y.1.tiles) h
  simpa [State.seen, hp] using h2

theorem exec_of_seen (e : Extent) (s t : State) (h : State.seen e t = State.seen e s) (hp : e.p .exec = false) :
    t.exec = s.exec := by
  have h2 := congrArg (fun y => y.1.exec) h
  simpa [State.seen, hp] using h2

theorem sched_of_seen (e : Extent) (s t : State) (h : State.seen e t = State.seen e s) (hp : e.p .sched = false) :
    t.sched = s.sched := by
  have h2 := congrArg (fun y => y.1.sched) h
  simpa [State.seen, hp] using h2

theorem tide_of_seen (e : Extent) (s t : State) (h : State.seen e t = State.seen e s) (hp : e.p .tide = false) :
    t.tide = s.tide := by
  have h2 := congrArg (fun y => y.1.tide) h
  simpa [State.seen, hp] using h2

theorem pen_of_seen (e : Extent) (s t : State) (h : State.seen e t = State.seen e s) (hp : e.p .pen = false) :
    t.pen = s.pen := by
  have h2 := congrArg (fun y => y.1.pen) h
  simpa [State.seen, hp] using h2

theorem mir_of_seen (e : Extent) (s t : State) (h : State.seen e t = State.seen e s) (hp : e.p .mir = false) :
    t.mir = s.mir := by
  have h2 := congrArg (fun y => y.1.mir) h
  simpa [State.seen, hp] using h2

theorem cal_of_seen (e : Extent) (s t : State) (h : State.seen e t = State.seen e s) (hp : e.p .cal = false) :
    t.cal = s.cal := by
  have h2 := congrArg (fun y => y.1.cal) h
  simpa [State.seen, hp] using h2

theorem port_of_seen (e : Extent) (s t : State) (h : State.seen e t = State.seen e s) (hp : e.p .port = false) :
    t.port = s.port := by
  have h2 := congrArg (fun y => y.1.port) h
  simpa [State.seen, hp] using h2

theorem pending_of_seen (e : Extent) (s t : State) (h : State.seen e t = State.seen e s) (hp : e.p .pending = false) :
    t.pending = s.pending := by
  have h2 := congrArg (fun y => y.1.pending) h
  simpa [State.seen, hp] using h2

theorem otp_of_seen (e : Extent) (s t : State) (h : State.seen e t = State.seen e s) (hp : e.p .otp = false) :
    t.boot.otp = s.boot.otp := by
  have h2 := congrArg (fun y => y.1.boot.otp) h
  simpa [State.seen, hp] using h2

theorem boot_of_seen (e : Extent) (s t : State) (h : State.seen e t = State.seen e s) (hp : e.p .boot = false)
    (ho : e.p .otp = false) : t.boot = s.boot := by
  have h2 := congrArg (fun y => y.1.boot) h
  simp only [State.seen, hp, ho, Bool.false_eq_true, if_false] at h2
  exact h2

end Sys2Proof.Machine
end

