-- ==== Sys2Proof/Laws/SeenRows0.lean ====
section
/-! SUPPORT. For each command, part 1 of 6: it answers a next state, the same outside every extent that covers what the
command may change (Laws/Seen.lean). -/
namespace Sys2Proof.Machine
set_option linter.all false

theorem execTbIncWrite_seen (xe : Extent) (n : Fin 4) (v : Word) (s : State) (xh : xe.covers [.time] [F.TIM_T3STAT_INCERR, F.TIM_TBnINCHI_INC] = true) :
    ∃ t, execTbIncWrite n v s = .next t ∧ State.seen xe t = State.seen xe s := by
  simp only [Extent.covers, List.all_cons, List.all_nil, Bool.and_true, Bool.true_and, Bool.and_eq_true] at xh
  refine ⟨_, rfl, ?_⟩
  simp [xh]

theorem execTbAdjWrite_seen (xe : Extent) (n : Fin 4) (v : Word) (s : State) (xh : xe.covers [.time] [] = true) :
    ∃ t, execTbAdjWrite n v s = .next t ∧ State.seen xe t = State.seen xe s := by
  simp only [Extent.covers, List.all_cons, List.all_nil, Bool.and_true, Bool.true_and, Bool.and_eq_true] at xh
  refine ⟨_, rfl, ?_⟩
  simp [xh]

theorem execTbNsReadLatch_seen (xe : Extent) (n : Fin 4) (c : Nat) (s : State) (xh : xe.covers [.rdata] [F.TIM_TBnFRAC_VALUE, F.TIM_TBnWRAP_VALUE] = true) :
    ∃ t, execTbNsReadLatch n c s = .next t ∧ State.seen xe t = State.seen xe s := by
  simp only [Extent.covers, List.all_cons, List.all_nil, Bool.and_true, Bool.true_and, Bool.and_eq_true] at xh
  refine ⟨_, rfl, ?_⟩
  simp [xh]

theorem execTimStatclr_seen (xe : Extent) (s : State) (xh : xe.covers [] [F.TIM_BCNBAD, F.TIM_FARCNT, F.TIM_HOLDCNT, F.TIM_PTPDROP, F.TIM_SRCCNT] = true) :
    ∃ t, execTimStatclr s = .next t ∧ State.seen xe t = State.seen xe s := by
  simp only [Extent.covers, List.all_cons, List.all_nil, Bool.and_true, Bool.true_and, Bool.and_eq_true] at xh
  refine ⟨_, rfl, ?_⟩
  simp [xh]

theorem execTb3Step_seen (xe : Extent) (s : State) (xh : xe.covers [.time] [] = true) :
    ∃ t, execTb3Step s = .next t ∧ State.seen xe t = State.seen xe s := by
  simp only [Extent.covers, List.all_cons, List.all_nil, Bool.and_true, Bool.true_and, Bool.and_eq_true] at xh
  refine ⟨_, rfl, ?_⟩
  simp [xh]

theorem execTb3NsWrap_seen (xe : Extent) (c : Nat) (s : State) (xh : xe.covers [.seqs, .time] [F.ICU_LOSTCNT, F.ICU_OVRw_SRC, F.ICU_PENDw_SRC] = true) :
    ∃ t, execTb3NsWrap c s = .next t ∧ State.seen xe t = State.seen xe s := by
  simp only [Extent.covers, List.all_cons, List.all_nil, Bool.and_true, Bool.true_and, Bool.and_eq_true] at xh
  refine ⟨_, rfl, ?_⟩
  simp [xh]

theorem execPpsInEdge_seen (xe : Extent) (c : Nat) (s : State) (xh : xe.covers [.seqs] [F.ICU_LOSTCNT, F.ICU_OVRw_SRC, F.ICU_PENDw_SRC, F.TIM_PPSCAPn_NS, F.TIM_PPSSTAT_NEW, F.TIM_PPSSTAT_OVERRUN, F.TIM_PPSSTAT_WRAP] = true) :
    ∃ t, execPpsInEdge c s = .next t ∧ State.seen xe t = State.seen xe s := by
  simp only [Extent.covers, List.all_cons, List.all_nil, Bool.and_true, Bool.true_and, Bool.and_eq_true] at xh
  refine ⟨_, rfl, ?_⟩
  simp [xh]

theorem execPpsnextWrite_seen (xe : Extent) (v : Word) (s : State) (xh : xe.covers [] [F.TIM_PPSCFG_ARMED, F.TIM_PPSNEXT_NS] = true) :
    ∃ t, execPpsnextWrite v s = .next t ∧ State.seen xe t = State.seen xe s := by
  simp only [Extent.covers, List.all_cons, List.all_nil, Bool.and_true, Bool.true_and, Bool.and_eq_true] at xh
  refine ⟨_, rfl, ?_⟩
  simp [xh]

theorem execPpsOutEdge_seen (xe : Extent) (c : Nat) (s : State) (xh : xe.covers [.time] [F.TIM_PPSCFG_ARMED] = true) :
    ∃ t, execPpsOutEdge c s = .next t ∧ State.seen xe t = State.seen xe s := by
  simp only [Extent.covers, List.all_cons, List.all_nil, Bool.and_true, Bool.true_and, Bool.and_eq_true] at xh
  refine ⟨_, rfl, ?_⟩
  simp [xh]

theorem execPpsOutEnd_seen (xe : Extent) (c : Nat) (s : State) (xh : xe.covers [.time] [] = true) :
    ∃ t, execPpsOutEnd c s = .next t ∧ State.seen xe t = State.seen xe s := by
  simp only [Extent.covers, List.all_cons, List.all_nil, Bool.and_true, Bool.true_and, Bool.and_eq_true] at xh
  refine ⟨_, rfl, ?_⟩
  simp [xh]

theorem execEvtCapture_seen (xe : Extent) (n : Fin 4) (falling : Bool) (c : Nat) (s : State) (xh : xe.covers [.seqs, .time] [F.EVT_LOSTn, F.EVT_STAT_OVERRUN, F.ICU_LOSTCNT, F.ICU_OVRw_SRC, F.ICU_PENDw_SRC] = true) :
    ∃ t, execEvtCapture n falling c s = .next t ∧ State.seen xe t = State.seen xe s := by
  simp only [Extent.covers, List.all_cons, List.all_nil, Bool.and_true, Bool.true_and, Bool.and_eq_true] at xh
  refine ⟨_, rfl, ?_⟩
  simp [xh]

theorem execEvtPop_seen (xe : Extent) (n : Fin 4) (s : State) (xh : xe.covers [.time] [] = true) :
    ∃ t, execEvtPop n s = .next t ∧ State.seen xe t = State.seen xe s := by
  simp only [Extent.covers, List.all_cons, List.all_nil, Bool.and_true, Bool.true_and, Bool.and_eq_true] at xh
  refine ⟨_, rfl, ?_⟩
  simp [xh]

theorem execEvtStatclr_seen (xe : Extent) (s : State) (xh : xe.covers [] [F.EVT_LOSTn] = true) :
    ∃ t, execEvtStatclr s = .next t ∧ State.seen xe t = State.seen xe s := by
  simp only [Extent.covers, List.all_cons, List.all_nil, Bool.and_true, Bool.true_and, Bool.and_eq_true] at xh
  refine ⟨_, rfl, ?_⟩
  simp [xh]

theorem execBeaconEdgeReceive_seen (xe : Extent) (at100 width : Nat) (s : State) (xh : xe.covers [.log, .time, .port] [F.DBG_FLTSTAT_CLASS, F.TIM_BCNBAD, F.TIM_BCNOFF_OFFSET, F.TIM_BCNRTT_TIME, F.TIM_BCNSTAT_ACQ, F.TIM_BCNSTAT_BADWORD, F.TIM_BCNSTAT_FNMIS, F.TIM_BCNSTAT_HOP, F.TIM_BCNSTAT_HOPLIM, F.TIM_BCNSTAT_SRCOK, F.TIM_BCNSTAT_STEPPED, F.TIM_BCNSTAT_VALID] = true) :
    ∃ t, execBeaconEdgeReceive at100 width s = .next t ∧ State.seen xe t = State.seen xe s := by
  simp only [Extent.covers, List.all_cons, List.all_nil, Bool.and_true, Bool.true_and, Bool.and_eq_true] at xh
  refine ⟨_, rfl, ?_⟩
  simp [xh]

theorem execBeaconMiss_seen (xe : Extent) (s : State) (xh : xe.covers [.time] [F.TIM_BCNSTAT_ACQ, F.TIM_BCNSTAT_MISS, F.TIM_BCNSTAT_VALID] = true) :
    ∃ t, execBeaconMiss s = .next t ∧ State.seen xe t = State.seen xe s := by
  simp only [Extent.covers, List.all_cons, List.all_nil, Bool.and_true, Bool.true_and, Bool.and_eq_true] at xh
  refine ⟨_, rfl, ?_⟩
  simp [xh]

theorem execBeaconSkewMeasure_seen (xe : Extent) (tin tout : BitVec 12) (s : State) (xh : xe.covers [] [F.TIM_BCNSKEW_TIN, F.TIM_BCNSKEW_TOUT] = true) :
    ∃ t, execBeaconSkewMeasure tin tout s = .next t ∧ State.seen xe t = State.seen xe s := by
  simp only [Extent.covers, List.all_cons, List.all_nil, Bool.and_true, Bool.true_and, Bool.and_eq_true] at xh
  refine ⟨_, rfl, ?_⟩
  simp [xh]

theorem execBeaconEcho_seen (xe : Extent) (at100 width : Nat) (s : State) (xh : xe.covers [.time] [] = true) :
    ∃ t, execBeaconEcho at100 width s = .next t ∧ State.seen xe t = State.seen xe s := by
  simp only [Extent.covers, List.all_cons, List.all_nil, Bool.and_true, Bool.true_and, Bool.and_eq_true] at xh
  refine ⟨_, rfl, ?_⟩
  simp [xh]

theorem execQyDrvStatclr_seen (xe : Extent) (q : Fin 32) (s : State) (xh : xe.covers [] [F.QY_DRVSAT, F.QY_MODOVL, F.QY_RNGSAT] = true) :
    ∃ t, execQyDrvStatclr q s = .next t ∧ State.seen xe t = State.seen xe s := by
  simp only [Extent.covers, List.all_cons, List.all_nil, Bool.and_true, Bool.true_and, Bool.and_eq_true] at xh
  refine ⟨_, rfl, ?_⟩
  simp [xh]

theorem execDrvcfgModeWrite_seen (xe : Extent) (q : Fin 32) (v : Word) (s : State) (xh : xe.covers [.quays] [F.QY_DRVCFG_MODE, F.QY_DRVCFG_SSLEN, F.QY_DRVSTAT_MODEDEN] = true) :
    ∃ t, execDrvcfgModeWrite q v s = .next t ∧ State.seen xe t = State.seen xe s := by
  simp only [Extent.covers, List.all_cons, List.all_nil, Bool.and_true, Bool.true_and, Bool.and_eq_true] at xh
  refine ⟨_, rfl, ?_⟩
  simp [xh]

theorem execHalflvlWrite_seen (xe : Extent) (q : Fin 32) (v : Word) (s : State) (xh : xe.covers [.quays] [F.QY_DRVSTAT_LVLERR, F.QY_HALFLVL_LEVEL] = true) :
    ∃ t, execHalflvlWrite q v s = .next t ∧ State.seen xe t = State.seen xe s := by
  simp only [Extent.covers, List.all_cons, List.all_nil, Bool.and_true, Bool.true_and, Bool.and_eq_true] at xh
  refine ⟨_, rfl, ?_⟩
  simp [xh]

theorem execRnggainWrite_seen (xe : Extent) (q : Fin 32) (r : Fin 4) (v : Word) (s : State) (xh : xe.covers [.quays] [F.QY_DRVSTAT_LVLERR, F.QY_RNGGAINr_GAIN] = true) :
    ∃ t, execRnggainWrite q r v s = .next t ∧ State.seen xe t = State.seen xe s := by
  simp only [Extent.covers, List.all_cons, List.all_nil, Bool.and_true, Bool.true_and, Bool.and_eq_true] at xh
  refine ⟨_, rfl, ?_⟩
  simp [xh]

theorem execPilAccRd_seen (xe : Extent) (s : State) (xh : xe.covers [] [F.PIL_SCFG0_INC, F.PIL_SCFG0_MODE, F.PIL_SCFG0_SCALE, F.PIL_SCFG1_PHOFF, F.PIL_SCFG2_AMP] = true) :
    ∃ t, execPilAccRd s = .next t ∧ State.seen xe t = State.seen xe s := by
  simp only [Extent.covers, List.all_cons, List.all_nil, Bool.and_true, Bool.true_and, Bool.and_eq_true] at xh
  refine ⟨_, rfl, ?_⟩
  simp [xh]

theorem execPilAccWr_seen (xe : Extent) (s : State) (xh : xe.covers [.fab] [F.PIL_STAT_WERR] = true) :
    ∃ t, execPilAccWr s = .next t ∧ State.seen xe t = State.seen xe s := by
  simp only [Extent.covers, List.all_cons, List.all_nil, Bool.and_true, Bool.true_and, Bool.and_eq_true] at xh
  refine ⟨_, rfl, ?_⟩
  simp [xh]

theorem execPilRevert_seen (xe : Extent) (s : State) (xh : xe.covers [.fab] [F.PIL_STAT_BUSY, F.PIL_STAT_WERR] = true) :
    ∃ t, execPilRevert s = .next t ∧ State.seen xe t = State.seen xe s := by
  simp only [Extent.covers, List.all_cons, List.all_nil, Bool.and_true, Bool.true_and, Bool.and_eq_true] at xh
  refine ⟨_, rfl, ?_⟩
  simp [xh]

theorem execPilApply_seen (xe : Extent) (delay : Fin 2) (s : State) (xh : xe.covers [.fab] [F.PIL_APPLYF_FRAME, F.PIL_BADSLOT_SLOT, F.PIL_STAT_BUSY, F.PIL_STAT_REASON, F.PIL_STAT_REFUSED, F.PIL_STAT_WERR] = true) :
    ∃ t, execPilApply delay s = .next t ∧ State.seen xe t = State.seen xe s := by
  simp only [Extent.covers, List.all_cons, List.all_nil, Bool.and_true, Bool.true_and, Bool.and_eq_true] at xh
  refine ⟨_, rfl, ?_⟩
  simp [xh]

theorem execPilotApplyTakeEffect_seen (xe : Extent) (s : State) (xh : xe.covers [.fab] [F.PIL_STAT_BUSY] = true) :
    ∃ t, execPilotApplyTakeEffect s = .next t ∧ State.seen xe t = State.seen xe s := by
  simp only [Extent.covers, List.all_cons, List.all_nil, Bool.and_true, Bool.true_and, Bool.and_eq_true] at xh
  refine ⟨_, rfl, ?_⟩
  simp [xh]

theorem execPilCopyDone_seen (xe : Extent) (s : State) (xh : xe.covers [] [F.PIL_STAT_BUSY] = true) :
    ∃ t, execPilCopyDone s = .next t ∧ State.seen xe t = State.seen xe s := by
  simp only [Extent.covers, List.all_cons, List.all_nil, Bool.and_true, Bool.true_and, Bool.and_eq_true] at xh
  refine ⟨_, rfl, ?_⟩
  simp [xh]

theorem execTransitionLateEnd_seen (xe : Extent) (slot : Fin 12288) (s : State) (xh : xe.covers [.fab] [F.SEG_LATEEND] = true) :
    ∃ t, execTransitionLateEnd slot s = .next t ∧ State.seen xe t = State.seen xe s := by
  simp only [Extent.covers, List.all_cons, List.all_nil, Bool.and_true, Bool.true_and, Bool.and_eq_true] at xh
  refine ⟨_, rfl, ?_⟩
  simp [xh]

theorem execSegStatclr_seen (xe : Extent) (s : State) (xh : xe.covers [.port] [F.SEG_DEFERCNT, F.SEG_FETCHHWM_FETCHES, F.SEG_LATEEND, F.SEG_SPLITCNT, F.SEG_STEPCAP, F.SEG_TRUNCCNT, F.SEG_UNDCNT] = true) :
    ∃ t, execSegStatclr s = .next t ∧ State.seen xe t = State.seen xe s := by
  simp only [Extent.covers, List.all_cons, List.all_nil, Bool.and_true, Bool.true_and, Bool.and_eq_true] at xh
  refine ⟨_, rfl, ?_⟩
  simp [xh]

theorem execBcmdOpen_seen (xe : Extent) (s : State) (xh : xe.covers [.fab] [] = true) :
    ∃ t, execBcmdOpen s = .next t ∧ State.seen xe t = State.seen xe s := by
  simp only [Extent.covers, List.all_cons, List.all_nil, Bool.and_true, Bool.true_and, Bool.and_eq_true] at xh
  refine ⟨_, rfl, ?_⟩
  simp [xh]

theorem execBcmdClose_seen (xe : Extent) (s : State) (xh : xe.covers [.fab] [] = true) :
    ∃ t, execBcmdClose s = .next t ∧ State.seen xe t = State.seen xe s := by
  simp only [Extent.covers, List.all_cons, List.all_nil, Bool.and_true, Bool.true_and, Bool.and_eq_true] at xh
  refine ⟨_, rfl, ?_⟩
  simp [xh]

theorem execBundleCommandApply_seen (xe : Extent) (b : Fin 1536) (s : State) (xh : xe.covers [.fab] [] = true) :
    ∃ t, execBundleCommandApply b s = .next t ∧ State.seen xe t = State.seen xe s := by
  simp only [Extent.covers, List.all_cons, List.all_nil, Bool.and_true, Bool.true_and, Bool.and_eq_true] at xh
  refine ⟨_, rfl, ?_⟩
  simp [xh]

theorem execBundleUnpark_seen (xe : Extent) (b : Fin 1536) (s : State) (xh : xe.covers [.fab] [] = true) :
    ∃ t, execBundleUnpark b s = .next t ∧ State.seen xe t = State.seen xe s := by
  simp only [Extent.covers, List.all_cons, List.all_nil, Bool.and_true, Bool.true_and, Bool.and_eq_true] at xh
  refine ⟨_, rfl, ?_⟩
  simp [xh]

theorem execBundleInitClose_seen (xe : Extent) (b : Fin 1536) (s : State) (xh : xe.covers [.fab] [] = true) :
    ∃ t, execBundleInitClose b s = .next t ∧ State.seen xe t = State.seen xe s := by
  simp only [Extent.covers, List.all_cons, List.all_nil, Bool.and_true, Bool.true_and, Bool.and_eq_true] at xh
  refine ⟨_, rfl, ?_⟩
  simp [xh]

theorem execCoefficientChangeApply_seen (xe : Extent) (b : Fin 1536) (s : State) (xh : xe.covers [.fab] [] = true) :
    ∃ t, execCoefficientChangeApply b s = .next t ∧ State.seen xe t = State.seen xe s := by
  simp only [Extent.covers, List.all_cons, List.all_nil, Bool.and_true, Bool.true_and, Bool.and_eq_true] at xh
  refine ⟨_, rfl, ?_⟩
  simp [xh]

theorem execCoefficientReclose_seen (xe : Extent) (b : Fin 1536) (s : State) (xh : xe.covers [.fab] [] = true) :
    ∃ t, execCoefficientReclose b s = .next t ∧ State.seen xe t = State.seen xe s := by
  simp only [Extent.covers, List.all_cons, List.all_nil, Bool.and_true, Bool.true_and, Bool.and_eq_true] at xh
  refine ⟨_, rfl, ?_⟩
  simp [xh]

theorem execSlotDark_seen (xe : Extent) (slot : Fin 12288) (s : State) (xh : xe.covers [.seqs, .log, .fab, .port] [F.DBG_FLTSTAT_CLASS, F.ICU_LOSTCNT, F.ICU_OVRw_SRC, F.ICU_PENDw_SRC, F.MOR_DARKCNT] = true) :
    ∃ t, execSlotDark slot s = .next t ∧ State.seen xe t = State.seen xe s := by
  simp only [Extent.covers, List.all_cons, List.all_nil, Bool.and_true, Bool.true_and, Bool.and_eq_true] at xh
  refine ⟨_, rfl, ?_⟩
  simp [xh]

theorem execEngineMemoryError_seen (xe : Extent) (phys : Fin 50) (cycle : Nat) (corrected : Bool) (s : State) (xh : xe.covers [.seqs, .log, .fab, .port] [F.DBG_FLTSTAT_CLASS, F.ICU_LOSTCNT, F.ICU_OVRw_SRC, F.ICU_PENDw_SRC, F.MOR_ECCCOR, F.MOR_ESTATp_CAUSE, F.MOR_ESTATp_STATE, F.MOR_STAT_ENGFLT] = true) :
    ∃ t, execEngineMemoryError phys cycle corrected s = .next t ∧ State.seen xe t = State.seen xe s := by
  simp only [Extent.covers, List.all_cons, List.all_nil, Bool.and_true, Bool.true_and, Bool.and_eq_true] at xh
  refine ⟨_, rfl, ?_⟩
  simp [xh]

theorem execEngineLateEscalation_seen (xe : Extent) (b : Fin 1536) (s : State) (xh : xe.covers [.seqs, .log, .fab, .port] [F.DBG_FLTSTAT_CLASS, F.ICU_LOSTCNT, F.ICU_OVRw_SRC, F.ICU_PENDw_SRC, F.MOR_ESTATp_CAUSE, F.MOR_ESTATp_STATE, F.MOR_STAT_ENGFLT] = true) :
    ∃ t, execEngineLateEscalation b s = .next t ∧ State.seen xe t = State.seen xe s := by
  simp only [Extent.covers, List.all_cons, List.all_nil, Bool.and_true, Bool.true_and, Bool.and_eq_true] at xh
  refine ⟨_, rfl, ?_⟩
  simp [xh]

theorem execSubstGo_seen (xe : Extent) (s : State) (xh : xe.covers [.fab] [F.MOR_ESTATp_LOGICAL, F.MOR_ESTATp_STATE, F.MOR_SUBSTAT_BUSY, F.MOR_SUBSTAT_REASON, F.MOR_SUBSTAT_REFUSED] = true) :
    ∃ t, execSubstGo s = .next t ∧ State.seen xe t = State.seen xe s := by
  simp only [Extent.covers, List.all_cons, List.all_nil, Bool.and_true, Bool.true_and, Bool.and_eq_true] at xh
  refine ⟨_, rfl, ?_⟩
  simp [xh]

theorem execSubstLoadComplete_seen (xe : Extent) (s : State) (xh : xe.covers [.seqs, .log, .fab, .port] [F.DBG_FLTSTAT_CLASS, F.ICU_LOSTCNT, F.ICU_OVRw_SRC, F.ICU_PENDw_SRC, F.MOR_EMAPe_PHYS, F.MOR_ESTATp_LOGICAL, F.MOR_ESTATp_STATE, F.MOR_PARKCNT, F.MOR_SUBSTAT_BUSY, F.MOR_SUBSTAT_DONE] = true) :
    ∃ t, execSubstLoadComplete s = .next t ∧ State.seen xe t = State.seen xe s := by
  simp only [Extent.covers, List.all_cons, List.all_nil, Bool.and_true, Bool.true_and, Bool.and_eq_true] at xh
  refine ⟨_, rfl, ?_⟩
  simp [xh]

theorem execMorStatclr_seen (xe : Extent) (s : State) (xh : xe.covers [.port] [F.MOR_BFSAT, F.MOR_CLAMPCNT, F.MOR_DARKCNT, F.MOR_ECCCOR, F.MOR_FOLDCNT, F.MOR_PARKCNT, F.MOR_SETFAIL, F.MOR_SKIPGAP] = true) :
    ∃ t, execMorStatclr s = .next t ∧ State.seen xe t = State.seen xe s := by
  simp only [Extent.covers, List.all_cons, List.all_nil, Bool.and_true, Bool.true_and, Bool.and_eq_true] at xh
  refine ⟨_, rfl, ?_⟩
  simp [xh]

theorem execSlotcfgFset_seen (xe : Extent) (s : State) (xh : xe.covers [.fab] [] = true) :
    ∃ t, execSlotcfgFset s = .next t ∧ State.seen xe t = State.seen xe s := by
  simp only [Extent.covers, List.all_cons, List.all_nil, Bool.and_true, Bool.true_and, Bool.and_eq_true] at xh
  refine ⟨_, rfl, ?_⟩
  simp [xh]

theorem execSlotcfgFclr_seen (xe : Extent) (s : State) (xh : xe.covers [.fab] [] = true) :
    ∃ t, execSlotcfgFclr s = .next t ∧ State.seen xe t = State.seen xe s := by
  simp only [Extent.covers, List.all_cons, List.all_nil, Bool.and_true, Bool.true_and, Bool.and_eq_true] at xh
  refine ⟨_, rfl, ?_⟩
  simp [xh]

theorem execSlotcfgOwnerWrite_seen (xe : Extent) (v : Word) (s : State) (xh : xe.covers [.seqs, .fab] [F.ICU_LOSTCNT, F.ICU_OVRw_SRC, F.ICU_PENDw_SRC, F.SYS_ERRSTAT_RSVDENC] = true) :
    ∃ t, execSlotcfgOwnerWrite v s = .next t ∧ State.seen xe t = State.seen xe s := by
  simp only [Extent.covers, List.all_cons, List.all_nil, Bool.and_true, Bool.true_and, Bool.and_eq_true] at xh
  refine ⟨_, rfl, ?_⟩
  simp [xh]

theorem execCstatClrdown_seen (xe : Extent) (s : State) (xh : xe.covers [.exec] [] = true) :
    ∃ t, execCstatClrdown s = .next t ∧ State.seen xe t = State.seen xe s := by
  simp only [Extent.covers, List.all_cons, List.all_nil, Bool.and_true, Bool.true_and, Bool.and_eq_true] at xh
  refine ⟨_, rfl, ?_⟩
  simp [xh]

theorem execManStatclr_seen (xe : Extent) (s : State) (xh : xe.covers [] [F.MAN_ALLOCCNT, F.MAN_DONECNT, F.MAN_FAILSKIP, F.MAN_HOLDSKIP, F.MAN_NOROUTECNT, F.MAN_NOSPCNT, F.MAN_OUTSKIP, F.MAN_PARTCNT, F.MAN_VOIDCNT, F.MAN_ZEROCNT] = true) :
    ∃ t, execManStatclr s = .next t ∧ State.seen xe t = State.seen xe s := by
  simp only [Extent.covers, List.all_cons, List.all_nil, Bool.and_true, Bool.true_and, Bool.and_eq_true] at xh
  refine ⟨_, rfl, ?_⟩
  simp [xh]

theorem execSlotSettled_seen (xe : Extent) (slot : Fin 12288) (s : State) (xh : xe.covers [.fab] [] = true) :
    ∃ t, execSlotSettled slot s = .next t ∧ State.seen xe t = State.seen xe s := by
  simp only [Extent.covers, List.all_cons, List.all_nil, Bool.and_true, Bool.true_and, Bool.and_eq_true] at xh
  refine ⟨_, rfl, ?_⟩
  simp [xh]

theorem execSettleTimeout_seen (xe : Extent) (slot : Fin 12288) (s : State) (xh : xe.covers [.seqs, .fab, .exec] [F.ICU_LOSTCNT, F.ICU_OVRw_SRC, F.ICU_PENDw_SRC, F.MOR_SETFAIL] = true) :
    ∃ t, execSettleTimeout slot s = .next t ∧ State.seen xe t = State.seen xe s := by
  simp only [Extent.covers, List.all_cons, List.all_nil, Bool.and_true, Bool.true_and, Bool.and_eq_true] at xh
  refine ⟨_, rfl, ?_⟩
  simp [xh]

theorem execTideArm_seen (xe : Extent) (s : State) (xh : xe.covers [.tide] [F.TID_LATEN_N, F.TID_PSTART_FRAME, F.TID_STAT_LATEBASE, F.TID_STAT_REASON, F.TID_STAT_REFUSED] = true) :
    ∃ t, execTideArm s = .next t ∧ State.seen xe t = State.seen xe s := by
  simp only [Extent.covers, List.all_cons, List.all_nil, Bool.and_true, Bool.true_and, Bool.and_eq_true] at xh
  refine ⟨_, rfl, ?_⟩
  simp [xh]

theorem execTideCancel_seen (xe : Extent) (s : State) (xh : xe.covers [.tide] [] = true) :
    ∃ t, execTideCancel s = .next t ∧ State.seen xe t = State.seen xe s := by
  simp only [Extent.covers, List.all_cons, List.all_nil, Bool.and_true, Bool.true_and, Bool.and_eq_true] at xh
  refine ⟨_, rfl, ?_⟩
  simp [xh]

theorem execTideStop_seen (xe : Extent) (s : State) (xh : xe.covers [.tide] [F.TID_STAT_REASON, F.TID_STAT_REFUSED] = true) :
    ∃ t, execTideStop s = .next t ∧ State.seen xe t = State.seen xe s := by
  simp only [Extent.covers, List.all_cons, List.all_nil, Bool.and_true, Bool.true_and, Bool.and_eq_true] at xh
  refine ⟨_, rfl, ?_⟩
  simp [xh]

theorem execTidStatclr_seen (xe : Extent) (s : State) (xh : xe.covers [] [F.TID_COLLIDE, F.TID_FIRECNT, F.TID_FIREREF, F.TID_FIREVOID] = true) :
    ∃ t, execTidStatclr s = .next t ∧ State.seen xe t = State.seen xe s := by
  simp only [Extent.covers, List.all_cons, List.all_nil, Bool.and_true, Bool.true_and, Bool.and_eq_true] at xh
  refine ⟨_, rfl, ?_⟩
  simp [xh]

theorem execTideStart_seen (xe : Extent) (s : State) (xh : xe.covers [.seqs, .tide] [F.ICU_LOSTCNT, F.ICU_OVRw_SRC, F.ICU_PENDw_SRC, F.TID_ACYCLE_CYCLE] = true) :
    ∃ t, execTideStart s = .next t ∧ State.seen xe t = State.seen xe s := by
  simp only [Extent.covers, List.all_cons, List.all_nil, Bool.and_true, Bool.true_and, Bool.and_eq_true] at xh
  refine ⟨_, rfl, ?_⟩
  simp [xh]

theorem execTideTableStop_seen (xe : Extent) (s : State) (xh : xe.covers [.tide] [] = true) :
    ∃ t, execTideTableStop s = .next t ∧ State.seen xe t = State.seen xe s := by
  simp only [Extent.covers, List.all_cons, List.all_nil, Bool.and_true, Bool.true_and, Bool.and_eq_true] at xh
  refine ⟨_, rfl, ?_⟩
  simp [xh]

theorem execQueueLateFlush_seen (xe : Extent) (q : Fin 64) (s : State) (xh : xe.covers [.seqs, .fab, .exec, .sched] [F.ICU_LOSTCNT, F.ICU_OVRw_SRC, F.ICU_PENDw_SRC, F.MAN_DONECNT, F.MAN_PARTCNT, F.MAN_VOIDCNT, F.SCH_LATEFLUSH] = true) :
    ∃ t, execQueueLateFlush q s = .next t ∧ State.seen xe t = State.seen xe s := by
  simp only [Extent.covers, List.all_cons, List.all_nil, Bool.and_true, Bool.true_and, Bool.and_eq_true] at xh
  refine ⟨_, rfl, ?_⟩
  simp [xh]

theorem execQueueFlush_seen (xe : Extent) (s : State) (xh : xe.covers [.sched] [] = true) :
    ∃ t, execQueueFlush s = .next t ∧ State.seen xe t = State.seen xe s := by
  simp only [Extent.covers, List.all_cons, List.all_nil, Bool.and_true, Bool.true_and, Bool.and_eq_true] at xh
  refine ⟨_, rfl, ?_⟩
  simp [xh]

theorem execVtReadLatch_seen (xe : Extent) (s : State) (xh : xe.covers [.rdata] [F.SCH_VTHI_VT] = true) :
    ∃ t, execVtReadLatch s = .next t ∧ State.seen xe t = State.seen xe s := by
  simp only [Extent.covers, List.all_cons, List.all_nil, Bool.and_true, Bool.true_and, Bool.and_eq_true] at xh
  refine ⟨_, rfl, ?_⟩
  simp [xh]

theorem execQbalReadLatch_seen (xe : Extent) (s : State) (xh : xe.covers [.rdata] [F.SCH_QBALHI_BAL, F.SCH_QFTHI_FT] = true) :
    ∃ t, execQbalReadLatch s = .next t ∧ State.seen xe t = State.seen xe s := by
  simp only [Extent.covers, List.all_cons, List.all_nil, Bool.and_true, Bool.true_and, Bool.and_eq_true] at xh
  refine ⟨_, rfl, ?_⟩
  simp [xh]

theorem execSchStatclr_seen (xe : Extent) (s : State) (xh : xe.covers [.port] [F.SCH_ADMCNT, F.SCH_ADMFULL, F.SCH_ADMHWM_ADMIT, F.SCH_ADMHWM_EXAM, F.SCH_BALSAT, F.SCH_BUSYCNT, F.SCH_CMDFLUSH, F.SCH_DENYCNT, F.SCH_GATEDCNT, F.SCH_LATEFLUSH, F.SCH_PHWM_POWER, F.SCH_POLCNT, F.SCH_PWRWAIT, F.SCH_QADM_VALUE, F.SCH_QHWM_DEPTH, F.SCH_QLATHWM_VALUE, F.SCH_TIDEPWR, F.SCH_VOIDDEN] = true) :
    ∃ t, execSchStatclr s = .next t ∧ State.seen xe t = State.seen xe s := by
  simp only [Extent.covers, List.all_cons, List.all_nil, Bool.and_true, Bool.true_and, Bool.and_eq_true] at xh
  refine ⟨_, rfl, ?_⟩
  simp [xh]

end Sys2Proof.Machine
end

