-- ==== Sys2Proof/Laws/SeenRows1.lean ====
section
/-! SUPPORT. For each command, part 2 of 6: it answers a next state, the same outside every extent that covers what the
command may change (Laws/Seen.lean). -/
namespace Sys2Proof.Machine
set_option linter.all false

theorem execLaneSeekRateSwitch_seen (xe : Extent) (q : Fin 32) (s : State) (xh : xe.covers [.lanes] [] = true) :
    ∃ t, execLaneSeekRateSwitch q s = .next t ∧ State.seen xe t = State.seen xe s := by
  simp only [Extent.covers, List.all_cons, List.all_nil, Bool.and_true, Bool.true_and, Bool.and_eq_true] at xh
  refine ⟨_, rfl, ?_⟩
  simp [xh]

theorem execUpstreamLockAcquire_seen (xe : Extent) (q : Fin 32) (s : State) (xh : xe.covers [.seqs, .lanes, .cal] [F.CAL_STAT_DIRTY, F.ICU_LOSTCNT, F.ICU_OVRw_SRC, F.ICU_PENDw_SRC, F.QY_EYE_TPSEL, F.QY_LNKSTAT_STATE, F.QY_LNKSTAT_ULOCK, F.QY_TRAINCNT] = true) :
    ∃ t, execUpstreamLockAcquire q s = .next t ∧ State.seen xe t = State.seen xe s := by
  simp only [Extent.covers, List.all_cons, List.all_nil, Bool.and_true, Bool.true_and, Bool.and_eq_true] at xh
  refine ⟨_, rfl, ?_⟩
  simp [xh]

theorem execTrainPresetStep_seen (xe : Extent) (q : Fin 32) (s : State) (xh : xe.covers [.lanes] [F.QY_EYE_DEYE, F.QY_EYE_TEYE, F.QY_EYE_TPSEL] = true) :
    ∃ t, execTrainPresetStep q s = .next t ∧ State.seen xe t = State.seen xe s := by
  simp only [Extent.covers, List.all_cons, List.all_nil, Bool.and_true, Bool.true_and, Bool.and_eq_true] at xh
  refine ⟨_, rfl, ?_⟩
  simp [xh]

theorem execTrainComplete_seen (xe : Extent) (q : Fin 32) (s : State) (xh : xe.covers [.seqs, .lanes] [F.ICU_LOSTCNT, F.ICU_OVRw_SRC, F.ICU_PENDw_SRC, F.QY_LNKSTAT_STATE] = true) :
    ∃ t, execTrainComplete q s = .next t ∧ State.seen xe t = State.seen xe s := by
  simp only [Extent.covers, List.all_cons, List.all_nil, Bool.and_true, Bool.true_and, Bool.and_eq_true] at xh
  refine ⟨_, rfl, ?_⟩
  simp [xh]

theorem execTrainTimeout_seen (xe : Extent) (q : Fin 32) (s : State) (xh : xe.covers [.seqs, .log, .fab, .quays, .lanes, .port] [F.DBG_FLTSTAT_CLASS, F.ICU_LOSTCNT, F.ICU_OVRw_SRC, F.ICU_PENDw_SRC, F.MOR_PARKCNT, F.QY_DRVSTAT_AUTH, F.QY_LNKSTAT_STATE, F.QY_LNKSTAT_TGEN, F.QY_LNKSTAT_TLOCK, F.QY_LNKSTAT_TRAINFAIL, F.QY_LNKSTAT_ULOCK] = true) :
    ∃ t, execTrainTimeout q s = .next t ∧ State.seen xe t = State.seen xe s := by
  simp only [Extent.covers, List.all_cons, List.all_nil, Bool.and_true, Bool.true_and, Bool.and_eq_true] at xh
  refine ⟨_, rfl, ?_⟩
  simp [xh]

theorem execDiscoverTimeout_seen (xe : Extent) (q : Fin 32) (s : State) (xh : xe.covers [.seqs, .log, .fab, .quays, .lanes, .port] [F.DBG_FLTSTAT_CLASS, F.ICU_LOSTCNT, F.ICU_OVRw_SRC, F.ICU_PENDw_SRC, F.MOR_PARKCNT, F.QY_DRVSTAT_AUTH, F.QY_LNKSTAT_DISCFAIL, F.QY_LNKSTAT_STATE, F.QY_LNKSTAT_TGEN, F.QY_LNKSTAT_TLOCK, F.QY_LNKSTAT_ULOCK] = true) :
    ∃ t, execDiscoverTimeout q s = .next t ∧ State.seen xe t = State.seen xe s := by
  simp only [Extent.covers, List.all_cons, List.all_nil, Bool.and_true, Bool.true_and, Bool.and_eq_true] at xh
  refine ⟨_, rfl, ?_⟩
  simp [xh]

theorem execSkewMeasureComplete_seen (xe : Extent) (q : Fin 32) (s : State) (xh : xe.covers [.log, .lanes, .port] [F.DBG_FLTSTAT_CLASS, F.QY_LAUNCH_TARGET, F.QY_LNKSTAT_SAMPCLIP, F.QY_LNKSTAT_SKEWFAIL, F.QY_LNKTIM_ULSLOT, F.QY_RTT_TIME] = true) :
    ∃ t, execSkewMeasureComplete q s = .next t ∧ State.seen xe t = State.seen xe s := by
  simp only [Extent.covers, List.all_cons, List.all_nil, Bool.and_true, Bool.true_and, Bool.and_eq_true] at xh
  refine ⟨_, rfl, ?_⟩
  simp [xh]

theorem execLaunchMoveDone_seen (xe : Extent) (q : Fin 32) (s : State) (xh : xe.covers [.seqs, .fab, .quays, .lanes] [F.ICU_LOSTCNT, F.ICU_OVRw_SRC, F.ICU_PENDw_SRC, F.QY_DRVSTAT_RAMP, F.QY_LNKSTAT_STATE] = true) :
    ∃ t, execLaunchMoveDone q s = .next t ∧ State.seen xe t = State.seen xe s := by
  simp only [Extent.covers, List.all_cons, List.all_nil, Bool.and_true, Bool.true_and, Bool.and_eq_true] at xh
  refine ⟨_, rfl, ?_⟩
  simp [xh]

theorem execLaneEnterRun_seen (xe : Extent) (q : Fin 32) (s : State) (xh : xe.covers [.seqs, .fab, .quays, .lanes] [F.ICU_LOSTCNT, F.ICU_OVRw_SRC, F.ICU_PENDw_SRC, F.QY_DRVSTAT_RAMP, F.QY_LNKSTAT_STATE] = true) :
    ∃ t, execLaneEnterRun q s = .next t ∧ State.seen xe t = State.seen xe s := by
  simp only [Extent.covers, List.all_cons, List.all_nil, Bool.and_true, Bool.true_and, Bool.and_eq_true] at xh
  refine ⟨_, rfl, ?_⟩
  simp [xh]

theorem execUpstreamLockLoss_seen (xe : Extent) (q : Fin 32) (s : State) (xh : xe.covers [.seqs, .log, .fab, .quays, .lanes, .port] [F.DBG_FLTSTAT_CLASS, F.ICU_LOSTCNT, F.ICU_OVRw_SRC, F.ICU_PENDw_SRC, F.MOR_PARKCNT, F.QY_DRVSTAT_AUTH, F.QY_LNKSTAT_LOSS, F.QY_LNKSTAT_STATE, F.QY_LNKSTAT_TGEN, F.QY_LNKSTAT_TLOCK, F.QY_LNKSTAT_ULOCK, F.QY_ULOSSCNT] = true) :
    ∃ t, execUpstreamLockLoss q s = .next t ∧ State.seen xe t = State.seen xe s := by
  simp only [Extent.covers, List.all_cons, List.all_nil, Bool.and_true, Bool.true_and, Bool.and_eq_true] at xh
  refine ⟨_, rfl, ?_⟩
  simp [xh]

theorem execUpstreamRelock_seen (xe : Extent) (q : Fin 32) (s : State) (xh : xe.covers [.fab, .lanes] [F.QY_LNKSTAT_ULOCK] = true) :
    ∃ t, execUpstreamRelock q s = .next t ∧ State.seen xe t = State.seen xe s := by
  simp only [Extent.covers, List.all_cons, List.all_nil, Bool.and_true, Bool.true_and, Bool.and_eq_true] at xh
  refine ⟨_, rfl, ?_⟩
  simp [xh]

theorem execRelockTimeout_seen (xe : Extent) (q : Fin 32) (s : State) (xh : xe.covers [.seqs, .log, .fab, .quays, .lanes, .port] [F.DBG_FLTSTAT_CLASS, F.ICU_LOSTCNT, F.ICU_OVRw_SRC, F.ICU_PENDw_SRC, F.MOR_PARKCNT, F.QY_DRVSTAT_AUTH, F.QY_LNKSTAT_STATE, F.QY_LNKSTAT_TGEN, F.QY_LNKSTAT_TLOCK, F.QY_LNKSTAT_ULOCK] = true) :
    ∃ t, execRelockTimeout q s = .next t ∧ State.seen xe t = State.seen xe s := by
  simp only [Extent.covers, List.all_cons, List.all_nil, Bool.and_true, Bool.true_and, Bool.and_eq_true] at xh
  refine ⟨_, rfl, ?_⟩
  simp [xh]

theorem execPreRunLockLoss_seen (xe : Extent) (q : Fin 32) (s : State) (xh : xe.covers [.seqs, .log, .fab, .quays, .lanes, .port] [F.DBG_FLTSTAT_CLASS, F.ICU_LOSTCNT, F.ICU_OVRw_SRC, F.ICU_PENDw_SRC, F.MOR_PARKCNT, F.QY_DRVSTAT_AUTH, F.QY_LNKSTAT_STATE, F.QY_LNKSTAT_TGEN, F.QY_LNKSTAT_TLOCK, F.QY_LNKSTAT_ULOCK] = true) :
    ∃ t, execPreRunLockLoss q s = .next t ∧ State.seen xe t = State.seen xe s := by
  simp only [Extent.covers, List.all_cons, List.all_nil, Bool.and_true, Bool.true_and, Bool.and_eq_true] at xh
  refine ⟨_, rfl, ?_⟩
  simp [xh]

theorem execLnkctrlRetrain_seen (xe : Extent) (q : Fin 32) (s : State) (xh : xe.covers [.lanes] [] = true) :
    ∃ t, execLnkctrlRetrain q s = .next t ∧ State.seen xe t = State.seen xe s := by
  simp only [Extent.covers, List.all_cons, List.all_nil, Bool.and_true, Bool.true_and, Bool.and_eq_true] at xh
  refine ⟨_, rfl, ?_⟩
  simp [xh]

theorem execLnkctrlReskew_seen (xe : Extent) (q : Fin 32) (s : State) (xh : xe.covers [.log, .port] [F.DBG_FLTSTAT_CLASS, F.QY_LAUNCH_TARGET, F.QY_LNKSTAT_SKEWFAIL, F.QY_RTT_TIME] = true) :
    ∃ t, execLnkctrlReskew q s = .next t ∧ State.seen xe t = State.seen xe s := by
  simp only [Extent.covers, List.all_cons, List.all_nil, Bool.and_true, Bool.true_and, Bool.and_eq_true] at xh
  refine ⟨_, rfl, ?_⟩
  simp [xh]

theorem execQyLnkStatclr_seen (xe : Extent) (q : Fin 32) (s : State) (xh : xe.covers [.port] [F.QY_ARRIVE_WORST, F.QY_DCRCCNT, F.QY_HOLDCNT, F.QY_SYNCERR, F.QY_TRAINCNT, F.QY_UCRCCNT, F.QY_UFNERR, F.QY_ULATE, F.QY_ULOSSCNT] = true) :
    ∃ t, execQyLnkStatclr q s = .next t ∧ State.seen xe t = State.seen xe s := by
  simp only [Extent.covers, List.all_cons, List.all_nil, Bool.and_true, Bool.true_and, Bool.and_eq_true] at xh
  refine ⟨_, rfl, ?_⟩
  simp [xh]

theorem execUpstreamFrame_seen (xe : Extent) (q : Fin 32) (f : UFrame) (a : UArrival) (s : State) (xh : xe.covers [.seqs, .log, .fab, .quays, .lanes, .port] [F.DBG_FLTSTAT_CLASS, F.ICU_LOSTCNT, F.ICU_OVRw_SRC, F.ICU_PENDw_SRC, F.QY_ARRIVE_LAST, F.QY_ARRIVE_WORST, F.QY_DCRCCNT, F.QY_DRVSTAT_RAMP, F.QY_EYE_DEYE, F.QY_EYE_TEYE, F.QY_HOLDCNT, F.QY_LNKSTAT_NEWTILE, F.QY_LNKSTAT_SKEWDRIFT, F.QY_LNKSTAT_TILESRC0, F.QY_LNKSTAT_TLOCK, F.QY_RTTAVG_TIME, F.QY_SYNCERR, F.QY_TCHSTAT_FRESH, F.QY_TCHSTAT_TRESET, F.QY_TMALF, F.QY_TTEMP_TPH, F.QY_TTEMP_TTL, F.QY_UCRCCNT, F.QY_UFNERR, F.QY_ULATE] = true) :
    ∃ t, execUpstreamFrame q f a s = .next t ∧ State.seen xe t = State.seen xe s := by
  simp only [Extent.covers, List.all_cons, List.all_nil, Bool.and_true, Bool.true_and, Bool.and_eq_true] at xh
  refine ⟨_, rfl, ?_⟩
  simp [xh]

theorem execDownstreamErrorBurst_seen (xe : Extent) (q : Fin 32) (s : State) (xh : xe.covers [.seqs, .log, .lanes, .port] [F.DBG_FLTSTAT_CLASS, F.ICU_LOSTCNT, F.ICU_OVRw_SRC, F.ICU_PENDw_SRC, F.QY_LNKSTAT_DERRBURST] = true) :
    ∃ t, execDownstreamErrorBurst q s = .next t ∧ State.seen xe t = State.seen xe s := by
  simp only [Extent.covers, List.all_cons, List.all_nil, Bool.and_true, Bool.true_and, Bool.and_eq_true] at xh
  refine ⟨_, rfl, ?_⟩
  simp [xh]

theorem execRngreqGo_seen (xe : Extent) (q : Fin 32) (s : State) (xh : xe.covers [.quays, .lanes] [F.QY_RNGSTAT_BADFRM, F.QY_RNGSTAT_NEXT, F.QY_RNGSTAT_PEND] = true) :
    ∃ t, execRngreqGo q s = .next t ∧ State.seen xe t = State.seen xe s := by
  simp only [Extent.covers, List.all_cons, List.all_nil, Bool.and_true, Bool.true_and, Bool.and_eq_true] at xh
  refine ⟨_, rfl, ?_⟩
  simp [xh]

theorem execRngreqCancel_seen (xe : Extent) (q : Fin 32) (s : State) (xh : xe.covers [.quays, .lanes] [F.QY_RNGSTAT_CANCELLED, F.QY_RNGSTAT_PEND] = true) :
    ∃ t, execRngreqCancel q s = .next t ∧ State.seen xe t = State.seen xe s := by
  simp only [Extent.covers, List.all_cons, List.all_nil, Bool.and_true, Bool.true_and, Bool.and_eq_true] at xh
  refine ⟨_, rfl, ?_⟩
  simp [xh]

theorem execRangeNoackCancel_seen (xe : Extent) (q : Fin 32) (s : State) (xh : xe.covers [.quays, .lanes] [F.QY_RNGSTAT_CANCELLED, F.QY_RNGSTAT_NOACK, F.QY_RNGSTAT_PEND] = true) :
    ∃ t, execRangeNoackCancel q s = .next t ∧ State.seen xe t = State.seen xe s := by
  simp only [Extent.covers, List.all_cons, List.all_nil, Bool.and_true, Bool.true_and, Bool.and_eq_true] at xh
  refine ⟨_, rfl, ?_⟩
  simp [xh]

theorem execRangeChangeApply_seen (xe : Extent) (q : Fin 32) (s : State) (xh : xe.covers [.quays] [F.QY_RNGSTAT_CUR, F.QY_RNGSTAT_DONE, F.QY_RNGSTAT_PEND] = true) :
    ∃ t, execRangeChangeApply q s = .next t ∧ State.seen xe t = State.seen xe s := by
  simp only [Extent.covers, List.all_cons, List.all_nil, Bool.and_true, Bool.true_and, Bool.and_eq_true] at xh
  refine ⟨_, rfl, ?_⟩
  simp [xh]

theorem execTsreqGo_seen (xe : Extent) (q : Fin 32) (s : State) (xh : xe.covers [.quays, .lanes] [F.QY_LNKSTAT_SAMPCLIP, F.QY_TSASGj_SET0, F.QY_TSASGj_SET1, F.QY_TSASGj_SET2, F.QY_TSASGj_SET3, F.QY_TSASGj_SET4, F.QY_TSASGj_SET5, F.QY_TSASGj_SET6, F.QY_TSASGj_SET7, F.QY_TSSTAT_BADFRM, F.QY_TSSTAT_PEND, F.QY_TSSTAT_PLAN] = true) :
    ∃ t, execTsreqGo q s = .next t ∧ State.seen xe t = State.seen xe s := by
  simp only [Extent.covers, List.all_cons, List.all_nil, Bool.and_true, Bool.true_and, Bool.and_eq_true] at xh
  refine ⟨_, rfl, ?_⟩
  simp [xh]

theorem execTsreqCancel_seen (xe : Extent) (q : Fin 32) (s : State) (xh : xe.covers [.quays, .lanes] [F.QY_TSSTAT_CANCELLED, F.QY_TSSTAT_PEND] = true) :
    ∃ t, execTsreqCancel q s = .next t ∧ State.seen xe t = State.seen xe s := by
  simp only [Extent.covers, List.all_cons, List.all_nil, Bool.and_true, Bool.true_and, Bool.and_eq_true] at xh
  refine ⟨_, rfl, ?_⟩
  simp [xh]

theorem execTsetNoackCancel_seen (xe : Extent) (q : Fin 32) (s : State) (xh : xe.covers [.quays, .lanes] [F.QY_TSSTAT_CANCELLED, F.QY_TSSTAT_NOACK, F.QY_TSSTAT_PEND] = true) :
    ∃ t, execTsetNoackCancel q s = .next t ∧ State.seen xe t = State.seen xe s := by
  simp only [Extent.covers, List.all_cons, List.all_nil, Bool.and_true, Bool.true_and, Bool.and_eq_true] at xh
  refine ⟨_, rfl, ?_⟩
  simp [xh]

theorem execTsetChangeApply_seen (xe : Extent) (q : Fin 32) (s : State) (xh : xe.covers [.quays, .lanes] [F.QY_TSASGj_SET0, F.QY_TSASGj_SET1, F.QY_TSASGj_SET2, F.QY_TSASGj_SET3, F.QY_TSASGj_SET4, F.QY_TSASGj_SET5, F.QY_TSASGj_SET6, F.QY_TSASGj_SET7, F.QY_TSSTAT_DONE, F.QY_TSSTAT_PEND] = true) :
    ∃ t, execTsetChangeApply q s = .next t ∧ State.seen xe t = State.seen xe s := by
  simp only [Extent.covers, List.all_cons, List.all_nil, Bool.and_true, Bool.true_and, Bool.and_eq_true] at xh
  refine ⟨_, rfl, ?_⟩
  simp [xh]

theorem execTreqGo_seen (xe : Extent) (q : Fin 32) (s : State) (xh : xe.covers [.lanes] [F.QY_TRSP_BUSY, F.QY_TRSP_DONE, F.QY_TRSP_STATUS] = true) :
    ∃ t, execTreqGo q s = .next t ∧ State.seen xe t = State.seen xe s := by
  simp only [Extent.covers, List.all_cons, List.all_nil, Bool.and_true, Bool.true_and, Bool.and_eq_true] at xh
  refine ⟨_, rfl, ?_⟩
  simp [xh]

theorem execTreqTimeout_seen (xe : Extent) (q : Fin 32) (s : State) (xh : xe.covers [.lanes] [F.QY_TRSP_BUSY, F.QY_TRSP_DONE, F.QY_TRSP_STATUS] = true) :
    ∃ t, execTreqTimeout q s = .next t ∧ State.seen xe t = State.seen xe s := by
  simp only [Extent.covers, List.all_cons, List.all_nil, Bool.and_true, Bool.true_and, Bool.and_eq_true] at xh
  refine ⟨_, rfl, ?_⟩
  simp [xh]

theorem execRdrsp_seen (xe : Extent) (q : Fin 32) (s : State) (xh : xe.covers [.seqs, .log, .fab, .quays, .lanes, .port] [F.DBG_FLTSTAT_CLASS, F.ICU_LOSTCNT, F.ICU_OVRw_SRC, F.ICU_PENDw_SRC, F.QY_LNKSTAT_NEWTILE, F.QY_LNKSTAT_SAMPCLIP, F.QY_LNKSTAT_TGEN, F.QY_LNKSTAT_THREE, F.QY_RNGSTAT_CANCELLED, F.QY_RNGSTAT_NOACK, F.QY_RNGSTAT_PEND, F.QY_TCHSTAT_COMPLYEV, F.QY_TCHSTAT_DUALAUTH, F.QY_TCHSTAT_EVLOST, F.QY_TCHSTAT_OPENEV, F.QY_TCHSTAT_OVERTEMP, F.QY_TDATA_DATA, F.QY_TEVCNT, F.QY_TEVLAST_CODE, F.QY_TEVLAST_FRAME, F.QY_TEVLAST_OUTPUT, F.QY_TILEID_SERIAL, F.QY_TLAT_TRXLAT, F.QY_TLAT_TTXLAT, F.QY_TMALF, F.QY_TRSP_BUSY, F.QY_TRSP_DONE, F.QY_TRSP_STATUS, F.QY_TSSTAT_CANCELLED, F.QY_TSSTAT_NOACK, F.QY_TSSTAT_PEND] = true) :
    ∃ t, execRdrsp q s = .next t ∧ State.seen xe t = State.seen xe s := by
  simp only [Extent.covers, List.all_cons, List.all_nil, Bool.and_true, Bool.true_and, Bool.and_eq_true] at xh
  refine ⟨_, rfl, ?_⟩
  simp [xh]

theorem execWrrsp_seen (xe : Extent) (q : Fin 32) (s : State) (xh : xe.covers [.seqs, .log, .fab, .quays, .lanes, .port] [F.DBG_FLTSTAT_CLASS, F.ICU_LOSTCNT, F.ICU_OVRw_SRC, F.ICU_PENDw_SRC, F.QY_LNKSTAT_NEWTILE, F.QY_LNKSTAT_SAMPCLIP, F.QY_LNKSTAT_TGEN, F.QY_LNKSTAT_THREE, F.QY_RNGSTAT_CANCELLED, F.QY_RNGSTAT_NOACK, F.QY_RNGSTAT_PEND, F.QY_TCHSTAT_COMPLYEV, F.QY_TCHSTAT_DUALAUTH, F.QY_TCHSTAT_EVLOST, F.QY_TCHSTAT_OPENEV, F.QY_TCHSTAT_OVERTEMP, F.QY_TDATA_DATA, F.QY_TEVCNT, F.QY_TEVLAST_CODE, F.QY_TEVLAST_FRAME, F.QY_TEVLAST_OUTPUT, F.QY_TILEID_SERIAL, F.QY_TLAT_TRXLAT, F.QY_TLAT_TTXLAT, F.QY_TMALF, F.QY_TRSP_BUSY, F.QY_TRSP_DONE, F.QY_TRSP_STATUS, F.QY_TSSTAT_CANCELLED, F.QY_TSSTAT_NOACK, F.QY_TSSTAT_PEND] = true) :
    ∃ t, execWrrsp q s = .next t ∧ State.seen xe t = State.seen xe s := by
  simp only [Extent.covers, List.all_cons, List.all_nil, Bool.and_true, Bool.true_and, Bool.and_eq_true] at xh
  refine ⟨_, rfl, ?_⟩
  simp [xh]

theorem execAnnack_seen (xe : Extent) (q : Fin 32) (s : State) (xh : xe.covers [.seqs, .log, .fab, .quays, .lanes, .port] [F.DBG_FLTSTAT_CLASS, F.ICU_LOSTCNT, F.ICU_OVRw_SRC, F.ICU_PENDw_SRC, F.QY_LNKSTAT_NEWTILE, F.QY_LNKSTAT_SAMPCLIP, F.QY_LNKSTAT_TGEN, F.QY_LNKSTAT_THREE, F.QY_RNGSTAT_CANCELLED, F.QY_RNGSTAT_NOACK, F.QY_RNGSTAT_PEND, F.QY_TCHSTAT_COMPLYEV, F.QY_TCHSTAT_DUALAUTH, F.QY_TCHSTAT_EVLOST, F.QY_TCHSTAT_OPENEV, F.QY_TCHSTAT_OVERTEMP, F.QY_TDATA_DATA, F.QY_TEVCNT, F.QY_TEVLAST_CODE, F.QY_TEVLAST_FRAME, F.QY_TEVLAST_OUTPUT, F.QY_TILEID_SERIAL, F.QY_TLAT_TRXLAT, F.QY_TLAT_TTXLAT, F.QY_TMALF, F.QY_TRSP_BUSY, F.QY_TRSP_DONE, F.QY_TRSP_STATUS, F.QY_TSSTAT_CANCELLED, F.QY_TSSTAT_NOACK, F.QY_TSSTAT_PEND] = true) :
    ∃ t, execAnnack q s = .next t ∧ State.seen xe t = State.seen xe s := by
  simp only [Extent.covers, List.all_cons, List.all_nil, Bool.and_true, Bool.true_and, Bool.and_eq_true] at xh
  refine ⟨_, rfl, ?_⟩
  simp [xh]

theorem execCanack_seen (xe : Extent) (q : Fin 32) (s : State) (xh : xe.covers [.seqs, .log, .fab, .quays, .lanes, .port] [F.DBG_FLTSTAT_CLASS, F.ICU_LOSTCNT, F.ICU_OVRw_SRC, F.ICU_PENDw_SRC, F.QY_LNKSTAT_NEWTILE, F.QY_LNKSTAT_SAMPCLIP, F.QY_LNKSTAT_TGEN, F.QY_LNKSTAT_THREE, F.QY_RNGSTAT_CANCELLED, F.QY_RNGSTAT_NOACK, F.QY_RNGSTAT_PEND, F.QY_TCHSTAT_COMPLYEV, F.QY_TCHSTAT_DUALAUTH, F.QY_TCHSTAT_EVLOST, F.QY_TCHSTAT_OPENEV, F.QY_TCHSTAT_OVERTEMP, F.QY_TDATA_DATA, F.QY_TEVCNT, F.QY_TEVLAST_CODE, F.QY_TEVLAST_FRAME, F.QY_TEVLAST_OUTPUT, F.QY_TILEID_SERIAL, F.QY_TLAT_TRXLAT, F.QY_TLAT_TTXLAT, F.QY_TMALF, F.QY_TRSP_BUSY, F.QY_TRSP_DONE, F.QY_TRSP_STATUS, F.QY_TSSTAT_CANCELLED, F.QY_TSSTAT_NOACK, F.QY_TSSTAT_PEND] = true) :
    ∃ t, execCanack q s = .next t ∧ State.seen xe t = State.seen xe s := by
  simp only [Extent.covers, List.all_cons, List.all_nil, Bool.and_true, Bool.true_and, Bool.and_eq_true] at xh
  refine ⟨_, rfl, ?_⟩
  simp [xh]

theorem execErrrsp_seen (xe : Extent) (q : Fin 32) (s : State) (xh : xe.covers [.seqs, .log, .fab, .quays, .lanes, .port] [F.DBG_FLTSTAT_CLASS, F.ICU_LOSTCNT, F.ICU_OVRw_SRC, F.ICU_PENDw_SRC, F.QY_LNKSTAT_NEWTILE, F.QY_LNKSTAT_SAMPCLIP, F.QY_LNKSTAT_TGEN, F.QY_LNKSTAT_THREE, F.QY_RNGSTAT_CANCELLED, F.QY_RNGSTAT_NOACK, F.QY_RNGSTAT_PEND, F.QY_TCHSTAT_COMPLYEV, F.QY_TCHSTAT_DUALAUTH, F.QY_TCHSTAT_EVLOST, F.QY_TCHSTAT_OPENEV, F.QY_TCHSTAT_OVERTEMP, F.QY_TDATA_DATA, F.QY_TEVCNT, F.QY_TEVLAST_CODE, F.QY_TEVLAST_FRAME, F.QY_TEVLAST_OUTPUT, F.QY_TILEID_SERIAL, F.QY_TLAT_TRXLAT, F.QY_TLAT_TTXLAT, F.QY_TMALF, F.QY_TRSP_BUSY, F.QY_TRSP_DONE, F.QY_TRSP_STATUS, F.QY_TSSTAT_CANCELLED, F.QY_TSSTAT_NOACK, F.QY_TSSTAT_PEND] = true) :
    ∃ t, execErrrsp q s = .next t ∧ State.seen xe t = State.seen xe s := by
  simp only [Extent.covers, List.all_cons, List.all_nil, Bool.and_true, Bool.true_and, Bool.and_eq_true] at xh
  refine ⟨_, rfl, ?_⟩
  simp [xh]

theorem execEvent_seen (xe : Extent) (q : Fin 32) (s : State) (xh : xe.covers [.seqs, .log, .fab, .quays, .lanes, .port] [F.DBG_FLTSTAT_CLASS, F.ICU_LOSTCNT, F.ICU_OVRw_SRC, F.ICU_PENDw_SRC, F.QY_LNKSTAT_NEWTILE, F.QY_LNKSTAT_SAMPCLIP, F.QY_LNKSTAT_TGEN, F.QY_LNKSTAT_THREE, F.QY_RNGSTAT_CANCELLED, F.QY_RNGSTAT_NOACK, F.QY_RNGSTAT_PEND, F.QY_TCHSTAT_COMPLYEV, F.QY_TCHSTAT_DUALAUTH, F.QY_TCHSTAT_EVLOST, F.QY_TCHSTAT_OPENEV, F.QY_TCHSTAT_OVERTEMP, F.QY_TDATA_DATA, F.QY_TEVCNT, F.QY_TEVLAST_CODE, F.QY_TEVLAST_FRAME, F.QY_TEVLAST_OUTPUT, F.QY_TILEID_SERIAL, F.QY_TLAT_TRXLAT, F.QY_TLAT_TTXLAT, F.QY_TMALF, F.QY_TRSP_BUSY, F.QY_TRSP_DONE, F.QY_TRSP_STATUS, F.QY_TSSTAT_CANCELLED, F.QY_TSSTAT_NOACK, F.QY_TSSTAT_PEND] = true) :
    ∃ t, execEvent q s = .next t ∧ State.seen xe t = State.seen xe s := by
  simp only [Extent.covers, List.all_cons, List.all_nil, Bool.and_true, Bool.true_and, Bool.and_eq_true] at xh
  refine ⟨_, rfl, ?_⟩
  simp [xh]

theorem execChannelRetransmitTimeout_seen (xe : Extent) (q : Fin 32) (s : State) (xh : xe.covers [.lanes] [] = true) :
    ∃ t, execChannelRetransmitTimeout q s = .next t ∧ State.seen xe t = State.seen xe s := by
  simp only [Extent.covers, List.all_cons, List.all_nil, Bool.and_true, Bool.true_and, Bool.and_eq_true] at xh
  refine ⟨_, rfl, ?_⟩
  simp [xh]

theorem execChannelRetryFail_seen (xe : Extent) (q : Fin 32) (s : State) (xh : xe.covers [.seqs, .log, .quays, .lanes, .port] [F.DBG_FLTSTAT_CLASS, F.ICU_LOSTCNT, F.ICU_OVRw_SRC, F.ICU_PENDw_SRC, F.QY_RNGSTAT_CANCELLED, F.QY_RNGSTAT_NOACK, F.QY_RNGSTAT_PEND, F.QY_TCHFAIL, F.QY_TCHSTAT_FAIL, F.QY_TRSP_BUSY, F.QY_TRSP_DONE, F.QY_TRSP_STATUS, F.QY_TSSTAT_CANCELLED, F.QY_TSSTAT_NOACK, F.QY_TSSTAT_PEND] = true) :
    ∃ t, execChannelRetryFail q s = .next t ∧ State.seen xe t = State.seen xe s := by
  simp only [Extent.covers, List.all_cons, List.all_nil, Bool.and_true, Bool.true_and, Bool.and_eq_true] at xh
  refine ⟨_, rfl, ?_⟩
  simp [xh]

theorem execTchctrlReset_seen (xe : Extent) (q : Fin 32) (s : State) (xh : xe.covers [.lanes] [] = true) :
    ∃ t, execTchctrlReset q s = .next t ∧ State.seen xe t = State.seen xe s := by
  simp only [Extent.covers, List.all_cons, List.all_nil, Bool.and_true, Bool.true_and, Bool.and_eq_true] at xh
  refine ⟨_, rfl, ?_⟩
  simp [xh]

theorem execChannelResetDone_seen (xe : Extent) (q : Fin 32) (s : State) (xh : xe.covers [.lanes] [] = true) :
    ∃ t, execChannelResetDone q s = .next t ∧ State.seen xe t = State.seen xe s := by
  simp only [Extent.covers, List.all_cons, List.all_nil, Bool.and_true, Bool.true_and, Bool.and_eq_true] at xh
  refine ⟨_, rfl, ?_⟩
  simp [xh]

theorem execQyTchStatclr_seen (xe : Extent) (q : Fin 32) (s : State) (xh : xe.covers [] [F.QY_TCHFAIL, F.QY_TEVCNT, F.QY_TMALF, F.QY_TRETX] = true) :
    ∃ t, execQyTchStatclr q s = .next t ∧ State.seen xe t = State.seen xe s := by
  simp only [Extent.covers, List.all_cons, List.all_nil, Bool.and_true, Bool.true_and, Bool.and_eq_true] at xh
  refine ⟨_, rfl, ?_⟩
  simp [xh]

theorem execTileControlReset_seen (xe : Extent) (q : Fin 32) (s : State) (xh : xe.covers [.tiles] [] = true) :
    ∃ t, execTileControlReset q s = .next t ∧ State.seen xe t = State.seen xe s := by
  simp only [Extent.covers, List.all_cons, List.all_nil, Bool.and_true, Bool.true_and, Bool.and_eq_true] at xh
  refine ⟨_, rfl, ?_⟩
  simp [xh]

theorem execTileLock_seen (xe : Extent) (q : Fin 32) (p : Fin 2) (locked : Bool) (who : Option TileId) (s : State) (xh : xe.covers [.fresh, .tiles] [] = true) :
    ∃ t, execTileLock q p locked who s = .next t ∧ State.seen xe t = State.seen xe s := by
  simp only [Extent.covers, List.all_cons, List.all_nil, Bool.and_true, Bool.true_and, Bool.and_eq_true] at xh
  refine ⟨_, rfl, ?_⟩
  simp [xh]

theorem execTilePark_seen (xe : Extent) (q : Fin 32) (s : State) (xh : xe.covers [.tiles] [] = true) :
    ∃ t, execTilePark q s = .next t ∧ State.seen xe t = State.seen xe s := by
  simp only [Extent.covers, List.all_cons, List.all_nil, Bool.and_true, Bool.true_and, Bool.and_eq_true] at xh
  refine ⟨_, rfl, ?_⟩
  simp [xh]

theorem execTileReferenceInstant_seen (xe : Extent) (q : Fin 32) (taken : List (Nat × Bool)) (s : State) (xh : xe.covers [.tiles] [] = true) :
    ∃ t, execTileReferenceInstant q taken s = .next t ∧ State.seen xe t = State.seen xe s := by
  simp only [Extent.covers, List.all_cons, List.all_nil, Bool.and_true, Bool.true_and, Bool.and_eq_true] at xh
  refine ⟨_, rfl, ?_⟩
  simp [xh]

theorem execTileDownstreamFrame_seen (xe : Extent) (q : Fin 32) (p : Fin 2) (f : DArrival) (s : State) (xh : xe.covers [.tiles] [] = true) :
    ∃ t, execTileDownstreamFrame q p f s = .next t ∧ State.seen xe t = State.seen xe s := by
  simp only [Extent.covers, List.all_cons, List.all_nil, Bool.and_true, Bool.true_and, Bool.and_eq_true] at xh
  refine ⟨_, rfl, ?_⟩
  simp [xh]

theorem execTileRd_seen (xe : Extent) (q : Fin 32) (p : Fin 2) (s : State) (xh : xe.covers [.tiles] [] = true) :
    ∃ t, execTileRd q p s = .next t ∧ State.seen xe t = State.seen xe s := by
  simp only [Extent.covers, List.all_cons, List.all_nil, Bool.and_true, Bool.true_and, Bool.and_eq_true] at xh
  refine ⟨_, rfl, ?_⟩
  simp [xh]

theorem execTileWr_seen (xe : Extent) (q : Fin 32) (p : Fin 2) (s : State) (xh : xe.covers [.tiles] [] = true) :
    ∃ t, execTileWr q p s = .next t ∧ State.seen xe t = State.seen xe s := by
  simp only [Extent.covers, List.all_cons, List.all_nil, Bool.and_true, Bool.true_and, Bool.and_eq_true] at xh
  refine ⟨_, rfl, ?_⟩
  simp [xh]

theorem execTileAnnounce_seen (xe : Extent) (q : Fin 32) (p : Fin 2) (s : State) (xh : xe.covers [.tiles] [] = true) :
    ∃ t, execTileAnnounce q p s = .next t ∧ State.seen xe t = State.seen xe s := by
  simp only [Extent.covers, List.all_cons, List.all_nil, Bool.and_true, Bool.true_and, Bool.and_eq_true] at xh
  refine ⟨_, rfl, ?_⟩
  simp [xh]

theorem execTileCancel_seen (xe : Extent) (q : Fin 32) (p : Fin 2) (s : State) (xh : xe.covers [.tiles] [] = true) :
    ∃ t, execTileCancel q p s = .next t ∧ State.seen xe t = State.seen xe s := by
  simp only [Extent.covers, List.all_cons, List.all_nil, Bool.and_true, Bool.true_and, Bool.and_eq_true] at xh
  refine ⟨_, rfl, ?_⟩
  simp [xh]

theorem execTileConditionDetect_seen (xe : Extent) (q : Fin 32) (output : Fin 768) (comply entered : Bool) (s : State) (xh : xe.covers [.tiles] [] = true) :
    ∃ t, execTileConditionDetect q output comply entered s = .next t ∧ State.seen xe t = State.seen xe s := by
  simp only [Extent.covers, List.all_cons, List.all_nil, Bool.and_true, Bool.true_and, Bool.and_eq_true] at xh
  refine ⟨_, rfl, ?_⟩
  simp [xh]

theorem execTileOvertemp_seen (xe : Extent) (q : Fin 32) (s : State) (xh : xe.covers [.tiles] [] = true) :
    ∃ t, execTileOvertemp q s = .next t ∧ State.seen xe t = State.seen xe s := by
  simp only [Extent.covers, List.all_cons, List.all_nil, Bool.and_true, Bool.true_and, Bool.and_eq_true] at xh
  refine ⟨_, rfl, ?_⟩
  simp [xh]

theorem execTileUpstreamLaunch_seen (xe : Extent) (q : Fin 32) (p : Fin 2) (eye : Fin 256) (tph ttl : BitVec 16) (s : State) (xh : xe.covers [.tiles] [] = true) :
    ∃ t, execTileUpstreamLaunch q p eye tph ttl s = .next t ∧ State.seen xe t = State.seen xe s := by
  simp only [Extent.covers, List.all_cons, List.all_nil, Bool.and_true, Bool.true_and, Bool.and_eq_true] at xh
  refine ⟨_, rfl, ?_⟩
  simp [xh]

theorem execScmdAccept_seen (xe : Extent) (s : State) (xh : xe.covers [.fresh, .pen] [F.NET_TXDROP, F.PVE_ACCCNT, F.PVE_STAT_CMDERR] = true) :
    ∃ t, execScmdAccept s = .next t ∧ State.seen xe t = State.seen xe s := by
  simp only [Extent.covers, List.all_cons, List.all_nil, Bool.and_true, Bool.true_and, Bool.and_eq_true] at xh
  refine ⟨_, rfl, ?_⟩
  simp [xh]

theorem execScmdRefuse_seen (xe : Extent) (refcode : Fin 2) (s : State) (xh : xe.covers [.pen] [F.NET_TXDROP, F.PVE_SCMD_REFCODE, F.PVE_STAT_CMDERR] = true) :
    ∃ t, execScmdRefuse refcode s = .next t ∧ State.seen xe t = State.seen xe s := by
  simp only [Extent.covers, List.all_cons, List.all_nil, Bool.and_true, Bool.true_and, Bool.and_eq_true] at xh
  refine ⟨_, rfl, ?_⟩
  simp [xh]

theorem execScmdClose_seen (xe : Extent) (s : State) (xh : xe.covers [.seqs, .pen] [F.ICU_LOSTCNT, F.ICU_OVRw_SRC, F.ICU_PENDw_SRC] = true) :
    ∃ t, execScmdClose s = .next t ∧ State.seen xe t = State.seen xe s := by
  simp only [Extent.covers, List.all_cons, List.all_nil, Bool.and_true, Bool.true_and, Bool.and_eq_true] at xh
  refine ⟨_, rfl, ?_⟩
  simp [xh]

theorem execRngHealthFail_seen (xe : Extent) (s : State) (xh : xe.covers [] [F.PVE_STAT_RNGFAIL] = true) :
    ∃ t, execRngHealthFail s = .next t ∧ State.seen xe t = State.seen xe s := by
  simp only [Extent.covers, List.all_cons, List.all_nil, Bool.and_true, Bool.true_and, Bool.and_eq_true] at xh
  refine ⟨_, rfl, ?_⟩
  simp [xh]

theorem execHalfTimeout_seen (xe : Extent) (i : Fin 256) (s : State) (xh : xe.covers [.seqs, .pen] [F.ICU_LOSTCNT, F.ICU_OVRw_SRC, F.ICU_PENDw_SRC] = true) :
    ∃ t, execHalfTimeout i s = .next t ∧ State.seen xe t = State.seen xe s := by
  simp only [Extent.covers, List.all_cons, List.all_nil, Bool.and_true, Bool.true_and, Bool.and_eq_true] at xh
  refine ⟨_, rfl, ?_⟩
  simp [xh]

theorem execIdleTimeout_seen (xe : Extent) (i : Fin 256) (s : State) (xh : xe.covers [.seqs, .pen] [F.ICU_LOSTCNT, F.ICU_OVRw_SRC, F.ICU_PENDw_SRC] = true) :
    ∃ t, execIdleTimeout i s = .next t ∧ State.seen xe t = State.seen xe s := by
  simp only [Extent.covers, List.all_cons, List.all_nil, Bool.and_true, Bool.true_and, Bool.and_eq_true] at xh
  refine ⟨_, rfl, ?_⟩
  simp [xh]

theorem execPveStatclr_seen (xe : Extent) (s : State) (xh : xe.covers [.port] [F.PVE_ACCCNT, F.PVE_AUTHCNT, F.PVE_CONFCNT, F.PVE_DUPCNT, F.PVE_IPDROP, F.PVE_MALFCNT, F.PVE_OPENDROP, F.PVE_OVLCNT, F.PVE_REPLAYCNT, F.PVE_RETRYHIT, F.PVE_RXCNT, F.PVE_SBYDROP, F.PVE_STALECNT, F.PVE_STALEDROP, F.PVE_ZLENCNT] = true) :
    ∃ t, execPveStatclr s = .next t ∧ State.seen xe t = State.seen xe s := by
  simp only [Extent.covers, List.all_cons, List.all_nil, Bool.and_true, Bool.true_and, Bool.and_eq_true] at xh
  refine ⟨_, rfl, ?_⟩
  simp [xh]

theorem execOpenMsg_seen (xe : Extent) (d : Dgram) (s : State) (xh : xe.covers [.fresh, .seqs, .rdata, .table, .fab, .exec, .sched, .tide, .pen, .mir] [] = true) (xha : xe.all = true) :
    ∃ t, execOpenMsg d s = .next t ∧ State.seen xe t = State.seen xe s := by
  simp only [Extent.covers, List.all_cons, List.all_nil, Bool.and_true, Bool.true_and, Bool.and_eq_true] at xh
  have xhr : ∀ f, xe.r f = true := fun f => xe.r_of_all f xha
  refine ⟨_, rfl, ?_⟩
  simp [xh, xha, xhr]

theorem execCloseMsg_seen (xe : Extent) (d : Dgram) (s : State) (xh : xe.covers [.fresh, .seqs, .rdata, .table, .fab, .exec, .sched, .tide, .pen, .mir] [] = true) (xha : xe.all = true) :
    ∃ t, execCloseMsg d s = .next t ∧ State.seen xe t = State.seen xe s := by
  simp only [Extent.covers, List.all_cons, List.all_nil, Bool.and_true, Bool.true_and, Bool.and_eq_true] at xh
  have xhr : ∀ f, xe.r f = true := fun f => xe.r_of_all f xha
  refine ⟨_, rfl, ?_⟩
  simp [xh, xha, xhr]

end Sys2Proof.Machine
end

