-- ==== Sys2Proof/Laws/SeenRows2.lean ====
section
/-! SUPPORT. For each command, part 3 of 6: it answers a next state, the same outside every extent that covers what the
command may change (Laws/Seen.lean). -/
namespace Sys2Proof.Machine
set_option linter.all false

theorem execPing_seen (xe : Extent) (d : Dgram) (s : State) (xh : xe.covers [.fresh, .seqs, .rdata, .table, .fab, .exec, .sched, .tide, .pen, .mir] [] = true) (xha : xe.all = true) :
    ∃ t, execPing d s = .next t ∧ State.seen xe t = State.seen xe s := by
  simp only [Extent.covers, List.all_cons, List.all_nil, Bool.and_true, Bool.true_and, Bool.and_eq_true] at xh
  have xhr : ∀ f, xe.r f = true := fun f => xe.r_of_all f xha
  refine ⟨_, rfl, ?_⟩
  simp [xh, xha, xhr]

theorem execLoad_seen (xe : Extent) (d : Dgram) (s : State) (xh : xe.covers [.fresh, .seqs, .rdata, .table, .fab, .exec, .sched, .tide, .pen, .mir] [] = true) (xha : xe.all = true) :
    ∃ t, execLoad d s = .next t ∧ State.seen xe t = State.seen xe s := by
  simp only [Extent.covers, List.all_cons, List.all_nil, Bool.and_true, Bool.true_and, Bool.and_eq_true] at xh
  have xhr : ∀ f, xe.r f = true := fun f => xe.r_of_all f xha
  refine ⟨_, rfl, ?_⟩
  simp [xh, xha, xhr]

theorem execCommit_seen (xe : Extent) (d : Dgram) (s : State) (xh : xe.covers [.fresh, .seqs, .rdata, .table, .fab, .exec, .sched, .tide, .pen, .mir] [] = true) (xha : xe.all = true) :
    ∃ t, execCommit d s = .next t ∧ State.seen xe t = State.seen xe s := by
  simp only [Extent.covers, List.all_cons, List.all_nil, Bool.and_true, Bool.true_and, Bool.and_eq_true] at xh
  have xhr : ∀ f, xe.r f = true := fun f => xe.r_of_all f xha
  refine ⟨_, rfl, ?_⟩
  simp [xh, xha, xhr]

theorem execDiscard_seen (xe : Extent) (d : Dgram) (s : State) (xh : xe.covers [.fresh, .seqs, .rdata, .table, .fab, .exec, .sched, .tide, .pen, .mir] [] = true) (xha : xe.all = true) :
    ∃ t, execDiscard d s = .next t ∧ State.seen xe t = State.seen xe s := by
  simp only [Extent.covers, List.all_cons, List.all_nil, Bool.and_true, Bool.true_and, Bool.and_eq_true] at xh
  have xhr : ∀ f, xe.r f = true := fun f => xe.r_of_all f xha
  refine ⟨_, rfl, ?_⟩
  simp [xh, xha, xhr]

theorem execApply_seen (xe : Extent) (d : Dgram) (s : State) (xh : xe.covers [.fresh, .seqs, .rdata, .table, .fab, .exec, .sched, .tide, .pen, .mir] [] = true) (xha : xe.all = true) :
    ∃ t, execApply d s = .next t ∧ State.seen xe t = State.seen xe s := by
  simp only [Extent.covers, List.all_cons, List.all_nil, Bool.and_true, Bool.true_and, Bool.and_eq_true] at xh
  have xhr : ∀ f, xe.r f = true := fun f => xe.r_of_all f xha
  refine ⟨_, rfl, ?_⟩
  simp [xh, xha, xhr]

theorem execWithdraw_seen (xe : Extent) (d : Dgram) (s : State) (xh : xe.covers [.fresh, .seqs, .rdata, .table, .fab, .exec, .sched, .tide, .pen, .mir] [] = true) (xha : xe.all = true) :
    ∃ t, execWithdraw d s = .next t ∧ State.seen xe t = State.seen xe s := by
  simp only [Extent.covers, List.all_cons, List.all_nil, Bool.and_true, Bool.true_and, Bool.and_eq_true] at xh
  have xhr : ∀ f, xe.r f = true := fun f => xe.r_of_all f xha
  refine ⟨_, rfl, ?_⟩
  simp [xh, xha, xhr]

theorem execTidectlArm_seen (xe : Extent) (d : Dgram) (s : State) (xh : xe.covers [.fresh, .seqs, .rdata, .table, .fab, .exec, .sched, .tide, .pen, .mir] [] = true) (xha : xe.all = true) :
    ∃ t, execTidectlArm d s = .next t ∧ State.seen xe t = State.seen xe s := by
  simp only [Extent.covers, List.all_cons, List.all_nil, Bool.and_true, Bool.true_and, Bool.and_eq_true] at xh
  have xhr : ∀ f, xe.r f = true := fun f => xe.r_of_all f xha
  refine ⟨_, rfl, ?_⟩
  simp [xh, xha, xhr]

theorem execTidectlCancel_seen (xe : Extent) (d : Dgram) (s : State) (xh : xe.covers [.fresh, .seqs, .rdata, .table, .fab, .exec, .sched, .tide, .pen, .mir] [] = true) (xha : xe.all = true) :
    ∃ t, execTidectlCancel d s = .next t ∧ State.seen xe t = State.seen xe s := by
  simp only [Extent.covers, List.all_cons, List.all_nil, Bool.and_true, Bool.true_and, Bool.and_eq_true] at xh
  have xhr : ∀ f, xe.r f = true := fun f => xe.r_of_all f xha
  refine ⟨_, rfl, ?_⟩
  simp [xh, xha, xhr]

theorem execTidectlStop_seen (xe : Extent) (d : Dgram) (s : State) (xh : xe.covers [.fresh, .seqs, .rdata, .table, .fab, .exec, .sched, .tide, .pen, .mir] [] = true) (xha : xe.all = true) :
    ∃ t, execTidectlStop d s = .next t ∧ State.seen xe t = State.seen xe s := by
  simp only [Extent.covers, List.all_cons, List.all_nil, Bool.and_true, Bool.true_and, Bool.and_eq_true] at xh
  have xhr : ∀ f, xe.r f = true := fun f => xe.r_of_all f xha
  refine ⟨_, rfl, ?_⟩
  simp [xh, xha, xhr]

theorem execQueryDevice_seen (xe : Extent) (d : Dgram) (s : State) (xh : xe.covers [.fresh, .seqs, .rdata, .table, .fab, .exec, .sched, .tide, .pen, .mir] [] = true) (xha : xe.all = true) :
    ∃ t, execQueryDevice d s = .next t ∧ State.seen xe t = State.seen xe s := by
  simp only [Extent.covers, List.all_cons, List.all_nil, Bool.and_true, Bool.true_and, Bool.and_eq_true] at xh
  have xhr : ∀ f, xe.r f = true := fun f => xe.r_of_all f xha
  refine ⟨_, rfl, ?_⟩
  simp [xh, xha, xhr]

theorem execQueryTime_seen (xe : Extent) (d : Dgram) (s : State) (xh : xe.covers [.fresh, .seqs, .rdata, .table, .fab, .exec, .sched, .tide, .pen, .mir] [] = true) (xha : xe.all = true) :
    ∃ t, execQueryTime d s = .next t ∧ State.seen xe t = State.seen xe s := by
  simp only [Extent.covers, List.all_cons, List.all_nil, Bool.and_true, Bool.true_and, Bool.and_eq_true] at xh
  have xhr : ∀ f, xe.r f = true := fun f => xe.r_of_all f xha
  refine ⟨_, rfl, ?_⟩
  simp [xh, xha, xhr]

theorem execQueryReg_seen (xe : Extent) (d : Dgram) (s : State) (xh : xe.covers [.fresh, .seqs, .rdata, .table, .fab, .exec, .sched, .tide, .pen, .mir] [] = true) (xha : xe.all = true) :
    ∃ t, execQueryReg d s = .next t ∧ State.seen xe t = State.seen xe s := by
  simp only [Extent.covers, List.all_cons, List.all_nil, Bool.and_true, Bool.true_and, Bool.and_eq_true] at xh
  have xhr : ∀ f, xe.r f = true := fun f => xe.r_of_all f xha
  refine ⟨_, rfl, ?_⟩
  simp [xh, xha, xhr]

theorem execQuerySlot_seen (xe : Extent) (d : Dgram) (s : State) (xh : xe.covers [.fresh, .seqs, .rdata, .table, .fab, .exec, .sched, .tide, .pen, .mir] [] = true) (xha : xe.all = true) :
    ∃ t, execQuerySlot d s = .next t ∧ State.seen xe t = State.seen xe s := by
  simp only [Extent.covers, List.all_cons, List.all_nil, Bool.and_true, Bool.true_and, Bool.and_eq_true] at xh
  have xhr : ∀ f, xe.r f = true := fun f => xe.r_of_all f xha
  refine ⟨_, rfl, ?_⟩
  simp [xh, xha, xhr]

theorem execQueryCircuit_seen (xe : Extent) (d : Dgram) (s : State) (xh : xe.covers [.fresh, .seqs, .rdata, .table, .fab, .exec, .sched, .tide, .pen, .mir] [] = true) (xha : xe.all = true) :
    ∃ t, execQueryCircuit d s = .next t ∧ State.seen xe t = State.seen xe s := by
  simp only [Extent.covers, List.all_cons, List.all_nil, Bool.and_true, Bool.true_and, Bool.and_eq_true] at xh
  have xhr : ∀ f, xe.r f = true := fun f => xe.r_of_all f xha
  refine ⟨_, rfl, ?_⟩
  simp [xh, xha, xhr]

theorem execQueryQueue_seen (xe : Extent) (d : Dgram) (s : State) (xh : xe.covers [.fresh, .seqs, .rdata, .table, .fab, .exec, .sched, .tide, .pen, .mir] [] = true) (xha : xe.all = true) :
    ∃ t, execQueryQueue d s = .next t ∧ State.seen xe t = State.seen xe s := by
  simp only [Extent.covers, List.all_cons, List.all_nil, Bool.and_true, Bool.true_and, Bool.and_eq_true] at xh
  have xhr : ∀ f, xe.r f = true := fun f => xe.r_of_all f xha
  refine ⟨_, rfl, ?_⟩
  simp [xh, xha, xhr]

theorem execQueryHealth_seen (xe : Extent) (d : Dgram) (s : State) (xh : xe.covers [.fresh, .seqs, .rdata, .table, .fab, .exec, .sched, .tide, .pen, .mir] [] = true) (xha : xe.all = true) :
    ∃ t, execQueryHealth d s = .next t ∧ State.seen xe t = State.seen xe s := by
  simp only [Extent.covers, List.all_cons, List.all_nil, Bool.and_true, Bool.true_and, Bool.and_eq_true] at xh
  have xhr : ∀ f, xe.r f = true := fun f => xe.r_of_all f xha
  refine ⟨_, rfl, ?_⟩
  simp [xh, xha, xhr]

theorem execManifestStatus_seen (xe : Extent) (d : Dgram) (s : State) (xh : xe.covers [.fresh, .seqs, .rdata, .table, .fab, .exec, .sched, .tide, .pen, .mir] [] = true) (xha : xe.all = true) :
    ∃ t, execManifestStatus d s = .next t ∧ State.seen xe t = State.seen xe s := by
  simp only [Extent.covers, List.all_cons, List.all_nil, Bool.and_true, Bool.true_and, Bool.and_eq_true] at xh
  have xhr : ∀ f, xe.r f = true := fun f => xe.r_of_all f xha
  refine ⟨_, rfl, ?_⟩
  simp [xh, xha, xhr]

theorem execSlotControlOwner_seen (xe : Extent) (d : Dgram) (s : State) (xh : xe.covers [.fresh, .seqs, .rdata, .table, .fab, .exec, .sched, .tide, .pen, .mir] [] = true) (xha : xe.all = true) :
    ∃ t, execSlotControlOwner d s = .next t ∧ State.seen xe t = State.seen xe s := by
  simp only [Extent.covers, List.all_cons, List.all_nil, Bool.and_true, Bool.true_and, Bool.and_eq_true] at xh
  have xhr : ∀ f, xe.r f = true := fun f => xe.r_of_all f xha
  refine ⟨_, rfl, ?_⟩
  simp [xh, xha, xhr]

theorem execSlotControlFailset_seen (xe : Extent) (d : Dgram) (s : State) (xh : xe.covers [.fresh, .seqs, .rdata, .table, .fab, .exec, .sched, .tide, .pen, .mir] [] = true) (xha : xe.all = true) :
    ∃ t, execSlotControlFailset d s = .next t ∧ State.seen xe t = State.seen xe s := by
  simp only [Extent.covers, List.all_cons, List.all_nil, Bool.and_true, Bool.true_and, Bool.and_eq_true] at xh
  have xhr : ∀ f, xe.r f = true := fun f => xe.r_of_all f xha
  refine ⟨_, rfl, ?_⟩
  simp [xh, xha, xhr]

theorem execSlotControlFailclr_seen (xe : Extent) (d : Dgram) (s : State) (xh : xe.covers [.fresh, .seqs, .rdata, .table, .fab, .exec, .sched, .tide, .pen, .mir] [] = true) (xha : xe.all = true) :
    ∃ t, execSlotControlFailclr d s = .next t ∧ State.seen xe t = State.seen xe s := by
  simp only [Extent.covers, List.all_cons, List.all_nil, Bool.and_true, Bool.true_and, Bool.and_eq_true] at xh
  have xhr : ∀ f, xe.r f = true := fun f => xe.r_of_all f xha
  refine ⟨_, rfl, ?_⟩
  simp [xh, xha, xhr]

theorem execSlotControlClrdown_seen (xe : Extent) (d : Dgram) (s : State) (xh : xe.covers [.fresh, .seqs, .rdata, .table, .fab, .exec, .sched, .tide, .pen, .mir] [] = true) (xha : xe.all = true) :
    ∃ t, execSlotControlClrdown d s = .next t ∧ State.seen xe t = State.seen xe s := by
  simp only [Extent.covers, List.all_cons, List.all_nil, Bool.and_true, Bool.true_and, Bool.and_eq_true] at xh
  have xhr : ∀ f, xe.r f = true := fun f => xe.r_of_all f xha
  refine ⟨_, rfl, ?_⟩
  simp [xh, xha, xhr]

theorem execSubscribe_seen (xe : Extent) (d : Dgram) (s : State) (xh : xe.covers [.fresh, .seqs, .rdata, .table, .fab, .exec, .sched, .tide, .pen, .mir] [] = true) (xha : xe.all = true) :
    ∃ t, execSubscribe d s = .next t ∧ State.seen xe t = State.seen xe s := by
  simp only [Extent.covers, List.all_cons, List.all_nil, Bool.and_true, Bool.true_and, Bool.and_eq_true] at xh
  have xhr : ∀ f, xe.r f = true := fun f => xe.r_of_all f xha
  refine ⟨_, rfl, ?_⟩
  simp [xh, xha, xhr]

theorem execPenvarUnknownType_seen (xe : Extent) (d : Dgram) (s : State) (xh : xe.covers [.fresh, .seqs, .rdata, .table, .fab, .exec, .sched, .tide, .pen, .mir] [] = true) (xha : xe.all = true) :
    ∃ t, execPenvarUnknownType d s = .next t ∧ State.seen xe t = State.seen xe s := by
  simp only [Extent.covers, List.all_cons, List.all_nil, Bool.and_true, Bool.true_and, Bool.and_eq_true] at xh
  have xhr : ∀ f, xe.r f = true := fun f => xe.r_of_all f xha
  refine ⟨_, rfl, ?_⟩
  simp [xh, xha, xhr]

theorem execTallyTimeout_seen (xe : Extent) (s : State) (xh : xe.covers [.seqs, .fab, .mir] [F.ICU_LOSTCNT, F.ICU_OVRw_SRC, F.ICU_PENDw_SRC, F.MIR_FLAGS_TALLYMIS, F.MIR_TALLYCNT, F.MIR_TALLYMIS] = true) :
    ∃ t, execTallyTimeout s = .next t ∧ State.seen xe t = State.seen xe s := by
  simp only [Extent.covers, List.all_cons, List.all_nil, Bool.and_true, Bool.true_and, Bool.and_eq_true] at xh
  refine ⟨_, rfl, ?_⟩
  simp [xh]

theorem execMirrorCellRetransmit_seen (xe : Extent) (s : State) (xh : xe.covers [.mir] [] = true) :
    ∃ t, execMirrorCellRetransmit s = .next t ∧ State.seen xe t = State.seen xe s := by
  simp only [Extent.covers, List.all_cons, List.all_nil, Bool.and_true, Bool.true_and, Bool.and_eq_true] at xh
  refine ⟨_, rfl, ?_⟩
  simp [xh]

theorem execMirrorFrame_seen (xe : Extent) (lane : Fin 2) (f : MArrival) (s : State) (xh : xe.covers [.mir] [F.MIR_CRC0, F.MIR_CRC1, F.ROL_STAT_SENERR] = true) :
    ∃ t, execMirrorFrame lane f s = .next t ∧ State.seen xe t = State.seen xe s := by
  simp only [Extent.covers, List.all_cons, List.all_nil, Bool.and_true, Bool.true_and, Bool.and_eq_true] at xh
  refine ⟨_, rfl, ?_⟩
  simp [xh]

theorem execMirrorLaneTrain_seen (xe : Extent) (lane : Fin 2) (up : Bool) (oneway : BitVec 16) (s : State) (xh : xe.covers [.seqs, .mir] [F.ICU_LOSTCNT, F.ICU_OVRw_SRC, F.ICU_PENDw_SRC, F.MIR_DELAY_ONEWAY, F.MIR_FLAGS_DELAYERR] = true) :
    ∃ t, execMirrorLaneTrain lane up oneway s = .next t ∧ State.seen xe t = State.seen xe s := by
  simp only [Extent.covers, List.all_cons, List.all_nil, Bool.and_true, Bool.true_and, Bool.and_eq_true] at xh
  refine ⟨_, rfl, ?_⟩
  simp [xh]

theorem execMirRetrain_seen (xe : Extent) (s : State) (xh : xe.covers [.mir, .cal] [F.CAL_STAT_DIRTY] = true) :
    ∃ t, execMirRetrain s = .next t ∧ State.seen xe t = State.seen xe s := by
  simp only [Extent.covers, List.all_cons, List.all_nil, Bool.and_true, Bool.true_and, Bool.and_eq_true] at xh
  refine ⟨_, rfl, ?_⟩
  simp [xh]

theorem execMirStatclr_seen (xe : Extent) (s : State) (xh : xe.covers [.port] [F.MIR_CRC0, F.MIR_CRC1, F.MIR_EPCOMMIT, F.MIR_EPDISCARD, F.MIR_RECLATE, F.MIR_RETX, F.MIR_TALLYCNT, F.MIR_TALLYMIS] = true) :
    ∃ t, execMirStatclr s = .next t ∧ State.seen xe t = State.seen xe s := by
  simp only [Extent.covers, List.all_cons, List.all_nil, Bool.and_true, Bool.true_and, Bool.and_eq_true] at xh
  refine ⟨_, rfl, ?_⟩
  simp [xh]

theorem execEpochCommit_seen (xe : Extent) (s : State) (xh : xe.covers [.fresh, .table, .fab, .quays, .exec, .sched, .tide, .pen, .mir, .cal] [] = true) (xha : xe.all = true) :
    ∃ t, execEpochCommit s = .next t ∧ State.seen xe t = State.seen xe s := by
  simp only [Extent.covers, List.all_cons, List.all_nil, Bool.and_true, Bool.true_and, Bool.and_eq_true] at xh
  have xhr : ∀ f, xe.r f = true := fun f => xe.r_of_all f xha
  refine ⟨_, rfl, ?_⟩
  simp [xh, xha, xhr]

theorem execEpochTimeout_seen (xe : Extent) (s : State) (xh : xe.covers [.seqs, .mir] [F.ICU_LOSTCNT, F.ICU_OVRw_SRC, F.ICU_PENDw_SRC, F.MIR_EPDISCARD, F.MIR_FLAGS_EPDISC] = true) :
    ∃ t, execEpochTimeout s = .next t ∧ State.seen xe t = State.seen xe s := by
  simp only [Extent.covers, List.all_cons, List.all_nil, Bool.and_true, Bool.true_and, Bool.and_eq_true] at xh
  refine ⟨_, rfl, ?_⟩
  simp [xh]

theorem execMirEpoch_seen (xe : Extent) (s : State) (xh : xe.covers [.mir] [] = true) :
    ∃ t, execMirEpoch s = .next t ∧ State.seen xe t = State.seen xe s := by
  simp only [Extent.covers, List.all_cons, List.all_nil, Bool.and_true, Bool.true_and, Bool.and_eq_true] at xh
  refine ⟨_, rfl, ?_⟩
  simp [xh]

theorem execMirResync_seen (xe : Extent) (s : State) (xh : xe.covers [.mir] [F.ROL_STAT_READY] = true) :
    ∃ t, execMirResync s = .next t ∧ State.seen xe t = State.seen xe s := by
  simp only [Extent.covers, List.all_cons, List.all_nil, Bool.and_true, Bool.true_and, Bool.and_eq_true] at xh
  refine ⟨_, rfl, ?_⟩
  simp [xh]

theorem execStreamLoss_seen (xe : Extent) (s : State) (xh : xe.covers [.seqs, .fab, .mir] [F.ICU_LOSTCNT, F.ICU_OVRw_SRC, F.ICU_PENDw_SRC, F.MIR_EPDISCARD, F.MIR_FLAGS_EPDISC, F.MIR_FLAGS_STREAMLOSS, F.MIR_STAT_SYNC, F.ROL_STAT_READY, F.ROL_STAT_SWREASON] = true) :
    ∃ t, execStreamLoss s = .next t ∧ State.seen xe t = State.seen xe s := by
  simp only [Extent.covers, List.all_cons, List.all_nil, Bool.and_true, Bool.true_and, Bool.and_eq_true] at xh
  refine ⟨_, rfl, ?_⟩
  simp [xh]

theorem execReq_seen (xe : Extent) (s : State) (xh : xe.covers [.fresh, .seqs, .log, .table, .fab, .quays, .exec, .sched, .tide, .pen, .mir, .cal, .port] [] = true) (xha : xe.all = true) :
    ∃ t, execReq s = .next t ∧ State.seen xe t = State.seen xe s := by
  simp only [Extent.covers, List.all_cons, List.all_nil, Bool.and_true, Bool.true_and, Bool.and_eq_true] at xh
  have xhr : ∀ f, xe.r f = true := fun f => xe.r_of_all f xha
  refine ⟨_, rfl, ?_⟩
  simp [xh, xha, xhr]

theorem execAdmitEv_seen (xe : Extent) (s : State) (xh : xe.covers [.fresh, .seqs, .log, .table, .fab, .quays, .exec, .sched, .tide, .pen, .mir, .cal, .port] [] = true) (xha : xe.all = true) :
    ∃ t, execAdmitEv s = .next t ∧ State.seen xe t = State.seen xe s := by
  simp only [Extent.covers, List.all_cons, List.all_nil, Bool.and_true, Bool.true_and, Bool.and_eq_true] at xh
  have xhr : ∀ f, xe.r f = true := fun f => xe.r_of_all f xha
  refine ⟨_, rfl, ?_⟩
  simp [xh, xha, xhr]

theorem execVoidev_seen (xe : Extent) (s : State) (xh : xe.covers [.fresh, .seqs, .log, .table, .fab, .quays, .exec, .sched, .tide, .pen, .mir, .cal, .port] [] = true) (xha : xe.all = true) :
    ∃ t, execVoidev s = .next t ∧ State.seen xe t = State.seen xe s := by
  simp only [Extent.covers, List.all_cons, List.all_nil, Bool.and_true, Bool.true_and, Bool.and_eq_true] at xh
  have xhr : ∀ f, xe.r f = true := fun f => xe.r_of_all f xha
  refine ⟨_, rfl, ?_⟩
  simp [xh, xha, xhr]

theorem execLate_seen (xe : Extent) (s : State) (xh : xe.covers [.fresh, .seqs, .log, .table, .fab, .quays, .exec, .sched, .tide, .pen, .mir, .cal, .port] [] = true) (xha : xe.all = true) :
    ∃ t, execLate s = .next t ∧ State.seen xe t = State.seen xe s := by
  simp only [Extent.covers, List.all_cons, List.all_nil, Bool.and_true, Bool.true_and, Bool.and_eq_true] at xh
  have xhr : ∀ f, xe.r f = true := fun f => xe.r_of_all f xha
  refine ⟨_, rfl, ?_⟩
  simp [xh, xha, xhr]

theorem execTally_seen (xe : Extent) (s : State) (xh : xe.covers [.fresh, .seqs, .log, .table, .fab, .quays, .exec, .sched, .tide, .pen, .mir, .cal, .port] [] = true) (xha : xe.all = true) :
    ∃ t, execTally s = .next t ∧ State.seen xe t = State.seen xe s := by
  simp only [Extent.covers, List.all_cons, List.all_nil, Bool.and_true, Bool.true_and, Bool.and_eq_true] at xh
  have xhr : ∀ f, xe.r f = true := fun f => xe.r_of_all f xha
  refine ⟨_, rfl, ?_⟩
  simp [xh, xha, xhr]

theorem execConfig_seen (xe : Extent) (s : State) (xh : xe.covers [.fresh, .seqs, .log, .table, .fab, .quays, .exec, .sched, .tide, .pen, .mir, .cal, .port] [] = true) (xha : xe.all = true) :
    ∃ t, execConfig s = .next t ∧ State.seen xe t = State.seen xe s := by
  simp only [Extent.covers, List.all_cons, List.all_nil, Bool.and_true, Bool.true_and, Bool.and_eq_true] at xh
  have xhr : ∀ f, xe.r f = true := fun f => xe.r_of_all f xha
  refine ⟨_, rfl, ?_⟩
  simp [xh, xha, xhr]

theorem execSwap_seen (xe : Extent) (s : State) (xh : xe.covers [.fresh, .seqs, .log, .table, .fab, .quays, .exec, .sched, .tide, .pen, .mir, .cal, .port] [] = true) (xha : xe.all = true) :
    ∃ t, execSwap s = .next t ∧ State.seen xe t = State.seen xe s := by
  simp only [Extent.covers, List.all_cons, List.all_nil, Bool.and_true, Bool.true_and, Bool.and_eq_true] at xh
  have xhr : ∀ f, xe.r f = true := fun f => xe.r_of_all f xha
  refine ⟨_, rfl, ?_⟩
  simp [xh, xha, xhr]

theorem execObject_seen (xe : Extent) (s : State) (xh : xe.covers [.fresh, .seqs, .log, .table, .fab, .quays, .exec, .sched, .tide, .pen, .mir, .cal, .port] [] = true) (xha : xe.all = true) :
    ∃ t, execObject s = .next t ∧ State.seen xe t = State.seen xe s := by
  simp only [Extent.covers, List.all_cons, List.all_nil, Bool.and_true, Bool.true_and, Bool.and_eq_true] at xh
  have xhr : ∀ f, xe.r f = true := fun f => xe.r_of_all f xha
  refine ⟨_, rfl, ?_⟩
  simp [xh, xha, xhr]

theorem execSession_seen (xe : Extent) (s : State) (xh : xe.covers [.fresh, .seqs, .log, .table, .fab, .quays, .exec, .sched, .tide, .pen, .mir, .cal, .port] [] = true) (xha : xe.all = true) :
    ∃ t, execSession s = .next t ∧ State.seen xe t = State.seen xe s := by
  simp only [Extent.covers, List.all_cons, List.all_nil, Bool.and_true, Bool.true_and, Bool.and_eq_true] at xh
  have xhr : ∀ f, xe.r f = true := fun f => xe.r_of_all f xha
  refine ⟨_, rfl, ?_⟩
  simp [xh, xha, xhr]

theorem execCache_seen (xe : Extent) (s : State) (xh : xe.covers [.fresh, .seqs, .log, .table, .fab, .quays, .exec, .sched, .tide, .pen, .mir, .cal, .port] [] = true) (xha : xe.all = true) :
    ∃ t, execCache s = .next t ∧ State.seen xe t = State.seen xe s := by
  simp only [Extent.covers, List.all_cons, List.all_nil, Bool.and_true, Bool.true_and, Bool.and_eq_true] at xh
  have xhr : ∀ f, xe.r f = true := fun f => xe.r_of_all f xha
  refine ⟨_, rfl, ?_⟩
  simp [xh, xha, xhr]

theorem execHoldcode_seen (xe : Extent) (s : State) (xh : xe.covers [.fresh, .seqs, .log, .table, .fab, .quays, .exec, .sched, .tide, .pen, .mir, .cal, .port] [] = true) (xha : xe.all = true) :
    ∃ t, execHoldcode s = .next t ∧ State.seen xe t = State.seen xe s := by
  simp only [Extent.covers, List.all_cons, List.all_nil, Bool.and_true, Bool.true_and, Bool.and_eq_true] at xh
  have xhr : ∀ f, xe.r f = true := fun f => xe.r_of_all f xha
  refine ⟨_, rfl, ?_⟩
  simp [xh, xha, xhr]

theorem execBrec_seen (xe : Extent) (s : State) (xh : xe.covers [.fresh, .seqs, .log, .table, .fab, .quays, .exec, .sched, .tide, .pen, .mir, .cal, .port] [] = true) (xha : xe.all = true) :
    ∃ t, execBrec s = .next t ∧ State.seen xe t = State.seen xe s := by
  simp only [Extent.covers, List.all_cons, List.all_nil, Bool.and_true, Bool.true_and, Bool.and_eq_true] at xh
  have xhr : ∀ f, xe.r f = true := fun f => xe.r_of_all f xha
  refine ⟨_, rfl, ?_⟩
  simp [xh, xha, xhr]

theorem execSblk_seen (xe : Extent) (s : State) (xh : xe.covers [.fresh, .seqs, .log, .table, .fab, .quays, .exec, .sched, .tide, .pen, .mir, .cal, .port] [] = true) (xha : xe.all = true) :
    ∃ t, execSblk s = .next t ∧ State.seen xe t = State.seen xe s := by
  simp only [Extent.covers, List.all_cons, List.all_nil, Bool.and_true, Bool.true_and, Bool.and_eq_true] at xh
  have xhr : ∀ f, xe.r f = true := fun f => xe.r_of_all f xha
  refine ⟨_, rfl, ?_⟩
  simp [xh, xha, xhr]

theorem execEpctl_seen (xe : Extent) (s : State) (xh : xe.covers [.fresh, .seqs, .log, .table, .fab, .quays, .exec, .sched, .tide, .pen, .mir, .cal, .port] [] = true) (xha : xe.all = true) :
    ∃ t, execEpctl s = .next t ∧ State.seen xe t = State.seen xe s := by
  simp only [Extent.covers, List.all_cons, List.all_nil, Bool.and_true, Bool.true_and, Bool.and_eq_true] at xh
  have xhr : ∀ f, xe.r f = true := fun f => xe.r_of_all f xha
  refine ⟨_, rfl, ?_⟩
  simp [xh, xha, xhr]

theorem execAck_seen (xe : Extent) (s : State) (xh : xe.covers [.fresh, .seqs, .log, .table, .fab, .quays, .exec, .sched, .tide, .pen, .mir, .cal, .port] [] = true) (xha : xe.all = true) :
    ∃ t, execAck s = .next t ∧ State.seen xe t = State.seen xe s := by
  simp only [Extent.covers, List.all_cons, List.all_nil, Bool.and_true, Bool.true_and, Bool.and_eq_true] at xh
  have xhr : ∀ f, xe.r f = true := fun f => xe.r_of_all f xha
  refine ⟨_, rfl, ?_⟩
  simp [xh, xha, xhr]

theorem execHello_seen (xe : Extent) (s : State) (xh : xe.covers [.fresh, .seqs, .log, .table, .fab, .quays, .exec, .sched, .tide, .pen, .mir, .cal, .port] [] = true) (xha : xe.all = true) :
    ∃ t, execHello s = .next t ∧ State.seen xe t = State.seen xe s := by
  simp only [Extent.covers, List.all_cons, List.all_nil, Bool.and_true, Bool.true_and, Bool.and_eq_true] at xh
  have xhr : ∀ f, xe.r f = true := fun f => xe.r_of_all f xha
  refine ⟨_, rfl, ?_⟩
  simp [xh, xha, xhr]

theorem execHbtInEdge_seen (xe : Extent) (s : State) (xh : xe.covers [.mir] [] = true) :
    ∃ t, execHbtInEdge s = .next t ∧ State.seen xe t = State.seen xe s := by
  simp only [Extent.covers, List.all_cons, List.all_nil, Bool.and_true, Bool.true_and, Bool.and_eq_true] at xh
  refine ⟨_, rfl, ?_⟩
  simp [xh]

theorem execActInEdge_seen (xe : Extent) (s : State) (xh : xe.covers [.mir] [] = true) :
    ∃ t, execActInEdge s = .next t ∧ State.seen xe t = State.seen xe s := by
  simp only [Extent.covers, List.all_cons, List.all_nil, Bool.and_true, Bool.true_and, Bool.and_eq_true] at xh
  refine ⟨_, rfl, ?_⟩
  simp [xh]

theorem execPartnerFailed_seen (xe : Extent) (s : State) (xh : xe.covers [.dev, .seqs, .log, .mir, .port] [F.DBG_FLTSTAT_CLASS, F.ICU_LOSTCNT, F.ICU_OVRw_SRC, F.ICU_PENDw_SRC, F.MIR_EPDISCARD, F.MIR_FLAGS_EPDISC, F.ROL_ALARM_HBTPATH, F.ROL_ALARM_MIRPATH, F.ROL_ALARM_PARTFAIL, F.ROL_HBTMISS, F.ROL_MIRMISS, F.ROL_STAT_HBTOK, F.ROL_STAT_MIROK, F.ROL_STAT_SWREASON] = true) :
    ∃ t, execPartnerFailed s = .next t ∧ State.seen xe t = State.seen xe s := by
  simp only [Extent.covers, List.all_cons, List.all_nil, Bool.and_true, Bool.true_and, Bool.and_eq_true] at xh
  refine ⟨_, rfl, ?_⟩
  simp [xh]

theorem execTakeover_seen (xe : Extent) (s : State) (xh : xe.covers [.dev, .auth, .seqs, .log, .fab, .quays, .lanes, .exec, .tide, .pen, .mir, .cal, .port] [F.DBG_FLTSTAT_CLASS, F.ICU_LOSTCNT, F.ICU_OVRw_SRC, F.ICU_PENDw_SRC, F.MIR_EPDISCARD, F.MIR_FLAGS_EPDISC, F.MOR_PARKCNT, F.NET_TXDROP, F.QY_DRVSTAT_RAMP, F.ROL_ALARM_ACTLIVE, F.ROL_ALARM_COLDTAKE, F.ROL_ALARM_TAKEOVER, F.ROL_FIREMISS, F.ROL_STAT_READY, F.ROL_TAKECNT, F.ROL_TKFRM_FRAME, F.TIM_BCNCFG_RELAY, F.TIM_BCNCFG_ROLE, F.TIM_T3CFG_PRI, F.TIM_T3CFG_SEC] = true) :
    ∃ t, execTakeover s = .next t ∧ State.seen xe t = State.seen xe s := by
  simp only [Extent.covers, List.all_cons, List.all_nil, Bool.and_true, Bool.true_and, Bool.and_eq_true] at xh
  refine ⟨_, rfl, ?_⟩
  simp [xh]

theorem execDualActiveYield_seen (xe : Extent) (s : State) (xh : xe.covers [.dev, .auth, .fab, .lanes, .mir, .port] [F.MIR_STAT_JOINED, F.MIR_STAT_SYNC, F.ROL_STAT_READY, F.TIM_BCNCFG_RELAY, F.TIM_BCNCFG_ROLE, F.TIM_T3CFG_PRI, F.TIM_T3CFG_SEC] = true) :
    ∃ t, execDualActiveYield s = .next t ∧ State.seen xe t = State.seen xe s := by
  simp only [Extent.covers, List.all_cons, List.all_nil, Bool.and_true, Bool.true_and, Bool.and_eq_true] at xh
  refine ⟨_, rfl, ?_⟩
  simp [xh]

theorem execRolSwap_seen (xe : Extent) (s : State) (xh : xe.covers [.mir] [F.ROL_STAT_SWREASON] = true) :
    ∃ t, execRolSwap s = .next t ∧ State.seen xe t = State.seen xe s := by
  simp only [Extent.covers, List.all_cons, List.all_nil, Bool.and_true, Bool.true_and, Bool.and_eq_true] at xh
  refine ⟨_, rfl, ?_⟩
  simp [xh]

theorem execRolSwcancel_seen (xe : Extent) (s : State) (xh : xe.covers [.mir] [F.ROL_STAT_SWREASON] = true) :
    ∃ t, execRolSwcancel s = .next t ∧ State.seen xe t = State.seen xe s := by
  simp only [Extent.covers, List.all_cons, List.all_nil, Bool.and_true, Bool.true_and, Bool.and_eq_true] at xh
  refine ⟨_, rfl, ?_⟩
  simp [xh]

theorem execSwapNoack_seen (xe : Extent) (s : State) (xh : xe.covers [.mir] [F.ROL_STAT_SWREASON] = true) :
    ∃ t, execSwapNoack s = .next t ∧ State.seen xe t = State.seen xe s := by
  simp only [Extent.covers, List.all_cons, List.all_nil, Bool.and_true, Bool.true_and, Bool.and_eq_true] at xh
  refine ⟨_, rfl, ?_⟩
  simp [xh]

theorem execSwapAtFrame_seen (xe : Extent) (s : State) (xh : xe.covers [.dev, .auth, .seqs, .log, .fab, .quays, .lanes, .exec, .tide, .pen, .mir, .cal, .port] [F.DBG_FLTSTAT_CLASS, F.ICU_LOSTCNT, F.ICU_OVRw_SRC, F.ICU_PENDw_SRC, F.MIR_EPDISCARD, F.MIR_FLAGS_EPDISC, F.MIR_STAT_JOINED, F.MIR_STAT_SYNC, F.MOR_PARKCNT, F.NET_TXDROP, F.QY_DRVSTAT_RAMP, F.ROL_ALARM_COLDTAKE, F.ROL_ALARM_TAKEOVER, F.ROL_FIREMISS, F.ROL_STAT_READY, F.ROL_SWAPCNT, F.ROL_TAKECNT, F.ROL_TKFRM_FRAME, F.TIM_BCNCFG_RELAY, F.TIM_BCNCFG_ROLE, F.TIM_T3CFG_PRI, F.TIM_T3CFG_SEC] = true) :
    ∃ t, execSwapAtFrame s = .next t ∧ State.seen xe t = State.seen xe s := by
  simp only [Extent.covers, List.all_cons, List.all_nil, Bool.and_true, Bool.true_and, Bool.and_eq_true] at xh
  refine ⟨_, rfl, ?_⟩
  simp [xh]

theorem execRolStatclr_seen (xe : Extent) (s : State) (xh : xe.covers [] [F.ROL_DUALCNT, F.ROL_FIREMISS, F.ROL_HBTMISS, F.ROL_MIRMISS, F.ROL_SWAPCNT, F.ROL_TAKECNT] = true) :
    ∃ t, execRolStatclr s = .next t ∧ State.seen xe t = State.seen xe s := by
  simp only [Extent.covers, List.all_cons, List.all_nil, Bool.and_true, Bool.true_and, Bool.and_eq_true] at xh
  refine ⟨_, rfl, ?_⟩
  simp [xh]

end Sys2Proof.Machine
end

