-- ==== Sys2Proof/Laws/SeenRows3.lean ====
section
/-! SUPPORT. For each command, part 4 of 6: it answers a next state, the same outside every extent that covers what the
command may change (Laws/Seen.lean). -/
namespace Sys2Proof.Machine
set_option linter.all false

theorem execJoinWaitExpiry_seen (xe : Extent) (s : State) (xh : xe.covers [.dev, .auth, .fab, .tide, .mir] [F.ROL_STAT_READY, F.TIM_BCNCFG_RELAY, F.TIM_BCNCFG_ROLE, F.TIM_T3CFG_PRI, F.TIM_T3CFG_SEC] = true) :
    ∃ t, execJoinWaitExpiry s = .next t ∧ State.seen xe t = State.seen xe s := by
  simp only [Extent.covers, List.all_cons, List.all_nil, Bool.and_true, Bool.true_and, Bool.and_eq_true] at xh
  refine ⟨_, rfl, ?_⟩
  simp [xh]

theorem execPowerSupplyChange_seen (xe : Extent) (supply : Fin 6) (good : Bool) (s : State) (xh : xe.covers [.dev, .auth, .frame, .fresh, .locked, .seqs, .log, .rdata, .time, .table, .fab, .quays, .lanes, .tiles, .exec, .sched, .tide, .pen, .mir, .boot, .cal, .port] [] = true) (xha : xe.all = true) :
    ∃ t, execPowerSupplyChange supply good s = .next t ∧ State.seen xe t = State.seen xe s := by
  simp only [Extent.covers, List.all_cons, List.all_nil, Bool.and_true, Bool.true_and, Bool.and_eq_true] at xh
  have xhr : ∀ f, xe.r f = true := fun f => xe.r_of_all f xha
  refine ⟨_, rfl, ?_⟩
  simp [xh, xha, xhr]

theorem execResetNAssert_seen (xe : Extent) (s : State) (xh : xe.covers [.dev, .auth, .frame, .fresh, .locked, .seqs, .log, .rdata, .time, .table, .fab, .quays, .lanes, .tiles, .exec, .sched, .tide, .pen, .mir, .boot, .cal, .port] [] = true) (xha : xe.all = true) :
    ∃ t, execResetNAssert s = .next t ∧ State.seen xe t = State.seen xe s := by
  simp only [Extent.covers, List.all_cons, List.all_nil, Bool.and_true, Bool.true_and, Bool.and_eq_true] at xh
  have xhr : ∀ f, xe.r f = true := fun f => xe.r_of_all f xha
  refine ⟨_, rfl, ?_⟩
  simp [xh, xha, xhr]

theorem execSysSwrst_seen (xe : Extent) (s : State) (xh : xe.covers [.dev, .auth, .frame, .fresh, .locked, .seqs, .log, .rdata, .time, .table, .fab, .quays, .lanes, .tiles, .exec, .sched, .tide, .pen, .mir, .boot, .cal, .port] [] = true) (xha : xe.all = true) :
    ∃ t, execSysSwrst s = .next t ∧ State.seen xe t = State.seen xe s := by
  simp only [Extent.covers, List.all_cons, List.all_nil, Bool.and_true, Bool.true_and, Bool.and_eq_true] at xh
  have xhr : ∀ f, xe.r f = true := fun f => xe.r_of_all f xha
  refine ⟨_, rfl, ?_⟩
  simp [xh, xha, xhr]

theorem execThermalTrip_seen (xe : Extent) (s : State) (xh : xe.covers [.dev, .auth, .frame, .seqs, .log, .time, .fab, .quays, .lanes, .pen, .mir, .boot, .cal, .port] [F.CAL_ABANDCNT, F.CAL_UCAP_ABANDON, F.CAL_USTAT_RESULT, F.CAL_USTAT_STATE, F.CKG_PLLSTAT_LOCK0, F.CKG_PLLSTAT_LOCK1, F.CKG_PLLSTAT_LOCK2, F.DBG_FLTSTAT_CLASS, F.DBG_LASTSAFEF_FRAME, F.DBG_LASTSAFE_CODE, F.ICU_LOSTCNT, F.ICU_OVRw_SRC, F.ICU_PENDw_SRC, F.NET_STAT_LINK, F.NET_STAT_LINKCHG, F.NET_TXDROP, F.QY_DRVSTAT_AUTH, F.QY_LNKSTAT_STATE, F.QY_LNKSTAT_TLOCK, F.QY_LNKSTAT_ULOCK, F.TMP_AONSTAT_TRIPPED] = true) :
    ∃ t, execThermalTrip s = .next t ∧ State.seen xe t = State.seen xe s := by
  simp only [Extent.covers, List.all_cons, List.all_nil, Bool.and_true, Bool.true_and, Bool.and_eq_true] at xh
  refine ⟨_, rfl, ?_⟩
  simp [xh]

theorem execSafeAutoRestart_seen (xe : Extent) (s : State) (xh : xe.covers [.dev, .auth, .frame, .fresh, .locked, .seqs, .log, .rdata, .time, .table, .fab, .quays, .lanes, .tiles, .exec, .sched, .tide, .pen, .mir, .boot, .cal, .port] [] = true) (xha : xe.all = true) :
    ∃ t, execSafeAutoRestart s = .next t ∧ State.seen xe t = State.seen xe s := by
  simp only [Extent.covers, List.all_cons, List.all_nil, Bool.and_true, Bool.true_and, Bool.and_eq_true] at xh
  have xhr : ∀ f, xe.r f = true := fun f => xe.r_of_all f xha
  refine ⟨_, rfl, ?_⟩
  simp [xh, xha, xhr]

theorem execRestartCountReset_seen (xe : Extent) (s : State) (xh : xe.covers [] [F.DBG_LASTSAFE_RESTARTS] = true) :
    ∃ t, execRestartCountReset s = .next t ∧ State.seen xe t = State.seen xe s := by
  simp only [Extent.covers, List.all_cons, List.all_nil, Bool.and_true, Bool.true_and, Bool.and_eq_true] at xh
  refine ⟨_, rfl, ?_⟩
  simp [xh]

theorem execDbgSafe_seen (xe : Extent) (s : State) (xh : xe.covers [.log, .port] [F.DBG_FLTSTAT_CLASS] = true) :
    ∃ t, execDbgSafe s = .next t ∧ State.seen xe t = State.seen xe s := by
  simp only [Extent.covers, List.all_cons, List.all_nil, Bool.and_true, Bool.true_and, Bool.and_eq_true] at xh
  refine ⟨_, rfl, ?_⟩
  simp [xh]

theorem execXspRead_seen (xe : Extent) (s : State) (xh : xe.covers [.seqs, .log, .boot, .port] [F.DBG_FLTSTAT_CLASS, F.ICU_LOSTCNT, F.ICU_OVRw_SRC, F.ICU_PENDw_SRC, F.TMP_STAT_WRHOLD, F.TMP_WRREF, F.XSP_ERRCNT, F.XSP_OPCMD_KIND, F.XSP_OPCNT, F.XSP_OPSTAT_DONE, F.XSP_OPSTAT_ERR, F.XSP_OPSTAT_ERRCODE, F.XSP_OPSTAT_FULL] = true) :
    ∃ t, execXspRead s = .next t ∧ State.seen xe t = State.seen xe s := by
  simp only [Extent.covers, List.all_cons, List.all_nil, Bool.and_true, Bool.true_and, Bool.and_eq_true] at xh
  refine ⟨_, rfl, ?_⟩
  simp [xh]

theorem execXspProgram_seen (xe : Extent) (s : State) (xh : xe.covers [.seqs, .log, .boot, .port] [F.DBG_FLTSTAT_CLASS, F.ICU_LOSTCNT, F.ICU_OVRw_SRC, F.ICU_PENDw_SRC, F.TMP_STAT_WRHOLD, F.TMP_WRREF, F.XSP_ERRCNT, F.XSP_OPCMD_KIND, F.XSP_OPCNT, F.XSP_OPSTAT_DONE, F.XSP_OPSTAT_ERR, F.XSP_OPSTAT_ERRCODE, F.XSP_OPSTAT_FULL] = true) :
    ∃ t, execXspProgram s = .next t ∧ State.seen xe t = State.seen xe s := by
  simp only [Extent.covers, List.all_cons, List.all_nil, Bool.and_true, Bool.true_and, Bool.and_eq_true] at xh
  refine ⟨_, rfl, ?_⟩
  simp [xh]

theorem execXspErase_seen (xe : Extent) (s : State) (xh : xe.covers [.seqs, .log, .boot, .port] [F.DBG_FLTSTAT_CLASS, F.ICU_LOSTCNT, F.ICU_OVRw_SRC, F.ICU_PENDw_SRC, F.TMP_STAT_WRHOLD, F.TMP_WRREF, F.XSP_ERRCNT, F.XSP_OPCMD_KIND, F.XSP_OPCNT, F.XSP_OPSTAT_DONE, F.XSP_OPSTAT_ERR, F.XSP_OPSTAT_ERRCODE, F.XSP_OPSTAT_FULL] = true) :
    ∃ t, execXspErase s = .next t ∧ State.seen xe t = State.seen xe s := by
  simp only [Extent.covers, List.all_cons, List.all_nil, Bool.and_true, Bool.true_and, Bool.and_eq_true] at xh
  refine ⟨_, rfl, ?_⟩
  simp [xh]

theorem execXspCancel_seen (xe : Extent) (s : State) (xh : xe.covers [.boot] [F.TMP_STAT_WRHOLD, F.XSP_OPSTAT_CANCELLED] = true) :
    ∃ t, execXspCancel s = .next t ∧ State.seen xe t = State.seen xe s := by
  simp only [Extent.covers, List.all_cons, List.all_nil, Bool.and_true, Bool.true_and, Bool.and_eq_true] at xh
  refine ⟨_, rfl, ?_⟩
  simp [xh]

theorem execXspStatclr_seen (xe : Extent) (s : State) (xh : xe.covers [] [F.XSP_ERRCNT, F.XSP_OPCNT] = true) :
    ∃ t, execXspStatclr s = .next t ∧ State.seen xe t = State.seen xe s := by
  simp only [Extent.covers, List.all_cons, List.all_nil, Bool.and_true, Bool.true_and, Bool.and_eq_true] at xh
  refine ⟨_, rfl, ?_⟩
  simp [xh]

theorem execOtpProg_seen (xe : Extent) (s : State) (xh : xe.covers [.seqs, .log, .boot, .port] [F.DBG_FLTSTAT_CLASS, F.ICU_LOSTCNT, F.ICU_OVRw_SRC, F.ICU_PENDw_SRC, F.OTP_STAT_PREF, F.OTP_STAT_REASON, F.TMP_STAT_WRHOLD, F.TMP_WRREF] = true) :
    ∃ t, execOtpProg s = .next t ∧ State.seen xe t = State.seen xe s := by
  simp only [Extent.covers, List.all_cons, List.all_nil, Bool.and_true, Bool.true_and, Bool.and_eq_true] at xh
  refine ⟨_, rfl, ?_⟩
  simp [xh]

theorem execOtpCancel_seen (xe : Extent) (s : State) (xh : xe.covers [.boot] [F.TMP_STAT_WRHOLD] = true) :
    ∃ t, execOtpCancel s = .next t ∧ State.seen xe t = State.seen xe s := by
  simp only [Extent.covers, List.all_cons, List.all_nil, Bool.and_true, Bool.true_and, Bool.and_eq_true] at xh
  refine ⟨_, rfl, ?_⟩
  simp [xh]

theorem execOtpProgComplete_seen (xe : Extent) (ok : Bool) (s : State) (xh : xe.covers [.fresh, .seqs, .boot, .otp] [F.ICU_LOSTCNT, F.ICU_OVRw_SRC, F.ICU_PENDw_SRC, F.OTP_STAT_PDONE, F.OTP_STAT_PERR] = true) :
    ∃ t, execOtpProgComplete ok s = .next t ∧ State.seen xe t = State.seen xe s := by
  simp only [Extent.covers, List.all_cons, List.all_nil, Bool.and_true, Bool.true_and, Bool.and_eq_true] at xh
  refine ⟨_, rfl, ?_⟩
  repeat' first
    | (extract_lets +onlyGivenNames x; refine have hx : State.seen xe x = State.seen xe s := ?_; ?_; (on_goal 1 => unfold x); (on_goal 2 => clear_value x))
    | (extract_lets +onlyGivenNames x; refine have hx : State.seen xe x.2 = State.seen xe s := ?_; ?_; (on_goal 1 => unfold x); (on_goal 2 => clear_value x))
    | (extract_lets +onlyGivenNames x; refine have hx : State.seen xe x.2.2 = State.seen xe s := ?_; ?_; (on_goal 1 => unfold x); (on_goal 2 => clear_value x))
    | (extract_lets +onlyGivenNames x; clear_value x)
    | (simp [*]; done)
    | (refine (foldl_seen xe _ _ _ ?_).trans ?_; (on_goal 1 => intro s a))
    | (refine (State.when_seen xe _ _ _ ?_).trans ?_; (on_goal 1 => intro s))
    | split
    | (simp_all; done)

theorem execWriteHoldRelease_seen (xe : Extent) (s : State) (xh : xe.covers [.seqs, .log, .boot, .port] [F.DBG_FLTSTAT_CLASS, F.ICU_LOSTCNT, F.ICU_OVRw_SRC, F.ICU_PENDw_SRC, F.TMP_STAT_WRHOLD, F.TMP_WRREF] = true) :
    ∃ t, execWriteHoldRelease s = .next t ∧ State.seen xe t = State.seen xe s := by
  simp only [Extent.covers, List.all_cons, List.all_nil, Bool.and_true, Bool.true_and, Bool.and_eq_true] at xh
  refine ⟨_, rfl, ?_⟩
  simp [xh]

theorem execSensorFail_seen (xe : Extent) (n : Fin 16) (s : State) (xh : xe.covers [.seqs, .log, .port] [F.DBG_FLTSTAT_CLASS, F.ICU_LOSTCNT, F.ICU_OVRw_SRC, F.ICU_PENDw_SRC, F.TMP_SENSn_FAILED, F.TMP_SFAIL_FAILED] = true) :
    ∃ t, execSensorFail n s = .next t ∧ State.seen xe t = State.seen xe s := by
  simp only [Extent.covers, List.all_cons, List.all_nil, Bool.and_true, Bool.true_and, Bool.and_eq_true] at xh
  refine ⟨_, rfl, ?_⟩
  simp [xh]

theorem execSensorSample_seen (xe : Extent) (results : List (Option Int)) (s : State) (xh : xe.covers [.seqs, .log, .boot, .cal, .port] [F.CAL_STAT_DIETRIG, F.DBG_FLTSTAT_CLASS, F.ICU_LOSTCNT, F.ICU_OVRw_SRC, F.ICU_PENDw_SRC, F.TMP_MAX_SENSOR, F.TMP_MAX_TEMP, F.TMP_SENSn_FAILED, F.TMP_SENSn_TEMP, F.TMP_SENSn_VALID, F.TMP_SFAIL_FAILED, F.TMP_STAT_FAST, F.TMP_STAT_WARN, F.TMP_STAT_WRHOLD, F.TMP_WARNCNT, F.TMP_WRREF] = true) :
    ∃ t, execSensorSample results s = .next t ∧ State.seen xe t = State.seen xe s := by
  simp only [Extent.covers, List.all_cons, List.all_nil, Bool.and_true, Bool.true_and, Bool.and_eq_true] at xh
  refine ⟨_, rfl, ?_⟩
  simp [xh]

theorem execThermalShutdown_seen (xe : Extent) (s : State) (xh : xe.covers [.dev, .auth, .frame, .fresh, .locked, .seqs, .log, .rdata, .time, .table, .fab, .quays, .lanes, .tiles, .exec, .sched, .tide, .pen, .mir, .boot, .cal, .port] [] = true) (xha : xe.all = true) :
    ∃ t, execThermalShutdown s = .next t ∧ State.seen xe t = State.seen xe s := by
  simp only [Extent.covers, List.all_cons, List.all_nil, Bool.and_true, Bool.true_and, Bool.and_eq_true] at xh
  have xhr : ∀ f, xe.r f = true := fun f => xe.r_of_all f xha
  refine ⟨_, rfl, ?_⟩
  simp [xh, xha, xhr]

theorem execShutdownRelease_seen (xe : Extent) (s : State) (xh : xe.covers [.cal] [] = true) :
    ∃ t, execShutdownRelease s = .next t ∧ State.seen xe t = State.seen xe s := by
  simp only [Extent.covers, List.all_cons, List.all_nil, Bool.and_true, Bool.true_and, Bool.and_eq_true] at xh
  refine ⟨_, rfl, ?_⟩
  simp [xh]

theorem execBandCompute_seen (xe : Extent) (s : State) (xh : xe.covers [.cal] [F.TMP_PHTEMP_NQ, F.TMP_PHTEMP_TP, F.TMP_STAT_PHSPREAD, F.TMP_STAT_PHSTALE] = true) :
    ∃ t, execBandCompute s = .next t ∧ State.seen xe t = State.seen xe s := by
  simp only [Extent.covers, List.all_cons, List.all_nil, Bool.and_true, Bool.true_and, Bool.and_eq_true] at xh
  refine ⟨_, rfl, ?_⟩
  simp [xh]

theorem execBandChange_seen (xe : Extent) (s : State) (xh : xe.covers [.seqs, .cal] [F.CAL_UCAP_BANDCHG, F.ICU_LOSTCNT, F.ICU_OVRw_SRC, F.ICU_PENDw_SRC, F.SEG_STAT_BAND, F.TMP_BANDCNT] = true) :
    ∃ t, execBandChange s = .next t ∧ State.seen xe t = State.seen xe s := by
  simp only [Extent.covers, List.all_cons, List.all_nil, Bool.and_true, Bool.true_and, Bool.and_eq_true] at xh
  refine ⟨_, rfl, ?_⟩
  simp [xh]

theorem execQtrigClear_seen (xe : Extent) (v : Word) (s : State) (xh : xe.covers [.cal] [F.CAL_QTRIG_QUAY] = true) :
    ∃ t, execQtrigClear v s = .next t ∧ State.seen xe t = State.seen xe s := by
  simp only [Extent.covers, List.all_cons, List.all_nil, Bool.and_true, Bool.true_and, Bool.and_eq_true] at xh
  refine ⟨_, rfl, ?_⟩
  simp [xh]

theorem execDietrigClear_seen (xe : Extent) (s : State) (xh : xe.covers [.cal] [F.CAL_STAT_DIETRIG] = true) :
    ∃ t, execDietrigClear s = .next t ∧ State.seen xe t = State.seen xe s := by
  simp only [Extent.covers, List.all_cons, List.all_nil, Bool.and_true, Bool.true_and, Bool.and_eq_true] at xh
  refine ⟨_, rfl, ?_⟩
  simp [xh]

theorem execTmpStatclr_seen (xe : Extent) (s : State) (xh : xe.covers [] [F.TMP_BANDCNT, F.TMP_WARNCNT, F.TMP_WRREF] = true) :
    ∃ t, execTmpStatclr s = .next t ∧ State.seen xe t = State.seen xe s := by
  simp only [Extent.covers, List.all_cons, List.all_nil, Bool.and_true, Bool.true_and, Bool.and_eq_true] at xh
  refine ⟨_, rfl, ?_⟩
  simp [xh]

theorem execCalTrimWrite_seen (xe : Extent) (v : Word) (s : State) (xh : xe.covers [.cal] [F.CAL_STAT_DIRTY, F.CAL_STAT_TRIMERR] = true) :
    ∃ t, execCalTrimWrite v s = .next t ∧ State.seen xe t = State.seen xe s := by
  simp only [Extent.covers, List.all_cons, List.all_nil, Bool.and_true, Bool.true_and, Bool.and_eq_true] at xh
  refine ⟨_, rfl, ?_⟩
  simp [xh]

theorem execCalGoElement_seen (xe : Extent) (s : State) (xh : xe.covers [.fab, .cal] [F.CAL_USTAT_REASON, F.CAL_USTAT_RESULT, F.CAL_USTAT_STATE] = true) :
    ∃ t, execCalGoElement s = .next t ∧ State.seen xe t = State.seen xe s := by
  simp only [Extent.covers, List.all_cons, List.all_nil, Bool.and_true, Bool.true_and, Bool.and_eq_true] at xh
  refine ⟨_, rfl, ?_⟩
  simp [xh]

theorem execCalGoScale_seen (xe : Extent) (s : State) (xh : xe.covers [.cal] [F.CAL_USTAT_REASON, F.CAL_USTAT_RESULT, F.CAL_USTAT_STATE] = true) :
    ∃ t, execCalGoScale s = .next t ∧ State.seen xe t = State.seen xe s := by
  simp only [Extent.covers, List.all_cons, List.all_nil, Bool.and_true, Bool.true_and, Bool.and_eq_true] at xh
  refine ⟨_, rfl, ?_⟩
  simp [xh]

theorem execCalCancel_seen (xe : Extent) (s : State) (xh : xe.covers [.cal] [F.CAL_ABANDCNT, F.CAL_UCAP_ABANDON, F.CAL_USTAT_RESULT, F.CAL_USTAT_STATE] = true) :
    ∃ t, execCalCancel s = .next t ∧ State.seen xe t = State.seen xe s := by
  simp only [Extent.covers, List.all_cons, List.all_nil, Bool.and_true, Bool.true_and, Bool.and_eq_true] at xh
  refine ⟨_, rfl, ?_⟩
  simp [xh]

theorem execSweepWindowFound_seen (xe : Extent) (u : Fin 4) (s : State) (xh : xe.covers [.quays, .lanes, .cal] [F.CAL_UCAP_ABANDON, F.CAL_UCAP_BANDCHG, F.CAL_UCAP_CAPID, F.CAL_UCAP_COUNT, F.CAL_UCAP_RNGCHG, F.CAL_UFRM_FRAME, F.CAL_USTAT_STATE, F.QY_DRVCFG_MODE, F.QY_DRVSTAT_MODEDEN, F.QY_RNGFRM_FRAME, F.QY_RNGREQ_RANGE, F.QY_RNGSTAT_BADFRM, F.QY_RNGSTAT_NEXT, F.QY_RNGSTAT_PEND] = true) :
    ∃ t, execSweepWindowFound u s = .next t ∧ State.seen xe t = State.seen xe s := by
  simp only [Extent.covers, List.all_cons, List.all_nil, Bool.and_true, Bool.true_and, Bool.and_eq_true] at xh
  refine ⟨_, rfl, ?_⟩
  simp [xh]

theorem execSweepWindowTimeout_seen (xe : Extent) (u : Fin 4) (s : State) (xh : xe.covers [.cal] [F.CAL_USTAT_RESULT, F.CAL_USTAT_STATE] = true) :
    ∃ t, execSweepWindowTimeout u s = .next t ∧ State.seen xe t = State.seen xe s := by
  simp only [Extent.covers, List.all_cons, List.all_nil, Bool.and_true, Bool.true_and, Bool.and_eq_true] at xh
  refine ⟨_, rfl, ?_⟩
  simp [xh]

theorem execSweepRun_seen (xe : Extent) (u : Fin 4) (s : State) (xh : xe.covers [] [F.CAL_UCAP_BAND, F.CAL_USTAT_STATE] = true) :
    ∃ t, execSweepRun u s = .next t ∧ State.seen xe t = State.seen xe s := by
  simp only [Extent.covers, List.all_cons, List.all_nil, Bool.and_true, Bool.true_and, Bool.and_eq_true] at xh
  refine ⟨_, rfl, ?_⟩
  simp [xh]

theorem execScaleChange_seen (xe : Extent) (u : Fin 4) (s : State) (xh : xe.covers [.quays] [F.QY_RNGSTAT_CUR, F.QY_RNGSTAT_DONE, F.QY_RNGSTAT_PEND] = true) :
    ∃ t, execScaleChange u s = .next t ∧ State.seen xe t = State.seen xe s := by
  simp only [Extent.covers, List.all_cons, List.all_nil, Bool.and_true, Bool.true_and, Bool.and_eq_true] at xh
  refine ⟨_, rfl, ?_⟩
  simp [xh]

theorem execSweepCaptureEnd_seen (xe : Extent) (u : Fin 4) (s : State) (xh : xe.covers [.table] [F.CAL_UCAP_COUNT, F.CAL_USTAT_RESULT, F.CAL_USTAT_STATE] = true) :
    ∃ t, execSweepCaptureEnd u s = .next t ∧ State.seen xe t = State.seen xe s := by
  simp only [Extent.covers, List.all_cons, List.all_nil, Bool.and_true, Bool.true_and, Bool.and_eq_true] at xh
  refine ⟨_, rfl, ?_⟩
  simp [xh]

theorem execCalibrationRelease_seen (xe : Extent) (u : Fin 4) (s : State) (xh : xe.covers [.seqs, .fab, .cal] [F.CAL_SWEEPCNT, F.CAL_USTAT_STATE, F.ICU_LOSTCNT, F.ICU_OVRw_SRC, F.ICU_PENDw_SRC] = true) :
    ∃ t, execCalibrationRelease u s = .next t ∧ State.seen xe t = State.seen xe s := by
  simp only [Extent.covers, List.all_cons, List.all_nil, Bool.and_true, Bool.true_and, Bool.and_eq_true] at xh
  refine ⟨_, rfl, ?_⟩
  simp [xh]

theorem execCalSubmit_seen (xe : Extent) (s : State) (xh : xe.covers [.fab, .quays, .pen, .mir, .cal] [F.CAL_ACCCNT, F.CAL_DISAGREE, F.CAL_REJCNT, F.CAL_STAT_DIRTY, F.CAL_SUBRES_DISAGREED, F.CAL_SUBRES_REASON, F.CAL_SUBRES_RESULT, F.QY_DRVSTAT_LVLERR, F.QY_HALFLVL_LEVEL, F.QY_RNGGAINr_GAIN] = true) :
    ∃ t, execCalSubmit s = .next t ∧ State.seen xe t = State.seen xe s := by
  simp only [Extent.covers, List.all_cons, List.all_nil, Bool.and_true, Bool.true_and, Bool.and_eq_true] at xh
  refine ⟨_, rfl, ?_⟩
  simp [xh]

theorem execDiscoverComplete_seen (xe : Extent) (q : Fin 32) (s : State) (xh : xe.covers [.seqs, .log, .fab, .quays, .lanes, .cal, .port] [F.CAL_QSTART_QUAY, F.CAL_REJCNT, F.DBG_FLTSTAT_CLASS, F.ICU_LOSTCNT, F.ICU_OVRw_SRC, F.ICU_PENDw_SRC, F.QY_DRVSTAT_LVLERR, F.QY_DRVSTAT_MODEDEN, F.QY_HALFLVL_LEVEL, F.QY_LNKSTAT_GENMIS, F.QY_LNKSTAT_STATE, F.QY_RNGGAINr_GAIN] = true) :
    ∃ t, execDiscoverComplete q s = .next t ∧ State.seen xe t = State.seen xe s := by
  simp only [Extent.covers, List.all_cons, List.all_nil, Bool.and_true, Bool.true_and, Bool.and_eq_true] at xh
  refine ⟨_, rfl, ?_⟩
  simp [xh]

theorem execCalStore_seen (xe : Extent) (s : State) (xh : xe.covers [.seqs, .log, .boot, .cal, .port] [F.CAL_STAT_STORING, F.CAL_STAT_STPEND, F.DBG_FLTSTAT_CLASS, F.ICU_LOSTCNT, F.ICU_OVRw_SRC, F.ICU_PENDw_SRC, F.TMP_STAT_WRHOLD, F.TMP_WRREF] = true) :
    ∃ t, execCalStore s = .next t ∧ State.seen xe t = State.seen xe s := by
  simp only [Extent.covers, List.all_cons, List.all_nil, Bool.and_true, Bool.true_and, Bool.and_eq_true] at xh
  refine ⟨_, rfl, ?_⟩
  simp [xh]

theorem execJournalStoreComplete_seen (xe : Extent) (verified : Bool) (s : State) (xh : xe.covers [.seqs, .log, .boot, .cal, .port] [F.CAL_JSEQ_SEQ, F.CAL_STAT_DIRTY, F.CAL_STAT_SRES, F.CAL_STAT_STORING, F.CAL_STAT_STPEND, F.CAL_STORECNT, F.CAL_STOREFAIL, F.DBG_FLTSTAT_CLASS, F.ICU_LOSTCNT, F.ICU_OVRw_SRC, F.ICU_PENDw_SRC, F.TMP_STAT_WRHOLD, F.TMP_WRREF] = true) :
    ∃ t, execJournalStoreComplete verified s = .next t ∧ State.seen xe t = State.seen xe s := by
  simp only [Extent.covers, List.all_cons, List.all_nil, Bool.and_true, Bool.true_and, Bool.and_eq_true] at xh
  refine ⟨_, rfl, ?_⟩
  simp [xh]

theorem execFlashOpTimeout_seen (xe : Extent) (s : State) (xh : xe.covers [.seqs, .log, .boot, .cal, .port] [F.CAL_JSEQ_SEQ, F.CAL_STAT_DIRTY, F.CAL_STAT_SRES, F.CAL_STAT_STORING, F.CAL_STAT_STPEND, F.CAL_STORECNT, F.CAL_STOREFAIL, F.DBG_FLTSTAT_CLASS, F.ICU_LOSTCNT, F.ICU_OVRw_SRC, F.ICU_PENDw_SRC, F.TMP_STAT_WRHOLD, F.TMP_WRREF, F.XSP_ERRCNT, F.XSP_OPSTAT_ERR, F.XSP_OPSTAT_ERRCODE] = true) :
    ∃ t, execFlashOpTimeout s = .next t ∧ State.seen xe t = State.seen xe s := by
  simp only [Extent.covers, List.all_cons, List.all_nil, Bool.and_true, Bool.true_and, Bool.and_eq_true] at xh
  refine ⟨_, rfl, ?_⟩
  simp [xh]

theorem execCalStatclr_seen (xe : Extent) (s : State) (xh : xe.covers [] [F.CAL_ABANDCNT, F.CAL_ACCCNT, F.CAL_DISAGREE, F.CAL_REJCNT, F.CAL_STORECNT, F.CAL_STOREFAIL, F.CAL_SWEEPCNT] = true) :
    ∃ t, execCalStatclr s = .next t ∧ State.seen xe t = State.seen xe s := by
  simp only [Extent.covers, List.all_cons, List.all_nil, Bool.and_true, Bool.true_and, Bool.and_eq_true] at xh
  refine ⟨_, rfl, ?_⟩
  simp [xh]

theorem execIcuSet_seen (xe : Extent) (w : Fin 8) (v : Word) (s : State) (xh : xe.covers [.seqs] [F.ICU_LOSTCNT, F.ICU_OVRw_SRC, F.ICU_PENDw_SRC] = true) :
    ∃ t, execIcuSet w v s = .next t ∧ State.seen xe t = State.seen xe s := by
  simp only [Extent.covers, List.all_cons, List.all_nil, Bool.and_true, Bool.true_and, Bool.and_eq_true] at xh
  refine ⟨_, rfl, ?_⟩
  simp [xh]

theorem execIcuPendClear_seen (xe : Extent) (w : Fin 8) (v : Word) (s : State) (xh : xe.covers [.seqs] [F.ICU_LOSTCNT, F.ICU_OVRw_SRC, F.ICU_PENDw_SRC] = true) :
    ∃ t, execIcuPendClear w v s = .next t ∧ State.seen xe t = State.seen xe s := by
  simp only [Extent.covers, List.all_cons, List.all_nil, Bool.and_true, Bool.true_and, Bool.and_eq_true] at xh
  refine ⟨_, rfl, ?_⟩
  simp [xh]

theorem execIcuOvrClear_seen (xe : Extent) (w : Fin 8) (v : Word) (s : State) (xh : xe.covers [] [F.ICU_OVRw_SRC] = true) :
    ∃ t, execIcuOvrClear w v s = .next t ∧ State.seen xe t = State.seen xe s := by
  simp only [Extent.covers, List.all_cons, List.all_nil, Bool.and_true, Bool.true_and, Bool.and_eq_true] at xh
  refine ⟨_, rfl, ?_⟩
  simp [xh]

theorem execIcuStatclr_seen (xe : Extent) (s : State) (xh : xe.covers [] [F.ICU_LOSTCNT, F.ICU_SPUR] = true) :
    ∃ t, execIcuStatclr s = .next t ∧ State.seen xe t = State.seen xe s := by
  simp only [Extent.covers, List.all_cons, List.all_nil, Bool.and_true, Bool.true_and, Bool.and_eq_true] at xh
  refine ⟨_, rfl, ?_⟩
  simp [xh]

theorem execTsqStart_seen (xe : Extent) (n : Fin 4) (s : State) (xh : xe.covers [.seqs, .port] [] = true) :
    ∃ t, execTsqStart n s = .next t ∧ State.seen xe t = State.seen xe s := by
  simp only [Extent.covers, List.all_cons, List.all_nil, Bool.and_true, Bool.true_and, Bool.and_eq_true] at xh
  refine ⟨_, rfl, ?_⟩
  simp [xh]

theorem execTsqHalt_seen (xe : Extent) (n : Fin 4) (s : State) (xh : xe.covers [.seqs] [] = true) :
    ∃ t, execTsqHalt n s = .next t ∧ State.seen xe t = State.seen xe s := by
  simp only [Extent.covers, List.all_cons, List.all_nil, Bool.and_true, Bool.true_and, Bool.and_eq_true] at xh
  refine ⟨_, rfl, ?_⟩
  simp [xh]

theorem execWdkick_seen (xe : Extent) (n : Fin 4) (s : State) (xh : xe.covers [.seqs] [] = true) :
    ∃ t, execWdkick n s = .next t ∧ State.seen xe t = State.seen xe s := by
  simp only [Extent.covers, List.all_cons, List.all_nil, Bool.and_true, Bool.true_and, Bool.and_eq_true] at xh
  refine ⟨_, rfl, ?_⟩
  simp [xh]

theorem execWatchdogExpiry_seen (xe : Extent) (n : Fin 4) (s : State) (xh : xe.covers [.seqs, .log, .port] [F.DBG_FLTSTAT_CLASS, F.ICU_LOSTCNT, F.ICU_OVRw_SRC, F.ICU_PENDw_SRC, F.TSQ_FSTATn_WDOG] = true) :
    ∃ t, execWatchdogExpiry n s = .next t ∧ State.seen xe t = State.seen xe s := by
  simp only [Extent.covers, List.all_cons, List.all_nil, Bool.and_true, Bool.true_and, Bool.and_eq_true] at xh
  refine ⟨_, rfl, ?_⟩
  simp [xh]

theorem execSemAcq_seen (xe : Extent) (k : Fin 16) (master : Fin 11) (s : State) (xh : xe.covers [] [F.TSQ_SEMk_OWNER] = true) :
    ∃ t, execSemAcq k master s = .next t ∧ State.seen xe t = State.seen xe s := by
  simp only [Extent.covers, List.all_cons, List.all_nil, Bool.and_true, Bool.true_and, Bool.and_eq_true] at xh
  refine ⟨_, rfl, ?_⟩
  simp [xh]

theorem execSemRel_seen (xe : Extent) (k : Fin 16) (master : Fin 11) (s : State) (xh : xe.covers [] [F.TSQ_SEMk_OWNER] = true) :
    ∃ t, execSemRel k master s = .next t ∧ State.seen xe t = State.seen xe s := by
  simp only [Extent.covers, List.all_cons, List.all_nil, Bool.and_true, Bool.true_and, Bool.and_eq_true] at xh
  refine ⟨_, rfl, ?_⟩
  simp [xh]

theorem execNetLinkChange_seen (xe : Extent) (p : Fin 2) (sync : Bool) (offer : AnOffer) (s : State) (xh : xe.covers [.seqs, .pen, .port] [F.ICU_LOSTCNT, F.ICU_OVRw_SRC, F.ICU_PENDw_SRC, F.NET_STAT_ANDONE, F.NET_STAT_LINK, F.NET_STAT_LINKCHG, F.NET_TXDROP] = true) :
    ∃ t, execNetLinkChange p sync offer s = .next t ∧ State.seen xe t = State.seen xe s := by
  simp only [Extent.covers, List.all_cons, List.all_nil, Bool.and_true, Bool.true_and, Bool.and_eq_true] at xh
  refine ⟨_, rfl, ?_⟩
  simp [xh]

theorem execNetAnrst_seen (xe : Extent) (p : Fin 2) (s : State) (xh : xe.covers [.seqs, .pen, .port] [F.ICU_LOSTCNT, F.ICU_OVRw_SRC, F.ICU_PENDw_SRC, F.NET_STAT_ANDONE, F.NET_STAT_LINK, F.NET_STAT_LINKCHG, F.NET_TXDROP] = true) :
    ∃ t, execNetAnrst p s = .next t ∧ State.seen xe t = State.seen xe s := by
  simp only [Extent.covers, List.all_cons, List.all_nil, Bool.and_true, Bool.true_and, Bool.and_eq_true] at xh
  refine ⟨_, rfl, ?_⟩
  simp [xh]

theorem execNetAnnounce_seen (xe : Extent) (p : Fin 2) (s : State) (xh : xe.covers [.pen, .port] [F.NET_TXDROP] = true) :
    ∃ t, execNetAnnounce p s = .next t ∧ State.seen xe t = State.seen xe s := by
  simp only [Extent.covers, List.all_cons, List.all_nil, Bool.and_true, Bool.true_and, Bool.and_eq_true] at xh
  refine ⟨_, rfl, ?_⟩
  simp [xh]

theorem execAddressAnnounceRepeat_seen (xe : Extent) (p : Fin 2) (s : State) (xh : xe.covers [.pen, .port] [F.NET_TXDROP] = true) :
    ∃ t, execAddressAnnounceRepeat p s = .next t ∧ State.seen xe t = State.seen xe s := by
  simp only [Extent.covers, List.all_cons, List.all_nil, Bool.and_true, Bool.true_and, Bool.and_eq_true] at xh
  refine ⟨_, rfl, ?_⟩
  simp [xh]

theorem execNetStatclr_seen (xe : Extent) (p : Fin 2) (s : State) (xh : xe.covers [] [F.NET_ADDRDROP, F.NET_CSUMERR, F.NET_FCSERR, F.NET_LENERR, F.NET_OTHDROP, F.NET_PRXDROP, F.NET_RXFRM, F.NET_TXDROP, F.NET_TXFRM, F.NET_VLANDROP] = true) :
    ∃ t, execNetStatclr p s = .next t ∧ State.seen xe t = State.seen xe s := by
  simp only [Extent.covers, List.all_cons, List.all_nil, Bool.and_true, Bool.true_and, Bool.and_eq_true] at xh
  refine ⟨_, rfl, ?_⟩
  simp [xh]

theorem execPrxPop_seen (xe : Extent) (p : Fin 2) (s : State) (xh : xe.covers [.port] [] = true) :
    ∃ t, execPrxPop p s = .next t ∧ State.seen xe t = State.seen xe s := by
  simp only [Extent.covers, List.all_cons, List.all_nil, Bool.and_true, Bool.true_and, Bool.and_eq_true] at xh
  refine ⟨_, rfl, ?_⟩
  simp [xh]

theorem execPtxcmdGo_seen (xe : Extent) (p : Fin 2) (s : State) (xh : xe.covers [.pen, .port] [F.NET_PTXSTAT_ERR, F.NET_TXDROP] = true) :
    ∃ t, execPtxcmdGo p s = .next t ∧ State.seen xe t = State.seen xe s := by
  simp only [Extent.covers, List.all_cons, List.all_nil, Bool.and_true, Bool.true_and, Bool.and_eq_true] at xh
  refine ⟨_, rfl, ?_⟩
  simp [xh]

theorem execPtpTransmitDone_seen (xe : Extent) (p : Fin 2) (cycle : Fin 251) (frac : Fin 0x400000000) (s : State) (xh : xe.covers [.pen, .port] [F.NET_PTXSTAT_TSBUF, F.NET_PTXSTAT_TSVALID, F.NET_TXFRM] = true) :
    ∃ t, execPtpTransmitDone p cycle frac s = .next t ∧ State.seen xe t = State.seen xe s := by
  simp only [Extent.covers, List.all_cons, List.all_nil, Bool.and_true, Bool.true_and, Bool.and_eq_true] at xh
  refine ⟨_, rfl, ?_⟩
  simp [xh]

end Sys2Proof.Machine
end

