-- ==== Sys2Proof/Laws/SeenRows4.lean ====
section
/-! SUPPORT. For each command, part 5 of 6: it answers a next state, the same outside every extent that covers what the
command may change (Laws/Seen.lean). -/
namespace Sys2Proof.Machine
set_option linter.all false

theorem execNetFrameSent_seen (xe : Extent) (p : Fin 2) (s : State) (xh : xe.covers [.pen, .port] [F.NET_TXFRM] = true) :
    ∃ t, execNetFrameSent p s = .next t ∧ State.seen xe t = State.seen xe s := by
  simp only [Extent.covers, List.all_cons, List.all_nil, Bool.and_true, Bool.true_and, Bool.and_eq_true] at xh
  refine ⟨_, rfl, ?_⟩
  simp [xh]

theorem execTxtsReadLatch_seen (xe : Extent) (p : Fin 2) (s : State) (xh : xe.covers [.rdata] [F.NET_TXTSF_VALUE] = true) :
    ∃ t, execTxtsReadLatch p s = .next t ∧ State.seen xe t = State.seen xe s := by
  simp only [Extent.covers, List.all_cons, List.all_nil, Bool.and_true, Bool.true_and, Bool.and_eq_true] at xh
  refine ⟨_, rfl, ?_⟩
  simp [xh]

theorem execNetFrameReceive_seen (xe : Extent) (p : Fin 2) (x : EthFrame) (s : State) (xh : xe.covers [.fresh, .seqs, .rdata, .table, .fab, .exec, .sched, .tide, .pen, .mir, .port] [] = true) (xha : xe.all = true) :
    ∃ t, execNetFrameReceive p x s = .next t ∧ State.seen xe t = State.seen xe s := by
  simp only [Extent.covers, List.all_cons, List.all_nil, Bool.and_true, Bool.true_and, Bool.and_eq_true] at xh
  have xhr : ∀ f, xe.r f = true := fun f => xe.r_of_all f xha
  refine ⟨_, rfl, ?_⟩
  simp [xh, xha, xhr]

theorem execSetaddr_seen (xe : Extent) (bytes : List Byte) (c : SmbCall) (s : State) (xh : xe.covers [.port] [F.SBI_ACCERR, F.SBI_PECERR, F.SBI_STAT_LAST] = true) :
    ∃ t, execSetaddr bytes c s = .next t ∧ State.seen xe t = State.seen xe s := by
  simp only [Extent.covers, List.all_cons, List.all_nil, Bool.and_true, Bool.true_and, Bool.and_eq_true] at xh
  refine ⟨_, rfl, ?_⟩
  simp [xh]

theorem execStatus_seen (xe : Extent) (s : State) (xh : xe.covers [.port] [] = true) :
    ∃ t, execStatus s = .next t ∧ State.seen xe t = State.seen xe s := by
  simp only [Extent.covers, List.all_cons, List.all_nil, Bool.and_true, Bool.true_and, Bool.and_eq_true] at xh
  refine ⟨_, rfl, ?_⟩
  simp [xh]

theorem execState_seen (xe : Extent) (s : State) (xh : xe.covers [.port] [F.SBI_ACCERR, F.SBI_PECERR, F.SBI_STAT_LAST] = true) :
    ∃ t, execState s = .next t ∧ State.seen xe t = State.seen xe s := by
  simp only [Extent.covers, List.all_cons, List.all_nil, Bool.and_true, Bool.true_and, Bool.and_eq_true] at xh
  refine ⟨_, rfl, ?_⟩
  simp [xh]

theorem execMbwrite_seen (xe : Extent) (bytes : List Byte) (c : SmbCall) (s : State) (xh : xe.covers [.seqs] [F.ICU_LOSTCNT, F.ICU_OVRw_SRC, F.ICU_PENDw_SRC, F.SBI_ACCERR, F.SBI_MBLEN_LEN, F.SBI_MBREQw_BYTES, F.SBI_PECERR, F.SBI_STAT_LAST, F.SBI_STAT_MBFULL] = true) :
    ∃ t, execMbwrite bytes c s = .next t ∧ State.seen xe t = State.seen xe s := by
  simp only [Extent.covers, List.all_cons, List.all_nil, Bool.and_true, Bool.true_and, Bool.and_eq_true] at xh
  refine ⟨_, rfl, ?_⟩
  simp [xh]

theorem execMbread_seen (xe : Extent) (s : State) (xh : xe.covers [.port] [F.SBI_ACCERR, F.SBI_PECERR, F.SBI_STAT_LAST, F.SBI_STAT_MBPOST] = true) :
    ∃ t, execMbread s = .next t ∧ State.seen xe t = State.seen xe s := by
  simp only [Extent.covers, List.all_cons, List.all_nil, Bool.and_true, Bool.true_and, Bool.and_eq_true] at xh
  refine ⟨_, rfl, ?_⟩
  simp [xh]

theorem execSmbusReadTimeout_seen (xe : Extent) (s : State) (xh : xe.covers [.port] [F.SBI_ACCERR, F.SBI_PECERR, F.SBI_STAT_LAST] = true) :
    ∃ t, execSmbusReadTimeout s = .next t ∧ State.seen xe t = State.seen xe s := by
  simp only [Extent.covers, List.all_cons, List.all_nil, Bool.and_true, Bool.true_and, Bool.and_eq_true] at xh
  refine ⟨_, rfl, ?_⟩
  simp [xh]

theorem execSclLowTimeout_seen (xe : Extent) (s : State) (xh : xe.covers [.port] [] = true) :
    ∃ t, execSclLowTimeout s = .next t ∧ State.seen xe t = State.seen xe s := by
  simp only [Extent.covers, List.all_cons, List.all_nil, Bool.and_true, Bool.true_and, Bool.and_eq_true] at xh
  refine ⟨_, rfl, ?_⟩
  simp [xh]

theorem execMbctrlAck_seen (xe : Extent) (s : State) (xh : xe.covers [] [F.SBI_STAT_MBFULL] = true) :
    ∃ t, execMbctrlAck s = .next t ∧ State.seen xe t = State.seen xe s := by
  simp only [Extent.covers, List.all_cons, List.all_nil, Bool.and_true, Bool.true_and, Bool.and_eq_true] at xh
  refine ⟨_, rfl, ?_⟩
  simp [xh]

theorem execMbctrlPost_seen (xe : Extent) (s : State) (xh : xe.covers [] [F.SBI_STAT_MBPOST] = true) :
    ∃ t, execMbctrlPost s = .next t ∧ State.seen xe t = State.seen xe s := by
  simp only [Extent.covers, List.all_cons, List.all_nil, Bool.and_true, Bool.true_and, Bool.and_eq_true] at xh
  refine ⟨_, rfl, ?_⟩
  simp [xh]

theorem execSbiStatclr_seen (xe : Extent) (s : State) (xh : xe.covers [] [F.SBI_ACCERR, F.SBI_PECERR] = true) :
    ∃ t, execSbiStatclr s = .next t ∧ State.seen xe t = State.seen xe s := by
  simp only [Extent.covers, List.all_cons, List.all_nil, Bool.and_true, Bool.true_and, Bool.and_eq_true] at xh
  refine ⟨_, rfl, ?_⟩
  simp [xh]

theorem execUartReceiveByte_seen (xe : Extent) (v : Byte) (stop : Bool) (s : State) (xh : xe.covers [.seqs, .port] [F.ICU_LOSTCNT, F.ICU_OVRw_SRC, F.ICU_PENDw_SRC, F.SBI_USTAT_FRAMERR, F.SBI_USTAT_OVR] = true) :
    ∃ t, execUartReceiveByte v stop s = .next t ∧ State.seen xe t = State.seen xe s := by
  simp only [Extent.covers, List.all_cons, List.all_nil, Bool.and_true, Bool.true_and, Bool.and_eq_true] at xh
  refine ⟨_, rfl, ?_⟩
  simp [xh]

theorem execUtxWrite_seen (xe : Extent) (v : Byte) (s : State) (xh : xe.covers [.seqs, .port] [F.ICU_LOSTCNT, F.ICU_OVRw_SRC, F.ICU_PENDw_SRC] = true) :
    ∃ t, execUtxWrite v s = .next t ∧ State.seen xe t = State.seen xe s := by
  simp only [Extent.covers, List.all_cons, List.all_nil, Bool.and_true, Bool.true_and, Bool.and_eq_true] at xh
  refine ⟨_, rfl, ?_⟩
  simp [xh]

theorem execUartSendByte_seen (xe : Extent) (s : State) (xh : xe.covers [.seqs, .port] [F.ICU_LOSTCNT, F.ICU_OVRw_SRC, F.ICU_PENDw_SRC] = true) :
    ∃ t, execUartSendByte s = .next t ∧ State.seen xe t = State.seen xe s := by
  simp only [Extent.covers, List.all_cons, List.all_nil, Bool.and_true, Bool.true_and, Bool.and_eq_true] at xh
  refine ⟨_, rfl, ?_⟩
  simp [xh]

theorem execUctrlRxpop_seen (xe : Extent) (s : State) (xh : xe.covers [.port] [] = true) :
    ∃ t, execUctrlRxpop s = .next t ∧ State.seen xe t = State.seen xe s := by
  simp only [Extent.covers, List.all_cons, List.all_nil, Bool.and_true, Bool.true_and, Bool.and_eq_true] at xh
  refine ⟨_, rfl, ?_⟩
  simp [xh]

theorem execUctrlFlush_seen (xe : Extent) (s : State) (xh : xe.covers [.seqs, .port] [F.ICU_LOSTCNT, F.ICU_OVRw_SRC, F.ICU_PENDw_SRC] = true) :
    ∃ t, execUctrlFlush s = .next t ∧ State.seen xe t = State.seen xe s := by
  simp only [Extent.covers, List.all_cons, List.all_nil, Bool.and_true, Bool.true_and, Bool.and_eq_true] at xh
  refine ⟨_, rfl, ?_⟩
  simp [xh]

theorem execTapReset_seen (xe : Extent) (s : State) (xh : xe.covers [.port] [] = true) :
    ∃ t, execTapReset s = .next t ∧ State.seen xe t = State.seen xe s := by
  simp only [Extent.covers, List.all_cons, List.all_nil, Bool.and_true, Bool.true_and, Bool.and_eq_true] at xh
  refine ⟨_, rfl, ?_⟩
  simp [xh]

theorem execIdcode_seen (xe : Extent) (s : State) (xh : xe.covers [.dev, .auth, .frame, .fresh, .locked, .seqs, .log, .rdata, .time, .table, .fab, .quays, .lanes, .tiles, .exec, .sched, .tide, .pen, .mir, .boot, .cal, .port] [] = true) (xha : xe.all = true) :
    ∃ t, execIdcode s = .next t ∧ State.seen xe t = State.seen xe s := by
  simp only [Extent.covers, List.all_cons, List.all_nil, Bool.and_true, Bool.true_and, Bool.and_eq_true] at xh
  have xhr : ∀ f, xe.r f = true := fun f => xe.r_of_all f xha
  refine ⟨_, rfl, ?_⟩
  simp [xh, xha, xhr]

theorem execSamplePreload_seen (xe : Extent) (s : State) (xh : xe.covers [.dev, .auth, .frame, .fresh, .locked, .seqs, .log, .rdata, .time, .table, .fab, .quays, .lanes, .tiles, .exec, .sched, .tide, .pen, .mir, .boot, .cal, .port] [] = true) (xha : xe.all = true) :
    ∃ t, execSamplePreload s = .next t ∧ State.seen xe t = State.seen xe s := by
  simp only [Extent.covers, List.all_cons, List.all_nil, Bool.and_true, Bool.true_and, Bool.and_eq_true] at xh
  have xhr : ∀ f, xe.r f = true := fun f => xe.r_of_all f xha
  refine ⟨_, rfl, ?_⟩
  simp [xh, xha, xhr]

theorem execExtest_seen (xe : Extent) (s : State) (xh : xe.covers [.dev, .auth, .frame, .fresh, .locked, .seqs, .log, .rdata, .time, .table, .fab, .quays, .lanes, .tiles, .exec, .sched, .tide, .pen, .mir, .boot, .cal, .port] [] = true) (xha : xe.all = true) :
    ∃ t, execExtest s = .next t ∧ State.seen xe t = State.seen xe s := by
  simp only [Extent.covers, List.all_cons, List.all_nil, Bool.and_true, Bool.true_and, Bool.and_eq_true] at xh
  have xhr : ∀ f, xe.r f = true := fun f => xe.r_of_all f xha
  refine ⟨_, rfl, ?_⟩
  simp [xh, xha, xhr]

theorem execClamp_seen (xe : Extent) (s : State) (xh : xe.covers [.dev, .auth, .frame, .fresh, .locked, .seqs, .log, .rdata, .time, .table, .fab, .quays, .lanes, .tiles, .exec, .sched, .tide, .pen, .mir, .boot, .cal, .port] [] = true) (xha : xe.all = true) :
    ∃ t, execClamp s = .next t ∧ State.seen xe t = State.seen xe s := by
  simp only [Extent.covers, List.all_cons, List.all_nil, Bool.and_true, Bool.true_and, Bool.and_eq_true] at xh
  have xhr : ∀ f, xe.r f = true := fun f => xe.r_of_all f xha
  refine ⟨_, rfl, ?_⟩
  simp [xh, xha, xhr]

theorem execHighz_seen (xe : Extent) (s : State) (xh : xe.covers [.dev, .auth, .frame, .fresh, .locked, .seqs, .log, .rdata, .time, .table, .fab, .quays, .lanes, .tiles, .exec, .sched, .tide, .pen, .mir, .boot, .cal, .port] [] = true) (xha : xe.all = true) :
    ∃ t, execHighz s = .next t ∧ State.seen xe t = State.seen xe s := by
  simp only [Extent.covers, List.all_cons, List.all_nil, Bool.and_true, Bool.true_and, Bool.and_eq_true] at xh
  have xhr : ∀ f, xe.r f = true := fun f => xe.r_of_all f xha
  refine ⟨_, rfl, ?_⟩
  simp [xh, xha, xhr]

theorem execBypass_seen (xe : Extent) (s : State) (xh : xe.covers [.dev, .auth, .frame, .fresh, .locked, .seqs, .log, .rdata, .time, .table, .fab, .quays, .lanes, .tiles, .exec, .sched, .tide, .pen, .mir, .boot, .cal, .port] [] = true) (xha : xe.all = true) :
    ∃ t, execBypass s = .next t ∧ State.seen xe t = State.seen xe s := by
  simp only [Extent.covers, List.all_cons, List.all_nil, Bool.and_true, Bool.true_and, Bool.and_eq_true] at xh
  have xhr : ∀ f, xe.r f = true := fun f => xe.r_of_all f xha
  refine ⟨_, rfl, ?_⟩
  simp [xh, xha, xhr]

theorem execCkgStatclr_seen (xe : Extent) (s : State) (xh : xe.covers [.port] [F.CKG_ENGHWM_CYCLES, F.CKG_ENGHWM_ENGINE, F.CKG_FRMRNG_MAX, F.CKG_FRMRNG_MIN, F.CKG_OVRCNTq] = true) :
    ∃ t, execCkgStatclr s = .next t ∧ State.seen xe t = State.seen xe s := by
  simp only [Extent.covers, List.all_cons, List.all_nil, Bool.and_true, Bool.true_and, Bool.and_eq_true] at xh
  refine ⟨_, rfl, ?_⟩
  simp [xh]

theorem execMtxStatclr_seen (xe : Extent) (s : State) (xh : xe.covers [] [F.MTX_ECCCOR, F.MTX_ECCUNC, F.MTX_ERRCNT, F.MTX_RSTCNT, F.MTX_WAITHWMm_CYCLES] = true) :
    ∃ t, execMtxStatclr s = .next t ∧ State.seen xe t = State.seen xe s := by
  simp only [Extent.covers, List.all_cons, List.all_nil, Bool.and_true, Bool.true_and, Bool.and_eq_true] at xh
  refine ⟨_, rfl, ?_⟩
  simp [xh]

theorem execCrnStatclr_seen (xe : Extent) (s : State) (xh : xe.covers [] [F.CRN_ERRCNT, F.CRN_XFERCNT] = true) :
    ∃ t, execCrnStatclr s = .next t ∧ State.seen xe t = State.seen xe s := by
  simp only [Extent.covers, List.all_cons, List.all_nil, Bool.and_true, Bool.true_and, Bool.and_eq_true] at xh
  refine ⟨_, rfl, ?_⟩
  simp [xh]

theorem execDbgStatall_seen (xe : Extent) (s : State) (xh : xe.covers [.port] [] = true) (xha : xe.all = true) :
    ∃ t, execDbgStatall s = .next t ∧ State.seen xe t = State.seen xe s := by
  simp only [Extent.covers, List.all_cons, List.all_nil, Bool.and_true, Bool.true_and, Bool.and_eq_true] at xh
  have xhr : ∀ f, xe.r f = true := fun f => xe.r_of_all f xha
  refine ⟨_, rfl, ?_⟩
  simp [xh, xha, xhr]

theorem execDbgPut_seen (xe : Extent) (s : State) (xh : xe.covers [.log, .port] [F.DBG_FLTSTAT_CLASS, F.DBG_FLTSTAT_PUTERR] = true) :
    ∃ t, execDbgPut s = .next t ∧ State.seen xe t = State.seen xe s := by
  simp only [Extent.covers, List.all_cons, List.all_nil, Bool.and_true, Bool.true_and, Bool.and_eq_true] at xh
  refine ⟨_, rfl, ?_⟩
  simp [xh]

theorem execHealthReportClose_seen (xe : Extent) (tests : List SelfStep) (s : State) (xh : xe.covers [.seqs, .log, .fab, .port] [F.DBG_FLTSTAT_CLASS, F.ICU_LOSTCNT, F.ICU_OVRw_SRC, F.ICU_PENDw_SRC, F.MOR_ESTATp_CAUSE, F.MOR_ESTATp_STATE, F.MOR_STAT_ENGFLT] = true) :
    ∃ t, execHealthReportClose tests s = .next t ∧ State.seen xe t = State.seen xe s := by
  simp only [Extent.covers, List.all_cons, List.all_nil, Bool.and_true, Bool.true_and, Bool.and_eq_true] at xh
  refine ⟨_, rfl, ?_⟩
  simp [xh]

theorem execReferenceWindow_seen (xe : Extent) (edges : Nat) (s : State) (xh : xe.covers [.dev, .auth, .seqs, .log, .time, .fab, .quays, .lanes, .pen, .mir, .boot, .cal, .port] [F.CAL_ABANDCNT, F.CAL_UCAP_ABANDON, F.CAL_USTAT_RESULT, F.CAL_USTAT_STATE, F.CKG_PLLSTAT_LOCK0, F.CKG_PLLSTAT_LOCK1, F.CKG_PLLSTAT_LOCK2, F.CKG_PLLSTAT_REFLOSS, F.CKG_PLLSTAT_REFOK, F.CKG_REFMON, F.DBG_FLTSTAT_CLASS, F.DBG_LASTSAFEF_FRAME, F.DBG_LASTSAFE_CODE, F.ICU_LOSTCNT, F.ICU_OVRw_SRC, F.ICU_PENDw_SRC, F.NET_STAT_LINK, F.NET_STAT_LINKCHG, F.NET_TXDROP, F.QY_DRVSTAT_AUTH, F.QY_LNKSTAT_STATE, F.QY_LNKSTAT_TLOCK, F.QY_LNKSTAT_ULOCK, F.TMP_AONSTAT_TRIPPED] = true) :
    ∃ t, execReferenceWindow edges s = .next t ∧ State.seen xe t = State.seen xe s := by
  simp only [Extent.covers, List.all_cons, List.all_nil, Bool.and_true, Bool.true_and, Bool.and_eq_true] at xh
  refine ⟨_, rfl, ?_⟩
  simp [xh]

theorem execPllLossOfLock_seen (xe : Extent) (p : Fin 3) (s : State) (xh : xe.covers [.dev, .auth, .seqs, .log, .time, .fab, .quays, .lanes, .pen, .mir, .boot, .cal, .port] [F.CAL_ABANDCNT, F.CAL_UCAP_ABANDON, F.CAL_USTAT_RESULT, F.CAL_USTAT_STATE, F.CKG_PLLSTAT_LOCK0, F.CKG_PLLSTAT_LOCK1, F.CKG_PLLSTAT_LOCK2, F.CKG_PLLSTAT_LOL0, F.CKG_PLLSTAT_LOL1, F.CKG_PLLSTAT_LOL2, F.DBG_FLTSTAT_CLASS, F.DBG_LASTSAFEF_FRAME, F.DBG_LASTSAFE_CODE, F.ICU_LOSTCNT, F.ICU_OVRw_SRC, F.ICU_PENDw_SRC, F.NET_STAT_LINK, F.NET_STAT_LINKCHG, F.NET_TXDROP, F.QY_DRVSTAT_AUTH, F.QY_LNKSTAT_STATE, F.QY_LNKSTAT_TLOCK, F.QY_LNKSTAT_ULOCK, F.TMP_AONSTAT_TRIPPED] = true) :
    ∃ t, execPllLossOfLock p s = .next t ∧ State.seen xe t = State.seen xe s := by
  simp only [Extent.covers, List.all_cons, List.all_nil, Bool.and_true, Bool.true_and, Bool.and_eq_true] at xh
  refine ⟨_, rfl, ?_⟩
  simp [xh]

theorem execSysGo_seen (xe : Extent) (s : State) (xh : xe.covers [.boot] [] = true) :
    ∃ t, execSysGo s = .next t ∧ State.seen xe t = State.seen xe s := by
  simp only [Extent.covers, List.all_cons, List.all_nil, Bool.and_true, Bool.true_and, Bool.and_eq_true] at xh
  refine ⟨_, rfl, ?_⟩
  simp [xh]

theorem execSysLockWrite_seen (xe : Extent) (v : Word) (s : State) (xh : xe.covers [.locked] [] = true) :
    ∃ t, execSysLockWrite v s = .next t ∧ State.seen xe t = State.seen xe s := by
  simp only [Extent.covers, List.all_cons, List.all_nil, Bool.and_true, Bool.true_and, Bool.and_eq_true] at xh
  refine ⟨_, rfl, ?_⟩
  simp [xh]

theorem execCraneStart_seen (xe : Extent) (c : Fin 4) (s : State) (xh : xe.covers [.port] [F.CRN_CHSTATc_WERR] = true) :
    ∃ t, execCraneStart c s = .next t ∧ State.seen xe t = State.seen xe s := by
  simp only [Extent.covers, List.all_cons, List.all_nil, Bool.and_true, Bool.true_and, Bool.and_eq_true] at xh
  refine ⟨_, rfl, ?_⟩
  simp [xh]

theorem execEngineWindowWrite_seen (xe : Extent) (w : WinBeat) (off : Fin 16384) (v : Word) (s : State) (xh : xe.covers [.dev, .auth, .frame, .fresh, .locked, .seqs, .log, .rdata, .time, .table, .fab, .quays, .lanes, .tiles, .exec, .sched, .tide, .pen, .mir, .boot, .cal, .port] [] = true) (xha : xe.all = true) :
    ∃ t, execEngineWindowWrite w off v s = .next t ∧ State.seen xe t = State.seen xe s := by
  simp only [Extent.covers, List.all_cons, List.all_nil, Bool.and_true, Bool.true_and, Bool.and_eq_true] at xh
  have xhr : ∀ f, xe.r f = true := fun f => xe.r_of_all f xha
  refine ⟨_, rfl, ?_⟩
  simp [xh, xha, xhr]

theorem execRegisterWrite_seen (xe : Extent) (master : Fin 11) (a : BitVec 22) (v : Word) (s : State) (xh : xe.covers [.dev, .auth, .frame, .fresh, .locked, .seqs, .log, .rdata, .time, .table, .fab, .quays, .lanes, .tiles, .exec, .sched, .tide, .pen, .mir, .boot, .cal, .port] [] = true) (xha : xe.all = true) :
    ∃ t, execRegisterWrite master a v s = .next t ∧ State.seen xe t = State.seen xe s := by
  simp only [Extent.covers, List.all_cons, List.all_nil, Bool.and_true, Bool.true_and, Bool.and_eq_true] at xh
  have xhr : ∀ f, xe.r f = true := fun f => xe.r_of_all f xha
  refine ⟨_, rfl, ?_⟩
  simp [xh, xha, xhr]

theorem execMatrixBurst_seen (xe : Extent) (b : Burst) (g : Grant) (s : State) (xh : xe.covers [.dev, .auth, .frame, .fresh, .locked, .seqs, .log, .rdata, .time, .table, .fab, .quays, .lanes, .tiles, .exec, .sched, .tide, .pen, .mir, .boot, .cal, .port] [] = true) (xha : xe.all = true) :
    ∃ t, execMatrixBurst b g s = .next t ∧ State.seen xe t = State.seen xe s := by
  simp only [Extent.covers, List.all_cons, List.all_nil, Bool.and_true, Bool.true_and, Bool.and_eq_true] at xh
  have xhr : ∀ f, xe.r f = true := fun f => xe.r_of_all f xha
  refine ⟨_, rfl, ?_⟩
  simp [xh, xha, xhr]

theorem execCraneDescriptorComplete_seen (xe : Extent) (c : Fin 4) (at' : CraneAt) (s : State) (xh : xe.covers [.dev, .auth, .frame, .fresh, .locked, .seqs, .log, .rdata, .time, .table, .fab, .quays, .lanes, .tiles, .exec, .sched, .tide, .pen, .mir, .boot, .cal, .port] [] = true) (xha : xe.all = true) :
    ∃ t, execCraneDescriptorComplete c at' s = .next t ∧ State.seen xe t = State.seen xe s := by
  simp only [Extent.covers, List.all_cons, List.all_nil, Bool.and_true, Bool.true_and, Bool.and_eq_true] at xh
  have xhr : ∀ f, xe.r f = true := fun f => xe.r_of_all f xha
  refine ⟨_, rfl, ?_⟩
  simp [xh, xha, xhr]

theorem execCraneError_seen (xe : Extent) (c : Fin 4) (at' : CraneAt) (s : State) (xh : xe.covers [.dev, .auth, .frame, .fresh, .locked, .seqs, .log, .rdata, .time, .table, .fab, .quays, .lanes, .tiles, .exec, .sched, .tide, .pen, .mir, .boot, .cal, .port] [] = true) (xha : xe.all = true) :
    ∃ t, execCraneError c at' s = .next t ∧ State.seen xe t = State.seen xe s := by
  simp only [Extent.covers, List.all_cons, List.all_nil, Bool.and_true, Bool.true_and, Bool.and_eq_true] at xh
  have xhr : ∀ f, xe.r f = true := fun f => xe.r_of_all f xha
  refine ⟨_, rfl, ?_⟩
  simp [xh, xha, xhr]

theorem execCraneEngineLimitResume_seen (xe : Extent) (c : Fin 4) (at' : CraneAt) (s : State) (xh : xe.covers [.dev, .auth, .frame, .fresh, .locked, .seqs, .log, .rdata, .time, .table, .fab, .quays, .lanes, .tiles, .exec, .sched, .tide, .pen, .mir, .boot, .cal, .port] [] = true) (xha : xe.all = true) :
    ∃ t, execCraneEngineLimitResume c at' s = .next t ∧ State.seen xe t = State.seen xe s := by
  simp only [Extent.covers, List.all_cons, List.all_nil, Bool.and_true, Bool.true_and, Bool.and_eq_true] at xh
  have xhr : ∀ f, xe.r f = true := fun f => xe.r_of_all f xha
  refine ⟨_, rfl, ?_⟩
  simp [xh, xha, xhr]

theorem execCraneAbort_seen (xe : Extent) (c : Fin 4) (cut : Option CraneAt) (s : State) (xh : xe.covers [.dev, .auth, .frame, .fresh, .locked, .seqs, .log, .rdata, .time, .table, .fab, .quays, .lanes, .tiles, .exec, .sched, .tide, .pen, .mir, .boot, .cal, .port] [] = true) (xha : xe.all = true) :
    ∃ t, execCraneAbort c cut s = .next t ∧ State.seen xe t = State.seen xe s := by
  simp only [Extent.covers, List.all_cons, List.all_nil, Bool.and_true, Bool.true_and, Bool.and_eq_true] at xh
  have xhr : ∀ f, xe.r f = true := fun f => xe.r_of_all f xha
  refine ⟨_, rfl, ?_⟩
  repeat' first
    | (extract_lets +onlyGivenNames x; refine have hx : State.seen xe x = State.seen xe s := ?_; ?_; (on_goal 1 => unfold x); (on_goal 2 => clear_value x))
    | (extract_lets +onlyGivenNames x; refine have hx : State.seen xe x.2 = State.seen xe s := ?_; ?_; (on_goal 1 => unfold x); (on_goal 2 => clear_value x))
    | (extract_lets +onlyGivenNames x; refine have hx : State.seen xe x.2.2 = State.seen xe s := ?_; ?_; (on_goal 1 => unfold x); (on_goal 2 => clear_value x))
    | (extract_lets +onlyGivenNames x; clear_value x)
    | (simp [*]; done)
    | (refine (foldl_seen xe _ _ _ ?_).trans ?_; (on_goal 1 => intro s a))
    | (refine (State.when_seen xe _ _ _ ?_).trans ?_; (on_goal 1 => intro s))
    | split
    | (simp_all; done)

theorem execFlashOpComplete_seen (xe : Extent) (s : State) (xh : xe.covers [.seqs, .log, .table, .fab, .exec, .boot, .port] [F.DBG_FLTSTAT_CLASS, F.ICU_LOSTCNT, F.ICU_OVRw_SRC, F.ICU_PENDw_SRC, F.MOR_CWLAST_ENGINE, F.MOR_CWLAST_OFFSET, F.MOR_STAT_CWERR, F.MTX_ECCCOR, F.MTX_ECCUNC, F.MTX_ERRADDR_ADDR, F.MTX_ERRCNT, F.MTX_ERRSTAT_CAUSE, F.MTX_ERRSTAT_MASTER, F.MTX_ERRSTAT_OVR, F.MTX_ERRSTAT_VALID, F.MTX_ERRSTAT_WRITE, F.MTX_RSTCNT, F.SYS_ERRSTAT_ALIGN, F.TMP_STAT_WRHOLD, F.TMP_WRREF, F.XSP_OPCNT, F.XSP_OPSTAT_DONE] = true) :
    ∃ t, execFlashOpComplete s = .next t ∧ State.seen xe t = State.seen xe s := by
  simp only [Extent.covers, List.all_cons, List.all_nil, Bool.and_true, Bool.true_and, Bool.and_eq_true] at xh
  refine ⟨_, rfl, ?_⟩
  simp [xh]

theorem execRead_seen (xe : Extent) (c : SmbRead) (s : State) (xh : xe.covers [.dev, .auth, .frame, .fresh, .locked, .seqs, .log, .rdata, .time, .table, .fab, .quays, .lanes, .tiles, .exec, .sched, .tide, .pen, .mir, .boot, .cal, .port] [] = true) (xha : xe.all = true) :
    ∃ t, execRead c s = .next t ∧ State.seen xe t = State.seen xe s := by
  simp only [Extent.covers, List.all_cons, List.all_nil, Bool.and_true, Bool.true_and, Bool.and_eq_true] at xh
  have xhr : ∀ f, xe.r f = true := fun f => xe.r_of_all f xha
  refine ⟨_, rfl, ?_⟩
  simp [xh, xha, xhr]

theorem execWrite_seen (xe : Extent) (bytes : List Byte) (c : SmbCall) (cycle : Nat) (s : State) (xh : xe.covers [.dev, .auth, .frame, .fresh, .locked, .seqs, .log, .rdata, .time, .table, .fab, .quays, .lanes, .tiles, .exec, .sched, .tide, .pen, .mir, .boot, .cal, .port] [] = true) (xha : xe.all = true) :
    ∃ t, execWrite bytes c cycle s = .next t ∧ State.seen xe t = State.seen xe s := by
  simp only [Extent.covers, List.all_cons, List.all_nil, Bool.and_true, Bool.true_and, Bool.and_eq_true] at xh
  have xhr : ∀ f, xe.r f = true := fun f => xe.r_of_all f xha
  refine ⟨_, rfl, ?_⟩
  simp [xh, xha, xhr]

theorem execMemacc_seen (xe : Extent) (op : Fin 4) (a v : Word) (cycle : Nat) (s : State) (xh : xe.covers [.dev, .auth, .frame, .fresh, .locked, .seqs, .log, .rdata, .time, .table, .fab, .quays, .lanes, .tiles, .exec, .sched, .tide, .pen, .mir, .boot, .cal, .port] [] = true) (xha : xe.all = true) :
    ∃ t, execMemacc op a v cycle s = .next t ∧ State.seen xe t = State.seen xe s := by
  simp only [Extent.covers, List.all_cons, List.all_nil, Bool.and_true, Bool.true_and, Bool.and_eq_true] at xh
  have xhr : ∀ f, xe.r f = true := fun f => xe.r_of_all f xha
  refine ⟨_, rfl, ?_⟩
  simp [xh, xha, xhr]

theorem execAdd_seen (xe : Extent) (n : Fin 4) (s : State) (xh : xe.covers [.seqs] [] = true) :
    ∃ t, execAdd n s = .next t ∧ State.seen xe t = State.seen xe s := by
  simp only [Extent.covers, List.all_cons, List.all_nil, Bool.and_true, Bool.true_and, Bool.and_eq_true] at xh
  refine ⟨_, rfl, ?_⟩
  simp [xh]

theorem execSub_seen (xe : Extent) (n : Fin 4) (s : State) (xh : xe.covers [.seqs] [] = true) :
    ∃ t, execSub n s = .next t ∧ State.seen xe t = State.seen xe s := by
  simp only [Extent.covers, List.all_cons, List.all_nil, Bool.and_true, Bool.true_and, Bool.and_eq_true] at xh
  refine ⟨_, rfl, ?_⟩
  simp [xh]

theorem execAnd_seen (xe : Extent) (n : Fin 4) (s : State) (xh : xe.covers [.seqs] [] = true) :
    ∃ t, execAnd n s = .next t ∧ State.seen xe t = State.seen xe s := by
  simp only [Extent.covers, List.all_cons, List.all_nil, Bool.and_true, Bool.true_and, Bool.and_eq_true] at xh
  refine ⟨_, rfl, ?_⟩
  simp [xh]

theorem execOr_seen (xe : Extent) (n : Fin 4) (s : State) (xh : xe.covers [.seqs] [] = true) :
    ∃ t, execOr n s = .next t ∧ State.seen xe t = State.seen xe s := by
  simp only [Extent.covers, List.all_cons, List.all_nil, Bool.and_true, Bool.true_and, Bool.and_eq_true] at xh
  refine ⟨_, rfl, ?_⟩
  simp [xh]

theorem execXor_seen (xe : Extent) (n : Fin 4) (s : State) (xh : xe.covers [.seqs] [] = true) :
    ∃ t, execXor n s = .next t ∧ State.seen xe t = State.seen xe s := by
  simp only [Extent.covers, List.all_cons, List.all_nil, Bool.and_true, Bool.true_and, Bool.and_eq_true] at xh
  refine ⟨_, rfl, ?_⟩
  simp [xh]

theorem execShl_seen (xe : Extent) (n : Fin 4) (s : State) (xh : xe.covers [.seqs] [] = true) :
    ∃ t, execShl n s = .next t ∧ State.seen xe t = State.seen xe s := by
  simp only [Extent.covers, List.all_cons, List.all_nil, Bool.and_true, Bool.true_and, Bool.and_eq_true] at xh
  refine ⟨_, rfl, ?_⟩
  simp [xh]

theorem execShr_seen (xe : Extent) (n : Fin 4) (s : State) (xh : xe.covers [.seqs] [] = true) :
    ∃ t, execShr n s = .next t ∧ State.seen xe t = State.seen xe s := by
  simp only [Extent.covers, List.all_cons, List.all_nil, Bool.and_true, Bool.true_and, Bool.and_eq_true] at xh
  refine ⟨_, rfl, ?_⟩
  simp [xh]

theorem execSar_seen (xe : Extent) (n : Fin 4) (s : State) (xh : xe.covers [.seqs] [] = true) :
    ∃ t, execSar n s = .next t ∧ State.seen xe t = State.seen xe s := by
  simp only [Extent.covers, List.all_cons, List.all_nil, Bool.and_true, Bool.true_and, Bool.and_eq_true] at xh
  refine ⟨_, rfl, ?_⟩
  simp [xh]

theorem execMul_seen (xe : Extent) (n : Fin 4) (s : State) (xh : xe.covers [.seqs] [] = true) :
    ∃ t, execMul n s = .next t ∧ State.seen xe t = State.seen xe s := by
  simp only [Extent.covers, List.all_cons, List.all_nil, Bool.and_true, Bool.true_and, Bool.and_eq_true] at xh
  refine ⟨_, rfl, ?_⟩
  simp [xh]

theorem execSltu_seen (xe : Extent) (n : Fin 4) (s : State) (xh : xe.covers [.seqs] [] = true) :
    ∃ t, execSltu n s = .next t ∧ State.seen xe t = State.seen xe s := by
  simp only [Extent.covers, List.all_cons, List.all_nil, Bool.and_true, Bool.true_and, Bool.and_eq_true] at xh
  refine ⟨_, rfl, ?_⟩
  simp [xh]

theorem execAddi_seen (xe : Extent) (n : Fin 4) (s : State) (xh : xe.covers [.seqs] [] = true) :
    ∃ t, execAddi n s = .next t ∧ State.seen xe t = State.seen xe s := by
  simp only [Extent.covers, List.all_cons, List.all_nil, Bool.and_true, Bool.true_and, Bool.and_eq_true] at xh
  refine ⟨_, rfl, ?_⟩
  simp [xh]

theorem execAndi_seen (xe : Extent) (n : Fin 4) (s : State) (xh : xe.covers [.seqs] [] = true) :
    ∃ t, execAndi n s = .next t ∧ State.seen xe t = State.seen xe s := by
  simp only [Extent.covers, List.all_cons, List.all_nil, Bool.and_true, Bool.true_and, Bool.and_eq_true] at xh
  refine ⟨_, rfl, ?_⟩
  simp [xh]

theorem execOri_seen (xe : Extent) (n : Fin 4) (s : State) (xh : xe.covers [.seqs] [] = true) :
    ∃ t, execOri n s = .next t ∧ State.seen xe t = State.seen xe s := by
  simp only [Extent.covers, List.all_cons, List.all_nil, Bool.and_true, Bool.true_and, Bool.and_eq_true] at xh
  refine ⟨_, rfl, ?_⟩
  simp [xh]

end Sys2Proof.Machine
end

