-- ==== Sys2Proof/WellFormed.lean ====
section
/-! DEFINITION. Well-formed commands: every operand lies within the field or the time that the manual gives it. Operands that
are bit vectors or finite numbers are so by their type. -/
namespace Sys2Proof
open Machine

/-- A CORE cycle counted from a tick: four to a TIME cycle. -/
def coreCycle (c : Nat) : Bool := decide (c < 2004)

/-- A TIME cycle counted from a tick: a frame has at most 251 (R36), or 501 where TB3 takes its step (R37). -/
def timeCycle (c : Nat) : Bool := decide (c < 501)

/-- A value of a field of `w` bits. -/
def fits (w v : Nat) : Bool := decide (v < 2 ^ w)

/-- A message of the channel: its TAG and its fields (R267, R268). -/
def Machine.TMsg.wf : TMsg → Bool
  | .rd tag addr count => fits 8 tag && fits 16 addr && fits 8 count
  | .wr tag addr words => fits 8 tag && fits 16 addr && decide (words.length ≤ 4) && words.all (fits 32)
  | .announce tag kind fnum val => fits 8 tag && fits 8 kind && fits 24 fnum && fits 8 val
  | .cancel tag kind fnum => fits 8 tag && fits 8 kind && fits 24 fnum
  | .rdRsp tag status words => fits 8 tag && fits 8 status && decide (words.length ≤ 5) && words.all (fits 32)
  | .wrRsp tag status => fits 8 tag && fits 8 status
  | .annAck tag status kind fnum => fits 8 tag && fits 8 status && fits 8 kind && fits 24 fnum
  | .canAck tag status kind fnum => fits 8 tag && fits 8 status && fits 8 kind && fits 24 fnum
  | .errRsp tag status => fits 8 tag && fits 8 status
  | .event count code output fnum _ => fits 8 count && fits 8 code && fits 16 output && fits 24 fnum
  | .other op tag => fits 8 op && fits 8 tag

/-- A cell (R259 to R261). -/
def Machine.Cell.wf (c : Cell) : Bool :=
  (match c.body with
    | .msg q m => fits 8 q && m.wf
    | .keepAlive => true
    | .malformed => true)
    && fits 8 c.ack && fits 2 c.rng && fits 1 c.tsb && fits 16 c.tph && fits 16 c.ttl

/-- A downstream link frame (R225 to R227). -/
def Machine.DFrame.wf (f : DFrame) : Bool :=
  fits 4 f.ftype && fits 2 f.gen && fits 24 f.fnum && fits 16 f.fill && decide (f.words.length ≤ 384) && f.words.all (fits 27)
    && fits 3 f.tpre && f.cell.all Cell.wf

/-- An upstream link frame (R228, R229). -/
def Machine.UFrame.wf (f : UFrame) : Bool :=
  fits 4 f.ftype && fits 2 f.gen && fits 1 f.port && fits 2 f.asrc && fits 24 f.fnum && fits 8 f.rxfn && fits 3 f.dbad
    && fits 8 f.tsig && decide (f.samples.length ≤ 96) && f.samples.all (fun x => fits 16 x.1) && fits 8 f.eye && fits 3 f.cpre
    && f.cell.all Cell.wf

/-- The arrival of an upstream frame: the errors of a 64-bit SYNC word (R238), RTT (R252) and the margin. -/
def Machine.UArrival.wf (a : UArrival) : Bool := decide (a.syncErr ≤ 64) && fits 20 a.rtt && fits 8 a.deye

/-- A tile's make (R270). -/
def Machine.TileId.wf (t : TileId) : Bool :=
  (decide (t.gen = 1) || decide (t.gen = 2)) && fits 4 t.rev && decide (t.nslot ≤ 384) && decide (t.nmon ≤ 96)
    && fits 16 t.trxlat && fits 16 t.ttxlat && fits 64 t.serial

/-- A datagram: its addresses and ports (R285, R288), and a payload that fits a frame. -/
def Machine.Dgram.wf (d : Dgram) : Bool :=
  fits 1 d.peer.net && fits 48 d.peer.mac && fits 2 d.peer.own && fits (if d.peer.v6 then 128 else 32) d.peer.ip
    && fits 16 d.peer.port && fits 16 d.peer.dport && decide (d.payload.length ≤ 1472)

/-- A mirror frame: the fields of its header (R359) and at most 46 cells. -/
def Machine.MFrame.wf (f : MFrame) : Bool :=
  fits 4 f.ftype && fits 1 f.lane && fits 3 f.state && fits 2 f.spares && fits 24 f.fnum && fits 8 f.idlo && fits 16 f.fill
    && fits 3 (f.train.preset.getD 0) && fits 8 f.train.eye && fits 3 f.train.bad
    && f.cells.all (fun c => fits 8 c.ctype && fits 16 c.cseq) && decide (f.cells.length ≤ 46)

/-- A burst: a master, an address, and one to eight beats of 32 bytes (R461). -/
def Machine.Burst.wf (b : Burst) : Bool :=
  decide (b.master < 11) && fits 32 b.addr && decide (b.beats ≤ 8)
    && b.write.all fun l => decide (l.length ≤ 8) && l.all fun w => decide (w.1.length = 32)

/-- A target about to grant: a cycle of the frame, and masters that wait. -/
def Machine.Claim.wf (c : Claim) : Bool := coreCycle c.cycle && c.others.all fun o => decide (o.1 < 11)

/-- What a burst meets: claims, beats delivered, and 64-bit words of table memory. -/
def Machine.Grant.wf (g : Grant) : Bool :=
  g.turns.all Claim.wf && decide (g.delivered ≤ 8) && g.weak.all (fits 21) && g.bad.all (fits 21)

/-- When a crane's bursts begin, and the beats delivered. -/
def Machine.CraneAt.wf (x : CraneAt) : Bool := coreCycle x.cycle && decide (x.delivered ≤ 8)

/-- An Ethernet frame: at least its header, and a time within its frame of fabric time (R484, R492). -/
def Machine.EthFrame.wf (x : EthFrame) : Bool := decide (14 ≤ x.bytes.length) && timeCycle x.cycle && fits 34 x.frac

/-- A command whose operands the hardware can present. -/
def Instr.wf : Instr → Bool
  | .engineMemoryError _ cycle _ => coreCycle cycle
  | .referenceWindow edges => decide (edges < 2 ^ 16)
  | .upstreamFrame _ f a => f.wf && a.wf
  | .tileDownstreamFrame _ _ f => f.frame.all DFrame.wf
  | .tileReferenceInstant _ taken => decide (taken.length ≤ 96) && taken.all fun x => decide (x.1 < 2 ^ 16)
  | .tileLock _ _ _ who => who.all TileId.wf
  | .openMsg d => d.wf
  | .closeMsg d => d.wf
  | .ping d => d.wf
  | .load d => d.wf
  | .commit d => d.wf
  | .discard d => d.wf
  | .apply d => d.wf
  | .withdraw d => d.wf
  | .tidectlArm d => d.wf
  | .tidectlCancel d => d.wf
  | .tidectlStop d => d.wf
  | .queryDevice d => d.wf
  | .queryTime d => d.wf
  | .queryReg d => d.wf
  | .querySlot d => d.wf
  | .queryCircuit d => d.wf
  | .queryQueue d => d.wf
  | .queryHealth d => d.wf
  | .manifestStatus d => d.wf
  | .slotControlOwner d => d.wf
  | .slotControlFailset d => d.wf
  | .slotControlFailclr d => d.wf
  | .slotControlClrdown d => d.wf
  | .subscribe d => d.wf
  | .penvarUnknownType d => d.wf
  | .tbNsReadLatch _ cycle => timeCycle cycle
  | .ppsInEdge cycle => timeCycle cycle
  | .ppsOutEdge cycle => timeCycle cycle
  | .ppsOutEnd cycle => timeCycle cycle
  | .evtCapture _ _ cycle => timeCycle cycle
  | .beaconEdgeReceive at100ps width => decide (at100ps < 10040) && decide (width < 10040)
  | .beaconEcho at100ps width => decide (at100ps < 10040) && decide (width < 10040)
  | .mirrorFrame _ f => f.frame.wf
  | .sensorSample results => decide (results.length = 16) && results.all fun r => r.all fun x => decide (-32768 ≤ x) && decide (x < 32768)
  | .ld _ cycle _ => coreCycle cycle
  | .st _ cycle _ => coreCycle cycle
  | .fence _ cycle _ => coreCycle cycle
  | .sig _ cycle _ => coreCycle cycle
  | .halt _ cycle _ => coreCycle cycle
  | .waitWake _ slept => decide (slept < 2 ^ 32)
  | .matrixBurst b g => b.wf && g.wf
  | .craneAbort _ cut => cut.all CraneAt.wf
  | .craneDescriptorComplete _ at' => at'.wf
  | .craneError _ at' => at'.wf
  | .craneEngineLimitResume _ at' => at'.wf
  | .netFrameReceive _ x => x.wf
  | .setaddr bytes _ => decide (bytes.length ≤ 255)
  | .read c => coreCycle c.cycle
  | .write bytes _ cycle => decide (bytes.length ≤ 255) && coreCycle cycle
  | .mbwrite bytes _ => decide (bytes.length ≤ 255)
  | .memacc _ _ _ cycle => coreCycle cycle
  | .healthReportClose tests => decide (tests.length ≤ 50)
  | .tb3NsWrap cycle => timeCycle cycle
  | .engineWindowWrite w _ _ => coreCycle w.cycle
  | .powerSupplyChange _ _ | .resetNAssert | .leaveOff _ _ _ | .pllLock _ | .pllLockTimeout | .selfTestDone _
  | .imageSlotTry | .stagingEnd | .joinWaitExpiry | .frameTick | .queueLateFlush _ | .transitionLateEnd _ | .engineDeadline
  | .engineLateEscalation _ | .slotDark _ | .slotSettled _ | .settleTimeout _ | .bundleCommandApply _ | .bundleUnpark _
  | .bundleInitClose _ | .coefficientChangeApply _ | .coefficientReclose _ | .substGo | .substLoadComplete | .bcmdOpen
  | .bcmdClose | .morStatclr | .slotcfgFset | .slotcfgFclr | .slotcfgOwnerWrite _ | .cstatClrdown
  | .manStatclr | .queueFlush | .schStatclr | .vtReadLatch | .qbalReadLatch | .tideArm | .tideCancel | .tideStop
  | .tidStatclr | .tideStart | .tideTableStop | .pilApply _ | .pilRevert | .pilAccRd | .pilAccWr | .pilotApplyTakeEffect
  | .pilCopyDone | .rngreqGo _ | .rngreqCancel _ | .rangeNoackCancel _ | .rangeChangeApply _ | .drvcfgModeWrite _ _
  | .halflvlWrite _ _ | .rnggainWrite _ _ _ | .qyDrvStatclr _ | .tsreqGo _ | .tsreqCancel _ | .tsetNoackCancel _
  | .tsetChangeApply _ | .segStatclr | .ckgStatclr | .pllLossOfLock _ | .laneSeekRateSwitch _ | .upstreamLockAcquire _
  | .trainPresetStep _ | .trainComplete _ | .trainTimeout _ | .discoverComplete _ | .discoverTimeout _
  | .skewMeasureComplete _ | .launchMoveDone _ | .laneEnterRun _ | .upstreamLockLoss _ | .upstreamRelock _
  | .relockTimeout _ | .preRunLockLoss _ | .lnkctrlRetrain _ | .lnkctrlReskew _ | .qyLnkStatclr _ | .downstreamErrorBurst _
  | .tileUpstreamLaunch _ _ _ _ _ | .tilePark _ | .tileControlReset _ | .tileConditionDetect _ _ _ _ | .tileRd _ _
  | .tileWr _ _ | .tileAnnounce _ _ | .tileCancel _ _ | .rdrsp _ | .wrrsp _ | .annack _ | .canack _ | .errrsp _ | .event _
  | .channelRetransmitTimeout _ | .channelRetryFail _ | .tchctrlReset _ | .channelResetDone _ | .qyTchStatclr _ | .treqGo _
  | .treqTimeout _ | .scmdAccept | .scmdRefuse _ | .scmdClose | .halfTimeout _ | .idleTimeout _ | .pveStatclr
  | .tbIncWrite _ _ | .tbAdjWrite _ _ | .tb3Step | .frameCounterReload | .timStatclr | .ppsnextWrite _ | .evtPop _
  | .evtStatclr | .beaconMiss | .beaconSkewMeasure _ _ | .partnerFailed | .takeover | .dualActiveYield
  | .mirrorLaneTrain _ _ _ | .req | .admitEv | .voidev | .late | .tally | .config | .swap | .object | .session | .cache
  | .holdcode | .brec | .sblk | .epctl | .ack | .hello | .mirrorCellRetransmit | .streamLoss | .tallyTimeout | .epochCommit
  | .epochTimeout | .mirEpoch | .mirResync | .mirRetrain | .mirStatclr | .rolSwap | .rolSwcancel | .rolStatclr | .swapNoack
  | .swapAtFrame | .sensorFail _ | .thermalTrip | .thermalShutdown | .shutdownRelease | .writeHoldRelease | .bandCompute
  | .bandChange | .qtrigClear _ | .dietrigClear | .calTrimWrite _ | .calGoElement | .calGoScale | .calCancel
  | .sweepWindowFound _ | .sweepWindowTimeout _ | .sweepRun _ | .scaleChange _ | .sweepCaptureEnd _ | .calibrationRelease _
  | .calSubmit | .calStore | .journalStoreComplete _ | .calStatclr | .tmpStatclr | .xspRead | .xspProgram | .xspErase
  | .xspCancel | .xspStatclr | .flashOpComplete | .flashOpTimeout | .otpProg | .otpCancel | .otpProgComplete _ | .sysGo
  | .sysSwrst | .sysLockWrite _ | .registerWrite _ _ _ | .add _ | .sub _ | .and _ | .or _ | .xor _ | .shl _ | .shr _
  | .sar _ | .mul _ | .sltu _ | .addi _ | .andi _ | .ori _ | .xori _ | .shi _ | .movhi _ | .beq _ | .bne _ | .blt _ | .bge _
  | .bltu _ | .bgeu _ | .jmp _ | .call _ | .jr _ | .mfs _ | .mts _ | .wait _ | .reti _ | .illegalInstruction _
  | .entrySequence _ | .tsqStart _ | .tsqHalt _ | .watchdogExpiry _ | .wdkick _ | .semAcq _ _ | .semRel _ _ | .icuSet _ _
  | .icuPendClear _ _ | .icuOvrClear _ _ | .icuStatclr | .craneStart _ | .crnStatclr | .mtxStatclr | .netLinkChange _ _ _
  | .netAnrst _ | .netAnnounce _ | .addressAnnounceRepeat _ | .netStatclr _ | .prxPop _ | .ptxcmdGo _
  | .ptpTransmitDone _ _ _ | .txtsReadLatch _ | .smbusReadTimeout | .status | .state | .mbread | .sclLowTimeout | .mbctrlAck
  | .mbctrlPost | .uartReceiveByte _ _ | .utxWrite _ | .uctrlRxpop | .uctrlFlush | .sbiStatclr | .tapReset | .idcode
  | .samplePreload | .extest | .clamp | .highz | .bypass | .dbgStatall | .dbgSafe | .dbgPut | .safeAutoRestart
  | .restartCountReset | .hbtInEdge | .actInEdge | .rngHealthFail | .tileOvertemp _ | .uartSendByte | .netFrameSent _ => true

end Sys2Proof
end

