-- ==== Sys2Proof/Tests/Slice0.lean ====
section
/-! SUPPORT. Tests of the author: the checks of well-formedness on ill-formed commands, known answers of the checks and hashes
the manual names, single steps, and states that meet the hypotheses of the obligations. -/
namespace Sys2Proof.Tests
open Sys2Proof Sys2Proof.Machine
set_option Elab.async false

/-! ### Well-formedness: one ill-formed term for each check -/

/-- A downstream frame whose fields fit. -/
def goodD : DFrame := ⟨15, 3, true, true, true, 0xFFFFFF, 0xFFFF, [0x7FFFFFF], 7, true, some ⟨.keepAlive, 255, true, 3, 1, true, true, 0xFFFF, 0xFFFF⟩, true⟩

/-- An upstream frame whose fields fit. -/
def goodU : UFrame :=
  ⟨15, 3, 1, 3, true, true, true, 0xFFFFFF, 255, 7, 255, [(0xFFFF, true)], 255, 7, true,
    some ⟨.msg 255 (.rd 255 0xFFFF 255), 255, true, 3, 1, true, true, 0xFFFF, 0xFFFF⟩, true⟩

/-- A cell that carries a message. -/
def cellOf (m : TMsg) : Option Cell := some ⟨.msg 0 m, 0, false, 0, 0, false, false, 0, 0⟩

theorem test_wf_downstream_good : (Instr.tileDownstreamFrame 0 0 ⟨some goodD, 64⟩).wf = true := by decide

theorem test_wf_downstream : ([{ goodD with ftype := 16 }, { goodD with gen := 4 }, { goodD with fnum := 0x1000000 },
    { goodD with fill := 0x10000 }, { goodD with words := List.replicate 385 0 }, { goodD with words := [0x8000000] },
    { goodD with tpre := 8 }, { goodD with cell := some ⟨.keepAlive, 256, false, 0, 0, false, false, 0, 0⟩ },
    { goodD with cell := some ⟨.malformed, 0, false, 4, 0, false, false, 0, 0⟩ },
    { goodD with cell := some ⟨.keepAlive, 0, false, 0, 2, false, false, 0, 0⟩ },
    { goodD with cell := some ⟨.keepAlive, 0, false, 0, 0, false, false, 0x10000, 0⟩ },
    { goodD with cell := some ⟨.keepAlive, 0, false, 0, 0, false, false, 0, 0x10000⟩ },
    { goodD with cell := some ⟨.msg 256 (.rd 0 0 0), 0, false, 0, 0, false, false, 0, 0⟩ }].any fun f =>
      (Instr.tileDownstreamFrame 0 0 ⟨some f, 0⟩).wf) = false := by decide +kernel

theorem test_wf_messages : ([TMsg.rd 256 0 0, .rd 0 0x10000 0, .rd 0 0 256, .wr 256 0 [], .wr 0 0x10000 [], .wr 0 0 [0, 0, 0, 0, 0],
    .wr 0 0 [0x100000000], .announce 256 0 0 0, .announce 0 256 0 0, .announce 0 0 0x1000000 0, .announce 0 0 0 256,
    .cancel 256 0 0, .cancel 0 256 0, .cancel 0 0 0x1000000, .rdRsp 256 0 [], .rdRsp 0 256 [], .rdRsp 0 0 [0, 0, 0, 0, 0, 0],
    .rdRsp 0 0 [0x100000000], .wrRsp 256 0, .wrRsp 0 256, .annAck 256 0 0 0, .annAck 0 256 0 0, .annAck 0 0 256 0,
    .annAck 0 0 0 0x1000000, .canAck 256 0 0 0, .canAck 0 256 0 0, .canAck 0 0 256 0, .canAck 0 0 0 0x1000000, .errRsp 256 0,
    .errRsp 0 256, .event 256 0 0 0 false, .event 0 256 0 0 false, .event 0 0 0x10000 0 false, .event 0 0 0 0x1000000 false,
    .other 256 0, .other 0 256].any fun m =>
      (Instr.tileDownstreamFrame 0 0 ⟨some { goodD with cell := cellOf m }, 0⟩).wf) = false := by decide +kernel

theorem test_wf_upstream_good : (Instr.upstreamFrame 0 goodU ⟨64, 0xFFFFF, 0, 255⟩).wf = true := by decide

theorem test_wf_upstream : ([{ goodU with ftype := 16 }, { goodU with gen := 4 }, { goodU with port := 2 }, { goodU with asrc := 4 },
    { goodU with fnum := 0x1000000 }, { goodU with rxfn := 256 }, { goodU with dbad := 8 }, { goodU with tsig := 256 },
    { goodU with samples := List.replicate 97 (0, true) }, { goodU with samples := [(0x10000, true)] },
    { goodU with eye := 256 }, { goodU with cpre := 8 }, { goodU with cell := cellOf (.rd 256 0 0) }].any fun f =>
      (Instr.upstreamFrame 0 f ⟨0, 0, 0, 0⟩).wf) = false := by decide +kernel

theorem test_wf_arrival : ([⟨65, 0, 0, 0⟩, ⟨0, 0x100000, 0, 0⟩, ⟨0, 0, 0, 256⟩].any fun a => (Instr.upstreamFrame 0 goodU a).wf)
    = false := by decide +kernel

theorem test_wf_tile : ([⟨0, 0, true, true, 0, 0, 0, 0, 0⟩, ⟨1, 16, true, true, 0, 0, 0, 0, 0⟩, ⟨1, 0, true, true, 385, 0, 0, 0, 0⟩,
    ⟨1, 0, true, true, 0, 97, 0, 0, 0⟩, ⟨1, 0, true, true, 0, 0, 0x10000, 0, 0⟩, ⟨2, 0, true, true, 0, 0, 0, 0x10000, 0⟩,
    ⟨2, 0, true, true, 0, 0, 0, 0, 2 ^ 64⟩].any fun t => (Instr.tileLock 0 0 true (some t)).wf) = false := by decide +kernel

theorem test_wf_samples : ((Instr.tileReferenceInstant 0 (List.replicate 97 (0, true))).wf
    || (Instr.tileReferenceInstant 0 [(0x10000, true)]).wf) = false := by decide +kernel

/-- A datagram to be spoilt in one place. -/
def goodDgram : Dgram := ⟨⟨1, 0xFFFFFFFFFFFF, false, 3, 0xFFFF, 0xFFFFFFFF, 0xFFFF⟩, false, [0]⟩

theorem test_wf_datagram_good : (Instr.ping goodDgram).wf = true := by decide

theorem test_wf_datagram : ([{ goodDgram with peer := { goodDgram.peer with net := 2 } },
    { goodDgram with peer := { goodDgram.peer with mac := 2 ^ 48 } }, { goodDgram with peer := { goodDgram.peer with own := 4 } },
    { goodDgram with peer := { goodDgram.peer with ip := 2 ^ 32 } }, { goodDgram with peer := { goodDgram.peer with v6 := true, ip := 2 ^ 128 } },
    { goodDgram with peer := { goodDgram.peer with port := 0x10000 } }, { goodDgram with peer := { goodDgram.peer with dport := 0x10000 } },
    { goodDgram with payload := List.replicate 1473 0 }].any fun d => d.wf) = false := by decide +kernel

/-- An ill-formed datagram is refused whatever message it is handed over as. -/
theorem test_wf_host_messages (d : Dgram) (h : d.wf = false) : ([Instr.openMsg d, .closeMsg d, .ping d, .load d, .commit d,
    .discard d, .apply d, .withdraw d, .tidectlArm d, .tidectlCancel d, .tidectlStop d, .queryDevice d, .queryTime d, .queryReg d,
    .querySlot d, .queryCircuit d, .queryQueue d, .queryHealth d, .manifestStatus d, .slotControlOwner d, .slotControlFailset d,
    .slotControlFailclr d, .slotControlClrdown d, .subscribe d, .penvarUnknownType d].any Instr.wf) = false := by
  simp [Instr.wf, h]

/-- A mirror frame to be spoilt in one place. -/
def goodM : MFrame := ⟨15, 1, 7, true, true, true, true, true, 3, 0xFFFFFF, 255, 0xFFFF, ⟨some 7, 255, true, 7⟩, true, true, true, []⟩

theorem test_wf_mirror : ([{ goodM with ftype := 16 }, { goodM with lane := 2 }, { goodM with state := 8 }, { goodM with spares := 4 },
    { goodM with fnum := 0x1000000 }, { goodM with idlo := 256 }, { goodM with fill := 0x10000 },
    { goodM with train := ⟨some 8, 0, true, 0⟩ }, { goodM with train := ⟨none, 256, true, 0⟩ },
    { goodM with train := ⟨none, 0, true, 8⟩ }, { goodM with cells := [⟨256, .control, 0, none⟩] },
    { goodM with cells := [⟨0, .control, 0x10000, none⟩] }].any fun f => (Instr.mirrorFrame 0 ⟨f, 0⟩).wf) = false := by decide

theorem test_wf_mirror_good : (Instr.mirrorFrame 0 ⟨goodM, 255⟩).wf = true := by decide

theorem test_wf_mirror_cells (c : MCell) : (Instr.mirrorFrame 0 ⟨{ goodM with cells := List.replicate 47 c }, 0⟩).wf = false := by
  simp [Instr.wf, MFrame.wf]

theorem test_wf_burst : ([⟨11, 0, none, 1, 0⟩, ⟨0, 2 ^ 32, none, 1, 0⟩, ⟨0, 0, none, 9, 0⟩, ⟨0, 0, some (List.replicate 9 ([], 0)), 1, 0⟩,
    ⟨0, 0, some [([], 0)], 1, 0⟩].any fun b => (Instr.matrixBurst b ⟨[], 0, [], []⟩).wf) = false := by decide +kernel

theorem test_wf_grant : ([⟨[⟨2004, 0, [], false⟩], 0, [], []⟩, ⟨[⟨0, 0, [(11, 0)], false⟩], 0, [], []⟩, ⟨[], 9, [], []⟩,
    ⟨[], 0, [2 ^ 21], []⟩, ⟨[], 0, [], [2 ^ 21]⟩].any fun g => (Instr.matrixBurst ⟨0, 0, none, 8, 0⟩ g).wf) = false := by
  decide +kernel

theorem test_wf_ethernet : ([⟨List.replicate 13 0, true, 0, 0⟩, ⟨List.replicate 14 0, true, 501, 0⟩,
    ⟨List.replicate 14 0, true, 0, 2 ^ 34⟩].any fun x => (Instr.netFrameReceive 0 x).wf) = false := by decide +kernel

theorem test_wf_core_cycles : ([Instr.engineMemoryError 0 2004 true, .engineWindowWrite ⟨0, 0, 2004⟩ 0 0, .ld 0 2004 0, .st 0 2004 0, .fence 0 2004 0, .sig 0 2004 0,
    .halt 0 2004 0, .craneDescriptorComplete 0 ⟨2004, 0⟩, .craneError 0 ⟨2004, 0⟩, .craneEngineLimitResume 0 ⟨2004, 0⟩,
    .craneDescriptorComplete 0 ⟨0, 9⟩, .read ⟨0, 2004⟩,
    .write [] ⟨0, none⟩ 2004, .memacc 0 0 0 2004].any Instr.wf) = false := by decide +kernel

theorem test_wf_time_cycles : ([Instr.tbNsReadLatch 0 501, .ppsInEdge 501, .ppsOutEdge 501, .ppsOutEnd 501, .evtCapture 0 true 501,
    .tb3NsWrap 501].any Instr.wf) = false := by decide +kernel

theorem test_wf_lengths : ([Instr.referenceWindow 0x10000, .beaconEdgeReceive 10040 0, .beaconEdgeReceive 0 10040,
    .beaconEcho 10040 0, .beaconEcho 0 10040, .sensorSample (List.replicate 15 none),
    .sensorSample (some 32768 :: List.replicate 15 none), .sensorSample (some (-32769) :: List.replicate 15 none),
    .waitWake 0 (2 ^ 32), .craneAbort 0 (some ⟨0, 9⟩), .setaddr (List.replicate 256 0) ⟨0, none⟩, .write (List.replicate 256 0) ⟨0, none⟩ 0,
    .mbwrite (List.replicate 256 0) ⟨0, none⟩, .healthReportClose (List.replicate 51 (.pass 0))].any Instr.wf) = false := by
  decide +kernel

/-! ### Known answers -/

/-- The check value of CRC-32C over the nine digits. -/
theorem test_crc32c : crc32c [0x31, 0x32, 0x33, 0x34, 0x35, 0x36, 0x37, 0x38, 0x39] = 0xE3069283 := by decide +kernel

/-- FIPS 180-4, the message abc. -/
theorem test_sha256 : beNat (sha256 [0x61, 0x62, 0x63]) = 0xba7816bf8f01cfea414140de5dae2223b00361a396177a9cb410ff61f20015ad := by
  decide +kernel

/-- RFC 4231, test case 2. -/
theorem test_hmac : beNat (hmac [0x4a, 0x65, 0x66, 0x65] [0x77, 0x68, 0x61, 0x74, 0x20, 0x64, 0x6f, 0x20, 0x79, 0x61, 0x20, 0x77,
    0x61, 0x6e, 0x74, 0x20, 0x66, 0x6f, 0x72, 0x20, 0x6e, 0x6f, 0x74, 0x68, 0x69, 0x6e, 0x67, 0x3f])
    = 0x5bdcc146bf60754e6a042426089575c75a003f089d2739839dec58b964ec3843 := by decide +kernel

/-- No word spells a command. -/
theorem test_decode_none : decodeTableWord 32 0x12345678 = none := rfl

/-! ### States for the witnesses -/

/-- The reset state in a device state. -/
def at_ (d : DevState) : State := { State.reset with dev := d }

/-- SOLO with authority. -/
def solo : State := { State.reset with dev := .solo, auth := true }

/-- A device state with every supply good. -/
def powered (d : DevState) : State :=
  { at_ d with boot := { BootSt.init with supplies := List.replicate 6 true } }

/-- BOOT at one of its steps. -/
def booting (p : BootStep) : State :=
  { at_ .boot with boot := { BootSt.init with supplies := List.replicate 6 true, step := p } }

/-- A fabric with one populated slot in service. -/
def oneSlot : Fabric := { Fabric.init with slots := [(8, { Slot.init with pop := true, serving := true, mon := some 0 })] }

/-- An EL2 tile with both ports in lock and numbered. -/
def plugged (t : TileSt) : TileSt :=
  { t with
    ident := some ⟨2, 0, true, true, 384, 96, 100, 100, 7⟩
    ports := t.ports.map fun x => { x with lock := true, expect := some 0xFFFFFF } }


/-- A device with NET0 up, its first own address set and one OPEN session whose requester is granted everything. -/
def hosted : State :=
  ((((((((solo.fs F.PVE_CTRL_EN 1).fs F.PVE_PORTCFG_PV2EN 1).fs F.PVE_PORTCFG_V4EN 1).fs F.PVE_PORTCFG_UDPPORT 7).fsi
    F.NET_ACFG_VALID 0 1).fsi F.NET_STAT_LINK 0 1).fsi F.PVE_RCFG_QPOL 0 255).fs F.TIM_ARMWIN_FRAMES 1000).modSess 0 fun x =>
      { x with st := 2, v2 := true, sgen := 1 }

/-- A message of the host to that session. -/
def hostMsg (typ : Nat) (body : List Byte) : Dgram :=
  ⟨⟨0, 0, false, 0, 7, 0, 0⟩, false, tagged [] (msgBytes true typ 0 0 1 1 1 0 0 body)⟩

/-- A requester whose key may open sessions, on a device that has none. -/
def opening : State :=
  { ((((hosted.modPen fun p => { p with sess := [] }).fsi F.PVE_RID_RID 3 9).fsi F.PVE_RCFG_VALID 3 1).fsi F.PVE_RCFG_PV2 3 1) with
    boot := { BootSt.init with shadow := [(0x289, 1)], keys := 1 } }

/-- A record in QUEUED, of queue 0, to which the session belongs. -/
def recorded : State :=
  (((hosted.fsi F.SCH_SMAPs_VALID 0 1).fs F.MAN_RECCFG_RECCNT 64).modRec 5 fun x => { x with useCnt := 1, st := .queued, source := 0 }).modQue 0
    fun x => { x with recs := [5] }

/-- The header of a LOAD of the first 32 bytes of a tide table of `n` bytes. -/
def loadBody (n : Nat) : List Byte := [3, 0, 1, 0, 0, 0, 0, 0] ++ beBytes 4 n ++ [0, 0, 0, 0]

/-- A device with a load pool. -/
def pooled : State := hosted.modPen fun p => { p with poolBase := 0x100000, poolSize := 0x100000 }

/-- A tide table of one entry of one frame. -/
def tideBytes : List Byte :=
  let h := leBytes 2 1 ++ leBytes 2 0 ++ leBytes 4 0 ++ leBytes 4 1 ++ List.replicate 16 0
  let e := leBytes 4 1 ++ List.replicate 12 0
  h ++ leBytes 4 (crc32c (h ++ e)) ++ e

/-- A handle that holds that table. -/
def tideStage : Stage := ⟨3, 0, 0, 48, 0x4000, [0, 1]⟩

/-- The table whole in handle 0. -/
def staged : State := (hosted.memPut 0x4000 tideBytes).modSess 0 fun x => { x with stages := [(0, some tideStage)] }

/-- The table in both places, so that it may be armed. -/
def armed : State := hosted.modTide fun x => { x with tabs := [tideRaw tideBytes, tideRaw tideBytes] }

/-- An empty manifest that the session may apply. -/
def applying : State :=
  (((hosted.fsi F.SCH_SMAPs_VALID 0 1).fsi F.SCH_QCFG_EN 0 1).fsi F.SCH_QCFG_DEPTH 0 8).modExec fun x =>
    { x with dir := [(5, some ⟨5, .normal, false, 0, 0, [], [], [], 0⟩)] }

/-- A good mirror frame of a partner in STANDBY that is READY. -/
def heardFrame : MFrame := ⟨2, 0, 3, false, false, true, false, false, 0, 0, 0, 0, MTrain.none, true, true, true, []⟩

/-- Sequencer 3 in RUN at the instruction `w`, with `a` in g1 and `b` in g2. -/
def running (w : Nat) (a b : Nat) (f : Seq → Seq := id) : State :=
  solo.setSq 3 (f { Seq.init with st := .run, iram := tsetBytes [] 0 0 (leBytes 4 w), g := 0 :: BitVec.ofNat 32 a :: BitVec.ofNat 32 b :: List.replicate 13 7 })

/-- A word of format R whose destination is g15, and one of format I. -/
def wordR (o : Nat) : Nat := o * 2 ^ 26 + 15 * 2 ^ 22 + 1 * 2 ^ 18 + 2 * 2 ^ 14
def wordI (o imm : Nat) : Nat := o * 2 ^ 26 + 15 * 2 ^ 22 + 1 * 2 ^ 18 + imm
/-- A word of format B that compares g1 and g2. -/
def wordB (o off : Nat) : Nat := o * 2 ^ 26 + 1 * 2 ^ 22 + 2 * 2 ^ 18 + off
/-! ### The hypotheses of the obligations can be met -/

/-- The hypotheses of LeavingOffAndThePlls can be met, clause by clause. -/
theorem wit_LeavingOffAndThePlls :
    (∃ (s : State), s.mayLeaveOff = true ∧ s.port.sbi.macWait = none) ∧
    (∃ (p : Fin 3) (s : State), s.dev = .boot ∧ s.boot.step = .plls ∧ s.flag (pllFlds p.val).1 = false) ∧
    (∃ (p : Fin 3) (s : State), s.dev = .boot ∧ s.boot.step = .plls ∧ s.flag (pllFlds p.val).1 = false) ∧
    (∃ (s : State), s.dev = .boot ∧ s.boot.step = .plls) :=
  ⟨⟨powered .off, by decide +kernel⟩,
   ⟨0, booting .plls, by decide +kernel⟩,
   ⟨2, booting .plls, by decide +kernel⟩,
   ⟨booting .plls, by decide +kernel⟩⟩

/-- The hypotheses of SelfTestAndImageTries can be met, clause by clause. -/
theorem wit_SelfTestAndImageTries :
    (∃ (s : State), s.dev = .boot ∧ s.boot.step = .selftest) ∧
    (∃ (s : State), s.dev = .boot ∧ s.boot.step = .selftest) ∧
    (∃ (s : State) (slot : Nat) (rest : List Nat), s.dev = .boot ∧ s.boot.step = .image ∧ s.boot.tries = slot :: rest) :=
  ⟨⟨booting .selftest, by decide +kernel⟩,
   ⟨booting .selftest, by decide +kernel⟩,
   ⟨{ booting .image with boot := { (booting .image).boot with tries := [1, 0] } }, 1, [0], by decide +kernel⟩⟩

/-- The hypotheses of EndOfStaging can be met, clause by clause. -/
theorem wit_EndOfStaging :
    (∃ (s : State), s.dev = .staging ∧ s.mir.joinEnd = none ∧ s.stagingOver = true) ∧
    (∃ (s : State), s.dev = .staging ∧ s.mir.joinEnd = none ∧ s.stagingOver = true) ∧
    (∃ (s : State) (e : Nat), s.mir.joinEnd = some e ∧ s.dev = .staging ∧ s.actAsserted = false ∧ notBefore s.coming e = true) :=
  ⟨⟨{ at_ .staging with boot := { BootSt.init with go := true } }, by decide +kernel⟩,
   ⟨{ at_ .staging with boot := { BootSt.init with go := true }, mir := { MirSt.init with actEdges := 2 } }.fs F.ROL_CFG_PAIRED 1, by decide +kernel⟩,
   ⟨{ at_ .staging with mir := { MirSt.init with joinEnd := some 1 } }, 1, by decide +kernel⟩⟩

/-- The hypotheses of TheFrameTick can be met, clause by clause. -/
theorem wit_TheFrameTick :
    (∃ (s : State), s.clocked = true ∧ s.flag F.CKG_PLLSTAT_LOCK0 = true ∧ s.time.step ≠ .running ∧ s.port.flights = [] ∧ ((∀ n : Fin 4, (s.sq n.val).posted = []))) ∧
    (∃ (s : State), s.clocked = true ∧ s.flag F.CKG_PLLSTAT_LOCK0 = true ∧ s.time.step ≠ .running ∧ s.port.flights = [] ∧ ((∀ n : Fin 4, (s.sq n.val).posted = []))) ∧
    (∃ (s : State) (n : EngSnap), s.fab.snap = some n) :=
  ⟨⟨{ solo with frame := 0xFFFFFFFF }.fs F.CKG_PLLSTAT_LOCK0 1, by decide +kernel⟩,
   ⟨(at_ .boot).fs F.CKG_PLLSTAT_LOCK0 1, by decide +kernel⟩,
   ⟨{ solo with fab := { oneSlot with snap := some ⟨7, [], [], []⟩ } }, ⟨7, [], [], []⟩, by decide +kernel⟩⟩

/-- The hypotheses of LateRequestsTransitionsAndBundles can be met, clause by clause. -/
theorem wit_LateRequestsTransitionsAndBundles :
    (∃ (q : Fin 64) (s : State) (r : Nat) (l : List Nat), s.decides s.coming = true ∧ (s.que q.val).recs = r :: l ∧ r ∉ l ∧ s.fgi F.SCH_QLATE_LATEMAX q.val ≠ 0 ∧ s.fgi F.SCH_QLATE_LATEMAX q.val < (s.xrec r).lateness (add32 s.coming 3) ∧ ((∀ k ∈ l.head?, (s.xrec k).lateness (add32 s.coming 3) ≤ s.fgi F.SCH_QLATE_LATEMAX q.val))) ∧
    (∃ (q : Fin 64) (s : State) (r : Nat) (l : List Nat), s.decides s.coming = true ∧ (s.que q.val).recs = r :: l ∧ r ∉ l ∧ s.fgi F.SCH_QLATE_LATEMAX q.val ≠ 0 ∧ s.fgi F.SCH_QLATE_LATEMAX q.val < (s.xrec r).lateness (add32 s.coming 3) ∧ ((∀ k ∈ l.head?, (s.xrec k).lateness (add32 s.coming 3) ≤ s.fgi F.SCH_QLATE_LATEMAX q.val))) ∧
    (∃ (q : Fin 64) (s : State) (r : Nat) (k : Nat), s.decides s.coming = true ∧ (s.que q.val).recs = [r, k] ∧ r ≠ k ∧ s.fgi F.SCH_QLATE_LATEMAX q.val ≠ 0 ∧ s.fgi F.SCH_QLATE_LATEMAX q.val < (s.xrec r).lateness (add32 s.coming 3) ∧ s.fgi F.SCH_QLATE_LATEMAX q.val < (s.xrec k).lateness (add32 s.coming 3)) ∧
    (∃ (b : Fin 1536) (s : State), s.fg F.CKG_FRMCFG_ESCLIM ≠ 0 ∧ s.fg F.CKG_FRMCFG_ESCLIM ≤ (s.bun b.val).lateRun ∧ s.engState (s.physOf (engineOf b.val)) = 0) :=
  ⟨⟨63, { solo with frame := 50, sched := { SchedSt.init with queues := [(63, { ReqQueue.init with recs := [5] })] } }.fsi F.SCH_QLATE_LATEMAX 63 1, 5, [], by decide +kernel⟩,
   ⟨63, { solo with frame := 50, sched := { SchedSt.init with queues := [(63, { ReqQueue.init with recs := [5, 7] })] }, exec := { ExecSt.init with recs := [(7, { ExecRec.init with reqFrame := 60 })] } }.fsi F.SCH_QLATE_LATEMAX 63 1, 5, [7], by decide +kernel⟩,
   ⟨63, { solo with frame := 50, sched := { SchedSt.init with queues := [(63, { ReqQueue.init with recs := [5, 7] })] } }.fsi F.SCH_QLATE_LATEMAX 63 1, 5, 7, by decide +kernel⟩,
   ⟨1, { solo with fab := { oneSlot with bundles := [(1, { Bundle.init with lateRun := 1 })] } }.fs F.CKG_FRMCFG_ESCLIM 1, by decide +kernel⟩⟩

/-- The hypotheses of SlotsDarkAndSettled can be met, clause by clause. -/
theorem wit_SlotsDarkAndSettled :
    (∃ (slot : Fin 12288) (s : State), s.fg F.MOR_LCFG_GAPESC ≠ 0 ∧ s.fg F.MOR_LCFG_GAPESC ≤ (s.slot slot.val).lp.darkCnt ∧ (s.slot slot.val).lp.dark = false) ∧
    (∃ (slot : Fin 12288) (s : State), (s.slot slot.val).lp.uns = true ∧ (if (s.coef (bundleOf slot.val)).setcnt = 0 then 1 else (s.coef (bundleOf slot.val)).setcnt) ≤ (s.slot slot.val).lp.setrun) ∧
    (∃ (slot : Fin 12288) (s : State), (s.slot slot.val).lp.uns = true ∧ (s.coef (bundleOf slot.val)).settmo ≠ 0 ∧ (s.coef (bundleOf slot.val)).settmo ≤ (s.slot slot.val).lp.setage ∧ (s.slot slot.val).lp.tmoDone = false) :=
  ⟨⟨12287, (solo.fs F.MOR_LCFG_GAPESC 3).modLoop 12287 fun l => { l with darkCnt := 3, iM := 9 }, by decide +kernel⟩,
   ⟨0, solo.modLoop 0 fun l => { l with uns := true, setrun := 1 }, by decide +kernel⟩,
   ⟨9, (solo.modLoop 9 fun l => { l with uns := true, setage := 4 }).modCoef 1 fun c => { c with settmo := 4 }, by decide +kernel⟩⟩

/-- The hypotheses of BundleCommandsAndStates can be met, clause by clause. -/
theorem wit_BundleCommandsAndStates :
    (∃ (b : Fin 1536) (s : State), s.updNext b.val = true ∧ (s.bun b.val).calHold = none ∧ (((s.bun b.val).st = .opened ∨ (s.bun b.val).st = .closed)) ∧ (s.bun b.val).cmd ≠ .none) ∧
    (∃ (b : Fin 1536) (s : State), s.updNext b.val = true ∧ (s.bun b.val).calHold = none ∧ (((s.bun b.val).st = .opened ∨ (s.bun b.val).st = .closed)) ∧ (s.bun b.val).cmd ≠ .none) ∧
    (∃ (b : Fin 1536) (s : State) (c : Nat), (s.bun b.val).st = .parked ∧ (s.bun b.val).clearF = some c ∧ s.secondUpdate b.val c = true) ∧
    (∃ (b : Fin 1536) (s : State) (c : Nat), (s.bun b.val).initF = some c ∧ (s.bun b.val).st = .opened ∧ (s.bun b.val).calHold = none ∧ s.secondUpdate b.val c = true) ∧
    (∃ (b : Fin 1536) (s : State) (c : Nat), (s.bun b.val).initF = some c ∧ (((s.bun b.val).calHold.isSome = true ∨ (s.bun b.val).st = .parked ∨ (s.bun b.val).st = .hold)) ∧ s.secondUpdate b.val c = true) ∧
    (∃ (b : Fin 1536) (s : State) (c : CoefChange), tget none s.fab.pendCoefs b.val = some c ∧ s.updNext b.val = true ∧ (s.bun b.val).st ≠ .hold) ∧
    (∃ (b : Fin 1536) (s : State) (c : CoefChange), tget none s.fab.pendCoefs b.val = some c ∧ s.updNext b.val = true ∧ (s.bun b.val).st ≠ .hold) ∧
    (∃ (b : Fin 1536) (s : State) (c : Nat), (s.bun b.val).recloseF = some c ∧ (s.bun b.val).st = .opened ∧ s.secondUpdate b.val c = true) :=
  ⟨⟨1535, { solo with frame := 1534 }.modBun 1535 fun x => { x with st := .closed, cmd := .opening }, by decide +kernel⟩,
   ⟨0, { solo with frame := 15 }.modBun 0 fun x => { x with cmd := .closing }, by decide +kernel⟩,
   ⟨0, { solo with frame := 63 }.modBun 0 fun x => { x with st := .parked, ret := .closed, clearF := some 31 }, 31, by decide +kernel⟩,
   ⟨0, { solo with frame := 63 }.modBun 0 fun x => { x with initF := some 31 }, 31, by decide +kernel⟩,
   ⟨0, { solo with frame := 63 }.modBun 0 fun x => { x with initF := some 31, st := .parked }, 31, by decide +kernel⟩,
   ⟨0, { solo with frame := 31, fab := { oneSlot with pendCoefs := [(0, some ⟨{ BunCoef.init with kp := 3 }, true⟩)] } }, ⟨{ BunCoef.init with kp := 3 }, true⟩, by decide +kernel⟩,
   ⟨0, { solo with frame := 31, fab := { oneSlot with bundles := [(0, { Bundle.init with st := .closed })], pendCoefs := [(0, some ⟨{ BunCoef.init with kp := 3 }, true⟩)] } }, ⟨{ BunCoef.init with kp := 3 }, true⟩, by decide +kernel⟩,
   ⟨0, { solo with frame := 63 }.modBun 0 fun x => { x with recloseF := some 31 }, 31, by decide +kernel⟩⟩

/-- The hypotheses of EnginesFailAndAreReplaced can be met, clause by clause. -/
theorem wit_EnginesFailAndAreReplaced :
    (∃ (phys : Fin 50) (s : State), s.engState phys.val = 0) ∧
    (∃ (phys : Fin 50) (s : State), s.engState phys.val = 0) ∧
    (∃ (s : State) (u : Subst), s.fab.subst = some u ∧ u.logical < 48 ∧ u.phys < 50 ∧ s.frame ≠ u.frame) ∧
    (∃ (s : State) (u : Subst), s.fab.subst = some u ∧ u.logical < 48 ∧ u.phys < 50 ∧ s.frame ≠ u.frame) :=
  ⟨⟨0, solo, by decide +kernel⟩,
   ⟨47, solo, by decide +kernel⟩,
   ⟨{ solo with fab := { oneSlot with subst := some ⟨0, 49, true, 3⟩ } }, ⟨0, 49, true, 3⟩, by decide +kernel⟩,
   ⟨{ solo with fab := { oneSlot with subst := some ⟨47, 47, true, 3⟩ } }, ⟨47, 47, true, 3⟩, by decide +kernel⟩⟩

/-- The hypotheses of EngineWindowWrites can be met, clause by clause. -/
theorem wit_EngineWindowWrites :
    (∃ (m : Fin 11) (phys : Fin 50) (off : Fin 16384) (s : State), s.dev ≠ .off ∧ s.port.flights = [] ∧ ((m.val < 4 → (s.sq m.val).posted = [])) ∧ accCause m.val (0x10000000 + 0x10000 * phys.val + 4 * off.val) true s ≠ 0) ∧
    (∃ (m : Fin 11) (phys : Fin 50) (off : Fin 16384) (s : State) (e : Nat) (n : Nat), s.dev ≠ .off ∧ s.port.flights = [] ∧ ((m.val < 4 → (s.sq m.val).posted = [])) ∧ accCause m.val (0x10000000 + 0x10000 * phys.val + 4 * off.val) true s = 0 ∧ s.engState phys.val ≠ 2 ∧ s.winLogical phys.val = some e ∧ 4 * off.val < 0xE000 ∧ 4 * off.val % 0xE0 = 0xB0 ∧ n = 256 * e + 4 * off.val / 0xE0) ∧
    (∃ (m : Fin 11) (phys : Fin 50) (off : Fin 16384) (s : State) (e : Nat) (n : Nat), s.dev ≠ .off ∧ s.port.flights = [] ∧ ((m.val < 4 → (s.sq m.val).posted = [])) ∧ accCause m.val (0x10000000 + 0x10000 * phys.val + 4 * off.val) true s = 0 ∧ s.engState phys.val ≠ 2 ∧ s.winLogical phys.val = some e ∧ 4 * off.val < 0xE000 ∧ 4 * off.val % 0xE0 = 0xB0 ∧ n = 256 * e + 4 * off.val / 0xE0) ∧
    (∃ (m : Fin 11) (phys : Fin 50) (off : Fin 16384) (v : Word) (s : State) (e : Nat) (n : Nat) (x : SlotCoef), s.dev ≠ .off ∧ s.port.flights = [] ∧ ((m.val < 4 → (s.sq m.val).posted = [])) ∧ accCause m.val (0x10000000 + 0x10000 * phys.val + 4 * off.val) true s = 0 ∧ s.engState phys.val ≠ 2 ∧ s.winLogical phys.val = some e ∧ 4 * off.val < 0xE000 ∧ 4 * off.val % 0xE0 ≠ 0xB0 ∧ n = 256 * e + 4 * off.val / 0xE0 ∧ slotCoefWrite (s.slotCoef n) (4 * off.val % 0xE0) v.toNat = some x) ∧
    (∃ (m : Fin 11) (phys : Fin 50) (off : Fin 16384) (v : Word) (s : State) (e : Nat) (b : Nat) (x : BunCoef), s.dev ≠ .off ∧ s.port.flights = [] ∧ ((m.val < 4 → (s.sq m.val).posted = [])) ∧ accCause m.val (0x10000000 + 0x10000 * phys.val + 4 * off.val) true s = 0 ∧ s.engState phys.val ≠ 2 ∧ s.winLogical phys.val = some e ∧ 0xE000 ≤ 4 * off.val ∧ 4 * off.val < 0xE800 ∧ b = 32 * e + (4 * off.val - 0xE000) / 0x40 ∧ bunCoefWrite (s.coef b) ((4 * off.val - 0xE000) % 0x40) v.toNat = some x) ∧
    (∃ (m : Fin 11) (phys : Fin 50) (off : Fin 16384) (v : Word) (s : State) (e : Nat) (b : Nat) (x : BunCoef), s.dev ≠ .off ∧ s.port.flights = [] ∧ ((m.val < 4 → (s.sq m.val).posted = [])) ∧ accCause m.val (0x10000000 + 0x10000 * phys.val + 4 * off.val) true s = 0 ∧ s.engState phys.val ≠ 2 ∧ s.winLogical phys.val = some e ∧ 0xE000 ≤ 4 * off.val ∧ 4 * off.val < 0xE800 ∧ b = 32 * e + (4 * off.val - 0xE000) / 0x40 ∧ bunCoefWrite (s.coef b) ((4 * off.val - 0xE000) % 0x40) v.toNat = some x) ∧
    (∃ (m : Fin 11) (phys : Fin 50) (off : Fin 16384) (v : Word) (s : State) (e : Nat) (b : Nat) (x : BunCoef), s.dev ≠ .off ∧ s.port.flights = [] ∧ ((m.val < 4 → (s.sq m.val).posted = [])) ∧ accCause m.val (0x10000000 + 0x10000 * phys.val + 4 * off.val) true s = 0 ∧ s.engState phys.val ≠ 2 ∧ s.winLogical phys.val = some e ∧ 0xE000 ≤ 4 * off.val ∧ 4 * off.val < 0xE800 ∧ b = 32 * e + (4 * off.val - 0xE000) / 0x40 ∧ bunCoefWrite (s.coef b) ((4 * off.val - 0xE000) % 0x40) v.toNat = some x) :=
  ⟨⟨0, 3, 5, at_ .safe, by decide +kernel⟩,
   ⟨0, 0, 44, solo, 0, 0, by decide +kernel⟩,
   ⟨0, 47, 14324, (solo.fsi F.MOR_ESTATp_LOGICAL 47 47).fsi F.MOR_EMAPe_PHYS 47 47, 47, 12287, by decide +kernel⟩,
   ⟨0, 0, 42, 0x123456, solo, 0, 0, { SlotCoef.init with theta := 0x123456 }, by decide +kernel⟩,
   ⟨0, 0, 14337, 0x00070005, solo, 0, 0, { BunCoef.init with kp := 5, ki := 7 }, by decide +kernel⟩,
   ⟨0, 0, 14338, 0x00070005, solo.modBun 0 fun b => { b with st := .closed }, 0, 0, { BunCoef.init with iclamp := 5, fold := 7 }, by decide +kernel⟩,
   ⟨4, 47, 14835, 0x05020003, (solo.fsi F.MOR_ESTATp_LOGICAL 47 47).fsi F.MOR_EMAPe_PHYS 47 47, 47, 1535, { BunCoef.init with settol := 3, setcnt := 2, settmo := 5 }, by decide +kernel⟩⟩

/-- The hypotheses of ArmingAndStoppingTideTables can be met, clause by clause. -/
theorem wit_ArmingAndStoppingTideTables :
    (∃ (s : State) (p : Nat), s.tide.pstart = some p) ∧
    (∃ (s : State), s.tide.pstart = none ∧ s.tide.run = true ∧ s.tide.stopCmd = false) ∧
    (∃ (s : State), s.tide.pstart = some s.coming) ∧
    (∃ (s : State), s.tide.run = true ∧ s.tide.stopAt = some s.coming ∧ s.tide.pstart ≠ some s.coming) :=
  ⟨⟨{ solo with tide := { TideSt.init with pstart := some 9 } }, 9, by decide +kernel⟩,
   ⟨{ solo with tide := { TideSt.init with run := true } }, by decide +kernel⟩,
   ⟨{ solo with tide := { TideSt.init with pstart := some 1 } }, by decide +kernel⟩,
   ⟨{ solo with tide := { TideSt.init with run := true, stopAt := some 1 } }, by decide +kernel⟩⟩

/-- The hypotheses of PilotStaging can be met, clause by clause. -/
theorem wit_PilotStaging :
    (∃ (s : State) (f : Nat), s.fab.pilApply = some f ∧ notBefore (add32 s.coming 2) f = true) ∧
    (∃ (s : State), s.fab.pilApply = none) :=
  ⟨⟨{ solo with fab := { oneSlot with pilApply := some 3, slots := [(8, { Slot.init with pop := true, mon := some 0, pilStg := ⟨5, 0, 0, 0, 0⟩ })] } }, 3, by decide +kernel⟩,
   ⟨solo.fs F.PIL_STAT_BUSY 1, by decide +kernel⟩⟩

/-- The hypotheses of RangeChanges can be met, clause by clause. -/
theorem wit_RangeChanges :
    (∃ (q : Fin 32) (s : State) (c : Change), (s.quay q.val).rng = some c) ∧
    (∃ (q : Fin 32) (s : State) (c : Change), (s.quay q.val).rng = some c ∧ c.acked = false ∧ notBefore s.coming (sub32 c.frame 8) = true) ∧
    (∃ (q : Fin 32) (s : State) (c : Change), (s.quay q.val).rng = some c ∧ c.acked = true ∧ notBefore s.coming c.frame = true) :=
  ⟨⟨0, solo.modQuay 0 fun x => { x with rng := some ⟨9, 1, false⟩ }, ⟨9, 1, false⟩, by decide +kernel⟩,
   ⟨0, solo.modQuay 0 fun x => { x with rng := some ⟨9, 1, false⟩ }, ⟨9, 1, false⟩, by decide +kernel⟩,
   ⟨0, solo.modQuay 0 fun x => { x with rng := some ⟨1, 3, true⟩ }, ⟨1, 3, true⟩, by decide +kernel⟩⟩

/-- The hypotheses of TimingSetChanges can be met, clause by clause. -/
theorem wit_TimingSetChanges :
    (∃ (q : Fin 32) (s : State) (c : Change), (s.quay q.val).ts = some c) ∧
    (∃ (q : Fin 32) (s : State) (c : Change), (s.quay q.val).ts = some c ∧ c.acked = false ∧ notBefore s.coming (sub32 c.frame 8) = true) ∧
    (∃ (q : Fin 32) (s : State) (c : Change), (s.quay q.val).ts = some c ∧ c.acked = true ∧ notBefore s.coming c.frame = true) :=
  ⟨⟨0, solo.modQuay 0 fun x => { x with ts := some ⟨9, 1, false⟩ }, ⟨9, 1, false⟩, by decide +kernel⟩,
   ⟨0, solo.modQuay 0 fun x => { x with ts := some ⟨9, 1, false⟩ }, ⟨9, 1, false⟩, by decide +kernel⟩,
   ⟨0, (solo.modQuay 0 fun x => { x with ts := some ⟨1, 1, true⟩ }).fsi F.QY_TSETn_STROBE 3 9, ⟨1, 1, true⟩, by decide +kernel⟩⟩

/-- The hypotheses of LaneTraining can be met, clause by clause. -/
theorem wit_LaneTraining :
    (∃ (q : Fin 32) (s : State), s.laneSt q.val = 1 ∧ (if (s.lane q.val).declared = true then 1024 else 256) ≤ (s.lane q.val).since) ∧
    (∃ (q : Fin 32) (s : State), s.laneSt q.val = 1 ∧ 2 ≤ (s.lane q.val).regained) ∧
    (∃ (q : Fin 32) (s : State) (b : Nat × Nat × Nat), s.laneSt q.val = 2 ∧ (s.lane q.val).chosen = false ∧ 64 ≤ (s.lane q.val).presetRun ∧ b = bestPreset (s.lane q.val).best (s.lane q.val).deyeNow (s.lane q.val).preset (s.lane q.val).teyeNow) ∧
    (∃ (q : Fin 32) (s : State) (b : Nat × Nat × Nat), s.laneSt q.val = 2 ∧ (s.lane q.val).chosen = false ∧ 64 ≤ (s.lane q.val).presetRun ∧ b = bestPreset (s.lane q.val).best (s.lane q.val).deyeNow (s.lane q.val).preset (s.lane q.val).teyeNow) ∧
    (∃ (q : Fin 32) (s : State), s.laneSt q.val = 2 ∧ (s.lane q.val).chosen = true ∧ 256 ≤ (s.lane q.val).clean) ∧
    (∃ (q : Fin 32) (s : State), s.laneSt q.val = 2 ∧ 4096 ≤ (s.lane q.val).since) ∧
    (∃ (q : Fin 32) (s : State) (g : Nat) (rest : List Nat), s.laneSt q.val = 3 ∧ (s.lane q.val).ident = g :: rest ∧ ((g % 16 = s.genDecl q.val → (s.lane q.val).configured = true ∧ (s.lane q.val).cfgTags = []))) ∧
    (∃ (q : Fin 32) (s : State) (g : Nat) (rest : List Nat), s.laneSt q.val = 3 ∧ (s.lane q.val).ident = g :: rest ∧ ((g % 16 = s.genDecl q.val → (s.lane q.val).configured = true ∧ (s.lane q.val).cfgTags = []))) ∧
    (∃ (q : Fin 32) (s : State) (g : Nat) (rest : List Nat), s.laneSt q.val = 3 ∧ (s.lane q.val).ident = g :: rest ∧ ((g % 16 = s.genDecl q.val → (s.lane q.val).configured = true ∧ (s.lane q.val).cfgTags = []))) ∧
    (∃ (q : Fin 32) (s : State), s.laneSt q.val = 3 ∧ 4096 ≤ (s.lane q.val).since) ∧
    (∃ (q : Fin 32) (s : State), s.laneSt q.val = 4 ∧ (s.lane q.val).measured = false ∧ 256 ≤ (s.lane q.val).rtts.length) ∧
    (∃ (q : Fin 32) (s : State), s.laneSt q.val = 4 ∧ (s.lane q.val).measured = true ∧ (s.lane q.val).skewLeft = 0 ∧ (s.lane q.val).chan.waiting = []) ∧
    (∃ (q : Fin 32) (s : State), s.laneSt q.val = 5 ∧ s.lanesRun = true) :=
  ⟨⟨31, (solo.modLane 31 fun x => { x with since := 1024 }).fsi F.QY_LNKSTAT_STATE 31 1, by decide +kernel⟩,
   ⟨0, (solo.modLane 0 fun x => { x with regained := 2 }).fsi F.QY_LNKSTAT_STATE 0 1, by decide +kernel⟩,
   ⟨0, (solo.modLane 0 fun x => { x with presetRun := 64, deyeNow := 9 }).fsi F.QY_LNKSTAT_STATE 0 2, (9, 0, 0), by decide +kernel⟩,
   ⟨0, (solo.modLane 0 fun x => { x with presetRun := 64, preset := 7, teyeNow := 5, best := some (0, 1, 2) }).fsi F.QY_LNKSTAT_STATE 0 2, (0, 1, 2), by decide +kernel⟩,
   ⟨0, (solo.modLane 0 fun x => { x with chosen := true, clean := 256 }).fsi F.QY_LNKSTAT_STATE 0 2, by decide +kernel⟩,
   ⟨0, (solo.modLane 0 fun x => { x with since := 4096 }).fsi F.QY_LNKSTAT_STATE 0 2, by decide +kernel⟩,
   ⟨0, ((solo.modQuay 0 fun x => { x with gen := .el2 }).modLane 0 fun x => { x with ident := [2], configured := true }).fsi F.QY_LNKSTAT_STATE 0 3, 2, [], by decide +kernel⟩,
   ⟨0, (solo.modLane 0 fun x => { x with ident := [2], configured := true }).fsi F.QY_LNKSTAT_STATE 0 3, 2, [], by decide +kernel⟩,
   ⟨0, (solo.modLane 0 fun x => { x with ident := [2], cfgTags := [5] }).fsi F.QY_LNKSTAT_STATE 0 3, 2, [], by decide +kernel⟩,
   ⟨0, (solo.modLane 0 fun x => { x with since := 4096 }).fsi F.QY_LNKSTAT_STATE 0 3, by decide +kernel⟩,
   ⟨0, (solo.modLane 0 fun x => { x with rtts := List.replicate 256 1000 }).fsi F.QY_LNKSTAT_STATE 0 4, by decide +kernel⟩,
   ⟨0, (solo.modLane 0 fun x => { x with measured := true }).fsi F.QY_LNKSTAT_STATE 0 4, by decide +kernel⟩,
   ⟨0, solo.fsi F.QY_LNKSTAT_STATE 0 5, by decide +kernel⟩⟩

/-- The hypotheses of LaneLossAndRelock can be met, clause by clause. -/
theorem wit_LaneLossAndRelock :
    (∃ (q : Fin 32) (s : State), s.laneSt q.val = 6 ∧ s.ulock q.val = true ∧ (s.lane q.val).lockLost = true) ∧
    (∃ (q : Fin 32) (s : State), s.laneSt q.val = 6 ∧ (s.lane q.val).lost.isSome = true ∧ 2 ≤ (s.lane q.val).regained) ∧
    (∃ (q : Fin 32) (s : State) (n : Nat), s.laneSt q.val = 6 ∧ (s.lane q.val).lost = some n ∧ s.fgi F.QY_LNKCFG_RELOCK q.val ≤ n) ∧
    (∃ (q : Fin 32) (s : State), 2 ≤ s.laneSt q.val ∧ s.laneSt q.val ≤ 5 ∧ (s.lane q.val).lockLost = true) ∧
    (∃ (q : Fin 32) (s : State), 2 ≤ s.laneSt q.val ∧ s.laneSt q.val ≤ 5 ∧ (s.lane q.val).lockLost = true) ∧
    (∃ (q : Fin 32) (s : State), s.laneSt q.val ≠ 0) ∧
    (∃ (q : Fin 32) (s : State), s.laneSt q.val = 6) ∧
    (∃ (q : Fin 32) (f : UFrame) (a : UArrival) (s : State), 2 ≤ s.laneSt q.val ∧ a.syncErr ≤ 4 ∧ (s.lane q.val).lost = none ∧ s.tsigDiffers q.val f = false) ∧
    (∃ (q : Fin 32) (f : UFrame) (a : UArrival) (s : State), 2 ≤ s.laneSt q.val ∧ a.syncErr ≤ 4 ∧ (s.lane q.val).lost = none ∧ s.tsigDiffers q.val f = false) ∧
    (∃ (q : Fin 32) (f : UFrame) (a : UArrival) (s : State), 2 ≤ s.laneSt q.val ∧ a.syncErr ≤ 4 ∧ (s.lane q.val).lost = none ∧ s.tsigDiffers q.val f = false) ∧
    (∃ (q : Fin 32) (s : State), s.fgi F.QY_LNKCFG_DERRLIM q.val ≠ 0 ∧ s.fgi F.QY_LNKCFG_DERRLIM q.val ≤ (s.lane q.val).derrRun) :=
  ⟨⟨0, ((solo.modLane 0 fun x => { x with syncBad := 4 }).fsi F.QY_LNKSTAT_STATE 0 6).fsi F.QY_LNKSTAT_ULOCK 0 1, by decide +kernel⟩,
   ⟨31, (solo.modLane 31 fun x => { x with lost := some 3, regained := 2 }).fsi F.QY_LNKSTAT_STATE 31 6, by decide +kernel⟩,
   ⟨0, (solo.modLane 0 fun x => { x with lost := some 65535 }).fsi F.QY_LNKSTAT_STATE 0 6, 65535, by decide +kernel⟩,
   ⟨0, (solo.modLane 0 fun x => { x with syncBad := 4 }).fsi F.QY_LNKSTAT_STATE 0 2, by decide +kernel⟩,
   ⟨0, (solo.modLane 0 fun x => { x with syncBad := 4 }).fsi F.QY_LNKSTAT_STATE 0 5, by decide +kernel⟩,
   ⟨31, solo.fsi F.QY_LNKSTAT_STATE 31 7, by decide +kernel⟩,
   ⟨0, (solo.fsi F.QY_LNKSTAT_STATE 0 6).fsi F.QY_RTTAVG_TIME 0 4000, by decide +kernel⟩,
   ⟨0, ⟨2, 2, 0, 0, false, false, false, 0, 0, 0, 0, [(5, true)], 0, 0, true, none, true⟩, ⟨4, 100, 80, 3⟩, solo.fsi F.QY_LNKSTAT_STATE 0 2, by decide +kernel⟩,
   ⟨0, ⟨2, 2, 0, 0, false, false, false, 1, 0, 0, 0, [(5, true)], 0, 0, true, none, true⟩, ⟨0, 100, 81, 3⟩, solo.fsi F.QY_LNKSTAT_STATE 0 6, by decide +kernel⟩,
   ⟨0, ⟨2, 2, 0, 0, false, false, false, 1, 0, 0, 0, [(5, true)], 0, 0, true, none, false⟩, ⟨0, 100, 81, 3⟩, solo.fsi F.QY_LNKSTAT_STATE 0 6, by decide +kernel⟩,
   ⟨0, (solo.modLane 0 fun x => { x with derrRun := 255 }).fsi F.QY_LNKCFG_DERRLIM 0 255, by decide +kernel⟩⟩

/-- The hypotheses of TileFramesAndState can be met, clause by clause. -/
theorem wit_TileFramesAndState :
    (∃ (q : Fin 32) (p : Fin 2) (g : DFrame) (e : Fin 65) (s : State), (s.tile q.val).hasPort p.val = true ∧ ((s.tile q.val).port p.val).lock = true ∧ e.val ≤ 4 ∧ (s.tile q.val).frameOk g = true ∧ ((s.tile q.val).port p.val).number g = .accepted ∧ g.cell = none) ∧
    (∃ (q : Fin 32) (p : Fin 2) (s : State), (s.tile q.val).hasPort p.val = true ∧ ((s.tile q.val).port p.val).lock = true) ∧
    (∃ (q : Fin 32) (s : State), (s.tile q.val).ident.isSome = true) ∧
    (∃ (q : Fin 32) (p : Fin 2) (s : State), (s.tile q.val).ident.isSome = true ∧ ((s.tile q.val).port p.val).lock = true ∧ ((s.tile q.val).port p.val).expect.isSome = true ∧ ((s.tile q.val).port p.val).chan.inbox = []) ∧
    (∃ (q : Fin 32) (s : State), Nat.max 1 ((s.tile q.val).port ((s.tile q.val).applied.getD 0)).holdwin ≤ (s.tile q.val).heldRun ∧ (s.tile q.val).park = false) ∧
    (∃ (q : Fin 32) (p : Fin 2) (s : State), (s.tile q.val).hasPort p.val = true ∧ ((s.tile q.val).port p.val).lock = false ∧ 2 ≤ ((s.tile q.val).port p.val).found) ∧
    (∃ (q : Fin 32) (p : Fin 2) (s : State), (s.tile q.val).hasPort p.val = true ∧ ((s.tile q.val).port p.val).lock = true ∧ ((4 ≤ ((s.tile q.val).port p.val).syncBad ∨ 16 ≤ ((s.tile q.val).port p.val).crcBad))) ∧
    (∃ (q : Fin 32) (s : State), (s.tile q.val).ident.isSome = true) ∧
    (∃ (q : Fin 32) (output : Fin 768) (s : State) (i : TileId), (s.tile q.val).ident = some i ∧ output.val < 2 * i.nslot) ∧
    (∃ (q : Fin 32) (output : Fin 768) (s : State) (i : TileId), (s.tile q.val).ident = some i ∧ output.val < 2 * i.nslot) ∧
    (∃ (q : Fin 32) (output : Fin 768) (s : State) (i : TileId), (s.tile q.val).ident = some i ∧ output.val < 2 * i.nslot) ∧
    (∃ (q : Fin 32) (output : Fin 768) (s : State) (i : TileId), (s.tile q.val).ident = some i ∧ output.val < 2 * i.nslot) ∧
    (∃ (q : Fin 32) (p : Fin 2) (s : State), ((s.tile q.val).port p.val).lock = true ∧ ((s.tile q.val).port p.val).fresh = false ∧ ((s.tile q.val).port p.val).events.length < 32) :=
  ⟨⟨31, 1, ⟨2, 2, true, false, false, 0xFFFFFF, 0, [], 0, true, none, true⟩, 4, solo.modTile 31 plugged, by decide +kernel⟩,
   ⟨0, 0, solo.modTile 0 plugged, by decide +kernel⟩,
   ⟨0, solo.modTile 0 plugged, by decide +kernel⟩,
   ⟨0, 0, solo.modTile 0 plugged, by decide +kernel⟩,
   ⟨0, solo.modTile 0 fun t => { plugged t with park := false, heldRun := 64 }, by decide +kernel⟩,
   ⟨0, 1, solo.modTile 0 fun t => { plugged t with ports := t.ports.map fun x => { x with found := 2 } }, by decide +kernel⟩,
   ⟨0, 0, solo.modTile 0 fun t => { plugged t with ports := t.ports.map fun x => { x with lock := true, syncBad := 4 } }, by decide +kernel⟩,
   ⟨0, solo.modTile 0 fun t => { plugged t with park := false, applied := some 0, words := [5], rng := 3 }, by decide +kernel⟩,
   ⟨0, 767, solo.modTile 0 plugged, ⟨2, 0, true, true, 384, 96, 100, 100, 7⟩, by decide +kernel⟩,
   ⟨0, 0, solo.modTile 0 plugged, ⟨2, 0, true, true, 384, 96, 100, 100, 7⟩, by decide +kernel⟩,
   ⟨0, 9, solo.modTile 0 plugged, ⟨2, 0, true, true, 384, 96, 100, 100, 7⟩, by decide +kernel⟩,
   ⟨0, 9, solo.modTile 0 fun t => { plugged t with complyBits := 0xF00 }, ⟨2, 0, true, true, 384, 96, 100, 100, 7⟩, by decide +kernel⟩,
   ⟨31, 1, solo.modTile 31 fun t => plugged { t with ports := t.ports.map fun x => { x with fresh := false } }, by decide +kernel⟩⟩

/-- The hypotheses of TileRequestsAndAnswers can be met, clause by clause. -/
theorem wit_TileRequestsAndAnswers :
    (∃ (q : Fin 32) (p : Fin 2) (s : State) (tag : Nat) (a : Nat) (n : Nat) (r : List TMsg), ((s.tile q.val).port p.val).chan.inbox = .rd tag a n :: r) ∧
    (∃ (q : Fin 32) (p : Fin 2) (s : State) (tag : Nat) (a : Nat) (n : Nat) (r : List TMsg), ((s.tile q.val).port p.val).chan.inbox = .rd tag a n :: r) ∧
    (∃ (q : Fin 32) (p : Fin 2) (s : State) (tag : Nat) (a : Nat) (ws : List Nat) (r : List TMsg), ((s.tile q.val).port p.val).chan.inbox = .wr tag a ws :: r) ∧
    (∃ (q : Fin 32) (p : Fin 2) (s : State) (tag : Nat) (a : Nat) (ws : List Nat) (r : List TMsg), ((s.tile q.val).port p.val).chan.inbox = .wr tag a ws :: r) ∧
    (∃ (q : Fin 32) (p : Fin 2) (s : State) (tag : Nat) (k : Nat) (f : Nat) (v : Nat) (r : List TMsg), ((s.tile q.val).port p.val).chan.inbox = .announce tag k f v :: r ∧ ((k = 1 ∧ v ≤ 3 ∨ k = 2 ∧ v ≤ 1))) ∧
    (∃ (q : Fin 32) (p : Fin 2) (s : State) (tag : Nat) (k : Nat) (f : Nat) (v : Nat) (r : List TMsg), ((s.tile q.val).port p.val).chan.inbox = .announce tag k f v :: r ∧ ((k = 1 ∧ v ≤ 3 ∨ k = 2 ∧ v ≤ 1))) ∧
    (∃ (q : Fin 32) (p : Fin 2) (s : State) (tag : Nat) (k : Nat) (f : Nat) (r : List TMsg), ((s.tile q.val).port p.val).chan.inbox = .cancel tag k f :: r ∧ ((k = 1 ∨ k = 2))) ∧
    (∃ (q : Fin 32) (s : State) (tag : Nat) (st : Nat) (ws : List Nat) (r : List TMsg), (s.lane q.val).chan.inbox = .rdRsp tag st ws :: r ∧ s.reqTag q.val = some tag) ∧
    (∃ (q : Fin 32) (s : State) (tag : Nat) (st : Nat) (r : List TMsg), (s.lane q.val).chan.inbox = .wrRsp tag st :: r ∧ s.reqTag q.val = some tag) ∧
    (∃ (q : Fin 32) (s : State) (tag : Nat) (st : Nat) (k : Nat) (f : Nat) (r : List TMsg) (c : Change), (s.lane q.val).chan.inbox = .annAck tag st k f :: r ∧ (if k = 1 then (s.quay q.val).rng else (s.quay q.val).ts) = some c ∧ c.acked = false ∧ c.frame % 2 ^ 24 = f) ∧
    (∃ (q : Fin 32) (s : State) (tag : Nat) (st : Nat) (k : Nat) (f : Nat) (r : List TMsg) (c : Change), (s.lane q.val).chan.inbox = .annAck tag st k f :: r ∧ (if k = 1 then (s.quay q.val).rng else (s.quay q.val).ts) = some c ∧ c.acked = false ∧ c.frame % 2 ^ 24 = f) ∧
    (∃ (q : Fin 32) (s : State) (tag : Nat) (st : Nat) (k : Nat) (f : Nat) (r : List TMsg), (s.lane q.val).chan.inbox = .canAck tag st k f :: r) ∧
    (∃ (q : Fin 32) (s : State) (tag : Nat) (st : Nat) (r : List TMsg), (s.lane q.val).chan.inbox = .errRsp tag st :: r ∧ s.reqTag q.val = some tag) ∧
    (∃ (q : Fin 32) (s : State) (n : Nat) (code : Nat) (output : Nat) (f : Nat) (lost : Bool) (r : List TMsg), (s.lane q.val).chan.inbox = .event n code output f lost :: r) ∧
    (∃ (q : Fin 32) (s : State) (n : Nat) (code : Nat) (output : Nat) (f : Nat) (lost : Bool) (r : List TMsg), (s.lane q.val).chan.inbox = .event n code output f lost :: r) ∧
    (∃ (q : Fin 32) (s : State) (n : Nat) (code : Nat) (output : Nat) (f : Nat) (lost : Bool) (r : List TMsg), (s.lane q.val).chan.inbox = .event n code output f lost :: r) :=
  ⟨⟨0, 0, solo.modTile 0 fun t => (plugged t).modPort 0 fun x => { x with chan := { x.chan with inbox := [.rd 9 0 5] } }, 9, 0, 5, [], by decide +kernel⟩,
   ⟨0, 0, solo.modTile 0 fun t => (plugged t).modPort 0 fun x => { x with chan := { x.chan with inbox := [.rd 9 4 2] } }, 9, 4, 2, [], by decide +kernel⟩,
   ⟨0, 0, solo.modTile 0 fun t => (plugged t).modPort 0 fun x => { x with chan := { x.chan with inbox := [.wr 9 16 [0x84018]] } }, 9, 16, [0x84018], [], by decide +kernel⟩,
   ⟨0, 0, solo.modTile 0 fun t => (plugged t).modPort 0 fun x => { x with chan := { x.chan with inbox := [.wr 9 4 [1]] } }, 9, 4, [1], [], by decide +kernel⟩,
   ⟨0, 0, solo.modTile 0 fun t => (plugged t).modPort 0 fun x => { x with chan := { x.chan with inbox := [.announce 9 1 9 3] } }, 9, 1, 9, 3, [], by decide +kernel⟩,
   ⟨0, 0, solo.modTile 0 fun t => (plugged t).modPort 0 fun x => { x with chan := { x.chan with inbox := [.announce 9 2 8 1] } }, 9, 2, 8, 1, [], by decide +kernel⟩,
   ⟨0, 0, solo.modTile 0 fun t => (plugged t).modPort 0 fun x => { x with prepTs := some ⟨9, 1⟩, chan := { x.chan with inbox := [.cancel 9 2 9] } }, 9, 2, 9, [], by decide +kernel⟩,
   ⟨0, solo.modLane 0 fun x => { x with req := some ⟨3, true, 0⟩, chan := { x.chan with inbox := [.rdRsp 3 0 [77]] } }, 3, 0, [77], [], by decide +kernel⟩,
   ⟨0, solo.modLane 0 fun x => { x with req := some ⟨3, false, 0⟩, chan := { x.chan with inbox := [.wrRsp 3 2] } }, 3, 2, [], by decide +kernel⟩,
   ⟨0, (solo.modQuay 0 fun x => { x with rng := some ⟨40, 1, false⟩ }).modLane 0 fun x => { x with chan := { x.chan with inbox := [.annAck 3 0 1 40] } }, 3, 0, 1, 40, [], ⟨40, 1, false⟩, by decide +kernel⟩,
   ⟨0, (solo.modQuay 0 fun x => { x with ts := some ⟨40, 1, false⟩ }).modLane 0 fun x => { x with chan := { x.chan with inbox := [.annAck 3 4 2 40] } }, 3, 4, 2, 40, [], ⟨40, 1, false⟩, by decide +kernel⟩,
   ⟨0, solo.modLane 0 fun x => { x with chan := { x.chan with inbox := [.canAck 3 0 1 40] } }, 3, 0, 1, 40, [], by decide +kernel⟩,
   ⟨0, solo.modLane 0 fun x => { x with req := some ⟨3, false, 0⟩, chan := { x.chan with inbox := [.errRsp 3 6] } }, 3, 6, [], by decide +kernel⟩,
   ⟨31, solo.modLane 31 fun x => { x with chan := { x.chan with inbox := [.event 0 6 767 16384 true] } }, 0, 6, 767, 16384, true, [], by decide +kernel⟩,
   ⟨0, solo.modLane 0 fun x => { x with chan := { x.chan with inbox := [.event 0 1 5 1 false] } }, 0, 1, 5, 1, false, [], by decide +kernel⟩,
   ⟨31, (solo.modQuay 31 fun x => { x with gen := .el2 }).modLane 31 fun x => { x with chan := { x.chan with inbox := [.event 0 1 767 1 false] } }, 0, 1, 767, 1, false, [], by decide +kernel⟩⟩

/-- The hypotheses of TheMessageChannel can be met, clause by clause. -/
theorem wit_TheMessageChannel :
    (∃ (q : Fin 32) (s : State), (s.lane q.val).chan.expired (s.fgi F.QY_TCHCFG_RTO q.val) = true ∧ (s.lane q.val).chan.resends < Nat.max 1 (s.fgi F.QY_TCHCFG_RETRYMAX q.val)) ∧
    (∃ (q : Fin 32) (s : State), (s.lane q.val).chan.expired (s.fgi F.QY_TCHCFG_RTO q.val) = true ∧ Nat.max 1 (s.fgi F.QY_TCHCFG_RETRYMAX q.val) ≤ (s.lane q.val).chan.resends) ∧
    (∃ (q : Fin 32) (s : State), (s.lane q.val).chan.resetting = true ∧ (s.lane q.val).chan.sawRst = true) ∧
    (∃ (q : Fin 32) (s : State) (r : TileReq), (s.lane q.val).req = some r ∧ 256 ≤ r.age) :=
  ⟨⟨0, solo.modLane 0 fun x => { x with chan := { x.chan with out := [(0, .rd 0 0 5, 0)], timer := 255 } }, by decide +kernel⟩,
   ⟨0, solo.modLane 0 fun x => { x with req := some ⟨3, false, 0⟩, chan := { x.chan with out := [(0, .rd 0 0 5, 255)], timer := 255 } }, by decide +kernel⟩,
   ⟨0, (solo.modLane 0 fun x => { x with chan := { x.chan with resetting := true, sawRst := true } }).fsi F.QY_LNKSTAT_STATE 0 3, by decide +kernel⟩,
   ⟨0, solo.modLane 0 fun x => { x with req := some ⟨3, false, 256⟩ }, ⟨3, false, 256⟩, by decide +kernel⟩⟩

/-- The hypotheses of ClockFailureShutdownAndRestart can be met, clause by clause. -/
theorem wit_ClockFailureShutdownAndRestart :
    (∃ (edges : Nat) (s : State), s.boot.supplies.getD 2 false = true ∧ 85 ≤ edges ∧ edges ≤ 115) ∧
    (∃ (edges : Nat) (s : State), s.boot.supplies.getD 2 false = true ∧ 85 ≤ edges ∧ edges ≤ 115) ∧
    (∃ (edges : Nat) (s : State), s.boot.supplies.getD 2 false = true ∧ ((edges < 85 ∨ 115 < edges))) ∧
    (∃ (edges : Nat) (s : State), s.boot.supplies.getD 2 false = true ∧ ((edges < 85 ∨ 115 < edges))) ∧
    (∃ (p : Fin 3) (s : State), s.flag (pllFlds p.val).1 = true) ∧
    (∃ (p : Fin 3) (s : State), s.flag (pllFlds p.val).1 = true) ∧
    (∃ (s : State), s.clocked = true) ∧
    (∃ (s : State), s.tripDue = true ∧ s.clocked = true ∧ s.flag F.CKG_PLLSTAT_LOCK0 = true) ∧
    (∃ (s : State), s.boot.supplies.getD 2 false = true) ∧
    (∃ (s : State), s.dev = .safe ∧ s.flag F.DBG_SAFECFG_AUTO = true ∧ s.port.safe.bootFail = false ∧ s.safeCleared = true ∧ s.fg F.DBG_LASTSAFE_RESTARTS < Nat.max 1 (s.fg F.DBG_SAFECFG_MAXR) ∧ s.boot.supplies.getD 2 false = true) ∧
    (∃ (s : State) (b : Nat), s.port.safe.upSince = some b ∧ 600000000000 * 2 ^ 32 ≤ (s.tb 0 + tbMod - b) % tbMod) :=
  ⟨⟨85, powered .solo, by decide +kernel⟩,
   ⟨115, powered .boot, by decide +kernel⟩,
   ⟨84, powered .solo, by decide +kernel⟩,
   ⟨116, let s := (powered .solo).fs F.CKG_PLLSTAT_REFOK 1; { s with boot := { s.boot with refOut := true } }, by decide +kernel⟩,
   ⟨0, (powered .solo).fs F.CKG_PLLSTAT_LOCK0 1, by decide +kernel⟩,
   ⟨2, ((powered .solo).fs F.CKG_PLLSTAT_LOCK2 1).fsi F.NET_STAT_LINK 1 1, by decide +kernel⟩,
   ⟨powered .solo, by decide +kernel⟩,
   ⟨((powered .solo).fs F.CKG_PLLSTAT_LOCK0 1).modPort fun p => { p with safe := { p.safe with due := [⟨0x2004, 3, 0x4600, none⟩] } }, by decide +kernel⟩,
   ⟨powered .solo, by decide +kernel⟩,
   ⟨(powered .safe).fs F.DBG_SAFECFG_AUTO 1, by decide +kernel⟩,
   ⟨solo.modPort fun p => { p with safe := { p.safe with upSince := some (tbMod - 600000000000 * 2 ^ 32) } }, tbMod - 600000000000 * 2 ^ 32, by decide +kernel⟩⟩

/-- The hypotheses of FaultLogAndHealthReport can be met, clause by clause. -/
theorem wit_FaultLogAndHealthReport :
    (∃ (s : State), s.fg F.DBG_FLTPUT0_CODE < 0xF000) ∧
    (∃ (s : State), 0xF000 ≤ s.fg F.DBG_FLTPUT0_CODE ∧ s.log.started = true) ∧
    (∃ (s : State), s.up = true ∧ s.time64 / 1000000000 ≠ s.port.health.second) ∧
    (∃ (s : State), s.up = true ∧ s.time64 / 1000000000 ≠ s.port.health.second) :=
  ⟨⟨solo.fs F.DBG_FLTPUT0_CODE 0xEFFF, by decide +kernel⟩,
   ⟨let s := (solo.fs F.DBG_FLTPUT0_CODE 0xF000).fs F.DBG_FLTPUT0_SEV 3; { s with log := s.log.start }, by decide +kernel⟩,
   ⟨powered .solo |>.modPort fun p => { p with health := { p.health with second := 9 } }, by decide +kernel⟩,
   ⟨powered .solo |>.modPort fun p => { p with health := { p.health with second := 9 } }, by decide +kernel⟩⟩

/-- The hypotheses of SessionsOpenAndClose can be met, clause by clause. -/
theorem wit_SessionsOpenAndClose :
    (∃ (d : Dgram) (r : Nat) (s : State), s.hears d = true ∧ beAt d.payload 1 1 = 1 ∧ s.decides s.frame = true ∧ (msgOf d.payload).body.length = 20 ∧ s.pen.openMs < Nat.max 1 (s.fg F.PVE_OPENLIM_RATE) ∧ s.pen.authMs < 2000 ∧ s.requester (beAt (msgOf d.payload).body 0 4) = some r ∧ s.mayOpen r (msgOf d.payload).v2 = true ∧ tagOk (s.openKey r) d.payload = true ∧ s.pen.openq.length < 16) ∧
    (∃ (d : Dgram) (s : State), s.accepts d 2 = true) ∧
    (∃ (s : State) (o : OpenReq) (r : List OpenReq), s.pen.openq = o :: r ∧ s.flag F.PVE_STAT_RNGFAIL = false ∧ (s.sess (s.fg F.PVE_SSEL_SESSION)).st = 0 ∧ s.flagi F.NET_STAT_LINK o.peer.net = true) ∧
    (∃ (s : State), (s.pen.openq = [] ∨ s.flag F.PVE_STAT_RNGFAIL = true ∨ (s.sess (s.fg F.PVE_SSEL_SESSION)).st ≠ 0)) ∧
    (∃ (s : State) (o : OpenReq) (r : List OpenReq), s.pen.openq = o :: r ∧ s.flagi F.NET_STAT_LINK o.peer.net = true) ∧
    (∃ (s : State) (o : OpenReq) (r : List OpenReq), s.pen.openq = o :: r ∧ s.flagi F.NET_STAT_LINK o.peer.net = true) ∧
    (∃ (s : State), s.pen.openq = []) ∧
    (∃ (s : State), (s.sess (s.fg F.PVE_SSEL_SESSION)).st ≠ 0) ∧
    (∃ (i : Fin 256) (s : State), s.holds = true ∧ (s.sess i.val).st = 1 ∧ s.coming % 1000 = 0 ∧ 1000 * Nat.max 1 (s.fg F.PVE_TCFG_HALFTMO) ≤ sub32 s.coming (s.sess i.val).timer) ∧
    (∃ (i : Fin 256) (s : State), s.holds = true ∧ (s.sess i.val).st = 2 ∧ s.fg F.PVE_TCFG_IDLE ≠ 0 ∧ s.coming % 1000 = 0 ∧ 1000000 * s.fg F.PVE_TCFG_IDLE ≤ sub32 s.coming (s.sess i.val).timer) :=
  ⟨⟨⟨⟨0, 0, false, 0, 7, 0, 0⟩, false, tagged (opening.openKey 3) (msgBytes true 1 0 0 0 0 5 1 0 (beBytes 4 9 ++ List.replicate 16 1))⟩, 3, opening, by decide +kernel⟩,
   ⟨hostMsg 2 [], hosted, by decide +kernel⟩,
   ⟨(opening.fs F.PVE_SSEL_SESSION 255).modPen fun p => { p with openq := [⟨3, true, [], 5, 1, ⟨0, 0, false, 0, 7, 0, 0⟩, 1⟩] }, ⟨3, true, [], 5, 1, ⟨0, 0, false, 0, 7, 0, 0⟩, 1⟩, [], by decide +kernel⟩,
   ⟨hosted, by decide +kernel⟩,
   ⟨opening.modPen (fun p => { p with openq := [⟨3, true, [], 5, 1, ⟨0, 0, false, 0, 7, 0, 0⟩, 1⟩] }), ⟨3, true, [], 5, 1, ⟨0, 0, false, 0, 7, 0, 0⟩, 1⟩, [], by decide +kernel⟩,
   ⟨opening.modPen (fun p => { p with openq := [⟨3, true, [], 5, 1, ⟨0, 0, false, 0, 7, 0, 0⟩, 1⟩] }), ⟨3, true, [], 5, 1, ⟨0, 0, false, 0, 7, 0, 0⟩, 1⟩, [], by decide +kernel⟩,
   ⟨hosted, by decide +kernel⟩,
   ⟨hosted, by decide +kernel⟩,
   ⟨0, ({ hosted with frame := 999999 }.fs F.PVE_TCFG_HALFTMO 1000).modSess 0 fun x => { x with st := 1 }, by decide +kernel⟩,
   ⟨0, { hosted with frame := 999999 }.fs F.PVE_TCFG_IDLE 1, by decide +kernel⟩⟩

/-- The hypotheses of QueriesOfAHost can be met, clause by clause. -/
theorem wit_QueriesOfAHost :
    (∃ (d : Dgram) (s : State), s.accepts d 3 = true) ∧
    (∃ (d : Dgram) (s : State), s.accepts d 3 = true) ∧
    (∃ (d : Dgram) (s : State), s.accepts d 0x30 = true ∧ beAt d.payload 16 1 = 1) ∧
    (∃ (d : Dgram) (s : State), s.accepts d 0x30 = true ∧ beAt d.payload 16 1 = 2) ∧
    (∃ (d : Dgram) (s : State), s.accepts d 0x30 = true ∧ beAt d.payload 16 1 = 3 ∧ 1 ≤ beAt d.payload 18 2 ∧ beAt d.payload 18 2 ≤ 64 ∧ beAt d.payload 20 4 % 4 = 0 ∧ 0x40000000 ≤ beAt d.payload 20 4 ∧ beAt d.payload 20 4 + 4 * (beAt d.payload 18 2 - 1) ≤ 0x403FFFFC) ∧
    (∃ (d : Dgram) (s : State), s.accepts d 0x30 = true ∧ beAt d.payload 16 1 = 3 ∧ 1 ≤ beAt d.payload 18 2 ∧ beAt d.payload 18 2 ≤ 64 ∧ beAt d.payload 20 4 % 4 = 0 ∧ 0x40000000 ≤ beAt d.payload 20 4 ∧ beAt d.payload 20 4 + 4 * (beAt d.payload 18 2 - 1) ≤ 0x403FFFFC) ∧
    (∃ (d : Dgram) (s : State), s.accepts d 0x30 = true ∧ beAt d.payload 16 1 = 4 ∧ beAt d.payload 18 2 < 12288) ∧
    (∃ (d : Dgram) (s : State), s.accepts d 0x30 = true ∧ beAt d.payload 16 1 = 5 ∧ beAt d.payload 18 2 < 4096) ∧
    (∃ (d : Dgram) (s : State), s.accepts d 0x30 = true ∧ beAt d.payload 16 1 = 6 ∧ beAt d.payload 18 2 < 64) ∧
    (∃ (d : Dgram) (s : State), s.accepts d 0x30 = true ∧ beAt d.payload 16 1 = 7) ∧
    (∃ (d : Dgram) (r : Nat) (s : State), s.accepts d 0x31 = true ∧ (s.execRec (beAt d.payload 16 4)).toOption = some r ∧ beAt d.payload 22 2 ≤ 256) ∧
    (∃ (d : Dgram) (s : State), s.admits d = true ∧ isUnknown d.payload = true) :=
  ⟨⟨hostMsg 3 [5, 6], hosted, by decide +kernel⟩,
   ⟨hostMsg 3 [], hosted.modSess 0 fun x => { x with h := 64 }, by decide +kernel⟩,
   ⟨hostMsg 0x30 [1, 0, 0, 0, 0, 0, 0, 0], hosted, by decide +kernel⟩,
   ⟨hostMsg 0x30 [2, 0, 0, 0, 0, 0, 0, 0], hosted, by decide +kernel⟩,
   ⟨hostMsg 0x30 [3, 0, 0, 2, 0x40, 0x00, 0x00, 0x00], hosted, by decide +kernel⟩,
   ⟨hostMsg 0x30 [3, 0, 0, 1, 0x40, 0x3F, 0xFF, 0xFC], hosted, by decide +kernel⟩,
   ⟨hostMsg 0x30 [4, 0, 0x2F, 0xFF, 0, 0, 0, 0], hosted, by decide +kernel⟩,
   ⟨hostMsg 0x30 [5, 0, 0x0F, 0xFF, 0, 0, 0, 0], hosted, by decide +kernel⟩,
   ⟨hostMsg 0x30 [6, 0, 0, 63, 0, 0, 0, 0], hosted, by decide +kernel⟩,
   ⟨hostMsg 0x30 [7, 0, 0, 0, 0, 0, 0, 0], hosted, by decide +kernel⟩,
   ⟨hostMsg 0x31 (beBytes 4 (1024 + 5) ++ [0, 0, 0, 1]), 5, recorded, by decide +kernel⟩,
   ⟨hostMsg 0x55 [], hosted, by decide +kernel⟩⟩

/-- The hypotheses of ChangesByAHost can be met, clause by clause. -/
theorem wit_ChangesByAHost :
    (∃ (d : Dgram) (k : Nat) (a : Nat) (s : State), s.takes d 0x10 k = true ∧ beAt d.payload 17 1 < 8 ∧ (beAt d.payload 18 1).testBit 0 = true ∧ 1 ≤ beAt d.payload 16 1 ∧ beAt d.payload 16 1 ≤ 5 ∧ posOk (beAt d.payload 16 1) (beAt d.payload 19 1) (beAt d.payload 20 2) = true ∧ 32 ≤ beAt d.payload 24 4 ∧ beAt d.payload 24 4 ≤ 262144 ∧ beAt d.payload 28 4 % 32 = 0 ∧ d.payload.length % 32 = 16 ∧ 48 < d.payload.length ∧ beAt d.payload 28 4 + (d.payload.length - 48) ≤ beAt d.payload 24 4 ∧ (setStage (msgOf d.payload).sidx (beAt d.payload 17 1) none (s.taken d k)).poolFit (beAt d.payload 24 4) = some a) ∧
    (∃ (d : Dgram) (k : Nat) (g : Stage) (x : TideTab) (s : State), s.takes d 0x11 k = true ∧ beAt d.payload 16 1 < 8 ∧ (s.sess (msgOf d.payload).sidx).stage (beAt d.payload 16 1) = some g ∧ g.received = g.total ∧ g.obj = 3 ∧ tideOf s (s.memBytes g.base g.total) = some x ∧ s.tide.pstart = none ∧ s.commitWaits = false ∧ s.pen.commits = []) ∧
    (∃ (d : Dgram) (k : Nat) (s : State), s.takes d 0x12 k = true ∧ beAt d.payload 16 1 < 8) ∧
    (∃ (d : Dgram) (k : Nat) (r : Nat) (f : Nat) (s : State), s.takes d 0x20 k = true ∧ f = (if (beAt d.payload 18 1).testBit 0 = true then add32 s.frame 3 else beAt d.payload 20 4) ∧ inArmWindow s f = true ∧ (applyRequest (msgOf d.payload).sidx (beAt d.payload 16 2 % 4096) f (s.taken d k)).1 = .ok r) ∧
    (∃ (d : Dgram) (k : Nat) (r : Nat) (s : State), s.takes d 0x21 k = true ∧ (s.execRec (beAt d.payload 16 4)).toOption = some r ∧ (s.xrec r).source = s.queueOf (msgOf d.payload).sidx ∧ (s.xrec r).source < 64 ∧ (s.xrec r).admitted = false ∧ (s.xrec r).isOpen = true) ∧
    (∃ (d : Dgram) (k : Nat) (s : State), s.takes d 0x22 k = true ∧ beAt d.payload 16 1 = 1 ∧ s.tide.pstart = none ∧ (tideArm (s.taken d k)).tide.pstart.isSome = true) ∧
    (∃ (d : Dgram) (k : Nat) (p : Nat) (s : State), s.takes d 0x22 k = true ∧ beAt d.payload 16 1 = 2 ∧ s.tide.pstart = some p ∧ later (sub32 p 3) s.frame = true) ∧
    (∃ (d : Dgram) (k : Nat) (s : State), s.takes d 0x22 k = true ∧ beAt d.payload 16 1 = 3 ∧ s.tide.pstart = none) ∧
    (∃ (d : Dgram) (k : Nat) (s : State), s.takes d 0x32 k = true ∧ beAt d.payload 16 1 = 1 ∧ 1 ≤ beAt d.payload 18 2 ∧ beAt d.payload 18 2 ≤ 64 ∧ ownerLegal (beAt d.payload 17 1) = true ∧ hostMine s d (beAt d.payload 17 1) = true ∧ hostMay s d = true) ∧
    (∃ (d : Dgram) (k : Nat) (s : State), s.takes d 0x32 k = true ∧ beAt d.payload 16 1 = 2 ∧ 1 ≤ beAt d.payload 18 2 ∧ beAt d.payload 18 2 ≤ 64 ∧ hostMay s d = true) ∧
    (∃ (d : Dgram) (k : Nat) (s : State), s.takes d 0x32 k = true ∧ beAt d.payload 16 1 = 3 ∧ 1 ≤ beAt d.payload 18 2 ∧ beAt d.payload 18 2 ≤ 64 ∧ hostMay s d = true) ∧
    (∃ (d : Dgram) (k : Nat) (s : State), s.takes d 0x32 k = true ∧ beAt d.payload 16 1 = 4 ∧ 1 ≤ beAt d.payload 18 2 ∧ beAt d.payload 18 2 ≤ 64 ∧ ((hostSlots d).all fun x => decide (x < 4096)) = true) ∧
    (∃ (d : Dgram) (k : Nat) (s : State), s.takes d 0x40 k = true) ∧
    (∃ (d : Dgram) (k : Nat) (s : State), s.asks d 0x12 k = true ∧ s.mirUp = true ∧ beAt d.payload 16 1 < 8) ∧
    (∃ (d : Dgram) (k : Nat) (s : State), s.asks d 0x40 k = true ∧ s.mirUp = true) ∧
    (∃ (d : Dgram) (k : Nat) (g : Stage) (x : TideTab) (o : Install) (s : State), s.asks d 0x11 k = true ∧ s.mirUp = true ∧ beAt d.payload 16 1 < 8 ∧ (s.sess (msgOf d.payload).sidx).stage (beAt d.payload 16 1) = some g ∧ g.received = g.total ∧ g.obj = 3 ∧ tideOf s (s.memBytes g.base g.total) = some x ∧ s.tide.pstart = none ∧ s.commitWaits = false ∧ s.pen.commits = [] ∧ o = ⟨add32 s.frame (s.objFrames ⟨0, .tide s.tide.shadow x, s.memBytes g.base g.total⟩), .tide s.tide.shadow x, s.memBytes g.base g.total⟩) ∧
    (∃ (s : State) (a : Nat) (e : Nat) (l : List (Nat × MMsg)) (p : Flight), s.mir.inbox = (0, .ack a e) :: l ∧ s.pen.flight = [p] ∧ s.flagi F.NET_STAT_LINK (s.sess p.sidx).peer.net = true) ∧
    (∃ (s : State) (a : Nat) (e : Nat) (l : List (Nat × MMsg)) (p : Flight), s.mir.inbox = (0, .ack a e) :: l ∧ s.pen.flight = [p] ∧ s.flagi F.NET_STAT_LINK (s.sess p.sidx).peer.net = true) :=
  ⟨⟨hostMsg 0x10 (loadBody 64 ++ List.replicate 32 7), 0, 0x104000, pooled, by decide +kernel⟩,
   ⟨hostMsg 0x11 [0, 0, 0, 0], 0, tideStage, tideRaw tideBytes, staged, by decide +kernel⟩,
   ⟨hostMsg 0x12 [7, 0, 0, 0], 0, hosted, by decide +kernel⟩,
   ⟨hostMsg 0x20 [0, 5, 1, 0, 0, 0, 0, 0], 0, 0, 3, applying, by decide +kernel⟩,
   ⟨hostMsg 0x21 (beBytes 4 (1024 + 5)), 0, 5, recorded, by decide +kernel⟩,
   ⟨hostMsg 0x22 [1, 0, 0, 0], 0, armed, by decide +kernel⟩,
   ⟨hostMsg 0x22 [2, 0, 0, 0], 0, 9, hosted.modTide fun x => { x with pstart := some 9 }, by decide +kernel⟩,
   ⟨hostMsg 0x22 [3, 0, 0, 0], 0, hosted.modTide fun x => { x with run := true }, by decide +kernel⟩,
   ⟨hostMsg 0x32 [1, 255, 0, 1, 0, 0, 0, 0, 0, 5], 0, hosted.modSlot 5 fun x => { x with owner := 255 }, by decide +kernel⟩,
   ⟨hostMsg 0x32 [2, 0, 0, 1, 0, 0, 0, 0, 0, 5], 0, hosted.modSlot 5 fun x => { x with owner := 255 }, by decide +kernel⟩,
   ⟨hostMsg 0x32 [3, 0, 0, 1, 0, 0, 0, 0, 0x2F, 0xFF], 0, hosted.modSlot 12287 fun x => { x with owner := 255 }, by decide +kernel⟩,
   ⟨hostMsg 0x32 [4, 0, 0, 1, 0, 0, 0, 0, 0x0F, 0xFF], 0, hosted, by decide +kernel⟩,
   ⟨hostMsg 0x40 [0xFF, 0xFF, 0xFF, 0xFF], 0, hosted, by decide +kernel⟩,
   ⟨hostMsg 0x12 [7, 0, 0, 0], 0, hosted.fs F.MIR_STAT_UP 1, by decide +kernel⟩,
   ⟨hostMsg 0x40 [0xFF, 0xFF, 0xFF, 0xFF], 0, hosted.fs F.MIR_STAT_UP 1, by decide +kernel⟩,
   ⟨hostMsg 0x11 [0, 0, 0, 0], 0, tideStage, tideRaw tideBytes, ⟨2, .tide 0 (tideRaw tideBytes), tideBytes⟩, (staged.fs F.MIR_STAT_UP 1).modMir fun x => { x with lanes := [{ MLane.init with st := 2 }, MLane.init] }, by decide +kernel⟩,
   ⟨{ (hosted.modSess 0 fun x => { x with cache := [(3, { CEntry.init with st := .busy, reply := [1, 2] })] }).modPen (fun p => { p with flight := [⟨0, 1, 3, 2⟩] }) with mir := { MirSt.init with ackedOut := ⟨3, [⟨0x20, .acked, 1, none⟩, ⟨0x20, .acked, 2, none⟩], 2, 2, 5⟩, inbox := [(0, .ack 3 0)] } }, 3, 0, [], ⟨0, 1, 3, 2⟩, by decide +kernel⟩,
   ⟨{ (hosted.modSess 0 fun x => { x with cache := [(3, { CEntry.init with st := .busy, reply := [1, 2] })] }).modPen (fun p => { p with flight := [⟨0, 1, 3, 2⟩] }) with mir := { MirSt.init with ackedOut := ⟨3, [⟨0x20, .acked, 1, none⟩, ⟨0x20, .acked, 2, none⟩], 2, 2, 5⟩, inbox := [(0, .ack 2 0)] } }, 2, 0, [], ⟨0, 1, 3, 2⟩, by decide +kernel⟩⟩

/-- The hypotheses of AdjustingATimeBase can be met, clause by clause. -/
theorem wit_AdjustingATimeBase :
    (∃ (n : Fin 4) (s : State), ((n.val = 1 ∨ n.val = 2)) ∧ s.time.t.length = 4) ∧
    (∃ (n : Fin 4) (s : State), ((n.val = 1 ∨ n.val = 2)) ∧ s.time.t.length = 4) ∧
    (∃ (n : Fin 4), ((n.val = 0 ∨ n.val = 3))) ∧
    (∃ (n : Fin 4), ((n.val = 0 ∨ n.val = 3))) :=
  ⟨⟨1, solo, by decide +kernel⟩,
   ⟨2, (solo.fsi F.TIM_TBnADJMID_ADJ 2 0x80000000).fsi F.TIM_TBnADJLO_ADJ 2 1, by decide +kernel⟩,
   ⟨0, by decide +kernel⟩,
   ⟨3, by decide +kernel⟩⟩

/-- The hypotheses of TimeBasesAndCaptures can be met, clause by clause. -/
theorem wit_TimeBasesAndCaptures :
    (∃ (n : Fin 4), ((n.val = 1 ∨ n.val = 2))) ∧
    (∃ (n : Fin 4), ((n.val = 1 ∨ n.val = 2))) ∧
    (∃ (n : Fin 4), ((n.val = 1 ∨ n.val = 2))) ∧
    (∃ (c : Fin 3) (s : State), s.fg F.TIM_T3CFG_MODE = 1 ∧ s.flag F.TIM_T3STAT_STEPPED = false ∧ s.time.step = .none ∧ s.time.sel = 0 ∧ 1 ≤ c.val ∧ s.fg F.TIM_T3CFG_PRI = c.val ∧ s.flagi F.TIM_TBnCTRL_VALID c.val = true) ∧
    (∃ (c : Fin 3) (s : State), s.fg F.TIM_T3CFG_MODE = 1 ∧ s.flag F.TIM_T3STAT_STEPPED = false ∧ s.time.step = .none ∧ s.time.sel = 0 ∧ 1 ≤ c.val ∧ s.fg F.TIM_T3CFG_PRI = c.val ∧ s.flagi F.TIM_TBnCTRL_VALID c.val = true) ∧
    (∃ (s : State), s.time.step = .running) ∧
    (∃ (s : State), s.flag F.TIM_PPSCFG_INEN = true) ∧
    (∃ (cycle : Nat) (s : State), s.up = true ∧ s.ppsDue cycle = true ∧ ((s.ppsDue 0 = true ∨ cycle = s.ppsFirst))) ∧
    (∃ (cycle : Nat) (s : State), s.ppsOver cycle = true ∧ ((cycle = 0 ∨ s.ppsOver (cycle - 1) = false))) ∧
    (∃ (n : Fin 4) (falling : Bool) (s : State), ((s.fgi F.EVT_CFGn_MODE n.val = 3 ∨ s.fgi F.EVT_CFGn_MODE n.val = (if falling = true then 2 else 1)))) ∧
    (∃ (n : Fin 4) (falling : Bool) (s : State), ((s.fgi F.EVT_CFGn_MODE n.val = 3 ∨ s.fgi F.EVT_CFGn_MODE n.val = (if falling = true then 2 else 1)))) ∧
    (∃ (cycle : Nat) (s : State), s.tbAt 3 cycle / 2 ^ 64 ≠ s.time.nsWrap) :=
  ⟨⟨1, by decide +kernel⟩,
   ⟨2, by decide +kernel⟩,
   ⟨1, by decide +kernel⟩,
   ⟨1, ((solo.fs F.TIM_T3CFG_MODE 1).fs F.TIM_T3CFG_PRI 1).fsi F.TIM_TBnCTRL_VALID 1 1, by decide +kernel⟩,
   ⟨2, ((solo.fs F.TIM_T3CFG_MODE 1).fs F.TIM_T3CFG_PRI 2).fsi F.TIM_TBnCTRL_VALID 2 1, by decide +kernel⟩,
   ⟨{ solo with frame := 0xFFFFFFFF, time := { solo.time with step := .running } }, by decide +kernel⟩,
   ⟨(solo.fs F.TIM_PPSCFG_INEN 1).fs F.TIM_PPSSTAT_NEW 1, by decide +kernel⟩,
   ⟨0, (solo.fs F.TIM_PPSCFG_OUTEN 1).fs F.TIM_PPSCFG_ARMED 1, by decide +kernel⟩,
   ⟨0, { solo with time := { solo.time with ppsOut := true, ppsEnd := 0 } }, by decide +kernel⟩,
   ⟨3, true, solo.fsi F.EVT_CFGn_MODE 3 2, by decide +kernel⟩,
   ⟨0, false, { solo.fsi F.EVT_CFGn_MODE 0 3 with time := { solo.time with evt := [List.replicate 4 ⟨0, 0, false, 0⟩, [], [], []] } }, by decide +kernel⟩,
   ⟨500, { solo with time := { solo.time with nsWrap := 1 } }, by decide +kernel⟩⟩

/-- The hypotheses of TheBeacon can be met, clause by clause. -/
theorem wit_TheBeacon :
    (∃ (s : State), ((s.fg F.TIM_BCNCFG_ROLE = 2 ∨ s.fg F.TIM_BCNCFG_ROLE = 3)) ∧ s.time.bcn.aligned = true ∧ s.time.bcn.nbits < 63) ∧
    (∃ (s : State), ((s.fg F.TIM_BCNCFG_ROLE = 2 ∨ s.fg F.TIM_BCNCFG_ROLE = 3)) ∧ s.time.bcn.aligned = true ∧ s.time.bcn.nbits < 63) ∧
    (∃ (s : State), s.fg F.TIM_BCNCFG_ROLE = 1 ∧ s.time.bcn.aligned = true ∧ s.time.bcn.nbits < 63 ∧ s.time.bcn.rttCount < 255) ∧
    (∃ (s : State), s.fg F.TIM_BCNCFG_ROLE = 1 ∧ s.time.bcn.aligned = true ∧ s.time.bcn.nbits < 63 ∧ s.time.bcn.rttCount < 255) ∧
    (∃ (s : State), ((s.fg F.TIM_BCNCFG_ROLE = 2 ∨ s.fg F.TIM_BCNCFG_ROLE = 3)) ∧ 4 ≤ s.time.bcn.missed) ∧
    (∃ (s : State), s.beaconMay = true ∧ s.fg F.TIM_BCNCFG_ROLE = 0 ∧ s.flag F.TIM_BCNCFG_ECHO = true) ∧
    (∃ (s : State), s.beaconMay = false) :=
  ⟨⟨((solo.fs F.TIM_BCNCFG_ROLE 2).fs F.TIM_BCNSTAT_ACQ 1).modBcn fun b => { b with aligned := true, nbits := 62 }, by decide +kernel⟩,
   ⟨(solo.fs F.TIM_BCNCFG_ROLE 3).modBcn fun b => { b with aligned := true, missed := 3 }, by decide +kernel⟩,
   ⟨(solo.fs F.TIM_BCNCFG_ROLE 1).modBcn fun b => { b with aligned := true, edgeFrame := 0xFFFFFFFF }, by decide +kernel⟩,
   ⟨(solo.fs F.TIM_BCNCFG_ROLE 1).modBcn fun b => { b with aligned := true, edgeFrame := 0xFFFFFFFF }, by decide +kernel⟩,
   ⟨(solo.fs F.TIM_BCNCFG_ROLE 2).modBcn fun b => { b with missed := 4 }, by decide +kernel⟩,
   ⟨solo.fs F.TIM_BCNCFG_ECHO 1, by decide +kernel⟩,
   ⟨(at_ .safe).fs F.TIM_BCNCFG_ECHO 1, by decide +kernel⟩⟩

/-- The hypotheses of HeartbeatsAndHandover can be met, clause by clause. -/
theorem wit_HeartbeatsAndHandover :
    (∃ (s : State), s.mir.judged = false ∧ s.mir.seen = true ∧ s.mir.hbtEdge = false ∧ s.mir.mirSeen = false ∧ Nat.min 5 (Nat.max 2 (s.fg F.ROL_CFG_MISSLIM)) ≤ s.mir.bothRun + 1) ∧
    (∃ (s : State), s.mir.judged = false ∧ s.mir.seen = true ∧ s.mir.hbtEdge = false ∧ s.mir.mirSeen = false ∧ Nat.min 5 (Nat.max 2 (s.fg F.ROL_CFG_MISSLIM)) ≤ s.mir.bothRun + 1) ∧
    (∃ (s : State), s.dev = .standby ∧ s.mir.failed = true ∧ s.mir.actEdges % 4 = 0) ∧
    (∃ (s : State), s.dev = .standby ∧ s.mir.failed = true ∧ s.mir.actEdges % 4 ≠ 0) ∧
    (∃ (s : State), s.holds = true ∧ s.mir.yieldDue = true) ∧
    (∃ (s : State) (p : SwapPlan), s.mir.swap = some p ∧ later (sub32 p.w 8) s.frame = true) ∧
    (∃ (s : State) (p : SwapPlan), s.mir.swap = some p ∧ s.holds = true ∧ s.coming = sub32 p.w 8 ∧ (s.mir.header.all fun x => !x.swpend) = true) ∧
    (∃ (s : State) (p : SwapPlan), s.mir.swap = some p ∧ s.coming = p.w) ∧
    (∃ (s : State) (p : SwapPlan), s.mir.swap = some p ∧ s.coming = p.w) :=
  ⟨⟨{ at_ .active with mir := { MirSt.init with seen := true, bothRun := 4 } }, by decide +kernel⟩,
   ⟨{ at_ .standby with mir := { MirSt.init with seen := true, bothRun := 4 } }, by decide +kernel⟩,
   ⟨{ at_ .standby with mir := { MirSt.init with failed := true } }, by decide +kernel⟩,
   ⟨{ at_ .standby with mir := { MirSt.init with failed := true, actEdges := 2 } }, by decide +kernel⟩,
   ⟨{ solo with mir := { MirSt.init with yieldDue := true } }, by decide +kernel⟩,
   ⟨{ at_ .active with mir := { MirSt.init with swap := some ⟨9⟩ } }, ⟨9⟩, by decide +kernel⟩,
   ⟨{ at_ .active with mir := { MirSt.init with swap := some ⟨9⟩ } }, ⟨9⟩, by decide +kernel⟩,
   ⟨{ at_ .active with mir := { MirSt.init with swap := some ⟨1⟩ } }, ⟨1⟩, by decide +kernel⟩,
   ⟨{ at_ .standby with mir := { MirSt.init with swap := some ⟨1⟩ } }, ⟨1⟩, by decide +kernel⟩⟩

/-- The hypotheses of MirrorMessages can be met, clause by clause. -/
theorem wit_MirrorMessages :
    (∃ (s : State) (k : Nat) (r : Nat) (u : Nat) (no : Nat) (src : Nat) (rf : Nat) (police : Bool) (m : Manifest) (l : List (Nat × MMsg)), s.mir.inbox = (k, .req r u no src rf police) :: l ∧ s.man no = some m ∧ src < 64) ∧
    (∃ (s : State) (k : Nat) (r : Nat) (alt : Nat) (no : Nat) (st : Nat) (band : Nat) (m : Manifest) (l : List (Nat × MMsg)), s.mir.inbox = (k, .admitted r alt no st band) :: l ∧ s.man no = some m) ∧
    (∃ (s : State) (k : Nat) (r : Nat) (st : Nat) (l : List (Nat × MMsg)), s.mir.inbox = (k, .defer r st) :: l) ∧
    (∃ (s : State) (k : Nat) (r : Nat) (cause : Nat) (fin : Nat) (l : List (Nat × MMsg)), s.mir.inbox = (k, .voidev r cause fin) :: l) ∧
    (∃ (s : State) (k : Nat) (f : Nat) (bs : List Nat) (l : List (Nat × MMsg)), s.mir.inbox = (k, .late f bs) :: l) ∧
    (∃ (s : State) (k : Nat) (v : Nat) (u : Tally) (l : List (Nat × MMsg)), s.mir.inbox = (k, .tally [(u.b, u.f, v)]) :: l ∧ s.mir.theirs = [] ∧ s.mir.own = [u] ∧ u.sv = none) ∧
    (∃ (s : State) (k : Nat) (v : Nat) (u : Tally) (l : List (Nat × MMsg)), s.mir.inbox = (k, .tally [(u.b, u.f, v)]) :: l ∧ s.mir.theirs = [] ∧ s.mir.own = [u] ∧ u.sv = none) ∧
    (∃ (s : State) (k : Nat) (f : Nat) (n : Nat) (o : Nat) (next : Option Nat) (l : List (Nat × MMsg)), s.mir.inbox = (k, .config f (.owner n o next)) :: l) ∧
    (∃ (s : State) (k : Nat) (f : Nat) (a : Nat) (v : Nat) (l : List (Nat × MMsg)), s.mir.inbox = (k, .config f (.reg a v)) :: l) ∧
    (∃ (s : State) (k : Nat) (f : Nat) (n : Nat) (c : Circuit) (l : List (Nat × MMsg)), s.mir.inbox = (k, .config f (.circuit n c)) :: l) ∧
    (∃ (s : State) (k : Nat) (w : Option Nat) (l : List (Nat × MMsg)), s.mir.inbox = (k, .swap w) :: l) ∧
    (∃ (s : State) (k : Nat) (i : Nat) (e : Nat) (x : Install) (y : CEntry) (o : ObjWait) (n : Nat) (tab : TideTab) (l : List (Nat × MMsg)), s.mir.inbox = (k, .object x i e y) :: l ∧ s.mir.objs = [o] ∧ o.x.obj = .tide n tab ∧ o.sidx < 256) ∧
    (∃ (s : State) (k : Nat) (i : Nat) (x : Sess) (l : List (Nat × MMsg)), s.mir.inbox = (k, .session i x) :: l) ∧
    (∃ (s : State) (k : Nat) (i : Nat) (e : Nat) (y : CEntry) (l : List (Nat × MMsg)), s.mir.inbox = (k, .cache i e y) :: l ∧ i < 256) ∧
    (∃ (s : State) (k : Nat) (b : Nat) (codes : List Int) (l : List (Nat × MMsg)), s.mir.inbox = (k, .holdcode b codes) :: l) ∧
    (∃ (s : State) (k : Nat) (b : Nat) (e : Nat) (f : Nat) (c : BunCopy) (x : Epoch) (l : List (Nat × MMsg)), s.mir.inbox = (k, .brec b e f c) :: l ∧ s.mir.epoch = some x ∧ x.no = e ∧ b ∈ x.bundles) ∧
    (∃ (s : State) (k : Nat) (b : Nat) (e : Nat) (f : Nat) (c : BunCopy) (x : Epoch) (l : List (Nat × MMsg)), s.mir.inbox = (k, .brec b e f c) :: l ∧ s.mir.epoch = some x ∧ x.no = e ∧ b ∈ x.bundles) ∧
    (∃ (s : State) (k : Nat) (e : Nat) (n : Nat) (b : SBlk) (x : Epoch) (l : List (Nat × MMsg)), s.mir.inbox = (k, .sblk e n b) :: l ∧ s.mir.epoch = some x ∧ x.no = e ∧ x.join = true ∧ sub32 s.frame n ≤ 64) ∧
    (∃ (s : State) (k : Nat) (e : Nat) (n : Nat) (b : SBlk) (x : Epoch) (l : List (Nat × MMsg)), s.mir.inbox = (k, .sblk e n b) :: l ∧ s.mir.epoch = some x ∧ x.no = e ∧ x.join = true ∧ 64 < sub32 s.frame n) ∧
    (∃ (s : State) (k : Nat) (e : Nat) (bs : List Nat) (join : Bool) (l : List (Nat × MMsg)), s.mir.inbox = (k, .epStart e bs join) :: l ∧ s.dev = .standby) ∧
    (∃ (s : State) (k : Nat) (e : Nat) (n : Nat) (crc : Nat) (x : Epoch) (l : List (Nat × MMsg)), s.mir.inbox = (k, .epEnd e n crc) :: l ∧ s.mir.epoch = some x ∧ x.no = e) ∧
    (∃ (s : State) (k : Nat) (a : Nat) (e : Nat) (l : List (Nat × MMsg)), s.mir.inbox = (k, .ack a e) :: l) ∧
    (∃ (s : State) (k : Nat) (devid : Nat) (digest : List Byte) (l : List (Nat × MMsg)), s.mir.inbox = (k, .hello digest devid) :: l) ∧
    (∃ (s : State) (k : Nat) (devid : Nat) (digest : List Byte) (l : List (Nat × MMsg)), s.mir.inbox = (k, .hello digest devid) :: l) :=
  ⟨⟨{ applying with mir := { MirSt.init with inbox := [(0, .req 3 7 5 0 9 true)] } }, 0, 3, 7, 5, 0, 9, true, ⟨5, .normal, false, 0, 0, [], [], [], 0⟩, [], by decide +kernel⟩,
   ⟨{ applying with mir := { MirSt.init with inbox := [(0, .admitted 3 0 5 9 1)] } }, 0, 3, 0, 5, 9, 1, ⟨5, .normal, false, 0, 0, [], [], [], 0⟩, [], by decide +kernel⟩,
   ⟨{ solo with mir := { MirSt.init with inbox := [(0, .defer 3 9)] } }, 0, 3, 9, [], by decide +kernel⟩,
   ⟨{ recorded with mir := { MirSt.init with inbox := [(0, .voidev 5 2 9)] } }, 0, 5, 2, 9, [], by decide +kernel⟩,
   ⟨{ solo with mir := { MirSt.init with inbox := [(0, .late 5 [1])] } }, 0, 5, [1], [], by decide +kernel⟩,
   ⟨{ at_ .standby with mir := { MirSt.init with own := [⟨7, 9, 5, none⟩], inbox := [(0, .tally [(7, 9, 5)])] } }, 0, 5, ⟨7, 9, 5, none⟩, [], by decide +kernel⟩,
   ⟨{ at_ .standby with mir := { MirSt.init with own := [⟨7, 9, 5, none⟩], inbox := [(0, .tally [(7, 9, 6)])] } }, 0, 6, ⟨7, 9, 5, none⟩, [], by decide +kernel⟩,
   ⟨{ solo with mir := { MirSt.init with inbox := [(0, .config 5 (.owner 12287 3 none))] } }, 0, 5, 12287, 3, none, [], by decide +kernel⟩,
   ⟨{ solo with mir := { MirSt.init with inbox := [(0, .config 5 (.reg 77 3))] } }, 0, 5, 77, 3, [], by decide +kernel⟩,
   ⟨{ solo with mir := { MirSt.init with inbox := [(0, .config 5 (.circuit 4095 ⟨1, 3⟩))] } }, 0, 5, 4095, ⟨1, 3⟩, [], by decide +kernel⟩,
   ⟨{ solo with mir := { MirSt.init with inbox := [(0, .swap (some 9))] } }, 0, some 9, [], by decide +kernel⟩,
   ⟨{ solo with frame := 5, mir := { MirSt.init with objs := [⟨0, ⟨5, .tide 0 (tideRaw tideBytes), []⟩, 3, 1, { CEntry.init with st := .complete }⟩], inbox := [(0, .object ⟨5, .tide 0 (tideRaw tideBytes), []⟩ 3 1 { CEntry.init with st := .complete })] } }, 0, 3, 1, ⟨5, .tide 0 (tideRaw tideBytes), []⟩, { CEntry.init with st := .complete }, ⟨0, ⟨5, .tide 0 (tideRaw tideBytes), []⟩, 3, 1, { CEntry.init with st := .complete }⟩, 0, tideRaw tideBytes, [], by decide +kernel⟩,
   ⟨{ solo with mir := { MirSt.init with inbox := [(0, .session 255 Sess.init)] } }, 0, 255, Sess.init, [], by decide +kernel⟩,
   ⟨{ solo with mir := { MirSt.init with inbox := [(0, .cache 255 31 CEntry.init)] } }, 0, 255, 31, CEntry.init, [], by decide +kernel⟩,
   ⟨{ solo with mir := { MirSt.init with inbox := [(0, .holdcode 5 [1, -1])] } }, 0, 5, [1, -1], [], by decide +kernel⟩,
   ⟨{ solo with frame := 9, mir := { MirSt.init with epoch := some ⟨3, false, 0, [7], [], [], [], [], none⟩, inbox := [(0, .brec 7 3 9 ⟨[], []⟩)] } }, 0, 7, 3, 9, ⟨[], []⟩, ⟨3, false, 0, [7], [], [], [], [], none⟩, [], by decide +kernel⟩,
   ⟨{ solo with frame := 99, mir := { MirSt.init with epoch := some ⟨3, false, 0, [7], [], [], [], [], none⟩, inbox := [(0, .brec 7 3 9 ⟨[], []⟩)] } }, 0, 7, 3, 9, ⟨[], []⟩, ⟨3, false, 0, [7], [], [], [], [], none⟩, [], by decide +kernel⟩,
   ⟨{ solo with frame := 64, mir := { MirSt.init with epoch := some ⟨3, true, 0, [7], [], [], [], [], none⟩, inbox := [(0, .sblk 3 0 (.regs []))] } }, 0, 3, 0, .regs [], ⟨3, true, 0, [7], [], [], [], [], none⟩, [], by decide +kernel⟩,
   ⟨{ solo with frame := 65, mir := { MirSt.init with epoch := some ⟨3, true, 0, [7], [], [(0, .regs [])], [], [], none⟩, inbox := [(0, .sblk 3 0 (.regs []))] } }, 0, 3, 0, .regs [], ⟨3, true, 0, [7], [], [(0, .regs [])], [], [], none⟩, [], by decide +kernel⟩,
   ⟨{ at_ .standby with mir := { MirSt.init with inbox := [(0, .epStart 65535 [7] true)] } }, 0, 65535, [7], true, [], by decide +kernel⟩,
   ⟨{ solo with mir := { MirSt.init with epoch := some ⟨3, false, 0, [7], [], [], [], [], none⟩, inbox := [(0, .epEnd 3 1 9)] } }, 0, 3, 1, 9, ⟨3, false, 0, [7], [], [], [], [], none⟩, [], by decide +kernel⟩,
   ⟨{ solo with mir := { MirSt.init with ackedOut := ⟨3, [⟨0x20, .acked, 1, none⟩, ⟨0x20, .acked, 2, none⟩], 2, 2, 5⟩, inbox := [(0, .ack 2 0)] } }, 0, 2, 0, [], by decide +kernel⟩,
   ⟨{ solo with mir := { MirSt.init with inbox := [(1, .hello [1] 9)] } }, 1, 9, [1], [], by decide +kernel⟩,
   ⟨{ solo with mir := { MirSt.init with inbox := [(1, .hello [1] 0)] } }, 1, 0, [1], [], by decide +kernel⟩⟩

/-- The hypotheses of MirrorLinkAndEpochs can be met, clause by clause. -/
theorem wit_MirrorLinkAndEpochs :
    (∃ (lane : Fin 2) (f : MFrame) (s : State), (s.mlane lane.val).st = 2 ∧ f.syncOk = true ∧ f.hcrcOk = true ∧ f.ftype = 2 ∧ f.crcOk = true ∧ f.cells = []) ∧
    (∃ (lane : Fin 2) (f : MFrame) (s : State), (s.mlane lane.val).st = 2 ∧ f.syncOk = true ∧ f.crcOk = false) ∧
    (∃ (lane : Fin 2) (f : MFrame) (c : MCell) (m : MMsg) (s : State), (s.mlane lane.val).st = 2 ∧ f.crcOk = true ∧ f.ftype = 2 ∧ f.fnum = s.frame % 2 ^ 24 ∧ f.cells = [c] ∧ c.cls = .stream ∧ s.dev = .standby ∧ c.msg = some m ∧ s.mir.streamIn = some c.cseq) ∧
    (∃ (lane : Fin 2) (s : State), (s.mlane lane.val).loop = false ∧ (s.mlane lane.val).st = 1 ∧ (s.mlane lane.val).lock = true ∧ 256 ≤ (s.mlane lane.val).clean) ∧
    (∃ (lane : Fin 2) (s : State), (s.mlane lane.val).loop = false ∧ (s.mlane lane.val).st = 1 ∧ (s.mlane lane.val).lock = true ∧ 256 ≤ (s.mlane lane.val).clean) ∧
    (∃ (lane : Fin 2) (s : State), (s.mlane lane.val).st = 2 ∧ (s.mlane lane.val).lockLost = true) ∧
    (∃ (s : State), 8 ≤ s.mir.ackedOut.timer) ∧
    (∃ (s : State), s.dev = .standby ∧ s.mir.failed = false ∧ s.mir.loss = true) ∧
    (∃ (s : State), s.dev = .standby ∧ s.mir.failed = false ∧ s.mir.loss = true) ∧
    (∃ (s : State), s.dev = .standby ∧ s.mir.failed = false ∧ s.mir.loss = true) ∧
    (∃ (s : State) (u : Tally), s.dev = .standby ∧ s.mir.own = [u] ∧ notBefore (sub32 s.coming 2) u.f = true) ∧
    (∃ (s : State) (e : Epoch), s.mir.epoch = some e ∧ s.dev = .standby ∧ e.complete = true ∧ e.join = false) ∧
    (∃ (s : State) (e : Epoch), s.mir.epoch = some e ∧ 1024 * Nat.max 1 (s.fg F.MIR_CFG_EPLIM) ≤ sub32 s.coming e.opened) ∧
    (∃ (s : State), s.dev = .standby) ∧
    (∃ (s : State), s.dev = .standby) :=
  ⟨⟨1, { heardFrame with senior := true }, { solo with mir := { MirSt.init with lanes := [MLane.init, { MLane.init with st := 2 }] } }, by decide +kernel⟩,
   ⟨1, { heardFrame with crcOk := false }, { solo with mir := { MirSt.init with lanes := [MLane.init, { MLane.init with st := 2 }] } }, by decide +kernel⟩,
   ⟨0, { heardFrame with cells := [⟨0x14, .stream, 65535, some (.swap none)⟩] }, ⟨0x14, .stream, 65535, some (.swap none)⟩, .swap none, { at_ .standby with mir := { MirSt.init with streamIn := some 65535, lanes := [{ MLane.init with st := 2 }, MLane.init] } }, by decide +kernel⟩,
   ⟨0, { solo with mir := { MirSt.init with lanes := [{ MLane.init with st := 1, lock := true, clean := 256 }, MLane.init] } }, by decide +kernel⟩,
   ⟨1, { solo with mir := { MirSt.init with lanes := [MLane.init, { MLane.init with st := 1, lock := true, clean := 256 }] } }, by decide +kernel⟩,
   ⟨0, { solo with mir := { MirSt.init with lanes := [{ MLane.init with st := 2, syncBad := 4 }, MLane.init] } }, by decide +kernel⟩,
   ⟨{ solo with mir := { MirSt.init with ackedOut := ⟨3, [⟨0x20, .acked, 2, none⟩], 1, 1, 8⟩ } }, by decide +kernel⟩,
   ⟨{ at_ .standby with fab := { oneSlot with bundles := [(1, { Bundle.init with synced := true })] }, mir := { MirSt.init with loss := true } }, by decide +kernel⟩,
   ⟨{ at_ .standby with mir := { MirSt.init with loss := true, swap := some ⟨1⟩ } }, by decide +kernel⟩,
   ⟨{ at_ .standby with mir := { MirSt.init with loss := true, swap := some ⟨2⟩ } }, by decide +kernel⟩,
   ⟨{ at_ .standby with frame := 9, mir := { MirSt.init with own := [⟨7, 8, 5, none⟩] } }, ⟨7, 8, 5, none⟩, by decide +kernel⟩,
   ⟨{ at_ .standby with mir := { MirSt.init with epoch := some ⟨3, false, 0, [7], [(7, some ⟨9, ⟨[], []⟩, none, true, true⟩)], [], [], [], some (0, crc32c [])⟩ } }, ⟨3, false, 0, [7], [(7, some ⟨9, ⟨[], []⟩, none, true, true⟩)], [], [], [], some (0, crc32c [])⟩, by decide +kernel⟩,
   ⟨({ at_ .standby with frame := 1023, mir := { MirSt.init with epoch := some ⟨3, true, 0, [7], [], [], [], [], none⟩ } }.fs F.MIR_CFG_EPLIM 1), ⟨3, true, 0, [7], [], [], [], [], none⟩, by decide +kernel⟩,
   ⟨at_ .standby, by decide +kernel⟩,
   ⟨at_ .standby, by decide +kernel⟩⟩

/-- The hypotheses of ThermalSupervision can be met, clause by clause. -/
theorem wit_ThermalSupervision :
    (∃ (s : State), s.dev ≠ .off) ∧
    (∃ (s : State), s.dev ≠ .off) ∧
    (∃ (n : Fin 16) (s : State), 3 ≤ s.cal.fails.getD n.val 0 ∧ s.bit F.TMP_SFAIL_FAILED 0 n.val = false) ∧
    (∃ (s : State), s.coming % 1000 = 0 ∧ s.up = true ∧ s.tphs = []) ∧
    (∃ (x : Int) (r : List Int) (s : State), s.coming % 1000 = 0 ∧ s.up = true ∧ s.tphs = x :: r) ∧
    (∃ (a : AtFrame) (s : State), s.cal.band = some a ∧ notBefore s.coming a.frame = true) ∧
    (∃ (o : FlashOp) (r : List FlashOp) (s : State), s.flag F.TMP_STAT_WRHOLD = true ∧ s.inWindow = true ∧ s.boot.cur = none ∧ s.boot.ops = o :: r) :=
  ⟨⟨solo, by decide +kernel⟩,
   ⟨solo.modCal fun c => { c with trims := [(3, (0x7F, true)), (4, (0x80, true))] }, by decide +kernel⟩,
   ⟨15, solo.modCal fun c => { c with fails := List.replicate 16 3 }, by decide +kernel⟩,
   ⟨{ solo with frame := 999 }, by decide +kernel⟩,
   ⟨4096, [4097], (((({ solo with frame := 999 }.fsi F.QY_LNKSTAT_STATE 3 6).fsi F.QY_LNKSTAT_STATE 4 6).fsi F.QY_TTEMP_TPH 3 4096).fsi F.QY_TTEMP_TPH 4 4097).fsi F.QY_TTEMP_TPH 5 0x8000, by decide +kernel⟩,
   ⟨⟨1, 3⟩, solo.modCal fun c => { c with band := some ⟨1, 3⟩ }, by decide +kernel⟩,
   ⟨⟨2, 0, 0, 4096, false⟩, [], { solo.fs F.TMP_STAT_WRHOLD 1 with boot := { BootSt.init with ops := [⟨2, 0, 0, 4096, false⟩] } }, by decide +kernel⟩⟩

/-- The hypotheses of CalibrationUnits can be met, clause by clause. -/
theorem wit_CalibrationUnits :
    (∃ (s : State), (s.unitCfg (s.fg F.CAL_USEL_UNIT)).scale = false) ∧
    (∃ (s : State), (s.unitCfg (s.fg F.CAL_USEL_UNIT)).scale = false) ∧
    (∃ (s : State), (s.unitCfg (s.fg F.CAL_USEL_UNIT)).scale = true) ∧
    (∃ (s : State), (s.unitCfg (s.fg F.CAL_USEL_UNIT)).scale = true) ∧
    (∃ (s : State), 1 ≤ s.ust (s.fg F.CAL_USEL_UNIT) ∧ s.ust (s.fg F.CAL_USEL_UNIT) ≤ 3 ∧ (s.unit (s.fg F.CAL_USEL_UNIT)).cut = false ∧ s.cal.units.length = 4 ∧ s.fg F.CAL_USEL_UNIT < 4) ∧
    (∃ (s : State), 1 ≤ s.ust (s.fg F.CAL_USEL_UNIT) ∧ s.ust (s.fg F.CAL_USEL_UNIT) ≤ 3 ∧ (s.unit (s.fg F.CAL_USEL_UNIT)).cut = false ∧ s.cal.units.length = 4 ∧ s.fg F.CAL_USEL_UNIT < 4) ∧
    (∃ (u : Fin 4) (s : State), s.ust u.val = 2 ∧ (s.unit u.val).f0 = none ∧ (s.unit u.val).scale = false ∧ s.windowAt (s.unit u.val) = true ∧ s.cal.units.length = 4) ∧
    (∃ (u : Fin 4) (s : State), ((s.ust u.val = 1 ∨ s.ust u.val = 2)) ∧ (s.unit u.val).f0 = none ∧ Nat.max 1 (s.fg F.CAL_ACCCFG_WAITMAX) * 1024 ≤ sub32 s.coming (s.unit u.val).holdF) ∧
    (∃ (u : Fin 4) (f0 : Nat) (s : State), s.ust u.val = 2 ∧ (s.unit u.val).f0 = some f0 ∧ notBefore s.coming f0 = true) ∧
    (∃ (u : Fin 4) (f0 : Nat) (c : Change) (s : State), s.ust u.val = 3 ∧ (s.unit u.val).f0 = some f0 ∧ (s.unit u.val).scale = true ∧ (s.unit u.val).target < 4 ∧ s.coming = add32 f0 64 ∧ (s.quay (s.unit u.val).quay).rng = some c ∧ c.acked = true ∧ notBefore s.coming c.frame = true ∧ (s.unit u.val).quay < 32) ∧
    (∃ (u : Fin 4) (f0 : Nat) (s : State), ((s.ust u.val = 2 ∨ s.ust u.val = 3)) ∧ (s.unit u.val).f0 = some f0 ∧ (s.unit u.val).scale = false ∧ later s.frame (s.unit u.val).last = true ∧ (s.unit u.val).wait = []) ∧
    (∃ (u : Fin 4) (b : Nat) (s : State), s.ust u.val = 4 ∧ s.holds = true ∧ (s.unit u.val).held = [b] ∧ s.secondUpdate b (s.unit u.val).last = true ∧ (((List.range 4).all fun v => decide (v = u.val ∨ b ∉ (s.unit v).held)) = true)) :=
  ⟨⟨solo, by decide +kernel⟩,
   ⟨(({ solo with fab := oneSlot }.fs F.CAL_USEL_UNIT 3).fsi F.CAL_UCFG0_INDEX 3 8).fsi F.QY_LNKSTAT_STATE 0 6, by decide +kernel⟩,
   ⟨solo.fsi F.CAL_UCFG0_KIND 0 1, by decide +kernel⟩,
   ⟨((({ solo with fab := oneSlot }.fs F.CAL_USEL_UNIT 3).fsi F.CAL_UCFG0_KIND 3 1).fsi F.QY_LNKSTAT_STATE 0 6).fsi F.CAL_UCFG0_RANGE 3 2, by decide +kernel⟩,
   ⟨(solo.fs F.CAL_USEL_UNIT 3).fsi F.CAL_USTAT_STATE 3 1, by decide +kernel⟩,
   ⟨(solo.fsi F.CAL_USTAT_STATE 0 3).modUnit 0 fun x => { x with f0 := some 5, last := 9 }, by decide +kernel⟩,
   ⟨3, ({ solo with frame := 0xFFFFFFFE }.fsi F.CAL_USTAT_STATE 3 2).modUnit 3 fun x => { x with idle := true }, by decide +kernel⟩,
   ⟨3, ({ solo with frame := 1023 }.fsi F.CAL_USTAT_STATE 3 1).fs F.CAL_ACCCFG_WAITMAX 0, by decide +kernel⟩,
   ⟨3, 1, (solo.fsi F.CAL_USTAT_STATE 3 2).modUnit 3 fun x => { x with f0 := some 1 }, by decide +kernel⟩,
   ⟨3, 1, ⟨65, 2, true⟩, ({ solo with frame := 64 }.fsi F.CAL_USTAT_STATE 3 3).modUnit 3 (fun x => { x with f0 := some 1, scale := true, target := 2, quay := 31 }) |>.modQuay 31 fun x => { x with rng := some ⟨65, 2, true⟩ }, by decide +kernel⟩,
   ⟨3, 1, ({ solo with frame := 10 }.fsi F.CAL_USTAT_STATE 3 3).modUnit 3 fun x => { x with f0 := some 1, last := 9 }, by decide +kernel⟩,
   ⟨3, 0, ({ solo with frame := 1023 }.fsi F.CAL_USTAT_STATE 3 4).modUnit 3 fun x => { x with held := [0], f0 := some 1, last := 2 }, by decide +kernel⟩⟩

/-- The hypotheses of CandidatesAndTheJournal can be met, clause by clause. -/
theorem wit_CandidatesAndTheJournal :
    (∃ (s : State), s.holds = false) ∧
    (∃ (s : State), s.holds = true ∧ (s.cal.caps.all fun c => decide (c.id ≠ s.fg F.CAL_SUBMIT_CAPID) || c.bad) = true) ∧
    (∃ (s : State) (c : Capture), s.holds = true ∧ s.cal.caps = [c] ∧ c.id = s.fg F.CAL_SUBMIT_CAPID ∧ c.bad = false ∧ leAt (s.memBytes (s.calBase + 0x8000) 128) 0 1 ≠ 1 ∧ leAt (s.memBytes (s.calBase + 0x8000) 128) 0 1 ≠ 2) ∧
    (∃ (s : State) (c : Capture) (n : Nat) (v : SlotCal), s.holds = true ∧ s.cal.caps = [c] ∧ c.id = s.fg F.CAL_SUBMIT_CAPID ∧ c.bad = false ∧ leAt (s.memBytes (s.calBase + 0x8000) 128) 0 1 = 1 ∧ slotCalOf (s.memBytes (s.calBase + 0x8000) 128) = (n, v) ∧ n < 12288 ∧ (s.slot n).pop = true ∧ v.serial = s.fgi F.QY_TILEID_SERIAL (quayOf n) ∧ slotPlaus s n v = true ∧ s.bit F.CAL_QSTART_QUAY 0 (quayOf n) = true) ∧
    (∃ (s : State), s.flag F.CAL_STAT_STORING = true) ∧
    (∃ (s : State), s.flag F.CAL_STAT_STORING = false ∧ s.boot.cur.isSome = true) ∧
    (∃ (s : State) (x : Store), s.flag F.CAL_STAT_STORING = true ∧ s.flag F.CAL_STAT_STPEND = false ∧ s.storeOps = 0 ∧ s.cal.store = some x) ∧
    (∃ (s : State), s.flag F.CAL_STAT_STORING = true ∧ s.flag F.CAL_STAT_STPEND = false ∧ s.storeOps ≤ 1) :=
  ⟨⟨at_ .standby, by decide +kernel⟩,
   ⟨solo.modCal fun c => { c with caps := [⟨0, 1, 2, true⟩, ⟨1, 1, 2, false⟩] }, by decide +kernel⟩,
   ⟨solo.modCal (fun c => { c with caps := [⟨0, 1, 2, false⟩] }), ⟨0, 1, 2, false⟩, by decide +kernel⟩,
   ⟨(({ solo with fab := oneSlot }.modCal fun c => { c with caps := [⟨0, 1, 2, false⟩] }).memPut (solo.calBase + 0x8000) [1, 0, 8, 0]).fs F.CAL_QSTART_QUAY 1, ⟨0, 1, 2, false⟩, 8, (slotCalOf ([1, 0, 8, 0] ++ List.replicate 124 0)).2, by decide +kernel⟩,
   ⟨solo.fs F.CAL_STAT_STORING 1, by decide +kernel⟩,
   ⟨{ solo with boot := { BootSt.init with cur := some ⟨2, 0, 0, 4096, false⟩ } }, by decide +kernel⟩,
   ⟨solo.fs F.CAL_STAT_STORING 1 |>.modCal (fun c => { c with store := some ⟨[], 2, 7⟩ }), ⟨[], 2, 7⟩, by decide +kernel⟩,
   ⟨solo.fs F.CAL_STAT_STORING 1 |>.modCal fun c => { c with store := some ⟨[], 2, 7⟩ }, by decide +kernel⟩⟩

/-- The hypotheses of FlashOperations can be met, clause by clause. -/
theorem wit_FlashOperations :
    (∃ (s : State), s.fg F.XSP_OPLEN_VALUE ≠ 0 ∧ opAligned s ⟨0, s.fg F.XSP_OPADDR_VALUE, s.fg F.XSP_OPMEM_VALUE, s.fg F.XSP_OPLEN_VALUE, false⟩ = true ∧ s.boot.ops = [] ∧ s.boot.cur = none) ∧
    (∃ (s : State), s.fg F.XSP_OPLEN_VALUE = 0) ∧
    (∃ (s : State), s.fg F.XSP_OPLEN_VALUE ≠ 0 ∧ opAligned s ⟨1, s.fg F.XSP_OPADDR_VALUE, s.fg F.XSP_OPMEM_VALUE, s.fg F.XSP_OPLEN_VALUE, false⟩ = true ∧ inJournal s ⟨1, s.fg F.XSP_OPADDR_VALUE, s.fg F.XSP_OPMEM_VALUE, s.fg F.XSP_OPLEN_VALUE, false⟩ = false ∧ (s.boot.ops.countP fun o => !o.store) < 4 ∧ s.boot.cur.isSome = true) ∧
    (∃ (s : State), s.fg F.XSP_OPLEN_VALUE ≠ 0 ∧ opAligned s ⟨1, s.fg F.XSP_OPADDR_VALUE, s.fg F.XSP_OPMEM_VALUE, s.fg F.XSP_OPLEN_VALUE, false⟩ = false) ∧
    (∃ (s : State), s.fg F.XSP_OPLEN_VALUE ≠ 0 ∧ opAligned s ⟨2, s.fg F.XSP_OPADDR_VALUE, s.fg F.XSP_OPMEM_VALUE, s.fg F.XSP_OPLEN_VALUE, false⟩ = true ∧ inJournal s ⟨2, s.fg F.XSP_OPADDR_VALUE, s.fg F.XSP_OPMEM_VALUE, s.fg F.XSP_OPLEN_VALUE, false⟩ = false ∧ (s.boot.ops.countP fun o => !o.store) < 4 ∧ s.boot.cur.isSome = true) ∧
    (∃ (s : State), s.fg F.XSP_OPLEN_VALUE ≠ 0 ∧ opAligned s ⟨2, s.fg F.XSP_OPADDR_VALUE, s.fg F.XSP_OPMEM_VALUE, s.fg F.XSP_OPLEN_VALUE, false⟩ = true ∧ inJournal s ⟨2, s.fg F.XSP_OPADDR_VALUE, s.fg F.XSP_OPMEM_VALUE, s.fg F.XSP_OPLEN_VALUE, false⟩ = true) ∧
    (∃ (s : State), s.fg F.XSP_OPLEN_VALUE ≠ 0 ∧ opAligned s ⟨0, s.fg F.XSP_OPADDR_VALUE, s.fg F.XSP_OPMEM_VALUE, s.fg F.XSP_OPLEN_VALUE, false⟩ = true ∧ inJournal s ⟨0, s.fg F.XSP_OPADDR_VALUE, s.fg F.XSP_OPMEM_VALUE, s.fg F.XSP_OPLEN_VALUE, false⟩ = false ∧ 4 ≤ (s.boot.ops.countP fun o => !o.store)) ∧
    (∃ (s : State), s.fg F.XSP_OPLEN_VALUE ≠ 0 ∧ opAligned s ⟨1, s.fg F.XSP_OPADDR_VALUE, s.fg F.XSP_OPMEM_VALUE, s.fg F.XSP_OPLEN_VALUE, false⟩ = true ∧ inJournal s ⟨1, s.fg F.XSP_OPADDR_VALUE, s.fg F.XSP_OPMEM_VALUE, s.fg F.XSP_OPLEN_VALUE, false⟩ = false ∧ 4 ≤ (s.boot.ops.countP fun o => !o.store)) ∧
    (∃ (s : State), s.fg F.XSP_OPLEN_VALUE ≠ 0 ∧ opAligned s ⟨2, s.fg F.XSP_OPADDR_VALUE, s.fg F.XSP_OPMEM_VALUE, s.fg F.XSP_OPLEN_VALUE, false⟩ = true ∧ inJournal s ⟨2, s.fg F.XSP_OPADDR_VALUE, s.fg F.XSP_OPMEM_VALUE, s.fg F.XSP_OPLEN_VALUE, false⟩ = false ∧ 4 ≤ (s.boot.ops.countP fun o => !o.store)) ∧
    (∃ (o : FlashOp) (s : State), s.boot.cur = some o ∧ s.boot.ops = [] ∧ o.store = false ∧ ((o.kind < 2 → o.mem % 32 = 0 ∧ o.mem + o.len ≤ 0x1000000)) ∧ s.fab.badWords = []) ∧
    (∃ (o : FlashOp) (s : State), s.boot.cur = some o ∧ s.boot.ops = [] ∧ o.store = false ∧ ((o.kind < 2 → o.mem % 32 = 0 ∧ o.mem + o.len ≤ 0x1000000)) ∧ s.fab.badWords = []) ∧
    (∃ (o : FlashOp) (s : State), s.boot.cur = some o ∧ s.boot.ops = [] ∧ o.store = false ∧ ((o.kind < 2 → o.mem % 32 = 0 ∧ o.mem + o.len ≤ 0x1000000)) ∧ s.fab.badWords = []) ∧
    (∃ (o : FlashOp) (s : State), s.boot.cur = some o ∧ s.boot.ops = [] ∧ o.store = false ∧ o.kind = 0 ∧ o.len = 32 ∧ o.mem % 32 = 0 ∧ 0x1000000 ≤ o.mem ∧ o.mem < 0x10000000) ∧
    (∃ (o : FlashOp) (p : FlashOp) (r : List FlashOp) (s : State), s.boot.cur = some o ∧ s.boot.ops = p :: r ∧ o.store = false ∧ o.kind = 2 ∧ ((p.kind = 0 ∨ s.inWindow = true))) ∧
    (∃ (o : FlashOp) (p : FlashOp) (q : FlashOp) (s : State), s.boot.cur = some o ∧ s.boot.ops = [p, q] ∧ o.store = false ∧ o.kind = 2 ∧ p.kind ≠ 0 ∧ s.inWindow = false) ∧
    (∃ (o : FlashOp) (p : FlashOp) (q : FlashOp) (s : State), s.boot.cur = some o ∧ s.boot.ops = [p, q] ∧ o.store = false ∧ o.kind = 2 ∧ p.kind ≠ 0 ∧ s.inWindow = false) ∧
    (∃ (o : FlashOp) (s : State), s.boot.cur = some o ∧ s.boot.ops = [] ∧ o.store = false ∧ o.kind ≠ 0) :=
  ⟨⟨(powered .solo).fs F.XSP_OPLEN_VALUE 0x1000000, by decide +kernel⟩,
   ⟨powered .solo, by decide +kernel⟩,
   ⟨{ (powered .solo).fs F.XSP_OPLEN_VALUE 256 with boot := { BootSt.init with cur := some ⟨2, 0, 0, 4096, false⟩ } }, by decide +kernel⟩,
   ⟨(powered .solo).fs F.XSP_OPLEN_VALUE 255, by decide +kernel⟩,
   ⟨{ (powered .solo).fs F.XSP_OPLEN_VALUE 65536 with boot := { BootSt.init with cur := some ⟨2, 0, 0, 4096, false⟩ } }, by decide +kernel⟩,
   ⟨{ (powered .solo).fs F.XSP_OPLEN_VALUE 0x400000 with boot := { BootSt.init with journals := (0x200000, 0) } }, by decide +kernel⟩,
   ⟨{ (powered .solo).fs F.XSP_OPLEN_VALUE 32 with boot := { BootSt.init with cur := some ⟨2, 0, 0, 4096, false⟩, ops := List.replicate 4 ⟨2, 0, 0, 4096, false⟩ } }, by decide +kernel⟩,
   ⟨{ (powered .solo).fs F.XSP_OPLEN_VALUE 256 with boot := { BootSt.init with cur := some ⟨2, 0, 0, 4096, false⟩, ops := List.replicate 4 ⟨2, 0, 0, 4096, false⟩ } }, by decide +kernel⟩,
   ⟨{ (powered .solo).fs F.XSP_OPLEN_VALUE 65536 with boot := { BootSt.init with cur := some ⟨2, 0, 0, 4096, false⟩, ops := List.replicate 4 ⟨2, 0, 0, 4096, false⟩ } }, by decide +kernel⟩,
   ⟨⟨0, 4, 32, 8, false⟩, { powered .solo with boot := { BootSt.init with cur := some ⟨0, 4, 32, 8, false⟩, flash := [(5, 7)] } }, by decide +kernel⟩,
   ⟨⟨1, 0, 32, 256, false⟩, { powered .solo with boot := { BootSt.init with cur := some ⟨1, 0, 32, 256, false⟩, flash := [(5, 7)] } }.memPut 37 [3], by decide +kernel⟩,
   ⟨⟨2, 0, 32, 4096, false⟩, { powered .solo with boot := { BootSt.init with cur := some ⟨2, 0, 32, 4096, false⟩, flash := [(4095, 7), (4096, 7)] } }, by decide +kernel⟩,
   ⟨⟨0, 4, 0x1000000, 32, false⟩, { powered .solo with boot := { BootSt.init with cur := some ⟨0, 4, 0x1000000, 32, false⟩ } }, by decide +kernel⟩,
   ⟨⟨2, 0, 32, 4096, false⟩, ⟨1, 0, 32, 256, false⟩, [⟨2, 0, 0, 4096, true⟩], { powered .solo with boot := { BootSt.init with cur := some ⟨2, 0, 32, 4096, false⟩, ops := [⟨1, 0, 32, 256, false⟩, ⟨2, 0, 0, 4096, true⟩] } }, by decide +kernel⟩,
   ⟨⟨2, 0, 32, 4096, false⟩, ⟨1, 0, 32, 256, false⟩, ⟨0, 0, 0, 64, false⟩, { (powered .solo).fs F.TMP_MAX_TEMP 0x4000 with boot := { BootSt.init with cur := some ⟨2, 0, 32, 4096, false⟩, ops := [⟨1, 0, 32, 256, false⟩, ⟨0, 0, 0, 64, false⟩] } }, by decide +kernel⟩,
   ⟨⟨2, 0, 32, 4096, false⟩, ⟨1, 0, 32, 256, false⟩, ⟨2, 0, 0, 4096, false⟩, { (powered .solo).fs F.TMP_MAX_TEMP 0x4000 with boot := { BootSt.init with cur := some ⟨2, 0, 32, 4096, false⟩, ops := [⟨1, 0, 32, 256, false⟩, ⟨2, 0, 0, 4096, false⟩] } }, by decide +kernel⟩,
   ⟨⟨2, 0, 32, 4096, false⟩, { powered .solo with boot := { BootSt.init with cur := some ⟨2, 0, 32, 4096, false⟩ } }, by decide +kernel⟩⟩

/-- The hypotheses of OtpProgrammingAndRegisters can be met, clause by clause. -/
theorem wit_OtpProgrammingAndRegisters :
    (∃ (s : State), s.boot.otpOp.isSome = true ∧ s.boot.otpHeld = true) ∧
    (∃ (o : OtpOp) (s : State), s.boot.otpOp = some o ∧ s.boot.otpHeld = false) ∧
    (∃ (s : State), s.dev = .staging) ∧
    (∃ (m : Fin 11) (a : BitVec 22) (v : Word) (s : State) (u : State), u = grantAt 10 m.val 0 s ∧ s.up = true ∧ a.toNat % 4 = 0 ∧ s.port.flights = [] ∧ ((m.val < 4 → (s.sq m.val).posted = [])) ∧ ((regFind (0x40000000 + a.toNat) regDescs).any fun p =>
  (specialWrite p.1 p.2 v.toNat u).isNone && (exclBits p.1).isEmpty && (acts p.1 p.2 m.val).isEmpty) = true) ∧
    (∃ (m : Fin 11) (a : BitVec 22) (v : Word) (s : State) (u : State), u = grantAt 10 m.val 0 s ∧ s.up = true ∧ a.toNat % 4 = 0 ∧ s.port.flights = [] ∧ ((m.val < 4 → (s.sq m.val).posted = [])) ∧ ((regFind (0x40000000 + a.toNat) regDescs).any fun p =>
  (specialWrite p.1 p.2 v.toNat u).isNone && (exclBits p.1).isEmpty && (acts p.1 p.2 m.val).isEmpty) = true) ∧
    (∃ (m : Fin 11) (a : BitVec 22) (s : State), s.up = true ∧ a.toNat % 4 ≠ 0 ∧ ((m.val < 4 → (s.sq m.val).posted = []))) ∧
    (∃ (m : Fin 11) (a : BitVec 22) (s : State), s.up = true ∧ a.toNat % 4 = 0 ∧ s.port.flights = [] ∧ ((m.val < 4 → (s.sq m.val).posted = [])) ∧ 25 ≤ a.toNat / 0x10000 ∧ a.toNat / 0x10000 < 32) ∧
    (∃ (m : Fin 11) (a : BitVec 22) (s : State), s.up = true ∧ a.toNat % 4 = 0 ∧ s.port.flights = [] ∧ ((m.val < 4 → (s.sq m.val).posted = [])) ∧ 25 ≤ a.toNat / 0x10000 ∧ a.toNat / 0x10000 < 32) :=
  ⟨⟨{ powered .solo with boot := { BootSt.init with otpOp := some ⟨1, 2⟩, otpHeld := true } }, by decide +kernel⟩,
   ⟨⟨255, 0x80000001⟩, { powered .solo with boot := { BootSt.init with otpOp := some ⟨255, 0x80000001⟩, otp := [(1020, 2)] } }, by decide +kernel⟩,
   ⟨at_ .staging, by decide +kernel⟩,
   ⟨10, 0x080010, 0xFFFFFFFF, solo, solo, by decide +kernel⟩,
   ⟨4, 0x080010, 5, solo, grantAt 10 4 0 solo, by decide +kernel⟩,
   ⟨10, 3, solo, by decide +kernel⟩,
   ⟨10, 0x190000, solo, by decide +kernel⟩,
   ⟨0, 0x1FFFFC, solo, by decide +kernel⟩⟩

/-- The hypotheses of SequencerArithmetic can be met, clause by clause. -/
theorem wit_SequencerArithmetic :
    (∃ (n : Fin 4) (s : State), s.seqAt n.val 0x00 = true ∧ s.seqs.length = 4 ∧ (s.sq n.val).g.length = 16) ∧
    (∃ (n : Fin 4) (s : State), s.seqAt n.val 0x01 = true ∧ s.seqs.length = 4 ∧ (s.sq n.val).g.length = 16) ∧
    (∃ (n : Fin 4) (s : State), s.seqAt n.val 0x02 = true ∧ s.seqs.length = 4 ∧ (s.sq n.val).g.length = 16) ∧
    (∃ (n : Fin 4) (s : State), s.seqAt n.val 0x03 = true ∧ s.seqs.length = 4 ∧ (s.sq n.val).g.length = 16) ∧
    (∃ (n : Fin 4) (s : State), s.seqAt n.val 0x04 = true ∧ s.seqs.length = 4 ∧ (s.sq n.val).g.length = 16) ∧
    (∃ (n : Fin 4) (s : State), s.seqAt n.val 0x05 = true ∧ s.seqs.length = 4 ∧ (s.sq n.val).g.length = 16) ∧
    (∃ (n : Fin 4) (s : State), s.seqAt n.val 0x06 = true ∧ s.seqs.length = 4 ∧ (s.sq n.val).g.length = 16) ∧
    (∃ (n : Fin 4) (s : State), s.seqAt n.val 0x07 = true ∧ s.seqs.length = 4 ∧ (s.sq n.val).g.length = 16) ∧
    (∃ (n : Fin 4) (s : State), s.seqAt n.val 0x08 = true ∧ s.seqs.length = 4 ∧ (s.sq n.val).g.length = 16) ∧
    (∃ (n : Fin 4) (s : State), s.seqAt n.val 0x09 = true ∧ s.seqs.length = 4 ∧ (s.sq n.val).g.length = 16) ∧
    (∃ (n : Fin 4) (s : State), s.seqAt n.val 0x10 = true ∧ s.seqs.length = 4 ∧ (s.sq n.val).g.length = 16) ∧
    (∃ (n : Fin 4) (s : State), s.seqAt n.val 0x11 = true ∧ s.seqs.length = 4 ∧ (s.sq n.val).g.length = 16) ∧
    (∃ (n : Fin 4) (s : State), s.seqAt n.val 0x12 = true ∧ s.seqs.length = 4 ∧ (s.sq n.val).g.length = 16) ∧
    (∃ (n : Fin 4) (s : State), s.seqAt n.val 0x13 = true ∧ s.seqs.length = 4 ∧ (s.sq n.val).g.length = 16) ∧
    (∃ (n : Fin 4) (s : State), s.seqAt n.val 0x14 = true ∧ s.seqs.length = 4 ∧ (s.sq n.val).g.length = 16) ∧
    (∃ (n : Fin 4) (s : State), s.seqAt n.val 0x15 = true ∧ s.seqs.length = 4 ∧ (s.sq n.val).g.length = 16) :=
  ⟨⟨3, running (wordR 0) 0xFFFFFFFF 0x3, by decide +kernel⟩,
   ⟨3, running (wordR 1) 0x2 0x3, by decide +kernel⟩,
   ⟨3, running (wordR 2) 0xC 0xA, by decide +kernel⟩,
   ⟨3, running (wordR 3) 0xC 0xA, by decide +kernel⟩,
   ⟨3, running (wordR 4) 0xC 0xA, by decide +kernel⟩,
   ⟨3, running (wordR 5) 0x80000001 0x21, by decide +kernel⟩,
   ⟨3, running (wordR 6) 0x80000001 0x21, by decide +kernel⟩,
   ⟨3, running (wordR 7) 0x80000001 0x21, by decide +kernel⟩,
   ⟨3, running (wordR 8) 0xFFFFFFFF 0x80000003, by decide +kernel⟩,
   ⟨3, running (wordR 9) 0x1 0xFFFFFFFF, by decide +kernel⟩,
   ⟨3, running (wordI 0x10 0x3FFFF) 0x80000005 0, by decide +kernel⟩,
   ⟨3, running (wordI 0x11 0x3000F) 0x80000005 0, by decide +kernel⟩,
   ⟨3, running (wordI 0x12 0x30000) 0x80000005 0, by decide +kernel⟩,
   ⟨3, running (wordI 0x13 0x3FFFF) 0x80000005 0, by decide +kernel⟩,
   ⟨3, running (wordI 0x14 0x41) 0x80000005 0, by decide +kernel⟩,
   ⟨3, running (0x15 * 2 ^ 26 + 15 * 2 ^ 22 + 0x3FFF) 0x80000005 0, by decide +kernel⟩⟩

/-- The hypotheses of SequencerMemoryBranchesAndSystem can be met, clause by clause. -/
theorem wit_SequencerMemoryBranchesAndSystem :
    (∃ (n : Fin 4) (o : Nat) (s : State), s.seqAt n.val 0x18 = true ∧ s.seqs.length = 4 ∧ (s.sq n.val).g.length = 16 ∧ localOff n.val (addSx ((s.sq n.val).reg (fa (s.seqWord n.val))) (fimm (s.seqWord n.val))) = some o ∧ o % 4 = 0) ∧
    (∃ (n : Fin 4) (o : Nat) (s : State), s.seqAt n.val 0x18 = true ∧ s.seqs.length = 4 ∧ (s.sq n.val).g.length = 16 ∧ localOff n.val (addSx ((s.sq n.val).reg (fa (s.seqWord n.val))) (fimm (s.seqWord n.val))) = some o ∧ o % 4 = 0) ∧
    (∃ (n : Fin 4) (s : State), s.seqAt n.val 0x18 = true ∧ s.seqs.length = 4 ∧ (s.sq n.val).pc < 65536 ∧ addSx ((s.sq n.val).reg (fa (s.seqWord n.val))) (fimm (s.seqWord n.val)) % 4 ≠ 0) ∧
    (∃ (n : Fin 4) (s : State), s.seqAt n.val 0x19 = true ∧ s.seqs.length = 4 ∧ (s.sq n.val).pc < 65536 ∧ addSx ((s.sq n.val).reg (fa (s.seqWord n.val))) (fimm (s.seqWord n.val)) % 4 ≠ 0) ∧
    (∃ (n : Fin 4) (o : Nat) (s : State), s.seqAt n.val 0x19 = true ∧ s.seqs.length = 4 ∧ localOff n.val (addSx ((s.sq n.val).reg (fa (s.seqWord n.val))) (fimm (s.seqWord n.val))) = some o ∧ o % 4 = 0) ∧
    (∃ (n : Fin 4) (a : Nat) (s : State), s.seqAt n.val 0x19 = true ∧ s.seqs.length = 4 ∧ addSx ((s.sq n.val).reg (fa (s.seqWord n.val))) (fimm (s.seqWord n.val)) = a ∧ localOff n.val a = none ∧ a % 4 = 0 ∧ (s.sq n.val).posted.length < 4) ∧
    (∃ (n : Fin 4) (s : State), s.seqAt n.val 0x1A = true ∧ s.seqs.length = 4 ∧ (s.sq n.val).g.length = 16 ∧ (s.sq n.val).posted = []) ∧
    (∃ (n : Fin 4) (s : State), s.seqAt n.val 0x1A = true ∧ s.seqs.length = 4 ∧ (s.sq n.val).g.length = 16 ∧ (s.sq n.val).posted = []) ∧
    (∃ (n : Fin 4) (s : State), s.seqAt n.val 0x20 = true ∧ s.seqs.length = 4 ∧ (s.sq n.val).g.length = 16) ∧
    (∃ (n : Fin 4) (s : State), s.seqAt n.val 0x20 = true ∧ s.seqs.length = 4 ∧ (s.sq n.val).g.length = 16) ∧
    (∃ (n : Fin 4) (s : State), s.seqAt n.val 0x21 = true ∧ s.seqs.length = 4 ∧ (s.sq n.val).g.length = 16) ∧
    (∃ (n : Fin 4) (s : State), s.seqAt n.val 0x21 = true ∧ s.seqs.length = 4 ∧ (s.sq n.val).g.length = 16) ∧
    (∃ (n : Fin 4) (s : State), s.seqAt n.val 0x22 = true ∧ s.seqs.length = 4 ∧ (s.sq n.val).g.length = 16) ∧
    (∃ (n : Fin 4) (s : State), s.seqAt n.val 0x22 = true ∧ s.seqs.length = 4 ∧ (s.sq n.val).g.length = 16) ∧
    (∃ (n : Fin 4) (s : State), s.seqAt n.val 0x23 = true ∧ s.seqs.length = 4 ∧ (s.sq n.val).g.length = 16) ∧
    (∃ (n : Fin 4) (s : State), s.seqAt n.val 0x23 = true ∧ s.seqs.length = 4 ∧ (s.sq n.val).g.length = 16) ∧
    (∃ (n : Fin 4) (s : State), s.seqAt n.val 0x24 = true ∧ s.seqs.length = 4 ∧ (s.sq n.val).g.length = 16) ∧
    (∃ (n : Fin 4) (s : State), s.seqAt n.val 0x24 = true ∧ s.seqs.length = 4 ∧ (s.sq n.val).g.length = 16) ∧
    (∃ (n : Fin 4) (s : State), s.seqAt n.val 0x25 = true ∧ s.seqs.length = 4 ∧ (s.sq n.val).g.length = 16) ∧
    (∃ (n : Fin 4) (s : State), s.seqAt n.val 0x25 = true ∧ s.seqs.length = 4 ∧ (s.sq n.val).g.length = 16) ∧
    (∃ (n : Fin 4) (s : State), s.seqAt n.val 0x28 = true ∧ s.seqs.length = 4 ∧ (s.sq n.val).g.length = 16) ∧
    (∃ (n : Fin 4) (s : State), s.seqAt n.val 0x29 = true ∧ s.seqs.length = 4 ∧ (s.sq n.val).g.length = 16) ∧
    (∃ (n : Fin 4) (s : State), s.seqAt n.val 0x29 = true ∧ s.seqs.length = 4 ∧ (s.sq n.val).g.length = 16) ∧
    (∃ (n : Fin 4) (s : State), s.seqAt n.val 0x2A = true ∧ s.seqs.length = 4 ∧ (s.sq n.val).g.length = 16) ∧
    (∃ (n : Fin 4) (s : State), s.seqAt n.val 0x30 = true ∧ s.seqs.length = 4 ∧ (s.sq n.val).g.length = 16 ∧ s.sysReg n.val (fn (s.seqWord n.val)) < 2 ^ 32) ∧
    (∃ (n : Fin 4) (s : State), s.seqAt n.val 0x30 = true ∧ s.seqs.length = 4 ∧ (s.sq n.val).g.length = 16 ∧ s.sysReg n.val (fn (s.seqWord n.val)) < 2 ^ 32) ∧
    (∃ (n : Fin 4) (s : State), s.seqAt n.val 0x30 = true ∧ s.seqs.length = 4 ∧ (s.sq n.val).g.length = 16 ∧ s.sysReg n.val (fn (s.seqWord n.val)) < 2 ^ 32) ∧
    (∃ (n : Fin 4) (s : State), s.seqAt n.val 0x30 = true ∧ s.seqs.length = 4 ∧ (s.sq n.val).g.length = 16 ∧ s.sysReg n.val (fn (s.seqWord n.val)) < 2 ^ 32) ∧
    (∃ (n : Fin 4) (s : State), s.seqAt n.val 0x31 = true ∧ s.seqs.length = 4) ∧
    (∃ (n : Fin 4) (s : State), s.seqAt n.val 0x31 = true ∧ s.seqs.length = 4) ∧
    (∃ (n : Fin 4) (s : State), s.seqAt n.val 0x31 = true ∧ s.seqs.length = 4) :=
  ⟨⟨3, 4, running (wordI 0x18 0x3FFFC) 0x20100008 0 fun q => { q with dram := [(4, 1), (7, 0x80)] }, by decide +kernel⟩,
   ⟨3, 0x7FFC, running (wordI 0x18 4) 0x20077FF8 0 fun q => { q with dram := [(0x7FFC, 1)] }, by decide +kernel⟩,
   ⟨3, running (wordI 0x18 1) 0x20100008 0, by decide +kernel⟩,
   ⟨3, running (wordI 0x19 1) 0x20100008 0, by decide +kernel⟩,
   ⟨3, 0x7FFC, running (0x19 * 2 ^ 26 + 2 * 2 ^ 22 + 1 * 2 ^ 18) 0x20107FFC 0x80000001, by decide +kernel⟩,
   ⟨3, 0, running (0x19 * 2 ^ 26 + 2 * 2 ^ 22 + 1 * 2 ^ 18 + 0x3FFFC) 4 0x80000001, by decide +kernel⟩,
   ⟨3, running (0x1A * 2 ^ 26) 0 0, by decide +kernel⟩,
   ⟨3, running (0x1A * 2 ^ 26) 0 0 fun q => { q with haltReq := true }, by decide +kernel⟩,
   ⟨3, running (wordB 0x20 0x3FFFF) 0x5 0x5, by decide +kernel⟩,
   ⟨3, running (wordB 0x20 0x3FFFF) 0x5 0x6, by decide +kernel⟩,
   ⟨3, running (wordB 0x21 0x3FFFF) 0x5 0x6, by decide +kernel⟩,
   ⟨3, running (wordB 0x21 0x3FFFF) 0x5 0x5, by decide +kernel⟩,
   ⟨3, running (wordB 0x22 0x3FFFF) 0x80000000 0x0, by decide +kernel⟩,
   ⟨3, running (wordB 0x22 0x3FFFF) 0x0 0x80000000, by decide +kernel⟩,
   ⟨3, running (wordB 0x23 0x3FFFF) 0x3 0x3, by decide +kernel⟩,
   ⟨3, running (wordB 0x23 0x3FFFF) 0x80000000 0x0, by decide +kernel⟩,
   ⟨3, running (wordB 0x24 0x3FFFF) 0x1 0x80000000, by decide +kernel⟩,
   ⟨3, running (wordB 0x24 0x3FFFF) 0x3 0x3, by decide +kernel⟩,
   ⟨3, running (wordB 0x25 0x3FFFF) 0x3 0x3, by decide +kernel⟩,
   ⟨3, running (wordB 0x25 0x3FFFF) 0x0 0x1, by decide +kernel⟩,
   ⟨3, running (0x28 * 2 ^ 26 + 0x3FFF) 0 0, by decide +kernel⟩,
   ⟨3, running (0x29 * 2 ^ 26 + 0x3FFF) 0 0, by decide +kernel⟩,
   ⟨3, running 0 0 0 fun q => { q with pc := 0xFFFC, iram := tsetBytes [] 0 0xFFFC (leBytes 4 (0x29 * 2 ^ 26)) }, by decide +kernel⟩,
   ⟨3, running (0x2A * 2 ^ 26 + 1 * 2 ^ 18) 0xFFFFFFFC 0, by decide +kernel⟩,
   ⟨3, running (0x30 * 2 ^ 26 + 15 * 2 ^ 22 + 0) 0 0 fun q => { q with stack := [(0x44, 16)], cl := 3, icause := 9, cycle := 77 }, by decide +kernel⟩,
   ⟨3, running (0x30 * 2 ^ 26 + 15 * 2 ^ 22 + 2) 0 0 fun q => { q with stack := [(0x44, 16)], cl := 3, icause := 9, cycle := 77 }, by decide +kernel⟩,
   ⟨3, running (0x30 * 2 ^ 26 + 15 * 2 ^ 22 + 6) 0 0 fun q => { q with stack := [(0x44, 16)], cl := 3, icause := 9, cycle := 77 }, by decide +kernel⟩,
   ⟨3, running (0x30 * 2 ^ 26 + 15 * 2 ^ 22 + 9) 0 0 fun q => { q with stack := [(0x44, 16)], cl := 3, icause := 9, cycle := 77 }, by decide +kernel⟩,
   ⟨3, running (0x31 * 2 ^ 26 + 1 * 2 ^ 18 + 1) 0xFFFFFFFF 0, by decide +kernel⟩,
   ⟨3, running (0x31 * 2 ^ 26 + 1 * 2 ^ 18 + 4) 0xFFFFFFFF 0, by decide +kernel⟩,
   ⟨3, running (0x31 * 2 ^ 26 + 1 * 2 ^ 18 + 2) 0xFFFFFFFF 0, by decide +kernel⟩⟩

/-- The hypotheses of IllegalInstructions can be met, clause by clause. -/
theorem wit_IllegalInstructions :
    (∃ (n : Fin 4) (s : State), s.seqRuns n.val = true ∧ s.seqs.length = 4 ∧ (s.sq n.val).pc < 65536 ∧ opOf (s.seqWord n.val) ∉ [0, 1, 2, 3, 4, 5, 6, 7, 8, 9, 0x10, 0x11, 0x12, 0x13, 0x14, 0x15, 0x18, 0x19, 0x1A, 0x20, 0x21, 0x22, 0x23, 0x24, 0x25,
  0x28, 0x29, 0x2A, 0x30, 0x31, 0x32, 0x33, 0x34, 0x35]) ∧
    (∃ (n : Fin 4) (s : State), s.seqRuns n.val = true ∧ s.seqs.length = 4 ∧ (s.sq n.val).pc < 65536 ∧ opOf (s.seqWord n.val) ∉ [0, 1, 2, 3, 4, 5, 6, 7, 8, 9, 0x10, 0x11, 0x12, 0x13, 0x14, 0x15, 0x18, 0x19, 0x1A, 0x20, 0x21, 0x22, 0x23, 0x24, 0x25,
  0x28, 0x29, 0x2A, 0x30, 0x31, 0x32, 0x33, 0x34, 0x35]) ∧
    (∃ (n : Fin 4) (s : State), s.seqRuns n.val = true ∧ s.seqs.length = 4 ∧ (s.sq n.val).pc < 65536 ∧ opOf (s.seqWord n.val) ≤ 9 ∧ (s.seqWord n.val) % 2 ^ 14 ≠ 0) ∧
    (∃ (n : Fin 4) (s : State), s.seqRuns n.val = true ∧ s.seqs.length = 4 ∧ (s.sq n.val).pc < 65536 ∧ opOf (s.seqWord n.val) = 0x14 ∧ fimm (s.seqWord n.val) / 2 ^ 7 ≠ 0) ∧
    (∃ (n : Fin 4) (s : State), s.seqRuns n.val = true ∧ s.seqs.length = 4 ∧ (s.sq n.val).pc < 65536 ∧ opOf (s.seqWord n.val) = 0x15 ∧ ((fa (s.seqWord n.val) ≠ 0 ∨ fimm (s.seqWord n.val) / 2 ^ 14 ≠ 0))) ∧
    (∃ (n : Fin 4) (s : State), s.seqRuns n.val = true ∧ s.seqs.length = 4 ∧ (s.sq n.val).pc < 65536 ∧ ((opOf (s.seqWord n.val) = 0x28 ∨ opOf (s.seqWord n.val) = 0x29)) ∧ (s.seqWord n.val) / 2 ^ 14 % 2 ^ 12 ≠ 0) ∧
    (∃ (n : Fin 4) (s : State), s.seqRuns n.val = true ∧ s.seqs.length = 4 ∧ (s.sq n.val).pc < 65536 ∧ opOf (s.seqWord n.val) = 0x2A ∧ ((fd (s.seqWord n.val) ≠ 0 ∨ (s.seqWord n.val) % 2 ^ 18 ≠ 0))) ∧
    (∃ (n : Fin 4) (s : State), s.seqRuns n.val = true ∧ s.seqs.length = 4 ∧ (s.sq n.val).pc < 65536 ∧ opOf (s.seqWord n.val) = 0x30 ∧ ((fa (s.seqWord n.val) ≠ 0 ∨ (s.seqWord n.val) / 2 ^ 8 % 2 ^ 10 ≠ 0))) ∧
    (∃ (n : Fin 4) (s : State), s.seqRuns n.val = true ∧ s.seqs.length = 4 ∧ (s.sq n.val).pc < 65536 ∧ opOf (s.seqWord n.val) = 0x31 ∧ ((fd (s.seqWord n.val) ≠ 0 ∨ (s.seqWord n.val) / 2 ^ 8 % 2 ^ 10 ≠ 0))) ∧
    (∃ (n : Fin 4) (s : State), s.seqRuns n.val = true ∧ s.seqs.length = 4 ∧ (s.sq n.val).pc < 65536 ∧ opOf (s.seqWord n.val) = 0x32 ∧ (s.seqWord n.val) / 2 ^ 4 % 2 ^ 22 ≠ 0) ∧
    (∃ (n : Fin 4) (s : State), s.seqRuns n.val = true ∧ s.seqs.length = 4 ∧ (s.sq n.val).pc < 65536 ∧ ((opOf (s.seqWord n.val) = 0x1A ∨ opOf (s.seqWord n.val) = 0x33 ∨ opOf (s.seqWord n.val) = 0x34 ∨ opOf (s.seqWord n.val) = 0x35)) ∧ (s.seqWord n.val) % 2 ^ 26 ≠ 0) ∧
    (∃ (n : Fin 4) (s : State), s.seqRuns n.val = true ∧ s.seqs.length = 4 ∧ (s.sq n.val).pc < 65536 ∧ opOf (s.seqWord n.val) = 0x14 ∧ fimm (s.seqWord n.val) / 2 ^ 5 % 4 = 3) ∧
    (∃ (n : Fin 4) (s : State), s.seqRuns n.val = true ∧ s.seqs.length = 4 ∧ (s.sq n.val).pc < 65536 ∧ opOf (s.seqWord n.val) = 0x2A ∧ (s.sq n.val).reg (fa (s.seqWord n.val)) % 4 ≠ 0) ∧
    (∃ (n : Fin 4) (s : State), s.seqRuns n.val = true ∧ s.seqs.length = 4 ∧ (s.sq n.val).pc < 65536 ∧ opOf (s.seqWord n.val) = 0x34 ∧ (s.sq n.val).stack = []) :=
  ⟨⟨3, running (0x0A * 2 ^ 26) 0 0, by decide +kernel⟩,
   ⟨3, running (0x36 * 2 ^ 26) 0 0, by decide +kernel⟩,
   ⟨3, running (1) 0 0, by decide +kernel⟩,
   ⟨3, running (0x14 * 2 ^ 26 + 128) 0 0, by decide +kernel⟩,
   ⟨3, running (0x15 * 2 ^ 26 + 2 ^ 14) 0 0, by decide +kernel⟩,
   ⟨3, running (0x28 * 2 ^ 26 + 2 ^ 25) 0 0, by decide +kernel⟩,
   ⟨3, running (0x2A * 2 ^ 26 + 1) 0 0, by decide +kernel⟩,
   ⟨3, running (0x30 * 2 ^ 26 + 256) 0 0, by decide +kernel⟩,
   ⟨3, running (0x31 * 2 ^ 26 + 2 ^ 22) 0 0, by decide +kernel⟩,
   ⟨3, running (0x32 * 2 ^ 26 + 16) 0 0, by decide +kernel⟩,
   ⟨3, running (0x33 * 2 ^ 26 + 1) 0 0, by decide +kernel⟩,
   ⟨3, running (0x14 * 2 ^ 26 + 96) 0 0, by decide +kernel⟩,
   ⟨3, running (0x2A * 2 ^ 26 + 2 ^ 18) 2 0, by decide +kernel⟩,
   ⟨3, running (0x34 * 2 ^ 26) 0 0, by decide +kernel⟩⟩

/-- The hypotheses of SequencerInterruptsSleepAndRun can be met, clause by clause. -/
theorem wit_SequencerInterruptsSleepAndRun :
    (∃ (n : Fin 4) (s : State), s.seqAt n.val 0x32 = true ∧ s.seqs.length = 4 ∧ (s.sq n.val).posted = []) ∧
    (∃ (n : Fin 4) (s : State), s.seqAt n.val 0x35 = true ∧ s.seqs.length = 4 ∧ (s.sq n.val).posted = []) ∧
    (∃ (n : Fin 4) (s : State), s.seqAt n.val 0x33 = true ∧ s.seqs.length = 4) ∧
    (∃ (n : Fin 4) (s : State), s.seqAt n.val 0x33 = true ∧ s.seqs.length = 4) ∧
    (∃ (n : Fin 4) (src : Nat) (s : State), s.up = true ∧ (s.sq n.val).st = .run ∧ (s.sq n.val).entry = true ∧ s.seqs.length = 4 ∧ (s.sq n.val).im = false ∧ s.chosen n.val (s.sq n.val).cl = some src) ∧
    (∃ (n : Fin 4) (s : State), s.up = true ∧ (s.sq n.val).st = .run ∧ (s.sq n.val).entry = true ∧ s.seqs.length = 4 ∧ (((s.sq n.val).im = true ∨ s.chosen n.val (s.sq n.val).cl = none))) ∧
    (∃ (n : Fin 4) (pc : Nat) (cl : Nat) (r : List (Nat × Nat)) (s : State), s.seqAt n.val 0x34 = true ∧ s.seqs.length = 4 ∧ (s.sq n.val).stack = (pc, cl) :: r ∧ (((s.sq n.val).im = true ∨ s.chosen n.val cl = none))) ∧
    (∃ (n : Fin 4) (pc : Nat) (cl : Nat) (r : List (Nat × Nat)) (s : State), s.seqAt n.val 0x34 = true ∧ s.seqs.length = 4 ∧ (s.sq n.val).stack = (pc, cl) :: r ∧ (((s.sq n.val).im = true ∨ s.chosen n.val cl = none))) ∧
    (∃ (n : Fin 4) (pc : Nat) (cl : Nat) (src : Nat) (r : List (Nat × Nat)) (s : State), s.seqAt n.val 0x34 = true ∧ s.seqs.length = 4 ∧ (s.sq n.val).stack = (pc, cl) :: r ∧ (s.sq n.val).im = false ∧ s.chosen n.val cl = some src) ∧
    (∃ (n : Fin 4) (s : State), s.up = true ∧ (s.sq n.val).st = .wait ∧ (s.sq n.val).wake = true ∧ s.seqs.length = 4) ∧
    (∃ (n : Fin 4) (s : State), s.up = true ∧ (s.sq n.val).st = .wait ∧ (s.sq n.val).wake = true ∧ s.seqs.length = 4) ∧
    (∃ (n : Fin 4) (s : State), s.clocked = true ∧ (((s.sq n.val).st = .halted ∨ (s.sq n.val).st = .fault)) ∧ s.seqs.length = 4 ∧ s.flight n.val = none) ∧
    (∃ (n : Fin 4) (s : State), s.clocked = true ∧ (((s.sq n.val).st = .halted ∨ (s.sq n.val).st = .fault)) ∧ s.seqs.length = 4 ∧ s.flight n.val = none) ∧
    (∃ (n : Fin 4) (s : State), (((s.sq n.val).st = .run ∨ (s.sq n.val).st = .wait)) ∧ s.seqs.length = 4) ∧
    (∃ (n : Fin 4) (s : State), (((s.sq n.val).st = .run ∨ (s.sq n.val).st = .wait)) ∧ s.seqs.length = 4) ∧
    (∃ (n : Fin 4) (s : State), (((s.sq n.val).st = .run ∨ (s.sq n.val).st = .wait)) ∧ s.seqs.length = 4) ∧
    (∃ (n : Fin 4) (s : State), (((s.sq n.val).st = .run ∨ (s.sq n.val).st = .wait)) ∧ s.fgi F.TSQ_WDCFGn_PERIOD n.val ≠ 0 ∧ s.fgi F.TSQ_WDCFGn_PERIOD n.val ≤ (s.sq n.val).wdCount ∧ s.seqs.length = 4) ∧
    (∃ (n : Fin 4) (s : State), (((s.sq n.val).st = .run ∨ (s.sq n.val).st = .wait)) ∧ s.fgi F.TSQ_WDCFGn_PERIOD n.val ≠ 0 ∧ s.fgi F.TSQ_WDCFGn_PERIOD n.val ≤ (s.sq n.val).wdCount ∧ s.seqs.length = 4) :=
  ⟨⟨3, running (0x32 * 2 ^ 26 + 15) 0 0, by decide +kernel⟩,
   ⟨3, running (0x35 * 2 ^ 26) 0 0, by decide +kernel⟩,
   ⟨3, running (0x33 * 2 ^ 26) 0 0, by decide +kernel⟩,
   ⟨3, (running (0x33 * 2 ^ 26) 0 0 fun q => { q with im := false }).fsi F.ICU_SRCCFGs_EN 7 1 |>.fsi F.ICU_SRCCFGs_TARGET 7 3 |>.setPend 7 true, by decide +kernel⟩,
   ⟨3, 255, (((running 0 0 0 fun q => { q with im := false, entry := true, vbase := 0xF000, pc := 0x44 }).fsi F.ICU_SRCCFGs_EN 255 1).fsi F.ICU_SRCCFGs_TARGET 255 3).setPend 255 true, by decide +kernel⟩,
   ⟨3, (((running 0 0 0 fun q => { q with im := true, entry := true }).fsi F.ICU_SRCCFGs_EN 255 1).fsi F.ICU_SRCCFGs_TARGET 255 3).setPend 255 true, by decide +kernel⟩,
   ⟨3, 0x48, 16, [], running (0x34 * 2 ^ 26) 0 0 fun q => { q with cl := 3, stack := [(0x48, 16)] }, by decide +kernel⟩,
   ⟨3, 0x48, 5, [(0, 16)], running (0x34 * 2 ^ 26) 0 0 fun q => { q with cl := 3, icause := 9, causes := [7, 0x100], stack := [(0x48, 5), (0, 16)] }, by decide +kernel⟩,
   ⟨3, 0x48, 16, 255, [], (((running (0x34 * 2 ^ 26) 0 0 fun q => { q with im := false, cl := 3, stack := [(0x48, 16)] }).fsi F.ICU_SRCCFGs_EN 255 1).fsi F.ICU_SRCCFGs_TARGET 255 3).setPend 255 true, by decide +kernel⟩,
   ⟨3, running 0 0 0 fun q => { q with st := .wait, wake := true }, by decide +kernel⟩,
   ⟨3, (((running 0 0 0 fun q => { q with st := .wait, wake := true, im := false }).fsi F.ICU_SRCCFGs_EN 255 1).fsi F.ICU_SRCCFGs_TARGET 255 3).setPend 255 true, by decide +kernel⟩,
   ⟨3, (at_ .boot).fsi F.TSQ_ENTRYn_ENTRY 3 0x3FFF, by decide +kernel⟩,
   ⟨3, running 0 5 0 fun q => { q with st := .fault, im := false, cl := 3, stack := [(0x48, 16)], vbase := 4096, cycle := 9 }, by decide +kernel⟩,
   ⟨3, running 0 5 0 fun q => { q with st := .wait }, by decide +kernel⟩,
   ⟨3, running 0 5 0 fun q => { q with entry := true }, by decide +kernel⟩,
   ⟨3, running 0 5 0 fun q => { q with busy := true }, by decide +kernel⟩,
   ⟨3, (running 0 5 0 fun q => { q with wdCount := 5 }).fsi F.TSQ_WDCFGn_PERIOD 3 5, by decide +kernel⟩,
   ⟨3, ((running 0 5 0 fun q => { q with wdCount := 5 }).fsi F.TSQ_WDCFGn_PERIOD 3 5).fsi F.TSQ_WDCFGn_ACTION 3 1, by decide +kernel⟩⟩

/-- The hypotheses of SemaphoresAndInterruptBits can be met, clause by clause. -/
theorem wit_SemaphoresAndInterruptBits :
    (∃ (k : Fin 16) (m : Fin 11) (s : State), m.val < 4 ∧ s.fgi F.TSQ_SEMk_OWNER k.val = 7) ∧
    (∃ (k : Fin 16) (m : Fin 11) (s : State), ((4 ≤ m.val ∨ s.fgi F.TSQ_SEMk_OWNER k.val ≠ 7))) ∧
    (∃ (k : Fin 16) (m : Fin 11) (s : State), ((4 ≤ m.val ∨ s.fgi F.TSQ_SEMk_OWNER k.val ≠ 7))) ∧
    (∃ (k : Fin 16) (m : Fin 11) (s : State), m.val < 4 ∧ s.fgi F.TSQ_SEMk_OWNER k.val = m.val) ∧
    (∃ (k : Fin 16) (m : Fin 11) (s : State), ((4 ≤ m.val ∨ s.fgi F.TSQ_SEMk_OWNER k.val ≠ m.val))) ∧
    (∃ (k : Fin 16) (m : Fin 11) (s : State), ((4 ≤ m.val ∨ s.fgi F.TSQ_SEMk_OWNER k.val ≠ m.val))) :=
  ⟨⟨15, 3, solo.fsi F.TSQ_SEMk_OWNER 15 7, by decide +kernel⟩,
   ⟨15, 4, solo.fsi F.TSQ_SEMk_OWNER 15 7, by decide +kernel⟩,
   ⟨15, 3, solo.fsi F.TSQ_SEMk_OWNER 15 3, by decide +kernel⟩,
   ⟨15, 3, solo.fsi F.TSQ_SEMk_OWNER 15 3, by decide +kernel⟩,
   ⟨15, 4, solo.fsi F.TSQ_SEMk_OWNER 15 4, by decide +kernel⟩,
   ⟨15, 2, solo.fsi F.TSQ_SEMk_OWNER 15 3, by decide +kernel⟩⟩

/-- The hypotheses of BurstsOfTheMatrix can be met, clause by clause. -/
theorem wit_BurstsOfTheMatrix :
    (∃ (b : Burst) (g : Grant) (c : Claim) (tg : Nat) (s : State), s.dev ≠ .off ∧ b.master < 11 ∧ targetNo b.addr = some tg ∧ tg < 8 ∧ b.addr % 32 = 0 ∧ s.port.flights = [] ∧ g.turns = [c] ∧ g.weak = [] ∧ g.bad = [] ∧ ((b.master < 4 → (s.sq b.master).posted = [])) ∧ b.write = none ∧ b.beats = 1 ∧ b.master ≠ 4 ∧ ((winner tg ((b.master, c.waited) :: c.others) s ≠ some b.master ∨ (c.chunk = true ∧ c.cycle % 16 ≠ 15)))) ∧
    (∃ (b : Burst) (g : Grant) (c : Claim) (tg : Nat) (s : State), s.dev ≠ .off ∧ b.master < 11 ∧ targetNo b.addr = some tg ∧ tg < 8 ∧ b.addr % 32 = 0 ∧ s.port.flights = [] ∧ g.turns = [c] ∧ g.weak = [] ∧ g.bad = [] ∧ ((b.master < 4 → (s.sq b.master).posted = [])) ∧ b.write = none ∧ b.beats = 1 ∧ b.master ≠ 4 ∧ ((winner tg ((b.master, c.waited) :: c.others) s ≠ some b.master ∨ (c.chunk = true ∧ c.cycle % 16 ≠ 15)))) ∧
    (∃ (b : Burst) (g : Grant) (c : Claim) (tg : Nat) (k : Nat) (w : Nat) (s : State), s.dev ≠ .off ∧ b.master < 11 ∧ targetNo b.addr = some tg ∧ tg < 8 ∧ b.addr % 32 = 0 ∧ s.port.flights = [] ∧ g.turns = [c] ∧ g.weak = [] ∧ g.bad = [] ∧ c.chunk = false ∧ ((b.master < 4 → (s.sq b.master).posted = [])) ∧ b.write = none ∧ b.beats = 1 ∧ s.fg F.MTX_AGE_CYCLES = 0 ∧ c.others = [(k, w)] ∧ k < 11 ∧ s.priority tg b.master < s.priority tg k ∧ s.beatBad b.addr = false) ∧
    (∃ (b : Burst) (g : Grant) (c : Claim) (tg : Nat) (s : State), s.dev ≠ .off ∧ b.master < 11 ∧ targetNo b.addr = some tg ∧ tg < 8 ∧ b.addr % 32 = 0 ∧ s.port.flights = [] ∧ g.turns = [c] ∧ g.weak = [] ∧ g.bad = [] ∧ c.others = [] ∧ c.chunk = false ∧ ((b.master < 4 → (s.sq b.master).posted = [])) ∧ b.write = none ∧ b.beats = 1 ∧ s.beatBad b.addr = false) ∧
    (∃ (b : Burst) (g : Grant) (c : Claim) (tg : Nat) (s : State), s.dev ≠ .off ∧ b.master < 11 ∧ targetNo b.addr = some tg ∧ tg < 8 ∧ b.addr % 32 = 0 ∧ s.port.flights = [] ∧ g.turns = [c] ∧ g.weak = [] ∧ g.bad = [] ∧ c.others = [] ∧ c.chunk = false ∧ ((b.master < 4 → (s.sq b.master).posted = [])) ∧ b.write = none ∧ b.beats = 1 ∧ s.beatBad b.addr = false) ∧
    (∃ (b : Burst) (g : Grant) (c : Claim) (tg : Nat) (k : Nat) (s : State), s.dev ≠ .off ∧ b.master < 11 ∧ targetNo b.addr = some tg ∧ tg < 8 ∧ b.addr % 32 = 0 ∧ s.port.flights = [] ∧ g.turns = [c] ∧ g.weak = [] ∧ g.bad = [b.addr / 8 + k] ∧ k < 4 ∧ c.others = [] ∧ c.chunk = false ∧ 4 ≤ b.master ∧ b.write = none ∧ b.beats = 1 ∧ s.fab.badWords = []) ∧
    (∃ (b : Burst) (g : Grant) (c : Claim) (tg : Nat) (s : State), s.dev ≠ .off ∧ b.master < 11 ∧ targetNo b.addr = some tg ∧ tg < 8 ∧ b.addr % 32 = 0 ∧ s.port.flights = [] ∧ g.turns = [c] ∧ g.weak = [] ∧ g.bad = [] ∧ c.others = [] ∧ c.chunk = false ∧ ((b.master < 4 → (s.sq b.master).posted = [])) ∧ b.write = none ∧ b.beats = 2 ∧ b.addr % 256 < 224 ∧ s.beatBad b.addr = false) ∧
    (∃ (b : Burst) (g : Grant) (c : Claim) (tg : Nat) (bytes : List Byte) (s : State), s.dev ≠ .off ∧ b.master < 11 ∧ targetNo b.addr = some tg ∧ tg < 8 ∧ b.addr % 32 = 0 ∧ s.port.flights = [] ∧ g.turns = [c] ∧ g.weak = [] ∧ g.bad = [] ∧ c.others = [] ∧ c.chunk = false ∧ 4 ≤ b.master ∧ b.write = some [(bytes, BitVec.allOnes 32)] ∧ bytes.length = 32 ∧ (guardedMaster b.master && s.guarded b.addr) = false) ∧
    (∃ (b : Burst) (g : Grant) (c : Claim) (tg : Nat) (bytes : List Byte) (s : State), s.dev ≠ .off ∧ b.master < 11 ∧ targetNo b.addr = some tg ∧ tg < 8 ∧ b.addr % 32 = 0 ∧ s.port.flights = [] ∧ g.turns = [c] ∧ g.weak = [] ∧ g.bad = [] ∧ c.others = [] ∧ c.chunk = false ∧ 4 ≤ b.master ∧ guardedMaster b.master = true ∧ s.guarded b.addr = true ∧ b.write = some [(bytes, BitVec.allOnes 32)]) ∧
    (∃ (b : Burst) (g : Grant) (f : InFlight) (bytes : List Byte) (s : State), s.dev ≠ .off ∧ b.master = 4 ∧ b.addr % 256 = 0 ∧ b.addr < 0x1000000 ∧ b.write = none ∧ b.beats = 1 ∧ g.turns = [] ∧ g.weak = [] ∧ g.bad = [] ∧ s.port.flights = [(10, some f)] ∧ f.reset = true ∧ f.done = 0 ∧ f.burst.master = 10 ∧ f.burst.addr % 32 = 0 ∧ f.burst.addr < 0x1000000 ∧ f.burst.write = some [(bytes, BitVec.allOnes 32)] ∧ bytes.length = 32 ∧ s.guarded f.burst.addr = false) ∧
    (∃ (b : Burst) (g : Grant) (f : InFlight) (bytes : List Byte) (s : State), s.dev ≠ .off ∧ b.master = 4 ∧ b.addr % 256 = 0 ∧ b.addr < 0x1000000 ∧ b.write = none ∧ b.beats = 1 ∧ g.turns = [] ∧ g.weak = [] ∧ g.bad = [] ∧ s.port.flights = [(10, some f)] ∧ f.reset = true ∧ f.done = 0 ∧ f.burst.master = 10 ∧ f.burst.addr % 32 = 0 ∧ f.burst.addr < 0x1000000 ∧ f.burst.write = some [(bytes, BitVec.allOnes 32)] ∧ bytes.length = 32 ∧ s.guarded f.burst.addr = false) :=
  ⟨⟨⟨10, 0x40, none, 1, 0⟩, ⟨[⟨3, 2, [], true⟩], 0, [], []⟩, ⟨3, 2, [], true⟩, 2, solo, by decide +kernel⟩,
   ⟨⟨10, 0x40, none, 1, 0⟩, ⟨[⟨15, 2, [(5, 0)], true⟩], 0, [], []⟩, ⟨15, 2, [(5, 0)], true⟩, 2, (solo.fsi F.MTX_PRIm_TBL 10 3).fsi F.MTX_PRIm_TBL 5 0, by decide +kernel⟩,
   ⟨⟨10, 0xFFFFE0, none, 1, 0⟩, ⟨[⟨3, 2, [(9, 0)], false⟩], 0, [], []⟩, ⟨3, 2, [(9, 0)], false⟩, 7, 9, 0, (((solo.memPut 0xFFFFE0 [1, 2, 3]).fsi F.MTX_PRIm_TBL 9 3).fsi F.MTX_PRIm_TBL 10 2).fs F.MTX_AGE_CYCLES 0, by decide +kernel⟩,
   ⟨⟨10, 0xFFFFE0, none, 1, 0⟩, ⟨[⟨3, 0, [], false⟩], 0, [], []⟩, ⟨3, 0, [], false⟩, 7, solo.memPut 0xFFFFE0 [1, 2, 3], by decide +kernel⟩,
   ⟨⟨10, 0x20, none, 1, 0⟩, ⟨[⟨3, 0, [], false⟩], 0, [], []⟩, ⟨3, 0, [], false⟩, 1, solo.modFab fun x => { x with weakWords := [4, 8] }, by decide +kernel⟩,
   ⟨⟨10, 0x40, none, 1, 0⟩, ⟨[⟨3, 0, [], false⟩], 0, [], [11]⟩, ⟨3, 0, [], false⟩, 2, 3, solo, by decide +kernel⟩,
   ⟨⟨10, 0x40, none, 2, 0⟩, ⟨[⟨3, 0, [], false⟩], 0, [], []⟩, ⟨3, 0, [], false⟩, 2, solo.memPut 0x40 [1, 2, 3], by decide +kernel⟩,
   ⟨⟨4, 0xFFFFE0, some [((List.range 32).map fun k => BitVec.ofNat 8 (k + 1), BitVec.allOnes 32)], 1, 0⟩, ⟨[⟨3, 0, [], false⟩], 1, [], []⟩, ⟨3, 0, [], false⟩, 7, (List.range 32).map fun k => BitVec.ofNat 8 (k + 1), solo, by decide +kernel⟩,
   ⟨⟨10, 0x0, some [([], BitVec.allOnes 32)], 1, 0⟩, ⟨[⟨3, 0, [], false⟩], 1, [], []⟩, ⟨3, 0, [], false⟩, 0, [], solo, by decide +kernel⟩,
   ⟨⟨4, 0x100, none, 1, 0⟩, ⟨[], 0, [], []⟩, ⟨⟨10, 0xFFFFE0, some [((List.range 32).map fun k => BitVec.ofNat 8 (k + 1), BitVec.allOnes 32)], 1, 0⟩, 0, [], 1, 3, 0, true⟩, (List.range 32).map fun k => BitVec.ofNat 8 (k + 1), solo.setFlight 10 (some ⟨⟨10, 0xFFFFE0, some [((List.range 32).map fun k => BitVec.ofNat 8 (k + 1), BitVec.allOnes 32)], 1, 0⟩, 0, [], 1, 3, 0, true⟩), by decide +kernel⟩,
   ⟨⟨4, 0x100, none, 1, 0⟩, ⟨[], 0, [], []⟩, ⟨⟨10, 0xFFFFE0, some [((List.range 32).map fun k => BitVec.ofNat 8 (k + 1), BitVec.allOnes 32)], 1, 0⟩, 0, [], 0, 3, 0, true⟩, (List.range 32).map fun k => BitVec.ofNat 8 (k + 1), solo.setFlight 10 (some ⟨⟨10, 0xFFFFE0, some [((List.range 32).map fun k => BitVec.ofNat 8 (k + 1), BitVec.allOnes 32)], 1, 0⟩, 0, [], 0, 3, 0, true⟩), by decide +kernel⟩⟩

/-- The hypotheses of TheCranes can be met, clause by clause. -/
theorem wit_TheCranes :
    (∃ (c : Fin 4) (s : State), (s.crane c.val).busy = false ∧ s.port.cranes.length = 4) ∧
    (∃ (c : Fin 4) (s : State), (s.crane c.val).busy = true) ∧
    (∃ (c : Fin 4) (s : State), (s.crane c.val).busy = true ∧ s.port.cranes.length = 4) ∧
    (∃ (c : Fin 4) (a : Nat) (s : State), s.craneReady c.val = true ∧ (s.crane c.val).held = false ∧ (s.crane c.val).toRead = some a ∧ a < 0x1000000 ∧ s.port.flights = [] ∧ s.port.cranes.length = 4) ∧
    (∃ (c : Fin 4) (k : CraneAt) (d : CraneDesc) (s : State), s.craneReady c.val = true ∧ (s.crane c.val).held = false ∧ (s.crane c.val).toRead = none ∧ (s.crane c.val).cur = some d ∧ (s.crane c.val).moved = 0 ∧ s.port.flights = [] ∧ s.port.cranes.length = 4 ∧ d.fill = true ∧ d.fixdst = false ∧ d.len = 64 ∧ d.dst % 256 = 0 ∧ d.dst < 0x1000000 ∧ s.guarded d.dst = false ∧ s.guarded (d.dst + 32) = false ∧ k.delivered = 1) ∧
    (∃ (c : Fin 4) (d : CraneDesc) (s : State), s.craneReady c.val = true ∧ (s.crane c.val).held = false ∧ (s.crane c.val).toRead = none ∧ (s.crane c.val).cur = some d ∧ ((∀ k : Fin 4, k ≠ c → s.craneReady k.val = false)) ∧ s.port.flights = [] ∧ s.port.cranes.length = 4 ∧ d.len = 0) ∧
    (∃ (c : Fin 4) (d : CraneDesc) (s : State), s.craneReady c.val = true ∧ (s.crane c.val).held = false ∧ (s.crane c.val).toRead = none ∧ (s.crane c.val).cur = some d ∧ ((∀ k : Fin 4, k ≠ c → s.craneReady k.val = false)) ∧ s.port.flights = [] ∧ s.port.cranes.length = 4 ∧ d.len = 0) ∧
    (∃ (c : Fin 4) (d : CraneDesc) (s : State), s.craneReady c.val = true ∧ (s.crane c.val).held = false ∧ (s.crane c.val).toRead = none ∧ (s.crane c.val).cur = some d ∧ ((∀ k : Fin 4, k ≠ c → s.craneReady k.val = false)) ∧ s.port.flights = [] ∧ s.port.cranes.length = 4 ∧ d.len = 4 ∧ (s.crane c.val).moved = 0 ∧ d.fill = true ∧ d.src < 2 ^ 32 ∧ d.last = true ∧ d.dst % 4 = 0 ∧ d.dst < 0x1000000 ∧ s.guarded d.dst = false ∧ s.beatBad d.dst = false) ∧
    (∃ (c : Fin 4) (d : CraneDesc) (s : State), s.craneReady c.val = true ∧ (s.crane c.val).held = false ∧ (s.crane c.val).toRead = none ∧ (s.crane c.val).cur = some d ∧ ((∀ k : Fin 4, k ≠ c → s.craneReady k.val = false)) ∧ s.port.flights = [] ∧ s.port.cranes.length = 4 ∧ (s.crane c.val).moved = 0 ∧ (s.crane c.val).buf = none ∧ d.fill = false ∧ d.fixdst = false ∧ d.last = true ∧ d.src < 0x1000000 ∧ d.dst < 0x1000000 ∧ d.src % 4 = 0 ∧ d.dst % 4 = 0 ∧ d.len % 4 = 0 ∧ 0 < d.len ∧ d.src % 256 + d.len ≤ 256 ∧ d.dst % 256 + d.len ≤ 256 ∧ s.guarded d.dst = false ∧ ((∀ k : Fin 8, s.guarded (d.dst / 256 * 256 + 32 * k.val) = false)) ∧ ((∀ k : Fin 8, s.beatBad (d.src / 256 * 256 + 32 * k.val) = false ∧ s.beatBad (d.dst / 256 * 256 + 32 * k.val) = false))) ∧
    (∃ (c : Fin 4) (d : CraneDesc) (s : State), s.craneReady c.val = true ∧ (s.crane c.val).held = false ∧ (s.crane c.val).toRead = none ∧ (s.crane c.val).cur = some d ∧ ((∀ k : Fin 4, k ≠ c → s.craneReady k.val = false)) ∧ s.port.flights = [] ∧ s.port.cranes.length = 4 ∧ (s.crane c.val).moved = 0 ∧ (s.crane c.val).buf = none ∧ d.fill = false ∧ d.fixdst = false ∧ d.last = true ∧ d.src + 512 ≤ 0x1000000 ∧ d.dst + 512 ≤ 0x1000000 ∧ d.src % 256 = 0 ∧ d.dst % 256 = 0 ∧ d.len = 512 ∧ ((d.src + 512 ≤ d.dst ∨ d.dst + 512 ≤ d.src)) ∧ ((∀ k : Fin 16, s.guarded (d.dst + 32 * k.val) = false)) ∧ ((∀ k : Fin 16, s.beatBad (d.src + 32 * k.val) = false))) ∧
    (∃ (c : Fin 4) (a : Nat) (s : State), s.craneReady c.val = true ∧ (s.crane c.val).held = false ∧ ((∀ k : Fin 4, k ≠ c → s.craneReady k.val = false)) ∧ s.port.flights = [] ∧ s.port.cranes.length = 4 ∧ (s.crane c.val).toRead = some a ∧ 0x1000000 ≤ a ∧ a < 0x10000000) ∧
    (∃ (c : Fin 4) (p : Nat) (o : Nat) (d : CraneDesc) (s : State), s.craneReady c.val = true ∧ (s.crane c.val).held = false ∧ (s.crane c.val).toRead = none ∧ (s.crane c.val).cur = some d ∧ ((∀ k : Fin 4, k ≠ c → s.craneReady k.val = false)) ∧ s.port.flights = [] ∧ s.port.cranes.length = 4 ∧ (s.crane c.val).moved = 0 ∧ (s.crane c.val).buf = none ∧ d.len = 4 ∧ d.fill = false ∧ target d.src = .win p o ∧ s.fg F.CRN_ENGLIM_BEATS ≠ 0 ∧ s.fg F.CRN_ENGLIM_BEATS < tget 0 s.port.craneBeats p + 1) ∧
    (∃ (c : Fin 4) (p : Nat) (o : Nat) (d : CraneDesc) (s : State), s.craneReady c.val = true ∧ (s.crane c.val).held = true ∧ (s.crane c.val).toRead = none ∧ (s.crane c.val).cur = some d ∧ s.port.flights = [] ∧ s.port.cranes.length = 4 ∧ d.len = 4 ∧ (s.crane c.val).moved = 0 ∧ (s.crane c.val).buf = none ∧ d.fill = false ∧ target d.src = .win p o ∧ d.src % 4 = 0 ∧ s.engState p ≠ 2 ∧ s.dev ≠ .safe ∧ ((s.fg F.CRN_ENGLIM_BEATS = 0 ∨ tget 0 s.port.craneBeats p + 1 ≤ s.fg F.CRN_ENGLIM_BEATS))) :=
  ⟨⟨3, solo.fsi F.CRN_CHDESCc_ADDR 3 0x7FFFF, by decide +kernel⟩,
   ⟨3, solo.modCrane 3 fun x => { x with toRead := some 32 }, by decide +kernel⟩,
   ⟨3, solo.modCrane 3 fun x => { x with toRead := some 32 }, by decide +kernel⟩,
   ⟨3, 32, solo.modCrane 3 fun x => { x with toRead := some 32 }, by decide +kernel⟩,
   ⟨3, ⟨2, 1⟩, ⟨0x20, 0x80000001, 0xFFFF00, 64, true, true, true, false, 0, true⟩, solo.modCrane 3 fun x => { x with cur := some ⟨0x20, 0x80000001, 0xFFFF00, 64, true, true, true, false, 0, true⟩ }, by decide +kernel⟩,
   ⟨3, ⟨0x20, 0, 0, 0, true, true, false, false, 0, true⟩, solo.modCrane 3 fun x => { x with cur := some ⟨0x20, 0, 0, 0, true, true, false, false, 0, true⟩ }, by decide +kernel⟩,
   ⟨3, ⟨0x20, 0, 0, 0, false, true, false, false, 0x40, true⟩, solo.modCrane 3 fun x => { x with cur := some ⟨0x20, 0, 0, 0, false, true, false, false, 0x40, true⟩ }, by decide +kernel⟩,
   ⟨3, ⟨0x20, 0x80000001, 0xFFFFFC, 4, true, true, true, false, 0, true⟩, solo.modCrane 3 fun x => { x with cur := some ⟨0x20, 0x80000001, 0xFFFFFC, 4, true, true, true, false, 0, true⟩ }, by decide +kernel⟩,
   ⟨3, ⟨0x20, 0x104, 0xFFFF20, 200, true, false, false, false, 0, true⟩, solo.modCrane 3 fun x => { x with cur := some ⟨0x20, 0x104, 0xFFFF20, 200, true, false, false, false, 0, true⟩ }, by decide +kernel⟩,
   ⟨3, ⟨0x20, 0x1000, 0xFFFE00, 512, true, false, false, false, 0, true⟩, solo.modCrane 3 fun x => { x with cur := some ⟨0x20, 0x1000, 0xFFFE00, 512, true, false, false, false, 0, true⟩ }, by decide +kernel⟩,
   ⟨3, 0x1000000, solo.modCrane 3 fun x => { x with toRead := some 0x1000000 }, by decide +kernel⟩,
   ⟨3, 49, 4, ⟨0x20, 0x10310004, 0xFFFFF0, 4, true, true, false, false, 0, true⟩, (solo.modCrane 3 fun x => { x with cur := some ⟨0x20, 0x10310004, 0xFFFFF0, 4, true, true, false, false, 0, true⟩ }).modPort (fun p => { p with craneBeats := [(49, 1)] }) |>.fs F.CRN_ENGLIM_BEATS 1, by decide +kernel⟩,
   ⟨3, 49, 4, ⟨0x20, 0x10310004, 0xFFFFF0, 4, true, true, false, false, 0, true⟩, (solo.modCrane 3 fun x => { x with held := true, cur := some ⟨0x20, 0x10310004, 0xFFFFF0, 4, true, true, false, false, 0, true⟩ }).fs F.CRN_ENGLIM_BEATS 1, by decide +kernel⟩⟩

/-- The hypotheses of TheEthernetPorts can be met, clause by clause. -/
theorem wit_TheEthernetPorts :
    (∃ (s : State), s.up = true) ∧
    (∃ (s : State), s.up = true) ∧
    (∃ (s : State), s.up = true) ∧
    (∃ (p : Fin 2) (x : EthFrame) (s : State), s.up = true ∧ s.flagi F.NET_STAT_LINK p.val = true ∧ x.fcsOk = false) ∧
    (∃ (p : Fin 2) (x : EthFrame) (s : State), s.up = true ∧ s.flagi F.NET_STAT_LINK p.val = true ∧ x.fcsOk = true ∧ x.bytes.length + 4 < 64) ∧
    (∃ (p : Fin 2) (x : EthFrame) (s : State), s.up = true ∧ s.flagi F.NET_STAT_LINK p.val = true ∧ x.fcsOk = true ∧ 64 ≤ x.bytes.length + 4 ∧ x.bytes.length + 4 ≤ 1518 ∧ s.acceptsMac p.val (beAt x.bytes 0 6) = false) ∧
    (∃ (p : Fin 2) (x : EthFrame) (s : State), s.up = true ∧ s.flagi F.NET_STAT_LINK p.val = true ∧ x.fcsOk = true ∧ 64 ≤ x.bytes.length + 4 ∧ x.bytes.length + 4 ≤ 1518 ∧ beAt x.bytes 0 6 = macBroadcast ∧ beAt x.bytes 12 8 = 0x0806000108000604 ∧ beAt x.bytes 20 2 = 1 ∧ s.flagi F.NET_VLAN_EN p.val = false ∧ s.bit F.NET_ACFG_VALID p.val 0 = true ∧ beAt x.bytes 38 4 = s.entryAddr p.val 0 ∧ (s.net p.val).flying = none ∧ (s.net p.val).txq = [] ∧ s.pen.tx = [] ∧ s.port.nets.length = 2) ∧
    (∃ (p : Fin 2) (s : State), s.flagi F.NET_STAT_LINK p.val = true ∧ [0, 1, 2, 3].filter (s.ownInUse p.val) = [0] ∧ (s.net p.val).flying = none ∧ (s.net p.val).txq = [] ∧ s.pen.tx = [] ∧ s.port.nets.length = 2) ∧
    (∃ (p : Fin 2) (s : State), s.flagi F.NET_STAT_LINK p.val = true ∧ s.port.nets.length = 2) ∧
    (∃ (p : Fin 2) (r : List Announce) (s : State), s.flagi F.NET_STAT_LINK p.val = true ∧ s.ownInUse p.val 0 = true ∧ (s.net p.val).ann = ⟨0, s.coming⟩ :: r ∧ (r.all fun a => decide (a.due ≠ s.coming)) = true ∧ (s.net p.val).flying = none ∧ (s.net p.val).txq = [] ∧ s.pen.tx = [] ∧ s.port.nets.length = 2) ∧
    (∃ (p : Fin 2) (s : State), s.negotiates p.val = true ∧ s.port.nets.length = 2) ∧
    (∃ (p : Fin 2) (s : State), s.negotiates p.val = false) ∧
    (∃ (p : Fin 2) (s : State), (((s.net p.val).flies (s.fgi F.NET_PTXCMD_BUF p.val) = true ∨ s.fgi F.NET_PTXCMD_LEN p.val < 14 ∨ 256 < s.fgi F.NET_PTXCMD_LEN p.val))) ∧
    (∃ (p : Fin 2) (s : State), (((s.net p.val).flies (s.fgi F.NET_PTXCMD_BUF p.val) = true ∨ s.fgi F.NET_PTXCMD_LEN p.val < 14 ∨ 256 < s.fgi F.NET_PTXCMD_LEN p.val))) ∧
    (∃ (p : Fin 2) (s : State), s.flagi F.NET_STAT_LINK p.val = true ∧ 14 ≤ s.fgi F.NET_PTXCMD_LEN p.val ∧ s.fgi F.NET_PTXCMD_LEN p.val ≤ 256 ∧ (s.net p.val).flying = none ∧ (s.net p.val).txq = [] ∧ s.pen.tx = [] ∧ s.port.nets.length = 2) ∧
    (∃ (p : Fin 2) (b : Nat) (len : Nat) (base : Nat) (s : State), (s.net p.val).flying = some (.ptp b len true base) ∧ (s.net p.val).txq = [] ∧ s.pen.tx = [] ∧ b < 4 ∧ s.port.nets.length = 2) ∧
    (∃ (p : Fin 2) (bs : List Byte) (s : State), (s.net p.val).flying = some (.ctl bs) ∧ (s.net p.val).txq = [] ∧ s.pen.tx = [] ∧ s.port.nets.length = 2) :=
  ⟨⟨((solo.fs F.CKG_PLLSTAT_LOCK2 1).fsi F.NET_CFG_MODE 1 1).fsi F.NET_CFG_AN 1 1, by decide +kernel⟩,
   ⟨(((solo.fs F.CKG_PLLSTAT_LOCK2 1).fsi F.NET_CFG_MODE 1 1).fsi F.NET_CFG_AN 1 1).fsi F.NET_STAT_LINK 1 1, by decide +kernel⟩,
   ⟨(solo.fs F.CKG_PLLSTAT_LOCK2 1).fsi F.NET_CFG_MODE 1 3, by decide +kernel⟩,
   ⟨1, ⟨[], false, 0, 0⟩, solo.fsi F.NET_STAT_LINK 1 1, by decide +kernel⟩,
   ⟨1, ⟨List.replicate 59 0, true, 0, 0⟩, solo.fsi F.NET_STAT_LINK 1 1, by decide +kernel⟩,
   ⟨1, ⟨1 :: List.replicate 59 0, true, 0, 0⟩, solo.fsi F.NET_STAT_LINK 1 1, by decide +kernel⟩,
   ⟨1, ⟨beBytes 6 macBroadcast ++ beBytes 6 0x020304050607 ++ beBytes 2 0x0806 ++ arpBytes 1 0x020304050607 0x0A000001 0 0x0A000002 ++ List.replicate 18 0, true, 0, 0⟩, ((solo.fsi F.NET_STAT_LINK 1 1).setBit F.NET_ACFG_VALID 1 0 true).fsi F.NET_ADATAw_WORD 16 0x0A000002, by decide +kernel⟩,
   ⟨1, (solo.fsi F.NET_STAT_LINK 1 1).setBit F.NET_ACFG_VALID 1 0 true, by decide +kernel⟩,
   ⟨1, ((solo.fsi F.NET_STAT_LINK 1 1).setBit F.NET_ACFG_VALID 1 0 true).setBit F.NET_ACFG_VALID 1 1 true, by decide +kernel⟩,
   ⟨1, [⟨0, 100000⟩], ((({ solo with frame := 9999 }.fsi F.NET_STAT_LINK 1 1).setBit F.NET_ACFG_VALID 1 0 true).modNet 1 fun x => { x with ann := [⟨0, 10000⟩, ⟨0, 100000⟩] }), by decide +kernel⟩,
   ⟨1, ((solo.fsi F.NET_CFG_MODE 1 1).fsi F.NET_CFG_AN 1 1).fsi F.NET_STAT_LINK 1 1, by decide +kernel⟩,
   ⟨1, solo, by decide +kernel⟩,
   ⟨1, solo.fsi F.NET_PTXCMD_LEN 1 13, by decide +kernel⟩,
   ⟨1, (solo.fsi F.NET_PTXCMD_LEN 1 60).modNet 1 fun x => { x with flying := some (.ptp 0 60 false 0) }, by decide +kernel⟩,
   ⟨1, ((solo.fsi F.NET_STAT_LINK 1 1).fsi F.NET_PTXCMD_LEN 1 256).fsi F.NET_PTXCMD_TS 1 1, by decide +kernel⟩,
   ⟨1, 3, 60, 2, solo.modNet 1 fun x => { x with flying := some (.ptp 3 60 true 2) }, by decide +kernel⟩,
   ⟨1, [1], solo.modNet 1 fun x => { x with flying := some (.ctl [1]) }, by decide +kernel⟩⟩

/-- The hypotheses of TheMailbox can be met, clause by clause. -/
theorem wit_TheMailbox :
    (∃ (bs : List Byte) (p : SmbCall) (s : State), s.dev ≠ .off ∧ p.target.toNat = s.fg F.SBI_CFG_ADDR ∧ 1 ≤ bs.length ∧ bs.length ≤ 32 ∧ s.pecBad p.pec = false ∧ s.flag F.SBI_STAT_MBFULL = false) ∧
    (∃ (bs : List Byte) (p : SmbCall) (s : State), s.dev ≠ .off ∧ p.target.toNat = s.fg F.SBI_CFG_ADDR ∧ 1 ≤ bs.length ∧ bs.length ≤ 32 ∧ s.pecBad p.pec = false ∧ s.flag F.SBI_STAT_MBFULL = false) ∧
    (∃ (bs : List Byte) (p : SmbCall) (s : State), s.dev ≠ .off ∧ p.target.toNat = s.fg F.SBI_CFG_ADDR ∧ 1 ≤ bs.length ∧ bs.length ≤ 32 ∧ s.pecBad p.pec = false ∧ s.flag F.SBI_STAT_MBFULL = true) ∧
    (∃ (p : SmbCall) (s : State), p.target.toNat ≠ s.fg F.SBI_CFG_ADDR) ∧
    (∃ (s : State), s.up = true) ∧
    (∃ (s : State), s.up = true) ∧
    (∃ (s : State), s.dev ≠ .off ∧ s.flag F.SBI_STAT_MBPOST = true ∧ s.fg F.SBI_MBCTRL_RLEN ≤ 32) ∧
    (∃ (s : State), s.dev ≠ .off ∧ s.flag F.SBI_STAT_MBPOST = false) :=
  ⟨⟨(List.range 32).map fun k => BitVec.ofNat 8 (k + 200), ⟨0x5A, some true⟩, solo.fs F.SBI_CFG_PEC 1, by decide +kernel⟩,
   ⟨[7, 8, 9, 10, 11], ⟨0x5A, none⟩, solo, by decide +kernel⟩,
   ⟨[1], ⟨0x5A, none⟩, solo.fs F.SBI_STAT_MBFULL 1, by decide +kernel⟩,
   ⟨⟨1, none⟩, solo, by decide +kernel⟩,
   ⟨solo, by decide +kernel⟩,
   ⟨solo, by decide +kernel⟩,
   ⟨((solo.fs F.SBI_STAT_MBPOST 1).fs F.SBI_MBCTRL_RLEN 31).fsi F.SBI_MBRSPw_BYTES 7 0x01020304, by decide +kernel⟩,
   ⟨solo.fs F.SBI_MBCTRL_RLEN 31, by decide +kernel⟩⟩

/-- The hypotheses of TheHousekeepingPorts can be met, clause by clause. -/
theorem wit_TheHousekeepingPorts :
    (∃ (bs : List Byte) (p : SmbCall) (s : State), s.dev ≠ .off ∧ p.target.toNat = s.fg F.SBI_CFG_ADDR ∧ bs.length = 4 ∧ s.pecBad p.pec = false ∧ beNat bs % 4 = 0) ∧
    (∃ (bs : List Byte) (p : SmbCall) (s : State), s.dev ≠ .off ∧ p.target.toNat = s.fg F.SBI_CFG_ADDR ∧ ((bs.length ≠ 4 ∨ (s.pecBad p.pec = false ∧ beNat bs % 4 ≠ 0)))) ∧
    (∃ (bs : List Byte) (p : SmbCall) (s : State), s.dev ≠ .off ∧ p.target.toNat = s.fg F.SBI_CFG_ADDR ∧ ((bs.length ≠ 4 ∨ (s.pecBad p.pec = false ∧ beNat bs % 4 ≠ 0)))) ∧
    (∃ (bs : List Byte) (p : SmbCall) (s : State), s.dev ≠ .off ∧ p.target.toNat = s.fg F.SBI_CFG_ADDR ∧ bs.length = 4 ∧ s.pecBad p.pec = true) ∧
    (∃ (bs : List Byte) (p : SmbCall) (s : State), s.dev ≠ .off ∧ p.target.toNat = s.fg F.SBI_CFG_ADDR ∧ bs.length = 4 ∧ s.pecBad p.pec = true) ∧
    (∃ (c : SmbRead) (s : State), s.dev ≠ .off ∧ c.target.toNat = s.fg F.SBI_CFG_ADDR ∧ ((s.fg F.SBI_CFG_SCOPE = 0 ∨ s.dev = .safe)) ∧ s.port.sbi.addr < 0x1000000 ∧ s.beatBad s.port.sbi.addr = false ∧ s.port.flights = []) ∧
    (∃ (c : SmbRead) (s : State), s.dev ≠ .off ∧ c.target.toNat = s.fg F.SBI_CFG_ADDR ∧ ((s.fg F.SBI_CFG_SCOPE = 0 ∨ s.dev = .safe)) ∧ s.port.sbi.addr < 0x1000000 ∧ s.beatBad s.port.sbi.addr = false ∧ s.port.flights = []) ∧
    (∃ (c : SmbRead) (s : State), s.dev ≠ .off ∧ c.target.toNat = s.fg F.SBI_CFG_ADDR ∧ s.dev ≠ .safe ∧ s.fg F.SBI_CFG_SCOPE ≠ 0 ∧ s.port.sbi.addr < 0x40000000) ∧
    (∃ (bs : List Byte) (p : SmbCall) (s : State), s.dev ≠ .off ∧ p.target.toNat = s.fg F.SBI_CFG_ADDR ∧ bs.length = 4 ∧ s.pecBad p.pec = false ∧ ((s.fg F.SBI_CFG_SCOPE = 0 ∨ s.dev = .safe)) ∧ s.port.sbi.addr < 0x1000000 ∧ s.port.sbi.addr % 4 = 0 ∧ s.beatBad s.port.sbi.addr = false ∧ s.guarded s.port.sbi.addr = false ∧ s.port.flights = []) ∧
    (∃ (bs : List Byte) (p : SmbCall) (s : State), s.dev ≠ .off ∧ p.target.toNat = s.fg F.SBI_CFG_ADDR ∧ bs.length = 4 ∧ s.pecBad p.pec = false ∧ s.dev ≠ .safe ∧ s.fg F.SBI_CFG_SCOPE = 2) ∧
    (∃ (p : SmbCall) (s : State), p.target.toNat ≠ s.fg F.SBI_CFG_ADDR) ∧
    (∃ (p : SmbCall) (s : State), p.target.toNat ≠ s.fg F.SBI_CFG_ADDR) ∧
    (∃ (c : SmbRead) (s : State), c.target.toNat ≠ s.fg F.SBI_CFG_ADDR) ∧
    (∃ (c : SmbRead) (s : State), s.dev ≠ .off ∧ s.dev ≠ .safe ∧ c.target.toNat = s.fg F.SBI_CFG_ADDR ∧ s.fg F.SBI_CFG_SCOPE ≠ 0 ∧ 0x40190000 ≤ s.port.sbi.addr) ∧
    (∃ (s : State), s.dev ≠ .off) ∧
    (∃ (s : State), s.dev ≠ .off ∧ s.fg F.SBI_STAT_LAST < 256) ∧
    (∃ (s : State), s.dev ≠ .off) ∧
    (∃ (s : State), s.up = true ∧ s.flag F.SBI_UCFG_EN = true ∧ s.port.sbi.rx.length < 64) ∧
    (∃ (s : State), s.up = true ∧ s.flag F.SBI_UCFG_EN = true ∧ 64 ≤ s.port.sbi.rx.length) ∧
    (∃ (s : State), s.up = true ∧ s.flag F.SBI_UCFG_EN = true) ∧
    (∃ (s : State), s.up = true ∧ s.flag F.SBI_UCFG_EN = true) ∧
    (∃ (s : State), s.boot.supplies.getD 2 false = true) ∧
    (∃ (s : State), s.boot.supplies.getD 2 false = true) ∧
    (∃ (s : State), s.boot.supplies.getD 2 false = true) ∧
    (∃ (op : Fin 4) (a : Word) (s : State), ((op.val = 1 ∨ op.val = 2)) ∧ s.port.sbi.macStat ≠ 2 ∧ ((s.flag F.SBI_CFG_MEMDIS = true ∨ a.toNat % 4 ≠ 0))) ∧
    (∃ (op : Fin 4) (a : Word) (s : State), ((op.val = 1 ∨ op.val = 2)) ∧ s.port.sbi.macStat ≠ 2 ∧ ((s.flag F.SBI_CFG_MEMDIS = true ∨ a.toNat % 4 ≠ 0))) ∧
    (∃ (op : Fin 4) (s : State), ((op.val = 0 ∨ op.val = 3 ∨ s.port.sbi.macStat = 2))) ∧
    (∃ (op : Fin 4) (s : State), ((op.val = 0 ∨ op.val = 3 ∨ s.port.sbi.macStat = 2))) ∧
    (∃ (op : Fin 4) (s : State), ((op.val = 0 ∨ op.val = 3 ∨ s.port.sbi.macStat = 2))) ∧
    (∃ (op : Fin 4) (a : Word) (s : State), s.dev ≠ .off ∧ op.val = 1 ∧ s.port.sbi.macStat ≠ 2 ∧ s.port.flights = [] ∧ s.flag F.SBI_CFG_MEMDIS = false ∧ a.toNat % 4 = 0 ∧ a.toNat < 0x1000000 ∧ s.beatBad a.toNat = false) ∧
    (∃ (op : Fin 4) (a : Word) (s : State), s.dev ≠ .off ∧ op.val = 2 ∧ s.port.sbi.macStat ≠ 2 ∧ s.port.flights = [] ∧ s.flag F.SBI_CFG_MEMDIS = false ∧ a.toNat % 4 = 0 ∧ a.toNat < 0x1000000 ∧ s.beatBad a.toNat = false ∧ s.guarded a.toNat = false) ∧
    (∃ (op : Fin 4) (a : Word) (s : State), s.dev ≠ .off ∧ op.val = 2 ∧ s.port.sbi.macStat ≠ 2 ∧ s.port.flights = [] ∧ s.flag F.SBI_CFG_MEMDIS = false ∧ a.toNat % 4 = 0 ∧ a.toNat < 0x1000000 ∧ s.guarded a.toNat = true) ∧
    (∃ (op : Fin 4) (a : Word) (s : State), s.dev = .off ∧ ((op.val = 1 ∨ op.val = 2)) ∧ s.port.sbi.macStat ≠ 2 ∧ s.flag F.SBI_CFG_MEMDIS = false ∧ a.toNat % 4 = 0) ∧
    (∃ (a : Nat) (v : Nat) (s : State), s.mayLeaveOff = true ∧ s.port.sbi.macWait = some (1, v) ∧ s.port.sbi.macAddr = a ∧ a < 0x1000000 ∧ s.beatBad a = false ∧ s.port.flights = []) :=
  ⟨⟨[0x20, 1, 0, 4], ⟨0x5A, some true⟩, solo.fs F.SBI_CFG_PEC 1, by decide +kernel⟩,
   ⟨[0x20, 1, 0], ⟨0x5A, none⟩, solo, by decide +kernel⟩,
   ⟨[0x20, 1, 0, 2], ⟨0x5A, none⟩, solo, by decide +kernel⟩,
   ⟨[0x20, 1, 0, 4], ⟨0x5A, none⟩, solo.fs F.SBI_CFG_PEC 1, by decide +kernel⟩,
   ⟨[0x20, 1, 0, 4], ⟨0x5A, some false⟩, solo, by decide +kernel⟩,
   ⟨⟨0x5A, 5⟩, (solo.memPut 0xFFFFFC [1, 2, 3, 4]).modSbi fun x => { x with addr := 0xFFFFFC }, by decide +kernel⟩,
   ⟨⟨0x5A, 5⟩, (((at_ .safe).fs F.SBI_CFG_SCOPE 2).fs F.SBI_CFG_PEC 1).fs F.SBI_CFG_ADDR 0x5A, by decide +kernel⟩,
   ⟨⟨0x5A, 5⟩, solo.fs F.SBI_CFG_SCOPE 1, by decide +kernel⟩,
   ⟨[1, 2, 3, 4], ⟨0x5A, none⟩, solo.modSbi fun x => { x with addr := 0xFFFFFC }, by decide +kernel⟩,
   ⟨[1, 2, 3, 4], ⟨0x5A, none⟩, solo.fs F.SBI_CFG_SCOPE 2, by decide +kernel⟩,
   ⟨⟨1, none⟩, solo, by decide +kernel⟩,
   ⟨⟨1, none⟩, solo, by decide +kernel⟩,
   ⟨⟨1, 0⟩, solo, by decide +kernel⟩,
   ⟨⟨0x5A, 0⟩, (solo.fs F.SBI_CFG_SCOPE 1).modSbi fun x => { x with addr := 0x40190000 }, by decide +kernel⟩,
   ⟨solo, by decide +kernel⟩,
   ⟨solo.fs F.SBI_STAT_LAST 6, by decide +kernel⟩,
   ⟨at_ .safe, by decide +kernel⟩,
   ⟨(solo.fs F.SBI_UCFG_EN 1).modSbi fun x => { x with rx := List.replicate 63 1 }, by decide +kernel⟩,
   ⟨(solo.fs F.SBI_UCFG_EN 1).modSbi fun x => { x with rx := List.replicate 64 1 }, by decide +kernel⟩,
   ⟨solo.fs F.SBI_UCFG_EN 1, by decide +kernel⟩,
   ⟨((solo.fs F.SBI_UCFG_EN 1).fs F.SBI_UCFG_TXTH 3).modSbi fun x => { x with tx := [1, 2, 3] }, by decide +kernel⟩,
   ⟨powered .solo, by decide +kernel⟩,
   ⟨powered .solo, by decide +kernel⟩,
   ⟨powered .solo, by decide +kernel⟩,
   ⟨1, 2, solo, by decide +kernel⟩,
   ⟨2, 4, solo.fs F.SBI_CFG_MEMDIS 1, by decide +kernel⟩,
   ⟨0, solo, by decide +kernel⟩,
   ⟨2, solo.modSbi fun x => { x with macStat := 2 }, by decide +kernel⟩,
   ⟨3, solo, by decide +kernel⟩,
   ⟨1, 0xFFFFFC, solo.memPut 0xFFFFFC [1, 2], by decide +kernel⟩,
   ⟨2, 0xFFFFFC, solo, by decide +kernel⟩,
   ⟨2, 0, solo, by decide +kernel⟩,
   ⟨2, 4, State.reset, by decide +kernel⟩,
   ⟨0x40, 0, (powered .off).modSbi fun x => { x with ir := 0x20, macStat := 2, macAddr := 0x40, macWait := some (1, 0) }, by decide +kernel⟩⟩

end Sys2Proof.Tests
end

section
/-! PROOF. Register fields and counters (00 R2, R4, R13): the places of the register store do not meet, so a field holds
what is written to it and no other field moves; and a counter stops at all ones. -/
namespace Sys2Proof.Machine

/-! ### Places of the register store -/

/-- Two places of the store are one only for the same field and the same instance. -/
theorem Fld.key_inj (f g : Fld) (i j : Nat) (hi : i < 16384) (hj : j < 16384) :
    g.key j = f.key i ↔ g.id = f.id ∧ j = i := by
  unfold Fld.key
  rw [Nat.mod_eq_of_lt hi, Nat.mod_eq_of_lt hj]
  omega

/-- A write moves no field whose place is another. -/
theorem State.fgi_fsi_of_key_ne (s : State) (f g : Fld) (i j v : Nat) (h : g.key j ≠ f.key i) :
    (s.fsi f i v).fgi g j = s.fgi g j := by
  unfold State.fgi
  rw [State.fsi_regs, tget_tset_ne _ _ _ _ _ h]

/-- Settles O9: a field reads back its write by `State.fgi_fsi`; another field, or another instance, has another place
in the store. -/
theorem registerReadsBackItsWrite : Obligations.RegisterReadsBackItsWrite := by
  intro s f g i j v hi hj
  refine ⟨State.fgi_fsi s f i v, fun hne => ?_⟩
  have hkey : g.key j ≠ f.key i := by
    rw [Ne, Fld.key_inj f g i j hi hj]
    exact not_and_or.mpr hne
  exact State.fgi_fsi_of_key_ne s f g i j v hkey

/-! ### Counters -/

/-- What a counter holds after `n` is added: the sum, bounded by all ones. The bound fits the field, so nothing is lost
to its width. -/
@[simp] theorem State.fgi_addi (s : State) (f : Fld) (i n : Nat) :
    (s.addi f i n).fgi f i = min (s.fgi f i + n) (2 ^ f.width - 1) := by
  have hfit : min (s.fgi f i + n) (2 ^ f.width - 1) < 2 ^ f.width :=
    (Nat.min_le_right _ _).trans_lt (Nat.sub_one_lt (Nat.two_pow_pos f.width).ne')
  exact (State.fgi_fsi s f i _).trans (Nat.mod_eq_of_lt hfit)

/-- Settles O10: the sum, all ones, or at least the old value, as the bound of `State.fgi_addi` is met or not; the old
value itself never exceeds all ones. -/
theorem countersSaturate : Obligations.CountersSaturate := by
  intro s f i n
  have hold : s.fgi f i ≤ 2 ^ f.width - 1 := Nat.le_sub_one_of_lt (State.fgi_lt s f i)
  rw [State.fgi_addi]
  refine ⟨fun hfits => ?_, fun hover => ?_, ?_⟩
  · exact Nat.min_eq_left (Nat.le_sub_one_of_lt hfits)
  · exact Nat.min_eq_right ((Nat.sub_le _ 1).trans hover)
  · exact Nat.le_min.mpr ⟨Nat.le_add_right _ n, hold⟩

end Sys2Proof.Machine
end

section
/-! PROOF. What an operation leaves alone, read off its extent; the bits of a register field; entries of the fault log. -/
namespace Sys2Proof.Machine

/-! ### Parts and register fields that an operation leaves -/

section
variable {s t : State}

theorem dev_kept (h : State.seen (.butPart .dev) t = State.seen (.butPart .dev) s) : t.dev = s.dev :=
  dev_of_seen _ _ _ h (by decide)

theorem frame_kept (h : State.seen (.butPart .frame) t = State.seen (.butPart .frame) s) : t.frame = s.frame :=
  frame_of_seen _ _ _ h (by decide)

theorem time_kept (h : State.seen (.butPart .time) t = State.seen (.butPart .time) s) : t.time = s.time :=
  time_of_seen _ _ _ h (by decide)

theorem fab_kept (h : State.seen (.butPart .fab) t = State.seen (.butPart .fab) s) : t.fab = s.fab :=
  fab_of_seen _ _ _ h (by decide)

theorem seqs_kept (h : State.seen (.butPart .seqs) t = State.seen (.butPart .seqs) s) : t.seqs = s.seqs :=
  seqs_of_seen _ _ _ h (by decide)

end

/-- Everything but what start-up keeps (`State.boot`) and the OTP array in it. -/
def Extent.butBoot : Extent := ⟨Part.pending :: mostParts.filter fun x => decide (x ≠ .boot), true, []⟩

theorem boot_kept {s t : State} (h : State.seen .butBoot t = State.seen .butBoot s) : t.boot = s.boot :=
  boot_of_seen _ _ _ h (by decide) (by decide)

/-- Nothing but registers. -/
def Extent.regsOnly : Extent := ⟨[], true, []⟩

/-! ### Register fields and their bits -/

section
variable (s : State)

theorem State.fg_fs (f : Fld) (v : Nat) : (s.fs f v).fg f = v % 2 ^ f.width := State.fgi_fsi s f 0 v

theorem State.fg_fs_ne {f g : Fld} (v : Nat) (h : g.id ≠ f.id) : (s.fs f v).fg g = s.fg g := State.fgi_fsi_ne s f g 0 0 v h

/-- A bit set by `setBits` is the bit or-ed in. -/
theorem setBits_one_eq_or (v b : Nat) : setBits v b 1 1 = v ||| 2 ^ b := by
  have hlow : v % 2 ^ b < 2 ^ b := Nat.mod_lt _ (Nat.two_pow_pos b)
  have hmid : 2 ^ b * 1 + v % 2 ^ b < 2 ^ (b + 1) := by rw [pow_succ]; omega
  have hsum : setBits v b 1 1 = 2 ^ (b + 1) * (v / 2 ^ (b + 1)) + (2 ^ b * 1 + v % 2 ^ b) := by
    simp [setBits, Nat.mul_comm, Nat.add_assoc]
  refine Nat.eq_of_testBit_eq fun j => ?_
  rw [hsum, Nat.testBit_two_pow_mul_add _ hmid, Nat.testBit_two_pow_mul_add _ hlow, Nat.testBit_or,
    Nat.testBit_two_pow, Nat.testBit_mod_two_pow, Nat.testBit_div_two_pow]
  rcases Nat.lt_trichotomy j b with h | rfl | h
  · simp [h, Nat.lt_succ_of_lt h, Nat.ne_of_gt h]
  · simp
  · have h1 : ¬ j < b + 1 := by omega
    rw [if_neg h1, Nat.sub_add_cancel (Nat.le_of_not_lt h1), decide_eq_false (Nat.ne_of_lt h), Bool.or_false]

/-- A field whose bit is set holds it besides what it held. -/
theorem State.setBit_true_fgi (f : Fld) (i b : Nat) :
    (s.setBit f i b true).fgi f i = (s.fgi f i ||| 2 ^ b) % 2 ^ f.width := by
  unfold State.setBit
  rw [State.fgi_fsi, show b2n true = 1 from rfl, setBits_one_eq_or]

/-- A sticky bit is set once its event has come. -/
theorem State.sticky_flagi (f : Fld) (i src : Nat) (hw : 1 ≤ f.width)
    (hf : (Extent.mk [.seqs] false raiseFlds).r f = false) : (s.sticky f i src).flagi f i = true := by
  unfold State.sticky
  split
  · assumption
  · have hraise : ((s.fsi f i 1).raise src).fgi f i = (s.fsi f i 1).fgi f i :=
      State.fgi_of_seen _ _ _ f i (State.raise_seen _ _ src (by decide)) hf
    have hone : 1 % 2 ^ f.width = 1 := Nat.mod_eq_of_lt (Nat.one_lt_two_pow (Nat.one_le_iff_ne_zero.mp hw))
    simp [State.flagi, hraise, hone]

/-- R449: an event on a source leaves it pending. -/
theorem State.raise_pend (src : Nat) : (s.raise src).pend src = true := by
  have hwake : ∀ t : State, (t.noteWake src).pend src = t.pend src := fun t =>
    congrArg (fun v => v.testBit (src % 32)) (State.fgi_of_seen ⟨[.seqs], false, []⟩ t _ F.ICU_PENDw_SRC _
      (State.noteWake_seen _ t src (by decide)) (by decide))
  unfold State.raise
  rw [hwake]
  split
  · rename_i hpend
    have hkept : ((s.setBit F.ICU_OVRw_SRC (src / 32) (src % 32) true).bump F.ICU_LOSTCNT).fgi F.ICU_PENDw_SRC (src / 32) =
        s.fgi F.ICU_PENDw_SRC (src / 32) :=
      (State.fgi_fsi_ne _ _ _ _ _ _ (by decide)).trans (State.fgi_fsi_ne _ _ _ _ _ _ (by decide))
    unfold State.pend State.bit
    rw [hkept]
    exact hpend
  · have hset : (s.setPend src true).fgi F.ICU_PENDw_SRC (src / 32) =
        (s.fgi F.ICU_PENDw_SRC (src / 32) ||| 2 ^ (src % 32)) % 2 ^ 32 := State.setBit_true_fgi s _ _ _
    have hbit : src % 32 < 32 := Nat.mod_lt _ (by decide)
    unfold State.pend State.bit
    rw [hset, Nat.testBit_mod_two_pow, Nat.testBit_or, Nat.testBit_two_pow]
    simp [hbit]

/-! ### Entries of the fault log -/

/-- R514: of the ports, an entry of the log changes the health report alone. -/
theorem State.logEntry_port (e : FaultEntry) : ∃ h, (s.logEntry e).port = { s.port with health := h } := by
  unfold State.logEntry
  dsimp only
  split_ifs
  · exact ⟨_, rfl⟩
  · exact ⟨_, rfl⟩

theorem State.logSev_port (code sev index detail : Nat) :
    ∃ h, (s.logSev code sev index detail).port = { s.port with health := h } := by
  unfold State.logSev
  dsimp only
  cases s.log.cycle with
  | none =>
    split_ifs
    · exact State.logEntry_port s _
    · exact State.logEntry_port s _
  | some l =>
    split_ifs
    · exact ⟨_, rfl⟩
    · exact ⟨_, rfl⟩

/-- R511: an event of severity 1 or more sets the bit of its class in FLTSTAT. -/
theorem State.logSev_class (code index detail : Nat) {sev : Nat} (hsev : 1 ≤ sev) :
    (s.logSev code sev index detail).fg F.DBG_FLTSTAT_CLASS =
      (s.fg F.DBG_FLTSTAT_CLASS ||| 2 ^ (code / 4096)) % 2 ^ 16 := by
  unfold State.logSev
  dsimp only
  rw [if_pos hsev]
  refine (State.setBit_true_fgi _ _ _ _).trans ?_
  cases s.log.cycle with
  | none =>
    have hentry : ∀ e, (s.logEntry e).fgi F.DBG_FLTSTAT_CLASS 0 = s.fgi F.DBG_FLTSTAT_CLASS 0 := fun e =>
      State.fgi_of_seen ⟨[.log, .port], false, []⟩ _ _ _ 0 (State.logEntry_seen _ s e (by decide)) (by decide)
    exact congrArg (fun v => (v ||| 2 ^ (code / 4096)) % 2 ^ 16) (hentry _)
  | some l => rfl

end

end Sys2Proof.Machine
end

section
/-! PROOF. Entry into SAFE (R516, R517) and into OFF (R410, R519), whatever leads there: what the device shows afterwards. -/
namespace Sys2Proof.Machine

/-! ### Entry into SAFE (R516, R517) -/

/-- What calibration and the blocks change as they stop for SAFE: not the AON domain's record of why. -/
def Extent.stopping : Extent :=
  ⟨[.dev, .auth, .seqs, .time, .fab, .quays, .lanes, .pen, .mir, .boot, .cal, .port], false,
    raiseFlds ++ [F.CAL_ABANDCNT, F.CAL_UCAP_ABANDON, F.CAL_USTAT_RESULT, F.CAL_USTAT_STATE, F.CKG_PLLSTAT_LOCK0,
      F.CKG_PLLSTAT_LOCK1, F.CKG_PLLSTAT_LOCK2, F.NET_STAT_LINK, F.NET_STAT_LINKCHG, F.NET_TXDROP, F.QY_DRVSTAT_AUTH,
      F.QY_LNKSTAT_STATE, F.QY_LNKSTAT_TLOCK, F.QY_LNKSTAT_ULOCK]⟩

theorem stopping_seen (s : State) : State.seen .stopping (safeEffects (calLeave s)) = State.seen .stopping s := by
  rw [safeEffects_seen _ _ (by decide), calLeave_seen _ _ (by decide)]

section
variable (xs : List Fatal) (s : State)

@[simp] theorem enterSafe_dev : (enterSafe xs s).dev = .safe := rfl
@[simp] theorem enterSafe_auth : (enterSafe xs s).auth = false := rfl
@[simp] theorem enterSafe_hbtOut : (enterSafe xs s).mir.hbtOut = false := rfl
@[simp] theorem enterSafe_actOut : (enterSafe xs s).mir.actOut = false := rfl
@[simp] theorem enterSafe_ppsOut : (enterSafe xs s).time.ppsOut = false := rfl
@[simp] theorem enterSafe_due : (enterSafe xs s).port.safe.due = [] := rfl

theorem enterSafe_frame : (enterSafe xs s).frame = s.frame := frame_kept (enterSafe_seen _ xs s (by decide))

/-- What entry into SAFE leaves of the registers: every field outside those of its extent. -/
theorem enterSafe_fgi (f : Fld) (i : Nat) (hf : (extentOf .thermalTrip).r f = false) :
    (enterSafe xs s).fgi f i = s.fgi f i :=
  State.fgi_of_seen _ _ _ f i (enterSafe_seen _ xs s (by decide)) hf

/-- The causes of SAFE in the order in which they are logged. -/
def byCode (xs : List Fatal) : List Fatal := xs.insertionSort fun a b => a.code ≤ b.code

/-- What entry into SAFE logs of its causes. -/
def safeLog (xs : List Fatal) (s : State) : State :=
  let s := xs.foldl (fun s x => if x.logged = none then s.logFault x.code x.index x.detail else s) s
  { s with log := s.log.flush }

/-- What entry into SAFE records of its causes in the AON domain. -/
def safeRecord (xs : List Fatal) (s : State) : State :=
  let s := match xs with
    | x :: _ => (s.fs F.DBG_LASTSAFE_CODE x.code).fs F.DBG_LASTSAFEF_FRAME (x.logged.getD s.frame)
    | [] => s
  s.when (xs.any fun x => decide (x.code = 0x2004) || decide (x.code = 0x2002)) fun s => s.fs F.TMP_AONSTAT_TRIPPED 1

/-- Entry into SAFE logs its causes, records them, and then stops everything. -/
theorem enterSafe_eq : enterSafe xs s =
    (safeEffects (calLeave (safeRecord (byCode xs) (safeLog (byCode xs) s)))).modPort fun p =>
      { p with safe := ⟨[], (byCode xs).any fun x => decide (x.code = 0xA001), none⟩ } := rfl

/-- A register field that no block changes as it stops shows, in SAFE, what was recorded. -/
theorem enterSafe_fgi_recorded (f : Fld) (i : Nat) (hf : Extent.stopping.r f = false) :
    (enterSafe xs s).fgi f i = (safeRecord (byCode xs) (safeLog (byCode xs) s)).fgi f i := by
  rw [enterSafe_eq, State.modPort_fgi]
  exact State.fgi_of_seen _ _ _ f i (stopping_seen _) hf

theorem safeLog_boot : (safeLog xs s).boot = s.boot := by
  refine boot_kept ((seen_log _ _ _ (by decide)).trans (foldl_seen _ _ _ _ fun s x => ?_))
  by_cases h : x.logged = none
  · simpa only [h, if_true] using State.logFault_seen _ _ _ _ _ (by decide)
  · simp only [h, if_false]

theorem safeRecord_boot : (safeRecord xs s).boot = s.boot := by
  unfold safeRecord State.when
  cases xs with
  | nil => rfl
  | cons x l => dsimp only; split <;> rfl

theorem safeEffects_boot : (safeEffects s).boot = { s.boot with pll := [false, false, false] } := by
  have hlanes : (lanesOff s).boot = s.boot := boot_kept (lanesOff_seen _ s (by decide))
  have hlink : ∀ p s, (setLink p false s).boot = s.boot := fun p s => boot_kept (setLink_seen _ p false s (by decide))
  have h : (setLink 1 false (setLink 0 false (lanesOff s))).boot = s.boot := by rw [hlink, hlink, hlanes]
  exact congrArg (fun b : BootSt => { b with pll := [false, false, false] }) h

/-- Of what start-up keeps, entry into SAFE changes the locks of the PLLs alone. -/
theorem enterSafe_boot : (enterSafe xs s).boot = { s.boot with pll := [false, false, false] } := by
  rw [enterSafe_eq, State.modPort_boot, safeEffects_boot, boot_kept (calLeave_seen _ _ (by decide)), safeRecord_boot,
    safeLog_boot]

theorem safeRecord_code (x : Fatal) (l : List Fatal) :
    (safeRecord (x :: l) s).fg F.DBG_LASTSAFE_CODE = x.code % 2 ^ 16 := by
  have hcode : ∀ t : State, ((t.fs F.DBG_LASTSAFE_CODE x.code).fs F.DBG_LASTSAFEF_FRAME (x.logged.getD t.frame)).fg
      F.DBG_LASTSAFE_CODE = x.code % 2 ^ 16 := fun t => (State.fg_fs_ne _ _ (by decide)).trans (State.fg_fs _ _ _)
  unfold safeRecord State.when
  dsimp only
  split
  · exact (State.fg_fs_ne _ _ (by decide)).trans (hcode s)
  · exact hcode s

theorem safeRecord_tripped (h : (xs.any fun x => decide (x.code = 0x2004) || decide (x.code = 0x2002)) = true) :
    (safeRecord xs s).fg F.TMP_AONSTAT_TRIPPED = 1 := by
  unfold safeRecord State.when
  rw [if_pos h]
  exact State.fg_fs _ _ _

/-- R516: the cause of SAFE is kept. -/
theorem enterSafe_code (x : Fatal) : (enterSafe [x] s).fg F.DBG_LASTSAFE_CODE = x.code % 2 ^ 16 :=
  (enterSafe_fgi_recorded _ _ _ _ (by decide)).trans (safeRecord_code _ x [])

theorem any_byCode (p : Fatal → Bool) : (byCode xs).any p = xs.any p :=
  (List.perm_insertionSort _ xs).any_eq

/-- R382: a trip, or too few sensors, among the causes shows in TRIPPED. -/
theorem enterSafe_tripped (h : (xs.any fun x => decide (x.code = 0x2004) || decide (x.code = 0x2002)) = true) :
    (enterSafe xs s).fg F.TMP_AONSTAT_TRIPPED = 1 :=
  (enterSafe_fgi_recorded _ _ _ _ (by decide)).trans (safeRecord_tripped _ _ ((any_byCode xs _).trans h))

/-- R517: what stops for SAFE ends with the locks of the PLLs. -/
theorem safeEffects_lock (p : Fin 3) : (safeEffects s).fg (pllFlds p.val).1 = 0 := by
  have hlocks : ∀ t : State, (((t.fs F.CKG_PLLSTAT_LOCK0 0).fs F.CKG_PLLSTAT_LOCK1 0).fs F.CKG_PLLSTAT_LOCK2 0).fg
      (pllFlds p.val).1 = 0 := fun t => by
    unfold State.fs State.fg
    fin_cases p <;> simp (disch := decide) only [pllFlds, State.fgi_fsi_ne, State.fgi_fsi, Nat.zero_mod]
  exact hlocks _

theorem enterSafe_lock (p : Fin 3) : (enterSafe xs s).fg (pllFlds p.val).1 = 0 := by
  rw [enterSafe_eq]
  exact (State.modPort_fgi _ _ _ 0).trans (safeEffects_lock _ p)

end

/-! ### Entry into OFF with VDDAON good (R410, R519) -/

theorem foldl_fs_seen (s : State) (l : List Fld) (v : Fld → Nat) :
    State.seen .regsOnly (l.foldl (fun t f => t.fs f (v f)) s) = State.seen .regsOnly s :=
  foldl_seen _ _ _ _ fun t f => State.fs_seen _ t f _ rfl

/-- Writes of other fields leave a field. -/
theorem foldl_fs_fg_ne (s : State) (l : List Fld) (v : Fld → Nat) (f : Fld) (h : ∀ g ∈ l, f.id ≠ g.id) :
    (l.foldl (fun t g => t.fs g (v g)) s).fg f = s.fg f := by
  induction l generalizing s with
  | nil => rfl
  | cons g l ih =>
    obtain ⟨hg, hl⟩ := List.forall_mem_cons.mp h
    exact (ih _ hl).trans (State.fg_fs_ne s _ hg)

/-- A field written once in a row of writes of distinct fields holds what was written. -/
theorem foldl_fs_fg (s : State) (l : List Fld) (v : Fld → Nat) (f : Fld) (hf : f ∈ l) (hl : (l.map Fld.id).Nodup) :
    (l.foldl (fun t g => t.fs g (v g)) s).fg f = v f % 2 ^ f.width := by
  induction l generalizing s with
  | nil => cases hf
  | cons g l ih =>
    obtain ⟨hg, hnd⟩ := List.nodup_cons.mp hl
    rcases List.mem_cons.mp hf with rfl | hmem
    · rw [List.foldl_cons, foldl_fs_fg_ne _ l v f fun k hk heq => hg (heq ▸ List.mem_map_of_mem hk)]
      exact State.fg_fs s f _
    · exact ih _ hmem hnd

theorem aonFlds_nodup : (aonFlds.map Fld.id).Nodup := by decide

section
variable {s : State} (cause : Fld) (hs : s.boot.supplies.getD 2 false = true)
include hs

/-- Entry into OFF with VDDAON good, written out: the registers of the AON domain are carried over the reset. -/
theorem enterOff_eq :
    enterOff cause s =
      (let kept := aonFlds.foldl (fun t f => t.fs f (s.fg f)) (offState s)
       (if s.dev = .off then kept else kept.fs F.DBG_LASTSAFE_AUTO 0).fs cause 1) := by
  unfold enterOff offFor
  rw [if_neg (ne_false_of_eq_true hs)]
  rfl

/-- Outside the registers the device is as `offState` leaves it. -/
theorem enterOff_seen_offState :
    State.seen .regsOnly (enterOff cause s) = State.seen .regsOnly (offState s) := by
  rw [enterOff_eq cause hs]
  dsimp only
  rw [State.fs_seen _ _ _ _ rfl]
  split
  · exact foldl_fs_seen _ _ _
  · rw [State.fs_seen _ _ _ _ rfl, foldl_fs_seen]

theorem enterOff_dev : (enterOff cause s).dev = .off :=
  dev_of_seen _ _ _ (enterOff_seen_offState cause hs) rfl

theorem enterOff_auth : (enterOff cause s).auth = false :=
  auth_of_seen _ _ _ (enterOff_seen_offState cause hs) rfl

theorem enterOff_shut : (enterOff cause s).cal.shut = s.cal.shut := by
  have h : (enterOff cause s).cal = (offState s).cal := cal_of_seen _ _ _ (enterOff_seen_offState cause hs) rfl
  rw [h]; rfl

theorem enterOff_cause : (enterOff cause s).fg cause = 1 % 2 ^ cause.width := by
  rw [enterOff_eq cause hs]
  exact State.fg_fs _ _ _

/-- A register of the AON domain but for AUTO and the cause shows in OFF what it showed before. -/
theorem enterOff_fg_kept (f : Fld) (hf : f ∈ aonFlds) (hauto : f.id ≠ F.DBG_LASTSAFE_AUTO.id)
    (hcause : f.id ≠ cause.id) : (enterOff cause s).fg f = s.fg f := by
  have hkept : (aonFlds.foldl (fun t g => t.fs g (s.fg g)) (offState s)).fg f = s.fg f :=
    (foldl_fs_fg _ _ _ f hf aonFlds_nodup).trans (Nat.mod_eq_of_lt (State.fgi_lt s f 0))
  rw [enterOff_eq cause hs]
  refine (State.fg_fs_ne _ _ hcause).trans ?_
  split
  · exact hkept
  · exact (State.fg_fs_ne _ _ hauto).trans hkept

end

/-! ### Causes of SAFE that wait for the tick (R382, R516) -/

theorem safeDue_due (x : Fatal) (s : State) : ((safeDue x s).port.safe.due.any fun y => y.code == x.code) = true := by
  unfold safeDue
  split
  · rename_i h; exact h
  · simp

section
variable {s : State}

theorem safeTick_of_due (hdue : s.port.safe.due ≠ []) (hclk : s.clocked = true)
    (hlock : s.flag F.CKG_PLLSTAT_LOCK0 = true) :
    safeTick s = enterSafe s.port.safe.due { advanceBases s with frame := s.coming } := by
  unfold safeTick safeAtTick
  rw [if_pos ⟨hdue, hclk, hlock⟩]
  exact if_neg hdue

theorem State.due_of_tripDue (h : s.tripDue = true) : s.port.safe.due ≠ [] := fun hnil => by
  simp [State.tripDue, hnil] at h

end

end Sys2Proof.Machine
end

section
/-! PROOF. The reference monitor, the loss of a PLL's lock, the thermal limits and the restarts (R55, R56, R382, R383, R516,
R518, R519). -/
namespace Sys2Proof.Machine

/-! ### The reference monitor (R55) -/

/-- What every reference window leaves: its count, and whether it was out of range. -/
def refNote (s : State) (edges : Nat) (bad : Bool) : State :=
  { s.fs F.CKG_REFMON (Nat.min 255 edges) with boot := { s.boot with refOut := bad } }

section
variable {s : State} {edges : Nat} (hs : s.boot.supplies.getD 2 false = true)
include hs

theorem refWindow_good (hlo : 85 ≤ edges) (hhi : edges ≤ 115) :
    refWindow edges s = (refNote s edges false).fs F.CKG_PLLSTAT_REFOK 1 := by
  have hbad : (decide (edges < 85) || decide (115 < edges)) = false := by simp; omega
  unfold refWindow
  rw [if_neg (ne_false_of_eq_true hs), hbad]
  rfl

theorem refWindow_firstBad (hbad : edges < 85 ∨ 115 < edges) (hout : s.boot.refOut = false) :
    refWindow edges s = refNote s edges true := by
  have hbad : (decide (edges < 85) || decide (115 < edges)) = true := by simpa using hbad
  unfold refWindow
  rw [if_neg (ne_false_of_eq_true hs), hbad, hout]
  rfl

theorem refWindow_secondBad (hbad : edges < 85 ∨ 115 < edges) (hout : s.boot.refOut = true) :
    refWindow edges s =
      (let lost := ((refNote s edges true).fs F.CKG_PLLSTAT_REFOK 0).fs F.CKG_PLLSTAT_REFLOSS 1
       if s.up then enterSafe [⟨0x1001, noIndex, Nat.min 255 edges, none⟩] lost else lost) := by
  have hbad : (decide (edges < 85) || decide (115 < edges)) = true := by simpa using hbad
  unfold refWindow
  rw [if_neg (ne_false_of_eq_true hs), hbad, hout]
  rfl

end

/-! ### Links taken down (R483, R495) -/

/-- What the change of a port's link may change but for the link itself. -/
def Extent.linkWork : Extent := ⟨[.seqs, .pen, .port], false, raiseFlds ++ [F.NET_STAT_LINKCHG, F.NET_TXDROP]⟩

/-- R483, R495: what follows a link taken down is its change bit, its source and the frames discarded. -/
theorem setLink_down_seen (s : State) {p : Nat} (h : s.flagi F.NET_STAT_LINK p = true) :
    State.seen .linkWork (setLink p false s) = State.seen .linkWork (s.fbi F.NET_STAT_LINK p false) := by
  unfold setLink
  rw [if_neg (by simp [h]), if_neg Bool.false_ne_true, dropFrames_seen _ _ _ (by decide),
    State.raise_seen _ _ _ (by decide), State.fsi_seen _ _ _ _ _ (by decide)]

theorem setLink_down_of_down (s : State) {p : Nat} (h : s.flagi F.NET_STAT_LINK p = false) : setLink p false s = s :=
  if_pos h

theorem setLink_down (s : State) (p : Nat) : (setLink p false s).flagi F.NET_STAT_LINK p = false := by
  cases h : s.flagi F.NET_STAT_LINK p with
  | false => rwa [setLink_down_of_down s h]
  | true =>
    have hlink : (setLink p false s).fgi F.NET_STAT_LINK p = 0 :=
      (State.fgi_of_seen _ _ _ _ p (setLink_down_seen s h) (by decide)).trans (State.fgi_fsi _ _ _ _)
    simp [State.flagi, hlink]

/-- The link of the other port stays as it is. -/
theorem setLink_down_other (s : State) {p r : Nat} (hp : p < 16384) (hr : r < 16384) (hne : r ≠ p) :
    (setLink p false s).flagi F.NET_STAT_LINK r = s.flagi F.NET_STAT_LINK r := by
  cases h : s.flagi F.NET_STAT_LINK p with
  | false => rw [setLink_down_of_down s h]
  | true =>
    have hlink : (setLink p false s).fgi F.NET_STAT_LINK r = s.fgi F.NET_STAT_LINK r :=
      (State.fgi_of_seen _ _ _ _ r (setLink_down_seen s h) (by decide)).trans
        (State.fgi_fsi_inst _ _ _ _ _ hne hp hr)
    simp [State.flagi, hlink]

/-! ### Loss of lock (R56) -/

theorem pllFlds_ne : ∀ p : Fin 3, (pllFlds p.val).1.id ≠ (pllFlds p.val).2.id := by decide

theorem pllFlds_lol_width : ∀ p : Fin 3, (pllFlds p.val).2.width = 1 := by decide

/-- Entry into SAFE leaves the record of a lost lock. -/
theorem pllFlds_lol_kept : ∀ p : Fin 3, (extentOf .thermalTrip).r (pllFlds p.val).2 = false := by decide

/-- What the loss of a PLL's lock clears, whatever follows. -/
def pllUnlock (s : State) (p : Nat) : State :=
  { s.fs (pllFlds p).1 0 with boot := { s.boot with pll := setAt s.boot.pll p false } }

theorem pllLoss_core {s : State} {p : Nat} (hp : p < 2) (h : s.flag (pllFlds p).1 = true) :
    pllLoss p s =
      (let lost := (pllUnlock s p).fs (pllFlds p).2 1
       if s.up then enterSafe [⟨0x1002, noIndex, p, none⟩] lost else lost) := by
  unfold pllLoss
  rw [if_neg (ne_false_of_eq_true h), if_neg (Nat.ne_of_lt hp)]
  rfl

/-- What the loss of PLL2 may change beyond its own flags: the log, and the ports. -/
def Extent.portsDown : Extent :=
  ⟨[.seqs, .log, .pen, .port], false,
    raiseFlds ++ [F.DBG_FLTSTAT_CLASS, F.NET_STAT_LINK, F.NET_STAT_LINKCHG, F.NET_TXDROP]⟩

/-- PLL2 out of lock, before what follows from it. -/
def pllLostNet (s : State) : State := (pllUnlock s 2).sticky F.CKG_PLLSTAT_LOL2 0 133

theorem pllLostNet_dev (s : State) : (pllLostNet s).dev = s.dev :=
  dev_kept (State.sticky_seen _ (pllUnlock s 2) _ _ _ (by decide) (by decide))

theorem pllLostNet_lock (s : State) : (pllLostNet s).fg F.CKG_PLLSTAT_LOCK2 = 0 := by
  have hunlock : (pllUnlock s 2).fgi F.CKG_PLLSTAT_LOCK2 0 = 0 :=
    (State.fg_fs s F.CKG_PLLSTAT_LOCK2 0).trans (Nat.zero_mod _)
  have hseen := State.sticky_seen ⟨[.seqs], false, F.CKG_PLLSTAT_LOL2 :: raiseFlds⟩ (pllUnlock s 2)
    F.CKG_PLLSTAT_LOL2 0 133 (by decide) (by decide)
  exact (State.fgi_of_seen _ _ _ _ 0 hseen (by decide)).trans hunlock

theorem pllLostNet_lol (s : State) : (pllLostNet s).fg F.CKG_PLLSTAT_LOL2 = 1 := by
  have hset : (pllLostNet s).fgi F.CKG_PLLSTAT_LOL2 0 ≠ 0 :=
    of_decide_eq_true (State.sticky_flagi (pllUnlock s 2) F.CKG_PLLSTAT_LOL2 0 133 (by decide) (by decide))
  have hbit : (pllLostNet s).fgi F.CKG_PLLSTAT_LOL2 0 < 2 ^ 1 := State.fgi_lt _ _ _
  unfold State.fg
  omega

theorem pllLostNet_logFault_up (s : State) : ((pllLostNet s).logFault 0x1003 noIndex 2).up = s.up := by
  have hdev : ((pllLostNet s).logFault 0x1003 noIndex 2).dev = s.dev :=
    (dev_kept (State.logFault_seen _ _ _ _ _ (by decide))).trans (pllLostNet_dev s)
  unfold State.up
  rw [hdev]

theorem pllLoss_net {s : State} (h : s.flag (pllFlds 2).1 = true) :
    pllLoss 2 s =
      (if s.up then setLink 1 false (setLink 0 false ((pllLostNet s).logFault 0x1003 noIndex 2))
        else (pllLostNet s).logFault 0x1003 noIndex 2) := by
  rw [← pllLostNet_logFault_up]
  unfold pllLoss
  dsimp only
  rw [if_neg (ne_false_of_eq_true h), if_pos rfl]
  rfl

theorem pllLoss_net_seen {s : State} (h : s.flag (pllFlds 2).1 = true) :
    State.seen .portsDown (pllLoss 2 s) = State.seen .portsDown (pllLostNet s) := by
  rw [pllLoss_net h]
  split
  · rw [setLink_seen _ _ _ _ (by decide), setLink_seen _ _ _ _ (by decide), State.logFault_seen _ _ _ _ _ (by decide)]
  · exact State.logFault_seen _ _ _ _ _ (by decide)

/-! ### Each command of the family, in the words of its statement -/

/-- R55: a window in range. -/
theorem execReferenceWindow_good (edges : Nat) (s : State) (hs : s.boot.supplies.getD 2 false = true) (hlo : 85 ≤ edges)
    (hhi : edges ≤ 115) : ∃ t, exec (.referenceWindow edges) s = .next t ∧
      t.fg F.CKG_REFMON = edges ∧ t.fg F.CKG_PLLSTAT_REFOK = 1 ∧ t.boot.refOut = false ∧ t.dev = s.dev := by
  refine ⟨refWindow edges s, rfl, ?_⟩
  rw [refWindow_good hs hlo hhi]
  refine ⟨?_, State.fg_fs _ _ _, rfl, rfl⟩
  have hmon : ((refNote s edges false).fs F.CKG_PLLSTAT_REFOK 1).fg F.CKG_REFMON = Nat.min 255 edges % 2 ^ 8 :=
    (State.fg_fs_ne _ _ (by decide)).trans (State.fg_fs _ _ _)
  have hmin : Nat.min 255 edges = edges := Nat.min_eq_right (by omega)
  rw [hmon, hmin]
  exact Nat.mod_eq_of_lt (by omega)

/-- R55, R516: what the second window in a row that is out of range leaves, before SAFE. -/
theorem refLost_flags (s : State) (edges : Nat) :
    let lost := ((refNote s edges true).fs F.CKG_PLLSTAT_REFOK 0).fs F.CKG_PLLSTAT_REFLOSS 1
    lost.fg F.CKG_PLLSTAT_REFOK = 0 ∧ lost.fg F.CKG_PLLSTAT_REFLOSS = 1 :=
  ⟨(State.fg_fs_ne _ _ (by decide)).trans (State.fg_fs _ _ _), State.fg_fs _ _ _⟩

/-- R55, R516: a window out of range, the first or not. -/
theorem execReferenceWindow_bad (edges : Nat) (s : State) (hs : s.boot.supplies.getD 2 false = true)
    (hbad : edges < 85 ∨ 115 < edges) : ∃ t, exec (.referenceWindow edges) s = .next t ∧
      t.boot.refOut = true ∧
      (s.boot.refOut = true → t.fg F.CKG_PLLSTAT_REFOK = 0 ∧ t.fg F.CKG_PLLSTAT_REFLOSS = 1) ∧
      (s.boot.refOut = true → s.up = true → t.dev = .safe ∧ t.auth = false ∧
        t.fg F.DBG_LASTSAFE_CODE = 0x1001 ∧ t.mir.hbtOut = false ∧ t.mir.actOut = false) ∧
      (s.boot.refOut = false ∨ s.up = false → t.dev = s.dev) ∧
      (s.boot.refOut = false → t.fg F.CKG_PLLSTAT_REFOK = s.fg F.CKG_PLLSTAT_REFOK) := by
  refine ⟨refWindow edges s, rfl, ?_⟩
  cases hout : s.boot.refOut with
  | false =>
    rw [refWindow_firstBad hs hbad hout]
    exact ⟨rfl, nofun, nofun, fun _ => rfl, fun _ => State.fg_fs_ne _ _ (by decide)⟩
  | true =>
    obtain ⟨hok, hloss⟩ := refLost_flags s edges
    rw [refWindow_secondBad hs hbad hout]
    cases hup : s.up with
    | false => exact ⟨rfl, fun _ => ⟨hok, hloss⟩, fun _ => nofun, fun _ => rfl, nofun⟩
    | true =>
      refine ⟨?_, fun _ => ⟨?_, ?_⟩, fun _ _ => ⟨enterSafe_dev _ _, enterSafe_auth _ _, enterSafe_code _ _,
        enterSafe_hbtOut _ _, enterSafe_actOut _ _⟩, nofun, nofun⟩
      · exact congrArg BootSt.refOut (enterSafe_boot _ _)
      · exact (enterSafe_fgi _ _ _ 0 (by decide)).trans hok
      · exact (enterSafe_fgi _ _ _ 0 (by decide)).trans hloss

/-- R56, R516: PLL0 or PLL1 loses its lock. -/
theorem execPllLossOfLock_core (p : Fin 3) (hp : p.val < 2) (s : State) (h : s.flag (pllFlds p.val).1 = true) :
    ∃ t, exec (.pllLossOfLock p) s = .next t ∧ t.fg (pllFlds p.val).1 = 0 ∧ t.fg (pllFlds p.val).2 = 1 ∧
      (s.up = true → t.dev = .safe ∧ t.auth = false ∧ t.fg F.DBG_LASTSAFE_CODE = 0x1002 ∧
        t.mir.hbtOut = false ∧ t.mir.actOut = false) := by
  have hlock : ((pllUnlock s p.val).fs (pllFlds p.val).2 1).fg (pllFlds p.val).1 = 0 :=
    (State.fg_fs_ne _ _ (pllFlds_ne p)).trans ((State.fg_fs _ _ _).trans (Nat.zero_mod _))
  have hlol : ((pllUnlock s p.val).fs (pllFlds p.val).2 1).fg (pllFlds p.val).2 = 1 :=
    (State.fg_fs _ _ _).trans (by rw [pllFlds_lol_width p]; rfl)
  refine ⟨pllLoss p.val s, rfl, ?_⟩
  rw [pllLoss_core hp h]
  cases hup : s.up with
  | false => exact ⟨hlock, hlol, nofun⟩
  | true =>
    exact ⟨enterSafe_lock _ _ p, (enterSafe_fgi _ _ _ 0 (pllFlds_lol_kept p)).trans hlol, fun _ => ⟨enterSafe_dev _ _,
      enterSafe_auth _ _, enterSafe_code _ _, enterSafe_hbtOut _ _, enterSafe_actOut _ _⟩⟩

/-- R56: PLL2 loses its lock. -/
theorem execPllLossOfLock_net (s : State) (h : s.flag (pllFlds 2).1 = true) :
    ∃ t, exec (.pllLossOfLock 2) s = .next t ∧ t.fg (pllFlds 2).1 = 0 ∧ t.fg (pllFlds 2).2 = 1 ∧ t.dev = s.dev ∧
      (s.up = true → t.flagi F.NET_STAT_LINK 0 = false ∧ t.flagi F.NET_STAT_LINK 1 = false) := by
  have hseen := pllLoss_net_seen h
  refine ⟨pllLoss 2 s, rfl, (State.fgi_of_seen _ _ _ _ 0 hseen (by decide)).trans (pllLostNet_lock s),
    (State.fgi_of_seen _ _ _ _ 0 hseen (by decide)).trans (pllLostNet_lol s),
    (dev_of_seen _ _ _ hseen (by decide)).trans (pllLostNet_dev s), fun hup => ?_⟩
  rw [pllLoss_net h, if_pos hup]
  exact ⟨(setLink_down_other _ (by decide) (by decide) (by decide)).trans (setLink_down _ 0), setLink_down _ 1⟩

/-- R511, R516: a write of DBG.CTRL.SAFE waits for the tick and is logged at once (log 39). -/
theorem execDbgSafe_clocked (s : State) (h : s.clocked = true) : ∃ t, exec .dbgSafe s = .next t ∧
      t.dev = s.dev ∧ (t.port.safe.due.any fun x => x.code == 0x9003) = true ∧
      t.fg F.DBG_FLTSTAT_CLASS = s.fg F.DBG_FLTSTAT_CLASS ||| 512 := by
  have hstep : dbgSafe s = safeDue ⟨0x9003, noIndex, 0, some s.frame⟩ (s.logFault 0x9003 noIndex 0) := if_pos h
  refine ⟨dbgSafe s, rfl, ?_⟩
  rw [hstep]
  refine ⟨?_, safeDue_due _ _, ?_⟩
  · exact (dev_kept (safeDue_seen _ _ _ (by decide))).trans (dev_kept (State.logFault_seen _ _ _ _ _ (by decide)))
  · have hdue : ∀ x t, (safeDue x t).fg F.DBG_FLTSTAT_CLASS = t.fg F.DBG_FLTSTAT_CLASS := fun x t =>
      State.fgi_of_seen ⟨[.port], false, []⟩ _ _ _ 0 (safeDue_seen _ x t (by decide)) (by decide)
    have hclass : (s.logFault 0x9003 noIndex 0).fg F.DBG_FLTSTAT_CLASS = (s.fg F.DBG_FLTSTAT_CLASS ||| 2 ^ 9) % 2 ^ 16 :=
      State.logSev_class s 0x9003 noIndex 0 (by decide)
    rw [hdue, hclass]
    exact Nat.mod_eq_of_lt (Nat.or_lt_two_pow (State.fgi_lt s _ 0) (by decide))

/-- R382, R516: the tick at which a thermal cause is due. -/
theorem execThermalTrip_due (s : State) (htrip : s.tripDue = true) (hclk : s.clocked = true)
    (hlock : s.flag F.CKG_PLLSTAT_LOCK0 = true) : ∃ t, exec .thermalTrip s = .next t ∧
      t.dev = .safe ∧ t.auth = false ∧ t.frame = s.coming ∧ t.port.safe.due = [] ∧
      ((s.port.safe.due.any fun x => x.code == 0x2004 || x.code == 0x2002) = true → t.fg F.TMP_AONSTAT_TRIPPED = 1) ∧
      t.time.ppsOut = false := by
  refine ⟨_, rfl, ?_⟩
  rw [if_pos htrip, safeTick_of_due (State.due_of_tripDue htrip) hclk hlock]
  exact ⟨enterSafe_dev _ _, enterSafe_auth _ _, enterSafe_frame _ _, enterSafe_due _ _,
    fun h => enterSafe_tripped _ _ h, enterSafe_ppsOut _ _⟩

/-- What a shutdown comparator notes before the device goes to OFF. -/
def shutNote (s : State) : State := (s.fs F.TMP_AONSTAT_SHUTDN 1).modCal fun c => { c with shut := true }

/-- R383: a shutdown comparator asserts. -/
theorem execThermalShutdown_powered (s : State) (hs : s.boot.supplies.getD 2 false = true) :
    ∃ t, exec .thermalShutdown s = .next t ∧ t.dev = .off ∧ t.auth = false ∧ t.fg F.TMP_AONSTAT_SHUTDN = 1 ∧
      t.fg F.SYS_RSTCAUSE_THERM = 1 ∧ t.cal.shut = true := by
  have hstep : thermalShutdown s = enterOff F.SYS_RSTCAUSE_THERM (shutNote s) := if_pos hs
  have hs' : (shutNote s).boot.supplies.getD 2 false = true := hs
  have hset : (shutNote s).fg F.TMP_AONSTAT_SHUTDN = 1 := State.fg_fs s F.TMP_AONSTAT_SHUTDN 1
  refine ⟨thermalShutdown s, rfl, ?_⟩
  rw [hstep]
  refine ⟨enterOff_dev _ hs', enterOff_auth _ hs', ?_, enterOff_cause _ hs', enterOff_shut _ hs'⟩
  exact (enterOff_fg_kept _ hs' _ (by simp [aonFlds]) (by decide) (by decide)).trans hset

/-- R519: an automatic restart. RESTARTS is as wide as MAXR, its bound, so the count is not lost. -/
theorem execSafeAutoRestart_due (s : State) (hsafe : s.dev = .safe) (hauto : s.flag F.DBG_SAFECFG_AUTO = true)
    (hboot : s.port.safe.bootFail = false) (hclr : s.safeCleared = true)
    (hmax : s.fg F.DBG_LASTSAFE_RESTARTS < Nat.max 1 (s.fg F.DBG_SAFECFG_MAXR))
    (hs : s.boot.supplies.getD 2 false = true) : ∃ t, exec .safeAutoRestart s = .next t ∧
      t.dev = .off ∧ t.fg F.SYS_RSTCAUSE_SOFT = 1 ∧ t.fg F.DBG_LASTSAFE_AUTO = 1 ∧
      t.fg F.DBG_LASTSAFE_RESTARTS = s.fg F.DBG_LASTSAFE_RESTARTS + 1 ∧
      t.fg F.DBG_LASTSAFE_CODE = s.fg F.DBG_LASTSAFE_CODE := by
  have hstep : autoRestart s = ((enterOff F.SYS_RSTCAUSE_SOFT s).bump F.DBG_LASTSAFE_RESTARTS).fs F.DBG_LASTSAFE_AUTO 1 :=
    if_pos ⟨hsafe, hauto, hboot, hclr, hmax⟩
  have hcount : ∀ f : Fld, f.id ≠ F.DBG_LASTSAFE_RESTARTS.id → f.id ≠ F.DBG_LASTSAFE_AUTO.id →
      (autoRestart s).fg f = (enterOff F.SYS_RSTCAUSE_SOFT s).fg f := fun f hr ha => by
    rw [hstep]
    exact (State.fg_fs_ne _ _ ha).trans (State.fgi_fsi_ne _ _ _ _ _ _ hr)
  have hfits : s.fg F.DBG_LASTSAFE_RESTARTS + 1 ≤ 2 ^ 4 - 1 := by
    have hmaxr : s.fg F.DBG_SAFECFG_MAXR < 2 ^ 4 := State.fgi_lt s F.DBG_SAFECFG_MAXR 0
    have hlim : Nat.max 1 (s.fg F.DBG_SAFECFG_MAXR) ≤ 2 ^ 4 - 1 := Nat.max_le.mpr ⟨by decide, Nat.le_sub_one_of_lt hmaxr⟩
    omega
  refine ⟨autoRestart s, rfl, ?_, ?_, ?_, ?_, ?_⟩
  · rw [hstep]
    exact enterOff_dev _ hs
  · exact (hcount _ (by decide) (by decide)).trans (enterOff_cause _ hs)
  · rw [hstep]
    exact State.fg_fs _ _ _
  · rw [hstep]
    refine (State.fg_fs_ne _ _ (by decide)).trans ((State.fgi_addi _ _ _ _).trans ?_)
    have hkept : (enterOff F.SYS_RSTCAUSE_SOFT s).fgi F.DBG_LASTSAFE_RESTARTS 0 = s.fg F.DBG_LASTSAFE_RESTARTS :=
      enterOff_fg_kept _ hs _ (by simp [aonFlds]) (by decide) (by decide)
    rw [hkept]
    exact Nat.min_eq_left hfits
  · exact (hcount _ (by decide) (by decide)).trans (enterOff_fg_kept _ hs _ (by simp [aonFlds]) (by decide) (by decide))

/-- R519: ten minutes without a break. -/
theorem execRestartCountReset_due (s : State) (b : Nat) (hb : s.port.safe.upSince = some b)
    (hlong : 600000000000 * 2 ^ 32 ≤ (s.tb 0 + tbMod - b) % tbMod) : ∃ t, exec .restartCountReset s = .next t ∧
      t.fg F.DBG_LASTSAFE_RESTARTS = 0 ∧ t.dev = s.dev := by
  have hstep : restartReset s = s.fs F.DBG_LASTSAFE_RESTARTS 0 := by
    unfold restartReset
    rw [hb]
    exact if_pos hlong
  refine ⟨restartReset s, rfl, ?_⟩
  rw [hstep]
  exact ⟨State.fg_fs _ _ _, rfl⟩

/-- Settles O35: each clause is the effect of one command, written out above as an entry into SAFE (`enterSafe_eq`), an
entry into OFF (`enterOff_eq`) or a few register writes. -/
theorem clockFailureShutdownAndRestart : Obligations.ClockFailureShutdownAndRestart := by
  refine ⟨execReferenceWindow_good, execReferenceWindow_bad, fun p s h => ?_, execDbgSafe_clocked, execThermalTrip_due,
    execThermalShutdown_powered, fun _ => rfl, execSafeAutoRestart_due, execRestartCountReset_due⟩
  by_cases hp : p.val < 2
  · obtain ⟨t, hstep, hlock, hlol, hsafe⟩ := execPllLossOfLock_core p hp s h
    exact ⟨t, hstep, hlock, hlol, fun h2 => absurd h2 (Nat.ne_of_lt hp), fun _ => hsafe⟩
  · obtain rfl : p = 2 := by omega
    obtain ⟨t, hstep, hlock, hlol, hdev, hlinks⟩ := execPllLossOfLock_net s h
    exact ⟨t, hstep, hlock, hlol, fun _ => ⟨hdev, hlinks⟩, fun h2 => absurd h2 hp⟩

end Sys2Proof.Machine
end

section
/-! PROOF. The deadline of a frame (R49, R52): what it does to the late bundles, and what the work that follows it leaves
alone: the stops of the engines, the runs of late frames, the bursts in flight and the posted stores. -/
namespace Sys2Proof.Machine

/-! ### Bursts in flight and posted stores -/

/-- No burst in flight, and no store a sequencer still holds, has changed. -/
structure KeepsBus (s t : State) : Prop where
  flights : t.port.flights = s.port.flights
  posted : ∀ n, (t.sq n).posted = (s.sq n).posted

namespace KeepsBus
variable {s t u : State}

theorem trans (h : KeepsBus s t) (k : KeepsBus t u) : KeepsBus s u :=
  ⟨k.flights.trans h.flights, fun n => (k.posted n).trans (h.posted n)⟩

theorem of_flights (hseqs : t.seqs = s.seqs) (hflights : t.port.flights = s.port.flights) : KeepsBus s t :=
  ⟨hflights, fun n => by unfold State.sq; rw [hseqs]⟩

theorem of_eq (hseqs : t.seqs = s.seqs) (hport : t.port = s.port) : KeepsBus s t :=
  of_flights hseqs (congrArg PortSt.flights hport)

/-- An operation whose extent holds neither the sequencers nor the ports keeps both. -/
theorem of_seen {e : Extent} (h : State.seen e t = State.seen e s) (hseqs : e.p .seqs = false) (hport : e.p .port = false) :
    KeepsBus s t :=
  of_eq (seqs_of_seen _ _ _ h hseqs) (port_of_seen _ _ _ h hport)

theorem setSq (s : State) (n : Nat) (q : Seq) (h : q.posted = (s.sq n).posted) : KeepsBus s (s.setSq n q) := by
  refine ⟨rfl, fun m => ?_⟩
  have hget : (s.setSq n q).sq m = if m = n ∧ n < s.seqs.length then q else s.sq m := getD_setAt _ _ _ _ _
  rw [hget]
  split
  · rename_i hm
    rw [h, hm.1]
  · rfl

theorem noteWake (s : State) (src : Nat) : KeepsBus s (s.noteWake src) := by
  unfold State.noteWake
  dsimp only
  split
  · exact setSq _ _ _ rfl
  · exact of_eq rfl rfl

/-- R449: an event on a source wakes a sequencer and is latched; no store of it lands. -/
theorem raise (s : State) (src : Nat) : KeepsBus s (s.raise src) := by
  have hlatch : KeepsBus s (if s.pend src then
      (s.setBit F.ICU_OVRw_SRC (src / 32) (src % 32) true).bump F.ICU_LOSTCNT else s.setPend src true) := by
    split
    · exact of_eq rfl rfl
    · exact of_eq rfl rfl
  exact hlatch.trans (noteWake _ src)

theorem logEntry (s : State) (e : FaultEntry) : KeepsBus s (s.logEntry e) := by
  obtain ⟨h, hport⟩ := State.logEntry_port s e
  exact of_flights (seqs_kept (State.logEntry_seen _ s e (by decide))) (by rw [hport])

theorem logFault (s : State) (code index detail : Nat) : KeepsBus s (s.logFault code index detail) := by
  obtain ⟨h, hport⟩ := State.logSev_port s code (faultSev code) index detail
  exact of_flights (seqs_kept (State.logFault_seen _ s code index detail (by decide)))
    (by unfold State.logFault; rw [hport])

theorem foldl {α : Type} {f : State → α → State} (h : ∀ s a, KeepsBus s (f s a)) (l : List α) (s : State) :
    KeepsBus s (l.foldl f s) := by
  induction l generalizing s with
  | nil => exact of_eq rfl rfl
  | cons a l ih => exact (h s a).trans (ih _)

end KeepsBus

/-! ### The runs of late frames -/

/-- Neither a bundle's run of late frames has changed, nor the work that waits for its deadline, nor the bus; and no
engine has stopped, where late frames stop none (R52). -/
structure KeepsRuns (s t : State) : Prop extends KeepsBus s t where
  limit : t.fg F.CKG_FRMCFG_ESCLIM = s.fg F.CKG_FRMCFG_ESCLIM
  snap : t.fab.snap = s.fab.snap
  stops : s.fg F.CKG_FRMCFG_ESCLIM = 0 → t.fab.stops = s.fab.stops
  run : ∀ b, (t.bun b).lateRun = (s.bun b).lateRun

/-- What work other than the fabric's changes as a deadline ends. -/
def Extent.deadlineFlags : Extent := ⟨[.seqs, .log, .exec, .mir, .port], false, (extentOf .engineDeadline).flds⟩

namespace KeepsRuns
variable {s t u : State}

theorem refl (s : State) : KeepsRuns s s := ⟨.of_eq rfl rfl, rfl, rfl, fun _ => rfl, fun _ => rfl⟩

theorem trans (h : KeepsRuns s t) (k : KeepsRuns t u) : KeepsRuns s u where
  toKeepsBus := h.toKeepsBus.trans k.toKeepsBus
  limit := k.limit.trans h.limit
  snap := k.snap.trans h.snap
  stops := fun h0 => (k.stops (h.limit.trans h0)).trans (h.stops h0)
  run := fun b => (k.run b).trans (h.run b)

theorem of_bus (hbus : KeepsBus s t) (h : State.seen .deadlineFlags t = State.seen .deadlineFlags s) : KeepsRuns s t := by
  have hfab : t.fab = s.fab := fab_of_seen _ _ _ h (by decide)
  exact ⟨hbus, State.fgi_of_seen _ _ _ _ 0 h (by decide), congrArg Fabric.snap hfab,
    fun _ => congrArg Fabric.stops hfab, fun b => by unfold State.bun; rw [hfab]⟩

theorem of_mir (h : State.seen ⟨[.mir], false, []⟩ t = State.seen ⟨[.mir], false, []⟩ s) : KeepsRuns s t := by
  have hfab : t.fab = s.fab := fab_of_seen _ _ _ h rfl
  exact ⟨.of_seen h rfl rfl, State.fgi_of_seen _ _ _ _ 0 h rfl, congrArg Fabric.snap hfab,
    fun _ => congrArg Fabric.stops hfab, fun b => by unfold State.bun; rw [hfab]⟩

theorem ite {p : Prop} [Decidable p] (ht : KeepsRuns s t) (hu : KeepsRuns s u) : KeepsRuns s (if p then t else u) := by
  split
  · exact ht
  · exact hu

theorem raise (s : State) (src : Nat) : KeepsRuns s (s.raise src) :=
  of_bus (.raise s src) (State.raise_seen _ s src (by decide))

theorem logFault (s : State) (code index detail : Nat) : KeepsRuns s (s.logFault code index detail) :=
  of_bus (.logFault s code index detail) (State.logFault_seen _ s code index detail (by decide))

theorem fsi (s : State) (f : Fld) (i v : Nat) (hf : Extent.deadlineFlags.r f = true) : KeepsRuns s (s.fsi f i v) :=
  of_bus (.of_eq rfl rfl) (State.fsi_seen _ s f i v hf)

theorem modMir (s : State) (g : MirSt → MirSt) : KeepsRuns s (s.modMir g) :=
  of_mir (State.modMir_seen _ s g (by decide))

theorem modLoop (s : State) (n : Nat) (g : Loop → Loop) : KeepsRuns s (s.modLoop n g) :=
  ⟨.of_eq rfl rfl, rfl, rfl, fun _ => rfl, fun _ => rfl⟩

theorem modBun (s : State) (c : Nat) (g : Bundle → Bundle) (hg : ∀ x, (g x).lateRun = x.lateRun) :
    KeepsRuns s (s.modBun c g) := by
  refine ⟨.of_eq rfl rfl, rfl, rfl, fun _ => rfl, fun b => ?_⟩
  by_cases h : b = c
  · subst h
    exact (congrArg Bundle.lateRun (tget_tmod _ _ _ _)).trans (hg _)
  · exact congrArg Bundle.lateRun (tget_tmod_ne _ _ _ _ _ h)

theorem foldl {α : Type} {f : State → α → State} (h : ∀ s a, KeepsRuns s (f s a)) (l : List α) (s : State) :
    KeepsRuns s (l.foldl f s) := by
  induction l generalizing s with
  | nil => exact refl s
  | cons a l ih => exact (h s a).trans (ih _)

end KeepsRuns

theorem slotDark_keepsRuns (n : Nat) (s : State) : KeepsRuns s (slotDark n s) := by
  unfold slotDark
  dsimp only
  split
  · exact ((((KeepsRuns.modLoop s n _).trans (.modLoop _ n _)).trans (.fsi _ _ _ _ (by decide))).trans
      (.raise _ 3)).trans (.logFault _ _ _ _)
  · exact .refl s

theorem slotSettled_keepsRuns (n : Nat) (s : State) : KeepsRuns s (slotSettled n s) := by
  exact .ite (.modLoop s n _) (.refl s)

theorem settleTimeout_keepsRuns (n : Nat) (s : State) : KeepsRuns s (settleTimeout n s) := by
  have hexec : ∀ (g : ExecSt → ExecSt) (s : State), KeepsRuns s (s.modExec g) := fun g s =>
    .of_bus (.of_eq rfl rfl) (State.modExec_seen _ s g (by decide))
  unfold settleTimeout
  dsimp only
  split
  · exact (((KeepsRuns.modLoop s n _).trans (.fsi _ _ _ _ (by decide))).trans (.raise _ 5)).trans (hexec _ _)
  · exact .refl s

theorem slotEnds_keepsRuns (n : Nat) (s : State) : KeepsRuns s (slotEnds n s) :=
  ((slotDark_keepsRuns n s).trans (slotSettled_keepsRuns n _)).trans (settleTimeout_keepsRuns n _)

theorem tallyBundle_keepsRuns (f was b : Nat) (s : State) : KeepsRuns s (tallyBundle f was b s) := by
  have hstaged : ∀ g s, KeepsRuns s (modStaged g s) := fun g s => .of_mir (modStaged_seen _ g s (by decide))
  unfold tallyBundle
  extract_lets late v s1 gap sum sv
  have h1 : KeepsRuns s s1 := by
    unfold s1
    split
    · exact (KeepsRuns.modBun s b (fun x => { x with tallyGap := crcOn was [v] }) fun _ => rfl).trans (hstaged _ _)
    · exact hstaged _ s
  have h2 : KeepsRuns s1 (s1.modBun b fun x => { x with tally := sum, tallyGap := 0 }) := .modBun s1 b _ fun _ => rfl
  exact .ite ((h1.trans h2).trans (.modMir _ _)) h1

theorem tallyDeadline_keepsRuns (f : Nat) (was : Tbl Bundle) (s : State) : KeepsRuns s (tallyDeadline f was s) := by
  unfold tallyDeadline
  extract_lets s1 s2 late s3 l s4
  have h1 : KeepsRuns s s1 := .modMir s _
  have h2 : KeepsRuns s s2 := h1.trans (.foldl (fun s b => tallyBundle_keepsRuns _ _ b s) _ s1)
  have h3 : KeepsRuns s s3 := h2.trans (.of_mir (State.when_seen _ s2 _ _ fun s => streamPush_seen _ _ s (by decide)))
  have h4 : KeepsRuns s s4 := h3.trans (.foldl (fun s m => .of_mir (streamPush_seen _ m s (by decide))) _ s3)
  have hrecs : ∀ (l : List Tally) s, KeepsRuns s (l.foldl (fun s t => sendBrec f t.b s) s) :=
    .foldl fun s t => .of_mir (sendBrec_seen _ f t.b s (by decide))
  have hend : ∀ s, KeepsRuns s (sendEpEnd s) := fun s => .of_mir (sendEpEnd_seen _ s (by decide))
  exact .ite ((h4.trans (hrecs _ s4)).trans (hend _)) h2

theorem engineFails_keepsRuns (p e cause code : Nat) (s : State) : KeepsRuns s (engineFails p e cause code s) := by
  unfold engineFails
  extract_lets none s1
  have h1 : KeepsRuns s s1 :=
    ((KeepsRuns.fsi s _ _ _ (by decide)).trans (.fsi _ _ _ _ (by decide))).trans (.fsi _ _ _ _ (by decide))
  have hspare : ∀ s : State, KeepsRuns s (s.when none fun s => s.logFault 0x3004 p e) := fun s => by
    unfold State.when
    split
    · exact .logFault s _ _ _
    · exact .refl s
  exact ((h1.trans (.logFault s1 _ _ _)).trans (hspare _)).trans (.raise _ 6)

/-- R52: only a limit other than 0 stops an engine. -/
theorem lateEscalation_keepsRuns (b : Nat) (s : State) : KeepsRuns s (lateEscalation b s) := by
  unfold lateEscalation engineFault
  dsimp only
  split_ifs with hlate
  · obtain ⟨hbus, hlimit, hsnap, hstops, hrun⟩ := engineFails_keepsRuns
      (s.physOf (engineOf b)) (s.fgi F.MOR_ESTATp_LOGICAL (s.physOf (engineOf b))) 1 0x3001 s
    exact ⟨hbus.trans (.of_eq rfl rfl), hlimit, hsnap, fun h0 => absurd h0 hlate.1, hrun⟩
  · exact .refl s
  · exact .refl s

/-! ### The late bundles of a deadline (R49) -/

theorem State.bun_modBun (s : State) (c : Nat) (g : Bundle → Bundle) (b : Nat) :
    (s.modBun c g).bun b = if b = c then g (s.bun b) else s.bun b := by
  split
  · rename_i h
    subst h
    exact tget_tmod _ _ _ _
  · rename_i h
    exact tget_tmod_ne _ _ _ _ _ h

/-- R52: the bundles that were not late have no run of late frames left. -/
theorem foldl_clearRun (late l : List Nat) (s : State) (b : Nat) :
    ((l.foldl (fun s b => if b ∈ late then s else s.modBun b fun x => { x with lateRun := 0 }) s).bun b).lateRun =
      if b ∈ l ∧ b ∉ late then 0 else (s.bun b).lateRun := by
  induction l generalizing s with
  | nil => simp
  | cons c l ih =>
    rw [List.foldl_cons, ih]
    by_cases hc : c ∈ late
    · rw [if_pos hc]
      by_cases hbc : b = c <;> simp [hbc, hc]
    · rw [if_neg hc, State.bun_modBun]
      by_cases hbc : b = c <;> simp [hbc, hc]

theorem lateBundle_run (f : Nat) (snap : EngSnap) (c b : Nat) (s : State) :
    ((lateBundle f snap c s).bun b).lateRun = (s.bun b).lateRun + if b = c then 1 else 0 := by
  have hslots : ∀ (g : Nat → Slot → Slot) (l : List Nat) (s : State),
      (l.foldl (fun s n => s.modSlot n (g n)) s).bun b = s.bun b := fun g l => by
    induction l with
    | nil => exact fun _ => rfl
    | cons n l ih => exact fun s => ih _
  unfold lateBundle
  rw [State.bun_modBun]
  split
  · exact congrArg (fun x : Bundle => x.lateRun + 1) (hslots _ _ s)
  · exact congrArg Bundle.lateRun (hslots _ _ s)

/-- R52: each mark of lateness makes the run one longer. -/
theorem foldl_lateBundle_run (f : Nat) (snap : EngSnap) (l : List Nat) (b : Nat) (s : State) :
    ((l.foldl (fun s c => lateBundle f snap c s) s).bun b).lateRun = (s.bun b).lateRun + l.count b := by
  induction l generalizing s with
  | nil => rfl
  | cons c l ih =>
    rw [List.foldl_cons, ih, lateBundle_run, List.count_cons]
    by_cases hbc : b = c
    · simp [hbc]; omega
    · simp [hbc, Ne.symm hbc]

/-- What a deadline does to the bundles of the engine frame `n`, of which those of `late` were late. -/
def markRuns (n : EngSnap) (late : List Nat) (s : State) : State :=
  late.foldl (fun s b => lateBundle n.frame n b s)
    (s.popBundles.foldl (fun s b => if b ∈ late then s else s.modBun b fun x => { x with lateRun := 0 }) s)

theorem markRuns_run (n : EngSnap) (late : List Nat) (s : State) (b : Nat) :
    ((markRuns n late s).bun b).lateRun =
      (if b ∈ s.popBundles ∧ b ∉ late then 0 else (s.bun b).lateRun) + late.count b := by
  unfold markRuns
  rw [foldl_lateBundle_run, foldl_clearRun]

theorem markRuns_seen (n : EngSnap) (late : List Nat) (s : State) :
    State.seen ⟨[.fab], false, []⟩ (markRuns n late s) = State.seen ⟨[.fab], false, []⟩ s := by
  refine (foldl_seen _ _ _ _ fun s b => lateBundle_seen _ _ _ b s (by decide)).trans (foldl_seen _ _ _ _ fun s b => ?_)
  split
  · rfl
  · exact State.modBun_seen _ _ _ _ (by decide)

/-- What a deadline counts and flags of the engine frame `n`, whose late bundles and hand-overs are `r`. -/
def recordRuns (n : EngSnap) (r : List Nat × List (Nat × Nat)) (s : State) : State :=
  recordHwm r.2 (recordLate n.frame r.1 (recordEvents n.frame r.1 n.evs s))

theorem recordRuns_fab (n : EngSnap) (r : List Nat × List (Nat × Nat)) (s : State) : (recordRuns n r s).fab = s.fab := by
  unfold recordRuns
  rw [fab_kept (recordHwm_seen _ _ _ (by decide)), fab_kept (recordLate_seen _ _ _ _ (by decide)),
    fab_kept (recordEvents_seen _ _ _ _ _ (by decide))]

theorem recordUnderruns_keepsBus (f : Nat) (l : List Nat) (s : State) : KeepsBus s (recordUnderruns f l s) := by
  cases l with
  | nil => exact .of_eq rfl rfl
  | cons x r =>
    have hflags : KeepsBus s ((x :: r).foldl (fun s n => s.setBit F.SEG_UNDFLAG_QY 0 (quayOf n) true) s) := by
      refine .foldl (fun s n => ?_) _ s
      exact .of_eq rfl rfl
    refine .trans (.trans hflags ?_) (.raise _ 2)
    exact .of_eq rfl rfl

theorem recordEvents_keepsBus (f : Nat) (late : List Nat) (evs : List (Nat × EngEv)) (s : State) :
    KeepsBus s (recordEvents f late evs s) := by
  refine .trans ?_ (recordUnderruns_keepsBus f _ _)
  refine .foldl (fun s v => ?_) _ s
  exact .of_eq rfl rfl

theorem recordLate_keepsBus (f : Nat) (late : List Nat) (s : State) : KeepsBus s (recordLate f late s) := by
  cases late with
  | nil => exact .of_eq rfl rfl
  | cons b r =>
    have hcounts : KeepsBus s ((b :: r).foldl (fun s b =>
        (s.bumpi F.CKG_OVRCNTq (quayOfBundle b)).setBit F.CKG_OVRFLAG_QY 0 (quayOfBundle b) true) s) := by
      refine .foldl (fun s b => ?_) _ s
      exact .of_eq rfl rfl
    refine .trans (.trans hcounts ?_) (.raise _ 1)
    exact .of_eq rfl rfl

theorem recordRuns_keepsBus (n : EngSnap) (r : List Nat × List (Nat × Nat)) (s : State) : KeepsBus s (recordRuns n r s) := by
  have hhwm : ∀ s, KeepsBus s (recordHwm r.2 s) := fun s => .of_seen (recordHwm_seen .regsOnly _ s (by decide)) rfl rfl
  exact ((recordEvents_keepsBus _ _ _ s).trans (recordLate_keepsBus _ _ _)).trans (hhwm _)

section
variable (staged : Nat → Bool) {n : EngSnap} {s : State} (h : s.fab.snap = some n)
include h

theorem engineDeadline_of_snap : engineDeadline staged s =
    (let r := lateSplit staged n.frame (s.asOf n)
     (recordRuns n r (markRuns n r.1 s)).modFab fun x => { x with snap := none, stops := [] }) := by
  unfold engineDeadline
  rw [h]
  rfl

theorem engineDeadline_fab : (engineDeadline staged s).fab =
    { (markRuns n (lateSplit staged n.frame (s.asOf n)).1 s).fab with snap := none, stops := [] } := by
  rw [engineDeadline_of_snap staged h]
  exact congrArg (fun x : Fabric => { x with snap := none, stops := [] }) (recordRuns_fab n _ _)

theorem engineDeadline_run (b : Nat) : ((engineDeadline staged s).bun b).lateRun =
    (let late := (lateSplit staged n.frame (s.asOf n)).1
     (if b ∈ s.popBundles ∧ b ∉ late then 0 else (s.bun b).lateRun) + late.count b) := by
  unfold State.bun
  rw [engineDeadline_fab staged h]
  exact markRuns_run n _ s b

theorem engineDeadline_keepsBus : KeepsBus s (engineDeadline staged s) := by
  rw [engineDeadline_of_snap staged h]
  have hmark := markRuns_seen n (lateSplit staged n.frame (s.asOf n)).1 s
  have hend : ∀ (g : Fabric → Fabric) (t : State), KeepsBus t (t.modFab g) := fun _ _ => .of_eq rfl rfl
  exact ((KeepsBus.of_seen hmark rfl rfl).trans (recordRuns_keepsBus _ _ _)).trans (hend _ _)

end

/-! ### The deadline of the frame as a whole -/

/-- What the end of a frame's engine work leads to, in its log cycle: the tallies and the escalation. -/
def deadlineWork (n : EngSnap) (s : State) : State :=
  let s := engineDeadline s.stagedCharge s
  let s := tallyDeadline n.frame n.bundles (s.popSlots.foldl (fun s n => slotEnds n s) s)
  s.popBundles.foldl (fun s b => lateEscalation b s) s

theorem frameDeadline_of_snap {n : EngSnap} {s : State} (h : s.fab.snap = some n) :
    frameDeadline s = logCycle (deadlineWork n) s := by
  unfold frameDeadline
  rw [h]
  rfl

theorem foldl_slotEnds_keepsRuns (l : List Nat) (s : State) : KeepsRuns s (l.foldl (fun s n => slotEnds n s) s) :=
  .foldl (fun s n => slotEnds_keepsRuns n s) l s

theorem foldl_lateEscalation_keepsRuns (l : List Nat) (s : State) :
    KeepsRuns s (l.foldl (fun s b => lateEscalation b s) s) :=
  .foldl (fun s b => lateEscalation_keepsRuns b s) l s

theorem deadlineWork_keepsRuns (n : EngSnap) (s : State) :
    KeepsRuns (engineDeadline s.stagedCharge s) (deadlineWork n s) := by
  unfold deadlineWork
  generalize engineDeadline s.stagedCharge s = s
  have htally := (foldl_slotEnds_keepsRuns s.popSlots s).trans (tallyDeadline_keepsRuns n.frame n.bundles _)
  exact htally.trans (foldl_lateEscalation_keepsRuns _ _)

/-- The end of a log cycle writes entries alone. -/
theorem logCycle_keepsRuns (g : State → State) (s : State) :
    KeepsRuns (g { s with log := { s.log with cycle := some [] } }) (logCycle g s) := by
  unfold logCycle
  extract_lets c1 s1 l c2 s2 before
  have h2 : KeepsRuns s1 s2 := .of_bus (.of_eq rfl rfl) (seen_log _ _ _ (by decide))
  exact h2.trans (.foldl (fun s e => .of_bus (.logEntry s _) (State.logEntry_seen _ s _ (by decide))) _ s2)

/-- A state whose log cycle has begun. -/
def State.inLogCycle (s : State) : State := { s with log := { s.log with cycle := some [] } }

section
variable {n : EngSnap} {s : State} (h : s.fab.snap = some n)
include h

/-- What follows the engines' deadline leaves what it settled. -/
theorem frameDeadline_keepsRuns :
    KeepsRuns (engineDeadline s.stagedCharge s.inLogCycle) (frameDeadline s) := by
  rw [frameDeadline_of_snap h]
  exact (deadlineWork_keepsRuns n s.inLogCycle).trans (logCycle_keepsRuns _ s)

theorem frameDeadline_keepsBus_of_snap : KeepsBus s (frameDeadline s) := by
  have hbegin : KeepsBus s s.inLogCycle := .of_eq rfl rfl
  exact (hbegin.trans (engineDeadline_keepsBus s.stagedCharge h)).trans (frameDeadline_keepsRuns h).toKeepsBus

theorem frameDeadline_run (b : Nat) : ((frameDeadline s).bun b).lateRun =
    (let late := (lateSplit s.stagedCharge n.frame (s.asOf n)).1
     (if b ∈ s.popBundles ∧ b ∉ late then 0 else (s.bun b).lateRun) + late.count b) :=
  ((frameDeadline_keepsRuns h).run b).trans (engineDeadline_run s.stagedCharge (s := s.inLogCycle) h b)

theorem frameDeadline_snap : (frameDeadline s).fab.snap = none := by
  rw [(frameDeadline_keepsRuns h).snap, engineDeadline_fab _ (s := s.inLogCycle) h]

/-- R52: where late frames escalate to no fault, no engine is stopped after the deadline. -/
theorem frameDeadline_stops (hlim : s.fg F.CKG_FRMCFG_ESCLIM = 0) : (frameDeadline s).fab.stops = [] := by
  have hkept : (engineDeadline s.stagedCharge s.inLogCycle).fg F.CKG_FRMCFG_ESCLIM = s.fg F.CKG_FRMCFG_ESCLIM :=
    State.fgi_of_seen (extentOf .engineDeadline) s.inLogCycle _ _ 0 (engineDeadline_seen _ _ _ (by decide)) (by decide)
  rw [(frameDeadline_keepsRuns h).stops (hkept.trans hlim), engineDeadline_fab _ (s := s.inLogCycle) h]

end

theorem frameDeadline_keepsBus (s : State) : KeepsBus s (frameDeadline s) := by
  cases h : s.fab.snap with
  | none =>
    unfold frameDeadline
    rw [h]
    exact .of_eq rfl rfl
  | some n => exact frameDeadline_keepsBus_of_snap h

/-- R49, R52: the deadline as its command gives it. -/
theorem execEngineDeadline_settles (s : State) (n : EngSnap) (h : s.fab.snap = some n) :
    ∃ t, exec .engineDeadline s = .next t ∧
      t.fab.snap = none ∧ (s.fg F.CKG_FRMCFG_ESCLIM = 0 → t.fab.stops = []) ∧
      (∀ b ∈ s.popBundles, b ∉ (lateSplit s.stagedCharge n.frame (s.asOf n)).1 → (t.bun b).lateRun = 0) ∧
      (∀ b ∈ (lateSplit s.stagedCharge n.frame (s.asOf n)).1, (s.bun b).lateRun < (t.bun b).lateRun) := by
  refine ⟨frameDeadline s, rfl, frameDeadline_snap h, frameDeadline_stops h, fun b hpop hlate => ?_, fun b hlate => ?_⟩
  · rw [frameDeadline_run h b]
    dsimp only
    rw [if_pos ⟨hpop, hlate⟩, List.count_eq_zero.mpr hlate]
  · rw [frameDeadline_run h b]
    dsimp only
    rw [if_neg fun hb => hb.2 hlate]
    exact Nat.lt_add_of_pos_right (List.count_pos_iff.mpr hlate)

end Sys2Proof.Machine
end

section
/-! PROOF. The frame tick (R33, R34): the end of a frame that leaves the bus idle, the number of the coming frame up to the
tick, and what the new frame's work keeps. -/
namespace Sys2Proof.Machine

/-! ### A bus with nothing on it -/

/-- No burst in flight and no store that a sequencer still holds. -/
def State.busIdle (s : State) : Prop := s.port.flights = [] ∧ ∀ n : Fin 4, (s.sq n.val).posted = []

theorem KeepsBus.busIdle {s t : State} (h : KeepsBus s t) (hs : s.busIdle) : t.busIdle :=
  ⟨h.flights.trans hs.1, fun n => (h.posted n).trans (hs.2 n)⟩

theorem flightFinish_of_none {s : State} {m : Nat} (n cycle : Nat) (h : s.flight m = none) :
    flightFinish m n cycle s = s := by
  cases n with
  | zero => rfl
  | succ n =>
    unfold flightFinish
    rw [h]

theorem drainAll_of_nil {s : State} {n : Nat} (cycle : Nat) (h : (s.sq n).posted = []) : drainAll n cycle s = s := by
  unfold drainAll
  rw [h]
  rfl

theorem settleResets_of_nil {s : State} (h : s.port.flights = []) : settleResets s = s := by
  unfold settleResets
  rw [h]
  rfl

theorem foldl_of_fixed {α : Type} {f : State → α → State} {s : State} (l : List α) (h : ∀ a ∈ l, f s a = s) :
    l.foldl f s = s := by
  induction l with
  | nil => rfl
  | cons a l ih =>
    obtain ⟨ha, hl⟩ := List.forall_mem_cons.mp h
    rw [List.foldl_cons, ha, ih hl]

/-- The end of a frame finds nothing to complete on an idle bus. -/
theorem busSettle_of_idle {s : State} (cycle : Nat) (h : s.busIdle) : busSettle cycle s = s := by
  obtain ⟨hflights, hposted⟩ := h
  have hnone : ∀ m, s.flight m = none := fun m => by
    unfold State.flight
    rw [hflights]
    rfl
  have hfinish : (List.range 11).foldl (fun s m => flightFinish m 9 cycle s) s = s :=
    foldl_of_fixed _ fun m _ => flightFinish_of_none 9 cycle (hnone m)
  have hdrain : (List.range 4).foldl (fun s n => drainAll n cycle s) s = s :=
    foldl_of_fixed _ fun n hn => drainAll_of_nil cycle (hposted ⟨n, List.mem_range.mp hn⟩)
  unfold busSettle
  rw [settleResets_of_nil hflights, hfinish, hdrain]

theorem drainSeqs_of_idle {s : State} (h : s.busIdle) :
    drainSeqs s = s.modFab fun x => { x with stalls := [], stops := [] } := by
  unfold drainSeqs
  rw [busSettle_of_idle _ h]

/-! ### The number of the coming frame -/

theorem State.coming_congr {s t : State} (hframe : t.frame = s.frame)
    (hstep : t.time.step = .loaded ↔ s.time.step = .loaded) : t.coming = s.coming := by
  unfold State.coming
  simp only [hstep, hframe]

theorem ppsRise_step (s : State) : (ppsRise s).time.step = s.time.step := by
  unfold ppsRise ppsOutEdge
  split
  · rfl
  · split <;> rfl

/-- R336: TB3's step is planned where none is under way; the load of the frame counter is not among what it does. -/
theorem tb3Step_loaded (s : State) : (tb3Step s).time.step = .loaded ↔ s.time.step = .loaded := by
  unfold tb3Step
  extract_lets a src
  clear_value src
  split
  · rename_i hplan
    obtain ⟨-, -, -, hnone, -⟩ := hplan
    simp [hnone]
  · rfl

theorem rowsBefore_frame (s : State) : (rowsBefore s).frame = s.frame :=
  frame_kept (rowsBefore_seen _ s (by decide) rfl)

/-- The rows of a tick before TB3's: calibration, links, bundles, pilots and tide tables. -/
def rowsBeforeStep (s : State) : State :=
  let s := trigTick (bandCompute (calBefore (bandChange s)))
  let s := linkBefore s
  let s := s.tickBundles.foldl (fun s b => bundleBefore b s) s
  tideTableStop (tideStart (pilTakeEffect (ppsRise s)))

theorem rowsBefore_eq (s : State) : rowsBefore s = sessBefore (netTick (substDue (tb3Step (rowsBeforeStep s)))) := rfl

theorem rowsBeforeStep_step (s : State) : (rowsBeforeStep s).time.step = s.time.step := by
  unfold rowsBeforeStep
  extract_lets s1 s2 s3
  have h1 : s1.time = s.time := by
    unfold s1
    rw [time_kept (trigTick_seen _ _ (by decide)), time_kept (bandCompute_seen _ _ (by decide)),
      time_kept (calBefore_seen _ _ (by decide)), time_kept (bandChange_seen _ _ (by decide))]
  have h2 : s2.time = s1.time := time_kept (linkBefore_seen _ _ (by decide) rfl)
  have h3 : s3.time = s2.time := time_kept (foldl_seen _ _ _ _ fun s b => bundleBefore_seen _ b s (by decide))
  rw [time_kept (tideTableStop_seen _ _ (by decide)), time_kept (tideStart_seen _ _ (by decide)),
    time_kept (pilTakeEffect_seen _ _ (by decide)), ppsRise_step, h3, h2, h1]

theorem rowsBefore_loaded (s : State) : (rowsBefore s).time.step = .loaded ↔ s.time.step = .loaded := by
  have hafter : (rowsBefore s).time = (tb3Step (rowsBeforeStep s)).time := by
    rw [rowsBefore_eq, time_kept (sessBefore_seen _ _ (by decide)), time_kept (netTick_seen _ _ (by decide)),
      time_kept (substDue_seen _ _ (by decide))]
  rw [hafter, tb3Step_loaded, rowsBeforeStep_step]

theorem rowsBefore_coming (s : State) : (rowsBefore s).coming = s.coming :=
  State.coming_congr (rowsBefore_frame s) (rowsBefore_loaded s)

theorem mirrorEnd_coming (f : Nat) (s : State) : (mirrorEnd f s).coming = s.coming :=
  State.coming_congr (frame_kept (mirrorEnd_seen _ f s (by decide) rfl))
    (by rw [time_kept (mirrorEnd_seen _ f s (by decide) rfl)])

/-- R336: the frame counter is loaded in no other frame than TB3's step. -/
theorem frameReload_of_notRunning {s : State} (h : s.time.step ≠ .running) : frameReload s = s := if_neg h

/-! ### The tick and the frame that begins -/

theorem countTick_frame (s : State) : (countTick s).frame = s.coming := by
  have hraise : ∀ t : State, (t.raise 21).frame = t.frame := fun t => frame_kept (State.raise_seen _ t 21 (by decide))
  unfold countTick State.when
  dsimp only
  split
  · exact hraise _
  · rfl

/-- The CORE cycle of a tick up to the work of the new frame. -/
def tickBefore (f0 : Nat) (s : State) : State :=
  safeAtTick (timeTick (countTick (rowsBefore (mirrorEnd f0 (frameReload s)))))

/-- R33: the tick begins the frame that was coming. -/
theorem tickBefore_frame (f0 : Nat) {s : State} (h : s.time.step ≠ .running) : (tickBefore f0 s).frame = s.coming := by
  unfold tickBefore
  rw [frame_kept (safeAtTick_seen _ _ (by decide)), frame_kept (timeTick_seen _ _ (by decide)), countTick_frame,
    rowsBefore_coming, mirrorEnd_coming, frameReload_of_notRunning h]

theorem tickCycle_eq (f0 : Nat) (s : State) : tickCycle f0 s =
    (let s := tickBefore f0 s
     if s.up then frameWork s.frame s else if s.clocked then (houseTick s.frame s).raise 0 else s) := rfl

theorem tickCycle_frame (f0 : Nat) {s : State} (h : s.time.step ≠ .running) : (tickCycle f0 s).frame = s.coming := by
  rw [tickCycle_eq, ← tickBefore_frame f0 h]
  generalize tickBefore f0 s = s
  dsimp only
  split_ifs
  · exact frame_kept (frameWork_seen _ _ s (by decide) rfl)
  · exact (frame_kept (State.raise_seen _ _ 0 (by decide))).trans (frame_kept (houseTick_seen _ _ s (by decide)))
  · rfl

/-- R33: a tick that leaves the clocks running leaves the FRAME source pending. -/
theorem tickCycle_pend (f0 : Nat) (s : State) (h : (tickCycle f0 s).clocked = true) : (tickCycle f0 s).pend 0 = true := by
  rw [tickCycle_eq] at h ⊢
  generalize tickBefore f0 s = s at h ⊢
  dsimp only at h ⊢
  split_ifs at h ⊢ with hup hclk
  · exact State.raise_pend _ 0
  · exact State.raise_pend _ 0
  · exact absurd h hclk

/-- The end of a log cycle keeps every register and every part but the log and the ports. -/
theorem logCycle_seen_end (g : State → State) (s : State) :
    State.seen ⟨[.log, .port], false, []⟩ (logCycle g s) = State.seen ⟨[.log, .port], false, []⟩ (g s.inLogCycle) := by
  unfold logCycle
  extract_lets c1 s1 l c2 s2 before
  have h2 : State.seen ⟨[.log, .port], false, []⟩ s2 = State.seen ⟨[.log, .port], false, []⟩ s1 :=
    seen_log _ _ _ (by decide)
  exact (foldl_seen _ _ _ _ fun s e => State.logEntry_seen _ s _ (by decide)).trans h2

/-- R33, R34: the tick as its command gives it. -/
theorem execFrameTick_counts (s : State) (hclk : s.clocked = true) (hlock : s.flag F.CKG_PLLSTAT_LOCK0 = true)
    (hstep : s.time.step ≠ .running) (hflights : s.port.flights = []) (hposted : ∀ n : Fin 4, (s.sq n.val).posted = []) :
    ∃ t, exec .frameTick s = .next t ∧ t.frame = s.coming ∧ (t.clocked = true → t.pend 0 = true) := by
  have hidle : (frameDeadline s).busIdle := (frameDeadline_keepsBus s).busIdle ⟨hflights, hposted⟩
  have htick : frameTick s = logCycle (tickCycle s.frame) (drainSeqs (frameDeadline s)) := by
    unfold frameTick
    rw [hclk, hlock]
    rfl
  have hframe : (drainSeqs (frameDeadline s)).frame = s.frame := by
    rw [drainSeqs_of_idle hidle]
    exact frame_kept (frameDeadline_seen _ s (by decide))
  have htime : (drainSeqs (frameDeadline s)).time = s.time := by
    rw [drainSeqs_of_idle hidle]
    exact time_kept (frameDeadline_seen _ s (by decide))
  generalize drainSeqs (frameDeadline s) = d at htick hframe htime
  have hcoming : d.inLogCycle.coming = s.coming := State.coming_congr hframe (by rw [← htime]; rfl)
  have hrunning : d.inLogCycle.time.step ≠ .running := by
    change d.time.step ≠ .running
    rwa [htime]
  have hend := logCycle_seen_end (tickCycle s.frame) d
  have hdev : (frameTick s).dev = (tickCycle s.frame d.inLogCycle).dev := by
    rw [htick]
    exact dev_of_seen _ _ _ hend rfl
  have hpend : (frameTick s).pend 0 = (tickCycle s.frame d.inLogCycle).pend 0 := by
    rw [htick]
    exact congrArg (fun v => v.testBit 0) (State.fgi_of_seen _ _ _ F.ICU_PENDw_SRC 0 hend (by decide))
  refine ⟨frameTick s, rfl, ?_, fun hrun => ?_⟩
  · rw [htick, frame_of_seen _ _ _ hend rfl, tickCycle_frame _ hrunning, hcoming]
  · rw [hpend]
    refine tickCycle_pend _ _ ?_
    unfold State.clocked State.up at hrun ⊢
    rwa [hdev] at hrun

/-- Settles O16: the tick counts the frame that was coming (`tickCycle_frame`) and raises FRAME (`tickCycle_pend`); the
deadline settles the runs of late frames (`engineDeadline_run`), and what follows it leaves them (`KeepsRuns`). -/
theorem theFrameTick : Obligations.TheFrameTick := ⟨execFrameTick_counts, execEngineDeadline_settles⟩

end Sys2Proof.Machine
end

section
/-! PROOF. Pilot settings (R80, R81): the two copies that every slot keeps, the check of an APPLY and its four ends. -/
namespace Sys2Proof.Machine

/-! ### Both copies of every slot -/

/-- A function of keys and values that keeps the default acts on every key of a table. -/
theorem tget_map {α : Type} (d : α) (t : Tbl α) (f : Nat → α → α) (k : Nat) (hd : f k d = d) :
    tget d (t.map fun e => (e.1, f e.1 e.2)) k = f k (tget d t k) := by
  induction t with
  | nil => exact hd.symm
  | cons e r ih =>
    simp only [List.map_cons, tget]
    split
    · rename_i hk
      rw [hk]
    · exact ih

section
variable (s : State)

/-- A change of every listed slot is one of every slot, where it keeps the slot that no table lists. -/
theorem State.slot_mapSlots (f : Nat → Slot → Slot) (n : Nat) (hinit : f n Slot.init = Slot.init) :
    (s.mapSlots f).slot n = f n (s.slot n) := tget_map _ _ f n hinit

theorem State.slot_modSlot_same (n : Nat) (g : Slot → Slot) : (s.modSlot n g).slot n = g (s.slot n) :=
  tget_tmod Slot.init s.fab.slots n g

/-- A slot whose staged setting is its active one (R80). -/
def stagedBack (x : Slot) : Slot := { x with pilStg := x.pil }

/-- A slot whose staged setting has come into force (R79, R80). -/
def stagedInForce (x : Slot) : Slot :=
  { x with pilWas := x.pil, pil := x.pilStg, noiseOn := x.noiseOn && !noiseLoads x && decide (x.pilStg.mode = 3) }

theorem pilToStaging_slot (n : Nat) : (pilToStaging s).slot n = stagedBack (s.slot n) :=
  State.slot_mapSlots s (fun _ => stagedBack) n rfl

theorem pilToStaging_busy : (pilToStaging s).fg F.PIL_STAT_BUSY = 1 := State.fg_fs _ _ _

/-! ### An APPLY and its ends -/

/-- R81: an APPLY refused with a reason, for a slot. -/
def pilRefused (r : Nat × Nat) : State :=
  ((s.fs F.PIL_STAT_REFUSED 1).fs F.PIL_STAT_REASON r.1).fs F.PIL_BADSLOT_SLOT r.2

theorem pilRefused_shows (r : Nat × Nat) : (pilRefused s r).fg F.PIL_STAT_REFUSED = 1 ∧
    (pilRefused s r).fg F.PIL_STAT_REASON = r.1 % 2 ^ 4 ∧ (pilRefused s r).fg F.PIL_BADSLOT_SLOT = r.2 % 2 ^ 14 :=
  ⟨(State.fg_fs_ne _ _ (by decide)).trans ((State.fg_fs_ne _ _ (by decide)).trans (State.fg_fs _ _ _)),
    (State.fg_fs_ne _ _ (by decide)).trans (State.fg_fs _ _ _), State.fg_fs _ _ _⟩

/-- R80: an APPLY accepted for a heater frame. -/
def pilAccepted (f : Nat) : State :=
  ((s.fs F.PIL_APPLYF_FRAME f).fs F.PIL_STAT_BUSY 1).modFab fun x => { x with pilApply := some f }

theorem pilAccepted_shows (f : Nat) (hf : f < 2 ^ 32) : (pilAccepted s f).fg F.PIL_STAT_BUSY = 1 ∧
    (pilAccepted s f).fab.pilApply = some f ∧ (pilAccepted s f).fg F.PIL_APPLYF_FRAME = f := by
  refine ⟨State.fg_fs (s.fs F.PIL_APPLYF_FRAME f) F.PIL_STAT_BUSY 1, rfl, ?_⟩
  calc (pilAccepted s f).fg F.PIL_APPLYF_FRAME
      = (s.fs F.PIL_APPLYF_FRAME f).fg F.PIL_APPLYF_FRAME :=
        State.fg_fs_ne (f := F.PIL_STAT_BUSY) (s.fs F.PIL_APPLYF_FRAME f) 1 (by decide)
    _ = f % 2 ^ 32 := State.fg_fs _ _ _
    _ = f := Nat.mod_eq_of_lt hf

end

section
variable {s : State} {delay : Nat}

theorem pilApply_of_busy (hbusy : s.flag F.PIL_STAT_BUSY = true) : pilApply delay s = s.fs F.PIL_STAT_WERR 1 :=
  if_pos hbusy

theorem pilApply_of_planFails {n : Nat} (hbusy : ¬ s.flag F.PIL_STAT_BUSY = true)
    (hplan : s.planFails (fun n => (s.slot n).pilStg) s.kJudged = some n) : pilApply delay s = pilRefused s (1, n) := by
  unfold pilApply
  rw [if_neg hbusy, hplan]
  rfl

theorem pilApply_of_stateFails {r : Nat × Nat} (hbusy : ¬ s.flag F.PIL_STAT_BUSY = true)
    (hplan : s.planFails (fun n => (s.slot n).pilStg) s.kJudged = none) (hstate : pilStateFail s = some r) :
    pilApply delay s = pilRefused s r := by
  unfold pilApply
  rw [if_neg hbusy, hplan, hstate]
  rfl

theorem pilApply_of_passes (hbusy : ¬ s.flag F.PIL_STAT_BUSY = true)
    (hplan : s.planFails (fun n => (s.slot n).pilStg) s.kJudged = none) (hstate : pilStateFail s = none) :
    pilApply delay s = pilAccepted s (add32 s.frame (delay + 3)) := by
  unfold pilApply
  rw [if_neg hbusy, hplan, hstate]
  rfl

/-- R80: what is due takes effect in every slot, and the copy back to staging begins. -/
theorem pilTakeEffect_of_due {f : Nat} (hat : s.fab.pilApply = some f) (hdue : notBefore (add32 s.coming 2) f = true) :
    pilTakeEffect s = pilToStaging ((s.mapSlots fun _ => stagedInForce).modFab
      fun x => { x with pilApply := none, pilFrom := some f }) := by
  unfold pilTakeEffect
  rw [hat]
  exact if_pos hdue

theorem pilTakeEffect_slot {f : Nat} (hat : s.fab.pilApply = some f) (hdue : notBefore (add32 s.coming 2) f = true)
    (n : Nat) : (pilTakeEffect s).slot n = stagedBack (stagedInForce (s.slot n)) := by
  rw [pilTakeEffect_of_due hat hdue, pilToStaging_slot]
  exact congrArg stagedBack (State.slot_mapSlots s (fun _ => stagedInForce) n rfl)

end

/-! ### The family -/

/-- Settles O25: an APPLY ends in one of the four ways above, in the order of the statement; a REVERT and the taking of
effect change every slot alike (`State.slot_mapSlots`); PIL.ACC moves one setting. -/
theorem pilotStaging : Obligations.PilotStaging := by
  refine ⟨fun delay s => ⟨pilApply delay.val s, rfl, ?pilApply⟩, fun s n => ⟨pilRevert s, rfl, ?pilRevert⟩,
    fun s => ⟨pilAccRd s, rfl, ?pilAccRd⟩, fun s => ⟨pilAccWr s, rfl, ?pilAccWr⟩,
    fun s f n hat hdue => ⟨pilTakeEffect s, rfl, ?takeEffect⟩, fun s hnone => ⟨pilCopyDone s, rfl, ?copyDone⟩⟩
  case pilApply =>
    split_ifs with hbusy hplan hstate
    · rw [pilApply_of_busy hbusy]
      exact ⟨State.fg_fs _ _ _, rfl⟩
    · obtain ⟨n, hn⟩ := Option.isSome_iff_exists.mp hplan
      obtain ⟨hrefused, hreason, hslot⟩ := pilRefused_shows s (1, n)
      rw [pilApply_of_planFails hbusy hn, hn]
      exact ⟨hrefused, hreason, rfl, congrArg some hslot⟩
    · obtain ⟨r, hr⟩ := Option.isSome_iff_exists.mp hstate
      obtain ⟨hrefused, hreason, hslot⟩ := pilRefused_shows s r
      rw [pilApply_of_stateFails hbusy (Option.not_isSome_iff_eq_none.mp hplan) hr, hr, hreason, hslot]
      exact ⟨hrefused, rfl, rfl⟩
    · rw [pilApply_of_passes hbusy (Option.not_isSome_iff_eq_none.mp hplan) (Option.not_isSome_iff_eq_none.mp hstate)]
      exact pilAccepted_shows s _ (Nat.mod_lt _ (Nat.two_pow_pos 32))
  case pilRevert =>
    unfold pilRevert
    split_ifs
    · exact ⟨State.fg_fs _ _ _, rfl⟩
    · rw [pilToStaging_slot]
      exact ⟨pilToStaging_busy s, rfl, rfl⟩
  case pilAccRd =>
    unfold pilAccRd
    simp (disch := decide) only [State.fg_fs, State.fg_fs_ne]
    exact ⟨rfl, rfl, rfl, rfl, rfl⟩
  case pilAccWr =>
    unfold pilAccWr
    split_ifs
    · exact ⟨State.fg_fs _ _ _, rfl⟩
    · rw [State.slot_modSlot_same]
      exact ⟨rfl, rfl⟩
  case takeEffect =>
    rw [pilTakeEffect_slot hat hdue, pilTakeEffect_of_due hat hdue]
    exact ⟨rfl, rfl, rfl, rfl, rfl, pilToStaging_busy _⟩
  case copyDone =>
    unfold pilCopyDone
    rw [if_pos hnone]
    exact State.fg_fs _ _ _

end Sys2Proof.Machine
end

section
/-! PROOF. Range changes of a quay (R85 to R87): a request posted to the tile, and a pending change withdrawn. -/
namespace Sys2Proof.Machine

/-! ### A request posted to a tile -/

theorem setAt_eq_set {α : Type} (l : List α) (i : Nat) (v : α) : setAt l i v = l.set i v := by
  induction l generalizing i with
  | nil => rfl
  | cons x t ih =>
    cases i with
    | zero => rfl
    | succ i => exact congrArg (x :: ·) (ih i)

section
variable (s : State) (q : Nat)

/-- Two changes of one lane are one. A lane that does not exist takes neither. -/
theorem State.modLane_modLane (f g : Lane → Lane) : (s.modLane q f).modLane q g = s.modLane q fun x => g (f x) := by
  unfold State.modLane State.lane
  rw [getD_setAt]
  simp only [setAt_eq_set, List.set_set, true_and]
  split
  · rfl
  · rename_i hq
    rw [List.set_eq_of_length_le (Nat.le_of_not_lt hq), List.set_eq_of_length_le (Nat.le_of_not_lt hq)]

/-- R271: a request leaves with the lane's tag, and the next one has the next. -/
theorem postReq_eq (m : Nat → TMsg) : (postReq q m s).2 =
    s.modLane q fun x => { x with tag := (x.tag + 1) % 256, chan := x.chan.post (m (s.lane q).tag) } :=
  State.modLane_modLane s q (fun x => { x with tag := (x.tag + 1) % 256 })
    fun x => { x with chan := x.chan.post (m (s.lane q).tag) }

end

/-! ### A pending change withdrawn (R86) -/

section
variable {s : State} {q : Nat} {c : Change}

theorem rngDrop_of_pending (hc : (s.quay q).rng = some c) : rngDrop q s =
    (postReq q (fun t => .cancel t 1 (c.frame % 2 ^ 24))
      (((s.fsi F.QY_RNGSTAT_CANCELLED q 1).fsi F.QY_RNGSTAT_PEND q 0).modQuay q fun x => { x with rng := none })).2 := by
  unfold rngDrop
  rw [hc]

theorem rngDrop_withdraws (hc : (s.quay q).rng = some c) :
    (rngDrop q s).fgi F.QY_RNGSTAT_CANCELLED q = 1 ∧ (rngDrop q s).fgi F.QY_RNGSTAT_PEND q = 0 ∧
    (rngDrop q s).quays = setAt s.quays q { s.quay q with rng := none } ∧
    (rngDrop q s).lanes = setAt s.lanes q { s.lane q with
      tag := ((s.lane q).tag + 1) % 256
      chan := (s.lane q).chan.post (.cancel (s.lane q).tag 1 (c.frame % 2 ^ 24)) } := by
  rw [rngDrop_of_pending hc, postReq_eq]
  exact ⟨(State.fgi_fsi_ne _ _ _ _ _ _ (by decide)).trans (State.fgi_fsi _ _ _ _), State.fgi_fsi _ _ _ _, rfl, rfl⟩

theorem rngDrop_noack (s : State) (q : Nat) : (rngDrop q s).fgi F.QY_RNGSTAT_NOACK q = s.fgi F.QY_RNGSTAT_NOACK q :=
  State.fgi_of_seen ⟨[.quays, .lanes], false, [F.QY_RNGSTAT_CANCELLED, F.QY_RNGSTAT_PEND]⟩ _ _ _ q
    (rngDrop_seen _ q s (by decide)) (by decide)

theorem rngCancel_of_pending (hc : (s.quay q).rng = some c) :
    rngCancel q s = if notBefore (sub32 c.frame 9) s.frame then rngDrop q s else s := by
  unfold rngCancel
  rw [hc]

theorem rngNoack_of_due (hc : (s.quay q).rng = some c) (hack : c.acked = false)
    (hdue : notBefore s.coming (sub32 c.frame 8) = true) : rngNoack q s = rngDrop q (s.fsi F.QY_RNGSTAT_NOACK q 1) := by
  unfold rngNoack
  rw [hc]
  exact if_pos ⟨hack, hdue⟩

theorem rngApply_of_due (hc : (s.quay q).rng = some c) (hack : c.acked = true) (hdue : notBefore s.coming c.frame = true) :
    rngApply q s =
      (((s.fsi F.QY_RNGSTAT_CUR q c.val).fsi F.QY_RNGSTAT_PEND q 0).fsi F.QY_RNGSTAT_DONE q 1).modQuay q
        fun x => { x with rng := none } := by
  unfold rngApply
  rw [hc]
  exact if_pos ⟨hack, hdue⟩

end

/-! ### The family -/

theorem State.changeFrameOk_iff (s : State) (f : Nat) :
    s.changeFrameOk f = true ↔ 16 ≤ sub32 f s.frame ∧ sub32 f s.frame ≤ 2 ^ 23 := by
  unfold State.changeFrameOk
  rw [Bool.and_eq_true, decide_eq_true_iff, decide_eq_true_iff]

/-- Settles O26: a GO posts its ANNOUNCE by `postReq_eq`; both withdrawals are `rngDrop_withdraws`; an acknowledged change
only moves registers and ends. -/
theorem rangeChanges : Obligations.RangeChanges := by
  refine ⟨fun q s => ⟨rngGo q.val s, rfl, ?go⟩, fun q s c hc => ⟨rngCancel q.val s, rfl, ?cancel⟩,
    fun q s c hc hack hdue => ⟨rngNoack q.val s, rfl, ?noack⟩,
    fun q s c hc hack hdue => ⟨rngApply q.val s, rfl, ?inForce⟩⟩
  case go =>
    have hrange : s.fgi F.QY_RNGREQ_RANGE q.val < 2 ^ 2 := State.fgi_lt s F.QY_RNGREQ_RANGE q.val
    unfold rngGo
    simp only [State.changeFrameOk_iff]
    split_ifs
    · rw [postReq_eq]
      refine ⟨(State.fgi_fsi_ne _ _ _ _ _ _ (by decide)).trans (State.fgi_fsi _ _ _ _), ?_, rfl, rfl⟩
      exact (State.fgi_fsi _ _ _ _).trans (Nat.mod_eq_of_lt hrange)
    · exact ⟨State.fgi_fsi _ _ _ _, rfl, rfl⟩
  case cancel =>
    rw [rngCancel_of_pending hc]
    cases notBefore (sub32 c.frame 9) s.frame with
    | true => exact rngDrop_withdraws hc
    | false => rfl
  case noack =>
    rw [rngNoack_of_due hc hack hdue]
    have hpending : ((s.fsi F.QY_RNGSTAT_NOACK q.val 1).quay q.val).rng = some c := hc
    exact ⟨(rngDrop_noack _ _).trans (State.fgi_fsi _ _ _ _), rngDrop_withdraws hpending⟩
  case inForce =>
    rw [rngApply_of_due hc hack hdue]
    simp (disch := decide) only [State.modQuay_fgi, State.fgi_fsi, State.fgi_fsi_ne]
    exact ⟨rfl, rfl, rfl, rfl⟩

end Sys2Proof.Machine
end

section
/-! PROOF. Writes of drive mode, half level and range gains (R69, R89, R90). -/
namespace Sys2Proof.Machine

/-! ### A mode asked for (R69, R89) -/

section
variable (s : State) (q : Nat)

/-- R69: what a tile offers is not touched by a write of another register. -/
theorem State.threeOk_fsi (f : Fld) (v : Nat) (hgen : F.QY_LNKSTAT_TGEN.id ≠ f.id)
    (hthree : F.QY_LNKSTAT_THREE.id ≠ f.id) : (s.fsi f q v).threeOk q = s.threeOk q := by
  unfold State.threeOk State.flagi
  rw [State.fgi_fsi_ne _ _ _ _ _ _ hgen, State.fgi_fsi_ne _ _ _ _ _ _ hthree]

theorem modeRequest_fgi (f : Fld) (i : Nat) (hf : (Extent.mk [.quays] false [F.QY_DRVSTAT_MODEDEN]).r f = false) :
    (modeRequest q s).fgi f i = s.fgi f i :=
  State.fgi_of_seen _ _ _ f i (modeRequest_seen _ q s (by decide)) hf

theorem modeRequest_quays : (modeRequest q s).quays = setAt s.quays q { s.quay q with
    modeNext := some ⟨add32 s.frame 2, if s.fgi F.QY_DRVCFG_MODE q = 1 ∧ s.threeOk q = true then 1 else 0⟩ } := by
  unfold modeRequest
  extract_lets want grant u
  have hu : u.quays = s.quays ∧ u.frame = s.frame := by
    unfold u
    split
    · exact ⟨rfl, rfl⟩
    · exact ⟨rfl, rfl⟩
  rw [State.modQuay_quays, State.quay, hu.1, hu.2]
  rfl

theorem modeRequest_denied (hwant : s.fgi F.QY_DRVCFG_MODE q = 1) (hthree : s.threeOk q = false) :
    (modeRequest q s).fgi F.QY_DRVSTAT_MODEDEN q = 1 := by
  have hdenied : ¬ (s.fgi F.QY_DRVCFG_MODE q = 1 ∧ s.threeOk q = true) := by simp [hthree]
  unfold modeRequest
  extract_lets want grant u
  have hu : u = s.fsi F.QY_DRVSTAT_MODEDEN q 1 := if_pos ⟨hwant, if_neg hdenied⟩
  rw [State.modQuay_fgi, hu]
  exact State.fgi_fsi _ _ _ _

end

/-! ### The family -/

section
variable (q : Nat) (v : Word) {s : State}

/-- The registers of a write of QY.DRVCFG that is not locked, before its mode is judged. -/
def drvcfgFields (s : State) : State :=
  (s.fsi F.QY_DRVCFG_MODE q v.toNat).fsi F.QY_DRVCFG_SSLEN q (v.toNat / 256)

theorem drvcfgFields_mode : (drvcfgFields q v s).fgi F.QY_DRVCFG_MODE q = v.toNat % 2 :=
  (State.fgi_fsi_ne _ _ _ _ _ _ (by decide)).trans (State.fgi_fsi _ _ _ _)

theorem drvcfgFields_threeOk : (drvcfgFields q v s).threeOk q = s.threeOk q :=
  (State.threeOk_fsi _ q _ _ (by decide) (by decide)).trans (State.threeOk_fsi s q _ _ (by decide) (by decide))

theorem drvcfgWrite_of_unlocked (hlock : ¬ s.locked = true) : drvcfgWrite q v s = modeRequest q (drvcfgFields q v s) :=
  if_neg hlock

end

/-- Settles O27: a write of DRVCFG that is not locked is a request of its mode (`modeRequest_quays`,
`modeRequest_denied`); the two levels are taken or refused by their bounds. -/
theorem driveWrites : Obligations.DriveWrites := by
  refine ⟨fun q v s => ⟨drvcfgWrite q.val v s, rfl, ?drvcfg⟩, fun q v s => ⟨halflvlWrite q.val v s, rfl, ?halflvl⟩,
    fun q r v s => ⟨rnggainWrite q.val r.val v s, rfl, ?rnggain⟩⟩
  case drvcfg =>
    by_cases hlock : s.locked = true
    · rw [if_pos hlock]
      exact if_pos hlock
    · have hmode := drvcfgFields_mode q.val v (s := s)
      have hthree := drvcfgFields_threeOk q.val v (s := s)
      have hquays := modeRequest_quays (drvcfgFields q.val v s) q.val
      rw [hmode, hthree] at hquays
      rw [if_neg hlock, drvcfgWrite_of_unlocked q.val v hlock]
      refine ⟨(modeRequest_fgi _ _ _ _ (by decide)).trans hmode,
        (modeRequest_fgi _ _ _ _ (by decide)).trans (State.fgi_fsi _ _ _ _), hquays, fun ⟨hwant, hno⟩ => ?_⟩
      exact modeRequest_denied _ _ (hmode.trans hwant) (hthree.trans hno)
  case halflvl =>
    unfold halflvlWrite
    dsimp only
    split_ifs
    · exact ⟨(State.fgi_fsi _ _ _ _).trans (Nat.mod_mod _ _), rfl⟩
    · exact ⟨State.fgi_fsi _ _ _ _, rfl⟩
  case rnggain =>
    unfold rnggainWrite
    simp only [Fin.val_eq_zero_iff]
    split_ifs
    · rfl
    · exact ⟨(State.fgi_fsi _ _ _ _).trans (Nat.mod_mod _ _), rfl⟩
    · exact ⟨State.fgi_fsi _ _ _ _, rfl⟩

end Sys2Proof.Machine
end

section
/-! PROOF. Timing-set changes of a quay (R112, R113): what a GO accepts and refuses, and the ends of a pending change. -/
namespace Sys2Proof.Machine

/-! ### A GO (R113) -/

/-- R113: what a GO asks for besides staged sets that meet R112. A GO for which this fails sets BADFRM. -/
def State.tsFrameOk (s : State) (q : Nat) : Bool :=
  decide ((s.quay q).ts = none) && s.stageDiffers q && s.changeFrameOk (s.fgi F.QY_TSFRM_FRAME q)

section
variable {s : State} {q : Nat}

theorem State.tsFrameOk_iff : s.tsFrameOk q = true ↔
    (s.quay q).ts = none ∧ s.stageDiffers q = true ∧ s.changeFrameOk (s.fgi F.QY_TSFRM_FRAME q) = true := by
  unfold State.tsFrameOk
  rw [Bool.and_eq_true, Bool.and_eq_true, decide_eq_true_iff, and_assoc]

theorem State.tsFrameOk_eq_false_iff : s.tsFrameOk q = false ↔
    (s.quay q).ts ≠ none ∨ s.stageDiffers q = false ∨ s.changeFrameOk (s.fgi F.QY_TSFRM_FRAME q) = false := by
  unfold State.tsFrameOk
  rw [Bool.and_eq_false_iff, Bool.and_eq_false_iff, decide_eq_false_iff_not, or_assoc]

/-- The state of an accepted GO before the bank and the ANNOUNCE go to the tile: the change pends for the bank not in
force. -/
def tsPends (q : Nat) (s : State) : State :=
  (s.fsi F.QY_TSSTAT_PEND q 1).modQuay q fun x =>
    { x with ts := some ⟨s.fgi F.QY_TSFRM_FRAME q, 1 - (s.lane q).bank, false⟩ }

theorem tsGo_of_accepted (hplan : s.setsOk q s.stageSetOf = true) (hfrm : s.tsFrameOk q = true) :
    tsGo q s = (postReq q (fun t => .announce t 2 (s.fgi F.QY_TSFRM_FRAME q % 2 ^ 24) (1 - (s.lane q).bank))
      (writeBank q (1 - (s.lane q).bank) (tsPends q s))).2 :=
  if_pos (Bool.and_eq_true_iff.mpr ⟨hplan, hfrm⟩)

theorem tsGo_of_refused (href : ¬ (s.setsOk q s.stageSetOf = true ∧ s.tsFrameOk q = true)) :
    tsGo q s = (s.when (!s.setsOk q s.stageSetOf) fun s => s.fsi F.QY_TSSTAT_PLAN q 1).when (!s.tsFrameOk q)
      fun s => s.fsi F.QY_TSSTAT_BADFRM q 1 := by
  have hif : tsGo q s = if s.tsFrameOk q then (if s.setsOk q s.stageSetOf then s else s.fsi F.QY_TSSTAT_PLAN q 1)
      else (if s.setsOk q s.stageSetOf then s else s.fsi F.QY_TSSTAT_PLAN q 1).fsi F.QY_TSSTAT_BADFRM q 1 :=
    if_neg (mt Bool.and_eq_true_iff.mp href)
  rw [hif]
  cases s.setsOk q s.stageSetOf <;> cases s.tsFrameOk q <;> rfl

/-- An extent that covers a write of a bank, by `writeBank_seen`. It holds none of QY.TSSTAT. -/
def Extent.bankWrite : Extent := ⟨[.lanes], false, F.QY_LNKSTAT_SAMPCLIP :: tsasgFlds⟩

theorem writeBank_quays (b : Nat) (s : State) : (writeBank q b s).quays = s.quays :=
  quays_of_seen .bankWrite _ _ (writeBank_seen _ q b s (by decide)) (by decide)

theorem writeBank_tsPend (b : Nat) (s : State) :
    (writeBank q b s).fgi F.QY_TSSTAT_PEND q = s.fgi F.QY_TSSTAT_PEND q :=
  State.fgi_of_seen .bankWrite _ _ _ q (writeBank_seen _ q b s (by decide)) (by decide)

/-- An accepted GO: what is written to the tile leaves the pending change as it is. -/
theorem tsGo_pends (hplan : s.setsOk q s.stageSetOf = true) (hfrm : s.tsFrameOk q = true) :
    (tsGo q s).fgi F.QY_TSSTAT_PEND q = 1 ∧ (tsGo q s).quays = setAt s.quays q { s.quay q with
      ts := some ⟨s.fgi F.QY_TSFRM_FRAME q, 1 - (s.lane q).bank, false⟩ } := by
  rw [tsGo_of_accepted hplan hfrm, postReq_eq]
  exact ⟨(writeBank_tsPend _ _).trans (State.fgi_fsi _ _ _ _), writeBank_quays _ _⟩

/-- A refused GO: PLAN and BADFRM each say its cause, and nothing else of the quay or its lane moves. -/
theorem tsGo_refuses (href : ¬ (s.setsOk q s.stageSetOf = true ∧ s.tsFrameOk q = true)) :
    (tsGo q s).quays = s.quays ∧ (tsGo q s).lanes = s.lanes ∧
    (s.setsOk q s.stageSetOf = false → (tsGo q s).fgi F.QY_TSSTAT_PLAN q = 1) ∧
    (s.tsFrameOk q = false → (tsGo q s).fgi F.QY_TSSTAT_BADFRM q = 1) := by
  rw [tsGo_of_refused href]
  cases s.setsOk q s.stageSetOf with
  | true =>
    cases s.tsFrameOk q with
    | true => exact ⟨rfl, rfl, nofun, nofun⟩
    | false => exact ⟨rfl, rfl, nofun, fun _ => State.fgi_fsi _ _ _ _⟩
  | false =>
    cases s.tsFrameOk q with
    | true => exact ⟨rfl, rfl, fun _ => State.fgi_fsi _ _ _ _, nofun⟩
    | false =>
      exact ⟨rfl, rfl, fun _ => (State.fgi_fsi_ne _ _ _ _ _ _ (by decide)).trans (State.fgi_fsi _ _ _ _),
        fun _ => State.fgi_fsi _ _ _ _⟩

end

/-! ### A pending change withdrawn or in force (R86, R87, R113) -/

section
variable {s : State} {q : Nat} {c : Change}

theorem tsDrop_of_pending (hc : (s.quay q).ts = some c) : tsDrop q s =
    (postReq q (fun t => .cancel t 2 (c.frame % 2 ^ 24))
      (((s.fsi F.QY_TSSTAT_CANCELLED q 1).fsi F.QY_TSSTAT_PEND q 0).modQuay q fun x => { x with ts := none })).2 := by
  unfold tsDrop
  rw [hc]

theorem tsDrop_withdraws (hc : (s.quay q).ts = some c) :
    (tsDrop q s).fgi F.QY_TSSTAT_CANCELLED q = 1 ∧ (tsDrop q s).fgi F.QY_TSSTAT_PEND q = 0 ∧
    (tsDrop q s).quays = setAt s.quays q { s.quay q with ts := none } ∧
    (tsDrop q s).lanes = setAt s.lanes q { s.lane q with
      tag := ((s.lane q).tag + 1) % 256
      chan := (s.lane q).chan.post (.cancel (s.lane q).tag 2 (c.frame % 2 ^ 24)) } := by
  rw [tsDrop_of_pending hc, postReq_eq]
  exact ⟨(State.fgi_fsi_ne _ _ _ _ _ _ (by decide)).trans (State.fgi_fsi _ _ _ _), State.fgi_fsi _ _ _ _, rfl, rfl⟩

theorem tsDrop_noack (s : State) (q : Nat) : (tsDrop q s).fgi F.QY_TSSTAT_NOACK q = s.fgi F.QY_TSSTAT_NOACK q :=
  State.fgi_of_seen ⟨[.quays, .lanes], false, [F.QY_TSSTAT_CANCELLED, F.QY_TSSTAT_PEND]⟩ _ _ _ q
    (tsDrop_seen _ q s (by decide)) (by decide)

theorem tsCancel_of_pending (hc : (s.quay q).ts = some c) :
    tsCancel q s = if notBefore (sub32 c.frame 9) s.frame then tsDrop q s else s := by
  unfold tsCancel
  rw [hc]

theorem tsNoack_of_due (hc : (s.quay q).ts = some c) (hack : c.acked = false)
    (hdue : notBefore s.coming (sub32 c.frame 8) = true) : tsNoack q s = tsDrop q (s.fsi F.QY_TSSTAT_NOACK q 1) := by
  unfold tsNoack
  rw [hc]
  exact if_pos ⟨hack, hdue⟩

theorem tsApply_of_due (hc : (s.quay q).ts = some c) (hack : c.acked = true) (hdue : notBefore s.coming c.frame = true) :
    tsApply q s =
      (((s.fsi F.QY_TSSTAT_PEND q 0).fsi F.QY_TSSTAT_DONE q 1).modLane q fun x => { x with bank := c.val }).modQuay q fun x =>
        { x with ts := none, tsWas := some ⟨c.frame, x.tsets, x.tasg⟩, tsets := s.stageSets q, tasg := s.stageTasg q } := by
  unfold tsApply
  rw [hc]
  exact if_pos ⟨hack, hdue⟩

end

/-! ### The family -/

/-- Settles O28: a GO pends (`tsGo_pends`) or says why not (`tsGo_refuses`), as `State.tsFrameOk` and the check of the
staged sets decide; both withdrawals are `tsDrop_withdraws`; an acknowledged change moves two fields, the bank and the
sets in force. -/
theorem timingSetChanges : Obligations.TimingSetChanges := by
  refine ⟨fun q s => ⟨tsGo q.val s, rfl, ?go⟩, fun q s c hc => ⟨tsCancel q.val s, rfl, ?cancel⟩,
    fun q s c hc hack hdue => ⟨tsNoack q.val s, rfl, ?noack⟩,
    fun q s c hc hack hdue => ⟨tsApply q.val s, rfl, ?inForce⟩⟩
  case go =>
    simp only [← State.tsFrameOk_iff, ← State.tsFrameOk_eq_false_iff]
    split_ifs with haccept
    · obtain ⟨hplan, hfrm⟩ := haccept
      exact tsGo_pends hplan hfrm
    · exact tsGo_refuses haccept
  case cancel =>
    rw [tsCancel_of_pending hc]
    cases notBefore (sub32 c.frame 9) s.frame with
    | true => exact tsDrop_withdraws hc
    | false => rfl
  case noack =>
    rw [tsNoack_of_due hc hack hdue]
    have hpending : ((s.fsi F.QY_TSSTAT_NOACK q.val 1).quay q.val).ts = some c := hc
    exact ⟨(tsDrop_noack _ _).trans (State.fgi_fsi _ _ _ _), tsDrop_withdraws hpending⟩
  case inForce =>
    rw [tsApply_of_due hc hack hdue]
    simp (disch := decide) only [State.modQuay_fgi, State.modLane_fgi, State.fgi_fsi, State.fgi_fsi_ne]
    exact ⟨rfl, rfl, rfl, rfl⟩

end Sys2Proof.Machine
end

section
/-! PROOF. What the mooring loops (05) count and report leaves of the fabric: events, entries of the fault log, counters. -/
namespace Sys2Proof.Machine

/-! ### The fabric and the registers through an event or a log entry -/

section
variable (s : State)

@[simp] theorem State.raise_fab (src : Nat) : (s.raise src).fab = s.fab := fab_kept (State.raise_seen _ s src (by decide))

@[simp] theorem State.logFault_fab (code index detail : Nat) : (s.logFault code index detail).fab = s.fab :=
  fab_kept (State.logFault_seen _ s code index detail (by decide))

theorem State.raise_fgi (src : Nat) (f : Fld) (i : Nat) (hf : (Extent.mk [.seqs] false raiseFlds).r f = false) :
    (s.raise src).fgi f i = s.fgi f i :=
  State.fgi_of_seen _ _ _ f i (State.raise_seen _ s src (by decide)) hf

theorem State.logFault_fgi (code index detail : Nat) (f : Fld) (i : Nat) (hf : f.id ≠ F.DBG_FLTSTAT_CLASS.id) :
    (s.logFault code index detail).fgi f i = s.fgi f i :=
  State.fgi_of_seen ⟨[.log, .port], false, [F.DBG_FLTSTAT_CLASS]⟩ _ _ f i
    (State.logFault_seen _ s code index detail (by decide)) (by simpa [Extent.r] using hf.symm)

theorem State.logFault_pend (code index detail src : Nat) : (s.logFault code index detail).pend src = s.pend src :=
  congrArg (fun v => v.testBit (src % 32)) (State.logFault_fgi s code index detail F.ICU_PENDw_SRC _ (by decide))

/-- R13: a counter moved up by one. -/
theorem State.fg_bump (f : Fld) : (s.bump f).fg f = Nat.min (s.fg f + 1) (2 ^ f.width - 1) := State.fgi_addi s f 0 1

end

end Sys2Proof.Machine
end

section
/-! PROOF. Dark slots and settling (R135, R145, R146). -/
namespace Sys2Proof.Machine

section
variable {n : Nat} {s : State}

theorem State.slot_modLoop_same (n : Nat) (g : Loop → Loop) (s : State) :
    (s.modLoop n g).slot n = { s.slot n with lp := g (s.slot n).lp } :=
  State.slot_modSlot_same s n _

/-- R137: what a fold leaves of the loop of its slot. -/
theorem foldSlot_slot (n : Nat) (s : State) : (foldSlot n s).slot n =
    { s.slot n with lp := { (s.slot n).lp with h := toHold ((s.slot n).lp.hold + s.lpOf n), iM := 0, lpM := 0 } } :=
  State.slot_modLoop_same n _ s

/-- R135: the fabric of a slot that becomes dark, before it is counted and reported. -/
def darkened (n : Nat) (s : State) : State := (foldSlot n s).modLoop n fun l => { l with dark := true }

theorem darkened_slot (n : Nat) (s : State) : (darkened n s).slot n =
    { s.slot n with lp := { (s.slot n).lp with
        h := toHold ((s.slot n).lp.hold + s.lpOf n), iM := 0, lpM := 0, dark := true } } := by
  unfold darkened
  rw [State.slot_modLoop_same, foldSlot_slot]

theorem slotDark_of_due (hesc : s.fg F.MOR_LCFG_GAPESC ≠ 0) (hcnt : s.fg F.MOR_LCFG_GAPESC ≤ (s.slot n).lp.darkCnt)
    (hdark : (s.slot n).lp.dark = false) :
    slotDark n s = (((darkened n s).bump F.MOR_DARKCNT).raise 3).logFault 0x5003 n 0 :=
  if_pos ⟨hesc, hcnt, hdark⟩

theorem slotDark_fab_of_due (hesc : s.fg F.MOR_LCFG_GAPESC ≠ 0) (hcnt : s.fg F.MOR_LCFG_GAPESC ≤ (s.slot n).lp.darkCnt)
    (hdark : (s.slot n).lp.dark = false) : (slotDark n s).fab = (darkened n s).fab := by
  rw [slotDark_of_due hesc hcnt hdark, State.logFault_fab, State.raise_fab]
  rfl

theorem slotSettled_of_due (huns : (s.slot n).lp.uns = true)
    (hrun : (if (s.coef (bundleOf n)).setcnt = 0 then 1 else (s.coef (bundleOf n)).setcnt) ≤ (s.slot n).lp.setrun) :
    slotSettled n s = s.modLoop n fun l => { l with uns := false, settled := true, setfail := false } :=
  if_pos ⟨huns, hrun⟩

/-- R146, R174: the records of manifests that track slot `n`, marked SETFAIL. -/
def markSetFail (n : Nat) (r : Nat × ExecRec) : Nat × ExecRec :=
  if r.2.entries.any (fun e => e.tracked && decide (e.slot = n)) then (r.1, { r.2 with setFail := true }) else r

/-- R146: settling has failed, before it is counted. -/
def timedOut (n : Nat) (s : State) : State := s.modLoop n fun l => { l with setfail := true, tmoDone := true }

theorem settleTimeout_of_due (huns : (s.slot n).lp.uns = true) (htmo : (s.coef (bundleOf n)).settmo ≠ 0)
    (hage : (s.coef (bundleOf n)).settmo ≤ (s.slot n).lp.setage) (hdone : (s.slot n).lp.tmoDone = false) :
    settleTimeout n s = (((timedOut n s).bump F.MOR_SETFAIL).raise 5).modExec fun x =>
      { x with recs := x.recs.map (markSetFail n) } :=
  if_pos ⟨huns, htmo, hage, hdone⟩

theorem mem_map_markSetFail {l : List (Nat × ExecRec)} {r : Nat × ExecRec} (hr : r ∈ l)
    (htrack : r.2.entries.any (fun e => e.tracked && decide (e.slot = n)) = true) :
    (r.1, { r.2 with setFail := true }) ∈ l.map (markSetFail n) :=
  List.mem_map.mpr ⟨r, hr, if_pos htrack⟩

end

/-! ### The family -/

/-- Settles O18: a slot becomes dark by `darkened`, and what counts and reports it leaves the fabric alone; a slot settles by
a change of its loop only; a timeout marks the loop and, by `markSetFail`, the records that track the slot. -/
theorem slotsDarkAndSettled : Obligations.SlotsDarkAndSettled := by
  refine ⟨fun n s hesc hcnt hdark => ⟨slotDark n.val s, rfl, ?dark⟩,
    fun n s huns hrun => ⟨slotSettled n.val s, rfl, ?settled⟩,
    fun n s huns htmo hage hdone => ⟨settleTimeout n.val s, rfl, ?timeout⟩⟩
  case dark =>
    have hslot : (slotDark n.val s).slot n.val = (darkened n.val s).slot n.val :=
      congrArg (fun x : Fabric => tget Slot.init x.slots n.val) (slotDark_fab_of_due hesc hcnt hdark)
    rw [hslot, darkened_slot, slotDark_of_due hesc hcnt hdark]
    refine ⟨rfl, rfl, rfl, rfl, rfl, ?_, (State.logFault_pend _ _ _ _ _).trans (State.raise_pend _ 3)⟩
    exact ((State.logFault_fgi _ _ _ _ _ _ (by decide)).trans (State.raise_fgi _ _ _ _ (by decide))).trans
      (State.fg_bump _ F.MOR_DARKCNT)
  case settled =>
    rw [slotSettled_of_due huns hrun, State.slot_modLoop_same]
    exact ⟨rfl, rfl, rfl, rfl⟩
  case timeout =>
    have hslot : (settleTimeout n.val s).slot n.val = (timedOut n.val s).slot n.val := by
      rw [settleTimeout_of_due huns htmo hage hdone]
      exact congrArg (fun x : Fabric => tget Slot.init x.slots n.val) (State.raise_fab _ 5)
    have hrecs : (settleTimeout n.val s).exec.recs = s.exec.recs.map (markSetFail n.val) := by
      rw [settleTimeout_of_due huns htmo hage hdone]
      have hexec : ∀ u : State, (u.raise 5).exec = u.exec := fun u =>
        exec_of_seen ⟨[.seqs], false, raiseFlds⟩ _ _ (State.raise_seen _ u 5 (by decide)) (by decide)
      exact congrArg (fun x : ExecSt => x.recs.map (markSetFail n.val)) (hexec _)
    rw [hslot, hrecs, timedOut, State.slot_modLoop_same, settleTimeout_of_due huns htmo hage hdone]
    refine ⟨rfl, rfl, fun r hr htrack => mem_map_markSetFail hr htrack, ?_, State.raise_pend _ 5⟩
    exact (State.raise_fgi _ _ _ _ (by decide)).trans (State.fg_bump _ F.MOR_SETFAIL)

end Sys2Proof.Machine
end

section
/-! PROOF. Commands and changes of a bundle's state (R136 to R143, R394, R400). -/
namespace Sys2Proof.Machine

/-! ### A change of a bundle's state (R137) -/

/-- What every step of a fold keeps, the fold keeps. -/
theorem foldl_keeps {α β : Type} {f : State → α → State} (get : State → β) (h : ∀ s a, get (f s a) = get s)
    (l : List α) (s : State) : get (l.foldl f s) = get s := by
  induction l generalizing s with
  | nil => rfl
  | cons a l ih => exact (ih _).trans (h s a)

/-- The fabric without its slots and the snapshot that late bundles fall back to. -/
def Fabric.butSlots (x : Fabric) : Fabric := { x with slots := [], snap := none }

section
variable (b : Nat) (s : State)

theorem State.modSlot_butSlots (n : Nat) (g : Slot → Slot) : (s.modSlot n g).fab.butSlots = s.fab.butSlots := rfl

theorem setLoops_butSlots (was st : BState) : (setLoops b was st s).fab.butSlots = s.fab.butSlots := by
  have hfold : (s.eachSlot b foldSlot).fab.butSlots = s.fab.butSlots :=
    foldl_keeps (fun s => s.fab.butSlots) (fun s _ => State.modSlot_butSlots s _ _) (List.range 8) s
  have hclear : ∀ (g : Nat → Slot → Slot) (u : State), (u.modBunSlots b g).fab.butSlots = u.fab.butSlots := fun g =>
    foldl_keeps (fun s => s.fab.butSlots) (fun s _ => State.modSlot_butSlots s _ _) (List.range 8)
  unfold setLoops
  extract_lets u
  have hu : u.fab.butSlots = s.fab.butSlots := by
    unfold u
    split
    · exact hfold
    · rfl
  split
  · exact (hclear _ u).trans hu
  · exact hu

theorem State.inSnap_butSlots (g : State → State) : (s.inSnap g).fab.butSlots = s.fab.butSlots := by
  unfold State.inSnap
  split
  · rfl
  · rfl

/-- A change of state moves the state of the bundle, and otherwise slots and their snapshot alone. -/
theorem setBundle_butSlots (st : BState) :
    (setBundle b st s).fab.butSlots = (s.modBun b fun x => { x with st := st }).fab.butSlots := by
  have hloops : ((setLoops b (s.bun b).st st s).inSnap (setLoops b (s.bun b).st st)).fab.butSlots = s.fab.butSlots :=
    (State.inSnap_butSlots _ _).trans (setLoops_butSlots b s _ _)
  exact congrArg (fun x : Fabric => { x with bundles := tmod Bundle.init x.bundles b fun y => { y with st := st } }) hloops

theorem State.bun_modBun_same (g : Bundle → Bundle) : (s.modBun b g).bun b = g (s.bun b) :=
  tget_tmod Bundle.init s.fab.bundles b g

theorem State.coef_modBun (g : Bundle → Bundle) (c : Nat) : (s.modBun b g).coef c = s.coef c := rfl

theorem setBundle_bun (st : BState) : (setBundle b st s).bun b = { s.bun b with st := st } := by
  have hbun := congrArg (fun x : Fabric => tget Bundle.init x.bundles b) (setBundle_butSlots b s st)
  exact Eq.trans hbun (State.bun_modBun_same b s fun x => { x with st := st })

theorem setBundle_pendCoefs (st : BState) : (setBundle b st s).fab.pendCoefs = s.fab.pendCoefs := by
  have hpend := congrArg Fabric.pendCoefs (setBundle_butSlots b s st)
  exact hpend

/-! ### Commands (R138) -/

theorem bundleCommand_bun (cmd : BCmd) (st : BState) : (bundleCommand b cmd st s).bun b =
    if (s.bun b).st = .parked ∨ (s.bun b).st = .hold ∨ (s.bun b).calHold.isSome = true then
      { s.bun b with ret := st, cmd := .none, recloseF := none, takeF := none }
    else { s.bun b with cmd := cmd, recloseF := none, takeF := none } := by
  unfold bundleCommand
  dsimp only
  split_ifs
  · exact State.bun_modBun_same b s _
  · exact State.bun_modBun_same b s _

end

section
variable {b c : Nat} {s : State}

theorem bundleCommandApply_bun (hupd : s.updNext b = true) (hcal : (s.bun b).calHold = none)
    (hst : (s.bun b).st = .opened ∨ (s.bun b).st = .closed) (hcmd : (s.bun b).cmd ≠ .none) :
    (bundleCommandApply b s).bun b =
      { s.bun b with st := if (s.bun b).cmd = .opening then .opened else .closed, cmd := .none } := by
  have hdue : (s.updNext b && (s.bun b).calHold.isNone &&
      (decide ((s.bun b).st = .opened) || decide ((s.bun b).st = .closed))) = true := by simp [hupd, hcal, hst]
  unfold bundleCommandApply
  rw [if_pos hdue]
  cases hc : (s.bun b).cmd with
  | none => exact absurd hc hcmd
  | opening => exact (State.bun_modBun_same b _ _).trans (by rw [setBundle_bun]; rfl)
  | closing => exact (State.bun_modBun_same b _ _).trans (by rw [setBundle_bun]; rfl)

/-! ### Returns and closings due (R140, R141) -/

theorem bundleUnpark_bun (hst : (s.bun b).st = .parked) (hclear : (s.bun b).clearF = some c)
    (hdue : s.secondUpdate b c = true) : (bundleUnpark b s).bun b =
      { s.bun b with
        st := if (s.bun b).calHold.isSome = true then .opened else (s.bun b).ret, cause := .none, clearF := none } := by
  unfold bundleUnpark
  extract_lets x
  rw [show x.st = .parked from hst, show x.clearF = some c from hclear]
  dsimp only
  rw [if_pos hdue, State.bun_modBun_same, setBundle_bun]

/-- R141: a bundle whose closing at start-up is done. -/
def initDone (b : Nat) (s : State) : State := s.modBun b fun x => { x with initF := none }

theorem bundleInitClose_of_due (hinit : (s.bun b).initF = some c) (hdue : s.secondUpdate b c = true) :
    bundleInitClose b s =
      if (s.bun b).calHold.isSome = true ∨ (s.bun b).st = .parked ∨ (s.bun b).st = .hold then
        (initDone b s).modBun b fun x => { x with ret := .closed }
      else if (s.bun b).st = .opened then setBundle b .closed (initDone b s) else initDone b s := by
  unfold bundleInitClose
  extract_lets x
  rw [show x.initF = some c from hinit]
  exact if_pos hdue

theorem bundleInitClose_bun_of_returns (hinit : (s.bun b).initF = some c) (hdue : s.secondUpdate b c = true)
    (hret : (s.bun b).calHold.isSome = true ∨ (s.bun b).st = .parked ∨ (s.bun b).st = .hold) :
    (bundleInitClose b s).bun b = { s.bun b with initF := none, ret := .closed } := by
  rw [bundleInitClose_of_due hinit hdue, if_pos hret, State.bun_modBun_same, initDone, State.bun_modBun_same]

theorem bundleInitClose_bun_of_opened (hinit : (s.bun b).initF = some c) (hdue : s.secondUpdate b c = true)
    (hst : (s.bun b).st = .opened) (hcal : (s.bun b).calHold = none) :
    (bundleInitClose b s).bun b = { s.bun b with initF := none, st := .closed } := by
  have hfree : ¬ ((s.bun b).calHold.isSome = true ∨ (s.bun b).st = .parked ∨ (s.bun b).st = .hold) := by simp [hst, hcal]
  rw [bundleInitClose_of_due hinit hdue, if_neg hfree, if_pos hst, setBundle_bun, initDone, State.bun_modBun_same]

end

/-! ### Changes of coefficients (R143) -/

section
variable (b : Nat) (s : State)

theorem takeCoefs_coef : (takeCoefs b s).coef b = (tget none s.fab.pendCoefs b).elim BunCoef.init (·.coef) :=
  tget_tset _ _ _ _

theorem takeCoefs_pending : tget none (takeCoefs b s).fab.pendCoefs b = none :=
  tget_absent _ _ _ (tkeys_tdel _ _)

theorem takeCoefs_bun : (takeCoefs b s).bun b = s.bun b := rfl

/-- R143: a bundle opens for the coefficients that come into force. -/
def openForCoefs : State :=
  (takeCoefs b (setBundle b .opened s)).modBun b fun x => { x with recloseF := some s.coming }

theorem openForCoefs_bun : (openForCoefs b s).bun b = { s.bun b with st := .opened, recloseF := some s.coming } := by
  unfold openForCoefs
  rw [State.bun_modBun_same, takeCoefs_bun, setBundle_bun]

theorem openForCoefs_coef :
    (openForCoefs b s).coef b = (tget none s.fab.pendCoefs b).elim BunCoef.init (·.coef) := by
  unfold openForCoefs
  rw [State.coef_modBun, takeCoefs_coef, setBundle_pendCoefs]

theorem openForCoefs_pending : tget none (openForCoefs b s).fab.pendCoefs b = none :=
  takeCoefs_pending b (setBundle b .opened s)

theorem closeOrReturn_bun : (closeOrReturn b s).bun b =
    if (s.bun b).calHold.isSome = true then { s.bun b with ret := .closed } else { s.bun b with st := .closed } := by
  unfold closeOrReturn
  split_ifs
  · exact State.bun_modBun_same b s _
  · exact setBundle_bun b s _

end

section
variable {b : Nat} {s : State}

theorem coefApply_of_due {c : CoefChange} (hc : tget none s.fab.pendCoefs b = some c) (hupd : s.updNext b = true)
    (hhold : (s.bun b).st ≠ .hold) :
    coefApply b s =
      if (s.bun b).st = .closed ∧ c.wasClosed = true then openForCoefs b s else takeCoefs b s := by
  unfold coefApply
  rw [hc]
  dsimp only
  rw [if_pos hupd]
  cases hst : (s.bun b).st with
  | opened => rfl
  | closed => simp only [true_and]; rfl
  | parked => rfl
  | hold => exact absurd hst hhold

theorem coefReclose_of_due {c : Nat} (hre : (s.bun b).recloseF = some c) (hst : (s.bun b).st = .opened)
    (hdue : s.secondUpdate b c = true) :
    coefReclose b s = closeOrReturn b (s.modBun b fun x => { x with recloseF := none }) := by
  unfold coefReclose
  extract_lets x
  rw [show x.recloseF = some c from hre]
  exact if_pos ⟨hst, hdue⟩

end

/-! ### The family -/

/-- Settles O19: each command is one change of its bundle, said once above (`bundleCommand_bun`, `bundleUnpark_bun` and so
on); a change of state by `setBundle` moves nothing else of the bundle, nor the coefficients that wait for it. -/
theorem bundleCommandsAndStates : Obligations.BundleCommandsAndStates := by
  refine ⟨fun s => ⟨bundleCommand s.bsel .opening .opened s, rfl, ?opening⟩,
    fun s => ⟨bundleCommand s.bsel .closing .closed s, rfl, ?closing⟩,
    fun b s hupd hcal hst hcmd => ⟨bundleCommandApply b.val s, rfl, ?apply⟩,
    fun b s c hst hclear hdue => ⟨bundleUnpark b.val s, rfl, ?unpark⟩,
    fun b s c hinit hst hcal hdue => ⟨bundleInitClose b.val s, rfl, ?initOpen⟩,
    fun b s c hinit hret hdue => ⟨bundleInitClose b.val s, rfl, ?initReturns⟩,
    fun b s c hc hupd hhold => ⟨coefApply b.val s, rfl, ?coefs⟩,
    fun b s c hre hst hdue => ⟨coefReclose b.val s, rfl, ?reclose⟩⟩
  case opening =>
    rw [bundleCommand_bun]
    split_ifs
    · exact ⟨rfl, rfl, rfl, rfl, rfl⟩
    · exact ⟨rfl, rfl, rfl, rfl⟩
  case closing =>
    rw [bundleCommand_bun]
    split_ifs
    · exact ⟨rfl, rfl, rfl, rfl, rfl⟩
    · exact ⟨rfl, rfl, rfl, rfl⟩
  case apply =>
    rw [bundleCommandApply_bun hupd hcal hst hcmd]
    exact ⟨rfl, rfl, rfl⟩
  case unpark =>
    rw [bundleUnpark_bun hst hclear hdue]
    exact ⟨rfl, rfl, rfl⟩
  case initOpen =>
    rw [bundleInitClose_bun_of_opened hinit hdue hst hcal]
    exact ⟨rfl, rfl⟩
  case initReturns =>
    rw [bundleInitClose_bun_of_returns hinit hdue hret]
    exact ⟨rfl, rfl, rfl⟩
  case coefs =>
    rw [coefApply_of_due hc hupd hhold]
    split_ifs
    · rw [openForCoefs_coef, openForCoefs_bun, hc]
      exact ⟨rfl, openForCoefs_pending _ _, rfl, rfl⟩
    · rw [takeCoefs_coef, takeCoefs_bun, hc]
      exact ⟨rfl, takeCoefs_pending _ _, rfl⟩
  case reclose =>
    rw [coefReclose_of_due hre hst hdue, closeOrReturn_bun, State.bun_modBun_same]
    dsimp only
    split_ifs
    · exact ⟨rfl, hst, rfl⟩
    · exact ⟨rfl, rfl⟩

end Sys2Proof.Machine
end

section
/-! PROOF. Faults of engines and their substitution (R148, R150, R151). -/
namespace Sys2Proof.Machine

/-! ### A fault (R148) -/

section
variable (p e cause code : Nat) (s : State)

/-- R148: an engine is marked FAILED, before the fault is logged and raised. -/
def markFailed : State := ((s.fsi F.MOR_ESTATp_STATE p 2).fsi F.MOR_ESTATp_CAUSE p cause).fs F.MOR_STAT_ENGFLT 1

/-- R508: the log entries of a fault: its own, and one where no spare engine is left. -/
def logFailed : State :=
  ((markFailed p cause s).logFault code p e).when (decide (s.spares = 0)) fun s => s.logFault 0x3004 p e

theorem engineFails_eq : engineFails p e cause code s = (logFailed p e cause code s).raise 6 := rfl

theorem State.when_logFault_fab (c : Bool) (code index detail : Nat) :
    (s.when c fun s => s.logFault code index detail).fab = s.fab := by
  cases c with
  | true => exact State.logFault_fab s code index detail
  | false => rfl

theorem State.when_logFault_fgi (c : Bool) (code index detail : Nat) (f : Fld) (i : Nat)
    (hf : f.id ≠ F.DBG_FLTSTAT_CLASS.id) : (s.when c fun s => s.logFault code index detail).fgi f i = s.fgi f i := by
  cases c with
  | true => exact State.logFault_fgi s code index detail f i hf
  | false => rfl

theorem engineFails_fab : (engineFails p e cause code s).fab = s.fab := by
  rw [engineFails_eq, State.raise_fab, logFailed, State.when_logFault_fab, State.logFault_fab]
  rfl

/-- What a fault's entries and event leave of the registers. -/
theorem engineFails_fgi (f : Fld) (i : Nat) (hraise : (Extent.mk [.seqs] false raiseFlds).r f = false)
    (hlog : f.id ≠ F.DBG_FLTSTAT_CLASS.id) : (engineFails p e cause code s).fgi f i = (markFailed p cause s).fgi f i := by
  rw [engineFails_eq, State.raise_fgi _ 6 f i hraise, logFailed, State.when_logFault_fgi _ _ _ _ _ f i hlog,
    State.logFault_fgi _ code p e f i hlog]

theorem engineFails_state : (engineFails p e cause code s).engState p = 2 := by
  refine (engineFails_fgi p e cause code s _ p (by decide) (by decide)).trans ?_
  unfold markFailed State.fs
  simp (disch := decide) only [State.fgi_fsi_ne, State.fgi_fsi]
  rfl

theorem engineFails_cause : (engineFails p e cause code s).fgi F.MOR_ESTATp_CAUSE p = cause % 2 ^ 4 := by
  refine (engineFails_fgi p e cause code s _ p (by decide) (by decide)).trans ?_
  exact (State.fgi_fsi_ne _ _ _ _ _ _ (by decide)).trans (State.fgi_fsi _ _ _ _)

theorem engineFails_flagged : (engineFails p e cause code s).fg F.MOR_STAT_ENGFLT = 1 :=
  (engineFails_fgi p e cause code s _ 0 (by decide) (by decide)).trans (State.fgi_fsi _ _ _ _)

theorem engineFails_pend : (engineFails p e cause code s).pend 6 = true := State.raise_pend _ 6

theorem engineFault_of_running {s : State} (c : Nat) (h : s.engState p = 0) : engineFault p cause code c s =
    (engineFails p (s.fgi F.MOR_ESTATp_LOGICAL p) cause code s).modFab fun x => { x with stops := x.stops ++ [(p, c)] } :=
  if_pos h

end

/-! ### SUBST.GO (R150) -/

section
variable (s : State)

/-- R150: GO refused for a reason. -/
def substRefused (r : Nat) : State := (s.fs F.MOR_SUBSTAT_REFUSED 1).fs F.MOR_SUBSTAT_REASON r

theorem substRefused_shows {r : Nat} (hr : r < 16) : (substRefused s r).fg F.MOR_SUBSTAT_REFUSED = 1 ∧
    (substRefused s r).fg F.MOR_SUBSTAT_REASON = r ∧ (substRefused s r).fab = s.fab :=
  ⟨(State.fg_fs_ne _ _ (by decide)).trans (State.fg_fs _ _ _), (State.fg_fs _ _ _).trans (Nat.mod_eq_of_lt hr), rfl⟩

/-- R150: spare `p` is to serve logical engine `e`, and loads. -/
def substBegins (e p : Nat) : State :=
  ((s.fsi F.MOR_ESTATp_STATE p 3).fsi F.MOR_ESTATp_LOGICAL p e).fs F.MOR_SUBSTAT_BUSY 1

theorem substBegins_shows {e : Nat} (p : Nat) (he : e < 48) : (substBegins s e p).engState p = 3 ∧
    (substBegins s e p).fgi F.MOR_ESTATp_LOGICAL p = e ∧ (substBegins s e p).fg F.MOR_SUBSTAT_BUSY = 1 := by
  have hwidth : e % 2 ^ F.MOR_ESTATp_LOGICAL.width = e := Nat.mod_eq_of_lt (Nat.lt_of_lt_of_le he (by decide))
  refine ⟨?_, (State.fgi_fsi_ne _ _ _ _ _ _ (by decide)).trans ((State.fgi_fsi _ _ _ _).trans hwidth), State.fg_fs _ _ _⟩
  exact (State.fgi_fsi_ne _ _ _ _ _ _ (by decide)).trans
    ((State.fgi_fsi_ne _ _ _ _ _ _ (by decide)).trans (State.fgi_fsi _ _ _ _))

/-- R150: GO by its checks, in their order. -/
theorem substGo_eq : substGo s =
    if s.fab.subst.isSome = true then substRefused s 3
    else if 48 ≤ s.fg F.MOR_SUBST_LOGICAL then substRefused s 2
    else if 50 ≤ s.fg F.MOR_SUBST_PHYS ∨ s.engState (s.fg F.MOR_SUBST_PHYS) ≠ 1 then substRefused s 1
    else (substBegins s (s.fg F.MOR_SUBST_LOGICAL) (s.fg F.MOR_SUBST_PHYS)).modFab fun x =>
      { x with subst := some ⟨s.fg F.MOR_SUBST_LOGICAL, s.fg F.MOR_SUBST_PHYS,
          decide (s.engState (s.physOf (s.fg F.MOR_SUBST_LOGICAL)) = 0), s.frame⟩ } := rfl

end

/-! ### The load completes (R151) -/

section
variable (s : State)

theorem takeCoefs_subst (b : Nat) : (takeCoefs b s).fab.subst = s.fab.subst := rfl

theorem loadSlot_subst (n : Nat) : (loadSlot n s).fab.subst = s.fab.subst := rfl

/-- R151: the load of slot `n`, where one is populated. -/
def loadPopulated (n : Nat) (s : State) : State := if (s.slot n).pop then loadSlot n s else s

theorem loadPopulated_subst (n : Nat) (s : State) : (loadPopulated n s).fab.subst = s.fab.subst := by
  unfold loadPopulated
  split
  · exact loadSlot_subst s n
  · rfl

theorem State.eachSlot_subst (b : Nat) (f : Nat → State → State) (h : ∀ n s, (f n s).fab.subst = s.fab.subst) :
    (s.eachSlot b f).fab.subst = s.fab.subst :=
  foldl_keeps (fun s => s.fab.subst) (fun s _ => h _ s) (List.range 8) s

/-- R151: the loops of a bundle loaded, and its coefficients where some wait for it. -/
def loadLoops (b : Nat) : State := (if s.coefPending b then takeCoefs b s else s).eachSlot b loadPopulated

/-- R151: a loaded bundle enters PARKED, with its lane up or down. -/
def parkLoaded (b : Nat) (up : Bool) : State :=
  (s.modBun b fun x =>
    { x with
      st := .parked
      cause := if up then .subst else .lane
      clearF := if up then some s.frame else none
      e0 := 0
      e2 := 0
      e3 := 0 }).bump F.MOR_PARKCNT

theorem parkLoaded_subst (b : Nat) (up : Bool) : (parkLoaded s b up).fab.subst = s.fab.subst := rfl

theorem loadBundle_eq (b : Nat) : loadBundle b s =
    if (s.bun b).st = .hold then
      let up := (loadLoops s b).flagi F.QY_LNKSTAT_ULOCK (quayOfBundle b)
      if up then parkLoaded (loadLoops s b) b up else (parkLoaded (loadLoops s b) b up).raise 4
    else s := rfl

theorem loadLoops_subst (b : Nat) : (loadLoops s b).fab.subst = s.fab.subst := by
  unfold loadLoops
  rw [State.eachSlot_subst _ b loadPopulated loadPopulated_subst]
  split
  · exact takeCoefs_subst s b
  · rfl

theorem loadBundle_subst (b : Nat) : (loadBundle b s).fab.subst = s.fab.subst := by
  rw [loadBundle_eq]
  dsimp only
  split_ifs
  · rw [parkLoaded_subst, loadLoops_subst]
  · rw [State.raise_fab, parkLoaded_subst, loadLoops_subst]
  · rfl

/-- R151: the loop states of the bundles of a logical engine loaded. -/
def loadEngine (l : List Nat) : State := l.foldl (fun s b => loadBundle b s) s

theorem loadEngine_subst (l : List Nat) : (loadEngine s l).fab.subst = s.fab.subst :=
  foldl_keeps (fun s => s.fab.subst) (fun s b => loadBundle_subst s b) l s

/-- What the load of a bundle may change. -/
def Extent.bundleLoad : Extent := ⟨[.seqs, .fab], false, F.MOR_PARKCNT :: raiseFlds⟩

theorem loadEngine_fgi (l : List Nat) (f : Fld) (i : Nat) (hf : Extent.bundleLoad.r f = false) :
    (loadEngine s l).fgi f i = s.fgi f i :=
  State.fgi_of_seen .bundleLoad _ _ f i (foldl_seen _ _ l s fun s b => loadBundle_seen _ b s (by decide)) hf

/-- R151: the spare serves the logical engine, and the window of the one it replaces is kept. -/
def substServes (u : Subst) (old : Nat) (failed : Bool) : State :=
  (((s.fsi F.MOR_EMAPe_PHYS u.logical u.phys).fsi F.MOR_ESTATp_STATE u.phys 0).fsi F.MOR_ESTATp_LOGICAL u.phys
    u.logical).modFab fun x =>
      { x with
        subst := none
        spareWin := tdel (tset [] x.spareWin old (if failed then [] else winDump s old)) u.phys }

/-- R151: the engine replaced serves nothing; it is a spare unless it has failed. -/
def substFrees (old phys : Nat) (failed : Bool) : State :=
  if old = phys then s
  else if failed then s.fsi F.MOR_ESTATp_LOGICAL old 0x3F
  else (s.fsi F.MOR_ESTATp_STATE old 1).fsi F.MOR_ESTATp_LOGICAL old 0x3F

theorem substFrees_subst (old phys : Nat) (failed : Bool) : (substFrees s old phys failed).fab.subst = s.fab.subst := by
  unfold substFrees
  split_ifs
  · rfl
  · rfl
  · rfl

/-- What becomes of the engine replaced leaves the one that serves now. -/
theorem substFrees_fgi_phys {old phys : Nat} (failed : Bool) (f : Fld) (hold : old < 16384) (hphys : phys < 16384) :
    (substFrees s old phys failed).fgi f phys = s.fgi f phys := by
  unfold substFrees
  split_ifs with hsame
  · rfl
  all_goals
    have hkey : ∀ g : Fld, f.key phys ≠ g.key old := fun g h =>
      hsame ((Fld.key_inj g f old phys hold hphys).mp h).2.symm
  · exact State.fgi_fsi_of_key_ne _ _ _ _ _ _ (hkey _)
  · exact (State.fgi_fsi_of_key_ne _ _ _ _ _ _ (hkey _)).trans (State.fgi_fsi_of_key_ne _ _ _ _ _ _ (hkey _))

theorem substFrees_physOf (old phys : Nat) (failed : Bool) (e : Nat) :
    (substFrees s old phys failed).physOf e = s.physOf e := by
  unfold substFrees
  split_ifs
  · rfl
  · exact State.fgi_fsi_ne _ _ _ _ _ _ (by decide)
  · exact (State.fgi_fsi_ne _ _ _ _ _ _ (by decide)).trans (State.fgi_fsi_ne _ _ _ _ _ _ (by decide))

section
variable (u : Subst) (old : Nat) (failed : Bool)

theorem substServes_physOf (hphys : u.phys < 50) : (substServes s u old failed).physOf u.logical = u.phys := by
  have hwidth : u.phys % 2 ^ F.MOR_EMAPe_PHYS.width = u.phys := Nat.mod_eq_of_lt (Nat.lt_of_lt_of_le hphys (by decide))
  exact (State.fgi_fsi_ne _ _ _ _ _ _ (by decide)).trans
    ((State.fgi_fsi_ne _ _ _ _ _ _ (by decide)).trans ((State.fgi_fsi _ _ _ _).trans hwidth))

theorem substServes_state : (substServes s u old failed).engState u.phys = 0 :=
  (State.fgi_fsi_ne _ _ _ _ _ _ (by decide)).trans (State.fgi_fsi _ _ _ _)

theorem substServes_logical (hlog : u.logical < 48) :
    (substServes s u old failed).fgi F.MOR_ESTATp_LOGICAL u.phys = u.logical :=
  (State.fgi_fsi _ _ _ _).trans (Nat.mod_eq_of_lt (Nat.lt_of_lt_of_le hlog (by decide)))

end

/-- R151: the load is over, and logged. -/
def substEnds (u : Subst) : State :=
  ((s.fs F.MOR_SUBSTAT_BUSY 0).fs F.MOR_SUBSTAT_DONE 1).logFault 0x3005 u.phys u.logical

theorem substEnds_subst (u : Subst) : (substEnds s u).fab.subst = s.fab.subst :=
  congrArg Fabric.subst (State.logFault_fab _ _ _ _)

theorem substEnds_fgi (u : Subst) (f : Fld) (i : Nat) (hbusy : f.id ≠ F.MOR_SUBSTAT_BUSY.id)
    (hdone : f.id ≠ F.MOR_SUBSTAT_DONE.id) (hlog : f.id ≠ F.DBG_FLTSTAT_CLASS.id) :
    (substEnds s u).fgi f i = s.fgi f i :=
  (State.logFault_fgi _ _ _ _ f i hlog).trans
    ((State.fgi_fsi_ne _ _ _ _ _ _ hdone).trans (State.fgi_fsi_ne _ _ _ _ _ _ hbusy))

theorem substEnds_shows (u : Subst) :
    (substEnds s u).fg F.MOR_SUBSTAT_BUSY = 0 ∧ (substEnds s u).fg F.MOR_SUBSTAT_DONE = 1 :=
  ⟨(State.logFault_fgi _ _ _ _ _ _ (by decide)).trans ((State.fgi_fsi_ne _ _ _ _ _ _ (by decide)).trans
      (State.fgi_fsi _ _ _ _)),
    (State.logFault_fgi _ _ _ _ _ _ (by decide)).trans (State.fgi_fsi _ _ _ _)⟩

theorem substComplete_of_due {s : State} {u : Subst} (hu : s.fab.subst = some u) (hf : s.frame ≠ u.frame) :
    ∃ failed l, substComplete s =
      substEnds (loadEngine (substFrees (substServes s u (s.physOf u.logical) failed) (s.physOf u.logical) u.phys failed) l)
        u := by
  unfold substComplete
  rw [hu]
  dsimp only
  rw [if_neg hf]
  exact ⟨_, _, rfl⟩

/-- R151: what a completed load leaves: the spare serves the logical engine and runs. -/
theorem substComplete_shows {s : State} {u : Subst} (hu : s.fab.subst = some u) (hf : s.frame ≠ u.frame)
    (hlog : u.logical < 48) (hphys : u.phys < 50) :
    (substComplete s).fab.subst = none ∧ (substComplete s).physOf u.logical = u.phys ∧
    (substComplete s).engState u.phys = 0 ∧ (substComplete s).fgi F.MOR_ESTATp_LOGICAL u.phys = u.logical ∧
    (substComplete s).fg F.MOR_SUBSTAT_BUSY = 0 ∧ (substComplete s).fg F.MOR_SUBSTAT_DONE = 1 := by
  obtain ⟨failed, l, hdone⟩ := substComplete_of_due hu hf
  have hreplaced : s.physOf u.logical < 16384 :=
    (State.fgi_lt s F.MOR_EMAPe_PHYS u.logical).trans (by decide)
  have hp : u.phys < 16384 := hphys.trans (by decide)
  have hkept : ∀ (v : State) (f : Fld) (i : Nat), f.id ≠ F.MOR_SUBSTAT_BUSY.id → f.id ≠ F.MOR_SUBSTAT_DONE.id →
      f.id ≠ F.DBG_FLTSTAT_CLASS.id → Extent.bundleLoad.r f = false →
      (substEnds (loadEngine v l) u).fgi f i = v.fgi f i := fun v f i hbusy hdone hlog hload =>
    (substEnds_fgi _ u f i hbusy hdone hlog).trans (loadEngine_fgi v l f i hload)
  rw [hdone]
  refine ⟨?_, ?_, ?_, ?_, substEnds_shows _ u⟩
  · rw [substEnds_subst, loadEngine_subst, substFrees_subst]
    rfl
  · exact (hkept _ _ _ (by decide) (by decide) (by decide) (by decide)).trans
      ((substFrees_physOf _ _ _ _ _).trans (substServes_physOf s u _ _ hphys))
  · exact (hkept _ _ _ (by decide) (by decide) (by decide) (by decide)).trans
      ((substFrees_fgi_phys _ _ _ hreplaced hp).trans (substServes_state s u _ _))
  · exact (hkept _ _ _ (by decide) (by decide) (by decide) (by decide)).trans
      ((substFrees_fgi_phys _ _ _ hreplaced hp).trans (substServes_logical s u _ _ hlog))

end

/-! ### The family -/

/-- Settles O20: a corrected error only counts; an uncorrectable one is `engineFails`; GO is decided by its checks in their
order (`substGo_eq`); a completed load is `substComplete_shows`. -/
theorem enginesFailAndAreReplaced : Obligations.EnginesFailAndAreReplaced := by
  refine ⟨fun p cycle s => ⟨s.bump F.MOR_ECCCOR, rfl, ?corrected⟩,
    fun p cycle s hrun => ⟨engineFault p.val 2 0x3002 cycle s, rfl, ?failed⟩,
    fun s => ⟨substGo s, rfl, ?go⟩,
    fun s u hu hlog hphys hf => ⟨substComplete s, rfl, substComplete_shows hu hf hlog hphys⟩⟩
  case corrected =>
    exact ⟨State.fg_bump s F.MOR_ECCCOR, State.fgi_fsi_ne _ _ _ _ _ _ (by decide)⟩
  case failed =>
    rw [engineFault_of_running p.val 2 0x3002 cycle hrun]
    refine ⟨engineFails_state _ _ _ _ _, engineFails_cause _ _ _ _ _, engineFails_flagged _ _ _ _ _,
      engineFails_pend _ _ _ _ _, ?_⟩
    rw [State.modFab_fab, engineFails_fab]
  case go =>
    rw [substGo_eq]
    split_ifs with hbusy hlog hphys
    · exact substRefused_shows s (by decide)
    · exact substRefused_shows s (by decide)
    · exact substRefused_shows s (by decide)
    · obtain ⟨hstate, hlogical, hbusy⟩ := substBegins_shows s (s.fg F.MOR_SUBST_PHYS) (Nat.lt_of_not_le hlog)
      exact ⟨hstate, hlogical, hbusy, rfl⟩

end Sys2Proof.Machine
end

section
/-! PROOF. A word written to an engine window by a master whose bus is idle (R460 to R468): what the matrix grants and
refuses. -/
namespace Sys2Proof.Machine

/-! ### A target granted with nothing in flight (R463) -/

section
variable {s : State}

theorem State.flight_of_nil (h : s.port.flights = []) (m : Nat) : s.flight m = none := by
  unfold State.flight
  rw [h]
  rfl

theorem serveAhead_of_nil (h : s.port.flights = []) (n t m cycle waited : Nat) : serveAhead n t m cycle waited s = s := by
  cases n with
  | zero => rfl
  | succ n =>
    unfold serveAhead
    split
    · rw [State.flight_of_nil h]
    · rfl

/-- R463: a target has granted a master that has not waited: its pointer moves past that master. -/
def grantedAt (t m : Nat) (s : State) : State := s.modPort fun p => { p with rr := tset 0 p.rr t ((m + 1) % 11) }

theorem grantAt_zero (t m : Nat) (s : State) : grantAt t m 0 s = grantedAt t m s := by
  have hmark : s.mark F.MTX_WAITHWMm_CYCLES m (Nat.min 0xFFFF 0) = s := if_neg (Nat.not_lt_zero _)
  unfold grantAt
  rw [hmark]
  rfl

theorem busTake_of_nil (h : s.port.flights = []) (hdev : s.dev ≠ .off) {a t : Nat} (ht : targetNo a = some t)
    (m cycle : Nat) : busTake m a cycle s = grantedAt t m s := by
  unfold busTake
  rw [settleResets_of_nil h, flightFinish_of_none 9 cycle (State.flight_of_nil h m), ht]
  dsimp only
  rw [serveAhead_of_nil h, if_neg hdev, Nat.sub_self, grantAt_zero]

theorem busWrite_of_nil (h : s.port.flights = []) (hdev : s.dev ≠ .off) {a t : Nat} (ht : targetNo a = some t)
    (m cycle : Nat) (bytes : List Byte) :
    (busWrite m a cycle bytes s).2 = settleResets (accWrite m a cycle bytes (grantedAt t m s)).2 := by
  unfold busWrite
  rw [busTake_of_nil h hdev ht]
  exact congrArg Prod.snd (if_neg hdev)

theorem drainMaster_of_nil {m : Nat} (h : m < 4 → (s.sq m).posted = []) (cycle : Nat) : drainMaster m cycle s = s := by
  unfold drainMaster
  split
  · rename_i hm
    exact drainAll_of_nil cycle (h hm)
  · rfl

theorem wordWrite_of_nil {m : Nat} (hdev : s.dev ≠ .off) (h : s.port.flights = [])
    (hposted : m < 4 → (s.sq m).posted = []) {a t : Nat} (halign : a % 4 = 0) (ht : targetNo a = some t) (cycle v : Nat) :
    wordWrite m a cycle v s = settleResets (accWrite m a cycle (leBytes 4 v) (grantedAt t m s)).2 := by
  unfold wordWrite
  rw [if_neg hdev, drainMaster_of_nil hposted]
  dsimp only
  rw [if_neg hdev, if_neg (not_not.mpr halign)]
  exact busWrite_of_nil h hdev ht m cycle _

end

/-! ### Addresses of a window (R470) -/

/-- R470: the address of byte `o` of the window of physical engine `p`. -/
def winAddr (p o : Nat) : Nat := 0x10000000 + 0x10000 * p + o

section
variable {p o : Nat} (hp : p < 50) (ho : o < 0x10000)
include hp ho

theorem target_winAddr : target (winAddr p o) = .win p o := by
  have hnotTable : ¬ winAddr p o < 0x1000000 := by unfold winAddr; omega
  have hwindow : 0x10000000 ≤ winAddr p o ∧ winAddr p o < 0x10320000 := by unfold winAddr; omega
  have hengine : (winAddr p o - 0x10000000) / 0x10000 = p := by unfold winAddr; omega
  have hoffset : winAddr p o % 0x10000 = o := by unfold winAddr; omega
  unfold target
  rw [if_neg hnotTable, if_pos hwindow, hengine, hoffset]

theorem targetNo_winAddr : targetNo (winAddr p o) = some 8 := by
  unfold targetNo
  rw [target_winAddr hp ho]

theorem accCause_winAddr (m : Nat) (write : Bool) (s : State) : accCause m (winAddr p o) write s =
    if s.dev = .safe then 1 else if s.engState p = 2 then 4 else 0 := by
  unfold accCause
  rw [target_winAddr hp ho]

/-- R468: a window has no ECC of its own, so its protection alone decides. -/
theorem accErr_winAddr (m : Nat) (write part : Bool) (s : State) :
    accErr m (winAddr p o) write part s = accCause m (winAddr p o) write s := by
  have hnotTable : ¬ winAddr p o < 0x1000000 := by unfold winAddr; omega
  have hgood : s.beatBad (winAddr p o) = false := by
    unfold State.beatBad inBeat
    rw [if_neg hnotTable]
    rfl
  unfold accErr
  rw [hgood, Bool.and_false]
  cases accCause m (winAddr p o) write s with
  | zero => rfl
  | succ e => rfl

theorem noteStall_winAddr (cycle : Nat) (s : State) : noteStall (winAddr p o) cycle s = stallAt p cycle 1 s := by
  unfold noteStall
  rw [target_winAddr hp ho]

theorem accPut_winAddr (m : Nat) (bytes : List Byte) (s : State) : accPut m (winAddr p o) bytes s = winPut p o bytes s := by
  unfold accPut memPutAt
  rw [target_winAddr hp ho]

end

/-! ### The bytes of a word -/

theorem leNat_leBytes (n v : Nat) : leNat (leBytes n v) = v % 256 ^ n := by
  induction n generalizing v with
  | zero => exact (Nat.mod_one v).symm
  | succ n ih =>
    have hbyte : (BitVec.ofNat 8 v).toNat = v % 256 := BitVec.toNat_ofNat v 8
    unfold leBytes leNat
    rw [ih, hbyte, Nat.pow_succ', Nat.mod_mul]

/-- A word written whole takes nothing from the word that it replaces. -/
theorem winPut_word (p v : Nat) {o : Nat} (halign : o % 4 = 0) (hv : v < 2 ^ 32) (s : State) :
    winPut p o (leBytes 4 v) s = winWrite p o v s := by
  have hone : (o + (leBytes 4 v).length + 3) / 4 - o / 4 = 1 := by
    rw [show (leBytes 4 v).length = 4 from rfl]
    omega
  have hstart : o / 4 * 4 + 4 * 0 = o := by omega
  have hbytes : ((List.range 4).map fun j =>
      if o ≤ o + j ∧ o + j < o + (leBytes 4 v).length then (leBytes 4 v).getD (o + j - o) 0 else winByte s p (o + j)) =
        leBytes 4 v := by
    simp [List.range_succ, leBytes]
  have hword : leNat (leBytes 4 v) = v := (leNat_leBytes 4 v).trans (Nat.mod_eq_of_lt hv)
  unfold winPut
  rw [hone]
  simp only [List.range_one, List.foldl_cons, List.foldl_nil, hstart, hbytes, hword]

/-! ### What a window write finds and leaves at the matrix (R468) -/

/-- The state that a write of a window finds at its target: the window has granted master `m`, and its engine stalls. -/
def winServed (m p cycle : Nat) (s : State) : State := stallAt p cycle 1 (grantedAt 8 m s)

section
variable (m p cycle : Nat) (s : State)

theorem winServed_engState (q : Nat) : (winServed m p cycle s).engState q = s.engState q := rfl

theorem winServed_winLogical (q : Nat) : (winServed m p cycle s).winLogical q = s.winLogical q := rfl

theorem winServed_bun (b : Nat) : (winServed m p cycle s).bun b = s.bun b := rfl

theorem winServed_slot (n : Nat) : (winServed m p cycle s).slot n = s.slot n := rfl

theorem winServed_coef (b : Nat) : (winServed m p cycle s).coef b = s.coef b := rfl

theorem winServed_slotCoef (n : Nat) : (winServed m p cycle s).slotCoef n = s.slotCoef n := rfl

end

theorem winWrite_port (p off w : Nat) (s : State) : (winWrite p off w s).port = s.port :=
  port_of_seen ⟨[.fab], true, []⟩ _ _ (winWrite_seen _ p off w s (by decide)) (by decide)

theorem matrixError_fab (m e : Nat) (write : Bool) (a : Nat) (s : State) : (matrixError m e write a s).fab = s.fab :=
  fab_kept (matrixError_seen _ m e write a s (by decide))

theorem matrixError_port (m e : Nat) (write : Bool) (a : Nat) (s : State) : (matrixError m e write a s).port = s.port :=
  port_of_seen ⟨[.seqs], true, []⟩ _ _ (matrixError_seen _ m e write a s (by decide)) (by decide)

/-- R468: what an error response records. An earlier one only sets OVR. -/
theorem matrixError_shows {m e : Nat} (hm : m < 16) (he : e < 8) (write : Bool) (a : Nat) (s : State) :
    (matrixError m e write a s).fg F.MTX_ERRSTAT_VALID = 1 ∧ (matrixError m e write a s).fg F.MTX_ERRSTAT_MASTER = m ∧
    (matrixError m e write a s).fg F.MTX_ERRSTAT_CAUSE = e ∧ (matrixError m e write a s).pend 132 = true := by
  unfold matrixError
  extract_lets s1 s2
  have hone : 1 % 2 ^ F.MTX_ERRSTAT_VALID.width = 1 := rfl
  have hm' : m % 2 ^ F.MTX_ERRSTAT_MASTER.width = m := Nat.mod_eq_of_lt hm
  have he' : e % 2 ^ F.MTX_ERRSTAT_CAUSE.width = e := Nat.mod_eq_of_lt he
  refine ⟨?_, ?_, ?_, State.raise_pend _ 132⟩
  all_goals
    refine (State.raise_fgi _ 132 _ 0 (by decide)).trans ?_
    unfold State.fb State.fs
    simp (disch := decide) only [State.fgi_fsi_ne, State.fgi_fsi, hone, hm', he']

section
variable {p o : Nat} (hp : p < 50) (ho : o < 0x10000)
include hp ho

theorem accCause_winAddr_grantedAt (t m : Nat) (write : Bool) (s : State) :
    accCause m (winAddr p o) write (grantedAt t m s) = accCause m (winAddr p o) write s := by
  rw [accCause_winAddr hp ho, accCause_winAddr hp ho]
  rfl

/-- R468: a write of a window that its protection refuses is an error response and nothing else. -/
theorem wordWrite_winAddr_refused {m : Nat} {s : State} (hdev : s.dev ≠ .off) (h : s.port.flights = [])
    (hposted : m < 4 → (s.sq m).posted = []) (halign : o % 4 = 0) (cycle v : Nat)
    (hcause : accCause m (winAddr p o) true s ≠ 0) :
    wordWrite m (winAddr p o) cycle v s =
      matrixError m (accCause m (winAddr p o) true s) true (winAddr p o) (grantedAt 8 m s) := by
  have hword : winAddr p o % 4 = 0 := by unfold winAddr; omega
  have hnotEcc : accCause m (winAddr p o) true s ≠ 3 := by
    rw [accCause_winAddr hp ho]
    split_ifs <;> decide
  have hfail : (accWrite m (winAddr p o) cycle (leBytes 4 v) (grantedAt 8 m s)).2 =
      matrixError m (accCause m (winAddr p o) true s) true (winAddr p o) (grantedAt 8 m s) := by
    unfold accWrite
    rw [accErr_winAddr hp ho, accCause_winAddr_grantedAt hp ho]
    split
    · exact absurd ‹_› hcause
    · exact if_neg hnotEcc
  rw [wordWrite_of_nil hdev h hposted hword (targetNo_winAddr hp ho), hfail]
  exact settleResets_of_nil ((congrArg PortSt.flights (matrixError_port _ _ _ _ _)).trans h)

theorem wordWrite_winAddr {m : Nat} {s : State} (hdev : s.dev ≠ .off) (h : s.port.flights = [])
    (hposted : m < 4 → (s.sq m).posted = []) (halign : o % 4 = 0) (cycle : Nat) {v : Nat} (hv : v < 2 ^ 32)
    (hcause : accCause m (winAddr p o) true s = 0) :
    wordWrite m (winAddr p o) cycle v s = winWrite p o v (winServed m p cycle s) := by
  have hword : winAddr p o % 4 = 0 := by unfold winAddr; omega
  have hput : (accWrite m (winAddr p o) cycle (leBytes 4 v) (grantedAt 8 m s)).2 =
      winWrite p o v (winServed m p cycle s) := by
    unfold accWrite
    rw [accErr_winAddr hp ho, accCause_winAddr_grantedAt hp ho, hcause, noteStall_winAddr hp ho,
      accPut_winAddr hp ho, winPut_word p v halign hv]
    rfl
  rw [wordWrite_of_nil hdev h hposted hword (targetNo_winAddr hp ho), hput]
  exact settleResets_of_nil ((congrArg PortSt.flights (winWrite_port _ _ _ _)).trans h)

end

end Sys2Proof.Machine
end

section
/-! PROOF. What a word written to an engine window changes (R142, R152): H of a slot, coefficients, or nothing. -/
namespace Sys2Proof.Machine

/-- R142: what a write refused shows. -/
theorem winRefuse_shows {p off : Nat} (hp : p < 50) (hoff : off < 0x10000) (s : State) :
    (winRefuse p off s).fg F.MOR_STAT_CWERR = 1 ∧ (winRefuse p off s).fg F.MOR_CWLAST_ENGINE = p ∧
    (winRefuse p off s).fg F.MOR_CWLAST_OFFSET = off := by
  have hpw : p % 2 ^ F.MOR_CWLAST_ENGINE.width = p := Nat.mod_eq_of_lt (hp.trans (by decide))
  have hoffw : off % 2 ^ F.MOR_CWLAST_OFFSET.width = off := Nat.mod_eq_of_lt hoff
  refine ⟨?_, (State.fgi_fsi _ _ _ _).trans hpw,
    (State.fgi_fsi_ne _ _ _ _ _ _ (by decide)).trans ((State.fgi_fsi _ _ _ _).trans hoffw)⟩
  exact (State.fgi_fsi_ne _ _ _ _ _ _ (by decide)).trans
    ((State.fgi_fsi_ne _ _ _ _ _ _ (by decide)).trans (State.fgi_fsi _ _ _ _))

theorem winRefuse_slot (p off n : Nat) (s : State) : (winRefuse p off s).slot n = s.slot n := rfl

theorem winRefuse_coef (p off b : Nat) (s : State) : (winRefuse p off s).coef b = s.coef b := rfl

theorem State.inSnap_regs (s : State) (g : State → State) : (s.inSnap g).regs = s.regs := by
  unfold State.inSnap
  split
  · rfl
  · rfl

theorem holdWrite_h (n : Nat) (h : Int) (s : State) : ((holdWrite n h s).slot n).lp.h = h :=
  congrArg (fun x : Slot => x.lp.h) (State.slot_modLoop_same n (fun l => { l with h := h }) s)

theorem State.coef_modCoef_same (s : State) (b : Nat) (g : BunCoef → BunCoef) : (s.modCoef b g).coef b = g (s.coef b) :=
  tget_tmod BunCoef.init s.fab.coefs b g

section
variable {p off e : Nat} {s : State} (hrun : s.engState p ≠ 2) (hwin : s.winLogical p = some e)
include hrun hwin

/-- R142: a write of H, by the state of the bundle. -/
theorem winWrite_hold (w : Nat) {n : Nat} (hslot : off < 0xE000) (hoff : off % 0xE0 = 0xB0) (hn : n = 256 * e + off / 0xE0) :
    winWrite p off w s =
      if (s.bun (bundleOf n)).st = .opened ∨ (s.bun (bundleOf n)).st = .parked then
        holdWrite n (sgn 32 w) (s.inSnap (holdWrite n (sgn 32 w)))
      else winRefuse p off s := by
  have hwindow : ¬ (0xE800 ≤ off ∨ s.engState p = 2) := not_or.mpr ⟨by omega, hrun⟩
  subst hn
  unfold winWrite
  rw [if_neg hwindow, hwin]
  simp [hslot, hoff]

/-- R142: a write of a coefficient of a slot, by the state of the bundle. -/
theorem winWrite_slotCoef (w : Nat) {n : Nat} {x : SlotCoef} (hslot : off < 0xE000) (hoff : off % 0xE0 ≠ 0xB0)
    (hn : n = 256 * e + off / 0xE0) (hx : slotCoefWrite (s.slotCoef n) (off % 0xE0) w = some x) :
    winWrite p off w s =
      if (s.bun (bundleOf n)).st = .closed ∨ (s.bun (bundleOf n)).st = .hold then winRefuse p off s
      else s.modCoef (bundleOf n) fun c => { c with slots := setAt c.slots (n % 8) x } := by
  have hwindow : ¬ (0xE800 ≤ off ∨ s.engState p = 2) := not_or.mpr ⟨by omega, hrun⟩
  subst hn
  unfold winWrite
  rw [if_neg hwindow, hwin]
  simp [hslot, hoff, hx]
  rfl

/-- R142: a write of a coefficient of a bundle, by its state. -/
theorem winWrite_bunCoef (w : Nat) {b : Nat} {x : BunCoef} (hlow : 0xE000 ≤ off) (hhigh : off < 0xE800)
    (hb : b = 32 * e + (off - 0xE000) / 0x40) (hx : bunCoefWrite (s.coef b) ((off - 0xE000) % 0x40) w = some x) :
    winWrite p off w s =
      if (s.bun b).st = .closed ∨ (s.bun b).st = .hold then winRefuse p off s else s.modCoef b fun _ => x := by
  have hwindow : ¬ (0xE800 ≤ off ∨ s.engState p = 2) := not_or.mpr ⟨by omega, hrun⟩
  have hnotSlot : ¬ off < 0xE000 := by omega
  subst hb
  unfold winWrite
  rw [if_neg hwindow, hwin]
  simp [hnotSlot, hx]

end

/-! ### The family -/

section
variable (m : Fin 11) (phys : Fin 50) (off : Fin 16384) (c : Nat) (v : Word) {s : State} (hdev : s.dev ≠ .off)
  (hidle : s.port.flights = []) (hposted : m.val < 4 → (s.sq m.val).posted = [])
include hdev hidle hposted

theorem execEngineWindowWrite_refused (hcause : accCause m.val (winAddr phys.val (4 * off.val)) true s ≠ 0) :
    exec (.engineWindowWrite ⟨m, phys, c⟩ off v) s =
      .next (matrixError m.val (accCause m.val (winAddr phys.val (4 * off.val)) true s) true
        (winAddr phys.val (4 * off.val)) (grantedAt 8 m.val s)) :=
  congrArg Host.Outcome.next
    (wordWrite_winAddr_refused phys.isLt (by omega) hdev hidle hposted (Nat.mul_mod_right 4 _) c v.toNat hcause)

theorem execEngineWindowWrite_taken (hcause : accCause m.val (winAddr phys.val (4 * off.val)) true s = 0) :
    exec (.engineWindowWrite ⟨m, phys, c⟩ off v) s =
      .next (winWrite phys.val (4 * off.val) v.toNat (winServed m.val phys.val c s)) :=
  congrArg Host.Outcome.next
    (wordWrite_winAddr phys.isLt (by omega) hdev hidle hposted (Nat.mul_mod_right 4 _) c v.isLt hcause)

end

/-- Settles O21: on an idle bus a window write is an error response alone (`execEngineWindowWrite_refused`) or reaches the
window (`execEngineWindowWrite_taken`), where the offset and the state of the bundle decide (`winWrite_hold`,
`winWrite_slotCoef`, `winWrite_bunCoef`). -/
theorem engineWindowWrites : Obligations.EngineWindowWrites := by
  refine ⟨fun m phys off c v s hdev hidle hposted hcause =>
      ⟨_, execEngineWindowWrite_refused m phys off c v hdev hidle hposted hcause, ?refused⟩,
    fun m phys off c v s e n hdev hidle hposted hcause hrun hwin hslot hoff hn =>
      ⟨_, execEngineWindowWrite_taken m phys off c v hdev hidle hposted hcause, ?hold⟩,
    fun m phys off c v s e n x hdev hidle hposted hcause hrun hwin hslot hoff hn hx =>
      ⟨_, execEngineWindowWrite_taken m phys off c v hdev hidle hposted hcause, ?slotCoef⟩,
    fun m phys off c v s e b x hdev hidle hposted hcause hrun hwin hlow hhigh hb hx =>
      ⟨_, execEngineWindowWrite_taken m phys off c v hdev hidle hposted hcause, ?bunCoef⟩⟩
  all_goals have hoff16 : 4 * off.val < 0x10000 := by omega
  case refused =>
    have hsmall : accCause m.val (winAddr phys.val (4 * off.val)) true s < 8 := by
      rw [accCause_winAddr phys.isLt hoff16]
      split_ifs <;> decide
    have hfab := matrixError_fab m.val (accCause m.val (winAddr phys.val (4 * off.val)) true s) true
      (winAddr phys.val (4 * off.val)) (grantedAt 8 m.val s)
    exact ⟨congrArg Fabric.slots hfab, congrArg Fabric.coefs hfab,
      matrixError_shows (m.isLt.trans (by decide)) hsmall true _ _⟩
  case hold =>
    rw [← winServed_engState m.val phys.val c] at hrun
    rw [← winServed_winLogical m.val phys.val c] at hwin
    rw [winWrite_hold hrun hwin v.toNat hslot hoff hn, winServed_bun]
    split_ifs
    · exact ⟨holdWrite_h _ _ _, State.inSnap_regs _ _⟩
    · obtain ⟨hcwerr, hengine, hoffset⟩ := winRefuse_shows phys.isLt hoff16 (winServed m.val phys.val c s)
      exact ⟨hcwerr, hengine, hoffset, (winRefuse_slot _ _ _ _).trans (winServed_slot _ _ _ _ _)⟩
  case slotCoef =>
    rw [← winServed_engState m.val phys.val c] at hrun
    rw [← winServed_winLogical m.val phys.val c] at hwin
    rw [← winServed_slotCoef m.val phys.val c] at hx
    rw [winWrite_slotCoef hrun hwin v.toNat hslot hoff hn hx, winServed_bun]
    split_ifs
    · obtain ⟨hcwerr, hengine, hoffset⟩ := winRefuse_shows phys.isLt hoff16 (winServed m.val phys.val c s)
      exact ⟨hcwerr, hengine, hoffset, (winRefuse_coef _ _ _ _).trans (winServed_coef _ _ _ _ _)⟩
    · rw [State.coef_modCoef_same, winServed_coef]
  case bunCoef =>
    rw [← winServed_engState m.val phys.val c] at hrun
    rw [← winServed_winLogical m.val phys.val c] at hwin
    rw [← winServed_coef m.val phys.val c] at hx
    rw [winWrite_bunCoef hrun hwin v.toNat hlow hhigh hb hx, winServed_bun]
    split_ifs
    · obtain ⟨hcwerr, hengine, hoffset⟩ := winRefuse_shows phys.isLt hoff16 (winServed m.val phys.val c s)
      exact ⟨hcwerr, hengine, hoffset, (winRefuse_coef _ _ _ _).trans (winServed_coef _ _ _ _ _)⟩
    · exact ⟨State.coef_modCoef_same _ _ _, rfl⟩

end Sys2Proof.Machine
end

section
/-! PROOF. Firmware's control of slots (R160, R161, R166), circuits (R170) and queues (R183, R187, R198): what each command
writes, and what a read of the lower half of a value latches for its partner. -/
namespace Sys2Proof.Machine

/-! ### Owners -/

/-- R160: the owners that are not reserved. -/
theorem ownerLegal_iff (o : Nat) : ownerLegal o = true ↔ o ≤ 64 ∨ o = 255 := by
  simp [ownerLegal]

section
variable {o : Nat} (n : Nat) (s : State)

theorem setOwner_of_legal (ho : o ≤ 64 ∨ o = 255) :
    setOwner n o s = s.modSlot n fun x => { x with ownerNext := some o } :=
  if_pos ((ownerLegal_iff o).mpr ho)

theorem setOwner_of_reserved (ho : ¬ (o ≤ 64 ∨ o = 255)) : setOwner n o s = s.rsvdEnc :=
  if_neg (mt (ownerLegal_iff o).mp ho)

end

/-- R10: a reserved encoding leaves the fabric alone. -/
theorem State.rsvdEnc_fab (s : State) : s.rsvdEnc.fab = s.fab :=
  fab_kept (State.rsvdEnc_seen _ s (by decide))

/-- R10: a reserved encoding shows in RSVDENC, whether or not the bit was set before. -/
theorem State.rsvdEnc_shows (s : State) : s.rsvdEnc.fg F.SYS_ERRSTAT_RSVDENC = 1 := by
  have hset : s.rsvdEnc.fg F.SYS_ERRSTAT_RSVDENC ≠ 0 :=
    of_decide_eq_true (State.sticky_flagi s F.SYS_ERRSTAT_RSVDENC 0 139 (by decide) (by decide))
  have hbit : s.rsvdEnc.fg F.SYS_ERRSTAT_RSVDENC < 2 ^ 1 := State.fgi_lt _ _ _
  omega

/-! ### Circuits and queues -/

theorem State.circuit_setCircuit_same (s : State) (c st man : Nat) : (s.setCircuit c st man).circuit c = ⟨st, man⟩ :=
  tget_tset _ _ _ _

/-- R170: of the states of a circuit CLRDOWN ends DOWN alone. -/
theorem clrDown_circuit (c : Nat) (s : State) :
    (clrDown c s).circuit c = if (s.circuit c).st = 2 then ⟨0, 0⟩ else s.circuit c := by
  unfold clrDown
  split_ifs
  · exact State.circuit_setCircuit_same s c 0 0
  · rfl

theorem State.que_modQue_same (s : State) (q : Nat) (g : ReqQueue → ReqQueue) : (s.modQue q g).que q = g (s.que q) :=
  tget_tmod _ _ _ _

/-- R198: a FLUSH is noted for the tick and removes nothing yet. -/
theorem queueFlush_que (q : Nat) (s : State) : (queueFlush q s).que q = { s.que q with flush := true } :=
  State.que_modQue_same s q _

/-! ### Halves of a value that a read latches -/

/-- R187: VTHI shows the upper half of the virtual time that a read of VTLO found. -/
theorem vtRead_latched (s : State) : (vtRead s).fg F.SCH_VTHI_VT = s.sched.vt / 2 ^ 32 % 2 ^ 16 :=
  State.fg_fs s F.SCH_VTHI_VT _

/-- What a `w`-bit two's complement field holds fits it. -/
theorem unsgn_lt (w : Nat) (i : Int) : unsgn w i < 2 ^ w := by
  have hpos : (0 : Int) < 2 ^ w := by positivity
  have hlt : i % (2 ^ w : Int) < 2 ^ w := Int.emod_lt_of_pos i hpos
  unfold unsgn
  rw [Int.toNat_lt (Int.emod_nonneg i hpos.ne')]
  exact_mod_cast hlt

/-- The upper bits of a 48-bit value fit the 16 bits of a latch. -/
theorem unsgn_high_lt (i : Int) : unsgn 48 i / 2 ^ 32 < 2 ^ 16 :=
  Nat.div_lt_of_lt_mul (unsgn_lt 48 i)

section
variable (s : State)

/-- R183: QBALHI shows the upper half of the balance that a read of QBALLO found, whole: the balance has 48 bits. -/
theorem qbalRead_balance : (qbalRead s).fgi F.SCH_QBALHI_BAL (s.fg F.SCH_QSEL_QUEUE) =
    unsgn 48 (s.que (s.fg F.SCH_QSEL_QUEUE)).bal / 2 ^ 32 :=
  ((State.fgi_fsi_ne _ _ _ _ _ _ (by decide)).trans (State.fgi_fsi s F.SCH_QBALHI_BAL _ _)).trans
    (Nat.mod_eq_of_lt (unsgn_high_lt _))

/-- A read of QBALLO latches the upper half of the finish tag as well (log 41). -/
theorem qbalRead_finishTag : (qbalRead s).fgi F.SCH_QFTHI_FT (s.fg F.SCH_QSEL_QUEUE) =
    (s.que (s.fg F.SCH_QSEL_QUEUE)).ft / 2 ^ 32 % 2 ^ 16 :=
  State.fgi_fsi _ F.SCH_QFTHI_FT _ _

end

/-! ### The family -/

/-- Settles O23: each command is one write, said once above; the owner written decides between the slot (`setOwner_of_legal`)
and RSVDENC (`setOwner_of_reserved`), and a read of a lower half answers it and writes the latches. -/
theorem slotsCircuitsAndQueues : Obligations.SlotsCircuitsAndQueues := by
  refine ⟨fun s => ⟨setFailed s.manSel true s, rfl, rfl⟩,
    fun s => ⟨setFailed s.manSel false s, rfl, rfl⟩,
    fun v s => ⟨setOwner s.manSel (v.toNat % 256) s, rfl, ?owner⟩,
    fun s => ⟨clrDown (s.fg F.MAN_CSEL_CIRCUIT) s, rfl, clrDown_circuit _ s⟩,
    fun s => ⟨queueFlush (s.fg F.SCH_QSEL_QUEUE) s, rfl, ?flush⟩,
    fun s => ⟨vtRead s, rfl, rfl, vtRead_latched s⟩,
    fun s => ⟨qbalRead s, rfl, rfl, qbalRead_balance s, qbalRead_finishTag s⟩⟩
  case owner =>
    split_ifs with howner
    · rw [setOwner_of_legal _ _ howner, State.slot_modSlot_same]
      exact ⟨rfl, rfl⟩
    · rw [setOwner_of_reserved _ _ howner]
      exact ⟨State.rsvdEnc_shows s, State.rsvdEnc_fab s⟩
  case flush =>
    rw [queueFlush_que]
    exact ⟨rfl, rfl⟩

end Sys2Proof.Machine
end

section
/-! PROOF. What is late (R52, R105, R198): heads of a queue flushed, transitions ended past their plan, engines failed for a
bundle's run of late frames. -/
namespace Sys2Proof.Machine

/-! ### A record that becomes VOID (R172) -/

section
variable (s : State)

theorem State.xrec_modRec_same (r : Nat) (g : ExecRec → ExecRec) : (s.modRec r g).xrec r = g (s.xrec r) :=
  tget_tmod _ _ _ _

theorem State.xrec_modRec_ne {r k : Nat} (h : k ≠ r) (g : ExecRec → ExecRec) : (s.modRec r g).xrec k = s.xrec k :=
  tget_tmod_ne _ _ _ _ _ h

/-- R177: the event of a final record leaves the records. -/
theorem raiseFinal_xrec (k : Nat) : (raiseFinal s).xrec k = s.xrec k := by
  have hraise : (s.raise 9).exec = s.exec :=
    exec_of_seen ⟨[.seqs], false, raiseFlds⟩ _ _ (State.raise_seen _ s 9 (by decide)) (by decide)
  unfold raiseFinal
  split_ifs
  · rfl
  · change tget ExecRec.init (s.raise 9).exec.recs k = s.xrec k
    rw [hraise]
    rfl

theorem finalRec_void_eq (r cause fin : Nat) : finalRec r .void cause fin s =
    raiseFinal ((s.modRec r fun x => { x with st := .void, cause := cause, fin := fin }).bump F.MAN_VOIDCNT) := rfl

theorem finalRec_void_xrec_same (r cause fin : Nat) :
    (finalRec r .void cause fin s).xrec r = { s.xrec r with st := .void, cause := cause, fin := fin } := by
  rw [finalRec_void_eq, raiseFinal_xrec]
  exact State.xrec_modRec_same s r _

theorem finalRec_void_xrec_ne {r k : Nat} (cause fin : Nat) (h : k ≠ r) :
    (finalRec r .void cause fin s).xrec k = s.xrec k := by
  rw [finalRec_void_eq, raiseFinal_xrec]
  exact State.xrec_modRec_ne s h _

/-- What a record that becomes final may change. -/
def Extent.finalRecord : Extent :=
  ⟨[.seqs, .fab, .exec], false, [F.MAN_DONECNT, F.MAN_PARTCNT, F.MAN_VOIDCNT] ++ raiseFlds⟩

theorem finalRec_void_sched (r cause fin : Nat) : (finalRec r .void cause fin s).sched = s.sched :=
  sched_of_seen .finalRecord _ _ (finalRec_seen _ r .void cause fin s (by decide)) (by decide)

theorem finalRec_void_fgi (r cause fin : Nat) (g : Fld) (i : Nat) (hg : Extent.finalRecord.r g = false) :
    (finalRec r .void cause fin s).fgi g i = s.fgi g i :=
  State.fgi_of_seen .finalRecord _ _ g i (finalRec_seen _ r .void cause fin s (by decide)) hg

end

/-! ### One late head (R198) -/

/-- R198: in frame `f`, record `r` has waited in queue `q` beyond LATEMAX; a LATEMAX of 0 sets no limit. -/
def State.overLateMax (s : State) (q f r : Nat) : Prop :=
  s.fgi F.SCH_QLATE_LATEMAX q ≠ 0 ∧ s.fgi F.SCH_QLATE_LATEMAX q < (s.xrec r).lateness (add32 f 3)

/-- R198: record `r`, at the head of queue `q`, is flushed in frame `f`. -/
def flushHead (q f r : Nat) (s : State) : State := (popQueue q (finalRec r .void 6 f s)).bump F.SCH_LATEFLUSH

section
variable {q f : Nat} {s : State}

theorem flushHead_que (q f r : Nat) (s : State) :
    (flushHead q f r s).que q = { s.que q with recs := (s.que q).recs.tail } := by
  refine (State.que_modQue_same (finalRec r .void 6 f s) q _).trans ?_
  unfold State.que
  rw [finalRec_void_sched]

theorem flushHead_xrec_same (q f r : Nat) (s : State) :
    (flushHead q f r s).xrec r = { s.xrec r with st := .void, cause := 6, fin := f } :=
  finalRec_void_xrec_same s r 6 f

theorem flushHead_xrec_ne (q f : Nat) {r k : Nat} (s : State) (h : k ≠ r) : (flushHead q f r s).xrec k = s.xrec k :=
  finalRec_void_xrec_ne s 6 f h

theorem flushHead_lateMax (q f r : Nat) (s : State) (i : Nat) :
    (flushHead q f r s).fgi F.SCH_QLATE_LATEMAX i = s.fgi F.SCH_QLATE_LATEMAX i :=
  (State.fgi_fsi_ne _ _ _ _ _ _ (by decide)).trans (finalRec_void_fgi s r 6 f _ i (by decide))

theorem flushHead_count (q f r : Nat) (s : State) :
    (flushHead q f r s).fg F.SCH_LATEFLUSH = min (s.fg F.SCH_LATEFLUSH + 1) (2 ^ 32 - 1) := by
  refine (State.fgi_addi (popQueue q (finalRec r .void 6 f s)) F.SCH_LATEFLUSH 0 1).trans ?_
  exact congrArg (fun n => min (n + 1) (2 ^ 32 - 1)) (finalRec_void_fgi s r 6 f F.SCH_LATEFLUSH 0 (by decide))

/-- A flush changes the lateness of no other record. -/
theorem flushHead_overLateMax_iff {r k : Nat} (h : k ≠ r) :
    (flushHead q f r s).overLateMax q f k ↔ s.overLateMax q f k := by
  unfold State.overLateMax
  rw [flushHead_lateMax, flushHead_xrec_ne q f s h]

/-! ### The late heads of a queue (R198) -/

theorem lateFlush_of_late {r : Nat} {l : List Nat} (n : Nat) (hq : (s.que q).recs = r :: l) (h : s.overLateMax q f r) :
    lateFlush q f (n + 1) s = lateFlush q f n (flushHead q f r s) := by
  have hhead : (s.que q).recs.head? = some r := congrArg List.head? hq
  rw [lateFlush, hhead]
  exact if_pos h

theorem lateFlush_of_onTime (n : Nat) (h : ∀ k ∈ (s.que q).recs.head?, ¬ s.overLateMax q f k) :
    lateFlush q f n s = s := by
  cases n with
  | zero => rfl
  | succ n =>
    rw [lateFlush]
    cases hhead : (s.que q).recs.head? with
    | none => rfl
    | some k => exact if_neg (h k hhead)

/-- R198: the late records `late` at the front of queue `q` are flushed, and what follows a head that is not late stays. -/
structure Flushed (q f : Nat) (late rest : List Nat) (s t : State) : Prop where
  left : (t.que q).recs = rest
  void : ∀ r ∈ late, (t.xrec r).st = .void ∧ (t.xrec r).cause = 6 ∧ (t.xrec r).fin = f
  kept : ∀ k, k ∉ late → t.xrec k = s.xrec k
  count : t.fg F.SCH_LATEFLUSH = min (s.fg F.SCH_LATEFLUSH + late.length) (2 ^ 32 - 1)

theorem flushed_nil {rest : List Nat} (hq : (s.que q).recs = rest) : Flushed q f [] rest s s where
  left := hq
  void := by simp
  kept _ _ := rfl
  count := (Nat.min_eq_left (Nat.le_sub_one_of_lt (State.fgi_lt s F.SCH_LATEFLUSH 0))).symm

/-- A head flushed before the other late records; it does not stand among them again. -/
theorem Flushed.cons {r : Nat} {late rest : List Nat} {t : State} (h : Flushed q f late rest (flushHead q f r s) t)
    (hr : r ∉ late) : Flushed q f (r :: late) rest s t where
  left := h.left
  void := by
    refine List.forall_mem_cons.mpr ⟨?_, h.void⟩
    rw [h.kept r hr, flushHead_xrec_same]
    exact ⟨rfl, rfl, rfl⟩
  kept k hk := by
    obtain ⟨hne, hlate⟩ := List.ne_and_not_mem_of_not_mem_cons hk
    rw [h.kept k hlate, flushHead_xrec_ne q f s hne]
  count := by
    rw [h.count, flushHead_count, List.length_cons]
    omega

/-- R198: the late records at the front are flushed one by one, each flush leaving the others as late, and the head after
them as much on time, as they were. -/
theorem lateFlush_flushed (late rest : List Nat) {n : Nat} (hn : late.length ≤ n) (hq : (s.que q).recs = late ++ rest)
    (hnodup : late.Nodup) (hlate : ∀ r ∈ late, s.overLateMax q f r)
    (hrest : ∀ k ∈ rest.head?, k ∉ late ∧ ¬ s.overLateMax q f k) : Flushed q f late rest s (lateFlush q f n s) := by
  induction late generalizing n s with
  | nil =>
    have hstop : lateFlush q f n s = s := lateFlush_of_onTime n fun k hk => by
      rw [hq] at hk
      exact (hrest k hk).2
    rw [hstop]
    exact flushed_nil hq
  | cons r late ih =>
    obtain ⟨m, rfl⟩ := Nat.exists_eq_succ_of_ne_zero (Nat.ne_of_gt ((Nat.succ_pos _).trans_le hn))
    obtain ⟨hr, hnodup⟩ := List.nodup_cons.mp hnodup
    obtain ⟨hhead, hlate⟩ := List.forall_mem_cons.mp hlate
    rw [lateFlush_of_late m hq hhead]
    refine Flushed.cons (ih (Nat.le_of_succ_le_succ hn) ?_ hnodup (fun k hk => ?_) fun k hk => ?_) hr
    · rw [flushHead_que, hq]
      rfl
    · exact (flushHead_overLateMax_iff (ne_of_mem_of_not_mem hk hr)).mpr (hlate k hk)
    · obtain ⟨hnot, hontime⟩ := hrest k hk
      obtain ⟨hne, hnot⟩ := List.ne_and_not_mem_of_not_mem_cons hnot
      exact ⟨hnot, mt (flushHead_overLateMax_iff hne).mp hontime⟩

/-- R198: what the flush of a whole queue leaves, where the device decides. -/
theorem execQueueLateFlush_flushed (q : Fin 64) (late rest : List Nat) (hauth : s.decides s.coming = true)
    (hq : (s.que q.val).recs = late ++ rest) (hnodup : late.Nodup) (hlate : ∀ r ∈ late, s.overLateMax q.val s.coming r)
    (hrest : ∀ k ∈ rest.head?, k ∉ late ∧ ¬ s.overLateMax q.val s.coming k) :
    ∃ t, exec (.queueLateFlush q) s = .next t ∧ Flushed q.val s.coming late rest s t := by
  have hfuel : late.length ≤ (s.que q.val).recs.length := by
    rw [hq, List.length_append]
    exact Nat.le_add_right _ _
  exact ⟨_, congrArg Host.Outcome.next (if_pos hauth), lateFlush_flushed late rest hfuel hq hnodup hlate hrest⟩

end

/-! ### Transitions past their planned end (R105) -/

section
variable (n m : Nat) (s : State)

/-- R105: how heater frame `m` finds a transition: ended if it is overdue. -/
def endOverdue (m : Nat) (x : Tr) : Tr := if x.overdue m = true then trLateEnd x else x

theorem map_endOverdue_of_none {l : List Tr} (h : (l.countP fun x => x.overdue m) = 0) : l.map (endOverdue m) = l := by
  have hstay : ∀ x ∈ l, endOverdue m x = id x := fun x hx => if_neg (List.countP_eq_zero.mp h x hx)
  rw [List.map_congr_left hstay, List.map_id]

/-- R105: the overdue transitions end; with none overdue that is no change. -/
theorem lateEndSlot_trs : ((lateEndSlot n m s).slot n).trs = (s.slot n).trs.map (endOverdue m) := by
  unfold lateEndSlot
  dsimp only
  split_ifs with hnone
  · exact (map_endOverdue_of_none m hnone).symm
  · exact congrArg Slot.trs (State.slot_modSlot_same (s.add F.SEG_LATEEND _) n _)

theorem lateEndSlot_count : (lateEndSlot n m s).fg F.SEG_LATEEND =
    min (s.fg F.SEG_LATEEND + (s.slot n).trs.countP fun x => x.overdue m) (2 ^ 32 - 1) := by
  unfold lateEndSlot
  dsimp only
  split_ifs with hnone
  · rw [hnone]
    exact (Nat.min_eq_left (Nat.le_sub_one_of_lt (State.fgi_lt s F.SEG_LATEEND 0))).symm
  · exact State.fgi_addi s F.SEG_LATEEND 0 _

end

/-! ### A bundle late too often (R52) -/

theorem lateEscalation_of_due {b : Nat} {s : State} (hlim : s.fg F.CKG_FRMCFG_ESCLIM ≠ 0)
    (hrun : s.fg F.CKG_FRMCFG_ESCLIM ≤ (s.bun b).lateRun) :
    lateEscalation b s = engineFault (s.physOf (engineOf b)) 1 0x3001 s.deadline s := if_pos ⟨hlim, hrun⟩

/-! ### The family -/

/-- Settles O17: one late head and two are `lateFlush_flushed` for a list of one and of two records; the transitions of a
slot are `lateEndSlot_trs`, and an escalation is the fault of the engine that serves the bundle. -/
theorem lateRequestsTransitionsAndBundles : Obligations.LateRequestsTransitionsAndBundles := by
  refine ⟨fun q s r l hauth hq hr hmax hlate hrest => ?one, fun q s r k hauth hq hne hmax hr hk => ?two,
    fun n s => ⟨lateEndSlot n.val (add32 s.coming 2) s, rfl, lateEndSlot_trs _ _ s, lateEndSlot_count _ _ s⟩,
    fun b s hlim hrun hstate => ⟨lateEscalation b.val s, rfl, ?escalated⟩⟩
  case one =>
    have hontime : ∀ k ∈ l.head?, k ∉ [r] ∧ ¬ s.overLateMax q.val s.coming k := fun k hk =>
      ⟨fun hkr => hr (List.mem_singleton.mp hkr ▸ List.mem_of_mem_head? hk), fun h => h.2.not_ge (hrest k hk)⟩
    obtain ⟨t, hexec, h⟩ := execQueueLateFlush_flushed q [r] l hauth hq (List.nodup_singleton r)
      (List.forall_mem_singleton.mpr ⟨hmax, hlate⟩) hontime
    obtain ⟨hst, hcause, hfin⟩ := h.void r (List.mem_singleton_self r)
    have hkept : ∀ k ∈ l, t.xrec k = s.xrec k := fun k hk =>
      h.kept k (mt List.mem_singleton.mp (ne_of_mem_of_not_mem hk hr))
    exact ⟨t, hexec, h.left, hst, hcause, hfin, hkept, h.count⟩
  case two =>
    have hnodup : [r, k].Nodup := List.nodup_cons.mpr ⟨mt List.mem_singleton.mp hne, List.nodup_singleton k⟩
    have hlate : ∀ j ∈ [r, k], s.overLateMax q.val s.coming j :=
      List.forall_mem_cons.mpr ⟨⟨hmax, hr⟩, List.forall_mem_singleton.mpr ⟨hmax, hk⟩⟩
    obtain ⟨t, hexec, h⟩ := execQueueLateFlush_flushed q [r, k] [] hauth hq hnodup hlate
      (fun _ hnone => nomatch hnone)
    obtain ⟨hvoid, hcause, -⟩ := h.void r (List.mem_cons_self ..)
    obtain ⟨hvoid', hcause', -⟩ := h.void k (List.mem_cons_of_mem _ (List.mem_singleton_self k))
    exact ⟨t, hexec, h.left, hvoid, hcause, hvoid', hcause', h.count⟩
  case escalated =>
    rw [lateEscalation_of_due hlim hrun, engineFault_of_running _ 1 0x3001 s.deadline hstate]
    exact ⟨engineFails_state _ _ _ _ _, engineFails_cause _ _ _ _ _, engineFails_flagged _ _ _ _ _,
      engineFails_pend _ _ _ _ _⟩

end Sys2Proof.Machine
end

section
/-! PROOF. Arming, cancelling, stopping and starting a tide table (R205 to R211). -/
namespace Sys2Proof.Machine

theorem tide_kept {s t : State} (h : State.seen (.butPart .tide) t = State.seen (.butPart .tide) s) : t.tide = s.tide :=
  tide_of_seen _ _ _ h (by decide)

@[simp] theorem State.raise_tide (s : State) (src : Nat) : (s.raise src).tide = s.tide :=
  tide_kept (State.raise_seen _ s src (by decide))

/-! ### A committed table that is still to be placed (R203, log 22) -/

section
variable (s : State)

/-- What waits to be placed moves at most one of the two tables. -/
theorem tideSettle_cases : tideSettle s = s ∨ ∃ k tab, tideSettle s = s.modTab k fun _ => tab := by
  unfold tideSettle
  split
  next x _ =>
    split
    next k tab _ =>
      unfold placeTide
      split_ifs
      · exact .inr ⟨k, tab, rfl⟩
      · exact .inl rfl
    next => exact .inl rfl
  next => exact .inl rfl

@[simp] theorem tideSettle_pstart : (tideSettle s).tide.pstart = s.tide.pstart := by
  obtain h | ⟨k, tab, h⟩ := tideSettle_cases s <;> rw [h]; rfl

@[simp] theorem tideSettle_stopCmd : (tideSettle s).tide.stopCmd = s.tide.stopCmd := by
  obtain h | ⟨k, tab, h⟩ := tideSettle_cases s <;> rw [h]; rfl

@[simp] theorem tideSettle_fg (f : Fld) : (tideSettle s).fg f = s.fg f := by
  obtain h | ⟨k, tab, h⟩ := tideSettle_cases s <;> rw [h]; rfl

/-- R202: the check of a table asks the directory of manifests, which no table touches. -/
@[simp] theorem tideReason_tideSettle (tab : TideTab) : tideReason (tideSettle s) tab = tideReason s tab := by
  obtain h | ⟨k, placed, h⟩ := tideSettle_cases s <;> rw [h]; rfl

end

/-! ### An ARM refused or accepted (R206 to R208) -/

/-- Every reason fits the four bits of TID.STAT.REASON. -/
theorem tideReason_lt (s : State) (tab : TideTab) : tideReason s tab < 2 ^ 4 := by
  unfold tideReason
  extract_lets
  split_ifs <;> decide

/-- A refusal shows in TID.STAT with its reason and leaves the tables alone. -/
theorem tideRefuse_shows {reason : Nat} (s : State) (hfits : reason < 2 ^ 4) :
    (tideRefuse reason s).fg F.TID_STAT_REFUSED = 1 ∧ (tideRefuse reason s).fg F.TID_STAT_REASON = reason ∧
    (tideRefuse reason s).tide = s.tide :=
  ⟨(State.fg_fs_ne _ _ (by decide)).trans (State.fg_fs _ _ _), (State.fg_fs _ _ _).trans (Nat.mod_eq_of_lt hfits), rfl⟩

/-- R206, R207: the record of an accepted ARM, its start frame and, for a BASE that is past, N. -/
def recordArm (p : Nat × Option Nat) (s : State) : State :=
  let s := (s.modTide fun x => { x with pstart := some p.1 }).fs F.TID_PSTART_FRAME p.1
  match p.2 with
  | some n => (s.fs F.TID_STAT_LATEBASE 1).fs F.TID_LATEN_N n
  | none => s

theorem recordArm_tide (p : Nat × Option Nat) (s : State) :
    (recordArm p s).tide = { s.tide with pstart := some p.1 } := by
  obtain ⟨start, _ | n⟩ := p <;> rfl

theorem recordArm_startFrame (p : Nat × Option Nat) (s : State) :
    (recordArm p s).fg F.TID_PSTART_FRAME = p.1 % 2 ^ 32 := by
  obtain ⟨start, _ | n⟩ := p
  · exact State.fg_fs _ _ _
  · exact ((State.fg_fs_ne _ _ (by decide)).trans (State.fg_fs_ne _ _ (by decide))).trans (State.fg_fs _ _ _)

/-- R206: the outcomes of an ARM, the conditions read in the state it finds but for the shadow it freezes. -/
theorem tideArm_eq (s : State) : tideArm s =
    if s.tide.pstart.isSome = true ∨ s.tide.stopCmd = true then tideRefuse 8 s
    else if tideReason s (tideSettle s).shadowTab ≠ 0 then tideRefuse (tideReason s (tideSettle s).shadowTab) s
    else if later (tideSettle s).shadowTab.hdr.base s.armFrame = true ∧
        Nat.min (2 ^ 30) (s.fg F.TIM_ARMWIN_FRAMES) < sub32 (tideSettle s).shadowTab.hdr.base s.armFrame then tideRefuse 7 s
    else recordArm ((tideSettle s).armStart s.armFrame) (tideSettle s) := by
  unfold tideArm
  simp only [tideSettle_pstart, tideSettle_stopCmd, tideSettle_fg, tideReason_tideSettle]
  rfl

/-! ### A CANCEL, a STOP, a start and an end (R205, R208, R210, R211) -/

section
variable {s : State}

theorem tideCancel_of_armed {p : Nat} (harmed : s.tide.pstart = some p) :
    tideCancel s = if later (sub32 p 3) s.frame then s.modTide fun x => { x with pstart := none } else s := by
  unfold tideCancel
  rw [harmed]

/-- R211: a table that is to end, ONESHOT or stopped by firmware, keeps the boundary it has. -/
theorem tideStop_of_running (hunarmed : s.tide.pstart = none) (hrun : s.tide.run = true) (hstop : s.tide.stopCmd = false) :
    tideStop s = s.modTide fun x =>
      { x with
        stopCmd := true
        stopAt := some (s.tide.stopAt.getD (firstBoundary s.nextBoundary s.activeTab.cycle (add32 s.frame 4))) } := by
  unfold tideStop
  rw [hunarmed, hrun, hstop]
  cases s.tide.stopAt <;> rfl

/-- R205, R208: the tables exchange roles and the shadow runs from its top; TID.ACYCLE and the TIDE_START event follow. -/
theorem tideStart_of_due (hdue : s.tide.pstart = some s.coming) :
    tideStart s = ((s.modTide fun x =>
      { x with
        shadow := 1 - x.shadow
        run := true
        off := -1
        pstart := none
        stopAt := if s.shadowTab.hdr.oneshot then some (add32 s.coming s.shadowTab.cycle) else none
        stopCmd := false
        start := s.coming
        cycles := 0 }).fs F.TID_ACYCLE_CYCLE s.shadowTab.cycle).raise 11 := by
  unfold tideStart
  rw [hdue]
  exact if_pos rfl

end

/-! ### The family -/

/-- Settles O24: an ARM has the outcomes of `tideArm_eq`, each refusal shown by `tideRefuse_shows` and the start frame kept by
`recordArm`; a CANCEL, a STOP, a start and an end change the tide state alone, but for what the start announces. -/
theorem armingAndStoppingTideTables : Obligations.ArmingAndStoppingTideTables := by
  refine ⟨fun s => ⟨tideArm s, rfl, ?arm⟩, fun s p harmed => ⟨tideCancel s, rfl, tideCancel_of_armed harmed⟩,
    fun s hunarmed hrun hstop => ⟨tideStop s, rfl, tideStop_of_running hunarmed hrun hstop⟩,
    fun s hdue => ⟨tideStart s, rfl, ?start⟩,
    fun s hrun hend hother => ⟨tideTableStop s, rfl, if_pos ⟨hrun, hend, hother⟩⟩⟩
  case arm =>
    extract_lets u
    rw [tideArm_eq]
    split_ifs
    · exact tideRefuse_shows s (by decide)
    · exact tideRefuse_shows s (tideReason_lt s _)
    · exact tideRefuse_shows s (by decide)
    · exact ⟨recordArm_tide _ _, recordArm_startFrame _ _⟩
  case start =>
    rw [tideStart_of_due hdue, State.raise_tide]
    exact ⟨rfl, rfl, rfl, rfl, rfl, rfl, rfl, rfl, State.raise_pend _ 11⟩

end Sys2Proof.Machine
end

section
/-! PROOF. The rates of SEEK (R245): what a change of rate does to the hunt. -/
namespace Sys2Proof.Machine

/-- R245: once its frames are over, a rate gives way to the other, at which the hunt begins again. -/
theorem seekSwitch_of_due {q : Nat} {s : State} (hseek : s.laneSt q = 1)
    (hdue : (if (s.lane q).declared = true then 1024 else 256) ≤ (s.lane q).since) :
    seekSwitch q s = s.modLane q fun x => { x with declared := !x.declared, since := 0, regained := 0 } :=
  if_pos ⟨hseek, hdue⟩

/-- A device whose lane 0 is at the end of its 1,024 frames at the declared rate, the hunt (R238) having found one frame. -/
def lateHunt : State :=
  (State.reset.fsi F.QY_LNKSTAT_STATE 0 1).modLane 0 fun x => { x with since := 1024, regained := 1 }

theorem seekSwitch_lateHunt_regained : ((seekSwitch 0 lateHunt).lane 0).regained = 0 := by
  rw [seekSwitch_of_due (by decide) (by decide)]
  rfl

/-- Refutes O29: its first clause leaves the count of the hunt as it was, but a change of rate begins the hunt again
(`seekSwitch_of_due`), so in `lateHunt` the frame found at the old rate no longer counts. -/
theorem not_laneTraining : ¬ Obligations.LaneTraining := by
  rintro ⟨hswitch, -⟩
  have hout := hswitch 0 lateHunt (by decide) (by decide)
  have hstate : seekSwitch 0 lateHunt = lateHunt.modLane 0 fun x => { x with declared := !x.declared, since := 0 } :=
    Host.Outcome.next.inj hout
  have hkept : ((seekSwitch 0 lateHunt).lane 0).regained = 1 := by rw [hstate]; rfl
  exact absurd (seekSwitch_lateHunt_regained.symm.trans hkept) (by decide)

end Sys2Proof.Machine
end

section
/-! PROOF. Loss of lock, relock and upstream frames of a lane (R240 to R243, R249, R250, R256, R544). -/
namespace Sys2Proof.Machine

/-! ### What the operations of a lane leave alone -/

section
variable {s t : State}

theorem lanes_kept (h : State.seen (.butPart .lanes) t = State.seen (.butPart .lanes) s) : t.lanes = s.lanes :=
  lanes_of_seen _ _ _ h (by decide)

theorem quays_kept (h : State.seen (.butPart .quays) t = State.seen (.butPart .quays) s) : t.quays = s.quays :=
  quays_of_seen _ _ _ h (by decide)

end

/-- What the park of a quay may change. -/
def Extent.quayPark : Extent := ⟨[.seqs, .fab], false, F.MOR_PARKCNT :: raiseFlds⟩

/-- What a lane that enters SEEK may change. -/
def Extent.seek : Extent :=
  ⟨[.seqs, .log, .fab, .quays, .lanes, .port], false,
    [F.DBG_FLTSTAT_CLASS, F.MOR_PARKCNT, F.QY_DRVSTAT_AUTH, F.QY_LNKSTAT_STATE, F.QY_LNKSTAT_TGEN,
      F.QY_LNKSTAT_TLOCK, F.QY_LNKSTAT_ULOCK] ++ raiseFlds⟩

/-- What a limited launch target may change. -/
def Extent.launchTarget : Extent :=
  ⟨[.log, .port], false, [F.DBG_FLTSTAT_CLASS, F.QY_LAUNCH_TARGET, F.QY_LNKSTAT_SKEWFAIL]⟩

/-- What the arrival of an upstream frame may change, whatever the frame turns out to be. -/
def Extent.arrival : Extent :=
  ⟨[.lanes], false, [F.QY_ARRIVE_LAST, F.QY_ARRIVE_WORST, F.QY_SYNCERR, F.QY_ULATE]⟩

section
variable (q : Nat) (s : State)

theorem parkQuay_fgi (f : Fld) (i : Nat) (hf : Extent.quayPark.r f = false) : (parkQuay q s).fgi f i = s.fgi f i :=
  State.fgi_of_seen .quayPark _ _ f i (parkQuay_seen _ q s (by decide)) hf

theorem toSeek_fgi (n why : Nat) (f : Fld) (i : Nat) (hf : Extent.seek.r f = false) :
    (toSeek q n why s).fgi f i = s.fgi f i :=
  State.fgi_of_seen .seek _ _ f i (toSeek_seen _ q n why s (by decide)) hf

theorem skewFail_fgi (f : Fld) (i : Nat) (hf : Extent.launchTarget.r f = false) : (skewFail q s).fgi f i = s.fgi f i :=
  State.fgi_of_seen .launchTarget _ _ f i (skewFail_seen _ q s (by decide)) hf

theorem setTarget_fgi (f : Fld) (i : Nat) (hf : Extent.launchTarget.r f = false) : (setTarget q s).fgi f i = s.fgi f i :=
  State.fgi_of_seen .launchTarget _ _ f i (setTarget_seen _ q s (by decide)) hf

@[simp] theorem State.raise_lanes (src : Nat) : (s.raise src).lanes = s.lanes :=
  lanes_kept (State.raise_seen _ s src (by decide))

@[simp] theorem State.logFault_lanes (code index detail : Nat) : (s.logFault code index detail).lanes = s.lanes :=
  lanes_kept (State.logFault_seen _ s code index detail (by decide))

/-- R13: one counter of a row moved up by one. -/
theorem State.fgi_bumpi (f : Fld) : (s.bumpi f q).fgi f q = Nat.min (s.fgi f q + 1) (2 ^ f.width - 1) :=
  State.fgi_addi s f q 1

/-- R244: a lane is in the state it enters. -/
theorem setLane_laneSt {st : Nat} (hst : st < 8) : (setLane q st s).laneSt q = st := by
  unfold setLane
  split_ifs with h
  · exact h
  · calc (((s.fsi F.QY_LNKSTAT_STATE q st).modLane q fun x => { x with since := 0 }).raise (32 + q)).laneSt q
      _ = (s.fsi F.QY_LNKSTAT_STATE q st).fgi F.QY_LNKSTAT_STATE q := State.raise_fgi _ _ _ _ (by decide)
      _ = st := (State.fgi_fsi _ _ _ _).trans (Nat.mod_eq_of_lt hst)

/-- R544: a lane that enters SEEK is there without lock. -/
theorem toSeek_seeks (n why : Nat) : (toSeek q n why s).laneSt q = 1 ∧ (toSeek q n why s).ulock q = false := by
  unfold toSeek State.laneSt State.ulock State.flagi
  simp (disch := decide) only [State.modLane_fgi, State.fgi_fsi, State.fgi_fsi_ne]
  exact ⟨setLane_laneSt q _ (by decide), rfl⟩

end

/-! ### Loss of lock in RUN and before, and its return (R243, R249, R544) -/

section
variable {q : Nat} {s : State}

/-- R249: a lane in RUN whose upstream lock is lost, before RELOCK is asked. -/
def lostInRun (q : Nat) (s : State) : State :=
  (parkQuay q (((s.bumpi F.QY_ULOSSCNT q).fsi F.QY_LNKSTAT_LOSS q 1).fsi F.QY_LNKSTAT_ULOCK q 0)).modLane q fun x =>
    { x with lost := some 0, regained := 0 }

theorem lostInRun_fgi (f : Fld) (hf : Extent.quayPark.r f = false) : (lostInRun q s).fgi f q =
    (((s.bumpi F.QY_ULOSSCNT q).fsi F.QY_LNKSTAT_LOSS q 1).fsi F.QY_LNKSTAT_ULOCK q 0).fgi f q :=
  parkQuay_fgi q _ f q hf

theorem lostInRun_loss : (lostInRun q s).fgi F.QY_LNKSTAT_LOSS q = 1 :=
  (lostInRun_fgi _ (by decide)).trans ((State.fgi_fsi_ne _ _ _ _ _ _ (by decide)).trans (State.fgi_fsi _ _ _ _))

theorem lostInRun_count : (lostInRun q s).fgi F.QY_ULOSSCNT q = Nat.min (s.fgi F.QY_ULOSSCNT q + 1) (2 ^ 32 - 1) := by
  rw [lostInRun_fgi _ (by decide), State.fgi_fsi_ne _ _ _ _ _ _ (by decide), State.fgi_fsi_ne _ _ _ _ _ _ (by decide)]
  exact State.fgi_bumpi q s F.QY_ULOSSCNT

theorem lostInRun_ulock : (lostInRun q s).ulock q = false :=
  decide_eq_false (not_not.mpr ((lostInRun_fgi F.QY_LNKSTAT_ULOCK (by decide)).trans (State.fgi_fsi _ _ _ _)))

theorem lostInRun_fgi_kept (f : Fld) (hf : Extent.quayPark.r f = false)
    (hne : f.id ≠ F.QY_ULOSSCNT.id ∧ f.id ≠ F.QY_LNKSTAT_LOSS.id ∧ f.id ≠ F.QY_LNKSTAT_ULOCK.id) :
    (lostInRun q s).fgi f q = s.fgi f q := by
  obtain ⟨hcount, hloss, hlock⟩ := hne
  rw [lostInRun_fgi f hf, State.fgi_fsi_ne _ _ _ _ _ _ hlock, State.fgi_fsi_ne _ _ _ _ _ _ hloss]
  exact State.fgi_fsi_ne _ _ _ _ _ _ hcount

theorem lockLoss_of_running (hrun : s.laneSt q = 6) (hlock : s.ulock q = true) (hlost : (s.lane q).lockLost = true) :
    lockLoss q s = if s.fgi F.QY_LNKCFG_RELOCK q = 0 then toSeek q (lostInRun q s).coming 1 (lostInRun q s)
      else lostInRun q s := by
  rw [← lostInRun_fgi_kept F.QY_LNKCFG_RELOCK (by decide) (by decide)]
  unfold lockLoss
  rw [if_pos (Bool.and_eq_true_iff.mpr ⟨hlock, hlost⟩), if_pos hrun]
  rfl

theorem relock_of_regained (hrun : s.laneSt q = 6) (hlost : (s.lane q).lost.isSome = true) (htwo : 2 ≤ (s.lane q).regained) :
    relock q s = unparkQuay q s.coming ((s.fsi F.QY_LNKSTAT_ULOCK q 1).modLane q fun x =>
      { x with lost := none, regained := 0, syncBad := 0, crcBad := 0 }) :=
  if_pos ⟨hrun, hlost, htwo⟩

theorem unparkQuay_fgi (n : Nat) (f : Fld) (i : Nat) : (unparkQuay q n s).fgi f i = s.fgi f i :=
  State.fgi_of_seen ⟨[.fab], false, []⟩ _ _ f i (unparkQuay_seen _ q n s (by decide)) rfl

theorem relockTimeout_of_due {n : Nat} (hrun : s.laneSt q = 6) (hlost : (s.lane q).lost = some n)
    (hdue : s.fgi F.QY_LNKCFG_RELOCK q ≤ n) : relockTimeout q s = toSeek q s.coming 1 s := by
  unfold relockTimeout
  rw [hlost]
  exact if_pos ⟨hrun, hdue⟩

theorem preRunLoss_of_lost (hlo : 2 ≤ s.laneSt q) (hhi : s.laneSt q ≤ 5) (hlost : (s.lane q).lockLost = true) :
    preRunLoss q s = toSeek q s.coming 0 s :=
  if_pos ⟨hlo, hhi, hlost⟩

end

/-! ### A RESKEW (R256) -/

section
variable {q : Nat} {s : State}

/-- R256: the averaged round trip taken as the round trip, and the target it gives. -/
def retarget (q : Nat) (s : State) : State := setTarget q (s.fsi F.QY_RTT_TIME q (s.fgi F.QY_RTTAVG_TIME q))

theorem reskew_of_running (hrun : s.laneSt q = 6) : reskew q s =
    if (retarget q s).ulmax q ((retarget q s).fgi F.QY_RTT_TIME q) < ((retarget q s).fgi F.QY_LNKTIM_ULSLOT q : Int)
    then skewFail q (retarget q s) else retarget q s :=
  if_pos hrun

theorem reskew_fgi (hrun : s.laneSt q = 6) (f : Fld) (hf : Extent.launchTarget.r f = false) :
    (reskew q s).fgi f q = (s.fsi F.QY_RTT_TIME q (s.fgi F.QY_RTTAVG_TIME q)).fgi f q := by
  have htarget : (retarget q s).fgi f q = (s.fsi F.QY_RTT_TIME q (s.fgi F.QY_RTTAVG_TIME q)).fgi f q :=
    setTarget_fgi q _ f q hf
  rw [reskew_of_running hrun]
  split_ifs
  · exact (skewFail_fgi q _ f q hf).trans htarget
  · exact htarget

theorem reskew_lanes (q : Nat) (s : State) : (reskew q s).lanes = s.lanes := lanes_kept (reskew_seen _ q s (by decide))

end

/-! ### An upstream frame that has come (R238, R241) -/

/-- R238: a frame is heard at its position, with the bit errors of its SYNC word. -/
def heard (q : Nat) (a : UArrival) (s : State) : State :=
  let t := s.modLane q fun x => { x with got := true }
  if t.ulock q then t.addi F.QY_SYNCERR q a.syncErr else t

/-- R238: the run of bad SYNC words of a lane. -/
def Lane.noteSync (x : Lane) (a : UArrival) : Lane := { x with syncBad := if 4 < a.syncErr then x.syncBad + 1 else 0 }

/-- R238, R241: the arrival of the frame heard is noted; it has not been judged yet. -/
def arrived (q : Nat) (a : UArrival) (s : State) : State :=
  let t := noteArrive q a.late ((heard q a s).modLane q fun x => x.noteSync a)
  if 80 < a.late then t.bumpi F.QY_ULATE q else t

section
variable (q : Nat) (a : UArrival) (s : State)

theorem heard_seen : State.seen .arrival (heard q a s) = State.seen .arrival s := by
  have hlane : State.seen .arrival (s.modLane q fun x => { x with got := true }) = State.seen .arrival s :=
    State.modLane_seen _ s q _ (by decide)
  unfold heard
  dsimp only
  split_ifs
  · exact (State.addi_seen _ _ _ _ _ (by decide)).trans hlane
  · exact hlane

theorem arrived_seen : State.seen .arrival (arrived q a s) = State.seen .arrival s := by
  have hnoted : State.seen .arrival (noteArrive q a.late ((heard q a s).modLane q fun x => x.noteSync a)) =
      State.seen .arrival s :=
    (noteArrive_seen _ q a.late _ (by decide)).trans ((State.modLane_seen _ _ q _ (by decide)).trans (heard_seen q a s))
  unfold arrived
  dsimp only
  split_ifs
  · exact (State.bumpi_seen _ _ _ _ (by decide)).trans hnoted
  · exact hnoted

theorem arrived_fgi (g : Fld) (i : Nat) (hg : Extent.arrival.r g = false) : (arrived q a s).fgi g i = s.fgi g i :=
  State.fgi_of_seen .arrival _ _ g i (arrived_seen q a s) hg

theorem arrived_quays : (arrived q a s).quays = s.quays := quays_of_seen .arrival _ _ (arrived_seen q a s) (by decide)

/-- What a change of a lane leaves of the lane is the same after it, whether there is such a lane or not. -/
theorem State.lane_modLane_keeps {β : Type} (part : Lane → β) {g : Lane → Lane} (hg : ∀ x, part (g x) = part x) :
    part ((s.modLane q g).lane q) = part (s.lane q) := by
  have hlane : (s.modLane q g).lane q = if q = q ∧ q < s.lanes.length then g (s.lane q) else s.lane q :=
    getD_setAt s.lanes q q (g (s.lane q)) Lane.init
  rw [hlane]
  split_ifs
  · exact hg _
  · rfl

/-- A frame that comes moves nothing of its lane but `got` and the run of bad SYNC words. -/
theorem arrived_lane_keeps {β : Type} (part : Lane → β) (hgot : ∀ x, part { x with got := true } = part x)
    (hsync : ∀ x, part (x.noteSync a) = part x) : part ((arrived q a s).lane q) = part (s.lane q) := by
  have hheard : (heard q a s).lane q = (s.modLane q fun x => { x with got := true }).lane q := by
    unfold heard
    dsimp only
    split_ifs <;> rfl
  have hlane : (arrived q a s).lane q = ((heard q a s).modLane q fun x => x.noteSync a).lane q := by
    have hnote : (arrived q a s).lane q = (noteArrive q a.late ((heard q a s).modLane q fun x => x.noteSync a)).lane q := by
      unfold arrived
      dsimp only
      split_ifs <;> rfl
    exact hnote.trans (congrArg (·.getD q Lane.init) (lanes_kept (noteArrive_seen _ q a.late _ (by decide))))
  rw [hlane, State.lane_modLane_keeps q _ part hsync, hheard, State.lane_modLane_keeps q s part hgot]

variable (f : UFrame)

/-- A tile is known as it was before the frame came. -/
theorem arrived_discovered : (arrived q a s).discovered q = s.discovered q := by
  unfold State.discovered State.laneSt
  rw [arrived_fgi q a s _ _ (by decide), arrived_lane_keeps q a s Lane.ident (fun _ => rfl) fun _ => rfl]

theorem arrived_frameGood : (arrived q a s).frameGood q f = s.frameGood q f := by
  unfold State.frameGood
  rw [arrived_discovered, arrived_fgi q a s _ _ (by decide)]

theorem arrived_tsigDiffers : (arrived q a s).tsigDiffers q f = s.tsigDiffers q f := by
  unfold State.tsigDiffers
  rw [arrived_discovered, arrived_lane_keeps q a s Lane.serial (fun _ => rfl) fun _ => rfl]

end

/-! ### An upstream frame judged (R240, R242) -/

section
variable {q : Nat} {s : State} {f : UFrame} {a : UArrival}

/-- R240: what a lane in lock makes of a frame from the tile it knows. -/
theorem upstreamFrame_of_locked (hstate : 2 ≤ s.laneSt q) (hlost : (s.lane q).lost = none)
    (htile : s.tsigDiffers q f = false) :
    upstreamFrame q f a s =
      if s.frameGood q f = false then badFrame q false f.crcOk (arrived q a s)
      else if f.fnum ≠ s.frame % 2 ^ 24 then badFrame q true true (arrived q a s)
      else goodFrame q s.frame f a (arrived q a s) := by
  rw [← arrived_frameGood q a s f]
  rw [← arrived_tsigDiffers q a s f] at htile
  unfold upstreamFrame
  rw [if_neg (Nat.not_lt.mpr hstate), hlost]
  refine (if_neg fun h => Bool.false_ne_true h.1).trans ?_
  show (if (arrived q a s).frameGood q f = false then badFrame q false f.crcOk (arrived q a s)
    else if (arrived q a s).tsigDiffers q f = true then _
    else if f.fnum ≠ s.frame % 2 ^ 24 then badFrame q true true (arrived q a s)
    else goodFrame q s.frame f a (arrived q a s)) = _
  rw [if_neg (ne_true_of_eq_false htile)]

/-- R240: where a bad frame is counted. -/
def badCounter (fnum : Bool) : Fld := if fnum then F.QY_UFNERR else F.QY_UCRCCNT

theorem badFrame_count (q : Nat) (fnum crc : Bool) (s : State) : (badFrame q fnum crc s).fgi (badCounter fnum) q =
    Nat.min (s.fgi (badCounter fnum) q + 1) (2 ^ (badCounter fnum).width - 1) :=
  (State.fgi_of_seen ⟨[.lanes], false, []⟩ _ _ _ q
    ((breakRtt_seen _ q _ (by decide)).trans (State.modLane_seen _ _ q _ (by decide))) rfl).trans
    (State.fgi_bumpi q s (badCounter fnum))

theorem badFrame_quays (q : Nat) (fnum crc : Bool) (s : State) : (badFrame q fnum crc s).quays = s.quays :=
  quays_kept (badFrame_seen _ q fnum crc s (by decide))

/-- R246: what a frame of TRAIN says of the margins and the clean run. -/
def trainFrame (q : Nat) (f : UFrame) (a : UArrival) (s : State) : State :=
  if s.laneSt q = 2 then
    let s := s.modLane q fun x => { x with deyeNow := a.deye }
    let s := if (s.lane q).chosen then (s.fsi F.QY_EYE_DEYE q a.deye).fsi F.QY_EYE_TEYE q f.eye else s
    let ok := (s.lane q).chosen && cleanFrame s q f
    s.modLane q fun x => { x with clean := if ok then x.clean + 1 else 0 }
  else s

theorem trainFrame_quays : (trainFrame q f a s).quays = s.quays := by
  unfold trainFrame
  dsimp only
  split_ifs <;> rfl

/-- R251: a tile that sources current says nothing of soft starts. -/
theorem noteSrc0_of_sourcing (q m : Nat) (s : State) (hsrc : f.src0 = false) : noteSrc0 q m f s = s := by
  unfold noteSrc0
  cases (s.lane q).authFrom with
  | none => rfl
  | some n => exact if_neg fun h => absurd (hsrc.symm.trans h.1) (by decide)

/-- R240: the samples of a good frame without a cell are taken in for its heater frame, none where it is too late. -/
theorem goodFrame_of_samples (q m : Nat) (s : State) (htype : f.ftype = 2) (hsrc : f.src0 = false) (hcell : f.cell = none) :
    goodFrame q m f a s = (noteRtt q a.rtt (trainFrame q f a (noteHeader q f s))).modQuay q fun x =>
      { x with intake := some ⟨m, if 80 < a.late then [] else f.samples⟩ } := by
  unfold goodFrame
  dsimp only
  rw [noteSrc0_of_sourcing q m _ hsrc, if_pos htype, hcell]
  rfl

theorem goodFrame_quays (q m : Nat) (s : State) (htype : f.ftype = 2) (hsrc : f.src0 = false) (hcell : f.cell = none) :
    (goodFrame q m f a s).quays = setAt s.quays q { s.quay q with
      intake := some ⟨m, if 80 < a.late then [] else f.samples⟩ } := by
  have hquays : (noteRtt q a.rtt (trainFrame q f a (noteHeader q f s))).quays = s.quays :=
    (quays_kept (noteRtt_seen _ q a.rtt _ (by decide))).trans
      (trainFrame_quays.trans (quays_kept (noteHeader_seen _ q f s (by decide))))
  rw [goodFrame_of_samples q m s htype hsrc hcell, State.modQuay_quays, State.quay, hquays]
  rfl

end

/-! ### A burst of downstream errors (R242) -/

theorem derrBurst_of_due {q : Nat} {s : State} (hlim : s.fgi F.QY_LNKCFG_DERRLIM q ≠ 0)
    (hdue : s.fgi F.QY_LNKCFG_DERRLIM q ≤ (s.lane q).derrRun) :
    derrBurst q s = (((s.fsi F.QY_LNKSTAT_DERRBURST q 1).raise (64 + q)).logFault 0x4006 q 0).modLane q fun x =>
      { x with derrRun := 0 } :=
  if_pos ⟨hlim, hdue⟩

/-! ### The family -/

/-- Settles O30: what a loss leaves is `lostInRun`, and every way to SEEK ends in `toSeek_seeks`; a RESKEW sets a target only; a
frame is judged by `upstreamFrame_of_locked`, where its arrival has moved nothing that the judgement reads. -/
theorem laneLossAndRelock : Obligations.LaneLossAndRelock := by
  refine ⟨fun q s hrun hlock hlost => ⟨lockLoss q.val s, rfl, ?loss⟩,
    fun q s hrun hlost htwo => ⟨relock q.val s, rfl, ?relocked⟩,
    fun q s n hrun hlost hdue => ⟨relockTimeout q.val s, rfl, ?timeout⟩,
    fun q s hlo hhi hlost => ⟨preRunLoss q.val s, rfl, ?preRun⟩,
    fun q s hon => congrArg Host.Outcome.next (if_neg hon),
    fun q s hrun => ⟨reskew q.val s, rfl, ?reskewed, ?kept, reskew_lanes q.val s, ?slot⟩,
    fun q f a s hstate _ hlost htile => ⟨upstreamFrame q.val f a s, rfl, ?frame⟩,
    fun q s hlim hdue => ⟨derrBurst q.val s, rfl, ?burst⟩⟩
  case loss =>
    rw [lockLoss_of_running hrun hlock hlost]
    split_ifs with hseek
    · obtain ⟨hst, hul⟩ := toSeek_seeks q.val (lostInRun q.val s) (lostInRun q.val s).coming 1
      exact ⟨hul, (toSeek_fgi _ _ _ _ _ _ (by decide)).trans lostInRun_loss,
        (toSeek_fgi _ _ _ _ _ _ (by decide)).trans lostInRun_count, hst⟩
    · exact ⟨lostInRun_ulock, lostInRun_loss, lostInRun_count, (lostInRun_fgi_kept _ (by decide) (by decide)).trans hrun⟩
  case relocked =>
    rw [relock_of_regained hrun hlost htwo]
    refine ⟨decide_eq_true ?_, ?_, lanes_kept (unparkQuay_seen _ _ _ _ (by decide))⟩
    · rw [unparkQuay_fgi, State.modLane_fgi, State.fgi_fsi]
      decide
    · exact (unparkQuay_fgi _ F.QY_LNKSTAT_STATE _).trans ((State.fgi_fsi_ne _ _ _ _ _ _ (by decide)).trans hrun)
  case timeout =>
    rw [relockTimeout_of_due hrun hlost hdue]
    exact toSeek_seeks _ _ _ _
  case preRun =>
    rw [preRunLoss_of_lost hlo hhi hlost]
    exact toSeek_seeks _ _ _ _
  case reskewed =>
    rw [reskew_fgi hrun _ (by decide), State.fgi_fsi]
    exact Nat.mod_eq_of_lt (State.fgi_lt s F.QY_RTTAVG_TIME q.val)
  case kept =>
    exact (reskew_fgi hrun F.QY_LNKSTAT_STATE (by decide)).trans ((State.fgi_fsi_ne _ _ _ _ _ _ (by decide)).trans hrun)
  case slot => exact (reskew_fgi hrun F.QY_LNKTIM_ULSLOT (by decide)).trans (State.fgi_fsi_ne _ _ _ _ _ _ (by decide))
  case frame =>
    rw [upstreamFrame_of_locked hstate hlost htile]
    by_cases hgood : s.frameGood q.val f = false
    · rw [if_pos hgood, if_pos hgood, ← arrived_fgi q.val a s F.QY_UCRCCNT _ (by decide)]
      exact ⟨badFrame_count _ _ _ _, (badFrame_quays _ _ _ _).trans (arrived_quays _ _ _)⟩
    · rw [if_neg hgood, if_neg hgood]
      by_cases hnumber : f.fnum ≠ s.frame % 2 ^ 24
      · rw [if_pos hnumber, if_pos hnumber, ← arrived_fgi q.val a s F.QY_UFNERR _ (by decide)]
        exact ⟨badFrame_count _ _ _ _, (badFrame_quays _ _ _ _).trans (arrived_quays _ _ _)⟩
      · rw [if_neg hnumber, if_neg hnumber]
        intro htype hsrc hcell
        rw [goodFrame_quays q.val s.frame _ htype hsrc hcell, State.quay, arrived_quays]
        rfl
  case burst =>
    rw [derrBurst_of_due hlim hdue]
    refine ⟨?_, (State.logFault_pend _ _ _ _ _).trans (State.raise_pend _ _), ?_⟩
    · rw [State.modLane_fgi, State.logFault_fgi _ _ _ _ _ _ (by decide), State.raise_fgi _ _ _ _ (by decide)]
      exact State.fgi_fsi _ _ _ _
    · rw [State.modLane_lanes, State.lane, State.logFault_lanes, State.raise_lanes]
      rfl

end Sys2Proof.Machine
end

section
/-! PROOF. What a tile does with link frames, reference instants, launches, resets and conditions (R235, R238, R239, R266,
R274 to R276, R279 to R281). -/
namespace Sys2Proof.Machine

/-! ### Tiles and their ports -/

section
variable {s : State} {q : Nat}

/-- A tile that is not the one every unplugged quay shows is one of the state's. -/
theorem State.tile_modTile (g : TileSt → TileSt) (h : s.tile q ≠ TileSt.init) : (s.modTile q g).tile q = g (s.tile q) := by
  have hq : q < s.tiles.length := by
    by_contra hq
    exact h (List.getD_eq_default _ _ (Nat.le_of_not_lt hq))
  exact (getD_setAt s.tiles q q _ _).trans (if_pos ⟨rfl, hq⟩)

theorem State.tile_ne_init_of_ident (h : (s.tile q).ident.isSome = true) : s.tile q ≠ TileSt.init := by
  intro hinit
  rw [hinit] at h
  exact absurd h (by decide)

theorem TileSt.init_port (p : Nat) : TileSt.init.port p = TPort.init := by
  obtain _ | _ | p := p <;> rfl

theorem State.tile_ne_init_of_port {p : Nat} (h : (s.tile q).port p ≠ TPort.init) : s.tile q ≠ TileSt.init :=
  fun hinit => h (hinit ▸ TileSt.init_port p)

end

section
variable {t : TileSt} {p : Nat}

/-- A port that is not the one every missing port shows is one of the tile's. -/
theorem TileSt.port_lt (h : t.port p ≠ TPort.init) : p < t.ports.length := by
  by_contra hp
  exact h (List.getD_eq_default _ _ (Nat.le_of_not_lt hp))

theorem TileSt.port_modPort (g : TPort → TPort) (h : t.port p ≠ TPort.init) : (t.modPort p g).port p = g (t.port p) :=
  (getD_setAt t.ports p p _ _).trans (if_pos ⟨rfl, TileSt.port_lt h⟩)

theorem TPort.ne_init_of_lock {x : TPort} (h : x.lock = true) : x ≠ TPort.init := by
  rintro rfl
  exact absurd h (by decide)

theorem TPort.ne_init_of_found {x : TPort} (h : 2 ≤ x.found) : x ≠ TPort.init := by
  rintro rfl
  exact absurd h (by decide)

end

/-! ### Downstream frames (R235, R238, R239) -/

section
variable {t : TileSt} {x : TPort} {g : DFrame}

/-- R235, R239: a port in lock after a frame it accepts, one without a cell. -/
theorem TPort.place_of_accepted {e : Nat} (hlock : x.lock = true) (he : e ≤ 4) (hok : t.frameOk g = true)
    (hnumber : x.number g = .accepted) (hcell : g.cell = none) :
    x.place t (some g) e =
      { x with
        got := true
        syncBad := 0
        span := fixedBits g.gen + g.fill
        crcBad := if g.crcOk then 0 else x.crcBad + 1
        frame := some g
        expect := some ((g.fnum + 1) % 2 ^ 24)
        numbered := true
        refusedRun := 0
        rxfn := g.fnum % 256
        train := decide (g.ftype = 3) && !g.trained
        cpre := if g.ftype = 3 then g.tpre else x.cpre } := by
  have hnumbered : TPort.number { x with
      got := true, syncBad := 0, span := fixedBits g.gen + g.fill
      crcBad := if g.crcOk then 0 else x.crcBad + 1 } g = .accepted := hnumber
  unfold TPort.place TPort.receive
  dsimp only
  rw [if_pos hlock, if_pos he, if_pos hok, hnumbered, hcell]

theorem TPort.place_of_missing {e : Nat} (hlock : x.lock = true) :
    x.place t none e = { x with got := true, syncBad := x.syncBad + 1 : TPort }.missed :=
  if_pos hlock

end

section
variable {s : State} {q p : Nat}

/-- R239: a place whose frame resets no channel goes to its port alone. -/
theorem tileFrame_tile {f : Option DFrame} (e : Nat) (hport : (s.tile q).hasPort p = true)
    (hx : (s.tile q).port p ≠ TPort.init) (hrst : (f.bind DFrame.cell).any Cell.rst = false) :
    (tileFrame q p f e s).tile q = (s.tile q).modPort p fun x => x.place (s.tile q) f e := by
  unfold tileFrame
  rw [State.tile_modTile _ (State.tile_ne_init_of_port hx), if_pos hport, hrst]
  rfl

/-- R238: a port of the tile that stays on the quay acquires or loses lock. -/
theorem tileLock_tile (locked : Bool) (hport : (s.tile q).hasPort p = true) (hx : (s.tile q).port p ≠ TPort.init) :
    (tileLock q p locked (s.tile q).ident s).tile q =
      (s.tile q).modPort p fun x => if locked then x.acquire else x.lose := by
  unfold tileLock
  rw [if_neg (not_not.mpr rfl)]
  dsimp only
  rw [State.tile_modTile _ (State.tile_ne_init_of_port hx), if_pos hport]

end

/-! ### The reference instant (R235, R279 to R283) -/

/-- What a tile is and what it has sampled. -/
def TileSt.sampled (t : TileSt) : Option TileId × List (Nat × Bool) := (t.ident, t.samples)

section
variable (t : TileSt)

theorem TileSt.applyFrame_sampled (p : Nat) (f : DFrame) : (t.applyFrame p f).sampled = t.sampled := by
  unfold TileSt.applyFrame
  dsimp only
  split_ifs <;> cases f.cell <;> rfl

theorem TileSt.enterPark_sampled : t.enterPark.sampled = t.sampled := by
  unfold TileSt.enterPark TileSt.parkNow
  dsimp only
  split_ifs <;> rfl

theorem TileSt.usePreps_sampled (took : Option Nat) : (t.usePreps took).sampled = t.sampled := by
  cases took <;> rfl

/-- R276, R279: two applicable frames at once are counted, and an event tells of the first of a run. -/
def TileSt.noteDual (t : TileSt) (p : Nat) : TileSt :=
  if (t.port 0).applicable && (t.port 1).applicable then
    let t := t.modPort p fun x => x.count 5
    if t.dual then t else t.queueEvent 6 0
  else t

theorem TileSt.noteDual_sampled (p : Nat) : (t.noteDual p).sampled = t.sampled := by
  unfold TileSt.noteDual
  dsimp only
  split_ifs <;> rfl

theorem TileSt.choose_sampled : t.choose.sampled = t.sampled := by
  unfold TileSt.choose
  cases t.chosenPort with
  | none => exact t.enterPark_sampled
  | some p =>
    show (match ((t.noteDual p).port p).frame with
      | some f => { (t.noteDual p).applyFrame p f with dual := (t.port 0).applicable && (t.port 1).applicable }
      | none => t.noteDual p).sampled = t.sampled
    cases ((t.noteDual p).port p).frame with
    | some f => exact (TileSt.applyFrame_sampled _ p f).trans (t.noteDual_sampled p)
    | none => exact t.noteDual_sampled p

/-- R223: a heater frame begins with the samples that are taken in it. -/
theorem TileSt.instant_sampled (taken : List (Nat × Bool)) : (t.instant taken).sampled = (t.ident, taken) :=
  (TileSt.usePreps_sampled _ _).trans (TileSt.choose_sampled _)

/-- R235: every frame that waited has been taken or dropped. -/
theorem TileSt.instant_ports (taken : List (Nat × Bool)) : ((t.instant taken).ports.all fun x => x.frame.isNone) = true := by
  unfold TileSt.instant
  simp

end

/-! ### Launches (R224, R228, R276) -/

/-- R263, R276: a port before a launch: its timer runs, and an event may go into the cell. -/
def TPort.prelaunch (x : TPort) : TPort := if x.train then x.ageChan else x.ageChan.sendEvents

theorem TPort.sendEvents_keeps (x : TPort) : x.sendEvents.lock = x.lock ∧ x.sendEvents.expect = x.expect := by
  unfold TPort.sendEvents
  split
  · split_ifs <;> exact ⟨rfl, rfl⟩
  · exact ⟨rfl, rfl⟩

theorem TPort.prelaunch_keeps (x : TPort) : x.prelaunch.lock = x.lock ∧ x.prelaunch.expect = x.expect := by
  unfold TPort.prelaunch
  split_ifs
  · exact ⟨rfl, rfl⟩
  · exact x.ageChan.sendEvents_keeps

/-- What an upstream frame says of the heater frame it reports. -/
def UFrame.report (u : UFrame) : Nat × List (Nat × Bool) × Bool := (u.fnum, u.samples, u.park)

section
variable {t : TileSt} {p : Nat}

/-- A tile whose temperatures are new and whose port `p` is about to send. -/
def TileSt.prelaunch (t : TileSt) (p tph ttl : Nat) : TileSt :=
  { t with tph := tph, ttl := ttl : TileSt }.modPort p TPort.prelaunch

theorem TileSt.prelaunch_port (tph ttl : Nat) (hlock : (t.port p).lock = true) :
    ((t.prelaunch p tph ttl).port p).lock = true ∧ ((t.prelaunch p tph ttl).port p).expect = (t.port p).expect := by
  have hport : (t.prelaunch p tph ttl).port p = (t.port p).prelaunch :=
    TileSt.port_modPort (t := { t with tph := tph, ttl := ttl }) _ (TPort.ne_init_of_lock hlock)
  obtain ⟨hlocked, hexpect⟩ := (t.port p).prelaunch_keeps
  rw [hport]
  exact ⟨hlocked.trans hlock, hexpect⟩

/-- R224, R228: a port that may send has its report of the heater frame on the line; `send` is what the launch does to it. -/
theorem TileSt.launch_of_ready (eye tph ttl : Nat) (hident : t.ident.isSome = true) (hlock : (t.port p).lock = true)
    (hnumber : (t.port p).expect.isSome = true) (hinbox : (t.port p).chan.inbox = []) :
    ∃ send : TPort → TPort, t.launch p eye tph ttl = (t.prelaunch p tph ttl).modPort p send ∧
      ∀ x, (send x).sent.map UFrame.report = some (t.fnum, t.samples, t.park) ∧ (send x).dbad = 0 := by
  obtain ⟨i, hi⟩ := Option.isSome_iff_exists.mp hident
  have hinbox' : (TileSt.port { t with tph := tph, ttl := ttl } p).chan.inbox = [] := hinbox
  obtain ⟨hlocked, hexpect⟩ := TileSt.prelaunch_port tph ttl hlock
  have hready : ((t.prelaunch p tph ttl).port p).lock = true ∧ ((t.prelaunch p tph ttl).port p).expect.isSome = true :=
    ⟨hlocked, hexpect ▸ hnumber⟩
  have hident' : (t.prelaunch p tph ttl).ident = some i := hi
  unfold TileSt.prelaunch TPort.prelaunch at hident' hready ⊢
  unfold TileSt.launch
  dsimp only
  rw [hinbox', List.length_nil, TileSt.serveAll, hident']
  dsimp only
  rw [if_pos hready]
  exact ⟨_, rfl, fun x => ⟨rfl, rfl⟩⟩

end

/-! ### Conditions (R274, R275) -/

/-- A bit written reads as it was written. -/
theorem testBit_setBits (v b : Nat) (x : Bool) : (setBits v b 1 (b2n x)).testBit b = x := by
  have hlow : v % 2 ^ b < 2 ^ b := Nat.mod_lt _ (Nat.two_pow_pos b)
  have hsplit : setBits v b 1 (b2n x) = 2 ^ b * (2 * (v / 2 ^ (b + 1)) + b2n x) + v % 2 ^ b := by
    have hbit : b2n x % 2 ^ 1 = b2n x := by cases x <;> rfl
    unfold setBits
    rw [hbit]
    ring
  have hnext : (2 * (v / 2 ^ (b + 1)) + b2n x) % 2 = b2n x := by cases x <;> simp [b2n, Nat.add_mod]
  rw [Nat.testBit_eq_decide_div_mod_eq, hsplit, Nat.mul_add_div (Nat.two_pow_pos b), Nat.div_eq_of_lt hlow,
    Nat.add_zero, hnext]
  cases x <;> rfl

section
variable (t : TileSt) (output : Nat)

/-- R274: an output enters or leaves COMPLY, and an event says so. -/
def TileSt.setComply (b : Bool) : TileSt :=
  { t with complyBits := setBits t.complyBits output 1 (b2n b) : TileSt }.queueEvent (if b then 3 else 4) output

/-- R274: an output enters or leaves OPEN, and an event says so. -/
def TileSt.setOpen (b : Bool) : TileSt :=
  { t with openBits := setBits t.openBits output 1 (b2n b) : TileSt }.queueEvent (if b then 1 else 2) output

theorem TileSt.setComply_bit (b : Bool) : (t.setComply output b).complyBits.testBit output = b := testBit_setBits _ _ b

theorem TileSt.setOpen_bit (b : Bool) : (t.setOpen output b).openBits.testBit output = b := testBit_setBits _ _ b

end

section
variable {t : TileSt} {i : TileId} {output : Nat}

theorem TileSt.condition_comply (entered : Bool) (hi : t.ident = some i) (hout : output < 2 * i.nslot) :
    t.condition output true entered =
      if t.complyBits.testBit output == entered || (entered && t.openBits.testBit output) then t
      else t.setComply output entered := by
  unfold TileSt.condition
  rw [hi]
  exact (if_neg (Nat.not_le.mpr hout)).trans (if_pos rfl)

theorem TileSt.condition_open (entered : Bool) (hi : t.ident = some i) (hout : output < 2 * i.nslot) :
    t.condition output false entered =
      if t.openBits.testBit output == entered then t
      else (if entered && t.complyBits.testBit output then t.setComply output false else t).setOpen output entered := by
  unfold TileSt.condition
  rw [hi]
  exact (if_neg (Nat.not_le.mpr hout)).trans (if_neg Bool.false_ne_true)

/-- R274: an output in OPEN does not enter COMPLY. -/
theorem TileSt.condition_comply_bits (entered : Bool) (hi : t.ident = some i) (hout : output < 2 * i.nslot) :
    (t.condition output true entered).openBits = t.openBits ∧
    (entered = true → (t.condition output true entered).complyBits.testBit output =
      (!t.openBits.testBit output || t.complyBits.testBit output)) ∧
    (entered = false → (t.condition output true entered).complyBits.testBit output = false) := by
  rw [TileSt.condition_comply entered hi hout]
  cases entered with
  | false =>
    cases hin : t.complyBits.testBit output with
    | false => exact ⟨rfl, nofun, fun _ => hin⟩
    | true => exact ⟨rfl, nofun, fun _ => t.setComply_bit output false⟩
  | true =>
    cases hin : t.complyBits.testBit output with
    | true => exact ⟨rfl, fun _ => hin.trans (Bool.or_true _).symm, nofun⟩
    | false =>
      cases t.openBits.testBit output with
      | true => exact ⟨rfl, fun _ => hin, nofun⟩
      | false => exact ⟨rfl, fun _ => t.setComply_bit output true, nofun⟩

/-- R274: an output that enters OPEN leaves COMPLY, with an event of its own. -/
theorem TileSt.condition_open_bits (entered : Bool) (hi : t.ident = some i) (hout : output < 2 * i.nslot) :
    (t.condition output false entered).openBits.testBit output = entered ∧
    (t.openBits.testBit output = false → entered = true →
      (t.condition output false entered).complyBits.testBit output = false ∧
      (t.condition output false entered).evCount =
        t.evCount + if t.complyBits.testBit output = true then 2 else 1) := by
  rw [TileSt.condition_open entered hi hout]
  cases hopen : t.openBits.testBit output with
  | true =>
    cases entered with
    | true => exact ⟨hopen, nofun⟩
    | false => exact ⟨t.setOpen_bit output false, nofun⟩
  | false =>
    cases entered with
    | false => exact ⟨hopen, nofun⟩
    | true =>
      cases hin : t.complyBits.testBit output with
      | true => exact ⟨TileSt.setOpen_bit _ output true, fun _ _ => ⟨t.setComply_bit output false, rfl⟩⟩
      | false => exact ⟨t.setOpen_bit output true, fun _ _ => ⟨hin, rfl⟩⟩

end

/-! ### Events (R276) -/

/-- R276: a port that is locked and configured queues an event, or marks that one was lost. -/
def TPort.putEvent (x : TPort) (e : TEvent) : TPort :=
  if x.lock && !x.fresh then
    if x.events.length < 32 then { x with events := x.events ++ [e] } else { x with evLost := true }
  else x

theorem TPort.putEvent_of_room {x : TPort} (e : TEvent) (hlock : x.lock = true) (hfresh : x.fresh = false)
    (hroom : x.events.length < 32) : x.putEvent e = { x with events := x.events ++ [e] } := by
  unfold TPort.putEvent
  rw [hlock, hfresh]
  exact if_pos hroom

theorem TileSt.queueEvent_port {t : TileSt} {p : Nat} (code output : Nat) (hx : t.port p ≠ TPort.init) :
    (t.queueEvent code output).port p = (t.port p).putEvent ⟨t.evCount % 256, code, output, t.fnum, false⟩ := by
  have hp := TileSt.port_lt hx
  unfold TileSt.queueEvent TileSt.port
  dsimp only
  rw [List.getD_eq_getElem _ _ hp, List.getD_eq_getElem _ _ (by simpa using hp), List.getElem_map]
  rfl

/-! ### The family -/

/-- Settles O31: a port that is locked, or has found frames, is one that its tile has, so what is done to it shows there. A
place is `TPort.place_of_accepted` or `TPort.place_of_missing`; an instant, a launch and a condition leave what
`TileSt.instant_sampled`, `TileSt.launch_of_ready`, `TileSt.condition_comply_bits` and `TileSt.condition_open_bits` say. -/
theorem tileFramesAndState : Obligations.TileFramesAndState := by
  refine ⟨fun q p g e s hport hlock he hok hnumber hcell => ⟨tileFrame q.val p.val (some g) e.val s, rfl, ?accepted⟩,
    fun q p e s hport hlock => ⟨tileFrame q.val p.val none e.val s, rfl, ?missing⟩,
    fun q taken s hident => ⟨s.modTile q.val fun t => if t.ident.isSome then t.instant taken else t, rfl, ?instant⟩,
    fun q p eye tph ttl s hident hlock hnumber hinbox =>
      ⟨s.modTile q.val fun t => t.launch p.val eye.val tph.toNat ttl.toNat, rfl, ?launch⟩,
    fun q s hheld hpark => ?park,
    fun q p s hport hlock hfound => ⟨tileLock q.val p.val true (s.tile q.val).ident s, rfl, ?locks⟩,
    fun q p s hport hlock hbad => ⟨tileLock q.val p.val false (s.tile q.val).ident s, rfl, ?loses⟩,
    fun q s hident => ⟨s.modTile q.val TileSt.controlReset, rfl, ?reset⟩,
    fun q output comply entered s i hi hout =>
      ⟨s.modTile q.val fun t => t.condition output.val comply entered, rfl, ?condition⟩,
    fun q p s hlock hfresh hroom => ⟨s.modTile q.val fun t => t.queueEvent 5 0, rfl, ?overtemp⟩⟩
  case accepted =>
    have hx := TPort.ne_init_of_lock hlock
    rw [tileFrame_tile e.val hport hx (by rw [Option.bind_some, hcell]; rfl), TileSt.port_modPort _ hx,
      TPort.place_of_accepted hlock he hok hnumber hcell]
    exact ⟨rfl, rfl, rfl, rfl, rfl, rfl⟩
  case missing =>
    have hx := TPort.ne_init_of_lock hlock
    rw [tileFrame_tile e.val hport hx rfl, TileSt.port_modPort _ hx, TPort.place_of_missing hlock]
    exact ⟨rfl, rfl, rfl, rfl⟩
  case instant =>
    rw [State.tile_modTile _ (State.tile_ne_init_of_ident hident), if_pos hident]
    obtain ⟨hkept, htaken⟩ := Prod.mk.inj ((s.tile q.val).instant_sampled taken)
    exact ⟨htaken, TileSt.instant_ports _ taken, hkept⟩
  case launch =>
    obtain ⟨hlocked, -⟩ := TileSt.prelaunch_port tph.toNat ttl.toNat hlock
    obtain ⟨send, hlaunch, hsent⟩ := TileSt.launch_of_ready eye.val tph.toNat ttl.toNat hident hlock hnumber hinbox
    obtain ⟨hreport, hdbad⟩ := hsent (((s.tile q.val).prelaunch p.val tph.toNat ttl.toNat).port p.val)
    rw [State.tile_modTile _ (State.tile_ne_init_of_ident hident), hlaunch,
      TileSt.port_modPort _ (TPort.ne_init_of_lock hlocked)]
    exact ⟨rfl, rfl, hreport, hdbad, rfl⟩
  case park =>
    have hout : (s.tile q.val).heldOut = true := decide_eq_true hheld
    have hparks : (s.tile q.val).parkNow = { s.tile q.val with parkDue := true } := if_pos ⟨hout, hpark⟩
    exact congrArg (fun t => Host.Outcome.next { s with tiles := setAt s.tiles q.val t }) hparks
  case locks =>
    have hx := TPort.ne_init_of_found hfound
    rw [tileLock_tile true hport hx, TileSt.port_modPort _ hx, if_pos rfl, TPort.acquire, if_pos ⟨hlock, hfound⟩]
    exact ⟨rfl, rfl, rfl, rfl, rfl⟩
  case loses =>
    have hx := TPort.ne_init_of_lock hlock
    rw [tileLock_tile false hport hx, TileSt.port_modPort _ hx, if_neg Bool.false_ne_true, TPort.lose,
      if_pos ⟨hlock, hbad⟩]
    exact ⟨rfl, rfl, rfl, rfl, rfl⟩
  case reset =>
    rw [State.tile_modTile _ (State.tile_ne_init_of_ident hident)]
    exact ⟨rfl, rfl, rfl, rfl, rfl, rfl⟩
  case condition =>
    rw [State.tile_modTile _ (State.tile_ne_init_of_ident (by rw [hi]; rfl))]
    cases comply with
    | true => exact TileSt.condition_comply_bits entered hi hout
    | false => exact TileSt.condition_open_bits entered hi hout
  case overtemp =>
    have hx := TPort.ne_init_of_lock hlock
    rw [State.tile_modTile _ (State.tile_ne_init_of_port hx), TileSt.queueEvent_port _ _ hx]
    exact ⟨congrArg TPort.events (TPort.putEvent_of_room _ hlock hfresh hroom), rfl, rfl⟩

end Sys2Proof.Machine
end

section
/-! PROOF. Requests delivered to a tile (R267 to R269, R272): what the port that a request came by answers and keeps. -/
namespace Sys2Proof.Machine

/-! ### A request taken from the channel -/

/-- A message delivered has been taken from a port; the ones that came after it are left. -/
def TPort.unqueue (x : TPort) (r : List TMsg) : TPort := { x with chan := { x.chan with inbox := r } }

/-- A message delivered has been taken from port `p`. -/
def TileSt.unqueue (t : TileSt) (p : Nat) (r : List TMsg) : TileSt := t.modPort p fun x => x.unqueue r

section
variable {t : TileSt} {p : Nat}

theorem TileSt.port_modPort_of_lt (g : TPort → TPort) (hp : p < t.ports.length) : (t.modPort p g).port p = g (t.port p) :=
  (getD_setAt t.ports p p _ _).trans (if_pos ⟨rfl, hp⟩)

/-- What a change of a port leaves of the port is the same on every port after it. -/
theorem TileSt.port_modPort_keeps {β : Type} (part : TPort → β) {g : TPort → TPort} (hg : ∀ x, part (g x) = part x)
    (k : Nat) : part ((t.modPort p g).port k) = part (t.port k) := by
  have hport : (t.modPort p g).port k = if k = p ∧ p < t.ports.length then g (t.port p) else t.port k :=
    getD_setAt t.ports p k (g (t.port p)) TPort.init
  rw [hport]
  split_ifs with hk
  · exact hk.1 ▸ hg _
  · rfl

theorem TPort.ne_init_of_inbox {x : TPort} {m : TMsg} {r : List TMsg} (hin : x.chan.inbox = m :: r) : x ≠ TPort.init :=
  fun hinit => List.cons_ne_nil m r (hin.symm.trans (congrArg (·.chan.inbox) hinit))

variable (r : List TMsg)

theorem TileSt.lt_unqueue (hp : p < t.ports.length) : p < (t.unqueue p r).ports.length :=
  hp.trans_eq (setAt_length _ _ _).symm

theorem TileSt.unqueue_port (hp : p < t.ports.length) : (t.unqueue p r).port p = (t.port p).unqueue r :=
  TileSt.port_modPort_of_lt _ hp

theorem TileSt.unqueue_hasReg : (t.unqueue p r).hasReg = t.hasReg := rfl

/-- What does not speak of the messages that wait to be executed is the same without the first of them. -/
theorem TileSt.unqueue_keeps {β : Type} (part : TPort → β) (hpart : ∀ x, part (x.unqueue r) = part x) (k : Nat) :
    part ((t.unqueue p r).port k) = part (t.port k) :=
  TileSt.port_modPort_keeps part hpart k

theorem TileSt.unqueue_delivery : (t.unqueue p r).delivery p = t.delivery p := by
  unfold TileSt.delivery
  rw [TileSt.unqueue_keeps r TPort.expect fun _ => rfl]
  rfl

theorem TileSt.unqueue_ahead (f : Nat) : (t.unqueue p r).ahead p f = t.ahead p f := by
  unfold TileSt.ahead
  rw [TileSt.unqueue_delivery]

theorem TileSt.unqueue_stat : (t.unqueue p r).stat = t.stat := by
  unfold TileSt.stat
  rw [TileSt.unqueue_keeps r TPort.lock fun _ => rfl, TileSt.unqueue_keeps r TPort.lock fun _ => rfl]
  rfl

/-- No register shows the messages that wait to be executed. -/
theorem TileSt.unqueue_readReg : (t.unqueue p r).readReg p = t.readReg p := by
  funext a
  unfold TileSt.readReg
  dsimp only
  rw [TileSt.unqueue_stat, TileSt.unqueue_keeps r TPort.ulslot fun _ => rfl,
    TileSt.unqueue_keeps r TPort.holdwin fun _ => rfl, TileSt.unqueue_keeps r TPort.rto fun _ => rfl,
    TileSt.unqueue_keeps r TPort.counts fun _ => rfl, TileSt.unqueue_keeps r TPort.words fun _ => rfl]
  rfl

end

/-- R267: the first request delivered at a port is executed. -/
theorem State.tile_serve {s : State} {q p : Nat} {m : TMsg} {r : List TMsg} {kind : TMsg → Bool}
    (hin : ((s.tile q).port p).chan.inbox = m :: r) (hkind : kind m = true) :
    (s.modTile q fun t => t.serve p kind).tile q = ((s.tile q).unqueue p r).request p m := by
  rw [State.tile_modTile _ (State.tile_ne_init_of_port (TPort.ne_init_of_inbox hin))]
  unfold TileSt.serve
  rw [hin]
  exact if_pos hkind

/-! ### Reads and writes (R267, R269, R270) -/

section
variable {t : TileSt} {p : Nat}

theorem TileSt.doRd_port (tag a n : Nat) (hp : p < t.ports.length) : (t.doRd p tag a n).port p = (t.port p).say
    (if n = 0 ∨ 5 < n then .errRsp tag 6
     else if ((List.range n).map (a + ·)).all t.hasReg = true then
       .rdRsp tag 0 (((List.range n).map (a + ·)).map (t.readReg p))
     else .rdRsp tag 1 []) := by
  unfold TileSt.doRd
  dsimp only
  rw [TileSt.port_modPort_of_lt _ hp]
  split_ifs <;> rfl

/-- R267, R269: the answer to a WR that is not executed. -/
def TileSt.wrRefusal (t : TileSt) (tag a : Nat) (ws : List Nat) : Option TMsg :=
  if ws.length = 0 ∨ 4 < ws.length then some (.errRsp tag 6)
  else if ((List.range ws.length).map (a + ·)).all t.hasReg = false then some (.wrRsp tag 1)
  else if ((List.range ws.length).map (a + ·)).any tileRegRo = true then some (.wrRsp tag 2)
  else none

/-- R267: the words of a WR written in order. -/
def TileSt.writeRegs (t : TileSt) (p a : Nat) (ws : List Nat) : TileSt :=
  ws.zipIdx.foldl (fun t w => t.writeReg p (a + w.2) w.1) t

variable {tag a : Nat} {ws : List Nat}

theorem TileSt.doWr_of_refused {m : TMsg} (h : t.wrRefusal tag a ws = some m) :
    t.doWr p tag a ws = t.modPort p fun x => x.say m := by
  unfold TileSt.wrRefusal at h
  unfold TileSt.doWr
  dsimp only
  simp only [Bool.not_eq_true']
  split_ifs at h ⊢ <;> cases h <;> rfl

theorem TileSt.doWr_of_accepted (h : t.wrRefusal tag a ws = none) :
    t.doWr p tag a ws = (t.writeRegs p a ws).modPort p fun x => x.say (.wrRsp tag 0) := by
  unfold TileSt.wrRefusal at h
  unfold TileSt.doWr
  dsimp only
  simp only [Bool.not_eq_true']
  split_ifs at h ⊢
  rfl

theorem TileSt.wrRefusal_getD : (t.wrRefusal tag a ws).getD (.wrRsp tag 0) =
    if ws.length = 0 ∨ 4 < ws.length then .errRsp tag 6
    else if ((List.range ws.length).map (a + ·)).all t.hasReg = false then .wrRsp tag 1
    else if ((List.range ws.length).map (a + ·)).any tileRegRo = true then .wrRsp tag 2 else .wrRsp tag 0 := by
  unfold TileSt.wrRefusal
  split_ifs <;> rfl

theorem TileSt.wrRefusal_isSome (h : ws.length = 0 ∨ 4 < ws.length ∨
      ((List.range ws.length).map (a + ·)).all t.hasReg = false ∨
      ((List.range ws.length).map (a + ·)).any tileRegRo = true) :
    ∃ m, t.wrRefusal tag a ws = some m := by
  unfold TileSt.wrRefusal
  split_ifs with hlen hreg hro
  · exact ⟨_, rfl⟩
  · exact ⟨_, rfl⟩
  · exact ⟨_, rfl⟩
  · rcases h with h | h | h | h
    · exact absurd (.inl h) hlen
    · exact absurd (.inr h) hlen
    · exact absurd h hreg
    · exact absurd h hro

/-- R270: a write of CFG alone is never refused. -/
theorem TileSt.wrRefusal_cfg (v : Nat) : t.wrRefusal tag 0x10 [v] = none := by
  simp [TileSt.wrRefusal, TileSt.hasReg, tileRegRo]

theorem TileSt.writeReg_chan (a v : Nat) : ((t.writeReg p a v).port p).chan = (t.port p).chan := by
  unfold TileSt.writeReg
  refine TileSt.port_modPort_keeps TPort.chan (fun x => ?_) p
  split_ifs <;> rfl

/-- The words of a WR leave the channel of their port, and every port in its place. -/
theorem TileSt.writeRegs_keeps : (t.writeRegs p a ws).ports.length = t.ports.length ∧
    ((t.writeRegs p a ws).port p).chan = (t.port p).chan :=
  List.foldlRecOn (motive := fun u : TileSt => u.ports.length = t.ports.length ∧ (u.port p).chan = (t.port p).chan)
    ws.zipIdx _ ⟨rfl, rfl⟩ fun _ ⟨hlen, hchan⟩ _ _ => ⟨(setAt_length _ _ _).trans hlen, (TileSt.writeReg_chan _ _).trans hchan⟩

theorem TileSt.doWr_answer (hp : p < t.ports.length) : ((t.doWr p tag a ws).port p).chan =
    (t.port p).chan.post ((t.wrRefusal tag a ws).getD (.wrRsp tag 0)) := by
  cases h : t.wrRefusal tag a ws with
  | some m =>
    rw [TileSt.doWr_of_refused h, TileSt.port_modPort_of_lt _ hp]
    rfl
  | none =>
    obtain ⟨hlen, hchan⟩ := TileSt.writeRegs_keeps (t := t) (p := p) (a := a) (ws := ws)
    rw [TileSt.doWr_of_accepted h, TileSt.port_modPort_of_lt _ (hlen ▸ hp)]
    exact congrArg (·.post (.wrRsp tag 0)) hchan

theorem TileSt.doWr_refused_keeps {m : TMsg} (h : t.wrRefusal tag a ws = some m) :
    ((t.doWr p tag a ws).port p).words = (t.port p).words ∧ ((t.doWr p tag a ws).port p).ulslot = (t.port p).ulslot := by
  rw [TileSt.doWr_of_refused h]
  have hsaid : ∀ {β : Type} (part : TPort → β), (∀ x, part (x.say m) = part x) →
      part ((t.modPort p fun x => x.say m).port p) = part (t.port p) := fun part hpart => TileSt.port_modPort_keeps part hpart p
  exact ⟨hsaid TPort.words fun _ => rfl, hsaid TPort.ulslot fun _ => rfl⟩

/-- R272: CFG belongs to no bank, so nothing freezes it. -/
theorem TPort.frozen_cfg (x : TPort) (n : Nat) : x.frozen n 0x10 = false := by
  unfold TPort.frozen
  cases Prep.left n x.prepTs <;> rfl

theorem TileSt.writeReg_cfg (v : Nat) (hp : p < t.ports.length) : (t.writeReg p 0x10 v).port p =
    { t.port p with ulslot := v % 32, holdwin := bitsAt v 8 8, rto := bitsAt v 16 4, fresh := false } := by
  unfold TileSt.writeReg
  rw [TileSt.port_modPort_of_lt _ hp, TPort.frozen_cfg]
  rfl

/-- R266, R270: a write of CFG is executed, and FRESH clears. -/
theorem TileSt.doWr_cfg (v : Nat) (hp : p < t.ports.length) : (t.doWr p tag 0x10 [v]).port p =
    { t.port p with ulslot := v % 32, holdwin := bitsAt v 8 8, rto := bitsAt v 16 4, fresh := false : TPort }.say
      (.wrRsp tag 0) := by
  have hone : t.writeRegs p 0x10 [v] = t.writeReg p 0x10 v := rfl
  have hlen : (t.writeReg p 0x10 v).ports.length = t.ports.length := setAt_length _ _ _
  rw [TileSt.doWr_of_accepted (TileSt.wrRefusal_cfg v), hone, TileSt.port_modPort_of_lt _ (hlen ▸ hp),
    TileSt.writeReg_cfg v hp]

end

/-! ### Announcements and their release (R269, R272) -/

/-- R272: the preparation of a kind at a port: 1 a range, else a bank. -/
def TPort.prep (x : TPort) (k : Nat) : Option Prep := if k = 1 then x.prepRng else x.prepTs

/-- R272: the preparation of a kind replaced. -/
def TPort.setPrep (x : TPort) (k : Nat) (o : Option Prep) : TPort :=
  if k = 1 then { x with prepRng := o } else { x with prepTs := o }

/-- R269, R272: an announcement of a value that exists, at its port. -/
def TileSt.prepare (t : TileSt) (p tag k f v : Nat) (x : TPort) : TPort :=
  if t.ahead p f = true ∧ Prep.left (t.delivery p) (x.prep k) = none then (x.setPrep k (some ⟨f, v⟩)).say (.annAck tag 0 k f)
  else x.say (.annAck tag (if t.ahead p f = true then 4 else 3) k f)

theorem TPort.prep_setPrep (x : TPort) (k : Nat) (o : Option Prep) : (x.setPrep k o).prep k = o := by
  unfold TPort.setPrep TPort.prep
  split_ifs <;> rfl

theorem TPort.setPrep_say_waiting (x : TPort) (k : Nat) (o : Option Prep) (m : TMsg) :
    ((x.setPrep k o).say m).chan.waiting = x.chan.waiting ++ [m] := by
  unfold TPort.setPrep
  split_ifs <;> rfl

section
variable {t : TileSt} {p k : Nat}

theorem TileSt.doAnnounce_eq_prepare (tag f : Nat) {v : Nat} (hvalue : k = 1 ∧ v ≤ 3 ∨ k = 2 ∧ v ≤ 1) :
    t.doAnnounce p tag k f v = t.modPort p (t.prepare p tag k f v) := by
  have hkind : ¬(k ≠ 1 ∧ k ≠ 2) := by omega
  have hexists : ¬(k = 1 ∧ 3 < v ∨ k = 2 ∧ 1 < v) := by omega
  refine congrArg (t.modPort p) (funext fun x => (if_neg hkind).trans ((if_neg hexists).trans ?_))
  show (if t.ahead p f = false then x.say (.annAck tag 3 k f)
    else if (Prep.left (t.delivery p) (x.prep k)).isSome = true then x.say (.annAck tag 4 k f)
    else (x.setPrep k (some ⟨f, v⟩)).say (.annAck tag 0 k f)) = _
  unfold TileSt.prepare
  cases t.ahead p f with
  | false => rfl
  | true => cases Prep.left (t.delivery p) (x.prep k) <;> rfl

theorem TileSt.unqueue_prepare (r : List TMsg) (tag f v : Nat) :
    (t.unqueue p r).prepare p tag k f v = t.prepare p tag k f v := by
  funext x
  unfold TileSt.prepare
  rw [TileSt.unqueue_ahead, TileSt.unqueue_delivery]

theorem TileSt.prepare_of_free {f : Nat} {x : TPort} (tag v : Nat)
    (hfree : t.ahead p f = true ∧ Prep.left (t.delivery p) (x.prep k) = none) :
    (t.prepare p tag k f v x).prep k = some ⟨f, v⟩ ∧
    (t.prepare p tag k f v x).chan.waiting = x.chan.waiting ++ [.annAck tag 0 k f] := by
  unfold TileSt.prepare
  rw [if_pos hfree]
  exact ⟨x.prep_setPrep k _, x.setPrep_say_waiting k _ _⟩

theorem TileSt.prepare_of_refused {f : Nat} {x : TPort} (tag v : Nat)
    (hrefused : ¬(t.ahead p f = true ∧ Prep.left (t.delivery p) (x.prep k) = none)) :
    t.prepare p tag k f v x = x.say (.annAck tag (if t.ahead p f = true then 4 else 3) k f) :=
  if_neg hrefused

theorem TileSt.doCancel_eq_setPrep (tag f : Nat) (hkind : k = 1 ∨ k = 2) :
    t.doCancel p tag k f = t.modPort p fun x => (x.setPrep k none).say (.canAck tag 0 k f) := by
  have hknown : ¬(k ≠ 1 ∧ k ≠ 2) := by omega
  exact congrArg (t.modPort p) (funext fun x => if_neg hknown)

end

end Sys2Proof.Machine
end

section
/-! PROOF. Messages delivered at the device (R268): answers to firmware's requests (R284) and to announcements (R272), and
events (R277). -/
namespace Sys2Proof.Machine

/-! ### A message taken from the channel of a lane -/

section
variable {s : State} {q : Nat}

/-- A lane that is not the one every missing lane shows is one of the state's. -/
theorem State.lane_modLane (g : Lane → Lane) (h : s.lane q ≠ Lane.init) : (s.modLane q g).lane q = g (s.lane q) := by
  have hq : q < s.lanes.length := by
    by_contra hq
    exact h (List.getD_eq_default _ _ (Nat.le_of_not_lt hq))
  exact (getD_setAt s.lanes q q _ _).trans (if_pos ⟨rfl, hq⟩)

theorem State.lane_eq_of_lanes {t : State} (h : t.lanes = s.lanes) : t.lane q = s.lane q :=
  congrArg (·.getD q Lane.init) h

/-- A quay that is not the one every missing quay shows is one of the state's. -/
theorem State.quay_modQuay (g : Quay → Quay) (h : s.quay q ≠ Quay.init) : (s.modQuay q g).quay q = g (s.quay q) := by
  have hq : q < s.quays.length := by
    by_contra hq
    exact h (List.getD_eq_default _ _ (Nat.le_of_not_lt hq))
  exact (getD_setAt s.quays q q _ _).trans (if_pos ⟨rfl, hq⟩)

/-- A message delivered has been taken from a lane; the ones that came after it are left. -/
def State.unqueue (s : State) (q : Nat) (r : List TMsg) : State := s.modChan q fun c => { c with inbox := r }

variable {m : TMsg} {r : List TMsg}

theorem Lane.ne_init_of_inbox {x : Lane} (hin : x.chan.inbox = m :: r) : x ≠ Lane.init :=
  fun hinit => List.cons_ne_nil m r (hin.symm.trans (congrArg (·.chan.inbox) hinit))

theorem actOn_of_delivered {kind : TMsg → Bool} (hin : (s.lane q).chan.inbox = m :: r) (hkind : kind m = true) :
    actOn q kind s = deviceMsg q m (s.unqueue q r) := by
  unfold actOn
  rw [hin]
  exact if_pos hkind

theorem State.unqueue_lane (hin : (s.lane q).chan.inbox = m :: r) :
    (s.unqueue q r).lane q = { s.lane q with chan := { (s.lane q).chan with inbox := r } } :=
  State.lane_modLane _ (Lane.ne_init_of_inbox hin)

theorem State.unqueue_reqTag (r : List TMsg) : (s.unqueue q r).reqTag q = s.reqTag q :=
  congrArg (Option.map TileReq.tag) (State.lane_modLane_keeps q s Lane.req
    (g := fun x => { x with chan := { x.chan with inbox := r } }) fun _ => rfl)

end

/-! ### A firmware request ends (R284) -/

section
variable {s : State} {q : Nat}

/-- R284: a lane whose request has ended. -/
def Lane.answered (x : Lane) : Lane := { x with req := none }

theorem reqDone_shows (q st : Nat) (s : State) : (reqDone q st s).fgi F.QY_TRSP_BUSY q = 0 ∧
    (reqDone q st s).fgi F.QY_TRSP_DONE q = 1 ∧ (reqDone q st s).fgi F.QY_TRSP_STATUS q = st % 2 ^ 4 := by
  unfold reqDone
  simp (disch := decide) only [State.modLane_fgi, State.fgi_fsi, State.fgi_fsi_ne]
  exact ⟨rfl, rfl, rfl⟩

/-- What the end of a request may change. -/
def Extent.request : Extent := ⟨[.lanes], false, [F.QY_TRSP_BUSY, F.QY_TRSP_DONE, F.QY_TRSP_STATUS]⟩

theorem reqDone_fgi (st : Nat) (f : Fld) (i : Nat) (hf : Extent.request.r f = false) :
    (reqDone q st s).fgi f i = s.fgi f i :=
  State.fgi_of_seen .request _ _ f i (reqDone_seen _ q st s (by decide)) hf

theorem reqDone_req (q st : Nat) (s : State) : ((reqDone q st s).lane q).req = none := by
  have hreq : ((reqDone q st s).lane q).req =
      if q = q ∧ q < s.lanes.length then none else (s.lane q).req :=
    (congrArg Lane.req (getD_setAt s.lanes q q (s.lane q).answered Lane.init)).trans (apply_ite _ _ _ _)
  rw [hreq]
  split_ifs with hq
  · rfl
  · exact congrArg Lane.req (List.getD_eq_default _ _ (Nat.le_of_not_lt fun hlt => hq ⟨rfl, hlt⟩))

theorem reqDone_chan (q st : Nat) (s : State) : ((reqDone q st s).lane q).chan = (s.lane q).chan :=
  State.lane_modLane_keeps q (((s.fsi F.QY_TRSP_BUSY q 0).fsi F.QY_TRSP_DONE q 1).fsi F.QY_TRSP_STATUS q st) Lane.chan
    fun _ => rfl

/-- R284: the word that a read brings. -/
def readData (q st : Nat) (ws : List Nat) (s : State) : State := if st = 0 then s.fsi F.QY_TDATA_DATA q (ws.getD 0 0) else s

theorem readData_data (st : Nat) (ws : List Nat) : (readData q st ws s).fgi F.QY_TDATA_DATA q =
    if st = 0 then ws.getD 0 0 % 2 ^ 32 else s.fgi F.QY_TDATA_DATA q := by
  unfold readData
  split_ifs
  · exact State.fgi_fsi _ _ _ _
  · rfl

theorem readData_lanes (st : Nat) (ws : List Nat) : (readData q st ws s).lanes = s.lanes := by
  unfold readData
  split_ifs <;> rfl

variable {tag : Nat} {r : List TMsg}

theorem rdRsp_of_asked (st : Nat) (ws : List Nat) (hreq : s.reqTag q = some tag) :
    rdRsp q tag st ws s = reqDone q st (readData q st ws s) :=
  if_pos hreq

theorem wrRsp_of_asked (st : Nat) (hreq : s.reqTag q = some tag) : wrRsp q tag st s = reqDone q st s := if_pos hreq

theorem errRsp_of_asked (st : Nat) (hreq : s.reqTag q = some tag) : errRsp q tag st s = reqDone q st s := if_pos hreq

/-- R268, R284: the request that a message answers ends, and the message has left the channel. -/
theorem reqDone_unqueue {m : TMsg} (st : Nat) (hin : (s.lane q).chan.inbox = m :: r) :
    ((reqDone q st (s.unqueue q r)).lane q).chan.inbox = r ∧ ((reqDone q st (s.unqueue q r)).lane q).req = none := by
  rw [reqDone_chan, State.unqueue_lane hin]
  exact ⟨rfl, reqDone_req _ _ _⟩

end

/-! ### A change acknowledged or refused (R272) -/

section
variable {s : State} {q : Nat} {c : Change}

theorem Quay.ne_init_of_rng {x : Quay} (h : x.rng = some c) : x ≠ Quay.init :=
  fun hinit => Option.some_ne_none c (h.symm.trans (congrArg Quay.rng hinit))

theorem Quay.ne_init_of_ts {x : Quay} (h : x.ts = some c) : x ≠ Quay.init :=
  fun hinit => Option.some_ne_none c (h.symm.trans (congrArg Quay.ts hinit))

/-- R86, R272: a range change that the tile has refused. -/
theorem rngDrop_refused (hc : (s.quay q).rng = some c) : ((rngDrop q (s.fsi F.QY_RNGSTAT_NOACK q 1)).quay q).rng = none ∧
    (rngDrop q (s.fsi F.QY_RNGSTAT_NOACK q 1)).fgi F.QY_RNGSTAT_NOACK q = 1 := by
  have hpending : ((s.fsi F.QY_RNGSTAT_NOACK q 1).quay q).rng = some c := hc
  obtain ⟨-, -, hquays, -⟩ := rngDrop_withdraws hpending
  refine ⟨?_, (rngDrop_noack _ _).trans (State.fgi_fsi _ _ _ _)⟩
  unfold State.quay
  rw [hquays]
  exact congrArg Quay.rng (State.quay_modQuay (fun x => { x with rng := none }) (Quay.ne_init_of_rng hc))

/-- R86, R113, R272: a timing-set change that the tile has refused. -/
theorem tsDrop_refused (hc : (s.quay q).ts = some c) : ((tsDrop q (s.fsi F.QY_TSSTAT_NOACK q 1)).quay q).ts = none ∧
    (tsDrop q (s.fsi F.QY_TSSTAT_NOACK q 1)).fgi F.QY_TSSTAT_NOACK q = 1 := by
  have hpending : ((s.fsi F.QY_TSSTAT_NOACK q 1).quay q).ts = some c := hc
  obtain ⟨-, -, hquays, -⟩ := tsDrop_withdraws hpending
  refine ⟨?_, (tsDrop_noack _ _).trans (State.fgi_fsi _ _ _ _)⟩
  unfold State.quay
  rw [hquays]
  exact congrArg Quay.ts (State.quay_modQuay (fun x => { x with ts := none }) (Quay.ne_init_of_ts hc))

theorem annAck_rng (st : Nat) (hc : (s.quay q).rng = some c) (hack : c.acked = false) :
    if st = 0 then ((annAck q st 1 (c.frame % 2 ^ 24) s).quay q).rng = some { c with acked := true }
    else ((annAck q st 1 (c.frame % 2 ^ 24) s).quay q).rng = none ∧
      (annAck q st 1 (c.frame % 2 ^ 24) s).fgi F.QY_RNGSTAT_NOACK q = 1 := by
  have hjudged : annAck q st 1 (c.frame % 2 ^ 24) s =
      if st = 0 then s.modQuay q fun x => { x with rng := some { c with acked := true } }
      else rngDrop q (s.fsi F.QY_RNGSTAT_NOACK q 1) := by
    unfold annAck
    rw [if_pos rfl, hc]
    exact if_pos ⟨rfl, hack⟩
  rw [hjudged]
  split_ifs
  · exact congrArg Quay.rng (State.quay_modQuay _ (Quay.ne_init_of_rng hc))
  · exact rngDrop_refused hc

theorem annAck_ts (st : Nat) {k : Nat} (hk : k ≠ 1) (hc : (s.quay q).ts = some c) (hack : c.acked = false) :
    if st = 0 then ((annAck q st k (c.frame % 2 ^ 24) s).quay q).ts = some { c with acked := true }
    else ((annAck q st k (c.frame % 2 ^ 24) s).quay q).ts = none ∧
      (annAck q st k (c.frame % 2 ^ 24) s).fgi F.QY_TSSTAT_NOACK q = 1 := by
  have hjudged : annAck q st k (c.frame % 2 ^ 24) s =
      if st = 0 then s.modQuay q fun x => { x with ts := some { c with acked := true } }
      else tsDrop q (s.fsi F.QY_TSSTAT_NOACK q 1) := by
    unfold annAck
    rw [if_neg hk, hc]
    exact if_pos ⟨rfl, hack⟩
  rw [hjudged]
  split_ifs
  · exact congrArg Quay.ts (State.quay_modQuay _ (Quay.ne_init_of_ts hc))
  · exact tsDrop_refused hc

end

/-! ### Events (R277) -/

/-- R449: an event on one source leaves another in a different word of PEND as it was. -/
theorem State.pend_raise_of_ne (s : State) {src other : Nat} (hsrc : src < 524288) (hother : other < 524288)
    (hword : other / 32 ≠ src / 32) : (s.raise src).pend other = s.pend other := by
  have hwake : ∀ t : State, (t.noteWake src).fgi F.ICU_PENDw_SRC (other / 32) = t.fgi F.ICU_PENDw_SRC (other / 32) :=
    fun t => State.fgi_of_seen ⟨[.seqs], false, []⟩ _ _ _ _ (State.noteWake_seen _ t src (by decide)) (by decide)
  refine congrArg (fun v : Nat => v.testBit (other % 32)) ?_
  unfold State.raise
  rw [hwake]
  split
  · exact (State.fgi_fsi_ne _ _ _ _ _ _ (by decide)).trans (State.fgi_fsi_ne _ _ _ _ _ _ (by decide))
  · exact State.fgi_fsi_inst _ _ _ _ _ hword (by omega) (by omega)

/-- R277: an event counted and shown in TEVLAST. -/
def noteEvent (q code output fnum : Nat) (s : State) : State :=
  (((s.bumpi F.QY_TEVCNT q).fsi F.QY_TEVLAST_CODE q code).fsi F.QY_TEVLAST_OUTPUT q output).fsi F.QY_TEVLAST_FRAME q fnum

/-- R277: a condition marked in TCHSTAT and signalled on the event source of its quay. -/
def flagEvent (q : Nat) (f : Fld) (s : State) : State := (s.fsi f q 1).raise (96 + q)

/-- R277: an output in OPEN: its slot fails, where the channel exists. -/
def openEvent (q output : Nat) (s : State) : State :=
  if chanExists (s.quay q).gen (bitsAt output 1 9) then
    ((setFailed (384 * q + bitsAt output 1 9) true (s.fsi F.QY_TCHSTAT_OPENEV q 1)).raise 7).logFault 0x5001
      (384 * q + bitsAt output 1 9) (output % 2)
  else s.fsi F.QY_TCHSTAT_OPENEV q 1

/-- R277: what the code of an event marks and signals. -/
def markEvent (q code output : Nat) (s : State) : State :=
  match code with
  | 1 => openEvent q output s
  | 3 => (flagEvent q F.QY_TCHSTAT_COMPLYEV s).logFault 0x5002 (384 * q + bitsAt output 1 9) (output % 2)
  | 4 => flagEvent q F.QY_TCHSTAT_COMPLYEV s
  | 5 => flagEvent q F.QY_TCHSTAT_OVERTEMP s
  | 6 => flagEvent q F.QY_TCHSTAT_DUALAUTH s
  | _ => s

/-- R276, R277: events of the tile were lost before this one. -/
def noteLost (q : Nat) (lost : Bool) (s : State) : State := if lost then flagEvent q F.QY_TCHSTAT_EVLOST s else s

/-- What an event may change by its code. -/
def Extent.eventMark : Extent :=
  ⟨[.seqs, .log, .fab, .port], false,
    [F.DBG_FLTSTAT_CLASS, F.QY_TCHSTAT_OPENEV, F.QY_TCHSTAT_COMPLYEV, F.QY_TCHSTAT_OVERTEMP, F.QY_TCHSTAT_DUALAUTH]
      ++ raiseFlds⟩

/-- What the mark of lost events may change. -/
def Extent.eventLost : Extent := ⟨[.seqs], false, F.QY_TCHSTAT_EVLOST :: raiseFlds⟩

section
variable (q : Nat) (s : State)

theorem tileEvent_eq (code output fnum : Nat) (lost : Bool) : tileEvent q code output fnum lost s =
    noteLost q lost (markEvent q code output (noteEvent q code output fnum s)) := rfl

theorem noteEvent_shows (code output fnum : Nat) :
    (noteEvent q code output fnum s).fgi F.QY_TEVCNT q = Nat.min (s.fgi F.QY_TEVCNT q + 1) (2 ^ 32 - 1) ∧
    (noteEvent q code output fnum s).fgi F.QY_TEVLAST_CODE q = code % 2 ^ 8 ∧
    (noteEvent q code output fnum s).fgi F.QY_TEVLAST_OUTPUT q = output % 2 ^ 10 ∧
    (noteEvent q code output fnum s).fgi F.QY_TEVLAST_FRAME q = fnum % 2 ^ 14 := by
  unfold noteEvent
  simp (disch := decide) only [State.fgi_fsi, State.fgi_fsi_ne, State.fgi_bumpi]
  exact ⟨rfl, rfl, rfl, rfl⟩

/-- A condition is marked and its source pending, whatever was there before. -/
theorem flagEvent_shows (f : Fld) (hwidth : f.width = 1) (hf : (Extent.mk [.seqs] false raiseFlds).r f = false) :
    (flagEvent q f s).fgi f q = 1 ∧ (flagEvent q f s).pend (96 + q) = true := by
  refine ⟨(State.raise_fgi _ _ _ _ hf).trans ((State.fgi_fsi _ _ _ _).trans ?_), State.raise_pend _ _⟩
  rw [hwidth]
  rfl

theorem flagEvent_seen (e : Extent) (f : Fld) (hf : e.r f = true) (hraise : e.covers [.seqs] raiseFlds = true) :
    State.seen e (flagEvent q f s) = State.seen e s :=
  (State.raise_seen e _ _ hraise).trans (State.fsi_seen e s f q 1 hf)

theorem openEvent_seen (output : Nat) : State.seen .eventMark (openEvent q output s) = State.seen .eventMark s := by
  have hflag : State.seen .eventMark (s.fsi F.QY_TCHSTAT_OPENEV q 1) = State.seen .eventMark s :=
    State.fsi_seen _ _ _ _ _ (by decide)
  unfold openEvent
  split_ifs
  · rw [State.logFault_seen _ _ _ _ _ (by decide), State.raise_seen _ _ _ (by decide), setFailed_seen _ _ _ _ (by decide)]
    exact hflag
  · exact hflag

theorem markEvent_seen (code output : Nat) :
    State.seen .eventMark (markEvent q code output s) = State.seen .eventMark s := by
  unfold markEvent
  split
  · exact openEvent_seen q s output
  · rw [State.logFault_seen _ _ _ _ _ (by decide)]
    exact flagEvent_seen q s _ _ (by decide) (by decide)
  · exact flagEvent_seen q s _ _ (by decide) (by decide)
  · exact flagEvent_seen q s _ _ (by decide) (by decide)
  · exact flagEvent_seen q s _ _ (by decide) (by decide)
  · rfl

theorem markEvent_fgi (code output : Nat) (f : Fld) (hf : Extent.eventMark.r f = false) :
    (markEvent q code output s).fgi f q = s.fgi f q :=
  State.fgi_of_seen .eventMark _ _ f q (markEvent_seen q s code output) hf

theorem noteLost_seen (lost : Bool) : State.seen .eventLost (noteLost q lost s) = State.seen .eventLost s := by
  unfold noteLost
  split_ifs
  · exact flagEvent_seen q s _ _ (by decide) (by decide)
  · rfl

theorem noteLost_fgi (lost : Bool) (f : Fld) (hf : Extent.eventLost.r f = false) :
    (noteLost q lost s).fgi f q = s.fgi f q :=
  State.fgi_of_seen .eventLost _ _ f q (noteLost_seen q s lost) hf

theorem noteLost_fab (lost : Bool) : (noteLost q lost s).fab = s.fab :=
  fab_of_seen .eventLost _ _ (noteLost_seen q s lost) (by decide)

/-- The mark of lost events leaves the event source of its quay pending. -/
theorem noteLost_pend (lost : Bool) (h : s.pend (96 + q) = true) : (noteLost q lost s).pend (96 + q) = true := by
  unfold noteLost
  split_ifs
  · exact State.raise_pend _ _
  · exact h

/-- The event sources of the quays lie in another word of PEND than ELEMENT_FAIL. -/
theorem noteLost_elementFail (lost : Bool) (hq : q < 32) (h : s.pend 7 = true) : (noteLost q lost s).pend 7 = true := by
  have hflag : (s.fsi F.QY_TCHSTAT_EVLOST q 1).pend 7 = true :=
    (congrArg (fun v : Nat => v.testBit 7) (State.fgi_fsi_ne s F.QY_TCHSTAT_EVLOST F.ICU_PENDw_SRC q 0 1 (by decide))).trans h
  unfold noteLost
  split_ifs
  · exact (State.pend_raise_of_ne _ (by omega) (by decide) (by omega)).trans hflag
  · exact h

/-- R277: a condition that a code marks stays marked and signalled when events were lost besides. -/
theorem noteLost_keeps_mark {t : State} (lost : Bool) {f : Fld} (hf : Extent.eventLost.r f = false)
    (h : t.fgi f q = 1 ∧ t.pend (96 + q) = true) :
    (noteLost q lost t).fgi f q = 1 ∧ (noteLost q lost t).pend (96 + q) = true := by
  obtain ⟨hflag, hpend⟩ := h
  exact ⟨(noteLost_fgi q t lost f hf).trans hflag, noteLost_pend q t lost hpend⟩

theorem openEvent_flag (output : Nat) : (openEvent q output s).fgi F.QY_TCHSTAT_OPENEV q = 1 := by
  unfold openEvent
  split_ifs
  · rw [State.logFault_fgi _ _ _ _ _ _ (by decide), State.raise_fgi _ _ _ _ (by decide)]
    exact State.fgi_fsi _ _ _ _
  · exact State.fgi_fsi _ _ _ _

/-- R277: an OPEN event of a channel that exists fails its slot and raises ELEMENT_FAIL. -/
theorem openEvent_fails (output : Nat) (hexists : chanExists (s.quay q).gen (bitsAt output 1 9) = true) :
    ((openEvent q output s).slot (384 * q + bitsAt output 1 9)).failed = true ∧ (openEvent q output s).pend 7 = true := by
  unfold openEvent
  rw [if_pos hexists]
  refine ⟨?_, (State.logFault_pend _ _ _ _ _).trans (State.raise_pend _ _)⟩
  unfold State.slot
  rw [State.logFault_fab, State.raise_fab]
  exact congrArg Slot.failed (State.slot_modSlot_same (s.fsi F.QY_TCHSTAT_OPENEV q 1) _ _)

/-- R277: COMPLY entered or left, with or without an entry in the log. -/
theorem markEvent_comply {code : Nat} (output : Nat) (hcode : code = 3 ∨ code = 4) :
    (markEvent q code output s).fgi F.QY_TCHSTAT_COMPLYEV q = 1 ∧ (markEvent q code output s).pend (96 + q) = true := by
  obtain ⟨hflag, hpend⟩ := flagEvent_shows q s F.QY_TCHSTAT_COMPLYEV rfl (by decide)
  rcases hcode with rfl | rfl
  · exact ⟨(State.logFault_fgi _ _ _ _ _ _ (by decide)).trans hflag, (State.logFault_pend _ _ _ _ _).trans hpend⟩
  · exact ⟨hflag, hpend⟩

/-- R277: neither what its code marks nor lost events change what TEVCNT and TEVLAST show of an event. -/
theorem tileEvent_notes (code output fnum : Nat) (lost : Bool) :
    (tileEvent q code output fnum lost s).fgi F.QY_TEVCNT q = Nat.min (s.fgi F.QY_TEVCNT q + 1) (2 ^ 32 - 1) ∧
    (tileEvent q code output fnum lost s).fgi F.QY_TEVLAST_CODE q = code % 2 ^ 8 ∧
    (tileEvent q code output fnum lost s).fgi F.QY_TEVLAST_OUTPUT q = output % 2 ^ 10 ∧
    (tileEvent q code output fnum lost s).fgi F.QY_TEVLAST_FRAME q = fnum % 2 ^ 14 := by
  have hkept : ∀ g, Extent.eventMark.r g = false → Extent.eventLost.r g = false →
      (tileEvent q code output fnum lost s).fgi g q = (noteEvent q code output fnum s).fgi g q := by
    intro g hmark hlost
    rw [tileEvent_eq, noteLost_fgi q _ lost g hlost, markEvent_fgi q _ code output g hmark]
  rw [hkept _ (by decide) (by decide), hkept _ (by decide) (by decide), hkept _ (by decide) (by decide),
    hkept _ (by decide) (by decide)]
  exact noteEvent_shows q s code output fnum

end

/-! ### The family -/

/-- Settles O32: a request is executed by `State.tile_serve` and answered by `TileSt.doRd_port`, `TileSt.doWr_answer`,
`TileSt.doAnnounce_eq_prepare` or `TileSt.doCancel_eq_setPrep`. At the device every answer to firmware ends in `reqDone`, an
ANNACK in `annAck_rng` or `annAck_ts`, and an event is noted, marked by its code and marked for lost ones (`tileEvent_eq`). -/
theorem tileRequestsAndAnswers : Obligations.TileRequestsAndAnswers := by
  refine ⟨fun q p s tag a n r hin => ⟨_, rfl, ?rd⟩, fun q p s tag a ws r hin => ⟨_, rfl, ?wr⟩,
    fun q p s tag k f v r hin hvalue => ⟨_, rfl, ?announce⟩, fun q p s tag k f r hin hkind => ⟨_, rfl, ?cancel⟩,
    fun q s tag st ws r hin hreq => ⟨_, rfl, ?rdRsp⟩, fun q s tag st r hin hreq => ⟨_, rfl, ?wrRsp⟩,
    fun q s tag st k f r c hin hc hack hframe => ⟨_, rfl, ?annAck⟩,
    fun q s tag st k f r hin => congrArg Host.Outcome.next (actOn_of_delivered hin rfl),
    fun q s tag st r hin hreq => ⟨_, rfl, ?errRsp⟩, fun q s n code output f lost r hin => ⟨_, rfl, ?event⟩⟩
  case rd =>
    have hp := TileSt.port_lt (TPort.ne_init_of_inbox hin)
    rw [State.tile_serve hin rfl, TileSt.request, TileSt.doRd_port _ _ _ (TileSt.lt_unqueue r hp),
      TileSt.unqueue_port r hp, TileSt.unqueue_hasReg, TileSt.unqueue_readReg]
    exact ⟨rfl, rfl⟩
  case wr =>
    have hp := TileSt.port_lt (TPort.ne_init_of_inbox hin)
    have hp' := TileSt.lt_unqueue r hp
    rw [State.tile_serve hin rfl, TileSt.request]
    refine ⟨?_, fun hrefused => ?_, ?_⟩
    · rw [TileSt.doWr_answer hp', TileSt.unqueue_port r hp]
      exact congrArg (fun m => _ ++ [m]) TileSt.wrRefusal_getD
    · obtain ⟨m, hm⟩ := TileSt.wrRefusal_isSome (tag := tag) hrefused
      obtain ⟨hwords, hulslot⟩ := TileSt.doWr_refused_keeps (t := (s.tile q.val).unqueue p.val r) (p := p.val) hm
      exact ⟨hwords.trans (TileSt.unqueue_keeps r TPort.words (fun _ => rfl) _),
        hulslot.trans (TileSt.unqueue_keeps r TPort.ulslot (fun _ => rfl) _)⟩
    · rintro rfl hone
      obtain ⟨v, rfl⟩ := List.length_eq_one_iff.mp hone
      rw [TileSt.doWr_cfg v hp']
      exact ⟨rfl, rfl, rfl⟩
  case announce =>
    have hp := TileSt.port_lt (TPort.ne_init_of_inbox hin)
    rw [State.tile_serve hin rfl, TileSt.request, TileSt.doAnnounce_eq_prepare tag f hvalue,
      TileSt.port_modPort_of_lt _ (TileSt.lt_unqueue r hp), TileSt.unqueue_port r hp, TileSt.unqueue_prepare]
    by_cases hfree : (s.tile q.val).ahead p.val f = true ∧
        Prep.left ((s.tile q.val).delivery p.val) ((((s.tile q.val).port p.val).unqueue r).prep k) = none
    · exact (if_pos hfree).mpr (TileSt.prepare_of_free tag v hfree)
    · refine (if_neg hfree).mpr ?_
      rw [TileSt.prepare_of_refused tag v hfree]
      exact ⟨rfl, rfl, rfl⟩
  case cancel =>
    have hp := TileSt.port_lt (TPort.ne_init_of_inbox hin)
    rw [State.tile_serve hin rfl, TileSt.request, TileSt.doCancel_eq_setPrep tag f hkind,
      TileSt.port_modPort_of_lt _ (TileSt.lt_unqueue r hp), TileSt.unqueue_port r hp]
    exact ⟨TPort.prep_setPrep _ k _, TPort.setPrep_say_waiting _ k _ _⟩
  case rdRsp =>
    rw [actOn_of_delivered hin rfl, deviceMsg, rdRsp_of_asked st ws ((State.unqueue_reqTag r).trans hreq)]
    obtain ⟨hbusy, hdone, hstatus⟩ := reqDone_shows q.val st (readData q.val st ws (s.unqueue q.val r))
    refine ⟨hbusy, hdone, hstatus, (reqDone_fgi st _ _ (by decide)).trans (readData_data st ws), ?_, reqDone_req _ _ _⟩
    rw [reqDone_chan, State.lane_eq_of_lanes (readData_lanes st ws), State.unqueue_lane hin]
  case wrRsp =>
    rw [actOn_of_delivered hin rfl, deviceMsg, wrRsp_of_asked st ((State.unqueue_reqTag r).trans hreq)]
    obtain ⟨hbusy, hdone, hstatus⟩ := reqDone_shows q.val st (s.unqueue q.val r)
    exact ⟨hbusy, hdone, hstatus, reqDone_unqueue st hin⟩
  case annAck =>
    rw [actOn_of_delivered hin rfl, deviceMsg]
    subst hframe
    by_cases hk : k = 1
    · subst hk
      exact annAck_rng (s := s.unqueue q.val r) st hc hack
    · simp only [if_neg hk] at hc ⊢
      exact annAck_ts (s := s.unqueue q.val r) st hk hc hack
  case errRsp =>
    rw [actOn_of_delivered hin rfl, deviceMsg, errRsp_of_asked st ((State.unqueue_reqTag r).trans hreq)]
    obtain ⟨hbusy, hdone, hstatus⟩ := reqDone_shows q.val st (s.unqueue q.val r)
    exact ⟨hbusy, hdone, hstatus, reqDone_req _ _ _⟩
  case event =>
    rw [actOn_of_delivered hin rfl, deviceMsg]
    have hnotes := tileEvent_notes q.val (s.unqueue q.val r) code output f lost
    rw [tileEvent_eq] at hnotes ⊢
    obtain ⟨hcount, hcode, houtput, hframe⟩ := hnotes
    refine ⟨hcount, hcode, houtput, hframe, ?_, ?_, fun hcomply => ?_, ?_, ?_, ?_⟩
    · rintro rfl
      exact (noteLost_fgi _ _ lost _ (by decide)).trans (openEvent_flag _ _ output)
    · rintro rfl hexists
      obtain ⟨hfailed, hpend⟩ := openEvent_fails q.val (noteEvent q.val 1 output f (s.unqueue q.val r)) output hexists
      refine ⟨?_, noteLost_elementFail _ _ lost q.isLt hpend⟩
      unfold State.slot
      rw [noteLost_fab]
      exact hfailed
    · exact noteLost_keeps_mark _ lost (by decide) (markEvent_comply _ _ output hcomply)
    · rintro rfl
      exact noteLost_keeps_mark _ lost (by decide) (flagEvent_shows _ _ _ rfl (by decide))
    · rintro rfl
      exact noteLost_keeps_mark _ lost (by decide) (flagEvent_shows _ _ _ rfl (by decide))
    · rintro rfl
      exact flagEvent_shows _ _ _ rfl (by decide)

end Sys2Proof.Machine
end

section
/-! PROOF. The message channel of a quay (R263 to R265) and firmware's requests to its tile (R284). -/
namespace Sys2Proof.Machine

/-! ### A reset of the channel (R265, R271) -/

section
variable {s : State} {q : Nat}

/-- R265, R271: a lane whose channel is reset. -/
def Lane.channelReset (x : Lane) : Lane :=
  { x with
    chan := x.chan.startReset
    ident := []
    cfgTags := []
    configured := false
    written := x.chan.unacked.foldl unwritten x.written }

/-- What a reset leaves of a lane and what is posted afterwards leaves as it is: the messages sent, and the tile known. -/
def Lane.resetView (x : Lane) : Bool × List (Nat × TMsg × Nat) × List Nat := (x.chan.resetting, x.chan.out, x.ident)

theorem resetChan_eq (q : Nat) (s : State) : resetChan q s = s.modLane q Lane.channelReset := by
  unfold resetChan State.modChan
  dsimp only
  rw [State.modLane_modLane]
  rfl

theorem Lane.ne_init_of_expired {x : Lane} {rto : Nat} (h : x.chan.expired rto = true) : x ≠ Lane.init := by
  rintro rfl
  exact Bool.false_ne_true h

theorem Lane.ne_init_of_resetting {x : Lane} (h : x.chan.resetting = true) : x ≠ Lane.init := by
  rintro rfl
  exact absurd h (by decide)

end

/-! ### Failure of the channel (R264) -/

section
variable {s : State} {q : Nat}

theorem postReq_resetView (m : Nat → TMsg) : ((postReq q m s).2.lane q).resetView = (s.lane q).resetView := by
  rw [postReq_eq]
  exact State.lane_modLane_keeps q s Lane.resetView
    (g := fun x => { x with tag := (x.tag + 1) % 256, chan := x.chan.post (m (s.lane q).tag) }) fun _ => rfl

/-- R264: firmware's request fails with its channel. -/
def failReq (q : Nat) (s : State) : State := if (s.lane q).req.isSome then reqDone q 10 s else s

/-- R264: a range change whose announcement has no answer is cancelled. -/
def failRng (q : Nat) (s : State) : State :=
  match (s.quay q).rng with
  | some c => if c.acked then s else rngDrop q (s.fsi F.QY_RNGSTAT_NOACK q 1)
  | none => s

/-- R264: a timing-set change whose announcement has no answer is cancelled. -/
def failTs (q : Nat) (s : State) : State :=
  match (s.quay q).ts with
  | some c => if c.acked then s else tsDrop q (s.fsi F.QY_TSSTAT_NOACK q 1)
  | none => s

theorem failRequests_eq (q : Nat) (s : State) : failRequests q s = failTs q (failRng q (failReq q s)) := rfl

/-- What the cancellation of changes may change. -/
def Extent.changeDrop : Extent :=
  ⟨[.quays, .lanes], false,
    [F.QY_RNGSTAT_CANCELLED, F.QY_RNGSTAT_NOACK, F.QY_RNGSTAT_PEND, F.QY_TSSTAT_CANCELLED, F.QY_TSSTAT_NOACK,
      F.QY_TSSTAT_PEND]⟩

theorem failRng_seen : State.seen .changeDrop (failRng q s) = State.seen .changeDrop s := by
  unfold failRng
  split
  · split_ifs
    · rfl
    · exact (rngDrop_seen _ _ _ (by decide)).trans (State.fsi_seen _ _ _ _ _ (by decide))
  · rfl

theorem failTs_seen : State.seen .changeDrop (failTs q s) = State.seen .changeDrop s := by
  unfold failTs
  split
  · split_ifs
    · rfl
    · exact (tsDrop_seen _ _ _ (by decide)).trans (State.fsi_seen _ _ _ _ _ (by decide))
  · rfl

theorem failReq_resetView : ((failReq q s).lane q).resetView = (s.lane q).resetView := by
  unfold failReq
  split_ifs
  · exact State.lane_modLane_keeps q (((s.fsi F.QY_TRSP_BUSY q 0).fsi F.QY_TRSP_DONE q 1).fsi F.QY_TRSP_STATUS q 10)
      Lane.resetView (g := Lane.answered) fun _ => rfl
  · rfl

theorem failRng_resetView : ((failRng q s).lane q).resetView = (s.lane q).resetView := by
  unfold failRng
  split
  next c hc =>
    split_ifs
    · rfl
    · rw [rngDrop_of_pending (s := s.fsi F.QY_RNGSTAT_NOACK q 1) hc]
      exact postReq_resetView _
  next => rfl

theorem failTs_resetView : ((failTs q s).lane q).resetView = (s.lane q).resetView := by
  unfold failTs
  split
  next c hc =>
    split_ifs
    · rfl
    · rw [tsDrop_of_pending (s := s.fsi F.QY_TSSTAT_NOACK q 1) hc]
      exact postReq_resetView _
  next => rfl

/-- R264: what a failure cancels leaves the reset of the channel as it is. -/
theorem failRequests_resetView : ((failRequests q s).lane q).resetView = (s.lane q).resetView := by
  rw [failRequests_eq]
  exact failTs_resetView.trans (failRng_resetView.trans failReq_resetView)

/-- R264: a request outstanding ends with status 10, whatever changes are cancelled besides. -/
theorem failRequests_ends (hreq : (s.lane q).req.isSome = true) :
    (failRequests q s).fgi F.QY_TRSP_DONE q = 1 ∧ (failRequests q s).fgi F.QY_TRSP_STATUS q = 10 := by
  have hkept : ∀ g, Extent.changeDrop.r g = false → (failRequests q s).fgi g q = (reqDone q 10 s).fgi g q := by
    intro g hg
    have hfail : failReq q s = reqDone q 10 s := if_pos hreq
    rw [failRequests_eq, ← hfail]
    exact State.fgi_of_seen .changeDrop _ _ g q (failTs_seen.trans failRng_seen) hg
  obtain ⟨-, hdone, hstatus⟩ := reqDone_shows q 10 s
  exact ⟨(hkept _ (by decide)).trans hdone, (hkept _ (by decide)).trans hstatus⟩

/-- What a failure may change by its requests. -/
def Extent.failure : Extent := ⟨[.quays, .lanes], false, Extent.request.flds ++ Extent.changeDrop.flds⟩

theorem failRequests_fgi (f : Fld) (i : Nat) (hf : Extent.failure.r f = false) :
    (failRequests q s).fgi f i = s.fgi f i :=
  State.fgi_of_seen .failure _ _ f i (failRequests_seen _ q s (by decide)) hf

/-- R264: a failure counted, signalled and logged. -/
def noteFail (q : Nat) (s : State) : State :=
  (((s.fsi F.QY_TCHSTAT_FAIL q 1).bumpi F.QY_TCHFAIL q).raise (64 + q)).logFault 0x4004 q 0

theorem noteFail_fgi (f : Fld) (hraise : (Extent.mk [.seqs] false raiseFlds).r f = false)
    (hclass : f.id ≠ F.DBG_FLTSTAT_CLASS.id) :
    (noteFail q s).fgi f q = ((s.fsi F.QY_TCHSTAT_FAIL q 1).bumpi F.QY_TCHFAIL q).fgi f q :=
  (State.logFault_fgi _ _ _ _ _ _ hclass).trans (State.raise_fgi _ _ _ _ hraise)

theorem noteFail_shows (q : Nat) (s : State) : (noteFail q s).fgi F.QY_TCHSTAT_FAIL q = 1 ∧
    (noteFail q s).pend (64 + q) = true ∧
    (noteFail q s).fgi F.QY_TCHFAIL q = Nat.min (s.fgi F.QY_TCHFAIL q + 1) (2 ^ 32 - 1) := by
  refine ⟨?_, (State.logFault_pend _ _ _ _ _).trans (State.raise_pend _ _), ?_⟩
  · rw [noteFail_fgi _ (by decide) (by decide)]
    exact (State.fgi_fsi_ne _ _ _ _ _ _ (by decide)).trans (State.fgi_fsi _ _ _ _)
  · rw [noteFail_fgi _ (by decide) (by decide), State.fgi_bumpi, State.fgi_fsi_ne _ _ _ _ _ _ (by decide)]
    rfl

theorem noteFail_lane (q : Nat) (s : State) : (noteFail q s).lane q = s.lane q :=
  State.lane_eq_of_lanes ((State.logFault_lanes _ _ _ _).trans (State.raise_lanes _ _))

theorem chanFail_of_due (hexpired : (s.lane q).chan.expired (s.fgi F.QY_TCHCFG_RTO q) = true)
    (hlast : Nat.max 1 (s.fgi F.QY_TCHCFG_RETRYMAX q) ≤ (s.lane q).chan.resends) :
    chanFail q s = failRequests q (resetChan q (noteFail q s)) :=
  if_pos ⟨hexpired, hlast⟩

/-- R264: the lane once its channel has failed, before its requests end. -/
theorem resetChan_noteFail_lane (h : s.lane q ≠ Lane.init) :
    (resetChan q (noteFail q s)).lane q = (s.lane q).channelReset := by
  rw [resetChan_eq, State.lane_modLane _ (noteFail_lane q s ▸ h), noteFail_lane]

end

/-! ### Answered resets, and firmware's requests (R265, R284) -/

section
variable {s : State} {q : Nat}

/-- R265, R270: numbering has restarted, and in DISCOVER the first read of the tile waits. -/
theorem chanResetDone_chan (hresetting : (s.lane q).chan.resetting = true) (hsaw : (s.lane q).chan.sawRst = true) :
    ((chanResetDone q s).lane q).chan = if s.laneSt q = 3 then (s.lane q).chan.restart.post (.rd (s.lane q).tag 0 5)
      else (s.lane q).chan.restart := by
  have hlane := Lane.ne_init_of_resetting hresetting
  have hdone : chanResetDone q s = if s.laneSt q = 3 then (postReq q (fun t => .rd t 0 5) (s.modChan q Chan.restart)).2
      else s.modChan q Chan.restart := if_pos ⟨hresetting, hsaw⟩
  have hrestart : (s.modChan q Chan.restart).lane q = { s.lane q with chan := (s.lane q).chan.restart } :=
    State.lane_modLane _ hlane
  rw [hdone]
  split_ifs
  · rw [postReq_eq, hrestart]
    unfold State.modChan
    rw [State.modLane_modLane, State.lane_modLane _ hlane]
  · rw [hrestart]

/-- R284: a request refused at once is LOCAL. -/
def treqLocal (q : Nat) (s : State) : State := (s.fsi F.QY_TRSP_DONE q 1).fsi F.QY_TRSP_STATUS q 8

theorem treqLocal_shows (q : Nat) (s : State) :
    (treqLocal q s).fgi F.QY_TRSP_DONE q = 1 ∧ (treqLocal q s).fgi F.QY_TRSP_STATUS q = 8 :=
  ⟨(State.fgi_fsi_ne _ _ _ _ _ _ (by decide)).trans (State.fgi_fsi _ _ _ _), State.fgi_fsi _ _ _ _⟩

/-- R284: the message of a request. -/
def State.treqMsg (s : State) (q tag : Nat) : TMsg :=
  if s.flagi F.QY_TREQ_WR q = true then .wr tag (s.fgi F.QY_TREQ_ADDR q) [s.fgi F.QY_TDATA_DATA q]
  else .rd tag (s.fgi F.QY_TREQ_ADDR q) 1

/-- R284: a request is posted, and the lane awaits its answer. -/
def treqPosted (q : Nat) (s : State) : State :=
  ((postReq q (s.treqMsg q) s).2.fsi F.QY_TRSP_BUSY q 1).modLane q fun x =>
    { x with req := some ⟨(s.lane q).tag, !s.flagi F.QY_TREQ_WR q, 0⟩ }

theorem treqGo_eq (q : Nat) (s : State) : treqGo q s =
    if s.flagi F.QY_TRSP_BUSY q = true ∨
        s.flagi F.QY_TREQ_WR q = true ∧ quayOwned (genSlots (s.genDecl q)) (s.fgi F.QY_TREQ_ADDR q) = true then
      treqLocal q s
    else treqPosted q s := rfl

theorem treqPosted_busy (q : Nat) (s : State) : (treqPosted q s).fgi F.QY_TRSP_BUSY q = 1 := State.fgi_fsi _ _ _ _

theorem treqPosted_lanes (q : Nat) (s : State) : (treqPosted q s).lanes = setAt s.lanes q { s.lane q with
    tag := ((s.lane q).tag + 1) % 256
    chan := (s.lane q).chan.post (s.treqMsg q (s.lane q).tag)
    req := some ⟨(s.lane q).tag, !s.flagi F.QY_TREQ_WR q, 0⟩ } := by
  have hlanes : (treqPosted q s).lanes = ((postReq q (s.treqMsg q) s).2.modLane q fun x =>
      { x with req := some ⟨(s.lane q).tag, !s.flagi F.QY_TREQ_WR q, 0⟩ }).lanes := rfl
  rw [hlanes, postReq_eq, State.modLane_modLane]
  rfl

theorem treqTimeout_of_due {r : TileReq} (hreq : (s.lane q).req = some r) (hage : 256 ≤ r.age) :
    treqTimeout q s = reqDone q 9 s := by
  unfold treqTimeout
  rw [hreq]
  exact if_pos hage

end

/-! ### The family -/

/-- Settles O33: a failure is noted (`noteFail_shows`), resets the channel (`resetChan_eq`) and ends what waits on it
(`failRequests_ends`), which leaves the reset as it is (`failRequests_resetView`); a reset answered is `chanResetDone_chan`;
a request is refused, posted or given up (`treqLocal_shows`, `treqPosted_lanes`, `treqTimeout_of_due`). -/
theorem theMessageChannel : Obligations.TheMessageChannel := by
  refine ⟨fun q s hexpired hfew => congrArg Host.Outcome.next (if_pos ⟨hexpired, hfew⟩),
    fun q s hexpired hlast => ⟨chanFail q.val s, rfl, ?fails⟩,
    fun q s => congrArg Host.Outcome.next (resetChan_eq q.val s),
    fun q s hresetting hsaw => ⟨chanResetDone q.val s, rfl, ?answered⟩,
    fun q s => ⟨treqGo q.val s, rfl, ?request⟩, fun q s r hreq hage => ⟨treqTimeout q.val s, rfl, ?timeout⟩⟩
  case fails =>
    have hlane := resetChan_noteFail_lane (Lane.ne_init_of_expired hexpired)
    have hkept : ∀ f i, Extent.failure.r f = false →
        (failRequests q.val (resetChan q.val (noteFail q.val s))).fgi f i = (noteFail q.val s).fgi f i :=
      fun f i hf => (failRequests_fgi f i hf).trans (by rw [resetChan_eq]; rfl)
    obtain ⟨hfail, hpend, hcount⟩ := noteFail_shows q.val s
    have hview : ((failRequests q.val (resetChan q.val (noteFail q.val s))).lane q.val).resetView = (true, [], []) :=
      failRequests_resetView.trans (congrArg Lane.resetView hlane)
    rw [Lane.resetView, Prod.mk.injEq, Prod.mk.injEq] at hview
    obtain ⟨hresetting, hout, hident⟩ := hview
    rw [chanFail_of_due hexpired hlast]
    refine ⟨(hkept _ _ (by decide)).trans hfail, ?_, (hkept _ _ (by decide)).trans hcount, hresetting, hout, hident,
      fun hreq => failRequests_ends ?_⟩
    · exact (congrArg (fun v : Nat => v.testBit ((64 + q.val) % 32)) (hkept F.ICU_PENDw_SRC _ (by decide))).trans hpend
    · rw [hlane]
      exact hreq
  case answered =>
    rw [chanResetDone_chan hresetting hsaw]
    split_ifs <;> exact ⟨rfl, rfl, rfl, rfl⟩
  case request =>
    rw [treqGo_eq]
    by_cases hlocal : s.flagi F.QY_TRSP_BUSY q.val = true ∨ s.flagi F.QY_TREQ_WR q.val = true ∧
        quayOwned (genSlots (s.genDecl q.val)) (s.fgi F.QY_TREQ_ADDR q.val) = true
    · obtain ⟨hdone, hstatus⟩ := treqLocal_shows q.val s
      rw [if_pos hlocal, if_pos hlocal]
      exact ⟨hdone, hstatus, rfl⟩
    · rw [if_neg hlocal, if_neg hlocal]
      exact ⟨treqPosted_busy _ _, treqPosted_lanes _ _⟩
  case timeout =>
    rw [treqTimeout_of_due hreq hage]
    obtain ⟨hbusy, hdone, hstatus⟩ := reqDone_shows q.val 9 s
    exact ⟨hbusy, hdone, hstatus, reqDone_req _ _ _⟩

end Sys2Proof.Machine
end

section
/-! PROOF. Sessions (R287, R288, R295 to R300): what one session shows after it has changed, closed or sent a message, and the
checks that a datagram passes before its TYPE is looked at. -/
namespace Sys2Proof.Machine

theorem pen_kept {s t : State} (h : State.seen (.butPart .pen) t = State.seen (.butPart .pen) s) : t.pen = s.pen :=
  pen_of_seen _ _ _ h (by decide)

/-! ### One session -/

section
variable (s : State)

@[simp] theorem State.raise_pen (src : Nat) : (s.raise src).pen = s.pen := pen_kept (State.raise_seen _ s src (by decide))

theorem State.sess_congr {u : State} (h : u.pen = s.pen) (i : Nat) : u.sess i = s.sess i :=
  congrArg (fun p : PenSt => tget Sess.init p.sess i) h

@[simp] theorem State.raise_sess (src i : Nat) : (s.raise src).sess i = s.sess i := State.sess_congr s (State.raise_pen s src) i

@[simp] theorem State.sess_modSess (i : Nat) (f : Sess → Sess) : (s.modSess i f).sess i = f (s.sess i) := tget_tmod _ _ _ _

theorem State.sess_modEnt (i k : Nat) (f : CEntry → CEntry) :
    (s.modEnt i k f).sess i = { s.sess i with cache := tmod CEntry.init (s.sess i).cache k f } :=
  State.sess_modSess s i fun x => { x with cache := tmod CEntry.init x.cache k f }

@[simp] theorem touchSess_sess (i : Nat) (f : Sess → Sess) : (touchSess i f s).sess i = f (s.sess i) := tget_tmod _ _ _ _

theorem State.flagi_congr {u : State} {f : Fld} {i : Nat} (h : u.fgi f i = s.fgi f i) : u.flagi f i = s.flagi f i :=
  congrArg (fun v => decide (v ≠ 0)) h

theorem State.fgi_bump_ne (f g : Fld) (i : Nat) (h : g.id ≠ f.id) : (s.bump f).fgi g i = s.fgi g i :=
  State.fgi_fsi_ne s f g 0 i _ h

theorem State.flagi_bump_ne (f g : Fld) (i : Nat) (h : g.id ≠ f.id) : (s.bump f).flagi g i = s.flagi g i :=
  State.flagi_congr s (State.fgi_bump_ne s f g i h)

end

/-! ### Messages sent (R288, R292, R300) -/

section
variable {s : State} {i : Nat}

theorem penSend_of_link {d : PenOut} (hlink : s.flagi F.NET_STAT_LINK d.peer.net = true) :
    penSend d s = s.modPen fun p => { p with tx := p.tx ++ [d] } := if_pos hlink

/-- A datagram leaves on session `i`, and the session has used up its next outbound SEQ. -/
def State.transmits (s : State) (i : Nat) (o : PenOut) : State :=
  (touchSess i (fun x => { x with tx := add32 (s.sess i).tx 1 }) s).modPen fun p => { p with tx := p.tx ++ [o] }

@[simp] theorem State.transmits_sess (o : PenOut) :
    (s.transmits i o).sess i = { s.sess i with tx := add32 (s.sess i).tx 1 } :=
  tget_tmod Sess.init s.pen.sess i fun x => { x with tx := add32 (s.sess i).tx 1 }

@[simp] theorem State.transmits_tx (o : PenOut) : (s.transmits i o).pen.tx = s.pen.tx ++ [o] := rfl

@[simp] theorem State.transmits_regs (o : PenOut) : (s.transmits i o).regs = s.regs := rfl

@[simp] theorem State.transmits_fg (o : PenOut) (f : Fld) : (s.transmits i o).fg f = s.fg f := rfl

@[simp] theorem State.transmits_pend (o : PenOut) (src : Nat) : (s.transmits i o).pend src = s.pend src := rfl

/-- R288, R300: a message of session `i` goes to its peer, under its next outbound SEQ. -/
theorem sendMsg_formMsg (typ flags status : Nat) (body : List Byte) (reqid rgen : Nat)
    (hlink : s.flagi F.NET_STAT_LINK (s.sess i).peer.net = true) :
    sendMsg i (formMsg i typ flags status body reqid rgen s).1 (formMsg i typ flags status body reqid rgen s).2 =
      s.transmits i ⟨(s.sess i).peer, tagged (s.sess i).kdh (msgBytes (s.sess i).v2 typ i flags (s.sess i).sgen
        (add32 (s.sess i).tx 1) reqid rgen status body)⟩ := by
  have hsess : (formMsg i typ flags status body reqid rgen s).2.sess i = { s.sess i with tx := add32 (s.sess i).tx 1 } :=
    touchSess_sess s i _
  unfold sendMsg
  rw [hsess]
  exact penSend_of_link hlink

/-! ### Closing (R297) -/

@[simp] theorem closeSess_sess (byFirmware : Bool) :
    (closeSess i byFirmware s).sess i = { Sess.init with sgen := (s.sess i).sgen } := by
  have hclosed := tget_tmod Sess.init s.pen.sess i fun x => { Sess.init with sgen := x.sgen }
  cases byFirmware
  · exact (State.raise_sess _ 13 i).trans hclosed
  · exact hclosed

@[simp] theorem closeSess_tx (byFirmware : Bool) : (closeSess i byFirmware s).pen.tx = s.pen.tx := by
  cases byFirmware
  · exact (congrArg PenSt.tx (State.raise_pen _ 13)).trans rfl
  · rfl

theorem closeSess_pend : (closeSess i false s).pend 13 = true := State.raise_pend _ 13

theorem closeSpent_of_free (hfree : (s.sess i).st = 0) : closeSpent i s = s := if_neg fun h => h.1 hfree

theorem closeSpent_of_unspent (hin : (s.sess i).h < 0xFFFFFFFF) (hout : (s.sess i).tx < 0xFFFFFFFF) :
    closeSpent i s = s := if_neg fun h => h.2.elim hin.ne hout.ne

end

/-! ### The checks of a datagram (R285 to R287, R310) -/

section
variable {s : State} {d : Dgram}

/-- A datagram that passes is counted, and its TYPE tells an OPEN from a message of a session. -/
theorem penReceive_of_hears (h : s.hears d = true) :
    penReceive d s = if beAt d.payload 1 1 = 1 then openReceive d (msgOf d.payload) (s.bump F.PVE_RXCNT)
      else messageReceive d (msgOf d.payload) (s.bump F.PVE_RXCNT) := by
  simp only [State.hears, Bool.and_eq_true, Bool.or_eq_true, Bool.not_eq_true', decide_eq_true_eq] at h
  obtain ⟨⟨⟨⟨⟨⟨hup, hpenvar⟩, hen⟩, hip⟩, hmin, hmax, hlen⟩, hversion⟩, hflags⟩ := h
  have hpv1 : (s.bump F.PVE_RXCNT).flag F.PVE_PORTCFG_PV1EN = s.flag F.PVE_PORTCFG_PV1EN :=
    State.flagi_bump_ne s _ _ 0 (by decide)
  have hpv2 : (s.bump F.PVE_RXCNT).flag F.PVE_PORTCFG_PV2EN = s.flag F.PVE_PORTCFG_PV2EN :=
    State.flagi_bump_ne s _ _ 0 (by decide)
  have hpayload : penReceive d s = payloadReceive d (s.bump F.PVE_RXCNT) := by
    unfold penReceive
    simp only [hup, hpenvar, hen, hip, Bool.true_eq_false, Bool.false_eq_true, if_false]
  have hlength : ¬ (beAt d.payload 2 2 ≠ d.payload.length ∨ d.payload.length < 32 ∨
      (if d.peer.v6 = true then 1452 else 1472) < d.payload.length) := by omega
  have hzero : ¬ (4 ≤ d.payload.length ∧ beAt d.payload 2 2 = 0) := by omega
  have hoffered : ¬ ((beAt d.payload 0 1 ≠ 1 ∨ s.flag F.PVE_PORTCFG_PV1EN = false) ∧
      (beAt d.payload 0 1 ≠ 2 ∨ s.flag F.PVE_PORTCFG_PV2EN = false)) := by
    rcases hversion with ⟨hv, hon⟩ | ⟨hv, hon⟩ <;> simp [hv, hon]
  rw [hpayload]
  unfold payloadReceive
  simp only [hpv1, hpv2, hlength, hzero, hoffered, hflags, Bool.false_eq_true, if_false]

end

end Sys2Proof.Machine
end

section
/-! PROOF. A message of a host received on its session (R298 to R305, R312): the checks that it has passed, the state in which
it is handled, and the reply it gets (R288, R311). -/
namespace Sys2Proof.Machine

/-! ### Sums over a sparse table -/

section
variable {α : Type} (g : α → Nat)

theorem foldl_add_eq_sum {β : Type} (g : β → Nat) (l : List β) (n : Nat) :
    l.foldl (fun n e => n + g e) n = n + (l.map g).sum := by
  induction l generalizing n with
  | nil => rfl
  | cons e r ih => simp [ih, Nat.add_assoc]

/-- What a table's values add up to. -/
def tsum (t : Tbl α) : Nat := (t.map fun e => g e.2).sum

theorem tsum_tdel_le (d : α) (hd : g d = 0) (t : Tbl α) (k : Nat) : tsum g (tdel t k) + g (tget d t k) ≤ tsum g t := by
  induction t with
  | nil => exact (Nat.zero_add _).le.trans hd.le
  | cons e r ih =>
    unfold tsum at ih ⊢
    by_cases h : e.1 = k
    · simp only [tdel, tget, h, if_true, List.map_cons, List.sum_cons]
      omega
    · simp only [tdel, tget, h, if_false, List.map_cons, List.sum_cons]
      omega

theorem tsum_tins (t : Tbl α) (k : Nat) (v : α) : tsum g (tins t k v) = tsum g t + g v := by
  induction t with
  | nil => simp [tsum, tins]
  | cons e r ih =>
    unfold tsum at ih ⊢
    unfold tins
    split_ifs
    · simp only [List.map_cons, List.sum_cons]
      omega
    · simp only [List.map_cons, List.sum_cons]
      omega

/-- A change that does not add at its key does not add to the table. -/
theorem tsum_tmod_le [DecidableEq α] (d : α) (hd : g d = 0) (t : Tbl α) (k : Nat) (f : α → α)
    (hf : g (f (tget d t k)) ≤ g (tget d t k)) : tsum g (tmod d t k f) ≤ tsum g t := by
  have hdel := tsum_tdel_le g d hd t k
  unfold tmod tset
  split_ifs
  · omega
  · rw [tsum_tins]
    omega

end

/-! ### Requests in flight (R305) -/

/-- The requests in flight of a session. -/
def Sess.busy (x : Sess) : Nat := x.cache.countP fun c => decide (c.2.st = .busy)

theorem State.inFlight_eq (s : State) : s.inFlight = tsum Sess.busy s.pen.sess :=
  (foldl_add_eq_sum (fun e : Nat × Sess => e.2.busy) s.pen.sess 0).trans (Nat.zero_add _)

/-- A session changed but for its cache leaves the places as they are. -/
theorem placesFull_touchSess {s : State} {i : Nat} {f : Sess → Sess} (hcache : (f (s.sess i)).cache = (s.sess i).cache)
    (h : s.placesFull = false) : (touchSess i f s).placesFull = false := by
  have hle : (touchSess i f s).inFlight ≤ s.inFlight := by
    rw [State.inFlight_eq, State.inFlight_eq]
    exact tsum_tmod_le Sess.busy Sess.init rfl s.pen.sess i f 
      (congrArg (List.countP fun c : Nat × CEntry => decide (c.2.st = .busy)) hcache).le
  unfold State.placesFull at h ⊢
  simp only [decide_eq_false_iff_not, not_le] at h ⊢
  exact hle.trans_lt h

/-! ### What an admitted message has passed -/

/-- The checks of `State.admits`, one by one (R298, R299, R305). -/
structure Admitted (s : State) (d : Dgram) : Prop where
  hears : s.hears d = true
  notOpen : (msgOf d.payload).typ ≠ 1
  authMs : s.pen.authMs < 2000
  decides : s.decides s.frame = true
  live : (s.sess (msgOf d.payload).sidx).st ≠ 0
  sgen : (s.sess (msgOf d.payload).sidx).sgen = (msgOf d.payload).sgen
  v2 : (s.sess (msgOf d.payload).sidx).v2 = (msgOf d.payload).v2
  tag : tagOk (s.sess (msgOf d.payload).sidx).khd d.payload = true
  inWindow : 1 ≤ (msgOf d.payload).seq ∧ (s.sess (msgOf d.payload).sidx).h < (msgOf d.payload).seq + 64 ∧
    (s.sess (msgOf d.payload).sidx).floor < (msgOf d.payload).seq
  notSeen : ¬ ((msgOf d.payload).seq ≤ (s.sess (msgOf d.payload).sidx).h ∧
    (s.sess (msgOf d.payload).sidx).map.testBit ((s.sess (msgOf d.payload).sidx).h - (msgOf d.payload).seq) = true)
  unspent : (msgOf d.payload).seq < 0xFFFFFFFF ∧ (s.sess (msgOf d.payload).sidx).h < 0xFFFFFFFF ∧
    (s.sess (msgOf d.payload).sidx).tx < 0xFFFFFFFE
  link : s.flagi F.NET_STAT_LINK d.peer.net = true
  place : s.placesFull = false

section
variable {s : State} {d : Dgram} {t k : Nat}

theorem admitted_of_admits (h : s.admits d = true) : Admitted s d := by
  simp only [State.admits, Bool.and_eq_true, Bool.not_eq_true', decide_eq_true_eq, Bool.and_eq_false_iff,
    decide_eq_false_iff_not] at h
  obtain ⟨⟨⟨⟨⟨⟨⟨⟨⟨⟨⟨⟨hhears, htyp⟩, hauth⟩, hdecides⟩, hlive⟩,
    hsgen⟩, hv2⟩, htag⟩, hwindow⟩, hseen⟩, hunspent⟩, hlink⟩, hplace⟩ := h
  refine ⟨hhears, htyp, hauth, hdecides, hlive, hsgen, hv2, htag, hwindow, fun hboth => ?_, hunspent, hlink, hplace⟩
  exact hseen.elim (fun hlater => hlater hboth.1) fun hbit => Bool.false_ne_true (hbit.symm.trans hboth.2)

/-- R312: what `State.accepts` adds: the TYPE, that its version offers it, and the size of the body. -/
theorem accepts_iff : s.accepts d t = true ↔ s.admits d = true ∧ (msgOf d.payload).typ = t ∧
    typeOk t (msgOf d.payload).v2 = true ∧ sizeOk d.peer.v6 t (msgOf d.payload).body = true := by
  simp only [State.accepts, Bool.and_eq_true, decide_eq_true_eq, and_assoc]

theorem asks_iff : s.asks d t k = true ↔ s.accepts d t = true ∧ cachedType t = true ∧
    granted s (msgOf d.payload).sidx t = true ∧ lookup s (msgOf d.payload) (crc32c (msgOf d.payload).body) = .fresh k := by
  simp only [State.asks, Bool.and_eq_true, decide_eq_true_eq, and_assoc]

theorem takes_iff : s.takes d t k = true ↔ s.asks d t k = true ∧ s.mirUp = false := by
  simp only [State.takes, Bool.and_eq_true, Bool.not_eq_true']

end

/-! ### The state in which it is handled (R288, R295, R299) -/

/-- The state in which an accepted message is handled, before firmware is told of it: `State.heard` but for its interrupt. -/
def State.greets (s : State) (d : Dgram) : State :=
  touchSess (msgOf d.payload).sidx (fun x =>
    { acceptSeq (msgOf d.payload).seq x with st := 2, peer := d.peer, fails := 0, timer := s.frame })
    (noteAuth (s.bump F.PVE_RXCNT))

theorem State.heard_eq (s : State) (d : Dgram) : s.heard d =
    if firmwareType (msgOf d.payload).typ (msgOf d.payload).body then (s.greets d).raise 15 else s.greets d := rfl

theorem acceptSeq_h (seq : Nat) (x : Sess) : (acceptSeq seq x).h = Nat.max x.h seq := by
  unfold acceptSeq
  split_ifs with hlater
  · exact (Nat.max_eq_right hlater.le).symm
  · exact (Nat.max_eq_left (Nat.le_of_not_lt hlater)).symm

/-- R299: a SEQ that has been accepted is marked in the map. -/
theorem acceptSeq_map (seq : Nat) (x : Sess) : (acceptSeq seq x).map.testBit ((acceptSeq seq x).h - seq) = true := by
  unfold acceptSeq
  split_ifs with hlater
  · have hshift : 2 ^ (seq - x.h) = 2 * 2 ^ (seq - x.h - 1) := by rw [← Nat.pow_succ']; congr 1; omega
    dsimp only
    rw [Nat.sub_self, Nat.testBit_zero, decide_eq_true_eq]
    split_ifs
    · rfl
    · rw [Nat.mod_mod_of_dvd _ (by decide), hshift, ← Nat.mul_assoc, Nat.mul_comm x.map 2, Nat.mul_assoc, Nat.mul_add_mod]
  · dsimp only
    rw [Nat.testBit_or, Nat.testBit_two_pow_self, Bool.or_true]

/-- What of a session its SEQ leaves alone. -/
theorem acceptSeq_eq (seq : Nat) (x : Sess) :
    acceptSeq seq x = { x with h := (acceptSeq seq x).h, map := (acceptSeq seq x).map } := by
  unfold acceptSeq
  split_ifs <;> rfl

section
variable {s : State} {d : Dgram}

theorem State.greets_sess : (s.greets d).sess (msgOf d.payload).sidx =
    { acceptSeq (msgOf d.payload).seq (s.sess (msgOf d.payload).sidx) with
      st := 2, peer := d.peer, fails := 0, timer := s.frame } := touchSess_sess _ _ _

theorem State.greets_fgi_ne (f : Fld) (i : Nat) (h : f.id ≠ F.PVE_RXCNT.id) : (s.greets d).fgi f i = s.fgi f i :=
  State.fgi_bump_ne s _ _ _ h

theorem State.greets_cache :
    ((s.greets d).sess (msgOf d.payload).sidx).cache = (s.sess (msgOf d.payload).sidx).cache := by
  rw [State.greets_sess, acceptSeq_eq]

/-- R298, R299: a message that is admitted takes its SEQ and is handled as a request. -/
theorem penReceive_of_admits (h : s.admits d = true) :
    penReceive d s = closeSpent (msgOf d.payload).sidx (request (msgOf d.payload) (s.greets d)) := by
  have adm := admitted_of_admits h
  obtain ⟨hfirst, hwindow, hfloor⟩ := adm.inWindow
  have hreplay : ¬ ((msgOf d.payload).seq = 0 ∨ (msgOf d.payload).seq + 64 ≤ (s.sess (msgOf d.payload).sidx).h ∨
      (msgOf d.payload).seq ≤ (s.sess (msgOf d.payload).sidx).floor) := by omega
  have hstale : ¬ ((s.sess (msgOf d.payload).sidx).st = 0 ∨ (s.sess (msgOf d.payload).sidx).sgen ≠ (msgOf d.payload).sgen) :=
    fun h => h.elim adm.live fun hne => hne adm.sgen
  have hreceived : messageReceive d (msgOf d.payload) (s.bump F.PVE_RXCNT) =
      authenticated d (msgOf d.payload) (noteAuth (s.bump F.PVE_RXCNT)) :=
    (if_neg adm.authMs.not_ge).trans ((if_neg fun hno => Bool.false_ne_true (hno.symm.trans adm.decides)).trans
      ((if_neg hstale).trans ((if_neg (not_not.mpr adm.v2)).trans (if_pos adm.tag))))
  rw [penReceive_of_hears adm.hears]
  exact (if_neg adm.notOpen).trans (hreceived.trans ((if_neg hreplay).trans (if_neg adm.notSeen)))

end

end Sys2Proof.Machine
end

section
/-! PROOF. A host's request handled and answered (R301, R308, R311, R312): the replies that a state gives as its message
found it, the completion of a CACHED request, alone and in a pair, and the messages that are answered at once. -/
namespace Sys2Proof.Machine

/-! ### States that answer a message as it was received -/

@[simp] theorem State.heard_tx (s : State) (d : Dgram) : (s.heard d).pen.tx = s.pen.tx := by
  rw [State.heard_eq]
  split_ifs
  · exact (congrArg PenSt.tx (State.raise_pen _ 15)).trans rfl
  · rfl

/-- What a session's replies are made of, and its counts. -/
def Sess.face (x : Sess) : Bool × Nat × List Byte × Nat × Nat × Peer := (x.v2, x.sgen, x.kdh, x.tx, x.h, x.peer)

/-- `u` answers the message of `d` as the state that received it would: the session's face, the sender's link and the mirror
link are those of that state. -/
structure State.Serves (s : State) (d : Dgram) (u : State) : Prop where
  face : (u.sess (msgOf d.payload).sidx).face = ((s.greets d).sess (msgOf d.payload).sidx).face
  link : u.fgi F.NET_STAT_LINK d.peer.net = s.fgi F.NET_STAT_LINK d.peer.net
  mirUp : u.fg F.MIR_STAT_UP = s.fg F.MIR_STAT_UP

/-- The header and body of the reply of session `i` to the message of `d` (R300, R310, R311). -/
def State.replyText (s : State) (d : Dgram) (a : Ans) : List Byte :=
  msgBytes (s.sess (msgOf d.payload).sidx).v2 (msgOf d.payload).typ (msgOf d.payload).sidx 1
    (s.sess (msgOf d.payload).sidx).sgen (add32 (s.sess (msgOf d.payload).sidx).tx 1) (msgOf d.payload).reqid
    (msgOf d.payload).rgen a.status (replyBody a.status a.detail a.body)

theorem State.replyTo_eq (s : State) (d : Dgram) (a : Ans) :
    s.replyTo d a = ⟨d.peer, tagged (s.sess (msgOf d.payload).sidx).kdh (s.replyText d a)⟩ := rfl

namespace State.Serves

section
variable {s u v : State} {d : Dgram}

theorem greets : s.Serves d (s.greets d) :=
  ⟨rfl, State.greets_fgi_ne _ _ (by decide), State.greets_fgi_ne _ 0 (by decide)⟩

/-- An operation that leaves the sessions and the two links alone leaves the reply as it is. -/
theorem of_seen (h : s.Serves d u) (e : Extent) (hseen : State.seen e v = State.seen e u) (hpen : e.p .pen = false)
    (hlink : e.r F.NET_STAT_LINK = false) (hmir : e.r F.MIR_STAT_UP = false) : s.Serves d v :=
  ⟨(congrArg Sess.face (State.sess_congr u (pen_of_seen e _ _ hseen hpen) _)).trans h.face,
    (State.fgi_of_seen e _ _ _ _ hseen hlink).trans h.link, (State.fgi_of_seen e _ _ _ 0 hseen hmir).trans h.mirUp⟩

theorem raise (h : s.Serves d u) (src : Nat) : s.Serves d (u.raise src) :=
  h.of_seen ⟨[.seqs], false, raiseFlds⟩ (State.raise_seen _ u src (by decide)) (by decide) (by decide) (by decide)

theorem heard : s.Serves d (s.heard d) := by
  rw [State.heard_eq]
  split_ifs
  · exact greets.raise 15
  · exact greets

/-- So does a change of what the session keeps besides. -/
theorem modSess (h : s.Serves d u) {f : Sess → Sess}
    (hface : (f (u.sess (msgOf d.payload).sidx)).face = (u.sess (msgOf d.payload).sidx).face) :
    s.Serves d (u.modSess (msgOf d.payload).sidx f) :=
  ⟨(congrArg Sess.face (State.sess_modSess u _ f)).trans (hface.trans h.face), h.link, h.mirUp⟩

theorem modPen (h : s.Serves d u) {g : PenSt → PenSt} (hsess : (g u.pen).sess = u.pen.sess) : s.Serves d (u.modPen g) :=
  ⟨(congrArg (fun t => (tget Sess.init t (msgOf d.payload).sidx).face) hsess).trans h.face, h.link, h.mirUp⟩

theorem touchSess (h : s.Serves d u) {f : Sess → Sess}
    (hface : (f (u.sess (msgOf d.payload).sidx)).face = (u.sess (msgOf d.payload).sidx).face) :
    s.Serves d (touchSess (msgOf d.payload).sidx f u) :=
  ⟨(congrArg Sess.face (touchSess_sess u _ f)).trans (hface.trans h.face), h.link, h.mirUp⟩

theorem taken (k : Nat) : s.Serves d (s.taken d k) := heard.modSess rfl

theorem setStage (h : s.Serves d u) (n : Nat) (g : Option Stage) : s.Serves d (setStage (msgOf d.payload).sidx n g u) :=
  h.modSess rfl

theorem parts (h : s.Serves d u) :
    (u.sess (msgOf d.payload).sidx).v2 = (s.sess (msgOf d.payload).sidx).v2 ∧
    (u.sess (msgOf d.payload).sidx).sgen = (s.sess (msgOf d.payload).sidx).sgen ∧
    (u.sess (msgOf d.payload).sidx).kdh = (s.sess (msgOf d.payload).sidx).kdh ∧
    (u.sess (msgOf d.payload).sidx).tx = (s.sess (msgOf d.payload).sidx).tx ∧
    (u.sess (msgOf d.payload).sidx).h = Nat.max (s.sess (msgOf d.payload).sidx).h (msgOf d.payload).seq ∧
    (u.sess (msgOf d.payload).sidx).peer = d.peer := by
  have hface := h.face
  rw [State.greets_sess, acceptSeq_eq, acceptSeq_h] at hface
  simpa only [Sess.face, Prod.mk.injEq] using hface

theorem replyText (h : s.Serves d u) (a : Ans) : u.replyText d a = s.replyText d a := by
  obtain ⟨hv2, hsgen, -, htx, -, -⟩ := h.parts
  unfold State.replyText
  rw [hv2, hsgen, htx]

theorem peerLink (h : s.Serves d u) (hadmits : s.admits d = true) :
    u.flagi F.NET_STAT_LINK (u.sess (msgOf d.payload).sidx).peer.net = true := by
  obtain ⟨-, -, -, -, -, hpeer⟩ := h.parts
  rw [hpeer]
  exact (State.flagi_congr s h.link).trans (admitted_of_admits hadmits).link

/-- A session whose message was admitted has numbers left after one reply, so it does not close (R297). -/
theorem unspent (h : s.Serves d u) (hadmits : s.admits d = true) (hin : (v.sess (msgOf d.payload).sidx).h =
      (u.sess (msgOf d.payload).sidx).h)
    (hout : (v.sess (msgOf d.payload).sidx).tx = add32 (u.sess (msgOf d.payload).sidx).tx 1) :
    closeSpent (msgOf d.payload).sidx v = v := by
  obtain ⟨hseq, hh, htx⟩ := (admitted_of_admits hadmits).unspent
  obtain ⟨-, -, -, htxEq, hhEq, -⟩ := h.parts
  refine closeSpent_of_unspent ?_ ?_
  · rw [hin, hhEq]
    exact Nat.max_lt.mpr ⟨hh, hseq⟩
  · rw [hout, htxEq]
    unfold add32
    omega

end

end State.Serves

/-! ### An answer sent at once (R311) -/

section
variable {s u : State} {d : Dgram}

theorem answer_of_serves (h : s.Serves d u) (hadmits : s.admits d = true) (a : Ans) :
    answer (msgOf d.payload) a u = u.transmits (msgOf d.payload).sidx (s.replyTo d a) := by
  obtain ⟨-, -, hkdh, -, -, hpeer⟩ := h.parts
  rw [State.replyTo_eq, ← h.replyText, ← hkdh, ← hpeer]
  exact sendMsg_formMsg _ _ _ _ _ _ (h.peerLink hadmits)

theorem closeSpent_transmits (h : s.Serves d u) (hadmits : s.admits d = true) (o : PenOut) :
    closeSpent (msgOf d.payload).sidx (u.transmits (msgOf d.payload).sidx o) = u.transmits (msgOf d.payload).sidx o :=
  h.unspent hadmits ((congrArg Sess.h (State.transmits_sess o)).trans rfl) (congrArg Sess.tx (State.transmits_sess o))

end

/-! ### A CACHED request carried out (R301, R308) -/

/-- The reply of session `i` is formed and kept in entry `k`. -/
def State.drafts (u : State) (i k : Nat) (text : List Byte) : State :=
  (touchSess i (fun x => { x with tx := add32 (u.sess i).tx 1 }) u).modEnt i k fun e => { e with reply := text }

/-- R301, R302: the reply kept in entry `k` of session `i` leaves as `o`, and the entry is COMPLETE. -/
def State.finishes (u : State) (i k : Nat) (o : PenOut) : State :=
  ((u.modEnt i k fun e => e.finish u.frame u.pen.ord).modPen fun p => { p with ord := p.ord + 1 }).modPen fun p =>
    { p with tx := p.tx ++ [o] }

/-- R308: the entry of a request is sent to the partner as `m`, and its reply waits in entry `k`. -/
def State.awaits (u : State) (i k : Nat) (m : MMsg) : State :=
  (ackedPush m u).2.modPen fun x =>
    { x with ord := x.ord + 1, flight := x.flight ++ [⟨i, (u.sess i).sgen, k, (ackedPush m u).1⟩] }

section
variable {u : State} {i k : Nat}

/-- The session once the reply is kept. -/
theorem State.drafts_sess (text : List Byte) : (u.drafts i k text).sess i =
    { u.sess i with
      tx := add32 (u.sess i).tx 1
      cache := tmod CEntry.init (u.sess i).cache k fun e => { e with reply := text } } := by
  rw [State.drafts, State.sess_modEnt, touchSess_sess]

/-- A draft has changed the Penvar engine alone, and of it what the sessions keep. -/
theorem State.drafts_eq (text : List Byte) :
    ∃ sess dirty, u.drafts i k text = { u with pen := { u.pen with sess := sess, dirty := dirty } } := ⟨_, _, rfl⟩

/-- Entry `k` of session `i`. -/
def State.entry (u : State) (i k : Nat) : CEntry := tget CEntry.init (u.sess i).cache k

theorem State.drafts_entry (text : List Byte) : (u.drafts i k text).entry i k = { u.entry i k with reply := text } := by
  simp only [State.entry, State.drafts_sess, tget_tmod]

theorem State.finishes_sess (o : PenOut) : (u.finishes i k o).sess i =
    { u.sess i with cache := tmod CEntry.init (u.sess i).cache k fun e => e.finish u.frame u.pen.ord } :=
  State.sess_modEnt u i k _

theorem State.finishes_entry (o : PenOut) : (u.finishes i k o).entry i k = (u.entry i k).finish u.frame u.pen.ord := by
  simp only [State.entry, State.finishes_sess, tget_tmod]

theorem finishEntry_eq (hlink : u.flagi F.NET_STAT_LINK (u.sess i).peer.net = true) :
    finishEntry i k u = u.finishes i k ⟨(u.sess i).peer, tagged (u.sess i).kdh (u.entry i k).reply⟩ := by
  have hsess : ((u.modEnt i k fun e => e.finish u.frame u.pen.ord).modPen fun p => { p with ord := p.ord + 1 }).sess i =
      { u.sess i with cache := tmod CEntry.init (u.sess i).cache k fun e => e.finish u.frame u.pen.ord } :=
    State.sess_modEnt u i k _
  unfold finishEntry
  dsimp only
  rw [hsess, tget_tmod]
  unfold sendMsg
  rw [hsess]
  exact penSend_of_link hlink

end

section
variable {s u : State} {d : Dgram} {k : Nat}

/-- What is left of a request that has been carried out: the answer is drafted, then sent or kept until the partner has it. -/
theorem complete_of_serves (h : s.Serves d u) (hadmits : s.admits d = true) (hmir : s.mirUp = false) (obj : Option Install)
    (a : Ans) :
    closeSpent (msgOf d.payload).sidx (complete (msgOf d.payload).sidx k (msgOf d.payload).typ (msgOf d.payload).reqid
      (msgOf d.payload).rgen obj a u) =
    (u.drafts (msgOf d.payload).sidx k (s.replyText d a)).finishes (msgOf d.payload).sidx k (s.replyTo d a) := by
  set i := (msgOf d.payload).sidx with hi
  obtain ⟨-, -, hkdh, -, -, hpeer⟩ := h.parts
  have hdraft := State.drafts_sess (u := u) (i := i) (k := k) (s.replyText d a)
  have hlink : (u.drafts i k (s.replyText d a)).flagi F.NET_STAT_LINK ((u.drafts i k (s.replyText d a)).sess i).peer.net =
      true := by
    rw [hdraft]
    exact h.peerLink hadmits
  have hfinish : finishEntry i k (u.drafts i k (s.replyText d a)) =
      (u.drafts i k (s.replyText d a)).finishes i k (s.replyTo d a) := by
    rw [finishEntry_eq hlink, State.drafts_entry, hdraft, State.replyTo_eq]
    dsimp only
    rw [hkdh, hpeer]
  have hspent : closeSpent i ((u.drafts i k (s.replyText d a)).finishes i k (s.replyTo d a)) =
      (u.drafts i k (s.replyText d a)).finishes i k (s.replyTo d a) := by
    refine h.unspent hadmits ?_ ?_
    · rw [State.finishes_sess, hdraft]
    · rw [State.finishes_sess, hdraft]
  have hcomplete : complete i k (msgOf d.payload).typ (msgOf d.payload).reqid (msgOf d.payload).rgen obj a u =
      closeSpent i (finishEntry i k (u.drafts i k (s.replyText d a))) := by
    rw [← h.replyText]
    exact if_neg fun hup => Bool.false_ne_true
      (hmir.symm.trans ((State.flagi_congr (u := u) s (i := 0) h.mirUp).symm.trans hup))
  rw [hcomplete, hfinish, hspent, hspent]

/-- What the partner is told of a request: the entry, with the object of a COMMIT. -/
def State.tells (u : State) (i k : Nat) (obj : Option Install) : MMsg :=
  match obj with
  | some x => .object x i k ((u.entry i k).finish u.frame u.pen.ord)
  | none => .cache i k ((u.entry i k).finish u.frame u.pen.ord)

theorem complete_of_serves_mirUp (h : s.Serves d u) (hadmits : s.admits d = true) (hmir : s.mirUp = true)
    (obj : Option Install) (a : Ans) :
    closeSpent (msgOf d.payload).sidx (complete (msgOf d.payload).sidx k (msgOf d.payload).typ (msgOf d.payload).reqid
      (msgOf d.payload).rgen obj a u) =
    (u.drafts (msgOf d.payload).sidx k (s.replyText d a)).awaits (msgOf d.payload).sidx k
      ((u.drafts (msgOf d.payload).sidx k (s.replyText d a)).tells (msgOf d.payload).sidx k obj) := by
  set i := (msgOf d.payload).sidx with hi
  set w := u.drafts i k (s.replyText d a) with hw
  have hdraft : w.sess i = _ := State.drafts_sess (u := u) (i := i) (k := k) (s.replyText d a)
  have hspent : closeSpent i (w.awaits i k (w.tells i k obj)) = w.awaits i k (w.tells i k obj) := by
    refine h.unspent hadmits ?_ ?_
    · exact (congrArg Sess.h hdraft).trans rfl
    · exact (congrArg Sess.tx hdraft)
  have hcomplete : complete i k (msgOf d.payload).typ (msgOf d.payload).reqid (msgOf d.payload).rgen obj a u =
      closeSpent i (w.awaits i k (w.tells i k obj)) := by
    rw [hw, ← h.replyText]
    exact if_pos ((State.flagi_congr (u := u) s (i := 0) h.mirUp).trans hmir)
  rw [hcomplete, hspent, hspent]

end

/-! ### A request that passes its checks (R305, R312) -/

/-- What a request that is not CACHED does. -/
def handleNow (m : PMsg) (u : State) : State :=
  match m.typ with
  | 0x02 => closeSess m.sidx false (answer m (.ok []) u)
  | 0x03 => answer m (.ok m.body) u
  | 0x30 => answer m (doQuery m.body u).1 (doQuery m.body u).2
  | _ => answer m (doManStatus m.body u) u

section
variable {s : State} {d : Dgram} {t : Nat}

theorem greets_placesFull (hadmits : s.admits d = true) : (s.greets d).placesFull = false := by
  refine placesFull_touchSess ?_ (admitted_of_admits hadmits).place
  dsimp only
  rw [acceptSeq_eq]

theorem greets_sizeOk (haccepts : s.accepts d t = true) : sizeOk ((s.greets d).sess (msgOf d.payload).sidx).peer.v6
    (msgOf d.payload).typ (msgOf d.payload).body = true := by
  obtain ⟨-, htyp, -, hsize⟩ := accepts_iff.mp haccepts
  rw [State.greets_sess, htyp]
  exact hsize

theorem request_of_uncached (haccepts : s.accepts d t = true) (huncached : cachedType t = false) :
    request (msgOf d.payload) (s.greets d) = handleNow (msgOf d.payload) (s.heard d) := by
  obtain ⟨hadmits, htyp, hoffered, -⟩ := accepts_iff.mp haccepts
  have hsize := greets_sizeOk haccepts
  have hplace := greets_placesFull hadmits
  rw [← htyp] at hoffered huncached
  unfold request
  simp only [hoffered, hsize, huncached, hplace, Bool.true_eq_false, Bool.false_eq_true, if_false]
  rfl

theorem handleNow_ping {u : State} {m : PMsg} (h : m.typ = 0x03) : handleNow m u = answer m (.ok m.body) u := by
  simp only [handleNow, h]

theorem handleNow_close {u : State} {m : PMsg} (h : m.typ = 0x02) :
    handleNow m u = closeSess m.sidx false (answer m (.ok []) u) := by
  simp only [handleNow, h]

theorem handleNow_query {u : State} {m : PMsg} (h : m.typ = 0x30) :
    handleNow m u = answer m (doQuery m.body u).1 (doQuery m.body u).2 := by
  simp only [handleNow, h]

theorem handleNow_status {u : State} {m : PMsg} (h : m.typ = 0x31) :
    handleNow m u = answer m (doManStatus m.body u) u := by
  simp only [handleNow, h]

/-- A command carries the message that it names. -/
theorem penRow_of_type (htyp : (msgOf d.payload).typ = t) : penRow (isType t) d s = .next (penReceive d s) :=
  congrArg Host.Outcome.next (if_pos (decide_eq_true htyp))

theorem penRow_of_op {op : Nat} (htyp : (msgOf d.payload).typ = t) (hop : beAt d.payload 16 1 = op) :
    penRow (isOp t op) d s = .next (penReceive d s) :=
  congrArg Host.Outcome.next (if_pos (Bool.and_eq_true_iff.mpr ⟨decide_eq_true htyp, decide_eq_true hop⟩))

end

end Sys2Proof.Machine
end

section
/-! PROOF. How a session opens and closes (R293 to R297): an OPEN that waits for firmware, its ACCEPT and its REFUSE, and the
closings. -/
namespace Sys2Proof.Machine

/-! ### An OPEN received (R293) -/

section
variable (s : State)

/-- The count of datagrams is none of the registers of requesters. -/
theorem requester_counted (rid : Nat) : (s.bump F.PVE_RXCNT).requester rid = s.requester rid := by
  unfold State.requester
  simp only [fun i => State.flagi_bump_ne s F.PVE_RXCNT F.PVE_RCFG_VALID i (by decide),
    fun i => State.fgi_bump_ne s F.PVE_RXCNT F.PVE_RID_RID i (by decide)]

theorem mayOpen_counted (r : Nat) (v2 : Bool) : (s.bump F.PVE_RXCNT).mayOpen r v2 = s.mayOpen r v2 := by
  unfold State.mayOpen
  rw [State.fgi_bump_ne s _ _ _ (by decide), State.flagi_bump_ne s _ _ _ (by decide), State.flagi_bump_ne s _ _ _ (by decide)]
  rfl

theorem openKey_counted (r : Nat) : (s.bump F.PVE_RXCNT).openKey r = s.openKey r := by
  unfold State.openKey
  rw [State.fgi_bump_ne s _ _ _ (by decide), State.fgi_bump_ne s _ _ _ (by decide)]
  rfl

end

/-- An authentic OPEN joins the queue of firmware, within the limits of its millisecond. -/
def queueOpen (o : OpenReq) (s : State) : State :=
  ((noteAuth (s.modPen fun p => { p with openMs := p.openMs + 1 })).modPen fun p => { p with openq := p.openq ++ [o] }).raise 12

theorem queueOpen_shows (o : OpenReq) (s : State) :
    (queueOpen o s).pen.openq = s.pen.openq ++ [o] ∧ (queueOpen o s).pend 12 = true ∧ (queueOpen o s).pen.tx = s.pen.tx ∧
    (queueOpen o s).pen.sess = s.pen.sess := by
  have hpen := State.raise_pen ((noteAuth (s.modPen fun p => { p with openMs := p.openMs + 1 })).modPen fun p =>
    { p with openq := p.openq ++ [o] }) 12
  exact ⟨(congrArg PenSt.openq hpen).trans rfl, State.raise_pend _ 12, (congrArg PenSt.tx hpen).trans rfl,
    (congrArg PenSt.sess hpen).trans rfl⟩

section
variable {s : State} {d : Dgram} {m : PMsg} {r : Nat}

theorem openReceive_of_authentic (hdecides : s.decides s.frame = true) (hlength : m.body.length = 20)
    (hrate : s.pen.openMs < Nat.max 1 (s.fg F.PVE_OPENLIM_RATE)) (hauth : s.pen.authMs < 2000)
    (hrequester : s.requester (beAt m.body 0 4) = some r) (hmay : s.mayOpen r m.v2 = true)
    (htag : tagOk (s.openKey r) d.payload = true) (hroom : s.pen.openq.length < 16) :
    openReceive d m s = queueOpen ⟨r, m.v2, m.body.drop 4, m.reqid, m.rgen, d.peer, s.frame⟩ s := by
  have hfound : (noteAuth (s.modPen fun p => { p with openMs := p.openMs + 1 })).requester (beAt m.body 0 4) = some r :=
    hrequester
  unfold openReceive
  rw [if_neg (by simp [hdecides]), if_neg (not_not.mpr hlength), if_neg hrate.not_ge, if_neg hauth.not_ge]
  dsimp only
  rw [hfound]
  exact (if_pos (Bool.and_eq_true_iff.mpr ⟨hmay, htag⟩)).trans (if_neg hroom.not_ge)

end

/-! ### ACCEPT and REFUSE (R294, R296) -/

/-- R294, R296: the session that ACCEPT makes of an OPEN, HALF and under a new generation. -/
def newSess (s : State) (o : OpenReq) : Sess :=
  let i := s.fg F.PVE_SSEL_SESSION
  let sgen := (s.sess i).sgen % 65535 + 1
  let keys := sessKeys s o i sgen (beBytes 16 (Config.entropy s.fresh).toNat)
  { Sess.init with
    st := 1, v2 := o.v2, rq := o.rq, sgen := sgen, khd := keys.take 32, kdh := keys.drop 32, peer := o.peer, timer := s.frame }

/-- The state in which the answer to an accepted OPEN is formed. -/
def acceptOpen (s : State) (o : OpenReq) (rest : List OpenReq) : State :=
  touchSess (s.fg F.PVE_SSEL_SESSION) (fun _ => newSess s o)
    (State.bump { (s.modPen fun p => { p with openq := rest }) with fresh := s.fresh + 1 } F.PVE_ACCCNT)

section
variable {s : State} {o : OpenReq} {rest : List OpenReq}

theorem acceptOpen_sess : (acceptOpen s o rest).sess (s.fg F.PVE_SSEL_SESSION) = newSess s o := touchSess_sess _ _ _

theorem acceptOpen_tx : (acceptOpen s o rest).pen.tx = s.pen.tx := rfl

theorem acceptOpen_count :
    (acceptOpen s o rest).fg F.PVE_ACCCNT = Nat.min (s.fg F.PVE_ACCCNT + 1) (2 ^ 32 - 1) :=
  State.fg_bump { (s.modPen fun p => { p with openq := rest }) with fresh := s.fresh + 1 } F.PVE_ACCCNT

theorem acceptOpen_fgi_ne (f : Fld) (i : Nat) (h : f.id ≠ F.PVE_ACCCNT.id) :
    (acceptOpen s o rest).fgi f i = s.fgi f i := State.fgi_bump_ne _ _ _ _ h

/-- The OPEN at the head of the queue is answered under SEQ 1 of the new session, to the peer that it came from. -/
theorem scmdAccept_of_open (hqueue : s.pen.openq = o :: rest) (hrng : s.flag F.PVE_STAT_RNGFAIL = false)
    (hfree : (s.sess (s.fg F.PVE_SSEL_SESSION)).st = 0) (hlink : s.flagi F.NET_STAT_LINK o.peer.net = true) :
    scmdAccept s = (acceptOpen s o rest).transmits (s.fg F.PVE_SSEL_SESSION)
      ⟨o.peer, tagged (newSess s o).kdh (msgBytes o.v2 1 (s.fg F.PVE_SSEL_SESSION) 1 (newSess s o).sgen 1 o.reqid o.rgen 0
        (beBytes 16 (Config.entropy s.fresh).toNat ++ beBytes 2 (s.fg F.PVE_TCFG_IDLE) ++
          beBytes 2 (s.fg F.PVE_TCFG_HALFTMO)))⟩ := by
  have hallowed : ¬ (s.flag F.PVE_STAT_RNGFAIL = true ∨ (s.sess (s.fg F.PVE_SSEL_SESSION)).st ≠ 0) := by simp [hrng, hfree]
  have hidle : (acceptOpen s o rest).fg F.PVE_TCFG_IDLE = s.fg F.PVE_TCFG_IDLE := acceptOpen_fgi_ne _ 0 (by decide)
  have hhalf : (acceptOpen s o rest).fg F.PVE_TCFG_HALFTMO = s.fg F.PVE_TCFG_HALFTMO := acceptOpen_fgi_ne _ 0 (by decide)
  have hsent := sendMsg_formMsg (s := acceptOpen s o rest) (i := s.fg F.PVE_SSEL_SESSION) 1 1 0
    (beBytes 16 (Config.entropy s.fresh).toNat ++ beBytes 2 (s.fg F.PVE_TCFG_IDLE) ++ beBytes 2 (s.fg F.PVE_TCFG_HALFTMO))
    o.reqid o.rgen (by
      rw [acceptOpen_sess]
      exact (State.flagi_congr s (acceptOpen_fgi_ne _ _ (by decide))).trans hlink)
  rw [acceptOpen_sess] at hsent
  unfold scmdAccept
  dsimp only
  rw [hqueue]
  dsimp only
  rw [if_neg hallowed]
  rw [← hidle, ← hhalf] at hsent ⊢
  exact hsent

theorem scmdAccept_of_none (h : s.pen.openq = [] ∨ s.flag F.PVE_STAT_RNGFAIL = true ∨
    (s.sess (s.fg F.PVE_SSEL_SESSION)).st ≠ 0) : scmdAccept s = s.fs F.PVE_STAT_CMDERR 1 := by
  unfold scmdAccept
  dsimp only
  cases hqueue : s.pen.openq with
  | nil => rfl
  | cons o rest => exact if_pos (h.resolve_left (by simp [hqueue]))

theorem scmdRefuse_of_open (hqueue : s.pen.openq = o :: rest) (hlink : s.flagi F.NET_STAT_LINK o.peer.net = true) :
    scmdRefuse s = (s.modPen fun p => { p with openq := rest }).modPen fun p => { p with tx := p.tx ++
      [⟨o.peer, tagged (s.openKey o.rq) (openReply o.v2 o.reqid o.rgen (if s.flag F.PVE_SCMD_REFCODE then 4 else 2))⟩] } := by
  unfold scmdRefuse
  rw [hqueue]
  exact penSend_of_link hlink

theorem scmdRefuse_of_none (hqueue : s.pen.openq = []) : scmdRefuse s = s.fs F.PVE_STAT_CMDERR 1 := by
  unfold scmdRefuse
  rw [hqueue]

end

/-! ### Closings (R295, R297) -/

section
variable {s : State} {i : Nat}

theorem timerDue_of_age {t : Nat} (htick : s.coming % 1000 = 0) (hage : 1000 * t ≤ sub32 s.coming (s.sess i).timer) :
    s.timerDue i t = true := by
  simp [State.timerDue, State.msTick, htick, hage]

theorem halfTimeout_of_due (hholds : s.holds = true) (hhalf : (s.sess i).st = 1) (htick : s.coming % 1000 = 0)
    (hage : 1000 * Nat.max 1 (s.fg F.PVE_TCFG_HALFTMO) ≤ sub32 s.coming (s.sess i).timer) :
    halfTimeout i s = closeSess i false s := if_pos ⟨hholds, hhalf, timerDue_of_age htick hage⟩

theorem idleTimeout_of_due (hholds : s.holds = true) (hopen : (s.sess i).st = 2) (hon : s.fg F.PVE_TCFG_IDLE ≠ 0)
    (htick : s.coming % 1000 = 0) (hage : 1000000 * s.fg F.PVE_TCFG_IDLE ≤ sub32 s.coming (s.sess i).timer) :
    idleTimeout i s = closeSess i false s :=
  if_pos ⟨hholds, hopen, hon, timerDue_of_age htick (by rwa [← Nat.mul_assoc])⟩

theorem closeSess_timer_shows : (closeSess i false s).sess i = { Sess.init with sgen := (s.sess i).sgen } ∧
    (closeSess i false s).pend 13 = true ∧ (closeSess i false s).pen.tx = s.pen.tx :=
  ⟨closeSess_sess false, closeSess_pend, closeSess_tx false⟩

end

/-! ### The family -/

section
variable {s : State} {d : Dgram}

/-- R297: a CLOSE of the host is answered, and its session is FREE under the generation it had. -/
theorem penReceive_of_close (haccepts : s.accepts d 2 = true) :
    penReceive d s = closeSess (msgOf d.payload).sidx false
      ((s.heard d).transmits (msgOf d.payload).sidx (s.replyTo d (.ok []))) := by
  obtain ⟨hadmits, htyp, -, -⟩ := accepts_iff.mp haccepts
  rw [penReceive_of_admits hadmits, request_of_uncached haccepts rfl, handleNow_close htyp,
    answer_of_serves State.Serves.heard hadmits]
  exact closeSpent_of_free (congrArg Sess.st (closeSess_sess false))

end

/-- Settles O37: an OPEN is queued (`openReceive_of_authentic`), accepted (`scmdAccept_of_open`) or refused
(`scmdRefuse_of_open`), and each close is a `closeSess`, whose session, replies and interrupt are shown once. -/
theorem sessionsOpenAndClose : Obligations.SessionsOpenAndClose := by
  refine ⟨fun d r s hhears htyp hdecides hlength hrate hauth hrequester hmay htag hroom => ?queued,
    fun d s haccepts => ⟨penReceive d s, penRow_of_type (accepts_iff.mp haccepts).2.1, ?closed⟩,
    fun s o rest hqueue hrng hfree hlink => ⟨scmdAccept s, rfl, ?accepted⟩,
    fun s h => congrArg Host.Outcome.next (scmdAccept_of_none h),
    fun refcode s o rest hqueue hlink => ⟨scmdRefuse (s.fs F.PVE_SCMD_REFCODE refcode.val), rfl, ?refused⟩,
    fun refcode s hqueue => congrArg Host.Outcome.next (scmdRefuse_of_none hqueue),
    fun s hlive => ⟨closeSess (s.fg F.PVE_SSEL_SESSION) true s, congrArg Host.Outcome.next (if_neg hlive), closeSess_sess true,
      closeSess_tx true, rfl⟩,
    fun i s hholds hhalf htick hage => ⟨closeSess i.val false s,
      congrArg Host.Outcome.next (halfTimeout_of_due hholds hhalf htick hage), closeSess_timer_shows⟩,
    fun i s hholds hopen hon htick hage => ⟨closeSess i.val false s,
      congrArg Host.Outcome.next (idleTimeout_of_due hholds hopen hon htick hage), closeSess_timer_shows⟩⟩
  case queued =>
    have hcounted : ∀ f : Fld, f.id ≠ F.PVE_RXCNT.id → (s.bump F.PVE_RXCNT).fg f = s.fg f := fun f h =>
      State.fgi_bump_ne s _ _ 0 h
    have hqueued := openReceive_of_authentic (s := s.bump F.PVE_RXCNT) (d := d) hdecides hlength
      (by rwa [hcounted _ (by decide)]) hauth (by rwa [requester_counted]) (by rwa [mayOpen_counted])
      (by rwa [openKey_counted]) hroom
    have hreceived : penReceive d s = _ := (penReceive_of_hears hhears).trans ((if_pos htyp).trans hqueued)
    exact ⟨penReceive d s, penRow_of_type htyp, hreceived ▸ queueOpen_shows _ _⟩
  case closed =>
    extract_lets i
    have hsess : (penReceive d s).sess i = { Sess.init with sgen := (s.sess i).sgen } := by
      rw [penReceive_of_close haccepts, closeSess_sess, State.transmits_sess]
      obtain ⟨-, hsgen, -⟩ := (State.Serves.heard (s := s) (d := d)).parts
      rw [hsgen]
    have htx : (penReceive d s).pen.tx = s.pen.tx ++ [s.replyTo d (.ok [])] := by
      rw [penReceive_of_close haccepts, closeSess_tx, State.transmits_tx, State.heard_tx]
    rw [hsess, htx, penReceive_of_close haccepts]
    exact ⟨rfl, rfl, rfl, rfl, rfl, closeSess_pend⟩
  case accepted =>
    extract_lets i g nd
    have hanswered := scmdAccept_of_open hqueue hrng hfree hlink
    have hsess : (scmdAccept s).sess i = { newSess s o with tx := 1 } := by
      rw [hanswered, State.transmits_sess, acceptOpen_sess]
      rfl
    rw [hsess, hanswered, State.transmits_tx, acceptOpen_tx]
    exact ⟨rfl, rfl, rfl, rfl, rfl, rfl, rfl, rfl, rfl, rfl, rfl, rfl, acceptOpen_count (o := o), rfl⟩
  case refused =>
    have hkept : ∀ (f : Fld) (i : Nat), f.id ≠ F.PVE_SCMD_REFCODE.id →
        (s.fs F.PVE_SCMD_REFCODE refcode.val).fgi f i = s.fgi f i := fun f i h => State.fgi_fsi_ne _ _ _ _ _ _ h
    have hkey : (s.fs F.PVE_SCMD_REFCODE refcode.val).openKey o.rq = s.openKey o.rq := by
      unfold State.openKey
      rw [hkept _ _ (by decide), hkept _ _ (by decide)]
      rfl
    have hcode : (s.fs F.PVE_SCMD_REFCODE refcode.val).flag F.PVE_SCMD_REFCODE = decide (refcode.val = 1) := by
      unfold State.flag
      rw [State.fg_fs]
      clear hkept hkey
      revert refcode
      decide
    rw [scmdRefuse_of_open (s := s.fs F.PVE_SCMD_REFCODE refcode.val) hqueue
      ((State.flagi_congr s (hkept _ _ (by decide))).trans hlink), hkey, hcode]
    simp only [decide_eq_true_eq]
    exact ⟨rfl, rfl, rfl⟩

end Sys2Proof.Machine
end

section
/-! PROOF. Messages that read the device (R311, R312, R323, R324). -/
namespace Sys2Proof.Machine

/-! ### The body of a message (R310) -/

section
variable {d : Dgram}

theorem msgOf_body_length : (msgOf d.payload).body.length = d.payload.length - 16 - 16 := by
  simp [msgOf]

/-- A field of the body is the field of the payload 16 bytes on. -/
theorem beAt_body {j n : Nat} (h : j + n ≤ (msgOf d.payload).body.length) :
    beAt (msgOf d.payload).body j n = beAt d.payload (16 + j) n := by
  have hbytes : ((msgOf d.payload).body.drop j).take n = (d.payload.drop (16 + j)).take n := by
    rw [msgOf_body_length] at h
    change (((d.payload.take (d.payload.length - 16)).drop 16).drop j).take n = _
    rw [List.drop_drop, List.drop_take, List.take_take, Nat.min_eq_left (by omega)]
  unfold beAt slice
  rw [hbytes]

end

/-! ### What the receipt of a message leaves alone -/

/-- What the receipt of a message may change. -/
def Extent.hearing : Extent := ⟨[.seqs, .pen], false, F.PVE_RXCNT :: raiseFlds⟩

section
variable (s : State) (d : Dgram)

theorem State.heard_seen : State.seen .hearing (s.heard d) = State.seen .hearing s := by
  have hgreets : State.seen .hearing (s.greets d) = State.seen .hearing s :=
    (touchSess_seen _ _ _ _ (by decide)).trans ((noteAuth_seen _ _ (by decide)).trans (State.bump_seen _ _ _ (by decide)))
  rw [State.heard_eq]
  split_ifs
  · exact (State.raise_seen _ _ 15 (by decide)).trans hgreets
  · exact hgreets

theorem State.heard_fgi (f : Fld) (i : Nat) (hf : Extent.hearing.r f = false) : (s.heard d).fgi f i = s.fgi f i :=
  State.fgi_of_seen _ _ _ f i (State.heard_seen s d) hf

theorem State.heard_dev : (s.heard d).dev = s.dev := dev_of_seen _ _ _ (State.heard_seen s d) (by decide)
theorem State.heard_frame : (s.heard d).frame = s.frame := frame_of_seen _ _ _ (State.heard_seen s d) (by decide)
theorem State.heard_time : (s.heard d).time = s.time := time_of_seen _ _ _ (State.heard_seen s d) (by decide)
theorem State.heard_fab : (s.heard d).fab = s.fab := fab_of_seen _ _ _ (State.heard_seen s d) (by decide)
theorem State.heard_exec : (s.heard d).exec = s.exec := exec_of_seen _ _ _ (State.heard_seen s d) (by decide)
theorem State.heard_sched : (s.heard d).sched = s.sched := sched_of_seen _ _ _ (State.heard_seen s d) (by decide)
theorem State.heard_port : (s.heard d).port = s.port := port_of_seen _ _ _ (State.heard_seen s d) (by decide)

/-- Of the Penvar engine it changes the session and the count of messages authenticated. -/
theorem State.heard_pen : (s.heard d).pen = (s.greets d).pen := by
  rw [State.heard_eq]
  split_ifs
  · exact State.raise_pen _ 15
  · rfl

theorem State.heard_sess (i : Nat) : (s.heard d).sess i = (s.greets d).sess i :=
  State.sess_congr _ (State.heard_pen s d) i

theorem State.heard_count : (s.heard d).fg F.PVE_RXCNT = Nat.min (s.fg F.PVE_RXCNT + 1) (2 ^ 32 - 1) := by
  rw [State.heard_eq]
  split_ifs
  · exact (State.raise_fgi _ 15 _ 0 (by decide)).trans (State.fg_bump s F.PVE_RXCNT)
  · exact State.fg_bump s F.PVE_RXCNT

/-- R312: firmware is told of what it carries out. -/
theorem State.heard_pend (hfirmware : firmwareType (msgOf d.payload).typ (msgOf d.payload).body = true) :
    (s.heard d).pend 15 = true := by
  rw [State.heard_eq, if_pos hfirmware]
  exact State.raise_pend _ 15

end

/-! ### Replies (R311) -/

section
variable {s u : State} {d : Dgram} {a : Ans}

theorem penReceive_of_ping (haccepts : s.accepts d 3 = true) :
    penReceive d s = (s.heard d).transmits (msgOf d.payload).sidx (s.replyTo d (.ok (msgOf d.payload).body)) := by
  obtain ⟨hadmits, htyp, -, -⟩ := accepts_iff.mp haccepts
  rw [penReceive_of_admits hadmits, request_of_uncached haccepts rfl, handleNow_ping htyp,
    answer_of_serves State.Serves.heard hadmits, closeSpent_transmits State.Serves.heard hadmits]

/-- What a QUERY may change: what the reads of registers latch, and the error response of a read that no block answers. -/
def Extent.query : Extent := ⟨[.seqs, .rdata], false, raiseFlds ++ [F.MTX_ERRADDR_ADDR, F.MTX_ERRCNT, F.MTX_ERRSTAT_CAUSE,
  F.MTX_ERRSTAT_MASTER, F.MTX_ERRSTAT_OVR, F.MTX_ERRSTAT_VALID, F.MTX_ERRSTAT_WRITE, F.NET_TXTSF_VALUE, F.SCH_QBALHI_BAL,
  F.SCH_QFTHI_FT, F.SCH_VTHI_VT, F.TIM_TBnFRAC_VALUE, F.TIM_TBnWRAP_VALUE]⟩

/-- R323: a QUERY is answered with what it found. -/
theorem penReceive_of_query (haccepts : s.accepts d 0x30 = true) (hquery : doQuery (msgOf d.payload).body (s.heard d) = (a, u)) :
    penReceive d s = u.transmits (msgOf d.payload).sidx (s.replyTo d a) := by
  obtain ⟨hadmits, htyp, -, -⟩ := accepts_iff.mp haccepts
  have hserves : s.Serves d u := by
    refine State.Serves.heard.of_seen .query ?_ (by decide) (by decide) (by decide)
    exact (congrArg (fun r : Ans × State => State.seen .query r.2) hquery).symm.trans (doQuery_seen _ _ _ (by decide))
  rw [penReceive_of_admits hadmits, request_of_uncached haccepts rfl, handleNow_query htyp, hquery,
    answer_of_serves hserves hadmits, closeSpent_transmits hserves hadmits]

theorem penReceive_of_status (haccepts : s.accepts d 0x31 = true) :
    penReceive d s = (s.heard d).transmits (msgOf d.payload).sidx
      (s.replyTo d (doManStatus (msgOf d.payload).body (s.heard d))) := by
  obtain ⟨hadmits, htyp, -, -⟩ := accepts_iff.mp haccepts
  rw [penReceive_of_admits hadmits, request_of_uncached haccepts rfl, handleNow_status htyp,
    answer_of_serves State.Serves.heard hadmits, closeSpent_transmits State.Serves.heard hadmits]

theorem penReceive_of_unknown (hadmits : s.admits d = true)
    (hunknown : typeOk (msgOf d.payload).typ (msgOf d.payload).v2 = false) :
    penReceive d s = (s.greets d).transmits (msgOf d.payload).sidx (s.replyTo d (.mal 1)) := by
  have hrequest : request (msgOf d.payload) (s.greets d) = answer (msgOf d.payload) (.mal 1) (s.greets d) := if_pos hunknown
  rw [penReceive_of_admits hadmits, hrequest, answer_of_serves State.Serves.greets hadmits,
    closeSpent_transmits State.Serves.greets hadmits]

end

/-! ### The items of a QUERY (R323) -/

theorem slotBody_congr {s u : State} (hfab : u.fab = s.fab) (hframe : u.frame = s.frame) (n : Nat) :
    slotBody u n = slotBody s n := by
  unfold slotBody State.inService State.slot State.bun
  rw [hfab, hframe]

theorem circuit_congr {s u : State} (hexec : u.exec = s.exec) (c : Nat) : u.circuit c = s.circuit c :=
  congrArg (fun x : ExecSt => tget (⟨0, 0⟩ : Circuit) x.circuits c) hexec

theorem que_congr {s u : State} (hsched : u.sched = s.sched) (q : Nat) : u.que q = s.que q :=
  congrArg (fun x : SchedSt => tget ReqQueue.init x.queues q) hsched

theorem xrec_congr {s u : State} (hexec : u.exec = s.exec) (r : Nat) : u.xrec r = s.xrec r :=
  congrArg (fun x : ExecSt => tget ExecRec.init x.recs r) hexec

/-- R321, R324: what an EXEC_ID names is found in the records, as many as are configured. -/
theorem execRec_congr {s u : State} (hexec : u.exec = s.exec) (hcount : u.fg F.MAN_RECCFG_RECCNT = s.fg F.MAN_RECCFG_RECCNT)
    (id : Nat) : u.execRec id = s.execRec id := by
  unfold State.execRec State.recCnt
  simp only [hcount, xrec_congr hexec]

theorem execRec_of_toOption {s : State} {id r : Nat} (h : (s.execRec id).toOption = some r) : s.execRec id = .ok r := by
  cases hrec : s.execRec id with
  | error a => rw [hrec] at h; cases h
  | ok k => rw [hrec] at h; cases h; rfl

section
variable {s : State} {d : Dgram}

theorem State.heard_time64 : (s.heard d).time64 = s.time64 := by
  unfold State.time64 State.tb
  rw [State.heard_time, State.heard_pen]
  rfl

theorem State.heard_execRec (id : Nat) : (s.heard d).execRec id = s.execRec id :=
  execRec_congr (State.heard_exec s d) (State.heard_fgi s d _ _ (by decide)) id

theorem recBytes_heard (r : Nat) : recBytes (s.heard d) r = recBytes s r := by
  unfold recBytes State.bmpAddr State.bmpSz State.fg
  rw [State.heard_fgi s d _ _ (by decide), State.heard_fgi s d _ _ (by decide), xrec_congr (State.heard_exec s d)]

theorem bmpAt_heard (r k : Nat) : bmpAt (s.heard d) r k = bmpAt s r k := by
  unfold bmpAt
  rw [xrec_congr (State.heard_exec s d)]

end

section
variable {s : State} {d : Dgram}

/-- The fields of a QUERY: its item and its two arguments. -/
theorem query_fields (haccepts : s.accepts d 0x30 = true) : beAt (msgOf d.payload).body 0 1 = beAt d.payload 16 1 ∧
    beAt (msgOf d.payload).body 2 2 = beAt d.payload 18 2 ∧ beAt (msgOf d.payload).body 4 4 = beAt d.payload 20 4 := by
  have hsize : (msgOf d.payload).body.length = 8 := of_decide_eq_true (accepts_iff.mp haccepts).2.2.2
  exact ⟨beAt_body (by omega), beAt_body (by omega), beAt_body (by omega)⟩

/-- The fields of a MANIFEST_STATUS: the EXEC_ID, the first word of the bitmap and how many. -/
theorem status_fields (haccepts : s.accepts d 0x31 = true) : beAt (msgOf d.payload).body 0 4 = beAt d.payload 16 4 ∧
    beAt (msgOf d.payload).body 4 2 = beAt d.payload 20 2 ∧ beAt (msgOf d.payload).body 6 2 = beAt d.payload 22 2 := by
  have hsize : (msgOf d.payload).body.length = 8 := of_decide_eq_true (accepts_iff.mp haccepts).2.2.2
  exact ⟨beAt_body (by omega), beAt_body (by omega), beAt_body (by omega)⟩

/-- R312: the items of QUERY that firmware answers. -/
theorem heard_pend_of_query (haccepts : s.accepts d 0x30 = true) (hitem : beAt d.payload 16 1 ∈ [2, 7]) :
    (s.heard d).pend 15 = true := by
  refine State.heard_pend s d ?_
  rw [(accepts_iff.mp haccepts).2.1, firmwareType, (query_fields haccepts).1]
  simp [hitem]

end

/-! ### The family -/

/-- Settles O38: each message is answered by `answer` in the state `State.heard` (`penReceive_of_ping`, `penReceive_of_query`,
`penReceive_of_status`, `penReceive_of_unknown`), and what it reads there is what the message found. -/
theorem queriesOfAHost : Obligations.QueriesOfAHost := by
  refine ⟨fun d s haccepts => ⟨penReceive d s, penRow_of_type (accepts_iff.mp haccepts).2.1, ?ping⟩,
    fun d s haccepts hitem => ⟨penReceive d s, penRow_of_op (accepts_iff.mp haccepts).2.1 hitem, ?device⟩,
    fun d s haccepts hitem => ⟨penReceive d s, penRow_of_op (accepts_iff.mp haccepts).2.1 hitem, ?time⟩,
    fun d s haccepts hitem hfirst hlast halign hlow hhigh =>
      ⟨penReceive d s, penRow_of_op (accepts_iff.mp haccepts).2.1 hitem, ?reg⟩,
    fun d s haccepts hitem harg => ⟨penReceive d s, penRow_of_op (accepts_iff.mp haccepts).2.1 hitem, ?slot⟩,
    fun d s haccepts hitem harg => ⟨penReceive d s, penRow_of_op (accepts_iff.mp haccepts).2.1 hitem, ?circuit⟩,
    fun d s haccepts hitem harg => ⟨penReceive d s, penRow_of_op (accepts_iff.mp haccepts).2.1 hitem, ?queue⟩,
    fun d s haccepts hitem => ⟨penReceive d s, penRow_of_op (accepts_iff.mp haccepts).2.1 hitem, ?health⟩,
    fun d r s haccepts hrec hcount => ⟨penReceive d s, penRow_of_type (accepts_iff.mp haccepts).2.1, ?status⟩,
    fun d s hadmits hunknown => ⟨penReceive d s, congrArg Host.Outcome.next (if_pos hunknown), ?unknown⟩⟩
  case ping =>
    extract_lets m
    obtain ⟨-, -, hlast⟩ := (admitted_of_admits (accepts_iff.mp haccepts).1).unspent
    have htx : add32 (s.sess m.sidx).tx 1 = (s.sess m.sidx).tx + 1 :=
      Nat.mod_eq_of_lt ((Nat.succ_lt_succ hlast).trans (by decide))
    have hsess : ((s.heard d).transmits m.sidx (s.replyTo d (.ok m.body))).sess m.sidx =
        { acceptSeq m.seq (s.sess m.sidx) with
          st := 2, peer := d.peer, fails := 0, timer := s.frame, tx := (s.sess m.sidx).tx + 1 } := by
      rw [State.transmits_sess, State.heard_sess, State.greets_sess, ← htx, acceptSeq_eq]
    rw [penReceive_of_ping haccepts, hsess, State.transmits_tx, State.heard_tx, State.transmits_fg]
    exact ⟨rfl, rfl, acceptSeq_h _ _, rfl, acceptSeq_map _ _, rfl, rfl, rfl, State.heard_count s d⟩
  case device =>
    have hquery : doQuery (msgOf d.payload).body (s.heard d) = (.ok (beBytes 1 s.dev.code ++ beBytes 1 (b2n (!s.fab.small)) ++
        beBytes 1 (s.fg F.SYS_ID_STEP) ++ beBytes 1 (s.fg F.SYS_BOOTSTAT_SLOT) ++ beBytes 1 (s.fg F.SEG_STAT_BAND) ++
        [0, 0, 0] ++ beBytes 4 s.frame), s.heard d) := by
      simp only [doQuery, query_fields haccepts, hitem, State.heard_dev, State.heard_fab, State.heard_frame, State.fg,
        State.heard_fgi s d F.SYS_ID_STEP 0 (by decide), State.heard_fgi s d F.SYS_BOOTSTAT_SLOT 0 (by decide),
        State.heard_fgi s d F.SEG_STAT_BAND 0 (by decide)]
    rw [penReceive_of_query haccepts hquery, State.transmits_tx, State.heard_tx]
  case time =>
    have hquery : doQuery (msgOf d.payload).body (s.heard d) =
        (.ok (beBytes 4 s.frame ++ beBytes 8 s.time64), s.heard d) := by
      simp only [doQuery, query_fields haccepts, hitem, State.heard_frame, State.heard_time64]
    rw [penReceive_of_query haccepts hquery, State.transmits_tx, State.heard_tx, State.transmits_pend]
    exact ⟨rfl, heard_pend_of_query haccepts (by simp [hitem])⟩
  case reg =>
    extract_lets r
    have hquery : doQuery (msgOf d.payload).body (s.heard d) = (.ok r.1, r.2) := by
      simp only [doQuery, query_fields haccepts, hitem]
      exact if_pos ⟨hfirst, hlast, halign, hlow, hhigh⟩
    rw [penReceive_of_query haccepts hquery]
    exact ⟨State.transmits_tx _, State.transmits_regs _⟩
  case slot =>
    have hquery : doQuery (msgOf d.payload).body (s.heard d) = (.ok (slotBody s (beAt d.payload 18 2)), s.heard d) := by
      simp only [doQuery, query_fields haccepts, hitem, harg, if_true,
        slotBody_congr (State.heard_fab s d) (State.heard_frame s d)]
    rw [penReceive_of_query haccepts hquery, State.transmits_tx, State.heard_tx]
  case circuit =>
    extract_lets c
    have hquery : doQuery (msgOf d.payload).body (s.heard d) =
        (.ok (beBytes 1 c.st ++ [0] ++ beBytes 2 (if c.st = 1 then c.manifest else 0)), s.heard d) := by
      simp only [doQuery, query_fields haccepts, hitem, harg, if_true, circuit_congr (State.heard_exec s d), c]
    rw [penReceive_of_query haccepts hquery, State.transmits_tx, State.heard_tx]
  case queue =>
    extract_lets q
    have hquery : doQuery (msgOf d.payload).body (s.heard d) =
        (.ok (beBytes 2 q.recs.length ++ beBytes 1 q.wait ++ [0] ++ beBytes 8 (unsgn 64 q.bal)), s.heard d) := by
      simp only [doQuery, query_fields haccepts, hitem, harg, if_true, que_congr (State.heard_sched s d), q]
    rw [penReceive_of_query haccepts hquery, State.transmits_tx, State.heard_tx]
  case health =>
    have hquery : doQuery (msgOf d.payload).body (s.heard d) = (.ok s.port.health.report, s.heard d) := by
      simp only [doQuery, query_fields haccepts, hitem, State.heard_port]
    rw [penReceive_of_query haccepts hquery, State.transmits_tx, State.heard_tx, State.transmits_pend]
    exact ⟨rfl, heard_pend_of_query haccepts (by simp [hitem])⟩
  case status =>
    extract_lets first k
    have hfound : (s.heard d).execRec (beAt d.payload 16 4) = .ok r :=
      (State.heard_execRec _).trans (execRec_of_toOption hrec)
    have hstatus : doManStatus (msgOf d.payload).body (s.heard d) =
        .ok (beFields [4, 2, 1, 1, 4, 4, 4, 4, 2, 2, 2, 2] (recBytes s r) ++ beBytes 2 first ++ beBytes 2 k ++
          (List.range k).flatMap fun j => (List.range 4).map fun b => bmpAt s r (4 * (first + j) + (3 - b))) := by
      simp only [doManStatus, status_fields haccepts, hfound, hcount.not_gt, if_false, recBytes_heard, bmpAt_heard,
        xrec_congr (State.heard_exec s d), first, k]
    rw [penReceive_of_status haccepts, hstatus, State.transmits_tx, State.heard_tx]
  case unknown =>
    have hoffered : typeOk (msgOf d.payload).typ (msgOf d.payload).v2 = false := by
      rw [← Bool.not_eq_true']
      exact (Bool.and_eq_true_iff.mp hunknown).2
    rw [penReceive_of_unknown hadmits hoffered]
    rfl

end Sys2Proof.Machine
end

section
/-! PROOF. CACHED requests (R301 to R305, R308, R312): a new request takes its entry, is carried out, and is answered or waits for
the partner. -/
namespace Sys2Proof.Machine

/-! ### A request that takes its entry (R301 to R304) -/

section
variable {s : State} {d : Dgram} {t k : Nat}

theorem lookup_congr {u : State} (m : PMsg) (crc : Nat) (hcache : (u.sess m.sidx).cache = (s.sess m.sidx).cache)
    (hframe : u.frame = s.frame) : lookup u m crc = lookup s m crc := by
  simp only [lookup, takeEntry, Sess.freeEntry, Sess.lookup, hcache, hframe]

/-- R301: a new request is carried out with its entry BUSY. -/
theorem request_of_asks (hasks : s.asks d t k = true) :
    request (msgOf d.payload) (s.greets d) = runCached (msgOf d.payload) k (s.taken d k) := by
  obtain ⟨haccepts, hcached, -, hlookup⟩ := asks_iff.mp hasks
  obtain ⟨hadmits, htyp, hoffered, -⟩ := accepts_iff.mp haccepts
  have hsize := greets_sizeOk haccepts
  have hplace := greets_placesFull hadmits
  have hfresh : lookup (s.greets d) (msgOf d.payload) (crc32c (msgOf d.payload).body) = .fresh k :=
    (lookup_congr _ _ State.greets_cache rfl).trans hlookup
  rw [← htyp] at hoffered hcached
  unfold request cachedRequest
  simp only [hoffered, hsize, hcached, hfresh, hplace, Bool.true_eq_false, Bool.false_eq_true, if_false, if_true]
  rfl

theorem State.taken_sess : (s.taken d k).sess (msgOf d.payload).sidx =
    { (s.greets d).sess (msgOf d.payload).sidx with
      cache := tmod CEntry.init (s.sess (msgOf d.payload).sidx).cache k fun _ =>
        { CEntry.init with
          reqid := (msgOf d.payload).reqid, rgen := (msgOf d.payload).rgen, st := .busy, v1 := !(msgOf d.payload).v2
          crc := crc32c (msgOf d.payload).body } } := by
  refine (State.sess_modEnt (s.heard d) _ k _).trans ?_
  rw [State.heard_sess, State.greets_cache]

/-- What a session keeps beside its window, its peer, its timer and its cache. -/
theorem State.taken_sess_kept : ((s.taken d k).sess (msgOf d.payload).sidx).stages = (s.sess (msgOf d.payload).sidx).stages ∧
    ((s.taken d k).sess (msgOf d.payload).sidx).rq = (s.sess (msgOf d.payload).sidx).rq := by
  rw [State.taken_sess, State.greets_sess, acceptSeq_eq]
  exact ⟨rfl, rfl⟩

theorem State.taken_entry_st : ((s.taken d k).entry (msgOf d.payload).sidx k).st = .busy := by
  simp only [State.entry, State.taken_sess, tget_tmod]

theorem State.taken_seen : State.seen .hearing (s.taken d k) = State.seen .hearing s :=
  (State.modEnt_seen _ _ _ _ _ (by decide)).trans (State.heard_seen s d)

theorem State.taken_fgi (f : Fld) (i : Nat) (hf : Extent.hearing.r f = false) : (s.taken d k).fgi f i = s.fgi f i :=
  State.fgi_of_seen _ _ _ f i State.taken_seen hf

theorem State.taken_frame : (s.taken d k).frame = s.frame := frame_of_seen _ _ _ State.taken_seen (by decide)
theorem State.taken_table : (s.taken d k).table = s.table := table_of_seen _ _ _ State.taken_seen (by decide)
theorem State.taken_fab : (s.taken d k).fab = s.fab := fab_of_seen _ _ _ State.taken_seen (by decide)
theorem State.taken_exec : (s.taken d k).exec = s.exec := exec_of_seen _ _ _ State.taken_seen (by decide)
theorem State.taken_sched : (s.taken d k).sched = s.sched := sched_of_seen _ _ _ State.taken_seen (by decide)
theorem State.taken_tide : (s.taken d k).tide = s.tide := tide_of_seen _ _ _ State.taken_seen (by decide)
theorem State.taken_mir : (s.taken d k).mir = s.mir := mir_of_seen _ _ _ State.taken_seen (by decide)

/-- Of the Penvar engine a request that takes its entry has changed the sessions and the count of messages authenticated. -/
theorem State.taken_pen : ∃ sess dirty, (s.taken d k).pen =
    { s.pen with sess := sess, dirty := dirty, authMs := s.pen.authMs + 1 } := by
  have hpen : (s.taken d k).pen = _ := congrArg (fun p : PenSt => { p with
    sess := tmod Sess.init p.sess (msgOf d.payload).sidx fun x => { x with
      cache := tmod CEntry.init x.cache k fun _ => { CEntry.init with
        reqid := (msgOf d.payload).reqid, rgen := (msgOf d.payload).rgen, st := .busy, v1 := !(msgOf d.payload).v2
        crc := crc32c (msgOf d.payload).body } } }) (State.heard_pen s d)
  exact ⟨_, _, hpen⟩

theorem granted_taken (hgranted : granted s (msgOf d.payload).sidx t = true) :
    granted (s.taken d k) (msgOf d.payload).sidx t = true := by
  unfold granted State.bit at *
  rw [State.taken_sess_kept.2, State.taken_fgi _ _ (by decide)]
  exact hgranted

end

/-! ### A request carried out (R312) -/

/-- What a CACHED request other than a COMMIT does. -/
def hostWork (m : PMsg) (u : State) : Ans × State :=
  match m.typ with
  | 0x10 => doLoad m.sidx m.body u
  | 0x12 => doDiscard m.sidx m.body u
  | 0x20 => doApply m.sidx m.body u
  | 0x21 => doWithdraw m.sidx m.body u
  | 0x22 => doTidectl m.body u
  | 0x32 => doSlotControl m.sidx m.body u
  | _ => doSubscribe m.sidx m.body u

section
variable {m : PMsg} {u : State}

theorem hostWork_load (h : m.typ = 0x10) : hostWork m u = doLoad m.sidx m.body u := by simp only [hostWork, h]
theorem hostWork_discard (h : m.typ = 0x12) : hostWork m u = doDiscard m.sidx m.body u := by simp only [hostWork, h]
theorem hostWork_apply (h : m.typ = 0x20) : hostWork m u = doApply m.sidx m.body u := by simp only [hostWork, h]
theorem hostWork_withdraw (h : m.typ = 0x21) : hostWork m u = doWithdraw m.sidx m.body u := by simp only [hostWork, h]
theorem hostWork_tidectl (h : m.typ = 0x22) : hostWork m u = doTidectl m.body u := by simp only [hostWork, h]
theorem hostWork_slotControl (h : m.typ = 0x32) : hostWork m u = doSlotControl m.sidx m.body u := by simp only [hostWork, h]
theorem hostWork_subscribe (h : m.typ = 0x40) : hostWork m u = doSubscribe m.sidx m.body u := by simp only [hostWork, h]

end

/-- The state once the answer `a` to the request of `d` in entry `k` has gone out. -/
def State.replied (s : State) (d : Dgram) (k : Nat) (a : Ans) (u : State) : State :=
  (u.drafts (msgOf d.payload).sidx k (s.replyText d a)).finishes (msgOf d.payload).sidx k (s.replyTo d a)

section
variable {s u : State} {d : Dgram} {t k : Nat} {a : Ans}

theorem runCached_of_granted (hasks : s.asks d t k = true) (hwork : t ≠ 0x11) :
    runCached (msgOf d.payload) k (s.taken d k) =
      complete (msgOf d.payload).sidx k (msgOf d.payload).typ (msgOf d.payload).reqid (msgOf d.payload).rgen none
        (hostWork (msgOf d.payload) (s.taken d k)).1 (hostWork (msgOf d.payload) (s.taken d k)).2 := by
  obtain ⟨haccepts, -, hgranted, -⟩ := asks_iff.mp hasks
  obtain ⟨-, htyp, -, -⟩ := accepts_iff.mp haccepts
  have hmay := granted_taken (k := k) hgranted
  rw [← htyp] at hwork hmay
  exact (if_neg fun hno => Bool.false_ne_true (hno.symm.trans hmay)).trans (if_neg hwork)

/-- R301: a request that waits for no partner is carried out, and its reply goes out. -/
theorem penReceive_of_takes (htakes : s.takes d t k = true) (hother : t ≠ 0x11)
    (hwork : hostWork (msgOf d.payload) (s.taken d k) = (a, u)) (hserves : s.Serves d u) :
    penReceive d s = s.replied d k a u := by
  obtain ⟨hasks, hmir⟩ := takes_iff.mp htakes
  have hadmits := (accepts_iff.mp (asks_iff.mp hasks).1).1
  rw [penReceive_of_admits hadmits, request_of_asks hasks, runCached_of_granted hasks hother, hwork,
    complete_of_serves hserves hadmits hmir]
  rfl

/-- R308: in a pair, a request is carried out, and its reply waits for the partner. -/
theorem penReceive_of_asks_mirUp (hasks : s.asks d t k = true) (hmir : s.mirUp = true) (hother : t ≠ 0x11)
    (hwork : hostWork (msgOf d.payload) (s.taken d k) = (a, u)) (hserves : s.Serves d u) :
    penReceive d s = (u.drafts (msgOf d.payload).sidx k (s.replyText d a)).awaits (msgOf d.payload).sidx k
      ((u.drafts (msgOf d.payload).sidx k (s.replyText d a)).tells (msgOf d.payload).sidx k none) := by
  have hadmits := (accepts_iff.mp (asks_iff.mp hasks).1).1
  rw [penReceive_of_admits hadmits, request_of_asks hasks, runCached_of_granted hasks hother, hwork,
    complete_of_serves_mirUp hserves hadmits hmir]

end

/-! ### What is there once the reply has gone out -/

section
variable {s u : State} {d : Dgram} {k : Nat} {a : Ans}

/-- A reply that has gone out has changed the Penvar engine alone, and of it what the sessions keep and the queues of replies. -/
theorem State.replied_eq : ∃ sess dirty, s.replied d k a u = { u with
    pen := { u.pen with sess := sess, dirty := dirty, ord := u.pen.ord + 1, tx := u.pen.tx ++ [s.replyTo d a] } } := by
  obtain ⟨sess, dirty, hdrafts⟩ := State.drafts_eq (u := u) (i := (msgOf d.payload).sidx) (k := k) (s.replyText d a)
  unfold State.replied
  rw [hdrafts]
  exact ⟨_, dirty, rfl⟩

/-- Of the session, the request it came from has left the count of messages sent, and its entry in the cache. -/
theorem State.replied_sess : ∃ tx cache, (s.replied d k a u).sess (msgOf d.payload).sidx =
    { u.sess (msgOf d.payload).sidx with tx := tx, cache := cache } := by
  unfold State.replied
  rw [State.finishes_sess, State.drafts_sess]
  exact ⟨_, _, rfl⟩

theorem State.replied_stage (n : Nat) : ((s.replied d k a u).sess (msgOf d.payload).sidx).stage n =
    (u.sess (msgOf d.payload).sidx).stage n := by
  obtain ⟨tx, cache, hsess⟩ := State.replied_sess (s := s) (u := u) (d := d) (k := k) (a := a)
  rw [hsess]
  rfl

theorem State.replied_complete :
    (tget CEntry.init ((s.replied d k a u).sess (msgOf d.payload).sidx).cache k).st = .complete :=
  congrArg CEntry.st (State.finishes_entry (u := u.drafts (msgOf d.payload).sidx k (s.replyText d a)) (s.replyTo d a))

end

/-! ### What is there while the reply waits for the partner -/

/-- The state in which the reply to a request is formed has the frame, the mirror link and the queues of replies of the one that
received it, and the request's entry. -/
structure State.Keeps (s : State) (d : Dgram) (k : Nat) (u : State) : Prop where
  frame : u.frame = s.frame
  mir : u.mir = s.mir
  ord : u.pen.ord = s.pen.ord
  tx : u.pen.tx = s.pen.tx
  flight : u.pen.flight = s.pen.flight
  entry : u.entry (msgOf d.payload).sidx k = (s.taken d k).entry (msgOf d.payload).sidx k

theorem State.Keeps.taken {s : State} {d : Dgram} {k : Nat} : s.Keeps d k (s.taken d k) := by
  obtain ⟨sess, dirty, hpen⟩ := State.taken_pen (s := s) (d := d) (k := k)
  exact ⟨State.taken_frame, State.taken_mir,
    (congrArg PenSt.ord hpen).trans rfl, (congrArg PenSt.tx hpen).trans rfl, (congrArg PenSt.flight hpen).trans rfl, rfl⟩

namespace State.Keeps

section
variable {s u : State} {d : Dgram} {k : Nat}

theorem modSess (h : s.Keeps d k u) {f : Sess → Sess}
    (hcache : (f (u.sess (msgOf d.payload).sidx)).cache = (u.sess (msgOf d.payload).sidx).cache) :
    s.Keeps d k (u.modSess (msgOf d.payload).sidx f) := by
  refine ⟨h.frame, h.mir, h.ord, h.tx, h.flight, Eq.trans ?_ h.entry⟩
  unfold State.entry
  rw [State.sess_modSess, hcache]

theorem modPen (h : s.Keeps d k u) {g : PenSt → PenSt} (hsess : (g u.pen).sess = u.pen.sess) (hord : (g u.pen).ord = u.pen.ord)
    (htx : (g u.pen).tx = u.pen.tx) (hflight : (g u.pen).flight = u.pen.flight) : s.Keeps d k (u.modPen g) :=
  ⟨h.frame, h.mir, hord.trans h.ord, htx.trans h.tx, hflight.trans h.flight,
    (congrArg (fun t => tget CEntry.init (tget Sess.init t (msgOf d.payload).sidx).cache k) hsess).trans h.entry⟩

theorem touchSess (h : s.Keeps d k u) {f : Sess → Sess}
    (hcache : (f (u.sess (msgOf d.payload).sidx)).cache = (u.sess (msgOf d.payload).sidx).cache) :
    s.Keeps d k (touchSess (msgOf d.payload).sidx f u) := by
  unfold Machine.touchSess
  exact (h.modSess hcache).modPen rfl rfl rfl rfl

theorem setStage (h : s.Keeps d k u) (n : Nat) (g : Option Stage) :
    s.Keeps d k (setStage (msgOf d.payload).sidx n g u) := h.modSess rfl

end

end State.Keeps

/-- Of the session, a request whose reply waits has left the count of messages sent, and its entry in the cache. -/
theorem State.awaits_sess {u : State} {i k : Nat} (text : List Byte) (m : MMsg) : ∃ tx cache,
    ((u.drafts i k text).awaits i k m).sess i = { u.sess i with tx := tx, cache := cache } :=
  ⟨_, _, (State.sess_congr (u.drafts i k text) (u := (u.drafts i k text)) rfl i).trans (State.drafts_sess text)⟩

/-- A reply that waits has changed the Penvar engine and the mirror link alone. -/
theorem State.awaits_eq {u : State} {i k : Nat} (text : List Byte) (m : MMsg) : ∃ sess dirty flight mir,
    (u.drafts i k text).awaits i k m = { u with
      pen := { u.pen with sess := sess, dirty := dirty, ord := u.pen.ord + 1, flight := flight }, mir := mir } := by
  obtain ⟨sess, dirty, hdrafts⟩ := State.drafts_eq (u := u) (i := i) (k := k) text
  rw [hdrafts]
  exact ⟨sess, dirty, _, _, rfl⟩

section
variable {u : State} {i k : Nat} (text : List Byte) (m : MMsg)

theorem State.awaits_stage (n : Nat) : (((u.drafts i k text).awaits i k m).sess i).stage n = (u.sess i).stage n := by
  obtain ⟨tx, cache, hsess⟩ := State.awaits_sess (u := u) (i := i) (k := k) text m
  rw [hsess]
  rfl

theorem State.awaits_mask : (((u.drafts i k text).awaits i k m).sess i).mask = (u.sess i).mask := by
  obtain ⟨tx, cache, hsess⟩ := State.awaits_sess (u := u) (i := i) (k := k) text m
  rw [hsess]

theorem State.awaits_tide : ((u.drafts i k text).awaits i k m).tide = u.tide := by
  obtain ⟨sess, dirty, flight, mir, heq⟩ := State.awaits_eq (u := u) (i := i) (k := k) text m
  rw [heq]

theorem State.awaits_install : ((u.drafts i k text).awaits i k m).pen.install = u.pen.install := by
  obtain ⟨sess, dirty, flight, mir, heq⟩ := State.awaits_eq (u := u) (i := i) (k := k) text m
  rw [heq]

end

/-- What the partner is told of an entry, with the object of a COMMIT (R360). -/
def tellOf (i k : Nat) (obj : Option Install) (e : CEntry) : MMsg :=
  match obj with
  | some x => .object x i k e
  | none => .cache i k e

/-- R308, R316: nothing has gone out; the entry is BUSY with its reply, and the partner is told of it as it will be. -/
theorem awaits_shows {s u : State} {d : Dgram} {k : Nat} {a : Ans} (obj : Option Install) (hserves : s.Serves d u)
    (hkeeps : s.Keeps d k u) :
    let i := (msgOf d.payload).sidx
    let w := u.drafts i k (s.replyText d a)
    let t := w.awaits i k (w.tells i k obj)
    let e := tget CEntry.init (t.sess i).cache k
    let m := tellOf i k obj (e.finish s.frame s.pen.ord)
    t.pen.tx = s.pen.tx ∧ e.st = .busy ∧ tagged (s.sess i).kdh e.reply = (s.replyTo d a).payload ∧
    t.mir.ackedOut = s.mir.ackedOut.push .acked m ∧
    t.pen.flight = s.pen.flight ++ [⟨i, (s.sess i).sgen, k, (ackedPush m s).1⟩] := by
  intro i w t e m
  obtain ⟨sess, dirty, hw⟩ : ∃ sess dirty, w = { u with pen := { u.pen with sess := sess, dirty := dirty } } :=
    State.drafts_eq _
  have hsess : t.sess i = w.sess i := rfl
  have he : e = { (s.taken d k).entry i k with reply := s.replyText d a } := by
    rw [← hkeeps.entry, ← State.drafts_entry]
    exact congrArg (fun x : Sess => tget CEntry.init x.cache k) hsess
  have hentry : w.entry i k = e := rfl
  have hm : w.tells i k obj = m := by
    unfold State.tells
    rw [hentry, hw, hkeeps.ord, hkeeps.frame]
    rfl
  have hsgen : (w.sess i).sgen = (s.sess i).sgen :=
    (congrArg Sess.sgen (State.drafts_sess (u := u) (s.replyText d a))).trans hserves.parts.2.1
  have hpush : ackedPush m w = ((ackedPush m s).1, w.modMir fun x => { s.mir with ackedOut := s.mir.ackedOut.push .acked m }) := by
    unfold ackedPush State.modMir
    rw [hw]
    dsimp only
    rw [hkeeps.mir]
  have ht : t = w.awaits i k m := by rw [← hm]
  refine ⟨?_, ?_, ?_, ?_, ?_⟩
  · rw [ht, State.awaits, hpush, hw]
    exact hkeeps.tx
  · rw [he]
    exact State.taken_entry_st
  · rw [he]
    rfl
  · rw [ht, State.awaits, hpush]
    rfl
  · rw [ht, State.awaits, hpush, hsgen]
    rw [hw, ← hkeeps.flight]
    rfl

end Sys2Proof.Machine
end

section
/-! PROOF. Objects that a host loads (R313 to R317): chunks stored, handles freed, and a tide table committed. -/
namespace Sys2Proof.Machine

/-! ### Bytes of table memory -/

theorem tgetBytes_length (t : Tbl Byte) (d : Byte) (a n : Nat) : (tgetBytes t d a n).length = n := by
  induction n generalizing a with
  | zero => rfl
  | succ n ih => exact congrArg Nat.succ (ih (a + 1))

theorem tgetBytes_getElem (t : Tbl Byte) (d : Byte) (a n i : Nat) (h : i < (tgetBytes t d a n).length) :
    (tgetBytes t d a n)[i] = tget d t (a + i) := by
  induction n generalizing a i with
  | zero => exact absurd h (Nat.not_lt_zero i)
  | succ n ih =>
    cases i with
    | zero => rfl
    | succ i =>
      have hlt : i < (tgetBytes t d (a + 1) n).length := Nat.lt_of_succ_lt_succ h
      exact (ih (a + 1) i hlt).trans (congrArg (tget d t) (by omega))

/-- Bytes that have been written read as they were written. -/
theorem tgetBytes_tsetBytes (t : Tbl Byte) (d : Byte) (a : Nat) (bs : List Byte) :
    tgetBytes (tsetBytes t d a bs) d a bs.length = bs := by
  refine List.ext_getElem (tgetBytes_length _ _ _ _) fun i h hbs => ?_
  rw [tgetBytes_getElem, tget_tsetBytes t d a bs i hbs, List.getD_eq_getElem _ _ hbs]

/-! ### A LOAD that begins an object (R313, R317) -/

/-- R313: whole beats that lie within the object are received whole. -/
theorem Stage.received_of_whole {g : Stage} {first n : Nat} (hgot : g.got = (List.range n).map (first + ·))
    (hfits : 32 * (first + n) ≤ g.total) : g.received = 32 * n := by
  have hbeat : ∀ b ∈ g.got, Nat.min 32 (g.total - 32 * b) = 32 := by
    intro b hb
    rw [hgot, List.mem_map] at hb
    obtain ⟨j, hj, rfl⟩ := hb
    have hlt := List.mem_range.mp hj
    exact Nat.min_eq_left (by omega)
  unfold Stage.received
  rw [foldl_add_eq_sum, List.map_congr_left hbeat, List.map_const', List.sum_replicate, hgot, List.length_map,
    List.length_range, Nat.zero_add, smul_eq_mul, Nat.mul_comm]

section
variable {u : State} {i a : Nat} {b : List Byte}

/-- The chunk of a LOAD that begins an object at `a` in the load pool: its handle and its bytes. -/
def State.loads (u : State) (i a : Nat) (b : List Byte) : State :=
  setStage i (beAt b 1 1) (some ⟨beAt b 0 1, beAt b 3 1, beAt b 4 2, beAt b 8 4, a,
      (List.range ((b.length - 16) / 32)).map (beAt b 12 4 / 32 + ·)⟩)
    ((setStage i (beAt b 1 1) none u).memBeats (a + beAt b 12 4) (b.drop 16))

theorem State.loads_bytes : (u.loads i a b).memBytes (a + beAt b 12 4) (b.length - 16) = b.drop 16 := by
  rw [← List.length_drop]
  exact tgetBytes_tsetBytes u.table 0 _ _

theorem doLoad_of_first (hhandle : beAt b 1 1 < 8) (hfirst : (beAt b 2 1).testBit 0 = true) (hobj : 1 ≤ beAt b 0 1)
    (hobj5 : beAt b 0 1 ≤ 5) (hpos : posOk (beAt b 0 1) (beAt b 3 1) (beAt b 4 2) = true) (hmin : 32 ≤ beAt b 8 4)
    (hmax : beAt b 8 4 ≤ 262144) (hoff : beAt b 12 4 % 32 = 0) (hwhole : (b.length - 16) % 32 = 0) (hsome : 16 < b.length)
    (hfits : beAt b 12 4 + (b.length - 16) ≤ beAt b 8 4)
    (hpool : (setStage i (beAt b 1 1) none u).poolFit (beAt b 8 4) = some a) :
    doLoad i b u = (.ok (beBytes 4 (b.length - 16)), u.loads i a b) := by
  have hlength : (b.drop 16).length = b.length - 16 := List.length_drop
  have hsize : ¬ (beAt b 8 4 < 32 ∨ 262144 < beAt b 8 4) := by omega
  have hchunk : ¬ ((b.drop 16).length = 0 ∨ beAt b 12 4 % 32 ≠ 0 ∨ beAt b 8 4 < beAt b 12 4 + (b.drop 16).length ∨
      ((b.drop 16).length % 32 ≠ 0 ∧ beAt b 12 4 + (b.drop 16).length ≠ beAt b 8 4)) := by rw [hlength]; omega
  have htype : ¬ (beAt b 0 1 = 0 ∨ 6 ≤ beAt b 0 1) := by omega
  have hbeats : ((b.drop 16).length + 31) / 32 = (b.length - 16) / 32 := by rw [hlength]; omega
  have hreceived : (Stage.mk (beAt b 0 1) (beAt b 3 1) (beAt b 4 2) (beAt b 8 4) a
      ((List.range ((b.length - 16) / 32)).map (beAt b 12 4 / 32 + ·))).received = b.length - 16 := by
    rw [Stage.received_of_whole rfl (by dsimp only; omega)]
    omega
  unfold doLoad
  simp only [hhandle.not_ge, hsize, hchunk, hfirst, htype, hpos, hpool, if_true, if_false, Bool.true_eq_false]
  unfold storeChunk
  dsimp only
  rw [hbeats, List.filter_nil, List.nil_append, hreceived]
  rfl

end

/-! ### A COMMIT of a whole tide table (R203, R315, R316) -/

section
variable {s u : State}

/-- R202: the check of a tide table asks the directory of manifests alone. -/
theorem tideOf_congr (hexec : u.exec = s.exec) (l : List Byte) : tideOf u l = tideOf s l := by
  unfold tideOf tideReason fireOk State.man
  rw [hexec]

theorem memBytes_congr (htable : u.table = s.table) (a n : Nat) : u.memBytes a n = s.memBytes a n :=
  congrArg (fun t => tgetBytes t 0 a n) htable

/-- R316: what the frames of an object are counted from. -/
theorem objFrames_congr (hmir : u.mir = s.mir) (hep : u.fg F.MIR_CFG_EPMIN = s.fg F.MIR_CFG_EPMIN) (x : Install) :
    u.objFrames x = s.objFrames x := by
  unfold State.objFrames State.ackedRoom State.epMin
  rw [hmir, hep]

/-- R315: an object that is whole and has passed its check is committed, its handle is freed, and the request is answered. -/
theorem runCommit_of_checked {c : Commit} {g : Stage} {o : Obj} {body : List Byte} {x : Option Install} {v : State}
    (hhandle : c.stage < 8) (hstage : (u.sess c.sidx).stage c.stage = some g) (hwhole : g.received = g.total)
    (hcheck : checkObj (u.modPen fun p => { p with settle := none }) g (u.memBytes g.base g.total) = .ok o)
    (hcommit : commitObj o (u.memBytes g.base g.total) (u.modPen fun p => { p with settle := none }) = (.ok body, x, v)) :
    runCommit c u = complete c.sidx c.ent 0x11 c.reqid c.rgen x (.ok body) (setStage c.sidx c.stage none
      (v.modPen fun p => { p with settle := some (beAt body 0 4) })) := by
  have hfound : ((u.modPen fun p => { p with settle := none }).sess c.sidx).stage c.stage = some g := hstage
  have hbytes : (u.modPen fun p => { p with settle := none }).memBytes g.base g.total = u.memBytes g.base g.total := rfl
  unfold runCommit
  dsimp only
  rw [if_neg hhandle.not_ge, hfound]
  dsimp only
  rw [if_neg (not_not.mpr hwhole), hbytes, hcheck]
  dsimp only
  rw [hcommit]
  rfl

theorem checkObj_tide {g : Stage} {b : List Byte} {x : TideTab} (hobj : g.obj = 3) (htab : tideOf u b = some x)
    (hunarmed : u.tide.pstart = none) : checkObj u g b = .ok (.tide u.tide.shadow x) := by
  simp [checkObj, hobj, htab, hunarmed]

/-- The table in the shadow, noted among the objects committed since the image was loaded (R372). -/
def State.shadows (u : State) (x : TideTab) (b : List Byte) : State :=
  noteLoaded (.tide u.tide.shadow x) b (placeTide u.tide.shadow x u)

/-- R203: with no partner to wait for, the table is in the shadow at once. -/
theorem commitObj_tide (x : TideTab) (b : List Byte) (hmir : u.mirUp = false) :
    commitObj (.tide u.tide.shadow x) b u =
      (.ok (beBytes 4 u.frame), none, u.shadows x b) := by
  simp [commitObj, placeObj, State.shadows, hmir]

/-- R316: an object waits for the frame from which it is in force. -/
def State.installs (u : State) (o : Install) : State := u.modPen fun p => { p with install := some o }

/-- R316: in a pair the table is in force from the frame by which its cells have reached the partner. -/
theorem commitObj_tide_mirUp {x : TideTab} {b : List Byte} {o : Install} (hmir : u.mirUp = true)
    (ho : o = ⟨add32 u.frame (u.objFrames ⟨0, .tide u.tide.shadow x, b⟩), .tide u.tide.shadow x, b⟩) :
    commitObj (.tide u.tide.shadow x) b u = (.ok (beBytes 4 o.frame), some o, u.installs o) := by
  simp [commitObj, placeObj, State.installs, hmir, ho]

theorem placeTide_shadow (x : TideTab) (hunarmed : u.tide.pstart = none) :
    placeTide u.tide.shadow x u = u.modTab u.tide.shadow fun _ => x := if_pos ⟨rfl, hunarmed⟩

theorem State.shadows_tide (x : TideTab) (b : List Byte) (hunarmed : u.tide.pstart = none) :
    (u.shadows x b).tide = { u.tide with tabs := setAt u.tide.tabs u.tide.shadow x } := by
  unfold State.shadows
  rw [placeTide_shadow x hunarmed]
  rfl

end

end Sys2Proof.Machine
end

section
/-! PROOF. Work, tide tables, slots and events that a host asks for (R320 to R322, R325). -/
namespace Sys2Proof.Machine

/-! ### APPLY (R164, R320) -/

section
variable {s : State} {i no f r : Nat}

/-- A request that is accepted has a record QUEUED, for its start frame and from its queue. -/
theorem manRequest_record {source : Nat} (h : (manRequest source no f s).1 = .ok r) :
    ((manRequest source no f s).2.xrec r).st = .queued ∧ ((manRequest source no f s).2.xrec r).reqFrame = f ∧
    ((manRequest source no f s).2.xrec r).source = source := by
  unfold manRequest at h ⊢
  split at h
  · cases h
  · split_ifs at h ⊢
    split at h
    · cases h
    · next k hfree =>
      cases h
      have hrec : ∀ m, (allocRec r source f m s).xrec r = _ := fun m => tget_tset ExecRec.init s.exec.recs r _
      rw [hrec]
      exact ⟨rfl, rfl, rfl⟩

theorem joinQueue_exec (q k : Nat) (u : State) : (joinQueue q k u).exec = u.exec :=
  exec_of_seen ⟨[.sched], false, [F.SCH_QHWM_DEPTH]⟩ _ _ (joinQueue_seen _ q k u (by decide)) (by decide)

theorem acceptRequest_record {q : Nat} (h : (acceptRequest q no f s).1 = .ok r) :
    ((acceptRequest q no f s).2.xrec r).st = .queued ∧ ((acceptRequest q no f s).2.xrec r).reqFrame = f ∧
    ((acceptRequest q no f s).2.xrec r).source = q := by
  have hcharged : ∀ (k : Nat) (police : Bool) (cost : Int) (u : State),
      (joinQueue q k (u.when police fun s => s.modQue q fun x => { x with bal := x.bal - cost })).exec = u.exec := by
    intro k police cost u
    rw [joinQueue_exec]
    cases police <;> rfl
  unfold acceptRequest at h ⊢
  dsimp only at h ⊢
  split_ifs at h ⊢
  cases hanswer : (manRequest q no f s).1 with
  | ok k =>
    rw [hanswer] at h
    cases h
    dsimp only
    rw [xrec_congr (hcharged r _ _ _)]
    exact manRequest_record hanswer
  | unknown => rw [hanswer] at h; cases h
  | denied => rw [hanswer] at h; cases h
  | noroute => rw [hanswer] at h; cases h
  | nospace => rw [hanswer] at h; cases h

theorem applyRequest_record (h : (applyRequest i no f s).1 = .ok r) :
    ((applyRequest i no f s).2.xrec r).st = .queued ∧ ((applyRequest i no f s).2.xrec r).reqFrame = f ∧
    ((applyRequest i no f s).2.xrec r).source = s.fgi F.SCH_SMAPs_QUEUE i := by
  unfold applyRequest at h ⊢
  dsimp only at h ⊢
  split_ifs at h ⊢
  exact acceptRequest_record h

theorem doApply_of_ok {b : List Byte} (hf : f = if (beAt b 2 1).testBit 0 = true then add32 s.frame 3 else beAt b 4 4)
    (hwindow : inArmWindow s f = true) (hok : (applyRequest i (beAt b 0 2 % 4096) f s).1 = .ok r) :
    doApply i b s = (.ok (beBytes 4 (((applyRequest i (beAt b 0 2 % 4096) f s).2.xrec r).execId r) ++ beBytes 4 f),
      (applyRequest i (beAt b 0 2 % 4096) f s).2) := by
  unfold doApply
  dsimp only
  rw [← hf, if_neg (by simp [hwindow]), hok]

end

/-! ### WITHDRAW (R175, R321) -/

/-- The records of a queue that pass a test stay in it. -/
def filterQue (p : Nat → Bool) (s : State) (q : Nat) : State := s.modQue q fun x => { x with recs := x.recs.filter p }

theorem filterQue_exec (p : Nat → Bool) (s : State) (q : Nat) : (filterQue p s q).exec = s.exec := rfl

section
variable (s : State) (r : Nat)

theorem State.que_modQue_ne {q k : Nat} (h : k ≠ q) (g : ReqQueue → ReqQueue) : (s.modQue q g).que k = s.que k :=
  tget_tmod_ne _ _ _ _ _ h

theorem foldl_filterQue_recs (p : Nat → Bool) (l : List Nat) (q : Nat) :
    ((l.foldl (filterQue p) s).que q).recs = if q ∈ l then (s.que q).recs.filter p else (s.que q).recs := by
  induction l generalizing s with
  | nil => rfl
  | cons a l ih =>
    rw [List.foldl_cons, ih, filterQue]
    by_cases hq : q = a
    · subst hq
      rw [State.que_modQue_same]
      simp
    · rw [State.que_modQue_ne s hq]
      simp [hq]

theorem withdrawRec_eq : withdrawRec r s =
    (tkeys s.sched.queues).foldl (filterQue fun k => decide (k ≠ r)) (finalRec r .void 1 s.frame s) := by
  rw [← finalRec_void_sched s r 1 s.frame]
  rfl

/-- A queue that is not listed holds no record. -/
theorem que_recs_of_unlisted (q : Nat) (h : q ∉ tkeys s.sched.queues) : (s.que q).recs = [] :=
  congrArg ReqQueue.recs (tget_absent ReqQueue.init _ _ h)

theorem withdrawRec_que (q : Nat) : ((withdrawRec r s).que q).recs = (s.que q).recs.filter fun k => decide (k ≠ r) := by
  have hsched : (finalRec r .void 1 s.frame s).sched = s.sched := finalRec_void_sched s r 1 s.frame
  rw [withdrawRec_eq, foldl_filterQue_recs, que_congr hsched]
  split_ifs with hlisted
  · rfl
  · rw [que_recs_of_unlisted s q hlisted, List.filter_nil]

theorem withdrawRec_xrec : (withdrawRec r s).xrec r = { s.xrec r with st := .void, cause := 1, fin := s.frame } := by
  have hexec : (withdrawRec r s).exec = (finalRec r .void 1 s.frame s).exec := by
    rw [withdrawRec_eq]
    exact foldl_keeps State.exec (fun s q => filterQue_exec _ s q) _ _
  exact (xrec_congr hexec r).trans (finalRec_void_xrec_same s r 1 s.frame)

end

theorem doWithdraw_of_queued {s : State} {i r : Nat} {b : List Byte} (hrec : s.execRec (beAt b 0 4) = .ok r)
    (hmine : (s.xrec r).source = s.queueOf i) (hqueue : (s.xrec r).source < 64) (hwaits : (s.xrec r).admitted = false)
    (hopen : (s.xrec r).isOpen = true) : doWithdraw i b s = (.ok [], withdrawRec r s) := by
  unfold doWithdraw
  rw [hrec]
  dsimp only
  rw [if_neg (by simp only [hmine, not_true_eq_false, ne_eq, false_or]; omega), if_neg (by simp [hwaits, hopen])]

/-! ### TIDECTL (R322) -/

section
variable {s : State} {b : List Byte}

theorem doTidectl_arm (hop : beAt b 0 1 = 1) (hunarmed : s.tide.pstart = none)
    (harmed : (tideArm s).tide.pstart.isSome = true) :
    doTidectl b s = (.ok (beBytes 4 ((tideArm s).fg F.TID_PSTART_FRAME) ++ beBytes 4 ((tideArm s).fg F.TID_LATEN_N)),
      tideArm s) := by
  simp [doTidectl, hop, hunarmed, harmed]

theorem doTidectl_cancel {p : Nat} (hop : beAt b 0 1 = 2) (harmed : s.tide.pstart = some p)
    (hearly : later (sub32 p 3) s.frame = true) :
    doTidectl b s = (.ok (List.replicate 8 0), s.modTide fun x => { x with pstart := none }) := by
  have hcancel : tideCancel s = s.modTide fun x => { x with pstart := none } :=
    (tideCancel_of_armed harmed).trans (if_pos hearly)
  simp only [doTidectl, hop, hcancel]
  rfl

theorem doTidectl_stop (hop : beAt b 0 1 = 3) (hunarmed : s.tide.pstart = none) :
    doTidectl b s = (.ok (List.replicate 8 0), tideStop s) := by
  simp [doTidectl, hop, hunarmed]

/-- R211: a STOP reads the tables and the frame alone. -/
theorem tideStop_tide_congr {u : State} (htide : u.tide = s.tide) (hframe : u.frame = s.frame) :
    (tideStop u).tide = (tideStop s).tide := by
  unfold tideStop State.nextBoundary State.activeTab State.tideTab
  rw [htide, hframe]
  split_ifs
  · exact htide
  · exact htide
  · simp only [State.modTide, htide]

end

/-! ### SLOT_CONTROL and SUBSCRIBE (R312, R325) -/

/-- A change of slots or circuits waits for the tick. -/
def queueSlotCtl (x : SlotCtl) (s : State) : State := s.modPen fun p => { p with slotCtl := p.slotCtl ++ [x] }

theorem doSlotControl_of_may {s : State} {i : Nat} {b : List Byte} {nums : List Nat}
    (hnums : (List.range (beAt b 2 2)).map (fun k => beAt b (8 + 2 * k) 2) = nums) (hmin : 1 ≤ beAt b 2 2)
    (hmax : beAt b 2 2 ≤ 64) (hop : 1 ≤ beAt b 0 1) (hop4 : beAt b 0 1 ≤ 4)
    (hexist : nums.all (fun k => decide (k < if beAt b 0 1 = 4 then 4096 else 12288)) = true)
    (howner : beAt b 0 1 = 1 → ownerLegal (beAt b 1 1) = true ∧
      (decide (beAt b 1 1 = s.queueOf i ∧ s.queueOf i < 64) || decide (beAt b 1 1 = 255)) = true)
    (hmine : beAt b 0 1 ≤ 3 → nums.all (fun k =>
      decide ((s.slot k).owner = s.queueOf i ∧ s.queueOf i < 64) || decide ((s.slot k).owner = 255)) = true) :
    doSlotControl i b s = (.ok [], queueSlotCtl ⟨beAt b 0 1, beAt b 1 1, nums⟩ s) := by
  have hform : ¬ (beAt b 2 2 = 0 ∨ 64 < beAt b 2 2 ∨ beAt b 0 1 = 0 ∨ 5 ≤ beAt b 0 1 ∨
      nums.all (fun k => decide (k < if beAt b 0 1 = 4 then 4096 else 12288)) = false) := by
    simp only [hexist, Bool.true_eq_false, or_false]
    omega
  unfold doSlotControl
  dsimp only
  rw [hnums, if_neg hform, if_neg fun h => Bool.false_ne_true (h.2.symm.trans (howner h.1).1),
    if_neg fun h => Bool.false_ne_true (h.2.symm.trans (howner h.1).2),
    if_neg fun h => Bool.false_ne_true (h.2.symm.trans (hmine h.1))]
  rfl

end Sys2Proof.Machine
end

section
/-! PROOF. What a new request of a host that changes the device does (R301, R308, R313 to R325). -/
namespace Sys2Proof.Machine

/-! ### The fields of requests -/

section
variable {s : State} {d : Dgram} {t : Nat}

/-- A TYPE whose body has four bytes begins with an operation, or is one number. -/
theorem short_fields (haccepts : s.accepts d t = true) (ht : t = 0x11 ∨ t = 0x12 ∨ t = 0x21 ∨ t = 0x22 ∨ t = 0x40) :
    beAt (msgOf d.payload).body 0 1 = beAt d.payload 16 1 ∧ beAt (msgOf d.payload).body 0 4 = beAt d.payload 16 4 := by
  have hsize := (accepts_iff.mp haccepts).2.2.2
  have hlength : (msgOf d.payload).body.length = 4 := by
    rcases ht with rfl | rfl | rfl | rfl | rfl <;> exact of_decide_eq_true hsize
  exact ⟨beAt_body (by omega), beAt_body (by omega)⟩

/-- The fields of a LOAD. -/
theorem load_fields (haccepts : s.accepts d 0x10 = true) :
    beAt (msgOf d.payload).body 0 1 = beAt d.payload 16 1 ∧ beAt (msgOf d.payload).body 1 1 = beAt d.payload 17 1 ∧
    beAt (msgOf d.payload).body 2 1 = beAt d.payload 18 1 ∧ beAt (msgOf d.payload).body 3 1 = beAt d.payload 19 1 ∧
    beAt (msgOf d.payload).body 4 2 = beAt d.payload 20 2 ∧ beAt (msgOf d.payload).body 8 4 = beAt d.payload 24 4 ∧
    beAt (msgOf d.payload).body 12 4 = beAt d.payload 28 4 := by
  have hsize : 16 ≤ (msgOf d.payload).body.length := (of_decide_eq_true (accepts_iff.mp haccepts).2.2.2).1
  have hfield : ∀ j n, j + n ≤ 16 → beAt (msgOf d.payload).body j n = beAt d.payload (16 + j) n :=
    fun j n h => beAt_body (h.trans hsize)
  exact ⟨hfield 0 1 (by decide), hfield 1 1 (by decide), hfield 2 1 (by decide), hfield 3 1 (by decide),
    hfield 4 2 (by decide), hfield 8 4 (by decide), hfield 12 4 (by decide)⟩

/-- The fields of an APPLY: the directory position, the flags and the start frame. -/
theorem apply_fields (haccepts : s.accepts d 0x20 = true) :
    beAt (msgOf d.payload).body 0 2 = beAt d.payload 16 2 ∧ beAt (msgOf d.payload).body 2 1 = beAt d.payload 18 1 ∧
    beAt (msgOf d.payload).body 4 4 = beAt d.payload 20 4 := by
  have hsize : (msgOf d.payload).body.length = 8 := of_decide_eq_true (accepts_iff.mp haccepts).2.2.2
  exact ⟨beAt_body (by omega), beAt_body (by omega), beAt_body (by omega)⟩

/-- A SLOT_CONTROL has as many numbers as it says. -/
theorem slotControl_fields (haccepts : s.accepts d 0x32 = true) :
    beAt (msgOf d.payload).body 0 1 = beAt d.payload 16 1 ∧ beAt (msgOf d.payload).body 1 1 = beAt d.payload 17 1 ∧
    beAt (msgOf d.payload).body 2 2 = beAt d.payload 18 2 ∧
    (List.range (beAt (msgOf d.payload).body 2 2)).map (fun k => beAt (msgOf d.payload).body (8 + 2 * k) 2) = hostSlots d := by
  have hsizes := (accepts_iff.mp haccepts).2.2.2
  simp only [sizeOk, Bool.and_eq_true, decide_eq_true_eq] at hsizes
  obtain ⟨hmin, hsize⟩ := hsizes
  have hcount : beAt (msgOf d.payload).body 2 2 = beAt d.payload 18 2 := beAt_body (by omega)
  refine ⟨beAt_body (by omega), beAt_body (by omega), hcount, ?_⟩
  unfold hostSlots
  rw [← hcount]
  refine List.map_congr_left fun k hk => ?_
  have hlt := List.mem_range.mp hk
  rw [beAt_body (by omega)]
  congr 1
  omega

end

/-! ### What a request that takes its entry leaves as its message found it -/

section
variable {s : State} {d : Dgram} {k : Nat}

theorem State.taken_tx : (s.taken d k).pen.tx = s.pen.tx := by
  obtain ⟨sess, dirty, hpen⟩ := State.taken_pen (s := s) (d := d) (k := k)
  rw [hpen]

theorem State.taken_slotCtl : (s.taken d k).pen.slotCtl = s.pen.slotCtl := by
  obtain ⟨sess, dirty, hpen⟩ := State.taken_pen (s := s) (d := d) (k := k)
  rw [hpen]

theorem State.taken_queueOf (i : Nat) : (s.taken d k).queueOf i = s.queueOf i := by
  unfold State.queueOf State.flagi
  rw [State.taken_fgi _ _ (by decide), State.taken_fgi _ _ (by decide)]

theorem State.taken_slot (n : Nat) : (s.taken d k).slot n = s.slot n :=
  congrArg (fun x : Fabric => tget Slot.init x.slots n) State.taken_fab

theorem State.taken_inArmWindow (f : Nat) : inArmWindow (s.taken d k) f = inArmWindow s f := by
  unfold inArmWindow State.fg
  rw [State.taken_fgi _ _ (by decide), State.taken_frame]

theorem State.taken_execRec (id : Nat) : (s.taken d k).execRec id = s.execRec id :=
  execRec_congr State.taken_exec (State.taken_fgi _ _ (by decide)) id

end

/-! ### Handles (R314) -/

section
variable {s u : State} {d : Dgram} {k : Nat} {a : Ans}

theorem setStage_stage (i n : Nat) (g : Option Stage) : ((setStage i n g u).sess i).stage n = g := by
  unfold setStage
  rw [State.sess_modSess]
  exact tget_tset _ _ _ _

theorem setStage_tx (i n : Nat) (g : Option Stage) : (setStage i n g u).pen.tx = u.pen.tx := rfl

theorem State.replied_tx (htx : u.pen.tx = s.pen.tx) : (s.replied d k a u).pen.tx = s.pen.tx ++ [s.replyTo d a] := by
  obtain ⟨sess, dirty, heq⟩ := State.replied_eq (s := s) (u := u) (d := d) (k := k) (a := a)
  rw [heq, ← htx]

/-- A reply that has gone out has left the rest of the device, and the changes of slots that wait, as the work left them. -/
theorem State.replied_rest : (s.replied d k a u).table = u.table ∧ (s.replied d k a u).exec = u.exec ∧
    (s.replied d k a u).sched = u.sched ∧ (s.replied d k a u).tide = u.tide ∧
    (s.replied d k a u).pen.slotCtl = u.pen.slotCtl := by
  obtain ⟨sess, dirty, heq⟩ := State.replied_eq (s := s) (u := u) (d := d) (k := k) (a := a)
  rw [heq]
  exact ⟨rfl, rfl, rfl, rfl, rfl⟩

/-- A request that waits for no partner and whose work touches neither sessions nor links: its reply goes out. -/
theorem reply_of_takes {t : Nat} (e : Extent) (htakes : s.takes d t k = true) (hother : t ≠ 0x11)
    (hwork : hostWork (msgOf d.payload) (s.taken d k) = (a, u)) (hseen : State.seen e u = State.seen e (s.taken d k))
    (hpen : e.p .pen = false) (hlink : e.r F.NET_STAT_LINK = false) (hmir : e.r F.MIR_STAT_UP = false) :
    penReceive d s = s.replied d k a u ∧ (s.replied d k a u).pen.tx = s.pen.tx ++ [s.replyTo d a] :=
  ⟨penReceive_of_takes htakes hother hwork ((State.Serves.taken k).of_seen e hseen hpen hlink hmir),
    State.replied_tx ((congrArg PenSt.tx (pen_of_seen e _ _ hseen hpen)).trans State.taken_tx)⟩

end

/-! ### What each request does, its reply apart -/

section
variable {s u : State} {d : Dgram} {k : Nat}

theorem load_work {a : Nat} (htakes : s.takes d 0x10 k = true) (hhandle : beAt d.payload 17 1 < 8)
    (hfirst : (beAt d.payload 18 1).testBit 0 = true) (hobj : 1 ≤ beAt d.payload 16 1) (hobj5 : beAt d.payload 16 1 ≤ 5)
    (hpos : posOk (beAt d.payload 16 1) (beAt d.payload 19 1) (beAt d.payload 20 2) = true) (hmin : 32 ≤ beAt d.payload 24 4)
    (hmax : beAt d.payload 24 4 ≤ 262144) (hoff : beAt d.payload 28 4 % 32 = 0) (hwhole : d.payload.length % 32 = 16)
    (hsome : 48 < d.payload.length) (hfits : beAt d.payload 28 4 + (d.payload.length - 48) ≤ beAt d.payload 24 4)
    (hpool : (setStage (msgOf d.payload).sidx (beAt d.payload 17 1) none (s.taken d k)).poolFit (beAt d.payload 24 4) = some a) :
    hostWork (msgOf d.payload) (s.taken d k) = (.ok (beBytes 4 ((msgOf d.payload).body.length - 16)),
      (s.taken d k).loads (msgOf d.payload).sidx a (msgOf d.payload).body) := by
  have haccepts := (asks_iff.mp (takes_iff.mp htakes).1).1
  obtain ⟨hobjAt, hhandleAt, hfirstAt, hbandAt, hposAt, htotalAt, hoffAt⟩ := load_fields haccepts
  have hlength := msgOf_body_length (d := d)
  rw [← hhandleAt] at hhandle
  rw [← hfirstAt] at hfirst
  rw [← hobjAt] at hobj hobj5
  rw [← hobjAt, ← hbandAt, ← hposAt] at hpos
  rw [← htotalAt] at hmin hmax
  rw [← hoffAt] at hoff
  rw [← hoffAt, ← htotalAt] at hfits
  rw [← hhandleAt, ← htotalAt] at hpool
  rw [hostWork_load (accepts_iff.mp haccepts).2.1]
  exact doLoad_of_first hhandle hfirst hobj hobj5 hpos hmin hmax hoff (by omega) (by omega) (by omega) hpool

theorem loads_serves (a : Nat) (b : List Byte) : s.Serves d ((s.taken d k).loads (msgOf d.payload).sidx a b) := by
  have hstored : s.Serves d ((setStage (msgOf d.payload).sidx (beAt b 1 1) none (s.taken d k)).memBeats (a + beAt b 12 4)
      (b.drop 16)) :=
    ((State.Serves.taken k).setStage _ none).of_seen ⟨[.table, .fab], false, []⟩ (State.memBeats_seen _ _ _ _ (by decide))
      (by decide) (by decide) (by decide)
  exact hstored.setStage _ _

theorem discard_work (htakes : s.asks d 0x12 k = true) (hhandle : beAt d.payload 16 1 < 8) :
    hostWork (msgOf d.payload) (s.taken d k) =
      (.ok [], setStage (msgOf d.payload).sidx (beAt d.payload 16 1) none (s.taken d k)) := by
  have haccepts := (asks_iff.mp htakes).1
  rw [hostWork_discard (accepts_iff.mp haccepts).2.1, ← (short_fields haccepts (by decide)).1]
  rw [← (short_fields haccepts (by decide)).1] at hhandle
  exact if_neg hhandle.not_ge

/-- The events that a SUBSCRIBE selects are noted in its session, and the partner is told of it. -/
def State.subscribes (u : State) (i mask : Nat) : State := touchSess i (fun x => { x with mask := mask }) u

theorem subscribe_work (htakes : s.asks d 0x40 k = true) :
    hostWork (msgOf d.payload) (s.taken d k) = (.ok (beBytes 4 (beAt d.payload 16 4 &&& 11)),
      (s.taken d k).subscribes (msgOf d.payload).sidx (beAt d.payload 16 4 &&& 11)) := by
  have haccepts := (asks_iff.mp htakes).1
  rw [hostWork_subscribe (accepts_iff.mp haccepts).2.1, ← (short_fields haccepts (by decide)).2]
  rfl

theorem State.subscribes_tx (i mask : Nat) : (u.subscribes i mask).pen.tx = u.pen.tx := rfl

theorem State.Keeps.subscribes (h : s.Keeps d k u) {mask : Nat} : s.Keeps d k (u.subscribes (msgOf d.payload).sidx mask) :=
  h.touchSess rfl

theorem subscribes_serves (mask : Nat) : s.Serves d ((s.taken d k).subscribes (msgOf d.payload).sidx mask) :=
  (State.Serves.taken k).touchSess rfl

theorem apply_work {r f : Nat} (htakes : s.takes d 0x20 k = true)
    (hf : f = if (beAt d.payload 18 1).testBit 0 = true then add32 s.frame 3 else beAt d.payload 20 4)
    (hwindow : inArmWindow s f = true)
    (hok : (applyRequest (msgOf d.payload).sidx (beAt d.payload 16 2 % 4096) f (s.taken d k)).1 = .ok r) :
    hostWork (msgOf d.payload) (s.taken d k) =
      (.ok (beBytes 4 (((applyRequest (msgOf d.payload).sidx (beAt d.payload 16 2 % 4096) f (s.taken d k)).2.xrec r).execId r) ++
        beBytes 4 f), (applyRequest (msgOf d.payload).sidx (beAt d.payload 16 2 % 4096) f (s.taken d k)).2) := by
  have haccepts := (asks_iff.mp (takes_iff.mp htakes).1).1
  obtain ⟨hposition, hflags, hstart⟩ := apply_fields haccepts
  rw [hostWork_apply (accepts_iff.mp haccepts).2.1]
  rw [← hposition] at hok ⊢
  refine doApply_of_ok ?_ ((State.taken_inArmWindow f).trans hwindow) hok
  rw [hflags, hstart, State.taken_frame]
  exact hf

/-- What a request for work may change. -/
def Extent.applying : Extent := ⟨[.exec, .sched], false, [F.MAN_ALLOCCNT, F.MAN_LASTEXEC_EXEC_ID, F.SCH_BUSYCNT,
  F.SCH_DENYCNT, F.SCH_GATEDCNT, F.SCH_POLCNT, F.SCH_QHWM_DEPTH]⟩

/-- What a record that is withdrawn may change. -/
def Extent.withdrawing : Extent :=
  ⟨[.seqs, .fab, .exec, .sched], false, [F.MAN_DONECNT, F.MAN_PARTCNT, F.MAN_VOIDCNT] ++ raiseFlds⟩

theorem withdraw_work {r : Nat} (htakes : s.takes d 0x21 k = true) (hrec : (s.execRec (beAt d.payload 16 4)).toOption = some r)
    (hmine : (s.xrec r).source = s.queueOf (msgOf d.payload).sidx) (hqueue : (s.xrec r).source < 64)
    (hwaits : (s.xrec r).admitted = false) (hopen : (s.xrec r).isOpen = true) :
    hostWork (msgOf d.payload) (s.taken d k) = (.ok [], withdrawRec r (s.taken d k)) := by
  have haccepts := (asks_iff.mp (takes_iff.mp htakes).1).1
  have hx : (s.taken d k).xrec r = s.xrec r := xrec_congr State.taken_exec r
  rw [hostWork_withdraw (accepts_iff.mp haccepts).2.1]
  refine doWithdraw_of_queued ?_ ?_ (hx ▸ hqueue) (hx ▸ hwaits) (hx ▸ hopen)
  · rw [(short_fields haccepts (by decide)).2, State.taken_execRec]
    exact execRec_of_toOption hrec
  · rw [hx, State.taken_queueOf]
    exact hmine

/-- What a command to the tide tables may change. -/
def Extent.tideCommand : Extent :=
  ⟨[.tide], false, [F.TID_LATEN_N, F.TID_PSTART_FRAME, F.TID_STAT_LATEBASE, F.TID_STAT_REASON, F.TID_STAT_REFUSED]⟩

theorem tidectl_op (htakes : s.takes d 0x22 k = true) {op : Nat} (hop : beAt d.payload 16 1 = op) :
    hostWork (msgOf d.payload) (s.taken d k) = doTidectl (msgOf d.payload).body (s.taken d k) ∧
    beAt (msgOf d.payload).body 0 1 = op := by
  have haccepts := (asks_iff.mp (takes_iff.mp htakes).1).1
  exact ⟨hostWork_tidectl (accepts_iff.mp haccepts).2.1, (short_fields haccepts (by decide)).1.trans hop⟩

theorem slotControl_work (htakes : s.takes d 0x32 k = true) {op : Nat} (hop : beAt d.payload 16 1 = op)
    (hmin : 1 ≤ beAt d.payload 18 2) (hmax : beAt d.payload 18 2 ≤ 64) (hop1 : 1 ≤ op) (hop4 : op ≤ 4)
    (hexist : (hostSlots d).all (fun k => decide (k < if op = 4 then 4096 else 12288)) = true)
    (howner : op = 1 → ownerLegal (beAt d.payload 17 1) = true ∧ hostMine s d (beAt d.payload 17 1) = true)
    (hmine : op ≤ 3 → (hostSlots d).all (fun k => hostMine s d (s.slot k).owner) = true) :
    hostWork (msgOf d.payload) (s.taken d k) =
      (.ok [], queueSlotCtl ⟨op, beAt d.payload 17 1, hostSlots d⟩ (s.taken d k)) := by
  have haccepts := (asks_iff.mp (takes_iff.mp htakes).1).1
  obtain ⟨hopAt, hvalueAt, hcountAt, hslots⟩ := slotControl_fields haccepts
  rw [hop] at hopAt
  rw [hostWork_slotControl (accepts_iff.mp haccepts).2.1, ← hvalueAt, ← hopAt]
  rw [← hopAt] at hop1 hop4 hexist howner hmine
  rw [← hcountAt] at hmin hmax
  rw [← hvalueAt] at howner
  refine doSlotControl_of_may hslots hmin hmax hop1 hop4 hexist ?_ ?_
  · rw [State.taken_queueOf]
    exact howner
  · simp only [State.taken_queueOf, State.taken_slot]
    exact hmine

end

section
variable {s : State} {d : Dgram} {k : Nat}

theorem hostMay_exist (h : hostMay s d = true) : (hostSlots d).all (fun k => decide (k < 12288)) = true := by
  unfold hostMay at h
  rw [List.all_eq_true] at h ⊢
  exact fun x hx => (Bool.and_eq_true_iff.mp (h x hx)).1

theorem hostMay_mine (h : hostMay s d = true) : (hostSlots d).all (fun k => hostMine s d (s.slot k).owner) = true := by
  unfold hostMay at h
  rw [List.all_eq_true] at h ⊢
  exact fun x hx => (Bool.and_eq_true_iff.mp (h x hx)).2

/-- R325: the changes of a SLOT_CONTROL that is allowed wait for the tick, and it is answered. -/
theorem slotControl_shows (htakes : s.takes d 0x32 k = true) {op : Nat} (hop : beAt d.payload 16 1 = op)
    (hmin : 1 ≤ beAt d.payload 18 2) (hmax : beAt d.payload 18 2 ≤ 64) (hop1 : 1 ≤ op) (hop4 : op ≤ 4)
    (hexist : (hostSlots d).all (fun k => decide (k < if op = 4 then 4096 else 12288)) = true)
    (howner : op = 1 → ownerLegal (beAt d.payload 17 1) = true ∧ hostMine s d (beAt d.payload 17 1) = true)
    (hmine : op ≤ 3 → (hostSlots d).all (fun k => hostMine s d (s.slot k).owner) = true) :
    ∃ t, penRow (isOp 0x32 op) d s = .next t ∧ t.pen.slotCtl = s.pen.slotCtl ++ [⟨op, beAt d.payload 17 1, hostSlots d⟩] ∧
      t.pen.tx = s.pen.tx ++ [s.replyTo d (.ok [])] := by
  have htyp := (accepts_iff.mp (asks_iff.mp (takes_iff.mp htakes).1).1).2.1
  have hwork := slotControl_work htakes hop hmin hmax hop1 hop4 hexist howner hmine
  have hserves : s.Serves d (queueSlotCtl ⟨op, beAt d.payload 17 1, hostSlots d⟩ (s.taken d k)) :=
    (State.Serves.taken k).modPen rfl
  obtain ⟨-, -, -, -, hslotCtl⟩ := State.replied_rest (s := s) (d := d) (k := k) (a := .ok [])
    (u := queueSlotCtl ⟨op, beAt d.payload 17 1, hostSlots d⟩ (s.taken d k))
  refine ⟨penReceive d s, penRow_of_op htyp hop, ?_⟩
  rw [penReceive_of_takes htakes (by decide) hwork hserves]
  exact ⟨hslotCtl.trans (congrArg (· ++ _) State.taken_slotCtl), State.replied_tx (State.taken_tx (k := k))⟩

end

/-! ### A COMMIT of a whole tide table (R203, R315, R316) -/

section
variable {s u : State} {d : Dgram} {k : Nat}

/-- R315: with no COMMIT before it, a COMMIT is carried out at once. -/
theorem runCached_of_commit (hasks : s.asks d 0x11 k = true) (hwaits : s.commitWaits = false) (hnone : s.pen.commits = []) :
    runCached (msgOf d.payload) k (s.taken d k) = runCommit ⟨(msgOf d.payload).sidx, (msgOf d.payload).sgen, k,
      (msgOf d.payload).reqid, (msgOf d.payload).rgen, beAt d.payload 16 1⟩ (s.taken d k) := by
  obtain ⟨haccepts, -, hgranted, -⟩ := asks_iff.mp hasks
  obtain ⟨-, htyp, -, -⟩ := accepts_iff.mp haccepts
  obtain ⟨sess, dirty, hpen⟩ := State.taken_pen (s := s) (d := d) (k := k)
  have hmay := granted_taken (k := k) hgranted
  have hfree : ¬ ((s.taken d k).commitWaits = true ∨ (s.taken d k).pen.commits ≠ []) := by
    have hsame : (s.taken d k).commitWaits = s.commitWaits := by
      unfold State.commitWaits
      rw [hpen, State.taken_frame]
    rw [hsame, hwaits, hpen, hnone]
    simp
  rw [← htyp] at hmay
  rw [← (short_fields haccepts (by decide)).1]
  exact (if_neg fun hno => Bool.false_ne_true (hno.symm.trans hmay)).trans ((if_pos htyp).trans (if_neg hfree))

/-- The state in which the object of a COMMIT is checked. -/
def State.commits (s : State) (d : Dgram) (k : Nat) : State := (s.taken d k).modPen fun p => { p with settle := none }

theorem State.commits_tide : (s.commits d k).tide = s.tide := State.taken_tide (k := k)

theorem State.commits_tx : (s.commits d k).pen.tx = s.pen.tx := State.taken_tx (k := k)

theorem State.commits_exec : (s.commits d k).exec = s.exec := State.taken_exec (k := k)

theorem State.commits_frame : (s.commits d k).frame = s.frame := State.taken_frame (k := k)

theorem State.commits_fg (f : Fld) (hf : Extent.hearing.r f = false) : (s.commits d k).fg f = s.fg f :=
  State.taken_fgi (k := k) f 0 hf

theorem State.commits_mirUp : (s.commits d k).mirUp = s.mirUp := State.flagi_congr s (i := 0) (State.commits_fg _ (by decide))

theorem State.Serves.commits : s.Serves d (s.commits d k) := (State.Serves.taken k).modPen rfl

/-- R315: the object that `v` holds is answered for as `body`, and its handle is freed. -/
def commitDone (i h : Nat) (body : List Byte) (v : State) : State :=
  setStage i h none (v.modPen fun p => { p with settle := some (beAt body 0 4) })

theorem commitDone_tx (i n : Nat) (body : List Byte) : (commitDone i n body u).pen.tx = u.pen.tx := rfl

theorem commitDone_tide (i n : Nat) (body : List Byte) : (commitDone i n body u).tide = u.tide := rfl

theorem commitDone_stage (i n : Nat) (body : List Byte) : ((commitDone i n body u).sess i).stage n = none :=
  setStage_stage i n none

theorem State.Serves.commitDone (h : s.Serves d u) (n : Nat) (body : List Byte) :
    s.Serves d (commitDone (msgOf d.payload).sidx n body u) := (h.modPen rfl).setStage n none

/-- R203, R315: the table of a handle is whole and passes its check. -/
theorem runCommit_of_tide {g : Stage} {x : TideTab} {body : List Byte} {inst : Option Install} {v : State}
    (hasks : s.asks d 0x11 k = true) (hhandle : beAt d.payload 16 1 < 8)
    (hstage : (s.sess (msgOf d.payload).sidx).stage (beAt d.payload 16 1) = some g) (hwhole : g.received = g.total)
    (hobj : g.obj = 3) (htab : tideOf s (s.memBytes g.base g.total) = some x) (hunarmed : s.tide.pstart = none)
    (hwaits : s.commitWaits = false) (hnone : s.pen.commits = [])
    (hcommit : commitObj (.tide s.tide.shadow x) (s.memBytes g.base g.total) (s.commits d k) = (.ok body, inst, v)) :
    runCached (msgOf d.payload) k (s.taken d k) =
      complete (msgOf d.payload).sidx k (msgOf d.payload).typ (msgOf d.payload).reqid (msgOf d.payload).rgen inst (.ok body)
        (commitDone (msgOf d.payload).sidx (beAt d.payload 16 1) body v) := by
  have hbytes : (s.taken d k).memBytes g.base g.total = s.memBytes g.base g.total := memBytes_congr State.taken_table _ _
  have hfound : ((s.taken d k).sess (msgOf d.payload).sidx).stage (beAt d.payload 16 1) = some g :=
    (congrArg (fun t => tget none t (beAt d.payload 16 1)) State.taken_sess_kept.1).trans hstage
  have hcheck : checkObj (s.commits d k) g (s.memBytes g.base g.total) = .ok (.tide s.tide.shadow x) := by
    rw [← State.commits_tide (s := s) (d := d) (k := k)] at hunarmed ⊢
    exact checkObj_tide hobj ((tideOf_congr State.commits_exec _).trans htab) hunarmed
  rw [← hbytes] at hcheck hcommit
  rw [runCached_of_commit hasks hwaits hnone, (accepts_iff.mp (asks_iff.mp hasks).1).2.1]
  exact runCommit_of_checked hhandle hfound hwhole hcheck hcommit

theorem State.Serves.shadows (h : s.Serves d u) (x : TideTab) (b : List Byte) : s.Serves d (u.shadows x b) := by
  have hplaced : s.Serves d (placeTide u.tide.shadow x u) :=
    h.of_seen ⟨[.tide], false, []⟩ (placeTide_seen _ _ _ _ (by decide)) (by decide) (by decide) (by decide)
  unfold State.shadows noteLoaded
  exact hplaced.modPen rfl

theorem State.shadows_tx (x : TideTab) (b : List Byte) : (u.shadows x b).pen.tx = u.pen.tx := by
  have hplaced : (placeTide u.tide.shadow x u).pen = u.pen :=
    pen_of_seen ⟨[.tide], false, []⟩ _ _ (placeTide_seen _ _ _ _ (by decide)) (by decide)
  have hnoted : (u.shadows x b).pen.tx = (placeTide u.tide.shadow x u).pen.tx := rfl
  rw [hnoted, hplaced]

/-- R315: a COMMIT of a tide table that waits for no partner. -/
theorem penReceive_of_commit {g : Stage} {x : TideTab} (htakes : s.takes d 0x11 k = true) (hhandle : beAt d.payload 16 1 < 8)
    (hstage : (s.sess (msgOf d.payload).sidx).stage (beAt d.payload 16 1) = some g) (hwhole : g.received = g.total)
    (hobj : g.obj = 3) (htab : tideOf s (s.memBytes g.base g.total) = some x) (hunarmed : s.tide.pstart = none)
    (hwaits : s.commitWaits = false) (hnone : s.pen.commits = []) :
    penReceive d s = s.replied d k (.ok (beBytes 4 s.frame)) (commitDone (msgOf d.payload).sidx (beAt d.payload 16 1)
      (beBytes 4 s.frame) ((s.commits d k).shadows x (s.memBytes g.base g.total))) := by
  obtain ⟨hasks, hmir⟩ := takes_iff.mp htakes
  have hadmits := (accepts_iff.mp (asks_iff.mp hasks).1).1
  have hcommit := commitObj_tide (u := s.commits d k) x (s.memBytes g.base g.total) (State.commits_mirUp.trans hmir)
  rw [State.commits_frame, State.commits_tide] at hcommit
  rw [penReceive_of_admits hadmits, request_of_asks hasks,
    runCommit_of_tide hasks hhandle hstage hwhole hobj htab hunarmed hwaits hnone hcommit,
    complete_of_serves ((State.Serves.commits.shadows x _).commitDone _ _) hadmits hmir]
  rfl

theorem State.installs_tide (o : Install) : (u.installs o).tide = u.tide := rfl

theorem commitDone_install (i n : Nat) (body : List Byte) : (commitDone i n body u).pen.install = u.pen.install := rfl

namespace State.Keeps

theorem commits : s.Keeps d k (s.commits d k) := State.Keeps.taken.modPen rfl rfl rfl rfl

theorem installs (h : s.Keeps d k u) {o : Install} : s.Keeps d k (u.installs o) := h.modPen rfl rfl rfl rfl

theorem commitDone (h : s.Keeps d k u) (n : Nat) (body : List Byte) :
    s.Keeps d k (commitDone (msgOf d.payload).sidx n body u) := (h.modPen rfl rfl rfl rfl).setStage n none

end State.Keeps

/-- R316: the COMMIT of a tide table in a pair: the table waits for the frame that the reply names. -/
theorem penReceive_of_commit_mirUp {g : Stage} {x : TideTab} {o : Install} (hasks : s.asks d 0x11 k = true)
    (hmir : s.mirUp = true) (hhandle : beAt d.payload 16 1 < 8)
    (hstage : (s.sess (msgOf d.payload).sidx).stage (beAt d.payload 16 1) = some g) (hwhole : g.received = g.total)
    (hobj : g.obj = 3) (htab : tideOf s (s.memBytes g.base g.total) = some x) (hunarmed : s.tide.pstart = none)
    (hwaits : s.commitWaits = false) (hnone : s.pen.commits = [])
    (ho : o = ⟨add32 s.frame (s.objFrames ⟨0, .tide s.tide.shadow x, s.memBytes g.base g.total⟩), .tide s.tide.shadow x,
      s.memBytes g.base g.total⟩) :
    let i := (msgOf d.payload).sidx
    let u := commitDone i (beAt d.payload 16 1) (beBytes 4 o.frame) ((s.commits d k).installs o)
    let w := u.drafts i k (s.replyText d (.ok (beBytes 4 o.frame)))
    penReceive d s = w.awaits i k (w.tells i k (some o)) := by
  intro i u w
  have hadmits := (accepts_iff.mp (asks_iff.mp hasks).1).1
  have hframes : ∀ y, (s.commits d k).objFrames y = s.objFrames y :=
    objFrames_congr (State.taken_mir (k := k)) (State.commits_fg _ (by decide))
  have hcommit := commitObj_tide_mirUp (u := s.commits d k) (x := x) (b := s.memBytes g.base g.total) (o := o)
    (State.commits_mirUp.trans hmir) (by rw [ho, State.commits_frame, State.commits_tide, hframes])
  rw [State.commits_tide] at hcommit
  have hinstalled : s.Serves d ((s.commits d k).installs o) :=
    State.Serves.commits.modPen rfl
  rw [penReceive_of_admits hadmits, request_of_asks hasks,
    runCommit_of_tide hasks hhandle hstage hwhole hobj htab hunarmed hwaits hnone hcommit,
    complete_of_serves_mirUp (hinstalled.commitDone _ _) hadmits hmir]

end

/-! ### A reply that the partner has acknowledged (R308, R361) -/

section
variable {s : State} {p : Flight}

/-- One reply waits: it goes out if the cell that it waits for has been acknowledged. -/
theorem releaseFlights_single (acked : Nat → Bool) (hflight : s.pen.flight = [p]) :
    releaseFlights acked s = if acked p.cseq then finishEntry p.sidx p.ent (s.modPen fun x => { x with flight := [] }) else s := by
  have hleft : (s.modPen fun x => { x with flight := x.flight.filter fun f => !acked f.cseq }) =
      s.modPen fun x => { x with flight := if acked p.cseq then [] else [p] } := by
    have hfilter : s.pen.flight.filter (fun f => !acked f.cseq) = if acked p.cseq then [] else [p] := by
      rw [hflight, List.filter_singleton]
      cases acked p.cseq <;> rfl
    rw [← hfilter]
    rfl
  unfold releaseFlights
  rw [hleft, hflight, List.filter_singleton]
  cases acked p.cseq with
  | true => rfl
  | false =>
    change (s.modPen fun x => { x with flight := [p] }) = s
    rw [← hflight]
    rfl

/-- The one reply that waited goes out: no reply waits, and its entry is COMPLETE. -/
theorem finishEntry_shows (hlink : s.flagi F.NET_STAT_LINK (s.sess p.sidx).peer.net = true) (hflight : s.pen.flight = []) :
    (finishEntry p.sidx p.ent s).pen.flight = [] ∧
    (tget CEntry.init ((finishEntry p.sidx p.ent s).sess p.sidx).cache p.ent).st = .complete ∧
    (finishEntry p.sidx p.ent s).pen.tx = s.pen.tx ++ [⟨(s.sess p.sidx).peer,
      tagged (s.sess p.sidx).kdh (tget CEntry.init (s.sess p.sidx).cache p.ent).reply⟩] := by
  rw [finishEntry_eq hlink]
  have hentry := State.finishes_entry (u := s) (i := p.sidx) (k := p.ent) ⟨(s.sess p.sidx).peer,
    tagged (s.sess p.sidx).kdh (s.entry p.sidx p.ent).reply⟩
  exact ⟨hflight, congrArg CEntry.st hentry, rfl⟩

/-- R361: what an acknowledgement leaves of the mirror link's queues, before the replies that waited for it go out. -/
def acknowledged (a e : Nat) (l : List (Nat × MMsg)) (s : State) : State :=
  s.modMir fun x => { x with inbox := l, ackedOut := x.ackedOut.ack a, epochOut := x.epochOut.ack e }

theorem execAck_of_ack {a e n : Nat} {l : List (Nat × MMsg)} (hinbox : s.mir.inbox = (n, .ack a e) :: l) :
    execAck s = .next (releaseFlights (fun c => (s.mir.ackedOut.ack a).cells.all fun y => decide (y.cseq ≠ c))
      (acknowledged a e l s)) := by
  unfold execAck actKind actFront
  rw [hinbox]
  rfl

end

/-! ### The family -/

/-- Settles O39: a request is carried out in the state `State.taken` (`penReceive_of_takes`); what it does there is one lemma for
each kind of request, and the reply leaves all but the session and the queues of replies as the work left it
(`State.replied_eq`); with a partner the reply waits (`awaits_shows`) until it is acknowledged (`releaseFlights_single`). -/
theorem changesByAHost : Obligations.ChangesByAHost := by
  refine ⟨fun d k a s htakes hhandle hfirst hobj hobj5 hpos hmin hmax hoff hwhole hsome hfits hpool => ?load,
    fun d k g x s htakes hhandle hstage hwhole hobj htab hunarmed hwaits hnone => ?commit,
    fun d k s htakes hhandle => ?discard, fun d k r f s htakes hf hwindow hok => ?apply,
    fun d k r s htakes hrec hmine hqueue hadmitted hopen => ?withdraw, fun d k s htakes hop hunarmed harmed => ?arm,
    fun d k p s htakes hop harmed hearly => ?cancel, fun d k s htakes hop hunarmed => ?stop,
    fun d k s htakes hop hcount hcount64 hlegal howner hmay => ?owner,
    fun d k s htakes hop hcount hcount64 hmay => ?failset, fun d k s htakes hop hcount hcount64 hmay => ?failclr,
    fun d k s htakes hop hcount hcount64 hexist => ?clrdown, fun d k s htakes => ?subscribe,
    fun d k s hasks hmir hhandle => ?pairDiscard, fun d k s hasks hmir => ?pairSubscribe,
    fun d k g x o s hasks hmir hhandle hstage hwhole hobj htab hunarmed hwaits hnone ho => ?pairCommit,
    fun s a e l p hinbox hflight hlink => ?acked⟩
  case load =>
    have htyp := (accepts_iff.mp (asks_iff.mp (takes_iff.mp htakes).1).1).2.1
    have hwork := load_work htakes hhandle hfirst hobj hobj5 hpos hmin hmax hoff hwhole hsome hfits hpool
    refine ⟨penReceive d s, penRow_of_type htyp, ?_⟩
    rw [penReceive_of_takes htakes (by decide) hwork (loads_serves a _)]
    extract_lets b i
    refine ⟨?_, (memBytes_congr State.replied_rest.1 _ _).trans State.loads_bytes, State.replied_tx ?_, State.replied_complete⟩
    · rw [State.replied_stage]
      exact setStage_stage _ _ _
    · exact (setStage_tx _ _ _).trans ((setStage_tx _ _ _).trans State.taken_tx)
  case commit =>
    have htyp := (accepts_iff.mp (asks_iff.mp (takes_iff.mp htakes).1).1).2.1
    refine ⟨penReceive d s, penRow_of_type htyp, ?_⟩
    rw [penReceive_of_commit htakes hhandle hstage hwhole hobj htab hunarmed hwaits hnone]
    refine ⟨?_, ?_, State.replied_tx ?_, State.replied_complete⟩
    · obtain ⟨-, -, -, htide, -⟩ := State.replied_rest (s := s) (d := d) (k := k) (a := .ok (beBytes 4 s.frame))
        (u := commitDone (msgOf d.payload).sidx (beAt d.payload 16 1) (beBytes 4 s.frame)
          ((s.commits d k).shadows x (s.memBytes g.base g.total)))
      have hpstart : (s.commits d k).tide.pstart = none := (congrArg TideSt.pstart State.commits_tide).trans hunarmed
      rw [htide, commitDone_tide, State.shadows_tide x _ hpstart, State.commits_tide]
    · rw [State.replied_stage, commitDone_stage]
      rfl
    · rw [commitDone_tx, State.shadows_tx, State.commits_tx]
  case discard =>
    have hasks := (takes_iff.mp htakes).1
    refine ⟨penReceive d s, penRow_of_type (accepts_iff.mp (asks_iff.mp hasks).1).2.1, ?_⟩
    rw [penReceive_of_takes htakes (by decide) (discard_work hasks hhandle) ((State.Serves.taken k).setStage _ _),
      State.replied_stage, setStage_stage]
    exact ⟨rfl, State.replied_tx ((setStage_tx _ _ _).trans State.taken_tx), State.replied_complete⟩
  case apply =>
    have htyp := (accepts_iff.mp (asks_iff.mp (takes_iff.mp htakes).1).1).2.1
    obtain ⟨hreply, htx⟩ := reply_of_takes .applying htakes (by decide) (apply_work htakes hf hwindow hok)
      (applyRequest_seen _ _ _ _ _ (by decide)) (by decide) (by decide) (by decide)
    refine ⟨penReceive d s, penRow_of_type htyp, ?_⟩
    extract_lets u
    obtain ⟨hst, hstart, hsource⟩ := applyRequest_record hok
    rw [State.taken_fgi _ _ (by decide)] at hsource
    rw [hreply]
    obtain ⟨-, hexec, hsched, -, -⟩ := State.replied_rest (s := s) (d := d) (k := k) (u := u)
      (a := .ok (beBytes 4 ((u.xrec r).execId r) ++ beBytes 4 f))
    rw [xrec_congr hexec]
    exact ⟨hexec, hsched, hst, hstart, hsource, htx⟩
  case withdraw =>
    have htyp := (accepts_iff.mp (asks_iff.mp (takes_iff.mp htakes).1).1).2.1
    obtain ⟨hreply, htx⟩ := reply_of_takes .withdrawing htakes (by decide)
      (withdraw_work htakes hrec hmine hqueue hadmitted hopen) (withdrawRec_seen _ _ _ (by decide)) (by decide) (by decide)
      (by decide)
    obtain ⟨-, hexec, hsched, -, -⟩ := State.replied_rest (s := s) (d := d) (k := k) (u := withdrawRec r (s.taken d k))
      (a := .ok [])
    refine ⟨penReceive d s, penRow_of_type htyp, ?_⟩
    rw [hreply, xrec_congr hexec, withdrawRec_xrec]
    refine ⟨rfl, rfl, State.taken_frame (k := k), fun q => ?_, htx⟩
    rw [que_congr hsched, withdrawRec_que, que_congr State.taken_sched]
  case arm =>
    have htyp := (accepts_iff.mp (asks_iff.mp (takes_iff.mp htakes).1).1).2.1
    obtain ⟨hwork, hbody⟩ := tidectl_op htakes hop
    rw [doTidectl_arm hbody ((congrArg TideSt.pstart State.taken_tide).trans hunarmed) harmed] at hwork
    obtain ⟨hreply, htx⟩ := reply_of_takes .tideCommand htakes (by decide) hwork (tideArm_seen _ _ (by decide)) (by decide)
      (by decide) (by decide)
    refine ⟨penReceive d s, penRow_of_op htyp hop, ?_⟩
    rw [hreply]
    exact ⟨State.replied_rest.2.2.2.1, htx⟩
  case cancel =>
    have htyp := (accepts_iff.mp (asks_iff.mp (takes_iff.mp htakes).1).1).2.1
    obtain ⟨hwork, hbody⟩ := tidectl_op htakes hop
    rw [doTidectl_cancel hbody ((congrArg TideSt.pstart State.taken_tide).trans harmed)
      (by rw [State.taken_frame]; exact hearly)] at hwork
    obtain ⟨hreply, htx⟩ := reply_of_takes .tideCommand htakes (by decide) hwork (State.modTide_seen _ _ _ (by decide))
      (by decide) (by decide) (by decide)
    refine ⟨penReceive d s, penRow_of_op htyp hop, ?_⟩
    rw [hreply]
    exact ⟨State.replied_rest.2.2.2.1.trans (congrArg (fun x : TideSt => { x with pstart := none }) State.taken_tide), htx⟩
  case stop =>
    have htyp := (accepts_iff.mp (asks_iff.mp (takes_iff.mp htakes).1).1).2.1
    obtain ⟨hwork, hbody⟩ := tidectl_op htakes hop
    rw [doTidectl_stop hbody ((congrArg TideSt.pstart State.taken_tide).trans hunarmed)] at hwork
    obtain ⟨hreply, htx⟩ := reply_of_takes .tideCommand htakes (by decide) hwork (tideStop_seen _ _ (by decide)) (by decide)
      (by decide) (by decide)
    refine ⟨penReceive d s, penRow_of_op htyp hop, ?_⟩
    rw [hreply]
    exact ⟨State.replied_rest.2.2.2.1.trans (tideStop_tide_congr State.taken_tide State.taken_frame), htx⟩
  case owner =>
    exact slotControl_shows htakes hop hcount hcount64 (by decide) (by decide) (hostMay_exist hmay) (fun _ => ⟨hlegal, howner⟩)
      fun _ => hostMay_mine hmay
  case failset =>
    exact slotControl_shows htakes hop hcount hcount64 (by decide) (by decide) (hostMay_exist hmay) (fun h => absurd h (by decide))
      fun _ => hostMay_mine hmay
  case failclr =>
    exact slotControl_shows htakes hop hcount hcount64 (by decide) (by decide) (hostMay_exist hmay) (fun h => absurd h (by decide))
      fun _ => hostMay_mine hmay
  case clrdown =>
    exact slotControl_shows htakes hop hcount hcount64 (by decide) (by decide) hexist (fun h => absurd h (by decide))
      fun h => absurd h (by decide)
  case subscribe =>
    have hasks := (takes_iff.mp htakes).1
    refine ⟨penReceive d s, penRow_of_type (accepts_iff.mp (asks_iff.mp hasks).1).2.1, ?_⟩
    rw [penReceive_of_takes htakes (by decide) (subscribe_work hasks) (subscribes_serves _)]
    obtain ⟨tx, cache, hsess⟩ := State.replied_sess (s := s) (d := d) (k := k)
      (a := .ok (beBytes 4 (beAt d.payload 16 4 &&& 11)))
      (u := (s.taken d k).subscribes (msgOf d.payload).sidx (beAt d.payload 16 4 &&& 11))
    refine ⟨?_, State.replied_tx ((State.subscribes_tx _ _).trans State.taken_tx), State.replied_complete⟩
    rw [hsess, State.subscribes, touchSess_sess]
  case pairDiscard =>
    have hserves := (State.Serves.taken (s := s) (d := d) k).setStage (beAt d.payload 16 1) none
    obtain ⟨htx, hbusy, hreply, hacked, hflight⟩ := awaits_shows (a := .ok []) none hserves
      (State.Keeps.taken.setStage (beAt d.payload 16 1) none)
    refine ⟨penReceive d s, penRow_of_type (accepts_iff.mp (asks_iff.mp hasks).1).2.1, ?_⟩
    rw [penReceive_of_asks_mirUp hasks hmir (by decide) (discard_work hasks hhandle) hserves]
    refine ⟨?_, htx, hbusy, hreply, hacked, hflight⟩
    rw [State.awaits_stage, setStage_stage]
    rfl
  case pairSubscribe =>
    have hserves : s.Serves d ((s.taken d k).subscribes (msgOf d.payload).sidx (beAt d.payload 16 4 &&& 11)) :=
      subscribes_serves _
    obtain ⟨htx, hbusy, hreply, hacked, -⟩ := awaits_shows (a := .ok (beBytes 4 (beAt d.payload 16 4 &&& 11))) none hserves
      State.Keeps.taken.subscribes
    refine ⟨penReceive d s, penRow_of_type (accepts_iff.mp (asks_iff.mp hasks).1).2.1, ?_⟩
    rw [penReceive_of_asks_mirUp hasks hmir (by decide) (subscribe_work hasks) hserves]
    refine ⟨?_, htx, hbusy, hreply, hacked⟩
    rw [State.awaits_mask, State.subscribes, touchSess_sess]
  case pairCommit =>
    have hserves : s.Serves d (commitDone (msgOf d.payload).sidx (beAt d.payload 16 1) (beBytes 4 o.frame)
        ((s.commits d k).installs o)) := (State.Serves.commits.modPen rfl).commitDone _ _
    obtain ⟨htx, hbusy, hreply, hacked, -⟩ := awaits_shows (a := .ok (beBytes 4 o.frame)) (some o) hserves
      (State.Keeps.commits.installs.commitDone _ _)
    refine ⟨penReceive d s, penRow_of_type (accepts_iff.mp (asks_iff.mp hasks).1).2.1, ?_⟩
    rw [penReceive_of_commit_mirUp hasks hmir hhandle hstage hwhole hobj htab hunarmed hwaits hnone ho]
    refine ⟨?_, ?_, ?_, htx, hbusy, hreply, hacked⟩
    · rw [State.awaits_tide, commitDone_tide, State.installs_tide, State.commits_tide]
    · rw [State.awaits_install, commitDone_install]
      rfl
    · rw [State.awaits_stage, commitDone_stage]
      rfl
  case acked =>
    refine ⟨_, execAck_of_ack hinbox, ?_⟩
    rw [releaseFlights_single (s := acknowledged a e l s) _ hflight]
    cases (s.mir.ackedOut.ack a).cells.all fun y => decide (y.cseq ≠ p.cseq) with
    | true =>
      exact finishEntry_shows (s := (acknowledged a e l s).modPen fun x => { x with flight := [] }) hlink rfl
    | false => rfl

end Sys2Proof.Machine
end

section
/-! PROOF. What every command keeps (log 1): it answers a next state, and changes nothing outside its extent. -/
namespace Sys2Proof.Machine

/-- Every command answers a next state that looks as before outside its extent: the law of its row, at that extent. -/
theorem exec_seen (c : Instr) (s : State) :
    ∃ t, exec c s = .next t ∧ State.seen (extentOf c) t = State.seen (extentOf c) s :=
  match c with
  | .powerSupplyChange _ _ => execPowerSupplyChange_seen _ _ _ _ rfl rfl
  | .resetNAssert => execResetNAssert_seen _ _ rfl rfl
  | .leaveOff _ _ _ => execLeaveOff_seen _ _ _ _ _ rfl rfl
  | .pllLock _ => execPllLock_seen _ _ _ rfl
  | .pllLockTimeout => execPllLockTimeout_seen _ _ rfl
  | .selfTestDone _ => execSelfTestDone_seen _ _ _ rfl
  | .imageSlotTry => execImageSlotTry_seen _ _ rfl rfl
  | .stagingEnd => execStagingEnd_seen _ _ rfl
  | .joinWaitExpiry => execJoinWaitExpiry_seen _ _ rfl
  | .frameTick => execFrameTick_seen _ _ rfl rfl
  | .queueLateFlush _ => execQueueLateFlush_seen _ _ _ rfl
  | .transitionLateEnd _ => execTransitionLateEnd_seen _ _ _ rfl
  | .engineDeadline => execEngineDeadline_seen _ _ rfl
  | .engineLateEscalation _ => execEngineLateEscalation_seen _ _ _ rfl
  | .slotDark _ => execSlotDark_seen _ _ _ rfl
  | .slotSettled _ => execSlotSettled_seen _ _ _ rfl
  | .settleTimeout _ => execSettleTimeout_seen _ _ _ rfl
  | .bundleCommandApply _ => execBundleCommandApply_seen _ _ _ rfl
  | .bundleUnpark _ => execBundleUnpark_seen _ _ _ rfl
  | .bundleInitClose _ => execBundleInitClose_seen _ _ _ rfl
  | .coefficientChangeApply _ => execCoefficientChangeApply_seen _ _ _ rfl
  | .coefficientReclose _ => execCoefficientReclose_seen _ _ _ rfl
  | .engineMemoryError _ _ _ => execEngineMemoryError_seen _ _ _ _ _ rfl
  | .substGo => execSubstGo_seen _ _ rfl
  | .substLoadComplete => execSubstLoadComplete_seen _ _ rfl
  | .bcmdOpen => execBcmdOpen_seen _ _ rfl
  | .bcmdClose => execBcmdClose_seen _ _ rfl
  | .engineWindowWrite _ _ _ => execEngineWindowWrite_seen _ _ _ _ _ rfl rfl
  | .morStatclr => execMorStatclr_seen _ _ rfl
  | .slotcfgFset => execSlotcfgFset_seen _ _ rfl
  | .slotcfgFclr => execSlotcfgFclr_seen _ _ rfl
  | .slotcfgOwnerWrite _ => execSlotcfgOwnerWrite_seen _ _ _ rfl
  | .cstatClrdown => execCstatClrdown_seen _ _ rfl
  | .manStatclr => execManStatclr_seen _ _ rfl
  | .queueFlush => execQueueFlush_seen _ _ rfl
  | .schStatclr => execSchStatclr_seen _ _ rfl
  | .vtReadLatch => execVtReadLatch_seen _ _ rfl
  | .qbalReadLatch => execQbalReadLatch_seen _ _ rfl
  | .tideArm => execTideArm_seen _ _ rfl
  | .tideCancel => execTideCancel_seen _ _ rfl
  | .tideStop => execTideStop_seen _ _ rfl
  | .tidStatclr => execTidStatclr_seen _ _ rfl
  | .tideStart => execTideStart_seen _ _ rfl
  | .tideTableStop => execTideTableStop_seen _ _ rfl
  | .pilApply _ => execPilApply_seen _ _ _ rfl
  | .pilRevert => execPilRevert_seen _ _ rfl
  | .pilAccRd => execPilAccRd_seen _ _ rfl
  | .pilAccWr => execPilAccWr_seen _ _ rfl
  | .pilotApplyTakeEffect => execPilotApplyTakeEffect_seen _ _ rfl
  | .pilCopyDone => execPilCopyDone_seen _ _ rfl
  | .rngreqGo _ => execRngreqGo_seen _ _ _ rfl
  | .rngreqCancel _ => execRngreqCancel_seen _ _ _ rfl
  | .rangeNoackCancel _ => execRangeNoackCancel_seen _ _ _ rfl
  | .rangeChangeApply _ => execRangeChangeApply_seen _ _ _ rfl
  | .drvcfgModeWrite _ _ => execDrvcfgModeWrite_seen _ _ _ _ rfl
  | .halflvlWrite _ _ => execHalflvlWrite_seen _ _ _ _ rfl
  | .rnggainWrite _ _ _ => execRnggainWrite_seen _ _ _ _ _ rfl
  | .qyDrvStatclr _ => execQyDrvStatclr_seen _ _ _ rfl
  | .tsreqGo _ => execTsreqGo_seen _ _ _ rfl
  | .tsreqCancel _ => execTsreqCancel_seen _ _ _ rfl
  | .tsetNoackCancel _ => execTsetNoackCancel_seen _ _ _ rfl
  | .tsetChangeApply _ => execTsetChangeApply_seen _ _ _ rfl
  | .segStatclr => execSegStatclr_seen _ _ rfl
  | .ckgStatclr => execCkgStatclr_seen _ _ rfl
  | .referenceWindow _ => execReferenceWindow_seen _ _ _ rfl
  | .pllLossOfLock _ => execPllLossOfLock_seen _ _ _ rfl
  | .laneSeekRateSwitch _ => execLaneSeekRateSwitch_seen _ _ _ rfl
  | .upstreamLockAcquire _ => execUpstreamLockAcquire_seen _ _ _ rfl
  | .trainPresetStep _ => execTrainPresetStep_seen _ _ _ rfl
  | .trainComplete _ => execTrainComplete_seen _ _ _ rfl
  | .trainTimeout _ => execTrainTimeout_seen _ _ _ rfl
  | .discoverComplete _ => execDiscoverComplete_seen _ _ _ rfl
  | .discoverTimeout _ => execDiscoverTimeout_seen _ _ _ rfl
  | .skewMeasureComplete _ => execSkewMeasureComplete_seen _ _ _ rfl
  | .launchMoveDone _ => execLaunchMoveDone_seen _ _ _ rfl
  | .laneEnterRun _ => execLaneEnterRun_seen _ _ _ rfl
  | .upstreamLockLoss _ => execUpstreamLockLoss_seen _ _ _ rfl
  | .upstreamRelock _ => execUpstreamRelock_seen _ _ _ rfl
  | .relockTimeout _ => execRelockTimeout_seen _ _ _ rfl
  | .preRunLockLoss _ => execPreRunLockLoss_seen _ _ _ rfl
  | .lnkctrlRetrain _ => execLnkctrlRetrain_seen _ _ _ rfl
  | .lnkctrlReskew _ => execLnkctrlReskew_seen _ _ _ rfl
  | .qyLnkStatclr _ => execQyLnkStatclr_seen _ _ _ rfl
  | .upstreamFrame _ _ _ => execUpstreamFrame_seen _ _ _ _ _ rfl
  | .downstreamErrorBurst _ => execDownstreamErrorBurst_seen _ _ _ rfl
  | .tileDownstreamFrame _ _ _ => execTileDownstreamFrame_seen _ _ _ _ _ rfl
  | .tileReferenceInstant _ _ => execTileReferenceInstant_seen _ _ _ _ rfl
  | .tileUpstreamLaunch _ _ _ _ _ => execTileUpstreamLaunch_seen _ _ _ _ _ _ _ rfl
  | .tilePark _ => execTilePark_seen _ _ _ rfl
  | .tileLock _ _ _ _ => execTileLock_seen _ _ _ _ _ _ rfl
  | .tileControlReset _ => execTileControlReset_seen _ _ _ rfl
  | .tileConditionDetect _ _ _ _ => execTileConditionDetect_seen _ _ _ _ _ _ rfl
  | .tileRd _ _ => execTileRd_seen _ _ _ _ rfl
  | .tileWr _ _ => execTileWr_seen _ _ _ _ rfl
  | .tileAnnounce _ _ => execTileAnnounce_seen _ _ _ _ rfl
  | .tileCancel _ _ => execTileCancel_seen _ _ _ _ rfl
  | .rdrsp _ => execRdrsp_seen _ _ _ rfl
  | .wrrsp _ => execWrrsp_seen _ _ _ rfl
  | .annack _ => execAnnack_seen _ _ _ rfl
  | .canack _ => execCanack_seen _ _ _ rfl
  | .errrsp _ => execErrrsp_seen _ _ _ rfl
  | .event _ => execEvent_seen _ _ _ rfl
  | .channelRetransmitTimeout _ => execChannelRetransmitTimeout_seen _ _ _ rfl
  | .channelRetryFail _ => execChannelRetryFail_seen _ _ _ rfl
  | .tchctrlReset _ => execTchctrlReset_seen _ _ _ rfl
  | .channelResetDone _ => execChannelResetDone_seen _ _ _ rfl
  | .qyTchStatclr _ => execQyTchStatclr_seen _ _ _ rfl
  | .treqGo _ => execTreqGo_seen _ _ _ rfl
  | .treqTimeout _ => execTreqTimeout_seen _ _ _ rfl
  | .openMsg _ => execOpenMsg_seen _ _ _ rfl rfl
  | .closeMsg _ => execCloseMsg_seen _ _ _ rfl rfl
  | .ping _ => execPing_seen _ _ _ rfl rfl
  | .load _ => execLoad_seen _ _ _ rfl rfl
  | .commit _ => execCommit_seen _ _ _ rfl rfl
  | .discard _ => execDiscard_seen _ _ _ rfl rfl
  | .apply _ => execApply_seen _ _ _ rfl rfl
  | .withdraw _ => execWithdraw_seen _ _ _ rfl rfl
  | .tidectlArm _ => execTidectlArm_seen _ _ _ rfl rfl
  | .tidectlCancel _ => execTidectlCancel_seen _ _ _ rfl rfl
  | .tidectlStop _ => execTidectlStop_seen _ _ _ rfl rfl
  | .queryDevice _ => execQueryDevice_seen _ _ _ rfl rfl
  | .queryTime _ => execQueryTime_seen _ _ _ rfl rfl
  | .queryReg _ => execQueryReg_seen _ _ _ rfl rfl
  | .querySlot _ => execQuerySlot_seen _ _ _ rfl rfl
  | .queryCircuit _ => execQueryCircuit_seen _ _ _ rfl rfl
  | .queryQueue _ => execQueryQueue_seen _ _ _ rfl rfl
  | .queryHealth _ => execQueryHealth_seen _ _ _ rfl rfl
  | .manifestStatus _ => execManifestStatus_seen _ _ _ rfl rfl
  | .slotControlOwner _ => execSlotControlOwner_seen _ _ _ rfl rfl
  | .slotControlFailset _ => execSlotControlFailset_seen _ _ _ rfl rfl
  | .slotControlFailclr _ => execSlotControlFailclr_seen _ _ _ rfl rfl
  | .slotControlClrdown _ => execSlotControlClrdown_seen _ _ _ rfl rfl
  | .subscribe _ => execSubscribe_seen _ _ _ rfl rfl
  | .penvarUnknownType _ => execPenvarUnknownType_seen _ _ _ rfl rfl
  | .scmdAccept => execScmdAccept_seen _ _ rfl
  | .scmdRefuse _ => execScmdRefuse_seen _ _ _ rfl
  | .scmdClose => execScmdClose_seen _ _ rfl
  | .halfTimeout _ => execHalfTimeout_seen _ _ _ rfl
  | .idleTimeout _ => execIdleTimeout_seen _ _ _ rfl
  | .pveStatclr => execPveStatclr_seen _ _ rfl
  | .tbIncWrite _ _ => execTbIncWrite_seen _ _ _ _ rfl
  | .tbAdjWrite _ _ => execTbAdjWrite_seen _ _ _ _ rfl
  | .tbNsReadLatch _ _ => execTbNsReadLatch_seen _ _ _ _ rfl
  | .tb3Step => execTb3Step_seen _ _ rfl
  | .frameCounterReload => execFrameCounterReload_seen _ _ rfl
  | .timStatclr => execTimStatclr_seen _ _ rfl
  | .ppsInEdge _ => execPpsInEdge_seen _ _ _ rfl
  | .ppsnextWrite _ => execPpsnextWrite_seen _ _ _ rfl
  | .ppsOutEdge _ => execPpsOutEdge_seen _ _ _ rfl
  | .ppsOutEnd _ => execPpsOutEnd_seen _ _ _ rfl
  | .evtCapture _ _ _ => execEvtCapture_seen _ _ _ _ _ rfl
  | .evtPop _ => execEvtPop_seen _ _ _ rfl
  | .evtStatclr => execEvtStatclr_seen _ _ rfl
  | .beaconEdgeReceive _ _ => execBeaconEdgeReceive_seen _ _ _ _ rfl
  | .beaconMiss => execBeaconMiss_seen _ _ rfl
  | .beaconSkewMeasure _ _ => execBeaconSkewMeasure_seen _ _ _ _ rfl
  | .beaconEcho _ _ => execBeaconEcho_seen _ _ _ _ rfl
  | .partnerFailed => execPartnerFailed_seen _ _ rfl
  | .takeover => execTakeover_seen _ _ rfl
  | .dualActiveYield => execDualActiveYield_seen _ _ rfl
  | .mirrorFrame _ _ => execMirrorFrame_seen _ _ _ _ rfl
  | .mirrorLaneTrain _ _ _ => execMirrorLaneTrain_seen _ _ _ _ _ rfl
  | .req => execReq_seen _ _ rfl rfl
  | .admitEv => execAdmitEv_seen _ _ rfl rfl
  | .voidev => execVoidev_seen _ _ rfl rfl
  | .late => execLate_seen _ _ rfl rfl
  | .tally => execTally_seen _ _ rfl rfl
  | .config => execConfig_seen _ _ rfl rfl
  | .swap => execSwap_seen _ _ rfl rfl
  | .object => execObject_seen _ _ rfl rfl
  | .session => execSession_seen _ _ rfl rfl
  | .cache => execCache_seen _ _ rfl rfl
  | .holdcode => execHoldcode_seen _ _ rfl rfl
  | .brec => execBrec_seen _ _ rfl rfl
  | .sblk => execSblk_seen _ _ rfl rfl
  | .epctl => execEpctl_seen _ _ rfl rfl
  | .ack => execAck_seen _ _ rfl rfl
  | .hello => execHello_seen _ _ rfl rfl
  | .mirrorCellRetransmit => execMirrorCellRetransmit_seen _ _ rfl
  | .streamLoss => execStreamLoss_seen _ _ rfl
  | .tallyTimeout => execTallyTimeout_seen _ _ rfl
  | .epochCommit => execEpochCommit_seen _ _ rfl rfl
  | .epochTimeout => execEpochTimeout_seen _ _ rfl
  | .mirEpoch => execMirEpoch_seen _ _ rfl
  | .mirResync => execMirResync_seen _ _ rfl
  | .mirRetrain => execMirRetrain_seen _ _ rfl
  | .mirStatclr => execMirStatclr_seen _ _ rfl
  | .rolSwap => execRolSwap_seen _ _ rfl
  | .rolSwcancel => execRolSwcancel_seen _ _ rfl
  | .rolStatclr => execRolStatclr_seen _ _ rfl
  | .swapNoack => execSwapNoack_seen _ _ rfl
  | .swapAtFrame => execSwapAtFrame_seen _ _ rfl
  | .sensorSample _ => execSensorSample_seen _ _ _ rfl
  | .sensorFail _ => execSensorFail_seen _ _ _ rfl
  | .thermalTrip => execThermalTrip_seen _ _ rfl
  | .thermalShutdown => execThermalShutdown_seen _ _ rfl rfl
  | .shutdownRelease => execShutdownRelease_seen _ _ rfl
  | .writeHoldRelease => execWriteHoldRelease_seen _ _ rfl
  | .bandCompute => execBandCompute_seen _ _ rfl
  | .bandChange => execBandChange_seen _ _ rfl
  | .qtrigClear _ => execQtrigClear_seen _ _ _ rfl
  | .dietrigClear => execDietrigClear_seen _ _ rfl
  | .calTrimWrite _ => execCalTrimWrite_seen _ _ _ rfl
  | .calGoElement => execCalGoElement_seen _ _ rfl
  | .calGoScale => execCalGoScale_seen _ _ rfl
  | .calCancel => execCalCancel_seen _ _ rfl
  | .sweepWindowFound _ => execSweepWindowFound_seen _ _ _ rfl
  | .sweepWindowTimeout _ => execSweepWindowTimeout_seen _ _ _ rfl
  | .sweepRun _ => execSweepRun_seen _ _ _ rfl
  | .scaleChange _ => execScaleChange_seen _ _ _ rfl
  | .sweepCaptureEnd _ => execSweepCaptureEnd_seen _ _ _ rfl
  | .calibrationRelease _ => execCalibrationRelease_seen _ _ _ rfl
  | .calSubmit => execCalSubmit_seen _ _ rfl
  | .calStore => execCalStore_seen _ _ rfl
  | .journalStoreComplete _ => execJournalStoreComplete_seen _ _ _ rfl
  | .calStatclr => execCalStatclr_seen _ _ rfl
  | .tmpStatclr => execTmpStatclr_seen _ _ rfl
  | .xspRead => execXspRead_seen _ _ rfl
  | .xspProgram => execXspProgram_seen _ _ rfl
  | .xspErase => execXspErase_seen _ _ rfl
  | .xspCancel => execXspCancel_seen _ _ rfl
  | .xspStatclr => execXspStatclr_seen _ _ rfl
  | .flashOpComplete => execFlashOpComplete_seen _ _ rfl
  | .flashOpTimeout => execFlashOpTimeout_seen _ _ rfl
  | .otpProg => execOtpProg_seen _ _ rfl
  | .otpCancel => execOtpCancel_seen _ _ rfl
  | .otpProgComplete _ => execOtpProgComplete_seen _ _ _ rfl
  | .sysGo => execSysGo_seen _ _ rfl
  | .sysSwrst => execSysSwrst_seen _ _ rfl rfl
  | .sysLockWrite _ => execSysLockWrite_seen _ _ _ rfl
  | .registerWrite _ _ _ => execRegisterWrite_seen _ _ _ _ _ rfl rfl
  | .add _ => execAdd_seen _ _ _ rfl
  | .sub _ => execSub_seen _ _ _ rfl
  | .and _ => execAnd_seen _ _ _ rfl
  | .or _ => execOr_seen _ _ _ rfl
  | .xor _ => execXor_seen _ _ _ rfl
  | .shl _ => execShl_seen _ _ _ rfl
  | .shr _ => execShr_seen _ _ _ rfl
  | .sar _ => execSar_seen _ _ _ rfl
  | .mul _ => execMul_seen _ _ _ rfl
  | .sltu _ => execSltu_seen _ _ _ rfl
  | .addi _ => execAddi_seen _ _ _ rfl
  | .andi _ => execAndi_seen _ _ _ rfl
  | .ori _ => execOri_seen _ _ _ rfl
  | .xori _ => execXori_seen _ _ _ rfl
  | .shi _ => execShi_seen _ _ _ rfl
  | .movhi _ => execMovhi_seen _ _ _ rfl
  | .ld _ _ _ => execLd_seen _ _ _ _ _ rfl rfl
  | .st _ _ _ => execSt_seen _ _ _ _ _ rfl rfl
  | .fence _ _ _ => execFence_seen _ _ _ _ _ rfl rfl
  | .beq _ => execBeq_seen _ _ _ rfl
  | .bne _ => execBne_seen _ _ _ rfl
  | .blt _ => execBlt_seen _ _ _ rfl
  | .bge _ => execBge_seen _ _ _ rfl
  | .bltu _ => execBltu_seen _ _ _ rfl
  | .bgeu _ => execBgeu_seen _ _ _ rfl
  | .jmp _ => execJmp_seen _ _ _ rfl
  | .call _ => execCall_seen _ _ _ rfl
  | .jr _ => execJr_seen _ _ _ rfl
  | .mfs _ => execMfs_seen _ _ _ rfl
  | .mts _ => execMts_seen _ _ _ rfl
  | .sig _ _ _ => execSig_seen _ _ _ _ _ rfl rfl
  | .wait _ => execWait_seen _ _ _ rfl
  | .reti _ => execReti_seen _ _ _ rfl
  | .halt _ _ _ => execHalt_seen _ _ _ _ _ rfl rfl
  | .illegalInstruction _ => execIllegalInstruction_seen _ _ _ rfl
  | .entrySequence _ => execEntrySequence_seen _ _ _ rfl
  | .waitWake _ _ => execWaitWake_seen _ _ _ _ rfl
  | .tsqStart _ => execTsqStart_seen _ _ _ rfl
  | .tsqHalt _ => execTsqHalt_seen _ _ _ rfl
  | .watchdogExpiry _ => execWatchdogExpiry_seen _ _ _ rfl
  | .wdkick _ => execWdkick_seen _ _ _ rfl
  | .semAcq _ _ => execSemAcq_seen _ _ _ _ rfl
  | .semRel _ _ => execSemRel_seen _ _ _ _ rfl
  | .icuSet _ _ => execIcuSet_seen _ _ _ _ rfl
  | .icuPendClear _ _ => execIcuPendClear_seen _ _ _ _ rfl
  | .icuOvrClear _ _ => execIcuOvrClear_seen _ _ _ _ rfl
  | .icuStatclr => execIcuStatclr_seen _ _ rfl
  | .matrixBurst _ _ => execMatrixBurst_seen _ _ _ _ rfl rfl
  | .craneStart _ => execCraneStart_seen _ _ _ rfl
  | .craneAbort _ _ => execCraneAbort_seen _ _ _ _ rfl rfl
  | .craneDescriptorComplete _ _ => execCraneDescriptorComplete_seen _ _ _ _ rfl rfl
  | .craneError _ _ => execCraneError_seen _ _ _ _ rfl rfl
  | .craneEngineLimitResume _ _ => execCraneEngineLimitResume_seen _ _ _ _ rfl rfl
  | .crnStatclr => execCrnStatclr_seen _ _ rfl
  | .mtxStatclr => execMtxStatclr_seen _ _ rfl
  | .netLinkChange _ _ _ => execNetLinkChange_seen _ _ _ _ _ rfl
  | .netFrameReceive _ _ => execNetFrameReceive_seen _ _ _ _ rfl rfl
  | .netAnrst _ => execNetAnrst_seen _ _ _ rfl
  | .netAnnounce _ => execNetAnnounce_seen _ _ _ rfl
  | .addressAnnounceRepeat _ => execAddressAnnounceRepeat_seen _ _ _ rfl
  | .netStatclr _ => execNetStatclr_seen _ _ _ rfl
  | .prxPop _ => execPrxPop_seen _ _ _ rfl
  | .ptxcmdGo _ => execPtxcmdGo_seen _ _ _ rfl
  | .ptpTransmitDone _ _ _ => execPtpTransmitDone_seen _ _ _ _ _ rfl
  | .txtsReadLatch _ => execTxtsReadLatch_seen _ _ _ rfl
  | .setaddr _ _ => execSetaddr_seen _ _ _ _ rfl
  | .read _ => execRead_seen _ _ _ rfl rfl
  | .smbusReadTimeout => execSmbusReadTimeout_seen _ _ rfl
  | .write _ _ _ => execWrite_seen _ _ _ _ _ rfl rfl
  | .status => execStatus_seen _ _ rfl
  | .state => execState_seen _ _ rfl
  | .mbwrite _ _ => execMbwrite_seen _ _ _ _ rfl
  | .mbread => execMbread_seen _ _ rfl
  | .sclLowTimeout => execSclLowTimeout_seen _ _ rfl
  | .mbctrlAck => execMbctrlAck_seen _ _ rfl
  | .mbctrlPost => execMbctrlPost_seen _ _ rfl
  | .uartReceiveByte _ _ => execUartReceiveByte_seen _ _ _ _ rfl
  | .utxWrite _ => execUtxWrite_seen _ _ _ rfl
  | .uctrlRxpop => execUctrlRxpop_seen _ _ rfl
  | .uctrlFlush => execUctrlFlush_seen _ _ rfl
  | .sbiStatclr => execSbiStatclr_seen _ _ rfl
  | .tapReset => execTapReset_seen _ _ rfl
  | .idcode => execIdcode_seen _ _ rfl rfl
  | .samplePreload => execSamplePreload_seen _ _ rfl rfl
  | .extest => execExtest_seen _ _ rfl rfl
  | .clamp => execClamp_seen _ _ rfl rfl
  | .highz => execHighz_seen _ _ rfl rfl
  | .memacc _ _ _ _ => execMemacc_seen _ _ _ _ _ _ rfl rfl
  | .bypass => execBypass_seen _ _ rfl rfl
  | .dbgStatall => execDbgStatall_seen _ _ rfl rfl
  | .dbgSafe => execDbgSafe_seen _ _ rfl
  | .dbgPut => execDbgPut_seen _ _ rfl
  | .safeAutoRestart => execSafeAutoRestart_seen _ _ rfl rfl
  | .restartCountReset => execRestartCountReset_seen _ _ rfl
  | .healthReportClose _ => execHealthReportClose_seen _ _ _ rfl
  | .hbtInEdge => execHbtInEdge_seen _ _ rfl
  | .actInEdge => execActInEdge_seen _ _ rfl
  | .rngHealthFail => execRngHealthFail_seen _ _ rfl
  | .tileOvertemp _ => execTileOvertemp_seen _ _ _ rfl
  | .tb3NsWrap _ => execTb3NsWrap_seen _ _ _ rfl
  | .uartSendByte => execUartSendByte_seen _ _ rfl
  | .netFrameSent _ => execNetFrameSent_seen _ _ _ rfl

/-- Of two states that a command goes from and to, every part outside its extent agrees. -/
theorem seen_of_exec {c : Instr} {s t : State} (h : exec c s = .next t) :
    State.seen (extentOf c) t = State.seen (extentOf c) s := by
  obtain ⟨u, hu, hseen⟩ := exec_seen c s
  obtain rfl : t = u := by simpa [h] using hu
  exact hseen

/-- Settles O3: the law of each row (`exec_seen`). -/
theorem commandsStayInTheirExtent : Obligations.CommandsStayInTheirExtent := fun _ _ _ => seen_of_exec

/-- Settles O1: a queue with a front takes the second branch of `step`. -/
theorem stepRunsFront : Obligations.StepRunsFront := fun _ _ _ => rfl

/-- Settles O2: an empty queue takes the first branch of `step`. -/
theorem emptyQueueIdles : Obligations.EmptyQueueIdles := fun _ => rfl

theorem step_of_empty {s : State} (h : s.pending = []) : step s = .next s := by
  unfold step
  rw [h]

theorem step_of_front {s : State} {c : Instr} {rest : List Instr} (h : s.pending = c :: rest) :
    step s = exec c { s with pending := rest } := by
  unfold step
  rw [h]

/-- Settles O4: an empty queue idles, and every command answers a next state. -/
theorem everyStepAnswersNext : Obligations.EveryStepAnswersNext := by
  intro s
  cases hq : s.pending with
  | nil => exact ⟨s, step_of_empty hq⟩
  | cons c rest =>
    obtain ⟨t, ht, -⟩ := exec_seen c { s with pending := rest }
    exact ⟨t, (step_of_front hq).trans ht⟩

/-- No command's extent holds the queue of waiting commands. -/
theorem extentOf_pending (c : Instr) : (extentOf c).p .pending = false := by
  cases c <;> rfl

/-- Settles O5: the front leaves the queue as its command begins, and the queue is outside every extent. -/
theorem queueIsFirstInFirstOut : Obligations.QueueIsFirstInFirstOut := by
  intro s t h
  cases hq : s.pending with
  | nil =>
    obtain rfl : s = t := by simpa [step_of_empty hq] using h
    exact hq
  | cons c rest =>
    rw [step_of_front hq] at h
    exact pending_of_seen _ _ _ (seen_of_exec h) (extentOf_pending c)

/-- The OTP array is in the extent of a completed programming alone. -/
theorem extentOf_otp (c : Instr) (h : ∀ ok, c ≠ .otpProgComplete ok) : (extentOf c).p .otp = false := by
  cases c
  case otpProgComplete ok => exact absurd rfl (h ok)
  all_goals rfl

/-- Settles O7: no other command's extent holds the OTP array. -/
theorem otpChangesOnlyByProgramming : Obligations.OtpChangesOnlyByProgramming := fun c _ _ hc h =>
  otp_of_seen _ _ _ (seen_of_exec h) (extentOf_otp c hc)

/-! ### The bits of an OTP word (R433) -/

theorem leBytes_length (n v : Nat) : (leBytes n v).length = n := by
  induction n generalizing v with
  | zero => rfl
  | succ n ih => simp [leBytes, ih]

theorem leBytes_getD {n i : Nat} (v : Nat) (h : i < n) : (leBytes n v).getD i 0 = BitVec.ofNat 8 (v / 256 ^ i) := by
  induction n generalizing v i with
  | zero => omega
  | succ n ih =>
    cases i with
    | zero => simp [leBytes]
    | succ i =>
      rw [pow_succ', ← Nat.div_div_eq_div_mul]
      simpa [leBytes] using ih (v / 256) (Nat.lt_of_succ_lt_succ h)

/-- Bit `b` of byte `i` is bit 8 i + b of the number (R3). -/
theorem testBit_leNat_tgetBytes (t : Tbl Byte) (a : Nat) {n i b : Nat} (hi : i < n) (hb : b < 8) :
    (leNat (tgetBytes t 0 a n)).testBit (8 * i + b) = (tget 0 t (a + i)).getLsbD b := by
  induction n generalizing a i with
  | zero => omega
  | succ n ih =>
    have hsplit : leNat (tgetBytes t 0 a (n + 1)) =
        2 ^ 8 * leNat (tgetBytes t 0 (a + 1) n) + (tget 0 t a).toNat := Nat.add_comm _ _
    rw [hsplit, Nat.testBit_two_pow_mul_add _ (tget 0 t a).isLt]
    cases i with
    | zero => simp [hb, BitVec.getLsbD]
    | succ i =>
      have hplace : 8 * (i + 1) + b - 8 = 8 * i + b := by omega
      rw [if_neg (by omega), hplace, ih (a + 1) (Nat.lt_of_succ_lt_succ hi), Nat.add_assoc, Nat.add_comm 1]

/-- R433: bits put into a word are or-ed in, so a bit of the table that is 1 stays 1. -/
theorem orWord_keeps_ones (t : Tbl Byte) (w d a b : Nat) (h : (tget 0 t a).getLsbD b = true) :
    (tget 0 (orWord t w d) a).getLsbD b = true := by
  have hb : b < 8 := BitVec.lt_of_getLsbD h
  unfold orWord
  by_cases hin : 4 * w ≤ a ∧ a < 4 * w + 4
  · obtain ⟨i, rfl⟩ := Nat.exists_eq_add_of_le hin.1
    have hi : i < 4 := by omega
    rw [tget_tsetBytes _ _ _ _ _ (by rwa [leBytes_length]), leBytes_getD _ hi]
    have hbyte : 256 ^ i = 2 ^ (8 * i) := by rw [pow_mul]; norm_num
    simp only [BitVec.getLsbD_ofNat, hb, decide_true, Bool.true_and, hbyte, Nat.testBit_div_two_pow, Nat.testBit_or,
      Nat.add_comm b, testBit_leNat_tgetBytes _ _ hi hb, h, Bool.true_or]
  · rw [tget_tsetBytes_ne _ _ _ _ _ (by rw [leBytes_length]; omega)]
    exact h

/-- R433: a completed programming or-s bits into one word of the array, or leaves the array. -/
theorem otpDone_otp (ok : Bool) (s : State) :
    (otpDone ok s).boot.otp = s.boot.otp ∨ ∃ w d, (otpDone ok s).boot.otp = orWord s.boot.otp w d := by
  have hraise : ∀ (f : Fld) (t : State), (t.sticky f 0 31).boot = t.boot := fun f t => by
    unfold State.sticky
    split
    · rfl
    · exact boot_kept (State.raise_seen _ _ _ (by decide))
  unfold otpDone
  dsimp only
  split
  · exact .inl rfl
  · rename_i o ho
    split_ifs
    · exact .inl rfl
    · exact .inr ⟨o.word, _, by rw [hraise]; rfl⟩
    · exact .inr ⟨o.word, _, by rw [hraise]; rfl⟩

/-- R433: no command clears a bit of the OTP array. -/
theorem exec_keeps_otp_ones {c : Instr} {s t : State} (a b : Nat) (h : exec c s = .next t)
    (hbit : (tget 0 s.boot.otp a).getLsbD b = true) : (tget 0 t.boot.otp a).getLsbD b = true := by
  by_cases hc : ∃ ok, c = .otpProgComplete ok
  · obtain ⟨ok, rfl⟩ := hc
    obtain rfl : otpDone ok s = t := Host.Outcome.next.inj h
    rcases otpDone_otp ok s with heq | ⟨w, d, heq⟩
    · rwa [heq]
    · rw [heq]
      exact orWord_keeps_ones _ w d a b hbit
  · rwa [otpChangesOnlyByProgramming c s t (fun ok hok => hc ⟨ok, hok⟩) h]

/-- Settles O6: an idle step keeps the array, and so does every command but a completed programming, which or-s bits
in (`orWord_keeps_ones`). -/
theorem otpBitsNeverFall : Obligations.OtpBitsNeverFall := by
  intro s t a b h hbit
  cases hq : s.pending with
  | nil =>
    obtain rfl : s = t := by simpa [step_of_empty hq] using h
    exact hbit
  | cons c rest =>
    rw [step_of_front hq] at h
    exact exec_keeps_otp_ones a b h hbit

/-! ### Memory and the state after reset -/

/-- Settles O11: bytes read back where they were written, and the write keeps the canonical form. -/
theorem memoryStaysCanonical : Obligations.MemoryStaysCanonical := fun s a bs =>
  ⟨fun i h => tget_tsetBytes s.table 0 a bs i h, fun k h => tget_tsetBytes_ne s.table 0 a bs k h,
    s.memPut_wf a bs⟩

/-- Settles O8: a register store with no entry shows every field's reset value (R12). -/
theorem resetState : Obligations.ResetState := by
  refine ⟨rfl, rfl, rfl, fun f i => ?_, fun _ => ⟨rfl, rfl⟩, State.reset_table_wf, rfl, by decide⟩
  have hread : State.reset.fgi f i = (0 ^^^ f.reset i) % 2 ^ f.width := rfl
  rw [hread, Nat.zero_xor]

end Sys2Proof.Machine
end

section
/-! PROOF. Sequencers (R438 to R446): what the end of an instruction leaves, the operations on 32-bit words, and the
instructions that compute (R444). -/
namespace Sys2Proof.Machine

/-! ### Numbers and words (R2) -/

theorem unsgn_eq_toNat_ofInt (w : Nat) (i : Int) : unsgn w i = (BitVec.ofInt w i).toNat := by
  rw [BitVec.toNat_ofInt]
  rfl

theorem sgn_eq_toInt (w v : Nat) : sgn w v = (BitVec.ofNat w v).toInt := by
  rw [BitVec.toInt_eq_toNat_cond, BitVec.toNat_ofNat]
  simp [sgn]

theorem sgn_toNat {w : Nat} (x : BitVec w) : sgn w x.toNat = x.toInt := by
  rw [sgn_eq_toInt, BitVec.ofNat_toNat, BitVec.setWidth_eq]

theorem ofInt_toNat {w : Nat} (x : BitVec w) : BitVec.ofInt w x.toNat = x := by
  rw [BitVec.ofInt_natCast, BitVec.ofNat_toNat, BitVec.setWidth_eq]

/-! ### One sequencer of the four -/

section
variable {s : State} {n : Nat}

theorem State.sq_setSq_same (q : Seq) (hn : n < s.seqs.length) : (s.setSq n q).sq n = q := by
  unfold State.sq
  rw [State.setSq_seqs, getD_setAt, if_pos ⟨rfl, hn⟩]

theorem State.sq_setSq_ne {m : Nat} (q : Seq) (h : m ≠ n) : (s.setSq n q).sq m = s.sq m := getD_setAt_ne _ _ _ _ _ h

theorem State.sq_modSq_same (f : Seq → Seq) (hn : n < s.seqs.length) : (s.modSq n f).sq n = f (s.sq n) :=
  State.sq_setSq_same _ hn

theorem State.sq_modSq_ne {m : Nat} (f : Seq → Seq) (h : m ≠ n) : (s.modSq n f).sq m = s.sq m := State.sq_setSq_ne _ h

theorem State.seqs_length_modSq (f : Seq → Seq) : (s.modSq n f).seqs.length = s.seqs.length := setAt_length _ _ _

theorem State.chosen_modSq (f : Seq → Seq) (m cl : Nat) : (s.modSq n f).chosen m cl = s.chosen m cl := rfl

/-- R453: what an instruction that ends leaves its sequencer: delivery is judged on the level and the mask it had. -/
def Seq.ended (s : State) (n pc cycles : Nat) (q : Seq) : Seq :=
  { q with
    pc := pc % 65536
    cycle := (q.cycle + cycles) % 2 ^ 32
    runCycles := q.runCycles + cycles
    entry := decide (q.st = .run) && (if q.im then none else s.chosen n q.cl).isSome }

theorem seqEnd_sq_same (pc cycles : Nat) (hn : n < s.seqs.length) :
    (seqEnd n pc cycles s).sq n = (s.sq n).ended s n pc cycles := by
  unfold seqEnd State.deliverable
  rw [State.sq_modSq_same _ (by rwa [State.seqs_length_modSq]), State.sq_modSq_same _ hn]
  rfl

theorem seqEnd_sq_ne (pc cycles : Nat) {m : Nat} (h : m ≠ n) : (seqEnd n pc cycles s).sq m = s.sq m :=
  (State.sq_modSq_ne _ h).trans (State.sq_modSq_ne _ h)

theorem seqEnd_seqs_length (pc cycles : Nat) : (seqEnd n pc cycles s).seqs.length = s.seqs.length :=
  (State.seqs_length_modSq _).trans (State.seqs_length_modSq _)

theorem setReg_zero (v : Nat) : setReg n 0 v s = s := if_pos rfl

theorem setReg_of_ne {r : Nat} (v : Nat) (hr : r ≠ 0) :
    setReg n r v s = s.modSq n fun q => { q with g := setAt q.g r (BitVec.ofNat 32 v) } := if_neg hr

theorem Seq.reg_lt (q : Seq) (r : Nat) : q.reg r < 2 ^ 32 := by
  unfold Seq.reg
  split
  · decide
  · exact BitVec.isLt _

theorem Seq.reg_ofNat (q : Seq) (r : Nat) : (BitVec.ofNat 32 (q.reg r)).toNat = q.reg r :=
  (BitVec.toNat_ofNat _ _).trans (Nat.mod_eq_of_lt (q.reg_lt r))

/-- R438: a general register reads as it was written, and the others as before. -/
theorem Seq.reg_setAt (q : Seq) {r : Nat} (k v : Nat) (hr : r ≠ 0) (hlen : r < q.g.length) :
    Seq.reg { q with g := setAt q.g r (BitVec.ofNat 32 v) } k = if k = r then v % 2 ^ 32 else q.reg k := by
  unfold Seq.reg
  rw [getD_setAt]
  by_cases hk : k = r
  · subst hk
    simp [hr, hlen]
  · simp [hk]

/-- R438, R444: an instruction that ends with a register written does that alone. -/
theorem seqEnd_setReg_did {r : Nat} (v pc cycles : Nat) (hn : n < s.seqs.length) (hr : r < (s.sq n).g.length) :
    s.seqDid (seqEnd n pc cycles (setReg n r v s)) n r (v % 2 ^ 32) pc cycles := by
  by_cases h0 : r = 0
  · subst h0
    rw [setReg_zero]
    refine ⟨fun k => ?_, ?_, ?_, ?_, fun m hm => seqEnd_sq_ne pc cycles hm, rfl⟩ <;> rw [seqEnd_sq_same _ _ hn]
    · simp [Seq.ended, Seq.reg]
    · rfl
    · rfl
    · rfl
  · rw [setReg_of_ne v h0]
    have hlen := (State.seqs_length_modSq (s := s) (n := n) fun q => { q with g := setAt q.g r (BitVec.ofNat 32 v) }).symm ▸ hn
    refine ⟨fun k => ?_, ?_, ?_, ?_, fun m hm => (seqEnd_sq_ne pc cycles hm).trans (State.sq_modSq_ne _ hm), rfl⟩ <;>
      rw [seqEnd_sq_same _ _ hlen, State.sq_modSq_same _ hn]
    · refine (Seq.reg_setAt (s.sq n) k.val v h0 hr).trans ?_
      simp [h0]
    · rfl
    · rfl
    · rfl

/-- R444: an instruction that writes no register goes on and does nothing else. -/
theorem seqEnd_did (pc cycles : Nat) (hn : n < s.seqs.length) : s.seqDid (seqEnd n pc cycles s) n 0 0 pc cycles := by
  refine ⟨fun k => ?_, ?_, ?_, ?_, fun m hm => seqEnd_sq_ne pc cycles hm, rfl⟩ <;> rw [seqEnd_sq_same _ _ hn]
  · simp [Seq.ended, Seq.reg]
  · rfl
  · rfl
  · rfl

theorem fd_lt (w : Nat) : fd w < 16 := Nat.mod_lt _ (by decide)

theorem setReg_pc (r v : Nat) : ((setReg n r v s).sq n).pc = (s.sq n).pc := by
  by_cases h0 : r = 0
  · rw [h0, setReg_zero]
  · rw [setReg_of_ne v h0]
    by_cases hn : n < s.seqs.length
    · rw [State.sq_modSq_same _ hn]
    · have hset : setAt s.seqs n { s.sq n with g := setAt (s.sq n).g r (BitVec.ofNat 32 v) } = s.seqs := by
        rw [setAt_eq_set, List.set_eq_of_length_le (Nat.le_of_not_lt hn)]
      exact congrArg (fun l : List Seq => (l.getD n Seq.init).pc) hset

theorem seqNext_setReg_did {r : Nat} (v cycles : Nat) (hn : n < s.seqs.length) (hr : r < (s.sq n).g.length) :
    s.seqDid (seqNext n cycles (setReg n r v s)) n r (v % 2 ^ 32) ((s.sq n).pc + 4) cycles := by
  unfold seqNext
  rw [setReg_pc]
  exact seqEnd_setReg_did v _ cycles hn hr

end

/-! ### The instructions that compute (R444) -/

section
variable {s : State} {n : Fin 4} {o : Nat} (hat : s.seqAt n.val o = true) (hlen : s.seqs.length = 4)
  (hg : (s.sq n.val).g.length = 16)
include hat hlen hg

/-- An instruction of format R whose number operation `f` is the word operation `g`. -/
theorem seqR_did (cycles : Nat) {f : Nat → Nat → Nat} (g : BitVec 32 → BitVec 32 → BitVec 32)
    (hfg : ∀ a b : BitVec 32, f a.toNat b.toNat % 2 ^ 32 = (g a b).toNat) :
    s.seqDid (seqR n.val o cycles f s) n.val (fd (s.seqWord n.val))
      (g (BitVec.ofNat 32 ((s.sq n.val).reg (fa (s.seqWord n.val))))
        (BitVec.ofNat 32 ((s.sq n.val).reg (fb (s.seqWord n.val))))).toNat ((s.sq n.val).pc + 4) cycles := by
  unfold seqR
  rw [if_pos hat, ← hfg, Seq.reg_ofNat, Seq.reg_ofNat]
  exact seqNext_setReg_did _ cycles (by omega) (by have := fd_lt (s.seqWord n.val); omega)

/-- An instruction of format I whose number operation `f` is the word operation `g`. -/
theorem seqI_did {f : Nat → Nat → Nat} (g : BitVec 32 → BitVec 18 → BitVec 32)
    (hfg : ∀ (a : BitVec 32) (i : BitVec 18), f a.toNat i.toNat % 2 ^ 32 = (g a i).toNat) :
    s.seqDid (seqI n.val o f s) n.val (fd (s.seqWord n.val))
      (g (BitVec.ofNat 32 ((s.sq n.val).reg (fa (s.seqWord n.val)))) (BitVec.ofNat 18 (fimm (s.seqWord n.val)))).toNat
      ((s.sq n.val).pc + 4) 1 := by
  have himm : (BitVec.ofNat 18 (fimm (s.seqWord n.val))).toNat = fimm (s.seqWord n.val) :=
    (BitVec.toNat_ofNat _ _).trans (Nat.mod_eq_of_lt (Nat.mod_lt _ (by decide)))
  unfold seqI
  rw [if_pos hat, ← hfg, Seq.reg_ofNat, himm]
  exact seqNext_setReg_did _ 1 (by omega) (by have := fd_lt (s.seqWord n.val); omega)

end

theorem mod_word_of_eq {x : Nat} {y : BitVec 32} (h : x = y.toNat) : x % 2 ^ 32 = y.toNat := by
  rw [h]
  exact Nat.mod_eq_of_lt y.isLt

theorem sarOp_toNat (a : BitVec 32) (k : Nat) : sarOp a.toNat k = (a.sshiftRight k).toNat := by
  unfold sarOp
  have hshift : a.toInt / 2 ^ k = (a.sshiftRight k).toInt := by
    rw [BitVec.toInt_sshiftRight, Int.shiftRight_eq_div_pow]
    norm_cast
  rw [unsgn_eq_toNat_ofInt, sgn_toNat, hshift, BitVec.ofInt_toInt]

theorem shlOp_toNat (a : BitVec 32) (k : Nat) : a.toNat * 2 ^ k % 2 ^ 32 = (a <<< k).toNat := by
  rw [BitVec.toNat_shiftLeft, Nat.shiftLeft_eq]

theorem shrOp_toNat (a : BitVec 32) (k : Nat) : a.toNat / 2 ^ k = (a >>> k).toNat := by
  rw [BitVec.toNat_ushiftRight, Nat.shiftRight_eq_div_pow]

theorem addSx_toNat (a : BitVec 32) (i : BitVec 18) : addSx a.toNat i.toNat = (a + i.signExtend 32).toNat := by
  unfold addSx BitVec.signExtend
  rw [unsgn_eq_toNat_ofInt, sgn_toNat, BitVec.ofInt_add, ofInt_toNat]

theorem immediate_toNat (i : BitVec 18) : (i.zeroExtend 32).toNat = i.toNat :=
  (BitVec.toNat_setWidth 32 i).trans (Nat.mod_eq_of_lt (by omega))

theorem sub32_toNat (a b : BitVec 32) : sub32 a.toNat b.toNat = (a - b).toNat := by
  unfold sub32
  rw [BitVec.toNat_sub, Nat.mod_eq_of_lt b.isLt, Nat.add_comm]

/-- SHI on words: the kind of shift is in IMM[6:5]. -/
def shiWord (a : BitVec 32) (i : BitVec 18) : BitVec 32 :=
  if i.toNat / 32 % 4 = 0 then a <<< (i.toNat % 32) else if i.toNat / 32 % 4 = 1 then a >>> (i.toNat % 32)
  else a.sshiftRight (i.toNat % 32)

theorem shiOp_toNat (a : BitVec 32) (i : BitVec 18) : shiOp a.toNat i.toNat = (shiWord a i).toNat := by
  have hkind : bitsAt i.toNat 5 2 = i.toNat / 32 % 4 := rfl
  unfold shiOp shiWord
  rw [hkind]
  split
  · rename_i h
    rw [if_pos h, shlOp_toNat]
  · rename_i h
    rw [if_neg (by omega), if_pos h, shrOp_toNat]
  · rename_i h0 h1
    rw [if_neg h0, if_neg h1, sarOp_toNat]

/-- Settles O51: each instruction writes its destination and goes on (`seqR_did`, `seqI_did`); what is left is that its
operation on numbers is the one on words. -/
theorem sequencerArithmetic : Obligations.SequencerArithmetic := by
  refine ⟨fun n s h hl hg => ⟨_, rfl, seqR_did h hl hg 1 _ fun a b => ?add⟩,
    fun n s h hl hg => ⟨_, rfl, seqR_did h hl hg 1 _ fun a b => ?sub⟩,
    fun n s h hl hg => ⟨_, rfl, seqR_did h hl hg 1 _ fun a b => ?and⟩,
    fun n s h hl hg => ⟨_, rfl, seqR_did h hl hg 1 _ fun a b => ?or⟩,
    fun n s h hl hg => ⟨_, rfl, seqR_did h hl hg 1 _ fun a b => ?xor⟩,
    fun n s h hl hg => ⟨_, rfl, seqR_did h hl hg 1 (fun a b => a <<< (b.toNat % 32)) fun a b => ?shl⟩,
    fun n s h hl hg => ⟨_, rfl, seqR_did h hl hg 1 (fun a b => a >>> (b.toNat % 32)) fun a b => ?shr⟩,
    fun n s h hl hg => ⟨_, rfl, seqR_did h hl hg 1 (fun a b => a.sshiftRight (b.toNat % 32)) fun a b => ?sar⟩,
    fun n s h hl hg => ⟨_, rfl, seqR_did h hl hg 2 _ fun a b => ?mul⟩,
    fun n s h hl hg => ⟨_, rfl, seqR_did h hl hg 1 (fun a b => if a < b then 1#32 else 0#32) fun a b => ?sltu⟩,
    fun n s h hl hg => ⟨_, rfl, seqI_did h hl hg (fun a i => a + i.signExtend 32) fun a i => ?addi⟩,
    fun n s h hl hg => ⟨_, rfl, seqI_did h hl hg (fun a i => a &&& i.zeroExtend 32) fun a i => ?andi⟩,
    fun n s h hl hg => ⟨_, rfl, seqI_did h hl hg (fun a i => a ||| i.zeroExtend 32) fun a i => ?ori⟩,
    fun n s h hl hg => ⟨_, rfl, seqI_did h hl hg (fun a i => a ^^^ i.zeroExtend 32) fun a i => ?xori⟩,
    fun n s h hl hg => ⟨_, rfl, seqI_did h hl hg shiWord fun a i => ?shi⟩,
    fun n s h hl hg => ⟨_, rfl, seqI_did h hl hg (fun _ i => (i.zeroExtend 32) <<< 18) fun a i => ?movhi⟩⟩
  all_goals apply mod_word_of_eq
  case add => exact (BitVec.toNat_add a b).symm
  case sub => exact sub32_toNat a b
  case and => exact (BitVec.toNat_and a b).symm
  case or => exact (BitVec.toNat_or a b).symm
  case xor => exact (BitVec.toNat_xor a b).symm
  case shl => exact shlOp_toNat a _
  case shr => exact shrOp_toNat a _
  case sar => exact sarOp_toNat a _
  case mul => exact (BitVec.toNat_mul a b).symm
  case sltu => simp only [BitVec.lt_def]; split <;> simp [b2n, *]
  case addi => exact addSx_toNat a i
  case andi => rw [BitVec.toNat_and, immediate_toNat]
  case ori => rw [BitVec.toNat_or, immediate_toNat]
  case xori => rw [BitVec.toNat_xor, immediate_toNat]
  case shi => exact shiOp_toNat a i
  case movhi => simp [Nat.shiftLeft_eq]

end Sys2Proof.Machine
end

section
/-! PROOF. Interrupt sources (R449 to R453): PEND and OVR bit by bit, and what an event or an entry of the log leaves of
the rest of the device. -/
namespace Sys2Proof.Machine

/-! ### Bits of a field -/

/-- A bit written reads as it was written, and the other bits as before. -/
theorem testBit_setBits_eq (v b c : Nat) (x : Bool) :
    (setBits v b 1 (b2n x)).testBit c = if c = b then x else v.testBit c := by
  by_cases hcb : c = b
  · rw [if_pos hcb, hcb, testBit_setBits]
  have hlow : v % 2 ^ b < 2 ^ b := Nat.mod_lt _ (Nat.two_pow_pos b)
  have hmid : 2 ^ b * b2n x + v % 2 ^ b < 2 ^ (b + 1) := by
    have hx : b2n x ≤ 1 := by cases x <;> decide
    have hle : 2 ^ b * b2n x ≤ 2 ^ b := (Nat.mul_le_mul_left _ hx).trans (Nat.mul_one _).le
    rw [pow_succ]
    omega
  have hsum : setBits v b 1 (b2n x) = 2 ^ (b + 1) * (v / 2 ^ (b + 1)) + (2 ^ b * b2n x + v % 2 ^ b) := by
    have hx : b2n x % 2 ^ 1 = b2n x := by cases x <;> rfl
    unfold setBits
    rw [hx]
    ring
  rw [if_neg hcb, hsum, Nat.testBit_two_pow_mul_add _ hmid, Nat.testBit_two_pow_mul_add _ hlow]
  rcases Nat.lt_or_gt_of_ne hcb with h | h
  · simp [h, Nat.lt_succ_of_lt h]
  · have hnot : ¬ c < b + 1 := by omega
    rw [if_neg hnot, Nat.testBit_div_two_pow, Nat.sub_add_cancel (Nat.le_of_not_lt hnot)]

section
variable (s : State)

theorem State.bit_setBit (f : Fld) (i b c : Nat) (x : Bool) (hc : c < f.width) :
    (s.setBit f i b x).bit f i c = if c = b then x else s.bit f i c := by
  unfold State.bit State.setBit
  rw [State.fgi_fsi, Nat.testBit_mod_two_pow, testBit_setBits_eq]
  simp [hc]

theorem State.fgi_setBit_ne (f g : Fld) (i j b : Nat) (x : Bool) (h : g.id ≠ f.id) : (s.setBit f i b x).fgi g j = s.fgi g j :=
  State.fgi_fsi_ne _ _ _ _ _ _ h

theorem State.fgi_setBit_inst (f : Fld) (i j b : Nat) (x : Bool) (h : j ≠ i) (hi : i < 16384) (hj : j < 16384) :
    (s.setBit f i b x).fgi f j = s.fgi f j := State.fgi_fsi_inst _ _ _ _ _ h hi hj

/-! ### PEND and OVR (R449) -/

theorem State.pend_eq_of_fgi {s t : State} (h : ∀ w, t.fgi F.ICU_PENDw_SRC w = s.fgi F.ICU_PENDw_SRC w) (src : Nat) :
    t.pend src = s.pend src := congrArg (fun v : Nat => v.testBit (src % 32)) (h _)

theorem State.pend_setPend {src other : Nat} (x : Bool) (hsrc : src < 524288) (hother : other < 524288) :
    (s.setPend src x).pend other = if other = src then x else s.pend other := by
  have hbit : other % 32 < 32 := Nat.mod_lt _ (by decide)
  unfold State.pend State.setPend
  by_cases hw : other / 32 = src / 32
  · rw [hw, State.bit_setBit _ _ _ _ _ _ hbit]
    have hiff : other % 32 = src % 32 ↔ other = src := by omega
    simp only [hiff]
  · rw [if_neg fun h => hw (by rw [h])]
    exact congrArg (fun v : Nat => v.testBit (other % 32)) (State.fgi_setBit_inst _ _ _ _ _ _ hw (by omega) (by omega))

/-- What an event does before it wakes a sequencer (R449): it is latched, or lost. -/
def latched (src : Nat) (s : State) : State :=
  if s.pend src then (s.setBit F.ICU_OVRw_SRC (src / 32) (src % 32) true).bump F.ICU_LOSTCNT else s.setPend src true

theorem State.raise_eq_latched (src : Nat) : s.raise src = (latched src s).noteWake src := rfl

theorem State.noteWake_fgi (src : Nat) (f : Fld) (i : Nat) : (s.noteWake src).fgi f i = s.fgi f i :=
  State.fgi_of_seen ⟨[.seqs], false, []⟩ _ _ _ _ (State.noteWake_seen _ s src (by decide)) rfl

theorem State.raise_regs_fgi (src : Nat) (f : Fld) (i : Nat) : (s.raise src).fgi f i = (latched src s).fgi f i :=
  State.noteWake_fgi _ src f i

/-- R449: an event sets PEND of its source and of no other. -/
theorem State.pend_raise {src other : Nat} (hsrc : src < 524288) (hother : other < 524288) :
    (s.raise src).pend other = (s.pend other || decide (other = src)) := by
  by_cases hsame : other = src
  · rw [hsame, State.raise_pend, decide_eq_true rfl, Bool.or_true]
  rw [State.pend_eq_of_fgi (State.raise_regs_fgi s src F.ICU_PENDw_SRC), decide_eq_false hsame, Bool.or_false]
  unfold latched
  split
  · exact State.pend_eq_of_fgi (fun w =>
      (State.fgi_bump_ne _ _ _ _ (by decide)).trans (State.fgi_setBit_ne _ _ _ _ _ _ _ (by decide))) other
  · rw [State.pend_setPend _ _ hsrc hother, if_neg hsame]

/-- R449: an event sets OVR of its source where that was pending, and of no other. -/
theorem State.ovr_raise {src w b : Nat} (hsrc : src < 524288) (hw : w < 16384) (hb : b < 32) :
    (s.raise src).bit F.ICU_OVRw_SRC w b = (s.bit F.ICU_OVRw_SRC w b || (decide (32 * w + b = src) && s.pend src)) := by
  have hread : (s.raise src).bit F.ICU_OVRw_SRC w b = (latched src s).bit F.ICU_OVRw_SRC w b :=
    congrArg (fun v : Nat => v.testBit b) (State.raise_regs_fgi s src _ w)
  rw [hread]
  unfold latched
  cases hpend : s.pend src with
  | false =>
    rw [if_neg Bool.false_ne_true, Bool.and_false, Bool.or_false]
    exact congrArg (fun v : Nat => v.testBit b) (State.fgi_setBit_ne _ _ _ _ _ _ _ (by decide))
  | true =>
    rw [if_pos rfl, Bool.and_true]
    have hbump : ((s.setBit F.ICU_OVRw_SRC (src / 32) (src % 32) true).bump F.ICU_LOSTCNT).bit F.ICU_OVRw_SRC w b =
        (s.setBit F.ICU_OVRw_SRC (src / 32) (src % 32) true).bit F.ICU_OVRw_SRC w b :=
      congrArg (fun v : Nat => v.testBit b) (State.fgi_bump_ne _ _ _ _ (by decide))
    rw [hbump]
    by_cases hword : w = src / 32
    · have hiff : b = src % 32 ↔ 32 * w + b = src := by omega
      rw [hword, State.bit_setBit _ _ _ _ _ _ hb]
      rw [hword] at hiff
      by_cases hbit : b = src % 32
      · rw [if_pos hbit, decide_eq_true (hiff.mp hbit), Bool.or_true]
      · rw [if_neg hbit, decide_eq_false (hbit ∘ hiff.mpr), Bool.or_false]
    · rw [decide_eq_false (by omega), Bool.or_false]
      exact congrArg (fun v : Nat => v.testBit b) (State.fgi_setBit_inst _ _ _ _ _ _ hword (by omega) hw)

/-! ### The rest of the device through an event or an entry of the log -/

theorem latched_sq (src n : Nat) : (latched src s).sq n = s.sq n := by
  unfold latched
  split <;> rfl

/-- R458: an event changes nothing of a sequencer that does not sleep. -/
theorem State.raise_sq_of_awake (src : Nat) {n : Nat} (h : (s.sq n).st ≠ .wait) : (s.raise src).sq n = s.sq n := by
  rw [State.raise_eq_latched]
  unfold State.noteWake
  dsimp only
  split
  · rename_i hw
    simp only [Bool.and_eq_true, decide_eq_true_eq] at hw
    have hne : n ≠ (latched src s).fgi F.ICU_SRCCFGs_TARGET src := fun hn => h (by rw [← latched_sq s src, hn]; exact hw.2)
    exact (State.sq_setSq_ne _ hne).trans (latched_sq s src n)
  · exact latched_sq s src n

/-- R458: an event changes of a sequencer its wake alone. -/
theorem State.raise_sq (src n : Nat) : ∃ w, (s.raise src).sq n = { s.sq n with wake := w } := by
  rw [State.raise_eq_latched]
  unfold State.noteWake
  dsimp only
  split
  · have hget : ((latched src s).setSq ((latched src s).fgi F.ICU_SRCCFGs_TARGET src)
        { (latched src s).sq ((latched src s).fgi F.ICU_SRCCFGs_TARGET src) with wake := true }).sq n =
        if n = (latched src s).fgi F.ICU_SRCCFGs_TARGET src ∧
          (latched src s).fgi F.ICU_SRCCFGs_TARGET src < (latched src s).seqs.length
        then { (latched src s).sq ((latched src s).fgi F.ICU_SRCCFGs_TARGET src) with wake := true }
        else (latched src s).sq n := getD_setAt _ _ _ _ _
    rw [hget]
    split
    · rename_i hn
      rw [← hn.1, latched_sq]
      exact ⟨true, rfl⟩
    · exact ⟨(s.sq n).wake, latched_sq s src n⟩
  · exact ⟨(s.sq n).wake, latched_sq s src n⟩

@[simp] theorem State.logFault_sq (code index detail n : Nat) : (s.logFault code index detail).sq n = s.sq n := by
  unfold State.sq
  rw [seqs_kept (State.logFault_seen _ s code index detail (by decide))]

@[simp] theorem State.raise_dev (src : Nat) : (s.raise src).dev = s.dev := dev_kept (State.raise_seen _ s src (by decide))

@[simp] theorem State.raise_time (src : Nat) : (s.raise src).time = s.time := time_kept (State.raise_seen _ s src (by decide))

@[simp] theorem State.raise_frame (src : Nat) : (s.raise src).frame = s.frame := frame_kept (State.raise_seen _ s src (by decide))

@[simp] theorem State.raise_boot (src : Nat) : (s.raise src).boot = s.boot := boot_kept (State.raise_seen _ s src (by decide))

@[simp] theorem State.raise_table (src : Nat) : (s.raise src).table = s.table :=
  table_of_seen ⟨[.seqs], false, raiseFlds⟩ _ _ (State.raise_seen _ s src (by decide)) (by decide)

@[simp] theorem State.raise_port (src : Nat) : (s.raise src).port = s.port :=
  port_of_seen ⟨[.seqs], false, raiseFlds⟩ _ _ (State.raise_seen _ s src (by decide)) (by decide)

@[simp] theorem State.raise_mir (src : Nat) : (s.raise src).mir = s.mir :=
  mir_of_seen ⟨[.seqs], false, raiseFlds⟩ _ _ (State.raise_seen _ s src (by decide)) (by decide)

@[simp] theorem State.raise_cal (src : Nat) : (s.raise src).cal = s.cal :=
  cal_of_seen ⟨[.seqs], false, raiseFlds⟩ _ _ (State.raise_seen _ s src (by decide)) (by decide)

@[simp] theorem State.raise_auth (src : Nat) : (s.raise src).auth = s.auth :=
  auth_of_seen ⟨[.seqs], false, raiseFlds⟩ _ _ (State.raise_seen _ s src (by decide)) (by decide)

@[simp] theorem State.raise_exec (src : Nat) : (s.raise src).exec = s.exec :=
  exec_of_seen ⟨[.seqs], false, raiseFlds⟩ _ _ (State.raise_seen _ s src (by decide)) (by decide)

@[simp] theorem State.raise_sched (src : Nat) : (s.raise src).sched = s.sched :=
  sched_of_seen ⟨[.seqs], false, raiseFlds⟩ _ _ (State.raise_seen _ s src (by decide)) (by decide)

@[simp] theorem State.logFault_table (code index detail : Nat) : (s.logFault code index detail).table = s.table :=
  table_of_seen (.butPart .table) _ _ (State.logFault_seen _ s code index detail (by decide)) (by decide)

@[simp] theorem State.logFault_boot (code index detail : Nat) : (s.logFault code index detail).boot = s.boot :=
  boot_kept (State.logFault_seen _ s code index detail (by decide))

@[simp] theorem State.logFault_dev (code index detail : Nat) : (s.logFault code index detail).dev = s.dev :=
  dev_kept (State.logFault_seen _ s code index detail (by decide))

@[simp] theorem State.logFault_mir (code index detail : Nat) : (s.logFault code index detail).mir = s.mir :=
  mir_of_seen (.butPart .mir) _ _ (State.logFault_seen _ s code index detail (by decide)) (by decide)

@[simp] theorem State.logFault_cal (code index detail : Nat) : (s.logFault code index detail).cal = s.cal :=
  cal_of_seen (.butPart .cal) _ _ (State.logFault_seen _ s code index detail (by decide)) (by decide)

@[simp] theorem State.logFault_time (code index detail : Nat) : (s.logFault code index detail).time = s.time :=
  time_kept (State.logFault_seen _ s code index detail (by decide))

end

/-! ### Writes of the controller's words (R449) and semaphores (R448) -/

theorem mem_onesOf {v b : Nat} (hb : b < 32) : b ∈ onesOf v ↔ v.testBit b = true := by
  unfold onesOf
  rw [List.mem_filter, List.mem_range]
  exact and_iff_right hb

theorem onesOf_lt {v b : Nat} (h : b ∈ onesOf v) : b < 32 := List.mem_range.mp (List.mem_filter.mp h).1

theorem onesOf_nodup (v : Nat) : (onesOf v).Nodup := List.nodup_range.filter _

/-- R449: events on distinct sources of one word. -/
theorem foldl_raise_bits {w : Nat} (hw : w < 8) (l : List Nat) (hl : l.Nodup) (hlt : ∀ b ∈ l, b < 32) (s : State) {b : Nat}
    (hb : b < 32) :
    (l.foldl (fun s t => s.raise (32 * w + t)) s).pend (32 * w + b) = (s.pend (32 * w + b) || decide (b ∈ l)) ∧
    (l.foldl (fun s t => s.raise (32 * w + t)) s).bit F.ICU_OVRw_SRC w b =
      (s.bit F.ICU_OVRw_SRC w b || (decide (b ∈ l) && s.pend (32 * w + b))) := by
  induction l generalizing s with
  | nil => simp
  | cons t l ih =>
    obtain ⟨hnot, hl⟩ := List.nodup_cons.mp hl
    obtain ⟨ht, hlt⟩ := List.forall_mem_cons.mp hlt
    obtain ⟨hpend, hovr⟩ := ih hl hlt (s.raise (32 * w + t))
    rw [List.foldl_cons, hpend, hovr, State.pend_raise _ (by omega) (by omega), State.ovr_raise _ (by omega) (by omega) hb]
    by_cases hbt : b = t
    · subst hbt
      simp [hnot]
    · have hsrc : 32 * w + b ≠ 32 * w + t := by omega
      simp [hbt]

/-- R449: a write of SET is an event on each source whose bit is 1. -/
theorem icuSet_bits {w : Nat} (hw : w < 8) (v : Nat) (s : State) {b : Nat} (hb : b < 32) :
    (icuSet w v s).pend (32 * w + b) = (s.pend (32 * w + b) || v.testBit b) ∧
    (icuSet w v s).bit F.ICU_OVRw_SRC w b = (s.bit F.ICU_OVRw_SRC w b || (v.testBit b && s.pend (32 * w + b))) := by
  have h := foldl_raise_bits hw (onesOf v) (onesOf_nodup v) (fun _ => onesOf_lt) s hb
  have hmem : decide (b ∈ onesOf v) = v.testBit b := by simp [mem_onesOf hb]
  rwa [hmem] at h

/-- R449: bits of a word of PEND cleared one after another. -/
theorem foldl_clearPend {w : Nat} (hw : w < 8) (l : List Nat) (hlt : ∀ b ∈ l, b < 32) (s : State) {b : Nat} (hb : b < 32) :
    (l.foldl (fun s t => s.setPend (32 * w + t) false) s).pend (32 * w + b) = (s.pend (32 * w + b) && decide (b ∉ l)) := by
  induction l generalizing s with
  | nil => simp
  | cons t l ih =>
    obtain ⟨ht, hlt⟩ := List.forall_mem_cons.mp hlt
    rw [List.foldl_cons, ih hlt, State.pend_setPend _ _ (by omega) (by omega)]
    by_cases hbt : b = t
    · simp [hbt]
    · have hsrc : 32 * w + b ≠ 32 * w + t := by omega
      simp [hbt]

/-- A write of PEND before the console's level is judged again. -/
def pendCleared (w v : Nat) (s : State) : State := (onesOf v).foldl (fun s t => s.setPend (32 * w + t) false) s

theorem pendCleared_pend {w : Nat} (hw : w < 8) (v : Nat) (s : State) {b : Nat} (hb : b < 32) :
    (pendCleared w v s).pend (32 * w + b) = (s.pend (32 * w + b) && !v.testBit b) := by
  refine (foldl_clearPend hw (onesOf v) (fun _ => onesOf_lt) s hb).trans ?_
  simp [mem_onesOf hb]

theorem pendCleared_seen (w v : Nat) (s : State) :
    State.seen ⟨[], false, [F.ICU_PENDw_SRC]⟩ (pendCleared w v s) = State.seen ⟨[], false, [F.ICU_PENDw_SRC]⟩ s :=
  foldl_seen _ _ _ _ fun s _ => State.setPend_seen _ s _ _ (by decide)

/-- R502: the console needs service. -/
def State.uartWants (s : State) : Bool :=
  s.up && s.flag F.SBI_UCFG_EN && (decide (Nat.max 1 (s.fg F.SBI_UCFG_RXTH) ≤ s.port.sbi.rx.length) ||
    decide (s.port.sbi.tx.length < s.fg F.SBI_UCFG_TXTH))

theorem uartLevel_eq (s : State) : uartLevel s = if s.uartWants && !s.pend 138 then s.raise 138 else s := rfl

theorem uartLevel_pend_console (s : State) : (uartLevel s).pend 138 = (s.pend 138 || s.uartWants) := by
  rw [uartLevel_eq]
  split
  · rename_i h
    simp only [Bool.and_eq_true] at h
    rw [State.raise_pend, h.1, Bool.or_true]
  · rename_i h
    cases hp : s.pend 138 <;> simp_all

theorem uartLevel_pend_ne (s : State) {src : Nat} (hsrc : src < 524288) (hne : src ≠ 138) :
    (uartLevel s).pend src = s.pend src := by
  rw [uartLevel_eq]
  split
  · rw [State.pend_raise _ (by decide) hsrc, decide_eq_false hne, Bool.or_false]
  · rfl

/-- Clearing of PEND leaves what the console needs. -/
theorem pendCleared_uartWants (w v : Nat) (s : State) : (pendCleared w v s).uartWants = s.uartWants := by
  have hseen := pendCleared_seen w v s
  have hread : ∀ f : Fld, (Extent.mk [] false [F.ICU_PENDw_SRC]).r f = false → (pendCleared w v s).fg f = s.fg f :=
    fun f hf => State.fgi_of_seen _ _ _ f 0 hseen hf
  unfold State.uartWants State.up State.flag
  rw [hread _ (by decide), hread _ (by decide), hread _ (by decide), dev_of_seen _ _ _ hseen rfl, port_of_seen _ _ _ hseen rfl]

theorem foldl_clearOvr {w : Nat} (l : List Nat) (s : State) {b : Nat} (hb : b < 32) :
    (l.foldl (fun s t => s.setBit F.ICU_OVRw_SRC w t false) s).bit F.ICU_OVRw_SRC w b =
      (s.bit F.ICU_OVRw_SRC w b && decide (b ∉ l)) := by
  induction l generalizing s with
  | nil => simp
  | cons t l ih =>
    rw [List.foldl_cons, ih, State.bit_setBit _ _ _ _ _ _ hb]
    by_cases hbt : b = t <;> simp [hbt]

theorem icuOvrClear_bit (w v : Nat) (s : State) {b : Nat} (hb : b < 32) :
    (icuOvrClear w v s).bit F.ICU_OVRw_SRC w b = (s.bit F.ICU_OVRw_SRC w b && !v.testBit b) := by
  refine (foldl_clearOvr (onesOf v) s hb).trans ?_
  simp [mem_onesOf hb]

theorem icuOvrClear_pend (w v : Nat) (s : State) (src : Nat) : (icuOvrClear w v s).pend src = s.pend src :=
  State.pend_eq_of_fgi (fun _ => State.fgi_of_seen ⟨[], false, [F.ICU_OVRw_SRC]⟩ _ _ _ _
    (foldl_seen _ _ _ _ fun s _ => State.setBit_seen _ s _ _ _ _ (by decide)) (by decide)) src

/-- Settles O55: an ACQ and a REL are one branch each; the writes of SET, PEND and OVR are read bit by bit (`icuSet_bits`,
`pendCleared_pend`, `icuOvrClear_bit`), and the console's level sets source 138 again (`uartLevel_pend_console`). -/
theorem semaphoresAndInterruptBits : Obligations.SemaphoresAndInterruptBits := by
  refine ⟨fun k m s hm hfree => ?_, fun k m s h => ?_, fun k m s hm hown => ?_, fun k m s h => ?_,
    fun w v s => ⟨_, rfl, fun b => icuSet_bits w.isLt v.toNat s b.isLt⟩, fun w v s => ⟨_, rfl, fun b hne => ?_⟩,
    fun v s => ⟨_, rfl, ?_⟩, fun w v s => ⟨_, rfl, fun b => icuOvrClear_bit _ _ s b.isLt, fun k => icuOvrClear_pend _ _ s _⟩⟩
  · exact congrArg Host.Outcome.next (if_pos ⟨hm, hfree⟩)
  · exact congrArg Host.Outcome.next (if_neg (by omega))
  · exact congrArg Host.Outcome.next (if_pos ⟨hm, hown⟩)
  · exact congrArg Host.Outcome.next (if_neg (by omega))
  · exact (uartLevel_pend_ne _ (by omega) hne).trans (pendCleared_pend w.isLt v.toNat s b.isLt)
  · refine (uartLevel_pend_console (pendCleared 4 v.toNat s)).trans ?_
    rw [pendCleared_uartWants]
    exact congrArg (· || s.uartWants) (pendCleared_pend (w := 4) (by decide) v.toNat s (b := 10) (by decide))

end Sys2Proof.Machine
end

section
/-! PROOF. Instructions of a sequencer that reach memory, branch or touch the system registers (R439 to R442, R444), and the
faults (R445, R446). -/
namespace Sys2Proof.Machine

/-! ### When an instruction is carried out -/

section
variable {s : State} {n o : Nat}

theorem State.seqRuns_iff : s.seqRuns n = true ↔ s.clocked = true ∧ (s.sq n).st = .run ∧ (s.sq n).entry = false := by
  simp [State.seqRuns, and_assoc]

theorem State.seqAt_iff : s.seqAt n o = true ↔ s.seqRuns n = true ∧ opOf (s.seqWord n) = o ∧ s.seqLegal n = true := by
  simp [State.seqAt, and_assoc]

theorem State.st_of_seqAt (h : s.seqAt n o = true) : (s.sq n).st = .run :=
  (State.seqRuns_iff.mp (State.seqAt_iff.mp h).1).2.1

theorem State.clocked_of_seqAt (h : s.seqAt n o = true) : s.clocked = true :=
  (State.seqRuns_iff.mp (State.seqAt_iff.mp h).1).1

/-! ### Faults (R446) -/

/-- The registers that a fault records. -/
def faultNoted (n : Nat) (f : Fld) (addr : Option Nat) (s : State) : State :=
  let s := (s.fsi f n 1).fsi F.TSQ_FPCn_VALUE n (s.sq n).pc
  match addr with
  | some a => s.fsi F.TSQ_FADDRn_VALUE n a
  | none => s

/-- A sequencer as a fault leaves it. -/
def Seq.faulted (q : Seq) : Seq := { q with st := .fault, entry := false }

theorem seqFault_eq (f : Fld) (addr : Option Nat) : ∃ stat, seqFault n f addr s =
    (((faultNoted n f addr s).setSq n (s.sq n).faulted).raise (144 + n)).logFault 0x9001 n stat := by
  cases addr <;> exact ⟨_, rfl⟩

theorem seqFault_sq (f : Fld) (addr : Option Nat) (hn : n < s.seqs.length) :
    (seqFault n f addr s).sq n = (s.sq n).faulted := by
  obtain ⟨stat, heq⟩ := seqFault_eq (s := s) (n := n) f addr
  have hnoted : n < (faultNoted n f addr s).seqs.length := by cases addr <;> exact hn
  have hset := State.sq_setSq_same (s.sq n).faulted hnoted
  rw [heq, State.logFault_sq, State.raise_sq_of_awake _ _ (by rw [hset]; exact SeqState.noConfusion), hset]

theorem seqFault_pend (f : Fld) (addr : Option Nat) : (seqFault n f addr s).pend (144 + n) = true := by
  obtain ⟨stat, heq⟩ := seqFault_eq (s := s) (n := n) f addr
  rw [heq, State.logFault_pend, State.raise_pend]

/-- What a fault changes of the registers besides those it records. -/
theorem seqFault_fgi (f : Fld) (addr : Option Nat) (g : Fld) (i : Nat) (hlog : g.id ≠ F.DBG_FLTSTAT_CLASS.id)
    (hraise : (Extent.mk [.seqs] false raiseFlds).r g = false) :
    (seqFault n f addr s).fgi g i = (faultNoted n f addr s).fgi g i := by
  obtain ⟨stat, heq⟩ := seqFault_eq (s := s) (n := n) f addr
  rw [heq, State.logFault_fgi _ _ _ _ _ _ hlog, State.raise_fgi _ _ _ _ hraise, State.setSq_fgi]

theorem faultNoted_pc (f : Fld) (addr : Option Nat) (hpc : (s.sq n).pc < 65536) :
    (faultNoted n f addr s).fgi F.TSQ_FPCn_VALUE n = (s.sq n).pc := by
  have hset : ((s.fsi f n 1).fsi F.TSQ_FPCn_VALUE n (s.sq n).pc).fgi F.TSQ_FPCn_VALUE n = (s.sq n).pc :=
    (State.fgi_fsi _ _ _ _).trans (Nat.mod_eq_of_lt (hpc.trans (by decide)))
  cases addr with
  | none => exact hset
  | some a => exact (State.fgi_fsi_ne _ _ _ _ _ _ (by decide)).trans hset

theorem faultNoted_flag (f : Fld) (addr : Option Nat) (hpc : f.id ≠ F.TSQ_FPCn_VALUE.id) (haddr : f.id ≠ F.TSQ_FADDRn_VALUE.id)
    (hw : f.width = 1) : (faultNoted n f addr s).fgi f n = 1 := by
  have hset : ((s.fsi f n 1).fsi F.TSQ_FPCn_VALUE n (s.sq n).pc).fgi f n = 1 := by
    rw [State.fgi_fsi_ne _ _ _ _ _ _ hpc, State.fgi_fsi, hw]
    rfl
  cases addr with
  | none => exact hset
  | some a => exact (State.fgi_fsi_ne _ _ _ _ _ _ haddr).trans hset

theorem seqFault_table (f : Fld) (addr : Option Nat) : (seqFault n f addr s).table = s.table := by
  obtain ⟨stat, heq⟩ := seqFault_eq (s := s) (n := n) f addr
  rw [heq, State.logFault_table, State.raise_table]
  cases addr <;> rfl

theorem seqFault_fab (f : Fld) (addr : Option Nat) : (seqFault n f addr s).fab = s.fab := by
  obtain ⟨stat, heq⟩ := seqFault_eq (s := s) (n := n) f addr
  rw [heq, State.logFault_fab, State.raise_fab]
  cases addr <;> rfl

/-- R440, R446: an access off a word boundary. -/
theorem seqFault_align {a : Nat} (ha : a < 2 ^ 32) (hn : n < s.seqs.length) (hpc : (s.sq n).pc < 65536) :
    let t := seqFault n F.TSQ_FSTATn_ALIGN (some a) s
    (t.sq n).st = .fault ∧ (t.sq n).g = (s.sq n).g ∧ (t.sq n).pc = (s.sq n).pc ∧ (t.sq n).dram = (s.sq n).dram ∧
      (t.sq n).posted = (s.sq n).posted ∧ t.fgi F.TSQ_FSTATn_ALIGN n = 1 ∧ t.fgi F.TSQ_FPCn_VALUE n = (s.sq n).pc ∧
      t.fgi F.TSQ_FADDRn_VALUE n = a ∧ t.pend (144 + n) = true := by
  dsimp only
  rw [seqFault_sq _ _ hn, seqFault_fgi _ _ _ _ (by decide) (by decide), seqFault_fgi _ _ _ _ (by decide) (by decide),
    seqFault_fgi _ _ _ _ (by decide) (by decide)]
  exact ⟨rfl, rfl, rfl, rfl, rfl, faultNoted_flag _ _ (by decide) (by decide) rfl, faultNoted_pc _ _ hpc,
    (State.fgi_fsi _ _ _ _).trans (Nat.mod_eq_of_lt ha), seqFault_pend _ _⟩

/-- R445: an illegal instruction has no effect but its fault. -/
theorem execIllegalInstruction_faults {n : Fin 4} {s : State} (hrun : s.seqRuns n.val = true) (hlen : s.seqs.length = 4)
    (hpc : (s.sq n.val).pc < 65536) (hillegal : s.seqLegal n.val = false) :
    ∃ t, exec (.illegalInstruction n) s = .next t ∧
      (t.sq n.val) = { s.sq n.val with st := .fault, entry := false } ∧ t.fgi F.TSQ_FSTATn_ILLEGAL n.val = 1 ∧
      t.fgi F.TSQ_FPCn_VALUE n.val = (s.sq n.val).pc ∧ t.pend (144 + n.val) = true ∧ t.table = s.table ∧ t.fab = s.fab := by
  have hstep : seqIllegal n.val s = seqFault n.val F.TSQ_FSTATn_ILLEGAL none s := by
    unfold seqIllegal
    rw [hrun, hillegal]
    rfl
  refine ⟨seqIllegal n.val s, rfl, ?_⟩
  rw [hstep, seqFault_fgi _ _ _ _ (by decide) (by decide), seqFault_fgi _ _ _ _ (by decide) (by decide)]
  exact ⟨seqFault_sq _ _ (by omega), faultNoted_flag _ _ (by decide) (by decide) rfl, faultNoted_pc _ _ hpc,
    seqFault_pend _ _, seqFault_table _ _, seqFault_fab _ _⟩

/-- R445: a word that breaks the form of its opcode is illegal wherever it stands. -/
theorem State.seqLegal_of_word (h : wordLegal (s.seqWord n) = false) : s.seqLegal n = false := by
  unfold State.seqLegal
  dsimp only
  rw [h]
  rfl

end

/-- Settles O53: each form makes the word illegal, by itself (`wordLegal`) or where it stands (`State.seqLegal`), and an
illegal word faults (`execIllegalInstruction_faults`). -/
theorem illegalInstructions : Obligations.IllegalInstructions := by
  refine ⟨fun n s hr hl hp h => execIllegalInstruction_faults hr hl hp (State.seqLegal_of_word ?unlisted),
    fun n s hr hl hp ho h => execIllegalInstruction_faults hr hl hp (State.seqLegal_of_word ?formR),
    fun n s hr hl hp ho h => execIllegalInstruction_faults hr hl hp (State.seqLegal_of_word ?shiHigh),
    fun n s hr hl hp ho h => execIllegalInstruction_faults hr hl hp (State.seqLegal_of_word ?movhi),
    fun n s hr hl hp ho h => execIllegalInstruction_faults hr hl hp (State.seqLegal_of_word ?jump),
    fun n s hr hl hp ho h => execIllegalInstruction_faults hr hl hp (State.seqLegal_of_word ?jr),
    fun n s hr hl hp ho h => execIllegalInstruction_faults hr hl hp (State.seqLegal_of_word ?mfs),
    fun n s hr hl hp ho h => execIllegalInstruction_faults hr hl hp (State.seqLegal_of_word ?mts),
    fun n s hr hl hp ho h => execIllegalInstruction_faults hr hl hp (State.seqLegal_of_word ?sig),
    fun n s hr hl hp ho h => execIllegalInstruction_faults hr hl hp (State.seqLegal_of_word ?bare),
    fun n s hr hl hp ho h => execIllegalInstruction_faults hr hl hp (State.seqLegal_of_word ?shiKind),
    fun n s hr hl hp ho h => execIllegalInstruction_faults hr hl hp ?jrTarget,
    fun n s hr hl hp ho h => execIllegalInstruction_faults hr hl hp ?reti⟩
  case unlisted =>
    generalize s.seqWord n.val = w at h
    simp only [List.mem_cons, List.not_mem_nil, or_false, not_or] at h
    unfold wordLegal
    dsimp only
    generalize opOf w = o at h
    simp only [show ¬ o ≤ 9 by omega, show ¬ (0x10 ≤ o ∧ o ≤ 0x13) by omega, show ¬ (0x20 ≤ o ∧ o ≤ 0x25) by omega, h,
      if_false, or_self]
  case formR => simpa [wordLegal, ho] using h
  case shiHigh => simp [wordLegal, ho, show ¬ fimm (s.seqWord n.val) < 128 by omega]
  case movhi =>
    have hfield : fa (s.seqWord n.val) ≠ 0 ∨ fb (s.seqWord n.val) ≠ 0 := by
      refine h.imp_right fun h => ?_
      unfold fb bitsAt
      unfold fimm at h
      omega
    simpa [wordLegal, ho, imp_iff_not_or] using hfield
  case jump =>
    have hfield : bitsAt (s.seqWord n.val) 14 12 ≠ 0 := h
    rcases ho with ho | ho <;> simpa [wordLegal, ho] using hfield
  case jr => simpa [wordLegal, ho, imp_iff_not_or] using h
  case mfs =>
    have hfield : fa (s.seqWord n.val) ≠ 0 ∨ bitsAt (s.seqWord n.val) 8 10 ≠ 0 := h
    simpa [wordLegal, ho, imp_iff_not_or] using hfield
  case mts =>
    have hfield : fd (s.seqWord n.val) ≠ 0 ∨ bitsAt (s.seqWord n.val) 8 10 ≠ 0 := h
    simpa [wordLegal, ho, imp_iff_not_or] using hfield
  case sig =>
    have hfield : bitsAt (s.seqWord n.val) 4 22 ≠ 0 := h
    simpa [wordLegal, ho] using hfield
  case bare => rcases ho with ho | ho | ho | ho <;> simpa [wordLegal, ho] using h
  case shiKind =>
    have hkind : bitsAt (s.seqWord n.val) 5 2 = 3 := by
      unfold bitsAt
      unfold fimm at h
      omega
    simp [wordLegal, ho, hkind]
  case jrTarget => simp [State.seqLegal, ho, h]
  case reti => simp [State.seqLegal, ho, h]

end Sys2Proof.Machine
end

section
/-! PROOF. Loads, stores, branches and system registers of a sequencer (R439 to R444). -/
namespace Sys2Proof.Machine

/-! ### Branches (R444) -/

theorem branchTarget_toNat (pc off : Nat) : unsgn 16 ((pc : Int) + 4 * sgn 18 off) =
    (BitVec.ofNat 16 pc + 4 * (BitVec.ofNat 18 off).signExtend 16).toNat := by
  have hpc : BitVec.ofInt 16 (pc : Int) = BitVec.ofNat 16 pc := BitVec.ofInt_natCast 16 pc
  have hfour : BitVec.ofInt 16 4 = 4 := rfl
  unfold BitVec.signExtend
  rw [unsgn_eq_toNat_ofInt, sgn_eq_toInt, BitVec.ofInt_add, BitVec.ofInt_mul, hpc, hfour]

section
variable {s : State} {n : Fin 4} {o : Nat} (hat : s.seqAt n.val o = true) (hlen : s.seqs.length = 4)
include hat hlen

/-- A branch whose condition `cond` on numbers is the condition `p` on words. -/
theorem seqB_did {cond : Nat → Nat → Bool} (p : BitVec 32 → BitVec 32 → Prop) [∀ a b, Decidable (p a b)]
    (hp : ∀ a b : BitVec 32, cond a.toNat b.toNat = true ↔ p a b) :
    let w := s.seqWord n.val
    let a := BitVec.ofNat 32 ((s.sq n.val).reg (fd w))
    let b := BitVec.ofNat 32 ((s.sq n.val).reg (fa w))
    if p a b then
      s.seqDid (seqB n.val o cond s) n.val 0 0 (BitVec.ofNat 16 (s.sq n.val).pc + 4 * (BitVec.ofNat 18 (fimm w)).signExtend 16).toNat 2
    else s.seqDid (seqB n.val o cond s) n.val 0 0 ((s.sq n.val).pc + 4) 1 := by
  have hn : n.val < s.seqs.length := by omega
  have hcond := hp (BitVec.ofNat 32 ((s.sq n.val).reg (fd (s.seqWord n.val))))
    (BitVec.ofNat 32 ((s.sq n.val).reg (fa (s.seqWord n.val))))
  rw [Seq.reg_ofNat, Seq.reg_ofNat] at hcond
  dsimp only
  unfold seqB
  rw [if_pos hat]
  dsimp only
  split
  · rename_i h
    rw [if_pos (hcond.mpr h), ← branchTarget_toNat]
    exact seqEnd_did _ 2 hn
  · rename_i h
    rw [if_neg (h ∘ hcond.mp)]
    exact seqEnd_did _ 1 hn

/-! ### Loads and stores (R439, R440) -/

omit hlen in
theorem seqLd_of_local {a : Nat} (cycle wait : Nat)
    (ha : addSx ((s.sq n.val).reg (fa (s.seqWord n.val))) (fimm (s.seqWord n.val)) = a) {off : Nat} (ho : o = 0x18)
    (hlocal : localOff n.val a = some off) (halign : a % 4 = 0) :
    seqLd n.val cycle wait s = seqNext n.val 2 (setReg n.val (fd (s.seqWord n.val))
      (leNat (tgetBytes (s.sq n.val).dram 0 off 4)) s) := by
  subst ho
  unfold seqLd
  rw [if_pos hat]
  dsimp only
  rw [ha, if_neg (by omega), hlocal]

end

/-- The local path begins on a word boundary (R439), so a word of the own RAM is one of the matrix. -/
theorem localOff_mod {n a off : Nat} (h : localOff n a = some off) : a % 4 = off % 4 := by
  unfold localOff at h
  dsimp only at h
  split_ifs at h <;> simp only [Option.some.injEq] at h <;> omega

theorem leNat_lt (l : List Byte) : leNat l < 256 ^ l.length := by
  induction l with
  | nil => decide
  | cons b l ih =>
    have hb : b.toNat < 256 := b.isLt
    rw [List.length_cons, pow_succ']
    unfold leNat
    omega

theorem addSx_lt (a i : Nat) : addSx a i < 2 ^ 32 := unsgn_lt 32 _

/-! ### Instructions that wait for the posted stores (R440, R444) -/

section
variable {s : State} {n : Fin 4} {o : Nat} (hat : s.seqAt n.val o = true) (hlen : s.seqs.length = 4)
  (hposted : (s.sq n.val).posted = [])
include hat hlen hposted

/-- With no store posted such an instruction takes one cycle. -/
theorem seqAfterStores_of_nil (cycle wait : Nat) (f : State → State) :
    seqAfterStores n.val o cycle wait f s = seqIdle n.val (seqNext n.val 1 (f (seqBusy n.val s))) := by
  have hbusy : ((seqBusy n.val s).sq n.val).posted = [] := by
    unfold seqBusy
    rw [State.sq_modSq_same _ (by omega)]
    exact hposted
  unfold seqAfterStores
  rw [if_pos hat]
  dsimp only
  rw [drainAll_of_nil cycle hbusy, if_pos hposted]
  exact if_pos (State.clocked_of_seqAt hat)

end

/-- What the end of an instruction that reached the matrix leaves: a HALT that has waited for it takes effect (R446). -/
def Seq.idled (q : Seq) : Seq :=
  if q.haltReq && q.busy then { q with busy := false, haltReq := false, st := .halted, entry := false, wake := false }
  else { q with busy := false }

theorem seqIdle_sq {s : State} {n : Nat} (hn : n < s.seqs.length) : (seqIdle n s).sq n = (s.sq n).idled :=
  State.sq_modSq_same _ hn

theorem seqNext_seqs_length {s : State} {n : Nat} (cycles : Nat) : (seqNext n cycles s).seqs.length = s.seqs.length :=
  seqEnd_seqs_length _ _

theorem seqNext_sq {s : State} {n : Nat} (cycles : Nat) (hn : n < s.seqs.length) :
    (seqNext n cycles s).sq n = (s.sq n).ended s n ((s.sq n).pc + 4) cycles := seqEnd_sq_same _ _ hn

/-- The sequencer at the end of an instruction that the matrix let end. -/
theorem seqIdle_seqNext_sq {s : State} {n : Nat} (cycles : Nat) (hn : n < s.seqs.length) :
    (seqIdle n (seqNext n cycles s)).sq n = ((s.sq n).ended s n ((s.sq n).pc + 4) cycles).idled := by
  rw [seqIdle_sq (by rwa [seqNext_seqs_length]), seqNext_sq _ hn]

theorem Seq.idled_eq (q : Seq) : q.idled = { q with
    busy := false
    haltReq := q.haltReq && !q.busy
    st := if q.haltReq && q.busy then .halted else q.st
    entry := q.entry && !(q.haltReq && q.busy)
    wake := q.wake && !(q.haltReq && q.busy) } := by
  obtain ⟨g, pc, im, cl, icause, vbase, stack, causes, cycle, st, wake, entry, busy, haltReq, wd, posted, rc, ir, dr⟩ := q
  cases haltReq <;> cases busy <;> simp [Seq.idled]

theorem fence_sq {s : State} {n : Fin 4} (hlen : s.seqs.length = 4) :
    (seqIdle n.val (seqNext n.val 1 (seqBusy n.val s))).sq n.val =
      ({ s.sq n.val with busy := true }.ended s n.val ((s.sq n.val).pc + 4) 1).idled := by
  have hn : n.val < s.seqs.length := by omega
  have hbusy : (seqBusy n.val s).sq n.val = { s.sq n.val with busy := true } := State.sq_modSq_same _ hn
  have hnb : n.val < (seqBusy n.val s).seqs.length := (State.seqs_length_modSq _).symm ▸ hn
  rw [seqIdle_seqNext_sq _ hnb, hbusy]
  rfl

theorem fence_sq_ne {s : State} {n m : Nat} (cycles : Nat) (h : m ≠ n) :
    (seqIdle n (seqNext n cycles (seqBusy n s))).sq m = s.sq m :=
  (State.sq_modSq_ne _ h).trans ((seqEnd_sq_ne _ _ h).trans (State.sq_modSq_ne _ h))

/-! ### System registers (R442) -/

section
variable {s : State} {n : Nat} (hn : n < s.seqs.length)
include hn

/-- R442: of the system registers 1 and 4 can be written. -/
theorem sysRegWrite_sq (r v : Nat) : (sysRegWrite n r v s).sq n = { s.sq n with
    im := if r = 1 then v.testBit 0 else (s.sq n).im
    vbase := if r = 4 then v / 4096 % 16 * 4096 else (s.sq n).vbase } := by
  by_cases h1 : r = 1
  · subst h1
    exact State.sq_modSq_same _ hn
  by_cases h4 : r = 4
  · subst h4
    exact State.sq_modSq_same _ hn
  rw [if_neg h1, if_neg h4]
  unfold sysRegWrite
  split
  · exact absurd rfl h1
  · exact absurd rfl h4
  · rfl

omit hn in
theorem sysRegWrite_seqs_length (r v : Nat) : (sysRegWrite n r v s).seqs.length = s.seqs.length := by
  unfold sysRegWrite
  split
  · exact State.seqs_length_modSq _
  · exact State.seqs_length_modSq _
  · rfl

end

/-- Settles O52: an access to the own RAM and a posted store go by their branch of `seqLd` and `seqSt`; a FENCE with nothing
posted ends at once (`seqAfterStores_of_nil`); a branch is `seqB_did`, and a jump ends at its target (`seqEnd_did`). -/
theorem sequencerMemoryBranchesAndSystem : Obligations.SequencerMemoryBranchesAndSystem := by
  refine ⟨fun n c k o s h hl hg hlocal ho => ⟨_, rfl, ?ld⟩, fun n c k s h hl hpc ha => ⟨_, rfl, ?ldAlign⟩,
    fun n c k s h hl hpc ha => ⟨_, rfl, ?stAlign⟩, fun n c k o s h hl hlocal ho => ⟨_, rfl, ?st⟩,
    fun n c k a s h hl ha hlocal halign hroom => ⟨_, rfl, ?stPosted⟩,
    fun n c k s h hl hg hposted => ⟨_, rfl, ?fence⟩,
    fun n s h hl hg => ⟨_, rfl, seqB_did h hl (fun a b => a = b) fun a b => ?beq⟩,
    fun n s h hl hg => ⟨_, rfl, seqB_did h hl (fun a b => a ≠ b) fun a b => ?bne⟩,
    fun n s h hl hg => ⟨_, rfl, seqB_did h hl (fun a b => a.slt b = true) fun a b => ?blt⟩,
    fun n s h hl hg => ⟨_, rfl, seqB_did h hl (fun a b => b.sle a = true) fun a b => ?bge⟩,
    fun n s h hl hg => ⟨_, rfl, seqB_did h hl (fun a b => a < b) fun a b => ?bltu⟩,
    fun n s h hl hg => ⟨_, rfl, seqB_did h hl (fun a b => b ≤ a) fun a b => ?bgeu⟩,
    fun n s h hl hg => ⟨_, rfl, ?jmp⟩, fun n s h hl hg => ⟨_, rfl, ?call⟩, fun n s h hl hg => ⟨_, rfl, ?jr⟩,
    fun n s h hl hg hv => ⟨_, rfl, ?mfs⟩, fun n s h hl => ⟨_, rfl, ?mts⟩⟩
  all_goals have hn : n.val < s.seqs.length := by omega
  case ld =>
    rw [seqLd_of_local h c k rfl rfl hlocal ((localOff_mod hlocal).trans ho)]
    have hword : leNat (tgetBytes (s.sq n.val).dram 0 o 4) % 2 ^ 32 = leNat (tgetBytes (s.sq n.val).dram 0 o 4) :=
      by
      refine Nat.mod_eq_of_lt ((leNat_lt _).trans_le ?_)
      rw [tgetBytes_length]
      decide
    have hdid := seqNext_setReg_did (leNat (tgetBytes (s.sq n.val).dram 0 o 4)) 2 hn (r := fd (s.seqWord n.val))
      (by have := fd_lt (s.seqWord n.val); omega)
    rwa [hword] at hdid
  case ldAlign =>
    have hstep : seqLd n.val c k s = seqFault n.val F.TSQ_FSTATn_ALIGN
        (some (addSx ((s.sq n.val).reg (fa (s.seqWord n.val))) (fimm (s.seqWord n.val)))) s := by
      unfold seqLd
      rw [if_pos h]
      exact if_pos ha
    rw [hstep]
    exact seqFault_align (addSx_lt _ _) hn hpc
  case stAlign =>
    have hstep : seqSt n.val c k s = seqFault n.val F.TSQ_FSTATn_ALIGN
        (some (addSx ((s.sq n.val).reg (fa (s.seqWord n.val))) (fimm (s.seqWord n.val)))) s := by
      unfold seqSt
      rw [if_pos h]
      exact if_pos ha
    rw [hstep]
    exact seqFault_align (addSx_lt _ _) hn hpc
  case st =>
    have hstep : seqSt n.val c k s = seqNext n.val 1
        (ramPut n.val false o (leBytes 4 ((s.sq n.val).reg (fd (s.seqWord n.val)))) s) := by
      have halign := (localOff_mod hlocal).trans ho
      unfold seqSt
      rw [if_pos h]
      dsimp only
      rw [if_neg (by omega), hlocal]
    have hput : (ramPut n.val false o (leBytes 4 ((s.sq n.val).reg (fd (s.seqWord n.val)))) s).sq n.val =
        { s.sq n.val with dram := tsetBytes (s.sq n.val).dram 0 o (leBytes 4 ((s.sq n.val).reg (fd (s.seqWord n.val)))) } :=
      State.sq_setSq_same _ hn
    have hsq := seqNext_sq 1 (s := ramPut n.val false o (leBytes 4 ((s.sq n.val).reg (fd (s.seqWord n.val)))) s)
      ((setAt_length _ _ _).symm ▸ hn : n.val < (setAt s.seqs n.val _).length)
    rw [hput] at hsq
    rw [hstep, hsq]
    exact ⟨rfl, rfl, rfl, rfl, rfl, rfl⟩
  case stPosted =>
    have hstep : seqSt n.val c k s = seqIdle n.val (seqNext n.val 1 (s.modSq n.val fun x => { x with
        posted := x.posted ++ [⟨a, BitVec.ofNat 32 ((s.sq n.val).reg (fd (s.seqWord n.val))), (s.sq n.val).pc⟩] })) := by
      unfold seqSt
      rw [if_pos h]
      dsimp only
      rw [ha, if_neg (by omega), hlocal, decide_eq_false (Nat.not_le.mpr hroom)]
      exact if_pos (State.clocked_of_seqAt h)
    rw [hstep, seqIdle_seqNext_sq 1 ((State.seqs_length_modSq _).symm ▸ hn), State.sq_modSq_same _ hn, Seq.idled_eq]
    exact ⟨rfl, rfl, rfl, rfl, rfl, rfl⟩
  case fence =>
    have hst := State.st_of_seqAt h
    rw [seqAfterStores_of_nil h hl hposted, id, fence_sq hl, Seq.idled_eq]
    refine ⟨rfl, rfl, ?_, rfl, fun m hm => fence_sq_ne 1 (Fin.val_ne_of_ne hm), rfl⟩
    change (if ((s.sq n.val).haltReq && true) = true then SeqState.halted else (s.sq n.val).st) = _
    rw [Bool.and_true, hst]
  case beq => simp [← BitVec.toNat_inj]
  case bne => simp [← BitVec.toNat_inj]
  case blt => simp [sgn_toNat, BitVec.slt]
  case bge => simp [sgn_toNat, BitVec.sle]
  case bltu => simp [BitVec.lt_def]
  case bgeu => simp [BitVec.le_def]
  case jmp =>
    rw [if_pos h]
    exact seqEnd_did _ 2 hn
  case call =>
    have hstep : seqCall n.val s = seqEnd n.val (4 * (s.seqWord n.val % 2 ^ 14)) 2 (setReg n.val 15 ((s.sq n.val).pc + 4) s) :=
      if_pos h
    rw [hstep]
    exact seqEnd_setReg_did _ _ 2 hn (by omega)
  case jr =>
    rw [if_pos h]
    exact seqEnd_did _ 2 hn
  case mfs =>
    rw [if_pos h]
    have hdid := seqNext_setReg_did (s.sysReg n.val (fn (s.seqWord n.val))) 1 hn (r := fd (s.seqWord n.val))
      (by have := fd_lt (s.seqWord n.val); omega)
    rwa [Nat.mod_eq_of_lt hv] at hdid
  case mts =>
    rw [if_pos h, seqNext_sq 1 ((sysRegWrite_seqs_length _ _).symm ▸ hn), sysRegWrite_sq hn]
    refine ⟨?_, rfl, rfl, rfl, rfl, rfl⟩
    by_cases h1 : fn (s.seqWord n.val) = 1
    · simp [h1, Seq.ended]
    · by_cases h4 : fn (s.seqWord n.val) = 4 <;> simp [h1, h4, Seq.ended]

end Sys2Proof.Machine
end

section
/-! PROOF. Delivery, entry, exit, sleep, starts, halts and watchdogs of a sequencer (R446, R447, R453 to R458). -/
namespace Sys2Proof.Machine

section
variable {s : State} {n : Nat}

theorem State.noteWake_seqs_length (src : Nat) : (s.noteWake src).seqs.length = s.seqs.length := by
  unfold State.noteWake
  dsimp only
  split
  · exact setAt_length _ _ _
  · rfl

theorem State.raise_seqs_length (src : Nat) : (s.raise src).seqs.length = s.seqs.length := by
  rw [State.raise_eq_latched, State.noteWake_seqs_length]
  unfold latched
  split <;> rfl

theorem State.clocked_of_up (h : s.up = true) : s.clocked = true := by
  unfold State.clocked
  rw [h, Bool.true_or]

theorem Seq.idled_st_of_halted {q : Seq} (h : q.st = .halted) : q.idled.st = .halted := by
  unfold Seq.idled
  split
  · rfl
  · exact h

/-- The end of an instruction changes the sequencers alone. -/
theorem seqIdle_seqNext_rest (cycles : Nat) (l : List Seq) :
    { seqIdle n (seqNext n cycles s) with seqs := l } = { s with seqs := l } := rfl

/-! ### The entry sequence and RETI (R453 to R455) -/

theorem State.deliverable_of_none {cl : Nat} (h : (s.sq n).im = true ∨ s.chosen n cl = none) : s.deliverable n cl = none := by
  unfold State.deliverable
  rcases h with h | h
  · exact if_pos h
  · rw [h, ite_self]

theorem State.deliverable_of_some {cl src : Nat} (hmask : (s.sq n).im = false) (h : s.chosen n cl = some src) :
    s.deliverable n cl = some src := by
  unfold State.deliverable
  rw [hmask, h]
  rfl

/-- The three cycles that an entry or an exit takes. -/
def Seq.spent (q : Seq) : Seq := { q with cycle := (q.cycle + 3) % 2 ^ 32, runCycles := q.runCycles + 3 }

/-- R453, R454: a sequencer about to enter a handler: the entry sequence has begun. -/
def Seq.entering (q : Seq) : Seq := { q.spent with entry := false }

/-- R454: the sequencer that the entry sequence has brought into the handler of a source. -/
def Seq.inHandler (q : Seq) (prio src : Nat) : Seq :=
  { q with cl := prio, icause := src, pc := (q.vbase + 16 * src) % 65536 }

/-- R446: a HALT that has waited for the entry sequence has taken effect. -/
def Seq.haltDue (q : Seq) : Seq := if q.haltReq then { q with st := .halted, haltReq := false } else q

theorem Seq.haltDue_st {q : Seq} (h : q.haltReq = true) : q.haltDue.st = .halted := by
  unfold Seq.haltDue
  rw [if_pos h]

/-- A halt that has been waited for changes the state of the sequencer alone. -/
theorem Seq.haltDue_keeps {β : Type} (part : Seq → β) (q : Seq)
    (hpart : part { q with st := .halted, haltReq := false } = part q) : part q.haltDue = part q := by
  unfold Seq.haltDue
  split
  · exact hpart
  · rfl

theorem enterHandler_sq (src : Nat) (hn : n < s.seqs.length) :
    (enterHandler n src s).sq n = (s.sq n).inHandler (s.fgi F.ICU_SRCCFGs_PRIO src) src :=
  State.sq_modSq_same _ hn

/-- R453: the source whose handler is entered is no longer pending. -/
theorem enterHandler_pend (src : Nat) : (enterHandler n src s).pend src = false := by
  have hbit : src % 32 < 32 := Nat.mod_lt _ (by decide)
  have hclear := State.bit_setBit s F.ICU_PENDw_SRC (src / 32) (src % 32) (src % 32) false hbit
  rwa [if_pos rfl] at hclear

theorem entrySequence_of_due (hclk : s.clocked = true) (hst : (s.sq n).st = .run) (hentry : (s.sq n).entry = true) :
    entrySequence n s =
      (let t := s.modSq n Seq.entering
       haltAfterEntry n (match t.deliverable n (t.sq n).cl with
        | some src => enterHandler n src (t.modSq n fun q =>
            { q with stack := (q.pc, q.cl) :: q.stack, causes := q.icause :: q.causes })
        | none => t.bump F.ICU_SPUR)) := by
  unfold entrySequence
  rw [hclk, hst, hentry]
  rfl

/-- What a sequencer is after an entry sequence that entered a handler. -/
def Seq.entered (q : Seq) (prio src : Nat) : Seq :=
  { q.entering with stack := (q.pc, q.cl) :: q.stack, causes := q.icause :: q.causes }.inHandler prio src

/-- R454: the entry sequence enters the chosen source. -/
theorem entrySequence_of_chosen {src : Nat} (hclk : s.clocked = true) (hst : (s.sq n).st = .run)
    (hentry : (s.sq n).entry = true) (hn : n < s.seqs.length) (hmask : (s.sq n).im = false)
    (hsrc : s.chosen n (s.sq n).cl = some src) :
    (entrySequence n s).sq n = ((s.sq n).entered (s.fgi F.ICU_SRCCFGs_PRIO src) src).haltDue ∧
      (entrySequence n s).pend src = false := by
  have hsq : (s.modSq n Seq.entering).sq n = (s.sq n).entering := State.sq_modSq_same _ hn
  have hlen : n < (s.modSq n Seq.entering).seqs.length := (State.seqs_length_modSq _).symm ▸ hn
  have hdel : (s.modSq n Seq.entering).deliverable n ((s.modSq n Seq.entering).sq n).cl = some src :=
    State.deliverable_of_some (by rw [hsq]; exact hmask) (by rw [hsq]; exact hsrc)
  have hlen2 := hlen
  rw [← State.seqs_length_modSq (s := s.modSq n Seq.entering) (n := n) fun q =>
    { q with stack := (q.pc, q.cl) :: q.stack, causes := q.icause :: q.causes }] at hlen2
  rw [entrySequence_of_due hclk hst hentry]
  dsimp only
  rw [hdel]
  refine ⟨(State.sq_modSq_same _ ((setAt_length _ _ _).symm ▸ hlen2)).trans (congrArg Seq.haltDue ?_), enterHandler_pend (n := n) src⟩
  rw [enterHandler_sq _ hlen2, State.sq_modSq_same _ hlen, hsq]
  rfl

/-- R454: with nothing deliverable the entry is abandoned, and counted. -/
theorem entrySequence_of_none (hclk : s.clocked = true) (hst : (s.sq n).st = .run) (hentry : (s.sq n).entry = true)
    (hn : n < s.seqs.length) (hnone : (s.sq n).im = true ∨ s.chosen n (s.sq n).cl = none) :
    (entrySequence n s).sq n = (s.sq n).entering.haltDue ∧
      (entrySequence n s).fg F.ICU_SPUR = Nat.min (s.fg F.ICU_SPUR + 1) (2 ^ 32 - 1) := by
  have hsq : (s.modSq n Seq.entering).sq n = (s.sq n).entering := State.sq_modSq_same _ hn
  have hlen : n < (s.modSq n Seq.entering).seqs.length := (State.seqs_length_modSq _).symm ▸ hn
  have hdel : (s.modSq n Seq.entering).deliverable n ((s.modSq n Seq.entering).sq n).cl = none :=
    State.deliverable_of_none (by rw [hsq]; exact hnone)
  rw [entrySequence_of_due hclk hst hentry]
  dsimp only
  rw [hdel]
  refine ⟨?_, State.fg_bump (s.modSq n Seq.entering) F.ICU_SPUR⟩
  refine (State.sq_modSq_same (s := (s.modSq n Seq.entering).bump F.ICU_SPUR) _ hlen).trans (congrArg Seq.haltDue ?_)
  exact hsq

/-- R455: RETI with its stack's top taken. -/
theorem seqReti_of_stack {e : Nat × Nat} {rest : List (Nat × Nat)} (hat : s.seqAt n 0x34 = true)
    (hstack : (s.sq n).stack = e :: rest) :
    seqReti n s = (let t := s.modSq n Seq.spent
      match t.deliverable n e.2 with
      | some src => enterHandler n src t
      | none => returnTo n e rest t) := by
  unfold seqReti
  rw [if_pos hat, hstack]
  rfl

/-- R455: a sequencer that has returned to an entry of its stack. -/
def Seq.returned (q : Seq) (e : Nat × Nat) (rest : List (Nat × Nat)) : Seq :=
  { q with
    stack := rest
    causes := q.causes.tail
    pc := e.1
    cl := e.2
    icause := if e.2 = 16 then 0x100 else q.causes.headD 0x100 }

theorem seqReti_of_none {e : Nat × Nat} {rest : List (Nat × Nat)} (hat : s.seqAt n 0x34 = true) (hn : n < s.seqs.length)
    (hstack : (s.sq n).stack = e :: rest) (hnone : (s.sq n).im = true ∨ s.chosen n e.2 = none) :
    (seqReti n s).sq n = (s.sq n).spent.returned e rest ∧ (seqReti n s).regs = s.regs := by
  have hsq : (s.modSq n Seq.spent).sq n = (s.sq n).spent := State.sq_modSq_same _ hn
  have hdel : (s.modSq n Seq.spent).deliverable n e.2 = none := State.deliverable_of_none (by rw [hsq]; exact hnone)
  rw [seqReti_of_stack hat hstack]
  dsimp only
  rw [hdel]
  refine ⟨(State.sq_modSq_same _ ((State.seqs_length_modSq _).symm ▸ hn)).trans ?_, rfl⟩
  rw [hsq]
  rfl

theorem seqReti_of_chosen {e : Nat × Nat} {rest : List (Nat × Nat)} {src : Nat} (hat : s.seqAt n 0x34 = true)
    (hn : n < s.seqs.length) (hstack : (s.sq n).stack = e :: rest) (hmask : (s.sq n).im = false)
    (hsrc : s.chosen n e.2 = some src) :
    (seqReti n s).sq n = (s.sq n).spent.inHandler (s.fgi F.ICU_SRCCFGs_PRIO src) src ∧ (seqReti n s).pend src = false := by
  have hsq : (s.modSq n Seq.spent).sq n = (s.sq n).spent := State.sq_modSq_same _ hn
  have hdel : (s.modSq n Seq.spent).deliverable n e.2 = some src :=
    State.deliverable_of_some (by rw [hsq]; exact hmask) hsrc
  rw [seqReti_of_stack hat hstack]
  dsimp only
  rw [hdel]
  refine ⟨?_, enterHandler_pend src⟩
  rw [enterHandler_sq _ ((State.seqs_length_modSq _).symm ▸ hn), hsq]
  rfl

/-! ### Sleep (R458) -/

theorem seqWait_of_awake (hat : s.seqAt n 0x33 = true) (h : ((seqNext n 1 s).sq n).entry = true) :
    seqWait n s = seqNext n 1 s := by
  unfold seqWait
  rw [if_pos hat]
  exact if_pos h

theorem seqWait_of_asleep (hat : s.seqAt n 0x33 = true) (h : ((seqNext n 1 s).sq n).entry = false) :
    seqWait n s = (seqNext n 1 s).modSq n fun q => { q with st := .wait, wake := false } := by
  unfold seqWait
  rw [if_pos hat]
  exact if_neg (ne_true_of_eq_false h)

/-- R453: whether delivery is due at the end of an instruction of a running sequencer. -/
theorem Seq.ended_entry {q : Seq} (pc cycles : Nat) (hst : q.st = .run) :
    (q.ended s n pc cycles).entry = false ↔ q.im = true ∨ s.chosen n q.cl = none := by
  cases him : q.im <;> cases hch : s.chosen n q.cl <;> simp [Seq.ended, hst, him, hch]

/-- A sequencer that an event has woken. -/
def Seq.woken (slept : Nat) (q : Seq) : Seq :=
  { q with st := .run, wake := false, cycle := (q.cycle + Nat.max 2 slept) % 2 ^ 32 }

theorem waitWake_sq (slept : Nat) (hclk : s.clocked = true) (hst : (s.sq n).st = .wait) (hwake : (s.sq n).wake = true)
    (hn : n < s.seqs.length) : (waitWake n slept s).sq n =
      { (s.sq n).woken slept with entry := (if (s.sq n).im then none else s.chosen n (s.sq n).cl).isSome } := by
  have hsq : (s.modSq n (Seq.woken slept)).sq n = (s.sq n).woken slept := State.sq_modSq_same _ hn
  have hstep : waitWake n slept s = (s.modSq n (Seq.woken slept)).modSq n fun q =>
      { q with entry := ((s.modSq n (Seq.woken slept)).deliverable n q.cl).isSome } := by
    unfold waitWake
    rw [hclk, hst, hwake]
    rfl
  rw [hstep, State.sq_modSq_same _ ((State.seqs_length_modSq _).symm ▸ hn)]
  unfold State.deliverable
  rw [hsq]
  rfl

theorem waitWake_rest (slept : Nat) : { waitWake n slept s with seqs := s.seqs } = s := by
  unfold waitWake
  split <;> rfl

/-! ### Starts and halts (R446) -/

theorem State.resetMaster_of_none {m : Nat} (h : s.flight m = none) : s.resetMaster m = s := by
  unfold State.resetMaster
  rw [h]

theorem tsqStart_of_stopped (hclk : s.clocked = true) (hst : (s.sq n).st = .halted ∨ (s.sq n).st = .fault)
    (hflight : s.flight n = none) : tsqStart n s = seqStart n s := by
  unfold tsqStart
  rw [hclk, State.resetMaster_of_none hflight]
  rcases hst with h | h <;> rw [h]

/-- R446: a sequencer that a HALT finds running or asleep. -/
def Seq.haltAsked (q : Seq) : Seq :=
  if q.st = .run then if q.entry || q.busy then { q with haltReq := true } else { q with st := .halted, wake := false }
  else { q with st := .halted, wake := false, entry := false }

theorem tsqHalt_of_live (hst : (s.sq n).st = .run ∨ (s.sq n).st = .wait) : tsqHalt n s = s.setSq n (s.sq n).haltAsked := by
  unfold tsqHalt Seq.haltAsked
  rcases hst with h | h
  · simp [h]
  · simp [h]

theorem Seq.haltAsked_st (q : Seq) :
    if q.st = .run ∧ (q.entry = true ∨ q.busy = true) then q.haltAsked.st = .run ∧ q.haltAsked.haltReq = true
    else q.haltAsked.st = .halted := by
  unfold Seq.haltAsked
  by_cases hrun : q.st = .run
  · by_cases hbusy : q.entry = true ∨ q.busy = true <;> simp [hrun, hbusy]
  · simp [hrun]

/-- A HALT changes of a sequencer its state and what follows from it. -/
theorem Seq.haltAsked_keeps (q : Seq) : q.haltAsked.pc = q.pc ∧ q.haltAsked.posted = q.posted ∧ q.haltAsked.g = q.g ∧
    q.haltAsked.wdCount = q.wdCount := by
  unfold Seq.haltAsked
  split_ifs
  · exact ⟨rfl, rfl, rfl, rfl⟩
  · exact ⟨rfl, rfl, rfl, rfl⟩
  · exact ⟨rfl, rfl, rfl, rfl⟩

/-! ### Watchdogs (R447) -/

/-- A watchdog that has expired, before its action. -/
def wdRecorded (n : Nat) (s : State) : State :=
  (wdKick n ((s.fsi F.TSQ_FSTATn_WDOG n 1).raise (148 + n))).logFault 0x9002 n (s.fgi F.TSQ_WDCFGn_ACTION n)

theorem wdExpiry_of_due (hst : (s.sq n).st = .run ∨ (s.sq n).st = .wait) (hon : s.fgi F.TSQ_WDCFGn_PERIOD n ≠ 0)
    (hdue : s.fgi F.TSQ_WDCFGn_PERIOD n ≤ (s.sq n).wdCount) :
    wdExpiry n s = if s.fgi F.TSQ_WDCFGn_ACTION n = 1 then tsqHalt n (wdRecorded n s) else wdRecorded n s := by
  have hlive : (match (s.sq n).st with
      | .run | .wait => true
      | _ => false) = true := by rcases hst with h | h <;> rw [h]
  unfold wdExpiry
  exact if_pos ⟨hlive, hon, hdue⟩

theorem wdRecorded_sq (hn : n < s.seqs.length) : ∃ w, (wdRecorded n s).sq n = { s.sq n with wake := w, wdCount := 0 } := by
  obtain ⟨w, hw⟩ := State.raise_sq (s.fsi F.TSQ_FSTATn_WDOG n 1) (148 + n) n
  have hlen : n < ((s.fsi F.TSQ_FSTATn_WDOG n 1).raise (148 + n)).seqs.length := by rwa [State.raise_seqs_length]
  refine ⟨w, ?_⟩
  unfold wdRecorded wdKick
  rw [State.logFault_sq, State.sq_setSq_same _ hlen, hw]
  rfl

theorem wdRecorded_flag : (wdRecorded n s).fgi F.TSQ_FSTATn_WDOG n = 1 := by
  unfold wdRecorded wdKick
  rw [State.logFault_fgi _ _ _ _ _ _ (by decide), State.setSq_fgi, State.raise_fgi _ _ _ _ (by decide), State.fgi_fsi]
  rfl

theorem wdRecorded_pend : (wdRecorded n s).pend (148 + n) = true := by
  unfold wdRecorded
  rw [State.logFault_pend]
  exact State.raise_pend _ _

theorem tsqHalt_regs_fgi (f : Fld) (i : Nat) : (tsqHalt n s).fgi f i = s.fgi f i := by
  unfold tsqHalt
  dsimp only
  split <;> rfl

end

/-- Settles O54: each row is read off the sequencer that it leaves (`seqAfterStores_of_nil`, `seqWait_of_asleep`,
`entrySequence_of_chosen`, `seqReti_of_none`, `waitWake_sq`, `tsqStart_of_stopped`, `tsqHalt_of_live`, `wdExpiry_of_due`). -/
theorem sequencerInterruptsSleepAndRun : Obligations.SequencerInterruptsSleepAndRun := by
  refine ⟨fun n c k s h hl hposted => ⟨_, rfl, ?sig⟩, fun n c k s h hl hposted => ⟨_, rfl, ?halt⟩,
    fun n s h hl => ⟨_, rfl, ?wait⟩, fun n src s hup hst hentry hl hmask hsrc => ⟨_, rfl, ?entry⟩,
    fun n s hup hst hentry hl hnone => ⟨_, rfl, ?abandoned⟩, fun n pc cl r s h hl hstack hnone => ⟨_, rfl, ?reti⟩,
    fun n pc cl src r s h hl hstack hmask hsrc => ⟨_, rfl, ?chained⟩, fun n k s hup hst hwake hl => ⟨_, rfl, ?wake⟩,
    fun n s hclk hst hl hflight => ⟨_, rfl, ?start⟩, fun n s hst hl => ⟨_, rfl, ?stop⟩,
    fun n s hst hon hdue hl => ⟨_, rfl, ?watchdog⟩, fun n s => rfl⟩
  all_goals have hn : n.val < s.seqs.length := by omega
  case sig =>
    have hrun := State.st_of_seqAt h
    have hbusy : (seqBusy n.val s).sq n.val = { s.sq n.val with busy := true } := State.sq_modSq_same _ hn
    have hraise : ((seqBusy n.val s).raise (240 + fn (s.seqWord n.val) % 16)).sq n.val = { s.sq n.val with busy := true } :=
      (State.raise_sq_of_awake _ _ (by rw [hbusy]; exact hrun ▸ SeqState.noConfusion)).trans hbusy
    have hlen : n.val < ((seqBusy n.val s).raise (240 + fn (s.seqWord n.val) % 16)).seqs.length := by
      rw [State.raise_seqs_length]
      exact (State.seqs_length_modSq _).symm ▸ hn
    have hovr := State.ovr_raise (seqBusy n.val s) (src := 240 + fn (s.seqWord n.val) % 16) (w := 7)
      (b := 16 + fn (s.seqWord n.val) % 16) (by omega) (by decide) (by omega)
    rw [seqAfterStores_of_nil h hl hposted, seqIdle_seqNext_sq _ hlen, hraise, Seq.idled_eq]
    refine ⟨State.raise_pend (seqBusy n.val s) _, fun hpend => hovr.trans ?_, rfl, rfl, ?_⟩
    · have hsrc : 32 * 7 + (16 + fn (s.seqWord n.val) % 16) = 240 + fn (s.seqWord n.val) % 16 := by omega
      have hpend' : (seqBusy n.val s).pend (240 + fn (s.seqWord n.val) % 16) = true := hpend
      rw [decide_eq_true hsrc, hpend', Bool.and_self, Bool.or_true]
    · change (if ((s.sq n.val).haltReq && true) = true then SeqState.halted else (s.sq n.val).st) = _
      rw [Bool.and_true, hrun]
  case halt =>
    have hbusy : (seqBusy n.val s).sq n.val = { s.sq n.val with busy := true } := State.sq_modSq_same _ hn
    have hlen : n.val < (seqBusy n.val s).seqs.length := (State.seqs_length_modSq _).symm ▸ hn
    rw [seqAfterStores_of_nil h hl hposted, seqIdle_seqNext_sq _ ((State.seqs_length_modSq _).symm ▸ hlen),
      State.sq_modSq_same _ hlen, hbusy]
    refine ⟨Seq.idled_st_of_halted rfl, ?_, ?_, seqIdle_seqNext_rest _ _⟩ <;> rw [Seq.idled_eq]
    · rfl
    · rfl
  case wait =>
    have hrun := State.st_of_seqAt h
    have hsq := seqNext_sq 1 hn
    have hiff := Seq.ended_entry (s := s) (n := n.val) ((s.sq n.val).pc + 4) 1 hrun
    rw [← hsq] at hiff
    by_cases hidle : (s.sq n.val).im = true ∨ s.chosen n.val (s.sq n.val).cl = none
    · rw [seqWait_of_asleep h (hiff.mpr hidle), if_pos hidle,
        State.sq_modSq_same _ ((seqNext_seqs_length _).symm ▸ hn), hsq]
      exact ⟨rfl, rfl, rfl, rfl, rfl⟩
    · have hdue : ((seqNext n.val 1 s).sq n.val).entry = true := by
        rw [← Bool.not_eq_false]
        exact hidle ∘ hiff.mp
      rw [seqWait_of_awake h hdue, if_neg hidle]
      refine ⟨?_, ?_, rfl, ?_, hdue⟩ <;> rw [hsq]
      · rfl
      · rfl
      · exact hrun
  case entry =>
    obtain ⟨hsq, hpend⟩ := entrySequence_of_chosen (State.clocked_of_up hup) hst hentry hn hmask hsrc
    refine ⟨?_, ?_, ?_, ?_, ?_, hpend, ?_, ?_, ?_, ?_, fun hhalt => ?_⟩ <;> rw [hsq]
    · exact Seq.haltDue_keeps (·.stack) _ rfl
    · exact Seq.haltDue_keeps (·.cl) _ rfl
    · exact Seq.haltDue_keeps (·.icause) _ rfl
    · exact Seq.haltDue_keeps (·.causes) _ rfl
    · exact Seq.haltDue_keeps (·.pc) _ rfl
    · exact Seq.haltDue_keeps (·.cycle) _ rfl
    · exact Seq.haltDue_keeps (·.g) _ rfl
    · exact (Seq.haltDue_keeps (·.im) _ rfl).trans hmask
    · exact Seq.haltDue_keeps (·.entry) _ rfl
    · exact Seq.haltDue_st hhalt
  case abandoned =>
    obtain ⟨hsq, hspur⟩ := entrySequence_of_none (State.clocked_of_up hup) hst hentry hn hnone
    refine ⟨?_, ?_, ?_, ?_, ?_, hspur, fun hhalt => ?_⟩ <;> rw [hsq]
    · exact Seq.haltDue_keeps (·.stack) _ rfl
    · exact Seq.haltDue_keeps (·.pc) _ rfl
    · exact Seq.haltDue_keeps (·.cl) _ rfl
    · exact Seq.haltDue_keeps (·.entry) _ rfl
    · exact Seq.haltDue_keeps (·.cycle) _ rfl
    · exact Seq.haltDue_st hhalt
  case reti =>
    obtain ⟨hsq, hregs⟩ := seqReti_of_none h hn hstack hnone
    rw [hsq]
    exact ⟨rfl, rfl, rfl, rfl, rfl, hregs, rfl, rfl⟩
  case chained =>
    obtain ⟨hsq, hpend⟩ := seqReti_of_chosen h hn hstack hmask hsrc
    rw [hsq]
    exact ⟨hstack, rfl, rfl, rfl, hpend, rfl⟩
  case wake =>
    rw [waitWake_sq k (State.clocked_of_up hup) hst hwake hn]
    refine ⟨rfl, rfl, rfl, rfl, ?_, waitWake_rest k⟩
    cases (s.sq n.val).im <;> simp
  case start =>
    have hsq : (seqStart n.val s).sq n.val = (s.sq n.val).started (4 * s.fgi F.TSQ_ENTRYn_ENTRY n.val) :=
      State.sq_setSq_same _ hn
    rw [tsqStart_of_stopped hclk hst hflight, hsq]
    exact ⟨rfl, rfl, rfl, rfl, rfl, rfl, rfl, rfl, rfl, rfl, rfl⟩
  case stop =>
    obtain ⟨hpc, hposted, hg, -⟩ := (s.sq n.val).haltAsked_keeps
    rw [tsqHalt_of_live hst, State.sq_setSq_same _ hn]
    exact ⟨(s.sq n.val).haltAsked_st, hpc, hposted, hg, rfl⟩
  case watchdog =>
    obtain ⟨w, hsq⟩ := wdRecorded_sq hn
    have hlive : ((wdRecorded n.val s).sq n.val).st = .run ∨ ((wdRecorded n.val s).sq n.val).st = .wait := by
      rw [hsq]
      exact hst
    have hlen : n.val < (wdRecorded n.val s).seqs.length := by
      unfold wdRecorded wdKick
      rw [seqs_kept (State.logFault_seen _ _ _ _ _ (by decide)), State.setSq_seqs, setAt_length, State.raise_seqs_length]
      exact hn
    rw [wdExpiry_of_due hst hon hdue]
    by_cases hact : s.fgi F.TSQ_WDCFGn_ACTION n.val = 1
    · obtain ⟨hpc, -, -, hcount⟩ := ((wdRecorded n.val s).sq n.val).haltAsked_keeps
      have hasked := ((wdRecorded n.val s).sq n.val).haltAsked_st
      rw [if_pos hact, tsqHalt_regs_fgi, State.pend_eq_of_fgi (tsqHalt_regs_fgi _), tsqHalt_of_live hlive,
        State.sq_setSq_same _ hlen, hpc, hcount]
      refine ⟨wdRecorded_flag, wdRecorded_pend, by rw [hsq], by rw [hsq], ?_⟩
      rw [hsq] at hasked ⊢
      by_cases hbusy : (s.sq n.val).st = .run ∧ ((s.sq n.val).entry = true ∨ (s.sq n.val).busy = true)
      · rw [if_pos hbusy] at hasked
        rw [if_neg fun h => h.2 hbusy, hbusy.1]
        exact hasked.1
      · rw [if_neg hbusy] at hasked
        rw [if_pos ⟨hact, hbusy⟩]
        exact hasked
    · rw [if_neg hact, if_neg fun h => hact h.1, hsq]
      exact ⟨wdRecorded_flag, wdRecorded_pend, rfl, rfl, rfl⟩

end Sys2Proof.Machine
end

section
/-! PROOF. Time bases, PPS, the event captures and the beacon (R328 to R346). -/
namespace Sys2Proof.Machine

/-! ### Adjusting a base (R330) -/

theorem append_toNat {m n : Nat} (x : BitVec m) (y : BitVec n) : (x ++ y).toNat = x.toNat * 2 ^ n + y.toNat := by
  rw [BitVec.toNat_append, ← Nat.shiftLeft_add_eq_or_of_lt y.isLt, Nat.shiftLeft_eq]

/-- R330: the offset is the number whose words are ADJHI[9:0], ADJMID and ADJLO. -/
theorem adjOffset_eq_toInt (v : Word) (mid lo : Nat) :
    adjOffset v.toNat mid lo = (v.setWidth 10 ++ BitVec.ofNat 32 mid ++ BitVec.ofNat 32 lo).toInt := by
  have hwords : v.toNat % 1024 * 2 ^ 64 + mid % 2 ^ 32 * 2 ^ 32 + lo % 2 ^ 32 =
      (v.setWidth 10 ++ BitVec.ofNat 32 mid ++ BitVec.ofNat 32 lo).toNat := by
    rw [append_toNat, append_toNat, BitVec.toNat_setWidth, BitVec.toNat_ofNat, BitVec.toNat_ofNat]
    ring
  unfold adjOffset
  rw [hwords]
  exact sgn_toNat _

section
variable {s : State} {n : Nat}

theorem State.tb_modTime_setAt {x : Nat} (m : Nat) (hlen : n < s.time.t.length) :
    (s.modTime fun t => { t with t := setAt t.t n x }).tb m = if m = n then x else s.tb m := by
  refine (getD_setAt s.time.t n m x 0).trans ?_
  simp only [hlen, and_true]
  rfl

/-- R330: an adjusted base holds its time plus the offset, modulo 2^32 µs. -/
theorem tbAdjWrite_tb (v : Word) (m : Nat) (hn : n = 1 ∨ n = 2) (hlen : n < s.time.t.length) :
    (tbAdjWrite n v s).tb m = if m = n then
      (((s.tb n : Int) + adjOffset v.toNat (s.fgi F.TIM_TBnADJMID_ADJ n) (s.fgi F.TIM_TBnADJLO_ADJ n)) % (tbMod : Int)).toNat
      else s.tb m := by
  unfold tbAdjWrite
  rw [if_pos hn]
  exact State.tb_modTime_setAt m hlen

end

/-- Settles O40: `tbAdjWrite_tb`, with the offset as one signed word (`adjOffset_eq_toInt`). -/
theorem adjustingATimeBase : Obligations.AdjustingATimeBase := by
  refine ⟨fun n v s hn hlen => ⟨_, rfl, ?_, fun m hm => ?_⟩, fun n v s hn => congrArg Host.Outcome.next (if_neg (by omega))⟩
  · rw [tbAdjWrite_tb v _ hn (by omega), if_pos rfl, adjOffset_eq_toInt]
    exact Int.toNat_of_nonneg (Int.emod_nonneg _ (by decide))
  · rw [tbAdjWrite_tb v _ hn (by omega), if_neg (Fin.val_ne_of_ne hm)]

/-! ### Increments and the views of a base (R329, R331) -/

section
variable {s : State} {n : Nat} {v : Word} (hn : n = 1 ∨ n = 2)
include hn

theorem tbIncWrite_of_legal (h : incLo ≤ v.toNat % 8 * 2 ^ 32 + s.fgi F.TIM_TBnINCLO_INC n ∧
      v.toNat % 8 * 2 ^ 32 + s.fgi F.TIM_TBnINCLO_INC n ≤ incHi) :
    tbIncWrite n v s = (s.fsi F.TIM_TBnINCHI_INC n v.toNat).modTime fun t =>
      if n = 1 then { t with inc1 := v.toNat % 8 * 2 ^ 32 + s.fgi F.TIM_TBnINCLO_INC n }
      else { t with inc2 := v.toNat % 8 * 2 ^ 32 + s.fgi F.TIM_TBnINCLO_INC n } := by
  unfold tbIncWrite
  rw [if_pos hn]
  exact if_pos h

theorem tbIncWrite_of_illegal (h : ¬ (incLo ≤ v.toNat % 8 * 2 ^ 32 + s.fgi F.TIM_TBnINCLO_INC n ∧
      v.toNat % 8 * 2 ^ 32 + s.fgi F.TIM_TBnINCLO_INC n ≤ incHi)) : tbIncWrite n v s = s.fs F.TIM_T3STAT_INCERR 1 := by
  unfold tbIncWrite
  rw [if_pos hn]
  exact if_neg h

end

/-! ### The step of TB3 (R336, R337) -/

/-- R334: with no source in use, a valid primary source is selected. -/
theorem selectSrc_primary {s : State} (hsel : s.time.sel = 0) (hvalid : srcValid s (s.fg F.TIM_T3CFG_PRI) = true) :
    selectSrc s = s.fg F.TIM_T3CFG_PRI := by
  unfold selectSrc
  dsimp only
  have hsec : ¬ (s.time.sel = s.fg F.TIM_T3CFG_SEC ∧ s.fg F.TIM_T3CFG_SEC ≠ s.fg F.TIM_T3CFG_PRI ∧
      srcValid s (s.fg F.TIM_T3CFG_SEC) = true) := by
    rintro ⟨hin, -, hv⟩
    rw [← hin, hsel] at hv
    exact Bool.false_ne_true hv
  rw [if_neg hsec, if_pos hvalid]

/-- The other fields of the time block as the bases advance, with no step planned. -/
theorem advanceBases_time {s : State} (h : s.time.step = .none) :
    (advanceBases s).time = { s.time with t := setAt s.tbNext 3 s.t3Next } := by
  unfold advanceBases State.modTime
  dsimp only
  rw [h]

theorem tb3Step_of_primary {s : State} {c : Nat} (hmode : s.fg F.TIM_T3CFG_MODE = 1)
    (hstepped : s.flag F.TIM_T3STAT_STEPPED = false) (hstep : s.time.step = .none) (hsel : s.time.sel = 0) (hc : c = 1 ∨ c = 2)
    (hpri : s.fg F.TIM_T3CFG_PRI = c) (hvalid : s.flagi F.TIM_TBnCTRL_VALID c = true) :
    tb3Step s = s.modTime fun t => { t with step := .planned (-(tbDiff ((advanceBases s).tb 3) ((advanceBases s).tb c))) } := by
  have hv : ∀ t : State, t.regs = s.regs → srcValid t (t.fg F.TIM_T3CFG_PRI) = true := fun t ht => by
    have hread : ∀ f i, t.fgi f i = s.fgi f i := fun f i => by
      unfold State.fgi
      rw [ht]
    have hp : t.fg F.TIM_T3CFG_PRI = c := (hread _ 0).trans hpri
    rw [hp]
    rcases hc with rfl | rfl
    · exact (State.flagi_congr s (hread _ 1)).trans hvalid
    · exact (State.flagi_congr s (hread _ 2)).trans hvalid
  have hsrc : ∀ g : TimeSt → TimeSt, (g (advanceBases s).time).sel = 0 → selectSrc ((advanceBases s).modTime g) = c := fun g hg =>
    (selectSrc_primary (s := (advanceBases s).modTime g) hg (hv ((advanceBases s).modTime g) rfl)).trans hpri
  have hoff : srcOffset (advanceBases s) c = tbDiff ((advanceBases s).tb 3) ((advanceBases s).tb c) := by
    rcases hc with rfl | rfl <;> rfl
  unfold tb3Step
  dsimp only
  rw [hsrc _ (by rw [advanceBases_time hstep]; exact hsel), hoff]
  exact if_pos ⟨hmode, by omega, hstepped, hstep, .inl (by omega)⟩

/-- R336: what the load of the frame counter leaves of the rest: the numbers rebased (R337). -/
theorem stepRecord_shows (u frm : Nat) (s : State) :
    (stepRecord u frm s).frame = s.frame ∧ (stepRecord u frm s).fg F.TIM_STEPFRM_FRAME = frm % 2 ^ 32 ∧
      (stepRecord u frm s).fg F.TIM_STEPDELTA_FRAME = sub32 u (frm + 1) ∧ (stepRecord u frm s).fg F.TIM_T3STAT_STEPPED = 1 ∧
      (stepRecord u frm s).pend 18 = true ∧ (stepRecord u frm s).time.step = .loaded := by
  unfold stepRecord State.fg State.fs
  refine ⟨by simp, ?_, ?_, ?_, State.raise_pend _ _, rfl⟩
  · simp (disch := decide) only [State.modTime_fgi, State.raise_fgi, State.fgi_fsi_ne, State.fgi_fsi]
    rfl
  · simp (disch := decide) only [State.modTime_fgi, State.raise_fgi, State.fgi_fsi_ne, State.fgi_fsi]
    exact Nat.mod_eq_of_lt (Nat.mod_lt _ (by decide))
  · simp (disch := decide) only [State.modTime_fgi, State.raise_fgi, State.fgi_fsi]
    rfl

theorem frameReload_of_running {s : State} (h : s.time.step = .running) : ∃ t : State, t.frame = usView s.t3Next ∧
    frameReload s = stepRecord (usView s.t3Next) s.frame t := by
  unfold frameReload
  rw [if_pos h]
  exact ⟨_, rfl, rfl⟩

/-! ### PPS (R340, R341) -/

section
variable {s : State}

theorem State.tbAt_congr {t : State} (h : t.time = s.time) (n c : Nat) : t.tbAt n c = s.tbAt n c := by
  unfold State.tbAt State.tb
  rw [h]

theorem State.tbAt_fsi (f : Fld) (i v n c : Nat) : (s.fsi f i v).tbAt n c = s.tbAt n c := State.tbAt_congr rfl n c

/-- R340: the base captured into the register `n`. -/
def ppsCap (cycle : Nat) (s : State) (n : Nat) : State := s.fsi F.TIM_PPSCAPn_NS n (nsView (s.tbAt n cycle))

theorem foldl_ppsCap_fgi (cycle : Nat) (l : List Nat) (hl : l.Nodup) (hlt : ∀ n ∈ l, n < 4) (s : State) {n : Nat} (hn : n < 4) :
    (l.foldl (ppsCap cycle) s).fgi F.TIM_PPSCAPn_NS n =
      if n ∈ l then nsView (s.tbAt n cycle) else s.fgi F.TIM_PPSCAPn_NS n := by
  induction l generalizing s with
  | nil => simp
  | cons m l ih =>
    obtain ⟨hnot, hl⟩ := List.nodup_cons.mp hl
    obtain ⟨hm, hlt⟩ := List.forall_mem_cons.mp hlt
    rw [List.foldl_cons, ih hl hlt]
    unfold ppsCap
    rw [State.tbAt_fsi]
    by_cases hnm : n = m
    · subst hnm
      rw [if_neg hnot, if_pos List.mem_cons_self, State.fgi_fsi]
      exact Nat.mod_eq_of_lt (Nat.mod_lt _ (by decide))
    · rw [State.fgi_fsi_inst _ _ _ _ _ hnm (by omega) (by omega)]
      simp [hnm]

/-- The state in which PPS_IN captures the bases: a capture still NEW is noted as overrun. -/
def ppsNoted (s : State) : State := s.when (s.flag F.TIM_PPSSTAT_NEW) fun s => s.fs F.TIM_PPSSTAT_OVERRUN 1

theorem ppsNoted_time (s : State) : (ppsNoted s).time = s.time := by
  unfold ppsNoted State.when
  split <;> rfl

theorem ppsNoted_overrun (h : s.flag F.TIM_PPSSTAT_NEW = true) : (ppsNoted s).fgi F.TIM_PPSSTAT_OVERRUN 0 = 1 := by
  unfold ppsNoted State.when
  rw [if_pos h]
  exact State.fgi_fsi _ _ _ _

/-- What PPS_IN captures of the bases. -/
def ppsCaptured (cycle : Nat) (s : State) : State :=
  (List.range 4).foldl (ppsCap cycle) (ppsNoted s)

theorem ppsCaptured_seen (cycle : Nat) (s : State) :
    State.seen ⟨[], false, [F.TIM_PPSCAPn_NS]⟩ (ppsCaptured cycle s) = State.seen ⟨[], false, [F.TIM_PPSCAPn_NS]⟩ (ppsNoted s) :=
  foldl_seen _ _ _ _ fun s n => State.fsi_seen _ s _ _ _ (by decide)

theorem ppsCaptured_time (cycle : Nat) (s : State) : (ppsCaptured cycle s).time = s.time :=
  (time_of_seen _ _ _ (ppsCaptured_seen cycle s) rfl).trans (ppsNoted_time s)

theorem ppsInEdge_of_enabled (cycle : Nat) (h : s.flag F.TIM_PPSCFG_INEN = true) :
    ppsInEdge cycle s = (((ppsCaptured cycle s).fs F.TIM_PPSSTAT_WRAP (wrapView (s.tbAt 3 cycle))).fs F.TIM_PPSSTAT_NEW 1).raise 19 := by
  unfold ppsInEdge
  rw [if_pos h, ← State.tbAt_congr (ppsCaptured_time cycle s)]
  rfl

theorem ppsInEdge_fgi (cycle : Nat) (h : s.flag F.TIM_PPSCFG_INEN = true) (f : Fld) (i : Nat)
    (hraise : (Extent.mk [.seqs] false raiseFlds).r f = false) (hwrap : f.id ≠ F.TIM_PPSSTAT_WRAP.id)
    (hnew : f.id ≠ F.TIM_PPSSTAT_NEW.id) : (ppsInEdge cycle s).fgi f i = (ppsCaptured cycle s).fgi f i := by
  rw [ppsInEdge_of_enabled cycle h]
  unfold State.fs
  rw [State.raise_fgi (hf := hraise), State.fgi_fsi_ne _ _ _ _ _ _ hnew, State.fgi_fsi_ne _ _ _ _ _ _ hwrap]

theorem ppsInEdge_captures (cycle : Nat) (h : s.flag F.TIM_PPSCFG_INEN = true) (n : Fin 4) :
    (ppsInEdge cycle s).fgi F.TIM_PPSCAPn_NS n.val = nsView (s.tbAt n.val cycle) := by
  rw [ppsInEdge_fgi cycle h _ _ rfl (by decide) (by decide)]
  unfold ppsCaptured
  rw [foldl_ppsCap_fgi cycle _ List.nodup_range (fun n hn => List.mem_range.mp hn) _ n.isLt, if_pos (List.mem_range.mpr n.isLt),
    State.tbAt_congr (ppsNoted_time s)]

theorem ppsInEdge_status (cycle : Nat) (h : s.flag F.TIM_PPSCFG_INEN = true) :
    (ppsInEdge cycle s).fg F.TIM_PPSSTAT_WRAP = wrapView (s.tbAt 3 cycle) % 2 ^ 10 ∧
      (ppsInEdge cycle s).fg F.TIM_PPSSTAT_NEW = 1 ∧ (ppsInEdge cycle s).pend 19 = true := by
  rw [ppsInEdge_of_enabled cycle h]
  unfold State.fg State.fs
  refine ⟨?_, ?_, State.raise_pend _ _⟩
  · simp (disch := decide) only [State.raise_fgi, State.fgi_fsi_ne, State.fgi_fsi]
    rfl
  · simp (disch := decide) only [State.raise_fgi, State.fgi_fsi]
    rfl

theorem ppsInEdge_overrun (cycle : Nat) (h : s.flag F.TIM_PPSCFG_INEN = true) (hnew : s.flag F.TIM_PPSSTAT_NEW = true) :
    (ppsInEdge cycle s).fg F.TIM_PPSSTAT_OVERRUN = 1 := by
  unfold State.fg
  rw [ppsInEdge_fgi cycle h _ _ rfl (by decide) (by decide), State.fgi_of_seen _ _ _ _ _ (ppsCaptured_seen cycle s) rfl]
  exact ppsNoted_overrun hnew

/-- R341: PPS_OUT rises at the first cycle at which the pulse is due, or, due from the start, at the one given. -/
theorem ppsOutEdge_of_due {cycle : Nat} (hup : s.up = true) (hdue : s.ppsDue cycle = true)
    (hfirst : s.ppsDue 0 = true ∨ cycle = s.ppsFirst) :
    ppsOutEdge cycle s = (s.fs F.TIM_PPSCFG_ARMED 0).modTime fun x =>
      { x with
        ppsOut := true
        ppsEnd := (s.tbAt 0 cycle + Nat.max 1 (s.fg F.TIM_PPSCFG_WIDTH) * oneMs) % tbMod } := by
  unfold ppsOutEdge
  refine if_pos ?_
  rw [hup, hdue]
  simpa using hfirst

/-! ### Event pins (R342) -/

theorem captures_of_mode {mode : Nat} {falling : Bool} (h : mode = 3 ∨ mode = if falling = true then 2 else 1) :
    captures mode falling = true := by
  cases falling <;> simpa [captures] using h

/-- R342: an edge that the pin's mode captures: kept, or counted as lost. -/
theorem evtCapture_of_captures {n : Nat} {falling : Bool} {cycle : Nat} (h : captures (s.fgi F.EVT_CFGn_MODE n) falling = true) :
    evtCapture n falling cycle s = if (s.evtFifo n).length < 4 then
      (s.raise 20).modTime fun x => { x with evt := setAt x.evt n (s.evtFifo n ++
        [⟨s.frame, subView (s.tbAt 3 cycle), falling, wrapView (s.tbAt 3 cycle)⟩]) }
      else ((s.raise 20).setBit F.EVT_STAT_OVERRUN 0 n true).bumpi F.EVT_LOSTn n := by
  have hfifo : (s.raise 20).evtFifo n = s.evtFifo n := congrArg (fun t : TimeSt => t.evt.getD n []) (State.raise_time s 20)
  unfold evtCapture
  rw [if_pos h]
  dsimp only
  rw [hfifo, State.tbAt_congr (State.raise_time s 20), State.raise_frame]

theorem lostCapture_shows (t : State) (n : Fin 4) :
    ((t.setBit F.EVT_STAT_OVERRUN 0 n.val true).bumpi F.EVT_LOSTn n.val).fgi F.EVT_LOSTn n.val =
        Nat.min (t.fgi F.EVT_LOSTn n.val + 1) (2 ^ 32 - 1) ∧
      (((t.setBit F.EVT_STAT_OVERRUN 0 n.val true).bumpi F.EVT_LOSTn n.val).fg F.EVT_STAT_OVERRUN).testBit n.val = true := by
  constructor
  · rw [State.fgi_bumpi, State.fgi_setBit_ne _ _ _ _ _ _ _ (by decide)]
    rfl
  · unfold State.fg
    refine (congrArg (Nat.testBit · n.val) (State.fgi_fsi_ne _ F.EVT_LOSTn F.EVT_STAT_OVERRUN n.val 0 _ (by decide))).trans ?_
    rw [State.setBit_true_fgi, Nat.testBit_mod_two_pow]
    have hn : n.val < F.EVT_STAT_OVERRUN.width := n.isLt
    simp [hn]

end

/-- Settles O41: one lemma for each of the block's operations. -/
theorem timeBasesAndCaptures : Obligations.TimeBasesAndCaptures := by
  refine ⟨fun n v s hn => ⟨_, rfl, ?_⟩, fun n cycle s => ⟨_, rfl, rfl, ?_, ?_, rfl⟩,
    fun c s hmode hstepped hstep hsel hc hpri hvalid => ⟨_, rfl, ?_⟩, fun s h => ⟨_, rfl, ?_⟩,
    fun cycle s h => ⟨_, rfl, ppsInEdge_captures cycle h, ?_⟩, fun v s => ⟨_, rfl, ?_, ?_, rfl⟩,
    fun cycle s hup hdue hfirst => ⟨_, rfl, ?_⟩, fun cycle s hover hfirst => ?_, fun n falling cycle s h => ⟨_, rfl, ?_⟩,
    fun n s => rfl, fun cycle s h => ?_⟩
  · by_cases h : incLo ≤ v.toNat % 8 * 2 ^ 32 + s.fgi F.TIM_TBnINCLO_INC n.val ∧
        v.toNat % 8 * 2 ^ 32 + s.fgi F.TIM_TBnINCLO_INC n.val ≤ incHi
    · rw [tbIncWrite_of_legal hn h]
      refine (if_pos h).mpr ⟨?_, State.fgi_fsi _ _ _ _, State.fgi_fsi_ne _ _ _ _ _ _ (by decide)⟩
      rcases hn with hn | hn <;> rw [hn] <;> exact ⟨rfl, rfl⟩
    · rw [tbIncWrite_of_illegal hn h]
      exact (if_neg h).mpr ⟨rfl, State.fgi_fsi _ _ _ _⟩
  · refine (State.fgi_fsi_ne _ F.TIM_TBnWRAP_VALUE F.TIM_TBnFRAC_VALUE n.val n.val _ (by decide)).trans ?_
    rw [State.fgi_fsi]
    exact Nat.mod_eq_of_lt (Nat.mod_lt _ (by decide))
  · exact State.fgi_fsi _ _ _ _
  · rw [tb3Step_of_primary hmode hstepped hstep hsel (by omega) hpri hvalid]
    exact ⟨rfl, rfl, rfl, rfl⟩
  · obtain ⟨t, hframe, ht⟩ := frameReload_of_running h
    rw [ht, ← hframe]
    exact stepRecord_shows t.frame s.frame t
  · obtain ⟨hwrap, hnew, hpend⟩ := ppsInEdge_status cycle h
    exact ⟨hwrap, hnew, ppsInEdge_overrun cycle h, hpend⟩
  · refine (State.fgi_fsi_ne _ _ _ _ _ _ (by decide)).trans ((State.fgi_fsi _ _ _ _).trans ?_)
    exact Nat.mod_eq_of_lt v.isLt
  · exact State.fgi_fsi _ _ _ _
  · rw [ppsOutEdge_of_due hup hdue hfirst]
    exact ⟨rfl, State.fgi_fsi s F.TIM_PPSCFG_ARMED 0 0, by rw [Nat.mul_assoc]; rfl⟩
  · refine congrArg Host.Outcome.next (if_pos ?_)
    rw [hover]
    rcases hfirst with h | h <;> simp [h]
  · rw [evtCapture_of_captures (captures_of_mode h)]
    split
    · exact ⟨State.raise_pend _ _, congrArg (fun t : TimeSt => setAt t.evt n.val _) (State.raise_time s 20)⟩
    · obtain ⟨hlost, hover⟩ := lostCapture_shows (s.raise 20) n
      rw [State.raise_fgi (hf := rfl)] at hlost
      refine ⟨?_, State.raise_time s 20, hlost, hover⟩
      refine (State.pend_eq_of_fgi (s := s.raise 20) (fun w => ?_) 20).trans (State.raise_pend _ _)
      exact (State.fgi_fsi_ne _ F.EVT_LOSTn _ _ _ _ (by decide)).trans (State.fgi_setBit_ne _ _ _ _ _ _ _ (by decide))
  · exact ⟨_, congrArg Host.Outcome.next (if_pos h), congrArg id (State.raise_time _ 21), State.raise_pend _ _⟩

/-! ### The beacon (R343 to R346) -/

section
variable {s : State} {at100ps width : Nat}

/-- A difference of times is that of what the two differ by. -/
theorem tbDiff_congr {a b c d : Int} (h : a - b = c - d) : tbDiff a b = tbDiff c d := by
  unfold tbDiff
  rw [h]

/-- R344: a bit that completes no word only joins the word. -/
theorem beaconBit_of_aligned {bit : Bool} (haligned : s.time.bcn.aligned = true) (hbits : s.time.bcn.nbits < 63) :
    beaconBit at100ps bit s = s.modBcn (Beacon.shift bit) :=
  (if_pos haligned).trans (if_neg (show ¬ s.time.bcn.nbits + 1 = 64 by omega))

theorem echoBit_of_fewer {b : Beacon} {bit : Bool} (hbits : b.nbits < 63) : b.echoBit bit = b.shift bit :=
  (if_neg (show ¬ (64 ≤ b.nbits + 1 ∧ _) by omega)).trans (if_neg (show ¬ (_ ∧ b.nbits + 1 = 64) by omega))

/-- R344: once a follower has acquired the beacon, the offset `e` that an edge measures is kept. -/
def beaconMeasured (e : Int) (s : State) : State :=
  if s.flag F.TIM_BCNSTAT_ACQ then (s.fs F.TIM_BCNOFF_OFFSET (offReg e)).modBcn fun b => { b with offset := e } else s

theorem beaconMeasured_bcn (e : Int) (s : State) : ∃ o, (beaconMeasured e s).time.bcn = { s.time.bcn with offset := o } := by
  unfold beaconMeasured
  split
  · exact ⟨e, rfl⟩
  · exact ⟨s.time.bcn.offset, rfl⟩

theorem beaconMeasured_acq (e : Int) (s : State) : (beaconMeasured e s).fg F.TIM_BCNSTAT_ACQ = s.fg F.TIM_BCNSTAT_ACQ := by
  unfold beaconMeasured
  split
  · exact State.fgi_fsi_ne s F.TIM_BCNOFF_OFFSET F.TIM_BCNSTAT_ACQ 0 0 _ (by decide)
  · rfl

theorem offReg_lt (e : Int) : offReg e < 2 ^ 32 := unsgn_lt _ _

theorem beaconMeasured_of_acquired (e : Int) (h : s.flag F.TIM_BCNSTAT_ACQ = true) :
    (beaconMeasured e s).time.bcn.offset = e ∧ (beaconMeasured e s).fg F.TIM_BCNOFF_OFFSET = offReg e := by
  unfold beaconMeasured
  rw [if_pos h]
  exact ⟨rfl, (State.fgi_fsi s F.TIM_BCNOFF_OFFSET 0 _).trans (Nat.mod_eq_of_lt (offReg_lt _))⟩

/-- An aligned word takes the bit of an edge, measured or not. -/
theorem beaconBit_measured {bit : Bool} (e : Int) (haligned : s.time.bcn.aligned = true) (hbits : s.time.bcn.nbits < 63) :
    beaconBit at100ps bit (beaconMeasured e s) = (beaconMeasured e s).modBcn (Beacon.shift bit) := by
  obtain ⟨o, hb⟩ := beaconMeasured_bcn e s
  refine beaconBit_of_aligned ?_ ?_
  · rw [hb]
    exact haligned
  · rw [hb]
    exact hbits

theorem State.modBcn_bcn (g : Beacon → Beacon) : (s.modBcn g).time.bcn = g s.time.bcn := rfl

theorem State.modBcn_fgi (g : Beacon → Beacon) (f : Fld) (i : Nat) : (s.modBcn g).fgi f i = s.fgi f i := rfl

theorem State.modBcn_regs (g : Beacon → Beacon) : (s.modBcn g).regs = s.regs := rfl

theorem State.modBcn_edgeTick (g : Beacon → Beacon) (at100 : Nat) : (s.modBcn g).edgeTick at100 = s.edgeTick at100 := rfl

theorem State.modBcn_fg (g : Beacon → Beacon) (f : Fld) : (s.modBcn g).fg f = s.fg f := rfl

theorem beaconCount_bcn (at100 : Nat) (s : State) : (beaconCount at100 s).time.bcn = { s.time.bcn with
    missed := 0, seen := true, edgeFrame := add32 s.time.bcn.edgeFrame (s.edgeSteps at100), lastEdge := s.edgeTime at100 } :=
  State.modBcn_bcn _

theorem beaconCount_fgi (at100 : Nat) (s : State) (f : Fld) (i : Nat) : (beaconCount at100 s).fgi f i = s.fgi f i :=
  State.modBcn_fgi _ f i

theorem beaconCount_regs (at100 : Nat) (s : State) : (beaconCount at100 s).regs = s.regs := State.modBcn_regs _

theorem beaconCount_edgeTick (at100 : Nat) (s : State) : (beaconCount at100 s).edgeTick at100 = s.edgeTick at100 :=
  State.modBcn_edgeTick _ at100

theorem beaconEdge_of_follower (hrole : s.fg F.TIM_BCNCFG_ROLE = 2 ∨ s.fg F.TIM_BCNCFG_ROLE = 3)
    (haligned : s.time.bcn.aligned = true) (hbits : s.time.bcn.nbits < 63) :
    beaconEdge at100ps width s = (beaconMeasured (beaconOffset at100ps (beaconCount at100ps s))
      (beaconCount at100ps s)).modBcn (Beacon.shift (decide (18 < width))) := by
  have hb := beaconCount_bcn at100ps s
  have hbit := beaconBit_measured (s := beaconCount at100ps s) (at100ps := at100ps) (bit := decide (18 < width))
    (beaconOffset at100ps (beaconCount at100ps s)) (by rw [hb]; exact haligned) (by rw [hb]; exact hbits)
  unfold beaconMeasured at hbit ⊢
  unfold beaconEdge
  rw [if_pos hrole]
  exact hbit

theorem State.modBcn_echoBit {bit : Bool} (hbits : s.time.bcn.nbits < 63) :
    s.modBcn (Beacon.echoBit bit) = s.modBcn (Beacon.shift bit) := by
  unfold State.modBcn State.modTime
  dsimp only
  rw [echoBit_of_fewer hbits]

theorem beaconEdge_of_leader (hrole : s.fg F.TIM_BCNCFG_ROLE = 1) (hbits : s.time.bcn.nbits < 63) :
    beaconEdge at100ps width s = beaconRtt at100ps ((beaconCount at100ps s).modBcn (Beacon.shift (decide (18 < width)))) := by
  unfold beaconEdge
  rw [if_neg (by omega), if_pos hrole, State.modBcn_echoBit (s := beaconCount at100ps s) (by rw [beaconCount_bcn]; exact hbits)]

theorem State.flag_congr {t : State} (f : Fld) (h : t.fgi f 0 = s.fgi f 0) : t.flag f = s.flag f := State.flagi_congr s h

theorem beaconRtt_of_unfit (haligned : s.time.bcn.aligned = true) (hfit : ¬ (0 ≤ s.roundTrip at100ps ∧ s.roundTrip at100ps < 2 ^ 20)) :
    beaconRtt at100ps s = s.modBcn fun b => { b with aligned := false, nbits := 0 } := by
  unfold beaconRtt
  dsimp only
  rw [if_neg (by rw [haligned]; decide), if_pos (by omega)]

theorem beaconRtt_of_fit (haligned : s.time.bcn.aligned = true) (hcount : s.time.bcn.rttCount < 255)
    (hfit : 0 ≤ s.roundTrip at100ps ∧ s.roundTrip at100ps < 2 ^ 20) :
    beaconRtt at100ps s = s.modBcn fun b => { b with rttSum := b.rttSum + (s.roundTrip at100ps).toNat, rttCount := b.rttCount + 1 } := by
  unfold beaconRtt
  dsimp only
  rw [if_neg (by rw [haligned]; decide), if_neg (by omega), State.modBcn_bcn]
  exact if_neg (show ¬ s.time.bcn.rttCount + 1 = 256 by omega)
/-- R345: the mean of a leader that has counted fewer than 255 edges. -/
theorem beaconRtt_shows (haligned : s.time.bcn.aligned = true) (hcount : s.time.bcn.rttCount < 255) :
    (beaconRtt at100ps s).regs = s.regs ∧
      if 0 ≤ s.roundTrip at100ps ∧ s.roundTrip at100ps < 2 ^ 20 then
        (beaconRtt at100ps s).time.bcn.rttSum = s.time.bcn.rttSum + (s.roundTrip at100ps).toNat ∧
          (beaconRtt at100ps s).time.bcn.rttCount = s.time.bcn.rttCount + 1
      else (beaconRtt at100ps s).time.bcn.rttSum = s.time.bcn.rttSum ∧
        (beaconRtt at100ps s).time.bcn.rttCount = s.time.bcn.rttCount ∧ (beaconRtt at100ps s).time.bcn.aligned = false := by
  by_cases hfit : 0 ≤ s.roundTrip at100ps ∧ s.roundTrip at100ps < 2 ^ 20
  · rw [if_pos hfit, beaconRtt_of_fit haligned hcount hfit, State.modBcn_bcn]
    exact ⟨State.modBcn_regs _, rfl, rfl⟩
  · rw [if_neg hfit, beaconRtt_of_unfit haligned hfit, State.modBcn_bcn]
    exact ⟨State.modBcn_regs _, rfl, rfl, rfl⟩

/-- R344: loss of the beacon. -/
theorem beaconLose_bcn (s : State) : (beaconLose s).time.bcn = { s.time.bcn with good := 0, aligned := false, nbits := 0 } := rfl

theorem beaconLose_valid (s : State) : (beaconLose s).fg F.TIM_BCNSTAT_VALID = 0 := by
  unfold beaconLose State.fg State.fs
  rw [State.modBcn_fgi, State.fgi_fsi_ne _ _ _ _ _ _ (by decide), State.fgi_fsi]
  rfl

theorem beaconLose_acq (s : State) : (beaconLose s).fg F.TIM_BCNSTAT_ACQ = 0 := by
  unfold beaconLose State.fg State.fs
  rw [State.modBcn_fgi, State.fgi_fsi]
  rfl

theorem beaconLose_fgi (s : State) (f : Fld) (i : Nat) (hvalid : f.id ≠ F.TIM_BCNSTAT_VALID.id) (hacq : f.id ≠ F.TIM_BCNSTAT_ACQ.id) :
    (beaconLose s).fgi f i = s.fgi f i := by
  unfold beaconLose State.fs
  rw [State.modBcn_fgi, State.fgi_fsi_ne _ _ _ _ _ _ hacq, State.fgi_fsi_ne _ _ _ _ _ _ hvalid]

/-- What a follower's edge leaves: its count, its bit and, once acquired, its offset. -/
theorem followerEdge_shows (e : Int) (t : State) (bit : Bool) :
    (((beaconMeasured e t).modBcn (Beacon.shift bit)).time.bcn.bits = (t.time.bcn.bits * 2 + b2n bit) % 2 ^ 64 ∧
      ((beaconMeasured e t).modBcn (Beacon.shift bit)).time.bcn.nbits = t.time.bcn.nbits + 1) ∧
    (((beaconMeasured e t).modBcn (Beacon.shift bit)).time.bcn.missed = t.time.bcn.missed ∧
      ((beaconMeasured e t).modBcn (Beacon.shift bit)).time.bcn.edgeFrame = t.time.bcn.edgeFrame ∧
      ((beaconMeasured e t).modBcn (Beacon.shift bit)).time.bcn.lastEdge = t.time.bcn.lastEdge) := by
  obtain ⟨o, hb⟩ := beaconMeasured_bcn e t
  rw [State.modBcn_bcn, hb]
  exact ⟨⟨rfl, rfl⟩, rfl, rfl, rfl⟩

/-- R344: the offset of an edge that has been counted. -/
theorem beaconOffset_counted : beaconOffset at100ps (beaconCount at100ps s) =
    tbDiff ((s.edgeTime at100ps : Int) - ((s.fg F.TIM_BCNSKEW_TIN * 2 ^ 32 / 100 : Nat) : Int))
      (((add32 s.time.bcn.edgeFrame (s.edgeSteps at100ps) * 1000 + bref s) * 2 ^ 32 : Nat) : Int) := by
  unfold beaconOffset
  rw [beaconCount_edgeTick, beaconCount_bcn]
  unfold State.edgeTick
  refine tbDiff_congr ?_
  push_cast
  ring

/-- R345: the round trip of an edge that a leader has counted. -/
theorem roundTrip_counted (bit : Bool) : ((beaconCount at100ps s).modBcn (Beacon.shift bit)).roundTrip at100ps =
    tbDiff ((s.edgeTime at100ps : Int) - ((s.fg F.TIM_BCNSKEW_TIN * 2 ^ 32 / 100 : Nat) : Int) - ((bref s * 2 ^ 32 : Nat) : Int))
      ((add32 s.time.bcn.edgeFrame (s.edgeSteps at100ps) * 1000 * 2 ^ 32 : Nat) : Int) * 100 / 2 ^ 32 +
      (s.fg F.TIM_BCNTRACE_TRACE : Int) := by
  unfold State.roundTrip beaconOffset
  rw [State.modBcn_bcn, State.modBcn_edgeTick, beaconCount_edgeTick, State.modBcn_fg]
  unfold Beacon.shift State.fg
  rw [beaconCount_bcn, beaconCount_fgi]
  unfold State.edgeTick State.fg
  dsimp only

end

/-- Settles O42: the edges of a follower and of a leader (`beaconEdge_of_follower`, `beaconRtt_shows`), and the loss. -/
theorem theBeacon : Obligations.TheBeacon := by
  refine ⟨fun at100ps width s hrole haligned hbits => ⟨_, rfl, ?_⟩,
    fun at100ps width s hrole haligned hbits hcount => ⟨_, rfl, ?_⟩, fun s hrole hmissed => ⟨_, rfl, ?_⟩,
    fun tin tout s => ⟨_, rfl, ?_, ?_, rfl⟩, fun at100ps width s hmay hrole hecho => congrArg Host.Outcome.next (if_pos ⟨hmay, hrole, hecho⟩),
    fun at100ps width s hmay => congrArg Host.Outcome.next (if_neg fun h => Bool.false_ne_true (hmay.symm.trans h.1))⟩
  · obtain ⟨⟨hbits', hnbits⟩, hmissed, hframe, hlast⟩ := followerEdge_shows
      (beaconOffset at100ps (beaconCount at100ps s)) (beaconCount at100ps s) (decide (18 < width))
    rw [beaconEdge_of_follower hrole haligned hbits, hbits', hnbits, hmissed, hframe, hlast, beaconCount_bcn]
    refine ⟨rfl, rfl, rfl, ?_, rfl, fun hacq => ?_, ?_⟩
    · unfold b2n
      simp only [decide_eq_true_eq]
    · have hm := beaconMeasured_of_acquired (s := beaconCount at100ps s) (beaconOffset at100ps (beaconCount at100ps s))
        ((State.flag_congr _ (beaconCount_fgi _ _ _ _)).trans hacq)
      rw [← beaconOffset_counted]
      exact hm
    · exact (beaconMeasured_acq _ _).trans (beaconCount_fgi _ _ _ _)
  · rw [beaconEdge_of_leader hrole hbits]
    obtain ⟨hregs, hmean⟩ := beaconRtt_shows (at100ps := at100ps)
      (s := (beaconCount at100ps s).modBcn (Beacon.shift (decide (18 < width))))
      (by rw [State.modBcn_bcn, beaconCount_bcn]; exact haligned) (by rw [State.modBcn_bcn, beaconCount_bcn]; exact hcount)
    rw [roundTrip_counted, State.modBcn_bcn, beaconCount_bcn] at hmean
    exact ⟨hmean, hregs.trans ((State.modBcn_regs _).trans (beaconCount_regs _ _))⟩
  · have hmiss : beaconMiss s = beaconLose (s.fs F.TIM_BCNSTAT_MISS 1) := if_pos ⟨hrole, hmissed⟩
    rw [hmiss, beaconLose_bcn]
    refine ⟨?_, beaconLose_valid _, beaconLose_acq _, rfl, rfl, rfl⟩
    exact (beaconLose_fgi _ F.TIM_BCNSTAT_MISS 0 (by decide) (by decide)).trans (State.fgi_fsi s F.TIM_BCNSTAT_MISS 0 1)
  · refine (State.fgi_fsi_ne _ F.TIM_BCNSKEW_TOUT F.TIM_BCNSKEW_TIN 0 0 _ (by decide)).trans ((State.fgi_fsi s F.TIM_BCNSKEW_TIN 0 _).trans ?_)
    exact Nat.mod_eq_of_lt tin.isLt
  · exact (State.fgi_fsi _ F.TIM_BCNSKEW_TOUT 0 _).trans (Nat.mod_eq_of_lt tout.isLt)

end Sys2Proof.Machine
end

section
/-! PROOF. The statistic clears (R4, R513): each puts its block's fields back and changes no other statistic. -/
namespace Sys2Proof.Machine

/-! ### The statistics of the device, block by block -/

def ckgStats : List Fld := [F.CKG_FRMRNG_MIN, F.CKG_FRMRNG_MAX, F.CKG_ENGHWM_CYCLES, F.CKG_ENGHWM_ENGINE]
def tidStats : List Fld := [F.TID_FIRECNT, F.TID_FIREREF, F.TID_FIREVOID, F.TID_COLLIDE]
def schStats : List Fld := [F.SCH_ADMCNT, F.SCH_PWRWAIT, F.SCH_TIDEPWR, F.SCH_POLCNT, F.SCH_BUSYCNT, F.SCH_GATEDCNT, F.SCH_DENYCNT,
  F.SCH_VOIDDEN, F.SCH_LATEFLUSH, F.SCH_CMDFLUSH, F.SCH_ADMFULL, F.SCH_BALSAT, F.SCH_PHWM_POWER, F.SCH_ADMHWM_ADMIT,
  F.SCH_ADMHWM_EXAM]
def manStats : List Fld := [F.MAN_ALLOCCNT, F.MAN_DONECNT, F.MAN_PARTCNT, F.MAN_VOIDCNT, F.MAN_ZEROCNT, F.MAN_NOROUTECNT,
  F.MAN_HOLDSKIP, F.MAN_FAILSKIP, F.MAN_OUTSKIP, F.MAN_NOSPCNT]
def morStats : List Fld := [F.MOR_SKIPGAP, F.MOR_DARKCNT, F.MOR_CLAMPCNT, F.MOR_FOLDCNT, F.MOR_SETFAIL, F.MOR_PARKCNT, F.MOR_BFSAT,
  F.MOR_ECCCOR]
def segStats : List Fld := [F.SEG_UNDCNT, F.SEG_LATEEND, F.SEG_DEFERCNT, F.SEG_TRUNCCNT, F.SEG_SPLITCNT, F.SEG_STEPCAP,
  F.SEG_FETCHHWM_FETCHES]
def pveStats : List Fld := [F.PVE_RXCNT, F.PVE_IPDROP, F.PVE_ZLENCNT, F.PVE_MALFCNT, F.PVE_OVLCNT, F.PVE_OPENDROP, F.PVE_SBYDROP,
  F.PVE_STALEDROP, F.PVE_AUTHCNT, F.PVE_REPLAYCNT, F.PVE_DUPCNT, F.PVE_RETRYHIT, F.PVE_STALECNT, F.PVE_CONFCNT, F.PVE_ACCCNT]
def timStats : List Fld := [F.TIM_SRCCNT, F.TIM_HOLDCNT, F.TIM_FARCNT, F.TIM_BCNBAD, F.TIM_PTPDROP]
def mirStats : List Fld := [F.MIR_TALLYCNT, F.MIR_TALLYMIS, F.MIR_EPCOMMIT, F.MIR_EPDISCARD, F.MIR_RECLATE, F.MIR_CRC0, F.MIR_CRC1,
  F.MIR_RETX]
def rolStats : List Fld := [F.ROL_TAKECNT, F.ROL_SWAPCNT, F.ROL_HBTMISS, F.ROL_MIRMISS, F.ROL_DUALCNT, F.ROL_FIREMISS]
def calStats : List Fld := [F.CAL_SWEEPCNT, F.CAL_ABANDCNT, F.CAL_ACCCNT, F.CAL_REJCNT, F.CAL_DISAGREE, F.CAL_STORECNT, F.CAL_STOREFAIL]
def tmpStats : List Fld := [F.TMP_WRREF, F.TMP_WARNCNT, F.TMP_BANDCNT]
def xspStats : List Fld := [F.XSP_OPCNT, F.XSP_ERRCNT]
def icuStats : List Fld := [F.ICU_SPUR, F.ICU_LOSTCNT]
def crnStats : List Fld := [F.CRN_XFERCNT, F.CRN_ERRCNT]
def mtxStats : List Fld := [F.MTX_ERRCNT, F.MTX_ECCCOR, F.MTX_ECCUNC, F.MTX_RSTCNT]
def sbiStats : List Fld := [F.SBI_ACCERR, F.SBI_PECERR]
def ckgRow : List Fld := [F.CKG_OVRCNTq]
def schRow : List Fld := [F.SCH_QHWM_DEPTH, F.SCH_QLATHWM_VALUE, F.SCH_QADM_VALUE]
def evtRow : List Fld := [F.EVT_LOSTn]
def mtxRow : List Fld := [F.MTX_WAITHWMm_CYCLES]
def drvRow : List Fld := [F.QY_DRVSAT, F.QY_RNGSAT, F.QY_MODOVL]
def lnkRow : List Fld := [F.QY_SYNCERR, F.QY_UCRCCNT, F.QY_UFNERR, F.QY_ULATE, F.QY_DCRCCNT, F.QY_ULOSSCNT, F.QY_TRAINCNT,
  F.QY_HOLDCNT, F.QY_ARRIVE_WORST]
def tchRow : List Fld := [F.QY_TRETX, F.QY_TMALF, F.QY_TCHFAIL, F.QY_TEVCNT]
def netRow : List Fld := [F.NET_RXFRM, F.NET_TXFRM, F.NET_FCSERR, F.NET_LENERR, F.NET_ADDRDROP, F.NET_VLANDROP, F.NET_CSUMERR,
  F.NET_OTHDROP, F.NET_PRXDROP, F.NET_TXDROP]

/-- The statistics of every block. -/
def statLists : List (List Fld) :=
  [ckgStats, tidStats, schStats, manStats, morStats, segStats, pveStats, timStats, mirStats, rolStats, calStats, tmpStats, xspStats,
    icuStats, crnStats, mtxStats, sbiStats, ckgRow, drvRow, lnkRow, tchRow, schRow, evtRow, mtxRow, netRow]

/-- Every statistic of the device. -/
def statFlds : List Fld := statLists.flatten

theorem statFlds_nodup : (statFlds.map Fld.id).Nodup := by decide +kernel

theorem statFlds_reset : ∀ f ∈ statFlds, ∀ i < 64, f.reset i < 2 ^ f.width := by decide +kernel

theorem subset_statFlds {l : List Fld} (h : l ∈ statLists) : l ⊆ statFlds := fun _ hf => List.mem_flatten_of_mem h hf

theorem statFlds_id_inj {f g : Fld} (hf : f ∈ statFlds) (hg : g ∈ statFlds) (h : f.id = g.id) : f = g :=
  List.inj_on_of_nodup_map statFlds_nodup hf hg h

/-! ### What clears a statistic, and what leaves it cleared -/

/-- The operation changes a statistic only by putting it back. -/
def ClearsOnly (T : State → State) : Prop :=
  ∀ s, ∀ f ∈ statFlds, ∀ i < 64, (T s).fgi f i = f.reset i ∨ (T s).fgi f i = s.fgi f i

/-- The operation puts the listed statistics back in place `i`, and changes others only in that way. -/
def ResetsStats (T : State → State) (l : List Fld) (i : Nat) : Prop :=
  ClearsOnly T ∧ ∀ s, ∀ f ∈ l, (T s).fgi f i = f.reset i

section
variable {T U : State → State} {l : List Fld} {i : Nat}

theorem ClearsOnly.comp (hU : ClearsOnly U) (hT : ClearsOnly T) : ClearsOnly fun s => U (T s) := fun s f hf i hi => by
  rcases hU (T s) f hf i hi with h | h
  · exact .inl h
  · exact h ▸ hT s f hf i hi

theorem ClearsOnly.foldl {α : Type} {V : α → State → State} (l : List α) (h : ∀ a ∈ l, ClearsOnly (V a)) :
    ClearsOnly fun s => l.foldl (fun s a => V a s) s := by
  induction l with
  | nil => exact fun s f _ i _ => .inr rfl
  | cons a l ih =>
    obtain ⟨ha, hl⟩ := List.forall_mem_cons.mp h
    exact (ih hl).comp ha

theorem ResetsStats.followed (hU : ClearsOnly U) (hT : ResetsStats T l i) (hl : l ⊆ statFlds) (hi : i < 64) :
    ResetsStats (fun s => U (T s)) l i := ⟨hU.comp hT.1, fun s f hf => by
  rcases hU (T s) f (hl hf) i hi with h | h
  · exact h
  · exact h.trans (hT.2 s f hf)⟩

theorem ResetsStats.preceded (hU : ResetsStats U l i) (hT : ClearsOnly T) : ResetsStats (fun s => U (T s)) l i :=
  ⟨hU.1.comp hT, fun s f hf => hU.2 (T s) f hf⟩

/-- One clear among many clears its statistics. -/
theorem ResetsStats.foldl {α : Type} {V : α → State → State} {xs : List α} {a : α} (ha : a ∈ xs) (hV : ResetsStats (V a) l i)
    (h : ∀ b ∈ xs, ClearsOnly (V b)) (hl : l ⊆ statFlds) (hi : i < 64) : ResetsStats (fun s => xs.foldl (fun s b => V b s) s) l i := by
  induction xs with
  | nil => cases ha
  | cons b xs ih =>
    obtain ⟨hb, hxs⟩ := List.forall_mem_cons.mp h
    rcases List.mem_cons.mp ha with rfl | ha
    · exact hV.followed (ClearsOnly.foldl xs hxs) hl hi
    · exact (ih ha hxs).preceded hb

theorem State.fgi_fresetI {f : Fld} (hf : f ∈ statFlds) (hi : i < 64) (s : State) : (s.fresetI f i).fgi f i = f.reset i :=
  (State.fgi_fsi s f i _).trans (Nat.mod_eq_of_lt (statFlds_reset f hf i hi))

theorem clearsOnly_fresetI {g : Fld} (hg : g ∈ statFlds) (hi : i < 64) : ClearsOnly fun s => s.fresetI g i := fun s f hf j hj => by
  by_cases hid : f.id = g.id
  · obtain rfl := statFlds_id_inj hf hg hid
    by_cases hij : j = i
    · subst hij
      exact .inl (State.fgi_fresetI hf hi s)
    · exact .inr (State.fgi_fsi_inst s f i j _ hij (by omega) (by omega))
  · exact .inr (State.fgi_fsi_ne s g f i j _ hid)

/-- The fields of one unit put back. -/
theorem resetsStats_fields (hl : l ⊆ statFlds) (hi : i < 64) : ResetsStats (fun s => l.foldl (fun s f => s.fresetI f i) s) l i := by
  have honly : ∀ g ∈ l, ClearsOnly fun s => s.fresetI g i := fun g hg => clearsOnly_fresetI (hl hg) hi
  refine ⟨ClearsOnly.foldl (V := fun g s => s.fresetI g i) l honly, fun s f hf => ?_⟩
  have hone : ResetsStats (fun s => s.fresetI f i) [f] i :=
    ⟨honly f hf, fun s g hg => by rw [List.mem_singleton.mp hg]; exact State.fgi_fresetI (hl hf) hi s⟩
  exact (hone.foldl (V := fun g s => s.fresetI g i) hf honly (fun g hg => by rw [List.mem_singleton.mp hg]; exact hl hf) hi).2 s f (List.mem_singleton.mpr rfl)

theorem resetsStats_all (hl : l ⊆ statFlds) : ResetsStats (fun s => s.fresetAll l) l 0 := resetsStats_fields hl (by decide)

theorem resetsStats_row {n : Nat} (hl : l ⊆ statFlds) (hn : n ≤ 64) (hi : i < n) : ResetsStats (fun s => s.fresetRow n l) l i :=
  ResetsStats.foldl (V := fun i s => l.foldl (fun s f => s.fresetI f i) s) (List.mem_range.mpr hi)
    (resetsStats_fields hl (by omega)) (fun b hb => (resetsStats_fields hl (by have := List.mem_range.mp hb; omega)).1) hl (by omega)

/-- R515: the note for the health report touches no register. -/
theorem clearsOnly_noteCleared (k : Nat) : ClearsOnly fun s => s.noteCleared k := fun _ _ _ _ _ => .inr rfl

theorem resetsStats_noted (k : Nat) (hl : l ⊆ statFlds) : ResetsStats (fun s => (s.fresetAll l).noteCleared k) l 0 :=
  (resetsStats_all hl).followed (clearsOnly_noteCleared k) hl (by decide)

end

/-! ### The clear of each block -/

theorem tidStatclr_resets : ResetsStats tidStatclr tidStats 0 := resetsStats_all (l := tidStats) (subset_statFlds (by simp [statLists]))

theorem manStatclr_resets : ResetsStats manStatclr manStats 0 := resetsStats_all (l := manStats) (subset_statFlds (by simp [statLists]))

theorem timStatclr_resets : ResetsStats timStatclr timStats 0 := resetsStats_all (l := timStats) (subset_statFlds (by simp [statLists]))

theorem rolStatclr_resets : ResetsStats rolStatclr rolStats 0 := resetsStats_all (l := rolStats) (subset_statFlds (by simp [statLists]))

theorem calStatclr_resets : ResetsStats calStatclr calStats 0 := resetsStats_all (l := calStats) (subset_statFlds (by simp [statLists]))

theorem tmpStatclr_resets : ResetsStats tmpStatclr tmpStats 0 := resetsStats_all (l := tmpStats) (subset_statFlds (by simp [statLists]))

theorem xspStatclr_resets : ResetsStats xspStatclr xspStats 0 := resetsStats_all (l := xspStats) (subset_statFlds (by simp [statLists]))

theorem icuStatclr_resets : ResetsStats icuStatclr icuStats 0 := resetsStats_all (l := icuStats) (subset_statFlds (by simp [statLists]))

theorem crnStatclr_resets : ResetsStats crnStatclr crnStats 0 := resetsStats_all (l := crnStats) (subset_statFlds (by simp [statLists]))

theorem sbiStatclr_resets : ResetsStats sbiStatclr sbiStats 0 := resetsStats_all (l := sbiStats) (subset_statFlds (by simp [statLists]))

theorem morStatclr_resets : ResetsStats morStatclr morStats 0 := resetsStats_noted (l := morStats) 2 (subset_statFlds (by simp [statLists]))

theorem segStatclr_resets : ResetsStats segStatclr segStats 0 := resetsStats_noted (l := segStats) 1 (subset_statFlds (by simp [statLists]))

theorem pveStatclr_resets : ResetsStats pveStatclr pveStats 0 := resetsStats_noted (l := pveStats) 5 (subset_statFlds (by simp [statLists]))

theorem mirStatclr_resets : ResetsStats mirStatclr mirStats 0 := resetsStats_noted (l := mirStats) 7 (subset_statFlds (by simp [statLists]))

theorem evtStatclr_resets {i : Nat} (hi : i < 4) : ResetsStats evtStatclr evtRow i :=
  resetsStats_row (l := evtRow) (subset_statFlds (by simp [statLists])) (by decide) hi

section
variable {all row : List Fld} {n i : Nat} (hall : all ⊆ statFlds) (hrow : row ⊆ statFlds) (hn : n ≤ 64)
include hall hrow hn

/-- A block with fields that stand once and a row of others. -/
theorem resetsStats_allRow (hpos : 0 < n) : ResetsStats (fun s => (s.fresetAll all).fresetRow n row) all 0 :=
  (resetsStats_all hall).followed (resetsStats_row hrow hn hpos).1 hall (by decide)

theorem resetsStats_rowOf (hi : i < n) : ResetsStats (fun s => (s.fresetAll all).fresetRow n row) row i :=
  (resetsStats_row hrow hn hi).preceded (resetsStats_all hall).1

theorem resetsStats_allRow_noted (k : Nat) (hpos : 0 < n) :
    ResetsStats (fun s => ((s.fresetAll all).fresetRow n row).noteCleared k) all 0 :=
  (resetsStats_allRow hall hrow hn hpos).followed (clearsOnly_noteCleared k) hall (by decide)

theorem resetsStats_rowOf_noted (k : Nat) (hi : i < n) :
    ResetsStats (fun s => ((s.fresetAll all).fresetRow n row).noteCleared k) row i :=
  (resetsStats_rowOf hall hrow hn hi).followed (clearsOnly_noteCleared k) hrow (by omega)

end

theorem mtxStatclr_resets : ResetsStats mtxStatclr mtxStats 0 := resetsStats_allRow (all := mtxStats) (row := mtxRow)
  (subset_statFlds (by simp [statLists])) (subset_statFlds (by simp [statLists])) (by decide) (by decide)

theorem mtxStatclr_resets_row {i : Nat} (hi : i < 11) : ResetsStats mtxStatclr mtxRow i := resetsStats_rowOf (all := mtxStats) (row := mtxRow)
  (subset_statFlds (by simp [statLists])) (subset_statFlds (by simp [statLists])) (by decide) hi

theorem ckgStatclr_resets : ResetsStats ckgStatclr ckgStats 0 := resetsStats_allRow_noted (all := ckgStats) (row := ckgRow)
  (subset_statFlds (by simp [statLists])) (subset_statFlds (by simp [statLists])) (n := 32) (by decide) 0 (by decide)

theorem ckgStatclr_resets_row {i : Nat} (hi : i < 32) : ResetsStats ckgStatclr ckgRow i :=
  resetsStats_rowOf_noted (all := ckgStats) (row := ckgRow) (subset_statFlds (by simp [statLists]))
    (subset_statFlds (by simp [statLists])) (by decide) 0 hi

theorem schStatclr_resets : ResetsStats schStatclr schStats 0 := resetsStats_allRow_noted (all := schStats) (row := schRow)
  (subset_statFlds (by simp [statLists])) (subset_statFlds (by simp [statLists])) (n := 64) (by decide) 6 (by decide)

theorem schStatclr_resets_row {i : Nat} (hi : i < 64) : ResetsStats schStatclr schRow i :=
  resetsStats_rowOf_noted (all := schStats) (row := schRow) (subset_statFlds (by simp [statLists]))
    (subset_statFlds (by simp [statLists])) (by decide) 6 hi

section
variable {q : Nat} (hq : q < 64)
include hq

theorem qyDrvStatclr_resets : ResetsStats (qyDrvStatclr q) drvRow q := resetsStats_fields (l := drvRow) (subset_statFlds (by simp [statLists])) hq

theorem qyTchStatclr_resets : ResetsStats (qyTchStatclr q) tchRow q := resetsStats_fields (l := tchRow) (subset_statFlds (by simp [statLists])) hq

theorem qyLnkStatclr_resets : ResetsStats (qyLnkStatclr q) lnkRow q :=
  (resetsStats_fields (l := lnkRow) (subset_statFlds (by simp [statLists])) hq).preceded ((clearsOnly_noteCleared 4).comp (clearsOnly_noteCleared 3))

theorem netStatclr_resets : ResetsStats (netStatclr q) netRow q := resetsStats_fields (l := netRow) (subset_statFlds (by simp [statLists])) hq

/-- The clears of one quay, in the order in which STATALL makes them. -/
theorem quayStatclr_resets : ∀ l ∈ [drvRow, lnkRow, tchRow],
    ResetsStats (fun s => qyTchStatclr q (qyLnkStatclr q (qyDrvStatclr q s))) l q := by
  have hdrv := qyDrvStatclr_resets hq
  have hlnk := qyLnkStatclr_resets hq
  have htch := qyTchStatclr_resets hq
  have hdrvRow : drvRow ⊆ statFlds := subset_statFlds (by simp [statLists])
  have hlnkRow : lnkRow ⊆ statFlds := subset_statFlds (by simp [statLists])
  intro l hl
  simp only [List.mem_cons, List.not_mem_nil, or_false] at hl
  rcases hl with rfl | rfl | rfl
  · exact (hdrv.followed hlnk.1 hdrvRow hq).followed htch.1 hdrvRow hq
  · exact (hlnk.preceded hdrv.1).followed htch.1 hlnkRow hq
  · exact (htch.preceded hlnk.1).preceded hdrv.1

end

/-! ### DBG.CTRL.STATALL (R513) -/

/-- The clears of every quay. -/
def quaysStatclr (s : State) : State := (List.range 32).foldl (fun s q => qyTchStatclr q (qyLnkStatclr q (qyDrvStatclr q s))) s

/-- The clears that STATALL makes, in its order. -/
def statOps : List (State → State) :=
  [ckgStatclr, quaysStatclr, segStatclr, morStatclr, manStatclr, schStatclr, tidStatclr, pveStatclr, timStatclr, evtStatclr, rolStatclr,
    mirStatclr, tmpStatclr, calStatclr, xspStatclr, icuStatclr, crnStatclr, mtxStatclr, netStatclr 0, netStatclr 1, sbiStatclr]

theorem statAll_eq (s : State) : statAll s = statOps.foldl (fun s T => T s) s := rfl

theorem quaysStatclr_resets {q : Nat} (hq : q < 32) {l : List Fld} (hl : l ∈ [drvRow, lnkRow, tchRow]) (hsub : l ⊆ statFlds) :
    ResetsStats quaysStatclr l q :=
  (quayStatclr_resets (by omega) l hl).foldl (V := fun q s => qyTchStatclr q (qyLnkStatclr q (qyDrvStatclr q s)))
    (List.mem_range.mpr hq) (fun b hb => (quayStatclr_resets (by have := List.mem_range.mp hb; omega) drvRow (by simp)).1) hsub (by omega)

theorem statOps_clearOnly : ∀ T ∈ statOps, ClearsOnly T := by
  have hquays : ClearsOnly quaysStatclr :=
    (quaysStatclr_resets (q := 0) (l := drvRow) (by decide) (by simp) (subset_statFlds (by simp [statLists]))).1
  have hevt := (evtStatclr_resets (i := 0) (by decide)).1
  have hnet0 := (netStatclr_resets (q := 0) (by decide)).1
  have hnet1 := (netStatclr_resets (q := 1) (by decide)).1
  unfold statOps
  simp only [List.forall_mem_cons]
  exact ⟨ckgStatclr_resets.1, hquays, segStatclr_resets.1, morStatclr_resets.1, manStatclr_resets.1, schStatclr_resets.1,
    tidStatclr_resets.1, pveStatclr_resets.1, timStatclr_resets.1, hevt, rolStatclr_resets.1, mirStatclr_resets.1,
    tmpStatclr_resets.1, calStatclr_resets.1, xspStatclr_resets.1, icuStatclr_resets.1, crnStatclr_resets.1, mtxStatclr_resets.1,
    hnet0, hnet1, sbiStatclr_resets.1, fun _ h => nomatch h⟩

/-- R513: STATALL makes every clear, and none of them undoes another. -/
theorem statAll_resets {T : State → State} {l : List Fld} {i : Nat} (h : ResetsStats T l i) (hT : T ∈ statOps) (hl : l ∈ statLists)
    (hi : i < 64) (s : State) : ∀ f ∈ l, (statAll s).fgi f i = f.reset i :=
  (ResetsStats.foldl (V := fun T : State → State => T) hT h statOps_clearOnly (subset_statFlds hl) hi).2 s

/-- Settles O22: each clear of the fabric puts its block's fields back. -/
theorem statisticClearsOfTheFabric : Obligations.StatisticClearsOfTheFabric :=
  ⟨fun s => ⟨_, rfl, morStatclr_resets.2 s⟩, fun s => ⟨_, rfl, manStatclr_resets.2 s⟩,
    fun s => ⟨_, rfl, schStatclr_resets.2 s, fun q => (schStatclr_resets_row q.isLt).2 s⟩, fun s => ⟨_, rfl, tidStatclr_resets.2 s⟩,
    fun s => ⟨_, rfl, segStatclr_resets.2 s⟩,
    fun s => ⟨_, rfl, ckgStatclr_resets.2 s, fun q => (ckgStatclr_resets_row q.isLt).2 s _ (by simp [ckgRow])⟩,
    fun q s => ⟨_, rfl, (qyDrvStatclr_resets (by omega)).2 s⟩, fun q s => ⟨_, rfl, (qyLnkStatclr_resets (by omega)).2 s⟩,
    fun q s => ⟨_, rfl, (qyTchStatclr_resets (by omega)).2 s⟩⟩

/-- The blocks whose statistics stand once, those of the fabric and the planner first. -/
def fabricBlocks : List (List Fld) := [ckgStats, tidStats, schStats, manStats, morStats, segStats]
def deviceBlocks : List (List Fld) :=
  [pveStats, timStats, mirStats, rolStats, calStats, tmpStats, xspStats, icuStats, crnStats, mtxStats, sbiStats]

theorem statAll_resets_blocks (s : State) : ∀ l ∈ fabricBlocks ++ deviceBlocks, ∀ f ∈ l, (statAll s).fg f = f.reset 0 := by
  unfold fabricBlocks deviceBlocks
  simp only [List.cons_append, List.nil_append, List.forall_mem_cons]
  refine ⟨statAll_resets ckgStatclr_resets ?_ ?_ (by decide) s, statAll_resets tidStatclr_resets ?_ ?_ (by decide) s, statAll_resets schStatclr_resets ?_ ?_ (by decide) s, statAll_resets manStatclr_resets ?_ ?_ (by decide) s, statAll_resets morStatclr_resets ?_ ?_ (by decide) s, statAll_resets segStatclr_resets ?_ ?_ (by decide) s, statAll_resets pveStatclr_resets ?_ ?_ (by decide) s, statAll_resets timStatclr_resets ?_ ?_ (by decide) s, statAll_resets mirStatclr_resets ?_ ?_ (by decide) s, statAll_resets rolStatclr_resets ?_ ?_ (by decide) s, statAll_resets calStatclr_resets ?_ ?_ (by decide) s, statAll_resets tmpStatclr_resets ?_ ?_ (by decide) s, statAll_resets xspStatclr_resets ?_ ?_ (by decide) s, statAll_resets icuStatclr_resets ?_ ?_ (by decide) s, statAll_resets crnStatclr_resets ?_ ?_ (by decide) s, statAll_resets mtxStatclr_resets ?_ ?_ (by decide) s, statAll_resets sbiStatclr_resets ?_ ?_ (by decide) s, fun _ h => nomatch h⟩
  all_goals simp [statOps, statLists]

/-- Settles O34: each clear puts its block's fields back, and STATALL makes every clear (`statAll_resets`). -/
theorem statisticClearsOfTheDevice : Obligations.StatisticClearsOfTheDevice := by
  refine ⟨fun s => ⟨_, rfl, pveStatclr_resets.2 s⟩, fun s => ⟨_, rfl, timStatclr_resets.2 s⟩,
    fun s => ⟨_, rfl, fun n => (evtStatclr_resets n.isLt).2 s _ (by simp [evtRow])⟩, fun s => ⟨_, rfl, mirStatclr_resets.2 s⟩,
    fun s => ⟨_, rfl, rolStatclr_resets.2 s⟩, fun s => ⟨_, rfl, calStatclr_resets.2 s⟩, fun s => ⟨_, rfl, tmpStatclr_resets.2 s⟩,
    fun s => ⟨_, rfl, xspStatclr_resets.2 s⟩, fun s => ⟨_, rfl, icuStatclr_resets.2 s⟩, fun s => ⟨_, rfl, crnStatclr_resets.2 s⟩,
    fun s => ⟨_, rfl, mtxStatclr_resets.2 s, fun m => (mtxStatclr_resets_row m.isLt).2 s _ (by simp [mtxRow])⟩,
    fun p s => ⟨_, rfl, (netStatclr_resets (by omega)).2 s⟩, fun s => ⟨_, rfl, sbiStatclr_resets.2 s⟩,
    fun s => ⟨_, rfl, ?_, ?_, fun q => ?_, fun q => ?_, fun n => ?_, fun m => ?_, fun p => ?_⟩⟩
  · intro f hf
    obtain ⟨l, hl, hf⟩ := List.mem_flatten.mp (show f ∈ fabricBlocks.flatten from hf)
    exact statAll_resets_blocks s l (List.mem_append_left _ hl) f hf
  · intro f hf
    obtain ⟨l, hl, hf⟩ := List.mem_flatten.mp (show f ∈ deviceBlocks.flatten from hf)
    exact statAll_resets_blocks s l (List.mem_append_right _ hl) f hf
  · change ∀ f ∈ ckgRow ++ (drvRow ++ (lnkRow ++ tchRow)), _
    have hq : ∀ l ∈ [drvRow, lnkRow, tchRow], l ∈ statLists → ∀ f ∈ l, (statAll s).fgi f q.val = f.reset q.val := fun l hl hmem =>
      statAll_resets (quaysStatclr_resets q.isLt hl (subset_statFlds hmem)) (by simp [statOps]) hmem (by omega) s
    simp only [List.forall_mem_append]
    refine ⟨statAll_resets (ckgStatclr_resets_row q.isLt) ?_ ?_ (by omega) s, hq drvRow ?_ ?_, hq lnkRow ?_ ?_, hq tchRow ?_ ?_⟩
    all_goals simp [statOps, statLists]
  · exact statAll_resets (schStatclr_resets_row q.isLt) (by simp [statOps]) (by simp [statLists]) q.isLt s
  · exact statAll_resets (evtStatclr_resets n.isLt) (by simp [statOps]) (by simp [statLists]) (by omega) s _ (by simp [evtRow])
  · exact statAll_resets (mtxStatclr_resets_row m.isLt) (by simp [statOps]) (by simp [statLists]) (by omega) s _ (by simp [mtxRow])
  · refine statAll_resets (netStatclr_resets (q := p.val) (by omega)) ?_ (by simp [statLists]) (by omega) s
    rcases p with ⟨_ | _ | p, hp⟩
    · simp [statOps]
    · simp [statOps]
    · omega

end Sys2Proof.Machine
end

section
/-! PROOF. Entry into OFF, the way out of it, self-test, the image slots and the end of STAGING (16, R410 to R437; R349). -/
namespace Sys2Proof.Machine

/-! ### Entry into OFF, whatever the supplies (R410, R524) -/

section
variable (cause : Fld) (s : State)

/-- Without VDDAON the reset leaves nothing of the AON domain but POWER. -/
theorem enterOff_of_lost (h : s.boot.supplies.getD 2 false = false) :
    enterOff cause s = (aonLost (offState s)).fs F.SYS_RSTCAUSE_POWER 1 := if_pos h

/-- What a device shows in OFF outside its registers. -/
structure State.IsOffOf (t s : State) : Prop where
  dev : t.dev = .off
  auth : t.auth = false
  supplies : t.boot.supplies = s.boot.supplies
  resetN : t.boot.resetN = s.boot.resetN
  otp : t.boot.otp = s.boot.otp
  flash : t.boot.flash = s.boot.flash
  halted : ∀ k : Fin 4, (t.sq k.val).st = .halted

theorem reset_halted (k : Fin 4) : (State.reset.sq k.val).st = .halted := by
  fin_cases k <;> rfl

theorem State.sq_congr {t u : State} (h : t.seqs = u.seqs) (k : Nat) : t.sq k = u.sq k := by
  unfold State.sq
  rw [h]

theorem enterOff_isOffOf : (enterOff cause s).IsOffOf s := by
  by_cases h : s.boot.supplies.getD 2 false = false
  · rw [enterOff_of_lost cause s h]
    exact ⟨rfl, rfl, rfl, rfl, rfl, rfl, reset_halted⟩
  · have hseen := enterOff_seen_offState cause (eq_true_of_ne_false h)
    have hboot : (enterOff cause s).boot = (offState s).boot := boot_of_seen _ _ _ hseen rfl rfl
    have hseqs : (enterOff cause s).seqs = (offState s).seqs := seqs_of_seen _ _ _ hseen rfl
    refine ⟨dev_of_seen _ _ _ hseen rfl, auth_of_seen _ _ _ hseen rfl, ?_, ?_, ?_, ?_,
      fun k => (congrArg Seq.st (State.sq_congr hseqs k.val)).trans (reset_halted k)⟩
    all_goals rw [hboot]; rfl

end

section
variable {cause : Fld} {s : State}

/-- R410: with VDDAON good the cause shows beside what the AON domain held; without it POWER shows. -/
theorem enterOff_shows (hw : 1 ≤ cause.width) : if s.boot.supplies.getD 2 false = true then
      (enterOff cause s).fg cause = 1 ∧
        ∀ f ∈ aonFlds, f.id ∉ [F.DBG_LASTSAFE_AUTO.id, cause.id] → (enterOff cause s).fg f = s.fg f
    else (enterOff cause s).fg F.SYS_RSTCAUSE_POWER = 1 := by
  split
  · rename_i h
    refine ⟨(enterOff_cause cause h).trans (Nat.mod_eq_of_lt (Nat.one_lt_two_pow (by omega))), fun f hf hid => ?_⟩
    simp only [List.mem_cons, List.not_mem_nil, or_false, not_or] at hid
    exact enterOff_fg_kept cause h f hf hid.1 hid.2
  · rename_i h
    rw [enterOff_of_lost cause s (eq_false_of_ne_true h)]
    exact State.fg_fs _ _ _

end

section
variable (n : Nat) (s : State)

theorem supplyChange_good :
    supplyChange n true s = { s with boot := { s.boot with supplies := setAt s.boot.supplies n true } } := by
  unfold supplyChange State.when
  rw [if_pos rfl, Bool.not_true, Bool.and_false]
  rfl

/-- A supply that stops being good leads to OFF from the state with that supply bad; the TAP alone may have lost its state too. -/
theorem supplyChange_bad : ∃ u : State, supplyChange n false s = enterOff F.SYS_RSTCAUSE_POWER u ∧
    u.boot = { s.boot with supplies := setAt s.boot.supplies n false } ∧ u.regs = s.regs := by
  unfold supplyChange
  rw [if_neg Bool.false_ne_true]
  refine ⟨_, rfl, ?_, ?_⟩
  all_goals unfold State.when; split <;> rfl

theorem State.fgi_congr {t u : State} (h : t.regs = u.regs) (f : Fld) (i : Nat) : t.fgi f i = u.fgi f i := by
  unfold State.fgi
  rw [h]

end

/-- Settles O12: a supply, the pin and SWRST enter OFF alike (`enterOff_isOffOf`, `enterOff_shows`). -/
theorem entryIntoOff : Obligations.EntryIntoOff := by
  refine ⟨fun n s => ?_, fun n s => ⟨_, rfl, ?_⟩, fun s => ⟨_, rfl, ?_⟩, fun s => ⟨_, rfl, ?_⟩⟩
  · exact congrArg Host.Outcome.next (supplyChange_good n.val s)
  · obtain ⟨u, hu, hboot, hregs⟩ := supplyChange_bad n.val s
    have hfg : ∀ f, u.fg f = s.fg f := fun f => State.fgi_congr hregs f 0
    obtain ⟨hdev, hauth, hsup, -, hotp, hflash, hseqs⟩ := enterOff_isOffOf F.SYS_RSTCAUSE_POWER u
    have hshows := enterOff_shows (cause := F.SYS_RSTCAUSE_POWER) (s := u) (by decide)
    rw [hboot] at hsup hotp hflash hshows
    simp only [hfg] at hshows
    rw [hu]
    refine ⟨hdev, hauth, hsup, ?_, hotp, hflash, hseqs, fun hgood => ?_⟩
    · split at hshows
      · exact hshows.1
      · exact hshows
    · rw [if_pos hgood] at hshows
      exact hshows.2
  · obtain ⟨hdev, hauth, -, hresetN, hotp, hflash, hseqs⟩ :=
      enterOff_isOffOf F.SYS_RSTCAUSE_PIN { s with boot := { s.boot with resetN := false } }
    exact ⟨hdev, hauth, hresetN, hotp, hflash, hseqs, enterOff_shows (cause := F.SYS_RSTCAUSE_PIN)
      (s := { s with boot := { s.boot with resetN := false } }) (by decide)⟩
  · obtain ⟨hdev, hauth, -, -, hotp, hflash, hseqs⟩ := enterOff_isOffOf F.SYS_RSTCAUSE_SOFT s
    exact ⟨hdev, hauth, hotp, hflash, hseqs, enterOff_shows (cause := F.SYS_RSTCAUSE_SOFT) (by decide)⟩

/-! ### The roles that a device takes (R349, R376) -/

/-- What the change of role writes of the beacon and of the sources of TB3 (R376). -/
def roleFlds : List Fld := [F.TIM_BCNCFG_RELAY, F.TIM_BCNCFG_ROLE, F.TIM_T3CFG_PRI, F.TIM_T3CFG_SEC]

section
variable (d : DevState) (s : State)

/-- R349: the state that a device takes as it begins to hold authority, before the bundles, the tables and the beacon follow. -/
def heldAs : State :=
  (({ s with dev := d, auth := true } : State).fs F.ROL_STAT_READY 0).modMir fun x =>
    { x with dualRun := 0, yieldDue := false, joinEnd := none }

theorem holdAuthority_seen_heldAs : State.seen ⟨[.fab, .tide], false, roleFlds⟩ (holdAuthority d s) =
    State.seen ⟨[.fab, .tide], false, roleFlds⟩ (heldAs d s) :=
  (tideAutoDue_seen _ _ rfl).trans ((bcnRoles_seen _ _ rfl).trans (foldl_seen _ _ _ _ fun s b => State.modBun_seen _ s b _ rfl))

@[simp] theorem holdAuthority_dev : (holdAuthority d s).dev = d := dev_of_seen _ _ _ (holdAuthority_seen_heldAs d s) rfl

@[simp] theorem holdAuthority_auth : (holdAuthority d s).auth = true := auth_of_seen _ _ _ (holdAuthority_seen_heldAs d s) rfl

theorem holdAuthority_mir : (holdAuthority d s).mir = { s.mir with dualRun := 0, yieldDue := false, joinEnd := none } :=
  mir_of_seen _ _ _ (holdAuthority_seen_heldAs d s) rfl

theorem holdAuthority_fgi (f : Fld) (i : Nat) (hrole : (Extent.mk [.fab, .tide] false roleFlds).r f = false)
    (hready : f.id ≠ F.ROL_STAT_READY.id) : (holdAuthority d s).fgi f i = s.fgi f i :=
  (State.fgi_of_seen _ _ _ f i (holdAuthority_seen_heldAs d s) hrole).trans (State.fgi_fsi_ne _ F.ROL_STAT_READY f 0 i 0 hready)

/-- R368, R372: the state that a device takes as it enters STANDBY, before the bundles and the beacon follow. -/
def standingBy : State :=
  let s := { s with dev := .standby, auth := false }
  let s := { s with port := { s.port with health := { s.port.health with stCount := 0, stFail := 0 } } }
  let s := ((s.fs F.ROL_STAT_READY 0).fs F.MIR_STAT_JOINED 0).fs F.MIR_STAT_SYNC 0
  (authLanes none s).modMir fun x =>
    { x with
      joinWanted := true, wanted := false, asked := false, epoch := none, epOut := none, streamIn := none, streamQ := [], loss := false
      history := [], own := [], theirs := [], objs := [], fires := [], dualRun := 0, yieldDue := false, joinEnd := none }

theorem enterStandby_seen_standingBy : State.seen ⟨[.fab], false, roleFlds⟩ (enterStandby s) =
    State.seen ⟨[.fab], false, roleFlds⟩ (standingBy s) :=
  (bcnRoles_seen _ _ rfl).trans (foldl_seen _ _ _ _ fun s b => unsync_seen _ b s rfl)

@[simp] theorem enterStandby_dev : (enterStandby s).dev = .standby := dev_of_seen _ _ _ (enterStandby_seen_standingBy s) rfl

@[simp] theorem enterStandby_auth : (enterStandby s).auth = false := auth_of_seen _ _ _ (enterStandby_seen_standingBy s) rfl

theorem enterStandby_mir : (enterStandby s).mir = (standingBy s).mir := mir_of_seen _ _ _ (enterStandby_seen_standingBy s) rfl

theorem enterStandby_fgi (f : Fld) (i : Nat) (hrole : (Extent.mk [.fab] false roleFlds).r f = false)
    (hready : f.id ≠ F.ROL_STAT_READY.id) (hjoined : f.id ≠ F.MIR_STAT_JOINED.id) (hsync : f.id ≠ F.MIR_STAT_SYNC.id) :
    (enterStandby s).fgi f i = s.fgi f i := by
  rw [State.fgi_of_seen _ _ _ f i (enterStandby_seen_standingBy s) hrole]
  refine (State.fgi_fsi_ne _ F.MIR_STAT_SYNC f 0 i 0 hsync).trans ?_
  exact (State.fgi_fsi_ne _ F.MIR_STAT_JOINED f 0 i 0 hjoined).trans (State.fgi_fsi_ne _ F.ROL_STAT_READY f 0 i 0 hready)

theorem enterStandby_ready : (enterStandby s).fg F.ROL_STAT_READY = 0 := by
  refine (State.fgi_of_seen _ _ _ _ 0 (enterStandby_seen_standingBy s) rfl).trans ?_
  refine (State.fgi_fsi_ne _ F.MIR_STAT_SYNC F.ROL_STAT_READY 0 0 0 (by decide)).trans ?_
  exact (State.fgi_fsi_ne _ F.MIR_STAT_JOINED F.ROL_STAT_READY 0 0 0 (by decide)).trans (State.fgi_fsi _ F.ROL_STAT_READY 0 0)

end

/-! ### The end of STAGING (R349, R436) -/

/-- R349: whatever the device becomes, the register that the end of STAGING wrote stays. -/
theorem stagingEnds_fgi (s : State) : (stagingEnds s).fgi F.SYS_STGEND_FRAME 0 = s.fgi F.SYS_STGEND_FRAME 0 := by
  unfold stagingEnds
  split
  · exact holdAuthority_fgi _ _ _ _ rfl (by decide)
  split
  · exact enterStandby_fgi _ _ _ rfl (by decide) (by decide) (by decide)
  split
  · exact holdAuthority_fgi _ _ _ _ rfl (by decide)
  · rfl

/-- R349: what a device becomes as STAGING ends. -/
theorem stagingEnds_becomes (s : State) :
    if s.flag F.ROL_CFG_PAIRED = false then (stagingEnds s).dev = .solo ∧ (stagingEnds s).auth = true
    else if s.actAsserted = true then
      (stagingEnds s).dev = .standby ∧ (stagingEnds s).auth = false ∧ (stagingEnds s).fg F.ROL_STAT_READY = 0
    else if s.flag F.SYS_STRAP_SENIOR = true then (stagingEnds s).dev = .solo ∧ (stagingEnds s).auth = true
    else (stagingEnds s).dev = s.dev ∧
      (stagingEnds s).mir.joinEnd = some (add32 s.coming (1024 * Nat.max 1 (s.fg F.ROL_CFG_JOINWAIT))) := by
  unfold stagingEnds
  split
  · exact ⟨holdAuthority_dev _ _, holdAuthority_auth _ _⟩
  split
  · exact ⟨enterStandby_dev _, enterStandby_auth _, enterStandby_ready _⟩
  split
  · exact ⟨holdAuthority_dev _ _, holdAuthority_auth _ _⟩
  · exact ⟨rfl, rfl⟩

theorem stagingEnd_of_over {s : State} (hdev : s.dev = .staging) (hjoin : s.mir.joinEnd = none) (hover : s.stagingOver = true) :
    stagingEnd s = stagingEnds (s.fs F.SYS_STGEND_FRAME s.coming) := if_pos ⟨hdev, hjoin, hover⟩

theorem joinExpiry_of_over {s : State} {e : Nat} (hjoin : s.mir.joinEnd = some e) (hdev : s.dev = .staging)
    (hact : s.actAsserted = false) (hend : notBefore s.coming e = true) : joinExpiry s = becomeSolo s := by
  unfold joinExpiry
  rw [hjoin]
  exact if_pos ⟨hdev, hact, hend⟩

/-- Settles O15: `stagingEnds_becomes` on the state with SYS.STGEND written, and the wait's end (`joinExpiry_of_over`). -/
theorem endOfStaging : Obligations.EndOfStaging := by
  refine ⟨fun s hdev hjoin hover => ⟨_, rfl, ?_⟩, fun s e hjoin hdev hact hend => ⟨_, rfl, ?_⟩⟩
  · have hread : ∀ f : Fld, f.id ≠ F.SYS_STGEND_FRAME.id → (s.fs F.SYS_STGEND_FRAME s.coming).fg f = s.fg f := fun f hf =>
      State.fgi_fsi_ne s F.SYS_STGEND_FRAME f 0 0 s.coming hf
    have hflag : ∀ f : Fld, f.id ≠ F.SYS_STGEND_FRAME.id → (s.fs F.SYS_STGEND_FRAME s.coming).flag f = s.flag f := fun f hf =>
      State.flag_congr f (hread f hf)
    have hbecomes := stagingEnds_becomes (s.fs F.SYS_STGEND_FRAME s.coming)
    rw [hflag _ (by decide), hflag _ (by decide), hread F.ROL_CFG_JOINWAIT (by decide)] at hbecomes
    rw [stagingEnd_of_over hdev hjoin hover]
    refine ⟨(stagingEnds_fgi _).trans (State.fgi_fsi s F.SYS_STGEND_FRAME 0 _), ?_⟩
    rw [← hdev]
    exact hbecomes
  · rw [joinExpiry_of_over hjoin hdev hact hend]
    exact ⟨holdAuthority_dev _ _, holdAuthority_auth _ _, congrArg MirSt.joinEnd (holdAuthority_mir _ _)⟩

/-! ### What an entry of the fault log changes (R508, R509) -/

section
variable {s : State}

theorem FaultLog.write_started (l : FaultLog) (e : FaultEntry) : (l.write e).started = l.started := by
  unfold FaultLog.write
  split
  · split <;> rfl
  · rfl

theorem FaultLog.put_started (l : FaultLog) (e : FaultEntry) : (l.put e).started = l.started := by
  unfold FaultLog.put
  split
  · exact l.write_started e
  · split <;> rfl

theorem State.logEntry_eq (e : FaultEntry) : ∃ h, s.logEntry e =
    { s with log := s.log.put e, port := { s.port with health := h } } := by
  unfold State.logEntry
  dsimp only
  split_ifs
  · exact ⟨_, rfl⟩
  · exact ⟨s.port.health, rfl⟩

theorem State.classBit_eq (u : State) (sev b : Nat) : ∃ r, (if 1 ≤ sev then u.setBit F.DBG_FLTSTAT_CLASS 0 b true else u) =
    { u with regs := r } := by
  split
  · exact ⟨_, rfl⟩
  · exact ⟨u.regs, rfl⟩

/-- Beside the class bit an entry changes the log and the health report alone. -/
theorem State.logFault_eq (code index detail : Nat) : ∃ r l h, l.started = s.log.started ∧
    s.logFault code index detail = { s with regs := r, log := l, port := { s.port with health := h } } := by
  unfold State.logFault State.logSev
  dsimp only
  cases s.log.cycle with
  | none =>
    obtain ⟨h, hentry⟩ := State.logEntry_eq (s := s) ⟨code, faultSev code, 0, index, detail % 65536, s.frame, s.tb3Ns⟩
    dsimp only
    rw [hentry]
    obtain ⟨r, hr⟩ := State.classBit_eq _ (faultSev code) (code / 4096)
    exact ⟨r, _, h, s.log.put_started _, hr⟩
  | some l =>
    obtain ⟨r, hr⟩ := State.classBit_eq _ (faultSev code) (code / 4096)
    exact ⟨r, { s.log with cycle := some (l ++ [⟨code, faultSev code, 0, index, detail % 65536, s.frame, s.tb3Ns⟩]) },
      s.port.health, rfl, hr⟩

end

/-! ### From OFF to BOOT (R410, R432) -/

/-- The state differs from another in the registers, the log and the health report alone. -/
def State.NotesOf (t s : State) : Prop := ∃ r l h, t = { s with regs := r, log := l, port := { s.port with health := h } }

section
variable {s t u : State}

theorem State.NotesOf.refl (s : State) : s.NotesOf s := ⟨s.regs, s.log, s.port.health, rfl⟩

theorem State.NotesOf.trans (hut : u.NotesOf t) (hts : t.NotesOf s) : u.NotesOf s := by
  obtain ⟨r, l, h, rfl⟩ := hts
  obtain ⟨r', l', h', rfl⟩ := hut
  exact ⟨r', l', h', rfl⟩

theorem State.NotesOf.when {g : State → State} (hg : ∀ s, (g s).NotesOf s) (b : Bool) (s : State) : (s.when b g).NotesOf s := by
  cases b
  · exact .refl s
  · exact hg s

theorem State.notesOf_fs (f : Fld) (v : Nat) (s : State) : (s.fs f v).NotesOf s := ⟨_, s.log, s.port.health, rfl⟩

theorem State.notesOf_logFault (code index detail : Nat) (s : State) : (s.logFault code index detail).NotesOf s := by
  obtain ⟨r, l, h, -, heq⟩ := State.logFault_eq (s := s) code index detail
  exact ⟨r, l, h, heq⟩

theorem State.when_fgi {g : State → State} {f : Fld} {i : Nat} (hg : ∀ s, (g s).fgi f i = s.fgi f i) (b : Bool) (s : State) :
    (s.when b g).fgi f i = s.fgi f i := by
  cases b
  · rfl
  · exact hg s

end

/-- R290, R388, R410, R428: the straps, the SMBus address, the trims and the shadows of the OTP as BOOT begins. -/
def bootBegun (senior fmode : Bool) (s : State) : State :=
  let s := ((s.fb F.SYS_STRAP_SENIOR senior).fb F.SYS_STRAP_FMODE fmode).fs F.SBI_CFG_ADDR (0x5A + b2n senior)
  { loadTrims s with dev := .boot }.modBoot fun b => { b with resetN := true, shadow := b.otp, keys := usableKeys b.otp, step := .plls }

/-- What the end of OFF notes: a shutdown that led there, and that no key is provisioned. -/
def offNoted (s : State) : State :=
  let s := s.when (s.flag F.TMP_AONSTAT_SHUTDN) fun s => s.logFault 0x2005 noIndex 0
  s.when s.unprovisioned fun s => s.fs F.SYS_BOOTSTAT_UNPROV 1

/-- R432: the shadows of the OTP are ready. -/
def otpReady (s : State) : State := (s.fs F.OTP_STAT_READY 1).fs F.SYS_IMGSVN_OTP s.svnCount

section
variable {s : State}

theorem offNoted_fgi (f : Fld) (i : Nat) (hclass : f.id ≠ F.DBG_FLTSTAT_CLASS.id) (hunprov : f.id ≠ F.SYS_BOOTSTAT_UNPROV.id) :
    (offNoted s).fgi f i = s.fgi f i := by
  unfold offNoted
  dsimp only
  refine (State.when_fgi (fun t => State.fgi_fsi_ne t F.SYS_BOOTSTAT_UNPROV f 0 i 1 hunprov) _ _).trans ?_
  exact State.when_fgi (fun t => State.logFault_fgi t _ _ _ f i hclass) _ _

theorem offNoted_notesOf (s : State) : (offNoted s).NotesOf s :=
  (State.NotesOf.when (State.notesOf_fs _ _) _ _).trans (State.NotesOf.when (State.notesOf_logFault _ _ _) _ _)

theorem macResume_of_none (h : s.port.sbi.macWait = none) : macResume s = s := by
  unfold macResume
  rw [h]

theorem leaveOff_of_sound {senior fmode : Bool} (hmay : s.mayLeaveOff = true) :
    leaveOff senior fmode false s = macResume (otpReady (offNoted (bootBegun senior fmode s))) := by
  unfold leaveOff
  rw [if_pos hmay]
  rfl

theorem otpReady_notesOf (s : State) : (otpReady s).NotesOf s := (State.notesOf_fs _ _ _).trans (State.notesOf_fs _ _ s)

/-- What a field that the end of OFF does not note shows in BOOT is what BOOT began with. -/
theorem leftOff_fgi (f : Fld) (hclass : f.id ≠ F.DBG_FLTSTAT_CLASS.id) (hunprov : f.id ≠ F.SYS_BOOTSTAT_UNPROV.id)
    (hready : f.id ≠ F.OTP_STAT_READY.id) (hsvn : f.id ≠ F.SYS_IMGSVN_OTP.id) : (otpReady (offNoted s)).fg f = s.fg f := by
  unfold otpReady
  exact (State.fg_fs_ne _ _ hsvn).trans ((State.fg_fs_ne _ _ hready).trans (offNoted_fgi f 0 hclass hunprov))

theorem bootBegun_straps (senior fmode : Bool) : (bootBegun senior fmode s).fg F.SYS_STRAP_SENIOR = b2n senior ∧
    (bootBegun senior fmode s).fg F.SYS_STRAP_FMODE = b2n fmode ∧ (bootBegun senior fmode s).fg F.SBI_CFG_ADDR = 0x5A + b2n senior := by
  refine ⟨?_, ?_, ?_⟩
  · refine (State.fg_fs_ne (f := F.SBI_CFG_ADDR) (g := F.SYS_STRAP_SENIOR) _ _ (by decide)).trans ?_
    refine (State.fg_fs_ne (f := F.SYS_STRAP_FMODE) (g := F.SYS_STRAP_SENIOR) _ _ (by decide)).trans ((State.fg_fs s _ _).trans ?_)
    cases senior <;> rfl
  · refine (State.fg_fs_ne (f := F.SBI_CFG_ADDR) (g := F.SYS_STRAP_FMODE) _ _ (by decide)).trans ((State.fg_fs _ _ _).trans ?_)
    cases fmode <;> rfl
  · refine (State.fg_fs _ F.SBI_CFG_ADDR _).trans ?_
    cases senior <;> rfl

/-- R410: outside what BOOT sets up, LEAVE_OFF notes and changes nothing else. -/
theorem State.NotesOf.shows {s t : State} (h : t.NotesOf s) : t.dev = s.dev ∧ t.boot = s.boot ∧ t.port.sbi = s.port.sbi ∧
    ∀ u : State, { t with dev := u.dev, regs := u.regs, boot := u.boot, cal := u.cal, log := u.log, port := { t.port with health := u.port.health } } =
      { s with dev := u.dev, regs := u.regs, boot := u.boot, cal := u.cal, log := u.log, port := { s.port with health := u.port.health } } := by
  obtain ⟨r, l, h, rfl⟩ := h
  exact ⟨rfl, rfl, rfl, fun u => rfl⟩

end

/-! ### The PLLs (R54, R412) and boot failure (R431) -/

section
variable {s : State}

/-- R431: what boot failure records before the device enters SAFE. -/
def failNoted (cause : Nat) (s : State) : State := (s.fs F.SYS_BOOTSTAT_SLOT 2).fs F.SYS_BOOTSTAT_FAIL cause

/-- R431: a device whose BOOT has failed is in SAFE. -/
theorem bootFail_eq (cause : Nat) (s : State) : ∃ x : Fatal, x.code = 0xA001 ∧
    bootFail cause s = (enterSafe [x] (failNoted cause s)).modBoot fun b => { b with step := .failed, tries := [] } := ⟨_, rfl, rfl⟩

theorem failNoted_boot (cause : Nat) (s : State) : (failNoted cause s).boot = s.boot := rfl

theorem bootFail_dev (cause : Nat) (s : State) : (bootFail cause s).dev = .safe := by
  obtain ⟨x, -, h⟩ := bootFail_eq cause s
  rw [h, State.modBoot_dev, enterSafe_dev]

theorem bootFail_boot (cause : Nat) (s : State) :
    (bootFail cause s).boot = { s.boot with pll := [false, false, false], step := .failed, tries := [] } := by
  obtain ⟨x, -, h⟩ := bootFail_eq cause s
  rw [h, State.modBoot_boot, enterSafe_boot, failNoted_boot]

theorem bootFail_code (cause : Nat) (s : State) : (bootFail cause s).fg F.DBG_LASTSAFE_CODE = 0xA001 := by
  obtain ⟨x, hcode, h⟩ := bootFail_eq cause s
  rw [h]
  refine (enterSafe_code (failNoted cause s) x).trans ?_
  rw [hcode]
  rfl

/-- Outside what SAFE stops, the registers are as boot failure noted them. -/
theorem bootFail_fgi_noted (cause : Nat) (s : State) (f : Fld) (i : Nat) (hf : (extentOf .thermalTrip).r f = false) :
    (bootFail cause s).fgi f i = (failNoted cause s).fgi f i := by
  obtain ⟨x, -, h⟩ := bootFail_eq cause s
  rw [h, State.modBoot_fgi, enterSafe_fgi _ _ _ _ hf]

theorem bootFail_fail (cause : Nat) (s : State) : (bootFail cause s).fg F.SYS_BOOTSTAT_FAIL = cause % 2 ^ 4 :=
  (bootFail_fgi_noted cause s _ 0 (by decide)).trans (State.fg_fs _ F.SYS_BOOTSTAT_FAIL _)

theorem bootFail_slot (cause : Nat) (s : State) : (bootFail cause s).fg F.SYS_BOOTSTAT_SLOT = 2 :=
  (bootFail_fgi_noted cause s _ 0 (by decide)).trans
    ((State.fg_fs_ne (f := F.SYS_BOOTSTAT_FAIL) _ _ (by decide)).trans (State.fg_fs s F.SYS_BOOTSTAT_SLOT 2))

theorem bootFail_fgi (cause : Nat) (s : State) (f : Fld) (i : Nat) (hf : (extentOf .thermalTrip).r f = false)
    (hslot : f.id ≠ F.SYS_BOOTSTAT_SLOT.id) (hfail : f.id ≠ F.SYS_BOOTSTAT_FAIL.id) : (bootFail cause s).fgi f i = s.fgi f i :=
  (bootFail_fgi_noted cause s f i hf).trans
    ((State.fgi_fsi_ne _ F.SYS_BOOTSTAT_FAIL f 0 i cause hfail).trans (State.fgi_fsi_ne s F.SYS_BOOTSTAT_SLOT f 0 i 2 hslot))

/-- R412: a PLL in lock, with the start of the time bases at PLL0's. -/
def pllLocked (p : Nat) (s : State) : State :=
  let s := (s.fs (pllFlds p).1 1).modBoot fun b => { b with pll := setAt b.pll p true }
  if p = 0 then { s.modTime fun t => { t with t := [0, 0, 0, 0] } with frame := 0 } else s

theorem pllLock_of_plls {p : Nat} (hdev : s.dev = .boot) (hstep : s.boot.step = .plls) (hlock : s.flag (pllFlds p).1 = false) :
    pllLock p s = if (setAt s.boot.pll p true).all (fun b => b) = true then
      (pllLocked p s).modBoot fun b => { b with step := .selftest } else pllLocked p s := by
  have hclk : s.clocked = true := by
    unfold State.clocked
    rw [hdev]
    simp
  have hpll : (pllLocked p s).boot.pll = setAt s.boot.pll p true := by
    unfold pllLocked
    split <;> rfl
  unfold pllLock
  rw [hclk, hlock, ← hpll]
  exact (if_pos rfl).trans (if_pos ⟨hdev, hstep⟩)

theorem pllTimeout_of_plls (hdev : s.dev = .boot) (hstep : s.boot.step = .plls) : pllTimeout s = bootFail 2 s :=
  if_pos ⟨hdev, hstep⟩

theorem pllLocked_shows (p : Fin 3) : (pllLocked p.val s).fg (pllFlds p.val).1 = 1 ∧
    (pllLocked p.val s).boot = { s.boot with pll := setAt s.boot.pll p.val true } ∧
    if p = 0 then (pllLocked p.val s).frame = 0 ∧ (pllLocked p.val s).time.t = [0, 0, 0, 0]
    else (pllLocked p.val s).frame = s.frame ∧ (pllLocked p.val s).time = s.time := by
  have hlock : (s.fs (pllFlds p.val).1 1).fgi (pllFlds p.val).1 0 = 1 := by
    refine (State.fgi_fsi s _ 0 1).trans ?_
    fin_cases p <;> rfl
  unfold pllLocked
  by_cases hp : p = 0
  · subst hp
    exact ⟨hlock, rfl, rfl, rfl⟩
  · have hval : p.val ≠ 0 := fun h => hp (Fin.ext h)
    dsimp only
    rw [if_neg hval, if_neg hp]
    exact ⟨hlock, rfl, rfl, rfl⟩

end

/-- Settles O13: LEAVE_OFF notes and sets up BOOT (`leaveOff_of_sound`); a lock and its absence (`pllLock_of_plls`). -/
theorem leavingOffAndThePlls : Obligations.LeavingOffAndThePlls := by
  refine ⟨fun senior fmode s hmay hwait => ⟨_, rfl, ?_⟩, fun p s hdev hstep hlock => ⟨_, rfl, ?_⟩, fun s hdev hstep => ⟨_, rfl, ?_⟩⟩
  · have hnotes := (otpReady_notesOf (offNoted (bootBegun senior fmode s))).trans (offNoted_notesOf _)
    obtain ⟨hdev, hboot, hsbi, hrest⟩ := hnotes.shows
    obtain ⟨hsenior, hfmode, haddr⟩ := bootBegun_straps (s := s) senior fmode
    rw [leaveOff_of_sound hmay, macResume_of_none ((congrArg SbiSt.macWait hsbi).trans hwait), hdev, hboot, hrest s]
    refine ⟨rfl, rfl, rfl, rfl, ?_, ?_, ?_, ?_, rfl⟩
    · exact (State.fg_fs_ne (f := F.SYS_IMGSVN_OTP) (g := F.OTP_STAT_READY) _ _ (by decide)).trans (State.fg_fs _ _ _)
    · exact (leftOff_fgi _ (by decide) (by decide) (by decide) (by decide)).trans hsenior
    · exact (leftOff_fgi _ (by decide) (by decide) (by decide) (by decide)).trans hfmode
    · exact (leftOff_fgi _ (by decide) (by decide) (by decide) (by decide)).trans haddr
  · obtain ⟨hfld, hboot, hbase⟩ := pllLocked_shows (s := s) p
    rw [pllLock_of_plls hdev hstep hlock]
    split
    · exact ⟨hfld, congrArg BootSt.pll hboot, hbase, rfl⟩
    · exact ⟨hfld, congrArg BootSt.pll hboot, hbase, (congrArg BootSt.step hboot).trans hstep⟩
  · rw [pllTimeout_of_plls hdev hstep, bootFail_dev, bootFail_boot]
    exact ⟨rfl, rfl, bootFail_fail 2 s, bootFail_slot 2 s, bootFail_code 2 s⟩

end Sys2Proof.Machine
end

section
/-! PROOF. Self-test and the tries of image slots (R413, R427 to R431, R435). -/
namespace Sys2Proof.Machine

/-! ### Self-test (R413) -/

section
variable (r : SelfTest) (s : State)

theorem selfOutcomes_bistq : (selfOutcomes r s).fg F.SYS_BISTQ_QY = r.quays.toNat := by
  unfold selfOutcomes
  refine (State.when_fgi (fun t => State.fgi_fsi_ne t F.PVE_STAT_RNGFAIL F.SYS_BISTQ_QY 0 0 1 (by decide)) _ _).trans ?_
  exact (State.fgi_fsi _ F.SYS_BISTQ_QY 0 _).trans (Nat.mod_eq_of_lt r.quays.isLt)

theorem selfOutcomes_rngfail (h : r.entropyOk = false) : (selfOutcomes r s).fg F.PVE_STAT_RNGFAIL = 1 := by
  unfold selfOutcomes State.when
  rw [h]
  exact State.fgi_fsi _ F.PVE_STAT_RNGFAIL 0 1

theorem selfTest_boot : (selfOutcomes r (logSelf r s)).boot = s.boot :=
  (boot_kept (selfOutcomes_seen _ r _ rfl)).trans (boot_kept (logSelf_seen _ r s rfl))

theorem selfTest_dev : (selfOutcomes r (logSelf r s)).dev = s.dev :=
  (dev_kept (selfOutcomes_seen _ r _ rfl)).trans (dev_kept (logSelf_seen _ r s rfl))

/-- R427, R509: the log started and table memory cleared, before the slots are looked at. -/
def imagesBegun : State := { s.modFab (fun x => { x with weakWords := [], badWords := [] }) with log := s.log.start, table := [] }

theorem imagesBegun_dev : (imagesBegun s).dev = s.dev := rfl

theorem imagesBegun_fgi (f : Fld) (i : Nat) : (imagesBegun s).fgi f i = s.fgi f i := rfl

end

section
variable {s : State}

theorem State.candidates_congr {t : State} (h : t.boot = s.boot) : t.candidates = s.candidates := by
  unfold State.candidates State.imgDesc State.flashBytes
  rw [h]

theorem imagesBegun_candidates (s : State) : (imagesBegun s).candidates = s.candidates := State.candidates_congr rfl

theorem startImages_of_none (h : s.candidates = []) : startImages s = bootFail 4 (imagesBegun s) := by
  have hc := (imagesBegun_candidates s).trans h
  unfold imagesBegun at hc ⊢
  unfold startImages
  dsimp only
  rw [hc]

theorem startImages_of_some (h : s.candidates ≠ []) :
    startImages s = (imagesBegun s).modBoot fun b => { b with step := .image, tries := s.candidates } := by
  obtain ⟨x, l, hx⟩ := List.exists_cons_of_ne_nil h
  have hc := (imagesBegun_candidates s).trans hx
  unfold imagesBegun at hc ⊢
  unfold startImages
  dsimp only
  rw [hc, hx]

end

/-! ### The log as it starts (R509) -/

theorem FaultLog.start_started (l : FaultLog) : l.start.started = true := by
  have hkeep : ∀ (es : List FaultEntry) (l : FaultLog), (es.foldl FaultLog.write l).started = l.started := fun es => by
    induction es with
    | nil => exact fun l => rfl
    | cons e es ih => exact fun l => (ih _).trans (l.write_started e)
  exact hkeep _ _

theorem FaultLog.flush_started (l : FaultLog) : l.flush.started = true := by
  unfold FaultLog.flush
  split
  · assumption
  · exact l.start_started

/-- R509: entry into SAFE starts the log where it has not started. -/
theorem enterSafe_log_started (xs : List Fatal) (s : State) : (enterSafe xs s).log.started = true := by
  have hrecord : ∀ (ys : List Fatal) (t : State), (safeRecord ys t).log = t.log := fun ys t => by
    unfold safeRecord State.when
    cases ys with
    | nil => rfl
    | cons y ys => dsimp only; split <;> rfl
  rw [enterSafe_eq, State.modPort_log, log_of_seen _ _ _ (stopping_seen _) rfl, hrecord]
  exact FaultLog.flush_started _

theorem bootFail_log_started (cause : Nat) (s : State) : (bootFail cause s).log.started = true := by
  obtain ⟨x, -, h⟩ := bootFail_eq cause s
  rw [h, State.modBoot_log]
  exact enterSafe_log_started _ _

section
variable {r : SelfTest} {s : State} (hdev : s.dev = .boot) (hstep : s.boot.step = .selftest)
include hdev hstep

theorem selfTestDone_of_bad (h : (r.tableOk && r.ramsOk && r.cryptoOk) = false) :
    selfTestDone r s = bootFail 3 (selfOutcomes r (logSelf r s)) := (if_pos ⟨hdev, hstep⟩).trans (if_pos h)

theorem selfTestDone_of_good (h : ¬ (r.tableOk && r.ramsOk && r.cryptoOk) = false) :
    selfTestDone r s = startImages (selfOutcomes r (logSelf r s)) := (if_pos ⟨hdev, hstep⟩).trans (if_neg h)

end

/-- What BOOT leaves after a self-test that it survives. -/
theorem startImages_shows (s : State) : (startImages s).log.started = true ∧
    (∀ f i, (extentOf .thermalTrip).r f = false → f.id ≠ F.SYS_BOOTSTAT_SLOT.id → f.id ≠ F.SYS_BOOTSTAT_FAIL.id →
      (startImages s).fgi f i = s.fgi f i) ∧
    if s.candidates = [] then (startImages s).dev = .safe ∧ (startImages s).fg F.SYS_BOOTSTAT_FAIL = 4
    else (startImages s).dev = s.dev ∧ (startImages s).boot.step = .image ∧ (startImages s).boot.tries = s.candidates := by
  by_cases h : s.candidates = []
  · rw [startImages_of_none h, if_pos h]
    exact ⟨bootFail_log_started _ _, fun f i hf hslot hfail =>
      (bootFail_fgi 4 _ f i hf hslot hfail).trans (imagesBegun_fgi s f i), bootFail_dev _ _, bootFail_fail 4 (imagesBegun s)⟩
  · rw [startImages_of_some h, if_neg h, State.modBoot_boot, State.modBoot_dev]
    refine ⟨FaultLog.start_started _, fun f i _ _ _ => (State.modBoot_fgi _ _ f i).trans (imagesBegun_fgi s f i),
      imagesBegun_dev s, rfl, ?_⟩
    dsimp only

/-! ### A try (R427 to R430, R435) -/

section
variable (s : State)

/-- R435: the state of a device as it enters STAGING, before its blocks start. -/
def stagingBegun : State :=
  ({ s with dev := .staging, locked := true } : State).modBoot fun b => { b with step := .done, tries := [], go := false, stagFrom := s.coming }

/-- What the blocks that start with STAGING change. -/
def Extent.starting : Extent := ⟨[.seqs, .log, .fab, .quays, .lanes, .mir, .cal, .port], false,
  [F.CAL_QSTART_QUAY, F.CAL_STAT_DIRTY, F.DBG_FLTSTAT_CLASS, F.ICU_LOSTCNT, F.ICU_OVRw_SRC, F.ICU_PENDw_SRC, F.MOR_PARKCNT,
    F.QY_DRVSTAT_AUTH, F.QY_LAUNCH_LAUNCH, F.QY_LNKSTAT_STATE, F.QY_LNKSTAT_TGEN, F.QY_LNKSTAT_TLOCK, F.QY_LNKSTAT_ULOCK]⟩

theorem enterStaging_seen_begun : State.seen .starting (enterStaging s) = State.seen .starting (stagingBegun s) := by
  have hseqs : ∀ (l : List (Nat × Nat)) (t : State), State.seen .starting (l.foldl (fun s x => seqStart x.1 s) t) =
      State.seen .starting t := fun l t => foldl_seen _ _ _ _ fun s x => seqStart_seen _ _ s rfl
  have hlanes : ∀ t : State, State.seen .starting ((List.range 32).foldl (fun s q => powerLane q s) t) = State.seen .starting t :=
    fun t => foldl_seen _ _ _ _ fun s q => powerLane_seen _ q s rfl
  unfold enterStaging
  exact (State.fs_seen _ _ _ _ rfl).trans ((mirTrain_seen _ _ rfl).trans ((hlanes _).trans (hseqs _ _)))

theorem enterStaging_dev : (enterStaging s).dev = .staging := dev_of_seen _ _ _ (enterStaging_seen_begun s) rfl

theorem enterStaging_locked : (enterStaging s).locked = true := locked_of_seen _ _ _ (enterStaging_seen_begun s) rfl

theorem enterStaging_boot : (enterStaging s).boot = (stagingBegun s).boot := boot_of_seen _ _ _ (enterStaging_seen_begun s) rfl rfl

theorem enterStaging_fgi (f : Fld) (i : Nat) (hf : Extent.starting.r f = false) : (enterStaging s).fgi f i = s.fgi f i :=
  (State.fgi_of_seen _ (stagingBegun s) _ f i (enterStaging_seen_begun s) hf).trans (State.modBoot_fgi _ _ f i)

end

/-- R427, R435: an accepted image leads to STAGING with the registers locked. -/
theorem acceptImage_shows (slot : Nat) (second unprov : Bool) (d : List Byte) (s : State) :
    (acceptImage slot second unprov d s).dev = .staging ∧ (acceptImage slot second unprov d s).locked = true ∧
      (acceptImage slot second unprov d s).boot.step = .done ∧ (acceptImage slot second unprov d s).fg F.SYS_BOOTSTAT_FAIL = 0 ∧
      (acceptImage slot second unprov d s).fg F.SYS_BOOTSTAT_SLOT = slot % 4 := by
  unfold acceptImage
  refine ⟨enterStaging_dev _, enterStaging_locked _, congrArg BootSt.step (enterStaging_boot _), ?_, ?_⟩
  all_goals
    unfold State.fg
    rw [enterStaging_fgi _ _ _ rfl, State.when_logFault_fgi _ _ _ _ _ _ _ (by decide)]
    unfold State.fb State.fs
    simp (disch := decide) only [State.fgi_fsi_ne, State.fgi_fsi]
  · rfl
  · rfl

/-! ### A try that fails (R429) -/

section
variable (slot : Nat) (e : TryFail) (s : State)

/-- The register that a slot's cause goes to. -/
def causeFld (slot : Nat) : Fld := if slot = 0 then F.SYS_BOOTSTAT_CAUSEA else F.SYS_BOOTSTAT_CAUSEB

theorem recordFail_cause : (recordFail slot e s).fg (causeFld slot) = e.cause % 16 := by
  have hwrite : (s.fs (causeFld slot) e.cause).fg (causeFld slot) = e.cause % 16 := by
    refine (State.fg_fs s _ _).trans ?_
    unfold causeFld
    split <;> rfl
  have hchk : ∀ g ∈ [F.SYS_CHKINFO_RECORD, F.SYS_CHKINFO_CODE, F.SYS_CHKINFO_SLOT], (causeFld slot).id ≠ g.id := by
    unfold causeFld
    split <;> decide
  have hkeep : ∀ g ∈ [F.SYS_CHKINFO_RECORD, F.SYS_CHKINFO_CODE, F.SYS_CHKINFO_SLOT], ∀ (t : State) (v : Nat),
      (t.fs g v).fg (causeFld slot) = t.fg (causeFld slot) := fun g hg t v => State.fg_fs_ne t v (hchk g hg)
  unfold recordFail
  dsimp only
  split
  · rw [hkeep _ (by simp), hkeep _ (by simp), hkeep _ (by simp)]
    exact hwrite
  · exact hwrite

/-- R429: a failed try resets the device, but BOOT goes on. -/
theorem retryReset_boots : (retryReset s).dev = s.dev ∧ (retryReset s).boot.step = s.boot.step := by
  unfold retryReset State.when
  split <;> exact ⟨rfl, rfl⟩

/-- R429: the state after a failed try of a slot, with the tries that are left. -/
def tryFailed (rest : List Nat) : State :=
  (recordFail slot e (retryReset { s with fresh := s.fresh + 1 })).modBoot fun b => { b with tries := rest }

theorem tryFailed_shows (rest : List Nat) : (tryFailed slot e s rest).dev = s.dev ∧ (tryFailed slot e s rest).boot.step = s.boot.step ∧
    (tryFailed slot e s rest).boot.tries = rest ∧ (tryFailed slot e s rest).fg (causeFld slot) = e.cause % 16 := by
  obtain ⟨hdev, hstep⟩ := retryReset_boots { s with fresh := s.fresh + 1 }
  refine ⟨?_, ?_, rfl, recordFail_cause slot e _⟩
  · exact (dev_kept (recordFail_seen _ slot e _ rfl)).trans hdev
  · exact (congrArg BootSt.step (boot_kept (recordFail_seen _ slot e _ rfl))).trans hstep

end

section
variable {s : State} {slot : Nat} {rest : List Nat} (hdev : s.dev = .boot) (hstep : s.boot.step = .image)
  (htries : s.boot.tries = slot :: rest)
include hdev hstep htries

/-- R427, R429: a try either is accepted or leaves its cause. -/
theorem imageSlotTry_shows :
    match trySlot slot (s.when s.unprovisioned fun s => s.fs F.SYS_BOOTSTAT_UNPROV 1) with
    | .ok x => ∃ second unprov d, imageSlotTry s = acceptImage slot second unprov d x
    | .error e => ∃ t : State, t.dev = .boot ∧ t.boot.step = .image ∧
        imageSlotTry s = if rest = [] then bootFail e.cause (tryFailed slot e t rest) else tryFailed slot e t rest := by
  unfold imageSlotTry
  rw [hdev, hstep, htries]
  dsimp only
  cases trySlot slot (s.when s.unprovisioned fun s => s.fs F.SYS_BOOTSTAT_UNPROV 1) with
  | ok x => exact ⟨_, _, _, rfl⟩
  | error e =>
    have hkeep : ∀ b : Bool, (s.when b fun s => s.fs F.SYS_BOOTSTAT_UNPROV 1).dev = .boot ∧
        (s.when b fun s => s.fs F.SYS_BOOTSTAT_UNPROV 1).boot.step = .image := fun b => by
      unfold State.when
      split <;> exact ⟨hdev, hstep⟩
    obtain ⟨hd, hs⟩ := hkeep s.unprovisioned
    exact ⟨_, hd, hs, rfl⟩

end

/-- Settles O14: the outcomes of self-test (`startImages_shows`) and of a try (`imageSlotTry_shows`). -/
theorem selfTestAndImageTries : Obligations.SelfTestAndImageTries := by
  refine ⟨fun r s hdev hstep => ⟨_, rfl, ?_⟩, fun s slot rest hdev hstep htries => ⟨_, rfl, ?_⟩⟩
  · by_cases hbad : (r.tableOk && r.ramsOk && r.cryptoOk) = false
    · rw [selfTestDone_of_bad hdev hstep hbad, if_pos hbad, bootFail_dev, bootFail_boot]
      exact ⟨(bootFail_fgi 3 _ _ 0 (by decide) (by decide) (by decide)).trans (selfOutcomes_bistq r _), rfl, rfl, bootFail_fail 3 (selfOutcomes r (logSelf r s))⟩
    · obtain ⟨hlog, hkeep, hnext⟩ := startImages_shows (selfOutcomes r (logSelf r s))
      rw [selfTestDone_of_good hdev hstep hbad, if_neg hbad]
      rw [State.candidates_congr (selfTest_boot r s), selfTest_dev, hdev] at hnext
      generalize s.candidates = tries at hnext ⊢
      exact ⟨(hkeep F.SYS_BISTQ_QY 0 (by decide) (by decide) (by decide)).trans (selfOutcomes_bistq r _), hlog,
        fun h => (hkeep F.PVE_STAT_RNGFAIL 0 (by decide) (by decide) (by decide)).trans (selfOutcomes_rngfail r _ h), hnext⟩
  · have htry := imageSlotTry_shows hdev hstep htries
    cases hslot : trySlot slot (s.when s.unprovisioned fun s => s.fs F.SYS_BOOTSTAT_UNPROV 1) with
    | ok x =>
      rw [hslot] at htry
      obtain ⟨second, unprov, d, heq⟩ := htry
      rw [heq]
      exact acceptImage_shows slot second unprov d x
    | error e =>
      rw [hslot] at htry
      obtain ⟨t, hd, hs, heq⟩ := htry
      obtain ⟨hfdev, hfstep, hftries, hcause⟩ := tryFailed_shows slot e t rest
      rw [heq]
      dsimp only
      by_cases hrest : rest = []
      · rw [if_pos hrest, if_pos hrest, bootFail_dev, bootFail_boot]
        refine ⟨?_, hrest.symm, rfl, rfl⟩
        refine (bootFail_fgi _ _ (causeFld slot) 0 ?_ ?_ ?_).trans hcause
        all_goals unfold causeFld; split <;> decide
      · rw [if_neg hrest, if_neg hrest]
        exact ⟨hcause, hftries, hfdev.trans hd, hfstep.trans hs⟩

end Sys2Proof.Machine
end

section
/-! PROOF. Firmware's entries of the fault log (R510) on a state that stands within a CORE cycle. -/
namespace Sys2Proof.Machine

/-- A device whose log has started and is empty, within a CORE cycle whose entries are written at its end (R509), with a code of
firmware's in DBG.FLTPUT0. -/
def putWithinCycle : State :=
  { State.reset.fs F.DBG_FLTPUT0_CODE 0xF000 with log := { State.reset.log with started := true, cycle := some [] } }

theorem putWithinCycle_code : putWithinCycle.fg F.DBG_FLTPUT0_CODE = 0xF000 := State.fg_fs State.reset F.DBG_FLTPUT0_CODE 0xF000

/-- Within a CORE cycle an entry is noted for the cycle's end. -/
theorem State.logSev_entries_of_cycle {s : State} {l : List FaultEntry} (h : s.log.cycle = some l) (code sev index detail : Nat) :
    (s.logSev code sev index detail).log.entries = s.log.entries := by
  unfold State.logSev
  rw [h]
  dsimp only
  split <;> rfl

theorem dbgPut_putWithinCycle : (dbgPut putWithinCycle).log.entries = [] := by
  unfold dbgPut
  dsimp only
  rw [putWithinCycle_code, if_neg (by decide)]
  exact State.logSev_entries_of_cycle rfl _ _ _ _

/-- Refutes O36: on a state within a CORE cycle, whose entries R509 writes at its end, a PUT writes no entry by itself. -/
theorem not_faultLogAndHealthReport : ¬ Obligations.FaultLogAndHealthReport := by
  rintro ⟨-, hput, -⟩
  obtain ⟨t, ht, ⟨e, r, hentries, -⟩, -⟩ := hput putWithinCycle putWithinCycle_code.ge rfl
  obtain rfl : dbgPut putWithinCycle = t := Host.Outcome.next.inj ht
  exact List.cons_ne_nil e r (hentries.symm.trans dbgPut_putWithinCycle)

end Sys2Proof.Machine
end

section
/-! PROOF. Flash operations of firmware and OTP programming (R384, R433, R434): what a submission, a completion and a refusal
leave. -/
namespace Sys2Proof.Machine

/-! ### Sticky bits with a source, and writes that are held -/

section
variable {s : State} {f : Fld}

theorem State.fgi_eq_one_of_flagi {i : Nat} (hw : f.width = 1) (h : s.flagi f i = true) : s.fgi f i = 1 := by
  have hlt := State.fgi_lt s f i
  have hne : s.fgi f i ≠ 0 := by simpa [State.flagi] using h
  rw [hw] at hlt
  omega

theorem State.sticky_fgi (i src : Nat) (hw : f.width = 1) (hraise : (Extent.mk [.seqs] false raiseFlds).r f = false) :
    (s.sticky f i src).fgi f i = 1 := State.fgi_eq_one_of_flagi hw (State.sticky_flagi s f i src (by omega) hraise)

theorem State.sticky_fgi_ne {g : Fld} (i j src : Nat) (hg : g.id ≠ f.id) (hraise : (Extent.mk [.seqs] false raiseFlds).r g = false) :
    (s.sticky f i src).fgi g j = s.fgi g j := by
  unfold State.sticky
  split
  · rfl
  · rw [State.raise_fgi (hf := hraise), State.fgi_fsi_ne _ _ _ _ _ _ hg]

theorem State.sticky_seen_seqs (i src : Nat) : State.seen ⟨[.seqs], true, []⟩ (s.sticky f i src) = State.seen ⟨[.seqs], true, []⟩ s :=
  State.sticky_seen _ s f i src rfl rfl

theorem State.sticky_boot (i src : Nat) : (s.sticky f i src).boot = s.boot := boot_of_seen _ _ _ (State.sticky_seen_seqs i src) rfl rfl

theorem State.sticky_table (i src : Nat) : (s.sticky f i src).table = s.table := table_of_seen _ _ _ (State.sticky_seen_seqs i src) rfl

end

/-! ### Firmware's flash operations (R434) -/

section
variable (s : State)

theorem flashOk_boot : (flashOk s).boot = s.boot := State.sticky_boot _ _

theorem flashOk_table : (flashOk s).table = s.table := State.sticky_table _ _

theorem flashOk_done : (flashOk s).fg F.XSP_OPSTAT_DONE = 1 := State.sticky_fgi _ _ rfl rfl

theorem flashOk_opcnt : (flashOk s).fg F.XSP_OPCNT = Nat.min (s.fg F.XSP_OPCNT + 1) (2 ^ 32 - 1) :=
  (State.sticky_fgi_ne _ _ _ (by decide) rfl).trans (State.fg_bump s F.XSP_OPCNT)

theorem flashErr_boot (code : Nat) : (flashErr code s).boot = s.boot := State.sticky_boot _ _

theorem flashErr_err (code : Nat) : (flashErr code s).fg F.XSP_OPSTAT_ERR = 1 := State.sticky_fgi _ _ rfl rfl

theorem flashErr_code (code : Nat) : (flashErr code s).fg F.XSP_OPSTAT_ERRCODE = code % 2 ^ F.XSP_OPSTAT_ERRCODE.width :=
  (State.sticky_fgi_ne _ _ _ (by decide) rfl).trans (State.fgi_fsi _ F.XSP_OPSTAT_ERRCODE 0 code)

theorem flashErr_errcnt (code : Nat) : (flashErr code s).fg F.XSP_ERRCNT = Nat.min (s.fg F.XSP_ERRCNT + 1) (2 ^ 32 - 1) := by
  refine (State.sticky_fgi_ne _ _ _ (by decide) rfl).trans ?_
  exact (State.fgi_fsi_ne _ F.XSP_OPSTAT_ERRCODE F.XSP_ERRCNT 0 0 code (by decide)).trans (State.fg_bump s F.XSP_ERRCNT)

theorem flashErr_full (code : Nat) : (flashErr code s).fg F.XSP_OPSTAT_FULL = s.fg F.XSP_OPSTAT_FULL := by
  refine (State.sticky_fgi_ne _ _ _ (by decide) rfl).trans ?_
  exact (State.fgi_fsi_ne _ F.XSP_OPSTAT_ERRCODE F.XSP_OPSTAT_FULL 0 0 code (by decide)).trans
    (State.fgi_fsi_ne s F.XSP_ERRCNT F.XSP_OPSTAT_FULL 0 0 _ (by decide))

/-- R434: the operation of a kind that the registers of XSP describe. -/
def submitted (kind : Nat) (s : State) : FlashOp :=
  ⟨kind, s.fg F.XSP_OPADDR_VALUE, s.fg F.XSP_OPMEM_VALUE, s.fg F.XSP_OPLEN_VALUE, false⟩

/-- The state in which a submission is judged: the kind written. -/
def kindWritten (kind : Nat) (s : State) : State := s.fs F.XSP_OPCMD_KIND kind

theorem kindWritten_fg (kind : Nat) (f : Fld) (hf : f.id ≠ F.XSP_OPCMD_KIND.id) : (kindWritten kind s).fg f = s.fg f :=
  State.fg_fs_ne s kind hf

theorem kindWritten_boot (kind : Nat) : (kindWritten kind s).boot = s.boot := rfl

/-- R434: a submission, as the registers and the queue decide it. -/
theorem xspSubmit_eq (kind : Nat) : xspSubmit kind s =
    if s.fg F.XSP_OPLEN_VALUE = 0 then flashOk (kindWritten kind s)
    else if opAligned s (submitted kind s) = false then flashErr 1 (kindWritten kind s)
    else if inJournal s (submitted kind s) then flashErr 2 (kindWritten kind s)
    else if 4 ≤ s.boot.ops.countP (fun o => !o.store) then flashErr 0 ((kindWritten kind s).fs F.XSP_OPSTAT_FULL 1)
    else flashIssue ((kindWritten kind s).modBoot fun b => { b with ops := b.ops ++ [submitted kind s] }) := by
  have hread : ∀ f : Fld, f.id ≠ F.XSP_OPCMD_KIND.id → (s.fs F.XSP_OPCMD_KIND kind).fg f = s.fg f := fun f hf =>
    kindWritten_fg s kind f hf
  have haligned : ∀ o, opAligned (s.fs F.XSP_OPCMD_KIND kind) o = opAligned s o := fun o => by
    unfold opAligned State.eraseUnit
    rw [State.flag_congr F.XSP_OPC2_ERSZ (hread _ (by decide))]
  have hjournal : ∀ o, inJournal (s.fs F.XSP_OPCMD_KIND kind) o = inJournal s o := fun o => rfl
  unfold xspSubmit
  dsimp only
  rw [hread F.XSP_OPADDR_VALUE (by decide), hread F.XSP_OPMEM_VALUE (by decide), hread F.XSP_OPLEN_VALUE (by decide), haligned, hjournal]
  rfl

end

end Sys2Proof.Machine
end

section
/-! PROOF. A crane's copy (R476) out of an area of table memory that shows typed state (R470, R507). -/
namespace Sys2Proof.Machine

/-- A descriptor that copies the header of the fault log, as a read of table memory shows it (R507), to plain table memory. -/
def copyOfLogHeader : CraneDesc := ⟨0, 0x23F400, 0x800000, 4, true, false, false, false, 0, true⟩

/-- A device in SOLO whose log header reads 5 and whose first channel has that descriptor. -/
def copyingLogHeader : State :=
  { State.reset with
    dev := .solo
    log := { State.reset.log with head := 5 }
    port := { State.reset.port with cranes := setAt State.reset.port.cranes 0 { Crane.init with cur := some copyOfLogHeader } } }

/-- The channel reads the header through the matrix: the log's, not the byte that was last written at its address. -/
theorem craneComplete_copyingLogHeader : (craneComplete 0 ⟨0, 0⟩ copyingLogHeader).mem8 0x800000 = 5 := by decide +kernel

/-- Refutes O57: a copy writes what a read of its source shows, which at the log's header (R507) is the log and not the bytes of
table memory written there. -/
theorem not_theCranes : ¬ Obligations.TheCranes := by
  rintro ⟨-, -, -, -, -, -, -, hcopy, -⟩
  obtain ⟨t, ht, -, -, -, hbytes, -⟩ := hcopy 0 ⟨0, 0⟩ copyOfLogHeader copyingLogHeader (by decide +kernel) rfl rfl rfl (by decide +kernel)
    rfl rfl rfl rfl rfl rfl rfl (by decide) (by decide) (by decide) (by decide) (by decide) (by decide) (by decide) (by decide)
    (by decide +kernel) (by decide +kernel) (by decide +kernel)
  obtain rfl : craneComplete 0 ⟨0, 0⟩ copyingLogHeader = t := Host.Outcome.next.inj ht
  have hread : copyingLogHeader.mem8 0x23F400 = 0 := rfl
  have hzero : (craneComplete 0 ⟨0, 0⟩ copyingLogHeader).mem8 0x800000 = copyingLogHeader.mem8 0x23F400 := hbytes 0 (by decide)
  rw [craneComplete_copyingLogHeader, hread] at hzero
  exact absurd hzero (by decide)

end Sys2Proof.Machine
end

section
/-! PROOF. A session context of the partner that is older than the device's own (R309, R365). -/
namespace Sys2Proof.Machine

/-- A session that this device has raised for a planned swap: its floor is past the partner's. -/
def raisedSession : Sess := { Sess.init with st := 1, floor := 1 }

/-- A device with that session, and a SESSION cell of the partner, with the same generation and a floor of 0, in its inbox. -/
def olderSession : State :=
  { State.reset with
    mir := { State.reset.mir with inbox := [(0, .session 0 { Sess.init with st := 1 })] }
    pen := { State.reset.pen with sess := [(0, raisedSession)] } }

/-- The session raised by this device stays. -/
theorem actFront_olderSession : ((actFront olderSession).sess 0).floor = 1 := by decide +kernel

/-- Refutes O44: a session that this device has raised for a planned swap keeps its floor; the partner's context of the same
generation is older and is not taken. -/
theorem not_mirrorMessages : ¬ Obligations.MirrorMessages := by
  rintro ⟨-, -, -, -, -, -, -, -, -, -, -, hsession, -⟩
  obtain ⟨t, ht, -, htaken⟩ := hsession olderSession 0 0 { Sess.init with st := 1 } [] rfl
  obtain rfl : actFront olderSession = t := Host.Outcome.next.inj ht
  have hfloor := actFront_olderSession
  rw [htaken] at hfloor
  exact absurd hfloor (by decide)

end Sys2Proof.Machine
end

section
/-! PROOF. A write of the mailbox's reply through the bus matrix (R463, R501). -/
namespace Sys2Proof.Machine

/-- A device at work whose bridge has granted no master yet. -/
def bridgeUnused : State := { State.reset with dev := .solo }

/-- The write as its operands give it: master 0, word 0 of MBRSP. -/
def mailboxWritten : State :=
  regAccess (0 : Fin 11).val (0x40000000 + (BitVec.ofNat 22 (0x170120 + 4 * (0 : Fin 8).val)).toNat) (0 : Word).toNat bridgeUnused

/-- The bridge grants master 0, and its round-robin pointer moves past it (R463). -/
theorem mailboxWritten_rr : mailboxWritten.port.rr = [(10, 1)] := by decide +kernel

/-- Refutes O59: a write of MBRSP reaches the mailbox through the matrix, whose bridge moves its round-robin pointer past the master
that it grants (R463): the field is not all that changes. -/
theorem not_theMailbox : ¬ Obligations.TheMailbox := by
  rintro ⟨-, -, -, -, -, hwrite, -⟩
  have hwritten : mailboxWritten = bridgeUnused.fsi F.SBI_MBRSPw_BYTES (0 : Fin 8).val (0 : Word).toNat :=
    Host.Outcome.next.inj (hwrite 0 0 0 bridgeUnused rfl)
  have hrr := mailboxWritten_rr
  rw [hwritten] at hrr
  exact absurd hrr (by decide)

end Sys2Proof.Machine
end

section
/-! PROOF. Register fields read through the operations of the state: each equation holds where the fields differ, which `decide`
finds. -/
namespace Sys2Proof.Machine

section
variable (s : State)

/-- A field of which there is one, read as the first. -/
theorem State.fg_eq (f : Fld) : s.fg f = s.fgi f 0 := rfl

@[simp] theorem State.fgi_fs_self (f : Fld) (v : Nat) : (s.fs f v).fgi f 0 = v % 2 ^ f.width := State.fgi_fsi s f 0 v

@[simp] theorem State.fgi_fs_of_ne {f g : Fld} (i v : Nat) (h : g.id ≠ f.id) : (s.fs f v).fgi g i = s.fgi g i :=
  State.fgi_fsi_ne s f g 0 i v h

@[simp] theorem State.fgi_fsi_of_ne {f g : Fld} (i j v : Nat) (h : g.id ≠ f.id) : (s.fsi f i v).fgi g j = s.fgi g j :=
  State.fgi_fsi_ne s f g i j v h

@[simp] theorem State.fgi_fb_self (f : Fld) (b : Bool) : (s.fb f b).fgi f 0 = b2n b % 2 ^ f.width := State.fgi_fsi s f 0 _

@[simp] theorem State.fgi_fb_of_ne {f g : Fld} (i : Nat) (b : Bool) (h : g.id ≠ f.id) : (s.fb f b).fgi g i = s.fgi g i :=
  State.fgi_fsi_ne s f g 0 i _ h

@[simp] theorem State.fgi_fbi_self (f : Fld) (i : Nat) (b : Bool) : (s.fbi f i b).fgi f i = b2n b % 2 ^ f.width :=
  State.fgi_fsi s f i _

@[simp] theorem State.fgi_fbi_of_ne {f g : Fld} (i j : Nat) (b : Bool) (h : g.id ≠ f.id) : (s.fbi f i b).fgi g j = s.fgi g j :=
  State.fgi_fsi_ne s f g i j _ h

/-- R13: a counter of 32 bits moved up by one. -/
@[simp] theorem State.fgi_bump_self {f : Fld} (h : f.width = 32) : (s.bump f).fgi f 0 = Nat.min (s.fgi f 0 + 1) (2 ^ 32 - 1) :=
  h ▸ State.fgi_addi s f 0 1

@[simp] theorem State.fgi_bump_of_ne {f g : Fld} (i : Nat) (h : g.id ≠ f.id) : (s.bump f).fgi g i = s.fgi g i :=
  State.fgi_bump_ne s f g i h

@[simp] theorem State.fgi_bumpi_self {f : Fld} (i : Nat) (h : f.width = 32) :
    (s.bumpi f i).fgi f i = Nat.min (s.fgi f i + 1) (2 ^ 32 - 1) := h ▸ State.fgi_addi s f i 1

@[simp] theorem State.fgi_bumpi_of_ne {f g : Fld} (i j : Nat) (h : g.id ≠ f.id) : (s.bumpi f i).fgi g j = s.fgi g j :=
  State.fgi_fsi_ne s f g i j _ h

@[simp] theorem State.fgi_setBit_of_ne {f g : Fld} (i j b : Nat) (x : Bool) (h : g.id ≠ f.id) :
    (s.setBit f i b x).fgi g j = s.fgi g j := State.fgi_setBit_ne s f g i j b x h

@[simp] theorem State.fgi_raise_of_ne {f : Fld} (src i : Nat) (hf : (Extent.mk [.seqs] false raiseFlds).r f = false) :
    (s.raise src).fgi f i = s.fgi f i := State.raise_fgi s src f i hf

@[simp] theorem State.fgi_logFault_of_ne {f : Fld} (code index detail i : Nat) (hf : f.id ≠ F.DBG_FLTSTAT_CLASS.id) :
    (s.logFault code index detail).fgi f i = s.fgi f i := State.logFault_fgi s code index detail f i hf

@[simp] theorem State.fgi_sticky_of_ne {f g : Fld} (i j src : Nat) (hg : g.id ≠ f.id)
    (hraise : (Extent.mk [.seqs] false raiseFlds).r g = false) : (s.sticky f i src).fgi g j = s.fgi g j :=
  State.sticky_fgi_ne i j src hg hraise

@[simp] theorem State.fgi_sticky_self {f : Fld} (i src : Nat) (hw : f.width = 1)
    (hraise : (Extent.mk [.seqs] false raiseFlds).r f = false) : (s.sticky f i src).fgi f i = 1 := State.sticky_fgi i src hw hraise

/-- An operation that is done or not moves no field that it does not move when it is done. -/
theorem State.fgi_when {g : State → State} {f : Fld} {i : Nat} (b : Bool) (hg : (g s).fgi f i = s.fgi f i) :
    (s.when b g).fgi f i = s.fgi f i := by
  unfold State.when
  split
  · exact hg
  · rfl

end

/-! ### Parts of the state through a field, a bit, an event -/

section
variable (s : State) (f : Fld) (i src : Nat)

@[simp] theorem State.bump_dev : (s.bump f).dev = s.dev := rfl

@[simp] theorem State.bump_frame : (s.bump f).frame = s.frame := rfl

@[simp] theorem State.bump_time : (s.bump f).time = s.time := rfl

@[simp] theorem State.bump_table : (s.bump f).table = s.table := rfl

@[simp] theorem State.bump_fab : (s.bump f).fab = s.fab := rfl

@[simp] theorem State.bump_mir : (s.bump f).mir = s.mir := rfl

@[simp] theorem State.bump_boot : (s.bump f).boot = s.boot := rfl

@[simp] theorem State.bump_cal : (s.bump f).cal = s.cal := rfl

@[simp] theorem State.bump_port : (s.bump f).port = s.port := rfl

@[simp] theorem State.bumpi_cal : (s.bumpi f i).cal = s.cal := rfl

@[simp] theorem State.bumpi_port : (s.bumpi f i).port = s.port := rfl

@[simp] theorem State.bumpi_fab : (s.bumpi f i).fab = s.fab := rfl

@[simp] theorem State.bumpi_mir : (s.bumpi f i).mir = s.mir := rfl

@[simp] theorem State.setBit_cal (b : Nat) (x : Bool) : (s.setBit f i b x).cal = s.cal := rfl

@[simp] theorem State.sticky_cal : (s.sticky f i src).cal = s.cal := cal_of_seen _ _ _ (State.sticky_seen_seqs i src) rfl

@[simp] theorem State.sticky_mir : (s.sticky f i src).mir = s.mir := mir_of_seen _ _ _ (State.sticky_seen_seqs i src) rfl

@[simp] theorem State.sticky_fab : (s.sticky f i src).fab = s.fab := fab_of_seen _ _ _ (State.sticky_seen_seqs i src) rfl

@[simp] theorem State.sticky_dev : (s.sticky f i src).dev = s.dev := dev_of_seen _ _ _ (State.sticky_seen_seqs i src) rfl

@[simp] theorem State.sticky_port : (s.sticky f i src).port = s.port := port_of_seen _ _ _ (State.sticky_seen_seqs i src) rfl

end

end Sys2Proof.Machine
end

section
/-! PROOF. Candidates of calibration (15, R402 to R405) and the store of the journal (R408). -/
namespace Sys2Proof.Machine

/-! ### Candidates -/

section
variable (s : State)

theorem subReject_shows {reason : Nat} (h : reason < 2 ^ F.CAL_SUBRES_REASON.width) : (subReject reason s).fg F.CAL_SUBRES_RESULT = 3 ∧
    (subReject reason s).fg F.CAL_SUBRES_REASON = reason ∧
    (subReject reason s).fg F.CAL_REJCNT = Nat.min (s.fg F.CAL_REJCNT + 1) (2 ^ 32 - 1) ∧ (subReject reason s).cal = s.cal := by
  unfold subReject subRes
  simp only [State.fg_eq]
  simp (disch := decide) only [State.fgi_bump_self, State.fgi_bump_of_ne, State.fgi_fb_of_ne, State.fgi_fs_self, State.fgi_fs_of_ne,
    Nat.mod_eq_of_lt h]
  exact ⟨rfl, trivial, trivial, rfl⟩

theorem subAccept_shows : (subAccept s).fg F.CAL_SUBRES_RESULT = 1 ∧ (subAccept s).fg F.CAL_SUBRES_REASON = 0 ∧
    (subAccept s).fg F.CAL_ACCCNT = Nat.min (s.fg F.CAL_ACCCNT + 1) (2 ^ 32 - 1) ∧ (subAccept s).fg F.CAL_STAT_DIRTY = 1 := by
  unfold subAccept subRes
  simp only [State.fg_eq]
  simp (disch := decide) only [State.modCal_fgi, State.fgi_bump_self, State.fgi_bump_of_ne, State.fgi_fb_of_ne, State.fgi_fs_self,
    State.fgi_fs_of_ne]
  exact ⟨rfl, rfl, trivial, rfl⟩

/-- The capture that a submission names, among those that are good. -/
def namedCapture : Option Capture := s.cal.caps.find? fun c => decide (c.id = s.fg F.CAL_SUBMIT_CAPID) && !c.bad

/-- R404: what the commit of an accepted value leaves of the acceptance's registers. -/
theorem acceptSlot_seen_accepted (n : Nat) (v : SlotCal) : State.seen ⟨[.fab, .pen, .mir, .cal], false, []⟩ (acceptSlot n v s) =
    State.seen ⟨[.fab, .pen, .mir, .cal], false, []⟩ (subAccept s) := by
  unfold acceptSlot
  dsimp only
  split
  all_goals simp [Extent.covers, Extent.p]

/-- R404: an accepted value is a user value, and no candidate is pending any more. -/
theorem acceptSlot_values (n : Nat) (v : SlotCal) : tget none (acceptSlot n v s).cal.slotUser n = some v ∧
    tget none (acceptSlot n v s).cal.slotPend n = none := by
  unfold acceptSlot
  dsimp only
  split
  · exact ⟨tget_tset none s.cal.slotUser n (some v), tget_absent none _ _ (tkeys_tdel s.cal.slotPend n)⟩
  · have hcal : ∀ t : State, (noteLoaded (.coef (bundleOf n) false (withSlotCal (s.coefNext (bundleOf n)) n v)) []
        (commitCoefs (bundleOf n) (withSlotCal (s.coefNext (bundleOf n)) n v) t)).cal = t.cal := fun t =>
      cal_of_seen ⟨[.fab, .pen], false, []⟩ t _ ((noteLoaded_seen _ _ _ _ rfl).trans (commitCoefs_seen _ _ _ _ rfl)) rfl
    rw [hcal]
    exact ⟨tget_tset none s.cal.slotUser n (some v), tget_absent none _ _ (tkeys_tdel s.cal.slotPend n)⟩

variable {s}

theorem acceptSlot_fg (n : Nat) (v : SlotCal) (f : Fld) : (acceptSlot n v s).fg f = (subAccept s).fg f :=
  State.fgi_of_seen _ _ _ f 0 (acceptSlot_seen_accepted s n v) rfl

theorem calSubmit_of_not_holds (h : s.holds = false) : calSubmit s = subReject 3 s := by
  unfold calSubmit
  simp only [h, Bool.not_false, if_true]

theorem calSubmit_of_no_capture (h : s.holds = true) (hcap : namedCapture s = none) : calSubmit s = subReject 1 s := by
  unfold calSubmit
  rw [show (s.cal.caps.find? fun c => decide (c.id = s.fg F.CAL_SUBMIT_CAPID) && !c.bad) = none from hcap]
  simp only [h, Bool.not_true, Bool.false_eq_true, if_false]

theorem calSubmit_of_no_type {c : Capture} (h : s.holds = true) (hcap : namedCapture s = some c)
    (h1 : leAt (s.memBytes (s.calBase + 0x8000) 128) 0 1 ≠ 1) (h2 : leAt (s.memBytes (s.calBase + 0x8000) 128) 0 1 ≠ 2) :
    calSubmit s = subReject 2 s := by
  unfold calSubmit
  rw [show (s.cal.caps.find? fun c => decide (c.id = s.fg F.CAL_SUBMIT_CAPID) && !c.bad) = some c from hcap]
  simp only [h, Bool.not_true, Bool.false_eq_true, if_false, h1, h2]

/-- R403: a slot value that passes is accepted at once on a quay in start-up. -/
theorem calSubmit_of_startup {c : Capture} {n : Nat} {v : SlotCal} (h : s.holds = true) (hcap : namedCapture s = some c)
    (h1 : leAt (s.memBytes (s.calBase + 0x8000) 128) 0 1 = 1)
    (hval : slotCalOf (s.memBytes (s.calBase + 0x8000) 128) = (n, v))
    (hpass : ¬(12288 ≤ n ∨ (s.slot n).pop = false ∨ v.serial ≠ s.fgi F.QY_TILEID_SERIAL (quayOf n) ∨ slotPlaus s n v = false))
    (hstart : s.bit F.CAL_QSTART_QUAY 0 (quayOf n) = true) : calSubmit s = acceptSlot n v s := by
  unfold calSubmit
  rw [show (s.cal.caps.find? fun c => decide (c.id = s.fg F.CAL_SUBMIT_CAPID) && !c.bad) = some c from hcap]
  simp only [h, Bool.not_true, Bool.false_eq_true, if_false, h1, if_true, hval, hpass, hstart, judgeCand]

end

/-! ### The store of the journal -/

section
variable (s : State)

/-- R408: a store has ended with a result: its operations that wait are dropped. -/
def storeDropped (res : Nat) : State :=
  (dropOps (fun o => !o.store) ((s.fs F.CAL_STAT_SRES res).fs F.CAL_STAT_STORING 0)).modBoot fun b =>
    { b with cur := b.cur.filter fun o => !o.store }

/-- R408: the end of a store is counted; one that is complete gives the sequence and the region of the newest slot. -/
def storeCounted (res : Nat) : State :=
  if res = 1 then
    (match s.cal.store with
      | some x => (s.fs F.CAL_JSEQ_SEQ x.seq).modCal fun c => { c with newest := x.region }
      | none => s).bump F.CAL_STORECNT
  else s.bump F.CAL_STOREFAIL

/-- R408: no store runs any more; DIRTY clears where nothing has changed since it began. -/
def storeClosed : State := (s.when (!s.cal.since) fun s => s.fs F.CAL_STAT_DIRTY 0).modCal fun c => { c with store := none }

theorem storeEnd_eq (res : Nat) : storeEnd res s =
    let t := storeClosed (storeCounted (storeDropped s res) res)
    flashIssue (if t.flag F.CAL_STAT_STPEND then storeStart (t.fs F.CAL_STAT_STPEND 0) else t) := rfl

theorem storeDropped_seen (res : Nat) : State.seen ⟨[.boot], false, [F.TMP_STAT_WRHOLD]⟩ (storeDropped s res) =
    State.seen ⟨[.boot], false, [F.TMP_STAT_WRHOLD]⟩ ((s.fs F.CAL_STAT_SRES res).fs F.CAL_STAT_STORING 0) :=
  (State.modBoot_seen _ _ _ rfl fun _ => rfl).trans (dropOps_seen _ _ _ rfl)

theorem storeDropped_cal (res : Nat) : (storeDropped s res).cal = s.cal :=
  cal_of_seen _ ((s.fs F.CAL_STAT_SRES res).fs F.CAL_STAT_STORING 0) _ (storeDropped_seen s res) rfl

theorem storeDropped_fgi (res : Nat) {f : Fld} (hf : (Extent.mk [.boot] false [F.TMP_STAT_WRHOLD]).r f = false) :
    (storeDropped s res).fgi f 0 = ((s.fs F.CAL_STAT_SRES res).fs F.CAL_STAT_STORING 0).fgi f 0 :=
  State.fgi_of_seen _ _ _ f 0 (storeDropped_seen s res) hf

theorem storeClosed_cal : (storeClosed s).cal = { s.cal with store := none } := by
  unfold storeClosed State.when
  split <;> rfl

theorem storeClosed_fgi {f : Fld} (hf : f.id ≠ F.CAL_STAT_DIRTY.id) : (storeClosed s).fgi f 0 = s.fgi f 0 :=
  State.fgi_when _ _ (State.fgi_fs_of_ne _ _ _ hf)

theorem storeClosed_dirty (h : s.cal.since = false) : (storeClosed s).fgi F.CAL_STAT_DIRTY 0 = 0 := by
  unfold storeClosed State.when
  rw [h, Bool.not_false, if_pos rfl]
  exact State.fgi_fs_self s F.CAL_STAT_DIRTY 0

/-- What an issue of the next flash operation writes. -/
def issueFlds : List Fld :=
  [F.DBG_FLTSTAT_CLASS, F.ICU_LOSTCNT, F.ICU_OVRw_SRC, F.ICU_PENDw_SRC, F.TMP_STAT_WRHOLD, F.TMP_WRREF]

/-- What an issue of the next flash operation changes. -/
def issueExtent : Extent := ⟨[.seqs, .log, .boot, .port], false, issueFlds⟩

theorem flashIssue_cal : (flashIssue s).cal = s.cal := cal_of_seen issueExtent _ _ (flashIssue_seen _ _ rfl) rfl

theorem flashIssue_fgi {f : Fld} (hf : issueExtent.r f = false) (i : Nat) : (flashIssue s).fgi f i = s.fgi f i :=
  State.fgi_of_seen issueExtent _ _ f i (flashIssue_seen _ _ rfl) hf

theorem flashIssue_of_cur (h : s.boot.cur.isSome = true) : flashIssue s = s := by
  unfold flashIssue
  cases hc : s.boot.cur with
  | none => rw [hc] at h; contradiction
  | some o => rfl

variable {s}

/-- R408: a store that ends while none is recorded. -/
theorem storeEnd_of_none_pending (hpend : s.flag F.CAL_STAT_STPEND = false) (res : Nat) :
    storeEnd res s = flashIssue (storeClosed (storeCounted (storeDropped s res) res)) := by
  have hcounted : (storeCounted (storeDropped s res) res).fgi F.CAL_STAT_STPEND 0 = (storeDropped s res).fgi F.CAL_STAT_STPEND 0 := by
    unfold storeCounted
    split
    · split <;> simp (disch := decide)
    · simp (disch := decide)
  have hflag : (storeClosed (storeCounted (storeDropped s res) res)).flag F.CAL_STAT_STPEND = s.flag F.CAL_STAT_STPEND := by
    refine State.flag_congr _ ((storeClosed_fgi _ (by decide)).trans (hcounted.trans ((storeDropped_fgi s res rfl).trans ?_)))
    simp (disch := decide)
  rw [storeEnd_eq]
  dsimp only
  rw [hflag, hpend, if_neg Bool.false_ne_true]

theorem storeCounted_of_complete {x : Store} (h : s.cal.store = some x) : storeCounted s 1 =
    ((s.fs F.CAL_JSEQ_SEQ x.seq).modCal fun c => { c with newest := x.region }).bump F.CAL_STORECNT := by
  unfold storeCounted
  rw [if_pos rfl, h]

theorem storeCounted_of_failed {res : Nat} (h : res ≠ 1) : storeCounted s res = s.bump F.CAL_STOREFAIL := if_neg h

/-- R408: what the registers show of a store that has ended. -/
theorem storeEnd_fgi (hpend : s.flag F.CAL_STAT_STPEND = false) (res : Nat) {f : Fld} (hf : issueExtent.r f = false)
    (hd : f.id ≠ F.CAL_STAT_DIRTY.id) : (storeEnd res s).fgi f 0 = (storeCounted (storeDropped s res) res).fgi f 0 := by
  rw [storeEnd_of_none_pending hpend, flashIssue_fgi _ hf, storeClosed_fgi _ hd]

theorem storeEnd_dirty (hpend : s.flag F.CAL_STAT_STPEND = false) (res : Nat)
    (h : (storeCounted (storeDropped s res) res).cal.since = false) : (storeEnd res s).fgi F.CAL_STAT_DIRTY 0 = 0 := by
  rw [storeEnd_of_none_pending hpend, flashIssue_fgi _ rfl, storeClosed_dirty _ h]

theorem storeEnd_cal (hpend : s.flag F.CAL_STAT_STPEND = false) (res : Nat) :
    (storeEnd res s).cal = { (storeCounted (storeDropped s res) res).cal with store := none } := by
  rw [storeEnd_of_none_pending hpend, flashIssue_cal, storeClosed_cal]

end

/-- Settles O48: a candidate through the tests of `calSubmit` in their order, a store through what it drops, counts and closes
(`storeEnd_of_none_pending`). -/
theorem candidatesAndTheJournal : Obligations.CandidatesAndTheJournal := by
  refine ⟨fun s h => ⟨_, rfl, ?_⟩, fun s h hcap => ⟨_, rfl, ?_⟩, fun s c h hcaps hid hgood h1 h2 => ⟨_, rfl, ?_⟩,
    fun s c n v h hcaps hid hgood h1 hval hn hpop hser hplaus hstart => ⟨_, rfl, ?_⟩,
    fun s h => ?_, fun s h hcur => ⟨_, rfl, ?_⟩, fun s x hstoring hpend hops hstore => ⟨_, rfl, ?_⟩,
    fun s hstoring hpend hops => ⟨_, rfl, ?_⟩⟩
  · rw [calSubmit_of_not_holds h]
    exact subReject_shows s (by decide)
  · have hnone : namedCapture s = none := by
      refine List.find?_eq_none.mpr fun c hc => ?_
      have hbad := List.all_eq_true.mp hcap c hc
      simp only [Bool.or_eq_true, decide_eq_true_eq] at hbad
      simp only [Bool.and_eq_true, decide_eq_true_eq, Bool.not_eq_true', not_and, Bool.not_eq_false]
      exact fun hid => hbad.resolve_left (not_not.mpr hid)
    rw [calSubmit_of_no_capture h hnone]
    exact subReject_shows s (by decide)
  · have hsome : namedCapture s = some c := by simp [namedCapture, hcaps, hid, hgood]
    rw [calSubmit_of_no_type h hsome h1 h2]
    exact subReject_shows s (by decide)
  · have hsome : namedCapture s = some c := by simp [namedCapture, hcaps, hid, hgood]
    rw [calSubmit_of_startup h hsome h1 hval (by simp [hn, hpop, hser, hplaus]) hstart]
    simp only [acceptSlot_fg]
    obtain ⟨hres, hreason, hcnt, hdirty⟩ := subAccept_shows s
    exact ⟨hres, hreason, hcnt, hdirty, acceptSlot_values s n v⟩
  · exact congrArg Host.Outcome.next (if_pos h)
  · unfold calStore
    rw [if_neg (ne_true_of_eq_false h)]
    unfold storeStart
    dsimp only
    rw [flashIssue_of_cur]
    · exact ⟨State.fgi_fs_self s F.CAL_STAT_STORING 1, rfl, rfl, rfl⟩
    · exact hcur
  · have hcounted := storeCounted_of_complete ((congrArg CalSt.store (storeDropped_cal s 1)).trans hstore)
    unfold storeComplete
    rw [if_pos hstoring, if_pos rfl, if_pos hops]
    simp only [State.fg_eq]
    refine ⟨?_, ?_, ?_, ?_, ?_, ?_, fun hsince => storeEnd_dirty hpend 1 ?_⟩
    · rw [storeEnd_fgi hpend 1 rfl (by decide), hcounted]
      simp (disch := decide) [storeDropped_fgi]
    · rw [storeEnd_fgi hpend 1 rfl (by decide), hcounted]
      simp (disch := decide) [storeDropped_fgi]
    · rw [storeEnd_fgi hpend 1 rfl (by decide), hcounted]
      simp (disch := decide)
      rfl
    · rw [storeEnd_cal hpend 1, hcounted]
      rfl
    · rw [storeEnd_fgi hpend 1 rfl (by decide), hcounted]
      simp (disch := decide) [storeDropped_fgi]
    · rw [storeEnd_cal hpend 1]
    · rw [hcounted]
      exact (congrArg CalSt.since (storeDropped_cal s 1)).trans hsince
  · have hcounted : storeCounted (storeDropped s 2) 2 = (storeDropped s 2).bump F.CAL_STOREFAIL := storeCounted_of_failed (by decide)
    unfold storeComplete
    rw [if_pos hstoring, if_neg Bool.false_ne_true, if_pos hops]
    simp only [State.fg_eq]
    refine ⟨?_, ?_, ?_, ?_, ?_, fun hsince => storeEnd_dirty hpend 2 ?_⟩
    · rw [storeEnd_fgi hpend 2 rfl (by decide), hcounted]
      simp (disch := decide) [storeDropped_fgi]
    · rw [storeEnd_fgi hpend 2 rfl (by decide), hcounted]
      simp (disch := decide) [storeDropped_fgi]
      rfl
    · rw [storeEnd_cal hpend 2, hcounted, State.bump_cal, storeDropped_cal]
    · rw [storeEnd_fgi hpend 2 rfl (by decide), hcounted]
      simp (disch := decide) [storeDropped_fgi]
    · rw [storeEnd_cal hpend 2]
    · rw [hcounted]
      exact (congrArg CalSt.since (storeDropped_cal s 2)).trans hsince

end Sys2Proof.Machine
end

section
/-! PROOF. The sweep units (15, R389 to R401): trims, a GO, a window, a sweep and its release. -/
namespace Sys2Proof.Machine

/-! ### Units -/

section
variable {s : State} {u : Nat}

theorem State.unit_modUnit (g : CalUnit → CalUnit) (h : u < s.cal.units.length) : (s.modUnit u g).unit u = g (s.unit u) := by
  unfold State.unit
  rw [State.modUnit_cal]
  exact (getD_setAt _ _ _ _ _).trans (if_pos ⟨rfl, h⟩)

/-- A unit that is not as at reset is one of the units that there are. -/
theorem unit_lt_of_ne_init {α : Type} {g : CalUnit → α} (h : g (s.unit u) ≠ g CalUnit.init) : u < s.cal.units.length := by
  by_contra hlen
  exact h (congrArg g (List.getD_eq_default _ _ (Nat.le_of_not_lt hlen)))

theorem State.unit_of_units {t : State} {x : CalUnit} (h : t.cal.units = setAt s.cal.units u x) (hlt : u < s.cal.units.length) :
    t.unit u = x := by
  unfold State.unit
  rw [h, getD_setAt, if_pos ⟨rfl, hlt⟩]

theorem State.unit_congr {t : State} (h : t.cal.units = s.cal.units) (u : Nat) : t.unit u = s.unit u := by
  unfold State.unit
  rw [h]

end

/-! ### Trims (R389) -/

theorem calTrimWrite_of_free {s : State} (v : Nat)
    (h : (s.fg F.CAL_TRIMSEL_TRIM = 3 ∨ s.fg F.CAL_TRIMSEL_TRIM = 4) ∧ s.fg F.CAL_TRIMSEL_INDEX < 34 ∧
      s.trimBusy (s.fg F.CAL_TRIMSEL_INDEX) = false) :
    calTrimWrite v s = (s.fs F.CAL_STAT_DIRTY 1).modCal fun c =>
      { c with
        since := true
        trimNext := tset 0x100 c.trimNext (s.fg F.CAL_TRIMSEL_TRIM * 64 + s.fg F.CAL_TRIMSEL_INDEX) (v % 16) } := if_pos h

/-! ### A GO (R393, R394, R401) -/

section
variable (s : State) (u st : Nat) (x : CalUnit)

theorem unitStart_ust (h : st < 2 ^ F.CAL_USTAT_STATE.width) : (unitStart u st x s).ust u = st := by
  unfold unitStart State.ust
  rw [State.modUnit_fgi, State.fgi_fsi, Nat.mod_eq_of_lt h]

theorem unitStart_reason : (unitStart u st x s).fgi F.CAL_USTAT_REASON u = 0 := by
  unfold unitStart
  simp (disch := decide)

theorem unitStart_units : (unitStart u st x s).cal.units = setAt s.cal.units u x := rfl

theorem unitStart_bun (b : Nat) : (unitStart u st x s).bun b = s.bun b := rfl

/-- R394: a bundle under hold stays so while others come under it, and each bundle named is under one. -/
theorem holdForCal_held (b c : Nat) (h : c = b ∨ (s.bun c).calHold.isSome = true) :
    ((holdForCal u b s).bun c).calHold.isSome = true := by
  unfold holdForCal
  rw [State.bun_modBun]
  split
  · split
    · assumption
    · rfl
  · rename_i hne
    exact h.resolve_left hne

theorem holds_foldl (bs : List Nat) (c : Nat) (h : c ∈ bs ∨ (s.bun c).calHold.isSome = true) :
    ((bs.foldl (fun s b => holdForCal u b s) s).bun c).calHold.isSome = true := by
  induction bs generalizing s with
  | nil => exact h.resolve_left (List.not_mem_nil)
  | cons b bs ih =>
    refine ih (holdForCal u b s) ?_
    rcases h with hmem | hheld
    · rcases List.mem_cons.mp hmem with rfl | hmem
      · exact .inr (holdForCal_held s u c c (.inl rfl))
      · exact .inl hmem
    · exact .inr (holdForCal_held s u b c (.inr hheld))

theorem holds_foldl_cal (bs : List Nat) : (bs.foldl (fun s b => holdForCal u b s) s).cal = s.cal :=
  cal_of_seen ⟨[.fab], true, []⟩ s _ (foldl_seen _ _ _ _ fun t b => holdForCal_seen _ u b t rfl) rfl

theorem goReason_lt : goReason u x s < 16 := by
  unfold goReason
  dsimp only
  split_ifs <;> decide

theorem scaleReason_lt : scaleReason u x s < 16 := by
  unfold scaleReason
  dsimp only
  split_ifs <;> decide

/-- What a GO that is refused leaves: its reason. -/
theorem refused_shows {r : Nat} (h : r < 16) : (s.fsi F.CAL_USTAT_REASON u r).fgi F.CAL_USTAT_REASON u = r ∧
    (s.fsi F.CAL_USTAT_REASON u r).cal = s.cal ∧ (s.fsi F.CAL_USTAT_REASON u r).ust u = s.ust u :=
  ⟨(State.fgi_fsi s F.CAL_USTAT_REASON u r).trans (Nat.mod_eq_of_lt h), rfl,
    State.fgi_fsi_ne s F.CAL_USTAT_REASON F.CAL_USTAT_STATE u u r (by decide)⟩

/-- R393, R394: a GO with KIND ELEMENT. -/
theorem calGoElement_shows (hu : u = s.fg F.CAL_USEL_UNIT) (hx : x = s.unitCfg u) (hscale : x.scale = false) :
    let bs := ((s.onChannel x.quay x.chan).map bundleOf).dedup
    if goReason u x s = 0 then (calGoElement s).ust u = 1 ∧ (calGoElement s).fgi F.CAL_USTAT_REASON u = 0 ∧
      (calGoElement s).cal.units = setAt s.cal.units u { x with held := bs } ∧
      (bs.all fun b => ((calGoElement s).bun b).calHold.isSome) = true
    else (calGoElement s).fgi F.CAL_USTAT_REASON u = goReason u x s ∧ (calGoElement s).cal = s.cal ∧ (calGoElement s).ust u = s.ust u := by
  have hslots : s.unitSlots x = s.onChannel x.quay x.chan := if_neg (ne_true_of_eq_false hscale)
  unfold calGoElement
  dsimp only
  rw [← hu, ← hx, if_neg (ne_true_of_eq_false hscale), hslots]
  split
  · rename_i h
    rw [if_neg (not_not.mpr h)]
    refine ⟨unitStart_ust _ u 1 _ (by decide), unitStart_reason _ u 1 _, ?_, List.all_eq_true.mpr fun b hb => ?_⟩
    · rw [unitStart_units, holds_foldl_cal]
    · rw [unitStart_bun]
      exact holds_foldl s u _ b (.inl hb)
  · exact refused_shows s u (goReason_lt s u x)

/-- R401: a GO with KIND SCALE. -/
theorem calGoScale_shows (hu : u = s.fg F.CAL_USEL_UNIT) (hx : x = s.unitCfg u) (hscale : x.scale = true) :
    if scaleReason u x s = 0 then (calGoScale s).ust u = 2 ∧ (calGoScale s).fgi F.CAL_USTAT_REASON u = 0 ∧
      (calGoScale s).cal.units = setAt s.cal.units u x
    else (calGoScale s).fgi F.CAL_USTAT_REASON u = scaleReason u x s ∧ (calGoScale s).cal = s.cal ∧ (calGoScale s).ust u = s.ust u := by
  unfold calGoScale
  dsimp only
  rw [← hu, ← hx, hscale, Bool.not_true, if_neg Bool.false_ne_true]
  split
  · rename_i h
    rw [if_neg (not_not.mpr h)]
    exact ⟨unitStart_ust _ u 2 _ (by decide), unitStart_reason _ u 2 _, unitStart_units _ u 2 _⟩
  · exact refused_shows s u (scaleReason_lt s u x)

end

/-! ### A CANCEL (R398) -/

section
variable {s : State} {u : Nat}

/-- R398: the sweep of a unit that has fixed no window is abandoned at once. -/
theorem calAbandon_of_no_window (last : Nat) (h1 : 1 ≤ s.ust u) (h3 : s.ust u ≤ 3) (hcut : (s.unit u).cut = false)
    (hf0 : (s.unit u).f0 = none) : calAbandon u last s =
      (((((s.bump F.CAL_ABANDCNT).fsi F.CAL_UCAP_ABANDON u 1).modUnit u fun x => { x with cut := true, last := s.frame }).fsi
        F.CAL_USTAT_RESULT u 2).fsi F.CAL_USTAT_STATE u 4) := by
  have hsame : (((s.bump F.CAL_ABANDCNT).fsi F.CAL_UCAP_ABANDON u 1).unit u).f0 = none := hf0
  unfold calAbandon
  rw [if_neg (by omega), hcut, if_neg Bool.false_ne_true]
  dsimp only
  rw [hsame]
  rfl

/-- R398: the sweep of a unit that has fixed its window is cut, and its capture with it. -/
theorem calAbandon_of_window {f0 : Nat} (last : Nat) (h1 : 1 ≤ s.ust u) (h3 : s.ust u ≤ 3) (hcut : (s.unit u).cut = false)
    (hf0 : (s.unit u).f0 = some f0) : calAbandon u last s =
      badCap u (calShorten u last (((s.bump F.CAL_ABANDCNT).fsi F.CAL_UCAP_ABANDON u 1).modUnit u fun x => { x with cut := true })) := by
  have hsame : (((s.bump F.CAL_ABANDCNT).fsi F.CAL_UCAP_ABANDON u 1).unit u).f0 = some f0 := hf0
  unfold calAbandon
  rw [if_neg (by omega), hcut, if_neg Bool.false_ne_true]
  dsimp only
  rw [hsame]

theorem calShorten_cut (last : Nat) (h : u < s.cal.units.length) : ((calShorten u last s).unit u).cut = (s.unit u).cut := by
  have hcut := congrArg CalUnit.cut (State.unit_modUnit (fun x => { x with last := if later x.last last then last else x.last }) h)
  exact hcut

theorem badCap_unit (v : Nat) : (badCap u s).unit v = s.unit v := rfl

/-- R398: what a CANCEL leaves of a unit at work. -/
theorem calCancel_shows (hu : u = s.fg F.CAL_USEL_UNIT) (h1 : 1 ≤ s.ust u) (h3 : s.ust u ≤ 3) (hcut : (s.unit u).cut = false)
    (hlt : u < s.cal.units.length) : ((calCancel s).unit u).cut = true ∧
      (calCancel s).fg F.CAL_ABANDCNT = Nat.min (s.fg F.CAL_ABANDCNT + 1) (2 ^ 32 - 1) ∧
      if (s.unit u).f0 = none then (calCancel s).ust u = 4 ∧ (calCancel s).fgi F.CAL_USTAT_RESULT u = 2 ∧
        ((calCancel s).unit u).last = s.frame
      else (calCancel s).ust u = s.ust u ∧ (calCancel s).fgi F.CAL_UCAP_ABANDON u = 1 := by
  unfold calCancel
  rw [← hu]
  simp only [State.fg_eq, State.ust]
  cases hf0 : (s.unit u).f0 with
  | none =>
    rw [calAbandon_of_no_window _ h1 h3 hcut hf0, if_pos rfl]
    have hunit := State.unit_modUnit (s := (s.bump F.CAL_ABANDCNT).fsi F.CAL_UCAP_ABANDON u 1)
      (fun x => { x with cut := true, last := s.frame }) hlt
    have hlast := congrArg CalUnit.last hunit
    refine ⟨congrArg CalUnit.cut hunit, ?_, ?_, ?_, hlast⟩
    all_goals simp (disch := decide)
    all_goals rfl
  | some f0 =>
    rw [calAbandon_of_window _ h1 h3 hcut hf0, if_neg (Option.some_ne_none f0)]
    have hunit := State.unit_modUnit (s := (s.bump F.CAL_ABANDCNT).fsi F.CAL_UCAP_ABANDON u 1) (fun x => { x with cut := true }) hlt
    refine ⟨?_, ?_, ?_, ?_⟩
    · rw [badCap_unit, calShorten_cut, hunit]
      rwa [State.modUnit_cal, setAt_length]
    all_goals simp (disch := decide) [badCap, calShorten, modCap]

end

/-! ### Windows and sweeps (R395, R396, R400, R401) -/

section
variable {s : State} {u : Nat}

/-- R402: the capture of a window that begins with heater frame `f0` gets a number, and its flags clear. -/
def windowTaken (u f0 last id : Nat) (s : State) : State :=
  let s := s.modCal fun c => { c with capNo := id, caps := (⟨id, f0, last, false⟩ :: c.caps).take 16 }
  let s := (s.modUnit u fun x => { x with f0 := some f0, last := last, cut := false, wait := [], rows := [] }).fsi F.CAL_UFRM_FRAME u f0
  ((((s.fsi F.CAL_UCAP_CAPID u id).fsi F.CAL_UCAP_COUNT u 0).fsi F.CAL_UCAP_ABANDON u 0).fsi F.CAL_UCAP_BANDCHG u 0).fsi F.CAL_UCAP_RNGCHG u 0

theorem holdDone_of_wait (h : s.ust u = 2) : holdDone u s = s := if_neg fun hc => absurd (h.symm.trans hc.1) (by decide)

theorem windowFound_of_element (hst : s.ust u = 2) (hf0 : (s.unit u).f0 = none) (hscale : (s.unit u).scale = false)
    (hat : s.windowAt (s.unit u) = true) : windowFound u s =
      windowTaken u (add32 s.frame 3) (sub32 (add32 (add32 s.frame 3) (s.unit u).span) 1) ((s.cal.capNo + 1) % 65536) s := by
  unfold windowFound
  dsimp only
  rw [holdDone_of_wait hst, if_pos ⟨hst, hf0, hat⟩, hscale, if_neg Bool.false_ne_true]
  rfl

theorem windowTaken_shows (f0 last id : Nat) (hlt : u < s.cal.units.length) :
    (windowTaken u f0 last id s).unit u = { s.unit u with f0 := some f0, last := last, cut := false, wait := [], rows := [] } ∧
      (windowTaken u f0 last id s).fgi F.CAL_UFRM_FRAME u = f0 % 2 ^ 32 ∧
      (windowTaken u f0 last id s).fgi F.CAL_UCAP_CAPID u = id % 2 ^ 16 ∧ (windowTaken u f0 last id s).fgi F.CAL_UCAP_COUNT u = 0 ∧
      (windowTaken u f0 last id s).fgi F.CAL_UCAP_ABANDON u = 0 ∧ (windowTaken u f0 last id s).cal.capNo = id ∧
      (windowTaken u f0 last id s).cal.caps.head? = some ⟨id, f0, last, false⟩ := by
  refine ⟨State.unit_of_units rfl hlt, ?_, ?_, ?_, ?_, rfl, rfl⟩
  all_goals unfold windowTaken; simp (disch := decide)
  all_goals rfl

theorem windowTimeout_of_late (hst : s.ust u = 1 ∨ s.ust u = 2) (hf0 : (s.unit u).f0 = none)
    (hwait : Nat.max 1 (s.fg F.CAL_ACCCFG_WAITMAX) * 1024 ≤ sub32 s.coming (s.unit u).holdF) : windowTimeout u s =
      ((s.modUnit u fun x => { x with last := s.coming }).fsi F.CAL_USTAT_RESULT u 3).fsi F.CAL_USTAT_STATE u 4 :=
  if_pos ⟨hst, hf0, hwait⟩

/-- What the end of a unit's work shows: its result, and that it releases its hold. -/
theorem released_shows (t : State) {r : Nat} (h : r < 2 ^ F.CAL_USTAT_RESULT.width) :
    ((t.fsi F.CAL_USTAT_RESULT u r).fsi F.CAL_USTAT_STATE u 4).ust u = 4 ∧
      ((t.fsi F.CAL_USTAT_RESULT u r).fsi F.CAL_USTAT_STATE u 4).fgi F.CAL_USTAT_RESULT u = r := by
  unfold State.ust
  simp (disch := decide) only [State.fgi_fsi, State.fgi_fsi_of_ne, Nat.mod_eq_of_lt h]
  exact ⟨rfl, trivial⟩

theorem sweepRun_of_due {f0 : Nat} (hst : s.ust u = 2) (hf0 : (s.unit u).f0 = some f0) (hdue : notBefore s.coming f0 = true) :
    sweepRun u s = (s.fsi F.CAL_USTAT_STATE u 3).fsi F.CAL_UCAP_BAND u (s.fg F.SEG_STAT_BAND) := by
  unfold sweepRun
  rw [hf0]
  exact if_pos ⟨hst, hdue⟩

theorem scaleChange_of_due {f0 : Nat} (hst : s.ust u = 3) (hf0 : (s.unit u).f0 = some f0) (hscale : (s.unit u).scale = true)
    (htarget : (s.unit u).target < 4) (hdue : s.coming = add32 f0 64) : scaleChange u s = rngApply (s.unit u).quay s := by
  unfold scaleChange
  dsimp only
  rw [hf0]
  exact if_pos ⟨hscale, hst, hdue, htarget⟩

theorem captureEnd_of_element {f0 : Nat} (hst : s.ust u = 2 ∨ s.ust u = 3) (hf0 : (s.unit u).f0 = some f0)
    (hscale : (s.unit u).scale = false) (hlast : later s.frame (s.unit u).last = true) (hwait : (s.unit u).wait = []) :
    captureEnd u s = (s.fsi F.CAL_USTAT_RESULT u (if (s.unit u).cut then 2 else 1)).fsi F.CAL_USTAT_STATE u 4 := by
  unfold captureEnd
  dsimp only
  rw [hf0]
  dsimp only
  rw [if_pos ⟨hst, .inl ⟨hlast, hwait⟩⟩, hscale, Bool.false_and, if_neg Bool.false_ne_true]

end

/-! ### Release (R400) -/

section
variable {s : State} {u b : Nat}

theorem releaseBundle_bun (h : ((List.range 4).find? fun v => decide (v ≠ u) && s.unitBusy v && decide (b ∈ (s.unit v).held)) = none) :
    ((releaseBundle u b s).bun b).calHold = none := by
  unfold releaseBundle
  rw [h]
  dsimp only
  rw [State.bun_modBun_same]

/-- No other unit holds a bundle. -/
theorem heldByNone (h : ((List.range 4).all fun v => decide (v = u ∨ b ∉ (s.unit v).held)) = true) :
    ((List.range 4).find? fun v => decide (v ≠ u) && s.unitBusy v && decide (b ∈ (s.unit v).held)) = none := by
  refine List.find?_eq_none.mpr fun v hv => ?_
  have hfree := of_decide_eq_true (List.all_eq_true.mp h v hv)
  simp only [Bool.and_eq_true, decide_eq_true_eq, not_and]
  exact fun hne hmem => hfree.resolve_left hne.1 hmem

theorem releaseBundle_cal (u b : Nat) (s : State) : (releaseBundle u b s).cal = s.cal :=
  cal_of_seen ⟨[.fab], true, []⟩ s _ (releaseBundle_seen _ u b s rfl) rfl

/-- R400: what a unit that enters DONE shows. -/
theorem unitDone_shows (u b : Nat) (s : State) : (unitDone u s).ust u = 5 ∧ ((unitDone u s).bun b).calHold = (s.bun b).calHold ∧
    (unitDone u s).unit u = s.unit u ∧ (unitDone u s).pend 29 = true ∧
    (unitDone u s).fg F.CAL_SWEEPCNT = Nat.min (s.fg F.CAL_SWEEPCNT + 1) (2 ^ 32 - 1) := by
  unfold unitDone State.ust
  refine ⟨?_, ?_, State.unit_congr (congrArg CalSt.units (State.raise_cal _ 29)) u, State.raise_pend _ 29, ?_⟩
  · simp (disch := decide)
    rfl
  · unfold State.bun
    rw [State.raise_fab]
    rfl
  · simp (disch := decide) [State.fg_eq]

/-- R400: the last bundle of a unit is released, and the unit is done. -/
theorem calRelease_of_one (hst : s.ust u = 4) (hholds : s.holds = true) (hheld : (s.unit u).held = [b])
    (hdue : s.secondUpdate b (s.unit u).last = true) :
    calRelease u s = unitDone u ((releaseBundle u b s).modUnit u fun x => { x with held := [], f0 := none }) := by
  have hgone : ((s.unit u).held.filter fun b => !s.holds || s.secondUpdate b (s.unit u).last) = [b] := by
    rw [hheld, List.filter_cons_of_pos (by rw [hdue, Bool.or_true]), List.filter_nil]
  have hleft : ((s.unit u).held.filter fun c => decide (c ∉ [b])) = [] := by
    rw [hheld]
    simp
  unfold calRelease
  rw [if_pos hst]
  dsimp only
  rw [hgone, hleft, if_pos hholds]
  exact if_pos rfl

end

/-- Settles O47: each row through the equation for its case, and what that case writes. -/
theorem calibrationUnits : Obligations.CalibrationUnits := by
  refine ⟨fun v s => ⟨_, rfl, ?_⟩, fun s h => ⟨_, rfl, calGoElement_shows s _ _ rfl rfl h⟩,
    fun s h => ⟨_, rfl, calGoScale_shows s _ _ rfl rfl h⟩,
    fun s h1 h3 hcut hlen hu => ⟨_, rfl, calCancel_shows rfl h1 h3 hcut (by rwa [hlen])⟩,
    fun u s hst hf0 hscale hat hlen => ⟨_, rfl, ?_⟩, fun u s hst hf0 hwait => ⟨_, rfl, ?_⟩,
    fun u f0 s hst hf0 hdue => ⟨_, rfl, ?_⟩, fun u f0 c s hst hf0 hscale htarget hat hc hack hdue hq => ⟨_, rfl, ?_⟩,
    fun u f0 s hst hf0 hscale hlast hwait => ⟨_, rfl, ?_⟩, fun u b s hst hholds hheld hdue hother => ⟨_, rfl, ?_⟩⟩
  · dsimp only
    split
    · rename_i h
      rw [calTrimWrite_of_free v.toNat h]
      exact ⟨tget_tset _ _ _ _, rfl, State.fgi_fs_self s F.CAL_STAT_DIRTY 1, rfl,
        State.fgi_fs_of_ne s (f := F.CAL_STAT_DIRTY) 0 1 (by decide)⟩
    · rename_i h
      rw [show calTrimWrite v.toNat s = s.fs F.CAL_STAT_TRIMERR 1 from if_neg h]
      exact ⟨rfl, State.fgi_fs_self s F.CAL_STAT_TRIMERR 1⟩
  · rw [windowFound_of_element hst hf0 hscale hat]
    obtain ⟨hunit, hfrm, hid, hcount, habandon, hno, hcaps⟩ := windowTaken_shows (s := s) (u := u.val) (add32 s.frame 3)
      (sub32 (add32 (add32 s.frame 3) (s.unit u.val).span) 1) ((s.cal.capNo + 1) % 65536) (hlen.symm ▸ u.isLt)
    exact ⟨hunit, hfrm, hid.trans (Nat.mod_mod_of_dvd _ (dvd_refl _)), hcount, habandon, hno, hcaps⟩
  · rw [windowTimeout_of_late hst hf0 hwait]
    exact released_shows _ (by decide)
  · rw [sweepRun_of_due hst hf0 hdue]
    refine ⟨?_, ?_, rfl⟩
    · exact (State.fgi_fsi_of_ne _ (f := F.CAL_UCAP_BAND) _ _ _ (by decide)).trans (State.fgi_fsi s F.CAL_USTAT_STATE _ 3)
    · exact (State.fgi_fsi _ F.CAL_UCAP_BAND _ _).trans (Nat.mod_eq_of_lt (State.fgi_lt s F.SEG_STAT_BAND 0))
  · have hne : s.quay (s.unit u.val).quay ≠ Quay.init := fun h => by
      rw [h] at hc
      exact Option.some_ne_none c hc.symm
    rw [scaleChange_of_due hst hf0 hscale htarget hat, rngApply_of_due hc hack hdue]
    refine ⟨?_, ?_, congrArg Quay.rng (State.quay_modQuay (fun x => { x with rng := none }) hne)⟩
    all_goals simp (disch := decide)
    all_goals rfl
  · rw [captureEnd_of_element hst hf0 hscale hlast hwait]
    obtain ⟨hend, hres⟩ := released_shows (u := u.val) s (r := if (s.unit u.val).cut then 2 else 1) (by split <;> decide)
    exact ⟨hend, hres, rfl⟩
  · rw [calRelease_of_one hst hholds hheld hdue]
    obtain ⟨hust, hbun, hunit, hpend, hcnt⟩ := unitDone_shows u.val b
      ((releaseBundle u.val b s).modUnit u.val fun x => { x with held := [], f0 := none })
    have hlt : u.val < s.cal.units.length := unit_lt_of_ne_init (g := CalUnit.held) (by rw [hheld]; exact List.cons_ne_nil _ _)
    have hnew : ((releaseBundle u.val b s).modUnit u.val fun x => { x with held := [], f0 := none }).unit u.val =
        { s.unit u.val with held := [], f0 := none } :=
      State.unit_of_units (by rw [State.modUnit_cal, State.unit_congr (congrArg CalSt.units (releaseBundle_cal u.val b s)),
        releaseBundle_cal]) hlt
    refine ⟨hust, hbun.trans (releaseBundle_bun (heldByNone hother)), ?_, ?_, hpend, ?_⟩
    · rw [hunit, hnew]
    · rw [hunit, hnew]
    · rw [hcnt]
      exact congrArg (fun v => Nat.min (v + 1) (2 ^ 32 - 1)) (State.fgi_of_seen ⟨[.fab], false, []⟩ s (releaseBundle u.val b s)
        F.CAL_SWEEPCNT 0 (releaseBundle_seen _ _ _ _ rfl) rfl)

end Sys2Proof.Machine
end

section
/-! PROOF. Heartbeats, takeovers, yields and planned swaps (14, R350 to R377). -/
namespace Sys2Proof.Machine

/-! ### Epochs and swaps dropped -/

section
variable (s : State)

/-- R371: what is left of the mirror once an open epoch has been discarded. -/
theorem epDiscard_mir : (epDiscard s).mir =
    { s.mir with epoch := none, joinWanted := s.mir.joinWanted || s.mir.epoch.any fun e => e.join } := by
  unfold epDiscard
  split
  · rename_i e he
    rw [he]
    exact State.sticky_mir _ _ _ _
  · rename_i he
    rw [he, Option.any_none, Bool.or_false, ← he]

/-- R377: what is left of the mirror once a planned swap has been dropped: the cells alone may differ. -/
theorem swapDrop_mir (reason : Nat) : ∃ n q, (swapDrop reason s).mir = { s.mir with swap := none, streamOut := n, streamQ := q } := by
  unfold swapDrop
  split
  · dsimp only
    split
    · exact ⟨_, _, rfl⟩
    · exact ⟨s.mir.streamOut, s.mir.streamQ, rfl⟩
  · rename_i h
    exact ⟨s.mir.streamOut, s.mir.streamQ, by rw [← Option.not_isSome_iff_eq_none.mp h]⟩

/-- What a discarded epoch writes of the registers. -/
def discardFlds : List Fld := [F.ICU_LOSTCNT, F.ICU_OVRw_SRC, F.ICU_PENDw_SRC, F.MIR_EPDISCARD, F.MIR_FLAGS_EPDISC]

@[simp] theorem epDiscard_fgi {f : Fld} (i : Nat) (hf : (Extent.mk [.seqs, .mir] false discardFlds).r f = false) :
    (epDiscard s).fgi f i = s.fgi f i := State.fgi_of_seen _ _ _ f i (epDiscard_seen _ _ rfl) hf

@[simp] theorem swapDrop_fgi {f : Fld} (reason i : Nat) (hf : f.id ≠ F.ROL_STAT_SWREASON.id) :
    (swapDrop reason s).fgi f i = s.fgi f i :=
  State.fgi_of_seen ⟨[.mir], false, [F.ROL_STAT_SWREASON]⟩ _ _ f i (swapDrop_seen _ _ _ rfl) (by simpa [Extent.r] using hf.symm)

@[simp] theorem epDiscard_dev : (epDiscard s).dev = s.dev := dev_of_seen ⟨[.seqs, .mir], true, []⟩ _ _ (epDiscard_seen _ _ rfl) rfl

@[simp] theorem swapDrop_dev (reason : Nat) : (swapDrop reason s).dev = s.dev :=
  dev_of_seen ⟨[.mir], true, []⟩ _ _ (swapDrop_seen _ _ _ rfl) rfl

@[simp] theorem alarm_fgi {f g : Fld} (i : Nat) (hg : g.id ≠ f.id) (hraise : (Extent.mk [.seqs] false raiseFlds).r g = false) :
    (alarm f s).fgi g i = s.fgi g i := State.fgi_sticky_of_ne s _ _ _ hg hraise

@[simp] theorem alarm_fgi_self {f : Fld} (hw : f.width = 1) (hraise : (Extent.mk [.seqs] false raiseFlds).r f = false) :
    (alarm f s).fgi f 0 = 1 := State.fgi_sticky_self s _ _ hw hraise

@[simp] theorem declare_fgi {f g : Fld} (i : Nat) (hg : g.id ≠ f.id) (hraise : (Extent.mk [.seqs] false raiseFlds).r g = false) :
    (declare f s).fgi g i = s.fgi g i := (State.fgi_raise_of_ne _ _ _ hraise).trans (State.fgi_fs_of_ne _ _ _ hg)

theorem declare_fgi_self {f : Fld} (hw : f.width = 1) (hraise : (Extent.mk [.seqs] false raiseFlds).r f = false) :
    (declare f s).fgi f 0 = 1 := by
  refine (State.fgi_raise_of_ne _ _ _ hraise).trans ((State.fgi_fs_self _ _ _).trans ?_)
  rw [hw]
  rfl

@[simp] theorem alarm_mir (f : Fld) : (alarm f s).mir = s.mir := State.sticky_mir _ _ _ _

@[simp] theorem alarm_dev (f : Fld) : (alarm f s).dev = s.dev := State.sticky_dev _ _ _ _

theorem alarm_auth (f : Fld) : (alarm f s).auth = s.auth := auth_of_seen _ _ _ (State.sticky_seen_seqs _ _) rfl

@[simp] theorem declare_mir (f : Fld) : (declare f s).mir = s.mir := State.raise_mir _ _

@[simp] theorem declare_dev (f : Fld) : (declare f s).dev = s.dev := State.raise_dev _ _

/-! ### A partner that has failed (R351, R354) -/

/-- R354: the state in which the partner has been declared failed, before an ACTIVE device becomes SOLO. -/
def partnerLost : State :=
  let s := s.modMir fun x => { x with failed := true, seen := false, pinRun := 0, mirRun := 0, bothRun := 0 }
  swapDrop 6 (epDiscard ((declare F.ROL_ALARM_PARTFAIL s).logFault 0x7001 noIndex 0))

theorem partnerLost_dev : (partnerLost s).dev = s.dev := by
  unfold partnerLost
  simp

theorem declareFailed_eq : declareFailed s = { partnerLost s with dev := if s.dev = .active then .solo else s.dev } := by
  unfold declareFailed
  show (if (partnerLost s).dev = .active then { partnerLost s with dev := .solo } else partnerLost s) = _
  rw [partnerLost_dev]
  split
  · rfl
  · rw [← partnerLost_dev]

/-- R354: the mirror's view of a partner declared failed. -/
theorem partnerLost_mir : (partnerLost s).mir.failed = true ∧ (partnerLost s).mir.seen = false ∧
    (partnerLost s).mir.judged = s.mir.judged ∧ (partnerLost s).mir.bothRun = 0 := by
  unfold partnerLost
  dsimp only
  obtain ⟨n, q, h⟩ := swapDrop_mir (epDiscard ((declare F.ROL_ALARM_PARTFAIL (s.modMir fun x =>
    { x with failed := true, seen := false, pinRun := 0, mirRun := 0, bothRun := 0 })).logFault 0x7001 noIndex 0)) 6
  rw [h, epDiscard_mir, State.logFault_mir, declare_mir]
  exact ⟨rfl, rfl, rfl, rfl⟩

/-- R354: the runs of frames in which the pin path, the mirror path and both were missed, with the running frame. -/
def missRuns (x : MirSt) : Nat × Nat × Nat :=
  (if x.seen && !x.hbtEdge && x.mirSeen then x.pinRun + 1 else 0, if x.seen && x.hbtEdge && !x.mirSeen then x.mirRun + 1 else 0,
    if x.seen && !x.hbtEdge && !x.mirSeen then x.bothRun + 1 else 0)

/-- R351: the heartbeats of the running frame noted, before their runs are judged. -/
def heartNoted : State :=
  let x := s.mir
  let s := (s.fb F.ROL_STAT_HBTOK x.hbtEdge).fb F.ROL_STAT_MIROK x.mirSeen
  let s := s.when (x.seen && !x.hbtEdge) fun s => s.bump F.ROL_HBTMISS
  let s := s.when (x.seen && !x.mirSeen) fun s => s.bump F.ROL_MIRMISS
  s.modMir fun y =>
    { y with
      judged := true
      seen := y.seen || x.hbtEdge || x.mirSeen
      failed := y.failed && !x.hbtEdge && !x.mirSeen
      pinRun := (missRuns x).1
      mirRun := (missRuns x).2.1
      bothRun := (missRuns x).2.2 }

theorem judge_eq : judge s =
    if s.mir.judged then s
    else
      let t := heartNoted s
      let t := t.when (decide ((missRuns s.mir).1 = t.missLim)) (pathAlarm F.ROL_ALARM_HBTPATH 1)
      let t := t.when (decide ((missRuns s.mir).2.1 = t.missLim)) (pathAlarm F.ROL_ALARM_MIRPATH 2)
      if t.missLim ≤ (missRuns s.mir).2.2 then declareFailed t else t := rfl

theorem missLim_pos : 0 ≠ s.missLim := by
  have h : 2 ≤ s.missLim := Nat.le_min.mpr ⟨by decide, Nat.le_max_left _ _⟩
  omega

theorem no_pathAlarm (g : State → State) : s.when (decide (0 = s.missLim)) g = s := by
  rw [decide_eq_false (missLim_pos s)]
  rfl

/-- R351: a frame without a heartbeat on either path, from a partner that has been seen: both misses count. -/
def bothMissed : State :=
  ((((s.fb F.ROL_STAT_HBTOK false).fb F.ROL_STAT_MIROK false).bump F.ROL_HBTMISS).bump F.ROL_MIRMISS).modMir fun x =>
    { x with judged := true, pinRun := 0, mirRun := 0, bothRun := s.mir.bothRun + 1 }

variable {s}

theorem judge_of_both_missed (hj : s.mir.judged = false) (hseen : s.mir.seen = true) (hpin : s.mir.hbtEdge = false)
    (hmir : s.mir.mirSeen = false) (hlim : s.missLim ≤ s.mir.bothRun + 1) : judge s = declareFailed (bothMissed s) := by
  have hruns : missRuns s.mir = (0, 0, s.mir.bothRun + 1) := by simp [missRuns, hseen, hpin, hmir]
  have hnoted : heartNoted s = bothMissed s := by
    unfold heartNoted bothMissed State.when
    dsimp only
    rw [hruns]
    simp [hseen, hpin, hmir]
  have hlims : (bothMissed s).missLim = s.missLim := by
    unfold State.missLim bothMissed
    simp only [State.fg_eq]
    simp (disch := decide)
  rw [judge_eq, hj, if_neg Bool.false_ne_true, hnoted, hruns]
  dsimp only
  rw [no_pathAlarm, no_pathAlarm, if_pos (hlims ▸ hlim)]

/-- R351, R354: what the registers show once the partner has been declared failed. -/
theorem declareFailed_bothMissed_shows : (declareFailed (bothMissed s)).fg F.ROL_ALARM_PARTFAIL = 1 ∧
    (declareFailed (bothMissed s)).fg F.ROL_STAT_HBTOK = 0 ∧ (declareFailed (bothMissed s)).fg F.ROL_STAT_MIROK = 0 ∧
    (declareFailed (bothMissed s)).fg F.ROL_HBTMISS = Nat.min (s.fg F.ROL_HBTMISS + 1) (2 ^ 32 - 1) ∧
    (declareFailed (bothMissed s)).fg F.ROL_MIRMISS = Nat.min (s.fg F.ROL_MIRMISS + 1) (2 ^ 32 - 1) := by
  have hfg : ∀ f : Fld, (declareFailed (bothMissed s)).fg f = (partnerLost (bothMissed s)).fgi f 0 := fun f => by
    rw [declareFailed_eq]
    rfl
  simp only [hfg, State.fg_eq]
  unfold partnerLost bothMissed
  refine ⟨?_, ?_, ?_, ?_, ?_⟩
  all_goals simp (disch := decide)
  · exact declare_fgi_self _ rfl rfl
  · rfl
  · rfl

/-! ### Authority taken over (R355, R371, R373) -/

/-- R371, R373: what a takeover does before the device holds authority. -/
def takenOver (planned : Bool) (s : State) : State :=
  let s := epDiscard s
  let s := s.popBundles.foldl (fun s b => takeBundle b s) s
  let holds := s.popBundles.filter fun b => (s.bun b).calHold.isSome
  let s := { s with cal := { s.cal with orphans := holds.map fun b => (b, s.coming) } }
  s.when (!planned) fun s => takeoverSessions ((s.add F.ROL_FIREMISS s.mir.fires.length).modMir fun x => { x with objs := [] })

/-- R64, R373: the device holds authority, and its lanes and open records follow. -/
def authorityHeld (planned : Bool) (first : Nat) (s : State) : State :=
  let s := holdAuthority (if planned then .active else .solo) s
  let s := rampTakeover first (authLanes (some first) s)
  s.modExec fun x =>
    { x with recs := x.recs.map fun (r : Nat × ExecRec) => (r.1, if r.2.isOpen then { r.2 with tkovr := true } else r.2) }

/-- R371, R373: the takeover noted. -/
def takeoverNoted (cold : Bool) (first : Nat) (s : State) : State :=
  let s := alarm F.ROL_ALARM_TAKEOVER ((s.fs F.ROL_TKFRM_FRAME first).bump F.ROL_TAKECNT)
  let s := s.when cold (alarm F.ROL_ALARM_COLDTAKE)
  (s.logFault 0x7005 noIndex (b2n cold)).modMir fun x =>
    { x with fires := [], history := [], epoch := none, joinWanted := false, wanted := false, asked := false }

theorem gainAuthority_eq (planned : Bool) (first : Nat) (s : State) : gainAuthority planned first s =
    takeoverNoted (!planned && !s.flag F.ROL_STAT_READY) first (authorityHeld planned first (takenOver planned s)) := rfl

/-- An operation that is done or not leaves what it leaves when it is done. -/
theorem State.when_part {β : Type} (part : State → β) {g : State → State} (hg : ∀ t, part (g t) = part t) (b : Bool) (s : State) :
    part (s.when b g) = part s := by
  cases b
  · rfl
  · exact hg s

/-- What the tables, the lanes and the records of a takeover leave outside themselves. -/
def takeoverFlds : List Fld :=
  F.NET_TXDROP :: F.MOR_PARKCNT :: F.ROL_FIREMISS :: F.QY_DRVSTAT_RAMP :: F.ROL_STAT_READY :: (roleFlds ++ discardFlds)

/-- What a takeover may change before it is noted. -/
def takeoverExtent : Extent :=
  ⟨[.dev, .auth, .seqs, .fab, .quays, .lanes, .exec, .tide, .pen, .mir, .cal], false, takeoverFlds⟩

theorem takenOver_seen (planned : Bool) (s : State) : State.seen takeoverExtent (takenOver planned s) = State.seen takeoverExtent s := by
  unfold takenOver
  refine (State.when_seen _ _ _ _ fun t => ?_).trans ?_
  · exact (takeoverSessions_seen _ _ rfl).trans ((State.modMir_seen _ _ _ rfl).trans (State.add_seen _ _ _ _ rfl))
  · exact (foldl_seen takeoverExtent _ _ _ fun t b => takeBundle_seen _ b t rfl).trans (epDiscard_seen _ _ rfl)

theorem authorityHeld_seen (planned : Bool) (first : Nat) (s : State) :
    State.seen takeoverExtent (authorityHeld planned first s) = State.seen takeoverExtent s :=
  (State.modExec_seen _ _ _ rfl).trans ((rampTakeover_seen _ _ _ rfl).trans ((authLanes_seen _ _ _ rfl).trans
    (holdAuthority_seen _ _ _ rfl)))

/-- What follows once the device holds authority. -/
def followExtent : Extent := ⟨[.fab, .quays, .lanes, .exec], true, []⟩

theorem authorityHeld_seen_held (planned : Bool) (first : Nat) (s : State) : State.seen followExtent (authorityHeld planned first s) =
    State.seen followExtent (holdAuthority (if planned then .active else .solo) s) :=
  (State.modExec_seen _ _ _ rfl).trans ((rampTakeover_seen _ _ _ rfl).trans (authLanes_seen _ _ _ rfl))

theorem authorityHeld_dev (planned : Bool) (first : Nat) (s : State) :
    (authorityHeld planned first s).dev = if planned then .active else .solo :=
  (dev_of_seen _ _ _ (authorityHeld_seen_held planned first s) rfl).trans (holdAuthority_dev _ _)

theorem authorityHeld_auth (planned : Bool) (first : Nat) (s : State) : (authorityHeld planned first s).auth = true :=
  (auth_of_seen _ _ _ (authorityHeld_seen_held planned first s) rfl).trans (holdAuthority_auth _ _)

theorem authorityHeld_mir (planned : Bool) (first : Nat) (s : State) :
    (authorityHeld planned first s).mir = { s.mir with dualRun := 0, yieldDue := false, joinEnd := none } :=
  (mir_of_seen _ _ _ (authorityHeld_seen_held planned first s) rfl).trans (holdAuthority_mir _ _)

/-- A takeover keeps a planned swap as it is; one that is not planned drops the objects that wait (R365). -/
theorem takenOver_mir (planned : Bool) (s : State) : (takenOver planned s).mir.swap = s.mir.swap ∧
    (planned = false → (takenOver planned s).mir.objs = []) := by
  have hswap : (epDiscard s).mir.swap = s.mir.swap := by rw [epDiscard_mir]
  have hmir : ((epDiscard s).popBundles.foldl (fun s b => takeBundle b s) (epDiscard s)).mir = (epDiscard s).mir :=
    mir_of_seen ⟨[.seqs, .fab], true, []⟩ _ _ (foldl_seen _ _ _ _ fun t b => takeBundle_seen _ b t rfl) rfl
  have hsess : ∀ t : State, (takeoverSessions t).mir = t.mir := fun t =>
    mir_of_seen ⟨[.seqs, .pen], true, []⟩ _ _ (takeoverSessions_seen _ _ rfl) rfl
  unfold takenOver
  cases planned with
  | true => exact ⟨(congrArg MirSt.swap hmir).trans hswap, fun h => absurd h (by decide)⟩
  | false =>
    unfold State.when
    rw [Bool.not_false, if_pos rfl]
    dsimp only
    rw [hsess]
    exact ⟨(congrArg MirSt.swap hmir).trans hswap, fun _ => rfl⟩

section
variable (cold : Bool) (first : Nat) (s : State)

theorem takeoverNoted_dev : (takeoverNoted cold first s).dev = s.dev := by
  unfold takeoverNoted
  dsimp only
  rw [State.modMir_dev, State.logFault_dev, State.when_part State.dev fun t => alarm_dev t _, alarm_dev]
  rfl

theorem takeoverNoted_auth : (takeoverNoted cold first s).auth = s.auth := by
  unfold takeoverNoted
  dsimp only
  rw [State.modMir_auth, auth_of_seen ⟨[.log, .port], true, []⟩ _ _ (State.logFault_seen _ _ _ _ _ rfl) rfl,
    State.when_part State.auth fun t => alarm_auth t _, alarm_auth]
  rfl

theorem takeoverNoted_mir : (takeoverNoted cold first s).mir = { s.mir with
    fires := [], history := [], epoch := none, joinWanted := false, wanted := false, asked := false } := by
  unfold takeoverNoted
  dsimp only
  rw [State.modMir_mir, State.logFault_mir, State.when_part State.mir fun t => alarm_mir t _, alarm_mir]
  rfl

theorem State.when_alarm_fgi {f g : Fld} (hg : g.id ≠ f.id) (hraise : (Extent.mk [.seqs] false raiseFlds).r g = false) :
    (s.when cold (alarm f)).fgi g 0 = s.fgi g 0 := State.fgi_when s cold (alarm_fgi s 0 hg hraise)

theorem takeoverNoted_shows : (takeoverNoted cold first s).fg F.ROL_TKFRM_FRAME = first % 2 ^ 32 ∧
    (takeoverNoted cold first s).fg F.ROL_TAKECNT = Nat.min (s.fg F.ROL_TAKECNT + 1) (2 ^ 32 - 1) ∧
    (takeoverNoted cold first s).fg F.ROL_ALARM_TAKEOVER = 1 ∧ (cold = true → (takeoverNoted cold first s).fg F.ROL_ALARM_COLDTAKE = 1) := by
  unfold takeoverNoted
  simp only [State.fg_eq]
  refine ⟨?_, ?_, ?_, fun h => ?_⟩
  · simp (disch := decide) [State.when_alarm_fgi]
    rfl
  · simp (disch := decide) [State.when_alarm_fgi]
  · simp (disch := decide) [State.when_alarm_fgi]
  · rw [h]
    simp (disch := decide) [State.when]

end

/-! ### Yields and planned swaps (R356, R377) -/

theorem enterStandby_sync (s : State) : (enterStandby s).fg F.MIR_STAT_SYNC = 0 :=
  (State.fgi_of_seen _ _ _ _ 0 (enterStandby_seen_standingBy s) rfl).trans (State.fgi_fsi _ F.MIR_STAT_SYNC 0 0)

theorem enterStandby_joined (s : State) : (enterStandby s).fg F.MIR_STAT_JOINED = 0 := by
  refine (State.fgi_of_seen _ _ _ _ 0 (enterStandby_seen_standingBy s) rfl).trans ?_
  exact (State.fgi_fsi_ne _ F.MIR_STAT_SYNC F.MIR_STAT_JOINED 0 0 0 (by decide)).trans (State.fgi_fsi _ F.MIR_STAT_JOINED 0 0)

theorem swapDrop_swap (reason : Nat) (s : State) : (swapDrop reason s).mir.swap = none := by
  obtain ⟨n, q, h⟩ := swapDrop_mir s reason
  rw [h]

theorem swapDrop_reason {p : SwapPlan} {s : State} (reason : Nat) (h : s.mir.swap = some p) :
    (swapDrop reason s).fg F.ROL_STAT_SWREASON = reason % 2 ^ F.ROL_STAT_SWREASON.width := by
  unfold swapDrop
  rw [if_pos (by rw [h]; rfl)]
  dsimp only
  split
  · exact State.fgi_fsi _ F.ROL_STAT_SWREASON 0 reason
  · exact State.fgi_fsi _ F.ROL_STAT_SWREASON 0 reason

/-- What a takeover writes of the registers. -/
def gainFlds : List Fld :=
  F.DBG_FLTSTAT_CLASS :: F.ROL_ALARM_COLDTAKE :: F.ROL_ALARM_TAKEOVER :: F.ROL_TAKECNT :: F.ROL_TKFRM_FRAME :: takeoverFlds

/-- A takeover leaves the count of swaps. -/
theorem gainAuthority_swapcnt (planned : Bool) (first : Nat) (s : State) :
    (gainAuthority planned first s).fgi F.ROL_SWAPCNT 0 = s.fgi F.ROL_SWAPCNT 0 :=
  State.fgi_of_seen ⟨[.dev, .auth, .seqs, .log, .fab, .quays, .lanes, .exec, .tide, .pen, .mir, .cal, .port], false, gainFlds⟩ _ _ _ 0
    (gainAuthority_seen _ _ _ _ rfl) rfl

theorem takeover_of_silent {s : State} (hdev : s.dev = .standby) (hfailed : s.mir.failed = true) (hact : s.mir.actEdges % 4 = 0) :
    takeover s = gainAuthority false (add32 s.coming 1) s := by
  unfold takeover
  rw [if_pos ⟨hdev, hfailed⟩, State.actAsserted, decide_eq_false (not_not.mpr hact), if_neg Bool.false_ne_true]

theorem takeover_of_claimed {s : State} (hdev : s.dev = .standby) (hfailed : s.mir.failed = true) (hact : s.mir.actEdges % 4 ≠ 0) :
    takeover s = alarm F.ROL_ALARM_ACTLIVE s := by
  unfold takeover
  rw [if_pos ⟨hdev, hfailed⟩, State.actAsserted, decide_eq_true hact, if_pos rfl]

/-- R377: a planned swap of which nothing is left, at its frame. -/
theorem swapAt_of_due {s : State} {p : SwapPlan} (h : s.mir.swap = some p) (hdue : s.coming = p.w) : swapAt s =
    let t := s.modMir fun x => { x with swap := none }
    if s.dev = .standby then gainAuthority true p.w (t.bump F.ROL_SWAPCNT)
    else if s.dev = .active then enterStandby (t.bump F.ROL_SWAPCNT)
    else t := by
  unfold swapAt
  rw [h]
  exact if_pos hdue

end

/-- Settles O43: a failure through `judge_of_both_missed`, a change of authority through the steps of `gainAuthority_eq` and
`enterStandby`, and what drops a planned swap. -/
theorem heartbeatsAndHandover : Obligations.HeartbeatsAndHandover := by
  refine ⟨fun s => rfl, fun s => ⟨_, rfl, rfl, ?_, ?_, rfl⟩, fun s hj hseen hpin hmir hlim => ⟨_, rfl, ?_⟩,
    fun s hdev hfailed hact => ⟨_, rfl, ?_⟩, fun s hdev hfailed hact => ⟨_, rfl, ?_⟩, fun s hholds hyield => ⟨_, rfl, ?_⟩,
    fun s => ⟨_, rfl, ?_⟩, fun s p hp hlater => ⟨_, rfl, ?_⟩, fun s p hp hholds hat hhdr => ⟨_, rfl, ?_⟩,
    fun s p hp hat => ⟨_, rfl, ?_⟩⟩
  · show (s.mir.actEdges ||| 2 ^ 0) % 2 = 1
    rw [← setBits_one_eq_or, setBits]
    omega
  · show (s.mir.actEdges ||| 2 ^ 0) / 2 = s.mir.actEdges / 2
    rw [← setBits_one_eq_or, setBits]
    omega
  · have hjudge : partnerFailed s = declareFailed (bothMissed s) :=
      (if_pos ⟨hj, hseen, hpin, hmir, hlim⟩).trans (judge_of_both_missed hj hseen hpin hmir hlim)
    obtain ⟨hfail, hhb, hmo, hhm, hmm⟩ := declareFailed_bothMissed_shows (s := s)
    obtain ⟨hfailed, hnotseen, hjudged, hrun⟩ := partnerLost_mir (bothMissed s)
    rw [hjudge]
    refine ⟨?_, ?_, ?_, ?_, hfail, ?_, hhb, hmo, hhm, hmm⟩
    all_goals rw [declareFailed_eq]
    · exact hfailed
    · exact hnotseen
    · exact hjudged
    · exact hrun
    · rfl
  · rw [takeover_of_silent hdev hfailed hact, gainAuthority_eq, takeoverNoted_dev, takeoverNoted_auth, takeoverNoted_mir, authorityHeld_dev,
      authorityHeld_auth, authorityHeld_mir]
    obtain ⟨hfrm, hcnt, htake, hcold⟩ := takeoverNoted_shows (!false && !s.flag F.ROL_STAT_READY) (add32 s.coming 1)
      (authorityHeld false (add32 s.coming 1) (takenOver false s))
    refine ⟨rfl, rfl, ?_, ?_, htake, fun h => hcold (by rw [h]; rfl), rfl, (takenOver_mir false s).2 rfl⟩
    · rw [hfrm, add32, Nat.mod_mod_of_dvd _ (dvd_refl _)]
    · rw [hcnt]
      exact congrArg (fun v => Nat.min (v + 1) (2 ^ 32 - 1)) (State.fgi_of_seen _ _ _ F.ROL_TAKECNT 0
        ((authorityHeld_seen _ _ _).trans (takenOver_seen false s)) rfl)
  · rw [takeover_of_claimed hdev hfailed hact, alarm_dev, alarm_auth, alarm_mir]
    exact ⟨hdev, rfl, alarm_fgi_self s rfl rfl, rfl⟩
  · have hnow : yieldNow s = enterStandby s := if_pos (by rw [hholds, hyield]; rfl)
    rw [hnow, enterStandby_dev, enterStandby_auth, enterStandby_mir]
    exact ⟨rfl, rfl, enterStandby_ready s, enterStandby_sync s, enterStandby_joined s, rfl, rfl⟩
  · show if s.dev ≠ .active then (rolSwap s).fg F.ROL_STAT_SWREASON = 1 ∧ (rolSwap s).mir = s.mir else _
    unfold rolSwap
    dsimp only
    split_ifs
    · exact ⟨State.fg_fs s F.ROL_STAT_SWREASON 1, rfl⟩
    · exact ⟨State.fg_fs s F.ROL_STAT_SWREASON 2, rfl⟩
    · exact ⟨State.fg_fs s F.ROL_STAT_SWREASON 4, rfl⟩
    · exact ⟨State.fg_fs s F.ROL_STAT_SWREASON 3, rfl⟩
    · exact ⟨rfl, rfl, rfl⟩
  · have hdrop : rolSwcancel s = swapDrop 6 s := by
      unfold rolSwcancel
      rw [hp]
      exact if_pos hlater
    rw [hdrop]
    exact ⟨swapDrop_swap 6 s, swapDrop_reason 6 hp, swapDrop_dev s 6⟩
  · have hdrop : swapNoack s = swapDrop 5 s := by
      unfold swapNoack
      rw [hp]
      refine if_pos ⟨hholds, hat, ?_⟩
      cases hx : s.mir.header with
      | none => rfl
      | some x =>
        rw [hx, Option.all_some] at hhdr
        exact Bool.not_eq_true' _ ▸ hhdr
    rw [hdrop]
    exact ⟨swapDrop_swap 5 s, swapDrop_reason 5 hp, swapDrop_dev s 5⟩
  · rw [swapAt_of_due hp hat]
    dsimp only
    by_cases hst : s.dev = .standby
    · have hna : s.dev ≠ .active := by rw [hst]; decide
      rw [if_pos hst]
      refine ⟨?_, fun _ => (gainAuthority_swapcnt _ _ _).trans (State.fgi_bump_self _ rfl), fun _ => ?_, fun h => absurd h hna,
        fun h => absurd hst h⟩
      · rw [gainAuthority_eq, takeoverNoted_mir, authorityHeld_mir]
        exact (takenOver_mir true _).1
      · rw [gainAuthority_eq, takeoverNoted_dev, takeoverNoted_auth, authorityHeld_dev, authorityHeld_auth]
        exact ⟨rfl, rfl, (takeoverNoted_shows _ _ _).1⟩
    · rw [if_neg hst]
      by_cases hac : s.dev = .active
      · rw [if_pos hac, enterStandby_mir, enterStandby_dev, enterStandby_auth]
        refine ⟨rfl, fun _ => ?_, fun h => absurd h hst, fun _ => ⟨rfl, rfl⟩, fun _ h => absurd hac h⟩
        exact (enterStandby_fgi _ F.ROL_SWAPCNT 0 rfl (by decide) (by decide) (by decide)).trans (State.fgi_bump_self _ rfl)
      · rw [if_neg hac]
        exact ⟨rfl, fun h => absurd h (not_or.mpr ⟨hst, hac⟩), fun h => absurd h hst, fun h => absurd h hac, fun _ _ => ⟨rfl, rfl⟩⟩

end Sys2Proof.Machine
end

section
/-! PROOF. Frames and lanes of the mirror link, losses, tallies and epochs (14, R351, R358 to R371). -/
namespace Sys2Proof.Machine

/-! ### Lanes -/

section
variable {s : State} {k : Nat}

/-- A lane that is not down is one of the lanes that there are. -/
theorem mlane_lt (h : (s.mlane k).st ≠ 0) : k < s.mir.lanes.length := by
  by_contra hlen
  exact h (congrArg MLane.st (List.getD_eq_default _ _ (Nat.le_of_not_lt hlen)))

theorem State.mlane_of_lanes {t : State} {x : MLane} (h : t.mir.lanes = setAt s.mir.lanes k x) (hlt : k < s.mir.lanes.length) :
    t.mlane k = x := by
  unfold State.mlane
  rw [h, getD_setAt, if_pos ⟨rfl, hlt⟩]

theorem State.mlane_congr {t : State} (h : t.mir.lanes = s.mir.lanes) (k : Nat) : t.mlane k = s.mlane k := by
  unfold State.mlane
  rw [h]

theorem State.mlane_modMlane (g : MLane → MLane) (h : k < s.mir.lanes.length) : (s.modMlane k g).mlane k = g (s.mlane k) :=
  State.mlane_of_lanes rfl h

theorem State.modMlane_lanes_length (g : MLane → MLane) : (s.modMlane k g).mir.lanes.length = s.mir.lanes.length :=
  setAt_length _ _ _

end

/-! ### Frames on a lane that is up (R351, R358, R359) -/

section
variable (f : MFrame) (s : State)

theorem hearHeader_lanes : (hearHeader f s).mir.lanes = s.mir.lanes := by
  unfold hearHeader
  split <;> rfl

theorem hearHeader_inbox : (hearHeader f s).mir.inbox = s.mir.inbox := by
  unfold hearHeader
  split <;> rfl

theorem hearHeader_streamIn : (hearHeader f s).mir.streamIn = s.mir.streamIn := by
  unfold hearHeader
  split <;> rfl

theorem hearHeader_loss : (hearHeader f s).mir.loss = s.mir.loss := by
  unfold hearHeader
  split <;> rfl

theorem hearHeader_dev : (hearHeader f s).dev = s.dev :=
  dev_of_seen ⟨[.mir], true, []⟩ _ _ (hearHeader_seen _ f s rfl) rfl

theorem hearHeader_frame : (hearHeader f s).frame = s.frame :=
  frame_of_seen ⟨[.mir], true, []⟩ _ _ (hearHeader_seen _ f s rfl) rfl

theorem hearHeader_fgi {g : Fld} (i : Nat) (hg : g.id ≠ F.ROL_STAT_SENERR.id) : (hearHeader f s).fgi g i = s.fgi g i :=
  State.fgi_of_seen ⟨[.mir], false, [F.ROL_STAT_SENERR]⟩ _ _ g i (hearHeader_seen _ f s rfl) (by simpa [Extent.r] using hg.symm)

variable {f}

theorem hearHeader_of_data (hcrc : f.hcrcOk = true) (htype : f.ftype = 2) : hearHeader f s =
    (s.modMir fun x => { x with
      header := some f
      mirSeen := x.mirSeen || decide (f.fnum = s.frame % 2 ^ 24)
      hdrOff := x.hdrOff || !decide (f.fnum = s.frame % 2 ^ 24) }).fb F.ROL_STAT_SENERR (f.senior == s.flag F.SYS_STRAP_SENIOR) :=
  if_pos (by rw [hcrc, htype]; rfl)

/-- R358: the lane's SYNC word of the running frame judged. -/
def syncHeard (k : Nat) (f : MFrame) (s : State) : State :=
  s.modMlane k fun l => { l with got := true, syncBad := if f.syncOk then 0 else l.syncBad + 1 }

/-- R359: a frame received whole, before its cells are judged. -/
def frameHeard (k : Nat) (f : MFrame) (s : State) : State :=
  (hearHeader f (syncHeard k f s)).modMlane k fun l => { l with crcBad := 0 }

variable (k : Nat) {s}

theorem upFrame_of_good (hcrc : f.crcOk = true) : upFrame k f s = hearCells k f (frameHeard k f s) := if_pos hcrc

theorem frameHeard_inbox : (frameHeard k f s).mir.inbox = s.mir.inbox := hearHeader_inbox f (syncHeard k f s)

theorem frameHeard_streamIn : (frameHeard k f s).mir.streamIn = s.mir.streamIn := hearHeader_streamIn f (syncHeard k f s)

theorem frameHeard_loss : (frameHeard k f s).mir.loss = s.mir.loss := hearHeader_loss f (syncHeard k f s)

theorem frameHeard_dev : (frameHeard k f s).dev = s.dev := hearHeader_dev f (syncHeard k f s)

theorem frameHeard_frame : (frameHeard k f s).frame = s.frame := hearHeader_frame f (syncHeard k f s)

theorem upFrame_of_bad (hcrc : f.crcOk = false) : upFrame k f s =
    ((hearHeader f (syncHeard k f s)).bump (if k = 0 then F.MIR_CRC0 else F.MIR_CRC1)).modMlane k fun l =>
      { l with crcBad := l.crcBad + 1 } := if_neg (ne_true_of_eq_false hcrc)

/-- R358: what a lane keeps of a frame that is good. -/
theorem goodLane (hsync : f.syncOk = true) (h : k < s.mir.lanes.length) :
    (frameHeard k f s).mlane k = { s.mlane k with got := true, syncBad := 0, crcBad := 0 } := by
  have hlanes := hearHeader_lanes f (syncHeard k f s)
  have hheard : (syncHeard k f s).mlane k = { s.mlane k with got := true, syncBad := 0 } := by
    unfold syncHeard
    rw [State.mlane_modMlane _ h, hsync, if_pos rfl]
  have hlt : k < (hearHeader f (syncHeard k f s)).mir.lanes.length := by
    rw [hlanes]
    exact (State.modMlane_lanes_length _).symm ▸ h
  unfold frameHeard
  rw [State.mlane_modMlane _ hlt, State.mlane_congr hlanes, hheard]

theorem badLane (hsync : f.syncOk = true) (h : k < s.mir.lanes.length) (g : Fld) :
    (((hearHeader f (syncHeard k f s)).bump g).modMlane k fun l => { l with crcBad := l.crcBad + 1 }).mlane k =
      { s.mlane k with got := true, syncBad := 0, crcBad := (s.mlane k).crcBad + 1 } := by
  have hlanes := hearHeader_lanes f (syncHeard k f s)
  have hheard : (syncHeard k f s).mlane k = { s.mlane k with got := true, syncBad := 0 } := by
    unfold syncHeard
    rw [State.mlane_modMlane _ h, hsync, if_pos rfl]
  have hlt : k < ((hearHeader f (syncHeard k f s)).bump g).mir.lanes.length := by
    rw [State.bump_mir, hlanes]
    exact (State.modMlane_lanes_length _).symm ▸ h
  rw [State.mlane_modMlane _ hlt, State.mlane_congr (t := (hearHeader f (syncHeard k f s)).bump g) hlanes, hheard]

theorem hearCells_of_none (hcells : f.cells = []) : ∃ b, hearCells k f s = s.modMir fun x => { x with good := b } := by
  unfold hearCells
  split
  · rw [hcells]
    exact ⟨true, rfl⟩
  · exact ⟨s.mir.good, rfl⟩

end

/-! ### Lanes that come up, go down and train again (R238, R358, R389) -/

section
variable {s : State} {k : Nat}

theorem linkBegin_lanes (s : State) : (linkBegin s).mir.lanes = s.mir.lanes := by
  unfold linkBegin
  dsimp only
  split <;> rfl

/-- R358: a lane that has trained is up. -/
def laneUp (k : Nat) (s : State) : State := (linkBegin s).modMlane k fun l =>
  { MLane.init with st := 2, lock := true, got := true, helloDue := true, preset := l.preset, asked := l.asked, eye := l.eye }

theorem mlaneUp_of_trained (oneway : Nat) (hloop : (s.mlane k).loop = false) (hst : (s.mlane k).st = 1) (hlock : (s.mlane k).lock = true)
    (hclean : 256 ≤ (s.mlane k).clean) : mlaneUp k oneway s =
      ((laneUp k s).fs F.MIR_DELAY_ONEWAY oneway).when (decide (30000 < oneway)) (mirFlag F.MIR_FLAGS_DELAYERR) := by
  unfold mlaneUp
  dsimp only
  refine if_neg ?_
  rw [hloop, hst, hlock]
  simp only [Bool.false_eq_true, ne_eq, not_true_eq_false, Bool.true_eq_false, false_or]
  omega

theorem laneUp_mlane (h : k < s.mir.lanes.length) : (laneUp k s).mlane k =
    { MLane.init with
      st := 2, lock := true, got := true, helloDue := true, preset := (s.mlane k).preset, asked := (s.mlane k).asked, eye := (s.mlane k).eye } := by
  unfold laneUp
  rw [State.mlane_modMlane _ ((linkBegin_lanes s).symm ▸ h), State.mlane_congr (linkBegin_lanes s)]

theorem mlaneDown_of_lost (hst : (s.mlane k).st = 2) (hlost : (s.mlane k).lockLost = true) : mlaneDown k s =
    s.modMlane k fun l => { MLane.init with st := 1, loop := l.loop } := if_pos ⟨hst, hlost⟩

end

/-- R389: a trim written for a lane comes into force. -/
def trimStep (s : State) (k : Nat) : State :=
  let v := tget 0x100 s.cal.trimNext k
  if v = 0x100 then s
  else
    { s.fs F.CAL_STAT_DIRTY 1 with
      cal := { s.cal with since := true, trimNext := tdel s.cal.trimNext k, trims := tset (0, false) s.cal.trims k (v, true) } }

section
variable (s : State) {k : Nat}

theorem trimStep_same : tget 0x100 (trimStep s k).cal.trimNext k = 0x100 ∧ tget (0, false) (trimStep s k).cal.trims k =
    if tget 0x100 s.cal.trimNext k = 0x100 then tget (0, false) s.cal.trims k else (tget 0x100 s.cal.trimNext k, true) := by
  unfold trimStep
  dsimp only
  split
  · exact ⟨by assumption, rfl⟩
  · exact ⟨tget_absent _ _ _ (tkeys_tdel _ _), tget_tset _ _ _ _⟩

theorem trimStep_of_ne {j : Nat} (h : j ≠ k) : tget 0x100 (trimStep s k).cal.trimNext j = tget 0x100 s.cal.trimNext j ∧
    tget (0, false) (trimStep s k).cal.trims j = tget (0, false) s.cal.trims j := by
  unfold trimStep
  dsimp only
  split
  · exact ⟨rfl, rfl⟩
  · exact ⟨tget_tdel_ne _ _ _ _ h, tget_tset_ne _ _ _ _ _ h⟩

theorem foldl_trimStep_of_not_mem {l : List Nat} (h : k ∉ l) : tget 0x100 (l.foldl trimStep s).cal.trimNext k =
    tget 0x100 s.cal.trimNext k ∧ tget (0, false) (l.foldl trimStep s).cal.trims k = tget (0, false) s.cal.trims k := by
  induction l generalizing s with
  | nil => exact ⟨rfl, rfl⟩
  | cons j l ih =>
    obtain ⟨hne, hmem⟩ := not_or.mp (fun hc => h (List.mem_cons.mpr hc))
    obtain ⟨hnext, htrims⟩ := ih (trimStep s j) hmem
    obtain ⟨hnext', htrims'⟩ := trimStep_of_ne s hne
    exact ⟨hnext.trans hnext', htrims.trans htrims'⟩

/-- R389: of several lanes' trims each comes into force once. -/
theorem foldl_trimStep_of_mem {l : List Nat} (hnd : l.Nodup) (h : k ∈ l) : tget 0x100 (l.foldl trimStep s).cal.trimNext k = 0x100 ∧
    tget (0, false) (l.foldl trimStep s).cal.trims k =
      if tget 0x100 s.cal.trimNext k = 0x100 then tget (0, false) s.cal.trims k else (tget 0x100 s.cal.trimNext k, true) := by
  induction l generalizing s with
  | nil => exact absurd h List.not_mem_nil
  | cons j l ih =>
    obtain ⟨hj, hnd⟩ := List.nodup_cons.mp hnd
    rcases List.mem_cons.mp h with rfl | h
    · obtain ⟨hnext, htrims⟩ := foldl_trimStep_of_not_mem (trimStep s k) hj
      obtain ⟨hnext', htrims'⟩ := trimStep_same s (k := k)
      exact ⟨hnext.trans hnext', htrims.trans htrims'⟩
    · have hne : k ≠ j := fun hc => hj (hc ▸ h)
      obtain ⟨hnext, htrims⟩ := trimStep_of_ne s hne
      have htaken := ih (trimStep s j) hnd h
      rwa [hnext, htrims] at htaken

theorem trimEnter_eq (i : Nat) : trimEnter i s = [3 * 64 + i, 4 * 64 + i].foldl trimStep s := rfl

theorem trimEnter_mir (i : Nat) : (trimEnter i s).mir = s.mir := mir_of_seen ⟨[.cal], true, []⟩ _ _ (trimEnter_seen _ _ _ rfl) rfl

theorem mirTrain_mir : (mirTrain s).mir = { s.mir with lanes := s.mir.lanes.map fun _ => { MLane.init with st := 1 } } := by
  unfold mirTrain
  rw [State.modMir_mir, trimEnter_mir, trimEnter_mir]

/-- The trims of the mirror lanes, RX and then TX of each (R388). -/
theorem mirTrain_cal : (mirTrain s).cal = ([224, 288, 225, 289].foldl trimStep s).cal := by
  unfold mirTrain
  rw [State.modMir_cal, trimEnter_eq, trimEnter_eq, ← List.foldl_append]
  rfl

end

/-! ### Losses (R361, R371, R377) -/

section
variable (s : State)

theorem swapLoss_mir : ∃ n q, (swapLoss s).mir = { s.mir with
    swap := if (s.mir.swap.any fun p => decide (p.w = s.coming)) then s.mir.swap else none, streamOut := n, streamQ := q } := by
  unfold swapLoss
  split
  · rename_i p hp
    rw [hp, Option.any_some]
    split
    · rename_i h
      rw [if_pos (decide_eq_true h.symm), ← hp]
      exact ⟨s.mir.streamOut, s.mir.streamQ, rfl⟩
    · rename_i h
      rw [if_neg (fun hc => h (of_decide_eq_true hc).symm)]
      exact swapDrop_mir s 6
  · rename_i hp
    rw [hp, Option.any_none, if_neg Bool.false_ne_true, ← hp]
    exact ⟨s.mir.streamOut, s.mir.streamQ, rfl⟩

theorem swapLoss_fgi {f : Fld} (i : Nat) (hf : f.id ≠ F.ROL_STAT_SWREASON.id) : (swapLoss s).fgi f i = s.fgi f i := by
  unfold swapLoss
  split
  · split
    · rfl
    · exact swapDrop_fgi _ _ _ hf
  · rfl

theorem unsync_bun (b c : Nat) : ((unsync b s).bun c).synced = if c = b then false else (s.bun c).synced := by
  unfold unsync
  rw [State.bun_modBun]
  split <;> rfl

theorem unsynced_foldl (bs : List Nat) (c : Nat) (h : c ∈ bs ∨ (s.bun c).synced = false) :
    ((bs.foldl (fun s b => unsync b s) s).bun c).synced = false := by
  induction bs generalizing s with
  | nil => exact h.resolve_left List.not_mem_nil
  | cons b bs ih =>
    refine ih (unsync b s) ?_
    rw [unsync_bun]
    rcases h with hmem | hoff
    · rcases List.mem_cons.mp hmem with rfl | hmem
      · exact .inr (if_pos rfl)
      · exact .inl hmem
    · right
      split
      · rfl
      · exact hoff

theorem foldl_unsync_slots (bs : List Nat) : (bs.foldl (fun s b => unsync b s) s).fab.slots = s.fab.slots := by
  induction bs generalizing s with
  | nil => rfl
  | cons b bs ih => exact ih (unsync b s)

theorem State.popBundles_congr {t : State} (h : t.fab.slots = s.fab.slots) : t.popBundles = s.popBundles := by
  unfold State.popBundles State.popSlots
  rw [h]

/-- R361: cells of the partner have been missed: the bundles become unsynced after it. -/
def cellsMissed : State :=
  let s := s.modMir fun x => { x with dark := !x.good, good := false }
  let s := mirFlag F.MIR_FLAGS_STREAMLOSS (s.modMir fun x => { x with loss := false, joinWanted := true, asked := false, streamIn := none })
  swapLoss (epDiscard ((s.fs F.ROL_STAT_READY 0).fs F.MIR_STAT_SYNC 0))

variable {s}

theorem streamLoss_of_loss (hdev : s.dev = .standby) (hfailed : s.mir.failed = false) (hloss : s.mir.loss = true) :
    streamLoss s = (cellsMissed s).popBundles.foldl (fun s b => unsync b s) (cellsMissed s) := by
  unfold streamLoss
  dsimp only
  refine if_pos ⟨hdev, hfailed, ?_⟩
  rw [hloss, Bool.true_or, Bool.true_or]

/-- R361: the state in which a loss has been noted, before a planned swap is judged. -/
def lossNoted (s : State) : State :=
  let s := s.modMir fun x => { x with dark := !x.good, good := false }
  let s := mirFlag F.MIR_FLAGS_STREAMLOSS (s.modMir fun x => { x with loss := false, joinWanted := true, asked := false, streamIn := none })
  epDiscard ((s.fs F.ROL_STAT_READY 0).fs F.MIR_STAT_SYNC 0)

theorem lossNoted_mir (s : State) : (lossNoted s).mir.loss = false ∧ (lossNoted s).mir.joinWanted = true ∧
    (lossNoted s).mir.epoch = none ∧ (lossNoted s).mir.swap = s.mir.swap := by
  unfold lossNoted
  dsimp only
  rw [epDiscard_mir, State.fs_mir, State.fs_mir, mirFlag, State.sticky_mir]
  exact ⟨rfl, rfl, rfl, rfl⟩

theorem lossNoted_seen (s : State) : State.seen ⟨[.seqs, .mir], true, []⟩ (lossNoted s) = State.seen ⟨[.seqs, .mir], true, []⟩ s := by
  unfold lossNoted
  dsimp only
  rw [epDiscard_seen _ _ rfl, State.fs_seen _ _ _ _ rfl, State.fs_seen _ _ _ _ rfl, mirFlag_seen _ _ _ rfl rfl, State.modMir_seen _ _ _ rfl,
    State.modMir_seen _ _ _ rfl]

theorem lossNoted_coming (s : State) : (lossNoted s).coming = s.coming := by
  unfold State.coming
  rw [time_of_seen _ _ _ (lossNoted_seen s) rfl, frame_of_seen _ _ _ (lossNoted_seen s) rfl]

theorem cellsMissed_eq (s : State) : cellsMissed s = swapLoss (lossNoted s) := rfl

/-- R361: what a loss leaves of the mirror. -/
theorem cellsMissed_mir (s : State) : (cellsMissed s).mir.loss = false ∧ (cellsMissed s).mir.joinWanted = true ∧
    (cellsMissed s).mir.swap = (if (s.mir.swap.any fun p => decide (p.w = s.coming)) then s.mir.swap else none) ∧
    (cellsMissed s).mir.epoch = none := by
  obtain ⟨hloss, hjoin, hep, hswap⟩ := lossNoted_mir s
  obtain ⟨n, q, h⟩ := swapLoss_mir (lossNoted s)
  rw [cellsMissed_eq, h, hswap, lossNoted_coming]
  exact ⟨hloss, hjoin, rfl, hep⟩

theorem cellsMissed_shows (s : State) : (cellsMissed s).fgi F.MIR_FLAGS_STREAMLOSS 0 = 1 ∧ (cellsMissed s).fgi F.ROL_STAT_READY 0 = 0 ∧
    (cellsMissed s).fgi F.MIR_STAT_SYNC 0 = 0 := by
  rw [cellsMissed_eq, swapLoss_fgi _ _ (by decide), swapLoss_fgi _ _ (by decide), swapLoss_fgi _ _ (by decide)]
  unfold lossNoted mirFlag
  simp (disch := decide)

end

/-! ### Tallies (R367) -/

section
variable {s : State} {u : Tally}

/-- R367: the tallies still waited for at frame `f`. -/
def talliesLeft (f : Nat) (l : List Tally) : List Tally := l.filter fun t => !notBefore (sub32 f 2) t.f

/-- R367: the device's own tallies that have waited too long are given up. -/
def talliesDropped (s : State) : State :=
  s.modMir fun x => { x with own := talliesLeft s.coming x.own, theirs := talliesLeft s.coming x.theirs }

theorem tallyTimeout_of_late (hdev : s.dev = .standby) (hown : s.mir.own = [u]) (hold : notBefore (sub32 s.coming 2) u.f = true) :
    tallyTimeout s = tallyFail u.b ((talliesDropped s).bump F.MIR_TALLYCNT) := by
  have hl : s.mir.own.filter (fun t => notBefore (sub32 s.coming 2) t.f) = [u] := by
    rw [hown]
    simp [hold]
  unfold tallyTimeout
  rw [if_pos hdev]
  dsimp only
  rw [hl]
  rfl

theorem talliesDropped_own (hown : s.mir.own = [u]) (hold : notBefore (sub32 s.coming 2) u.f = true) : (talliesDropped s).mir.own = [] := by
  change talliesLeft s.coming s.mir.own = []
  rw [hown]
  simp [talliesLeft, hold]

theorem tallyFail_mir (b : Nat) : (tallyFail b s).mir = s.mir := State.sticky_mir _ _ _ _

theorem tallyFail_bun (b : Nat) : ((tallyFail b s).bun b).synced = false := by
  unfold tallyFail
  rw [unsync_bun, if_pos rfl]

theorem tallyFail_shows (b : Nat) : (tallyFail b s).fgi F.MIR_TALLYMIS 0 = Nat.min (s.fgi F.MIR_TALLYMIS 0 + 1) (2 ^ 32 - 1) ∧
    (tallyFail b s).fgi F.MIR_FLAGS_TALLYMIS 0 = 1 ∧ (tallyFail b s).fgi F.MIR_TALLYCNT 0 = s.fgi F.MIR_TALLYCNT 0 := by
  unfold tallyFail unsync mirFlag
  simp (disch := decide)

end

/-! ### Epochs (R370, R371) -/

section
variable {s : State} {e : Epoch}

/-- R371: a bundle of the epoch takes its copy and is synced. -/
def copyTaken (e : Epoch) (s : State) (b : Nat) : State :=
  match tget none e.staged b with
  | some g => (putCopy b g.x s).modBun b fun x => { x with synced := true }
  | none => s

theorem epCommit_of_complete (h : s.mir.epoch = some e) (hdev : s.dev = .standby) (hcomplete : e.complete = true) (hjoin : e.join = false) :
    epCommit s = (((e.bundles.foldl (copyTaken e) s).modMir fun x => { x with epoch := none }).bump F.MIR_EPCOMMIT).fs F.MIR_EPOCH_LAST e.no := by
  unfold epCommit
  rw [h]
  dsimp only
  rw [if_pos ⟨hdev, hcomplete⟩, hjoin, if_neg Bool.false_ne_true, if_neg Bool.false_ne_true]
  rfl

theorem putCopy_bun (b c : Nat) (x : BunCopy) (s : State) : ((putCopy b x s).bun c).synced = (s.bun c).synced := by
  have hloops : ∀ (l : List (LoopCopy × Nat)) (t : State), (l.foldl (fun s p => s.modLoop (8 * b + p.2) p.1.put) t).fab.bundles = t.fab.bundles := by
    intro l
    induction l with
    | nil => exact fun _ => rfl
    | cons p l ih => exact fun t => ih _
  unfold putCopy
  dsimp only
  rw [State.bun_modBun]
  unfold State.bun
  rw [hloops]
  split <;> rfl

theorem copyTaken_seen (s : State) (b : Nat) : State.seen ⟨[.fab], false, []⟩ (copyTaken e s b) = State.seen ⟨[.fab], false, []⟩ s := by
  unfold copyTaken
  split
  · exact (State.modBun_seen _ _ _ _ rfl).trans (putCopy_seen _ _ _ _ rfl)
  · rfl

theorem copyTaken_synced (s : State) (b c : Nat) (h : c = b ∧ (tget none e.staged b).isSome = true ∨ (s.bun c).synced = true) :
    ((copyTaken e s b).bun c).synced = true := by
  unfold copyTaken
  split
  · rw [State.bun_modBun]
    split
    · rfl
    · rename_i hne
      rw [putCopy_bun]
      exact h.resolve_left fun hc => hne hc.1
  · rename_i hnone
    refine h.resolve_left fun hc => ?_
    rw [hnone] at hc
    exact Bool.false_ne_true hc.2

theorem foldl_copyTaken_synced (bs : List Nat) (hstaged : ∀ b ∈ bs, (tget none e.staged b).isSome = true) (c : Nat) (s : State)
    (h : c ∈ bs ∨ (s.bun c).synced = true) : ((bs.foldl (copyTaken e) s).bun c).synced = true := by
  induction bs generalizing s with
  | nil => exact h.resolve_left List.not_mem_nil
  | cons b bs ih =>
    refine ih (fun b hb => hstaged b (List.mem_cons_of_mem _ hb)) (copyTaken e s b) ?_
    rcases h with hmem | hon
    · rcases List.mem_cons.mp hmem with rfl | hmem
      · exact .inr (copyTaken_synced s c c (.inl ⟨rfl, hstaged c List.mem_cons_self⟩))
      · exact .inl hmem
    · exact .inr (copyTaken_synced s b c (.inr hon))

/-- R371: a complete epoch has staged a copy of each of its bundles. -/
theorem staged_of_complete (h : e.complete = true) : ∀ b ∈ e.bundles, (tget none e.staged b).isSome = true := by
  intro b hb
  unfold Epoch.complete at h
  split at h
  · simp only [Bool.and_eq_true] at h
    have hb := List.all_eq_true.mp h.1.2 b hb
    cases hg : tget none e.staged b with
    | none => rw [hg] at hb; exact absurd hb Bool.false_ne_true
    | some g => rfl
  · exact absurd h Bool.false_ne_true

theorem epDiscard_of_open (h : s.mir.epoch = some e) : epDiscard s = mirFlag F.MIR_FLAGS_EPDISC ((s.bump F.MIR_EPDISCARD).modMir fun x =>
    { x with epoch := none, joinWanted := x.joinWanted || e.join }) := by
  unfold epDiscard
  rw [h]

end

/-! ### What is seen of a frame on a lane that is up -/

section
variable {k : Nat} {f : MFrame} {s : State}

theorem mirrorFrame_of_up (eye : Nat) (hst : (s.mlane k).st = 2) : mirrorFrame k f eye s = upFrame k f s := by
  unfold mirrorFrame
  rw [hst]
  rfl

theorem State.flag_fb (f : Fld) (b : Bool) (hf : 1 % 2 ^ f.width = 1) : (s.fb f b).flag f = b := by
  unfold State.flag
  rw [State.fg_eq, State.fgi_fb_self]
  cases b with
  | false => simp [b2n]
  | true => simp [b2n, hf]

/-- R351, R359: a good DATA frame without cells. -/
theorem upFrame_data (hst : (s.mlane k).st = 2) (hsync : f.syncOk = true) (hcrc : f.hcrcOk = true) (htype : f.ftype = 2)
    (hgood : f.crcOk = true) (hcells : f.cells = []) : (upFrame k f s).mir.header = some f ∧
      (upFrame k f s).mir.mirSeen = (s.mir.mirSeen || decide (f.fnum = s.frame % 2 ^ 24)) ∧
      (upFrame k f s).mlane k = { s.mlane k with got := true, syncBad := 0, crcBad := 0 } ∧ (upFrame k f s).mir.inbox = s.mir.inbox ∧
      (upFrame k f s).flag F.ROL_STAT_SENERR = (f.senior == s.flag F.SYS_STRAP_SENIOR) := by
  have hlane := goodLane k hsync (mlane_lt (by rw [hst]; decide))
  rw [upFrame_of_good k hgood]
  obtain ⟨b, h⟩ := hearCells_of_none (f := f) (s := frameHeard k f s) k hcells
  rw [h]
  refine ⟨?_, ?_, hlane, ?_, ?_⟩
  · change (hearHeader f (syncHeard k f s)).mir.header = _
    rw [hearHeader_of_data _ hcrc htype]
    rfl
  · change (hearHeader f (syncHeard k f s)).mir.mirSeen = _
    rw [hearHeader_of_data _ hcrc htype]
    rfl
  · exact hearHeader_inbox f (syncHeard k f s)
  · change (hearHeader f (syncHeard k f s)).flag F.ROL_STAT_SENERR = _
    rw [hearHeader_of_data _ hcrc htype]
    exact State.flag_fb _ _ (by decide)

/-- R359: a frame that fails its CRC. -/
theorem upFrame_crc (hst : (s.mlane k).st = 2) (hsync : f.syncOk = true) (hbad : f.crcOk = false) :
    (upFrame k f s).mir.inbox = s.mir.inbox ∧ ((upFrame k f s).mlane k).crcBad = (s.mlane k).crcBad + 1 ∧
      ((upFrame k f s).mlane k).syncBad = 0 ∧ (upFrame k f s).fg (if k = 0 then F.MIR_CRC0 else F.MIR_CRC1) =
        Nat.min (s.fg (if k = 0 then F.MIR_CRC0 else F.MIR_CRC1) + 1) (2 ^ 32 - 1) := by
  have hlane := badLane k hsync (mlane_lt (by rw [hst]; decide)) (if k = 0 then F.MIR_CRC0 else F.MIR_CRC1)
  rw [upFrame_of_bad k hbad, hlane]
  refine ⟨hearHeader_inbox f (syncHeard k f s), rfl, rfl, ?_⟩
  have hfg : ∀ g : Fld, g.width = 32 → g.id ≠ F.ROL_STAT_SENERR.id →
      (((hearHeader f (syncHeard k f s)).bump g).modMlane k fun l => { l with crcBad := l.crcBad + 1 }).fg g =
        Nat.min (s.fg g + 1) (2 ^ 32 - 1) := by
    intro g hw hg
    refine (State.fgi_bump_self _ hw).trans ?_
    rw [hearHeader_fgi _ _ _ hg]
    rfl
  split
  · exact hfg _ rfl (by decide)
  · exact hfg _ rfl (by decide)

/-- R361: the STREAM cell with the number expected. -/
theorem hearStream_of_next {c : MCell} {m : MMsg} (hmsg : c.msg = some m) (hseq : s.mir.streamIn = some c.cseq) :
    (hearStream k c s).mir.inbox = s.mir.inbox ++ [(k, m)] ∧ (hearStream k c s).mir.streamIn = some ((c.cseq + 1) % 65536) ∧
      (hearStream k c s).mir.loss = s.mir.loss := by
  unfold hearStream
  rw [hseq, hmsg]
  dsimp only
  rw [if_neg]
  · exact ⟨rfl, rfl, by simp⟩
  · rw [Nat.add_sub_cancel_left]
    decide

/-- R361: a good frame that brings one STREAM cell to a standby. -/
theorem upFrame_stream {c : MCell} {m : MMsg} (hgood : f.crcOk = true) (htype : f.ftype = 2) (hnum : f.fnum = s.frame % 2 ^ 24)
    (hcells : f.cells = [c]) (hcls : c.cls = .stream) (hdev : s.dev = .standby) (hmsg : c.msg = some m)
    (hseq : s.mir.streamIn = some c.cseq) : (upFrame k f s).mir.inbox = s.mir.inbox ++ [(k, m)] ∧
      (upFrame k f s).mir.streamIn = some ((c.cseq + 1) % 65536) ∧ (upFrame k f s).mir.loss = s.mir.loss := by
  rw [upFrame_of_good k hgood]
  unfold hearCells
  rw [if_pos ⟨htype, hnum.trans (by rw [frameHeard_frame])⟩, hcells, List.foldl_cons, List.foldl_nil]
  obtain ⟨hinbox, hnext, hloss⟩ := hearStream_of_next (k := k) (s := (frameHeard k f s).modMir fun x => { x with good := true }) hmsg
    ((frameHeard_streamIn k).trans hseq)
  have hstream : hearCellM k ((frameHeard k f s).modMir fun x => { x with good := true }) c =
      hearStream k c ((frameHeard k f s).modMir fun x => { x with good := true }) := by
    unfold hearCellM
    rw [hcls]
    exact if_pos ((frameHeard_dev k).trans hdev)
  rw [hstream, hinbox, hnext, hloss]
  exact ⟨congrArg (· ++ [(k, m)]) (frameHeard_inbox k), rfl, frameHeard_loss k⟩

/-- R358: a lane that has trained. -/
theorem mlaneUp_shows (oneway : BitVec 16) (hloop : (s.mlane k).loop = false) (hst : (s.mlane k).st = 1) (hlock : (s.mlane k).lock = true)
    (hclean : 256 ≤ (s.mlane k).clean) : ((mlaneUp k oneway.toNat s).mlane k).st = 2 ∧ ((mlaneUp k oneway.toNat s).mlane k).helloDue = true ∧
      (mlaneUp k oneway.toNat s).fg F.MIR_DELAY_ONEWAY = oneway.toNat ∧
      (30000 < oneway.toNat → (mlaneUp k oneway.toNat s).fg F.MIR_FLAGS_DELAYERR = 1) := by
  have hup := laneUp_mlane (mlane_lt (s := s) (k := k) (by rw [hst]; decide))
  have hsame : ∀ b, (((laneUp k s).fs F.MIR_DELAY_ONEWAY oneway.toNat).when b (mirFlag F.MIR_FLAGS_DELAYERR)).mlane k = (laneUp k s).mlane k := by
    intro b
    cases b with
    | false => rfl
    | true =>
      refine State.mlane_congr ?_ k
      rw [State.when, if_pos rfl, mirFlag, State.sticky_mir]
      rfl
  rw [mlaneUp_of_trained oneway.toNat hloop hst hlock hclean, hsame, hup]
  refine ⟨rfl, rfl, ?_, fun h => ?_⟩
  · unfold mirFlag
    rw [State.fg_eq, State.fgi_when _ _ (State.fgi_sticky_of_ne _ _ _ _ (by decide) (by decide))]
    simp (disch := decide)
    exact Nat.mod_eq_of_lt oneway.isLt
  · rw [decide_eq_true h]
    unfold mirFlag
    rw [State.fg_eq, State.when]
    simp (disch := decide)

end

/-- Settles O45: each action is taken apart into what it does to the lane, to the mirror's own state and to the registers. -/
theorem mirrorLinkAndEpochs : Obligations.MirrorLinkAndEpochs := by
  refine ⟨fun lane f eye s hst hsync hcrc htype hgood hcells => ⟨_, rfl, ?_⟩, fun lane f eye s hst hsync hbad => ⟨_, rfl, ?_⟩,
    fun lane f eye c m s hst hgood htype hnum hcells hcls hdev hmsg hseq => ⟨_, rfl, ?_⟩,
    fun lane oneway s hloop hst hlock hclean => ⟨_, rfl, mlaneUp_shows oneway hloop hst hlock hclean⟩,
    fun lane oneway s hst hlost => ⟨_, rfl, ?_⟩, fun s => ⟨_, rfl, mirTrain_mir s, ?_⟩, fun s htimer => ⟨_, rfl, ?_⟩,
    fun s hdev hfailed hloss => ⟨_, rfl, ?_⟩, fun s u hdev hown hold => ⟨_, rfl, ?_⟩,
    fun s e hep hdev hcomplete hjoin => ⟨_, rfl, ?_⟩, fun s e hep hlate => ⟨_, rfl, ?_⟩, fun s hdev => ?_, fun s hdev => ⟨_, rfl, ?_⟩⟩
  · rw [mirrorFrame_of_up _ hst]
    exact upFrame_data hst hsync hcrc htype hgood hcells
  · rw [mirrorFrame_of_up _ hst]
    exact upFrame_crc hst hsync hbad
  · rw [mirrorFrame_of_up _ hst]
    exact upFrame_stream hgood htype hnum hcells hcls hdev hmsg hseq
  · change ((mlaneDown lane.val s).mlane lane.val).st = 1 ∧ ((mlaneDown lane.val s).mlane lane.val).lock = false ∧
      ((mlaneDown lane.val s).mlane lane.val).loop = _ ∧ (mlaneDown lane.val s).regs = s.regs
    rw [mlaneDown_of_lost hst hlost, State.mlane_modMlane _ (mlane_lt (by rw [hst]; decide))]
    exact ⟨rfl, rfl, rfl, rfl⟩
  · rw [List.all_eq_true]
    intro k hk
    refine decide_eq_true ?_
    rw [mirTrain_cal]
    refine foldl_trimStep_of_mem s (by decide) ?_
    simp only [List.mem_cons, List.not_mem_nil, or_false] at hk ⊢
    tauto
  · have hagain : (mirRetransmit s).mir.ackedOut = { s.mir.ackedOut with sent := 0, timer := 0 } := if_pos htimer
    exact ⟨hagain, by rw [hagain]⟩
  · rw [streamLoss_of_loss hdev hfailed hloss]
    obtain ⟨hl, hj, hs, he⟩ := cellsMissed_mir s
    obtain ⟨hflag, hready, hsync⟩ := cellsMissed_shows s
    have hseen := foldl_seen ⟨[.fab], false, []⟩ (fun s b => unsync b s) (cellsMissed s).popBundles (cellsMissed s)
      (fun s b => unsync_seen ⟨[.fab], false, []⟩ b s rfl)
    rw [mir_of_seen _ _ _ hseen rfl]
    refine ⟨hl, hj, hs, he, (State.fgi_of_seen _ _ _ _ 0 hseen rfl).trans hflag, (State.fgi_of_seen _ _ _ _ 0 hseen rfl).trans hready,
      (State.fgi_of_seen _ _ _ _ 0 hseen rfl).trans hsync, ?_⟩
    rw [State.popBundles_congr _ (foldl_unsync_slots _ _), List.all_eq_true]
    intro b hb
    rw [unsynced_foldl _ _ _ (.inl hb)]
    rfl
  · rw [tallyTimeout_of_late hdev hown hold]
    obtain ⟨hmis, hflag, hcnt⟩ := tallyFail_shows (s := (talliesDropped s).bump F.MIR_TALLYCNT) u.b
    rw [tallyFail_mir, State.bump_mir]
    refine ⟨talliesDropped_own hown hold, hcnt.trans (State.fgi_bump_self _ rfl), hmis.trans ?_, hflag, tallyFail_bun _⟩
    rw [State.fgi_bump_of_ne]
    · rfl
    · decide
  · rw [epCommit_of_complete hep hdev hcomplete hjoin]
    have hseen := foldl_seen ⟨[.fab], false, []⟩ (copyTaken e) e.bundles s (fun s b => copyTaken_seen s b)
    refine ⟨rfl, ?_, ?_, ?_, ?_⟩
    · rw [State.fg_eq, State.fgi_fs_of_ne, State.fgi_bump_self _ rfl, State.modMir_fgi, State.fgi_of_seen _ _ _ _ 0 hseen rfl]
      · rfl
      · decide
    · exact State.fg_fs _ _ _
    · rw [List.all_eq_true]
      intro b hb
      exact foldl_copyTaken_synced e.bundles (staged_of_complete hcomplete) b s (.inl hb)
    · rw [State.fg_eq, State.fgi_fs_of_ne, State.fgi_bump_of_ne, State.modMir_fgi, State.fgi_of_seen _ _ _ _ 0 hseen rfl]
      · rfl
      · decide
      · decide
  · have hnow : epTimeout s = epDiscard s := by
      unfold epTimeout
      rw [hep]
      exact if_pos hlate
    rw [hnow, epDiscard_of_open hep]
    unfold mirFlag
    rw [State.sticky_mir]
    refine ⟨rfl, ?_, State.fgi_sticky_self _ _ _ rfl (by decide), rfl⟩
    rw [State.fg_eq, State.fgi_sticky_of_ne, State.modMir_fgi, State.fgi_bump_self _ rfl]
    · rfl
    all_goals decide
  · exact congrArg _ (if_pos hdev)
  · have hnow : mirResync s = (s.fs F.ROL_STAT_READY 0).modMir fun x => { x with joinWanted := true } := if_pos hdev
    rw [hnow]
    exact ⟨rfl, State.fg_fs s F.ROL_STAT_READY 0⟩

end Sys2Proof.Machine
end

section
/-! PROOF. Thermal supervision (15, R378 to R392). -/
namespace Sys2Proof.Machine

/-- Of a list of steps with one for each key, the step with a key is the only one that moves what that key shows. -/
theorem foldl_once {β γ : Type} (key : β → Nat) (view : State → γ) (step : State → β → State) (moved : β → γ → γ) {x : β} (l : List β)
    (hother : ∀ s, ∀ y ∈ l, key y ≠ key x → view (step s y) = view s) (hsame : ∀ s, view (step s x) = moved x (view s))
    (hnd : (l.map key).Nodup) (hmem : x ∈ l) (s : State) : view (l.foldl step s) = moved x (view s) := by
  have hkept : ∀ (m : List β), (∀ y ∈ m, y ∈ l ∧ key y ≠ key x) → ∀ s, view (m.foldl step s) = view s := by
    intro m
    induction m with
    | nil => exact fun _ _ => rfl
    | cons y m ih =>
      intro hm s
      obtain ⟨hy, hne⟩ := hm y List.mem_cons_self
      exact (ih (fun z hz => hm z (List.mem_cons_of_mem _ hz)) (step s y)).trans (hother s y hy hne)
  obtain ⟨before, after, rfl⟩ := List.append_of_mem hmem
  have hkeys : (before ++ x :: after).Pairwise fun y z => key y ≠ key z := List.pairwise_map.mp hnd
  obtain ⟨-, hafter, hbefore⟩ := List.pairwise_append.mp hkeys
  rw [List.foldl_append, List.foldl_cons]
  rw [hkept after fun y hy => ⟨List.mem_append_right _ (List.mem_cons_of_mem _ hy), ((List.pairwise_cons.mp hafter).1 y hy).symm⟩, hsame,
    hkept before fun y hy => ⟨List.mem_append_left _ hy, hbefore y hy x List.mem_cons_self⟩]

/-! ### The write window (R384) -/

section
variable {s : State}

theorem State.inWindow_congr {t : State} (h : t.fgi F.TMP_MAX_TEMP 0 = s.fgi F.TMP_MAX_TEMP 0) : t.inWindow = s.inWindow := by
  unfold State.inWindow
  rw [State.fg_eq, h]
  rfl

theorem flashIssue_of_inWindow {o : FlashOp} {r : List FlashOp} (hwin : s.inWindow = true) (hcur : s.boot.cur = none)
    (hops : s.boot.ops = o :: r) : flashIssue s = s.modBoot fun b => { b with cur := some o, ops := r, opsHeld := false } := by
  unfold flashIssue
  rw [hcur, hops]
  exact if_pos (.inr hwin)

/-- R384: inside the window an operation is issued without more ado. -/
theorem flashIssue_seen_window (e : Extent) (hwin : s.inWindow = true) (he : e.covers [.boot] [] = true) :
    State.seen e (flashIssue s) = State.seen e s := by
  unfold flashIssue
  split
  · rw [if_pos (.inr hwin)]
    exact State.modBoot_seen e _ _ he fun _ => rfl
  · rfl

theorem otpIssue_of_inWindow (hwin : s.inWindow = true) : otpIssue s =
    s.when s.boot.otpOp.isSome fun s => s.modBoot fun b => { b with otpHeld := false } := by
  unfold otpIssue State.when
  rw [if_pos hwin]

theorem otpIssue_seen_window (e : Extent) (hwin : s.inWindow = true) (he : e.covers [.boot] [] = true) :
    State.seen e (otpIssue s) = State.seen e s := by
  rw [otpIssue_of_inWindow hwin]
  unfold State.when
  split
  · exact State.modBoot_seen e _ _ he fun _ => rfl
  · rfl

/-- R384: the release of held operations moves no more than the queues of flash and OTP. -/
theorem holdRelease_seen_in (e : Extent) (s : State) (he : e.covers [.boot] [F.TMP_STAT_WRHOLD] = true) :
    State.seen e (holdRelease s) = State.seen e s := by
  obtain ⟨hboot, hfld⟩ := Bool.and_eq_true_iff.mp he
  unfold holdRelease
  split
  · rename_i h
    obtain ⟨-, hwin⟩ := Bool.and_eq_true_iff.mp h
    have hfs : State.seen e (s.fs F.TMP_STAT_WRHOLD 0) = State.seen e s := State.fs_seen _ _ _ _ (List.all_eq_true.mp hfld _ List.mem_cons_self)
    have hcov : e.covers [.boot] [] = true := Bool.and_eq_true_iff.mpr ⟨hboot, rfl⟩
    have hwin' : (s.fs F.TMP_STAT_WRHOLD 0).inWindow = true := (State.inWindow_congr (State.fgi_fs_of_ne _ _ _ (by decide))).trans hwin
    have hmax := State.fgi_of_seen ⟨[.boot], false, []⟩ _ _ F.TMP_MAX_TEMP 0 (flashIssue_seen_window _ hwin' rfl) rfl
    have hwin'' : (flashIssue (s.fs F.TMP_STAT_WRHOLD 0)).inWindow = true := (State.inWindow_congr hmax).trans hwin'
    exact (otpIssue_seen_window e hwin'' hcov).trans ((flashIssue_seen_window e hwin' hcov).trans hfs)
  · rfl

end

/-! ### Samples of the sensors (R378 to R380) -/

/-- R378, R379: a raw result corrected by its trim, where it is in range. -/
def goodSample (trim : Nat) (raw : Option Int) : Option Int := raw.bind fun r =>
  if -7680 ≤ r + 8 * sgn 8 trim ∧ r + 8 * sgn 8 trim ≤ 22400 then some (r + 8 * sgn 8 trim) else none

/-- What is kept of a sensor. -/
@[ext]
structure SensorView where
  valid : Nat
  temp : Nat
  fails : Nat
  count : Nat
  trim : Nat

/-- What a state keeps of sensor `n`. -/
def sensorView (n : Nat) (s : State) : SensorView :=
  ⟨s.fgi F.TMP_SENSn_VALID n, s.fgi F.TMP_SENSn_TEMP n, s.cal.fails.getD n 0, s.cal.fails.length, s.trim 0 n⟩

/-- What a sample leaves of its sensor. -/
def SensorView.sampled (x : Nat × Option Int) (v : SensorView) : SensorView :=
  match goodSample v.trim x.2 with
  | some t => { v with valid := 1, temp := unsgn 16 t, fails := if x.1 < v.count then 0 else v.fails }
  | none => { v with valid := 0, fails := if x.1 < v.count then v.fails + 1 else v.fails }

theorem SensorView.sampled_of_some {x : Nat × Option Int} {v : SensorView} {t : Int} (h : goodSample v.trim x.2 = some t) :
    v.sampled x = { v with valid := 1, temp := unsgn 16 t, fails := if x.1 < v.count then 0 else v.fails } := by
  unfold SensorView.sampled
  rw [h]

theorem SensorView.sampled_of_none {x : Nat × Option Int} {v : SensorView} (h : goodSample v.trim x.2 = none) :
    v.sampled x = { v with valid := 0, fails := if x.1 < v.count then v.fails + 1 else v.fails } := by
  unfold SensorView.sampled
  rw [h]

/-- R378, R379: a sample judged. -/
def sampleStep (s : State) (x : Nat × Option Int) : State := sensorRetire x.1 (sampleOne x.1 x.2 s)

section
variable {s : State} (n : Nat)

theorem getD_setAt_self {α : Type} (l : List α) (v d : α) : (setAt l n v).getD n d = if n < l.length then v else l.getD n d := by
  rw [getD_setAt]
  simp

theorem sampleOne_of_some {raw : Option Int} {t : Int} (h : goodSample (s.trim 0 n) raw = some t) : sampleOne n raw s =
    ((s.fsi F.TMP_SENSn_TEMP n (unsgn 16 t)).fsi F.TMP_SENSn_VALID n 1).modCal fun c =>
      { c with fails := setAt c.fails n 0, seen := setBits c.seen n 1 1 } := by
  unfold sampleOne
  cases raw with
  | none => exact absurd h (Option.some_ne_none t).symm
  | some r =>
    dsimp only
    rw [show (if -60 * 128 ≤ r + 8 * sgn 8 (s.trim 0 n) ∧ r + 8 * sgn 8 (s.trim 0 n) ≤ 175 * 128 then
      some (r + 8 * sgn 8 (s.trim 0 n)) else none) = some t from h]

theorem sampleOne_of_none {raw : Option Int} (h : goodSample (s.trim 0 n) raw = none) : sampleOne n raw s =
    (s.fsi F.TMP_SENSn_VALID n 0).modCal fun c => { c with fails := setAt c.fails n (c.fails.getD n 0 + 1) } := by
  unfold sampleOne
  cases raw with
  | none => rfl
  | some r =>
    dsimp only
    rw [show (if -60 * 128 ≤ r + 8 * sgn 8 (s.trim 0 n) ∧ r + 8 * sgn 8 (s.trim 0 n) ≤ 175 * 128 then
      some (r + 8 * sgn 8 (s.trim 0 n)) else none) = none from h]

theorem sensorView_congr {t : State} (hv : t.fgi F.TMP_SENSn_VALID n = s.fgi F.TMP_SENSn_VALID n)
    (ht : t.fgi F.TMP_SENSn_TEMP n = s.fgi F.TMP_SENSn_TEMP n) (hf : t.cal.fails = s.cal.fails) (hr : t.cal.trims = s.cal.trims) :
    sensorView n t = sensorView n s := by
  unfold sensorView State.trim
  rw [hv, ht, hf, hr]

theorem sensorView_of_seen {t : State} {fs : List Fld} (h : State.seen ⟨[.seqs, .log, .boot, .port], false, fs⟩ t =
    State.seen ⟨[.seqs, .log, .boot, .port], false, fs⟩ s) (hv : (Extent.mk [.seqs, .log, .boot, .port] false fs).r F.TMP_SENSn_VALID = false)
    (ht : (Extent.mk [.seqs, .log, .boot, .port] false fs).r F.TMP_SENSn_TEMP = false) : sensorView n t = sensorView n s :=
  have hcal := cal_of_seen _ _ _ h rfl
  sensorView_congr n (State.fgi_of_seen _ _ _ _ n h hv) (State.fgi_of_seen _ _ _ _ n h ht) (by rw [hcal]) (by rw [hcal])

theorem sensorRetire_view (m : Nat) (s : State) : sensorView n (sensorRetire m s) = sensorView n s :=
  sensorView_of_seen n (fs := raiseFlds ++ [F.DBG_FLTSTAT_CLASS, F.TMP_SENSn_FAILED, F.TMP_SFAIL_FAILED]) (sensorRetire_seen _ _ _ rfl) rfl rfl

theorem sampleOne_view_same (raw : Option Int) (s : State) : sensorView n (sampleOne n raw s) = (sensorView n s).sampled (n, raw) := by
  cases h : goodSample (s.trim 0 n) raw with
  | some t =>
    rw [SensorView.sampled_of_some (v := sensorView n s) (x := (n, raw)) h, sampleOne_of_some n h]
    refine SensorView.ext (State.fgi_fsi _ _ _ _) ?_ (getD_setAt_self _ _ _ _) (setAt_length _ _ _) rfl
    exact (State.fgi_fsi_ne _ _ _ _ _ _ (by decide)).trans ((State.fgi_fsi _ _ _ _).trans (Nat.mod_eq_of_lt (unsgn_lt 16 t)))
  | none =>
    rw [SensorView.sampled_of_none (v := sensorView n s) (x := (n, raw)) h, sampleOne_of_none n h]
    exact SensorView.ext (State.fgi_fsi _ _ _ _) (State.fgi_fsi_ne _ _ _ _ _ _ (by decide)) (getD_setAt_self _ _ _ _) (setAt_length _ _ _) rfl

theorem sampleOne_view_of_ne {m : Nat} (raw : Option Int) (s : State) (h : n ≠ m) (hn : n < 16384) (hm : m < 16384) :
    sensorView n (sampleOne m raw s) = sensorView n s := by
  cases hg : goodSample (s.trim 0 m) raw with
  | some t =>
    rw [sampleOne_of_some m hg]
    refine SensorView.ext ?_ ?_ (getD_setAt_ne _ _ _ _ _ h) (setAt_length _ _ _) rfl
    · exact (State.fgi_fsi_inst _ _ _ _ _ h hm hn).trans (State.fgi_fsi_ne _ _ _ _ _ _ (by decide))
    · exact (State.fgi_fsi_ne _ _ _ _ _ _ (by decide)).trans (State.fgi_fsi_inst _ _ _ _ _ h hm hn)
  | none =>
    rw [sampleOne_of_none m hg]
    exact SensorView.ext (State.fgi_fsi_inst _ _ _ _ _ h hm hn) (State.fgi_fsi_ne _ _ _ _ _ _ (by decide)) (getD_setAt_ne _ _ _ _ _ h)
      (setAt_length _ _ _) rfl

/-- R378: of a sampling period each sensor keeps what its own sample left. -/
theorem samples_view (rs : List (Option Int)) (s : State) (hn : n < 16) (hlen : n < rs.length) :
    sensorView n (((List.range 16).zip rs).foldl sampleStep s) = (sensorView n s).sampled (n, rs.getD n none) := by
  have hkeys : (((List.range 16).zip rs).map Prod.fst).Nodup := by
    rw [List.zip_eq_zip_take_min, List.map_fst_zip (by simp)]
    exact (List.take_sublist _ _).nodup List.nodup_range
  have hmem : (n, rs.getD n none) ∈ (List.range 16).zip rs := by
    rw [List.mem_iff_getElem]
    exact ⟨n, by simp; omega, by simp [hlen]⟩
  have hlt : ∀ y ∈ (List.range 16).zip rs, y.1 < 16 := fun y hy => List.mem_range.mp (List.of_mem_zip hy).1
  refine foldl_once Prod.fst (sensorView n) sampleStep SensorView.sampled _ (fun s y hy hne => ?_) (fun s => ?_) hkeys hmem s
  · have hy16 := hlt y hy
    exact (sensorRetire_view n y.1 _).trans (sampleOne_view_of_ne n y.2 s (Ne.symm hne) (by omega) (by omega))
  · exact (sensorRetire_view n n _).trans (sampleOne_view_same n _ s)

end

/-! ### Limits (R380 to R382) -/

section
variable {s t : State}

theorem State.tripLim_congr (h : t.fgi F.TMP_CFG_TRIP 0 = s.fgi F.TMP_CFG_TRIP 0) : t.tripLim = s.tripLim :=
  congrArg (fun v => Nat.min 140 (Nat.max 100 v)) h

theorem State.warnLim_congr (ht : t.fgi F.TMP_CFG_TRIP 0 = s.fgi F.TMP_CFG_TRIP 0) (hw : t.fgi F.TMP_CFG_WARN 0 = s.fgi F.TMP_CFG_WARN 0) :
    t.warnLim = s.warnLim := by
  unfold State.warnLim
  rw [State.tripLim_congr ht, State.fg_eq, hw]
  rfl

theorem State.tmax_congr (h : t.fgi F.TMP_MAX_TEMP 0 = s.fgi F.TMP_MAX_TEMP 0) : t.tmax = s.tmax := congrArg (sgn 16) h

/-- What a check of the WARN limit may move. -/
def warnExtent : Extent := ⟨[.seqs, .log, .port], false, raiseFlds ++ [F.DBG_FLTSTAT_CLASS, F.TMP_STAT_WARN, F.TMP_WARNCNT]⟩

theorem warnCheck_fgi {f : Fld} (i : Nat) (hf : warnExtent.r f = false) : (warnCheck s).fgi f i = s.fgi f i :=
  State.fgi_of_seen warnExtent _ _ f i (warnCheck_seen _ _ rfl) hf

/-- R381: WARN is set at its limit. -/
theorem warnCheck_on (h : ((s.warnLim * 128 : Nat) : Int) ≤ s.tmax) : (warnCheck s).flag F.TMP_STAT_WARN = true := by
  unfold warnCheck
  dsimp only
  by_cases hon : s.flag F.TMP_STAT_WARN = true
  · rw [if_pos hon, if_neg (by omega)]
    exact hon
  · rw [if_neg hon, if_pos h]
    unfold State.flag
    rw [State.fg_eq]
    simp (disch := decide)

/-- R381: WARN clears 2 °C below its limit. -/
theorem warnCheck_off (h : s.tmax < ((s.warnLim * 128 : Nat) : Int) - 256) : (warnCheck s).flag F.TMP_STAT_WARN = false := by
  unfold warnCheck
  dsimp only
  by_cases hon : s.flag F.TMP_STAT_WARN = true
  · rw [if_pos hon, if_pos h]
    unfold State.flag
    rw [State.fg_eq]
    simp (disch := decide)
  · rw [if_neg hon, if_neg (by omega)]
    exact eq_false_of_ne_true hon

theorem tripCheck_fgi (f : Fld) (i : Nat) : (tripCheck s).fgi f i = s.fgi f i :=
  State.fgi_of_seen ⟨[.port], false, []⟩ _ _ f i (tripCheck_seen _ _ rfl) rfl

/-- R382: at the TRIP limit SAFE is due. -/
theorem tripCheck_due (h : ((s.tripLim * 128 : Nat) : Int) ≤ s.tmax) : ((tripCheck s).port.safe.due.any fun x => x.code == 0x2004) = true := by
  have hdue : ∀ t : State, t.tripLim = s.tripLim → t.tmax = s.tmax → ((if ((t.tripLim * 128 : Nat) : Int) ≤ t.tmax then
      safeDue ⟨0x2004, t.fg F.TMP_MAX_SENSOR, t.fg F.TMP_MAX_TEMP, none⟩ t else t).port.safe.due.any fun x => x.code == 0x2004) = true := by
    intro t hlim hmax
    rw [hlim, hmax, if_pos h]
    exact safeDue_due _ _
  have hfgi : ∀ (x : Fatal) (f : Fld), (safeDue x s).fgi f 0 = s.fgi f 0 := fun x f =>
    State.fgi_of_seen ⟨[.port], false, []⟩ _ _ f 0 (safeDue_seen _ _ _ rfl) rfl
  unfold tripCheck
  dsimp only
  refine hdue _ ?_ ?_
  · split
    · exact State.tripLim_congr (hfgi _ _)
    · rfl
  · split
    · exact State.tmax_congr (hfgi _ _)
    · rfl

theorem dieTrigger_fails (s : State) : (dieTrigger s).cal.fails = s.cal.fails ∧ (dieTrigger s).cal.trims = s.cal.trims := by
  unfold dieTrigger
  split
  · exact ⟨rfl, rfl⟩
  · split
    · exact ⟨rfl, rfl⟩
    · dsimp only
      split
      · exact ⟨by rw [State.sticky_cal], by rw [State.sticky_cal]⟩
      · exact ⟨rfl, rfl⟩

end

/-! ### A sampling period (R378 to R384) -/

/-- R379 to R381: the readings of a period taken, before the limits. -/
def sensorsRead (rs : List (Option Int)) (s : State) : State :=
  let s := hottest (((List.range 16).zip rs).foldl sampleStep s)
  s.fb F.TMP_STAT_FAST (decide (((s.warnLim * 128 : Nat) : Int) - 1024 ≤ s.tmax))

/-- R380 to R382: the limits of a period judged. -/
def limitsJudged (s : State) : State :=
  let s := warnCheck s
  if s.dev = .safe then s else tripCheck s

theorem sensorSample_eq (rs : List (Option Int)) (s : State) (h : s.dev ≠ .off) :
    sensorSample rs s = holdRelease (dieTrigger (limitsJudged (sensorsRead rs s))) := if_neg h

section
variable (s : State)

/-- What may move after a period's limits are judged. -/
def releaseExtent : Extent := ⟨[.seqs, .cal, .boot], false, raiseFlds ++ [F.CAL_STAT_DIETRIG, F.TMP_STAT_WRHOLD]⟩

theorem periodEnded_seen : State.seen releaseExtent (holdRelease (dieTrigger s)) = State.seen releaseExtent s :=
  (holdRelease_seen_in releaseExtent _ rfl).trans (dieTrigger_seen _ _ rfl)

theorem limitsJudged_seen (e : Extent) (h : e.covers [.seqs, .log, .port]
      [F.DBG_FLTSTAT_CLASS, F.ICU_LOSTCNT, F.ICU_OVRw_SRC, F.ICU_PENDw_SRC, F.TMP_STAT_WARN, F.TMP_WARNCNT] = true) :
    State.seen e (limitsJudged s) = State.seen e s := by
  unfold limitsJudged
  dsimp only
  split
  · exact warnCheck_seen e _ h
  · exact (tripCheck_seen e _ (by simp [Extent.covers] at h ⊢; exact h.1.2.2)).trans (warnCheck_seen e _ h)

end

section
variable {s : State} (rs : List (Option Int))

theorem sensorsRead_seen (e : Extent) (s : State) (h : e.covers [] [F.TMP_STAT_FAST, F.TMP_MAX_SENSOR, F.TMP_MAX_TEMP] = true) :
    State.seen e (sensorsRead rs s) = State.seen e (((List.range 16).zip rs).foldl sampleStep s) := by
  have hcov := Bool.and_eq_true_iff.mp h
  have hfld := List.all_eq_true.mp hcov.2
  refine (State.fb_seen _ _ _ _ (hfld _ List.mem_cons_self)).trans (hottest_seen _ _ (Bool.and_eq_true_iff.mpr ⟨rfl, ?_⟩))
  exact List.all_eq_true.mpr fun f hf => hfld f (List.mem_cons_of_mem _ hf)

theorem sampleStep_dev (s : State) (x : Nat × Option Int) : (sampleStep s x).dev = s.dev :=
  dev_of_seen ⟨[.seqs, .log, .port, .cal], true, []⟩ _ _ ((sensorRetire_seen _ _ _ rfl).trans (sampleOne_seen _ _ _ _ rfl)) rfl

theorem samples_dev (l : List (Nat × Option Int)) (s : State) : (l.foldl sampleStep s).dev = s.dev := by
  induction l generalizing s with
  | nil => rfl
  | cons x l ih => exact (ih _).trans (sampleStep_dev s x)

theorem sensorsRead_dev : (sensorsRead rs s).dev = s.dev :=
  (dev_of_seen ⟨[], true, []⟩ _ _ (sensorsRead_seen rs _ s rfl) rfl).trans (samples_dev _ s)

/-- R378 to R384: what a sampling period leaves of a sensor. -/
theorem sensorSample_view (hoff : s.dev ≠ .off) {n : Nat} (hn : n < 16) (hlen : n < rs.length) :
    sensorView n (sensorSample rs s) = (sensorView n s).sampled (n, rs.getD n none) := by
  rw [sensorSample_eq rs s hoff, ← samples_view n rs s hn hlen]
  have hread : sensorView n (sensorsRead rs s) = sensorView n (((List.range 16).zip rs).foldl sampleStep s) :=
    sensorView_of_seen n (fs := [F.TMP_STAT_FAST, F.TMP_MAX_SENSOR, F.TMP_MAX_TEMP]) (sensorsRead_seen rs _ s rfl) rfl rfl
  have hjudged : sensorView n (limitsJudged (sensorsRead rs s)) = sensorView n (sensorsRead rs s) :=
    sensorView_of_seen n (fs := [F.DBG_FLTSTAT_CLASS, F.ICU_LOSTCNT, F.ICU_OVRw_SRC, F.ICU_PENDw_SRC, F.TMP_STAT_WARN, F.TMP_WARNCNT])
      (limitsJudged_seen _ _ rfl) rfl rfl
  have hdie : ∀ t, sensorView n (dieTrigger t) = sensorView n t := fun t =>
    have h := dieTrigger_seen releaseExtent t rfl
    sensorView_congr n (State.fgi_of_seen _ _ _ _ n h rfl) (State.fgi_of_seen _ _ _ _ n h rfl) (dieTrigger_fails t).1 (dieTrigger_fails t).2
  have hrel : ∀ t, sensorView n (holdRelease t) = sensorView n t := fun t =>
    sensorView_of_seen n (fs := [F.TMP_STAT_WRHOLD]) (holdRelease_seen_in _ _ rfl) rfl rfl
  rw [hrel, hdie, hjudged, hread]

/-- R381, R382: what a sampling period finds of the limits. -/
theorem sensorSample_limits (hoff : s.dev ≠ .off) :
    ((((sensorSample rs s).warnLim * 128 : Nat) : Int) ≤ (sensorSample rs s).tmax → (sensorSample rs s).flag F.TMP_STAT_WARN = true) ∧
    ((sensorSample rs s).tmax < (((sensorSample rs s).warnLim * 128 : Nat) : Int) - 256 → (sensorSample rs s).flag F.TMP_STAT_WARN = false) ∧
    (s.dev ≠ .safe → (((sensorSample rs s).tripLim * 128 : Nat) : Int) ≤ (sensorSample rs s).tmax →
      ((sensorSample rs s).port.safe.due.any fun x => x.code == 0x2004) = true) := by
  have hseen := periodEnded_seen (limitsJudged (sensorsRead rs s))
  rw [← sensorSample_eq rs s hoff] at hseen
  have hkept : ∀ (f : Fld), releaseExtent.r f = false → (sensorSample rs s).fgi f 0 = (limitsJudged (sensorsRead rs s)).fgi f 0 :=
    fun f hf => State.fgi_of_seen _ _ _ f 0 hseen hf
  have hjudged : ∀ (f : Fld), (limitsJudged (sensorsRead rs s)).fgi f 0 = (warnCheck (sensorsRead rs s)).fgi f 0 := by
    intro f
    unfold limitsJudged
    dsimp only
    split
    · rfl
    · exact tripCheck_fgi f 0
  have hlim : ∀ (f : Fld), releaseExtent.r f = false → warnExtent.r f = false → (sensorSample rs s).fgi f 0 = (sensorsRead rs s).fgi f 0 :=
    fun f hf hw => (hkept f hf).trans ((hjudged f).trans (warnCheck_fgi 0 hw))
  have hwarn : (sensorSample rs s).flag F.TMP_STAT_WARN = (warnCheck (sensorsRead rs s)).flag F.TMP_STAT_WARN :=
    State.flag_congr _ ((hkept _ rfl).trans (hjudged _))
  rw [hwarn, State.warnLim_congr (hlim _ rfl rfl) (hlim _ rfl rfl), State.tmax_congr (hlim _ rfl rfl)]
  refine ⟨warnCheck_on, warnCheck_off, fun hsafe h => ?_⟩
  have hdev : (warnCheck (sensorsRead rs s)).dev ≠ .safe := by
    rw [dev_of_seen warnExtent _ _ (warnCheck_seen _ _ rfl) rfl, sensorsRead_dev]
    exact hsafe
  have hport : (sensorSample rs s).port = (tripCheck (warnCheck (sensorsRead rs s))).port := by
    rw [port_of_seen _ _ _ hseen rfl]
    exact congrArg State.port (if_neg hdev)
  rw [hport]
  refine tripCheck_due ?_
  rw [State.tripLim_congr (warnCheck_fgi 0 rfl), State.tmax_congr (warnCheck_fgi 0 rfl)]
  rwa [State.tripLim_congr (hlim _ rfl rfl)] at h

end

/-! ### Sensors out of service, bands and triggers (R379, R385 to R387, R392) -/

section
variable {s : State}

theorem sensorRetire_of_failed {n : Nat} (hfails : 3 ≤ s.cal.fails.getD n 0) (hin : s.bit F.TMP_SFAIL_FAILED 0 n = false) :
    sensorRetire n s = (((s.setBit F.TMP_SFAIL_FAILED 0 n true).fsi F.TMP_SENSn_FAILED n 1).raise 24).logFault 0x2001 n 0 :=
  if_pos ⟨hfails, hin⟩

/-- R379: a sensor that goes out of service shows it. -/
theorem sensorRetire_shows {n : Nat} (hn : n < 16) (hfails : 3 ≤ s.cal.fails.getD n 0) (hin : s.bit F.TMP_SFAIL_FAILED 0 n = false) :
    (sensorRetire n s).bit F.TMP_SFAIL_FAILED 0 n = true ∧ (sensorRetire n s).fgi F.TMP_SENSn_FAILED n = 1 ∧
      (sensorRetire n s).pend 24 = true := by
  rw [sensorRetire_of_failed hfails hin]
  refine ⟨?_, ?_, (State.logFault_pend _ _ _ _ _).trans (State.raise_pend _ _)⟩
  · unfold State.bit
    simp (disch := decide) only [State.fgi_logFault_of_ne, State.fgi_raise_of_ne, State.fgi_fsi_of_ne]
    exact (State.bit_setBit s F.TMP_SFAIL_FAILED 0 n n true hn).trans (if_pos rfl)
  · simp (disch := decide) only [State.fgi_logFault_of_ne, State.fgi_raise_of_ne, State.fgi_fsi]
    rfl

theorem bandCompute_of_none (hf : s.coming % 1000 = 0) (hup : s.up = true) (hts : s.tphs = []) :
    bandCompute s = (s.fs F.TMP_PHTEMP_NQ 0).fs F.TMP_STAT_PHSTALE 1 := by
  unfold bandCompute
  rw [if_pos ⟨hf, hup⟩, hts]

/-- R385: T_P and what is shown of it. -/
def tphTaken (x : Int) (r : List Int) (s : State) : State :=
  let s := ((s.fs F.TMP_PHTEMP_TP (unsgn 16 (rnEven (((sumI (x :: r) : Int) : Rat) / (((x :: r).length : Nat) : Rat))))).fs
    F.TMP_PHTEMP_NQ (x :: r).length).fs F.TMP_STAT_PHSTALE 0
  s.when (decide (((s.fg F.TMP_BANDCFG_SPREAD * 128 : Nat) : Int) < r.foldl max x - r.foldl min x)) fun s => s.fs F.TMP_STAT_PHSPREAD 1

theorem bandCompute_of_some {x : Int} {r : List Int} (hf : s.coming % 1000 = 0) (hup : s.up = true) (hts : s.tphs = x :: r) :
    bandCompute s = (tphTaken x r s).modCal fun c => { c with
      bandDone := true
      band := if bandAfter (tphTaken x r s) (rnEven (((sumI (x :: r) : Int) : Rat) / (((x :: r).length : Nat) : Rat)))
          ((tphTaken x r s).fg F.SEG_STAT_BAND) = (tphTaken x r s).fg F.SEG_STAT_BAND then none
        else some ⟨add32 (tphTaken x r s).coming 1, bandAfter (tphTaken x r s)
          (rnEven (((sumI (x :: r) : Int) : Rat) / (((x :: r).length : Nat) : Rat))) ((tphTaken x r s).fg F.SEG_STAT_BAND)⟩ } := by
  unfold bandCompute
  rw [if_pos ⟨hf, hup⟩, hts]
  rfl

theorem bandAfter_congr {t : State} (h : ∀ e, t.fgi F.TMP_EDGEe_EDGE e = s.fgi F.TMP_EDGEe_EDGE e) (tp : Int) (b : Nat) :
    bandAfter t tp b = bandAfter s tp b := by
  unfold bandAfter
  simp only [h]

/-- What a computation of T_P may move. -/
def tphExtent : Extent := ⟨[], false, [F.TMP_PHTEMP_TP, F.TMP_PHTEMP_NQ, F.TMP_STAT_PHSTALE, F.TMP_STAT_PHSPREAD]⟩

theorem tphTaken_seen (x : Int) (r : List Int) (s : State) : State.seen tphExtent (tphTaken x r s) = State.seen tphExtent s := by
  unfold tphTaken State.when
  dsimp only
  split
  all_goals simp [tphExtent, Extent.r]

theorem tphTaken_coming (x : Int) (r : List Int) : (tphTaken x r s).coming = s.coming := by
  unfold State.coming
  rw [time_of_seen _ _ _ (tphTaken_seen x r s) rfl, frame_of_seen _ _ _ (tphTaken_seen x r s) rfl]

theorem tphTaken_shows (x : Int) (r : List Int) : (tphTaken x r s).fg F.TMP_PHTEMP_TP =
      unsgn 16 (rnEven (((sumI (x :: r) : Int) : Rat) / (((x :: r).length : Nat) : Rat))) ∧
    (tphTaken x r s).fg F.TMP_PHTEMP_NQ = (x :: r).length % 2 ^ 6 ∧ (tphTaken x r s).fg F.TMP_STAT_PHSTALE = 0 := by
  have hwhen : ∀ (b : Bool) (t : State) (f : Fld), f.id ≠ F.TMP_STAT_PHSPREAD.id →
      (t.when b fun s => s.fs F.TMP_STAT_PHSPREAD 1).fgi f 0 = t.fgi f 0 := fun b t f hf =>
    State.fgi_when _ b (State.fgi_fs_of_ne _ _ _ hf)
  unfold tphTaken
  dsimp only
  refine ⟨(hwhen _ _ _ (by decide)).trans ?_, (hwhen _ _ _ (by decide)).trans ?_, (hwhen _ _ _ (by decide)).trans ?_⟩
  · simp (disch := decide) only [State.fgi_fs_self, State.fgi_fs_of_ne]
    exact Nat.mod_eq_of_lt (unsgn_lt 16 _)
  · simp (disch := decide) only [State.fgi_fs_self, State.fgi_fs_of_ne]
    rfl
  · simp (disch := decide) only [State.fgi_fs_self]
    rfl

/-- R385, R386: T_P, and the band that waits where it differs. -/
theorem bandCompute_shows {x : Int} {r : List Int} (hf : s.coming % 1000 = 0) (hup : s.up = true) (hts : s.tphs = x :: r) :
    (bandCompute s).fg F.TMP_PHTEMP_TP = unsgn 16 (rnEven (((sumI (x :: r) : Int) : Rat) / (((x :: r).length : Nat) : Rat))) ∧
    (bandCompute s).fg F.TMP_PHTEMP_NQ = (x :: r).length % 2 ^ 6 ∧ (bandCompute s).fg F.TMP_STAT_PHSTALE = 0 ∧
    (bandCompute s).cal.band = (if bandAfter s (rnEven (((sumI (x :: r) : Int) : Rat) / (((x :: r).length : Nat) : Rat)))
        (s.fg F.SEG_STAT_BAND) = s.fg F.SEG_STAT_BAND then none
      else some ⟨add32 s.coming 1, bandAfter s (rnEven (((sumI (x :: r) : Int) : Rat) / (((x :: r).length : Nat) : Rat)))
        (s.fg F.SEG_STAT_BAND)⟩) ∧ (bandCompute s).fg F.SEG_STAT_BAND = s.fg F.SEG_STAT_BAND := by
  have hband : (tphTaken x r s).fg F.SEG_STAT_BAND = s.fg F.SEG_STAT_BAND := State.fgi_of_seen _ _ _ _ 0 (tphTaken_seen x r s) rfl
  obtain ⟨htp, hnq, hstale⟩ := tphTaken_shows (s := s) x r
  rw [bandCompute_of_some hf hup hts, tphTaken_coming, hband,
    bandAfter_congr (fun e => State.fgi_of_seen _ _ _ _ e (tphTaken_seen x r s) rfl)]
  exact ⟨htp, hnq, hstale, rfl, hband⟩

/-- R387, R399: a change of band spoils the captures that run. -/
def captureSpoilt (s : State) (u : Nat) : State :=
  if s.fgi F.CAL_USTAT_STATE u = 3 ∧ notBefore (s.cal.units.getD u CalUnit.init).last s.coming = true then
    badCap u (s.fsi F.CAL_UCAP_BANDCHG u 1)
  else s

theorem captureSpoilt_seen (s : State) (u : Nat) : State.seen ⟨[.cal], false, [F.CAL_UCAP_BANDCHG]⟩ (captureSpoilt s u) =
    State.seen ⟨[.cal], false, [F.CAL_UCAP_BANDCHG]⟩ s := by
  unfold captureSpoilt
  split
  · exact (badCap_seen _ _ _ rfl).trans (State.fsi_seen _ _ _ _ _ rfl)
  · rfl

theorem foldl_captureSpoilt_band (us : List Nat) (s : State) : (us.foldl captureSpoilt s).cal.band = s.cal.band := by
  induction us generalizing s with
  | nil => rfl
  | cons u us ih =>
    refine (ih _).trans ?_
    unfold captureSpoilt
    split <;> rfl

/-- R387: a band that waits takes effect. -/
theorem bandChange_of_due {a : AtFrame} (hband : s.cal.band = some a) (hat : notBefore s.coming a.frame = true) : bandChange s =
    (List.range 4).foldl captureSpoilt
      ((((s.fs F.SEG_STAT_BAND a.val).bump F.TMP_BANDCNT).raise 27).modCal fun c => { c with band := none }) := by
  unfold bandChange
  rw [hband]
  exact if_pos hat

/-- What the triggers keep of a quay. -/
def trigView (q : Nat) (s : State) : Bool × Option Nat × Nat :=
  (s.bit F.CAL_QTRIG_QUAY 0 q, tget none s.cal.tref q, s.fgi F.QY_TTEMP_TPH q)

/-- R392: a bit of CAL.QTRIG cleared. -/
def qtrigStep (v : Nat) (s : State) (q : Nat) : State :=
  if v.testBit q then
    (s.setBit F.CAL_QTRIG_QUAY 0 q false).modCal fun c =>
      { c with tref := tset none c.tref q (if s.fgi F.QY_TTEMP_TPH q = 0x8000 then none else some (s.fgi F.QY_TTEMP_TPH q)) }
  else s

/-- R392: what a bit of the write leaves of its quay. -/
def trigCleared (v q : Nat) (x : Bool × Option Nat × Nat) : Bool × Option Nat × Nat :=
  if v.testBit q then (false, if x.2.2 = 0x8000 then none else some x.2.2, x.2.2) else x

theorem trigView_qtrigStep_same (v : Nat) {q : Nat} (hq : q < 32) (s : State) : trigView q (qtrigStep v s q) = trigCleared v q (trigView q s) := by
  unfold qtrigStep trigCleared
  split
  · refine Prod.ext ?_ (Prod.ext (tget_tset _ _ _ _) (State.fgi_setBit_of_ne (f := F.CAL_QTRIG_QUAY) (g := F.QY_TTEMP_TPH) s 0 q q false (by decide)))
    exact (State.bit_setBit s F.CAL_QTRIG_QUAY 0 q q false hq).trans (if_pos rfl)
  · rfl

theorem trigView_qtrigStep_of_ne (v : Nat) {q p : Nat} (hq : q < 32) (h : q ≠ p) (s : State) : trigView q (qtrigStep v s p) = trigView q s := by
  unfold qtrigStep
  split
  · refine Prod.ext ?_ (Prod.ext (tget_tset_ne _ _ _ _ _ h) (State.fgi_setBit_of_ne (f := F.CAL_QTRIG_QUAY) (g := F.QY_TTEMP_TPH) s 0 q p false (by decide)))
    exact (State.bit_setBit s F.CAL_QTRIG_QUAY 0 p q false hq).trans (if_neg h)
  · rfl

theorem qtrigClear_view (v : Nat) {q : Nat} (hq : q < 32) (s : State) : trigView q (qtrigClear v s) = trigCleared v q (trigView q s) :=
  foldl_once (x := q) id (trigView q) (qtrigStep v) (trigCleared v) (List.range 32)
    (fun s _ _ hne => trigView_qtrigStep_of_ne v hq (Ne.symm hne) s) (fun s => trigView_qtrigStep_same v hq s)
    (by rw [List.map_id]; exact List.nodup_range) (List.mem_range.mpr hq) s

/-- R384: held operations go on inside the window. -/
theorem holdRelease_of_held {o : FlashOp} {r : List FlashOp} (hheld : s.flag F.TMP_STAT_WRHOLD = true) (hwin : s.inWindow = true)
    (hcur : s.boot.cur = none) (hops : s.boot.ops = o :: r) : holdRelease s =
      otpIssue ((s.fs F.TMP_STAT_WRHOLD 0).modBoot fun b => { b with cur := some o, ops := r, opsHeld := false }) := by
  have hwin' : (s.fs F.TMP_STAT_WRHOLD 0).inWindow = true := (State.inWindow_congr (State.fgi_fs_of_ne _ _ _ (by decide))).trans hwin
  unfold holdRelease
  rw [if_pos (by rw [hheld, hwin]; rfl), flashIssue_of_inWindow hwin' hcur hops]

theorem holdRelease_shows {o : FlashOp} {r : List FlashOp} (hheld : s.flag F.TMP_STAT_WRHOLD = true) (hwin : s.inWindow = true)
    (hcur : s.boot.cur = none) (hops : s.boot.ops = o :: r) : (holdRelease s).fg F.TMP_STAT_WRHOLD = 0 ∧ (holdRelease s).boot.cur = some o ∧
      (holdRelease s).boot.ops = r ∧ (s.boot.otpOp.isSome = true → (holdRelease s).boot.otpHeld = false) := by
  have hwin' : ((s.fs F.TMP_STAT_WRHOLD 0).modBoot fun b => { b with cur := some o, ops := r, opsHeld := false }).inWindow = true := by
    refine (State.inWindow_congr ?_).trans hwin
    rw [State.modBoot_fgi, State.fgi_fs_of_ne]
    decide
  rw [holdRelease_of_held hheld hwin hcur hops, otpIssue_of_inWindow hwin']
  unfold State.when
  split
  · refine ⟨?_, rfl, rfl, fun _ => rfl⟩
    rw [State.fg_eq, State.modBoot_fgi, State.modBoot_fgi]
    exact State.fgi_fs_self _ _ _
  · rename_i hop
    refine ⟨?_, rfl, rfl, fun h => absurd h hop⟩
    rw [State.fg_eq, State.modBoot_fgi]
    exact State.fgi_fs_self _ _ _

end

/-- Settles O46: what a period leaves is seen sensor by sensor, and the limits at the end of it. -/
theorem thermalSupervision : Obligations.ThermalSupervision := by
  refine ⟨fun rs s hoff => ⟨_, rfl, fun n hlen => ?_, sensorSample_limits rs hoff⟩,
    fun n s hfails hin => ⟨_, rfl, sensorRetire_shows n.isLt hfails hin⟩, fun s hf hup hts => ⟨_, rfl, ?_⟩,
    fun x r s hf hup hts => ⟨_, rfl, bandCompute_shows hf hup hts⟩, fun a s hband hat => ⟨_, rfl, ?_⟩, fun v s => ⟨_, rfl, fun q => ?_⟩,
    fun s => ⟨_, rfl, State.fg_fs s F.CAL_STAT_DIETRIG 0, ?_⟩,
    fun o r s hheld hwin hcur hops => ⟨_, rfl, holdRelease_shows hheld hwin hcur hops⟩⟩
  · have hview := sensorSample_view rs hoff n.isLt hlen
    have hgood : ((rs.getD n.val none).bind fun r => if -7680 ≤ r + 8 * sgn 8 (s.trim 0 n.val) ∧ r + 8 * sgn 8 (s.trim 0 n.val) ≤ 22400 then
      some (r + 8 * sgn 8 (s.trim 0 n.val)) else none) = goodSample (sensorView n.val s).trim (rs.getD n.val none) := rfl
    dsimp only
    rw [hgood]
    have hvalid := congrArg SensorView.valid hview
    have htemp := congrArg SensorView.temp hview
    have hfails := congrArg SensorView.fails hview
    have hflag : ∀ v, (sensorSample rs s).fgi F.TMP_SENSn_VALID n.val = v → ((sensorSample rs s).flagi F.TMP_SENSn_VALID n.val = true ↔ v ≠ 0) := by
      intro v hv
      unfold State.flagi
      rw [hv, decide_eq_true_iff]
    cases hg : goodSample (sensorView n.val s).trim (rs.getD n.val none) with
    | some t =>
      rw [SensorView.sampled_of_some hg] at hvalid htemp hfails
      exact ⟨(hflag 1 hvalid).trans (by simp), fun _ => htemp, fun hl => hfails.trans (if_pos (show n.val < s.cal.fails.length by rw [hl]; exact n.isLt))⟩
    | none =>
      rw [SensorView.sampled_of_none hg] at hvalid htemp hfails
      exact ⟨(hflag 0 hvalid).trans (by simp), fun h => absurd h (by decide), fun hl => hfails.trans (if_pos (show n.val < s.cal.fails.length by rw [hl]; exact n.isLt))⟩
  · rw [bandCompute_of_none hf hup hts]
    exact ⟨(State.fgi_fs_of_ne _ _ _ (by decide)).trans (State.fgi_fs_self _ _ _), State.fg_fs _ _ _, rfl⟩
  · rw [bandChange_of_due hband hat]
    have hseen := foldl_seen ⟨[.cal], false, [F.CAL_UCAP_BANDCHG]⟩ captureSpoilt (List.range 4)
      ((((s.fs F.SEG_STAT_BAND a.val).bump F.TMP_BANDCNT).raise 27).modCal fun c => { c with band := none }) captureSpoilt_seen
    refine ⟨(State.fgi_of_seen _ _ _ _ 0 hseen rfl).trans ?_, (State.fgi_of_seen _ _ _ _ 0 hseen rfl).trans ?_, ?_, foldl_captureSpoilt_band _ _⟩
    · simp (disch := decide) only [State.modCal_fgi, State.fgi_raise_of_ne, State.fgi_bump_of_ne, State.fgi_fs_self]
      rfl
    · simp (disch := decide) only [State.modCal_fgi, State.fgi_raise_of_ne, State.fgi_bump_self, State.fgi_fs_of_ne]
      rfl
    · rw [State.pend_eq_of_fgi (fun w => State.fgi_of_seen _ _ _ _ w hseen rfl)]
      exact State.raise_pend _ 27
  · have hview := qtrigClear_view v.toNat q.isLt s
    have hbit := congrArg Prod.fst hview
    have href := congrArg (fun x => x.2.1) hview
    unfold trigCleared at hbit href
    refine ⟨hbit.trans ?_, href.trans ?_⟩
    · cases v.toNat.testBit q.val <;> simp [trigView]
    · cases v.toNat.testBit q.val <;> rfl
  · rfl

end Sys2Proof.Machine
end

section
/-! PROOF. Table memory as a master of the matrix finds and leaves it (18, R468 to R473). -/
namespace Sys2Proof.Machine

/-! ### What a byte of table memory depends on -/

/-- The registers that place the areas of table memory (18, Table memory). -/
def areaFlds : List Fld := [F.MAN_RECBASE_ADDR, F.MAN_BMPBASE_ADDR, F.PVE_CACHEBASE_ADDR, F.MAN_RECCFG_RECCNT, F.MAN_RECCFG_BMPSZ]

/-- Two states that show the same bytes in table memory. -/
structure SameTable (s t : State) : Prop where
  table : t.table = s.table
  slots : t.fab.slots = s.fab.slots
  coefs : t.fab.coefs = s.fab.coefs
  bundles : t.fab.bundles = s.fab.bundles
  recs : t.exec.recs = s.exec.recs
  sess : t.pen.sess = s.pen.sess
  log : t.log = s.log
  fresh : t.fresh = s.fresh
  frame : t.frame = s.frame
  flds : ∀ f ∈ areaFlds, t.fg f = s.fg f

section
variable {s t u : State}

theorem SameTable.refl (s : State) : SameTable s s := ⟨rfl, rfl, rfl, rfl, rfl, rfl, rfl, rfl, rfl, fun _ _ => rfl⟩

theorem SameTable.trans (h : SameTable s t) (k : SameTable t u) : SameTable s u :=
  ⟨k.table.trans h.table, k.slots.trans h.slots, k.coefs.trans h.coefs, k.bundles.trans h.bundles, k.recs.trans h.recs,
    k.sess.trans h.sess, k.log.trans h.log, k.fresh.trans h.fresh, k.frame.trans h.frame, fun f hf => (k.flds f hf).trans (h.flds f hf)⟩

theorem SameTable.area (h : SameTable s t) (a : Nat) : t.area a = s.area a := by
  unfold State.area State.recCnt State.bmpSz
  rw [h.flds F.MAN_RECBASE_ADDR (by simp [areaFlds]), h.flds F.MAN_BMPBASE_ADDR (by simp [areaFlds]), h.flds F.PVE_CACHEBASE_ADDR (by simp [areaFlds]),
    h.flds F.MAN_RECCFG_RECCNT (by simp [areaFlds]), h.flds F.MAN_RECCFG_BMPSZ (by simp [areaFlds])]

theorem SameTable.guarded (h : SameTable s t) (a : Nat) : t.guarded a = s.guarded a := by
  unfold State.guarded
  rw [h.area]

theorem SameTable.coef (h : SameTable s t) (b : Nat) : t.coef b = s.coef b := by
  unfold State.coef
  rw [h.coefs]

theorem SameTable.parByte (h : SameTable s t) (b o : Nat) : parByte t b o = parByte s b o := by
  have hslot : ∀ n, t.slot n = s.slot n := fun n => by
    unfold State.slot
    rw [h.slots]
  have hbun : t.bun b = s.bun b := by
    unfold State.bun
    rw [h.bundles]
  have hcoef : ∀ n, t.slotCoef n = s.slotCoef n := fun n => by
    unfold State.slotCoef
    rw [h.coef]
  unfold Machine.parByte wordByte bunRecWord slotRecWord
  simp only [hslot, hbun, hcoef, h.coef, h.frame]

theorem SameTable.xrec (h : SameTable s t) (r : Nat) : t.xrec r = s.xrec r := by
  unfold State.xrec
  rw [h.recs]

theorem SameTable.recBytes (h : SameTable s t) (r : Nat) : recBytes t r = recBytes s r := by
  unfold Machine.recBytes State.bmpAddr State.bmpSz
  rw [h.xrec, h.flds F.MAN_BMPBASE_ADDR (by simp [areaFlds]), h.flds F.MAN_RECCFG_BMPSZ (by simp [areaFlds])]

theorem SameTable.bmpAt (h : SameTable s t) (r k : Nat) : bmpAt t r k = bmpAt s r k := by
  unfold Machine.bmpAt
  rw [h.xrec]

/-- R470, R473: states that agree in the typed state behind table memory show the same byte. -/
theorem SameTable.tblByte (h : SameTable s t) (a : Nat) : tblByte t a = tblByte s a := by
  have hsess : ∀ i, t.sess i = s.sess i := fun i => by
    unfold State.sess
    rw [h.sess]
  unfold Machine.tblByte State.mem8
  rw [h.area]
  cases s.area a with
  | par b o => exact h.parByte b o
  | own => exact congrArg (Config.deviceByte a) h.fresh
  | log k o => dsimp only; rw [h.log]
  | logHead o => dsimp only; rw [h.log]
  | entry r o => dsimp only; rw [h.recBytes]
  | bmp r o => exact h.bmpAt r o
  | cache i k o => dsimp only; rw [hsess]
  | plain => dsimp only; rw [h.table]

theorem SameTable.tblBytes (h : SameTable s t) (a n : Nat) : tblBytes t a n = tblBytes s a n :=
  List.map_congr_left fun i _ => h.tblByte (a + i)

/-- What lies outside the typed state behind table memory. -/
theorem SameTable.of_seen {fs : List Fld} (h : State.seen ⟨[.dev, .auth, .rdata, .seqs, .time, .boot, .cal, .port], false, fs⟩ t =
    State.seen ⟨[.dev, .auth, .rdata, .seqs, .time, .boot, .cal, .port], false, fs⟩ s)
    (hf : (areaFlds.all fun f => !(Extent.mk [.dev, .auth, .rdata, .seqs, .time, .boot, .cal, .port] false fs).r f) = true) :
    SameTable s t where
  table := table_of_seen _ _ _ h rfl
  slots := congrArg Fabric.slots (fab_of_seen _ _ _ h rfl)
  coefs := congrArg Fabric.coefs (fab_of_seen _ _ _ h rfl)
  bundles := congrArg Fabric.bundles (fab_of_seen _ _ _ h rfl)
  recs := congrArg ExecSt.recs (exec_of_seen _ _ _ h rfl)
  sess := congrArg PenSt.sess (pen_of_seen _ _ _ h rfl)
  log := log_of_seen _ _ _ h rfl
  fresh := fresh_of_seen _ _ _ h rfl
  frame := frame_of_seen _ _ _ h rfl
  flds := fun f hmem => State.fgi_of_seen _ _ _ f 0 h (by simpa using List.all_eq_true.mp hf f hmem)

end

/-! ### The beats of table memory (R469) -/

section
variable {s : State} {a : Nat}

theorem target_of_tbl (h : a < 0x1000000) : target a = .tbl a := if_pos h

theorem targetNo_of_tbl (h : a < 0x1000000) : targetNo a = some (a / 32 % 8) := by
  unfold targetNo
  rw [target_of_tbl h]

/-- Banks 0 to 7 are those of table memory (R460). -/
theorem lt_of_targetNo {t : Nat} (h : targetNo a = some t) (ht : t < 8) : a < 0x1000000 := by
  by_contra ha
  unfold targetNo target at h
  rw [if_neg ha] at h
  split_ifs at h
  all_goals simp at h
  all_goals omega

theorem eccMend_fab (a : Nat) (s : State) : ∃ l, (eccMend a s).fab = { s.fab with weakWords := l } := by
  unfold eccMend
  dsimp only
  split
  · exact ⟨s.fab.weakWords, rfl⟩
  · refine ⟨s.fab.weakWords.filter fun w => decide (w ∉ inBeat a s.fab.weakWords), ?_⟩
    have hfold : ∀ (l : List Nat) (u : State), (l.foldl (fun s _ => s.bump F.MTX_ECCCOR) u).fab = u.fab := fun l u =>
      fab_of_seen ⟨[], false, [F.MTX_ECCCOR]⟩ _ _ (foldl_seen _ _ _ _ fun s _ => State.bump_seen _ _ _ rfl) rfl
    rw [State.modFab_fab, hfold]

theorem eccMend_seen_in (e : Extent) (h : e.covers [.fab] [F.MTX_ECCCOR] = true) (a : Nat) (s : State) :
    State.seen e (eccMend a s) = State.seen e s := eccMend_seen e a s h

/-- R469: a read that corrects a beat changes no byte. -/
theorem sameTable_eccMend (a : Nat) (s : State) : SameTable s (eccMend a s) := by
  obtain ⟨l, hfab⟩ := eccMend_fab a s
  have h := eccMend_seen_in ⟨[.fab], false, [F.MTX_ECCCOR]⟩ rfl a s
  refine ⟨table_of_seen _ _ _ h rfl, ?_, ?_, ?_, ?_, ?_, log_of_seen _ _ _ h rfl, fresh_of_seen _ _ _ h rfl, frame_of_seen _ _ _ h rfl, ?_⟩
  · rw [hfab]
  · rw [hfab]
  · rw [hfab]
  · rw [exec_of_seen _ _ _ h rfl]
  · rw [pen_of_seen _ _ _ h rfl]
  · intro f hf
    refine State.fgi_of_seen _ _ _ f 0 h ?_
    simp only [areaFlds, List.mem_cons, List.not_mem_nil, or_false] at hf
    rcases hf with rfl | rfl | rfl | rfl | rfl <;> rfl

theorem eccMend_badWords (a : Nat) (s : State) : (eccMend a s).fab.badWords = s.fab.badWords := by
  obtain ⟨l, hfab⟩ := eccMend_fab a s
  rw [hfab]

theorem mtxBytes_of_tbl {n : Nat} (h : a + n ≤ 0x1000000) (s : State) : mtxBytes s a n = tblBytes s a n := by
  refine List.map_congr_left fun i hi => ?_
  have hi := List.mem_range.mp hi
  unfold mtxByte
  rw [target_of_tbl (by omega)]

theorem noteStall_of_tbl (h : a < 0x1000000) (cycle : Nat) (s : State) : noteStall a cycle s = s := by
  unfold noteStall
  rw [target_of_tbl h]

theorem memGet_of_tbl (h : a < 0x1000000) (n cycle : Nat) (s : State) : memGet a n cycle s = (mtxBytes s a n, eccMend a s) := by
  unfold memGet
  rw [noteStall_of_tbl h]

theorem memPutAt_of_tbl (h : a < 0x1000000) (bytes : List Byte) (s : State) : memPutAt a bytes s = tblPut a bytes s := by
  unfold memPutAt
  rw [target_of_tbl h]

theorem beatBad_of_nil (h : s.fab.badWords = []) (a : Nat) : s.beatBad a = false := by
  unfold State.beatBad inBeat
  rw [h]
  split <;> rfl

theorem accCause_of_tbl (h : a < 0x1000000) (m : Nat) (write : Bool) (s : State) :
    accCause m a write s = if write && guardedMaster m && s.guarded a then 6 else 0 := by
  unfold accCause
  rw [target_of_tbl h]

/-- R469: a read of table memory is refused for an uncorrectable word alone. -/
theorem accErr_read_tbl (h : a < 0x1000000) (m : Nat) (part : Bool) (s : State) :
    accErr m a false part s = if s.beatBad a then 3 else 0 := by
  unfold accErr
  rw [accCause_of_tbl h]
  cases s.beatBad a <;> rfl

/-- R472: a write of a whole beat of table memory is refused for its guard alone. -/
theorem accErr_whole_tbl (h : a < 0x1000000) (m : Nat) (s : State) :
    accErr m a true false s = if guardedMaster m && s.guarded a then 6 else 0 := by
  unfold accErr
  rw [accCause_of_tbl h, Bool.true_and]
  cases guardedMaster m && s.guarded a <;> rfl

theorem accErr_write_tbl (h : a < 0x1000000) {m : Nat} (hm : guardedMaster m = false) (part : Bool) (hbad : s.beatBad a = false) :
    accErr m a true part s = 0 := by
  unfold accErr
  rw [accCause_of_tbl h, hm, hbad, Bool.and_false, Bool.false_and, Bool.and_false]
  rfl

/-! ### Bytes put into table memory (R469, R547) -/

theorem rereadObj_fab (s : State) (x : Alloc) : (rereadObj s x).fab.weakWords = s.fab.weakWords ∧
    (rereadObj s x).fab.badWords = s.fab.badWords := by
  unfold rereadObj
  dsimp only
  split <;> exact ⟨rfl, rfl⟩

theorem foldl_rereadObj_fab (l : List Alloc) (s : State) : (l.foldl rereadObj s).fab.weakWords = s.fab.weakWords ∧
    (l.foldl rereadObj s).fab.badWords = s.fab.badWords := by
  induction l generalizing s with
  | nil => exact ⟨rfl, rfl⟩
  | cons x l ih =>
    obtain ⟨hweak, hbad⟩ := ih (rereadObj s x)
    obtain ⟨hweak', hbad'⟩ := rereadObj_fab s x
    exact ⟨hweak.trans hweak', hbad.trans hbad'⟩

/-- R469: a word of ECC whose beat a write does not replace whole. -/
def beatRest (a n w : Nat) : Bool := decide (w / 4 * 32 < a) || decide (a + n < w / 4 * 32 + 32)

theorem tblPut_seen_objects (a : Nat) (bytes : List Byte) (s : State) : State.seen ⟨[.fab, .exec], false, []⟩ (tblPut a bytes s) =
    State.seen ⟨[.fab, .exec], false, []⟩ (s.memBeats a bytes) :=
  foldl_seen _ rereadObj _ _ fun s x => rereadObj_seen _ s x rfl

theorem tblPut_table (a : Nat) (bytes : List Byte) (s : State) : (tblPut a bytes s).table = tsetBytes s.table 0 a bytes :=
  table_of_seen _ _ _ (tblPut_seen_objects a bytes s) rfl

theorem tblPut_weakWords (a : Nat) (bytes : List Byte) (s : State) :
    (tblPut a bytes s).fab.weakWords = s.fab.weakWords.filter (beatRest a bytes.length) := (foldl_rereadObj_fab _ _).1

theorem tblPut_badWords (a : Nat) (bytes : List Byte) (s : State) :
    (tblPut a bytes s).fab.badWords = s.fab.badWords.filter (beatRest a bytes.length) := (foldl_rereadObj_fab _ _).2

end

/-! ### Bytes in a row -/

theorem tsetBytes_append (t : Tbl Byte) (d : Byte) (a : Nat) (x y : List Byte) :
    tsetBytes t d a (x ++ y) = tsetBytes (tsetBytes t d a x) d (a + x.length) y := by
  induction x generalizing t a with
  | nil => rfl
  | cons b x ih =>
    rw [List.cons_append, tsetBytes, ih, tsetBytes, List.length_cons, Nat.add_right_comm, Nat.add_assoc]

theorem tblBytes_append (s : State) (a n m : Nat) : tblBytes s a n ++ tblBytes s (a + n) m = tblBytes s a (n + m) := by
  unfold tblBytes
  rw [List.range_add, List.map_append, List.map_map]
  congr 1
  exact List.map_congr_left fun i _ => by rw [Function.comp_apply, Nat.add_assoc]

theorem tblBytes_length (s : State) (a n : Nat) : (tblBytes s a n).length = n := by
  simp [tblBytes]

end Sys2Proof.Machine
end

section
/-! PROOF. Flash operations (16, R434; 15, R384), and the bursts of M7 that they move bytes with (18, R459, R461). -/
namespace Sys2Proof.Machine

/-! ### Ranges cut into beats and pages (R461) -/

/-- Beats that follow one another and cover `n` bytes from `a` on. -/
def Tiles : List (Nat × Nat) → Nat → Nat → Prop
  | [], _, n => n = 0
  | x :: l, a, n => x.1 = a ∧ 0 < x.2 ∧ x.2 ≤ n ∧ Tiles l (a + x.2) (n - x.2)

theorem tiles_splitBeats (fuel : Nat) : ∀ (a n : Nat), n = 0 ∨ a % 32 + n ≤ 32 * fuel → Tiles (splitBeats fuel a n) a n := by
  induction fuel with
  | zero =>
    intro a n h
    have hn : n = 0 := by omega
    exact hn
  | succ fuel ih =>
    intro a n h
    unfold splitBeats
    split
    · assumption
    · have hk : Nat.min n (32 - a % 32) = min n (32 - a % 32) := rfl
      refine ⟨rfl, ?_, ?_, ih _ _ ?_⟩
      · rw [hk]; omega
      · rw [hk]; omega
      · rw [hk]; omega

theorem beatBytes_cons (x : Nat × Nat) (l : List (Nat × Nat)) : beatBytes (x :: l) = x.2 + beatBytes l := by
  have hsum : ∀ (l : List Nat) (k : Nat), l.foldl (· + ·) k = k + l.foldl (· + ·) 0 := by
    intro l
    induction l with
    | nil => exact fun _ => rfl
    | cons y l ih =>
      intro k
      rw [List.foldl_cons, List.foldl_cons, ih (k + y), ih (0 + y)]
      omega
  unfold beatBytes
  rw [List.map_cons, List.foldl_cons, hsum, Nat.zero_add]

theorem Tiles.beatBytes {l : List (Nat × Nat)} {a n : Nat} (h : Tiles l a n) : beatBytes l = n := by
  induction l generalizing a n with
  | nil => exact h.symm
  | cons x l ih =>
    obtain ⟨-, -, hle, hrest⟩ := h
    rw [beatBytes_cons, ih hrest]
    omega

/-! ### Writes of M7 into table memory -/

/-- The beats of a write to table memory, one after another. -/
def tblPuts (l : List (Nat × List Byte)) (s : State) : State := l.foldl (fun s x => tblPut x.1 x.2 s) s

section
variable {s : State}

theorem xspPut_of_tbl {a : Nat} (ha : a < 0x1000000) (hbad : s.fab.badWords = []) (cycle : Nat) (bytes : List Byte) :
    xspPut a cycle bytes s = (true, tblPut a bytes s) := by
  unfold xspPut
  rw [target_of_tbl ha, accErr_write_tbl ha rfl _ (beatBad_of_nil hbad a)]
  dsimp only
  rw [noteStall_of_tbl ha, memPutAt_of_tbl ha]
  rfl

theorem tblPut_bad_nil (hbad : s.fab.badWords = []) (a : Nat) (bytes : List Byte) : (tblPut a bytes s).fab.badWords = [] := by
  rw [tblPut_badWords, hbad]
  rfl

theorem burstWrite_of_tbl (delivered cycle : Nat) (l : List (Nat × List Byte)) : ∀ (k : Nat) (s : State), s.fab.badWords = [] →
    (∀ x ∈ l, x.1 < 0x1000000) → burstWrite 7 xspPut memPutAt delivered k cycle l s = (true, tblPuts l s) := by
  induction l with
  | nil => exact fun _ _ _ _ => rfl
  | cons x l ih =>
    intro k s hbad haddr
    unfold burstWrite
    rw [xspPut_of_tbl (haddr x List.mem_cons_self) hbad]
    exact ih (k + 1) _ (tblPut_bad_nil hbad _ _) fun y hy => haddr y (List.mem_cons_of_mem _ hy)

theorem Tiles.fillBeats_lt {l : List (Nat × Nat)} {a n : Nat} (h : Tiles l a n) (bytes : List Byte) :
    ∀ x ∈ fillBeats l bytes, x.1 < a + n := by
  induction l generalizing a n bytes with
  | nil => exact fun x hx => absurd hx List.not_mem_nil
  | cons y l ih =>
    obtain ⟨haddr, hpos, hle, hrest⟩ := h
    intro x hx
    rcases List.mem_cons.mp hx with rfl | hx
    · show y.1 < a + n
      omega
    · have := ih hrest _ x hx
      omega

/-- R461: beats that cover a range write the range. -/
theorem Tiles.puts_table {l : List (Nat × Nat)} {a n : Nat} (h : Tiles l a n) (bytes : List Byte) (hlen : n ≤ bytes.length) (s : State) :
    (tblPuts (fillBeats l bytes) s).table = tsetBytes s.table 0 a (bytes.take n) := by
  induction l generalizing a n bytes s with
  | nil =>
    rw [show n = 0 from h, List.take_zero]
    rfl
  | cons x l ih =>
    obtain ⟨haddr, hpos, hle, hrest⟩ := h
    have hsplit : bytes.take n = bytes.take x.2 ++ (bytes.drop x.2).take (n - x.2) := by
      rw [← List.take_add, Nat.add_sub_cancel' hle]
    have htake : (bytes.take x.2).length = x.2 := by
      rw [List.length_take]
      omega
    rw [hsplit, tsetBytes_append, htake, ← haddr, ← tblPut_table]
    have hrest' : Tiles l (x.1 + x.2) (n - x.2) := haddr ▸ hrest
    exact ih hrest' (bytes.drop x.2) (by rw [List.length_drop]; omega) _

theorem tblPuts_bad_nil (l : List (Nat × List Byte)) (hbad : s.fab.badWords = []) : (tblPuts l s).fab.badWords = [] := by
  induction l generalizing s with
  | nil => exact hbad
  | cons x l ih => exact ih (tblPut_bad_nil hbad _ _)

/-- What a write to table memory may move. -/
def putExtent : Extent := ⟨[.table, .fab, .exec], false, []⟩

theorem tblPuts_seen (l : List (Nat × List Byte)) (s : State) : State.seen putExtent (tblPuts l s) = State.seen putExtent s :=
  foldl_seen _ _ _ _ fun s _ => tblPut_seen _ _ _ s rfl

/-- R459: M7 writes one page. -/
def xspPage (r : List Byte × State) (l : List (Nat × Nat)) : List Byte × State :=
  (r.1.drop (beatBytes l), (burstWrite 7 xspPut memPutAt 8 0 0 (fillBeats l r.1) r.2).2)

theorem xspPages_shows (fuel : Nat) : ∀ (a n : Nat) (bytes : List Byte) (s : State), n = 0 ∨ a % 256 + n ≤ 256 * fuel → n ≤ bytes.length →
    a + n ≤ 0x1000000 → s.fab.badWords = [] →
    ((pagesOf fuel a n).foldl xspPage (bytes, s)).2.table = tsetBytes s.table 0 a (bytes.take n) ∧
      State.seen putExtent ((pagesOf fuel a n).foldl xspPage (bytes, s)).2 = State.seen putExtent s := by
  induction fuel with
  | zero =>
    intro a n bytes s h _ _ _
    have hn : n = 0 := by omega
    subst hn
    exact ⟨by rw [List.take_zero]; rfl, rfl⟩
  | succ fuel ih =>
    intro a n bytes s h hlen hend hbad
    unfold pagesOf
    split
    · rename_i hn
      subst hn
      exact ⟨by rw [List.take_zero]; rfl, rfl⟩
    · dsimp only
      have hk : Nat.min n (256 - a % 256) = min n (256 - a % 256) := rfl
      rw [hk, List.foldl_cons]
      generalize hkk : min n (256 - a % 256) = k
      have hpos : k ≤ n := by omega
      have htiles : Tiles (splitBeats 9 a k) a k := tiles_splitBeats 9 a k (by omega)
      have hwrite : xspPage (bytes, s) (splitBeats 9 a k) = (bytes.drop k, tblPuts (fillBeats (splitBeats 9 a k) bytes) s) := by
        unfold xspPage
        rw [htiles.beatBytes, burstWrite_of_tbl _ _ _ _ _ hbad fun x hx => Nat.lt_of_lt_of_le (htiles.fillBeats_lt bytes x hx) (by omega)]
      rw [hwrite]
      obtain ⟨htable, hseen⟩ := ih (a + k) (n - k) (bytes.drop k) (tblPuts (fillBeats (splitBeats 9 a k) bytes) s) (by omega)
        (by rw [List.length_drop]; omega) (by omega) (tblPuts_bad_nil _ hbad)
      refine ⟨?_, hseen.trans (tblPuts_seen _ _)⟩
      rw [htable, htiles.puts_table bytes (by omega)]
      have hsplit : bytes.take n = bytes.take k ++ (bytes.drop k).take (n - k) := by
        rw [← List.take_add, Nat.add_sub_cancel' hpos]
      have htake : (bytes.take k).length = k := by
        rw [List.length_take]
        omega
      rw [hsplit, tsetBytes_append, htake]

/-- R434: M7 writes a range of table memory. -/
theorem xspStore_shows {a : Nat} (bytes : List Byte) (hend : a + bytes.length ≤ 0x1000000) (hbad : s.fab.badWords = []) :
    (xspStore a bytes s).table = tsetBytes s.table 0 a bytes ∧ State.seen putExtent (xspStore a bytes s) = State.seen putExtent s := by
  have h := xspPages_shows (bytes.length / 256 + 2) a bytes.length bytes s (by omega) (le_refl _) hend hbad
  rwa [List.take_length] at h

end

/-! ### Reads of M7 from table memory -/

/-- A read of table memory shows the same bytes after it, and moves no more than what ECC has found. -/
structure OnlyRead (s t : State) : Prop where
  same : SameTable s t
  bad : t.fab.badWords = s.fab.badWords
  seen : State.seen ⟨[.fab], false, [F.MTX_ECCCOR]⟩ t = State.seen ⟨[.fab], false, [F.MTX_ECCCOR]⟩ s

section
variable {s t u : State}

theorem OnlyRead.trans (h : OnlyRead s t) (k : OnlyRead t u) : OnlyRead s u :=
  ⟨h.same.trans k.same, k.bad.trans h.bad, k.seen.trans h.seen⟩

theorem OnlyRead.refl (s : State) : OnlyRead s s := ⟨SameTable.refl s, rfl, rfl⟩

theorem onlyRead_eccMend (a : Nat) (s : State) : OnlyRead s (eccMend a s) :=
  ⟨sameTable_eccMend a s, eccMend_badWords a s, eccMend_seen_in _ rfl a s⟩

theorem xspGet_of_tbl {a n : Nat} (ha : a < 0x1000000) (hend : a + n ≤ 0x1000000) (hbad : s.fab.badWords = []) (cycle : Nat) :
    xspGet a n cycle s = (some (tblBytes s a n), eccMend a s) := by
  unfold xspGet
  rw [target_of_tbl ha, accErr_read_tbl ha, beatBad_of_nil hbad, if_neg Bool.false_ne_true]
  dsimp only
  rw [memGet_of_tbl ha, mtxBytes_of_tbl hend]
  rfl

theorem burstRead_of_tbl {l : List (Nat × Nat)} : ∀ {a n : Nat}, Tiles l a n → a + n ≤ 0x1000000 → ∀ (cycle : Nat) (acc : List Byte) (s : State),
    s.fab.badWords = [] → ∃ t, burstRead 7 xspGet xspDrop cycle l acc s = (some (acc ++ tblBytes s a n), t) ∧ OnlyRead s t := by
  induction l with
  | nil =>
    intro a n h _ cycle acc s _
    refine ⟨s, ?_, OnlyRead.refl s⟩
    rw [show n = 0 from h]
    exact congrArg (fun l => (some l, s)) (List.append_nil acc).symm
  | cons x l ih =>
    intro a n h hend cycle acc s hbad
    obtain ⟨haddr, hpos, hle, hrest⟩ := h
    have hmend := onlyRead_eccMend x.1 s
    obtain ⟨t, ht, hread⟩ := ih hrest (by omega) (cycle + 1) (acc ++ tblBytes s x.1 x.2) (eccMend x.1 s) (hmend.bad.trans hbad)
    refine ⟨t, ?_, hmend.trans hread⟩
    unfold burstRead
    rw [xspGet_of_tbl (by omega) (by omega) hbad]
    dsimp only
    rw [ht, hmend.same.tblBytes, List.append_assoc, haddr, tblBytes_append, Nat.add_sub_cancel' hle]

/-- R459: M7 reads one page. -/
def xspPageRead (r : List Byte × State) (l : List (Nat × Nat)) : List Byte × State :=
  let y := burstRead 7 xspGet xspDrop 0 l [] r.2
  (r.1 ++ y.1.getD (List.replicate (beatBytes l) 0), y.2)

theorem xspPagesRead_shows (fuel : Nat) : ∀ (a n : Nat) (acc : List Byte) (s : State), n = 0 ∨ a % 256 + n ≤ 256 * fuel → a + n ≤ 0x1000000 →
    s.fab.badWords = [] → ∃ t, (pagesOf fuel a n).foldl xspPageRead (acc, s) = (acc ++ tblBytes s a n, t) ∧ OnlyRead s t := by
  induction fuel with
  | zero =>
    intro a n acc s h _ _
    have hn : n = 0 := by omega
    subst hn
    exact ⟨s, congrArg (fun l => (l, s)) (List.append_nil acc).symm, OnlyRead.refl s⟩
  | succ fuel ih =>
    intro a n acc s h hend hbad
    unfold pagesOf
    split
    · rename_i hn
      subst hn
      exact ⟨s, congrArg (fun l => (l, s)) (List.append_nil acc).symm, OnlyRead.refl s⟩
    · dsimp only
      have hk : Nat.min n (256 - a % 256) = min n (256 - a % 256) := rfl
      rw [hk, List.foldl_cons]
      generalize hkk : min n (256 - a % 256) = k
      have hle : k ≤ n := by omega
      obtain ⟨t, ht, hread⟩ := burstRead_of_tbl (tiles_splitBeats 9 a k (by omega)) (by omega) 0 [] s hbad
      have hpage : xspPageRead (acc, s) (splitBeats 9 a k) = (acc ++ tblBytes s a k, t) := by
        unfold xspPageRead
        rw [ht]
        rfl
      obtain ⟨u, hu, hread'⟩ := ih (a + k) (n - k) (acc ++ tblBytes s a k) t (by omega) (by omega) (hread.bad.trans hbad)
      refine ⟨u, ?_, hread.trans hread'⟩
      rw [hpage, hu, hread.same.tblBytes, List.append_assoc, tblBytes_append, Nat.add_sub_cancel' hle]

/-- R434: M7 reads a range of table memory. -/
theorem xspLoad_shows {a n : Nat} (hend : a + n ≤ 0x1000000) (hbad : s.fab.badWords = []) :
    ∃ t, xspLoad a n s = (tblBytes s a n, t) ∧ OnlyRead s t :=
  xspPagesRead_shows (n / 256 + 2) a n [] s (by omega) hend hbad

end

end Sys2Proof.Machine
end

section
/-! PROOF. What firmware's flash operations do (16, R434): submission, completion, waiting and error (O49). -/
namespace Sys2Proof.Machine

/-! ### Error responses in full (R468) -/

/-- R468: what an error response leaves of its access, whatever was recorded before. -/
theorem matrixError_access {a : Nat} (m e : Nat) (write : Bool) (ha : a < 2 ^ 32) (s : State) :
    (matrixError m e write a s).fg F.MTX_ERRSTAT_WRITE = b2n write ∧ (matrixError m e write a s).fg F.MTX_ERRADDR_ADDR = beatAddr a ∧
      (matrixError m e write a s).fg F.MTX_ERRCNT = Nat.min (s.fg F.MTX_ERRCNT + 1) (2 ^ 32 - 1) := by
  have hbeat : beatAddr a < 2 ^ 32 := by
    unfold beatAddr
    split <;> omega
  unfold matrixError
  extract_lets s1 s2
  have hcnt : s2.fgi F.MTX_ERRCNT 0 = Nat.min (s.fg F.MTX_ERRCNT + 1) (2 ^ 32 - 1) := by
    unfold s2
    split
    · rw [State.fgi_fs_of_ne]
      · exact State.fgi_bump_self s rfl
      · decide
    · exact State.fgi_bump_self s rfl
  refine ⟨?_, ?_, ?_⟩
  · rw [State.fg_eq]
    simp (disch := decide) only [State.fgi_raise_of_ne, State.fgi_fs_of_ne, State.fgi_fb_self]
    cases write <;> rfl
  · rw [State.fg_eq]
    simp (disch := decide) only [State.fgi_raise_of_ne, State.fgi_fs_self]
    exact Nat.mod_eq_of_lt hbeat
  · rw [State.fg_eq]
    simp (disch := decide) only [State.fgi_raise_of_ne, State.fgi_fs_of_ne, State.fgi_fb_of_ne]
    exact hcnt

/-! ### The queue of flash operations (R384, R434) -/

section
variable {s : State}

theorem flashIssue_of_nil (hcur : s.boot.cur = none) (hops : s.boot.ops = []) : flashIssue s = s := by
  unfold flashIssue
  rw [hcur, hops]

theorem flashIssue_of_free {o : FlashOp} {r : List FlashOp} (hcur : s.boot.cur = none) (hops : s.boot.ops = o :: r)
    (h : o.kind = 0 ∨ s.inWindow = true) : flashIssue s = s.modBoot fun b => { b with cur := some o, ops := r, opsHeld := false } := by
  unfold flashIssue
  rw [hcur, hops]
  exact if_pos h

theorem writeHeld_boot (s : State) : (writeHeld s).boot = s.boot := by
  unfold writeHeld
  split
  · rfl
  · rw [State.logFault_boot, State.raise_boot]
    rfl

theorem writeHeld_fg (s : State) : (writeHeld s).fg F.TMP_STAT_WRHOLD = 1 := by
  unfold writeHeld
  split
  · rename_i h
    exact State.fgi_eq_one_of_flagi rfl h
  · rw [State.fg_eq]
    simp (disch := decide) only [State.fgi_logFault_of_ne, State.fgi_raise_of_ne, State.fgi_bump_of_ne, State.fgi_fs_self]
    rfl

/-- R384: while the head is held the first READ goes past it. -/
theorem flashIssue_of_held {p q : FlashOp} (hcur : s.boot.cur = none) (hops : s.boot.ops = [p, q]) (hp : p.kind ≠ 0)
    (hwin : s.inWindow = false) : flashIssue s =
      if q.kind = 0 then ((writeHeld s).modBoot fun b => { b with opsHeld := true }).modBoot fun b => { b with cur := some q, ops := [p] }
      else (writeHeld s).modBoot fun b => { b with opsHeld := true } := by
  unfold flashIssue
  rw [hcur, hops]
  dsimp only
  rw [if_neg (by rw [hwin]; exact not_or.mpr ⟨hp, Bool.false_ne_true⟩)]
  have hfirst : takeFirst (fun o => decide (o.kind = 0)) [p, q] = if q.kind = 0 then some (q, [p]) else none := by
    unfold takeFirst takeFirst takeFirst
    rw [decide_eq_false hp, if_neg Bool.false_ne_true]
    by_cases hq : q.kind = 0
    · rw [if_pos hq, if_pos (decide_eq_true hq)]
      rfl
    · rw [if_neg hq, decide_eq_false hq, if_neg Bool.false_ne_true]
      rfl
  rw [hfirst]
  by_cases hq : q.kind = 0
  · rw [if_pos hq, if_pos hq]
  · rw [if_neg hq, if_neg hq]

theorem dropOps_boot (p : FlashOp → Bool) (s : State) : (dropOps p s).boot.ops = s.boot.ops.filter p ∧ (dropOps p s).boot.cur = s.boot.cur := by
  unfold dropOps holdEnd
  split <;> exact ⟨rfl, rfl⟩

/-- The queue of an operation accepted while another is under way. -/
theorem xspSubmit_waits (kind : Nat) (hlen : s.fg F.XSP_OPLEN_VALUE ≠ 0) (haligned : opAligned s (submitted kind s) = true)
    (hjournal : inJournal s (submitted kind s) = false) (hroom : (s.boot.ops.countP fun o => !o.store) < 4)
    (hcur : s.boot.cur.isSome = true) : xspSubmit kind s =
      (kindWritten kind s).modBoot fun b => { b with ops := b.ops ++ [submitted kind s] } := by
  rw [xspSubmit_eq, if_neg hlen, haligned, hjournal, if_neg (by decide), if_neg (by decide), if_neg (by omega)]
  exact flashIssue_of_cur _ hcur

/-- R434: a fifth operation is an error. -/
theorem xspSubmit_full (kind : Nat) (hlen : s.fg F.XSP_OPLEN_VALUE ≠ 0) (haligned : opAligned s (submitted kind s) = true)
    (hjournal : inJournal s (submitted kind s) = false) (hfull : 4 ≤ (s.boot.ops.countP fun o => !o.store)) :
    (xspSubmit kind s).fg F.XSP_OPSTAT_FULL = 1 ∧ (xspSubmit kind s).fg F.XSP_OPSTAT_ERR = 1 ∧ (xspSubmit kind s).boot = s.boot ∧
      (xspSubmit kind s).fg F.XSP_ERRCNT = Nat.min (s.fg F.XSP_ERRCNT + 1) (2 ^ 32 - 1) := by
  rw [xspSubmit_eq, if_neg hlen, haligned, hjournal, if_neg (by decide), if_neg (by decide), if_pos hfull]
  refine ⟨(flashErr_full _ _).trans (State.fg_fs _ F.XSP_OPSTAT_FULL 1), flashErr_err _ _, flashErr_boot _ _, (flashErr_errcnt _ _).trans ?_⟩
  rw [State.fg_fs_ne _ _ (by decide), kindWritten_fg _ _ _ (by decide)]

/-- R434: an operation that is refused leaves the queue. -/
theorem flashErr_shows (kind : Nat) {code : Nat} (hcode : code < 2 ^ F.XSP_OPSTAT_ERRCODE.width) :
    (flashErr code (kindWritten kind s)).fg F.XSP_OPSTAT_ERR = 1 ∧ (flashErr code (kindWritten kind s)).fg F.XSP_OPSTAT_ERRCODE = code ∧
      (flashErr code (kindWritten kind s)).fg F.XSP_ERRCNT = Nat.min (s.fg F.XSP_ERRCNT + 1) (2 ^ 32 - 1) ∧
      (flashErr code (kindWritten kind s)).boot = s.boot := by
  refine ⟨flashErr_err _ _, (flashErr_code _ _).trans (Nat.mod_eq_of_lt hcode), (flashErr_errcnt _ _).trans ?_, flashErr_boot _ _⟩
  rw [kindWritten_fg _ _ _ (by decide)]

/-! ### Completion (R434) -/

/-- What the effect of a flash operation may move. -/
def effectExtent : Extent := ⟨[.seqs, .log, .table, .fab, .exec, .boot, .port], false,
  raiseFlds ++ [F.DBG_FLTSTAT_CLASS, F.MOR_CWLAST_ENGINE, F.MOR_CWLAST_OFFSET, F.MOR_STAT_CWERR, F.MTX_ECCCOR, F.MTX_ECCUNC,
    F.MTX_ERRADDR_ADDR, F.MTX_ERRCNT, F.MTX_ERRSTAT_CAUSE, F.MTX_ERRSTAT_MASTER, F.MTX_ERRSTAT_OVR, F.MTX_ERRSTAT_VALID,
    F.MTX_ERRSTAT_WRITE, F.MTX_RSTCNT, F.SYS_ERRSTAT_ALIGN]⟩

/-- R434: an operation of firmware is done, before the next is issued. -/
def opEnded (o : FlashOp) (s : State) : State := flashOk ((flashEffect o s).modBoot fun b => { b with cur := none })

theorem flashDone_of_cur {o : FlashOp} (hcur : s.boot.cur = some o) (hstore : o.store = false) : flashDone s = flashIssue (opEnded o s) := by
  unfold flashDone
  rw [hcur]
  dsimp only
  rw [hstore, if_neg Bool.false_ne_true]
  rfl

theorem opEnded_boot (o : FlashOp) (s : State) : (opEnded o s).boot = { (flashEffect o s).boot with cur := none } :=
  flashOk_boot _

theorem opEnded_done (o : FlashOp) (s : State) : (opEnded o s).fg F.XSP_OPSTAT_DONE = 1 := flashOk_done _

theorem opEnded_table (o : FlashOp) (s : State) : (opEnded o s).table = (flashEffect o s).table := flashOk_table _

theorem opEnded_opcnt (o : FlashOp) (s : State) : (opEnded o s).fg F.XSP_OPCNT = Nat.min (s.fg F.XSP_OPCNT + 1) (2 ^ 32 - 1) := by
  refine (flashOk_opcnt _).trans ?_
  rw [State.fg_eq, State.modBoot_fgi, State.fgi_of_seen effectExtent s _ F.XSP_OPCNT 0 (flashEffect_seen _ o s rfl) rfl]
  rfl

theorem opEnded_fgi {o : FlashOp} {f : Fld} (i : Nat) (hf : effectExtent.r f = false) (hdone : f.id ≠ F.XSP_OPSTAT_DONE.id)
    (hcnt : f.id ≠ F.XSP_OPCNT.id) : (opEnded o s).fgi f i = s.fgi f i := by
  have hraise : (Extent.mk [.seqs] false raiseFlds).r f = false := by
    have h := List.any_eq_false.mp hf
    exact List.any_eq_false.mpr fun g hg => h g (List.mem_append_left _ hg)
  unfold opEnded flashOk
  rw [State.fgi_sticky_of_ne _ _ _ _ hdone hraise, State.fgi_bump_of_ne _ _ hcnt, State.modBoot_fgi]
  exact State.fgi_of_seen effectExtent s _ f i (flashEffect_seen _ o s rfl) hf

/-- An erase moves the flash alone. -/
theorem flashEffect_of_erase {o : FlashOp} (hkind : o.kind = 2) : flashEffect o s =
    s.modBoot fun b => { b with flash := b.flash.filter fun e => decide (e.1 < o.addr) || decide (o.addr + o.len ≤ e.1) } := by
  unfold flashEffect
  rw [hkind]
  rfl

theorem flashEffect_of_read {o : FlashOp} (hkind : o.kind = 0) : flashEffect o s = xspStore o.mem (s.flashBytes o.addr o.len) s := by
  unfold flashEffect
  rw [hkind]
  rfl

/-- R434: a READ puts flash bytes into table memory. -/
theorem flashEffect_read {o : FlashOp} (hkind : o.kind = 0) (hend : o.mem + o.len ≤ 0x1000000) (hbad : s.fab.badWords = []) :
    (flashEffect o s).table = tsetBytes s.table 0 o.mem (s.flashBytes o.addr o.len) ∧ (flashEffect o s).boot = s.boot := by
  have hlen : (s.flashBytes o.addr o.len).length = o.len := tgetBytes_length _ _ _ _
  obtain ⟨htable, hseen⟩ := xspStore_shows (s := s) (a := o.mem) (s.flashBytes o.addr o.len) (by rw [hlen]; exact hend) hbad
  rw [flashEffect_of_read hkind]
  exact ⟨htable, boot_of_seen _ _ _ hseen rfl rfl⟩

/-- R434: a PROGRAM clears bits with bytes of table memory. -/
theorem flashEffect_program {o : FlashOp} (hkind : o.kind = 1) (hstore : o.store = false) (hend : o.mem + o.len ≤ 0x1000000)
    (hbad : s.fab.badWords = []) : (flashEffect o s).table = s.table ∧
      (flashEffect o s).boot = { s.boot with flash := flashProgram o.addr (tblBytes s o.mem o.len) s.boot.flash } := by
  obtain ⟨t, hload, hread⟩ := xspLoad_shows (s := s) hend hbad
  have hdata : opData o s = (tblBytes s o.mem o.len, t) := by
    unfold opData
    rw [hstore, if_neg Bool.false_ne_true]
    exact hload
  have heffect : flashEffect o s = t.modBoot fun b => { b with flash := flashProgram o.addr (tblBytes s o.mem o.len) b.flash } := by
    unfold flashEffect
    rw [hkind]
    dsimp only
    rw [hdata]
    rfl
  have hboot : t.boot = s.boot := boot_of_seen _ _ _ hread.seen rfl rfl
  rw [heffect]
  refine ⟨hread.same.table, ?_⟩
  rw [State.modBoot_boot, hboot]

theorem flashEffect_erase_boot {o : FlashOp} (h : 2 ≤ o.kind) : (flashEffect o s).boot.ops = s.boot.ops := by
  unfold flashEffect
  split
  · omega
  · omega
  · rfl

/-- R468: a write of M7 to where no target lies. -/
theorem flashEffect_no_target {o : FlashOp} (hkind : o.kind = 0) (hlen : o.len = 32) (halign : o.mem % 32 = 0) (hlow : 0x1000000 ≤ o.mem)
    (hhigh : o.mem < 0x10000000) : flashEffect o s = matrixError 7 1 true o.mem s := by
  have hbytes : (s.flashBytes o.addr o.len).length = 32 := (tgetBytes_length _ _ _ _).trans hlen
  have htarget : target o.mem = .none := by
    unfold target
    rw [if_neg (by omega), if_neg (by omega), if_neg (by omega), if_neg (by omega), if_neg (by omega)]
  have hput : ∀ cycle bytes, xspPut o.mem cycle bytes s = (false, matrixError 7 1 true o.mem s) := by
    intro cycle bytes
    have herr : ∀ part, accErr 7 o.mem true part s = 1 := fun part => by
      unfold accErr accCause
      rw [htarget]
      rfl
    unfold xspPut
    rw [htarget]
    dsimp only
    rw [herr]
    rfl
  have hpages : pagesOf 2 o.mem 32 = [[(o.mem, 32)]] := by
    have hpage : Nat.min 32 (256 - o.mem % 256) = 32 := Nat.min_eq_left (by omega)
    have hbeat : Nat.min 32 (32 - o.mem % 32) = 32 := Nat.min_eq_left (by omega)
    unfold pagesOf
    rw [if_neg (by decide)]
    dsimp only
    rw [hpage, splitBeats, if_neg (by decide)]
    dsimp only
    rw [hbeat]
    rfl
  rw [flashEffect_of_read hkind]
  unfold xspStore
  rw [hbytes, show 32 / 256 + 2 = 2 from rfl, hpages, List.foldl_cons, List.foldl_nil]
  have hfill : fillBeats [(o.mem, 32)] (s.flashBytes o.addr o.len) = [(o.mem, (s.flashBytes o.addr o.len).take 32)] := rfl
  dsimp only
  rw [hfill, burstWrite]
  dsimp only
  rw [hput, if_neg Bool.false_ne_true, if_pos (Or.inl rfl)]

end

/-- Settles O49: what a submission, a completion and a timeout do to the queue is said once each; a READ and a PROGRAM move their
bytes beat by beat. -/
theorem flashOperations : Obligations.FlashOperations := by
  refine ⟨fun s hlen haligned hops hcur => ⟨_, rfl, ?_⟩, fun s hlen => ⟨_, rfl, ?_⟩,
    fun s hlen haligned hjournal hroom hcur => ⟨_, rfl, ?_⟩, fun s hlen haligned => ⟨_, rfl, ?_⟩,
    fun s hlen haligned hjournal hroom hcur => ⟨_, rfl, ?_⟩, fun s hlen haligned hjournal => ⟨_, rfl, ?_⟩,
    fun s hlen haligned hjournal hfull => ⟨_, rfl, xspSubmit_full 0 hlen haligned hjournal hfull⟩,
    fun s hlen haligned hjournal hfull => ⟨_, rfl, xspSubmit_full 1 hlen haligned hjournal hfull⟩,
    fun s hlen haligned hjournal hfull => ⟨_, rfl, xspSubmit_full 2 hlen haligned hjournal hfull⟩, fun s => ⟨_, rfl, ?_⟩,
    fun o s hcur hops hstore hmem hbad => ⟨_, rfl, ?_⟩, fun o s hcur hops hstore hkind hlen halign hlow hhigh => ⟨_, rfl, ?_⟩,
    fun o p r s hcur hops hstore hkind hfree => ⟨_, rfl, ?_⟩, fun o p q s hcur hops hstore hkind hp hwin => ⟨_, rfl, ?_⟩,
    fun o s hcur hops hstore hkind => ⟨_, rfl, ?_⟩⟩
  · have hnow : xspSubmit 0 s = ((kindWritten 0 s).modBoot fun b => { b with ops := b.ops ++ [submitted 0 s] }).modBoot fun b =>
        { b with cur := some (submitted 0 s), ops := [], opsHeld := false } := by
      have hroom : ¬4 ≤ s.boot.ops.countP fun o => !o.store := by
        rw [hops]
        decide
      have haligned' : opAligned s (submitted 0 s) = true := haligned
      rw [xspSubmit_eq, if_neg hlen, haligned', show inJournal s (submitted 0 s) = false from rfl, if_neg (by decide), if_neg (by decide),
        if_neg hroom]
      exact flashIssue_of_free hcur (congrArg (· ++ [submitted 0 s]) hops) (.inl rfl)
    rw [hnow]
    exact ⟨rfl, rfl, kindWritten_fg s 0 F.XSP_ERRCNT (by decide)⟩
  · have hnow : xspSubmit 0 s = flashOk (kindWritten 0 s) := by
      rw [xspSubmit_eq, if_pos hlen]
    rw [hnow]
    refine ⟨flashOk_done _, (flashOk_opcnt _).trans ?_, flashOk_boot _⟩
    rw [kindWritten_fg _ _ _ (by decide)]
  · rw [xspSubmit_waits 1 hlen haligned hjournal hroom hcur]
    exact ⟨rfl, rfl⟩
  · have hnow : xspSubmit 1 s = flashErr 1 (kindWritten 1 s) := by
      rw [xspSubmit_eq, if_neg hlen]
      exact if_pos haligned
    rw [hnow]
    exact flashErr_shows 1 (by decide)
  · rw [xspSubmit_waits 2 hlen haligned hjournal hroom hcur]
    exact ⟨rfl, rfl⟩
  · have hnow : xspSubmit 2 s = flashErr 2 (kindWritten 2 s) := by
      have haligned' : opAligned s (submitted 2 s) = true := haligned
      rw [xspSubmit_eq, if_neg hlen, haligned', if_neg (by decide)]
      exact if_pos hjournal
    rw [hnow]
    exact flashErr_shows 2 (by decide)
  · exact ⟨(dropOps_boot _ s).1, (dropOps_boot _ s).2, State.fg_fs _ F.XSP_OPSTAT_CANCELLED 1⟩
  · have hops' : (flashEffect o s).boot.ops = [] := by
      rcases Nat.lt_or_ge o.kind 2 with hlt | hge
      · obtain ⟨-, hend⟩ := hmem hlt
        rcases (by omega : o.kind = 0 ∨ o.kind = 1) with hk | hk
        · rw [(flashEffect_read hk hend hbad).2]
          exact hops
        · rw [(flashEffect_program hk hstore hend hbad).2]
          exact hops
      · rw [flashEffect_erase_boot hge]
        exact hops
    have hended := opEnded_boot o s
    have hnow : flashDone s = opEnded o s := by
      rw [flashDone_of_cur hcur hstore]
      exact flashIssue_of_nil (by rw [hended]) (by rw [hended]; exact hops')
    rw [hnow, hended, opEnded_table]
    refine ⟨rfl, opEnded_done o s, opEnded_opcnt o s, fun hk => ?_, fun hk => ?_, fun hk => ?_⟩
    · obtain ⟨htable, hboot⟩ := flashEffect_read hk (hmem (by omega)).2 hbad
      exact ⟨htable, by rw [hboot]⟩
    · obtain ⟨htable, hboot⟩ := flashEffect_program hk hstore (hmem (by omega)).2 hbad
      exact ⟨by rw [hboot], htable⟩
    · rw [flashEffect_of_erase hk]
      exact ⟨rfl, rfl⟩
  · have heffect := flashEffect_no_target (s := s) hkind hlen halign hlow hhigh
    have hboot : (matrixError 7 1 true o.mem s).boot = s.boot :=
      boot_of_seen ⟨[.seqs], true, []⟩ _ _ (matrixError_seen _ 7 1 true o.mem s rfl) rfl rfl
    have hended := opEnded_boot o s
    rw [heffect, hboot] at hended
    have hnow : flashDone s = opEnded o s := by
      rw [flashDone_of_cur hcur hstore]
      exact flashIssue_of_nil (by rw [hended]) (by rw [hended]; exact hops)
    obtain ⟨hvalid, hmaster, hcause, -⟩ := matrixError_shows (m := 7) (e := 1) (by decide) (by decide) true o.mem s
    obtain ⟨hwrite, haddr, -⟩ := matrixError_access (a := o.mem) 7 1 true (by omega) s
    have hkept : ∀ f : Fld, f.id ≠ F.XSP_OPSTAT_DONE.id → (Extent.mk [.seqs] false raiseFlds).r f = false → f.id ≠ F.XSP_OPCNT.id →
        (opEnded o s).fg f = (matrixError 7 1 true o.mem s).fg f := by
      intro f hdone hraise hcnt
      unfold opEnded flashOk
      rw [State.fg_eq, State.fgi_sticky_of_ne _ _ _ _ hdone hraise, State.fgi_bump_of_ne _ _ hcnt, State.modBoot_fgi, heffect]
      rfl
    rw [hnow]
    refine ⟨by rw [hended], opEnded_done o s, ?_, by rw [hended], ?_, ?_, ?_, ?_, ?_⟩
    · rw [opEnded_table, heffect]
      exact table_of_seen ⟨[.seqs], true, []⟩ _ _ (matrixError_seen _ 7 1 true o.mem s rfl) rfl
    · exact (hkept _ (by decide) rfl (by decide)).trans hvalid
    · exact (hkept _ (by decide) rfl (by decide)).trans hcause
    · exact (hkept _ (by decide) rfl (by decide)).trans hmaster
    · exact (hkept _ (by decide) rfl (by decide)).trans hwrite
    · exact (hkept _ (by decide) rfl (by decide)).trans haddr
  · have hended := opEnded_boot o s
    rw [flashEffect_of_erase hkind] at hended
    have hmax := opEnded_fgi (s := s) (o := o) (f := F.TMP_MAX_TEMP) 0 rfl (by decide) (by decide)
    rw [flashDone_of_cur hcur hstore, flashIssue_of_free (o := p) (r := r) (by rw [hended]) (by rw [hended]; exact hops)
      (hfree.imp_right fun h => (State.inWindow_congr hmax).trans h)]
    refine ⟨rfl, rfl, opEnded_done o s, ?_⟩
    rw [State.modBoot_boot, hended]
    rfl
  · have hended := opEnded_boot o s
    rw [flashEffect_of_erase hkind] at hended
    have hmax := opEnded_fgi (s := s) (o := o) (f := F.TMP_MAX_TEMP) 0 rfl (by decide) (by decide)
    rw [flashDone_of_cur hcur hstore, flashIssue_of_held (p := p) (q := q) (by rw [hended]) (by rw [hended]; exact hops) hp
      ((State.inWindow_congr hmax).trans hwin)]
    split
    · exact ⟨writeHeld_fg _, rfl, rfl, rfl⟩
    · refine ⟨writeHeld_fg _, rfl, ?_, ?_⟩
      · rw [State.modBoot_boot, writeHeld_boot, hended]
      · rw [State.modBoot_boot, writeHeld_boot, hended]
        exact hops
  · have hnow : flashTimeout s = flashErr 3 (s.modBoot fun b => { b with cur := none }) := by
      unfold flashTimeout
      rw [hcur]
      dsimp only
      rw [if_neg hkind, hstore, if_neg Bool.false_ne_true]
      exact flashIssue_of_nil (by rw [flashErr_boot]; rfl) (by rw [flashErr_boot]; exact hops)
    rw [hnow, flashErr_boot]
    exact ⟨rfl, rfl, flashErr_err _ _, flashErr_code _ 3, flashErr_errcnt _ 3⟩

end Sys2Proof.Machine
end

section
/-! PROOF. OTP programming (16, R433) and writes of register words through the matrix (18, R461 to R470) (O50). -/
namespace Sys2Proof.Machine

/-! ### OTP programming (R384, R433) -/

section
variable {s : State}

theorem otpRefusal_le (s : State) (w d : Nat) : otpRefusal s w d ≤ 4 := by
  unfold otpRefusal
  dsimp only
  split_ifs <;> omega

theorem otpProg_of_refused (h : otpRefusal s (s.fg F.OTP_PADDR_WORD) (s.fg F.OTP_PDATA_DATA) ≠ 0) : otpProg s =
    (s.fs F.OTP_STAT_REASON (otpRefusal s (s.fg F.OTP_PADDR_WORD) (s.fg F.OTP_PDATA_DATA))).sticky F.OTP_STAT_PREF 0 31 := if_pos h

theorem otpProg_of_accepted (h : otpRefusal s (s.fg F.OTP_PADDR_WORD) (s.fg F.OTP_PDATA_DATA) = 0) : otpProg s =
    otpIssue (s.modBoot fun b => { b with otpOp := some ⟨s.fg F.OTP_PADDR_WORD, s.fg F.OTP_PDATA_DATA⟩ }) := if_neg (not_not.mpr h)

/-- R384: an OTP operation goes on inside the window and waits outside it. -/
theorem otpIssue_boot (hop : s.boot.otpOp.isSome = true) : (otpIssue s).boot = { s.boot with otpHeld := !s.inWindow } := by
  unfold otpIssue
  rw [if_pos hop]
  cases hwin : s.inWindow with
  | true => rfl
  | false =>
    rw [if_neg Bool.false_ne_true, State.modBoot_boot, writeHeld_boot]
    rfl

/-- R433: a request to program. -/
theorem otpProg_shows (s : State) :
    if otpRefusal s (s.fg F.OTP_PADDR_WORD) (s.fg F.OTP_PDATA_DATA) = 0 then
      (otpProg s).boot.otpOp = some ⟨s.fg F.OTP_PADDR_WORD, s.fg F.OTP_PDATA_DATA⟩ ∧ (otpProg s).boot.otpHeld = !s.inWindow ∧
        (otpProg s).boot.otp = s.boot.otp
    else (otpProg s).boot = s.boot ∧
      (otpProg s).fg F.OTP_STAT_REASON = otpRefusal s (s.fg F.OTP_PADDR_WORD) (s.fg F.OTP_PDATA_DATA) ∧ (otpProg s).fg F.OTP_STAT_PREF = 1 := by
  split
  · rename_i h
    rw [otpProg_of_accepted h, otpIssue_boot rfl]
    exact ⟨rfl, rfl, rfl⟩
  · rename_i h
    have hle := otpRefusal_le s (s.fg F.OTP_PADDR_WORD) (s.fg F.OTP_PDATA_DATA)
    have hwidth : 4 < 2 ^ F.OTP_STAT_REASON.width := by decide
    rw [otpProg_of_refused h, State.sticky_boot]
    refine ⟨rfl, ?_, State.sticky_fgi _ _ rfl rfl⟩
    exact (State.sticky_fgi_ne _ _ _ (by decide) rfl).trans ((State.fgi_fs_self _ _ _).trans (Nat.mod_eq_of_lt (by omega)))

theorem holdEnd_boot (s : State) : (holdEnd s).boot = s.boot := by
  unfold holdEnd
  split <;> rfl

theorem otpCancel_of_held (hop : s.boot.otpOp.isSome = true) (hheld : s.boot.otpHeld = true) :
    (otpCancel s).boot = { s.boot with otpOp := none, otpHeld := false } := by
  unfold otpCancel
  rw [hop, hheld, Bool.and_true, if_pos rfl]
  exact holdEnd_boot _

/-- R433: the word of the array that a programming has left. -/
theorem leNat_orWord (t : Tbl Byte) (w d : Nat) : leNat (tgetBytes (orWord t w d) 0 (4 * w) 4) =
    (leNat (tgetBytes t 0 (4 * w) 4) ||| d) % 2 ^ 32 := by
  have hget := tgetBytes_tsetBytes t 0 (4 * w) (leBytes 4 (leNat (tgetBytes t 0 (4 * w) 4) ||| d))
  rw [leBytes_length] at hget
  unfold orWord
  rw [hget, leNat_leBytes]
  rfl

theorem otpDone_of_verified {o : OtpOp} (hop : s.boot.otpOp = some o) (hheld : s.boot.otpHeld = false) : otpDone true s =
    (({ s with fresh := s.fresh + 1 } : State).modBoot fun b =>
      { b with otpOp := none, otp := orWord b.otp o.word o.bits, shadow := orWord b.shadow o.word (o.bits &&& shadowMask o.word) }).sticky
        F.OTP_STAT_PDONE 0 31 := by
  unfold otpDone
  rw [hop]
  dsimp only
  rw [hheld, if_neg Bool.false_ne_true]
  rfl

theorem otpDone_shows {o : OtpOp} (hop : s.boot.otpOp = some o) (hheld : s.boot.otpHeld = false) : (otpDone true s).boot.otpOp = none ∧
    (otpDone true s).otpWord o.word = (s.otpWord o.word ||| o.bits) % 2 ^ 32 ∧ (otpDone true s).fg F.OTP_STAT_PDONE = 1 := by
  rw [otpDone_of_verified hop hheld]
  unfold State.otpWord
  rw [State.sticky_boot]
  exact ⟨rfl, leNat_orWord s.boot.otp o.word o.bits, State.sticky_fgi _ _ rfl rfl⟩

end

/-! ### Where registers lie (R470) -/

/-- The bytes from the first address of a register, or a row of registers, to its last. -/
def dimSpan : List (Nat × Nat) → Nat
  | [] => 1
  | (stride, count) :: t => if stride = 0 then dimSpan t else stride * count

theorem lt_dimSpan {dims : List (Nat × Nat)} : ∀ {off acc i : Nat}, dimIndex dims off acc = some i → off < dimSpan dims := by
  induction dims with
  | nil =>
    intro off acc i h
    unfold dimIndex at h
    split at h
    · rename_i hoff
      rw [hoff]
      decide
    · exact absurd h (Option.some_ne_none i).symm
  | cons x dims ih =>
    obtain ⟨stride, count⟩ := x
    intro off acc i h
    unfold dimIndex at h
    split at h
    · rename_i hlt
      unfold dimSpan
      split
      · rename_i hz
        rw [hz, Nat.mod_zero] at h
        exact ih h
      · rename_i hz
        rw [Nat.mul_comm]
        exact (Nat.div_lt_iff_lt_mul (Nat.pos_of_ne_zero hz)).mp hlt
    · exact absurd h (Option.some_ne_none i).symm

theorem regFind_base {l : List RegDesc} {a i : Nat} {d : RegDesc} (h : regFind a l = some (d, i)) :
    d ∈ l ∧ d.base ≤ a ∧ a < d.base + dimSpan d.dims := by
  induction l with
  | nil => exact absurd h (Option.some_ne_none _).symm
  | cons e l ih =>
    have hrest : regFind a l = some (d, i) → d ∈ e :: l ∧ d.base ≤ a ∧ a < d.base + dimSpan d.dims := fun h =>
      (ih h).imp_left (List.mem_cons_of_mem e)
    unfold regFind at h
    split at h
    · exact hrest h
    · rename_i hle
      split at h
      · rename_i j hj
        have heq : e = d := congrArg Prod.fst (Option.some.inj h)
        subst heq
        have hspan := lt_dimSpan hj
        exact ⟨List.mem_cons_self, by omega, by omega⟩
      · exact hrest h

/-- R470: no register lies between the blocks and those of the quays. -/
theorem regDescs_placed : (regDescs.all fun d => (decide (0x40000000 ≤ d.base) && decide (d.base + dimSpan d.dims ≤ 0x40190000)) ||
    decide (0x40200000 ≤ d.base)) = true := by decide +kernel

theorem target_of_reg {a : Nat} {p : RegDesc × Nat} (h : regFind a regDescs = some p) (ha : a < 0x40400000) : target a = .reg a := by
  obtain ⟨hmem, hlow, hhigh⟩ := regFind_base (d := p.1) (i := p.2) h
  have hplaced := List.all_eq_true.mp regDescs_placed p.1 hmem
  simp only [Bool.or_eq_true, Bool.and_eq_true, decide_eq_true_eq] at hplaced
  unfold target
  rw [if_neg (by omega), if_neg (by omega), if_neg (by omega)]
  rcases hplaced with ⟨hfrom, hto⟩ | hfrom
  · rw [if_pos ⟨by omega, by omega⟩]
  · rw [if_neg (by omega), if_pos ⟨by omega, ha⟩]

theorem target_of_gap {a : Nat} (hlow : 0x40190000 ≤ a) (hhigh : a < 0x40200000) : target a = .none := by
  unfold target
  rw [if_neg (by omega), if_neg (by omega), if_neg (by omega), if_neg (by omega), if_neg (by omega)]

/-! ### Writes of register words -/

section
variable {s : State} {m a v : Nat}

theorem State.ne_off_of_up (h : s.up = true) : s.dev ≠ .off := fun hc => by
  unfold State.up at h
  rw [hc] at h
  exact Bool.false_ne_true h

theorem State.ne_safe_of_up (h : s.up = true) : s.dev ≠ .safe := fun hc => by
  unfold State.up at h
  rw [hc] at h
  exact Bool.false_ne_true h

/-- R468: a register word has no ECC, and outside SAFE no protection. -/
theorem accErr_of_reg (ht : target a = .reg a) (hlow : 0x1000000 ≤ a) (hsafe : s.dev ≠ .safe) (write part : Bool) :
    accErr m a write part s = 0 := by
  have hgood : s.beatBad a = false := by
    unfold State.beatBad inBeat
    rw [if_neg (by omega)]
    rfl
  unfold accErr accCause
  rw [ht, hgood, Bool.and_false]
  dsimp only
  rw [if_neg (fun hc => hsafe hc.1)]
  rfl

theorem accWrite_of_reg (ht : target a = .reg a) (hlow : 0x1000000 ≤ a) (hsafe : s.dev ≠ .safe) (cycle : Nat) (bytes : List Byte) :
    accWrite m a cycle bytes s = (true, regWrite m a (leNat bytes) s) := by
  have hstall : noteStall a cycle s = s := by
    unfold noteStall
    rw [ht]
  unfold accWrite accPut
  rw [accErr_of_reg ht hlow hsafe, ht, hstall]
  rfl

theorem accWrite_of_none (ht : target a = .none) (cycle : Nat) (bytes : List Byte) :
    accWrite m a cycle bytes s = (false, matrixError m 1 true a s) := by
  have herr : ∀ part, accErr m a true part s = 1 := fun part => by
    unfold accErr accCause
    rw [ht]
    rfl
  unfold accWrite
  rw [herr]
  rfl

/-- R4, R543: a register without an operation of its own takes each field by its code. -/
theorem regWrite_of_plain {p : RegDesc × Nat} (h : regFind a regDescs = some p) (hspecial : (specialWrite p.1 p.2 v s).isNone = true)
    (hexcl : (exclBits p.1).isEmpty = true) (hacts : (acts p.1 p.2 m).isEmpty = true) :
    regWrite m a v s = p.1.flds.foldl (plainWrite (s.inst p.1 p.2) v) s := by
  unfold regWrite startActs
  rw [h]
  dsimp only
  rw [Option.isNone_iff_eq_none.mp hspecial, List.isEmpty_iff.mp hexcl, List.isEmpty_iff.mp hacts]
  rfl

theorem plainWrite_port (inst v : Nat) (s : State) (f : Fld) : (plainWrite inst v s f).port = s.port :=
  port_of_seen ⟨[.seqs], true, []⟩ _ _ (plainWrite_seen _ inst v s f rfl rfl) rfl

theorem foldl_plainWrite_port (inst v : Nat) (fs : List Fld) (s : State) : (fs.foldl (plainWrite inst v) s).port = s.port := by
  induction fs generalizing s with
  | nil => rfl
  | cons f fs ih => exact (ih _).trans (plainWrite_port inst v s f)

/-- R463: an access of no target waits for no grant. -/
theorem wordWrite_of_no_target (hdev : s.dev ≠ .off) (h : s.port.flights = []) (hposted : m < 4 → (s.sq m).posted = [])
    (halign : a % 4 = 0) (ht : target a = .none) (cycle v : Nat) :
    wordWrite m a cycle v s = matrixError m 1 true a s := by
  have hno : targetNo a = none := by
    unfold targetNo
    rw [ht]
  unfold wordWrite
  rw [if_neg hdev, drainMaster_of_nil hposted]
  dsimp only
  rw [if_neg hdev, if_neg (not_not.mpr halign)]
  unfold busWrite busTake
  rw [settleResets_of_nil h, flightFinish_of_none 9 cycle (State.flight_of_nil h m), hno]
  dsimp only
  rw [if_neg hdev, accWrite_of_none ht]
  exact settleResets_of_nil ((congrArg PortSt.flights (matrixError_port _ _ _ _ _)).trans h)

theorem wordWrite_of_misaligned (hdev : s.dev ≠ .off) (hposted : m < 4 → (s.sq m).posted = []) (halign : a % 4 ≠ 0) (cycle v : Nat) :
    wordWrite m a cycle v s = regAlign m a true s := by
  unfold wordWrite
  rw [if_neg hdev, drainMaster_of_nil hposted]
  dsimp only
  rw [if_neg hdev, if_pos halign]

end

/-- What an error response records. -/
def matrixErrorExtent : Extent := ⟨[.seqs], false, raiseFlds ++ [F.MTX_ERRADDR_ADDR, F.MTX_ERRCNT, F.MTX_ERRSTAT_CAUSE, F.MTX_ERRSTAT_MASTER,
  F.MTX_ERRSTAT_OVR, F.MTX_ERRSTAT_VALID, F.MTX_ERRSTAT_WRITE]⟩

/-- Settles O50: the OTP's clauses follow from what its operations do to the boot state; a register word goes to the bridge, and each
of its fields takes the write by its code. -/
theorem otpProgrammingAndRegisters : Obligations.OtpProgrammingAndRegisters := by
  refine ⟨fun s => ⟨_, rfl, otpProg_shows s⟩, fun s hop hheld => ⟨_, rfl, otpCancel_of_held hop hheld⟩,
    fun o s hop hheld => ⟨_, rfl, otpDone_shows hop hheld⟩, fun s hdev => ?_, fun v s => ?_,
    fun m a v s u hu hup halign hflights hposted hplain => ?_, fun m a v s hup halign hposted => ⟨_, rfl, ?_⟩,
    fun m a v s hup halign hflights hposted hlow hhigh => ⟨_, rfl, ?_⟩⟩
  · exact congrArg _ (if_pos hdev)
  · change Host.Outcome.next (sysLock v.toNat s) = _
    unfold sysLock
    cases hb : v.toNat.testBit 0 with
    | true => rw [if_pos rfl, Bool.or_true]
    | false => rw [if_neg Bool.false_ne_true, Bool.or_false]
  · have ha := a.isLt
    have hu : u = grantedAt 10 m.val s := hu.trans (grantAt_zero 10 m.val s)
    cases hfind : regFind (0x40000000 + a.toNat) regDescs with
    | none =>
      rw [hfind] at hplain
      exact absurd hplain Bool.false_ne_true
    | some p =>
      have htarget := target_of_reg hfind (by omega)
      have hno : targetNo (0x40000000 + a.toNat) = some 10 := by
        unfold targetNo
        rw [htarget]
      have hdev : u.dev ≠ .safe := by
        rw [hu]
        exact State.ne_safe_of_up hup
      rw [hfind, Option.any_some] at hplain
      simp only [Bool.and_eq_true] at hplain
      obtain ⟨⟨hspecial, hexcl⟩, hacts⟩ := hplain
      have hv : leNat (leBytes 4 v.toNat) = v.toNat := (leNat_leBytes 4 v.toNat).trans (Nat.mod_eq_of_lt v.isLt)
      have hword : wordWrite m.val (0x40000000 + a.toNat) 0 v.toNat s = p.1.flds.foldl (plainWrite (u.inst p.1 p.2) v.toNat) u := by
        rw [wordWrite_of_nil (State.ne_off_of_up hup) hflights hposted (by omega) hno, ← hu, accWrite_of_reg htarget (by omega) hdev, hv,
          regWrite_of_plain hfind hspecial hexcl hacts]
        refine settleResets_of_nil ?_
        rw [foldl_plainWrite_port, hu]
        exact hflights
      exact congrArg _ hword
  · have ha := a.isLt
    have hword : wordWrite m.val (0x40000000 + a.toNat) 0 v.toNat s =
        matrixError m.val 2 true (0x40000000 + a.toNat) (s.sticky F.SYS_ERRSTAT_ALIGN 0 139) :=
      wordWrite_of_misaligned (State.ne_off_of_up hup) hposted (by omega) 0 v.toNat
    change (wordWrite m.val (0x40000000 + a.toNat) 0 v.toNat s).fg _ = _ ∧ (wordWrite m.val (0x40000000 + a.toNat) 0 v.toNat s).fg _ = _ ∧
      (wordWrite m.val (0x40000000 + a.toNat) 0 v.toNat s).fg _ = _ ∧ (wordWrite m.val (0x40000000 + a.toNat) 0 v.toNat s).fg _ = _ ∧
      (wordWrite m.val (0x40000000 + a.toNat) 0 v.toNat s).fg _ = _ ∧ (wordWrite m.val (0x40000000 + a.toNat) 0 v.toNat s).fg _ = _ ∧
      (wordWrite m.val (0x40000000 + a.toNat) 0 v.toNat s).pend _ = _
    rw [hword]
    obtain ⟨hvalid, hmaster, hcause, hpend⟩ := matrixError_shows (m := m.val) (e := 2) (by omega) (by decide) true (0x40000000 + a.toNat)
      (s.sticky F.SYS_ERRSTAT_ALIGN 0 139)
    obtain ⟨hwrite, -, hcnt⟩ := matrixError_access (a := 0x40000000 + a.toNat) m.val 2 true (by omega) (s.sticky F.SYS_ERRSTAT_ALIGN 0 139)
    refine ⟨?_, hvalid, hcause, hmaster, hwrite, hcnt.trans ?_, hpend⟩
    · refine (State.fgi_of_seen matrixErrorExtent (s.sticky F.SYS_ERRSTAT_ALIGN 0 139) _ F.SYS_ERRSTAT_ALIGN 0
        (matrixError_seen _ _ _ _ _ _ rfl) rfl).trans (State.sticky_fgi _ _ rfl rfl)
    · rw [State.fg_eq, State.sticky_fgi_ne]
      · rfl
      · decide
      · rfl
  · have ha := a.isLt
    have hword := wordWrite_of_no_target (m := m.val) (State.ne_off_of_up hup) hflights hposted (a := 0x40000000 + a.toNat) (by omega)
      (target_of_gap (by omega) (by omega)) 0 v.toNat
    change (wordWrite m.val (0x40000000 + a.toNat) 0 v.toNat s).fg _ = _ ∧ (wordWrite m.val (0x40000000 + a.toNat) 0 v.toNat s).fg _ = _ ∧
      (wordWrite m.val (0x40000000 + a.toNat) 0 v.toNat s).fg _ = _ ∧ (wordWrite m.val (0x40000000 + a.toNat) 0 v.toNat s).fg _ = _ ∧
      (wordWrite m.val (0x40000000 + a.toNat) 0 v.toNat s).fg _ = _
    rw [hword]
    obtain ⟨hvalid, hmaster, hcause, -⟩ := matrixError_shows (m := m.val) (e := 1) (by omega) (by decide) true (0x40000000 + a.toNat) s
    obtain ⟨-, haddr, hcnt⟩ := matrixError_access (a := 0x40000000 + a.toNat) m.val 1 true (by omega) s
    refine ⟨hvalid, hcause, hmaster, haddr.trans ?_, hcnt⟩
    unfold beatAddr
    exact if_pos ⟨by omega, by omega⟩

end Sys2Proof.Machine
end

section
/-! PROOF. Bursts of one master through the matrix to table memory (18, R461 to R472) (O56). -/
namespace Sys2Proof.Machine

/-! ### Who is granted (R463, R464) -/

section
variable {s : State} {t m : Nat}

theorem roundRobin_single (ptr : Nat) (hm : m < 11) : roundRobin ptr [m] = some m := by
  have hsome : (roundRobin ptr [m]).isSome = true := by
    unfold roundRobin
    rw [List.find?_isSome]
    refine ⟨(ptr + (m + 11 - ptr % 11) % 11) % 11, List.mem_map.mpr ⟨_, List.mem_range.mpr (Nat.mod_lt _ (by decide)), rfl⟩, ?_⟩
    have hat : (ptr + (m + 11 - ptr % 11) % 11) % 11 = m := by omega
    rw [hat]
    simp
  obtain ⟨x, hx⟩ := Option.isSome_iff_exists.mp hsome
  have hmem := List.find?_some hx
  rw [hx, List.mem_singleton.mp (of_decide_eq_true hmem)]

theorem mem_of_roundRobin {ptr x : Nat} {ms : List Nat} (h : roundRobin ptr ms = some x) : x ∈ ms :=
  of_decide_eq_true (List.find?_some (p := fun m => decide (m ∈ ms)) h)

theorem winner_mem {l : List (Nat × Nat)} {x : Nat} (h : winner t l s = some x) : x ∈ l.map (·.1) := by
  unfold winner at h
  dsimp only at h
  split at h
  · obtain ⟨y, hy, rfl⟩ := List.mem_map.mp (mem_of_roundRobin h)
    exact List.mem_map.mpr ⟨y, (List.mem_filter.mp hy).1, rfl⟩
  · obtain ⟨y, hy, rfl⟩ := List.mem_map.mp (mem_of_roundRobin h)
    exact List.mem_map.mpr ⟨y, (List.mem_filter.mp hy).1, rfl⟩

theorem State.priority_le (s : State) (t m : Nat) : s.priority t m ≤ 15 := by
  have h1 := State.fgi_lt s F.MTX_PRIm_TBL m
  have h2 := State.fgi_lt s F.MTX_PRIm_ENG m
  have h3 := State.fgi_lt s F.MTX_PRIm_SEQ m
  have h4 := State.fgi_lt s F.MTX_PRIm_BRG m
  have hw : (16 : Nat) = 2 ^ 4 := rfl
  unfold State.priority
  split_ifs
  · exact Nat.le_of_lt_succ h1
  · exact Nat.le_of_lt_succ h2
  · exact Nat.le_of_lt_succ h3
  · exact Nat.le_of_lt_succ h4

/-- R463: the one master that waits is granted. -/
theorem winner_single (hm : m < 11) (w : Nat) : winner t [(m, w)] s = some m := by
  have hbest : Nat.min 15 (s.priority t m) = s.priority t m := Nat.min_eq_right (State.priority_le s t m)
  unfold winner
  dsimp only
  split
  · rename_i hold
    have hfilter : [(m, w)].filter (fun x => decide (s.fg F.MTX_AGE_CYCLES ≠ 0) && decide (s.fg F.MTX_AGE_CYCLES ≤ x.2)) = [(m, w)] :=
      (List.sublist_singleton.mp List.filter_sublist).resolve_left hold
    rw [hfilter]
    exact roundRobin_single _ hm
  · have hfilter : [(m, w)].filter (fun x => decide (s.priority t x.1 = ([(m, w)].map fun x => s.priority t x.1).foldl Nat.min 15)) = [(m, w)] := by
      simp [hbest]
    rw [hfilter]
    exact roundRobin_single _ hm

/-- R463: of two masters that wait the one with the lower PRI is granted. -/
theorem winner_of_lower {k : Nat} (hm : m < 11) (w x : Nat) (hage : s.fg F.MTX_AGE_CYCLES = 0) (hlt : s.priority t m < s.priority t k) :
    winner t [(m, w), (k, x)] s = some m := by
  have hbest : ([(m, w), (k, x)].map fun y => s.priority t y.1).foldl Nat.min 15 = s.priority t m := by
    have hle := State.priority_le s t m
    change min (min 15 (s.priority t m)) (s.priority t k) = _
    omega
  have hold : [(m, w), (k, x)].filter (fun y => decide (s.fg F.MTX_AGE_CYCLES ≠ 0) && decide (s.fg F.MTX_AGE_CYCLES ≤ y.2)) = [] := by
    rw [hage]
    rfl
  have hfilter : [(m, w), (k, x)].filter (fun y => decide (s.priority t y.1 = s.priority t m)) = [(m, w)] := by
    have hne : s.priority t k ≠ s.priority t m := by omega
    simp [hne]
  unfold winner
  dsimp only
  rw [hold, if_neg (not_not.mpr rfl), hbest, hfilter]
  exact roundRobin_single _ hm

theorem winner_congr {u : State} (hrr : u.port.rr = s.port.rr) (hregs : u.regs = s.regs) (l : List (Nat × Nat)) : winner t l u = winner t l s := by
  unfold winner State.priority State.fg State.fgi
  rw [hrr, hregs]

end

/-! ### One burst in flight -/

section
variable {s : State} {m : Nat} {f : InFlight}

theorem tset_of_nil (m : Nat) (f : Option InFlight) : tset none [] m f = if f = none then [] else [(m, f)] := by
  cases f <;> rfl

theorem setFlight_flights (h : s.port.flights = []) (m : Nat) (f : InFlight) : (s.setFlight m (some f)).port.flights = [(m, some f)] := by
  have hset : (s.setFlight m (some f)).port.flights = tset none s.port.flights m (some f) := rfl
  rw [hset, h]
  rfl

theorem setFlight_again (h : s.port.flights = []) (f : InFlight) (x : Option InFlight) :
    (s.setFlight m (some f)).setFlight m x = s.setFlight m x := by
  have htwice : tset none (tset none s.port.flights m (some f)) m x = tset none s.port.flights m x := by
    have hdel : tdel [(m, some f)] m = [] := by simp [tdel]
    rw [h, tset_of_nil, if_neg (by simp)]
    unfold tset
    rw [hdel]
    rfl
  exact congrArg (fun l => s.modPort fun p => { p with flights := l }) htwice

theorem setFlight_none_flights {t : State} (h : t.port.flights = [(m, some f)]) : (t.setFlight m none).port.flights = [] := by
  have hset : (t.setFlight m none).port.flights = tset none t.port.flights m none := rfl
  rw [hset, h]
  simp [tset, tdel]

theorem flight_of_single {t : State} (h : t.port.flights = [(m, some f)]) : t.flight m = some f := by
  unfold State.flight
  rw [h]
  simp [tget]

theorem waiters_of_single {t : State} (h : t.port.flights = [(m, some f)]) (tg cycle : Nat) : t.waiters tg m cycle = [] := by
  unfold State.waiters
  rw [h]
  simp

theorem serveAhead_of_single {t : State} (h : t.port.flights = [(m, some f)]) (n tg cycle waited : Nat) :
    serveAhead n tg m cycle waited t = t := by
  cases n with
  | zero => rfl
  | succ n =>
    unfold serveAhead
    rw [waiters_of_single h]
    split
    · rename_i w hw
      have hm : w = m := by simpa using winner_mem hw
      rw [hm, flight_of_single h]
      exact if_pos rfl
    · rfl

theorem settleResets_of_single {t : State} (h : t.port.flights = [(m, some f)]) (hreset : f.reset = false) : settleResets t = t := by
  unfold settleResets
  rw [h, List.foldl_cons, List.foldl_nil]
  dsimp only
  rw [if_neg]
  rw [hreset]
  exact fun hc => Bool.false_ne_true hc.1

/-- R462 to R465: the turn of a burst at its target, with no other burst in flight. -/
theorem burstTurns_of_single {t : State} {tg : Nat} (h : t.port.flights = [(m, some f)]) (ht : f.target = some tg) (c : Claim) :
    burstTurns m [c] t = if turnGranted m tg c t then flightStep m f c.cycle c.waited t
      else t.setFlight m (some { f with cycle := c.cycle, waited := c.waited }) := by
  unfold burstTurns
  rw [flight_of_single h]
  dsimp only
  rw [ht]
  dsimp only
  rw [serveAhead_of_single h, flight_of_single h]
  rfl

theorem turnGranted_of_single {t : State} {tg : Nat} (h : t.port.flights = [(m, some f)]) (c : Claim) : turnGranted m tg c t =
    (!(decide (tg < 8) && c.chunk && decide (c.cycle % 16 ≠ 15)) && decide (winner tg ((m, c.waited) :: c.others) t = some m)) := by
  unfold turnGranted
  rw [waiters_of_single h, List.append_nil]

end

/-! ### A burst that is issued (R461, R466, R480) -/

/-- R469: the errors of table memory that have come about by the time of a burst. -/
def eccArisen (g : Grant) (s : State) : State :=
  s.modFab fun x =>
    { x with
      weakWords := x.weakWords ++ (g.weak.filter fun w => decide (w ∉ x.weakWords)).dedup
      badWords := x.badWords ++ (g.bad.filter fun w => decide (w ∉ x.badWords)).dedup }

/-- A burst as its master issues it. -/
def issued (b : Burst) (g : Grant) : InFlight := ⟨b, 0, [], g.delivered, (g.turns.head?.map Claim.cycle).getD 0, 0, false⟩

section
variable {s : State} {b : Burst} {g : Grant}

theorem eccArisen_of_nil (hweak : g.weak = []) (hbad : g.bad = []) (s : State) : eccArisen g s = s := by
  unfold eccArisen
  rw [hweak, hbad]
  simp only [List.filter_nil, List.dedup_nil, List.append_nil]
  rfl

theorem wellShaped_of_tbl (haddr : b.addr < 0x1000000) (halign : b.addr % 32 = 0) (hlen : 1 ≤ b.len) (hmax : b.len ≤ 8)
    (hpage : b.addr % 256 + 32 * b.len ≤ 256) : b.wellShaped = true := by
  unfold Burst.wellShaped
  rw [target_of_tbl haddr]
  simp only [Bool.and_eq_true, decide_eq_true_eq]
  exact ⟨⟨hlen, hmax⟩, halign, hpage⟩

theorem burstReady_of_tbl (haddr : b.addr < 0x1000000) (hflight : s.flight b.master = none) (hw : 4 ≤ b.master ∨ b.write = none) :
    burstReady b s = true := by
  have hlimit : s.limitOk b.addr b.len = true := by
    unfold State.limitOk
    rw [target_of_tbl haddr]
  unfold burstReady
  rw [hflight]
  dsimp only
  rw [hlimit, Bool.or_true, Bool.and_true]
  rcases hw with hm | hw
  · rw [decide_eq_true hm]
    rfl
  · rw [hw, Option.isNone_none, Bool.or_true, Bool.true_or]

theorem burstIssue_of_tbl (haddr : b.addr < 0x1000000) (hflight : s.flight b.master = none) : burstIssue b g s =
    s.setFlight b.master (some (issued b g)) := by
  have hcount : countBeats b.addr b.len s = s := by
    unfold countBeats
    rw [target_of_tbl haddr]
  unfold burstIssue
  rw [hflight]
  dsimp only
  rw [hcount, ite_self]
  rfl

/-- R440: a read of a sequencer waits for the stores before it. -/
def storesDrained (b : Burst) (g : Grant) (v : State) : State :=
  if b.write.isNone ∧ v.flight b.master = none then drainMaster b.master ((g.turns.head?.map (·.cycle)).getD 0) v else v

/-- R461: a burst goes on as far as its targets grant it. -/
def burstRun (b : Burst) (g : Grant) (v : State) : State :=
  if v.dev ≠ .off ∧ burstReady b v = true then settleResets (burstTurns b.master g.turns (burstIssue b g v)) else v

theorem matrixBurst_eq (hdev : s.dev ≠ .off) (hm : b.master < 11) (hshape : b.wellShaped = true) :
    matrixBurst b g s = burstRun b g (storesDrained b g (settleResets (eccArisen g s))) :=
  if_neg (by rw [hshape]; simp; exact ⟨hdev, hm⟩)

/-- R461: a burst to table memory issued by a master when nothing else is in flight. -/
theorem matrixBurst_of_idle {v : State} (hv : settleResets (eccArisen g s) = v) (hdev : s.dev ≠ .off) (hdev' : v.dev ≠ .off)
    (hm : b.master < 11) (hshape : b.wellShaped = true) (haddr : b.addr < 0x1000000) (hflights : v.port.flights = [])
    (hposted : b.master < 4 → (v.sq b.master).posted = []) (hw : 4 ≤ b.master ∨ b.write = none) :
    matrixBurst b g s = settleResets (burstTurns b.master g.turns (v.setFlight b.master (some (issued b g)))) := by
  have hflight := State.flight_of_nil hflights b.master
  have hdrain : storesDrained b g v = v := by
    unfold storesDrained
    rw [drainMaster_of_nil hposted, ite_self]
  rw [matrixBurst_eq hdev hm hshape, hv, hdrain]
  unfold burstRun
  rw [if_pos ⟨hdev', burstReady_of_tbl haddr hflight hw⟩, burstIssue_of_tbl haddr hflight]

end

/-! ### A target of table memory grants a burst (R462, R463) -/

/-- A burst at its first beat, that waits since a cycle. -/
def begun (b : Burst) (delivered cycle waited : Nat) : InFlight := ⟨b, 0, [], delivered, cycle, waited, false⟩

/-- The state in which a bank has granted a burst. -/
def burstGranted (b : Burst) (delivered tg : Nat) (c : Claim) (v : State) : State :=
  grantAt tg b.master c.waited (v.setFlight b.master (some (begun b delivered c.cycle 0)))

section
variable {s v : State} {b : Burst} {g : Grant} {c : Claim} {tg : Nat}

theorem grantAt_port (t m waited : Nat) (s : State) : (grantAt t m waited s).port = { s.port with rr := tset 0 s.port.rr t ((m + 1) % 11) } := by
  have hmark : (s.mark F.MTX_WAITHWMm_CYCLES m (Nat.min 0xFFFF waited)).port = s.port := by
    unfold State.mark
    split <;> rfl
  unfold grantAt
  rw [State.modPort_port, hmark]

/-- What a grant may move. -/
def grantExtent : Extent := ⟨[.dev, .auth, .rdata, .seqs, .time, .boot, .cal, .port], false, [F.MTX_WAITHWMm_CYCLES]⟩

theorem burstGranted_seen (e : Extent) (h : e.covers [.port] [F.MTX_WAITHWMm_CYCLES] = true) (b : Burst) (d tg : Nat) (c : Claim) (v : State) :
    State.seen e (burstGranted b d tg c v) = State.seen e v :=
  (grantAt_seen e _ _ _ _ h).trans (State.setFlight_seen e _ _ _ (Bool.and_eq_true_iff.mpr ⟨(Bool.and_eq_true_iff.mp h).1, rfl⟩))

theorem sameTable_burstGranted (b : Burst) (d tg : Nat) (c : Claim) (v : State) : SameTable v (burstGranted b d tg c v) :=
  SameTable.of_seen (fs := [F.MTX_WAITHWMm_CYCLES]) (burstGranted_seen _ rfl b d tg c v) rfl

theorem burstGranted_flights (h : v.port.flights = []) (d : Nat) : (burstGranted b d tg c v).port.flights =
    [(b.master, some (begun b d c.cycle 0))] := by
  unfold burstGranted
  rw [grantAt_port]
  exact setFlight_flights h _ _

theorem burstGranted_rr (d : Nat) : tget 0 (burstGranted b d tg c v).port.rr tg = (b.master + 1) % 11 := by
  unfold burstGranted
  rw [grantAt_port]
  exact tget_tset _ _ _ _

theorem burstGranted_dev (d : Nat) : (burstGranted b d tg c v).dev = v.dev :=
  dev_of_seen ⟨[.port], false, [F.MTX_WAITHWMm_CYCLES]⟩ _ _ (burstGranted_seen _ rfl b d tg c v) rfl

theorem burstGranted_fab (d : Nat) : (burstGranted b d tg c v).fab = v.fab :=
  fab_of_seen ⟨[.port], false, [F.MTX_WAITHWMm_CYCLES]⟩ _ _ (burstGranted_seen _ rfl b d tg c v) rfl

theorem burstGranted_fgi (d : Nat) {f : Fld} (i : Nat) (hf : f.id ≠ F.MTX_WAITHWMm_CYCLES.id) : (burstGranted b d tg c v).fgi f i = v.fgi f i :=
  State.fgi_of_seen ⟨[.port], false, [F.MTX_WAITHWMm_CYCLES]⟩ _ _ f i (burstGranted_seen _ rfl b d tg c v)
    (by simpa [Extent.r] using hf.symm)

/-- R462 to R465: the only claim of a burst to table memory. -/
theorem matrixBurst_of_claim (hv : settleResets (eccArisen g s) = v) (hdev : s.dev ≠ .off) (hdev' : v.dev ≠ .off) (hm : b.master < 11)
    (hshape : b.wellShaped = true) (ht : targetNo b.addr = some tg) (htg : tg < 8) (hflights : v.port.flights = []) (hturns : g.turns = [c])
    (hposted : b.master < 4 → (v.sq b.master).posted = []) (hw : 4 ≤ b.master ∨ b.write = none) : matrixBurst b g s = settleResets
      (if (!(c.chunk && decide (c.cycle % 16 ≠ 15)) && decide (winner tg ((b.master, c.waited) :: c.others) v = some b.master)) = true then
        flightBeats b.master 1 (begun b g.delivered c.cycle 0) c.cycle (burstGranted b g.delivered tg c v)
      else v.setFlight b.master (some (begun b g.delivered c.cycle c.waited))) := by
  have hissued : issued b g = begun b g.delivered c.cycle 0 := by
    unfold issued begun
    rw [hturns]
    rfl
  have htarget : (begun b g.delivered c.cycle 0).target = some tg := ht
  have hsingle := setFlight_flights hflights b.master (begun b g.delivered c.cycle 0)
  have hstep : flightStep b.master (begun b g.delivered c.cycle 0) c.cycle c.waited
      (v.setFlight b.master (some (begun b g.delivered c.cycle 0))) =
      flightBeats b.master 1 (begun b g.delivered c.cycle 0) c.cycle (burstGranted b g.delivered tg c v) := by
    unfold flightStep
    rw [htarget]
    dsimp only
    rw [if_pos htg]
    rfl
  rw [matrixBurst_of_idle hv hdev hdev' hm hshape (lt_of_targetNo ht htg) hflights hposted hw, hturns, hissued,
    burstTurns_of_single hsingle htarget, turnGranted_of_single hsingle, hstep, setFlight_again hflights,
    winner_congr (u := v.setFlight b.master (some (begun b g.delivered c.cycle 0))) (s := v) rfl rfl]
  rw [decide_eq_true htg, Bool.true_and]
  rfl

end

/-! ### The first beat (R461, R468, R469) -/

section
variable {w : State} {b : Burst} {m : Nat} {f : InFlight}

theorem beatDo_of_read (haddr : b.addr < 0x1000000) (hwrite : b.write = none) (hgood : w.beatBad b.addr = false) (cycle : Nat) :
    beatDo b 0 cycle w = (some (mtxBytes w b.addr 32), eccMend b.addr w) := by
  unfold beatDo
  rw [target_of_tbl haddr, hwrite]
  change accRead b.master b.addr 32 cycle w = _
  unfold accRead accGet
  rw [accErr_read_tbl haddr, hgood, if_neg Bool.false_ne_true, target_of_tbl haddr]
  change (some (memGet b.addr 32 cycle w).1, (memGet b.addr 32 cycle w).2) = _
  rw [memGet_of_tbl haddr]

theorem beatDo_of_bad_read (haddr : b.addr < 0x1000000) (hwrite : b.write = none) (hbad : w.beatBad b.addr = true) (cycle : Nat) :
    beatDo b 0 cycle w = (none, eccFail b.master b.addr false w) := by
  unfold beatDo
  rw [target_of_tbl haddr, hwrite]
  change accRead b.master b.addr 32 cycle w = _
  unfold accRead
  rw [accErr_read_tbl haddr, hbad, if_pos rfl]
  rfl

theorem accErr_allOnes (haddr : b.addr < 0x1000000) : accErr b.master b.addr true
    (decide (BitVec.allOnes 32 ≠ 0) && decide ((BitVec.allOnes 32).toNat ≠ 2 ^ 32 - 1)) w =
      if guardedMaster b.master && w.guarded b.addr then 6 else 0 := by
  have hpart : (decide (BitVec.allOnes 32 ≠ 0) && decide ((BitVec.allOnes 32).toNat ≠ 2 ^ 32 - 1)) = false := by decide
  rw [hpart, accErr_whole_tbl haddr]

theorem beatDo_of_write {bytes : List Byte} (haddr : b.addr < 0x1000000) (hwrite : b.write = some [(bytes, BitVec.allOnes 32)])
    (hopen : (guardedMaster b.master && w.guarded b.addr) = false) (cycle : Nat) : beatDo b 0 cycle w = (some [], tblPut b.addr bytes w) := by
  have hput : b.put 0 = (bytes, BitVec.allOnes 32) := by
    unfold Burst.put
    rw [hwrite]
    rfl
  have hdone : putStrobes b.master b.addr bytes (BitVec.allOnes 32) w = tblPut b.addr bytes w := by
    unfold putStrobes accPut
    rw [if_pos (by decide), target_of_tbl haddr]
    exact memPutAt_of_tbl haddr bytes w
  unfold beatDo
  rw [target_of_tbl haddr]
  dsimp only
  rw [hput, hwrite, Option.isSome_some, if_pos rfl, Nat.mul_zero, Nat.add_zero]
  dsimp only
  rw [accErr_allOnes haddr, hopen, if_neg Bool.false_ne_true, noteStall_of_tbl haddr, hdone]
  rfl

theorem beatDo_of_protected {bytes : List Byte} (haddr : b.addr < 0x1000000) (hwrite : b.write = some [(bytes, BitVec.allOnes 32)])
    (hguard : (guardedMaster b.master && w.guarded b.addr) = true) (cycle : Nat) :
    beatDo b 0 cycle w = (none, matrixError b.master 6 true b.addr w) := by
  have hput : b.put 0 = (bytes, BitVec.allOnes 32) := by
    unfold Burst.put
    rw [hwrite]
    rfl
  unfold beatDo
  rw [target_of_tbl haddr]
  dsimp only
  rw [hput, hwrite, Option.isSome_some, if_pos rfl, Nat.mul_zero, Nat.add_zero]
  dsimp only
  rw [accErr_allOnes haddr, hguard, if_pos rfl]
  rfl

theorem burstEnd_of_read (hdev : w.dev ≠ .off) (hread : f.burst.write = none) {err : Bool} (hm : 4 ≤ m ∨ err = false) :
    burstEnd m f err w = { w.setFlight m none with rdata := leNat f.data } := by
  unfold burstEnd
  dsimp only
  rw [if_neg (show (w.setFlight m none).dev ≠ .off from hdev), hread, Option.isNone_none, if_pos rfl]
  split
  · rfl
  · rename_i hlt
    rw [hm.resolve_left hlt]
    split
    · rename_i h _
      exact absurd h Bool.false_ne_true
    · rfl

theorem burstEnd_of_write (hdev : w.dev ≠ .off) {l : List (List Byte × BitVec 32)} (hwrite : f.burst.write = some l) (hm : 4 ≤ m)
    (err : Bool) : burstEnd m f err w = w.setFlight m none := by
  unfold burstEnd
  dsimp only
  rw [if_neg (show (w.setFlight m none).dev ≠ .off from hdev), hwrite, if_pos hm]
  rfl

/-! ### Errors of ECC counted (R469) -/

theorem foldl_bump_count {f : Fld} (hw : f.width = 32) (l : List Nat) (s : State) :
    (l.foldl (fun s _ => s.bump f) s).fgi f 0 = Nat.min (s.fgi f 0 + l.length) (2 ^ 32 - 1) := by
  induction l generalizing s with
  | nil =>
    have h := State.fgi_lt s f 0
    rw [hw] at h
    exact (Nat.min_eq_left (Nat.le_sub_one_of_lt h)).symm
  | cons x l ih =>
    rw [List.foldl_cons, ih, State.fgi_bump_self _ hw, List.length_cons]
    change min (min (s.fgi f 0 + 1) (2 ^ 32 - 1) + l.length) (2 ^ 32 - 1) = min (s.fgi f 0 + (l.length + 1)) (2 ^ 32 - 1)
    omega

theorem eccMend_count (a : Nat) (s : State) : (eccMend a s).fg F.MTX_ECCCOR =
    Nat.min (s.fg F.MTX_ECCCOR + (inBeat a s.fab.weakWords).length) (2 ^ 32 - 1) := by
  have hfold := foldl_bump_count (f := F.MTX_ECCCOR) rfl (inBeat a s.fab.weakWords) s
  unfold eccMend
  dsimp only
  split
  · rename_i hnil
    rw [hnil] at hfold ⊢
    exact hfold
  · exact hfold

/-- R469: no correctable error is left in a beat that has been read. -/
theorem inBeat_eccMend (a : Nat) (s : State) : inBeat a (eccMend a s).fab.weakWords = [] := by
  have hfold : ∀ (l : List Nat) (u : State), (l.foldl (fun s _ => s.bump F.MTX_ECCCOR) u).fab = u.fab := fun l u =>
    fab_of_seen ⟨[], false, [F.MTX_ECCCOR]⟩ _ _ (foldl_seen _ _ _ _ fun s _ => State.bump_seen _ _ _ rfl) rfl
  unfold eccMend
  dsimp only
  split
  · assumption
  · rw [State.modFab_fab, hfold]
    generalize hl : inBeat a s.fab.weakWords = l
    unfold inBeat at hl ⊢
    split
    · rename_i ha
      rw [if_pos ha] at hl
      rw [List.filter_filter, List.filter_eq_nil_iff]
      intro x hx hc
      simp only [Bool.and_eq_true, decide_eq_true_eq] at hc
      exact hc.2 (hl ▸ List.mem_filter.mpr ⟨hx, decide_eq_true hc.1⟩)
    · rfl

end

/-! ### Bursts of one beat, from their claim to their end -/

/-- A read of a master has been answered, and is no longer in flight. -/
def answered (m v : Nat) (s : State) : State := { s.setFlight m none with rdata := v }

/-- The state after a burst of one beat that reads. -/
def readEnded (b : Burst) (w : State) : State := answered b.master (leNat (mtxBytes w b.addr 32)) (eccMend b.addr w)

section
variable {s v w : State} {b : Burst} {g : Grant} {c : Claim} {tg : Nat}

theorem eccMend_port (a : Nat) (s : State) : (eccMend a s).port = s.port :=
  port_of_seen ⟨[.fab], false, [F.MTX_ECCCOR]⟩ _ _ (eccMend_seen_in _ rfl a s) rfl

theorem eccMend_dev (a : Nat) (s : State) : (eccMend a s).dev = s.dev :=
  dev_of_seen ⟨[.fab], false, [F.MTX_ECCCOR]⟩ _ _ (eccMend_seen_in _ rfl a s) rfl

theorem answered_fgi (m v : Nat) (s : State) (f : Fld) (i : Nat) : (answered m v s).fgi f i = s.fgi f i := rfl

theorem answered_rdata (m v : Nat) (s : State) : (answered m v s).rdata = v := rfl

theorem answered_table (m v : Nat) (s : State) : (answered m v s).table = s.table := rfl

theorem answered_fab (m v : Nat) (s : State) : (answered m v s).fab = s.fab := rfl

theorem answered_rr (m v : Nat) (s : State) : (answered m v s).port.rr = s.port.rr := rfl

theorem answered_flights {m v : Nat} {s : State} {f : InFlight} (h : s.port.flights = [(m, some f)]) : (answered m v s).port.flights = [] := by
  have hnil := setFlight_none_flights h
  exact hnil

theorem flightBeats_of_done {u : State} {x : List Byte} {m : Nat} (hlen : b.len = 1) (d cycle : Nat) (hbeat : beatDo b 0 cycle w = (some x, u)) :
    flightBeats m 1 (begun b d cycle 0) cycle w = burstEnd m { begun b d cycle 0 with done := 1, data := x } false u := by
  unfold flightBeats
  dsimp only
  rw [show beatDo (begun b d cycle 0).burst (begun b d cycle 0).done cycle w = _ from hbeat]
  exact if_pos (Nat.le_of_eq hlen)

theorem flightBeats_of_read (haddr : b.addr < 0x1000000) (hwrite : b.write = none) (hbeats : b.beats = 1) (hdev : w.dev ≠ .off)
    (hgood : w.beatBad b.addr = false) (d cycle : Nat) :
    flightBeats b.master 1 (begun b d cycle 0) cycle w = readEnded b w := by
  have hlen : b.len = 1 := by
    unfold Burst.len
    rw [hwrite]
    exact hbeats
  have hdev' : (eccMend b.addr w).dev ≠ .off := by
    rw [eccMend_dev]
    exact hdev
  rw [flightBeats_of_done hlen d cycle (beatDo_of_read haddr hwrite hgood cycle)]
  exact burstEnd_of_read hdev' hwrite (.inr rfl)

theorem mtxBytes_congr {u : State} (h : SameTable s u) {a n : Nat} (hend : a + n ≤ 0x1000000) : mtxBytes u a n = mtxBytes s a n := by
  rw [mtxBytes_of_tbl hend, mtxBytes_of_tbl hend, h.tblBytes]

theorem beat_end (haddr : b.addr < 0x1000000) (halign : b.addr % 32 = 0) : b.addr + 32 ≤ 0x1000000 := by omega

/-- R469: what a granted read of a beat leaves. -/
theorem readEnded_shows (haddr : b.addr < 0x1000000) (halign : b.addr % 32 = 0) (hsame : SameTable v w)
    (hflights : w.port.flights = [(b.master, some (begun b d k 0))]) :
    settleResets (readEnded b w) = readEnded b w ∧ (readEnded b w).rdata = leNat (mtxBytes v b.addr 32) ∧ (readEnded b w).table = v.table ∧
      (readEnded b w).flight b.master = none ∧ (readEnded b w).port.rr = w.port.rr := by
  have hport : (eccMend b.addr w).port.flights = [(b.master, some (begun b d k 0))] := by
    rw [eccMend_port]
    exact hflights
  have hnil : (readEnded b w).port.flights = [] := answered_flights hport
  refine ⟨settleResets_of_nil hnil, ?_, ?_, State.flight_of_nil hnil _, ?_⟩
  · unfold readEnded
    rw [answered_rdata, mtxBytes_congr hsame (beat_end haddr halign)]
  · unfold readEnded
    rw [answered_table, (sameTable_eccMend b.addr w).table, hsame.table]
  · unfold readEnded
    rw [answered_rr, eccMend_port]

theorem readEnded_errcnt (b : Burst) (w : State) : (readEnded b w).fg F.MTX_ERRCNT = w.fg F.MTX_ERRCNT :=
  (answered_fgi _ _ _ _ _).trans <| State.fgi_of_seen ⟨[.fab], false, [F.MTX_ECCCOR]⟩ w _ F.MTX_ERRCNT 0 (eccMend_seen_in _ rfl b.addr w) rfl

theorem flightBeats_of_put {bytes : List Byte} (haddr : b.addr < 0x1000000) (hwrite : b.write = some [(bytes, BitVec.allOnes 32)])
    (hdev : w.dev ≠ .off) (hopen : (guardedMaster b.master && w.guarded b.addr) = false) (hm : 4 ≤ b.master) (d cycle : Nat) :
    flightBeats b.master 1 (begun b d cycle 0) cycle w = (tblPut b.addr bytes w).setFlight b.master none := by
  have hlen : b.len = 1 := by
    unfold Burst.len
    rw [hwrite]
    rfl
  have hdev' : (tblPut b.addr bytes w).dev ≠ .off := by
    rw [dev_of_seen _ _ _ (tblPut_seen_objects b.addr bytes w) rfl]
    exact hdev
  rw [flightBeats_of_done hlen d cycle (beatDo_of_write haddr hwrite hopen cycle)]
  exact burstEnd_of_write hdev' hwrite hm false

/-- R467, R468: a burst of one beat whose beat meets an error response ends with it. -/
theorem flightBeats_of_error {t : State} (hlen : b.len = 1) (d cycle : Nat) (hbeat : beatDo b 0 cycle w = (none, t)) :
    flightBeats b.master 1 (begun b d cycle 0) cycle w = burstEnd b.master (begun b d cycle 0) true t := by
  have hrest : burstRest (begun b d cycle 0).burst (begun b d cycle 0).delivered ((begun b d cycle 0).done + 1) (cycle + 1) t = t :=
    if_pos (Nat.le_of_eq hlen)
  unfold flightBeats
  dsimp only
  rw [show beatDo (begun b d cycle 0).burst (begun b d cycle 0).done cycle w = _ from hbeat]
  dsimp only
  rw [hrest]

end

end Sys2Proof.Machine
end

section
/-! PROOF. What bursts to table memory leave, granted, waiting, refused and reset (18, R462 to R472) (O56). -/
namespace Sys2Proof.Machine

section
variable {s : State} {b : Burst} {g : Grant} {c : Claim} {tg : Nat}

/-! ### Granted reads -/

theorem exec_matrixBurst {t : State} (h : matrixBurst b g s = t) : exec (.matrixBurst b g) s = .next t := by
  rw [← h]
  rfl

theorem settled_of_nil (hflights : s.port.flights = []) (hweak : g.weak = []) (hbad : g.bad = []) : settleResets (eccArisen g s) = s := by
  rw [eccArisen_of_nil hweak hbad, settleResets_of_nil hflights]

theorem len_of_read (hwrite : b.write = none) : b.len = b.beats := by
  unfold Burst.len
  rw [hwrite]

theorem len_of_write {l : List (List Byte × BitVec 32)} (hwrite : b.write = some l) : b.len = l.length := by
  unfold Burst.len
  rw [hwrite]

theorem wellShaped_of_one (haddr : b.addr < 0x1000000) (halign : b.addr % 32 = 0) (hlen : b.len = 1) : b.wellShaped = true :=
  wellShaped_of_tbl haddr halign (by omega) (by omega) (by omega)

/-- R463, R469: a read of one beat that its bank grants. -/
theorem matrixBurst_of_granted_read (hdev : s.dev ≠ .off) (hm : b.master < 11) (ht : targetNo b.addr = some tg) (htg : tg < 8)
    (halign : b.addr % 32 = 0) (hflights : s.port.flights = []) (hturns : g.turns = [c]) (hweak : g.weak = []) (hbad : g.bad = [])
    (hchunk : c.chunk = false) (hposted : b.master < 4 → (s.sq b.master).posted = []) (hwrite : b.write = none) (hbeats : b.beats = 1)
    (hwin : winner tg ((b.master, c.waited) :: c.others) s = some b.master) (hgood : s.beatBad b.addr = false) :
    matrixBurst b g s = readEnded b (burstGranted b g.delivered tg c s) ∧
      settleResets (readEnded b (burstGranted b g.delivered tg c s)) = readEnded b (burstGranted b g.delivered tg c s) ∧
      (readEnded b (burstGranted b g.delivered tg c s)).rdata = leNat (mtxBytes s b.addr 32) ∧
      (readEnded b (burstGranted b g.delivered tg c s)).table = s.table ∧
      (readEnded b (burstGranted b g.delivered tg c s)).flight b.master = none ∧
      (readEnded b (burstGranted b g.delivered tg c s)).port.rr = (burstGranted b g.delivered tg c s).port.rr := by
  have haddr := lt_of_targetNo ht htg
  have hshape := wellShaped_of_one haddr halign ((len_of_read hwrite).trans hbeats)
  have hshows := readEnded_shows haddr halign (sameTable_burstGranted b g.delivered tg c s) (burstGranted_flights hflights g.delivered)
  have hgood' : (burstGranted b g.delivered tg c s).beatBad b.addr = false := by
    unfold State.beatBad
    rw [burstGranted_fab]
    exact hgood
  have hdev' : (burstGranted b g.delivered tg c s).dev ≠ .off := by
    rw [burstGranted_dev]
    exact hdev
  refine ⟨?_, hshows⟩
  rw [matrixBurst_of_claim (settled_of_nil hflights hweak hbad) hdev hdev hm hshape ht htg hflights hturns hposted (.inr hwrite), hchunk, hwin,
    if_pos (by simp), flightBeats_of_read haddr hwrite hbeats hdev' hgood', hshows.1]

/-! ### Uncorrectable words (R469) -/

theorem logFault_flights (code index detail : Nat) (s : State) : (s.logFault code index detail).port.flights = s.port.flights := by
  obtain ⟨r, l, h, -, heq⟩ := State.logFault_eq (s := s) code index detail
  rw [heq]

theorem inBeat_word {a k : Nat} (ha : a < 0x1000000) (halign : a % 32 = 0) (hk : k < 4) : inBeat a [a / 8 + k] = [a / 8 + k] := by
  have hbeat : (a / 8 + k) / 4 = a / 32 := by omega
  unfold inBeat
  rw [if_pos ha]
  simp [hbeat]

theorem eccNote_of_one {a x : Nat} (h : inBeat a s.fab.badWords = [x]) (m : Nat) :
    eccNote m a s = (s.bump F.MTX_ECCUNC).logFault 0x6001 (a / 32 % 8) m := by
  unfold eccNote
  rw [h]
  rfl

/-- What an error response of ECC may move. -/
def eccErrorExtent : Extent := ⟨[.seqs, .log, .port], false, raiseFlds ++ [F.DBG_FLTSTAT_CLASS, F.MTX_ECCUNC, F.MTX_ERRADDR_ADDR, F.MTX_ERRCNT,
  F.MTX_ERRSTAT_CAUSE, F.MTX_ERRSTAT_MASTER, F.MTX_ERRSTAT_OVR, F.MTX_ERRSTAT_VALID, F.MTX_ERRSTAT_WRITE]⟩

theorem eccFail_seen_in (m a : Nat) (write : Bool) (s : State) : State.seen eccErrorExtent (eccFail m a write s) = State.seen eccErrorExtent s :=
  eccFail_seen _ m a write s rfl

theorem eccFail_flights {a x : Nat} (h : inBeat a s.fab.badWords = [x]) (m : Nat) (write : Bool) :
    (eccFail m a write s).port.flights = s.port.flights := by
  unfold eccFail
  rw [matrixError_port, eccNote_of_one h, logFault_flights]
  rfl

/-- R468, R469: what an uncorrectable word records. -/
theorem eccFail_shows {a x m : Nat} (h : inBeat a s.fab.badWords = [x]) (hm : m < 16) (ha : a < 2 ^ 32) :
    (eccFail m a false s).fg F.MTX_ECCUNC = Nat.min (s.fg F.MTX_ECCUNC + 1) (2 ^ 32 - 1) ∧
      (eccFail m a false s).fg F.MTX_ERRCNT = Nat.min (s.fg F.MTX_ERRCNT + 1) (2 ^ 32 - 1) ∧ (eccFail m a false s).fg F.MTX_ERRSTAT_CAUSE = 3 ∧
      (eccFail m a false s).fg F.MTX_ERRSTAT_MASTER = m ∧ (eccFail m a false s).fg F.MTX_ERRSTAT_WRITE = 0 ∧
      (eccFail m a false s).pend 132 = true := by
  have hnote := eccNote_of_one h m
  obtain ⟨-, hmaster, hcause, hpend⟩ := matrixError_shows hm (e := 3) (by decide) false a (eccNote m a s)
  obtain ⟨hwrite, -, hcnt⟩ := matrixError_access m 3 false ha (eccNote m a s)
  refine ⟨?_, hcnt.trans ?_, hcause, hmaster, hwrite, hpend⟩
  · refine (State.fgi_of_seen matrixErrorExtent (eccNote m a s) _ F.MTX_ECCUNC 0 (matrixError_seen _ _ _ _ _ _ rfl) rfl).trans ?_
    rw [hnote, State.fgi_logFault_of_ne, State.fgi_bump_self _ rfl]
    · rfl
    · decide
  · rw [hnote, State.fg_eq, State.fgi_logFault_of_ne, State.fgi_bump_of_ne]
    · rfl
    · decide
    · decide

/-! ### Writes of whole beats (R469, R470) -/

theorem inBeat_rest {a : Nat} (halign : a % 32 = 0) (l : List Nat) : inBeat a (l.filter (beatRest a 32)) = [] := by
  unfold inBeat
  split
  · rw [List.filter_filter, List.filter_eq_nil_iff]
    intro x _ hc
    unfold beatRest at hc
    simp only [Bool.and_eq_true, Bool.or_eq_true, decide_eq_true_eq] at hc
    obtain ⟨hbeat, hrest⟩ := hc
    omega
  · rfl

/-- R469: a whole write repairs its beat. -/
theorem tblPut_repairs {a : Nat} {bytes : List Byte} (halign : a % 32 = 0) (hlen : bytes.length = 32) (s : State) :
    (tblPut a bytes s).beatBad a = false ∧ inBeat a (tblPut a bytes s).fab.weakWords = [] := by
  unfold State.beatBad
  rw [tblPut_badWords, tblPut_weakWords, hlen, inBeat_rest halign, inBeat_rest halign]
  exact ⟨rfl, rfl⟩

/-- R470: a write puts its bytes in their places, and no other byte changes. -/
theorem tblPut_mem8 (a : Nat) (bytes : List Byte) (s : State) :
    (∀ k, k < bytes.length → (tblPut a bytes s).mem8 (a + k) = bytes.getD k 0) ∧
      ∀ x, x < a ∨ a + bytes.length ≤ x → (tblPut a bytes s).mem8 x = s.mem8 x := by
  unfold State.mem8
  rw [tblPut_table]
  exact ⟨fun k hk => tget_tsetBytes _ _ _ _ _ hk, fun x hx => tget_tsetBytes_ne _ _ _ _ _ hx⟩

theorem tblPut_seen_table (a : Nat) (bytes : List Byte) (s : State) : State.seen putExtent (tblPut a bytes s) = State.seen putExtent s :=
  tblPut_seen _ a bytes s rfl

theorem tblPut_port (a : Nat) (bytes : List Byte) (s : State) : (tblPut a bytes s).port = s.port :=
  port_of_seen _ _ _ (tblPut_seen_table a bytes s) rfl

theorem tblPut_fgi (a : Nat) (bytes : List Byte) (s : State) (f : Fld) (i : Nat) : (tblPut a bytes s).fgi f i = s.fgi f i :=
  State.fgi_of_seen _ _ _ f i (tblPut_seen_table a bytes s) rfl

/-! ### Two beats, and a master that has been reset (R462, R467) -/

theorem flight_setFlight (m : Nat) (f : Option InFlight) (s : State) : (s.setFlight m f).flight m = f := tget_tset _ _ _ _

/-- R462: of a burst of two beats the first is done and the second waits. -/
theorem flightBeats_of_two {w : State} {x : List Byte} {u : State} {m : Nat} (hlen : b.len = 2) (hdev : u.dev ≠ .off) (d cycle : Nat)
    (hbeat : beatDo b 0 cycle w = (some x, u)) :
    flightBeats m 1 (begun b d cycle 0) cycle w = u.setFlight m (some ⟨b, 1, x, d, cycle + 1, 0, false⟩) := by
  have hmore : ¬b.len ≤ 1 := by omega
  unfold flightBeats
  dsimp only
  rw [show beatDo (begun b d cycle 0).burst (begun b d cycle 0).done cycle w = _ from hbeat]
  dsimp only
  refine (if_neg hmore).trans ?_
  unfold flightBeats
  exact if_neg hdev

/-- R467: a write in flight whose master has been reset, as its data were delivered. -/
def quietPut (b : Burst) (delivered : Nat) (bytes : List Byte) (s : State) : State :=
  if delivered = 0 then s else tblPut b.addr bytes s

theorem beatQuiet_of_write {bytes : List Byte} (haddr : b.addr < 0x1000000) (hwrite : b.write = some [(bytes, BitVec.allOnes 32)])
    (hopen : s.guarded b.addr = false) (delivered cycle : Nat) : beatQuiet b delivered 0 cycle s = quietPut b delivered bytes s := by
  have hput : b.put 0 = (bytes, BitVec.allOnes 32) := by
    unfold Burst.put
    rw [hwrite]
    rfl
  have hdone : putStrobes b.master b.addr bytes (BitVec.allOnes 32) s = tblPut b.addr bytes s := by
    unfold putStrobes accPut
    rw [if_pos (by decide), target_of_tbl haddr]
    exact memPutAt_of_tbl haddr bytes s
  have hnone : putStrobes b.master b.addr [] 0 s = s := by
    have hfold : ∀ l : List Nat, l.foldl (fun s i => if (0 : BitVec 32).getLsbD i then accPut b.master (b.addr + i) [([] : List Byte).getD i 0] s else s) s
        = s := by
      intro l
      induction l with
      | nil => rfl
      | cons i l ih =>
        rw [List.foldl_cons, if_neg (by simp)]
        exact ih
    unfold putStrobes
    rw [if_neg (by decide)]
    exact hfold _
  have herr : ∀ st : BitVec 32, (decide (st ≠ 0) && decide (st.toNat ≠ 2 ^ 32 - 1)) = false → ∀ bs,
      quietWrite b.master b.addr cycle bs st s = putStrobes b.master b.addr bs st s := by
    intro st hst bs
    unfold quietWrite
    rw [hst, accErr_whole_tbl haddr, hopen, Bool.and_false, if_neg Bool.false_ne_true, noteStall_of_tbl haddr]
    rfl
  unfold beatQuiet quietPut
  rw [target_of_tbl haddr, hput, hwrite]
  dsimp only
  rw [Option.isNone_some, if_neg Bool.false_ne_true, Nat.mul_zero, Nat.add_zero]
  by_cases hd : delivered = 0
  · rw [if_pos hd, if_neg (by omega), herr 0 (by decide), hnone]
  · rw [if_neg hd, if_pos (by omega), herr _ (by decide), hdone]

/-- R467: what the matrix does with that write. -/
theorem settleResets_of_reset {f : InFlight} {bytes : List Byte} (hflights : s.port.flights = [(10, some f)]) (hreset : f.reset = true)
    (hdone : f.done = 0) (haddr : f.burst.addr < 0x1000000) (hwrite : f.burst.write = some [(bytes, BitVec.allOnes 32)])
    (hopen : s.guarded f.burst.addr = false) : settleResets s = burstReset (quietPut f.burst f.delivered bytes (s.setFlight 10 none)) := by
  have hlen : f.burst.len = 1 := len_of_write hwrite
  unfold settleResets
  rw [hflights, List.foldl_cons, List.foldl_nil]
  dsimp only
  rw [if_pos ⟨hreset, flight_of_single hflights⟩]
  unfold flightReset
  rw [hlen, hdone, show List.range (1 - 0) = [0] from rfl, List.foldl_cons, List.foldl_nil]
  exact congrArg burstReset (beatQuiet_of_write (s := s.setFlight 10 none) haddr hwrite hopen f.delivered f.cycle)

theorem setFlight_replaced {m : Nat} {f : InFlight} (h : s.port.flights = [(m, some f)]) (x : InFlight) :
    (s.setFlight m (some x)).port.flights = [(m, some x)] := by
  have hset : (s.setFlight m (some x)).port.flights = tset none s.port.flights m (some x) := rfl
  have hdel : tdel [(m, some f)] m = [] := by simp [tdel]
  rw [hset, h, tset, if_neg (by simp), hdel]
  rfl

/-- R467: what the write of a master that has been reset leaves. -/
theorem quietPut_shows {bytes : List Byte} (hlen : bytes.length = 32) (delivered : Nat) (s : State) :
    (quietPut b delivered bytes s).port = s.port ∧ (quietPut b delivered bytes s).dev = s.dev ∧
      (∀ f i, (quietPut b delivered bytes s).fgi f i = s.fgi f i) ∧
      (∀ k, k < 32 → (quietPut b delivered bytes s).mem8 (b.addr + k) = if delivered = 0 then s.mem8 (b.addr + k) else bytes.getD k 0) ∧
      ∀ a, a < b.addr ∨ b.addr + 32 ≤ a → (quietPut b delivered bytes s).mem8 a = s.mem8 a := by
  unfold quietPut
  by_cases hd : delivered = 0
  · rw [if_pos hd]
    exact ⟨rfl, rfl, fun _ _ => rfl, fun k _ => (if_pos hd).symm, fun _ _ => rfl⟩
  · obtain ⟨hput, helse⟩ := tblPut_mem8 b.addr bytes s
    rw [hlen] at hput helse
    rw [if_neg hd]
    exact ⟨tblPut_port _ _ _, dev_of_seen _ _ _ (tblPut_seen_table b.addr bytes s) rfl, tblPut_fgi _ _ _,
      fun k hk => (hput k hk).trans (if_neg hd).symm, helse⟩

/-! ### Whole bursts -/

/-- R469: a granted read that meets an uncorrectable word. -/
theorem matrixBurst_of_bad_read {v : State} {x : Nat} (hv : settleResets (eccArisen g s) = v) (hdev : s.dev ≠ .off) (hvdev : v.dev ≠ .off)
    (hm : b.master < 11) (ht : targetNo b.addr = some tg) (htg : tg < 8) (halign : b.addr % 32 = 0) (hflights : v.port.flights = [])
    (hturns : g.turns = [c]) (hothers : c.others = []) (hchunk : c.chunk = false) (hmaster : 4 ≤ b.master) (hwrite : b.write = none)
    (hbeats : b.beats = 1) (hword : inBeat b.addr v.fab.badWords = [x]) :
    matrixBurst b g s = answered b.master (leNat []) (eccFail b.master b.addr false (burstGranted b g.delivered tg c v)) ∧
      (eccFail b.master b.addr false (burstGranted b g.delivered tg c v)).port.flights = [(b.master, some (begun b g.delivered c.cycle 0))] := by
  have haddr := lt_of_targetNo ht htg
  have hlen := (len_of_read hwrite).trans hbeats
  have hword' : inBeat b.addr (burstGranted b g.delivered tg c v).fab.badWords = [x] := by
    rw [burstGranted_fab]
    exact hword
  have hbadBeat : (burstGranted b g.delivered tg c v).beatBad b.addr = true := by
    unfold State.beatBad
    rw [hword']
    rfl
  have hedev : (eccFail b.master b.addr false (burstGranted b g.delivered tg c v)).dev ≠ .off := by
    rw [dev_of_seen _ _ _ (eccFail_seen_in _ _ _ _) rfl, burstGranted_dev]
    exact hvdev
  have heflights : (eccFail b.master b.addr false (burstGranted b g.delivered tg c v)).port.flights =
      [(b.master, some (begun b g.delivered c.cycle 0))] := (eccFail_flights hword' _ _).trans (burstGranted_flights hflights _)
  refine ⟨?_, heflights⟩
  rw [matrixBurst_of_claim hv hdev hvdev hm (wellShaped_of_one haddr halign hlen) ht htg hflights hturns (fun h => absurd h (by omega))
    (.inl hmaster), hchunk, hothers, winner_single hm, if_pos (by simp),
    flightBeats_of_error hlen _ _ (beatDo_of_bad_read haddr hwrite hbadBeat _), burstEnd_of_read hedev hwrite (.inl hmaster)]
  exact settleResets_of_nil (answered_flights heflights)

/-- R462: a read of two beats, of which the first is granted. -/
theorem matrixBurst_of_two_beats (hdev : s.dev ≠ .off) (hm : b.master < 11) (ht : targetNo b.addr = some tg) (htg : tg < 8)
    (halign : b.addr % 32 = 0) (hflights : s.port.flights = []) (hturns : g.turns = [c]) (hweak : g.weak = []) (hbad : g.bad = [])
    (hothers : c.others = []) (hchunk : c.chunk = false) (hposted : b.master < 4 → (s.sq b.master).posted = []) (hwrite : b.write = none)
    (hbeats : b.beats = 2) (hpage : b.addr % 256 < 224) (hgood : s.beatBad b.addr = false) : matrixBurst b g s =
      (eccMend b.addr (burstGranted b g.delivered tg c s)).setFlight b.master
        (some ⟨b, 1, mtxBytes s b.addr 32, g.delivered, c.cycle + 1, 0, false⟩) := by
  have haddr := lt_of_targetNo ht htg
  have hlen : b.len = 2 := (len_of_read hwrite).trans hbeats
  have hgood' : (burstGranted b g.delivered tg c s).beatBad b.addr = false := by
    unfold State.beatBad
    rw [burstGranted_fab]
    exact hgood
  have hmdev : (eccMend b.addr (burstGranted b g.delivered tg c s)).dev ≠ .off := by
    rw [eccMend_dev, burstGranted_dev]
    exact hdev
  have hbytes : mtxBytes (burstGranted b g.delivered tg c s) b.addr 32 = mtxBytes s b.addr 32 :=
    mtxBytes_congr (sameTable_burstGranted _ _ _ _ _) (beat_end haddr halign)
  have hmflights : (eccMend b.addr (burstGranted b g.delivered tg c s)).port.flights = [(b.master, some (begun b g.delivered c.cycle 0))] := by
    rw [eccMend_port]
    exact burstGranted_flights hflights _
  rw [matrixBurst_of_claim (settled_of_nil hflights hweak hbad) hdev hdev hm
    (wellShaped_of_tbl haddr halign (by omega) (by omega) (by omega)) ht htg hflights hturns hposted (.inr hwrite), hchunk, hothers,
    winner_single hm, if_pos (by simp), flightBeats_of_two hlen hmdev _ _ (beatDo_of_read haddr hwrite hgood' _), hbytes]
  exact settleResets_of_single (setFlight_replaced hmflights _) rfl

section
variable {bytes : List Byte} (hdev : s.dev ≠ .off) (hm : b.master < 11) (ht : targetNo b.addr = some tg) (htg : tg < 8)
  (halign : b.addr % 32 = 0) (hflights : s.port.flights = []) (hturns : g.turns = [c]) (hweak : g.weak = []) (hbad : g.bad = [])
  (hothers : c.others = []) (hchunk : c.chunk = false) (hmaster : 4 ≤ b.master) (hwrite : b.write = some [(bytes, BitVec.allOnes 32)])
include hdev hm ht htg halign hflights hturns hweak hbad hothers hchunk hmaster hwrite

/-- R470: a granted write of a whole beat. -/
theorem matrixBurst_of_granted_write (hopen : (guardedMaster b.master && s.guarded b.addr) = false) :
    matrixBurst b g s = (tblPut b.addr bytes (burstGranted b g.delivered tg c s)).setFlight b.master none := by
  have haddr := lt_of_targetNo ht htg
  have hopen' : (guardedMaster b.master && (burstGranted b g.delivered tg c s).guarded b.addr) = false := by
    rw [(sameTable_burstGranted _ _ _ _ _).guarded]
    exact hopen
  have hgdev : (burstGranted b g.delivered tg c s).dev ≠ .off := by
    rw [burstGranted_dev]
    exact hdev
  have hpflights : (tblPut b.addr bytes (burstGranted b g.delivered tg c s)).port.flights =
      [(b.master, some (begun b g.delivered c.cycle 0))] := by
    rw [tblPut_port]
    exact burstGranted_flights hflights _
  rw [matrixBurst_of_claim (settled_of_nil hflights hweak hbad) hdev hdev hm (wellShaped_of_one haddr halign (len_of_write hwrite)) ht htg
    hflights hturns (fun h => absurd h (by omega)) (.inl hmaster), hchunk, hothers, winner_single hm, if_pos (by simp),
    flightBeats_of_put haddr hwrite hgdev hopen' hmaster]
  exact settleResets_of_nil (setFlight_none_flights hpflights)

/-- R472: a granted write of a guarded area by a guarded master. -/
theorem matrixBurst_of_protected_write (hguard : (guardedMaster b.master && s.guarded b.addr) = true) :
    matrixBurst b g s = (matrixError b.master 6 true b.addr (burstGranted b g.delivered tg c s)).setFlight b.master none := by
  have haddr := lt_of_targetNo ht htg
  have hguard' : (guardedMaster b.master && (burstGranted b g.delivered tg c s).guarded b.addr) = true := by
    rw [(sameTable_burstGranted _ _ _ _ _).guarded]
    exact hguard
  have hedev : (matrixError b.master 6 true b.addr (burstGranted b g.delivered tg c s)).dev ≠ .off := by
    rw [dev_of_seen matrixErrorExtent _ _ (matrixError_seen _ _ _ _ _ _ rfl) rfl, burstGranted_dev]
    exact hdev
  have heflights : (matrixError b.master 6 true b.addr (burstGranted b g.delivered tg c s)).port.flights =
      [(b.master, some (begun b g.delivered c.cycle 0))] := by
    rw [matrixError_port]
    exact burstGranted_flights hflights _
  rw [matrixBurst_of_claim (settled_of_nil hflights hweak hbad) hdev hdev hm (wellShaped_of_one haddr halign (len_of_write hwrite)) ht htg
    hflights hturns (fun h => absurd h (by omega)) (.inl hmaster), hchunk, hothers, winner_single hm, if_pos (by simp),
    flightBeats_of_error (len_of_write hwrite) _ _ (beatDo_of_protected haddr hwrite hguard' _), burstEnd_of_write hedev hwrite hmaster]
  exact settleResets_of_nil (setFlight_none_flights heflights)

end

/-- R467: a burst that a device engine issues while the write of a master that has been reset is in flight. -/
theorem matrixBurst_of_reset {f : InFlight} {bytes : List Byte} (hdev : s.dev ≠ .off) (hm : b.master = 4) (halign : b.addr % 32 = 0)
    (haddr : b.addr < 0x1000000) (hwrite : b.write = none) (hbeats : b.beats = 1) (hturns : g.turns = []) (hweak : g.weak = [])
    (hbad : g.bad = []) (hflights : s.port.flights = [(10, some f)]) (hreset : f.reset = true) (hdone : f.done = 0)
    (hfaddr : f.burst.addr < 0x1000000) (hfwrite : f.burst.write = some [(bytes, BitVec.allOnes 32)]) (hlen : bytes.length = 32)
    (hopen : s.guarded f.burst.addr = false) : matrixBurst b g s =
      (burstReset (quietPut f.burst f.delivered bytes (s.setFlight 10 none))).setFlight 4 (some (issued b g)) ∧
      (burstReset (quietPut f.burst f.delivered bytes (s.setFlight 10 none))).port.flights = [] := by
  have hv : settleResets (eccArisen g s) = burstReset (quietPut f.burst f.delivered bytes (s.setFlight 10 none)) := by
    rw [eccArisen_of_nil hweak hbad]
    exact settleResets_of_reset hflights hreset hdone hfaddr hfwrite hopen
  obtain ⟨hport, hqdev, -⟩ := quietPut_shows (b := f.burst) hlen f.delivered (s.setFlight 10 none)
  have hvflights : (burstReset (quietPut f.burst f.delivered bytes (s.setFlight 10 none))).port.flights = [] :=
    (congrArg PortSt.flights hport).trans (setFlight_none_flights hflights)
  have hvdev : (burstReset (quietPut f.burst f.delivered bytes (s.setFlight 10 none))).dev ≠ .off := fun h => hdev (hqdev.symm.trans h)
  refine ⟨?_, hvflights⟩
  rw [matrixBurst_of_idle hv hdev hvdev (by omega) (wellShaped_of_one haddr halign ((len_of_read hwrite).trans hbeats)) haddr hvflights
    (fun h => absurd h (by omega)) (.inl (by omega)), hturns, hm]
  exact settleResets_of_single (setFlight_flights hvflights _ _) rfl

theorem burstGranted_errcnt (d : Nat) (v : State) : (burstGranted b d tg c v).fg F.MTX_ERRCNT = v.fg F.MTX_ERRCNT :=
  burstGranted_fgi _ _ (by decide)

end

/-- Settles O56: a single claim is granted or waits; what the first beat does then is said once for reads and once for writes. -/
theorem burstsOfTheMatrix : Obligations.BurstsOfTheMatrix := by
  refine ⟨fun b g c tg s hdev hm ht htg halign hflights hturns hweak hbad hposted hwrite hbeats _ hwait => ?_,
    fun b g c tg k w s hdev hm ht htg halign hflights hturns hweak hbad hchunk hposted hwrite hbeats hage hothers _ hlower hgood =>
      ⟨_, rfl, ?_⟩,
    fun b g c tg s hdev hm ht htg halign hflights hturns hweak hbad hothers hchunk hposted hwrite hbeats hgood => ⟨_, rfl, ?_⟩,
    fun b g c tg k s hdev hm ht htg halign hflights hturns hweak hbad hk hothers hchunk hmaster hwrite hbeats hnone => ?_,
    fun b g c tg s hdev hm ht htg halign hflights hturns hweak hbad hothers hchunk hposted hwrite hbeats hpage hgood => ?_,
    fun b g c tg bytes s hdev hm ht htg halign hflights hturns hweak hbad hothers hchunk hmaster hwrite hlen hopen => ?_,
    fun b g c tg bytes s hdev hm ht htg halign hflights hturns hweak hbad hothers hchunk hmaster hguarded harea hwrite => ?_,
    fun b g f bytes s hdev hm halign haddr hwrite hbeats hturns hweak hbad hflights hreset hdone hfm hfalign hfaddr hfwrite hlen hopen => ?_⟩
  · have haddr := lt_of_targetNo ht htg
    have hnot : (!(c.chunk && decide (c.cycle % 16 ≠ 15)) && decide (winner tg ((b.master, c.waited) :: c.others) s = some b.master)) = false := by
      rcases hwait with hlose | ⟨hchunk, hslot⟩
      · rw [decide_eq_false hlose, Bool.and_false]
      · rw [hchunk, decide_eq_true hslot]
        rfl
    refine exec_matrixBurst ?_
    rw [matrixBurst_of_claim (settled_of_nil hflights hweak hbad) hdev hdev hm
      (wellShaped_of_one haddr halign ((len_of_read hwrite).trans hbeats)) ht htg hflights hturns hposted (.inr hwrite), hnot,
      if_neg Bool.false_ne_true]
    exact settleResets_of_single (setFlight_flights hflights b.master (begun b g.delivered c.cycle c.waited)) rfl
  · have hwin : winner tg ((b.master, c.waited) :: c.others) s = some b.master := by
      rw [hothers]
      exact winner_of_lower hm _ _ hage hlower
    obtain ⟨hburst, -, hrdata, htable, hflight, hrr⟩ := matrixBurst_of_granted_read hdev hm ht htg halign hflights hturns hweak hbad hchunk
      hposted hwrite hbeats hwin hgood
    rw [hburst]
    exact ⟨hrdata, htable, hflight, (readEnded_errcnt b _).trans (burstGranted_errcnt _ _), by rw [hrr]; exact burstGranted_rr _⟩
  · have hwin : winner tg ((b.master, c.waited) :: c.others) s = some b.master := by
      rw [hothers]
      exact winner_single hm _
    obtain ⟨hburst, -, hrdata, htable, hflight, -⟩ := matrixBurst_of_granted_read hdev hm ht htg halign hflights hturns hweak hbad hchunk
      hposted hwrite hbeats hwin hgood
    have hcount := eccMend_count b.addr (burstGranted b g.delivered tg c s)
    have hbefore : (burstGranted b g.delivered tg c s).fg F.MTX_ECCCOR = s.fg F.MTX_ECCCOR := burstGranted_fgi _ _ (by decide)
    rw [burstGranted_fab, hbefore] at hcount
    rw [hburst]
    refine ⟨hrdata, htable, (readEnded_errcnt b _).trans (burstGranted_errcnt _ _), hflight, (answered_fgi _ _ _ _ _).trans hcount, ?_⟩
    unfold readEnded
    rw [answered_fab]
    exact inBeat_eccMend _ _
  · have haddr := lt_of_targetNo ht htg
    have hv : settleResets (eccArisen g s) = s.modFab fun x => { x with badWords := [b.addr / 8 + k] } := by
      have harisen : eccArisen g s = s.modFab fun x => { x with badWords := [b.addr / 8 + k] } := by
        unfold eccArisen State.modFab
        dsimp only
        rw [hweak, hbad, hnone]
        simp
      rw [harisen]
      exact settleResets_of_nil hflights
    have hword := inBeat_word haddr halign hk
    obtain ⟨hburst, hnil⟩ := matrixBurst_of_bad_read hv hdev hdev hm ht htg halign hflights hturns hothers hchunk hmaster hwrite hbeats hword
    have hword' : inBeat b.addr (burstGranted b g.delivered tg c (s.modFab fun x => { x with badWords := [b.addr / 8 + k] })).fab.badWords =
        [b.addr / 8 + k] := by
      rw [burstGranted_fab]
      exact hword
    have hbefore : ∀ f : Fld, f.id ≠ F.MTX_WAITHWMm_CYCLES.id →
        (burstGranted b g.delivered tg c (s.modFab fun x => { x with badWords := [b.addr / 8 + k] })).fg f = s.fg f := fun f hf =>
      (burstGranted_fgi _ _ hf).trans (State.modFab_fgi _ _ _ _)
    obtain ⟨hunc, hcnt, hcause, hmst, hwr, hpend⟩ := eccFail_shows hword' (m := b.master) (by omega) (by omega)
    have hseen := eccFail_seen_in b.master b.addr false (burstGranted b g.delivered tg c (s.modFab fun x => { x with badWords := [b.addr / 8 + k] }))
    refine ⟨_, exec_matrixBurst hburst, ?_, ?_, (answered_fgi _ _ _ _ _).trans (hunc.trans (by rw [hbefore _ (by decide)])),
      (answered_fgi _ _ _ _ _).trans (hcnt.trans (by rw [hbefore _ (by decide)])), (answered_fgi _ _ _ _ _).trans hcause,
      (answered_fgi _ _ _ _ _).trans hmst, (answered_fgi _ _ _ _ _).trans hwr, ?_, State.flight_of_nil (answered_flights hnil) _⟩
    · rw [answered_table, table_of_seen _ _ _ hseen rfl, (sameTable_burstGranted _ _ _ _ _).table]
      rfl
    · unfold State.beatBad
      rw [answered_fab, fab_of_seen _ _ _ hseen rfl, hword']
      rfl
    · rw [State.pend_eq_of_fgi (fun w => answered_fgi _ _ _ _ _)]
      exact hpend
  · refine ⟨_, exec_matrixBurst (matrixBurst_of_two_beats hdev hm ht htg halign hflights hturns hweak hbad hothers hchunk hposted hwrite hbeats
      hpage hgood), flight_setFlight _ _ _, ?_, ?_⟩
    · exact (sameTable_eccMend _ _).table.trans (sameTable_burstGranted _ _ _ _ _).table
    · exact (rdata_of_seen ⟨[.fab], false, [F.MTX_ECCCOR]⟩ _ _ (eccMend_seen_in _ rfl b.addr _) rfl).trans
        (rdata_of_seen ⟨[.port], false, [F.MTX_WAITHWMm_CYCLES]⟩ _ _ (burstGranted_seen _ rfl _ _ _ _ _) rfl)
  · obtain ⟨hput, helse⟩ := tblPut_mem8 b.addr bytes (burstGranted b g.delivered tg c s)
    obtain ⟨hrepaired, hweakNone⟩ := tblPut_repairs halign hlen (burstGranted b g.delivered tg c s)
    rw [hlen] at hput helse
    refine ⟨_, exec_matrixBurst (matrixBurst_of_granted_write hdev hm ht htg halign hflights hturns hweak hbad hothers hchunk hmaster hwrite hopen),
      fun k => hput k.val k.isLt, fun a ha => (helse a ha).trans ?_, (tblPut_fgi _ _ _ _ _).trans (burstGranted_errcnt _ _), hrepaired,
      hweakNone⟩
    unfold State.mem8
    rw [(sameTable_burstGranted _ _ _ _ _).table]
  · have haddr := lt_of_targetNo ht htg
    obtain ⟨hvalid, hmst, hcause, hpend⟩ := matrixError_shows (m := b.master) (e := 6) (by omega) (by decide) true b.addr
      (burstGranted b g.delivered tg c s)
    obtain ⟨hwr, -, hcnt⟩ := matrixError_access (a := b.addr) b.master 6 true (by omega) (burstGranted b g.delivered tg c s)
    refine ⟨_, exec_matrixBurst (matrixBurst_of_protected_write hdev hm ht htg halign hflights hturns hweak hbad hothers hchunk hmaster hwrite
      (by rw [hguarded, harea]; rfl)), ?_, hcnt.trans (by rw [burstGranted_errcnt]), hcause, hvalid, hwr, hmst, hpend, flight_setFlight _ _ _⟩
    exact (table_of_seen matrixErrorExtent _ _ (matrixError_seen _ _ _ _ _ _ rfl) rfl).trans (sameTable_burstGranted _ _ _ _ _).table
  · obtain ⟨hburst, hnil⟩ := matrixBurst_of_reset hdev hm (by omega) haddr hwrite hbeats hturns hweak hbad hflights hreset hdone hfaddr hfwrite
      hlen hopen
    obtain ⟨-, -, hfgi, hmem, helse⟩ := quietPut_shows (b := f.burst) hlen f.delivered (s.setFlight 10 none)
    refine ⟨_, exec_matrixBurst hburst, ?_, ?_, ?_, fun k => hmem k.val k.isLt, helse⟩
    · unfold State.flight
      rw [setFlight_flights hnil]
      rfl
    · refine (State.fgi_bump_self (f := F.MTX_RSTCNT) (quietPut f.burst f.delivered bytes (s.setFlight 10 none)) rfl).trans ?_
      rw [hfgi]
      rfl
    · refine (State.fgi_bump_of_ne (f := F.MTX_RSTCNT) (g := F.MTX_ERRCNT) (quietPut f.burst f.delivered bytes (s.setFlight 10 none)) 0
        (by decide)).trans ?_
      rw [hfgi]
      rfl

end Sys2Proof.Machine
end

section
/-! PROOF. Frames that an Ethernet port queues, sends and announces (19, R488, R494, R495). -/
namespace Sys2Proof.Machine

section
variable {s : State} {p : Nat}

/-! ### The part of a port -/

theorem State.net_modNet (hlen : p < s.port.nets.length) (g : NetPort → NetPort) : (s.modNet p g).net p = g (s.net p) :=
  (getD_setAt_self _ _ _ _).trans (if_pos hlen)

/-- Two changes of a port that leave the same are one change of the state. -/
theorem State.modNet_congr {g h : NetPort → NetPort} (heq : g (s.net p) = h (s.net p)) : s.modNet p g = s.modNet p h := by
  unfold State.modNet
  rw [heq]

theorem State.modNet_modNet (hlen : p < s.port.nets.length) (g h : NetPort → NetPort) :
    (s.modNet p g).modNet p h = s.modNet p fun x => h (g x) := by
  have hset : setAt (s.modNet p g).port.nets p (h ((s.modNet p g).net p)) = setAt s.port.nets p (h (g (s.net p))) := by
    rw [State.net_modNet hlen, State.modNet_port]
    simp only [setAt_eq_set, List.set_set]
  unfold State.modNet at hset ⊢
  dsimp only at hset ⊢
  rw [hset]

/-- What is true of the port at reset and of what a change leaves is true of the port changed, also where the list is short. -/
theorem State.net_modNet_of {P : NetPort → Prop} {g : NetPort → NetPort} (hinit : P NetPort.init) (hg : P (g (s.net p))) :
    P ((s.modNet p g).net p) := by
  have hget : (s.modNet p g).net p = if p < s.port.nets.length then g (s.net p) else s.net p := getD_setAt_self _ _ _ _
  rw [hget]
  by_cases hlen : p < s.port.nets.length
  · rwa [if_pos hlen]
  · rw [if_neg hlen]
    unfold State.net
    rwa [List.getD_eq_default _ _ (by omega)]

/-! ### The order of transmission (R495) -/

/-- R495: a port that has no frame in flight, and none that waits. -/
structure State.NetIdle (s : State) (p : Nat) : Prop where
  flying : (s.net p).flying = none
  txq : (s.net p).txq = []
  tx : s.pen.tx = []

theorem netStart_of_flying (h : (s.net p).flying.isSome = true) : netStart p s = s := if_pos h

theorem nextFrame_of_none (htxq : (s.net p).txq = []) (htx : s.pen.tx = []) : nextFrame p s = none := by
  unfold nextFrame
  rw [htxq, htx]
  rfl

theorem netStart_of_next {f : TxFrame} {t : State} (hflying : (s.net p).flying = none) (hnext : nextFrame p s = some (f, t)) :
    netStart p s = t.modNet p fun x => { x with flying := some f, wire := s.wireOf p f } := by
  unfold netStart
  rw [hnext, hflying]
  rfl

theorem netStart_of_none (htxq : (s.net p).txq = []) (htx : s.pen.tx = []) : netStart p s = s := by
  unfold netStart
  rw [nextFrame_of_none htxq htx]
  exact ite_self _

theorem nextFrame_of_one {f : TxFrame} (htxq : (s.net p).txq = [f]) :
    nextFrame p s = some (f, s.modNet p fun x => { x with txq := [] }) := by
  unfold nextFrame
  rw [htxq]
  cases f with
  | ptp b len ts base =>
    have herase : (s.modNet p fun x => { x with txq := x.txq.erase (.ptp b len ts base) }) = s.modNet p fun x => { x with txq := [] } := by
      refine State.modNet_congr ?_
      rw [htxq, List.erase_cons_head]
    exact congrArg (fun t => some (TxFrame.ptp b len ts base, t)) herase
  | ctl b => rfl
  | penvar b => rfl

theorem State.ptpFrame_modNet_txq (hlen : p < s.port.nets.length) (l : List TxFrame) (buf len : Nat) :
    (s.modNet p fun x => { x with txq := l }).ptpFrame p buf len = s.ptpFrame p buf len := by
  unfold State.ptpFrame
  rw [State.net_modNet hlen]
  rfl

theorem State.wireOf_modNet_txq (hlen : p < s.port.nets.length) (l : List TxFrame) (f : TxFrame) :
    (s.modNet p fun x => { x with txq := l }).wireOf p f = s.wireOf p f := by
  cases f with
  | ptp buf len ts base => exact State.ptpFrame_modNet_txq hlen l buf len
  | ctl b => rfl
  | penvar b => rfl

/-- R495: what a port that has nothing to send makes of a frame queued: it is in flight. -/
theorem netQueue_of_idle {f : TxFrame} (hlen : p < s.port.nets.length) (hlink : s.flagi F.NET_STAT_LINK p = true) (hidle : s.NetIdle p) :
    netQueue p f s = s.modNet p fun x => { x with txq := [], flying := some f, wire := s.wireOf p f } := by
  obtain ⟨hflying, htxq, htx⟩ := hidle
  have hone : (s.modNet p fun x => { x with txq := x.txq ++ [f] }) = s.modNet p fun x => { x with txq := [f] } := by
    refine State.modNet_congr ?_
    rw [htxq, List.nil_append]
  have hnet := State.net_modNet hlen (s := s) (p := p) (fun x => { x with txq := [f] })
  unfold netQueue
  rw [if_pos hlink, netStart_of_none htxq htx, hone,
    netStart_of_next ((congrArg NetPort.flying hnet).trans hflying) (nextFrame_of_one (congrArg NetPort.txq hnet)),
    State.wireOf_modNet_txq hlen, State.modNet_modNet hlen, State.modNet_modNet hlen]

/-- R495: the frame in flight has been sent, and none waits. -/
theorem frameSent_of_last (hlen : p < s.port.nets.length) (htxq : (s.net p).txq = []) (htx : s.pen.tx = []) :
    frameSent p s = (s.bumpi F.NET_TXFRM p).modNet p fun x => { x with flying := none, wire := [] } := by
  have hnet := State.net_modNet (s := s.bumpi F.NET_TXFRM p) (p := p) hlen (fun x => { x with flying := none, wire := [] })
  exact netStart_of_none ((congrArg NetPort.txq hnet).trans htxq) htx

/-! ### Announcements (R488) -/

/-- The gratuitous ARP of entry 0. -/
def State.gratuitousArp (s : State) (p : Nat) : TxFrame :=
  .ctl (ethBytes s p macBroadcast 0x0806 (arpBytes 1 (s.mac p) (s.entryAddr p 0) 0 (s.entryAddr p 0)))

theorem announceOne_of_used (hused : s.ownInUse p 0 = true) : announceOne p 0 s = netQueue p (s.gratuitousArp p) s := by
  unfold announceOne
  rw [if_neg (by simp [hused])]
  rfl

theorem announce_of_link (hlink : s.flagi F.NET_STAT_LINK p = true) (keys : List Nat) :
    announce p keys s = ((keys.filter (s.ownInUse p)).foldl (fun s k => announceOne p k s) s).modNet p fun x =>
      { x with ann := x.ann ++ (keys.filter (s.ownInUse p)).flatMap fun k =>
        [Announce.mk k (add32 ((keys.filter (s.ownInUse p)).foldl (fun s k => announceOne p k s) s).frame 10000),
          Announce.mk k (add32 ((keys.filter (s.ownInUse p)).foldl (fun s k => announceOne p k s) s).frame 100000)] } :=
  if_neg (by simp [hlink])

/-- What a port remembers to announce, with the number of the ports: what no frame queued moves. -/
def State.due (s : State) (p : Nat) : List Announce × Nat := ((s.net p).ann, s.port.nets.length)

theorem State.due_modNet {g : NetPort → NetPort} (hg : ∀ x, (g x).ann = x.ann) : (s.modNet p g).due p = s.due p := by
  refine Prod.ext ?_ (setAt_length _ _ _)
  have hget : (s.modNet p g).net p = if p < s.port.nets.length then g (s.net p) else s.net p := getD_setAt_self _ _ _ _
  show ((s.modNet p g).net p).ann = _
  rw [hget]
  split
  · exact hg _
  · rfl

theorem nextFrame_due {r : TxFrame × State} (h : nextFrame p s = some r) : r.2.due p = s.due p := by
  unfold nextFrame at h
  dsimp only at h
  split at h
  · cases h
    exact State.due_modNet fun _ => rfl
  · cases h
    exact State.due_modNet fun _ => rfl
  · split at h
    · cases h
      rfl
    · cases h

theorem netStart_due : (netStart p s).due p = s.due p := by
  unfold netStart
  split
  · rfl
  split
  · rename_i f t h
    refine Eq.trans (State.due_modNet ?_) (nextFrame_due h)
    exact fun _ => rfl
  · rfl

theorem netQueue_due (f : TxFrame) : (netQueue p f s).due p = s.due p := by
  unfold netQueue
  split
  · refine netStart_due.trans (Eq.trans (State.due_modNet ?_) netStart_due)
    exact fun _ => rfl
  · rfl

theorem announceOne_due (k : Nat) : (announceOne p k s).due p = s.due p := by
  unfold announceOne
  split
  · rfl
  dsimp only
  split
  · exact netQueue_due _
  · exact netQueue_due _

theorem announced_due (l : List Nat) : ∀ s : State, (l.foldl (fun s k => announceOne p k s) s).due p = s.due p := by
  induction l with
  | nil => intro s; rfl
  | cons k l ih => exact fun s => (ih _).trans (announceOne_due k)

/-- What the frames of announcements may change. -/
def Extent.announceWork : Extent := ⟨[.pen, .port], false, [F.NET_TXDROP]⟩

theorem announced_seen (p : Nat) (l : List Nat) (s : State) :
    State.seen .announceWork (l.foldl (fun s k => announceOne p k s) s) = State.seen .announceWork s :=
  foldl_seen _ _ _ _ fun t k => announceOne_seen _ p k t (by decide)

theorem announced_frame (p : Nat) (l : List Nat) (s : State) : (l.foldl (fun s k => announceOne p k s) s).frame = s.frame :=
  frame_of_seen _ _ _ (announced_seen p l s) rfl

end

end Sys2Proof.Machine
end

section
/-! PROOF. The link of an Ethernet port, and what its MAC makes of a frame (19, R482 to R487). -/
namespace Sys2Proof.Machine

section
variable {s : State} {p : Nat}

/-! ### The link (R482, R483) -/

theorem State.flagi_fbi {f : Fld} (i : Nat) (b : Bool) (hw : f.width = 1) : (s.fbi f i b).flagi f i = b := by
  unfold State.flagi
  rw [State.fgi_fbi_self, hw]
  cases b <;> rfl

theorem State.flagi_of_seen (e : Extent) {s t : State} (f : Fld) (i : Nat) (h : State.seen e t = State.seen e s) (hf : e.r f = false) :
    t.flagi f i = s.flagi f i := State.flagi_congr _ (State.fgi_of_seen e s t f i h hf)

/-- R483: what a change of a port's link shows. -/
def linkChanged (p : Nat) (up : Bool) (s : State) : State :=
  ((s.fbi F.NET_STAT_LINK p up).fsi F.NET_STAT_LINKCHG p 1).raise (134 + p)

theorem setLink_of_same {up : Bool} (h : s.flagi F.NET_STAT_LINK p = up) : setLink p up s = s := if_pos h

theorem setLink_false_of_up (h : s.flagi F.NET_STAT_LINK p = true) : setLink p false s = dropFrames p (linkChanged p false s) := by
  unfold setLink
  rw [if_neg (by simp [h])]
  rfl

/-- R483: a link that changes shows its change; what else there is are the frames discarded. -/
theorem setLink_seen_of_change {up : Bool} (h : s.flagi F.NET_STAT_LINK p ≠ up) :
    State.seen .announceWork (setLink p up s) = State.seen .announceWork (linkChanged p up s) := by
  unfold setLink
  rw [if_neg h]
  dsimp only
  split
  · rfl
  · exact dropFrames_seen _ p _ (by decide)

theorem linkChanged_link (up : Bool) : (linkChanged p up s).flagi F.NET_STAT_LINK p = up := by
  refine (State.flagi_congr (s.fbi F.NET_STAT_LINK p up) ?_).trans (State.flagi_fbi p up rfl)
  unfold linkChanged
  rw [State.fgi_raise_of_ne _ _ _ (by decide), State.fgi_fsi_of_ne (f := F.NET_STAT_LINKCHG) (g := F.NET_STAT_LINK) _ _ _ _ (by decide)]

theorem linkChanged_chg (up : Bool) : (linkChanged p up s).fgi F.NET_STAT_LINKCHG p = 1 := by
  unfold linkChanged
  rw [State.fgi_raise_of_ne _ _ _ (by decide), State.fgi_fsi]
  rfl

theorem linkChanged_pend (up : Bool) : (linkChanged p up s).pend (134 + p) = true := State.raise_pend _ _

theorem setLink_link (up : Bool) : (setLink p up s).flagi F.NET_STAT_LINK p = up := by
  by_cases h : s.flagi F.NET_STAT_LINK p = up
  · rwa [setLink_of_same h]
  · exact (State.flagi_of_seen _ F.NET_STAT_LINK p (setLink_seen_of_change h) (by decide)).trans (linkChanged_link up)

theorem setLink_change {up : Bool} (h : s.flagi F.NET_STAT_LINK p ≠ up) :
    (setLink p up s).fgi F.NET_STAT_LINKCHG p = 1 ∧ (setLink p up s).pend (134 + p) = true := by
  have hseen := setLink_seen_of_change h
  constructor
  · exact (State.fgi_of_seen _ _ _ _ p hseen (by decide)).trans (linkChanged_chg up)
  · exact (State.pend_eq_of_fgi (fun w => State.fgi_of_seen _ _ _ _ w hseen (by decide)) _).trans (linkChanged_pend up)

theorem setLink_andone (up : Bool) : (setLink p up s).fgi F.NET_STAT_ANDONE p = s.fgi F.NET_STAT_ANDONE p :=
  State.fgi_of_seen ⟨[.seqs, .pen, .port], false, raiseFlds ++ [F.NET_STAT_LINK, F.NET_STAT_LINKCHG, F.NET_TXDROP]⟩ _ _ F.NET_STAT_ANDONE p
    (setLink_seen _ p up s (by decide)) (by decide)

/-- R495: a link that goes down discards what waits and what is in flight. -/
theorem dropFrames_idle : ((dropFrames p s).net p).txq = [] ∧ ((dropFrames p s).net p).flying = none :=
  State.net_modNet_of (s := s.addi F.NET_TXDROP p _) (g := fun x => { x with txq := [], flying := none, wire := [], ann := [] })
    (P := fun x => x.txq = [] ∧ x.flying = none) ⟨rfl, rfl⟩ ⟨rfl, rfl⟩

theorem State.anDone_iff (d : AnOffer) : s.anDone p d = true ↔ s.negotiates p = true ∧ d.ended = true ∧ d.fullDuplex = true := by
  have hpage : (anPage true false 0 0).testBit 5 = true := by decide
  unfold State.anDone State.advertises
  cases hneg : s.negotiates p with
  | false => simp
  | true => simp [hpage]

/-- R482: what makes a link come up. -/
def State.linkUp (s : State) (p : Nat) (sync : Bool) (d : AnOffer) : Bool :=
  sync && s.flag F.CKG_PLLSTAT_LOCK2 && decide (s.fgi F.NET_CFG_MODE p ≠ 0) && (s.anDone p d && sync || !s.negotiates p)

/-- A port with its negotiation and its link set. -/
def linkSet (p : Nat) (sync : Bool) (d : AnOffer) (s : State) : State :=
  setLink p (s.linkUp p sync d) (s.fbi F.NET_STAT_ANDONE p (s.anDone p d && sync))

theorem netLink_of_up (sync : Bool) (d : AnOffer) (hup : s.up = true) : netLink p sync d s =
    if (s.linkUp p sync d && !s.flagi F.NET_STAT_LINK p) = true then announce p [0, 1, 2, 3] (linkSet p sync d s) else linkSet p sync d s :=
  if_neg (by simp [hup])

theorem netLink_seen_of_up (sync : Bool) (d : AnOffer) (hup : s.up = true) :
    State.seen .announceWork (netLink p sync d s) = State.seen .announceWork (linkSet p sync d s) := by
  rw [netLink_of_up sync d hup]
  split
  · exact announce_seen _ p _ _ (by decide)
  · rfl

theorem flagi_link_fbi_andone (b : Bool) : (s.fbi F.NET_STAT_ANDONE p b).flagi F.NET_STAT_LINK p = s.flagi F.NET_STAT_LINK p :=
  State.flagi_congr _ (State.fgi_fbi_of_ne (f := F.NET_STAT_ANDONE) (g := F.NET_STAT_LINK) _ _ _ _ (by decide))

/-- R482, R483: the link and the negotiation that a port shows. -/
theorem netLink_shows (sync : Bool) (d : AnOffer) (hup : s.up = true) :
    (netLink p sync d s).flagi F.NET_STAT_LINK p = s.linkUp p sync d ∧
      (netLink p sync d s).flagi F.NET_STAT_ANDONE p = (s.anDone p d && sync) ∧
      (s.linkUp p sync d ≠ s.flagi F.NET_STAT_LINK p →
        (netLink p sync d s).fgi F.NET_STAT_LINKCHG p = 1 ∧ (netLink p sync d s).pend (134 + p) = true) := by
  have hseen := netLink_seen_of_up (p := p) sync d hup
  refine ⟨?_, ?_, fun hne => ?_⟩
  · exact (State.flagi_of_seen _ F.NET_STAT_LINK p hseen (by decide)).trans (setLink_link _)
  · exact (State.flagi_of_seen _ F.NET_STAT_ANDONE p hseen (by decide)).trans
      ((State.flagi_congr _ (setLink_andone _)).trans (State.flagi_fbi p _ rfl))
  · have hchange := setLink_change (s := s.fbi F.NET_STAT_ANDONE p (s.anDone p d && sync)) (p := p) (up := s.linkUp p sync d)
      (by rw [flagi_link_fbi_andone]; exact hne.symm)
    obtain ⟨hchg, hpend⟩ := hchange
    constructor
    · exact (State.fgi_of_seen _ _ _ _ p hseen (by decide)).trans hchg
    · exact (State.pend_eq_of_fgi (fun w => State.fgi_of_seen _ _ _ _ w hseen (by decide)) _).trans hpend

theorem netLink_of_lost (sync : Bool) (d : AnOffer) (hup : s.up = true) (hwas : s.flagi F.NET_STAT_LINK p = true)
    (hdown : s.linkUp p sync d = false) :
    netLink p sync d s = dropFrames p (linkChanged p false (s.fbi F.NET_STAT_ANDONE p (s.anDone p d && sync))) := by
  have hlink : (s.fbi F.NET_STAT_ANDONE p (s.anDone p d && sync)).flagi F.NET_STAT_LINK p = true := by
    rw [flagi_link_fbi_andone, hwas]
  rw [netLink_of_up sync d hup, if_neg (by simp [hdown])]
  unfold linkSet
  rw [hdown, setLink_false_of_up hlink]

/-! ### What the checks of the MAC read (R484 to R486) -/

/-- The fields of a port's addresses, its tag and its PTP slots. -/
def addressFlds : List Fld :=
  [F.NET_MACHI_MAC, F.NET_MACLO_MAC, F.NET_ADATAw_WORD, F.NET_ACFG_VALID, F.NET_VLAN_EN, F.NET_VLAN_PCP, F.NET_VLAN_VID,
    F.TIM_PTPCFGd_PORTS, F.TIM_PTPCFGd_TRANSPORT]

/-- Two states whose ports have the same addresses. -/
structure SameAddresses (t s : State) : Prop where
  fgi : ∀ f ∈ addressFlds, ∀ i, t.fgi f i = s.fgi f i
  auth : t.auth = s.auth

variable {t : State}

theorem sameAddresses_bumpi {f : Fld} (hf : ∀ g ∈ addressFlds, g.id ≠ f.id) (i : Nat) : SameAddresses (s.bumpi f i) s :=
  ⟨fun g hg j => State.fgi_bumpi_of_ne s i j (hf g hg), rfl⟩

theorem State.mac_of_same (h : SameAddresses t s) (p : Nat) : t.mac p = s.mac p := by
  unfold State.mac
  rw [h.fgi F.NET_MACHI_MAC (by simp [addressFlds]), h.fgi F.NET_MACLO_MAC (by simp [addressFlds])]

theorem State.entryAddr_of_same (h : SameAddresses t s) (p k : Nat) : t.entryAddr p k = s.entryAddr p k := by
  have hword : t.entryWord p k = s.entryWord p k := funext fun w => h.fgi F.NET_ADATAw_WORD (by simp [addressFlds]) _
  unfold State.entryAddr
  rw [hword, State.mac_of_same h]

theorem State.ownInUse_of_same (h : SameAddresses t s) (p k : Nat) : t.ownInUse p k = s.ownInUse p k := by
  unfold State.ownInUse State.bit
  rw [h.fgi F.NET_ACFG_VALID (by simp [addressFlds]), h.auth]

theorem State.ownKey_of_same (h : SameAddresses t s) (p : Nat) (v6 : Bool) (ip : Nat) : t.ownKey p v6 ip = s.ownKey p v6 ip := by
  unfold State.ownKey
  simp only [State.ownInUse_of_same h, State.entryAddr_of_same h]

theorem State.vlanTag_of_same (h : SameAddresses t s) (p : Nat) : t.vlanTag p = s.vlanTag p := by
  unfold State.vlanTag
  rw [h.fgi F.NET_VLAN_PCP (by simp [addressFlds]), h.fgi F.NET_VLAN_VID (by simp [addressFlds])]

theorem ethBytes_of_same (h : SameAddresses t s) (p dst etype : Nat) (b : List Byte) : ethBytes t p dst etype b = ethBytes s p dst etype b := by
  unfold ethBytes
  rw [State.flagi_congr _ (h.fgi F.NET_VLAN_EN (by simp [addressFlds]) p), State.vlanTag_of_same h, State.mac_of_same h]

theorem State.acceptsMac_of_same (h : SameAddresses t s) (p dst : Nat) : t.acceptsMac p dst = s.acceptsMac p dst := by
  unfold State.acceptsMac State.ptpOn State.bit
  simp only [State.mac_of_same h, State.ownInUse_of_same h, State.entryAddr_of_same h,
    h.fgi F.TIM_PTPCFGd_PORTS (by simp [addressFlds]), h.fgi F.TIM_PTPCFGd_TRANSPORT (by simp [addressFlds])]

theorem sameAddresses_modNet (p : Nat) (g : NetPort → NetPort) : SameAddresses (s.modNet p g) s := ⟨fun _ _ _ => rfl, rfl⟩

end

end Sys2Proof.Machine
end

section
/-! PROOF. Frames that a port receives, and the address resolution it answers (19, R484 to R487). -/
namespace Sys2Proof.Machine

/-! ### Fields of a frame -/

theorem leNat_append (a b : List Byte) : leNat (a ++ b) = leNat a + 256 ^ a.length * leNat b := by
  induction a with
  | nil => simp [leNat]
  | cons x a ih =>
    rw [List.cons_append, List.length_cons, pow_succ]
    simp only [leNat]
    rw [ih]
    ring

theorem beNat_append (a b : List Byte) : beNat (a ++ b) = beNat a * 256 ^ b.length + beNat b := by
  unfold beNat
  rw [List.reverse_append, leNat_append, List.length_reverse]
  ring

theorem slice_length (l : List Byte) (o n : Nat) : (slice l o n).length = n := by
  unfold slice
  simp

/-- A field byte by byte: past the end the bytes are zero. -/
theorem slice_eq_ofFn (l : List Byte) (o n : Nat) : slice l o n = List.ofFn fun i : Fin n => l.getD (o + i) 0 := by
  unfold slice
  refine List.ext_getElem (by simp) fun i h1 h2 => ?_
  have hi : i < n := by simpa using h2
  simp only [List.getElem_append, List.getElem_ofFn, List.length_take, List.length_drop]
  split
  · rw [List.getElem_take, List.getElem_drop, List.getD_eq_getElem _ _ (by omega)]
  · rw [List.getElem_replicate, List.getD_eq_default _ _ (by omega)]

theorem slice_add (l : List Byte) (o m n : Nat) : slice l o (m + n) = slice l o m ++ slice l (o + m) n := by
  simp only [slice_eq_ofFn, List.ofFn_add, Fin.val_natAdd, Nat.add_assoc, Fin.val_castLE]

theorem beAt_add (l : List Byte) (o m n : Nat) : beAt l o (m + n) = beAt l o m * 256 ^ n + beAt l (o + m) n := by
  unfold beAt
  rw [slice_add, beNat_append, slice_length]

theorem beAt_lt (l : List Byte) (o n : Nat) : beAt l o n < 256 ^ n := by
  have hlt := leNat_lt (slice l o n).reverse
  rwa [List.length_reverse, slice_length] at hlt

theorem beAt_drop (l : List Byte) (k o n : Nat) : beAt (l.drop k) o n = beAt l (k + o) n := by
  unfold beAt slice
  rw [List.drop_drop]

theorem ethParts_dst (b : List Byte) : (ethParts b).dst = beAt b 0 6 := by
  unfold ethParts
  split <;> rfl

theorem ethParts_of_untagged {b : List Byte} (h : beAt b 12 2 ≠ 0x8100) :
    ethParts b = ⟨beAt b 0 6, beAt b 6 6, none, beAt b 12 2, b.drop 14⟩ := if_neg h

/-- R487: the EtherType of an ARP packet, with the types that its first six bytes name. -/
theorem arp_types {b : List Byte} (h : beAt b 12 8 = 0x0806000108000604) : beAt b 12 2 = 0x0806 ∧ beAt b 14 6 = 0x000108000604 := by
  have hsplit : beAt b 12 8 = beAt b 12 2 * 256 ^ 6 + beAt b 14 6 := beAt_add b 12 2 6
  have hlt := beAt_lt b 14 6
  omega

section
variable {s t : State} {p : Nat} {x : EthFrame}

/-! ### The checks of the MAC (R484) -/

theorem frameReceive_of_badFcs (hup : s.up = true) (hlink : s.flagi F.NET_STAT_LINK p = true) (hfcs : x.fcsOk = false) :
    frameReceive p x s = s.bumpi F.NET_FCSERR p := by
  unfold frameReceive
  rw [if_neg (by simp [hup, hlink])]
  exact if_pos hfcs

theorem frameReceive_of_short (hup : s.up = true) (hlink : s.flagi F.NET_STAT_LINK p = true) (hfcs : x.fcsOk = true)
    (hlen : x.bytes.length + 4 < 64) : frameReceive p x s = s.bumpi F.NET_LENERR p := by
  unfold frameReceive
  rw [if_neg (by simp [hup, hlink])]
  dsimp only
  rw [if_neg (by simp [hfcs]), if_pos (.inl hlen)]

/-- R484: a frame with a good FCS and a length that fits, tagged or not, is judged by its destination, then by its tag. -/
theorem frameReceive_of_good (hup : s.up = true) (hlink : s.flagi F.NET_STAT_LINK p = true) (hfcs : x.fcsOk = true)
    (hmin : 64 ≤ x.bytes.length + 4) (hmax : x.bytes.length + 4 ≤ 1518) : frameReceive p x s =
      if (s.bumpi F.NET_RXFRM p).acceptsMac p (ethParts x.bytes).dst = false then (s.bumpi F.NET_RXFRM p).bumpi F.NET_ADDRDROP p
      else if (s.bumpi F.NET_RXFRM p).acceptsTag p (ethParts x.bytes) = false then (s.bumpi F.NET_RXFRM p).bumpi F.NET_VLANDROP p
      else bodyReceive p (ethParts x.bytes) x (s.bumpi F.NET_RXFRM p) := by
  have hfits : ¬(x.bytes.length + 4 < 64 ∨ (if (ethParts x.bytes).tag.isSome then 1522 else 1518) < x.bytes.length + 4) := by
    split <;> omega
  unfold frameReceive
  rw [if_neg (by simp [hup, hlink])]
  dsimp only
  rw [if_neg (by simp [hfcs]), if_neg hfits]

theorem addressFlds_ne_rxfrm : ∀ g ∈ addressFlds, g.id ≠ F.NET_RXFRM.id := by
  simp only [addressFlds, List.forall_mem_cons]
  decide

theorem frameReceive_of_notMine (hup : s.up = true) (hlink : s.flagi F.NET_STAT_LINK p = true) (hfcs : x.fcsOk = true)
    (hmin : 64 ≤ x.bytes.length + 4) (hmax : x.bytes.length + 4 ≤ 1518) (hmac : s.acceptsMac p (beAt x.bytes 0 6) = false) :
    frameReceive p x s = (s.bumpi F.NET_RXFRM p).bumpi F.NET_ADDRDROP p := by
  rw [frameReceive_of_good hup hlink hfcs hmin hmax, ethParts_dst,
    State.acceptsMac_of_same (sameAddresses_bumpi addressFlds_ne_rxfrm p), if_pos hmac]

/-! ### ARP (R487) -/

/-- What a claim of an own address may change. -/
def Extent.claimWork : Extent := ⟨[.seqs], false, F.NET_STAT_ADDRCONF :: raiseFlds⟩

theorem addressFlds_claimed : ∀ g ∈ addressFlds, Extent.claimWork.r g = false := by
  simp only [addressFlds, List.forall_mem_cons]
  decide

/-- R487: a request for an own address is answered after the claim of its sender has been judged. -/
theorem arpReceive_of_request {e : EthParts} (htypes : beAt e.body 0 6 = 0x000108000604) (hop : beAt e.body 6 2 = 1)
    (hown : (s.ownKey p false (beAt e.body 24 4)).isSome = true) :
    ∃ u, State.seen .claimWork u = State.seen .claimWork s ∧ arpReceive p e s =
      netQueue p (.ctl (ethBytes s p e.src 0x0806 (arpBytes 2 (s.mac p) (beAt e.body 24 4) (beAt e.body 8 6) (beAt e.body 14 4)))) u := by
  have hseen := claimSeen_seen .claimWork p false (beAt e.body 14 4) (beAt e.body 8 6) s (by decide)
  have hsame : SameAddresses (claimSeen p false (beAt e.body 14 4) (beAt e.body 8 6) s) s :=
    ⟨fun f hf i => State.fgi_of_seen _ _ _ f i hseen (addressFlds_claimed f hf), auth_of_seen _ _ _ hseen rfl⟩
  refine ⟨_, hseen, ?_⟩
  unfold arpReceive
  dsimp only
  rw [if_neg (not_not_intro htypes), if_pos ⟨hop, by rwa [State.ownKey_of_same hsame]⟩, ethBytes_of_same hsame, State.mac_of_same hsame]

theorem State.ownKey_entry0 (hvalid : s.bit F.NET_ACFG_VALID p 0 = true) : (s.ownKey p false (s.entryAddr p 0)).isSome = true := by
  have hused : s.ownInUse p 0 = true := by
    unfold State.ownInUse
    rw [hvalid]
    rfl
  unfold State.ownKey
  rw [show versionKeys false = [0, 2] from rfl, List.find?_cons_of_pos (by simp [hused])]
  rfl

theorem State.acceptsTag_of_none {e : EthParts} (htag : e.tag = none) (hvlan : s.flagi F.NET_VLAN_EN p = false) :
    s.acceptsTag p e = true := by
  unfold State.acceptsTag
  rw [htag, hvlan]
  rfl

theorem State.acceptsMac_broadcast : s.acceptsMac p macBroadcast = true := by
  unfold State.acceptsMac
  simp

/-- R487: an ARP request for the address of entry 0, received by a port that is idle. -/
theorem frameReceive_of_arp (hup : s.up = true) (hlink : s.flagi F.NET_STAT_LINK p = true) (hfcs : x.fcsOk = true)
    (hmin : 64 ≤ x.bytes.length + 4) (hmax : x.bytes.length + 4 ≤ 1518) (hdst : beAt x.bytes 0 6 = macBroadcast)
    (htypes : beAt x.bytes 12 8 = 0x0806000108000604) (hop : beAt x.bytes 20 2 = 1) (hvlan : s.flagi F.NET_VLAN_EN p = false)
    (hvalid : s.bit F.NET_ACFG_VALID p 0 = true) (htarget : beAt x.bytes 38 4 = s.entryAddr p 0) :
    ∃ u, State.seen .claimWork u = State.seen .claimWork (s.bumpi F.NET_RXFRM p) ∧ frameReceive p x s =
      netQueue p (.ctl (ethBytes s p (beAt x.bytes 6 6) 0x0806
        (arpBytes 2 (s.mac p) (s.entryAddr p 0) (beAt x.bytes 22 6) (beAt x.bytes 28 4)))) u := by
  obtain ⟨hetype, hbody⟩ := arp_types htypes
  have hsame : SameAddresses (s.bumpi F.NET_RXFRM p) s := sameAddresses_bumpi addressFlds_ne_rxfrm p
  have hparts := ethParts_of_untagged (b := x.bytes) (by omega)
  have htag : (s.bumpi F.NET_RXFRM p).acceptsTag p (ethParts x.bytes) = true :=
    State.acceptsTag_of_none (by rw [hparts]) ((State.flagi_congr _ (hsame.fgi F.NET_VLAN_EN (by simp [addressFlds]) p)).trans hvlan)
  have hreceive : frameReceive p x s = arpReceive p ⟨beAt x.bytes 0 6, beAt x.bytes 6 6, none, 0x0806, x.bytes.drop 14⟩
      (s.bumpi F.NET_RXFRM p) := by
    rw [frameReceive_of_good hup hlink hfcs hmin hmax, ethParts_dst, hdst, State.acceptsMac_broadcast, if_neg (by decide),
      htag, if_neg (by decide), hparts, hetype, hdst]
    rfl
  have hown : ((s.bumpi F.NET_RXFRM p).ownKey p false (beAt (x.bytes.drop 14) 24 4)).isSome = true := by
    rw [beAt_drop, htarget, State.ownKey_of_same hsame]
    exact State.ownKey_entry0 hvalid
  obtain ⟨u, hseen, hanswer⟩ := arpReceive_of_request (p := p) (s := s.bumpi F.NET_RXFRM p)
    (e := ⟨beAt x.bytes 0 6, beAt x.bytes 6 6, none, 0x0806, x.bytes.drop 14⟩) ((beAt_drop _ _ _ _).trans hbody)
    ((beAt_drop _ _ _ _).trans hop) hown
  refine ⟨u, hseen, ?_⟩
  rw [hreceive, hanswer, ethBytes_of_same hsame, State.mac_of_same hsame]
  simp only [beAt_drop, Nat.reduceAdd, htarget]

end

end Sys2Proof.Machine
end

section
/-! PROOF. What each row of an Ethernet port leaves (19, R482 to R495) (O58). -/
namespace Sys2Proof.Machine

section
variable {s t : State} {p : Nat}

theorem State.NetIdle.of_same (h : s.NetIdle p) (hport : t.port = s.port) (hpen : t.pen = s.pen) : t.NetIdle p where
  flying := by unfold State.net; rw [hport]; exact h.flying
  txq := by unfold State.net; rw [hport]; exact h.txq
  tx := by rw [hpen]; exact h.tx

/-! ### Link (R482, R483) -/

/-- What makes a link come up, where `n` says that it negotiates and `e` how the negotiation ended. -/
theorem linkUp_logic {y l m n e : Prop} : ((y ∧ l) ∧ m) ∧ ((n ∧ e) ∧ y ∨ ¬n) ↔ y ∧ l ∧ m ∧ (n → e) := by
  by_cases hn : n
  · simp only [hn, true_and, not_true_eq_false, or_false, true_implies]
    exact ⟨fun ⟨⟨⟨hy, hl⟩, hm⟩, he, _⟩ => ⟨hy, hl, hm, he⟩, fun ⟨hy, hl, hm, he⟩ => ⟨⟨⟨hy, hl⟩, hm⟩, he, hy⟩⟩
  · simp [hn, and_assoc]

theorem netLink_clause (sync : Bool) (d : AnOffer) (hup : s.up = true) : ∃ t, netLink p sync d s = t ∧
    let neg := s.fgi F.NET_CFG_MODE p = 1 ∧ s.flagi F.NET_CFG_AN p = true;
    let up := sync = true ∧ s.flag F.CKG_PLLSTAT_LOCK2 = true ∧ s.fgi F.NET_CFG_MODE p ≠ 0 ∧ (neg → d.ended = true ∧ d.fullDuplex = true);
    (t.flagi F.NET_STAT_LINK p = true ↔ up) ∧
    (t.flagi F.NET_STAT_ANDONE p = true ↔ neg ∧ sync = true ∧ d.ended = true ∧ d.fullDuplex = true) ∧
    (t.flagi F.NET_STAT_LINK p ≠ s.flagi F.NET_STAT_LINK p → t.fgi F.NET_STAT_LINKCHG p = 1 ∧ t.pend (134 + p) = true) ∧
    (s.flagi F.NET_STAT_LINK p = true → ¬up → (t.net p).txq = [] ∧ (t.net p).flying = none) := by
  refine ⟨_, rfl, ?_⟩
  intro neg up
  obtain ⟨hlink, handone, hchange⟩ := netLink_shows (p := p) sync d hup
  have hneg : s.negotiates p = true ↔ neg := by simp [State.negotiates, neg]
  have hupIff : s.linkUp p sync d = true ↔ up := by
    have hdone := State.anDone_iff (s := s) (p := p) d
    rw [hneg] at hdone
    unfold State.linkUp
    simp only [Bool.and_eq_true, Bool.or_eq_true, Bool.not_eq_true', ← Bool.not_eq_true, hneg, hdone, decide_eq_true_eq, up]
    exact linkUp_logic
  refine ⟨by rw [hlink, hupIff], ?_, fun hne => hchange (by rwa [hlink] at hne), fun hwas hdown => ?_⟩
  · rw [handone, Bool.and_eq_true, State.anDone_iff, hneg]
    exact ⟨fun ⟨⟨hn, he⟩, hy⟩ => ⟨hn, hy, he⟩, fun ⟨hn, hy, he⟩ => ⟨⟨hn, he⟩, hy⟩⟩
  · rw [netLink_of_lost sync d hup hwas (by rwa [← Bool.not_eq_true, hupIff])]
    exact dropFrames_idle

theorem netAnrst_shows (hneg : s.negotiates p = true) : (netAnrst p s).flagi F.NET_STAT_LINK p = false ∧
    (netAnrst p s).fgi F.NET_STAT_ANDONE p = 0 ∧ (s.flagi F.NET_STAT_LINK p = true →
      (netAnrst p s).fgi F.NET_STAT_LINKCHG p = 1 ∧ (netAnrst p s).pend (134 + p) = true ∧ ((netAnrst p s).net p).txq = []) := by
  have heq : netAnrst p s = setLink p false (s.fsi F.NET_STAT_ANDONE p 0) := if_pos hneg
  have hsame : (s.fsi F.NET_STAT_ANDONE p 0).flagi F.NET_STAT_LINK p = s.flagi F.NET_STAT_LINK p :=
    State.flagi_congr _ (State.fgi_fsi_of_ne (f := F.NET_STAT_ANDONE) (g := F.NET_STAT_LINK) _ _ _ _ (by decide))
  have handone : (setLink p false (s.fsi F.NET_STAT_ANDONE p 0)).fgi F.NET_STAT_ANDONE p = 0 :=
    (setLink_andone false).trans (State.fgi_fsi _ _ _ _)
  rw [heq]
  refine ⟨setLink_link false, handone, fun hwas => ?_⟩
  obtain ⟨hchg, hpend⟩ := setLink_change (up := false) (by rw [hsame, hwas]; decide)
  refine ⟨hchg, hpend, ?_⟩
  rw [setLink_false_of_up (hsame.trans hwas)]
  exact dropFrames_idle.1

/-! ### Frames queued (R487, R488, R494) -/

variable {f : TxFrame}

/-- R495: what a frame queued by an idle port shows. -/
theorem netQueue_shows (hlen : p < s.port.nets.length) (hlink : s.flagi F.NET_STAT_LINK p = true) (hidle : s.NetIdle p) :
    ((netQueue p f s).net p).flying = some f ∧ ((netQueue p f s).net p).txq = [] ∧ ((netQueue p f s).net p).wire = s.wireOf p f ∧
      ((netQueue p f s).net p).ann = (s.net p).ann ∧ (netQueue p f s).regs = s.regs := by
  rw [netQueue_of_idle hlen hlink hidle, State.net_modNet hlen]
  exact ⟨rfl, rfl, rfl, rfl, rfl⟩

theorem arp_clause {x : EthFrame} (hup : s.up = true) (hlink : s.flagi F.NET_STAT_LINK p = true) (hfcs : x.fcsOk = true)
    (hmin : 64 ≤ x.bytes.length + 4) (hmax : x.bytes.length + 4 ≤ 1518) (hdst : beAt x.bytes 0 6 = macBroadcast)
    (htypes : beAt x.bytes 12 8 = 0x0806000108000604) (hop : beAt x.bytes 20 2 = 1) (hvlan : s.flagi F.NET_VLAN_EN p = false)
    (hvalid : s.bit F.NET_ACFG_VALID p 0 = true) (htarget : beAt x.bytes 38 4 = s.entryAddr p 0) (hidle : s.NetIdle p)
    (hlen : p < s.port.nets.length) :
    ((frameReceive p x s).net p).flying = some (.ctl (ethBytes s p (beAt x.bytes 6 6) 0x0806
      (arpBytes 2 (s.mac p) (s.entryAddr p 0) (beAt x.bytes 22 6) (beAt x.bytes 28 4)))) ∧ ((frameReceive p x s).net p).txq = [] ∧
      (frameReceive p x s).fgi F.NET_RXFRM p = Nat.min (s.fgi F.NET_RXFRM p + 1) (2 ^ 32 - 1) := by
  obtain ⟨u, hseen, heq⟩ := frameReceive_of_arp hup hlink hfcs hmin hmax hdst htypes hop hvlan hvalid htarget
  have hport : u.port = s.port := (port_of_seen _ _ _ hseen rfl).trans (State.bumpi_port _ _ _)
  have hpen : u.pen = s.pen := (pen_of_seen _ _ _ hseen rfl).trans rfl
  have hulink : u.flagi F.NET_STAT_LINK p = true := by
    rw [State.flagi_of_seen _ F.NET_STAT_LINK p hseen (by decide), ← hlink]
    exact State.flagi_congr _ (State.fgi_bumpi_of_ne (f := F.NET_RXFRM) (g := F.NET_STAT_LINK) _ _ _ (by decide))
  have hrxfrm : u.fgi F.NET_RXFRM p = Nat.min (s.fgi F.NET_RXFRM p + 1) (2 ^ 32 - 1) :=
    (State.fgi_of_seen _ _ _ _ p hseen (by decide)).trans (State.fgi_bumpi_self _ _ rfl)
  obtain ⟨hflying, htxq, -, -, hregs⟩ := netQueue_shows (s := u) (p := p)
    (f := .ctl (ethBytes s p (beAt x.bytes 6 6) 0x0806 (arpBytes 2 (s.mac p) (s.entryAddr p 0) (beAt x.bytes 22 6) (beAt x.bytes 28 4))))
    (by rwa [hport]) hulink (hidle.of_same hport hpen)
  rw [heq]
  refine ⟨hflying, htxq, ?_⟩
  rw [← hrxfrm]
  exact State.fgi_congr hregs F.NET_RXFRM p

theorem announce_ann (hlen : p < s.port.nets.length) (hlink : s.flagi F.NET_STAT_LINK p = true) (keys : List Nat) :
    ((announce p keys s).net p).ann = (s.net p).ann ++ (keys.filter (s.ownInUse p)).flatMap fun k =>
      [⟨k, add32 s.frame 10000⟩, ⟨k, add32 s.frame 100000⟩] := by
  have hdue := announced_due (p := p) (keys.filter (s.ownInUse p)) s
  have hann := congrArg Prod.fst hdue
  have hlength := congrArg Prod.snd hdue
  simp only [State.due] at hann hlength
  rw [announce_of_link hlink, State.net_modNet (by rwa [hlength]), announced_frame]
  dsimp only
  rw [hann]

/-- R488: entry 0 alone announced by an idle port. -/
theorem announce_frame (hlen : p < s.port.nets.length) (hlink : s.flagi F.NET_STAT_LINK p = true) (hidle : s.NetIdle p)
    (hused : [0, 1, 2, 3].filter (s.ownInUse p) = [0]) :
    ((announce p [0, 1, 2, 3] s).net p).flying = some (s.gratuitousArp p) := by
  have hown : s.ownInUse p 0 = true := (List.mem_filter.mp (hused ▸ List.mem_singleton.mpr rfl : 0 ∈ [0, 1, 2, 3].filter (s.ownInUse p))).2
  obtain ⟨hflying, -⟩ := netQueue_shows (f := s.gratuitousArp p) hlen hlink hidle
  have hlength : p < (netQueue p (s.gratuitousArp p) s).port.nets.length := by
    show p < ((netQueue p (s.gratuitousArp p) s).due p).2
    rw [netQueue_due]
    exact hlen
  rw [announce_of_link hlink, hused, List.foldl_cons, List.foldl_nil, announceOne_of_used hown, State.net_modNet hlength]
  exact hflying

theorem State.gratuitousArp_of_same (h : SameAddresses t s) : t.gratuitousArp p = s.gratuitousArp p := by
  unfold State.gratuitousArp
  rw [ethBytes_of_same h, State.mac_of_same h, State.entryAddr_of_same h]

/-- R488: the one repeat of entry 0 that is due is sent, and the others stay. -/
theorem announceDue_of_one {r : List Announce} (hown : s.ownInUse p 0 = true) (hann : (s.net p).ann = ⟨0, s.coming⟩ :: r)
    (hrest : ∀ a ∈ r, a.due ≠ s.coming) :
    announceDue p s = netQueue p (s.gratuitousArp p) (s.modNet p fun x => { x with ann := r }) := by
  have hdue : (s.net p).ann.filter (fun a => decide (a.due = s.coming)) = [⟨0, s.coming⟩] := by
    rw [hann, List.filter_cons_of_pos (by simp), List.filter_eq_nil_iff.mpr (by simpa using hrest)]
  have hleft : (s.modNet p fun x => { x with ann := x.ann.filter fun a => decide (a.due ≠ s.coming) }) =
      s.modNet p fun x => { x with ann := r } := by
    refine State.modNet_congr ?_
    rw [hann, List.filter_cons_of_neg (by simp), List.filter_eq_self.mpr (by simpa using hrest)]
  have hsame : SameAddresses (s.modNet p fun x => { x with ann := r }) s := sameAddresses_modNet p _
  unfold announceDue
  rw [hdue, hleft]
  exact (announceOne_of_used ((State.ownInUse_of_same hsame p 0).trans hown)).trans
    (congrArg (fun f => netQueue p f _) (State.gratuitousArp_of_same hsame))

theorem announceDue_shows {r : List Announce} (hlen : p < s.port.nets.length) (hlink : s.flagi F.NET_STAT_LINK p = true)
    (hidle : s.NetIdle p) (hown : s.ownInUse p 0 = true) (hann : (s.net p).ann = ⟨0, s.coming⟩ :: r) (hrest : ∀ a ∈ r, a.due ≠ s.coming) :
    ((announceDue p s).net p).flying = some (s.gratuitousArp p) ∧ ((announceDue p s).net p).ann = r := by
  have hnet := State.net_modNet hlen (s := s) (p := p) fun x => { x with ann := r }
  have hidle' : (s.modNet p fun x => { x with ann := r }).NetIdle p :=
    ⟨(congrArg NetPort.flying hnet).trans hidle.flying, (congrArg NetPort.txq hnet).trans hidle.txq, hidle.tx⟩
  obtain ⟨hflying, -, -, hleft, -⟩ := netQueue_shows (f := s.gratuitousArp p)
    (s := s.modNet p fun x => { x with ann := r }) (by rwa [State.modNet_port, setAt_length]) hlink hidle'
  rw [announceDue_of_one hown hann hrest]
  exact ⟨hflying, hleft.trans (congrArg NetPort.ann hnet)⟩

/-! ### PTP buffers (R494) -/

theorem ptxGo_of_bad (h : (s.net p).flies (s.fgi F.NET_PTXCMD_BUF p) = true ∨ s.fgi F.NET_PTXCMD_LEN p < 14 ∨ 256 < s.fgi F.NET_PTXCMD_LEN p) :
    ptxGo p s = s.fsi F.NET_PTXSTAT_ERR p 1 := if_pos h

theorem ptxGo_of_idle (hmin : 14 ≤ s.fgi F.NET_PTXCMD_LEN p) (hmax : s.fgi F.NET_PTXCMD_LEN p ≤ 256) (hidle : s.NetIdle p) :
    ptxGo p s = netQueue p (.ptp (s.fgi F.NET_PTXCMD_BUF p) (s.fgi F.NET_PTXCMD_LEN p) (s.flagi F.NET_PTXCMD_TS p)
      (s.fgi F.NET_PTXCMD_SLOT p % 3)) s := by
  have hfree : (s.net p).flies (s.fgi F.NET_PTXCMD_BUF p) = false := by
    unfold NetPort.flies
    rw [hidle.flying, hidle.txq]
    rfl
  refine if_neg ?_
  rw [hfree]
  simp only [Bool.false_eq_true, false_or]
  omega

/-- R494: a PTP frame sent with its timestamp wanted. -/
def ptpStamped (p b ts : Nat) (s : State) : State :=
  ((s.modNet p fun x => { x with ts := ts }).fsi F.NET_PTXSTAT_TSVALID p 1).fsi F.NET_PTXSTAT_TSBUF p b

theorem ptpSent_of_wanted {cycle frac b len base : Nat} (hlen : p < s.port.nets.length)
    (hflying : (s.net p).flying = some (.ptp b len true base)) (htxq : (s.net p).txq = []) (htx : s.pen.tx = []) :
    ptpSent p cycle frac s = ((ptpStamped p b (s.stamp base cycle frac (corr10ps (s.fgi F.NET_TSCORR_TX p))) s).bumpi F.NET_TXFRM p).modNet p
      fun x => { x with flying := none, wire := [] } := by
  have hnet := State.net_modNet hlen (s := s) (p := p) fun x => { x with ts := s.stamp base cycle frac (corr10ps (s.fgi F.NET_TSCORR_TX p)) }
  unfold ptpSent
  rw [netStart_of_flying (by simp [hflying])]
  dsimp only
  rw [hflying]
  refine frameSent_of_last (s := ptpStamped p b _ s) ?_ ((congrArg NetPort.txq hnet).trans htxq) htx
  exact (setAt_length _ _ _).symm ▸ hlen

/-- R492, R494: what a PTP frame sent with its timestamp leaves. -/
theorem ptpStamped_shows {b : Nat} (hlen : p < s.port.nets.length) (hb : b < 4) (ts : Nat) :
    ((((ptpStamped p b ts s).bumpi F.NET_TXFRM p).modNet p fun x => { x with flying := none, wire := [] }).net p).flying = none ∧
    ((((ptpStamped p b ts s).bumpi F.NET_TXFRM p).modNet p fun x => { x with flying := none, wire := [] }).net p).wire = [] ∧
    ((((ptpStamped p b ts s).bumpi F.NET_TXFRM p).modNet p fun x => { x with flying := none, wire := [] }).net p).ts = ts ∧
    ((ptpStamped p b ts s).bumpi F.NET_TXFRM p).fgi F.NET_PTXSTAT_TSVALID p = 1 ∧
    ((ptpStamped p b ts s).bumpi F.NET_TXFRM p).fgi F.NET_PTXSTAT_TSBUF p = b ∧
    ((ptpStamped p b ts s).bumpi F.NET_TXFRM p).fgi F.NET_TXFRM p = Nat.min (s.fgi F.NET_TXFRM p + 1) (2 ^ 32 - 1) := by
  have hlength : p < ((ptpStamped p b ts s).bumpi F.NET_TXFRM p).port.nets.length := (setAt_length _ _ _).symm ▸ hlen
  have hts : (((ptpStamped p b ts s).bumpi F.NET_TXFRM p).net p).ts = ts :=
    congrArg NetPort.ts (State.net_modNet hlen (s := s) (p := p) fun x => { x with ts := ts })
  rw [State.net_modNet hlength]
  refine ⟨rfl, rfl, hts, ?_, ?_, ?_⟩
  · simp (disch := decide) [ptpStamped, State.fgi_fsi]
  · have hwidth : b % 2 ^ F.NET_PTXSTAT_TSBUF.width = b := Nat.mod_eq_of_lt hb
    simp (disch := decide) [ptpStamped, State.fgi_fsi, hwidth]
  · simp (disch := decide) [ptpStamped]

theorem otherSent_of_ctl {bs : List Byte} (hlen : p < s.port.nets.length) (hflying : (s.net p).flying = some (.ctl bs))
    (htxq : (s.net p).txq = []) (htx : s.pen.tx = []) :
    otherSent p s = (s.bumpi F.NET_TXFRM p).modNet p fun x => { x with flying := none, wire := [] } := by
  unfold otherSent
  rw [netStart_of_flying (by simp [hflying])]
  dsimp only
  rw [hflying]
  exact frameSent_of_last hlen htxq htx

end

end Sys2Proof.Machine
end

section
/-! PROOF. The Ethernet ports (O58). -/
namespace Sys2Proof.Machine

theorem lt_nets {s : State} (p : Fin 2) (h : s.port.nets.length = 2) : p.val < s.port.nets.length := by
  rw [h]
  exact p.isLt

/-- Settles O58: the link by its synchronisation and its negotiation, a received frame by the checks of the MAC, and a frame
queued by a port that is idle. -/
theorem theEthernetPorts : Obligations.TheEthernetPorts := by
  unfold Obligations.TheEthernetPorts
  refine ⟨fun p y d s hup => ?_, fun p x s hup hlink hfcs => ?_, fun p x s hup hlink hfcs hlen => ?_,
    fun p x s hup hlink hfcs hmin hmax hmac => ?_,
    fun p x s hup hlink hfcs hmin hmax hdst htypes hop hvlan hvalid htarget hflying htxq htx hlen => ?_,
    fun p s hlink hused hflying htxq htx hlen => ?_, fun p s hlink hlen => ?_,
    fun p r s hlink hown hann hrest hflying htxq htx hlen => ?_, fun p s hneg hlen => ?_, fun p s hneg => ?_, fun p s => rfl,
    fun p s hbad => ?_, fun p s hlink hmin hmax hflying htxq htx hlen => ?_,
    fun p c r b len base s hflying htxq htx hb hlen => ?_, fun p bs s hflying htxq htx hlen => ?_, fun p s => ?_⟩
  · obtain ⟨t, ht, hshows⟩ := netLink_clause (p := p.val) y d hup
    exact ⟨t, by rw [← ht]; rfl, hshows⟩
  · exact congrArg Host.Outcome.next (frameReceive_of_badFcs hup hlink hfcs)
  · exact congrArg Host.Outcome.next (frameReceive_of_short hup hlink hfcs hlen)
  · exact congrArg Host.Outcome.next (frameReceive_of_notMine hup hlink hfcs hmin hmax hmac)
  · exact ⟨_, rfl, arp_clause hup hlink hfcs hmin hmax hdst htypes hop hvlan hvalid htarget ⟨hflying, htxq, htx⟩ (lt_nets p hlen)⟩
  · refine ⟨_, rfl, announce_frame (lt_nets p hlen) hlink ⟨hflying, htxq, htx⟩ hused, ?_⟩
    rw [announce_ann (lt_nets p hlen) hlink, hused]
    rfl
  · exact ⟨_, rfl, announce_ann (lt_nets p hlen) hlink _⟩
  · exact ⟨_, rfl, announceDue_shows (lt_nets p hlen) hlink ⟨hflying, htxq, htx⟩ hown hann (by simpa using hrest)⟩
  · exact ⟨_, rfl, netAnrst_shows hneg⟩
  · exact congrArg Host.Outcome.next (if_neg (ne_true_of_eq_false hneg))
  · exact congrArg Host.Outcome.next (ptxGo_of_bad hbad)
  · have hidle : s.NetIdle p.val := ⟨hflying, htxq, htx⟩
    obtain ⟨hsent, hempty, hwire, -, hregs⟩ := netQueue_shows (f := .ptp (s.fgi F.NET_PTXCMD_BUF p.val) (s.fgi F.NET_PTXCMD_LEN p.val)
      (s.flagi F.NET_PTXCMD_TS p.val) (s.fgi F.NET_PTXCMD_SLOT p.val % 3)) (lt_nets p hlen) hlink hidle
    exact ⟨_, congrArg Host.Outcome.next (ptxGo_of_idle hmin hmax hidle), hsent, hempty, hregs, hwire⟩
  · obtain ⟨hnone, hwire, hts, hvalid, hbuf, hcount⟩ := ptpStamped_shows (lt_nets p hlen) hb
      (s.stamp base c.val r.val (corr10ps (s.fgi F.NET_TSCORR_TX p.val)))
    exact ⟨_, congrArg Host.Outcome.next (ptpSent_of_wanted (lt_nets p hlen) hflying htxq htx), hnone, hwire, hts, hvalid, hbuf, hcount⟩
  · refine ⟨_, congrArg Host.Outcome.next (otherSent_of_ctl (lt_nets p hlen) hflying htxq htx), ?_, State.fgi_bumpi_self s p.val rfl⟩
    rw [State.net_modNet (s := s.bumpi F.NET_TXFRM p.val) (lt_nets p hlen)]
  · exact ⟨_, rfl, rfl, (State.fgi_fsi s F.NET_TXTSF_VALUE p.val ((s.net p.val).ts % 2 ^ 32)).trans (Nat.mod_mod _ _), rfl⟩

end Sys2Proof.Machine
end
